-- ==== Sys2Proof/Word.lean ====
section
/-! DEFINITION. The plain word types of the CK7240 model: register words, engine registers,
accumulators and bytes. -/
namespace Sys2Proof

/-- A byte of NOR flash, DRAM or a frame. -/
abbrev Byte := BitVec 8
/-- A register of the fabric, and an instruction word (R13, R60). -/
abbrev Word32 := BitVec 32
/-- An engine register, a data-memory word, a commons word, a mailbox word (R41, R43, R50). -/
abbrev Word64 := BitVec 64
/-- An engine accumulator (R41). -/
abbrev Acc := BitVec 128

end Sys2Proof
end

