-- ==== Sys2Proof/Payload.lean ====
section
/-! DEFINITION. The structured operands of the commands: what the world outside the block (an edge,
a frame, a strap, a supply) brings with a command. Each structure names the rule whose inputs it
carries. -/
namespace Sys2Proof

/-- What the SECDED check of a memory word read by the command finds (R45, R46, R291). -/
inductive Ecc | ok | single | double
deriving DecidableEq, Repr

/-- The two memories of an engine (R42, R43). -/
inductive EngMem | imem | dmem
deriving DecidableEq, Repr

/-- One conversion of the seven temperature inputs (R34, R35): the six sensors in 2^-7 °C and the
thermistor ratio with 16 fraction bits. -/
structure TempReadings where
  t0 : BitVec 16
  t1 : BitVec 16
  t2 : BitVec 16
  t3 : BitVec 16
  t4 : BitVec 16
  t5 : BitVec 16
  xth : BitVec 16
deriving DecidableEq, Repr

/-- A syllabus command word's fields beside its opcode (R139): sequence, path, slot and value. -/
structure CmdWord where
  seq : BitVec 8
  path : BitVec 8
  slot : BitVec 8
  value : BitVec 32
deriving DecidableEq, Repr

/-- A timetable entry (R87, R105): whether it is in use, whether it runs only in a resume bell, its
period of `2^k` bells, its phase, its entry index and its declared WCET. -/
structure TTEntry where
  valid : Bool := false
  resume : Bool := false
  k : Nat := 0
  phase : Nat := 0
  pc : Nat := 0
  wcet : Nat := 0
deriving DecidableEq, Repr

/-- The section of one engine in an image set (R95): instruction words, initial data words, the
timetable with its declared WCET figures and the out-words bound. Unlisted instruction words are
0xFFFF_FFFF and unlisted data words 0 (R44). -/
structure EngSection where
  imem : List (Nat × Word32) := []
  dmem : List (Nat × Word64) := []
  tt : List (Nat × TTEntry) := []
  bind : List Nat := []
deriving DecidableEq, Repr

/-- An edge at the input of a role: at the pin of a slot, at a TSIN pin, or behind the feedback prescaler of an output
(R250, R252). The count of the coarse counter in 0.5 ns, the tap reached, its polarity, whether the channel's DLL error
exceeded its warning window, and count and tap at the second channel, where a swap compares two (R262). -/
structure EdgeIn where
  coarse : Nat
  tap : Fin 512
  fall : Bool
  dllWarn : Bool
  mirror : Option (Nat × Fin 512)
deriving DecidableEq, Repr

/-- A twin heartbeat (R358): sequence, PAIR_ID, ROLE, EPOCH, INELIGIBLE, CRIMSON, SAFE, DEMOTE_REQ, RESET_REQ,
the latest clock and PPS measurements in 2^-16 ns, and the sender's count of TWIN_CLK periods between its last
two PPS markers. -/
structure Heartbeat where
  seq : Nat
  pair : Nat
  role : Nat
  epoch : BitVec 16
  inel : Bool
  crimson : Bool
  safe : Bool
  demoteReq : Bool
  resetReq : Bool
  mClk : Int
  mPps : Int
  count : Nat
deriving DecidableEq, Repr

/-- A MARKER frame (R358): the marker's index, the DCO ramps of P0 to P7 and the stamps of TS0 to TS3, both in
2^-16 ns. -/
structure MarkerIn where
  idx : Nat
  ramps : List Nat
  stamps : List Nat
deriving DecidableEq, Repr

/-- The source whose next waiting record reaches its ring (R274, R282): a role or a statistics group. -/
inductive RecSource | role (c : Fin 48) | group (m : Fin 16)
deriving DecidableEq, Repr

/-- How a self-test comes out (R475 to R479): an engine's with the DETAIL of its first failure; a channel's with the
hits of its table, and the mean and the standard deviation of the intervals in 2^-16 ns; the spare APLL's with its
first failing band; the DRAM's with its failing rows. -/
inductive BistOut
  | engine (fail : Option (BitVec 24))
  | tdc (hits : List Nat) (mean sd : Int)
  | apll (band : Option (Fin 48))
  | dram (rows : List (BitVec 17))
deriving DecidableEq, Repr
/-- An access of the TAP to the register fabric (R483): a byte address, and the data where it is a write. -/
structure FabricAcc where
  addr : BitVec 24
  w : Option (BitVec 32)
deriving DecidableEq, Repr
/-- What the loader finds in an image slot beside the header and the body's bytes, which the NOR holds (R95, R459):
the sections of E0 to E15 in the body's directory, whether the set is the Standard Syllabus, whether a read
met an uncorrectable word, and the initial settings built into the set where they are not the defaults, as the command words
that would make them (R139, R141, R174). -/
structure ImageSet where
  sections : List EngSection
  standard : Bool
  badRead : Bool
  initial : List (BitVec 64) := []
deriving DecidableEq, Repr
/-- An upset in a copy of a LEG register (R409): the register, the copy and the bits that flipped. -/
structure LegUpset where
  idx : Fin 256
  copy : Fin 3
  flip : BitVec 32
deriving DecidableEq, Repr
/-- An upset in a register (R405): its address and the bits that flipped since the last scrub. -/
structure RegUpset where
  addr : BitVec 18
  flip : BitVec 32
deriving DecidableEq, Repr
/-- Which condition of the link fails (R303): a lock or the auto-negotiation that is lost already, auto-negotiation,
a local fault, or a remote fault received. -/
inductive LinkCause | lock | an | localFault | remoteFault
deriving DecidableEq, Repr
/-- What a PCIe configuration write sets (R390, R417): Bus Master Enable, MSI-X Enable, the MSI-X function mask and
D3hot, each where it is written. -/
structure PcieCfg where
  bme : Option Bool
  msixEn : Option Bool
  fmask : Option Bool
  d3 : Option Bool
deriving DecidableEq, Repr
/-- A DWORD of a posted write with its byte enables (R419). -/
structure PcieDw where
  data : BitVec 32
  be : BitVec 4
deriving DecidableEq, Repr
/-- The straps and TEST_EN as sampled when a reset is released (R354, R415, R466). -/
structure Straps where
  pair1 : Bool
  pair0 : Bool
  i2c1 : Bool
  i2c0 : Bool
  testEn : Bool
deriving DecidableEq, Repr
/-- A low pulse of RESET_N (R437): its length in ns, what the device does with one of 100 ns to 1 µs, and the
straps at its rise. -/
structure PinIn where
  ns : Nat
  taken : Bool
  straps : Straps
deriving DecidableEq, Repr
/-- The release of POR (R426): whether the power manager found a later rail up before VDDAO, and the straps. -/
structure PorIn where
  seqErr : Bool
  straps : Straps
deriving DecidableEq, Repr
/-- A queue of a port (R309). -/
inductive QueueId | tx (q : Fin 8) | rx (q : Fin 4)
deriving DecidableEq, Repr
/-- A received frame (R306, R328): its bytes with the FCS, whether a PCS code error lies
inside, the TB time at which the first bit after the SFD reached the pins, in 2^-16 ns, and the code errors and the
RS-FEC codewords, corrected and uncorrectable, that the port has met since the frame before it (R322). -/
structure RxIn where
  bytes : List (BitVec 8)
  bad : Bool
  t : Int
  codeErrs : Nat := 0
  fecCorr : Nat := 0
  fecUncorr : Nat := 0
deriving DecidableEq, Repr
/-- A SPI frame with no access (R411, R412, R414): a STATUS frame, an unknown command, or a frame that ends inside its
command or its address. -/
inductive SpiBad | none | unknown | inCommand | inAddress
deriving DecidableEq, Repr
/-- A SPI READ frame (R413): the words whose last byte began to shift, and the first word, if any, whose read was
not ready when its data was due. -/
structure SpiReadIn where
  n : Nat
  late : Option Nat
deriving DecidableEq, Repr
/-- A Sync exchange of a slave port (R348): the timestamps t1 to t4 and the correctionFields, in 2^-16 ns, and the
grandmaster's clockClass (R347). -/
structure PtpExchange where
  t1 : Int
  t2 : Int
  t3 : Int
  t4 : Int
  cSync : Int
  cFollow : Int
  cResp : Int
  gmClass : Nat
deriving DecidableEq, Repr
/-- What the device reads of a HOST queue's head (R311): the 32 bytes of its descriptor and the frame data; for a
LESSON queue it reads commons. -/
structure TxDesc where
  desc : List (BitVec 8)
  data : List (BitVec 8)
deriving DecidableEq, Repr
/-- A byte received by a UART (R241): its data, its framing and break findings, the bit in the parity position, and the TB time of its
start-bit edge in 2^-10 ns. -/
structure UartIn where
  data : BitVec 8
  framing : Bool
  parity : Bool
  brk : Bool
  t : Int
deriving DecidableEq, Repr

end Sys2Proof
end

