-- ==== Sys2Proof/Syntax.lean ====
section
/-! DEFINITION. The commands of the CK7240: one constructor per row of spec/opcode_table.json, in the
table's order. `e` is an engine (16 is the substitute), `n` a slot, port, timescale or pair, `p` a path,
`k` an APLL, spare or SA, `o` an output, `r` a ring or a rail, `m` a measurement group, `g` a trigger or
path group, `u` a UART, `ch` a TDC channel. -/
namespace Sys2Proof

/-- The commands the block takes: host accesses, events on its pins and clocks, and the instructions an
engine executes. The rule after each row's mnemonic is the one of spec/ that gives its effect. -/
inductive Instr where
  /-- DEV_CLK_START (R27). Host sets DEV.CLK_CMD.START; the device ignores it on CFG_ERR or running PLLs, otherwise computes N and starts XO detection and the TBPLL. -/
  | devClkStart
  /-- XO_START_TIMEOUT (R28). No XO_IN edge within 50 us of START: START clears, both PLLs stay off and XO_LOSS is raised. -/
  | xoStartTimeout
  /-- TBPLL_LOCK (R28). The TBPLL locks; TIME and TDC start on TBPLL clocks, DLL calibration begins and the system PLL starts. -/
  | tbpllLock
  /-- SYSPLL_LOCK (R28). The system PLL locks; islands leave their ring oscillators, START clears and DRAM zeroing begins. -/
  | syspllLock
  /-- START_FAIL_TIMEOUT (R28). A PLL has not locked 5.0 ms after START; START clears, both PLLs turn off and START_FAIL sets. -/
  | startFailTimeout
  /-- SYSPLL_LOSS (R29). System PLL loses lock; its islands move to ring oscillators, SERVO_HOLD sets and DCO words freeze. -/
  | syspllLoss
  /-- SYSPLL_RELOCK (R29). System PLL relocks; islands switch back and the 1 ms servo-hold extension starts. -/
  | syspllRelock
  /-- SERVO_HOLD_END (R29). 1 ms after system PLL relock, SERVO_HOLD clears and DCO commits resume. -/
  | servoHoldEnd
  /-- TBPLL_LOSS (R29). TBPLL loses lock; TIME and TDC move to XO_IN, bells and timescales count XO ticks and APLLs hold. -/
  | tbpllLoss
  /-- TBPLL_RELOCK (R29). TBPLL relocks; TIME switches back at an XO tick boundary without a timescale step and APLLs rejoin. -/
  | tbpllRelock
  /-- TDC_DLL_RELOCK_AFTER_TB (R29). TDC DLLs relock after a TBPLL return; COARSE and TB_ON_XO clear. -/
  | tdcDllRelockAfterTb
  /-- XO_LOSS (R29). 1 us without an XO_IN edge after the first START: XO_LOSS is raised and PLLs hold or TIME stops. -/
  | xoLoss
  /-- XO_RETURN (R29). XO_IN returns; TIME and TDC restart at its first edge with bell number and timescales continuing. -/
  | xoReturn
  /-- ISLAND_CLOCK_STOP (R21). An ETH, PCIE or TWIN island clock stops; its transfers wait until it is clocked again. -/
  | islandClockStop (i : Fin 32)
  /-- TEMP_CONVERSION (R34). Every 1 ms on the AO ring oscillator, all seven temperature inputs are converted and written to their registers. -/
  | tempConversion (t : TempReadings)
  /-- BELL (R83). Every PERIOD timescale ticks the bell sounds: in-words latch, out-words take effect, proctors check and due lessons are dispatched. -/
  | bell
  /-- STRIKE_EXPIRY (R94). A strike expires 2^STRIKE_WIN bells after it was recorded. -/
  | strikeExpiry (e : Fin 17)
  /-- ADD (R59). ALU add of two registers setting ZNCV. -/
  | eAdd (e : Fin 17) (f : Ecc) (rd : Fin 32) (rs1 : Fin 32) (rs2 : Fin 32)
  /-- SUB (R59). ALU subtract setting ZNCV. -/
  | eSub (e : Fin 17) (f : Ecc) (rd : Fin 32) (rs1 : Fin 32) (rs2 : Fin 32)
  /-- AND (R59). Bitwise AND setting ZN. -/
  | eAnd (e : Fin 17) (f : Ecc) (rd : Fin 32) (rs1 : Fin 32) (rs2 : Fin 32)
  /-- OR (R59). Bitwise OR setting ZN. -/
  | eOr (e : Fin 17) (f : Ecc) (rd : Fin 32) (rs1 : Fin 32) (rs2 : Fin 32)
  /-- XOR (R59). Bitwise XOR setting ZN. -/
  | eXor (e : Fin 17) (f : Ecc) (rd : Fin 32) (rs1 : Fin 32) (rs2 : Fin 32)
  /-- SHL (R59). Shift left by rs2[5:0]. -/
  | eShl (e : Fin 17) (f : Ecc) (rd : Fin 32) (rs1 : Fin 32) (rs2 : Fin 32)
  /-- SHR (R59). Logical shift right by rs2[5:0]. -/
  | eShr (e : Fin 17) (f : Ecc) (rd : Fin 32) (rs1 : Fin 32) (rs2 : Fin 32)
  /-- SAR (R59). Arithmetic shift right by rs2[5:0]. -/
  | eSar (e : Fin 17) (f : Ecc) (rd : Fin 32) (rs1 : Fin 32) (rs2 : Fin 32)
  /-- MIN (R59). Signed minimum of two registers. -/
  | eMin (e : Fin 17) (f : Ecc) (rd : Fin 32) (rs1 : Fin 32) (rs2 : Fin 32)
  /-- MAX (R59). Signed maximum of two registers. -/
  | eMax (e : Fin 17) (f : Ecc) (rd : Fin 32) (rs1 : Fin 32) (rs2 : Fin 32)
  /-- ADDS (R59). Saturating add setting ZN and Q. -/
  | eAdds (e : Fin 17) (f : Ecc) (rd : Fin 32) (rs1 : Fin 32) (rs2 : Fin 32)
  /-- SUBS (R59). Saturating subtract setting ZN and Q. -/
  | eSubs (e : Fin 17) (f : Ecc) (rd : Fin 32) (rs1 : Fin 32) (rs2 : Fin 32)
  /-- NEG (R59). Negate rs1 setting ZNCV. -/
  | eNeg (e : Fin 17) (f : Ecc) (rd : Fin 32) (rs1 : Fin 32)
  /-- ABS (R59). Saturating absolute value. -/
  | eAbs (e : Fin 17) (f : Ecc) (rd : Fin 32) (rs1 : Fin 32)
  /-- CLZ (R59). Count of leading zeros of rs1. -/
  | eClz (e : Fin 17) (f : Ecc) (rd : Fin 32) (rs1 : Fin 32)
  /-- CMP (R59). Sets flags of rs1 minus rs2. -/
  | eCmp (e : Fin 17) (f : Ecc) (rs1 : Fin 32) (rs2 : Fin 32)
  /-- SEL (R58). Selects rs1 or rs2 by a condition. -/
  | eSel (e : Fin 17) (f : Ecc) (rd : Fin 32) (rs1 : Fin 32) (rs2 : Fin 32) (cond : Fin 16)
  /-- RDC (R58). Reads engine cycles since the current bell. -/
  | eRdc (e : Fin 17) (f : Ecc) (rd : Fin 32)
  /-- ADDI (R58). Adds a sign-extended immediate. -/
  | eAddi (e : Fin 17) (f : Ecc) (rd : Fin 32) (rs1 : Fin 32) (imm : BitVec 16)
  /-- ANDI (R58). ANDs a zero-extended immediate. -/
  | eAndi (e : Fin 17) (f : Ecc) (rd : Fin 32) (rs1 : Fin 32) (imm : BitVec 16)
  /-- ORI (R58). ORs a zero-extended immediate. -/
  | eOri (e : Fin 17) (f : Ecc) (rd : Fin 32) (rs1 : Fin 32) (imm : BitVec 16)
  /-- XORI (R58). XORs a zero-extended immediate. -/
  | eXori (e : Fin 17) (f : Ecc) (rd : Fin 32) (rs1 : Fin 32) (imm : BitVec 16)
  /-- SHLI (R58). Shift left by an immediate. -/
  | eShli (e : Fin 17) (f : Ecc) (rd : Fin 32) (rs1 : Fin 32) (sh : Fin 64)
  /-- SHRI (R58). Logical shift right by an immediate. -/
  | eShri (e : Fin 17) (f : Ecc) (rd : Fin 32) (rs1 : Fin 32) (sh : Fin 64)
  /-- SARI (R58). Arithmetic shift right by an immediate. -/
  | eSari (e : Fin 17) (f : Ecc) (rd : Fin 32) (rs1 : Fin 32) (sh : Fin 64)
  /-- CMPI (R58). Sets flags of rs1 minus an immediate. -/
  | eCmpi (e : Fin 17) (f : Ecc) (rs1 : Fin 32) (imm : BitVec 16)
  /-- LDI (R58). Loads a sign-extended immediate. -/
  | eLdi (e : Fin 17) (f : Ecc) (rd : Fin 32) (imm : BitVec 16)
  /-- INSH (R58). Inserts a 16-bit immediate into a lane of rd. -/
  | eInsh (e : Fin 17) (f : Ecc) (rd : Fin 32) (lane : Fin 4) (imm : BitVec 16)
  /-- MUL (R61). Exact signed 128-bit product into an accumulator. -/
  | eMul (e : Fin 17) (f : Ecc) (acc : Fin 4) (rs1 : Fin 32) (rs2 : Fin 32)
  /-- MAC (R61). Saturating multiply-accumulate. -/
  | eMac (e : Fin 17) (f : Ecc) (acc : Fin 4) (rs1 : Fin 32) (rs2 : Fin 32)
  /-- MSU (R61). Saturating multiply-subtract. -/
  | eMsu (e : Fin 17) (f : Ecc) (acc : Fin 4) (rs1 : Fin 32) (rs2 : Fin 32)
  /-- ACLR (R58). Clears an accumulator. -/
  | eAclr (e : Fin 17) (f : Ecc) (acc : Fin 4)
  /-- ALD (R58). Loads a shifted register into an accumulator; sh above 64 traps ILLEGAL. -/
  | eAld (e : Fin 17) (f : Ecc) (acc : Fin 4) (rs1 : Fin 32) (sh : Fin 128)
  /-- AADD (R61). Saturating accumulator add. -/
  | eAadd (e : Fin 17) (f : Ecc) (acc : Fin 4) (acc2 : Fin 4)
  /-- ASUB (R61). Saturating accumulator subtract. -/
  | eAsub (e : Fin 17) (f : Ecc) (acc : Fin 4) (acc2 : Fin 4)
  /-- AEX (R61). Extracts a rounded, saturated 64-bit value from an accumulator. -/
  | eAex (e : Fin 17) (f : Ecc) (rd : Fin 32) (acc : Fin 4) (sh : Fin 128)
  /-- DIV (R62). Signed truncating divide in 66 cycles with fixed edge cases. -/
  | eDiv (e : Fin 17) (f : Ecc) (rd : Fin 32) (rs1 : Fin 32) (rs2 : Fin 32)
  /-- LD (R63). Loads a 64-bit data-memory word after range and alignment checks. -/
  | eLd (e : Fin 17) (f : Ecc) (rd : Fin 32) (rs1 : Fin 32) (imm : BitVec 16) (ecc : Ecc)
  /-- LDW (R63). Loads a sign-extended 32-bit data-memory word. -/
  | eLdw (e : Fin 17) (f : Ecc) (rd : Fin 32) (rs1 : Fin 32) (imm : BitVec 16) (ecc : Ecc)
  /-- ST (R63). Stores 64 bits to data memory. -/
  | eSt (e : Fin 17) (f : Ecc) (rs : Fin 32) (rs1 : Fin 32) (imm : BitVec 16)
  /-- STW (R45). Stores 32 bits by read-merge-write with ECC. -/
  | eStw (e : Fin 17) (f : Ecc) (rs : Fin 32) (rs1 : Fin 32) (imm : BitVec 16) (ecc : Ecc)
  /-- ALDM (R61). Loads an accumulator from 16-byte-aligned data memory; `ecc` is what the checks of its two words find. -/
  | eAldm (e : Fin 17) (f : Ecc) (acc : Fin 4) (rs1 : Fin 32) (imm : BitVec 16) (ecc : Ecc × Ecc)
  /-- AST (R61). Stores an accumulator as 128 bits. -/
  | eAst (e : Fin 17) (f : Ecc) (acc : Fin 4) (rs1 : Fin 32) (imm : BitVec 16)
  /-- CRD (R64). Issues a commons read into a pending register. -/
  | eCrd (e : Fin 17) (f : Ecc) (rd : Fin 32) (rs1 : Fin 32) (imm : BitVec 16)
  /-- CWR (R64). Issues a commons write with data taken at issue. -/
  | eCwr (e : Fin 17) (f : Ecc) (rs : Fin 32) (rs1 : Fin 32) (imm : BitVec 16)
  /-- CSYNC (R64). Waits 96 cycles for outstanding commons accesses. -/
  | eCsync (e : Fin 17) (f : Ecc)
  /-- MBI (R65). Reads a latched in-word at idx + rs1. -/
  | eMbi (e : Fin 17) (f : Ecc) (rd : Fin 32) (idx : Fin 1024) (rs1 : Fin 32)
  /-- MBO (R65). Writes an uncommitted out-word, trapping BIND if not bound. -/
  | eMbo (e : Fin 17) (f : Ecc) (rs : Fin 32) (idx : Fin 1024) (rs1 : Fin 32)
  /-- LOOP (R66). Starts a repeated body with an immediate or register count. -/
  | eLoop (e : Fin 17) (f : Ecc) (body : Fin 256) (rs : Fin 32) (count : Fin 8192)
  /-- END (R68). Commits out-words and ends the lesson if completed before the bell cycle. -/
  | eEnd (e : Fin 17) (f : Ecc)
  /-- SKIP (R67). Skips forward n instructions on a condition. -/
  | eSkip (e : Fin 17) (f : Ecc) (cond : Fin 16) (n : Fin 1024)
  /-- SKBS (R67). Skips forward if a register bit is set. -/
  | eSkbs (e : Fin 17) (f : Ecc) (reg : Fin 32) (bit : Fin 64) (n : Fin 1024)
  /-- SKBC (R67). Skips forward if a register bit is clear. -/
  | eSkbc (e : Fin 17) (f : Ecc) (reg : Fin 32) (bit : Fin 64) (n : Fin 1024)
  /-- POST (R69). Raises a lesson-posted event source at once. -/
  | ePost (e : Fin 17) (f : Ecc) (ev : Fin 128)
  /-- TRAP (R70). Abandons the lesson with cause TRAP. -/
  | eTrap (e : Fin 17) (f : Ecc) (code : Fin 256)
  /-- WCET_EXCEEDED (R74). The lesson's cycle count reaches its declared WCET + 1 and it traps with cause WCET. -/
  | wcetExceeded (e : Fin 17)
  /-- COMMONS_READ_COMPLETE (R48). A commons read completes, writing its register or marking it poisoned. -/
  | commonsReadComplete (e : Fin 17) (ecc : Ecc)
  /-- COMMONS_WRITE_COMPLETE (R47). A commons write completes in issue order. -/
  | commonsWriteComplete (e : Fin 17)
  /-- ENGINE_SCRUB (R45). The background scrubber visits every engine memory word every 10 ms. -/
  | engineScrub (e : Fin 17) (mem : EngMem) (idx : Fin 8192) (ecc : Ecc)
  /-- HIN_LO_WRITE (R75). A write of ENGn.HINk_LO commits both halves of a host-in word atomically. -/
  | hinLoWrite (e : Fin 17) (k : Fin 4) (data : BitVec 32)
  /-- HOUT_LO_READ (R75). A read of ENGn.HOUTk_LO returns the low half and captures the high half. -/
  | houtLoRead (e : Fin 17) (k : Fin 4)
  /-- PAIR_LO_READ (R75). A read of any device-written LO register captures its HI half. -/
  | pairLoRead (addr : BitVec 18)
  /-- ENG_ENABLE (R77). A write of ENGn.CTRL.ENABLE starts the timetable from the next bell or idles the engine. -/
  | engEnable (e : Fin 17) (on : Bool)
  /-- ENG_HALT (R77). HALT stops the engine after its current instruction if the debug gate is OPEN. -/
  | engHalt (e : Fin 17) (on : Bool)
  /-- ENG_STEP (R77). STEP executes one instruction while halted if the debug gate is OPEN. -/
  | engStep (e : Fin 17) (f : Ecc) (ecc : Ecc × Ecc)
  /-- BELL_PERIOD_WRITE (R85). A write of DEV.BELL.PERIOD is accepted only with all engines stopped, otherwise PERIOD_REJ sets. -/
  | bellPeriodWrite (period : BitVec 25)
  /-- IMAGE_LOAD (R95). Host sets LOAD; refused with BUSY_ENG if any engine runs, otherwise the checks and writes start. -/
  | imageLoad
  /-- LOAD_COMPLETE (R95). The load finishes its checks and writes, setting RESULT, LOADED and ending orphan substitutions. -/
  | loadComplete (a : ImageSet) (b : ImageSet)
  /-- SUBST_FORCE (R106). FORCE requests substitution of engine TARGET unless E16 is busy or serving. -/
  | substForce (target : Fin 16)
  /-- SUBST_READY (R100). The staged copy has passed ECC and E16 is ready, SERVING = n. -/
  | substReady (copyOk : Bool)
  /-- SUBST_RETURN (R103). RETURN reloads engine n, returns bindings and resumes it, unless a refusal condition holds. -/
  | substReturn
  /-- TDC_EDGE_CAPTURE (R254). An edge at a channel input is captured, stamped and delivered to every consumer of its role. -/
  | tdcEdgeCapture (role : Fin 48) (x : EdgeIn)
  /-- ACTIVITY_TIMEOUT (R118). No accepted edge for the activity timeout clears ACTIVE. -/
  | activityTimeout (n : Fin 24)
  /-- SLOT_CFG_WRITE (R113). A write to SLOTn.CFG, NOM_FREQ or PRESCALE clears ACTIVE and restarts prescaler and monitors. -/
  | slotCfgWrite (n : Fin 24) (reg : Fin 3) (data : BitVec 32)
  /-- SLOT_REBASE (R113). REBASE rebases the comparator at the next accepted edge. -/
  | slotRebase (n : Fin 24)
  /-- GATE_COMPLETE (R120). 10 us after a gate boundary the frequency gate completes, giving FOFF readings, FREQ_BAD and DROP_BAD. -/
  | gateComplete (n : Fin 24)
  /-- IRIG_FRAME (R115). An IRIG-B frame is judged valid or invalid and IRIG_LOCK updated. -/
  | irigFrame (n : Fin 4) (format : Fin 8)
  /-- IRIG_REGISTER_UPDATE (R116). 10 ms after a frame's last element its decoded fields are written together. -/
  | irigRegisterUpdate (n : Fin 4)
  /-- IRIG_LOCK_TIMEOUT (R116). 2.0 s without a valid frame clears IRIG_LOCK. -/
  | irigLockTimeout (n : Fin 4)
  /-- TRACK_LOCKED (R128). After 10/BW seconds in ACQUIRING without events the tracking loop enters LOCKED. -/
  | trackLocked (n : Fin 24)
  /-- ROLL_CALL (R130). Every 1 ms roll call regrades all slots, runs the concord vote and the selection procedure. -/
  | rollCall
  /-- SET_RANK (R141). Roll-call command setting a slot's RANK on a path. -/
  | setRank (c : CmdWord)
  /-- SET_MODE (R141). Roll-call command setting MODE, MANUAL_SLOT and MANUAL_RETURN, clearing AWAY. -/
  | setMode (c : CmdWord)
  /-- SET_POLICY (R141). Roll-call command setting REVERT, ALIGN, MIN_GRADE and SETTLE. -/
  | setPolicy (c : CmdWord)
  /-- SET_PREP_LIMIT (R141). Roll-call command setting PREP_LIMIT. -/
  | setPrepLimit (c : CmdWord)
  /-- SET_CONCORD (R141). Roll-call command setting a slot's CONCORD. -/
  | setConcord (c : CmdWord)
  /-- ROLL_CALL_GET (R141). Roll-call command returning a setting without change. -/
  | rollCallGet (c : CmdWord)
  /-- PREP_LIMIT_EXPIRY (R156). PREP_LIMIT elapses from p0 and the handover aborts. -/
  | prepLimitExpiry (p : Fin 8)
  /-- SETTLE_END (R158). SETTLE ms after the CUT (or after the realign slew) the path returns to IDLE. -/
  | settleEnd (p : Fin 8)
  /-- PATH_LOCK (R173). phase error within LOCK_WIN for LOCK_TIME: the path becomes LOCKED. -/
  | pathLock (p : Fin 8)
  /-- PATH_UNLOCK (R173). phase error beyond 4 x LOCK_WIN for LOCK_TIME: LOCKED becomes ACQUIRE. -/
  | pathUnlock (p : Fin 8)
  /-- SET_BW (R174). Path command setting the loop natural frequency. -/
  | setBw (g : Fin 4) (c : CmdWord)
  /-- SET_DAMP (R174). Path command setting damping. -/
  | setDamp (g : Fin 4) (c : CmdWord)
  /-- SET_PSL (R174). Path command setting the phase-slope limit. -/
  | setPsl (g : Fin 4) (c : CmdWord)
  /-- SET_FCLAMP (R174). Path command setting the frequency clamp. -/
  | setFclamp (g : Fin 4) (c : CmdWord)
  /-- SET_LOCK (R174). Path command setting LOCK_WIN and LOCK_TIME. -/
  | setLock (g : Fin 4) (c : CmdWord)
  /-- SET_ROLLBACK (R174). Path command setting the rollback window W. -/
  | setRollback (g : Fin 4) (c : CmdWord)
  /-- SET_ZD (R217). Path command selecting or disabling the zero-delay output. -/
  | setZd (g : Fin 4) (c : CmdWord)
  /-- PATH_GET (R174). Path command returning a setting or B. -/
  | pathGet (g : Fin 4) (c : CmdWord)
  /-- PHASE_STEP_COMMIT (R176). A write of PATHn.PHASE_STEP_LO adds the amount to STEP_REMAIN or sets REJ. -/
  | phaseStepCommit (p : Fin 8) (lo : BitVec 32)
  /-- STEP_CANCEL (R177). CANCEL sets STEP_REMAIN to 0. -/
  | stepCancel (p : Fin 8)
  /-- SLEW_COMPLETE (R177). The slewer moves the last of the remainder and STEP_BUSY clears. -/
  | slewComplete (p : Fin 8)
  /-- HOLDOVER_EVALUATION (R187). Every 1 ms in holdover with MODEL basis the path writes the model-predicted DCO word. -/
  | holdoverEvaluation (p : Fin 8)
  /-- LEARNING_SAMPLE (R181). Every second E11 forms and possibly accepts one model sample per path. -/
  | learningSample (p : Fin 8)
  /-- MODEL_JOURNAL_WRITE (R185). Every 10 minutes E11 writes each path's model to the journal. -/
  | modelJournalWrite (p : Fin 8)
  /-- SET_LEARN (R185). E11 command enabling learning and setting TAU. -/
  | setLearn (c : CmdWord)
  /-- CLEAR_MODEL (R185). E11 command zeroing a path's model. -/
  | clearModel (c : CmdWord)
  /-- GET_MODEL (R185). E11 command returning one model parameter. -/
  | getModel (c : CmdWord)
  /-- APPLY (R199). APPLY copies the shadows, checks and classes the plan and starts the change. -/
  | apply (k : Fin 9)
  /-- APPLY_FULL (R201). FULL applies the shadows with the class forced to SEARCH. -/
  | applyFull (k : Fin 9)
  /-- CACHE_CLR (R198). Invalidates every unpinned band-cache entry. -/
  | cacheClr (k : Fin 9)
  /-- RAMP_COMPLETE (R202). The feedback-ratio ramp ends; after SETTLE held outputs reconnect and APPLY clears. -/
  | rampComplete (k : Fin 9)
  /-- APLL_LOCK (R203). A hop or search locks; the cache is updated and STATE = SETTLE. -/
  | apllLock (k : Fin 9) (band : Fin 48)
  /-- HOP_TIMEOUT (R198). A hop not locked after 30 us invalidates its entry and continues as a full search. -/
  | hopTimeout (k : Fin 9)
  /-- SEARCH_FAIL (R197). No band locks; STATE = LOST and APPLY_ERR = SEARCH_FAIL. -/
  | searchFail (k : Fin 9)
  /-- APLL_SETTLE_END (R203). SETTLE us after lock the dividers restart aligned, outputs reconnect and APPLY clears. `u` carries nothing:
  the state alone says what happens. -/
  | apllSettleEnd (k : Fin 9) (u : Unit)
  /-- APLL_UNLOCK (R207). An APLL declares loss of lock; its HOME outputs move to A8 or BYPASS. -/
  | apllUnlock (k : Fin 9)
  /-- APLL_RETRY (R208). Every 10 ms a lost APLL retries a hop and then a search. -/
  | apllRetry (k : Fin 9)
  /-- APLL8_COVER_WRITE (R209). A write of APLL8.COVER makes A8 take the covered plan and search. -/
  | apll8CoverWrite (data : BitVec 32)
  /-- TUNE_EDGE_DETECT (R196). The tuning voltage nears a rail; TUNE_EDGE sets and APLL_TUNE_EDGE is raised. -/
  | tuneEdgeDetect (k : Fin 9) (near : Bool)
  /-- MUX_SWITCH (R204). An output multiplexer switches once both signals are low and suppresses short cycles. -/
  | muxSwitch (o : Fin 32)
  /-- MUX_DEAD_CLOCK_SWITCH (R204). After 1 us without an old-signal edge the multiplexer switches at the next low of the new signal. -/
  | muxDeadClockSwitch (o : Fin 32)
  /-- OUT_SRC_WRITE (R222). A change of OUTn.CFG.SRC moves the output through the multiplexer. -/
  | outSrcWrite (o : Fin 32) (src : Fin 4)
  /-- OUT_PHASE_COMMIT (R214). A write of OUTn.PHASE_LO commits a phase change applied by stretching cycles. -/
  | outPhaseCommit (o : Fin 32) (lo : BitVec 32)
  /-- PHASE_ADJUST_DONE (R214). The output phase change is complete and PHASE_BUSY clears. -/
  | phaseAdjustDone (o : Fin 32)
  /-- PULSE_INSTANT (R215). The timescale reaches a pulse instant and the output pulses. -/
  | pulseInstant (o : Fin 32) (sec : BitVec 48)
  /-- TS_SET (R230). SET loads VAL into the timescale at the application tick, or waits for an edge under AT_EDGE. -/
  | tsSet (n : Fin 4)
  /-- TS_ADJ (R230). ADJ adds signed VAL to the timescale at the application tick or edge. -/
  | tsAdj (n : Fin 4)
  /-- TS_CAPTURE (R232). CAPTURE latches the timescale value of one tick. -/
  | tsCapture (n : Fin 4)
  /-- TS_CMD_TIMEOUT (R231). No qualifying edge within 2.0 s: the command clears and TIMEOUT = 1. -/
  | tsCmdTimeout (n : Fin 4)
  /-- TRIGGER_ARM (R239). A write of TGn.TIME_LO commits T and arms the trigger unless CFG_ERR. -/
  | triggerArm (g : Fin 32) (lo : BitVec 32)
  /-- TRIGGER_DISARM (R248). Clearing TGn.CFG.EN disarms the trigger at once. -/
  | triggerDisarm (g : Fin 32)
  /-- TRIGGER_FIRE (R237). A tick reaches T - L; the trigger acts on time, late or misses, then rearms or disarms. -/
  | triggerFire (g : Fin 32)
  /-- TRIGGER_PULSE_END (R236). PARAM ns after firing a pulse ends or a window closes. -/
  | triggerPulseEnd (g : Fin 32)
  /-- UART_ENABLE (R249). Setting DEV.UARTu_CFG.EN enables the receiver and zeroes the byte count. -/
  | uartEnable (u : Fin 2) (data : BitVec 32)
  /-- UART_BYTE (R241). A received byte is stamped and written to its commons ring before the count increments. -/
  | uartByte (u : Fin 2) (x : UartIn)
  /-- SET_TOD (R242). E12 command binding a UART, format, PPS slot and offset to a timescale. -/
  | setTod (c : CmdWord)
  /-- NMEA_SENTENCE (R243). E12 accepts or rejects a ZDA or RMC sentence as a time label. -/
  | nmeaSentence (u : Fin 2) (text : List (BitVec 8)) (t : Int)
  /-- BINARY_TOD_FRAME (R244). E12 accepts or rejects an 18-byte binary time frame. -/
  | binaryTodFrame (u : Fin 2) (bytes : List (BitVec 8)) (t : Int)
  /-- DLL_UNLOCK (R258). A channel's DLL declares loss of lock; DLL_LOCK clears and TDC_FAULT is raised. -/
  | dllUnlock (ch : Fin 52)
  /-- DLL_RELOCK (R258). The DLL relocks within 100 us of its error returning; DLL_LOCK sets. -/
  | dllRelock (ch : Fin 52)
  /-- TDC_CAL (R260). CAL measures a channel's table if it serves no role, otherwise sets CAL_REJ. -/
  | tdcCal (ch : Fin 52)
  /-- CAL_ALL (R260). ALL measures every channel that serves no role. -/
  | calAll
  /-- CAL_COMPLETE (R259). A code-density measurement ends, setting TABLE_VALID or CAL_FAIL. -/
  | calComplete (ch : Fin 52) (hits : List Nat)
  /-- SPARE_TAKE (R262). TAKE starts MIRROR_IN of a spare onto role c, or sets REJ. -/
  | spareTake (k : Fin 4) (role : Fin 64)
  /-- SPARE_RELEASE (R262). RELEASE starts MIRROR_OUT returning the role to its channel, or sets REJ. -/
  | spareRelease (k : Fin 4)
  /-- MIRROR_SWITCH (R262). After MIRROR_N edges D is formed and the role switches channel at t_s, raising TDC_SWAP. `u` carries
  nothing: the channels have seen the edges. -/
  | mirrorSwitch (k : Fin 4) (u : Unit)
  /-- MIRROR_TIMEOUT (R262). MIRROR_N edges do not arrive within 10 s; the switch is made with partial D and SHORT sets. `u` and
  `v` carry nothing. -/
  | mirrorTimeout (k : Fin 4) (u v : Unit)
  /-- STATS_START (R265). Mn.CMD.START sets RUNNING and clears partial sums unless CFG_ERR. -/
  | statsStart (m : Fin 16)
  /-- STATS_STOP (R265). Mn.CMD.STOP clears RUNNING and discards the partial run. -/
  | statsStop (m : Fin 16)
  /-- STATS_CFG_WRITE (R265). A group configuration write while running restarts the run. -/
  | statsCfgWrite (m : Fin 16) (reg : Fin 6) (data : BitVec 32)
  /-- PAIR_WINDOW_END (R266). WINDOW after a start the group decides its candidate pair, MISS or ORDER_VIOL. -/
  | pairWindowEnd (m : Fin 16)
  /-- STATS_PUBLISH (R269). N reaches LEN; the stop position publishes mean and sd and raises STATS_DONE. -/
  | statsPublish (m : Fin 16) (k : Fin 8)
  /-- FREQ_REG_GATE_END (R270). A FREQ-REG gate ends and publishes period, offset and residual, or NODATA. -/
  | freqRegGateEnd (m : Fin 16)
  /-- RING_ENABLE (R280). Setting RINGr_CFG.EN reads the ring settings, zeroes pointers and writes an anchor, or sets CFG_ERR. -/
  | ringEnable (r : Fin 8)
  /-- RING_DEFERRED_START (R280). A ring held by READY = 0 starts when READY becomes 1. -/
  | ringDeferredStart (r : Fin 8)
  /-- RING_DISABLE (R280). Clearing EN stops capture within 1 us, counting in-flight records as DROPPED. -/
  | ringDisable (r : Fin 8)
  /-- EVR_RECORD_WRITE (R289). A stamp or interval record reaches its ring and is written, refused or makes room. -/
  | evrRecordWrite (src : RecSource)
  /-- ANCHOR_WRITE (R287). Bits [63:52] of the ring timescale WT change and an anchor is written. -/
  | anchorWrite (r : Fin 8)
  /-- RING_RD_WRITE (R291). A host write of RD is accepted or discarded with RD_ERR. -/
  | ringRdWrite (r : Fin 8) (off : BitVec 27)
  /-- DRAM_INIT_COMPLETE (R293). The DRAM has been zeroed after SYSPLL_LOCK and READY becomes 1. -/
  | dramInitComplete
  /-- DRAM_SCRUB (R292). The scrubber reads every DRAM word every 8 s, correcting and sparing rows. -/
  | dramScrub (word : BitVec 24) (ecc : Ecc)
  /-- BAR2_READ (R295). A PCIe read of the event DRAM returns a consistent word, poisoned if uncorrectable. -/
  | bar2Read (addr : BitVec 27) (dword : Bool) (ecc : Ecc)
  /-- STREAM_PACKET_SEND (R296). The stream engine sends a UDP packet when the next record does not fit and advances RD. -/
  | streamPacketSend (r : Fin 8) (found : List (BitVec 24 × Ecc))
  /-- STREAM_FLUSH (R296). FLUSH us after a packet's first record the packet is sent with FLUSH set. -/
  | streamFlush (r : Fin 8) (found : List (BitVec 24 × Ecc))
  /-- PORT_ENABLE (R302). Setting ETHn.CTRL.EN reads MODE, FEC and AN and starts the port. -/
  | portEnable (n : Fin 4)
  /-- PORT_DISABLE (R302). Clearing EN stops the port at once, cutting any frame. -/
  | portDisable (n : Fin 4)
  /-- LINK_UP (R303). Link conditions hold for 10 ms; LINK sets and ETH_LINK is raised. -/
  | linkUp (n : Fin 4)
  /-- LINK_DOWN (R303). A link condition fails; LINK clears, LINK_DOWN counts and ETH_LINK is raised. -/
  | linkDown (n : Fin 4) (why : LinkCause)
  /-- PCS_LOCK_LOSS (R319). PCS or FEC lock is lost and the recovered clock is gated off within 1 us. -/
  | pcsLockLoss (n : Fin 4) (fec : Bool)
  /-- RXCLK_GATE_ON (R319). PCS and FEC lock have held 10 ms; the recovered clock is gated on. -/
  | rxclkGateOn (n : Fin 4)
  /-- RX_FRAME (R306). A received frame is filtered, length-checked, classified and delivered or dropped. -/
  | rxFrame (n : Fin 4) (f : RxIn)
  /-- WAKE_CLR (R326). CLR clears MATCH and releases WAKE_N. -/
  | wakeClr
  /-- QUEUE_ENABLE (R310). Setting a queue's EN zeroes HEAD and TAIL and fixes its owner. -/
  | queueEnable (n : Fin 4) (q : QueueId)
  /-- QUEUE_DISABLE (R310). Clearing EN ends the frame in progress and stops the queue. -/
  | queueDisable (n : Fin 4) (q : QueueId)
  /-- TAIL_WRITE (R310). A host write of TAIL is accepted or discarded with PTR_ERR. -/
  | tailWrite (n : Fin 4) (q : QueueId) (tail : BitVec 12) (bufs : List (BitVec 64))
  /-- TX_DESCRIPTOR_CHECK (R312). A descriptor at its queue head is checked for length, zero fields and the passive gate. -/
  | txDescriptorCheck (n : Fin 4) (q : Fin 8) (d : TxDesc)
  /-- TX_FETCH_COMPLETE (R317). Enough of a head frame is buffered for it to become eligible. -/
  | txFetchComplete (n : Fin 4) (q : Fin 8) (got : Option Nat)
  /-- LAUNCH_ELIGIBLE (R315). The port timescale reaches T - 8 byte times and a launch head becomes eligible. -/
  | launchEligible (n : Fin 4) (q : Fin 8)
  /-- TX_FRAME_START (R314). At a start boundary the port starts the highest-priority eligible frame. -/
  | txFrameStart (n : Fin 4) (t : Int)
  /-- TX_FRAME_DONE (R310). A frame completes; status is written, HEAD advances and ETH_TX_DONE is raised. -/
  | txFrameDone (n : Fin 4)
  /-- TX_UNDERRUN (R317). A needed byte has not arrived; the frame ends with inverted FCS and UNITS rises. -/
  | txUnderrun (n : Fin 4) (dma : Bool)
  /-- SYNCE_TX_RATE_UPDATE (R320). A change of the path DCO word is applied to the SyncE transmit rate within 1 ms. -/
  | synceTxRateUpdate (n : Fin 4)
  /-- TXTS_ID_READ (R340). A read of PTPn.TXTS_ID removes the oldest entry into the TXTS registers. -/
  | txtsIdRead (n : Fin 4)
  /-- TXTS_DEST_WRITE (R340). A write of TXTS_DEST or TXTS_BASE empties the queue, counting a loss. -/
  | txtsDestWrite (n : Fin 4) (base : Bool) (data : BitVec 32)
  /-- SERVO_SAMPLE (R348). E12 forms offsetFromMaster from an exchange and writes a PHASE sample. -/
  | servoSample (n : Fin 4) (x : PtpExchange)
  /-- SERVO_STEP (R349). E12 steps the port timescale after invalidating samples for 2.5 s. -/
  | servoStep (n : Fin 4) (stage : Fin 4)
  /-- ESMC_PDU_RECEIVED (R346). E13 parses an ESMC PDU and takes the port's QL. -/
  | esmcPduReceived (n : Fin 4) (frame : List (BitVec 8))
  /-- ESMC_TIMEOUT (R346). 5 s without a valid information PDU gives the port QL-FAILED. -/
  | esmcTimeout (n : Fin 4)
  /-- ESMC_INFO_SEND (R346). Every second E13 sends an information PDU on each SyncE transmit port. -/
  | esmcInfoSend (n : Fin 4)
  /-- SET_PTP_PORT (R350). E12 command configuring a PTP port's profile, transport and domain. -/
  | setPtpPort (c : CmdWord)
  /-- SET_UCAST (R350). E12 command setting a unicast master entry. -/
  | setUcast (c : CmdWord)
  /-- SET_ASYM (R350). E12 command setting a port's delayAsymmetry. -/
  | setAsym (c : CmdWord)
  /-- SET_CLOCK (R350). E12 command setting priority1, priority2 and localPriority. -/
  | setClock (c : CmdWord)
  /-- SET_ESMC (R350). E13 command setting ESMC enables, option and holdover QL. -/
  | setEsmc (c : CmdWord)
  /-- TWIN_ENABLE (R370). Setting TWIN.CFG.EN enters SEEKING. -/
  | twinEnable
  /-- SEEKING_END (R370). After 40 us in SEEKING the device takes its role by the first applicable row. -/
  | seekingEnd
  /-- HEARTBEAT_SEND (R358). Every 1.000 us each device sends a heartbeat frame. -/
  | heartbeatSend
  /-- HEARTBEAT_RECEIVE (R358). A good heartbeat updates the twin's view, LINK, demotion and reset requests. -/
  | heartbeatReceive (lane : Fin 2) (crcOk : Bool) (h : Heartbeat)
  /-- MARKER_RECEIVE (R366). A MARKER frame yields twin phase words written to commons. -/
  | markerReceive (x : MarkerIn)
  /-- LANE_DOWN (R358). A twin lane with no good frame for 4 us is down; TWIN_LANE is raised. -/
  | laneDown (lane : Fin 2)
  /-- TWIN_LINK_LOSS (R358). No good heartbeat for 4 us clears LINK and the secondary applies R371. -/
  | twinLinkLoss
  /-- WITNESS_SEND (R362). Every 34 us a witness frame is sent on WIT_OUT. -/
  | witnessSend
  /-- WITNESS_FRAME (R362). A witness frame with good CRC sets WITNESS and updates the twin's role. -/
  | witnessFrame (word : BitVec 32)
  /-- WITNESS_LOSS (R362). 8 us without a mid-bit transition clears WITNESS; the secondary may promote. -/
  | witnessLoss
  /-- TWIN_DEMOTE (R373). TWIN.CMD.DEMOTE demotes a primary at once or sets DEMOTE_PENDING. -/
  | twinDemote
  /-- DEMOTE_RUN (R373). A pending demotion runs once the twin is an eligible secondary with the link up. -/
  | demoteRun
  /-- RESET_TWIN (R374). RESET_TWIN sets RESET_REQ in the next eight heartbeats. -/
  | resetTwin
  /-- FAULT_ASSERT (R383). The collector sees an assertion and moves the source by its class. -/
  | faultAssert (ev : Fin 128) (inst : Fin 256) (info : BitVec 24)
  /-- CAUSE_END (R383). A source's cause ends; a RAISED source enters RECESS. -/
  | causeEnd (ev : Fin 128) (inst : Fin 256)
  /-- GRACE_EXPIRY (R383). An AMBER grace timer expires and the action is applied. -/
  | graceExpiry (ev : Fin 128)
  /-- RECESS_EXPIRY (R383). The recess timer ends; the source is CLEAR and its action undone. -/
  | recessExpiry (ev : Fin 128)
  /-- FLT_ACK (R389). A write of FLT.ACK takes ownership or sets SEEN, or sets REJ. -/
  | fltAck (src : Fin 128) (late : Bool)
  /-- LIFE_SAVE (R393). LIFE_SAVE writes a lifetime record to the journal. -/
  | lifeSave
  /-- LIFETIME_RECORD_WRITE (R393). Every 10 minutes a lifetime record is written if any count changed. -/
  | lifetimeRecordWrite
  /-- REGISTER_WRITE (R16). A host write to a register without behaviour of its own, applied per access code. -/
  | registerWrite (addr : BitVec 18) (data : BitVec 32)
  /-- IXA_WRITE (R401). A write of IXAn sets the island address of the pair. -/
  | ixaWrite (n : Fin 16) (data : BitVec 32)
  /-- IXD_ACCESS (R400). An access to IXDn makes one island access at IXAn, with auto-increment and error flags. -/
  | ixdAccess (n : Fin 16) (w : Option (BitVec 32))
  /-- SPI_READ (R413). A SPI READ frame reads words with read-ahead and held results. -/
  | spiRead (addr : BitVec 24) (x : SpiReadIn)
  /-- SPI_WRITE (R414). A SPI WRITE frame writes words through an 8-word buffer. -/
  | spiWrite (addr : BitVec 24) (words : List (BitVec 32)) (partWord : Bool) (drop : List Nat)
  /-- SPI_STATUS (R412). A SPI STATUS frame returns the status byte. -/
  | spiStatus (bad : SpiBad)
  /-- I2C_WRITE (R415). An I2C write transfer writes words after a register address. -/
  | i2cWrite (addr : BitVec 24) (words : List (BitVec 32)) (partWord : Bool)
  /-- I2C_READ (R416). An I2C read transfer reads words, stretching SCL until ready. -/
  | i2cRead (addr : BitVec 24) (n : Nat)
  /-- I2C_CURRENT_READ (R415). An I2C read at the current address continues after the last word. -/
  | i2cCurrentRead (n : Nat)
  /-- I2C_TIMEOUT (R416). SCL held low for 25 ms abandons the transfer and counts TIMEOUT. -/
  | i2cTimeout
  /-- PCIE_READ (R419). A BAR0 read request, processed one DWORD at a time. -/
  | pcieRead (off : BitVec 17) (n : Nat)
  /-- PCIE_WRITE (R419). A BAR0 posted write, discarding partial DWORDs. -/
  | pcieWrite (off : BitVec 17) (words : List PcieDw)
  /-- PCIE_PERST (R417). PERST_N resets the PCIE island only. -/
  | pciePerst
  /-- PARITY_SCRUB (R405). Every 64 us the scrubber checks register parity and votes LEG copies. -/
  | parityScrub (found : List RegUpset) (leg : List LegUpset)
  /-- LEG_WRITE (R410). A LEG write stores three copies and mirrors the value to its native target next cycle. -/
  | legWrite (idx : Fin 256) (data : BitVec 32)
  /-- JTAG_EXTEST (R485). EXTEST takes the pins from the core at Update-IR. -/
  | jtagExtest
  /-- JTAG_IDCODE (R484). IDCODE selects the identification register. -/
  | jtagIdcode
  /-- JTAG_SAMPLE_PRELOAD (R483). SAMPLE/PRELOAD samples the boundary register. -/
  | jtagSamplePreload
  /-- JTAG_CLAMP (R485). CLAMP takes the pins from the core. -/
  | jtagClamp
  /-- JTAG_HIGHZ (R485). HIGHZ takes the pins from the core to high impedance. -/
  | jtagHighz
  /-- JTAG_EXTEST_PULSE (R485). IEEE 1149.6 EXTEST_PULSE on AC-coupled pins. -/
  | jtagExtestPulse
  /-- JTAG_EXTEST_TRAIN (R485). IEEE 1149.6 EXTEST_TRAIN on AC-coupled pins. -/
  | jtagExtestTrain
  /-- JTAG_FABRIC (R483). FABRIC gives register access as a fourth interface when the gate is OPEN. -/
  | jtagFabric (acc : Option FabricAcc)
  /-- JTAG_SCAN_INT (R483). SCAN_INT stops island clocks for internal scan when the gate is OPEN. -/
  | jtagScanInt
  /-- JTAG_BYPASS (R483). BYPASS or any unassigned opcode selects the bypass register. -/
  | jtagBypass
  /-- SUPPLY_WARNING (R429). A rail instance falls below its warning threshold; holds and SUPPLY flags begin. -/
  | supplyWarning (r : Fin 9)
  /-- SUPPLY_RECOVERY (R429). The instance stays above warning + 10 mV for 50 us; recovery is declared. -/
  | supplyRecovery (r : Fin 9) (us : Nat)
  /-- SUPPLY_FLAG_END (R430). 10 us after recovery, stamps stop carrying SUPPLY. -/
  | supplyFlagEnd
  /-- RAIL_RESET_CROSSING (R431). A rail instance falls below its reset threshold and its reset class follows. -/
  | railResetCrossing (r : Fin 9)
  /-- ISLAND_POWER_FAULT (R432). An island supply stays low 200 ns with VDDC good; the island is reset and ISLAND_POWER raised. -/
  | islandPowerFault (i : Fin 32)
  /-- ISLAND_POWER_RECOVERY (R432). An island's supply is good for 50 us and it leaves reset. -/
  | islandPowerRecovery (i : Fin 32)
  /-- POWER_STATE_GO (R434). PWR.CMD.GO starts a transition to TARGET or is refused with a reason. -/
  | powerStateGo (target : Fin 4)
  /-- POWER_TRANSITION_COMPLETE (R436). A power-state transition completes; STATE shows the target and BUSY clears. -/
  | powerTransitionComplete
  /-- POR (R437). Power-on reset releases after all rails are good for 1 ms. -/
  | por (x : PorIn)
  /-- POR_INIT_COMPLETE (R427). Fuse sensing, repair map, factory data and lifetime counts are loaded; interfaces answer. -/
  | porInitComplete
  /-- PIN_RESET (R437). RESET_N low for at least 1 us makes a PIN reset, released at its rise. -/
  | pinReset (x : PinIn)
  /-- SOFT_RESET (R437). RST.CMD.SOFT makes a reset of kind SOFT. -/
  | softReset
  /-- WDOG_EXPIRY (R438). The watchdog count reaches zero and a WDOG reset follows. -/
  | wdogExpiry
  /-- WDOG_KICK (R438). KICK restarts the watchdog count from TIMEOUT. -/
  | wdogKick
  /-- WDOG_ENABLE (R438). Setting RST.WDOG.EN starts the count from TIMEOUT. -/
  | wdogEnable (data : BitVec 32)
  /-- ISLAND_GO (R440). RST.CMD.ISLAND_GO makes an ISLAND reset of the named island. -/
  | islandGo (i : Fin 32)
  /-- JOURNAL_SCAN (R455). Both journal halves are scanned to find the active half, append point and next SEQ. -/
  | journalScan (bad : List (Fin 64))
  /-- JNL_APPEND (R452). JNL.CMD.APPEND queues a host record append. -/
  | jnlAppend
  /-- JNL_FIND (R470). JNL.CMD.FIND copies the payload of the record in force into BUF. -/
  | jnlFind
  /-- JNL_COMPACT (R457). JNL.CMD.COMPACT orders a compaction if due. -/
  | jnlCompact
  /-- JNL_SLOT_APPEND (R453). A commons request slot APPEND queues a lesson record. -/
  | jnlSlotAppend (j : Fin 4)
  /-- JNL_SLOT_FIND (R453). A commons request slot FIND copies a payload and responds. -/
  | jnlSlotFind (j : Fin 4)
  /-- JNL_SLOT_COMPACT (R453). A commons request slot COMPACT orders a compaction. -/
  | jnlSlotCompact (j : Fin 4)
  /-- APPEND_COMPLETE (R452). A record's last page is verified or abandoned after three failures with JNL_FAIL. -/
  | appendComplete (fails : List (Fin 17))
  /-- COMPACTION_ERASE_DONE (R457). The other half is erased and the snapshot copy begins. -/
  | compactionEraseDone (ok : Bool)
  /-- SNAPSHOT_COMMIT (R457). SNAP_COMMIT is verified and the other half becomes active. -/
  | snapshotCommit
  /-- OLD_HALF_ERASE_DONE (R457). The last block of the old half is erased and COMPACTING clears. -/
  | oldHalfEraseDone (ok : Bool)
  /-- NOR_READ (R462). NOR_CMD.READ reads a page into BUF. -/
  | norRead (ecc : Ecc)
  /-- NOR_PROGRAM (R462). NOR_CMD.PROGRAM programs a page from BUF, or is refused. -/
  | norProgram
  /-- NOR_ERASE (R462). NOR_CMD.ERASE erases a block, or is refused. -/
  | norErase
  /-- NOR_OPERATION_COMPLETE (R446). A NOR program or erase completes and is verified. -/
  | norOperationComplete (ok : Bool)
  /-- FUSE_PROG (R463). SEC.FUSE_CMD.PROG programs a fuse field, or is refused. -/
  | fuseProg
  /-- FUSE_PROGRAM_COMPLETE (R463). A fuse program completes within 2 ms with its result. -/
  | fuseProgramComplete (ok : Bool)
  /-- KEY_PROVISION (R464). PROVISION wraps a key and appends a KEY record, or returns a refusal. -/
  | keyProvision
  /-- KEY_PROVISION_COMPLETE (R464). The KEY record is verified, the key is placed and KEY_DATA zeroed. -/
  | keyProvisionComplete (ok : Bool)
  /-- KEY_VOID (R464). VOID empties the slot and voids its KEY records in both halves. -/
  | keyVoid
  /-- DEBUG_OPEN_GO (R466). GO with a valid token starts opening the debug gate, else TOKEN_REJ. -/
  | debugOpenGo
  /-- DEBUG_GATE_OPEN (R467). All key records are erased and verified; the gate becomes OPEN. -/
  | debugGateOpen
  /-- BIST_GO (R474). TST.BIST_CMD.GO starts a self-test or gives REFUSED. -/
  | bistGo
  /-- BIST_COMPLETE (R474). A self-test ends with PASS, FAIL, REPAIRED or ABORTED. -/
  | bistComplete (x : BistOut)
  /-- SAVE_TDC (R480). SAVE_TDC checks and writes the TDC repair record. -/
  | saveTdc (fail : Bool)
  /-- SAVE_APLL (R480). SAVE_APLL checks and writes the APLL repair record. -/
  | saveApll (fail : Bool)
  /-- ILLEGAL_INSTRUCTION (R57). The engine fetches a word with an unassigned op, fn or cond, or with non-zero zero fields, and traps with cause ILLEGAL. -/
  | illegalInstruction (e : Fin 17) (f : Ecc) (word : BitVec 32)
  /-- DLL_FIRST_LOCK (R258). The TDC DLLs lock for the first time within 100 us of TBPLL lock, and the device then starts measuring all 52 correction tables. -/
  | dllFirstLock
  /-- MARKER_SEND (R358). At each marker edge the PRIMARY sends a MARKER frame carrying the DCO ramps of P0-P7 and the full stamps of TS0-TS3. -/
  | markerSend (idx : Nat)
  /-- PCS_LOCK_ACQUIRED (R303). A port's PCS gains block lock or 8B/10B synchronisation, or its RS-FEC gains alignment, setting PCS_LOCK or FEC_LOCK and starting the 10 ms link and receive-clock timers. -/
  | pcsLockAcquired (n : Fin 4) (fec : Bool)
  /-- AN_COMPLETE (R303). Clause 37 auto-negotiation of a 1000BASE-X port completes and AN_DONE sets. -/
  | anComplete (n : Fin 4)
  /-- PCIE_LINK_UP (R417). The PCIe link trains and HOST.STATUS.PCIE_LINK sets. -/
  | pcieLinkUp (width : Fin 16) (speed : Fin 16)
  /-- PCIE_LINK_DOWN (R417). The PCIe link goes down and HOST.STATUS.PCIE_LINK clears. -/
  | pcieLinkDown
  /-- PCIE_CONFIG_WRITE (R390). A PCIe configuration write changes Bus Master Enable, MSI-X enable or function mask, or the power state D0/D3hot. -/
  | pcieConfigWrite (x : PcieCfg)
  /-- JTAG_TAP_RESET (R483). TRST_N low, or TMS held high, puts the TAP in Test-Logic-Reset, and the instruction register holds IDCODE. -/
  | jtagTapReset
  /-- RESET_COMPLETE (R438). A reset of kind SOFT, WDOG or TWIN completes within 25 ms, including the DRAM zeroing, and RST.CAUSE.BUSY clears. -/
  | resetComplete
  /-- RAIL_GOOD (R431). A monitored rail instance rises back above its reset threshold, setting its PWR.RAIL_STATUS.GOOD bit; the receivers, DLLs, APLLs, SerDes, DRAM or NOR of that instance recover. -/
  | railGood (r : Fin 9)
  /-- VDDC_RESET_RELEASE (R437). After VDDC has stayed above its reset threshold for 1 ms, the PIN reset held by the VDDC crossing is released and the straps are sampled. -/
  | vddcResetRelease (straps : Straps)
  /-- APLL_ENABLE (R220). A write of APLLn.CFG.EN powers the APLL, making its next APPLY a SEARCH, or stops it and holds its outputs low. -/
  | apllEnable (k : Fin 9) (on : Bool)
  /-- TWIN_DISABLE (R375). Clearing TWIN.CFG.EN makes ROLE OFF and releases ACTIVE_N. -/
  | twinDisable
  /-- SLOT_QUAL_WRITE (R132). A write of SLOTn.QUAL, with EXCLUDE, makes SLOTn.STATE read EXCLUDED from the cycle of the write and raises SLOT_STATE on the change of shown state. -/
  | slotQualWrite (n : Fin 24) (data : BitVec 32)
  /-- OUT_ENABLE (R222). A write of OUTn.CFG.EN turns the driver off, or turns it on with the latched FORMAT in whatever state its group is in. -/
  | outEnable (o : Fin 32) (on : Bool)
  /-- IRIG_TOD_READ (R138). A read of SLOTn.IRIG_TOD captures IRIG_EXT and IRIG_CF for the reads that follow. -/
  | irigTodRead (n : Fin 4)
deriving DecidableEq, Repr

end Sys2Proof
end

