-- ==== Sys2Proof/Decode.lean ====
section
/-! DEFINITION. The decoder of the engines' instruction words (R56 to R60), and the decoder of table words:
the command table gives no row any bits, so no word spells a command. -/
namespace Sys2Proof

/-- The command a word spells by the table's bits: the table gives none. -/
def decodeTableWord (_nbits _w : Nat) : Option Instr := none

/-- Bits `hi` down to `lo` of an instruction word. -/
def wordBits (w : Word32) (hi lo : Nat) : Nat := w.toNat / 2 ^ lo % 2 ^ (hi + 1 - lo)

/-- The same field as a register, condition or accumulator number. -/
def fieldFin (n : Nat) (h : 0 < n) (w : Word32) (hi lo : Nat) : Fin n := ⟨wordBits w hi lo % n, Nat.mod_lt _ h⟩

/-- Accept the decoding where the fields that must be zero are (R57). -/
def zeros (l : List Nat) (i : Instr) : Option Instr := if l.all (· == 0) then some i else none

/-- The ALU group, op 0x00, by fn [10:6] (R59). -/
def decodeAlu (e : Fin 17) (f : Ecc) (w : Word32) : Option Instr :=
  let rd := fieldFin 32 (by decide) w 25 21
  let a := fieldFin 32 (by decide) w 20 16
  let b := fieldFin 32 (by decide) w 15 11
  let lo := wordBits w 5 0
  match wordBits w 10 6 with
  | 0x00 => zeros [lo] (.eAdd e f rd a b)
  | 0x01 => zeros [lo] (.eSub e f rd a b)
  | 0x02 => zeros [lo] (.eAnd e f rd a b)
  | 0x03 => zeros [lo] (.eOr e f rd a b)
  | 0x04 => zeros [lo] (.eXor e f rd a b)
  | 0x05 => zeros [lo] (.eShl e f rd a b)
  | 0x06 => zeros [lo] (.eShr e f rd a b)
  | 0x07 => zeros [lo] (.eSar e f rd a b)
  | 0x08 => zeros [lo] (.eMin e f rd a b)
  | 0x09 => zeros [lo] (.eMax e f rd a b)
  | 0x0A => zeros [lo] (.eAdds e f rd a b)
  | 0x0B => zeros [lo] (.eSubs e f rd a b)
  | 0x0C => zeros [lo, b.val] (.eNeg e f rd a)
  | 0x0D => zeros [lo, b.val] (.eAbs e f rd a)
  | 0x0E => zeros [lo, b.val] (.eClz e f rd a)
  | 0x0F => zeros [lo, rd.val] (.eCmp e f a b)
  | _ => none

/-- Decode the word that engine `e` fetches; `f` is what the fetch's ECC check finds and `d` what that of
the data word finds. `none` is a word that traps with cause ILLEGAL (R57). LOOP and ALD carry their operand
limits in their meanings. -/
def decodeEngine (e : Fin 17) (f d d2 : Ecc) (w : Word32) : Option Instr :=
  let rd := fieldFin 32 (by decide) w 25 21
  let a := fieldFin 32 (by decide) w 20 16
  let b := fieldFin 32 (by decide) w 15 11
  let acc := fieldFin 4 (by decide) w 22 21
  let acc2 := fieldFin 4 (by decide) w 17 16
  let imm : BitVec 16 := w.extractLsb' 0 16
  let sh6 := fieldFin 64 (by decide) w 5 0
  let sh7 := fieldFin 128 (by decide) w 10 4
  let za := wordBits w 25 23
  match wordBits w 31 26 with
  | 0x00 => decodeAlu e f w
  | 0x02 => zeros [wordBits w 10 4] (.eSel e f rd a b (fieldFin 16 (by decide) w 3 0))
  | 0x03 => zeros [wordBits w 20 0] (.eRdc e f rd)
  | 0x04 => some (.eAddi e f rd a imm)
  | 0x05 => some (.eAndi e f rd a imm)
  | 0x06 => some (.eOri e f rd a imm)
  | 0x07 => some (.eXori e f rd a imm)
  | 0x08 => zeros [wordBits w 15 6] (.eShli e f rd a sh6)
  | 0x09 => zeros [wordBits w 15 6] (.eShri e f rd a sh6)
  | 0x0A => zeros [wordBits w 15 6] (.eSari e f rd a sh6)
  | 0x0B => zeros [rd.val] (.eCmpi e f a imm)
  | 0x0C => zeros [a.val] (.eLdi e f rd imm)
  | 0x0D => zeros [wordBits w 20 18] (.eInsh e f rd (fieldFin 4 (by decide) w 17 16) imm)
  | 0x10 => zeros [za, wordBits w 10 0] (.eMul e f acc a b)
  | 0x11 => zeros [za, wordBits w 10 0] (.eMac e f acc a b)
  | 0x12 => zeros [za, wordBits w 10 0] (.eMsu e f acc a b)
  | 0x13 => zeros [za, wordBits w 20 0] (.eAclr e f acc)
  | 0x14 => zeros [za, b.val, wordBits w 3 0] (.eAld e f acc a sh7)
  | 0x15 => zeros [za, wordBits w 20 18, wordBits w 15 0] (.eAadd e f acc acc2)
  | 0x16 => zeros [za, wordBits w 20 18, wordBits w 15 0] (.eAsub e f acc acc2)
  | 0x17 => zeros [wordBits w 20 18, b.val, wordBits w 3 0] (.eAex e f rd acc2 sh7)
  | 0x19 => zeros [wordBits w 10 0] (.eDiv e f rd a b)
  | 0x20 => some (.eLd e f rd a imm d)
  | 0x21 => some (.eLdw e f rd a imm d)
  | 0x22 => some (.eSt e f rd a imm)
  | 0x23 => some (.eStw e f rd a imm d)
  | 0x24 => zeros [za] (.eAldm e f acc a imm (d, d2))
  | 0x25 => zeros [za] (.eAst e f acc a imm)
  | 0x28 => some (.eCrd e f rd a imm)
  | 0x29 => some (.eCwr e f rd a imm)
  | 0x2A => zeros [wordBits w 25 0] (.eCsync e f)
  | 0x2C => zeros [wordBits w 15 10] (.eMbi e f rd (fieldFin 1024 (by decide) w 9 0) a)
  | 0x2D => zeros [wordBits w 15 10] (.eMbo e f rd (fieldFin 1024 (by decide) w 9 0) a)
  | 0x30 => some (.eLoop e f (fieldFin 256 (by decide) w 25 18) (fieldFin 32 (by decide) w 17 13) (fieldFin 8192 (by decide) w 12 0))
  | 0x31 => zeros [wordBits w 25 0] (.eEnd e f)
  | 0x34 => zeros [wordBits w 21 10] (.eSkip e f (fieldFin 16 (by decide) w 25 22) (fieldFin 1024 (by decide) w 9 0))
  | 0x35 => zeros [wordBits w 25 21] (.eSkbs e f a (fieldFin 64 (by decide) w 15 10) (fieldFin 1024 (by decide) w 9 0))
  | 0x36 => zeros [wordBits w 25 21] (.eSkbc e f a (fieldFin 64 (by decide) w 15 10) (fieldFin 1024 (by decide) w 9 0))
  | 0x38 => zeros [wordBits w 25 7] (.ePost e f (fieldFin 128 (by decide) w 6 0))
  | 0x39 => zeros [wordBits w 25 8] (.eTrap e f (fieldFin 256 (by decide) w 7 0))
  | _ => none

/-- An op 0x38 word whose event is above 127 is well formed and names no event a lesson may raise: it
traps with cause PRIV (R69). -/
def postsBeyond (w : Word32) : Bool := wordBits w 31 26 == 0x38 && wordBits w 25 8 == 0 && wordBits w 7 7 == 1

end Sys2Proof
end

