-- ==== Sys2Proof/Machine/Tab.lean ====
section
/-! DEFINITION. Sparse tables: a list of (key, value) pairs in one canonical form, keys strictly rising
and no entry equal to the default an unlisted key reads as. Registers, memories and the per-instance
records of the block are held in tables, so that equal contents are equal data. -/
namespace Sys2Proof

/-- A sparse table from natural numbers. -/
abbrev Tab (α : Type) := List (Nat × α)

namespace Machine

/-- The value at key `k`, `d` where nothing is listed. -/
def tabGet {α : Type} (d : α) (k : Nat) : Tab α → α
  | [] => d
  | (j, v) :: t => if j = k then v else tabGet d k t

/-- Drop what is listed for key `k`. -/
def tabErase {α : Type} (k : Nat) : Tab α → Tab α
  | [] => []
  | (j, v) :: t => if j = k then tabErase k t else (j, v) :: tabErase k t

/-- Put `v` at key `k`, keeping the keys rising. -/
def tabPut {α : Type} (k : Nat) (v : α) : Tab α → Tab α
  | [] => [(k, v)]
  | (j, w) :: t =>
    if k < j then (k, v) :: (j, w) :: t
    else if j = k then (k, v) :: t
    else (j, w) :: tabPut k v t

/-- Write `v` at key `k`: writing the default removes the entry. -/
def tabSet {α : Type} [DecidableEq α] (d : α) (k : Nat) (v : α) (t : Tab α) : Tab α :=
  if v = d then tabErase k t else tabPut k v t

/-- Drop every entry whose key satisfies `p`: back to the defaults. -/
def tabClear {α : Type} (p : Nat → Bool) (t : Tab α) : Tab α := t.filter (fun e => !p e.1)

/-- Keys strictly rising above `lo`. -/
def tabSorted {α : Type} : Nat → Tab α → Bool
  | _, [] => true
  | lo, (j, _) :: t => decide (lo ≤ j) && tabSorted (j + 1) t

/-- The canonical form: keys strictly rising, no entry equal to the default. -/
def tabWf {α : Type} [DecidableEq α] (d : α) (t : Tab α) : Bool :=
  tabSorted 0 t && t.all (fun e => decide (e.2 ≠ d))

end Machine
end Sys2Proof
end

