-- ==== Sys2Proof/Machine/State.lean ====
section
/-! DEFINITION. The state of the CK7240: the register fields, the memories, the queues and every piece
of hidden state the spec gives a block, as plain data, and the queue of commands that wait. Every
structure's default is its content right after POR. -/
namespace Sys2Proof.Machine

/-! ### Clocks and islands (R19 to R35) -/

/-- The state of a PLL (R28, R29): off, started and not yet locked, locked (also while it runs open loop
after a loss of XO_IN, when its lock flag remains set), and out of lock after having locked. -/
inductive PllSt | off | acquiring | locked | lost
deriving DecidableEq, Repr

/-- What clocks the TIME and TDC islands (R27, R29): nothing, the TBPLL, XO_IN, or XO_IN while XO_IN is
lost, when both islands wait. -/
inductive TimeSrc | stopped | tb | xo | waiting
deriving DecidableEq, Repr

/-- Clock and island state outside the registers. `xoFreq` is XO_FREQ as read at START (R30), and `nfrac` the 24-bit
fraction of the feedback ratio N that START computed from it (R25); `xoWait` says that XO_IN has shown no edge since a
START that found none (R28). `stopped` and `unpowered` are masks of islands whose
clock has stopped (R21) and whose supply is off or faulty (R432); `hot` is the mask of sensors whose
TEMP_HIGH cause is present (R382). -/
structure ClkSt where
  tb : PllSt := .off
  sys : PllSt := .off
  time : TimeSrc := .stopped
  xoArmed : Bool := false
  xoWait : Bool := false
  xoFreq : Nat := 0
  nfrac : Nat := 0
  stopped : Nat := 0
  unpowered : Nat := 0
  hot : Nat := 0
deriving DecidableEq, Repr

/-! ### Engines (R40 to R82) -/

/-- An active loop (R66): the index of its first body instruction, the index just past its body and the
iterations left, the running one included. -/
structure LoopEnt where
  first : Nat
  past : Nat
  left : Nat
deriving DecidableEq, Repr

/-- An outstanding commons access (R47, R48) of 64-bit word `word`: a write of `data`, or a read into
register `rd`. `old` marks an access whose lesson has ended: a read's data is then discarded. -/
structure CmnAcc where
  word : Nat
  data : Option Word64
  rd : Nat
  old : Bool
deriving DecidableEq, Repr

/-- The lesson an engine executes: its timetable index and the cycles it has spent (R74). -/
structure Lesson where
  idx : Nat
  cyc : Nat
deriving DecidableEq, Repr

/-- One engine (R41 to R44): registers, accumulators, flags, loop stack, PC, pending and poisoned
registers, outstanding commons accesses, the two memories, the lesson in execution, the entries of this
bell not yet dispatched, the words written and not committed, the host words, the timetable, the
bindings, whether a timetable is active, whether the engine has stopped, the cycles since the bell and at
the last END, and what the proctor keeps: whether the island ran on its ring in this bell (R93), whether
the bell goes unchecked (R77), and the expiry bells of the live strikes (R94). `reload` is the tick of an
ISLAND reset from which the engine has not yet resumed (R440). -/
structure Eng where
  g : Tab Word64 := []
  a : Tab Acc := []
  z : Bool := false
  n : Bool := false
  c : Bool := false
  v : Bool := false
  q : Bool := false
  cd : Bool := true
  loops : List LoopEnt := []
  pc : Nat := 0
  pend : List Nat := []
  poison : List Nat := []
  acc : List CmnAcc := []
  imem : Tab Word32 := []
  dmem : Tab Word64 := []
  lesson : Option Lesson := none
  due : List Nat := []
  staged : Tab Word64 := []
  tt : Tab TTEntry := []
  bind : List Nat := []
  run : Bool := false
  stopped : Bool := false
  cycles : Nat := 0
  busy : Nat := 0
  ring : Bool := false
  unchecked : Bool := false
  strikes : List Nat := []
  reload : Option Nat := none
deriving DecidableEq, Repr

/-- The host words of an engine (R50, R75): host-in words committed by the host, the same words as
latched at the last bell, and host-out words in force. -/
structure HostWords where
  hin : Tab Word64 := []
  latched : Tab Word64 := []
  hout : Tab Word64 := []
deriving DecidableEq, Repr

/-! ### Bells and substitution (R83 to R106) -/

/-- The bell generator (R83, R84): the bell number, the period in force in ticks, the ticks since the
last bell, what is left of a bell in progress at a clock switch, and the words committed for the next bell, each with the engine that committed it. -/
structure BellSt where
  number : Nat := 0
  period : Nat := 500
  since : Nat := 0
  left : Option Nat := none
  commits : List (Nat × Nat × Word64) := []
deriving DecidableEq, Repr

/-- Where a substitution stands (R100, R103). -/
inductive SubPhase | idle | copying | ready | serving | returning
deriving DecidableEq, Repr

/-- The substitution state: its phase, the engine concerned, whether that engine was healthy (R102), the
tick of the request, and the engines whose bindings are held
with no engine serving them (SUBST_FAIL, R103). -/
structure SubstSt where
  phase : SubPhase := .idle
  eng : Nat := 31
  healthy : Bool := false
  since : Nat := 0
  failed : List Nat := []
deriving DecidableEq, Repr

/-- What a load leaves in the staged copies and the substitution directory (R96): a section per engine,
the declared period, and whether the set is the Standard Syllabus. -/
structure LoadedImage where
  sections : Tab EngSection := []
  period : Nat := 0
  standard : Bool := false
deriving DecidableEq, Repr

/-! ### Fault collector (R380 to R397) -/

/-- A notice on its way to the collector (R381): an assertion, or the end of a level cause. -/
structure Notice where
  ev : Nat
  inst : Nat
  info : Nat
  ends : Bool
deriving DecidableEq, Repr

/-- What the collector sampled when a source left CLEAR (R383): its class, its action and the resolved
targets: a mask of paths, a mask of outputs, an engine or an island; and its timer (R384): the sampled time in 2.0 ns
steps, when it started, and whether SVC ran on its ring oscillator then. -/
structure SrcRec where
  cls : Nat := 0
  action : Nat := 0
  paths : Nat := 0
  outs : Nat := 0
  num : Nat := 0
  span : Nat := 0
  since : Nat := 0
  ring : Bool := false
deriving DecidableEq, Repr

/-- The collector's state outside its registers: the conditions present in the originating blocks, the
notices in flight, the causes present as seen, the sampled records, the lifetime counts (always on) and
whether one has changed since the last record (R381, R393). -/
structure FltSt where
  cond : List (Nat × Nat) := []
  inflight : List Notice := []
  present : List (Nat × Nat) := []
  src : Tab SrcRec := []
  life : Tab Nat := []
  dirty : Bool := false
  msiPending : List Nat := []
  msiSent : List Nat := []
deriving DecidableEq, Repr

/-! ### Reference slots (R108 to R138) -/

/-- The decoded fields of an IRIG frame (R114, R138). -/
structure IrigFields where
  format : Nat
  day : Nat
  hour : Nat
  min : Nat
  sec : Nat
  year : Nat
  sbs : Nat
  cf : Nat
deriving DecidableEq, Repr

/-- What the IRIG decoder of a slot keeps (R115, R116, R138): whether the latest pulse was a P, the classes of the
elements of the frame being received, the latest frame not yet judged, the lock, whether the previous frame was valid,
the bad frames in a row, the year where it is known and the seconds of the year that the latest frame stands for, the
2 ns step of the latest valid frame, the decoded fields awaiting their registers, and the live EXT and CF words that a
read of IRIG_TOD captures. -/
structure IrigSt where
  p : Bool := false
  elems : List Nat := []
  frame : Option (List Nat) := none
  lock : Bool := false
  good : Bool := false
  bad : Nat := 0
  last : Option (Option Nat × Nat) := none
  validAt : Nat := 0
  staged : Option IrigFields := none
  ext : Nat := 0
  cf : Nat := 0
deriving DecidableEq, Repr

/-- A frequency gate (R120, R121): its first and last usable accepted edges, as TB time and phase, the sum of m
between them, the tally of missing and extra edges, whether it can give no reading, and whether it holds an
edge of its own. -/
structure GateRec where
  a : Option (Int × Int) := none
  b : Option (Int × Int) := none
  n : Nat := 0
  tally : Nat := 0
  void : Bool := false
  own : Bool := false
deriving DecidableEq, Repr

/-- A slot's comparator and monitors (R113 to R125). Times are TB times in 2^-10 ns. `phi` and `raw` are
phases in units of 2^-16 ns divided by the nominal frequency, so that the comparison period is a whole
number of units. `hist` holds the phase changes of the last usable edges with their periods. `gate` is the
gate in progress, which ends at `gEnd`; `next` is the gate after it. `sum` and `count` are the bell's mean in
the making, with its flags; `vnew` is a new virtual sample; `rise` is the on-time edge whose pulse is open and `pw` the
latest width. `pre` is the prescaler count, `idle` the 2 ns step from which the activity timeout runs, and `edges` the
latest accepted edges, newest first, with the values of the four timescales at them (R245). -/
structure SlotSt where
  pre : Nat := 0
  idle : Nat := 0
  edges : List (Int × List Nat) := []
  lastT : Option Int := none
  lastOk : Bool := true
  phi : Int := 0
  raw : Int := 0
  hist : List (Int × Nat) := []
  active : Bool := false
  fvalid : Bool := false
  freqBad : Bool := false
  dropBad : Bool := false
  pw : Option Int := none
  irigBad : Bool := false
  sum : Int := 0
  count : Nat := 0
  mean : Int := 0
  pileup : Bool := false
  coarse : Bool := false
  supply : Bool := false
  gEnd : Option Int := none
  gate : GateRec := {}
  next : GateRec := {}
  rise : Option Int := none
  word : Word64 := 0
  vnew : Option Int := none
  irig : IrigSt := {}
deriving DecidableEq, Repr

/-! ### Paths and timescales (R164, R177, R192, R223 to R234) -/

/-- The hardware of a path: the DCO word in force, the words in force before it within the last 1 ms, newest first, each with
the 2 ns step at which it ended (R211), the ramp reading in 2^-64 ns, the slewer's remainder and total in 2^-32 ns,
the ticks since its segment began, and whether a hold stops it (R177, R192). -/
structure PathSt where
  word : Word64 := 0
  past : List (Nat × Int) := []
  ramp : Int := 0
  remain : Int := 0
  total : Int := 0
  seg : Nat := 0
  held : Bool := false
deriving DecidableEq, Repr

/-- A SET or ADJ that waits for an edge (R231): which it is, its amount in 2^-16 ns and the TB time from
which an edge counts. -/
structure TsPend where
  set : Bool
  amount : Int
  since : Int
deriving DecidableEq, Repr

/-- A timescale (R223, R231, R233, R234): its value in 2^-64 ns, VAL_S_HI as the last write of VAL_S_LO committed it (R246),
the command that waits for an edge, the SEQ of the last control word, the tick of the last SET applied, the tick of the last
step of a lesson with the value before it, and the value captured in 2^-16 ns. -/
structure TsSt where
  val : Nat := 0
  hiS : Nat := 0
  pend : Option TsPend := none
  seq : Nat := 0
  lastSet : Option Nat := none
  lastStep : Option (Nat × Nat) := none
  cap : Nat := 0
deriving DecidableEq, Repr

/-- A time trigger (R236, R237, R239): the time T it waits for, the firings done, whether its pulse or
window is active, its span in WT, and the order in which its pulse began. -/
structure TgSt where
  t : Nat := 0
  done : Nat := 0
  active : Bool := false
  start : Nat := 0
  stop : Nat := 0
  order : Nat := 0
deriving DecidableEq, Repr

/-! ### Synthesis and outputs (R193 to R222) -/

/-- An entry of a band cache (R198): its validity, its pin, the VCO frequency in 2^-40 Hz, the band, the tuning preset and the
capture temperature in 2^-7 °C. -/
structure CacheEnt where
  valid : Bool := false
  pin : Bool := false
  f : Nat := 0
  band : Nat := 0
  preset : Nat := 0
  temp : Int := 0
deriving DecidableEq, Repr

/-- A plan (R193, R199): fPD, NINT, NFRAC and the four dividers of the group. -/
structure Plan where
  fpd : Nat := 0
  nint : Nat := 0
  nfrac : Nat := 0
  divs : List Nat := [4, 4, 4, 4]
deriving DecidableEq, Repr

/-- The classes of a change (R201). -/
inductive PlanClass | none | div | ramp | hop | search
deriving DecidableEq, Repr

/-- A change whose outputs have not reconnected (R202, R203, R206): its class, the masks of outputs it holds low, moves to
BYPASS and leaves on FANOUT, whether only SETTLE is left with the APLL locked, and whether its hop or search has begun. -/
structure Change where
  cls : PlanClass
  held : Nat
  byp : Nat
  keep : Nat := 0
  settling : Bool
  begun : Bool := true
deriving DecidableEq, Repr

/-- An APLL outside its registers: its active plan, whether a plan has been applied since it was enabled
(R201), the change, the band cache and the order of its use (least recent first), the entry a hop uses, the tuning preset in
use, the fVCO from which a ramp started with its 2 ns step (R202), the phase in 2^-64 ns by which the VCO has yet to follow
its DCO ramp, later where positive (R194), the STATE that HOLD covers with the TB time, the ramp and the mean word at its
start (R211), whether its dividers stand in the relation of R206. For A8: the APLL whose plan it runs and the cover in force
(R209, R210). -/
structure ApllSt where
  plan : Plan := {}
  applied : Bool := false
  change : Option Change := .none
  cache : Tab CacheEnt := []
  lru : List Nat := []
  hopEnt : Nat := 0
  preset : Nat := 0
  ramp : Option (Nat × Nat) := .none
  lag : Int := 0
  stateWas : Nat := 0
  hold : Option (Int × Int × Int) := .none
  aligned : Bool := false
  mirror : Option Nat := .none
  cover : Nat := 15
deriving DecidableEq, Repr

/-- An output outside its registers: where an automatic move has put it (0 nowhere, 1 SPARE, 2 BYPASS, 3 held
low), the committed and the applied phase with the 2 ns step from which the change is made (R214), the format in use, the
latest pulse instant in seconds and the 2 ns step at which its pulse ends (R215), the divisor in use on BYPASS, what its
multiplexer connects, by the codes of SRC_ACT, the time in seconds from the last rising edge of the old signal for which it
lets no new one pass (R204), and what a parity mismatch keeps it at (R405). -/
structure OutSt where
  moved : Nat := 0
  phase : Nat := 0
  applied : Nat := 0
  adjAt : Nat := 0
  format : Nat := 0
  lastPulse : Option Nat := .none
  pulseUntil : Nat := 0
  bypDiv : Nat := 1
  shown : Nat := 6
  gap : Option (Nat × Nat) := .none
  frozen : Option Nat := .none
deriving DecidableEq, Repr

/-! ### Time-interval measurement (R250 to R278) -/

/-- A stamp (R252 to R257): TB time in 2^-10 ns, WT, the flag byte, and bits [31:0] of the seconds of its
timescale (R283). -/
structure Stamp where
  tb : Int
  wt : Nat
  flags : Nat
  sec : Nat := 0
deriving DecidableEq, Repr

/-- A physical channel (R252, R254, R258, R262, R263): its correction table, the amount added to its stamps in
2^-16 ns, the raw time of its last captured edge in 2^-16 ns, whether a loss of lock stands declared, and the instance
under which its TDC_FAULT cause stands. For a spare: the 2 ns step from which it serves, and of the comparison its
differences in 2^-10 ns, their number and the 2 ns step at which it began. -/
structure ChanSt where
  table : Tab Nat := []
  added : Int := 0
  lastT : Option Int := none
  lost : Bool := false
  fault : Option Nat := none
  since : Nat := 0
  mirSum : Int := 0
  mirN : Nat := 0
  mirAt : Nat := 0
deriving DecidableEq, Repr

/-- A role (R254, R257, R274): losses not yet flagged, the FIFO toward the record, the latest stamp word, whether a
stamp came since the bell, and the feedback accumulator of the bell. -/
structure RoleSt where
  pileup : Bool := false
  lost : Bool := false
  lostCount : Nat := 0
  fifo : List Stamp := []
  last : Word64 := 0
  fresh : Bool := false
  fbSum : Int := 0
  fbCount : Nat := 0
  fbFlags : Nat := 0
  fbMean : Int := 0
deriving DecidableEq, Repr

/-- The run of one stop position (R269). -/
structure StatRun where
  n : Nat := 0
  x0 : Int := 0
  s1 : Int := 0
  s2 : Int := 0
  lo : Int := 0
  hi : Int := 0
  excl : Nat := 0
  miss : Nat := 0
  flags : Nat := 0
  near : Bool := false
deriving DecidableEq, Repr

/-- The accumulators of a FREQ-REG gate (R270), with times in 2^-75 ns: where the gate begins, the first and
the latest indexed edge and its index, the stamps seen, and the sums. -/
structure FreqRun where
  start : Int := 0
  t0 : Option Int := none
  tl : Int := 0
  k : Nat := 0
  seen : Nat := 0
  n : Nat := 0
  sk : Int := 0
  st : Int := 0
  skk : Int := 0
  skt : Int := 0
  stt : Int := 0
  flags : Nat := 0
  excl : Nat := 0
  disc : Nat := 0
  stepped : Bool := false
deriving DecidableEq, Repr

/-- An interval record waiting for its ring (R268): the start's TB time and WT, the stop position, the flags with NEAR
as bit 8, and the interval. -/
structure IntervalRec where
  tb : Int
  wt : Nat
  pos : Nat
  flags : Nat
  x : Int
deriving DecidableEq, Repr

/-- A statistics group (R265 to R271): the starts that await their window, the recent stops with their
positions, the runs, the finished runs not yet published, the FREQ-REG gate and the gate after it, the result words (key 4k + w),
the interval records that wait, the positions whose next record carries LOST, the records of each position not written and not yet told
by a gap (R291), and the records made in the present second of TB time. -/
structure GrpSt where
  starts : List Stamp := []
  stops : List (Nat × Stamp) := []
  runs : Tab StatRun := []
  finished : List (Nat × StatRun) := []
  freq : FreqRun := {}
  freqNext : FreqRun := {}
  words : Tab Word64 := []
  recs : List IntervalRec := []
  lostPos : Nat := 0
  posLost : Tab Nat := []
  recSec : Int := 0
  recCount : Nat := 0
deriving DecidableEq, Repr

/-! ### Twin operation (R354 to R379) -/

/-- The twin block outside its registers: the twin as last heard (whether anything has been heard since EN was
set, its role, PAIR_ID and flags), the run of good heartbeats with the last sequence and its tick, the remote
measurements and count, what the next heartbeats request, the frames last sent, the counting of T20 stamps
with the recent marker edges, the local measurements, the last two d_PS, and the markers since enable. -/
structure TwinSt where
  heard : Bool := false
  role : Nat := 0
  pair : Nat := 0
  inel : Bool := false
  crimson : Bool := false
  safe : Bool := false
  hbRun : Nat := 0
  hbSeq : Option Nat := none
  hbAt : Option Nat := none
  mClk : Int := 0
  mPps : Int := 0
  count : Nat := 0
  demoteReq : Bool := false
  resetReq : Nat := 0
  seqOut : Nat := 0
  sent : Option Heartbeat := none
  markerOut : Option MarkerIn := none
  witness : Option Word32 := none
  stampNo : Nat := 0
  ppsSeen : Bool := false
  edges : List (Nat × Int) := []
  clkSum : Int := 0
  clkCount : Nat := 0
  ownClk : Int := 0
  ownPps : Int := 0
  ownCount : Nat := 0
  lastRamp : Option Int := none
  delayWas : Option Int := none
  markers : Nat := 0
deriving DecidableEq, Repr

/-! ### Event record (R279 to R297) -/

/-- A ring (R280 to R291): whether it captures, whether it waits for READY, whether its last enable met a
configuration error, what it read at the enable (base and size in bytes, FORMAT, POLICY, TS), the records written
since, the WT of the latest anchor and bits [63:52] last seen, the steps whose anchor is still to be tried, whether a
refused anchor is owed before the next record, for a step, the records lost and not yet told by a 0x7F gap, whether
records have been refused since the last write, a record start at or before RD with the index of its record, and the
stream's next packet sequence. -/
structure RingSt where
  run : Bool := false
  wait : Bool := false
  cfgErr : Bool := false
  base : Nat := 0
  size : Nat := 0
  compact : Bool := false
  overwrite : Bool := false
  ts : Nat := 0
  written : Nat := 0
  anchorWt : Nat := 0
  hi : Nat := 0
  steps : Nat := 0
  owed : Bool := false
  owedStep : Bool := false
  lost : Nat := 0
  full : Bool := false
  mark : Nat := 0
  markIdx : Nat := 0
  seq : Nat := 0
deriving DecidableEq, Repr

/-- The DRAM (R273, R279, R292): its 64-bit words, the words whose check bits are poisoned, the ticks of the corrected
errors of a row within 24 h, the rows to be replaced, the rows replaced, and the source whose record was written last: a
role, or 48 with a group. -/
structure DramSt where
  mem : Tab Word64 := []
  poison : List Nat := []
  served : Nat := 63
  errs : Tab (List Nat) := []
  due : List Nat := []
  replaced : List Nat := []
deriving DecidableEq, Repr

/-! ### Ethernet and PTP (R302 to R344) -/

/-- A frame at the head of a transmit queue (R311, R314, R315, R317): its data without FCS, the identifier of its
two-step stamp, STAMP, ONE_STEP, its launch time, whether its data meets the threshold, whether its launch time
has come, and whether a ring streams it. -/
structure TxHead where
  data : List (BitVec 8) := []
  id : Nat := 0
  stamp : Bool := false
  oneStep : Bool := false
  launch : Option Nat := .none
  buffered : Bool := false
  eligible : Bool := false
  stream : Bool := false
deriving DecidableEq, Repr

/-- A transmit queue: whether its owner is a lesson (R309), its checked head and the stream frame handed to it
(R296, R312). -/
structure TxQSt where
  lesson : Bool := false
  head : Option TxHead := .none
  stream : Option TxHead := .none
deriving DecidableEq, Repr

/-- A received frame that waits for a descriptor (R308, R313): the delivered bytes, bytes 8 to 31 of its
descriptor and its whole length. -/
structure RxWait where
  data : List (BitVec 8)
  desc : List (BitVec 8)
  len : Nat
deriving DecidableEq, Repr

/-- A receive queue: whether its owner is a lesson (R309), the buffer addresses of the host's ready descriptors
and the waiting frames (R308). -/
structure RxQSt where
  lesson : Bool := false
  bufs : List Nat := []
  wait : List RxWait := []
deriving DecidableEq, Repr

/-- The frame on the line: its queue, the head it came from, its bytes as sent, its transmit stamp in 2^-16 ns,
whether its timescale ran per XO tick, whether it was late and whether it was rewritten (R315, R328, R335). -/
structure OnLine where
  q : Nat
  head : TxHead
  bytes : List (BitVec 8)
  stamp : Nat
  coarse : Bool
  late : Bool
  oneStep : Bool
deriving DecidableEq, Repr

/-- How a frame left the line (R317, R318): with its FCS, with an inverted FCS, or cut off. -/
inductive TxEnd | good | inverted | cut
deriving DecidableEq, Repr

/-- An entry of the two-step stamp queue (R336 to R339): the stamp in 2^-16 ns, STAMP_ID and the flags. -/
structure TxtsEnt where
  stamp : Nat
  id : Nat
  gap : Bool
  aborted : Bool
  coarse : Bool
  lost : Nat
deriving DecidableEq, Repr

/-- A port outside its registers: MODE, FEC and AN as read at the enable (R302), its queues, the frame on the
line, the queues with a trigger release in order (R238), the last frame on the line and how it ended, the DCO word
applied to the transmit rate (R320), the last start with the bytes that its frame occupied the line (R314), a start boundary
by which the later ones are known, since when the locks and the link's conditions have held (R303, R319), the stamp queue with its pending loss, its pointers and whether entries have
been discarded since the last write (R338, R340), the identification of its next IPv4 stream packet (R296), whether it
loops back (R482), and the HI halves of its byte counts as captured (R322). -/
structure PortSt where
  mode : Nat := 1
  fec : Bool := false
  an : Bool := false
  loop : Bool := false
  rxHi : Nat := 0
  txHi : Nat := 0
  tx : Tab TxQSt := []
  rx : Tab RxQSt := []
  line : Option OnLine := .none
  releases : List Nat := []
  sent : List (BitVec 8) := []
  sentEnd : TxEnd := .good
  rate : Int := 0
  prev : Option (Int × Nat) := .none
  grid : Option Int := .none
  lockAt : Nat := 0
  linkAt : Nat := 0
  txts : List TxtsEnt := []
  pend : Nat := 0
  wr : Nat := 0
  rd : Nat := 0
  ovf : Bool := false
  ipId : Nat := 0
deriving DecidableEq, Repr

/-! ### The Standard Syllabus (R127 to R189, R242 to R245, R345 to R351, R368, R369) -/

/-- What the lessons keep of a slot: the tracking loop (R128: TRK, SAT, the estimates in 2^-8 ppb and 2^-12 ns, and
the REBASE_SEQ, JUMP_COUNT and BW last seen), the JUMP_COUNT of the previous bell (R153), and roll call (R130 to
R134): STATE, REASON, GRADE, WTR_REMAIN with the passes since it last counted, the passes since a hard check
failed, whether FVALID was seen since OBSERVED, the JUMP_COUNT of the previous pass, the jumps with their passes,
the DROP and EXTRA counts last seen, the pass that saw them change, CONCORD, whether a DISPUTED slot is so
through tied pairs only (R151), and the bells in which the loop entered ACQUIRING and last updated (R128). -/
structure SylSlot where
  trk : Nat := 0
  sat : Bool := false
  freq : Int := 0
  phase : Int := 0
  rebase : Nat := 0
  jump : Nat := 0
  bw : Nat := 0
  jumpBell : Nat := 0
  state : Nat := 0
  reason : Nat := 0
  grade : Nat := 0
  wtr : Nat := 0
  wtrTick : Nat := 0
  clean : Nat := 0
  fvSeen : Bool := false
  jumpPass : Nat := 0
  jumps : List (Nat × Nat) := []
  tally : Nat := 0
  tallyAt : Option Nat := .none
  concord : Nat := 32
  tied : Bool := false
  acq : Nat := 0
  upd : Nat := 0
deriving DecidableEq, Repr

/-- An order of roll call to a path lesson (R152): holdover, abort, or a handover to a source (24 is the twin). -/
inductive PathOrder | hold | abort | go (target : Nat)
deriving DecidableEq, Repr

/-- The selection settings of a path (R139): the ranks of its slots, MODE (0 OFF, 1 AUTO, 2 MANUAL) and the rest. -/
structure PathPolicy where
  rank : Tab Nat := []
  mode : Nat := 1
  manual : Nat := 0
  manRet : Bool := false
  revert : Bool := true
  realign : Bool := false
  minGrade : Nat := 1
  settle : Nat := 50
  prepLimit : Nat := 2500
deriving DecidableEq, Repr

/-- The loop settings of a path (R174, R175, R217), in the units of its commands. -/
structure LoopCfg where
  fn : Nat := 100000
  damp : Nat := 181
  psl : Nat := 10000
  fclamp : Nat := 500000
  lockWin : Nat := 100
  lockTime : Nat := 1000
  window : Nat := 100
  zd : Nat := 31
deriving DecidableEq, Repr

/-- A holdover model (R180, R184): the parameters in 2^-72 units, T0 in 2^-7 °C, NSAMP, LAST, the epoch bell, the
learning settings, the accepted temperatures of the last TAU hours with their bells, and the matrix of the recursion, empty
before the first sample (R183). -/
structure Model where
  y0 : Int := 0
  d : Int := 0
  c1 : Int := 0
  c2 : Int := 0
  t0 : Int := 0
  nsamp : Nat := 0
  last : Nat := 0
  epoch : Nat := 0
  learn : Bool := true
  tau : Nat := 168
  temps : List (Nat × Int) := []
  cov : List (List Rat) := []
deriving DecidableEq, Repr

/-- What a path lesson keeps (R153 to R189, R217, R368): its settings as the commands leave them and as the last roll-call
pass took them (R142); its state, sources and handover; B in 2^-16 ns; the
integrator in 2^-104, the word last written, the bell of the last update, the STEP_TOTAL accounted for, the tick
of p0, the bell in which SETTLE or the REALIGN slew in it last had to wait, whether the next bell is the CUT, whether a
REALIGN slew runs, since when the lock and the unlock test have held, what the last bell reported, whether SET_FCLAMP has clamped the word since, the pending order; the holdover entry (its bell, y_h, T_e and the model taken);
the history of DCO words (10 ms mark, sum, count, newest first); the zero-delay Z with its last 16 bells, what
is still to be brought in and the tick of the last word; the learning second and the LOCKED ticks of the qualifying run; and the twin's SEQ, its last valid sample
and since when its words have been VALID. -/
structure SylPath where
  pol : PathPolicy := {}
  loop : LoopCfg := {}
  st : Nat := 0
  cur : Nat := 31
  phase : Nat := 0
  target : Nat := 31
  away : Bool := false
  use : PathPolicy := {}
  b : Int := 0
  integ : Int := 0
  y : Int := 0
  upd : Nat := 0
  stepRef : Int := 0
  p0 : Nat := 0
  settleAt : Nat := 0
  cutNext : Bool := false
  slew : Bool := false
  inWin : Option Nat := .none
  outWin : Option Nat := .none
  perr : Int := 0
  psl : Bool := false
  fcl : Bool := false
  fclCmd : Bool := false
  basis : Nat := 0
  order : Option PathOrder := .none
  te : Nat := 0
  yh : Int := 0
  tempE : Int := 0
  held : Model := {}
  hist : List (Nat × Int × Nat) := []
  z : Int := 0
  zWords : List (Option Int) := []
  zIn : Option Int := .none
  zAt : Nat := 0
  model : Model := {}
  secOk : Bool := true
  secY : Int := 0
  secT : Int := 0
  secN : Nat := 0
  qual : Nat := 0
  lost : Option Nat := .none
  cutAt : Option Nat := .none
  twinSeq : Nat := 0
  twinAt : Option Nat := .none
  twinSince : Option Nat := .none
deriving DecidableEq, Repr

/-- What E12 and E13 keep of a port (R346 to R351): the settings of SET_PTP_PORT, SET_UCAST and SET_ASYM; whether
the port has just entered UNCALIBRATED; the last exchanges as (2 × meanPathDelay, offset); the offsets beyond
100 µs in a row; the step in progress with its amount in 2^-16 ns; the grandmaster's clockClass; the ESMC settings
and the QL received, as SSM and enhanced code, `none` for QL-FAILED; the QL last sent and the PDU that carried it;
whether the port is PASSIVE. -/
structure SylPort where
  profile : Nat := 0
  enable : Bool := false
  oneStep : Bool := false
  transport : Nat := 0
  p2p : Bool := false
  masterOnly : Bool := false
  domain : Nat := 0
  ts : Nat := 0
  ucast : Tab Nat := []
  asym : Int := 0
  fresh : Bool := false
  exch : List (Int × Int) := []
  big : Nat := 0
  step : Option Int := .none
  gmClass : Nat := 255
  esmcRx : Bool := false
  esmcTx : Bool := false
  opt2 : Bool := false
  hoQl : Nat := 0xB
  ql : Option (Nat × Nat) := .none
  sentQl : Option Nat := .none
  pdu : List (BitVec 8) := []
  passive : Bool := false
deriving DecidableEq, Repr

/-- A binding of SET_TOD (R242): its UART, FORMAT, PPS slot and OFFSET. -/
structure TodBind where
  uart : Nat := 0
  binary : Bool := false
  enable : Bool := false
  slot : Nat := 0
  offset : Int := 0
deriving DecidableEq, Repr

/-- What E12 keeps of a UART (R245): the last label and its d, STEPS and BAD. -/
structure TodUart where
  label : Nat := 0
  d : Option Int := .none
  steps : Nat := 0
  bad : Nat := 0
deriving DecidableEq, Repr

/-- The thermistor coefficients in use (R451), and those built into the image: a 10.0 kΩ NTC of β = 3,435 K. -/
structure TempCal where
  a : Int := 794177652794222367
  b : Int := 343694794968678691
  c : Int := 0
  trim : Int := 0
  off : Int := 0
deriving DecidableEq, Repr

/-- What the lessons of the Standard Syllabus keep in their data memories and checkpoints: slots, paths, ports,
bindings, UARTs, the peer pairs that disagreed at their last evaluation (R150), the SEQ last processed by each
engine (R142, R489), the passes, the counters of R143, the SEQ of each timescale control word, the thermistor
coefficients and the last valid ratio, the clock attributes of SET_CLOCK, and for each timescale that follows the
twin the PPS markers with a seconds word and the tick of the last step, with the TWIN_PPS_IN edge last seen (R369), and the paths
whose model waits to be written (R185). -/
structure Syllabus where
  slots : Tab SylSlot := []
  paths : Tab SylPath := []
  ports : Tab SylPort := []
  tods : Tab TodBind := []
  uarts : Tab TodUart := []
  disagree : List (Nat × Nat) := []
  seq : Tab Nat := []
  pass : Nat := 0
  handovers : Nat := 0
  aborts : Nat := 0
  fastExits : Nat := 0
  tsSeq : Tab Nat := []
  cal : TempCal := {}
  ratio : Nat := 32768
  prio1 : Nat := 128
  prio2 : Nat := 128
  localPrio : Nat := 128
  tsSecs : Tab Nat := []
  tsStep : Tab Nat := []
  ppsAt : Option Int := .none
  jnlDue : List Nat := []
deriving DecidableEq, Repr

/-! ### Journal, NOR and security (R445 to R472) -/

/-- A journal record (R447, R449): TYPE, KEY, SEQ, LIVE and the payload. The payload of a KEY record is kept
unwrapped: the wrapping is internal to the device (R464). -/
structure JnlRec where
  type : Nat
  key : Nat
  seq : Nat
  live : Bool
  data : List (BitVec 8)
deriving DecidableEq, Repr

/-- A half of the journal (R455, R456): the SEQ of its SNAP_BEGIN, whether its snapshot is committed, its records
in ascending address and the position at which a walk of it ends. -/
structure JnlHalf where
  start : Option Nat := .none
  commit : Bool := false
  recs : List JnlRec := []
  point : Nat := 0
deriving DecidableEq, Repr

/-- Who asks for an append (R452): the fault collector, a commons slot with the SEQ of its request, or the host. -/
inductive JnlWriter | collector | slot (j seq : Nat) | host
deriving DecidableEq, Repr

/-- An accepted append request (R452). -/
structure JnlReq where
  who : JnlWriter
  type : Nat
  key : Nat
  data : List (BitVec 8)
deriving DecidableEq, Repr

/-- Where a compaction stands (R457): none, the other half being erased, the snapshot being written, the old half
being erased. -/
inductive Compaction | none | erasing | copying | cleaning
deriving DecidableEq, Repr

/-- A NOR operation of the host in progress (R462): a page program with its data, or a block erase. -/
structure NorOp where
  erase : Bool
  addr : Nat
  data : List (BitVec 8)
deriving DecidableEq, Repr

/-- The journal controller: the halves, the next SEQ, the queue, the writer served last (0 collector, 1 slots,
2 host), the compaction, whether an order waits for a supply warning to end, WORN, the host operation in progress,
whether a transition to DOZE or OFF defers writes (R454), and whether the scan after POR is due (R465). The
factory leaves an empty committed snapshot in half 0 (R456). -/
structure JnlSt where
  half0 : JnlHalf := { start := some 0, commit := true, recs := [], point := 48 }
  half1 : JnlHalf := {}
  seq : Nat := 2
  queue : List JnlReq := []
  served : Nat := 2
  phase : Compaction := .none
  ordered : Bool := false
  worn : Bool := false
  op : Option NorOp := .none
  shutting : Bool := false
  porScan : Bool := false
deriving DecidableEq, Repr

/-- The OTP fuses (R463): 0 where unprogrammed. A program in progress: its field and data. -/
structure FuseSt where
  cust0 : Nat := 0
  cust1 : Nat := 0
  revoke : Nat := 0
  custOnly : Nat := 0
  rollback : Nat := 0
  debugHash : Nat := 0
  debugDisable : Nat := 0
  busy : Option (Nat × Nat) := .none
deriving DecidableEq, Repr

/-! ### Host interfaces (R398 to R422) -/

/-- The three copies of a LEG register (R409). -/
structure LegReg where
  a : Nat := 0
  b : Nat := 0
  c : Nat := 0
deriving DecidableEq, Repr

/-- The host interfaces outside their registers: whether the loads after POR are done (R427); the flags of the next
SPI status byte (R412) and the held result, its frame address and data (R413); the current I2C address (R415); the
MSI-X table by DWORD, its function mask and D3hot (R390, R417, R418); whether the last BAR2 read was poisoned (R295);
the copies of the LEG registers that differ from their reset values (R409); the mismatched registers found while the
list was full (R407). -/
structure HostSt where
  ready : Bool := false
  spiFlags : Nat := 0
  held : Option (Nat × Nat) := .none
  i2cAddr : Nat := 0
  msix : Tab Nat := []
  fmask : Bool := false
  d3 : Bool := false
  poison : Bool := false
  leg : Tab LegReg := []
  unlisted : List Nat := []
deriving DecidableEq, Repr

/-! ### Power and resets (R423 to R444) -/

/-- The power manager outside its registers: the holds of POR and of a VDDC crossing (R426, R431), the target of a
transition in progress and whether its final record has been asked for (R436), and the ms from which the watchdog's
count in progress started (R438). -/
structure PwrSt where
  porHold : Bool := false
  vddcHold : Bool := false
  target : Option Nat := .none
  final : Bool := false
  wdog : Nat := 0
deriving DecidableEq, Repr

/-- What the device measures a time from, where a row comes that long after it. -/
inductive Timer
  | start | servo | seeking | heartbeat | witnessOut | witnessIn | supply | wdog | link
  | lane (n : Nat) | hop (k : Nat) | settle (k : Nat) | retry (k : Nat) | relock (k : Nat) | esmcIn (n : Nat) | esmcOut (n : Nat)
deriving DecidableEq, Repr

/-- The machine's state. -/
structure State where
  /-- The commands that wait, first in first out. -/
  pending : List Instr := []
  /-- The register fields of the register tables: one cell per field, keyed by `Fld.key`. -/
  regs : Tab Nat := []
  /-- TB time since TIME was first clocked, in whole ticks of 2.0 ns. -/
  now : Nat := 0
  /-- The time since POR in 2.0 ns steps, as the clocks that run without TIME count it (assumption 6). -/
  up : Nat := 0
  /-- When each timer last began, by `up`; one that is not listed began at POR. -/
  timers : List (Timer × Nat) := []
  /-- The model's own field: free values used so far (assumption 3). -/
  free : Nat := 0
  /-- What the last host read answered, oldest word first. -/
  hostRead : List Word32 := []
  clk : ClkSt := {}
  eng : Tab Eng := []
  words : Tab HostWords := []
  /-- Lesson data of the commons SRAM, by 64-bit word (R46). -/
  commons : Tab Word64 := []
  /-- Out-words in force (R52). -/
  out : Tab Word64 := []
  /-- In-words latched at the last bell (R38, R50). -/
  inw : Tab Word64 := []
  bell : BellSt := {}
  subst : SubstSt := {}
  image : LoadedImage := {}
  flt : FltSt := {}
  /-- TB time of the last tick of TIME, in 2^-10 ns, and the remainder of XO ticks in 1/XO_FREQ units. -/
  tb : Int := 0
  tbRem : Nat := 0
  /-- Stamps carry SUPPLY: from a supply warning until 10 us after it (R255, R430). -/
  supplyFlag : Bool := false
  slots : Tab SlotSt := []
  paths : Tab PathSt := []
  ts : Tab TsSt := []
  tg : Tab TgSt := []
  aplls : Tab ApllSt := []
  outs : Tab OutSt := []
  chans : Tab ChanSt := []
  roles : Tab RoleSt := []
  grps : Tab GrpSt := []
  twin : TwinSt := {}
  rings : Tab RingSt := []
  dram : DramSt := {}
  ports : Tab PortSt := []
  /-- What the device has written into host memory as PCIe bus master, by byte address (R309). -/
  hostMem : Tab (BitVec 8) := []
  /-- The registers whose parity mismatch stands, by address (R405 to R407). -/
  parity : List Nat := []
  /-- The key store: the key bytes of each slot (R464). -/
  keys : Tab (List (BitVec 8)) := []
  /-- What the lessons of the Standard Syllabus keep. -/
  syl : Syllabus := {}
  /-- The image slots of the NOR, by byte address; an unlisted byte is erased, 0xFF (R445). -/
  nor : Tab (BitVec 8) := []
  jnl : JnlSt := {}
  fuses : FuseSt := {}
  /-- The key that a PROVISION in progress stores, with its slot (R464). -/
  prov : Option (Nat × List (BitVec 8)) := none
  /-- The self-test that runs: TARGET and INDEX (R474). -/
  bist : Option (Nat × Nat) := none
  host : HostSt := {}
  /-- The WO fields written since POR, by key (R16). -/
  wo : List Nat := []
  /-- The field repair map as applied at the last reset (R481): the spares, with their roles, that wait for valid
  tables, and the failed APLL. -/
  mapTdc : List (Nat × Nat) := []
  mapApll : Option Nat := none
  pwr : PwrSt := {}
  /-- The instruction in the JTAG TAP's instruction register (R483): IDCODE after Test-Logic-Reset. -/
  jtag : Nat := 1
  /-- SCAN_INT has stopped every island clock and corrupted all state (R483). -/
  scan : Bool := false
deriving DecidableEq, Repr, Inhabited

/-- Why the machine stops. -/
inductive Fault
  /-- The model's own stop, raised by no meaning: nothing in the spec stops the whole block. Safe. -/
  | stuck
deriving DecidableEq, Repr

/-- Why a command has no meaning. -/
inductive Refusal
  /-- A command whose arm has no meaning yet. Safe. -/
  | notModelled (mnemonic : String)
deriving DecidableEq, Repr

/-- The outcome of a command. -/
abbrev Out := Host.Outcome State Fault Refusal

/-- The machine right after POR: every register field at the value of its table's Reset column (R14),
nothing listed in any memory, no clock started, an empty queue. -/
def State.reset : State := {}

/-- The content of the whole device after SCAN_INT has corrupted it (R483): nothing constrains it (assumption 3). -/
opaque scanned : Nat → State

end Sys2Proof.Machine
end

