-- ==== Sys2Proof/Machine/Flags.lean ====
section
/-! DEFINITION. The flag computations of the engines (R43, R58, R61, R62) and their saturations. -/
namespace Sys2Proof.Machine

/-- "ZN" of R58: Z and N from the result, C and V cleared. -/
def Eng.setZN (x : Eng) (r : Word64) : Eng := { x with z := r == 0, n := r.msb, c := false, v := false }

/-- "ZNCV" of an addition (R43): C carries out of bit 63, V is signed overflow. -/
def Eng.setAdd (x : Eng) (a b : Word64) : Eng :=
  { x with z := a + b == 0, n := (a + b).msb
           c := decide (2 ^ 64 ≤ a.toNat + b.toNat)
           v := decide ((a + b).toInt ≠ a.toInt + b.toInt) }

/-- "ZNCV" of a subtraction (R43): C is set when it does not borrow, V is signed overflow. -/
def Eng.setSub (x : Eng) (a b : Word64) : Eng :=
  { x with z := a - b == 0, n := (a - b).msb
           c := decide (b.toNat ≤ a.toNat)
           v := decide ((a - b).toInt ≠ a.toInt - b.toInt) }

/-- Set the sticky flag Q where a saturation occurred (R43). -/
def Eng.orQ (x : Eng) (sat : Bool) : Eng := { x with q := x.q || sat }

/-- `x` limited to `lo .. hi`. -/
def clampInt (lo hi x : Int) : Int := max lo (min hi x)

/-- The smallest and largest signed integers of `w` bits. -/
def intMin (w : Nat) : Int := -(2 ^ (w - 1) : Int)
def intMax (w : Nat) : Int := (2 ^ (w - 1) : Int) - 1

/-- `sat w`: the value limited to the signed range of `w` bits (R58). -/
def satInt (w : Nat) (x : Int) : Int := clampInt (intMin w) (intMax w) x
/-- Does `x` leave the signed range of `w` bits? -/
def saturates (w : Nat) (x : Int) : Bool := decide (x < intMin w ∨ intMax w < x)

/-- The shift of AEX (R61): round half up, then an arithmetic shift, on the exact value. -/
def roundShift (t : Int) (sh : Nat) : Int := (if sh = 0 then t else t + 2 ^ (sh - 1)) / 2 ^ sh

/-- The quotient of DIV with its fixed edge cases, and whether V and Q are set (R62). -/
def divResult (a b : Int) : Int × Bool :=
  if b = 0 then (if 0 ≤ a then intMax 64 else intMin 64, true)
  else if a = intMin 64 ∧ b = -1 then (intMax 64, true)
  else (a.tdiv b, false)

/-- The conditions of R60; `none` for an unlisted code. -/
def condHolds (x : Eng) : Nat → Option Bool
  | 0x0 => some x.z
  | 0x1 => some !x.z
  | 0x2 => some (x.n != x.v)
  | 0x3 => some (x.n == x.v)
  | 0x4 => some (!x.z && x.n == x.v)
  | 0x5 => some (x.z || x.n != x.v)
  | 0x6 => some !x.c
  | 0x7 => some x.c
  | 0x8 => some x.v
  | 0x9 => some !x.v
  | 0xA => some x.q
  | 0xB => some x.cd
  | 0xC => some !x.cd
  | 0xF => some true
  | _ => none

/-- The number of leading zeros of a 64-bit word, 0 to 64 (R59). -/
def leadingZeros (a : Word64) : Nat := 64 - (if a = 0 then 0 else a.toNat.log2 + 1)

end Sys2Proof.Machine
end

