-- ==== Sys2Proof/Config.lean ====
section
/-! DEFINITION. What one part or one implementation fixes and the spec leaves open: free values. None
has a body, so no proof can see what it is, and a claim holds whatever it is. -/
namespace Sys2Proof.Config

/-- The n-th free value of a run: what the spec leaves undefined or unstated (assumption 3). The field
`free` of the state counts the ones already used. -/
opaque free : Nat → Nat
/-- The n-th free signed value of a run (assumption 3). -/
opaque freeInt : Nat → Int
/-- The factory input delay of a TDC channel, `TDCn.DELAY` (R276). -/
opaque tdcFactoryDelay : Nat → Nat
/-- The DRAM rows left to spare at delivery, `EVR.STATUS.SPARES_LEFT` (R292, R299). -/
opaque dramSparesLeft : Nat
/-- The row of a 64-bit DRAM word (R292, R480): the rows' layout is not given. -/
opaque dramRow : Nat → Nat
/-- The factory transmit latency of port n in mode m, at 4 n + m, `PTPn.TX_LAT` (R328, R353). -/
opaque ptpTxLat : Nat → Nat
/-- The factory receive latency of port n in mode m, at 4 n + m, `PTPn.RX_LAT` (R328, R353). -/
opaque ptpRxLat : Nat → Nat
/-- The 128-bit unique number, four words, `SEC.UID` (R472). -/
opaque uid : Nat → Nat
/-- The nonce drawn at the release of POR, four words, `SEC.NONCE` (R466, R472): a random number. -/
opaque nonce : Nat → Nat
/-- The hash of the vendor key, fused at manufacture (R463). -/
opaque vendorHash : Nat
/-- The bytes of the factory area of the NOR (R445): written at manufacture, their layout is not given. -/
opaque norFactory : Nat → BitVec 8
/-- The manufacturer code in bits [11:1] of the IDCODE (R484). -/
opaque jtagMaker : Nat

/-- Whether an inexact quotient whose rounding the spec does not state is rounded up (assumption 4). -/
opaque roundUp : Int → Int → Bool
/-- The fixed latency L of a trigger action other than an output pulse, in 2^-16 ns (R236). -/
opaque trigLatency : Nat → BitVec 32
/-- The factory delay of the crossbar route of a spare to a role, in 2^-10 ns (R262). -/
opaque tdcRouteDelay : Nat → Nat → Nat
/-- The fixed delay of the TWIN_CLK output path, in 2^-16 ns (R206, R363). -/
opaque twinOutDelay : Int
/-- The proportional gain, in 2^-32, and the integral gain, in 2^-8 ppb per 2^-12 ns and ns over 2^64, of a tracking loop
of a bandwidth in 0.1 Hz and a damping in 10^-4: the spec states both and no formula (R128, assumption 31). -/
opaque trackKp : Nat → Nat → Int
opaque trackKi : Nat → Nat → Int
/-- The bandwidth in 0.1 Hz of the reserved codes of BW (R128). -/
opaque trackBw : Nat → Nat
/-- The diagonal of the matrix with which the least-squares fit starts: the spec does not state it (R183). -/
opaque fitStart : Nat → Nat
/-- Whether a VCO band reaches a frequency (in 2^-40 Hz) with the device's tuning margin, which the spec does
not give (R196, R201). -/
opaque bandCovers : Nat → Nat → Bool

end Sys2Proof.Config
end

