-- ==== Sys2Proof/Machine/Regs.lean ====
section
/-! DEFINITION. Every register field of the register tables of spec/: its address, its place in the
word, its access code (R16) and its value after POR (R14). `n` is the instance of the block, `i` the
index of the register within it. The triplicated LEG window has no fields here: Machine/Host holds it. -/
namespace Sys2Proof.Machine

/-- The access codes of R16. -/
inductive Access | rw | ro | rwhS | rwhH | cmd | cnt | st | lck | wo | sh
deriving DecidableEq, Repr

/-- A register field: the address of its register, its lowest bit, its width, its access code and its
value after POR (R13, R14). -/
structure Fld where
  addr : Nat
  lo : Nat
  width : Nat
  acc : Access
  reset : Nat
deriving DecidableEq, Repr

/-- The field's key in the register table: one cell per field. -/
def Fld.key (f : Fld) : Nat := 32 * f.addr + f.lo

/-- The class of event source `ev` after POR (R382): 0 SLATE, 1 AMBER, 2 CRIMSON. -/
def evResetClass (ev : Nat) : Nat :=
  if ev = 21 then 2 else if ev ∈ [0, 1, 2, 3, 4, 6, 9, 10, 12, 18, 25, 32, 44] then 1 else 0

/-- The action of event source `ev` after POR (R382): no source has one. -/
def evResetAction (_ev : Nat) : Nat := 0

/-- `DEV.ID.PART` [31:16] RO (R5). -/
def Reg.DEV_ID_PART : Fld := ⟨0x0, 16, 16, .ro, 0x7240⟩
/-- `DEV.ID.REV` [7:0] RO (R5). -/
def Reg.DEV_ID_REV : Fld := ⟨0x0, 0, 8, .ro, 0xB0⟩
/-- `DEV.CLK_CFG.XO_FREQ` [27:0] RW (R30). -/
def Reg.DEV_CLK_CFG_XO_FREQ : Fld := ⟨0x40, 0, 28, .rw, 0⟩
/-- `DEV.CLK_CMD.START` [0:0] CMD (R31). -/
def Reg.DEV_CLK_CMD_START : Fld := ⟨0x44, 0, 1, .cmd, 0⟩
/-- `DEV.CLK_STATUS.TBPLL_NINT` [15:8] RO (R32). -/
def Reg.DEV_CLK_STATUS_TBPLL_NINT : Fld := ⟨0x48, 8, 8, .ro, 0⟩
/-- `DEV.CLK_STATUS.START_FAIL` [6:6] RO (R32). -/
def Reg.DEV_CLK_STATUS_START_FAIL : Fld := ⟨0x48, 6, 1, .ro, 0⟩
/-- `DEV.CLK_STATUS.CFG_ERR` [5:5] ST (R32). -/
def Reg.DEV_CLK_STATUS_CFG_ERR : Fld := ⟨0x48, 5, 1, .st, 1⟩
/-- `DEV.CLK_STATUS.SERVO_HOLD` [4:4] ST (R32). -/
def Reg.DEV_CLK_STATUS_SERVO_HOLD : Fld := ⟨0x48, 4, 1, .st, 0⟩
/-- `DEV.CLK_STATUS.TB_ON_XO` [3:3] ST (R32). -/
def Reg.DEV_CLK_STATUS_TB_ON_XO : Fld := ⟨0x48, 3, 1, .st, 0⟩
/-- `DEV.CLK_STATUS.SYSPLL_LOCK` [2:2] ST (R32). -/
def Reg.DEV_CLK_STATUS_SYSPLL_LOCK : Fld := ⟨0x48, 2, 1, .st, 0⟩
/-- `DEV.CLK_STATUS.TBPLL_LOCK` [1:1] ST (R32). -/
def Reg.DEV_CLK_STATUS_TBPLL_LOCK : Fld := ⟨0x48, 1, 1, .st, 0⟩
/-- `DEV.CLK_STATUS.XO_ACTIVE` [0:0] ST (R32). -/
def Reg.DEV_CLK_STATUS_XO_ACTIVE : Fld := ⟨0x48, 0, 1, .st, 0⟩
/-- `DEV.ISL_RING.ON_RING` [31:0] ST (R33). -/
def Reg.DEV_ISL_RING_ON_RING : Fld := ⟨0x4C, 0, 32, .st, 0x835FFFFA⟩
/-- `DEV.TEMP.VALID` [31:31] ST (R35). -/
def Reg.DEV_TEMP_VALID (i : Nat) : Fld := ⟨0x50 + 0x4 * i, 31, 1, .st, 0⟩
/-- `DEV.TEMP.VALUE` [15:0] RO (R35). -/
def Reg.DEV_TEMP_VALUE (i : Nat) : Fld := ⟨0x50 + 0x4 * i, 0, 16, .ro, 0⟩
/-- `DEV.XTH.VALID` [31:31] ST (R35). -/
def Reg.DEV_XTH_VALID : Fld := ⟨0x68, 31, 1, .st, 0⟩
/-- `DEV.XTH.RATIO` [15:0] RO (R35). -/
def Reg.DEV_XTH_RATIO : Fld := ⟨0x68, 0, 16, .ro, 0⟩
/-- `DEV.BELL.PERIOD` [24:0] RW (R86). -/
def Reg.DEV_BELL_PERIOD : Fld := ⟨0x80, 0, 25, .rw, 0x1F4⟩
/-- `DEV.BELL_STATUS.ON_XO` [1:1] ST (R86). -/
def Reg.DEV_BELL_STATUS_ON_XO : Fld := ⟨0x84, 1, 1, .st, 0⟩
/-- `DEV.BELL_STATUS.PERIOD_REJ` [0:0] RO (R86). -/
def Reg.DEV_BELL_STATUS_PERIOD_REJ : Fld := ⟨0x84, 0, 1, .ro, 0⟩
/-- `DEV.LOAD_CMD.SLOT` [1:1] RW (R98). -/
def Reg.DEV_LOAD_CMD_SLOT : Fld := ⟨0x90, 1, 1, .rw, 0⟩
/-- `DEV.LOAD_CMD.LOAD` [0:0] CMD (R98). -/
def Reg.DEV_LOAD_CMD_LOAD : Fld := ⟨0x90, 0, 1, .cmd, 0⟩
/-- `DEV.LOAD_STATUS.ENGINE` [12:8] RO (R98). -/
def Reg.DEV_LOAD_STATUS_ENGINE : Fld := ⟨0x94, 8, 5, .ro, 0⟩
/-- `DEV.LOAD_STATUS.LOADED` [7:7] ST (R98). -/
def Reg.DEV_LOAD_STATUS_LOADED : Fld := ⟨0x94, 7, 1, .st, 0⟩
/-- `DEV.LOAD_STATUS.RESULT` [3:0] RO (R98). -/
def Reg.DEV_LOAD_STATUS_RESULT : Fld := ⟨0x94, 0, 4, .ro, 0⟩
/-- `DEV.UART_CFG.EN` [31:31] RW (R249). -/
def Reg.DEV_UART_CFG_EN (i : Nat) : Fld := ⟨0xA0 + 0x4 * i, 31, 1, .rw, 0⟩
/-- `DEV.UART_CFG.PARITY` [30:29] RW (R249). -/
def Reg.DEV_UART_CFG_PARITY (i : Nat) : Fld := ⟨0xA0 + 0x4 * i, 29, 2, .rw, 0⟩
/-- `DEV.UART_CFG.TS` [25:24] RW (R249). -/
def Reg.DEV_UART_CFG_TS (i : Nat) : Fld := ⟨0xA0 + 0x4 * i, 24, 2, .rw, 0⟩
/-- `DEV.UART_CFG.BAUD` [19:0] RW (R249). -/
def Reg.DEV_UART_CFG_BAUD (i : Nat) : Fld := ⟨0xA0 + 0x4 * i, 0, 20, .rw, 0x2580⟩
/-- `DEV.UART_STATUS.ERR1` [31:24] CNT (R249). -/
def Reg.DEV_UART_STATUS_ERR1 : Fld := ⟨0xA8, 24, 8, .cnt, 0⟩
/-- `DEV.UART_STATUS.ERR0` [23:16] CNT (R249). -/
def Reg.DEV_UART_STATUS_ERR0 : Fld := ⟨0xA8, 16, 8, .cnt, 0⟩
/-- `DEV.UART_STATUS.CFG_ERR1` [1:1] ST (R249). -/
def Reg.DEV_UART_STATUS_CFG_ERR1 : Fld := ⟨0xA8, 1, 1, .st, 0⟩
/-- `DEV.UART_STATUS.CFG_ERR0` [0:0] ST (R249). -/
def Reg.DEV_UART_STATUS_CFG_ERR0 : Fld := ⟨0xA8, 0, 1, .st, 0⟩
/-- `DEV.GPIO_CFG.IDLE` [15:8] RW (R240). -/
def Reg.DEV_GPIO_CFG_IDLE : Fld := ⟨0xB0, 8, 8, .rw, 0⟩
/-- `DEV.GPIO_CFG.OE` [7:0] RW (R240). -/
def Reg.DEV_GPIO_CFG_OE : Fld := ⟨0xB0, 0, 8, .rw, 0⟩
/-- `PWR.CMD.GO` [4:4] CMD (R442). -/
def Reg.PWR_CMD_GO : Fld := ⟨0x1000, 4, 1, .cmd, 0⟩
/-- `PWR.CMD.TARGET` [1:0] RW (R442). -/
def Reg.PWR_CMD_TARGET : Fld := ⟨0x1000, 0, 2, .rw, 0⟩
/-- `PWR.STATUS.SEQ_ERR` [8:8] RO (R442). -/
def Reg.PWR_STATUS_SEQ_ERR : Fld := ⟨0x1004, 8, 1, .ro, 0⟩
/-- `PWR.STATUS.REJ_REASON` [7:4] RO (R442). -/
def Reg.PWR_STATUS_REJ_REASON : Fld := ⟨0x1004, 4, 4, .ro, 0⟩
/-- `PWR.STATUS.BUSY` [2:2] ST (R442). -/
def Reg.PWR_STATUS_BUSY : Fld := ⟨0x1004, 2, 1, .st, 0⟩
/-- `PWR.STATUS.STATE` [1:0] RO (R442). -/
def Reg.PWR_STATUS_STATE : Fld := ⟨0x1004, 0, 2, .ro, 0⟩
/-- `PWR.RAIL_STATUS.WARN` [24:16] ST (R442). -/
def Reg.PWR_RAIL_STATUS_WARN : Fld := ⟨0x1008, 16, 9, .st, 0⟩
/-- `PWR.RAIL_STATUS.GOOD` [8:0] ST (R442). -/
def Reg.PWR_RAIL_STATUS_GOOD : Fld := ⟨0x1008, 0, 9, .st, 0x1FF⟩
/-- `PWR.BROWN_COUNT.COUNT` [31:0] CNT (R442). -/
def Reg.PWR_BROWN_COUNT_COUNT : Fld := ⟨0x100C, 0, 32, .cnt, 0⟩
/-- `PWR.RAIL_LAST.RAIL` [31:28] RO (R442). -/
def Reg.PWR_RAIL_LAST_RAIL : Fld := ⟨0x1010, 28, 4, .ro, 0⟩
/-- `PWR.RAIL_LAST.US` [23:0] RO (R442). -/
def Reg.PWR_RAIL_LAST_US : Fld := ⟨0x1010, 0, 24, .ro, 0⟩
/-- `PWR.ISL_FAULT.FAULT` [31:0] ST (R442). -/
def Reg.PWR_ISL_FAULT_FAULT : Fld := ⟨0x1014, 0, 32, .st, 0⟩
/-- `RST.CAUSE.RAIL` [31:28] RO (R444). -/
def Reg.RST_CAUSE_RAIL : Fld := ⟨0x2000, 28, 4, .ro, 0xF⟩
/-- `RST.CAUSE.ISLAND_LAST` [15:8] RO (R444). -/
def Reg.RST_CAUSE_ISLAND_LAST : Fld := ⟨0x2000, 8, 8, .ro, 0xFF⟩
/-- `RST.CAUSE.BUSY` [3:3] ST (R444). -/
def Reg.RST_CAUSE_BUSY : Fld := ⟨0x2000, 3, 1, .st, 0⟩
/-- `RST.CAUSE.KIND` [2:0] RO (R444). -/
def Reg.RST_CAUSE_KIND : Fld := ⟨0x2000, 0, 3, .ro, 0⟩
/-- `RST.CMD.ISLAND` [12:8] RW (R444). -/
def Reg.RST_CMD_ISLAND : Fld := ⟨0x2004, 8, 5, .rw, 0⟩
/-- `RST.CMD.ISLAND_GO` [1:1] CMD (R444). -/
def Reg.RST_CMD_ISLAND_GO : Fld := ⟨0x2004, 1, 1, .cmd, 0⟩
/-- `RST.CMD.SOFT` [0:0] CMD (R444). -/
def Reg.RST_CMD_SOFT : Fld := ⟨0x2004, 0, 1, .cmd, 0⟩
/-- `RST.WDOG.EN` [31:31] RW (R444). -/
def Reg.RST_WDOG_EN : Fld := ⟨0x2008, 31, 1, .rw, 0⟩
/-- `RST.WDOG.TIMEOUT` [15:0] RW (R444). -/
def Reg.RST_WDOG_TIMEOUT : Fld := ⟨0x2008, 0, 16, .rw, 0x3E8⟩
/-- `RST.WDOG_KICK.KICK` [0:0] CMD (R444). -/
def Reg.RST_WDOG_KICK_KICK : Fld := ⟨0x200C, 0, 1, .cmd, 0⟩
/-- `RST.COUNT.PIN` [31:24] CNT (R444). -/
def Reg.RST_COUNT_PIN : Fld := ⟨0x2010, 24, 8, .cnt, 0⟩
/-- `RST.COUNT.SOFT` [23:16] CNT (R444). -/
def Reg.RST_COUNT_SOFT : Fld := ⟨0x2010, 16, 8, .cnt, 0⟩
/-- `RST.COUNT.WDOG` [15:8] CNT (R444). -/
def Reg.RST_COUNT_WDOG : Fld := ⟨0x2010, 8, 8, .cnt, 0⟩
/-- `RST.COUNT.TWIN` [7:0] CNT (R444). -/
def Reg.RST_COUNT_TWIN : Fld := ⟨0x2010, 0, 8, .cnt, 0⟩
/-- `FLT.SRC_CFG.TARGET` [31:24] LCK (R396). -/
def Reg.FLT_SRC_CFG_TARGET (i : Nat) : Fld := ⟨0x3000 + 0x4 * i, 24, 8, .lck, 0⟩
/-- `FLT.SRC_CFG.SELF` [23:23] LCK (R396). -/
def Reg.FLT_SRC_CFG_SELF (i : Nat) : Fld := ⟨0x3000 + 0x4 * i, 23, 1, .lck, 0⟩
/-- `FLT.SRC_CFG.IRQ_EN` [22:22] LCK (R396). -/
def Reg.FLT_SRC_CFG_IRQ_EN (i : Nat) : Fld := ⟨0x3000 + 0x4 * i, 22, 1, .lck, 1⟩
/-- `FLT.SRC_CFG.RECESS_M` [21:16] LCK (R396). -/
def Reg.FLT_SRC_CFG_RECESS_M (i : Nat) : Fld := ⟨0x3000 + 0x4 * i, 16, 6, .lck, 0xA⟩
/-- `FLT.SRC_CFG.RECESS_E` [15:14] LCK (R396). -/
def Reg.FLT_SRC_CFG_RECESS_E (i : Nat) : Fld := ⟨0x3000 + 0x4 * i, 14, 2, .lck, 0⟩
/-- `FLT.SRC_CFG.GRACE_M` [13:9] LCK (R396). -/
def Reg.FLT_SRC_CFG_GRACE_M (i : Nat) : Fld := ⟨0x3000 + 0x4 * i, 9, 5, .lck, 1⟩
/-- `FLT.SRC_CFG.GRACE_E` [8:6] LCK (R396). -/
def Reg.FLT_SRC_CFG_GRACE_E (i : Nat) : Fld := ⟨0x3000 + 0x4 * i, 6, 3, .lck, 3⟩
/-- `FLT.SRC_CFG.ACTION` [5:3] LCK (R396). -/
def Reg.FLT_SRC_CFG_ACTION (i : Nat) : Fld := ⟨0x3000 + 0x4 * i, 3, 3, .lck, evResetAction i⟩
/-- `FLT.SRC_CFG.CLASS` [2:1] LCK (R396). -/
def Reg.FLT_SRC_CFG_CLASS (i : Nat) : Fld := ⟨0x3000 + 0x4 * i, 1, 2, .lck, evResetClass i⟩
/-- `FLT.SRC_STATUS.RECOVERIES` [31:16] CNT (R396). -/
def Reg.FLT_SRC_STATUS_RECOVERIES (i : Nat) : Fld := ⟨0x3200 + 0x4 * i, 16, 16, .cnt, 0⟩
/-- `FLT.SRC_STATUS.RAISES` [15:8] CNT (R396). -/
def Reg.FLT_SRC_STATUS_RAISES (i : Nat) : Fld := ⟨0x3200 + 0x4 * i, 8, 8, .cnt, 0⟩
/-- `FLT.SRC_STATUS.CFG_ERR` [7:7] ST (R396). -/
def Reg.FLT_SRC_STATUS_CFG_ERR (i : Nat) : Fld := ⟨0x3200 + 0x4 * i, 7, 1, .st, 0⟩
/-- `FLT.SRC_STATUS.SEEN` [6:6] RO (R396). -/
def Reg.FLT_SRC_STATUS_SEEN (i : Nat) : Fld := ⟨0x3200 + 0x4 * i, 6, 1, .ro, 0⟩
/-- `FLT.SRC_STATUS.OWNED` [5:5] RO (R396). -/
def Reg.FLT_SRC_STATUS_OWNED (i : Nat) : Fld := ⟨0x3200 + 0x4 * i, 5, 1, .ro, 0⟩
/-- `FLT.SRC_STATUS.ACTED` [4:4] RO (R396). -/
def Reg.FLT_SRC_STATUS_ACTED (i : Nat) : Fld := ⟨0x3200 + 0x4 * i, 4, 1, .ro, 0⟩
/-- `FLT.SRC_STATUS.CAUSE` [3:3] ST (R396). -/
def Reg.FLT_SRC_STATUS_CAUSE (i : Nat) : Fld := ⟨0x3200 + 0x4 * i, 3, 1, .st, 0⟩
/-- `FLT.SRC_STATUS.STATE` [1:0] RO (R396). -/
def Reg.FLT_SRC_STATUS_STATE (i : Nat) : Fld := ⟨0x3200 + 0x4 * i, 0, 2, .ro, 0⟩
/-- `FLT.SRC_DETAIL.INST` [31:24] RO (R396). -/
def Reg.FLT_SRC_DETAIL_INST (i : Nat) : Fld := ⟨0x3400 + 0x4 * i, 24, 8, .ro, 0xFF⟩
/-- `FLT.SRC_DETAIL.INFO` [23:0] RO (R396). -/
def Reg.FLT_SRC_DETAIL_INFO (i : Nat) : Fld := ⟨0x3400 + 0x4 * i, 0, 24, .ro, 0⟩
/-- `FLT.CTRL.LOCK` [0:0] WO (R397). -/
def Reg.FLT_CTRL_LOCK : Fld := ⟨0x3600, 0, 1, .wo, 0⟩
/-- `FLT.ACK.LATE` [10:10] RO (R397). -/
def Reg.FLT_ACK_LATE : Fld := ⟨0x3604, 10, 1, .ro, 0⟩
/-- `FLT.ACK.REJ` [9:9] RO (R397). -/
def Reg.FLT_ACK_REJ : Fld := ⟨0x3604, 9, 1, .ro, 0⟩
/-- `FLT.ACK.ACK` [8:8] CMD (R397). -/
def Reg.FLT_ACK : Fld := ⟨0x3604, 8, 1, .cmd, 0⟩
/-- `FLT.ACK.SRC` [6:0] RW (R397). -/
def Reg.FLT_ACK_SRC : Fld := ⟨0x3604, 0, 7, .rw, 0⟩
/-- `FLT.SUMMARY.LIFE_DIRTY` [3:3] ST (R397). -/
def Reg.FLT_SUMMARY_LIFE_DIRTY : Fld := ⟨0x3608, 3, 1, .st, 0⟩
/-- `FLT.SUMMARY.SAFE` [2:2] ST (R397). -/
def Reg.FLT_SUMMARY_SAFE : Fld := ⟨0x3608, 2, 1, .st, 0⟩
/-- `FLT.SUMMARY.FAULT` [1:1] ST (R397). -/
def Reg.FLT_SUMMARY_FAULT : Fld := ⟨0x3608, 1, 1, .st, 0⟩
/-- `FLT.SUMMARY.IRQ` [0:0] ST (R397). -/
def Reg.FLT_SUMMARY_IRQ : Fld := ⟨0x3608, 0, 1, .st, 0⟩
/-- `FLT.ACTIVE.ACTIVE` [31:0] ST (R397). -/
def Reg.FLT_ACTIVE (i : Nat) : Fld := ⟨0x3610 + 0x4 * i, 0, 32, .st, 0⟩
/-- `FLT.IRQ.REQ` [31:0] ST (R397). -/
def Reg.FLT_IRQ_REQ (i : Nat) : Fld := ⟨0x3620 + 0x4 * i, 0, 32, .st, 0⟩
/-- `FLT.TEMP.LIMIT` [15:0] RW (R397). -/
def Reg.FLT_TEMP_LIMIT : Fld := ⟨0x3630, 0, 16, .rw, 0x3700⟩
/-- `FLT.LIFE_SEL.SRC` [6:0] RW (R397). -/
def Reg.FLT_LIFE_SEL_SRC : Fld := ⟨0x3634, 0, 7, .rw, 0⟩
/-- `FLT.LIFE.COUNT` [31:0] RO (R397). -/
def Reg.FLT_LIFE_COUNT : Fld := ⟨0x3638, 0, 32, .ro, 0⟩
/-- `FLT.CMD.LIFE_SAVE` [0:0] CMD (R397). -/
def Reg.FLT_CMD_LIFE_SAVE : Fld := ⟨0x363C, 0, 1, .cmd, 0⟩
/-- `HOST.CFG.LOCK` [16:16] WO (R421). -/
def Reg.HOST_CFG_LOCK : Fld := ⟨0x4000, 16, 1, .wo, 0⟩
/-- `HOST.CFG.SPI_WAIT` [3:0] LCK (R421). -/
def Reg.HOST_CFG_SPI_WAIT : Fld := ⟨0x4000, 0, 4, .lck, 1⟩
/-- `HOST.STATUS.PCIE_LINK` [7:7] ST (R421). -/
def Reg.HOST_STATUS_PCIE_LINK : Fld := ⟨0x4004, 7, 1, .st, 0⟩
/-- `HOST.STATUS.BME` [6:6] ST (R421). -/
def Reg.HOST_STATUS_BME : Fld := ⟨0x4004, 6, 1, .st, 0⟩
/-- `HOST.STATUS.MSIX_EN` [5:5] ST (R421). -/
def Reg.HOST_STATUS_MSIX_EN : Fld := ⟨0x4004, 5, 1, .st, 0⟩
/-- `HOST.STATUS.I2C_ADDR` [1:0] RO (R421). -/
def Reg.HOST_STATUS_I2C_ADDR : Fld := ⟨0x4004, 0, 2, .ro, 0⟩
/-- `HOST.SPI_STATUS.HOLD_DROP` [31:16] CNT (R421). -/
def Reg.HOST_SPI_STATUS_HOLD_DROP : Fld := ⟨0x4008, 16, 16, .cnt, 0⟩
/-- `HOST.SPI_STATUS.HOLD_VALID` [8:8] ST (R421). -/
def Reg.HOST_SPI_STATUS_HOLD_VALID : Fld := ⟨0x4008, 8, 1, .st, 0⟩
/-- `HOST.SPI_STATUS.LAST` [7:0] RO (R421). -/
def Reg.HOST_SPI_STATUS_LAST : Fld := ⟨0x4008, 0, 8, .ro, 0⟩
/-- `HOST.SPI_HOLD.ADDR` [23:0] RO (R421). -/
def Reg.HOST_SPI_HOLD_ADDR : Fld := ⟨0x400C, 0, 24, .ro, 0⟩
/-- `HOST.I2C_STATUS.PARTIAL` [31:16] CNT (R421). -/
def Reg.HOST_I2C_STATUS_PARTIAL : Fld := ⟨0x4010, 16, 16, .cnt, 0⟩
/-- `HOST.I2C_STATUS.TIMEOUT` [15:0] CNT (R421). -/
def Reg.HOST_I2C_STATUS_TIMEOUT : Fld := ⟨0x4010, 0, 16, .cnt, 0⟩
/-- `HOST.PCIE_STATUS.PARTIAL` [31:16] CNT (R421). -/
def Reg.HOST_PCIE_STATUS_PARTIAL : Fld := ⟨0x4014, 16, 16, .cnt, 0⟩
/-- `HOST.PCIE_STATUS.WIDTH` [11:8] RO (R421). -/
def Reg.HOST_PCIE_STATUS_WIDTH : Fld := ⟨0x4014, 8, 4, .ro, 0⟩
/-- `HOST.PCIE_STATUS.SPEED` [7:4] RO (R421). -/
def Reg.HOST_PCIE_STATUS_SPEED : Fld := ⟨0x4014, 4, 4, .ro, 0⟩
/-- `HOST.PCIE_ID.DEVICE` [31:16] RO (R421). -/
def Reg.HOST_PCIE_ID_DEVICE : Fld := ⟨0x4018, 16, 16, .ro, 0x7240⟩
/-- `HOST.PCIE_ID.VENDOR` [15:0] RO (R421). -/
def Reg.HOST_PCIE_ID_VENDOR : Fld := ⟨0x4018, 0, 16, .ro, 0x1EC7⟩
/-- `HOST.PARITY.FOUND` [31:16] CNT (R421). -/
def Reg.HOST_PARITY_FOUND : Fld := ⟨0x4020, 16, 16, .cnt, 0⟩
/-- `HOST.PARITY.OVF` [5:5] ST (R421). -/
def Reg.HOST_PARITY_OVF : Fld := ⟨0x4020, 5, 1, .st, 0⟩
/-- `HOST.PARITY.PENDING` [4:0] RO (R421). -/
def Reg.HOST_PARITY_PENDING : Fld := ⟨0x4020, 0, 5, .ro, 0⟩
/-- `HOST.PARITY_NEXT.ADDR` [23:0] RO (R421). -/
def Reg.HOST_PARITY_NEXT_ADDR : Fld := ⟨0x4024, 0, 24, .ro, 0⟩
/-- `HOST.LEG_STATUS.CORRECTED` [31:16] CNT (R421). -/
def Reg.HOST_LEG_STATUS_CORRECTED : Fld := ⟨0x4028, 16, 16, .cnt, 0⟩
/-- `HOST.LEG_STATUS.UNMAPPED` [15:0] CNT (R421). -/
def Reg.HOST_LEG_STATUS_UNMAPPED : Fld := ⟨0x4028, 0, 16, .cnt, 0⟩
/-- `HOST.SCRATCH.DATA` [31:0] RW (R421). -/
def Reg.HOST_SCRATCH_DATA (i : Nat) : Fld := ⟨0x4030 + 0x4 * i, 0, 32, .rw, 0⟩
/-- `SEC.CTRL.LOCK` [4:4] WO (R472). -/
def Reg.SEC_CTRL_LOCK : Fld := ⟨0x5000, 4, 1, .wo, 0⟩
/-- `SEC.CTRL.SLOT_LOCK_B` [3:3] LCK (R472). -/
def Reg.SEC_CTRL_SLOT_LOCK_B : Fld := ⟨0x5000, 3, 1, .lck, 0⟩
/-- `SEC.CTRL.SLOT_LOCK_A` [2:2] LCK (R472). -/
def Reg.SEC_CTRL_SLOT_LOCK_A : Fld := ⟨0x5000, 2, 1, .lck, 0⟩
/-- `SEC.CTRL.FUSE_EN` [1:1] LCK (R472). -/
def Reg.SEC_CTRL_FUSE_EN : Fld := ⟨0x5000, 1, 1, .lck, 1⟩
/-- `SEC.CTRL.PROV_EN` [0:0] LCK (R472). -/
def Reg.SEC_CTRL_PROV_EN : Fld := ⟨0x5000, 0, 1, .lck, 1⟩
/-- `SEC.STATUS.DISABLED` [4:4] ST (R472). -/
def Reg.SEC_STATUS_DISABLED : Fld := ⟨0x5004, 4, 1, .st, 0⟩
/-- `SEC.STATUS.TOKEN_REJ` [3:3] RO (R472). -/
def Reg.SEC_STATUS_TOKEN_REJ : Fld := ⟨0x5004, 3, 1, .ro, 0⟩
/-- `SEC.STATUS.ERASED` [2:2] ST (R472). -/
def Reg.SEC_STATUS_ERASED : Fld := ⟨0x5004, 2, 1, .st, 0⟩
/-- `SEC.STATUS.GATE` [1:0] RO (R472). -/
def Reg.SEC_STATUS_GATE : Fld := ⟨0x5004, 0, 2, .ro, 0⟩
/-- `SEC.BOOT.ADV_ROLLBACK` [1:1] LCK (R472). -/
def Reg.SEC_BOOT_ADV_ROLLBACK : Fld := ⟨0x5008, 1, 1, .lck, 0⟩
/-- `SEC.BOOT.FALLBACK` [0:0] LCK (R472). -/
def Reg.SEC_BOOT_FALLBACK : Fld := ⟨0x5008, 0, 1, .lck, 0⟩
/-- `SEC.BOOT_STATUS.DETAIL` [11:8] RO (R472). -/
def Reg.SEC_BOOT_STATUS_DETAIL : Fld := ⟨0x500C, 8, 4, .ro, 0⟩
/-- `SEC.BOOT_STATUS.FIRST_RESULT` [7:4] RO (R472). -/
def Reg.SEC_BOOT_STATUS_FIRST_RESULT : Fld := ⟨0x500C, 4, 4, .ro, 0⟩
/-- `SEC.BOOT_STATUS.SLOT_USED` [0:0] RO (R472). -/
def Reg.SEC_BOOT_STATUS_SLOT_USED : Fld := ⟨0x500C, 0, 1, .ro, 0⟩
/-- `SEC.KEY_CMD.RESULT` [31:28] RO (R472). -/
def Reg.SEC_KEY_CMD_RESULT : Fld := ⟨0x5010, 28, 4, .ro, 0⟩
/-- `SEC.KEY_CMD.SLOT` [14:9] RW (R472). -/
def Reg.SEC_KEY_CMD_SLOT : Fld := ⟨0x5010, 9, 6, .rw, 0⟩
/-- `SEC.KEY_CMD.LEN` [8:2] RW (R472). -/
def Reg.SEC_KEY_CMD_LEN : Fld := ⟨0x5010, 2, 7, .rw, 0⟩
/-- `SEC.KEY_CMD.VOID` [1:1] CMD (R472). -/
def Reg.SEC_KEY_CMD_VOID : Fld := ⟨0x5010, 1, 1, .cmd, 0⟩
/-- `SEC.KEY_CMD.PROVISION` [0:0] CMD (R472). -/
def Reg.SEC_KEY_CMD_PROVISION : Fld := ⟨0x5010, 0, 1, .cmd, 0⟩
/-- `SEC.KEY_STATUS.FILLED` [31:0] ST (R472). -/
def Reg.SEC_KEY_STATUS_FILLED (i : Nat) : Fld := ⟨0x5014 + 0x4 * i, 0, 32, .st, 0⟩
/-- `SEC.FUSE_CMD.RESULT` [7:5] RO (R472). -/
def Reg.SEC_FUSE_CMD_RESULT : Fld := ⟨0x501C, 5, 3, .ro, 0⟩
/-- `SEC.FUSE_CMD.SEL` [4:1] RW (R472). -/
def Reg.SEC_FUSE_CMD_SEL : Fld := ⟨0x501C, 1, 4, .rw, 0⟩
/-- `SEC.FUSE_CMD.PROG` [0:0] CMD (R472). -/
def Reg.SEC_FUSE_CMD_PROG : Fld := ⟨0x501C, 0, 1, .cmd, 0⟩
/-- `SEC.UID.DATA` [31:0] RO (R472). -/
def Reg.SEC_UID_DATA (i : Nat) : Fld := ⟨0x5020 + 0x4 * i, 0, 32, .ro, Config.uid i⟩
/-- `SEC.NONCE.DATA` [31:0] RO (R472). -/
def Reg.SEC_NONCE_DATA (i : Nat) : Fld := ⟨0x5030 + 0x4 * i, 0, 32, .ro, Config.nonce i % 2 ^ 32⟩
/-- `SEC.KEY_DATA.DATA` [31:0] RW (R472). -/
def Reg.SEC_KEY_DATA_DATA (i : Nat) : Fld := ⟨0x5040 + 0x4 * i, 0, 32, .rw, 0⟩
/-- `SEC.FUSE_DATA.DATA` [31:0] RWH-H (R472). -/
def Reg.SEC_FUSE_DATA_DATA (i : Nat) : Fld := ⟨0x5080 + 0x4 * i, 0, 32, .rwhH, 0⟩
/-- `SEC.TOKEN.DATA` [31:0] RW (R472). -/
def Reg.SEC_TOKEN_DATA (i : Nat) : Fld := ⟨0x50A0 + 0x4 * i, 0, 32, .rw, 0⟩
/-- `SEC.DEBUG_OPEN.GO` [0:0] CMD (R472). -/
def Reg.SEC_DEBUG_OPEN_GO : Fld := ⟨0x5150, 0, 1, .cmd, 0⟩
/-- `JNL.STATUS.WORN` [5:5] ST (R470). -/
def Reg.JNL_STATUS_WORN : Fld := ⟨0x6000, 5, 1, .st, 0⟩
/-- `JNL.STATUS.DEFERRING` [4:4] ST (R470). -/
def Reg.JNL_STATUS_DEFERRING : Fld := ⟨0x6000, 4, 1, .st, 0⟩
/-- `JNL.STATUS.COMPACTING` [3:3] ST (R470). -/
def Reg.JNL_STATUS_COMPACTING : Fld := ⟨0x6000, 3, 1, .st, 0⟩
/-- `JNL.STATUS.COMPACT_DUE` [2:2] ST (R470). -/
def Reg.JNL_STATUS_COMPACT_DUE : Fld := ⟨0x6000, 2, 1, .st, 0⟩
/-- `JNL.STATUS.EMPTY` [1:1] ST (R470). -/
def Reg.JNL_STATUS_EMPTY : Fld := ⟨0x6000, 1, 1, .st, 0⟩
/-- `JNL.STATUS.ACTIVE_HALF` [0:0] RO (R470). -/
def Reg.JNL_STATUS_ACTIVE_HALF : Fld := ⟨0x6000, 0, 1, .ro, 0⟩
/-- `JNL.CMD.COMPACT` [2:2] CMD (R470). -/
def Reg.JNL_CMD_COMPACT : Fld := ⟨0x6004, 2, 1, .cmd, 0⟩
/-- `JNL.CMD.FIND` [1:1] CMD (R470). -/
def Reg.JNL_CMD_FIND : Fld := ⟨0x6004, 1, 1, .cmd, 0⟩
/-- `JNL.CMD.APPEND` [0:0] CMD (R470). -/
def Reg.JNL_CMD_APPEND : Fld := ⟨0x6004, 0, 1, .cmd, 0⟩
/-- `JNL.FIND.TYPE` [31:24] RW (R470). -/
def Reg.JNL_FIND_TYPE : Fld := ⟨0x6008, 24, 8, .rw, 0⟩
/-- `JNL.FIND.KEY` [23:16] RW (R470). -/
def Reg.JNL_FIND_KEY : Fld := ⟨0x6008, 16, 8, .rw, 0⟩
/-- `JNL.FIND.LEN` [8:0] RW (R470). -/
def Reg.JNL_FIND_LEN : Fld := ⟨0x6008, 0, 9, .rw, 0⟩
/-- `JNL.RESULT.RESULT` [31:24] RO (R470). -/
def Reg.JNL_RESULT : Fld := ⟨0x600C, 24, 8, .ro, 0⟩
/-- `JNL.RESULT.LEN` [12:0] RO (R470). -/
def Reg.JNL_RESULT_LEN : Fld := ⟨0x600C, 0, 13, .ro, 0⟩
/-- `JNL.NOR_ADDR.ADDR` [23:0] RW (R470). -/
def Reg.JNL_NOR_ADDR_ADDR : Fld := ⟨0x6010, 0, 24, .rw, 0⟩
/-- `JNL.NOR_CMD.ERASE` [2:2] CMD (R470). -/
def Reg.JNL_NOR_CMD_ERASE : Fld := ⟨0x6014, 2, 1, .cmd, 0⟩
/-- `JNL.NOR_CMD.PROGRAM` [1:1] CMD (R470). -/
def Reg.JNL_NOR_CMD_PROGRAM : Fld := ⟨0x6014, 1, 1, .cmd, 0⟩
/-- `JNL.NOR_CMD.READ` [0:0] CMD (R470). -/
def Reg.JNL_NOR_CMD_READ : Fld := ⟨0x6014, 0, 1, .cmd, 0⟩
/-- `JNL.NOR_STATUS.RESULT` [3:0] RO (R470). -/
def Reg.JNL_NOR_STATUS_RESULT : Fld := ⟨0x6018, 0, 4, .ro, 0⟩
/-- `JNL.USED.BYTES` [31:0] RO (R470). -/
def Reg.JNL_USED_BYTES : Fld := ⟨0x601C, 0, 32, .ro, 0⟩
/-- `JNL.COUNTS.COMPACTIONS` [31:16] CNT (R470). -/
def Reg.JNL_COUNTS_COMPACTIONS : Fld := ⟨0x6020, 16, 16, .cnt, 0⟩
/-- `JNL.COUNTS.FAILS` [15:0] CNT (R470). -/
def Reg.JNL_COUNTS_FAILS : Fld := ⟨0x6020, 0, 16, .cnt, 0⟩
/-- `JNL.BUF.DATA` [31:0] RWH-H (R470). -/
def Reg.JNL_BUF_DATA (i : Nat) : Fld := ⟨0x6100 + 0x4 * i, 0, 32, .rwhH, 0⟩
/-- `ENG.CTRL.STEP` [2:2] CMD (R77). -/
def Reg.ENG_CTRL_STEP (n : Nat) : Fld := ⟨0x7000 + 0x80 * n, 2, 1, .cmd, 0⟩
/-- `ENG.CTRL.HALT` [1:1] RW (R77). -/
def Reg.ENG_CTRL_HALT (n : Nat) : Fld := ⟨0x7000 + 0x80 * n, 1, 1, .rw, 0⟩
/-- `ENG.CTRL.ENABLE` [0:0] RW (R77). -/
def Reg.ENG_CTRL_ENABLE (n : Nat) : Fld := ⟨0x7000 + 0x80 * n, 0, 1, .rw, 0⟩
/-- `ENG.STATUS.TRAP_COUNT` [31:24] CNT (R78). -/
def Reg.ENG_STATUS_TRAP_COUNT (n : Nat) : Fld := ⟨0x7004 + 0x80 * n, 24, 8, .cnt, 0⟩
/-- `ENG.STATUS.HOLD` [7:7] ST (R78). -/
def Reg.ENG_STATUS_HOLD (n : Nat) : Fld := ⟨0x7004 + 0x80 * n, 7, 1, .st, 0⟩
/-- `ENG.STATUS.SUBSTITUTED` [6:6] ST (R78). -/
def Reg.ENG_STATUS_SUBSTITUTED (n : Nat) : Fld := ⟨0x7004 + 0x80 * n, 6, 1, .st, 0⟩
/-- `ENG.STATUS.HALTED` [5:5] ST (R78). -/
def Reg.ENG_STATUS_HALTED (n : Nat) : Fld := ⟨0x7004 + 0x80 * n, 5, 1, .st, 0⟩
/-- `ENG.STATUS.RUNNING` [4:4] ST (R78). -/
def Reg.ENG_STATUS_RUNNING (n : Nat) : Fld := ⟨0x7004 + 0x80 * n, 4, 1, .st, 0⟩
/-- `ENG.TRAP.CAUSE` [31:28] RO (R79). -/
def Reg.ENG_TRAP_CAUSE (n : Nat) : Fld := ⟨0x7008 + 0x80 * n, 28, 4, .ro, 0⟩
/-- `ENG.TRAP.CODE` [27:20] RO (R79). -/
def Reg.ENG_TRAP_CODE (n : Nat) : Fld := ⟨0x7008 + 0x80 * n, 20, 8, .ro, 0⟩
/-- `ENG.TRAP.PC` [12:0] RO (R79). -/
def Reg.ENG_TRAP_PC (n : Nat) : Fld := ⟨0x7008 + 0x80 * n, 0, 13, .ro, 0⟩
/-- `ENG.ECC.CORR_I` [31:24] CNT (R80). -/
def Reg.ENG_ECC_CORR_I (n : Nat) : Fld := ⟨0x700C + 0x80 * n, 24, 8, .cnt, 0⟩
/-- `ENG.ECC.CORR_D` [23:16] CNT (R80). -/
def Reg.ENG_ECC_CORR_D (n : Nat) : Fld := ⟨0x700C + 0x80 * n, 16, 8, .cnt, 0⟩
/-- `ENG.ECC.UNC_I` [15:15] RO (R80). -/
def Reg.ENG_ECC_UNC_I (n : Nat) : Fld := ⟨0x700C + 0x80 * n, 15, 1, .ro, 0⟩
/-- `ENG.ECC.UNC_D` [14:14] RO (R80). -/
def Reg.ENG_ECC_UNC_D (n : Nat) : Fld := ⟨0x700C + 0x80 * n, 14, 1, .ro, 0⟩
/-- `ENG.ECC.ADDR` [12:0] RO (R80). -/
def Reg.ENG_ECC_ADDR (n : Nat) : Fld := ⟨0x700C + 0x80 * n, 0, 13, .ro, 0⟩
/-- `ENG.BUSY_LAST.CYCLES` [31:0] RO (R81). -/
def Reg.ENG_BUSY_LAST_CYCLES (n : Nat) : Fld := ⟨0x7010 + 0x80 * n, 0, 32, .ro, 0⟩
/-- `ENG.BUSY_MAX.CYCLES` [31:0] RWH-S (R81). -/
def Reg.ENG_BUSY_MAX_CYCLES (n : Nat) : Fld := ⟨0x7014 + 0x80 * n, 0, 32, .rwhS, 0⟩
/-- `ENG.LESSON.ACTIVE` [6:6] ST (R81). -/
def Reg.ENG_LESSON_ACTIVE (n : Nat) : Fld := ⟨0x7018 + 0x80 * n, 6, 1, .st, 0⟩
/-- `ENG.LESSON.INDEX` [5:0] RO (R81). -/
def Reg.ENG_LESSON_INDEX (n : Nat) : Fld := ⟨0x7018 + 0x80 * n, 0, 6, .ro, 0⟩
/-- `ENG.HIN_LO.DATA` [31:0] RW (R82). -/
def Reg.ENG_HIN_LO_DATA (n i : Nat) : Fld := ⟨0x7020 + 0x80 * n + 0x8 * i, 0, 32, .rw, 0⟩
/-- `ENG.HIN_HI.DATA` [31:0] RW (R82). -/
def Reg.ENG_HIN_HI_DATA (n i : Nat) : Fld := ⟨0x7024 + 0x80 * n + 0x8 * i, 0, 32, .rw, 0⟩
/-- `ENG.HOUT_LO.DATA` [31:0] RO (R82). -/
def Reg.ENG_HOUT_LO_DATA (n i : Nat) : Fld := ⟨0x7040 + 0x80 * n + 0x8 * i, 0, 32, .ro, 0⟩
/-- `ENG.HOUT_HI.DATA` [31:0] RO (R82). -/
def Reg.ENG_HOUT_HI_DATA (n i : Nat) : Fld := ⟨0x7044 + 0x80 * n + 0x8 * i, 0, 32, .ro, 0⟩
/-- `ENG.TT_INDEX.WORST_RES` [25:16] RO (R105). -/
def Reg.ENG_TT_INDEX_WORST_RES (n : Nat) : Fld := ⟨0x7060 + 0x80 * n, 16, 10, .ro, 0⟩
/-- `ENG.TT_INDEX.INDEX` [5:0] RW (R105). -/
def Reg.ENG_TT_INDEX_INDEX (n : Nat) : Fld := ⟨0x7060 + 0x80 * n, 0, 6, .rw, 0⟩
/-- `ENG.TT_ENTRY.VALID` [31:31] RO (R105). -/
def Reg.ENG_TT_ENTRY_VALID (n : Nat) : Fld := ⟨0x7064 + 0x80 * n, 31, 1, .ro, 0⟩
/-- `ENG.TT_ENTRY.RESUME` [30:30] RO (R105). -/
def Reg.ENG_TT_ENTRY_RESUME (n : Nat) : Fld := ⟨0x7064 + 0x80 * n, 30, 1, .ro, 0⟩
/-- `ENG.TT_ENTRY.K` [29:26] RO (R105). -/
def Reg.ENG_TT_ENTRY_K (n : Nat) : Fld := ⟨0x7064 + 0x80 * n, 26, 4, .ro, 0⟩
/-- `ENG.TT_ENTRY.PHASE` [25:16] RO (R105). -/
def Reg.ENG_TT_ENTRY_PHASE (n : Nat) : Fld := ⟨0x7064 + 0x80 * n, 16, 10, .ro, 0⟩
/-- `ENG.TT_ENTRY.ENTRY_PC` [12:0] RO (R105). -/
def Reg.ENG_TT_ENTRY_ENTRY_PC (n : Nat) : Fld := ⟨0x7064 + 0x80 * n, 0, 13, .ro, 0⟩
/-- `ENG.TT_WCET.WCET` [31:0] RO (R105). -/
def Reg.ENG_TT_WCET_WCET (n : Nat) : Fld := ⟨0x7068 + 0x80 * n, 0, 32, .ro, 0⟩
/-- `ENG.TT_SUM.WORST` [31:0] RO (R105). -/
def Reg.ENG_TT_SUM_WORST (n : Nat) : Fld := ⟨0x706C + 0x80 * n, 0, 32, .ro, 0⟩
/-- `ENG.PROC_CFG.SUBST_EN` [4:4] RW (R106). -/
def Reg.ENG_PROC_CFG_SUBST_EN (n : Nat) : Fld := ⟨0x7070 + 0x80 * n, 4, 1, .rw, 1⟩
/-- `ENG.PROC_CFG.STRIKE_WIN` [3:0] RW (R106). -/
def Reg.ENG_PROC_CFG_STRIKE_WIN (n : Nat) : Fld := ⟨0x7070 + 0x80 * n, 0, 4, .rw, 0xA⟩
/-- `ENG.PROC_STATUS.OVR_COUNT` [31:16] CNT (R106). -/
def Reg.ENG_PROC_STATUS_OVR_COUNT (n : Nat) : Fld := ⟨0x7074 + 0x80 * n, 16, 16, .cnt, 0⟩
/-- `ENG.PROC_STATUS.LAST_INDEX` [9:4] RO (R106). -/
def Reg.ENG_PROC_STATUS_LAST_INDEX (n : Nat) : Fld := ⟨0x7074 + 0x80 * n, 4, 6, .ro, 0⟩
/-- `ENG.PROC_STATUS.LAST_CAUSE` [3:2] RO (R106). -/
def Reg.ENG_PROC_STATUS_LAST_CAUSE (n : Nat) : Fld := ⟨0x7074 + 0x80 * n, 2, 2, .ro, 0⟩
/-- `ENG.PROC_STATUS.STRIKES` [1:0] RO (R106). -/
def Reg.ENG_PROC_STATUS_STRIKES (n : Nat) : Fld := ⟨0x7074 + 0x80 * n, 0, 2, .ro, 0⟩
/-- `ENG.SUBST.BUSY` [20:20] ST (R106). -/
def Reg.ENG_SUBST_BUSY (n : Nat) : Fld := ⟨0x7078 + 0x80 * n, 20, 1, .st, 0⟩
/-- `ENG.SUBST.REASON` [18:16] RO (R106). -/
def Reg.ENG_SUBST_REASON (n : Nat) : Fld := ⟨0x7078 + 0x80 * n, 16, 3, .ro, 0⟩
/-- `ENG.SUBST.SERVING` [12:8] RO (R106). -/
def Reg.ENG_SUBST_SERVING (n : Nat) : Fld := ⟨0x7078 + 0x80 * n, 8, 5, .ro, 0x1F⟩
/-- `ENG.SUBST.TARGET` [7:4] RW (R106). -/
def Reg.ENG_SUBST_TARGET (n : Nat) : Fld := ⟨0x7078 + 0x80 * n, 4, 4, .rw, 0⟩
/-- `ENG.SUBST.RETURN` [1:1] CMD (R106). -/
def Reg.ENG_SUBST_RETURN (n : Nat) : Fld := ⟨0x7078 + 0x80 * n, 1, 1, .cmd, 0⟩
/-- `ENG.SUBST.FORCE` [0:0] CMD (R106). -/
def Reg.ENG_SUBST_FORCE (n : Nat) : Fld := ⟨0x7078 + 0x80 * n, 0, 1, .cmd, 0⟩
/-- `ENG.SUBST_TIME.TICKS` [15:0] RO (R106). -/
def Reg.ENG_SUBST_TIME_TICKS (n : Nat) : Fld := ⟨0x707C + 0x80 * n, 0, 16, .ro, 0⟩
/-- `IX.A.ADDR` [17:2] RWH-S (R422). -/
def Reg.IX_A_ADDR (n : Nat) : Fld := ⟨0x8000 + 0x10 * n, 2, 16, .rwhS, 0⟩
/-- `IX.D.DATA` [31:0] RW (R422). -/
def Reg.IX_D_DATA (n : Nat) : Fld := ⟨0x8004 + 0x10 * n, 0, 32, .rw, 0⟩
/-- `IX.C.AUTO_INC` [0:0] RW (R422). -/
def Reg.IX_C_AUTO_INC (n : Nat) : Fld := ⟨0x8008 + 0x10 * n, 0, 1, .rw, 0⟩
/-- `IX.S.ADDR_ERR` [2:2] RO (R422). -/
def Reg.IX_S_ADDR_ERR (n : Nat) : Fld := ⟨0x800C + 0x10 * n, 2, 1, .ro, 0⟩
/-- `IX.S.UNREACH` [1:1] RO (R422). -/
def Reg.IX_S_UNREACH (n : Nat) : Fld := ⟨0x800C + 0x10 * n, 1, 1, .ro, 0⟩
/-- `IX.S.BUSY` [0:0] ST (R422). -/
def Reg.IX_S_BUSY (n : Nat) : Fld := ⟨0x800C + 0x10 * n, 0, 1, .st, 0⟩
/-- `SLOT.CFG.PATH` [31:29] RW (R136). -/
def Reg.SLOT_CFG_PATH (n : Nat) : Fld := ⟨0x10000 + 0x100 * n, 29, 3, .rw, 0⟩
/-- `SLOT.CFG.PPS` [28:28] RW (R136). -/
def Reg.SLOT_CFG_PPS (n : Nat) : Fld := ⟨0x10000 + 0x100 * n, 28, 1, .rw, if n = 23 then 1 else 0⟩
/-- `SLOT.CFG.POL` [27:27] RW (R136). -/
def Reg.SLOT_CFG_POL (n : Nat) : Fld := ⟨0x10000 + 0x100 * n, 27, 1, .rw, 0⟩
/-- `SLOT.CFG.TERM` [26:25] RW (R136). -/
def Reg.SLOT_CFG_TERM (n : Nat) : Fld := ⟨0x10000 + 0x100 * n, 25, 2, .rw, 0⟩
/-- `SLOT.CFG.HYST` [24:24] RW (R136). -/
def Reg.SLOT_CFG_HYST (n : Nat) : Fld := ⟨0x10000 + 0x100 * n, 24, 1, .rw, 0⟩
/-- `SLOT.CFG.INPUT` [23:22] RW (R136). -/
def Reg.SLOT_CFG_INPUT (n : Nat) : Fld := ⟨0x10000 + 0x100 * n, 22, 2, .rw, 0⟩
/-- `SLOT.CFG.IRIG` [21:21] RW (R136). -/
def Reg.SLOT_CFG_IRIG (n : Nat) : Fld := ⟨0x10000 + 0x100 * n, 21, 1, .rw, 0⟩
/-- `SLOT.NOM_FREQ.HZ` [30:0] RW (R136). -/
def Reg.SLOT_NOM_FREQ_HZ (n : Nat) : Fld := ⟨0x10004 + 0x100 * n, 0, 31, .rw, if (16 ≤ n ∧ n ≤ 19) ∨ n = 22 then 0x9502F90 else if n = 23 then 1 else 0⟩
/-- `SLOT.PRESCALE.DIV` [23:0] RW (R136). -/
def Reg.SLOT_PRESCALE_DIV (n : Nat) : Fld := ⟨0x10008 + 0x100 * n, 0, 24, .rw, if (16 ≤ n ∧ n ≤ 19) ∨ n = 22 then 2 else 1⟩
/-- `SLOT.ACT.TIMEOUT` [27:0] RW (R136). -/
def Reg.SLOT_ACT_TIMEOUT (n : Nat) : Fld := ⟨0x1000C + 0x100 * n, 0, 28, .rw, 0⟩
/-- `SLOT.FMON.GATE` [31:16] RW (R136). -/
def Reg.SLOT_FMON_GATE (n : Nat) : Fld := ⟨0x10010 + 0x100 * n, 16, 16, .rw, 0x64⟩
/-- `SLOT.FMON.FLIM` [15:0] RW (R136). -/
def Reg.SLOT_FMON_FLIM (n : Nat) : Fld := ⟨0x10010 + 0x100 * n, 0, 16, .rw, 0x9C4⟩
/-- `SLOT.JUMP.THRESH` [23:0] RW (R136). -/
def Reg.SLOT_JUMP_THRESH (n : Nat) : Fld := ⟨0x10014 + 0x100 * n, 0, 24, .rw, 0x2800⟩
/-- `SLOT.PW_MIN.NS` [29:0] RW (R136). -/
def Reg.SLOT_PW_MIN_NS (n : Nat) : Fld := ⟨0x10018 + 0x100 * n, 0, 30, .rw, 0x64⟩
/-- `SLOT.PW_MAX.NS` [29:0] RW (R136). -/
def Reg.SLOT_PW_MAX_NS (n : Nat) : Fld := ⟨0x1001C + 0x100 * n, 0, 30, .rw, 0x1DCD6500⟩
/-- `SLOT.DROP.LIMIT` [7:0] RW (R136). -/
def Reg.SLOT_DROP_LIMIT (n : Nat) : Fld := ⟨0x10020 + 0x100 * n, 0, 8, .rw, 0⟩
/-- `SLOT.QUAL.EXCLUDE` [31:31] RW (R136). -/
def Reg.SLOT_QUAL_EXCLUDE (n : Nat) : Fld := ⟨0x10024 + 0x100 * n, 31, 1, .rw, 0⟩
/-- `SLOT.QUAL.CEIL` [30:28] RW (R136). -/
def Reg.SLOT_QUAL_CEIL (n : Nat) : Fld := ⟨0x10024 + 0x100 * n, 28, 3, .rw, 4⟩
/-- `SLOT.QUAL.JACT` [27:27] RW (R136). -/
def Reg.SLOT_QUAL_JACT (n : Nat) : Fld := ⟨0x10024 + 0x100 * n, 27, 1, .rw, 0⟩
/-- `SLOT.QUAL.BW` [26:23] RW (R136). -/
def Reg.SLOT_QUAL_BW (n : Nat) : Fld := ⟨0x10024 + 0x100 * n, 23, 4, .rw, 6⟩
/-- `SLOT.QUAL.WTR` [22:13] RW (R136). -/
def Reg.SLOT_QUAL_WTR (n : Nat) : Fld := ⟨0x10024 + 0x100 * n, 13, 10, .rw, 0xA⟩
/-- `SLOT.QUAL.OBS_TIME` [7:0] RW (R136). -/
def Reg.SLOT_QUAL_OBS_TIME (n : Nat) : Fld := ⟨0x10024 + 0x100 * n, 0, 8, .rw, 0xA⟩
/-- `SLOT.STATE.WORD` [31:0] RO (R137). -/
def Reg.SLOT_STATE (n : Nat) : Fld := ⟨0x10028 + 0x100 * n, 0, 32, .ro, 0⟩
/-- `SLOT.MON.FLAGS` [31:23] ST (R137). -/
def Reg.SLOT_MON_FLAGS (n : Nat) : Fld := ⟨0x1002C + 0x100 * n, 23, 9, .st, 0⟩
/-- `SLOT.MON.SAT` [22:22] ST (R137). -/
def Reg.SLOT_MON_SAT (n : Nat) : Fld := ⟨0x1002C + 0x100 * n, 22, 1, .st, 0⟩
/-- `SLOT.FOFF_XO.VALUE` [31:0] RO (R137). -/
def Reg.SLOT_FOFF_XO_VALUE (n : Nat) : Fld := ⟨0x10030 + 0x100 * n, 0, 32, .ro, 0⟩
/-- `SLOT.FOFF_PATH.VALUE` [31:0] RO (R137). -/
def Reg.SLOT_FOFF_PATH_VALUE (n : Nat) : Fld := ⟨0x10034 + 0x100 * n, 0, 32, .ro, 0⟩
/-- `SLOT.PHASE_LO.DATA` [31:0] RO (R137). -/
def Reg.SLOT_PHASE_LO_DATA (n : Nat) : Fld := ⟨0x10038 + 0x100 * n, 0, 32, .ro, 0⟩
/-- `SLOT.PHASE_HI.DATA` [31:0] RO (R137). -/
def Reg.SLOT_PHASE_HI_DATA (n : Nat) : Fld := ⟨0x1003C + 0x100 * n, 0, 32, .ro, 0⟩
/-- `SLOT.JUMP_LAST.VALUE` [31:0] RO (R137). -/
def Reg.SLOT_JUMP_LAST_VALUE (n : Nat) : Fld := ⟨0x10040 + 0x100 * n, 0, 32, .ro, 0⟩
/-- `SLOT.PW_LAST.NS` [29:0] RO (R137). -/
def Reg.SLOT_PW_LAST_NS (n : Nat) : Fld := ⟨0x10044 + 0x100 * n, 0, 30, .ro, 0⟩
/-- `SLOT.CNT0.EXTRA` [27:16] RO (R137). -/
def Reg.SLOT_CNT0_EXTRA (n : Nat) : Fld := ⟨0x10048 + 0x100 * n, 16, 12, .ro, 0⟩
/-- `SLOT.CNT0.DROP` [15:0] RO (R137). -/
def Reg.SLOT_CNT0_DROP (n : Nat) : Fld := ⟨0x10048 + 0x100 * n, 0, 16, .ro, 0⟩
/-- `SLOT.CNT1.REBASE_SEQ` [15:12] RO (R137). -/
def Reg.SLOT_CNT1_REBASE_SEQ (n : Nat) : Fld := ⟨0x1004C + 0x100 * n, 12, 4, .ro, 0⟩
/-- `SLOT.CNT1.GATE_SEQ` [11:8] RO (R137). -/
def Reg.SLOT_CNT1_GATE_SEQ (n : Nat) : Fld := ⟨0x1004C + 0x100 * n, 8, 4, .ro, 0⟩
/-- `SLOT.CNT1.JUMP` [7:0] RO (R137). -/
def Reg.SLOT_CNT1_JUMP (n : Nat) : Fld := ⟨0x1004C + 0x100 * n, 0, 8, .ro, 0⟩
/-- `SLOT.TRACK_LO.DATA` [31:0] RO (R137). -/
def Reg.SLOT_TRACK_LO_DATA (n : Nat) : Fld := ⟨0x10050 + 0x100 * n, 0, 32, .ro, 0⟩
/-- `SLOT.TRACK_HI.DATA` [31:0] RO (R137). -/
def Reg.SLOT_TRACK_HI_DATA (n : Nat) : Fld := ⟨0x10054 + 0x100 * n, 0, 32, .ro, 0⟩
/-- `SLOT.CMD.REBASE` [0:0] CMD (R136). -/
def Reg.SLOT_CMD_REBASE (n : Nat) : Fld := ⟨0x10058 + 0x100 * n, 0, 1, .cmd, 0⟩
/-- `SLOT.IRIG_STATUS.FRAME_ERR` [31:16] RO (R138). -/
def Reg.SLOT_IRIG_STATUS_FRAME_ERR (n : Nat) : Fld := ⟨0x10060 + 0x100 * n, 16, 16, .ro, 0⟩
/-- `SLOT.IRIG_STATUS.FORMAT` [6:4] RO (R138). -/
def Reg.SLOT_IRIG_STATUS_FORMAT (n : Nat) : Fld := ⟨0x10060 + 0x100 * n, 4, 3, .ro, 0⟩
/-- `SLOT.IRIG_STATUS.SBS_VALID` [3:3] ST (R138). -/
def Reg.SLOT_IRIG_STATUS_SBS_VALID (n : Nat) : Fld := ⟨0x10060 + 0x100 * n, 3, 1, .st, 0⟩
/-- `SLOT.IRIG_STATUS.CF_VALID` [2:2] ST (R138). -/
def Reg.SLOT_IRIG_STATUS_CF_VALID (n : Nat) : Fld := ⟨0x10060 + 0x100 * n, 2, 1, .st, 0⟩
/-- `SLOT.IRIG_STATUS.YEAR_VALID` [1:1] ST (R138). -/
def Reg.SLOT_IRIG_STATUS_YEAR_VALID (n : Nat) : Fld := ⟨0x10060 + 0x100 * n, 1, 1, .st, 0⟩
/-- `SLOT.IRIG_STATUS.LOCK` [0:0] ST (R138). -/
def Reg.SLOT_IRIG_STATUS_LOCK (n : Nat) : Fld := ⟨0x10060 + 0x100 * n, 0, 1, .st, 0⟩
/-- `SLOT.IRIG_TOD.DAY` [25:17] RO (R138). -/
def Reg.SLOT_IRIG_TOD_DAY (n : Nat) : Fld := ⟨0x10064 + 0x100 * n, 17, 9, .ro, 0⟩
/-- `SLOT.IRIG_TOD.HOUR` [16:12] RO (R138). -/
def Reg.SLOT_IRIG_TOD_HOUR (n : Nat) : Fld := ⟨0x10064 + 0x100 * n, 12, 5, .ro, 0⟩
/-- `SLOT.IRIG_TOD.MIN` [11:6] RO (R138). -/
def Reg.SLOT_IRIG_TOD_MIN (n : Nat) : Fld := ⟨0x10064 + 0x100 * n, 6, 6, .ro, 0⟩
/-- `SLOT.IRIG_TOD.SEC` [5:0] RO (R138). -/
def Reg.SLOT_IRIG_TOD_SEC (n : Nat) : Fld := ⟨0x10064 + 0x100 * n, 0, 6, .ro, 0⟩
/-- `SLOT.IRIG_EXT.YEAR` [23:17] RO (R138). -/
def Reg.SLOT_IRIG_EXT_YEAR (n : Nat) : Fld := ⟨0x10068 + 0x100 * n, 17, 7, .ro, 0⟩
/-- `SLOT.IRIG_EXT.SBS` [16:0] RO (R138). -/
def Reg.SLOT_IRIG_EXT_SBS (n : Nat) : Fld := ⟨0x10068 + 0x100 * n, 0, 17, .ro, 0⟩
/-- `SLOT.IRIG_CF.CF` [26:0] RO (R138). -/
def Reg.SLOT_IRIG_CF_CF (n : Nat) : Fld := ⟨0x1006C + 0x100 * n, 0, 27, .ro, 0⟩
/-- `SLOT.VCFG.TS` [1:0] RW (R136). -/
def Reg.SLOT_VCFG_TS (n : Nat) : Fld := ⟨0x10070 + 0x100 * n, 0, 2, .rw, if n = 21 then 1 else 0⟩
/-- `PATH.DCO_LO.DATA` [31:0] RO (R191). -/
def Reg.PATH_DCO_LO_DATA (n : Nat) : Fld := ⟨0x20000 + 0x200 * n, 0, 32, .ro, 0⟩
/-- `PATH.DCO_HI.DATA` [31:0] RO (R191). -/
def Reg.PATH_DCO_HI_DATA (n : Nat) : Fld := ⟨0x20004 + 0x200 * n, 0, 32, .ro, 0⟩
/-- `PATH.CTRL_LO.DATA` [31:0] RO (R191). -/
def Reg.PATH_CTRL_LO_DATA (n : Nat) : Fld := ⟨0x20008 + 0x200 * n, 0, 32, .ro, 0⟩
/-- `PATH.CTRL_HI.DATA` [31:0] RO (R191). -/
def Reg.PATH_CTRL_HI_DATA (n : Nat) : Fld := ⟨0x2000C + 0x200 * n, 0, 32, .ro, 0⟩
/-- `PATH.STEP_CFG.MODE` [0:0] RW (R191). -/
def Reg.PATH_STEP_CFG_MODE (n : Nat) : Fld := ⟨0x20010 + 0x200 * n, 0, 1, .rw, 0⟩
/-- `PATH.PHASE_SLOPE.RATE` [18:0] RW (R191). -/
def Reg.PATH_PHASE_SLOPE_RATE (n : Nat) : Fld := ⟨0x20014 + 0x200 * n, 0, 19, .rw, 0x3E8⟩
/-- `PATH.PHASE_STEP_LO.AMOUNT_LO` [31:0] RW (R191). -/
def Reg.PATH_PHASE_STEP_LO_AMOUNT_LO (n : Nat) : Fld := ⟨0x20018 + 0x200 * n, 0, 32, .rw, 0⟩
/-- `PATH.PHASE_STEP_HI.AMOUNT_HI` [15:0] RW (R191). -/
def Reg.PATH_PHASE_STEP_HI_AMOUNT_HI (n : Nat) : Fld := ⟨0x2001C + 0x200 * n, 0, 16, .rw, 0⟩
/-- `PATH.STEP_REMAIN_LO.VALUE` [31:0] RO (R191). -/
def Reg.PATH_STEP_REMAIN_LO_VALUE (n : Nat) : Fld := ⟨0x20020 + 0x200 * n, 0, 32, .ro, 0⟩
/-- `PATH.STEP_REMAIN_HI.VALUE` [15:0] RO (R191). -/
def Reg.PATH_STEP_REMAIN_HI_VALUE (n : Nat) : Fld := ⟨0x20024 + 0x200 * n, 0, 16, .ro, 0⟩
/-- `PATH.STEP_TOTAL_LO.VALUE` [31:0] RO (R191). -/
def Reg.PATH_STEP_TOTAL_LO_VALUE (n : Nat) : Fld := ⟨0x20028 + 0x200 * n, 0, 32, .ro, 0⟩
/-- `PATH.STEP_TOTAL_HI.VALUE` [15:0] RO (R191). -/
def Reg.PATH_STEP_TOTAL_HI_VALUE (n : Nat) : Fld := ⟨0x2002C + 0x200 * n, 0, 16, .ro, 0⟩
/-- `PATH.STEP_STATUS.ACCEPTED` [31:16] CNT (R191). -/
def Reg.PATH_STEP_STATUS_ACCEPTED (n : Nat) : Fld := ⟨0x20030 + 0x200 * n, 16, 16, .cnt, 0⟩
/-- `PATH.STEP_STATUS.REJ` [1:1] RO (R191). -/
def Reg.PATH_STEP_STATUS_REJ (n : Nat) : Fld := ⟨0x20030 + 0x200 * n, 1, 1, .ro, 0⟩
/-- `PATH.STEP_STATUS.BUSY` [0:0] ST (R191). -/
def Reg.PATH_STEP_STATUS_BUSY (n : Nat) : Fld := ⟨0x20030 + 0x200 * n, 0, 1, .st, 0⟩
/-- `PATH.STEP_CMD.CANCEL` [0:0] CMD (R191). -/
def Reg.PATH_STEP_CMD_CANCEL (n : Nat) : Fld := ⟨0x20034 + 0x200 * n, 0, 1, .cmd, 0⟩
/-- `PATH.FOFF.VALUE` [31:0] RO (R191). -/
def Reg.PATH_FOFF_VALUE (n : Nat) : Fld := ⟨0x20038 + 0x200 * n, 0, 32, .ro, 0⟩
/-- `APLL.CFG.RAMP` [31:24] RW (R220). -/
def Reg.APLL_CFG_RAMP (n : Nat) : Fld := ⟨0x24000 + 0x100 * n, 24, 8, .rw, 0xA⟩
/-- `APLL.CFG.SETTLE` [15:6] RW (R220). -/
def Reg.APLL_CFG_SETTLE (n : Nat) : Fld := ⟨0x24000 + 0x100 * n, 6, 10, .rw, 0x64⟩
/-- `APLL.CFG.SLEW` [5:3] RW (R220). -/
def Reg.APLL_CFG_SLEW (n : Nat) : Fld := ⟨0x24000 + 0x100 * n, 3, 3, .rw, 3⟩
/-- `APLL.CFG.BW` [2:1] RW (R220). -/
def Reg.APLL_CFG_BW (n : Nat) : Fld := ⟨0x24000 + 0x100 * n, 1, 2, .rw, 1⟩
/-- `APLL.CFG.EN` [0:0] RW (R220). -/
def Reg.APLL_CFG_EN (n : Nat) : Fld := ⟨0x24000 + 0x100 * n, 0, 1, .rw, 0⟩
/-- `APLL.FPD.HZ` [27:0] SH (R220). -/
def Reg.APLL_FPD_HZ (n : Nat) : Fld := ⟨0x24004 + 0x100 * n, 0, 28, .sh, 0⟩
/-- `APLL.NINT.NINT` [10:0] SH (R220). -/
def Reg.APLL_NINT (n : Nat) : Fld := ⟨0x24008 + 0x100 * n, 0, 11, .sh, 0⟩
/-- `APLL.NFRAC_LO.NFRAC` [31:0] SH (R220). -/
def Reg.APLL_NFRAC_LO_NFRAC (n : Nat) : Fld := ⟨0x2400C + 0x100 * n, 0, 32, .sh, 0⟩
/-- `APLL.NFRAC_HI.NFRAC` [7:0] SH (R220). -/
def Reg.APLL_NFRAC_HI_NFRAC (n : Nat) : Fld := ⟨0x24010 + 0x100 * n, 0, 8, .sh, 0⟩
/-- `APLL.CMD.CACHE_CLR` [2:2] CMD (R220). -/
def Reg.APLL_CMD_CACHE_CLR (n : Nat) : Fld := ⟨0x24014 + 0x100 * n, 2, 1, .cmd, 0⟩
/-- `APLL.CMD.FULL` [1:1] CMD (R220). -/
def Reg.APLL_CMD_FULL (n : Nat) : Fld := ⟨0x24014 + 0x100 * n, 1, 1, .cmd, 0⟩
/-- `APLL.CMD.APPLY` [0:0] CMD (R220). -/
def Reg.APLL_CMD_APPLY (n : Nat) : Fld := ⟨0x24014 + 0x100 * n, 0, 1, .cmd, 0⟩
/-- `APLL.STATUS.APPLY_ERR` [31:28] RO (R220). -/
def Reg.APLL_STATUS_APPLY_ERR (n : Nat) : Fld := ⟨0x24018 + 0x100 * n, 28, 4, .ro, 0⟩
/-- `APLL.STATUS.ERR_OUT` [27:26] RO (R220). -/
def Reg.APLL_STATUS_ERR_OUT (n : Nat) : Fld := ⟨0x24018 + 0x100 * n, 26, 2, .ro, 0⟩
/-- `APLL.STATUS.BAND` [21:16] RO (R220). -/
def Reg.APLL_STATUS_BAND (n : Nat) : Fld := ⟨0x24018 + 0x100 * n, 16, 6, .ro, 0⟩
/-- `APLL.STATUS.LAST_CLASS` [10:8] RO (R220). -/
def Reg.APLL_STATUS_LAST_CLASS (n : Nat) : Fld := ⟨0x24018 + 0x100 * n, 8, 3, .ro, 0⟩
/-- `APLL.STATUS.DCO_SAT` [7:7] ST (R220). -/
def Reg.APLL_STATUS_DCO_SAT (n : Nat) : Fld := ⟨0x24018 + 0x100 * n, 7, 1, .st, 0⟩
/-- `APLL.STATUS.TUNE_EDGE` [6:6] ST (R220). -/
def Reg.APLL_STATUS_TUNE_EDGE (n : Nat) : Fld := ⟨0x24018 + 0x100 * n, 6, 1, .st, 0⟩
/-- `APLL.STATUS.LOCK` [5:5] ST (R220). -/
def Reg.APLL_STATUS_LOCK (n : Nat) : Fld := ⟨0x24018 + 0x100 * n, 5, 1, .st, 0⟩
/-- `APLL.STATUS.STATE` [3:0] RO (R220). -/
def Reg.APLL_STATUS_STATE (n : Nat) : Fld := ⟨0x24018 + 0x100 * n, 0, 4, .ro, 0⟩
/-- `APLL.RELOCK_TIME.US` [23:0] RO (R220). -/
def Reg.APLL_RELOCK_TIME_US (n : Nat) : Fld := ⟨0x2401C + 0x100 * n, 0, 24, .ro, 0⟩
/-- `APLL.COUNT.UNLOCKS` [31:16] CNT (R220). -/
def Reg.APLL_COUNT_UNLOCKS (n : Nat) : Fld := ⟨0x24020 + 0x100 * n, 16, 16, .cnt, 0⟩
/-- `APLL.COUNT.SEARCHES` [15:0] CNT (R220). -/
def Reg.APLL_COUNT_SEARCHES (n : Nat) : Fld := ⟨0x24020 + 0x100 * n, 0, 16, .cnt, 0⟩
/-- `APLL.CACHE_SEL.INDEX` [2:0] RW (R220). -/
def Reg.APLL_CACHE_SEL_INDEX (n : Nat) : Fld := ⟨0x24024 + 0x100 * n, 0, 3, .rw, 0⟩
/-- `APLL.CACHE_ENTRY.VALID` [31:31] RO (R220). -/
def Reg.APLL_CACHE_ENTRY_VALID (n : Nat) : Fld := ⟨0x24028 + 0x100 * n, 31, 1, .ro, 0⟩
/-- `APLL.CACHE_ENTRY.PIN` [30:30] RW (R220). -/
def Reg.APLL_CACHE_ENTRY_PIN (n : Nat) : Fld := ⟨0x24028 + 0x100 * n, 30, 1, .rw, 0⟩
/-- `APLL.CACHE_ENTRY.BAND` [29:24] RO (R220). -/
def Reg.APLL_CACHE_ENTRY_BAND (n : Nat) : Fld := ⟨0x24028 + 0x100 * n, 24, 6, .ro, 0⟩
/-- `APLL.CACHE_ENTRY.TEMP` [15:0] RO (R220). -/
def Reg.APLL_CACHE_ENTRY_TEMP (n : Nat) : Fld := ⟨0x24028 + 0x100 * n, 0, 16, .ro, 0⟩
/-- `APLL.CACHE_FVCO.KHZ` [31:0] RO (R220). -/
def Reg.APLL_CACHE_FVCO_KHZ (n : Nat) : Fld := ⟨0x2402C + 0x100 * n, 0, 32, .ro, 0⟩
/-- `APLL.ACT_FPD.VALUE` [27:0] RO (R220). -/
def Reg.APLL_ACT_FPD_VALUE (n : Nat) : Fld := ⟨0x24030 + 0x100 * n, 0, 28, .ro, 0⟩
/-- `APLL.ACT_NINT.VALUE` [10:0] RO (R220). -/
def Reg.APLL_ACT_NINT_VALUE (n : Nat) : Fld := ⟨0x24034 + 0x100 * n, 0, 11, .ro, 0⟩
/-- `APLL.ACT_NFRAC_LO.VALUE` [31:0] RO (R220). -/
def Reg.APLL_ACT_NFRAC_LO_VALUE (n : Nat) : Fld := ⟨0x24038 + 0x100 * n, 0, 32, .ro, 0⟩
/-- `APLL.ACT_NFRAC_HI.VALUE` [7:0] RO (R220). -/
def Reg.APLL_ACT_NFRAC_HI_VALUE (n : Nat) : Fld := ⟨0x2403C + 0x100 * n, 0, 8, .ro, 0⟩
/-- `APLL.COVER.RESCUE` [4:4] RW (R220). -/
def Reg.APLL_COVER_RESCUE (n : Nat) : Fld := ⟨0x24040 + 0x100 * n, 4, 1, .rw, 0⟩
/-- `APLL.COVER.APLL` [3:0] RW (R220). -/
def Reg.APLL_COVER_APLL (n : Nat) : Fld := ⟨0x24040 + 0x100 * n, 0, 4, .rw, 0xF⟩
/-- `APLL.SPARE_STATUS.READY` [7:7] ST (R220). -/
def Reg.APLL_SPARE_STATUS_READY (n : Nat) : Fld := ⟨0x24044 + 0x100 * n, 7, 1, .st, 0⟩
/-- `APLL.SPARE_STATUS.SERVING` [3:0] RO (R220). -/
def Reg.APLL_SPARE_STATUS_SERVING (n : Nat) : Fld := ⟨0x24044 + 0x100 * n, 0, 4, .ro, 0xF⟩
/-- `OUT.CFG.AUTO_RETURN` [16:16] RW (R222). -/
def Reg.OUT_CFG_AUTO_RETURN (n : Nat) : Fld := ⟨0x26000 + 0x40 * n, 16, 1, .rw, 1⟩
/-- `OUT.CFG.CMOS_MODE` [15:14] RW (R222). -/
def Reg.OUT_CFG_CMOS_MODE (n : Nat) : Fld := ⟨0x26000 + 0x40 * n, 14, 2, .rw, 0⟩
/-- `OUT.CFG.FAN_SEL` [13:10] RW (R222). -/
def Reg.OUT_CFG_FAN_SEL (n : Nat) : Fld := ⟨0x26000 + 0x40 * n, 10, 4, .rw, 0⟩
/-- `OUT.CFG.MODE` [9:9] RW (R222). -/
def Reg.OUT_CFG_MODE (n : Nat) : Fld := ⟨0x26000 + 0x40 * n, 9, 1, .rw, 0⟩
/-- `OUT.CFG.POL` [8:8] RW (R222). -/
def Reg.OUT_CFG_POL (n : Nat) : Fld := ⟨0x26000 + 0x40 * n, 8, 1, .rw, 0⟩
/-- `OUT.CFG.RELOCK` [7:6] RW (R222). -/
def Reg.OUT_CFG_RELOCK (n : Nat) : Fld := ⟨0x26000 + 0x40 * n, 6, 2, .rw, 1⟩
/-- `OUT.CFG.SRC` [5:4] RW (R222). -/
def Reg.OUT_CFG_SRC (n : Nat) : Fld := ⟨0x26000 + 0x40 * n, 4, 2, .rw, 0⟩
/-- `OUT.CFG.FORMAT` [3:1] RW (R222). -/
def Reg.OUT_CFG_FORMAT (n : Nat) : Fld := ⟨0x26000 + 0x40 * n, 1, 3, .rw, 0⟩
/-- `OUT.CFG.EN` [0:0] RW (R222). -/
def Reg.OUT_CFG_EN (n : Nat) : Fld := ⟨0x26000 + 0x40 * n, 0, 1, .rw, 0⟩
/-- `OUT.DIV_LO.DIV` [31:0] SH (R222). -/
def Reg.OUT_DIV_LO_DIV (n : Nat) : Fld := ⟨0x26004 + 0x40 * n, 0, 32, .sh, 4⟩
/-- `OUT.DIV_HI.DIV` [3:0] SH (R222). -/
def Reg.OUT_DIV_HI_DIV (n : Nat) : Fld := ⟨0x26008 + 0x40 * n, 0, 4, .sh, 0⟩
/-- `OUT.BYP_DIV.DIV` [20:0] RW (R222). -/
def Reg.OUT_BYP_DIV_DIV (n : Nat) : Fld := ⟨0x2600C + 0x40 * n, 0, 21, .rw, 1⟩
/-- `OUT.PHASE_LO.PHASE` [31:0] RW (R222). -/
def Reg.OUT_PHASE_LO_PHASE (n : Nat) : Fld := ⟨0x26010 + 0x40 * n, 0, 32, .rw, 0⟩
/-- `OUT.PHASE_HI.PHASE` [9:0] RW (R222). -/
def Reg.OUT_PHASE_HI_PHASE (n : Nat) : Fld := ⟨0x26014 + 0x40 * n, 0, 10, .rw, 0⟩
/-- `OUT.FMAX.HZ` [31:0] RW (R222). -/
def Reg.OUT_FMAX_HZ (n : Nat) : Fld := ⟨0x26018 + 0x40 * n, 0, 32, .rw, 0⟩
/-- `OUT.PULSE_W.NS` [29:0] RW (R222). -/
def Reg.OUT_PULSE_W_NS (n : Nat) : Fld := ⟨0x2601C + 0x40 * n, 0, 30, .rw, 0x186A0⟩
/-- `OUT.PULSE_CFG.EVERY` [15:8] RW (R222). -/
def Reg.OUT_PULSE_CFG_EVERY (n : Nat) : Fld := ⟨0x26020 + 0x40 * n, 8, 8, .rw, 1⟩
/-- `OUT.PULSE_CFG.TS` [1:0] RW (R222). -/
def Reg.OUT_PULSE_CFG_TS (n : Nat) : Fld := ⟨0x26020 + 0x40 * n, 0, 2, .rw, 0⟩
/-- `OUT.FB_DIV.DIV` [23:0] RW (R222). -/
def Reg.OUT_FB_DIV_DIV (n : Nat) : Fld := ⟨0x26024 + 0x40 * n, 0, 24, .rw, 1⟩
/-- `OUT.STATUS.PULSE_MISS` [31:16] CNT (R222). -/
def Reg.OUT_STATUS_PULSE_MISS (n : Nat) : Fld := ⟨0x26028 + 0x40 * n, 16, 16, .cnt, 0⟩
/-- `OUT.STATUS.FREQ_ERR` [6:6] ST (R222). -/
def Reg.OUT_STATUS_FREQ_ERR (n : Nat) : Fld := ⟨0x26028 + 0x40 * n, 6, 1, .st, 0⟩
/-- `OUT.STATUS.PULSE_ERR` [5:5] ST (R222). -/
def Reg.OUT_STATUS_PULSE_ERR (n : Nat) : Fld := ⟨0x26028 + 0x40 * n, 5, 1, .st, 0⟩
/-- `OUT.STATUS.PHASE_BUSY` [4:4] ST (R222). -/
def Reg.OUT_STATUS_PHASE_BUSY (n : Nat) : Fld := ⟨0x26028 + 0x40 * n, 4, 1, .st, 0⟩
/-- `OUT.STATUS.AUTO_MOVED` [3:3] ST (R222). -/
def Reg.OUT_STATUS_AUTO_MOVED (n : Nat) : Fld := ⟨0x26028 + 0x40 * n, 3, 1, .st, 0⟩
/-- `OUT.STATUS.SRC_ACT` [2:0] RO (R222). -/
def Reg.OUT_STATUS_SRC_ACT (n : Nat) : Fld := ⟨0x26028 + 0x40 * n, 0, 3, .ro, 6⟩
/-- `TDC.CFG.EN` [31:31] RW (R276). -/
def Reg.TDC_CFG_EN (n : Nat) : Fld := ⟨0x28000 + 0x30 * n, 31, 1, .rw, 1⟩
/-- `TDC.CFG.EDGE` [30:29] RW (R276). -/
def Reg.TDC_CFG_EDGE (n : Nat) : Fld := ⟨0x28000 + 0x30 * n, 29, 2, .rw, 0⟩
/-- `TDC.CFG.GATED` [28:28] RW (R276). -/
def Reg.TDC_CFG_GATED (n : Nat) : Fld := ⟨0x28000 + 0x30 * n, 28, 1, .rw, 0⟩
/-- `TDC.CFG.TS` [27:26] RW (R276). -/
def Reg.TDC_CFG_TS (n : Nat) : Fld := ⟨0x28000 + 0x30 * n, 26, 2, .rw, 0⟩
/-- `TDC.DELAY.VALUE` [31:0] RO (R276). -/
def Reg.TDC_DELAY_VALUE (n : Nat) : Fld := ⟨0x28004 + 0x30 * n, 0, 32, .ro, Config.tdcFactoryDelay n⟩
/-- `TDC.USER_DELAY.VALUE` [31:0] RW (R276). -/
def Reg.TDC_USER_DELAY_VALUE (n : Nat) : Fld := ⟨0x28008 + 0x30 * n, 0, 32, .rw, 0⟩
/-- `TDC.CAL_STATUS.T_CAL` [31:16] RO (R276). -/
def Reg.TDC_CAL_STATUS_T_CAL (n : Nat) : Fld := ⟨0x2800C + 0x30 * n, 16, 16, .ro, 0⟩
/-- `TDC.CAL_STATUS.CAL_REJ` [8:8] RO (R276). -/
def Reg.TDC_CAL_STATUS_CAL_REJ (n : Nat) : Fld := ⟨0x2800C + 0x30 * n, 8, 1, .ro, 0⟩
/-- `TDC.CAL_STATUS.TEMP_DRIFT` [7:7] ST (R276). -/
def Reg.TDC_CAL_STATUS_TEMP_DRIFT (n : Nat) : Fld := ⟨0x2800C + 0x30 * n, 7, 1, .st, 0⟩
/-- `TDC.CAL_STATUS.REPLACED` [6:6] ST (R276). -/
def Reg.TDC_CAL_STATUS_REPLACED (n : Nat) : Fld := ⟨0x2800C + 0x30 * n, 6, 1, .st, 0⟩
/-- `TDC.CAL_STATUS.CAL_BUSY` [5:5] ST (R276). -/
def Reg.TDC_CAL_STATUS_CAL_BUSY (n : Nat) : Fld := ⟨0x2800C + 0x30 * n, 5, 1, .st, 0⟩
/-- `TDC.CAL_STATUS.CAL_FAIL` [4:4] RO (R276). -/
def Reg.TDC_CAL_STATUS_CAL_FAIL (n : Nat) : Fld := ⟨0x2800C + 0x30 * n, 4, 1, .ro, 0⟩
/-- `TDC.CAL_STATUS.TABLE_VALID` [3:3] ST (R276). -/
def Reg.TDC_CAL_STATUS_TABLE_VALID (n : Nat) : Fld := ⟨0x2800C + 0x30 * n, 3, 1, .st, 0⟩
/-- `TDC.CAL_STATUS.DLL_LOCK` [2:2] ST (R276). -/
def Reg.TDC_CAL_STATUS_DLL_LOCK (n : Nat) : Fld := ⟨0x2800C + 0x30 * n, 2, 1, .st, 0⟩
/-- `TDC.LAST_LO.DATA` [31:0] RO (R276). -/
def Reg.TDC_LAST_LO_DATA (n : Nat) : Fld := ⟨0x28010 + 0x30 * n, 0, 32, .ro, 0⟩
/-- `TDC.LAST_HI.DATA` [31:0] RO (R276). -/
def Reg.TDC_LAST_HI_DATA (n : Nat) : Fld := ⟨0x28014 + 0x30 * n, 0, 32, .ro, 0⟩
/-- `TDC.PILEUP.COUNT` [31:0] CNT (R276). -/
def Reg.TDC_PILEUP_COUNT (n : Nat) : Fld := ⟨0x28018 + 0x30 * n, 0, 32, .cnt, 0⟩
/-- `TDC.FIFO.MAX` [26:16] RWH-S (R276). -/
def Reg.TDC_FIFO_MAX (n : Nat) : Fld := ⟨0x2801C + 0x30 * n, 16, 11, .rwhS, 0⟩
/-- `TDC.FIFO.LEVEL` [10:0] RO (R276). -/
def Reg.TDC_FIFO_LEVEL (n : Nat) : Fld := ⟨0x2801C + 0x30 * n, 0, 11, .ro, 0⟩
/-- `TDC.REC_LOST.COUNT` [31:0] CNT (R276). -/
def Reg.TDC_REC_LOST_COUNT (n : Nat) : Fld := ⟨0x28020 + 0x30 * n, 0, 32, .cnt, 0⟩
/-- `TDC.EDGES.COUNT` [31:0] CNT (R276). -/
def Reg.TDC_EDGES_COUNT (n : Nat) : Fld := ⟨0x28024 + 0x30 * n, 0, 32, .cnt, 0⟩
/-- `TDC.CMD.CAL` [0:0] CMD (R276). -/
def Reg.TDC_CMD_CAL (n : Nat) : Fld := ⟨0x28028 + 0x30 * n, 0, 1, .cmd, 0⟩
/-- `TDCG.XBAR_CFG.AUTO` [31:31] RW (R278). -/
def Reg.TDCG_XBAR_CFG_AUTO : Fld := ⟨0x289C0, 31, 1, .rw, 1⟩
/-- `TDCG.XBAR_CFG.MIRROR_N` [15:0] RW (R278). -/
def Reg.TDCG_XBAR_CFG_MIRROR_N : Fld := ⟨0x289C0, 0, 16, .rw, 0x400⟩
/-- `TDCG.SPARE.AUTO_TAKEN` [21:21] RO (R278). -/
def Reg.TDCG_SPARE_AUTO_TAKEN (i : Nat) : Fld := ⟨0x289C4 + 0x4 * i, 21, 1, .ro, 0⟩
/-- `TDCG.SPARE.REJ` [20:20] RO (R278). -/
def Reg.TDCG_SPARE_REJ (i : Nat) : Fld := ⟨0x289C4 + 0x4 * i, 20, 1, .ro, 0⟩
/-- `TDCG.SPARE.SHORT` [19:19] RO (R278). -/
def Reg.TDCG_SPARE_SHORT (i : Nat) : Fld := ⟨0x289C4 + 0x4 * i, 19, 1, .ro, 0⟩
/-- `TDCG.SPARE.STATE` [18:16] RO (R278). -/
def Reg.TDCG_SPARE_STATE (i : Nat) : Fld := ⟨0x289C4 + 0x4 * i, 16, 3, .ro, 0⟩
/-- `TDCG.SPARE.ROLE` [13:8] RW (R278). -/
def Reg.TDCG_SPARE_ROLE (i : Nat) : Fld := ⟨0x289C4 + 0x4 * i, 8, 6, .rw, 0⟩
/-- `TDCG.SPARE.RELEASE` [1:1] CMD (R278). -/
def Reg.TDCG_SPARE_RELEASE (i : Nat) : Fld := ⟨0x289C4 + 0x4 * i, 1, 1, .cmd, 0⟩
/-- `TDCG.SPARE.TAKE` [0:0] CMD (R278). -/
def Reg.TDCG_SPARE_TAKE (i : Nat) : Fld := ⟨0x289C4 + 0x4 * i, 0, 1, .cmd, 0⟩
/-- `TDCG.CAL_CFG.HITS_LOG` [2:0] RW (R278). -/
def Reg.TDCG_CAL_CFG_HITS_LOG : Fld := ⟨0x289D4, 0, 3, .rw, 2⟩
/-- `TDCG.CAL_CMD.ALL` [0:0] CMD (R278). -/
def Reg.TDCG_CAL_CMD_ALL : Fld := ⟨0x289D8, 0, 1, .cmd, 0⟩
/-- `TDCG.MIRROR_DIFF.D` [31:0] RO (R278). -/
def Reg.TDCG_MIRROR_DIFF_D (i : Nat) : Fld := ⟨0x289E0 + 0x4 * i, 0, 32, .ro, 0⟩
/-- `M.CFG.MODE` [31:30] RW (R277). -/
def Reg.M_CFG_MODE (n : Nat) : Fld := ⟨0x28A00 + 0x30 * n, 30, 2, .rw, 0⟩
/-- `M.CFG.ORDER` [29:29] RW (R277). -/
def Reg.M_CFG_ORDER (n : Nat) : Fld := ⟨0x28A00 + 0x30 * n, 29, 1, .rw, 0⟩
/-- `M.CFG.BASE` [28:28] RW (R277). -/
def Reg.M_CFG_BASE (n : Nat) : Fld := ⟨0x28A00 + 0x30 * n, 28, 1, .rw, 0⟩
/-- `M.CFG.CONT` [27:27] RW (R277). -/
def Reg.M_CFG_CONT (n : Nat) : Fld := ⟨0x28A00 + 0x30 * n, 27, 1, .rw, 1⟩
/-- `M.CFG.MBX_SEL` [26:24] RW (R277). -/
def Reg.M_CFG_MBX_SEL (n : Nat) : Fld := ⟨0x28A00 + 0x30 * n, 24, 3, .rw, 0⟩
/-- `M.CFG.DEC` [23:20] RW (R277). -/
def Reg.M_CFG_DEC (n : Nat) : Fld := ⟨0x28A00 + 0x30 * n, 20, 4, .rw, 0⟩
/-- `M.CFG.START` [13:8] RW (R277). -/
def Reg.M_CFG_START (n : Nat) : Fld := ⟨0x28A00 + 0x30 * n, 8, 6, .rw, 0⟩
/-- `M.CFG.STOP_EN` [7:0] RW (R277). -/
def Reg.M_CFG_STOP_EN (n : Nat) : Fld := ⟨0x28A00 + 0x30 * n, 0, 8, .rw, 0⟩
/-- `M.STOPS_A.STOP3` [29:24] RW (R277). -/
def Reg.M_STOPS_A_STOP3 (n : Nat) : Fld := ⟨0x28A04 + 0x30 * n, 24, 6, .rw, 0⟩
/-- `M.STOPS_A.STOP2` [21:16] RW (R277). -/
def Reg.M_STOPS_A_STOP2 (n : Nat) : Fld := ⟨0x28A04 + 0x30 * n, 16, 6, .rw, 0⟩
/-- `M.STOPS_A.STOP1` [13:8] RW (R277). -/
def Reg.M_STOPS_A_STOP1 (n : Nat) : Fld := ⟨0x28A04 + 0x30 * n, 8, 6, .rw, 0⟩
/-- `M.STOPS_A.STOP0` [5:0] RW (R277). -/
def Reg.M_STOPS_A_STOP0 (n : Nat) : Fld := ⟨0x28A04 + 0x30 * n, 0, 6, .rw, 0⟩
/-- `M.STOPS_B.STOP7` [29:24] RW (R277). -/
def Reg.M_STOPS_B_STOP7 (n : Nat) : Fld := ⟨0x28A08 + 0x30 * n, 24, 6, .rw, 0⟩
/-- `M.STOPS_B.STOP6` [21:16] RW (R277). -/
def Reg.M_STOPS_B_STOP6 (n : Nat) : Fld := ⟨0x28A08 + 0x30 * n, 16, 6, .rw, 0⟩
/-- `M.STOPS_B.STOP5` [13:8] RW (R277). -/
def Reg.M_STOPS_B_STOP5 (n : Nat) : Fld := ⟨0x28A08 + 0x30 * n, 8, 6, .rw, 0⟩
/-- `M.STOPS_B.STOP4` [5:0] RW (R277). -/
def Reg.M_STOPS_B_STOP4 (n : Nat) : Fld := ⟨0x28A08 + 0x30 * n, 0, 6, .rw, 0⟩
/-- `M.WINDOW.LSB` [30:0] RW (R277). -/
def Reg.M_WINDOW_LSB (n : Nat) : Fld := ⟨0x28A0C + 0x30 * n, 0, 31, .rw, 0x10000⟩
/-- `M.LEN.VALUE` [24:0] RW (R277). -/
def Reg.M_LEN_VALUE (n : Nat) : Fld := ⟨0x28A10 + 0x30 * n, 0, 25, .rw, 0x400⟩
/-- `M.FNOM.HZ` [27:0] RW (R277). -/
def Reg.M_FNOM_HZ (n : Nat) : Fld := ⟨0x28A14 + 0x30 * n, 0, 28, .rw, 0x989680⟩
/-- `M.CMD.STOP` [1:1] CMD (R277). -/
def Reg.M_CMD_STOP (n : Nat) : Fld := ⟨0x28A18 + 0x30 * n, 1, 1, .cmd, 0⟩
/-- `M.CMD.START` [0:0] CMD (R277). -/
def Reg.M_CMD_START (n : Nat) : Fld := ⟨0x28A18 + 0x30 * n, 0, 1, .cmd, 0⟩
/-- `M.STATUS.SEQ` [31:16] RO (R277). -/
def Reg.M_STATUS_SEQ (n : Nat) : Fld := ⟨0x28A1C + 0x30 * n, 16, 16, .ro, 0⟩
/-- `M.STATUS.CFG_ERR` [2:2] ST (R277). -/
def Reg.M_STATUS_CFG_ERR (n : Nat) : Fld := ⟨0x28A1C + 0x30 * n, 2, 1, .st, 0⟩
/-- `M.STATUS.RUNNING` [1:1] ST (R277). -/
def Reg.M_STATUS_RUNNING (n : Nat) : Fld := ⟨0x28A1C + 0x30 * n, 1, 1, .st, 0⟩
/-- `M.RES_SEL.STOP` [4:2] RW (R277). -/
def Reg.M_RES_SEL_STOP (n : Nat) : Fld := ⟨0x28A20 + 0x30 * n, 2, 3, .rw, 0⟩
/-- `M.RES_SEL.WORD` [1:0] RW (R277). -/
def Reg.M_RES_SEL (n : Nat) : Fld := ⟨0x28A20 + 0x30 * n, 0, 2, .rw, 0⟩
/-- `M.RES_LO.DATA` [31:0] RO (R277). -/
def Reg.M_RES_LO_DATA (n : Nat) : Fld := ⟨0x28A24 + 0x30 * n, 0, 32, .ro, 0⟩
/-- `M.RES_HI.DATA` [31:0] RO (R277). -/
def Reg.M_RES_HI_DATA (n : Nat) : Fld := ⟨0x28A28 + 0x30 * n, 0, 32, .ro, 0⟩
/-- `M.COUNTS.ORDER_VIOL` [31:20] CNT (R277). -/
def Reg.M_COUNTS_ORDER_VIOL (n : Nat) : Fld := ⟨0x28A2C + 0x30 * n, 20, 12, .cnt, 0⟩
/-- `M.COUNTS.MISS` [19:8] CNT (R277). -/
def Reg.M_COUNTS_MISS (n : Nat) : Fld := ⟨0x28A2C + 0x30 * n, 8, 12, .cnt, 0⟩
/-- `M.COUNTS.START_SKIP` [7:0] CNT (R277). -/
def Reg.M_COUNTS_START_SKIP (n : Nat) : Fld := ⟨0x28A2C + 0x30 * n, 0, 8, .cnt, 0⟩
/-- `TS.CFG.FREE` [31:31] RW (R247). -/
def Reg.TS_CFG_FREE (n : Nat) : Fld := ⟨0x30000 + 0x40 * n, 31, 1, .rw, 0⟩
/-- `TS.CFG.PATH` [30:28] RW (R247). -/
def Reg.TS_CFG_PATH (n : Nat) : Fld := ⟨0x30000 + 0x40 * n, 28, 3, .rw, n⟩
/-- `TS.CFG.EDGE_SLOT` [12:8] RW (R247). -/
def Reg.TS_CFG_EDGE_SLOT (n : Nat) : Fld := ⟨0x30000 + 0x40 * n, 8, 5, .rw, 0⟩
/-- `TS.CFG.AT_EDGE` [0:0] RW (R247). -/
def Reg.TS_CFG_AT_EDGE (n : Nat) : Fld := ⟨0x30000 + 0x40 * n, 0, 1, .rw, 0⟩
/-- `TS.CMD.ADJ` [2:2] CMD (R247). -/
def Reg.TS_CMD_ADJ (n : Nat) : Fld := ⟨0x30004 + 0x40 * n, 2, 1, .cmd, 0⟩
/-- `TS.CMD.SET` [1:1] CMD (R247). -/
def Reg.TS_CMD_SET (n : Nat) : Fld := ⟨0x30004 + 0x40 * n, 1, 1, .cmd, 0⟩
/-- `TS.CMD.CAPTURE` [0:0] CMD (R247). -/
def Reg.TS_CMD_CAPTURE (n : Nat) : Fld := ⟨0x30004 + 0x40 * n, 0, 1, .cmd, 0⟩
/-- `TS.STATUS.REJ` [3:3] RO (R247). -/
def Reg.TS_STATUS_REJ (n : Nat) : Fld := ⟨0x30008 + 0x40 * n, 3, 1, .ro, 0⟩
/-- `TS.STATUS.ON_XO` [2:2] ST (R247). -/
def Reg.TS_STATUS_ON_XO (n : Nat) : Fld := ⟨0x30008 + 0x40 * n, 2, 1, .st, 0⟩
/-- `TS.STATUS.TIMEOUT` [1:1] RO (R247). -/
def Reg.TS_STATUS_TIMEOUT (n : Nat) : Fld := ⟨0x30008 + 0x40 * n, 1, 1, .ro, 0⟩
/-- `TS.STATUS.PENDING` [0:0] ST (R247). -/
def Reg.TS_STATUS_PENDING (n : Nat) : Fld := ⟨0x30008 + 0x40 * n, 0, 1, .st, 0⟩
/-- `TS.STEPS.COUNT` [31:0] CNT (R247). -/
def Reg.TS_STEPS_COUNT (n : Nat) : Fld := ⟨0x3000C + 0x40 * n, 0, 32, .cnt, 0⟩
/-- `TS.INC_LO.DATA` [31:0] RO (R247). -/
def Reg.TS_INC_LO_DATA (n : Nat) : Fld := ⟨0x30010 + 0x40 * n, 0, 32, .ro, 0⟩
/-- `TS.INC_HI.DATA` [31:0] RO (R247). -/
def Reg.TS_INC_HI_DATA (n : Nat) : Fld := ⟨0x30014 + 0x40 * n, 0, 32, .ro, 2⟩
/-- `TS.INC_XO_LO.DATA` [31:0] RO (R247). -/
def Reg.TS_INC_XO_LO_DATA (n : Nat) : Fld := ⟨0x30018 + 0x40 * n, 0, 32, .ro, 0⟩
/-- `TS.INC_XO_HI.DATA` [31:0] RO (R247). -/
def Reg.TS_INC_XO_HI_DATA (n : Nat) : Fld := ⟨0x3001C + 0x40 * n, 0, 32, .ro, 0⟩
/-- `TS.CAP_S_LO.S` [31:0] RO (R247). -/
def Reg.TS_CAP_S_LO_S (n : Nat) : Fld := ⟨0x30020 + 0x40 * n, 0, 32, .ro, 0⟩
/-- `TS.CAP_S_HI.S` [15:0] RO (R247). -/
def Reg.TS_CAP_S_HI_S (n : Nat) : Fld := ⟨0x30024 + 0x40 * n, 0, 16, .ro, 0⟩
/-- `TS.CAP_NS.NS` [29:0] RO (R247). -/
def Reg.TS_CAP_NS_NS (n : Nat) : Fld := ⟨0x30028 + 0x40 * n, 0, 30, .ro, 0⟩
/-- `TS.CAP_FRAC.FRAC` [15:0] RO (R247). -/
def Reg.TS_CAP_FRAC_FRAC (n : Nat) : Fld := ⟨0x3002C + 0x40 * n, 0, 16, .ro, 0⟩
/-- `TS.VAL_S_LO.S` [31:0] RW (R247). -/
def Reg.TS_VAL_S_LO_S (n : Nat) : Fld := ⟨0x30030 + 0x40 * n, 0, 32, .rw, 0⟩
/-- `TS.VAL_S_HI.S` [15:0] RW (R247). -/
def Reg.TS_VAL_S_HI_S (n : Nat) : Fld := ⟨0x30034 + 0x40 * n, 0, 16, .rw, 0⟩
/-- `TS.VAL_NS.NS` [29:0] RW (R247). -/
def Reg.TS_VAL_NS_NS (n : Nat) : Fld := ⟨0x30038 + 0x40 * n, 0, 30, .rw, 0⟩
/-- `TS.VAL_FRAC.FRAC` [15:0] RW (R247). -/
def Reg.TS_VAL_FRAC_FRAC (n : Nat) : Fld := ⟨0x3003C + 0x40 * n, 0, 16, .rw, 0⟩
/-- `TG.CFG.TS` [31:30] RW (R248). -/
def Reg.TG_CFG_TS (n : Nat) : Fld := ⟨0x30100 + 0x18 * n, 30, 2, .rw, 0⟩
/-- `TG.CFG.ACTION` [29:28] RW (R248). -/
def Reg.TG_CFG_ACTION (n : Nat) : Fld := ⟨0x30100 + 0x18 * n, 28, 2, .rw, 0⟩
/-- `TG.CFG.TARGET` [27:22] RW (R248). -/
def Reg.TG_CFG_TARGET (n : Nat) : Fld := ⟨0x30100 + 0x18 * n, 22, 6, .rw, 0⟩
/-- `TG.CFG.LATE` [21:21] RW (R248). -/
def Reg.TG_CFG_LATE (n : Nat) : Fld := ⟨0x30100 + 0x18 * n, 21, 1, .rw, 0⟩
/-- `TG.CFG.POL` [20:20] RW (R248). -/
def Reg.TG_CFG_POL (n : Nat) : Fld := ⟨0x30100 + 0x18 * n, 20, 1, .rw, 0⟩
/-- `TG.CFG.EN` [16:16] RW (R248). -/
def Reg.TG_CFG_EN (n : Nat) : Fld := ⟨0x30100 + 0x18 * n, 16, 1, .rw, 0⟩
/-- `TG.CFG.REPEAT` [15:0] RW (R248). -/
def Reg.TG_CFG_REPEAT (n : Nat) : Fld := ⟨0x30100 + 0x18 * n, 0, 16, .rw, 0⟩
/-- `TG.TIME_LO.T` [31:0] RW (R248). -/
def Reg.TG_TIME_LO_T (n : Nat) : Fld := ⟨0x30104 + 0x18 * n, 0, 32, .rw, 0⟩
/-- `TG.TIME_HI.T` [31:0] RW (R248). -/
def Reg.TG_TIME_HI_T (n : Nat) : Fld := ⟨0x30108 + 0x18 * n, 0, 32, .rw, 0⟩
/-- `TG.PERIOD.NS` [31:0] RW (R248). -/
def Reg.TG_PERIOD_NS (n : Nat) : Fld := ⟨0x3010C + 0x18 * n, 0, 32, .rw, 0⟩
/-- `TG.PARAM.NS` [31:0] RW (R248). -/
def Reg.TG_PARAM_NS (n : Nat) : Fld := ⟨0x30110 + 0x18 * n, 0, 32, .rw, 0x64⟩
/-- `TG.STATUS.FIRED` [31:16] CNT (R248). -/
def Reg.TG_STATUS_FIRED (n : Nat) : Fld := ⟨0x30114 + 0x18 * n, 16, 16, .cnt, 0⟩
/-- `TG.STATUS.MISSED` [15:8] CNT (R248). -/
def Reg.TG_STATUS_MISSED (n : Nat) : Fld := ⟨0x30114 + 0x18 * n, 8, 8, .cnt, 0⟩
/-- `TG.STATUS.CFG_ERR` [4:4] ST (R248). -/
def Reg.TG_STATUS_CFG_ERR (n : Nat) : Fld := ⟨0x30114 + 0x18 * n, 4, 1, .st, 0⟩
/-- `TG.STATUS.COARSE` [3:3] RO (R248). -/
def Reg.TG_STATUS_COARSE (n : Nat) : Fld := ⟨0x30114 + 0x18 * n, 3, 1, .ro, 0⟩
/-- `TG.STATUS.EMPTY` [2:2] RO (R248). -/
def Reg.TG_STATUS_EMPTY (n : Nat) : Fld := ⟨0x30114 + 0x18 * n, 2, 1, .ro, 0⟩
/-- `TG.STATUS.LATE` [1:1] RO (R248). -/
def Reg.TG_STATUS_LATE (n : Nat) : Fld := ⟨0x30114 + 0x18 * n, 1, 1, .ro, 0⟩
/-- `TG.STATUS.ARMED` [0:0] ST (R248). -/
def Reg.TG_STATUS_ARMED (n : Nat) : Fld := ⟨0x30114 + 0x18 * n, 0, 1, .st, 0⟩
/-- `ETH.CTRL.EN` [31:31] RW (R324). -/
def Reg.ETH_CTRL_EN (n : Nat) : Fld := ⟨0x34000 + 0x400 * n, 31, 1, .rw, 0⟩
/-- `ETH.CTRL.MODE` [30:29] RW (R324). -/
def Reg.ETH_CTRL_MODE (n : Nat) : Fld := ⟨0x34000 + 0x400 * n, 29, 2, .rw, 1⟩
/-- `ETH.CTRL.FEC` [28:28] RW (R324). -/
def Reg.ETH_CTRL_FEC (n : Nat) : Fld := ⟨0x34000 + 0x400 * n, 28, 1, .rw, 0⟩
/-- `ETH.CTRL.AN` [27:27] RW (R324). -/
def Reg.ETH_CTRL_AN (n : Nat) : Fld := ⟨0x34000 + 0x400 * n, 27, 1, .rw, 1⟩
/-- `ETH.CTRL.PROMISC` [26:26] RW (R324). -/
def Reg.ETH_CTRL_PROMISC (n : Nat) : Fld := ⟨0x34000 + 0x400 * n, 26, 1, .rw, 0⟩
/-- `ETH.CTRL.LPBK` [25:24] RW (R324). -/
def Reg.ETH_CTRL_LPBK (n : Nat) : Fld := ⟨0x34000 + 0x400 * n, 24, 2, .rw, 0⟩
/-- `ETH.STATUS.TX_CLAMP` [7:7] ST (R324). -/
def Reg.ETH_STATUS_TX_CLAMP (n : Nat) : Fld := ⟨0x34004 + 0x400 * n, 7, 1, .st, 0⟩
/-- `ETH.STATUS.RXCLK_OK` [6:6] ST (R324). -/
def Reg.ETH_STATUS_RXCLK_OK (n : Nat) : Fld := ⟨0x34004 + 0x400 * n, 6, 1, .st, 0⟩
/-- `ETH.STATUS.REMOTE_FAULT` [5:5] ST (R324). -/
def Reg.ETH_STATUS_REMOTE_FAULT (n : Nat) : Fld := ⟨0x34004 + 0x400 * n, 5, 1, .st, 0⟩
/-- `ETH.STATUS.LOCAL_FAULT` [4:4] ST (R324). -/
def Reg.ETH_STATUS_LOCAL_FAULT (n : Nat) : Fld := ⟨0x34004 + 0x400 * n, 4, 1, .st, 0⟩
/-- `ETH.STATUS.AN_DONE` [3:3] ST (R324). -/
def Reg.ETH_STATUS_AN_DONE (n : Nat) : Fld := ⟨0x34004 + 0x400 * n, 3, 1, .st, 0⟩
/-- `ETH.STATUS.FEC_LOCK` [2:2] ST (R324). -/
def Reg.ETH_STATUS_FEC_LOCK (n : Nat) : Fld := ⟨0x34004 + 0x400 * n, 2, 1, .st, 0⟩
/-- `ETH.STATUS.PCS_LOCK` [1:1] ST (R324). -/
def Reg.ETH_STATUS_PCS_LOCK (n : Nat) : Fld := ⟨0x34004 + 0x400 * n, 1, 1, .st, 0⟩
/-- `ETH.STATUS.LINK` [0:0] ST (R324). -/
def Reg.ETH_STATUS_LINK (n : Nat) : Fld := ⟨0x34004 + 0x400 * n, 0, 1, .st, 0⟩
/-- `ETH.MAC_ADDR_LO.ADDR` [31:0] RW (R324). -/
def Reg.ETH_MAC_ADDR_LO_ADDR (n : Nat) : Fld := ⟨0x34008 + 0x400 * n, 0, 32, .rw, 0⟩
/-- `ETH.MAC_ADDR_HI.ADDR` [15:0] RW (R324). -/
def Reg.ETH_MAC_ADDR_HI_ADDR (n : Nat) : Fld := ⟨0x3400C + 0x400 * n, 0, 16, .rw, 0⟩
/-- `ETH.MAC.VLAN_EXTEND` [16:16] RW (R324). -/
def Reg.ETH_MAC_VLAN_EXTEND (n : Nat) : Fld := ⟨0x34010 + 0x400 * n, 16, 1, .rw, 0⟩
/-- `ETH.MAC.MAXLEN` [13:0] RW (R324). -/
def Reg.ETH_MAC_MAXLEN (n : Nat) : Fld := ⟨0x34010 + 0x400 * n, 0, 14, .rw, 0x5F2⟩
/-- `ETH.RX_ERR.DELIVER` [0:0] RW (R324). -/
def Reg.ETH_RX_ERR_DELIVER (n : Nat) : Fld := ⟨0x34014 + 0x400 * n, 0, 1, .rw, 0⟩
/-- `ETH.TX_THRESH.UNITS` [7:0] RWH-S (R324). -/
def Reg.ETH_TX_THRESH_UNITS (n : Nat) : Fld := ⟨0x34018 + 0x400 * n, 0, 8, .rwhS, 4⟩
/-- `ETH.SYNCE.RXCLK_EN` [31:31] RW (R324). -/
def Reg.ETH_SYNCE_RXCLK_EN (n : Nat) : Fld := ⟨0x3401C + 0x400 * n, 31, 1, .rw, 1⟩
/-- `ETH.SYNCE.TX_LOCK` [30:30] RW (R324). -/
def Reg.ETH_SYNCE_TX_LOCK (n : Nat) : Fld := ⟨0x3401C + 0x400 * n, 30, 1, .rw, 0⟩
/-- `ETH.SYNCE.TX_PATH` [29:27] RW (R324). -/
def Reg.ETH_SYNCE_TX_PATH (n : Nat) : Fld := ⟨0x3401C + 0x400 * n, 27, 3, .rw, n⟩
/-- `ETH.TXQ_CFG.EN` [31:31] RW (R325). -/
def Reg.ETH_TXQ_CFG_EN (n i : Nat) : Fld := ⟨0x34040 + 0x400 * n + 0x10 * i, 31, 1, .rw, 0⟩
/-- `ETH.TXQ_CFG.OWNER` [30:30] RW (R325). -/
def Reg.ETH_TXQ_CFG_OWNER (n i : Nat) : Fld := ⟨0x34040 + 0x400 * n + 0x10 * i, 30, 1, .rw, 0⟩
/-- `ETH.TXQ_CFG.GUARD` [29:29] RW (R325). -/
def Reg.ETH_TXQ_CFG_GUARD (n i : Nat) : Fld := ⟨0x34040 + 0x400 * n + 0x10 * i, 29, 1, .rw, 0⟩
/-- `ETH.TXQ_CFG.LATE_DROP` [28:28] RW (R325). -/
def Reg.ETH_TXQ_CFG_LATE_DROP (n i : Nat) : Fld := ⟨0x34040 + 0x400 * n + 0x10 * i, 28, 1, .rw, 0⟩
/-- `ETH.TXQ_CFG.STREAM` [27:27] ST (R325). -/
def Reg.ETH_TXQ_CFG_STREAM (n i : Nat) : Fld := ⟨0x34040 + 0x400 * n + 0x10 * i, 27, 1, .st, 0⟩
/-- `ETH.TXQ_CFG.CFG_ERR` [26:26] ST (R325). -/
def Reg.ETH_TXQ_CFG_CFG_ERR (n i : Nat) : Fld := ⟨0x34040 + 0x400 * n + 0x10 * i, 26, 1, .st, 0⟩
/-- `ETH.TXQ_CFG.SIZE_LOG` [23:20] RW (R325). -/
def Reg.ETH_TXQ_CFG_SIZE_LOG (n i : Nat) : Fld := ⟨0x34040 + 0x400 * n + 0x10 * i, 20, 4, .rw, 8⟩
/-- `ETH.TXQ_CFG.LATE_TOL` [15:0] RW (R325). -/
def Reg.ETH_TXQ_CFG_LATE_TOL (n i : Nat) : Fld := ⟨0x34040 + 0x400 * n + 0x10 * i, 0, 16, .rw, 0x3E8⟩
/-- `ETH.TXQ_BASE_LO.ADDR` [31:5] RW (R325). -/
def Reg.ETH_TXQ_BASE_LO_ADDR (n i : Nat) : Fld := ⟨0x34044 + 0x400 * n + 0x10 * i, 5, 27, .rw, 0⟩
/-- `ETH.TXQ_BASE_HI.ADDR` [31:0] RW (R325). -/
def Reg.ETH_TXQ_BASE_HI_ADDR (n i : Nat) : Fld := ⟨0x34048 + 0x400 * n + 0x10 * i, 0, 32, .rw, 0⟩
/-- `ETH.TXQ_PTR.PTR_ERR` [31:31] RO (R325). -/
def Reg.ETH_TXQ_PTR_PTR_ERR (n i : Nat) : Fld := ⟨0x3404C + 0x400 * n + 0x10 * i, 31, 1, .ro, 0⟩
/-- `ETH.TXQ_PTR.HEAD` [27:16] RO (R325). -/
def Reg.ETH_TXQ_PTR_HEAD (n i : Nat) : Fld := ⟨0x3404C + 0x400 * n + 0x10 * i, 16, 12, .ro, 0⟩
/-- `ETH.TXQ_PTR.TAIL` [11:0] RWH-S (R325). -/
def Reg.ETH_TXQ_PTR_TAIL (n i : Nat) : Fld := ⟨0x3404C + 0x400 * n + 0x10 * i, 0, 12, .rwhS, 0⟩
/-- `ETH.RXQ_CFG.EN` [31:31] RW (R325). -/
def Reg.ETH_RXQ_CFG_EN (n i : Nat) : Fld := ⟨0x340C0 + 0x400 * n + 0x10 * i, 31, 1, .rw, 0⟩
/-- `ETH.RXQ_CFG.OWNER` [30:30] RW (R325). -/
def Reg.ETH_RXQ_CFG_OWNER (n i : Nat) : Fld := ⟨0x340C0 + 0x400 * n + 0x10 * i, 30, 1, .rw, 0⟩
/-- `ETH.RXQ_CFG.BUF_LOG` [27:24] RW (R325). -/
def Reg.ETH_RXQ_CFG_BUF_LOG (n i : Nat) : Fld := ⟨0x340C0 + 0x400 * n + 0x10 * i, 24, 4, .rw, 0xB⟩
/-- `ETH.RXQ_CFG.SIZE_LOG` [23:20] RW (R325). -/
def Reg.ETH_RXQ_CFG_SIZE_LOG (n i : Nat) : Fld := ⟨0x340C0 + 0x400 * n + 0x10 * i, 20, 4, .rw, 8⟩
/-- `ETH.RXQ_CFG.CFG_ERR` [16:16] ST (R325). -/
def Reg.ETH_RXQ_CFG_CFG_ERR (n i : Nat) : Fld := ⟨0x340C0 + 0x400 * n + 0x10 * i, 16, 1, .st, 0⟩
/-- `ETH.RXQ_CFG.QUOTA` [6:0] RW (R325). -/
def Reg.ETH_RXQ_CFG_QUOTA (n i : Nat) : Fld := ⟨0x340C0 + 0x400 * n + 0x10 * i, 0, 7, .rw, 0x10⟩
/-- `ETH.RXQ_BASE_LO.ADDR` [31:5] RW (R325). -/
def Reg.ETH_RXQ_BASE_LO_ADDR (n i : Nat) : Fld := ⟨0x340C4 + 0x400 * n + 0x10 * i, 5, 27, .rw, 0⟩
/-- `ETH.RXQ_BASE_HI.ADDR` [31:0] RW (R325). -/
def Reg.ETH_RXQ_BASE_HI_ADDR (n i : Nat) : Fld := ⟨0x340C8 + 0x400 * n + 0x10 * i, 0, 32, .rw, 0⟩
/-- `ETH.RXQ_PTR.PTR_ERR` [31:31] RO (R325). -/
def Reg.ETH_RXQ_PTR_PTR_ERR (n i : Nat) : Fld := ⟨0x340CC + 0x400 * n + 0x10 * i, 31, 1, .ro, 0⟩
/-- `ETH.RXQ_PTR.HEAD` [27:16] RO (R325). -/
def Reg.ETH_RXQ_PTR_HEAD (n i : Nat) : Fld := ⟨0x340CC + 0x400 * n + 0x10 * i, 16, 12, .ro, 0⟩
/-- `ETH.RXQ_PTR.TAIL` [11:0] RWH-S (R325). -/
def Reg.ETH_RXQ_PTR_TAIL (n i : Nat) : Fld := ⟨0x340CC + 0x400 * n + 0x10 * i, 0, 12, .rwhS, 0⟩
/-- `ETH.CLASS.EN` [31:31] RW (R326). -/
def Reg.ETH_CLASS_EN (n i : Nat) : Fld := ⟨0x34100 + 0x400 * n + 0x4 * i, 31, 1, .rw, 0⟩
/-- `ETH.CLASS.KIND` [30:29] RW (R326). -/
def Reg.ETH_CLASS_KIND (n i : Nat) : Fld := ⟨0x34100 + 0x400 * n + 0x4 * i, 29, 2, .rw, 0⟩
/-- `ETH.CLASS.QUEUE` [17:16] RW (R326). -/
def Reg.ETH_CLASS_QUEUE (n i : Nat) : Fld := ⟨0x34100 + 0x400 * n + 0x4 * i, 16, 2, .rw, 0⟩
/-- `ETH.CLASS.VALUE` [15:0] RW (R326). -/
def Reg.ETH_CLASS_VALUE (n i : Nat) : Fld := ⟨0x34100 + 0x400 * n + 0x4 * i, 0, 16, .rw, 0⟩
/-- `ETH.RX_FRAMES.COUNT` [31:0] CNT (R326). -/
def Reg.ETH_RX_FRAMES_COUNT (n : Nat) : Fld := ⟨0x34180 + 0x400 * n, 0, 32, .cnt, 0⟩
/-- `ETH.RX_BYTES_LO.COUNT` [31:0] CNT (R326). -/
def Reg.ETH_RX_BYTES_LO_COUNT (n : Nat) : Fld := ⟨0x34184 + 0x400 * n, 0, 32, .cnt, 0⟩
/-- `ETH.RX_BYTES_HI.COUNT` [31:0] CNT (R326). -/
def Reg.ETH_RX_BYTES_HI_COUNT (n : Nat) : Fld := ⟨0x34188 + 0x400 * n, 0, 32, .cnt, 0⟩
/-- `ETH.RX_FCS_ERR.COUNT` [31:0] CNT (R326). -/
def Reg.ETH_RX_FCS_ERR_COUNT (n : Nat) : Fld := ⟨0x3418C + 0x400 * n, 0, 32, .cnt, 0⟩
/-- `ETH.RX_FRAG.COUNT` [31:0] CNT (R326). -/
def Reg.ETH_RX_FRAG_COUNT (n : Nat) : Fld := ⟨0x34190 + 0x400 * n, 0, 32, .cnt, 0⟩
/-- `ETH.RX_RUNT.COUNT` [31:0] CNT (R326). -/
def Reg.ETH_RX_RUNT_COUNT (n : Nat) : Fld := ⟨0x34194 + 0x400 * n, 0, 32, .cnt, 0⟩
/-- `ETH.RX_OVERSIZE.COUNT` [31:0] CNT (R326). -/
def Reg.ETH_RX_OVERSIZE_COUNT (n : Nat) : Fld := ⟨0x34198 + 0x400 * n, 0, 32, .cnt, 0⟩
/-- `ETH.RX_FILTERED.COUNT` [31:0] CNT (R326). -/
def Reg.ETH_RX_FILTERED_COUNT (n : Nat) : Fld := ⟨0x3419C + 0x400 * n, 0, 32, .cnt, 0⟩
/-- `ETH.RX_MACCTL.COUNT` [31:0] CNT (R326). -/
def Reg.ETH_RX_MACCTL_COUNT (n : Nat) : Fld := ⟨0x341A0 + 0x400 * n, 0, 32, .cnt, 0⟩
/-- `ETH.RX_NOBUF.COUNT` [31:0] CNT (R326). -/
def Reg.ETH_RX_NOBUF_COUNT (n : Nat) : Fld := ⟨0x341A4 + 0x400 * n, 0, 32, .cnt, 0⟩
/-- `ETH.TX_FRAMES.COUNT` [31:0] CNT (R326). -/
def Reg.ETH_TX_FRAMES_COUNT (n : Nat) : Fld := ⟨0x341A8 + 0x400 * n, 0, 32, .cnt, 0⟩
/-- `ETH.TX_BYTES_LO.COUNT` [31:0] CNT (R326). -/
def Reg.ETH_TX_BYTES_LO_COUNT (n : Nat) : Fld := ⟨0x341AC + 0x400 * n, 0, 32, .cnt, 0⟩
/-- `ETH.TX_BYTES_HI.COUNT` [31:0] CNT (R326). -/
def Reg.ETH_TX_BYTES_HI_COUNT (n : Nat) : Fld := ⟨0x341B0 + 0x400 * n, 0, 32, .cnt, 0⟩
/-- `ETH.TX_UNDERRUN.COUNT` [31:0] CNT (R326). -/
def Reg.ETH_TX_UNDERRUN_COUNT (n : Nat) : Fld := ⟨0x341B4 + 0x400 * n, 0, 32, .cnt, 0⟩
/-- `ETH.TX_REJECT.COUNT` [31:0] CNT (R326). -/
def Reg.ETH_TX_REJECT_COUNT (n : Nat) : Fld := ⟨0x341B8 + 0x400 * n, 0, 32, .cnt, 0⟩
/-- `ETH.TX_LATE.COUNT` [31:0] CNT (R326). -/
def Reg.ETH_TX_LATE_COUNT (n : Nat) : Fld := ⟨0x341BC + 0x400 * n, 0, 32, .cnt, 0⟩
/-- `ETH.TX_ABORT.COUNT` [31:0] CNT (R326). -/
def Reg.ETH_TX_ABORT_COUNT (n : Nat) : Fld := ⟨0x341C0 + 0x400 * n, 0, 32, .cnt, 0⟩
/-- `ETH.PCS_ERR.COUNT` [31:0] CNT (R326). -/
def Reg.ETH_PCS_ERR_COUNT (n : Nat) : Fld := ⟨0x341C4 + 0x400 * n, 0, 32, .cnt, 0⟩
/-- `ETH.FEC_CORR.COUNT` [31:0] CNT (R326). -/
def Reg.ETH_FEC_CORR_COUNT (n : Nat) : Fld := ⟨0x341C8 + 0x400 * n, 0, 32, .cnt, 0⟩
/-- `ETH.FEC_UNCORR.COUNT` [31:0] CNT (R326). -/
def Reg.ETH_FEC_UNCORR_COUNT (n : Nat) : Fld := ⟨0x341CC + 0x400 * n, 0, 32, .cnt, 0⟩
/-- `ETH.LINK_DOWN.COUNT` [31:0] CNT (R326). -/
def Reg.ETH_LINK_DOWN_COUNT (n : Nat) : Fld := ⟨0x341D0 + 0x400 * n, 0, 32, .cnt, 0⟩
/-- `ETH.WAKE_CFG.EN` [31:31] RW (R326). -/
def Reg.ETH_WAKE_CFG_EN (n : Nat) : Fld := ⟨0x341E0 + 0x400 * n, 31, 1, .rw, 0⟩
/-- `ETH.WAKE_CFG.CLR` [0:0] CMD (R326). -/
def Reg.ETH_WAKE_CFG_CLR (n : Nat) : Fld := ⟨0x341E0 + 0x400 * n, 0, 1, .cmd, 0⟩
/-- `ETH.WAKE_STATUS.COUNT` [15:8] CNT (R326). -/
def Reg.ETH_WAKE_STATUS_COUNT (n : Nat) : Fld := ⟨0x341E4 + 0x400 * n, 8, 8, .cnt, 0⟩
/-- `ETH.WAKE_STATUS.MODE_ERR` [1:1] ST (R326). -/
def Reg.ETH_WAKE_STATUS_MODE_ERR (n : Nat) : Fld := ⟨0x341E4 + 0x400 * n, 1, 1, .st, 0⟩
/-- `ETH.WAKE_STATUS.MATCH` [0:0] RO (R326). -/
def Reg.ETH_WAKE_STATUS_MATCH (n : Nat) : Fld := ⟨0x341E4 + 0x400 * n, 0, 1, .ro, 0⟩
/-- `ETH.WAKE_MASK.MASK` [31:0] RW (R326). -/
def Reg.ETH_WAKE_MASK_MASK (n i : Nat) : Fld := ⟨0x341F0 + 0x400 * n + 0x4 * i, 0, 32, .rw, 0⟩
/-- `ETH.WAKE_PAT.BYTES` [31:0] RW (R326). -/
def Reg.ETH_WAKE_PAT_BYTES (n i : Nat) : Fld := ⟨0x34200 + 0x400 * n + 0x4 * i, 0, 32, .rw, 0⟩
/-- `PTP.CFG.RX_STAMP` [31:31] RW (R353). -/
def Reg.PTP_CFG_RX_STAMP (n : Nat) : Fld := ⟨0x38000 + 0x100 * n, 31, 1, .rw, 1⟩
/-- `PTP.CFG.TS` [30:29] RW (R353). -/
def Reg.PTP_CFG_TS (n : Nat) : Fld := ⟨0x38000 + 0x100 * n, 29, 2, .rw, n⟩
/-- `PTP.CFG.FORCE_PASSIVE` [28:28] RW (R353). -/
def Reg.PTP_CFG_FORCE_PASSIVE (n : Nat) : Fld := ⟨0x38000 + 0x100 * n, 28, 1, .rw, 0⟩
/-- `PTP.CFG.TXTS_DEST` [27:27] RW (R353). -/
def Reg.PTP_CFG_TXTS_DEST (n : Nat) : Fld := ⟨0x38000 + 0x100 * n, 27, 1, .rw, 0⟩
/-- `PTP.CFG.AUTH_EN` [26:26] RW (R353). -/
def Reg.PTP_CFG_AUTH_EN (n : Nat) : Fld := ⟨0x38000 + 0x100 * n, 26, 1, .rw, 0⟩
/-- `PTP.STATUS.CFG_ERR` [4:4] ST (R353). -/
def Reg.PTP_STATUS_CFG_ERR (n : Nat) : Fld := ⟨0x38004 + 0x100 * n, 4, 1, .st, 0⟩
/-- `PTP.STATUS.GATED` [3:3] ST (R353). -/
def Reg.PTP_STATUS_GATED (n : Nat) : Fld := ⟨0x38004 + 0x100 * n, 3, 1, .st, 0⟩
/-- `PTP.STATUS.BY_SAFE` [2:2] ST (R353). -/
def Reg.PTP_STATUS_BY_SAFE (n : Nat) : Fld := ⟨0x38004 + 0x100 * n, 2, 1, .st, 0⟩
/-- `PTP.STATUS.BY_TWIN` [1:1] ST (R353). -/
def Reg.PTP_STATUS_BY_TWIN (n : Nat) : Fld := ⟨0x38004 + 0x100 * n, 1, 1, .st, 0⟩
/-- `PTP.STATUS.COARSE` [0:0] ST (R353). -/
def Reg.PTP_STATUS_COARSE (n : Nat) : Fld := ⟨0x38004 + 0x100 * n, 0, 1, .st, 0⟩
/-- `PTP.TX_ADJ.VALUE` [31:0] RW (R353). -/
def Reg.PTP_TX_ADJ_VALUE (n : Nat) : Fld := ⟨0x38008 + 0x100 * n, 0, 32, .rw, 0⟩
/-- `PTP.RX_ADJ.VALUE` [31:0] RW (R353). -/
def Reg.PTP_RX_ADJ_VALUE (n : Nat) : Fld := ⟨0x3800C + 0x100 * n, 0, 32, .rw, 0⟩
/-- `PTP.TX_LAT.VALUE` [31:0] RO (R353). -/
def Reg.PTP_TX_LAT_VALUE (n : Nat) : Fld := ⟨0x38010 + 0x100 * n, 0, 32, .ro, Config.ptpTxLat n⟩
/-- `PTP.RX_LAT.VALUE` [31:0] RO (R353). -/
def Reg.PTP_RX_LAT_VALUE (n : Nat) : Fld := ⟨0x38014 + 0x100 * n, 0, 32, .ro, Config.ptpRxLat n⟩
/-- `PTP.TXTS_ID.VALID` [31:31] RO (R353). -/
def Reg.PTP_TXTS_ID_VALID (n : Nat) : Fld := ⟨0x38018 + 0x100 * n, 31, 1, .ro, 0⟩
/-- `PTP.TXTS_ID.GAP` [30:30] RO (R353). -/
def Reg.PTP_TXTS_ID_GAP (n : Nat) : Fld := ⟨0x38018 + 0x100 * n, 30, 1, .ro, 0⟩
/-- `PTP.TXTS_ID.ABORTED` [29:29] RO (R353). -/
def Reg.PTP_TXTS_ID_ABORTED (n : Nat) : Fld := ⟨0x38018 + 0x100 * n, 29, 1, .ro, 0⟩
/-- `PTP.TXTS_ID.COARSE` [28:28] RO (R353). -/
def Reg.PTP_TXTS_ID_COARSE (n : Nat) : Fld := ⟨0x38018 + 0x100 * n, 28, 1, .ro, 0⟩
/-- `PTP.TXTS_ID.LOST` [23:16] RO (R353). -/
def Reg.PTP_TXTS_ID_LOST (n : Nat) : Fld := ⟨0x38018 + 0x100 * n, 16, 8, .ro, 0⟩
/-- `PTP.TXTS_ID.ID` [15:0] RO (R353). -/
def Reg.PTP_TXTS_ID_ID (n : Nat) : Fld := ⟨0x38018 + 0x100 * n, 0, 16, .ro, 0⟩
/-- `PTP.TXTS_S_LO.S` [31:0] RO (R353). -/
def Reg.PTP_TXTS_S_LO_S (n : Nat) : Fld := ⟨0x3801C + 0x100 * n, 0, 32, .ro, 0⟩
/-- `PTP.TXTS_S_HI.S` [15:0] RO (R353). -/
def Reg.PTP_TXTS_S_HI_S (n : Nat) : Fld := ⟨0x38020 + 0x100 * n, 0, 16, .ro, 0⟩
/-- `PTP.TXTS_NS.NS` [29:0] RO (R353). -/
def Reg.PTP_TXTS_NS_NS (n : Nat) : Fld := ⟨0x38024 + 0x100 * n, 0, 30, .ro, 0⟩
/-- `PTP.TXTS_FRAC.FRAC` [15:0] RO (R353). -/
def Reg.PTP_TXTS_FRAC_FRAC (n : Nat) : Fld := ⟨0x38028 + 0x100 * n, 0, 16, .ro, 0⟩
/-- `PTP.TXTS_LEVEL.LEVEL` [6:0] RO (R353). -/
def Reg.PTP_TXTS_LEVEL_LEVEL (n : Nat) : Fld := ⟨0x3802C + 0x100 * n, 0, 7, .ro, 0⟩
/-- `PTP.TXTS_OVF.COUNT` [31:0] CNT (R353). -/
def Reg.PTP_TXTS_OVF_COUNT (n : Nat) : Fld := ⟨0x38030 + 0x100 * n, 0, 32, .cnt, 0⟩
/-- `PTP.TXTS_BASE.ADDR` [20:10] RW (R353). -/
def Reg.PTP_TXTS_BASE_ADDR (n : Nat) : Fld := ⟨0x38034 + 0x100 * n, 10, 11, .rw, 0⟩
/-- `PTP.ONE_STEP.COUNT` [31:0] CNT (R353). -/
def Reg.PTP_ONE_STEP_COUNT (n : Nat) : Fld := ⟨0x38038 + 0x100 * n, 0, 32, .cnt, 0⟩
/-- `PTP.ONE_STEP_SKIP.COUNT` [31:0] CNT (R353). -/
def Reg.PTP_ONE_STEP_SKIP_COUNT (n : Nat) : Fld := ⟨0x3803C + 0x100 * n, 0, 32, .cnt, 0⟩
/-- `PTP.PASSIVE_DROP.COUNT` [31:0] CNT (R353). -/
def Reg.PTP_PASSIVE_DROP_COUNT (n : Nat) : Fld := ⟨0x38040 + 0x100 * n, 0, 32, .cnt, 0⟩
/-- `PTP.AUTH_COUNT.FAIL` [31:16] CNT (R353). -/
def Reg.PTP_AUTH_COUNT_FAIL (n : Nat) : Fld := ⟨0x38044 + 0x100 * n, 16, 16, .cnt, 0⟩
/-- `PTP.AUTH_COUNT.UNKNOWN` [15:0] CNT (R353). -/
def Reg.PTP_AUTH_COUNT_UNKNOWN (n : Nat) : Fld := ⟨0x38044 + 0x100 * n, 0, 16, .cnt, 0⟩
/-- `PTP.SA_CFG.EN` [31:31] RW (R353). -/
def Reg.PTP_SA_CFG_EN (n i : Nat) : Fld := ⟨0x38050 + 0x100 * n + 0x8 * i, 31, 1, .rw, 0⟩
/-- `PTP.SA_CFG.TX` [30:30] RW (R353). -/
def Reg.PTP_SA_CFG_TX (n i : Nat) : Fld := ⟨0x38050 + 0x100 * n + 0x8 * i, 30, 1, .rw, 0⟩
/-- `PTP.SA_CFG.KEY_SLOT` [21:16] RW (R353). -/
def Reg.PTP_SA_CFG_KEY_SLOT (n i : Nat) : Fld := ⟨0x38050 + 0x100 * n + 0x8 * i, 16, 6, .rw, 0⟩
/-- `PTP.SA_CFG.SPP` [7:0] RW (R353). -/
def Reg.PTP_SA_CFG_SPP (n i : Nat) : Fld := ⟨0x38050 + 0x100 * n + 0x8 * i, 0, 8, .rw, 0⟩
/-- `PTP.SA_KEYID.KEYID` [31:0] RW (R353). -/
def Reg.PTP_SA_KEYID_KEYID (n i : Nat) : Fld := ⟨0x38054 + 0x100 * n + 0x8 * i, 0, 32, .rw, 0⟩
/-- `TWIN.CFG.EN` [31:31] RW (R379). -/
def Reg.TWIN_CFG_EN : Fld := ⟨0x3C000, 31, 1, .rw, 0⟩
/-- `TWIN.CFG.ACCEPT_RESET` [30:30] RW (R379). -/
def Reg.TWIN_CFG_ACCEPT_RESET : Fld := ⟨0x3C000, 30, 1, .rw, 0⟩
/-- `TWIN.CFG.PPS_TS` [29:28] RW (R379). -/
def Reg.TWIN_CFG_PPS_TS : Fld := ⟨0x3C000, 28, 2, .rw, 0⟩
/-- `TWIN.CFG.FOLLOW_TS` [27:24] RW (R379). -/
def Reg.TWIN_CFG_FOLLOW_TS : Fld := ⟨0x3C000, 24, 4, .rw, 0⟩
/-- `TWIN.CFG.FOLLOW_P` [23:16] RW (R379). -/
def Reg.TWIN_CFG_FOLLOW_P : Fld := ⟨0x3C000, 16, 8, .rw, 0⟩
/-- `TWIN.CLK_CFG.CLK_EN` [31:31] RW (R379). -/
def Reg.TWIN_CLK_CFG_CLK_EN : Fld := ⟨0x3C004, 31, 1, .rw, 0⟩
/-- `TWIN.CLK_CFG.PPS_EN` [30:30] RW (R379). -/
def Reg.TWIN_CLK_CFG_PPS_EN : Fld := ⟨0x3C004, 30, 1, .rw, 0⟩
/-- `TWIN.CLK_CFG.APLL` [29:27] RW (R379). -/
def Reg.TWIN_CLK_CFG_APLL : Fld := ⟨0x3C004, 27, 3, .rw, 0⟩
/-- `TWIN.CLK_CFG.DIV` [6:0] RW (R379). -/
def Reg.TWIN_CLK_CFG_DIV : Fld := ⟨0x3C004, 0, 7, .rw, 0x50⟩
/-- `TWIN.ASYM.VALUE` [31:0] RW (R379). -/
def Reg.TWIN_ASYM_VALUE : Fld := ⟨0x3C008, 0, 32, .rw, 0⟩
/-- `TWIN.OFFSET.VALUE` [31:0] RW (R379). -/
def Reg.TWIN_OFFSET_VALUE : Fld := ⟨0x3C00C, 0, 32, .rw, 0⟩
/-- `TWIN.STATUS.ROLE` [31:29] RO (R379). -/
def Reg.TWIN_STATUS_ROLE : Fld := ⟨0x3C010, 29, 3, .ro, 0⟩
/-- `TWIN.STATUS.PAIR_ID` [28:28] RO (R379). -/
def Reg.TWIN_STATUS_PAIR_ID : Fld := ⟨0x3C010, 28, 1, .ro, 0⟩
/-- `TWIN.STATUS.SOLO_STRAP` [27:27] RO (R379). -/
def Reg.TWIN_STATUS_SOLO_STRAP : Fld := ⟨0x3C010, 27, 1, .ro, 0⟩
/-- `TWIN.STATUS.LINK` [26:26] ST (R379). -/
def Reg.TWIN_STATUS_LINK : Fld := ⟨0x3C010, 26, 1, .st, 0⟩
/-- `TWIN.STATUS.WITNESS` [25:25] ST (R379). -/
def Reg.TWIN_STATUS_WITNESS : Fld := ⟨0x3C010, 25, 1, .st, 0⟩
/-- `TWIN.STATUS.LANE1_OK` [24:24] ST (R379). -/
def Reg.TWIN_STATUS_LANE1_OK : Fld := ⟨0x3C010, 24, 1, .st, 0⟩
/-- `TWIN.STATUS.LANE0_OK` [23:23] ST (R379). -/
def Reg.TWIN_STATUS_LANE0_OK : Fld := ⟨0x3C010, 23, 1, .st, 0⟩
/-- `TWIN.STATUS.CAL_VALID` [22:22] ST (R379). -/
def Reg.TWIN_STATUS_CAL_VALID : Fld := ⟨0x3C010, 22, 1, .st, 0⟩
/-- `TWIN.STATUS.INDEXED` [21:21] ST (R379). -/
def Reg.TWIN_STATUS_INDEXED : Fld := ⟨0x3C010, 21, 1, .st, 0⟩
/-- `TWIN.STATUS.SLIP` [20:20] ST (R379). -/
def Reg.TWIN_STATUS_SLIP : Fld := ⟨0x3C010, 20, 1, .st, 0⟩
/-- `TWIN.STATUS.CLK_ERR` [19:19] ST (R379). -/
def Reg.TWIN_STATUS_CLK_ERR : Fld := ⟨0x3C010, 19, 1, .st, 0⟩
/-- `TWIN.STATUS.ALIGN_CFG_ERR` [18:18] ST (R379). -/
def Reg.TWIN_STATUS_ALIGN_CFG_ERR : Fld := ⟨0x3C010, 18, 1, .st, 0⟩
/-- `TWIN.STATUS.CONFLICT` [17:17] ST (R379). -/
def Reg.TWIN_STATUS_CONFLICT : Fld := ⟨0x3C010, 17, 1, .st, 0⟩
/-- `TWIN.STATUS.INELIGIBLE` [16:16] ST (R379). -/
def Reg.TWIN_STATUS_INELIGIBLE : Fld := ⟨0x3C010, 16, 1, .st, 0⟩
/-- `TWIN.STATUS.DEMOTE_PENDING` [15:15] ST (R379). -/
def Reg.TWIN_STATUS_DEMOTE_PENDING : Fld := ⟨0x3C010, 15, 1, .st, 0⟩
/-- `TWIN.EPOCH.TWIN` [31:16] RO (R379). -/
def Reg.TWIN_EPOCH_TWIN : Fld := ⟨0x3C014, 16, 16, .ro, 0⟩
/-- `TWIN.EPOCH.OWN` [15:0] RO (R379). -/
def Reg.TWIN_EPOCH_OWN : Fld := ⟨0x3C014, 0, 16, .ro, 0⟩
/-- `TWIN.CMD.RESET_TWIN` [1:1] CMD (R379). -/
def Reg.TWIN_CMD_RESET_TWIN : Fld := ⟨0x3C018, 1, 1, .cmd, 0⟩
/-- `TWIN.CMD.DEMOTE` [0:0] CMD (R379). -/
def Reg.TWIN_CMD_DEMOTE : Fld := ⟨0x3C018, 0, 1, .cmd, 0⟩
/-- `TWIN.M_LOCAL.VALUE` [31:0] RO (R379). -/
def Reg.TWIN_M_LOCAL_VALUE : Fld := ⟨0x3C01C, 0, 32, .ro, 0⟩
/-- `TWIN.M_REMOTE.VALUE` [31:0] RO (R379). -/
def Reg.TWIN_M_REMOTE_VALUE : Fld := ⟨0x3C020, 0, 32, .ro, 0⟩
/-- `TWIN.DELAY.VALUE` [31:0] RO (R379). -/
def Reg.TWIN_DELAY_VALUE : Fld := ⟨0x3C024, 0, 32, .ro, 0⟩
/-- `TWIN.COUNT0.LINK_LOSS` [31:16] CNT (R379). -/
def Reg.TWIN_COUNT0_LINK_LOSS : Fld := ⟨0x3C028, 16, 16, .cnt, 0⟩
/-- `TWIN.COUNT0.WIT_LOSS` [15:0] CNT (R379). -/
def Reg.TWIN_COUNT0_WIT_LOSS : Fld := ⟨0x3C028, 0, 16, .cnt, 0⟩
/-- `TWIN.COUNT1.PROMOTIONS` [31:16] CNT (R379). -/
def Reg.TWIN_COUNT1_PROMOTIONS : Fld := ⟨0x3C02C, 16, 16, .cnt, 0⟩
/-- `TWIN.COUNT1.DEMOTIONS` [15:0] CNT (R379). -/
def Reg.TWIN_COUNT1_DEMOTIONS : Fld := ⟨0x3C02C, 0, 16, .cnt, 0⟩
/-- `TWIN.COUNT2.CRC_ERR` [31:16] CNT (R379). -/
def Reg.TWIN_COUNT2_CRC_ERR : Fld := ⟨0x3C030, 16, 16, .cnt, 0⟩
/-- `TWIN.COUNT2.SLIPS` [15:0] CNT (R379). -/
def Reg.TWIN_COUNT2_SLIPS : Fld := ⟨0x3C030, 0, 16, .cnt, 0⟩
/-- `TWIN.FOLD.VALUE` [31:0] RW (R379). -/
def Reg.TWIN_FOLD_VALUE (i : Nat) : Fld := ⟨0x3C040 + 0x4 * i, 0, 32, .rw, 0⟩
/-- `TWIN.ERR_P.VALUE` [31:0] RO (R379). -/
def Reg.TWIN_ERR_P_VALUE (i : Nat) : Fld := ⟨0x3C060 + 0x4 * i, 0, 32, .ro, 0⟩
/-- `TWIN.ERR_TS.SUBSEC` [31:8] RO (R379). -/
def Reg.TWIN_ERR_TS_SUBSEC (i : Nat) : Fld := ⟨0x3C080 + 0x4 * i, 8, 24, .ro, 0⟩
/-- `TWIN.ERR_TS.SEC` [7:0] RO (R379). -/
def Reg.TWIN_ERR_TS_SEC (i : Nat) : Fld := ⟨0x3C080 + 0x4 * i, 0, 8, .ro, 0⟩
/-- `EVR.CTRL.TTL` [31:24] RW (R299). -/
def Reg.EVR_CTRL_TTL : Fld := ⟨0x3E000, 24, 8, .rw, 0x40⟩
/-- `EVR.CTRL.DSCP` [23:18] RW (R299). -/
def Reg.EVR_CTRL_DSCP : Fld := ⟨0x3E000, 18, 6, .rw, 0⟩
/-- `EVR.CTRL.SCRUB_EN` [0:0] RW (R299). -/
def Reg.EVR_CTRL_SCRUB_EN : Fld := ⟨0x3E000, 0, 1, .rw, 1⟩
/-- `EVR.STATUS.SPARES_LEFT` [15:8] RO (R299). -/
def Reg.EVR_STATUS_SPARES_LEFT : Fld := ⟨0x3E004, 8, 8, .ro, Config.dramSparesLeft⟩
/-- `EVR.STATUS.READY` [0:0] ST (R299). -/
def Reg.EVR_STATUS_READY : Fld := ⟨0x3E004, 0, 1, .st, 0⟩
/-- `EVR.ROLE_MAP.EN7` [31:31] RW (R299). -/
def Reg.EVR_ROLE_MAP_EN7 (i : Nat) : Fld := ⟨0x3E008 + 0x4 * i, 31, 1, .rw, 0⟩
/-- `EVR.ROLE_MAP.RING7` [30:28] RW (R299). -/
def Reg.EVR_ROLE_MAP_RING7 (i : Nat) : Fld := ⟨0x3E008 + 0x4 * i, 28, 3, .rw, 0⟩
/-- `EVR.ROLE_MAP.EN6` [27:27] RW (R299). -/
def Reg.EVR_ROLE_MAP_EN6 (i : Nat) : Fld := ⟨0x3E008 + 0x4 * i, 27, 1, .rw, 0⟩
/-- `EVR.ROLE_MAP.RING6` [26:24] RW (R299). -/
def Reg.EVR_ROLE_MAP_RING6 (i : Nat) : Fld := ⟨0x3E008 + 0x4 * i, 24, 3, .rw, 0⟩
/-- `EVR.ROLE_MAP.EN5` [23:23] RW (R299). -/
def Reg.EVR_ROLE_MAP_EN5 (i : Nat) : Fld := ⟨0x3E008 + 0x4 * i, 23, 1, .rw, 0⟩
/-- `EVR.ROLE_MAP.RING5` [22:20] RW (R299). -/
def Reg.EVR_ROLE_MAP_RING5 (i : Nat) : Fld := ⟨0x3E008 + 0x4 * i, 20, 3, .rw, 0⟩
/-- `EVR.ROLE_MAP.EN4` [19:19] RW (R299). -/
def Reg.EVR_ROLE_MAP_EN4 (i : Nat) : Fld := ⟨0x3E008 + 0x4 * i, 19, 1, .rw, 0⟩
/-- `EVR.ROLE_MAP.RING4` [18:16] RW (R299). -/
def Reg.EVR_ROLE_MAP_RING4 (i : Nat) : Fld := ⟨0x3E008 + 0x4 * i, 16, 3, .rw, 0⟩
/-- `EVR.ROLE_MAP.EN3` [15:15] RW (R299). -/
def Reg.EVR_ROLE_MAP_EN3 (i : Nat) : Fld := ⟨0x3E008 + 0x4 * i, 15, 1, .rw, 0⟩
/-- `EVR.ROLE_MAP.RING3` [14:12] RW (R299). -/
def Reg.EVR_ROLE_MAP_RING3 (i : Nat) : Fld := ⟨0x3E008 + 0x4 * i, 12, 3, .rw, 0⟩
/-- `EVR.ROLE_MAP.EN2` [11:11] RW (R299). -/
def Reg.EVR_ROLE_MAP_EN2 (i : Nat) : Fld := ⟨0x3E008 + 0x4 * i, 11, 1, .rw, 0⟩
/-- `EVR.ROLE_MAP.RING2` [10:8] RW (R299). -/
def Reg.EVR_ROLE_MAP_RING2 (i : Nat) : Fld := ⟨0x3E008 + 0x4 * i, 8, 3, .rw, 0⟩
/-- `EVR.ROLE_MAP.EN1` [7:7] RW (R299). -/
def Reg.EVR_ROLE_MAP_EN1 (i : Nat) : Fld := ⟨0x3E008 + 0x4 * i, 7, 1, .rw, 0⟩
/-- `EVR.ROLE_MAP.RING1` [6:4] RW (R299). -/
def Reg.EVR_ROLE_MAP_RING1 (i : Nat) : Fld := ⟨0x3E008 + 0x4 * i, 4, 3, .rw, 0⟩
/-- `EVR.ROLE_MAP.EN0` [3:3] RW (R299). -/
def Reg.EVR_ROLE_MAP_EN0 (i : Nat) : Fld := ⟨0x3E008 + 0x4 * i, 3, 1, .rw, 0⟩
/-- `EVR.ROLE_MAP.RING0` [2:0] RW (R299). -/
def Reg.EVR_ROLE_MAP_RING0 (i : Nat) : Fld := ⟨0x3E008 + 0x4 * i, 0, 3, .rw, 0⟩
/-- `EVR.GROUP_MAP.EN7` [31:31] RW (R299). -/
def Reg.EVR_GROUP_MAP_EN7 (i : Nat) : Fld := ⟨0x3E020 + 0x4 * i, 31, 1, .rw, 0⟩
/-- `EVR.GROUP_MAP.RING7` [30:28] RW (R299). -/
def Reg.EVR_GROUP_MAP_RING7 (i : Nat) : Fld := ⟨0x3E020 + 0x4 * i, 28, 3, .rw, 0⟩
/-- `EVR.GROUP_MAP.EN6` [27:27] RW (R299). -/
def Reg.EVR_GROUP_MAP_EN6 (i : Nat) : Fld := ⟨0x3E020 + 0x4 * i, 27, 1, .rw, 0⟩
/-- `EVR.GROUP_MAP.RING6` [26:24] RW (R299). -/
def Reg.EVR_GROUP_MAP_RING6 (i : Nat) : Fld := ⟨0x3E020 + 0x4 * i, 24, 3, .rw, 0⟩
/-- `EVR.GROUP_MAP.EN5` [23:23] RW (R299). -/
def Reg.EVR_GROUP_MAP_EN5 (i : Nat) : Fld := ⟨0x3E020 + 0x4 * i, 23, 1, .rw, 0⟩
/-- `EVR.GROUP_MAP.RING5` [22:20] RW (R299). -/
def Reg.EVR_GROUP_MAP_RING5 (i : Nat) : Fld := ⟨0x3E020 + 0x4 * i, 20, 3, .rw, 0⟩
/-- `EVR.GROUP_MAP.EN4` [19:19] RW (R299). -/
def Reg.EVR_GROUP_MAP_EN4 (i : Nat) : Fld := ⟨0x3E020 + 0x4 * i, 19, 1, .rw, 0⟩
/-- `EVR.GROUP_MAP.RING4` [18:16] RW (R299). -/
def Reg.EVR_GROUP_MAP_RING4 (i : Nat) : Fld := ⟨0x3E020 + 0x4 * i, 16, 3, .rw, 0⟩
/-- `EVR.GROUP_MAP.EN3` [15:15] RW (R299). -/
def Reg.EVR_GROUP_MAP_EN3 (i : Nat) : Fld := ⟨0x3E020 + 0x4 * i, 15, 1, .rw, 0⟩
/-- `EVR.GROUP_MAP.RING3` [14:12] RW (R299). -/
def Reg.EVR_GROUP_MAP_RING3 (i : Nat) : Fld := ⟨0x3E020 + 0x4 * i, 12, 3, .rw, 0⟩
/-- `EVR.GROUP_MAP.EN2` [11:11] RW (R299). -/
def Reg.EVR_GROUP_MAP_EN2 (i : Nat) : Fld := ⟨0x3E020 + 0x4 * i, 11, 1, .rw, 0⟩
/-- `EVR.GROUP_MAP.RING2` [10:8] RW (R299). -/
def Reg.EVR_GROUP_MAP_RING2 (i : Nat) : Fld := ⟨0x3E020 + 0x4 * i, 8, 3, .rw, 0⟩
/-- `EVR.GROUP_MAP.EN1` [7:7] RW (R299). -/
def Reg.EVR_GROUP_MAP_EN1 (i : Nat) : Fld := ⟨0x3E020 + 0x4 * i, 7, 1, .rw, 0⟩
/-- `EVR.GROUP_MAP.RING1` [6:4] RW (R299). -/
def Reg.EVR_GROUP_MAP_RING1 (i : Nat) : Fld := ⟨0x3E020 + 0x4 * i, 4, 3, .rw, 0⟩
/-- `EVR.GROUP_MAP.EN0` [3:3] RW (R299). -/
def Reg.EVR_GROUP_MAP_EN0 (i : Nat) : Fld := ⟨0x3E020 + 0x4 * i, 3, 1, .rw, 0⟩
/-- `EVR.GROUP_MAP.RING0` [2:0] RW (R299). -/
def Reg.EVR_GROUP_MAP_RING0 (i : Nat) : Fld := ⟨0x3E020 + 0x4 * i, 0, 3, .rw, 0⟩
/-- `EVR.ECC.CORR` [31:16] CNT (R299). -/
def Reg.EVR_ECC_CORR : Fld := ⟨0x3E028, 16, 16, .cnt, 0⟩
/-- `EVR.ECC.UNC` [15:0] CNT (R299). -/
def Reg.EVR_ECC_UNC : Fld := ⟨0x3E028, 0, 16, .cnt, 0⟩
/-- `EVR.ECC_ADDR.ADDR` [26:0] RO (R299). -/
def Reg.EVR_ECC_ADDR_ADDR : Fld := ⟨0x3E02C, 0, 27, .ro, 0⟩
/-- `EVR.STREAM_DMAC_LO.MAC` [31:0] RW (R299). -/
def Reg.EVR_STREAM_DMAC_LO_MAC : Fld := ⟨0x3E030, 0, 32, .rw, 0⟩
/-- `EVR.STREAM_DMAC_HI.BASE_PORT` [31:16] RW (R299). -/
def Reg.EVR_STREAM_DMAC_HI_BASE_PORT : Fld := ⟨0x3E034, 16, 16, .rw, 0xC724⟩
/-- `EVR.STREAM_DMAC_HI.MAC` [15:0] RW (R299). -/
def Reg.EVR_STREAM_DMAC_HI_MAC : Fld := ⟨0x3E034, 0, 16, .rw, 0⟩
/-- `EVR.STREAM_SIP.ADDR` [31:0] RW (R299). -/
def Reg.EVR_STREAM_SIP_ADDR : Fld := ⟨0x3E038, 0, 32, .rw, 0⟩
/-- `EVR.STREAM_DIP.ADDR` [31:0] RW (R299). -/
def Reg.EVR_STREAM_DIP_ADDR : Fld := ⟨0x3E03C, 0, 32, .rw, 0⟩
/-- `EVR.RING_CFG.EN` [31:31] RW (R300). -/
def Reg.EVR_RING_CFG_EN (i : Nat) : Fld := ⟨0x3E040 + 0x28 * i, 31, 1, .rw, 0⟩
/-- `EVR.RING_CFG.FORMAT` [30:30] RW (R300). -/
def Reg.EVR_RING_CFG_FORMAT (i : Nat) : Fld := ⟨0x3E040 + 0x28 * i, 30, 1, .rw, 0⟩
/-- `EVR.RING_CFG.POLICY` [29:29] RW (R300). -/
def Reg.EVR_RING_CFG_POLICY (i : Nat) : Fld := ⟨0x3E040 + 0x28 * i, 29, 1, .rw, 0⟩
/-- `EVR.RING_CFG.TS` [28:27] RW (R300). -/
def Reg.EVR_RING_CFG_TS (i : Nat) : Fld := ⟨0x3E040 + 0x28 * i, 27, 2, .rw, 0⟩
/-- `EVR.RING_CFG.STREAM` [26:26] RW (R300). -/
def Reg.EVR_RING_CFG_STREAM (i : Nat) : Fld := ⟨0x3E040 + 0x28 * i, 26, 1, .rw, 0⟩
/-- `EVR.RING_CFG.PORT` [25:24] RW (R300). -/
def Reg.EVR_RING_CFG_PORT (i : Nat) : Fld := ⟨0x3E040 + 0x28 * i, 24, 2, .rw, 0⟩
/-- `EVR.RING_CFG.QUEUE` [23:21] RW (R300). -/
def Reg.EVR_RING_CFG_QUEUE (i : Nat) : Fld := ⟨0x3E040 + 0x28 * i, 21, 3, .rw, 0⟩
/-- `EVR.RING_CFG.FLUSH` [9:0] RW (R300). -/
def Reg.EVR_RING_CFG_FLUSH (i : Nat) : Fld := ⟨0x3E040 + 0x28 * i, 0, 10, .rw, 0x64⟩
/-- `EVR.RING_BASE.UNITS` [10:0] RW (R300). -/
def Reg.EVR_RING_BASE_UNITS (i : Nat) : Fld := ⟨0x3E044 + 0x28 * i, 0, 11, .rw, 0x100 * i⟩
/-- `EVR.RING_SIZE.UNITS` [11:0] RW (R300). -/
def Reg.EVR_RING_SIZE_UNITS (i : Nat) : Fld := ⟨0x3E048 + 0x28 * i, 0, 12, .rw, 0x100⟩
/-- `EVR.RING_WR.OFFSET` [26:0] RO (R300). -/
def Reg.EVR_RING_WR_OFFSET (i : Nat) : Fld := ⟨0x3E04C + 0x28 * i, 0, 27, .ro, 0⟩
/-- `EVR.RING_RD.OFFSET` [26:0] RWH-H (R300). -/
def Reg.EVR_RING_RD_OFFSET (i : Nat) : Fld := ⟨0x3E050 + 0x28 * i, 0, 27, .rwhH, 0⟩
/-- `EVR.RING_STATUS.RD_ERR` [4:4] RO (R300). -/
def Reg.EVR_RING_STATUS_RD_ERR (i : Nat) : Fld := ⟨0x3E054 + 0x28 * i, 4, 1, .ro, 0⟩
/-- `EVR.RING_STATUS.TS_MISMATCH` [3:3] ST (R300). -/
def Reg.EVR_RING_STATUS_TS_MISMATCH (i : Nat) : Fld := ⟨0x3E054 + 0x28 * i, 3, 1, .st, 0⟩
/-- `EVR.RING_STATUS.FULL` [2:2] ST (R300). -/
def Reg.EVR_RING_STATUS_FULL (i : Nat) : Fld := ⟨0x3E054 + 0x28 * i, 2, 1, .st, 0⟩
/-- `EVR.RING_STATUS.CFG_ERR` [1:1] ST (R300). -/
def Reg.EVR_RING_STATUS_CFG_ERR (i : Nat) : Fld := ⟨0x3E054 + 0x28 * i, 1, 1, .st, 0⟩
/-- `EVR.RING_STATUS.RUNNING` [0:0] ST (R300). -/
def Reg.EVR_RING_STATUS_RUNNING (i : Nat) : Fld := ⟨0x3E054 + 0x28 * i, 0, 1, .st, 0⟩
/-- `EVR.RING_WRITTEN_LO.COUNT` [31:0] RO (R300). -/
def Reg.EVR_RING_WRITTEN_LO_COUNT (i : Nat) : Fld := ⟨0x3E058 + 0x28 * i, 0, 32, .ro, 0⟩
/-- `EVR.RING_WRITTEN_HI.COUNT` [31:0] RO (R300). -/
def Reg.EVR_RING_WRITTEN_HI_COUNT (i : Nat) : Fld := ⟨0x3E05C + 0x28 * i, 0, 32, .ro, 0⟩
/-- `EVR.RING_DROPPED.COUNT` [31:0] CNT (R300). -/
def Reg.EVR_RING_DROPPED_COUNT (i : Nat) : Fld := ⟨0x3E060 + 0x28 * i, 0, 32, .cnt, 0⟩
/-- `EVR.RING_PKTS.COUNT` [31:0] CNT (R300). -/
def Reg.EVR_RING_PKTS_COUNT (i : Nat) : Fld := ⟨0x3E064 + 0x28 * i, 0, 32, .cnt, 0⟩
/-- `TST.CFG.AUTO_MAP` [0:0] RW (R487). -/
def Reg.TST_CFG_AUTO_MAP : Fld := ⟨0x3F000, 0, 1, .rw, 1⟩
/-- `TST.BIST_CMD.INDEX` [15:8] RW (R487). -/
def Reg.TST_BIST_CMD_INDEX : Fld := ⟨0x3F004, 8, 8, .rw, 0⟩
/-- `TST.BIST_CMD.TARGET` [7:4] RW (R487). -/
def Reg.TST_BIST_CMD_TARGET : Fld := ⟨0x3F004, 4, 4, .rw, 0⟩
/-- `TST.BIST_CMD.GO` [0:0] CMD (R487). -/
def Reg.TST_BIST_CMD_GO : Fld := ⟨0x3F004, 0, 1, .cmd, 0⟩
/-- `TST.BIST_STATUS.DETAIL` [31:8] RO (R487). -/
def Reg.TST_BIST_STATUS_DETAIL : Fld := ⟨0x3F008, 8, 24, .ro, 0⟩
/-- `TST.BIST_STATUS.BUSY` [7:7] ST (R487). -/
def Reg.TST_BIST_STATUS_BUSY : Fld := ⟨0x3F008, 7, 1, .st, 0⟩
/-- `TST.BIST_STATUS.RESULT` [3:0] RO (R487). -/
def Reg.TST_BIST_STATUS_RESULT : Fld := ⟨0x3F008, 0, 4, .ro, 0⟩
/-- `TST.REPAIR_TDC.SPARE3` [31:24] RW (R487). -/
def Reg.TST_REPAIR_TDC_SPARE3 : Fld := ⟨0x3F00C, 24, 8, .rw, 0⟩
/-- `TST.REPAIR_TDC.SPARE2` [23:16] RW (R487). -/
def Reg.TST_REPAIR_TDC_SPARE2 : Fld := ⟨0x3F00C, 16, 8, .rw, 0⟩
/-- `TST.REPAIR_TDC.SPARE1` [15:8] RW (R487). -/
def Reg.TST_REPAIR_TDC_SPARE1 : Fld := ⟨0x3F00C, 8, 8, .rw, 0⟩
/-- `TST.REPAIR_TDC.SPARE0` [7:0] RW (R487). -/
def Reg.TST_REPAIR_TDC_SPARE0 : Fld := ⟨0x3F00C, 0, 8, .rw, 0⟩
/-- `TST.REPAIR_APLL.FAILED` [7:0] RW (R487). -/
def Reg.TST_REPAIR_APLL_FAILED : Fld := ⟨0x3F010, 0, 8, .rw, 0⟩
/-- `TST.REPAIR_CMD.RESULT` [7:4] RO (R487). -/
def Reg.TST_REPAIR_CMD_RESULT : Fld := ⟨0x3F014, 4, 4, .ro, 0⟩
/-- `TST.REPAIR_CMD.SAVE_APLL` [1:1] CMD (R487). -/
def Reg.TST_REPAIR_CMD_SAVE_APLL : Fld := ⟨0x3F014, 1, 1, .cmd, 0⟩
/-- `TST.REPAIR_CMD.SAVE_TDC` [0:0] CMD (R487). -/
def Reg.TST_REPAIR_CMD_SAVE_TDC : Fld := ⟨0x3F014, 0, 1, .cmd, 0⟩
/-- `TST.REPAIR_STATUS.DRAM_ROWS` [15:8] RO (R487). -/
def Reg.TST_REPAIR_STATUS_DRAM_ROWS : Fld := ⟨0x3F018, 8, 8, .ro, 0⟩
/-- `TST.REPAIR_STATUS.MAP_SKIP` [7:4] ST (R487). -/
def Reg.TST_REPAIR_STATUS_MAP_SKIP : Fld := ⟨0x3F018, 4, 4, .st, 0⟩
/-- `TST.REPAIR_STATUS.APLL_APPLIED` [2:2] ST (R487). -/
def Reg.TST_REPAIR_STATUS_APLL_APPLIED : Fld := ⟨0x3F018, 2, 1, .st, 0⟩
/-- `TST.JTAG_ID.ID` [31:0] RO (R487). -/
def Reg.TST_JTAG_ID_ID : Fld := ⟨0x3F01C, 0, 32, .ro, 0x17240001 + 2 * (Config.jtagMaker % 2048)⟩

/-- The fields at offset `off` of block DEV. -/
def fieldsDEV (off : Nat) : List Fld :=
  if off = 0x0 then [Reg.DEV_ID_PART, Reg.DEV_ID_REV] else
  if off = 0x40 then [Reg.DEV_CLK_CFG_XO_FREQ] else
  if off = 0x44 then [Reg.DEV_CLK_CMD_START] else
  if off = 0x48 then [Reg.DEV_CLK_STATUS_TBPLL_NINT, Reg.DEV_CLK_STATUS_START_FAIL, Reg.DEV_CLK_STATUS_CFG_ERR, Reg.DEV_CLK_STATUS_SERVO_HOLD, Reg.DEV_CLK_STATUS_TB_ON_XO, Reg.DEV_CLK_STATUS_SYSPLL_LOCK, Reg.DEV_CLK_STATUS_TBPLL_LOCK, Reg.DEV_CLK_STATUS_XO_ACTIVE] else
  if off = 0x4C then [Reg.DEV_ISL_RING_ON_RING] else
  if 0x50 ≤ off ∧ off < 0x68 ∧ off % 4 = 0 then
    let i := (off - 0x50) / 0x4
    [Reg.DEV_TEMP_VALID i, Reg.DEV_TEMP_VALUE i] else
  if off = 0x68 then [Reg.DEV_XTH_VALID, Reg.DEV_XTH_RATIO] else
  if off = 0x80 then [Reg.DEV_BELL_PERIOD] else
  if off = 0x84 then [Reg.DEV_BELL_STATUS_ON_XO, Reg.DEV_BELL_STATUS_PERIOD_REJ] else
  if off = 0x90 then [Reg.DEV_LOAD_CMD_SLOT, Reg.DEV_LOAD_CMD_LOAD] else
  if off = 0x94 then [Reg.DEV_LOAD_STATUS_ENGINE, Reg.DEV_LOAD_STATUS_LOADED, Reg.DEV_LOAD_STATUS_RESULT] else
  if 0xA0 ≤ off ∧ off < 0xA8 ∧ off % 4 = 0 then
    let i := (off - 0xA0) / 0x4
    [Reg.DEV_UART_CFG_EN i, Reg.DEV_UART_CFG_PARITY i, Reg.DEV_UART_CFG_TS i, Reg.DEV_UART_CFG_BAUD i] else
  if off = 0xA8 then [Reg.DEV_UART_STATUS_ERR1, Reg.DEV_UART_STATUS_ERR0, Reg.DEV_UART_STATUS_CFG_ERR1, Reg.DEV_UART_STATUS_CFG_ERR0] else
  if off = 0xB0 then [Reg.DEV_GPIO_CFG_IDLE, Reg.DEV_GPIO_CFG_OE] else []

/-- The fields at offset `off` of block PWR. -/
def fieldsPWR (off : Nat) : List Fld :=
  if off = 0x0 then [Reg.PWR_CMD_GO, Reg.PWR_CMD_TARGET] else
  if off = 0x4 then [Reg.PWR_STATUS_SEQ_ERR, Reg.PWR_STATUS_REJ_REASON, Reg.PWR_STATUS_BUSY, Reg.PWR_STATUS_STATE] else
  if off = 0x8 then [Reg.PWR_RAIL_STATUS_WARN, Reg.PWR_RAIL_STATUS_GOOD] else
  if off = 0xC then [Reg.PWR_BROWN_COUNT_COUNT] else
  if off = 0x10 then [Reg.PWR_RAIL_LAST_RAIL, Reg.PWR_RAIL_LAST_US] else
  if off = 0x14 then [Reg.PWR_ISL_FAULT_FAULT] else []

/-- The fields at offset `off` of block RST. -/
def fieldsRST (off : Nat) : List Fld :=
  if off = 0x0 then [Reg.RST_CAUSE_RAIL, Reg.RST_CAUSE_ISLAND_LAST, Reg.RST_CAUSE_BUSY, Reg.RST_CAUSE_KIND] else
  if off = 0x4 then [Reg.RST_CMD_ISLAND, Reg.RST_CMD_ISLAND_GO, Reg.RST_CMD_SOFT] else
  if off = 0x8 then [Reg.RST_WDOG_EN, Reg.RST_WDOG_TIMEOUT] else
  if off = 0xC then [Reg.RST_WDOG_KICK_KICK] else
  if off = 0x10 then [Reg.RST_COUNT_PIN, Reg.RST_COUNT_SOFT, Reg.RST_COUNT_WDOG, Reg.RST_COUNT_TWIN] else []

/-- The fields at offset `off` of block FLT. -/
def fieldsFLT (off : Nat) : List Fld :=
  if 0x0 ≤ off ∧ off < 0x200 ∧ off % 4 = 0 then
    let i := (off - 0x0) / 0x4
    [Reg.FLT_SRC_CFG_TARGET i, Reg.FLT_SRC_CFG_SELF i, Reg.FLT_SRC_CFG_IRQ_EN i, Reg.FLT_SRC_CFG_RECESS_M i, Reg.FLT_SRC_CFG_RECESS_E i, Reg.FLT_SRC_CFG_GRACE_M i, Reg.FLT_SRC_CFG_GRACE_E i, Reg.FLT_SRC_CFG_ACTION i, Reg.FLT_SRC_CFG_CLASS i] else
  if 0x200 ≤ off ∧ off < 0x400 ∧ off % 4 = 0 then
    let i := (off - 0x200) / 0x4
    [Reg.FLT_SRC_STATUS_RECOVERIES i, Reg.FLT_SRC_STATUS_RAISES i, Reg.FLT_SRC_STATUS_CFG_ERR i, Reg.FLT_SRC_STATUS_SEEN i, Reg.FLT_SRC_STATUS_OWNED i, Reg.FLT_SRC_STATUS_ACTED i, Reg.FLT_SRC_STATUS_CAUSE i, Reg.FLT_SRC_STATUS_STATE i] else
  if 0x400 ≤ off ∧ off < 0x600 ∧ off % 4 = 0 then
    let i := (off - 0x400) / 0x4
    [Reg.FLT_SRC_DETAIL_INST i, Reg.FLT_SRC_DETAIL_INFO i] else
  if off = 0x600 then [Reg.FLT_CTRL_LOCK] else
  if off = 0x604 then [Reg.FLT_ACK_LATE, Reg.FLT_ACK_REJ, Reg.FLT_ACK, Reg.FLT_ACK_SRC] else
  if off = 0x608 then [Reg.FLT_SUMMARY_LIFE_DIRTY, Reg.FLT_SUMMARY_SAFE, Reg.FLT_SUMMARY_FAULT, Reg.FLT_SUMMARY_IRQ] else
  if 0x610 ≤ off ∧ off < 0x620 ∧ off % 4 = 0 then
    let i := (off - 0x610) / 0x4
    [Reg.FLT_ACTIVE i] else
  if 0x620 ≤ off ∧ off < 0x630 ∧ off % 4 = 0 then
    let i := (off - 0x620) / 0x4
    [Reg.FLT_IRQ_REQ i] else
  if off = 0x630 then [Reg.FLT_TEMP_LIMIT] else
  if off = 0x634 then [Reg.FLT_LIFE_SEL_SRC] else
  if off = 0x638 then [Reg.FLT_LIFE_COUNT] else
  if off = 0x63C then [Reg.FLT_CMD_LIFE_SAVE] else []

/-- The fields at offset `off` of block HOST. -/
def fieldsHOST (off : Nat) : List Fld :=
  if off = 0x0 then [Reg.HOST_CFG_LOCK, Reg.HOST_CFG_SPI_WAIT] else
  if off = 0x4 then [Reg.HOST_STATUS_PCIE_LINK, Reg.HOST_STATUS_BME, Reg.HOST_STATUS_MSIX_EN, Reg.HOST_STATUS_I2C_ADDR] else
  if off = 0x8 then [Reg.HOST_SPI_STATUS_HOLD_DROP, Reg.HOST_SPI_STATUS_HOLD_VALID, Reg.HOST_SPI_STATUS_LAST] else
  if off = 0xC then [Reg.HOST_SPI_HOLD_ADDR] else
  if off = 0x10 then [Reg.HOST_I2C_STATUS_PARTIAL, Reg.HOST_I2C_STATUS_TIMEOUT] else
  if off = 0x14 then [Reg.HOST_PCIE_STATUS_PARTIAL, Reg.HOST_PCIE_STATUS_WIDTH, Reg.HOST_PCIE_STATUS_SPEED] else
  if off = 0x18 then [Reg.HOST_PCIE_ID_DEVICE, Reg.HOST_PCIE_ID_VENDOR] else
  if off = 0x20 then [Reg.HOST_PARITY_FOUND, Reg.HOST_PARITY_OVF, Reg.HOST_PARITY_PENDING] else
  if off = 0x24 then [Reg.HOST_PARITY_NEXT_ADDR] else
  if off = 0x28 then [Reg.HOST_LEG_STATUS_CORRECTED, Reg.HOST_LEG_STATUS_UNMAPPED] else
  if 0x30 ≤ off ∧ off < 0x40 ∧ off % 4 = 0 then
    let i := (off - 0x30) / 0x4
    [Reg.HOST_SCRATCH_DATA i] else []

/-- The fields at offset `off` of block SEC. -/
def fieldsSEC (off : Nat) : List Fld :=
  if off = 0x0 then [Reg.SEC_CTRL_LOCK, Reg.SEC_CTRL_SLOT_LOCK_B, Reg.SEC_CTRL_SLOT_LOCK_A, Reg.SEC_CTRL_FUSE_EN, Reg.SEC_CTRL_PROV_EN] else
  if off = 0x4 then [Reg.SEC_STATUS_DISABLED, Reg.SEC_STATUS_TOKEN_REJ, Reg.SEC_STATUS_ERASED, Reg.SEC_STATUS_GATE] else
  if off = 0x8 then [Reg.SEC_BOOT_ADV_ROLLBACK, Reg.SEC_BOOT_FALLBACK] else
  if off = 0xC then [Reg.SEC_BOOT_STATUS_DETAIL, Reg.SEC_BOOT_STATUS_FIRST_RESULT, Reg.SEC_BOOT_STATUS_SLOT_USED] else
  if off = 0x10 then [Reg.SEC_KEY_CMD_RESULT, Reg.SEC_KEY_CMD_SLOT, Reg.SEC_KEY_CMD_LEN, Reg.SEC_KEY_CMD_VOID, Reg.SEC_KEY_CMD_PROVISION] else
  if 0x14 ≤ off ∧ off < 0x1C ∧ off % 4 = 0 then
    let i := (off - 0x14) / 0x4
    [Reg.SEC_KEY_STATUS_FILLED i] else
  if off = 0x1C then [Reg.SEC_FUSE_CMD_RESULT, Reg.SEC_FUSE_CMD_SEL, Reg.SEC_FUSE_CMD_PROG] else
  if 0x20 ≤ off ∧ off < 0x30 ∧ off % 4 = 0 then
    let i := (off - 0x20) / 0x4
    [Reg.SEC_UID_DATA i] else
  if 0x30 ≤ off ∧ off < 0x40 ∧ off % 4 = 0 then
    let i := (off - 0x30) / 0x4
    [Reg.SEC_NONCE_DATA i] else
  if 0x40 ≤ off ∧ off < 0x80 ∧ off % 4 = 0 then
    let i := (off - 0x40) / 0x4
    [Reg.SEC_KEY_DATA_DATA i] else
  if 0x80 ≤ off ∧ off < 0xA0 ∧ off % 4 = 0 then
    let i := (off - 0x80) / 0x4
    [Reg.SEC_FUSE_DATA_DATA i] else
  if 0xA0 ≤ off ∧ off < 0x150 ∧ off % 4 = 0 then
    let i := (off - 0xA0) / 0x4
    [Reg.SEC_TOKEN_DATA i] else
  if off = 0x150 then [Reg.SEC_DEBUG_OPEN_GO] else []

/-- The fields at offset `off` of block JNL. -/
def fieldsJNL (off : Nat) : List Fld :=
  if off = 0x0 then [Reg.JNL_STATUS_WORN, Reg.JNL_STATUS_DEFERRING, Reg.JNL_STATUS_COMPACTING, Reg.JNL_STATUS_COMPACT_DUE, Reg.JNL_STATUS_EMPTY, Reg.JNL_STATUS_ACTIVE_HALF] else
  if off = 0x4 then [Reg.JNL_CMD_COMPACT, Reg.JNL_CMD_FIND, Reg.JNL_CMD_APPEND] else
  if off = 0x8 then [Reg.JNL_FIND_TYPE, Reg.JNL_FIND_KEY, Reg.JNL_FIND_LEN] else
  if off = 0xC then [Reg.JNL_RESULT, Reg.JNL_RESULT_LEN] else
  if off = 0x10 then [Reg.JNL_NOR_ADDR_ADDR] else
  if off = 0x14 then [Reg.JNL_NOR_CMD_ERASE, Reg.JNL_NOR_CMD_PROGRAM, Reg.JNL_NOR_CMD_READ] else
  if off = 0x18 then [Reg.JNL_NOR_STATUS_RESULT] else
  if off = 0x1C then [Reg.JNL_USED_BYTES] else
  if off = 0x20 then [Reg.JNL_COUNTS_COMPACTIONS, Reg.JNL_COUNTS_FAILS] else
  if 0x100 ≤ off ∧ off < 0x200 ∧ off % 4 = 0 then
    let i := (off - 0x100) / 0x4
    [Reg.JNL_BUF_DATA i] else []

/-- The fields at offset `off` of block ENG. -/
def fieldsENG (n : Nat) (off : Nat) : List Fld :=
  if off = 0x0 then [Reg.ENG_CTRL_STEP n, Reg.ENG_CTRL_HALT n, Reg.ENG_CTRL_ENABLE n] else
  if off = 0x4 then [Reg.ENG_STATUS_TRAP_COUNT n, Reg.ENG_STATUS_HOLD n, Reg.ENG_STATUS_SUBSTITUTED n, Reg.ENG_STATUS_HALTED n, Reg.ENG_STATUS_RUNNING n] else
  if off = 0x8 then [Reg.ENG_TRAP_CAUSE n, Reg.ENG_TRAP_CODE n, Reg.ENG_TRAP_PC n] else
  if off = 0xC then [Reg.ENG_ECC_CORR_I n, Reg.ENG_ECC_CORR_D n, Reg.ENG_ECC_UNC_I n, Reg.ENG_ECC_UNC_D n, Reg.ENG_ECC_ADDR n] else
  if off = 0x10 then [Reg.ENG_BUSY_LAST_CYCLES n] else
  if off = 0x14 then [Reg.ENG_BUSY_MAX_CYCLES n] else
  if off = 0x18 then [Reg.ENG_LESSON_ACTIVE n, Reg.ENG_LESSON_INDEX n] else
  if 0x20 ≤ off ∧ off < 0x40 ∧ (off - 0x20) % 0x8 = 0 then
    let i := (off - 0x20) / 0x8
    [Reg.ENG_HIN_LO_DATA n i] else
  if 0x24 ≤ off ∧ off < 0x44 ∧ (off - 0x24) % 0x8 = 0 then
    let i := (off - 0x24) / 0x8
    [Reg.ENG_HIN_HI_DATA n i] else
  if 0x40 ≤ off ∧ off < 0x60 ∧ (off - 0x40) % 0x8 = 0 then
    let i := (off - 0x40) / 0x8
    [Reg.ENG_HOUT_LO_DATA n i] else
  if 0x44 ≤ off ∧ off < 0x64 ∧ (off - 0x44) % 0x8 = 0 then
    let i := (off - 0x44) / 0x8
    [Reg.ENG_HOUT_HI_DATA n i] else
  if off = 0x60 then [Reg.ENG_TT_INDEX_WORST_RES n, Reg.ENG_TT_INDEX_INDEX n] else
  if off = 0x64 then [Reg.ENG_TT_ENTRY_VALID n, Reg.ENG_TT_ENTRY_RESUME n, Reg.ENG_TT_ENTRY_K n, Reg.ENG_TT_ENTRY_PHASE n, Reg.ENG_TT_ENTRY_ENTRY_PC n] else
  if off = 0x68 then [Reg.ENG_TT_WCET_WCET n] else
  if off = 0x6C then [Reg.ENG_TT_SUM_WORST n] else
  if off = 0x70 then [Reg.ENG_PROC_CFG_SUBST_EN n, Reg.ENG_PROC_CFG_STRIKE_WIN n] else
  if off = 0x74 then [Reg.ENG_PROC_STATUS_OVR_COUNT n, Reg.ENG_PROC_STATUS_LAST_INDEX n, Reg.ENG_PROC_STATUS_LAST_CAUSE n, Reg.ENG_PROC_STATUS_STRIKES n] else
  if off = 0x78 ∧ n = 16 then [Reg.ENG_SUBST_BUSY n, Reg.ENG_SUBST_REASON n, Reg.ENG_SUBST_SERVING n, Reg.ENG_SUBST_TARGET n, Reg.ENG_SUBST_RETURN n, Reg.ENG_SUBST_FORCE n] else
  if off = 0x7C ∧ n = 16 then [Reg.ENG_SUBST_TIME_TICKS n] else []

/-- The fields at offset `off` of block IX. -/
def fieldsIX (n : Nat) (off : Nat) : List Fld :=
  if off = 0x0 then [Reg.IX_A_ADDR n] else
  if off = 0x4 then [Reg.IX_D_DATA n] else
  if off = 0x8 then [Reg.IX_C_AUTO_INC n] else
  if off = 0xC then [Reg.IX_S_ADDR_ERR n, Reg.IX_S_UNREACH n, Reg.IX_S_BUSY n] else []

/-- The fields at offset `off` of block SLOT. -/
def fieldsSLOT (n : Nat) (off : Nat) : List Fld :=
  if off = 0x0 then [Reg.SLOT_CFG_PATH n, Reg.SLOT_CFG_PPS n, Reg.SLOT_CFG_POL n, Reg.SLOT_CFG_TERM n, Reg.SLOT_CFG_HYST n, Reg.SLOT_CFG_INPUT n, Reg.SLOT_CFG_IRIG n] else
  if off = 0x4 then [Reg.SLOT_NOM_FREQ_HZ n] else
  if off = 0x8 then [Reg.SLOT_PRESCALE_DIV n] else
  if off = 0xC then [Reg.SLOT_ACT_TIMEOUT n] else
  if off = 0x10 then [Reg.SLOT_FMON_GATE n, Reg.SLOT_FMON_FLIM n] else
  if off = 0x14 then [Reg.SLOT_JUMP_THRESH n] else
  if off = 0x18 then [Reg.SLOT_PW_MIN_NS n] else
  if off = 0x1C then [Reg.SLOT_PW_MAX_NS n] else
  if off = 0x20 then [Reg.SLOT_DROP_LIMIT n] else
  if off = 0x24 then [Reg.SLOT_QUAL_EXCLUDE n, Reg.SLOT_QUAL_CEIL n, Reg.SLOT_QUAL_JACT n, Reg.SLOT_QUAL_BW n, Reg.SLOT_QUAL_WTR n, Reg.SLOT_QUAL_OBS_TIME n] else
  if off = 0x28 then [Reg.SLOT_STATE n] else
  if off = 0x2C then [Reg.SLOT_MON_FLAGS n, Reg.SLOT_MON_SAT n] else
  if off = 0x30 then [Reg.SLOT_FOFF_XO_VALUE n] else
  if off = 0x34 then [Reg.SLOT_FOFF_PATH_VALUE n] else
  if off = 0x38 then [Reg.SLOT_PHASE_LO_DATA n] else
  if off = 0x3C then [Reg.SLOT_PHASE_HI_DATA n] else
  if off = 0x40 then [Reg.SLOT_JUMP_LAST_VALUE n] else
  if off = 0x44 then [Reg.SLOT_PW_LAST_NS n] else
  if off = 0x48 then [Reg.SLOT_CNT0_EXTRA n, Reg.SLOT_CNT0_DROP n] else
  if off = 0x4C then [Reg.SLOT_CNT1_REBASE_SEQ n, Reg.SLOT_CNT1_GATE_SEQ n, Reg.SLOT_CNT1_JUMP n] else
  if off = 0x50 then [Reg.SLOT_TRACK_LO_DATA n] else
  if off = 0x54 then [Reg.SLOT_TRACK_HI_DATA n] else
  if off = 0x58 then [Reg.SLOT_CMD_REBASE n] else
  if off = 0x60 then [Reg.SLOT_IRIG_STATUS_FRAME_ERR n, Reg.SLOT_IRIG_STATUS_FORMAT n, Reg.SLOT_IRIG_STATUS_SBS_VALID n, Reg.SLOT_IRIG_STATUS_CF_VALID n, Reg.SLOT_IRIG_STATUS_YEAR_VALID n, Reg.SLOT_IRIG_STATUS_LOCK n] else
  if off = 0x64 then [Reg.SLOT_IRIG_TOD_DAY n, Reg.SLOT_IRIG_TOD_HOUR n, Reg.SLOT_IRIG_TOD_MIN n, Reg.SLOT_IRIG_TOD_SEC n] else
  if off = 0x68 then [Reg.SLOT_IRIG_EXT_YEAR n, Reg.SLOT_IRIG_EXT_SBS n] else
  if off = 0x6C then [Reg.SLOT_IRIG_CF_CF n] else
  if off = 0x70 then [Reg.SLOT_VCFG_TS n] else []

/-- The fields at offset `off` of block PATH. -/
def fieldsPATH (n : Nat) (off : Nat) : List Fld :=
  if off = 0x0 then [Reg.PATH_DCO_LO_DATA n] else
  if off = 0x4 then [Reg.PATH_DCO_HI_DATA n] else
  if off = 0x8 then [Reg.PATH_CTRL_LO_DATA n] else
  if off = 0xC then [Reg.PATH_CTRL_HI_DATA n] else
  if off = 0x10 then [Reg.PATH_STEP_CFG_MODE n] else
  if off = 0x14 then [Reg.PATH_PHASE_SLOPE_RATE n] else
  if off = 0x18 then [Reg.PATH_PHASE_STEP_LO_AMOUNT_LO n] else
  if off = 0x1C then [Reg.PATH_PHASE_STEP_HI_AMOUNT_HI n] else
  if off = 0x20 then [Reg.PATH_STEP_REMAIN_LO_VALUE n] else
  if off = 0x24 then [Reg.PATH_STEP_REMAIN_HI_VALUE n] else
  if off = 0x28 then [Reg.PATH_STEP_TOTAL_LO_VALUE n] else
  if off = 0x2C then [Reg.PATH_STEP_TOTAL_HI_VALUE n] else
  if off = 0x30 then [Reg.PATH_STEP_STATUS_ACCEPTED n, Reg.PATH_STEP_STATUS_REJ n, Reg.PATH_STEP_STATUS_BUSY n] else
  if off = 0x34 then [Reg.PATH_STEP_CMD_CANCEL n] else
  if off = 0x38 then [Reg.PATH_FOFF_VALUE n] else []

/-- The fields at offset `off` of block APLL. -/
def fieldsAPLL (n : Nat) (off : Nat) : List Fld :=
  if off = 0x0 then [Reg.APLL_CFG_RAMP n, Reg.APLL_CFG_SETTLE n, Reg.APLL_CFG_SLEW n, Reg.APLL_CFG_BW n, Reg.APLL_CFG_EN n] else
  if off = 0x4 then [Reg.APLL_FPD_HZ n] else
  if off = 0x8 then [Reg.APLL_NINT n] else
  if off = 0xC then [Reg.APLL_NFRAC_LO_NFRAC n] else
  if off = 0x10 then [Reg.APLL_NFRAC_HI_NFRAC n] else
  if off = 0x14 then [Reg.APLL_CMD_CACHE_CLR n, Reg.APLL_CMD_FULL n, Reg.APLL_CMD_APPLY n] else
  if off = 0x18 then [Reg.APLL_STATUS_APPLY_ERR n, Reg.APLL_STATUS_ERR_OUT n, Reg.APLL_STATUS_BAND n, Reg.APLL_STATUS_LAST_CLASS n, Reg.APLL_STATUS_DCO_SAT n, Reg.APLL_STATUS_TUNE_EDGE n, Reg.APLL_STATUS_LOCK n, Reg.APLL_STATUS_STATE n] else
  if off = 0x1C then [Reg.APLL_RELOCK_TIME_US n] else
  if off = 0x20 then [Reg.APLL_COUNT_UNLOCKS n, Reg.APLL_COUNT_SEARCHES n] else
  if off = 0x24 then [Reg.APLL_CACHE_SEL_INDEX n] else
  if off = 0x28 then [Reg.APLL_CACHE_ENTRY_VALID n, Reg.APLL_CACHE_ENTRY_PIN n, Reg.APLL_CACHE_ENTRY_BAND n, Reg.APLL_CACHE_ENTRY_TEMP n] else
  if off = 0x2C then [Reg.APLL_CACHE_FVCO_KHZ n] else
  if off = 0x30 then [Reg.APLL_ACT_FPD_VALUE n] else
  if off = 0x34 then [Reg.APLL_ACT_NINT_VALUE n] else
  if off = 0x38 then [Reg.APLL_ACT_NFRAC_LO_VALUE n] else
  if off = 0x3C then [Reg.APLL_ACT_NFRAC_HI_VALUE n] else
  if off = 0x40 then [Reg.APLL_COVER_RESCUE n, Reg.APLL_COVER_APLL n] else
  if off = 0x44 then [Reg.APLL_SPARE_STATUS_READY n, Reg.APLL_SPARE_STATUS_SERVING n] else []

/-- The fields at offset `off` of block OUT. -/
def fieldsOUT (n : Nat) (off : Nat) : List Fld :=
  if off = 0x0 then [Reg.OUT_CFG_AUTO_RETURN n, Reg.OUT_CFG_CMOS_MODE n, Reg.OUT_CFG_FAN_SEL n, Reg.OUT_CFG_MODE n, Reg.OUT_CFG_POL n, Reg.OUT_CFG_RELOCK n, Reg.OUT_CFG_SRC n, Reg.OUT_CFG_FORMAT n, Reg.OUT_CFG_EN n] else
  if off = 0x4 then [Reg.OUT_DIV_LO_DIV n] else
  if off = 0x8 then [Reg.OUT_DIV_HI_DIV n] else
  if off = 0xC then [Reg.OUT_BYP_DIV_DIV n] else
  if off = 0x10 then [Reg.OUT_PHASE_LO_PHASE n] else
  if off = 0x14 then [Reg.OUT_PHASE_HI_PHASE n] else
  if off = 0x18 then [Reg.OUT_FMAX_HZ n] else
  if off = 0x1C then [Reg.OUT_PULSE_W_NS n] else
  if off = 0x20 then [Reg.OUT_PULSE_CFG_EVERY n, Reg.OUT_PULSE_CFG_TS n] else
  if off = 0x24 then [Reg.OUT_FB_DIV_DIV n] else
  if off = 0x28 then [Reg.OUT_STATUS_PULSE_MISS n, Reg.OUT_STATUS_FREQ_ERR n, Reg.OUT_STATUS_PULSE_ERR n, Reg.OUT_STATUS_PHASE_BUSY n, Reg.OUT_STATUS_AUTO_MOVED n, Reg.OUT_STATUS_SRC_ACT n] else []

/-- The fields at offset `off` of block TDC. -/
def fieldsTDC (n : Nat) (off : Nat) : List Fld :=
  if off = 0x0 then [Reg.TDC_CFG_EN n, Reg.TDC_CFG_EDGE n, Reg.TDC_CFG_GATED n, Reg.TDC_CFG_TS n] else
  if off = 0x4 then [Reg.TDC_DELAY_VALUE n] else
  if off = 0x8 then [Reg.TDC_USER_DELAY_VALUE n] else
  if off = 0xC then [Reg.TDC_CAL_STATUS_T_CAL n, Reg.TDC_CAL_STATUS_CAL_REJ n, Reg.TDC_CAL_STATUS_TEMP_DRIFT n, Reg.TDC_CAL_STATUS_REPLACED n, Reg.TDC_CAL_STATUS_CAL_BUSY n, Reg.TDC_CAL_STATUS_CAL_FAIL n, Reg.TDC_CAL_STATUS_TABLE_VALID n, Reg.TDC_CAL_STATUS_DLL_LOCK n] else
  if off = 0x10 then [Reg.TDC_LAST_LO_DATA n] else
  if off = 0x14 then [Reg.TDC_LAST_HI_DATA n] else
  if off = 0x18 then [Reg.TDC_PILEUP_COUNT n] else
  if off = 0x1C then [Reg.TDC_FIFO_MAX n, Reg.TDC_FIFO_LEVEL n] else
  if off = 0x20 then [Reg.TDC_REC_LOST_COUNT n] else
  if off = 0x24 then [Reg.TDC_EDGES_COUNT n] else
  if off = 0x28 then [Reg.TDC_CMD_CAL n] else []

/-- The fields at offset `off` of block TDCG. -/
def fieldsTDCG (off : Nat) : List Fld :=
  if off = 0x0 then [Reg.TDCG_XBAR_CFG_AUTO, Reg.TDCG_XBAR_CFG_MIRROR_N] else
  if 0x4 ≤ off ∧ off < 0x14 ∧ off % 4 = 0 then
    let i := (off - 0x4) / 0x4
    [Reg.TDCG_SPARE_AUTO_TAKEN i, Reg.TDCG_SPARE_REJ i, Reg.TDCG_SPARE_SHORT i, Reg.TDCG_SPARE_STATE i, Reg.TDCG_SPARE_ROLE i, Reg.TDCG_SPARE_RELEASE i, Reg.TDCG_SPARE_TAKE i] else
  if off = 0x14 then [Reg.TDCG_CAL_CFG_HITS_LOG] else
  if off = 0x18 then [Reg.TDCG_CAL_CMD_ALL] else
  if 0x20 ≤ off ∧ off < 0x30 ∧ off % 4 = 0 then
    let i := (off - 0x20) / 0x4
    [Reg.TDCG_MIRROR_DIFF_D i] else []

/-- The fields at offset `off` of block M. -/
def fieldsM (n : Nat) (off : Nat) : List Fld :=
  if off = 0x0 then [Reg.M_CFG_MODE n, Reg.M_CFG_ORDER n, Reg.M_CFG_BASE n, Reg.M_CFG_CONT n, Reg.M_CFG_MBX_SEL n, Reg.M_CFG_DEC n, Reg.M_CFG_START n, Reg.M_CFG_STOP_EN n] else
  if off = 0x4 then [Reg.M_STOPS_A_STOP3 n, Reg.M_STOPS_A_STOP2 n, Reg.M_STOPS_A_STOP1 n, Reg.M_STOPS_A_STOP0 n] else
  if off = 0x8 then [Reg.M_STOPS_B_STOP7 n, Reg.M_STOPS_B_STOP6 n, Reg.M_STOPS_B_STOP5 n, Reg.M_STOPS_B_STOP4 n] else
  if off = 0xC then [Reg.M_WINDOW_LSB n] else
  if off = 0x10 then [Reg.M_LEN_VALUE n] else
  if off = 0x14 then [Reg.M_FNOM_HZ n] else
  if off = 0x18 then [Reg.M_CMD_STOP n, Reg.M_CMD_START n] else
  if off = 0x1C then [Reg.M_STATUS_SEQ n, Reg.M_STATUS_CFG_ERR n, Reg.M_STATUS_RUNNING n] else
  if off = 0x20 then [Reg.M_RES_SEL_STOP n, Reg.M_RES_SEL n] else
  if off = 0x24 then [Reg.M_RES_LO_DATA n] else
  if off = 0x28 then [Reg.M_RES_HI_DATA n] else
  if off = 0x2C then [Reg.M_COUNTS_ORDER_VIOL n, Reg.M_COUNTS_MISS n, Reg.M_COUNTS_START_SKIP n] else []

/-- The fields at offset `off` of block TS. -/
def fieldsTS (n : Nat) (off : Nat) : List Fld :=
  if off = 0x0 then [Reg.TS_CFG_FREE n, Reg.TS_CFG_PATH n, Reg.TS_CFG_EDGE_SLOT n, Reg.TS_CFG_AT_EDGE n] else
  if off = 0x4 then [Reg.TS_CMD_ADJ n, Reg.TS_CMD_SET n, Reg.TS_CMD_CAPTURE n] else
  if off = 0x8 then [Reg.TS_STATUS_REJ n, Reg.TS_STATUS_ON_XO n, Reg.TS_STATUS_TIMEOUT n, Reg.TS_STATUS_PENDING n] else
  if off = 0xC then [Reg.TS_STEPS_COUNT n] else
  if off = 0x10 then [Reg.TS_INC_LO_DATA n] else
  if off = 0x14 then [Reg.TS_INC_HI_DATA n] else
  if off = 0x18 then [Reg.TS_INC_XO_LO_DATA n] else
  if off = 0x1C then [Reg.TS_INC_XO_HI_DATA n] else
  if off = 0x20 then [Reg.TS_CAP_S_LO_S n] else
  if off = 0x24 then [Reg.TS_CAP_S_HI_S n] else
  if off = 0x28 then [Reg.TS_CAP_NS_NS n] else
  if off = 0x2C then [Reg.TS_CAP_FRAC_FRAC n] else
  if off = 0x30 then [Reg.TS_VAL_S_LO_S n] else
  if off = 0x34 then [Reg.TS_VAL_S_HI_S n] else
  if off = 0x38 then [Reg.TS_VAL_NS_NS n] else
  if off = 0x3C then [Reg.TS_VAL_FRAC_FRAC n] else []

/-- The fields at offset `off` of block TG. -/
def fieldsTG (n : Nat) (off : Nat) : List Fld :=
  if off = 0x0 then [Reg.TG_CFG_TS n, Reg.TG_CFG_ACTION n, Reg.TG_CFG_TARGET n, Reg.TG_CFG_LATE n, Reg.TG_CFG_POL n, Reg.TG_CFG_EN n, Reg.TG_CFG_REPEAT n] else
  if off = 0x4 then [Reg.TG_TIME_LO_T n] else
  if off = 0x8 then [Reg.TG_TIME_HI_T n] else
  if off = 0xC then [Reg.TG_PERIOD_NS n] else
  if off = 0x10 then [Reg.TG_PARAM_NS n] else
  if off = 0x14 then [Reg.TG_STATUS_FIRED n, Reg.TG_STATUS_MISSED n, Reg.TG_STATUS_CFG_ERR n, Reg.TG_STATUS_COARSE n, Reg.TG_STATUS_EMPTY n, Reg.TG_STATUS_LATE n, Reg.TG_STATUS_ARMED n] else []

/-- The fields at offset `off` of block ETH. -/
def fieldsETH (n : Nat) (off : Nat) : List Fld :=
  if off = 0x0 then [Reg.ETH_CTRL_EN n, Reg.ETH_CTRL_MODE n, Reg.ETH_CTRL_FEC n, Reg.ETH_CTRL_AN n, Reg.ETH_CTRL_PROMISC n, Reg.ETH_CTRL_LPBK n] else
  if off = 0x4 then [Reg.ETH_STATUS_TX_CLAMP n, Reg.ETH_STATUS_RXCLK_OK n, Reg.ETH_STATUS_REMOTE_FAULT n, Reg.ETH_STATUS_LOCAL_FAULT n, Reg.ETH_STATUS_AN_DONE n, Reg.ETH_STATUS_FEC_LOCK n, Reg.ETH_STATUS_PCS_LOCK n, Reg.ETH_STATUS_LINK n] else
  if off = 0x8 then [Reg.ETH_MAC_ADDR_LO_ADDR n] else
  if off = 0xC then [Reg.ETH_MAC_ADDR_HI_ADDR n] else
  if off = 0x10 then [Reg.ETH_MAC_VLAN_EXTEND n, Reg.ETH_MAC_MAXLEN n] else
  if off = 0x14 then [Reg.ETH_RX_ERR_DELIVER n] else
  if off = 0x18 then [Reg.ETH_TX_THRESH_UNITS n] else
  if off = 0x1C then [Reg.ETH_SYNCE_RXCLK_EN n, Reg.ETH_SYNCE_TX_LOCK n, Reg.ETH_SYNCE_TX_PATH n] else
  if 0x40 ≤ off ∧ off < 0xC0 ∧ (off - 0x40) % 0x10 = 0 then
    let i := (off - 0x40) / 0x10
    [Reg.ETH_TXQ_CFG_EN n i, Reg.ETH_TXQ_CFG_OWNER n i, Reg.ETH_TXQ_CFG_GUARD n i, Reg.ETH_TXQ_CFG_LATE_DROP n i, Reg.ETH_TXQ_CFG_STREAM n i, Reg.ETH_TXQ_CFG_CFG_ERR n i, Reg.ETH_TXQ_CFG_SIZE_LOG n i, Reg.ETH_TXQ_CFG_LATE_TOL n i] else
  if 0x44 ≤ off ∧ off < 0xC4 ∧ (off - 0x44) % 0x10 = 0 then
    let i := (off - 0x44) / 0x10
    [Reg.ETH_TXQ_BASE_LO_ADDR n i] else
  if 0x48 ≤ off ∧ off < 0xC8 ∧ (off - 0x48) % 0x10 = 0 then
    let i := (off - 0x48) / 0x10
    [Reg.ETH_TXQ_BASE_HI_ADDR n i] else
  if 0x4C ≤ off ∧ off < 0xCC ∧ (off - 0x4C) % 0x10 = 0 then
    let i := (off - 0x4C) / 0x10
    [Reg.ETH_TXQ_PTR_PTR_ERR n i, Reg.ETH_TXQ_PTR_HEAD n i, Reg.ETH_TXQ_PTR_TAIL n i] else
  if 0xC0 ≤ off ∧ off < 0x100 ∧ (off - 0xC0) % 0x10 = 0 then
    let i := (off - 0xC0) / 0x10
    [Reg.ETH_RXQ_CFG_EN n i, Reg.ETH_RXQ_CFG_OWNER n i, Reg.ETH_RXQ_CFG_BUF_LOG n i, Reg.ETH_RXQ_CFG_SIZE_LOG n i, Reg.ETH_RXQ_CFG_CFG_ERR n i, Reg.ETH_RXQ_CFG_QUOTA n i] else
  if 0xC4 ≤ off ∧ off < 0x104 ∧ (off - 0xC4) % 0x10 = 0 then
    let i := (off - 0xC4) / 0x10
    [Reg.ETH_RXQ_BASE_LO_ADDR n i] else
  if 0xC8 ≤ off ∧ off < 0x108 ∧ (off - 0xC8) % 0x10 = 0 then
    let i := (off - 0xC8) / 0x10
    [Reg.ETH_RXQ_BASE_HI_ADDR n i] else
  if 0xCC ≤ off ∧ off < 0x10C ∧ (off - 0xCC) % 0x10 = 0 then
    let i := (off - 0xCC) / 0x10
    [Reg.ETH_RXQ_PTR_PTR_ERR n i, Reg.ETH_RXQ_PTR_HEAD n i, Reg.ETH_RXQ_PTR_TAIL n i] else
  if 0x100 ≤ off ∧ off < 0x120 ∧ off % 4 = 0 then
    let i := (off - 0x100) / 0x4
    [Reg.ETH_CLASS_EN n i, Reg.ETH_CLASS_KIND n i, Reg.ETH_CLASS_QUEUE n i, Reg.ETH_CLASS_VALUE n i] else
  if off = 0x180 then [Reg.ETH_RX_FRAMES_COUNT n] else
  if off = 0x184 then [Reg.ETH_RX_BYTES_LO_COUNT n] else
  if off = 0x188 then [Reg.ETH_RX_BYTES_HI_COUNT n] else
  if off = 0x18C then [Reg.ETH_RX_FCS_ERR_COUNT n] else
  if off = 0x190 then [Reg.ETH_RX_FRAG_COUNT n] else
  if off = 0x194 then [Reg.ETH_RX_RUNT_COUNT n] else
  if off = 0x198 then [Reg.ETH_RX_OVERSIZE_COUNT n] else
  if off = 0x19C then [Reg.ETH_RX_FILTERED_COUNT n] else
  if off = 0x1A0 then [Reg.ETH_RX_MACCTL_COUNT n] else
  if off = 0x1A4 then [Reg.ETH_RX_NOBUF_COUNT n] else
  if off = 0x1A8 then [Reg.ETH_TX_FRAMES_COUNT n] else
  if off = 0x1AC then [Reg.ETH_TX_BYTES_LO_COUNT n] else
  if off = 0x1B0 then [Reg.ETH_TX_BYTES_HI_COUNT n] else
  if off = 0x1B4 then [Reg.ETH_TX_UNDERRUN_COUNT n] else
  if off = 0x1B8 then [Reg.ETH_TX_REJECT_COUNT n] else
  if off = 0x1BC then [Reg.ETH_TX_LATE_COUNT n] else
  if off = 0x1C0 then [Reg.ETH_TX_ABORT_COUNT n] else
  if off = 0x1C4 then [Reg.ETH_PCS_ERR_COUNT n] else
  if off = 0x1C8 then [Reg.ETH_FEC_CORR_COUNT n] else
  if off = 0x1CC then [Reg.ETH_FEC_UNCORR_COUNT n] else
  if off = 0x1D0 then [Reg.ETH_LINK_DOWN_COUNT n] else
  if off = 0x1E0 then [Reg.ETH_WAKE_CFG_EN n, Reg.ETH_WAKE_CFG_CLR n] else
  if off = 0x1E4 then [Reg.ETH_WAKE_STATUS_COUNT n, Reg.ETH_WAKE_STATUS_MODE_ERR n, Reg.ETH_WAKE_STATUS_MATCH n] else
  if 0x1F0 ≤ off ∧ off < 0x200 ∧ off % 4 = 0 then
    let i := (off - 0x1F0) / 0x4
    [Reg.ETH_WAKE_MASK_MASK n i] else
  if 0x200 ≤ off ∧ off < 0x280 ∧ off % 4 = 0 then
    let i := (off - 0x200) / 0x4
    [Reg.ETH_WAKE_PAT_BYTES n i] else []

/-- The fields at offset `off` of block PTP. -/
def fieldsPTP (n : Nat) (off : Nat) : List Fld :=
  if off = 0x0 then [Reg.PTP_CFG_RX_STAMP n, Reg.PTP_CFG_TS n, Reg.PTP_CFG_FORCE_PASSIVE n, Reg.PTP_CFG_TXTS_DEST n, Reg.PTP_CFG_AUTH_EN n] else
  if off = 0x4 then [Reg.PTP_STATUS_CFG_ERR n, Reg.PTP_STATUS_GATED n, Reg.PTP_STATUS_BY_SAFE n, Reg.PTP_STATUS_BY_TWIN n, Reg.PTP_STATUS_COARSE n] else
  if off = 0x8 then [Reg.PTP_TX_ADJ_VALUE n] else
  if off = 0xC then [Reg.PTP_RX_ADJ_VALUE n] else
  if off = 0x10 then [Reg.PTP_TX_LAT_VALUE n] else
  if off = 0x14 then [Reg.PTP_RX_LAT_VALUE n] else
  if off = 0x18 then [Reg.PTP_TXTS_ID_VALID n, Reg.PTP_TXTS_ID_GAP n, Reg.PTP_TXTS_ID_ABORTED n, Reg.PTP_TXTS_ID_COARSE n, Reg.PTP_TXTS_ID_LOST n, Reg.PTP_TXTS_ID_ID n] else
  if off = 0x1C then [Reg.PTP_TXTS_S_LO_S n] else
  if off = 0x20 then [Reg.PTP_TXTS_S_HI_S n] else
  if off = 0x24 then [Reg.PTP_TXTS_NS_NS n] else
  if off = 0x28 then [Reg.PTP_TXTS_FRAC_FRAC n] else
  if off = 0x2C then [Reg.PTP_TXTS_LEVEL_LEVEL n] else
  if off = 0x30 then [Reg.PTP_TXTS_OVF_COUNT n] else
  if off = 0x34 then [Reg.PTP_TXTS_BASE_ADDR n] else
  if off = 0x38 then [Reg.PTP_ONE_STEP_COUNT n] else
  if off = 0x3C then [Reg.PTP_ONE_STEP_SKIP_COUNT n] else
  if off = 0x40 then [Reg.PTP_PASSIVE_DROP_COUNT n] else
  if off = 0x44 then [Reg.PTP_AUTH_COUNT_FAIL n, Reg.PTP_AUTH_COUNT_UNKNOWN n] else
  if 0x50 ≤ off ∧ off < 0x70 ∧ (off - 0x50) % 0x8 = 0 then
    let i := (off - 0x50) / 0x8
    [Reg.PTP_SA_CFG_EN n i, Reg.PTP_SA_CFG_TX n i, Reg.PTP_SA_CFG_KEY_SLOT n i, Reg.PTP_SA_CFG_SPP n i] else
  if 0x54 ≤ off ∧ off < 0x74 ∧ (off - 0x54) % 0x8 = 0 then
    let i := (off - 0x54) / 0x8
    [Reg.PTP_SA_KEYID_KEYID n i] else []

/-- The fields at offset `off` of block TWIN. -/
def fieldsTWIN (off : Nat) : List Fld :=
  if off = 0x0 then [Reg.TWIN_CFG_EN, Reg.TWIN_CFG_ACCEPT_RESET, Reg.TWIN_CFG_PPS_TS, Reg.TWIN_CFG_FOLLOW_TS, Reg.TWIN_CFG_FOLLOW_P] else
  if off = 0x4 then [Reg.TWIN_CLK_CFG_CLK_EN, Reg.TWIN_CLK_CFG_PPS_EN, Reg.TWIN_CLK_CFG_APLL, Reg.TWIN_CLK_CFG_DIV] else
  if off = 0x8 then [Reg.TWIN_ASYM_VALUE] else
  if off = 0xC then [Reg.TWIN_OFFSET_VALUE] else
  if off = 0x10 then [Reg.TWIN_STATUS_ROLE, Reg.TWIN_STATUS_PAIR_ID, Reg.TWIN_STATUS_SOLO_STRAP, Reg.TWIN_STATUS_LINK, Reg.TWIN_STATUS_WITNESS, Reg.TWIN_STATUS_LANE1_OK, Reg.TWIN_STATUS_LANE0_OK, Reg.TWIN_STATUS_CAL_VALID, Reg.TWIN_STATUS_INDEXED, Reg.TWIN_STATUS_SLIP, Reg.TWIN_STATUS_CLK_ERR, Reg.TWIN_STATUS_ALIGN_CFG_ERR, Reg.TWIN_STATUS_CONFLICT, Reg.TWIN_STATUS_INELIGIBLE, Reg.TWIN_STATUS_DEMOTE_PENDING] else
  if off = 0x14 then [Reg.TWIN_EPOCH_TWIN, Reg.TWIN_EPOCH_OWN] else
  if off = 0x18 then [Reg.TWIN_CMD_RESET_TWIN, Reg.TWIN_CMD_DEMOTE] else
  if off = 0x1C then [Reg.TWIN_M_LOCAL_VALUE] else
  if off = 0x20 then [Reg.TWIN_M_REMOTE_VALUE] else
  if off = 0x24 then [Reg.TWIN_DELAY_VALUE] else
  if off = 0x28 then [Reg.TWIN_COUNT0_LINK_LOSS, Reg.TWIN_COUNT0_WIT_LOSS] else
  if off = 0x2C then [Reg.TWIN_COUNT1_PROMOTIONS, Reg.TWIN_COUNT1_DEMOTIONS] else
  if off = 0x30 then [Reg.TWIN_COUNT2_CRC_ERR, Reg.TWIN_COUNT2_SLIPS] else
  if 0x40 ≤ off ∧ off < 0x60 ∧ off % 4 = 0 then
    let i := (off - 0x40) / 0x4
    [Reg.TWIN_FOLD_VALUE i] else
  if 0x60 ≤ off ∧ off < 0x80 ∧ off % 4 = 0 then
    let i := (off - 0x60) / 0x4
    [Reg.TWIN_ERR_P_VALUE i] else
  if 0x80 ≤ off ∧ off < 0x90 ∧ off % 4 = 0 then
    let i := (off - 0x80) / 0x4
    [Reg.TWIN_ERR_TS_SUBSEC i, Reg.TWIN_ERR_TS_SEC i] else []

/-- The fields at offset `off` of block EVR. -/
def fieldsEVR (off : Nat) : List Fld :=
  if off = 0x0 then [Reg.EVR_CTRL_TTL, Reg.EVR_CTRL_DSCP, Reg.EVR_CTRL_SCRUB_EN] else
  if off = 0x4 then [Reg.EVR_STATUS_SPARES_LEFT, Reg.EVR_STATUS_READY] else
  if 0x8 ≤ off ∧ off < 0x20 ∧ off % 4 = 0 then
    let i := (off - 0x8) / 0x4
    [Reg.EVR_ROLE_MAP_EN7 i, Reg.EVR_ROLE_MAP_RING7 i, Reg.EVR_ROLE_MAP_EN6 i, Reg.EVR_ROLE_MAP_RING6 i, Reg.EVR_ROLE_MAP_EN5 i, Reg.EVR_ROLE_MAP_RING5 i, Reg.EVR_ROLE_MAP_EN4 i, Reg.EVR_ROLE_MAP_RING4 i, Reg.EVR_ROLE_MAP_EN3 i, Reg.EVR_ROLE_MAP_RING3 i, Reg.EVR_ROLE_MAP_EN2 i, Reg.EVR_ROLE_MAP_RING2 i, Reg.EVR_ROLE_MAP_EN1 i, Reg.EVR_ROLE_MAP_RING1 i, Reg.EVR_ROLE_MAP_EN0 i, Reg.EVR_ROLE_MAP_RING0 i] else
  if 0x20 ≤ off ∧ off < 0x28 ∧ off % 4 = 0 then
    let i := (off - 0x20) / 0x4
    [Reg.EVR_GROUP_MAP_EN7 i, Reg.EVR_GROUP_MAP_RING7 i, Reg.EVR_GROUP_MAP_EN6 i, Reg.EVR_GROUP_MAP_RING6 i, Reg.EVR_GROUP_MAP_EN5 i, Reg.EVR_GROUP_MAP_RING5 i, Reg.EVR_GROUP_MAP_EN4 i, Reg.EVR_GROUP_MAP_RING4 i, Reg.EVR_GROUP_MAP_EN3 i, Reg.EVR_GROUP_MAP_RING3 i, Reg.EVR_GROUP_MAP_EN2 i, Reg.EVR_GROUP_MAP_RING2 i, Reg.EVR_GROUP_MAP_EN1 i, Reg.EVR_GROUP_MAP_RING1 i, Reg.EVR_GROUP_MAP_EN0 i, Reg.EVR_GROUP_MAP_RING0 i] else
  if off = 0x28 then [Reg.EVR_ECC_CORR, Reg.EVR_ECC_UNC] else
  if off = 0x2C then [Reg.EVR_ECC_ADDR_ADDR] else
  if off = 0x30 then [Reg.EVR_STREAM_DMAC_LO_MAC] else
  if off = 0x34 then [Reg.EVR_STREAM_DMAC_HI_BASE_PORT, Reg.EVR_STREAM_DMAC_HI_MAC] else
  if off = 0x38 then [Reg.EVR_STREAM_SIP_ADDR] else
  if off = 0x3C then [Reg.EVR_STREAM_DIP_ADDR] else
  if 0x40 ≤ off ∧ off < 0x180 ∧ (off - 0x40) % 0x28 = 0 then
    let i := (off - 0x40) / 0x28
    [Reg.EVR_RING_CFG_EN i, Reg.EVR_RING_CFG_FORMAT i, Reg.EVR_RING_CFG_POLICY i, Reg.EVR_RING_CFG_TS i, Reg.EVR_RING_CFG_STREAM i, Reg.EVR_RING_CFG_PORT i, Reg.EVR_RING_CFG_QUEUE i, Reg.EVR_RING_CFG_FLUSH i] else
  if 0x44 ≤ off ∧ off < 0x184 ∧ (off - 0x44) % 0x28 = 0 then
    let i := (off - 0x44) / 0x28
    [Reg.EVR_RING_BASE_UNITS i] else
  if 0x48 ≤ off ∧ off < 0x188 ∧ (off - 0x48) % 0x28 = 0 then
    let i := (off - 0x48) / 0x28
    [Reg.EVR_RING_SIZE_UNITS i] else
  if 0x4C ≤ off ∧ off < 0x18C ∧ (off - 0x4C) % 0x28 = 0 then
    let i := (off - 0x4C) / 0x28
    [Reg.EVR_RING_WR_OFFSET i] else
  if 0x50 ≤ off ∧ off < 0x190 ∧ (off - 0x50) % 0x28 = 0 then
    let i := (off - 0x50) / 0x28
    [Reg.EVR_RING_RD_OFFSET i] else
  if 0x54 ≤ off ∧ off < 0x194 ∧ (off - 0x54) % 0x28 = 0 then
    let i := (off - 0x54) / 0x28
    [Reg.EVR_RING_STATUS_RD_ERR i, Reg.EVR_RING_STATUS_TS_MISMATCH i, Reg.EVR_RING_STATUS_FULL i, Reg.EVR_RING_STATUS_CFG_ERR i, Reg.EVR_RING_STATUS_RUNNING i] else
  if 0x58 ≤ off ∧ off < 0x198 ∧ (off - 0x58) % 0x28 = 0 then
    let i := (off - 0x58) / 0x28
    [Reg.EVR_RING_WRITTEN_LO_COUNT i] else
  if 0x5C ≤ off ∧ off < 0x19C ∧ (off - 0x5C) % 0x28 = 0 then
    let i := (off - 0x5C) / 0x28
    [Reg.EVR_RING_WRITTEN_HI_COUNT i] else
  if 0x60 ≤ off ∧ off < 0x1A0 ∧ (off - 0x60) % 0x28 = 0 then
    let i := (off - 0x60) / 0x28
    [Reg.EVR_RING_DROPPED_COUNT i] else
  if 0x64 ≤ off ∧ off < 0x1A4 ∧ (off - 0x64) % 0x28 = 0 then
    let i := (off - 0x64) / 0x28
    [Reg.EVR_RING_PKTS_COUNT i] else []

/-- The fields at offset `off` of block TST. -/
def fieldsTST (off : Nat) : List Fld :=
  if off = 0x0 then [Reg.TST_CFG_AUTO_MAP] else
  if off = 0x4 then [Reg.TST_BIST_CMD_INDEX, Reg.TST_BIST_CMD_TARGET, Reg.TST_BIST_CMD_GO] else
  if off = 0x8 then [Reg.TST_BIST_STATUS_DETAIL, Reg.TST_BIST_STATUS_BUSY, Reg.TST_BIST_STATUS_RESULT] else
  if off = 0xC then [Reg.TST_REPAIR_TDC_SPARE3, Reg.TST_REPAIR_TDC_SPARE2, Reg.TST_REPAIR_TDC_SPARE1, Reg.TST_REPAIR_TDC_SPARE0] else
  if off = 0x10 then [Reg.TST_REPAIR_APLL_FAILED] else
  if off = 0x14 then [Reg.TST_REPAIR_CMD_RESULT, Reg.TST_REPAIR_CMD_SAVE_APLL, Reg.TST_REPAIR_CMD_SAVE_TDC] else
  if off = 0x18 then [Reg.TST_REPAIR_STATUS_DRAM_ROWS, Reg.TST_REPAIR_STATUS_MAP_SKIP, Reg.TST_REPAIR_STATUS_APLL_APPLIED] else
  if off = 0x1C then [Reg.TST_JTAG_ID_ID] else []

/-- The fields of the register at home-window address `a`, `[]` where no register of the tables stands
(R15, R398). -/
def fieldsAt (a : Nat) : List Fld :=
  if 0x0 ≤ a ∧ a < 0xB4 then fieldsDEV (a - 0x0) else
  if 0x1000 ≤ a ∧ a < 0x1018 then fieldsPWR (a - 0x1000) else
  if 0x2000 ≤ a ∧ a < 0x2014 then fieldsRST (a - 0x2000) else
  if 0x3000 ≤ a ∧ a < 0x3640 then fieldsFLT (a - 0x3000) else
  if 0x4000 ≤ a ∧ a < 0x4040 then fieldsHOST (a - 0x4000) else
  if 0x5000 ≤ a ∧ a < 0x5154 then fieldsSEC (a - 0x5000) else
  if 0x6000 ≤ a ∧ a < 0x6200 then fieldsJNL (a - 0x6000) else
  if 0x7000 ≤ a ∧ a < 0x7880 then fieldsENG ((a - 0x7000) / 0x80) ((a - 0x7000) % 0x80) else
  if 0x8000 ≤ a ∧ a < 0x8100 then fieldsIX ((a - 0x8000) / 0x10) ((a - 0x8000) % 0x10) else
  if 0x10000 ≤ a ∧ a < 0x11800 then fieldsSLOT ((a - 0x10000) / 0x100) ((a - 0x10000) % 0x100) else
  if 0x20000 ≤ a ∧ a < 0x21000 then fieldsPATH ((a - 0x20000) / 0x200) ((a - 0x20000) % 0x200) else
  if 0x24000 ≤ a ∧ a < 0x24900 then fieldsAPLL ((a - 0x24000) / 0x100) ((a - 0x24000) % 0x100) else
  if 0x26000 ≤ a ∧ a < 0x26800 then fieldsOUT ((a - 0x26000) / 0x40) ((a - 0x26000) % 0x40) else
  if 0x28000 ≤ a ∧ a < 0x289C0 then fieldsTDC ((a - 0x28000) / 0x30) ((a - 0x28000) % 0x30) else
  if 0x289C0 ≤ a ∧ a < 0x289F0 then fieldsTDCG (a - 0x289C0) else
  if 0x28A00 ≤ a ∧ a < 0x28D00 then fieldsM ((a - 0x28A00) / 0x30) ((a - 0x28A00) % 0x30) else
  if 0x30000 ≤ a ∧ a < 0x30100 then fieldsTS ((a - 0x30000) / 0x40) ((a - 0x30000) % 0x40) else
  if 0x30100 ≤ a ∧ a < 0x30400 then fieldsTG ((a - 0x30100) / 0x18) ((a - 0x30100) % 0x18) else
  if 0x34000 ≤ a ∧ a < 0x35000 then fieldsETH ((a - 0x34000) / 0x400) ((a - 0x34000) % 0x400) else
  if 0x38000 ≤ a ∧ a < 0x38400 then fieldsPTP ((a - 0x38000) / 0x100) ((a - 0x38000) % 0x100) else
  if 0x3C000 ≤ a ∧ a < 0x3C090 then fieldsTWIN (a - 0x3C000) else
  if 0x3E000 ≤ a ∧ a < 0x3E180 then fieldsEVR (a - 0x3E000) else
  if 0x3F000 ≤ a ∧ a < 0x3F020 then fieldsTST (a - 0x3F000) else
  []

end Sys2Proof.Machine
end

