-- ==== Sys2Proof/Machine/Ops.lean ====
section
/-! DEFINITION. The named operations every family shares: register fields, engine records, event
notices, level conditions, islands and free values. -/
namespace Sys2Proof.Machine

/-! ### Register fields -/

/-- The value of a field. -/
def State.rd (s : State) (f : Fld) : Nat := tabGet f.reset f.key s.regs

/-- Write a field, cut to its width. -/
def State.wr (s : State) (f : Fld) (v : Nat) : State :=
  { s with regs := tabSet f.reset f.key (v % 2 ^ f.width) s.regs }

/-- Is the field non-zero? -/
def State.bit (s : State) (f : Fld) : Bool := decide (s.rd f ≠ 0)

/-- Write a one-bit field. -/
def State.wrb (s : State) (f : Fld) (b : Bool) : State := s.wr f b.toNat

/-- Put several fields. -/
def State.wrs (s : State) (l : List (Fld × Nat)) : State := l.foldl (fun t p => t.wr p.1 p.2) s

/-- A two's-complement reading of the lowest `w` bits of `v`. -/
def toSigned (w v : Nat) : Int := if v % 2 ^ w < 2 ^ (w - 1) then (v % 2 ^ w : Nat) else (v % 2 ^ w : Nat) - (2 ^ w : Int)

/-- The two's-complement field of width `w` that holds `x`, wrapping. -/
def ofSigned (w : Nat) (x : Int) : Nat := (x % (2 ^ w : Int)).toNat

/-- The signed value of a field. -/
def State.rdi (s : State) (f : Fld) : Int := toSigned f.width (s.rd f)

/-- Write a signed value into a field, wrapping. -/
def State.wri (s : State) (f : Fld) (x : Int) : State := s.wr f (ofSigned f.width x)

/-- Add to a counter that wraps. -/
def State.bump (s : State) (f : Fld) (k : Nat := 1) : State := s.wr f (s.rd f + k)

/-- Add to a counter that saturates at the largest value of its field. -/
def State.bumpSat (s : State) (f : Fld) (k : Nat := 1) : State := s.wr f (min (s.rd f + k) (2 ^ f.width - 1))

/-- The 64-bit value of a register pair, `hi` above `lo`. -/
def State.pair (s : State) (hi lo : Fld) : Nat := s.rd hi * 2 ^ 32 + s.rd lo

/-- Bit `i` of a mask. -/
def maskBit (m i : Nat) : Bool := m.testBit i
/-- A mask with bit `i` set. -/
def maskSet (m i : Nat) : Nat := m ||| 2 ^ i
/-- A mask with bit `i` clear. -/
def maskClr (m i : Nat) : Nat := if m.testBit i then m - 2 ^ i else m

/-! ### Stamps -/

/-- The flag bits of R255. -/
def flagFall : Nat := 0x80
def flagCoarse : Nat := 0x40
def flagSupply : Nat := 0x20
def flagPileup : Nat := 0x10
def flagDll : Nat := 0x08
def flagSpare : Nat := 0x04
def flagWindow : Nat := 0x02
def flagLost : Nat := 0x01

/-- Is flag `f` among `flags`? -/
def hasFlag (flags f : Nat) : Bool := decide (flags &&& f ≠ 0)

/-! ### Engines -/

/-- The record of engine `e`. -/
def State.engine (s : State) (e : Nat) : Eng := tabGet {} e s.eng
/-- Put the record of engine `e`. -/
def State.putEngine (s : State) (e : Nat) (x : Eng) : State := { s with eng := tabSet {} e x s.eng }
/-- The host words of engine `e`. -/
def State.hostWords (s : State) (e : Nat) : HostWords := tabGet {} e s.words
/-- Put the host words of engine `e`. -/
def State.putHostWords (s : State) (e : Nat) (x : HostWords) : State := { s with words := tabSet {} e x s.words }

/-! ### Per-instance records -/

/-- The record of slot `i`. -/
def State.slot (s : State) (i : Nat) : SlotSt := tabGet {} i s.slots
/-- Put the record of slot `i`. -/
def State.putSlot (s : State) (i : Nat) (x : SlotSt) : State := { s with slots := tabSet {} i x s.slots }
/-- The record of path `i`. -/
def State.path (s : State) (i : Nat) : PathSt := tabGet {} i s.paths
/-- Put the record of path `i`. -/
def State.putPath (s : State) (i : Nat) (x : PathSt) : State := { s with paths := tabSet {} i x s.paths }
/-- The record of timescale `i`. -/
def State.tscale (s : State) (i : Nat) : TsSt := tabGet {} i s.ts
/-- Put the record of timescale `i`. -/
def State.putTscale (s : State) (i : Nat) (x : TsSt) : State := { s with ts := tabSet {} i x s.ts }
/-- The record of trigger `i`. -/
def State.trig (s : State) (i : Nat) : TgSt := tabGet {} i s.tg
/-- Put the record of trigger `i`. -/
def State.putTrig (s : State) (i : Nat) (x : TgSt) : State := { s with tg := tabSet {} i x s.tg }
/-- The record of APLL `i`. -/
def State.apll (s : State) (i : Nat) : ApllSt := tabGet {} i s.aplls
/-- Put the record of APLL `i`. -/
def State.putApll (s : State) (i : Nat) (x : ApllSt) : State := { s with aplls := tabSet {} i x s.aplls }
/-- The record of output `i`. -/
def State.outp (s : State) (i : Nat) : OutSt := tabGet {} i s.outs
/-- Put the record of output `i`. -/
def State.putOutp (s : State) (i : Nat) (x : OutSt) : State := { s with outs := tabSet {} i x s.outs }
/-- The record of TDC channel `i`. -/
def State.chan (s : State) (i : Nat) : ChanSt := tabGet {} i s.chans
/-- Put the record of TDC channel `i`. -/
def State.putChan (s : State) (i : Nat) (x : ChanSt) : State := { s with chans := tabSet {} i x s.chans }
/-- The record of TDC role `i`. -/
def State.role (s : State) (i : Nat) : RoleSt := tabGet {} i s.roles
/-- Put the record of TDC role `i`. -/
def State.putRole (s : State) (i : Nat) (x : RoleSt) : State := { s with roles := tabSet {} i x s.roles }
/-- The record of statistics group `i`. -/
def State.grp (s : State) (i : Nat) : GrpSt := tabGet {} i s.grps
/-- Put the record of statistics group `i`. -/
def State.putGrp (s : State) (i : Nat) (x : GrpSt) : State := { s with grps := tabSet {} i x s.grps }

/-- The record of ring `i`. -/
def State.ring (s : State) (i : Nat) : RingSt := tabGet {} i s.rings
/-- Put the record of ring `i`. -/
def State.putRing (s : State) (i : Nat) (x : RingSt) : State := { s with rings := tabSet {} i x s.rings }

/-- The record of port `i`. -/
def State.port (s : State) (i : Nat) : PortSt := tabGet {} i s.ports
/-- Put the record of port `i`. -/
def State.putPort (s : State) (i : Nat) (x : PortSt) : State := { s with ports := tabSet {} i x s.ports }

/-- Does a parity mismatch stand in the registers from `base` to just below `base + size` (R405)? -/
def State.parityIn (s : State) (base size : Nat) : Bool := (s.parity ++ s.host.unlisted).any (fun a => decide (base ≤ a ∧ a < base + size))

/-- Do `f` for every index below `n`, in ascending order. -/
def forRange (n : Nat) (f : Nat → State → State) (s : State) : State := (List.range n).foldl (fun t i => f i t) s

/-! ### Arithmetic on exact quotients -/

/-- `num / den` for `0 < den` where the spec does not state the rounding: floor, or floor + 1, as a free
choice of the operands decides (assumption 4). -/
def roundDiv (num den : Int) : Int :=
  if num % den = 0 then num / den else num / den + (if Config.roundUp num den then 1 else 0)

/-- `num / den` rounded to nearest, `0 < den`; a tie is a free choice (assumption 4). -/
def roundNearest (num den : Int) : Int :=
  if 2 * (num % den) < den then num / den
  else if den < 2 * (num % den) then num / den + 1
  else num / den + (if Config.roundUp num den then 1 else 0)

/-- `num / den` rounded half up, `0 < den`. -/
def roundHalfUp (num den : Int) : Int := (2 * num + den) / (2 * den)

/-- `x` folded into `[-c/2, c/2)`, `0 < c` (R113). -/
def fold (c x : Int) : Int := let r := x % c; if 2 * r < c then r else r - c

/-! ### Events (R381) -/

/-- An assertion of a pulse source sets out for the collector. -/
def State.raise (s : State) (ev inst : Nat) (info : Nat := 0) : State :=
  { s with flt := { s.flt with inflight := s.flt.inflight ++ [⟨ev, inst, info, false⟩] } }

/-- The instance of a source without instances (R381). -/
def noInst : Nat := 0xFF

/-- A level condition of source `ev`, instance `inst`, is now `on`: its change sets a notice out. -/
def State.level (s : State) (ev inst : Nat) (on : Bool) (info : Nat := 0) : State :=
  if on then
    if (ev, inst) ∈ s.flt.cond then s
    else { s with flt := { s.flt with cond := s.flt.cond ++ [(ev, inst)]
                                      inflight := s.flt.inflight ++ [⟨ev, inst, info, false⟩] } }
  else
    if (ev, inst) ∈ s.flt.cond then
      { s with flt := { s.flt with cond := s.flt.cond.filter (fun c => c != (ev, inst))
                                   inflight := s.flt.inflight ++ [⟨ev, inst, 0, true⟩] } }
    else s

/-- A flag where it applies. -/
def flagIf (b : Bool) (f : Nat) : Nat := if b then f else 0

/-- The self-test that runs ends with RESULT `r` and `detail` (R474). -/
def bistEnd (r detail : Nat) (s : State) : State :=
  if s.bist.isNone then s
  else { s with bist := none }.wrs
    [(Reg.TST_BIST_STATUS_RESULT, r), (Reg.TST_BIST_STATUS_DETAIL, detail), (Reg.TST_BIST_STATUS_BUSY, 0), (Reg.TST_BIST_CMD_GO, 0)]

/-! ### Free values (assumption 3) -/

/-- The next free value, and the state that has used it. -/
def State.takeFree (s : State) : Nat × State := (Config.free s.free, { s with free := s.free + 1 })
/-- The next free signed value, and the state that has used it. -/
def State.takeFreeInt (s : State) : Int × State := (Config.freeInt s.free, { s with free := s.free + 1 })

/-! ### Timers -/

/-- Timer `t` begins. -/
def State.arm (s : State) (t : Timer) : State := { s with timers := (t, s.up) :: s.timers.filter (fun e => decide (e.1 ≠ t)) }
/-- The steps of 2 ns since timer `t` began. -/
def State.age (s : State) (t : Timer) : Nat := s.up - ((s.timers.find? (fun e => decide (e.1 = t))).map (·.2)).getD 0
/-- Has timer `t` run for `ns`? -/
def State.ran (s : State) (t : Timer) (ns : Nat) : Bool := decide (ns ≤ 2 * s.age t)

/-! ### Clocks and islands (R19, R23, R27, R29) -/

/-- The islands that run on a ring oscillator as their fallback (R33). -/
def ringIslands : Nat := 0x835FFFFA

/-- Do the islands of the system PLL run on their ring oscillators? -/
def State.onRing (s : State) : Bool := decide (s.clk.sys ≠ .locked)

/-- Is the TIME island clocked? -/
def State.timeClocked (s : State) : Bool := decide (s.clk.time = .tb ∨ s.clk.time = .xo)

/-- Is island `i` clocked? -/
def State.clocked (s : State) (i : Nat) : Bool :=
  if i = 21 ∨ i = 23 then s.timeClocked else !maskBit s.clk.stopped i

/-- Can the host reach island `i`: powered, not in reset and clocked (R23)? An island under a power fault
is held in reset (R432). -/
def State.reachable (s : State) (i : Nat) : Bool := !maskBit s.clk.unpowered i && s.clocked i

/-- `DEV.ISL_RING` (R33): the powered islands that run on their ring oscillators. -/
def State.islRing (s : State) : Nat :=
  if s.onRing then ringIslands - (ringIslands &&& s.clk.unpowered) else 0

/-- Can the endpoint send memory writes: the link is up, bus mastering enabled, in D0 (R417)? -/
def State.busMaster (s : State) : Bool :=
  s.bit Reg.HOST_STATUS_PCIE_LINK && s.bit Reg.HOST_STATUS_BME && !s.host.d3

/-- Is the debug gate open (R469)? -/
def State.gateOpen (s : State) : Bool := decide (s.rd Reg.SEC_STATUS_GATE = 2)

end Sys2Proof.Machine
end

