-- ==== Sys2Proof/Machine/Operands.lean ====
section
/-! DEFINITION. The operand forms of the engine instructions: registers and accumulators with their
hazards (R41, R48), data-memory addresses (R44, R63), commons addresses (R46, R64) and mailbox indices
(R49, R52, R65), and the trap causes (R71). -/
namespace Sys2Proof.Machine

/-- The trap causes of R71. -/
inductive Cause
  | trap | illegal | align | dmemRange | mbxRange | bind | hazard | cmn | cmnEcc | skipRange | loopDepth
  | priv | wcet
deriving DecidableEq, Repr

/-- The code of a trap cause in `ENGn.TRAP.CAUSE` (R71, R79). -/
def Cause.code : Cause → Nat
  | .trap => 1 | .illegal => 2 | .align => 3 | .dmemRange => 4 | .mbxRange => 5 | .bind => 6
  | .hazard => 7 | .cmn => 8 | .cmnEcc => 9 | .skipRange => 10 | .loopDepth => 11 | .priv => 12 | .wcet => 13

/-- Register `i`; g0 reads 0 (R41). -/
def Eng.reg (x : Eng) (i : Nat) : Word64 := if i = 0 then 0 else tabGet 0 i x.g

/-- Write register `i`: a write to g0 is discarded (R41); a written register is no longer poisoned. -/
def Eng.setReg (x : Eng) (i : Nat) (v : Word64) : Eng :=
  if i = 0 then x else { x with g := tabSet 0 i v x.g, poison := x.poison.filter (· != i) }

/-- Accumulator `i`. -/
def Eng.accum (x : Eng) (i : Nat) : Acc := tabGet 0 i x.a
/-- Write accumulator `i`. -/
def Eng.setAccum (x : Eng) (i : Nat) (v : Acc) : Eng := { x with a := tabSet 0 i v x.a }

/-- The trap that reading the registers `reads` and writing the registers `writes` meets (R48), in that
order; g0 is never pending or poisoned. -/
def Eng.hazard (x : Eng) (reads writes : List Nat) : Option Cause :=
  match (reads.filter (· != 0)).find? (fun i => x.pend.contains i || x.poison.contains i) with
  | some i => some (if x.pend.contains i then .hazard else .cmnEcc)
  | none => if (writes.filter (· != 0)).any x.pend.contains then some .hazard else none

/-- The address of a data-memory access (R63). -/
def Eng.dmemAddr (x : Eng) (rs1 : Nat) (imm : BitVec 16) : Nat := (x.reg rs1 + imm.signExtend 64).toNat

/-- The check of a data-memory address: the range first, then the alignment (R63). -/
def dmemCheck (addr size : Nat) : Option Cause :=
  if 0x3FFF < addr then some .dmemRange else if addr % size ≠ 0 then some .align else none

/-- A 64-bit data word. -/
def Eng.dword (x : Eng) (i : Nat) : Word64 := tabGet 0 i x.dmem
/-- Write a 64-bit data word. -/
def Eng.setDword (x : Eng) (i : Nat) (v : Word64) : Eng := { x with dmem := tabSet 0 i v x.dmem }

/-- An instruction word; a word the image does not carry is 0xFFFF_FFFF (R44). -/
def Eng.iword (x : Eng) (i : Nat) : Word32 := tabGet 0xFFFFFFFF i x.imem

/-- The half of a data word that a 32-bit access at `addr` reaches (R44). -/
def halfWord (w : Word64) (addr : Nat) : Word32 := if addr % 8 = 4 then w.extractLsb' 32 32 else w.extractLsb' 0 32
/-- A data word with one half replaced (R44, R45). -/
def setHalf (w : Word64) (addr : Nat) (h : Word32) : Word64 :=
  if addr % 8 = 4 then h ++ w.extractLsb' 0 32 else w.extractLsb' 32 32 ++ h

/-- A memory image as a table. -/
def tabOf {α : Type} [DecidableEq α] (d : α) (l : List (Nat × α)) : Tab α := l.foldl (fun t p => tabSet d p.1 p.2 t) []

/-- The staged copy of engine `n` (R96). -/
def State.section (s : State) (n : Nat) : EngSection := tabGet {} n s.image.sections

/-- The 64-bit word `i` of a staged copy: the instruction memory at offsets 0x0000 to 0x7FFF, two words in each, the
lower index in the lower half, and the initial data memory at 0x8000 to 0xBFFF (R96). -/
def stagedWord (x : EngSection) (i : Nat) : Word64 :=
  let ins := tabOf 0xFFFFFFFF x.imem
  if i < 0x1000 then tabGet 0xFFFFFFFF (2 * i + 1) ins ++ tabGet 0xFFFFFFFF (2 * i) ins
  else tabGet 0 (i - 0x1000) (tabOf 0 x.dmem)

/-- The 64-bit word `i` of the commons: below 0x18000, byte address 0x0C_0000, the image area with the staged copy of
engine n from byte address 0xC000 n on, zero before the first load; then the lesson data (R46, R96). -/
def State.commonsWord (s : State) (i : Nat) : Word64 :=
  if 0x18000 ≤ i then tabGet 0 i s.commons
  else if s.image.period = 0 then 0
  else stagedWord (s.section (i / 0x1800)) (i % 0x1800)

/-- The address of a commons access (R64). -/
def Eng.cmnAddr (x : Eng) (rs1 : Nat) (imm : BitVec 16) : Nat := (x.reg rs1 + (imm.signExtend 64 <<< 3)).toNat

/-- The check of a commons access (R46, R47, R64): alignment, the lesson-data range, and no third access of
the engine outstanding, those of ended lessons counted. -/
def Eng.cmnCheck (x : Eng) (addr : Nat) : Option Cause :=
  if addr % 8 ≠ 0 ∨ addr < 0xC0000 ∨ 0x1FFFFF < addr ∨ 2 ≤ x.acc.length
  then some .cmn else none

/-- The mailbox index of MBI and MBO, modulo 2^64 (R65). -/
def Eng.mbxIndex (x : Eng) (idx rs1 : Nat) : Nat := (BitVec.ofNat 64 idx + x.reg rs1).toNat

/-- Is `i` an index of the out-word map (R52)? -/
def outListed (i : Nat) : Bool :=
  decide ((0x200 ≤ i ∧ i ≤ 0x243) ∨ (0x248 ≤ i ∧ i ≤ 0x24B) ∨ i = 0x250 ∨ (0x258 ≤ i ∧ i ≤ 0x25F) ∨
    (0x260 ≤ i ∧ i ≤ 0x263))

/-- Is `i` a host-out index (R52)? -/
def isHostOut (i : Nat) : Bool := decide (0x240 ≤ i ∧ i ≤ 0x243)

/-- The events a lesson may POST (R69, R382): HANDOVER_ABORT, LESSON_F, HANDOVER and LESSON_S. -/
def lessonPosted (ev : Nat) : Bool :=
  decide (ev = 24 ∨ ev = 98 ∨ (80 ≤ ev ∧ ev ≤ 95) ∨ (112 ≤ ev ∧ ev ≤ 127))

end Sys2Proof.Machine
end

