-- ==== Sys2Proof/Machine/Subst.lean ====
section
/-! DEFINITION. Stopping an engine and requesting its substitution (R45, R94, R99 to R103), shared by
everything that may request one. -/
namespace Sys2Proof.Machine

/-- Why a substitution was requested: the codes of `ENG16.SUBST.REASON` (R106). -/
inductive SubReason | strikes | ecc | power | action | force
deriving DecidableEq, Repr

def SubReason.code : SubReason → Nat
  | .strikes => 1 | .ecc => 2 | .power => 3 | .action => 4 | .force => 5

/-- Engine `n` is healthy for the last two causes of R99 (R102). -/
def SubReason.healthy : SubReason → Bool
  | .action | .force => true
  | _ => false

/-- Is E16 armed (R77)? -/
def State.armed (s : State) : Bool := s.bit (Reg.ENG_CTRL_ENABLE 16)

/-- Does E16 serve, or is it busy with, engine `e` (R78)? -/
def State.substituted (s : State) (e : Nat) : Bool := decide (s.subst.phase ≠ .idle ∧ s.subst.eng = e)

/-- `ENG16.SUBST.SERVING` (R100, R106). -/
def State.serving (s : State) : Nat :=
  if s.subst.phase = .ready ∨ s.subst.phase = .serving ∨ s.subst.phase = .returning then s.subst.eng else 31

/-- `ENG16.SUBST.BUSY` (R106). -/
def State.substBusy (s : State) : Bool :=
  decide (s.subst.phase = .copying ∨ s.subst.phase = .ready ∨ s.subst.phase = .returning)

/-- The engine whose host words engine `e`'s lessons and registers reach: E16 uses those of the engine it
serves (R53). -/
def State.hostOwner (s : State) (e : Nat) : Nat := if e = 16 ∧ s.serving ≠ 31 then s.subst.eng else e

/-- The cleared state of a dispatch (R42), at entry index `pc`: an access still outstanding belongs to no
lesson any more. -/
def Eng.dispatched (x : Eng) (pc : Nat) : Eng :=
  { x with g := [], a := [], z := false, n := false, c := false, v := false, q := false, cd := true
           loops := [], pend := [], poison := [], pc := pc
           acc := x.acc.map (fun c => { c with old := true }) }

/-- The engine with its lesson abandoned: uncommitted out-words discarded, nothing left due (R38, R70). -/
def Eng.abandoned (x : Eng) : Eng :=
  { x with lesson := none, staged := [], loops := [], due := []
           pend := [], poison := [], acc := x.acc.map (fun c => { c with old := true }) }

/-- The engine stopped (R45, R94, R100). -/
def Eng.halted (x : Eng) : Eng := { x.abandoned with stopped := true, run := false }

/-- SUBST_FAIL for engine `n`: it stays stopped with its bindings held (R103). -/
def substFail (n : Nat) (s : State) : State :=
  { s with subst := { s.subst with failed := if n ∈ s.subst.failed then s.subst.failed else s.subst.failed ++ [n] } }.level 21 n true

/-- A request to substitute engine `n` (R99, R100, and the table of R103); it ends a test of E16 (R476). An engine
that E16 serves already needs none; one whose substitution failed before may be served now. -/
def substRequest (n : Nat) (why : SubReason) (s : State) : State :=
  if s.substituted n && decide (s.subst.phase ≠ .returning) then s
  else
    let s := s.putEngine n (s.engine n).halted
    let s := if s.bist = some (1, 16) then bistEnd 4 0 s else s
    if !s.armed || decide (s.subst.phase ≠ .idle) then substFail n s
    else
      let s := { s with subst := { phase := .copying, eng := n, healthy := why.healthy, since := s.now,
                                   failed := s.subst.failed.filter (· ≠ n) } }
      let s := s.wr (Reg.ENG_SUBST_REASON 16) why.code
      let x := s.engine 16
      let d := s.engine n
      let s := s.putEngine 16 { x.abandoned.dispatched 0 with tt := d.tt, bind := d.bind, stopped := false, run := false }
      (s.level 21 n false).level 20 n true

/-- An uncorrectable error in a memory of engine `e` (R45): the lesson is abandoned, the word index
recorded, and substitution requested; E16 stops, and SUBST_FAIL is raised where it serves an engine. -/
def engEccStop (e : Nat) (isD : Bool) (idx : Nat) (s : State) : State :=
  let s := s.putEngine e (s.engine e).halted
  let s := s.wr (if isD then Reg.ENG_ECC_UNC_D e else Reg.ENG_ECC_UNC_I e) 1
  let s := s.wr (Reg.ENG_ECC_ADDR e) idx
  let s := s.raise 18 e idx
  if e < 16 then substRequest e .ecc s
  else if s.serving ≠ 31 then s.level 21 s.subst.eng true
  else s

/-- A corrected error in a memory of engine `e` (R45). -/
def engEccCorrected (e : Nat) (isD : Bool) (s : State) : State :=
  (s.bumpSat (if isD then Reg.ENG_ECC_CORR_D e else Reg.ENG_ECC_CORR_I e)).raise 19 e

end Sys2Proof.Machine
end

