-- ==== Sys2Proof/Machine/Engine.lean ====
section
/-! DEFINITION. The engines: dispatch, traps, loops and skips, and the meaning of every instruction
(R40 to R74, R511). A row names the instruction the engine fetches at its PC and what the ECC check of the
fetch finds (assumption 5). -/
namespace Sys2Proof.Machine

/-! ### Dispatch, traps and the shared course of an instruction -/

/-- The entry of the timetable that the lesson of `x` runs. -/
def Eng.entry (x : Eng) (i : Nat) : TTEntry := tabGet {} i x.tt

/-- Start the lesson of timetable entry `i`: a dispatch of 4 cycles (R42). Where the declared WCET is below 4, the
lesson is to trap once its count reaches WCET + 1, and has spent WCET of them (R74). -/
def Eng.start (x : Eng) (i : Nat) : Eng :=
  let k := min 4 (x.entry i).wcet
  { x.dispatched (x.entry i).pc with lesson := some ⟨i, k⟩, staged := [], cycles := x.cycles + k }

/-- May engine `e` dispatch: it has not stopped, and ENABLE = 1, or E16 serves (R77, R97, R100)? -/
def State.mayDispatch (s : State) (e : Nat) : Bool :=
  !(s.engine e).stopped && (s.engine e).run && s.bit (Reg.ENG_CTRL_ENABLE e)

/-- Dispatch the next entry due in this bell; with none left, or once ENABLE is 0, the engine idles (R77,
R88). -/
def dispatchNext (e : Nat) (s : State) : State :=
  let x := s.engine e
  match x.due with
  | i :: rest =>
    if s.mayDispatch e then
      (s.putEngine e { x.start i with due := rest }).wr (Reg.ENG_LESSON_INDEX e) i
    else s.putEngine e { x with due := [], run := false }
  | [] => if s.bit (Reg.ENG_CTRL_ENABLE e) then s else s.putEngine e { x with run := false }

/-- A trap (R70): the lesson is abandoned in one cycle, the trap is recorded, counted and raised, and the
next due lesson is dispatched. -/
def engTrap (e : Nat) (c : Cause) (code pc : Nat) (s : State) : State :=
  let x := s.engine e
  let s := s.putEngine e { x.abandoned with due := x.due, cycles := x.cycles + 1, busy := x.cycles + 1 }
  let s := s.wrs [(Reg.ENG_TRAP_CAUSE e, c.code), (Reg.ENG_TRAP_CODE e, code), (Reg.ENG_TRAP_PC e, pc)]
  let s := s.bumpSat (Reg.ENG_STATUS_TRAP_COUNT e)
  let s := s.raise 16 e (pc * 256 + c.code * 16)
  dispatchNext e s

/-- What an instruction does: go on at the next index or at another, end the lesson, trap, or meet an
uncorrectable memory error. -/
inductive Res
  | next (s : State) (x : Eng)
  | jump (s : State) (x : Eng) (dst : Nat)
  | done (s : State) (x : Eng)
  | trap (c : Cause) (code : Nat)
  | unc (s : State) (idx : Nat)

/-- Reaching the position past the innermost body ends its iteration: the next one starts, or the loop
finishes and the enclosing body is looked at (R66, R67). DESIGN CHOICE (assumption 50): the spec does not say what a
nested loop whose body runs past the end of its enclosing body does; the enclosing entry stays active here. -/
def advancePc : List LoopEnt → Nat → Nat × List LoopEnt
  | [], pc => (pc, [])
  | l :: ls, pc =>
    if pc = l.past then
      if 1 < l.left then (l.first, { l with left := l.left - 1 } :: ls) else advancePc ls pc
    else (pc, l :: ls)

/-- Is engine `e` stopped by HALT (R77)? -/
def State.engHalted (s : State) (e : Nat) : Bool := s.bit (Reg.ENG_CTRL_HALT e) && s.gateOpen

/-- The engine goes on at `dst` after `cost` cycles. -/
def engGoOn (e cost : Nat) (s : State) (x : Eng) (dst : Nat) : State :=
  let p := advancePc x.loops dst
  s.putEngine e { x with
    pc := p.1, loops := p.2, cycles := x.cycles + cost
    lesson := x.lesson.map (fun l => { l with cyc := l.cyc + cost }) }

/-- Would an instruction that goes on at `dst` have the engine fetch beyond index 8,191 (R511)? -/
def Eng.pastEnd (x : Eng) (dst : Nat) : Bool := decide (8191 < (advancePc x.loops dst).1)

/-- The count reaches `wcet` + 1 within an instruction: the lesson traps in that cycle (R70, R74). -/
def engOver (e wcet : Nat) (l : Lesson) (s : State) : State :=
  let x := s.engine e
  engTrap e .wcet 0 x.pc (s.putEngine e { x with cycles := x.cycles + (wcet - l.cyc) })

/-- An instruction of engine `e` traps in its first cycle, and is not carried out (R70), unless the count passes the
declared WCET in that cycle (R74). -/
def engTraps (e wcet : Nat) (l : Lesson) (c : Cause) (code pc : Nat) (s : State) : State :=
  if wcet < l.cyc + 1 then engOver e wcet l s else engTrap e c code pc s

/-- The course of one instruction on engine `e` (R40, R45, R70, R74, R511): the fetch and its ECC check, the
declared WCET, the instruction's effect, and what follows it. An instruction after which the engine would fetch beyond
index 8,191 is not carried out and traps with PC 8,191. DESIGN CHOICE (assumption 50): so does a LOOP with rs at or
below 0 whose skipped body ends at 8,191, which R511 does not list. -/
def engRun (e : Nat) (f : Ecc) (cost : Nat) (body : State → Eng → Res) (s : State) : State :=
  match (s.engine e).lesson with
  | none => s
  | some l =>
    if f = .double then engEccStop e false (s.engine e).pc s
    else
      let s := if f = .single then engEccCorrected e false s else s
      let x := s.engine e
      let wcet := (x.entry l.idx).wcet
      match body s x with
      | .trap c code => engTraps e wcet l c code x.pc s
      | .unc t idx => if wcet < l.cyc + cost then engOver e wcet l s else engEccStop e true idx t
      | .next t y =>
        if y.pastEnd (x.pc + 1) then engTraps e wcet l .illegal 0 8191 s
        else if wcet < l.cyc + cost then engOver e wcet l s else engGoOn e cost t y (x.pc + 1)
      | .jump t y dst =>
        if y.pastEnd dst then engTraps e wcet l .illegal 0 8191 s
        else if wcet < l.cyc + cost then engOver e wcet l s else engGoOn e cost t y dst
      | .done t y =>
        if wcet < l.cyc + cost then engOver e wcet l s
        else dispatchNext e (t.putEngine e { y with cycles := y.cycles + cost, busy := y.cycles + cost })

/-- A row's instruction runs unless the engine is halted (R77). -/
def engRow (e : Nat) (f : Ecc) (cost : Nat) (body : State → Eng → Res) (s : State) : Out :=
  if s.engHalted e then .next s else .next (engRun e f cost body s)

/-- Guard a body by the hazards of its registers (R48). -/
def hazards (reads writes : List Nat) (k : State → Eng → Res) : State → Eng → Res := fun s x =>
  match x.hazard reads writes with
  | some c => .trap c 0
  | none => k s x

/-! ### The bodies of the instructions (R58, R59) -/

/-- An ALU operation on two registers that sets flags by `fl` and writes `op a b`. -/
def alu2 (rd rs1 rs2 : Nat) (op : Word64 → Word64 → Word64) (fl : Eng → Word64 → Word64 → Eng) : State → Eng → Res :=
  hazards [rs1, rs2] [rd] fun s x =>
    let a := x.reg rs1
    let b := x.reg rs2
    .next s ((fl x a b).setReg rd (op a b))

/-- The flag rule "ZN" of the result of `op`. -/
def flZN (op : Word64 → Word64 → Word64) (x : Eng) (a b : Word64) : Eng := x.setZN (op a b)

/-- An ALU operation that sets ZN (R58). -/
def aluZN (rd rs1 rs2 : Nat) (op : Word64 → Word64 → Word64) : State → Eng → Res := alu2 rd rs1 rs2 op (flZN op)

/-- A saturating ALU operation on signed values: ZN and Q (R59). -/
def aluSat (rd : Nat) (reads : List Nat) (val : Eng → Int) : State → Eng → Res :=
  hazards reads [rd] fun s x =>
    let t := val x
    let r : Word64 := BitVec.ofInt 64 (satInt 64 t)
    .next s (((x.setZN r).orQ (saturates 64 t)).setReg rd r)

/-- An operation with an immediate that sets ZN (R58). -/
def immZN (rd rs1 : Nat) (op : Word64 → Word64) : State → Eng → Res :=
  hazards [rs1] [rd] fun s x =>
    let r := op (x.reg rs1)
    .next s ((x.setZN r).setReg rd r)

def bodyAdd (rd rs1 rs2 : Nat) := alu2 rd rs1 rs2 (· + ·) Eng.setAdd
def bodySub (rd rs1 rs2 : Nat) := alu2 rd rs1 rs2 (· - ·) Eng.setSub
def bodyAnd (rd rs1 rs2 : Nat) := aluZN rd rs1 rs2 (· &&& ·)
def bodyOr (rd rs1 rs2 : Nat) := aluZN rd rs1 rs2 (· ||| ·)
def bodyXor (rd rs1 rs2 : Nat) := aluZN rd rs1 rs2 (· ^^^ ·)
def bodyShl (rd rs1 rs2 : Nat) := aluZN rd rs1 rs2 (fun a b => a <<< (b.toNat % 64))
def bodyShr (rd rs1 rs2 : Nat) := aluZN rd rs1 rs2 (fun a b => a >>> (b.toNat % 64))
def bodySar (rd rs1 rs2 : Nat) := aluZN rd rs1 rs2 (fun a b => a.sshiftRight (b.toNat % 64))
def bodyMin (rd rs1 rs2 : Nat) := aluZN rd rs1 rs2 (fun a b => if a.toInt ≤ b.toInt then a else b)
def bodyMax (rd rs1 rs2 : Nat) := aluZN rd rs1 rs2 (fun a b => if a.toInt ≤ b.toInt then b else a)
def bodyAdds (rd rs1 rs2 : Nat) := aluSat rd [rs1, rs2] (fun x => (x.reg rs1).toInt + (x.reg rs2).toInt)
def bodySubs (rd rs1 rs2 : Nat) := aluSat rd [rs1, rs2] (fun x => (x.reg rs1).toInt - (x.reg rs2).toInt)
def bodyNeg (rd rs1 : Nat) : State → Eng → Res :=
  hazards [rs1] [rd] fun s x => .next s ((x.setSub 0 (x.reg rs1)).setReg rd (0 - x.reg rs1))
def bodyAbs (rd rs1 : Nat) := aluSat rd [rs1] (fun x => ((x.reg rs1).toInt.natAbs : Int))
def bodyClz (rd rs1 : Nat) := immZN rd rs1 (fun a => BitVec.ofNat 64 (leadingZeros a))
def bodyCmp (rs1 rs2 : Nat) : State → Eng → Res :=
  hazards [rs1, rs2] [] fun s x => .next s (x.setSub (x.reg rs1) (x.reg rs2))

/-- SEL (R58, R60): an unlisted condition traps with cause ILLEGAL. -/
def bodySel (rd rs1 rs2 cond : Nat) : State → Eng → Res := fun s x =>
  match condHolds x cond with
  | none => .trap .illegal 0
  | some b => hazards [rs1, rs2] [rd] (fun s x => .next s (x.setReg rd (if b then x.reg rs1 else x.reg rs2))) s x

/-- RDC: the engine cycles since the current bell, before this instruction's own (R58). DESIGN CHOICE (assumption 50):
the spec does not say whether the time an engine stands halted counts here, for the WCET and in BUSY_LAST; only the
cycles of dispatches and of instructions carried out count. -/
def bodyRdc (rd : Nat) : State → Eng → Res :=
  hazards [] [rd] fun s x => .next s (x.setReg rd (BitVec.ofNat 64 x.cycles))

def bodyAddi (rd rs1 : Nat) (imm : BitVec 16) : State → Eng → Res :=
  hazards [rs1] [rd] fun s x =>
    .next s ((x.setAdd (x.reg rs1) (imm.signExtend 64)).setReg rd (x.reg rs1 + imm.signExtend 64))
def bodyAndi (rd rs1 : Nat) (imm : BitVec 16) := immZN rd rs1 (· &&& imm.zeroExtend 64)
def bodyOri (rd rs1 : Nat) (imm : BitVec 16) := immZN rd rs1 (· ||| imm.zeroExtend 64)
def bodyXori (rd rs1 : Nat) (imm : BitVec 16) := immZN rd rs1 (· ^^^ imm.zeroExtend 64)
def bodyShli (rd rs1 sh : Nat) := immZN rd rs1 (· <<< sh)
def bodyShri (rd rs1 sh : Nat) := immZN rd rs1 (· >>> sh)
def bodySari (rd rs1 sh : Nat) := immZN rd rs1 (·.sshiftRight sh)
def bodyCmpi (rs1 : Nat) (imm : BitVec 16) : State → Eng → Res :=
  hazards [rs1] [] fun s x => .next s (x.setSub (x.reg rs1) (imm.signExtend 64))
def bodyLdi (rd : Nat) (imm : BitVec 16) : State → Eng → Res :=
  hazards [] [rd] fun s x => .next s (x.setReg rd (imm.signExtend 64))

/-- INSH: one 16-bit lane of rd (R58). -/
def insertLane (a : Word64) (lane : Nat) (imm : BitVec 16) : Word64 :=
  (a &&& ~~~((0xFFFF : Word64) <<< (16 * lane))) ||| (imm.zeroExtend 64 <<< (16 * lane))
def bodyInsh (rd lane : Nat) (imm : BitVec 16) : State → Eng → Res :=
  hazards [rd] [rd] fun s x => .next s (x.setReg rd (insertLane (x.reg rd) lane imm))

/-- The exact product of two registers (R61). -/
def Eng.product (x : Eng) (rs1 rs2 : Nat) : Int := (x.reg rs1).toInt * (x.reg rs2).toInt

/-- An accumulator takes `sat128` of a value, and Q a saturation (R58, R61). -/
def accSat (acc : Nat) (reads : List Nat) (val : Eng → Int) : State → Eng → Res :=
  hazards reads [] fun s x =>
    let t := val x
    .next s ((x.orQ (saturates 128 t)).setAccum acc (BitVec.ofInt 128 (satInt 128 t)))

def bodyMul (acc rs1 rs2 : Nat) := accSat acc [rs1, rs2] (fun x => x.product rs1 rs2)
def bodyMac (acc rs1 rs2 : Nat) := accSat acc [rs1, rs2] (fun x => (x.accum acc).toInt + x.product rs1 rs2)
def bodyMsu (acc rs1 rs2 : Nat) := accSat acc [rs1, rs2] (fun x => (x.accum acc).toInt - x.product rs1 rs2)
def bodyAclr (acc : Nat) : State → Eng → Res := fun s x => .next s (x.setAccum acc 0)
/-- ALD: an sh above 64 traps with cause ILLEGAL (R57, R58). -/
def bodyAld (acc rs1 sh : Nat) : State → Eng → Res := fun s x =>
  if 64 < sh then .trap .illegal 0
  else hazards [rs1] [] (fun s x => .next s (x.setAccum acc ((x.reg rs1).signExtend 128 <<< sh))) s x
def bodyAadd (acc acc2 : Nat) := accSat acc [] (fun x => (x.accum acc).toInt + (x.accum acc2).toInt)
def bodyAsub (acc acc2 : Nat) := accSat acc [] (fun x => (x.accum acc).toInt - (x.accum acc2).toInt)
/-- AEX (R61). -/
def bodyAex (rd acc sh : Nat) := aluSat rd [] (fun x => roundShift (x.accum acc).toInt sh)
/-- DIV (R58, R62). -/
def bodyDiv (rd rs1 rs2 : Nat) : State → Eng → Res :=
  hazards [rs1, rs2] [rd] fun s x =>
    let q := divResult (x.reg rs1).toInt (x.reg rs2).toInt
    let r : Word64 := BitVec.ofInt 64 q.1
    .next s (({ (x.setZN r).orQ q.2 with v := q.2 }).setReg rd r)

/-! #### Data memory (R45, R63) -/

/-- A data-memory access: the hazards, the address check, then `k` at the address. -/
def dmemAccess (reads writes : List Nat) (rs1 : Nat) (imm : BitVec 16) (size : Nat)
    (k : Nat → State → Eng → Res) : State → Eng → Res :=
  hazards reads writes fun s x =>
    let addr := x.dmemAddr rs1 imm
    match dmemCheck addr size with
    | some c => .trap c 0
    | none => k addr s x

/-- A read of a data word meets its ECC check (R45): single-bit errors are corrected and counted. -/
def dmemRead (e : Nat) (ecc : Ecc) (word : Nat) (k : State → Res) (s : State) : Res :=
  match ecc with
  | .ok => k s
  | .single => k (engEccCorrected e true s)
  | .double => .unc s word

def bodyLd (e rd rs1 : Nat) (imm : BitVec 16) (ecc : Ecc) :=
  dmemAccess [rs1] [rd] rs1 imm 8 fun addr s x =>
    dmemRead e ecc (addr / 8) (fun s => .next s (x.setReg rd (x.dword (addr / 8)))) s
def bodyLdw (e rd rs1 : Nat) (imm : BitVec 16) (ecc : Ecc) :=
  dmemAccess [rs1] [rd] rs1 imm 4 fun addr s x =>
    dmemRead e ecc (addr / 8) (fun s => .next s (x.setReg rd ((halfWord (x.dword (addr / 8)) addr).signExtend 64))) s
def bodySt (rs rs1 : Nat) (imm : BitVec 16) :=
  dmemAccess [rs, rs1] [] rs1 imm 8 fun addr s x => .next s (x.setDword (addr / 8) (x.reg rs))
/-- STW reads the word, merges the half and writes it back (R45). -/
def bodyStw (e rs rs1 : Nat) (imm : BitVec 16) (ecc : Ecc) :=
  dmemAccess [rs, rs1] [] rs1 imm 4 fun addr s x =>
    dmemRead e ecc (addr / 8)
      (fun s => .next s (x.setDword (addr / 8) (setHalf (x.dword (addr / 8)) addr ((x.reg rs).truncate 32)))) s
/-- ALDM and AST: the lower half at the lower address (R61). ALDM reads two words, each with its own ECC check (R45). -/
def bodyAldm (e acc rs1 : Nat) (imm : BitVec 16) (ecc ecc2 : Ecc) :=
  dmemAccess [rs1] [] rs1 imm 16 fun addr s x =>
    dmemRead e ecc (addr / 8)
      (dmemRead e ecc2 (addr / 8 + 1)
        (fun s => .next s (x.setAccum acc (x.dword (addr / 8 + 1) ++ x.dword (addr / 8))))) s
def bodyAst (acc rs1 : Nat) (imm : BitVec 16) :=
  dmemAccess [rs1] [] rs1 imm 16 fun addr s x =>
    .next s ((x.setDword (addr / 8) ((x.accum acc).extractLsb' 0 64)).setDword (addr / 8 + 1) ((x.accum acc).extractLsb' 64 64))

/-! #### Commons (R46 to R48, R64) -/

def bodyCrd (rd rs1 : Nat) (imm : BitVec 16) : State → Eng → Res :=
  hazards [rs1] [rd] fun s x =>
    let addr := x.cmnAddr rs1 imm
    match x.cmnCheck addr with
    | some c => .trap c 0
    | none =>
      .next s { x with acc := x.acc ++ [⟨addr / 8, none, rd, false⟩], cd := false
                       pend := if rd = 0 then x.pend else x.pend ++ [rd]
                       poison := x.poison.filter (· != rd) }
def bodyCwr (rs rs1 : Nat) (imm : BitVec 16) : State → Eng → Res :=
  hazards [rs1, rs] [] fun s x =>
    let addr := x.cmnAddr rs1 imm
    match x.cmnCheck addr with
    | some c => .trap c 0
    | none => .next s { x with acc := x.acc ++ [⟨addr / 8, some (x.reg rs), 0, false⟩], cd := false }

/-- Complete the oldest outstanding access of an engine (R47, R48): a write reaches the commons; a read
reaches its register, or marks it poisoned, unless its lesson has ended. An uncorrectable read raises
CMN_ECC. -/
def cmnComplete (ecc : Ecc) (s : State) (x : Eng) : State × Eng :=
  match x.acc with
  | [] => (s, x)
  | a :: rest =>
    let x := { x with acc := rest, cd := x.cd || !(rest.any (fun b => !b.old)) }
    match a.data with
    | some d => ({ s with commons := tabSet 0 a.word d s.commons }, x)
    | none =>
      let s := if ecc = .double then s.raise 10 noInst a.word else s
      if a.old then (s, x)
      else
        let x := { x with pend := x.pend.erase a.rd }
        if ecc = .double then (s, if a.rd = 0 then x else { x with poison := a.rd :: x.poison })
        else (s, x.setReg a.rd (tabGet 0 a.word s.commons))

/-- Complete the `n` oldest accesses in issue order (R47). -/
def cmnDrain : Nat → State × Eng → State × Eng
  | 0, p => p
  | n + 1, p => cmnDrain n (cmnComplete .ok p.1 p.2)

/-- CSYNC (R64): the accesses issued before it complete, unless COMMONS runs on its ring (R48). -/
def bodyCsync : State → Eng → Res := fun s x =>
  if s.onRing then .next s x
  else
    let p := cmnDrain x.acc.length (s, x)
    .next p.1 p.2

/-! #### Mailboxes (R65) -/

/-- The in-word `i` as engine `e` reads it (R49, R50): its own host-in words at 0x100 to 0x103. -/
def State.inWord (s : State) (e i : Nat) : Word64 :=
  if 0x100 ≤ i ∧ i ≤ 0x103 then tabGet 0 (i - 0x100) (s.hostWords (s.hostOwner e)).latched
  else tabGet 0 i s.inw

def bodyMbi (e rd idx rs1 : Nat) : State → Eng → Res :=
  hazards [rs1] [rd] fun s x =>
    let i := x.mbxIndex idx rs1
    if 0x1FF < i then .trap .mbxRange 0 else .next s (x.setReg rd (s.inWord e i))
def bodyMbo (rs idx rs1 : Nat) : State → Eng → Res :=
  hazards [rs1, rs] [] fun s x =>
    let i := x.mbxIndex idx rs1
    if !outListed i then .trap .mbxRange 0
    else if !isHostOut i && !x.bind.contains i then .trap .bind 0
    else .next s { x with staged := tabPut i (x.reg rs) x.staged }

/-! #### Loops, skips and the end of a lesson (R66 to R70) -/

/-- LOOP (R66, R511). -/
def bodyLoop (body rs count : Nat) : State → Eng → Res := fun s x =>
  if body = 0 ∨ count = 0 ∨ 4096 < count ∨ 8191 < x.pc + body then .trap .illegal 0
  else
    hazards [rs] [] (fun s x =>
      let times : Int := if rs = 0 then count else min (x.reg rs).toInt count
      if times ≤ 0 then .jump s x (x.pc + 1 + body)
      else if 4 ≤ x.loops.length then .trap .loopDepth 0
      else .next s { x with loops := ⟨x.pc + 1, x.pc + 1 + body, times.toNat⟩ :: x.loops }) s x

/-- A skip of `n` instructions from the PC where `taken` (R67). DESIGN CHOICE (assumption 50): a skip inside a body that
ends at 8,191, landing on 8,192, meets two rows of R67, the position just past the body and an index beyond 8,191; it
traps with cause SKIP_RANGE. -/
def skipTo (taken : Bool) (n : Nat) : State → Eng → Res := fun s x =>
  if !taken then .next s x
  else
    let dst := x.pc + 1 + n
    if 8191 < dst then .trap .skipRange 0
    else match x.loops with
      | l :: _ => if l.past < dst then .trap .skipRange 0 else .jump s x dst
      | [] => .jump s x dst

def bodySkip (cond n : Nat) : State → Eng → Res := fun s x =>
  match condHolds x cond with
  | none => .trap .illegal 0
  | some b => if n = 0 then .trap .illegal 0 else skipTo b n s x
def bodySkbs (reg bit n : Nat) : State → Eng → Res := fun s x =>
  if n = 0 then .trap .illegal 0
  else hazards [reg] [] (fun s x => skipTo ((x.reg reg).getLsbD bit) n s x) s x
def bodySkbc (reg bit n : Nat) : State → Eng → Res := fun s x =>
  if n = 0 then .trap .illegal 0
  else hazards [reg] [] (fun s x => skipTo (!(x.reg reg).getLsbD bit) n s x) s x

/-- END (R54, R68): the written out-words are committed for the next bell; reads still pending are
discarded when they arrive. -/
def bodyEnd (e : Nat) : State → Eng → Res := fun s x =>
  .done { s with bell := { s.bell with commits := s.bell.commits ++ x.staged.map (fun w => (e, w.1, w.2)) } }
    { x.abandoned with due := x.due }

/-- POST (R69). -/
def bodyPost (e ev : Nat) : State → Eng → Res := fun s x =>
  if lessonPosted ev then .next (s.raise ev e) x else .trap .priv 0

def bodyTrap (code : Nat) : State → Eng → Res := fun _ _ => .trap .trap code

/-- An unassigned or malformed word (R57, R71). -/
def bodyIllegal : State → Eng → Res := fun _ _ => .trap .illegal 0

/-! ### One meaning per instruction row -/

/-- ADD on engine `e` (R58, R59), 1 cycle. -/
def execEAdd (e : Fin 17) (f : Ecc) (rd : Fin 32) (rs1 : Fin 32) (rs2 : Fin 32) (s : State) : Out := engRow e f 1 (bodyAdd rd rs1 rs2) s
/-- SUB on engine `e` (R58, R59), 1 cycle. -/
def execESub (e : Fin 17) (f : Ecc) (rd : Fin 32) (rs1 : Fin 32) (rs2 : Fin 32) (s : State) : Out := engRow e f 1 (bodySub rd rs1 rs2) s
/-- AND on engine `e` (R58, R59), 1 cycle. -/
def execEAnd (e : Fin 17) (f : Ecc) (rd : Fin 32) (rs1 : Fin 32) (rs2 : Fin 32) (s : State) : Out := engRow e f 1 (bodyAnd rd rs1 rs2) s
/-- OR on engine `e` (R58, R59), 1 cycle. -/
def execEOr (e : Fin 17) (f : Ecc) (rd : Fin 32) (rs1 : Fin 32) (rs2 : Fin 32) (s : State) : Out := engRow e f 1 (bodyOr rd rs1 rs2) s
/-- XOR on engine `e` (R58, R59), 1 cycle. -/
def execEXor (e : Fin 17) (f : Ecc) (rd : Fin 32) (rs1 : Fin 32) (rs2 : Fin 32) (s : State) : Out := engRow e f 1 (bodyXor rd rs1 rs2) s
/-- SHL on engine `e` (R58, R59), 1 cycle. -/
def execEShl (e : Fin 17) (f : Ecc) (rd : Fin 32) (rs1 : Fin 32) (rs2 : Fin 32) (s : State) : Out := engRow e f 1 (bodyShl rd rs1 rs2) s
/-- SHR on engine `e` (R58, R59), 1 cycle. -/
def execEShr (e : Fin 17) (f : Ecc) (rd : Fin 32) (rs1 : Fin 32) (rs2 : Fin 32) (s : State) : Out := engRow e f 1 (bodyShr rd rs1 rs2) s
/-- SAR on engine `e` (R58, R59), 1 cycle. -/
def execESar (e : Fin 17) (f : Ecc) (rd : Fin 32) (rs1 : Fin 32) (rs2 : Fin 32) (s : State) : Out := engRow e f 1 (bodySar rd rs1 rs2) s
/-- MIN on engine `e` (R58, R59), 1 cycle. -/
def execEMin (e : Fin 17) (f : Ecc) (rd : Fin 32) (rs1 : Fin 32) (rs2 : Fin 32) (s : State) : Out := engRow e f 1 (bodyMin rd rs1 rs2) s
/-- MAX on engine `e` (R58, R59), 1 cycle. -/
def execEMax (e : Fin 17) (f : Ecc) (rd : Fin 32) (rs1 : Fin 32) (rs2 : Fin 32) (s : State) : Out := engRow e f 1 (bodyMax rd rs1 rs2) s
/-- ADDS on engine `e` (R58, R59), 1 cycle. -/
def execEAdds (e : Fin 17) (f : Ecc) (rd : Fin 32) (rs1 : Fin 32) (rs2 : Fin 32) (s : State) : Out := engRow e f 1 (bodyAdds rd rs1 rs2) s
/-- SUBS on engine `e` (R58, R59), 1 cycle. -/
def execESubs (e : Fin 17) (f : Ecc) (rd : Fin 32) (rs1 : Fin 32) (rs2 : Fin 32) (s : State) : Out := engRow e f 1 (bodySubs rd rs1 rs2) s
/-- NEG on engine `e` (R58, R59), 1 cycle. -/
def execENeg (e : Fin 17) (f : Ecc) (rd : Fin 32) (rs1 : Fin 32) (s : State) : Out := engRow e f 1 (bodyNeg rd rs1) s
/-- ABS on engine `e` (R58, R59), 1 cycle. -/
def execEAbs (e : Fin 17) (f : Ecc) (rd : Fin 32) (rs1 : Fin 32) (s : State) : Out := engRow e f 1 (bodyAbs rd rs1) s
/-- CLZ on engine `e` (R58, R59), 1 cycle. -/
def execEClz (e : Fin 17) (f : Ecc) (rd : Fin 32) (rs1 : Fin 32) (s : State) : Out := engRow e f 1 (bodyClz rd rs1) s
/-- CMP on engine `e` (R58, R59), 1 cycle. -/
def execECmp (e : Fin 17) (f : Ecc) (rs1 : Fin 32) (rs2 : Fin 32) (s : State) : Out := engRow e f 1 (bodyCmp rs1 rs2) s
/-- SEL on engine `e` (R58, R59), 1 cycle. -/
def execESel (e : Fin 17) (f : Ecc) (rd : Fin 32) (rs1 : Fin 32) (rs2 : Fin 32) (cond : Fin 16) (s : State) : Out := engRow e f 1 (bodySel rd rs1 rs2 cond) s
/-- RDC on engine `e` (R58, R59), 1 cycle. -/
def execERdc (e : Fin 17) (f : Ecc) (rd : Fin 32) (s : State) : Out := engRow e f 1 (bodyRdc rd) s
/-- ADDI on engine `e` (R58, R59), 1 cycle. -/
def execEAddi (e : Fin 17) (f : Ecc) (rd : Fin 32) (rs1 : Fin 32) (imm : BitVec 16) (s : State) : Out := engRow e f 1 (bodyAddi rd rs1 imm) s
/-- ANDI on engine `e` (R58, R59), 1 cycle. -/
def execEAndi (e : Fin 17) (f : Ecc) (rd : Fin 32) (rs1 : Fin 32) (imm : BitVec 16) (s : State) : Out := engRow e f 1 (bodyAndi rd rs1 imm) s
/-- ORI on engine `e` (R58, R59), 1 cycle. -/
def execEOri (e : Fin 17) (f : Ecc) (rd : Fin 32) (rs1 : Fin 32) (imm : BitVec 16) (s : State) : Out := engRow e f 1 (bodyOri rd rs1 imm) s
/-- XORI on engine `e` (R58, R59), 1 cycle. -/
def execEXori (e : Fin 17) (f : Ecc) (rd : Fin 32) (rs1 : Fin 32) (imm : BitVec 16) (s : State) : Out := engRow e f 1 (bodyXori rd rs1 imm) s
/-- SHLI on engine `e` (R58, R59), 1 cycle. -/
def execEShli (e : Fin 17) (f : Ecc) (rd : Fin 32) (rs1 : Fin 32) (sh : Fin 64) (s : State) : Out := engRow e f 1 (bodyShli rd rs1 sh) s
/-- SHRI on engine `e` (R58, R59), 1 cycle. -/
def execEShri (e : Fin 17) (f : Ecc) (rd : Fin 32) (rs1 : Fin 32) (sh : Fin 64) (s : State) : Out := engRow e f 1 (bodyShri rd rs1 sh) s
/-- SARI on engine `e` (R58, R59), 1 cycle. -/
def execESari (e : Fin 17) (f : Ecc) (rd : Fin 32) (rs1 : Fin 32) (sh : Fin 64) (s : State) : Out := engRow e f 1 (bodySari rd rs1 sh) s
/-- CMPI on engine `e` (R58, R59), 1 cycle. -/
def execECmpi (e : Fin 17) (f : Ecc) (rs1 : Fin 32) (imm : BitVec 16) (s : State) : Out := engRow e f 1 (bodyCmpi rs1 imm) s
/-- LDI on engine `e` (R58, R59), 1 cycle. -/
def execELdi (e : Fin 17) (f : Ecc) (rd : Fin 32) (imm : BitVec 16) (s : State) : Out := engRow e f 1 (bodyLdi rd imm) s
/-- INSH on engine `e` (R58, R59), 1 cycle. -/
def execEInsh (e : Fin 17) (f : Ecc) (rd : Fin 32) (lane : Fin 4) (imm : BitVec 16) (s : State) : Out := engRow e f 1 (bodyInsh rd lane imm) s
/-- MUL on engine `e` (R58, R59), 2 cycles. -/
def execEMul (e : Fin 17) (f : Ecc) (acc : Fin 4) (rs1 : Fin 32) (rs2 : Fin 32) (s : State) : Out := engRow e f 2 (bodyMul acc rs1 rs2) s
/-- MAC on engine `e` (R58, R59), 2 cycles. -/
def execEMac (e : Fin 17) (f : Ecc) (acc : Fin 4) (rs1 : Fin 32) (rs2 : Fin 32) (s : State) : Out := engRow e f 2 (bodyMac acc rs1 rs2) s
/-- MSU on engine `e` (R58, R59), 2 cycles. -/
def execEMsu (e : Fin 17) (f : Ecc) (acc : Fin 4) (rs1 : Fin 32) (rs2 : Fin 32) (s : State) : Out := engRow e f 2 (bodyMsu acc rs1 rs2) s
/-- ACLR on engine `e` (R58, R59), 1 cycle. -/
def execEAclr (e : Fin 17) (f : Ecc) (acc : Fin 4) (s : State) : Out := engRow e f 1 (bodyAclr acc) s
/-- ALD on engine `e` (R58, R59), 1 cycle. -/
def execEAld (e : Fin 17) (f : Ecc) (acc : Fin 4) (rs1 : Fin 32) (sh : Fin 128) (s : State) : Out := engRow e f 1 (bodyAld acc rs1 sh) s
/-- AADD on engine `e` (R58, R59), 1 cycle. -/
def execEAadd (e : Fin 17) (f : Ecc) (acc : Fin 4) (acc2 : Fin 4) (s : State) : Out := engRow e f 1 (bodyAadd acc acc2) s
/-- ASUB on engine `e` (R58, R59), 1 cycle. -/
def execEAsub (e : Fin 17) (f : Ecc) (acc : Fin 4) (acc2 : Fin 4) (s : State) : Out := engRow e f 1 (bodyAsub acc acc2) s
/-- AEX on engine `e` (R58, R59), 2 cycles. -/
def execEAex (e : Fin 17) (f : Ecc) (rd : Fin 32) (acc : Fin 4) (sh : Fin 128) (s : State) : Out := engRow e f 2 (bodyAex rd acc sh) s
/-- DIV on engine `e` (R58, R59), 66 cycles. -/
def execEDiv (e : Fin 17) (f : Ecc) (rd : Fin 32) (rs1 : Fin 32) (rs2 : Fin 32) (s : State) : Out := engRow e f 66 (bodyDiv rd rs1 rs2) s
/-- LD on engine `e` (R58, R59), 2 cycles. -/
def execELd (e : Fin 17) (f : Ecc) (rd : Fin 32) (rs1 : Fin 32) (imm : BitVec 16) (ecc : Ecc) (s : State) : Out := engRow e f 2 (bodyLd e rd rs1 imm ecc) s
/-- LDW on engine `e` (R58, R59), 2 cycles. -/
def execELdw (e : Fin 17) (f : Ecc) (rd : Fin 32) (rs1 : Fin 32) (imm : BitVec 16) (ecc : Ecc) (s : State) : Out := engRow e f 2 (bodyLdw e rd rs1 imm ecc) s
/-- ST on engine `e` (R58, R59), 2 cycles. -/
def execESt (e : Fin 17) (f : Ecc) (rs : Fin 32) (rs1 : Fin 32) (imm : BitVec 16) (s : State) : Out := engRow e f 2 (bodySt rs rs1 imm) s
/-- STW on engine `e` (R58, R59), 2 cycles. -/
def execEStw (e : Fin 17) (f : Ecc) (rs : Fin 32) (rs1 : Fin 32) (imm : BitVec 16) (ecc : Ecc) (s : State) : Out := engRow e f 2 (bodyStw e rs rs1 imm ecc) s
/-- ALDM on engine `e` (R58, R59), 2 cycles. -/
def execEAldm (e : Fin 17) (f : Ecc) (acc : Fin 4) (rs1 : Fin 32) (imm : BitVec 16) (ecc : Ecc × Ecc) (s : State) : Out := engRow e f 2 (bodyAldm e acc rs1 imm ecc.1 ecc.2) s
/-- AST on engine `e` (R58, R59), 2 cycles. -/
def execEAst (e : Fin 17) (f : Ecc) (acc : Fin 4) (rs1 : Fin 32) (imm : BitVec 16) (s : State) : Out := engRow e f 2 (bodyAst acc rs1 imm) s
/-- CRD on engine `e` (R58, R59), 1 cycle. -/
def execECrd (e : Fin 17) (f : Ecc) (rd : Fin 32) (rs1 : Fin 32) (imm : BitVec 16) (s : State) : Out := engRow e f 1 (bodyCrd rd rs1 imm) s
/-- CWR on engine `e` (R58, R59), 1 cycle. -/
def execECwr (e : Fin 17) (f : Ecc) (rs : Fin 32) (rs1 : Fin 32) (imm : BitVec 16) (s : State) : Out := engRow e f 1 (bodyCwr rs rs1 imm) s
/-- CSYNC on engine `e` (R58, R59), 96 cycles. -/
def execECsync (e : Fin 17) (f : Ecc) (s : State) : Out := engRow e f 96 (bodyCsync) s
/-- MBI on engine `e` (R58, R59), 1 cycle. -/
def execEMbi (e : Fin 17) (f : Ecc) (rd : Fin 32) (idx : Fin 1024) (rs1 : Fin 32) (s : State) : Out := engRow e f 1 (bodyMbi e rd idx rs1) s
/-- MBO on engine `e` (R58, R59), 1 cycle. -/
def execEMbo (e : Fin 17) (f : Ecc) (rs : Fin 32) (idx : Fin 1024) (rs1 : Fin 32) (s : State) : Out := engRow e f 1 (bodyMbo rs idx rs1) s
/-- LOOP on engine `e` (R58, R59), 1 cycle. -/
def execELoop (e : Fin 17) (f : Ecc) (body : Fin 256) (rs : Fin 32) (count : Fin 8192) (s : State) : Out := engRow e f 1 (bodyLoop body rs count) s
/-- END on engine `e` (R58, R59), 2 cycles. -/
def execEEnd (e : Fin 17) (f : Ecc) (s : State) : Out := engRow e f 2 (bodyEnd e) s
/-- SKIP on engine `e` (R58, R59), 1 cycle. -/
def execESkip (e : Fin 17) (f : Ecc) (cond : Fin 16) (n : Fin 1024) (s : State) : Out := engRow e f 1 (bodySkip cond n) s
/-- SKBS on engine `e` (R58, R59), 1 cycle. -/
def execESkbs (e : Fin 17) (f : Ecc) (reg : Fin 32) (bit : Fin 64) (n : Fin 1024) (s : State) : Out := engRow e f 1 (bodySkbs reg bit n) s
/-- SKBC on engine `e` (R58, R59), 1 cycle. -/
def execESkbc (e : Fin 17) (f : Ecc) (reg : Fin 32) (bit : Fin 64) (n : Fin 1024) (s : State) : Out := engRow e f 1 (bodySkbc reg bit n) s
/-- POST on engine `e` (R58, R59), 2 cycles. -/
def execEPost (e : Fin 17) (f : Ecc) (ev : Fin 128) (s : State) : Out := engRow e f 2 (bodyPost e ev) s
/-- TRAP on engine `e` (R58, R59), 1 cycle. -/
def execETrap (e : Fin 17) (f : Ecc) (code : Fin 256) (s : State) : Out := engRow e f 1 (bodyTrap code) s

end Sys2Proof.Machine
end

