-- ==== Sys2Proof/Machine/EngineEvents.lean ====
section
/-! DEFINITION. The events and host commands of the engines: WCET, commons completions, scrubbing, host
words, ENABLE, HALT, STEP, the bell period, and the substitution commands (R45 to R48, R74 to R82, R85,
R94, R100, R103). -/
namespace Sys2Proof.Machine

/-- WCET_EXCEEDED (R70, R74): the lesson of engine `e`, which has spent its declared WCET, traps in the next cycle. -/
def execWcetExceeded (e : Fin 17) (s : State) : Out :=
  let x := s.engine e
  .next (if !s.engHalted e && x.lesson.any (fun l => decide ((x.entry l.idx).wcet ≤ l.cyc)) then
    engTrap e .wcet 0 x.pc s
  else s)

/-- The oldest outstanding access of engine `e` completes if it is of the kind the row names. -/
def cmnRow (e : Nat) (write : Bool) (ecc : Ecc) (s : State) : State :=
  let x := s.engine e
  if (x.acc.head?.map (fun a => a.data.isSome)) = some write then
    let p := cmnComplete ecc s x
    p.1.putEngine e p.2
  else s

/-- COMMONS_READ_COMPLETE (R48). -/
def execCommonsReadComplete (e : Fin 17) (ecc : Ecc) (s : State) : Out := .next (cmnRow e false ecc s)
/-- COMMONS_WRITE_COMPLETE (R47). -/
def execCommonsWriteComplete (e : Fin 17) (s : State) : Out := .next (cmnRow e true .ok s)

/-- ENGINE_SCRUB (R45): the scrubber visits word `idx` of a memory of engine `e`. -/
def execEngineScrub (e : Fin 17) (mem : EngMem) (idx : Fin 8192) (ecc : Ecc) (s : State) : Out :=
  let isD := decide (mem = .dmem)
  let idx := if isD then idx.val % 2048 else idx.val
  .next (match ecc with
    | .ok => s
    | .single => engEccCorrected e isD s
    | .double => engEccStop e isD idx s)

/-- HIN_LO_WRITE (R75, R53): the LO write commits both halves of host-in word `k`. -/
def doHinLoWrite (e : Fin 17) (k : Fin 4) (data : BitVec 32) (s : State) : Out :=
  let o := s.hostOwner e
  let h := s.hostWords o
  let w : Word64 := BitVec.ofNat 64 (s.rd (Reg.ENG_HIN_HI_DATA o k) * 2 ^ 32 + data.toNat)
  .next ((s.wr (Reg.ENG_HIN_LO_DATA o k) data.toNat).putHostWords o { h with hin := tabSet 0 k w h.hin })

/-- HOUT_LO_READ (R75, R53): the read answers the low half of host-out word `k` and captures the high. -/
def doHoutLoRead (e : Fin 17) (k : Fin 4) (s : State) : Out :=
  let o := s.hostOwner e
  let w := tabGet 0 k.val (s.hostWords o).hout
  .next { s.wr (Reg.ENG_HOUT_HI_DATA o k) (w.toNat / 2 ^ 32) with hostRead := [w.truncate 32] }

/-- ENG_ENABLE (R77): 1 runs the timetable from the next bell; 0 lets the lesson in execution finish,
skips the entries not yet dispatched, and leaves the bell unchecked. On E16 the field arms the substitute. -/
def doEngEnable (e : Fin 17) (on : Bool) (s : State) : Out :=
  let s := s.wrb (Reg.ENG_CTRL_ENABLE e) on
  let x := s.engine e
  .next (if on then s
    else s.putEngine e { x with due := [], unchecked := true, run := x.run && x.lesson.isSome })

/-- ENG_HALT (R77). -/
def doEngHalt (e : Fin 17) (on : Bool) (s : State) : Out := .next (s.wrb (Reg.ENG_CTRL_HALT e) on)

/-- The cycles and the body of an engine instruction (R58), `none` for a row that is none. -/
def engineBody : Instr → Option (Nat × (State → Eng → Res))
  | .eAdd _ _ rd rs1 rs2 => some (1, bodyAdd rd rs1 rs2)
  | .eSub _ _ rd rs1 rs2 => some (1, bodySub rd rs1 rs2)
  | .eAnd _ _ rd rs1 rs2 => some (1, bodyAnd rd rs1 rs2)
  | .eOr _ _ rd rs1 rs2 => some (1, bodyOr rd rs1 rs2)
  | .eXor _ _ rd rs1 rs2 => some (1, bodyXor rd rs1 rs2)
  | .eShl _ _ rd rs1 rs2 => some (1, bodyShl rd rs1 rs2)
  | .eShr _ _ rd rs1 rs2 => some (1, bodyShr rd rs1 rs2)
  | .eSar _ _ rd rs1 rs2 => some (1, bodySar rd rs1 rs2)
  | .eMin _ _ rd rs1 rs2 => some (1, bodyMin rd rs1 rs2)
  | .eMax _ _ rd rs1 rs2 => some (1, bodyMax rd rs1 rs2)
  | .eAdds _ _ rd rs1 rs2 => some (1, bodyAdds rd rs1 rs2)
  | .eSubs _ _ rd rs1 rs2 => some (1, bodySubs rd rs1 rs2)
  | .eNeg _ _ rd rs1 => some (1, bodyNeg rd rs1)
  | .eAbs _ _ rd rs1 => some (1, bodyAbs rd rs1)
  | .eClz _ _ rd rs1 => some (1, bodyClz rd rs1)
  | .eCmp _ _ rs1 rs2 => some (1, bodyCmp rs1 rs2)
  | .eSel _ _ rd rs1 rs2 cond => some (1, bodySel rd rs1 rs2 cond)
  | .eRdc _ _ rd => some (1, bodyRdc rd)
  | .eAddi _ _ rd rs1 imm => some (1, bodyAddi rd rs1 imm)
  | .eAndi _ _ rd rs1 imm => some (1, bodyAndi rd rs1 imm)
  | .eOri _ _ rd rs1 imm => some (1, bodyOri rd rs1 imm)
  | .eXori _ _ rd rs1 imm => some (1, bodyXori rd rs1 imm)
  | .eShli _ _ rd rs1 sh => some (1, bodyShli rd rs1 sh)
  | .eShri _ _ rd rs1 sh => some (1, bodyShri rd rs1 sh)
  | .eSari _ _ rd rs1 sh => some (1, bodySari rd rs1 sh)
  | .eCmpi _ _ rs1 imm => some (1, bodyCmpi rs1 imm)
  | .eLdi _ _ rd imm => some (1, bodyLdi rd imm)
  | .eInsh _ _ rd lane imm => some (1, bodyInsh rd lane imm)
  | .eMul _ _ acc rs1 rs2 => some (2, bodyMul acc rs1 rs2)
  | .eMac _ _ acc rs1 rs2 => some (2, bodyMac acc rs1 rs2)
  | .eMsu _ _ acc rs1 rs2 => some (2, bodyMsu acc rs1 rs2)
  | .eAclr _ _ acc => some (1, bodyAclr acc)
  | .eAld _ _ acc rs1 sh => some (1, bodyAld acc rs1 sh)
  | .eAadd _ _ acc acc2 => some (1, bodyAadd acc acc2)
  | .eAsub _ _ acc acc2 => some (1, bodyAsub acc acc2)
  | .eAex _ _ rd acc sh => some (2, bodyAex rd acc sh)
  | .eDiv _ _ rd rs1 rs2 => some (66, bodyDiv rd rs1 rs2)
  | .eLd e _ rd rs1 imm ecc => some (2, bodyLd e rd rs1 imm ecc)
  | .eLdw e _ rd rs1 imm ecc => some (2, bodyLdw e rd rs1 imm ecc)
  | .eSt _ _ rs rs1 imm => some (2, bodySt rs rs1 imm)
  | .eStw e _ rs rs1 imm ecc => some (2, bodyStw e rs rs1 imm ecc)
  | .eAldm e _ acc rs1 imm ecc => some (2, bodyAldm e acc rs1 imm ecc.1 ecc.2)
  | .eAst _ _ acc rs1 imm => some (2, bodyAst acc rs1 imm)
  | .eCrd _ _ rd rs1 imm => some (1, bodyCrd rd rs1 imm)
  | .eCwr _ _ rs rs1 imm => some (1, bodyCwr rs rs1 imm)
  | .eCsync _ _ => some (96, bodyCsync)
  | .eMbi e _ rd idx rs1 => some (1, bodyMbi e rd idx rs1)
  | .eMbo _ _ rs idx rs1 => some (1, bodyMbo rs idx rs1)
  | .eLoop _ _ body rs count => some (1, bodyLoop body rs count)
  | .eEnd e _ => some (2, bodyEnd e)
  | .eSkip _ _ cond n => some (1, bodySkip cond n)
  | .eSkbs _ _ reg bit n => some (1, bodySkbs reg bit n)
  | .eSkbc _ _ reg bit n => some (1, bodySkbc reg bit n)
  | .ePost e _ ev => some (2, bodyPost e ev)
  | .eTrap _ _ code => some (1, bodyTrap code)
  | _ => none

/-- The instruction that the word at the PC of engine `e` spells, with its cycles. -/
def fetchedBody (e : Fin 17) (d d2 : Ecc) (w : Word32) : Nat × (State → Eng → Res) :=
  if postsBeyond w then (2, fun _ _ => .trap .priv 0)
  else ((decodeEngine e .ok d d2 w).bind engineBody).getD (1, bodyIllegal)

/-- ENG_STEP (R77): one instruction of a halted engine, fetched at its PC; ignored unless HALT = 1 and the
debug gate is open. -/
def doEngStep (e : Fin 17) (f ecc ecc2 : Ecc) (s : State) : Out :=
  if s.engHalted e then
    let x := s.engine e
    let p := fetchedBody e ecc ecc2 (x.iword x.pc)
    .next (engRun e f p.1 p.2 s)
  else .next s

/-- ILLEGAL_INSTRUCTION (R57): engine `e` fetches `word`; where the word spells an instruction after all,
that instruction runs. -/
def execIllegalInstruction (e : Fin 17) (f : Ecc) (word : BitVec 32) (s : State) : Out :=
  let p := fetchedBody e .ok .ok word
  engRow e f p.1 p.2 s

/-- Is the engine running a timetable (R78)? -/
def State.anyRunning (s : State) : Bool := (List.range 17).any (fun e => (s.engine e).run)

/-- `DEV.LOAD_STATUS.LOADED` (R85, R98): a loaded image matches the bell period. -/
def State.loaded (s : State) : Bool :=
  decide (s.image.period ≠ 0 ∧ s.rd Reg.DEV_BELL_PERIOD = s.image.period)

/-- BELL_PERIOD_WRITE (R85): refused while an engine runs or outside 250 to 16,777,216. -/
def doBellPeriodWrite (period : BitVec 25) (s : State) : Out :=
  let v := period.toNat
  if s.anyRunning ∨ v < 250 ∨ 16777216 < v then .next (s.wr Reg.DEV_BELL_STATUS_PERIOD_REJ 1)
  else .next ((s.wr Reg.DEV_BELL_PERIOD v).wr Reg.DEV_BELL_STATUS_PERIOD_REJ 0)

/-- Drop the strikes of engine `e` that have expired by bell `b` (R94). -/
def dropStrikes (e b : Nat) (s : State) : State :=
  let x := s.engine e
  s.putEngine e { x with strikes := x.strikes.filter (fun t => decide (b < t)) }

/-- STRIKE_EXPIRY (R94). -/
def execStrikeExpiry (e : Fin 17) (s : State) : Out := .next (dropStrikes e s.bell.number s)

/-! ### Substitution commands -/

/-- SUBST_FORCE (R106): ignored while BUSY = 1 or E16 serves. -/
def doSubstForce (target : Fin 16) (s : State) : Out :=
  let s := s.wr (Reg.ENG_SUBST_TARGET 16) target
  .next (if s.substBusy ∨ s.serving ≠ 31 then s else substRequest target .force s)

/-- SUBST_READY (R100, R102, R103): the copy has passed its ECC check and E16 is ready; an uncorrectable
copy ends the substitution with SUBST_FAIL. -/
def execSubstReady (copyOk : Bool) (s : State) : Out :=
  if s.subst.phase ≠ .copying then .next s
  else
    let n := s.subst.eng
    if copyOk then
      let sec := s.section n
      let x := s.engine 16
      .next { s.putEngine 16 { x with
          imem := tabOf 0xFFFFFFFF sec.imem
          dmem := if s.subst.healthy then (s.engine n).dmem else tabOf 0 sec.dmem } with
        subst := { s.subst with phase := .ready } }
    else
      let s := s.putEngine 16 { s.engine 16 with tt := [], bind := [] }
      .next (substFail n ({ s with subst := { s.subst with phase := .idle, eng := 31 } }.level 20 n false))

/-- Is engine `n` under test (R475)? -/
def State.engUnderTest (s : State) (n : Nat) : Bool :=
  decide (s.bist = some (1, n))

/-- SUBST_RETURN (R16, R103): refused while busy, while E16 serves no engine, while engine n's UNC flags are
set, its island is unpowered or it is under test; accepted, RETURN stays 1 until the return is done. -/
def doSubstReturn (s : State) : Out :=
  let n := s.subst.eng
  if s.substBusy ∨ s.serving = 31 ∨ s.bit (Reg.ENG_ECC_UNC_I n) ∨ s.bit (Reg.ENG_ECC_UNC_D n) ∨
      maskBit s.clk.unpowered (3 + n) ∨ s.engUnderTest n then .next s
  else
    let x16 := s.engine 16
    let sec := s.section n
    let x := s.engine n
    let s := s.putEngine n { x.abandoned.dispatched 0 with
      imem := tabOf 0xFFFFFFFF sec.imem
      dmem := if x16.stopped then tabOf 0 sec.dmem else x16.dmem }
    let s := (s.putEngine 16 x16.halted).wr (Reg.ENG_SUBST_RETURN 16) 1
    .next { s with subst := { s.subst with phase := .returning, healthy := !x16.stopped, since := s.now } }

end Sys2Proof.Machine
end

