-- ==== Sys2Proof/Machine/Time.lean ====
section
/-! DEFINITION. The TIME island: holds, DCO ramps, slewers, timescales and their commands, time triggers
and GPIO (R54, R164, R176 to R178, R191, R192, R223 to R240). -/
namespace Sys2Proof.Machine

/-! ### Holds (R54, R99, R103, R385, R430) -/

/-- Is rail instance `i` in warning (R429)? -/
def State.railWarn (s : State) (i : Nat) : Bool := maskBit (s.rd Reg.PWR_RAIL_STATUS_WARN) i

/-- Is source `ev` in force with action `a`: ACTED and not CLEAR (R386)? -/
def State.actionInForce (s : State) (ev a : Nat) : Bool :=
  s.bit (Reg.FLT_SRC_STATUS_ACTED ev) && decide (s.rd (Reg.FLT_SRC_STATUS_STATE ev) ≠ 0) &&
  decide ((tabGet {} ev s.flt.src).action = a)

/-- Does an action `a` in force satisfy `p` of its record (R387)? -/
def State.anyAction (s : State) (a : Nat) (p : SrcRec → Bool) : Bool :=
  (List.range 96).any (fun ev => s.actionInForce ev a && p (tabGet {} ev s.flt.src))

/-- Are the bindings of engine `e` held for want of a running engine: from a substitution request to the
resume bell, while E16 has stopped or idles, after a failed substitution, and while an ISLAND reset has not
been resumed from (R54, R95, R99, R103, R440)? -/
def State.engHeld (s : State) (e : Nat) : Bool :=
  s.subst.failed.contains e || (s.engine e).reload.isSome ||
  (s.substituted e && (decide (s.subst.phase ≠ .serving) || (s.engine 16).stopped || !s.armed))

/-- The engine bound to out-word `i`, if one is (R53). -/
def State.owner (s : State) (i : Nat) : Option Nat := (List.range 16).find? (fun e => (s.engine e).bind.contains i)

/-- Does a hold apply to the DCO commits of path `p` (R54, R385, R405)? -/
def State.pathHeld (s : State) (p : Nat) : Bool :=
  s.bit Reg.DEV_CLK_STATUS_SERVO_HOLD || s.railWarn 0 || s.parityIn (0x20000 + 0x200 * p) 0x200 ||
  ((s.owner (0x200 + p)).map s.engHeld).getD false ||
  s.anyAction 1 (fun r => maskBit r.paths p)

/-- Does any hold of R54 apply to the bindings of engine `e` (R78)? -/
def State.bindingsHeld (s : State) (e : Nat) : Bool :=
  s.engHeld e || (List.range 8).any (fun p => (s.engine e).bind.contains (0x200 + p) && s.pathHeld p)

/-! ### The tick (R177, R192, R224 to R226) -/

/-- The DCO range: ±500 ppm in units of 2^-56 (R192). -/
def dcoMax : Int := 36028797018964

/-- The DCO word of path `p` after saturation (R192). -/
def State.dco (s : State) (p : Nat) : Int := clampInt (-dcoMax) dcoMax (s.path p).word.toInt

/-- What a ramp steered by word `w` advances in one 2.0 ns tick, in 2^-64 ns: 2.0 ns × (1 + w × 2^-56). -/
def incOf (w : Int) : Int := 2 ^ 65 + w * 512

/-- The increment per XO tick: INC × 500,000,000 / XO_FREQ, with 64 fraction bits (R226). -/
def incXo (freq : Nat) (inc : Int) : Int := if freq = 0 then 0 else roundDiv (inc * 500000000) freq

/-- The 2.0 ns increment of timescale `n` (R224, R225). -/
def State.tsInc (s : State) (n : Nat) : Int :=
  if s.bit (Reg.TS_CFG_FREE n) then incOf 0 else incOf (s.dco (s.rd (Reg.TS_CFG_PATH n)))

/-- An increment as the present tick applies it: per 2.0 ns, or per XO tick (R226). -/
def State.perTick (s : State) (inc : Int) : Int :=
  if s.clk.time = .xo then incXo s.clk.xoFreq inc else inc

/-- The range of a timescale: 48 bits of seconds, in 2^-64 ns (R223). -/
def tsModulus : Nat := 2 ^ 48 * 10 ^ 9 * 2 ^ 64

/-- A timescale value moved by an amount in 2^-64 ns. -/
def tsAdd (v : Nat) (d : Int) : Nat := (((v : Int) + d) % (tsModulus : Int)).toNat

/-- What the slewer has moved `k` ticks into a segment, in 2^-32 ns, rounded down (R177). -/
def slewMoved (s : State) (rate k : Nat) : Int :=
  if s.clk.time = .xo then (if s.clk.xoFreq = 0 then 0 else ((rate * k * 2 ^ 32 / s.clk.xoFreq : Nat) : Int))
  else ((rate * k * 2 * 2 ^ 32 / 10 ^ 9 : Nat) : Int)

/-- The slew rate of path `p`; 0 is taken as 1 (R191). -/
def State.slewRate (s : State) (p : Nat) : Nat := max 1 (s.rd (Reg.PATH_PHASE_SLOPE_RATE p))

/-- Apply `amt` of the remainder to the DCO phase of a path: the ramp reading falls by it, STEP_TOTAL grows
by it, REMAIN loses it (R177, R192). -/
def PathSt.shift (x : PathSt) (amt : Int) : PathSt :=
  { x with ramp := x.ramp - amt * 2 ^ 32, total := x.total + amt, remain := x.remain - amt }

/-- The APLL whose settings APLL `k` uses, and the path it locks to: its own; for A8 that of the APLL whose plan it runs
(R209). -/
def State.apllOf (s : State) (k : Nat) : Nat := if k = 8 then ((s.apll 8).mirror).getD 8 else k

/-- `APLLk.CFG.SLEW` in ppm; other codes are taken as 100 (R220). -/
def State.slewPpm (s : State) (k : Nat) : Nat :=
  match s.rd (Reg.APLL_CFG_SLEW (s.apllOf k)) with
  | 0 => 10 | 1 => 25 | 2 => 50 | 4 => 250 | _ => 100

/-- `APLLk.CFG.BW`, the loop bandwidth in kHz (R194, R220). -/
def State.loopBw (s : State) (k : Nat) : Nat := 50 * 2 ^ s.rd (Reg.APLL_CFG_BW (s.apllOf k))

/-- The DCO phase of path `p` is stepped by `amt` in 2^-32 ns: each APLL locked to it has that much to follow (R192, R194). -/
def pathShift (p : Nat) (amt : Int) (s : State) : State :=
  let s := s.putPath p ((s.path p).shift amt)
  forRange 9 (fun k s =>
    if s.apllOf k = p ∧ s.bit (Reg.APLL_STATUS_LOCK k) then s.putApll k { s.apll k with lag := (s.apll k).lag + amt * 2 ^ 32 }
    else s) s

/-- Over `k` ticks of the TBPLL each locked APLL follows its ramp at its SLEW limit, but not while it holds its loop (R194,
R211). -/
def apllsFollow (k : Nat) (s : State) : State :=
  forRange 9 (fun j s =>
    let x := s.apll j
    if x.lag = 0 ∨ !s.bit (Reg.APLL_STATUS_LOCK j) ∨ s.rd (Reg.APLL_STATUS_STATE j) = 6 then s
    else
      let d : Int := (k * s.slewPpm j * 2 ^ 65 / 10 ^ 6 : Nat)
      s.putApll j { x with lag := if 0 ≤ x.lag then max 0 (x.lag - d) else min 0 (x.lag + d) }) s

/-- The ticks behind the slewer of path `p` in its segment: none at a resumption after a hold (R177). -/
def PathSt.segTicks (x : PathSt) : Nat := if x.held then 0 else x.seg

/-- What the slewer of path `p` may move in the next `k` ticks, in 2^-32 ns (R177). -/
def slewDue (k p : Nat) (s : State) : Int :=
  slewMoved s (s.slewRate p) ((s.path p).segTicks + k) - slewMoved s (s.slewRate p) (s.path p).segTicks

/-- The slewer of path `p` over `k` ticks (R177). -/
def slewTicks (k p : Nat) (s : State) : State :=
  let x := s.path p
  if x.remain = 0 ∨ s.rd (Reg.PATH_STEP_CFG_MODE p) = 1 then s
  else if s.pathHeld p then s.putPath p { x with held := true }
  else
    let seg := x.segTicks
    let d := slewDue k p s
    let amt := if 0 ≤ x.remain then min d x.remain else max (-d) x.remain
    pathShift p amt (s.putPath p { x with seg := seg + k, held := false })

/-- Start a new segment of the slewer of path `p` (R177). -/
def newSegment (p : Nat) (s : State) : State := s.putPath p { s.path p with seg := 0 }

/-- The ramps of the paths move on by `k` ticks (R192). -/
def advanceRamps (k : Nat) (s : State) : State :=
  forRange 8 (fun p s => s.putPath p { s.path p with ramp := (s.path p).ramp + k * s.perTick (incOf (s.dco p)) }) s
/-- The timescales move on by `k` ticks (R224). -/
def advanceScales (k : Nat) (s : State) : State :=
  forRange 4 (fun n s =>
    s.putTscale n { s.tscale n with val := tsAdd (s.tscale n).val (k * s.perTick (s.tsInc n)) }) s

/-- TB time moves on by `k` ticks of the TBPLL, or of XO_IN (R29, R226). -/
def advanceTb (k : Nat) (s : State) : State :=
  if s.clk.time = .xo then
    let num := s.tbRem + k * 10 ^ 9 * 1024
    let f := max 1 s.clk.xoFreq
    { s with tb := s.tb + (num / f : Nat), tbRem := num % f }
  else { s with tb := s.tb + k * 2048 }

/-- TIME runs for `k` ticks: ramps, slewers, timescales and TB time advance; nothing moves while TIME is not
clocked (R29, R177, R192, R224, R226). -/
def advance (k : Nat) (s : State) : State :=
  if !s.timeClocked || k = 0 then s
  else
    let t := advanceTb k (advanceScales k (apllsFollow k (forRange 8 (slewTicks k) (advanceRamps k s))))
    let d := (t.tb / 2048 - s.tb / 2048).toNat
    { t with now := s.now + d, up := s.up + d, bell := { t.bell with since := t.bell.since + k } }

/-- The ticks of a bell: PERIOD ticks, or on XO_IN the nearest number of XO ticks (R29,
R83, R84). -/
def State.bellTicks (s : State) (xo : Bool) : Nat :=
  if xo then (max 1 (roundNearest (s.bell.period * 2 * s.clk.xoFreq : Nat) (10 ^ 9))).toNat else s.bell.period

/-- The idle step: one tick of TIME, or 2.0 ns of the other clocks where TIME has none (assumption 2). -/
def tick (s : State) : State := if s.timeClocked then advance 1 s else { s with up := s.up + 1 }

/-! ### Reading a timescale (R227, R228) -/

/-- The WT of a timescale value in 2^-64 ns: the integer ns modulo 2^48 and 16 fraction bits (R227). -/
def wtOf (v : Nat) : Nat := v / 2 ^ 48 % 2 ^ 64

/-- The signed difference of two WTs (R228). -/
def sdiff (a b : Nat) : Int := toSigned 64 ((a + 2 ^ 64 - b % 2 ^ 64) % 2 ^ 64)

/-- The value of timescale `n` at TB time `t` (2^-10 ns), interpolated at the increment in force (R253). -/
def State.tsAt (s : State) (n : Nat) (t : Int) : Nat :=
  tsAdd (s.tscale n).val (roundDiv ((t - s.tb) * s.tsInc n) 2048)

/-! ### Steps of a timescale (R215, R230 to R235) -/

/-- The pulse period of output `o` in 2^-64 ns. -/
def State.pulsePeriod (s : State) (o : Nat) : Nat := max 1 (s.rd (Reg.OUT_PULSE_CFG_EVERY o)) * 10 ^ 9 * 2 ^ 64

/-- How many pulse instants of output `o` lie at or before value `v` of its timescale. -/
def State.pulseIndex (s : State) (o v : Nat) : Int :=
  ((v : Int) - ((s.outp o).phase : Int) * 2 ^ 54 % s.pulsePeriod o) / s.pulsePeriod o

/-- The pulse instants of output `o` behind value `v` of its timescale, those already pulsed among them (R215). -/
def State.pulsesDone (s : State) (o v : Nat) : Int :=
  match (s.outp o).lastPulse with
  | some l => max (s.pulseIndex o v) (l / max 1 (s.rd (Reg.OUT_PULSE_CFG_EVERY o)) : Nat)
  | none => s.pulseIndex o v

/-- The pulse instants a forward jump of timescale `n` from `old` to `new` passes over are missed, but for those
already pulsed; a suspended pulse is none (R215). -/
def pulseJump (n old new : Nat) (s : State) : State :=
  forRange 32 (fun o s =>
    if s.bit (Reg.OUT_CFG_MODE o) && decide (s.rd (Reg.OUT_CFG_SRC o) < 2 ∧ s.rd (Reg.OUT_PULSE_CFG_TS o) = n) &&
        s.bit (Reg.OUT_CFG_EN o) then
      s.bump (Reg.OUT_STATUS_PULSE_MISS o) (s.pulseIndex o new - s.pulsesDone o old).toNat
    else s) s

/-- The timescale of a role's stamps (R253). -/
def State.roleTs (s : State) (c : Nat) : Nat := s.rd (Reg.TDC_CFG_TS c)

/-- One millisecond of TB time, in 2^-10 ns. -/
def msUnits : Int := 1024000000

/-- A FREQ-REG gate with BASE = 1 that is open when its timescale is stepped publishes NODATA (R270). -/
def markStepped (n : Nat) (s : State) : State :=
  forRange 16 (fun m s =>
    let g := s.grp m
    if s.bit (Reg.M_CFG_BASE m) && decide (s.roleTs (s.rd (Reg.M_CFG_START m)) = n ∧ g.freq.start ≤ s.tb) then
      if s.tb < g.freq.start + s.rd (Reg.M_LEN_VALUE m) * msUnits then s.putGrp m { g with freq := { g.freq with stepped := true } }
      else s.putGrp m { g with freqNext := { g.freqNext with stepped := true } }
    else s) s

/-- At a TBPLL loss, the result of every open gate and run carries COARSE (R272). -/
def grpsCoarse (s : State) : State :=
  forRange 16 (fun m s =>
    let g := s.grp m
    let mode := s.rd (Reg.M_CFG_MODE m)
    if !s.bit (Reg.M_STATUS_RUNNING m) then s
    else if mode = 2 then
      s.putGrp m { g with runs := (List.range 8).foldl (fun t k =>
        tabSet {} k { (tabGet {} k t : StatRun) with flags := (tabGet {} k t).flags ||| flagCoarse } t) g.runs }
    else if mode = 3 ∧ g.freq.start ≤ s.tb then
      if s.tb < g.freq.start + s.rd (Reg.M_LEN_VALUE m) * msUnits then
        s.putGrp m { g with freq := { g.freq with flags := g.freq.flags ||| flagCoarse } }
      else s.putGrp m { g with freqNext := { g.freqNext with flags := g.freqNext.flags ||| flagCoarse } }
    else s) s

/-- Each step of timescale `n` makes an anchor due in the rings of that timescale (R287). -/
def anchorsDue (n : Nat) (s : State) : State :=
  forRange 8 (fun r s =>
    let x := s.ring r
    if x.run ∧ x.ts = n then s.putRing r { x with steps := x.steps + 1 } else s) s

/-- Move timescale `n` to `v`: the step is counted and raises TS_STEP (R235). -/
def tsMove (n v : Nat) (s : State) : State :=
  let old := (s.tscale n).val
  let s := s.putTscale n { s.tscale n with val := v }
  let s := if old < v then pulseJump n old v s else s
  ((anchorsDue n (markStepped n s)).bump (Reg.TS_STEPS_COUNT n)).raise 29 n

/-- VAL_S, as the last write of its LO half committed it (R246). -/
def State.valS (s : State) (n : Nat) : Nat := (s.tscale n).hiS * 2 ^ 32 + s.rd (Reg.TS_VAL_S_LO_S n)

/-- VAL as an unsigned time in 2^-16 ns. -/
def State.valUnsigned (s : State) (n : Nat) : Nat :=
  (s.valS n * 10 ^ 9 + s.rd (Reg.TS_VAL_NS_NS n)) * 2 ^ 16
    + s.rd (Reg.TS_VAL_FRAC_FRAC n)

/-- VAL as a signed amount in 2^-16 ns: signed seconds, unsigned ns and fraction (R230). -/
def State.valSigned (s : State) (n : Nat) : Int :=
  (toSigned 48 (s.valS n) * 10 ^ 9
    + s.rd (Reg.TS_VAL_NS_NS n)) * 2 ^ 16 + s.rd (Reg.TS_VAL_FRAC_FRAC n)

/-- A SET of timescale `n` to `v` (R230, R234): the step of a lesson in the same tick is discarded and lost, and the SET
counts in its place. -/
def tsSet (n v : Nat) (s : State) : State :=
  let x := s.tscale n
  let s := s.putTscale n { x with lastSet := some s.now, lastStep := none }
  match x.lastStep with
  | some (t, _) => if t = s.now then (s.putTscale n { s.tscale n with val := v }).raise 30 n else tsMove n v s
  | none => tsMove n v s

/-- A SET or ADJ (R230, R231): refused with a VAL_NS of 10^9 or more; applied at once, or kept for the edge
under AT_EDGE. -/
def tsCommand (n : Nat) (isSet : Bool) (s : State) : State :=
  if 10 ^ 9 ≤ s.rd (Reg.TS_VAL_NS_NS n) ∨ s.parityIn (0x30000 + 0x40 * n) 0x40 then s.wr (Reg.TS_STATUS_REJ n) 1
  else
    let s := s.wrs [(Reg.TS_STATUS_REJ n, 0), (Reg.TS_STATUS_TIMEOUT n, 0)]
    let amount : Int := if isSet then s.valUnsigned n else s.valSigned n
    if s.bit (Reg.TS_CFG_AT_EDGE n) then
      (s.putTscale n { s.tscale n with pend := some ⟨isSet, amount, s.tb⟩ }).wrs
        [(Reg.TS_CMD_SET n, isSet.toNat), (Reg.TS_CMD_ADJ n, (!isSet).toNat)]
    else
    let s := s.wrs [(Reg.TS_CMD_SET n, 0), (Reg.TS_CMD_ADJ n, 0)]
    if isSet then
      let s := tsSet n (tsAdd 0 (amount * 2 ^ 48)) s
      s.putTscale n { s.tscale n with pend := none }
    else
      let s := tsMove n (tsAdd (s.tscale n).val (amount * 2 ^ 48)) s
      s.putTscale n { s.tscale n with pend := none }

/-- A SET or ADJ written before START waits for the first tick of TIME (R489). -/
def tsOrder (n : Nat) (isSet : Bool) (s : State) : State :=
  if s.clk.time = .stopped then s.wr (if isSet then Reg.TS_CMD_SET n else Reg.TS_CMD_ADJ n) 1 else tsCommand n isSet s

/-- The commands that have waited for the first tick of TIME are applied (R489). -/
def tsFirstTick (s : State) : State :=
  forRange 4 (fun n s =>
    let free := (s.tscale n).pend.isNone
    let set := free && s.bit (Reg.TS_CMD_SET n)
    let adj := free && s.bit (Reg.TS_CMD_ADJ n)
    let s := if !free then s else s.wrs [(Reg.TS_CMD_SET n, 0), (Reg.TS_CMD_ADJ n, 0)]
    let s := if set then tsCommand n true s else s
    if adj then tsCommand n false s else s) s

/-- TS_SET (R230, R231, R489). -/
def doTsSet (n : Fin 4) (s : State) : Out := .next (tsOrder n true s)
/-- TS_ADJ (R230, R231, R489). -/
def doTsAdj (n : Fin 4) (s : State) : Out := .next (tsOrder n false s)

/-- TS_CAPTURE (R232). -/
def doTsCapture (n : Fin 4) (s : State) : Out :=
  let v := (s.tscale n).val / 2 ^ 48
  let ns := v / 2 ^ 16
  .next ((s.putTscale n { s.tscale n with cap := v }).wrs
    [(Reg.TS_CAP_S_LO_S n, ns / 10 ^ 9),
     (Reg.TS_CAP_NS_NS n, ns % 10 ^ 9), (Reg.TS_CAP_FRAC_FRAC n, v % 2 ^ 16)])

/-- TS_CMD_TIMEOUT (R231): no edge came within 2.0 s, and the waiting command clears without effect. -/
def execTsCmdTimeout (n : Fin 4) (s : State) : Out :=
  .next (if (s.tscale n).pend.any (fun c => decide (c.since + 2000 * msUnits ≤ s.tb)) then
    (s.putTscale n { s.tscale n with pend := none }).wrs
      [(Reg.TS_STATUS_TIMEOUT n, 1), (Reg.TS_CMD_SET n, 0), (Reg.TS_CMD_ADJ n, 0)]
  else s)

/-- A pending command meets an accepted on-time edge of its slot at TB time `t`: it is applied as of the
edge's pin time (R231). -/
def tsEdge (slot : Nat) (t : Int) (s : State) : State :=
  forRange 4 (fun n s =>
    match (s.tscale n).pend with
    | some c =>
      if s.rd (Reg.TS_CFG_EDGE_SLOT n) = slot ∧ c.since ≤ t then
        let cur := (s.tscale n).val
        let atEdge := s.tsAt n t
        let s := if c.set then tsSet n (tsAdd (tsAdd 0 (c.amount * 2 ^ 48)) ((cur : Int) - atEdge)) s
                 else tsMove n (tsAdd cur (c.amount * 2 ^ 48)) s
        (s.putTscale n { s.tscale n with pend := none }).wrs [(Reg.TS_CMD_SET n, 0), (Reg.TS_CMD_ADJ n, 0)]
      else s
    | none => s) s

/-- A timescale control word takes effect (R233, R234): a new SEQ is kept, and with KIND STEP or STEP_S it steps the
timescale, unless a host SET applies in the same tick, when the step is lost; KIND PHASE gives the virtual
slots a sample. -/
def tsControl (n : Nat) (w : Word64) (s : State) : State :=
  let seq := (w.toNat / 2 ^ 56) % 128
  let kind := (w.toNat / 2 ^ 54) % 4
  let v := toSigned 48 w.toNat
  let x := s.tscale n
  if seq = x.seq then s
  else
    let s := s.putTscale n { x with seq := seq }
    if kind = 3 then s
    else if kind = 0 then
      if w.msb then
        forRange 2 (fun i s =>
          if s.rd (Reg.SLOT_VCFG_TS (20 + i)) = n then
            s.putSlot (20 + i) { s.slot (20 + i) with vnew := some v }
          else s) s
      else s
    else if x.lastSet = some s.now then s.raise 30 n
    else tsMove n (tsAdd x.val (if kind = 1 then v * 2 ^ 48 else v * (10 ^ 9 * 2 ^ 64)))
      (s.putTscale n { s.tscale n with lastStep := some (s.now, x.val) })

/-! ### Phase steps (R176, R177, R191) -/

/-- The 48-bit range of REMAIN in 2^-32 ns. -/
def stepFits (r : Int) : Bool := decide (-(2 ^ 47 * 2 ^ 16 : Int) ≤ r ∧ r < 2 ^ 47 * 2 ^ 16)

/-- PHASE_STEP_COMMIT (R176): the LO write commits the staged 48-bit amount. -/
def doPhaseStepCommit (p : Fin 8) (lo : BitVec 32) (s : State) : Out :=
  let s := s.wr (Reg.PATH_PHASE_STEP_LO_AMOUNT_LO p) lo.toNat
  let amt := toSigned 48 (s.rd (Reg.PATH_PHASE_STEP_HI_AMOUNT_HI p) * 2 ^ 32 + lo.toNat) * 2 ^ 16
  let x := s.path p
  if stepFits (x.remain + amt) then
    let s := s.putPath p { x with remain := x.remain + amt, seg := if x.remain = 0 then 0 else x.seg }
    .next ((s.wr (Reg.PATH_STEP_STATUS_REJ p) 0).bump (Reg.PATH_STEP_STATUS_ACCEPTED p))
  else .next (s.wr (Reg.PATH_STEP_STATUS_REJ p) 1)

/-- STEP_CANCEL (R177): REMAIN is 0; what is applied stays. -/
def doStepCancel (p : Fin 8) (s : State) : Out := .next (s.putPath p { s.path p with remain := 0 })

/-- SLEW_COMPLETE (R177): the last tick moves exactly what remains, unless a hold or a loss of the clock stops the slewer. -/
def execSlewComplete (p : Fin 8) (s : State) : Out :=
  let x := s.path p
  .next (if s.timeClocked ∧ s.rd (Reg.PATH_STEP_CFG_MODE p) = 0 ∧ !s.pathHeld p ∧
      (x.remain.natAbs : Int) ≤ slewDue 1 p s then
    pathShift p x.remain s
  else s)

/-- IMMEDIATE mode applies the whole remainder at the bell, unless a hold stops the slewer (R177). -/
def immediateStep (p : Nat) (s : State) : State :=
  let x := s.path p
  if s.rd (Reg.PATH_STEP_CFG_MODE p) = 1 ∧ !s.pathHeld p then pathShift p x.remain s else s

end Sys2Proof.Machine
end

