-- ==== Sys2Proof/Machine/Synth.lean ====
section
/-! DEFINITION. The synthesis chain: plans, APPLY, band caches, lock and loss of the APLLs, the warm spare, and
what an output's multiplexer is to connect (R192 to R213). -/
namespace Sys2Proof.Machine

/-! ### Plans and outputs -/

/-- fVCO at w = 0, in 2^-40 Hz (R193). -/
def Plan.f (p : Plan) : Nat := p.fpd * (p.nint * 2 ^ 40 + p.nfrac)

/-- fVCO at w = 0 at this moment, in 2^-40 Hz: in a RAMP it moves linearly from the old plan's to the new one's, at RAMP ppm
of the old one per ms, 0 taken as 1 (R202, R220). -/
def State.ratioNow (s : State) (k : Nat) : Nat :=
  let x := s.apll k
  match x.ramp with
  | some (f, t) =>
    let moved := f * max 1 (s.rd (Reg.APLL_CFG_RAMP k)) * (2 * (s.up - t)) / 10 ^ 12
    if f ≤ x.plan.f then min x.plan.f (f + moved) else max x.plan.f (f - moved)
  | none => x.plan.f

/-- The DCO word that steers APLL `k`: that of its path, or under HOLD the mean it holds (R192, R211). -/
def State.apllWord (s : State) (k : Nat) : Int :=
  match (s.apll k).hold with
  | some h => h.2.2
  | none => s.dco (s.apllOf k)

/-- fVCO (R193): fPD × N × (1 + w × 2^-56), in Hz as a quotient. -/
def State.vcoFreq (s : State) (k : Nat) : Nat × Nat := (s.ratioNow k * ((2 ^ 56 : Int) + s.apllWord k).toNat, 2 ^ 96)

/-- Does band `b` reach fVCO `f` in 2^-40 Hz: from 9,985 + 58.5 b to 10,075 + 58.5 b MHz (R196)? -/
def inBand (b f : Nat) : Bool :=
  decide ((9985000000 + 58500000 * b) * 2 ^ 40 ≤ f ∧ f ≤ (10075000000 + 58500000 * b) * 2 ^ 40)

/-- The outputs of group `k`. -/
def groupOuts (k : Nat) : List Nat := [4 * k, 4 * k + 1, 4 * k + 2, 4 * k + 3]

/-- `a` below `b` for quotients of naturals. -/
def qlt (a b : Nat × Nat) : Bool := decide (a.1 * b.2 < b.1 * a.2)
/-- The larger of two quotients. -/
def qmax (a b : Nat × Nat) : Nat × Nat := if qlt a b then b else a

/-- The divider of output `o` in the active plan of its group. -/
def State.outDiv (s : State) (o : Nat) : Nat := ((s.apll (o / 4)).plan.divs.getD (o % 4) 0)

/-- The FORMAT in use: it takes effect only while EN = 0 (R222). -/
def State.outFormat (s : State) (o : Nat) : Nat :=
  if s.bit (Reg.OUT_CFG_EN o) then (s.outp o).format else s.rd (Reg.OUT_CFG_FORMAT o)

/-- The frequency limit of a format, in Hz (R195). -/
def formatLimit (f : Nat) : Nat := if f = 3 then 250000000 else 3200000000

/-- XO_IN divided by BYP_DIV, 0 taken as 1 (R213, R222). -/
def State.bypFreq (s : State) (o : Nat) : Nat × Nat := (s.clk.xoFreq, max 1 (s.rd (Reg.OUT_BYP_DIV_DIV o)))

/-- The STATE of an APLL, read through HOLD (R211). -/
def State.apllState (s : State) (k : Nat) : Nat :=
  if s.rd (Reg.APLL_STATUS_STATE k) = 6 then (s.apll k).stateWas else s.rd (Reg.APLL_STATUS_STATE k)

/-- Set the STATE of an APLL; under HOLD it shows when the hold ends (R211). -/
def setApllState (k v : Nat) (s : State) : State :=
  if s.rd (Reg.APLL_STATUS_STATE k) = 6 ∧ s.bit (Reg.APLL_STATUS_LOCK k) then s.putApll k { s.apll k with stateWas := v }
  else s.wr (Reg.APLL_STATUS_STATE k) v

/-- Is the APLL locked and settled (R212)? -/
def State.apllGood (s : State) (k : Nat) : Bool :=
  s.bit (Reg.APLL_STATUS_LOCK k) && decide (s.apllState k = 4 ∨ s.apllState k = 5)

/-- The APLL that A8 covers, if any (R209, R220). -/
def State.cover (s : State) : Option Nat := if (s.apll 8).cover < 8 then some (s.apll 8).cover else none

/-- `APLL8.SPARE_STATUS.READY`: A8 covers, runs its cover's active plan, and is locked, settled and aligned
(R209). -/
def State.spareReady (s : State) : Bool :=
  s.apllGood 8 && decide (s.bist ≠ some (3, 8)) && s.cover.any (fun k => decide ((s.apll 8).mirror = some k) &&
    decide ((s.apll 8).plan.f = (s.apll k).plan.f ∧ (s.apll 8).plan.fpd = (s.apll k).plan.fpd))

/-- Does A8 give a usable clock to the outputs of group `k` (R209, R210)? -/
def State.spareFor (s : State) (k : Nat) : Bool :=
  s.apllGood 8 && decide ((s.apll 8).mirror = some k)

/-! ### What an output carries (R212) -/

/-- The frequency of the clock that source `v` gives output `o`, by the codes of SRC_ACT, if it has one: HOME and SPARE from
the plan at w = 0, BYPASS from XO_IN, FANOUT from the nominal frequency of the slot of its REFIN pin (assumption 21). -/
def State.signalFreq (s : State) (o v : Nat) : Option (Nat × Nat) :=
  let d := s.outDiv o
  match v with
  | 0 => if d = 0 then none else some (s.ratioNow (o / 4), d * 2 ^ 40)
  | 1 => if d = 0 then none else some (s.ratioNow 8, d * 2 ^ 40)
  | 2 => some (if (s.outp o).shown = 2 then (s.clk.xoFreq, (s.outp o).bypDiv) else s.bypFreq o)
  | 3 => some (s.rd (Reg.SLOT_NOM_FREQ_HZ (s.rd (Reg.OUT_CFG_FAN_SEL o))), 1)
  | _ => none

/-- The frequency of the clock that the configured source gives (R195, R213). -/
def State.outFreq (s : State) (o : Nat) : Option (Nat × Nat) := s.signalFreq o (s.rd (Reg.OUT_CFG_SRC o))

/-- Does the output make pulses: PULSE mode with SRC = HOME or SPARE (R215)? -/
def State.pulsing (s : State) (o : Nat) : Bool :=
  s.bit (Reg.OUT_CFG_MODE o) && decide (s.rd (Reg.OUT_CFG_SRC o) < 2)

/-- `OUTn.STATUS.FREQ_ERR` (R195, R222). -/
def State.freqErr (s : State) (o : Nat) : Bool :=
  s.bit (Reg.OUT_CFG_EN o) && decide (s.outFormat o < 4) && !s.pulsing o &&
  (s.outFreq o).any (fun f => qlt (formatLimit (s.outFormat o), 1) f)

/-- `OUTn.STATUS.PULSE_ERR` (R215). -/
def State.pulseErr (s : State) (o : Nat) : Bool :=
  let w := s.rd (Reg.OUT_PULSE_W_NS o)
  s.pulsing o && decide (w < 4 ∨ max 1 (s.rd (Reg.OUT_PULSE_CFG_EVERY o)) * 10 ^ 9 < w + 4)

/-- Bit `i` of the output control word of the group of `o` (R218). -/
def State.outControl (s : State) (o i : Nat) : Bool := (tabGet 0 (0x258 + o / 4) s.out).getLsbD i

/-- Does a SQUELCH action in force name output `o` (R385, R388)? -/
def State.squelched (s : State) (o : Nat) : Bool :=
  s.anyAction 2 (fun r => maskBit r.outs o) || s.outControl o (o % 4)

/-- Does a BYPASS action in force name output `o` (R385)? -/
def State.bypassed (s : State) (o : Nat) : Bool :=
  s.anyAction 3 (fun r => maskBit r.outs o) || s.outControl o (4 + o % 4)

/-- Is output `o` in the mask `f` of the change of its group, or of the change that A8 makes after it (R201, R209)? -/
def State.inChange (s : State) (f : Change → Nat) (o : Nat) : Bool :=
  (s.apll (o / 4)).change.any (fun c => maskBit (f c) o) || (s.apll 8).change.any (fun c => maskBit (f c) o)

/-- What R212 gives output `o`, by the codes of SRC_ACT; under a parity mismatch, what it gave at detection (R405). -/
def State.outTarget (s : State) (o : Nat) : Nat :=
  let k := o / 4
  let x := s.outp o
  if x.frozen.isSome then x.frozen.getD 0 else
  if !s.bit (Reg.OUT_CFG_EN o) || decide (4 ≤ s.outFormat o) then 6
  else if s.squelched o then 5
  else if s.bypassed o then 2
  else
    let sel := if s.inChange (·.byp) o || decide (x.moved = 2) then 2
      else if s.inChange (·.keep) o && decide (x.shown = 3) then 3
      else if x.moved = 1 then 1 else s.rd (Reg.OUT_CFG_SRC o)
    if s.inChange (·.held) o || (s.inChange (·.keep) o && decide (x.shown ≠ 3)) || decide (x.moved = 3) || s.freqErr o || s.pulseErr o ||
        (decide (sel = 0) && !s.apllGood k) || (decide (sel = 1) && !s.spareFor k) then 4
    else sel

/-- `OUTn.STATUS.SRC_ACT`: what the multiplexer connects; the driver turns off at once, and outside
ACTIVE (R212, R222, R436). -/
def State.srcAct (s : State) (o : Nat) : Nat :=
  if s.rd Reg.PWR_STATUS_STATE ≠ 0 then 6
  else if (s.outp o).frozen.isNone && (!s.bit (Reg.OUT_CFG_EN o) || decide (4 ≤ s.outFormat o)) then 6 else (s.outp o).shown

/-- OUT_ERR follows FREQ_ERR and PULSE_ERR (R382). -/
def outErrs (s : State) : State := forRange 32 (fun o s => s.level 28 o (s.freqErr o || s.pulseErr o)) s

/-! ### The band cache (R198) -/

/-- The die temperature an APLL's cache goes by (R198). -/
def State.apllTemp (s : State) (k : Nat) : Int := s.rdi (Reg.DEV_TEMP_VALUE (if k < 4 then 0 else 1))

/-- Entry `i` of a cache. -/
def ApllSt.ent (x : ApllSt) (i : Nat) : CacheEnt := tabGet {} i x.cache
/-- Put entry `i` and make it the most recently used. -/
def ApllSt.useEnt (x : ApllSt) (i : Nat) (c : CacheEnt) : ApllSt :=
  { x with cache := tabSet {} i c x.cache, lru := x.lru.filter (fun j => j != i) ++ [i] }

/-- The lowest entry that is a hit for `f` (R198). -/
def State.cacheHit (s : State) (k f : Nat) : Option Nat :=
  (List.range 8).find? (fun i =>
    let c := (s.apll k).ent i
    c.valid && decide (f ≤ c.f + 5000000 * 2 ^ 40 ∧ c.f ≤ f + 5000000 * 2 ^ 40) &&
    decide ((s.apllTemp k - c.temp).natAbs ≤ 2560))

/-- The entry that a search fills, if one is free (R198). -/
def ApllSt.victim (x : ApllSt) : Option Nat :=
  match (List.range 8).find? (fun i => !(x.ent i).valid && !(x.ent i).pin) with
  | some i => some i
  | none => x.lru.find? (fun i => (x.ent i).valid && !(x.ent i).pin)

/-- CACHE_CLR (R198). -/
def doCacheClr (k : Fin 9) (s : State) : Out :=
  let x := s.apll k
  .next (s.putApll k ((List.range 8).foldl (fun x i =>
    let c := x.ent i
    if c.pin then x else { x with cache := tabSet {} i { c with valid := false } x.cache }) x))

/-! ### Acquiring lock (R197, R203) -/

/-- APLL `k` begins a full search. -/
def startSearch (k : Nat) (s : State) : State := ((s.wrb (Reg.APLL_STATUS_LOCK k) false).wr (Reg.APLL_STATUS_STATE k) 1).bump (Reg.APLL_COUNT_SEARCHES k)

/-- APLL `k` acquires its plan, by a hop where the cache holds a hit and `hop` allows one. -/
def acquire (k : Nat) (hop : Bool) (s : State) : State :=
  match (if hop then s.cacheHit k (s.apll k).plan.f else none) with
  | some i =>
    let x := s.apll k
    (((s.putApll k { x with hopEnt := i, preset := (x.ent i).preset }).wrb (Reg.APLL_STATUS_LOCK k) false).wr
      (Reg.APLL_STATUS_STATE k) 2).arm (.hop k)
  | none => startSearch k s

/-- A HOP or SEARCH begins once every output it affects is held low or on BYPASS, so that the VCO drives no pin (R203,
R205). -/
def changeBegin (k : Nat) (s : State) : State :=
  match (s.apll k).change with
  | some c =>
    let quiet := (groupOuts k).all (fun o =>
      !(maskBit c.held o || maskBit c.byp o) || decide (2 ≤ s.srcAct o) || (s.outp o).frozen.isSome)
    if !c.begun && quiet then acquire k (decide (c.cls = .hop)) (s.putApll k { s.apll k with change := some { c with begun := true } })
    else s
  | none => s

/-! ### The warm spare (R209, R210) -/

/-- A8 runs no plan. -/
def spareOff (s : State) : State :=
  ((s.putApll 8 { s.apll 8 with mirror := none, plan := {}, change := none }).wrb (Reg.APLL_STATUS_LOCK 8) false).wr
    (Reg.APLL_STATUS_STATE 8) 0

/-- A8 takes up the plan of APLL `j` (R209, R210), but not under test (R477); with no plan applied there it waits, off. -/
def spareRun (j : Nat) (s : State) : State :=
  let p := (s.apll j).plan
  if !s.bit (Reg.APLL_CFG_EN 8) || decide (s.bist = some (3, 8)) then s
  else if !(s.apll j).applied then spareOff s
  else acquire 8 true (s.putApll 8 { s.apll 8 with mirror := some j, plan := { p with divs := [4, 4, 4, 4] }, applied := true })

/-- A8 replans to its cover, or stops where it covers none (R209). -/
def spareFollow (s : State) : State :=
  match s.cover with
  | some j => spareRun j s
  | none => spareOff s

/-- A8 drives the outputs of group `j` (R207, R210). -/
def spareServe (j : Nat) (s : State) : State := (s.wr (Reg.APLL_SPARE_STATUS_SERVING 8) j).level 26 j true

/-- Bring the cover in force up to the register, unless a parity mismatch freezes it, and follow it (R210, R405). -/
def coverNow (s : State) : State :=
  if s.parityIn 0x24800 0x100 then spareFollow s
  else spareFollow (s.putApll 8 { s.apll 8 with cover := s.rd (Reg.APLL_COVER_APLL 8) })

/-- Has A8 a rescue in hand: it runs the plan of an APLL other than its cover (R210)? -/
def State.rescuing (s : State) : Option Nat :=
  match (s.apll 8).mirror with
  | some j => if s.cover = some j then none else some j
  | none => none

/-- The service of A8 ends when no output is left on it, and a rescue when its APLL has relocked before it
served; A8 then replans to its cover (R210). -/
def spareCheck (s : State) : State :=
  let v := s.rd (Reg.APLL_SPARE_STATUS_SERVING 8)
  if v < 8 then
    if (groupOuts v).any (fun o => decide ((s.outp o).moved = 1)) then s
    else
      let s := (s.wr (Reg.APLL_SPARE_STATUS_SERVING 8) 15).level 26 v false
      if s.spareReady ∧ s.rd (Reg.APLL_COVER_APLL 8) = (s.apll 8).cover then s else coverNow s
  else match s.rescuing with
    | some j => if s.apllGood j then coverNow s else s
    | none => s

/-- A8 has settled: outputs of the APLL it runs that a loss put on BYPASS move to it (R210). -/
def spareSettled (s : State) : State :=
  match (s.apll 8).mirror with
  | some j =>
    if s.bit (Reg.APLL_STATUS_LOCK j) then spareCheck s
    else
      let l := (groupOuts j).filter (fun o => decide ((s.outp o).moved = 2))
      if l.isEmpty then s
      else spareServe j (l.foldl (fun s o => s.putOutp o { s.outp o with moved := 1 }) s)
  | none => s

/-! ### APPLY (R199 to R203) -/

/-- The shadows of APLL `k`; A8's show the plan it runs (R199, R209). -/
def State.shadow (s : State) (k : Nat) : Plan :=
  if k = 8 then (s.apll 8).plan
  else { fpd := s.rd (Reg.APLL_FPD_HZ k), nint := s.rd (Reg.APLL_NINT k)
         nfrac := s.pair (Reg.APLL_NFRAC_HI_NFRAC k) (Reg.APLL_NFRAC_LO_NFRAC k)
         divs := (groupOuts k).map (fun o => s.pair (Reg.OUT_DIV_HI_DIV o) (Reg.OUT_DIV_LO_DIV o)) }

/-- The higher of the output's frequencies before and after the change to plan `p`. -/
def State.topFreq (s : State) (p : Plan) (o : Nat) : Nat × Nat :=
  let new := (p.f, p.divs.getD (o % 4) 0 * 2 ^ 40)
  let old := ((s.apll (o / 4)).plan.f, s.outDiv o * 2 ^ 40)
  if old.1 = 0 ∨ old.2 = 0 then new else qmax old new

/-- Does check `code` of R200 fail for output `o` under plan `p`? -/
def State.outCheck (s : State) (p : Plan) (code o : Nat) : Bool :=
  let d := p.divs.getD (o % 4) 0
  let byp := decide (s.rd (Reg.OUT_CFG_RELOCK o) = 2)
  let top := s.topFreq p o
  match code with
  | 3 => decide (d < 4)
  | 4 => decide (s.outFormat o < 4) && qlt (formatLimit (s.outFormat o), 1) (p.f, d * 2 ^ 40)
  | 5 => byp && qlt (100 * top.1, top.2) (98 * (s.bypFreq o).1, (s.bypFreq o).2)
  | _ =>
    let fmax := s.rd (Reg.OUT_FMAX_HZ o)
    let lim := if fmax = 0 then (102 * top.1, 100 * top.2) else (fmax, 1)
    qlt lim (10005 * top.1, 10000 * top.2) || (byp && qlt lim (s.bypFreq o))

/-- PLAN_CHECK (R200): the first failing check with its output within the group, (0, 0) where all pass. -/
def State.planCheck (s : State) (k : Nat) (p : Plan) : Nat × Nat :=
  if p.f < 10 ^ 10 * 2 ^ 40 ∨ 12800000000 * 2 ^ 40 < p.f then (1, 0)
  else if p.fpd < 10000000 ∨ 200000000 < p.fpd ∨ p.nint < 50 ∨ 1280 < p.nint then (2, 0)
  else
    let outs := if k = 8 then [] else (groupOuts k).filter (fun o =>
      s.bit (Reg.OUT_CFG_EN o) && decide (s.rd (Reg.OUT_CFG_SRC o) = 0) && !s.bit (Reg.OUT_CFG_MODE o))
    match [3, 4, 5, 6].findSome? (fun c => (outs.find? (s.outCheck p c)).map (fun o => (c, o % 4))) with
    | some r => r
    | none => if k = 8 then (8, 0) else (0, 0)

/-- Is plan `p` within 250 ppm of the active one, in reach of the band in use (R201)? -/
def State.ramps (s : State) (k : Nat) (p : Plan) : Bool :=
  let o := (s.apll k).plan
  decide (p.fpd = o.fpd ∧ p.divs = o.divs) &&
  decide (1000000 * ((p.f : Int) - o.f).natAbs ≤ 250 * o.f) && s.bit (Reg.APLL_STATUS_LOCK k) &&
  inBand (s.rd (Reg.APLL_STATUS_BAND k)) p.f && Config.bandCovers (s.rd (Reg.APLL_STATUS_BAND k)) p.f

/-- The class of a change to plan `p` (R201). -/
def State.planClass (s : State) (k : Nat) (p : Plan) (full : Bool) : PlanClass :=
  let x := s.apll k
  if full || !x.applied then .search
  else if p.f = x.plan.f ∧ p.fpd = x.plan.fpd then (if p.divs = x.plan.divs then .none else .div)
  else if s.ramps k p then .ramp
  else if (s.cacheHit k p.f).isSome then .hop
  else .search

/-- The codes of LAST_CLASS (R220). -/
def PlanClass.code : PlanClass → Nat
  | .none => 0 | .div => 1 | .ramp => 2 | .hop => 3 | .search => 4

/-- Does output `o` take part in the changes of its group: SRC = HOME, or SRC = SPARE while A8 covers the
group (R201, R209)? -/
def State.takesPart (s : State) (o : Nat) : Bool :=
  decide (s.rd (Reg.OUT_CFG_SRC o) = 0) ||
  (decide (s.rd (Reg.OUT_CFG_SRC o) = 1) && decide ((s.apll 8).mirror = some (o / 4)))

/-- What a change of class `c` does to output `o`: 0 nothing, 1 held low, 2 BYPASS (R201). -/
def State.changeOf (s : State) (c : PlanClass) (dChanged : Bool) (o : Nat) : Nat :=
  if c = .none ∨ !s.takesPart o then 0
  else if s.bit (Reg.OUT_CFG_MODE o) then 1
  else if c = .div ∧ !dChanged then 0
  else if c = .ramp ∧ s.rd (Reg.OUT_CFG_RELOCK o) = 0 then 0
  else if s.rd (Reg.OUT_CFG_RELOCK o) = 2 then 2
  else 1

/-- The mask of the outputs of group `k` to which a change of class `c` does `v`. -/
def State.changeMask (s : State) (k : Nat) (c : PlanClass) (p : Plan) (v : Nat) : Nat :=
  (groupOuts k).foldl (fun m o =>
    if s.changeOf c (decide (p.divs.getD (o % 4) 0 ≠ s.outDiv o)) o = v then maskSet m o else m) 0

/-- The outputs of group `k` with SRC = HOME on A8, which the repair map dedicates to APLL `k` (R481). -/
def mapOutputs (k : Nat) (s : State) : State :=
  (groupOuts k).foldl (fun s o =>
    if s.rd (Reg.OUT_CFG_SRC o) = 0 then s.putOutp o { s.outp o with moved := 1 } else s) s

/-- An APPLY of APLL `k` that the repair map replaces (R481): A8 takes its plan `p` and drives its HOME outputs. -/
def mapApply (k : Nat) (p : Plan) (full : Bool) (s : State) : State :=
  let s := s.wr (Reg.APLL_STATUS_LAST_CLASS k) (s.planClass 8 { p with divs := [4, 4, 4, 4] } full).code
  outErrs (spareServe k (spareRun k (mapOutputs k (s.putApll k { s.apll k with plan := p, applied := true }))))

/-- APPLY takes plan `p` of APLL `k`: it runs until the change of class `c` has ended (R200, R203), `held` and `byp` being the
outputs that are held low or on BYPASS meanwhile. -/
def takePlan (k : Nat) (p : Plan) (c : PlanClass) (held byp : Nat) (full settling begun : Bool) (s : State) : State :=
  let x := s.apll k
  (((s.putApll k { x with
      plan := p, applied := true, ramp := if c = .ramp then some (x.plan.f, s.up) else none
      change := some { cls := c, held := held, byp := byp, settling := settling, begun := begun } }).wr
    (Reg.APLL_CMD_APPLY k) 1).wrb (Reg.APLL_CMD_FULL k) full).arm (.relock k)

/-- APPLY and APPLY_FULL (R199 to R203): ignored while a change is in progress, cleared on an APLL with
EN = 0 and on a refusal. -/
def applyPlan (k : Nat) (full : Bool) (s : State) : State :=
  let dedicated := decide (s.mapApll = some k)
  if s.bit (Reg.APLL_CMD_APPLY k) || !(dedicated || s.bit (Reg.APLL_CFG_EN k)) then s
  else
    let p := s.shadow k
    let e := if s.parityIn (0x24000 + 0x100 * k) 0x100 then (7, 0) else s.planCheck k p
    let s := (s.wr (Reg.APLL_STATUS_APPLY_ERR k) e.1).wr (Reg.APLL_STATUS_ERR_OUT k) e.2
    if e.1 ≠ 0 then s
    else if dedicated then mapApply k p full s
    else
      let c := s.planClass k p full
      let held := s.changeMask k c p 1
      let byp := s.changeMask k c p 2
      let s := s.wr (Reg.APLL_STATUS_LAST_CLASS k) c.code
      let put := takePlan k p c held byp full
      outErrs (match c with
        | .none => s
        | .div => (put true true s).arm (.settle k)
        | .ramp => setApllState k 5 (put false true s)
        | .hop => changeBegin k (put false false s)
        | .search => changeBegin k (put false false s))

/-- APPLY (R199). -/
def doApply (k : Fin 9) (s : State) : Out := .next (applyPlan k false s)
/-- APPLY_FULL (R201). -/
def doApplyFull (k : Fin 9) (s : State) : Out := .next (applyPlan k true s)

/-- RAMP_COMPLETE (R202): the ratio has reached the new plan's, and SETTLE is left before the outputs reconnect. -/
def execRampComplete (k : Fin 9) (s : State) : Out :=
  .next (if s.apllState k = 5 ∧ s.ratioNow k = (s.apll k).plan.f then
    let x := s.apll k
    (setApllState k 4 (s.putApll k { x with
      ramp := none, change := x.change.map (fun c => { c with settling := true }), aligned := false })).arm (.settle k)
  else s)

/-- APLL_LOCK (R196, R198, R203, R207): a hop or a search locks, in `band` for a search, one that reaches the VCO frequency;
the tuning preset it finds is free (assumption 3). A search does not go on while TB_ON_XO = 1 (R206). -/
def execApllLock (k : Fin 9) (band : Fin 48) (s : State) : Out :=
  let x := s.apll k
  let st := s.rd (Reg.APLL_STATUS_STATE k)
  if st = 2 then
    let c := { x.ent x.hopEnt with temp := s.apllTemp k }
    .next ((((((s.putApll k (x.useEnt x.hopEnt c)).wr (Reg.APLL_STATUS_BAND k) c.band).wr
      (Reg.APLL_STATUS_LOCK k) 1).wr (Reg.APLL_STATUS_STATE k) 3).level 25 k false).arm (.settle k))
  else if st = 1 ∧ !s.bit Reg.DEV_CLK_STATUS_TB_ON_XO ∧ inBand band x.plan.f then
    let f := s.takeFree
    let s := f.2
    let x := { x with preset := f.1 }
    let s := match x.victim with
      | some i =>
        let c := { x.ent i with valid := true, f := x.plan.f, band := band, preset := f.1, temp := s.apllTemp k }
        s.putApll k (x.useEnt i c)
      | none => s.putApll k x
    .next (((((s.wr (Reg.APLL_STATUS_BAND k) band).wr (Reg.APLL_STATUS_LOCK k) 1).wr
      (Reg.APLL_STATUS_STATE k) 3).level 25 k false).arm (.settle k))
  else .next s

/-- HOP_TIMEOUT (R198): a hop has not locked after 30 µs; its entry is invalidated and a full search follows. -/
def execHopTimeout (k : Fin 9) (s : State) : Out :=
  let x := s.apll k
  .next (if s.rd (Reg.APLL_STATUS_STATE k) = 2 ∧ s.ran (.hop k) 30000 then
    startSearch k (s.putApll k { x with cache := tabSet {} x.hopEnt { x.ent x.hopEnt with valid := false } x.cache })
  else s)

/-- SEARCH_FAIL (R197, R200, R206): no band locked, the search not pausing; APPLY clears, and the APLL retries (R208). -/
def execSearchFail (k : Fin 9) (s : State) : Out :=
  .next (if s.rd (Reg.APLL_STATUS_STATE k) = 1 ∧ !s.bit Reg.DEV_CLK_STATUS_TB_ON_XO then
    (s.wrs [(Reg.APLL_STATUS_STATE k, 7), (Reg.APLL_STATUS_APPLY_ERR k, 9), (Reg.APLL_CMD_APPLY k, 0), (Reg.APLL_CMD_FULL k, 0)]).arm
      (.retry k)
  else s)

/-- Outputs of group `k` that a loss moved return to HOME under AUTO_RETURN (R208). -/
def autoReturn (k : Nat) (s : State) : State :=
  (groupOuts k).foldl (fun s o =>
    if s.bit (Reg.OUT_CFG_AUTO_RETURN o) then s.putOutp o { s.outp o with moved := 0 } else s) s

/-- The outputs of a mask of group `k` with SRC = SPARE. -/
def State.onSpare (s : State) (k mask : Nat) : Nat :=
  (groupOuts k).foldl (fun m o => if maskBit mask o && decide (s.rd (Reg.OUT_CFG_SRC o) = 1) then maskSet m o else m) 0

/-- A8 follows the change `c` of the APLL it covers; the outputs with SRC = SPARE that `c` holds or bypasses reconnect with
A8 (R209). -/
def spareChange (k : Nat) (c : Change) (s : State) : State :=
  let s := spareFollow s
  if (s.apll 8).mirror = some k then
    let c := { c with held := s.onSpare k c.held, byp := s.onSpare k c.byp, keep := 0, settling := false }
    s.putApll 8 { s.apll 8 with change := some c }
  else s

/-- The whole µs since the APPLY or the loss of APLL `k`, as RELOCK_TIME's 24 bits hold them, saturating (R203,
R220). -/
def State.relockTime (s : State) (k : Nat) : Nat := min (s.age (.relock k) / 500) (2 ^ 24 - 1)

/-- APLL_SETTLE_END (R203, R206, R208, R209): SETTLE µs have passed since the lock, the end of the ramp or the change of
dividers; the dividers restart aligned, the outputs reconnect, APPLY clears, and A8 follows the APLL it covers. -/
def execApllSettleEnd (k : Fin 9) (_ : Unit) (s : State) : Out :=
  if !s.ran (.settle k) (1000 * s.rd (Reg.APLL_CFG_SETTLE (s.apllOf k))) then .next s else
  let x := s.apll k
  let locking := decide (s.apllState k = 3)
  if x.change.any (fun c => !c.begun) then .next (if locking then setApllState k 4 s else s)
  else if !locking && !x.change.any (fun c => c.settling) then .next s
  else
    let ramp := x.change.any (fun c => decide (c.cls = .ramp))
    let s := if locking then setApllState k 4 s else s
    let restart := locking || !ramp
    let s := s.putApll k { s.apll k with
      change := none, aligned := x.aligned || restart, lag := if restart then 0 else (s.apll k).lag }
    let s := s.wrs [(Reg.APLL_RELOCK_TIME_US k, s.relockTime k), (Reg.APLL_CMD_APPLY k, 0), (Reg.APLL_CMD_FULL k, 0)]
    .next (if k.val = 8 then spareSettled s
      else
        let s := if s.apllGood k then spareCheck (autoReturn k s) else s
        match x.change with
        | some c =>
          if c.cls ≠ .div ∧ s.cover = some k.val ∧ s.rd (Reg.APLL_SPARE_STATUS_SERVING 8) = 15 then spareChange k c s else s
        | none => s)

/-- Every output of group `k` with SRC = HOME moves: to A8 where `spare`, else to BYPASS; in PULSE mode it is
held low (R207). An output that a change holds or bypasses stays so (R206). -/
def moveOutputs (k : Nat) (spare : Bool) (s : State) : State :=
  (groupOuts k).foldl (fun s o =>
    if s.rd (Reg.OUT_CFG_SRC o) ≠ 0 || s.inChange (·.held) o || s.inChange (·.byp) o then s
    else s.putOutp o { s.outp o with moved := if s.bit (Reg.OUT_CFG_MODE o) then 3 else if spare then 1 else 2 }) s

/-- APLL `k` declares loss of lock (R207, R210), unless it holds its loop (R211) or is not locked; a test of A8 that
covers it ends (R477). A change in progress ends at the relock (R203, R206). -/
def apllLose (k : Nat) (s : State) : State :=
  if !s.bit (Reg.APLL_STATUS_LOCK k) || decide (s.rd (Reg.APLL_STATUS_STATE k) = 6) then s
  else
    let spare := decide (s.cover = some k) && s.spareReady && decide (s.rd (Reg.APLL_SPARE_STATUS_SERVING 8) = 15)
    let s := s.wrs [(Reg.APLL_STATUS_LOCK k, 0), (Reg.APLL_STATUS_STATE k, 7), (Reg.APLL_CMD_APPLY k, 0), (Reg.APLL_CMD_FULL k, 0)]
    let s := s.putApll k { s.apll k with
      ramp := none, lag := 0, change := (s.apll k).change.map (fun c => { c with settling := false, begun := true }) }
    let s := (((s.bump (Reg.APLL_COUNT_UNLOCKS k)).level 25 k true).arm (.retry k)).arm (.relock k)
    let test := decide (s.bist = some (3, 8) ∧ s.cover = some k)
    let s := if test then bistEnd 4 0 s else s
    if k = 8 then
      let v := s.rd (Reg.APLL_SPARE_STATUS_SERVING 8)
      if v < 8 then
        let s := (groupOuts v).foldl (fun s o =>
          if (s.outp o).moved = 1 then s.putOutp o { s.outp o with moved := 2 } else s) s
        (s.wr (Reg.APLL_SPARE_STATUS_SERVING 8) 15).level 26 v false
      else s
    else
      let s := moveOutputs k spare s
      if spare then spareServe k s
      else if test then spareFollow s
      else if s.bit (Reg.APLL_COVER_RESCUE 8) ∧ s.bist ≠ some (3, 8) ∧ s.cover ≠ some k ∧ s.rescuing = none ∧
          s.rd (Reg.APLL_SPARE_STATUS_SERVING 8) = 15 then spareRun k s
      else s

/-- APLL_UNLOCK (R207). -/
def execApllUnlock (k : Fin 9) (s : State) : Out := .next (apllLose k s)

/-- APLL_RETRY (R208): 10 ms after the loss or the failed search, a lost APLL tries again with its last active plan, by a hop where the cache has a hit. -/
def execApllRetry (k : Fin 9) (s : State) : Out :=
  .next (if s.rd (Reg.APLL_STATUS_STATE k) = 7 ∧ maskBit (s.rd Reg.PWR_RAIL_STATUS_GOOD) 4 ∧ s.ran (.retry k) 10000000 then acquire k true s else s)

/-- APLL_ENABLE (R201, R209, R220): 0 stops the APLL; 1 powers it, and A8 takes up its cover. -/
def doApllEnable (k : Fin 9) (on : Bool) (s : State) : Out :=
  let was := s.bit (Reg.APLL_CFG_EN k)
  let on := on && decide (s.mapApll ≠ some k.val)
  let s := s.wrb (Reg.APLL_CFG_EN k) on
  if on = was then .next s
  else if on then .next (if k.val = 8 then coverNow s else s)
  else
    let s := s.putApll k { s.apll k with applied := false, change := none, mirror := none, ramp := none, lag := 0, hold := none }
    let s := s.wrs [(Reg.APLL_STATUS_LOCK k, 0), (Reg.APLL_STATUS_STATE k, 0), (Reg.APLL_CMD_APPLY k, 0), (Reg.APLL_CMD_FULL k, 0)]
    .next (spareCheck ((if k.val = 8 then [] else groupOuts k).foldl (fun s o => s.putOutp o { s.outp o with moved := 0 }) s))

/-- APLL8_COVER_WRITE (R209, R210, R481): ignored under an APLL record of the repair map; the cover applies at once, or when the service or rescue in hand ends. -/
def doApll8CoverWrite (data : BitVec 32) (s : State) : Out :=
  let s := if s.mapApll.isSome then s
    else (s.wr (Reg.APLL_COVER_APLL 8) data.toNat).wr (Reg.APLL_COVER_RESCUE 8) (data.toNat / 16)
  .next (if s.rd (Reg.APLL_SPARE_STATUS_SERVING 8) = 15 ∧ s.rescuing = none then coverNow s else s)

/-- TUNE_EDGE_DETECT (R196). -/
def execTuneEdgeDetect (k : Fin 9) (near : Bool) (s : State) : Out :=
  .next ((s.wrb (Reg.APLL_STATUS_TUNE_EDGE k) near).level 27 k near)

/-! ### The time base of the APLLs (R211) -/

/-- The sum of the words in force over the last `left` steps before step `t`, `w` being the last of them. -/
def wordSum (t left : Nat) (w : Int) : List (Nat × Int) → Int
  | [] => w * left
  | (e, v) :: l => let d := min left (t - e); w * d + wordSum e (left - d) v l

/-- The mean DCO word of path `p` over the last 1 ms (R211). -/
def State.meanWord (s : State) (p : Nat) : Int := roundDiv (wordSum s.up 500000 (s.dco p) (s.path p).past) 500000

/-- TIME has moved to XO_IN: each locked APLL holds its loop at the mean correction of its last 1 ms. -/
def apllsHold (s : State) : State :=
  forRange 9 (fun k s =>
    let st := s.rd (Reg.APLL_STATUS_STATE k)
    if s.bit (Reg.APLL_STATUS_LOCK k) ∧ st ≠ 6 then
      let p := s.apllOf k
      (s.putApll k { s.apll k with stateWas := st, hold := some (s.tb, (s.path p).ramp, s.meanWord p) }).wr
        (Reg.APLL_STATUS_STATE k) 6
    else s) s

/-- What APLL `k` has to follow after a hold from `h`, in 2^-64 ns: the time its VCO counted less what the ramp did, and a
drift of at most 1 ppm, which is free (R211, assumption 3). -/
def State.heldLag (s : State) (k : Nat) (h : Int × Int × Int) (free : Nat) : Int :=
  let dt := s.tb - h.1
  let most := (dt * 2 ^ 54 / 10 ^ 6).toNat
  roundDiv (dt * incOf h.2.2) 2048 - ((s.path (s.apllOf k)).ramp - h.2.1) + ((free % (2 * most + 1) : Nat) : Int) - most

/-- TIME has returned to the TBPLL: each holding APLL rejoins its ramp, at its SLEW limit (R194, R211). -/
def apllsRejoin (s : State) : State :=
  forRange 9 (fun k s =>
    if s.rd (Reg.APLL_STATUS_STATE k) = 6 then
      let x := s.apll k
      let f := s.takeFree
      (f.2.putApll k { x with hold := none, lag := x.lag + (x.hold.map (fun h => s.heldLag k h f.1)).getD 0 }).wr
        (Reg.APLL_STATUS_STATE k) x.stateWas
    else s) s

end Sys2Proof.Machine
end

