-- ==== Sys2Proof/Machine/Clock.lean ====
section
/-! DEFINITION. Starting, losing and regaining the clocks, and the temperature inputs (R19 to R35, R211,
R382). -/
namespace Sys2Proof.Machine

/-- Both PLLs off, TIME stopped (R28). DESIGN CHOICE (assumption 49): where the TBPLL had locked and was lost again
before its START failed, TB_ON_XO, the bell's and the timescales' ON_XO and the cause of TBPLL_UNLOCK stay as they
were. -/
def pllsOff (s : State) : State :=
  { s.wrs [(Reg.DEV_CLK_STATUS_TBPLL_LOCK, 0), (Reg.DEV_CLK_STATUS_SYSPLL_LOCK, 0), (Reg.DEV_CLK_CMD_START, 0)] with
    clk := { s.clk with tb := .off, sys := .off, time := .stopped } }

/-- `DEV.CLK_STATUS.CFG_ERR` (R32). -/
def State.clkCfgErr (s : State) : Bool :=
  decide (s.rd Reg.DEV_CLK_CFG_XO_FREQ < 10000000 ∨ 160000000 < s.rd Reg.DEV_CLK_CFG_XO_FREQ)

/-- The 24-bit fraction of N = 2,000,000,000 / XO_FREQ (R25); the spec states no rounding of it (assumption 4). -/
def ratioFrac (f : Nat) : Nat := (roundDiv ((2000000000 % f * 2 ^ 24 : Nat) : Int) f).toNat % 2 ^ 24

/-- DEV_CLK_START (R25 to R28, R30): ignored on CFG_ERR or while a PLL runs; otherwise XO_FREQ is read, N is
computed, XO detection is armed and the TBPLL starts. -/
def doDevClkStart (s : State) : Out :=
  if s.clkCfgErr ∨ s.clk.tb ≠ .off ∨ s.clk.sys ≠ .off then .next s
  else
    let f := s.rd Reg.DEV_CLK_CFG_XO_FREQ
    .next (({ s.wrs [(Reg.DEV_CLK_CMD_START, 1), (Reg.DEV_CLK_STATUS_START_FAIL, 0),
                   (Reg.DEV_CLK_STATUS_TBPLL_NINT, 2000000000 / f)] with
      clk := { s.clk with tb := .acquiring, xoArmed := true, xoWait := !s.bit Reg.DEV_CLK_STATUS_XO_ACTIVE, xoFreq := f
                          nfrac := ratioFrac f } } : State).arm .start)

/-- Is a START in progress? -/
def State.starting (s : State) : Bool := s.bit Reg.DEV_CLK_CMD_START

/-- XO_START_TIMEOUT (R28): no XO_IN edge has come within 50 µs of START, both PLLs stay off and XO_LOSS is raised. -/
def execXoStartTimeout (s : State) : Out :=
  .next (if s.starting ∧ s.clk.xoWait ∧ s.ran .start 50000 then
    (pllsOff { s with clk := { s.clk with xoWait := false } }).level 0 noInst true
  else s)

/-- XO_IN edges are present: the loss ends (R29, R32). -/
def xoPresent (s : State) : State :=
  ({ s.wr Reg.DEV_CLK_STATUS_XO_ACTIVE 1 with clk := { s.clk with xoWait := false } } : State).level 0 noInst false

/-- TBPLL_LOCK (R28, R489): TIME and TDC run on the TBPLL and the system PLL starts; the timescale commands written
before START are applied. -/
def execTbpllLock (s : State) : Out :=
  if s.starting ∧ s.clk.tb = .acquiring then
    .next (tsFirstTick (xoPresent { s.wr Reg.DEV_CLK_STATUS_TBPLL_LOCK 1 with
      clk := { s.clk with tb := .locked, sys := .acquiring, time := .tb } }))
  else .next s

/-- SYSPLL_LOCK (R28): the islands leave their rings and START clears. -/
def execSyspllLock (s : State) : Out :=
  if s.starting ∧ s.clk.sys = .acquiring then
    .next { s.wrs [(Reg.DEV_CLK_STATUS_SYSPLL_LOCK, 1), (Reg.DEV_CLK_CMD_START, 0)] with
      clk := { s.clk with sys := .locked } }
  else .next s

/-- START_FAIL_TIMEOUT (R28): XO_IN has shown edges, but a PLL has not locked 5.0 ms after START; both turn off and START_FAIL
sets. -/
def execStartFailTimeout (s : State) : Out :=
  .next (if s.starting ∧ s.ran .start 5000000 then
    let s := if s.clk.xoWait then xoPresent s else s
    (pllsOff s).wr Reg.DEV_CLK_STATUS_START_FAIL 1
  else s)

/-- The engines' islands have run on their rings in this bell (R93). -/
def markRing (s : State) : State :=
  forRange 17 (fun e s => s.putEngine e { s.engine e with ring := true }) s

/-- SYSPLL_LOSS (R29): its islands move to their rings and SERVO_HOLD sets. -/
def execSyspllLoss (s : State) : Out :=
  if s.clk.sys = .locked then
    .next (markRing (({ s.wrs [(Reg.DEV_CLK_STATUS_SYSPLL_LOCK, 0), (Reg.DEV_CLK_STATUS_SERVO_HOLD, 1)] with
      clk := { s.clk with sys := .lost } } : State).level 2 noInst true))
  else .next s

/-- SYSPLL_RELOCK (R29): the islands switch back; SERVO_HOLD stays for 1 ms. -/
def execSyspllRelock (s : State) : Out :=
  if s.clk.sys = .lost then
    .next (({ s.wr Reg.DEV_CLK_STATUS_SYSPLL_LOCK 1 with clk := { s.clk with sys := .locked } } : State).arm .servo)
  else .next s

/-- SERVO_HOLD_END (R29): 1 ms after the relock, DCO commits resume. -/
def execServoHoldEnd (s : State) : Out :=
  .next (if s.clk.sys = .locked ∧ s.ran .servo 1000000 then (s.wr Reg.DEV_CLK_STATUS_SERVO_HOLD 0).level 2 noInst false else s)

/-- The ticks of the bell in progress that are left, on XO_IN where `xo` (R83, R84). -/
def State.bellLeft (s : State) (xo : Bool) : Nat := (s.bell.left.getD (s.bellTicks xo)) - s.bell.since

/-- At a clock switch the bell in progress keeps its nominal end, and ends at the first tick at or after it (R84). -/
def bellSwitch (onXo : Bool) (s : State) : State :=
  let r := s.bellLeft (!onXo)
  let f := max 1 s.clk.xoFreq
  let left := if onXo then (r * 2 * f + 10 ^ 9 - 1) / 10 ^ 9 else (r * 10 ^ 9 + 2 * f - 1) / (2 * f)
  { s with bell := { s.bell with since := 0, left := some left } }

/-- TIME's clock switches: the ON_XO flags of the bells and the timescales follow (R29, R226), and the slewers begin new
segments (R177). -/
def setOnXo (b : Bool) (s : State) : State :=
  let s := forRange 8 newSegment (bellSwitch b s)
  forRange 4 (fun n s => s.wrb (Reg.TS_STATUS_ON_XO n) b) (s.wrb Reg.DEV_BELL_STATUS_ON_XO b)

/-- TBPLL_LOSS (R29, R211, R272): TIME and TDC move to XO_IN, each locked APLL holds its loop, and open gates carry COARSE. -/
def execTbpllLoss (s : State) : Out :=
  if s.clk.tb = .locked then
    let t : TimeSrc := if s.bit Reg.DEV_CLK_STATUS_XO_ACTIVE then .xo else .waiting
    .next (apllsHold (setOnXo true (({ (grpsCoarse s).wrs [(Reg.DEV_CLK_STATUS_TBPLL_LOCK, 0), (Reg.DEV_CLK_STATUS_TB_ON_XO, 1)] with
      clk := { s.clk with tb := .lost, time := t }, tbRem := 0 } : State).level 1 noInst true)))
  else .next s

/-- TBPLL_RELOCK (R29, R211): TIME switches back without a step, and the APLLs rejoin. -/
def execTbpllRelock (s : State) : Out :=
  if s.clk.tb = .lost ∧ s.bit Reg.DEV_CLK_STATUS_XO_ACTIVE then
    .next (apllsRejoin (setOnXo false (({ s.wr Reg.DEV_CLK_STATUS_TBPLL_LOCK 1 with
      clk := { s.clk with tb := .locked, time := .tb } } : State).level 1 noInst false)))
  else .next s

/-- TDC_DLL_RELOCK_AFTER_TB (R29): COARSE and TB_ON_XO clear. -/
def execTdcDllRelockAfterTb (s : State) : Out :=
  .next (if s.clk.tb = .locked then s.wr Reg.DEV_CLK_STATUS_TB_ON_XO 0 else s)

/-- XO_IN is lost (R28, R29, R431): the PLLs hold, and TIME waits where it ran on XO_IN; raised from the first START on,
before which the absence only shows as XO_ACTIVE = 0. -/
def xoGone (s : State) : State :=
  let c := s.clk
  let s : State := { s.wr Reg.DEV_CLK_STATUS_XO_ACTIVE 0 with
    clk := { c with time := if c.time = .xo then .waiting else c.time } }
  if c.xoArmed then s.level 0 noInst true else s

/-- XO_LOSS (R28, R29). -/
def execXoLoss (s : State) : Out := .next (xoGone s)

/-- XO_RETURN (R28, R29, R32): XO_IN shows edges; TIME and TDC restart at the first edge where they waited. -/
def execXoReturn (s : State) : Out :=
  let c := s.clk
  .next (xoPresent { s with clk := { c with time := if c.time = .waiting then .xo else c.time } })

/-- ISLAND_CLOCK_STOP (R21, R29): the clock of an ETH, PCIE or TWIN island stops; other islands keep theirs. -/
def execIslandClockStop (i : Fin 32) (s : State) : Out :=
  .next (if i.val = 2 ∨ (26 ≤ i.val ∧ i.val ≤ 30) then { s with clk := { s.clk with stopped := maskSet s.clk.stopped i } } else s)

/-- Sensor `i` reads `v`: TEMP_HIGH is present above FLT.TEMP.LIMIT and ends 2 °C below it (R382). -/
def tempSensor (i : Nat) (v : BitVec 16) (s : State) : State :=
  let s := s.wrs [(Reg.DEV_TEMP_VALID i, 1), (Reg.DEV_TEMP_VALUE i, v.toNat)]
  let lim := s.rdi Reg.FLT_TEMP_LIMIT
  let hot := maskBit s.clk.hot i
  let on := decide (lim < v.toInt) || (hot && decide (lim - 256 < v.toInt))
  ({ s with clk := { s.clk with hot := if on then maskSet s.clk.hot i else maskClr s.clk.hot i } }).level 4 i on

/-- TEMP_CONVERSION (R34, R35, R382): in ACTIVE and STANDBY. -/
def execTempConversion (t : TempReadings) (s : State) : Out :=
  if 2 ≤ s.rd Reg.PWR_STATUS_STATE then .next s else
  let s := tempSensor 5 t.t5 (tempSensor 4 t.t4 (tempSensor 3 t.t3 (tempSensor 2 t.t2 (tempSensor 1 t.t1 (tempSensor 0 t.t0 s)))))
  let ok := decide (1311 ≤ t.xth.toNat ∧ t.xth.toNat ≤ 64225)
  .next (((s.wr Reg.DEV_XTH_RATIO t.xth.toNat).wrb Reg.DEV_XTH_VALID ok).level 5 noInst (!ok))

end Sys2Proof.Machine
end

