-- ==== Sys2Proof/Machine/Records.lean ====
section
/-! DEFINITION. The halves and records of the journal, and the field repair map kept in it (R445 to R457, R480, R481). -/
namespace Sys2Proof.Machine

/-! ### Halves and records -/

/-- Is a supply warning in force on any rail instance (R430)? -/
def State.anyWarn (s : State) : Bool := decide (s.rd Reg.PWR_RAIL_STATUS_WARN ≠ 0)

/-- `JNL.STATUS.DEFERRING` (R454). -/
def State.deferring (s : State) : Bool := s.anyWarn || s.jnl.shutting

/-- The active half: the committed one, the later SNAP_BEGIN where both are (R456). -/
def JnlSt.active (j : JnlSt) : Option Bool :=
  match j.half0.commit, j.half1.commit with
  | false, false => none
  | true, false => some false
  | false, true => some true
  | true, true => some (decide (toSigned 32 (j.half1.start.getD 0 + 2 ^ 32 - j.half0.start.getD 0 % 2 ^ 32) > 0))

def JnlSt.half (j : JnlSt) (b : Bool) : JnlHalf := if b then j.half1 else j.half0
def JnlSt.putHalf (j : JnlSt) (b : Bool) (h : JnlHalf) : JnlSt := if b then { j with half1 := h } else { j with half0 := h }

/-- The bytes of a half, and the append point beyond which COMPACT_DUE holds (R457). -/
def halfBytes : Nat := 0x400000
def duePoint : Nat := 3145728

/-- The bytes a record with `n` payload bytes occupies (R447). -/
def recBytes (n : Nat) : Nat := (16 + n + 15) / 16 * 16

/-- The next page boundary after byte `a`. -/
def nextPage (a : Nat) : Nat := (a / 256 + 1) * 256

/-- The append point of the active half, `JNL.USED`; 0 with none. -/
def JnlSt.used (j : JnlSt) : Nat := match j.active with | some b => (j.half b).point | none => 0
/-- `JNL.STATUS.COMPACT_DUE` (R457). -/
def JnlSt.due (j : JnlSt) : Bool := decide (duePoint < j.used)
/-- `JNL.STATUS.COMPACTING` (R457). -/
def JnlSt.compacting (j : JnlSt) : Bool := decide (j.phase ≠ .none)

/-- The record in force of a TYPE and KEY (R449): the latest of the active half, if it is valid. -/
def JnlSt.inForce (j : JnlSt) (type key : Nat) : Option JnlRec :=
  match j.active with
  | none => none
  | some b => ((j.half b).recs.filter (fun r => r.live && decide (r.type = type ∧ r.key = key))).getLast?

/-- The records in force, one per TYPE and KEY, in order (R449, R457). -/
def JnlSt.snapshot (j : JnlSt) : List JnlRec :=
  match j.active with
  | none => []
  | some b => (j.half b).recs.filter (fun r => decide (j.inForce r.type r.key = some r))

/-- The status word that the controller publishes at commons 0x1F_D000 (R453). -/
def jnlPublish (s : State) : State :=
  let w := flagIf s.jnl.due (2 ^ 63) + flagIf s.jnl.active.isNone (2 ^ 62) + flagIf s.jnl.compacting (2 ^ 61) + s.jnl.used % 2 ^ 32
  { s with commons := tabSet 0 (0x1FD000 / 8) (BitVec.ofNat 64 w) s.commons }

/-- Does a record of `n` payload bytes fit behind `point`? -/
def recFits (point n : Nat) : Bool := decide (point + recBytes n ≤ halfBytes)

/-- Put a record at the append point of the active half; with no committed snapshot, half 0 first takes an empty
one (R456). -/
def jnlPut (type key : Nat) (data : List Byte) (s : State) : State :=
  let j := s.jnl
  let j := if j.active.isNone then
      { j with half0 := { start := some j.seq, commit := true, recs := [], point := 48 }, seq := j.seq + 2 }
    else j
  let b := j.active.getD false
  let h := j.half b
  let r : JnlRec := { type := type, key := key, seq := j.seq, live := true, data := data }
  { s with jnl := { j.putHalf b { h with recs := h.recs ++ [r], point := h.point + recBytes data.length } with seq := j.seq + 1 } }


/-! ### The field repair map (R480) -/

/-- `TST.REPAIR_CMD.RESULT` codes (R487). -/
def repOk : Nat := 1
def repDeferred : Nat := 2
def repFail : Nat := 3
def repBadValue : Nat := 4

/-- A REPAIR record goes to the journal: it is deferred during a supply warning (R454, R480); `fail` where its
program fails. -/
def repairSave (key : Nat) (data : List Byte) (fail : Bool) (s : State) : State :=
  if s.deferring then s.wr Reg.TST_REPAIR_CMD_RESULT repDeferred
  else if fail then (s.wr Reg.TST_REPAIR_CMD_RESULT repFail).raise 12 noInst
  else (jnlPublish (jnlPut 0x14 key data s)).wr Reg.TST_REPAIR_CMD_RESULT repOk

/-- The four roles of `TST.REPAIR_TDC`. -/
def State.repairTdc (s : State) : List Nat :=
  [s.rd Reg.TST_REPAIR_TDC_SPARE0, s.rd Reg.TST_REPAIR_TDC_SPARE1, s.rd Reg.TST_REPAIR_TDC_SPARE2, s.rd Reg.TST_REPAIR_TDC_SPARE3]

/-- Are the roles of a TDC record well formed (R480)? -/
def repairTdcOk (l : List Nat) : Bool :=
  l.all (fun r => decide (r < 48 ∨ r = 0xFF)) && decide ((l.filter (fun r => r ≠ 0xFF)).Nodup)

/-- Save the TDC record (R480): the value is checked first. -/
def saveTdc (fail : Bool) (s : State) : State :=
  let l := s.repairTdc
  if repairTdcOk l then repairSave 0 (l.map (BitVec.ofNat 8)) fail s else s.wr Reg.TST_REPAIR_CMD_RESULT repBadValue

/-- The byte of spare `k` in `TST.REPAIR_TDC`. -/
def repairField (k : Nat) : Fld :=
  if k = 0 then Reg.TST_REPAIR_TDC_SPARE0 else if k = 1 then Reg.TST_REPAIR_TDC_SPARE1
  else if k = 2 then Reg.TST_REPAIR_TDC_SPARE2 else Reg.TST_REPAIR_TDC_SPARE3

end Sys2Proof.Machine
end

