-- ==== Sys2Proof/Machine/Outputs.lean ====
section
/-! DEFINITION. The outputs: multiplexers, source, phase, pulses and drivers (R204, R206, R212 to R215,
R222). -/
namespace Sys2Proof.Machine

/-! ### The multiplexer (R204) -/

/-- 0.98 of the shorter period of the clocks of sources `a` and `b` of output `o`, in seconds (R204, R205). -/
def State.switchGap (s : State) (o a b : Nat) : Option (Nat × Nat) :=
  match s.signalFreq o a, s.signalFreq o b with
  | some x, some y => let f := qmax x y; some (98 * f.2, 100 * f.1)
  | _, _ => none

/-- The multiplexer of output `o` connects what R212 gives the output: rising edges of the new signal wait out the switch,
BYP_DIV is taken up on an entry into BYPASS (R204, R213), and a change that waited for the output begins (R203). -/
def muxSwitch (o : Nat) (s : State) : State :=
  let t := s.outTarget o
  let x := s.outp o
  changeBegin (o / 4) (s.putOutp o { x with
    shown := t, gap := s.switchGap o x.shown t, bypDiv := if t = 2 ∧ x.shown ≠ 2 then (s.bypFreq o).2 else x.bypDiv })

/-- Has the clock that output `o` carries failed: XO_IN is lost, the REFIN pin shows no edges, or the APLL has no VCO (R204)? -/
def State.clockDead (s : State) (o : Nat) : Bool :=
  match (s.outp o).shown with
  | 0 => decide (s.rd (Reg.APLL_STATUS_STATE (o / 4)) = 0)
  | 1 => decide (s.rd (Reg.APLL_STATUS_STATE 8) = 0)
  | 2 => !s.bit Reg.DEV_CLK_STATUS_XO_ACTIVE
  | 3 => !(s.slot (s.rd (Reg.OUT_CFG_FAN_SEL o))).active
  | _ => false

/-- MUX_SWITCH (R204): old and new signal are both low. -/
def execMuxSwitch (o : Fin 32) (s : State) : Out := .next (muxSwitch o s)
/-- MUX_DEAD_CLOCK_SWITCH (R204): the old signal, whose clock has failed, has shown no edge for 1 us. -/
def execMuxDeadClockSwitch (o : Fin 32) (s : State) : Out := .next (if s.clockDead o then muxSwitch o s else s)

/-- Output `o` leaves the change `c` of its group, or joins it in the state it has, where `joins` (R206). -/
def Change.move (c : Change) (o : Nat) (joins : Bool) (now : Nat) : Change :=
  let put := fun (m v : Nat) => if joins && decide (now = v) then maskSet m o else maskClr m o
  { c with byp := put c.byp 2, keep := put c.keep 3, held := if joins && decide (now ≠ 2 ∧ now ≠ 3) then maskSet c.held o else maskClr c.held o }

/-- OUT_SRC_WRITE (R206, R208, R222, R481): SRC takes the value; an output with AUTO_RETURN = 0, or whose SRC
changes, is moved no longer; during a change of its group it leaves the change, or joins it in its current state. -/
def doOutSrcWrite (o : Fin 32) (src : Fin 4) (s : State) : Out :=
  let k := o.val / 4
  let old := s.rd (Reg.OUT_CFG_SRC o)
  let now := s.srcAct o
  let s := s.wr (Reg.OUT_CFG_SRC o) src
  let x := s.outp o
  let s := if !s.bit (Reg.OUT_CFG_AUTO_RETURN o) || decide (old ≠ src.val) then s.putOutp o { x with moved := 0 } else s
  let s := if s.mapApll = some k then mapOutputs k s else s
  let s := if old = src.val then s
    else s.putApll k { s.apll k with change := (s.apll k).change.map (fun c => c.move o (s.takesPart o) now) }
  let s := if old = src.val then s
    else s.putApll 8 { s.apll 8 with change := (s.apll 8).change.map (fun c => c.move o false now) }
  .next (outErrs (spareCheck (changeBegin k s)))

/-- OUT_ENABLE (R206, R222): 0 turns the driver off at once; the FORMAT written takes effect at the enable. -/
def doOutEnable (o : Fin 32) (on : Bool) (s : State) : Out :=
  let x := s.outp o
  let s := if on && !s.bit (Reg.OUT_CFG_EN o) && x.frozen.isNone then s.putOutp o { x with format := s.rd (Reg.OUT_CFG_FORMAT o) }
    else if on || x.frozen.isSome then s else s.putOutp o { x with shown := 6 }
  .next (outErrs (changeBegin (o / 4) (s.wrb (Reg.OUT_CFG_EN o) on)))

/-! ### Phase (R214) -/

/-- The nominal period of output `o` in 2^-10 ns, as a quotient; none without a clock from HOME or SPARE. -/
def State.outPeriod (s : State) (o : Nat) : Option (Nat × Nat) :=
  let src := s.rd (Reg.OUT_CFG_SRC o)
  if src < 2 then
    ((s.signalFreq o src).filter (fun f => decide (0 < f.1))).map (fun f => (f.2 * (10 ^ 9 * 1024), f.1))
  else none

/-- How much later the edges of output `o` have yet to move to stand at PHASE modulo a period of `t` / `f` in 2^-10 ns, in
1 / `f` of that unit (R214). -/
def State.phaseRest (s : State) (o t f : Nat) : Nat :=
  ((((s.outp o).phase : Int) - (s.outp o).applied) * f % (t : Int)).toNat

/-- May the change of PHASE of output `o` be complete: cycles stretched by at most 1/8 of a period each have made it (R214)? -/
def State.phaseDone (s : State) (o : Nat) : Bool :=
  match s.outPeriod o with
  | some (t, f) =>
    let r := s.phaseRest o t f
    let cycles := (8 * r + t - 1) / t
    decide (cycles * t + r ≤ (s.up - (s.outp o).adjAt + 1) * 2048 * f)
  | none => true

/-- OUT_PHASE_COMMIT (R214, R215): the LO write commits PHASE. In PULSE mode it applies from the next second,
which is missed where its new instant has passed; a clock from HOME or SPARE, unless the new PHASE is the old one modulo its
period, is stretched until PHASE_ADJUST_DONE; a BYPASS or FANOUT output has no phase adjust. -/
def doOutPhaseCommit (o : Fin 32) (lo : BitVec 32) (s : State) : Out :=
  let s := s.wr (Reg.OUT_PHASE_LO_PHASE o) lo.toNat
  let v := s.rd (Reg.OUT_PHASE_HI_PHASE o) * 2 ^ 32 + lo.toNat
  let x := s.outp o
  if x.frozen.isSome then .next s
  else if s.pulsing o then
    let now := (s.tscale (s.rd (Reg.OUT_PULSE_CFG_TS o))).val
    let was := s.pulseIndex o now
    let s := s.putOutp o { x with phase := v, applied := v }
    .next (if was < s.pulseIndex o now then s.bump (Reg.OUT_STATUS_PULSE_MISS o) else s)
  else
    let s := s.putOutp o { x with phase := v, adjAt := s.up }
    .next (if (s.outPeriod o).any (fun p => decide (s.phaseRest o p.1 p.2 ≠ 0)) then s.wr (Reg.OUT_STATUS_PHASE_BUSY o) 1
      else (s.putOutp o { s.outp o with applied := v }).wr (Reg.OUT_STATUS_PHASE_BUSY o) 0)

/-- PHASE_ADJUST_DONE (R214). -/
def execPhaseAdjustDone (o : Fin 32) (s : State) : Out :=
  .next (if s.phaseDone o then
    (s.putOutp o { s.outp o with applied := (s.outp o).phase }).wr (Reg.OUT_STATUS_PHASE_BUSY o) 0
  else s)

/-! ### Pulses (R215, R236) -/

/-- The instant of the pulse of second `sec` of output `o`, in 2^-64 ns of its timescale (R215). -/
def State.pulseInstant (s : State) (o sec : Nat) : Nat := sec * (10 ^ 9 * 2 ^ 64) + (s.outp o).phase * 2 ^ 54 % s.pulsePeriod o

/-- Does the present tick of TIME reach that instant? -/
def State.pulseDue (s : State) (o sec : Nat) : Bool :=
  let n := s.rd (Reg.OUT_PULSE_CFG_TS o)
  let v : Int := (s.tscale n).val
  let i : Int := s.pulseInstant o sec
  s.timeClocked && decide (v ≤ i ∧ i < v + s.perTick (s.tsInc n))

/-- PULSE_INSTANT (R215): the timescale reaches the instant of second `sec`. The output pulses for PULSE_W ns where it runs
from HOME or SPARE, misses the pulse where it is held low, and never pulses one second twice. -/
def execPulseInstant (o : Fin 32) (sec : BitVec 48) (s : State) : Out :=
  let x := s.outp o
  let e := max 1 (s.rd (Reg.OUT_PULSE_CFG_EVERY o))
  if !s.pulsing o || !s.pulseDue o sec.toNat || decide (sec.toNat % e ≠ 0) || x.lastPulse.any (fun l => decide (sec.toNat ≤ l)) then
    .next s
  else if s.srcAct o < 2 then
    .next (s.putOutp o { x with lastPulse := some sec.toNat, pulseUntil := s.up + (s.rd (Reg.OUT_PULSE_W_NS o) + 1) / 2 })
  else if s.srcAct o = 4 ∨ s.srcAct o = 5 then .next (s.bump (Reg.OUT_STATUS_PULSE_MISS o))
  else .next s

/-- Does a trigger's pulse stand at output `o`: only in PULSE mode from HOME or SPARE (R236)? -/
def State.trigPulse (s : State) (o : Nat) : Bool :=
  s.bit (Reg.OUT_CFG_MODE o) && decide (s.srcAct o < 2) &&
  (List.range 32).any (fun g => (s.trig g).active && decide (s.rd (Reg.TG_CFG_ACTION g) = 0 ∧ s.rd (Reg.TG_CFG_TARGET g) = o))

/-! ### The pins (R195, R212, R213, R215, R222) -/

/-- What a pin carries: nothing, its driver off; a level; a clock of a frequency in Hz, inverted or not; a clock that has
stopped. -/
inductive PinSignal | off | level (high : Bool) | clock (hz : Nat × Nat) (inv : Bool) | stopped
deriving DecidableEq, Repr

/-- The inverse of a signal. -/
def PinSignal.inverse : PinSignal → PinSignal
  | .off => .off
  | .level b => .level (!b)
  | .clock f i => .clock f (!i)
  | .stopped => .stopped

/-- The signal of output `o` (R193, R195, R213, R215): a clock from its source, whose BYPASS stops while XO_IN is lost, or a
pulse, while its own or a trigger's stands; POL inverts either. An output held low is low whatever its POL (assumption 21). -/
def State.outSignal (s : State) (o : Nat) : PinSignal :=
  let inv := s.bit (Reg.OUT_CFG_POL o)
  let clock := fun (f : Nat × Nat) => PinSignal.clock f inv
  let vco := fun (k : Nat) =>
    if s.bit (Reg.OUT_CFG_MODE o) then PinSignal.level (Bool.xor inv (decide (s.up < (s.outp o).pulseUntil) || s.trigPulse o))
    else clock ((s.vcoFreq k).1, (s.vcoFreq k).2 * s.outDiv o)
  match s.srcAct o with
  | 0 => vco (o / 4)
  | 1 => vco 8
  | 2 => if s.bit Reg.DEV_CLK_STATUS_XO_ACTIVE then clock (s.clk.xoFreq, (s.outp o).bypDiv) else .stopped
  | 3 => clock (s.rd (Reg.SLOT_NOM_FREQ_HZ (s.rd (Reg.OUT_CFG_FAN_SEL o))), 1)
  | 6 => .off
  | _ => .level false

/-- What OUTn_P and OUTn_N carry (R195): the signal and its inverse, or under LVCMOS what CMOS_MODE says. -/
def State.outPins (s : State) (o : Nat) : PinSignal × PinSignal :=
  let x := s.outSignal o
  if x = .off then (.off, .off)
  else if s.outFormat o ≠ 3 then (x, x.inverse)
  else match s.rd (Reg.OUT_CFG_CMOS_MODE o) with
    | 0 => (x, x)
    | 1 => (x, x.inverse)
    | 2 => (x, .level false)
    | _ => (.level false, x)

/-- The reading of the DCO ramp, in 2^-64 ns, at which output `o` in the relation of R206 has its next rising edge: a whole
multiple of its nominal period, plus PHASE. What the VCO has yet to follow it is ahead of the ramp (R194). -/
def State.nextEdge (s : State) (o : Nat) : Option Int :=
  let v := (s.path (o / 4)).ramp + (s.apll (o / 4)).lag
  (s.outPeriod o).map (fun p =>
    let ph : Int := ((s.outp o).applied : Int) * 2 ^ 54
    let t : Int := p.1 * 2 ^ 54
    let i := -((-((v - ph) * p.2)) / t)
    roundDiv (i * t) p.2 + ph)

end Sys2Proof.Machine
end

