-- ==== Sys2Proof/Machine/Tdc.lean ====
section
/-! DEFINITION. The TDC array: stamps, DLLs, correction tables, spares and the crossbar (R250 to R264). -/
namespace Sys2Proof.Machine

/-! ### Channels and roles -/

/-- The state of spare `k` (R262): 0 IDLE, 1 MIRROR_IN, 2 ACTIVE, 3 MIRROR_OUT. -/
def State.spareState (s : State) (k : Nat) : Nat := s.rd (Reg.TDCG_SPARE_STATE k)
/-- The role of spare `k`. -/
def State.spareRole (s : State) (k : Nat) : Nat := s.rd (Reg.TDCG_SPARE_ROLE k)

/-- The spare that serves role `c`, if one does. -/
def State.servingSpare (s : State) (c : Nat) : Option Nat :=
  (List.range 4).find? (fun k => decide (2 ≤ s.spareState k ∧ s.spareRole k = c))

/-- The physical channel that serves role `c` (R250, R262). -/
def State.channelOf (s : State) (c : Nat) : Nat := match s.servingSpare c with | some k => 48 + k | none => c

/-- The role that channel `ch` serves, if it serves one. -/
def State.roleOf (s : State) (ch : Nat) : Option Nat :=
  if ch < 48 then (if s.channelOf ch = ch then some ch else none)
  else if 2 ≤ s.spareState (ch - 48) then some (s.spareRole (ch - 48)) else none

/-- Does channel `ch` deliver stamps: in ACTIVE (R433), locked, with a table in use, its role not about to go to a spare of the repair
map (R258, R259, R481)? -/
def State.chanOk (s : State) (ch : Nat) : Bool :=
  decide (s.rd Reg.PWR_STATUS_STATE = 0) && s.bit (Reg.TDC_CAL_STATUS_DLL_LOCK ch) && s.bit (Reg.TDC_CAL_STATUS_TABLE_VALID ch) &&
  !s.mapTdc.any (fun e => decide (e.2 = ch))

/-- The slot whose edges role `c` takes, for roles T0 to T21 (R108). -/
def slotOfRole (c : Nat) : Nat := if c < 20 then c else if c = 20 then 22 else 23

/-- Is `TDCn.CAL_STATUS.TEMP_DRIFT` 1 (R260)? -/
def State.tempDrift (s : State) (ch : Nat) : Bool :=
  decide (2560 < (s.rdi (Reg.DEV_TEMP_VALUE 2) - s.rdi (Reg.TDC_CAL_STATUS_T_CAL ch)).natAbs)

/-- TDC_FAULT of channel `ch` stands while its DLL has a declared loss or its CAL_FAIL is 1; each channel is an
instance of its own, reported under the role it serves at the assertion (R258, R382). -/
def chanFault (ch : Nat) (s : State) : State :=
  let x := s.chan ch
  if x.lost || s.bit (Reg.TDC_CAL_STATUS_CAL_FAIL ch) then
    match x.fault with
    | some _ => s
    | none =>
      let key := (s.roleOf ch).getD ch + 256 * ch
      (s.putChan ch { x with fault := some key }).level 32 key true ch
  else
    match x.fault with
    | some key => (s.putChan ch { x with fault := none }).level 32 key false
    | none => s

/-! ### Spares (R262 to R264) -/

/-- Spare `k` goes idle. -/
def spareIdle (k : Nat) (s : State) : State :=
  s.wrs [(Reg.TDCG_SPARE_STATE k, 0), (Reg.TDCG_SPARE_ROLE k, 0), (Reg.TDCG_SPARE_TAKE k, 0), (Reg.TDCG_SPARE_RELEASE k, 0)]

/-- The switch instant of a TAKE: role `c` goes to spare `k` with `d` added to its stamps (R262, R278). -/
def spareServes (k c : Nat) (d : Int) (s : State) : State :=
  let s := (s.putChan (48 + k) { s.chan (48 + k) with added := d }).wri (Reg.TDCG_MIRROR_DIFF_D k) (satInt 32 d)
  let s := s.wrs [(Reg.TDCG_SPARE_STATE k, 2), (Reg.TDCG_SPARE_TAKE k, 0), (Reg.TDC_CAL_STATUS_REPLACED c, 1)]
  s.raise 33 c

/-- The role of spare `k` returns to its own channel (R262, R264). -/
def spareReturns (k : Nat) (s : State) : State :=
  let c := s.spareRole k
  (spareIdle k (s.wr (Reg.TDC_CAL_STATUS_REPLACED c) 0)).raise 33 c

/-- The lowest-numbered idle spare with a valid table (R263); none while VDDA18 TDC is down (R431). -/
def State.idleSpare (s : State) : Option Nat :=
  (List.range 4).find? (fun k => decide (s.spareState k = 0) && s.bit (Reg.TDC_CAL_STATUS_TABLE_VALID (48 + k)) &&
    !s.mapTdc.any (fun e => decide (e.1 = k)) && maskBit (s.rd Reg.PWR_RAIL_STATUS_GOOD) 3)

/-- The input of role `c` is connected to spare `k`, whose DELAY becomes that of the route (R262). -/
def spareConnect (k c : Nat) (s : State) : State :=
  s.wrs [(Reg.TDCG_SPARE_ROLE k, c), (Reg.TDC_DELAY_VALUE (48 + k), Config.tdcRouteDelay k c)]

/-- AUTO_TAKE (R263): spare `k` takes role `c` at once, and serves it within 1 µs of the declaration; how soon is free
(assumption 3). With AUTO_MAP, the repair map keeps the take (R480). -/
def autoTake (k c : Nat) (s : State) : State :=
  let f := s.takeFree
  let s := (spareServes k c 0 (spareConnect k c f.2)).wrs [(Reg.TDCG_SPARE_AUTO_TAKEN k, 1)]
  let s := s.putChan (48 + k) { s.chan (48 + k) with since := s.up + f.1 % 501 }
  if s.bit Reg.TST_CFG_AUTO_MAP then saveTdc false (s.wr (repairField k) c) else s

/-- The channel `ch` that serves role `c` can deliver no stamps any more (R263, R264). -/
def roleLost (ch c : Nat) (s : State) : State :=
  let auto := if s.bit Reg.TDCG_XBAR_CFG_AUTO then s.idleSpare else none
  if ch < 48 then
    match auto with
    | some k => autoTake k c s
    | none => s
  else
    match auto with
    | some k => autoTake k c (spareIdle (ch - 48) s)
    | none => if s.chanOk c then spareReturns (ch - 48) s else s

/-- Channel `ch` has lost lock or failed a measurement: what R263 and R264 decide for the mirrors and the
role it concerns. -/
def chanFails (ch : Nat) (s : State) : State :=
  match (List.range 4).find? (fun k =>
      decide (s.spareState k = 1 ∨ s.spareState k = 3) && decide (s.spareRole k = ch ∨ 48 + k = ch)) with
  | some k =>
    if 48 + k = ch then
      if s.spareState k = 1 then spareIdle k s
      else s.wrs [(Reg.TDCG_SPARE_STATE k, 2), (Reg.TDCG_SPARE_RELEASE k, 0)]
    else if s.spareState k = 1 then spareServes k ch 0 s
    else s.wrs [(Reg.TDCG_SPARE_STATE k, 2), (Reg.TDCG_SPARE_RELEASE k, 0), (Reg.TDCG_SPARE_REJ k, 1)]
  | none =>
    match s.roleOf ch with
    | some c => roleLost ch c s
    | none => s

/-! ### DLLs and tables (R258 to R260) -/

/-- A table measurement of channel `ch` begins (R259). -/
def calStart (ch : Nat) (s : State) : State :=
  s.wrs [(Reg.TDC_CAL_STATUS_CAL_BUSY ch, 1), (Reg.TDC_CAL_STATUS_TABLE_VALID ch, 0)]

/-- A table measurement of channel `ch` fails: the previous table is discarded (R259). -/
def calFail (ch : Nat) (s : State) : State :=
  chanFault ch ((s.putChan ch { s.chan ch with table := [] }).wrs
    [(Reg.TDC_CAL_STATUS_CAL_BUSY ch, 0), (Reg.TDC_CAL_STATUS_TABLE_VALID ch, 0), (Reg.TDC_CAL_STATUS_CAL_FAIL ch, 1),
     (Reg.TDC_CMD_CAL ch, 0)])

/-- DLL_FIRST_LOCK (R258, R259): after START, the DLLs lock and all 52 tables are measured. -/
def execDllFirstLock (s : State) : Out :=
  .next (if s.clk.tb = .locked then
    forRange 52 (fun ch s => calStart ch (s.wr (Reg.TDC_CAL_STATUS_DLL_LOCK ch) 1)) s
  else s)

/-- DLL_UNLOCK (R258, R259, R263, R264). -/
def execDllUnlock (ch : Fin 52) (s : State) : Out :=
  if s.bit (Reg.TDC_CAL_STATUS_DLL_LOCK ch) then
    let s := s.wr (Reg.TDC_CAL_STATUS_DLL_LOCK ch) 0
    let s := chanFault ch (s.putChan ch { s.chan ch with lost := true })
    let s := if s.bit (Reg.TDC_CAL_STATUS_CAL_BUSY ch) then calFail ch s else s
    .next (chanFails ch s)
  else .next s

/-- DLL_RELOCK (R258): the channel keeps its table, and the cause of its loss ends. -/
def execDllRelock (ch : Fin 52) (s : State) : Out :=
  .next (if (s.chan ch).lost then
    chanFault ch ((s.putChan ch { s.chan ch with lost := false }).wr (Reg.TDC_CAL_STATUS_DLL_LOCK ch) 1)
  else s)

/-- May the table of channel `ch` be measured: it serves no role, or its role is stopped (R260)? -/
def State.calAllowed (s : State) (ch : Nat) : Bool :=
  if ch < 48 then decide (s.channelOf ch ≠ ch) || (decide (22 ≤ ch) && !s.bit (Reg.TDC_CFG_EN ch))
  else decide (s.spareState (ch - 48) = 0)

/-- TDC_CAL (R260). -/
def doTdcCal (ch : Fin 52) (s : State) : Out :=
  .next (if s.bit (Reg.TDC_CAL_STATUS_CAL_BUSY ch) then s.wrs [(Reg.TDC_CMD_CAL ch, 1), (Reg.TDC_CAL_STATUS_CAL_REJ ch, 0)]
    else if s.calAllowed ch then
      calStart ch (s.wrs [(Reg.TDC_CMD_CAL ch, 1), (Reg.TDC_CAL_STATUS_CAL_REJ ch, 0)])
    else s.wrs [(Reg.TDC_CMD_CAL ch, 0), (Reg.TDC_CAL_STATUS_CAL_REJ ch, 1)])

/-- CAL_ALL (R260). -/
def doCalAll (s : State) : Out :=
  .next (forRange 52 (fun ch s =>
    if s.calAllowed ch && !s.bit (Reg.TDC_CAL_STATUS_CAL_BUSY ch) then calStart ch s else s) s)

/-- H of R259. -/
def State.calHits (s : State) : Nat := 2 ^ (20 + min 6 (s.rd Reg.TDCG_CAL_CFG_HITS_LOG))

/-- The table of R259: the centre of each tap in 2^-16 ns, from the hits of the taps before it and its own. -/
def tapCentres (total : Nat) : Nat → List Nat → Nat → Tab Nat
  | _, [], _ => []
  | j, h :: t, before =>
    tabSet 0 j (roundNearest ((2 * before + h) * 32768 : Nat) (2 * total : Nat)).toNat (tapCentres total (j + 1) t (before + h))

/-- The repair map (R481): a listed spare takes its role without comparison once its table and that of the role's
channel are valid, or that channel has failed; a spare that fails its measurement is skipped. -/
def mapTakes (s : State) : State :=
  s.mapTdc.foldl (fun s e =>
    let k := e.1
    let c := e.2
    if s.bit (Reg.TDC_CAL_STATUS_CAL_FAIL (48 + k)) then
      { s with mapTdc := s.mapTdc.erase e }.wr Reg.TST_REPAIR_STATUS_MAP_SKIP (maskSet (s.rd Reg.TST_REPAIR_STATUS_MAP_SKIP) k)
    else if s.bit (Reg.TDC_CAL_STATUS_TABLE_VALID (48 + k)) ∧
        (s.bit (Reg.TDC_CAL_STATUS_TABLE_VALID c) ∨ s.bit (Reg.TDC_CAL_STATUS_CAL_FAIL c)) then
      spareServes k c 0 (spareConnect k c { s with mapTdc := s.mapTdc.erase e })
    else s) s

/-- A measurement of channel `ch` ends with its hits per tap (R259, R262, R263). -/
def calDone (ch : Nat) (hits : List Nat) (s : State) : State :=
  let h := s.calHits
  if hits.any (fun x => decide (4 * h < 512 * x)) then mapTakes (chanFails ch (calFail ch s))
  else
    let s := s.putChan ch { s.chan ch with table := tapCentres h 0 (hits.take 512) 0, added := 0 }
    mapTakes (chanFault ch (s.wrs
      [(Reg.TDC_CAL_STATUS_CAL_BUSY ch, 0), (Reg.TDC_CAL_STATUS_TABLE_VALID ch, 1), (Reg.TDC_CAL_STATUS_CAL_FAIL ch, 0),
       (Reg.TDC_CMD_CAL ch, 0), (Reg.TDC_CAL_STATUS_T_CAL ch, s.rd (Reg.DEV_TEMP_VALUE 2))]))

/-- CAL_COMPLETE (R259): the measurement of a channel under test is part of its test (R479). -/
def execCalComplete (ch : Fin 52) (hits : List Nat) (s : State) : Out :=
  .next (if !s.bit (Reg.TDC_CAL_STATUS_CAL_BUSY ch) || decide (s.bist = some (2, ch.val)) then s else calDone ch hits s)

/-- The comparison of spare `k` begins (R262). -/
def mirrorBegin (k : Nat) (s : State) : State :=
  s.putChan (48 + k) { s.chan (48 + k) with mirSum := 0, mirN := 0, mirAt := s.up }

/-- SPARE_TAKE (R262): the host names the role and sets TAKE. -/
def doSpareTake (k : Fin 4) (role : Fin 64) (s : State) : Out :=
  let refuse := fun (s : State) => s.wrs [(Reg.TDCG_SPARE_TAKE k, 0), (Reg.TDCG_SPARE_REJ k, 1)]
  if s.spareState k ≠ 0 then .next (refuse s)
  else
    let s := s.wr (Reg.TDCG_SPARE_ROLE k) role
    if !s.bit (Reg.TDC_CAL_STATUS_TABLE_VALID (48 + k)) ∨ 47 < role.val ∨
        (List.range 4).any (fun j => decide (s.spareState j ≠ 0 ∧ s.spareRole j = role.val)) then
      .next (refuse s)
    else
      let s := spareConnect k role (mirrorBegin k (s.putChan (48 + k) { s.chan (48 + k) with added := 0, since := 0 }))
      .next (s.wrs [(Reg.TDCG_SPARE_STATE k, 1), (Reg.TDCG_SPARE_TAKE k, 1), (Reg.TDCG_SPARE_REJ k, 0),
        (Reg.TDCG_SPARE_AUTO_TAKEN k, 0), (Reg.TDCG_SPARE_SHORT k, 0)])

/-- SPARE_RELEASE (R262). -/
def doSpareRelease (k : Fin 4) (s : State) : Out :=
  let c := s.spareRole k
  .next (if s.spareState k ≠ 2 ∨ !s.chanOk c ∨ s.bit (Reg.TDC_CAL_STATUS_CAL_BUSY c) then s.wr (Reg.TDCG_SPARE_REJ k) 1
    else (mirrorBegin k s).wrs
      [(Reg.TDCG_SPARE_STATE k, 3), (Reg.TDCG_SPARE_RELEASE k, 1), (Reg.TDCG_SPARE_REJ k, 0), (Reg.TDCG_SPARE_SHORT k, 0)])

/-- The mean difference that spare `k` has seen so far, in 2^-16 ns (R262). -/
def State.mirrorMean (s : State) (k : Nat) : Int :=
  let m := s.chan (48 + k)
  if m.mirN = 0 then 0 else roundDiv (m.mirSum * 64) m.mirN

/-- The comparison of spare `k` ends with the difference `d`, in 2^-16 ns: the role changes channel (R262). -/
def mirrorEnd (k : Nat) (d : Int) (short : Bool) (s : State) : State :=
  let c := s.spareRole k
  let put := fun (s : State) => s.wrb (Reg.TDCG_SPARE_SHORT k) short
  if s.spareState k = 1 then spareServes k c d (put s)
  else if s.spareState k = 3 then
    let s := (put s).wri (Reg.TDCG_MIRROR_DIFF_D k) (satInt 32 d)
    spareReturns k (s.putChan c { s.chan c with added := (s.chan c).added + d })
  else s

/-- MIRROR_SWITCH (R262): both channels have seen MIRROR_N edges. -/
def execMirrorSwitch (k : Fin 4) (_ : Unit) (s : State) : Out :=
  .next (if s.rd Reg.TDCG_XBAR_CFG_MIRROR_N ≤ (s.chan (48 + k)).mirN then mirrorEnd k (s.mirrorMean k) false s else s)

/-- 10 s in steps of 2 ns. -/
def tenSeconds : Nat := 5000000000

/-- MIRROR_TIMEOUT (R262): 10 s have passed and MIRROR_N edges have not come; fewer than 16 give no difference. -/
def execMirrorTimeout (k : Fin 4) (_ _ : Unit) (s : State) : Out :=
  let m := s.chan (48 + k)
  .next (if m.mirN < s.rd Reg.TDCG_XBAR_CFG_MIRROR_N ∧ tenSeconds ≤ s.up - m.mirAt then
    mirrorEnd k (if m.mirN < 16 then 0 else s.mirrorMean k) true s
  else s)

/-! ### Stamps (R252 to R257, R261) -/

/-- The raw time of an edge at channel `ch`, in 2^-16 ns (R252). -/
def State.rawTime (s : State) (ch : Nat) (x : EdgeIn) : Int :=
  (x.coarse * 32768 + tabGet 0 x.tap.val (s.chan ch).table : Nat)

/-- The TB time of an edge of role `c` at channel `ch`, in 2^-10 ns (R252, R261, R262). While TIME runs on XO_IN the
stamp names the XO tick that follows the edge, less half an XO period. DESIGN CHOICE (assumption 49): from TIME's switch
back to the relock of the DLLs, where R29 has the coarse counters on the TBPLL again and R261 on XO_IN, it is the
TBPLL's coarse count with fine bits 0. -/
def State.tbTime (s : State) (ch c : Nat) (x : EdgeIn) : Int :=
  let base : Int :=
    if s.bit Reg.DEV_CLK_STATUS_TB_ON_XO then
      if s.clk.time = .tb then x.coarse * 32768
      else if s.clk.xoFreq = 0 then s.tb * 64 else s.tb * 64 + roundDiv (10 ^ 9 * 65536) (2 * s.clk.xoFreq)
    else s.rawTime ch x
  roundHalfUp (base + (s.chan ch).added - (s.rdi (Reg.TDC_DELAY_VALUE ch) + s.rdi (Reg.TDC_USER_DELAY_VALUE c)) * 64) 64

/-- The full stamp of timescale `n` at TB time `t`, rounded to 2^-10 ns (R253). -/
def State.fullAt (s : State) (n : Nat) (t : Int) : Nat := (roundNearest (s.tsAt n t) (2 ^ 54)).toNat

/-- The WT of timescale `n` at TB time `t` (R253). -/
def State.wtAt (s : State) (n : Nat) (t : Int) : Nat := s.fullAt n t * 64 % 2 ^ 64

/-- Bits [31:0] of the seconds of timescale `n` at TB time `t` (R283). -/
def State.secAt (s : State) (n : Nat) (t : Int) : Nat := s.fullAt n t / (10 ^ 9 * 1024) % 2 ^ 32

/-- Does TB time `t` lie in an open capture window aimed at role `c` (R236, R256)? -/
def State.inWindow (s : State) (c : Nat) (t : Int) : Bool :=
  (List.range 32).any (fun g =>
    (s.trig g).active && decide (s.rd (Reg.TG_CFG_ACTION g) = 3 ∧ s.rd (Reg.TG_CFG_TARGET g) = c) &&
    let w := wtOf (s.tsAt (s.rd (Reg.TG_CFG_TS g)) t)
    decide (0 ≤ sdiff w (s.trig g).start ∧ sdiff w (s.trig g).stop < 0))

/-- The stamp that channel `ch` takes of an edge of role `c` (R252 to R255). -/
def State.stampOf (s : State) (ch c : Nat) (x : EdgeIn) : Stamp :=
  let t := s.tbTime ch c x
  { tb := t, wt := s.wtAt (s.rd (Reg.TDC_CFG_TS c)) t, sec := s.secAt (s.rd (Reg.TDC_CFG_TS c)) t
    flags := flagIf x.fall flagFall ||| flagIf (s.bit Reg.DEV_CLK_STATUS_TB_ON_XO) flagCoarse |||
      flagIf s.supplyFlag flagSupply ||| flagIf (s.role c).pileup flagPileup ||| flagIf x.dllWarn flagDll |||
      flagIf (decide (48 ≤ ch)) flagSpare ||| flagIf (s.inWindow c t) flagWindow ||| flagIf (s.role c).lost flagLost }

/-- The latest stamp word (R257), with NEW = 1. -/
def stampWord (st : Stamp) : Word64 :=
  BitVec.ofNat 64 (st.wt / 64 * 64 + 32 + (flagIf (hasFlag st.flags flagPileup) 16) + (flagIf (hasFlag st.flags flagCoarse) 8)
    + (flagIf (hasFlag st.flags flagSupply) 4) + (flagIf (hasFlag st.flags flagDll) 2) + flagIf (hasFlag st.flags flagFall) 1)

/-- The stamp enters the role's FIFO toward the record, or is lost to a full one (R274). -/
def fifoPush (c : Nat) (st : Stamp) (s : State) : State :=
  let r := s.role c
  if 1024 ≤ r.fifo.length then
    let s := (s.putRole c { r with lost := true, lostCount := r.lostCount + 1 }).bump (Reg.TDC_REC_LOST_COUNT c)
    if r.lost then s else s.raise 34 c
  else
    let fifo := r.fifo ++ [st]
    (s.putRole c { r with fifo := fifo, lost := false }).wr (Reg.TDC_FIFO_MAX c)
      (max (s.rd (Reg.TDC_FIFO_MAX c)) fifo.length)

end Sys2Proof.Machine
end

