-- ==== Sys2Proof/Machine/Stats.lean ====
section
/-! DEFINITION. The statistics groups: pairing, STATS, FREQ-REG and their results (R265 to R272). -/
namespace Sys2Proof.Machine

/-! ### Configuration -/

/-- The role of stop position `k` of group `m` (R277). -/
def State.stopRole (s : State) (m k : Nat) : Nat :=
  match k with
  | 0 => s.rd (Reg.M_STOPS_A_STOP0 m) | 1 => s.rd (Reg.M_STOPS_A_STOP1 m)
  | 2 => s.rd (Reg.M_STOPS_A_STOP2 m) | 3 => s.rd (Reg.M_STOPS_A_STOP3 m)
  | 4 => s.rd (Reg.M_STOPS_B_STOP4 m) | 5 => s.rd (Reg.M_STOPS_B_STOP5 m)
  | 6 => s.rd (Reg.M_STOPS_B_STOP6 m) | _ => s.rd (Reg.M_STOPS_B_STOP7 m)

/-- The enabled stop positions of group `m`. -/
def State.stopsOn (s : State) (m : Nat) : List Nat := (List.range 8).filter (maskBit (s.rd (Reg.M_CFG_STOP_EN m)))

/-- `Mn.STATUS.CFG_ERR` (R265). -/
def State.grpCfgErr (s : State) (m : Nat) : Bool :=
  let mode := s.rd (Reg.M_CFG_MODE m)
  let start := s.rd (Reg.M_CFG_START m)
  let roles := (s.stopsOn m).map (s.stopRole m)
  let len := s.rd (Reg.M_LEN_VALUE m)
  let hz := s.rd (Reg.M_FNOM_HZ m)
  roles.contains start || decide (¬ roles.Nodup) || decide (47 < start) || roles.any (fun c => decide (47 < c)) ||
  (decide (mode = 2) && decide (len < 2 ∨ 16777216 < len)) ||
  (decide (mode = 3) && decide (len < 1 ∨ 100000 < len ∨ hz < 1 ∨ 250000000 < hz)) ||
  (decide (mode = 1 ∨ mode = 2) && roles.isEmpty)

/-- Is group `m` running? -/
def State.grpRunning (s : State) (m : Nat) : Bool := s.bit (Reg.M_STATUS_RUNNING m)

/-- The first 1 ms boundary at or after TB time `t`. -/
def nextMs (t : Int) : Int := -((-t) / msUnits) * msUnits

/-- A run begins with no partial sums (R265, R270). -/
def grpBegin (m : Nat) (s : State) : State :=
  s.putGrp m { s.grp m with
    starts := [], stops := [], runs := [], finished := [], freq := { start := nextMs s.tb }, freqNext := {} }

/-- Put result word `w` of position `k`. -/
def GrpSt.putWord (g : GrpSt) (k w : Nat) (v : Word64) : GrpSt := { g with words := tabSet 0 (4 * k + w) v g.words }

/-- The largest integer whose square is at most `n`. -/
def isqrt (n : Nat) : Nat :=
  (List.range (n.log2 / 2 + 1)).reverse.foldl (fun r i => if (r + 2 ^ i) * (r + 2 ^ i) ≤ n then r + 2 ^ i else r) 0

/-- The square root of `a / b` rounded half up, `0 < b`. -/
def sqrtHalfUp (a b : Nat) : Nat := (isqrt (4 * a / b) + 1) / 2

/-- Word 3 of a result (R271). -/
def resultWord3 (seq flags : Nat) (near nodata : Bool) (excl miss : Nat) : Word64 :=
  BitVec.ofNat 64 (seq % 65536 * 2 ^ 48 + flags % 256 * 2 ^ 40 + flagIf near (2 ^ 39) + flagIf nodata (2 ^ 38)
    + min excl 65535 * 65536 + min miss 65535)

/-- The finished run `r` of position `k` becomes the group's result (R269, R271). -/
def statsResult (m k : Nat) (r : StatRun) (s : State) : State :=
  let g := s.grp m
  let n : Int := r.n
  let mean := roundHalfUp ((r.x0 * n + r.s1) * 1024) n
  let var := (n * r.s2 - r.s1 * r.s1).toNat
  let sd := min (sqrtHalfUp (var * 2 ^ 20) (r.n * (r.n - 1))) (2 ^ 32 - 1)
  let s := s.bump (Reg.M_STATUS_SEQ m)
  let g := { g with finished := g.finished.erase (k, r) }
  let g := (g.putWord k 0 (BitVec.ofInt 64 mean)).putWord k 1 (BitVec.ofNat 64 (sd * 2 ^ 32 + r.n))
  let g := g.putWord k 2 (BitVec.ofNat 64 (ofSigned 32 r.hi * 2 ^ 32 + ofSigned 32 r.lo))
  let g := g.putWord k 3 (resultWord3 (s.rd (Reg.M_STATUS_SEQ m)) r.flags r.near false r.excl r.miss)
  (s.putGrp m g).raise 99 m

/-- The runs that have reached LEN are published (R272). -/
def statsFlush (m : Nat) (s : State) : State := (s.grp m).finished.foldl (fun s p => statsResult m p.1 p.2 s) s

/-- STATS_START (R265): a run begins with the write, behind the results of runs that have reached LEN (R272). -/
def doStatsStart (m : Fin 16) (s : State) : Out :=
  .next (if s.grpCfgErr m ∨ s.parityIn (0x28A00 + 0x30 * m) 0x30 then s
    else (grpBegin m (statsFlush m s)).wr (Reg.M_STATUS_RUNNING m) 1)

/-- STATS_STOP (R265): a run that has reached LEN is published first (R272). -/
def doStatsStop (m : Fin 16) (s : State) : Out := .next ((grpBegin m (statsFlush m s)).wr (Reg.M_STATUS_RUNNING m) 0)

/-- STATS_CFG_WRITE (R265): `reg` names CFG, STOPS_A, STOPS_B, WINDOW, LEN or FNOM; while the group runs, the
partial run is discarded and restarts. -/
def doStatsCfgWrite (m : Fin 16) (reg : Fin 6) (data : BitVec 32) (s : State) : Out :=
  let v := data.toNat
  let s := match reg.val with
    | 0 => s.wrs [(Reg.M_CFG_MODE m, v / 2 ^ 30), (Reg.M_CFG_ORDER m, v / 2 ^ 29), (Reg.M_CFG_BASE m, v / 2 ^ 28),
        (Reg.M_CFG_CONT m, v / 2 ^ 27), (Reg.M_CFG_MBX_SEL m, v / 2 ^ 24), (Reg.M_CFG_DEC m, v / 2 ^ 20),
        (Reg.M_CFG_START m, v / 2 ^ 8), (Reg.M_CFG_STOP_EN m, v)]
    | 1 => s.wrs [(Reg.M_STOPS_A_STOP3 m, v / 2 ^ 24), (Reg.M_STOPS_A_STOP2 m, v / 2 ^ 16),
        (Reg.M_STOPS_A_STOP1 m, v / 2 ^ 8), (Reg.M_STOPS_A_STOP0 m, v)]
    | 2 => s.wrs [(Reg.M_STOPS_B_STOP7 m, v / 2 ^ 24), (Reg.M_STOPS_B_STOP6 m, v / 2 ^ 16),
        (Reg.M_STOPS_B_STOP5 m, v / 2 ^ 8), (Reg.M_STOPS_B_STOP4 m, v)]
    | 3 => s.wr (Reg.M_WINDOW_LSB m) v
    | 4 => s.wr (Reg.M_LEN_VALUE m) v
    | _ => s.wr (Reg.M_FNOM_HZ m) v
  .next (if s.grpRunning m then grpBegin m (statsFlush m s) else s)

/-! ### Stamps reach a group (R256, R266, R270) -/

/-- The increment by which BASE = 1 scales an interval (R267); TB time has 2.0 ns. -/
def State.grpInc (s : State) (m : Nat) : Int :=
  if s.bit (Reg.M_CFG_BASE m) then s.tsInc (s.roleTs (s.rd (Reg.M_CFG_START m))) else 2 ^ 65

/-- The most by which the stamps of two roles may be out of order, in 2^-10 ns: DELAY and USER_DELAY have 32 bits each. -/
def stampSkew : Int := 2 ^ 34

/-- A start or stop stamp of role `c` joins the group's waiting stamps; stops too old for any start are dropped (R266). -/
def grpPairStamp (m c : Nat) (st : Stamp) (s : State) : State :=
  let w : Int := s.rd (Reg.M_WINDOW_LSB m)
  let g := s.grp m
  let pos := (s.stopsOn m).filter (fun k => decide (s.stopRole m k = c))
  let oldest := (g.starts.head?.map (fun x => min x.tb st.tb)).getD st.tb
  let g : GrpSt := { g with stops := (g.stops.filter (fun p => decide (oldest - w - stampSkew ≤ p.2.tb))) ++ pos.map (fun k => (k, st)) }
  if c = s.rd (Reg.M_CFG_START m) then
    if 64 ≤ g.starts.length then (s.putGrp m g).bump (Reg.M_COUNTS_START_SKIP m)
    else s.putGrp m { g with starts := g.starts ++ [st] }
  else s.putGrp m g

/-- The length of the group's FREQ-REG gate, in 2^-10 ns (R270). -/
def State.freqLen (s : State) (m : Nat) : Int := s.rd (Reg.M_LEN_VALUE m) * msUnits

/-- A gate of the group takes a stamp (R270): every 2^DEC-th is taken and indexed; flagged ones advance the index only. -/
def State.freqTake (s : State) (m : Nat) (st : Stamp) (f : FreqRun) : FreqRun :=
  let taken := decide (f.seen % 2 ^ s.rd (Reg.M_CFG_DEC m) = 0)
  let f := { f with seen := f.seen + 1 }
  let bad := hasFlag st.flags flagCoarse || hasFlag st.flags flagSupply || hasFlag st.flags flagDll
  let use := fun (f : FreqRun) (t0 : Int) (k : Nat) =>
    let f := { f with tl := st.tb, k := k }
    if bad then { f with excl := f.excl + 1, flags := f.flags ||| (st.flags &&& flagCoarse) }
    else
      let tau := (st.tb - t0) * s.grpInc m
      { f with n := f.n + 1, sk := f.sk + k, st := f.st + tau, skk := f.skk + k * k, skt := f.skt + k * tau
               stt := f.stt + tau * tau, flags := f.flags ||| st.flags }
  if !taken then f
  else match f.t0 with
    | none => use { f with t0 := some st.tb } st.tb 0
    | some t0 =>
      let dk := (roundNearest ((st.tb - f.tl) * s.rd (Reg.M_FNOM_HZ m)) (1024 * 10 ^ 9)).toNat
      if dk = 0 then { f with disc := f.disc + 1 } else use f t0 (f.k + dk)

/-- A FREQ-REG stamp of the start role falls into the gate in progress, or into the one after it (R270). -/
def grpFreqStamp (m : Nat) (st : Stamp) (s : State) : State :=
  let g := s.grp m
  if st.tb < g.freq.start then s
  else if st.tb < g.freq.start + s.freqLen m then s.putGrp m { g with freq := s.freqTake m st g.freq }
  else s.putGrp m { g with freqNext := s.freqTake m st g.freqNext }

/-- A stamp of role `c` reaches the groups that name the role (R256). -/
def grpStamp (c : Nat) (st : Stamp) (s : State) : State :=
  forRange 16 (fun m s =>
    if !s.grpRunning m then s
    else match s.rd (Reg.M_CFG_MODE m) with
      | 1 => grpPairStamp m c st s
      | 2 => grpPairStamp m c st s
      | 3 => if c = s.rd (Reg.M_CFG_START m) then grpFreqStamp m st s else s
      | _ => s) s

/-! ### Rings of roles and groups (R281) -/

/-- Is role `c` recorded: `EVR.ROLE_MAP` assigns it a ring (R256, R282)? -/
def State.roleRing (s : State) (c : Nat) : Option Nat :=
  let i := c / 8
  let p := match c % 8 with
    | 0 => (Reg.EVR_ROLE_MAP_EN0 i, Reg.EVR_ROLE_MAP_RING0 i) | 1 => (Reg.EVR_ROLE_MAP_EN1 i, Reg.EVR_ROLE_MAP_RING1 i)
    | 2 => (Reg.EVR_ROLE_MAP_EN2 i, Reg.EVR_ROLE_MAP_RING2 i) | 3 => (Reg.EVR_ROLE_MAP_EN3 i, Reg.EVR_ROLE_MAP_RING3 i)
    | 4 => (Reg.EVR_ROLE_MAP_EN4 i, Reg.EVR_ROLE_MAP_RING4 i) | 5 => (Reg.EVR_ROLE_MAP_EN5 i, Reg.EVR_ROLE_MAP_RING5 i)
    | 6 => (Reg.EVR_ROLE_MAP_EN6 i, Reg.EVR_ROLE_MAP_RING6 i) | _ => (Reg.EVR_ROLE_MAP_EN7 i, Reg.EVR_ROLE_MAP_RING7 i)
  if s.bit p.1 then some (s.rd p.2) else none

/-- Are the interval records of group `m` recorded: `EVR.GROUP_MAP` assigns it a ring (R281)? -/
def State.groupRing (s : State) (m : Nat) : Option Nat :=
  let i := m / 8
  let p := match m % 8 with
    | 0 => (Reg.EVR_GROUP_MAP_EN0 i, Reg.EVR_GROUP_MAP_RING0 i) | 1 => (Reg.EVR_GROUP_MAP_EN1 i, Reg.EVR_GROUP_MAP_RING1 i)
    | 2 => (Reg.EVR_GROUP_MAP_EN2 i, Reg.EVR_GROUP_MAP_RING2 i) | 3 => (Reg.EVR_GROUP_MAP_EN3 i, Reg.EVR_GROUP_MAP_RING3 i)
    | 4 => (Reg.EVR_GROUP_MAP_EN4 i, Reg.EVR_GROUP_MAP_RING4 i) | 5 => (Reg.EVR_GROUP_MAP_EN5 i, Reg.EVR_GROUP_MAP_RING5 i)
    | 6 => (Reg.EVR_GROUP_MAP_EN6 i, Reg.EVR_GROUP_MAP_RING6 i) | _ => (Reg.EVR_GROUP_MAP_EN7 i, Reg.EVR_GROUP_MAP_RING7 i)
  if s.bit p.1 then some (s.rd p.2) else none

/-! ### Pairs (R266 to R269) -/

/-- The candidate for a start at `t` among stops within `w`: the nearest, and of two equally near the one at
or after `t` (R266). -/
def candidate (t w : Int) (stops : List Stamp) : Option Stamp :=
  (stops.filter (fun st => decide ((st.tb - t).natAbs ≤ w))).foldl (fun best st =>
    match best with
    | none => some st
    | some b =>
      if (st.tb - t).natAbs < (b.tb - t).natAbs ∨ ((st.tb - t).natAbs = (b.tb - t).natAbs ∧ t ≤ st.tb) then some st else some b) none

/-- A pair in STATS mode joins its position's run, which finishes at LEN pairs (R269). -/
def statsPair (m k : Nat) (x : Int) (flags : Nat) (near : Bool) (s : State) : State :=
  let g := s.grp m
  let r : StatRun := tabGet {} k g.runs
  if hasFlag flags flagCoarse || hasFlag flags flagSupply || hasFlag flags flagDll then
    s.putGrp m { g with runs := tabSet {} k { r with excl := r.excl + 1, flags := r.flags ||| (flags &&& flagCoarse) } g.runs }
  else
    let x0 := if r.n = 0 then x else r.x0
    let d := x - x0
    let r := { r with
      n := r.n + 1, x0 := x0, s1 := r.s1 + d, s2 := r.s2 + d * d
      lo := if r.n = 0 then x else min r.lo x, hi := if r.n = 0 then x else max r.hi x
      flags := r.flags ||| flags, near := r.near || near }
    if s.rd (Reg.M_LEN_VALUE m) ≤ r.n then
      s.putGrp m { g with runs := tabErase k g.runs, finished := g.finished ++ [(k, r)] }
    else s.putGrp m { g with runs := tabSet {} k r g.runs }

/-- A pair in INTERVAL mode makes a record, unless the group has made 125 million in this second of TB time;
the words show the pair, and those whose content the spec does not state are free (R268, R271, assumption 3). -/
def intervalPair (m k : Nat) (start : Stamp) (x : Int) (flags : Nat) (near : Bool) (s : State) : State :=
  let g := s.grp m
  let sec := s.tb / (10 ^ 9 * 1024)
  let made := if g.recSec = sec then g.recCount else 0
  let s := if 125000000 ≤ made then
      (s.putGrp m { g with recSec := sec, recCount := made, lostPos := maskSet g.lostPos k,
                              posLost := tabSet 0 k (tabGet 0 k g.posLost + 1) g.posLost }).bump (Reg.M_COUNTS_MISS m)
    else
      let fl := flags ||| flagIf (maskBit g.lostPos k) flagLost ||| flagIf near 256
      s.putGrp m { g with
        recSec := sec, recCount := made + 1, lostPos := maskClr g.lostPos k
        recs := if (s.groupRing m).any (fun r => (s.ring r).run) then g.recs ++ [⟨start.tb, start.wt, k, fl, x⟩] else g.recs }
  let a := s.takeFree
  let b := a.2.takeFree
  let c := b.2.takeFree
  let s := c.2
  s.putGrp m (((((s.grp m).putWord k 0 (BitVec.ofInt 64 (satInt 32 x))).putWord k 1 (BitVec.ofNat 64 a.1)).putWord k 2
    (BitVec.ofNat 64 b.1)).putWord k 3 (BitVec.ofNat 64 c.1))

/-- The group decides start `st` at stop position `k` (R266, R267). -/
def decidePair (m : Nat) (st : Stamp) (k : Nat) (s : State) : State :=
  let g := s.grp m
  let stops := (g.stops.filter (fun p => p.1 == k)).map (fun p => p.2)
  match candidate st.tb (s.rd (Reg.M_WINDOW_LSB m)) stops with
  | none =>
    let s := s.bump (Reg.M_COUNTS_MISS m)
    let r : StatRun := tabGet {} k (s.grp m).runs
    s.putGrp m { s.grp m with runs := tabSet {} k { r with miss := r.miss + 1 } (s.grp m).runs }
  | some e =>
    if e.tb < st.tb ∧ s.bit (Reg.M_CFG_ORDER m) then s.bump (Reg.M_COUNTS_ORDER_VIOL m)
    else
      let x := if s.bit (Reg.M_CFG_BASE m) then roundDiv ((e.tb - st.tb) * s.grpInc m) (2 ^ 65) else e.tb - st.tb
      let flags := st.flags ||| e.flags
      let near := decide (x.natAbs < 8)
      if s.rd (Reg.M_CFG_MODE m) = 1 then intervalPair m k st x flags near s else statsPair m k x flags near s

/-- PAIR_WINDOW_END (R266): WINDOW has passed since the oldest waiting start, and its candidates are decided. -/
def execPairWindowEnd (m : Fin 16) (s : State) : Out :=
  let g := s.grp m
  match g.starts with
  | [] => .next s
  | st :: rest =>
    if s.tb < st.tb + s.rd (Reg.M_WINDOW_LSB m) then .next s
    else
      let s := (s.stopsOn m).foldl (fun s k => decidePair m st k s) s
      .next (s.putGrp m { s.grp m with starts := rest })

/-! ### Results (R269 to R271) -/

/-- A result of group `m` has been published: the next run, or the end (R265). -/
def published (m : Nat) (s : State) : State :=
  if s.bit (Reg.M_CFG_CONT m) then s else (grpBegin m s).wr (Reg.M_STATUS_RUNNING m) 0

/-- STATS_PUBLISH (R269, R271): the oldest finished run of position `k` is published. -/
def execStatsPublish (m : Fin 16) (k : Fin 8) (s : State) : Out :=
  match (s.grp m).finished.find? (fun p => p.1 == k.val) with
  | none => .next s
  | some (_, r) => .next (published m (statsResult m k r s))

/-- The words of a FREQ-REG gate: y, resid with N, and b; `none` for NODATA (R270 to R272). -/
def freqWords (fnom : Nat) (f : FreqRun) : Option (Word64 × Word64 × Word64) :=
  let n : Int := f.n
  let den := n * f.skk - f.sk * f.sk
  let num := n * f.skt - f.sk * f.st
  if f.n < 3 ∨ den ≤ 0 ∨ num ≤ 0 then none
  else
    let y := roundDiv ((10 ^ 9 * 2 ^ 75 * den - fnom * num) * 2 ^ 56) (fnom * num)
    let b := roundDiv num (den * 2 ^ 43)
    let sse := ((n * f.stt - f.st * f.st) * den - num * num).toNat
    let q := (n * den * (n - 2)).toNat * 2 ^ 110
    let r := isqrt (sse / q)
    let resid := if r * r * q = sse then r else if Config.roundUp sse q then r + 1 else r
    some (BitVec.ofInt 64 y, BitVec.ofNat 64 (min resid (2 ^ 32 - 1) * 2 ^ 32 + min f.n (2 ^ 32 - 1)), BitVec.ofInt 64 b)

/-- FREQ_REG_GATE_END (R270, R271): the gate's end boundary has passed; the value words of a NODATA result are free
(assumption 3). -/
def execFreqRegGateEnd (m : Fin 16) (s : State) : Out :=
  let f := (s.grp m).freq
  let stop := f.start + s.freqLen m
  if !s.grpRunning m ∨ s.rd (Reg.M_CFG_MODE m) ≠ 3 ∨ s.tb < stop then .next s
  else
    let w := if f.stepped ∧ s.bit (Reg.M_CFG_BASE m) then none else freqWords (s.rd (Reg.M_FNOM_HZ m)) f
    let s := s.bump (Reg.M_STATUS_SEQ m)
    let a := s.takeFree
    let b := a.2.takeFree
    let c := b.2.takeFree
    let s := if w.isNone then c.2 else s
    let v := w.getD (BitVec.ofNat 64 a.1, BitVec.ofNat 64 (b.1 % 2 ^ 32 * 2 ^ 32 + min f.n (2 ^ 32 - 1)), BitVec.ofNat 64 c.1)
    let g := (((s.grp m).putWord 0 0 v.1).putWord 0 1 v.2.1).putWord 0 2 v.2.2
    let g := g.putWord 0 3 (resultWord3 (s.rd (Reg.M_STATUS_SEQ m)) f.flags false w.isNone f.excl f.disc)
    .next (published m ((s.putGrp m { g with freq := { g.freqNext with start := stop }, freqNext := {} }).raise 99 m))

end Sys2Proof.Machine
end

