-- ==== Sys2Proof/Machine/Slots.lean ====
section
/-! DEFINITION. The reference slots: comparators, monitors, gates, IRIG decoding and their host commands (R108
to R126, R132, R136 to R138). -/
namespace Sys2Proof.Machine

/-! ### Configuration -/

/-- Is slot `n` virtual (R125)? -/
def virtualSlot (n : Nat) : Bool := decide (n = 20 ∨ n = 21)

/-- Is the slot's receiver on (R110, R136)? -/
def State.inputOn (s : State) (n : Nat) : Bool :=
  decide (16 ≤ n ∨ ((s.rd (Reg.SLOT_CFG_INPUT n) = 1 ∨ s.rd (Reg.SLOT_CFG_INPUT n) = 2)))

/-- `SLOTn.MON.CFG_ERR` (R111). -/
def State.slotCfgErr (s : State) (n : Nat) : Bool :=
  let hz := s.rd (Reg.SLOT_NOM_FREQ_HZ n)
  let p := s.rd (Reg.SLOT_PRESCALE_DIV n)
  let single := s.bit (Reg.SLOT_CFG_PPS n) || s.bit (Reg.SLOT_CFG_IRIG n)
  s.inputOn n &&
  (decide (13 ≤ s.rd (Reg.SLOT_QUAL_BW n)) ||
   (!virtualSlot n && (decide (hz = 0 ∨ 1250000000 < hz ∨ p = 0 ∨ 125000000 * p < hz) ||
     (single && decide (hz ≠ 1 ∨ p ≠ 1)))) ||
   (s.bit (Reg.SLOT_CFG_PPS n) && s.bit (Reg.SLOT_CFG_IRIG n)) ||
   decide (n < 16 ∧ s.rd (Reg.SLOT_CFG_TERM n) = 3))

/-- Do edges of the slot reach its role (R111, R431)? A port's recovered clock does where it is not gated off (R319). -/
def State.edgesPass (s : State) (n : Nat) : Bool :=
  s.inputOn n && !s.slotCfgErr n &&
  (if n < 16 then maskBit (s.rd Reg.PWR_RAIL_STATUS_GOOD) 2 else decide (20 ≤ n) || s.bit (Reg.ETH_STATUS_RXCLK_OK (n - 16)))

/-- ACTIVE as the monitors report it (R111, R118). -/
def State.slotActive (s : State) (n : Nat) : Bool := (s.slot n).active && s.edgesPass n

/-- The factor by which a slot's phases are stored: its nominal frequency, 1 on a virtual slot. -/
def State.slotNom (s : State) (n : Nat) : Nat := if virtualSlot n then 1 else max 1 (s.rd (Reg.SLOT_NOM_FREQ_HZ n))

/-- The comparison period times the nominal frequency, in 1e-9 s (R111). -/
def State.slotPeriod (s : State) (n : Nat) : Nat := max 1 (s.rd (Reg.SLOT_PRESCALE_DIV n)) * 10 ^ 9

/-- The ramp of path `p` at TB time `t`, in 2^-64 ns (R192). -/
def State.rampAt (s : State) (p : Nat) (t : Int) : Int :=
  (s.path p).ramp + roundDiv ((t - s.tb) * incOf (s.dco p)) 2048

/-- The raw phase of an edge of slot `n` at TB time `t` (R36, R113): positive where the path is later. -/
def State.rawPhase (s : State) (n : Nat) (t : Int) : Int :=
  fold (s.slotPeriod n * 65536 : Nat)
    (-(roundDiv (s.rampAt (s.rd (Reg.SLOT_CFG_PATH n)) t * s.slotNom n) (2 ^ 48)))

/-! ### Frequency gates (R119 to R122, R125) -/

/-- One gate length, in 2^-10 ns. -/
def State.gateLen (s : State) (n : Nat) : Int := (max 1 (s.rd (Reg.SLOT_FMON_GATE n)) * 1000000 * 1024 : Nat)

/-- The end of the gate in progress; the first gate begins with TB time, or after an ISLAND reset at a 1 ms tick (R120). -/
def State.gateEnd (s : State) (n : Nat) : Int := ((s.slot n).gEnd).getD (s.gateLen n)

/-- Change the gate in which TB time `t` falls; the gate after the present one starts from the last accepted
edge, if that is usable (R120). DESIGN CHOICE (assumption 27): so does the gate of a virtual slot, from its last sample. -/
def onGate (n : Nat) (t : Int) (f : GateRec → GateRec) (s : State) : State :=
  let x := s.slot n
  if t < s.gateEnd n then s.putSlot n { x with gate := f x.gate }
  else
    let g := if x.next = ({} : GateRec) ∧ x.lastOk then { x.next with a := x.lastT.map (fun l => (l, x.phi)) } else x.next
    s.putSlot n { x with next := f g }

/-- An accepted edge joins a gate (R117, R120). -/
def GateRec.edge (g : GateRec) (usable : Bool) (t phi : Int) (m : Nat) : GateRec :=
  if !usable then { g with void := true, n := g.n + m }
  else match g.a with
    | none => { g with a := some (t, phi), b := some (t, phi), own := true }
    | some _ => { g with b := some (t, phi), n := g.n + m, own := true }

/-- The largest offset reading, in 2^-4 ppb (R120). -/
def foffMax : Int := 2 ^ 31 - 1

/-- The readings of a completed gate of slot `n`: FOFF_XO and FOFF_PATH before saturation (R120, R121, R125). -/
def State.gateReading (s : State) (n : Nat) (g : GateRec) : Option (Int × Int) :=
  match g.a, g.b with
  | some a, some b =>
    let dt := b.1 - a.1
    if g.void ∨ !g.own ∨ dt ≤ 0 then none
    else
      let nom : Int := s.slotNom n
      let path := roundNearest ((b.2 - a.2) * 16000000000) (nom * 64 * dt)
      let xo := if virtualSlot n then path + roundNearest (s.dco (s.rd (Reg.SLOT_CFG_PATH n)) * 16000000000) (2 ^ 56)
        else roundNearest ((g.n * s.slotPeriod n * 1024 - dt * nom) * 16000000000) (dt * nom)
      some (xo, path)
  | _, _ => none

/-- What a gate waits after its end boundary, in 2^-10 ns (R120). -/
def gateWait : Int := 10000 * 1024

/-- The gate in progress of slot `n` completes (R119 to R122, R125). -/
def gateEnds (n : Nat) (s : State) : State :=
  let x := s.slot n
  let lim : Int := s.rd (Reg.SLOT_FMON_FLIM n) * 64
  let s := match s.gateReading n x.gate with
    | some (xo, path) =>
      let sat := decide (foffMax < xo ∨ xo < -foffMax)
      let satP := decide (foffMax < path ∨ path < -foffMax)
      let v := clampInt (-foffMax) foffMax xo
      let s := (s.wri (Reg.SLOT_FOFF_XO_VALUE n) v).wri (Reg.SLOT_FOFF_PATH_VALUE n) (clampInt (-foffMax) foffMax path)
      let s := s.wrb (Reg.SLOT_MON_SAT n) (sat || satP)
      s.putSlot n { x with
        fvalid := true
        freqBad := sat || decide (lim < v.natAbs) || (x.freqBad && decide (7 * lim < 8 * v.natAbs)) }
    | none => s.putSlot n { x with fvalid := false }
  let s := s.bump (Reg.SLOT_CNT1_GATE_SEQ n)
  let e := s.gateEnd n
  let x := s.slot n
  s.putSlot n { x with
    dropBad := !virtualSlot n && decide (s.rd (Reg.SLOT_DROP_LIMIT n) < x.gate.tally)
    gate := if x.next = ({} : GateRec) then { a := if x.lastOk then x.lastT.map (fun l => (l, x.phi)) else none } else x.next
    next := {}
    gEnd := some (e + s.gateLen n) }

/-- GATE_COMPLETE (R120): the gate completes 10 µs after its end boundary. -/
def execGateComplete (n : Fin 24) (s : State) : Out :=
  .next (if s.gateEnd n + gateWait ≤ s.tb then gateEnds n s else s)

/-! ### Accepted edges (R113, R117, R118, R123) -/

/-- The latest accepted edges of slot `n` with one at TB time `t` (R245). -/
def State.edgesWith (s : State) (n : Nat) (t : Int) : List (Int × List Nat) :=
  ((t, (List.range 4).map (fun i => s.tsAt i t)) :: (s.slot n).edges).take 4

/-- An accepted edge or sample of slot `n` at TB time `t`, `m` periods after the one before, with raw phase `r`
and unwrapped phase `u`: activity, rebase, jump test, gate and bell mean. DESIGN CHOICE (assumption 27): the mean change
per period is the sum of the changes over the sum of their periods. -/
def acceptEdge (n : Nat) (t : Int) (flags m : Nat) (r u : Int) (s : State) : State :=
  let x := s.slot n
  let nom : Int := s.slotNom n
  let usable := !hasFlag flags flagCoarse && !hasFlag flags flagSupply
  let back := !x.active && decide (m = 1)
  let cmd := s.bit (Reg.SLOT_CMD_REBASE n) && x.active
  let rebase := back || cmd || decide (2 ^ 46 * nom < u.natAbs)
  let phi := if rebase then r else u
  let d := u - x.phi
  let sd := (x.hist.map (fun p => p.1)).sum
  let sm : Int := ((x.hist.map (fun p => p.2)).sum : Nat)
  let tested := usable && !rebase
  let dev := d * sm - m * sd
  let jump := tested && decide (4 ≤ x.hist.length) &&
    decide (s.rd (Reg.SLOT_JUMP_THRESH n) * 64 * nom * sm < dev.natAbs)
  let s := if jump then
      (s.bump (Reg.SLOT_CNT1_JUMP n)).wri (Reg.SLOT_JUMP_LAST_VALUE n) (satInt 32 (roundDiv dev (sm * 64 * nom)))
    else s
  let s := if rebase then s.bump (Reg.SLOT_CNT1_REBASE_SEQ n) else s
  let s := if back || cmd then s.wr (Reg.SLOT_CMD_REBASE n) 0 else s
  let s := onGate n t (fun g => { g.edge usable t phi m with void := g.void || rebase || !usable }) s
  let x := s.slot n
  s.putSlot n { x with
    lastT := some t, idle := s.up, edges := s.edgesWith n t
    lastOk := usable, phi := phi, raw := r, active := x.active || back
    hist := if rebase then [] else if tested && !jump then (x.hist ++ [(d, m)]).drop (x.hist.length - 15) else x.hist
    sum := x.sum + phi, count := x.count + 1
    coarse := x.coarse || hasFlag flags flagCoarse
    supply := x.supply || hasFlag flags flagSupply }

/-- An on-time edge of slot `n` (R113, R119): the first after a write only sets the reference; an extra edge is
discarded; any other is accepted, and serves a command that waits for the slot's edge (R231). -/
def slotEdge (n : Nat) (st : Stamp) (s : State) : State :=
  let x := s.slot n
  match x.lastT with
  | none =>
    tsEdge n st.tb (s.putSlot n { x with lastT := some st.tb, idle := s.up, edges := s.edgesWith n st.tb, lastOk := !hasFlag st.flags flagCoarse && !hasFlag st.flags flagSupply })
  | some l =>
    let m := (roundNearest ((st.tb - l) * s.slotNom n) (s.slotPeriod n * 1024 : Nat)).toNat
    if m = 0 then
      onGate n st.tb (fun g => { g with tally := g.tally + 1 }) (s.bump (Reg.SLOT_CNT0_EXTRA n))
    else
      let miss := min (m - 1) 65535
      let s := if miss = 0 then s
        else onGate n st.tb (fun g => { g with tally := g.tally + miss }) (s.bump (Reg.SLOT_CNT0_DROP n) miss)
      let r := s.rawPhase n st.tb
      let u := x.phi + fold (s.slotPeriod n * 65536 : Nat) (r - x.raw)
      tsEdge n st.tb (acceptEdge n st.tb st.flags m r u s)

/-- The pulse of a PPS slot ends at TB time `t` (R124); a width beyond the register is unstated (assumption 3). -/
def pulseWidth (n : Nat) (t : Int) (s : State) : State :=
  let x := s.slot n
  match x.rise with
  | some r =>
    let w := (roundDiv (t - r) 1024).toNat
    let s := s.putSlot n { x with rise := none, pw := some (t - r) }
    if w < 2 ^ 30 then s.wr (Reg.SLOT_PW_LAST_NS n) w
    else let f := s.takeFree; f.2.wr (Reg.SLOT_PW_LAST_NS n) f.1
  | none => s

/-- The class of a pulse of `w` in 2^-10 ns (R115): 0, 1, 2 for a P, 3 for an invalid one. -/
def irigClass (w : Int) : Nat :=
  let us : Int := 1024000
  if w < 1000 * us then 3 else if w < 3500 * us then 0 else if w < 6500 * us then 1 else if w ≤ 9500 * us then 2 else 3

/-- A pulse of class `c` has ended (R115): the second of two P in a row begins a frame, a frame is complete with 100
elements, and one that another begins before that is judged with what it has. -/
def IrigSt.pulse (g : IrigSt) (c : Nat) : IrigSt :=
  let second := g.p && decide (c = 2)
  let open' := !g.elems.isEmpty && decide (g.elems.length < 100)
  let elems := if second then [c] else if open' then g.elems ++ [c] else []
  { g with
    p := decide (c = 2), elems := elems
    frame := if (second && open') then some g.elems else if elems.length = 100 then some elems else g.frame }

/-- The pulse of a slot in IRIG mode ends at TB time `t` (R115). -/
def irigEdge (n : Nat) (t : Int) (s : State) : State :=
  let x := s.slot n
  match x.rise with
  | some r => s.putSlot n { x with rise := none, irig := x.irig.pulse (irigClass (t - r)) }
  | none => s

/-- Is the next on-time edge a mark (R115, R116)? DEDUCED (assumption 26): the edge behind 100 elements whose last is
a P is taken as the mark when it comes, before its own width is known. -/
def IrigSt.markNext (g : IrigSt) : Bool := g.lock && g.p && decide (g.elems.length = 100)

/-- A captured edge of slot `n` reaches its comparator, monitors and decoder (R112, R115, R116, R256). -/
def slotDeliver (n : Nat) (fall : Bool) (st : Stamp) (s : State) : State :=
  let onTime := decide (fall = s.bit (Reg.SLOT_CFG_POL n))
  let rise := fun (s : State) => s.putSlot n { s.slot n with rise := some st.tb }
  if s.bit (Reg.SLOT_CFG_IRIG n) then
    if !onTime then irigEdge n st.tb s
    else if (s.slot n).irig.markNext then slotEdge n st (rise s) else rise s
  else if s.bit (Reg.SLOT_CFG_PPS n) then
    if onTime then slotEdge n st (rise s) else pulseWidth n st.tb s
  else if onTime then slotEdge n st s else s

/-- The prescaler of slot `n` meets an edge at the pin (R111, R113): does it pass, and the count after it? The opposite
edge of a PPS or IRIG slot passes. -/
def prescale (n : Nat) (fall : Bool) (s : State) : Bool × State :=
  if decide (fall = s.bit (Reg.SLOT_CFG_POL n)) then
    let x := s.slot n
    (decide (x.pre = 0), s.putSlot n { x with pre := (x.pre + 1) % max 1 (s.rd (Reg.SLOT_PRESCALE_DIV n)) })
  else (true, s)

/-- VIRTUAL_SLOT_SAMPLE (R125): the new value of the timescale's word, in 2^-16 ns. -/
def virtualSample (n : Nat) (s : State) : State :=
  let x := s.slot n
  match x.vnew with
  | some v => if s.edgesPass n then acceptEdge n s.tb 0 1 v v (s.putSlot n { x with vnew := none })
    else s.putSlot n { x with vnew := none }
  | none => s

/-- A slot's phase word at the bell (R37, R51): the mean of the bell's edges, or NO_EDGE with the last mean. -/
def phaseWord (pileup coarse supply noEdge : Bool) (count : Nat) (mean : Int) : Word64 :=
  BitVec.ofNat 64 (flagIf pileup (2 ^ 59) + flagIf coarse (2 ^ 58) + flagIf supply (2 ^ 57) + flagIf noEdge (2 ^ 56)
    + min 255 count * 2 ^ 48 + ofSigned 48 mean)

/-- COMPARATOR_DELIVERY (R37). -/
def slotBell (n : Nat) (s : State) : State :=
  let s := virtualSample n s
  let x := s.slot n
  let mean := if x.count = 0 then x.mean else roundDiv x.sum (x.count * s.slotNom n : Nat)
  s.putSlot n { x with
    word := phaseWord x.pileup x.coarse x.supply (decide (x.count = 0)) x.count mean
    mean := mean, sum := 0, count := 0, pileup := false, coarse := false, supply := false }

/-! ### Words and shown state (R126, R127, R132) -/

/-- Monitor word M0 (R126). -/
def State.monitor0 (s : State) (n : Nat) : Word64 :=
  BitVec.ofNat 64 (s.rd (Reg.SLOT_FOFF_XO_VALUE n) * 2 ^ 32 + s.rd (Reg.SLOT_FOFF_PATH_VALUE n))

/-- Is slot `n` excluded: by EXCLUDE, or withheld for a parity mismatch (R132, R405)? -/
def State.excluded (s : State) (n : Nat) : Bool :=
  s.bit (Reg.SLOT_QUAL_EXCLUDE n) || s.parityIn (0x10000 + 0x100 * n) 0x100

/-- FREQ_WARN (R122): the latest reading lies beyond a quarter of FLIM. -/
def State.freqWarn (s : State) (n : Nat) : Bool :=
  decide (s.rd (Reg.SLOT_FMON_FLIM n) * 64 < 4 * (s.rdi (Reg.SLOT_FOFF_XO_VALUE n)).natAbs)

/-- PW_BAD (R124): in PPS mode, the latest width lies outside PW_MIN to PW_MAX. -/
def State.pwBad (s : State) (n : Nat) : Bool :=
  s.bit (Reg.SLOT_CFG_PPS n) && (s.slot n).pw.any (fun (w : Int) =>
    decide (w < s.rd (Reg.SLOT_PW_MIN_NS n) * 1024 ∨ s.rd (Reg.SLOT_PW_MAX_NS n) * 1024 < w))

/-- Bits [63:55] of monitor word M1, which `SLOTn.MON.FLAGS` shows (R126, R137). -/
def State.monFlags (s : State) (n : Nat) : Nat :=
  let x := s.slot n
  flagIf (s.slotActive n) 256 + flagIf (s.slotCfgErr n) 128 + flagIf (s.excluded n) 64
  + flagIf x.fvalid 32 + flagIf x.freqBad 16 + flagIf (s.freqWarn n) 8 + flagIf x.dropBad 4
  + flagIf (s.pwBad n) 2 + flagIf (x.irigBad && s.bit (Reg.SLOT_CFG_IRIG n)) 1

/-- Monitor word M1 (R126). -/
def State.monitor1 (s : State) (n : Nat) : Word64 :=
  BitVec.ofNat 64 (s.monFlags n * 2 ^ 55 + s.rd (Reg.SLOT_QUAL_JACT n) * 2 ^ 54 + s.rd (Reg.SLOT_QUAL_CEIL n) * 2 ^ 51
    + s.rd (Reg.SLOT_QUAL_BW n) * 2 ^ 47 + s.rd (Reg.SLOT_CNT1_GATE_SEQ n) * 2 ^ 40
    + s.rd (Reg.SLOT_CNT1_REBASE_SEQ n) * 2 ^ 36 + s.rd (Reg.SLOT_CNT1_JUMP n) * 2 ^ 28
    + s.rd (Reg.SLOT_CNT0_DROP n) * 2 ^ 12 + s.rd (Reg.SLOT_CNT0_EXTRA n))

/-- The state word in force of slot `n` (R129). -/
def State.slotWord (s : State) (n : Nat) : Nat := (tabGet 0 (0x228 + n) s.out).toNat % 2 ^ 32

/-- `SLOTn.STATE` (R129, R132): the word in force, with codes 6 and 7 shown as ABSENT, under the overlay of
EXCLUDE. -/
def State.shownSlot (s : State) (n : Nat) : Nat :=
  let w := s.slotWord n
  if s.excluded n then w % 2 ^ 31 - w % 2 ^ 16 + 0x9 * 256 + 5
  else if 6 ≤ w % 8 then w % 2 ^ 31 - w % 8 else w

/-- The STATE that `SLOTn.STATE` shows. -/
def State.shownState (s : State) (n : Nat) : Nat := s.shownSlot n % 8

/-- SLOT_STATE_CHANGE (R132): `f` may change what `SLOTn.STATE` shows. -/
def slotStateChange (n : Nat) (f : State → State) (s : State) : State :=
  let old := s.shownState n
  let s := f s
  let new := s.shownState n
  if old = new then s
  else
    let s := s.raise 96 n
    if (old = 2 ∨ old = 3) ∧ (new = 4 ∨ new = 0) then s.raise 22 n else s

/-! ### Commands -/

/-- The activity timeout of slot `n`, in steps of 2 ns (R118): TIMEOUT units of 32 ns, or automatic: 2.5 Tc rounded up to
such units, at least two, and 2.0 s on a virtual slot. -/
def State.activityTicks (s : State) (n : Nat) : Nat :=
  let t := s.rd (Reg.SLOT_ACT_TIMEOUT n)
  if t ≠ 0 then 16 * t
  else if virtualSlot n then 1000000000
  else 16 * max 2 ((5 * s.slotPeriod n + 64 * s.slotNom n - 1) / (64 * s.slotNom n))

/-- ACTIVITY_TIMEOUT (R118): no accepted edge has come for the activity timeout, and ACTIVE clears; with TWIN_PPS_IN lost,
the twin's calibration is no longer valid (R364). -/
def execActivityTimeout (n : Fin 24) (s : State) : Out :=
  if s.up < (s.slot n).idle + s.activityTicks n then .next s
  else
    let s := s.putSlot n { s.slot n with active := false }
    .next (if n.val = 23 then s.wr Reg.TWIN_STATUS_CAL_VALID 0 else s)

/-- A write to CFG, NOM_FREQ or PRESCALE (R113): ACTIVE clears, the activity timeout runs from the write, the prescaler
count restarts, the monitors forget the last edge, and the gate in progress gives no reading. -/
def slotForget (n : Nat) (s : State) : State :=
  let s := s.putSlot n { s.slot n with active := false }
  let s := onGate n s.tb (fun g => { g with void := true }) s
  let x := s.slot n
  s.putSlot n { x with
    pre := 0, idle := s.up, edges := [], lastT := none, lastOk := true, phi := 0, raw := 0, hist := [], rise := none
    irig := { x.irig with p := false, elems := [], frame := none } }

/-- The bell's sum of phases in the units of the nominal frequency of slot `n` in force, from those of `old`. -/
def rescaleSum (n old : Nat) (s : State) : State :=
  s.putSlot n { s.slot n with sum := roundDiv ((s.slot n).sum * s.slotNom n) old }

/-- SLOT_CFG_WRITE (R110, R113, R136): `reg` names CFG, NOM_FREQ or PRESCALE; fields that read 0 on the slot
ignore the write. -/
def doSlotCfgWrite (n : Fin 24) (reg : Fin 3) (data : BitVec 32) (s : State) : Out :=
  let v := data.toNat
  let s :=
    if reg.val = 0 then
      let s := s.wrs [(Reg.SLOT_CFG_PATH n, v / 2 ^ 29), (Reg.SLOT_CFG_PPS n, v / 2 ^ 28), (Reg.SLOT_CFG_POL n, v / 2 ^ 27)]
      let s := if n.val < 16 then
          s.wrs [(Reg.SLOT_CFG_TERM n, v / 2 ^ 25), (Reg.SLOT_CFG_HYST n, v / 2 ^ 24), (Reg.SLOT_CFG_INPUT n, v / 2 ^ 22)]
        else s
      if n.val < 4 then s.wr (Reg.SLOT_CFG_IRIG n) (v / 2 ^ 21) else s
    else if reg.val = 1 then (if virtualSlot n then s else rescaleSum n (s.slotNom n) (s.wr (Reg.SLOT_NOM_FREQ_HZ n) v))
    else s.wr (Reg.SLOT_PRESCALE_DIV n) v
  .next (slotForget n s)

/-- SLOT_REBASE (R113). -/
def doSlotRebase (n : Fin 24) (s : State) : Out := .next (s.wr (Reg.SLOT_CMD_REBASE n) 1)

/-- SLOT_QUAL_WRITE (R132, R136): EXCLUDE shows from the write on. -/
def doSlotQualWrite (n : Fin 24) (data : BitVec 32) (s : State) : Out :=
  let v := data.toNat
  .next (slotStateChange n (fun s => s.wrs
    [(Reg.SLOT_QUAL_EXCLUDE n, v / 2 ^ 31), (Reg.SLOT_QUAL_CEIL n, v / 2 ^ 28), (Reg.SLOT_QUAL_JACT n, v / 2 ^ 27),
     (Reg.SLOT_QUAL_BW n, v / 2 ^ 23), (Reg.SLOT_QUAL_WTR n, v / 2 ^ 13), (Reg.SLOT_QUAL_OBS_TIME n, v)]) s)

/-! ### IRIG-B (R114 to R116, R138) -/

/-- The number whose bits, lowest first, are the elements of `l` (0 or 1 each) from `i` on. -/
def irigBits (l : List Nat) (i k : Nat) : Nat :=
  (List.range k).foldl (fun v j => v + (if l.getD (i + j) 3 = 1 then 2 ^ j else 0)) 0

/-- Is element `i` a P, and every other element a 0 or a 1, as R115 demands? -/
def irigShape (l : List Nat) : Bool :=
  decide (l.length = 100) &&
  (List.range 100).all (fun i => if i = 0 ∨ i % 10 = 9 then l.getD i 3 == 2 else decide (l.getD i 3 < 2))

/-- Does format `x` carry the year, the control functions, the straight binary seconds (R114)? -/
def irigHasYear (x : Nat) : Bool := decide (4 ≤ x)
def irigHasCf (x : Nat) : Bool := decide (x % 4 < 2)
def irigHasSbs (x : Nat) : Bool := decide (x % 4 = 0 ∨ x % 4 = 3)

/-- The format of the elements `l` (R114, R115): a field that holds a 1 is present. DESIGN CHOICE (assumption 26): the
spec does not say how a field of zeros is told from an absent one, nor elements 50 to 58 as a year from control functions;
there `x` says it. -/
def irigFormat (l : List Nat) (x : Nat) : Nat :=
  let any := fun (i k : Nat) => decide (irigBits l i k ≠ 0)
  let sbs := irigHasSbs x || any 80 9 || any 90 8
  let cf := irigHasCf x || any 60 9 || any 70 9 || (!irigHasYear x && any 50 9)
  flagIf (irigHasYear x) 4 + (if cf then (if sbs then 0 else 1) else if sbs then 3 else 2)

/-- The decoded frame, if it is valid (R115), at the element places of IRIG Standard 200 (assumption 26). -/
def irigDecode (l : List Nat) (format : Nat) : Option IrigFields :=
  let b := irigBits l
  let year := irigHasYear format
  let units := [b 1 4, b 10 4, b 20 4, b 30 4, b 35 4] ++ (if year then [b 50 4, b 55 4] else [])
  if irigShape l && units.all (fun d => decide (d ≤ 9)) &&
      decide (b 6 3 ≤ 5 ∧ b 15 3 ≤ 5 ∧ b 25 2 ≤ 2 ∧ b 40 2 ≤ 3) then
    some { format := irigFormat l format, sec := b 1 4 + 10 * b 6 3, min := b 10 4 + 10 * b 15 3
           hour := b 20 4 + 10 * b 25 2, day := b 30 4 + 10 * b 35 4 + 100 * b 40 2
           year := b 50 4 + 10 * b 55 4, sbs := b 80 9 + b 90 8 * 2 ^ 9
           cf := if year then b 60 9 + b 70 9 * 2 ^ 9 else b 50 9 + b 60 9 * 2 ^ 9 + b 70 9 * 2 ^ 18 }
  else none

/-- The year, where the format carries it, and the second of the year. -/
def IrigFields.time (f : IrigFields) : Option Nat × Nat :=
  (if irigHasYear f.format then some f.year else none, ((f.day * 24 + f.hour) * 60 + f.min) * 60 + f.sec)

/-- The days of a year of two digits (assumption 26). -/
def irigDays (y : Nat) : Nat := if y % 4 = 0 then 366 else 365

/-- The time 1 s after `l`; days count from 1. -/
def irigAfter (l : Option Nat × Nat) : Option Nat × Nat :=
  match l.1 with
  | some y => if l.2 + 1 = (irigDays y + 1) * 86400 then (some ((y + 1) % 100), 86400) else (some y, l.2 + 1)
  | none => (none, l.2 + 1)

/-- Does time `t` follow `l` by 1 s, the turn of the year included; where one of them has no year, that of a common or a
leap year (R116)? -/
def irigNext (l t : Option Nat × Nat) : Bool :=
  if l.1.isSome ∧ t.1.isSome then decide (t = irigAfter l)
  else decide (t.2 = l.2 + 1) || (decide (t.2 = 86400) && decide (l.2 + 1 = 366 * 86400 ∨ l.2 + 1 = 367 * 86400))

/-- IRIG_FRAME (R115, R116): the frame that slot `n` has received is judged; `format` says what the elements alone do
not (assumption 26). -/
def execIrigFrame (n : Fin 4) (format : Fin 8) (s : State) : Out :=
  let x := s.slot n
  let g := x.irig
  match g.frame with
  | none => .next s
  | some l =>
    let put := fun (wrong : Bool) (g : IrigSt) => s.putSlot n { x with irigBad := wrong, irig := { g with frame := none } }
    let bad := fun (g : IrigSt) =>
      (put true { g with bad := g.bad + 1, lock := g.lock && decide (g.bad = 0) }).bump (Reg.SLOT_IRIG_STATUS_FRAME_ERR n)
    .next (match irigDecode l format with
      | none => bad { g with good := false, last := g.last.map irigAfter }
      | some v =>
        let seq := g.last.any (fun l => irigNext l v.time)
        let g' := { g with good := true, last := some v.time, staged := some v, validAt := s.up }
        if seq || g.last.isNone then put false { g' with bad := 0, lock := g.lock || (seq && g.good) }
        else bad g')

/-- 10 ms in steps of 2 ns. -/
def irigDelay : Nat := 5000000

/-- IRIG_REGISTER_UPDATE (R116, R138): 10 ms after a valid frame, its fields reach their registers together. -/
def execIrigRegisterUpdate (n : Fin 4) (s : State) : Out :=
  let x := s.slot n
  match (if irigDelay ≤ s.up - x.irig.validAt then x.irig.staged else none) with
  | some v =>
    let y := if irigHasYear v.format then v.year else 0
    let b := if irigHasSbs v.format then v.sbs else 0
    .next ((s.putSlot n { x with irig := { x.irig with
        staged := none, ext := y * 2 ^ 17 + b, cf := if irigHasCf v.format then v.cf else 0 } }).wrs
      [(Reg.SLOT_IRIG_STATUS_FORMAT n, v.format), (Reg.SLOT_IRIG_STATUS_SBS_VALID n, (irigHasSbs v.format).toNat),
       (Reg.SLOT_IRIG_STATUS_CF_VALID n, (irigHasCf v.format).toNat), (Reg.SLOT_IRIG_STATUS_YEAR_VALID n, (irigHasYear v.format).toNat),
       (Reg.SLOT_IRIG_TOD_DAY n, v.day), (Reg.SLOT_IRIG_TOD_HOUR n, v.hour), (Reg.SLOT_IRIG_TOD_MIN n, v.min),
       (Reg.SLOT_IRIG_TOD_SEC n, v.sec)])
  | none => .next s

/-- 2.0 s in steps of 2 ns. -/
def twoSeconds : Nat := 1000000000

/-- IRIG_LOCK_TIMEOUT (R116): 2.0 s without a valid frame. -/
def execIrigLockTimeout (n : Fin 4) (s : State) : Out :=
  let x := s.slot n
  .next (if twoSeconds ≤ s.up - x.irig.validAt then
    s.putSlot n { x with irig := { x.irig with lock := false, good := false, last := none } }
  else s)

/-- A read of IRIG_TOD captures EXT and CF for the reads that follow (R138). -/
def irigCapture (n : Nat) (s : State) : State :=
  let g := (s.slot n).irig
  s.wrs [(Reg.SLOT_IRIG_EXT_YEAR n, g.ext / 2 ^ 17), (Reg.SLOT_IRIG_EXT_SBS n, g.ext), (Reg.SLOT_IRIG_CF_CF n, g.cf)]

/-- IRIG_TOD_READ (R138). -/
def doIrigTodRead (n : Fin 4) (s : State) : Out :=
  let v := s.rd (Reg.SLOT_IRIG_TOD_DAY n) * 2 ^ 17 + s.rd (Reg.SLOT_IRIG_TOD_HOUR n) * 2 ^ 12
    + s.rd (Reg.SLOT_IRIG_TOD_MIN n) * 2 ^ 6 + s.rd (Reg.SLOT_IRIG_TOD_SEC n)
  .next { irigCapture n s with hostRead := [BitVec.ofNat 32 v] }

end Sys2Proof.Machine
end

