-- ==== Sys2Proof/Machine/Twin.lean ====
section
/-! DEFINITION. Twin operation: roles, heartbeats, witness, cross-alignment (R354 to R378). -/
namespace Sys2Proof.Machine

/-! ### Roles and eligibility (R355 to R357) -/

/-- The codes of TWIN.STATUS.ROLE (R355). -/
def roleOff : Nat := 0
def roleSolo : Nat := 1
def roleSeeking : Nat := 2
def rolePrimary : Nat := 3
def roleSecondary : Nat := 4
def roleIsolated : Nat := 5

/-- The device's role. -/
def State.twinRole (s : State) : Nat := s.rd Reg.TWIN_STATUS_ROLE

/-- Is the SAFE action in force (R388)? -/
def State.safe (s : State) : Bool := s.anyAction 7 (fun _ => true)

/-- Is a CRIMSON source active (R358)? -/
def State.crimson (s : State) : Bool :=
  (List.range 96).any (fun ev => decide (s.rd (Reg.FLT_SRC_STATUS_STATE ev) ≠ 0 ∧ (tabGet {} ev s.flt.src).cls = 2))

/-- A bit of the twin control word (R377). -/
def State.twinControl (s : State) (i : Nat) : Bool := (tabGet 0 0x250 s.out).getLsbD i

/-- `TWIN.STATUS.INELIGIBLE` (R356). -/
def State.ineligible (s : State) : Bool := s.safe || s.anyAction 5 (fun _ => true) || s.twinControl 58

/-- Does ACTIVE_N pull low (R355, R388, R436)? -/
def State.activeLow (s : State) : Bool := decide (s.twinRole = roleSolo ∨ s.twinRole = rolePrimary) && !s.safe &&
  decide (s.rd Reg.PWR_STATUS_STATE < 2)

/-- Does the twin gate port `n` (R355)? -/
def State.twinGates (s : State) (n : Nat) : Bool :=
  decide (s.twinRole = roleSeeking ∨ s.twinRole = roleSecondary ∨ s.twinRole = roleIsolated) && !s.twinControl (60 + n)

/-- The level causes of the twin (R382). -/
def twinLevels (s : State) : State :=
  let en := s.bit Reg.TWIN_CFG_EN
  ((s.level 40 noInst (en && !s.bit Reg.TWIN_STATUS_LINK)).level 41 noInst (en && !s.bit Reg.TWIN_STATUS_WITNESS)).level 44
    noInst (s.bit Reg.TWIN_STATUS_CONFLICT)

/-- The commons words of the twin, by 64-bit word (R366): eight path words, then a sub-second and a seconds word
per timescale. -/
def twinWordAt (i : Nat) : Nat := 0x1FE000 / 8 + i

/-- Every twin phase word is marked not valid (R365, R366). -/
def twinWordsInvalid (s : State) : State :=
  let s := forRange 16 (fun i s =>
    { s with commons := tabSet 0 (twinWordAt i) ((tabGet 0 (twinWordAt i) s.commons) &&& 0x7FFFFFFFFFFFFFFF) s.commons }) s
  let s := forRange 8 (fun p s => s.wr (Reg.TWIN_ERR_P_VALUE p) 0) s
  s

/-- The device takes role `r` (R355, R366). -/
def setRole (r : Nat) (s : State) : State :=
  let s := s.wr Reg.TWIN_STATUS_ROLE r
  if r = roleSecondary ∨ r = roleIsolated then s else twinWordsInvalid s

/-- PROMOTION (R357). -/
def promote (s : State) : State :=
  let own := (max (s.rd Reg.TWIN_EPOCH_OWN) (s.rd Reg.TWIN_EPOCH_TWIN) + 1) % 65536
  (((setRole rolePrimary s).wr Reg.TWIN_EPOCH_OWN own).bump Reg.TWIN_COUNT1_PROMOTIONS).raise 42 noInst rolePrimary

/-- The role a device takes that may not be primary: by the link (R370, R375). -/
def State.secondaryRole (s : State) : Nat := if s.bit Reg.TWIN_STATUS_LINK then roleSecondary else roleIsolated

/-! ### Demotion (R373) -/

/-- Can a demotion run: the link is up and the twin is an eligible SECONDARY without CRIMSON? -/
def State.canDemote (s : State) : Bool :=
  s.bit Reg.TWIN_STATUS_LINK && decide (s.twin.role = roleSecondary) && !s.twin.inel && !s.twin.crimson

/-- The demotion runs. -/
def demote (s : State) : State :=
  let s := (((setRole roleSecondary s).wr Reg.TWIN_STATUS_DEMOTE_PENDING 0).bump Reg.TWIN_COUNT1_DEMOTIONS).raise 42 noInst roleSecondary
  { s with twin := { s.twin with demoteReq := true } }

/-- A request to demote: it runs at once or becomes pending; only a PRIMARY demotes. -/
def demoteRequest (s : State) : State :=
  if s.twinRole ≠ rolePrimary then s
  else if s.canDemote then demote s
  else s.wr Reg.TWIN_STATUS_DEMOTE_PENDING 1

/-- TWIN_DEMOTE (R373): CMD.DEMOTE clears when the demotion runs or becomes pending. -/
def doTwinDemote (s : State) : Out := .next ((demoteRequest s).wr Reg.TWIN_CMD_DEMOTE 0)

/-- DEMOTE_RUN (R373): a pending demotion runs once its conditions hold. -/
def execDemoteRun (s : State) : Out :=
  .next (if s.bit Reg.TWIN_STATUS_DEMOTE_PENDING ∧ s.twinRole = rolePrimary ∧ s.canDemote then demote s else s)

/-! ### Decisions (R370, R371, R375) -/

/-- What the secondary decides on a change of LINK, WITNESS or the twin's role (R371). -/
def twinDecide (s : State) : State :=
  if s.twinRole ≠ roleSecondary ∧ s.twinRole ≠ roleIsolated then s
  else if s.bit Reg.TWIN_STATUS_LINK then setRole roleSecondary s
  else
    let may := !s.ineligible && !s.bit Reg.TWIN_STATUS_CONFLICT
    if s.bit Reg.TWIN_STATUS_WITNESS then
      if s.twin.role ≠ rolePrimary ∧ may ∧ (s.rd Reg.TWIN_STATUS_PAIR_ID = 0 ∨ s.twin.inel) then promote s
      else setRole roleIsolated s
    else if may then promote s
    else setRole roleIsolated s

/-- ROLE_RESOLUTION (R375): two primaries, of which the loser demotes and takes the winner's epoch. -/
def resolveRoles (s : State) : State :=
  if s.twinRole ≠ rolePrimary ∨ s.twin.role ≠ rolePrimary then s
  else
    let own0 := decide (s.rd Reg.TWIN_STATUS_PAIR_ID = 0)
    let c0 := if own0 then s.crimson else s.twin.crimson
    let c1 := if own0 then s.twin.crimson else s.crimson
    let winner0 := !(c0 && !c1)
    if winner0 = own0 then s
    else
      let r := s.secondaryRole
      ((((setRole r s).wr Reg.TWIN_EPOCH_OWN (s.rd Reg.TWIN_EPOCH_TWIN)).wr Reg.TWIN_STATUS_DEMOTE_PENDING 0).bump
        Reg.TWIN_COUNT1_DEMOTIONS).raise 42 noInst r

/-- TWIN_ENABLE (R354, R370): EN cannot be set under the SOLO strap; a change from 0 to 1 enters SEEKING. -/
def doTwinEnable (s : State) : Out :=
  if s.bit Reg.TWIN_STATUS_SOLO_STRAP ∨ s.bit Reg.TWIN_CFG_EN then .next s
  else
    let s := (setRole roleSeeking (s.wrs [(Reg.TWIN_CFG_EN, 1), (Reg.TWIN_STATUS_CONFLICT, 0)])).arm .seeking
    .next (twinLevels { s with twin := { s.twin with heard := false, role := 0, markers := 0, ppsSeen := false, delayWas := none } })

/-- TWIN_DISABLE (R375): the role becomes OFF. -/
def doTwinDisable (s : State) : Out :=
  if s.bit Reg.TWIN_CFG_EN then
    .next (twinLevels (setRole roleOff (s.wrs [(Reg.TWIN_CFG_EN, 0), (Reg.TWIN_STATUS_DEMOTE_PENDING, 0),
      (Reg.TWIN_STATUS_CAL_VALID, 0), (Reg.TWIN_STATUS_INDEXED, 0), (Reg.TWIN_STATUS_SLIP, 0)])))
  else .next s

/-- SEEKING_END (R370): after 40 µs in SEEKING the device takes the role of the first row that applies. -/
def execSeekingEnd (s : State) : Out :=
  if s.twinRole ≠ roleSeeking ∨ !s.ran .seeking 40000 then .next s
  else
    let t := s.twin
    let id := s.rd Reg.TWIN_STATUS_PAIR_ID
    .next (twinLevels (
      if t.heard ∧ t.pair = id then setRole roleIsolated (s.wr Reg.TWIN_STATUS_CONFLICT 1)
      else if (t.heard ∧ t.role = rolePrimary) ∨ s.ineligible then setRole s.secondaryRole s
      else if !t.heard then promote s
      else if id = 0 ∨ t.inel then promote s
      else setRole s.secondaryRole s))

/-! ### Frames (R358, R362, R374) -/

/-- The CRC-8 of R362 over the 24 bits [31:8], most significant first: polynomial 0x07, initial value 0. -/
def crc8 (w : Word32) : Nat :=
  (List.range 24).foldl (fun c i =>
    let top := (c / 128 + w.toNat / 2 ^ (31 - i)) % 2
    let c := c * 2 % 256
    if top = 1 then c ^^^ 0x07 else c) 0

/-- The twin as a newer frame shows it (R362). -/
def twinHears (role pair epoch : Nat) (inel crimson : Bool) (s : State) : State :=
  { s.wr Reg.TWIN_EPOCH_TWIN epoch with
    twin := { s.twin with heard := true, role := role, pair := pair, inel := inel, crimson := crimson } }

/-- What a new heartbeat says is noted (R358, R371): the twin's view, the run of good heartbeats, the remote
measurement and LINK after four in a row. -/
def heartbeatNotes (h : Heartbeat) (s : State) : State :=
  let run := if s.twin.hbSeq = some (h.seq - 1) ∧ 0 < h.seq then s.twin.hbRun + 1 else 1
  let s := twinHears h.role h.pair h.epoch.toNat h.inel h.crimson s
  let s := { s with twin := { s.twin with
    safe := h.safe, hbRun := run, hbSeq := some h.seq, hbAt := some s.now, mClk := h.mClk, mPps := h.mPps, count := h.count } }
  let s := s.wri Reg.TWIN_M_REMOTE_VALUE h.mClk
  if 4 ≤ run then s.wr Reg.TWIN_STATUS_LINK 1 else s

/-- What a new heartbeat makes of the role (R370, R373, R375): a secondary follows the primary's epoch, or takes
over where it is asked to. -/
def heartbeatRole (h : Heartbeat) (s : State) : State :=
  let s := if s.twinRole = roleSecondary ∧ h.role = rolePrimary then s.wr Reg.TWIN_EPOCH_OWN h.epoch.toNat else s
  if h.demoteReq ∧ s.twinRole = roleSecondary ∧ !s.ineligible ∧ !s.bit Reg.TWIN_STATUS_CONFLICT then promote s
  else twinDecide s

/-- A good heartbeat on `lane` (R357, R358, R371, R373, R375): its lane is up, a duplicate is discarded, LINK
sets after four in a row, and the twin's view, demotion and role follow. -/
def heartbeat (lane : Nat) (h : Heartbeat) (s : State) : State :=
  let s := (s.wr (if lane = 0 then Reg.TWIN_STATUS_LANE0_OK else Reg.TWIN_STATUS_LANE1_OK) 1).level 43 lane false
  let s := (s.arm (.lane lane)).arm .link
  if s.twin.hbSeq = some h.seq then s
  else twinLevels (resolveRoles (heartbeatRole h (heartbeatNotes h s)))

/-- LANE_DOWN (R358): no good frame on the lane for 4 µs. -/
def execLaneDown (lane : Fin 2) (s : State) : Out :=
  .next (if s.ran (.lane lane) 4000 then
    (s.wr (if lane.val = 0 then Reg.TWIN_STATUS_LANE0_OK else Reg.TWIN_STATUS_LANE1_OK) 0).level 43 lane true
  else s)

/-- TWIN_LINK_LOSS (R358, R364, R371): no good heartbeat on either lane for 4 µs. -/
def execTwinLinkLoss (s : State) : Out :=
  if s.bit Reg.TWIN_STATUS_LINK ∧ s.ran .link 4000 then
    let s := (s.wrs [(Reg.TWIN_STATUS_LINK, 0), (Reg.TWIN_STATUS_CAL_VALID, 0)]).bump Reg.TWIN_COUNT0_LINK_LOSS
    .next (twinLevels (twinDecide { s with twin := { s.twin with hbRun := 0, hbSeq := none, delayWas := none } }))
  else .next s

/-- WITNESS_FRAME (R362, R371, R375): 32 bits received; a bad CRC changes nothing. -/
def execWitnessFrame (word : BitVec 32) (s : State) : Out :=
  let w := word.toNat
  if !s.bit Reg.TWIN_CFG_EN ∨ crc8 word ≠ w % 256 then .next s
  else
    let s := twinHears (w / 2 ^ 29) (w / 2 ^ 28 % 2) (w / 2 ^ 12 % 65536) (word.getLsbD 11) (word.getLsbD 10) s
    .next (twinLevels (resolveRoles (twinDecide ((s.wr Reg.TWIN_STATUS_WITNESS 1).arm .witnessIn))))

/-- WITNESS_LOSS (R362, R371): no valid mid-bit transition for 8 µs, of which a good frame that ends is the last the
model sees. -/
def execWitnessLoss (s : State) : Out :=
  if s.bit Reg.TWIN_STATUS_WITNESS ∧ s.ran .witnessIn 8000 then
    .next (twinLevels (twinDecide ((s.wr Reg.TWIN_STATUS_WITNESS 0).bump Reg.TWIN_COUNT0_WIT_LOSS)))
  else .next s

/-- WITNESS_SEND (R362): the frame that WIT_OUT sends, one every 34 µs. -/
def execWitnessSend (s : State) : Out :=
  if !s.ran .witnessOut 34000 then .next s else
  let v := s.twinRole * 2 ^ 29 + s.rd Reg.TWIN_STATUS_PAIR_ID * 2 ^ 28 + s.rd Reg.TWIN_EPOCH_OWN * 2 ^ 12
    + flagIf s.ineligible 2048 + flagIf s.crimson 1024
  let w : Word32 := BitVec.ofNat 32 v
  .next (({ s with twin := { s.twin with witness := some (w + BitVec.ofNat 32 (crc8 w)) } } : State).arm .witnessOut)

/-- HEARTBEAT_SEND (R358, R373, R374): one every 1.000 µs; DEMOTE_REQ goes into one heartbeat, RESET_REQ into eight. -/
def execHeartbeatSend (s : State) : Out :=
  if !s.bit Reg.TWIN_CFG_EN ∨ !s.ran .heartbeat 1000 then .next s
  else
    let t := s.twin
    let h : Heartbeat := {
      seq := t.seqOut, pair := s.rd Reg.TWIN_STATUS_PAIR_ID, role := s.twinRole
      epoch := BitVec.ofNat 16 (s.rd Reg.TWIN_EPOCH_OWN), inel := s.ineligible, crimson := s.crimson, safe := s.safe
      demoteReq := t.demoteReq, resetReq := decide (0 < t.resetReq), mClk := t.ownClk, mPps := t.ownPps, count := t.ownCount }
    let s := if t.resetReq ≤ 1 then s.wr Reg.TWIN_CMD_RESET_TWIN 0 else s
    .next (({ s with twin :=
      { t with seqOut := t.seqOut + 1, demoteReq := false, resetReq := t.resetReq - 1, sent := some h } } : State).arm .heartbeat)

/-- RESET_TWIN (R374). -/
def doResetTwin (s : State) : Out :=
  .next { s.wr Reg.TWIN_CMD_RESET_TWIN 1 with twin := { s.twin with resetReq := 8 } }

/-! ### Cross-alignment (R359 to R366) -/

/-- `TWIN.STATUS.CLK_ERR` (R359), while TWIN_CLK_OUT is to be driven. -/
def State.twinClkErr (s : State) : Bool :=
  let k := s.rd Reg.TWIN_CLK_CFG_APLL
  let p := (s.apll k).plan
  s.bit Reg.TWIN_CLK_CFG_CLK_EN &&
  (decide (p.fpd * (p.nint * 2 ^ 40 + p.nfrac) ≠ 156250000 * s.rd Reg.TWIN_CLK_CFG_DIV * 2 ^ 40) ||
   !s.bit (Reg.APLL_STATUS_LOCK k))

/-- `TWIN.STATUS.ALIGN_CFG_ERR` (R361). -/
def State.alignCfgErr (s : State) : Bool :=
  decide (s.rd (Reg.SLOT_NOM_FREQ_HZ 22) ≠ 156250000 ∨ s.rd (Reg.SLOT_PRESCALE_DIV 22) ≠ 2 ∨
    s.bit (Reg.SLOT_CFG_PPS 22) ∨ s.rd (Reg.SLOT_NOM_FREQ_HZ 23) ≠ 1 ∨ s.rd (Reg.SLOT_PRESCALE_DIV 23) ≠ 1 ∨
    !s.bit (Reg.SLOT_CFG_PPS 23))

/-- One TWIN_CLK period, and half of one, in 2^-16 ns times 10. -/
def twinPeriod10 : Int := 4194304

/-- The own TWIN_CLK ramp at TB time `t`, in 2^-16 ns: the ramp of the source APLL less the output delay. -/
def State.twinRamp (s : State) (t : Int) : Int :=
  roundDiv (s.rampAt (s.rd Reg.TWIN_CLK_CFG_APLL) t) (2 ^ 48) - Config.twinOutDelay

/-- m_CLK of a stamp (R363): folded into [-3.2 ns, +3.2 ns), in 2^-16 ns. -/
def State.measureClk (s : State) (t : Int) : Int := roundDiv (fold twinPeriod10 (s.twinRamp t * 10)) 10

/-- m_PPS of a stamp (R360, R363): less the own TWIN_PPS_OUT edge of the same second, the first falling edge of
TWIN_CLK_OUT at or after the start of the second. -/
def State.measurePps (s : State) (t : Int) : Int :=
  let v : Int := ((s.tsAt (s.rd Reg.TWIN_CFG_PPS_TS) t) / 2 ^ 48 : Nat)
  let off := fold (10 ^ 9 * 65536) v
  let fall := (twinPeriod10 / 2 - (s.twinRamp t - off) * 10) % twinPeriod10
  off - roundDiv fall 10

/-- A stamp of TWIN_CLK_IN (R363, R365): every 512th from the PPS edge is a marker edge; the mean of m_CLK goes
out at each. -/
def twinClkEdge (t : Int) (s : State) : State :=
  let x := s.twin
  let sum := x.clkSum + s.measureClk t
  let n := x.clkCount + 1
  if x.stampNo % 512 = 0 then
    let m := roundDiv sum n
    { s.wri Reg.TWIN_M_LOCAL_VALUE m with
      twin := { x with stampNo := x.stampNo + 1, clkSum := 0, clkCount := 0, ownClk := m
                       edges := (x.edges ++ [(x.stampNo / 512, t)]).drop (x.edges.length - 7) } }
  else { s with twin := { x with stampNo := x.stampNo + 1, clkSum := sum, clkCount := n } }

/-- The mean delay from the PPS and clock measurements of both sides (R364): the clock's, unfolded by whole
periods to the value nearest the PPS's. -/
def meanDelay (clkP clkS ppsP ppsS : Int) : Int :=
  let pps := roundDiv (ppsP + ppsS) 2
  let clk := roundDiv (clkP + clkS) 2
  let k := roundNearest ((pps - clk) * 20) twinPeriod10
  clk + roundDiv (k * twinPeriod10) 20

/-- A rising edge of TWIN_PPS_IN (R361, R363 to R365): the count of the past second is compared with the
primary's, d_PS is formed, and counting restarts. -/
def twinPpsEdge (t : Int) (s : State) : State :=
  let x := s.twin
  let mine := s.measurePps t
  let first := !x.ppsSeen
  let n := 2 * x.stampNo
  let s := { s with twin := { x with stampNo := 0, ppsSeen := true, ownPps := mine } }
  if s.twinRole ≠ roleSecondary ∨ first ∨ s.alignCfgErr then s
  else
    let d := meanDelay x.mClk x.ownClk x.mPps mine + roundDiv (s.rdi Reg.TWIN_ASYM_VALUE) 2
    let ok := x.delayWas.any (fun w => decide ((d - w).natAbs ≤ 3276))
    let s := { s with twin := { s.twin with delayWas := some d } }
    let s := s.wri Reg.TWIN_DELAY_VALUE (satInt 32 d)
    let s := if ok then s.wr Reg.TWIN_STATUS_CAL_VALID 1 else s
    if n = x.count then s.wrs [(Reg.TWIN_STATUS_SLIP, 0), (Reg.TWIN_STATUS_INDEXED, 1)]
    else twinWordsInvalid (((s.wr Reg.TWIN_STATUS_SLIP 1).bump Reg.TWIN_COUNT2_SLIPS).raise 45 noInst)

/-- MARKER_SEND (R358, R365): the PRIMARY sends marker `idx` of the second; at the PPS marker it counts its own
TWIN_CLK periods since the last. -/
def execMarkerSend (idx : Nat) (s : State) : Out :=
  if s.twinRole ≠ rolePrimary then .next s
  else
    let x := s.twin
    let r := s.twinRamp s.tb
    let m : MarkerIn := {
      idx := idx
      ramps := (List.range 8).map (fun p => (((s.path p).ramp / 2 ^ 48) % 2 ^ 80).toNat)
      stamps := (List.range 4).map (fun n => (s.tscale n).val / 2 ^ 48) }
    .next { s with twin := { x with
      markerOut := some m
      lastRamp := if idx = 0 then some r else x.lastRamp
      ownCount := if idx = 0 then (x.lastRamp.map (fun l => (roundNearest ((r - l) * 10) twinPeriod10).toNat)).getD 0 else x.ownCount } }

/-- A twin word: VALID, SEQ and a saturated value (R366). -/
def twinWord (valid : Bool) (seq : Nat) (v : Int) : Word64 :=
  BitVec.ofNat 64 (flagIf valid (2 ^ 63) + seq % 128 * 2 ^ 56 + ofSigned 48 (satInt 48 v))

/-- Put twin word `i` in commons. -/
def putTwinWord (i : Nat) (w : Word64) (s : State) : State := { s with commons := tabSet 0 (twinWordAt i) w s.commons }

/-- The twin phase word of path `p` (R366). -/
def markerPath (x : MarkerIn) (tm : Int) (seq p : Nat) (s : State) : State :=
  let c := s.rd (Reg.TWIN_FOLD_VALUE p)
  if c = 0 then (putTwinWord p (twinWord false seq 0) s).wr (Reg.TWIN_ERR_P_VALUE p) 0
  else
    let d : Int := (x.ramps.getD p 0 : Nat) - roundDiv (s.rampAt p tm) (2 ^ 48)
    let v := satInt 48 (fold c d - s.rdi Reg.TWIN_OFFSET_VALUE * 64)
    (putTwinWord p (twinWord true seq v) s).wri (Reg.TWIN_ERR_P_VALUE p) (satInt 32 (roundDiv v 64))

/-- The twin phase words of timescale `n` (R366): its sub-second and its seconds. -/
def markerScale (x : MarkerIn) (tm : Int) (seq n : Nat) (s : State) : State :=
  let d : Int := (x.stamps.getD n 0 : Nat) - (s.tsAt n tm / 2 ^ 48 : Nat)
  let sub := fold (10 ^ 9 * 65536) d
  let sec := (d - sub) / (10 ^ 9 * 65536)
  let s := putTwinWord (9 + 2 * n) (twinWord true seq sec) (putTwinWord (8 + 2 * n) (twinWord true seq sub) s)
  (s.wri (Reg.TWIN_ERR_TS_SUBSEC n) (satInt 24 (roundDiv sub 65536))).wri (Reg.TWIN_ERR_TS_SEC n) (satInt 8 sec)

/-- Are the twin phase words computed (R366, R361)? -/
def State.markersCount (s : State) : Bool :=
  decide (s.twinRole = roleSecondary) && s.bit Reg.TWIN_STATUS_CAL_VALID && s.bit Reg.TWIN_STATUS_INDEXED &&
    !s.bit Reg.TWIN_STATUS_SLIP && !s.alignCfgErr

/-- MARKER_RECEIVE (R366): twin phase words from a MARKER frame, while CAL_VALID = 1 and INDEXED = 1. -/
def execMarkerReceive (x : MarkerIn) (s : State) : Out :=
  match s.twin.edges.find? (fun e => e.1 == x.idx) with
  | none => .next s
  | some (_, stamp) =>
    if !s.markersCount then .next s
    else
      let tm := stamp - roundDiv (s.rdi Reg.TWIN_DELAY_VALUE) 64
      let seq := s.twin.markers + 1
      let s := { s with twin := { s.twin with markers := seq } }
      .next (forRange 4 (markerScale x tm seq) (forRange 8 (markerPath x tm seq) s))

/-- What the bell takes from the twin control word (R373, R377). -/
def twinBell (s : State) : State := if s.twinControl 59 then demoteRequest s
  else if s.twinControl 58 then demoteRequest s else s

/-- The us since the last good heartbeat, saturating (R376). -/
def State.twinSilence (s : State) : Nat := match s.twin.hbAt with
  | some t => min ((s.now - t) / 500) 0xFFFFFF
  | none => 0xFFFFFF

/-- Twin status word `i` (R376). -/
def State.twinStatusWord (s : State) (i : Nat) : Word64 :=
  BitVec.ofNat 64 (match i with
    | 0 => s.twinRole * 2 ^ 61 + s.rd Reg.TWIN_STATUS_PAIR_ID * 2 ^ 60 + s.rd Reg.TWIN_EPOCH_OWN * 2 ^ 44
      + s.rd Reg.TWIN_STATUS_LINK * 2 ^ 43 + s.rd Reg.TWIN_STATUS_WITNESS * 2 ^ 42 + s.rd Reg.TWIN_STATUS_CAL_VALID * 2 ^ 41
      + s.rd Reg.TWIN_STATUS_INDEXED * 2 ^ 40 + flagIf s.ineligible (2 ^ 39) + s.rd Reg.TWIN_STATUS_DEMOTE_PENDING * 2 ^ 38
      + s.rd Reg.TWIN_STATUS_LANE0_OK * 2 ^ 37 + s.rd Reg.TWIN_STATUS_LANE1_OK * 2 ^ 36
    | 1 => s.twin.role * 2 ^ 61 + s.twin.pair * 2 ^ 60 + s.rd Reg.TWIN_EPOCH_TWIN * 2 ^ 44 + flagIf s.twin.crimson (2 ^ 43)
      + flagIf s.twin.safe (2 ^ 42) + flagIf s.twin.inel (2 ^ 41) + s.twinSilence
    | 2 => s.rd Reg.TWIN_DELAY_VALUE * 2 ^ 32 + s.rd Reg.TWIN_M_LOCAL_VALUE
    | _ => s.twin.markers % 256 * 2 ^ 56 + s.rd Reg.TWIN_CFG_FOLLOW_P * 2 ^ 48 + s.rd Reg.TWIN_CFG_FOLLOW_TS * 2 ^ 44)

end Sys2Proof.Machine
end

