-- ==== Sys2Proof/Machine/Capture.lean ====
section
/-! DEFINITION. An edge at the input of a TDC role, and where its stamp goes (R216, R250, R254 to R257, R274). -/
namespace Sys2Proof.Machine

/-- Is the role's input on: the slot passes edges, or EN = 1 (R111, R276)? -/
def State.roleOn (s : State) (c : Nat) : Bool :=
  if c < 22 then s.edgesPass (slotOfRole c) else s.bit (Reg.TDC_CFG_EN c)

/-- Does the role take edges of this polarity (R110, R112, R115, R250, R276)? -/
def State.takesEdge (s : State) (c : Nat) (fall : Bool) : Bool :=
  if c < 22 then
    let n := slotOfRole c
    s.bit (Reg.SLOT_CFG_PPS n) || s.bit (Reg.SLOT_CFG_IRIG n) || decide (fall = s.bit (Reg.SLOT_CFG_POL n))
  else match s.rd (Reg.TDC_CFG_EDGE c) with
    | 1 => fall
    | 2 => true
    | _ => !fall

/-- The feedback comparison period of output `o` times fVCO in 2^-40 Hz, in 2^-16 ns (R216). -/
def State.fbPeriod (s : State) (o : Nat) : Nat :=
  max 1 (s.rd (Reg.OUT_FB_DIV_DIV o)) * max 1 (s.outDiv o) * 2 ^ 40 * 10 ^ 9 * 65536

/-- The feedback phase of a pad edge of output `o` at TB time `t`, in 2^-16 ns (R216): positive where the pad is
later. -/
def State.fbPhase (s : State) (o : Nat) (t : Int) : Int :=
  let f : Int := max 1 (s.apll (o / 4)).plan.f
  let r := roundDiv (s.rampAt (o / 4) t) (2 ^ 48) - ((s.outp o).applied * 64 : Nat)
  roundDiv (fold (s.fbPeriod o : Nat) (r * f)) f

/-- A captured edge of a feedback role enters the bell's mean (R216). -/
def feedback (c : Nat) (st : Stamp) (s : State) : State :=
  let r := s.role c
  let flags := st.flags &&& (flagCoarse ||| flagSupply)
  s.putRole c { r with fbSum := r.fbSum + s.fbPhase (c - 22) st.tb, fbCount := r.fbCount + 1, fbFlags := r.fbFlags ||| flags }

/-- The feedback phase word of output `o` at the bell (R216). -/
def feedbackBell (o : Nat) (s : State) : State :=
  let c := 22 + o
  let r := s.role c
  let f := (s.apll (o / 4)).plan.f
  let off := decide (2 ≤ s.srcAct o) || s.bit (Reg.OUT_CFG_MODE o) ||
    decide (125000000 * 2 ^ 40 * max 1 (s.rd (Reg.OUT_FB_DIV_DIV o)) * max 1 (s.outDiv o) < f)
  let none := off || decide (r.fbCount = 0)
  let mean := if none then r.fbMean else roundDiv r.fbSum r.fbCount
  let n := if none then 0 else r.fbCount
  let flags := if off then 0 else r.fbFlags
  let w := phaseWord (hasFlag flags flagPileup) (hasFlag flags flagCoarse) (hasFlag flags flagSupply) none n mean
  { s.putRole c { r with fbSum := 0, fbCount := 0, fbFlags := 0, fbMean := mean } with inw := tabSet 0 (0x60 + o) w s.inw }

/-- A stamp reaches the consumers that gating concerns: groups, latest-stamp word and record (R256, R257, R274). -/
def gatedConsumers (c : Nat) (st : Stamp) (s : State) : State :=
  let w := stampWord st
  let s := (s.putRole c { s.role c with last := w, fresh := true }).wr (Reg.TDC_LAST_LO_DATA c) w.toNat
  let s := grpStamp c st s
  if (s.roleRing c).any (fun r => (s.ring r).run) then fifoPush c st s else s

/-- An edge of role `c` is lost at its channel (R51, R254, R263): it counts, the role's next stamp carries PILEUP, and so
does the phase word of this bell. -/
def lostEdge (c : Nat) (s : State) : State :=
  let r := s.role c
  let s := s.putRole c { r with pileup := true, fbFlags := if 22 ≤ c ∧ c ≤ 37 then r.fbFlags ||| flagPileup else r.fbFlags }
  let s := if c < 22 then s.putSlot (slotOfRole c) { s.slot (slotOfRole c) with pileup := true } else s
  s.bump (Reg.TDC_PILEUP_COUNT c)

/-- Does an edge of raw time `raw` come within 4.0 ns of the last one that channel `ch` captured (R254)? -/
def State.tooSoon (s : State) (ch : Nat) (raw : Int) : Bool := (s.chan ch).lastT.any (fun l => decide (raw - l < 262144))

/-- The spare whose comparison with role `c` runs (R262). -/
def State.mirrorOf (s : State) (c : Nat) : Option Nat :=
  (List.range 4).find? (fun k => decide ((s.spareState k = 1 ∨ s.spareState k = 3) ∧ s.spareRole k = c))

/-- An edge that the serving channel stamped at TB time `t` is stamped by the second channel of a comparison too, and joins
its mean while MIRROR_N edges have not been seen (R262). -/
def mirrorSee (c : Nat) (x : EdgeIn) (t : Int) (s : State) : State :=
  match s.mirrorOf c, x.mirror with
  | some k, some (coarse, tap) =>
    let o := if s.spareState k = 1 then 48 + k else c
    let y := { x with coarse := coarse, tap := tap }
    let raw := s.rawTime o y
    if !s.chanOk o || s.tooSoon o raw then s
    else
      let d := t - s.tbTime o c y
      let s := s.putChan o { s.chan o with lastT := some raw }
      let m := s.chan (48 + k)
      if m.mirN < s.rd Reg.TDCG_XBAR_CFG_MIRROR_N then s.putChan (48 + k) { m with mirSum := m.mirSum + d, mirN := m.mirN + 1 }
      else s
  | _, _ => s

/-- A stamp of role `c` goes to every consumer of the role (R256). -/
def consumers (c : Nat) (fall : Bool) (st : Stamp) (s : State) : State :=
  let s := if c < 22 then slotDeliver (slotOfRole c) fall st s else s
  let s := if c = 20 ∧ !fall then twinClkEdge st.tb s else if c = 21 ∧ !fall then twinPpsEdge st.tb s else s
  let s := if 22 ≤ c ∧ c ≤ 37 then feedback c st s else s
  if s.bit (Reg.TDC_CFG_GATED c) && !hasFlag st.flags flagWindow then s else gatedConsumers c st s

/-- An edge that reaches role `c`: lost until a spare that has taken the role serves it, or within 4.0 ns of the one
before; captured by the channel that serves the role, if that delivers stamps (R252 to R257, R263). -/
def roleEdge (c : Nat) (x : EdgeIn) (s : State) : State :=
  let ch := s.channelOf c
  if s.up < (s.chan ch).since then lostEdge c s
  else if !s.chanOk ch then s
  else
    let raw := s.rawTime ch x
    if s.tooSoon ch raw then lostEdge c s
    else
      let st := s.stampOf ch c x
      let s := mirrorSee c x st.tb (s.putChan ch { s.chan ch with lastT := some raw })
      consumers c x.fall st ((s.putRole c { s.role c with pileup := false }).bump (Reg.TDC_EDGES_COUNT c))

/-- TDC_EDGE_CAPTURE (R111, R250 to R257): an edge comes to the input of a role; the prescaler of a slot passes every
PRESCALE-th on-time edge. -/
def execTdcEdgeCapture (role : Fin 48) (x : EdgeIn) (s : State) : Out :=
  let c := role.val
  if !s.timeClocked ∨ !s.roleOn c ∨ !s.takesEdge c x.fall then .next s
  else if c < 22 then
    let p := prescale (slotOfRole c) x.fall s
    .next (if p.1 then roleEdge c x p.2 else p.2)
  else .next (roleEdge c x s)

end Sys2Proof.Machine
end

