-- ==== Sys2Proof/Machine/Record.lean ====
section
/-! DEFINITION. The event record: rings, record layouts, gaps, anchors and the DRAM (R279 to R293). -/
namespace Sys2Proof.Machine

/-! ### The DRAM (R279, R292) -/

/-- 64-bit word `i` of the DRAM; zero where nothing has been written since READY (R293). -/
def State.dramWord (s : State) (i : Nat) : Word64 := tabGet 0 i s.dram.mem

/-- Write 64-bit word `i` of the DRAM, with valid check bits. -/
def putDram (i : Nat) (w : Word64) (s : State) : State :=
  { s with dram := { s.dram with mem := tabSet 0 i w s.dram.mem, poison := s.dram.poison.filter (fun j => decide (j ≠ i)) } }

/-- All of the DRAM is zero, with valid check bits (R293, R478). -/
def zeroDram (s : State) : State := { s with dram := { s.dram with mem := [], poison := [] } }

/-- 24 h in ticks of 2.0 ns. -/
def dayTicks : Nat := 43200000000000

/-- What the ECC check of a read of word `i` finds: poisoned check bits stay uncorrectable until the word is written (R292). -/
def State.dramFinds (s : State) (i : Nat) (ecc : Ecc) : Ecc := if i ∈ s.dram.poison then .double else ecc

/-- What the ECC check of a read of word `i` does (R292): a corrected error counts, and the fourth of a row
within 24 h has the row replaced; an uncorrectable one is recorded, counts, raises EVR_ECC and has the row
replaced. -/
def dramEcc (i : Nat) (ecc : Ecc) (s : State) : State :=
  let row := Config.dramRow i
  let d := s.dram
  match s.dramFinds i ecc with
  | .ok => s
  | .single =>
    let errs := ((tabGet [] row d.errs).filter (fun t => decide (s.up < t + dayTicks))) ++ [s.up]
    let due := if 4 ≤ errs.length ∧ row ∉ d.due then d.due ++ [row] else d.due
    ({ s with dram := { d with errs := tabSet [] row errs d.errs, due := due } }).bumpSat Reg.EVR_ECC_CORR
  | .double =>
    let s := { s with dram := { d with
      due := if row ∈ d.due then d.due else d.due ++ [row], poison := if i ∈ d.poison then d.poison else d.poison ++ [i] } }
    ((s.wr Reg.EVR_ECC_ADDR_ADDR (8 * i)).bumpSat Reg.EVR_ECC_UNC).raise 11 noInst i

/-- Has the system PLL locked since START (R28, R293)? -/
def State.sysLocked (s : State) : Bool := decide (s.clk.sys = .locked ∨ s.clk.sys = .lost)

/-- DRAM_INIT_COMPLETE (R293): after SYSPLL_LOCK, all of the DRAM is zero and READY reads 1; a test of the DRAM ends by its
own outcome (R478). -/
def execDramInitComplete (s : State) : Out :=
  .next (if s.sysLocked && !s.bit Reg.EVR_STATUS_READY && !decide (s.bist.map Prod.fst = some 4) then
    (zeroDram s).wr Reg.EVR_STATUS_READY 1
  else s)

/-! ### Rings (R279, R280) -/

/-- 64 KB. -/
def ringUnit : Nat := 65536

/-- Do the spans of two rings overlap? -/
def RingSt.overlaps (x y : RingSt) : Bool := decide (x.base < y.base + y.size ∧ y.base < x.base + x.size)

/-- What keeps ring `r`, as `x` has read its configuration, from starting, apart from READY (R280). -/
def State.ringConflict (s : State) (r : Nat) (x : RingSt) : Bool :=
  decide (2048 * ringUnit < x.base + x.size) ||
  (List.range 8).any (fun q => decide (q ≠ r) && s.bit (Reg.EVR_RING_CFG_EN q) && x.overlaps (s.ring q)) ||
  (x.compact && (List.range 16).any (fun m => decide (s.groupRing m = some r)))

/-- Show WR, RD and WRITTEN in their registers. -/
def ringRegs (r wr rd : Nat) (s : State) : State :=
  s.wrs [(Reg.EVR_RING_WR_OFFSET r, wr), (Reg.EVR_RING_RD_OFFSET r, rd), (Reg.EVR_RING_WRITTEN_LO_COUNT r, (s.ring r).written)]

/-- A ring whose EN goes to 1 reads its configuration and starts, or waits for READY, or shows CFG_ERR; under a
parity mismatch of the block it does not start (R280, R405). -/
def ringEnable (r : Nat) (s : State) : State :=
  let x : RingSt := {
    base := s.rd (Reg.EVR_RING_BASE_UNITS r) * ringUnit, size := s.rd (Reg.EVR_RING_SIZE_UNITS r) * ringUnit
    compact := s.bit (Reg.EVR_RING_CFG_FORMAT r), overwrite := s.bit (Reg.EVR_RING_CFG_POLICY r)
    ts := s.rd (Reg.EVR_RING_CFG_TS r), lost := (s.ring r).lost }
  let bad := s.ringConflict r x
  let ready := s.bit Reg.EVR_STATUS_READY && !s.parityIn 0x3E000 0x180
  let s := s.wr (Reg.EVR_RING_CFG_EN r) 1
  ringRegs r 0 0 (s.putRing r { x with run := !bad && ready, wait := !bad && !ready, cfgErr := bad || !s.bit Reg.EVR_STATUS_READY })

/-- RING_ENABLE (R280): a change of EN from 0 to 1. -/
def doRingEnable (r : Fin 8) (s : State) : Out :=
  .next (if s.bit (Reg.EVR_RING_CFG_EN r) then s else ringEnable r s)

/-- RING_DEFERRED_START (R280): a ring that waits for READY starts, if nothing else keeps it from starting now. -/
def execRingDeferredStart (r : Fin 8) (s : State) : Out :=
  let x := s.ring r
  .next (if x.wait ∧ s.bit Reg.EVR_STATUS_READY ∧ !s.parityIn 0x3E000 0x180 then
    (let bad := s.ringConflict r x
     s.putRing r { x with run := !bad, wait := false, cfgErr := bad })
  else s)

/-- Records in flight to ring `r`: stamps in the FIFOs of its roles and interval records of its groups. -/
def State.inFlight (s : State) (r : Nat) : Nat :=
  ((List.range 48).filter (fun c => s.roleRing c == some r)).foldl (fun n c => n + (s.role c).fifo.length) 0 +
  ((List.range 16).filter (fun m => s.groupRing m == some r)).foldl (fun n m => n + (s.grp m).recs.length) 0

/-- RING_DISABLE (R280): capture stops, the records in flight count in DROPPED, the contents stay. -/
def doRingDisable (r : Fin 8) (s : State) : Out :=
  let n := if (s.ring r).run then s.inFlight r else 0
  let s := forRange 48 (fun c s => if s.roleRing c = some r.val then s.putRole c { s.role c with fifo := [] } else s) s
  let s := forRange 16 (fun m s => if s.groupRing m = some r.val then s.putGrp m { s.grp m with recs := [] } else s) s
  .next (((s.putRing r { s.ring r with run := false, wait := false, cfgErr := false, lost := (s.ring r).lost + n }).wr (Reg.EVR_RING_CFG_EN r) 0).bump
    (Reg.EVR_RING_DROPPED_COUNT r) n)

/-! ### Record layouts (R283 to R288) -/

/-- A record before it has its index: its channel or code, its byte [55:48], its low word and its WT (R283 to
R286). -/
structure Draft where
  chan : Nat
  flags : Nat
  low : Nat
  wt : Nat
deriving DecidableEq, Repr

/-- The codes of R286. -/
def codeAnchor : Nat := 0x3F
def codeGap : Nat := 0x3E
def codePad : Nat := 0x3D
def codeLong : Nat := 0x3C

/-- The first word of a full record with sequence `seq` (R283). -/
def Draft.word (d : Draft) (seq : Nat) : Word64 :=
  BitVec.ofNat 64 (d.chan % 256 * 2 ^ 56 + d.flags % 256 * 2 ^ 48 + seq % 65536 * 2 ^ 32 + d.low % 2 ^ 32)

/-- The first word of a two-word special record of a COMPACT ring (R286). -/
def Draft.special (d : Draft) (seq : Nat) : Word64 :=
  BitVec.ofNat 64 (d.chan % 64 * 2 ^ 58 + d.flags % 256 * 2 ^ 48 + seq % 65536 * 2 ^ 32 + d.low % 2 ^ 32)

/-- QUAL of a compact record (R285). -/
def qual (flags : Nat) : Bool :=
  hasFlag flags flagCoarse || hasFlag flags flagSupply || hasFlag flags flagPileup || hasFlag flags flagDll || hasFlag flags flagLost

/-- A compact stamp record (R285). -/
def compactWord (d : Draft) : Word64 :=
  BitVec.ofNat 64 (d.chan % 64 * 2 ^ 58 + (flagIf (hasFlag d.flags flagFall) (2 ^ 57)) + (flagIf (qual d.flags) (2 ^ 56))
    + d.wt % 2 ^ 56)

/-- The words of a draft in ring `x` as record `seq`: a special record, or a stamp or interval record (R283 to
R286, R288). -/
def RingSt.words (x : RingSt) (special : Bool) (d : Draft) (seq : Nat) : List Word64 :=
  if !x.compact then [d.word seq, BitVec.ofNat 64 d.wt]
  else if special then [d.special seq, BitVec.ofNat 64 d.wt]
  else if (sdiff d.wt x.anchorWt).natAbs < 2 ^ 54 then [compactWord d]
  else
    let long : Draft := { chan := codeLong, flags := d.chan, low := d.low, wt := d.wt }
    [long.special (d.flags % 256 * 256), BitVec.ofNat 64 d.wt]

/-- The timescale of ring `r` at this moment: its WT and its seconds (R286). -/
def State.ringTime (s : State) (n : Nat) : Nat × Nat :=
  let v := (s.tscale n).val
  (wtOf v, v / (10 ^ 9 * 2 ^ 64) % 2 ^ 32)

/-! ### Space (R279, R286, R289, R290) -/

/-- The bytes in use between RD and WR. -/
def ringUsed (size rd wr : Nat) : Nat := if rd ≤ wr then wr - rd else wr + size - rd

/-- The bytes of the record or pad that stands at byte offset `o` of a ring (R283 to R286). -/
def State.recordBytes (s : State) (x : RingSt) (o : Nat) : Nat :=
  if !x.compact then 16
  else
    let code := (s.dramWord ((x.base + o) / 8)).toNat / 2 ^ 58
    if code = codeAnchor ∨ code = codeGap ∨ code = codeLong then 16 else 8

/-- Does a pad word stand at byte offset `o`? -/
def State.isPad (s : State) (x : RingSt) (o : Nat) : Bool :=
  x.compact && decide ((s.dramWord ((x.base + o) / 8)).toNat / 2 ^ 58 = codePad)

/-- The record start that follows a record start at `o`. -/
def State.nextRecord (s : State) (x : RingSt) (o : Nat) : Nat :=
  if x.size ≤ o + s.recordBytes x o then 0 else o + s.recordBytes x o

/-- A record start moved over the record or pad that stands there, with the index of its record. -/
def State.passRecord (s : State) (x : RingSt) (o i : Nat) : Nat × Nat :=
  (s.nextRecord x o, if s.isPad x o then i else i + 1)

/-- Move a record start `o` with its index forward while the next start is not past `rd`; both are measured from
`o` up. -/
def State.startBefore (s : State) (x : RingSt) (rd : Nat) : Nat → Nat × Nat → Nat × Nat
  | 0, o => o
  | f + 1, o =>
    if ringUsed x.size o.1 rd < s.recordBytes x o.1 then o else s.startBefore x rd f (s.passRecord x o.1 o.2)

/-- A record start moved over the record that stands there and over a pad word behind it, which is no record (R286,
R290). -/
def State.passWhole (s : State) (x : RingSt) (wr o i : Nat) : Nat × Nat :=
  let n := s.passRecord x o i
  if n.1 ≠ wr ∧ s.isPad x n.1 then s.passRecord x n.1 n.2 else n

/-- OVERWRITE makes room for `need` bytes (R290): RD moves past the oldest whole records, each of which counts in
DROPPED. -/
def overwrite (r need : Nat) : Nat → State → State
  | 0, s => s
  | f + 1, s =>
    let x := s.ring r
    let rd := s.rd (Reg.EVR_RING_RD_OFFSET r)
    let wr := s.rd (Reg.EVR_RING_WR_OFFSET r)
    if ringUsed x.size rd wr + need + 16 ≤ x.size ∨ rd = wr then s
    else
      let o := s.passWhole x wr x.mark x.markIdx
      let s := if s.isPad x x.mark then s else s.bump (Reg.EVR_RING_DROPPED_COUNT r)
      overwrite r need f ((s.putRing r { x with mark := o.1, markIdx := o.2 }).wr (Reg.EVR_RING_RD_OFFSET r) o.1)

/-- Write the words of one record at WR; the record is counted (R279, R286). -/
def ringAppend (r : Nat) (ws : List Word64) (s : State) : State :=
  let x := s.ring r
  let wr := s.rd (Reg.EVR_RING_WR_OFFSET r)
  let pad := decide (ws.length = 2 ∧ x.size - wr = 8)
  let s := if pad then putDram ((x.base + wr) / 8) (BitVec.ofNat 64 (codePad * 2 ^ 58)) s else s
  let at' := if pad then 0 else wr
  let s := (List.range ws.length).foldl (fun s i => putDram ((x.base + at') / 8 + i) (ws.getD i 0) s) s
  let wr := if x.size ≤ at' + 8 * ws.length then 0 else at' + 8 * ws.length
  ringRegs r wr (s.rd (Reg.EVR_RING_RD_OFFSET r)) (s.putRing r { x with written := x.written + 1, full := false })

/-- The record is refused (R289): it counts in DROPPED, and the first refusal after a write raises RING_FULL. -/
def ringRefuse (r : Nat) (s : State) : State :=
  let x := s.ring r
  let s := (s.putRing r { x with lost := x.lost + 1, full := true }).bump (Reg.EVR_RING_DROPPED_COUNT r)
  if x.full then s else s.raise 35 r

/-- The GAP draft of a source, with the count lost (R286, R291). -/
def State.gapDraft (s : State) (ts code count : Nat) : Draft :=
  { chan := codeGap, flags := code, low := min count (2 ^ 32 - 1), wt := (s.ringTime ts).1 }

/-- The ANCHOR draft of ring `r` at this moment, for a step where `step` (R286, R287). -/
def State.anchorDraft (s : State) (r : Nat) (step : Bool) : Draft :=
  let x := s.ring r
  let t := s.ringTime x.ts
  { chan := codeAnchor, flags := x.ts + flagIf step 4, low := t.2, wt := t.1 }

/-- Ring `r` has its anchor of WT `wt`: none is owed any more. -/
def anchored (r wt : Nat) (s : State) : State :=
  s.putRing r { s.ring r with owed := false, owedStep := false, hi := wt / 2 ^ 52, anchorWt := wt }

/-- Does one of the `gaps` gap records lead up to an index that belongs to an anchor (R287)? -/
def RingSt.anchorAfter (x : RingSt) (gaps : Nat) : Bool :=
  (List.range gaps).any (fun i => decide ((x.written + i + 1) % 2 ^ 20 = 0))

/-- A draft is written as the next record of ring `r`. -/
def ringPut (r : Nat) (special : Bool) (d : Draft) (s : State) : State :=
  ringAppend r ((s.ring r).words special d (s.ring r).written) s

/-- A gap record is written, and behind it the anchor `a` where `mid` and the next index ask for one (R287, R291). -/
def gapPut (r : Nat) (mid : Bool) (a d : Draft) (s : State) : State :=
  let s := ringPut r true d s
  if mid && decide ((s.ring r).written % 2 ^ 20 = 0) then anchored r a.wt (ringPut r true a s) else s

/-- The ring's own gap where `own`, the gap of source `code` with its count, then the record: all fit (R291). -/
def gapsPut (r : Nat) (own mid special : Bool) (a d : Draft) (code gap : Nat) (s : State) : State :=
  let x := s.ring r
  let s := if own then gapPut r mid a (s.gapDraft x.ts 0x7F x.lost) (s.putRing r { x with lost := 0 }) else s
  let s := if 0 < gap then gapPut r mid a (s.gapDraft x.ts code gap) s else s
  ringPut r special d s

/-- The ring as a record behind an anchor of WT `wt` finds it. -/
def RingSt.behind (x : RingSt) (mid : Bool) (wt : Nat) : RingSt := if mid then { x with anchorWt := wt } else x

/-- Does the ring's own gap go before a record (R291)? Not under OVERWRITE, and not before an anchor whose index is a
multiple of 2^20, which R287 makes the first record (DEDUCED, assumption 51). -/
def RingSt.ownGap (x : RingSt) (special : Bool) : Bool :=
  !x.overwrite && decide (0 < x.lost) && !(special && decide (x.written % 2 ^ 20 = 0))

/-- The anchor that an index after the gaps of a record asks for (R287), with the number of those gaps. -/
def RingSt.midAnchor (x : RingSt) (special : Bool) (gap : Nat) : Bool × Nat :=
  let gaps := (x.ownGap special).toNat + (decide (0 < gap)).toNat
  (!special && x.anchorAfter gaps, gaps)

/-- The bytes that a record needs with everything that must precede it (R286, R287, R289). -/
def State.ringNeed (s : State) (r : Nat) (special : Bool) (d : Draft) (gap : Nat) : Nat :=
  let x := s.ring r
  let m := x.midAnchor special gap
  let n := ((x.behind m.1 (s.anchorDraft r x.owedStep).wt).words special d 0).length
  let toEnd := x.size - s.rd (Reg.EVR_RING_WR_OFFSET r)
  let twos := m.2 + m.1.toNat + (decide (n = 2)).toNat
  8 * n + 16 * (m.2 + m.1.toNat) + flagIf (x.compact && decide (toEnd % 16 = 8 ∧ toEnd < 16 * twos)) 8

/-- Are `need` bytes free in ring `r`, beside the slot that stays free (R279)? -/
def State.ringFits (s : State) (r need : Nat) : Bool :=
  let x := s.ring r
  decide (ringUsed x.size (s.rd (Reg.EVR_RING_RD_OFFSET r)) (s.rd (Reg.EVR_RING_WR_OFFSET r)) + need + 16 ≤ x.size)

/-- Room for a record, made under OVERWRITE (R289, R290). -/
def ringRoom (r : Nat) (special : Bool) (d : Draft) (gap : Nat) (s : State) : Bool × State :=
  let x := s.ring r
  let need := s.ringNeed r special d gap
  let s := if x.overwrite then overwrite r need (x.size / 8) s else s
  (s.ringFits r need, s)

/-- Write a record with the gap of its source, if `gap` records of it are lost, and with the ring's own gap
before both (R289, R291), and with the anchor that an index after a gap asks for (R287); `false` where the ring
refuses. Under OVERWRITE the ring makes room and writes no gap of its own. -/
def ringWrite (r : Nat) (special : Bool) (d : Draft) (code gap : Nat) (s : State) : Bool × State :=
  let x := s.ring r
  let room := ringRoom r special d gap s
  if !room.1 then (false, ringRefuse r room.2)
  else (true, gapsPut r (x.ownGap special) (x.midAnchor special gap).1 special (s.anchorDraft r x.owedStep) d code gap room.2)

/-! ### Anchors (R287) -/

/-- An anchor falls due in ring `r`, for a step where `step`: it is written, or refused, counted and owed (R287, R291). -/
def anchorTry (r : Nat) (step : Bool) (s : State) : State :=
  let d := s.anchorDraft r (step || (s.ring r).owedStep)
  let a := ringWrite r true d 0 0 s
  if a.1 then anchored r d.wt a.2
  else a.2.putRing r { a.2.ring r with owed := true, owedStep := step || (s.ring r).owedStep, hi := d.wt / 2 ^ 52 }

/-- Each of `n` steps of the ring's timescale has its anchor (R287). -/
def anchorSteps (r : Nat) : Nat → State → State
  | 0, s => s
  | n + 1, s => anchorSteps r n (anchorTry r true (s.putRing r { s.ring r with steps := n }))

/-- Is an anchor due in ring `r` other than for a step: at a change of bits [63:52] of the ring's WT, or at an index that is
a multiple of 2^20 (R287)? -/
def State.indexAnchor (s : State) (r : Nat) : Bool :=
  let x := s.ring r
  (decide (x.written % 2 ^ 20 = 0) && !x.owed) || decide ((s.ringTime x.ts).1 / 2 ^ 52 ≠ x.hi)

/-- The anchors that have fallen due in ring `r` (R287). -/
def anchors (r : Nat) (s : State) : State :=
  let s := anchorSteps r (s.ring r).steps s
  if s.indexAnchor r then anchorTry r false s else s

/-- ANCHOR_WRITE (R287). -/
def execAnchorWrite (r : Fin 8) (s : State) : Out := .next (if (s.ring r).run then anchors r s else s)

/-- A record of a source reaches ring `r`: after the anchors that are due, one of them owed from a refusal, with the
source's gap (R287, R289, R291); the answer says whether it was written. -/
def ringRecord (r : Nat) (d : Draft) (code gap : Nat) (s : State) : Bool × State :=
  let s := anchors r s
  if (s.ring r).owed then
    let a := s.anchorDraft r (s.ring r).owedStep
    let room := ringRoom r true a 0 s
    if !room.1 then (false, ringRefuse r room.2)
    else ringWrite r false d code gap (anchored r a.wt (ringWrite r true a 0 0 s).2)
  else ringWrite r false d code gap s

/-! ### Records reach their rings (R281, R282, R289) -/

/-- The oldest stamp of role `c` reaches its ring. -/
def roleRecord (c : Nat) (s : State) : State :=
  let q := s.role c
  match q.fifo with
  | [] => s
  | st :: rest =>
    let s := s.putRole c { q with fifo := rest }
    match s.roleRing c with
    | none => s
    | some r =>
      let x := s.ring r
      if !x.run then s
      else if x.compact ∧ s.roleTs c ≠ x.ts then
        (s.putRing r { x with lost := x.lost + 1 }).bump (Reg.EVR_RING_DROPPED_COUNT r)
      else
        let a := ringRecord r { chan := c, flags := st.flags, low := st.sec, wt := st.wt } c q.lostCount s
        if a.1 then a.2.putRole c { a.2.role c with lostCount := 0 } else a.2

/-- The oldest interval record of group `m` reaches its ring. -/
def groupRecord (m : Nat) (s : State) : State :=
  let g := s.grp m
  match g.recs with
  | [] => s
  | i :: rest =>
    let s := s.putGrp m { g with recs := rest }
    match s.groupRing m with
    | none => s
    | some r =>
      if !(s.ring r).run || (s.ring r).compact then s
      else
        let gap := tabGet 0 i.pos g.posLost
        let flags := i.flags % 128 + (flagIf (decide (256 ≤ i.flags)) 128)
        let code := 0x80 + 8 * m + i.pos
        let a := ringRecord r { chan := code, flags := flags, low := ofSigned 32 (satInt 32 i.x), wt := i.wt } code gap s
        if a.1 then a.2.putGrp m { a.2.grp m with posLost := tabSet 0 i.pos 0 (a.2.grp m).posLost } else a.2

/-- Source `i`, a role or 48 with a group, has data for the record path (R273). -/
def State.sourceHas (s : State) (i : Nat) : Bool := if i < 48 then !(s.role i).fifo.isEmpty else !(s.grp (i - 48)).recs.isEmpty

/-- The source that the record path serves next, round-robin among those that have data (R273). DEDUCED (assumption 51): one
record at a turn, in ascending order of roles and then groups. -/
def State.nextSource (s : State) : Option Nat :=
  ((List.range 64).map (fun i => (s.dram.served + 1 + i) % 64)).find? s.sourceHas

/-- EVR_RECORD_WRITE (R273, R282, R289): the oldest waiting record of a source, when its turn comes, reaches its ring and is
written or refused. -/
def execEvrRecordWrite (src : RecSource) (s : State) : Out :=
  let i := match src with
    | .role c => c.val
    | .group m => 48 + m.val
  .next (if s.nextSource = some i then
    (let s := { s with dram := { s.dram with served := i } }
     if i < 48 then roleRecord i s else groupRecord (i - 48) s)
  else s)

/-- `EVR.RINGr_STATUS.TS_MISMATCH` (R281). -/
def State.tsMismatch (s : State) (r : Nat) : Bool :=
  let x := s.ring r
  x.run && x.compact && (List.range 48).any (fun c => decide (s.roleRing c = some r ∧ s.roleTs c ≠ x.ts))

/-- `EVR.RINGr_STATUS.FULL` (R300): less than 16 bytes free beside the slot that always stays free. -/
def State.ringFull (s : State) (r : Nat) : Bool :=
  let x := s.ring r
  decide (0 < x.size ∧ x.size < ringUsed x.size (s.rd (Reg.EVR_RING_RD_OFFSET r)) (s.rd (Reg.EVR_RING_WR_OFFSET r)) + 32)

/-! ### Read-out (R291, R295) -/

/-- RING_RD_WRITE (R291, R300): the host moves RD, within the span from RD to WR. -/
def doRingRdWrite (r : Fin 8) (off : BitVec 27) (s : State) : Out :=
  let x := s.ring r
  let o := off.toNat
  let rd := s.rd (Reg.EVR_RING_RD_OFFSET r)
  let wr := s.rd (Reg.EVR_RING_WR_OFFSET r)
  let ok := decide (o % 8 = 0) && !s.bit (Reg.EVR_RING_CFG_STREAM r) &&
    (decide (o = rd) || (decide (o < x.size) && decide (ringUsed x.size rd o ≤ ringUsed x.size rd wr)))
  .next (if ok then
    let m := s.startBefore x o (x.size / 8) (x.mark, x.markIdx)
    (s.putRing r { x with mark := m.1, markIdx := m.2 }).wrs
      [(Reg.EVR_RING_RD_OFFSET r, o), (Reg.EVR_RING_STATUS_RD_ERR r, 0)]
  else s.wr (Reg.EVR_RING_STATUS_RD_ERR r) 1)

end Sys2Proof.Machine
end

