-- ==== Sys2Proof/Machine/Sha.lean ====
section
/-! DEFINITION. SHA-256 (FIPS 180-4) and HMAC-SHA-256 (RFC 2104), which R342 names for the ICV of a PTP
message. -/
namespace Sys2Proof.Machine

/-- The 64 round constants, in four parts. -/
def shaK0 : List Word32 :=
  [0x428A2F98, 0x71374491, 0xB5C0FBCF, 0xE9B5DBA5,
   0x3956C25B, 0x59F111F1, 0x923F82A4, 0xAB1C5ED5,
   0xD807AA98, 0x12835B01, 0x243185BE, 0x550C7DC3,
   0x72BE5D74, 0x80DEB1FE, 0x9BDC06A7, 0xC19BF174]
def shaK1 : List Word32 :=
  [0xE49B69C1, 0xEFBE4786, 0x0FC19DC6, 0x240CA1CC,
   0x2DE92C6F, 0x4A7484AA, 0x5CB0A9DC, 0x76F988DA,
   0x983E5152, 0xA831C66D, 0xB00327C8, 0xBF597FC7,
   0xC6E00BF3, 0xD5A79147, 0x06CA6351, 0x14292967]
def shaK2 : List Word32 :=
  [0x27B70A85, 0x2E1B2138, 0x4D2C6DFC, 0x53380D13,
   0x650A7354, 0x766A0ABB, 0x81C2C92E, 0x92722C85,
   0xA2BFE8A1, 0xA81A664B, 0xC24B8B70, 0xC76C51A3,
   0xD192E819, 0xD6990624, 0xF40E3585, 0x106AA070]
def shaK3 : List Word32 :=
  [0x19A4C116, 0x1E376C08, 0x2748774C, 0x34B0BCB5,
   0x391C0CB3, 0x4ED8AA4A, 0x5B9CCA4F, 0x682E6FF3,
   0x748F82EE, 0x78A5636F, 0x84C87814, 0x8CC70208,
   0x90BEFFFA, 0xA4506CEB, 0xBEF9A3F7, 0xC67178F2]
/-- The round constants. -/
def shaK : List Word32 := shaK0 ++ shaK1 ++ shaK2 ++ shaK3
/-- The initial hash value. -/
def shaH : List Word32 :=
  [0x6A09E667, 0xBB67AE85, 0x3C6EF372, 0xA54FF53A,
   0x510E527F, 0x9B05688C, 0x1F83D9AB, 0x5BE0CD19]

/-- Rotate right. -/
def rotr (x : Word32) (n : Nat) : Word32 := x.rotateRight n

/-- The next word of the message schedule from the last sixteen, newest first. -/
def shaNext (w : List Word32) : Word32 :=
  let a := w.getD 14 0
  let b := w.getD 1 0
  (rotr b 17 ^^^ rotr b 19 ^^^ (b >>> 10)) + w.getD 6 0 + (rotr a 7 ^^^ rotr a 18 ^^^ (a >>> 3)) + w.getD 15 0

/-- The message schedule of a block, newest word first. -/
def shaSchedule (block : List Word32) : List Word32 :=
  (List.range 48).foldl (fun w _ => shaNext w :: w) block.reverse

/-- One round with constant plus schedule word `kw`. -/
def shaRound (h : List Word32) (kw : Word32) : List Word32 :=
  let a := h.getD 0 0
  let b := h.getD 1 0
  let c := h.getD 2 0
  let e := h.getD 4 0
  let f := h.getD 5 0
  let g := h.getD 6 0
  let t1 := h.getD 7 0 + (rotr e 6 ^^^ rotr e 11 ^^^ rotr e 25) + ((e &&& f) ^^^ (~~~e &&& g)) + kw
  let t2 := (rotr a 2 ^^^ rotr a 13 ^^^ rotr a 22) + ((a &&& b) ^^^ (a &&& c) ^^^ (b &&& c))
  [t1 + t2, a, b, c, h.getD 3 0 + t1, e, f, g]

/-- The compression of one block of sixteen words. -/
def shaBlock (h block : List Word32) : List Word32 :=
  let kws := List.zipWith (· + ·) shaK (shaSchedule block).reverse
  List.zipWith (· + ·) h (kws.foldl shaRound h)

/-- The big-endian words of a list of bytes. -/
def shaWords : List (BitVec 8) → List Word32
  | a :: b :: c :: d :: r => (a ++ b ++ c ++ d) :: shaWords r
  | _ => []

/-- The padding of a message of `n` bytes. -/
def shaPad (n : Nat) : List (BitVec 8) :=
  0x80 :: (List.replicate ((119 - n % 64) % 64) 0 ++ (List.range 8).map (fun k => BitVec.ofNat 8 (8 * n / 256 ^ (7 - k))))

/-- Hash `n` blocks of the words `w`. -/
def shaBlocks : Nat → List Word32 → List Word32 → List Word32
  | 0, h, _ => h
  | n + 1, h, w => shaBlocks n (shaBlock h (w.take 16)) (w.drop 16)

/-- SHA-256 of a list of bytes, 32 bytes. -/
def sha256 (m : List (BitVec 8)) : List (BitVec 8) :=
  let w := shaWords (m ++ shaPad m.length)
  (shaBlocks (w.length / 16) shaH w).flatMap (fun x =>
    [x.extractLsb' 24 8, x.extractLsb' 16 8, x.extractLsb' 8 8, x.extractLsb' 0 8])

/-- HMAC-SHA-256 with a key of at most 64 bytes (R464). -/
def hmacSha256 (key m : List (BitVec 8)) : List (BitVec 8) :=
  let k := key ++ List.replicate (64 - key.length) 0
  sha256 (k.map (· ^^^ 0x5C) ++ sha256 (k.map (· ^^^ 0x36) ++ m))

end Sys2Proof.Machine
end

