-- ==== Sys2Proof/Machine/Frames.lean ====
section
/-! DEFINITION. Frames as bytes, the PTP message in a frame, one-step insertion, and bytes in commons and host
memory (R305, R309, R331, R334, R335, R342). -/
namespace Sys2Proof.Machine

/-- A byte. -/
abbrev Byte := BitVec 8

/-! ### The frame check sequence (R305) -/

/-- One bit of the CRC of an Ethernet frame. -/
def crcBit (c : BitVec 32) : BitVec 32 := if c.getLsbD 0 then (c >>> 1) ^^^ 0xEDB88320 else c >>> 1

/-- The FCS that the port appends to a frame's bytes (R305, R318). -/
def fcsOf (b : List Byte) : List Byte :=
  let c := ~~~ (b.foldl (fun c x => (List.range 8).foldl (fun c _ => crcBit c) (c ^^^ x.zeroExtend 32)) 0xFFFFFFFF)
  (List.range 4).map (fun k => c.extractLsb' (8 * k) 8)

/-! ### Bytes -/

/-- Byte `i` of a frame; 0 past its end. -/
def byteAt (b : List Byte) (i : Nat) : Nat := (b.getD i 0).toNat

/-- `n` bytes from `i` on as a big-endian number. -/
def beRead (b : List Byte) (i n : Nat) : Nat := (List.range n).foldl (fun v k => v * 256 + byteAt b (i + k)) 0

/-- `n` bytes from `i` on as a little-endian number. -/
def leRead (b : List Byte) (i n : Nat) : Nat := (List.range n).foldr (fun k v => v * 256 + byteAt b (i + k)) 0

/-- The `n` big-endian bytes of `v`. -/
def beBytes (n v : Nat) : List Byte := (List.range n).map (fun k => BitVec.ofNat 8 (v / 256 ^ (n - 1 - k)))

/-- The `n` little-endian bytes of `v`. -/
def leBytes (n v : Nat) : List Byte := (List.range n).map (fun k => BitVec.ofNat 8 (v / 256 ^ k))

/-- `b` with the bytes `w` put at `i`. -/
def putBytes (b : List Byte) (i : Nat) (w : List Byte) : List Byte := b.take i ++ w ++ b.drop (i + w.length)

/-- A signed number in 64-bit two's complement, held at the largest value where it overflows (R335). -/
def satCorrection (x : Int) : Nat := if saturates 64 x then 0x7FFFFFFFFFFFFFFF else ofSigned 64 x

/-- The ones'-complement sum of big-endian 16-bit words, folded (RFC 1071's checksum before the complement). -/
def onesSum (b : List Byte) : Nat :=
  let n := (b.length + 1) / 2
  let s := (List.range n).foldl (fun v k => v + beRead b (2 * k) 2) 0
  let s := s / 65536 + s % 65536
  s / 65536 + s % 65536

/-! ### Memory by bytes -/

/-- A byte of commons. -/
def State.commonsByte (s : State) (a : Nat) : Byte := (tabGet 0 (a / 8) s.commons).extractLsb' (8 * (a % 8)) 8

/-- Write a byte of commons. -/
def putCommonsByte (a : Nat) (v : Byte) (s : State) : State :=
  let w := (tabGet 0 (a / 8) s.commons).toNat
  let sh := 2 ^ (8 * (a % 8))
  let w := w - w / sh % 256 * sh + v.toNat * sh
  { s with commons := tabSet 0 (a / 8) (BitVec.ofNat 64 w) s.commons }

/-- Does byte address `a` lie in the lesson data of commons (R46)? -/
def inLessonData (a : Nat) : Bool := decide (0xC0000 ≤ a ∧ a ≤ 0x1FFFFF)

/-- Write bytes where a queue's owner keeps its ring and buffers (R309): commons lesson data, or host memory by
a bus-master write, which needs Bus Master Enable (assumption 52). A LESSON address outside lesson data takes no byte. -/
def ownerWrite (lesson : Bool) (a : Nat) (b : List Byte) (s : State) : State :=
  (List.range b.length).foldl (fun s k =>
    let v := b.getD k 0
    if lesson then (if inLessonData (a + k) then putCommonsByte (a + k) v s else s)
    else if s.busMaster then { s with hostMem := tabSet 0 (a + k) v s.hostMem } else s) s

/-- `n` bytes of commons from `a` on. -/
def State.commonsRead (s : State) (a n : Nat) : List Byte := (List.range n).map (fun k => s.commonsByte (a + k))

/-! ### The frame (R305, R307, R331) -/

/-- Is a frame tagged (R305)? -/
def isTagged (b : List Byte) : Bool := decide (beRead b 12 2 = 0x8100 ∨ beRead b 12 2 = 0x88A8)

/-- Where the EtherType of a frame stands, after at most one tag. -/
def typeAt (b : List Byte) : Nat := if isTagged b then 16 else 12

/-- The EtherType. -/
def etherType (b : List Byte) : Nat := beRead b (typeAt b) 2

/-- Where the UDP header of a frame starts: over IPv4 without options and fragmentation, or over IPv6 without
extension headers (R331). -/
def udpAt (b : List Byte) : Option Nat :=
  let p := typeAt b + 2
  if etherType b = 0x0800 then
    if byteAt b p = 0x45 ∧ byteAt b (p + 9) = 17 ∧ beRead b (p + 6) 2 % 16384 = 0 then some (p + 20) else none
  else if etherType b = 0x86DD then (if byteAt b (p + 6) = 17 then some (p + 40) else none)
  else none

/-- The UDP destination port that a receive rule compares (R307): over IPv4 with its header length, or over IPv6
without extension headers. -/
def udpPort (b : List Byte) : Option Nat :=
  let p := typeAt b + 2
  if etherType b = 0x0800 then
    if byteAt b p / 16 = 4 ∧ byteAt b (p + 9) = 17 then some (beRead b (p + 4 * (byteAt b p % 16) + 2) 2) else none
  else if etherType b = 0x86DD ∧ byteAt b (p + 6) = 17 then some (beRead b (p + 42) 2)
  else none

/-- Where the PTP message of a frame starts, if the frame is PTP (R331). -/
def ptpAt (b : List Byte) : Option Nat :=
  let at' := if etherType b = 0x88F7 then some (typeAt b + 2)
    else match udpAt b with
      | some u => if beRead b (u + 2) 2 = 319 ∨ beRead b (u + 2) 2 = 320 then some (u + 8) else none
      | none => none
  at'.filter (fun p => decide (byteAt b (p + 1) % 16 = 2))

/-- messageType (R331). -/
def msgType (b : List Byte) (p : Nat) : Nat := byteAt b p % 16

/-- messageLength, bytes 2 and 3 of the PTP header (IEEE 1588). -/
def msgLength (b : List Byte) (p : Nat) : Nat := beRead b (p + 2) 2

/-! ### The AUTHENTICATION TLV (R342) -/

/-- The length of a PTP message without its TLVs, by messageType (IEEE 1588-2019 clause 13). -/
def bodyLength : Nat → Nat
  | 0x9 => 54 | 0x2 => 54 | 0x3 => 54 | 0xA => 54 | 0xB => 64 | 0xD => 48 | _ => 44

/-- The last TLV of a message that ends at `stop`, from a TLV at `t` on. -/
def lastTlv (b : List Byte) (stop : Nat) : Nat → Nat → Option Nat
  | 0, _ => none
  | f + 1, t =>
    if stop < t + 4 then none
    else
      let next := t + 4 + beRead b (t + 2) 2
      if next = stop then some t else lastTlv b stop f next

/-- The AUTHENTICATION TLV that ends the PTP message at `p` (IEEE 1588-2019 clause 16.14: type 0x8009, length, SPP,
secParamIndicator, keyID, then the ICV): its position. -/
def authTlv (b : List Byte) (p : Nat) : Option Nat :=
  (lastTlv b (p + msgLength b p) 64 (p + bodyLength (msgType b p))).filter (fun t => decide (beRead b t 2 = 0x8009))

/-- The key of a slot of the key store; empty where none is held (R464). -/
def State.key (s : State) (k : Nat) : List Byte := tabGet [] k s.keys

/-- The enabled association of port `n` that an AUTHENTICATION TLV at `t` names, with secParamIndicator 0 (R342). -/
def State.association (s : State) (n : Nat) (b : List Byte) (t : Nat) : Option Nat :=
  if byteAt b (t + 5) ≠ 0 then none
  else (List.range 4).find? (fun k => s.bit (Reg.PTP_SA_CFG_EN n k) &&
    decide (s.rd (Reg.PTP_SA_CFG_SPP n k) = byteAt b (t + 4) ∧ s.rd (Reg.PTP_SA_KEYID_KEYID n k) = beRead b (t + 6) 4))

/-! ### One-step insertion (R334, R335) -/

/-- Can a ONE_STEP frame be rewritten (R334)? -/
def oneStepAt (b : List Byte) : Option Nat :=
  (ptpAt b).filter (fun p => decide (msgType b p ≤ 1 ∧ byteAt b (p + 6) / 2 % 2 = 0 ∧ 44 ≤ msgLength b p))

/-- originTimestamp and correctionField of the message at `p` after the stamp `v` in 2^-16 ns (R335). -/
def insertStamp (b : List Byte) (p v : Nat) : List Byte :=
  let ns := v / 65536
  let b := putBytes b (p + 34) (beBytes 6 (ns / 10 ^ 9) ++ beBytes 4 (ns % 10 ^ 9))
  let corr := toSigned 64 (beRead b (p + 8) 8) + (v % 65536 : Nat)
  putBytes b (p + 8) (beBytes 8 (satCorrection corr))

/-- The UDP checksum computed anew (R335): a zero one over IPv4 stays. -/
def fixUdp (b : List Byte) : List Byte :=
  match udpAt b with
  | none => b
  | some u =>
    let v6 := decide (etherType b = 0x86DD)
    if !v6 ∧ beRead b (u + 6) 2 = 0 then b
    else
      let len := beRead b (u + 4) 2
      let b := putBytes b (u + 6) (beBytes 2 0)
      let addrs := if v6 then (b.drop (u - 32)).take 32 else (b.drop (u - 8)).take 8
      let sum := onesSum (addrs ++ beBytes 2 17 ++ beBytes 2 len ++ (b.drop u).take len)
      let c := 65535 - sum
      putBytes b (u + 6) (beBytes 2 (if c = 0 then 65535 else c))

/-- The ICV of the message at `p` whose AUTHENTICATION TLV stands at `t`, with the key of association `k` of
port `n`: HMAC-SHA-256-128 over the bytes from the header to the ICV (R342). -/
def State.icv (s : State) (n k : Nat) (b : List Byte) (p t : Nat) : List Byte :=
  (hmacSha256 (s.key (s.rd (Reg.PTP_SA_CFG_KEY_SLOT n k))) ((b.drop p).take (t + 10 - p))).take 16

/-- The association that signs a transmitted frame of port `n`: the position of its message and TLV and the
association (R342, R465). -/
def State.signer (s : State) (n : Nat) (b : List Byte) : Option (Nat × Nat × Nat) :=
  if !s.bit (Reg.PTP_CFG_AUTH_EN n) then none
  else match ptpAt b with
    | none => none
    | some p => match authTlv b p with
      | none => none
      | some t => match s.association n b t with
        | none => none
        | some k => if s.bit (Reg.PTP_SA_CFG_TX n k) ∧ s.key (s.rd (Reg.PTP_SA_CFG_KEY_SLOT n k)) ≠ [] then some (p, t, k) else none

/-- AUTH of a received frame of port `n` (R342, R465): 0 none, 1 PASS, 2 FAIL, 3 UNKNOWN. -/
def State.authCheck (s : State) (n : Nat) (b : List Byte) : Nat :=
  if !s.bit (Reg.PTP_CFG_AUTH_EN n) then 0
  else match ptpAt b with
    | none => 0
    | some p => match authTlv b p with
      | none => 0
      | some t => match s.association n b t with
        | none => 3
        | some k =>
          if s.key (s.rd (Reg.PTP_SA_CFG_KEY_SLOT n k)) = [] then 3
          else if (b.drop (t + 10)).take 16 = s.icv n k b p t then 1 else 2

end Sys2Proof.Machine
end

