-- ==== Sys2Proof/Machine/Ethernet.lean ====
section
/-! DEFINITION. The Ethernet ports: link, receive, queues, transmit scheduling, the stamp queue, SyncE and the wake
detector (R302 to R343). -/
namespace Sys2Proof.Machine

/-! ### The port -/

/-- Is island 26 + `n` powered and clocked, and the device out of DOZE and OFF? -/
def State.portLives (s : State) (n : Nat) : Bool := s.reachable (26 + n) && decide (s.rd Reg.PWR_STATUS_STATE < 2)

/-- Is 1000BASE-X (0), 10GBASE-R (1) or 25GBASE-R (2) in use (R302, R324)? -/
def State.lineMode (s : State) (n : Nat) : Nat := if (s.port n).mode = 3 then 1 else (s.port n).mode

/-- A byte time in 2^-16 ns times 25 (R314). -/
def State.byteTime (s : State) (n : Nat) : Int :=
  match s.lineMode n with | 0 => 13107200 | 1 => 1310720 | _ => 524288

/-- The length limit L of a frame (R305). -/
def State.maxLen (s : State) (n : Nat) : Nat := min 9600 (max 64 (s.rd (Reg.ETH_MAC_MAXLEN n)))
def State.frameLimit (s : State) (n : Nat) (tagged : Bool) : Nat :=
  s.maxLen n + flagIf (tagged && s.bit (Reg.ETH_MAC_VLAN_EXTEND n)) 4

/-- The port's timescale (R327). -/
def State.portTs (s : State) (n : Nat) : Nat := s.rd (Reg.PTP_CFG_TS n)

/-- Does the port's timescale advance per XO tick (R330)? -/
def State.portCoarse (s : State) : Bool := decide (s.clk.time = .xo)

/-- Timescale `n` at TB time `t` in 2^-16 ns, in 2^-64 ns. -/
def State.tsAt16 (s : State) (n : Nat) (t : Int) : Nat :=
  tsAdd (s.tscale n).val (roundDiv ((t - s.tb * 64) * s.tsInc n) 131072)

/-- A full stamp of the port at TB time `t`, moved by `adj`, in 2^-16 ns (R229, R328 to R330). -/
def State.portStamp (s : State) (n : Nat) (t adj : Int) : Nat :=
  tsAdd (s.tsAt16 (s.portTs n) t) (adj * 2 ^ 48) / 2 ^ 48

/-- The 16-byte stamp layout (R330). -/
def stampBytes (v info : Nat) : List Byte :=
  leBytes 4 info ++ leBytes 2 v ++ leBytes 4 (v / 65536 % 10 ^ 9) ++ leBytes 6 (v / 65536 / 10 ^ 9)

/-- Is the port gated (R341)? -/
def State.gated (s : State) (n : Nat) : Bool := s.bit (Reg.PTP_CFG_FORCE_PASSIVE n) || s.safe || s.twinGates n

/-- A queue of port `n`. -/
def State.txq (s : State) (n q : Nat) : TxQSt := tabGet {} q (s.port n).tx
def State.putTxq (s : State) (n q : Nat) (x : TxQSt) : State :=
  s.putPort n { s.port n with tx := tabSet {} q x (s.port n).tx }
def State.rxq (s : State) (n q : Nat) : RxQSt := tabGet {} q (s.port n).rx
def State.putRxq (s : State) (n q : Nat) (x : RxQSt) : State :=
  s.putPort n { s.port n with rx := tabSet {} q x (s.port n).rx }

/-- Can the queue reach its ring: a HOST queue needs Bus Master Enable (R309)? -/
def State.ownerReady (s : State) (lesson : Bool) : Bool := lesson || s.busMaster

/-- The address of descriptor `i` of a ring (R310). -/
def State.txDescAt (s : State) (n q i : Nat) : Nat :=
  s.rd (Reg.ETH_TXQ_BASE_HI_ADDR n q) * 2 ^ 32 + s.rd (Reg.ETH_TXQ_BASE_LO_ADDR n q) * 32 + 32 * i
def State.rxDescAt (s : State) (n q i : Nat) : Nat :=
  s.rd (Reg.ETH_RXQ_BASE_HI_ADDR n q) * 2 ^ 32 + s.rd (Reg.ETH_RXQ_BASE_LO_ADDR n q) * 32 + 32 * i

/-- `ETHn.TXQq_CFG.CFG_ERR` (R325). -/
def State.txCfgErr (s : State) (n q : Nat) : Bool :=
  let l := s.rd (Reg.ETH_TXQ_CFG_SIZE_LOG n q)
  let a := s.txDescAt n q 0
  decide (l < 3 ∨ 12 < l) || ((s.txq n q).lesson && !(inLessonData a && inLessonData (a + 32 * 2 ^ l - 1)))

/-- Does a ring stream through the queue (R314)? -/
def State.streamed (s : State) (n q : Nat) : Bool :=
  (List.range 8).any (fun r => s.bit (Reg.EVR_RING_CFG_STREAM r) &&
    decide (s.rd (Reg.EVR_RING_CFG_PORT r) = n ∧ s.rd (Reg.EVR_RING_CFG_QUEUE r) = q))

/-- Is the queue trigger-gated: an enabled FRAME trigger names it (R238)? -/
def State.trigGated (s : State) (n q : Nat) : Bool :=
  (List.range 32).any (fun g => s.bit (Reg.TG_CFG_EN g) && decide (s.rd (Reg.TG_CFG_ACTION g) = 2) &&
    decide (s.rd (Reg.TG_CFG_TARGET g) / 16 = n ∧ s.rd (Reg.TG_CFG_TARGET g) % 8 = q))

/-! ### The two-step stamp queue (R336 to R340) -/

/-- Is the area of a LESSON stamp queue outside lesson data (R340)? -/
def State.txtsCfgErr (s : State) (n : Nat) : Bool :=
  s.bit (Reg.PTP_CFG_TXTS_DEST n) && decide (s.rd (Reg.PTP_TXTS_BASE_ADDR n) * 1024 < 0xC0000)

/-- Entries that wait: in the port, or in commons between RD and WR. -/
def State.txtsLevel (s : State) (n : Nat) : Nat :=
  let x := s.port n
  if s.bit (Reg.PTP_CFG_TXTS_DEST n) then (x.wr + 256 - x.rd) % 256 else x.txts.length

/-- A stamp enters the queue, or is discarded from a full one (R337, R338, R340). -/
def txtsPush (n stamp id : Nat) (aborted coarse : Bool) (s : State) : State :=
  let x := s.port n
  let lesson := s.bit (Reg.PTP_CFG_TXTS_DEST n)
  if 64 ≤ s.txtsLevel n ∨ s.txtsCfgErr n then
    let s := (s.putPort n { x with pend := x.pend + 1, ovf := true }).bump (Reg.PTP_TXTS_OVF_COUNT n)
    if x.ovf then s else s.raise 38 n
  else
    let gap := decide (0 < x.pend)
    let lost := min x.pend 255
    let x : PortSt := { x with pend := 0, ovf := false }
    if lesson then
      let info := id * 65536 + flagIf gap 0x8000 + flagIf aborted 0x4000 + flagIf coarse 0x2000 + lost
      let s := ownerWrite true (s.rd (Reg.PTP_TXTS_BASE_ADDR n) * 1024 + 16 * (x.wr % 64)) (stampBytes stamp info) s
      s.putPort n { x with wr := (x.wr + 1) % 256 }
    else s.putPort n { x with txts := x.txts ++ [⟨stamp, id, gap, aborted, coarse, lost⟩], wr := (x.wr + 1) % 256 }

/-- TXTS_ID_READ (R340): the oldest entry moves into the registers. -/
def txtsTake (n : Nat) (s : State) : State :=
  let x := s.port n
  match x.txts with
    | [] => s.wr (Reg.PTP_TXTS_ID_VALID n) 0
    | e :: rest =>
      let ns := e.stamp / 65536
      (s.putPort n { x with txts := rest }).wrs
        [(Reg.PTP_TXTS_ID_VALID n, 1), (Reg.PTP_TXTS_ID_GAP n, e.gap.toNat), (Reg.PTP_TXTS_ID_ABORTED n, e.aborted.toNat),
         (Reg.PTP_TXTS_ID_COARSE n, e.coarse.toNat), (Reg.PTP_TXTS_ID_LOST n, e.lost), (Reg.PTP_TXTS_ID_ID n, e.id),
         (Reg.PTP_TXTS_S_LO_S n, ns / 10 ^ 9), (Reg.PTP_TXTS_S_HI_S n, ns / 10 ^ 9 / 2 ^ 32),
         (Reg.PTP_TXTS_NS_NS n, ns % 10 ^ 9), (Reg.PTP_TXTS_FRAC_FRAC n, e.stamp % 65536)]

/-- The queue is emptied by a write of TXTS_DEST or TXTS_BASE: the entries count as lost (R340). -/
def txtsEmpty (n : Nat) (s : State) : State :=
  let k := s.txtsLevel n
  let x := s.port n
  (s.putPort n { x with txts := [], pend := x.pend + k, wr := 0, rd := 0 }).bump (Reg.PTP_TXTS_OVF_COUNT n) k

/-- TXTS_DEST_WRITE (R340): a write of PTPn.CFG that changes TXTS_DEST, or of TXTS_BASE. -/
def doTxtsDestWrite (n : Fin 4) (base : Bool) (data : BitVec 32) (s : State) : Out :=
  let v := data.toNat
  .next (if base then (txtsEmpty n s).wr (Reg.PTP_TXTS_BASE_ADDR n) (v / 1024)
    else
      let s := if (v / 2 ^ 27) % 2 = s.rd (Reg.PTP_CFG_TXTS_DEST n) then s else txtsEmpty n s
      s.wrs [(Reg.PTP_CFG_RX_STAMP n, v / 2 ^ 31), (Reg.PTP_CFG_TS n, v / 2 ^ 29), (Reg.PTP_CFG_FORCE_PASSIVE n, v / 2 ^ 28),
        (Reg.PTP_CFG_TXTS_DEST n, v / 2 ^ 27), (Reg.PTP_CFG_AUTH_EN n, v / 2 ^ 26)])

/-! ### Completing a descriptor (R310, R311) -/

/-- The STATUS codes of R311. -/
def stSent : Nat := 1
def stTooLong : Nat := 2
def stBadDesc : Nat := 3
def stLate : Nat := 4
def stLateDrop : Nat := 5
def stUnderrun : Nat := 6
def stDmaErr : Nat := 7
def stLinkCut : Nat := 8

/-- The head of queue `q` completes with `st`: write-back, HEAD advances, ETH_TX_DONE (R310). -/
def txComplete (n q st : Nat) (s : State) : State :=
  let x := s.txq n q
  let h := s.rd (Reg.ETH_TXQ_PTR_HEAD n q)
  let s := ownerWrite x.lesson (s.txDescAt n q h + 14) [BitVec.ofNat 8 st] s
  let s := s.putTxq n q { s.txq n q with head := .none }
  (s.wr (Reg.ETH_TXQ_PTR_HEAD n q) ((h + 1) % 2 ^ s.rd (Reg.ETH_TXQ_CFG_SIZE_LOG n q))).raise 100 n q

/-- A frame leaves the line (R310, R337): its stamp entry where STAMP is set, and its descriptor's status. -/
def lineEnd (n st : Nat) (how : TxEnd) (s : State) : State :=
  let x := s.port n
  match x.line with
  | .none => s
  | .some l =>
    let s := s.putPort n { x with
      line := .none, sent := l.bytes, sentEnd := how, prev := if how = .good then x.prev else x.prev.map (fun p => (p.1, 20)) }
    let s := if l.head.stamp then txtsPush n l.stamp l.head.id (decide (how ≠ .good)) l.coarse s else s
    if l.head.stream then s else txComplete n l.q st s

/-- The frame in progress is cut off (R302, R318). -/
def lineCut (n : Nat) (s : State) : State :=
  if (s.port n).line.isSome then (lineEnd n stLinkCut .cut s).bump (Reg.ETH_TX_ABORT_COUNT n) else s

/-! ### Link (R302, R303, R319) -/

/-- The recovered clock of port `n` is gated off: its slot sees no edge and loses ACTIVE (R319). -/
def rxclkOff (n : Nat) (s : State) : State :=
  let s := s.putSlot (16 + n) { s.slot (16 + n) with active := false }
  s.wr (Reg.ETH_STATUS_RXCLK_OK n) 0

/-- LINK clears (R303). -/
def linkDrop (n : Nat) (s : State) : State :=
  if s.bit (Reg.ETH_STATUS_LINK n) then
    let s := s.putPort n { s.port n with grid := .none }
    lineCut n (((s.wr (Reg.ETH_STATUS_LINK n) 0).bump (Reg.ETH_LINK_DOWN_COUNT n)).raise 36 n 0)
  else s

/-- PORT_ENABLE (R302, R482): MODE, FEC, AN and LPBK are read. -/
def doPortEnable (n : Fin 4) (s : State) : Out :=
  if s.bit (Reg.ETH_CTRL_EN n) then .next s
  else
    .next ((s.putPort n { s.port n with
      mode := s.rd (Reg.ETH_CTRL_MODE n), fec := s.bit (Reg.ETH_CTRL_FEC n), an := s.bit (Reg.ETH_CTRL_AN n)
      loop := decide (s.rd (Reg.ETH_CTRL_LPBK n) = 1), lockAt := s.up, linkAt := s.up }).wr
      (Reg.ETH_CTRL_EN n) 1)

/-- PORT_DISABLE (R302, R319): the port stops at once. -/
def doPortDisable (n : Fin 4) (s : State) : Out :=
  .next ((rxclkOff n (linkDrop n s)).wrs [(Reg.ETH_CTRL_EN n, 0), (Reg.ETH_STATUS_PCS_LOCK n, 0), (Reg.ETH_STATUS_FEC_LOCK n, 0),
    (Reg.ETH_STATUS_AN_DONE n, 0), (Reg.ETH_STATUS_LOCAL_FAULT n, 0), (Reg.ETH_STATUS_REMOTE_FAULT n, 0)])

/-- Does RS-FEC apply: FEC = 1 at 25GBASE-R? -/
def State.fecUsed (s : State) (n : Nat) : Bool := (s.port n).fec && decide (s.lineMode n = 2)

/-- The locks that the link and the recovered clock need (R303, R319). -/
def State.locked (s : State) (n : Nat) : Bool :=
  s.bit (Reg.ETH_CTRL_EN n) && s.bit (Reg.ETH_STATUS_PCS_LOCK n) && (!s.fecUsed n || s.bit (Reg.ETH_STATUS_FEC_LOCK n))

/-- 10 ms in 2.0 ns steps. -/
def tenMs : Nat := 5000000

/-- Does the port receive faults: 10GBASE-R or 25GBASE-R (R301)? -/
def State.faultsUsed (s : State) (n : Nat) : Bool := decide (s.lineMode n ≠ 0)

/-- Does auto-negotiation apply: AN = 1 at 1000BASE-X (R301, R303)? -/
def State.anUsed (s : State) (n : Nat) : Bool := (s.port n).an && decide (s.lineMode n = 0)

/-- Does the port send remote fault: while it receives local fault (R301, R303)? -/
def State.sendsRemoteFault (s : State) (n : Nat) : Bool :=
  s.bit (Reg.ETH_CTRL_EN n) && s.faultsUsed n && s.bit (Reg.ETH_STATUS_LOCAL_FAULT n)

/-- The frequency in Hz of the clock that port `n` recovers from a partner at the nominal rate (R319). -/
def State.recoveredHz (s : State) (n : Nat) : Nat := if s.lineMode n = 0 then 125000000 else 156250000

/-- PCS_LOCK_ACQUIRED (R301, R303). DEDUCED (assumption 6): a port whose island's clock has stopped locks once that clock
runs again. -/
def execPcsLockAcquired (n : Fin 4) (fec : Bool) (s : State) : Out :=
  let s := { s with clk := { s.clk with stopped := maskClr s.clk.stopped (26 + n) } }
  .next (if s.bit (Reg.ETH_CTRL_EN n) ∧ s.portLives n ∧ (fec → s.fecUsed n) then
    (s.putPort n { s.port n with lockAt := s.up, linkAt := s.up }).wr
      (if fec then Reg.ETH_STATUS_FEC_LOCK n else Reg.ETH_STATUS_PCS_LOCK n) 1
  else s)

/-- AN_COMPLETE (R303). -/
def execAnComplete (n : Fin 4) (s : State) : Out :=
  .next (if s.bit (Reg.ETH_CTRL_EN n) ∧ s.portLives n ∧ s.anUsed n then
    (s.putPort n { s.port n with linkAt := s.up }).wr (Reg.ETH_STATUS_AN_DONE n) 1
  else s)

/-- LINK_UP (R303): the conditions have held for 10 ms, and a fault that was received has ended. -/
def execLinkUp (n : Fin 4) (s : State) : Out :=
  let ok := s.locked n && s.portLives n && (!s.anUsed n || s.bit (Reg.ETH_STATUS_AN_DONE n)) &&
    decide (tenMs ≤ s.up - (s.port n).linkAt)
  .next (if ok ∧ !s.bit (Reg.ETH_STATUS_LINK n) then
    (s.wrs [(Reg.ETH_STATUS_LINK n, 1), (Reg.ETH_STATUS_LOCAL_FAULT n, 0), (Reg.ETH_STATUS_REMOTE_FAULT n, 0)]).raise 36 n 1
  else s)

/-- LINK_DOWN (R303, R318): a condition fails. -/
def execLinkDown (n : Fin 4) (why : LinkCause) (s : State) : Out :=
  let fails := match why with
    | .lock => true
    | .an => s.anUsed n
    | .localFault | .remoteFault => s.faultsUsed n
  .next (if !fails then s
  else
    let s := s.putPort n { s.port n with linkAt := s.up }
    let s := match why with
      | .lock => s
      | .an => s.wr (Reg.ETH_STATUS_AN_DONE n) 0
      | .localFault => s.wr (Reg.ETH_STATUS_LOCAL_FAULT n) 1
      | .remoteFault => s.wr (Reg.ETH_STATUS_REMOTE_FAULT n) 1
    linkDrop n s)

/-- PCS_LOCK_LOSS (R303, R319): PCS or FEC lock is lost, the recovered clock is gated off where it needs that
lock, and the link drops. -/
def execPcsLockLoss (n : Fin 4) (fec : Bool) (s : State) : Out :=
  let s := s.wr (if fec then Reg.ETH_STATUS_FEC_LOCK n else Reg.ETH_STATUS_PCS_LOCK n) 0
  .next (if s.locked n then s else linkDrop n (rxclkOff n s))

/-- RXCLK_GATE_ON (R319, R482): the locks have held for 10 ms, on a port that does not loop back. -/
def execRxclkGateOn (n : Fin 4) (s : State) : Out :=
  .next (if s.locked n ∧ s.portLives n ∧ s.bit (Reg.ETH_SYNCE_RXCLK_EN n) ∧ !(s.port n).loop ∧
      tenMs ≤ s.up - (s.port n).lockAt then s.wr (Reg.ETH_STATUS_RXCLK_OK n) 1 else s)

/-! ### Receive (R304 to R308, R332, R333) -/

/-- Does the MAC accept the destination address (R304)? -/
def State.accepts (s : State) (n : Nat) (b : List Byte) : Bool :=
  s.bit (Reg.ETH_CTRL_PROMISC n) || decide (byteAt b 0 % 2 = 1) ||
  decide (beRead b 0 6 = s.rd (Reg.ETH_MAC_ADDR_HI_ADDR n) * 2 ^ 32 + s.rd (Reg.ETH_MAC_ADDR_LO_ADDR n))

/-- Does receive rule `k` match (R307)? -/
def State.ruleMatches (s : State) (n k : Nat) (b : List Byte) : Bool :=
  let v := s.rd (Reg.ETH_CLASS_VALUE n k)
  s.bit (Reg.ETH_CLASS_EN n k) && (match s.rd (Reg.ETH_CLASS_KIND n k) with
    | 0 => decide (etherType b = v)
    | 1 => decide (udpPort b = some v)
    | 2 => isTagged b && decide (v % 8 ≤ beRead b 14 2 / 8192)
    | _ => false)

/-- `ETHn.RXQq_CFG.CFG_ERR` (R313, R325): a buffer too small for the largest L, or quotas above 64 in all. -/
def State.rxCfgErr (s : State) (n q : Nat) : Bool :=
  s.bit (Reg.ETH_RXQ_CFG_CFG_ERR n q) ||
  decide (64 < ((List.range 4).filter (fun i => s.bit (Reg.ETH_RXQ_CFG_EN n i))).foldl (fun a i => a + s.rd (Reg.ETH_RXQ_CFG_QUOTA n i)) 0)

/-- The buffers of the enabled receive queues are checked against the largest L (R313); a queue found too small
keeps CFG_ERR until it is enabled anew. -/
def rxCfgCheck (n : Nat) (s : State) : State :=
  forRange 4 (fun q s =>
    if s.bit (Reg.ETH_RXQ_CFG_EN n q) && decide (2 ^ s.rd (Reg.ETH_RXQ_CFG_BUF_LOG n q) < s.frameLimit n true) then
      s.wr (Reg.ETH_RXQ_CFG_CFG_ERR n q) 1
    else s) s

/-- The check of the receive queues at a change of MAXLEN or VLAN_EXTEND since `old` (R313). -/
def rxLimitFollow (n : Nat) (old s : State) : State :=
  if s.rd (Reg.ETH_MAC_MAXLEN n) = old.rd (Reg.ETH_MAC_MAXLEN n) ∧
      s.rd (Reg.ETH_MAC_VLAN_EXTEND n) = old.rd (Reg.ETH_MAC_VLAN_EXTEND n) then s
  else rxCfgCheck n s

/-- A waiting frame goes into the next ready descriptor (R310, R313). -/
def rxDeliverOne (n q : Nat) (s : State) : State :=
  let x := s.rxq n q
  let h := s.rd (Reg.ETH_RXQ_PTR_HEAD n q)
  match x.wait with
  | [] => s
  | w :: rest =>
    if !s.bit (Reg.ETH_RXQ_CFG_EN n q) ∨ !s.ownerReady x.lesson ∨ h = s.rd (Reg.ETH_RXQ_PTR_TAIL n q) then s
    else
      let d := s.rxDescAt n q h
      let addr := if x.lesson then leRead (s.commonsRead d 8) 0 8 else x.bufs.headD 0
      let s := s.putRxq n q { x with wait := rest, bufs := x.bufs.drop 1 }
      let s := ownerWrite x.lesson addr (w.data.take (2 ^ s.rd (Reg.ETH_RXQ_CFG_BUF_LOG n q))) s
      let s := ownerWrite x.lesson (d + 8) w.desc s
      let bytes := s.pair (Reg.ETH_RX_BYTES_HI_COUNT n) (Reg.ETH_RX_BYTES_LO_COUNT n) + w.len
      let s := (s.bump (Reg.ETH_RX_FRAMES_COUNT n)).wrs
        [(Reg.ETH_RX_BYTES_LO_COUNT n, bytes), (Reg.ETH_RX_BYTES_HI_COUNT n, bytes / 2 ^ 32)]
      (s.wr (Reg.ETH_RXQ_PTR_HEAD n q) ((h + 1) % 2 ^ s.rd (Reg.ETH_RXQ_CFG_SIZE_LOG n q))).raise 101 n q

/-- Waiting frames go into the ready descriptors of a queue. -/
def rxDeliver (n q : Nat) (s : State) : State :=
  (List.range (s.rxq n q).wait.length).foldl (fun s _ => rxDeliverOne n q s) s

/-- The bytes that wait in a receive queue's share of the buffer (R308). -/
def State.rxHeld (s : State) (n q : Nat) : Nat := (s.rxq n q).wait.foldl (fun a w => a + w.data.length) 0

/-- INFO of a receive stamp (R333). -/
def rxInfo (b : List Byte) (auth : Nat) (coarse : Bool) : Nat :=
  flagIf coarse 0x400 + (match ptpAt b with
    | none => 0
    | some p => beRead b (p + 30) 2 * 65536 + msgType b p * 4096 + 2048 + auth * 256 + byteAt b (p + 4))

/-- Is a received frame damaged: its FCS does not match over the whole of it, or a PCS code error lies inside (R306)? -/
def rxDamaged (f : RxIn) : Bool :=
  let k := f.bytes.length - 4
  f.bad || decide (f.bytes.drop k ≠ fcsOf (f.bytes.take k))

/-- The wake detector of E0 (R321). -/
def wakeDetect (f : RxIn) (s : State) : State :=
  let b := f.bytes
  let mask := fun i => maskBit (s.rd (Reg.ETH_WAKE_MASK_MASK 0 (i / 32))) (i % 32)
  let hit := s.bit (Reg.ETH_WAKE_CFG_EN 0) && decide (s.lineMode 0 ≠ 2) && !rxDamaged f &&
    decide (etherType b = 0x88B5) &&
    (List.range 128).all (fun i => !mask i || (decide (i < b.length) &&
      decide (byteAt b i = s.rd (Reg.ETH_WAKE_PAT_BYTES 0 (i / 4)) / 2 ^ (8 * (i % 4)) % 256)))
  if hit then ((s.wr (Reg.ETH_WAKE_STATUS_MATCH 0) 1).bump (Reg.ETH_WAKE_STATUS_COUNT 0)).level 102 noInst true else s

/-- A frame that meets R306 goes to its queue (R307, R308, R313, R332, R342). -/
def rxAccept (n : Nat) (f : RxIn) (flags keep : Nat) (s : State) : State :=
  let b := f.bytes
  let rule := (List.range 8).find? (fun k => s.ruleMatches n k b)
  let q := (rule.map (fun k => s.rd (Reg.ETH_CLASS_QUEUE n k))).getD 0
  let auth := s.authCheck n (b.take (b.length - 4))
  let s := if auth = 2 then
      let sa := ((ptpAt b).bind (fun p => (authTlv b p).bind (fun t => s.association n b t))).getD 0
      (s.bump (Reg.PTP_AUTH_COUNT_FAIL n)).raise 39 n sa
    else if auth = 3 then s.bump (Reg.PTP_AUTH_COUNT_UNKNOWN n) else s
  if !s.bit (Reg.ETH_RXQ_CFG_EN n q) ∨ s.rxCfgErr n q ∨ s.rd (Reg.ETH_RXQ_CFG_QUOTA n q) * 4096 < s.rxHeld n q + keep then
    s.bump (Reg.ETH_RX_NOBUF_COUNT n)
  else
    let on := s.bit (Reg.PTP_CFG_RX_STAMP n)
    let st := s.portStamp n f.t (-(s.rdi (Reg.PTP_RX_ADJ_VALUE n)))
    let stamp := if on then stampBytes st (rxInfo b auth s.portCoarse) else List.replicate 16 0
    let fl := flags + flagIf (isTagged b) 8 + flagIf on 16
    let desc := leBytes 2 keep ++ leBytes 1 fl ++ leBytes 1 (rule.getD 255) ++ leBytes 4 0 ++ stamp
    let x := s.rxq n q
    rxDeliver n q (s.putRxq n q { x with wait := x.wait ++ [⟨b.take keep, desc, b.length⟩] })

/-- The PCS counters take what the port has met since the frame before (R322, R306). -/
def rxPcsCounts (n : Nat) (f : RxIn) (s : State) : State :=
  ((s.bump (Reg.ETH_PCS_ERR_COUNT n) f.codeErrs).bump (Reg.ETH_FEC_CORR_COUNT n) f.fecCorr).bump
    (Reg.ETH_FEC_UNCORR_COUNT n) f.fecUncorr

/-- The counters of a frame that is too short, too long or damaged (R306). -/
def rxErrCounts (n : Nat) (runt big bad : Bool) (s : State) : State :=
  let s := if runt then s.bump (Reg.ETH_RX_RUNT_COUNT n) else s
  let s := if big then s.bump (Reg.ETH_RX_OVERSIZE_COUNT n) else s
  if bad then s.bump (Reg.ETH_RX_FCS_ERR_COUNT n) else s

/-- A frame of at least 18 bytes is counted, filtered and accepted (R306, R318). -/
def rxWhole (n : Nat) (f : RxIn) (s : State) : State :=
  let b := f.bytes
  let len := b.length
  let lim := s.frameLimit n (isTagged b)
  let runt := decide (len < 64)
  let big := decide (lim < len)
  let bad := rxDamaged f
  let s := rxErrCounts n runt big bad s
  if beRead b 12 2 = 0x8808 then s.bump (Reg.ETH_RX_MACCTL_COUNT n)
  else if !s.accepts n b then s.bump (Reg.ETH_RX_FILTERED_COUNT n)
  else if (runt || big || bad) && !s.bit (Reg.ETH_RX_ERR_DELIVER n) then s
  else rxAccept n f (flagIf runt 1 + flagIf big 2 + flagIf bad 4) (min len lim) s

/-- A frame reaches the receive side of port `n` (R304 to R308, R321, R322). -/
def rxFrame (n : Nat) (f : RxIn) (s : State) : State :=
  if !s.bit (Reg.ETH_STATUS_LINK n) then s
  else
    let s := if n = 0 then wakeDetect f s else s
    if !s.portLives n then s
    else if f.bytes.length < 18 then rxErrCounts n false false (rxDamaged f) ((rxPcsCounts n f s).bump (Reg.ETH_RX_FRAG_COUNT n))
    else rxWhole n f (rxPcsCounts n f s)

/-- RX_FRAME (R304 to R308, R321): a frame at the pins, which a port in loopback ignores (R482). -/
def execRxFrame (n : Fin 4) (f : RxIn) (s : State) : Out := .next (if (s.port n).loop then s else rxFrame n f s)

/-- WAKE_CLR (R321, R326): MATCH clears and WAKE_N is released. -/
def doWakeClr (s : State) : Out := .next ((s.wr (Reg.ETH_WAKE_STATUS_MATCH 0) 0).level 102 noInst false)

/-! ### Queues (R309, R310) -/

/-- QUEUE_ENABLE (R310, R313): HEAD and TAIL are 0, and the owner is fixed. -/
def doQueueEnable (n : Fin 4) (q : QueueId) (s : State) : Out :=
  .next (match q with
    | .tx q =>
      if s.bit (Reg.ETH_TXQ_CFG_EN n q) then s
      else
        (s.putTxq n q { lesson := s.bit (Reg.ETH_TXQ_CFG_OWNER n q) }).wrs
          [(Reg.ETH_TXQ_CFG_EN n q, 1), (Reg.ETH_TXQ_PTR_HEAD n q, 0), (Reg.ETH_TXQ_PTR_TAIL n q, 0)]
    | .rx q =>
      if s.bit (Reg.ETH_RXQ_CFG_EN n q) then s
      else rxCfgCheck n ((s.putRxq n q { lesson := s.bit (Reg.ETH_RXQ_CFG_OWNER n q) }).wrs
          [(Reg.ETH_RXQ_CFG_EN n q, 1), (Reg.ETH_RXQ_PTR_HEAD n q, 0), (Reg.ETH_RXQ_PTR_TAIL n q, 0), (Reg.ETH_RXQ_CFG_CFG_ERR n q, 0)]))

/-- QUEUE_DISABLE (R310, R318): the frame in progress ends normally; a waiting head is not sent and stays in the
ring. -/
def doQueueDisable (n : Fin 4) (q : QueueId) (s : State) : Out :=
  .next (match q with
    | .tx q => (s.putTxq n q { s.txq n q with head := .none }).wr (Reg.ETH_TXQ_CFG_EN n q) 0
    | .rx q => s.wr (Reg.ETH_RXQ_CFG_EN n q) 0)

/-- Set the tail of a transmit queue (R310). -/
def txTail (n q tail : Nat) (s : State) : State :=
  if 2 ^ s.rd (Reg.ETH_TXQ_CFG_SIZE_LOG n q) ≤ tail then s.wr (Reg.ETH_TXQ_PTR_PTR_ERR n q) 1
  else s.wrs [(Reg.ETH_TXQ_PTR_TAIL n q, tail), (Reg.ETH_TXQ_PTR_PTR_ERR n q, 0)]

/-- Set the tail of a receive queue, with the buffer addresses of the host's new descriptors (R310, R313). -/
def rxTail (n q tail : Nat) (bufs : List (BitVec 64)) (s : State) : State :=
  let size := 2 ^ s.rd (Reg.ETH_RXQ_CFG_SIZE_LOG n q)
  if size ≤ tail then s.wr (Reg.ETH_RXQ_PTR_PTR_ERR n q) 1
  else
    let x := s.rxq n q
    let ready := (tail + size - s.rd (Reg.ETH_RXQ_PTR_HEAD n q)) % size
    let all := (x.bufs ++ bufs.map (·.toNat)).take ready
    rxDeliver n q ((s.putRxq n q { x with bufs := all }).wrs [(Reg.ETH_RXQ_PTR_TAIL n q, tail), (Reg.ETH_RXQ_PTR_PTR_ERR n q, 0)])

/-- TAIL_WRITE (R310): a host write of TAIL; on a LESSON queue it is discarded. -/
def doTailWrite (n : Fin 4) (q : QueueId) (tail : BitVec 12) (bufs : List (BitVec 64)) (s : State) : Out :=
  .next (match q with
    | .tx q => if (s.txq n q).lesson then s else txTail n q tail.toNat s
    | .rx q => if (s.rxq n q).lesson then s else rxTail n q tail.toNat bufs s)

/-! ### Transmit (R311 to R318, R335, R341) -/

/-- May queue `q` process its ring? -/
def State.txqRuns (s : State) (n q : Nat) : Bool :=
  s.bit (Reg.ETH_TXQ_CFG_EN n q) && s.portLives n && !s.txCfgErr n q && !s.streamed n q && s.ownerReady (s.txq n q).lesson &&
  decide (s.rd (Reg.ETH_TXQ_PTR_HEAD n q) ≠ s.rd (Reg.ETH_TXQ_PTR_TAIL n q))

/-- Is the PTP message of a frame a time message that the gate stops (R341)? -/
def isTimeMessage (b : List Byte) : Bool := (ptpAt b).any (fun p => decide (msgType b p ∈ [0x0, 0x8, 0x9, 0xA, 0xB]))

/-- TX_DESCRIPTOR_CHECK (R312, R341): the descriptor at the head of its queue is refused, or becomes the head that
is fetched. -/
def execTxDescriptorCheck (n : Fin 4) (q : Fin 8) (d : TxDesc) (s : State) : Out :=
  let x := s.txq n q
  if !s.txqRuns n q ∨ x.head.isSome then .next s
  else
    let desc := if x.lesson then s.commonsRead (s.txDescAt n q (s.rd (Reg.ETH_TXQ_PTR_HEAD n q))) 32 else d.desc
    let len := leRead desc 8 2
    let data := if x.lesson then s.commonsRead (leRead desc 0 8) len else d.data.take len
    let flags := byteAt desc 10
    let refuse := fun st => (txComplete n q st s).bump (Reg.ETH_TX_REJECT_COUNT n)
    if len = 0 ∨ 8 ≤ flags ∨ byteAt desc 11 ≠ 0 ∨ byteAt desc 15 ≠ 0 ∨ leRead desc 24 8 ≠ 0 then .next (refuse stBadDesc)
    else
      let data := data ++ List.replicate (max 60 len - data.length) 0
      if s.frameLimit n (isTagged data) < data.length + 4 then .next (refuse stTooLong)
      else if s.gated n && isTimeMessage data then .next ((refuse stBadDesc).bump (Reg.PTP_PASSIVE_DROP_COUNT n))
      else .next (s.putTxq n q { x with head := .some {
        data := data, id := leRead desc 12 2, stamp := flags.testBit 1, oneStep := flags.testBit 2
        launch := if flags.testBit 0 then .some (leRead desc 16 8) else .none } })

/-- `ETHn.TX_THRESH.UNITS`, where 0 is taken as 1 (R317). -/
def State.threshUnits (s : State) (n : Nat) : Nat := max 1 (s.rd (Reg.ETH_TX_THRESH_UNITS n))

/-- Does a frame wait whole in the buffer before it starts: a store-and-forward threshold, a rewritten or a signed frame
(R317, R335)? -/
def State.storeForward (s : State) (n : Nat) (h : TxHead) : Bool :=
  decide (0x97 ≤ s.rd (Reg.ETH_TX_THRESH_UNITS n)) || h.oneStep || (s.signer n h.data).isSome

/-- The bytes of a head that must be buffered before it may start (R317, R335). -/
def State.fetchNeed (s : State) (n : Nat) (h : TxHead) : Nat :=
  if s.storeForward n h then h.data.length else min (s.threshUnits n * 64) h.data.length

/-- Is the frame of queue `q`'s ring on the line? -/
def State.sending (s : State) (n q : Nat) : Bool := (s.port n).line.any (fun l => decide (l.q = q) && !l.head.stream)

/-- TX_FETCH_COMPLETE (R309, R317, R318, R335): `got` bytes of the head, with its padding, stand in the buffer, and once they
are enough it may start; or a read, of its data or of its descriptor, fails before the start. -/
def execTxFetchComplete (n : Fin 4) (q : Fin 8) (got : Option Nat) (s : State) : Out :=
  let x := s.txq n q
  .next (if !s.txqRuns n q || s.sending n q then s
  else match got, x.head with
    | .none, _ => (txComplete n q stDmaErr s).bump (Reg.ETH_TX_REJECT_COUNT n)
    | .some k, .some h =>
      if s.fetchNeed n h ≤ k then s.putTxq n q { x with head := .some { h with buffered := true } } else s
    | .some _, .none => s)

/-- The WT of the port's timescale at TB time `t` in 2^-16 ns. -/
def State.portWt (s : State) (n : Nat) (t : Int) : Nat := wtOf (s.tsAt16 (s.portTs n) t)

/-- Has the timescale, at TB time `t` in 2^-16 ns, reached `T` − 8 byte times (R315)? On XO_IN it is compared at each XO
tick (R318). -/
def State.launchDue (s : State) (n : Nat) (t : Int) (T : Nat) : Bool :=
  decide (0 ≤ 25 * sdiff (s.portWt n (if s.portCoarse then s.tb * 64 else t)) T + 8 * s.byteTime n)

/-- LAUNCH_ELIGIBLE (R315): the timescale has reached T − 8 byte times. -/
def execLaunchEligible (n : Fin 4) (q : Fin 8) (s : State) : Out :=
  let x := s.txq n q
  .next (match x.head with
    | .none => s
    | .some h => match h.launch with
      | .none => s
      | .some t =>
        if s.portLives n ∧ s.launchDue n (s.tb * 64) t then s.putTxq n q { x with head := .some { h with eligible := true } }
        else s)

/-- The frame that queue `q` offers: its stream frame where a ring streams through it, else its head. -/
def State.offer (s : State) (n q : Nat) : Option TxHead :=
  if s.streamed n q then (s.txq n q).stream
  else if s.bit (Reg.ETH_TXQ_CFG_EN n q) then (s.txq n q).head else .none

/-- Does a frame that starts at TB time `t` (2^-16 ns) keep clear of the guarded heads of other queues (R316)? -/
def State.clearsGuards (s : State) (n q : Nat) (t : Int) (h : TxHead) : Bool :=
  (List.range 8).all (fun g =>
    decide (g = q) || !s.bit (Reg.ETH_TXQ_CFG_GUARD n g) ||
    match s.offer n g with
    | .none => true
    | .some w => match w.launch with
      | .none => true
      | .some tg =>
        -- the occupancy of R314 ends by T_g − 8 byte times
        decide (25 * sdiff (s.portWt n t) tg + s.byteTime n * ((8 + h.data.length + 4 + 12 : Nat) + 8) ≤ 0))

/-- May the offered frame start at `t` (R314 to R316)? -/
def State.mayStart (s : State) (n q : Nat) (t : Int) : Bool :=
  match s.offer n q with
  | .none => false
  | .some h => h.buffered && !s.trigGated n q && h.launch.all (fun T => h.eligible && s.launchDue n t T) &&
    s.clearsGuards n q t h

/-- The spacing of the start boundaries in 2^-16 ns times 25 (R314). -/
def State.boundarySpacing (s : State) (n : Nat) : Int :=
  match s.lineMode n with | 0 => 26214400 | 1 => 10485760 | _ => 4194304

/-- The end of an occupancy of `bytes` that began at `t` (R314), at the rate of the transmit clock (R320). -/
def State.occupiedUntil (s : State) (n : Nat) (t : Int) (bytes : Nat) : Int :=
  t + s.byteTime n * bytes * 2 ^ 56 / (25 * (2 ^ 56 + (s.port n).rate))

/-- May TB time `t` (2^-16 ns) be a start boundary at which the line is free (R314)? The place of the boundaries is known
from the last frame on, while the transmit clock keeps its nominal rate. -/
def State.atBoundary (s : State) (n : Nat) (t : Int) : Bool :=
  (s.port n).prev.all (fun p => decide (s.occupiedUntil n p.1 p.2 ≤ t)) &&
  (s.port n).grid.all (fun g => decide ((25 * (t - g) + 25) % s.boundarySpacing n ≤ 50))

/-- The frame as it leaves the port with transmit stamp `v` (R335, R342): rewritten where ONE_STEP asks for it and
the frame allows it, then signed; and whether it was rewritten. -/
def State.outgoing (s : State) (n : Nat) (h : TxHead) (v : Nat) : List Byte × Bool :=
  let b := h.data
  let p := if h.oneStep then oneStepAt b else none
  let b := match p with | some p => insertStamp b p v | none => b
  let sig := s.signer n b
  let b := match sig with
    | some (p, t, k) => putBytes b (t + 10) (s.icv n k b p t)
    | none => b
  (if p.isSome || sig.isSome then fixUdp b else b, p.isSome)

/-- The offered frame of queue `q` starts at TB time `t` (2^-16 ns), or is dropped as late (R315, R328, R335). -/
def startFrame (n q : Nat) (t : Int) (h : TxHead) (s : State) : State :=
  let bit := t + roundDiv (8 * s.byteTime n) 25
  let late := h.launch.any (fun tg =>
    decide ((s.rd (Reg.ETH_TXQ_CFG_LATE_TOL n q) * 65536 : Nat) < sdiff (s.portWt n bit) tg))
  let s := if late then s.bump (Reg.ETH_TX_LATE_COUNT n) else s
  if late && s.bit (Reg.ETH_TXQ_CFG_LATE_DROP n q) then txComplete n q stLateDrop s
  else
    let v := s.portStamp n bit (s.rdi (Reg.PTP_TX_ADJ_VALUE n))
    let o := s.outgoing n h v
    let s := if h.stream then s.putTxq n q { s.txq n q with stream := .none } else s
    let s := if h.oneStep && !o.2 then s.bump (Reg.PTP_ONE_STEP_SKIP_COUNT n) else s
    s.putPort n { s.port n with
      line := .some ⟨q, h, o.1, v, s.portCoarse, late, o.2⟩, prev := .some (t, 8 + o.1.length + 4 + 12)
      grid := if (s.port n).rate = 0 then .some t else .none }

/-- TX_FRAME_START (R238, R314): at a start boundary, whose TB time is `t` in 2^-16 ns, the port starts a frame that
a trigger has released, else the head of the highest-numbered eligible queue. -/
def execTxFrameStart (n : Fin 4) (t : Int) (s : State) : Out :=
  let x := s.port n
  if x.line.isSome ∨ !s.bit (Reg.ETH_STATUS_LINK n) ∨ !s.portLives n ∨ !s.atBoundary n t ∨
      s.parityIn (0x34000 + 0x400 * n) 0x280 ∨ s.parityIn (0x38000 + 0x100 * n) 0x70 then .next s
  else
    match x.releases.find? (fun q => (s.offer n q).any (fun h => h.buffered)) with
    | some q =>
      let s := s.putPort n { x with releases := x.releases.erase q }
      .next (match s.offer n q with | .some h => startFrame n q t h s | .none => s)
    | none =>
      match ((List.range 8).reverse).find? (fun q => s.mayStart n q t) with
      | some q => .next (match s.offer n q with | .some h => startFrame n q t h s | .none => s)
      | none => .next s

/-- TX_FRAME_DONE (R310, R311, R322, R335): the frame has left whole; in loopback it reaches the receive side, with a
stamp that refers to no pin (R482, assumption 3). -/
def execTxFrameDone (n : Fin 4) (s : State) : Out :=
  match (s.port n).line, s.portLives n with
  | .none, _ | .some _, false => .next s
  | .some l, true =>
    let bytes := s.pair (Reg.ETH_TX_BYTES_HI_COUNT n) (Reg.ETH_TX_BYTES_LO_COUNT n) + l.bytes.length + 4
    let s := (s.bump (Reg.ETH_TX_FRAMES_COUNT n)).wrs
      [(Reg.ETH_TX_BYTES_LO_COUNT n, bytes), (Reg.ETH_TX_BYTES_HI_COUNT n, bytes / 2 ^ 32)]
    let s := if l.oneStep then s.bump (Reg.PTP_ONE_STEP_COUNT n) else s
    let s := lineEnd n (if l.late then stLate else stSent) .good s
    .next (if (s.port n).loop then
      let v := s.takeFreeInt
      rxFrame n { bytes := l.bytes ++ fcsOf l.bytes, bad := false, t := v.1 } v.2
    else s)

/-- TX_UNDERRUN (R317, R318): a byte has not arrived, or a read fails, during the frame, which ends with an inverted
FCS. -/
def execTxUnderrun (n : Fin 4) (dma : Bool) (s : State) : Out :=
  match (s.port n).line with
  | .none => .next s
  | .some l =>
    if s.storeForward n l.head || !s.portLives n then .next s
    else if dma then .next ((lineEnd n stDmaErr .inverted s).bump (Reg.ETH_TX_ABORT_COUNT n))
    else .next (((lineEnd n stUnderrun .inverted s).bump (Reg.ETH_TX_UNDERRUN_COUNT n)).wr (Reg.ETH_TX_THRESH_UNITS n)
      (min 255 (s.threshUnits n + 1)) |>.raise 37 n l.q)

/-! ### SyncE (R320) -/

/-- ±100 ppm in units of 2^-56 (R320). -/
def synceMax : Int := 7205759403793

/-- 10 ppm in units of 2^-56. -/
def synceStep : Int := 720575940379

/-- The DCO word that the transmit rate follows: 0 where TX_LOCK = 0 (R320). -/
def State.synceTarget (s : State) (n : Nat) : Int :=
  if s.bit (Reg.ETH_SYNCE_TX_LOCK n) then clampInt (-synceMax) synceMax (s.dco (s.rd (Reg.ETH_SYNCE_TX_PATH n))) else 0

/-- `ETHn.STATUS.TX_CLAMP` (R320). -/
def State.txClamp (s : State) (n : Nat) : Bool :=
  s.bit (Reg.ETH_SYNCE_TX_LOCK n) && decide (synceMax < (s.dco (s.rd (Reg.ETH_SYNCE_TX_PATH n))).natAbs)

/-- SYNCE_TX_RATE_UPDATE (R320): the rate moves toward its word, by at most 10 ppm. -/
def execSynceTxRateUpdate (n : Fin 4) (s : State) : Out :=
  let x := s.port n
  let rate := x.rate + clampInt (-synceStep) synceStep (s.synceTarget n - x.rate)
  .next (s.putPort n { x with rate := rate, grid := if rate = 0 then x.grid else .none })

/-! ### Port words (R343, R344) -/

/-- The status word of port `n` (R343). -/
def State.portWord (s : State) (n : Nat) : Word64 :=
  let c := (tabGet 0 (0x248 + n) s.out).toNat
  let q := c / 2 ^ 61
  let r := c / 2 ^ 58 % 4
  BitVec.ofNat 64 (flagIf (s.bit (Reg.ETH_STATUS_LINK n)) (2 ^ 63) + flagIf (s.bit (Reg.ETH_STATUS_RXCLK_OK n)) (2 ^ 62)
    + flagIf (s.gated n) (2 ^ 61) + flagIf s.portCoarse (2 ^ 60) + q * 2 ^ 57 + r * 2 ^ 55
    + s.rd (Reg.ETH_TXQ_PTR_HEAD n q) * 2 ^ 40 + s.rd (Reg.ETH_RXQ_PTR_HEAD n r) * 2 ^ 28 + (s.port n).wr * 2 ^ 20)

/-- The control word of port `n` takes effect (R340, R344). -/
def portControl (n : Nat) (w : Word64) (s : State) : State :=
  let c := w.toNat
  let q := c / 2 ^ 61
  let r := c / 2 ^ 58 % 4
  let s := if w.getLsbD 60 && (s.txq n q).lesson && s.bit (Reg.ETH_TXQ_CFG_EN n q) then txTail n q (c / 2 ^ 44 % 4096) s else s
  let s := if w.getLsbD 57 && (s.rxq n r).lesson && s.bit (Reg.ETH_RXQ_CFG_EN n r) then rxTail n r (c / 2 ^ 32 % 4096) [] s else s
  let x := s.port n
  let rd := c / 2 ^ 24 % 256
  if s.bit (Reg.PTP_CFG_TXTS_DEST n) ∧ (rd + 256 - x.rd) % 256 ≤ (x.wr + 256 - x.rd) % 256 then s.putPort n { x with rd := rd } else s

end Sys2Proof.Machine
end

