-- ==== Sys2Proof/Machine/Streams.lean ====
section
/-! DEFINITION. Streaming a ring over UDP (R296, R297). -/
namespace Sys2Proof.Machine

/-- The whole records and pad words from record start `o` up to WR that fit in `room` bytes: their words in the DRAM, the
next offset and the records taken (R296). -/
def State.takeRecords (s : State) (x : RingSt) (wr : Nat) : Nat → Nat → Nat → List Nat × Nat × Nat
  | 0, o, _ => ([], o, 0)
  | f + 1, o, room =>
    let n := s.recordBytes x o
    if o = wr ∨ room < n then ([], o, 0)
    else
      let r := s.takeRecords x wr f (s.nextRecord x o) (room - n)
      ((List.range (n / 8)).map (fun i => (x.base + o) / 8 + i) ++ r.1, r.2.1,
       if s.isPad x o then r.2.2 else r.2.2 + 1)

/-- The IPv4 header of a datagram with `len` bytes of UDP (R296), with its checksum. -/
def State.ipHeader (s : State) (n len : Nat) : List Byte :=
  let h := fun sum => beBytes 1 0x45 ++ beBytes 1 (s.rd Reg.EVR_CTRL_DSCP * 4) ++ beBytes 2 (20 + len)
    ++ beBytes 2 (s.port n).ipId ++ beBytes 2 0x4000 ++ beBytes 1 (s.rd Reg.EVR_CTRL_TTL) ++ beBytes 1 17 ++ beBytes 2 sum
    ++ beBytes 4 (s.rd Reg.EVR_STREAM_SIP_ADDR) ++ beBytes 4 (s.rd Reg.EVR_STREAM_DIP_ADDR)
  h (65535 - onesSum (h 0))

/-- The frame of a packet of ring `r` (R296), without FCS. -/
def State.streamFrame (s : State) (n r : Nat) (words : List Word64) (first count : Nat) (poison flush : Bool) : List Byte :=
  let x := s.ring r
  let recs := words.flatMap (fun w => leBytes 8 w.toNat)
  let head := beBytes 2 0xC7E4 ++ beBytes 1 1 ++ beBytes 1 (flagIf x.compact 128 + r) ++ beBytes 4 x.seq ++ beBytes 8 first
    ++ beBytes 2 count ++ beBytes 2 recs.length ++ beBytes 1 (poison.toNat + flagIf flush 2) ++ beBytes 3 0
  let body := head ++ recs
  let port := s.rd Reg.EVR_STREAM_DMAC_HI_BASE_PORT + r
  let udp := fun sum => beBytes 2 port ++ beBytes 2 port ++ beBytes 2 (8 + body.length) ++ beBytes 2 sum ++ body
  let pseudo := beBytes 4 (s.rd Reg.EVR_STREAM_SIP_ADDR) ++ beBytes 4 (s.rd Reg.EVR_STREAM_DIP_ADDR) ++ beBytes 2 17
    ++ beBytes 2 (8 + body.length)
  let sum := 65535 - onesSum (pseudo ++ udp 0)
  beBytes 2 (s.rd Reg.EVR_STREAM_DMAC_HI_MAC) ++ beBytes 4 (s.rd Reg.EVR_STREAM_DMAC_LO_MAC)
    ++ beBytes 2 (s.rd (Reg.ETH_MAC_ADDR_HI_ADDR n)) ++ beBytes 4 (s.rd (Reg.ETH_MAC_ADDR_LO_ADDR n)) ++ beBytes 2 0x0800
    ++ s.ipHeader n (8 + body.length) ++ udp (if sum = 0 then 65535 else sum)

/-- What the engine finds as it reads word `i` of a packet (R292). -/
def eccFound (found : List (BitVec 24 × Ecc)) (i : Nat) : Ecc := ((found.find? (fun p => p.1.toNat == i)).map Prod.snd).getD .ok

/-- A packet of ring `r` goes to its transmit queue (R296, R297): with `flush`, whatever waits; without, only where
the next record would not fit. Nothing goes while the link is down or the queue is full. A host may have left RD inside a
record: the packet begins with that record (DEDUCED, assumption 51). `found` tells the errors in the words that the engine
reads. -/
def streamSend (r : Nat) (flush : Bool) (found : List (BitVec 24 × Ecc)) (s : State) : State :=
  let x := s.ring r
  let n := s.rd (Reg.EVR_RING_CFG_PORT r)
  let q := s.rd (Reg.EVR_RING_CFG_QUEUE r)
  let wr := s.rd (Reg.EVR_RING_WR_OFFSET r)
  let m := s.startBefore x (s.rd (Reg.EVR_RING_RD_OFFSET r)) (x.size / 8) (x.mark, x.markIdx)
  let room := s.maxLen n - 70
  let p := s.takeRecords x wr (room / 8) m.1 room
  if !s.bit (Reg.EVR_RING_CFG_STREAM r) ∨ !s.bit (Reg.ETH_STATUS_LINK n) ∨ (s.txq n q).stream.isSome ∨ p.1 = [] ∨
      (!flush ∧ p.2.1 = wr) then s
  else
    let bad := p.1.any (fun i => decide (s.dramFinds i (eccFound found i) = .double))
    let words := p.1.map s.dramWord
    let s := p.1.foldl (fun s i => dramEcc i (eccFound found i) s) s
    let frame := s.streamFrame n r words m.2 p.2.2 bad flush
    let s := s.putTxq n q { s.txq n q with stream := .some { data := frame, buffered := true, stream := true } }
    let s := s.putPort n { s.port n with ipId := ((s.port n).ipId + 1) % 65536 }
    let s := s.putRing r { x with seq := (x.seq + 1) % 2 ^ 32, mark := p.2.1, markIdx := m.2 + p.2.2 }
    (s.wr (Reg.EVR_RING_RD_OFFSET r) p.2.1).bump (Reg.EVR_RING_PKTS_COUNT r)

/-- STREAM_PACKET_SEND (R296): the next record would not fit. -/
def execStreamPacketSend (r : Fin 8) (found : List (BitVec 24 × Ecc)) (s : State) : Out := .next (streamSend r false found s)

/-- STREAM_FLUSH (R296): FLUSH µs have passed since the packet's first record. -/
def execStreamFlush (r : Fin 8) (found : List (BitVec 24 × Ecc)) (s : State) : Out := .next (streamSend r true found s)

end Sys2Proof.Machine
end

