-- ==== Sys2Proof/Machine/Syllabus.lean ====
section
/-! DEFINITION. The Standard Syllabus: what its lessons share, the tracking lessons, qualification, the concord
vote and roll call with its command port (R127 to R135, R139 to R152, R388). The lessons run as whole steps: their
instructions are in the image, which the spec does not give (assumption 30). -/
namespace Sys2Proof.Machine

/-! ### Shared -/

/-- Do the lessons of engine `e` run: a Standard Syllabus is loaded, and the engine, or E16 for it, runs them? -/
def State.sylRuns (s : State) (e : Nat) : Bool :=
  s.image.standard && !s.engHalted e &&
  ((s.engine e).run || (decide (s.subst.phase = .serving ∧ s.subst.eng = e) && !(s.engine 16).stopped && s.armed))

/-- The engine that runs the lessons of engine `e`, as a posted event names it (R381). -/
def State.acting (s : State) (e : Nat) : Nat := if s.subst.phase = .serving ∧ s.subst.eng = e then 16 else e

/-- A lesson of engine `e` commits out-word `i` for the next bell (R54). -/
def lessonWrite (e i : Nat) (w : Word64) (s : State) : State :=
  { s with bell := { s.bell with commits := s.bell.commits ++ [(e, i, w)] } }

/-- An in-word as a number. -/
def State.inw' (s : State) (i : Nat) : Nat := (tabGet 0 i s.inw).toNat

def State.sylSlot (s : State) (n : Nat) : SylSlot := tabGet {} n s.syl.slots
def State.putSylSlot (s : State) (n : Nat) (x : SylSlot) : State := { s with syl := { s.syl with slots := tabSet {} n x s.syl.slots } }
def State.sylPath (s : State) (p : Nat) : SylPath := tabGet {} p s.syl.paths
def State.putSylPath (s : State) (p : Nat) (x : SylPath) : State := { s with syl := { s.syl with paths := tabSet {} p x s.syl.paths } }
def State.sylPort (s : State) (n : Nat) : SylPort := tabGet {} n s.syl.ports
def State.putSylPort (s : State) (n : Nat) (x : SylPort) : State := { s with syl := { s.syl with ports := tabSet {} n x s.syl.ports } }

/-- Monitor word M1 of slot `n` as latched (R126). -/
def State.m1 (s : State) (n : Nat) : Nat := s.inw' (0x21 + 2 * n)
/-- FOFF_XO of slot `n` in M0 (R126). -/
def State.m0Xo (s : State) (n : Nat) : Int := toSigned 32 (s.inw' (0x20 + 2 * n) / 2 ^ 32)
/-- JUMP_COUNT, REBASE_SEQ and BW in M1. -/
def m1Jump (m : Nat) : Nat := m / 2 ^ 28 % 256
def m1Rebase (m : Nat) : Nat := m / 2 ^ 36 % 16
def m1Bw (m : Nat) : Nat := m / 2 ^ 47 % 16
/-- JACT in M1. -/
def m1Jact (m : Nat) : Bool := m.testBit 54

/-- PHASE and COUNT of a phase word (R51). -/
def wordPhase (w : Nat) : Int := toSigned 48 w
def wordCount (w : Nat) : Nat := w / 2 ^ 48 % 256
/-- A phase word with an edge and none of PILEUP, COARSE and SUPPLY (R156, R167). -/
def wordGood (w : Nat) : Bool := decide (1 ≤ wordCount w) && !w.testBit 59 && !w.testBit 58 && !w.testBit 57

/-- Is the SAFE action in force as lessons see it: EV104 in in-word 0x0E1 (R388, R392)? -/
def State.safeSeen (s : State) : Bool := (s.inw' 0xE1).testBit 40

/-! ### Temperature (R451) -/

/-- `k` binary digits of log2 of a mantissa in [1, 2) with 64 fraction bits. -/
def log2Digits : Nat → Nat → Nat → Nat
  | 0, _, acc => acc
  | k + 1, m, acc =>
    let q := m * m / 2 ^ 64
    if 2 ^ 65 ≤ q then log2Digits k (q / 2) (2 * acc + 1) else log2Digits k q (2 * acc)

/-- The natural logarithm of `num / den` in 2^-60, with the error of a 64-bit working precision. -/
def lnFix (num den : Nat) : Int :=
  let x : Nat := num * 2 ^ 128 / max 1 den
  let e : Nat := x.log2
  let m : Nat := x * 2 ^ 64 / 2 ^ e
  (Int.subNatNat e 128 * 2 ^ 60 + (log2Digits 60 m 0 : Nat)) * 837963523372001241319908 / 2 ^ 80

/-- The temperature in 2^-7 °C that the coefficients give for a ratio (R451). -/
def TempCal.temp (c : TempCal) (ratio : Nat) : Int :=
  let l := lnFix (10000 * (10 ^ 6 + c.trim).toNat * ratio) (10 ^ 6 * (65536 - ratio))
  let d := c.a * 2 ^ 60 + c.b * l + c.c * l ^ 3 / 2 ^ 120
  if d ≤ 0 then Config.freeInt d.natAbs else roundDiv (640 * 2 ^ 130 - 174816 * d) (5 * d) + c.off

/-- The XO temperature by the last valid ratio (R189). -/
def State.xoTemp (s : State) : Int := s.syl.cal.temp s.syl.ratio

/-! ### Tracking lessons (R127, R128) -/

/-- One bell, in ns. -/
def State.bellNs (s : State) : Nat := 2 * s.bell.period

/-- The report word of slot `n` (R127). -/
def SylSlot.report (x : SylSlot) : Word64 :=
  BitVec.ofNat 64 (x.trk * 2 ^ 62 + flagIf x.sat (2 ^ 61) + ofSigned 28 (satInt 28 x.freq) * 2 ^ 32 + ofSigned 32 (satInt 32 x.phase))

/-- The bandwidth of code `bw` in 0.1 Hz (R128). -/
def trackBw (bw : Nat) : Nat :=
  [1, 2, 5, 10, 20, 50, 100, 200, 500, 1000, 2000, 5000, 10000].getD bw (max 1 (Config.trackBw bw))

/-- The damping of the tracking loops in 10^-4 (R128). -/
def trackDamp : Nat := 7071

/-- The loop of a slot takes a phase word with edges, `ns` after its last update (R128): the phase estimate runs on by the
frequency estimate, and the error against the word corrects both, the frequency in proportion to the time. DESIGN CHOICE
(assumption 31): the spec gives the damping, the bandwidth and this scaling, and not the equations; the two gains are free. -/
def SylSlot.update (x : SylSlot) (w ns : Nat) : SylSlot :=
  let ph := x.phase + roundDiv (x.freq * 16 * ns) (10 ^ 9)
  let e := roundDiv (wordPhase w) 16 - ph
  let p := ph + roundDiv (Config.trackKp (trackBw x.bw) trackDamp * e) (2 ^ 32)
  let f := x.freq + roundDiv (Config.trackKi (trackBw x.bw) trackDamp * ns * e) (2 ^ 64)
  { x with freq := f, phase := p, sat := saturates 28 f || saturates 32 p }

/-- The tracking lesson of slot `n` (R128). -/
def trackSlot (n : Nat) (s : State) : State :=
  let x := s.sylSlot n
  let m := s.m1 n
  let w := s.inw' n
  let b := s.bell.number
  let x :=
    if !m.testBit 63 || m.testBit 61 then { x with trk := 0 }
    else if x.trk = 0 ∨ m1Rebase m ≠ x.rebase ∨ m1Jump m ≠ x.jump ∨ m1Bw m ≠ x.bw then
      let ph := roundDiv (wordPhase w) 16
      { x with
        trk := 1, rebase := m1Rebase m, jump := m1Jump m, bw := m1Bw m, phase := ph, acq := b, upd := b
        sat := saturates 32 ph || saturates 28 x.freq }
    else if 1 ≤ wordCount w then { x.update w ((b - x.upd) * s.bellNs) with upd := b }
    else x
  lessonWrite (n / 4) (0x210 + n) x.report (s.putSylSlot n x)

/-- TRACK_LOCKED (R128): 10 / BW seconds have passed in ACQUIRING. -/
def execTrackLocked (n : Fin 24) (s : State) : Out :=
  let x := s.sylSlot n
  .next (if s.sylRuns (n / 4) ∧ x.trk = 1 ∧ 100 * 10 ^ 9 ≤ (s.bell.number - x.acq) * s.bellNs * trackBw x.bw then
    s.putSylSlot n { x with trk := 2 }
  else s)

/-! ### Qualification (R129 to R131, R134) -/

/-- A hard check of slot `n` that fails at this pass: its REASON (R129). DESIGN CHOICE (assumption 27): the counts of a slot
that a reset has left standing are compared with 0 at the first pass after it. -/
def State.hardCheck (s : State) (n : Nat) : Option Nat :=
  let m := s.m1 n
  if m.testBit 59 then some 3 else if m.testBit 57 then some 4 else if m.testBit 56 then some 5
  else if m.testBit 55 then some 6
  else if !m1Jact m && decide (m1Jump m ≠ (s.sylSlot n).jumpPass) then some 7 else none

/-- The grade cap of an ESMC quality level (R347), from the SSM code and the enhanced code, by Option. -/
def qlCap (opt2 : Bool) : Option (Nat × Nat) → Nat
  | none => 1
  | some (ssm, essm) =>
    if essm = 0x20 ∨ essm = 0x21 ∨ essm = 0x23 then 7
    else if essm = 0x22 then 3
    else if opt2 then
      match ssm with
      | 0x1 => 7 | 0x7 => 6 | 0x4 => 6 | 0xD => 4 | 0xA => 3 | 0xE => 2 | 0x0 => 2 | _ => 1
    else
      match ssm with
      | 0x2 => 7 | 0x4 => 6 | 0x8 => 5 | 0xB => 3 | _ => 1

/-- The grade cap of a grandmaster's clockClass (R347). -/
def classCap : Nat → Nat
  | 6 => 7 | 7 => 5 | 135 => 5 | 140 => 4 | 150 => 3 | 160 => 2 | _ => 1

/-- `ql_cap` of S16 to S21 (R134, R347): a virtual slot takes the lowest-numbered enabled port on its timescale. -/
def State.slotCap (s : State) (n : Nat) : Nat :=
  if n < 20 then qlCap (s.sylPort (n - 16)).opt2 (s.sylPort (n - 16)).ql
  else
    match (List.range 4).find? (fun k => (s.sylPort k).enable && decide ((s.sylPort k).ts = s.rd (Reg.SLOT_VCFG_TS n))) with
    | some k => classCap (s.sylPort k).gmClass
    | none => 1

/-- The grade of slot `n` in state `st` at pass `k` (R134). -/
def State.gradeOf (s : State) (n st k : Nat) (x : SylSlot) : Nat :=
  let m := s.m1 n
  if st = 0 ∨ st = 4 ∨ st = 5 then 0
  else
    let j := ((x.jumps.filter (fun e => decide (k < e.1 + 60000))).map (fun e => e.2)).sum
    let g : Int := (m / 2 ^ 51 % 8 : Nat)
    let g := if m1Jact m then (if 4 ≤ j then g - 2 else if 1 ≤ j then g - 1 else g) else g
    let g := if m.testBit 58 then g - 1 else g
    let g := if (x.tallyAt.map (fun t => decide (k < t + 10000))).getD false && !m.testBit 57 then g - 1 else g
    let g := if 16 ≤ n ∧ n ≤ 21 then min g (s.slotCap n) else g
    (max g 1).toNat

/-! ### The concord vote (R150, R151) -/

def State.rankOf (s : State) (p n : Nat) : Nat := tabGet 0 n (s.sylPath p).pol.rank

/-- The home path of slot `n` (R140). -/
def State.homePath (s : State) (n : Nat) : Option Nat :=
  (List.range 8).find? (fun p => decide (s.rankOf p n ≠ 0) ||
    (decide ((s.sylPath p).pol.mode = 2) && decide ((s.sylPath p).pol.manual = n)))

/-- The path on which two slots are peers (R150). -/
def State.peersOn (s : State) (a b : Nat) : Option Nat :=
  (List.range 8).find? (fun p => decide (s.rankOf p a ≠ 0 ∧ s.rankOf p a = s.rankOf p b))

/-- The pairs of slots, each once. -/
def slotPairs : List (Nat × Nat) := (List.range 24).flatMap (fun a => (List.range 24).filterMap (fun b => if a < b then some (a, b) else none))

/-- A slot that was QUALIFIED, or DISPUTED with `d`, and shows FVALID (R150, R151). -/
def State.trusted (s : State) (n : Nat) (d : Bool) : Bool :=
  let st := (s.sylSlot n).state
  (decide (st = 2) || (d && decide (st = 3))) && (s.m1 n).testBit 60

/-- Does the pair disagree after this pass, by its evaluation where it can be evaluated, else by its last one (R150)? -/
def State.pairDisagrees (s : State) (q : Nat × Nat) : Bool :=
  let was := s.syl.disagree.contains q
  if (s.peersOn q.1 q.2).isSome && s.trusted q.1 true && s.trusted q.2 true then
    let d := (s.m0Xo q.1 - s.m0Xo q.2).natAbs
    let l := max (s.sylSlot q.1).concord (s.sylSlot q.2).concord
    if was then decide (7 * l / 8 < d) else decide (l < d)
  else was

/-- Is the model of path `p` learned (R184)? -/
def State.learned (s : State) (p : Nat) : Bool :=
  let m := (s.sylPath p).model
  decide (3600 ≤ m.nsamp ∧ (s.bell.number - m.last) * s.bellNs ≤ 86400 * 10 ^ 9)

/-- The prediction of a model at bell `b` and temperature `t`, in 2^-72, as a fraction over 10^9 × 2^14 (R180). -/
def Model.predict (m : Model) (ns : Int) (t : Int) : Int :=
  m.y0 * (10 ^ 9 * 2 ^ 14) + m.d * ns * 2 ^ 14 + m.c1 * (t - m.t0) * (10 ^ 9 * 2 ^ 7) + m.c2 * (t - m.t0) ^ 2 * 10 ^ 9

/-- The holdover voice of path `p` in 2^-4 ppb (R151, R184). -/
def State.voice (s : State) (p : Nat) : Int :=
  let m := (s.sylPath p).model
  let ns : Int := ((s.bell.number : Int) - m.epoch) * s.bellNs
  roundNearest (m.predict ns s.xoTemp * 16) (2 ^ 72 * 2 ^ 14)

/-- One vote between `a` and `b`: 1 for `a`, -1 for `b`, 0 for an abstention. -/
def vote (forA forB : Bool) : Int := if forA && !forB then 1 else if forB && !forA then -1 else 0

/-- Votes for the first slot of a disagreeing pair less the votes for the second (R151). -/
def State.votes (s : State) (p : Nat) (q : Nat × Nat) : Int :=
  let near (f : Int) (c x : Nat) : Bool := decide ((f - s.m0Xo x).natAbs ≤ max c (s.sylSlot x).concord)
  let slots := ((List.range 24).filter (fun v => decide (v ≠ q.1 ∧ v ≠ q.2) && s.trusted v false)).map (fun v =>
    vote (near (s.m0Xo v) (s.sylSlot v).concord q.1) (near (s.m0Xo v) (s.sylSlot v).concord q.2))
  let model := if s.learned p then vote (near (s.voice p) 0 q.1) (near (s.voice p) 0 q.2) else 0
  slots.sum + model

/-- The outcome of the vote: the slots in the minority of some pair, and the members of tied pairs (R151). -/
def State.concord (s : State) (pairs : List (Nat × Nat)) : List Nat × List Nat :=
  pairs.foldl (fun acc q =>
    match s.peersOn q.1 q.2 with
    | some p =>
      let v := s.votes p q
      if v = 0 then (acc.1, acc.2 ++ [q.1, q.2]) else if 0 < v then (acc.1 ++ [q.2], acc.2) else (acc.1 ++ [q.1], acc.2)
    | none => acc) ([], [])

/-- The transition of slot `n` at a pass: the new state and REASON (R130). -/
def State.slotRow (s : State) (n : Nat) (x : SylSlot) (minor : Bool) : Nat × Nat :=
  let m := s.m1 n
  let active := m.testBit 63
  let hc := s.hardCheck n
  if x.state ≠ 5 ∧ m.testBit 61 then (5, 9)
  else if x.state = 5 then (if m.testBit 61 then (5, x.reason) else (0, 9))
  else if x.state ≠ 0 ∧ !active then (0, if m.testBit 62 then 2 else 1)
  else if x.state = 0 then
    (if active then (match hc with | some r => (4, r) | none => (1, x.reason)) else (0, x.reason))
  else match hc with
    | some r => (4, if x.state = 4 then x.reason else r)
    | none =>
      if x.state = 4 then (1, x.reason)
      else if (x.state = 2 ∨ x.state = 3) ∧ x.trk ≠ 2 then (1, 10)
      else if x.state = 2 ∧ minor then (3, 8)
      else if x.state = 3 ∧ !minor then (2, x.reason)
      else if x.state = 1 ∧ s.rd (Reg.SLOT_QUAL_OBS_TIME n) * 1000 ≤ x.clean ∧ x.fvSeen ∧ x.trk = 2 then (2, x.reason)
      else (x.state, x.reason)

/-- The state word of a slot (R129). -/
def SylSlot.word (x : SylSlot) : Word64 :=
  BitVec.ofNat 64 (flagIf (decide (x.state = 2 ∧ x.wtr = 0)) (2 ^ 31) + x.wtr % 2 ^ 15 * 2 ^ 16 + x.reason * 256 + x.grade * 16 + x.state)

/-- Roll call evaluates slot `n` at pass `k` (R130, R131, R134). -/
def gradeSlot (k : Nat) (minors tieds : List Nat) (n : Nat) (s : State) : State :=
  let x := s.sylSlot n
  let m := s.m1 n
  let jumped := (m1Jump m + 256 - x.jumpPass) % 256
  let tally := m % 2 ^ 28
  let x := { x with
    clean := if (s.hardCheck n).isSome then 0 else x.clean + 1
    fvSeen := x.fvSeen || m.testBit 60
    jumps := (if jumped = 0 then x.jumps else x.jumps ++ [(k, jumped)]).filter (fun e => decide (k < e.1 + 60000))
    tallyAt := if tally = x.tally then x.tallyAt else some k
    tally := tally }
  let minor := minors.contains n || tieds.contains n
  let r := s.slotRow n x minor
  let wtr := if r.1 = 2 then
      (if x.state ≠ 2 then (s.rd (Reg.SLOT_QUAL_WTR n) * 10, 0)
       else if 99 ≤ x.wtrTick then (x.wtr - 1, 0) else (x.wtr, x.wtrTick + 1))
    else (0, 0)
  let y := { x with
    state := r.1, reason := r.2, wtr := wtr.1, wtrTick := wtr.2, jumpPass := m1Jump m
    clean := if r.1 = 0 ∨ r.1 = 5 ∨ (r.1 = 1 ∧ x.state = 0) then 0 else x.clean
    fvSeen := if r.1 = 1 ∧ x.state ≠ 1 then false else x.fvSeen
    tied := decide (r.1 = 3) && !minors.contains n && tieds.contains n }
  let y := { y with grade := s.gradeOf n r.1 k y }
  lessonWrite 10 (0x228 + n) y.word (s.putSylSlot n y)

/-! ### Selection (R144 to R152, R368) -/

/-- The number by which a path names the twin as a source (R368). -/
def twinSource : Nat := 24

/-- Is the twin a candidate of path `p`: a secondary follows it there, and every word of the last 1 ms was VALID
(R368)? -/
def State.twinCand (s : State) (p : Nat) : Bool :=
  decide (s.inw' 0xD8 / 2 ^ 61 = roleSecondary) && (s.inw' 0xDB / 2 ^ 48).testBit p &&
  ((s.sylPath p).twinSince.map (fun t => decide (500000 ≤ s.now - t))).getD false

/-- May path `p` name slot `n`: a rank, or MANUAL_SLOT under MODE = MANUAL (R144, R146)? -/
def State.named (s : State) (p n : Nat) : Bool :=
  let c := (s.sylPath p).pol
  decide (1 ≤ s.rankOf p n) || (decide (c.mode = 2) && decide (c.manual = n))

/-- Is slot `n` a candidate of path `p` (R144)? -/
def State.cand (s : State) (p n : Nat) : Bool :=
  let x := s.sylSlot n
  s.named p n && decide (x.state = 2 ∧ x.wtr = 0 ∧ (s.sylPath p).pol.minGrade ≤ x.grade)

/-- Is the current slot `n` of path `p` usable (R146), or the twin (R368)? -/
def State.usable (s : State) (p n : Nat) : Bool :=
  let x := s.sylSlot n
  if n = twinSource then
    decide (s.inw' 0xD8 / 2 ^ 61 = roleSecondary) && (tabGet 0 (twinWordAt p) s.commons).msb
  else s.named p n && decide (s.homePath n = some p) && decide ((s.sylPath p).pol.minGrade ≤ x.grade) &&
    (decide (x.state = 2) || (decide (x.state = 3) && x.tied))

/-- Is `a` better than `b` on path `p` (R145)? -/
def State.better (s : State) (p a b : Nat) : Bool :=
  let ra := s.rankOf p a
  let rb := s.rankOf p b
  let ga := (s.sylSlot a).grade
  let gb := (s.sylSlot b).grade
  decide (ra < rb ∨ (ra = rb ∧ (gb < ga ∨ (gb = ga ∧ a < b))))

/-- The best ranked candidate of path `p` (R145). -/
def State.best (s : State) (p : Nat) : Option Nat :=
  (List.range 24).foldl (fun acc n =>
    if s.cand p n && decide (1 ≤ s.rankOf p n) then
      match acc with
      | none => some n
      | some b => if s.better p n b then some n else acc
    else acc) none

/-- What the selection procedure wants path `p` to follow (R152, R368). -/
def State.wanted (s : State) (p : Nat) : Option Nat :=
  let x := s.sylPath p
  let c := x.pol
  let man := decide (c.mode = 2) && s.cand p c.manual && (!x.away || c.manRet)
  let best := if s.twinCand p then some twinSource else if man then some c.manual else s.best p
  let cur := if x.cur = 31 then none else some x.cur
  match cur with
  | none => best
  | some n =>
    if !s.usable p n then best
    else if s.twinCand p then best
    else if c.mode = 2 ∧ n = c.manual then cur
    else if c.mode = 2 ∧ best = some c.manual then best
    else match best with
      | some b => if c.revert ∧ s.rankOf p b < s.rankOf p n then best else cur
      | none => cur

/-- Roll call orders for path `p` (R152). -/
def selectPath (p : Nat) (s : State) : State :=
  let x := s.sylPath p
  let order (o : PathOrder) := s.putSylPath p { x with order := some o }
  if x.pol.mode = 0 ∨ s.safeSeen then (if x.cur ≠ 31 then order .hold else s)
  else if 2 ≤ x.phase then s
  else
    let want := s.wanted p
    if want = (if x.cur = 31 then none else some x.cur) then (if x.phase = 1 then order .abort else s)
    else match want with
      | none => order .hold
      | some t => if x.phase ≠ 1 ∨ x.target ≠ t then order (.go t) else s

/-- ROLL_CALL (R130 to R134, R142, R144 to R152): one pass, from which on the settings are used as the commands have left
them. -/
def execRollCall (s : State) : Out :=
  .next (if !s.sylRuns 10 then s
  else
    let k := s.syl.pass
    let s := forRange 8 (fun p s => s.putSylPath p { s.sylPath p with use := (s.sylPath p).pol }) s
    let dis := slotPairs.filter s.pairDisagrees
    let v := s.concord dis
    let s := { s with syl := { s.syl with disagree := dis, pass := k + 1 } }
    forRange 8 selectPath (forRange 24 (gradeSlot k v.1 v.2) s))

/-- Host-out words 1 to 3 of E10 (R143). -/
def selectionReport (s : State) : State :=
  let field (p : Nat) : Nat :=
    let x := s.sylPath p
    (x.cur * 2 ^ 11 + x.phase * 2 ^ 9 + x.target * 2 ^ 4 + flagIf x.away 8 +
      flagIf (decide (x.cur < 24) && (s.sylSlot x.cur).tied) 4) * 2 ^ (16 * (p % 4))
  let half (k : Nat) : Nat := ((List.range 4).map (fun i => field (4 * k + i))).sum
  let s := lessonWrite 10 0x241 (BitVec.ofNat 64 (half 0)) s
  let s := lessonWrite 10 0x242 (BitVec.ofNat 64 (half 1)) s
  lessonWrite 10 0x243 (BitVec.ofNat 64 (s.syl.handovers % 2 ^ 32 * 2 ^ 32 + s.syl.aborts % 65536 * 65536 + s.syl.fastExits % 65536)) s

/-! ### Command ports (R141, R142) -/

/-- RESULT of a command (R142). -/
inductive CmdResult | ok | badOp | badPath | badSlot | badValue
deriving DecidableEq, Repr

def CmdResult.code : CmdResult → Nat
  | .ok => 0 | .badOp => 1 | .badPath => 2 | .badSlot => 3 | .badValue => 4

/-- A command as a lesson reads it. -/
structure Command where
  op : Nat
  seq : Nat
  path : Nat
  slot : Nat
  value : Nat

/-- The fields of a command word (R141). -/
def Command.ofWord (w : Nat) : Command := ⟨w / 2 ^ 56 % 256, w / 2 ^ 48 % 256, w / 2 ^ 40 % 256, w / 2 ^ 32 % 256, w % 2 ^ 32⟩

/-- A command word of operation `op`. -/
def cmdWord (c : CmdWord) (op : Nat) : Nat :=
  op * 2 ^ 56 + c.seq.toNat * 2 ^ 48 + c.path.toNat * 2 ^ 40 + c.slot.toNat * 2 ^ 32 + c.value.toNat

/-- What a lesson does with a command: RESULT, the VALUE echoed and the state after it. -/
abbrev Handler := Command → State → CmdResult × Nat × State

/-- The lesson of engine `e` processes a command with a SEQ it has not processed (R142). -/
def runCommand (e : Nat) (h : Handler) (w : Nat) (s : State) : State :=
  let c := Command.ofWord w
  if !s.sylRuns e || decide (tabGet 0 e s.syl.seq = c.seq) then s
  else
    let r := h c s
    let s := if r.1 = .ok then r.2.2 else s
    let s := { s with syl := { s.syl with seq := tabSet 0 e c.seq s.syl.seq } }
    lessonWrite e 0x240 (BitVec.ofNat 64 (c.op * 2 ^ 56 + c.seq * 2 ^ 48 + r.1.code * 2 ^ 40 + r.2.1 % 2 ^ 32)) s

/-- The host commits a word to host-in word 0 of engine `e` (R75). -/
def hostCommand (e w : Nat) (s : State) : State :=
  let o := s.hostOwner e
  let h := s.hostWords o
  let s := s.wrs [(Reg.ENG_HIN_HI_DATA o 0, w / 2 ^ 32), (Reg.ENG_HIN_LO_DATA o 0, w)]
  s.putHostWords o { h with hin := tabSet 0 0 (BitVec.ofNat 64 w) h.hin }

/-- A command row: the host commits the command, and the lesson that serves the port processes it. -/
def commandRow (e op : Nat) (h : Handler) (c : CmdWord) (s : State) : State := runCommand e h (cmdWord c op) (hostCommand e (cmdWord c op) s)

/-- The settings of roll call in the VALUE layouts of their commands (R141); 0 for any other operation. -/
def State.rollSetting (s : State) (op p n : Nat) : Nat :=
  let c := (s.sylPath p).pol
  match op with
  | 1 => s.rankOf p n
  | 2 => c.mode + flagIf c.manRet 16
  | 3 => flagIf c.revert 1 + flagIf c.realign 2 + c.minGrade * 16 + c.settle * 65536
  | 4 => c.prepLimit
  | 5 => (s.sylSlot n).concord
  | _ => 0

/-- Has slot `n` a home path other than `p` (R140)? -/
def State.homeElsewhere (s : State) (p n : Nat) : Bool :=
  (List.range 8).any (fun q => decide (q ≠ p) && (decide (s.rankOf q n ≠ 0) ||
    (decide ((s.sylPath q).pol.mode = 2) && decide ((s.sylPath q).pol.manual = n))))

/-- The check of a command of roll call (R141, R142). -/
def State.rollCheck (s : State) (c : Command) : CmdResult :=
  let v := c.value
  if c.op ≠ 0xF ∧ (c.op = 0 ∨ 5 < c.op) then .badOp
  else if 7 < c.path then .badPath
  else if 23 < c.slot ∨ (c.op = 1 ∧ v % 16 ≠ 0 ∧ s.homeElsewhere c.path c.slot) ∨
    (c.op = 2 ∧ v % 4 = 2 ∧ s.homeElsewhere c.path c.slot) then .badSlot
  else
    let bad :=
      if c.op = 1 then decide (15 < v)
      else if c.op = 2 then decide (31 < v ∨ v % 4 = 3 ∨ v / 4 % 4 ≠ 0)
      else if c.op = 3 then decide (c.slot ≠ 0 ∨ v / 16 % 8 = 0 ∨ v / 4 % 4 ≠ 0 ∨ v / 128 % 512 ≠ 0 ∨ v / 65536 = 0)
      else if c.op = 4 then decide (c.slot ≠ 0 ∨ v = 0 ∨ 65535 < v)
      else if c.op = 5 then decide (c.path ≠ 0 ∨ v = 0 ∨ 2 ^ 24 ≤ v)
      else decide (v = 0 ∨ 5 < v)
    if bad then .badValue else .ok

/-- A valid command of roll call (R141, R148). -/
def rollApply (c : Command) (s : State) : State :=
  let x := s.sylPath c.path
  let v := c.value
  match c.op with
  | 1 => s.putSylPath c.path { x with pol := { x.pol with rank := tabSet 0 c.slot v x.pol.rank } }
  | 2 => s.putSylPath c.path { x with away := false, pol := { x.pol with mode := v % 4, manual := c.slot, manRet := v.testBit 4 } }
  | 3 => s.putSylPath c.path { x with pol := { x.pol with
      revert := v.testBit 0, realign := v.testBit 1, minGrade := v / 16 % 8, settle := v / 65536 } }
  | 4 => s.putSylPath c.path { x with pol := { x.pol with prepLimit := v } }
  | 5 => s.putSylSlot c.slot { s.sylSlot c.slot with concord := v }
  | _ => s

/-- Roll call's command port (R141, R142). -/
def rollHandler : Handler := fun c s =>
  let r := s.rollCheck c
  let t := if r = .ok then rollApply c s else s
  (r, t.rollSetting (if c.op = 0xF then c.value % 256 else c.op) c.path c.slot, t)

/-- SET_RANK (R141). -/
def execSetRank (c : CmdWord) (s : State) : Out := .next (commandRow 10 0x01 rollHandler c s)
/-- SET_MODE (R141). -/
def execSetMode (c : CmdWord) (s : State) : Out := .next (commandRow 10 0x02 rollHandler c s)
/-- SET_POLICY (R141). -/
def execSetPolicy (c : CmdWord) (s : State) : Out := .next (commandRow 10 0x03 rollHandler c s)
/-- SET_PREP_LIMIT (R141). -/
def execSetPrepLimit (c : CmdWord) (s : State) : Out := .next (commandRow 10 0x04 rollHandler c s)
/-- SET_CONCORD (R141). -/
def execSetConcord (c : CmdWord) (s : State) : Out := .next (commandRow 10 0x05 rollHandler c s)
/-- ROLL_CALL_GET (R141). -/
def execRollCallGet (c : CmdWord) (s : State) : Out := .next (commandRow 10 0x0F rollHandler c s)

end Sys2Proof.Machine
end

