-- ==== Sys2Proof/Machine/PathLessons.lean ====
section
/-! DEFINITION. The path lessons of the Standard Syllabus: fast exit, handover, loop filter, lock tests, zero
delay, holdover and learning, with their command ports (R153 to R189, R217, R368). -/
namespace Sys2Proof.Machine

/-- The engine that serves path `p` (R174). -/
def pathEngine (p : Nat) : Nat := 6 + p / 2

/-! ### Units (R55, R168, R169) -/

/-- π to 50 decimals, times 10^50. -/
def piNum : Int := 314159265358979323846264338327950288419716939937511

/-- A gain `num / den` as mantissa and right shift (R169). DESIGN CHOICE (assumption 53): a gain of 2^53 or more, for which
the format has no shift, keeps 53 significant bits too, as the rule says of every fn: the mantissa is followed by zeros. -/
def gainOf (num den : Int) : Int × Nat :=
  let k := (num * 2 ^ 127 / den).toNat.log2
  let sh := 127 + 52 - k
  let extra := k - (127 + 52)
  (roundDiv (num * 2 ^ sh) (den * 2 ^ extra) * 2 ^ extra, sh)

/-- gp, in DCO LSB per phase unit (R169): 2ζωn × 10^-9 × 2^40. -/
def LoopCfg.gp (c : LoopCfg) : Int × Nat :=
  gainOf (4 * c.damp * piNum * c.fn * 2 ^ 40) (256 * 10 ^ 50 * 10 ^ 4 * 10 ^ 9)

/-- gi, in integrator units per phase unit per bell of `ns` nanoseconds (R169): ωn² × Tbell × 10^-9 × 2^88. -/
def LoopCfg.gi (c : LoopCfg) (ns : Nat) : Int × Nat :=
  gainOf (4 * piNum * piNum * (c.fn * c.fn * ns : Nat) * 2 ^ 88) (10 ^ 100 * 10 ^ 8 * 10 ^ 18)

/-- PSL and FCLAMP in DCO LSB (R175). -/
def LoopCfg.pslLsb (c : LoopCfg) : Int := roundDiv (c.psl * 2 ^ 56) (10 ^ 10)
def LoopCfg.fclampLsb (c : LoopCfg) : Int := roundDiv (c.fclamp * 2 ^ 56) (10 ^ 9)

/-- What the phase-slope limit allows in `ns` nanoseconds, in 2^-16 ns (R171). -/
def LoopCfg.pslMove (c : LoopCfg) (ns : Nat) : Int := roundDiv (c.psl * ns * 65536) (10 ^ 10)

/-- Move `x` toward 0 by at most `d`. -/
def toward0 (x d : Int) : Int := if 0 ≤ x then max 0 (x - d) else min 0 (x + d)

/-- Clamp a DCO word to FCLAMP (R168). -/
def LoopCfg.clampY (c : LoopCfg) (y : Int) : Int := clampInt (-c.fclampLsb) c.fclampLsb y

/-- The DCO word in force of path `p` as latched (R50). -/
def State.dcoIn (s : State) (p : Nat) : Int := (tabGet 0 (0x50 + p) s.inw).toInt
/-- STEP_TOTAL in the path status word (R164). -/
def State.stepTotal (s : State) (p : Nat) : Int := toSigned 48 (s.inw' (0x58 + p) / 65536)
/-- HOLD in the path status word (R164). -/
def State.holdSeen (s : State) (p : Nat) : Bool := (s.inw' (0x58 + p)).testBit 14

/-! ### Sources (R153, R368) -/

/-- The twin word of path `p` in commons: VALID, SEQ and value (R366). -/
def State.twinPath (s : State) (p : Nat) : Bool × Nat × Int :=
  let w := tabGet 0 (twinWordAt p) s.commons
  (w.msb, w.toNat / 2 ^ 56 % 128, toSigned 48 w.toNat)

/-- Does source `n` of path `p` show a condition for a fast exit (R153, R368, R388)? -/
def State.sourceBad (s : State) (p n : Nat) : Bool :=
  s.safeSeen ||
  (if n = twinSource then
    decide (s.inw' 0xD8 / 2 ^ 61 ≠ roleSecondary) || !(s.inw' 0xD8).testBit 43 || s.bit Reg.TWIN_STATUS_SLIP ||
      !(((s.sylPath p).twinAt.map (fun t => decide (s.now ≤ t + 10000))).getD false)
   else
    let m := s.m1 n
    !m.testBit 63 || m.testBit 61 || m.testBit 59 || m.testBit 57 || m.testBit 56 || m.testBit 55 ||
      (!m1Jact m && decide (m1Jump m ≠ (s.sylSlot n).jumpBell)))

/-- The twin's sample of this bell, if a new VALID one has come (R366, R368): it is noted as the latest. -/
def twinNote (p : Nat) (s : State) : State :=
  let x := s.sylPath p
  let w := s.twinPath p
  if !w.1 then (if x.twinSince = none then s else s.putSylPath p { x with twinSince := none })
  else if w.2.1 = x.twinSeq then s
  else s.putSylPath p { x with twinSeq := w.2.1, twinAt := some s.now, twinSince := some (x.twinSince.getD s.now) }

/-- Is there a phase for source `n` in this bell: a good word, or a new twin sample (R156, R167, R368)? -/
def State.sourcePhase (s : State) (p n : Nat) : Option Int :=
  if n = twinSource then (if (s.sylPath p).twinAt = some s.now ∧ (s.twinPath p).1 then some (s.twinPath p).2.2 else none)
  else if wordGood (s.inw' n) then some (wordPhase (s.inw' n)) else none

/-! ### Holdover (R186 to R189) -/

/-- 10 ms and 50 ms, in ticks. -/
def markTicks : Nat := 5000000

/-- The history takes the DCO word in force, unless a hold applies (R186); marks older than the longest window
are dropped. -/
def historyNote (p : Nat) (s : State) : State :=
  if s.holdSeen p then s
  else
    let x := s.sylPath p
    let mk := s.now / markTicks
    let y := s.dcoIn p
    let h := match x.hist with
      | (k, sum, n) :: t => if k = mk then (k, sum + y, n + 1) :: t else (mk, y, 1) :: x.hist
      | [] => [(mk, y, 1)]
    s.putSylPath p { x with hist := h.take 100107 }

/-- The mean word of the rollback window, if it is not empty (R186). -/
def State.rollback (s : State) (p : Nat) : Option Int :=
  let x := s.sylPath p
  let m := s.now / markTicks
  let l := x.hist.filter (fun e => decide (e.1 + 5 < m ∧ m ≤ e.1 + 5 + 100 * x.loop.window))
  let n := (l.map (fun e => e.2.2)).sum
  if n = 0 then none else some (roundDiv (l.map (fun e => e.2.1)).sum n)

/-- The path leaves its source for holdover (R153, R186, R187): y_h, the basis, the entry values; AWAY where it
leaves MANUAL_SLOT (R148); a SETTLE in progress ends. -/
def enterHoldover (p : Nat) (s : State) : State :=
  let x := s.sylPath p
  let r := s.rollback p
  let raw := r.getD (s.dcoIn p)
  let y := x.loop.clampY raw
  s.putSylPath p { x with
    st := 3, cur := 31, yh := y, y := y, integ := y * 2 ^ 48
    basis := if r.isNone then 3 else if s.learned p then 2 else 1
    te := s.bell.number, tempE := s.xoTemp, held := x.model, fcl := decide (y ≠ raw)
    away := x.away || (decide (x.use.mode = 2) && decide (x.cur = x.use.manual))
    phase := if x.phase = 3 then 0 else x.phase, target := if x.phase = 3 then 31 else x.target
    slew := false, inWin := none, outWin := none }

/-- HOLDOVER_EVALUATION (R187, R189): with HO_BASIS = MODEL the predicted change since the entry is added to y_h. -/
def execHoldoverEvaluation (p : Fin 8) (s : State) : Out :=
  let x := s.sylPath p
  .next (if !s.sylRuns (pathEngine p) || decide (x.st ≠ 3 ∨ x.basis ≠ 2) then s
  else
    let m := x.held
    let t := s.xoTemp
    let ns : Int := ((s.bell.number : Int) - x.te) * s.bellNs
    let d := m.d * ns * 2 ^ 14 + m.c1 * (t - x.tempE) * (10 ^ 9 * 2 ^ 7)
      + m.c2 * ((t - m.t0) ^ 2 - (x.tempE - m.t0) ^ 2) * 10 ^ 9
    let raw := x.yh + roundDiv d (10 ^ 9 * 2 ^ 14 * 2 ^ 16)
    let y := x.loop.clampY raw
    lessonWrite (pathEngine p) (0x200 + p) (BitVec.ofInt 64 y)
      (s.putSylPath p { x with y := y, integ := y * 2 ^ 48, fcl := decide (y ≠ raw) }))

/-! ### Handover (R155 to R159) -/

/-- A handover aborts (R156): posted and counted; the path stays on its current source. -/
def handoverAbort (p : Nat) (s : State) : State :=
  let s := s.putSylPath p { s.sylPath p with phase := 0, target := 31, cutNext := false }
  let s := { s with syl := { s.syl with aborts := s.syl.aborts + 1 } }
  s.raise 24 (s.acting (pathEngine p))

/-- The path lesson reads roll call's order (R152, R155, R156): accepted while IDLE or in PREPARE. An order to HOLD
ends a PREPARE as an abort does, and enters holdover unless the path has no history. -/
def readOrder (p : Nat) (s : State) : State :=
  let x := s.sylPath p
  match x.order with
  | none => s
  | some o =>
    let s := s.putSylPath p { x with order := none }
    if x.phase = 2 ∨ x.phase = 3 ∨ x.cutNext then s
    else match o with
      | .hold =>
        let s := if x.phase = 1 then handoverAbort p s else s
        if x.st = 0 ∨ x.st = 3 then s else enterHoldover p s
      | .abort => if x.phase = 1 then handoverAbort p s else s
      | .go t => s.putSylPath p { s.sylPath p with phase := 1, target := t, p0 := s.bell.number }

/-- PREPARE in this bell (R156, R368): an abort, or the end of PREPARE at the first bell after p0 in which the
target is ready. -/
def prepare (p : Nat) (s : State) : State :=
  let x := s.sylPath p
  if x.phase ≠ 1 ∨ x.cutNext then s
  else if s.sourceBad p x.target then handoverAbort p s
  else if x.p0 < s.bell.number ∧ (s.sourcePhase p x.target).isSome ∧
      (x.target = twinSource ∨ (s.sylSlot x.target).trk = 2) then s.putSylPath p { x with cutNext := true }
  else s

/-- The CUT (R157, R179, R368): B and the integrator are set, the target becomes current, AWAY follows R148, and
HANDOVER is posted. -/
def cut (p : Nat) (s : State) : State :=
  let x := s.sylPath p
  let x := { x with cutNext := false, phase := 2 }
  if s.sourceBad p x.target then handoverAbort p (s.putSylPath p x)
  else
    let twin := decide (x.target = twinSource)
    let t := s.sylSlot x.target
    let i := if twin then x.integ else x.integ + roundDiv (satInt 28 t.freq * 2 ^ 96) (10 ^ 9)
    let raw := roundHalfUp i (2 ^ 48)
    let y := x.loop.clampY raw
    let man := decide (x.use.mode = 2)
    let s := s.putSylPath p { x with
      b := if twin then (s.twinPath p).2.2 else satInt 32 t.phase * 16
      integ := i, y := y, fcl := x.fcl || decide (y ≠ raw), psl := false
      st := if x.st = 0 then 4 else 1
      cur := x.target, stepRef := s.stepTotal p, upd := s.bell.number
      away := if man ∧ x.target = x.use.manual then false
              else x.away || (man && decide (x.cur = x.use.manual))
      basis := 0, hist := [], inWin := none, outWin := none, cutAt := some s.now, perr := 0 }
    let s := { s with syl := { s.syl with handovers := s.syl.handovers + 1 } }
    s.raise 98 (s.acting (pathEngine p))

/-- Have `ms` milliseconds of bells passed since bell `b`? -/
def State.bellsPassed (s : State) (b ms : Nat) : Bool := decide (ms * 10 ^ 6 ≤ (s.bell.number - b) * s.bellNs)

/-- PREP_LIMIT_EXPIRY (R156): PREP_LIMIT has passed since p0, and PREPARE aborts, unless it has ended already. -/
def execPrepLimitExpiry (p : Fin 8) (s : State) : Out :=
  let x := s.sylPath p
  .next (if s.sylRuns (pathEngine p) ∧ x.phase = 1 ∧ !x.cutNext ∧ s.bellsPassed x.p0 x.use.prepLimit then handoverAbort p s else s)

/-- SETTLE_END (R158): SETTLE has passed, with REALIGN since the end of the slew. -/
def execSettleEnd (p : Fin 8) (s : State) : Out :=
  let x := s.sylPath p
  .next (if s.sylRuns (pathEngine p) ∧ x.phase = 3 ∧ !x.slew ∧ s.bellsPassed x.settleAt x.use.settle then
    s.putSylPath p { x with phase := 0, target := 31 }
  else s)

/-! ### The loop (R167 to R173, R217) -/

/-- The zero-delay mean (R217): the feedback words with edges of the last 16 bells; without one, and from 1 ms without a
word on, Z keeps. The first Z is still to be brought in. -/
def zeroDelayNote (p : Nat) (s : State) : State :=
  let x := s.sylPath p
  let w := s.inw' (0x60 + x.loop.zd)
  if x.loop.zd = 31 ∨ (wordCount w = 0 ∧ x.zAt + 500000 ≤ s.now) then s
  else
    let l := ((if 1 ≤ wordCount w then some (wordPhase w) else none) :: x.zWords).take 16
    let v := l.filterMap id
    let z := if v.isEmpty then x.z else roundDiv v.sum v.length
    s.putSylPath p { x with
      zWords := l, z := z, zIn := if v.isEmpty then x.zIn else some (x.zIn.getD z)
      zAt := if 1 ≤ wordCount w then s.now else x.zAt }

/-- Δt of an update, as bells over a denominator (R168, R368): whole bells up to 2^20, or 6.5536 µs on the twin. -/
def State.updateSpan (s : State) (x : SylPath) : Nat × Nat :=
  if x.cur = twinSource then (65536, 10 * s.bellNs) else (min (s.bell.number - x.upd) (2 ^ 20), 1)

/-- One update of the loop filter with phase `ph` (R167, R168, R169, R171), the REALIGN slew included (R159). -/
def filterUpdate (p : Nat) (ph : Int) (s : State) : State :=
  let x := s.sylPath p
  let c := x.loop
  let dt := s.updateSpan x
  let move := roundDiv (c.psl * (dt.1 * s.bellNs * 65536 : Nat)) (10 ^ 10 * dt.2 : Nat)
  let b := if x.slew then toward0 x.b move else x.b
  let zIn := x.zIn.map (fun v => toward0 v move)
  let e := ph - b + (if c.zd = 31 then 0 else x.z - zIn.getD 0)
  let gp := c.gp
  let gi := c.gi s.bellNs
  let p0 := roundHalfUp (gp.1 * e) (2 ^ gp.2)
  let pc := clampInt (-c.pslLsb) c.pslLsb p0
  let pr := if x.st = 4 then p0 else pc
  let i := satInt 128 (x.integ + roundHalfUp (gi.1 * dt.1 * e) (2 ^ gi.2 * dt.2 : Nat))
  let raw := pr + roundHalfUp i (2 ^ 48)
  let y := c.clampY raw
  let win : Int := roundDiv (c.lockWin * 65536) 10
  s.putSylPath p { x with
    b := b, slew := x.slew && decide (b ≠ 0), zIn := zIn, y := y, upd := s.bell.number
    integ := if y = raw then i else x.integ
    perr := e, psl := decide (pr ≠ p0), fcl := x.fcl || decide (y ≠ raw)
    settleAt := if x.slew then s.bell.number else x.settleAt
    inWin := if (e.natAbs : Int) ≤ win then some (x.inWin.getD s.now) else none
    outWin := if 4 * win < e.natAbs then some (x.outWin.getD s.now) else none }

/-- Has a test of the lock detector held since `t` for LOCK_TIME (R173)? -/
def State.lockTimed (s : State) (x : SylPath) (t : Option Nat) : Bool :=
  t.any (fun t => decide (t + x.loop.lockTime * 500000 ≤ s.now))

/-- PATH_LOCK (R173). -/
def execPathLock (p : Fin 8) (s : State) : Out :=
  let x := s.sylPath p
  .next (if s.sylRuns (pathEngine p) ∧ (x.st = 1 ∨ x.st = 4) ∧ s.lockTimed x x.inWin then
    s.putSylPath p { x with st := 2, outWin := none }
  else s)

/-- PATH_UNLOCK (R173). -/
def execPathUnlock (p : Fin 8) (s : State) : Out :=
  let x := s.sylPath p
  .next (if s.sylRuns (pathEngine p) ∧ x.st = 2 ∧ s.lockTimed x x.outWin then
    s.putSylPath p { x with st := 1, inWin := none }
  else s)

/-- The control word of path `p` (R165). -/
def State.controlWord (s : State) (p : Nat) : Word64 :=
  let x := s.sylPath p
  BitVec.ofNat 64 (x.st * 2 ^ 61 + x.cur * 2 ^ 56 + x.phase * 2 ^ 54 + x.target * 2 ^ 49 + flagIf (s.learned p) (2 ^ 48)
    + flagIf x.psl (2 ^ 47) + flagIf x.fcl (2 ^ 46) + x.basis * 2 ^ 44 + ofSigned 32 (satInt 32 (roundDiv x.perr 16)))

/-- The start of a pass of the path lesson: the STEP_TOTAL not yet accounted for enters B, and what the last bell
left is cleared (R153, R177). -/
def pathStart (p : Nat) (s : State) : State :=
  let x := s.sylPath p
  let total := s.stepTotal p
  s.putSylPath p { x with
    b := x.b + toSigned 48 (ofSigned 48 (total - x.stepRef)), stepRef := total
    integ := if x.st = 0 then s.dcoIn p * 2 ^ 48 else x.integ
    phase := if x.phase = 2 then 3 else x.phase, settleAt := if x.phase = 2 then s.bell.number else x.settleAt
    slew := if x.phase = 2 then (x.use.realign || decide (x.cur = twinSource)) && decide (x.b ≠ 0) else x.slew
    psl := false, fcl := if x.st = 3 then x.fcl else x.fclCmd, fclCmd := false }

/-- A fast exit (R153): a path whose source is bad enters holdover. -/
def pathFastExit (p : Nat) (s : State) : State :=
  if (s.sylPath p).cur ≠ 31 ∧ s.sourceBad p (s.sylPath p).cur then
    let s := enterHoldover p s
    { s with syl := { s.syl with fastExits := s.syl.fastExits + 1 } }
  else s

/-- The handover of this bell: an order is read, a new source prepared, and a CUT that the last bell announced made. -/
def pathHandover (p : Nat) (s : State) : State :=
  let s := readOrder p s
  if (s.sylPath p).cutNext then cut p (prepare p s) else prepare p s

/-- The filter runs on the phase of the source in every state that tracks one. -/
def pathFilter (p : Nat) (s : State) : State :=
  let x := s.sylPath p
  if x.phase ≠ 2 ∧ (x.st = 1 ∨ x.st = 2 ∨ x.st = 4) then
    match s.sourcePhase p x.cur with
    | some ph => filterUpdate p ph s
    | none => s
  else s

/-- The DCO word and the control word of the bell. -/
def pathWords (p : Nat) (s : State) : State :=
  let x := s.sylPath p
  let e := pathEngine p
  let entered := decide (x.st = 3 ∧ x.te = s.bell.number)
  let s := if x.st = 1 ∨ x.st = 2 ∨ x.st = 4 ∨ entered then lessonWrite e (0x200 + p) (BitVec.ofInt 64 x.y) s else s
  lessonWrite e (0x208 + p) (s.controlWord p) s

/-- The path lesson of path `p` in one bell (R153 to R188, R368). -/
def pathLesson (p : Nat) (s : State) : State :=
  pathWords p (pathFilter p (pathHandover p (pathFastExit p (pathStart p (zeroDelayNote p (twinNote p (historyNote p s)))))))

/-! ### Learning (R181 to R185) -/

/-- The grade of the current source of a path; 0 with none and on the twin. -/
def State.curGrade (s : State) (x : SylPath) : Nat := if x.cur < 24 then (s.sylSlot x.cur).grade else 0

/-- Do the phase words that path `p` uses, the feedback word of zero delay included, carry COARSE or SUPPLY (R181)? -/
def State.wordsTaint (s : State) (x : SylPath) : Bool :=
  let taint (w : Nat) : Bool := w.testBit 58 || w.testBit 57
  taint (s.inw' x.cur) || (decide (x.loop.zd ≠ 31) && taint (s.inw' (0x60 + x.loop.zd)))

/-- What E11 notes of path `p` in a bell (R181, R182): the qualifying run counts the time in LOCKED. -/
def learnNote (p : Nat) (s : State) : State :=
  let x := s.sylPath p
  let g := s.curGrade x
  let sec : Nat := 500000000
  let lost := if x.st = 2 then none else some (x.lost.getD s.now)
  let qual := if x.st = 3 ∨ g < 6 ∨ lost.any (fun t => decide (10 * sec < s.now - t)) then 0
    else if x.st = 2 then x.qual + s.bell.period else x.qual
  let ok := decide (x.st = 2 ∧ x.phase = 0 ∧ 6 ≤ g ∧ 14400 * sec ≤ qual) && !s.wordsTaint x && !s.holdSeen p &&
    (s.inw' 0x76).testBit 31 && x.cutAt.all (fun t => decide (10 * sec ≤ s.now - t))
  s.putSylPath p { x with
    lost := lost, qual := qual, secOk := x.secOk && ok
    secY := x.secY + s.dcoIn p, secT := x.secT + s.xoTemp, secN := x.secN + 1 }

/-- The spread of the accepted temperatures, in 2^-7 °C. -/
def tempSpread (l : List (Nat × Int)) : Int :=
  match l with
  | [] => 0
  | h :: t => t.foldl (fun m e => max m e.2) h.2 - t.foldl (fun m e => min m e.2) h.2

/-! The fit of R183, over exact rationals. -/

/-- The sum of the products of two vectors. -/
def dot (u v : List Rat) : Rat := (List.zipWith (· * ·) u v).sum

/-- One update of exponentially weighted recursive least squares: the parameters `th` and the matrix `cov` take the
observation `y` at the regressors `ph`, with forgetting factor `lam`. -/
def rlsUpdate (lam : Rat) (ph : List Rat) (y : Rat) (th : List Rat) (cov : List (List Rat)) : List Rat × List (List Rat) :=
  let g := cov.map (fun row => dot row ph)
  let den := lam + dot ph g
  let k := g.map (fun a => a / den)
  let e := y - dot ph th
  (List.zipWith (fun t a => t + a * e) th k,
    List.zipWith (fun row a => List.zipWith (fun c b => (c - a * b) / lam) row g) cov k)

/-- The matrix with which a fit of four parameters starts: what the spec does not state (assumption 31). -/
def fitStart : List (List Rat) := (List.range 4).map (fun i => (List.range 4).map (fun j => if i = j then ((Config.fitStart i : Nat) : Rat) else 0))

/-- An accepted sample, the word `y` (2^-56, over `n` bells) and the temperature `t` (2^-7 °C), enters the fit at bell `b`
(R183). With the temperature fixed, only y0 and D are updated, C1 and C2 hold. -/
def Model.fit (m : Model) (b : Nat) (y : Int) (n : Nat) (t : Int) (ns : Nat) (fixed : Bool) : Model :=
  let first := decide (m.nsamp = 0)
  let t0 := if first then t else m.t0
  let epoch := if first then b else m.epoch
  let lam : Rat := 1 - 1 / ((3600 * max 1 m.tau : Nat) : Rat)
  let sec : Rat := ((((b : Int) - epoch) * ns : Int) : Rat) / (10 ^ 9 : Nat)
  let dT : Rat := ((t - t0 : Int) : Rat) / 128
  let obs : Rat := ((y * 65536 : Int) : Rat) / (max 1 n : Nat)
  let cov := if m.cov.isEmpty then fitStart else m.cov
  let th := [m.y0, m.d, m.c1, m.c2].map (fun (v : Int) => (v : Rat))
  let r := if fixed then
      let low := dot [dT, dT * dT] (th.drop 2)
      let r := rlsUpdate lam [1, sec] (obs - low) (th.take 2) ((cov.take 2).map (fun row => row.take 2))
      (r.1 ++ th.drop 2, List.zipWith (fun row old => row ++ old.drop 2) r.2 (cov.take 2) ++ cov.drop 2)
    else rlsUpdate lam [1, sec, dT, dT * dT] obs th cov
  let at' (i : Nat) : Int := let q := r.1.getD i 0; roundNearest q.num q.den
  { m with
    y0 := at' 0, d := at' 1, c1 := at' 2, c2 := at' 3, cov := r.2
    t0 := t0, nsamp := min (m.nsamp + 1) (2 ^ 32 - 1), last := b, epoch := epoch }

/-- LEARNING_SAMPLE (R181, R183): a second of bells has passed; its sample, if every bell of it was good, updates the fit. -/
def execLearningSample (p : Fin 8) (s : State) : Out :=
  let x := s.sylPath p
  let m := x.model
  let fresh : SylPath := { x with secOk := true, secY := 0, secT := 0, secN := 0 }
  .next (if !s.sylRuns 11 || decide ((x.secN + 1) * s.bellNs < 10 ^ 9) then s
  else if !m.learn || !x.secOk || decide (x.secN = 0) then s.putSylPath p fresh
  else
    let t := roundDiv x.secT x.secN
    let b := s.bell.number
    let age := m.tau * 3600 * 10 ^ 9 / max 1 s.bellNs
    let temps := (m.temps ++ [(b, t)]).filter (fun e => decide (b ≤ e.1 + age))
    s.putSylPath p { fresh with
      model := { m.fit b x.secY x.secN t s.bellNs (decide (tempSpread temps < 64)) with temps := temps } })

/-- The matrix of the fit after the epoch has moved by `sec` seconds. -/
def covShift (sec : Rat) (cov : List (List Rat)) : List (List Rat) :=
  let add (u v : List Rat) : List Rat := List.zipWith (fun a b => a + sec * b) u v
  let rows := match cov with | r0 :: r1 :: rest => add r0 r1 :: r1 :: rest | c => c
  rows.map (fun row => match row with | a :: b :: t => (a + sec * b) :: b :: t | r => r)

/-- A model re-expressed at bell `b` (R180, R185). -/
def State.modelAt (s : State) (m : Model) (b : Nat) : Model :=
  let ns : Int := ((b : Int) - m.epoch) * s.bellNs
  { m with y0 := m.y0 + roundDiv (m.d * ns) (10 ^ 9), epoch := b, cov := covShift ((ns : Rat) / (10 ^ 9 : Nat)) m.cov }

/-- The payload of a HOLDOVER record (R450). -/
def Model.payload (m : Model) : List Byte :=
  leBytes 16 (ofSigned 128 m.y0) ++ leBytes 16 (ofSigned 128 m.d) ++ leBytes 16 (ofSigned 128 m.c1) ++
  leBytes 16 (ofSigned 128 m.c2) ++ leBytes 2 (ofSigned 16 m.t0) ++ leBytes 1 m.tau ++ leBytes 1 m.learn.toNat ++
  leBytes 4 m.nsamp ++ leBytes 8 m.last ++ leBytes 8 m.epoch

/-- The byte address of journal request slot `j` (R453). -/
def jnlSlotAt (j : Nat) : Nat := 0x1FC000 + 0x400 * j

/-- E11 puts a request with its payload into request slot 0 (R453): SEQ is one above that of the last response. -/
def jnlRequest (op type key : Nat) (b : List Byte) (s : State) : State :=
  let a := jnlSlotAt 0
  let seq := (leRead (s.commonsRead (a + 0x3F8) 8) 6 1 + 1) % 256
  let s := ownerWrite true (a + 8) b s
  ownerWrite true a (leBytes 8 (op * 2 ^ 56 + seq * 2 ^ 48 + type * 2 ^ 40 + key * 2 ^ 32 + b.length * 2 ^ 16)) s

/-- Is E11's last request in request slot 0 answered (R453)? -/
def State.jnlAnswered (s : State) : Bool :=
  decide ((tabGet 0 (jnlSlotAt 0 / 8) s.commons).toNat / 2 ^ 48 % 256 =
    (tabGet 0 ((jnlSlotAt 0 + 0x3F8) / 8) s.commons).toNat / 2 ^ 48 % 256)

/-- E11 puts the write of the model of path `p`, re-expressed at this bell, into its request slot (R185). -/
def modelRequest (p : Nat) (s : State) : State :=
  let x := s.sylPath p
  let m := s.modelAt x.model s.bell.number
  jnlRequest 1 0x10 p m.payload (s.putSylPath p { x with model := m })

/-- The first model that waits to be written goes out once the request before it is answered (R185, R453). -/
def modelLesson (s : State) : State :=
  match s.syl.jnlDue with
  | [] => s
  | p :: rest => if s.jnlAnswered then modelRequest p { s with syl := { s.syl with jnlDue := rest } } else s

/-- E11 writes the model of path `p` to the journal, unless a supply warning stands as EV3 shows (R185). -/
def modelWrite (p : Nat) (s : State) : State :=
  if (s.inw' 0xE0).testBit 3 then s
  else modelLesson { s with syl := { s.syl with jnlDue := s.syl.jnlDue.erase p ++ [p] } }

/-- E11 orders a compaction that is due through request slot 0, once its last request is answered (R457). -/
def compactLesson (s : State) : State :=
  let st := (tabGet 0 (0x1FD000 / 8) s.commons).toNat
  if st.testBit 63 && !st.testBit 61 && s.jnlAnswered then jnlRequest 3 0 0 [] s else s

/-- MODEL_JOURNAL_WRITE (R185). -/
def execModelJournalWrite (p : Fin 8) (s : State) : Out := .next (if s.sylRuns 11 then modelWrite p s else s)

/-! ### Command ports (R174, R175, R185, R217) -/

/-- The loop settings in the VALUE layouts of their commands, and B (R174). -/
def State.loopSetting (s : State) (op p : Nat) : Nat :=
  let c := (s.sylPath p).loop
  match op with
  | 0x10 => c.fn
  | 0x11 => c.damp
  | 0x12 => c.psl
  | 0x13 => c.fclamp
  | 0x14 => c.lockWin + c.lockTime * 65536
  | 0x15 => c.window
  | 0x16 => c.zd
  | 0x1E => ofSigned 32 (satInt 32 (s.sylPath p).b)
  | _ => 0

/-- The check of a path command on the port of paths 2g and 2g + 1 (R174, R217). -/
def loopCheck (g : Nat) (c : Command) : CmdResult :=
  let v := c.value
  if ¬(0x10 ≤ c.op ∧ c.op ≤ 0x16) ∧ c.op ≠ 0x1F then .badOp
  else if c.path / 2 ≠ g then .badPath
  else
    let ok :=
      if c.op = 0x10 then decide (1 ≤ v ∧ v ≤ 40000000)
      else if c.op = 0x11 then decide (64 ≤ v ∧ v ≤ 1024)
      else if c.op = 0x12 then decide (1 ≤ v ∧ v ≤ 5000000)
      else if c.op = 0x13 then decide (1 ≤ v ∧ v ≤ 500000)
      else if c.op = 0x14 then decide (1 ≤ v % 65536 ∧ 1 ≤ v / 65536)
      else if c.op = 0x15 then decide (1 ≤ v ∧ v ≤ 1000)
      else if c.op = 0x16 then decide (v = 31 ∨ (4 * c.path ≤ v ∧ v ≤ 4 * c.path + 3 ∧ v ≤ 15))
      else decide ((0x10 ≤ v ∧ v ≤ 0x16) ∨ v = 0x1E)
    if c.slot ≠ 0 ∨ !ok then .badValue else .ok

/-- A valid path command (R174, R175, R217): a smaller FCLAMP clamps the word and the integrator. -/
def loopApply (c : Command) (s : State) : State :=
  let x := s.sylPath c.path
  let put (l : LoopCfg) : State := s.putSylPath c.path { x with loop := l }
  let v := c.value
  match c.op with
  | 0x10 => put { x.loop with fn := v }
  | 0x11 => put { x.loop with damp := v }
  | 0x12 => put { x.loop with psl := v }
  | 0x13 =>
    let l := { x.loop with fclamp := v }
    let y := if x.st = 3 then x.y else l.clampY x.y
    s.putSylPath c.path { x with
      loop := l, y := y, fclCmd := decide (y ≠ x.y)
      integ := if y = x.y then x.integ else clampInt (-l.fclampLsb * 2 ^ 48) (l.fclampLsb * 2 ^ 48) x.integ }
  | 0x14 => put { x.loop with lockWin := v % 65536, lockTime := v / 65536 }
  | 0x15 => put { x.loop with window := v }
  | 0x16 => s.putSylPath c.path { x with loop := { x.loop with zd := v }, z := 0, zWords := [], zIn := none }
  | _ => s

/-- The command port of paths 2g and 2g + 1. -/
def loopHandler (g : Nat) : Handler := fun c s =>
  let r := loopCheck g c
  let t := if r = .ok then loopApply c s else s
  (r, if r = .badOp ∨ r = .badPath then 0 else t.loopSetting (if c.op = 0x1F then c.value % 256 else c.op) c.path, t)

/-- SET_BW (R174). -/
def execSetBw (g : Fin 4) (c : CmdWord) (s : State) : Out := .next (commandRow (6 + g) 0x10 (loopHandler g) c s)
/-- SET_DAMP (R174). -/
def execSetDamp (g : Fin 4) (c : CmdWord) (s : State) : Out := .next (commandRow (6 + g) 0x11 (loopHandler g) c s)
/-- SET_PSL (R174). -/
def execSetPsl (g : Fin 4) (c : CmdWord) (s : State) : Out := .next (commandRow (6 + g) 0x12 (loopHandler g) c s)
/-- SET_FCLAMP (R174). -/
def execSetFclamp (g : Fin 4) (c : CmdWord) (s : State) : Out := .next (commandRow (6 + g) 0x13 (loopHandler g) c s)
/-- SET_LOCK (R174). -/
def execSetLock (g : Fin 4) (c : CmdWord) (s : State) : Out := .next (commandRow (6 + g) 0x14 (loopHandler g) c s)
/-- SET_ROLLBACK (R174). -/
def execSetRollback (g : Fin 4) (c : CmdWord) (s : State) : Out := .next (commandRow (6 + g) 0x15 (loopHandler g) c s)
/-- SET_ZD (R217). -/
def execSetZd (g : Fin 4) (c : CmdWord) (s : State) : Out := .next (commandRow (6 + g) 0x16 (loopHandler g) c s)
/-- PATH_GET (R174). -/
def execPathGet (g : Fin 4) (c : CmdWord) (s : State) : Out := .next (commandRow (6 + g) 0x1F (loopHandler g) c s)

/-- A model parameter as GET_MODEL reports it (R185). -/
def Model.param (m : Model) (k : Nat) : Nat :=
  match k with
  | 0 => ofSigned 64 (m.y0 / 65536)
  | 1 => ofSigned 64 (m.d / 65536)
  | 2 => ofSigned 64 (m.c1 / 65536)
  | 3 => ofSigned 64 (m.c2 / 65536)
  | 4 => ofSigned 64 m.t0
  | 5 => m.nsamp
  | _ => m.last % 2 ^ 64

/-- The check of a command of E11 (R185). -/
def learnCheck (c : Command) : CmdResult :=
  let v := c.value
  if c.op ≠ 0x20 ∧ c.op ≠ 0x21 ∧ c.op ≠ 0x22 then .badOp
  else if 7 < c.path then .badPath
  else if 23 < c.slot then .badSlot
  else if c.op = 0x20 then
    (if c.slot ≠ 0 ∨ v / 256 % 256 = 0 ∨ 65535 < v ∨ v / 2 % 128 ≠ 0 then .badValue else .ok)
  else if v ≠ 0 ∨ (c.op = 0x21 ∧ c.slot ≠ 0) ∨ (c.op = 0x22 ∧ 6 < c.slot) then .badValue else .ok

/-- The command port of E11 (R185): GET_MODEL also reports the whole parameter in host-out word 1, and CLEAR_MODEL
writes the cleared model to the journal. -/
def learnHandler : Handler := fun c s =>
  let r := learnCheck c
  let x := s.sylPath c.path
  let t := if r ≠ .ok then s
    else if c.op = 0x20 then
      s.putSylPath c.path { x with model := { x.model with learn := c.value.testBit 0, tau := c.value / 256 } }
    else if c.op = 0x21 then
      modelWrite c.path (s.putSylPath c.path { x with model := { learn := x.model.learn, tau := x.model.tau } })
    else lessonWrite 11 0x241 (BitVec.ofNat 64 (x.model.param c.slot)) s
  let m := (t.sylPath c.path).model
  let v := if c.op = 0x20 then m.learn.toNat + m.tau * 256
    else if c.op = 0x22 ∧ r = .ok then m.param c.slot else 0
  (r, if r = .badOp ∨ r = .badPath then 0 else v, t)

/-- SET_LEARN (R185). -/
def execSetLearn (c : CmdWord) (s : State) : Out := .next (commandRow 11 0x20 learnHandler c s)
/-- CLEAR_MODEL (R185). -/
def execClearModel (c : CmdWord) (s : State) : Out := .next (commandRow 11 0x21 learnHandler c s)
/-- GET_MODEL (R185). -/
def execGetModel (c : CmdWord) (s : State) : Out := .next (commandRow 11 0x22 learnHandler c s)

end Sys2Proof.Machine
end

