-- ==== Sys2Proof/Machine/Servo.lean ====
section
/-! DEFINITION. Time and network lessons of the Standard Syllabus: time-of-day labels, the PTP servo, ESMC, the
timescales that follow the twin, and their command ports (R242 to R245, R345 to R351, R369). -/
namespace Sys2Proof.Machine

/-! ### Timescale control words (R233) -/

/-- E12 writes the control word of timescale `n`: KIND 0 PHASE, 1 STEP, 2 STEP_S, with the next SEQ. -/
def tsWrite (n : Nat) (valid : Bool) (kind : Nat) (v : Int) (s : State) : State :=
  let seq := (tabGet 0 n s.syl.tsSeq + 1) % 128
  let s := { s with syl := { s.syl with tsSeq := tabSet 0 n seq s.syl.tsSeq } }
  lessonWrite 12 (0x260 + n) (BitVec.ofNat 64 (flagIf valid (2 ^ 63) + seq * 2 ^ 56 + kind * 2 ^ 54 + ofSigned 48 (satInt 48 v))) s

/-- Does timescale `n` follow the twin (R369)? -/
def State.tsFollows (s : State) (n : Nat) : Bool :=
  decide (s.inw' 0xD8 / 2 ^ 61 = roleSecondary) && (s.inw' 0xDB / 2 ^ 44).testBit n

/-! ### Time-of-day labels (R242 to R245) -/

def State.tod (s : State) (n : Nat) : TodBind := tabGet {} n s.syl.tods
def State.todUart (s : State) (u : Nat) : TodUart := tabGet {} u s.syl.uarts
def State.putTodUart (s : State) (u : Nat) (x : TodUart) : State := { s with syl := { s.syl with uarts := tabSet {} u x s.syl.uarts } }

/-- The timescale with an enabled binding on UART `u`. -/
def State.todOn (s : State) (u : Nat) : Option Nat := (List.range 4).find? (fun n => (s.tod n).enable && decide ((s.tod n).uart = u))

/-- Host-out word 1 + UART of E12 (R245). -/
def todReport (u : Nat) (s : State) : State :=
  let x := s.todUart u
  lessonWrite 12 (0x241 + u) (BitVec.ofNat 64 (x.steps % 256 * 2 ^ 56 + x.bad % 256 * 2 ^ 48 + x.label % 2 ^ 48)) s

/-- A sentence or frame is rejected (R245). -/
def todReject (u : Nat) (s : State) : State := todReport u (s.putTodUart u { s.todUart u with bad := (s.todUart u).bad + 1 })

/-- A received UTC time labels an edge at which the timescale's value was `at'` (R245): two labels of consecutive seconds
with the same d ≠ 0 step the timescale. -/
def todLabel (u n utc at' : Nat) (s : State) : State :=
  let x := s.todUart u
  let l := ((utc : Int) + (s.tod n).offset).toNat
  let v := roundHalfUp at' (10 ^ 9 * 2 ^ 64)
  let d := (l : Int) - v
  if x.d = some d ∧ l = x.label + 1 ∧ d ≠ 0 then
    todReport u (tsWrite n true 2 d (s.putTodUart u { x with label := l, d := none, steps := x.steps + 1 }))
  else todReport u (s.putTodUart u { x with label := l, d := some d })

/-- The value of timescale `n` at the latest accepted edge of the PPS slot that the first byte at TB time `t` follows by
0 to 1.0 s (R245). -/
def State.todEdge (s : State) (n : Nat) (t : Int) : Option Nat :=
  (((s.slot (s.tod n).slot).edges.find? (fun e => decide (e.1 ≤ t))).filter (fun e => decide (t ≤ e.1 + 10 ^ 9 * 1024))).map
    (fun e => e.2.getD n 0)

/-- What a message gives: nothing E12 takes, a rejection, or a time. -/
inductive TodMsg | skip | reject | time (utc : Nat)
deriving DecidableEq, Repr

/-- A message on UART `u` whose first byte came at TB time `t`. -/
def todMessage (u : Nat) (m : TodMsg) (t : Int) (n : Nat) (s : State) : State :=
  match m with
  | .skip => s
  | .reject => todReject u s
  | .time utc =>
    match s.todEdge n t with
    | some e => todLabel u n utc e s
    | none => todReject u s

/-- The number that ASCII digits spell, `none` where a character is no digit or there is none. -/
def digits (b : List Byte) : Option Nat :=
  if b.isEmpty ∨ b.any (fun c => decide (c.toNat < 48 ∨ 57 < c.toNat)) then none
  else some (b.foldl (fun v c => v * 10 + (c.toNat - 48)) 0)

/-- Days from 1970-01-01 to a date of the Gregorian calendar. -/
def dayNumber (y m d : Nat) : Nat :=
  let y' := if m ≤ 2 then y - 1 else y
  let mp := if m ≤ 2 then m + 9 else m - 3
  365 * y' + y' / 4 - y' / 100 + y' / 400 + (153 * mp + 2) / 5 + (d - 1) - 719468

/-- The days of a month. -/
def monthDays (y m : Nat) : Nat :=
  if m = 2 then (if y % 4 = 0 ∧ (y % 100 ≠ 0 ∨ y % 400 = 0) then 29 else 28)
  else if m ∈ [4, 6, 9, 11] then 30 else 31

/-- The second of a date and time, `none` where a field is out of range. -/
def utcSecond (y m d hh mm ss : Nat) : Option Nat :=
  if y < 1970 ∨ m = 0 ∨ 12 < m ∨ d = 0 ∨ monthDays y m < d ∨ 23 < hh ∨ 59 < mm ∨ 59 < ss then none
  else some (dayNumber y m d * 86400 + hh * 3600 + mm * 60 + ss)

/-- hhmmss with a zero fraction (R243). -/
def nmeaTime (b : List Byte) : Option (Nat × Nat × Nat) :=
  let frac := b.drop 6
  let zero := frac.isEmpty || (decide (frac.head? = some 0x2E) && (frac.drop 1).all (fun c => decide (c = 0x30)))
  match digits (b.take 2), digits ((b.drop 2).take 2), digits ((b.drop 4).take 2) with
  | some h, some m, some s => if zero ∧ 6 ≤ b.length then some (h, m, s) else none
  | _, _, _ => none

/-- Split at commas. -/
def fields (b : List Byte) : List (List Byte) :=
  b.foldr (fun c acc => if c = 0x2C then [] :: acc else match acc with | h :: t => (c :: h) :: t | [] => [[c]]) [[]]

/-- A hexadecimal digit. -/
def hexDigit (c : Byte) : Option Nat :=
  let v := c.toNat
  if 48 ≤ v ∧ v ≤ 57 then some (v - 48) else if 65 ≤ v ∧ v ≤ 70 then some (v - 55) else if 97 ≤ v ∧ v ≤ 102 then some (v - 87) else none

/-- The fields between "$" and "*hh" of a sentence that counts (R243). -/
def nmeaFields (b : List Byte) : Option (List (List Byte)) :=
  let n := b.length
  let body := (b.drop 1).take (n - 6)
  let sum := body.foldl (fun v c => v ^^^ c) (0 : Byte)
  if b.head? = some 0x24 ∧ 8 ≤ n ∧ n ≤ 82 ∧ b.drop (n - 2) = [0x0D, 0x0A] ∧ b.getD (n - 5) 0 = 0x2A ∧
      !body.contains 0x2A ∧ hexDigit (b.getD (n - 4) 0) = some (sum.toNat / 16) ∧
      hexDigit (b.getD (n - 3) 0) = some (sum.toNat % 16) then some (fields body) else none

/-- A date and time, or a rejection. -/
def todTime (t : Option (Nat × Nat × Nat)) (y m d : Option Nat) : TodMsg :=
  match t, y, m, d with
  | some (hh, mm, ss), some y, some m, some d =>
    (match utcSecond y m d hh mm ss with | some v => .time v | none => .reject)
  | _, _, _, _ => .reject

/-- A sentence (R243): ZDA and RMC are taken, others ignored. -/
def nmeaMessage (b : List Byte) : TodMsg :=
  match nmeaFields b with
  | none => .skip
  | some f =>
    let h := f.getD 0 []
    let g (k : Nat) : List Byte := f.getD k []
    if h.length = 5 ∧ h.drop 2 = [0x5A, 0x44, 0x41] then
      todTime (nmeaTime (g 1)) (digits (g 4)) (digits (g 3)) (digits (g 2))
    else if h.length = 5 ∧ h.drop 2 = [0x52, 0x4D, 0x43] then
      (if g 2 = [0x41] ∧ (g 9).length = 6 then
        todTime (nmeaTime (g 1)) ((digits ((g 9).drop 4)).map (· + 2000)) (digits (((g 9).drop 2).take 2)) (digits ((g 9).take 2))
      else .reject)
    else .skip

/-- CRC-16 with polynomial 0x1021 and initial value 0xFFFF (R244). -/
def crc16 (b : List Byte) : Nat :=
  b.foldl (fun c x => (List.range 8).foldl (fun c _ => if 32768 ≤ c then (c * 2) % 65536 ^^^ 0x1021 else c * 2) (c ^^^ (x.toNat * 256))) 0xFFFF

/-- A binary frame (R244): another sync or type is skipped. -/
def binaryMessage (b : List Byte) : TodMsg :=
  if beRead b 0 2 ≠ 0xC724 ∨ byteAt b 2 ≠ 1 then .skip
  else if b.length ≠ 18 ∨ byteAt b 3 ≠ 0x0C ∨ beRead b 10 4 ≠ 0 ∨ byteAt b 14 % 2 = 0 ∨ byteAt b 15 ≠ 0 ∨
      crc16 ((b.drop 2).take 14) ≠ beRead b 16 2 then .reject
  else .time (beRead b 4 6)

/-- NMEA_SENTENCE (R243, R245). -/
def execNmeaSentence (u : Fin 2) (text : List (BitVec 8)) (t : Int) (s : State) : Out :=
  .next (match s.todOn u with
    | some n => if s.sylRuns 12 ∧ !(s.tod n).binary then todMessage u (nmeaMessage text) t n s else s
    | none => s)

/-- BINARY_TOD_FRAME (R244, R245). -/
def execBinaryTodFrame (u : Fin 2) (bytes : List (BitVec 8)) (t : Int) (s : State) : Out :=
  .next (match s.todOn u with
    | some n => if s.sylRuns 12 ∧ (s.tod n).binary then todMessage u (binaryMessage bytes) t n s else s
    | none => s)

/-! ### The PTP servo (R348, R349) -/

/-- 2 × meanPathDelay, and offsetFromMaster, of an exchange in 2^-16 ns (R348). -/
def exchange (x : PtpExchange) (asym : Int) : Int × Int :=
  let ms := (x.t2 - x.t1) - x.cSync - x.cFollow
  let sm := (x.t4 - x.t3) - x.cResp
  (ms + sm, roundDiv (ms - sm) 2 - asym)

/-- The exchange with the smallest meanPathDelay (R348). -/
def shortest (l : List (Int × Int)) : Int × Int :=
  match l with
  | [] => (0, 0)
  | h :: t => t.foldl (fun m e => if e.1 < m.1 then e else m) h

/-- SERVO_SAMPLE (R347 to R349): a PHASE sample of the port's timescale; a large offset makes a step due. -/
def execServoSample (n : Fin 4) (x : PtpExchange) (s : State) : Out :=
  let p := s.sylPort n
  .next (if !s.sylRuns 12 || !p.enable || p.masterOnly || s.tsFollows p.ts then s
  else
    let l := (exchange x p.asym :: p.exch).take 16
    let off := (shortest l).2
    let big := if 100000 * 65536 < off.natAbs then p.big + 1 else 0
    let due := (p.fresh && decide (1000 * 65536 ≤ off.natAbs)) || decide (3 ≤ big)
    let step := if p.step.isSome then p.step else if due then some off else none
    let s := s.putSylPort n { p with
      exch := l, big := if step.isSome then 0 else big, fresh := false, gmClass := x.gmClass, step := step }
    if step.isSome then s else tsWrite p.ts true 0 (-off) s)

/-- SERVO_STEP (R349): VALID = 0, then STEP_S for the whole seconds, then STEP for the rest, then samples again. -/
def execServoStep (n : Fin 4) (stage : Fin 4) (s : State) : Out :=
  let p := s.sylPort n
  .next (match p.step with
    | none => s
    | some off =>
      if !s.sylRuns 12 || s.tsFollows p.ts then s
      else
        let sec := (-off).tdiv (10 ^ 9 * 65536)
        let rest := (-off).tmod (10 ^ 9 * 65536)
        if stage.val = 0 then tsWrite p.ts false 0 0 s
        else if stage.val = 1 then (if sec = 0 then s else tsWrite p.ts false 2 sec s)
        else if stage.val = 2 then (if rest = 0 then s else tsWrite p.ts false 1 rest s)
        else s.putSylPort n { p with step := none, exch := [] })

/-- The clockClass that a grandmaster port of PROFILE `profile` advertises, by the path that steers its timescale
(R351). -/
def State.clockClass (s : State) (n : Nat) : Nat :=
  let p := s.sylPort n
  let x := s.sylPath (s.rd (Reg.TS_CFG_PATH p.ts))
  if x.st = 2 ∧ s.curGrade x = 7 ∧ x.cur ≠ 20 ∧ x.cur ≠ 21 then 6
  else if x.st = 3 then (if x.basis = 2 then 7 else if p.profile = 0 then 52 else 140)
  else 248

/-- E12's part of a bell: PASSIVE ports (R351), and the timescales that follow the twin (R369). -/
def timeLesson (s : State) : State :=
  let s := forRange 4 (fun n s => s.putSylPort n { s.sylPort n with passive := s.gated n }) s
  let pps := (s.slot 23).lastT
  let marker := decide (pps ≠ s.syl.ppsAt)
  let s := { s with syl := { s.syl with ppsAt := pps } }
  forRange 4 (fun n s =>
    let sub := tabGet 0 (twinWordAt (8 + 2 * n)) s.commons
    let sec := tabGet 0 (twinWordAt (9 + 2 * n)) s.commons
    if !s.tsFollows n || !sub.msb || !sec.msb then { s with syl := { s.syl with tsSecs := tabErase n s.syl.tsSecs } }
    else
      let v := toSigned 48 sec.toNat
      let k := if v = 0 then 0 else tabGet 0 n s.syl.tsSecs + (if marker then 1 else 0)
      let s := { s with syl := { s.syl with tsSecs := tabSet 0 n k s.syl.tsSecs } }
      if 2 ≤ k then tsWrite n false 2 v { s with syl := { s.syl with tsSecs := tabErase n s.syl.tsSecs } }
      else if s.now < tabGet 0 n s.syl.tsStep + 500000 then s
      else
        let w := toSigned 48 sub.toNat
        let s := { s with syl := { s.syl with tsStep := tabSet 0 n s.now s.syl.tsStep } }
        if w = 0 then tsWrite n false 0 0 s else tsWrite n false 1 (clampInt (-65536) 65536 w) s) s

/-! ### ESMC (R346) -/

/-- The SSM code and the enhanced code of an ESMC PDU: a slow-protocol frame of subtype 0x0A with ITU-T's OUI and
its QL TLV, the enhanced TLV where present. -/
def esmcQl (b : List Byte) : Option (Nat × Nat) :=
  if etherType b = 0x8809 ∧ byteAt b 14 = 0x0A ∧ beRead b 15 3 = 0x0019A7 ∧ beRead b 18 2 = 1 ∧ byteAt b 20 / 16 = 1 ∧
      byteAt b 24 = 1 ∧ beRead b 25 2 = 4 ∧ 28 ≤ b.length then
    some (byteAt b 27 % 16, if byteAt b 28 = 2 ∧ beRead b 29 2 = 0x14 ∧ 48 ≤ b.length then byteAt b 31 else 0xFF)
  else none

/-- ESMC_PDU_RECEIVED (R346). -/
def execEsmcPduReceived (n : Fin 4) (frame : List (BitVec 8)) (s : State) : Out :=
  .next (if !s.sylRuns 13 || !(s.sylPort n).esmcRx then s
  else match esmcQl frame with
    | some q => (s.putSylPort n { s.sylPort n with ql := some q }).arm (.esmcIn n)
    | none => s)

/-- ESMC_TIMEOUT (R346): 5 s without a valid information PDU give QL-FAILED. -/
def execEsmcTimeout (n : Fin 4) (s : State) : Out :=
  .next (if s.sylRuns 13 ∧ s.ran (.esmcIn n) 5000000000 then s.putSylPort n { s.sylPort n with ql := none } else s)

/-- The SSM code to send on port `n` (R346): DNU on the port of the path's current slot, the QL of that slot while
LOCKED, else the holdover QL. The QL of a slot without ESMC is not stated (assumption 3). -/
def State.qlToSend (s : State) (n : Nat) : Nat :=
  let x := s.sylPath (s.rd (Reg.ETH_SYNCE_TX_PATH n))
  let p := s.sylPort n
  if x.cur = 16 + n then 0xF
  else if x.st = 2 then
    if 16 ≤ x.cur ∧ x.cur < 20 then (match (s.sylPort (x.cur - 16)).ql with | some q => q.1 | none => 0xF)
    else Config.free s.free % 16
  else if x.st = 0 ∨ x.st = 3 then p.hoQl
  else p.sentQl.getD p.hoQl

/-- An ESMC PDU of port `n` (R346): an information or an event PDU with SSM code `q`. -/
def State.esmcPdu (s : State) (n q : Nat) (event : Bool) : List Byte :=
  let b := beBytes 6 0x0180C2000002 ++
    beBytes 6 (s.rd (Reg.ETH_MAC_ADDR_HI_ADDR n) * 2 ^ 32 + s.rd (Reg.ETH_MAC_ADDR_LO_ADDR n)) ++
    beBytes 2 0x8809 ++ beBytes 1 0x0A ++ beBytes 3 0x0019A7 ++ beBytes 2 1 ++ beBytes 1 (if event then 0x18 else 0x10) ++
    beBytes 3 0 ++ beBytes 1 1 ++ beBytes 2 4 ++ beBytes 1 q
  b ++ List.replicate (60 - b.length) 0

/-- E13 sends a PDU on port `n`, if it is a SyncE transmit port. -/
def esmcSend (n : Nat) (event : Bool) (s : State) : State :=
  let p := s.sylPort n
  if !s.bit (Reg.ETH_SYNCE_TX_LOCK n) || !p.esmcTx then s
  else
    let q := s.qlToSend n
    let s := { s with free := s.free + 1 }
    s.putSylPort n { p with sentQl := some q, pdu := s.esmcPdu n q event }

/-- ESMC_INFO_SEND (R346): an information PDU every second. -/
def execEsmcInfoSend (n : Fin 4) (s : State) : Out :=
  .next (if s.sylRuns 13 ∧ s.ran (.esmcOut n) 1000000000 then (esmcSend n false s).arm (.esmcOut n) else s)

/-- E13's part of a bell: an event PDU where the QL of port `n` has changed since the last PDU (R346). -/
def messageLesson (n : Nat) (s : State) : State :=
  let x := s.sylPath (s.rd (Reg.ETH_SYNCE_TX_PATH n))
  let known := decide (x.st ≠ 2 ∨ x.cur = 16 + n ∨ (16 ≤ x.cur ∧ x.cur < 20))
  match (s.sylPort n).sentQl with
  | some q => if known && decide (s.qlToSend n ≠ q) then esmcSend n true s else s
  | none => s

/-! ### Command ports (R242, R350) -/

/-- Is a slot one that a binding may name (R242)? -/
def todSlot (n : Nat) : Bool := decide (n < 20 ∨ n = 22 ∨ n = 23)

/-- The check of a command of E12 (R242, R350). -/
def State.timeCheck (s : State) (c : Command) : CmdResult :=
  let v := c.value
  if ¬(0x30 ≤ c.op ∧ c.op ≤ 0x34) then .badOp
  else if (c.op ≠ 0x34 ∧ 3 < c.path) ∨ 7 < c.path then .badPath
  else if 23 < c.slot ∨ (c.op = 0x30 ∧ !todSlot c.slot) ∨ (c.op = 0x32 ∧ 3 < c.slot) then .badSlot
  else
    let dom := v / 256 % 256
    let tr := v / 16 % 4
    let prof := v % 4
    let p2p := v.testBit 6
    let ok :=
      if c.op = 0x30 then
        decide (v / 8 % 8192 = 0) && !(v.testBit 2 && (List.range 4).any (fun n =>
          decide (n ≠ c.path) && (s.tod n).enable && decide ((s.tod n).uart = v % 2)))
      else if c.op = 0x31 then
        decide (c.slot = 0 ∧ prof ≠ 3 ∧ tr ≠ 3 ∧ v < 2 ^ 18 ∧ v / 2 ^ 16 % 4 = s.rd (Reg.PTP_CFG_TS c.path)) &&
        !(decide (prof = 0) && decide (127 < dom)) &&
        !(decide (prof = 1) && decide (tr ≠ 0 ∨ dom < 24 ∨ 43 < dom)) &&
        !(decide (prof = 2) && decide (tr = 0 ∨ dom < 44 ∨ 63 < dom)) &&
        !(p2p && (decide (prof ≠ 0) || v.testBit 3))
      else if c.op = 0x32 then true
      else if c.op = 0x33 then decide (c.slot = 0)
      else decide (c.path = 0 ∧ c.slot = 0 ∧ v < 2 ^ 24)
    if ok then .ok else .badValue

/-- A valid command of E12 (R242, R350): an enabled port starts UNCALIBRATED. -/
def timeApply (c : Command) (s : State) : State :=
  let v := c.value
  let p := s.sylPort c.path
  match c.op with
  | 0x30 =>
    let b : TodBind :=
      { uart := v % 2, binary := v.testBit 1, enable := v.testBit 2, slot := c.slot, offset := toSigned 16 (v / 65536) }
    { s with syl := { s.syl with tods := tabSet {} c.path b s.syl.tods } }
  | 0x31 => s.putSylPort c.path { p with
      profile := v % 4, enable := v.testBit 2, oneStep := v.testBit 3, transport := v / 16 % 4, p2p := v.testBit 6
      masterOnly := v.testBit 7, domain := v / 256 % 256, ts := v / 65536 % 4
      fresh := v.testBit 2, exch := [], big := 0, step := none }
  | 0x32 =>
    let six : Nat := (s.inWord 12 0x101).toNat * 2 ^ 64 + (s.inWord 12 0x102).toNat
    s.putSylPort c.path { p with ucast := tabSet 0 c.slot (if p.transport = 2 then six else v) p.ucast }
  | 0x33 => s.putSylPort c.path { p with asym := toSigned 32 v }
  | 0x34 => { s with syl := { s.syl with prio1 := v % 256, prio2 := v / 256 % 256, localPrio := v / 65536 % 256 } }
  | _ => s

/-- The settings of E12 in the VALUE layouts of their commands (R242, R350). -/
def State.timeSetting (s : State) (c : Command) : Nat :=
  let p := s.sylPort c.path
  let b := s.tod c.path
  match c.op with
  | 0x30 => b.uart + flagIf b.binary 2 + flagIf b.enable 4 + ofSigned 16 b.offset * 65536
  | 0x31 => p.profile + flagIf p.enable 4 + flagIf p.oneStep 8 + p.transport * 16 + flagIf p.p2p 64
      + flagIf p.masterOnly 128 + p.domain * 256 + p.ts * 65536
  | 0x32 => if p.transport = 2 then 0 else tabGet 0 c.slot p.ucast
  | 0x33 => ofSigned 32 p.asym
  | 0x34 => s.syl.prio1 + s.syl.prio2 * 256 + s.syl.localPrio * 65536
  | _ => 0

/-- The command port of E12. -/
def timeHandler : Handler := fun c s =>
  let r := s.timeCheck c
  let t := if r = .ok then timeApply c s else s
  (r, if r = .badPath then 0 else t.timeSetting c, t)

/-- The command port of E13: SET_ESMC (R350). -/
def esmcHandler : Handler := fun c s =>
  let v := c.value
  let p := s.sylPort c.path
  let r : CmdResult := if c.op ≠ 0x40 then .badOp else if 3 < c.path then .badPath else if 23 < c.slot then .badSlot
    else if c.slot ≠ 0 ∨ v.testBit 3 ∨ 255 < v then .badValue else .ok
  let t := if r = .ok then s.putSylPort c.path { p with
      esmcRx := v.testBit 0, esmcTx := v.testBit 1, opt2 := v.testBit 2, hoQl := v / 16 } else s
  let q := t.sylPort c.path
  (r, if r = .badOp ∨ r = .badPath then 0
    else q.esmcRx.toNat + flagIf q.esmcTx 2 + flagIf q.opt2 4 + q.hoQl * 16, t)

/-- SET_TOD (R242). -/
def execSetTod (c : CmdWord) (s : State) : Out := .next (commandRow 12 0x30 timeHandler c s)
/-- SET_PTP_PORT (R350). -/
def execSetPtpPort (c : CmdWord) (s : State) : Out := .next (commandRow 12 0x31 timeHandler c s)
/-- SET_UCAST (R350). -/
def execSetUcast (c : CmdWord) (s : State) : Out := .next (commandRow 12 0x32 timeHandler c s)
/-- SET_ASYM (R350). -/
def execSetAsym (c : CmdWord) (s : State) : Out := .next (commandRow 12 0x33 timeHandler c s)
/-- SET_CLOCK (R350). -/
def execSetClock (c : CmdWord) (s : State) : Out := .next (commandRow 12 0x34 timeHandler c s)
/-- SET_ESMC (R350). -/
def execSetEsmc (c : CmdWord) (s : State) : Out := .next (commandRow 13 0x40 esmcHandler c s)

/-! ### The lessons of one bell -/

/-- The command ports look at their words (R139, R142), E13 last. -/
def syllabusCommands (s : State) : State :=
  let cmd (e : Nat) (h : Handler) (s : State) : State := runCommand e h (s.inWord e 0x100).toNat s
  let s := cmd 13 esmcHandler (cmd 12 timeHandler (cmd 11 learnHandler (cmd 10 rollHandler s)))
  forRange 4 (fun g => cmd (6 + g) (loopHandler g)) s

/-- The tracking loops and the path lessons of a bell. -/
def syllabusLoops (s : State) : State :=
  let s := forRange 24 (fun n s => if s.sylRuns (n / 4) then trackSlot n s else s) s
  let s := forRange 8 (fun p s => if s.sylRuns (pathEngine p) then pathLesson p s else s) s
  forRange 24 (fun n s => s.putSylSlot n { s.sylSlot n with jumpBell := m1Jump (s.m1 n) }) s

/-- The lessons of E10 to E13 that no command asks for. -/
def syllabusServices (s : State) : State :=
  let s := if s.sylRuns 10 then selectionReport s else s
  let s := if s.sylRuns 11 then compactLesson (modelLesson (forRange 8 learnNote s)) else s
  let s := if s.sylRuns 12 then timeLesson s else s
  if s.sylRuns 13 then forRange 4 messageLesson s else s

/-- The Standard Syllabus in one bell, after the latch (R106, R107's assignment): commands on the host-in words,
tracking, path lessons, learning notes, time and messages; each lesson's engine must run. Roll call's pass is
ROLL_CALL. -/
def syllabusBell (s : State) : State :=
  if !s.image.standard then s
  else
    let s := if (s.inw' 0x76).testBit 31 then { s with syl := { s.syl with ratio := s.inw' 0x76 % 65536 } } else s
    syllabusServices (syllabusLoops (syllabusCommands s))

end Sys2Proof.Machine
end

