-- ==== Sys2Proof/Machine/Journal.lean ====
section
/-! DEFINITION. The journal: records, requests, scanning and compaction, and the host's operations on the NOR die
(R445 to R458, R462, R469, R470). -/
namespace Sys2Proof.Machine

/-! ### Requests (R452, R453) -/

/-- The types that lessons and the host may write (R453, R470). -/
def lessonType (t : Nat) : Bool := decide (t = 0x10 ∨ t = 0x13 ∨ (0x20 ≤ t ∧ t ≤ 0x7F))
def hostType (t : Nat) : Bool := decide (t = 0x13 ∨ (0x20 ≤ t ∧ t ≤ 0x7F))

/-- RESULT codes (R453). -/
def jOk : Nat := 0
def jBadType : Nat := 1
def jBusy : Nat := 2
def jDeferred : Nat := 3
def jNotFound : Nat := 4
def jFail : Nat := 5
def jTooLong : Nat := 6

/-- Answer the request of slot `j` (R453). -/
def slotRespond (j op seq result len : Nat) (s : State) : State :=
  let w : Word64 := BitVec.ofNat 64 (op * 2 ^ 56 + seq * 2 ^ 48 + result * 2 ^ 40 + len * 2 ^ 16)
  { s with commons := tabSet 0 ((jnlSlotAt j + 0x3F8) / 8) w s.commons }

/-- Answer a writer whose append ends with `result`. -/
def appendAnswer (who : JnlWriter) (result : Nat) (s : State) : State :=
  match who with
  | .host => s.wrs [(Reg.JNL_RESULT, result), (Reg.JNL_RESULT_LEN, 0), (Reg.JNL_CMD_APPEND, 0)]
  | .slot j seq => slotRespond j 1 seq result 0 s
  | .collector =>
    let s := s.wr Reg.FLT_CMD_LIFE_SAVE 0
    if result = jOk then s else { s with flt := { s.flt with dirty := true } }

/-- The controller takes an append request or answers it at once (R452, R454). -/
def jnlAccept (r : JnlReq) (s : State) : State :=
  if s.deferring then appendAnswer r.who jDeferred s
  else if 16 ≤ s.jnl.queue.length then appendAnswer r.who jBusy s
  else { s with jnl := { s.jnl with queue := s.jnl.queue ++ [r] } }

/-- The bytes of BUF (R470). -/
def State.bufBytes (s : State) : List Byte := (List.range 64).flatMap (fun k => leBytes 4 (s.rd (Reg.JNL_BUF_DATA k)))

/-- Put bytes at the start of BUF. -/
def bufPut (b : List Byte) (s : State) : State :=
  let all := putBytes s.bufBytes 0 (b.take 256)
  forRange 64 (fun k s => s.wr (Reg.JNL_BUF_DATA k) (leRead all (4 * k) 4)) s

/-- JNL_APPEND (R452, R470); ignored while a request of the host waits. -/
def doJnlAppend (s : State) : Out :=
  let type := s.rd Reg.JNL_FIND_TYPE
  let len := s.rd Reg.JNL_FIND_LEN
  if s.bit Reg.JNL_CMD_APPEND then .next s
  else if !hostType type then .next (appendAnswer .host jBadType s)
  else if 256 < len then .next (appendAnswer .host jTooLong s)
  else .next (jnlAccept { who := .host, type := type, key := s.rd Reg.JNL_FIND_KEY, data := s.bufBytes.take len }
    (s.wr Reg.JNL_CMD_APPEND 1))

/-- JNL_FIND (R470): refused for KEY. -/
def doJnlFind (s : State) : Out :=
  let type := s.rd Reg.JNL_FIND_TYPE
  let put (r n : Nat) (s : State) : State := s.wrs [(Reg.JNL_RESULT, r), (Reg.JNL_RESULT_LEN, n), (Reg.JNL_CMD_FIND, 0)]
  .next (if type = 0x12 then put jBadType 0 s
  else match s.jnl.inForce type (s.rd Reg.JNL_FIND_KEY) with
    | some r => put jOk r.data.length (bufPut r.data s)
    | none => put jNotFound 0 s)

/-- The request word of slot `j`, if it is new: its SEQ differs from that of the last response, and it is not
queued already (R453). -/
def State.slotRequest (s : State) (j op : Nat) : Option Nat :=
  let w := (tabGet 0 (jnlSlotAt j / 8) s.commons).toNat
  let a := (tabGet 0 ((jnlSlotAt j + 0x3F8) / 8) s.commons).toNat
  if w / 2 ^ 56 = op ∧ w / 2 ^ 48 % 256 ≠ a / 2 ^ 48 % 256 ∧
      !(s.jnl.queue.any (fun r => decide (r.who = .slot j (w / 2 ^ 48 % 256)))) then some w else none

/-- JNL_SLOT_APPEND (R453). -/
def execJnlSlotAppend (j : Fin 4) (s : State) : Out :=
  .next (match s.slotRequest j 1 with
    | none => s
    | some w =>
      let seq := w / 2 ^ 48 % 256
      let type := w / 2 ^ 40 % 256
      let len := w / 2 ^ 16 % 65536
      if !lessonType type then slotRespond j 1 seq jBadType 0 s
      else if 1008 < len then slotRespond j 1 seq jTooLong 0 s
      else jnlAccept { who := .slot j seq, type := type, key := w / 2 ^ 32 % 256, data := s.commonsRead (jnlSlotAt j + 8) len } s)

/-- JNL_SLOT_FIND (R453): the payload goes to the slot's payload area before the response. -/
def execJnlSlotFind (j : Fin 4) (s : State) : Out :=
  .next (match s.slotRequest j 2 with
    | none => s
    | some w =>
      let seq := w / 2 ^ 48 % 256
      let type := w / 2 ^ 40 % 256
      if !lessonType type then slotRespond j 2 seq jBadType 0 s
      else match s.jnl.inForce type (w / 2 ^ 32 % 256) with
        | some r => slotRespond j 2 seq jOk r.data.length (ownerWrite true (jnlSlotAt j + 8) (r.data.take 1008) s)
        | none => slotRespond j 2 seq jNotFound 0 s)

/-- Start a compaction, or let an order wait for the end of a supply warning (R457, R458). -/
def compactStart (s : State) : State :=
  if s.jnl.compacting then s
  else if s.deferring then { s with jnl := { s.jnl with ordered := true } }
  else jnlPublish { s with jnl := { s.jnl with phase := .erasing, ordered := false } }

/-- An order to compact (R457): it does nothing while one runs or none is due. -/
def compactOrder (s : State) : State := if s.jnl.compacting || !s.jnl.due then s else compactStart s

/-- JNL_COMPACT (R457). -/
def doJnlCompact (s : State) : Out :=
  .next ((compactOrder s).wrs [(Reg.JNL_RESULT, jOk), (Reg.JNL_RESULT_LEN, 0), (Reg.JNL_CMD_COMPACT, 0)])

/-- JNL_SLOT_COMPACT (R453, R457). -/
def execJnlSlotCompact (j : Fin 4) (s : State) : Out :=
  .next (match s.slotRequest j 3 with
    | none => s
    | some w => slotRespond j 3 (w / 2 ^ 48 % 256) jOk 0 (compactOrder s))

/-! ### Appends (R452) -/

/-- The writer group of a request (R452). -/
def JnlWriter.group : JnlWriter → Nat
  | .collector => 0
  | .slot _ _ => 1
  | .host => 2

/-- The next request to serve: round-robin among the writers after the one served last, in the order of acceptance
within each (R452). -/
def JnlSt.nextReq (j : JnlSt) : Option JnlReq :=
  let of (g : Nat) : Option JnlReq := j.queue.find? (fun r => decide (r.who.group = g % 3))
  match of (j.served + 1) with
  | some r => some r
  | none => match of (j.served + 2) with
    | some r => some r
    | none => of j.served

/-- A page that fails verification (R446, R452, R470). -/
def programFail (s : State) : State := s.bump Reg.JNL_COUNTS_FAILS

/-- The byte address in the NOR of position `p` of a half. -/
def halfAddr (b : Bool) (p : Nat) : Nat := (if b then 0x800000 else 0x400000) + p

/-- The attempts of one append: `fails` names the page, counted from the one the attempt starts in, that failed
verification in each; the next attempt starts at the page after it (R452). -/
def appendAttempts (b : Bool) (len : Nat) : List Nat → Nat → State → State × Bool
  | [], _, s => (s, true)
  | k :: ks, tries, s =>
    let h := s.jnl.half b
    let bad := h.point / 256 + min k ((recBytes len + h.point % 256 - 1) / 256)
    let s := programFail { s with jnl := s.jnl.putHalf b { h with point := (bad + 1) * 256 } }
    if 3 ≤ tries + 1 then (s.raise 12 noInst (halfAddr b (bad * 256) / 256), false)
    else appendAttempts b len ks (tries + 1) s

/-- A request leaves the queue. -/
def jnlDrop (r : JnlReq) (s : State) : State :=
  { s with jnl := { s.jnl with queue := s.jnl.queue.erase r, served := r.who.group } }

/-- A request is programmed, with the pages that fail (R452, R455), and answered. -/
def appendRun (r : JnlReq) (fails : List Nat) (s : State) : State :=
  let p := appendAttempts (s.jnl.active.getD false) r.data.length fails 0 s
  let s := jnlDrop r p.1
  let s := if p.2 then jnlPut r.type r.key r.data s else s
  jnlPublish (appendAnswer r.who (if p.2 then jOk else jFail) s)

/-- APPEND_COMPLETE (R452, R456, R457): the request served next is written and verified, or abandoned after three
failures. A record that does not fit starts a compaction and waits; with WORN it is answered FAIL (R458). -/
def execAppendComplete (fails : List (Fin 17)) (s : State) : Out :=
  .next (match s.jnl.nextReq with
    | none => s
    | some r =>
      if s.deferring || decide (s.jnl.phase = .erasing ∨ s.jnl.phase = .copying) || s.jnl.op.isSome then s
      else if !recFits s.jnl.used r.data.length then
        (if s.jnl.worn then appendAnswer r.who jFail (jnlDrop r s) else if s.jnl.compacting then s else compactStart s)
      else appendRun r ((fails.map (fun f => f.val)).take 3) s)

/-! ### Compaction (R457, R458) -/

/-- A block erase that fails verification (R458). -/
def eraseFail (b : Bool) (s : State) : State :=
  (programFail { s with jnl := { s.jnl with phase := .none, worn := true } }).raise 12 noInst (halfAddr b 0 / 256)

/-- COMPACTION_ERASE_DONE (R457, R458): the other half is blank, and the copy begins. -/
def execCompactionEraseDone (ok : Bool) (s : State) : Out :=
  .next (if s.jnl.phase ≠ .erasing ∨ s.anyWarn then s
  else
    let other := !(s.jnl.active.getD false)
    jnlPublish (if ok then { s with jnl := { s.jnl.putHalf other {} with phase := .copying } } else eraseFail other s))

/-- Number a list of records from `n` on. -/
def renumber : Nat → List JnlRec → List JnlRec
  | _, [] => []
  | n, r :: t => { r with seq := n } :: renumber (n + 1) t

/-- SNAPSHOT_COMMIT (R457): the other half holds SNAP_BEGIN, the records in force with new SEQs, and SNAP_COMMIT, and
is now active. -/
def execSnapshotCommit (s : State) : Out :=
  .next (if s.jnl.phase ≠ .copying ∨ s.anyWarn then s
  else
    let j := s.jnl
    let other := !(j.active.getD false)
    let recs := renumber (j.seq + 1) j.snapshot
    let size := (recs.map (fun r => recBytes r.data.length)).sum
    let h : JnlHalf := { start := some j.seq, commit := true, recs := recs, point := 48 + size }
    let s := { s with jnl := { j.putHalf other h with seq := j.seq + 2 + recs.length, phase := .cleaning } }
    jnlPublish (s.bump Reg.JNL_COUNTS_COMPACTIONS))

/-- OLD_HALF_ERASE_DONE (R457): COMPACTING clears. -/
def execOldHalfEraseDone (ok : Bool) (s : State) : Out :=
  .next (if s.jnl.phase ≠ .cleaning ∨ s.anyWarn then s
  else
    let old := !(s.jnl.active.getD false)
    jnlPublish (if ok then { s with jnl := { s.jnl.putHalf old {} with phase := .none } } else eraseFail old s))

/-! ### The scan (R455, R465) -/

/-- Unwrap the KEY record in force of slot `k` (R465): a tag that fails leaves the slot empty and raises KEY_FAIL. -/
def keyUnwrap (bad : List Nat) (k : Nat) (s : State) : State :=
  match s.jnl.inForce 0x12 k with
  | none => s
  | some r =>
    if bad.contains k then { s.raise 15 k with keys := tabErase k s.keys }
    else { s with keys := tabSet [] k r.data s.keys }

/-- The lifetime counts from the record in force (R393). -/
def lifeLoad (s : State) : State :=
  match s.jnl.inForce 0x11 0 with
  | none => s
  | some r =>
    forRange 128 (fun ev s => { s with flt := { s.flt with life := tabSet 0 ev (leRead r.data (4 * ev) 4) s.flt.life } }) s

/-- JOURNAL_SCAN (R455, R458, R465): what an interruption left is put in order: the erase of an old half continues,
an uncommitted snapshot is discarded; after POR the key records are unwrapped and the lifetime counts loaded.
`bad` names the key slots whose tag fails. -/
def execJournalScan (bad : List (Fin 64)) (s : State) : Out :=
  let j := s.jnl
  let j := if j.phase = .copying then { j.putHalf (!(j.active.getD false)) {} with phase := .none }
    else if j.phase = .erasing then { j with phase := .none } else j
  let por := j.porScan
  let s := { s with jnl := { j with porScan := false } }
  let s := if por then lifeLoad (forRange 64 (keyUnwrap (bad.map (fun k => k.val))) s) else s
  .next (jnlPublish (if s.jnl.due ∧ s.jnl.phase = .none ∧ j.ordered then compactStart s else s))

/-! ### The host's NOR operations (R445, R446, R462) -/

/-- Is a load reading image slot `b` (R462)? -/
def State.loadReads (s : State) (b : Nat) : Bool := s.bit Reg.DEV_LOAD_CMD_LOAD && decide (s.rd Reg.DEV_LOAD_CMD_SLOT = b)

/-- The refusal of a NOR operation at `a`, if one applies (R462). -/
def State.norRefuse (s : State) (a : Nat) (write : Bool) : Option Nat :=
  if 0x400000 ≤ a ∧ (a < 0xC00000 ∨ write) then some 2
  else if (a < 0x200000 ∧ s.bit Reg.SEC_CTRL_SLOT_LOCK_A) ∨ (0x200000 ≤ a ∧ a < 0x400000 ∧ s.bit Reg.SEC_CTRL_SLOT_LOCK_B) then some 3
  else if (a < 0x200000 ∧ s.loadReads 0) ∨ (0x200000 ≤ a ∧ a < 0x400000 ∧ s.loadReads 1) then some 4
  else if s.anyWarn then some 5 else none

/-- A byte of the NOR outside the journal (R445). -/
def State.norByte (s : State) (a : Nat) : Byte := if 0xC00000 ≤ a then Config.norFactory a else tabGet 0xFF a s.nor

/-- NOR_READ (R462). -/
def doNorRead (ecc : Ecc) (s : State) : Out :=
  let a := s.rd Reg.JNL_NOR_ADDR_ADDR / 256 * 256
  let done (r : Nat) (s : State) : State := s.wrs [(Reg.JNL_NOR_STATUS_RESULT, r), (Reg.JNL_NOR_CMD_READ, 0)]
  .next (match s.norRefuse a false with
    | some r => done r s
    | none =>
      if ecc = .double then done 7 s
      else done 1 (bufPut ((List.range 256).map (fun k => s.norByte (a + k))) s))

/-- Start a program or an erase, or refuse it (R462); one operation runs at a time (R446). -/
def norStart (op : NorOp) (cmd : Fld) (s : State) : State :=
  match s.norRefuse op.addr true with
  | some r => s.wrs [(Reg.JNL_NOR_STATUS_RESULT, r), (cmd, 0)]
  | none => if s.jnl.op.isSome then s else { s.wr cmd 1 with jnl := { s.jnl with op := some op } }

/-- NOR_PROGRAM (R462). -/
def doNorProgram (s : State) : Out :=
  .next (norStart { erase := false, addr := s.rd Reg.JNL_NOR_ADDR_ADDR / 256 * 256, data := s.bufBytes } Reg.JNL_NOR_CMD_PROGRAM s)

/-- NOR_ERASE (R462). -/
def doNorErase (s : State) : Out :=
  .next (norStart { erase := true, addr := s.rd Reg.JNL_NOR_ADDR_ADDR / 65536 * 65536, data := [] } Reg.JNL_NOR_CMD_ERASE s)

/-- Write `n` bytes of the NOR from `a` on. -/
def norPut (a n : Nat) (f : Nat → Byte) (s : State) : State :=
  forRange n (fun k s => { s with nor := tabSet 0xFF (a + k) (f k) s.nor }) s

/-- NOR_OPERATION_COMPLETE (R446): programming only clears bits (assumption 32); what a failed operation leaves is
not stated (assumption 3). -/
def execNorOperationComplete (ok : Bool) (s : State) : Out :=
  .next (match s.jnl.op with
    | none => s
    | some op =>
      let n := if op.erase then 65536 else 256
      let free := s.free
      let val (k : Nat) : Byte :=
        if !ok then BitVec.ofNat 8 (Config.free (free + k))
        else if op.erase then 0xFF else tabGet 0xFF (op.addr + k) s.nor &&& op.data.getD k 0xFF
      let s := norPut op.addr n val { s with free := if ok then s.free else s.free + n, jnl := { s.jnl with op := none } }
      let s := s.wrs [(Reg.JNL_NOR_CMD_PROGRAM, 0), (Reg.JNL_NOR_CMD_ERASE, 0), (Reg.JNL_NOR_STATUS_RESULT, if ok then 1 else 6)]
      if ok then s else (programFail s).raise 12 noInst (op.addr / 256))

end Sys2Proof.Machine
end

