-- ==== Sys2Proof/Machine/P256.lean ====
section
/-! DEFINITION. ECDSA verification on the curve P-256, as FIPS 186-4 defines it (R459, R460, R466). -/
namespace Sys2Proof.Machine

/-- The prime of the field. -/
def p256P : Nat := 0xFFFFFFFF00000001000000000000000000000000FFFFFFFFFFFFFFFFFFFFFFFF
/-- The order of the base point. -/
def p256N : Nat := 0xFFFFFFFF00000000FFFFFFFFFFFFFFFFBCE6FAADA7179E84F3B9CAC2FC632551
/-- The coefficient b. -/
def p256B : Nat := 0x5AC635D8AA3A93E7B3EBBD55769886BC651D06B0CC53B0F63BCE3C3E27D2604B
/-- The base point. -/
def p256G : Nat × Nat :=
  (0x6B17D1F2E12C4247F8BCE6E563A440F277037D812DEB33A0F4A13945D898C296,
   0x4FE342E2FE1A7F9B8EE7EB4A7C0F9E162BCE33576B315ECECBB6406837BF51F5)

/-- `b ^ e mod m` over the bits of `e`, lowest first. -/
def powModBits (m : Nat) : List Bool → Nat → Nat → Nat
  | [], _, acc => acc
  | x :: xs, b, acc => powModBits m xs (b * b % m) (if x then acc * b % m else acc)

/-- The 256 bits of a number, lowest first. -/
def bits256 (e : Nat) : List Bool := (List.range 256).map e.testBit

/-- The inverse modulo a prime. -/
def invMod (m a : Nat) : Nat := powModBits m (bits256 (m - 2)) (a % m) 1

/-- The sum of two points; `none` is the point at infinity. -/
def ecAdd (a b : Option (Nat × Nat)) : Option (Nat × Nat) :=
  match a, b with
  | none, q => q
  | p, none => p
  | some (x1, y1), some (x2, y2) =>
    let m := p256P
    if x1 = x2 ∧ (y1 + y2) % m = 0 then none
    else
      let l := if x1 = x2 then (3 * x1 * x1 + (m - 3)) * invMod m (2 * y1) % m
        else (y2 + m - y1) * invMod m ((x2 + m - x1) % m) % m
      let x3 := (l * l + 2 * m - x1 - x2) % m
      some (x3, (l * (x1 + m - x3) + m - y1) % m)

/-- A multiple of a point, over the bits of the factor, lowest first. -/
def ecMulBits : List Bool → Option (Nat × Nat) → Option (Nat × Nat) → Option (Nat × Nat)
  | [], _, acc => acc
  | x :: xs, p, acc => ecMulBits xs (ecAdd p p) (if x then ecAdd acc p else acc)

/-- Is a public key a point of the curve? -/
def onCurve (q : Nat × Nat) : Bool :=
  decide (q.1 < p256P ∧ q.2 < p256P ∧ q.2 * q.2 % p256P = (q.1 * q.1 * q.1 + (p256P - 3) * q.1 + p256B) % p256P)

/-- Does the signature (r, s) of the digest `h` verify under the public key `q`? -/
def ecdsaVerify (q : Nat × Nat) (r s h : Nat) : Bool :=
  if r = 0 ∨ p256N ≤ r ∨ s = 0 ∨ p256N ≤ s ∨ !onCurve q then false
  else
    let w := invMod p256N s
    match ecAdd (ecMulBits (bits256 (h * w % p256N)) (some p256G) none) (ecMulBits (bits256 (r * w % p256N)) (some q) none) with
    | some (x, _) => decide (x % p256N = r)
    | none => false

end Sys2Proof.Machine
end

