-- ==== Sys2Proof/Machine/Security.lean ====
section
/-! DEFINITION. Fuses, keys, the debug gate and image loading (R95 to R98, R459 to R461, R463 to R468). -/
namespace Sys2Proof.Machine

/-! ### Fuses (R463) -/

/-- A readable fuse field by its SEL (R463). -/
def State.fuseField (s : State) (sel : Nat) : Nat :=
  let f := s.fuses
  match sel with
  | 0 => Config.vendorHash % 2 ^ 256
  | 1 => f.cust0 | 2 => f.cust1 | 3 => f.revoke | 4 => f.custOnly
  | 5 => 2 ^ f.rollback - 1
  | 6 => f.debugHash | 7 => f.debugDisable
  | _ => 0

/-- The width of a host-programmable field (R463). -/
def fuseBits (sel : Nat) : Nat := if sel = 3 then 3 else if sel = 4 ∨ sel = 7 then 1 else 256

/-- Put a fuse field. -/
def FuseSt.put (f : FuseSt) (sel v : Nat) : FuseSt :=
  match sel with
  | 1 => { f with cust0 := v }
  | 2 => { f with cust1 := v }
  | 3 => { f with revoke := v }
  | 4 => { f with custOnly := v }
  | 6 => { f with debugHash := v }
  | 7 => { f with debugDisable := v }
  | _ => f

/-- The 256 bits of FUSE_DATA. -/
def State.fuseData (s : State) : Nat := (List.range 8).foldr (fun k v => v * 2 ^ 32 + s.rd (Reg.SEC_FUSE_DATA_DATA k)) 0

/-- FUSE_PROG (R463). -/
def doFuseProg (s : State) : Out :=
  let sel := s.rd Reg.SEC_FUSE_CMD_SEL
  let no (r : Nat) : Out := .next (s.wrs [(Reg.SEC_FUSE_CMD_RESULT, r), (Reg.SEC_FUSE_CMD_PROG, 0)])
  if s.fuses.busy.isSome then .next s
  else if !s.bit Reg.SEC_CTRL_FUSE_EN ∨ s.anyWarn ∨ ¬(sel = 1 ∨ sel = 2 ∨ sel = 3 ∨ sel = 4 ∨ sel = 6 ∨ sel = 7) then no 2
  else if sel ≠ 3 ∧ s.fuseField sel ≠ 0 then no 3
  else .next { s.wr Reg.SEC_FUSE_CMD_PROG 1 with fuses := { s.fuses with busy := some (sel, s.fuseData % 2 ^ fuseBits sel) } }

/-- FUSE_PROGRAM_COMPLETE (R463): after a failed verification each bit to be programmed is open (assumption 3). -/
def execFuseProgramComplete (ok : Bool) (s : State) : Out :=
  .next (match s.fuses.busy with
    | none => s
    | some (sel, v) =>
      let f := s.takeFree
      let t := if ok then s else f.2
      let v := if ok then v else v &&& f.1
      ({ t with fuses := { s.fuses.put sel (s.fuseField sel ||| v) with busy := none } }).wrs
        [(Reg.SEC_FUSE_CMD_RESULT, if ok then 1 else 4), (Reg.SEC_FUSE_CMD_PROG, 0)])

/-! ### Keys (R464) -/

/-- Is the debug gate CLOSED (R466)? -/
def State.gateClosed (s : State) : Bool := decide (s.rd Reg.SEC_STATUS_GATE = 0)

/-- The bytes of SEC.KEY_DATA (R464). -/
def State.keyData (s : State) : List Byte := (List.range 16).flatMap (fun k => leBytes 4 (s.rd (Reg.SEC_KEY_DATA_DATA k)))

/-- End a key command with a RESULT. -/
def keyResult (r : Nat) (s : State) : State :=
  s.wrs [(Reg.SEC_KEY_CMD_RESULT, r), (Reg.SEC_KEY_CMD_PROVISION, 0), (Reg.SEC_KEY_CMD_VOID, 0)]

/-- KEY_PROVISION (R464). -/
def doKeyProvision (s : State) : Out :=
  let len := s.rd Reg.SEC_KEY_CMD_LEN
  .next (if s.prov.isSome then s
  else if !s.bit Reg.SEC_CTRL_PROV_EN ∨ !s.gateClosed then keyResult 2 s
  else if len < 16 ∨ 64 < len then keyResult 3 s
  else if s.anyWarn then keyResult 4 s
  else { s.wr Reg.SEC_KEY_CMD_PROVISION 1 with prov := some (s.rd Reg.SEC_KEY_CMD_SLOT, s.keyData.take len) })

/-- KEY_PROVISION_COMPLETE (R464): the record's payload has 16 + LEN bytes; the key enters its slot once the record is
verified, and KEY_DATA is zeroed. -/
def execKeyProvisionComplete (ok : Bool) (s : State) : Out :=
  .next (match s.prov with
    | none => s
    | some (k, key) =>
      let s := { s with prov := none }
      let s := forRange 16 (fun i s => s.wr (Reg.SEC_KEY_DATA_DATA i) 0) s
      if ok then jnlPublish (keyResult 1 (jnlPut 0x12 k (List.replicate 16 0 ++ key) { s with keys := tabSet [] k key s.keys }))
      else keyResult 5 { programFail s with keys := tabErase k s.keys })

/-- Void the KEY records that `p` picks, in both halves: LIVE = 0 and an all-zero payload (R464, R467). -/
def voidKeys (p : Nat → Bool) (s : State) : State :=
  let f (h : JnlHalf) : JnlHalf := { h with recs := h.recs.map (fun r =>
    if r.type = 0x12 ∧ p r.key then { r with live := false, data := r.data.map (fun _ => 0) } else r) }
  { s with jnl := { s.jnl with half0 := f s.jnl.half0, half1 := f s.jnl.half1 } }

/-- KEY_VOID (R464). -/
def doKeyVoid (s : State) : Out :=
  let k := s.rd Reg.SEC_KEY_CMD_SLOT
  .next (if !s.bit Reg.SEC_CTRL_PROV_EN ∨ !s.gateClosed then keyResult 2 s
  else if s.anyWarn then keyResult 4 s
  else keyResult 1 (voidKeys (· == k) { s with keys := tabErase k s.keys }))

/-! ### The debug gate (R466 to R468) -/

/-- Opening begins (R467): DEBUG_OPEN is present and every key slot is zeroed. -/
def gateErase (s : State) : State := ({ s with keys := [] }.wrs [(Reg.SEC_STATUS_GATE, 1), (Reg.SEC_STATUS_ERASED, 0)]).level 14 noInst true

/-- The 176 bytes of the token (R466). -/
def State.token (s : State) : List Byte := (List.range 44).flatMap (fun k => leBytes 4 (s.rd (Reg.SEC_TOKEN_DATA k)))

/-- Is the token valid (R466, R468)? -/
def State.tokenOk (s : State) : Bool :=
  let b := s.token
  let words (f : Nat → Fld) : List Byte := (List.range 4).flatMap (fun k => leBytes 4 (s.rd (f k)))
  let key := (b.drop 48).take 64
  decide (s.fuses.debugDisable = 0 ∧ s.fuses.debugHash ≠ 0) &&
  decide (b.take 16 = words Reg.SEC_UID_DATA) && decide ((b.drop 16).take 16 = words Reg.SEC_NONCE_DATA) &&
  ((b.drop 32).take 16).all (fun x => x == 0) && decide (leRead (sha256 key) 0 32 = s.fuses.debugHash) &&
  ecdsaVerify (beRead b 48 32, beRead b 80 32) (beRead b 112 32) (beRead b 144 32) (beRead (sha256 (b.take 48)) 0 32)

/-- Draw a new nonce: a random number (R466; assumption 3). -/
def newNonce (s : State) : State :=
  forRange 4 (fun k s => let f := s.takeFree; f.2.wr (Reg.SEC_NONCE_DATA k) f.1) s

/-- DEBUG_OPEN_GO (R466, R468). -/
def doDebugOpenGo (s : State) : Out :=
  .next (if !s.gateClosed then s
  else if s.tokenOk then gateErase (newNonce (s.wr Reg.SEC_STATUS_TOKEN_REJ 0))
  else newNonce (s.wr Reg.SEC_STATUS_TOKEN_REJ 1))

/-- DEBUG_GATE_OPEN (R467): every KEY record is voided and verified, and the gate is OPEN; a supply warning or a
PROVISION in progress makes it wait. -/
def execDebugGateOpen (s : State) : Out :=
  .next (if s.rd Reg.SEC_STATUS_GATE ≠ 1 ∨ s.anyWarn ∨ s.prov.isSome then s
  else (voidKeys (fun _ => true) s).wrs [(Reg.SEC_STATUS_ERASED, 1), (Reg.SEC_STATUS_GATE, 2)])

/-! ### Image loading (R95 to R98, R459 to R461) -/

/-- `n` bytes of image slot `b` from offset `o` on. -/
def State.imageBytes (s : State) (b o n : Nat) : List Byte := (List.range n).map (fun k => s.norByte (b * 0x200000 + o + k))

/-- The declared bell period and the revision code in the header of slot `b` (R459). -/
def State.imagePeriod (s : State) (b : Nat) : Nat := leRead (s.imageBytes b 0 256) 12 4

/-- The key hash that KEY_INDEX names, if it is programmed and not revoked and may be used (R460). -/
def State.keyHash (s : State) (k : Nat) : Option Nat :=
  let f := s.fuses
  if f.revoke.testBit k ∨ (k = 0 ∧ f.custOnly = 1) then none
  else if k = 0 then some (Config.vendorHash % 2 ^ 256)
  else if k = 1 ∧ f.cust0 ≠ 0 then some f.cust0
  else if k = 2 ∧ f.cust1 ≠ 0 then some f.cust1 else none

/-- The first check of R460 that the set in slot `b` fails. -/
def State.signatureFail (s : State) (b : Nat) : Option Nat :=
  let h := s.imageBytes b 0 256
  let len := leRead h 16 4
  let rest := (h.drop 180).all (fun x => x == 0)
  if leRead h 0 4 ≠ 0x5E11C724 ∨ byteAt h 4 ≠ 1 ∨ byteAt h 7 ≠ 0 ∨ !rest ∨ len = 0 ∨ 2096896 < len then some 1
  else match s.keyHash (byteAt h 6) with
    | none => some 2
    | some k =>
      if leRead (sha256 ((h.drop 52).take 64)) 0 32 ≠ k then some 3
      else if leRead h 8 4 < s.fuses.rollback ∨ 32 < leRead h 8 4 then some 4
      else if !ecdsaVerify (beRead h 52 32, beRead h 84 32) (beRead h 116 32) (beRead h 148 32) (beRead (sha256 (h.take 116)) 0 32) then some 5
      else if sha256 (s.imageBytes b 256 len) ≠ (h.drop 20).take 32 then some 6 else none

/-- The lowest engine with an out-word already bound to a lower engine (R53, R95). -/
def bindingFail : Nat → List Nat → List EngSection → Option Nat
  | _, _, [] => none
  | n, seen, s :: t => if s.bind.any seen.contains then some n else bindingFail (n + 1) (seen ++ s.bind) t

/-- The sum of the declared WCET due at residue `r` (R90). -/
def sectionSum (x : EngSection) (r : Nat) : Nat :=
  ((x.tt.filter (fun e => e.2.valid && !e.2.resume && decide (r % 2 ^ e.2.k = e.2.phase))).map (fun e => e.2.wcet)).sum

/-- The largest residue sum and the lowest residue at which it occurs (R91). -/
def sectionWorst (x : EngSection) : Nat × Nat :=
  (List.range 1024).foldl (fun m r => if m.1 < sectionSum x r then (sectionSum x r, r) else m) (sectionSum x 0, 0)

/-- Does the section exceed the budget for a bell of `period` ticks (R90)? -/
def sectionOver (x : EngSection) (period : Nat) : Bool :=
  let res := ((x.tt.filter (fun e => e.2.valid && e.2.resume)).map (fun e => e.2.wcet)).sum
  decide (9 * period / 5 < (sectionWorst x).1 + res)

/-- The RESULT of the checks of R95 on slot `b`, with the DETAIL of a signature failure and the failing engine. -/
def State.loadChecks (s : State) (b : Nat) (x : ImageSet) : Nat × Nat × Nat :=
  let h := s.imageBytes b 0 256
  let period := leRead h 12 4
  if x.badRead then (8, 0, 0)
  else match s.signatureFail b with
    | some d => (2, d, 0)
    | none =>
      if byteAt h 5 ≠ s.rd Reg.DEV_ID_REV then (3, 0, 0)
      else if period ≠ s.rd Reg.DEV_BELL_PERIOD then (4, 0, 0)
      else match bindingFail 0 [] x.sections with
        | some e => (5, 0, e)
        | none =>
          match (List.range 16).find? (fun e => sectionOver (x.sections.getD e {}) period) with
          | some e => (6, 0, e)
          | none => (1, 0, 0)

/-- The HOLDOVER record of path `p` as a model (R450). -/
def modelOf (b : List Byte) : Model :=
  { y0 := toSigned 128 (leRead b 0 16), d := toSigned 128 (leRead b 16 16), c1 := toSigned 128 (leRead b 32 16)
    c2 := toSigned 128 (leRead b 48 16), t0 := toSigned 16 (leRead b 64 2), tau := byteAt b 66
    learn := (byteAt b 67).testBit 0, nsamp := leRead b 68 4, last := leRead b 72 8, epoch := leRead b 80 8 }

/-- The thermistor coefficients after a load (R451): the TEMPCAL record in force, if usable, else the image's. -/
def State.tempCal (s : State) : TempCal :=
  match s.jnl.inForce 0x13 0 with
  | some r =>
    if r.data.length = 32 ∧ leRead r.data 30 2 = 0 then
      { a := toSigned 64 (leRead r.data 0 8), b := toSigned 64 (leRead r.data 8 8), c := toSigned 64 (leRead r.data 16 8)
        trim := toSigned 32 (leRead r.data 24 4), off := toSigned 16 (leRead r.data 28 2) }
    else {}
  | none => {}

/-- The lessons' memories after a load of the Standard Syllabus: the image's settings, the thermistor record, and
each path's latest model: the journal's, or the commons copy where that is newer (R139, R175, R185, R451). -/
def syllabusInit (x : ImageSet) (s : State) : State :=
  let old := s.syl
  let s := x.initial.foldl (fun s w =>
    let c := Command.ofWord w.toNat
    if c.op < 0x10 then rollApply c s else loopApply c s) { s with syl := { cal := s.tempCal } }
  let s := forRange 8 (fun p s => s.putSylPath p { s.sylPath p with use := (s.sylPath p).pol }) s
  forRange 8 (fun p s =>
    let copy := (tabGet {} p old.paths).model
    let m := match s.jnl.inForce 0x10 p with
      | some r => if r.data.length = 88 then
          (let j := modelOf r.data; if j.last < copy.last then copy else j) else copy
      | none => copy
    s.putSylPath p { s.sylPath p with model := m }) s

/-- Engine `n` takes its section of the image (R95, R96). -/
def loadSection (x : ImageSet) (n : Nat) (s : State) : State :=
  let sec := x.sections.getD n {}
  let w := sectionWorst sec
  let e := s.engine n
  (s.putEngine n { e.abandoned.dispatched 0 with
    imem := tabOf 0xFFFFFFFF sec.imem, dmem := tabOf 0 sec.dmem, tt := tabOf {} sec.tt, bind := sec.bind
    stopped := maskBit s.clk.unpowered (3 + n), run := false, strikes := [] }).wrs
    [(Reg.ENG_ECC_UNC_I n, 0), (Reg.ENG_ECC_UNC_D n, 0), (Reg.ENG_TT_SUM_WORST n, w.1), (Reg.ENG_TT_INDEX_WORST_RES n, w.2)]

/-- A load ends every substitution; an engine whose island has no supply keeps its bindings held (R95, R432). -/
def loadEndsSubst (s : State) : State :=
  let was := s.subst
  let ended := (if was.phase = .idle then [] else [was.eng]) ++ was.failed
  let keep := ended.filter (fun n => maskBit s.clk.unpowered (3 + n))
  let s := { s with subst := { failed := keep } }
  let s := if was.phase = .idle then s else s.level 20 was.eng false
  ended.foldl (fun s n => s.level 21 n (keep.contains n)) s

/-- A successful load (R95, R96): the memories, timetables, staged copies and the substitution directory are
written; every substitution without a serving engine ends. -/
def loadWrite (b : Nat) (x : ImageSet) (s : State) : State :=
  let s := { s with
    image := { sections := tabOf {} ((List.range 16).map (fun n => (n, x.sections.getD n {}))), period := s.imagePeriod b, standard := x.standard } }
  let s := forRange 16 (loadSection x) s
  let s := s.putEngine 16 { s.engine 16 with tt := [], bind := [], strikes := [], stopped := false, lesson := none, due := [] }
  let s := loadEndsSubst (s.wrs [(Reg.ENG_ECC_UNC_I 16, 0), (Reg.ENG_ECC_UNC_D 16, 0)])
  if x.standard then syllabusInit x s else s

/-- IMAGE_LOAD (R95): refused while an engine runs. -/
def doImageLoad (s : State) : Out :=
  .next (if s.anyRunning then
    ((s.wrs [(Reg.DEV_LOAD_CMD_LOAD, 0), (Reg.DEV_LOAD_STATUS_RESULT, 7)]).raise 13 noInst 7)
  else s.wr Reg.DEV_LOAD_CMD_LOAD 1)

/-- What the loader tries (R95 to R98, R460): the slot it ends with, the result, DETAIL and ENGINE of that slot, and
the result and DETAIL of the first slot it looked at. -/
def State.loadTries (s : State) (a b : ImageSet) : Nat × (Nat × Nat × Nat) × (Nat × Nat × Nat) :=
  let k := s.rd Reg.DEV_LOAD_CMD_SLOT
  let first := s.loadChecks k (if k = 0 then a else b)
  if s.bit Reg.SEC_BOOT_FALLBACK ∧ (first.1 = 2 ∨ first.1 = 8) then
    (1 - k, s.loadChecks (1 - k) (if 1 - k = 0 then a else b), first)
  else (k, first, first)

/-- The registers that report a load (R98, R460, R461). -/
def loadReport (used : Nat) (r first : Nat × Nat × Nat) (s : State) : State :=
  s.wrs [(Reg.DEV_LOAD_CMD_LOAD, 0), (Reg.DEV_LOAD_STATUS_RESULT, r.1), (Reg.DEV_LOAD_STATUS_ENGINE, r.2.2),
    (Reg.SEC_BOOT_STATUS_DETAIL, if r.2.1 = 0 then first.2.1 else r.2.1), (Reg.SEC_BOOT_STATUS_FIRST_RESULT, first.1),
    (Reg.SEC_BOOT_STATUS_SLOT_USED, used)]

/-- A good image of version `v` advances the rollback number where the host asks for it (R461). -/
def rollbackAdvance (v : Nat) (s : State) : State :=
  if s.bit Reg.SEC_BOOT_ADV_ROLLBACK ∧ s.fuses.rollback < v then { s with fuses := { s.fuses with rollback := v } } else s

/-- The version of the image in slot `k` (R460). -/
def State.imageVersion (s : State) (k : Nat) : Nat := leRead (s.imageBytes k 0 256) 8 4

/-- LOAD_COMPLETE (R95 to R98, R460, R461): `a` and `b` are what the loader finds in image slots A and B. -/
def execLoadComplete (a b : ImageSet) (s : State) : Out :=
  if !s.bit Reg.DEV_LOAD_CMD_LOAD then .next s
  else
    let t := s.loadTries a b
    let s := loadReport t.1 t.2.1 t.2.2 s
    if t.2.1.1 ≠ 1 then .next (s.raise 13 noInst t.2.1.1)
    else .next ((loadWrite t.1 (if t.1 = 0 then a else b) (rollbackAdvance (s.imageVersion t.1) s)).raise 103 noInst)

end Sys2Proof.Machine
end

