-- ==== Sys2Proof/Machine/Reset.lean ====
section
/-! DEFINITION. Setting registers back, and the ISLAND reset (R440), shared by ISLAND_GO, the ISLAND_RESET action
and the supply rows. -/
namespace Sys2Proof.Machine

/-- The register fields with addresses from `lo` to below `hi` that satisfy `p` take their POR values. -/
def dropRegs (lo hi : Nat) (p : Fld → Bool) (s : State) : State :=
  { s with regs := tabClear (fun k => decide (lo ≤ k / 32 ∧ k / 32 < hi) &&
      (fieldsAt (k / 32)).any (fun f => decide (f.lo = k % 32) && p f)) s.regs }

/-- The fields that an ISLAND reset sets: ST, RO, CNT and CMD (R440). -/
def statusField (f : Fld) : Bool := decide (f.acc = .st ∨ f.acc = .ro ∨ f.acc = .cnt ∨ f.acc = .cmd)

/-- Restart the engine of island 3 + `n` from its staged copy (R96, R440): it resumes at a later bell. -/
def engReload (n : Nat) (s : State) : State :=
  let sec := s.section n
  s.putEngine n { (s.engine n).abandoned.dispatched 0 with
    imem := tabOf 0xFFFFFFFF sec.imem, dmem := tabOf 0 sec.dmem, tt := tabOf {} sec.tt, bind := sec.bind
    acc := [], strikes := [], cycles := 0, busy := 0, stopped := false, run := false, reload := some s.now }

/-- The ISLAND reset of an engine's island (R440): a substituted engine stays idle until RETURN; E16 stops serving.
DESIGN CHOICE (assumption 50): the spec does not say whether a return in progress goes on; it is void, and E16 stands as
one that has stopped while it serves. -/
def engIslandReset (n : Nat) (s : State) : State :=
  let s := dropRegs (0x7000 + 0x80 * n) (0x7080 + 0x80 * n) statusField s
  let s := s.putHostWords n { s.hostWords n with hout := [] }
  if n < 16 then
    if s.substituted n then s.putEngine n { (s.engine n).halted with acc := [], strikes := [] } else engReload n s
  else
    let s := s.putEngine 16 { ((s.engine 16).dispatched 0).halted with acc := [], strikes := [] }
    match s.subst.phase with
    | .idle => s
    | .copying =>
      let n := s.subst.eng
      substFail n ({ s with subst := { s.subst with phase := .idle, eng := 31 } }.level 20 n false)
    | _ => { s with subst := { s.subst with phase := .serving } }.level 21 s.subst.eng true

/-- Is `f` a field of the slots that an ISLAND reset of REF changes: STATE, TRACK_LO and TRACK_HI show words it leaves
(R137)? -/
def refStatus (f : Fld) : Bool := statusField f && !decide (f.addr % 0x100 ∈ [0x28, 0x50, 0x54])

/-- The ISLAND reset of REF (R440): every slot loses ACTIVE and rebases at its return; counts and readings take
their reset values. DESIGN CHOICE (assumption 27): the gates begin again at the 1 ms tick behind. -/
def refIslandReset (s : State) : State :=
  let s := dropRegs 0x10000 0x11800 refStatus s
  forRange 24 (fun n s => s.putSlot n { idle := s.up, gEnd := some (s.tb / msUnits * msUnits + s.gateLen n) })
    (s.wr Reg.TWIN_STATUS_CAL_VALID 0)

/-- The ISLAND reset of EVR (R440): each ring with EN = 1 restarts as at an enable. READY and the DRAM stay. -/
def evrIslandReset (s : State) : State :=
  let ready := s.rd Reg.EVR_STATUS_READY
  let s := (dropRegs 0x3E000 0x3E180 statusField s).wr Reg.EVR_STATUS_READY ready
  forRange 8 (fun r s => if s.bit (Reg.EVR_RING_CFG_EN r) then ringEnable r s else s.putRing r {}) s

/-- The ISLAND reset of port `n` (R440): the link drops and trains again, each enabled queue restarts and the
two-step queue is emptied. The wake detector's registers are always on (R423). -/
def portIslandReset (n : Nat) (s : State) : State :=
  let s := rxclkOff n (linkDrop n s)
  let s := dropRegs (0x34000 + 0x400 * n) (0x341E0 + 0x400 * n) statusField s
  let s := dropRegs (0x38000 + 0x100 * n) (0x38100 + 0x100 * n) statusField s
  let x := s.port n
  let s := s.putPort n { x with
    tx := (x.tx.map (fun e => (e.1, ({ lesson := e.2.lesson } : TxQSt)))).filter (fun e => decide (e.2 ≠ {}))
    rx := (x.rx.map (fun e => (e.1, ({ lesson := e.2.lesson } : RxQSt)))).filter (fun e => decide (e.2 ≠ {}))
    line := .none, releases := [], txts := [], pend := 0, wr := 0, rd := 0, ovf := false }
  let s := forRange 8 (fun q s => if s.bit (Reg.ETH_TXQ_CFG_EN n q) then s.wr (Reg.ETH_TXQ_PTR_TAIL n q) 0 else s) s
  rxCfgCheck n (forRange 8 (fun q s => if s.bit (Reg.ETH_RXQ_CFG_EN n q) then s.wr (Reg.ETH_RXQ_PTR_TAIL n q) 0 else s) s)

/-- The ISLAND reset of TWIN (R440): ROLE, EPOCH and what the straps gave stay; the link drops and restarts. -/
def twinIslandReset (s : State) : State :=
  let keep := [Reg.TWIN_STATUS_ROLE, Reg.TWIN_STATUS_PAIR_ID, Reg.TWIN_STATUS_SOLO_STRAP, Reg.TWIN_EPOCH_OWN, Reg.TWIN_EPOCH_TWIN]
  let s := dropRegs 0x3C000 0x3C090 (fun f => statusField f && !keep.contains f) s
  let s := twinWordsInvalid { s with twin := {} }
  twinLevels ((s.level 43 0 false).level 43 1 false)

/-- The islands that ISLAND_GO, the ISLAND_RESET action and R431 may reset (R385, R444). -/
def resetIsland (i : Nat) : Bool := decide ((3 ≤ i ∧ i ≤ 19) ∨ i = 22 ∨ (25 ≤ i ∧ i ≤ 30))

/-- The ISLAND reset of island `i` (R440). The island's clock restarts. -/
def islandReset (i : Nat) (s : State) : State :=
  let s := { s.wr Reg.RST_CAUSE_ISLAND_LAST i with clk := { s.clk with stopped := maskClr s.clk.stopped i } }
  if 3 ≤ i ∧ i ≤ 19 then engIslandReset (i - 3) s
  else if i = 22 then refIslandReset s
  else if i = 25 then evrIslandReset s
  else if 26 ≤ i ∧ i ≤ 29 then portIslandReset (i - 26) s
  else if i = 30 then twinIslandReset s
  else s

end Sys2Proof.Machine
end

