-- ==== Sys2Proof/Machine/Faults.lean ====
section
/-! DEFINITION. The event collector (R380 to R397): how a source moves, its actions, its interrupts and the
lifetime counts. -/
namespace Sys2Proof.Machine

/-! ### Sources (R380 to R382) -/

/-- Is source `ev` a level (R382)? -/
def levelEv (ev : Nat) : Bool :=
  [0, 1, 2, 3, 4, 5, 6, 9, 14, 20, 21, 23, 25, 26, 27, 28, 32, 40, 41, 43, 44, 102, 104].contains ev

/-- Is source `ev` reserved (R382)? -/
def reservedEv (ev : Nat) : Bool := decide ((46 ≤ ev ∧ ev < 80) ∨ (105 ≤ ev ∧ ev < 112))

/-- The states of R383. -/
def stClear : Nat := 0
def stGrace : Nat := 1
def stRaised : Nat := 2
def stRecess : Nat := 3

/-- The state of source `ev`. -/
def State.srcState (s : State) (ev : Nat) : Nat := s.rd (Reg.FLT_SRC_STATUS_STATE ev)

/-- The causes present of source `ev`, as the collector has seen them. -/
def State.causePresent (s : State) (ev : Nat) : Bool := s.flt.present.any (fun c => decide (c.1 = ev))

/-- Does source `ev` request an interrupt (R389)? -/
def State.irqRequest (s : State) (ev : Nat) : Bool :=
  s.bit (Reg.FLT_SRC_CFG_IRQ_EN ev) && decide (s.srcState ev ≠ 0) && !s.bit (Reg.FLT_SRC_STATUS_SEEN ev)

/-- IRQ_N is driven low (R389). -/
def State.irqLow (s : State) : Bool := (List.range 128).any s.irqRequest

/-- The value of a DWORD of the MSI-X table after reset: every vector masked, the rest 0. -/
def msixDef (i : Nat) : Nat := if i % 4 = 3 then 1 else 0

/-- DWORD `i` of the MSI-X table (R418). -/
def State.msixWord (s : State) (i : Nat) : Nat := tabGet (msixDef i) i s.host.msix

/-- The message of vector `v` is due (R390): sent, or pending while the vector is masked. -/
def msixSend (v : Nat) (s : State) : State :=
  if !s.bit Reg.HOST_STATUS_MSIX_EN then s
  else if s.host.fmask || s.msixWord (4 * v + 3) % 2 = 1 then
    { s with flt := { s.flt with msiPending := if v ∈ s.flt.msiPending then s.flt.msiPending else s.flt.msiPending ++ [v] } }
  else if s.busMaster then { s with flt := { s.flt with msiSent := s.flt.msiSent ++ [v] } }
  else s

/-- `f` may make source `ev` begin to request an interrupt (R390). -/
def withRequest (ev : Nat) (f : State → State) (s : State) : State :=
  let old := s.irqRequest ev
  let s := f s
  if !old && s.irqRequest ev then msixSend ev s else s

/-! ### Targets (R385) -/

/-- The outputs of group `k` as a mask. -/
def groupMask (k : Nat) : Nat := 15 * 16 ^ k

/-- The outputs of the groups in mask `m`. -/
def groupsMask (m : Nat) : Nat := ((List.range 8).filter (maskBit m)).foldl (fun a k => a + groupMask k) 0

/-- The paths whose DCO words engine `n` is bound to. -/
def State.enginePaths (s : State) (n : Nat) : Nat :=
  ((List.range 8).filter (fun p => (s.engine n).bind.contains (0x200 + p))).foldl (fun a p => a + 2 ^ p) 0

/-- The target that SELF = 1 takes for action `a` from instance `inst` of source `ev` (the table of R385), with the
path mask, the output mask and the engine or island; `none` where the table gives none. -/
def State.selfTarget (s : State) (ev inst info a : Nat) : Option (Nat × Nat × Nat) :=
  if ev = 23 then (if a = 1 ∧ inst < 8 then some (2 ^ inst, 0, 0) else none)
  else if ev = 22 then (if a = 1 ∧ inst < 24 then some (2 ^ s.rd (Reg.SLOT_CFG_PATH inst), 0, 0) else none)
  else if ev = 33 ∨ ev = 34 ∨ (ev = 32 ∧ inst < 48 ∧ s.channelOf inst = info) then
    (if a = 1 ∧ inst < 22 then some (2 ^ s.rd (Reg.SLOT_CFG_PATH (slotOfRole inst)), 0, 0) else none)
  else if ev = 25 ∨ ev = 27 then
    let k := if inst = 8 then s.rd (Reg.APLL_COVER_APLL 8) else inst
    if a = 1 then (if inst < 8 then some (2 ^ inst, 0, 0) else none)
    else if (a = 2 ∨ a = 3) ∧ k < 8 then some (0, groupMask k, 0) else none
  else if ev = 26 then (if (a = 2 ∨ a = 3) ∧ inst < 8 then some (0, groupMask inst, 0) else none)
  else if ev = 28 then (if a = 2 ∨ a = 3 then some (0, 2 ^ inst, 0) else none)
  else if ev ∈ [16, 17, 18, 19, 20, 21, 24] ∨ (80 ≤ ev ∧ ev < 96) then
    if a = 1 then some (s.enginePaths inst, 0, 0)
    else if a = 4 then (if inst < 16 then some (0, 0, inst) else none)
    else if a = 6 then some (0, 0, 3 + inst) else none
  else if 36 ≤ ev ∧ ev ≤ 39 then (if a = 6 then some (0, 0, 26 + inst) else none)
  else none

/-- The target that TARGET names for action `a` (R385). -/
def cfgTarget (a v : Nat) : Option (Nat × Nat × Nat) :=
  if a = 1 then some (v, 0, 0)
  else if a = 2 ∨ a = 3 then some (0, groupsMask v, 0)
  else if a = 4 then (if v < 16 then some (0, 0, v) else none)
  else if a = 6 then (if resetIsland (v % 32) then some (0, 0, v % 32) else none)
  else some (0, 0, 0)

/-- What the collector samples when `ev` leaves CLEAR for instance `inst` (R383, R385); `none` for a configuration
error. Service events are SLATE with action NONE (R380). -/
def State.sample (s : State) (ev inst info : Nat) : SrcRec × Bool :=
  if 96 ≤ ev then ({}, false)
  else
    let c := s.rd (Reg.FLT_SRC_CFG_CLASS ev)
    let cls := if c = 3 then 0 else c
    let a := s.rd (Reg.FLT_SRC_CFG_ACTION ev)
    let targeted := decide (a ∈ [1, 2, 3, 4, 6])
    let t := if !targeted then some (0, 0, 0)
      else if s.bit (Reg.FLT_SRC_CFG_SELF ev) then s.selfTarget ev inst info a
      else cfgTarget a (s.rd (Reg.FLT_SRC_CFG_TARGET ev))
    match t with
    | some (p, o, n) => ({ cls := cls, action := a, paths := p, outs := o, num := n }, false)
    | none => ({ cls := cls, action := 0 }, true)

/-! ### Actions (R385 to R388) -/

/-- SAFE_ACTIVE follows the SAFE action (R388). -/
def safeLevel (s : State) : State := s.level 104 noInst s.safe

/-- The action of source `ev` is applied (R385): the one-shot actions are made, and the held ones are in force from
now on. -/
def applyAction (ev : Nat) (s : State) : State :=
  let r := tabGet {} ev s.flt.src
  let s := s.wr (Reg.FLT_SRC_STATUS_ACTED ev) 1
  let s := match r.action with
    | 4 => substRequest r.num .action s
    | 5 => demoteRequest s
    | 6 => islandReset r.num s
    | 7 => demoteRequest s
    | _ => s
  safeLevel s

/-! ### Timers (R384) -/

/-- The grace time of source `ev`, GRACE_M × 10^GRACE_E µs, in 2.0 ns steps (R384, R396). -/
def State.graceSpan (s : State) (ev : Nat) : Nat :=
  min 16 (max 1 (s.rd (Reg.FLT_SRC_CFG_GRACE_M ev))) * 10 ^ min 6 (s.rd (Reg.FLT_SRC_CFG_GRACE_E ev)) * 500

/-- The recess time of source `ev`, RECESS_M × 10^RECESS_E ms, in 2.0 ns steps (R384, R396). -/
def State.recessSpan (s : State) (ev : Nat) : Nat :=
  min 60 (max 1 (s.rd (Reg.FLT_SRC_CFG_RECESS_M ev))) * 10 ^ s.rd (Reg.FLT_SRC_CFG_RECESS_E ev) * 500000

/-- The timer of source `ev` starts, with the time `span` sampled (R383, R384). -/
def startTimer (ev span : Nat) (s : State) : State :=
  let r := tabGet {} ev s.flt.src
  { s with flt := { s.flt with src := tabSet {} ev { r with span := span, since := s.up, ring := s.onRing } s.flt.src } }

/-- May the timer of source `ev` expire now (R384)? On the fabric clock it is exact to one 1 µs step; on SVC's ring
oscillator it is within 5 %, and where in the band the spec does not say. -/
def State.timerDone (s : State) (ev : Nat) : Bool :=
  let r := tabGet {} ev s.flt.src
  if r.ring || s.onRing then decide (r.span * 95 ≤ (s.up - r.since + 500) * 100) else decide (r.span ≤ s.up - r.since + 500)

/-! ### Transitions (R383) -/

/-- RAISED, or RECESS where no cause is present, whose timer starts. -/
def settle (ev : Nat) (s : State) : State :=
  if s.causePresent ev then s.wr (Reg.FLT_SRC_STATUS_STATE ev) stRaised
  else startTimer ev (s.recessSpan ev) (s.wr (Reg.FLT_SRC_STATUS_STATE ev) stRecess)

/-- The source leaves CLEAR (R383, R393). -/
def leaveClear (ev inst info : Nat) (s : State) : State :=
  let x := s.sample ev inst info
  let s := (s.bumpSat (Reg.FLT_SRC_STATUS_RAISES ev)).wrb (Reg.FLT_SRC_STATUS_CFG_ERR ev) x.2
  let n := min (tabGet 0 ev s.flt.life + 1) (2 ^ 32 - 1)
  let s := { s with flt := { s.flt with src := tabSet {} ev x.1 s.flt.src, life := tabSet 0 ev n s.flt.life, dirty := true } }
  if x.1.cls = 1 then startTimer ev (s.graceSpan ev) (s.wr (Reg.FLT_SRC_STATUS_STATE ev) stGrace)
  else
    let s := settle ev s
    if x.1.cls = 2 then applyAction ev s else s

/-- The first notice of `ev` and instance `inst` in flight; the instance of a level cause may be kept apart by more
than INST shows. -/
def State.notice (s : State) (ev inst info : Nat) (ends : Bool) : Option Notice :=
  let l := s.flt.inflight.filter (fun n => decide (n.ev = ev ∧ n.inst % 256 = inst ∧ n.ends = ends))
  match l.find? (fun n => decide (n.info = info)) with
  | some n => some n
  | none => l.head?

/-- An assertion that the collector sees (R381, R383). -/
def assertSource (ev inst info : Nat) (s : State) : State :=
  withRequest ev (fun s =>
    let s := s.wrs [(Reg.FLT_SRC_DETAIL_INST ev, inst), (Reg.FLT_SRC_DETAIL_INFO ev, info), (Reg.FLT_SRC_STATUS_SEEN ev, 0)]
    if s.srcState ev = stClear then leaveClear ev inst info s
    else if s.srcState ev = stGrace then s
    else settle ev s) s

/-- Does the collector run: SVC powered, outside DOZE and OFF (R19, R435)? -/
def State.collects (s : State) : Bool := decide (s.rd Reg.PWR_STATUS_STATE < 2) && !maskBit s.clk.unpowered 31

/-- FAULT_ASSERT (R381 to R383): the collector, where it runs, sees an assertion; a level cause is present from now on. -/
def execFaultAssert (ev : Fin 128) (inst : Fin 256) (info : BitVec 24) (s : State) : Out :=
  if reservedEv ev || !s.collects then .next s
  else
    let n := s.notice ev inst info.toNat false
    let key := (n.map (·.inst)).getD inst.val
    let f : FltSt := s.flt
    let f : FltSt := match n with | some n => { f with inflight := f.inflight.erase n } | none => f
    let f : FltSt := if levelEv ev ∧ (ev.val, key) ∉ f.present then { f with present := f.present ++ [(ev.val, key)] } else f
    .next (assertSource ev inst info.toNat { s with flt := f })

/-- CAUSE_END (R381, R383): an instance's condition no longer holds; without any, a RAISED source enters RECESS. -/
def execCauseEnd (ev : Fin 128) (inst : Fin 256) (s : State) : Out :=
  let n := s.notice ev inst 0 true
  let key := (n.map (·.inst)).getD inst.val
  let f : FltSt := s.flt
  let f : FltSt := match n with | some n => { f with inflight := f.inflight.erase n } | none => f
  let s := { s with flt := { f with present := f.present.filter (fun c => c != (ev.val, key)) } }
  .next (if s.srcState ev = stRaised then settle ev s else s)

/-- GRACE_EXPIRY (R383, R384): once the grace time has passed, the action is applied. -/
def execGraceExpiry (ev : Fin 128) (s : State) : Out :=
  .next (if s.srcState ev = stGrace ∧ s.timerDone ev then applyAction ev (settle ev s) else s)

/-- RECESS_EXPIRY (R383, R384, R386): once the recess time has passed, the source is CLEAR, and its reversible action is
undone. -/
def execRecessExpiry (ev : Fin 128) (s : State) : Out :=
  if s.srcState ev = stRecess ∧ s.timerDone ev then
    let s := (s.bump (Reg.FLT_SRC_STATUS_RECOVERIES ev)).wrs
      [(Reg.FLT_SRC_STATUS_STATE ev, stClear), (Reg.FLT_SRC_STATUS_OWNED ev, 0), (Reg.FLT_SRC_STATUS_ACTED ev, 0),
       (Reg.FLT_SRC_STATUS_SEEN ev, 0), (Reg.FLT_SRC_STATUS_CFG_ERR ev, 0)]
    .next (safeLevel { s with flt := { s.flt with src := tabSet {} ev.val {} s.flt.src } })
  else .next s

/-- FLT_ACK (R383, R389, R394): a write of 1 to ACK with SRC; `late` where the write meets the cycle in which the
grace of SRC, whose time has passed, expires: the action is then applied. -/
def doFltAck (src : Fin 128) (late : Bool) (s : State) : Out :=
  let s := s.wrs [(Reg.FLT_ACK_SRC, src), (Reg.FLT_ACK_LATE, 0), (Reg.FLT_ACK_REJ, 0)]
  .next (if s.srcState src = stClear then s.wr Reg.FLT_ACK_REJ 1
  else if s.srcState src = stGrace then
    if late ∧ s.timerDone src then (applyAction src (settle src s)).wrs [(Reg.FLT_SRC_STATUS_SEEN src, 1), (Reg.FLT_ACK_LATE, 1)]
    else settle src (s.wrs [(Reg.FLT_SRC_STATUS_OWNED src, 1), (Reg.FLT_SRC_STATUS_SEEN src, 1)])
  else s.wr (Reg.FLT_SRC_STATUS_SEEN src) 1)

/-! ### Lifetime counts (R393) -/

/-- The payload of a lifetime record: 128 counts of 32 bits (R448). -/
def State.lifeBytes (s : State) : List Byte := (List.range 128).flatMap (fun ev => leBytes 4 (tabGet 0 ev s.flt.life))

/-- The collector asks for a lifetime record, unless one is on its way (R393, R452). -/
def lifeRecord (s : State) : State :=
  if s.jnl.queue.any (fun r => decide (r.who = .collector)) then s
  else if s.deferring || decide (16 ≤ s.jnl.queue.length) then s.wr Reg.FLT_CMD_LIFE_SAVE 0
  else
    let s := jnlAccept { who := .collector, type := 0x11, key := 0, data := s.lifeBytes } s
    { s with flt := { s.flt with dirty := false } }

/-- LIFE_SAVE (R393, R397): the command clears when the record is committed, or at once if the write is deferred. -/
def doLifeSave (s : State) : Out := .next (lifeRecord (s.wr Reg.FLT_CMD_LIFE_SAVE 1))

/-- LIFETIME_RECORD_WRITE (R393): the 10-minute mark. -/
def execLifetimeRecordWrite (s : State) : Out := .next (if s.flt.dirty then lifeRecord s else s)

end Sys2Proof.Machine
end

