-- ==== Sys2Proof/Machine/Bell.lean ====
section
/-! DEFINITION. The bell (R37, R38, R54, R83 to R94, R100 to R103): words take effect, in-words are latched, the
proctors check, and engines dispatch. -/
namespace Sys2Proof.Machine

/-! ### Out-words take effect (R38, R52, R54) -/

/-- The STATE that `w` shows of a path; codes 5 to 7 show as FREERUN (R165). -/
def shownPath (w : Word64) : Nat := let c := w.toNat / 2 ^ 61; if 5 ≤ c then 0 else c

/-- PATH_STATE_CHANGE (R166): the control word of path `p` takes effect. -/
def pathControl (p : Nat) (w : Word64) (s : State) : State :=
  let old := shownPath (tabGet 0 (0x208 + p) s.out)
  let s := { s with out := tabSet 0 (0x208 + p) w s.out }
  let new := shownPath w
  if old = new then s else (s.raise 97 p).level 23 p (decide (new = 3))

/-- 1 ms in steps of 2 ns. -/
def msTicks : Nat := 500000

/-- The DCO word of path `p` changes to `w`; the words of the last 1 ms are remembered (R211). -/
def pathWord (p : Nat) (w : Word64) (s : State) : State :=
  let x := s.path p
  let past := if w = x.word then x.past else ((s.up, s.dco p) :: x.past).filter (fun e => decide (s.up < e.1 + msTicks))
  s.putPath p { x with word := w, past := past }

/-- Out-word `i` takes effect with value `w`. A DCO word of a held path is not applied (R54). -/
def applyWord (i : Nat) (w : Word64) (s : State) : State :=
  let put (s : State) : State := { s with out := tabSet 0 i w s.out }
  if i < 0x208 then
    let p := i - 0x200
    if s.pathHeld p then s else pathWord p w (put s)
  else if i < 0x210 then pathControl (i - 0x208) w s
  else if 0x228 ≤ i ∧ i < 0x240 then slotStateChange (i - 0x228) put s
  else if 0x248 ≤ i ∧ i < 0x24C then portControl (i - 0x248) w (put s)
  else if i = 0x250 then twinBell (put s)
  else if 0x258 ≤ i ∧ i < 0x260 then outErrs (put s)
  else if 0x260 ≤ i ∧ i < 0x264 then tsControl (i - 0x260) w (put s)
  else put s

/-- Is `i` the index of a host-out word, which every engine has of its own (R53)? -/
def hostOut (i : Nat) : Bool := decide (0x240 ≤ i ∧ i < 0x244)

/-- Of the words committed to one out-word in a bell, the one of the latest END prevails (R54). -/
def prevailing : List (Nat × Nat × Word64) → List (Nat × Nat × Word64)
  | [] => []
  | c :: l =>
    if l.any (fun d => decide (d.2.1 = c.2.1) && (!hostOut c.2.1 || decide (d.1 = c.1))) then prevailing l else c :: prevailing l

/-- The words committed since the last bell take effect, in the order of their ENDs; a host-out word goes to the
engine whose host words its writer uses (R53). -/
def applyCommits (s : State) : State :=
  let l := prevailing s.bell.commits
  let s := { s with bell := { s.bell with commits := [] } }
  l.foldl (fun s c =>
    if hostOut c.2.1 then
      let o := s.hostOwner c.1
      let h := s.hostWords o
      s.putHostWords o { h with hout := tabSet 0 (c.2.1 - 0x240) c.2.2 h.hout }
    else applyWord c.2.1 c.2.2 s) s

/-! ### The latch (R38, R50) -/

/-- The path status word (R164). -/
def State.pathStatus (s : State) (p : Nat) : Word64 :=
  let x := s.path p
  BitVec.ofNat 64 (ofSigned 48 (x.total / 65536) * 65536 + flagIf (x.remain ≠ 0) 32768 + flagIf (s.pathHeld p) 16384)

/-- `DEV.CLK_STATUS` as a word (R32). -/
def State.clkStatus (s : State) : Nat :=
  s.rd Reg.DEV_CLK_STATUS_TBPLL_NINT * 256 + s.rd Reg.DEV_CLK_STATUS_START_FAIL * 64 + flagIf s.clkCfgErr 32
  + s.rd Reg.DEV_CLK_STATUS_SERVO_HOLD * 16 + s.rd Reg.DEV_CLK_STATUS_TB_ON_XO * 8 + s.rd Reg.DEV_CLK_STATUS_SYSPLL_LOCK * 4
  + s.rd Reg.DEV_CLK_STATUS_TBPLL_LOCK * 2 + s.rd Reg.DEV_CLK_STATUS_XO_ACTIVE

/-- The active states of EV64`k` to EV64`k` + 63 (R392). -/
def State.activeWord (s : State) (k : Nat) : Word64 :=
  BitVec.ofNat 64 (((List.range 64).filter (fun i => decide (s.srcState (64 * k + i) ≠ 0))).foldl (fun a i => a + 2 ^ i) 0)

/-- A stamp word as an in-word: NEW where a stamp came since the previous bell (R257). -/
def latestStamp (r : RoleSt) : Word64 := (r.last &&& 0xFFFFFFFFFFFFFFDF) ||| (if r.fresh then 0x20 else 0)

/-- The in-words that stand in the state when a bell latches them, by index. -/
def State.inWords (s : State) : List (Nat × Word64) :=
  (List.range 24).map (fun n => (n, (s.slot n).word)) ++
  (List.range 24).flatMap (fun n => [(0x20 + 2 * n, s.monitor0 n), (0x21 + 2 * n, s.monitor1 n)]) ++
  (List.range 8).map (fun p => (0x50 + p, (s.path p).word)) ++
  (List.range 8).map (fun p => (0x58 + p, s.pathStatus p)) ++
  (List.range 6).map (fun i => (0x70 + i,
    BitVec.ofNat 64 (s.rd (Reg.DEV_TEMP_VALID i) * 2 ^ 31 + s.rd (Reg.DEV_TEMP_VALUE i)))) ++
  [(0x76, BitVec.ofNat 64 (s.rd Reg.DEV_XTH_VALID * 2 ^ 31 + s.rd Reg.DEV_XTH_RATIO)), (0x78, BitVec.ofNat 64 s.bell.number)] ++
  (List.range 4).map (fun n => (0x7C + n, BitVec.ofNat 64 (wtOf (s.tscale n).val))) ++
  (List.range 10).map (fun i => (0x80 + i, latestStamp (s.role (38 + i)))) ++
  (List.range 16).flatMap (fun m => (List.range 4).map (fun w =>
    (0x90 + 4 * m + w, tabGet 0 (4 * s.rd (Reg.M_CFG_MBX_SEL m) + w) (s.grp m).words))) ++
  (List.range 4).map (fun n => (0xD0 + n, s.portWord n)) ++
  (List.range 4).map (fun i => (0xD8 + i, s.twinStatusWord i)) ++
  [(0xE0, s.activeWord 0), (0xE1, s.activeWord 1), (0xE8, BitVec.ofNat 64 s.clkStatus)]

/-- Every in-word is latched (R38): the comparators deliver, and the host-in words committed reach their engines. -/
def bellLatch (s : State) : State :=
  let s := forRange 24 slotBell s
  let s := forRange 16 feedbackBell s
  let s := s.inWords.foldl (fun s w => { s with inw := tabSet 0 w.1 w.2 s.inw }) s
  let s := forRange 10 (fun i s => s.putRole (38 + i) { s.role (38 + i) with fresh := false }) s
  forRange 17 (fun e s => s.putHostWords e { s.hostWords e with latched := (s.hostWords e).hin }) s

/-! ### Proctor (R92 to R94) -/

/-- A strike of engine `e` at this bell (R94); a third one stops it. DESIGN CHOICE (assumption 50): on E16 the third
strike stops it whatever its SUBST_EN, as the table row of R94 names no condition. -/
def strike (e : Nat) (s : State) : State :=
  let x := s.engine e
  let third := decide (2 ≤ x.strikes.length)
  let s := s.putEngine e { x with strikes := x.strikes ++ [s.bell.number + 2 ^ s.rd (Reg.ENG_PROC_CFG_STRIKE_WIN e)] }
  if !third then s
  else if e = 16 then
    if s.subst.phase = .serving then (s.putEngine 16 (s.engine 16).halted).level 21 s.subst.eng true else s
  else if s.bit (Reg.ENG_PROC_CFG_SUBST_EN e) then substRequest e .strikes s
  else s

/-- The lessons of a Standard Syllabus on engine `e` have completed within the bell that ends (assumption 30); the cycles
they took, at most the bell's, are a free value (R81, assumption 3). -/
def standardDone (e : Nat) (s : State) : State :=
  let x := s.engine e
  if x.due.isEmpty ∧ x.lesson.isNone then s
  else
    let v := s.takeFree
    v.2.putEngine e { x with lesson := none, due := [], busy := v.1 % (2 * s.bell.period + 1) }

/-- The proctor of engine `e` at a bell (R92, R93). A standard image's lessons complete within their bell. -/
def proctor (e : Nat) (s : State) : State :=
  let s := if s.image.standard then standardDone e s else s
  let s := dropStrikes e s.bell.number s
  let x := s.engine e
  let missed := (x.lesson.map (·.idx)).toList ++ x.due
  let s := (s.wr (Reg.ENG_BUSY_LAST_CYCLES e) x.busy).wr (Reg.ENG_BUSY_MAX_CYCLES e) (max x.busy (s.rd (Reg.ENG_BUSY_MAX_CYCLES e)))
  let clock := x.ring || s.onRing
  let s := s.putEngine e { x with cycles := 0, busy := 0, unchecked := false, ring := s.onRing }
  if !x.run || x.unchecked || x.stopped || !s.bit (Reg.ENG_CTRL_ENABLE e) || missed.isEmpty then s
  else
    let s := s.putEngine e (s.engine e).abandoned
    let cause := if clock then 2 else 1
    let s := (s.bumpSat (Reg.ENG_PROC_STATUS_OVR_COUNT e)).wrs
      [(Reg.ENG_PROC_STATUS_LAST_INDEX e, missed.foldl min 63), (Reg.ENG_PROC_STATUS_LAST_CAUSE e, cause)]
    let s := s.raise 17 e cause
    if clock then s else strike e s

/-! ### Dispatch and resuming (R87, R88, R97, R100 to R103, R440) -/

/-- The entries of `x` that satisfy `p`, in ascending index. -/
def Eng.entries (x : Eng) (p : TTEntry → Bool) : List Nat := (x.tt.filter (fun e => e.2.valid && p e.2)).map (·.1)

/-- May engine `e` run its timetable (R97, R100)? -/
def State.mayRun (s : State) (e : Nat) : Bool :=
  decide (s.rd Reg.PWR_STATUS_STATE = 0) && s.pwr.target.isNone && !(s.engine e).stopped && s.reachable (3 + e) && s.loaded &&
  s.bit (Reg.ENG_CTRL_ENABLE e) &&
  (if e = 16 then decide (s.subst.phase = .serving)
   else !s.substituted e && !s.subst.failed.contains e && (s.engine e).reload.isNone)

/-- Engine `e` dispatches the entries due in this bell, after its RESUME entries where `resume` (R87, R88, R100); a
lesson of an unchecked bell that still runs ends first (R77). -/
def bellDispatch (e : Nat) (resume : Bool) (s : State) : State :=
  let x := s.engine e
  if s.mayRun e then
    let b := s.bell.number
    let due := (if resume then x.entries (·.resume) else []) ++ x.entries (fun t => !t.resume && decide (b % 2 ^ t.k = t.phase))
    if s.image.standard then
      (s.putEngine e { x with run := true, due := due }).wr (Reg.ENG_LESSON_INDEX e) (due.getLastD (s.rd (Reg.ENG_LESSON_INDEX e)))
    else if x.lesson.isSome then s.putEngine e { x with run := true, due := due }
    else dispatchNext e (s.putEngine e { x with run := true, due := due })
  else s.putEngine e { x with run := x.lesson.isSome, due := [] }

/-- The lessons of the Standard Syllabus on engine `n` start from their checkpoints: the path lessons seed their
integrators from the DCO words in force, and the tracking loops acquire anew (R102, R128, R153). -/
def syllabusResume (n : Nat) (s : State) : State :=
  if !s.image.standard then s
  else
    let s := forRange 8 (fun p s =>
      if pathEngine p = n then
        let x := s.sylPath p
        let w := (s.path p).word.toInt
        s.putSylPath p { x with
          integ := w * 2 ^ 48, y := w, cutNext := false, p0 := s.bell.number, upd := s.bell.number }
      else s) s
    forRange 24 (fun i s => if i / 4 = n then s.putSylSlot i { s.sylSlot i with trk := 0 } else s) s

/-- More than 4.0 µs since tick `t`? -/
def State.late (s : State) (t : Nat) : Bool := decide (2000 < s.now - t)

/-- The resume bell of a substitution or of a return (R100, R102, R103): the hold of the bindings lifts; an engine that
has failed during its return stays stopped. -/
def bellResume (s : State) : State :=
  let u := s.subst
  if u.phase = .ready ∧ s.late u.since then
    let s := { s with subst := { u with phase := .serving } }
    s.wr (Reg.ENG_SUBST_TIME_TICKS 16) (min (s.now - u.since) 65535)
  else if u.phase = .returning ∧ s.late u.since then
    let n := u.eng
    let bad := u.failed.contains n
    let s := { s with subst := { u with phase := .idle, eng := 31 } }
    let s := s.putEngine n { s.engine n with stopped := bad }
    let s := s.putEngine 16 { s.engine 16 with tt := [], bind := [], stopped := false }
    ((s.level 20 n false).level 21 n bad).wr (Reg.ENG_SUBST_RETURN 16) 0
  else s

/-- Is the resumption of engine `e` after an ISLAND reset due (R440)? -/
def State.reloadDue (s : State) (e : Nat) : Bool :=
  (s.engine e).reload.any (fun t => s.late t) && !maskBit s.clk.unpowered (3 + e)

/-- Engine `e` resumes after an ISLAND reset, where that is due (R440). -/
def reloadResume (e : Nat) (s : State) : State :=
  if s.reloadDue e then
    let s := s.putEngine e { s.engine e with reload := none }
    let s := { s with subst := { s.subst with failed := s.subst.failed.erase e } }
    s.level 21 e false
  else s

/-- Does the bell that state `s` has reached resume engine `e` from a failure, with its RESUME entries (R100, R102, R103,
R440)? -/
def State.resumes (s : State) (e : Nat) : Bool :=
  let u := s.subst
  (decide (u.phase = .ready) && s.late u.since && decide (e = 16) && !u.healthy) ||
  (decide (u.phase = .returning) && s.late u.since && decide (e = u.eng) && !u.healthy) ||
  (decide (e < 17) && s.reloadDue e)

/-- The lessons of a Standard Syllabus that start from their checkpoints at the bell that `s` has reached: those of the
engines that resume from a failure, E16 with the lessons of the engine it serves (R102). -/
def resumedLessons (s t : State) : State :=
  forRange 17 (fun e t => if s.resumes e && !(t.engine e).stopped then syllabusResume (if e = 16 then s.subst.eng else e) t else t) t

/-- A bell is reached: what is left of its period passes, and the next one begins (R83, R84). -/
def bellReached (s : State) : State :=
  let s := advance (s.bellLeft (decide (s.clk.time = .xo))) s
  { s with bell := { s.bell with number := s.bell.number + 1, since := 0, left := none, period := s.rd Reg.DEV_BELL_PERIOD } }

/-- The holds whose engines resume at this bell lift, before the words committed for it are judged (R54, R100, R440). -/
def bellLift (s : State) : State := forRange 17 reloadResume (bellResume s)

/-- The proctors check the bell that has ended and the engines dispatch the one that begins (R88, R92, R100); `b` is the
state in which the bell was reached, which says whose RESUME entries run. -/
def bellEngines (b s : State) : State :=
  forRange 17 (fun e s => bellDispatch e (b.resumes e) s) (resumedLessons b (forRange 17 proctor s))

/-- What a bell does once it is reached, before the lessons of a Standard Syllabus. -/
def bellWork (b : State) : State :=
  bellEngines b (bellLatch (forRange 8 immediateStep (applyCommits (bellLift b))))

/-- BELL (R37, R38, R83 to R103): TIME runs to the bell boundary. The words committed take effect and every in-word
is latched; the immediate phase steps are made; the proctors check the bell that ended; engines resume and dispatch;
the lessons of a Standard Syllabus run. PERIOD is read for the bell that begins. Nothing happens while TIME is not
clocked. -/
def execBell (s : State) : Out :=
  if !s.timeClocked then .next s
  else .next (syllabusBell (bellWork (bellReached s)))

end Sys2Proof.Machine
end

