-- ==== Sys2Proof/Machine/Power.lean ====
section
/-! DEFINITION. Supplies, power states, resets and what each keeps (R423 to R444). -/
namespace Sys2Proof.Machine

/-! ### Shared -/

/-- Is the power state ACTIVE or STANDBY? -/
def State.awake (s : State) : Bool := decide (s.rd Reg.PWR_STATUS_STATE < 2)

/-- The information that a level cause carries when it asserts again (R382). -/
def State.causeInfo (s : State) (c : Nat × Nat) : Nat :=
  if c.1 = 32 then c.2 / 256 else if c.1 = 6 then s.parity.headD 0 else 0

/-- Every source returns to CLEAR without a recovery count, and the causes still present assert again; pulses raised
by the reset itself stand (R439). -/
def sourcesRestart (s : State) : State :=
  let s := dropRegs 0x3200 0x3600 (fun _ => true) s
  let s := s.wrs [(Reg.FLT_ACK_LATE, 0), (Reg.FLT_ACK_REJ, 0)]
  let s := { s with flt := { s.flt with src := [], present := [], inflight := s.flt.inflight.filter (fun n => !levelEv n.ev) } }
  let s := safeLevel s
  let again := s.flt.cond.map (fun c => (⟨c.1, c.2, s.causeInfo c, false⟩ : Notice))
  { s with flt := { s.flt with inflight := s.flt.inflight.filter (fun n => !levelEv n.ev) ++ again } }

/-- The watchdog's count restarts from TIMEOUT; 0 is taken as 1 (R438, R444). -/
def wdogRestart (s : State) : State :=
  if s.bit Reg.RST_WDOG_EN then 
    ({ s with pwr := { s.pwr with wdog := max 1 (s.rd Reg.RST_WDOG_TIMEOUT) } } : State).arm .wdog
  else s

/-- A journal append that a reset or a supply failure cuts off (R455, R458): the requests are lost, and the append
point moves to a page boundary if the record was torn; how far its program had come is open (assumption 3). -/
def tornAppend (s : State) : State :=
  match s.jnl.queue, s.jnl.active with
  | r :: _, some b =>
    let f := s.takeFree
    let s := f.2
    let h := s.jnl.half b
    let pages := (recBytes r.data.length + 255) / 256 + 1
    let k := f.1 % (pages + 1)
    let point := if k = 0 then h.point else nextPage h.point + 256 * (k - 1)
    { s with jnl := { s.jnl.putHalf b { h with point := min point halfBytes } with queue := [], op := none } }
  | _, _ => { s with jnl := { s.jnl with queue := [], op := none } }

/-! ### The field repair map (R480, R481) -/

/-- The TDC record in force: the role of each spare, 0xFF where there is none. -/
def State.mapSpares (s : State) : List Nat :=
  match s.jnl.inForce 0x14 0 with
  | some r => (List.range 4).map (fun k => (r.data.getD k 0xFF).toNat)
  | none => [0xFF, 0xFF, 0xFF, 0xFF]

/-- The failed APLL of the APLL record in force. -/
def State.mapFailed (s : State) : Nat :=
  match s.jnl.inForce 0x14 2 with
  | some r => (r.data.getD 0 0xFF).toNat
  | none => 0xFF

/-- The failed rows of the DRAM record in force, in the order of their spare rows. -/
def State.mapRows (s : State) : List Nat :=
  match s.jnl.inForce 0x14 1 with
  | some r => (List.range (leRead r.data 0 2)).map (fun i => leRead r.data (4 + 4 * i) 4 % 2 ^ 17)
  | none => []

/-- The REPAIR registers are loaded from the map (R439). -/
def mapRegs (s : State) : State :=
  let l := s.mapSpares
  (forRange 4 (fun k s => s.wr (repairField k) (l.getD k 0xFF)) s).wr Reg.TST_REPAIR_APLL_FAILED s.mapFailed

/-- REPAIR_MAP_APPLY for the TDC (R481): the listed spares wait for valid tables, or take their roles where those
are valid already. -/
def mapTdcApply (s : State) : State :=
  let l := s.mapSpares
  mapTakes ({ s with mapTdc := (List.range 4).filterMap (fun k => let c := l.getD k 0xFF; if c < 48 then some (k, c) else none) }.wr
    Reg.TST_REPAIR_STATUS_MAP_SKIP 0)

/-- REPAIR_MAP_APPLY for the APLLs (R481). -/
def mapApllApply (s : State) : State :=
  let k := s.mapFailed
  if k < 8 then
    let s := { s with mapApll := some k }.wrs
      [(Reg.APLL_CFG_EN k, 0), (Reg.APLL_COVER_APLL 8, k), (Reg.APLL_COVER_RESCUE 8, 0), (Reg.TST_REPAIR_STATUS_APLL_APPLIED, 1)]
    mapOutputs k (s.putApll 8 { s.apll 8 with cover := k })
  else { s with mapApll := none }.wr Reg.TST_REPAIR_STATUS_APLL_APPLIED 0

/-- The repair map after a reset that returns TDC and APLL configuration to defaults (R439, R481). -/
def mapApplyAll (s : State) : State :=
  let s := { s with dram := { s.dram with replaced := s.mapRows } }
  mapApllApply (mapTdcApply (mapRegs s))

/-! ### POR, PIN and DOZE (R426, R427, R437, R439) -/

/-- The lock of the block that register address `a` belongs to (R404). -/
def State.lockSet (s : State) (a : Nat) : Bool :=
  if 0x3000 ≤ a ∧ a < 0x4000 then s.bit Reg.FLT_CTRL_LOCK
  else if 0x4000 ≤ a ∧ a < 0x5000 then s.bit Reg.HOST_CFG_LOCK
  else if 0x5000 ≤ a ∧ a < 0x6000 then s.bit Reg.SEC_CTRL_LOCK
  else false

/-- What a PIN reset keeps of the registers (R439): PWR and RST, the debug gate, locks, WO fields and the LCK fields
they protect. -/
def State.pinKeeps (s : State) (a : Nat) (f : Fld) : Bool :=
  decide (0x1000 ≤ a ∧ a < 0x3000) || decide (f.acc = .wo) || (decide (f.acc = .lck) && s.lockSet a) ||
  decide (f = Reg.SEC_STATUS_GATE ∨ f = Reg.SEC_STATUS_ERASED)

/-- What DOZE keeps of them besides (R433, R439): the wake detector, the twin pairing, the straps, and E0's link. -/
def State.dozeKeeps (s : State) (a : Nat) (f : Fld) : Bool :=
  s.pinKeeps a f || decide (0x341E0 ≤ a ∧ a < 0x34280) || decide (a = 0x34000 ∨ a = 0x34004) ||
  [Reg.TWIN_STATUS_PAIR_ID, Reg.TWIN_STATUS_SOLO_STRAP, Reg.TWIN_EPOCH_OWN, Reg.TWIN_EPOCH_TWIN, Reg.TWIN_ASYM_VALUE,
    Reg.TWIN_OFFSET_VALUE, Reg.TWIN_CFG_ACCEPT_RESET, Reg.HOST_STATUS_I2C_ADDR].contains f

/-- The register fields that `keep` picks. -/
def State.keptRegs (s : State) (keep : Nat → Fld → Bool) : Tab Nat :=
  tabClear (fun k => !(fieldsAt (k / 32)).any (fun f => decide (f.lo = k % 32) && keep (k / 32) f)) s.regs

/-- The straps are sampled (R354, R415): with PAIR_ID1 high the device runs in role SOLO. -/
def strapsSample (x : Straps) (s : State) : State :=
  s.wrs [(Reg.TWIN_STATUS_PAIR_ID, x.pair0.toNat), (Reg.TWIN_STATUS_SOLO_STRAP, x.pair1.toNat),
    (Reg.TWIN_STATUS_ROLE, if x.pair1 then roleSolo else roleOff), (Reg.HOST_STATUS_I2C_ADDR, 2 * x.i2c1.toNat + x.i2c0.toNat)]

/-- TEST_EN is sampled (R466, R468). -/
def testEnSample (x : Straps) (s : State) : State :=
  if x.testEn ∧ s.gateClosed ∧ s.fuses.debugDisable = 0 then gateErase s else s

/-- What no reset touches: the queue of commands, the dies, the fuses, the lifetime counts, the free values used, host
memory and the TAP (R439, R483). -/
def State.dies (s : State) : State :=
  { State.reset with
    pending := s.pending, up := s.up, timers := s.timers, free := s.free, nor := s.nor, fuses := s.fuses, jtag := s.jtag, hostMem := s.hostMem, wo := s.wo
    jnl := { s.jnl with shutting := false }
    flt := { life := s.flt.life, dirty := s.flt.dirty } }

/-- A PIN reset is made (R437, R439). -/
def pinAssert (rail : Nat) (s : State) : State :=
  let s := tornAppend s
  let keys := s.keys
  let unpowered := s.clk.unpowered
  let flag := s.supplyFlag
  let cond := s.flt.cond.filter (fun c => [3, 9, 14].contains c.1)
  let regs := s.keptRegs s.pinKeeps
  let t := { s.dies with regs := regs, keys := keys, supplyFlag := flag, clk := { unpowered := unpowered } }
  let t := { t with flt := { t.flt with cond := cond } }
  let t := (t.wrs [(Reg.RST_CAUSE_KIND, 1), (Reg.RST_CAUSE_RAIL, rail), (Reg.RST_CAUSE_BUSY, 0), (Reg.PWR_STATUS_STATE, 0),
    (Reg.PWR_STATUS_BUSY, 0), (Reg.PWR_CMD_GO, 0)]).bumpSat Reg.RST_COUNT_PIN
  sourcesRestart (mapApplyAll (newNonce t))

/-- A PIN reset is released (R427, R437, R438): the straps and TEST_EN are sampled, the host interfaces answer, and the
watchdog restarts. -/
def pinRelease (x : Straps) (s : State) : State :=
  wdogRestart (testEnSample x (strapsSample x { s with host := { s.host with ready := true } }))

/-- POR is asserted (R431, R437, R439): fuses and NOR contents alone stay. -/
def porAssert (rail : Nat) (s : State) : State :=
  let s := tornAppend s
  let t := s.dies
  let t := { t with jnl := { t.jnl with porScan := true }, flt := {}, wo := [] }
  newNonce (t.wr Reg.RST_CAUSE_RAIL rail)

/-- POR (R426, R437): all rails have been good for 1 ms, and the hold is released. -/
def execPor (x : PorIn) (s : State) : Out :=
  let held := s.pwr.porHold
  let s := if held then { s with pwr := { s.pwr with porHold := false } } else porAssert 0xF s
  .next (testEnSample x.straps (strapsSample x.straps (s.wrb Reg.PWR_STATUS_SEQ_ERR x.seqErr)))

/-- POR_INIT_COMPLETE (R427): fuses are sensed, the repair map, the factory data and the lifetime counts are loaded;
the host interfaces answer. -/
def execPorInitComplete (s : State) : Out :=
  .next (if s.host.ready ∨ s.pwr.porHold ∨ s.pwr.vddcHold then s
  else mapApplyAll (lifeLoad { s with host := { s.host with ready := true } }))

/-- PIN_RESET (R437): a low pulse of RESET_N, as seen at its rise. One under 100 ns is ignored; one under 1 µs either
is ignored or makes a complete reset. -/
def execPinReset (x : PinIn) (s : State) : Out :=
  .next (if x.ns < 100 ∨ (x.ns < 1000 ∧ !x.taken) ∨ s.pwr.porHold then s
  else
    let hold := s.pwr.vddcHold
    let s := pinAssert 0xF s
    if hold then { s with pwr := { s.pwr with vddcHold := true } } else pinRelease x.straps s)

/-! ### SOFT, WDOG and TWIN (R437 to R439) -/

/-- The spare and table fields of the TDC block that a SOFT-class reset keeps: the tables and DLLs (R439). -/
def tdcKept (f : Fld) : Bool :=
  (List.range 52).any (fun ch => [Reg.TDC_CAL_STATUS_DLL_LOCK ch, Reg.TDC_CAL_STATUS_TABLE_VALID ch, Reg.TDC_CAL_STATUS_CAL_BUSY ch,
    Reg.TDC_CAL_STATUS_CAL_FAIL ch, Reg.TDC_CAL_STATUS_T_CAL ch].contains f)

/-- Every out-word reads 0 and takes effect as 0, except the DCO words, whose storage reads 0 without effect (R439). -/
def outWordsClear (s : State) : State :=
  let l := s.out.map (·.1)
  let s := { s with bell := { s.bell with commits := [] } }
  let s := l.foldl (fun s i => if i < 0x208 then s else applyWord i 0 s) s
  { s with out := [] }

/-- A reset of kind SOFT, WDOG or TWIN (R439). -/
def softReset (kind : Nat) (s : State) : State :=
  let s := s.wrs [(Reg.RST_CAUSE_KIND, kind), (Reg.RST_CAUSE_BUSY, 1), (Reg.PWR_STATUS_STATE, 0), (Reg.PWR_STATUS_BUSY, 0), (Reg.PWR_CMD_GO, 0)]
  let s := s.bumpSat (if kind = 2 then Reg.RST_COUNT_SOFT else if kind = 3 then Reg.RST_COUNT_WDOG else Reg.RST_COUNT_TWIN)
  let s := { s with pwr := { s.pwr with target := none, final := false }, jnl := { s.jnl with shutting := false } }
  -- sources return to CLEAR first
  let s := { s with flt := { s.flt with src := [], present := [], inflight := [] } }
  let s := dropRegs 0x3200 0x3600 (fun _ => true) s
  -- out-words, engines, image
  let s := outWordsClear s
  let s := { s with
    eng := [], words := [], image := {}, subst := {}
    syl := { paths := (s.syl.paths.map (fun e => (e.1, ({ model := e.2.model } : SylPath)))).filter (fun e => decide (e.2 ≠ {})) } }
  let s := dropRegs 0x7000 0x7880 (fun _ => true) s
  let s := dropRegs 0x80 0x84 (fun _ => true) (dropRegs 0x90 0x98 (fun _ => true) (s.wr Reg.DEV_BELL_STATUS_PERIOD_REJ 0))
  let s := (List.range 16).foldl (fun s n => (s.level 20 n false).level 21 n false) s
  -- ports
  let s := forRange 4 (fun n s => rxclkOff n (linkDrop n s)) s
  let s := dropRegs 0x34000 0x39000 (fun f => !decide (0x341E0 ≤ f.addr ∧ f.addr < 0x34280)) s
  let s := { s with ports := [] }
  -- event record
  let s := dropRegs 0x3E000 0x3E180 (fun _ => true) s
  let s := { s with rings := [], dram := { replaced := s.mapRows } }
  -- TDC configuration
  let s := dropRegs 0x28000 0x28D00 (fun f => !tdcKept f) s
  let s := forRange 52 (fun ch s => s.putChan ch { s.chan ch with added := 0 }) s
  let s := { s with roles := [], grps := [] }
  -- the rest
  let s := dropRegs 0xA0 0xA8 (fun _ => true) s
  let s := dropRegs 0x500C 0x5010 (fun _ => true) s
  let s := newNonce s
  let left (a : Nat) : Bool := decide (a < 0x28000 ∨ (0x28D00 ≤ a ∧ a < 0x34000) ∨ (0x39000 ≤ a ∧ a < 0x3E000) ∨ 0x3F000 ≤ a)
  let s := { s with parity := s.parity.filter left, host := { s.host with unlisted := s.host.unlisted.filter left } }
  let s := s.level 6 noInst (!s.parity.isEmpty)
  wdogRestart (sourcesRestart (outErrs (mapTdcApply (mapRegs s))))

/-- SOFT_RESET (R437, R444): ignored while a reset of SOFT class is in progress. -/
def doSoftReset (s : State) : Out := .next (if s.bit Reg.RST_CAUSE_BUSY then s else softReset 2 s)

/-- WDOG_EXPIRY (R438): TIMEOUT ms have passed since the count's start; the watchdog does not count in DOZE and OFF, nor while a reset of SOFT class is in progress. -/
def execWdogExpiry (s : State) : Out :=
  .next (if s.bit Reg.RST_WDOG_EN ∧ s.awake ∧ !s.bit Reg.RST_CAUSE_BUSY ∧ s.ran .wdog (1000000 * s.pwr.wdog) then
    softReset 3 s
  else s)

/-- WDOG_KICK (R438). -/
def doWdogKick (s : State) : Out := .next (wdogRestart s)

/-- WDOG_ENABLE (R438): a write of RST.WDOG; a change of EN from 0 to 1 starts the count, and a new TIMEOUT applies from
the next restart. -/
def doWdogEnable (data : BitVec 32) (s : State) : Out :=
  let was := s.bit Reg.RST_WDOG_EN
  let s := s.wrs [(Reg.RST_WDOG_EN, data.toNat / 2 ^ 31), (Reg.RST_WDOG_TIMEOUT, data.toNat)]
  .next (if was then s else wdogRestart s)

/-- RESET_COMPLETE (R293, R438): the reset has completed, the zeroing of the DRAM included, once the system PLL has locked. -/
def execResetComplete (s : State) : Out :=
  .next (if s.bit Reg.RST_CAUSE_BUSY then
    let s := s.wr Reg.RST_CAUSE_BUSY 0
    if s.sysLocked then s.wr Reg.EVR_STATUS_READY 1 else s
  else s)

/-- HEARTBEAT_RECEIVE (R357, R358, R371 to R375): a bad CRC is counted. A RESET_REQ is accepted from the PRIMARY with
the receiver's own epoch, by a device that is not PRIMARY. -/
def execHeartbeatReceive (lane : Fin 2) (crcOk : Bool) (h : Heartbeat) (s : State) : Out :=
  if !s.bit Reg.TWIN_CFG_EN then .next s
  else if !crcOk then .next (s.bump Reg.TWIN_COUNT2_CRC_ERR)
  else
    let accept := h.resetReq && s.bit Reg.TWIN_CFG_ACCEPT_RESET && decide (h.role = rolePrimary ∧
      h.epoch.toNat = s.rd Reg.TWIN_EPOCH_OWN ∧ s.twinRole ≠ rolePrimary) && !s.bit Reg.RST_CAUSE_BUSY
    let s := heartbeat lane h s
    .next (if accept then softReset 4 s else s)

/-! ### ISLAND resets and island power (R432, R440) -/

/-- ISLAND_GO (R440, R444): ignored for an island that the table does not name. -/
def doIslandGo (i : Fin 32) (s : State) : Out :=
  let s := s.wr Reg.RST_CMD_ISLAND i
  .next (if resetIsland i then islandReset i s else s)

/-- The register blocks of the islands whose reset R440 describes in general only: HOST, TIME, TDC, SYNTH and SVC. -/
def otherBlocks (i : Nat) : List (Nat × Nat) :=
  if i = 1 then [(0x4000, 0x5000), (0x8000, 0x9000)]
  else if i = 21 then [(0x80, 0x88), (0x20000, 0x24000), (0x30000, 0x34000)]
  else if i = 23 then [(0x28000, 0x28D00)]
  else if i = 24 then [(0x24000, 0x26800)]
  else if i = 31 then [(0x3000, 0x4000), (0x5000, 0x7000), (0x3F000, 0x40000)]
  else []

/-- ISLAND_POWER_FAULT (R99, R432): declared only while VDDC is above its warning threshold. The island is held in
reset; an engine's substitution is requested. -/
def execIslandPowerFault (i : Fin 32) (s : State) : Out :=
  .next (if i.val = 0 ∨ s.railWarn 0 ∨ maskBit s.clk.unpowered i then s
  else
    let s := ({ s with clk := { s.clk with unpowered := maskSet s.clk.unpowered i } }.wr Reg.PWR_ISL_FAULT_FAULT
      (maskSet s.clk.unpowered i)).level 9 i true
    if 3 ≤ i.val ∧ i.val ≤ 18 then
      let n := i.val - 3
      let s := islandReset i s
      let s := s.putEngine n { (s.engine n).halted with reload := none }
      substRequest n .power s
    else if resetIsland i then islandReset i s
    else (otherBlocks i).foldl (fun s b => dropRegs b.1 b.2 statusField s) (s.wr Reg.RST_CAUSE_ISLAND_LAST i))

/-- ISLAND_POWER_RECOVERY (R432, R440): the supply has been good for 50 µs, and the island leaves reset. A substituted
engine stays idle until RETURN. -/
def execIslandPowerRecovery (i : Fin 32) (s : State) : Out :=
  .next (if !maskBit s.clk.unpowered i then s
  else
    let s := ({ s with clk := { s.clk with unpowered := maskClr s.clk.unpowered i } }.wr Reg.PWR_ISL_FAULT_FAULT
      (maskClr s.clk.unpowered i)).level 9 i false
    if 3 ≤ i.val ∧ i.val ≤ 18 then
      let n := i.val - 3
      if s.substituted n then s else engReload n s
    else if i.val = 25 then evrIslandReset s
    else s)

/-! ### Supply monitors (R428 to R431) -/

/-- Are the monitors of rail instance `r` ignored: VDDA18, VDDM and VDDF in DOZE and OFF (R435)? -/
def State.monitorOff (s : State) (r : Nat) : Bool := !s.awake && decide (2 ≤ r ∧ r ≠ 6)

/-- SUPPLY_WARNING (R429, R430). -/
def execSupplyWarning (r : Fin 9) (s : State) : Out :=
  .next (if s.monitorOff r ∨ s.railWarn r then s
  else
    let s := (s.wr Reg.PWR_RAIL_STATUS_WARN (maskSet (s.rd Reg.PWR_RAIL_STATUS_WARN) r)).level 3 r true
    if r.val = 0 ∨ r.val = 3 then { s with supplyFlag := true } else s)

/-- SUPPLY_RECOVERY (R429, R430, R442, R454): recovery is declared `us` after the start of the warning. A compaction
that was ordered meanwhile starts once every warning has ended. -/
def execSupplyRecovery (r : Fin 9) (us : Nat) (s : State) : Out :=
  .next (if !s.railWarn r then s
  else
    let s := ((s.wrs [(Reg.PWR_RAIL_STATUS_WARN, maskClr (s.rd Reg.PWR_RAIL_STATUS_WARN) r), (Reg.PWR_RAIL_LAST_RAIL, r),
      (Reg.PWR_RAIL_LAST_US, min us (2 ^ 24 - 1))]).bump Reg.PWR_BROWN_COUNT_COUNT).level 3 r false
    let s := if r.val = 0 ∨ r.val = 3 then s.arm .supply else s
    if s.jnl.ordered ∧ !s.deferring then compactStart s else s)

/-- SUPPLY_FLAG_END (R430): 10 µs after the recovery, stamps stop carrying SUPPLY. -/
def execSupplyFlagEnd (s : State) : Out := 
  .next (if s.railWarn 0 ∨ s.railWarn 3 ∨ !s.ran .supply 10000 then s else { s with supplyFlag := false })

/-- Every channel loses its DLL's lock (R258, R431); a measurement in progress fails. -/
def dllsLose (s : State) : State :=
  let s := forRange 52 (fun ch s =>
    if s.bit (Reg.TDC_CAL_STATUS_DLL_LOCK ch) then
      let s := chanFault ch ((s.putChan ch { s.chan ch with lost := true }).wr (Reg.TDC_CAL_STATUS_DLL_LOCK ch) 0)
      if s.bit (Reg.TDC_CAL_STATUS_CAL_BUSY ch) then calFail ch s else s
    else s) s
  forRange 52 chanFails s

/-- The NOR's supply falls below its threshold (R431, R458): the append in progress is torn and answered FAIL. -/
def norRailLost (s : State) : State :=
  let busy := !s.jnl.queue.isEmpty || s.jnl.op.isSome || s.jnl.compacting
  let s := match s.jnl.queue with
    | q :: rest =>
      let s := appendAnswer q.who jFail (tornAppend s)
      { s with jnl := { s.jnl with queue := rest } }
    | [] => { s with jnl := { s.jnl with op := none } }
  if busy then s.raise 12 noInst else s

/-- Every APLL loses lock, one that holds its loop too (R207, R431). -/
def apllsLose (s : State) : State :=
  forRange 9 (fun j s =>
    let k := 8 - j
    apllLose k (if s.rd (Reg.APLL_STATUS_STATE k) = 6 then s.wr (Reg.APLL_STATUS_STATE k) 4 else s)) s

/-- What rail instance `r` supplies fails (R431). -/
def railLost (r : Nat) (s : State) : State :=
  match r with
  | 0 => let s := pinAssert 0 s; { s with pwr := { s.pwr with vddcHold := true } }
  | 1 => let s := porAssert 1 s; { s with pwr := { s.pwr with porHold := true } }
  | 2 => forRange 16 (fun n s => s.putSlot n { s.slot n with active := false }) s
  | 3 => dllsLose s
  | 4 => apllsLose s
  | 5 => xoGone s
  | 6 => (List.range 5).foldl (fun s k => islandReset (26 + k) s) s
  | 7 => islandReset 25 ((zeroDram s).wr Reg.EVR_STATUS_READY 0)
  | _ => norRailLost s

/-- RAIL_RESET_CROSSING (R431): the reset class of the instance follows. -/
def execRailResetCrossing (r : Fin 9) (s : State) : Out :=
  if !maskBit (s.rd Reg.PWR_RAIL_STATUS_GOOD) r then .next s
  else
    let s := s.wr Reg.PWR_RAIL_STATUS_GOOD (maskClr (s.rd Reg.PWR_RAIL_STATUS_GOOD) r)
    .next (if s.monitorOff r then s else railLost r s)

/-- RAIL_GOOD (R426, R431): the instance is above its reset threshold again. The DLLs relock and their tables are
measured again; the other instances recover through their own rows. -/
def execRailGood (r : Fin 9) (s : State) : Out :=
  if maskBit (s.rd Reg.PWR_RAIL_STATUS_GOOD) r then .next s
  else
    let s := s.wr Reg.PWR_RAIL_STATUS_GOOD (maskSet (s.rd Reg.PWR_RAIL_STATUS_GOOD) r)
    .next (if r.val = 3 ∧ s.clk.tb = .locked ∧ s.awake then
      forRange 52 (fun ch s =>
        if (s.chan ch).lost then
          calStart ch (chanFault ch ((s.putChan ch { s.chan ch with lost := false }).wr (Reg.TDC_CAL_STATUS_DLL_LOCK ch) 1))
        else s) s
    else s)

/-- VDDC_RESET_RELEASE (R437): the reset held by the VDDC crossing is released. -/
def execVddcResetRelease (straps : Straps) (s : State) : Out :=
  .next (if s.pwr.vddcHold then pinRelease straps { s with pwr := { s.pwr with vddcHold := false } } else s)

/-! ### Power states (R433 to R436) -/

/-- The reason to refuse a move to `t`; 0 where it is accepted (R434). -/
def State.powerRefuse (s : State) (t : Nat) : Nat :=
  let now := s.rd Reg.PWR_STATUS_STATE
  let good := s.rd Reg.PWR_RAIL_STATUS_GOOD
  if s.bit Reg.PWR_STATUS_BUSY ∨ s.bit Reg.RST_CAUSE_BUSY then 1
  else if !(decide (t = now) || decide (now = 0) || decide (now = 1) || (decide (now = 2) && decide (t = 0 ∨ t = 3))) then 2
  else if t ≠ 0 ∧ s.twinRole = rolePrimary then 3
  else if t = 0 ∧ now = 2 ∧ [2, 3, 4, 5, 7, 8].any (fun r => !maskBit good r) then 4
  else 0

/-- Each enabled APLL applies its active plan again (R198, R203, R436). -/
def apllsResume (s : State) : State :=
  forRange 9 (fun k s => if s.bit (Reg.APLL_CFG_EN k) ∧ (s.apll k).applied then acquire k true s else s) s

/-- POWER_STATE_GO (R434, R436): a command to the current state changes nothing. A move to DOZE or OFF writes a
lifetime record if a count has changed, and then defers journal writes (R454). -/
def doPowerStateGo (target : Fin 4) (s : State) : Out :=
  let s := s.wr Reg.PWR_CMD_TARGET target
  let e := s.powerRefuse target
  let s := (s.wr Reg.PWR_STATUS_REJ_REASON e).wr Reg.PWR_CMD_GO 0
  if e ≠ 0 ∨ target.val = s.rd Reg.PWR_STATUS_STATE then .next s
  else
    let s := { s.wrs [(Reg.PWR_CMD_GO, 1), (Reg.PWR_STATUS_BUSY, 1)] with pwr := { s.pwr with target := some target.val, final := false } }
    .next (if 2 ≤ target.val then
      let ask := s.flt.dirty && !s.deferring
      let s := if ask then lifeRecord s else s
      { s with pwr := { s.pwr with final := ask || !s.flt.dirty }, jnl := { s.jnl with shutting := true } }
    else if target.val = 0 ∧ s.rd Reg.PWR_STATUS_STATE = 1 then apllsResume s
    else s)

/-- Outputs, APLLs and the twin on entry to STANDBY (R436): a role other than SOLO becomes OFF. -/
def standbyEnter (s : State) : State :=
  let s := forRange 9 (fun k s =>
    if s.bit (Reg.APLL_CFG_EN k) then
      (s.putApll k { s.apll k with change := none, aligned := false }).wrs
        [(Reg.APLL_STATUS_LOCK k, 0), (Reg.APLL_STATUS_STATE k, 0), (Reg.APLL_CMD_APPLY k, 0), (Reg.APLL_CMD_FULL k, 0)]
    else s) s
  if s.twinRole = roleSolo then s else setRole roleOff (s.wr Reg.TWIN_STATUS_DEMOTE_PENDING 0)

/-- What entering DOZE or OFF leaves (R433, R436, R439): the islands return with the values of a PIN reset. -/
def dozeEnter (off : Bool) (s : State) : State :=
  let p := s.port 0
  let t := { s.dies with
    regs := s.keptRegs s.dozeKeeps, keys := s.keys, supplyFlag := s.supplyFlag, clk := { unpowered := s.clk.unpowered }
    ports := if off then [] else tabSet {} 0 { mode := p.mode, fec := p.fec, an := p.an } []
    host := { ready := true }, commons := [] }
  let t := { t with flt := { t.flt with cond := s.flt.cond.filter (fun c => [3, 9, 14, 102].contains c.1) } }
  if off then t.wr (Reg.ETH_STATUS_LINK 0) 0 else t

/-- The exit from DOZE (R436, R438, R439). -/
def dozeExit (s : State) : State :=
  let s := mapApplyAll (newNonce s)
  let s := if s.bit Reg.TWIN_STATUS_SOLO_STRAP then s.wr Reg.TWIN_STATUS_ROLE roleSolo else s
  wdogRestart (sourcesRestart s)

/-- The device arrives in power state `t` (R434 to R436). -/
def powerArrive (t : Nat) (s : State) : State :=
  let now := s.rd Reg.PWR_STATUS_STATE
  let s := if t = 1 then standbyEnter s else if 2 ≤ t then dozeEnter (decide (t = 3)) s else s
  let s := { s.wrs [(Reg.PWR_STATUS_STATE, t), (Reg.PWR_STATUS_BUSY, 0), (Reg.PWR_CMD_GO, 0)] with
    pwr := { s.pwr with target := none, final := false }, jnl := { s.jnl with shutting := false } }
  if t = 0 ∧ now = 2 then dozeExit s
  else if t = 0 ∧ s.bit Reg.TWIN_CFG_EN ∧ s.twinRole = roleOff then
    twinLevels { (setRole roleSeeking s).arm .seeking with twin := { s.twin with heard := false, role := 0, markers := 0, ppsSeen := false, delayWas := none } }
  else s

/-- The final lifetime record before DOZE or OFF (R436, R393): written though journal writes are deferred. -/
def powerRecord (s : State) : State :=
  let s := lifeRecord { s with jnl := { s.jnl with shutting := false }, pwr := { s.pwr with final := true } }
  { s with jnl := { s.jnl with shutting := true } }

/-- POWER_TRANSITION_COMPLETE (R433, R436): STATE shows the target. A move to DOZE or OFF waits for journal writes in
progress and, after a supply warning, for the lifetime record. -/
def execPowerTransitionComplete (s : State) : Out :=
  match s.pwr.target with
  | none => .next s
  | some t =>
    if 2 ≤ t ∧ (s.anyWarn ∨ !s.jnl.queue.isEmpty) then .next s
    else if 2 ≤ t ∧ !s.pwr.final ∧ s.flt.dirty then .next (powerRecord s)
    else .next (powerArrive t s)

end Sys2Proof.Machine
end

