-- ==== Sys2Proof/Machine/Triggers.lean ====
section
/-! DEFINITION. Time triggers, GPIO pins and the UART receivers (R236 to R241). -/
namespace Sys2Proof.Machine

/-! ### Time triggers (R236 to R239) -/

/-- The latency L of trigger `g`'s path in 2^-16 ns, times 5: 3.2 ns for an output, a fixed value of the part
for the other paths (R236). -/
def State.trigLat5 (s : State) (g : Nat) : Int :=
  if s.rd (Reg.TG_CFG_ACTION g) = 0 then 1048576 else 5 * ((Config.trigLatency (s.rd (Reg.TG_CFG_ACTION g))).toNat : Int)

/-- `TGn.STATUS.CFG_ERR` (R239). -/
def State.trigCfgErr (s : State) (g : Nat) : Bool :=
  let a := s.rd (Reg.TG_CFG_ACTION g)
  let t := s.rd (Reg.TG_CFG_TARGET g)
  let per := s.rd (Reg.TG_PERIOD_NS g)
  let par := s.rd (Reg.TG_PARAM_NS g)
  decide ((a = 0 ∧ 31 < t) ∨ (a = 1 ∧ 7 < t) ∨ (a = 3 ∧ 47 < t)) || decide (1 ≤ per ∧ per ≤ 15) ||
  (decide (a ≠ 2) && decide (par < 4 ∨ (per ≠ 0 ∧ per < par + 4)))

/-- Does a parity mismatch stand in trigger `g`, which then cannot be armed (R405)? -/
def State.trigParity (s : State) (g : Nat) : Bool := s.parityIn (0x30100 + 0x18 * g) 0x18

/-- TRIGGER_ARM (R239): the LO write commits T, and arms an enabled trigger without CFG_ERR. -/
def doTriggerArm (g : Fin 32) (lo : BitVec 32) (s : State) : Out :=
  let s := s.wr (Reg.TG_TIME_LO_T g) lo.toNat
  let t := s.pair (Reg.TG_TIME_HI_T g) (Reg.TG_TIME_LO_T g)
  let s := s.putTrig g { s.trig g with t := t }
  .next (if s.bit (Reg.TG_CFG_EN g) ∧ !s.trigCfgErr g ∧ !s.trigParity g then
    (s.putTrig g { s.trig g with done := 0 }).wr (Reg.TG_STATUS_ARMED g) 1
  else s)

/-- TRIGGER_DISARM (R238, R239, R248): EN = 0 disarms at once; the gating of a queue ends with the last trigger
that names it. -/
def doTriggerDisarm (g : Fin 32) (s : State) : Out :=
  let s := s.wrs [(Reg.TG_CFG_EN g, 0), (Reg.TG_STATUS_ARMED g, 0)]
  .next (forRange 4 (fun n s =>
    s.putPort n { s.port n with releases := (s.port n).releases.filter (fun q => s.trigGated n q) }) s)

/-- Has queue `q` of port `n` nothing to send (R238)? -/
def State.queueEmpty (s : State) (n q : Nat) : Bool :=
  if s.streamed n q then (s.txq n q).stream.isNone
  else decide (s.rd (Reg.ETH_TXQ_PTR_HEAD n q) = s.rd (Reg.ETH_TXQ_PTR_TAIL n q)) || !s.bit (Reg.ETH_TXQ_CFG_EN n q)

/-- A missed firing is counted (R237, R239). -/
def trigMiss (g k : Nat) (s : State) : State :=
  if k = 0 then s else (s.bump (Reg.TG_STATUS_MISSED g) k).raise 31 g

/-- The instant at which an event due at WT `w` falls: on XO_IN, the first XO tick at or after it (R236). -/
def State.trigPlace (s : State) (g w : Nat) : Nat :=
  if s.clk.time = .xo then
    let n := s.rd (Reg.TG_CFG_TS g)
    let v := (s.tscale n).val
    let inc := max 1 (s.perTick (s.tsInc n))
    let d := sdiff w (wtOf v) * 2 ^ 48 - (v % 2 ^ 48 : Nat)
    wtOf (tsAdd v (max 0 (-((-d) / inc)) * inc))
  else w

/-- A pulse or window of trigger `g` begins at WT `w` for PARAM ns (R236). -/
def trigSpan (g w : Nat) (s : State) : State :=
  let len := s.rd (Reg.TG_PARAM_NS g) * 65536
  let w := s.trigPlace g w
  s.putTrig g { s.trig g with active := true, start := w % 2 ^ 64, stop := (w + len) % 2 ^ 64, order := s.now }

/-- act of R237: trigger `g` acts at WT `w` (R236, R238, R239). -/
def trigAct (g w : Nat) (late : Bool) (s : State) : State :=
  let target := s.rd (Reg.TG_CFG_TARGET g)
  let fired := fun (s : State) =>
    (s.bump (Reg.TG_STATUS_FIRED g)).wrs [(Reg.TG_STATUS_LATE g, late.toNat), (Reg.TG_STATUS_COARSE g, s.portCoarse.toNat)]
  match s.rd (Reg.TG_CFG_ACTION g) with
  | 0 => if s.bit (Reg.OUT_CFG_MODE target) ∧ s.srcAct target < 2 then fired (trigSpan g w s) else trigMiss g 1 s
  | 2 =>
    let n := target / 16
    let q := target % 8
    if s.queueEmpty n q then trigMiss g 1 (s.wr (Reg.TG_STATUS_EMPTY g) 1)
    else fired ((s.putPort n { s.port n with releases := (s.port n).releases ++ [q] }).wr (Reg.TG_STATUS_EMPTY g) 0)
  | _ => fired (trigSpan g w s)

/-- TRIGGER_FIRE (R237): the present tick, from `a` to `b`, reaches T − L of an armed trigger. -/
def execTriggerFire (g : Fin 32) (s : State) : Out :=
  if !s.bit (Reg.TG_STATUS_ARMED g) ∨ !s.timeClocked then .next s
  else
    let n := s.rd (Reg.TG_CFG_TS g)
    let v := (s.tscale n).val
    let a := wtOf v
    let b := wtOf (tsAdd v (s.perTick (s.tsInc n)))
    let x := s.trig g
    let l := s.trigLat5 g
    let d := 5 * sdiff b x.t + l
    if d ≤ 0 then .next s
    else
      let s :=
        if l ≤ 5 * sdiff x.t a then trigAct g x.t false s
        else if s.rd (Reg.TG_CFG_LATE g) = 0 then trigAct g (b + (l / 5).toNat) true s
        else trigMiss g 1 s
      let per := s.rd (Reg.TG_PERIOD_NS g) * 65536
      let rep := s.rd (Reg.TG_CFG_REPEAT g)
      let x := s.trig g
      let x := if per ≠ 0 ∧ rep ≠ 0 then { x with done := x.done + 1 } else x
      let s := s.putTrig g x
      if per = 0 ∨ (rep ≠ 0 ∧ x.done = rep) then .next (s.wr (Reg.TG_STATUS_ARMED g) 0)
      else
        let k := max 1 ((d + 5 * per - 1) / (5 * per)).toNat
        .next (trigMiss g (k - 1) (s.putTrig g { x with t := (x.t + k * per) % 2 ^ 64 }))

/-- TRIGGER_PULSE_END (R236, R240): the pulse or window of trigger `g` has lasted its PARAM ns and ends. -/
def execTriggerPulseEnd (g : Fin 32) (s : State) : Out :=
  let x := s.trig g
  .next (if x.active ∧ sdiff x.stop x.start ≤ 131072 * ((s.now - x.order : Nat) : Int) then s.putTrig g { x with active := false } else s)

/-! ### Pins (R215, R236, R240) -/

/-- The level of GPIO `i`: none while it is high impedance, else that of the pulse that began latest, of two in one
tick the lower trigger's, else IDLE (R240). -/
def State.gpioLevel (s : State) (i : Nat) : Option Bool :=
  if !maskBit (s.rd Reg.DEV_GPIO_CFG_OE) i ∨ 2 ≤ s.rd Reg.PWR_STATUS_STATE then none
  else
    let on := (List.range 32).filter (fun g =>
      (s.trig g).active && decide (s.rd (Reg.TG_CFG_ACTION g) = 1 ∧ s.rd (Reg.TG_CFG_TARGET g) = i))
    match on with
    | [] => some (maskBit (s.rd Reg.DEV_GPIO_CFG_IDLE) i)
    | g :: rest =>
      let best := rest.foldl (fun b g => if (s.trig b).order < (s.trig g).order then g else b) g
      some (!s.bit (Reg.TG_CFG_POL best))

/-! ### UARTs (R241, R249) -/

/-- `DEV.UART_STATUS.CFG_ERRu` (R249). -/
def State.uartCfgErr (s : State) (u : Nat) : Bool :=
  decide (s.rd (Reg.DEV_UART_CFG_BAUD u) < 1200 ∨ 921600 < s.rd (Reg.DEV_UART_CFG_BAUD u))

/-- The commons word of the byte count of UART `u` (R241). -/
def uartCountWord (u : Nat) : Nat := (0x1FF000 + 0x800 * u) / 8

/-- UART_ENABLE (R241, R249): a write of UARTu_CFG; setting EN zeroes the byte count. -/
def doUartEnable (u : Fin 2) (data : BitVec 32) (s : State) : Out :=
  let v := data.toNat
  let rise := data.msb && !s.bit (Reg.DEV_UART_CFG_EN u)
  let s := s.wrs [(Reg.DEV_UART_CFG_EN u, v / 2 ^ 31), (Reg.DEV_UART_CFG_PARITY u, v / 2 ^ 29), (Reg.DEV_UART_CFG_TS u, v / 2 ^ 24),
    (Reg.DEV_UART_CFG_BAUD u, v)]
  .next (if rise then { s with commons := tabSet 0 (uartCountWord u) 0 s.commons } else s)

/-- Has a byte received with the bit `bit` in the parity position a parity error (R241, R249)? -/
def State.parityError (s : State) (u : Nat) (data : BitVec 8) (bit : Bool) : Bool :=
  let odd := decide ((((List.range 8).filter (fun i => data.getLsbD i)).length + bit.toNat) % 2 = 1)
  match s.rd (Reg.DEV_UART_CFG_PARITY u) with
  | 1 => odd
  | 2 => !odd
  | _ => false

/-- UART_BYTE (R241): the byte with its start-bit stamp goes to its place in the ring, then the count increments. -/
def execUartByte (u : Fin 2) (x : UartIn) (s : State) : Out :=
  if !s.bit (Reg.DEV_UART_CFG_EN u) ∨ s.uartCfgErr u ∨ s.rd Reg.PWR_STATUS_STATE ≠ 0 then .next s
  else
    let c := uartCountWord u
    let k := (tabGet 0 c s.commons).toNat
    let ns := s.tsAt (s.rd (Reg.DEV_UART_CFG_TS u)) x.t / 2 ^ 64 % 2 ^ 48
    let bad := s.parityError u x.data x.parity
    let w := x.data.toNat * 2 ^ 56 + flagIf x.framing (2 ^ 55) + flagIf bad (2 ^ 54) + flagIf x.brk (2 ^ 53) + ns
    let m := tabSet 0 (c + 1 + k % 255) (BitVec.ofNat 64 w) s.commons
    let s := { s with commons := tabSet 0 c (BitVec.ofNat 64 (k + 1)) m }
    .next (s.bump (if u.val = 0 then Reg.DEV_UART_STATUS_ERR0 else Reg.DEV_UART_STATUS_ERR1) (x.framing.toNat + bad.toNat))

end Sys2Proof.Machine
end

