-- ==== Sys2Proof/Machine/Fabric.lean ====
section
/-! DEFINITION. What a register reads as (R13 to R16, R398): the fields that follow the state of their block, and the
words that a read of a LO half or of a capturing register takes with it (R75). -/
namespace Sys2Proof.Machine

/-! ### Fields that show the state of a block -/

/-- The DEV fields that follow state (R32, R33, R98, R249). -/
def State.devShows (s : State) : List (Fld × Nat) :=
  [(Reg.DEV_CLK_STATUS_CFG_ERR, s.clkCfgErr.toNat), (Reg.DEV_ISL_RING_ON_RING, s.islRing),
   (Reg.DEV_LOAD_STATUS_LOADED, s.loaded.toNat), (Reg.DEV_UART_STATUS_CFG_ERR1, (s.uartCfgErr 1).toNat),
   (Reg.DEV_UART_STATUS_CFG_ERR0, (s.uartCfgErr 0).toNat)]

/-- `FLT.SRCn_STATUS.CFG_ERR` (R385): as sampled; while the source is CLEAR, whether no instance could take the
configured action. -/
def State.srcCfgErr (s : State) (ev : Nat) : Bool :=
  if s.srcState ev ≠ 0 then s.bit (Reg.FLT_SRC_STATUS_CFG_ERR ev)
  else (List.range 64).all (fun i => (s.sample ev i (s.channelOf i)).2)

/-- Bit i of ACTIVEk and of IRQk (R389, R397). -/
def maskOf (f : Nat → Bool) : Nat := ((List.range 32).filter f).foldl (fun a i => a + 2 ^ i) 0

/-- The FLT fields that follow state, for a register at offset `off` (R383, R391, R397). -/
def State.fltShows (s : State) (off : Nat) : List (Fld × Nat) :=
  if 0x200 ≤ off ∧ off < 0x400 then
    let ev := (off - 0x200) / 4
    [(Reg.FLT_SRC_STATUS_CFG_ERR ev, (s.srcCfgErr ev).toNat), (Reg.FLT_SRC_STATUS_CAUSE ev, (s.causePresent ev).toNat)]
  else if off = 0x608 then
    [(Reg.FLT_SUMMARY_LIFE_DIRTY, s.flt.dirty.toNat), (Reg.FLT_SUMMARY_SAFE, s.safe.toNat), (Reg.FLT_SUMMARY_FAULT, s.crimson.toNat),
     (Reg.FLT_SUMMARY_IRQ, s.irqLow.toNat)]
  else if 0x610 ≤ off ∧ off < 0x620 then
    let k := (off - 0x610) / 4
    [(Reg.FLT_ACTIVE k, maskOf (fun i => decide (s.srcState (32 * k + i) ≠ 0)))]
  else if 0x620 ≤ off ∧ off < 0x630 then
    let k := (off - 0x620) / 4
    [(Reg.FLT_IRQ_REQ k, maskOf (fun i => s.irqRequest (32 * k + i)))]
  else [(Reg.FLT_LIFE_COUNT, tabGet 0 (s.rd Reg.FLT_LIFE_SEL_SRC) s.flt.life)]

/-- The lowest listed address, 0 with none (R407). -/
def State.parityNext (s : State) : Nat := match s.parity with | [] => 0 | a :: l => l.foldl min a

/-- The HOST fields that follow state (R407, R413). -/
def State.hostShows (s : State) : List (Fld × Nat) :=
  [(Reg.HOST_SPI_STATUS_HOLD_VALID, s.host.held.isSome.toNat), (Reg.HOST_SPI_HOLD_ADDR, (s.host.held.map (·.1)).getD 0),
   (Reg.HOST_PARITY_PENDING, s.parity.length),
   (Reg.HOST_PARITY_NEXT_ADDR, s.parityNext)]

/-- The SEC fields that follow state (R463, R464, R472). KEY_DATA reads 0. -/
def State.secShows (s : State) (off : Nat) : List (Fld × Nat) :=
  if off = 0x4 then [(Reg.SEC_STATUS_DISABLED, s.fuses.debugDisable)]
  else if off = 0x14 ∨ off = 0x18 then
    let k := (off - 0x14) / 4
    [(Reg.SEC_KEY_STATUS_FILLED k, maskOf (fun i => decide (s.key (32 * k + i) ≠ [])))]
  else if 0x40 ≤ off ∧ off < 0x80 then [(Reg.SEC_KEY_DATA_DATA ((off - 0x40) / 4), 0)]
  else if 0x80 ≤ off ∧ off < 0xA0 ∧ s.rd Reg.SEC_FUSE_CMD_SEL < 8 ∧ !s.bit Reg.SEC_FUSE_CMD_PROG then
    let k := (off - 0x80) / 4
    [(Reg.SEC_FUSE_DATA_DATA k, s.fuseField (s.rd Reg.SEC_FUSE_CMD_SEL) / 2 ^ (32 * k))]
  else []

/-- The JNL fields that follow state (R454, R456 to R458). -/
def State.jnlShows (s : State) : List (Fld × Nat) :=
  [(Reg.JNL_STATUS_WORN, s.jnl.worn.toNat), (Reg.JNL_STATUS_DEFERRING, s.deferring.toNat),
   (Reg.JNL_STATUS_COMPACTING, s.jnl.compacting.toNat), (Reg.JNL_STATUS_COMPACT_DUE, s.jnl.due.toNat),
   (Reg.JNL_STATUS_EMPTY, s.jnl.active.isNone.toNat), (Reg.JNL_STATUS_ACTIVE_HALF, (s.jnl.active.getD false).toNat),
   (Reg.JNL_USED_BYTES, s.jnl.used)]

/-- The ENGn fields that follow state (R77 to R82, R91, R94, R106): E16 shows the host words and the timetable of the
engine it serves (R53, R101). -/
def State.engShows (s : State) (e off : Nat) : List (Fld × Nat) :=
  let x := s.engine e
  let o := s.hostOwner e
  if off = 0x4 then
    [(Reg.ENG_STATUS_HOLD e, (s.bindingsHeld o).toNat),
     (Reg.ENG_STATUS_SUBSTITUTED e, (if e = 16 then decide (s.serving ≠ 31) else s.substituted e).toNat),
     (Reg.ENG_STATUS_HALTED e, (s.engHalted e).toNat), (Reg.ENG_STATUS_RUNNING e, x.run.toNat)]
  else if off = 0x18 then [(Reg.ENG_LESSON_ACTIVE e, x.lesson.isSome.toNat)]
  else if 0x20 ≤ off ∧ off < 0x40 then
    let k := (off - 0x20) / 8
    [(Reg.ENG_HIN_LO_DATA e k, s.rd (Reg.ENG_HIN_LO_DATA o k)), (Reg.ENG_HIN_HI_DATA e k, s.rd (Reg.ENG_HIN_HI_DATA o k))]
  else if 0x40 ≤ off ∧ off < 0x60 then
    let k := (off - 0x40) / 8
    [(Reg.ENG_HOUT_LO_DATA e k, (tabGet 0 k (s.hostWords o).hout).toNat),
     (Reg.ENG_HOUT_HI_DATA e k, s.rd (Reg.ENG_HOUT_HI_DATA o k))]
  else if 0x60 ≤ off ∧ off < 0x70 then
    let on := decide (e ≠ 16 ∨ s.serving ≠ 31)
    let t := if on then tabGet {} (s.rd (Reg.ENG_TT_INDEX_INDEX e)) (s.engine o).tt else {}
    [(Reg.ENG_TT_ENTRY_VALID e, t.valid.toNat), (Reg.ENG_TT_ENTRY_RESUME e, t.resume.toNat), (Reg.ENG_TT_ENTRY_K e, t.k),
     (Reg.ENG_TT_ENTRY_PHASE e, t.phase), (Reg.ENG_TT_ENTRY_ENTRY_PC e, t.pc), (Reg.ENG_TT_WCET_WCET e, t.wcet),
     (Reg.ENG_TT_INDEX_WORST_RES e, if on then s.rd (Reg.ENG_TT_INDEX_WORST_RES o) else 0),
     (Reg.ENG_TT_INDEX_INDEX e, if on then s.rd (Reg.ENG_TT_INDEX_INDEX e) else 0),
     (Reg.ENG_TT_SUM_WORST e, if on then s.rd (Reg.ENG_TT_SUM_WORST o) else 0)]
  else if off = 0x74 then [(Reg.ENG_PROC_STATUS_STRIKES e, min 3 x.strikes.length)]
  else if off = 0x78 ∧ e = 16 then [(Reg.ENG_SUBST_BUSY e, s.substBusy.toNat), (Reg.ENG_SUBST_SERVING e, s.serving)]
  else []

/-- The SLOTn fields that follow state (R127, R132, R137). -/
def State.slotShows (s : State) (n off : Nat) : List (Fld × Nat) :=
  if off = 0x28 then [(Reg.SLOT_STATE n, s.shownSlot n)]
  else if off = 0x2C then [(Reg.SLOT_MON_FLAGS n, s.monFlags n)]
  else if off = 0x38 then [(Reg.SLOT_PHASE_LO_DATA n, (s.slot n).word.toNat)]
  else if off = 0x50 then [(Reg.SLOT_TRACK_LO_DATA n, (tabGet 0 (0x210 + n) s.out).toNat)]
  else if off = 0x60 then [(Reg.SLOT_IRIG_STATUS_LOCK n, (s.slot n).irig.lock.toNat)]
  else []

/-- `PATHn.FOFF`: the DCO word in 2^-4 ppb, rounded to nearest and saturating (R191). -/
def State.pathFoff (s : State) (p : Nat) : Int := satInt 32 (roundNearest ((s.path p).word.toInt * 10 ^ 9) (2 ^ 52))

/-- The remainder of the slewer as 48 bits in 2^-16 ns, truncated toward zero (R191). -/
def State.stepRemain (s : State) (p : Nat) : Nat := ofSigned 48 ((s.path p).remain.tdiv 65536)
/-- STEP_TOTAL as 48 bits in 2^-16 ns, rounded down (R164). -/
def State.stepTotal48 (s : State) (p : Nat) : Nat := ofSigned 48 ((s.path p).total / 65536)

/-- The PATHn fields that follow state (R165, R191). -/
def State.pathShows (s : State) (p off : Nat) : List (Fld × Nat) :=
  if off = 0x0 then [(Reg.PATH_DCO_LO_DATA p, (s.path p).word.toNat)]
  else if off = 0x8 then [(Reg.PATH_CTRL_LO_DATA p, (tabGet 0 (0x208 + p) s.out).toNat)]
  else if off = 0x20 then [(Reg.PATH_STEP_REMAIN_LO_VALUE p, s.stepRemain p)]
  else if off = 0x28 then [(Reg.PATH_STEP_TOTAL_LO_VALUE p, s.stepTotal48 p)]
  else if off = 0x30 then [(Reg.PATH_STEP_STATUS_BUSY p, (decide ((s.path p).remain ≠ 0)).toNat)]
  else if off = 0x38 then [(Reg.PATH_FOFF_VALUE p, ofSigned 32 (s.pathFoff p))]
  else []

/-- `APLLn.STATUS.DCO_SAT` (R192); A8 follows the ramp of the APLL whose plan it runs. -/
def State.dcoSat (s : State) (k : Nat) : Bool :=
  match (if k < 8 then some k else (s.apll 8).mirror) with
  | some p => decide (s.dco p ≠ (s.path p).word.toInt)
  | none => false

/-- The cache entry that CACHE_SEL names (R220). -/
def State.cacheShown (s : State) (k : Nat) : CacheEnt := (s.apll k).ent (s.rd (Reg.APLL_CACHE_SEL_INDEX k))

/-- The APLLn fields that follow state (R192, R209, R220, R481): A8 shows the mirrored plan, an APLL that the repair map
replaces shows the status of A8, and the cover is A8's alone. -/
def State.apllShows (s : State) (k off : Nat) : List (Fld × Nat) :=
  let p := (s.apll k).plan
  if off = 0x18 then
    let j := if s.mapApll = some k then 8 else k
    [(Reg.APLL_STATUS_BAND k, s.rd (Reg.APLL_STATUS_BAND j)), (Reg.APLL_STATUS_DCO_SAT k, (s.dcoSat k).toNat),
     (Reg.APLL_STATUS_TUNE_EDGE k, s.rd (Reg.APLL_STATUS_TUNE_EDGE j)), (Reg.APLL_STATUS_LOCK k, s.rd (Reg.APLL_STATUS_LOCK j)),
     (Reg.APLL_STATUS_STATE k, s.rd (Reg.APLL_STATUS_STATE j))]
  else if off = 0x28 ∨ off = 0x2C then
    let c := s.cacheShown k
    [(Reg.APLL_CACHE_ENTRY_VALID k, c.valid.toNat), (Reg.APLL_CACHE_ENTRY_PIN k, c.pin.toNat), (Reg.APLL_CACHE_ENTRY_BAND k, c.band),
     (Reg.APLL_CACHE_ENTRY_TEMP k, ofSigned 16 c.temp), (Reg.APLL_CACHE_FVCO_KHZ k, (roundDiv c.f (1000 * 2 ^ 40)).toNat)]
  else if 0x30 ≤ off ∧ off < 0x3C then
    [(Reg.APLL_ACT_FPD_VALUE k, p.fpd), (Reg.APLL_ACT_NINT_VALUE k, p.nint), (Reg.APLL_ACT_NFRAC_LO_VALUE k, p.nfrac)]
  else if k < 8 then
    if off = 0x40 then [(Reg.APLL_COVER_APLL k, 0), (Reg.APLL_COVER_RESCUE k, 0)]
    else if off = 0x44 then [(Reg.APLL_SPARE_STATUS_READY k, 0), (Reg.APLL_SPARE_STATUS_SERVING k, 0)]
    else []
  else if off = 0x44 then [(Reg.APLL_SPARE_STATUS_READY k, s.spareReady.toNat)]
  else if 0x4 ≤ off ∧ off < 0x14 then
    [(Reg.APLL_FPD_HZ k, p.fpd), (Reg.APLL_NINT k, p.nint), (Reg.APLL_NFRAC_LO_NFRAC k, p.nfrac),
     (Reg.APLL_NFRAC_HI_NFRAC k, p.nfrac / 2 ^ 32)]
  else []

/-- The OUTn fields that follow state (R207, R212, R222). -/
def State.outShows (s : State) (o : Nat) : List (Fld × Nat) :=
  [(Reg.OUT_STATUS_FREQ_ERR o, (s.freqErr o).toNat), (Reg.OUT_STATUS_PULSE_ERR o, (s.pulseErr o).toNat),
   (Reg.OUT_STATUS_AUTO_MOVED o, (decide ((s.outp o).moved ≠ 0)).toNat), (Reg.OUT_STATUS_SRC_ACT o, s.srcAct o)]

/-- The TDCn fields that follow state (R257, R260, R274, R276). -/
def State.tdcShows (s : State) (c off : Nat) : List (Fld × Nat) :=
  if off = 0 then (if c < 22 then [(Reg.TDC_CFG_EN c, 1)] else [])
  else if off = 0xC then [(Reg.TDC_CAL_STATUS_TEMP_DRIFT c, (s.tempDrift c).toNat)]
  else if off = 0x10 then [(Reg.TDC_LAST_LO_DATA c, (s.role c).last.toNat)]
  else if off = 0x1C then [(Reg.TDC_FIFO_LEVEL c, (s.role c).fifo.length)]
  else []

/-- The result word that Mn.RES_SEL names (R271). -/
def State.resWord (s : State) (m : Nat) : Word64 :=
  tabGet 0 (4 * s.rd (Reg.M_RES_SEL_STOP m) + s.rd (Reg.M_RES_SEL m)) (s.grp m).words

/-- The Mn fields that follow state (R265, R271). -/
def State.grpShows (s : State) (m : Nat) : List (Fld × Nat) :=
  [(Reg.M_STATUS_CFG_ERR m, (s.grpCfgErr m).toNat), (Reg.M_RES_LO_DATA m, (s.resWord m).toNat)]

/-- INC and INC_XO: the top 64 bits of the increments, in 2^-32 ns (R224, R226). -/
def State.incWord (s : State) (n : Nat) (xo : Bool) : Nat :=
  ofSigned 64 ((if xo then incXo s.clk.xoFreq (s.tsInc n) else s.tsInc n) / 2 ^ 32)

/-- Does a command of timescale `n` wait, for an edge or for the first tick of TIME (R231, R489)? -/
def State.tsWaits (s : State) (n : Nat) : Bool :=
  (s.tscale n).pend.isSome || s.bit (Reg.TS_CMD_SET n) || s.bit (Reg.TS_CMD_ADJ n)

/-- The TSn fields that follow state (R224, R226, R231, R232). -/
def State.tsShows (s : State) (n : Nat) : List (Fld × Nat) :=
  [(Reg.TS_STATUS_PENDING n, (s.tsWaits n).toNat), (Reg.TS_INC_LO_DATA n, s.incWord n false), (Reg.TS_INC_XO_LO_DATA n, s.incWord n true)]

/-- The ETHn fields that follow state (R313, R314, R320, R322, R325). -/
def State.ethShows (s : State) (n off : Nat) : List (Fld × Nat) :=
  if off = 0x4 then [(Reg.ETH_STATUS_TX_CLAMP n, (s.txClamp n).toNat)]
  else if 0x40 ≤ off ∧ off < 0xC0 then
    let q := (off - 0x40) / 0x10
    [(Reg.ETH_TXQ_CFG_STREAM n q, (s.streamed n q).toNat), (Reg.ETH_TXQ_CFG_CFG_ERR n q, (s.txCfgErr n q).toNat)]
  else if 0xC0 ≤ off ∧ off < 0x100 then
    let q := (off - 0xC0) / 0x10
    [(Reg.ETH_RXQ_CFG_CFG_ERR n q, (s.rxCfgErr n q).toNat)]
  else if off = 0x188 then [(Reg.ETH_RX_BYTES_HI_COUNT n, (s.port n).rxHi)]
  else if off = 0x1B0 then [(Reg.ETH_TX_BYTES_HI_COUNT n, (s.port n).txHi)]
  else if off = 0x1E4 then [(Reg.ETH_WAKE_STATUS_MODE_ERR n, (decide (s.lineMode n = 2)).toNat)]
  else []

/-- The PTPn fields that follow state (R328, R340, R341, R353). -/
def State.ptpShows (s : State) (n off : Nat) : List (Fld × Nat) :=
  if off = 0x4 then
    [(Reg.PTP_STATUS_CFG_ERR n, (s.txtsCfgErr n).toNat), (Reg.PTP_STATUS_GATED n, (s.gated n).toNat),
     (Reg.PTP_STATUS_BY_SAFE n, s.safe.toNat), (Reg.PTP_STATUS_BY_TWIN n, (s.twinGates n).toNat),
     (Reg.PTP_STATUS_COARSE n, s.portCoarse.toNat)]
  else if off = 0x10 ∨ off = 0x14 then
    let i := 4 * n + s.lineMode n
    [(Reg.PTP_TX_LAT_VALUE n, Config.ptpTxLat i), (Reg.PTP_RX_LAT_VALUE n, Config.ptpRxLat i)]
  else [(Reg.PTP_TXTS_LEVEL_LEVEL n, s.txtsLevel n)]

/-- The TWIN fields that follow state (R356, R359, R361). -/
def State.twinShows (s : State) : List (Fld × Nat) :=
  [(Reg.TWIN_STATUS_CLK_ERR, s.twinClkErr.toNat), (Reg.TWIN_STATUS_ALIGN_CFG_ERR, s.alignCfgErr.toNat),
   (Reg.TWIN_STATUS_INELIGIBLE, s.ineligible.toNat)]

/-- The EVR fields that follow state (R281, R292, R300). -/
def State.evrShows (s : State) (off : Nat) : List (Fld × Nat) :=
  if off < 0x40 then [(Reg.EVR_STATUS_SPARES_LEFT, Config.dramSparesLeft - s.dram.replaced.length)]
  else
    let r := (off - 0x40) / 0x28
    let x := s.ring r
    [(Reg.EVR_RING_STATUS_TS_MISMATCH r, (s.tsMismatch r).toNat), (Reg.EVR_RING_STATUS_FULL r, (s.ringFull r).toNat),
     (Reg.EVR_RING_STATUS_CFG_ERR r, x.cfgErr.toNat), (Reg.EVR_RING_STATUS_RUNNING r, x.run.toNat),
     (Reg.EVR_RING_WRITTEN_LO_COUNT r, x.written)]

/-- The fields of the register at `a` that follow the state of their block, with what they show. -/
def State.shows (s : State) (a : Nat) : List (Fld × Nat) :=
  if a < 0x1000 then s.devShows
  else if a < 0x3000 then []
  else if a < 0x4000 then s.fltShows (a - 0x3000)
  else if a < 0x5000 then s.hostShows
  else if a < 0x6000 then s.secShows (a - 0x5000)
  else if a < 0x7000 then s.jnlShows
  else if a < 0x7880 then s.engShows ((a - 0x7000) / 0x80) ((a - 0x7000) % 0x80)
  else if a < 0x10000 then []
  else if a < 0x20000 then s.slotShows ((a - 0x10000) / 0x100) ((a - 0x10000) % 0x100)
  else if a < 0x24000 then s.pathShows ((a - 0x20000) / 0x200) ((a - 0x20000) % 0x200)
  else if a < 0x26000 then s.apllShows ((a - 0x24000) / 0x100) ((a - 0x24000) % 0x100)
  else if a < 0x28000 then s.outShows ((a - 0x26000) / 0x40)
  else if a < 0x289C0 then s.tdcShows ((a - 0x28000) / 0x30) ((a - 0x28000) % 0x30)
  else if a < 0x28A00 then []
  else if a < 0x30000 then s.grpShows ((a - 0x28A00) / 0x30)
  else if a < 0x30100 then s.tsShows ((a - 0x30000) / 0x40)
  else if a < 0x34000 then
    let g := (a - 0x30100) / 0x18
    [(Reg.TG_STATUS_CFG_ERR g, (s.trigCfgErr g).toNat)]
  else if a < 0x38000 then s.ethShows ((a - 0x34000) / 0x400) ((a - 0x34000) % 0x400)
  else if a < 0x3C000 then s.ptpShows ((a - 0x38000) / 0x100) ((a - 0x38000) % 0x100)
  else if a < 0x3E000 then s.twinShows
  else if a < 0x3F000 then s.evrShows (a - 0x3E000)
  else [(Reg.TST_REPAIR_STATUS_DRAM_ROWS, s.dram.replaced.length)]

/-- A field that its instance does not have: it reads 0 and ignores writes (R136, R138, R220, R222, R276, R323, R381,
R396). -/
def Fld.absent (f : Fld) : Bool :=
  let a := f.addr
  if a < 0x3000 then false
  else if a < 0x3200 then
    let ev := (a - 0x3000) / 4
    reservedEv ev || (decide (96 ≤ ev) && !decide (f.lo ∈ [22, 16, 14]))
  else if a < 0x10000 then false
  else if a < 0x20000 then
    let n := (a - 0x10000) / 0x100
    let off := a % 0x100
    decide ((off = 0 ∧ 16 ≤ n ∧ f.lo ∈ [25, 24, 22]) ∨ (off = 0 ∧ 4 ≤ n ∧ f.lo = 21) ∨ (off = 4 ∧ (n = 20 ∨ n = 21)) ∨
      (0x60 ≤ off ∧ off < 0x70 ∧ 4 ≤ n) ∨ (off = 0x70 ∧ n ≠ 20 ∧ n ≠ 21))
  else if a < 0x24000 then false
  else if a < 0x26000 then decide (a < 0x24800 ∧ 0x40 ≤ a % 0x100)
  else if a < 0x28000 then decide ((a - 0x26000) % 0x40 = 0x24 ∧ 16 ≤ (a - 0x26000) / 0x40)
  else if a < 0x289C0 then
    let c := (a - 0x28000) / 0x30
    let off := (a - 0x28000) % 0x30
    decide ((48 ≤ c ∧ off ∈ [0x0, 0x8, 0x10, 0x14, 0x18, 0x1C, 0x20, 0x24]) ∨ (off = 0 ∧ f.lo = 29 ∧ c < 22))
  else decide (0x34400 ≤ a ∧ a < 0x38000 ∧ 0x1E0 ≤ a % 0x400 ∧ a % 0x400 < 0x280)

/-- What a field reads as: what it shows, or what it holds. -/
def State.shown (s : State) (f : Fld) : Nat :=
  if f.absent then 0 else
  match (s.shows f.addr).find? (fun p => decide (p.1 = f)) with
  | some p => p.2 % 2 ^ f.width
  | none => s.rd f

/-- The word at register address `a` (R13, R15): reserved bits and unimplemented addresses read 0. STEP_REMAIN_HI reads
sign-extended (R191). -/
def State.readWord (s : State) (a : Nat) : Word32 :=
  let w := (fieldsAt a).foldl (fun w f => w + s.shown f * 2 ^ f.lo) 0
  if 0x20000 ≤ a ∧ a < 0x21000 ∧ a % 0x200 = 0x24 then BitVec.ofInt 32 (toSigned 16 w) else BitVec.ofNat 32 w

/-! ### Reads that take something with them (R75, R138, R340) -/

/-- The HI half that a read of the LO half at `a` captures: its field and its value. HOUT has its own rule. DESIGN CHOICE
(assumption 27): TRACK_HI shows both bits of TRK as the lesson wrote them, the reserved code included. -/
def State.hiHalf (s : State) (a : Nat) : Option (Fld × Nat) :=
  let w64 (f : Fld) (w : Nat) : Option (Fld × Nat) := some (f, w / 2 ^ 32)
  if 0x10000 ≤ a ∧ a < 0x11800 then
    let n := (a - 0x10000) / 0x100
    if a % 0x100 = 0x38 then w64 (Reg.SLOT_PHASE_HI_DATA n) (s.slot n).word.toNat
    else if a % 0x100 = 0x50 then w64 (Reg.SLOT_TRACK_HI_DATA n) (tabGet 0 (0x210 + n) s.out).toNat
    else none
  else if 0x20000 ≤ a ∧ a < 0x21000 then
    let p := (a - 0x20000) / 0x200
    if a % 0x200 = 0x0 then w64 (Reg.PATH_DCO_HI_DATA p) (s.path p).word.toNat
    else if a % 0x200 = 0x8 then w64 (Reg.PATH_CTRL_HI_DATA p) (tabGet 0 (0x208 + p) s.out).toNat
    else if a % 0x200 = 0x20 then w64 (Reg.PATH_STEP_REMAIN_HI_VALUE p) (s.stepRemain p)
    else if a % 0x200 = 0x28 then w64 (Reg.PATH_STEP_TOTAL_HI_VALUE p) (s.stepTotal48 p)
    else none
  else if 0x24000 ≤ a ∧ a < 0x24900 then
    let k := (a - 0x24000) / 0x100
    if a % 0x100 = 0x38 then w64 (Reg.APLL_ACT_NFRAC_HI_VALUE k) (s.apll k).plan.nfrac else none
  else if 0x28000 ≤ a ∧ a < 0x289C0 then
    let c := (a - 0x28000) / 0x30
    if (a - 0x28000) % 0x30 = 0x10 then w64 (Reg.TDC_LAST_HI_DATA c) (s.role c).last.toNat else none
  else if 0x28A00 ≤ a ∧ a < 0x28D00 then
    let m := (a - 0x28A00) / 0x30
    if (a - 0x28A00) % 0x30 = 0x24 then w64 (Reg.M_RES_HI_DATA m) (s.resWord m).toNat else none
  else if 0x30000 ≤ a ∧ a < 0x30100 then
    let n := (a - 0x30000) / 0x40
    if a % 0x40 = 0x10 then w64 (Reg.TS_INC_HI_DATA n) (s.incWord n false)
    else if a % 0x40 = 0x18 then w64 (Reg.TS_INC_XO_HI_DATA n) (s.incWord n true)
    else if a % 0x40 = 0x20 then w64 (Reg.TS_CAP_S_HI_S n) ((s.tscale n).cap / 65536 / 10 ^ 9)
    else none
  else if 0x3E040 ≤ a ∧ a < 0x3E180 then
    let r := (a - 0x3E040) / 0x28
    if (a - 0x3E040) % 0x28 = 0x18 then w64 (Reg.EVR_RING_WRITTEN_HI_COUNT r) (s.ring r).written else none
  else none

/-- A read of the LO half at `a` captures its HI half (R75, R322). -/
def pairCapture (a : Nat) (s : State) : State :=
  match s.hiHalf a with
  | some h => s.wr h.1 h.2
  | none =>
    if 0x34000 ≤ a ∧ a < 0x35000 then
      let n := (a - 0x34000) / 0x400
      if a % 0x400 = 0x184 then s.putPort n { s.port n with rxHi := s.rd (Reg.ETH_RX_BYTES_HI_COUNT n) }
      else if a % 0x400 = 0x1AC then s.putPort n { s.port n with txHi := s.rd (Reg.ETH_TX_BYTES_HI_COUNT n) }
      else s
    else if 0x7000 ≤ a ∧ a < 0x7880 ∧ 0x40 ≤ a % 0x80 ∧ a % 0x80 < 0x60 ∧ a % 8 = 0 then
      let o := s.hostOwner ((a - 0x7000) / 0x80)
      let k := (a % 0x80 - 0x40) / 8
      s.wr (Reg.ENG_HOUT_HI_DATA o k) ((tabGet 0 k (s.hostWords o).hout).toNat / 2 ^ 32)
    else s

/-- What a read of the register at `a` does besides answering: it captures (R75, R138) or removes (R340). A word that
TXTS_ID answers is the one it has just removed. -/
def readSide (a : Nat) (s : State) : State :=
  if 0x10000 ≤ a ∧ a < 0x10400 ∧ a % 0x100 = 0x64 then irigCapture ((a - 0x10000) / 0x100) s
  else if 0x38000 ≤ a ∧ a < 0x38400 ∧ a % 0x100 = 0x18 then txtsTake ((a - 0x38000) / 0x100) s
  else pairCapture a s

end Sys2Proof.Machine
end

