-- ==== Sys2Proof/Machine/Test.lean ====
section
/-! DEFINITION. Self-tests, the saves of the repair map, the DRAM scrub and the TAP (R292, R474 to R480, R483 to R485). -/
namespace Sys2Proof.Machine

/-! ### Self-tests (R474 to R479) -/

/-- The condition of a self-test (R474). -/
def State.testAllowed (s : State) (target i : Nat) : Bool :=
  match target with
  | 1 =>
    if i < 16 then decide (s.serving = i) && !maskBit s.clk.unpowered (3 + i)
    else decide (i = 16) && decide (s.serving = 31) && !s.substBusy
  | 2 => decide (i < 52) && s.calAllowed i
  | 3 => decide (i = 8) && decide (s.rd (Reg.APLL_SPARE_STATUS_SERVING 8) = 15)
  | 4 => decide (i = 0) && (List.range 8).all (fun r => !s.bit (Reg.EVR_RING_CFG_EN r))
  | _ => false

/-- What the unit under test shows while its test runs (R477 to R479). -/
def testBegins (target i : Nat) (s : State) : State :=
  match target with
  | 2 => s.wrs [(Reg.TDC_CAL_STATUS_CAL_BUSY i, 1), (Reg.TDC_CAL_STATUS_TABLE_VALID i, 0)]
  | 3 => (s.putApll 8 { s.apll 8 with mirror := none }).wrs [(Reg.APLL_STATUS_LOCK 8, 0), (Reg.APLL_STATUS_STATE 8, 0)]
  | 4 => s.wr Reg.EVR_STATUS_READY 0
  | _ => s

/-- BIST_GO (R474): GO on TARGET and INDEX as written; ignored while a test runs, refused where the condition fails. -/
def doBistGo (s : State) : Out :=
  let t := s.rd Reg.TST_BIST_CMD_TARGET
  let i := s.rd Reg.TST_BIST_CMD_INDEX
  .next (if s.bist.isSome then s
  else if !s.testAllowed t i then s.wrs [(Reg.TST_BIST_STATUS_RESULT, 3), (Reg.TST_BIST_CMD_GO, 0)]
  else { testBegins t i (s.wrs [(Reg.TST_BIST_CMD_GO, 1), (Reg.TST_BIST_STATUS_BUSY, 1)]) with bist := some (t, i) })

/-- Every word of an engine memory of `n` words is zero, where an unlisted word reads as `d`. -/
def zeroed {α : Type} [DecidableEq α] (d z : α) (n : Nat) : Tab α :=
  if z = d then [] else (List.range n).map (fun i => (i, z))

/-- The test of engine `e` ends (R475): its memories are zeroed, and on PASS its UNC flags clear. -/
def engineTested (e : Nat) (fail : Option (BitVec 24)) (s : State) : State :=
  let s := s.putEngine e { s.engine e with imem := zeroed 0xFFFFFFFF 0 8192, dmem := zeroed 0 0 8192 }
  match fail with
  | none => bistEnd 1 0 (s.wrs [(Reg.ENG_ECC_UNC_I e, 0), (Reg.ENG_ECC_UNC_D e, 0)])
  | some d => bistEnd 2 d.toNat s

/-- The test of TDC channel `ch` ends (R479): its table is measured, and 65,536 pairs of edges 8.0 ns apart are stamped,
with the given mean and standard deviation in 2^-16 ns. -/
def tdcTested (ch : Nat) (hits : List Nat) (mean sd : Int) (s : State) : State :=
  let s := calDone ch hits s
  let detail := (max 0 (min (2 ^ 24 - 1) (roundDiv mean 64))).toNat
  if s.bit (Reg.TDC_CAL_STATUS_TABLE_VALID ch) ∧ (mean - 524288).natAbs * 1000 ≤ 5 * 65536 ∧ sd * 10000 ≤ 25 * 65536 then
    bistEnd 1 detail s
  else
    bistEnd 2 detail (chanFault ch (s.wrs [(Reg.TDC_CAL_STATUS_CAL_BUSY ch, 0), (Reg.TDC_CAL_STATUS_TABLE_VALID ch, 0),
      (Reg.TDC_CAL_STATUS_CAL_FAIL ch, 1)]))

/-- The test of A8 ends (R477): after a pass it replans to its cover, after a failure it stays stopped. -/
def spareTested (band : Option (Fin 48)) (s : State) : State :=
  match band with
  | none => coverNow (bistEnd 1 0 s)
  | some b => bistEnd 2 b.val s

/-- The DRAM record of the repair map (R480). -/
def rowsRecord (rows : List Nat) : List Byte :=
  leBytes 2 rows.length ++ leBytes 2 0 ++
  (List.range rows.length).flatMap (fun i => leBytes 4 (rows.getD i 0 % 2 ^ 17 + i % 256 * 2 ^ 24))

/-- Is a spare row left (R292)? -/
def State.rowSpare (s : State) : Bool := decide (s.dram.replaced.length < Config.dramSparesLeft)

/-- Row `row` is replaced by the next spare row and recorded, unless the supply defers the write (R292, R454, R480). -/
def replaceRow (row : Nat) (s : State) : State :=
  let rows := s.dram.replaced ++ [row]
  let s := { s with dram := { s.dram with
    replaced := rows, due := s.dram.due.filter (fun r => r != row), errs := tabErase row s.dram.errs } }
  if s.deferring then s else jnlPublish (jnlPut 0x14 1 (rowsRecord rows) s)

/-- The DRAM test ends (R478): failing rows take spares while they last, and the DRAM is zeroed. -/
def dramTested (rows : List Nat) (s : State) : State :=
  let free := Config.dramSparesLeft - s.dram.replaced.length
  let s := (rows.take free).foldl (fun s r => replaceRow r s) s
  let s := (zeroDram s).wr Reg.EVR_STATUS_READY 1
  match rows.drop free with
  | r :: _ => bistEnd 2 (0x800000 + r) s
  | [] => if rows.isEmpty then bistEnd 1 0 s else bistEnd 5 rows.length s

/-- BIST_COMPLETE (R474 to R479): the outcome of the unit under test; an outcome of another unit says nothing. -/
def execBistComplete (x : BistOut) (s : State) : Out :=
  .next (match s.bist, x with
    | some (1, e), .engine fail => engineTested e fail s
    | some (2, ch), .tdc hits mean sd => tdcTested ch hits mean sd s
    | some (3, _), .apll band => spareTested band s
    | some (4, _), .dram rows => dramTested (rows.map (·.toNat)) s
    | _, _ => s)

/-! ### The repair map and the DRAM scrub (R292, R480) -/

/-- SAVE_TDC (R480): the command clears with its RESULT. -/
def doSaveTdc (fail : Bool) (s : State) : Out := .next ((saveTdc fail s).wr Reg.TST_REPAIR_CMD_SAVE_TDC 0)

/-- SAVE_APLL (R480). -/
def doSaveApll (fail : Bool) (s : State) : Out :=
  let v := s.rd Reg.TST_REPAIR_APLL_FAILED
  let s := s.wr Reg.TST_REPAIR_CMD_SAVE_APLL 0
  .next (if v < 8 ∨ v = 0xFF then repairSave 2 (BitVec.ofNat 8 v :: List.replicate 3 0) fail s
  else s.wr Reg.TST_REPAIR_CMD_RESULT repBadValue)

/-- DRAM_SCRUB (R292): the scrubber visits a word; a row that an earlier visit or read has marked takes a spare row. -/
def execDramScrub (word : BitVec 24) (ecc : Ecc) (s : State) : Out :=
  let row := Config.dramRow word.toNat
  .next (if !s.bit Reg.EVR_CTRL_SCRUB_EN ∨ !s.bit Reg.EVR_STATUS_READY then s
  else if s.dram.due.contains row && s.rowSpare then replaceRow row (dramEcc word.toNat ecc s)
  else dramEcc word.toNat ecc s)

/-! ### The TAP (R483 to R485) -/

/-- Do the boundary cells hold the pins (R485)? -/
def State.pinsTaken (s : State) : Bool := decide (s.jtag ∈ [0x00, 0x04, 0x05, 0x08, 0x09])

/-- The instruction register takes opcode `op` at Update-IR (R483, R485): where the pins return to the core, every output
that carries a signal starts from low and passes through the rule of R204. -/
def tapSelect (op : Nat) (s : State) : State :=
  let was := s.pinsTaken
  let s := { s with jtag := op }
  if was && !s.pinsTaken then
    forRange 32 (fun o s => if (s.outp o).shown < 4 then s.putOutp o { s.outp o with shown := 4 } else s) s
  else s

/-- JTAG_EXTEST (R483, R485). -/
def execJtagExtest (s : State) : Out := .next (tapSelect 0x00 s)
/-- JTAG_IDCODE (R484): the identification is shifted out. -/
def execJtagIdcode (s : State) : Out :=
  .next { tapSelect 0x01 s with hostRead := [BitVec.ofNat 32 (s.rd Reg.TST_JTAG_ID_ID)] }
/-- JTAG_SAMPLE_PRELOAD (R483): the core keeps its pins. -/
def execJtagSamplePreload (s : State) : Out := .next (tapSelect 0x02 s)
/-- JTAG_CLAMP (R483, R485). -/
def execJtagClamp (s : State) : Out := .next (tapSelect 0x04 s)
/-- JTAG_HIGHZ (R483, R485). -/
def execJtagHighz (s : State) : Out := .next (tapSelect 0x05 s)
/-- JTAG_EXTEST_PULSE (R483, R485). -/
def execJtagExtestPulse (s : State) : Out := .next (tapSelect 0x08 s)
/-- JTAG_EXTEST_TRAIN (R483, R485). -/
def execJtagExtestTrain (s : State) : Out := .next (tapSelect 0x09 s)
/-- JTAG_BYPASS (R483): also for any opcode without an instruction. -/
def execJtagBypass (s : State) : Out := .next (tapSelect 0xFF s)
/-- JTAG_TAP_RESET (R483): IDCODE is selected. -/
def execJtagTapReset (s : State) : Out := .next (tapSelect 0x01 s)

/-- A table whose content is free, in canonical form. -/
def tabCanon {α : Type} [DecidableEq α] (d : α) (t : Tab α) : Tab α := t.foldl (fun r e => tabSet d e.1 e.2 r) []

/-- SCAN_INT (R483): every island clock stops and all state is corrupted, but for what lies outside the main die's
islands: the fuses, the NOR contents, host memory and the TAP. -/
def scanStart (s : State) : State :=
  let x := scanned s.free
  { x with
    pending := s.pending, pwr := s.pwr, free := s.free + 1, hostRead := [], nor := s.nor, fuses := s.fuses, hostMem := s.hostMem
    jnl := { x.jnl with half0 := s.jnl.half0, half1 := s.jnl.half1 }
    commons := tabCanon 0 x.commons, dram := { x.dram with mem := tabCanon 0 x.dram.mem }
    clk := { stopped := 2 ^ 32 - 1, unpowered := s.clk.unpowered }
    jtag := 0x41, scan := true }

/-- JTAG_SCAN_INT (R483): bypass unless the debug gate is OPEN. -/
def execJtagScanInt (s : State) : Out := .next (if s.gateOpen then scanStart (tapSelect 0x41 s) else tapSelect 0xFF s)

end Sys2Proof.Machine
end

