-- ==== Sys2Proof/Machine/HostRegs.lean ====
section
/-! DEFINITION. Host accesses to registers (R13 to R17, R23, R398, R404 to R407): which are reached, which fields a write
takes, and what a write starts. -/
namespace Sys2Proof.Machine

/-- The state an outcome goes on to; none of the operations below ends otherwise. -/
def nextOr (s : State) (o : Out) : State := match o with | .next t => t | _ => s

/-! ### Reachability (R23, R435) -/

/-- The island of the register at `a` (R19, R398): FLT, SEC and JNL belong to SVC and DEV.BELL to TIME; the home window's
other registers outside the engines belong to none that can be unreachable (assumption 19). -/
def islandOf (a : Nat) : Option Nat :=
  if a < 0x3000 then (if 0x80 ≤ a ∧ a < 0x88 then some 21 else none)
  else if a < 0x4000 then some 31
  else if a < 0x5000 then none
  else if a < 0x7000 then some 31
  else if a < 0x7880 then some (3 + (a - 0x7000) / 0x80)
  else if a < 0x10000 then none
  else if a < 0x20000 then some 22
  else if a < 0x24000 then some 21
  else if a < 0x28000 then some 24
  else if a < 0x30000 then some 23
  else if a < 0x34000 then some 21
  else if a < 0x38000 then some (min 29 (26 + (a - 0x34000) / 0x400))
  else if a < 0x3C000 then some (min 29 (26 + (a - 0x38000) / 0x100))
  else if a < 0x3E000 then some 30
  else if a < 0x3F000 then some 25
  else some 31

/-- Does the fabric take accesses: not in OFF, under SCAN_INT, or, outside DOZE, without the HOST island (R433, R435,
R483)? -/
def State.hostAlive (s : State) : Bool :=
  !s.scan && decide (s.rd Reg.PWR_STATUS_STATE ≠ 3) &&
  (decide (s.rd Reg.PWR_STATUS_STATE = 2) || !maskBit s.clk.unpowered 1)

/-- Does an access reach the register at `a` (R23)? In DOZE only PWR and DEV.ID are (R435). Writes of TSn are taken
before START too (R489). -/
def State.reaches (s : State) (write : Bool) (a : Nat) : Bool :=
  if s.rd Reg.PWR_STATUS_STATE = 2 then decide (a = 0 ∨ (0x1000 ≤ a ∧ a < 0x1180))
  else match islandOf a with
    | none => true
    | some i => s.reachable i || (write && decide (0x30000 ≤ a ∧ a < 0x30100 ∧ s.clk.time = .stopped))

/-- An access to an unreachable island (R23); in DOZE no event is raised (R435). -/
def unreached (a : Nat) (s : State) : State :=
  if 2 ≤ s.rd Reg.PWR_STATUS_STATE then s else s.raise 8 ((islandOf a).getD noInst) a

/-! ### Parity (R405, R406) -/

/-- Does a mismatch stand in the register at `a`? -/
def State.mismatched (s : State) (a : Nat) : Bool := s.parity.contains a || s.host.unlisted.contains a

/-- The register at `a` carries a mismatch no longer. -/
def unlist (a : Nat) (s : State) : State :=
  { s with parity := s.parity.filter (fun b => b != a)
           host := { s.host with unlisted := s.host.unlisted.filter (fun b => b != a) } }

/-- An output whose block has its last mismatch cleared follows its configuration again (R405, R406, R222). -/
def outThaw (o : Nat) (s : State) : State :=
  if s.parityIn (0x26000 + 0x40 * o) 0x40 then s
  else
    let x := s.outp o
    outErrs (s.putOutp o { x with
      frozen := none, format := if s.bit (Reg.OUT_CFG_EN o) ∧ x.frozen = some 6 then s.rd (Reg.OUT_CFG_FORMAT o) else x.format })

/-- Is `a` a register of a slot? -/
def slotAddr (a : Nat) : Bool := decide (0x10000 ≤ a ∧ a < 0x11800)

/-- What the holds of R405 let go of when the register at `a` is written (R406). -/
def holdEnd (a : Nat) (s : State) : State :=
  if 0x26000 ≤ a ∧ a < 0x26800 then outThaw ((a - 0x26000) / 0x40) s
  else if 0x24800 ≤ a ∧ a < 0x24900 ∧ s.rd (Reg.APLL_SPARE_STATUS_SERVING 8) = 15 ∧ s.rescuing = none then coverNow s
  else s

/-- The mismatch of the register at `a` clears, as it is written (R406). -/
def parityClear (a : Nat) (s : State) : State :=
  if s.mismatched a then
    let s := if slotAddr a then slotStateChange ((a - 0x10000) / 0x100) (unlist a) s else holdEnd a (unlist a s)
    s.level 6 noInst (!s.parity.isEmpty)
  else s

/-- The condition that follows configuration: OUT_ERR (R382). -/
def followConfig (a : Nat) (s : State) : State :=
  if (0x10000 ≤ a ∧ a < 0x20000) ∨ (0x24000 ≤ a ∧ a < 0x28000) then outErrs s else s

/-- `f` writes the register at `a`, whose mismatch clears: a slot's once the value stands, so that the state it shows
changes once. -/
def withWrite (a : Nat) (f : State → Out) (s : State) : Out :=
  let slot := slotAddr a
  match f (if slot then s else parityClear a s) with
  | .next t => .next (followConfig a (if slot then parityClear a t else t))
  | o => o

/-! ### Commands that are one register access -/

/-- A host write of the register at `a`, with the effect `f` (R23, R406). -/
def hostCmd (a : Nat) (f : State → Out) (s : State) : Out :=
  if !s.hostAlive then .next s
  else if s.reaches true a then withWrite a f s
  else .next (unreached a s)

/-- A host read of the register at `a`, with the effect `f` (R23). -/
def hostRead (a : Nat) (f : State → Out) (s : State) : Out :=
  if !s.hostAlive then .next s
  else if s.reaches false a then f s
  else .next { unreached a s with hostRead := [0] }

/-- The address of register `reg` of Mm (R277). -/
def statsAddr (m reg : Nat) : Nat := 0x28A00 + 0x30 * m + 4 * reg

/-- The address of a queue's CFG (R323). -/
def queueAddr (n : Nat) (q : QueueId) : Nat :=
  match q with
  | .tx q => 0x34040 + 0x400 * n + 0x10 * q.val
  | .rx q => 0x340C0 + 0x400 * n + 0x10 * q.val

/-! ### Register writes (R16, R17) -/

/-- Does a host write put data into a field of this access code (R16)? -/
def Access.writable (a : Access) : Bool := decide (a ∈ [.rw, .rwhS, .rwhH, .cnt, .sh, .lck, .wo])

/-- Is the field's data refused (R17): its block is locked, or it is WO and written already? -/
def State.refusedField (s : State) (f : Fld) : Bool :=
  (decide (f.acc = .lck) && s.lockSet f.addr) || (decide (f.acc = .wo) && s.wo.contains f.key)

/-- Is a write of the register at `a` a violation (R17)? A register with a mismatch takes one write despite R17
(R406). -/
def State.violates (s : State) (a : Nat) : Bool := !s.mismatched a && (fieldsAt a).any s.refusedField

/-- The fields of the register at `a` that take the written data. -/
def State.takers (s : State) (a : Nat) : List Fld :=
  (fieldsAt a).filter (fun f => f.acc.writable && !f.absent && (s.mismatched a || !s.refusedField f))

/-- Put the bits of `v` into fields. -/
def putFields (fs : List Fld) (v : Nat) (s : State) : State := s.wrs (fs.map (fun f => (f, v / 2 ^ f.lo)))

/-- The fields but for those at the named places, which have their own rule. -/
def butLo (los : List Nat) (fs : List Fld) : List Fld := fs.filter (fun f => !decide (f.lo ∈ los))

/-- Do `f` where bit `i` of `v` is 1. -/
def onBit (v i : Nat) (f : State → Out) (s : State) : State := if v.testBit i then nextOr s (f s) else s

/-- A write in DEV (R31, R85, R95, R249). -/
def devWrite (a v : Nat) (fs : List Fld) (s : State) : State :=
  if a = 0x44 then onBit v 0 doDevClkStart s
  else if a = 0x80 then nextOr s (doBellPeriodWrite (BitVec.ofNat 25 v) s)
  else if a = 0x90 then onBit v 0 doImageLoad (putFields fs v s)
  else if a = 0xA0 ∨ a = 0xA4 then nextOr s (doUartEnable (Fin.ofNat 2 ((a - 0xA0) / 4)) (BitVec.ofNat 32 v) s)
  else putFields fs v s

/-- A write in PWR or RST (R442, R444). -/
def pwrWrite (a v : Nat) (fs : List Fld) (s : State) : State :=
  if a = 0x1000 then onBit v 4 (doPowerStateGo (Fin.ofNat 4 v)) (putFields fs v s)
  else if a = 0x2004 then
    onBit v 0 doSoftReset (onBit v 1 (doIslandGo (Fin.ofNat 32 (v / 256))) (putFields fs v s))
  else if a = 0x2008 then nextOr s (doWdogEnable (BitVec.ofNat 32 v) s)
  else if a = 0x200C then onBit v 0 doWdogKick s
  else putFields fs v s

/-- A write in FLT (R389, R394, R397): IRQ_EN applies at once. -/
def fltWrite (a v : Nat) (fs : List Fld) (s : State) : State :=
  if a < 0x3200 then withRequest ((a - 0x3000) / 4) (putFields fs v) s
  else if a = 0x3604 then onBit v 8 (doFltAck (Fin.ofNat 128 v) false) (putFields fs v s)
  else if a = 0x363C then onBit v 0 doLifeSave s
  else putFields fs v s

/-- A write in SEC or JNL (R470, R472). -/
def secWrite (a v : Nat) (fs : List Fld) (s : State) : State :=
  let s := putFields fs v s
  if a = 0x5010 then onBit v 1 doKeyVoid (onBit v 0 doKeyProvision s)
  else if a = 0x501C then onBit v 0 doFuseProg s
  else if a = 0x5150 then onBit v 0 doDebugOpenGo s
  else if a = 0x6004 then onBit v 2 doJnlCompact (onBit v 1 doJnlFind (onBit v 0 doJnlAppend s))
  else if a = 0x6014 then onBit v 2 doNorErase (onBit v 1 doNorProgram (onBit v 0 (doNorRead .ok) s))
  else s

/-- A write at offset `off` of ENGn (R53, R75, R77, R106). -/
def engWrite (n off v : Nat) (fs : List Fld) (s : State) : State :=
  let e := Fin.ofNat 17 n
  if off = 0 then
    let s := putFields (butLo [0] fs) v s
    let s := if s.bit (Reg.ENG_CTRL_ENABLE n) = v.testBit 0 then s else nextOr s (doEngEnable e (v.testBit 0) s)
    onBit v 2 (doEngStep e .ok .ok .ok) s
  else if 0x20 ≤ off ∧ off < 0x40 then
    let k := (off - 0x20) / 8
    if off % 8 = 0 then nextOr s (doHinLoWrite e (Fin.ofNat 4 k) (BitVec.ofNat 32 v) s)
    else s.wr (Reg.ENG_HIN_HI_DATA (s.hostOwner n) k) v
  else if off = 0x78 ∧ n = 16 then
    onBit v 0 (doSubstForce (Fin.ofNat 16 (v / 16))) (onBit v 1 doSubstReturn (putFields fs v s))
  else putFields fs v s

/-- A write at offset `off` of SLOTn (R136). -/
def slotWrite (n off v : Nat) (fs : List Fld) (s : State) : State :=
  let m := Fin.ofNat 24 n
  if off < 0xC then nextOr s (doSlotCfgWrite m (Fin.ofNat 3 (off / 4)) (BitVec.ofNat 32 v) s)
  else if off = 0x24 then nextOr s (doSlotQualWrite m (BitVec.ofNat 32 v) s)
  else if off = 0x58 then onBit v 0 (doSlotRebase m) s
  else putFields fs v s

/-- A write at offset `off` of PATHn (R176, R177, R191): a change of the mode or the rate starts a segment. -/
def pathWrite (n off v : Nat) (fs : List Fld) (s : State) : State :=
  let p := Fin.ofNat 8 n
  if off = 0x18 then nextOr s (doPhaseStepCommit p (BitVec.ofNat 32 v) s)
  else if off = 0x34 then onBit v 0 (doStepCancel p) s
  else
    let t := putFields fs v s
    if (off = 0x10 ∨ off = 0x14) ∧ fs.any (fun f => decide (t.rd f ≠ s.rd f)) then newSegment n t else t

/-- A write at offset `off` of APLLn (R198, R209, R220): A8's plan registers ignore writes, and only A8 has a cover. -/
def apllWrite (n off v : Nat) (fs : List Fld) (s : State) : State :=
  let k := Fin.ofNat 9 n
  if off = 0 then
    let s := putFields (butLo [0] fs) v s
    if s.bit (Reg.APLL_CFG_EN n) = v.testBit 0 then s else nextOr s (doApllEnable k (v.testBit 0) s)
  else if n = 8 ∧ off < 0x14 then s
  else if off = 0x14 then
    let s := if v.testBit 1 then nextOr s (doApplyFull k s) else onBit v 0 (doApply k) s
    onBit v 2 (doCacheClr k) s
  else if off = 0x28 then
    let i := s.rd (Reg.APLL_CACHE_SEL_INDEX n)
    let x := s.apll n
    s.putApll n { x with cache := tabSet {} i { x.ent i with pin := v.testBit 30 } x.cache }
  else if off = 0x40 ∧ n = 8 then nextOr s (doApll8CoverWrite (BitVec.ofNat 32 v) s)
  else putFields fs v s

/-- A write at offset `off` of OUTn (R214, R222). -/
def outWrite (n off v : Nat) (fs : List Fld) (s : State) : State :=
  let o := Fin.ofNat 32 n
  if off = 0 then
    let s := putFields (butLo [0, 4] fs) v s
    let s := nextOr s (doOutSrcWrite o (Fin.ofNat 4 (v / 16)) s)
    nextOr s (doOutEnable o (v.testBit 0) s)
  else if off = 0x10 then nextOr s (doOutPhaseCommit o (BitVec.ofNat 32 v) s)
  else putFields fs v s

/-- A write in TDCn, TDCG or Mm (R260 to R265, R277, R278). -/
def tdcWrite (a v : Nat) (fs : List Fld) (s : State) : State :=
  if a < 0x289C0 then
    if (a - 0x28000) % 0x30 = 0x28 then onBit v 0 (doTdcCal (Fin.ofNat 52 ((a - 0x28000) / 0x30))) s else putFields fs v s
  else if a < 0x28A00 then
    if 0x289C4 ≤ a ∧ a < 0x289D4 then
      let k := Fin.ofNat 4 ((a - 0x289C4) / 4)
      let s := if s.spareState k = 0 then putFields fs v s else s
      onBit v 1 (doSpareRelease k) (onBit v 0 (doSpareTake k (Fin.ofNat 64 (v / 256))) s)
    else if a = 0x289D8 then onBit v 0 doCalAll s
    else putFields fs v s
  else
    let m := Fin.ofNat 16 ((a - 0x28A00) / 0x30)
    let off := (a - 0x28A00) % 0x30
    if off < 0x18 then nextOr s (doStatsCfgWrite m (Fin.ofNat 6 (off / 4)) (BitVec.ofNat 32 v) s)
    else if off = 0x18 then onBit v 1 (doStatsStop m) (onBit v 0 (doStatsStart m) s)
    else putFields fs v s

/-- A write in TSn or TGn (R230, R239, R246 to R248): SET and ADJ together are refused, and VAL_S_LO commits VAL_S. -/
def timeWrite (a v : Nat) (fs : List Fld) (s : State) : State :=
  if a < 0x30100 then
    let n := Fin.ofNat 4 ((a - 0x30000) / 0x40)
    if a % 0x40 = 4 then
      let s := if v.testBit 1 ∧ v.testBit 2 then s.wr (Reg.TS_STATUS_REJ n) 1
        else onBit v 2 (doTsAdj n) (onBit v 1 (doTsSet n) s)
      onBit v 0 (doTsCapture n) s
    else if a % 0x40 = 0x30 then
      (let s := putFields fs v s
       s.putTscale n { s.tscale n with hiS := s.rd (Reg.TS_VAL_S_HI_S n) })
    else putFields fs v s
  else
    let g := Fin.ofNat 32 ((a - 0x30100) / 0x18)
    let off := (a - 0x30100) % 0x18
    if off = 0 then
      let s := putFields fs v s
      if v.testBit 16 then s else nextOr s (doTriggerDisarm g s)
    else if off = 4 then nextOr s (doTriggerArm g (BitVec.ofNat 32 v) s)
    else putFields fs v s

/-- The free values that stand for the buffer addresses the device fetches with the descriptors a write of TAIL
adds (assumption 3). -/
def fetchBufs (n q tail : Nat) (s : State) : List (BitVec 64) × State :=
  let size := 2 ^ s.rd (Reg.ETH_RXQ_CFG_SIZE_LOG n q)
  let k := (tail + size - s.rd (Reg.ETH_RXQ_PTR_TAIL n q)) % size
  ((List.range k).map (fun i => BitVec.ofNat 64 (Config.free (s.free + i))), { s with free := s.free + k })

/-- A write of register `j` of queue `q` of port `n` (R310, R313, R325). -/
def queueWrite (n : Nat) (q : QueueId) (en : Fld) (j v : Nat) (fs : List Fld) (s : State) : State :=
  let m := Fin.ofNat 4 n
  if j = 0 then
    let s := putFields (butLo [31] fs) v s
    if s.bit en = v.testBit 31 then s else nextOr s (if v.testBit 31 then doQueueEnable m q s else doQueueDisable m q s)
  else if j = 3 then
    let p := match q with | .tx _ => ([], s) | .rx r => fetchBufs n r (v % 4096) s
    nextOr s (doTailWrite m q (BitVec.ofNat 12 v) p.1 p.2)
  else putFields fs v s

/-- A write at offset `off` of ETHn (R302, R313, R319, R321, R324 to R326). -/
def ethWrite (n off v : Nat) (fs : List Fld) (s : State) : State :=
  let m := Fin.ofNat 4 n
  if off = 0 then
    let s := putFields (butLo [31] fs) v s
    if s.bit (Reg.ETH_CTRL_EN n) = v.testBit 31 then s
    else nextOr s (if v.testBit 31 then doPortEnable m s else doPortDisable m s)
  else if off = 0x10 then rxLimitFollow n s (putFields fs v s)
  else if off = 0x1C then
    let s := putFields fs v s
    if v.testBit 31 then s else rxclkOff n s
  else if 0x40 ≤ off ∧ off < 0xC0 then
    let q := (off - 0x40) / 0x10
    queueWrite n (.tx (Fin.ofNat 8 q)) (Reg.ETH_TXQ_CFG_EN n q) (off % 0x10 / 4) v fs s
  else if 0xC0 ≤ off ∧ off < 0x100 then
    let q := (off - 0xC0) / 0x10
    queueWrite n (.rx (Fin.ofNat 4 q)) (Reg.ETH_RXQ_CFG_EN n q) (off % 0x10 / 4) v fs s
  else if off = 0x1E0 ∧ n = 0 then onBit v 0 doWakeClr (putFields fs v s)
  else putFields fs v s

/-- A write in TWIN, EVR or TST (R280, R291, R354, R373, R474, R480). -/
def lateWrite (a v : Nat) (fs : List Fld) (s : State) : State :=
  if a = 0x3C000 then
    let s := putFields (butLo [31] fs) v s
    nextOr s (if v.testBit 31 then doTwinEnable s else doTwinDisable s)
  else if a = 0x3C018 then onBit v 0 doTwinDemote (onBit v 1 doResetTwin s)
  else if 0x3E040 ≤ a ∧ a < 0x3E180 then
    let r := Fin.ofNat 8 ((a - 0x3E040) / 0x28)
    let off := (a - 0x3E040) % 0x28
    if off = 0 then
      let s := putFields (butLo [31] fs) v s
      if s.bit (Reg.EVR_RING_CFG_EN r) = v.testBit 31 then s
      else nextOr s (if v.testBit 31 then doRingEnable r s else doRingDisable r s)
    else if off = 0x10 then nextOr s (doRingRdWrite r (BitVec.ofNat 27 v) s)
    else putFields fs v s
  else if a = 0x3F004 then onBit v 0 doBistGo (putFields fs v s)
  else if a = 0x3F014 then onBit v 1 (doSaveApll false) (onBit v 0 (doSaveTdc false) s)
  else putFields fs v s

/-- The data of a write reach the fields `fs` of the register at `a`, and start what the register starts. -/
def regEffect (a v : Nat) (fs : List Fld) (s : State) : State :=
  if a < 0x1000 then devWrite a v fs s
  else if a < 0x3000 then pwrWrite a v fs s
  else if a < 0x4000 then fltWrite a v fs s
  else if a < 0x5000 then putFields fs v s
  else if a < 0x7000 then secWrite a v fs s
  else if a < 0x7880 then engWrite ((a - 0x7000) / 0x80) ((a - 0x7000) % 0x80) v fs s
  else if a < 0x10000 then putFields fs v s
  else if a < 0x20000 then slotWrite ((a - 0x10000) / 0x100) ((a - 0x10000) % 0x100) v fs s
  else if a < 0x24000 then pathWrite ((a - 0x20000) / 0x200) ((a - 0x20000) % 0x200) v fs s
  else if a < 0x26000 then apllWrite ((a - 0x24000) / 0x100) ((a - 0x24000) % 0x100) v fs s
  else if a < 0x28000 then outWrite ((a - 0x26000) / 0x40) ((a - 0x26000) % 0x40) v fs s
  else if a < 0x30000 then tdcWrite a v fs s
  else if a < 0x34000 then timeWrite a v fs s
  else if a < 0x38000 then ethWrite ((a - 0x34000) / 0x400) (a % 0x400) v fs s
  else if a < 0x3C000 then
    let n := Fin.ofNat 4 ((a - 0x38000) / 0x100)
    if a % 0x100 = 0 then nextOr s (doTxtsDestWrite n false (BitVec.ofNat 32 v) s)
    else if a % 0x100 = 0x34 then nextOr s (doTxtsDestWrite n true (BitVec.ofNat 32 v) s)
    else putFields fs v s
  else lateWrite a v fs s

/-- The WO fields among `fs` have been written (R16). -/
def markWo (fs : List Fld) (s : State) : State :=
  { s with wo := s.wo ++ (fs.filter (fun f => decide (f.acc = .wo) && !s.wo.contains f.key)).map Fld.key }

/-- A host write of `d` to the register at `a` (R15 to R17, R406): fields that R17 refuses are dropped, with
LOCK_VIOLATION; an address without a register takes nothing. -/
def regWrite (a : Nat) (d : Word32) (s : State) : State :=
  if fieldsAt a = [] then s
  else
    let fs := s.takers a
    let s := if s.violates a then s.raise 7 noInst a else s
    nextOr s (withWrite a (fun s => .next (regEffect a d.toNat fs (markWo fs s))) s)

end Sys2Proof.Machine
end

