-- ==== Sys2Proof/Machine/Host.lean ====
section
/-! DEFINITION. The register fabric's users: the indirect pairs, the LEG window, parity, SPI, I2C, PCIe and the TAP's
access (R295, R399 to R422, R483), and the commands that are one register access. -/
namespace Sys2Proof.Machine

/-! ### One access (R399 to R402, R404) -/

/-- What an access leaves: the state, the data of a read, and the flags of the next SPI status byte (R412). -/
structure Acc1 where
  s : State
  data : Word32 := 0
  flags : Nat := 0

/-- The flags of R412. -/
def flLock : Nat := 16
def flUnreach : Nat := 8
def flAddr : Nat := 4
def flOverflow : Nat := 2
def flFrame : Nat := 1
def flNotReady : Nat := 32

/-- An access to the register at `a` itself: a write with its data, or a read (R15, R23). -/
def direct (a : Nat) (w : Option Word32) (s : State) : Acc1 :=
  match w with
  | some d =>
    if s.reaches true a then { s := regWrite a d s, flags := flagIf (s.violates a && !(fieldsAt a).isEmpty) flLock }
    else { s := unreached a s, flags := flUnreach }
  | none =>
    if s.reaches false a then
      let t := readSide a s
      { s := t, data := t.readWord a }
    else { s := unreached a s, flags := flUnreach }

/-- An access to IXDn (R400): one island access at IXAn, which steps with AUTO_INC. -/
def pairAccess (n : Nat) (w : Option Word32) (s : State) : Acc1 :=
  let a := 4 * s.rd (Reg.IX_A_ADDR n)
  let s := if s.bit (Reg.IX_C_AUTO_INC n) then s.wr (Reg.IX_A_ADDR n) (s.rd (Reg.IX_A_ADDR n) + 1) else s
  if a < 0x10000 then { s := s.wr (Reg.IX_S_ADDR_ERR n) 1, flags := flAddr }
  else
    let r := direct a w s
    if r.flags = flUnreach then { r with s := r.s.wr (Reg.IX_S_UNREACH n) 1 }
    else { r with s := r.s.wrs [(Reg.IX_S_ADDR_ERR n, 0), (Reg.IX_S_UNREACH n, 0)] }

/-! ### The LEG window (R408 to R410) -/

/-- The native target of LEG register `i`; `none` where it has none (R408). -/
def legTarget (i : Nat) : Option Nat :=
  let o := 4 * i
  if 0x40 ≤ o ∧ o < 0x140 then some (0x10000 + 0x100 * ((o - 0x40) / 0x10) + [0x0, 0x4, 0x8, 0x24].getD (o % 0x10 / 4) 0)
  else if 0x140 ≤ o ∧ o < 0x1C0 then some (0x26000 + 0x40 * ((o - 0x140) / 8) + (if o % 8 = 0 then 0 else 0xC))
  else if 0x1C0 ≤ o ∧ o < 0x200 then
    let p := (o - 0x1C0) / 0x20
    let r := (o - 0x1C0) % 0x20 / 4
    some (if r < 5 then 0x34000 + 0x400 * p + [0x0, 0x8, 0xC, 0x10, 0x1C].getD r 0 else 0x38000 + 0x100 * p + [0x0, 0x8, 0xC].getD (r - 5) 0)
  else if 0x200 ≤ o ∧ o < 0x250 then some (0x28000 + 0x30 * (38 + (o - 0x200) / 8) + (if o % 8 = 0 then 0 else 8))
  else none

/-- Is LEG register `i` one of the table of R408? -/
def legExists (i : Nat) : Bool := decide (i < 2 ∨ (16 ≤ i ∧ i < 256))

/-- The bits of LEG register `i`: the layout of its target (R408). -/
def legMask (i : Nat) : Nat :=
  match legTarget i with
  | some a => ((fieldsAt a).filter (fun f => !f.absent)).foldl (fun m f => m + (2 ^ f.width - 1) * 2 ^ f.lo) 0
  | none => 2 ^ 32 - 1

/-- The reset value of LEG register `i`: that of its target (R408). -/
def legReset (i : Nat) : LegReg :=
  let v := match legTarget i with
    | some a => ((fieldsAt a).filter (fun f => !f.absent)).foldl (fun m f => m + f.reset * 2 ^ f.lo) 0
    | none => if i = 0 then 0x510000B0 else 0
  { a := v, b := v, c := v }

/-- The copies of LEG register `i`. -/
def State.legCopies (s : State) (i : Nat) : LegReg := tabGet (legReset i) i s.host.leg
/-- Put the copies of LEG register `i`. -/
def State.putLeg (s : State) (i : Nat) (x : LegReg) : State :=
  { s with host := { s.host with leg := tabSet (legReset i) i x s.host.leg } }

/-- The bitwise majority of three copies (R409). -/
def LegReg.vote (x : LegReg) : Nat := (x.a &&& x.b) ||| (x.a &&& x.c) ||| (x.b &&& x.c)

/-- A write of LEG register `i` (R410): three copies, then the native target, or UNMAPPED. -/
def legWrite (i : Nat) (d : Word32) (s : State) : Acc1 :=
  if !legExists i then { s := s }
  else
    let v := d.toNat &&& legMask i
    let s := if i = 0 then s else s.putLeg i { a := v, b := v, c := v }
    match legTarget i with
    | some a => direct a (some (BitVec.ofNat 32 v)) s
    | none => { s := s.bump Reg.HOST_LEG_STATUS_UNMAPPED }

/-! ### The home window (R398, R399) -/

/-- Is `a` IXDn of some pair? -/
def isIxd (a : Nat) : Bool := decide (0x8000 ≤ a ∧ a < 0x8100 ∧ a % 0x10 = 4)

/-- An access to register address `a` (R398): a pair's data register and LEG have their own rule. -/
def fabric (a : Nat) (w : Option Word32) (s : State) : Acc1 :=
  if isIxd a && s.reaches w.isSome a then pairAccess ((a - 0x8000) / 0x10) w s
  else if 0x9000 ≤ a ∧ a < 0x9400 ∧ a % 4 = 0 ∧ s.reaches w.isSome a then
    let i := (a - 0x9000) / 4
    match w with
    | some d => legWrite i d s
    | none => { s := s, data := if legExists i then BitVec.ofNat 32 (s.legCopies i).vote else 0 }
  else direct a w s

/-- An access at an address given directly on an interface: an island address is an address error (R399). -/
def homeAccess (a : Nat) (w : Option Word32) (s : State) : Acc1 :=
  if a < 0x10000 then fabric a w s else { s := s, flags := flAddr }

/-- The address after a word (R414, R415): IXDn stays. -/
def nextAddr (a : Nat) : Nat := if isIxd a then a else a + 4

/-- Is a frame's address an error: an island address, or bits [1:0] not 0 (R399, R414, R416)? -/
def badAddr (a : Nat) : Bool := decide (0x10000 ≤ a ∨ a % 4 ≠ 0)

/-- What a run of accesses leaves: the state, the flags, the words read oldest first with their addresses, and the
address after the last. -/
structure Burst where
  s : State
  flags : Nat := 0
  got : List (Nat × Word32) := []
  addr : Nat

/-- One more access of a burst. -/
def Burst.more (b : Burst) (w : Option Word32) : Burst :=
  let r := homeAccess b.addr w b.s
  { s := r.s, flags := b.flags ||| r.flags, got := b.got ++ [(b.addr, r.data)], addr := nextAddr b.addr }

/-- `n` reads from address `a` on. -/
def readBurst (a n : Nat) (s : State) : Burst := (List.range n).foldl (fun b _ => b.more none) { s := s, addr := a }

/-- Writes of `l` from address `a` on. -/
def writeBurst (a : Nat) (l : List Word32) (s : State) : Burst := l.foldl (fun b w => b.more (some w)) { s := s, addr := a }

/-- Do SPI and I2C answer: after the loads of POR (R427)? -/
def State.portsReady (s : State) : Bool := s.hostAlive && s.host.ready

/-- Count in a HOST register, which does not run in DOZE. -/
def hostCount (f : Fld) (s : State) : State := if s.rd Reg.PWR_STATUS_STATE = 2 then s else s.bump f

/-! ### Rows of the fabric -/

/-- REGISTER_WRITE (R15 to R17). -/
def execRegisterWrite (addr : BitVec 18) (data : BitVec 32) (s : State) : Out :=
  .next (if s.hostAlive then (fabric addr.toNat (some data) s).s else s)

/-- PAIR_LO_READ (R75): the LO half is answered, and its HI half captured. -/
def execPairLoRead (addr : BitVec 18) (s : State) : Out :=
  .next (if s.hostAlive then
    let r := fabric addr.toNat none s
    { r.s with hostRead := [r.data] }
  else s)

/-- TXTS_ID_READ (R340): the oldest entry of the two-step queue moves into the registers and is answered. -/
def execTxtsIdRead (n : Fin 4) (s : State) : Out :=
  hostRead (Reg.PTP_TXTS_ID_VALID n).addr (fun s =>
    let t := txtsTake n s
    .next { t with hostRead := [t.readWord (Reg.PTP_TXTS_ID_VALID n).addr] }) s

/-- IXA_WRITE (R400, R401). -/
def execIxaWrite (n : Fin 16) (data : BitVec 32) (s : State) : Out :=
  .next (if s.hostAlive then (fabric (0x8000 + 0x10 * n.val) (some data) s).s else s)

/-- IXD_ACCESS (R400). -/
def execIxdAccess (n : Fin 16) (w : Option (BitVec 32)) (s : State) : Out :=
  .next (if s.hostAlive then
    let r := fabric (0x8004 + 0x10 * n.val) w s
    if w.isSome then r.s else { r.s with hostRead := [r.data] }
  else s)

/-- LEG_WRITE (R410). -/
def execLegWrite (idx : Fin 256) (data : BitVec 32) (s : State) : Out :=
  .next (if s.hostAlive then (fabric (0x9000 + 4 * idx.val) (some data) s).s else s)

/-! ### SPI (R411 to R414) -/

/-- The status byte (R412). -/
def State.spiByte (s : State) : Nat := flagIf s.irqLow 128 + flagIf s.crimson 64 + s.host.spiFlags % 64

/-- A frame shifts the status byte, whose bits [5:0] then clear. -/
def spiBegin (s : State) : State :=
  let b := s.spiByte
  let s := { s with host := { s.host with spiFlags := 0 } }
  if s.rd Reg.PWR_STATUS_STATE = 2 then s else s.wr Reg.HOST_SPI_STATUS_LAST b

/-- Add flags for the next status byte. -/
def spiFlag (f : Nat) (s : State) : State := { s with host := { s.host with spiFlags := s.host.spiFlags ||| f } }

/-- The held result is discarded (R413). -/
def holdDrop (s : State) : State :=
  if s.host.held.isNone then s
  else hostCount Reg.HOST_SPI_STATUS_HOLD_DROP { s with host := { s.host with held := none } }

/-- The read issued last becomes the held result (R413). -/
def holdLast (l : List (Nat × Word32)) (s : State) : State :=
  match l.getLast? with
  | some p => { s with host := { s.host with held := some (p.1, p.2.toNat) } }
  | none => s

/-- SPI_READ (R411 to R414): the reads of the words shifted, then one issued ahead, whose result is held; a held
result at the frame's address is the first word. A word not ready when due ends the reading, and its late result is
held. What is answered is the status byte and the words shifted. -/
def execSpiRead (addr : BitVec 24) (x : SpiReadIn) (s : State) : Out :=
  if !s.portsReady then .next s
  else
    let a := addr.toNat
    let b := BitVec.ofNat 32 s.spiByte
    let s := spiBegin s
    if badAddr a then
      .next { spiFlag flAddr (holdDrop s) with hostRead := b :: List.replicate x.n 0 }
    else
      let first := match s.host.held with | some h => if h.1 = a then [(h.1, BitVec.ofNat 32 h.2)] else [] | none => []
      let s := if first.isEmpty then holdDrop s else { s with host := { s.host with held := none } }
      let late := match x.late with | some k => if first.length ≤ k ∧ k ≤ x.n then some k else none | none => none
      let issued := late.getD x.n + 1 - first.length
      let r := readBurst (if first.isEmpty then a else nextAddr a) issued s
      let words := (first ++ r.got).map (·.2)
      let shown := words.take (min x.n (late.getD x.n))
      let s := spiFlag (r.flags ||| flagIf late.isSome flNotReady) (holdLast r.got r.s)
      .next { s with hostRead := b :: shown ++ List.replicate (x.n - shown.length) 0 }

/-- The words that reach the write buffer (R414): it fills only while writes through a pair wait on an unreachable
island, and takes 8. -/
def State.buffered (s : State) (a : Nat) (words : List Word32) (drop : List Nat) : List Word32 :=
  if isIxd a && !s.reaches true (4 * s.rd (Reg.IX_A_ADDR ((a - 0x8000) / 0x10))) then
    ((List.range words.length).filter (fun k => !(decide (8 ≤ k) && drop.contains k))).map (fun k => words.getD k 0)
  else words

/-- SPI_WRITE (R411, R412, R414): `partWord` where SPI_CS_N rises inside a word; `drop` names the words that find the
buffer full. -/
def execSpiWrite (addr : BitVec 24) (words : List (BitVec 32)) (partWord : Bool) (drop : List Nat) (s : State) : Out :=
  if !s.portsReady then .next s
  else
    let a := addr.toNat
    let s := spiFlag (flagIf partWord flFrame) (holdDrop (spiBegin s))
    .next (if badAddr a then spiFlag flAddr s
    else
      let l := s.buffered a words drop
      let r := writeBurst a l s
      spiFlag (r.flags ||| flagIf (decide (l.length < words.length)) flOverflow) r.s)

/-- SPI_STATUS (R412): a STATUS frame is the command byte alone; any other frame without an access sets BAD_FRAME. A
frame that ends inside its command has shifted no whole status byte. -/
def execSpiStatus (bad : SpiBad) (s : State) : Out :=
  if !s.portsReady then .next s
  else
    let b := BitVec.ofNat 32 s.spiByte
    .next (match bad with
    | .none => { spiBegin s with hostRead := [b] }
    | .inCommand => spiFlag flFrame s
    | .unknown | .inAddress => { spiFlag flFrame (spiBegin s) with hostRead := [b] })

/-! ### I2C (R415, R416) -/

/-- I2C_WRITE (R415, R416): a bad address is not acknowledged, and nothing is accessed. -/
def execI2cWrite (addr : BitVec 24) (words : List (BitVec 32)) (partWord : Bool) (s : State) : Out :=
  let a := addr.toNat
  if !s.portsReady ∨ badAddr a then .next s
  else
    let r := writeBurst a words s
    let s := if words.isEmpty then r.s else { r.s with host := { r.s.host with i2cAddr := r.addr } }
    .next (if partWord then hostCount Reg.HOST_I2C_STATUS_PARTIAL s else s)

/-- Reads of `n` words from address `a` on, at least the one that the acknowledged address makes (R416). -/
def i2cReads (a n : Nat) (s : State) : State :=
  let r := readBurst a (max 1 n) s
  { r.s with hostRead := (r.got.map (·.2)).take n, host := { r.s.host with i2cAddr := r.addr } }

/-- I2C_READ (R415, R416). -/
def execI2cRead (addr : BitVec 24) (n : Nat) (s : State) : Out :=
  .next (if !s.portsReady ∨ badAddr addr.toNat then s else i2cReads addr.toNat n s)

/-- I2C_CURRENT_READ (R415): from the address after the last word transferred. -/
def execI2cCurrentRead (n : Nat) (s : State) : Out := .next (if s.portsReady then i2cReads s.host.i2cAddr n s else s)

/-- I2C_TIMEOUT (R416): the transfer is abandoned. -/
def execI2cTimeout (s : State) : Out :=
  .next (if s.portsReady then hostCount Reg.HOST_I2C_STATUS_TIMEOUT s else s)

/-! ### PCIe (R295, R390, R417 to R419) -/

/-- Does the endpoint take requests: the PCIE island is up, outside DOZE and OFF, and the link is up (R417, R435)? -/
def State.pcieUp (s : State) : Bool :=
  s.hostAlive && decide (s.rd Reg.PWR_STATUS_STATE < 2) && s.reachable 2 && s.bit Reg.HOST_STATUS_PCIE_LINK

/-- Is vector `v` unmasked, with MSI-X enabled (R390)? -/
def State.msixOpen (s : State) (v : Nat) : Bool :=
  s.bit Reg.HOST_STATUS_MSIX_EN && !s.host.fmask && decide (s.msixWord (4 * v + 3) % 2 = 0)

/-- Pending messages whose vector is unmasked are sent (R390). -/
def msixFlush (s : State) : State :=
  s.flt.msiPending.foldl (fun s v =>
    if s.msixOpen v then msixSend v { s with flt := { s.flt with msiPending := s.flt.msiPending.erase v } } else s) s

/-- Frames that wait for a HOST ring go on once the endpoint masters the bus (R309). -/
def hostRings (s : State) : State := forRange 4 (fun n s => forRange 4 (fun q s => rxDeliver n q s) s) s

/-- DWORD `j` of the MSI-X pending-bit array (R418). -/
def State.pba (s : State) (j : Nat) : Nat := maskOf (fun i => s.flt.msiPending.contains (32 * j + i))

/-- One DWORD read of BAR0 (R418). -/
def bar0Read (o : Nat) (s : State) : Acc1 :=
  if o < 0x10000 then fabric o none s
  else if o < 0x10800 then { s := s, data := BitVec.ofNat 32 (s.msixWord ((o - 0x10000) / 4)) }
  else if 0x18000 ≤ o ∧ o < 0x18010 then { s := s, data := BitVec.ofNat 32 (s.pba ((o - 0x18000) / 4)) }
  else { s := s }

/-- One DWORD of a write to BAR0 (R418, R419). -/
def bar0Write (o : Nat) (x : PcieDw) (s : State) : State :=
  if x.be ≠ 15#4 then s.bump Reg.HOST_PCIE_STATUS_PARTIAL
  else if o < 0x10000 then (fabric o (some x.data) s).s
  else if o < 0x10800 then
    let i := (o - 0x10000) / 4
    let v := if i % 4 = 3 then x.data.toNat % 2 else x.data.toNat
    msixFlush { s with host := { s.host with msix := tabSet (msixDef i) i v s.host.msix } }
  else s

/-- PCIE_READ (R419): the DWORDs of the request in ascending address. -/
def execPcieRead (off : BitVec 17) (n : Nat) (s : State) : Out :=
  .next (if !s.pcieUp then s
  else
    let o := off.toNat / 4 * 4
    let r := (List.range n).foldl (fun (p : State × List Word32) i =>
      let x := bar0Read (o + 4 * i) p.1
      (x.s, p.2 ++ [x.data])) (s, [])
    { r.1 with hostRead := r.2 })

/-- PCIE_WRITE (R419). -/
def execPcieWrite (off : BitVec 17) (words : List PcieDw) (s : State) : Out :=
  .next (if !s.pcieUp then s
  else
    let o := off.toNat / 4 * 4
    (List.range words.length).foldl (fun s i => bar0Write (o + 4 * i) (words.getD i ⟨0, 0⟩) s) s)

/-- PCIE_PERST (R417): the PCIE island is reset. -/
def execPciePerst (s : State) : Out :=
  .next { s.wrs [(Reg.HOST_STATUS_PCIE_LINK, 0), (Reg.HOST_STATUS_BME, 0), (Reg.HOST_STATUS_MSIX_EN, 0),
      (Reg.HOST_PCIE_STATUS_WIDTH, 0), (Reg.HOST_PCIE_STATUS_SPEED, 0)] with
    host := { s.host with msix := [], fmask := false, d3 := false, poison := false }
    flt := { s.flt with msiPending := [] } }

/-- PCIE_LINK_UP (R417, R421). DEDUCED (assumption 6): a PCIE island whose clock has stopped trains once that clock runs
again. -/
def execPcieLinkUp (width : Fin 16) (speed : Fin 16) (s : State) : Out :=
  let s := { s with clk := { s.clk with stopped := maskClr s.clk.stopped 2 } }
  .next (if s.hostAlive ∧ s.rd Reg.PWR_STATUS_STATE < 2 ∧ s.reachable 2 then
    hostRings (s.wrs [(Reg.HOST_STATUS_PCIE_LINK, 1), (Reg.HOST_PCIE_STATUS_WIDTH, width), (Reg.HOST_PCIE_STATUS_SPEED, speed)])
  else s)

/-- PCIE_LINK_DOWN (R417, R421). -/
def execPcieLinkDown (s : State) : Out := .next (s.wr Reg.HOST_STATUS_PCIE_LINK 0)

/-- PCIE_CONFIG_WRITE (R309, R390, R417): pending messages whose vector is unmasked are sent, and HOST rings go on. -/
def execPcieConfigWrite (x : PcieCfg) (s : State) : Out :=
  .next (if !s.pcieUp then s
  else
    let put (f : Fld) (v : Option Bool) (s : State) : State := match v with | some b => s.wrb f b | none => s
    let s := put Reg.HOST_STATUS_MSIX_EN x.msixEn (put Reg.HOST_STATUS_BME x.bme s)
    hostRings (msixFlush { s with host := { s.host with fmask := x.fmask.getD s.host.fmask, d3 := x.d3.getD s.host.d3 } }))

/-- BAR2_READ (R292, R295): an aligned word of the DRAM, poisoned where it is uncorrectable. What a read answers before
READY, of an EVR island that is down, or with a poisoned word, the spec does not give (assumption 3). -/
def execBar2Read (addr : BitVec 27) (dword : Bool) (ecc : Ecc) (s : State) : Out :=
  if !s.pcieUp then .next s
  else
    let i := addr.toNat / 8
    let cut (w : Word64) : List Word32 :=
      if dword then [if addr.toNat / 4 % 2 = 0 then w.truncate 32 else (w >>> 32).truncate 32]
      else [w.truncate 32, (w >>> 32).truncate 32]
    let f := s.takeFree
    if !s.bit Reg.EVR_STATUS_READY ∨ !s.reachable 25 then .next { f.2 with hostRead := cut (BitVec.ofNat 64 f.1) }
    else if s.dramFinds i ecc = .double then
      let t := dramEcc i ecc f.2
      .next { t with hostRead := cut (BitVec.ofNat 64 f.1), host := { t.host with poison := true } }
    else
      let t := dramEcc i ecc s
      .next { t with hostRead := cut (s.dramWord i), host := { t.host with poison := false } }

/-! ### Parity and the LEG vote (R405 to R409) -/

/-- The fields that the parity bit of the register at `a` covers (R405); the indirect pairs and LEG carry none. -/
def parityFields (a : Nat) : List Fld :=
  if 0x8000 ≤ a ∧ a < 0x10000 then []
  else (fieldsAt a).filter (fun f => decide (f.acc ∈ [.rw, .lck, .wo, .sh]) && !f.absent)

/-- The bits of `flip` that lie in a field. -/
def flipIn (f : Fld) (flip : Nat) : Nat := flip / 2 ^ f.lo % 2 ^ f.width

/-- The upset bits change the stored fields of the register (R405). -/
def flipBits (u : RegUpset) (s : State) : State :=
  let a := u.addr.toNat
  (parityFields a).foldl (fun s f => s.wr f (Nat.xor (s.rd f) (flipIn f u.flip.toNat))) s

/-- Have the covered bits of a register flipped an odd number of times? -/
def oddFlips (u : RegUpset) : Bool :=
  decide (((parityFields u.addr.toNat).map (fun f => ((List.range f.width).filter (Nat.testBit (flipIn f u.flip.toNat))).length)).sum % 2 = 1)

/-- What the block of the register at `a` does when its mismatch is found (R405). -/
def holdBegin (a : Nat) (s : State) : State :=
  if 0x26000 ≤ a ∧ a < 0x26800 then
    let o := (a - 0x26000) / 0x40
    s.putOutp o { s.outp o with frozen := some (s.outTarget o) }
  else if 0x28A00 ≤ a ∧ a < 0x28D00 then
    let m := (a - 0x28A00) / 0x30
    if s.grpRunning m then (grpBegin m s).wr (Reg.M_STATUS_RUNNING m) 0 else s
  else if 0x30100 ≤ a ∧ a < 0x30400 then s.wr (Reg.TG_STATUS_ARMED ((a - 0x30100) / 0x18)) 0
  else s

/-- The mismatch of the register at `a` is found: it waits to be listed. -/
def parityFound (a : Nat) (s : State) : State :=
  let s := holdBegin a s
  ({ s with host := { s.host with unlisted := s.host.unlisted ++ [a] } }).bump Reg.HOST_PARITY_FOUND

/-- The scrubber checks one register; a slot shows what its bits and its mismatch make of it (R132). -/
def scrubOne (u : RegUpset) (s : State) : State :=
  let a := u.addr.toNat
  let check (s : State) : State :=
    let s := flipBits u s
    if oddFlips u && !s.mismatched a then parityFound a s else s
  if slotAddr a then slotStateChange ((a - 0x10000) / 0x100) check s else check s

/-- The mismatches found are listed while fewer than 16 are (R407). -/
def parityList (s : State) : State :=
  let k := 16 - s.parity.length
  let rest := s.host.unlisted.drop k
  let first := s.host.unlisted.headD 0
  let s := { s with parity := s.parity ++ s.host.unlisted.take k, host := { s.host with unlisted := rest } }
  (s.wrb Reg.HOST_PARITY_OVF (!rest.isEmpty)).level 6 noInst (!s.parity.isEmpty) first

/-- The vote of LEG register `i` rewrites the copies that disagree (R409). -/
def legCorrect (i : Nat) (s : State) : State :=
  let x := s.legCopies i
  let v := x.vote
  let k := (decide (x.a ≠ v)).toNat + (decide (x.b ≠ v)).toNat + (decide (x.c ≠ v)).toNat
  (s.putLeg i { a := v, b := v, c := v }).bump Reg.HOST_LEG_STATUS_CORRECTED k

/-- An upset in a copy of a LEG register; LEG.ID is not stored. -/
def legFlip (u : LegUpset) (s : State) : State :=
  let i := u.idx.val
  let x := s.legCopies i
  let m := u.flip.toNat &&& legMask i
  if i = 0 ∨ !legExists i then s
  else s.putLeg i (match u.copy.val with
    | 0 => { x with a := Nat.xor x.a m } | 1 => { x with b := Nat.xor x.b m } | _ => { x with c := Nat.xor x.c m })

/-- PARITY_SCRUB (R405 to R409): one walk, over the upsets since the last in its order. OUT_ERR and the receive queues follow
the bits that the registers now hold. -/
def execParityScrub (found : List RegUpset) (leg : List LegUpset) (s : State) : Out :=
  .next (if !s.hostAlive ∨ s.rd Reg.PWR_STATUS_STATE = 2 then s
  else
    let old := s
    let s := parityList (found.foldl (fun s u => scrubOne u s) s)
    let s := leg.foldl (fun s u => legFlip u s) s
    let s := leg.foldl (fun s u => legCorrect u.idx.val s) s
    outErrs (forRange 4 (fun n => rxLimitFollow n old) s))

/-! ### The TAP (R483) -/

/-- JTAG_FABRIC (R483): with the debug gate OPEN, an access of the register fabric as a fourth interface; otherwise the
bypass register. -/
def execJtagFabric (acc : Option FabricAcc) (s : State) : Out :=
  .next (if !s.gateOpen then tapSelect 0xFF s
  else
    let s := tapSelect 0x40 s
    match acc with
    | none => s
    | some x =>
      if !s.hostAlive ∨ badAddr x.addr.toNat then (if x.w.isSome then s else { s with hostRead := [0] })
      else
        let r := homeAccess x.addr.toNat x.w s
        if x.w.isSome then r.s else { r.s with hostRead := [r.data] })

/-! ### Commands that are one register access (R16, R23) -/

/-- DEV_CLK_START (R25 to R28, R30). -/
def execDevClkStart (s : State) : Out :=
  hostCmd Reg.DEV_CLK_CMD_START.addr doDevClkStart s
/-- HIN_LO_WRITE (R75, R53). -/
def execHinLoWrite (e : Fin 17) (k : Fin 4) (data : BitVec 32) (s : State) : Out :=
  hostCmd (Reg.ENG_HIN_LO_DATA e k).addr (doHinLoWrite e k data) s
/-- HOUT_LO_READ (R75, R53). -/
def execHoutLoRead (e : Fin 17) (k : Fin 4) (s : State) : Out :=
  hostRead (Reg.ENG_HOUT_LO_DATA e k).addr (doHoutLoRead e k) s
/-- ENG_ENABLE (R77). -/
def execEngEnable (e : Fin 17) (on : Bool) (s : State) : Out :=
  hostCmd (Reg.ENG_CTRL_ENABLE e).addr (doEngEnable e on) s
/-- ENG_HALT (R77). -/
def execEngHalt (e : Fin 17) (on : Bool) (s : State) : Out :=
  hostCmd (Reg.ENG_CTRL_ENABLE e).addr (doEngHalt e on) s
/-- ENG_STEP (R77). -/
def execEngStep (e : Fin 17) (f : Ecc) (ecc : Ecc × Ecc) (s : State) : Out :=
  hostCmd (Reg.ENG_CTRL_ENABLE e).addr (doEngStep e f ecc.1 ecc.2) s
/-- BELL_PERIOD_WRITE (R85). -/
def execBellPeriodWrite (period : BitVec 25) (s : State) : Out :=
  hostCmd Reg.DEV_BELL_PERIOD.addr (doBellPeriodWrite period) s
/-- IMAGE_LOAD (R95). -/
def execImageLoad (s : State) : Out :=
  hostCmd Reg.DEV_LOAD_CMD_LOAD.addr doImageLoad s
/-- SUBST_FORCE (R106). -/
def execSubstForce (target : Fin 16) (s : State) : Out :=
  hostCmd (Reg.ENG_SUBST_FORCE 16).addr (doSubstForce target) s
/-- SUBST_RETURN (R103). -/
def execSubstReturn (s : State) : Out :=
  hostCmd (Reg.ENG_SUBST_FORCE 16).addr doSubstReturn s
/-- SLOT_CFG_WRITE (R110, R113, R136). -/
def execSlotCfgWrite (n : Fin 24) (reg : Fin 3) (data : BitVec 32) (s : State) : Out :=
  hostCmd ((Reg.SLOT_CFG_PATH n).addr + 4 * reg.val) (doSlotCfgWrite n reg data) s
/-- SLOT_REBASE (R113). -/
def execSlotRebase (n : Fin 24) (s : State) : Out :=
  hostCmd (Reg.SLOT_CMD_REBASE n).addr (doSlotRebase n) s
/-- SLOT_QUAL_WRITE (R132, R136). -/
def execSlotQualWrite (n : Fin 24) (data : BitVec 32) (s : State) : Out :=
  hostCmd (Reg.SLOT_QUAL_EXCLUDE n).addr (doSlotQualWrite n data) s
/-- IRIG_TOD_READ (R138). -/
def execIrigTodRead (n : Fin 4) (s : State) : Out :=
  hostRead (Reg.SLOT_IRIG_TOD_DAY n).addr (doIrigTodRead n) s
/-- PHASE_STEP_COMMIT (R176). -/
def execPhaseStepCommit (p : Fin 8) (lo : BitVec 32) (s : State) : Out :=
  hostCmd (Reg.PATH_PHASE_STEP_LO_AMOUNT_LO p).addr (doPhaseStepCommit p lo) s
/-- STEP_CANCEL (R177). -/
def execStepCancel (p : Fin 8) (s : State) : Out :=
  hostCmd (Reg.PATH_STEP_CMD_CANCEL p).addr (doStepCancel p) s
/-- APPLY (R199). -/
def execApply (k : Fin 9) (s : State) : Out :=
  hostCmd (Reg.APLL_CMD_APPLY k).addr (doApply k) s
/-- APPLY_FULL (R201). -/
def execApplyFull (k : Fin 9) (s : State) : Out :=
  hostCmd (Reg.APLL_CMD_APPLY k).addr (doApplyFull k) s
/-- CACHE_CLR (R198). -/
def execCacheClr (k : Fin 9) (s : State) : Out :=
  hostCmd (Reg.APLL_CMD_APPLY k).addr (doCacheClr k) s
/-- APLL_ENABLE (R201, R209, R220). -/
def execApllEnable (k : Fin 9) (on : Bool) (s : State) : Out :=
  hostCmd (Reg.APLL_CFG_EN k).addr (doApllEnable k on) s
/-- APLL8_COVER_WRITE (R209, R210, R481). -/
def execApll8CoverWrite (data : BitVec 32) (s : State) : Out :=
  hostCmd (Reg.APLL_COVER_APLL 8).addr (doApll8CoverWrite data) s
/-- OUT_SRC_WRITE (R206, R208, R222, R481). -/
def execOutSrcWrite (o : Fin 32) (src : Fin 4) (s : State) : Out :=
  hostCmd (Reg.OUT_CFG_SRC o).addr (doOutSrcWrite o src) s
/-- OUT_ENABLE (R206, R222). -/
def execOutEnable (o : Fin 32) (on : Bool) (s : State) : Out :=
  hostCmd (Reg.OUT_CFG_SRC o).addr (doOutEnable o on) s
/-- OUT_PHASE_COMMIT (R214, R215). -/
def execOutPhaseCommit (o : Fin 32) (lo : BitVec 32) (s : State) : Out :=
  hostCmd (Reg.OUT_PHASE_LO_PHASE o).addr (doOutPhaseCommit o lo) s
/-- TS_SET (R230, R231, R489). -/
def execTsSet (n : Fin 4) (s : State) : Out :=
  hostCmd (Reg.TS_CMD_SET n).addr (doTsSet n) s
/-- TS_ADJ (R230, R231, R489). -/
def execTsAdj (n : Fin 4) (s : State) : Out :=
  hostCmd (Reg.TS_CMD_SET n).addr (doTsAdj n) s
/-- TS_CAPTURE (R232). -/
def execTsCapture (n : Fin 4) (s : State) : Out :=
  hostCmd (Reg.TS_CMD_SET n).addr (doTsCapture n) s
/-- TRIGGER_ARM (R239). -/
def execTriggerArm (g : Fin 32) (lo : BitVec 32) (s : State) : Out :=
  hostCmd (Reg.TG_TIME_LO_T g).addr (doTriggerArm g lo) s
/-- TRIGGER_DISARM (R238, R239, R248). -/
def execTriggerDisarm (g : Fin 32) (s : State) : Out :=
  hostCmd (Reg.TG_CFG_EN g).addr (doTriggerDisarm g) s
/-- UART_ENABLE (R241, R249). -/
def execUartEnable (u : Fin 2) (data : BitVec 32) (s : State) : Out :=
  hostCmd (Reg.DEV_UART_CFG_EN u).addr (doUartEnable u data) s
/-- TDC_CAL (R260). -/
def execTdcCal (ch : Fin 52) (s : State) : Out :=
  hostCmd (Reg.TDC_CMD_CAL ch).addr (doTdcCal ch) s
/-- CAL_ALL (R260). -/
def execCalAll (s : State) : Out :=
  hostCmd Reg.TDCG_CAL_CMD_ALL.addr doCalAll s
/-- SPARE_TAKE (R262). -/
def execSpareTake (k : Fin 4) (role : Fin 64) (s : State) : Out :=
  hostCmd (Reg.TDCG_SPARE_TAKE k).addr (doSpareTake k role) s
/-- SPARE_RELEASE (R262). -/
def execSpareRelease (k : Fin 4) (s : State) : Out :=
  hostCmd (Reg.TDCG_SPARE_TAKE k).addr (doSpareRelease k) s
/-- STATS_START (R265). -/
def execStatsStart (m : Fin 16) (s : State) : Out :=
  hostCmd (Reg.M_CMD_START m).addr (doStatsStart m) s
/-- STATS_STOP (R265). -/
def execStatsStop (m : Fin 16) (s : State) : Out :=
  hostCmd (Reg.M_CMD_START m).addr (doStatsStop m) s
/-- STATS_CFG_WRITE (R265). -/
def execStatsCfgWrite (m : Fin 16) (reg : Fin 6) (data : BitVec 32) (s : State) : Out :=
  hostCmd (statsAddr m reg) (doStatsCfgWrite m reg data) s
/-- RING_ENABLE (R280). -/
def execRingEnable (r : Fin 8) (s : State) : Out :=
  hostCmd (Reg.EVR_RING_CFG_EN r).addr (doRingEnable r) s
/-- RING_DISABLE (R280). -/
def execRingDisable (r : Fin 8) (s : State) : Out :=
  hostCmd (Reg.EVR_RING_CFG_EN r).addr (doRingDisable r) s
/-- RING_RD_WRITE (R291, R300). -/
def execRingRdWrite (r : Fin 8) (off : BitVec 27) (s : State) : Out :=
  hostCmd (Reg.EVR_RING_RD_OFFSET r).addr (doRingRdWrite r off) s
/-- PORT_ENABLE (R302, R482). -/
def execPortEnable (n : Fin 4) (s : State) : Out :=
  hostCmd (Reg.ETH_CTRL_EN n).addr (doPortEnable n) s
/-- PORT_DISABLE (R302, R319). -/
def execPortDisable (n : Fin 4) (s : State) : Out :=
  hostCmd (Reg.ETH_CTRL_EN n).addr (doPortDisable n) s
/-- WAKE_CLR (R321, R326). -/
def execWakeClr (s : State) : Out :=
  hostCmd (Reg.ETH_WAKE_CFG_CLR 0).addr doWakeClr s
/-- QUEUE_ENABLE (R310, R313). -/
def execQueueEnable (n : Fin 4) (q : QueueId) (s : State) : Out :=
  hostCmd (queueAddr n q) (doQueueEnable n q) s
/-- QUEUE_DISABLE (R310, R318). -/
def execQueueDisable (n : Fin 4) (q : QueueId) (s : State) : Out :=
  hostCmd (queueAddr n q) (doQueueDisable n q) s
/-- TAIL_WRITE (R310). -/
def execTailWrite (n : Fin 4) (q : QueueId) (tail : BitVec 12) (bufs : List (BitVec 64)) (s : State) : Out :=
  hostCmd (queueAddr n q + 0xC) (doTailWrite n q tail bufs) s
/-- TXTS_DEST_WRITE (R340). -/
def execTxtsDestWrite (n : Fin 4) (base : Bool) (data : BitVec 32) (s : State) : Out :=
  hostCmd (if base then (Reg.PTP_TXTS_BASE_ADDR n).addr else (Reg.PTP_CFG_TS n).addr) (doTxtsDestWrite n base data) s
/-- TWIN_ENABLE (R354, R370). -/
def execTwinEnable (s : State) : Out :=
  hostCmd Reg.TWIN_CFG_EN.addr doTwinEnable s
/-- TWIN_DISABLE (R375). -/
def execTwinDisable (s : State) : Out :=
  hostCmd Reg.TWIN_CFG_EN.addr doTwinDisable s
/-- TWIN_DEMOTE (R373). -/
def execTwinDemote (s : State) : Out :=
  hostCmd Reg.TWIN_CMD_DEMOTE.addr doTwinDemote s
/-- RESET_TWIN (R374). -/
def execResetTwin (s : State) : Out :=
  hostCmd Reg.TWIN_CMD_DEMOTE.addr doResetTwin s
/-- FLT_ACK (R383, R389, R394). -/
def execFltAck (src : Fin 128) (late : Bool) (s : State) : Out :=
  hostCmd Reg.FLT_ACK.addr (doFltAck src late) s
/-- LIFE_SAVE (R393, R397). -/
def execLifeSave (s : State) : Out :=
  hostCmd Reg.FLT_CMD_LIFE_SAVE.addr doLifeSave s
/-- POWER_STATE_GO (R434, R436, R454). -/
def execPowerStateGo (target : Fin 4) (s : State) : Out :=
  hostCmd Reg.PWR_CMD_GO.addr (doPowerStateGo target) s
/-- SOFT_RESET (R437, R444). -/
def execSoftReset (s : State) : Out :=
  hostCmd Reg.RST_CMD_SOFT.addr doSoftReset s
/-- ISLAND_GO (R440, R444). -/
def execIslandGo (i : Fin 32) (s : State) : Out :=
  hostCmd Reg.RST_CMD_SOFT.addr (doIslandGo i) s
/-- WDOG_KICK (R438). -/
def execWdogKick (s : State) : Out :=
  hostCmd Reg.RST_WDOG_KICK_KICK.addr doWdogKick s
/-- WDOG_ENABLE (R438). -/
def execWdogEnable (data : BitVec 32) (s : State) : Out :=
  hostCmd Reg.RST_WDOG_EN.addr (doWdogEnable data) s
/-- JNL_APPEND (R452, R470). -/
def execJnlAppend (s : State) : Out :=
  hostCmd Reg.JNL_CMD_APPEND.addr doJnlAppend s
/-- JNL_FIND (R470). -/
def execJnlFind (s : State) : Out :=
  hostCmd Reg.JNL_CMD_APPEND.addr doJnlFind s
/-- JNL_COMPACT (R457). -/
def execJnlCompact (s : State) : Out :=
  hostCmd Reg.JNL_CMD_APPEND.addr doJnlCompact s
/-- NOR_READ (R462). -/
def execNorRead (ecc : Ecc) (s : State) : Out :=
  hostCmd Reg.JNL_NOR_CMD_READ.addr (doNorRead ecc) s
/-- NOR_PROGRAM (R462). -/
def execNorProgram (s : State) : Out :=
  hostCmd Reg.JNL_NOR_CMD_READ.addr doNorProgram s
/-- NOR_ERASE (R462). -/
def execNorErase (s : State) : Out :=
  hostCmd Reg.JNL_NOR_CMD_READ.addr doNorErase s
/-- FUSE_PROG (R463). -/
def execFuseProg (s : State) : Out :=
  hostCmd Reg.SEC_FUSE_CMD_PROG.addr doFuseProg s
/-- KEY_PROVISION (R464). -/
def execKeyProvision (s : State) : Out :=
  hostCmd Reg.SEC_KEY_CMD_PROVISION.addr doKeyProvision s
/-- KEY_VOID (R464). -/
def execKeyVoid (s : State) : Out :=
  hostCmd Reg.SEC_KEY_CMD_PROVISION.addr doKeyVoid s
/-- DEBUG_OPEN_GO (R466, R468). -/
def execDebugOpenGo (s : State) : Out :=
  hostCmd Reg.SEC_DEBUG_OPEN_GO.addr doDebugOpenGo s
/-- BIST_GO (R474). -/
def execBistGo (s : State) : Out :=
  hostCmd Reg.TST_BIST_CMD_GO.addr doBistGo s
/-- SAVE_TDC (R480). -/
def execSaveTdc (fail : Bool) (s : State) : Out :=
  hostCmd Reg.TST_REPAIR_CMD_SAVE_TDC.addr (doSaveTdc fail) s
/-- SAVE_APLL (R480). -/
def execSaveApll (fail : Bool) (s : State) : Out :=
  hostCmd Reg.TST_REPAIR_CMD_SAVE_TDC.addr (doSaveApll fail) s

end Sys2Proof.Machine
end

