-- ==== Sys2Proof/Machine/Dispatch.lean ====
section
/-! DEFINITION. The meaning of a command: one arm per constructor, one call of that command's own definition.
The queue is not touched. -/
namespace Sys2Proof.Machine

/-- The effect of command `i` on everything but the queue. -/
def exec (i : Instr) (s : State) : Host.Outcome State Fault Refusal :=
  match i with
  | .devClkStart => Sys2Proof.Machine.execDevClkStart s
  | .xoStartTimeout => Sys2Proof.Machine.execXoStartTimeout s
  | .tbpllLock => Sys2Proof.Machine.execTbpllLock s
  | .syspllLock => Sys2Proof.Machine.execSyspllLock s
  | .startFailTimeout => Sys2Proof.Machine.execStartFailTimeout s
  | .syspllLoss => Sys2Proof.Machine.execSyspllLoss s
  | .syspllRelock => Sys2Proof.Machine.execSyspllRelock s
  | .servoHoldEnd => Sys2Proof.Machine.execServoHoldEnd s
  | .tbpllLoss => Sys2Proof.Machine.execTbpllLoss s
  | .tbpllRelock => Sys2Proof.Machine.execTbpllRelock s
  | .tdcDllRelockAfterTb => Sys2Proof.Machine.execTdcDllRelockAfterTb s
  | .xoLoss => Sys2Proof.Machine.execXoLoss s
  | .xoReturn => Sys2Proof.Machine.execXoReturn s
  | .islandClockStop isl => Sys2Proof.Machine.execIslandClockStop isl s
  | .tempConversion t => Sys2Proof.Machine.execTempConversion t s
  | .bell => Sys2Proof.Machine.execBell s
  | .strikeExpiry e => Sys2Proof.Machine.execStrikeExpiry e s
  | .eAdd e f rd rs1 rs2 => Sys2Proof.Machine.execEAdd e f rd rs1 rs2 s
  | .eSub e f rd rs1 rs2 => Sys2Proof.Machine.execESub e f rd rs1 rs2 s
  | .eAnd e f rd rs1 rs2 => Sys2Proof.Machine.execEAnd e f rd rs1 rs2 s
  | .eOr e f rd rs1 rs2 => Sys2Proof.Machine.execEOr e f rd rs1 rs2 s
  | .eXor e f rd rs1 rs2 => Sys2Proof.Machine.execEXor e f rd rs1 rs2 s
  | .eShl e f rd rs1 rs2 => Sys2Proof.Machine.execEShl e f rd rs1 rs2 s
  | .eShr e f rd rs1 rs2 => Sys2Proof.Machine.execEShr e f rd rs1 rs2 s
  | .eSar e f rd rs1 rs2 => Sys2Proof.Machine.execESar e f rd rs1 rs2 s
  | .eMin e f rd rs1 rs2 => Sys2Proof.Machine.execEMin e f rd rs1 rs2 s
  | .eMax e f rd rs1 rs2 => Sys2Proof.Machine.execEMax e f rd rs1 rs2 s
  | .eAdds e f rd rs1 rs2 => Sys2Proof.Machine.execEAdds e f rd rs1 rs2 s
  | .eSubs e f rd rs1 rs2 => Sys2Proof.Machine.execESubs e f rd rs1 rs2 s
  | .eNeg e f rd rs1 => Sys2Proof.Machine.execENeg e f rd rs1 s
  | .eAbs e f rd rs1 => Sys2Proof.Machine.execEAbs e f rd rs1 s
  | .eClz e f rd rs1 => Sys2Proof.Machine.execEClz e f rd rs1 s
  | .eCmp e f rs1 rs2 => Sys2Proof.Machine.execECmp e f rs1 rs2 s
  | .eSel e f rd rs1 rs2 cond => Sys2Proof.Machine.execESel e f rd rs1 rs2 cond s
  | .eRdc e f rd => Sys2Proof.Machine.execERdc e f rd s
  | .eAddi e f rd rs1 imm => Sys2Proof.Machine.execEAddi e f rd rs1 imm s
  | .eAndi e f rd rs1 imm => Sys2Proof.Machine.execEAndi e f rd rs1 imm s
  | .eOri e f rd rs1 imm => Sys2Proof.Machine.execEOri e f rd rs1 imm s
  | .eXori e f rd rs1 imm => Sys2Proof.Machine.execEXori e f rd rs1 imm s
  | .eShli e f rd rs1 sh => Sys2Proof.Machine.execEShli e f rd rs1 sh s
  | .eShri e f rd rs1 sh => Sys2Proof.Machine.execEShri e f rd rs1 sh s
  | .eSari e f rd rs1 sh => Sys2Proof.Machine.execESari e f rd rs1 sh s
  | .eCmpi e f rs1 imm => Sys2Proof.Machine.execECmpi e f rs1 imm s
  | .eLdi e f rd imm => Sys2Proof.Machine.execELdi e f rd imm s
  | .eInsh e f rd lane imm => Sys2Proof.Machine.execEInsh e f rd lane imm s
  | .eMul e f acc rs1 rs2 => Sys2Proof.Machine.execEMul e f acc rs1 rs2 s
  | .eMac e f acc rs1 rs2 => Sys2Proof.Machine.execEMac e f acc rs1 rs2 s
  | .eMsu e f acc rs1 rs2 => Sys2Proof.Machine.execEMsu e f acc rs1 rs2 s
  | .eAclr e f acc => Sys2Proof.Machine.execEAclr e f acc s
  | .eAld e f acc rs1 sh => Sys2Proof.Machine.execEAld e f acc rs1 sh s
  | .eAadd e f acc acc2 => Sys2Proof.Machine.execEAadd e f acc acc2 s
  | .eAsub e f acc acc2 => Sys2Proof.Machine.execEAsub e f acc acc2 s
  | .eAex e f rd acc sh => Sys2Proof.Machine.execEAex e f rd acc sh s
  | .eDiv e f rd rs1 rs2 => Sys2Proof.Machine.execEDiv e f rd rs1 rs2 s
  | .eLd e f rd rs1 imm ecc => Sys2Proof.Machine.execELd e f rd rs1 imm ecc s
  | .eLdw e f rd rs1 imm ecc => Sys2Proof.Machine.execELdw e f rd rs1 imm ecc s
  | .eSt e f rs rs1 imm => Sys2Proof.Machine.execESt e f rs rs1 imm s
  | .eStw e f rs rs1 imm ecc => Sys2Proof.Machine.execEStw e f rs rs1 imm ecc s
  | .eAldm e f acc rs1 imm ecc => Sys2Proof.Machine.execEAldm e f acc rs1 imm ecc s
  | .eAst e f acc rs1 imm => Sys2Proof.Machine.execEAst e f acc rs1 imm s
  | .eCrd e f rd rs1 imm => Sys2Proof.Machine.execECrd e f rd rs1 imm s
  | .eCwr e f rs rs1 imm => Sys2Proof.Machine.execECwr e f rs rs1 imm s
  | .eCsync e f => Sys2Proof.Machine.execECsync e f s
  | .eMbi e f rd idx rs1 => Sys2Proof.Machine.execEMbi e f rd idx rs1 s
  | .eMbo e f rs idx rs1 => Sys2Proof.Machine.execEMbo e f rs idx rs1 s
  | .eLoop e f body rs count => Sys2Proof.Machine.execELoop e f body rs count s
  | .eEnd e f => Sys2Proof.Machine.execEEnd e f s
  | .eSkip e f cond n => Sys2Proof.Machine.execESkip e f cond n s
  | .eSkbs e f reg bit n => Sys2Proof.Machine.execESkbs e f reg bit n s
  | .eSkbc e f reg bit n => Sys2Proof.Machine.execESkbc e f reg bit n s
  | .ePost e f ev => Sys2Proof.Machine.execEPost e f ev s
  | .eTrap e f code => Sys2Proof.Machine.execETrap e f code s
  | .wcetExceeded e => Sys2Proof.Machine.execWcetExceeded e s
  | .commonsReadComplete e ecc => Sys2Proof.Machine.execCommonsReadComplete e ecc s
  | .commonsWriteComplete e => Sys2Proof.Machine.execCommonsWriteComplete e s
  | .engineScrub e mem idx ecc => Sys2Proof.Machine.execEngineScrub e mem idx ecc s
  | .hinLoWrite e k data => Sys2Proof.Machine.execHinLoWrite e k data s
  | .houtLoRead e k => Sys2Proof.Machine.execHoutLoRead e k s
  | .pairLoRead addr => Sys2Proof.Machine.execPairLoRead addr s
  | .engEnable e on => Sys2Proof.Machine.execEngEnable e on s
  | .engHalt e on => Sys2Proof.Machine.execEngHalt e on s
  | .engStep e f ecc => Sys2Proof.Machine.execEngStep e f ecc s
  | .bellPeriodWrite period => Sys2Proof.Machine.execBellPeriodWrite period s
  | .imageLoad => Sys2Proof.Machine.execImageLoad s
  | .loadComplete a b => Sys2Proof.Machine.execLoadComplete a b s
  | .substForce target => Sys2Proof.Machine.execSubstForce target s
  | .substReady copyOk => Sys2Proof.Machine.execSubstReady copyOk s
  | .substReturn => Sys2Proof.Machine.execSubstReturn s
  | .tdcEdgeCapture role x => Sys2Proof.Machine.execTdcEdgeCapture role x s
  | .activityTimeout n => Sys2Proof.Machine.execActivityTimeout n s
  | .slotCfgWrite n reg data => Sys2Proof.Machine.execSlotCfgWrite n reg data s
  | .slotRebase n => Sys2Proof.Machine.execSlotRebase n s
  | .gateComplete n => Sys2Proof.Machine.execGateComplete n s
  | .irigFrame n format => Sys2Proof.Machine.execIrigFrame n format s
  | .irigRegisterUpdate n => Sys2Proof.Machine.execIrigRegisterUpdate n s
  | .irigLockTimeout n => Sys2Proof.Machine.execIrigLockTimeout n s
  | .trackLocked n => Sys2Proof.Machine.execTrackLocked n s
  | .rollCall => Sys2Proof.Machine.execRollCall s
  | .setRank c => Sys2Proof.Machine.execSetRank c s
  | .setMode c => Sys2Proof.Machine.execSetMode c s
  | .setPolicy c => Sys2Proof.Machine.execSetPolicy c s
  | .setPrepLimit c => Sys2Proof.Machine.execSetPrepLimit c s
  | .setConcord c => Sys2Proof.Machine.execSetConcord c s
  | .rollCallGet c => Sys2Proof.Machine.execRollCallGet c s
  | .prepLimitExpiry p => Sys2Proof.Machine.execPrepLimitExpiry p s
  | .settleEnd p => Sys2Proof.Machine.execSettleEnd p s
  | .pathLock p => Sys2Proof.Machine.execPathLock p s
  | .pathUnlock p => Sys2Proof.Machine.execPathUnlock p s
  | .setBw g c => Sys2Proof.Machine.execSetBw g c s
  | .setDamp g c => Sys2Proof.Machine.execSetDamp g c s
  | .setPsl g c => Sys2Proof.Machine.execSetPsl g c s
  | .setFclamp g c => Sys2Proof.Machine.execSetFclamp g c s
  | .setLock g c => Sys2Proof.Machine.execSetLock g c s
  | .setRollback g c => Sys2Proof.Machine.execSetRollback g c s
  | .setZd g c => Sys2Proof.Machine.execSetZd g c s
  | .pathGet g c => Sys2Proof.Machine.execPathGet g c s
  | .phaseStepCommit p lo => Sys2Proof.Machine.execPhaseStepCommit p lo s
  | .stepCancel p => Sys2Proof.Machine.execStepCancel p s
  | .slewComplete p => Sys2Proof.Machine.execSlewComplete p s
  | .holdoverEvaluation p => Sys2Proof.Machine.execHoldoverEvaluation p s
  | .learningSample p => Sys2Proof.Machine.execLearningSample p s
  | .modelJournalWrite p => Sys2Proof.Machine.execModelJournalWrite p s
  | .setLearn c => Sys2Proof.Machine.execSetLearn c s
  | .clearModel c => Sys2Proof.Machine.execClearModel c s
  | .getModel c => Sys2Proof.Machine.execGetModel c s
  | .apply k => Sys2Proof.Machine.execApply k s
  | .applyFull k => Sys2Proof.Machine.execApplyFull k s
  | .cacheClr k => Sys2Proof.Machine.execCacheClr k s
  | .rampComplete k => Sys2Proof.Machine.execRampComplete k s
  | .apllLock k band => Sys2Proof.Machine.execApllLock k band s
  | .hopTimeout k => Sys2Proof.Machine.execHopTimeout k s
  | .searchFail k => Sys2Proof.Machine.execSearchFail k s
  | .apllSettleEnd k u => Sys2Proof.Machine.execApllSettleEnd k u s
  | .apllUnlock k => Sys2Proof.Machine.execApllUnlock k s
  | .apllRetry k => Sys2Proof.Machine.execApllRetry k s
  | .apll8CoverWrite data => Sys2Proof.Machine.execApll8CoverWrite data s
  | .tuneEdgeDetect k near => Sys2Proof.Machine.execTuneEdgeDetect k near s
  | .muxSwitch o => Sys2Proof.Machine.execMuxSwitch o s
  | .muxDeadClockSwitch o => Sys2Proof.Machine.execMuxDeadClockSwitch o s
  | .outSrcWrite o src => Sys2Proof.Machine.execOutSrcWrite o src s
  | .outPhaseCommit o lo => Sys2Proof.Machine.execOutPhaseCommit o lo s
  | .phaseAdjustDone o => Sys2Proof.Machine.execPhaseAdjustDone o s
  | .pulseInstant o sec => Sys2Proof.Machine.execPulseInstant o sec s
  | .tsSet n => Sys2Proof.Machine.execTsSet n s
  | .tsAdj n => Sys2Proof.Machine.execTsAdj n s
  | .tsCapture n => Sys2Proof.Machine.execTsCapture n s
  | .tsCmdTimeout n => Sys2Proof.Machine.execTsCmdTimeout n s
  | .triggerArm g lo => Sys2Proof.Machine.execTriggerArm g lo s
  | .triggerDisarm g => Sys2Proof.Machine.execTriggerDisarm g s
  | .triggerFire g => Sys2Proof.Machine.execTriggerFire g s
  | .triggerPulseEnd g => Sys2Proof.Machine.execTriggerPulseEnd g s
  | .uartEnable u data => Sys2Proof.Machine.execUartEnable u data s
  | .uartByte u x => Sys2Proof.Machine.execUartByte u x s
  | .setTod c => Sys2Proof.Machine.execSetTod c s
  | .nmeaSentence u text t => Sys2Proof.Machine.execNmeaSentence u text t s
  | .binaryTodFrame u bytes t => Sys2Proof.Machine.execBinaryTodFrame u bytes t s
  | .dllUnlock ch => Sys2Proof.Machine.execDllUnlock ch s
  | .dllRelock ch => Sys2Proof.Machine.execDllRelock ch s
  | .tdcCal ch => Sys2Proof.Machine.execTdcCal ch s
  | .calAll => Sys2Proof.Machine.execCalAll s
  | .calComplete ch hits => Sys2Proof.Machine.execCalComplete ch hits s
  | .spareTake k role => Sys2Proof.Machine.execSpareTake k role s
  | .spareRelease k => Sys2Proof.Machine.execSpareRelease k s
  | .mirrorSwitch k u => Sys2Proof.Machine.execMirrorSwitch k u s
  | .mirrorTimeout k u v => Sys2Proof.Machine.execMirrorTimeout k u v s
  | .statsStart m => Sys2Proof.Machine.execStatsStart m s
  | .statsStop m => Sys2Proof.Machine.execStatsStop m s
  | .statsCfgWrite m reg data => Sys2Proof.Machine.execStatsCfgWrite m reg data s
  | .pairWindowEnd m => Sys2Proof.Machine.execPairWindowEnd m s
  | .statsPublish m k => Sys2Proof.Machine.execStatsPublish m k s
  | .freqRegGateEnd m => Sys2Proof.Machine.execFreqRegGateEnd m s
  | .ringEnable r => Sys2Proof.Machine.execRingEnable r s
  | .ringDeferredStart r => Sys2Proof.Machine.execRingDeferredStart r s
  | .ringDisable r => Sys2Proof.Machine.execRingDisable r s
  | .evrRecordWrite src => Sys2Proof.Machine.execEvrRecordWrite src s
  | .anchorWrite r => Sys2Proof.Machine.execAnchorWrite r s
  | .ringRdWrite r off => Sys2Proof.Machine.execRingRdWrite r off s
  | .dramInitComplete => Sys2Proof.Machine.execDramInitComplete s
  | .dramScrub word ecc => Sys2Proof.Machine.execDramScrub word ecc s
  | .bar2Read addr dword ecc => Sys2Proof.Machine.execBar2Read addr dword ecc s
  | .streamPacketSend r found => Sys2Proof.Machine.execStreamPacketSend r found s
  | .streamFlush r found => Sys2Proof.Machine.execStreamFlush r found s
  | .portEnable n => Sys2Proof.Machine.execPortEnable n s
  | .portDisable n => Sys2Proof.Machine.execPortDisable n s
  | .linkUp n => Sys2Proof.Machine.execLinkUp n s
  | .linkDown n why => Sys2Proof.Machine.execLinkDown n why s
  | .pcsLockLoss n fec => Sys2Proof.Machine.execPcsLockLoss n fec s
  | .rxclkGateOn n => Sys2Proof.Machine.execRxclkGateOn n s
  | .rxFrame n f => Sys2Proof.Machine.execRxFrame n f s
  | .wakeClr => Sys2Proof.Machine.execWakeClr s
  | .queueEnable n q => Sys2Proof.Machine.execQueueEnable n q s
  | .queueDisable n q => Sys2Proof.Machine.execQueueDisable n q s
  | .tailWrite n q tail bufs => Sys2Proof.Machine.execTailWrite n q tail bufs s
  | .txDescriptorCheck n q d => Sys2Proof.Machine.execTxDescriptorCheck n q d s
  | .txFetchComplete n q got => Sys2Proof.Machine.execTxFetchComplete n q got s
  | .launchEligible n q => Sys2Proof.Machine.execLaunchEligible n q s
  | .txFrameStart n t => Sys2Proof.Machine.execTxFrameStart n t s
  | .txFrameDone n => Sys2Proof.Machine.execTxFrameDone n s
  | .txUnderrun n dma => Sys2Proof.Machine.execTxUnderrun n dma s
  | .synceTxRateUpdate n => Sys2Proof.Machine.execSynceTxRateUpdate n s
  | .txtsIdRead n => Sys2Proof.Machine.execTxtsIdRead n s
  | .txtsDestWrite n base data => Sys2Proof.Machine.execTxtsDestWrite n base data s
  | .servoSample n x => Sys2Proof.Machine.execServoSample n x s
  | .servoStep n stage => Sys2Proof.Machine.execServoStep n stage s
  | .esmcPduReceived n frame => Sys2Proof.Machine.execEsmcPduReceived n frame s
  | .esmcTimeout n => Sys2Proof.Machine.execEsmcTimeout n s
  | .esmcInfoSend n => Sys2Proof.Machine.execEsmcInfoSend n s
  | .setPtpPort c => Sys2Proof.Machine.execSetPtpPort c s
  | .setUcast c => Sys2Proof.Machine.execSetUcast c s
  | .setAsym c => Sys2Proof.Machine.execSetAsym c s
  | .setClock c => Sys2Proof.Machine.execSetClock c s
  | .setEsmc c => Sys2Proof.Machine.execSetEsmc c s
  | .twinEnable => Sys2Proof.Machine.execTwinEnable s
  | .seekingEnd => Sys2Proof.Machine.execSeekingEnd s
  | .heartbeatSend => Sys2Proof.Machine.execHeartbeatSend s
  | .heartbeatReceive lane crcOk h => Sys2Proof.Machine.execHeartbeatReceive lane crcOk h s
  | .markerReceive x => Sys2Proof.Machine.execMarkerReceive x s
  | .laneDown lane => Sys2Proof.Machine.execLaneDown lane s
  | .twinLinkLoss => Sys2Proof.Machine.execTwinLinkLoss s
  | .witnessSend => Sys2Proof.Machine.execWitnessSend s
  | .witnessFrame word => Sys2Proof.Machine.execWitnessFrame word s
  | .witnessLoss => Sys2Proof.Machine.execWitnessLoss s
  | .twinDemote => Sys2Proof.Machine.execTwinDemote s
  | .demoteRun => Sys2Proof.Machine.execDemoteRun s
  | .resetTwin => Sys2Proof.Machine.execResetTwin s
  | .faultAssert ev inst info => Sys2Proof.Machine.execFaultAssert ev inst info s
  | .causeEnd ev inst => Sys2Proof.Machine.execCauseEnd ev inst s
  | .graceExpiry ev => Sys2Proof.Machine.execGraceExpiry ev s
  | .recessExpiry ev => Sys2Proof.Machine.execRecessExpiry ev s
  | .fltAck src late => Sys2Proof.Machine.execFltAck src late s
  | .lifeSave => Sys2Proof.Machine.execLifeSave s
  | .lifetimeRecordWrite => Sys2Proof.Machine.execLifetimeRecordWrite s
  | .registerWrite addr data => Sys2Proof.Machine.execRegisterWrite addr data s
  | .ixaWrite n data => Sys2Proof.Machine.execIxaWrite n data s
  | .ixdAccess n w => Sys2Proof.Machine.execIxdAccess n w s
  | .spiRead addr x => Sys2Proof.Machine.execSpiRead addr x s
  | .spiWrite addr words partWord drop => Sys2Proof.Machine.execSpiWrite addr words partWord drop s
  | .spiStatus bad => Sys2Proof.Machine.execSpiStatus bad s
  | .i2cWrite addr words partWord => Sys2Proof.Machine.execI2cWrite addr words partWord s
  | .i2cRead addr n => Sys2Proof.Machine.execI2cRead addr n s
  | .i2cCurrentRead n => Sys2Proof.Machine.execI2cCurrentRead n s
  | .i2cTimeout => Sys2Proof.Machine.execI2cTimeout s
  | .pcieRead off n => Sys2Proof.Machine.execPcieRead off n s
  | .pcieWrite off words => Sys2Proof.Machine.execPcieWrite off words s
  | .pciePerst => Sys2Proof.Machine.execPciePerst s
  | .parityScrub found leg => Sys2Proof.Machine.execParityScrub found leg s
  | .legWrite idx data => Sys2Proof.Machine.execLegWrite idx data s
  | .jtagExtest => Sys2Proof.Machine.execJtagExtest s
  | .jtagIdcode => Sys2Proof.Machine.execJtagIdcode s
  | .jtagSamplePreload => Sys2Proof.Machine.execJtagSamplePreload s
  | .jtagClamp => Sys2Proof.Machine.execJtagClamp s
  | .jtagHighz => Sys2Proof.Machine.execJtagHighz s
  | .jtagExtestPulse => Sys2Proof.Machine.execJtagExtestPulse s
  | .jtagExtestTrain => Sys2Proof.Machine.execJtagExtestTrain s
  | .jtagFabric acc => Sys2Proof.Machine.execJtagFabric acc s
  | .jtagScanInt => Sys2Proof.Machine.execJtagScanInt s
  | .jtagBypass => Sys2Proof.Machine.execJtagBypass s
  | .supplyWarning r => Sys2Proof.Machine.execSupplyWarning r s
  | .supplyRecovery r us => Sys2Proof.Machine.execSupplyRecovery r us s
  | .supplyFlagEnd => Sys2Proof.Machine.execSupplyFlagEnd s
  | .railResetCrossing r => Sys2Proof.Machine.execRailResetCrossing r s
  | .islandPowerFault isl => Sys2Proof.Machine.execIslandPowerFault isl s
  | .islandPowerRecovery isl => Sys2Proof.Machine.execIslandPowerRecovery isl s
  | .powerStateGo target => Sys2Proof.Machine.execPowerStateGo target s
  | .powerTransitionComplete => Sys2Proof.Machine.execPowerTransitionComplete s
  | .por x => Sys2Proof.Machine.execPor x s
  | .porInitComplete => Sys2Proof.Machine.execPorInitComplete s
  | .pinReset x => Sys2Proof.Machine.execPinReset x s
  | .softReset => Sys2Proof.Machine.execSoftReset s
  | .wdogExpiry => Sys2Proof.Machine.execWdogExpiry s
  | .wdogKick => Sys2Proof.Machine.execWdogKick s
  | .wdogEnable data => Sys2Proof.Machine.execWdogEnable data s
  | .islandGo isl => Sys2Proof.Machine.execIslandGo isl s
  | .journalScan bad => Sys2Proof.Machine.execJournalScan bad s
  | .jnlAppend => Sys2Proof.Machine.execJnlAppend s
  | .jnlFind => Sys2Proof.Machine.execJnlFind s
  | .jnlCompact => Sys2Proof.Machine.execJnlCompact s
  | .jnlSlotAppend j => Sys2Proof.Machine.execJnlSlotAppend j s
  | .jnlSlotFind j => Sys2Proof.Machine.execJnlSlotFind j s
  | .jnlSlotCompact j => Sys2Proof.Machine.execJnlSlotCompact j s
  | .appendComplete fails => Sys2Proof.Machine.execAppendComplete fails s
  | .compactionEraseDone ok => Sys2Proof.Machine.execCompactionEraseDone ok s
  | .snapshotCommit => Sys2Proof.Machine.execSnapshotCommit s
  | .oldHalfEraseDone ok => Sys2Proof.Machine.execOldHalfEraseDone ok s
  | .norRead ecc => Sys2Proof.Machine.execNorRead ecc s
  | .norProgram => Sys2Proof.Machine.execNorProgram s
  | .norErase => Sys2Proof.Machine.execNorErase s
  | .norOperationComplete ok => Sys2Proof.Machine.execNorOperationComplete ok s
  | .fuseProg => Sys2Proof.Machine.execFuseProg s
  | .fuseProgramComplete ok => Sys2Proof.Machine.execFuseProgramComplete ok s
  | .keyProvision => Sys2Proof.Machine.execKeyProvision s
  | .keyProvisionComplete ok => Sys2Proof.Machine.execKeyProvisionComplete ok s
  | .keyVoid => Sys2Proof.Machine.execKeyVoid s
  | .debugOpenGo => Sys2Proof.Machine.execDebugOpenGo s
  | .debugGateOpen => Sys2Proof.Machine.execDebugGateOpen s
  | .bistGo => Sys2Proof.Machine.execBistGo s
  | .bistComplete x => Sys2Proof.Machine.execBistComplete x s
  | .saveTdc fail => Sys2Proof.Machine.execSaveTdc fail s
  | .saveApll fail => Sys2Proof.Machine.execSaveApll fail s
  | .illegalInstruction e f word => Sys2Proof.Machine.execIllegalInstruction e f word s
  | .dllFirstLock => Sys2Proof.Machine.execDllFirstLock s
  | .markerSend idx => Sys2Proof.Machine.execMarkerSend idx s
  | .pcsLockAcquired n fec => Sys2Proof.Machine.execPcsLockAcquired n fec s
  | .anComplete n => Sys2Proof.Machine.execAnComplete n s
  | .pcieLinkUp width speed => Sys2Proof.Machine.execPcieLinkUp width speed s
  | .pcieLinkDown => Sys2Proof.Machine.execPcieLinkDown s
  | .pcieConfigWrite x => Sys2Proof.Machine.execPcieConfigWrite x s
  | .jtagTapReset => Sys2Proof.Machine.execJtagTapReset s
  | .resetComplete => Sys2Proof.Machine.execResetComplete s
  | .railGood r => Sys2Proof.Machine.execRailGood r s
  | .vddcResetRelease straps => Sys2Proof.Machine.execVddcResetRelease straps s
  | .apllEnable k on => Sys2Proof.Machine.execApllEnable k on s
  | .twinDisable => Sys2Proof.Machine.execTwinDisable s
  | .slotQualWrite n data => Sys2Proof.Machine.execSlotQualWrite n data s
  | .outEnable o on => Sys2Proof.Machine.execOutEnable o on s
  | .irigTodRead n => Sys2Proof.Machine.execIrigTodRead n s

end Sys2Proof.Machine
end

