-- ==== Sys2Proof/WellFormed.lean ====
section
/-! DEFINITION. The commands the world can bring: bounds that the types of the operands do not say. The
effect of a command is total and does not ask for them; statements that do name them. -/
namespace Sys2Proof

/-- A timetable entry (R87): a period of at most 2^10 bells, a phase inside it, an entry index of instruction memory. -/
def TTEntry.wf (t : TTEntry) : Bool := decide (t.k ≤ 10 ∧ t.phase < 2 ^ t.k ∧ t.pc < 8192)

/-- A section (R43, R87, R95): indices inside the memories, each named once, and out-words bound once. -/
def EngSection.wf (x : EngSection) : Bool :=
  decide ((x.imem.map Prod.fst).Nodup ∧ (x.dmem.map Prod.fst).Nodup ∧ (x.tt.map Prod.fst).Nodup ∧ x.bind.Nodup) &&
  x.imem.all (fun e => decide (e.1 < 8192)) && x.dmem.all (fun e => decide (e.1 < 2048)) &&
  x.tt.all (fun e => decide (e.1 < 64) && e.2.wf) && x.bind.all (fun i => decide (i < 1024))

/-- An image set has one section for each of E0 to E15 (R95). -/
def ImageSet.wf (x : ImageSet) : Bool := decide (x.sections.length = 16) && x.sections.all EngSection.wf

/-- The fields of a heartbeat (R357, R358): a PAIR_ID bit and a three-bit role. -/
def Heartbeat.wf (h : Heartbeat) : Bool := decide (h.pair < 2 ∧ h.role < 8)

/-- A MARKER frame (R358, R365): an index of the second, eight ramps and four stamps. -/
def MarkerIn.wf (x : MarkerIn) : Bool := decide (x.idx < 152588 ∧ x.ramps.length = 8 ∧ x.stamps.length = 4)

/-- A channel's self-test brings the hits of 512 taps (R259, R476). -/
def BistOut.wf : BistOut → Bool
  | .tdc hits _ _ => decide (hits.length = 512)
  | .engine _ | .apll _ | .dram _ => true

/-- The word that was late is one of those read (R413). -/
def SpiReadIn.wf (x : SpiReadIn) : Bool := match x.late with | some k => decide (k ≤ x.n) | none => true

/-- Whether the operands of a command can occur. -/
def Instr.wf : Instr → Bool
  | .devClkStart | .xoStartTimeout | .tbpllLock | .syspllLock | .startFailTimeout | .syspllLoss | .syspllRelock |
  .servoHoldEnd | .tbpllLoss | .tbpllRelock | .tdcDllRelockAfterTb | .xoLoss | .xoReturn => true
  | .islandClockStop i => decide (i.val = 2 ∨ 26 ≤ i.val ∧ i.val ≤ 30)
  | .tempConversion .. | .bell | .strikeExpiry .. | .eAdd .. | .eSub .. | .eAnd .. | .eOr .. | .eXor .. | .eShl .. |
  .eShr .. | .eSar .. | .eMin .. | .eMax .. | .eAdds .. | .eSubs .. | .eNeg .. | .eAbs .. | .eClz .. | .eCmp .. |
  .eSel .. | .eRdc .. | .eAddi .. | .eAndi .. | .eOri .. | .eXori .. | .eShli .. | .eShri .. | .eSari .. | .eCmpi .. |
  .eLdi .. | .eInsh .. | .eMul .. | .eMac .. | .eMsu .. | .eAclr .. | .eAld .. | .eAadd .. | .eAsub .. | .eAex .. |
  .eDiv .. | .eLd .. | .eLdw .. | .eSt .. | .eStw .. | .eAldm .. | .eAst .. | .eCrd .. | .eCwr .. | .eCsync .. |
  .eMbi .. | .eMbo .. | .eLoop .. | .eEnd .. | .eSkip .. | .eSkbs .. | .eSkbc .. | .ePost .. | .eTrap .. |
  .wcetExceeded .. | .commonsReadComplete .. | .commonsWriteComplete .. | .engineScrub .. | .hinLoWrite .. |
  .houtLoRead .. => true
  | .pairLoRead addr => decide (addr.toNat % 4 = 0)
  | .engEnable .. | .engHalt .. | .engStep .. | .bellPeriodWrite .. | .imageLoad => true
  | .loadComplete a b => a.wf && b.wf
  | .substForce .. | .substReady .. | .substReturn | .tdcEdgeCapture .. | .activityTimeout .. | .slotCfgWrite .. |
  .slotRebase .. | .gateComplete .. | .irigFrame .. => true
  | .irigRegisterUpdate .. | .irigLockTimeout .. | .trackLocked .. | .rollCall | .setRank .. | .setMode .. |
  .setPolicy .. | .setPrepLimit .. | .setConcord .. | .rollCallGet .. | .prepLimitExpiry .. | .settleEnd .. |
  .pathLock .. | .pathUnlock .. | .setBw .. | .setDamp .. | .setPsl .. | .setFclamp .. | .setLock .. | .setRollback .. |
  .setZd .. | .pathGet .. | .phaseStepCommit .. | .stepCancel .. | .slewComplete .. | .holdoverEvaluation .. |
  .learningSample .. | .modelJournalWrite .. | .setLearn .. | .clearModel .. | .getModel .. | .apply .. | .applyFull ..
  | .cacheClr .. | .rampComplete .. | .apllLock .. | .hopTimeout .. | .searchFail .. | .apllSettleEnd .. |
  .apllUnlock .. | .apllRetry .. | .apll8CoverWrite .. | .tuneEdgeDetect .. | .muxSwitch .. | .muxDeadClockSwitch .. |
  .outSrcWrite .. | .outPhaseCommit .. | .phaseAdjustDone .. | .pulseInstant .. | .tsSet .. | .tsAdj .. | .tsCapture ..
  | .tsCmdTimeout .. | .triggerArm .. | .triggerDisarm .. | .triggerFire .. | .triggerPulseEnd .. | .uartEnable .. |
  .uartByte .. | .setTod .. | .nmeaSentence .. | .binaryTodFrame .. | .dllUnlock .. | .dllRelock .. | .tdcCal .. |
  .calAll => true
  | .calComplete _ hits => hits.length == 512
  | .spareTake .. | .spareRelease .. | .mirrorSwitch .. | .mirrorTimeout .. | .statsStart .. | .statsStop .. |
  .statsCfgWrite .. | .pairWindowEnd .. | .statsPublish .. | .freqRegGateEnd .. | .ringEnable .. | .ringDeferredStart ..
  | .ringDisable .. | .evrRecordWrite .. | .anchorWrite .. | .ringRdWrite .. | .dramInitComplete | .dramScrub .. => true
  | .bar2Read addr dword _ => decide (addr.toNat % (if dword then 4 else 8) = 0)
  | .streamPacketSend .. | .streamFlush .. | .portEnable .. | .portDisable .. | .linkUp .. | .linkDown .. |
  .pcsLockLoss .. | .rxclkGateOn .. | .rxFrame .. | .wakeClr | .queueEnable .. | .queueDisable .. => true
  | .tailWrite _ _ _ bufs => decide (bufs.length ≤ 4096)
  | .txDescriptorCheck _ _ d => d.desc.length == 32
  | .txFetchComplete .. | .launchEligible .. | .txFrameStart .. | .txFrameDone .. | .txUnderrun .. |
  .synceTxRateUpdate .. | .txtsIdRead .. | .txtsDestWrite .. | .servoSample .. | .servoStep .. | .esmcPduReceived .. |
  .esmcTimeout .. | .esmcInfoSend .. | .setPtpPort .. | .setUcast .. | .setAsym .. | .setClock .. | .setEsmc .. |
  .twinEnable | .seekingEnd | .heartbeatSend => true
  | .heartbeatReceive _ _ h => h.wf
  | .markerReceive x => x.wf
  | .laneDown .. | .twinLinkLoss | .witnessSend | .witnessFrame .. | .witnessLoss | .twinDemote | .demoteRun |
  .resetTwin | .faultAssert .. | .causeEnd .. | .graceExpiry .. | .recessExpiry .. | .fltAck .. | .lifeSave |
  .lifetimeRecordWrite => true
  | .registerWrite addr _ => decide (addr.toNat % 4 = 0)
  | .ixaWrite .. | .ixdAccess .. => true
  | .spiRead _ x => x.wf
  | .spiWrite _ words _ drop => drop.all (fun i => decide (i < words.length))
  | .spiStatus .. | .i2cWrite .. => true
  | .i2cRead _ n => decide (1 ≤ n)
  | .i2cCurrentRead n => decide (1 ≤ n)
  | .i2cTimeout => true
  | .pcieRead off n => decide (1 ≤ n ∧ off.toNat / 4 + n ≤ 32768)
  | .pcieWrite off words => decide (1 ≤ words.length ∧ off.toNat / 4 + words.length ≤ 32768)
  | .pciePerst => true
  | .parityScrub found leg => decide ((found.map RegUpset.addr).Nodup ∧ (leg.map LegUpset.idx).Nodup)
  | .legWrite .. | .jtagExtest | .jtagIdcode | .jtagSamplePreload | .jtagClamp | .jtagHighz | .jtagExtestPulse |
  .jtagExtestTrain | .jtagFabric .. | .jtagScanInt | .jtagBypass | .supplyWarning .. | .supplyRecovery .. |
  .supplyFlagEnd | .railResetCrossing .. | .islandPowerFault .. | .islandPowerRecovery .. | .powerStateGo .. |
  .powerTransitionComplete | .por .. | .porInitComplete => true
  | .pinReset x => decide (100 ≤ x.ns)
  | .softReset | .wdogExpiry | .wdogKick | .wdogEnable .. | .islandGo .. | .journalScan .. | .jnlAppend | .jnlFind |
  .jnlCompact | .jnlSlotAppend .. | .jnlSlotFind .. | .jnlSlotCompact .. | .appendComplete .. | .compactionEraseDone ..
  | .snapshotCommit | .oldHalfEraseDone .. | .norRead .. | .norProgram | .norErase | .norOperationComplete .. |
  .fuseProg | .fuseProgramComplete .. | .keyProvision | .keyProvisionComplete .. | .keyVoid | .debugOpenGo |
  .debugGateOpen | .bistGo => true
  | .bistComplete x => x.wf
  | .saveTdc .. | .saveApll .. => true
  | .illegalInstruction _ _ word => (decodeEngine 16 .ok .ok .ok word).isNone
  | .dllFirstLock => true
  | .markerSend idx => decide (idx < 152588)
  | .pcsLockAcquired .. | .anComplete .. | .pcieLinkUp .. | .pcieLinkDown | .pcieConfigWrite .. | .jtagTapReset |
  .resetComplete | .railGood .. | .vddcResetRelease .. | .apllEnable .. | .twinDisable | .slotQualWrite .. |
  .outEnable .. | .irigTodRead .. => true

end Sys2Proof
end

