-- ==== Sys2Proof/Safety.lean ====
section
/-! DEFINITION. What a safe state is: the queue and the memories of the block, and the canonical form of every memory. -/
namespace Sys2Proof.Machine

/-- The fuse fields by their selection, as FUSE_SEL numbers them, but for the factory's (R463). -/
def FuseSt.fields (f : FuseSt) : List Nat :=
  [f.cust0, f.cust1, f.revoke, f.custOnly, 2 ^ f.rollback - 1, f.debugHash, f.debugDisable]

/-- The queue, the memories and the fuse fields. -/
abbrev Store := List Instr × Tab Word64 × Tab Word64 × Tab (BitVec 8) × Tab (BitVec 8) × List Nat

/-- The queue and the memories: the lesson data of commons, the DRAM, the image slots of the NOR, what the device has
written in host memory, and the fuses. -/
def State.store (s : State) : Store := (s.pending, s.commons, s.dram.mem, s.nor, s.hostMem, s.fuses.fields)

/-- Every memory has its canonical form: rising addresses, and nothing listed that reads as unwritten memory does. -/
def State.memWf (s : State) : Bool :=
  tabWf 0 s.commons && tabWf 0 s.dram.mem && tabWf 0xFF s.nor && tabWf 0 s.hostMem

end Sys2Proof.Machine
end

