-- ==== Sys2Proof/Terms.lean ====
section
/-! DEFINITION. The terms that statements about the block use: when an engine executes an instruction, when the host
reaches a register, and what a command leaves as it was. -/
namespace Sys2Proof

/-! ### The memories -/

/-- The commands that may change a memory or a fuse field: those that write the commons, the DRAM, the NOR or host memory,
those whose records or frames reach them, and those that can clear one. -/
def Instr.stores : Instr → Bool
  | .devClkStart | .xoStartTimeout | .tbpllLock | .syspllLock | .startFailTimeout | .syspllLoss | .syspllRelock |
    .servoHoldEnd | .tbpllLoss | .tbpllRelock | .tdcDllRelockAfterTb | .xoLoss | .xoReturn | .islandClockStop .. |
    .tempConversion .. | .strikeExpiry .. | .eAdd .. | .eSub .. | .eAnd .. | .eOr .. | .eXor .. | .eShl .. |
    .eShr .. | .eSar .. | .eMin .. | .eMax .. | .eAdds .. | .eSubs .. | .eNeg .. | .eAbs .. | .eClz .. | .eCmp .. |
    .eSel .. | .eRdc .. | .eAddi .. | .eAndi .. | .eOri .. | .eXori .. | .eShli .. | .eShri .. | .eSari .. |
    .eCmpi .. | .eLdi .. | .eInsh .. | .eMul .. | .eMac .. | .eMsu .. | .eAclr .. | .eAld .. | .eAadd .. | .eAsub .. |
    .eAex .. | .eDiv .. | .eLd .. | .eLdw .. | .eSt .. | .eStw .. | .eAldm .. | .eAst .. | .eCrd .. | .eCwr .. |
    .eMbi .. | .eMbo .. | .eLoop .. | .eEnd .. | .eSkip .. | .eSkbs .. | .eSkbc .. | .ePost .. | .eTrap .. |
    .wcetExceeded .. | .engineScrub .. | .hinLoWrite .. | .houtLoRead .. | .engEnable .. | .engHalt .. |
    .bellPeriodWrite .. | .imageLoad | .substForce .. | .substReady .. | .substReturn | .activityTimeout .. |
    .slotCfgWrite .. | .slotRebase .. | .gateComplete .. | .irigFrame .. | .irigRegisterUpdate .. |
    .irigLockTimeout .. | .trackLocked .. | .rollCall | .setRank .. | .setMode .. | .setPolicy .. | .setPrepLimit .. |
    .setConcord .. | .rollCallGet .. | .prepLimitExpiry .. | .settleEnd .. | .pathLock .. | .pathUnlock .. |
    .setBw .. | .setDamp .. | .setPsl .. | .setFclamp .. | .setLock .. | .setRollback .. | .setZd .. | .pathGet .. |
    .phaseStepCommit .. | .stepCancel .. | .slewComplete .. | .holdoverEvaluation .. | .learningSample .. |
    .apply .. | .applyFull .. | .cacheClr .. | .rampComplete .. | .apllLock .. | .hopTimeout .. | .searchFail .. |
    .apllSettleEnd .. | .apllUnlock .. | .apllRetry .. | .apll8CoverWrite .. | .tuneEdgeDetect .. | .muxSwitch .. |
    .muxDeadClockSwitch .. | .outSrcWrite .. | .outPhaseCommit .. | .phaseAdjustDone .. | .pulseInstant .. |
    .tsSet .. | .tsAdj .. | .tsCapture .. | .tsCmdTimeout .. | .triggerArm .. | .triggerDisarm .. | .triggerFire .. |
    .triggerPulseEnd .. | .setTod .. | .nmeaSentence .. | .binaryTodFrame .. | .dllRelock .. | .tdcCal .. | .calAll |
    .spareTake .. | .spareRelease .. | .mirrorSwitch .. | .mirrorTimeout .. | .statsStart .. | .statsStop .. |
    .statsCfgWrite .. | .pairWindowEnd .. | .statsPublish .. | .freqRegGateEnd .. | .ringEnable .. |
    .ringDeferredStart .. | .ringDisable .. | .ringRdWrite .. | .bar2Read .. | .streamPacketSend .. |
    .streamFlush .. | .portEnable .. | .linkUp .. | .rxclkGateOn .. | .wakeClr | .queueEnable .. | .queueDisable .. |
    .launchEligible .. | .synceTxRateUpdate .. | .txtsIdRead .. | .txtsDestWrite .. | .servoSample .. |
    .servoStep .. | .esmcPduReceived .. | .esmcTimeout .. | .esmcInfoSend .. | .setPtpPort .. | .setUcast .. |
    .setAsym .. | .setClock .. | .setEsmc .. | .heartbeatSend | .laneDown .. | .witnessSend | .resetTwin |
    .causeEnd .. | .recessExpiry .. | .spiStatus .. | .i2cTimeout | .pciePerst | .parityScrub .. | .jtagExtest |
    .jtagIdcode | .jtagSamplePreload | .jtagClamp | .jtagHighz | .jtagExtestPulse | .jtagExtestTrain | .jtagBypass |
    .supplyWarning .. | .supplyFlagEnd | .islandPowerRecovery .. | .porInitComplete | .wdogKick | .wdogEnable .. |
    .jnlFind | .norRead .. | .norProgram | .norErase | .fuseProg | .keyProvision | .keyVoid | .debugOpenGo |
    .debugGateOpen | .bistGo | .dllFirstLock | .markerSend .. | .pcsLockAcquired .. | .anComplete .. | .pcieLinkDown |
    .jtagTapReset | .resetComplete | .railGood .. | .vddcResetRelease .. | .apllEnable .. | .slotQualWrite .. |
    .outEnable .. | .irigTodRead .. => false
  | .bell | .eCsync .. | .commonsReadComplete .. | .commonsWriteComplete .. | .pairLoRead .. | .engStep .. |
    .loadComplete .. | .tdcEdgeCapture .. | .modelJournalWrite .. | .setLearn .. | .clearModel .. | .getModel .. |
    .uartEnable .. | .uartByte .. | .dllUnlock .. | .calComplete .. | .evrRecordWrite .. | .anchorWrite .. |
    .dramInitComplete | .dramScrub .. | .portDisable .. | .linkDown .. | .pcsLockLoss .. | .rxFrame .. |
    .tailWrite .. | .txDescriptorCheck .. | .txFetchComplete .. | .txFrameStart .. | .txFrameDone .. |
    .txUnderrun .. | .twinEnable | .seekingEnd | .heartbeatReceive .. | .markerReceive .. | .twinLinkLoss |
    .witnessFrame .. | .witnessLoss | .twinDemote | .demoteRun | .faultAssert .. | .graceExpiry .. | .fltAck .. |
    .lifeSave | .lifetimeRecordWrite | .registerWrite .. | .ixaWrite .. | .ixdAccess .. | .spiRead .. | .spiWrite .. |
    .i2cWrite .. | .i2cRead .. | .i2cCurrentRead .. | .pcieRead .. | .pcieWrite .. | .legWrite .. | .jtagFabric .. |
    .jtagScanInt | .supplyRecovery .. | .railResetCrossing .. | .islandPowerFault .. | .powerStateGo .. |
    .powerTransitionComplete | .por .. | .pinReset .. | .softReset | .wdogExpiry | .islandGo .. | .journalScan .. |
    .jnlAppend | .jnlCompact | .jnlSlotAppend .. | .jnlSlotFind .. | .jnlSlotCompact .. | .appendComplete .. |
    .compactionEraseDone .. | .snapshotCommit | .oldHalfEraseDone .. | .norOperationComplete .. |
    .fuseProgramComplete .. | .keyProvisionComplete .. | .bistComplete .. | .saveTdc .. | .saveApll .. |
    .illegalInstruction .. | .pcieLinkUp .. | .pcieConfigWrite .. | .twinDisable => true

end Sys2Proof

namespace Sys2Proof.Machine

/-! ### Engines -/

/-- Engine `e` executes a row of `cost` cycles: it is not held by HALT, a lesson is in execution, and the cycles stay
within the WCET its entry declares (R40, R74, R77). -/
def State.executes (s : State) (e cost : Nat) : Prop :=
  s.engHalted e = false ∧
    ∃ l, (s.engine e).lesson = some l ∧ l.cyc + cost ≤ ((s.engine e).entry l.idx).wcet

/-- Where an engine that goes on at index `dst` fetches next: the ends of loop bodies are taken into account (R66). -/
def Eng.nextPc (x : Eng) (dst : Nat) : Nat := (advancePc x.loops dst).1

/-- The engine that goes on at index `dst` after `cost` cycles (R40, R66). -/
def Eng.goesOn (x : Eng) (cost dst : Nat) : Eng :=
  { x with pc := x.nextPc dst, loops := (advancePc x.loops dst).2, cycles := x.cycles + cost
           lesson := x.lesson.map (fun l => { l with cyc := l.cyc + cost }) }

/-- What R45 records of the fetch `f` and of the data reads `ds` of engine `e`: a single-bit error is corrected, counted and
raised as ECC_CORR. -/
def State.eccNoted (s : State) (e : Nat) (f : Ecc) (ds : List Ecc) : State :=
  ds.foldl (fun s d => if d = .single then engEccCorrected e true s else s)
    (if f = .single then engEccCorrected e false s else s)

/-- `t` is `s` but for the record of engine `e` and what R45 records of single-bit errors. -/
def State.onlyEngine (s : State) (e : Nat) (f : Ecc) (ds : List Ecc) (t : State) : Prop :=
  t = (s.eccNoted e f ds).putEngine e (t.engine e)

/-- The row `i` of engine `e` executes: where neither its fetch nor a data read is uncorrectable, none of the registers
it reads and writes is pending or poisoned (R48), and the next index is one of the memory's, it completes, the engine goes
on at `dst` after `cost` cycles with the effect `y`, and nothing else changes. -/
def engineRow (i : Instr) (e : Nat) (f : Ecc) (cost : Nat) (reads writes : List Nat) (s : State) (y : Eng → Eng)
    (ds : List Ecc := []) (dst : Eng → Nat := fun x => x.pc + 1) : Prop :=
  f ≠ .double → .double ∉ ds → s.executes e cost → (s.engine e).hazard reads writes = none →
    (y (s.engine e)).nextPc (dst (s.engine e)) ≤ 8191 →
      ∃ t, exec i s = .next t ∧
        t.engine e = (y (s.engine e)).goesOn cost (dst (s.engine e)) ∧ s.onlyEngine e f ds t

/-- Engine `e` traps with `cause`, CODE `code` and PC `pc` from `s` (R70): the trap is recorded, counted and raised, and the
words its lesson wrote are discarded; with nothing left to dispatch the engine has no lesson. -/
def State.trapped (s : State) (e cause code pc : Nat) (t : State) : Prop :=
  t.rd (Reg.ENG_TRAP_CAUSE e) = cause ∧ t.rd (Reg.ENG_TRAP_CODE e) = code ∧ t.rd (Reg.ENG_TRAP_PC e) = pc % 8192 ∧
    t.rd (Reg.ENG_STATUS_TRAP_COUNT e) = min (s.rd (Reg.ENG_STATUS_TRAP_COUNT e) + 1) 255 ∧
    t.flt.inflight = s.flt.inflight ++ [⟨16, e, pc * 256 + cause * 16, false⟩] ∧ (t.engine e).staged = [] ∧
    ((s.engine e).due = [] → (t.engine e).lesson = none) ∧ (∀ k, k ≠ e → t.engine k = s.engine k)

/-! ### Host accesses -/

/-- A host write of the register at `a` reaches it: the interfaces answer, its island can be reached, and no parity
mismatch stands in it (R23, R406, R435). -/
def State.hostOpen (s : State) (a : Nat) : Prop :=
  s.hostAlive = true ∧ s.reaches true a = true ∧ s.mismatched a = false

/-- A host read of the register at `a` reaches it (R23). -/
def State.hostReads (s : State) (a : Nat) : Prop := s.hostAlive = true ∧ s.reaches false a = true

/-- Every register field but those of the list keeps its value. -/
def State.regsBut (s : State) (l : List Fld) (t : State) : Prop :=
  ∀ f : Fld, (∀ g ∈ l, g.key ≠ f.key) → t.rd f = s.rd f

/-- Nothing changes but register fields of the list. -/
def State.onlyRegs (s : State) (l : List Fld) (t : State) : Prop := t = { s with regs := t.regs } ∧ s.regsBut l t

/-- The level condition of source `ev`, instance `inst`, is present (R381). -/
def State.present (s : State) (ev inst : Nat) : Prop := (ev, inst) ∈ s.flt.cond

/-! ### Command ports -/

/-- The lesson of engine `e` runs and has not processed the SEQ of `c` yet (R142). -/
def State.serves (s : State) (e : Nat) (c : CmdWord) : Prop := s.sylRuns e = true ∧ tabGet 0 e s.syl.seq ≠ c.seq.toNat

/-- The command `op` with the operands `c`, as a lesson reads it (R141). -/
def cmdRead (c : CmdWord) (op : Nat) : Command := ⟨op, c.seq.toNat, c.path.toNat, c.slot.toNat, c.value.toNat⟩

/-- The word of command `c` stands in host-in word 0 of engine `e`, and nothing else of the host words has changed (R75). -/
def State.posted (s : State) (e op : Nat) (c : CmdWord) (t : State) : Prop :=
  let o := s.hostOwner e
  tabGet 0 0 (t.hostWords o).hin = BitVec.ofNat 64 (cmdWord c op) ∧ (∀ k, k ≠ o → t.hostWords k = s.hostWords k) ∧
    s.regsBut [Reg.ENG_HIN_HI_DATA o 0, Reg.ENG_HIN_LO_DATA o 0] t

/-- The lesson of engine `e` has processed the command `c` of operation `op` with RESULT `code` and the echo `echo`, and left
`syl`; nothing else has changed (R142). -/
def State.answered (s : State) (e op : Nat) (c : CmdWord) (code echo : Nat) (syl : Syllabus) (t : State) : Prop :=
  t.bell = { s.bell with commits := s.bell.commits ++ [(e, 0x240, BitVec.ofNat 64 (op * 2 ^ 56 + c.seq.toNat * 2 ^ 48 + code * 2 ^ 40 + echo % 2 ^ 32))] } ∧
    t.syl = { syl with seq := tabSet 0 e c.seq.toNat syl.seq } ∧ s.posted e op c t ∧
    t = { s with regs := t.regs, words := t.words, bell := t.bell, syl := t.syl }

end Sys2Proof.Machine
end

