-- ==== Sys2Proof/Certificates/Slice0/Obligations.lean ====
section
/-! DEFINITION. The statements about the CK7240, for the provers. A statement names the rules of spec/ it formalises; for
each command it says that it completes, with what, and what it leaves as it was. -/
open Sys2Proof Sys2Proof.Machine

/-! ### The engines (R40 to R74) -/

/-- R58, R59: the operations on two registers. Z and N follow the result; ADD and SUB set C and V, the saturating ones
set Q where they saturate, the others clear C and V. -/
def Obligations.alu_two_registers : Prop :=
  ∀ (e : Fin 17) (f : Ecc) (rd rs1 rs2 : Fin 32) (s : State),
    let row := fun i => engineRow i e f 1 [rs1.val, rs2.val] [rd.val] s
    let zn := fun (op : Word64 → Word64 → Word64) (x : Eng) =>
      Eng.setReg { x with z := decide (op (x.reg rs1) (x.reg rs2) = 0), n := (op (x.reg rs1) (x.reg rs2)).msb, c := false, v := false }
        rd (op (x.reg rs1) (x.reg rs2))
    let sat := fun (op : Int → Int → Int) (x : Eng) =>
      let exact := op (x.reg rs1).toInt (x.reg rs2).toInt
      let r : Word64 := BitVec.ofInt 64 (max (-2 ^ 63) (min (2 ^ 63 - 1) exact))
      Eng.setReg { x with z := decide (r = 0), n := r.msb, c := false, v := false
                          q := x.q || decide (exact < -2 ^ 63 ∨ 2 ^ 63 - 1 < exact) } rd r
    row (.eAdd e f rd rs1 rs2) (fun x =>
      let r := x.reg rs1 + x.reg rs2
      Eng.setReg { x with z := decide (r = 0), n := r.msb, c := decide (2 ^ 64 ≤ (x.reg rs1).toNat + (x.reg rs2).toNat)
                          v := decide (r.toInt ≠ (x.reg rs1).toInt + (x.reg rs2).toInt) } rd r) ∧
    row (.eSub e f rd rs1 rs2) (fun x =>
      let r := x.reg rs1 - x.reg rs2
      Eng.setReg { x with z := decide (r = 0), n := r.msb, c := decide ((x.reg rs2).toNat ≤ (x.reg rs1).toNat)
                          v := decide (r.toInt ≠ (x.reg rs1).toInt - (x.reg rs2).toInt) } rd r) ∧
    row (.eAnd e f rd rs1 rs2) (zn (· &&& ·)) ∧ row (.eOr e f rd rs1 rs2) (zn (· ||| ·)) ∧
    row (.eXor e f rd rs1 rs2) (zn (· ^^^ ·)) ∧
    row (.eShl e f rd rs1 rs2) (zn (fun a b => a <<< (b.toNat % 64))) ∧
    row (.eShr e f rd rs1 rs2) (zn (fun a b => a >>> (b.toNat % 64))) ∧
    row (.eSar e f rd rs1 rs2) (zn (fun a b => a.sshiftRight (b.toNat % 64))) ∧
    row (.eMin e f rd rs1 rs2) (zn (fun a b => if a.toInt ≤ b.toInt then a else b)) ∧
    row (.eMax e f rd rs1 rs2) (zn (fun a b => if a.toInt ≤ b.toInt then b else a)) ∧
    row (.eAdds e f rd rs1 rs2) (sat (· + ·)) ∧ row (.eSubs e f rd rs1 rs2) (sat (· - ·))

/-- R58, R59, R60: the operations on one register or with an immediate, the comparisons, SEL under each condition of R60,
and RDC. -/
def Obligations.alu_immediate : Prop :=
  ∀ (e : Fin 17) (f : Ecc) (rd rs1 rs2 : Fin 32) (imm : BitVec 16) (sh : Fin 64) (lane : Fin 4) (cond : Fin 16) (b : Bool)
    (s : State),
    let row := fun i => engineRow i e f 1 [rs1.val] [rd.val] s
    let zn := fun (op : Word64 → Word64) (x : Eng) =>
      Eng.setReg { x with z := decide (op (x.reg rs1) = 0), n := (op (x.reg rs1)).msb, c := false, v := false } rd (op (x.reg rs1))
    let flagsSub := fun (x : Eng) (a c : Word64) =>
      ({ x with z := decide (a - c = 0), n := (a - c).msb, c := decide (c.toNat ≤ a.toNat)
                v := decide ((a - c).toInt ≠ a.toInt - c.toInt) } : Eng)
    let k : Word64 := imm.signExtend 64
    row (.eNeg e f rd rs1) (fun x => (flagsSub x 0 (x.reg rs1)).setReg rd (0 - x.reg rs1)) ∧
    row (.eAbs e f rd rs1) (fun x =>
      let exact : Int := ((x.reg rs1).toInt.natAbs : Int)
      let r : Word64 := BitVec.ofInt 64 (min (2 ^ 63 - 1) exact)
      Eng.setReg { x with z := decide (r = 0), n := r.msb, c := false, v := false, q := x.q || decide (2 ^ 63 - 1 < exact) } rd r) ∧
    row (.eClz e f rd rs1) (zn (fun a => BitVec.ofNat 64 (if a = 0 then 64 else 63 - a.toNat.log2))) ∧
    row (.eAddi e f rd rs1 imm) (fun x =>
      let r := x.reg rs1 + k
      Eng.setReg { x with z := decide (r = 0), n := r.msb, c := decide (2 ^ 64 ≤ (x.reg rs1).toNat + k.toNat)
                          v := decide (r.toInt ≠ (x.reg rs1).toInt + k.toInt) } rd r) ∧
    row (.eAndi e f rd rs1 imm) (zn (· &&& imm.zeroExtend 64)) ∧ row (.eOri e f rd rs1 imm) (zn (· ||| imm.zeroExtend 64)) ∧
    row (.eXori e f rd rs1 imm) (zn (· ^^^ imm.zeroExtend 64)) ∧
    row (.eShli e f rd rs1 sh) (zn (· <<< sh.val)) ∧ row (.eShri e f rd rs1 sh) (zn (· >>> sh.val)) ∧
    row (.eSari e f rd rs1 sh) (zn (·.sshiftRight sh.val)) ∧
    engineRow (.eCmp e f rs1 rs2) e f 1 [rs1.val, rs2.val] [] s (fun x => flagsSub x (x.reg rs1) (x.reg rs2)) ∧
    engineRow (.eCmpi e f rs1 imm) e f 1 [rs1.val] [] s (fun x => flagsSub x (x.reg rs1) k) ∧
    engineRow (.eLdi e f rd imm) e f 1 [] [rd.val] s (fun x => x.setReg rd k) ∧
    engineRow (.eInsh e f rd lane imm) e f 1 [rd.val] [rd.val] s (fun x => x.setReg rd
      ((x.reg rd &&& ~~~((0xFFFF : Word64) <<< (16 * lane.val))) ||| (imm.zeroExtend 64 <<< (16 * lane.val)))) ∧
    engineRow (.eRdc e f rd) e f 1 [] [rd.val] s (fun x => x.setReg rd (BitVec.ofNat 64 x.cycles)) ∧
    (condHolds (s.engine e) cond = some b →
      engineRow (.eSel e f rd rs1 rs2 cond) e f 1 [rs1.val, rs2.val] [rd.val] s
        (fun x => x.setReg rd (if b then x.reg rs1 else x.reg rs2)))

/-- R58, R61: the accumulators. Sums and products are exact and saturate to 128 bits; AEX rounds half up before it
shifts, and saturates to 64 bits. -/
def Obligations.accumulators : Prop :=
  ∀ (e : Fin 17) (f : Ecc) (acc acc2 : Fin 4) (rd rs1 rs2 : Fin 32) (sh : Fin 128) (s : State),
    let sat := fun (v : Eng → Int) (x : Eng) =>
      Eng.setAccum { x with q := x.q || decide (v x < -2 ^ 127 ∨ 2 ^ 127 - 1 < v x) } acc
        (BitVec.ofInt 128 (max (-2 ^ 127) (min (2 ^ 127 - 1) (v x))))
    let prod := fun (x : Eng) => (x.reg rs1).toInt * (x.reg rs2).toInt
    engineRow (.eMul e f acc rs1 rs2) e f 2 [rs1.val, rs2.val] [] s (sat prod) ∧
    engineRow (.eMac e f acc rs1 rs2) e f 2 [rs1.val, rs2.val] [] s (sat (fun x => (x.accum acc).toInt + prod x)) ∧
    engineRow (.eMsu e f acc rs1 rs2) e f 2 [rs1.val, rs2.val] [] s (sat (fun x => (x.accum acc).toInt - prod x)) ∧
    engineRow (.eAclr e f acc) e f 1 [] [] s (fun x => x.setAccum acc 0) ∧
    (sh.val ≤ 64 → engineRow (.eAld e f acc rs1 sh) e f 1 [rs1.val] [] s
      (fun x => x.setAccum acc ((x.reg rs1).signExtend 128 <<< sh.val))) ∧
    engineRow (.eAadd e f acc acc2) e f 1 [] [] s (sat (fun x => (x.accum acc).toInt + (x.accum acc2).toInt)) ∧
    engineRow (.eAsub e f acc acc2) e f 1 [] [] s (sat (fun x => (x.accum acc).toInt - (x.accum acc2).toInt)) ∧
    engineRow (.eAex e f rd acc sh) e f 2 [] [rd.val] s (fun x =>
      let a := (x.accum acc).toInt
      let exact : Int := (if sh.val = 0 then a else a + 2 ^ (sh.val - 1)) / 2 ^ sh.val
      let r : Word64 := BitVec.ofInt 64 (max (-2 ^ 63) (min (2 ^ 63 - 1) exact))
      Eng.setReg { x with z := decide (r = 0), n := r.msb, c := false, v := false
                          q := x.q || decide (exact < -2 ^ 63 ∨ 2 ^ 63 - 1 < exact) } rd r)

/-- R62: DIV truncates toward zero. A zero divisor gives the largest number, or the most negative one under a negative
dividend, and the most negative number by -1 gives the largest, with V and Q set; any other quotient clears V. Every case
takes 66 cycles. -/
def Obligations.division : Prop :=
  ∀ (e : Fin 17) (f : Ecc) (rd rs1 rs2 : Fin 32) (s : State),
    engineRow (.eDiv e f rd rs1 rs2) e f 66 [rs1.val, rs2.val] [rd.val] s (fun x =>
      let a := (x.reg rs1).toInt
      let b := (x.reg rs2).toInt
      let edge := decide (b = 0 ∨ (a = -2 ^ 63 ∧ b = -1))
      let quot : Int := if b = 0 then (if 0 ≤ a then 2 ^ 63 - 1 else -2 ^ 63)
        else if a = -2 ^ 63 ∧ b = -1 then 2 ^ 63 - 1 else a.tdiv b
      let r : Word64 := BitVec.ofInt 64 quot
      Eng.setReg { x with z := decide (r = 0), n := r.msb, c := false, v := edge, q := x.q || edge } rd r)

/-- R44, R45, R63: the data memory. An access at an aligned address inside the 16 KB reads or writes the word, the half
word or the two words at it, and no other word. An address above 0x3FFF traps with cause DMEM_RANGE, misaligned or not; a
misaligned one within the range traps with cause ALIGN; in both cases the access is not made. -/
def Obligations.data_memory : Prop :=
  ∀ (e : Fin 17) (f d d2 : Ecc) (acc : Fin 4) (rd rs rs1 : Fin 32) (imm : BitVec 16) (s : State),
    let addr := ((s.engine e).reg rs1 + imm.signExtend 64).toNat
    let i := addr / 8
    let half := fun (x : Eng) => if addr % 8 = 4 then (x.dword i).extractLsb' 32 32 else (x.dword i).extractLsb' 0 32
    let put := fun (x : Eng) => if addr % 8 = 4 then (x.reg rs).extractLsb' 0 32 ++ (x.dword i).extractLsb' 0 32
      else (x.dword i).extractLsb' 32 32 ++ (x.reg rs).extractLsb' 0 32
    let traps := fun (i : Instr) (reads writes : List Nat) (align : Nat) =>
      f ≠ .double → s.executes e 1 → (s.engine e).hazard reads writes = none → (s.engine e).pc ≤ 8191 →
        (0x3FFF < addr ∨ addr % align ≠ 0) →
        ∃ t, exec i s = .next t ∧
          (s.eccNoted e f []).trapped e (if 0x3FFF < addr then 4 else 3) 0 (s.engine e).pc t ∧
          t.store = s.store ∧ (t.engine e).dmem = (s.engine e).dmem ∧
          ((s.engine e).due = [] → (∀ r, (t.engine e).reg r = (s.engine e).reg r) ∧
            ∀ r, (t.engine e).accum r = (s.engine e).accum r)
    traps (.eLd e f rd rs1 imm d) [rs1.val] [rd.val] 8 ∧ traps (.eSt e f rs rs1 imm) [rs.val, rs1.val] [] 8 ∧
    traps (.eLdw e f rd rs1 imm d) [rs1.val] [rd.val] 4 ∧ traps (.eStw e f rs rs1 imm d) [rs.val, rs1.val] [] 4 ∧
    traps (.eAldm e f acc rs1 imm (d, d2)) [rs1.val] [] 16 ∧ traps (.eAst e f acc rs1 imm) [rs1.val] [] 16 ∧
    (addr ≤ 0x3FFF →
    (addr % 8 = 0 → engineRow (.eLd e f rd rs1 imm d) e f 2 [rs1.val] [rd.val] s (fun x => x.setReg rd (x.dword i)) [d] ∧
      engineRow (.eSt e f rs rs1 imm) e f 2 [rs.val, rs1.val] [] s (fun x => { x with dmem := tabSet 0 i (x.reg rs) x.dmem })) ∧
    (addr % 4 = 0 →
      engineRow (.eLdw e f rd rs1 imm d) e f 2 [rs1.val] [rd.val] s (fun x => x.setReg rd ((half x).signExtend 64)) [d] ∧
      engineRow (.eStw e f rs rs1 imm d) e f 2 [rs.val, rs1.val] [] s
        (fun x => { x with dmem := tabSet 0 i (put x) x.dmem }) [d]) ∧
    (addr % 16 = 0 → engineRow (.eAldm e f acc rs1 imm (d, d2)) e f 2 [rs1.val] [] s
        (fun x => x.setAccum acc (x.dword (i + 1) ++ x.dword i)) [d, d2] ∧
      engineRow (.eAst e f acc rs1 imm) e f 2 [rs1.val] [] s (fun x =>
        { x with dmem := tabSet 0 (i + 1) ((x.accum acc).extractLsb' 64 64) (tabSet 0 i ((x.accum acc).extractLsb' 0 64) x.dmem) })))

/-- R46 to R50, R52, R64, R65: commons and mailboxes. CRD and CWR issue an access of the lesson data with at most one
other outstanding, MBI reads an in-word, and MBO stages an out-word that is bound to its engine or one of its host-out
words. R47, R48, R64: the completion of commons accesses. A write reaches its word and no other; a read reaches its
register, or poisons it where the word is uncorrectable; CSYNC waits for the accesses outstanding. -/
def Obligations.commons_and_mailboxes : Prop :=
  (∀ (e : Fin 17) (f : Ecc) (rd rs rs1 : Fin 32) (imm : BitVec 16) (idx : Fin 1024) (s : State),
     let addr := ((s.engine e).reg rs1 + (imm.signExtend 64 <<< 3)).toNat
     let i := (BitVec.ofNat 64 idx.val + (s.engine e).reg rs1).toNat
     (addr % 8 = 0 → 0xC0000 ≤ addr → addr ≤ 0x1FFFFF → (s.engine e).acc.length < 2 →
       engineRow (.eCrd e f rd rs1 imm) e f 1 [rs1.val] [rd.val] s (fun x =>
         { x with acc := x.acc ++ [⟨addr / 8, none, rd, false⟩], cd := false
                  pend := if rd.val = 0 then x.pend else x.pend ++ [rd.val], poison := x.poison.filter (· != rd.val) }) ∧
       engineRow (.eCwr e f rs rs1 imm) e f 1 [rs1.val, rs.val] [] s (fun x =>
         { x with acc := x.acc ++ [⟨addr / 8, some (x.reg rs), 0, false⟩], cd := false })) ∧
     (i ≤ 0x1FF → engineRow (.eMbi e f rd idx rs1) e f 1 [rs1.val] [rd.val] s (fun x => x.setReg rd
       (if 0x100 ≤ i ∧ i ≤ 0x103 then tabGet 0 (i - 0x100) (s.hostWords (s.hostOwner e)).latched else tabGet 0 i s.inw))) ∧
     ((0x240 ≤ i ∧ i ≤ 0x243) ∨ (outListed i = true ∧ i ∈ (s.engine e).bind) →
       engineRow (.eMbo e f rs idx rs1) e f 1 [rs1.val, rs.val] [] s (fun x => { x with staged := tabPut i (x.reg rs) x.staged }))) ∧
  (∀ (e : Fin 17) (f ecc : Ecc) (a : CmnAcc) (rest : List CmnAcc) (d : Word64) (s : State),
     let x := s.engine e
     let only := fun (t : State) => t.pending = s.pending ∧ t.dram.mem = s.dram.mem ∧ t.nor = s.nor ∧ t.hostMem = s.hostMem ∧
       (∀ k, k ≠ e.val → t.engine k = s.engine k)
     (x.acc = a :: rest → a.data = some d →
       ∃ t, exec (.commonsWriteComplete e) s = .next t ∧ tabGet 0 a.word t.commons = d ∧
         (∀ w, w ≠ a.word → tabGet 0 w t.commons = tabGet 0 w s.commons) ∧ (t.engine e).acc = rest ∧ only t ∧ t.regs = s.regs) ∧
     (x.acc = a :: rest → a.data = none → a.old = false → a.rd ≠ 0 → ecc ≠ .double →
       ∃ t, exec (.commonsReadComplete e ecc) s = .next t ∧ (t.engine e).reg a.rd = tabGet 0 a.word s.commons ∧
         (t.engine e).pend = x.pend.erase a.rd ∧ (t.engine e).acc = rest ∧ (∀ r, r ≠ a.rd → (t.engine e).reg r = x.reg r) ∧
         t.commons = s.commons ∧ only t ∧ t.regs = s.regs ∧ t.flt = s.flt) ∧
     (x.acc = a :: rest → a.data = none → a.old = false → a.rd ≠ 0 →
       ∃ t, exec (.commonsReadComplete e .double) s = .next t ∧ a.rd ∈ (t.engine e).poison ∧
         t.flt.inflight = s.flt.inflight ++ [⟨10, 0xFF, a.word, false⟩] ∧ (∀ r, (t.engine e).reg r = x.reg r) ∧
         t.commons = s.commons ∧ only t) ∧
     (f ≠ .double → s.executes e 96 → s.onRing = false → x.acc = [a] → a.data = some d → x.nextPc (x.pc + 1) ≤ 8191 →
       ∃ t, exec (.eCsync e f) s = .next t ∧ tabGet 0 a.word t.commons = d ∧
         (∀ w, w ≠ a.word → tabGet 0 w t.commons = tabGet 0 w s.commons) ∧ (t.engine e).acc = [] ∧ (t.engine e).cd = true ∧
         (t.engine e).pc = x.nextPc (x.pc + 1) ∧ only t) ∧
     (f ≠ .double → s.executes e 96 → s.onRing = true → x.nextPc (x.pc + 1) ≤ 8191 →
       ∃ t, exec (.eCsync e f) s = .next t ∧ t.engine e = x.goesOn 96 (x.pc + 1) ∧ s.onlyEngine e f [] t))

/-- R66, R67: LOOP and the skips. A LOOP of `n` iterations enters its body, or passes it where `n` is not positive; a skip
that is taken goes on after the `n` instructions it skips, within the body it stands in. -/
def Obligations.loops_and_skips : Prop :=
  ∀ (e : Fin 17) (f : Ecc) (body : Fin 256) (rs reg : Fin 32) (count : Fin 8192) (cond : Fin 16) (n : Fin 1024) (bit : Fin 64)
    (b : Bool) (s : State),
    let x := s.engine e
    let times : Int := if rs.val = 0 then (count.val : Int) else min (x.reg rs).toInt (count.val : Int)
    let inside := x.pc + 1 + n.val ≤ 8191 ∧ ∀ l ∈ x.loops.head?, x.pc + 1 + n.val ≤ l.past
    let skip := fun (i : Instr) (reads : List Nat) (taken : Bool) =>
      (taken = false → engineRow i e f 1 reads [] s id) ∧
      (taken = true → inside → engineRow i e f 1 reads [] s id [] (fun x => x.pc + 1 + n.val))
    (0 < body.val → 0 < count.val → count.val ≤ 4096 → x.pc + body.val ≤ 8191 →
      (times ≤ 0 → engineRow (.eLoop e f body rs count) e f 1 [rs.val] [] s id [] (fun x => x.pc + 1 + body.val)) ∧
      (0 < times → x.loops.length < 4 → engineRow (.eLoop e f body rs count) e f 1 [rs.val] [] s (fun x =>
        { x with loops := ⟨x.pc + 1, x.pc + 1 + body.val, times.toNat⟩ :: x.loops }))) ∧
    (0 < n.val →
      (condHolds x cond = some b → skip (.eSkip e f cond n) [] b) ∧
      skip (.eSkbs e f reg bit n) [reg.val] ((x.reg reg).getLsbD bit) ∧
      skip (.eSkbc e f reg bit n) [reg.val] (!(x.reg reg).getLsbD bit))

/-- R60: the conditions that SEL and SKIP test, by their codes. SEL takes its first register where the condition holds and
its second where it does not; SKIP skips where it holds, and goes on where it does not. A code that the table does not list
traps with cause ILLEGAL. The worked word 0x4003_2000 is MUL a0, g3, g4. -/
def Obligations.conditions : Prop :=
  ∀ (e : Fin 17) (f : Ecc) (rd rs1 rs2 : Fin 32) (cond : Fin 16) (n : Fin 1024) (b : Bool) (s : State),
    let x := s.engine e
    let table : List (Nat × Bool) := [(0x0, x.z), (0x1, !x.z), (0x2, x.n != x.v), (0x3, x.n == x.v),
      (0x4, !x.z && x.n == x.v), (0x5, x.z || x.n != x.v), (0x6, !x.c), (0x7, x.c), (0x8, x.v), (0x9, !x.v), (0xA, x.q),
      (0xB, x.cd), (0xC, !x.cd), (0xF, true)]
    let inside := x.pc + 1 + n.val ≤ 8191 ∧ ∀ l ∈ x.loops.head?, x.pc + 1 + n.val ≤ l.past
    let illegal := fun (i : Instr) => f ≠ .double → s.executes e 1 → x.pc ≤ 8191 →
      ∃ t, exec i s = .next t ∧ (s.eccNoted e f []).trapped e 2 0 x.pc t ∧ t.store = s.store
    ((cond.val, b) ∈ table →
      engineRow (.eSel e f rd rs1 rs2 cond) e f 1 [rs1.val, rs2.val] [rd.val] s
        (fun y => y.setReg rd (if b then y.reg rs1 else y.reg rs2)) ∧
      (0 < n.val → (b = false → engineRow (.eSkip e f cond n) e f 1 [] [] s id) ∧
        (b = true → inside → engineRow (.eSkip e f cond n) e f 1 [] [] s id [] (fun y => y.pc + 1 + n.val)))) ∧
    (cond.val ∉ table.map Prod.fst → illegal (.eSel e f rd rs1 rs2 cond) ∧ illegal (.eSkip e f cond n)) ∧
    decodeEngine e .ok .ok .ok 0x40032000#32 = some (.eMul e .ok 0 3 4)

/-- R54, R68 to R70, R74: how a lesson ends. END commits the words the lesson wrote for the next bell, POST raises one of the
events a lesson may raise, TRAP records its code, and a lesson beyond its declared WCET traps with cause WCET. -/
def Obligations.lesson_ends : Prop :=
  ∀ (e : Fin 17) (f : Ecc) (ev : Fin 128) (code : Fin 256) (s : State),
    let x := s.engine e
    let u := s.eccNoted e f []
    (f ≠ .double → s.executes e 2 → x.due = [] → s.rd (Reg.ENG_CTRL_ENABLE e) ≠ 0 →
      ∃ t, exec (.eEnd e f) s = .next t ∧
        t.bell.commits = s.bell.commits ++ x.staged.map (fun w => (e.val, w.1, w.2)) ∧ (t.engine e).lesson = none ∧
        (t.engine e).staged = [] ∧ (t.engine e).busy = x.cycles + 2 ∧ (∀ k, k ≠ e.val → t.engine k = s.engine k) ∧
        t.store = s.store ∧ t.regs = u.regs) ∧
    (∀ i rest, f ≠ .double → s.executes e 2 → x.due = i :: rest → s.mayDispatch e = true →
      ∃ t, exec (.eEnd e f) s = .next t ∧
        t.bell.commits = s.bell.commits ++ x.staged.map (fun w => (e.val, w.1, w.2)) ∧
        (t.engine e).lesson = some ⟨i, min 4 (x.entry i).wcet⟩ ∧ (t.engine e).pc = (x.entry i).pc ∧ (t.engine e).due = rest ∧
        (t.engine e).cycles = x.cycles + 2 + min 4 (x.entry i).wcet ∧ t.store = s.store) ∧
    (f ≠ .double → s.executes e 2 → (ev.val = 24 ∨ ev.val = 98 ∨ (80 ≤ ev.val ∧ ev.val ≤ 95) ∨ 112 ≤ ev.val) →
      x.nextPc (x.pc + 1) ≤ 8191 →
      ∃ t, exec (.ePost e f ev) s = .next t ∧ t.engine e = x.goesOn 2 (x.pc + 1) ∧
        t = (u.raise ev e).putEngine e (t.engine e)) ∧
    (f ≠ .double → s.executes e 1 → x.pc ≤ 8191 →
      ∃ t, exec (.eTrap e f code) s = .next t ∧ u.trapped e 1 code x.pc t ∧ t.store = s.store) ∧
    (let spent := ∃ l, x.lesson = some l ∧ (x.entry l.idx).wcet ≤ l.cyc
     (s.engHalted e = false → spent → x.pc ≤ 8191 →
       ∃ t, exec (.wcetExceeded e) s = .next t ∧ s.trapped e 13 0 x.pc t ∧ t.store = s.store) ∧
     (s.engHalted e = true ∨ ¬spent → exec (.wcetExceeded e) s = .next s))

/-- R45, R48, R57, R64 to R67, R69 to R71, R77, R511: an engine that HALT holds, or that has no lesson, executes nothing; one whose
fetch is uncorrectable stops, and the word is recorded; and an instruction traps with its cause and no other effect: HAZARD
where it reads or writes a register whose read is pending, CMN_ECC where it reads a poisoned one, and the causes of malformed
operands, of addresses, indices, skips and loops out of range, of events that no lesson may post, and of a fetch beyond index 8,191. -/
def Obligations.instruction_traps : Prop :=
  ∀ (e : Fin 17) (f d d2 : Ecc) (acc acc2 : Fin 4) (rd rs rs1 rs2 : Fin 32) (imm : BitVec 16) (sh6 : Fin 64) (sh : Fin 128)
    (lane : Fin 4) (cond : Fin 16) (idx : Fin 1024) (body : Fin 256) (count : Fin 8192) (n : Fin 1024) (ev : Fin 128)
    (code : Fin 256) (s : State),
    let x := s.engine e
    let traps := fun (i : Instr) (cause : Nat) => f ≠ .double → s.executes e 1 → x.pc ≤ 8191 →
      ∃ t, exec i s = .next t ∧ (s.eccNoted e f []).trapped e cause 0 x.pc t ∧ t.store = s.store
    let course := fun (i : Instr) =>
      (s.engHalted e = true ∨ x.lesson = none → exec i s = .next s) ∧
      (f = .double → s.engHalted e = false → x.lesson.isSome = true → x.pc ≤ 8191 →
        ∃ t, exec i s = .next t ∧ t.rd (Reg.ENG_ECC_UNC_I e) = 1 ∧ t.rd (Reg.ENG_ECC_ADDR e) = x.pc ∧
          (⟨18, e, x.pc, false⟩ : Notice) ∈ t.flt.inflight ∧ (t.engine e).stopped = true ∧ (t.engine e).run = false ∧
          (t.engine e).lesson = none ∧ (t.engine e).dmem = x.dmem ∧ t.store = s.store)
    let row := fun (i : Instr) (reads writes : List Nat) => course i ∧
      ((∃ r ∈ reads ++ writes, r ≠ 0 ∧ r ∈ x.pend) → (∀ r ∈ reads, r ∉ x.poison) → traps i 7) ∧
      ((∃ r ∈ reads, r ≠ 0 ∧ r ∈ x.poison) → (∀ r ∈ reads ++ writes, r ∉ x.pend) → traps i 9)
    let last := fun (i : Instr) (cost : Nat) (reads writes : List Nat) =>
      f ≠ .double → s.executes e cost → x.hazard reads writes = none → x.pc = 8191 → x.loops = [] →
        ∃ t, exec i s = .next t ∧ (s.eccNoted e f []).trapped e 2 0 8191 t ∧ t.store = s.store ∧
          (x.due = [] → ∀ r, (t.engine e).reg r = x.reg r)
    let load := fun (i : Instr) => course i ∧ (rd.val ≠ 0 → rd.val ∈ x.pend → traps i 7)
    let two := fun (i : Instr) (cost : Nat) => row i [rs1.val, rs2.val] [rd.val] ∧ last i cost [rs1.val, rs2.val] [rd.val]
    let one := fun (i : Instr) => row i [rs1.val] [rd.val]
    let plain := fun (i : Instr) => one i ∧ last i 1 [rs1.val] [rd.val]
    (two (.eAdd e f rd rs1 rs2) 1 ∧ two (.eSub e f rd rs1 rs2) 1 ∧ two (.eAnd e f rd rs1 rs2) 1 ∧ two (.eOr e f rd rs1 rs2) 1 ∧
      two (.eXor e f rd rs1 rs2) 1 ∧ two (.eShl e f rd rs1 rs2) 1 ∧ two (.eShr e f rd rs1 rs2) 1 ∧ two (.eSar e f rd rs1 rs2) 1 ∧
      two (.eMin e f rd rs1 rs2) 1 ∧ two (.eMax e f rd rs1 rs2) 1 ∧ two (.eAdds e f rd rs1 rs2) 1 ∧
      two (.eSubs e f rd rs1 rs2) 1 ∧ two (.eDiv e f rd rs1 rs2) 66) ∧
    (plain (.eNeg e f rd rs1) ∧ plain (.eAbs e f rd rs1) ∧ plain (.eClz e f rd rs1) ∧ plain (.eAddi e f rd rs1 imm) ∧
      plain (.eAndi e f rd rs1 imm) ∧ plain (.eOri e f rd rs1 imm) ∧ plain (.eXori e f rd rs1 imm) ∧ plain (.eShli e f rd rs1 sh6) ∧
      plain (.eShri e f rd rs1 sh6) ∧ plain (.eSari e f rd rs1 sh6) ∧ one (.eLd e f rd rs1 imm d) ∧
      one (.eLdw e f rd rs1 imm d) ∧ one (.eCrd e f rd rs1 imm) ∧ one (.eMbi e f rd idx rs1)) ∧
    (row (.eCmp e f rs1 rs2) [rs1.val, rs2.val] [] ∧ row (.eCmpi e f rs1 imm) [rs1.val] [] ∧ load (.eRdc e f rd) ∧
      load (.eLdi e f rd imm) ∧ load (.eAex e f rd acc sh) ∧ row (.eInsh e f rd lane imm) [rd.val] [rd.val] ∧
      row (.eMul e f acc rs1 rs2) [rs1.val, rs2.val] [] ∧ row (.eMac e f acc rs1 rs2) [rs1.val, rs2.val] [] ∧
      row (.eMsu e f acc rs1 rs2) [rs1.val, rs2.val] [] ∧ course (.eAclr e f acc) ∧ course (.eAadd e f acc acc2) ∧
      course (.eAsub e f acc acc2) ∧ row (.eSt e f rs rs1 imm) [rs1.val, rs.val] [] ∧
      row (.eStw e f rs rs1 imm d) [rs1.val, rs.val] [] ∧ row (.eAldm e f acc rs1 imm (d, d2)) [rs1.val] [] ∧
      row (.eAst e f acc rs1 imm) [rs1.val] [] ∧ row (.eCwr e f rs rs1 imm) [rs1.val, rs.val] [] ∧ course (.eCsync e f) ∧
      row (.eMbo e f rs idx rs1) [rs1.val, rs.val] [] ∧ course (.eEnd e f) ∧ course (.ePost e f ev) ∧
      course (.eTrap e f code)) ∧
    (course (.eSel e f rd rs1 rs2 cond) ∧ course (.eAld e f acc rs1 sh) ∧ course (.eLoop e f body rs count) ∧
      course (.eSkip e f cond n) ∧ course (.eSkbs e f rs sh6 n) ∧ course (.eSkbc e f rs sh6 n)) ∧
    (let addr := (x.reg rs1 + (imm.signExtend 64 <<< 3)).toNat
     (addr % 8 ≠ 0 ∨ addr < 0xC0000 ∨ 0x1FFFFF < addr ∨ 2 ≤ x.acc.length) →
       (x.hazard [rs1.val] [rd.val] = none → traps (.eCrd e f rd rs1 imm) 8) ∧
       (x.hazard [rs1.val, rs.val] [] = none → traps (.eCwr e f rs rs1 imm) 8)) ∧
    (let i := (BitVec.ofNat 64 idx.val + x.reg rs1).toNat
     (x.hazard [rs1.val] [rd.val] = none → 0x1FF < i → traps (.eMbi e f rd idx rs1) 5) ∧
     (x.hazard [rs1.val, rs.val] [] = none →
       (outListed i = false → traps (.eMbo e f rs idx rs1) 5) ∧
       (outListed i = true → ¬(0x240 ≤ i ∧ i ≤ 0x243) → i ∉ x.bind → traps (.eMbo e f rs idx rs1) 6))) ∧
    (let times : Int := if rs.val = 0 then (count.val : Int) else min (x.reg rs).toInt (count.val : Int)
     let formed := 0 < body.val ∧ 0 < count.val ∧ count.val ≤ 4096 ∧ x.pc + body.val ≤ 8191
     (¬formed → traps (.eLoop e f body rs count) 2) ∧
     (formed → row (.eLoop e f body rs count) [rs.val] []) ∧
     (formed → x.hazard [rs.val] [] = none → 0 < times → 4 ≤ x.loops.length → traps (.eLoop e f body rs count) 11)) ∧
    (let outside := 8191 < x.pc + 1 + n.val ∨ ∃ l ∈ x.loops.head?, l.past < x.pc + 1 + n.val
     (n.val = 0 ∨ condHolds x cond = none → traps (.eSkip e f cond n) 2) ∧
     (0 < n.val → outside → condHolds x cond = some true → traps (.eSkip e f cond n) 10) ∧
     (n.val = 0 → traps (.eSkbs e f rs sh6 n) 2 ∧ traps (.eSkbc e f rs sh6 n) 2) ∧
     (0 < n.val → row (.eSkbs e f rs sh6 n) [rs.val] [] ∧ row (.eSkbc e f rs sh6 n) [rs.val] []) ∧
     (0 < n.val → outside → x.hazard [rs.val] [] = none →
       ((x.reg rs).getLsbD sh6 = true → traps (.eSkbs e f rs sh6 n) 10) ∧
       ((x.reg rs).getLsbD sh6 = false → traps (.eSkbc e f rs sh6 n) 10))) ∧
    (condHolds x cond = none → traps (.eSel e f rd rs1 rs2 cond) 2) ∧
    (∀ b, condHolds x cond = some b → row (.eSel e f rd rs1 rs2 cond) [rs1.val, rs2.val] [rd.val]) ∧
    (64 < sh.val → traps (.eAld e f acc rs1 sh) 2) ∧ (sh.val ≤ 64 → row (.eAld e f acc rs1 sh) [rs1.val] []) ∧
    (¬(ev.val = 24 ∨ ev.val = 98 ∨ (80 ≤ ev.val ∧ ev.val ≤ 95) ∨ 112 ≤ ev.val) → traps (.ePost e f ev) 12)

/-- R45, R57, R69, R77, R94: what happens to an engine beside its instructions. -/
def Obligations.engine_events : Prop :=
  ∀ (e : Fin 17) (f d d2 : Ecc) (mem : EngMem) (idx : Fin 8192) (word : BitVec 32) (s : State),
    let x := s.engine e
    let i := if mem = .dmem then idx.val % 2048 else idx.val
    let corr := if mem = .dmem then Reg.ENG_ECC_CORR_D e else Reg.ENG_ECC_CORR_I e
    let unc := if mem = .dmem then Reg.ENG_ECC_UNC_D e else Reg.ENG_ECC_UNC_I e
    exec (.engineScrub e mem idx .ok) s = .next s ∧
    (∃ t, exec (.engineScrub e mem idx .single) s = .next t ∧ t.rd corr = min (s.rd corr + 1) 255 ∧ s.regsBut [corr] t ∧
      t.flt.inflight = s.flt.inflight ++ [⟨19, e, 0, false⟩] ∧ t.eng = s.eng ∧ t.store = s.store) ∧
    (∃ t, exec (.engineScrub e mem idx .double) s = .next t ∧ t.rd unc = 1 ∧ t.rd (Reg.ENG_ECC_ADDR e) = i ∧
      (t.engine e).stopped = true ∧ (t.engine e).run = false ∧ (t.engine e).lesson = none ∧
      (⟨18, e, i, false⟩ : Notice) ∈ t.flt.inflight ∧ t.store = s.store) ∧
    (∃ t, exec (.strikeExpiry e) s = .next t ∧ (t.engine e).strikes = x.strikes.filter (fun b => decide (s.bell.number < b)) ∧
      t = s.putEngine e { x with strikes := (t.engine e).strikes }) ∧
    (f ≠ .double → s.executes e 2 → x.pc ≤ 8191 → postsBeyond word = false → decodeEngine e .ok .ok .ok word = none →
      ∃ t, exec (.illegalInstruction e f word) s = .next t ∧ (s.eccNoted e f []).trapped e 2 0 x.pc t ∧ t.store = s.store) ∧
    (f ≠ .double → s.executes e 2 → x.pc ≤ 8191 → postsBeyond word = true →
      ∃ t, exec (.illegalInstruction e f word) s = .next t ∧ (s.eccNoted e f []).trapped e 12 0 x.pc t ∧ t.store = s.store) ∧
    (∀ j cost body, s.hostOpen (0x7000 + 0x80 * e) → s.engHalted e = true → postsBeyond (x.iword x.pc) = false →
      decodeEngine e .ok d d2 (x.iword x.pc) = some j → engineBody j = some (cost, body) →
      exec (.engStep e f (d, d2)) s = .next (engRun e f cost body s))

/-- R53, R75, R77, R85: the host commands of the engines. The LO write of a host-in word commits both halves, the LO read
of a host-out word captures its HI half, ENABLE = 0 leaves the lesson in execution to finish and drops what is due, and the
bell period is refused while an engine runs and outside its range. -/
def Obligations.engine_host : Prop :=
  ∀ (e : Fin 17) (k : Fin 4) (data : BitVec 32) (period : BitVec 25) (on : Bool) (s : State),
    let o := s.hostOwner e
    let x := s.engine e
    (s.hostOpen (Reg.ENG_HIN_LO_DATA e k).addr → ∃ t, exec (.hinLoWrite e k data) s = .next t ∧
      t.rd (Reg.ENG_HIN_LO_DATA o k) = data.toNat ∧
      tabGet 0 k (t.hostWords o).hin = BitVec.ofNat 64 (s.rd (Reg.ENG_HIN_HI_DATA o k) * 2 ^ 32 + data.toNat) ∧
      (∀ j, j ≠ k.val → tabGet 0 j (t.hostWords o).hin = tabGet 0 j (s.hostWords o).hin) ∧
      t.hostWords o = { s.hostWords o with hin := (t.hostWords o).hin } ∧
      (∀ n, n ≠ o → t.hostWords n = s.hostWords n) ∧ s.regsBut [Reg.ENG_HIN_LO_DATA o k] t ∧
      t = { s with regs := t.regs, words := t.words }) ∧
    (s.hostReads (Reg.ENG_HOUT_LO_DATA e k).addr → ∃ t, exec (.houtLoRead e k) s = .next t ∧
      (let w := tabGet 0 k (s.hostWords o).hout
      t.hostRead = [w.extractLsb' 0 32] ∧ t.rd (Reg.ENG_HOUT_HI_DATA o k) = w.toNat / 2 ^ 32 ∧
      s.regsBut [Reg.ENG_HOUT_HI_DATA o k] t ∧ t = { s with regs := t.regs, hostRead := t.hostRead })) ∧
    (s.hostOpen (Reg.ENG_CTRL_ENABLE e).addr →
      (∃ t, exec (.engEnable e true) s = .next t ∧ (fun t => t.rd (Reg.ENG_CTRL_ENABLE e) = 1 ∧ s.onlyRegs [Reg.ENG_CTRL_ENABLE e] t) t) ∧
      (∃ t, exec (.engEnable e false) s = .next t ∧ (fun t => t.rd (Reg.ENG_CTRL_ENABLE e) = 0 ∧ s.regsBut [Reg.ENG_CTRL_ENABLE e] t ∧
        t.engine e = { x with due := [], unchecked := true, run := x.run && x.lesson.isSome } ∧
        (∀ n, n ≠ e.val → t.engine n = s.engine n) ∧ t = { s with regs := t.regs, eng := t.eng }) t) ∧
      ∃ t, exec (.engHalt e on) s = .next t ∧ (fun t => t.rd (Reg.ENG_CTRL_HALT e) = on.toNat ∧ s.onlyRegs [Reg.ENG_CTRL_HALT e] t) t) ∧
    (s.hostOpen Reg.DEV_BELL_PERIOD.addr → ∃ t, exec (.bellPeriodWrite period) s = .next t ∧
      (let taken := (∀ n < 17, (s.engine n).run = false) ∧ 250 ≤ period.toNat ∧ period.toNat ≤ 16777216
      s.onlyRegs [Reg.DEV_BELL_PERIOD, Reg.DEV_BELL_STATUS_PERIOD_REJ] t ∧
      (taken → t.rd Reg.DEV_BELL_PERIOD = period.toNat ∧ t.rd Reg.DEV_BELL_STATUS_PERIOD_REJ = 0) ∧
      (¬taken → t.rd Reg.DEV_BELL_PERIOD = s.rd Reg.DEV_BELL_PERIOD ∧ t.rd Reg.DEV_BELL_STATUS_PERIOD_REJ = 1)))

/-- R99 to R106: substitution. A forced request stops the engine and starts the copy where E16 is armed, and is SUBST_FAIL
where it is not; the copy makes E16 ready or ends the substitution; RETURN hands the engine back. -/
def Obligations.substitution : Prop :=
  ∀ (n : Fin 16) (s : State),
    let a := (Reg.ENG_SUBST_FORCE 16).addr
    let sec := s.section s.subst.eng
    (s.hostOpen a → s.substBusy = false → s.serving = 31 → s.substituted n = false → s.subst.phase = .idle →
      s.rd (Reg.ENG_CTRL_ENABLE 16) ≠ 0 → ∃ t, exec (.substForce n) s = .next t ∧
        t.rd (Reg.ENG_SUBST_TARGET 16) = n ∧ t.rd (Reg.ENG_SUBST_REASON 16) = 5 ∧ t.subst.phase = .copying ∧ t.subst.eng = n ∧
        n.val ∉ t.subst.failed ∧ ¬ t.present 21 n ∧
        (t.engine n).stopped = true ∧ (t.engine n).lesson = none ∧ (t.engine 16).tt = (s.engine n).tt ∧
        (t.engine 16).bind = (s.engine n).bind ∧ t.present 20 n ∧ t.store = s.store) ∧
    (s.hostOpen a → s.substBusy = false → s.serving = 31 → s.substituted n = false →
      s.rd (Reg.ENG_CTRL_ENABLE 16) = 0 → ∃ t, exec (.substForce n) s = .next t ∧
        n.val ∈ t.subst.failed ∧ t.subst.phase = s.subst.phase ∧ (t.engine n).stopped = true ∧ t.present 21 n ∧
        t.store = s.store) ∧
    (s.hostOpen a → (s.substBusy = true ∨ s.serving ≠ 31) → ∃ t, exec (.substForce n) s = .next t ∧
      t.rd (Reg.ENG_SUBST_TARGET 16) = n ∧ s.onlyRegs [Reg.ENG_SUBST_TARGET 16] t) ∧
    (s.subst.phase = .copying → ∃ t, exec (.substReady true) s = .next t ∧
      t.subst = { s.subst with phase := .ready } ∧ (t.engine 16).imem = tabOf 0xFFFFFFFF sec.imem ∧
      (t.engine 16).dmem = (if s.subst.healthy then (s.engine s.subst.eng).dmem else tabOf 0 sec.dmem) ∧
      (∀ m, m ≠ 16 → t.engine m = s.engine m) ∧ t = { s with eng := t.eng, subst := t.subst }) ∧
    (s.subst.phase = .copying → ∃ t, exec (.substReady false) s = .next t ∧
      t.subst.phase = .idle ∧ t.subst.eng = 31 ∧ s.subst.eng ∈ t.subst.failed ∧ (t.engine 16).tt = [] ∧
      ¬ t.present 20 s.subst.eng ∧ t.present 21 s.subst.eng ∧ t = { s with eng := t.eng, subst := t.subst, flt := t.flt }) ∧
    (s.hostOpen a → s.subst.phase = .serving → s.subst.eng < 16 → s.rd (Reg.ENG_ECC_UNC_I s.subst.eng) = 0 →
      s.rd (Reg.ENG_ECC_UNC_D s.subst.eng) = 0 → maskBit s.clk.unpowered (3 + s.subst.eng) = false →
      s.engUnderTest s.subst.eng = false → ∃ t, exec .substReturn s = .next t ∧
        t.subst = { s.subst with phase := .returning, healthy := !(s.engine 16).stopped, since := s.now } ∧
        (t.engine s.subst.eng).imem = tabOf 0xFFFFFFFF sec.imem ∧
        (t.engine s.subst.eng).dmem = (if (s.engine 16).stopped then tabOf 0 sec.dmem else (s.engine 16).dmem) ∧
        (t.engine 16).stopped = true ∧ (t.engine 16).run = false ∧ (t.engine 16).dmem = (s.engine 16).dmem ∧
        t.rd (Reg.ENG_SUBST_RETURN 16) = 1 ∧ s.regsBut [Reg.ENG_SUBST_RETURN 16] t ∧
        t = { s with regs := t.regs, eng := t.eng, subst := t.subst }) ∧
    (s.hostOpen a → (s.substBusy = true ∨ s.serving = 31 ∨ s.rd (Reg.ENG_ECC_UNC_I s.subst.eng) ≠ 0 ∨
      s.rd (Reg.ENG_ECC_UNC_D s.subst.eng) ≠ 0 ∨ maskBit s.clk.unpowered (3 + s.subst.eng) = true ∨
      s.engUnderTest s.subst.eng = true) → exec .substReturn s = .next s)

/-! ### Clocks and temperatures (R19 to R35) -/

/-- R25, R27, R28, R30: the start of the clocks, from START to the lock of both PLLs, or to the end that a time-out makes,
50 µs or 5.0 ms after START.
R34, R35, R382: a conversion of the temperature inputs. TEMP_HIGH of a sensor is present above the limit, and ends 2
°C below it; the thermistor ratio is valid within its range; there is none in DOZE and OFF. -/
def Obligations.clock_start_and_temperatures : Prop :=
  (∀ s : State,
     let f := s.rd Reg.DEV_CLK_CFG_XO_FREQ
     let valid := 10000000 ≤ f ∧ f ≤ 160000000 ∧ s.clk.tb = .off ∧ s.clk.sys = .off
     let starts := s.rd Reg.DEV_CLK_CMD_START ≠ 0
     let off := fun (t : State) => t.rd Reg.DEV_CLK_STATUS_TBPLL_LOCK = 0 ∧ t.rd Reg.DEV_CLK_STATUS_SYSPLL_LOCK = 0 ∧
       t.rd Reg.DEV_CLK_CMD_START = 0 ∧ t.clk = { s.clk with tb := .off, sys := .off, time := .stopped, xoWait := false }
     (s.hostOpen 0x44 → valid → ∃ t, exec .devClkStart s = .next t ∧
       t.rd Reg.DEV_CLK_CMD_START = 1 ∧ t.rd Reg.DEV_CLK_STATUS_START_FAIL = 0 ∧
       t.rd Reg.DEV_CLK_STATUS_TBPLL_NINT = 2000000000 / f ∧
       s.regsBut [Reg.DEV_CLK_CMD_START, Reg.DEV_CLK_STATUS_START_FAIL, Reg.DEV_CLK_STATUS_TBPLL_NINT] t ∧
       t.clk = { s.clk with
         tb := .acquiring
         xoArmed := true
         xoWait := decide (s.rd Reg.DEV_CLK_STATUS_XO_ACTIVE = 0)
         xoFreq := f
         nfrac := ratioFrac f } ∧ t.age .start = 0 ∧ t = { s with regs := t.regs, clk := t.clk, timers := t.timers }) ∧
     (s.hostOpen 0x44 → ¬valid → exec .devClkStart s = .next s) ∧
     (starts → s.clk.xoWait = true → s.ran .start 50000 = true → ∃ t, exec .xoStartTimeout s = .next t ∧ off t ∧ t.present 0 0xFF ∧
       s.regsBut [Reg.DEV_CLK_STATUS_TBPLL_LOCK, Reg.DEV_CLK_STATUS_SYSPLL_LOCK, Reg.DEV_CLK_CMD_START] t ∧
       t = { s with regs := t.regs, clk := t.clk, flt := t.flt }) ∧
     (¬starts ∨ s.clk.xoWait = false ∨ s.ran .start 50000 = false → exec .xoStartTimeout s = .next s) ∧
     (starts → s.clk.tb = .acquiring → ∃ t, exec .tbpllLock s = .next t ∧
       t.rd Reg.DEV_CLK_STATUS_TBPLL_LOCK = 1 ∧ t.rd Reg.DEV_CLK_STATUS_XO_ACTIVE = 1 ∧
       t.clk = { s.clk with tb := .locked, sys := .acquiring, time := .tb, xoWait := false } ∧ ¬ t.present 0 0xFF ∧ t.eng = s.eng ∧
       t.store = s.store) ∧
     (starts → s.clk.sys = .acquiring → ∃ t, exec .syspllLock s = .next t ∧
       t.rd Reg.DEV_CLK_STATUS_SYSPLL_LOCK = 1 ∧ t.rd Reg.DEV_CLK_CMD_START = 0 ∧
       s.regsBut [Reg.DEV_CLK_STATUS_SYSPLL_LOCK, Reg.DEV_CLK_CMD_START] t ∧
       t = { s with regs := t.regs, clk := { s.clk with sys := .locked } }) ∧
     (s.ran .start 5000000 = false → exec .startFailTimeout s = .next s) ∧
     (starts → s.ran .start 5000000 = true → ∃ t, exec .startFailTimeout s = .next t ∧ off t ∧ t.rd Reg.DEV_CLK_STATUS_START_FAIL = 1 ∧
       (s.clk.xoWait = true → t.rd Reg.DEV_CLK_STATUS_XO_ACTIVE = 1 ∧ ¬ t.present 0 0xFF) ∧
       (s.clk.xoWait = false → t.rd Reg.DEV_CLK_STATUS_XO_ACTIVE = s.rd Reg.DEV_CLK_STATUS_XO_ACTIVE ∧ t.flt = s.flt) ∧
       s.regsBut [Reg.DEV_CLK_STATUS_TBPLL_LOCK, Reg.DEV_CLK_STATUS_SYSPLL_LOCK, Reg.DEV_CLK_CMD_START,
         Reg.DEV_CLK_STATUS_START_FAIL, Reg.DEV_CLK_STATUS_XO_ACTIVE] t ∧
       t = { s with regs := t.regs, clk := t.clk, flt := t.flt })) ∧
  (∀ (r : TempReadings) (s : State),
   (2 ≤ s.rd Reg.PWR_STATUS_STATE → exec (.tempConversion r) s = .next s) ∧
   (s.rd Reg.PWR_STATUS_STATE < 2 → ∃ t, exec (.tempConversion r) s = .next t ∧
     (let v := [r.t0, r.t1, r.t2, r.t3, r.t4, r.t5]
     let lim := s.rdi Reg.FLT_TEMP_LIMIT
     let ok : Prop := 1311 ≤ r.xth.toNat ∧ r.xth.toNat ≤ 64225
     (∀ i < 6, t.rd (Reg.DEV_TEMP_VALID i) = 1 ∧ t.rd (Reg.DEV_TEMP_VALUE i) = (v.getD i 0).toNat) ∧
     (∀ i < 6, t.present 4 i ↔ (lim < (v.getD i 0).toInt ∨ (maskBit s.clk.hot i = true ∧ lim - 256 < (v.getD i 0).toInt))) ∧
     t.rd Reg.DEV_XTH_RATIO = r.xth.toNat ∧ (t.rd Reg.DEV_XTH_VALID = 1 ↔ ok) ∧ (t.present 5 0xFF ↔ ¬ok) ∧
     s.regsBut ([Reg.DEV_XTH_RATIO, Reg.DEV_XTH_VALID] ++ (List.range 6).map Reg.DEV_TEMP_VALID ++
       (List.range 6).map Reg.DEV_TEMP_VALUE) t ∧
     t = { s with regs := t.regs, clk := t.clk, flt := t.flt })))

/-- R29, R211: the losses of the system PLL, of the TBPLL and of XO_IN, and what ends them; SERVO_HOLD lasts 1 ms after the
relock of the system PLL. -/
def Obligations.clock_loss : Prop :=
  ∀ s : State,
    (s.clk.sys = .locked → ∃ t, exec .syspllLoss s = .next t ∧
      t.rd Reg.DEV_CLK_STATUS_SYSPLL_LOCK = 0 ∧ t.rd Reg.DEV_CLK_STATUS_SERVO_HOLD = 1 ∧ t.clk = { s.clk with sys := .lost } ∧
      t.present 2 0xFF ∧ (∀ e < 17, t.engine e = { s.engine e with ring := true }) ∧
      s.regsBut [Reg.DEV_CLK_STATUS_SYSPLL_LOCK, Reg.DEV_CLK_STATUS_SERVO_HOLD] t ∧
      t = { s with regs := t.regs, clk := t.clk, flt := t.flt, eng := t.eng }) ∧
    (s.clk.sys = .lost → ∃ t, exec .syspllRelock s = .next t ∧
      t.rd Reg.DEV_CLK_STATUS_SYSPLL_LOCK = 1 ∧ s.regsBut [Reg.DEV_CLK_STATUS_SYSPLL_LOCK] t ∧ t.age .servo = 0 ∧
      t = { s with regs := t.regs, clk := { s.clk with sys := .locked }, timers := t.timers }) ∧
    (s.ran .servo 1000000 = false → exec .servoHoldEnd s = .next s) ∧
    (s.clk.sys = .locked → s.ran .servo 1000000 = true → ∃ t, exec .servoHoldEnd s = .next t ∧
      t.rd Reg.DEV_CLK_STATUS_SERVO_HOLD = 0 ∧ ¬ t.present 2 0xFF ∧ s.regsBut [Reg.DEV_CLK_STATUS_SERVO_HOLD] t ∧
      t = { s with regs := t.regs, flt := t.flt }) ∧
    (s.clk.tb = .locked → ∃ t, exec .tbpllLoss s = .next t ∧
      t.rd Reg.DEV_CLK_STATUS_TBPLL_LOCK = 0 ∧ t.rd Reg.DEV_CLK_STATUS_TB_ON_XO = 1 ∧ t.rd Reg.DEV_BELL_STATUS_ON_XO = 1 ∧
      (∀ n < 4, t.rd (Reg.TS_STATUS_ON_XO n) = 1) ∧ t.present 1 0xFF ∧
      t.clk = { s.clk with tb := .lost, time := if s.rd Reg.DEV_CLK_STATUS_XO_ACTIVE ≠ 0 then .xo else .waiting } ∧
      t = { s with
        regs := t.regs
        clk := t.clk
        flt := t.flt
        bell := t.bell
        aplls := t.aplls
        paths := t.paths
        grps := t.grps
        tbRem := 0 }) ∧
    (s.clk.tb = .lost → s.rd Reg.DEV_CLK_STATUS_XO_ACTIVE ≠ 0 → ∃ t, exec .tbpllRelock s = .next t ∧
      t.rd Reg.DEV_CLK_STATUS_TBPLL_LOCK = 1 ∧ t.rd Reg.DEV_BELL_STATUS_ON_XO = 0 ∧
      (∀ n < 4, t.rd (Reg.TS_STATUS_ON_XO n) = 0) ∧ ¬ t.present 1 0xFF ∧ t.clk = { s.clk with tb := .locked, time := .tb } ∧
      t = { s with
        regs := t.regs
        clk := t.clk
        flt := t.flt
        bell := t.bell
        aplls := t.aplls
        paths := t.paths
        free := t.free }) ∧
    (s.clk.tb = .locked → ∃ t, exec .tdcDllRelockAfterTb s = .next t ∧
      t.rd Reg.DEV_CLK_STATUS_TB_ON_XO = 0 ∧ s.onlyRegs [Reg.DEV_CLK_STATUS_TB_ON_XO] t) ∧
    (∃ t, exec .xoLoss s = .next t ∧
      t.rd Reg.DEV_CLK_STATUS_XO_ACTIVE = 0 ∧ (s.clk.xoArmed = true → t.present 0 0xFF) ∧
      (s.clk.xoArmed = false → t.flt = s.flt) ∧ s.regsBut [Reg.DEV_CLK_STATUS_XO_ACTIVE] t ∧
      t.clk = { s.clk with time := if s.clk.time = .xo then .waiting else s.clk.time } ∧
      t = { s with regs := t.regs, clk := t.clk, flt := t.flt }) ∧
    (∃ t, exec .xoReturn s = .next t ∧
      t.rd Reg.DEV_CLK_STATUS_XO_ACTIVE = 1 ∧ ¬ t.present 0 0xFF ∧ s.regsBut [Reg.DEV_CLK_STATUS_XO_ACTIVE] t ∧
      t.clk = { s.clk with xoWait := false, time := if s.clk.time = .waiting then .xo else s.clk.time } ∧
      t = { s with regs := t.regs, clk := t.clk, flt := t.flt }) ∧
    (∀ i : Fin 32, (i.val = 2 ∨ (26 ≤ i.val ∧ i.val ≤ 30)) → ∃ t, exec (.islandClockStop i) s = .next t ∧
      t.clocked i = false ∧ (∀ k, k ≠ i.val → t.clocked k = s.clocked k) ∧ t = { s with clk := t.clk })


/-! ### The bell and captured edges -/

/-- R37, R38, R50, R83: a bell counts, latches its own number among the in-words and the host-in words committed before
it; the words that no lesson wrote keep their values, and of those committed to one word the latest prevails (R54). Where
TIME is not clocked there is no bell. R29, R192, R194, R224: with no command waiting, TIME runs for one tick: TB time, the
bell's count, the ramp of every path that has nothing to slew and every timescale advance; registers stand, and an APLL
that lags its ramp comes no further from it. Where TIME is not clocked only the time of the block's other clocks passes.
(That an idle step is one tick is the model's choice, assumption 2.) -/
def Obligations.bell_and_tick : Prop :=
  (∀ s : State,
     (s.timeClocked = true → ∃ t, exec .bell s = .next t ∧
       t.bell.number = s.bell.number + 1 ∧ tabGet 0 0x78 t.inw = BitVec.ofNat 64 (s.bell.number + 1) ∧
       (∀ e < 17, (t.hostWords e).latched = (s.hostWords e).hin) ∧
       (∀ i, (∀ c ∈ s.bell.commits, c.2.1 ≠ i) → s.image.standard = false → tabGet 0 i t.out = tabGet 0 i s.out) ∧
       (∀ l e i w, s.bell.commits = l ++ [(e, i, w)] → 0x210 ≤ i → i < 0x228 → s.image.standard = false → tabGet 0 i t.out = w) ∧
       (s.image.standard = false → t.bell.commits = [])) ∧
     (s.timeClocked = false → exec .bell s = .next s)) ∧
  (∀ s : State, s.pending = [] →
     (s.clk.time = .tb → ∃ t, step s = .next t ∧ t.now = s.now + 1 ∧ t.up = s.up + 1 ∧ t.tb = s.tb + 2048 ∧ t.bell.since = s.bell.since + 1 ∧
       (∀ p < 8, (s.path p).remain = 0 → (t.path p).ramp = (s.path p).ramp + (2 ^ 65 + s.dco p * 512)) ∧
       (∀ n < 4, (t.tscale n).val = tsAdd (s.tscale n).val
         (if s.rd (Reg.TS_CFG_FREE n) = 0 then 2 ^ 65 + s.dco (s.rd (Reg.TS_CFG_PATH n)) * 512 else 2 ^ 65)) ∧
       ((∀ p < 8, (s.path p).remain = 0) → ∀ k < 9, (t.apll k).lag.natAbs ≤ (s.apll k).lag.natAbs ∧
         t.apll k = { s.apll k with lag := (t.apll k).lag }) ∧
       t = { s with
         now := t.now
         up := t.up
         tb := t.tb
         bell := t.bell
         paths := t.paths
         ts := t.ts
         aplls := t.aplls }) ∧
     (s.timeClocked = false → step s = .next { s with up := s.up + 1 }))

/-- R111, R250, R254 to R257, R276: an edge at a role. One that no channel captures does nothing, and the prescaler of a
slot counts one that it does not pass; one within 4.0 ns of the edge before at its channel, or before a spare serves the
role, is counted as a pile-up alone; any other is counted, and an event input's stamp becomes its latest stamp word.
R258 to R260: the DLLs lock after START and every table is measured; a loss of lock is noted at once; a measurement is
taken up where the channel's role allows it, and ends with a table or with CAL_FAIL. -/
def Obligations.edges_and_tables : Prop :=
  (∀ (role : Fin 48) (x : EdgeIn) (s : State),
     let c := role.val
     let ch := s.channelOf c
     let raw := s.rawTime ch x
     let n := slotOfRole c
     let onTime := x.fall = s.bit (Reg.SLOT_CFG_POL n)
     let taken := s.timeClocked = true ∧ s.roleOn c = true ∧ s.takesEdge c x.fall = true
     let passes := taken ∧ (22 ≤ c ∨ ¬onTime ∨ (s.slot n).pre = 0)
     let close := ∃ l, (s.chan ch).lastT = some l ∧ raw - l < 262144
     (¬taken → exec (.tdcEdgeCapture role x) s = .next s) ∧
     (taken → c < 22 → onTime → (s.slot n).pre ≠ 0 → ∃ t, exec (.tdcEdgeCapture role x) s = .next t ∧
       t.slot n = { s.slot n with pre := ((s.slot n).pre + 1) % max 1 (s.rd (Reg.SLOT_PRESCALE_DIV n)) } ∧
       (∀ m, m ≠ n → t.slot m = s.slot m) ∧ t = { s with slots := t.slots }) ∧
     (passes → 22 ≤ c → (s.chan ch).since ≤ s.up → s.chanOk ch = false → exec (.tdcEdgeCapture role x) s = .next s) ∧
     (passes → s.up < (s.chan ch).since ∨ (s.chanOk ch = true ∧ close) → ∃ t, exec (.tdcEdgeCapture role x) s = .next t ∧
       t.rd (Reg.TDC_PILEUP_COUNT c) = (s.rd (Reg.TDC_PILEUP_COUNT c) + 1) % 2 ^ (Reg.TDC_PILEUP_COUNT c).width ∧
       (t.role c).pileup = true ∧ (c < 22 → (t.slot n).pileup = true) ∧ (∀ k, k ≠ c → t.role k = s.role k) ∧
       s.regsBut [Reg.TDC_PILEUP_COUNT c] t ∧ t = { s with regs := t.regs, roles := t.roles, slots := t.slots }) ∧
     (passes → (s.chan ch).since ≤ s.up → s.chanOk ch = true → ¬close → ∃ t, exec (.tdcEdgeCapture role x) s = .next t ∧
       t.rd (Reg.TDC_EDGES_COUNT c) = (s.rd (Reg.TDC_EDGES_COUNT c) + 1) % 2 ^ (Reg.TDC_EDGES_COUNT c).width ∧
       (s.mirrorOf c = none → t.chan ch = { s.chan ch with lastT := some raw }) ∧ (t.role c).pileup = false ∧
       t.eng = s.eng ∧ t.out = s.out ∧ t.aplls = s.aplls ∧
       (38 ≤ c → s.rd (Reg.TDC_CFG_GATED c) = 0 → (t.role c).last = stampWord (s.stampOf ch c x) ∧
         (t.role c).fresh = true ∧ t.slots = s.slots ∧ t.paths = s.paths ∧ t.twin = s.twin))) ∧
  (∀ (ch : Fin 52) (hits : List Nat) (s : State),
     let busy := Reg.TDC_CAL_STATUS_CAL_BUSY ch
     (s.clk.tb = .locked → ∃ t, exec .dllFirstLock s = .next t ∧
       (∀ c < 52, t.rd (Reg.TDC_CAL_STATUS_DLL_LOCK c) = 1 ∧ t.rd (Reg.TDC_CAL_STATUS_CAL_BUSY c) = 1 ∧
         t.rd (Reg.TDC_CAL_STATUS_TABLE_VALID c) = 0) ∧ t = { s with regs := t.regs }) ∧
     (s.rd (Reg.TDC_CAL_STATUS_DLL_LOCK ch) ≠ 0 → ∃ t, exec (.dllUnlock ch) s = .next t ∧
       t.rd (Reg.TDC_CAL_STATUS_DLL_LOCK ch) = 0 ∧ (t.chan ch).lost = true ∧ t.eng = s.eng ∧ t.slots = s.slots) ∧
     ((s.chan ch).lost = true → ∃ t, exec (.dllRelock ch) s = .next t ∧
       t.rd (Reg.TDC_CAL_STATUS_DLL_LOCK ch) = 1 ∧ (t.chan ch).lost = false ∧ (t.chan ch).table = (s.chan ch).table ∧
       (∀ k, k ≠ ch.val → t.chan k = s.chan k) ∧ s.regsBut [Reg.TDC_CAL_STATUS_DLL_LOCK ch] t ∧
       t = { s with regs := t.regs, chans := t.chans, flt := t.flt }) ∧
     (s.hostOpen (Reg.TDC_CMD_CAL ch).addr → s.rd busy = 0 → ∃ t, exec (.tdcCal ch) s = .next t ∧
       (s.calAllowed ch = true → t.rd (Reg.TDC_CMD_CAL ch) = 1 ∧ t.rd busy = 1 ∧ t.rd (Reg.TDC_CAL_STATUS_TABLE_VALID ch) = 0 ∧
         t.rd (Reg.TDC_CAL_STATUS_CAL_REJ ch) = 0) ∧
       (s.calAllowed ch = false → t.rd (Reg.TDC_CMD_CAL ch) = 0 ∧ t.rd (Reg.TDC_CAL_STATUS_CAL_REJ ch) = 1 ∧ t.rd busy = 0) ∧
       s.onlyRegs [Reg.TDC_CMD_CAL ch, busy, Reg.TDC_CAL_STATUS_TABLE_VALID ch, Reg.TDC_CAL_STATUS_CAL_REJ ch] t) ∧
     (s.hostOpen (Reg.TDC_CMD_CAL ch).addr → s.rd busy ≠ 0 → ∃ t, exec (.tdcCal ch) s = .next t ∧
       t.rd (Reg.TDC_CMD_CAL ch) = 1 ∧ t.rd (Reg.TDC_CAL_STATUS_CAL_REJ ch) = 0 ∧
       s.onlyRegs [Reg.TDC_CMD_CAL ch, Reg.TDC_CAL_STATUS_CAL_REJ ch] t) ∧
     (s.hostOpen Reg.TDCG_CAL_CMD_ALL.addr → ∃ t, exec .calAll s = .next t ∧
       (∀ c < 52, s.calAllowed c = true → t.rd (Reg.TDC_CAL_STATUS_CAL_BUSY c) ≠ 0) ∧
       (∀ c < 52, s.calAllowed c = false → t.rd (Reg.TDC_CAL_STATUS_CAL_BUSY c) = s.rd (Reg.TDC_CAL_STATUS_CAL_BUSY c)) ∧
       t = { s with regs := t.regs }) ∧
     (s.rd busy ≠ 0 → s.bist ≠ some (2, ch.val) → s.mapTdc = [] → (∀ x ∈ hits, 512 * x ≤ 4 * s.calHits) →
       ∃ t, exec (.calComplete ch hits) s = .next t ∧
         t.rd busy = 0 ∧ t.rd (Reg.TDC_CAL_STATUS_TABLE_VALID ch) = 1 ∧ t.rd (Reg.TDC_CAL_STATUS_CAL_FAIL ch) = 0 ∧
         t.rd (Reg.TDC_CMD_CAL ch) = 0 ∧ (t.chan ch).table = tapCentres s.calHits 0 (hits.take 512) 0 ∧
         (t.chan ch).added = 0 ∧ (∀ k, k ≠ ch.val → t.chan k = s.chan k) ∧
         t = { s with regs := t.regs, chans := t.chans, flt := t.flt }) ∧
     (s.rd busy ≠ 0 → s.bist ≠ some (2, ch.val) → (∃ x ∈ hits, 4 * s.calHits < 512 * x) →
       ∃ t, exec (.calComplete ch hits) s = .next t ∧
         t.rd busy = 0 ∧ t.rd (Reg.TDC_CAL_STATUS_TABLE_VALID ch) = 0 ∧ t.rd (Reg.TDC_CAL_STATUS_CAL_FAIL ch) = 1 ∧
         (t.chan ch).table = [] ∧ t.eng = s.eng ∧ t.slots = s.slots))


/-! ### Reference slots (R108 to R138) -/

/-- R110, R113, R132, R136: the host commands of a slot. A write of CFG, NOM_FREQ or PRESCALE takes its fields and makes
the slot forget its last edge and its prescaler's count; REBASE asks for a rebase; a write of QUAL takes all its fields. R118 to
R122, R364: the end of ACTIVE once the timeout has passed, and a frequency gate that completes 10 µs after its end, which counts in GATE_SEQ and, with a reading, shows both offsets,
saturated, and judges them against the limit. -/
def Obligations.slots : Prop :=
  (∀ (n : Fin 24) (data : BitVec 32) (s : State),
     let v := data.toNat
     let forgets := fun (t : State) => (t.slot n).active = false ∧ (t.slot n).lastT = none ∧ (t.slot n).hist = [] ∧
       (t.slot n).phi = 0 ∧ (t.slot n).pre = 0 ∧ (t.slot n).idle = s.up ∧ (∀ k, k ≠ n.val → t.slot k = s.slot k)
     let cfg := [Reg.SLOT_CFG_PATH n, Reg.SLOT_CFG_PPS n, Reg.SLOT_CFG_POL n]
     let pad := [Reg.SLOT_CFG_TERM n, Reg.SLOT_CFG_HYST n, Reg.SLOT_CFG_INPUT n]
     (s.hostOpen (0x10000 + 0x100 * n) → ∃ t, exec (.slotCfgWrite n 0 data) s = .next t ∧
       forgets t ∧ t.rd (Reg.SLOT_CFG_PATH n) = v / 2 ^ 29 ∧ t.rd (Reg.SLOT_CFG_PPS n) = v / 2 ^ 28 % 2 ∧
       t.rd (Reg.SLOT_CFG_POL n) = v / 2 ^ 27 % 2 ∧
       (n.val < 16 → t.rd (Reg.SLOT_CFG_TERM n) = v / 2 ^ 25 % 4 ∧ t.rd (Reg.SLOT_CFG_HYST n) = v / 2 ^ 24 % 2 ∧
         t.rd (Reg.SLOT_CFG_INPUT n) = v / 2 ^ 22 % 4) ∧
       (n.val < 4 → t.rd (Reg.SLOT_CFG_IRIG n) = v / 2 ^ 21 % 2) ∧
       s.regsBut (cfg ++ (if n.val < 16 then pad else []) ++ (if n.val < 4 then [Reg.SLOT_CFG_IRIG n] else [])) t ∧
       t = { s with regs := t.regs, slots := t.slots, flt := t.flt }) ∧
     (s.hostOpen (0x10004 + 0x100 * n) → ∃ t, exec (.slotCfgWrite n 1 data) s = .next t ∧
       forgets t ∧ (n.val ≠ 20 → n.val ≠ 21 → t.rd (Reg.SLOT_NOM_FREQ_HZ n) = v % 2 ^ (Reg.SLOT_NOM_FREQ_HZ n).width) ∧
       s.regsBut (if n.val = 20 ∨ n.val = 21 then [] else [Reg.SLOT_NOM_FREQ_HZ n]) t ∧
       t = { s with regs := t.regs, slots := t.slots, flt := t.flt }) ∧
     (s.hostOpen (0x10008 + 0x100 * n) → ∃ t, exec (.slotCfgWrite n 2 data) s = .next t ∧
       forgets t ∧ t.rd (Reg.SLOT_PRESCALE_DIV n) = v % 2 ^ (Reg.SLOT_PRESCALE_DIV n).width ∧
       s.regsBut [Reg.SLOT_PRESCALE_DIV n] t ∧ t = { s with regs := t.regs, slots := t.slots, flt := t.flt }) ∧
     (s.hostOpen (Reg.SLOT_CMD_REBASE n).addr → ∃ t, exec (.slotRebase n) s = .next t ∧
       t.rd (Reg.SLOT_CMD_REBASE n) = 1 ∧ s.regsBut [Reg.SLOT_CMD_REBASE n] t ∧ t = { s with regs := t.regs, flt := t.flt }) ∧
     (s.hostOpen (Reg.SLOT_QUAL_EXCLUDE n).addr → ∃ t, exec (.slotQualWrite n data) s = .next t ∧
       t.rd (Reg.SLOT_QUAL_EXCLUDE n) = v / 2 ^ 31 ∧ t.rd (Reg.SLOT_QUAL_CEIL n) = v / 2 ^ 28 % 8 ∧
       t.rd (Reg.SLOT_QUAL_JACT n) = v / 2 ^ 27 % 2 ∧ t.rd (Reg.SLOT_QUAL_BW n) = v / 2 ^ 23 % 16 ∧
       t.rd (Reg.SLOT_QUAL_WTR n) = v / 2 ^ 13 % 1024 ∧ t.rd (Reg.SLOT_QUAL_OBS_TIME n) = v % 256 ∧
       (v / 2 ^ 31 = 1 → t.shownState n = 5) ∧
       s.regsBut [Reg.SLOT_QUAL_EXCLUDE n, Reg.SLOT_QUAL_CEIL n, Reg.SLOT_QUAL_JACT n, Reg.SLOT_QUAL_BW n, Reg.SLOT_QUAL_WTR n,
         Reg.SLOT_QUAL_OBS_TIME n] t ∧ t = { s with regs := t.regs, flt := t.flt })) ∧
  (∀ (n : Fin 24) (s : State),
     let top : Int := 2 ^ 31 - 1
     let seq := Reg.SLOT_CNT1_GATE_SEQ n
     let idle := s.rd (Reg.SLOT_ACT_TIMEOUT n)
     let timeout := if idle ≠ 0 then 16 * idle else if n.val = 20 ∨ n.val = 21 then 1000000000
       else 16 * max 2 ((5 * s.slotPeriod n + 64 * s.slotNom n - 1) / (64 * s.slotNom n))
     let ended := s.gateEnd n + 10240000 ≤ s.tb
     (s.up < (s.slot n).idle + timeout → exec (.activityTimeout n) s = .next s) ∧
     ((s.slot n).idle + timeout ≤ s.up → ∃ t, exec (.activityTimeout n) s = .next t ∧
       t.slot n = { s.slot n with active := false } ∧ (∀ k, k ≠ n.val → t.slot k = s.slot k) ∧
       (n.val = 23 → t.rd Reg.TWIN_STATUS_CAL_VALID = 0) ∧
       s.regsBut (if n.val = 23 then [Reg.TWIN_STATUS_CAL_VALID] else []) t ∧ t = { s with regs := t.regs, slots := t.slots }) ∧
     (s.tb < s.gateEnd n + 10240000 → exec (.gateComplete n) s = .next s) ∧
     (ended → s.gateReading n (s.slot n).gate = none → ∃ t, exec (.gateComplete n) s = .next t ∧
       (t.slot n).fvalid = false ∧ (t.slot n).freqBad = (s.slot n).freqBad ∧ t.rd seq = (s.rd seq + 1) % 2 ^ seq.width ∧
       s.regsBut [seq] t ∧ (∀ k, k ≠ n.val → t.slot k = s.slot k) ∧ t = { s with regs := t.regs, slots := t.slots }) ∧
     (∀ xo path, ended → s.gateReading n (s.slot n).gate = some (xo, path) → ∃ t, exec (.gateComplete n) s = .next t ∧
       (let v := max (-top) (min top xo)
       let lim : Int := s.rd (Reg.SLOT_FMON_FLIM n) * 64
       t.rdi (Reg.SLOT_FOFF_XO_VALUE n) = v ∧ t.rdi (Reg.SLOT_FOFF_PATH_VALUE n) = max (-top) (min top path) ∧
       (t.rd (Reg.SLOT_MON_SAT n) = 1 ↔ top < xo ∨ xo < -top ∨ top < path ∨ path < -top) ∧
       (t.slot n).fvalid = true ∧ (t.freqWarn n = true ↔ lim < 4 * |v|) ∧
       ((t.slot n).freqBad = true ↔ top < xo ∨ xo < -top ∨ lim < |v| ∨ ((s.slot n).freqBad = true ∧ 7 * lim < 8 * |v|)) ∧
       t.rd seq = (s.rd seq + 1) % 2 ^ seq.width ∧ (∀ k, k ≠ n.val → t.slot k = s.slot k) ∧
       s.regsBut [seq, Reg.SLOT_FOFF_XO_VALUE n, Reg.SLOT_FOFF_PATH_VALUE n, Reg.SLOT_MON_SAT n] t ∧
       t = { s with regs := t.regs, slots := t.slots })))

/-- R115, R116, R138: IRIG-B. A frame received that does not decode, or does not follow, counts as an error, and a second in
a row loses lock; a good one is staged for the registers, which show it together 10 ms later; 2.0 s without one loses lock; a read of TOD
takes the fields of EXT and CF with it. (The operand `f` says of a format what the elements do not: assumption 26.) -/
def Obligations.irig : Prop :=
  ∀ (n : Fin 4) (f : Fin 8) (l : List Nat) (v : IrigFields) (s : State),
    let x := s.slot n
    let g := x.irig
    let err := Reg.SLOT_IRIG_STATUS_FRAME_ERR n
    let others := fun (t : State) => ∀ k, k ≠ n.val → t.slot k = s.slot k
    (g.frame = none → exec (.irigFrame n f) s = .next s) ∧
    (g.frame = some l → irigDecode l f = none → ∃ t, exec (.irigFrame n f) s = .next t ∧
      t.rd err = (s.rd err + 1) % 2 ^ err.width ∧ (t.slot n).irigBad = true ∧ (t.slot n).irig.bad = g.bad + 1 ∧
      (t.slot n).irig.lock = (g.lock && decide (g.bad = 0)) ∧ (t.slot n).irig.good = false ∧ (t.slot n).irig.frame = none ∧ others t ∧ s.regsBut [err] t ∧
      t = { s with regs := t.regs, slots := t.slots }) ∧
    (g.frame = some l → irigDecode l f = some v → (∃ w, g.last = some w ∧ irigNext w v.time = true) →
      ∃ t, exec (.irigFrame n f) s = .next t ∧
        (t.slot n).irigBad = false ∧ (t.slot n).irig.staged = some v ∧ (t.slot n).irig.last = some v.time ∧
        (t.slot n).irig.bad = 0 ∧ (t.slot n).irig.good = true ∧ (t.slot n).irig.frame = none ∧
        (t.slot n).irig.validAt = s.up ∧ (t.slot n).irig.lock = (g.lock || g.good) ∧ others t ∧ t = { s with slots := t.slots }) ∧
    (g.frame = some l → irigDecode l f = some v → (∃ w, g.last = some w ∧ irigNext w v.time = false) →
      ∃ t, exec (.irigFrame n f) s = .next t ∧
        t.rd err = (s.rd err + 1) % 2 ^ err.width ∧ (t.slot n).irig.lock = (g.lock && decide (g.bad = 0)) ∧
        (t.slot n).irig.staged = some v ∧ (t.slot n).irig.last = some v.time ∧ others t ∧ s.regsBut [err] t ∧
        t = { s with regs := t.regs, slots := t.slots }) ∧
    (g.frame = some l → irigDecode l f = some v → g.last = none → ∃ t, exec (.irigFrame n f) s = .next t ∧
      (t.slot n).irigBad = false ∧ (t.slot n).irig.staged = some v ∧ (t.slot n).irig.last = some v.time ∧
      (t.slot n).irig.lock = g.lock ∧ (t.slot n).irig.good = true ∧ others t ∧ t = { s with slots := t.slots }) ∧
    (s.up - g.validAt < 5000000 → exec (.irigRegisterUpdate n) s = .next s) ∧
    (5000000 ≤ s.up - g.validAt → g.staged = some v → v.format < 8 → v.day < 512 → v.hour < 32 → v.min < 64 → v.sec < 64 →
      ∃ t, exec (.irigRegisterUpdate n) s = .next t ∧
        t.rd (Reg.SLOT_IRIG_STATUS_FORMAT n) = v.format ∧ t.rd (Reg.SLOT_IRIG_TOD_DAY n) = v.day ∧
        t.rd (Reg.SLOT_IRIG_TOD_HOUR n) = v.hour ∧ t.rd (Reg.SLOT_IRIG_TOD_MIN n) = v.min ∧
        t.rd (Reg.SLOT_IRIG_TOD_SEC n) = v.sec ∧
        (t.rd (Reg.SLOT_IRIG_STATUS_YEAR_VALID n) = 1 ↔ 4 ≤ v.format) ∧
        (t.rd (Reg.SLOT_IRIG_STATUS_CF_VALID n) = 1 ↔ v.format % 4 < 2) ∧
        (t.rd (Reg.SLOT_IRIG_STATUS_SBS_VALID n) = 1 ↔ (v.format % 4 = 0 ∨ v.format % 4 = 3)) ∧
        (t.slot n).irig.staged = none ∧ (t.slot n).irig.cf = (if v.format % 4 < 2 then v.cf else 0) ∧ others t ∧
        s.regsBut [Reg.SLOT_IRIG_STATUS_FORMAT n, Reg.SLOT_IRIG_STATUS_SBS_VALID n, Reg.SLOT_IRIG_STATUS_CF_VALID n,
          Reg.SLOT_IRIG_STATUS_YEAR_VALID n, Reg.SLOT_IRIG_TOD_DAY n, Reg.SLOT_IRIG_TOD_HOUR n, Reg.SLOT_IRIG_TOD_MIN n,
          Reg.SLOT_IRIG_TOD_SEC n] t ∧ t = { s with regs := t.regs, slots := t.slots }) ∧
    (s.up - g.validAt < 1000000000 → exec (.irigLockTimeout n) s = .next s) ∧
    (1000000000 ≤ s.up - g.validAt → ∃ t, exec (.irigLockTimeout n) s = .next t ∧
      t.slot n = { x with irig := { g with lock := false, good := false, last := none } } ∧ others t ∧
      t = { s with slots := t.slots }) ∧
    (s.hostReads (Reg.SLOT_IRIG_TOD_DAY n).addr → ∃ t, exec (.irigTodRead n) s = .next t ∧
      t.hostRead = [BitVec.ofNat 32 (s.rd (Reg.SLOT_IRIG_TOD_DAY n) * 2 ^ 17 + s.rd (Reg.SLOT_IRIG_TOD_HOUR n) * 2 ^ 12 +
        s.rd (Reg.SLOT_IRIG_TOD_MIN n) * 2 ^ 6 + s.rd (Reg.SLOT_IRIG_TOD_SEC n))] ∧
      t.rd (Reg.SLOT_IRIG_EXT_YEAR n) = g.ext / 2 ^ 17 % 2 ^ (Reg.SLOT_IRIG_EXT_YEAR n).width ∧
      t.rd (Reg.SLOT_IRIG_EXT_SBS n) = g.ext % 2 ^ (Reg.SLOT_IRIG_EXT_SBS n).width ∧
      t.rd (Reg.SLOT_IRIG_CF_CF n) = g.cf % 2 ^ (Reg.SLOT_IRIG_CF_CF n).width ∧
      s.regsBut [Reg.SLOT_IRIG_EXT_YEAR n, Reg.SLOT_IRIG_EXT_SBS n, Reg.SLOT_IRIG_CF_CF n] t ∧
      t = { s with regs := t.regs, hostRead := t.hostRead })

/-! ### TDC channels, spares and statistics (R250 to R278) -/

/-- R262: the spares. A TAKE names a role and starts the comparison, unless the spare is in use or the role cannot be taken;
the comparison's end, once both channels have seen MIRROR_N edges or 10 s have passed, gives the role to the spare with the
mean difference added, and a RELEASE gives it back. -/
def Obligations.spares : Prop :=
  ∀ (k : Fin 4) (role : Fin 64) (s : State),
    let c := s.spareRole k
    let chan := 48 + k.val
    let x := s.chan chan
    let wanted := s.rd Reg.TDCG_XBAR_CFG_MIRROR_N
    let d := if x.mirN = 0 then 0 else roundDiv (x.mirSum * 64) x.mirN
    let late := if x.mirN < 16 then 0 else d
    let diff := Reg.TDCG_MIRROR_DIFF_D k
    let put := fun (v : Int) (t : State) => t.rdi diff = satInt 32 v
    let timeUp := x.mirN < wanted ∧ x.mirAt + 5000000000 ≤ s.up
    let free := s.spareState k = 0 ∧ s.rd (Reg.TDC_CAL_STATUS_TABLE_VALID chan) ≠ 0 ∧ role.val ≤ 47 ∧
      ∀ j < 4, s.spareState j = 0 ∨ s.rd (Reg.TDCG_SPARE_ROLE j) ≠ role.val
    (s.hostOpen (Reg.TDCG_SPARE_TAKE k).addr → free → ∃ t, exec (.spareTake k role) s = .next t ∧
      t.spareState k = 1 ∧ t.spareRole k = role ∧ t.rd (Reg.TDCG_SPARE_REJ k) = 0 ∧ t.rd (Reg.TDCG_SPARE_AUTO_TAKEN k) = 0 ∧
      t.chan chan = { x with added := 0, since := 0, mirSum := 0, mirN := 0, mirAt := s.up } ∧ t = { s with regs := t.regs, chans := t.chans }) ∧
    (s.hostOpen (Reg.TDCG_SPARE_TAKE k).addr → ¬free → ∃ t, exec (.spareTake k role) s = .next t ∧
      t.rd (Reg.TDCG_SPARE_REJ k) = 1 ∧ t.rd (Reg.TDCG_SPARE_TAKE k) = 0 ∧ t.spareState k = s.spareState k ∧
      s.onlyRegs [Reg.TDCG_SPARE_REJ k, Reg.TDCG_SPARE_ROLE k, Reg.TDCG_SPARE_TAKE k] t) ∧
    (s.hostOpen (Reg.TDCG_SPARE_TAKE k).addr → s.spareState k = 2 → s.chanOk c = true →
      s.rd (Reg.TDC_CAL_STATUS_CAL_BUSY c) = 0 → ∃ t, exec (.spareRelease k) s = .next t ∧
        t.spareState k = 3 ∧ t.rd (Reg.TDCG_SPARE_REJ k) = 0 ∧
        t.chan chan = { x with mirSum := 0, mirN := 0, mirAt := s.up } ∧ (∀ j, j ≠ chan → t.chan j = s.chan j) ∧
        s.regsBut [Reg.TDCG_SPARE_STATE k, Reg.TDCG_SPARE_RELEASE k, Reg.TDCG_SPARE_REJ k, Reg.TDCG_SPARE_SHORT k] t ∧
        t = { s with regs := t.regs, chans := t.chans }) ∧
    (s.hostOpen (Reg.TDCG_SPARE_TAKE k).addr → (s.spareState k ≠ 2 ∨ s.chanOk c = false ∨
      s.rd (Reg.TDC_CAL_STATUS_CAL_BUSY c) ≠ 0) → ∃ t, exec (.spareRelease k) s = .next t ∧
      t.rd (Reg.TDCG_SPARE_REJ k) = 1 ∧ s.onlyRegs [Reg.TDCG_SPARE_REJ k] t) ∧
    (s.spareState k = 1 →
      (wanted ≤ x.mirN → ∃ t, exec (.mirrorSwitch k ()) s = .next t ∧ t.spareState k = 2 ∧ t.rd (Reg.TDCG_SPARE_TAKE k) = 0 ∧
        t.rd (Reg.TDC_CAL_STATUS_REPLACED c) = 1 ∧ (t.chan chan).added = d ∧ put d t ∧ t.rd (Reg.TDCG_SPARE_SHORT k) = 0 ∧
        t.flt.inflight = s.flt.inflight ++ [⟨33, c, 0, false⟩] ∧
        t = { s with regs := t.regs, chans := t.chans, flt := t.flt }) ∧
      (timeUp → ∃ t, exec (.mirrorTimeout k () ()) s = .next t ∧ t.spareState k = 2 ∧ (t.chan chan).added = late ∧ put late t ∧
        t.rd (Reg.TDCG_SPARE_SHORT k) = 1 ∧ t = { s with regs := t.regs, chans := t.chans, flt := t.flt })) ∧
    (s.spareState k = 3 → c < 64 →
      let back := fun (v : Int) (t : State) => t.spareState k = 0 ∧ t.spareRole k = 0 ∧
        t.rd (Reg.TDC_CAL_STATUS_REPLACED c) = 0 ∧ (t.chan c).added = (s.chan c).added + v ∧ put v t ∧
        t = { s with regs := t.regs, chans := t.chans, flt := t.flt }
      (wanted ≤ x.mirN → ∃ t, exec (.mirrorSwitch k ()) s = .next t ∧ (back d) t) ∧ (timeUp → ∃ t, exec (.mirrorTimeout k () ()) s = .next t ∧ (back late) t)) ∧
    (x.mirN < wanted → exec (.mirrorSwitch k ()) s = .next s) ∧ (¬timeUp → exec (.mirrorTimeout k () ()) s = .next s)

/-- R265, R266, R270 to R272: the commands of a statistics group. START begins a run unless CFG_ERR stands, STOP ends it, and
a write of its configuration restarts the run in progress, each behind the results of the runs that have reached LEN; a run that has LEN pairs is published with its mean, its deviation, its
extremes and its counts; a frequency gate publishes its result at its end; and a start is decided once its WINDOW has passed. -/
def Obligations.statistics : Prop :=
  ∀ (m : Fin 16) (reg : Fin 6) (k : Fin 8) (data : BitVec 32) (s : State),
    let v := data.toNat
    let run := Reg.M_STATUS_RUNNING m
    let seq := Reg.M_STATUS_SEQ m
    let begun := fun (t : State) => (t.grp m).starts = [] ∧ (t.grp m).stops = [] ∧ (t.grp m).runs = [] ∧
      (t.grp m).finished = [] ∧ (t.grp m).freq = { start := nextMs s.tb } ∧ (t.grp m).freqNext = {}
    let flushed := fun (t : State) => t.rd seq = (s.rd seq + (s.grp m).finished.length) % 2 ^ seq.width ∧
      t.flt.inflight = s.flt.inflight ++ List.replicate (s.grp m).finished.length ⟨99, m, 0, false⟩
    let gate := (s.grp m).freq
    let stop := gate.start + s.rd (Reg.M_LEN_VALUE m) * 1024000000
    let others := fun (t : State) => ∀ j, j ≠ m.val → t.grp j = s.grp j
    let fields := [[Reg.M_CFG_MODE m, Reg.M_CFG_ORDER m, Reg.M_CFG_BASE m, Reg.M_CFG_CONT m, Reg.M_CFG_MBX_SEL m,
      Reg.M_CFG_DEC m, Reg.M_CFG_START m, Reg.M_CFG_STOP_EN m],
      [Reg.M_STOPS_A_STOP3 m, Reg.M_STOPS_A_STOP2 m, Reg.M_STOPS_A_STOP1 m, Reg.M_STOPS_A_STOP0 m],
      [Reg.M_STOPS_B_STOP7 m, Reg.M_STOPS_B_STOP6 m, Reg.M_STOPS_B_STOP5 m, Reg.M_STOPS_B_STOP4 m],
      [Reg.M_WINDOW_LSB m], [Reg.M_LEN_VALUE m], [Reg.M_FNOM_HZ m]].getD reg []
    (s.hostOpen (Reg.M_CMD_START m).addr → s.grpCfgErr m = false → s.parityIn (0x28A00 + 0x30 * m) 0x30 = false →
      ∃ t, exec (.statsStart m) s = .next t ∧ t.rd run = 1 ∧ begun t ∧ flushed t ∧ others t ∧ s.regsBut [run, seq] t ∧
        t = { s with regs := t.regs, grps := t.grps, flt := t.flt }) ∧
    (s.hostOpen (Reg.M_CMD_START m).addr → s.grpCfgErr m = true → exec (.statsStart m) s = .next s) ∧
    (s.hostOpen (Reg.M_CMD_START m).addr → ∃ t, exec (.statsStop m) s = .next t ∧ t.rd run = 0 ∧ begun t ∧ flushed t ∧ others t ∧
      s.regsBut [run, seq] t ∧ t = { s with regs := t.regs, grps := t.grps, flt := t.flt }) ∧
    (s.hostOpen (statsAddr m reg) → ∃ t, exec (.statsCfgWrite m reg data) s = .next t ∧
      (∀ f ∈ fields, t.rd f = v / 2 ^ f.lo % 2 ^ f.width) ∧ s.regsBut (seq :: fields) t ∧
      (s.rd run ≠ 0 → begun t ∧ flushed t) ∧
      (s.rd run = 0 → t.grp m = s.grp m ∧ t.rd seq = s.rd seq ∧ t.flt = s.flt) ∧ others t ∧
      t = { s with regs := t.regs, grps := t.grps, flt := t.flt }) ∧
    (∀ r, (s.grp m).finished.find? (fun p => p.1 == k.val) = some (k.val, r) → 2 ≤ r.n →
      ∃ t, exec (.statsPublish m k) s = .next t ∧
        t.rd seq = (s.rd seq + 1) % 2 ^ seq.width ∧
        t.flt.inflight = s.flt.inflight ++ [⟨99, m, 0, false⟩] ∧
        tabGet 0 (4 * k.val) (t.grp m).words =
          BitVec.ofInt 64 ((2 * ((r.x0 * r.n + r.s1) * 1024) + r.n) / (2 * r.n)) ∧
        (tabGet 0 (4 * k.val + 1) (t.grp m).words).extractLsb' 0 32 = BitVec.ofNat 32 r.n ∧
        (s.rd (Reg.M_CFG_CONT m) = 0 → t.rd run = 0) ∧ others t ∧
        t = { s with regs := t.regs, grps := t.grps, flt := t.flt }) ∧
    (s.rd run = 0 ∨ s.rd (Reg.M_CFG_MODE m) ≠ 3 ∨ s.tb < stop → exec (.freqRegGateEnd m) s = .next s) ∧
    (s.rd run ≠ 0 → s.rd (Reg.M_CFG_MODE m) = 3 → stop ≤ s.tb → ∃ t, exec (.freqRegGateEnd m) s = .next t ∧
      t.rd seq = (s.rd seq + 1) % 2 ^ seq.width ∧ t.flt.inflight = s.flt.inflight ++ [⟨99, m, 0, false⟩] ∧
      ((s.grp m).freq.stepped = false → ∀ w, freqWords (s.rd (Reg.M_FNOM_HZ m)) (s.grp m).freq = some w →
        tabGet 0 0 (t.grp m).words = w.1 ∧ tabGet 0 1 (t.grp m).words = w.2.1 ∧ tabGet 0 2 (t.grp m).words = w.2.2 ∧
        t.free = s.free) ∧
      (s.rd (Reg.M_CFG_CONT m) = 0 → t.rd run = 0) ∧
      (s.rd (Reg.M_CFG_CONT m) ≠ 0 → (t.grp m).freq = { (s.grp m).freqNext with start := stop } ∧ (t.grp m).freqNext = {}) ∧
      others t ∧ t = { s with regs := t.regs, grps := t.grps, flt := t.flt, free := t.free }) ∧
    (∀ st rest, (s.grp m).starts = st :: rest → s.tb < st.tb + s.rd (Reg.M_WINDOW_LSB m) →
      exec (.pairWindowEnd m) s = .next s) ∧
    (∀ st rest, (s.grp m).starts = st :: rest → st.tb + s.rd (Reg.M_WINDOW_LSB m) ≤ s.tb → ∃ t, exec (.pairWindowEnd m) s = .next t ∧
      (t.grp m).starts = rest ∧ others t ∧ t = { s with regs := t.regs, grps := t.grps, free := t.free })

/-! ### Synthesis and outputs (R192 to R222) -/

/-- R199 to R203, R481: APPLY checks the shadows. A plan that passes is taken with its class, and the APLL ramps, or hops or
searches once no output that the change affects is on its VCO; one that fails leaves the APLL as it was, with the code of the
first failing check; during a change APPLY is ignored. FULL always searches. Where the repair map dedicates A8 to the APLL, A8
takes the plan. -/
def Obligations.apll_apply : Prop :=
  ∀ (k : Fin 9) (full : Bool) (s : State),
    let i : Instr := if full then .applyFull k else .apply k
    let p := s.shadow k
    let c := s.planClass k p full
    let err := s.planCheck k p
    let errCode := Reg.APLL_STATUS_APPLY_ERR k
    let errOut := Reg.APLL_STATUS_ERR_OUT k
    let state := Reg.APLL_STATUS_STATE k
    let lock := Reg.APLL_STATUS_LOCK k
    let mine := s.mapApll = some k.val
    let writes := s.hostOpen (Reg.APLL_CMD_APPLY k).addr
    let taken := writes ∧ s.rd (Reg.APLL_CMD_APPLY k) = 0 ∧ (mine ∨ s.rd (Reg.APLL_CFG_EN k) ≠ 0)
    let ready := taken ∧ s.parityIn (0x24000 + 0x100 * k) 0x100 = false
    let quiet := ∀ o ∈ groupOuts k, s.changeOf c (decide (p.divs.getD (o % 4) 0 ≠ s.outDiv o)) o ≠ 0 →
      2 ≤ s.srcAct o ∨ (s.outp o).frozen.isSome = true
    (full = true → c = .search) ∧
    (ready → ¬mine → err.1 = 0 → ∃ t, exec i s = .next t ∧
      t.rd errCode = 0 ∧ t.rd errOut = err.2 % 2 ^ errOut.width ∧ t.rd (Reg.APLL_STATUS_LAST_CLASS k) = c.code ∧
      (c = .none → t.aplls = s.aplls ∧ t.rd (Reg.APLL_CMD_APPLY k) = 0) ∧
      (c ≠ .none → (t.apll k).plan = p ∧ (t.apll k).applied = true ∧ t.rd (Reg.APLL_CMD_APPLY k) = 1 ∧ t.age (.relock k) = 0) ∧
      (c = .div → t.rd state = s.rd state ∧ t.rd lock = s.rd lock ∧ t.age (.settle k) = 0) ∧
      (c = .ramp → s.rd state ≠ 6 → t.rd state = 5 ∧ t.rd lock = s.rd lock) ∧
      (c = .search → quiet → t.rd state = 1 ∧ t.rd lock = 0) ∧
      (c = .hop → quiet → t.rd state = 2 ∧ t.rd lock = 0) ∧
      (c = .search ∨ c = .hop → ¬quiet → t.rd state = s.rd state ∧ t.rd lock = s.rd lock) ∧
      (∀ j, j ≠ k.val → t.apll j = s.apll j) ∧
      t = { s with regs := t.regs, aplls := t.aplls, flt := t.flt, timers := t.timers }) ∧
    (ready → mine → err.1 = 0 → ∃ t, exec i s = .next t ∧
      t.rd errCode = 0 ∧ (t.apll k).plan = p ∧ (t.apll k).applied = true ∧
      t.rd (Reg.APLL_STATUS_LAST_CLASS k) = (s.planClass 8 { p with divs := [4, 4, 4, 4] } full).code ∧
      t.rd (Reg.APLL_SPARE_STATUS_SERVING 8) = k ∧ t.present 26 k ∧
      (∀ j, j ≠ k.val → j ≠ 8 → t.apll j = s.apll j) ∧
      t = { s with regs := t.regs, aplls := t.aplls, outs := t.outs, flt := t.flt, timers := t.timers }) ∧
    (ready → err.1 ≠ 0 → ∃ t, exec i s = .next t ∧
      t.rd errCode = err.1 % 2 ^ errCode.width ∧ t.rd errOut = err.2 % 2 ^ errOut.width ∧
      s.regsBut [errCode, errOut] t ∧ t = { s with regs := t.regs, flt := t.flt }) ∧
    (taken → s.parityIn (0x24000 + 0x100 * k) 0x100 = true → ∃ t, exec i s = .next t ∧
      t.rd errCode = 7 ∧ t.rd errOut = 0 ∧ s.regsBut [errCode, errOut] t ∧ t = { s with regs := t.regs, flt := t.flt }) ∧
    (writes → (s.rd (Reg.APLL_CMD_APPLY k) ≠ 0 ∨ (¬mine ∧ s.rd (Reg.APLL_CFG_EN k) = 0)) → ∃ t, exec i s = .next t ∧
      t = { s with flt := t.flt })

/-- R196 to R198, R202, R203, R206 to R208: the course of an APLL. A ramp ends when the ratio has reached the plan's; a hop
locks in the band of its entry and a search in the band it found, which reaches the VCO frequency; a hop that fails
invalidates its entry and searches after 30 µs; a search that fails is FAULT; SETTLE µs after the lock, the ramp's end or the
change of dividers APPLY clears, and RELOCK_TIME shows how long the change took; a loss is counted and raised, and a retry,
10 ms later, hops where the cache has a hit. -/
def Obligations.apll_lock : Prop :=
  ∀ (k : Fin 9) (band : Fin 48) (s : State),
    let x := s.apll k
    let st := Reg.APLL_STATUS_STATE k
    let lock := Reg.APLL_STATUS_LOCK k
    let searches := Reg.APLL_COUNT_SEARCHES k
    let others := fun (t : State) => ∀ j, j ≠ k.val → t.apll j = s.apll j
    let ramped := s.apllState k = 5 ∧ s.ratioNow k = x.plan.f
    let reaches := s.rd st = 1 ∧ s.rd Reg.DEV_CLK_STATUS_TB_ON_XO = 0 ∧
      (9985000000 + 58500000 * band.val) * 2 ^ 40 ≤ x.plan.f ∧ x.plan.f ≤ (10075000000 + 58500000 * band.val) * 2 ^ 40
    let begun := ∀ c, x.change = some c → c.begun = true
    let settled := s.ran (.settle k) (1000 * s.rd (Reg.APLL_CFG_SETTLE (s.apllOf k))) = true
    let settles := begun ∧ (s.apllState k = 3 ∨ ∃ c, x.change = some c ∧ c.settling = true)
    (ramped → ∃ t, exec (.rampComplete k) s = .next t ∧
      t.apllState k = 4 ∧ t.apll k = { x with
        ramp := none, change := x.change.map (fun c => { c with settling := true }), aligned := false,
        stateWas := (t.apll k).stateWas } ∧
      t.age (.settle k) = 0 ∧ others t ∧ s.regsBut [st] t ∧ t = { s with regs := t.regs, aplls := t.aplls, timers := t.timers }) ∧
    (¬ramped → exec (.rampComplete k) s = .next s) ∧
    (s.rd st = 2 → ∃ t, exec (.apllLock k band) s = .next t ∧
      t.rd (Reg.APLL_STATUS_BAND k) = (x.ent x.hopEnt).band % 2 ^ (Reg.APLL_STATUS_BAND k).width ∧ t.rd lock = 1 ∧ t.rd st = 3 ∧
      ((t.apll k).ent x.hopEnt).temp = s.apllTemp k ∧ ¬ t.present 25 k ∧ t.age (.settle k) = 0 ∧ others t ∧
      s.regsBut [Reg.APLL_STATUS_BAND k, lock, st] t ∧
      t = { s with regs := t.regs, aplls := t.aplls, flt := t.flt, timers := t.timers }) ∧
    (reaches → ∃ t, exec (.apllLock k band) s = .next t ∧
      t.rd (Reg.APLL_STATUS_BAND k) = band ∧ t.rd lock = 1 ∧ t.rd st = 3 ∧ ¬ t.present 25 k ∧ t.age (.settle k) = 0 ∧
      (∀ i, x.victim = some i → ((t.apll k).ent i).valid = true ∧ ((t.apll k).ent i).band = band.val ∧
        ((t.apll k).ent i).f = x.plan.f ∧ ((t.apll k).ent i).preset = (t.apll k).preset) ∧ others t ∧
      s.regsBut [Reg.APLL_STATUS_BAND k, lock, st] t ∧
      t = { s with regs := t.regs, aplls := t.aplls, flt := t.flt, free := t.free, timers := t.timers }) ∧
    (s.rd st ≠ 2 → ¬reaches → exec (.apllLock k band) s = .next s) ∧
    (s.rd st = 2 → s.ran (.hop k) 30000 = true → ∃ t, exec (.hopTimeout k) s = .next t ∧
      t.rd st = 1 ∧ t.rd lock = 0 ∧ ((t.apll k).ent x.hopEnt).valid = false ∧
      t.rd searches = (s.rd searches + 1) % 2 ^ searches.width ∧ others t ∧ s.regsBut [st, lock, searches] t ∧
      t = { s with regs := t.regs, aplls := t.aplls }) ∧
    (s.rd st ≠ 2 ∨ s.ran (.hop k) 30000 = false → exec (.hopTimeout k) s = .next s) ∧
    (s.rd st = 1 → s.rd Reg.DEV_CLK_STATUS_TB_ON_XO = 0 → ∃ t, exec (.searchFail k) s = .next t ∧
      t.rd st = 7 ∧ t.rd (Reg.APLL_STATUS_APPLY_ERR k) = 9 ∧ t.rd (Reg.APLL_CMD_APPLY k) = 0 ∧
      t.age (.retry k) = 0 ∧ s.regsBut [st, Reg.APLL_STATUS_APPLY_ERR k, Reg.APLL_CMD_APPLY k, Reg.APLL_CMD_FULL k] t ∧
      t = { s with regs := t.regs, timers := t.timers }) ∧
    (s.rd st ≠ 1 ∨ s.rd Reg.DEV_CLK_STATUS_TB_ON_XO ≠ 0 → exec (.searchFail k) s = .next s) ∧
    (¬settled → exec (.apllSettleEnd k ()) s = .next s) ∧
    (settled → settles → ∃ t, exec (.apllSettleEnd k ()) s = .next t ∧
      t.rd (Reg.APLL_CMD_APPLY k) = 0 ∧ t.rd (Reg.APLL_RELOCK_TIME_US k) = min (s.age (.relock k) / 500) (2 ^ 24 - 1) ∧ (t.apll k).change = none ∧
      (k.val < 8 → (t.apll k).plan = x.plan ∧ t.apllState k = (if s.apllState k = 3 then 4 else s.apllState k) ∧
        (s.apllState k = 3 → (t.apll k).aligned = true ∧ (t.apll k).lag = 0)) ∧ t.eng = s.eng ∧ t.slots = s.slots) ∧
    (settled → ¬begun → s.apllState k = 3 → ∃ t, exec (.apllSettleEnd k ()) s = .next t ∧
      t.apllState k = 4 ∧ (t.apll k).change = x.change ∧ others t ∧ s.regsBut [st] t ∧ t = { s with regs := t.regs, aplls := t.aplls }) ∧
    (¬settles → s.apllState k ≠ 3 → exec (.apllSettleEnd k ()) s = .next s) ∧
    (s.rd lock ≠ 0 → s.rd st ≠ 6 → ∃ t, exec (.apllUnlock k) s = .next t ∧
      t.rd lock = 0 ∧ t.rd st = 7 ∧ t.rd (Reg.APLL_CMD_APPLY k) = 0 ∧ t.present 25 k ∧
      t.rd (Reg.APLL_COUNT_UNLOCKS k) = (s.rd (Reg.APLL_COUNT_UNLOCKS k) + 1) % 2 ^ (Reg.APLL_COUNT_UNLOCKS k).width ∧
      t.age (.retry k) = 0 ∧ t.eng = s.eng ∧ t.slots = s.slots) ∧
    (s.rd lock = 0 ∨ s.rd st = 6 → exec (.apllUnlock k) s = .next s) ∧
    (let good := s.rd st = 7 ∧ maskBit (s.rd Reg.PWR_RAIL_STATUS_GOOD) 4 = true ∧ s.ran (.retry k) 10000000 = true
     (¬good → exec (.apllRetry k) s = .next s) ∧
     (good → ∃ t, exec (.apllRetry k) s = .next t ∧
       (t.rd lock = 0 ∧ others t ∧ t = { s with regs := t.regs, aplls := t.aplls, timers := t.timers } ∧
       match s.cacheHit k x.plan.f with
       | some i => t.rd st = 2 ∧ t.age (.hop k) = 0 ∧ t.apll k = { x with hopEnt := i, preset := (x.ent i).preset }
       | none => t.rd st = 1 ∧ t.rd searches = (s.rd searches + 1) % 2 ^ searches.width ∧ t.aplls = s.aplls)))

/-- R196, R198, R209, R220: the enable of an APLL, the cover of A8, CACHE_CLR and the edge of the tuning range. -/
def Obligations.apll_commands : Prop :=
  ∀ (k : Fin 9) (near : Bool) (data : BitVec 32) (s : State),
    let en := Reg.APLL_CFG_EN k
    let x := s.apll k
    let mine := s.mapApll = some k.val
    (s.hostOpen en.addr → s.rd en = 0 → ¬mine → k.val < 8 → ∃ t, exec (.apllEnable k true) s = .next t ∧
      t.rd en = 1 ∧ s.regsBut [en] t ∧ t = { s with regs := t.regs, flt := t.flt }) ∧
    (s.hostOpen en.addr → s.rd en ≠ 0 ∨ mine → ∃ t, exec (.apllEnable k true) s = .next t ∧
      (s.rd en ≠ 0 → mine → t.rd en = 0) ∧ (s.rd en ≠ 0 → ¬mine → t.rd en = s.rd en) ∧
      (s.rd en = 0 ∨ ¬mine → s.regsBut [] t ∧ t = { s with regs := t.regs, flt := t.flt })) ∧
    (s.hostOpen en.addr → s.rd en = 0 → ¬mine → k.val = 8 → ∃ t, exec (.apllEnable k true) s = .next t ∧
      t.rd en = 1 ∧ t.outs = s.outs ∧ (∀ j, j ≠ 8 → t.apll j = s.apll j)) ∧
    (s.hostOpen en.addr → s.rd en ≠ 0 → ∃ t, exec (.apllEnable k false) s = .next t ∧
      t.rd en = 0 ∧ t.rd (Reg.APLL_STATUS_LOCK k) = 0 ∧ t.rd (Reg.APLL_STATUS_STATE k) = 0 ∧
      t.rd (Reg.APLL_CMD_APPLY k) = 0 ∧ (t.apll k).change = none ∧ (t.apll k).mirror = none ∧
      (∀ j, j ≠ k.val → j ≠ 8 → t.apll j = s.apll j)) ∧
    (s.hostOpen (Reg.APLL_COVER_APLL 8).addr → s.mapApll = none → ∃ t, exec (.apll8CoverWrite data) s = .next t ∧
      t.rd (Reg.APLL_COVER_APLL 8) = data.toNat % 16 ∧ t.rd (Reg.APLL_COVER_RESCUE 8) = data.toNat / 16 % 2 ∧
      (∀ j, j ≠ 8 → t.apll j = s.apll j) ∧ t = { s with regs := t.regs, aplls := t.aplls, flt := t.flt, timers := t.timers }) ∧
    (s.hostOpen (Reg.APLL_COVER_APLL 8).addr → s.mapApll.isSome = true → ∃ t, exec (.apll8CoverWrite data) s = .next t ∧
      t.rd (Reg.APLL_COVER_APLL 8) = s.rd (Reg.APLL_COVER_APLL 8) ∧ t.rd (Reg.APLL_COVER_RESCUE 8) = s.rd (Reg.APLL_COVER_RESCUE 8) ∧
      (∀ j, j ≠ 8 → t.apll j = s.apll j) ∧ t = { s with regs := t.regs, aplls := t.aplls, flt := t.flt, timers := t.timers }) ∧
    (s.hostOpen (Reg.APLL_CMD_APPLY k).addr → ∃ t, exec (.cacheClr k) s = .next t ∧
      (∀ i < 8, (t.apll k).ent i = if (x.ent i).pin then x.ent i else { x.ent i with valid := false }) ∧
      (t.apll k).plan = x.plan ∧ (∀ j, j ≠ k.val → t.apll j = s.apll j) ∧ t = { s with aplls := t.aplls, flt := t.flt }) ∧
    (∃ t, exec (.tuneEdgeDetect k near) s = .next t ∧
      t.rd (Reg.APLL_STATUS_TUNE_EDGE k) = near.toNat ∧ (t.present 27 k ↔ near = true) ∧
      s.regsBut [Reg.APLL_STATUS_TUNE_EDGE k] t ∧ t = { s with regs := t.regs, flt := t.flt })

/-- R203, R204, R206, R212 to R215, R222: the outputs. A multiplexer connects what R212 gives its output; a write of SRC
brings a moved output home; EN = 0 turns the driver off at once; a phase is stretched in, and each second pulses at most
once, at its instant. A change of the output's group that waited for it may then begin. -/
def Obligations.outputs : Prop :=
  ∀ (o : Fin 32) (src : Fin 4) (lo : BitVec 32) (sec : BitVec 48) (on : Bool) (s : State),
    let x := s.outp o
    let tgt := s.outTarget o
    let v := s.rd (Reg.OUT_PHASE_HI_PHASE o) * 2 ^ 32 + lo.toNat
    let others := fun (t : State) => ∀ j, j ≠ o.val → t.outp j = s.outp j
    let calm := ∀ c, (s.apll (o.val / 4)).change = some c → c.begun = true
    let moves := fun (t : State) => t.outp o = { x with
        shown := tgt, gap := s.switchGap o x.shown tgt, bypDiv := if tgt = 2 ∧ x.shown ≠ 2 then (s.bypFreq o).2 else x.bypDiv } ∧
      others t ∧ (calm → t = { s with outs := t.outs }) ∧ t = { s with regs := t.regs, outs := t.outs, aplls := t.aplls, timers := t.timers }
    let phase := Reg.OUT_PHASE_LO_PHASE o
    let busy := Reg.OUT_STATUS_PHASE_BUSY o
    let miss := Reg.OUT_STATUS_PULSE_MISS o
    (∃ t, exec (.muxSwitch o) s = .next t ∧ moves t) ∧
    (s.clockDead o = true → ∃ t, exec (.muxDeadClockSwitch o) s = .next t ∧ moves t) ∧
    (s.clockDead o = false → exec (.muxDeadClockSwitch o) s = .next s) ∧
    (s.hostOpen (Reg.OUT_CFG_SRC o).addr → s.mapApll ≠ some (o.val / 4) → ∃ t, exec (.outSrcWrite o src) s = .next t ∧
      t.rd (Reg.OUT_CFG_SRC o) = src ∧
      (t.outp o).moved = (if s.rd (Reg.OUT_CFG_AUTO_RETURN o) = 0 ∨ s.rd (Reg.OUT_CFG_SRC o) ≠ src.val then 0 else x.moved) ∧
      others t ∧ t = { s with regs := t.regs, outs := t.outs, aplls := t.aplls, flt := t.flt, timers := t.timers }) ∧
    (s.hostOpen (Reg.OUT_CFG_SRC o).addr → ∃ t, exec (.outEnable o on) s = .next t ∧
      t.rd (Reg.OUT_CFG_EN o) = on.toNat ∧ others t ∧
      t.outp o = (if x.frozen.isSome then x else if !on then { x with shown := 6 }
        else if s.rd (Reg.OUT_CFG_EN o) = 0 then { x with format := s.rd (Reg.OUT_CFG_FORMAT o) } else x) ∧
      (calm → s.regsBut [Reg.OUT_CFG_EN o] t ∧ t.aplls = s.aplls) ∧
      t = { s with regs := t.regs, outs := t.outs, aplls := t.aplls, flt := t.flt, timers := t.timers }) ∧
    (s.hostOpen phase.addr →
      (x.frozen.isSome = true → ∃ t, exec (.outPhaseCommit o lo) s = .next t ∧
        t.rd phase = lo.toNat ∧ s.regsBut [phase] t ∧ t = { s with regs := t.regs, flt := t.flt }) ∧
      (x.frozen = none → s.pulsing o = true → ∃ t, exec (.outPhaseCommit o lo) s = .next t ∧
        t.rd phase = lo.toNat ∧ t.outp o = { x with phase := v, applied := v } ∧ others t ∧ s.regsBut [phase, miss] t ∧
        t = { s with regs := t.regs, outs := t.outs, flt := t.flt }) ∧
      (x.frozen = none → s.pulsing o = false → ∃ t, exec (.outPhaseCommit o lo) s = .next t ∧
        (let late := ∃ p, s.outPeriod o = some p ∧ (((v : Int) - x.applied) * p.2 % (p.1 : Int)).toNat ≠ 0
        t.rd phase = lo.toNat ∧ (t.outp o).phase = v ∧ (t.outp o).adjAt = s.up ∧
        (late → t.rd busy = 1 ∧ (t.outp o).applied = x.applied) ∧
        (¬late → t.rd busy = 0 ∧ (t.outp o).applied = v) ∧ others t ∧ s.regsBut [phase, busy] t ∧
        t = { s with regs := t.regs, outs := t.outs, flt := t.flt }))) ∧
    (s.phaseDone o = true → ∃ t, exec (.phaseAdjustDone o) s = .next t ∧
      t.rd busy = 0 ∧ t.outp o = { x with applied := x.phase } ∧ others t ∧
      s.regsBut [busy] t ∧ t = { s with regs := t.regs, outs := t.outs }) ∧
    (s.phaseDone o = false → exec (.phaseAdjustDone o) s = .next s) ∧
    (let e := max 1 (s.rd (Reg.OUT_PULSE_CFG_EVERY o))
     let due := s.pulsing o = true ∧ s.pulseDue o sec.toNat = true ∧ sec.toNat % e = 0 ∧ ∀ l, x.lastPulse = some l → l < sec.toNat
     (due → s.srcAct o < 2 → ∃ t, exec (.pulseInstant o sec) s = .next t ∧
       t.outp o = { x with lastPulse := some sec.toNat, pulseUntil := s.up + (s.rd (Reg.OUT_PULSE_W_NS o) + 1) / 2 } ∧
       others t ∧ t = { s with outs := t.outs }) ∧
     (due → s.srcAct o = 4 ∨ s.srcAct o = 5 → ∃ t, exec (.pulseInstant o sec) s = .next t ∧
       t.rd miss = (s.rd miss + 1) % 2 ^ miss.width ∧ s.onlyRegs [miss] t) ∧
     (¬due → exec (.pulseInstant o sec) s = .next s))

/-! ### Time and phase steps (R176, R177, R191, R192, R223 to R240) -/

/-- R223, R230 to R232, R234, R489: the commands of a timescale. SET and ADJ move it at once, or wait for the edge under
AT_EDGE, or for the first tick of TIME; a SET in the tick of a lesson's step discards that step, which is lost; a VAL_NS of 10^9
or more is refused; a command that has waited 2.0 s clears; CAPTURE takes the seconds, the ns and the fraction. R176, R177, R191,
R192, R194: phase steps. A commit adds to what remains unless the sum leaves the range, when it is refused; a cancel drops what
remains; the slewer's last tick moves exactly what remains, unless a hold or a loss of the clock stops it, and the APLLs of the
path have that much to follow. -/
def Obligations.timescales_and_phase_steps : Prop :=
  (∀ (n : Fin 4) (s : State),
     let a := (Reg.TS_CMD_SET n).addr
     let steps := Reg.TS_STEPS_COUNT n
     let runs := s.hostOpen a ∧ s.clk.time ≠ .stopped ∧ s.rd (Reg.TS_VAL_NS_NS n) < 10 ^ 9 ∧ s.parityIn (0x30000 + 0x40 * n) 0x40 = false
     let lost := (s.tscale n).lastStep.any (fun e => decide (e.1 = s.now))
     let waited := (s.tscale n).pend.any (fun c => decide (c.since + 2048000000000 ≤ s.tb))
     let placed := fun (v : Nat) (t : State) => (t.tscale n).val = v ∧ (t.tscale n).pend = none ∧ t.rd (Reg.TS_STATUS_REJ n) = 0 ∧
       (∀ m, m ≠ n.val → t.tscale m = s.tscale m)
     let moved := fun (v : Nat) (t : State) => placed v t ∧ t.rd steps = (s.rd steps + 1) % 2 ^ steps.width ∧
       t.flt.inflight = s.flt.inflight ++ [⟨29, n, 0, false⟩] ∧
       t = { s with regs := t.regs, ts := t.ts, flt := t.flt, grps := t.grps, rings := t.rings }
     let waits := fun (set : Bool) (v : Int) (t : State) => (t.tscale n).pend = some ⟨set, v, s.tb⟩ ∧
       (t.tscale n).val = (s.tscale n).val ∧ t.rd (Reg.TS_CMD_SET n) = set.toNat ∧ t.rd (Reg.TS_CMD_ADJ n) = (!set).toNat ∧
       t = { s with regs := t.regs, ts := t.ts }
     (runs → s.rd (Reg.TS_CFG_AT_EDGE n) = 0 → lost = true → ∃ t, exec (.tsSet n) s = .next t ∧
       placed (tsAdd 0 (s.valUnsigned n * 2 ^ 48)) t ∧ t.rd steps = s.rd steps ∧
       t.flt.inflight = s.flt.inflight ++ [⟨30, n, 0, false⟩] ∧ t = { s with regs := t.regs, ts := t.ts, flt := t.flt }) ∧
     (runs → s.rd (Reg.TS_CFG_AT_EDGE n) = 0 →
       (lost = false → ∃ t, exec (.tsSet n) s = .next t ∧ (moved (tsAdd 0 (s.valUnsigned n * 2 ^ 48))) t) ∧
       ∃ t, exec (.tsAdj n) s = .next t ∧ (moved (tsAdd (s.tscale n).val (s.valSigned n * 2 ^ 48))) t) ∧
     (runs → s.rd (Reg.TS_CFG_AT_EDGE n) ≠ 0 →
       (∃ t, exec (.tsSet n) s = .next t ∧ (waits true (s.valUnsigned n)) t) ∧ ∃ t, exec (.tsAdj n) s = .next t ∧ (waits false (s.valSigned n)) t) ∧
     (s.hostOpen a → s.clk.time ≠ .stopped → 10 ^ 9 ≤ s.rd (Reg.TS_VAL_NS_NS n) →
       (∃ t, exec (.tsSet n) s = .next t ∧ (fun t => t.rd (Reg.TS_STATUS_REJ n) = 1 ∧ s.onlyRegs [Reg.TS_STATUS_REJ n] t) t) ∧
       ∃ t, exec (.tsAdj n) s = .next t ∧ (fun t => t.rd (Reg.TS_STATUS_REJ n) = 1 ∧ s.onlyRegs [Reg.TS_STATUS_REJ n] t) t) ∧
     (s.hostOpen a → s.clk.time = .stopped →
       (∃ t, exec (.tsSet n) s = .next t ∧ (fun t => t.rd (Reg.TS_CMD_SET n) = 1 ∧ s.onlyRegs [Reg.TS_CMD_SET n] t) t) ∧
       ∃ t, exec (.tsAdj n) s = .next t ∧ (fun t => t.rd (Reg.TS_CMD_ADJ n) = 1 ∧ s.onlyRegs [Reg.TS_CMD_ADJ n] t) t) ∧
     (s.hostOpen a → ∃ t, exec (.tsCapture n) s = .next t ∧
       (let v := (s.tscale n).val / 2 ^ 48
       t.rd (Reg.TS_CAP_S_LO_S n) = v / 2 ^ 16 / 10 ^ 9 % 2 ^ 32 ∧ t.rd (Reg.TS_CAP_NS_NS n) = v / 2 ^ 16 % 10 ^ 9 ∧
       t.rd (Reg.TS_CAP_FRAC_FRAC n) = v % 2 ^ 16 ∧ t.tscale n = { s.tscale n with cap := v } ∧
       (∀ m, m ≠ n.val → t.tscale m = s.tscale m) ∧
       s.regsBut [Reg.TS_CAP_S_LO_S n, Reg.TS_CAP_NS_NS n, Reg.TS_CAP_FRAC_FRAC n] t ∧ t = { s with regs := t.regs, ts := t.ts })) ∧
     (waited = false → exec (.tsCmdTimeout n) s = .next s) ∧
     (waited = true → ∃ t, exec (.tsCmdTimeout n) s = .next t ∧
       t.tscale n = { s.tscale n with pend := none } ∧ t.rd (Reg.TS_STATUS_TIMEOUT n) = 1 ∧ t.rd (Reg.TS_CMD_SET n) = 0 ∧
       t.rd (Reg.TS_CMD_ADJ n) = 0 ∧ (∀ m, m ≠ n.val → t.tscale m = s.tscale m) ∧
       s.regsBut [Reg.TS_STATUS_TIMEOUT n, Reg.TS_CMD_SET n, Reg.TS_CMD_ADJ n] t ∧ t = { s with regs := t.regs, ts := t.ts })) ∧
  (∀ (p : Fin 8) (lo : BitVec 32) (s : State),
     let x := s.path p
     let amt := toSigned 48 (s.rd (Reg.PATH_PHASE_STEP_HI_AMOUNT_HI p) * 2 ^ 32 + lo.toNat) * 2 ^ 16
     let fits := -2 ^ 63 ≤ x.remain + amt ∧ x.remain + amt < 2 ^ 63
     let low := Reg.PATH_PHASE_STEP_LO_AMOUNT_LO p
     let accepted := Reg.PATH_STEP_STATUS_ACCEPTED p
     let rej := Reg.PATH_STEP_STATUS_REJ p
     let others := fun (t : State) => ∀ q, q ≠ p.val → t.path q = s.path q
     let last := s.timeClocked = true ∧ s.rd (Reg.PATH_STEP_CFG_MODE p) = 0 ∧ s.pathHeld p = false ∧
       (x.remain.natAbs : Int) ≤ slewDue 1 p s
     let follows := fun (k : Nat) => s.apllOf k = p.val ∧ s.rd (Reg.APLL_STATUS_LOCK k) ≠ 0
     (s.hostOpen low.addr → fits → ∃ t, exec (.phaseStepCommit p lo) s = .next t ∧
       t.path p = { x with remain := x.remain + amt, seg := if x.remain = 0 then 0 else x.seg } ∧ t.rd rej = 0 ∧
       t.rd accepted = (s.rd accepted + 1) % 2 ^ accepted.width ∧ others t ∧ s.regsBut [low, rej, accepted] t ∧
       t = { s with regs := t.regs, paths := t.paths }) ∧
     (s.hostOpen low.addr → ¬fits → ∃ t, exec (.phaseStepCommit p lo) s = .next t ∧
       t.rd rej = 1 ∧ s.onlyRegs [low, rej] t) ∧
     (s.hostOpen (Reg.PATH_STEP_CMD_CANCEL p).addr → ∃ t, exec (.stepCancel p) s = .next t ∧
       t.path p = { x with remain := 0 } ∧ others t ∧ t = { s with paths := t.paths }) ∧
     (last → ∃ t, exec (.slewComplete p) s = .next t ∧
       t.path p = { x with remain := 0, total := x.total + x.remain, ramp := x.ramp - x.remain * 2 ^ 32 } ∧ others t ∧
       (∀ k < 9, follows k → t.apll k = { s.apll k with lag := (s.apll k).lag + x.remain * 2 ^ 32 }) ∧
       (∀ k < 9, ¬follows k → t.apll k = s.apll k) ∧ t = { s with paths := t.paths, aplls := t.aplls }) ∧
     (¬last → exec (.slewComplete p) s = .next s))


/-! ### Time triggers and the UARTs (R236 to R241, R248, R249) -/

/-- R236 to R239, R248: time triggers. The write of LO commits T and arms an enabled trigger without CFG_ERR or mismatch;
clearing EN disarms, and ends the gating of a queue that no other trigger names. An armed trigger that the tick does not reach
stands. In the tick that reaches T - L it acts at T, or late, or misses where LATE says so: a pulse or window begins, a queue
releases its head, and a target that cannot take it is a miss; then it disarms, or T moves on by whole periods, and those skipped
are missed. A pulse ends after PARAM ns. R241, R249: the UART receivers. A write of UARTu_CFG takes its fields, and a rise of EN
zeroes the byte count; a byte goes to its place in the commons ring with its stamp, then the count increments, and an error
counts, of the parity only where PARITY names one. -/
def Obligations.triggers_and_uarts : Prop :=
  (∀ (g : Fin 32) (lo : BitVec 32) (s : State),
     let low := Reg.TG_TIME_LO_T g
     let armed := Reg.TG_STATUS_ARMED g
     let fired := Reg.TG_STATUS_FIRED g
     let missed := Reg.TG_STATUS_MISSED g
     let x := s.trig g
     let action := s.rd (Reg.TG_CFG_ACTION g)
     let target := s.rd (Reg.TG_CFG_TARGET g)
     let n := s.rd (Reg.TG_CFG_TS g)
     let v := (s.tscale n).val
     let b := wtOf (tsAdd v (s.perTick (s.tsInc n)))
     let l := s.trigLat5 g
     let d := 5 * sdiff b x.t + l
     let late := 5 * sdiff x.t (wtOf v) < l
     let reached := s.rd armed ≠ 0 ∧ s.timeClocked = true ∧ 0 < d
     let tries := late → s.rd (Reg.TG_CFG_LATE g) = 0
     let fires := tries ∧ (action = 0 → s.rd (Reg.OUT_CFG_MODE target) ≠ 0 ∧ s.srcAct target < 2) ∧
       (action = 2 → s.queueEmpty (target / 16) (target % 8) = false)
     let per := s.rd (Reg.TG_PERIOD_NS g) * 65536
     let rep := s.rd (Reg.TG_CFG_REPEAT g)
     let last := per = 0 ∨ (rep ≠ 0 ∧ x.done + 1 = rep)
     let k := max 1 ((d + 5 * per - 1) / (5 * per)).toNat
     let w := s.trigPlace g (if late then b + (l / 5).toNat else x.t)
     let span := s.rd (Reg.TG_PARAM_NS g) * 65536
     let others := fun (t : State) => ∀ k, k ≠ g.val → t.trig k = s.trig k
     let arms := s.rd (Reg.TG_CFG_EN g) ≠ 0 ∧ s.trigCfgErr g = false ∧ s.trigParity g = false
     let written := fun (t : State) => t.rd low = lo.toNat ∧ (t.trig g).t = s.rd (Reg.TG_TIME_HI_T g) * 2 ^ 32 + lo.toNat ∧
       (t.trig g).active = x.active ∧ others t ∧ t = { s with regs := t.regs, tg := t.tg }
     let ends := x.active = true ∧ sdiff x.stop x.start ≤ 131072 * ((s.now - x.order : Nat) : Int)
     (s.hostOpen low.addr → arms → ∃ t, exec (.triggerArm g lo) s = .next t ∧
       t.rd armed = 1 ∧ (t.trig g).done = 0 ∧ s.regsBut [low, armed] t ∧ written t) ∧
     (s.hostOpen low.addr → ¬arms → ∃ t, exec (.triggerArm g lo) s = .next t ∧
       (t.trig g).done = x.done ∧ s.regsBut [low] t ∧ written t) ∧
     (s.hostOpen (Reg.TG_CFG_EN g).addr → ∃ t, exec (.triggerDisarm g) s = .next t ∧ t.rd (Reg.TG_CFG_EN g) = 0 ∧ t.rd armed = 0 ∧
       (∀ p < 4, (t.port p).releases = (s.port p).releases.filter (fun q => t.trigGated p q)) ∧
       s.regsBut [Reg.TG_CFG_EN g, armed] t ∧ t = { s with regs := t.regs, ports := t.ports }) ∧
     (¬reached → exec (.triggerFire g) s = .next s) ∧
     (reached → ∃ t, exec (.triggerFire g) s = .next t ∧
       t.rd fired = (s.rd fired + if fires then 1 else 0) % 2 ^ fired.width ∧
       t.rd missed = (s.rd missed + (if fires then 0 else 1) + if last then 0 else k - 1) % 2 ^ missed.width ∧
       (fires → t.rd (Reg.TG_STATUS_COARSE g) = s.portCoarse.toNat ∧ (t.rd (Reg.TG_STATUS_LATE g) = 1 ↔ late)) ∧
       (fires → action ≠ 2 → (t.trig g).active = true ∧ (t.trig g).start = w % 2 ^ 64 ∧ (t.trig g).stop = (w + span) % 2 ^ 64) ∧
       (¬fires ∨ action = 2 → (t.trig g).active = x.active ∧ (t.trig g).start = x.start ∧ (t.trig g).stop = x.stop) ∧
       (fires → action = 2 → t.rd (Reg.TG_STATUS_EMPTY g) = 0 ∧
         t.port (target / 16) = { s.port (target / 16) with releases := (s.port (target / 16)).releases ++ [target % 8] }) ∧
       (tries → ¬fires → action = 2 → t.rd (Reg.TG_STATUS_EMPTY g) = 1) ∧ (¬fires ∨ action ≠ 2 → t.ports = s.ports) ∧
       (last → t.rd armed = 0 ∧ (t.trig g).t = x.t) ∧
       (¬last → t.rd armed = s.rd armed ∧ (t.trig g).t = (x.t + k * per) % 2 ^ 64) ∧
       (t.trig g).done = (if per ≠ 0 ∧ rep ≠ 0 then x.done + 1 else x.done) ∧ others t ∧
       (fires → last → t.flt = s.flt) ∧ (¬fires → (⟨31, g, 0, false⟩ : Notice) ∈ t.flt.inflight) ∧
       s.regsBut [fired, missed, armed, Reg.TG_STATUS_LATE g, Reg.TG_STATUS_COARSE g, Reg.TG_STATUS_EMPTY g] t ∧
       t = { s with regs := t.regs, tg := t.tg, ports := t.ports, flt := t.flt }) ∧
     (ends → ∃ t, exec (.triggerPulseEnd g) s = .next t ∧ t.trig g = { x with active := false } ∧ others t ∧
       t = { s with tg := t.tg }) ∧
     (¬ends → exec (.triggerPulseEnd g) s = .next s)) ∧
  (∀ (u : Fin 2) (data : BitVec 32) (x : UartIn) (s : State),
     let c := uartCountWord u
     let k := (tabGet 0 c s.commons).toNat
     let err := if u.val = 0 then Reg.DEV_UART_STATUS_ERR0 else Reg.DEV_UART_STATUS_ERR1
     let ns := s.tsAt (s.rd (Reg.DEV_UART_CFG_TS u)) x.t / 2 ^ 64 % 2 ^ 48
     let ones := ((List.range 8).filter (fun i => x.data.getLsbD i)).length + x.parity.toNat
     let bad := decide ((s.rd (Reg.DEV_UART_CFG_PARITY u) = 1 ∧ ones % 2 = 1) ∨ (s.rd (Reg.DEV_UART_CFG_PARITY u) = 2 ∧ ones % 2 = 0))
     let runs := s.rd (Reg.DEV_UART_CFG_EN u) ≠ 0 ∧ s.uartCfgErr u = false ∧ s.rd Reg.PWR_STATUS_STATE = 0
     let fields := [Reg.DEV_UART_CFG_EN u, Reg.DEV_UART_CFG_PARITY u, Reg.DEV_UART_CFG_TS u, Reg.DEV_UART_CFG_BAUD u]
     let rise := data.msb = true ∧ s.rd (Reg.DEV_UART_CFG_EN u) = 0
     (s.hostOpen (Reg.DEV_UART_CFG_EN u).addr → ∃ t, exec (.uartEnable u data) s = .next t ∧
       (∀ f ∈ fields, t.rd f = data.toNat / 2 ^ f.lo % 2 ^ f.width) ∧ (rise → tabGet 0 c t.commons = 0) ∧
       (¬rise → t.commons = s.commons) ∧ (∀ i, i ≠ c → tabGet 0 i t.commons = tabGet 0 i s.commons) ∧
       s.regsBut fields t ∧ t = { s with regs := t.regs, commons := t.commons }) ∧
     (¬runs → exec (.uartByte u x) s = .next s) ∧
     (runs → ∃ t, exec (.uartByte u x) s = .next t ∧
       tabGet 0 c t.commons = BitVec.ofNat 64 (k + 1) ∧
       tabGet 0 (c + 1 + k % 255) t.commons = BitVec.ofNat 64 (x.data.toNat * 2 ^ 56 + flagIf x.framing (2 ^ 55) +
         flagIf bad (2 ^ 54) + flagIf x.brk (2 ^ 53) + ns) ∧
       (∀ i, i ≠ c → i ≠ c + 1 + k % 255 → tabGet 0 i t.commons = tabGet 0 i s.commons) ∧
       t.rd err = (s.rd err + (x.framing.toNat + bad.toNat)) % 2 ^ err.width ∧ s.regsBut [err] t ∧
       t = { s with regs := t.regs, commons := t.commons }))


/-! ### The event record (R279 to R300) -/

/-- R279, R292, R293, R295: the DRAM. Its zeroing ends with READY, after the lock of the system PLL; a scrubbed word counts a
corrected or an uncorrectable error, a word with poisoned check bits stays uncorrectable, the fourth corrected error of a row
within 24 h makes it due, and a row that is due is replaced; a BAR2 read answers the word at its address, and poison where it
is uncorrectable. R280, R300: the commands of a ring. A rise of EN reads the configuration and zeroes the pointers; the ring
runs, or waits for READY, or shows CFG_ERR; READY starts a ring that waits and still may; a clearing of EN stops it and drops
what is in flight; a write of RD moves it to a byte between RD and WR, or shows RD_ERR. -/
def Obligations.dram_and_rings : Prop :=
  (∀ (word : BitVec 24) (ecc : Ecc) (s : State),
     let corr := Reg.EVR_ECC_CORR
     let unc := Reg.EVR_ECC_UNC
     let row := Config.dramRow word.toNat
     let on := s.rd Reg.EVR_CTRL_SCRUB_EN ≠ 0 ∧ s.rd Reg.EVR_STATUS_READY ≠ 0
     let replaces := row ∈ s.dram.due ∧ s.rowSpare = true
     let found := s.dramFinds word.toNat ecc
     let recent := (tabGet [] row s.dram.errs).filter (fun t => decide (s.up < t + 43200000000000))
     let inits := s.sysLocked = true ∧ s.rd Reg.EVR_STATUS_READY = 0 ∧ s.bist.map Prod.fst ≠ some 4
     (inits → ∃ t, exec .dramInitComplete s = .next t ∧ t.rd Reg.EVR_STATUS_READY = 1 ∧ (∀ i, t.dramWord i = 0) ∧
       s.regsBut [Reg.EVR_STATUS_READY] t ∧ t = { s with regs := t.regs, dram := { s.dram with mem := [], poison := [] } }) ∧
     (¬inits → exec .dramInitComplete s = .next s) ∧
     (¬on → exec (.dramScrub word ecc) s = .next s) ∧
     (on → ¬replaces → found = .ok → exec (.dramScrub word ecc) s = .next s) ∧
     (on → ¬replaces → found = .single → ∃ t, exec (.dramScrub word ecc) s = .next t ∧
       t.rd corr = min (s.rd corr + 1) (2 ^ corr.width - 1) ∧
       t.dram = { s.dram with
         errs := tabSet [] row (recent ++ [s.up]) s.dram.errs
         due := if 3 ≤ recent.length ∧ row ∉ s.dram.due then s.dram.due ++ [row] else s.dram.due } ∧
       s.regsBut [corr] t ∧ t = { s with regs := t.regs, dram := t.dram }) ∧
     (on → ¬replaces → found = .double → ∃ t, exec (.dramScrub word ecc) s = .next t ∧
       t.rd unc = min (s.rd unc + 1) (2 ^ unc.width - 1) ∧
       t.rd Reg.EVR_ECC_ADDR_ADDR = 8 * word.toNat % 2 ^ Reg.EVR_ECC_ADDR_ADDR.width ∧
       t.flt.inflight = s.flt.inflight ++ [⟨11, noInst, word.toNat, false⟩] ∧ row ∈ t.dram.due ∧ word.toNat ∈ t.dram.poison ∧
       t.dram.mem = s.dram.mem ∧ t.dram.replaced = s.dram.replaced ∧ s.regsBut [unc, Reg.EVR_ECC_ADDR_ADDR] t ∧
       t = { s with regs := t.regs, dram := t.dram, flt := t.flt }) ∧
     (on → replaces → ∃ t, exec (.dramScrub word ecc) s = .next t ∧
       t.dram.replaced = s.dram.replaced ++ [row] ∧ row ∉ t.dram.due ∧ t.dram.mem = s.dram.mem ∧ t.rings = s.rings ∧
       t.eng = s.eng ∧ t.slots = s.slots)) ∧
  (∀ (addr : BitVec 27) (dword : Bool) (ecc : Ecc) (s : State),
     let i := addr.toNat / 8
     let w := s.dramWord i
     let answers := s.pcieUp = true ∧ s.rd Reg.EVR_STATUS_READY ≠ 0 ∧ s.reachable 25 = true
     let parts := fun (w : Word64) (t : State) => t.hostRead = (if dword = false then [w.extractLsb' 0 32, w.extractLsb' 32 32]
       else [if addr.toNat / 4 % 2 = 0 then w.extractLsb' 0 32 else w.extractLsb' 32 32])
     (s.pcieUp = false → exec (.bar2Read addr dword ecc) s = .next s) ∧
     (answers → s.dramFinds i ecc = .ok → ∃ t, exec (.bar2Read addr dword ecc) s = .next t ∧
       parts w t ∧ t = { s with hostRead := t.hostRead, host := { s.host with poison := false } }) ∧
     (answers → s.dramFinds i ecc = .single → ∃ t, exec (.bar2Read addr dword ecc) s = .next t ∧
       parts w t ∧ t.rd Reg.EVR_ECC_CORR = min (s.rd Reg.EVR_ECC_CORR + 1) (2 ^ Reg.EVR_ECC_CORR.width - 1) ∧
       t.dram.mem = s.dram.mem ∧ s.regsBut [Reg.EVR_ECC_CORR] t ∧
       t = { s with regs := t.regs, dram := t.dram, hostRead := t.hostRead, host := { s.host with poison := false } }) ∧
     (answers → s.dramFinds i ecc = .double → ∃ t, exec (.bar2Read addr dword ecc) s = .next t ∧
       t.host = { s.host with poison := true } ∧ i ∈ t.dram.poison ∧ t.dram.mem = s.dram.mem ∧
       s.regsBut [Reg.EVR_ECC_UNC, Reg.EVR_ECC_ADDR_ADDR] t ∧
       t = { s with regs := t.regs, dram := t.dram, flt := t.flt, hostRead := t.hostRead, host := t.host, free := t.free }) ∧
     (s.pcieUp = true → ¬answers → ∃ t, exec (.bar2Read addr dword ecc) s = .next t ∧
       t = { s with hostRead := t.hostRead, free := t.free })) ∧
  (∀ (r : Fin 8) (off : BitVec 27) (s : State),
     let en := Reg.EVR_RING_CFG_EN r
     let x := s.ring r
     let o := off.toNat
     let rd := s.rd (Reg.EVR_RING_RD_OFFSET r)
     let rdErr := Reg.EVR_RING_STATUS_RD_ERR r
     let moves := o % 8 = 0 ∧ s.rd (Reg.EVR_RING_CFG_STREAM r) = 0 ∧
       (o = rd ∨ (o < x.size ∧ ringUsed x.size rd o ≤ ringUsed x.size rd (s.rd (Reg.EVR_RING_WR_OFFSET r))))
     let new : RingSt := {
       base := s.rd (Reg.EVR_RING_BASE_UNITS r) * 65536, size := s.rd (Reg.EVR_RING_SIZE_UNITS r) * 65536
       compact := s.bit (Reg.EVR_RING_CFG_FORMAT r), overwrite := s.bit (Reg.EVR_RING_CFG_POLICY r)
       ts := s.rd (Reg.EVR_RING_CFG_TS r), lost := x.lost }
     let others := fun (t : State) => ∀ q, q ≠ r.val → t.ring q = s.ring q
     let begun := fun (t : State) => t.rd en = 1 ∧ t.rd (Reg.EVR_RING_WR_OFFSET r) = 0 ∧ t.rd (Reg.EVR_RING_RD_OFFSET r) = 0 ∧
       (t.ring r).written = 0 ∧ others t ∧
       s.regsBut [en, Reg.EVR_RING_WR_OFFSET r, Reg.EVR_RING_RD_OFFSET r, Reg.EVR_RING_WRITTEN_LO_COUNT r] t ∧
       t = { s with regs := t.regs, rings := t.rings }
     let starts := s.rd Reg.EVR_STATUS_READY ≠ 0 ∧ s.parityIn 0x3E000 0x180 = false
     let opens := s.hostOpen en.addr ∧ s.rd en = 0
     (opens → s.ringConflict r new = false → starts → ∃ t, exec (.ringEnable r) s = .next t ∧
       t.ring r = { new with run := true } ∧ begun t) ∧
     (opens → s.ringConflict r new = false → ¬starts → ∃ t, exec (.ringEnable r) s = .next t ∧
       t.ring r = { new with wait := true, cfgErr := decide (s.rd Reg.EVR_STATUS_READY = 0) } ∧ begun t) ∧
     (opens → s.ringConflict r new = true → ∃ t, exec (.ringEnable r) s = .next t ∧
       t.ring r = { new with cfgErr := true } ∧ begun t) ∧
     (s.hostOpen en.addr → s.rd en ≠ 0 → exec (.ringEnable r) s = .next s) ∧
     (x.wait = true → starts → ∃ t, exec (.ringDeferredStart r) s = .next t ∧
       t.ring r = { x with run := !s.ringConflict r x, wait := false, cfgErr := s.ringConflict r x } ∧ others t ∧
       t = { s with rings := t.rings }) ∧
     (x.wait = false ∨ ¬starts → exec (.ringDeferredStart r) s = .next s) ∧
     (s.hostOpen en.addr → ∃ t, exec (.ringDisable r) s = .next t ∧
       (let n := if x.run then s.inFlight r else 0
       t.rd en = 0 ∧ t.ring r = { x with run := false, wait := false, cfgErr := false, lost := x.lost + n } ∧ others t ∧
       t.dram = s.dram ∧ s.regsBut [en, Reg.EVR_RING_DROPPED_COUNT r] t ∧
       t.rd (Reg.EVR_RING_DROPPED_COUNT r) = (s.rd (Reg.EVR_RING_DROPPED_COUNT r) + n) % 2 ^ (Reg.EVR_RING_DROPPED_COUNT r).width ∧
       (∀ c < 48, s.roleRing c = some r.val → (t.role c).fifo = []) ∧
       (∀ m < 16, s.groupRing m = some r.val → (t.grp m).recs = []) ∧
       t = { s with regs := t.regs, rings := t.rings, roles := t.roles, grps := t.grps })) ∧
     (s.hostOpen (Reg.EVR_RING_RD_OFFSET r).addr →
       (moves → ∃ t, exec (.ringRdWrite r off) s = .next t ∧ t.rd (Reg.EVR_RING_RD_OFFSET r) = o ∧ t.rd rdErr = 0 ∧
         (t.ring r).written = x.written ∧ (t.ring r).run = x.run ∧ others t ∧ s.regsBut [Reg.EVR_RING_RD_OFFSET r, rdErr] t ∧
         t = { s with regs := t.regs, rings := t.rings }) ∧
       (¬moves → ∃ t, exec (.ringRdWrite r off) s = .next t ∧ t.rd rdErr = 1 ∧ s.onlyRegs [rdErr] t)))

/-- R273, R283, R286, R287, R289: a source's oldest record reaches its ring when its turn comes. What reaches a running FULL
ring without a gap or an anchor due and with room enough is written as two words at WR, which moves past them; the record is
counted. A stamp, an interval record and an anchor are written so. A record that finds no room counts in DROPPED, and the
first to do so after a write raises RING_FULL. R292, R296, R297: a packet of a streamed ring, whose link is up and whose queue
is free, goes to its transmit queue as one frame: when the next record would not fit, or, on a flush, with what waits. RD moves
past its records, it is counted, and POISON tells of an uncorrectable word in it. -/
def Obligations.records_and_streams : Prop :=
  (∀ (c : Fin 48) (m : Fin 16) (r : Fin 8) (s : State),
     let x := s.ring r
     let wr := s.rd (Reg.EVR_RING_WR_OFFSET r)
     let rd := s.rd (Reg.EVR_RING_RD_OFFSET r)
     let at' := (x.base + wr) / 8
     let dropped := Reg.EVR_RING_DROPPED_COUNT r
     let full := x.run = true ∧ x.compact = false ∧ x.overwrite = false ∧ x.lost = 0
     let takes := full ∧ x.steps = 0 ∧ x.owed = false ∧ s.indexAnchor r = false
     let room := ringUsed x.size rd wr + 32 ≤ x.size ∧ wr + 16 ≤ x.size
     let written := fun (w0 w1 : Word64) (t : State) => t.dramWord at' = w0 ∧ t.dramWord (at' + 1) = w1 ∧
       (∀ i, i ≠ at' → i ≠ at' + 1 → t.dramWord i = s.dramWord i) ∧ (t.ring r).written = x.written + 1 ∧
       t.rd (Reg.EVR_RING_WR_OFFSET r) = (if x.size ≤ wr + 16 then 0 else wr + 16) % 2 ^ (Reg.EVR_RING_WR_OFFSET r).width ∧
       t.rd dropped = s.rd dropped ∧ (∀ q, q ≠ r.val → t.ring q = s.ring q) ∧ t.flt = s.flt ∧ t.eng = s.eng ∧ t.slots = s.slots
     let time := s.ringTime x.ts
     let anchorOf := fun (step : Bool) (t : State) =>
       written (BitVec.ofNat 64 (0x3F * 2 ^ 56 + (x.ts + flagIf step 4) % 256 * 2 ^ 48 + x.written % 65536 * 2 ^ 32 +
         time.2 % 2 ^ 32)) (BitVec.ofNat 64 time.1) t ∧ (t.ring r).anchorWt = time.1 ∧ (t.ring r).steps = 0 ∧
         (t.ring r).owed = false ∧ t.roles = s.roles ∧ t.grps = s.grps
     (∀ st rest, (s.role c).fifo = st :: rest → s.nextSource = some c.val → s.roleRing c = some r.val → takes →
       (s.role c).lostCount = 0 → room → ∃ t, exec (.evrRecordWrite (.role c)) s = .next t ∧
         written (BitVec.ofNat 64 (c.val * 2 ^ 56 + st.flags % 256 * 2 ^ 48 + x.written % 65536 * 2 ^ 32 + st.sec % 2 ^ 32))
           (BitVec.ofNat 64 st.wt) t ∧ (t.role c).fifo = rest ∧ (t.ring r).anchorWt = x.anchorWt ∧ t.grps = s.grps) ∧
     (∀ st rest, (s.role c).fifo = st :: rest → s.nextSource = some c.val → s.roleRing c = some r.val → takes →
       (s.role c).lostCount = 0 → x.size < ringUsed x.size rd wr + 32 → ∃ t, exec (.evrRecordWrite (.role c)) s = .next t ∧
         t.rd dropped = (s.rd dropped + 1) % 2 ^ dropped.width ∧ t.ring r = { x with lost := 1, full := true } ∧
         t.dram = { s.dram with served := c.val } ∧
         (x.full = false → t.flt.inflight = s.flt.inflight ++ [⟨35, r, 0, false⟩]) ∧ (x.full = true → t.flt = s.flt) ∧
         (t.role c).fifo = rest ∧ s.regsBut [dropped] t ∧
         t = { s with regs := t.regs, rings := t.rings, roles := t.roles, flt := t.flt, dram := t.dram }) ∧
     (∀ st rest, (s.role c).fifo = st :: rest → s.nextSource = some c.val →
       s.roleRing c = none ∨ (s.roleRing c = some r.val ∧ x.run = false) → ∃ t, exec (.evrRecordWrite (.role c)) s = .next t ∧
         t.role c = { s.role c with fifo := rest } ∧ (∀ k, k ≠ c.val → t.role k = s.role k) ∧
         t = { s with roles := t.roles, dram := { s.dram with served := c.val } }) ∧
     (s.nextSource ≠ some c.val → exec (.evrRecordWrite (.role c)) s = .next s) ∧
     (s.nextSource ≠ some (48 + m.val) → exec (.evrRecordWrite (.group m)) s = .next s) ∧
     (∀ i rest, (s.grp m).recs = i :: rest → s.nextSource = some (48 + m.val) → s.groupRing m = some r.val → takes →
       tabGet 0 i.pos (s.grp m).posLost = 0 → room → ∃ t, exec (.evrRecordWrite (.group m)) s = .next t ∧
         (t.grp m).recs = rest ∧ t.dramWord (at' + 1) = BitVec.ofNat 64 i.wt ∧ (t.ring r).written = x.written + 1 ∧
         t.dramWord at' = BitVec.ofNat 64 ((0x80 + 8 * m.val + i.pos) % 256 * 2 ^ 56 +
           (i.flags % 128 + flagIf (decide (256 ≤ i.flags)) 128) % 256 * 2 ^ 48 + x.written % 65536 * 2 ^ 32 +
           ofSigned 32 (satInt 32 i.x) % 2 ^ 32) ∧ t.roles = s.roles ∧ t.flt = s.flt ∧ t.eng = s.eng) ∧
     (full → x.steps = 0 → s.indexAnchor r = true → room → ∃ t, exec (.anchorWrite r) s = .next t ∧ (anchorOf x.owedStep) t) ∧
     (full → x.steps = 1 → (x.written + 1) % 2 ^ 20 ≠ 0 → room → ∃ t, exec (.anchorWrite r) s = .next t ∧ (anchorOf true) t) ∧
     (x.run = false ∨ (x.steps = 0 ∧ s.indexAnchor r = false) → exec (.anchorWrite r) s = .next s)) ∧
  (∀ (r : Fin 8) (found : List (BitVec 24 × Ecc)) (s : State),
     let x := s.ring r
     let n := s.rd (Reg.EVR_RING_CFG_PORT r)
     let q := s.rd (Reg.EVR_RING_CFG_QUEUE r)
     let wr := s.rd (Reg.EVR_RING_WR_OFFSET r)
     let room := s.maxLen n - 70
     let m := s.startBefore x (s.rd (Reg.EVR_RING_RD_OFFSET r)) (x.size / 8) (x.mark, x.markIdx)
     let p := s.takeRecords x wr (room / 8) m.1 room
     let bad := p.1.any (fun i => decide (s.dramFinds i (eccFound found i) = .double))
     let clean := ∀ i ∈ p.1, s.dramFinds i (eccFound found i) = .ok
     let pkts := Reg.EVR_RING_PKTS_COUNT r
     let sends := s.rd (Reg.EVR_RING_CFG_STREAM r) ≠ 0 ∧ s.rd (Reg.ETH_STATUS_LINK n) ≠ 0 ∧ (s.txq n q).stream = none ∧ p.1 ≠ []
     let sent := fun (flush : Bool) (t : State) =>
       (t.txq n q).stream = some {
         data := s.streamFrame n r (p.1.map s.dramWord) m.2 p.2.2 bad flush, buffered := true, stream := true } ∧
       t.rd (Reg.EVR_RING_RD_OFFSET r) = p.2.1 % 2 ^ (Reg.EVR_RING_RD_OFFSET r).width ∧ t.rd pkts = (s.rd pkts + 1) % 2 ^ pkts.width ∧
       t.ring r = { x with seq := (x.seq + 1) % 2 ^ 32, mark := p.2.1, markIdx := m.2 + p.2.2 } ∧
       (∀ k, k ≠ r.val → t.ring k = s.ring k) ∧ t.dram.mem = s.dram.mem ∧
       (clean → s.regsBut [Reg.EVR_RING_RD_OFFSET r, pkts] t ∧ t = { s with regs := t.regs, rings := t.rings, ports := t.ports })
     (sends → p.2.1 ≠ wr → ∃ t, exec (.streamPacketSend r found) s = .next t ∧ (sent false) t) ∧
     (sends → ∃ t, exec (.streamFlush r found) s = .next t ∧ (sent true) t) ∧
     (¬sends ∨ p.2.1 = wr → exec (.streamPacketSend r found) s = .next s) ∧
     (¬sends → exec (.streamFlush r found) s = .next s))

/-! ### The Ethernet ports (R302 to R343) -/

/-- R301 to R303, R318, R319, R321: the link of a port. EN is written, and a rise of it reads the port's configuration; locks are
recorded, FEC lock and auto-negotiation where the port uses them; LINK rises with an event once its conditions have stood for
10 ms and clears with one, counted, when a condition fails, and a frame on the line is cut; the recovered clock is gated on
once the locks have stood for 10 ms, and off without them, when its slot loses ACTIVE. -/
def Obligations.port_link : Prop :=
  ∀ (n : Fin 4) (fec : Bool) (why : LinkCause) (s : State),
    let x := s.port n
    let en := Reg.ETH_CTRL_EN n
    let link := Reg.ETH_STATUS_LINK n
    let pcs := if fec then Reg.ETH_STATUS_FEC_LOCK n else Reg.ETH_STATUS_PCS_LOCK n
    let lf := Reg.ETH_STATUS_LOCAL_FAULT n
    let rf := Reg.ETH_STATUS_REMOTE_FAULT n
    let an := Reg.ETH_STATUS_AN_DONE n
    let clk := Reg.ETH_STATUS_RXCLK_OK n
    let downs := Reg.ETH_LINK_DOWN_COUNT n
    let aborts := Reg.ETH_TX_ABORT_COUNT n
    let others := fun (t : State) => ∀ k, k ≠ n.val → t.port k = s.port k
    let falls := fun (t : State) => t.rd link = 0 ∧ t.rd downs = (s.rd downs + 1) % 2 ^ downs.width
    let dropped := fun (t : State) => falls t ∧ (t.port n).grid = none ∧ others t ∧
      t.flt.inflight = s.flt.inflight ++ [⟨36, n, 0, false⟩] ∧
      t = { s with regs := t.regs, flt := t.flt, ports := t.ports, slots := t.slots }
    let cut := fun (l : OnLine) (t : State) => falls t ∧ (t.port n).line = none ∧ (t.port n).sent = l.bytes ∧
      (t.port n).sentEnd = .cut ∧ t.rd aborts = (s.rd aborts + 1) % 2 ^ aborts.width ∧
      (⟨36, n, 0, false⟩ : Notice) ∈ t.flt.inflight
    let gated := fun (t : State) => t.rd clk = 0 ∧ t.slot (16 + n) = { s.slot (16 + n) with active := false } ∧
      ∀ k, k ≠ 16 + n.val → t.slot k = s.slot k
    let off := [en, clk, Reg.ETH_STATUS_PCS_LOCK n, Reg.ETH_STATUS_FEC_LOCK n, an, lf, rf]
    let stops := fun (t : State) => gated t ∧ ∀ f ∈ off, t.rd f = 0
    let runs : State := { s with clk := { s.clk with stopped := maskClr s.clk.stopped (26 + n) } }
    let locks := s.rd en ≠ 0 ∧ runs.portLives n = true ∧ (fec = true → s.fecUsed n = true)
    let negotiates := s.rd en ≠ 0 ∧ s.portLives n = true ∧ x.an = true ∧ s.lineMode n = 0
    let rises := s.locked n = true ∧ s.portLives n = true ∧ (x.an = true → s.lineMode n = 0 → s.rd an ≠ 0) ∧
      5000000 ≤ s.up - x.linkAt ∧ s.rd link = 0
    let fails := (why = .an → x.an = true ∧ s.lineMode n = 0) ∧ (why = .localFault ∨ why = .remoteFault → s.lineMode n ≠ 0)
    let noted := fun (t : State) => (t.port n).linkAt = s.up ∧ (why = .an → t.rd an = 0) ∧
      (why = .localFault → t.rd lf = 1) ∧ (why = .remoteFault → t.rd rf = 1)
    let stays := fec = true ∧ s.rd en ≠ 0 ∧ s.rd (Reg.ETH_STATUS_PCS_LOCK n) ≠ 0 ∧ s.fecUsed n = false
    let gates := s.locked n = true ∧ s.portLives n = true ∧ s.rd (Reg.ETH_SYNCE_RXCLK_EN n) ≠ 0 ∧ x.loop = false ∧
      5000000 ≤ s.up - x.lockAt
    (s.hostOpen en.addr → s.rd en = 0 → ∃ t, exec (.portEnable n) s = .next t ∧ t.rd en = 1 ∧
      t.port n = { x with
        mode := s.rd (Reg.ETH_CTRL_MODE n)
        fec := s.bit (Reg.ETH_CTRL_FEC n)
        an := s.bit (Reg.ETH_CTRL_AN n)
        loop := decide (s.rd (Reg.ETH_CTRL_LPBK n) = 1)
        lockAt := s.up
        linkAt := s.up } ∧
      others t ∧ s.regsBut [en] t ∧ t = { s with regs := t.regs, ports := t.ports }) ∧
    (s.hostOpen en.addr → s.rd en ≠ 0 → exec (.portEnable n) s = .next s) ∧
    (s.hostOpen en.addr → s.rd link = 0 → ∃ t, exec (.portDisable n) s = .next t ∧
      stops t ∧ s.regsBut off t ∧ t = { s with regs := t.regs, slots := t.slots }) ∧
    (s.hostOpen en.addr → s.rd link ≠ 0 → x.line = none → ∃ t, exec (.portDisable n) s = .next t ∧
      stops t ∧ dropped t ∧ s.regsBut ([link, downs] ++ off) t) ∧
    (∀ l, s.hostOpen en.addr → s.rd link ≠ 0 → x.line = some l → ∃ t, exec (.portDisable n) s = .next t ∧ stops t ∧ cut l t) ∧
    (locks → ∃ t, exec (.pcsLockAcquired n fec) s = .next t ∧ t.rd pcs = 1 ∧ t.port n = { x with lockAt := s.up, linkAt := s.up } ∧
      others t ∧ s.regsBut [pcs] t ∧ t = { runs with regs := t.regs, ports := t.ports }) ∧
    (¬locks → exec (.pcsLockAcquired n fec) s = .next runs) ∧
    (negotiates → ∃ t, exec (.anComplete n) s = .next t ∧ t.rd an = 1 ∧ t.port n = { x with linkAt := s.up } ∧ others t ∧
      s.regsBut [an] t ∧ t = { s with regs := t.regs, ports := t.ports }) ∧
    (¬negotiates → exec (.anComplete n) s = .next s) ∧
    (rises → ∃ t, exec (.linkUp n) s = .next t ∧
      t.rd link = 1 ∧ t.rd lf = 0 ∧ t.rd rf = 0 ∧ t.flt.inflight = s.flt.inflight ++ [⟨36, n, 1, false⟩] ∧
      s.regsBut [link, lf, rf] t ∧ t = { s with regs := t.regs, flt := t.flt }) ∧
    (¬rises → exec (.linkUp n) s = .next s) ∧
    (¬fails → exec (.linkDown n why) s = .next s) ∧
    (fails → s.rd link = 0 → ∃ t, exec (.linkDown n why) s = .next t ∧ noted t ∧ others t ∧ s.regsBut [an, lf, rf] t ∧
      t = { s with regs := t.regs, ports := t.ports }) ∧
    (fails → s.rd link ≠ 0 → x.line = none → ∃ t, exec (.linkDown n why) s = .next t ∧
      noted t ∧ dropped t ∧ t.slots = s.slots ∧ s.regsBut [link, downs, an, lf, rf] t) ∧
    (∀ l, fails → s.rd link ≠ 0 → x.line = some l → ∃ t, exec (.linkDown n why) s = .next t ∧ noted t ∧ cut l t) ∧
    (stays → ∃ t, exec (.pcsLockLoss n fec) s = .next t ∧ t.rd pcs = 0 ∧ s.onlyRegs [pcs] t) ∧
    (¬stays → s.rd link = 0 → ∃ t, exec (.pcsLockLoss n fec) s = .next t ∧
      t.rd pcs = 0 ∧ gated t ∧ s.regsBut [pcs, clk] t ∧ t = { s with regs := t.regs, slots := t.slots }) ∧
    (¬stays → s.rd link ≠ 0 → x.line = none → ∃ t, exec (.pcsLockLoss n fec) s = .next t ∧
      t.rd pcs = 0 ∧ gated t ∧ dropped t ∧ s.regsBut [link, downs, pcs, clk] t) ∧
    (∀ l, ¬stays → s.rd link ≠ 0 → x.line = some l → ∃ t, exec (.pcsLockLoss n fec) s = .next t ∧ t.rd pcs = 0 ∧ gated t ∧ cut l t) ∧
    (gates → ∃ t, exec (.rxclkGateOn n) s = .next t ∧ t.rd clk = 1 ∧ s.onlyRegs [clk] t) ∧
    (¬gates → exec (.rxclkGateOn n) s = .next s)

/-- R304 to R308, R313, R321: a received frame of a port whose link is up. One below 18 bytes counts as a fragment, one that
is damaged, too short or too long in each counter that matches it, a MAC control frame as such, one that is filtered as
filtered, one for a queue that cannot take it as NOBUF; one that is accepted waits in its queue, or goes into the queue's next
descriptor with an event. The wake detector of E0 takes a frame that matches, and WAKE_CLR clears its match. -/
def Obligations.receive : Prop :=
  ∀ (n : Fin 4) (f : RxIn) (s : State),
    let b := f.bytes
    let len := b.length
    let rule := (List.range 8).find? (fun k => s.ruleMatches n k b)
    let q := (rule.map (fun k => s.rd (Reg.ETH_CLASS_QUEUE n k))).getD 0
    let head := Reg.ETH_RXQ_PTR_HEAD n q
    let pins := (s.port n).loop = false ∧ s.rd (Reg.ETH_STATUS_LINK n) ≠ 0
    let hit := s.rd (Reg.ETH_WAKE_CFG_EN 0) ≠ 0 ∧ s.lineMode 0 ≠ 2 ∧ rxDamaged f = false ∧ etherType b = 0x88B5 ∧
      ∀ i < 128, maskBit (s.rd (Reg.ETH_WAKE_MASK_MASK 0 (i / 32))) (i % 32) = true →
        i < len ∧ byteAt b i = s.rd (Reg.ETH_WAKE_PAT_BYTES 0 (i / 4)) / 2 ^ (8 * (i % 4)) % 256
    let wakes := n.val = 0 ∧ hit
    let arrives := pins ∧ s.portLives n = true ∧ ¬wakes
    let runt := len < 64
    let big := s.frameLimit n (isTagged b) < len
    let bad := rxDamaged f = true
    let wrong := runt ∨ big ∨ bad
    let control := beRead b 12 2 = 0x8808
    let good := arrives ∧ 18 ≤ len ∧ ¬wrong ∧ ¬control
    let accepted := good ∧ s.accepts n b = true ∧ s.authCheck n (b.take (len - 4)) < 2
    let fits := s.rd (Reg.ETH_RXQ_CFG_EN n q) ≠ 0 ∧ s.rxCfgErr n q = false ∧
      s.rxHeld n q + len ≤ s.rd (Reg.ETH_RXQ_CFG_QUOTA n q) * 4096
    let pcs := [Reg.ETH_PCS_ERR_COUNT n, Reg.ETH_FEC_CORR_COUNT n, Reg.ETH_FEC_UNCORR_COUNT n]
    let up := fun (c : Fld) (t : State) => t.rd c = (s.rd c + 1) % 2 ^ c.width
    let pcsUp := fun (t : State) =>
      t.rd (Reg.ETH_PCS_ERR_COUNT n) = (s.rd (Reg.ETH_PCS_ERR_COUNT n) + f.codeErrs) % 2 ^ (Reg.ETH_PCS_ERR_COUNT n).width
    let errs := [Reg.ETH_RX_RUNT_COUNT n, Reg.ETH_RX_OVERSIZE_COUNT n, Reg.ETH_RX_FCS_ERR_COUNT n]
    let errUp := fun (t : State) => (runt → up (Reg.ETH_RX_RUNT_COUNT n) t) ∧ (big → up (Reg.ETH_RX_OVERSIZE_COUNT n) t) ∧
      (bad → up (Reg.ETH_RX_FCS_ERR_COUNT n) t)
    let counts := fun (c : Fld) (t : State) => up c t ∧ pcsUp t ∧ s.onlyRegs (c :: pcs) t
    (¬pins → exec (.rxFrame n f) s = .next s) ∧
    (pins → s.portLives n = false → ¬wakes → exec (.rxFrame n f) s = .next s) ∧
    (pins → s.portLives n = false → wakes → ∃ t, exec (.rxFrame n f) s = .next t ∧
      t.rd (Reg.ETH_WAKE_STATUS_MATCH 0) = 1 ∧ up (Reg.ETH_WAKE_STATUS_COUNT 0) t ∧ t.present 102 noInst ∧
      s.regsBut [Reg.ETH_WAKE_STATUS_MATCH 0, Reg.ETH_WAKE_STATUS_COUNT 0] t ∧ t = { s with regs := t.regs, flt := t.flt }) ∧
    (arrives → len < 18 → ∃ t, exec (.rxFrame n f) s = .next t ∧ up (Reg.ETH_RX_FRAG_COUNT n) t ∧ pcsUp t ∧
      (bad → up (Reg.ETH_RX_FCS_ERR_COUNT n) t) ∧
      s.onlyRegs (Reg.ETH_RX_FRAG_COUNT n :: (if bad then [Reg.ETH_RX_FCS_ERR_COUNT n] else []) ++ pcs) t) ∧
    (arrives → 18 ≤ len → control → ∃ t, exec (.rxFrame n f) s = .next t ∧ up (Reg.ETH_RX_MACCTL_COUNT n) t ∧ pcsUp t ∧ errUp t ∧
      s.onlyRegs (Reg.ETH_RX_MACCTL_COUNT n :: errs ++ pcs) t) ∧
    (arrives → 18 ≤ len → wrong → ¬control → s.accepts n b = true → s.rd (Reg.ETH_RX_ERR_DELIVER n) = 0 →
      ∃ t, exec (.rxFrame n f) s = .next t ∧ pcsUp t ∧ errUp t ∧ s.onlyRegs (errs ++ pcs) t) ∧
    (good → s.accepts n b = false → ∃ t, exec (.rxFrame n f) s = .next t ∧ (counts (Reg.ETH_RX_FILTERED_COUNT n)) t) ∧
    (accepted → ¬fits → ∃ t, exec (.rxFrame n f) s = .next t ∧ (counts (Reg.ETH_RX_NOBUF_COUNT n)) t) ∧
    (accepted → fits → (s.rxq n q).wait = [] → s.rd head = s.rd (Reg.ETH_RXQ_PTR_TAIL n q) → ∃ t, exec (.rxFrame n f) s = .next t ∧
      (∃ d, (t.rxq n q).wait = [⟨b, d, len⟩] ∧ d.take 2 = leBytes 2 len) ∧ (t.rxq n q).bufs = (s.rxq n q).bufs ∧
      s.regsBut pcs t ∧ (∀ k, k ≠ n.val → t.port k = s.port k) ∧ t = { s with regs := t.regs, ports := t.ports }) ∧
    (accepted → fits → (s.rxq n q).wait = [] → s.rd head ≠ s.rd (Reg.ETH_RXQ_PTR_TAIL n q) → (s.rxq n q).lesson = false →
      s.busMaster = true → ∃ t, exec (.rxFrame n f) s = .next t ∧
        (t.rxq n q).wait = [] ∧ (t.rxq n q).bufs = (s.rxq n q).bufs.drop 1 ∧
        t.rd head = (s.rd head + 1) % 2 ^ s.rd (Reg.ETH_RXQ_CFG_SIZE_LOG n q) % 2 ^ head.width ∧
        t.flt.inflight = s.flt.inflight ++ [⟨101, n, q, false⟩] ∧ up (Reg.ETH_RX_FRAMES_COUNT n) t ∧
        (∃ d, d.take 2 = leBytes 2 len ∧ t.hostMem = (ownerWrite false (s.rxDescAt n q (s.rd head) + 8) d
          (ownerWrite false ((s.rxq n q).bufs.headD 0) (b.take (2 ^ s.rd (Reg.ETH_RXQ_CFG_BUF_LOG n q))) s)).hostMem) ∧
        t = { s with regs := t.regs, ports := t.ports, flt := t.flt, hostMem := t.hostMem }) ∧
    (s.hostOpen (Reg.ETH_WAKE_CFG_CLR 0).addr → ∃ t, exec .wakeClr s = .next t ∧
      t.rd (Reg.ETH_WAKE_STATUS_MATCH 0) = 0 ∧ ¬t.present 102 noInst ∧ s.regsBut [Reg.ETH_WAKE_STATUS_MATCH 0] t ∧
      t = { s with regs := t.regs, flt := t.flt })

/-- R309, R310, R312, R313, R325: the queues. EN zeroes HEAD and TAIL and fixes the owner, or stops the queue; a write of
TAIL within the ring is taken, beyond it shows PTR_ERR, and on a LESSON queue it is discarded. -/
def Obligations.queue_commands : Prop :=
  ∀ (n : Fin 4) (i : Fin 8) (j : Fin 4) (tail : BitVec 12) (bufs : List (BitVec 64)) (s : State),
    let a := queueAddr n (.tx i)
    let b := queueAddr n (.rx j)
    let errs := [Reg.ETH_RXQ_CFG_CFG_ERR n 0, Reg.ETH_RXQ_CFG_CFG_ERR n 1, Reg.ETH_RXQ_CFG_CFG_ERR n 2, Reg.ETH_RXQ_CFG_CFG_ERR n 3]
    let txHead := Reg.ETH_TXQ_PTR_HEAD n i
    let txTail := Reg.ETH_TXQ_PTR_TAIL n i
    let rxHead := Reg.ETH_RXQ_PTR_HEAD n j
    let rxTail := Reg.ETH_RXQ_PTR_TAIL n j
    let ptrErr := Reg.ETH_TXQ_PTR_PTR_ERR n i
    let rxErr := Reg.ETH_RXQ_PTR_PTR_ERR n j
    let moves := fun (t : State) => (∀ k, k ≠ n.val → t.port k = s.port k) ∧ t = { s with regs := t.regs, ports := t.ports }
    (s.hostOpen a → s.rd (Reg.ETH_TXQ_CFG_EN n i) = 0 → ∃ t, exec (.queueEnable n (.tx i)) s = .next t ∧
      t.rd (Reg.ETH_TXQ_CFG_EN n i) = 1 ∧ t.rd txHead = 0 ∧ t.rd txTail = 0 ∧
      t.txq n i = { lesson := s.bit (Reg.ETH_TXQ_CFG_OWNER n i) } ∧ (∀ k, k ≠ i.val → t.txq n k = s.txq n k) ∧
      s.regsBut [Reg.ETH_TXQ_CFG_EN n i, txHead, txTail] t ∧ moves t) ∧
    (s.hostOpen a → s.rd (Reg.ETH_TXQ_CFG_EN n i) ≠ 0 → exec (.queueEnable n (.tx i)) s = .next s) ∧
    (s.hostOpen b → s.rd (Reg.ETH_RXQ_CFG_EN n j) = 0 → ∃ t, exec (.queueEnable n (.rx j)) s = .next t ∧
      t.rd (Reg.ETH_RXQ_CFG_EN n j) = 1 ∧ t.rd rxHead = 0 ∧ t.rd rxTail = 0 ∧
      t.rxq n j = { lesson := s.bit (Reg.ETH_RXQ_CFG_OWNER n j) } ∧ (∀ k, k ≠ j.val → t.rxq n k = s.rxq n k) ∧
      (t.rd (Reg.ETH_RXQ_CFG_CFG_ERR n j) = 1 ↔ 2 ^ s.rd (Reg.ETH_RXQ_CFG_BUF_LOG n j) < s.frameLimit n true) ∧
      s.regsBut ([Reg.ETH_RXQ_CFG_EN n j, rxHead, rxTail] ++ errs) t ∧ moves t) ∧
    (s.hostOpen b → s.rd (Reg.ETH_RXQ_CFG_EN n j) ≠ 0 → exec (.queueEnable n (.rx j)) s = .next s) ∧
    (s.hostOpen a → ∃ t, exec (.queueDisable n (.tx i)) s = .next t ∧ t.rd (Reg.ETH_TXQ_CFG_EN n i) = 0 ∧
      t.txq n i = { s.txq n i with head := .none } ∧ t.rd txHead = s.rd txHead ∧
      s.regsBut [Reg.ETH_TXQ_CFG_EN n i] t ∧ moves t) ∧
    (s.hostOpen b → ∃ t, exec (.queueDisable n (.rx j)) s = .next t ∧ t.rd (Reg.ETH_RXQ_CFG_EN n j) = 0 ∧
      s.onlyRegs [Reg.ETH_RXQ_CFG_EN n j] t) ∧
    (s.hostOpen (a + 0xC) → (s.txq n i).lesson = false → ∃ t, exec (.tailWrite n (.tx i) tail bufs) s = .next t ∧
      (tail.toNat < 2 ^ s.rd (Reg.ETH_TXQ_CFG_SIZE_LOG n i) → t.rd txTail = tail.toNat ∧ t.rd ptrErr = 0) ∧
      (2 ^ s.rd (Reg.ETH_TXQ_CFG_SIZE_LOG n i) ≤ tail.toNat → t.rd txTail = s.rd txTail ∧ t.rd ptrErr = 1) ∧
      s.onlyRegs [txTail, ptrErr] t) ∧
    (s.hostOpen (a + 0xC) → (s.txq n i).lesson = true → exec (.tailWrite n (.tx i) tail bufs) s = .next s) ∧
    (s.hostOpen (b + 0xC) → (s.rxq n j).lesson = true → exec (.tailWrite n (.rx j) tail bufs) s = .next s) ∧
    (s.hostOpen (b + 0xC) → (s.rxq n j).lesson = false → (s.rxq n j).wait = [] → ∃ t, exec (.tailWrite n (.rx j) tail bufs) s = .next t ∧
      (tail.toNat < 2 ^ s.rd (Reg.ETH_RXQ_CFG_SIZE_LOG n j) → t.rd rxTail = tail.toNat ∧ t.rd rxErr = 0) ∧
      (2 ^ s.rd (Reg.ETH_RXQ_CFG_SIZE_LOG n j) ≤ tail.toNat → t.rd rxTail = s.rd rxTail ∧ t.rd rxErr = 1 ∧ t.ports = s.ports) ∧
      s.regsBut [rxTail, rxErr] t ∧ moves t)

/-- R309 to R318, R328, R335, R341: sending of a host queue. A descriptor is refused with its status or becomes the head;
the head is fetched, or a read fails, and it reaches its launch time; at a start boundary a queue that a trigger released, or
the highest queue that may start, puts its frame on the line with its stamp, or drops it as late; the frame leaves whole, or
underruns, or ends as a read fails, and its descriptor completes with an event. -/
def Obligations.transmit : Prop :=
  ∀ (n : Fin 4) (q : Fin 8) (d : TxDesc) (time : Int) (got : Nat) (s : State),
    let x := s.txq n q
    let head := Reg.ETH_TXQ_PTR_HEAD n q
    let rejects := Reg.ETH_TX_REJECT_COUNT n
    let up := fun (f : Fld) (t : State) => t.rd f = (s.rd f + 1) % 2 ^ f.width
    let next := (s.rd head + 1) % 2 ^ s.rd (Reg.ETH_TXQ_CFG_SIZE_LOG n q) % 2 ^ head.width
    let len := leRead d.desc 8 2
    let flags := byteAt d.desc 10
    let data := d.data.take len ++ List.replicate (max 60 len - (d.data.take len).length) 0
    let form := len ≠ 0 ∧ flags < 8 ∧ byteAt d.desc 11 = 0 ∧ byteAt d.desc 15 = 0 ∧ leRead d.desc 24 8 = 0
    let short := data.length + 4 ≤ s.frameLimit n (isTagged data)
    let stopped := s.gated n = true ∧ isTimeMessage data = true
    let checks := s.txqRuns n q = true ∧ x.head = none
    let others := fun (t : State) => (∀ k, k ≠ q.val → t.txq n k = s.txq n k) ∧ (∀ k, k ≠ n.val → t.port k = s.port k)
    let status := s.txDescAt n q (s.rd head) + 14
    let closed := fun (st : Nat) (t : State) => t.rd head = next ∧ (t.txq n q).head = none ∧ others t ∧
      (s.busMaster = true → tabGet 0 status t.hostMem = BitVec.ofNat 8 st) ∧ (s.busMaster = false → t.hostMem = s.hostMem) ∧
      (∀ a, a ≠ status → tabGet 0 a t.hostMem = tabGet 0 a s.hostMem) ∧
      t = { s with regs := t.regs, ports := t.ports, flt := t.flt, hostMem := t.hostMem }
    let done : Notice := ⟨100, n, q, false⟩
    let refused := fun (st : Nat) (t : State) => closed st t ∧ up rejects t ∧ t.flt.inflight = s.flt.inflight ++ [done]
    let fetches := s.txqRuns n q = true ∧ s.sending n q = false
    let need := fun (h : TxHead) => if s.storeForward n h then h.data.length
      else min (max 1 (s.rd (Reg.ETH_TX_THRESH_UNITS n)) * 64) h.data.length
    let due := fun (at' : Nat) => 0 ≤ 25 * sdiff (s.portWt n (s.tb * 64)) at' + 8 * s.byteTime n
    let ready := (s.port n).line = none ∧ s.rd (Reg.ETH_STATUS_LINK n) ≠ 0 ∧ s.portLives n = true ∧ s.atBoundary n time = true ∧
      s.parityIn (0x34000 + 0x400 * n) 0x280 = false ∧ s.parityIn (0x38000 + 0x100 * n) 0x70 = false
    let released := (s.port n).releases.find? (fun k => (s.offer n k).any (fun h => h.buffered))
    let best := ((List.range 8).reverse).find? (fun k => s.mayStart n k time)
    let bit := time + roundDiv (8 * s.byteTime n) 25
    let late := fun (h : TxHead) => h.launch.any (fun tg =>
      decide ((s.rd (Reg.ETH_TXQ_CFG_LATE_TOL n q) * 65536 : Nat) < sdiff (s.portWt n bit) tg))
    let drops := fun (h : TxHead) => late h = true ∧ s.rd (Reg.ETH_TXQ_CFG_LATE_DROP n q) ≠ 0
    let stamp := s.portStamp n bit (s.rdi (Reg.PTP_TX_ADJ_VALUE n))
    let starts := fun (h : TxHead) (t : State) =>
      let out := s.outgoing n h stamp
      let skips := h.oneStep = true ∧ out.2 = false
      (t.port n).line = some ⟨q, h, out.1, stamp, s.portCoarse, late h, out.2⟩ ∧
      (t.port n).prev = some (time, 8 + out.1.length + 4 + 12) ∧ (t.port n).tx = (s.port n).tx ∧
      (∀ k, k ≠ n.val → t.port k = s.port k) ∧ (skips → up (Reg.PTP_ONE_STEP_SKIP_COUNT n) t) ∧
      (late h = true → up (Reg.ETH_TX_LATE_COUNT n) t) ∧
      s.regsBut ((if skips then [Reg.PTP_ONE_STEP_SKIP_COUNT n] else []) ++ if late h then [Reg.ETH_TX_LATE_COUNT n] else []) t ∧
      t = { s with regs := t.regs, ports := t.ports }
    let underruns := Reg.ETH_TX_UNDERRUN_COUNT n
    let units := Reg.ETH_TX_THRESH_UNITS n
    let aborts := Reg.ETH_TX_ABORT_COUNT n
    (¬checks → exec (.txDescriptorCheck n q d) s = .next s) ∧
    (checks → x.lesson = false → form → short → ¬stopped → ∃ t, exec (.txDescriptorCheck n q d) s = .next t ∧
      (t.txq n q).head = some {
        data := data
        id := leRead d.desc 12 2
        stamp := flags.testBit 1
        oneStep := flags.testBit 2
        launch := if flags.testBit 0 then .some (leRead d.desc 16 8) else .none } ∧ others t ∧ t = { s with ports := t.ports }) ∧
    (checks → x.lesson = false → ¬form → ∃ t, exec (.txDescriptorCheck n q d) s = .next t ∧
      refused 3 t ∧ s.regsBut [head, rejects] t) ∧
    (checks → x.lesson = false → form → ¬short → ∃ t, exec (.txDescriptorCheck n q d) s = .next t ∧
      refused 2 t ∧ s.regsBut [head, rejects] t) ∧
    (checks → x.lesson = false → form → short → stopped → ∃ t, exec (.txDescriptorCheck n q d) s = .next t ∧
      refused 3 t ∧ up (Reg.PTP_PASSIVE_DROP_COUNT n) t ∧ s.regsBut [head, rejects, Reg.PTP_PASSIVE_DROP_COUNT n] t) ∧
    (¬fetches ∨ x.head = none → exec (.txFetchComplete n q (some got)) s = .next s) ∧
    (∀ h, fetches → x.head = some h → need h ≤ got → ∃ t, exec (.txFetchComplete n q (some got)) s = .next t ∧
      t.txq n q = { x with head := some { h with buffered := true } } ∧ others t ∧ t = { s with ports := t.ports }) ∧
    (∀ h, fetches → x.head = some h → got < need h → exec (.txFetchComplete n q (some got)) s = .next s) ∧
    (fetches → x.lesson = false → ∃ t, exec (.txFetchComplete n q none) s = .next t ∧ refused 7 t ∧ s.regsBut [head, rejects] t) ∧
    (¬fetches → exec (.txFetchComplete n q none) s = .next s) ∧
    (∀ h at', x.head = some h → h.launch = some at' → s.portLives n = true → due at' → ∃ t, exec (.launchEligible n q) s = .next t ∧
      t.txq n q = { x with head := some { h with eligible := true } } ∧ others t ∧ t = { s with ports := t.ports }) ∧
    (s.portLives n = false ∨ x.head = none ∨ (∃ h, x.head = some h ∧ ∀ at', h.launch = some at' → ¬due at') →
      exec (.launchEligible n q) s = .next s) ∧
    (∀ h, ready → released = none → best = some q.val → s.offer n q = some h → h.stream = false → ¬drops h →
      ∃ t, exec (.txFrameStart n time) s = .next t ∧ starts h t ∧ (t.port n).releases = (s.port n).releases) ∧
    (∀ h, ready → released = some q.val → s.offer n q = some h → h.stream = false → ¬drops h →
      ∃ t, exec (.txFrameStart n time) s = .next t ∧ starts h t ∧ (t.port n).releases = (s.port n).releases.erase q) ∧
    (∀ h, ready → released = none → best = some q.val → s.offer n q = some h → x.lesson = false → drops h →
      ∃ t, exec (.txFrameStart n time) s = .next t ∧ closed 5 t ∧ up (Reg.ETH_TX_LATE_COUNT n) t ∧ (t.port n).line = none ∧
        t.flt.inflight = s.flt.inflight ++ [done] ∧ s.regsBut [head, Reg.ETH_TX_LATE_COUNT n] t) ∧
    (¬ready ∨ (released = none ∧ best = none) → exec (.txFrameStart n time) s = .next s) ∧
    ((s.port n).line = none ∨ s.portLives n = false → exec (.txFrameDone n) s = .next s ∧ exec (.txUnderrun n false) s = .next s ∧
      exec (.txUnderrun n true) s = .next s) ∧
    (∀ l, (s.port n).line = some l → s.portLives n = true → (s.port n).loop = true → ∃ t, exec (.txFrameDone n) s = .next t ∧
      (t.port n).line = none ∧ (t.port n).sent = l.bytes) ∧
    (∀ l, (s.port n).line = some l → s.portLives n = true → (s.port n).loop = false → ∃ t, exec (.txFrameDone n) s = .next t ∧
      (t.port n).line = none ∧ (t.port n).sent = l.bytes ∧ (t.port n).sentEnd = .good ∧ up (Reg.ETH_TX_FRAMES_COUNT n) t ∧
      (l.q = q.val → l.head.stamp = false → l.head.stream = false → x.lesson = false → closed (if l.late then 4 else 1) t ∧
        t.flt.inflight = s.flt.inflight ++ [done] ∧
        s.regsBut [head, Reg.ETH_TX_FRAMES_COUNT n, Reg.ETH_TX_BYTES_LO_COUNT n, Reg.ETH_TX_BYTES_HI_COUNT n,
          Reg.PTP_ONE_STEP_COUNT n] t)) ∧
    (∀ l, (s.port n).line = some l → s.storeForward n l.head = true → exec (.txUnderrun n false) s = .next s) ∧
    (∀ l, (s.port n).line = some l → s.portLives n = true → s.storeForward n l.head = false → ∃ t, exec (.txUnderrun n false) s = .next t ∧
      (t.port n).line = none ∧ (t.port n).sentEnd = .inverted ∧ up underruns t ∧
      t.rd units = min 255 (max 1 (s.rd units) + 1) % 2 ^ units.width ∧ (⟨37, n, l.q, false⟩ : Notice) ∈ t.flt.inflight ∧
      (l.q = q.val → l.head.stamp = false → l.head.stream = false → x.lesson = false → closed 6 t ∧
        t.flt.inflight = s.flt.inflight ++ [done, ⟨37, n, q, false⟩] ∧ s.regsBut [head, underruns, units] t)) ∧
    (∀ l, (s.port n).line = some l → s.portLives n = true → s.storeForward n l.head = false → ∃ t, exec (.txUnderrun n true) s = .next t ∧
      (t.port n).line = none ∧ (t.port n).sentEnd = .inverted ∧ up aborts t ∧
      (l.q = q.val → l.head.stamp = false → l.head.stream = false → x.lesson = false → closed 7 t ∧
        t.flt.inflight = s.flt.inflight ++ [done] ∧ s.regsBut [head, aborts] t))

/-- R320, R340: the SyncE transmit rate moves toward its word by at most 10 ppm; the stamp queue. A read of TXTS_ID takes the
oldest entry into the registers, or clears VALID; a write that moves the queue discards its entries, which count as lost. -/
def Obligations.port_stamps : Prop :=
  ∀ (n : Fin 4) (data : BitVec 32) (s : State),
    let x := s.port n
    let v := data.toNat
    let valid := Reg.PTP_TXTS_ID_VALID n
    let ovf := Reg.PTP_TXTS_OVF_COUNT n
    let others := fun (t : State) => ∀ k, k ≠ n.val → t.port k = s.port k
    let emptied := fun (t : State) => (t.port n).txts = [] ∧ (t.port n).pend = x.pend + s.txtsLevel n ∧ (t.port n).wr = 0 ∧
      (t.port n).rd = 0 ∧ t.rd ovf = (s.rd ovf + s.txtsLevel n) % 2 ^ ovf.width
    let cfg := [Reg.PTP_CFG_RX_STAMP n, Reg.PTP_CFG_TS n, Reg.PTP_CFG_FORCE_PASSIVE n, Reg.PTP_CFG_TXTS_DEST n, Reg.PTP_CFG_AUTH_EN n]
    (∃ t, exec (.synceTxRateUpdate n) s = .next t ∧
      (let rate := x.rate + max (-720575940379) (min 720575940379 (s.synceTarget n - x.rate))
      t.port n = { x with rate := rate, grid := if rate = 0 then x.grid else none } ∧ others t ∧
      t = { s with ports := t.ports })) ∧
    (s.hostReads valid.addr → x.txts = [] → ∃ t, exec (.txtsIdRead n) s = .next t ∧ t.rd valid = 0 ∧ s.regsBut [valid] t ∧
      t = { s with regs := t.regs, hostRead := t.hostRead }) ∧
    (s.hostReads valid.addr → ∀ e rest, x.txts = e :: rest → ∃ t, exec (.txtsIdRead n) s = .next t ∧
      t.rd valid = 1 ∧ t.rd (Reg.PTP_TXTS_ID_ID n) = e.id % 2 ^ (Reg.PTP_TXTS_ID_ID n).width ∧
      t.rd (Reg.PTP_TXTS_NS_NS n) = e.stamp / 65536 % 10 ^ 9 ∧ t.rd (Reg.PTP_TXTS_FRAC_FRAC n) = e.stamp % 65536 ∧
      t.rd (Reg.PTP_TXTS_S_LO_S n) = e.stamp / 65536 / 10 ^ 9 % 2 ^ 32 ∧ t.port n = { x with txts := rest } ∧ others t ∧
      s.regsBut [valid, Reg.PTP_TXTS_ID_GAP n, Reg.PTP_TXTS_ID_ABORTED n, Reg.PTP_TXTS_ID_COARSE n, Reg.PTP_TXTS_ID_LOST n,
        Reg.PTP_TXTS_ID_ID n, Reg.PTP_TXTS_S_LO_S n, Reg.PTP_TXTS_S_HI_S n, Reg.PTP_TXTS_NS_NS n, Reg.PTP_TXTS_FRAC_FRAC n] t ∧
      t = { s with regs := t.regs, ports := t.ports, hostRead := t.hostRead }) ∧
    (s.hostOpen (Reg.PTP_TXTS_BASE_ADDR n).addr → ∃ t, exec (.txtsDestWrite n true data) s = .next t ∧
      emptied t ∧ t.rd (Reg.PTP_TXTS_BASE_ADDR n) = v / 1024 % 2 ^ (Reg.PTP_TXTS_BASE_ADDR n).width ∧ others t ∧
      s.regsBut [ovf, Reg.PTP_TXTS_BASE_ADDR n] t ∧ t = { s with regs := t.regs, ports := t.ports }) ∧
    (s.hostOpen (Reg.PTP_CFG_TS n).addr → ∃ t, exec (.txtsDestWrite n false data) s = .next t ∧
      (∀ f ∈ cfg, t.rd f = v / 2 ^ f.lo % 2 ^ f.width) ∧ (v / 2 ^ 27 % 2 ≠ s.rd (Reg.PTP_CFG_TXTS_DEST n) → emptied t) ∧
      (v / 2 ^ 27 % 2 = s.rd (Reg.PTP_CFG_TXTS_DEST n) → t.ports = s.ports) ∧ others t ∧ s.regsBut (ovf :: cfg) t ∧
      t = { s with regs := t.regs, ports := t.ports })

/-! ### The Standard Syllabus (R127 to R189, R242 to R245, R345 to R351) -/

/-- R140 to R142: the command port of roll call. A command with a new SEQ is answered with its RESULT and the setting as it
then stands: a valid one takes effect, one that names no path or no slot, or with a value out of range, does not. One whose SEQ
the lesson has processed, or that no lesson reads, stands in the host-in word and has no other effect. -/
def Obligations.roll_call_port : Prop :=
  ∀ (c : CmdWord) (s : State),
    let p := c.path.toNat
    let n := c.slot.toNat
    let v := c.value.toNat
    let x := s.sylPath p
    let rows := [(1, Instr.setRank c), (2, .setMode c), (3, .setPolicy c), (4, .setPrepLimit c), (5, .setConcord c)]
    (¬s.serves 10 c → ∀ r ∈ (15, Instr.rollCallGet c) :: rows, ∃ t, exec r.2 s = .next t ∧
      s.posted 10 r.1 c t ∧ t = { s with regs := t.regs, words := t.words }) ∧
    (s.serves 10 c →
      (p ≤ 7 → n ≤ 23 → v ≤ 15 → (v = 0 ∨ s.homeElsewhere p n = false) → ∃ t, exec (.setRank c) s = .next t ∧ (s.answered 10 1 c 0 v (s.putSylPath p { x with pol := { x.pol with rank := tabSet 0 n v x.pol.rank } }).syl) t) ∧
      (p ≤ 7 → n ≤ 23 → (v % 4 ≠ 2 ∨ s.homeElsewhere p n = false) → v ≤ 31 → v % 4 ≠ 3 → v / 4 % 4 = 0 → ∃ t, exec (.setMode c) s = .next t ∧ (s.answered 10 2 c 0 v (s.putSylPath p { x with
          away := false
          pol := { x.pol with mode := v % 4, manual := n, manRet := v.testBit 4 } }).syl) t) ∧
      (p ≤ 7 → n = 0 → v / 16 % 8 ≠ 0 → v / 4 % 4 = 0 → v / 128 % 512 = 0 → v / 65536 ≠ 0 → ∃ t, exec (.setPolicy c) s = .next t ∧ (s.answered 10 3 c 0 v (s.putSylPath p { x with
          pol := { x.pol with revert := v.testBit 0, realign := v.testBit 1, minGrade := v / 16 % 8, settle := v / 65536 } }).syl) t) ∧
      (p ≤ 7 → n = 0 → v ≠ 0 → v ≤ 65535 → ∃ t, exec (.setPrepLimit c) s = .next t ∧ (s.answered 10 4 c 0 v (s.putSylPath p { x with pol := { x.pol with prepLimit := v } }).syl) t) ∧
      (p = 0 → n ≤ 23 → v ≠ 0 → v < 2 ^ 24 → ∃ t, exec (.setConcord c) s = .next t ∧ (s.answered 10 5 c 0 v (s.putSylSlot n { s.sylSlot n with concord := v }).syl) t) ∧
      (p ≤ 7 → n ≤ 23 → v ≠ 0 → v ≤ 5 → ∃ t, exec (.rollCallGet c) s = .next t ∧ (s.answered 10 15 c 0 (s.rollSetting v p n) s.syl) t) ∧
      (∀ r ∈ rows,
        (7 < p → ∃ t, exec r.2 s = .next t ∧ (s.answered 10 r.1 c 2 (s.rollSetting r.1 p n) s.syl) t) ∧
        (p ≤ 7 → 23 < n → ∃ t, exec r.2 s = .next t ∧ (s.answered 10 r.1 c 3 (s.rollSetting r.1 p n) s.syl) t)) ∧
      (p ≤ 7 → n ≤ 23 → 15 < v → (v % 16 = 0 ∨ s.homeElsewhere p n = false) → ∃ t, exec (.setRank c) s = .next t ∧ (s.answered 10 1 c 4 (s.rankOf p n) s.syl) t))

/-- R174, R175, R217: the command ports of the paths. The port of paths 2g and 2g + 1 sets the bandwidth, the damping, the
phase-slope limit, the frequency clamp (which clamps the word of a path outside holdover), the lock window and time, the
rollback window and the zero-delay input, and answers a setting. -/
def Obligations.path_ports : Prop :=
  ∀ (g : Fin 4) (c : CmdWord) (s : State),
    let e := 6 + g.val
    let p := c.path.toNat
    let v := c.value.toNat
    let x := s.sylPath p
    let rows := [(0x10, Instr.setBw g c), (0x11, .setDamp g c), (0x12, .setPsl g c), (0x13, .setFclamp g c), (0x14, .setLock g c),
      (0x15, .setRollback g c), (0x16, .setZd g c), (0x1F, .pathGet g c)]
    let sets := fun (op : Nat) (row : Instr) (l : LoopCfg) => (∃ t, exec row s = .next t ∧ (s.answered e op c 0 v (s.putSylPath p { x with loop := l }).syl) t)
    (¬s.serves e c → ∀ r ∈ rows, ∃ t, exec r.2 s = .next t ∧
      s.posted e r.1 c t ∧ t = { s with regs := t.regs, words := t.words }) ∧
    (s.serves e c →
      (p / 2 = g.val → c.slot = 0 →
        (1 ≤ v → v ≤ 40000000 → sets 0x10 (.setBw g c) { x.loop with fn := v }) ∧
        (64 ≤ v → v ≤ 1024 → sets 0x11 (.setDamp g c) { x.loop with damp := v }) ∧
        (1 ≤ v → v ≤ 5000000 → sets 0x12 (.setPsl g c) { x.loop with psl := v }) ∧
        (1 ≤ v → v ≤ 500000 → ∃ t, exec (.setFclamp g c) s = .next t ∧
          (let l := { x.loop with fclamp := v }
          s.answered e 0x13 c 0 v (s.putSylPath p (t.sylPath p)).syl t ∧ (t.sylPath p).loop = l ∧
          (t.sylPath p).y = (if x.st = 3 then x.y else max (-l.fclampLsb) (min l.fclampLsb x.y)) ∧
          (t.sylPath p).cur = x.cur ∧ (t.sylPath p).st = x.st ∧ (t.sylPath p).b = x.b)) ∧
        (1 ≤ v % 65536 → 1 ≤ v / 65536 → sets 0x14 (.setLock g c) { x.loop with lockWin := v % 65536, lockTime := v / 65536 }) ∧
        (1 ≤ v → v ≤ 1000 → sets 0x15 (.setRollback g c) { x.loop with window := v }) ∧
        ((v = 31 ∨ (4 * p ≤ v ∧ v ≤ 4 * p + 3 ∧ v ≤ 15)) → ∃ t, exec (.setZd g c) s = .next t ∧ (s.answered e 0x16 c 0 v (s.putSylPath p { x with
            loop := { x.loop with zd := v }
            z := 0
            zWords := []
            zIn := none }).syl) t) ∧
        (((0x10 ≤ v ∧ v ≤ 0x16) ∨ v = 0x1E) → ∃ t, exec (.pathGet g c) s = .next t ∧ (s.answered e 0x1F c 0 (s.loopSetting v p) s.syl) t) ∧
        (v = 0 → ∃ t, exec (.setBw g c) s = .next t ∧ (s.answered e 0x10 c 4 x.loop.fn s.syl) t)) ∧
      (∀ r ∈ rows, p / 2 ≠ g.val → ∃ t, exec r.2 s = .next t ∧ (s.answered e r.1 c 2 0 s.syl) t))

/-- R185, R242, R350: the command ports of E11, E12 and E13. SET_LEARN sets LEARN and TAU, CLEAR_MODEL clears the model and
writes it to the journal, once the request before it is answered, unless a supply warning stands, GET_MODEL answers a parameter; the bindings, the ports and the
clock take their settings. -/
def Obligations.service_ports : Prop :=
  ∀ (c : CmdWord) (s : State),
    let p := c.path.toNat
    let n := c.slot.toNat
    let v := c.value.toNat
    let x := s.sylPath p
    let y := s.sylPort p
    let supply := (s.inw' 0xE0).testBit 3
    let bind : TodBind := { uart := v % 2, binary := v.testBit 1, enable := v.testBit 2, slot := n, offset := toSigned 16 (v / 65536) }
    let clear : Model := { learn := x.model.learn, tau := x.model.tau }
    let learnRows := [(0x20, Instr.setLearn c), (0x21, .clearModel c), (0x22, .getModel c)]
    let timeRows := [(0x30, Instr.setTod c), (0x31, .setPtpPort c), (0x32, .setUcast c), (0x33, .setAsym c), (0x34, .setClock c)]
    let stands := fun (e : Nat) (r : Nat × Instr) => ∃ t, exec r.2 s = .next t ∧
      s.posted e r.1 c t ∧ t = { s with regs := t.regs, words := t.words }
    (¬s.serves 11 c → ∀ r ∈ learnRows, stands 11 r) ∧ (¬s.serves 12 c → ∀ r ∈ timeRows, stands 12 r) ∧
    (¬s.serves 13 c → stands 13 (0x40, .setEsmc c)) ∧ (s.serves 11 c → 7 < p → ∀ r ∈ learnRows, ∃ t, exec r.2 s = .next t ∧ (s.answered 11 r.1 c 2 0 s.syl) t) ∧
    (s.serves 11 c → p ≤ 7 →
      (n = 0 → v / 256 % 256 ≠ 0 → v ≤ 65535 → v / 2 % 128 = 0 → ∃ t, exec (.setLearn c) s = .next t ∧ (s.answered 11 0x20 c 0 v (s.putSylPath p { x with model := { x.model with learn := v.testBit 0, tau := v / 256 } }).syl) t) ∧
      (n = 0 → v = 0 → supply = true → ∃ t, exec (.clearModel c) s = .next t ∧ (s.answered 11 0x21 c 0 0 (s.putSylPath p { x with model := clear }).syl) t) ∧
      (n = 0 → v = 0 → supply = false → s.jnlAnswered = false → ∃ t, exec (.clearModel c) s = .next t ∧
        (t.sylPath p).model = clear ∧ t.syl.jnlDue = s.syl.jnlDue.erase p ++ [p] ∧ s.posted 11 0x21 c t ∧
        (∀ q, q ≠ p → t.sylPath q = s.sylPath q) ∧
        t = { s with regs := t.regs, words := t.words, bell := t.bell, syl := t.syl }) ∧
      (n = 0 → v = 0 → supply = false → s.jnlAnswered = true → s.syl.jnlDue = [] → ∃ t, exec (.clearModel c) s = .next t ∧
        (let m := s.modelAt clear s.bell.number
        (t.sylPath p).model = m ∧ t.syl.jnlDue = [] ∧ t.commons = (jnlRequest 1 0x10 p m.payload s).commons ∧ s.posted 11 0x21 c t ∧
        (∀ q, q ≠ p → t.sylPath q = s.sylPath q) ∧
        t = { s with regs := t.regs, words := t.words, bell := t.bell, syl := t.syl, commons := t.commons })) ∧
      (n ≤ 6 → v = 0 → ∃ t, exec (.getModel c) s = .next t ∧
        t.bell.commits = s.bell.commits ++ [(11, 0x241, BitVec.ofNat 64 (x.model.param n)),
          (11, 0x240, BitVec.ofNat 64 (0x22 * 2 ^ 56 + c.seq.toNat * 2 ^ 48 + x.model.param n % 2 ^ 32))] ∧
        t.syl = { s.syl with seq := tabSet 0 11 c.seq.toNat s.syl.seq } ∧ s.posted 11 0x22 c t ∧
        t = { s with regs := t.regs, words := t.words, bell := t.bell, syl := t.syl })) ∧
    (s.serves 12 c →
      (p ≤ 3 → n ≤ 23 → (n < 20 ∨ n = 22 ∨ n = 23) → v / 8 % 8192 = 0 →
        (v.testBit 2 = true → ∀ k < 4, k ≠ p → (s.tod k).enable = true → (s.tod k).uart ≠ v % 2) →
        ∃ t, exec (.setTod c) s = .next t ∧ (s.answered 12 0x30 c 0 v { s.syl with tods := tabSet {} p bind s.syl.tods }) t) ∧
      (s.timeCheck (cmdRead c 0x31) = .ok → ∃ t, exec (.setPtpPort c) s = .next t ∧ (s.answered 12 0x31 c 0 v (s.putSylPort p { y with
          profile := v % 4
          enable := v.testBit 2
          oneStep := v.testBit 3
          transport := v / 16 % 4
          p2p := v.testBit 6
          masterOnly := v.testBit 7
          domain := v / 256 % 256
          ts := v / 65536 % 4
          fresh := v.testBit 2
          exch := []
          big := 0
          step := none }).syl) t) ∧
      (p ≤ 3 → n ≤ 3 → y.transport ≠ 2 → ∃ t, exec (.setUcast c) s = .next t ∧ (s.answered 12 0x32 c 0 v (s.putSylPort p { y with ucast := tabSet 0 n v y.ucast }).syl) t) ∧
      (p ≤ 3 → n = 0 → ∃ t, exec (.setAsym c) s = .next t ∧ (s.answered 12 0x33 c 0 v (s.putSylPort p { y with asym := toSigned 32 v }).syl) t) ∧
      (p = 0 → n = 0 → v < 2 ^ 24 → ∃ t, exec (.setClock c) s = .next t ∧ (s.answered 12 0x34 c 0 v { s.syl with
          prio1 := v % 256
          prio2 := v / 256 % 256, localPrio := v / 65536 % 256 }) t) ∧
      (7 < p → ∀ r ∈ timeRows, ∃ t, exec r.2 s = .next t ∧ (s.answered 12 r.1 c 2 0 s.syl) t)) ∧
    (s.serves 13 c → 3 < p → ∃ t, exec (.setEsmc c) s = .next t ∧ (s.answered 13 0x40 c 2 0 s.syl) t) ∧
    (s.serves 13 c → p ≤ 3 → n = 0 → v.testBit 3 = false → v ≤ 255 → ∃ t, exec (.setEsmc c) s = .next t ∧ (s.answered 13 0x40 c 0 v (s.putSylPort p { y with esmcRx := v.testBit 0, esmcTx := v.testBit 1, opt2 := v.testBit 2, hoQl := v / 16 }).syl) t)

/-- R128 to R134, R139, R156, R158, R173, R181 to R189: the lessons of slots and paths. A tracking loop locks after 10 / BW
seconds; roll call passes over every slot and reports it, and takes the settings as the commands have left them; PREPARE ends
after PREP_LIMIT and SETTLE after SETTLE; a path locks and unlocks when its test has held for LOCK_TIME; in holdover on a model
the word follows the prediction; a second of good samples updates the model, which is written to the journal once the request
before it is answered. -/
def Obligations.path_lessons : Prop :=
  ∀ (n : Fin 24) (p : Fin 8) (s : State),
    let x := s.sylPath p
    let e := pathEngine p
    let m := x.model
    let bells := fun (since : Nat) => (s.bell.number - since) * s.bellNs
    let others := fun (t : State) => ∀ q, q ≠ p.val → t.sylPath q = s.sylPath q
    let only := fun (y : SylPath) (t : State) => t.sylPath p = y ∧ others t ∧ t = { s with syl := t.syl }
    let tracks := s.sylRuns (n.val / 4) = true ∧ (s.sylSlot n).trk = 1 ∧
      100000000000 ≤ bells (s.sylSlot n).acq * trackBw (s.sylSlot n).bw
    let expires := s.sylRuns e = true ∧ x.phase = 1 ∧ x.cutNext = false ∧ x.use.prepLimit * 1000000 ≤ bells x.p0
    let settles := s.sylRuns e = true ∧ x.phase = 3 ∧ x.slew = false ∧ x.use.settle * 1000000 ≤ bells x.settleAt
    let held := fun (since : Option Nat) => ∃ k, since = some k ∧ k + x.loop.lockTime * 500000 ≤ s.now
    let locks := s.sylRuns e = true ∧ (x.st = 1 ∨ x.st = 4) ∧ held x.inWin
    let unlocks := s.sylRuns e = true ∧ x.st = 2 ∧ held x.outWin
    let predicts := s.sylRuns e = true ∧ x.st = 3 ∧ x.basis = 2
    let second := s.sylRuns 11 = true ∧ 1000000000 ≤ (x.secN + 1) * s.bellNs
    let sample := m.learn = true ∧ x.secOk = true ∧ x.secN ≠ 0
    let writes := s.sylRuns 11 = true ∧ (s.inw' 0xE0).testBit 3 = false
    (tracks → ∃ t, exec (.trackLocked n) s = .next t ∧
      t.sylSlot n = { s.sylSlot n with trk := 2 } ∧ (∀ k, k ≠ n.val → t.sylSlot k = s.sylSlot k) ∧ t = { s with syl := t.syl }) ∧
    (¬tracks → exec (.trackLocked n) s = .next s) ∧
    (s.sylRuns 10 = false → exec .rollCall s = .next s) ∧
    (s.sylRuns 10 = true → ∃ t, exec .rollCall s = .next t ∧ t.syl.pass = s.syl.pass + 1 ∧
      (∀ q < 8, (t.sylPath q).use = (s.sylPath q).pol) ∧
      (∀ k < 24, (s.sylSlot k).state = 5 → (s.m1 k).testBit 61 = true → (t.sylSlot k).state = 5) ∧
      (∀ k < 24, (s.sylSlot k).state ≠ 5 → (s.m1 k).testBit 61 = true → (t.sylSlot k).state = 5 ∧ (t.sylSlot k).grade = 0) ∧
      (∀ k < 24, (s.sylSlot k).state = 5 → (s.m1 k).testBit 61 = false → (t.sylSlot k).state = 0) ∧
      (∀ k < 24, (s.sylSlot k).state ≠ 5 → (s.sylSlot k).state ≠ 0 → (s.m1 k).testBit 61 = false → (s.m1 k).testBit 63 = false →
        (t.sylSlot k).state = 0 ∧ (t.sylSlot k).reason = if (s.m1 k).testBit 62 then 2 else 1) ∧
      (∀ k < 24, (10, 0x228 + k, (t.sylSlot k).word) ∈ t.bell.commits) ∧
      t = { s with syl := t.syl, bell := t.bell }) ∧
    (expires → ∃ t, exec (.prepLimitExpiry p) s = .next t ∧
      t.sylPath p = { x with phase := 0, target := 31, cutNext := false } ∧ others t ∧ t.syl.aborts = s.syl.aborts + 1 ∧
      t.flt.inflight = s.flt.inflight ++ [⟨24, s.acting e, 0, false⟩] ∧ t = { s with syl := t.syl, flt := t.flt }) ∧
    (¬expires → exec (.prepLimitExpiry p) s = .next s) ∧
    (settles → ∃ t, exec (.settleEnd p) s = .next t ∧ (only { x with phase := 0, target := 31 }) t) ∧
    (¬settles → exec (.settleEnd p) s = .next s) ∧
    (locks → ∃ t, exec (.pathLock p) s = .next t ∧ (only { x with st := 2, outWin := none }) t) ∧
    (¬locks → exec (.pathLock p) s = .next s) ∧
    (unlocks → ∃ t, exec (.pathUnlock p) s = .next t ∧ (only { x with st := 1, inWin := none }) t) ∧
    (¬unlocks → exec (.pathUnlock p) s = .next s) ∧
    (predicts → ∃ t, exec (.holdoverEvaluation p) s = .next t ∧
      (let ns : Int := ((s.bell.number : Int) - x.te) * s.bellNs
      let d := x.held.d * ns * 2 ^ 14 + x.held.c1 * (s.xoTemp - x.tempE) * (10 ^ 9 * 2 ^ 7) +
        x.held.c2 * ((s.xoTemp - x.held.t0) ^ 2 - (x.tempE - x.held.t0) ^ 2) * 10 ^ 9
      let y := max (-x.loop.fclampLsb) (min x.loop.fclampLsb (x.yh + roundDiv d (10 ^ 9 * 2 ^ 14 * 2 ^ 16)))
      (t.sylPath p).y = y ∧ (t.sylPath p).integ = y * 2 ^ 48 ∧ (t.sylPath p).st = 3 ∧ others t ∧
      t.bell = { s.bell with commits := s.bell.commits ++ [(e, 0x200 + p.val, BitVec.ofInt 64 y)] } ∧
      t = { s with syl := t.syl, bell := t.bell })) ∧
    (¬predicts → exec (.holdoverEvaluation p) s = .next s) ∧
    (second → ¬sample → ∃ t, exec (.learningSample p) s = .next t ∧ (only { x with secOk := true, secY := 0, secT := 0, secN := 0 }) t) ∧
    (second → sample → ∃ t, exec (.learningSample p) s = .next t ∧
      (let at' := roundDiv x.secT x.secN
      let kept := (m.temps ++ [(s.bell.number, at')]).filter
        (fun k => decide (s.bell.number ≤ k.1 + m.tau * 3600 * 10 ^ 9 / max 1 s.bellNs))
      let m' := (t.sylPath p).model
      m'.nsamp = min (m.nsamp + 1) (2 ^ 32 - 1) ∧ m'.last = s.bell.number ∧ m'.learn = m.learn ∧ m'.tau = m.tau ∧ m'.temps = kept ∧
      m'.t0 = (if m.nsamp = 0 then at' else m.t0) ∧ (tempSpread kept < 64 → m'.c1 = m.c1 ∧ m'.c2 = m.c2) ∧
      (t.sylPath p).secN = 0 ∧ (t.sylPath p).secOk = true ∧ others t ∧ t = { s with syl := t.syl })) ∧
    (¬second → exec (.learningSample p) s = .next s) ∧
    (¬writes → exec (.modelJournalWrite p) s = .next s) ∧
    (writes → s.jnlAnswered = false → ∃ t, exec (.modelJournalWrite p) s = .next t ∧
      t.syl = { s.syl with jnlDue := s.syl.jnlDue.erase p ++ [p.val] } ∧ t = { s with syl := t.syl }) ∧
    (∀ q rest, writes → s.jnlAnswered = true → s.syl.jnlDue.erase p ++ [p.val] = q :: rest → ∃ t, exec (.modelJournalWrite p) s = .next t ∧
      (let m := s.modelAt (s.sylPath q).model s.bell.number
      (t.sylPath q).model = m ∧ (∀ k, k ≠ q → t.sylPath k = s.sylPath k) ∧ t.syl.jnlDue = rest ∧
      t.commons = (jnlRequest 1 0x10 q m.payload s).commons ∧ t = { s with syl := t.syl, commons := t.commons }))

/-- R242 to R245, R346 to R349: the time and network lessons. A message on a bound UART labels the on-time edge, is rejected
and counted, or steps the timescale on the second of two consecutive labels; an exchange gives a PHASE sample or makes a step
due, which goes out in stages; an ESMC PDU gives the port's QL, its absence for 5 s QL-FAILED; an information PDU is sent every
second. -/
def Obligations.time_lessons : Prop :=
  ∀ (u : Fin 2) (b : List (BitVec 8)) (time : Int) (n : Fin 4) (x : PtpExchange) (s : State),
    let ud := s.todUart u
    let p := s.sylPort n
    let word := fun (steps bad label : Nat) => BitVec.ofNat 64 (steps % 256 * 2 ^ 56 + bad % 256 * 2 ^ 48 + label % 2 ^ 48)
    let rejected := fun (t : State) => t.todUart u = { ud with bad := ud.bad + 1 } ∧
      t.bell = { s.bell with commits := s.bell.commits ++ [(12, 0x241 + u.val, word ud.steps (ud.bad + 1) ud.label)] } ∧
      t = { s with syl := t.syl, bell := t.bell }
    let seq := fun (k : Nat) => (tabGet 0 k s.syl.tsSeq + 1) % 128
    let control := fun (k kind : Nat) (valid : Bool) (v : Int) =>
      (12, 0x260 + k, BitVec.ofNat 64 (flagIf valid (2 ^ 63) + seq k * 2 ^ 56 + kind * 2 ^ 54 + ofSigned 48 (satInt 48 v)))
    let portOnly := fun (t : State) => (∀ k, k ≠ n.val → t.sylPort k = s.sylPort k) ∧
      t = { s with syl := t.syl, bell := t.bell, timers := t.timers }
    let quiet := fun (t : State) => t.bell = s.bell ∧ t.timers = s.timers ∧ portOnly t
    let off := (shortest ((exchange x p.asym :: p.exch).take 16)).2
    let samples := s.sylRuns 12 = true ∧ p.enable = true ∧ p.masterOnly = false ∧ s.tsFollows p.ts = false
    let big := if 100000 * 65536 < off.natAbs then p.big + 1 else 0
    let due := (p.fresh = true ∧ 1000 * 65536 ≤ off.natAbs) ∨ 3 ≤ big
    let taken : SylPort := { p with exch := (exchange x p.asym :: p.exch).take 16, big := 0, fresh := false, gmClass := x.gmClass }
    let hears := s.sylRuns 13 = true ∧ p.esmcRx = true
    let silent := s.sylRuns 13 = true ∧ s.ran (.esmcIn n) 5000000000 = true
    let speaks := s.sylRuns 13 = true ∧ s.ran (.esmcOut n) 1000000000 = true
    let sends := s.rd (Reg.ETH_SYNCE_TX_LOCK n) ≠ 0 ∧ p.esmcTx = true
    (s.todOn u = none ∨ s.sylRuns 12 = false → exec (.nmeaSentence u b time) s = .next s ∧ exec (.binaryTodFrame u b time) s = .next s) ∧
    (∀ k, s.todOn u = some k → s.sylRuns 12 = true →
      ((s.tod k).binary = true → exec (.nmeaSentence u b time) s = .next s) ∧
      ((s.tod k).binary = false → exec (.binaryTodFrame u b time) s = .next s) ∧
      ((s.tod k).binary = true → binaryMessage b = .skip → exec (.binaryTodFrame u b time) s = .next s) ∧
      (∀ utc, s.todEdge k time = none →
        ((s.tod k).binary = false → nmeaMessage b = .time utc → ∃ t, exec (.nmeaSentence u b time) s = .next t ∧ rejected t) ∧
        ((s.tod k).binary = true → binaryMessage b = .time utc → ∃ t, exec (.binaryTodFrame u b time) s = .next t ∧ rejected t)) ∧
      ((s.tod k).binary = false → nmeaMessage b = .reject → ∃ t, exec (.nmeaSentence u b time) s = .next t ∧ rejected t) ∧
      ((s.tod k).binary = false → nmeaMessage b = .skip → exec (.nmeaSentence u b time) s = .next s) ∧
      ((s.tod k).binary = true → binaryMessage b = .reject → ∃ t, exec (.binaryTodFrame u b time) s = .next t ∧ rejected t) ∧
      (∀ value, s.todEdge k time = some value → ∀ utc : Nat,
        let l := ((utc : Int) + (s.tod k).offset).toNat
        let d := (l : Int) - roundHalfUp value (10 ^ 9 * 2 ^ 64)
        let labelled := fun (t : State) => t.todUart u = { ud with label := l, d := some d } ∧
          t.bell = { s.bell with commits := s.bell.commits ++ [(12, 0x241 + u.val, word ud.steps ud.bad l)] } ∧
          t = { s with syl := t.syl, bell := t.bell }
        let stepped := fun (t : State) => t.todUart u = { ud with label := l, d := none, steps := ud.steps + 1 } ∧
          t.bell = { s.bell with commits := s.bell.commits ++ [control k 2 true d, (12, 0x241 + u.val, word (ud.steps + 1) ud.bad l)] } ∧
          tabGet 0 k t.syl.tsSeq = seq k ∧ t = { s with syl := t.syl, bell := t.bell }
        let again := ud.d = some d ∧ l = ud.label + 1 ∧ d ≠ 0
        ((s.tod k).binary = false → nmeaMessage b = .time utc → (again → ∃ t, exec (.nmeaSentence u b time) s = .next t ∧ stepped t) ∧
          (¬again → ∃ t, exec (.nmeaSentence u b time) s = .next t ∧ labelled t)) ∧
        ((s.tod k).binary = true → binaryMessage b = .time utc → (again → ∃ t, exec (.binaryTodFrame u b time) s = .next t ∧ stepped t) ∧
          (¬again → ∃ t, exec (.binaryTodFrame u b time) s = .next t ∧ labelled t)))) ∧
    (¬samples → exec (.servoSample n x) s = .next s) ∧
    (samples → p.step = none → ¬due → ∃ t, exec (.servoSample n x) s = .next t ∧ t.sylPort n = { taken with big := big } ∧
      t.bell.commits = s.bell.commits ++ [control p.ts 0 true (-off)] ∧ portOnly t) ∧
    (samples → p.step = none → due → ∃ t, exec (.servoSample n x) s = .next t ∧ t.sylPort n = { taken with step := some off } ∧ quiet t) ∧
    (samples → p.step.isSome = true → ∃ t, exec (.servoSample n x) s = .next t ∧ t.sylPort n = taken ∧ quiet t) ∧
    (∀ k, p.step = none ∨ s.sylRuns 12 = false ∨ s.tsFollows p.ts = true → exec (.servoStep n k) s = .next s) ∧
    (∀ v, p.step = some v → s.sylRuns 12 = true → s.tsFollows p.ts = false →
      let sec := (-v).tdiv (10 ^ 9 * 65536)
      let rest := (-v).tmod (10 ^ 9 * 65536)
      (∃ t, exec (.servoStep n 0) s = .next t ∧ t.bell.commits = s.bell.commits ++ [control p.ts 0 false 0] ∧ t.sylPort n = p ∧ portOnly t) ∧
      (sec ≠ 0 → ∃ t, exec (.servoStep n 1) s = .next t ∧
        t.bell.commits = s.bell.commits ++ [control p.ts 2 false sec] ∧ t.sylPort n = p ∧ portOnly t) ∧
      (sec = 0 → exec (.servoStep n 1) s = .next s) ∧
      (rest ≠ 0 → ∃ t, exec (.servoStep n 2) s = .next t ∧
        t.bell.commits = s.bell.commits ++ [control p.ts 1 false rest] ∧ t.sylPort n = p ∧ portOnly t) ∧
      (rest = 0 → exec (.servoStep n 2) s = .next s) ∧
      (∃ t, exec (.servoStep n 3) s = .next t ∧ t.sylPort n = { p with step := none, exch := [] } ∧ quiet t)) ∧
    (∀ q, hears → esmcQl b = some q → ∃ t, exec (.esmcPduReceived n b) s = .next t ∧
      t.sylPort n = { p with ql := some q } ∧ t.age (.esmcIn n) = 0 ∧ t.bell = s.bell ∧ portOnly t) ∧
    (¬hears ∨ esmcQl b = none → exec (.esmcPduReceived n b) s = .next s) ∧
    (silent → ∃ t, exec (.esmcTimeout n) s = .next t ∧ t.sylPort n = { p with ql := none } ∧ quiet t) ∧
    (¬silent → exec (.esmcTimeout n) s = .next s) ∧
    (speaks → sends → ∃ t, exec (.esmcInfoSend n) s = .next t ∧
      t.sylPort n = { p with sentQl := some (s.qlToSend n), pdu := s.esmcPdu n (s.qlToSend n) false } ∧ t.age (.esmcOut n) = 0 ∧
      (∀ k, k ≠ n.val → t.sylPort k = s.sylPort k) ∧ t = { s with syl := t.syl, free := t.free, timers := t.timers }) ∧
    (speaks → ¬sends → ∃ t, exec (.esmcInfoSend n) s = .next t ∧ t.age (.esmcOut n) = 0 ∧ t = { s with timers := t.timers }) ∧
    (¬speaks → exec (.esmcInfoSend n) s = .next s)

/-! ### Twin operation (R354 to R378) -/

/-- R354 to R358, R362, R364, R370, R371, R373, R375: the role of the device. Enabling enters SEEKING unless the SOLO strap
stands, and disabling makes the role OFF; the end of SEEKING, 40 µs on, takes the role of the first row that applies; a loss of
the link after 4 µs and of the witness after 8 µs is counted, and a secondary promotes where its row says so, else it is isolated;
a primary that meets another keeps its role or demotes with the winner's epoch; it demotes to an eligible secondary or waits for
one; a lane without a good frame for 4 µs is down. -/
def Obligations.twin_roles : Prop :=
  ∀ (word : BitVec 32) (lane : Fin 2) (s : State),
    let role := Reg.TWIN_STATUS_ROLE
    let link := Reg.TWIN_STATUS_LINK
    let wit := Reg.TWIN_STATUS_WITNESS
    let x := s.twin
    let id := s.rd Reg.TWIN_STATUS_PAIR_ID
    let errs := (List.range 8).map Reg.TWIN_ERR_P_VALUE
    let touches := fun (t : State) => t = { s with regs := t.regs, twin := t.twin, commons := t.commons, flt := t.flt, timers := t.timers }
    let stays := fun (t : State) => t.timers = s.timers ∧ touches t
    let up := fun (f : Fld) (t : State) => t.rd f = (s.rd f + 1) % 2 ^ f.width
    let told := fun (r : Nat) (t : State) => (⟨42, noInst, r, false⟩ : Notice) ∈ t.flt.inflight
    let promoted := fun (ep : Nat) (t : State) => t.rd role = 3 ∧
      t.rd Reg.TWIN_EPOCH_OWN = (max (s.rd Reg.TWIN_EPOCH_OWN) ep + 1) % 65536 ∧ up Reg.TWIN_COUNT1_PROMOTIONS t ∧ told 3 t
    let epoch := s.rd Reg.TWIN_EPOCH_TWIN
    let demoted := fun (t : State) => t.rd role = 4 ∧ t.rd Reg.TWIN_STATUS_DEMOTE_PENDING = 0 ∧ up Reg.TWIN_COUNT1_DEMOTIONS t ∧
      told 4 t ∧ t.twin = { x with demoteReq := true } ∧ t.commons = s.commons ∧ stays t
    let secondary := s.twinRole = 4 ∨ s.twinRole = 5
    let conflict := x.heard = true ∧ x.pair = id
    let yields := (x.heard = true ∧ x.role = 3) ∨ s.ineligible = true
    let may := s.ineligible = false ∧ s.rd Reg.TWIN_STATUS_CONFLICT = 0
    let takes := may ∧ (s.rd wit = 0 ∨ (x.role ≠ 3 ∧ (id = 0 ∨ x.inel = true)))
    let seeks := s.twinRole = 2 ∧ s.ran .seeking 40000 = true
    let linkLost := s.rd link ≠ 0 ∧ s.ran .link 4000 = true
    let witLost := s.rd wit ≠ 0 ∧ s.ran .witnessIn 8000 = true
    let framed := s.rd Reg.TWIN_CFG_EN ≠ 0 ∧ crc8 word = word.toNat % 256
    let r := word.toNat / 2 ^ 29
    let ep := word.toNat / 2 ^ 12 % 65536
    let heard := { x with
        heard := true
        role := r
        pair := word.toNat / 2 ^ 28 % 2
        inel := word.getLsbD 11
        crimson := word.getLsbD 10 }
    let wins := if id = 0 then s.crimson = false ∨ word.getLsbD 10 = true else s.crimson = false ∧ word.getLsbD 10 = true
    let noted := fun (t : State) => t.rd wit = 1 ∧ t.rd Reg.TWIN_EPOCH_TWIN = ep ∧ t.age .witnessIn = 0 ∧ t.twin = heard ∧ touches t
    let runs := s.rd Reg.TWIN_STATUS_DEMOTE_PENDING ≠ 0 ∧ s.twinRole = 3 ∧ s.canDemote = true
    let laneOk := if lane.val = 0 then Reg.TWIN_STATUS_LANE0_OK else Reg.TWIN_STATUS_LANE1_OK
    (s.hostOpen Reg.TWIN_CFG_EN.addr →
      (s.rd Reg.TWIN_STATUS_SOLO_STRAP ≠ 0 ∨ s.rd Reg.TWIN_CFG_EN ≠ 0 → exec .twinEnable s = .next s) ∧
      (s.rd Reg.TWIN_STATUS_SOLO_STRAP = 0 → s.rd Reg.TWIN_CFG_EN = 0 → ∃ t, exec .twinEnable s = .next t ∧
        t.rd Reg.TWIN_CFG_EN = 1 ∧ t.rd role = 2 ∧ t.rd Reg.TWIN_STATUS_CONFLICT = 0 ∧ t.twin.heard = false ∧ t.age .seeking = 0 ∧
        (t.present 40 noInst ↔ s.rd link = 0) ∧ (t.present 41 noInst ↔ s.rd wit = 0) ∧
        s.regsBut ([Reg.TWIN_CFG_EN, role, Reg.TWIN_STATUS_CONFLICT] ++ errs) t ∧ touches t) ∧
      (s.rd Reg.TWIN_CFG_EN = 0 → exec .twinDisable s = .next s) ∧
      (s.rd Reg.TWIN_CFG_EN ≠ 0 → ∃ t, exec .twinDisable s = .next t ∧
        t.rd Reg.TWIN_CFG_EN = 0 ∧ t.rd role = 0 ∧ t.rd Reg.TWIN_STATUS_DEMOTE_PENDING = 0 ∧ t.rd Reg.TWIN_STATUS_CAL_VALID = 0 ∧
        ¬t.present 40 noInst ∧ ¬t.present 41 noInst ∧ t.twin = x ∧
        s.regsBut ([Reg.TWIN_CFG_EN, role, Reg.TWIN_STATUS_DEMOTE_PENDING, Reg.TWIN_STATUS_CAL_VALID, Reg.TWIN_STATUS_INDEXED,
          Reg.TWIN_STATUS_SLIP] ++ errs) t ∧ stays t)) ∧
    (¬seeks → exec .seekingEnd s = .next s) ∧
    (seeks →
      (conflict → ∃ t, exec .seekingEnd s = .next t ∧ t.rd role = 5 ∧ t.rd Reg.TWIN_STATUS_CONFLICT = 1 ∧ t.present 44 noInst ∧ stays t) ∧
      (¬conflict → yields → ∃ t, exec .seekingEnd s = .next t ∧ t.rd role = (if s.rd link ≠ 0 then 4 else 5) ∧ stays t) ∧
      (¬conflict → ¬yields → (x.heard = false ∨ id = 0 ∨ x.inel = true) → ∃ t, exec .seekingEnd s = .next t ∧ promoted epoch t ∧ stays t) ∧
      (¬conflict → ¬yields → x.heard = true → id ≠ 0 → x.inel = false → ∃ t, exec .seekingEnd s = .next t ∧
        t.rd role = (if s.rd link ≠ 0 then 4 else 5) ∧ stays t)) ∧
    (¬linkLost → exec .twinLinkLoss s = .next s) ∧
    (linkLost → ∃ t, exec .twinLinkLoss s = .next t ∧ t.rd link = 0 ∧ t.rd Reg.TWIN_STATUS_CAL_VALID = 0 ∧ up Reg.TWIN_COUNT0_LINK_LOSS t ∧
      t.twin = { x with hbRun := 0, hbSeq := none, delayWas := none } ∧ stays t ∧
      (¬secondary → t.commons = s.commons ∧ s.regsBut [link, Reg.TWIN_STATUS_CAL_VALID, Reg.TWIN_COUNT0_LINK_LOSS] t) ∧
      (secondary → takes → promoted epoch t) ∧ (secondary → ¬takes → t.rd role = 5)) ∧
    (¬framed → exec (.witnessFrame word) s = .next s) ∧
    (framed → s.twinRole < 3 → ∃ t, exec (.witnessFrame word) s = .next t ∧ noted t ∧ ¬t.present 41 noInst ∧ t.commons = s.commons ∧
      s.regsBut [wit, Reg.TWIN_EPOCH_TWIN] t) ∧
    (framed → secondary → ∃ t, exec (.witnessFrame word) s = .next t ∧ noted t ∧ (s.rd link ≠ 0 → t.rd role = 4) ∧
      (s.rd link = 0 → may → r ≠ 3 → (id = 0 ∨ word.getLsbD 11 = true) → promoted ep t) ∧
      (s.rd link = 0 → ¬(may ∧ r ≠ 3 ∧ (id = 0 ∨ word.getLsbD 11 = true)) → t.rd role = 5)) ∧
    (framed → s.twinRole = 3 → ∃ t, exec (.witnessFrame word) s = .next t ∧ noted t ∧ (r ≠ 3 ∨ wins → t.rd role = 3 ∧
        t.rd Reg.TWIN_EPOCH_OWN = s.rd Reg.TWIN_EPOCH_OWN) ∧
      (r = 3 → ¬wins → t.rd role = (if s.rd link ≠ 0 then 4 else 5) ∧ t.rd Reg.TWIN_EPOCH_OWN = ep ∧ up Reg.TWIN_COUNT1_DEMOTIONS t ∧
        told (if s.rd link ≠ 0 then 4 else 5) t)) ∧
    (¬witLost → exec .witnessLoss s = .next s) ∧
    (witLost → ∃ t, exec .witnessLoss s = .next t ∧ t.rd wit = 0 ∧ up Reg.TWIN_COUNT0_WIT_LOSS t ∧ t.twin = x ∧ stays t ∧
      (¬secondary → t.commons = s.commons ∧ s.regsBut [wit, Reg.TWIN_COUNT0_WIT_LOSS] t) ∧
      (secondary → s.rd link ≠ 0 → t.rd role = 4) ∧ (secondary → s.rd link = 0 → may → promoted epoch t) ∧
      (secondary → s.rd link = 0 → ¬may → t.rd role = 5)) ∧
    (s.hostOpen Reg.TWIN_CMD_DEMOTE.addr →
      (s.twinRole = 3 → s.canDemote = true → ∃ t, exec .twinDemote s = .next t ∧ demoted t ∧ t.rd Reg.TWIN_CMD_DEMOTE = 0) ∧
      (s.twinRole = 3 → s.canDemote = false → ∃ t, exec .twinDemote s = .next t ∧ t.rd Reg.TWIN_STATUS_DEMOTE_PENDING = 1 ∧
        t.rd Reg.TWIN_CMD_DEMOTE = 0 ∧ s.onlyRegs [Reg.TWIN_STATUS_DEMOTE_PENDING, Reg.TWIN_CMD_DEMOTE] t) ∧
      (s.twinRole ≠ 3 → ∃ t, exec .twinDemote s = .next t ∧ t.rd Reg.TWIN_CMD_DEMOTE = 0 ∧ s.onlyRegs [Reg.TWIN_CMD_DEMOTE] t)) ∧
    (runs → ∃ t, exec .demoteRun s = .next t ∧ demoted t) ∧ (¬runs → exec .demoteRun s = .next s) ∧
    (s.ran (.lane lane) 4000 = false → exec (.laneDown lane) s = .next s) ∧
    (s.ran (.lane lane) 4000 = true → ∃ t, exec (.laneDown lane) s = .next t ∧
      t.rd laneOk = 0 ∧ t.present 43 lane ∧ s.regsBut [laneOk] t ∧ t = { s with regs := t.regs, flt := t.flt })

/-- R358, R362, R365, R366, R371, R373 to R375: the twin's frames. A heartbeat goes out every 1.000 µs with the device's own view
and its requests; one with a bad CRC is counted, a duplicate only shows its lane, a new one is noted, raises LINK after four in a
row and moves the role: a secondary asked to takes over, one whose link is up stays, and of two primaries one yields; the reset
that the primary asks for is made. The primary sends markers, from which a calibrated secondary forms its twin words; the witness
frame, one every 34 µs, carries its CRC. -/
def Obligations.twin_frames : Prop :=
  ∀ (lane : Fin 2) (h : Heartbeat) (idx : Nat) (m : MarkerIn) (s : State),
    let x := s.twin
    let role := Reg.TWIN_STATUS_ROLE
    let link := Reg.TWIN_STATUS_LINK
    let id := s.rd Reg.TWIN_STATUS_PAIR_ID
    let ok := if lane.val = 0 then Reg.TWIN_STATUS_LANE0_OK else Reg.TWIN_STATUS_LANE1_OK
    let run := if x.hbSeq = some (h.seq - 1) ∧ 0 < h.seq then x.hbRun + 1 else 1
    let own : Heartbeat := {
      seq := x.seqOut, pair := id, role := s.twinRole
      epoch := BitVec.ofNat 16 (s.rd Reg.TWIN_EPOCH_OWN), inel := s.ineligible, crimson := s.crimson, safe := s.safe
      demoteReq := x.demoteReq, resetReq := decide (0 < x.resetReq), mClk := x.ownClk, mPps := x.ownPps, count := x.ownCount }
    let word := s.twinRole * 2 ^ 29 + id * 2 ^ 28 + s.rd Reg.TWIN_EPOCH_OWN * 2 ^ 12 +
      flagIf s.ineligible 2048 + flagIf s.crimson 1024
    let crcErr := Reg.TWIN_COUNT2_CRC_ERR
    let sends := s.rd Reg.TWIN_CFG_EN ≠ 0 ∧ s.ran .heartbeat 1000 = true
    let up := fun (f : Fld) (t : State) => t.rd f = (s.rd f + 1) % 2 ^ f.width
    let told := fun (r : Nat) (t : State) => (⟨42, noInst, r, false⟩ : Notice) ∈ t.flt.inflight
    let promoted := fun (t : State) => t.rd role = 3 ∧ up Reg.TWIN_COUNT1_PROMOTIONS t ∧ told 3 t ∧
      t.rd Reg.TWIN_EPOCH_OWN = (max (s.rd Reg.TWIN_EPOCH_OWN) h.epoch.toNat + 1) % 65536
    let shown := fun (t : State) => t.rd ok = 1 ∧ ¬t.present 43 lane ∧ t.age (.lane lane) = 0 ∧ t.age .link = 0
    let asked := h.resetReq = true ∧ s.rd Reg.TWIN_CFG_ACCEPT_RESET ≠ 0 ∧ h.role = 3 ∧ h.epoch.toNat = s.rd Reg.TWIN_EPOCH_OWN ∧
      s.twinRole ≠ 3 ∧ s.rd Reg.RST_CAUSE_BUSY = 0
    let good := s.rd Reg.TWIN_CFG_EN ≠ 0 ∧ ¬asked
    let fresh := good ∧ x.hbSeq ≠ some h.seq
    let may := s.ineligible = false ∧ s.rd Reg.TWIN_STATUS_CONFLICT = 0
    let linked := s.rd link ≠ 0 ∨ 4 ≤ run
    let takes := if h.demoteReq = true ∧ s.twinRole = 4 then may
      else ¬linked ∧ may ∧ (s.rd Reg.TWIN_STATUS_WITNESS = 0 ∨ (h.role ≠ 3 ∧ (id = 0 ∨ h.inel = true)))
    let wins := if id = 0 then s.crimson = false ∨ h.crimson = true else s.crimson = false ∧ h.crimson = true
    let noted := fun (t : State) => shown t ∧ t.rd Reg.TWIN_EPOCH_TWIN = h.epoch.toNat ∧
        t.rd Reg.TWIN_M_REMOTE_VALUE = ofSigned Reg.TWIN_M_REMOTE_VALUE.width h.mClk ∧
        t.twin = { x with
          heard := true
          role := h.role
          pair := h.pair
          inel := h.inel
          crimson := h.crimson
          safe := h.safe
          hbRun := run
          hbSeq := some h.seq
          hbAt := some s.now
          mClk := h.mClk
          mPps := h.mPps
          count := h.count } ∧
        (4 ≤ run → t.rd link = 1) ∧ (run < 4 → t.rd link = s.rd link) ∧
        t = { s with regs := t.regs, twin := t.twin, commons := t.commons, flt := t.flt, timers := t.timers }
    let edge := x.edges.find? (fun k => k.1 == m.idx)
    (sends → ∃ t, exec .heartbeatSend s = .next t ∧
      t.twin = { x with seqOut := x.seqOut + 1, demoteReq := false, resetReq := x.resetReq - 1, sent := some own } ∧
      (x.resetReq ≤ 1 → t.rd Reg.TWIN_CMD_RESET_TWIN = 0) ∧ s.regsBut [Reg.TWIN_CMD_RESET_TWIN] t ∧ t.age .heartbeat = 0 ∧
      t = { s with regs := t.regs, twin := t.twin, timers := t.timers }) ∧
    (¬sends → exec .heartbeatSend s = .next s) ∧
    (s.rd Reg.TWIN_CFG_EN = 0 → ∀ crcOk, exec (.heartbeatReceive lane crcOk h) s = .next s) ∧
    (s.rd Reg.TWIN_CFG_EN ≠ 0 → ∃ t, exec (.heartbeatReceive lane false h) s = .next t ∧
      t.rd crcErr = (s.rd crcErr + 1) % 2 ^ crcErr.width ∧ s.onlyRegs [crcErr] t) ∧
    (good → x.hbSeq = some h.seq → ∃ t, exec (.heartbeatReceive lane true h) s = .next t ∧
      shown t ∧ s.regsBut [ok] t ∧ t = { s with regs := t.regs, flt := t.flt, timers := t.timers }) ∧
    (fresh → s.twinRole < 3 → ∃ t, exec (.heartbeatReceive lane true h) s = .next t ∧ t.commons = s.commons ∧
      s.regsBut [ok, Reg.TWIN_EPOCH_TWIN, Reg.TWIN_M_REMOTE_VALUE, link] t) ∧
    (fresh → ∃ t, exec (.heartbeatReceive lane true h) s = .next t ∧ noted t) ∧
    (fresh → (s.twinRole = 4 ∨ s.twinRole = 5) → (h.role = 3 → ¬takes) → ∃ t, exec (.heartbeatReceive lane true h) s = .next t ∧
      (takes → promoted t) ∧ (¬takes → t.rd role = (if linked then 4 else 5)) ∧
      (¬takes → s.twinRole = 4 → h.role = 3 → t.rd Reg.TWIN_EPOCH_OWN = h.epoch.toNat)) ∧
    (fresh → s.twinRole = 3 → ∃ t, exec (.heartbeatReceive lane true h) s = .next t ∧
      (h.role ≠ 3 ∨ wins → t.rd role = 3 ∧ t.rd Reg.TWIN_EPOCH_OWN = s.rd Reg.TWIN_EPOCH_OWN) ∧
      (h.role = 3 → ¬wins → t.rd role = (if linked then 4 else 5) ∧ t.rd Reg.TWIN_EPOCH_OWN = h.epoch.toNat ∧
        up Reg.TWIN_COUNT1_DEMOTIONS t ∧ told (if linked then 4 else 5) t)) ∧
    (s.rd Reg.TWIN_CFG_EN ≠ 0 → asked → ∃ t, exec (.heartbeatReceive lane true h) s = .next t ∧
      t.rd Reg.RST_CAUSE_KIND = 4 ∧ t.rd Reg.RST_CAUSE_BUSY = 1 ∧ t.eng = [] ∧ t.image = {} ∧ t.nor = s.nor ∧ t.fuses = s.fuses) ∧
    (s.twinRole = 3 → ∃ t, exec (.markerSend idx) s = .next t ∧
      t.twin.markerOut = some {
        idx := idx
        ramps := (List.range 8).map (fun p => (((s.path p).ramp / 2 ^ 48) % 2 ^ 80).toNat)
        stamps := (List.range 4).map (fun n => (s.tscale n).val / 2 ^ 48) } ∧
      t.twin.role = x.role ∧ t.twin.seqOut = x.seqOut ∧ t = { s with twin := t.twin }) ∧
    (s.twinRole ≠ 3 → exec (.markerSend idx) s = .next s) ∧
    (s.markersCount = false ∨ edge = none → exec (.markerReceive m) s = .next s) ∧
    (∀ stamp, edge = some (m.idx, stamp) → s.markersCount = true → ∃ t, exec (.markerReceive m) s = .next t ∧
      (let tm := stamp - roundDiv (s.rdi Reg.TWIN_DELAY_VALUE) 64
      t.twin = { x with markers := x.markers + 1 } ∧
      (∀ p < 8, s.rd (Reg.TWIN_FOLD_VALUE p) = 0 → tabGet 0 (0x1FE000 / 8 + p) t.commons = twinWord false (x.markers + 1) 0) ∧
      (∀ p < 8, s.rd (Reg.TWIN_FOLD_VALUE p) ≠ 0 → tabGet 0 (0x1FE000 / 8 + p) t.commons = twinWord true (x.markers + 1)
        (satInt 48 (fold (s.rd (Reg.TWIN_FOLD_VALUE p)) ((m.ramps.getD p 0 : Nat) - roundDiv (s.rampAt p tm) (2 ^ 48)) -
          s.rdi Reg.TWIN_OFFSET_VALUE * 64))) ∧
      (∀ i, (i < 0x1FE000 / 8 ∨ 0x1FE000 / 8 + 16 ≤ i) → tabGet 0 i t.commons = tabGet 0 i s.commons) ∧
      t = { s with regs := t.regs, twin := t.twin, commons := t.commons })) ∧
    (s.ran .witnessOut 34000 = true → ∃ t, exec .witnessSend s = .next t ∧
      t.twin = { x with witness := some (BitVec.ofNat 32 word + BitVec.ofNat 32 (crc8 (BitVec.ofNat 32 word))) } ∧ t.age .witnessOut = 0 ∧
      t = { s with twin := t.twin, timers := t.timers }) ∧
    (s.ran .witnessOut 34000 = false → exec .witnessSend s = .next s) ∧
    (s.hostOpen Reg.TWIN_CMD_RESET_TWIN.addr → ∃ t, exec .resetTwin s = .next t ∧ t.rd Reg.TWIN_CMD_RESET_TWIN = 1 ∧
      t.twin = { x with resetReq := 8 } ∧ s.regsBut [Reg.TWIN_CMD_RESET_TWIN] t ∧ t = { s with regs := t.regs, twin := t.twin })

/-! ### Events and faults (R380 to R397) -/

/-- R380 to R386, R389, R393, R394, R396: the life of a source. An assertion is recorded with its instance; a source that is
CLEAR goes to GRACE under class AMBER, for GRACE_M × 10^GRACE_E µs, else to RAISED or RECESS, with its action under CRIMSON; the
end of grace acts, the end of the causes enters RECESS for RECESS_M × 10^RECESS_E ms, the end of recess clears; an
acknowledgement is taken or refused; lifetime counts are saved. -/
def Obligations.sources : Prop :=
  ∀ (ev : Fin 128) (inst : Fin 256) (info : BitVec 24) (late : Bool) (s : State),
    let state := Reg.FLT_SRC_STATUS_STATE ev
    let seen := Reg.FLT_SRC_STATUS_SEEN ev
    let acted := Reg.FLT_SRC_STATUS_ACTED ev
    let cls := s.rd (Reg.FLT_SRC_CFG_CLASS ev)
    let raises := Reg.FLT_SRC_STATUS_RAISES ev
    let regsFlt := fun (t : State) => t = { s with regs := t.regs, flt := t.flt }
    let sees := reservedEv ev = false ∧ s.collects = true
    let newSrc := fun (t : State) => tabGet {} ev.val t.flt.src
    let started := fun (span : Nat) (t : State) => (newSrc t).span = span ∧ (newSrc t).since = s.up ∧ (newSrc t).ring = s.onRing
    let grace := started (min 16 (max 1 (s.rd (Reg.FLT_SRC_CFG_GRACE_M ev))) * 10 ^ min 6 (s.rd (Reg.FLT_SRC_CFG_GRACE_E ev)) * 500)
    let recess := started (min 60 (max 1 (s.rd (Reg.FLT_SRC_CFG_RECESS_M ev))) * 10 ^ s.rd (Reg.FLT_SRC_CFG_RECESS_E ev) * 500000)
    let settled := fun (there : Prop) (t : State) => (there → t.rd state = 2) ∧ (¬there → t.rd state = 3 ∧ recess t)
    let others := fun (t : State) => ∀ k, k ≠ ev.val → tabGet {} k t.flt.src = tabGet {} k s.flt.src
    let taken := fun (t : State) => t.rd (Reg.FLT_SRC_DETAIL_INST ev) = inst ∧ t.rd (Reg.FLT_SRC_DETAIL_INFO ev) = info.toNat ∧
      t.rd seen = 0 ∧ regsFlt t ∧ (∀ k, k ≠ ev.val → tabGet 0 k t.flt.life = tabGet 0 k s.flt.life) ∧
      s.regsBut [Reg.FLT_SRC_DETAIL_INST ev, Reg.FLT_SRC_DETAIL_INFO ev, seen, state, acted, raises, Reg.FLT_SRC_STATUS_CFG_ERR ev] t
    let counted := fun (t : State) => t.rd raises = min (s.rd raises + 1) (2 ^ raises.width - 1) ∧
      tabGet 0 ev.val t.flt.life = min (tabGet 0 ev.val s.flt.life + 1) (2 ^ 32 - 1) ∧ t.flt.dirty = true
    let present := levelEv ev = true ∨ s.causePresent ev = true
    let src := tabGet {} ev.val s.flt.src
    let caused := s.causePresent ev = true
    let holds := fun (a : Nat) => a ≠ 4 ∧ a ≠ 6 ∧ ((a = 5 ∨ a = 7) → s.twinRole ≠ 3)
    let ends := s.timerDone ev = true
    let asked := ∃ r ∈ s.jnl.queue, r.who = .collector
    let full := s.deferring = true ∨ 16 ≤ s.jnl.queue.length
    let saved := fun (t : State) => t.jnl = { s.jnl with queue := s.jnl.queue ++ [⟨.collector, 0x11, 0, s.lifeBytes⟩] } ∧
      t.flt = { s.flt with dirty := false }
    (¬sees → exec (.faultAssert ev inst info) s = .next s) ∧
    (sees → s.rd state = 0 → ev.val < 96 → cls = 1 → ∃ t, exec (.faultAssert ev inst info) s = .next t ∧
      t.rd state = 1 ∧ grace t ∧ t.rd acted = s.rd acted ∧ counted t ∧ taken t) ∧
    (sees → s.rd state = 0 → ev.val < 96 → cls = 2 → ∃ t, exec (.faultAssert ev inst info) s = .next t ∧
      settled present t ∧ t.rd acted = 1 ∧ counted t ∧ (holds (s.sample ev inst info.toNat).1.action → taken t)) ∧
    (sees → s.rd state = 0 → (96 ≤ ev.val ∨ cls = 0 ∨ cls = 3) → ∃ t, exec (.faultAssert ev inst info) s = .next t ∧
      settled present t ∧ t.rd acted = s.rd acted ∧ counted t ∧ taken t) ∧
    (sees → s.rd state = 1 → ∃ t, exec (.faultAssert ev inst info) s = .next t ∧ t.rd state = 1 ∧ newSrc t = src ∧ taken t) ∧
    (sees → s.rd state = 2 ∨ s.rd state = 3 → ∃ t, exec (.faultAssert ev inst info) s = .next t ∧
      settled present t ∧ t.rd raises = s.rd raises ∧ taken t) ∧
    (∃ t, exec (.causeEnd ev inst) s = .next t ∧ (s.rd state ≠ 2 → t.regs = s.regs) ∧
      (s.rd state = 2 → (∀ c ∈ t.flt.present, c.1 ≠ ev.val) → t.rd state = 3 ∧ recess t) ∧ s.regsBut [state] t ∧ others t ∧
      (∀ c, c.1 ≠ ev.val → (c ∈ t.flt.present ↔ c ∈ s.flt.present)) ∧ regsFlt t) ∧
    (s.rd state = 1 → ends → ∃ t, exec (.graceExpiry ev) s = .next t ∧ settled caused t ∧ t.rd acted = 1 ∧
      (holds src.action → s.regsBut [state, acted] t ∧ regsFlt t ∧ others t)) ∧
    (s.rd state ≠ 1 ∨ ¬ends → exec (.graceExpiry ev) s = .next s) ∧
    (s.rd state ≠ 3 ∨ ¬ends → exec (.recessExpiry ev) s = .next s) ∧
    (s.rd state = 3 → ends → ∃ t, exec (.recessExpiry ev) s = .next t ∧ t.rd state = 0 ∧ t.rd acted = 0 ∧ t.rd seen = 0 ∧
      t.rd (Reg.FLT_SRC_STATUS_OWNED ev) = 0 ∧
      t.rd (Reg.FLT_SRC_STATUS_RECOVERIES ev) = (s.rd (Reg.FLT_SRC_STATUS_RECOVERIES ev) + 1) % 2 ^ (Reg.FLT_SRC_STATUS_RECOVERIES ev).width ∧
      others t ∧ newSrc t = {} ∧
      s.regsBut [state, acted, seen, Reg.FLT_SRC_STATUS_OWNED ev, Reg.FLT_SRC_STATUS_CFG_ERR ev, Reg.FLT_SRC_STATUS_RECOVERIES ev] t ∧
      regsFlt t) ∧
    (s.hostOpen Reg.FLT_ACK.addr →
      (s.rd state = 0 → ∃ t, exec (.fltAck ev late) s = .next t ∧ t.rd Reg.FLT_ACK_REJ = 1 ∧ t.rd Reg.FLT_ACK_SRC = ev ∧
        s.onlyRegs [Reg.FLT_ACK_SRC, Reg.FLT_ACK_LATE, Reg.FLT_ACK_REJ] t) ∧
      (s.rd state = 1 → ¬(late = true ∧ ends) → ∃ t, exec (.fltAck ev late) s = .next t ∧ settled caused t ∧ t.rd seen = 1 ∧
        t.rd (Reg.FLT_SRC_STATUS_OWNED ev) = 1 ∧ t.rd Reg.FLT_ACK_REJ = 0 ∧ t.rd acted = s.rd acted ∧ others t ∧ regsFlt t ∧
        s.regsBut [Reg.FLT_ACK_SRC, Reg.FLT_ACK_LATE, Reg.FLT_ACK_REJ, state, seen, Reg.FLT_SRC_STATUS_OWNED ev] t) ∧
      (s.rd state = 1 → ends → ∃ t, exec (.fltAck ev true) s = .next t ∧ settled caused t ∧
        t.rd seen = 1 ∧ t.rd acted = 1 ∧ t.rd Reg.FLT_ACK_LATE = 1 ∧ t.rd Reg.FLT_ACK_REJ = 0 ∧ (holds src.action →
        s.regsBut [Reg.FLT_ACK_SRC, Reg.FLT_ACK_LATE, Reg.FLT_ACK_REJ, state, seen, acted] t ∧ regsFlt t ∧ others t)) ∧
      (s.rd state = 2 ∨ s.rd state = 3 → ∃ t, exec (.fltAck ev late) s = .next t ∧ t.rd seen = 1 ∧ t.rd state = s.rd state ∧
        s.onlyRegs [Reg.FLT_ACK_SRC, Reg.FLT_ACK_LATE, Reg.FLT_ACK_REJ, seen] t)) ∧
    (s.hostOpen Reg.FLT_CMD_LIFE_SAVE.addr →
      (¬asked → ¬full → ∃ t, exec .lifeSave s = .next t ∧ t.rd Reg.FLT_CMD_LIFE_SAVE = 1 ∧ saved t ∧
        s.regsBut [Reg.FLT_CMD_LIFE_SAVE] t ∧ t = { s with regs := t.regs, jnl := t.jnl, flt := t.flt }) ∧
      (asked → ∃ t, exec .lifeSave s = .next t ∧ t.rd Reg.FLT_CMD_LIFE_SAVE = 1 ∧ s.onlyRegs [Reg.FLT_CMD_LIFE_SAVE] t) ∧
      (¬asked → full → ∃ t, exec .lifeSave s = .next t ∧ t.rd Reg.FLT_CMD_LIFE_SAVE = 0 ∧ s.onlyRegs [Reg.FLT_CMD_LIFE_SAVE] t)) ∧
    (s.flt.dirty = false ∨ asked → exec .lifetimeRecordWrite s = .next s) ∧
    (s.flt.dirty = true → ¬asked → ¬full → ∃ t, exec .lifetimeRecordWrite s = .next t ∧ saved t ∧ t = { s with jnl := t.jnl, flt := t.flt }) ∧
    (s.flt.dirty = true → ¬asked → full → ∃ t, exec .lifetimeRecordWrite s = .next t ∧ t.rd Reg.FLT_CMD_LIFE_SAVE = 0 ∧
      s.onlyRegs [Reg.FLT_CMD_LIFE_SAVE] t)

/-! ### Supplies, power states and resets (R423 to R444) -/

/-- R429 to R432: the supply monitors. A warning is shown and raised, its end recorded and counted; the stamps' SUPPLY flag
ends 10 µs after it; a crossing of the reset threshold clears GOOD with what it supplies, and GOOD returns; an island whose
supply fails is held and shown, and leaves reset when it recovers. -/
def Obligations.supplies : Prop :=
  ∀ (r : Fin 9) (us : Nat) (i : Fin 32) (s : State),
    let warn := Reg.PWR_RAIL_STATUS_WARN
    let good := Reg.PWR_RAIL_STATUS_GOOD
    let brown := Reg.PWR_BROWN_COUNT_COUNT
    let fault := Reg.PWR_ISL_FAULT_FAULT
    let last := Reg.RST_CAUSE_ISLAND_LAST
    let lock := Reg.TDC_CAL_STATUS_DLL_LOCK
    let down := s.clk.unpowered
    let shown := fun (t : State) => t.rd warn = maskClr (s.rd warn) r % 2 ^ warn.width ∧ t.rd Reg.PWR_RAIL_LAST_RAIL = r ∧
      t.rd Reg.PWR_RAIL_LAST_US = min us (2 ^ 24 - 1) ∧ t.rd brown = (s.rd brown + 1) % 2 ^ brown.width ∧ ¬t.present 3 r ∧
      ((r.val = 0 ∨ r.val = 3) → t.age .supply = 0) ∧ (r.val ≠ 0 → r.val ≠ 3 → t.timers = s.timers)
    let crosses := maskBit (s.rd good) r = true ∧ s.monitorOff r = false
    let lost := fun (t : State) => t.rd good = maskClr (s.rd good) r % 2 ^ good.width
    let relocks := r.val = 3 ∧ s.clk.tb = .locked ∧ s.awake = true
    let fails := i.val ≠ 0 ∧ s.railWarn 0 = false ∧ maskBit down i = false
    let failed := fun (t : State) => t.clk.unpowered = maskSet down i ∧ t.rd fault = maskSet down i % 2 ^ fault.width ∧ t.present 9 i ∧
      t.rd last = i
    let back := fun (t : State) => t.clk = { s.clk with unpowered := maskClr down i } ∧
      t.rd fault = maskClr down i % 2 ^ fault.width ∧ ¬t.present 9 i
    (s.monitorOff r = false → s.railWarn r = false → ∃ t, exec (.supplyWarning r) s = .next t ∧
      t.rd warn = maskSet (s.rd warn) r % 2 ^ warn.width ∧ t.present 3 r ∧ t.supplyFlag = (s.supplyFlag || decide (r.val = 0 ∨ r.val = 3)) ∧
      s.regsBut [warn] t ∧ t = { s with regs := t.regs, flt := t.flt, supplyFlag := t.supplyFlag }) ∧
    (s.monitorOff r = true ∨ s.railWarn r = true → exec (.supplyWarning r) s = .next s) ∧
    (s.railWarn r = false → exec (.supplyRecovery r us) s = .next s) ∧
    (s.railWarn r = true → s.jnl.ordered = false → ∃ t, exec (.supplyRecovery r us) s = .next t ∧ shown t ∧
      s.regsBut [warn, Reg.PWR_RAIL_LAST_RAIL, Reg.PWR_RAIL_LAST_US, brown] t ∧
      t = { s with regs := t.regs, flt := t.flt, timers := t.timers }) ∧
    (s.railWarn r = true → s.jnl.ordered = true → ∃ t, exec (.supplyRecovery r us) s = .next t ∧ shown t) ∧
    (s.railWarn 0 = true ∨ s.railWarn 3 = true ∨ s.ran .supply 10000 = false → exec .supplyFlagEnd s = .next s) ∧
    (s.railWarn 0 = false → s.railWarn 3 = false → s.ran .supply 10000 = true → ∃ t, exec .supplyFlagEnd s = .next t ∧
      t = { s with supplyFlag := false }) ∧
    (maskBit (s.rd good) r = false → exec (.railResetCrossing r) s = .next s) ∧
    (maskBit (s.rd good) r = true → s.monitorOff r = true → ∃ t, exec (.railResetCrossing r) s = .next t ∧ lost t ∧ s.onlyRegs [good] t) ∧
    (crosses → r.val = 0 → ∃ t, exec (.railResetCrossing r) s = .next t ∧
      t.pwr.vddcHold = true ∧ t.host.ready = false ∧ t.eng = [] ∧ t.commons = [] ∧ t.fuses = s.fuses ∧ t.nor = s.nor ∧
      t.rd Reg.RST_CAUSE_RAIL = 0) ∧
    (crosses → r.val = 1 → ∃ t, exec (.railResetCrossing r) s = .next t ∧
      t.pwr.porHold = true ∧ t.host.ready = false ∧ t.eng = [] ∧ t.commons = [] ∧ t.fuses = s.fuses ∧ t.nor = s.nor ∧
      t.rd Reg.RST_CAUSE_RAIL = 1) ∧
    (crosses → r.val = 2 → ∃ t, exec (.railResetCrossing r) s = .next t ∧ lost t ∧
      (∀ n < 16, t.slot n = { s.slot n with active := false }) ∧ s.regsBut [good] t ∧ t = { s with regs := t.regs, slots := t.slots }) ∧
    (crosses → r.val = 3 → ∃ t, exec (.railResetCrossing r) s = .next t ∧ lost t ∧
      (∀ ch < 52, t.rd (lock ch) = 0 ∧ (s.rd (lock ch) ≠ 0 → (t.chan ch).lost = true))) ∧
    (crosses → r.val = 4 → ∃ t, exec (.railResetCrossing r) s = .next t ∧ lost t ∧ (∀ k < 9, t.rd (Reg.APLL_STATUS_LOCK k) = 0)) ∧
    (crosses → r.val = 5 → ∃ t, exec (.railResetCrossing r) s = .next t ∧ lost t ∧ t.rd Reg.DEV_CLK_STATUS_XO_ACTIVE = 0 ∧
      (s.clk.xoArmed = true → t.present 0 0xFF) ∧ s.regsBut [good, Reg.DEV_CLK_STATUS_XO_ACTIVE] t ∧
      t = { s with regs := t.regs, clk := t.clk, flt := t.flt }) ∧
    (crosses → r.val = 6 → ∃ t, exec (.railResetCrossing r) s = .next t ∧ lost t ∧ t.rd last = 30 ∧ t.twin = {} ∧
      (∀ n < 4, t.rd (Reg.ETH_STATUS_LINK n) = 0 ∧ (t.port n).txts = [])) ∧
    (crosses → r.val = 7 → ∃ t, exec (.railResetCrossing r) s = .next t ∧ lost t ∧ t.rd last = 25 ∧ t.dram.mem = [] ∧
      t.rd Reg.EVR_STATUS_READY = 0) ∧
    (crosses → r.val = 8 → ∃ t, exec (.railResetCrossing r) s = .next t ∧ lost t ∧ t.jnl.op = none ∧
      (s.jnl.queue ≠ [] ∨ s.jnl.op ≠ none ∨ s.jnl.compacting = true → (⟨12, noInst, 0, false⟩ : Notice) ∈ t.flt.inflight)) ∧
    (maskBit (s.rd good) r = true → exec (.railGood r) s = .next s) ∧
    (maskBit (s.rd good) r = false → ¬relocks → ∃ t, exec (.railGood r) s = .next t ∧
      t.rd good = maskSet (s.rd good) r % 2 ^ good.width ∧ s.onlyRegs [good] t) ∧
    (maskBit (s.rd good) r = false → relocks → ∃ t, exec (.railGood r) s = .next t ∧
      t.rd good = maskSet (s.rd good) r % 2 ^ good.width ∧
      (∀ ch < 52, (s.chan ch).lost = true → t.rd (lock ch) = 1 ∧ t.rd (Reg.TDC_CAL_STATUS_CAL_BUSY ch) = 1 ∧
        t.rd (Reg.TDC_CAL_STATUS_TABLE_VALID ch) = 0 ∧ (t.chan ch).lost = false) ∧
      (∀ ch < 52, (s.chan ch).lost = false → t.chan ch = s.chan ch ∧ t.rd (lock ch) = s.rd (lock ch)) ∧
      t = { s with regs := t.regs, chans := t.chans, flt := t.flt }) ∧
    (¬fails → exec (.islandPowerFault i) s = .next s) ∧
    (fails → (i.val < 3 ∨ 18 < i.val) → ∃ t, exec (.islandPowerFault i) s = .next t ∧ failed t) ∧
    (fails → i.val = 2 ∨ i.val = 20 → ∃ t, exec (.islandPowerFault i) s = .next t ∧ failed t ∧ s.regsBut [fault, last] t ∧
      t = { s with regs := t.regs, clk := t.clk, flt := t.flt }) ∧
    (∀ n, fails → i.val = 3 + n → n < 16 → ∃ t, exec (.islandPowerFault i) s = .next t ∧ failed t ∧ (t.engine n).run = false ∧
      (t.engine n).stopped = true ∧ (∀ k < 16, k ≠ n → t.engine k = s.engine k) ∧
      (s.armed = true → s.subst.phase = .idle → t.subst.phase = .copying ∧ t.subst.eng = n ∧ t.rd (Reg.ENG_SUBST_REASON 16) = 3)) ∧
    (maskBit down i = false → exec (.islandPowerRecovery i) s = .next s) ∧
    (maskBit down i = true → (i.val < 3 ∨ 18 < i.val) → i.val ≠ 25 → ∃ t, exec (.islandPowerRecovery i) s = .next t ∧ back t ∧
      s.regsBut [fault] t ∧ t = { s with regs := t.regs, clk := t.clk, flt := t.flt }) ∧
    (maskBit down i = true → i.val = 25 → ∃ t, exec (.islandPowerRecovery i) s = .next t ∧ back t ∧ t.dram = s.dram ∧
      t.rd Reg.EVR_STATUS_READY = s.rd Reg.EVR_STATUS_READY ∧ (∀ r < 8, s.rd (Reg.EVR_RING_CFG_EN r) = 0 → t.ring r = {})) ∧
    (∀ n, maskBit down i = true → i.val = 3 + n → n < 16 → ∃ t, exec (.islandPowerRecovery i) s = .next t ∧ back t ∧
      (s.substituted n = true → t.eng = s.eng) ∧ (s.substituted n = false → (t.engine n).reload = some s.now ∧
        (t.engine n).run = false ∧ (t.engine n).imem = tabOf 0xFFFFFFFF (s.section n).imem ∧ (∀ k, k ≠ n → t.engine k = s.engine k)))

/-- R434 to R436, R438, R440, R444: power states, the watchdog and ISLAND resets. A refused move shows its reason, an accepted
one is busy until its completion shows the state, which for DOZE and OFF waits for journal writes and the lifetime record; the
watchdog restarts from TIMEOUT; a reset completes; ISLAND_GO resets the island it names. -/
def Obligations.power_states : Prop :=
  ∀ (target : Fin 4) (data : BitVec 32) (i : Fin 32) (s : State),
    let state := Reg.PWR_STATUS_STATE
    let busy := Reg.PWR_STATUS_BUSY
    let go := Reg.PWR_CMD_GO
    let reason := Reg.PWR_STATUS_REJ_REASON
    let v := data.toNat
    let e := s.powerRefuse target
    let named := s.hostOpen Reg.RST_CMD_SOFT.addr
    let last := Reg.RST_CAUSE_ISLAND_LAST
    let stopped := fun (n : Nat) (t : State) => (t.engine n).run = false ∧ (t.engine n).stopped = true ∧ (t.hostWords n).hout = []
    let goes := e = 0 ∧ target.val ≠ s.rd state
    let going := fun (t : State) => t.rd go = 1 ∧ t.rd busy = 1 ∧ t.rd reason = 0 ∧ t.rd Reg.PWR_CMD_TARGET = target ∧ t.rd state = s.rd state
    let arrived := fun (t : State) => t.rd state = s.pwr.target.getD 0 ∧ t.rd busy = 0 ∧ t.rd go = 0 ∧ t.pwr.target = none
    let waits := s.anyWarn = true ∨ s.jnl.queue ≠ []
    let records := s.pwr.final = false ∧ s.flt.dirty = true
    let wipes := (s.pwr.target = some 2 ∨ s.pwr.target = some 3) ∧ ¬waits ∧ ¬records
    (s.hostOpen go.addr →
      ((e ≠ 0 ∨ target.val = s.rd state) → ∃ t, exec (.powerStateGo target) s = .next t ∧ t.rd reason = e ∧ t.rd go = 0 ∧
        t.rd Reg.PWR_CMD_TARGET = target ∧ s.onlyRegs [Reg.PWR_CMD_TARGET, reason, go] t) ∧
      (goes → target.val < 2 → ∃ t, exec (.powerStateGo target) s = .next t ∧ going t ∧
        t.pwr = { s.pwr with target := some target.val, final := false } ∧ t.jnl = s.jnl ∧
        (target.val = 1 ∨ s.rd state = 2 → s.regsBut [Reg.PWR_CMD_TARGET, reason, go, busy] t ∧ t = { s with regs := t.regs, pwr := t.pwr }) ∧
        (target.val = 0 → s.rd state = 1 → ∀ k < 9, s.rd (Reg.APLL_CFG_EN k) ≠ 0 → (s.apll k).applied = true →
          t.rd (Reg.APLL_STATUS_LOCK k) = 0)) ∧
      (goes → 2 ≤ target.val → ∃ t, exec (.powerStateGo target) s = .next t ∧ going t ∧ t.jnl.shutting = true ∧
        t.pwr = { s.pwr with target := some target.val, final := (s.flt.dirty && !s.deferring) || !s.flt.dirty } ∧
        (s.flt.dirty = false ∨ s.deferring = true → t.jnl = { s.jnl with shutting := true } ∧
          s.regsBut [Reg.PWR_CMD_TARGET, reason, go, busy] t ∧ t = { s with regs := t.regs, pwr := t.pwr, jnl := t.jnl }) ∧
        (s.flt.dirty = true → s.deferring = false → (∀ r ∈ s.jnl.queue, r.who ≠ .collector) → s.jnl.queue.length < 16 →
          t.jnl.queue = s.jnl.queue ++ [⟨.collector, 0x11, 0, s.lifeBytes⟩] ∧ t.flt.dirty = false))) ∧
    (s.pwr.target = none → exec .powerTransitionComplete s = .next s) ∧
    (∀ v, s.pwr.target = some v → 2 ≤ v → waits → exec .powerTransitionComplete s = .next s) ∧
    (∀ v, s.pwr.target = some v → 2 ≤ v → ¬waits → records → ∃ t, exec .powerTransitionComplete s = .next t ∧ t.pwr.final = true ∧
      t.jnl.queue = [⟨.collector, 0x11, 0, s.lifeBytes⟩] ∧ t.jnl.shutting = true ∧ t.flt.dirty = false ∧
      t = { s with pwr := t.pwr, jnl := t.jnl, flt := t.flt }) ∧
    (s.pwr.target = some 0 → s.rd state ≠ 2 → ∃ t, exec .powerTransitionComplete s = .next t ∧ arrived t ∧ t.eng = s.eng ∧
      t.clk = s.clk ∧ t.aplls = s.aplls ∧
      (s.rd Reg.TWIN_CFG_EN ≠ 0 → s.twinRole = 0 → t.twinRole = 2 ∧ t.twin.heard = false ∧ t.age .seeking = 0) ∧
      (s.rd Reg.TWIN_CFG_EN = 0 ∨ s.twinRole ≠ 0 → t.twinRole = s.twinRole ∧ t.twin = s.twin)) ∧
    (s.pwr.target = some 0 → s.rd state = 2 → ∃ t, exec .powerTransitionComplete s = .next t ∧ arrived t ∧ t.clk = s.clk ∧ t.eng = s.eng ∧
      t.nor = s.nor ∧ t.fuses = s.fuses ∧ t.keys = s.keys ∧ t.dram.replaced = s.mapRows ∧
      (s.rd Reg.TWIN_STATUS_SOLO_STRAP ≠ 0 → t.twinRole = 1)) ∧
    (s.pwr.target = some 1 → ∃ t, exec .powerTransitionComplete s = .next t ∧ arrived t ∧
      t.pwr = { s.pwr with target := none, final := false } ∧ t.twinRole = (if s.twinRole = 1 then 1 else 0) ∧
      t.eng = s.eng ∧ t.slots = s.slots ∧ t.rings = s.rings ∧ t.clk = s.clk) ∧
    (wipes → ∃ t, exec .powerTransitionComplete s = .next t ∧ arrived t ∧ t.eng = [] ∧ t.commons = [] ∧
      t.fuses = s.fuses ∧ t.nor = s.nor ∧ t.keys = s.keys ∧ t.host.ready = true ∧
      (s.pwr.target = some 3 → t.ports = [] ∧ t.rd (Reg.ETH_STATUS_LINK 0) = 0)) ∧
    (s.hostOpen Reg.RST_WDOG_KICK_KICK.addr →
      (s.rd Reg.RST_WDOG_EN ≠ 0 → ∃ t, exec .wdogKick s = .next t ∧ t.age .wdog = 0 ∧
        t = { s with pwr := { s.pwr with wdog := max 1 (s.rd Reg.RST_WDOG_TIMEOUT) }, timers := t.timers }) ∧
      (s.rd Reg.RST_WDOG_EN = 0 → exec .wdogKick s = .next s)) ∧
    (s.hostOpen Reg.RST_WDOG_EN.addr → ∃ t, exec (.wdogEnable data) s = .next t ∧ t.rd Reg.RST_WDOG_EN = v / 2 ^ 31 ∧
      t.rd Reg.RST_WDOG_TIMEOUT = v % 2 ^ Reg.RST_WDOG_TIMEOUT.width ∧
      (s.rd Reg.RST_WDOG_EN = 0 → v / 2 ^ 31 = 1 → t.age .wdog = 0 ∧ t.pwr.wdog = max 1 (v % 2 ^ Reg.RST_WDOG_TIMEOUT.width)) ∧
      (s.rd Reg.RST_WDOG_EN ≠ 0 ∨ v / 2 ^ 31 = 0 → t.timers = s.timers ∧ t.pwr.wdog = s.pwr.wdog) ∧
      s.regsBut [Reg.RST_WDOG_EN, Reg.RST_WDOG_TIMEOUT] t ∧ t = { s with regs := t.regs, pwr := t.pwr, timers := t.timers }) ∧
    (s.rd Reg.RST_CAUSE_BUSY = 0 → exec .resetComplete s = .next s) ∧
    (s.rd Reg.RST_CAUSE_BUSY ≠ 0 → ∃ t, exec .resetComplete s = .next t ∧ t.rd Reg.RST_CAUSE_BUSY = 0 ∧
      (s.sysLocked = true → t.rd Reg.EVR_STATUS_READY = 1) ∧
      (s.sysLocked = false → t.rd Reg.EVR_STATUS_READY = s.rd Reg.EVR_STATUS_READY) ∧
      s.onlyRegs [Reg.RST_CAUSE_BUSY, Reg.EVR_STATUS_READY] t) ∧
    (named → resetIsland i = false → ∃ t, exec (.islandGo i) s = .next t ∧ t.rd Reg.RST_CMD_ISLAND = i ∧ s.onlyRegs [Reg.RST_CMD_ISLAND] t) ∧
    (named → i.val = 22 → ∃ t, exec (.islandGo i) s = .next t ∧ t.rd last = 22 ∧
      (∀ n < 24, t.slot n = { idle := s.up, gEnd := some (s.tb / msUnits * msUnits + s.gateLen n) }) ∧
      t.rd Reg.TWIN_STATUS_CAL_VALID = 0 ∧ t = { s with regs := t.regs, clk := t.clk, slots := t.slots }) ∧
    (∀ n, named → i.val = 3 + n → n < 16 → ∃ t, exec (.islandGo i) s = .next t ∧ t.rd last = i ∧ (t.engine n).run = false ∧
      (t.hostWords n).hout = [] ∧ (s.substituted n = false → (t.engine n).imem = tabOf 0xFFFFFFFF (s.section n).imem ∧
        (t.engine n).reload = some s.now) ∧ (s.substituted n = true → (t.engine n).stopped = true) ∧
      (∀ k, k ≠ n → t.engine k = s.engine k) ∧ t = { s with regs := t.regs, clk := t.clk, words := t.words, eng := t.eng }) ∧
    (named → i.val = 19 → ∃ t, exec (.islandGo i) s = .next t ∧ t.rd last = i ∧ stopped 16 t ∧
      (s.subst.phase = .copying → t.subst.phase = .idle) ∧ (s.subst.phase = .returning → t.subst.phase = .serving)) ∧
    (named → i.val = 25 → ∃ t, exec (.islandGo i) s = .next t ∧ t.rd last = i ∧ t.rd Reg.EVR_STATUS_READY = s.rd Reg.EVR_STATUS_READY ∧
      t.dram = s.dram ∧ (∀ r < 8, s.rd (Reg.EVR_RING_CFG_EN r) = 0 → t.ring r = {})) ∧
    (∀ n, named → i.val = 26 + n → n < 4 → ∃ t, exec (.islandGo i) s = .next t ∧ t.rd last = i ∧ t.rd (Reg.ETH_STATUS_LINK n) = 0 ∧
      t.rd (Reg.ETH_STATUS_RXCLK_OK n) = 0 ∧ (t.port n).line = .none ∧ (t.port n).txts = [] ∧
      (∀ q < 8, s.rd (Reg.ETH_TXQ_CFG_EN n q) ≠ 0 → t.rd (Reg.ETH_TXQ_PTR_TAIL n q) = 0) ∧ (∀ k, k ≠ n → t.port k = s.port k)) ∧
    (named → i.val = 30 → ∃ t, exec (.islandGo i) s = .next t ∧ t.rd last = 30 ∧ t.twin = {} ∧ ¬t.present 43 0 ∧ ¬t.present 43 1 ∧
      t = { s with regs := t.regs, clk := t.clk, twin := t.twin, commons := t.commons, flt := t.flt })

/-- R427, R437 to R439: what the resets leave. POR keeps the fuses and the NOR alone; a PIN reset keeps the keys and counts
besides, and the straps are sampled at its end; a held reset ends with its supply; the watchdog resets TIMEOUT ms after its start; a
reset of SOFT class stops the engines, forgets the image and empties the
queues of the rings; the host interfaces answer once the loads after POR are done. -/
def Obligations.resets : Prop :=
  ∀ (p : PorIn) (x : PinIn) (straps : Straps) (s : State),
    let kind := Reg.RST_CAUSE_KIND
    let busy := Reg.RST_CAUSE_BUSY
    let sat := fun (f : Fld) (t : State) => t.rd f = min (s.rd f + 1) (2 ^ f.width - 1)
    let strapped := fun (y : Straps) (t : State) => t.rd Reg.TWIN_STATUS_PAIR_ID = y.pair0.toNat ∧
      t.rd Reg.TWIN_STATUS_SOLO_STRAP = y.pair1.toNat ∧ t.rd Reg.HOST_STATUS_I2C_ADDR = 2 * y.i2c1.toNat + y.i2c0.toNat
    let dies := fun (t : State) => t.nor = s.nor ∧ t.fuses = s.fuses ∧ t.pending = s.pending
    let soft := fun (t : State) => t.rd busy = 1 ∧ t.rd Reg.PWR_STATUS_STATE = 0 ∧ t.eng = [] ∧ t.words = [] ∧ t.image = {} ∧
      t.subst = {} ∧ t.rings = [] ∧ t.roles = [] ∧ t.ports = [] ∧ t.out = [] ∧ dies t ∧ t.keys = s.keys
    let pins := ¬(x.ns < 100 ∨ (x.ns < 1000 ∧ x.taken = false) ∨ s.pwr.porHold = true)
    let barks := s.rd Reg.RST_WDOG_EN ≠ 0 ∧ s.awake = true ∧ s.rd busy = 0 ∧ s.ran .wdog (1000000 * s.pwr.wdog) = true
    (s.pwr.porHold = false → ∃ t, exec (.por p) s = .next t ∧ strapped p.straps t ∧ t.rd kind = 0 ∧ t.rd Reg.RST_CAUSE_RAIL = 15 ∧
      t.rd Reg.PWR_STATUS_SEQ_ERR = p.seqErr.toNat ∧ t.eng = [] ∧ t.commons = [] ∧ t.keys = [] ∧ t.host.ready = false ∧ dies t) ∧
    (s.host.ready = false → s.pwr.porHold = false → s.pwr.vddcHold = false → ∃ t, exec .porInitComplete s = .next t ∧
      t.host.ready = true ∧ dies t ∧ t.eng = s.eng ∧ t.commons = s.commons ∧ t.dram.replaced = s.mapRows) ∧
    (s.pwr.porHold = true → ∃ t, exec (.por p) s = .next t ∧ strapped p.straps t ∧ t.pwr = { s.pwr with porHold := false } ∧
      t.rd Reg.PWR_STATUS_SEQ_ERR = p.seqErr.toNat ∧ t.rd Reg.RST_CAUSE_RAIL = s.rd Reg.RST_CAUSE_RAIL ∧ t.eng = s.eng ∧ dies t) ∧
    (s.host.ready = true ∨ s.pwr.porHold = true ∨ s.pwr.vddcHold = true → exec .porInitComplete s = .next s) ∧
    (pins → s.pwr.vddcHold = false → ∃ t, exec (.pinReset x) s = .next t ∧ strapped x.straps t ∧ t.rd kind = 1 ∧ t.rd busy = 0 ∧
      t.rd Reg.PWR_STATUS_STATE = 0 ∧ sat Reg.RST_COUNT_PIN t ∧ t.eng = [] ∧ t.commons = [] ∧ t.host.ready = true ∧ dies t ∧
      t.flt.life = s.flt.life) ∧
    (pins → s.pwr.vddcHold = true → ∃ t, exec (.pinReset x) s = .next t ∧ t.rd kind = 1 ∧ t.rd busy = 0 ∧ t.pwr.vddcHold = true ∧
      t.host.ready = false ∧ t.eng = [] ∧ t.commons = [] ∧ sat Reg.RST_COUNT_PIN t ∧ dies t) ∧
    (¬pins → exec (.pinReset x) s = .next s) ∧
    (s.hostOpen Reg.RST_CMD_SOFT.addr → s.rd busy = 0 → ∃ t, exec .softReset s = .next t ∧ t.rd kind = 2 ∧ sat Reg.RST_COUNT_SOFT t ∧ soft t) ∧
    (s.hostOpen Reg.RST_CMD_SOFT.addr → s.rd busy ≠ 0 → exec .softReset s = .next s) ∧
    (¬barks → exec .wdogExpiry s = .next s) ∧
    (barks → ∃ t, exec .wdogExpiry s = .next t ∧
      t.rd kind = 3 ∧ sat Reg.RST_COUNT_WDOG t ∧ soft t) ∧
    (s.pwr.vddcHold = true → ∃ t, exec (.vddcResetRelease straps) s = .next t ∧ strapped straps t ∧ t.pwr.vddcHold = false ∧
      t.host.ready = true ∧ dies t ∧ t.eng = s.eng ∧ t.commons = s.commons) ∧
    (s.pwr.vddcHold = false → exec (.vddcResetRelease straps) s = .next s)

/-! ### The journal and the NOR (R445 to R458, R462, R470) -/

/-- R452 to R454, R457, R470: requests to the journal. An append of the host or of a slot with a type it may write is queued,
or answered DEFERRED, BUSY, BAD_TYPE or TOO_LONG; a FIND answers the record in force or NOT_FOUND; an order to compact is
answered OK, and starts a compaction that is due. -/
def Obligations.journal_requests : Prop :=
  ∀ (j : Fin 4) (s : State),
    let a := Reg.JNL_CMD_APPEND.addr
    let type := s.rd Reg.JNL_FIND_TYPE
    let key := s.rd Reg.JNL_FIND_KEY
    let len := s.rd Reg.JNL_FIND_LEN
    let bufs := (List.range 64).map Reg.JNL_BUF_DATA
    let answered := fun (r : Nat) (t : State) => t.rd Reg.JNL_RESULT = r ∧ t.rd Reg.JNL_RESULT_LEN = 0 ∧ t.rd Reg.JNL_CMD_APPEND = 0 ∧
      s.onlyRegs [Reg.JNL_RESULT, Reg.JNL_RESULT_LEN, Reg.JNL_CMD_APPEND] t
    let reply := (jnlSlotAt j + 0x3F8) / 8
    let answer := fun (op w r n : Nat) (t : State) => tabGet 0 reply t.commons =
        BitVec.ofNat 64 (op * 2 ^ 56 + w / 2 ^ 48 % 256 * 2 ^ 48 + r * 2 ^ 40 + n * 2 ^ 16)
    let said := fun (op w r : Nat) (t : State) => answer op w r 0 t ∧ (∀ i, i ≠ reply → tabGet 0 i t.commons = tabGet 0 i s.commons) ∧
      t = { s with commons := t.commons }
    let idle := s.jnl.compacting = true ∨ s.jnl.due = false
    let wants := s.jnl.compacting = false ∧ s.jnl.due = true
    let erasing := { s.jnl with phase := .erasing, ordered := false }
    let ordered := { s.jnl with ordered := true }
    (s.hostOpen a → s.rd Reg.JNL_CMD_APPEND ≠ 0 → exec .jnlAppend s = .next s) ∧
    (s.hostOpen a → s.rd Reg.JNL_CMD_APPEND = 0 →
      (hostType type = false → ∃ t, exec .jnlAppend s = .next t ∧ (answered 1) t) ∧
      (hostType type = true → 256 < len → ∃ t, exec .jnlAppend s = .next t ∧ (answered 6) t) ∧
      (hostType type = true → len ≤ 256 → s.deferring = true → ∃ t, exec .jnlAppend s = .next t ∧ (answered 3) t) ∧
      (hostType type = true → len ≤ 256 → s.deferring = false → 16 ≤ s.jnl.queue.length → ∃ t, exec .jnlAppend s = .next t ∧ (answered 2) t) ∧
      (hostType type = true → len ≤ 256 → s.deferring = false → s.jnl.queue.length < 16 → ∃ t, exec .jnlAppend s = .next t ∧
        t.rd Reg.JNL_CMD_APPEND = 1 ∧ t.jnl = { s.jnl with queue := s.jnl.queue ++ [⟨.host, type, key, s.bufBytes.take len⟩] } ∧
        s.regsBut [Reg.JNL_CMD_APPEND] t ∧ t = { s with regs := t.regs, jnl := t.jnl })) ∧
    (s.hostOpen a →
      ((type = 0x12 ∨ s.jnl.inForce type key = none) → ∃ t, exec .jnlFind s = .next t ∧
        t.rd Reg.JNL_RESULT = (if type = 0x12 then 1 else 4) ∧ t.rd Reg.JNL_RESULT_LEN = 0 ∧ t.rd Reg.JNL_CMD_FIND = 0 ∧
        s.onlyRegs [Reg.JNL_RESULT, Reg.JNL_RESULT_LEN, Reg.JNL_CMD_FIND] t) ∧
      (∀ r, type ≠ 0x12 → s.jnl.inForce type key = some r → ∃ t, exec .jnlFind s = .next t ∧
        t.rd Reg.JNL_RESULT = 0 ∧ t.rd Reg.JNL_RESULT_LEN = r.data.length % 2 ^ Reg.JNL_RESULT_LEN.width ∧ t.rd Reg.JNL_CMD_FIND = 0 ∧
        (∀ k < 64, t.rd (Reg.JNL_BUF_DATA k) = leRead (putBytes s.bufBytes 0 (r.data.take 256)) (4 * k) 4) ∧
        s.onlyRegs (bufs ++ [Reg.JNL_RESULT, Reg.JNL_RESULT_LEN, Reg.JNL_CMD_FIND]) t) ∧
      (∃ t, exec .jnlCompact s = .next t ∧ t.rd Reg.JNL_RESULT = 0 ∧ t.rd Reg.JNL_RESULT_LEN = 0 ∧ t.rd Reg.JNL_CMD_COMPACT = 0 ∧
        (wants → s.deferring = false → t.jnl = erasing) ∧ (wants → s.deferring = true → t.jnl = ordered ∧ t.commons = s.commons) ∧
        (idle → t.jnl = s.jnl ∧ t.commons = s.commons) ∧
        s.regsBut [Reg.JNL_RESULT, Reg.JNL_RESULT_LEN, Reg.JNL_CMD_COMPACT] t ∧ t = { s with regs := t.regs, jnl := t.jnl, commons := t.commons })) ∧
    (s.slotRequest j 1 = none → exec (.jnlSlotAppend j) s = .next s) ∧
    (s.slotRequest j 2 = none → exec (.jnlSlotFind j) s = .next s) ∧
    (s.slotRequest j 3 = none → exec (.jnlSlotCompact j) s = .next s) ∧
    (∀ w, s.slotRequest j 1 = some w →
      (lessonType (w / 2 ^ 40 % 256) = false → ∃ t, exec (.jnlSlotAppend j) s = .next t ∧ (said 1 w 1) t) ∧
      (lessonType (w / 2 ^ 40 % 256) = true → 1008 < w / 2 ^ 16 % 65536 → ∃ t, exec (.jnlSlotAppend j) s = .next t ∧ (said 1 w 6) t) ∧
      (lessonType (w / 2 ^ 40 % 256) = true → w / 2 ^ 16 % 65536 ≤ 1008 → s.deferring = true → ∃ t, exec (.jnlSlotAppend j) s = .next t ∧ (said 1 w 3) t) ∧
      (lessonType (w / 2 ^ 40 % 256) = true → w / 2 ^ 16 % 65536 ≤ 1008 → s.deferring = false → 16 ≤ s.jnl.queue.length →
        ∃ t, exec (.jnlSlotAppend j) s = .next t ∧ (said 1 w 2) t) ∧
      (lessonType (w / 2 ^ 40 % 256) = true → w / 2 ^ 16 % 65536 ≤ 1008 → s.deferring = false → s.jnl.queue.length < 16 →
        ∃ t, exec (.jnlSlotAppend j) s = .next t ∧ t.jnl = { s.jnl with queue := s.jnl.queue ++
          [⟨.slot j (w / 2 ^ 48 % 256), w / 2 ^ 40 % 256, w / 2 ^ 32 % 256, s.commonsRead (jnlSlotAt j + 8) (w / 2 ^ 16 % 65536)⟩] } ∧
          t = { s with jnl := t.jnl })) ∧
    (∀ w, s.slotRequest j 2 = some w →
      (lessonType (w / 2 ^ 40 % 256) = false → ∃ t, exec (.jnlSlotFind j) s = .next t ∧ (said 2 w 1) t) ∧
      (lessonType (w / 2 ^ 40 % 256) = true → s.jnl.inForce (w / 2 ^ 40 % 256) (w / 2 ^ 32 % 256) = none →
        ∃ t, exec (.jnlSlotFind j) s = .next t ∧ (said 2 w 4) t) ∧
      (∀ r, lessonType (w / 2 ^ 40 % 256) = true → s.jnl.inForce (w / 2 ^ 40 % 256) (w / 2 ^ 32 % 256) = some r →
        ∃ t, exec (.jnlSlotFind j) s = .next t ∧ answer 2 w 0 r.data.length t ∧
          (∀ i, i ≠ reply → tabGet 0 i t.commons = tabGet 0 i (ownerWrite true (jnlSlotAt j + 8) (r.data.take 1008) s).commons) ∧
          t = { s with commons := t.commons })) ∧
    (∀ w, s.slotRequest j 3 = some w →
      (idle → ∃ t, exec (.jnlSlotCompact j) s = .next t ∧ (said 3 w 0) t) ∧
      (wants → ∃ t, exec (.jnlSlotCompact j) s = .next t ∧ answer 3 w 0 0 t ∧ (s.deferring = false → t.jnl = erasing) ∧
        (s.deferring = true → t.jnl = ordered) ∧ t = { s with jnl := t.jnl, commons := t.commons }))

/-- R446, R449, R452, R455 to R458, R462: what the journal and the NOR do. The request served next is appended and answered, a
page that fails is counted and skipped; a compaction erases, copies the records in force and cleans; a failed erase ends it
with WORN; the scan discards a copy that was not committed; the host's NOR operations are refused, or read, start and end. -/
def Obligations.journal_media : Prop :=
  ∀ (ok : Bool) (ecc : Ecc) (bad : List (Fin 64)) (r : JnlReq) (s : State),
    let j := s.jnl
    let b := j.active.getD false
    let fails := Reg.JNL_COUNTS_FAILS
    let result := Reg.JNL_NOR_STATUS_RESULT
    let page := s.rd Reg.JNL_NOR_ADDR_ADDR / 256 * 256
    let block := s.rd Reg.JNL_NOR_ADDR_ADDR / 65536 * 65536
    let held := s.deferring = true ∨ j.phase = .erasing ∨ j.phase = .copying ∨ j.op ≠ none
    let asks := j.nextReq = some r ∧ ¬held
    let fits := recFits j.used r.data.length = true
    let serves := asks ∧ fits
    let leaves := fun (t : State) => t.jnl.queue = j.queue.erase r ∧ t.jnl.served = r.who.group
    let told := fun (e : Nat) (t : State) => r.who = .host → t.rd Reg.JNL_RESULT = e ∧ t.rd Reg.JNL_CMD_APPEND = 0
    let last := fun (l : List (Fin 17)) (t : State) => t.rd fails = (s.rd fails + min 3 l.length) % 2 ^ fails.width
    let steps := fun (p : Compaction) => j.phase = p ∧ s.anyWarn = false
    let a := Reg.JNL_NOR_CMD_READ.addr
    let refused := fun (cmd : Fld) (e : Nat) (t : State) => t.rd result = e ∧ t.rd cmd = 0 ∧ s.onlyRegs [result, cmd] t
    let begun := fun (cmd : Fld) (op : NorOp) (t : State) => t.rd cmd = 1 ∧ t.jnl = { j with op := some op } ∧
      s.regsBut [cmd] t ∧ t = { s with regs := t.regs, jnl := t.jnl }
    let worn := fun (t : State) => t.rd fails = (s.rd fails + 1) % 2 ^ fails.width ∧ t.jnl.worn = true ∧ t.jnl.phase = .none ∧
      s.regsBut [fails] t ∧ t = { s with regs := t.regs, jnl := t.jnl, flt := t.flt, commons := t.commons }
    (serves → j.active = some b → ∃ t, exec (.appendComplete []) s = .next t ∧
      (t.jnl.half b).recs = (j.half b).recs ++ [⟨r.type, r.key, j.seq, true, r.data⟩] ∧
      (t.jnl.half b).point = (j.half b).point + recBytes r.data.length ∧ t.jnl.half (!b) = j.half (!b) ∧ t.jnl.seq = j.seq + 1 ∧
      leaves t ∧ t.eng = s.eng ∧ t.slots = s.slots ∧ told 0 t ∧ (r.who = .collector → t.rd Reg.FLT_CMD_LIFE_SAVE = 0) ∧
      s.regsBut [Reg.JNL_RESULT, Reg.JNL_RESULT_LEN, Reg.JNL_CMD_APPEND, Reg.FLT_CMD_LIFE_SAVE] t ∧
      t = { s with regs := t.regs, jnl := t.jnl, commons := t.commons }) ∧
    (serves → j.active = none → ∃ t, exec (.appendComplete []) s = .next t ∧ t.jnl.half0 = {
        start := some j.seq
        commit := true
        recs := [⟨r.type, r.key, j.seq + 2, true, r.data⟩]
        point := 48 + recBytes r.data.length } ∧ t.jnl.seq = j.seq + 3 ∧
      leaves t ∧ told 0 t) ∧
    (∀ l, serves → l.length < 3 → ∃ t, exec (.appendComplete l) s = .next t ∧ last l t ∧ leaves t ∧ told 0 t ∧
      (∀ h, j.active = some h → (t.jnl.half h).recs = (j.half h).recs ++ [⟨r.type, r.key, j.seq, true, r.data⟩])) ∧
    (∀ l, serves → 3 ≤ l.length → ∃ t, exec (.appendComplete l) s = .next t ∧ last l t ∧ leaves t ∧ told 5 t ∧
      (∀ h, j.active = some h → (t.jnl.half h).recs = (j.half h).recs) ∧ (∃ n, (⟨12, noInst, n, false⟩ : Notice) ∈ t.flt.inflight)) ∧
    (∀ l, asks → ¬fits → j.worn = true → ∃ t, exec (.appendComplete l) s = .next t ∧ leaves t ∧ told 5 t ∧ t.jnl.half0 = j.half0 ∧
      t.jnl.half1 = j.half1) ∧
    (∀ l, asks → ¬fits → j.worn = false → j.compacting = true → exec (.appendComplete l) s = .next s) ∧
    (∀ l, asks → ¬fits → j.worn = false → j.compacting = false → ∃ t, exec (.appendComplete l) s = .next t ∧
      t.jnl = { j with phase := .erasing, ordered := false } ∧ t = { s with jnl := t.jnl, commons := t.commons }) ∧
    (j.nextReq = none ∨ held → ∀ l, exec (.appendComplete l) s = .next s) ∧
    (¬steps .erasing → exec (.compactionEraseDone ok) s = .next s) ∧ (¬steps .copying → exec .snapshotCommit s = .next s) ∧
    (¬steps .cleaning → exec (.oldHalfEraseDone ok) s = .next s) ∧
    (steps .erasing →
      (∃ t, exec (.compactionEraseDone true) s = .next t ∧ t.jnl = { j.putHalf (!b) {} with phase := .copying } ∧
        t = { s with jnl := t.jnl, commons := t.commons }) ∧
      (∃ t, exec (.compactionEraseDone false) s = .next t ∧ worn t ∧ t.jnl = { j with phase := .none, worn := true } ∧
        t.flt.inflight = s.flt.inflight ++ [⟨12, noInst, halfAddr (!b) 0 / 256, false⟩])) ∧
    (steps .copying → ∃ t, exec .snapshotCommit s = .next t ∧
      t.jnl.half (!b) = {
        start := some j.seq
        commit := true
        recs := renumber (j.seq + 1) j.snapshot
        point := 48 + ((renumber (j.seq + 1) j.snapshot).map (fun x => recBytes x.data.length)).sum } ∧
      t.jnl.half b = j.half b ∧ t.jnl.phase = .cleaning ∧
      t.rd Reg.JNL_COUNTS_COMPACTIONS = (s.rd Reg.JNL_COUNTS_COMPACTIONS + 1) % 2 ^ Reg.JNL_COUNTS_COMPACTIONS.width ∧
      s.regsBut [Reg.JNL_COUNTS_COMPACTIONS] t ∧ t = { s with regs := t.regs, jnl := t.jnl, commons := t.commons }) ∧
    (steps .cleaning → ∃ t, exec (.oldHalfEraseDone ok) s = .next t ∧
      (ok = true → t.jnl = { j.putHalf (!b) {} with phase := .none } ∧ t = { s with jnl := t.jnl, commons := t.commons }) ∧
      (ok = false → worn t ∧ t.jnl = { j with phase := .none, worn := true })) ∧
    (∃ t, exec (.journalScan bad) s = .next t ∧ t.jnl.porScan = false ∧ t.jnl.queue = j.queue ∧ t.nor = s.nor ∧ t.regs = s.regs ∧
      (j.porScan = false → t.keys = s.keys ∧ t.flt = s.flt)) ∧
    (j.porScan = true → j.phase = .none → ∃ t, exec (.journalScan bad) s = .next t ∧
      (∀ k : Fin 64, (j.inForce 0x12 k = none → tabGet [] k.val t.keys = tabGet [] k.val s.keys) ∧
        ∀ q, j.inForce 0x12 k = some q → (k ∈ bad → tabGet [] k.val t.keys = [] ∧ (⟨15, k, 0, false⟩ : Notice) ∈ t.flt.inflight) ∧
          (k ∉ bad → tabGet [] k.val t.keys = q.data)) ∧
      (∀ q, j.inForce 0x11 0 = some q → ∀ ev < 128, tabGet 0 ev t.flt.life = leRead q.data (4 * ev) 4)) ∧
    (j.phase ≠ .cleaning → j.due = true → j.ordered = true → s.deferring = false → j.phase ≠ .copying → ∃ t, exec (.journalScan bad) s = .next t ∧
      t.jnl.phase = .erasing ∧ t.jnl.ordered = false) ∧
    (j.phase = .copying → j.porScan = false → j.ordered = false → ∃ t, exec (.journalScan bad) s = .next t ∧
      t.jnl = { j.putHalf (!b) {} with phase := .none } ∧ t = { s with jnl := t.jnl, commons := t.commons }) ∧
    (j.phase = .none → j.porScan = false → j.ordered = false → ∃ t, exec (.journalScan bad) s = .next t ∧
      t.jnl = j ∧ t = { s with commons := t.commons }) ∧
    (s.hostOpen a →
      (∀ e, s.norRefuse page false = some e → ∃ t, exec (.norRead ecc) s = .next t ∧ (refused Reg.JNL_NOR_CMD_READ e) t) ∧
      (s.norRefuse page false = none → ecc = .double → ∃ t, exec (.norRead ecc) s = .next t ∧ (refused Reg.JNL_NOR_CMD_READ 7) t) ∧
      (s.norRefuse page false = none → ecc ≠ .double → ∃ t, exec (.norRead ecc) s = .next t ∧ t.rd result = 1 ∧
        t.rd Reg.JNL_NOR_CMD_READ = 0 ∧ (∀ k < 64, t.rd (Reg.JNL_BUF_DATA k) =
          leRead ((List.range 256).map (fun i => s.norByte (page + i))) (4 * k) 4) ∧ t = { s with regs := t.regs }) ∧
      (∀ e, s.norRefuse page true = some e → ∃ t, exec .norProgram s = .next t ∧ (refused Reg.JNL_NOR_CMD_PROGRAM e) t) ∧
      (s.norRefuse page true = none → j.op ≠ none → exec .norProgram s = .next s) ∧
      (s.norRefuse block true = none → j.op ≠ none → exec .norErase s = .next s) ∧
      (s.norRefuse page true = none → j.op = none → ∃ t, exec .norProgram s = .next t ∧ (begun Reg.JNL_NOR_CMD_PROGRAM ⟨false, page, s.bufBytes⟩) t) ∧
      (∀ e, s.norRefuse block true = some e → ∃ t, exec .norErase s = .next t ∧ (refused Reg.JNL_NOR_CMD_ERASE e) t) ∧
      (s.norRefuse block true = none → j.op = none → ∃ t, exec .norErase s = .next t ∧ (begun Reg.JNL_NOR_CMD_ERASE ⟨true, block, []⟩) t)) ∧
    (j.op = none → exec (.norOperationComplete ok) s = .next s) ∧
    (∀ op, j.op = some op → ∃ t, exec (.norOperationComplete true) s = .next t ∧
      (let n := if op.erase then 65536 else 256
      (∀ k < n, tabGet 0xFF (op.addr + k) t.nor = if op.erase then 0xFF else tabGet 0xFF (op.addr + k) s.nor &&& op.data.getD k 0xFF) ∧
      (∀ i, (i < op.addr ∨ op.addr + n ≤ i) → tabGet 0xFF i t.nor = tabGet 0xFF i s.nor) ∧ t.jnl = { j with op := none } ∧
      t.rd result = 1 ∧ t.rd Reg.JNL_NOR_CMD_PROGRAM = 0 ∧ t.rd Reg.JNL_NOR_CMD_ERASE = 0 ∧
      s.regsBut [result, Reg.JNL_NOR_CMD_PROGRAM, Reg.JNL_NOR_CMD_ERASE] t ∧ t = { s with regs := t.regs, jnl := t.jnl, nor := t.nor })) ∧
    (∀ op, j.op = some op → ∃ t, exec (.norOperationComplete false) s = .next t ∧
      t.rd result = 6 ∧ t.rd fails = (s.rd fails + 1) % 2 ^ fails.width ∧ t.jnl = { j with op := none } ∧
      t.flt.inflight = s.flt.inflight ++ [⟨12, noInst, op.addr / 256, false⟩] ∧
      (∀ i, (i < op.addr ∨ op.addr + (if op.erase then 65536 else 256) ≤ i) → tabGet 0xFF i t.nor = tabGet 0xFF i s.nor) ∧
      t = { s with regs := t.regs, jnl := t.jnl, nor := t.nor, flt := t.flt, free := t.free })

/-! ### Images, fuses, keys and the debug gate (R95 to R98, R459 to R468) -/

/-- R95, R98, R460, R461: loading an image. It is refused while an engine runs, else LOAD shows; a failed load reports its
RESULT, DETAIL and slot with an event and loads nothing; a good one loads every engine's section and reports the slot. -/
def Obligations.image_load : Prop :=
  ∀ (a b : ImageSet) (s : State),
    let load := Reg.DEV_LOAD_CMD_LOAD
    let result := Reg.DEV_LOAD_STATUS_RESULT
    let tries := s.loadTries a b
    let set := if tries.1 = 0 then a else b
    let report := [load, result, Reg.DEV_LOAD_STATUS_ENGINE, Reg.SEC_BOOT_STATUS_DETAIL, Reg.SEC_BOOT_STATUS_FIRST_RESULT,
      Reg.SEC_BOOT_STATUS_SLOT_USED]
    (s.hostOpen load.addr →
      (s.anyRunning = true → ∃ t, exec .imageLoad s = .next t ∧ t.rd load = 0 ∧ t.rd result = 7 ∧
        t.flt.inflight = s.flt.inflight ++ [⟨13, noInst, 7, false⟩] ∧ s.regsBut [load, result] t ∧ t = { s with regs := t.regs, flt := t.flt }) ∧
      (s.anyRunning = false → ∃ t, exec .imageLoad s = .next t ∧ t.rd load = 1 ∧ s.onlyRegs [load] t)) ∧
    (s.rd load = 0 → exec (.loadComplete a b) s = .next s) ∧
    (s.rd load ≠ 0 → tries.2.1.1 ≠ 1 → ∃ t, exec (.loadComplete a b) s = .next t ∧
      t.rd load = 0 ∧ t.rd result = tries.2.1.1 % 2 ^ result.width ∧
      t.rd Reg.SEC_BOOT_STATUS_SLOT_USED = tries.1 % 2 ^ Reg.SEC_BOOT_STATUS_SLOT_USED.width ∧
      t.flt.inflight = s.flt.inflight ++ [⟨13, noInst, tries.2.1.1, false⟩] ∧ s.regsBut report t ∧
      t = { s with regs := t.regs, flt := t.flt }) ∧
    (s.rd load ≠ 0 → tries.2.1.1 = 1 → ∃ t, exec (.loadComplete a b) s = .next t ∧
      t.rd load = 0 ∧ t.rd result = 1 ∧ t.image.standard = set.standard ∧ t.image.period = s.imagePeriod tries.1 ∧
      (∀ n < 16, (t.engine n).imem = tabOf 0xFFFFFFFF (set.sections.getD n {}).imem ∧
        (t.engine n).bind = (set.sections.getD n {}).bind ∧ (t.engine n).run = false) ∧
      (∀ n < 17, t.rd (Reg.ENG_ECC_UNC_I n) = 0 ∧ t.rd (Reg.ENG_ECC_UNC_D n) = 0) ∧
      t.subst.phase = .idle ∧ (⟨103, noInst, 0, false⟩ : Notice) ∈ t.flt.inflight ∧
      (set.standard = false → t.syl = s.syl) ∧
      (set.standard = true → t.syl.cal = s.tempCal ∧ ∀ p < 8, (t.sylPath p).use = (t.sylPath p).pol ∧
        (s.jnl.inForce 0x10 p = none → (t.sylPath p).model = (s.sylPath p).model)) ∧
      t = { s with
        regs := t.regs
        flt := t.flt
        eng := t.eng
        image := t.image
        subst := t.subst
        syl := t.syl
        fuses := t.fuses })

/-- R463, R464, R466, R467: fuses, keys and the debug gate. A fuse or key command that is not allowed shows its RESULT, an
allowed one waits for its completion, which programs the fuse or fills the slot and zeroes KEY_DATA; VOID empties a slot; a
token opens the gate or is refused, and either draws a new nonce; the gate is open once the keys are erased. -/
def Obligations.security : Prop :=
  ∀ (s : State),
    let sel := s.rd Reg.SEC_FUSE_CMD_SEL
    let prog := Reg.SEC_FUSE_CMD_PROG
    let result := Reg.SEC_FUSE_CMD_RESULT
    let picks := sel = 1 ∨ sel = 2 ∨ sel = 3 ∨ sel = 4 ∨ sel = 6 ∨ sel = 7
    let may := s.rd Reg.SEC_CTRL_FUSE_EN ≠ 0 ∧ s.anyWarn = false ∧ picks
    let len := s.rd Reg.SEC_KEY_CMD_LEN
    let slot := s.rd Reg.SEC_KEY_CMD_SLOT
    let ends := [Reg.SEC_KEY_CMD_RESULT, Reg.SEC_KEY_CMD_PROVISION, Reg.SEC_KEY_CMD_VOID]
    let keys := (List.range 16).map Reg.SEC_KEY_DATA_DATA
    let nonce := (List.range 4).map Reg.SEC_NONCE_DATA
    let shows := fun (r : Nat) (t : State) => t.rd Reg.SEC_KEY_CMD_RESULT = r ∧ t.rd Reg.SEC_KEY_CMD_PROVISION = 0 ∧ s.onlyRegs ends t
    let open' := s.rd Reg.SEC_CTRL_PROV_EN ≠ 0 ∧ s.gateClosed = true
    (s.hostOpen prog.addr → s.fuses.busy ≠ none → exec .fuseProg s = .next s) ∧
    (s.hostOpen prog.addr → s.fuses.busy = none →
      (¬may → ∃ t, exec .fuseProg s = .next t ∧ t.rd result = 2 ∧ t.rd prog = 0 ∧ s.onlyRegs [result, prog] t) ∧
      (may → sel ≠ 3 → s.fuseField sel ≠ 0 → ∃ t, exec .fuseProg s = .next t ∧ t.rd result = 3 ∧ t.rd prog = 0 ∧ s.onlyRegs [result, prog] t) ∧
      (may → (sel = 3 ∨ s.fuseField sel = 0) → ∃ t, exec .fuseProg s = .next t ∧ t.rd prog = 1 ∧
        t.fuses = { s.fuses with busy := some (sel, s.fuseData % 2 ^ fuseBits sel) } ∧ s.regsBut [prog] t ∧
        t = { s with regs := t.regs, fuses := t.fuses })) ∧
    (s.fuses.busy = none → ∀ ok, exec (.fuseProgramComplete ok) s = .next s) ∧
    (s.prov = none → ∀ ok, exec (.keyProvisionComplete ok) s = .next s) ∧
    (∀ k v, s.fuses.busy = some (k, v) →
      (∃ t, exec (.fuseProgramComplete true) s = .next t ∧ t.fuses = { s.fuses.put k (s.fuseField k ||| v) with busy := none } ∧
        t.rd result = 1 ∧ t.rd prog = 0 ∧ s.regsBut [result, prog] t ∧ t = { s with regs := t.regs, fuses := t.fuses }) ∧
      (∃ t, exec (.fuseProgramComplete false) s = .next t ∧ t.fuses.busy = none ∧ t.rd result = 4 ∧ t.rd prog = 0 ∧
        s.regsBut [result, prog] t ∧ t = { s with regs := t.regs, fuses := t.fuses, free := t.free })) ∧
    (s.hostOpen Reg.SEC_KEY_CMD_PROVISION.addr →
      (s.prov ≠ none → exec .keyProvision s = .next s) ∧
      (s.prov = none → ¬open' → ∃ t, exec .keyProvision s = .next t ∧ (shows 2) t) ∧
      (s.prov = none → open' → (len < 16 ∨ 64 < len) → ∃ t, exec .keyProvision s = .next t ∧ (shows 3) t) ∧
      (s.prov = none → open' → 16 ≤ len → len ≤ 64 → s.anyWarn = true → ∃ t, exec .keyProvision s = .next t ∧ (shows 4) t) ∧
      (s.prov = none → open' → 16 ≤ len → len ≤ 64 → s.anyWarn = false → ∃ t, exec .keyProvision s = .next t ∧
        t.rd Reg.SEC_KEY_CMD_PROVISION = 1 ∧ t.prov = some (slot, s.keyData.take len) ∧ s.regsBut [Reg.SEC_KEY_CMD_PROVISION] t ∧
        t = { s with regs := t.regs, prov := t.prov }) ∧
      (¬open' → ∃ t, exec .keyVoid s = .next t ∧ (shows 2) t) ∧
      (open' → s.anyWarn = true → ∃ t, exec .keyVoid s = .next t ∧ (shows 4) t) ∧
      (open' → s.anyWarn = false → ∃ t, exec .keyVoid s = .next t ∧ t.key slot = [] ∧ (∀ k, k ≠ slot → t.key k = s.key k) ∧
        t.rd Reg.SEC_KEY_CMD_RESULT = 1 ∧
        (∀ h x, x ∈ (t.jnl.half h).recs → x.type = 0x12 → x.key = slot → x.live = false ∧ ∀ y ∈ x.data, y = 0) ∧
        s.regsBut ends t ∧ t = { s with regs := t.regs, keys := t.keys, jnl := t.jnl })) ∧
    (∀ k key, s.prov = some (k, key) →
      (∃ t, exec (.keyProvisionComplete true) s = .next t ∧ t.prov = none ∧ t.key k = key ∧ (∀ i, i ≠ k → t.key i = s.key i) ∧
        (∀ i < 16, t.rd (Reg.SEC_KEY_DATA_DATA i) = 0) ∧ t.rd Reg.SEC_KEY_CMD_RESULT = 1 ∧ t.rd Reg.SEC_KEY_CMD_PROVISION = 0 ∧
        s.regsBut (keys ++ ends) t ∧ t = { s with regs := t.regs, prov := t.prov, keys := t.keys, jnl := t.jnl, commons := t.commons }) ∧
      (∃ t, exec (.keyProvisionComplete false) s = .next t ∧ t.prov = none ∧ t.key k = [] ∧ (∀ i, i ≠ k → t.key i = s.key i) ∧
        (∀ i < 16, t.rd (Reg.SEC_KEY_DATA_DATA i) = 0) ∧ t.rd Reg.SEC_KEY_CMD_RESULT = 5 ∧
        s.regsBut (keys ++ ends ++ [Reg.JNL_COUNTS_FAILS]) t ∧ t = { s with regs := t.regs, prov := t.prov, keys := t.keys })) ∧
    (s.hostOpen Reg.SEC_DEBUG_OPEN_GO.addr →
      (s.gateClosed = false → exec .debugOpenGo s = .next s) ∧
      (s.gateClosed = true → s.tokenOk = false → ∃ t, exec .debugOpenGo s = .next t ∧ t.rd Reg.SEC_STATUS_TOKEN_REJ = 1 ∧
        s.regsBut (Reg.SEC_STATUS_TOKEN_REJ :: nonce) t ∧ t = { s with regs := t.regs, free := t.free }) ∧
      (s.gateClosed = true → s.tokenOk = true → ∃ t, exec .debugOpenGo s = .next t ∧ t.rd Reg.SEC_STATUS_GATE = 1 ∧
        t.rd Reg.SEC_STATUS_ERASED = 0 ∧ t.rd Reg.SEC_STATUS_TOKEN_REJ = 0 ∧ t.keys = [] ∧ t.present 14 noInst ∧
        s.regsBut ([Reg.SEC_STATUS_TOKEN_REJ, Reg.SEC_STATUS_GATE, Reg.SEC_STATUS_ERASED] ++ nonce) t ∧
        t = { s with regs := t.regs, free := t.free, keys := t.keys, flt := t.flt })) ∧
    (s.rd Reg.SEC_STATUS_GATE ≠ 1 ∨ s.anyWarn = true ∨ s.prov ≠ none → exec .debugGateOpen s = .next s) ∧
    (s.rd Reg.SEC_STATUS_GATE = 1 → s.anyWarn = false → s.prov = none → ∃ t, exec .debugGateOpen s = .next t ∧
      t.rd Reg.SEC_STATUS_GATE = 2 ∧ t.rd Reg.SEC_STATUS_ERASED = 1 ∧
      (∀ h x, x ∈ (t.jnl.half h).recs → x.type = 0x12 → x.live = false ∧ ∀ y ∈ x.data, y = 0) ∧
      s.regsBut [Reg.SEC_STATUS_GATE, Reg.SEC_STATUS_ERASED] t ∧ t = { s with regs := t.regs, jnl := t.jnl })

/-! ### Self-tests, the repair map and the TAP (R474 to R485) -/

/-- R474, R475, R477 to R480: self-tests. GO begins the test of a unit whose condition holds, else shows REFUSED; the test's end
shows its RESULT and what it leaves in the unit; a save of the repair map is deferred, written, failed or refused. -/
def Obligations.self_tests : Prop :=
  ∀ (e : Nat) (d : BitVec 24) (rows : List (BitVec 17)) (hits : List Nat) (mean sd : Int) (fail : Bool) (s : State),
    let target := s.rd Reg.TST_BIST_CMD_TARGET
    let i := s.rd Reg.TST_BIST_CMD_INDEX
    let go := Reg.TST_BIST_CMD_GO
    let busy := Reg.TST_BIST_STATUS_BUSY
    let result := Reg.TST_BIST_STATUS_RESULT
    let detail := Reg.TST_BIST_STATUS_DETAIL
    let save := Reg.TST_REPAIR_CMD_RESULT
    let done := fun (r : Nat) (t : State) => t.rd result = r ∧ t.rd busy = 0 ∧ t.rd go = 0 ∧ t.bist = none
    let ends := [result, detail, busy, go]
    let failed := s.rd Reg.TST_REPAIR_APLL_FAILED
    let a := Reg.TST_REPAIR_CMD_SAVE_TDC.addr
    let roles := repairTdcOk s.repairTdc = true
    let apll := failed < 8 ∨ failed = 0xFF
    let recorded := fun (cmd : Fld) (t : State) => t.rd save = 1 ∧ t.rd cmd = 0 ∧ s.regsBut [save, cmd] t ∧
      t = { s with regs := t.regs, jnl := t.jnl, commons := t.commons }
    let refused := fun (cmd : Fld) (r : Nat) (t : State) => t.rd save = r ∧ t.rd cmd = 0 ∧ s.onlyRegs [save, cmd] t
    let valid := Reg.TDC_CAL_STATUS_TABLE_VALID
    let left := Config.dramSparesLeft - s.dram.replaced.length
    let tests := fun (n : Nat) => s.bist.map Prod.fst = some n
    let skips := fun (x : BistOut) => exec (.bistComplete x) s = .next s
    (s.hostOpen go.addr →
      (s.bist.isSome = true → exec .bistGo s = .next s) ∧
      (s.bist = none → s.testAllowed target i = false → ∃ t, exec .bistGo s = .next t ∧ t.rd result = 3 ∧ t.rd go = 0 ∧ s.onlyRegs [result, go] t) ∧
      (s.bist = none → s.testAllowed target i = true → target = 1 → ∃ t, exec .bistGo s = .next t ∧ t.rd go = 1 ∧ t.rd busy = 1 ∧
        t.bist = some (1, i) ∧ s.regsBut [go, busy] t ∧ t = { s with regs := t.regs, bist := t.bist }) ∧
      (s.bist = none → s.testAllowed target i = true → target = 2 → ∃ t, exec .bistGo s = .next t ∧ t.rd go = 1 ∧ t.rd busy = 1 ∧
        t.rd (valid i) = 0 ∧ t.rd (Reg.TDC_CAL_STATUS_CAL_BUSY i) = 1 ∧ t.bist = some (2, i) ∧
        s.regsBut [go, busy, valid i, Reg.TDC_CAL_STATUS_CAL_BUSY i] t ∧ t = { s with regs := t.regs, bist := t.bist }) ∧
      (s.bist = none → s.testAllowed target i = true → target = 3 → ∃ t, exec .bistGo s = .next t ∧ t.rd go = 1 ∧ t.rd busy = 1 ∧
        t.rd (Reg.APLL_STATUS_LOCK 8) = 0 ∧ t.rd (Reg.APLL_STATUS_STATE 8) = 0 ∧ t.bist = some (3, i) ∧
        t.apll 8 = { s.apll 8 with mirror := none } ∧ (∀ k, k ≠ 8 → t.apll k = s.apll k) ∧
        s.regsBut [go, busy, Reg.APLL_STATUS_LOCK 8, Reg.APLL_STATUS_STATE 8] t ∧ t = { s with regs := t.regs, bist := t.bist, aplls := t.aplls }) ∧
      (s.bist = none → s.testAllowed target i = true → target = 4 → ∃ t, exec .bistGo s = .next t ∧ t.rd go = 1 ∧ t.rd busy = 1 ∧
        t.rd Reg.EVR_STATUS_READY = 0 ∧ t.bist = some (4, i) ∧ s.regsBut [go, busy, Reg.EVR_STATUS_READY] t ∧
        t = { s with regs := t.regs, bist := t.bist })) ∧
    (s.bist = some (1, e) →
      (∃ t, exec (.bistComplete (.engine none)) s = .next t ∧ done 1 t ∧ t.rd (Reg.ENG_ECC_UNC_I e) = 0 ∧ t.rd (Reg.ENG_ECC_UNC_D e) = 0 ∧
        (∀ k < 8192, tabGet 0xFFFFFFFF k (t.engine e).imem = 0 ∧ tabGet 0 k (t.engine e).dmem = 0) ∧ (∀ k, k ≠ e → t.engine k = s.engine k) ∧
        s.regsBut ([Reg.ENG_ECC_UNC_I e, Reg.ENG_ECC_UNC_D e] ++ ends) t ∧ t = { s with regs := t.regs, eng := t.eng, bist := t.bist }) ∧
      (∃ t, exec (.bistComplete (.engine (some d))) s = .next t ∧ done 2 t ∧ t.rd detail = d.toNat % 2 ^ detail.width ∧ s.regsBut ends t ∧
        (∀ k, k ≠ e → t.engine k = s.engine k) ∧ t = { s with regs := t.regs, eng := t.eng, bist := t.bist })) ∧
    (s.bist = some (2, e) → ∃ t, exec (.bistComplete (.tdc hits mean sd)) s = .next t ∧ t.rd busy = 0 ∧ t.rd go = 0 ∧ t.bist = none ∧
      t.rd detail = (max 0 (min (2 ^ 24 - 1) (roundDiv mean 64))).toNat ∧ (t.rd result = 1 ∨ t.rd result = 2) ∧
      (t.rd result = 1 ↔ t.rd (valid e) = 1) ∧ (t.rd result = 2 ↔ t.rd (Reg.TDC_CAL_STATUS_CAL_FAIL e) = 1) ∧
      ((hits.any (fun x => decide (4 * s.calHits < 512 * x)) = true ∨ 5 * 65536 < (mean - 524288).natAbs * 1000 ∨
        25 * 65536 < sd * 10000) ↔ t.rd result = 2)) ∧
    (s.bist = some (3, e) → ∃ t, exec (.bistComplete (.apll none)) s = .next t ∧ (done 1) t) ∧
    (∀ b : Fin 48, s.bist = some (3, e) → ∃ t, exec (.bistComplete (.apll (some b))) s = .next t ∧ done 2 t ∧ t.rd detail = b.val ∧
      s.regsBut ends t ∧ t = { s with regs := t.regs, bist := t.bist }) ∧
    (s.bist = some (4, e) → ∃ t, exec (.bistComplete (.dram [])) s = .next t ∧ done 1 t ∧ t.rd Reg.EVR_STATUS_READY = 1 ∧
      (∀ k, t.dramWord k = 0) ∧ t.dram.replaced = s.dram.replaced ∧ s.regsBut (Reg.EVR_STATUS_READY :: ends) t ∧
      t = { s with regs := t.regs, dram := t.dram, bist := t.bist }) ∧
    (s.bist = some (4, e) → rows ≠ [] → ∃ t, exec (.bistComplete (.dram rows)) s = .next t ∧ (rows.length ≤ left → done 5 t ∧
        t.rd detail = rows.length % 2 ^ detail.width) ∧
      (left < rows.length → done 2 t ∧ t.rd detail = 0x800000 + (rows.getD left 0).toNat) ∧ t.rd Reg.EVR_STATUS_READY = 1 ∧
      (∀ k, t.dramWord k = 0) ∧ t.dram.replaced = s.dram.replaced ++ (rows.take left).map (·.toNat)) ∧
    (¬tests 1 → ∀ f, skips (.engine f)) ∧ (¬tests 2 → skips (.tdc hits mean sd)) ∧ (¬tests 3 → ∀ b, skips (.apll b)) ∧
    (¬tests 4 → skips (.dram rows)) ∧
    (s.hostOpen a →
      (¬roles → ∃ t, exec (.saveTdc fail) s = .next t ∧ (refused Reg.TST_REPAIR_CMD_SAVE_TDC 4) t) ∧
      (roles → s.deferring = true → ∃ t, exec (.saveTdc fail) s = .next t ∧ (refused Reg.TST_REPAIR_CMD_SAVE_TDC 2) t) ∧
      (roles → s.deferring = false → ∃ t, exec (.saveTdc false) s = .next t ∧ recorded Reg.TST_REPAIR_CMD_SAVE_TDC t ∧
        t.jnl = (jnlPut 0x14 0 (s.repairTdc.map (BitVec.ofNat 8)) s).jnl) ∧
      (roles → s.deferring = false → ∃ t, exec (.saveTdc true) s = .next t ∧ t.rd save = 3 ∧ t.rd Reg.TST_REPAIR_CMD_SAVE_TDC = 0 ∧
        t.flt.inflight = s.flt.inflight ++ [⟨12, noInst, 0, false⟩] ∧ t = { s with regs := t.regs, flt := t.flt }) ∧
      (¬apll → ∃ t, exec (.saveApll fail) s = .next t ∧ (refused Reg.TST_REPAIR_CMD_SAVE_APLL 4) t) ∧
      (apll → s.deferring = true → ∃ t, exec (.saveApll fail) s = .next t ∧ (refused Reg.TST_REPAIR_CMD_SAVE_APLL 2) t) ∧
      (apll → s.deferring = false → ∃ t, exec (.saveApll true) s = .next t ∧ t.rd save = 3 ∧ t.rd Reg.TST_REPAIR_CMD_SAVE_APLL = 0 ∧
        t.flt.inflight = s.flt.inflight ++ [⟨12, noInst, 0, false⟩] ∧ t = { s with regs := t.regs, flt := t.flt }) ∧
      (apll → s.deferring = false → ∃ t, exec (.saveApll false) s = .next t ∧ recorded Reg.TST_REPAIR_CMD_SAVE_APLL t ∧
        t.jnl = (jnlPut 0x14 2 (BitVec.ofNat 8 failed :: List.replicate 3 0) s).jnl))

/-- R483 to R485: the TAP. Every instruction is taken into the instruction register; where the pins return to the core, each
output that carries a signal starts again from low; IDCODE is answered; SCAN_INT, behind the debug gate, leaves the queue, the
dies, the fuses and the supplies; the fabric is reached through the gate and by no other way. -/
def Obligations.tap_commands : Prop :=
  ∀ (acc : Option FabricAcc) (s : State),
    let takes := [(Instr.jtagExtest, 0x00), (.jtagSamplePreload, 0x02), (.jtagClamp, 0x04), (.jtagHighz, 0x05),
      (.jtagExtestPulse, 0x08), (.jtagExtestTrain, 0x09), (.jtagBypass, 0xFF), (.jtagTapReset, 0x01)]
    let held := fun (op : Nat) => op = 0 ∨ op = 4 ∨ op = 5 ∨ op = 8 ∨ op = 9
    let selected := fun (op : Nat) (t : State) => t.jtag = op ∧ (¬held s.jtag ∨ held op → t.outs = s.outs) ∧
      (held s.jtag → ¬held op → ∀ o < 32, t.outp o = if (s.outp o).shown < 4 then { s.outp o with shown := 4 } else s.outp o) ∧
      t = { s with jtag := t.jtag, outs := t.outs, hostRead := t.hostRead }
    (∀ r ∈ takes, ∃ t, exec r.1 s = .next t ∧ selected r.2 t ∧ t.hostRead = s.hostRead) ∧
    (∃ t, exec .jtagIdcode s = .next t ∧ selected 1 t ∧ t.hostRead = [BitVec.ofNat 32 (s.rd Reg.TST_JTAG_ID_ID)]) ∧
    (s.gateOpen = false → (∃ t, exec .jtagScanInt s = .next t ∧ selected 0xFF t ∧ t.hostRead = s.hostRead) ∧
      (∃ t, exec (.jtagFabric acc) s = .next t ∧ selected 0xFF t ∧ t.hostRead = s.hostRead)) ∧
    (s.gateOpen = true → ∃ t, exec .jtagScanInt s = .next t ∧ t.pending = s.pending ∧ t.nor = s.nor ∧ t.fuses = s.fuses ∧ t.pwr = s.pwr ∧
      t.hostMem = s.hostMem ∧ t.clk = { stopped := 2 ^ 32 - 1, unpowered := s.clk.unpowered } ∧ t.jtag = 0x41 ∧ t.scan = true) ∧
    (s.gateOpen = true → ∃ t, exec (.jtagFabric none) s = .next t ∧ selected 0x40 t ∧ t.hostRead = s.hostRead) ∧
    (s.gateOpen = true → ∀ x, acc = some x → s.hostAlive = false ∨ x.addr.toNat % 4 ≠ 0 → ∃ t, exec (.jtagFabric acc) s = .next t ∧
      selected 0x40 t ∧ t.hostRead = (if x.w = none then [0] else s.hostRead)) ∧
    (s.gateOpen = true → ¬held s.jtag → ∀ x v, acc = some x → x.w = some v → s.hostAlive = true → x.addr.toNat % 4 = 0 →
      x.addr.toNat < 0x7000 → ∃ t, exec (.jtagFabric acc) s = .next t ∧
        t = (homeAccess x.addr.toNat (some v) { s with jtag := 0x40 }).s) ∧
    (s.gateOpen = true → ¬held s.jtag → ∀ x, acc = some x → x.w = none → s.hostAlive = true → x.addr.toNat % 4 = 0 →
      x.addr.toNat < 0x7000 → s.rd Reg.PWR_STATUS_STATE ≠ 2 → ∃ t, exec (.jtagFabric acc) s = .next t ∧
        t.hostRead = [({ s with jtag := 0x40 }).readWord x.addr.toNat] ∧ t = { s with jtag := 0x40, hostRead := t.hostRead })

/-! ### The host interfaces (R13 to R17, R23, R398 to R422) -/

/-- R13, R15 to R17, R23, R75, R400, R401, R405, R407 to R410: accesses of the register fabric. A write reaches the fields of
its register; a locked field drops it with LOCK_VIOLATION; a register that is not reached takes nothing and raises
FABRIC_UNREACHABLE; an address without a register takes nothing; a read of a LO half answers it and captures its HI half; a
pair's data register reaches its address or shows why not; LEG keeps three copies, and the scrubber lists mismatches. -/
def Obligations.fabric_words : Prop :=
  ∀ (addr : BitVec 18) (data : BitVec 32) (n : Fin 16) (m : Fin 4) (w : Option (BitVec 32)) (ev : Fin 96) (bit : Fin 8) (idx : Fin 256) (s : State),
    let a := addr.toNat
    let v := data.toNat
    let gpio := [Reg.DEV_GPIO_CFG_OE, Reg.DEV_GPIO_CFG_IDLE]
    let at' := 4 * s.rd (Reg.IX_A_ADDR n)
    let alive := s.hostAlive = true ∧ s.rd Reg.PWR_STATUS_STATE ≠ 2
    let hi := Reg.TS_INC_HI_DATA m
    let corrected := Reg.HOST_LEG_STATUS_CORRECTED
    let flip : RegUpset := ⟨0xB0#18, BitVec.ofNat 32 (2 ^ bit.val)⟩
    (s.hostOpen 0xB0 → ∃ t, exec (.registerWrite 0xB0#18 data) s = .next t ∧
      (∀ f ∈ gpio, t.rd f = v / 2 ^ f.lo % 2 ^ f.width) ∧ s.onlyRegs gpio t) ∧
    (s.hostOpen (0x3000 + 4 * ev) → s.rd Reg.FLT_CTRL_LOCK ≠ 0 → reservedEv ev = false →
      ∃ t, exec (.registerWrite (BitVec.ofNat 18 (0x3000 + 4 * ev)) data) s = .next t ∧ t.regs = s.regs ∧
        t.flt.inflight = s.flt.inflight ++ [⟨7, noInst, 0x3000 + 4 * ev, false⟩]) ∧
    (s.hostAlive = false → exec (.registerWrite addr data) s = .next s) ∧
    (alive → s.reaches true a = true → fieldsAt a = [] → ¬(0x8000 ≤ a ∧ a < 0x10000) → exec (.registerWrite addr data) s = .next s) ∧
    (alive → s.rd Reg.PWR_STATUS_STATE < 2 → ∀ i, islandOf a = some i → s.reaches true a = false → ∃ t, exec (.registerWrite addr data) s = .next t ∧
      t = { s with flt := { s.flt with inflight := s.flt.inflight ++ [⟨8, i, a, false⟩] } }) ∧
    (alive → s.reaches false (0x30010 + 0x40 * m) = true → ∃ t, exec (.pairLoRead (BitVec.ofNat 18 (0x30010 + 0x40 * m))) s = .next t ∧
      t.hostRead = [BitVec.ofNat 32 (s.incWord m false)] ∧ t.rd hi = s.incWord m false / 2 ^ 32 % 2 ^ 32 ∧ s.regsBut [hi] t ∧
      t = { s with regs := t.regs, hostRead := t.hostRead }) ∧
    (alive → s.hostOpen (0x8000 + 0x10 * n) → ∃ t, exec (.ixaWrite n data) s = .next t ∧ t.rd (Reg.IX_A_ADDR n) = v / 4 % 2 ^ 16 ∧
      s.onlyRegs [Reg.IX_A_ADDR n] t) ∧
    (alive → s.rd (Reg.IX_C_AUTO_INC n) = 0 → at' < 0x10000 → ∃ t, exec (.ixdAccess n w) s = .next t ∧
      t.rd (Reg.IX_S_ADDR_ERR n) = 1 ∧ (w = none → t.hostRead = [0]) ∧ s.regsBut [Reg.IX_S_ADDR_ERR n] t ∧
      t = { s with regs := t.regs, hostRead := t.hostRead }) ∧
    (alive → s.rd (Reg.IX_C_AUTO_INC n) ≠ 0 → at' = 0x20000 → s.reaches false 0x20000 = true → ∃ t, exec (.ixdAccess n none) s = .next t ∧
      t.hostRead = [(s.path 0).word.extractLsb' 0 32] ∧ t.rd (Reg.PATH_DCO_HI_DATA 0) = (s.path 0).word.toNat / 2 ^ 32 ∧
      t.rd (Reg.IX_A_ADDR n) = 0x8001 ∧ t.rd (Reg.IX_S_ADDR_ERR n) = 0 ∧ t.rd (Reg.IX_S_UNREACH n) = 0 ∧
      s.regsBut [Reg.PATH_DCO_HI_DATA 0, Reg.IX_A_ADDR n, Reg.IX_S_ADDR_ERR n, Reg.IX_S_UNREACH n] t ∧
      t = { s with regs := t.regs, hostRead := t.hostRead }) ∧
    (alive → (2 ≤ idx.val ∧ idx.val < 16) → exec (.legWrite idx data) s = .next s) ∧
    (alive → 148 ≤ idx.val → ∃ t, exec (.legWrite idx data) s = .next t ∧ t.legCopies idx = ⟨v, v, v⟩ ∧
      t.rd Reg.HOST_LEG_STATUS_UNMAPPED = (s.rd Reg.HOST_LEG_STATUS_UNMAPPED + 1) % 2 ^ 16 ∧
      (∀ k, k ≠ idx.val → t.legCopies k = s.legCopies k) ∧ s.regsBut [Reg.HOST_LEG_STATUS_UNMAPPED] t ∧
      t = { s with regs := t.regs, host := { s.host with leg := t.host.leg } }) ∧
    (alive → s.parity.length < 16 → s.host.unlisted = [] → s.mismatched 0xB0 = false → ∃ t, exec (.parityScrub [flip] []) s = .next t ∧
      t.parity = s.parity ++ [0xB0] ∧ t.present 6 noInst ∧ t.rd Reg.DEV_GPIO_CFG_OE = Nat.xor (s.rd Reg.DEV_GPIO_CFG_OE) (2 ^ bit.val) % 256 ∧
      t.rd Reg.HOST_PARITY_FOUND = (s.rd Reg.HOST_PARITY_FOUND + 1) % 2 ^ 16 ∧ t.rd corrected = s.rd corrected ∧ t.rd Reg.DEV_GPIO_CFG_IDLE = s.rd Reg.DEV_GPIO_CFG_IDLE)

/-- R399, R411 to R416: SPI and I2C. A frame answers its status byte; a bad address shows ADDR_ERR, or is not acknowledged, and
reaches nothing; words are read from and written to consecutive registers; the read issued ahead is held; a timeout counts. -/
def Obligations.serial_ports : Prop :=
  ∀ (addr : BitVec 24) (n : Nat) (words : List (BitVec 32)) (drop : List Nat) (data : BitVec 32) (s : State),
    let a := addr.toNat
    let byte := BitVec.ofNat 32 s.spiByte
    let last := Reg.HOST_SPI_STATUS_LAST
    let begun := ({ s with host := { s.host with spiFlags := 0 } } : State).wr last s.spiByte
    let awake := s.portsReady = true ∧ s.rd Reg.PWR_STATUS_STATE ≠ 2
    let gpio := [Reg.DEV_GPIO_CFG_OE, Reg.DEV_GPIO_CFG_IDLE]
    let fromI := fun (b : Nat) => (List.range n).map (fun k => s.readWord (b + 4 * k))
    let quiet := a % 4 = 0 ∧ a + 4 * n + 4 ≤ 0x7000
    let timeout := Reg.HOST_I2C_STATUS_TIMEOUT
    let out := fun (t : State) => (∀ f ∈ gpio, t.rd f = data.toNat / 2 ^ f.lo % 2 ^ f.width)
    (s.portsReady = false → exec (.spiRead addr ⟨n, none⟩) s = .next s ∧ exec (.spiWrite addr words false drop) s = .next s ∧
      exec (.spiStatus .none) s = .next s ∧ exec (.i2cRead addr n) s = .next s ∧ exec .i2cTimeout s = .next s) ∧
    (awake → ∃ t, exec (.spiStatus .none) s = .next t ∧ t = { begun with hostRead := [byte] }) ∧
    (awake → s.host.held = none → badAddr a = true → ∃ t, exec (.spiRead addr ⟨n, none⟩) s = .next t ∧
      t.hostRead = byte :: List.replicate n 0 ∧ t.host.spiFlags = 4 ∧ s.regsBut [last] t ∧
      t = { s with regs := t.regs, host := { s.host with spiFlags := 4 }, hostRead := t.hostRead }) ∧
    (awake → s.host.held = none → quiet → ∃ t, exec (.spiRead addr ⟨n, none⟩) s = .next t ∧
      t.hostRead = byte :: (List.range n).map (fun k => begun.readWord (a + 4 * k)) ∧ t.host.spiFlags = 0 ∧
      t.host.held = some (a + 4 * n, (begun.readWord (a + 4 * n)).toNat) ∧ s.regsBut [last] t ∧
      t = { s with regs := t.regs, host := t.host, hostRead := t.hostRead }) ∧
    (awake → s.host.held = none → s.mismatched 0xB0 = false → ∃ t, exec (.spiWrite 0xB0#24 [data] false drop) s = .next t ∧ out t ∧
      t.host.spiFlags = 0 ∧ s.regsBut (last :: gpio) t ∧ t = { s with regs := t.regs, host := t.host }) ∧
    (awake → s.host.held = none → badAddr a = true → ∃ t, exec (.spiWrite addr words false drop) s = .next t ∧
      t.host.spiFlags = 4 ∧ s.regsBut [last] t ∧ t = { s with regs := t.regs, host := t.host }) ∧
    (badAddr a = true → exec (.i2cWrite addr words false) s = .next s ∧ exec (.i2cRead addr n) s = .next s) ∧
    (awake → s.mismatched 0xB0 = false → ∃ t, exec (.i2cWrite 0xB0#24 [data] false) s = .next t ∧ out t ∧ t.host.i2cAddr = 0xB4 ∧
      s.regsBut gpio t ∧ t = { s with regs := t.regs, host := { s.host with i2cAddr := 0xB4 } }) ∧
    (awake → quiet → 1 ≤ n → ∃ t, exec (.i2cRead addr n) s = .next t ∧ t.hostRead = fromI a ∧
      t = { s with hostRead := t.hostRead, host := { s.host with i2cAddr := a + 4 * n } }) ∧
    (awake → s.host.i2cAddr % 4 = 0 → s.host.i2cAddr + 4 * n ≤ 0x7000 → 1 ≤ n → ∃ t, exec (.i2cCurrentRead n) s = .next t ∧
      t.hostRead = fromI s.host.i2cAddr ∧ t = { s with hostRead := t.hostRead, host := { s.host with i2cAddr := s.host.i2cAddr + 4 * n } }) ∧
    (awake → ∃ t, exec .i2cTimeout s = .next t ∧ t.rd timeout = (s.rd timeout + 1) % 2 ^ 16 ∧ s.onlyRegs [timeout] t)

/-- R390, R417 to R421: PCIe. The link comes up with its width and speed and goes down; a configuration write takes what it
names; DWORDs are read from and written to the home window, and a partial write counts and has no effect; PERST resets the
PCIE island. -/
def Obligations.pcie : Prop :=
  ∀ (off : BitVec 17) (n : Nat) (data : BitVec 32) (be : BitVec 4) (width : Fin 16) (speed : Fin 16) (x : PcieCfg) (s : State),
    let o := off.toNat / 4 * 4
    let link := Reg.HOST_STATUS_PCIE_LINK
    let cfg := [Reg.HOST_STATUS_BME, Reg.HOST_STATUS_MSIX_EN]
    let gpio := [Reg.DEV_GPIO_CFG_OE, Reg.DEV_GPIO_CFG_IDLE]
    let partials := Reg.HOST_PCIE_STATUS_PARTIAL
    let idle := ∀ k q, (s.rxq k q).wait = []
    (s.pcieUp = false → exec (.pcieRead off n) s = .next s ∧ exec (.pcieWrite off [⟨data, be⟩]) s = .next s ∧
      exec (.pcieConfigWrite x) s = .next s) ∧
    (s.pcieUp = true → o + 4 * n ≤ 0x7000 → ∃ t, exec (.pcieRead off n) s = .next t ∧
      t.hostRead = (List.range n).map (fun k => s.readWord (o + 4 * k)) ∧ t = { s with hostRead := t.hostRead }) ∧
    (s.pcieUp = true → s.mismatched 0xB0 = false → ∃ t, exec (.pcieWrite 0xB0#17 [⟨data, 15#4⟩]) s = .next t ∧
      (∀ f ∈ gpio, t.rd f = data.toNat / 2 ^ f.lo % 2 ^ f.width) ∧ s.onlyRegs gpio t) ∧
    (s.pcieUp = true → be ≠ 15#4 → ∃ t, exec (.pcieWrite off [⟨data, be⟩]) s = .next t ∧
      t.rd partials = (s.rd partials + 1) % 2 ^ 16 ∧ s.onlyRegs [partials] t) ∧
    (s.hostAlive = true → s.rd Reg.PWR_STATUS_STATE < 2 → s.reachable 2 = true → idle → ∃ t, exec (.pcieLinkUp width speed) s = .next t ∧
      t.rd link = 1 ∧ t.rd Reg.HOST_PCIE_STATUS_WIDTH = width ∧ t.rd Reg.HOST_PCIE_STATUS_SPEED = speed ∧
      s.onlyRegs [link, Reg.HOST_PCIE_STATUS_WIDTH, Reg.HOST_PCIE_STATUS_SPEED] t) ∧
    (∃ t, exec .pcieLinkDown s = .next t ∧ t.rd link = 0 ∧ s.onlyRegs [link] t) ∧
    (s.pcieUp = true → idle → s.flt.msiPending = [] → ∃ t, exec (.pcieConfigWrite x) s = .next t ∧
      t.rd Reg.HOST_STATUS_BME = (x.bme.map Bool.toNat).getD (s.rd Reg.HOST_STATUS_BME) ∧
      t.rd Reg.HOST_STATUS_MSIX_EN = (x.msixEn.map Bool.toNat).getD (s.rd Reg.HOST_STATUS_MSIX_EN) ∧
      t.host = { s.host with fmask := x.fmask.getD s.host.fmask, d3 := x.d3.getD s.host.d3 } ∧ s.regsBut cfg t ∧
      t = { s with regs := t.regs, host := t.host }) ∧
    (∃ t, exec .pciePerst s = .next t ∧ t.rd link = 0 ∧ t.rd Reg.HOST_STATUS_BME = 0 ∧ t.rd Reg.HOST_STATUS_MSIX_EN = 0 ∧
      t.host = { s.host with msix := [], fmask := false, d3 := false, poison := false } ∧ t.flt = { s.flt with msiPending := [] } ∧
      s.regsBut (cfg ++ [link, Reg.HOST_PCIE_STATUS_WIDTH, Reg.HOST_PCIE_STATUS_SPEED]) t ∧
      t = { s with regs := t.regs, host := t.host, flt := t.flt })

/-! ### The whole machine -/

/-- A step takes the command at the front of the queue and gives it its effect over the rest. -/
def Obligations.step_takes_the_front : Prop :=
  ∀ (c : Instr) (q : List Instr) (s : State), step { s with pending := c :: q } = exec c { s with pending := q }

/-- Every command completes, whatever its operands and the state: it answers a next state and leaves the queue as it was. So
every step answers a next state, in which the queue has lost its front and nothing else: no command stops the block, and none
reaches the commands behind it (the queue is the model's own). -/
def Obligations.every_step_answers : Prop :=
  (∀ (c : Instr) (s : State), ∃ t, exec c s = .next t ∧ t.pending = s.pending) ∧
  ∀ s : State, ∃ t, step s = .next t ∧ t.pending = s.pending.tail

/-- Every memory stays in its canonical form at every step. -/
def Obligations.memories_stay_canonical : Prop :=
  ∀ s t : State, s.memWf = true → step s = .next t → t.memWf = true

/-- R463: a fuse bit that is programmed stays programmed, at every step: fuses are one-time programmable, and ROLLBACK and
REVOKE only accumulate. Resets, power failures and the loader's rollback number are no exception. -/
def Obligations.fuses_only_gain_bits : Prop :=
  ∀ (s t : State) (sel i : Nat), sel ≤ 7 → step s = .next t → (s.fuseField sel).testBit i = true →
    (t.fuseField sel).testBit i = true

/-- A command that is none of those that `Instr.stores` names leaves the commons, the DRAM, the NOR, host memory, the fuses
and the queue as they were. -/
def Obligations.memories_kept : Prop :=
  ∀ (c : Instr) (s : State), c.stores = false → ∃ t, exec c s = .next t ∧ t.store = s.store

/-- The state after reset: no command waits, every memory is canonical and holds nothing, no engine has a lesson, and the
registers hold the reset values of their tables (R14), among them those that differ by instance. That the memories list
nothing is the model's choice (assumptions 1, 40 and 45). -/
def Obligations.reset_state : Prop :=
  State.reset.pending = [] ∧ State.reset.memWf = true ∧ State.reset.store = ([], [], [], [], [], [0, 0, 0, 0, 0, 0, 0]) ∧
  (∀ e < 17, (State.reset.engine e).lesson = none ∧ (State.reset.engine e).acc = [] ∧ State.reset.rd (Reg.ENG_CTRL_ENABLE e) = 0) ∧
  State.reset.rd Reg.DEV_BELL_PERIOD = 500 ∧ State.reset.rd Reg.DEV_ID_PART = 0x7240 ∧ State.reset.rd Reg.DEV_ID_REV = 0xB0 ∧
  State.reset.rd Reg.RST_WDOG_TIMEOUT = 1000 ∧ State.reset.rd Reg.FLT_TEMP_LIMIT = 0x3700 ∧
  State.reset.rd Reg.HOST_PCIE_ID_VENDOR = 0x1EC7 ∧ State.reset.rd Reg.SEC_STATUS_GATE = 0 ∧
  (∀ n < 24, State.reset.rd (Reg.SLOT_CFG_PPS n) = (if n = 23 then 1 else 0) ∧
    State.reset.rd (Reg.SLOT_NOM_FREQ_HZ n) = (if (16 ≤ n ∧ n ≤ 19) ∨ n = 22 then 156250000 else if n = 23 then 1 else 0) ∧
    State.reset.rd (Reg.SLOT_QUAL_CEIL n) = 4) ∧
  (∀ n < 4, State.reset.rd (Reg.TS_CFG_PATH n) = n ∧ State.reset.rd (Reg.ETH_SYNCE_TX_PATH n) = n ∧
    State.reset.rd (Reg.PTP_CFG_TS n) = n) ∧
  (∀ n < 8, State.reset.rd (Reg.EVR_RING_BASE_UNITS n) = 256 * n ∧ State.reset.rd (Reg.PATH_PHASE_SLOPE_RATE n) = 1000) ∧
  (∀ n < 32, State.reset.rd (Reg.OUT_DIV_LO_DIV n) = 4 ∧ State.reset.rd (Reg.OUT_STATUS_SRC_ACT n) = 6 ∧
    State.reset.rd (Reg.TG_PARAM_NS n) = 100) ∧
  (∀ n < 52, State.reset.rd (Reg.TDC_CFG_EN n) = 1 ∧ State.reset.rd (Reg.TDC_CAL_STATUS_TABLE_VALID n) = 0) ∧
  (∀ n < 128, State.reset.rd (Reg.FLT_SRC_CFG_GRACE_M n) = 1 ∧ State.reset.rd (Reg.FLT_SRC_CFG_GRACE_E n) = 3 ∧
    State.reset.rd (Reg.FLT_SRC_DETAIL_INST n) = 0xFF)
end

