-- ==== Sys2Proof/Laws/Tab.lean ====
section
/-! SUPPORT. The laws of tables: a read after a write, and the canonical form that every operation keeps. -/
namespace Sys2Proof.Machine
variable {α : Type}

@[simp] theorem tabGet_nil (d : α) (k : Nat) : tabGet d k ([] : Tab α) = d := rfl

theorem tabGet_erase_self (d : α) (k : Nat) (t : Tab α) : tabGet d k (tabErase k t) = d := by
  induction t with
  | nil => rfl
  | cons e t ih => obtain ⟨j, v⟩ := e; by_cases h : j = k <;> simp [tabErase, tabGet, h, ih]

theorem tabGet_erase_ne (d : α) {k k' : Nat} (h : k ≠ k') (t : Tab α) :
    tabGet d k' (tabErase k t) = tabGet d k' t := by
  induction t with
  | nil => rfl
  | cons e t ih =>
    obtain ⟨j, v⟩ := e
    by_cases hj : j = k
    · subst hj; simp [tabErase, tabGet, h, ih]
    · simp only [tabErase, if_neg hj, tabGet, ih]

theorem tabGet_put_self (d : α) (k : Nat) (v : α) (t : Tab α) : tabGet d k (tabPut k v t) = v := by
  induction t with
  | nil => simp [tabPut, tabGet]
  | cons e t ih =>
    obtain ⟨j, w⟩ := e
    by_cases h : k < j
    · simp [tabPut, tabGet, h]
    · by_cases hj : j = k <;> simp [tabPut, tabGet, h, hj, ih]

theorem tabGet_put_ne (d : α) {k k' : Nat} (h : k ≠ k') (v : α) (t : Tab α) :
    tabGet d k' (tabPut k v t) = tabGet d k' t := by
  induction t with
  | nil => simp [tabPut, tabGet, h]
  | cons e t ih =>
    obtain ⟨j, w⟩ := e
    by_cases hl : k < j
    · simp [tabPut, tabGet, hl, h]
    · by_cases hj : j = k
      · subst hj; simp [tabPut, tabGet, h]
      · simp only [tabPut, if_neg hl, if_neg hj, tabGet, ih]

section
variable [DecidableEq α]

/-- A read after a write of the same key. -/
@[simp] theorem tabGet_set_self (d : α) (k : Nat) (v : α) (t : Tab α) : tabGet d k (tabSet d k v t) = v := by
  unfold tabSet; split
  · next h => rw [tabGet_erase_self, h]
  · exact tabGet_put_self ..

/-- A write leaves every other key alone, whatever default it is read with. -/
theorem tabGet_set_ne (d d' : α) {k k' : Nat} (h : k ≠ k') (v : α) (t : Tab α) :
    tabGet d' k' (tabSet d k v t) = tabGet d' k' t := by
  unfold tabSet; split
  · exact tabGet_erase_ne _ h _
  · exact tabGet_put_ne _ h _ _

end

theorem tabGet_clear (d : α) (p : Nat → Bool) (k : Nat) (t : Tab α) :
    tabGet d k (tabClear p t) = if p k then d else tabGet d k t := by
  induction t with
  | nil => simp [tabClear]
  | cons e t ih =>
    obtain ⟨j, v⟩ := e
    unfold tabClear at ih ⊢
    by_cases hk : j = k
    · subst hk; cases hp : p j <;> simp_all [List.filter, tabGet]
    · cases hp : p j <;> simp_all [List.filter, tabGet]

/-! ### The canonical form -/

theorem tabSorted_mono {lo lo' : Nat} (h : lo' ≤ lo) {t : Tab α} (hs : tabSorted lo t = true) : tabSorted lo' t = true := by
  cases t with
  | nil => rfl
  | cons e t => obtain ⟨j, v⟩ := e; simp [tabSorted] at hs ⊢; exact ⟨by omega, hs.2⟩

theorem tabErase_sorted (k : Nat) {lo : Nat} {t : Tab α} (hs : tabSorted lo t = true) : tabSorted lo (tabErase k t) = true := by
  induction t generalizing lo with
  | nil => rfl
  | cons e t ih =>
    obtain ⟨j, v⟩ := e
    simp only [tabSorted, Bool.and_eq_true, decide_eq_true_eq] at hs
    by_cases hj : j = k
    · simp only [tabErase, hj, if_true]; exact tabSorted_mono (by omega) (ih hs.2)
    · simp only [tabErase, hj, if_false, tabSorted, Bool.and_eq_true, decide_eq_true_eq]; exact ⟨hs.1, ih hs.2⟩

theorem tabPut_sorted (k : Nat) (v : α) {lo : Nat} (hk : lo ≤ k) {t : Tab α} (hs : tabSorted lo t = true) :
    tabSorted lo (tabPut k v t) = true := by
  induction t generalizing lo with
  | nil => simp [tabPut, tabSorted, hk]
  | cons e t ih =>
    obtain ⟨j, w⟩ := e
    simp only [tabSorted, Bool.and_eq_true, decide_eq_true_eq] at hs
    unfold tabPut
    split
    · next h => simp only [tabSorted, Bool.and_eq_true, decide_eq_true_eq]; exact ⟨hk, by omega, hs.2⟩
    · split
      · next h => subst h; simp only [tabSorted, Bool.and_eq_true, decide_eq_true_eq]; exact hs
      · simp only [tabSorted, Bool.and_eq_true, decide_eq_true_eq]; exact ⟨hs.1, ih (by omega) hs.2⟩

theorem tabErase_all (k : Nat) (p : Nat × α → Bool) {t : Tab α} (h : t.all p = true) : (tabErase k t).all p = true := by
  induction t with
  | nil => rfl
  | cons e t ih =>
    obtain ⟨j, v⟩ := e
    simp only [List.all_cons, Bool.and_eq_true] at h
    by_cases hj : j = k
    · simp only [tabErase, hj, if_true]; exact ih h.2
    · simp only [tabErase, hj, if_false, List.all_cons, Bool.and_eq_true]; exact ⟨h.1, ih h.2⟩

theorem tabPut_all (k : Nat) (v : α) (p : Nat × α → Bool) (hv : p (k, v) = true) {t : Tab α} (h : t.all p = true) :
    (tabPut k v t).all p = true := by
  induction t with
  | nil => simp [tabPut, hv]
  | cons e t ih =>
    obtain ⟨j, w⟩ := e
    simp only [List.all_cons, Bool.and_eq_true] at h
    unfold tabPut
    split
    · simp only [List.all_cons, Bool.and_eq_true]; exact ⟨hv, h.1, h.2⟩
    · split
      · simp only [List.all_cons, Bool.and_eq_true]; exact ⟨hv, h.2⟩
      · simp only [List.all_cons, Bool.and_eq_true]; exact ⟨h.1, ih h.2⟩

section
variable [DecidableEq α]

@[simp] theorem tabWf_nil (d : α) : tabWf d ([] : Tab α) = true := rfl

/-- A write keeps the canonical form. -/
theorem tabWf_set (d : α) (k : Nat) (v : α) {t : Tab α} (h : tabWf d t = true) : tabWf d (tabSet d k v t) = true := by
  unfold tabWf at *
  simp only [Bool.and_eq_true] at h ⊢
  unfold tabSet; split
  · exact ⟨tabErase_sorted k h.1, tabErase_all k _ h.2⟩
  · next hv => exact ⟨tabPut_sorted k v (Nat.zero_le k) h.1, tabPut_all k v _ (by simpa using hv) h.2⟩

/-- Dropping an entry keeps the canonical form. -/
theorem tabWf_erase (d : α) (k : Nat) {t : Tab α} (h : tabWf d t = true) : tabWf d (tabErase k t) = true := by
  unfold tabWf at *
  simp only [Bool.and_eq_true] at h ⊢
  exact ⟨tabErase_sorted k h.1, tabErase_all k _ h.2⟩

omit [DecidableEq α] in
/-- A part of a rising table rises. -/
theorem tabSorted_filter (p : Nat × α → Bool) {lo : Nat} {t : Tab α} (h : tabSorted lo t = true) :
    tabSorted lo (t.filter p) = true := by
  induction t generalizing lo with
  | nil => rfl
  | cons e t ih =>
    obtain ⟨j, v⟩ := e
    simp only [tabSorted, Bool.and_eq_true, decide_eq_true_eq] at h
    cases hp : p (j, v)
    · simp only [List.filter, hp]; exact tabSorted_mono (by omega) (ih h.2)
    · simp only [List.filter, hp, tabSorted, Bool.and_eq_true, decide_eq_true_eq]; exact ⟨h.1, ih h.2⟩

/-- Dropping every entry of a set of keys keeps the canonical form. -/
theorem tabWf_clear (d : α) (p : Nat → Bool) {t : Tab α} (h : tabWf d t = true) : tabWf d (tabClear p t) = true := by
  unfold tabWf tabClear at *
  simp only [Bool.and_eq_true] at h ⊢
  refine ⟨tabSorted_filter _ h.1, ?_⟩
  rw [List.all_eq_true] at h ⊢
  exact fun x hx => h.2 x (List.mem_of_mem_filter hx)

/-- A fold of writes keeps the canonical form. -/
theorem tabWf_foldl {β : Type} (d : α) (f : Tab α → β → Tab α) (hf : ∀ t b, tabWf d t = true → tabWf d (f t b) = true)
    (l : List β) {t : Tab α} (h : tabWf d t = true) : tabWf d (l.foldl f t) = true := by
  induction l generalizing t with
  | nil => exact h
  | cons b l ih => exact ih (hf t b h)

end
end Sys2Proof.Machine
end

