-- ==== Sys2Proof/Laws/Store.lean ====
section
/-! SUPPORT. The queue and the memories through the shared operations: what leaves them as they were. -/
namespace Sys2Proof.Machine

/-- The store of an outcome. -/
def storeOf : Out → Option Store
  | .next t => some t.store
  | _ => none

@[simp] theorem storeOf_next (t : State) : storeOf (.next t) = some t.store := rfl

/-- An update of the other fields leaves the store as it was. -/
@[simp] theorem store_upd (t : State)
    (regs' : _) (now' : _) (up' : _) (timers' : _) (free' : _) (hostRead' : _) (clk' : _) (eng' : _) (words' : _) (out' : _) (inw' : _)
    (bell' : _) (subst' : _) (image' : _) (flt' : _) (tb' : _) (tbRem' : _) (supplyFlag' : _) (slots' : _)
    (paths' : _) (ts' : _) (tg' : _) (aplls' : _) (outs' : _) (chans' : _) (roles' : _) (grps' : _) (twin' : _)
    (rings' : _) (ports' : _) (parity' : _) (keys' : _) (syl' : _) (jnl' : _) (prov' : _) (bist' : _)
    (host' : _) (wo' : _) (mapTdc' : _) (mapApll' : _) (pwr' : _) (jtag' : _) (scan' : _) :
    State.store (State.mk
      t.pending regs' now' up' timers' free' hostRead' clk' eng' words' t.commons out' inw' bell' subst' image' flt' tb' tbRem'
      supplyFlag' slots' paths' ts' tg' aplls' outs' chans' roles' grps' twin' rings' t.dram ports' t.hostMem parity'
      keys' syl' t.nor jnl' t.fuses prov' bist' host' wo' mapTdc' mapApll' pwr' jtag' scan') = t.store := (Eq.refl _).trans (Eq.refl _)

/-- An update of what the DRAM keeps beside its words leaves the store as it was. -/
@[simp] theorem store_upd_dram (t : State) (e : _) (u : _) (r : _) (d1 : _) (d2 : _)
    (regs' : _) (now' : _) (up' : _) (timers' : _) (free' : _) (hostRead' : _) (clk' : _) (eng' : _) (words' : _) (out' : _) (inw' : _)
    (bell' : _) (subst' : _) (image' : _) (flt' : _) (tb' : _) (tbRem' : _) (supplyFlag' : _) (slots' : _)
    (paths' : _) (ts' : _) (tg' : _) (aplls' : _) (outs' : _) (chans' : _) (roles' : _) (grps' : _) (twin' : _)
    (rings' : _) (ports' : _) (parity' : _) (keys' : _) (syl' : _) (jnl' : _) (prov' : _) (bist' : _)
    (host' : _) (wo' : _) (mapTdc' : _) (mapApll' : _) (pwr' : _) (jtag' : _) (scan' : _) :
    State.store (State.mk
      t.pending regs' now' up' timers' free' hostRead' clk' eng' words' t.commons out' inw' bell' subst' image' flt' tb' tbRem'
      supplyFlag' slots' paths' ts' tg' aplls' outs' chans' roles' grps' twin' rings' ⟨t.dram.mem, e, u, r, d1, d2⟩ ports' t.hostMem parity'
      keys' syl' t.nor jnl' t.fuses prov' bist' host' wo' mapTdc' mapApll' pwr' jtag' scan') = t.store := (Eq.refl _).trans (Eq.refl _)

/-- An update of the program in progress leaves the store as it was. -/
@[simp] theorem store_upd_fuses (t : State) (b : _)
    (regs' : _) (now' : _) (up' : _) (timers' : _) (free' : _) (hostRead' : _) (clk' : _) (eng' : _) (words' : _) (out' : _) (inw' : _)
    (bell' : _) (subst' : _) (image' : _) (flt' : _) (tb' : _) (tbRem' : _) (supplyFlag' : _) (slots' : _)
    (paths' : _) (ts' : _) (tg' : _) (aplls' : _) (outs' : _) (chans' : _) (roles' : _) (grps' : _) (twin' : _)
    (rings' : _) (ports' : _) (parity' : _) (keys' : _) (syl' : _) (jnl' : _) (prov' : _) (bist' : _)
    (host' : _) (wo' : _) (mapTdc' : _) (mapApll' : _) (pwr' : _) (jtag' : _) (scan' : _) :
    State.store (State.mk
      t.pending regs' now' up' timers' free' hostRead' clk' eng' words' t.commons out' inw' bell' subst' image' flt' tb' tbRem'
      supplyFlag' slots' paths' ts' tg' aplls' outs' chans' roles' grps' twin' rings' t.dram ports' t.hostMem parity'
      keys' syl' t.nor jnl' ⟨t.fuses.cust0, t.fuses.cust1, t.fuses.revoke, t.fuses.custOnly, t.fuses.rollback,
      t.fuses.debugHash, t.fuses.debugDisable, b⟩ prov' bist' host' wo' mapTdc' mapApll' pwr' jtag' scan') = t.store := (Eq.refl _).trans (Eq.refl _)

/-- The bodies of the engine instructions: the store they leave. -/
def Res.keeps (σ : Store) : Res → Prop
  | .next t _ | .jump t _ _ | .done t _ | .unc t _ => t.store = σ
  | .trap _ _ => True

@[simp] theorem store_ite (c : Prop) [Decidable c] (a b : State) :
    (if c then a else b).store = if c then a.store else b.store := apply_ite State.store c a b
@[simp] theorem storeOf_ite (c : Prop) [Decidable c] (a b : Out) :
    storeOf (if c then a else b) = if c then storeOf a else storeOf b := apply_ite storeOf c a b

@[simp] theorem store_foldl_of {β : Type} (f : State → β → State) (h : ∀ s b, (f s b).store = s.store) (l : List β) (s : State) :
    (l.foldl f s).store = s.store := by
  induction l generalizing s with
  | nil => rfl
  | cons b l ih => simp only [List.foldl_cons, ih, h]

@[simp] theorem store_forRange_of (n : Nat) (f : Nat → State → State) (h : ∀ i s, (f i s).store = s.store) (s : State) :
    (forRange n f s).store = s.store := store_foldl_of _ (fun s i => h i s) _ s

end Sys2Proof.Machine
end

