-- ==== Sys2Proof/Laws/Kept.lean ====
section
/-! SUPPORT. One lemma per operation and command that leaves the queue and every memory as they were: for a command it
also says that it answers a next state. -/
namespace Sys2Proof.Machine
set_option linter.unusedSimpArgs false
set_option linter.unusedTactic false
set_option linter.unreachableTactic false

@[simp] theorem State.wr_store (s : State) (f : Fld) (v : ℕ) :
    (State.wr s f v).store = s.store := by simp [State.wr]
@[simp] theorem State.wrb_store (s : State) (f : Fld) (b : Bool) :
    (State.wrb s f b).store = s.store := by simp [State.wrb]
@[simp] theorem State.wrs_store (s : State) (l : List (Fld × ℕ)) :
    (State.wrs s l).store = s.store := by simp [State.wrs]
@[simp] theorem State.wri_store (s : State) (f : Fld) (x : ℤ) :
    (State.wri s f x).store = s.store := by simp [State.wri]
@[simp] theorem State.bump_store (s : State) (f : Fld) (k : optParam ℕ 1) :
    (State.bump s f k).store = s.store := by simp [State.bump]
@[simp] theorem State.bumpSat_store (s : State) (f : Fld) (k : optParam ℕ 1) :
    (State.bumpSat s f k).store = s.store := by simp [State.bumpSat]
@[simp] theorem State.putEngine_store (s : State) (e : ℕ) (x : Eng) :
    (State.putEngine s e x).store = s.store := by simp [State.putEngine]
@[simp] theorem State.putHostWords_store (s : State) (e : ℕ) (x : HostWords) :
    (State.putHostWords s e x).store = s.store := by simp [State.putHostWords]
@[simp] theorem State.putSlot_store (s : State) (i : ℕ) (x : SlotSt) :
    (State.putSlot s i x).store = s.store := by simp [State.putSlot]
@[simp] theorem State.putPath_store (s : State) (i : ℕ) (x : PathSt) :
    (State.putPath s i x).store = s.store := by simp [State.putPath]
@[simp] theorem State.putTscale_store (s : State) (i : ℕ) (x : TsSt) :
    (State.putTscale s i x).store = s.store := by simp [State.putTscale]
@[simp] theorem State.putTrig_store (s : State) (i : ℕ) (x : TgSt) :
    (State.putTrig s i x).store = s.store := by simp [State.putTrig]
@[simp] theorem State.putApll_store (s : State) (i : ℕ) (x : ApllSt) :
    (State.putApll s i x).store = s.store := by simp [State.putApll]
@[simp] theorem State.putOutp_store (s : State) (i : ℕ) (x : OutSt) :
    (State.putOutp s i x).store = s.store := by simp [State.putOutp]
@[simp] theorem State.putChan_store (s : State) (i : ℕ) (x : ChanSt) :
    (State.putChan s i x).store = s.store := by simp [State.putChan]
@[simp] theorem State.putRole_store (s : State) (i : ℕ) (x : RoleSt) :
    (State.putRole s i x).store = s.store := by simp [State.putRole]
@[simp] theorem State.putGrp_store (s : State) (i : ℕ) (x : GrpSt) :
    (State.putGrp s i x).store = s.store := by simp [State.putGrp]
@[simp] theorem State.putRing_store (s : State) (i : ℕ) (x : RingSt) :
    (State.putRing s i x).store = s.store := by simp [State.putRing]
@[simp] theorem State.putPort_store (s : State) (i : ℕ) (x : PortSt) :
    (State.putPort s i x).store = s.store := by simp [State.putPort]
@[simp] theorem State.raise_store (s : State) (ev : ℕ) (inst : ℕ) (info : optParam ℕ 0) :
    (State.raise s ev inst info).store = s.store := by simp [State.raise]
@[simp] theorem State.level_store (s : State) (ev : ℕ) (inst : ℕ) (on : Bool) (info : optParam ℕ 0) :
    (State.level s ev inst on info).store = s.store := by simp [State.level]
@[simp] theorem State.arm_store (s : State) (t : Timer) :
    (State.arm s t).store = s.store := by simp [State.arm]
@[simp] theorem bistEnd_store (r : ℕ) (detail : ℕ) (s : State) :
    (bistEnd r detail s).store = s.store := by simp [bistEnd]
@[simp] theorem State.takeFree_store (s : State) :
    (State.takeFree s).2.store = s.store := by simp [State.takeFree]
@[simp] theorem State.takeFreeInt_store (s : State) :
    (State.takeFreeInt s).2.store = s.store := by simp [State.takeFreeInt]
@[simp] theorem jnlPut_store (type : ℕ) (key : ℕ) (data : List Byte) (s : State) :
    (jnlPut type key data s).store = s.store := by simp [jnlPut]
@[simp] theorem substFail_store (n : ℕ) (s : State) :
    (substFail n s).store = s.store := by simp [substFail]
@[simp] theorem substRequest_store (n : ℕ) (why : SubReason) (s : State) :
    (substRequest n why s).store = s.store := by simp [substRequest]
@[simp] theorem engEccStop_store (e : ℕ) (isD : Bool) (idx : ℕ) (s : State) :
    (engEccStop e isD idx s).store = s.store := by simp [engEccStop]
@[simp] theorem engEccCorrected_store (e : ℕ) (isD : Bool) (s : State) :
    (engEccCorrected e isD s).store = s.store := by simp [engEccCorrected]
@[simp] theorem dispatchNext_store (e : ℕ) (s : State) :
    (dispatchNext e s).store = s.store := by
  simp only [dispatchNext]
  repeat' split
  all_goals simp
@[simp] theorem engTrap_store (e : ℕ) (c : Cause) (code : ℕ) (pc : ℕ) (s : State) :
    (engTrap e c code pc s).store = s.store := by simp [engTrap]
@[simp] theorem engOver_store (e wcet : ℕ) (l : Lesson) (s : State) :
    (engOver e wcet l s).store = s.store := by simp [engOver]
@[simp] theorem engGoOn_store (e : ℕ) (cost : ℕ) (s : State) (x : Eng) (dst : ℕ) :
    (engGoOn e cost s x dst).store = s.store := by simp [engGoOn]
@[simp] theorem engTraps_store (e : Nat) (wcet : Nat) (l : Lesson) (c : Cause) (code : Nat) (pc : Nat) (s : State) :
    (engTraps e wcet l c code pc s).store = s.store := by simp [engTraps]
@[simp] theorem keeps_next (σ) (t : State) (x : Eng) : (Res.next t x).keeps σ ↔ t.store = σ := Iff.rfl
@[simp] theorem keeps_jump (σ) (t : State) (x : Eng) (d : Nat) : (Res.jump t x d).keeps σ ↔ t.store = σ := Iff.rfl
@[simp] theorem keeps_done (σ) (t : State) (x : Eng) : (Res.done t x).keeps σ ↔ t.store = σ := Iff.rfl
@[simp] theorem keeps_unc (σ) (t : State) (i : Nat) : (Res.unc t i).keeps σ ↔ t.store = σ := Iff.rfl
@[simp] theorem keeps_trap (σ) (c : Cause) (k : Nat) : (Res.trap c k).keeps σ ↔ True := Iff.rfl
theorem engRun_store_of (e : Nat) (f : Ecc) (cost : Nat) (body : State → Eng → Res)
    (h : ∀ s x, (body s x).keeps s.store) (s : State) : (engRun e f cost body s).store = s.store := by
  unfold engRun
  split
  · rfl
  · split
    · simp
    · lift_lets
      intro s1 x wcet
      have h1 : s1.store = s.store := by simp only [s1]; split <;> simp
      have hb := h s1 x
      cases hr : body s1 x with
      | trap c k => simp [h1]
      | next t y => rw [hr, keeps_next] at hb; simp [h1, hb]
      | jump t y d => rw [hr, keeps_jump] at hb; simp [h1, hb]
      | done t y => rw [hr, keeps_done] at hb; dsimp only; split <;> simp [h1, hb]
      | unc t i => rw [hr, keeps_unc] at hb; dsimp only; split <;> simp [h1, hb]
@[simp] theorem engRow_store_of (e : Nat) (f : Ecc) (cost : Nat) (body : State → Eng → Res)
    (h : ∀ s x, (body s x).keeps s.store) (s : State) : storeOf (engRow e f cost body s) = some s.store := by
  simp [engRow, engRun_store_of e f cost body h]
theorem keeps_hazards (l m : List Nat) (k : State → Eng → Res) (h : ∀ s x, (k s x).keeps s.store) (s : State) (x : Eng) :
    (hazards l m k s x).keeps s.store := by
  unfold hazards; split
  · trivial
  · exact h s x
@[simp] theorem keeps_hazards_of (l m : List Nat) (k : State → Eng → Res) (s : State) (x : Eng)
    (h : (k s x).keeps s.store) : (hazards l m k s x).keeps s.store := by
  unfold hazards; split
  · trivial
  · exact h
@[simp] theorem keeps_dmemAccess_of (l m : List Nat) (r : Nat) (i : BitVec 16) (z : Nat) (k : Nat → State → Eng → Res)
    (s : State) (x : Eng) (h : ∀ a, (k a s x).keeps s.store) : (dmemAccess l m r i z k s x).keeps s.store := by
  unfold dmemAccess
  refine keeps_hazards_of _ _ _ _ _ ?_
  dsimp only
  split
  · trivial
  · exact h _
@[simp] theorem keeps_dmemRead_of (e : Nat) (c : Ecc) (w : Nat) (k : State → Res) (s : State)
    (h : ∀ s, (k s).keeps s.store) : (dmemRead e c w k s).keeps s.store := by
  cases c
  · exact h s
  · have := h (engEccCorrected e true s); simpa [dmemRead] using this
  · rfl
@[simp] theorem keeps_skipTo (b : Bool) (n : Nat) (s : State) (x : Eng) : (skipTo b n s x).keeps s.store := by
  unfold skipTo
  split
  · rfl
  · dsimp only
    split
    · trivial
    · split
      · split
        · trivial
        · rfl
      · rfl
@[simp] theorem bodyAdd_keeps (rd : ℕ) (rs1 : ℕ) (rs2 : ℕ) (s : State) (x : Eng) : (bodyAdd rd rs1 rs2 s x).keeps s.store := by
  simp only [bodyAdd, alu2, aluZN, aluSat, immZN, accSat]
  repeat' split
  all_goals simp
@[simp] theorem bodySub_keeps (rd : ℕ) (rs1 : ℕ) (rs2 : ℕ) (s : State) (x : Eng) : (bodySub rd rs1 rs2 s x).keeps s.store := by
  simp only [bodySub, alu2, aluZN, aluSat, immZN, accSat]
  repeat' split
  all_goals simp
@[simp] theorem bodyAnd_keeps (rd : ℕ) (rs1 : ℕ) (rs2 : ℕ) (s : State) (x : Eng) : (bodyAnd rd rs1 rs2 s x).keeps s.store := by
  simp only [bodyAnd, alu2, aluZN, aluSat, immZN, accSat]
  repeat' split
  all_goals simp
@[simp] theorem bodyOr_keeps (rd : ℕ) (rs1 : ℕ) (rs2 : ℕ) (s : State) (x : Eng) : (bodyOr rd rs1 rs2 s x).keeps s.store := by
  simp only [bodyOr, alu2, aluZN, aluSat, immZN, accSat]
  repeat' split
  all_goals simp
@[simp] theorem bodyXor_keeps (rd : ℕ) (rs1 : ℕ) (rs2 : ℕ) (s : State) (x : Eng) : (bodyXor rd rs1 rs2 s x).keeps s.store := by
  simp only [bodyXor, alu2, aluZN, aluSat, immZN, accSat]
  repeat' split
  all_goals simp
@[simp] theorem bodyShl_keeps (rd : ℕ) (rs1 : ℕ) (rs2 : ℕ) (s : State) (x : Eng) : (bodyShl rd rs1 rs2 s x).keeps s.store := by
  simp only [bodyShl, alu2, aluZN, aluSat, immZN, accSat]
  repeat' split
  all_goals simp
@[simp] theorem bodyShr_keeps (rd : ℕ) (rs1 : ℕ) (rs2 : ℕ) (s : State) (x : Eng) : (bodyShr rd rs1 rs2 s x).keeps s.store := by
  simp only [bodyShr, alu2, aluZN, aluSat, immZN, accSat]
  repeat' split
  all_goals simp
@[simp] theorem bodySar_keeps (rd : ℕ) (rs1 : ℕ) (rs2 : ℕ) (s : State) (x : Eng) : (bodySar rd rs1 rs2 s x).keeps s.store := by
  simp only [bodySar, alu2, aluZN, aluSat, immZN, accSat]
  repeat' split
  all_goals simp
@[simp] theorem bodyMin_keeps (rd : ℕ) (rs1 : ℕ) (rs2 : ℕ) (s : State) (x : Eng) : (bodyMin rd rs1 rs2 s x).keeps s.store := by
  simp only [bodyMin, alu2, aluZN, aluSat, immZN, accSat]
  repeat' split
  all_goals simp
@[simp] theorem bodyMax_keeps (rd : ℕ) (rs1 : ℕ) (rs2 : ℕ) (s : State) (x : Eng) : (bodyMax rd rs1 rs2 s x).keeps s.store := by
  simp only [bodyMax, alu2, aluZN, aluSat, immZN, accSat]
  repeat' split
  all_goals simp
@[simp] theorem bodyAdds_keeps (rd : ℕ) (rs1 : ℕ) (rs2 : ℕ) (s : State) (x : Eng) : (bodyAdds rd rs1 rs2 s x).keeps s.store := by
  simp only [bodyAdds, alu2, aluZN, aluSat, immZN, accSat]
  repeat' split
  all_goals simp
@[simp] theorem bodySubs_keeps (rd : ℕ) (rs1 : ℕ) (rs2 : ℕ) (s : State) (x : Eng) : (bodySubs rd rs1 rs2 s x).keeps s.store := by
  simp only [bodySubs, alu2, aluZN, aluSat, immZN, accSat]
  repeat' split
  all_goals simp
@[simp] theorem bodyNeg_keeps (rd : ℕ) (rs1 : ℕ) (s : State) (x : Eng) : (bodyNeg rd rs1 s x).keeps s.store := by
  simp only [bodyNeg, alu2, aluZN, aluSat, immZN, accSat]
  repeat' split
  all_goals simp
@[simp] theorem bodyAbs_keeps (rd : ℕ) (rs1 : ℕ) (s : State) (x : Eng) : (bodyAbs rd rs1 s x).keeps s.store := by
  simp only [bodyAbs, alu2, aluZN, aluSat, immZN, accSat]
  repeat' split
  all_goals simp
@[simp] theorem bodyClz_keeps (rd : ℕ) (rs1 : ℕ) (s : State) (x : Eng) : (bodyClz rd rs1 s x).keeps s.store := by
  simp only [bodyClz, alu2, aluZN, aluSat, immZN, accSat]
  repeat' split
  all_goals simp
@[simp] theorem bodyCmp_keeps (rs1 : ℕ) (rs2 : ℕ) (s : State) (x : Eng) : (bodyCmp rs1 rs2 s x).keeps s.store := by
  simp only [bodyCmp, alu2, aluZN, aluSat, immZN, accSat]
  repeat' split
  all_goals simp
@[simp] theorem bodySel_keeps (rd : ℕ) (rs1 : ℕ) (rs2 : ℕ) (cond : ℕ) (s : State) (x : Eng) : (bodySel rd rs1 rs2 cond s x).keeps s.store := by
  simp only [bodySel, alu2, aluZN, aluSat, immZN, accSat]
  repeat' split
  all_goals simp
@[simp] theorem bodyRdc_keeps (rd : ℕ) (s : State) (x : Eng) : (bodyRdc rd s x).keeps s.store := by
  simp only [bodyRdc, alu2, aluZN, aluSat, immZN, accSat]
  repeat' split
  all_goals simp
@[simp] theorem bodyAddi_keeps (rd : ℕ) (rs1 : ℕ) (imm : BitVec 16) (s : State) (x : Eng) : (bodyAddi rd rs1 imm s x).keeps s.store := by
  simp only [bodyAddi, alu2, aluZN, aluSat, immZN, accSat]
  repeat' split
  all_goals simp
@[simp] theorem bodyAndi_keeps (rd : ℕ) (rs1 : ℕ) (imm : BitVec 16) (s : State) (x : Eng) : (bodyAndi rd rs1 imm s x).keeps s.store := by
  simp only [bodyAndi, alu2, aluZN, aluSat, immZN, accSat]
  repeat' split
  all_goals simp
@[simp] theorem bodyOri_keeps (rd : ℕ) (rs1 : ℕ) (imm : BitVec 16) (s : State) (x : Eng) : (bodyOri rd rs1 imm s x).keeps s.store := by
  simp only [bodyOri, alu2, aluZN, aluSat, immZN, accSat]
  repeat' split
  all_goals simp
@[simp] theorem bodyXori_keeps (rd : ℕ) (rs1 : ℕ) (imm : BitVec 16) (s : State) (x : Eng) : (bodyXori rd rs1 imm s x).keeps s.store := by
  simp only [bodyXori, alu2, aluZN, aluSat, immZN, accSat]
  repeat' split
  all_goals simp
@[simp] theorem bodyShli_keeps (rd : ℕ) (rs1 : ℕ) (sh : ℕ) (s : State) (x : Eng) : (bodyShli rd rs1 sh s x).keeps s.store := by
  simp only [bodyShli, alu2, aluZN, aluSat, immZN, accSat]
  repeat' split
  all_goals simp
@[simp] theorem bodyShri_keeps (rd : ℕ) (rs1 : ℕ) (sh : ℕ) (s : State) (x : Eng) : (bodyShri rd rs1 sh s x).keeps s.store := by
  simp only [bodyShri, alu2, aluZN, aluSat, immZN, accSat]
  repeat' split
  all_goals simp
@[simp] theorem bodySari_keeps (rd : ℕ) (rs1 : ℕ) (sh : ℕ) (s : State) (x : Eng) : (bodySari rd rs1 sh s x).keeps s.store := by
  simp only [bodySari, alu2, aluZN, aluSat, immZN, accSat]
  repeat' split
  all_goals simp
@[simp] theorem bodyCmpi_keeps (rs1 : ℕ) (imm : BitVec 16) (s : State) (x : Eng) : (bodyCmpi rs1 imm s x).keeps s.store := by
  simp only [bodyCmpi, alu2, aluZN, aluSat, immZN, accSat]
  repeat' split
  all_goals simp
@[simp] theorem bodyLdi_keeps (rd : ℕ) (imm : BitVec 16) (s : State) (x : Eng) : (bodyLdi rd imm s x).keeps s.store := by
  simp only [bodyLdi, alu2, aluZN, aluSat, immZN, accSat]
  repeat' split
  all_goals simp
@[simp] theorem bodyInsh_keeps (rd : ℕ) (lane : ℕ) (imm : BitVec 16) (s : State) (x : Eng) : (bodyInsh rd lane imm s x).keeps s.store := by
  simp only [bodyInsh, alu2, aluZN, aluSat, immZN, accSat]
  repeat' split
  all_goals simp
@[simp] theorem bodyMul_keeps (acc : ℕ) (rs1 : ℕ) (rs2 : ℕ) (s : State) (x : Eng) : (bodyMul acc rs1 rs2 s x).keeps s.store := by
  simp only [bodyMul, alu2, aluZN, aluSat, immZN, accSat]
  repeat' split
  all_goals simp
@[simp] theorem bodyMac_keeps (acc : ℕ) (rs1 : ℕ) (rs2 : ℕ) (s : State) (x : Eng) : (bodyMac acc rs1 rs2 s x).keeps s.store := by
  simp only [bodyMac, alu2, aluZN, aluSat, immZN, accSat]
  repeat' split
  all_goals simp
@[simp] theorem bodyMsu_keeps (acc : ℕ) (rs1 : ℕ) (rs2 : ℕ) (s : State) (x : Eng) : (bodyMsu acc rs1 rs2 s x).keeps s.store := by
  simp only [bodyMsu, alu2, aluZN, aluSat, immZN, accSat]
  repeat' split
  all_goals simp
@[simp] theorem bodyAclr_keeps (acc : ℕ) (s : State) (x : Eng) : (bodyAclr acc s x).keeps s.store := by
  simp only [bodyAclr, alu2, aluZN, aluSat, immZN, accSat]
  repeat' split
  all_goals simp
@[simp] theorem bodyAld_keeps (acc : ℕ) (rs1 : ℕ) (sh : ℕ) (s : State) (x : Eng) : (bodyAld acc rs1 sh s x).keeps s.store := by
  simp only [bodyAld, alu2, aluZN, aluSat, immZN, accSat]
  repeat' split
  all_goals simp
@[simp] theorem bodyAadd_keeps (acc : ℕ) (acc2 : ℕ) (s : State) (x : Eng) : (bodyAadd acc acc2 s x).keeps s.store := by
  simp only [bodyAadd, alu2, aluZN, aluSat, immZN, accSat]
  repeat' split
  all_goals simp
@[simp] theorem bodyAsub_keeps (acc : ℕ) (acc2 : ℕ) (s : State) (x : Eng) : (bodyAsub acc acc2 s x).keeps s.store := by
  simp only [bodyAsub, alu2, aluZN, aluSat, immZN, accSat]
  repeat' split
  all_goals simp
@[simp] theorem bodyAex_keeps (rd : ℕ) (acc : ℕ) (sh : ℕ) (s : State) (x : Eng) : (bodyAex rd acc sh s x).keeps s.store := by
  simp only [bodyAex, alu2, aluZN, aluSat, immZN, accSat]
  repeat' split
  all_goals simp
@[simp] theorem bodyDiv_keeps (rd : ℕ) (rs1 : ℕ) (rs2 : ℕ) (s : State) (x : Eng) : (bodyDiv rd rs1 rs2 s x).keeps s.store := by
  simp only [bodyDiv, alu2, aluZN, aluSat, immZN, accSat]
  repeat' split
  all_goals simp
@[simp] theorem bodyLd_keeps (e : ℕ) (rd : ℕ) (rs1 : ℕ) (imm : BitVec 16) (ecc : Ecc) (s : State) (x : Eng) : (bodyLd e rd rs1 imm ecc s x).keeps s.store := by
  simp only [bodyLd, alu2, aluZN, aluSat, immZN, accSat]
  repeat' split
  all_goals simp
@[simp] theorem bodyLdw_keeps (e : ℕ) (rd : ℕ) (rs1 : ℕ) (imm : BitVec 16) (ecc : Ecc) (s : State) (x : Eng) : (bodyLdw e rd rs1 imm ecc s x).keeps s.store := by
  simp only [bodyLdw, alu2, aluZN, aluSat, immZN, accSat]
  repeat' split
  all_goals simp
@[simp] theorem bodySt_keeps (rs : ℕ) (rs1 : ℕ) (imm : BitVec 16) (s : State) (x : Eng) : (bodySt rs rs1 imm s x).keeps s.store := by
  simp only [bodySt, alu2, aluZN, aluSat, immZN, accSat]
  repeat' split
  all_goals simp
@[simp] theorem bodyStw_keeps (e : ℕ) (rs : ℕ) (rs1 : ℕ) (imm : BitVec 16) (ecc : Ecc) (s : State) (x : Eng) : (bodyStw e rs rs1 imm ecc s x).keeps s.store := by
  simp only [bodyStw, alu2, aluZN, aluSat, immZN, accSat]
  repeat' split
  all_goals simp
@[simp] theorem bodyAldm_keeps (e : ℕ) (acc : ℕ) (rs1 : ℕ) (imm : BitVec 16) (ecc ecc2 : Ecc) (s : State) (x : Eng) : (bodyAldm e acc rs1 imm ecc ecc2 s x).keeps s.store := by
  refine keeps_dmemAccess_of _ _ _ _ _ _ _ _ fun addr => ?_
  exact keeps_dmemRead_of _ _ _ _ _ fun s => keeps_dmemRead_of _ _ _ _ _ fun s => rfl
@[simp] theorem bodyAst_keeps (acc : ℕ) (rs1 : ℕ) (imm : BitVec 16) (s : State) (x : Eng) : (bodyAst acc rs1 imm s x).keeps s.store := by
  simp only [bodyAst, alu2, aluZN, aluSat, immZN, accSat]
  repeat' split
  all_goals simp
@[simp] theorem bodyCrd_keeps (rd : ℕ) (rs1 : ℕ) (imm : BitVec 16) (s : State) (x : Eng) : (bodyCrd rd rs1 imm s x).keeps s.store := by
  refine keeps_hazards_of _ _ _ _ _ ?_
  dsimp only
  split
  · trivial
  · rfl
@[simp] theorem bodyCwr_keeps (rs : ℕ) (rs1 : ℕ) (imm : BitVec 16) (s : State) (x : Eng) : (bodyCwr rs rs1 imm s x).keeps s.store := by
  refine keeps_hazards_of _ _ _ _ _ ?_
  dsimp only
  split
  · trivial
  · rfl
@[simp] theorem bodyMbi_keeps (e : ℕ) (rd : ℕ) (idx : ℕ) (rs1 : ℕ) (s : State) (x : Eng) : (bodyMbi e rd idx rs1 s x).keeps s.store := by
  refine keeps_hazards_of _ _ _ _ _ ?_
  dsimp only
  split
  · trivial
  · rfl
@[simp] theorem bodyMbo_keeps (rs : ℕ) (idx : ℕ) (rs1 : ℕ) (s : State) (x : Eng) : (bodyMbo rs idx rs1 s x).keeps s.store := by
  refine keeps_hazards_of _ _ _ _ _ ?_
  dsimp only
  split
  · trivial
  · split
    · trivial
    · rfl
@[simp] theorem bodyLoop_keeps (body : ℕ) (rs : ℕ) (count : ℕ) (s : State) (x : Eng) : (bodyLoop body rs count s x).keeps s.store := by
  unfold bodyLoop
  split
  · trivial
  · refine keeps_hazards_of _ _ _ _ _ ?_
    dsimp only
    generalize (if rs = 0 then (count : Int) else min (x.reg rs).toInt count) = t
    by_cases h1 : t ≤ 0
    · simp [h1]
    · by_cases h2 : 4 ≤ x.loops.length <;> simp [h1, h2]
@[simp] theorem bodyEnd_keeps (e : ℕ) (s : State) (x : Eng) : (bodyEnd e s x).keeps s.store := by
  simp only [bodyEnd, alu2, aluZN, aluSat, immZN, accSat]
  repeat' split
  all_goals simp
@[simp] theorem bodySkip_keeps (cond : ℕ) (n : ℕ) (s : State) (x : Eng) : (bodySkip cond n s x).keeps s.store := by
  simp only [bodySkip, alu2, aluZN, aluSat, immZN, accSat]
  repeat' split
  all_goals simp
@[simp] theorem bodySkbs_keeps (reg : ℕ) (bit : ℕ) (n : ℕ) (s : State) (x : Eng) : (bodySkbs reg bit n s x).keeps s.store := by
  simp only [bodySkbs, alu2, aluZN, aluSat, immZN, accSat]
  repeat' split
  all_goals simp
@[simp] theorem bodySkbc_keeps (reg : ℕ) (bit : ℕ) (n : ℕ) (s : State) (x : Eng) : (bodySkbc reg bit n s x).keeps s.store := by
  simp only [bodySkbc, alu2, aluZN, aluSat, immZN, accSat]
  repeat' split
  all_goals simp
@[simp] theorem bodyPost_keeps (e : ℕ) (ev : ℕ) (s : State) (x : Eng) : (bodyPost e ev s x).keeps s.store := by
  simp only [bodyPost, alu2, aluZN, aluSat, immZN, accSat]
  repeat' split
  all_goals simp
@[simp] theorem bodyTrap_keeps (code : ℕ) (s : State) (x : Eng) : (bodyTrap code s x).keeps s.store := by
  simp only [bodyTrap, alu2, aluZN, aluSat, immZN, accSat]
  repeat' split
  all_goals simp
@[simp] theorem execEAdd_store (e : Fin 17) (f : Ecc) (rd : Fin 32) (rs1 : Fin 32) (rs2 : Fin 32) (s : State) :
    storeOf (execEAdd e f rd rs1 rs2 s) = some s.store := by
  exact engRow_store_of _ _ _ _ (fun _ _ => bodyAdd_keeps ..) s
@[simp] theorem execESub_store (e : Fin 17) (f : Ecc) (rd : Fin 32) (rs1 : Fin 32) (rs2 : Fin 32) (s : State) :
    storeOf (execESub e f rd rs1 rs2 s) = some s.store := by
  exact engRow_store_of _ _ _ _ (fun _ _ => bodySub_keeps ..) s
@[simp] theorem execEAnd_store (e : Fin 17) (f : Ecc) (rd : Fin 32) (rs1 : Fin 32) (rs2 : Fin 32) (s : State) :
    storeOf (execEAnd e f rd rs1 rs2 s) = some s.store := by
  exact engRow_store_of _ _ _ _ (fun _ _ => bodyAnd_keeps ..) s
@[simp] theorem execEOr_store (e : Fin 17) (f : Ecc) (rd : Fin 32) (rs1 : Fin 32) (rs2 : Fin 32) (s : State) :
    storeOf (execEOr e f rd rs1 rs2 s) = some s.store := by
  exact engRow_store_of _ _ _ _ (fun _ _ => bodyOr_keeps ..) s
@[simp] theorem execEXor_store (e : Fin 17) (f : Ecc) (rd : Fin 32) (rs1 : Fin 32) (rs2 : Fin 32) (s : State) :
    storeOf (execEXor e f rd rs1 rs2 s) = some s.store := by
  exact engRow_store_of _ _ _ _ (fun _ _ => bodyXor_keeps ..) s
@[simp] theorem execEShl_store (e : Fin 17) (f : Ecc) (rd : Fin 32) (rs1 : Fin 32) (rs2 : Fin 32) (s : State) :
    storeOf (execEShl e f rd rs1 rs2 s) = some s.store := by
  exact engRow_store_of _ _ _ _ (fun _ _ => bodyShl_keeps ..) s
@[simp] theorem execEShr_store (e : Fin 17) (f : Ecc) (rd : Fin 32) (rs1 : Fin 32) (rs2 : Fin 32) (s : State) :
    storeOf (execEShr e f rd rs1 rs2 s) = some s.store := by
  exact engRow_store_of _ _ _ _ (fun _ _ => bodyShr_keeps ..) s
@[simp] theorem execESar_store (e : Fin 17) (f : Ecc) (rd : Fin 32) (rs1 : Fin 32) (rs2 : Fin 32) (s : State) :
    storeOf (execESar e f rd rs1 rs2 s) = some s.store := by
  exact engRow_store_of _ _ _ _ (fun _ _ => bodySar_keeps ..) s
@[simp] theorem execEMin_store (e : Fin 17) (f : Ecc) (rd : Fin 32) (rs1 : Fin 32) (rs2 : Fin 32) (s : State) :
    storeOf (execEMin e f rd rs1 rs2 s) = some s.store := by
  exact engRow_store_of _ _ _ _ (fun _ _ => bodyMin_keeps ..) s
@[simp] theorem execEMax_store (e : Fin 17) (f : Ecc) (rd : Fin 32) (rs1 : Fin 32) (rs2 : Fin 32) (s : State) :
    storeOf (execEMax e f rd rs1 rs2 s) = some s.store := by
  exact engRow_store_of _ _ _ _ (fun _ _ => bodyMax_keeps ..) s
@[simp] theorem execEAdds_store (e : Fin 17) (f : Ecc) (rd : Fin 32) (rs1 : Fin 32) (rs2 : Fin 32) (s : State) :
    storeOf (execEAdds e f rd rs1 rs2 s) = some s.store := by
  exact engRow_store_of _ _ _ _ (fun _ _ => bodyAdds_keeps ..) s
@[simp] theorem execESubs_store (e : Fin 17) (f : Ecc) (rd : Fin 32) (rs1 : Fin 32) (rs2 : Fin 32) (s : State) :
    storeOf (execESubs e f rd rs1 rs2 s) = some s.store := by
  exact engRow_store_of _ _ _ _ (fun _ _ => bodySubs_keeps ..) s
@[simp] theorem execENeg_store (e : Fin 17) (f : Ecc) (rd : Fin 32) (rs1 : Fin 32) (s : State) :
    storeOf (execENeg e f rd rs1 s) = some s.store := by
  exact engRow_store_of _ _ _ _ (fun _ _ => bodyNeg_keeps ..) s
@[simp] theorem execEAbs_store (e : Fin 17) (f : Ecc) (rd : Fin 32) (rs1 : Fin 32) (s : State) :
    storeOf (execEAbs e f rd rs1 s) = some s.store := by
  exact engRow_store_of _ _ _ _ (fun _ _ => bodyAbs_keeps ..) s
@[simp] theorem execEClz_store (e : Fin 17) (f : Ecc) (rd : Fin 32) (rs1 : Fin 32) (s : State) :
    storeOf (execEClz e f rd rs1 s) = some s.store := by
  exact engRow_store_of _ _ _ _ (fun _ _ => bodyClz_keeps ..) s
@[simp] theorem execECmp_store (e : Fin 17) (f : Ecc) (rs1 : Fin 32) (rs2 : Fin 32) (s : State) :
    storeOf (execECmp e f rs1 rs2 s) = some s.store := by
  exact engRow_store_of _ _ _ _ (fun _ _ => bodyCmp_keeps ..) s
@[simp] theorem execESel_store (e : Fin 17) (f : Ecc) (rd : Fin 32) (rs1 : Fin 32) (rs2 : Fin 32) (cond : Fin 16) (s : State) :
    storeOf (execESel e f rd rs1 rs2 cond s) = some s.store := by
  exact engRow_store_of _ _ _ _ (fun _ _ => bodySel_keeps ..) s
@[simp] theorem execERdc_store (e : Fin 17) (f : Ecc) (rd : Fin 32) (s : State) :
    storeOf (execERdc e f rd s) = some s.store := by
  exact engRow_store_of _ _ _ _ (fun _ _ => bodyRdc_keeps ..) s
@[simp] theorem execEAddi_store (e : Fin 17) (f : Ecc) (rd : Fin 32) (rs1 : Fin 32) (imm : BitVec 16) (s : State) :
    storeOf (execEAddi e f rd rs1 imm s) = some s.store := by
  exact engRow_store_of _ _ _ _ (fun _ _ => bodyAddi_keeps ..) s
@[simp] theorem execEAndi_store (e : Fin 17) (f : Ecc) (rd : Fin 32) (rs1 : Fin 32) (imm : BitVec 16) (s : State) :
    storeOf (execEAndi e f rd rs1 imm s) = some s.store := by
  exact engRow_store_of _ _ _ _ (fun _ _ => bodyAndi_keeps ..) s
@[simp] theorem execEOri_store (e : Fin 17) (f : Ecc) (rd : Fin 32) (rs1 : Fin 32) (imm : BitVec 16) (s : State) :
    storeOf (execEOri e f rd rs1 imm s) = some s.store := by
  exact engRow_store_of _ _ _ _ (fun _ _ => bodyOri_keeps ..) s
@[simp] theorem execEXori_store (e : Fin 17) (f : Ecc) (rd : Fin 32) (rs1 : Fin 32) (imm : BitVec 16) (s : State) :
    storeOf (execEXori e f rd rs1 imm s) = some s.store := by
  exact engRow_store_of _ _ _ _ (fun _ _ => bodyXori_keeps ..) s
@[simp] theorem execEShli_store (e : Fin 17) (f : Ecc) (rd : Fin 32) (rs1 : Fin 32) (sh : Fin 64) (s : State) :
    storeOf (execEShli e f rd rs1 sh s) = some s.store := by
  exact engRow_store_of _ _ _ _ (fun _ _ => bodyShli_keeps ..) s
@[simp] theorem execEShri_store (e : Fin 17) (f : Ecc) (rd : Fin 32) (rs1 : Fin 32) (sh : Fin 64) (s : State) :
    storeOf (execEShri e f rd rs1 sh s) = some s.store := by
  exact engRow_store_of _ _ _ _ (fun _ _ => bodyShri_keeps ..) s
@[simp] theorem execESari_store (e : Fin 17) (f : Ecc) (rd : Fin 32) (rs1 : Fin 32) (sh : Fin 64) (s : State) :
    storeOf (execESari e f rd rs1 sh s) = some s.store := by
  exact engRow_store_of _ _ _ _ (fun _ _ => bodySari_keeps ..) s
@[simp] theorem execECmpi_store (e : Fin 17) (f : Ecc) (rs1 : Fin 32) (imm : BitVec 16) (s : State) :
    storeOf (execECmpi e f rs1 imm s) = some s.store := by
  exact engRow_store_of _ _ _ _ (fun _ _ => bodyCmpi_keeps ..) s
@[simp] theorem execELdi_store (e : Fin 17) (f : Ecc) (rd : Fin 32) (imm : BitVec 16) (s : State) :
    storeOf (execELdi e f rd imm s) = some s.store := by
  exact engRow_store_of _ _ _ _ (fun _ _ => bodyLdi_keeps ..) s
@[simp] theorem execEInsh_store (e : Fin 17) (f : Ecc) (rd : Fin 32) (lane : Fin 4) (imm : BitVec 16) (s : State) :
    storeOf (execEInsh e f rd lane imm s) = some s.store := by
  exact engRow_store_of _ _ _ _ (fun _ _ => bodyInsh_keeps ..) s
@[simp] theorem execEMul_store (e : Fin 17) (f : Ecc) (acc : Fin 4) (rs1 : Fin 32) (rs2 : Fin 32) (s : State) :
    storeOf (execEMul e f acc rs1 rs2 s) = some s.store := by
  exact engRow_store_of _ _ _ _ (fun _ _ => bodyMul_keeps ..) s
@[simp] theorem execEMac_store (e : Fin 17) (f : Ecc) (acc : Fin 4) (rs1 : Fin 32) (rs2 : Fin 32) (s : State) :
    storeOf (execEMac e f acc rs1 rs2 s) = some s.store := by
  exact engRow_store_of _ _ _ _ (fun _ _ => bodyMac_keeps ..) s
@[simp] theorem execEMsu_store (e : Fin 17) (f : Ecc) (acc : Fin 4) (rs1 : Fin 32) (rs2 : Fin 32) (s : State) :
    storeOf (execEMsu e f acc rs1 rs2 s) = some s.store := by
  exact engRow_store_of _ _ _ _ (fun _ _ => bodyMsu_keeps ..) s
@[simp] theorem execEAclr_store (e : Fin 17) (f : Ecc) (acc : Fin 4) (s : State) :
    storeOf (execEAclr e f acc s) = some s.store := by
  exact engRow_store_of _ _ _ _ (fun _ _ => bodyAclr_keeps ..) s
@[simp] theorem execEAld_store (e : Fin 17) (f : Ecc) (acc : Fin 4) (rs1 : Fin 32) (sh : Fin 128) (s : State) :
    storeOf (execEAld e f acc rs1 sh s) = some s.store := by
  exact engRow_store_of _ _ _ _ (fun _ _ => bodyAld_keeps ..) s
@[simp] theorem execEAadd_store (e : Fin 17) (f : Ecc) (acc : Fin 4) (acc2 : Fin 4) (s : State) :
    storeOf (execEAadd e f acc acc2 s) = some s.store := by
  exact engRow_store_of _ _ _ _ (fun _ _ => bodyAadd_keeps ..) s
@[simp] theorem execEAsub_store (e : Fin 17) (f : Ecc) (acc : Fin 4) (acc2 : Fin 4) (s : State) :
    storeOf (execEAsub e f acc acc2 s) = some s.store := by
  exact engRow_store_of _ _ _ _ (fun _ _ => bodyAsub_keeps ..) s
@[simp] theorem execEAex_store (e : Fin 17) (f : Ecc) (rd : Fin 32) (acc : Fin 4) (sh : Fin 128) (s : State) :
    storeOf (execEAex e f rd acc sh s) = some s.store := by
  exact engRow_store_of _ _ _ _ (fun _ _ => bodyAex_keeps ..) s
@[simp] theorem execEDiv_store (e : Fin 17) (f : Ecc) (rd : Fin 32) (rs1 : Fin 32) (rs2 : Fin 32) (s : State) :
    storeOf (execEDiv e f rd rs1 rs2 s) = some s.store := by
  exact engRow_store_of _ _ _ _ (fun _ _ => bodyDiv_keeps ..) s
@[simp] theorem execELd_store (e : Fin 17) (f : Ecc) (rd : Fin 32) (rs1 : Fin 32) (imm : BitVec 16) (ecc : Ecc) (s : State) :
    storeOf (execELd e f rd rs1 imm ecc s) = some s.store := by
  exact engRow_store_of _ _ _ _ (fun _ _ => bodyLd_keeps ..) s
@[simp] theorem execELdw_store (e : Fin 17) (f : Ecc) (rd : Fin 32) (rs1 : Fin 32) (imm : BitVec 16) (ecc : Ecc) (s : State) :
    storeOf (execELdw e f rd rs1 imm ecc s) = some s.store := by
  exact engRow_store_of _ _ _ _ (fun _ _ => bodyLdw_keeps ..) s
@[simp] theorem execESt_store (e : Fin 17) (f : Ecc) (rs : Fin 32) (rs1 : Fin 32) (imm : BitVec 16) (s : State) :
    storeOf (execESt e f rs rs1 imm s) = some s.store := by
  exact engRow_store_of _ _ _ _ (fun _ _ => bodySt_keeps ..) s
@[simp] theorem execEStw_store (e : Fin 17) (f : Ecc) (rs : Fin 32) (rs1 : Fin 32) (imm : BitVec 16) (ecc : Ecc) (s : State) :
    storeOf (execEStw e f rs rs1 imm ecc s) = some s.store := by
  exact engRow_store_of _ _ _ _ (fun _ _ => bodyStw_keeps ..) s
@[simp] theorem execEAldm_store (e : Fin 17) (f : Ecc) (acc : Fin 4) (rs1 : Fin 32) (imm : BitVec 16) (ecc : Ecc × Ecc) (s : State) :
    storeOf (execEAldm e f acc rs1 imm ecc s) = some s.store := by
  exact engRow_store_of _ _ _ _ (fun _ _ => bodyAldm_keeps ..) s
@[simp] theorem execEAst_store (e : Fin 17) (f : Ecc) (acc : Fin 4) (rs1 : Fin 32) (imm : BitVec 16) (s : State) :
    storeOf (execEAst e f acc rs1 imm s) = some s.store := by
  exact engRow_store_of _ _ _ _ (fun _ _ => bodyAst_keeps ..) s
@[simp] theorem execECrd_store (e : Fin 17) (f : Ecc) (rd : Fin 32) (rs1 : Fin 32) (imm : BitVec 16) (s : State) :
    storeOf (execECrd e f rd rs1 imm s) = some s.store := by
  exact engRow_store_of _ _ _ _ (fun _ _ => bodyCrd_keeps ..) s
@[simp] theorem execECwr_store (e : Fin 17) (f : Ecc) (rs : Fin 32) (rs1 : Fin 32) (imm : BitVec 16) (s : State) :
    storeOf (execECwr e f rs rs1 imm s) = some s.store := by
  exact engRow_store_of _ _ _ _ (fun _ _ => bodyCwr_keeps ..) s
@[simp] theorem execEMbi_store (e : Fin 17) (f : Ecc) (rd : Fin 32) (idx : Fin 1024) (rs1 : Fin 32) (s : State) :
    storeOf (execEMbi e f rd idx rs1 s) = some s.store := by
  exact engRow_store_of _ _ _ _ (fun _ _ => bodyMbi_keeps ..) s
@[simp] theorem execEMbo_store (e : Fin 17) (f : Ecc) (rs : Fin 32) (idx : Fin 1024) (rs1 : Fin 32) (s : State) :
    storeOf (execEMbo e f rs idx rs1 s) = some s.store := by
  exact engRow_store_of _ _ _ _ (fun _ _ => bodyMbo_keeps ..) s
@[simp] theorem execELoop_store (e : Fin 17) (f : Ecc) (body : Fin 256) (rs : Fin 32) (count : Fin 8192) (s : State) :
    storeOf (execELoop e f body rs count s) = some s.store := by
  exact engRow_store_of _ _ _ _ (fun _ _ => bodyLoop_keeps ..) s
@[simp] theorem execEEnd_store (e : Fin 17) (f : Ecc) (s : State) :
    storeOf (execEEnd e f s) = some s.store := by
  exact engRow_store_of _ _ _ _ (fun _ _ => bodyEnd_keeps ..) s
@[simp] theorem execESkip_store (e : Fin 17) (f : Ecc) (cond : Fin 16) (n : Fin 1024) (s : State) :
    storeOf (execESkip e f cond n s) = some s.store := by
  exact engRow_store_of _ _ _ _ (fun _ _ => bodySkip_keeps ..) s
@[simp] theorem execESkbs_store (e : Fin 17) (f : Ecc) (reg : Fin 32) (bit : Fin 64) (n : Fin 1024) (s : State) :
    storeOf (execESkbs e f reg bit n s) = some s.store := by
  exact engRow_store_of _ _ _ _ (fun _ _ => bodySkbs_keeps ..) s
@[simp] theorem execESkbc_store (e : Fin 17) (f : Ecc) (reg : Fin 32) (bit : Fin 64) (n : Fin 1024) (s : State) :
    storeOf (execESkbc e f reg bit n s) = some s.store := by
  exact engRow_store_of _ _ _ _ (fun _ _ => bodySkbc_keeps ..) s
@[simp] theorem execEPost_store (e : Fin 17) (f : Ecc) (ev : Fin 128) (s : State) :
    storeOf (execEPost e f ev s) = some s.store := by
  exact engRow_store_of _ _ _ _ (fun _ _ => bodyPost_keeps ..) s
@[simp] theorem execETrap_store (e : Fin 17) (f : Ecc) (code : Fin 256) (s : State) :
    storeOf (execETrap e f code s) = some s.store := by
  exact engRow_store_of _ _ _ _ (fun _ _ => bodyTrap_keeps ..) s
@[simp] theorem execWcetExceeded_store (e : Fin 17) (s : State) :
    storeOf (execWcetExceeded e s) = some s.store := by simp [execWcetExceeded]
@[simp] theorem execEngineScrub_store (e : Fin 17) (mem : EngMem) (idx : Fin 8192) (ecc : Ecc) (s : State) :
    storeOf (execEngineScrub e mem idx ecc s) = some s.store := by
  simp only [execEngineScrub]
  repeat' split
  all_goals simp
@[simp] theorem doHinLoWrite_store (e : Fin 17) (k : Fin 4) (data : BitVec 32) (s : State) :
    storeOf (doHinLoWrite e k data s) = some s.store := by simp [doHinLoWrite]
@[simp] theorem doHoutLoRead_store (e : Fin 17) (k : Fin 4) (s : State) :
    storeOf (doHoutLoRead e k s) = some s.store := by simp [doHoutLoRead]
@[simp] theorem doEngEnable_store (e : Fin 17) (on : Bool) (s : State) :
    storeOf (doEngEnable e on s) = some s.store := by simp [doEngEnable]
@[simp] theorem doEngHalt_store (e : Fin 17) (on : Bool) (s : State) :
    storeOf (doEngHalt e on s) = some s.store := by simp [doEngHalt]
@[simp] theorem doBellPeriodWrite_store (period : BitVec 25) (s : State) :
    storeOf (doBellPeriodWrite period s) = some s.store := by simp [doBellPeriodWrite]
@[simp] theorem dropStrikes_store (e : ℕ) (b : ℕ) (s : State) :
    (dropStrikes e b s).store = s.store := by simp [dropStrikes]
@[simp] theorem execStrikeExpiry_store (e : Fin 17) (s : State) :
    storeOf (execStrikeExpiry e s) = some s.store := by simp [execStrikeExpiry]
@[simp] theorem doSubstForce_store (target : Fin 16) (s : State) :
    storeOf (doSubstForce target s) = some s.store := by simp [doSubstForce]
@[simp] theorem execSubstReady_store (copyOk : Bool) (s : State) :
    storeOf (execSubstReady copyOk s) = some s.store := by simp [execSubstReady]
@[simp] theorem doSubstReturn_store (s : State) :
    storeOf (doSubstReturn s) = some s.store := by simp [doSubstReturn]
@[simp] theorem pathShift_store (p : Nat) (amt : Int) (s : State) :
    (pathShift p amt s).store = s.store := by simp [pathShift]
@[simp] theorem apllsFollow_store (k : Nat) (s : State) :
    (apllsFollow k s).store = s.store := by simp [apllsFollow]
@[simp] theorem slewTicks_store (k : ℕ) (p : ℕ) (s : State) :
    (slewTicks k p s).store = s.store := by simp [slewTicks]
@[simp] theorem newSegment_store (p : ℕ) (s : State) :
    (newSegment p s).store = s.store := by simp [newSegment]
@[simp] theorem advanceRamps_store (k : ℕ) (s : State) :
    (advanceRamps k s).store = s.store := by simp [advanceRamps]
@[simp] theorem advanceScales_store (k : ℕ) (s : State) :
    (advanceScales k s).store = s.store := by simp [advanceScales]
@[simp] theorem advanceTb_store (k : ℕ) (s : State) :
    (advanceTb k s).store = s.store := by simp [advanceTb]
@[simp] theorem advance_store (k : ℕ) (s : State) :
    (advance k s).store = s.store := by
  simp only [advance]
  repeat' split
  all_goals simp_all
@[simp] theorem tick_store (s : State) :
    (tick s).store = s.store := by
  simp only [tick]
  repeat' split
  all_goals simp_all
@[simp] theorem pulseJump_store (n : ℕ) (old : ℕ) (new : ℕ) (s : State) :
    (pulseJump n old new s).store = s.store := by simp [pulseJump]
@[simp] theorem markStepped_store (n : ℕ) (s : State) :
    (markStepped n s).store = s.store := by simp [markStepped]
@[simp] theorem grpsCoarse_store (s : State) :
    (grpsCoarse s).store = s.store := by simp [grpsCoarse]
@[simp] theorem anchorsDue_store (n : ℕ) (s : State) :
    (anchorsDue n s).store = s.store := by simp [anchorsDue]
@[simp] theorem tsMove_store (n : ℕ) (v : ℕ) (s : State) :
    (tsMove n v s).store = s.store := by simp [tsMove]
@[simp] theorem tsSet_store (n : Nat) (v : Nat) (s : State) :
    (tsSet n v s).store = s.store := by
  simp only [tsSet]
  repeat' split
  all_goals simp_all
@[simp] theorem tsCommand_store (n : ℕ) (isSet : Bool) (s : State) :
    (tsCommand n isSet s).store = s.store := by simp [tsCommand]
@[simp] theorem tsOrder_store (n : ℕ) (isSet : Bool) (s : State) :
    (tsOrder n isSet s).store = s.store := by simp [tsOrder]
@[simp] theorem tsFirstTick_store (s : State) :
    (tsFirstTick s).store = s.store := by simp [tsFirstTick]
@[simp] theorem doTsSet_store (n : Fin 4) (s : State) :
    storeOf (doTsSet n s) = some s.store := by simp [doTsSet]
@[simp] theorem doTsAdj_store (n : Fin 4) (s : State) :
    storeOf (doTsAdj n s) = some s.store := by simp [doTsAdj]
@[simp] theorem doTsCapture_store (n : Fin 4) (s : State) :
    storeOf (doTsCapture n s) = some s.store := by simp [doTsCapture]
@[simp] theorem execTsCmdTimeout_store (n : Fin 4) (s : State) :
    storeOf (execTsCmdTimeout n s) = some s.store := by simp [execTsCmdTimeout]
@[simp] theorem tsEdge_store (slot : Nat) (t : Int) (s : State) : (tsEdge slot t s).store = s.store := by
  refine store_forRange_of _ _ (fun n s => ?_) s
  split
  · split <;> simp
  · rfl
@[simp] theorem tsControl_store (n : ℕ) (w : Word64) (s : State) :
    (tsControl n w s).store = s.store := by simp [tsControl]
@[simp] theorem doPhaseStepCommit_store (p : Fin 8) (lo : BitVec 32) (s : State) :
    storeOf (doPhaseStepCommit p lo s) = some s.store := by simp [doPhaseStepCommit]
@[simp] theorem doStepCancel_store (p : Fin 8) (s : State) :
    storeOf (doStepCancel p s) = some s.store := by simp [doStepCancel]
@[simp] theorem execSlewComplete_store (p : Fin 8) (s : State) :
    storeOf (execSlewComplete p s) = some s.store := by simp [execSlewComplete]
@[simp] theorem immediateStep_store (p : ℕ) (s : State) :
    (immediateStep p s).store = s.store := by simp [immediateStep]
@[simp] theorem setApllState_store (k : ℕ) (v : ℕ) (s : State) :
    (setApllState k v s).store = s.store := by simp [setApllState]
@[simp] theorem outErrs_store (s : State) :
    (outErrs s).store = s.store := by simp [outErrs]
@[simp] theorem doCacheClr_store (k : Fin 9) (s : State) :
    storeOf (doCacheClr k s) = some s.store := by simp [doCacheClr]
@[simp] theorem startSearch_store (k : ℕ) (s : State) :
    (startSearch k s).store = s.store := by simp [startSearch]
@[simp] theorem acquire_store (k : ℕ) (hop : Bool) (s : State) :
    (acquire k hop s).store = s.store := by
  simp only [acquire]
  (repeat' split) <;> simp
@[simp] theorem changeBegin_store (k : Nat) (s : State) :
    (changeBegin k s).store = s.store := by
  simp only [changeBegin]
  repeat' split
  all_goals simp_all
@[simp] theorem spareOff_store (s : State) :
    (spareOff s).store = s.store := by simp [spareOff]
@[simp] theorem spareRun_store (j : ℕ) (s : State) :
    (spareRun j s).store = s.store := by simp [spareRun]
@[simp] theorem spareFollow_store (s : State) :
    (spareFollow s).store = s.store := by
  simp only [spareFollow]
  repeat' split
  all_goals simp
@[simp] theorem spareServe_store (j : ℕ) (s : State) :
    (spareServe j s).store = s.store := by simp [spareServe]
@[simp] theorem coverNow_store (s : State) :
    (coverNow s).store = s.store := by simp [coverNow]
@[simp] theorem spareCheck_store (s : State) :
    (spareCheck s).store = s.store := by
  simp only [spareCheck]
  repeat' split
  all_goals simp
@[simp] theorem spareSettled_store (s : State) :
    (spareSettled s).store = s.store := by
  simp only [spareSettled]
  repeat' split
  all_goals simp
@[simp] theorem mapOutputs_store (k : ℕ) (s : State) :
    (mapOutputs k s).store = s.store := by simp [mapOutputs]
@[simp] theorem mapApply_store (k : ℕ) (p : Plan) (full : Bool) (s : State) :
    (mapApply k p full s).store = s.store := by simp [mapApply]
@[simp] theorem takePlan_store (k : ℕ) (p : Plan) (c : PlanClass) (held byp : ℕ) (full settling begun : Bool) (s : State) :
    (takePlan k p c held byp full settling begun s).store = s.store := by simp [takePlan]
@[simp] theorem applyPlan_store (k : ℕ) (full : Bool) (s : State) :
    (applyPlan k full s).store = s.store := by
  simp only [applyPlan]
  repeat' split
  all_goals simp
@[simp] theorem doApply_store (k : Fin 9) (s : State) :
    storeOf (doApply k s) = some s.store := by simp [doApply]
@[simp] theorem doApplyFull_store (k : Fin 9) (s : State) :
    storeOf (doApplyFull k s) = some s.store := by simp [doApplyFull]
@[simp] theorem execRampComplete_store (k : Fin 9) (s : State) :
    storeOf (execRampComplete k s) = some s.store := by simp [execRampComplete]
@[simp] theorem execApllLock_store (k : Fin 9) (band : Fin 48) (s : State) :
    storeOf (execApllLock k band s) = some s.store := by
  simp only [execApllLock]
  repeat' split
  all_goals simp
@[simp] theorem execHopTimeout_store (k : Fin 9) (s : State) :
    storeOf (execHopTimeout k s) = some s.store := by simp [execHopTimeout]
@[simp] theorem execSearchFail_store (k : Fin 9) (s : State) :
    storeOf (execSearchFail k s) = some s.store := by simp [execSearchFail]
@[simp] theorem autoReturn_store (k : ℕ) (s : State) :
    (autoReturn k s).store = s.store := by simp [autoReturn]
@[simp] theorem spareChange_store (k : Nat) (c : Change) (s : State) :
    (spareChange k c s).store = s.store := by simp [spareChange]
@[simp] theorem execApllSettleEnd_store (k : Fin 9) (u : Unit) (s : State) :
    storeOf (execApllSettleEnd k u s) = some s.store := by
  simp only [execApllSettleEnd]
  (repeat' split) <;> simp
@[simp] theorem moveOutputs_store (k : ℕ) (spare : Bool) (s : State) :
    (moveOutputs k spare s).store = s.store := by simp [moveOutputs]
@[simp] theorem apllLose_store (k : ℕ) (s : State) :
    (apllLose k s).store = s.store := by simp [apllLose]
@[simp] theorem execApllUnlock_store (k : Fin 9) (s : State) :
    storeOf (execApllUnlock k s) = some s.store := by simp [execApllUnlock]
@[simp] theorem execApllRetry_store (k : Fin 9) (s : State) :
    storeOf (execApllRetry k s) = some s.store := by simp [execApllRetry]
@[simp] theorem doApllEnable_store (k : Fin 9) (on : Bool) (s : State) :
    storeOf (doApllEnable k on s) = some s.store := by simp [doApllEnable]
@[simp] theorem doApll8CoverWrite_store (data : BitVec 32) (s : State) :
    storeOf (doApll8CoverWrite data s) = some s.store := by simp [doApll8CoverWrite]
@[simp] theorem execTuneEdgeDetect_store (k : Fin 9) (near : Bool) (s : State) :
    storeOf (execTuneEdgeDetect k near s) = some s.store := by simp [execTuneEdgeDetect]
@[simp] theorem apllsHold_store (s : State) :
    (apllsHold s).store = s.store := by simp [apllsHold]
@[simp] theorem apllsRejoin_store (s : State) :
    (apllsRejoin s).store = s.store := by simp [apllsRejoin]
@[simp] theorem muxSwitch_store (o : ℕ) (s : State) :
    (muxSwitch o s).store = s.store := by simp [muxSwitch]
@[simp] theorem execMuxSwitch_store (o : Fin 32) (s : State) :
    storeOf (execMuxSwitch o s) = some s.store := by simp [execMuxSwitch]
@[simp] theorem execMuxDeadClockSwitch_store (o : Fin 32) (s : State) :
    storeOf (execMuxDeadClockSwitch o s) = some s.store := by simp [execMuxDeadClockSwitch]
@[simp] theorem doOutSrcWrite_store (o : Fin 32) (src : Fin 4) (s : State) :
    storeOf (doOutSrcWrite o src s) = some s.store := by
  simp only [doOutSrcWrite]
  repeat' split
  all_goals simp
@[simp] theorem doOutEnable_store (o : Fin 32) (on : Bool) (s : State) :
    storeOf (doOutEnable o on s) = some s.store := by simp [doOutEnable]
@[simp] theorem doOutPhaseCommit_store (o : Fin 32) (lo : BitVec 32) (s : State) :
    storeOf (doOutPhaseCommit o lo s) = some s.store := by simp [doOutPhaseCommit]
@[simp] theorem execPhaseAdjustDone_store (o : Fin 32) (s : State) :
    storeOf (execPhaseAdjustDone o s) = some s.store := by simp [execPhaseAdjustDone]
@[simp] theorem execPulseInstant_store (o : Fin 32) (sec : BitVec 48) (s : State) :
    storeOf (execPulseInstant o sec s) = some s.store := by simp [execPulseInstant]
@[simp] theorem pllsOff_store (s : State) :
    (pllsOff s).store = s.store := by simp [pllsOff]
@[simp] theorem doDevClkStart_store (s : State) :
    storeOf (doDevClkStart s) = some s.store := by simp [doDevClkStart]
@[simp] theorem execXoStartTimeout_store (s : State) :
    storeOf (execXoStartTimeout s) = some s.store := by simp [execXoStartTimeout]
@[simp] theorem xoPresent_store (s : State) :
    (xoPresent s).store = s.store := by simp [xoPresent]
@[simp] theorem execTbpllLock_store (s : State) :
    storeOf (execTbpllLock s) = some s.store := by simp [execTbpllLock]
@[simp] theorem execSyspllLock_store (s : State) :
    storeOf (execSyspllLock s) = some s.store := by simp [execSyspllLock]
@[simp] theorem execStartFailTimeout_store (s : State) :
    storeOf (execStartFailTimeout s) = some s.store := by simp [execStartFailTimeout]
@[simp] theorem markRing_store (s : State) :
    (markRing s).store = s.store := by simp [markRing]
@[simp] theorem execSyspllLoss_store (s : State) :
    storeOf (execSyspllLoss s) = some s.store := by simp [execSyspllLoss]
@[simp] theorem execSyspllRelock_store (s : State) :
    storeOf (execSyspllRelock s) = some s.store := by simp [execSyspllRelock]
@[simp] theorem execServoHoldEnd_store (s : State) :
    storeOf (execServoHoldEnd s) = some s.store := by simp [execServoHoldEnd]
@[simp] theorem bellSwitch_store (b : Bool) (s : State) : (bellSwitch b s).store = s.store := rfl
@[simp] theorem setOnXo_store (b : Bool) (s : State) :
    (setOnXo b s).store = s.store := by simp [setOnXo]
@[simp] theorem execTbpllLoss_store (s : State) :
    storeOf (execTbpllLoss s) = some s.store := by simp [execTbpllLoss]
@[simp] theorem execTbpllRelock_store (s : State) :
    storeOf (execTbpllRelock s) = some s.store := by simp [execTbpllRelock]
@[simp] theorem execTdcDllRelockAfterTb_store (s : State) :
    storeOf (execTdcDllRelockAfterTb s) = some s.store := by simp [execTdcDllRelockAfterTb]
@[simp] theorem xoGone_store (s : State) :
    (xoGone s).store = s.store := by simp only [xoGone]; split <;> simp

@[simp] theorem execXoLoss_store (s : State) :
    storeOf (execXoLoss s) = some s.store := by simp [execXoLoss]
@[simp] theorem execXoReturn_store (s : State) :
    storeOf (execXoReturn s) = some s.store := by simp [execXoReturn]
@[simp] theorem execIslandClockStop_store (i : Fin 32) (s : State) :
    storeOf (execIslandClockStop i s) = some s.store := by simp [execIslandClockStop]
@[simp] theorem tempSensor_store (i : ℕ) (v : BitVec 16) (s : State) :
    (tempSensor i v s).store = s.store := by simp [tempSensor]
@[simp] theorem execTempConversion_store (t : TempReadings) (s : State) :
    storeOf (execTempConversion t s) = some s.store := by simp [execTempConversion]
@[simp] theorem chanFault_store (ch : ℕ) (s : State) :
    (chanFault ch s).store = s.store := by
  simp only [chanFault]
  repeat' split
  all_goals simp
@[simp] theorem spareIdle_store (k : ℕ) (s : State) :
    (spareIdle k s).store = s.store := by simp [spareIdle]
@[simp] theorem spareServes_store (k : ℕ) (c : ℕ) (d : ℤ) (s : State) :
    (spareServes k c d s).store = s.store := by simp [spareServes]
@[simp] theorem spareReturns_store (k : ℕ) (s : State) :
    (spareReturns k s).store = s.store := by simp [spareReturns]
@[simp] theorem spareConnect_store (k : ℕ) (c : ℕ) (s : State) :
    (spareConnect k c s).store = s.store := by simp [spareConnect]
@[simp] theorem calStart_store (ch : ℕ) (s : State) :
    (calStart ch s).store = s.store := by simp [calStart]
@[simp] theorem calFail_store (ch : ℕ) (s : State) :
    (calFail ch s).store = s.store := by simp [calFail]
@[simp] theorem execDllFirstLock_store (s : State) :
    storeOf (execDllFirstLock s) = some s.store := by simp [execDllFirstLock]
@[simp] theorem execDllRelock_store (ch : Fin 52) (s : State) :
    storeOf (execDllRelock ch s) = some s.store := by simp [execDllRelock]
@[simp] theorem doTdcCal_store (ch : Fin 52) (s : State) :
    storeOf (doTdcCal ch s) = some s.store := by simp [doTdcCal]
@[simp] theorem doCalAll_store (s : State) :
    storeOf (doCalAll s) = some s.store := by simp [doCalAll]
@[simp] theorem mapTakes_store (s : State) :
    (mapTakes s).store = s.store := by simp [mapTakes]
@[simp] theorem mirrorBegin_store (k : Nat) (s : State) :
    (mirrorBegin k s).store = s.store := by simp [mirrorBegin]
@[simp] theorem doSpareTake_store (k : Fin 4) (role : Fin 64) (s : State) :
    storeOf (doSpareTake k role s) = some s.store := by simp [doSpareTake]
@[simp] theorem doSpareRelease_store (k : Fin 4) (s : State) :
    storeOf (doSpareRelease k s) = some s.store := by simp [doSpareRelease]
@[simp] theorem mirrorEnd_store (k : ℕ) (d : ℤ) (short : Bool) (s : State) :
    (mirrorEnd k d short s).store = s.store := by simp [mirrorEnd]
@[simp] theorem execMirrorSwitch_store (k : Fin 4) (u : Unit) (s : State) :
    storeOf (execMirrorSwitch k u s) = some s.store := by simp [execMirrorSwitch]
@[simp] theorem execMirrorTimeout_store (k : Fin 4) (u v : Unit) (s : State) :
    storeOf (execMirrorTimeout k u v s) = some s.store := by simp [execMirrorTimeout]
@[simp] theorem fifoPush_store (c : ℕ) (st : Stamp) (s : State) :
    (fifoPush c st s).store = s.store := by simp [fifoPush]
@[simp] theorem onGate_store (n : ℕ) (t : ℤ) (f : GateRec → GateRec) (s : State) :
    (onGate n t f s).store = s.store := by simp [onGate]
@[simp] theorem gateEnds_store (n : Nat) (s : State) :
    (gateEnds n s).store = s.store := by
  simp only [gateEnds]
  repeat' split
  all_goals simp_all
@[simp] theorem execGateComplete_store (n : Fin 24) (s : State) :
    storeOf (execGateComplete n s) = some s.store := by
  simp only [execGateComplete]
  repeat' split
  all_goals simp
@[simp] theorem acceptEdge_store (n : ℕ) (t : ℤ) (flags : ℕ) (m : ℕ) (r : ℤ) (u : ℤ) (s : State) :
    (acceptEdge n t flags m r u s).store = s.store := by simp [acceptEdge]
@[simp] theorem slotEdge_store (n : ℕ) (st : Stamp) (s : State) :
    (slotEdge n st s).store = s.store := by
  simp only [slotEdge]
  repeat' split
  all_goals simp
@[simp] theorem pulseWidth_store (n : ℕ) (t : ℤ) (s : State) :
    (pulseWidth n t s).store = s.store := by
  simp only [pulseWidth]
  repeat' split
  all_goals simp
@[simp] theorem irigEdge_store (n : Nat) (t : Int) (s : State) :
    (irigEdge n t s).store = s.store := by
  simp only [irigEdge]
  repeat' split
  all_goals simp_all
@[simp] theorem slotDeliver_store (n : Nat) (fall : Bool) (st : Stamp) (s : State) :
    (slotDeliver n fall st s).store = s.store := by simp [slotDeliver]
@[simp] theorem prescale_store (n : Nat) (fall : Bool) (s : State) :
    (prescale n fall s).2.store = s.store := by
  simp only [prescale]
  repeat' split
  all_goals simp_all
@[simp] theorem virtualSample_store (n : ℕ) (s : State) :
    (virtualSample n s).store = s.store := by
  simp only [virtualSample]
  repeat' split
  all_goals simp
@[simp] theorem slotBell_store (n : ℕ) (s : State) :
    (slotBell n s).store = s.store := by simp [slotBell]
@[simp] theorem slotStateChange_store (n : Nat) (f : State → State) (s : State) :
    (slotStateChange n f s).store = (f s).store := by
  simp only [slotStateChange]; split <;> simp
@[simp] theorem execActivityTimeout_store (n : Fin 24) (s : State) :
    storeOf (execActivityTimeout n s) = some s.store := by simp [execActivityTimeout]
@[simp] theorem slotForget_store (n : ℕ) (s : State) :
    (slotForget n s).store = s.store := by simp [slotForget]
@[simp] theorem rescaleSum_store (n old : ℕ) (s : State) :
    (rescaleSum n old s).store = s.store := by simp [rescaleSum]
@[simp] theorem doSlotCfgWrite_store (n : Fin 24) (reg : Fin 3) (data : BitVec 32) (s : State) :
    storeOf (doSlotCfgWrite n reg data s) = some s.store := by simp [doSlotCfgWrite]
@[simp] theorem doSlotRebase_store (n : Fin 24) (s : State) :
    storeOf (doSlotRebase n s) = some s.store := by simp [doSlotRebase]
@[simp] theorem doSlotQualWrite_store (n : Fin 24) (data : BitVec 32) (s : State) :
    storeOf (doSlotQualWrite n data s) = some s.store := by simp [doSlotQualWrite]
@[simp] theorem execIrigFrame_store (n : Fin 4) (format : Fin 8) (s : State) :
    storeOf (execIrigFrame n format s) = some s.store := by
  simp only [execIrigFrame]
  repeat' split
  all_goals simp
@[simp] theorem execIrigRegisterUpdate_store (n : Fin 4) (s : State) :
    storeOf (execIrigRegisterUpdate n s) = some s.store := by
  simp only [execIrigRegisterUpdate]
  repeat' split
  all_goals simp
@[simp] theorem execIrigLockTimeout_store (n : Fin 4) (s : State) :
    storeOf (execIrigLockTimeout n s) = some s.store := by simp [execIrigLockTimeout]
@[simp] theorem irigCapture_store (n : ℕ) (s : State) :
    (irigCapture n s).store = s.store := by simp [irigCapture]
@[simp] theorem doIrigTodRead_store (n : Fin 4) (s : State) :
    storeOf (doIrigTodRead n s) = some s.store := by simp [doIrigTodRead]
@[simp] theorem grpBegin_store (m : ℕ) (s : State) :
    (grpBegin m s).store = s.store := by simp [grpBegin]
@[simp] theorem statsResult_store (m : Nat) (k : Nat) (r : StatRun) (s : State) :
    (statsResult m k r s).store = s.store := by simp [statsResult]
@[simp] theorem statsFlush_store (m : Nat) (s : State) :
    (statsFlush m s).store = s.store := by simp [statsFlush]
@[simp] theorem doStatsStart_store (m : Fin 16) (s : State) :
    storeOf (doStatsStart m s) = some s.store := by simp [doStatsStart]
@[simp] theorem doStatsStop_store (m : Fin 16) (s : State) :
    storeOf (doStatsStop m s) = some s.store := by simp [doStatsStop]
@[simp] theorem doStatsCfgWrite_store (m : Fin 16) (reg : Fin 6) (data : BitVec 32) (s : State) :
    storeOf (doStatsCfgWrite m reg data s) = some s.store := by
  simp only [doStatsCfgWrite]
  repeat' split
  all_goals simp
@[simp] theorem grpPairStamp_store (m : ℕ) (c : ℕ) (st : Stamp) (s : State) :
    (grpPairStamp m c st s).store = s.store := by simp [grpPairStamp]
@[simp] theorem grpFreqStamp_store (m : ℕ) (st : Stamp) (s : State) :
    (grpFreqStamp m st s).store = s.store := by simp [grpFreqStamp]
@[simp] theorem grpStamp_store (c : Nat) (st : Stamp) (s : State) : (grpStamp c st s).store = s.store := by
  refine store_forRange_of _ _ (fun m s => ?_) s
  split
  · rfl
  · split <;> simp
@[simp] theorem statsPair_store (m : ℕ) (k : ℕ) (x : ℤ) (flags : ℕ) (near : Bool) (s : State) :
    (statsPair m k x flags near s).store = s.store := by simp [statsPair]
@[simp] theorem intervalPair_store (m : ℕ) (k : ℕ) (start : Stamp) (x : ℤ) (flags : ℕ) (near : Bool) (s : State) :
    (intervalPair m k start x flags near s).store = s.store := by simp [intervalPair]
@[simp] theorem decidePair_store (m : ℕ) (st : Stamp) (k : ℕ) (s : State) :
    (decidePair m st k s).store = s.store := by
  simp only [decidePair]
  repeat' split
  all_goals simp
@[simp] theorem execPairWindowEnd_store (m : Fin 16) (s : State) :
    storeOf (execPairWindowEnd m s) = some s.store := by
  simp only [execPairWindowEnd]
  repeat' split
  all_goals simp
@[simp] theorem published_store (m : ℕ) (s : State) :
    (published m s).store = s.store := by simp [published]
@[simp] theorem execStatsPublish_store (m : Fin 16) (k : Fin 8) (s : State) :
    storeOf (execStatsPublish m k s) = some s.store := by
  simp only [execStatsPublish]
  repeat' split
  all_goals simp
@[simp] theorem execFreqRegGateEnd_store (m : Fin 16) (s : State) :
    storeOf (execFreqRegGateEnd m s) = some s.store := by simp [execFreqRegGateEnd]
@[simp] theorem twinLevels_store (s : State) :
    (twinLevels s).store = s.store := by simp [twinLevels]
@[simp] theorem twinHears_store (role : ℕ) (pair : ℕ) (epoch : ℕ) (inel : Bool) (crimson : Bool) (s : State) :
    (twinHears role pair epoch inel crimson s).store = s.store := by simp [twinHears]
@[simp] theorem heartbeatNotes_store (h : Heartbeat) (s : State) :
    (heartbeatNotes h s).store = s.store := by simp [heartbeatNotes]
@[simp] theorem execLaneDown_store (lane : Fin 2) (s : State) :
    storeOf (execLaneDown lane s) = some s.store := by simp [execLaneDown]
@[simp] theorem execWitnessSend_store (s : State) :
    storeOf (execWitnessSend s) = some s.store := by simp [execWitnessSend]
@[simp] theorem execHeartbeatSend_store (s : State) :
    storeOf (execHeartbeatSend s) = some s.store := by simp [execHeartbeatSend]
@[simp] theorem doResetTwin_store (s : State) :
    storeOf (doResetTwin s) = some s.store := by simp [doResetTwin]
@[simp] theorem twinClkEdge_store (t : ℤ) (s : State) :
    (twinClkEdge t s).store = s.store := by simp [twinClkEdge]
@[simp] theorem execMarkerSend_store (idx : ℕ) (s : State) :
    storeOf (execMarkerSend idx s) = some s.store := by simp [execMarkerSend]
@[simp] theorem feedback_store (c : ℕ) (st : Stamp) (s : State) :
    (feedback c st s).store = s.store := by simp [feedback]
@[simp] theorem feedbackBell_store (o : Nat) (s : State) : (feedbackBell o s).store = s.store := by
  unfold feedbackBell
  exact (store_upd ..).trans (State.putRole_store ..)
@[simp] theorem gatedConsumers_store (c : ℕ) (st : Stamp) (s : State) :
    (gatedConsumers c st s).store = s.store := by simp [gatedConsumers]
@[simp] theorem lostEdge_store (c : Nat) (s : State) :
    (lostEdge c s).store = s.store := by simp [lostEdge]
@[simp] theorem mirrorSee_store (c : Nat) (x : EdgeIn) (t : Int) (s : State) :
    (mirrorSee c x t s).store = s.store := by
  simp only [mirrorSee]
  repeat' split
  all_goals simp_all
@[simp] theorem dramEcc_store (i : ℕ) (ecc : Ecc) (s : State) :
    (dramEcc i ecc s).store = s.store := by
  simp only [dramEcc]
  repeat' split
  all_goals simp
@[simp] theorem ringRegs_store (r : ℕ) (wr : ℕ) (rd : ℕ) (s : State) :
    (ringRegs r wr rd s).store = s.store := by simp [ringRegs]
@[simp] theorem ringEnable_store (r : ℕ) (s : State) :
    (ringEnable r s).store = s.store := by simp [ringEnable]
@[simp] theorem doRingEnable_store (r : Fin 8) (s : State) :
    storeOf (doRingEnable r s) = some s.store := by simp [doRingEnable]
@[simp] theorem execRingDeferredStart_store (r : Fin 8) (s : State) :
    storeOf (execRingDeferredStart r s) = some s.store := by simp [execRingDeferredStart]
@[simp] theorem doRingDisable_store (r : Fin 8) (s : State) :
    storeOf (doRingDisable r s) = some s.store := by simp [doRingDisable]
@[simp] theorem overwrite_store (r need : Nat) (k : Nat) (s : State) : (overwrite r need k s).store = s.store := by
  induction k generalizing s with
  | zero => rfl
  | succ k ih => simp only [overwrite]; split <;> simp [ih]
@[simp] theorem ringRefuse_store (r : ℕ) (s : State) :
    (ringRefuse r s).store = s.store := by simp [ringRefuse]
@[simp] theorem doRingRdWrite_store (r : Fin 8) (off : BitVec 27) (s : State) :
    storeOf (doRingRdWrite r off s) = some s.store := by simp [doRingRdWrite]
@[simp] theorem State.putTxq_store (s : State) (n : ℕ) (q : ℕ) (x : TxQSt) :
    (State.putTxq s n q x).store = s.store := by simp [State.putTxq]
@[simp] theorem State.putRxq_store (s : State) (n : ℕ) (q : ℕ) (x : RxQSt) :
    (State.putRxq s n q x).store = s.store := by simp [State.putRxq]
@[simp] theorem txtsTake_store (n : ℕ) (s : State) :
    (txtsTake n s).store = s.store := by
  simp only [txtsTake]
  repeat' split
  all_goals simp
@[simp] theorem txtsEmpty_store (n : ℕ) (s : State) :
    (txtsEmpty n s).store = s.store := by simp [txtsEmpty]
@[simp] theorem doTxtsDestWrite_store (n : Fin 4) (base : Bool) (data : BitVec 32) (s : State) :
    storeOf (doTxtsDestWrite n base data s) = some s.store := by simp [doTxtsDestWrite]
@[simp] theorem rxclkOff_store (n : ℕ) (s : State) :
    (rxclkOff n s).store = s.store := by simp [rxclkOff]
@[simp] theorem doPortEnable_store (n : Fin 4) (s : State) :
    storeOf (doPortEnable n s) = some s.store := by simp [doPortEnable]
@[simp] theorem execPcsLockAcquired_store (n : Fin 4) (fec : Bool) (s : State) :
    storeOf (execPcsLockAcquired n fec s) = some s.store := by simp [execPcsLockAcquired]
@[simp] theorem execAnComplete_store (n : Fin 4) (s : State) :
    storeOf (execAnComplete n s) = some s.store := by simp [execAnComplete]
@[simp] theorem execLinkUp_store (n : Fin 4) (s : State) :
    storeOf (execLinkUp n s) = some s.store := by simp [execLinkUp]
@[simp] theorem execRxclkGateOn_store (n : Fin 4) (s : State) :
    storeOf (execRxclkGateOn n s) = some s.store := by simp [execRxclkGateOn]
@[simp] theorem rxCfgCheck_store (n : ℕ) (s : State) :
    (rxCfgCheck n s).store = s.store := by simp [rxCfgCheck]
@[simp] theorem rxLimitFollow_store (n : ℕ) (old s : State) : (rxLimitFollow n old s).store = s.store := by
  simp [rxLimitFollow]
@[simp] theorem wakeDetect_store (f : RxIn) (s : State) :
    (wakeDetect f s).store = s.store := by simp [wakeDetect]
@[simp] theorem rxPcsCounts_store (n : ℕ) (f : RxIn) (s : State) :
    (rxPcsCounts n f s).store = s.store := by simp [rxPcsCounts]
@[simp] theorem rxErrCounts_store (n : ℕ) (runt : Bool) (big : Bool) (bad : Bool) (s : State) :
    (rxErrCounts n runt big bad s).store = s.store := by simp [rxErrCounts]
@[simp] theorem doWakeClr_store (s : State) :
    storeOf (doWakeClr s) = some s.store := by simp [doWakeClr]
@[simp] theorem doQueueEnable_store (n : Fin 4) (q : QueueId) (s : State) :
    storeOf (doQueueEnable n q s) = some s.store := by
  simp only [doQueueEnable]
  repeat' split
  all_goals simp
@[simp] theorem doQueueDisable_store (n : Fin 4) (q : QueueId) (s : State) :
    storeOf (doQueueDisable n q s) = some s.store := by
  simp only [doQueueDisable]
  repeat' split
  all_goals simp
@[simp] theorem txTail_store (n : ℕ) (q : ℕ) (tail : ℕ) (s : State) :
    (txTail n q tail s).store = s.store := by simp [txTail]
@[simp] theorem execLaunchEligible_store (n : Fin 4) (q : Fin 8) (s : State) :
    storeOf (execLaunchEligible n q s) = some s.store := by
  simp only [execLaunchEligible]
  repeat' split
  all_goals simp
@[simp] theorem execSynceTxRateUpdate_store (n : Fin 4) (s : State) :
    storeOf (execSynceTxRateUpdate n s) = some s.store := by simp [execSynceTxRateUpdate]
@[simp] theorem streamSend_store (r : Nat) (flush : Bool) (found : List (BitVec 24 × Ecc)) (s : State) :
    (streamSend r flush found s).store = s.store := by
  simp only [streamSend]
  repeat' split
  all_goals simp
@[simp] theorem execStreamPacketSend_store (r : Fin 8) (found : List (BitVec 24 × Ecc)) (s : State) :
    storeOf (execStreamPacketSend r found s) = some s.store := by simp [execStreamPacketSend]
@[simp] theorem execStreamFlush_store (r : Fin 8) (found : List (BitVec 24 × Ecc)) (s : State) :
    storeOf (execStreamFlush r found s) = some s.store := by simp [execStreamFlush]
@[simp] theorem doTriggerArm_store (g : Fin 32) (lo : BitVec 32) (s : State) :
    storeOf (doTriggerArm g lo s) = some s.store := by simp [doTriggerArm]
@[simp] theorem doTriggerDisarm_store (g : Fin 32) (s : State) :
    storeOf (doTriggerDisarm g s) = some s.store := by simp [doTriggerDisarm]
@[simp] theorem trigMiss_store (g : ℕ) (k : ℕ) (s : State) :
    (trigMiss g k s).store = s.store := by simp [trigMiss]
@[simp] theorem trigSpan_store (g : ℕ) (w : ℕ) (s : State) :
    (trigSpan g w s).store = s.store := by simp [trigSpan]
@[simp] theorem trigAct_store (g : ℕ) (w : ℕ) (late : Bool) (s : State) :
    (trigAct g w late s).store = s.store := by
  simp only [trigAct]
  repeat' split
  all_goals simp
@[simp] theorem execTriggerFire_store (g : Fin 32) (s : State) :
    storeOf (execTriggerFire g s) = some s.store := by simp [execTriggerFire]
@[simp] theorem execTriggerPulseEnd_store (g : Fin 32) (s : State) :
    storeOf (execTriggerPulseEnd g s) = some s.store := by simp [execTriggerPulseEnd]
@[simp] theorem lessonWrite_store (e : ℕ) (i : ℕ) (w : Word64) (s : State) :
    (lessonWrite e i w s).store = s.store := by simp [lessonWrite]
@[simp] theorem State.putSylSlot_store (s : State) (n : ℕ) (x : SylSlot) :
    (State.putSylSlot s n x).store = s.store := by simp [State.putSylSlot]
@[simp] theorem State.putSylPath_store (s : State) (p : ℕ) (x : SylPath) :
    (State.putSylPath s p x).store = s.store := by simp [State.putSylPath]
@[simp] theorem State.putSylPort_store (s : State) (n : ℕ) (x : SylPort) :
    (State.putSylPort s n x).store = s.store := by simp [State.putSylPort]
@[simp] theorem trackSlot_store (n : ℕ) (s : State) :
    (trackSlot n s).store = s.store := by simp [trackSlot]
@[simp] theorem execTrackLocked_store (n : Fin 24) (s : State) :
    storeOf (execTrackLocked n s) = some s.store := by simp [execTrackLocked]
@[simp] theorem gradeSlot_store (k : ℕ) (minors : List ℕ) (tieds : List ℕ) (n : ℕ) (s : State) :
    (gradeSlot k minors tieds n s).store = s.store := by simp [gradeSlot]
@[simp] theorem selectPath_store (p : ℕ) (s : State) :
    (selectPath p s).store = s.store := by
  simp only [selectPath]
  repeat' split
  all_goals simp
@[simp] theorem execRollCall_store (s : State) :
    storeOf (execRollCall s) = some s.store := by simp [execRollCall]
@[simp] theorem selectionReport_store (s : State) :
    (selectionReport s).store = s.store := by simp [selectionReport]
@[simp] theorem runCommand_store_of (e : Nat) (h : Handler) (w : Nat) (s : State)
    (hh : ∀ c s, (h c s).2.2.store = s.store) : (runCommand e h w s).store = s.store := by
  simp only [runCommand]; split
  · rfl
  · simp [hh]
theorem commandRow_store_of (e op : Nat) (h : Handler) (c : CmdWord) (s : State)
    (hh : ∀ c s, (h c s).2.2.store = s.store) : (commandRow e op h c s).store = s.store := by
  
  unfold commandRow; rw [runCommand_store_of _ _ _ _ hh]; simp [hostCommand]

@[simp] theorem hostCommand_store (e : Nat) (w : Nat) (s : State) :
    (hostCommand e w s).store = s.store := by simp [hostCommand]
@[simp] theorem rollApply_store (c : Command) (s : State) :
    (rollApply c s).store = s.store := by
  simp only [rollApply]
  repeat' split
  all_goals simp
theorem rollHandler_store (c : Command) (s : State) : (rollHandler c s).2.2.store = s.store := by
  simp only [rollHandler]; simp
@[simp] theorem execSetRank_store (c : CmdWord) (s : State) : storeOf (execSetRank c s) = some s.store :=
  congrArg some (commandRow_store_of _ _ _ _ _ rollHandler_store)
@[simp] theorem execSetMode_store (c : CmdWord) (s : State) :
    storeOf (execSetMode c s) = some s.store := by
  exact congrArg some (commandRow_store_of _ _ _ _ _ rollHandler_store)
@[simp] theorem execSetPolicy_store (c : CmdWord) (s : State) :
    storeOf (execSetPolicy c s) = some s.store := by
  exact congrArg some (commandRow_store_of _ _ _ _ _ rollHandler_store)
@[simp] theorem execSetPrepLimit_store (c : CmdWord) (s : State) :
    storeOf (execSetPrepLimit c s) = some s.store := by
  exact congrArg some (commandRow_store_of _ _ _ _ _ rollHandler_store)
@[simp] theorem execSetConcord_store (c : CmdWord) (s : State) :
    storeOf (execSetConcord c s) = some s.store := by
  exact congrArg some (commandRow_store_of _ _ _ _ _ rollHandler_store)
@[simp] theorem execRollCallGet_store (c : CmdWord) (s : State) :
    storeOf (execRollCallGet c s) = some s.store := by
  exact congrArg some (commandRow_store_of _ _ _ _ _ rollHandler_store)
@[simp] theorem twinNote_store (p : ℕ) (s : State) :
    (twinNote p s).store = s.store := by simp [twinNote]
@[simp] theorem historyNote_store (p : ℕ) (s : State) :
    (historyNote p s).store = s.store := by simp [historyNote]
@[simp] theorem enterHoldover_store (p : ℕ) (s : State) :
    (enterHoldover p s).store = s.store := by simp [enterHoldover]
@[simp] theorem execHoldoverEvaluation_store (p : Fin 8) (s : State) :
    storeOf (execHoldoverEvaluation p s) = some s.store := by simp [execHoldoverEvaluation]
@[simp] theorem handoverAbort_store (p : ℕ) (s : State) :
    (handoverAbort p s).store = s.store := by simp [handoverAbort]
@[simp] theorem readOrder_store (p : ℕ) (s : State) :
    (readOrder p s).store = s.store := by
  simp only [readOrder]
  repeat' split
  all_goals simp
@[simp] theorem prepare_store (p : ℕ) (s : State) :
    (prepare p s).store = s.store := by simp [prepare]
@[simp] theorem cut_store (p : ℕ) (s : State) :
    (cut p s).store = s.store := by simp [cut]
@[simp] theorem execPrepLimitExpiry_store (p : Fin 8) (s : State) :
    storeOf (execPrepLimitExpiry p s) = some s.store := by simp [execPrepLimitExpiry]
@[simp] theorem execSettleEnd_store (p : Fin 8) (s : State) :
    storeOf (execSettleEnd p s) = some s.store := by simp [execSettleEnd]
@[simp] theorem zeroDelayNote_store (p : ℕ) (s : State) :
    (zeroDelayNote p s).store = s.store := by simp [zeroDelayNote]
@[simp] theorem filterUpdate_store (p : ℕ) (ph : ℤ) (s : State) :
    (filterUpdate p ph s).store = s.store := by simp [filterUpdate]
@[simp] theorem execPathLock_store (p : Fin 8) (s : State) :
    storeOf (execPathLock p s) = some s.store := by simp [execPathLock]
@[simp] theorem execPathUnlock_store (p : Fin 8) (s : State) :
    storeOf (execPathUnlock p s) = some s.store := by simp [execPathUnlock]
@[simp] theorem pathStart_store (p : ℕ) (s : State) :
    (pathStart p s).store = s.store := by simp [pathStart]
@[simp] theorem pathFastExit_store (p : ℕ) (s : State) :
    (pathFastExit p s).store = s.store := by simp [pathFastExit]
@[simp] theorem pathHandover_store (p : ℕ) (s : State) :
    (pathHandover p s).store = s.store := by simp [pathHandover]
@[simp] theorem pathFilter_store (p : ℕ) (s : State) :
    (pathFilter p s).store = s.store := by
  simp only [pathFilter]
  repeat' split
  all_goals simp
@[simp] theorem pathWords_store (p : ℕ) (s : State) :
    (pathWords p s).store = s.store := by simp [pathWords]
@[simp] theorem pathLesson_store (p : ℕ) (s : State) :
    (pathLesson p s).store = s.store := by
  simp only [pathLesson]
  repeat' split
  all_goals simp_all
@[simp] theorem learnNote_store (p : ℕ) (s : State) :
    (learnNote p s).store = s.store := by simp [learnNote]
@[simp] theorem execLearningSample_store (p : Fin 8) (s : State) :
    storeOf (execLearningSample p s) = some s.store := by simp [execLearningSample]
@[simp] theorem loopApply_store (c : Command) (s : State) :
    (loopApply c s).store = s.store := by
  simp only [loopApply]
  repeat' split
  all_goals simp
theorem loopHandler_store (g : Nat) (c : Command) (s : State) : (loopHandler g c s).2.2.store = s.store := by
  simp only [loopHandler]; simp
@[simp] theorem execSetBw_store (g : Fin 4) (c : CmdWord) (s : State) : storeOf (execSetBw g c s) = some s.store :=
  congrArg some (commandRow_store_of _ _ _ _ _ (loopHandler_store _))
@[simp] theorem execSetDamp_store (g : Fin 4) (c : CmdWord) (s : State) :
    storeOf (execSetDamp g c s) = some s.store := by
  exact congrArg some (commandRow_store_of _ _ _ _ _ (loopHandler_store _))
@[simp] theorem execSetPsl_store (g : Fin 4) (c : CmdWord) (s : State) :
    storeOf (execSetPsl g c s) = some s.store := by
  exact congrArg some (commandRow_store_of _ _ _ _ _ (loopHandler_store _))
@[simp] theorem execSetFclamp_store (g : Fin 4) (c : CmdWord) (s : State) :
    storeOf (execSetFclamp g c s) = some s.store := by
  exact congrArg some (commandRow_store_of _ _ _ _ _ (loopHandler_store _))
@[simp] theorem execSetLock_store (g : Fin 4) (c : CmdWord) (s : State) :
    storeOf (execSetLock g c s) = some s.store := by
  exact congrArg some (commandRow_store_of _ _ _ _ _ (loopHandler_store _))
@[simp] theorem execSetRollback_store (g : Fin 4) (c : CmdWord) (s : State) :
    storeOf (execSetRollback g c s) = some s.store := by
  exact congrArg some (commandRow_store_of _ _ _ _ _ (loopHandler_store _))
@[simp] theorem execSetZd_store (g : Fin 4) (c : CmdWord) (s : State) :
    storeOf (execSetZd g c s) = some s.store := by
  exact congrArg some (commandRow_store_of _ _ _ _ _ (loopHandler_store _))
@[simp] theorem execPathGet_store (g : Fin 4) (c : CmdWord) (s : State) :
    storeOf (execPathGet g c s) = some s.store := by
  exact congrArg some (commandRow_store_of _ _ _ _ _ (loopHandler_store _))
@[simp] theorem tsWrite_store (n : ℕ) (valid : Bool) (kind : ℕ) (v : ℤ) (s : State) :
    (tsWrite n valid kind v s).store = s.store := by simp [tsWrite]
@[simp] theorem State.putTodUart_store (s : State) (u : ℕ) (x : TodUart) :
    (State.putTodUart s u x).store = s.store := by simp [State.putTodUart]
@[simp] theorem todReport_store (u : ℕ) (s : State) :
    (todReport u s).store = s.store := by simp [todReport]
@[simp] theorem todReject_store (u : ℕ) (s : State) :
    (todReject u s).store = s.store := by simp [todReject]
@[simp] theorem todLabel_store (u : Nat) (n : Nat) (utc : Nat) (at' : Nat) (s : State) :
    (todLabel u n utc at' s).store = s.store := by simp [todLabel]
@[simp] theorem todMessage_store (u : ℕ) (m : TodMsg) (t : ℤ) (n : ℕ) (s : State) :
    (todMessage u m t n s).store = s.store := by
  simp only [todMessage]
  repeat' split
  all_goals simp
@[simp] theorem execNmeaSentence_store (u : Fin 2) (text : List (BitVec 8)) (t : ℤ) (s : State) :
    storeOf (execNmeaSentence u text t s) = some s.store := by
  simp only [execNmeaSentence]
  repeat' split
  all_goals simp
@[simp] theorem execBinaryTodFrame_store (u : Fin 2) (bytes : List (BitVec 8)) (t : ℤ) (s : State) :
    storeOf (execBinaryTodFrame u bytes t s) = some s.store := by
  simp only [execBinaryTodFrame]
  repeat' split
  all_goals simp
@[simp] theorem execServoSample_store (n : Fin 4) (x : PtpExchange) (s : State) :
    storeOf (execServoSample n x s) = some s.store := by simp [execServoSample]
@[simp] theorem execServoStep_store (n : Fin 4) (stage : Fin 4) (s : State) :
    storeOf (execServoStep n stage s) = some s.store := by
  simp only [execServoStep]
  repeat' split
  all_goals simp
@[simp] theorem timeLesson_store (s : State) :
    (timeLesson s).store = s.store := by simp [timeLesson]
@[simp] theorem execEsmcPduReceived_store (n : Fin 4) (frame : List (BitVec 8)) (s : State) :
    storeOf (execEsmcPduReceived n frame s) = some s.store := by
  simp only [execEsmcPduReceived]
  repeat' split
  all_goals simp
@[simp] theorem execEsmcTimeout_store (n : Fin 4) (s : State) :
    storeOf (execEsmcTimeout n s) = some s.store := by simp [execEsmcTimeout]
@[simp] theorem esmcSend_store (n : ℕ) (event : Bool) (s : State) :
    (esmcSend n event s).store = s.store := by simp [esmcSend]
@[simp] theorem execEsmcInfoSend_store (n : Fin 4) (s : State) :
    storeOf (execEsmcInfoSend n s) = some s.store := by simp [execEsmcInfoSend]
@[simp] theorem messageLesson_store (n : ℕ) (s : State) :
    (messageLesson n s).store = s.store := by
  simp only [messageLesson]
  repeat' split
  all_goals simp
@[simp] theorem timeApply_store (c : Command) (s : State) :
    (timeApply c s).store = s.store := by
  simp only [timeApply]
  repeat' split
  all_goals simp
theorem timeHandler_store (c : Command) (s : State) : (timeHandler c s).2.2.store = s.store := by
  simp only [timeHandler]; simp
@[simp] theorem execSetTod_store (c : CmdWord) (s : State) : storeOf (execSetTod c s) = some s.store :=
  congrArg some (commandRow_store_of _ _ _ _ _ timeHandler_store)
@[simp] theorem execSetPtpPort_store (c : CmdWord) (s : State) :
    storeOf (execSetPtpPort c s) = some s.store := by
  exact congrArg some (commandRow_store_of _ _ _ _ _ timeHandler_store)
@[simp] theorem execSetUcast_store (c : CmdWord) (s : State) :
    storeOf (execSetUcast c s) = some s.store := by
  exact congrArg some (commandRow_store_of _ _ _ _ _ timeHandler_store)
@[simp] theorem execSetAsym_store (c : CmdWord) (s : State) :
    storeOf (execSetAsym c s) = some s.store := by
  exact congrArg some (commandRow_store_of _ _ _ _ _ timeHandler_store)
@[simp] theorem execSetClock_store (c : CmdWord) (s : State) :
    storeOf (execSetClock c s) = some s.store := by
  exact congrArg some (commandRow_store_of _ _ _ _ _ timeHandler_store)
theorem esmcHandler_store (c : Command) (s : State) : (esmcHandler c s).2.2.store = s.store := by
  simp only [esmcHandler]; simp
@[simp] theorem execSetEsmc_store (c : CmdWord) (s : State) : storeOf (execSetEsmc c s) = some s.store :=
  congrArg some (commandRow_store_of _ _ _ _ _ esmcHandler_store)
@[simp] theorem syllabusLoops_store (s : State) :
    (syllabusLoops s).store = s.store := by simp [syllabusLoops]
@[simp] theorem bufPut_store (b : List Byte) (s : State) :
    (bufPut b s).store = s.store := by simp [bufPut]
@[simp] theorem doJnlFind_store (s : State) :
    storeOf (doJnlFind s) = some s.store := by
  simp only [doJnlFind]
  repeat' split
  all_goals simp
@[simp] theorem programFail_store (s : State) : (programFail s).store = s.store := by
  simp [programFail]
theorem appendAttempts_store (b : Bool) (len : Nat) (l : List Nat) (k : Nat) (s : State) :
    (appendAttempts b len l k s).1.store = s.store := by
  induction l generalizing k s with
  | nil => rfl
  | cons x l ih => simp only [appendAttempts]; split <;> simp [ih]
@[simp] theorem jnlDrop_store (r : JnlReq) (s : State) :
    (jnlDrop r s).store = s.store := by simp [jnlDrop]
@[simp] theorem eraseFail_store (b : Bool) (s : State) :
    (eraseFail b s).store = s.store := by simp [eraseFail]
@[simp] theorem keyUnwrap_store (bad : List ℕ) (k : ℕ) (s : State) :
    (keyUnwrap bad k s).store = s.store := by
  simp only [keyUnwrap]
  repeat' split
  all_goals simp
@[simp] theorem lifeLoad_store (s : State) : (lifeLoad s).store = s.store := by
  unfold lifeLoad; split
  · rfl
  · exact store_forRange_of _ _ (fun _ _ => by simp) _
@[simp] theorem doNorRead_store (ecc : Ecc) (s : State) :
    storeOf (doNorRead ecc s) = some s.store := by
  simp only [doNorRead]
  repeat' split
  all_goals simp
@[simp] theorem norStart_store (op : NorOp) (cmd : Fld) (s : State) :
    (norStart op cmd s).store = s.store := by
  simp only [norStart]
  repeat' split
  all_goals simp
@[simp] theorem doNorProgram_store (s : State) :
    storeOf (doNorProgram s) = some s.store := by simp [doNorProgram]
@[simp] theorem doNorErase_store (s : State) :
    storeOf (doNorErase s) = some s.store := by simp [doNorErase]
@[simp] theorem doFuseProg_store (s : State) :
    storeOf (doFuseProg s) = some s.store := by
  simp only [doFuseProg]
  repeat' split
  all_goals first | rfl | simp
@[simp] theorem keyResult_store (r : ℕ) (s : State) :
    (keyResult r s).store = s.store := by simp [keyResult]
@[simp] theorem doKeyProvision_store (s : State) :
    storeOf (doKeyProvision s) = some s.store := by simp [doKeyProvision]
@[simp] theorem voidKeys_store (p : ℕ → Bool) (s : State) :
    (voidKeys p s).store = s.store := by simp [voidKeys]
@[simp] theorem doKeyVoid_store (s : State) :
    storeOf (doKeyVoid s) = some s.store := by simp [doKeyVoid]
@[simp] theorem gateErase_store (s : State) :
    (gateErase s).store = s.store := by simp [gateErase]
@[simp] theorem newNonce_store (s : State) :
    (newNonce s).store = s.store := by simp [newNonce]
@[simp] theorem doDebugOpenGo_store (s : State) :
    storeOf (doDebugOpenGo s) = some s.store := by simp [doDebugOpenGo]
@[simp] theorem execDebugGateOpen_store (s : State) :
    storeOf (execDebugGateOpen s) = some s.store := by simp [execDebugGateOpen]
@[simp] theorem syllabusInit_store (x : ImageSet) (s : State) :
    (syllabusInit x s).store = s.store := by simp [syllabusInit]
@[simp] theorem loadSection_store (x : ImageSet) (n : ℕ) (s : State) :
    (loadSection x n s).store = s.store := by simp [loadSection]
@[simp] theorem loadEndsSubst_store (s : State) :
    (loadEndsSubst s).store = s.store := by simp [loadEndsSubst]
@[simp] theorem loadWrite_store (b : ℕ) (x : ImageSet) (s : State) :
    (loadWrite b x s).store = s.store := by
  simp only [loadWrite]
  repeat' split
  all_goals simp_all
@[simp] theorem doImageLoad_store (s : State) :
    storeOf (doImageLoad s) = some s.store := by simp [doImageLoad]
@[simp] theorem loadReport_store (used : ℕ) (r : ℕ × ℕ × ℕ) (first : ℕ × ℕ × ℕ) (s : State) :
    (loadReport used r first s).store = s.store := by simp [loadReport]
@[simp] theorem dropRegs_store (lo : ℕ) (hi : ℕ) (p : Fld → Bool) (s : State) :
    (dropRegs lo hi p s).store = s.store := by simp [dropRegs]
@[simp] theorem engReload_store (n : ℕ) (s : State) :
    (engReload n s).store = s.store := by simp [engReload]
@[simp] theorem engIslandReset_store (n : ℕ) (s : State) :
    (engIslandReset n s).store = s.store := by
  simp only [engIslandReset]
  repeat' split
  all_goals simp
@[simp] theorem refIslandReset_store (s : State) :
    (refIslandReset s).store = s.store := by simp [refIslandReset]
@[simp] theorem evrIslandReset_store (s : State) :
    (evrIslandReset s).store = s.store := by simp [evrIslandReset]
@[simp] theorem msixSend_store (v : ℕ) (s : State) :
    (msixSend v s).store = s.store := by simp [msixSend]
@[simp] theorem withRequest_store (ev : Nat) (f : State → State) (s : State) :
    (withRequest ev f s).store = (f s).store := by
  simp only [withRequest]; split <;> simp
@[simp] theorem safeLevel_store (s : State) :
    (safeLevel s).store = s.store := by simp [safeLevel]
@[simp] theorem startTimer_store (ev : Nat) (span : Nat) (s : State) :
    (startTimer ev span s).store = s.store := by simp [startTimer]
@[simp] theorem settle_store (ev : ℕ) (s : State) :
    (settle ev s).store = s.store := by simp [settle]
@[simp] theorem execCauseEnd_store (ev : Fin 128) (inst : Fin 256) (s : State) :
    storeOf (execCauseEnd ev inst s) = some s.store := by simp [execCauseEnd]
@[simp] theorem execRecessExpiry_store (ev : Fin 128) (s : State) :
    storeOf (execRecessExpiry ev s) = some s.store := by simp [execRecessExpiry]
@[simp] theorem pathControl_store (p : ℕ) (w : Word64) (s : State) :
    (pathControl p w s).store = s.store := by simp [pathControl]
@[simp] theorem pathWord_store (p : Nat) (w : Word64) (s : State) :
    (pathWord p w s).store = s.store := by simp [pathWord]
@[simp] theorem bellLatch_store (s : State) : (bellLatch s).store = s.store := by
  unfold bellLatch
  lift_lets
  intro s1 s2 s3 s4
  have h1 : s1.store = s.store := by simp [s1]
  have h2 : s2.store = s1.store := by simp [s2]
  have h3 : s3.store = s2.store := store_foldl_of _ (fun s w => by simp) _ _
  have h4 : s4.store = s3.store := by simp [s4]
  simp [h4, h3, h2, h1]
@[simp] theorem strike_store (e : ℕ) (s : State) :
    (strike e s).store = s.store := by simp [strike]
@[simp] theorem standardDone_store (e : Nat) (s : State) :
    (standardDone e s).store = s.store := by simp [standardDone]
@[simp] theorem proctor_store (e : ℕ) (s : State) :
    (proctor e s).store = s.store := by simp [proctor]
@[simp] theorem bellDispatch_store (e : ℕ) (resume : Bool) (s : State) :
    (bellDispatch e resume s).store = s.store := by simp [bellDispatch]
@[simp] theorem syllabusResume_store (n : ℕ) (s : State) :
    (syllabusResume n s).store = s.store := by simp [syllabusResume]
@[simp] theorem reloadResume_store (e : ℕ) (s : State) :
    (reloadResume e s).store = s.store := by simp [reloadResume]
@[simp] theorem bellReached_store (s : State) :
    (bellReached s).store = s.store := by simp [bellReached]
@[simp] theorem bellResume_store (s : State) : (bellResume s).store = s.store := by simp [bellResume]
@[simp] theorem bellLift_store (s : State) : (bellLift s).store = s.store := by simp [bellLift]
@[simp] theorem resumedLessons_store (b s : State) : (resumedLessons b s).store = s.store := by simp [resumedLessons]
@[simp] theorem bellEngines_store (b s : State) : (bellEngines b s).store = s.store := by simp [bellEngines]
@[simp] theorem sourcesRestart_store (s : State) :
    (sourcesRestart s).store = s.store := by simp [sourcesRestart]
@[simp] theorem wdogRestart_store (s : State) :
    (wdogRestart s).store = s.store := by simp [wdogRestart]
@[simp] theorem tornAppend_store (s : State) :
    (tornAppend s).store = s.store := by
  simp only [tornAppend]
  repeat' split
  all_goals simp
@[simp] theorem mapRegs_store (s : State) :
    (mapRegs s).store = s.store := by simp [mapRegs]
@[simp] theorem mapTdcApply_store (s : State) :
    (mapTdcApply s).store = s.store := by simp [mapTdcApply]
@[simp] theorem mapApllApply_store (s : State) :
    (mapApllApply s).store = s.store := by simp [mapApllApply]
@[simp] theorem mapApplyAll_store (s : State) :
    (mapApplyAll s).store = s.store := by simp [mapApplyAll]
@[simp] theorem strapsSample_store (x : Straps) (s : State) :
    (strapsSample x s).store = s.store := by simp [strapsSample]
@[simp] theorem testEnSample_store (x : Straps) (s : State) :
    (testEnSample x s).store = s.store := by simp [testEnSample]
@[simp] theorem pinRelease_store (x : Straps) (s : State) :
    (pinRelease x s).store = s.store := by simp [pinRelease]
@[simp] theorem execPorInitComplete_store (s : State) :
    storeOf (execPorInitComplete s) = some s.store := by simp [execPorInitComplete]
@[simp] theorem doWdogKick_store (s : State) :
    storeOf (doWdogKick s) = some s.store := by simp [doWdogKick]
@[simp] theorem doWdogEnable_store (data : BitVec 32) (s : State) :
    storeOf (doWdogEnable data s) = some s.store := by simp [doWdogEnable]
@[simp] theorem execResetComplete_store (s : State) :
    storeOf (execResetComplete s) = some s.store := by simp [execResetComplete]
@[simp] theorem execIslandPowerRecovery_store (i : Fin 32) (s : State) :
    storeOf (execIslandPowerRecovery i s) = some s.store := by simp [execIslandPowerRecovery]
@[simp] theorem execSupplyWarning_store (r : Fin 9) (s : State) :
    storeOf (execSupplyWarning r s) = some s.store := by simp [execSupplyWarning]
@[simp] theorem execSupplyFlagEnd_store (s : State) :
    storeOf (execSupplyFlagEnd s) = some s.store := by simp [execSupplyFlagEnd]
@[simp] theorem execRailGood_store (r : Fin 9) (s : State) :
    storeOf (execRailGood r s) = some s.store := by simp [execRailGood]
@[simp] theorem execVddcResetRelease_store (straps : Straps) (s : State) :
    storeOf (execVddcResetRelease straps s) = some s.store := by simp [execVddcResetRelease]
@[simp] theorem apllsResume_store (s : State) :
    (apllsResume s).store = s.store := by simp [apllsResume]
@[simp] theorem dozeExit_store (s : State) :
    (dozeExit s).store = s.store := by simp [dozeExit]
@[simp] theorem pairCapture_store (a : ℕ) (s : State) :
    (pairCapture a s).store = s.store := by
  simp only [pairCapture]
  repeat' split
  all_goals simp
@[simp] theorem readSide_store (a : ℕ) (s : State) :
    (readSide a s).store = s.store := by simp [readSide]
@[simp] theorem testBegins_store (target : ℕ) (i : ℕ) (s : State) :
    (testBegins target i s).store = s.store := by
  simp only [testBegins]
  repeat' split
  all_goals simp
@[simp] theorem doBistGo_store (s : State) :
    storeOf (doBistGo s) = some s.store := by simp [doBistGo]
@[simp] theorem engineTested_store (e : ℕ) (fail : Option (BitVec 24)) (s : State) :
    (engineTested e fail s).store = s.store := by
  simp only [engineTested]
  repeat' split
  all_goals simp
@[simp] theorem spareTested_store (band : Option (Fin 48)) (s : State) :
    (spareTested band s).store = s.store := by
  simp only [spareTested]
  repeat' split
  all_goals simp
@[simp] theorem tapSelect_store (op : ℕ) (s : State) :
    (tapSelect op s).store = s.store := by simp [tapSelect]
@[simp] theorem execJtagExtest_store (s : State) :
    storeOf (execJtagExtest s) = some s.store := by simp [execJtagExtest]
@[simp] theorem execJtagIdcode_store (s : State) :
    storeOf (execJtagIdcode s) = some s.store := by simp [execJtagIdcode]
@[simp] theorem execJtagSamplePreload_store (s : State) :
    storeOf (execJtagSamplePreload s) = some s.store := by simp [execJtagSamplePreload]
@[simp] theorem execJtagClamp_store (s : State) :
    storeOf (execJtagClamp s) = some s.store := by simp [execJtagClamp]
@[simp] theorem execJtagHighz_store (s : State) :
    storeOf (execJtagHighz s) = some s.store := by simp [execJtagHighz]
@[simp] theorem execJtagExtestPulse_store (s : State) :
    storeOf (execJtagExtestPulse s) = some s.store := by simp [execJtagExtestPulse]
@[simp] theorem execJtagExtestTrain_store (s : State) :
    storeOf (execJtagExtestTrain s) = some s.store := by simp [execJtagExtestTrain]
@[simp] theorem execJtagBypass_store (s : State) :
    storeOf (execJtagBypass s) = some s.store := by simp [execJtagBypass]
@[simp] theorem execJtagTapReset_store (s : State) :
    storeOf (execJtagTapReset s) = some s.store := by simp [execJtagTapReset]
@[simp] theorem nextOr_store (s : State) (o : Out) : (nextOr s o).store = (storeOf o).getD s.store := by
  cases o <;> rfl
@[simp] theorem unreached_store (a : ℕ) (s : State) :
    (unreached a s).store = s.store := by simp [unreached]
@[simp] theorem unlist_store (a : ℕ) (s : State) :
    (unlist a s).store = s.store := by simp [unlist]
@[simp] theorem outThaw_store (o : ℕ) (s : State) :
    (outThaw o s).store = s.store := by simp [outThaw]
@[simp] theorem holdEnd_store (a : ℕ) (s : State) :
    (holdEnd a s).store = s.store := by simp [holdEnd]
@[simp] theorem parityClear_store (a : ℕ) (s : State) :
    (parityClear a s).store = s.store := by simp [parityClear]
@[simp] theorem followConfig_store (a : ℕ) (s : State) :
    (followConfig a s).store = s.store := by simp [followConfig]
@[simp] theorem withWrite_store_of (a : Nat) (f : State → Out) (h : ∀ s, storeOf (f s) = some s.store) (s : State) :
    storeOf (withWrite a f s) = some s.store := by
  have hf := h (if slotAddr a = true then s else parityClear a s)
  have hp : (if slotAddr a = true then s else parityClear a s).store = s.store := by split <;> simp
  simp only [withWrite]
  split
  · next t ht => rw [ht] at hf; simp only [storeOf_next, Option.some.injEq] at hf ⊢; split <;> simp_all
  · next o ho =>
    cases hq : f (if slotAddr a = true then s else parityClear a s)
    · next t => exact absurd hq (ho t)
    all_goals rw [hq] at hf; simp [storeOf] at hf
@[simp] theorem hostCmd_store_of (a : Nat) (f : State → Out) (h : ∀ s, storeOf (f s) = some s.store) (s : State) :
    storeOf (hostCmd a f s) = some s.store := by
  simp [hostCmd, h]
@[simp] theorem hostRead_store_of (a : Nat) (f : State → Out) (h : ∀ s, storeOf (f s) = some s.store) (s : State) :
    storeOf (hostRead a f s) = some s.store := by
  simp [hostRead, h]
@[simp] theorem putFields_store (fs : List Fld) (v : ℕ) (s : State) :
    (putFields fs v s).store = s.store := by simp [putFields]
@[simp] theorem onBit_store_of (v i : Nat) (f : State → Out) (h : ∀ s, storeOf (f s) = some s.store) (s : State) :
    (onBit v i f s).store = s.store := by
  simp [onBit, h]
@[simp] theorem slotWrite_store (n : ℕ) (off : ℕ) (v : ℕ) (fs : List Fld) (s : State) :
    (slotWrite n off v fs s).store = s.store := by simp [slotWrite]
@[simp] theorem pathWrite_store (n : ℕ) (off : ℕ) (v : ℕ) (fs : List Fld) (s : State) :
    (pathWrite n off v fs s).store = s.store := by simp [pathWrite]
@[simp] theorem apllWrite_store (n : ℕ) (off : ℕ) (v : ℕ) (fs : List Fld) (s : State) :
    (apllWrite n off v fs s).store = s.store := by simp [apllWrite]
@[simp] theorem outWrite_store (n : ℕ) (off : ℕ) (v : ℕ) (fs : List Fld) (s : State) :
    (outWrite n off v fs s).store = s.store := by simp [outWrite]
@[simp] theorem tdcWrite_store (a : ℕ) (v : ℕ) (fs : List Fld) (s : State) :
    (tdcWrite a v fs s).store = s.store := by simp [tdcWrite]
@[simp] theorem timeWrite_store (a : ℕ) (v : ℕ) (fs : List Fld) (s : State) :
    (timeWrite a v fs s).store = s.store := by simp [timeWrite]
@[simp] theorem fetchBufs_store (n : ℕ) (q : ℕ) (tail : ℕ) (s : State) :
    (fetchBufs n q tail s).2.store = s.store := by simp [fetchBufs]
@[simp] theorem markWo_store (fs : List Fld) (s : State) :
    (markWo fs s).store = s.store := by simp [markWo]
@[simp] theorem State.putLeg_store (s : State) (i : ℕ) (x : LegReg) :
    (State.putLeg s i x).store = s.store := by simp [State.putLeg]
@[simp] theorem hostCount_store (f : Fld) (s : State) :
    (hostCount f s).store = s.store := by simp [hostCount]
@[simp] theorem execTxtsIdRead_store (n : Fin 4) (s : State) :
    storeOf (execTxtsIdRead n s) = some s.store := by simp [execTxtsIdRead]
@[simp] theorem spiBegin_store (s : State) :
    (spiBegin s).store = s.store := by simp [spiBegin]
@[simp] theorem spiFlag_store (f : ℕ) (s : State) :
    (spiFlag f s).store = s.store := by simp [spiFlag]
@[simp] theorem holdDrop_store (s : State) :
    (holdDrop s).store = s.store := by simp [holdDrop]
@[simp] theorem holdLast_store (l : List (ℕ × Word32)) (s : State) :
    (holdLast l s).store = s.store := by
  simp only [holdLast]
  repeat' split
  all_goals simp
@[simp] theorem execSpiStatus_store (bad : SpiBad) (s : State) :
    storeOf (execSpiStatus bad s) = some s.store := by
  simp only [execSpiStatus]
  repeat' split
  all_goals simp
@[simp] theorem execI2cTimeout_store (s : State) :
    storeOf (execI2cTimeout s) = some s.store := by simp [execI2cTimeout]
@[simp] theorem msixFlush_store (s : State) :
    (msixFlush s).store = s.store := by simp [msixFlush]
@[simp] theorem execPciePerst_store (s : State) :
    storeOf (execPciePerst s) = some s.store := by simp [execPciePerst]
@[simp] theorem execPcieLinkDown_store (s : State) :
    storeOf (execPcieLinkDown s) = some s.store := by simp [execPcieLinkDown]
@[simp] theorem execBar2Read_store (addr : BitVec 27) (dword : Bool) (ecc : Ecc) (s : State) :
    storeOf (execBar2Read addr dword ecc s) = some s.store := by simp [execBar2Read]
@[simp] theorem flipBits_store (u : RegUpset) (s : State) :
    (flipBits u s).store = s.store := by simp [flipBits]
@[simp] theorem holdBegin_store (a : ℕ) (s : State) :
    (holdBegin a s).store = s.store := by simp [holdBegin]
@[simp] theorem parityFound_store (a : ℕ) (s : State) :
    (parityFound a s).store = s.store := by simp [parityFound]
@[simp] theorem scrubOne_store (u : RegUpset) (s : State) :
    (scrubOne u s).store = s.store := by simp [scrubOne]
@[simp] theorem parityList_store (s : State) :
    (parityList s).store = s.store := by simp [parityList]
@[simp] theorem legCorrect_store (i : ℕ) (s : State) :
    (legCorrect i s).store = s.store := by simp [legCorrect]
@[simp] theorem legFlip_store (u : LegUpset) (s : State) :
    (legFlip u s).store = s.store := by simp [legFlip]
@[simp] theorem execParityScrub_store (found : List RegUpset) (leg : List LegUpset) (s : State) :
    storeOf (execParityScrub found leg s) = some s.store := by
  simp [execParityScrub]
@[simp] theorem execDevClkStart_store (s : State) :
    storeOf (execDevClkStart s) = some s.store := by simp [execDevClkStart]
@[simp] theorem execHinLoWrite_store (e : Fin 17) (k : Fin 4) (data : BitVec 32) (s : State) :
    storeOf (execHinLoWrite e k data s) = some s.store := by simp [execHinLoWrite]
@[simp] theorem execHoutLoRead_store (e : Fin 17) (k : Fin 4) (s : State) :
    storeOf (execHoutLoRead e k s) = some s.store := by simp [execHoutLoRead]
@[simp] theorem execEngEnable_store (e : Fin 17) (on : Bool) (s : State) :
    storeOf (execEngEnable e on s) = some s.store := by simp [execEngEnable]
@[simp] theorem execEngHalt_store (e : Fin 17) (on : Bool) (s : State) :
    storeOf (execEngHalt e on s) = some s.store := by simp [execEngHalt]
@[simp] theorem execBellPeriodWrite_store (period : BitVec 25) (s : State) :
    storeOf (execBellPeriodWrite period s) = some s.store := by simp [execBellPeriodWrite]
@[simp] theorem execImageLoad_store (s : State) :
    storeOf (execImageLoad s) = some s.store := by simp [execImageLoad]
@[simp] theorem execSubstForce_store (target : Fin 16) (s : State) :
    storeOf (execSubstForce target s) = some s.store := by simp [execSubstForce]
@[simp] theorem execSubstReturn_store (s : State) :
    storeOf (execSubstReturn s) = some s.store := by simp [execSubstReturn]
@[simp] theorem execSlotCfgWrite_store (n : Fin 24) (reg : Fin 3) (data : BitVec 32) (s : State) :
    storeOf (execSlotCfgWrite n reg data s) = some s.store := by simp [execSlotCfgWrite]
@[simp] theorem execSlotRebase_store (n : Fin 24) (s : State) :
    storeOf (execSlotRebase n s) = some s.store := by simp [execSlotRebase]
@[simp] theorem execSlotQualWrite_store (n : Fin 24) (data : BitVec 32) (s : State) :
    storeOf (execSlotQualWrite n data s) = some s.store := by simp [execSlotQualWrite]
@[simp] theorem execIrigTodRead_store (n : Fin 4) (s : State) :
    storeOf (execIrigTodRead n s) = some s.store := by simp [execIrigTodRead]
@[simp] theorem execPhaseStepCommit_store (p : Fin 8) (lo : BitVec 32) (s : State) :
    storeOf (execPhaseStepCommit p lo s) = some s.store := by simp [execPhaseStepCommit]
@[simp] theorem execStepCancel_store (p : Fin 8) (s : State) :
    storeOf (execStepCancel p s) = some s.store := by simp [execStepCancel]
@[simp] theorem execApply_store (k : Fin 9) (s : State) :
    storeOf (execApply k s) = some s.store := by simp [execApply]
@[simp] theorem execApplyFull_store (k : Fin 9) (s : State) :
    storeOf (execApplyFull k s) = some s.store := by simp [execApplyFull]
@[simp] theorem execCacheClr_store (k : Fin 9) (s : State) :
    storeOf (execCacheClr k s) = some s.store := by simp [execCacheClr]
@[simp] theorem execApllEnable_store (k : Fin 9) (on : Bool) (s : State) :
    storeOf (execApllEnable k on s) = some s.store := by simp [execApllEnable]
@[simp] theorem execApll8CoverWrite_store (data : BitVec 32) (s : State) :
    storeOf (execApll8CoverWrite data s) = some s.store := by simp [execApll8CoverWrite]
@[simp] theorem execOutSrcWrite_store (o : Fin 32) (src : Fin 4) (s : State) :
    storeOf (execOutSrcWrite o src s) = some s.store := by simp [execOutSrcWrite]
@[simp] theorem execOutEnable_store (o : Fin 32) (on : Bool) (s : State) :
    storeOf (execOutEnable o on s) = some s.store := by simp [execOutEnable]
@[simp] theorem execOutPhaseCommit_store (o : Fin 32) (lo : BitVec 32) (s : State) :
    storeOf (execOutPhaseCommit o lo s) = some s.store := by simp [execOutPhaseCommit]
@[simp] theorem execTsSet_store (n : Fin 4) (s : State) :
    storeOf (execTsSet n s) = some s.store := by simp [execTsSet]
@[simp] theorem execTsAdj_store (n : Fin 4) (s : State) :
    storeOf (execTsAdj n s) = some s.store := by simp [execTsAdj]
@[simp] theorem execTsCapture_store (n : Fin 4) (s : State) :
    storeOf (execTsCapture n s) = some s.store := by simp [execTsCapture]
@[simp] theorem execTriggerArm_store (g : Fin 32) (lo : BitVec 32) (s : State) :
    storeOf (execTriggerArm g lo s) = some s.store := by simp [execTriggerArm]
@[simp] theorem execTriggerDisarm_store (g : Fin 32) (s : State) :
    storeOf (execTriggerDisarm g s) = some s.store := by simp [execTriggerDisarm]
@[simp] theorem execTdcCal_store (ch : Fin 52) (s : State) :
    storeOf (execTdcCal ch s) = some s.store := by simp [execTdcCal]
@[simp] theorem execCalAll_store (s : State) :
    storeOf (execCalAll s) = some s.store := by simp [execCalAll]
@[simp] theorem execSpareTake_store (k : Fin 4) (role : Fin 64) (s : State) :
    storeOf (execSpareTake k role s) = some s.store := by simp [execSpareTake]
@[simp] theorem execSpareRelease_store (k : Fin 4) (s : State) :
    storeOf (execSpareRelease k s) = some s.store := by simp [execSpareRelease]
@[simp] theorem execStatsStart_store (m : Fin 16) (s : State) :
    storeOf (execStatsStart m s) = some s.store := by simp [execStatsStart]
@[simp] theorem execStatsStop_store (m : Fin 16) (s : State) :
    storeOf (execStatsStop m s) = some s.store := by simp [execStatsStop]
@[simp] theorem execStatsCfgWrite_store (m : Fin 16) (reg : Fin 6) (data : BitVec 32) (s : State) :
    storeOf (execStatsCfgWrite m reg data s) = some s.store := by simp [execStatsCfgWrite]
@[simp] theorem execRingEnable_store (r : Fin 8) (s : State) :
    storeOf (execRingEnable r s) = some s.store := by simp [execRingEnable]
@[simp] theorem execRingDisable_store (r : Fin 8) (s : State) :
    storeOf (execRingDisable r s) = some s.store := by simp [execRingDisable]
@[simp] theorem execRingRdWrite_store (r : Fin 8) (off : BitVec 27) (s : State) :
    storeOf (execRingRdWrite r off s) = some s.store := by simp [execRingRdWrite]
@[simp] theorem execPortEnable_store (n : Fin 4) (s : State) :
    storeOf (execPortEnable n s) = some s.store := by simp [execPortEnable]
@[simp] theorem execWakeClr_store (s : State) :
    storeOf (execWakeClr s) = some s.store := by simp [execWakeClr]
@[simp] theorem execQueueEnable_store (n : Fin 4) (q : QueueId) (s : State) :
    storeOf (execQueueEnable n q s) = some s.store := by simp [execQueueEnable]
@[simp] theorem execQueueDisable_store (n : Fin 4) (q : QueueId) (s : State) :
    storeOf (execQueueDisable n q s) = some s.store := by simp [execQueueDisable]
@[simp] theorem execTxtsDestWrite_store (n : Fin 4) (base : Bool) (data : BitVec 32) (s : State) :
    storeOf (execTxtsDestWrite n base data s) = some s.store := by simp [execTxtsDestWrite]
@[simp] theorem execResetTwin_store (s : State) :
    storeOf (execResetTwin s) = some s.store := by simp [execResetTwin]
@[simp] theorem execWdogKick_store (s : State) :
    storeOf (execWdogKick s) = some s.store := by simp [execWdogKick]
@[simp] theorem execWdogEnable_store (data : BitVec 32) (s : State) :
    storeOf (execWdogEnable data s) = some s.store := by simp [execWdogEnable]
@[simp] theorem execJnlFind_store (s : State) :
    storeOf (execJnlFind s) = some s.store := by simp [execJnlFind]
@[simp] theorem execNorRead_store (ecc : Ecc) (s : State) :
    storeOf (execNorRead ecc s) = some s.store := by simp [execNorRead]
@[simp] theorem execNorProgram_store (s : State) :
    storeOf (execNorProgram s) = some s.store := by simp [execNorProgram]
@[simp] theorem execNorErase_store (s : State) :
    storeOf (execNorErase s) = some s.store := by simp [execNorErase]
@[simp] theorem execFuseProg_store (s : State) :
    storeOf (execFuseProg s) = some s.store := by simp [execFuseProg]
@[simp] theorem execKeyProvision_store (s : State) :
    storeOf (execKeyProvision s) = some s.store := by simp [execKeyProvision]
@[simp] theorem execKeyVoid_store (s : State) :
    storeOf (execKeyVoid s) = some s.store := by simp [execKeyVoid]
@[simp] theorem execDebugOpenGo_store (s : State) :
    storeOf (execDebugOpenGo s) = some s.store := by simp [execDebugOpenGo]
@[simp] theorem execBistGo_store (s : State) :
    storeOf (execBistGo s) = some s.store := by simp [execBistGo]

end Sys2Proof.Machine
end

