-- ==== Sys2Proof/Laws/Canonical.lean ====
section
/-! SUPPORT. One lemma per operation and command that writes a memory: every memory keeps its canonical form, the queue
stays, and a command answers a next state. -/
namespace Sys2Proof.Machine
set_option linter.unusedSimpArgs false
set_option linter.unusedTactic false
set_option linter.unreachableTactic false

/-- Every bit set in a field of `a` is set in that field of `b`. -/
def gains (a b : List Nat) : Prop := ∀ k i, (a.getD k 0).testBit i = true → (b.getD k 0).testBit i = true
/-- The queue is that of `q`, every memory has its canonical form, and the fuses have every bit that `q` lists. -/
structure storeOk (q : List Instr × List Nat) (σ : Store) : Prop where
  queue : σ.1 = q.1
  commons : tabWf 0#64 σ.2.1 = true
  dram : tabWf 0#64 σ.2.2.1 = true
  nor : tabWf 255#8 σ.2.2.2.1 = true
  host : tabWf 0#8 σ.2.2.2.2.1 = true
  fuses : gains q.2 σ.2.2.2.2.2
/-- The command answers a next state with the queue `q` and canonical memories. -/
def outOk (q : List Instr × List Nat) : Out → Prop
  | .next t => storeOk q t.store
  | _ => False
@[simp] theorem outOk_next (q) (t : State) : outOk q (.next t) ↔ storeOk q t.store := Iff.rfl
theorem outOk_of_store {q} {o : Out} {s : State} (h : storeOk q s.store) (e : storeOf o = some s.store) : outOk q o := by
  cases o <;> simp_all [storeOf]
@[simp] theorem storeOk_ite (q) (c : Prop) [Decidable c] (a b : Store) :
    storeOk q (if c then a else b) ↔ if c then storeOk q a else storeOk q b := by split <;> rfl
@[simp] theorem outOk_ite (q) (c : Prop) [Decidable c] (a b : Out) :
    outOk q (if c then a else b) ↔ if c then outOk q a else outOk q b := by split <;> rfl
@[simp] theorem ok_foldl {β : Type} {q} (f : State → β → State) (h : ∀ s b, storeOk q s.store → storeOk q (f s b).store)
    (l : List β) {s : State} (hs : storeOk q s.store) : storeOk q (l.foldl f s).store := by
  induction l generalizing s with
  | nil => exact hs
  | cons b l ih => exact ih (h s b hs)
@[simp] theorem ok_forRange {q} (n : Nat) (f : Nat → State → State) (h : ∀ i s, storeOk q s.store → storeOk q (f i s).store)
    {s : State} (hs : storeOk q s.store) : storeOk q (forRange n f s).store := ok_foldl _ (fun s i => h i s) _ hs
/-- A commons write keeps the canonical form. -/
@[simp] theorem ok_upd_commons {q} (t : State) (k : Nat) (v : Word64)
    (regs' : _) (now' : _) (up' : _) (timers' : _) (free' : _) (hostRead' : _) (clk' : _) (eng' : _) (words' : _) (out' : _) (inw' : _)
    (bell' : _) (subst' : _) (image' : _) (flt' : _) (tb' : _) (tbRem' : _) (supplyFlag' : _) (slots' : _)
    (paths' : _) (ts' : _) (tg' : _) (aplls' : _) (outs' : _) (chans' : _) (roles' : _) (grps' : _) (twin' : _)
    (rings' : _) (ports' : _) (parity' : _) (keys' : _) (syl' : _) (jnl' : _) (prov' : _) (bist' : _)
    (host' : _) (wo' : _) (mapTdc' : _) (mapApll' : _) (pwr' : _) (jtag' : _) (scan' : _)
    (h : storeOk q t.store) : storeOk q (State.store (State.mk
      t.pending regs' now' up' timers' free' hostRead' clk' eng' words' (tabSet 0#64 k v t.commons) out' inw' bell' subst'
      image' flt' tb' tbRem' supplyFlag' slots' paths' ts' tg' aplls' outs' chans' roles' grps' twin' rings' t.dram
      ports' t.hostMem parity' keys' syl' t.nor jnl' t.fuses prov' bist' host' wo' mapTdc' mapApll' pwr' jtag' scan')) :=
  ⟨h.queue, tabWf_set _ _ _ h.commons, h.dram, h.nor, h.host, h.fuses⟩
/-- A DRAM write keeps the canonical form. -/
@[simp] theorem ok_upd_dram {q} (t : State) (k : Nat) (v : Word64) (e : _) (u : _) (r : _) (d1 : _) (d2 : _)
    (regs' : _) (now' : _) (up' : _) (timers' : _) (free' : _) (hostRead' : _) (clk' : _) (eng' : _) (words' : _) (out' : _) (inw' : _)
    (bell' : _) (subst' : _) (image' : _) (flt' : _) (tb' : _) (tbRem' : _) (supplyFlag' : _) (slots' : _)
    (paths' : _) (ts' : _) (tg' : _) (aplls' : _) (outs' : _) (chans' : _) (roles' : _) (grps' : _) (twin' : _)
    (rings' : _) (ports' : _) (parity' : _) (keys' : _) (syl' : _) (jnl' : _) (prov' : _) (bist' : _)
    (host' : _) (wo' : _) (mapTdc' : _) (mapApll' : _) (pwr' : _) (jtag' : _) (scan' : _)
    (h : storeOk q t.store) : storeOk q (State.store (State.mk
      t.pending regs' now' up' timers' free' hostRead' clk' eng' words' t.commons out' inw' bell' subst' image' flt' tb' tbRem'
      supplyFlag' slots' paths' ts' tg' aplls' outs' chans' roles' grps' twin' rings'
      ⟨tabSet 0#64 k v t.dram.mem, e, u, r, d1, d2⟩ ports' t.hostMem parity' keys' syl' t.nor jnl' t.fuses prov' bist' host'
      wo' mapTdc' mapApll' pwr' jtag' scan')) :=
  ⟨h.queue, h.commons, tabWf_set _ _ _ h.dram, h.nor, h.host, h.fuses⟩
/-- An erased DRAM is canonical. -/
@[simp] theorem ok_upd_dram_nil {q} (t : State) (e : _) (u : _) (r : _) (d1 : _) (d2 : _)
    (regs' : _) (now' : _) (up' : _) (timers' : _) (free' : _) (hostRead' : _) (clk' : _) (eng' : _) (words' : _) (out' : _) (inw' : _)
    (bell' : _) (subst' : _) (image' : _) (flt' : _) (tb' : _) (tbRem' : _) (supplyFlag' : _) (slots' : _)
    (paths' : _) (ts' : _) (tg' : _) (aplls' : _) (outs' : _) (chans' : _) (roles' : _) (grps' : _) (twin' : _)
    (rings' : _) (ports' : _) (parity' : _) (keys' : _) (syl' : _) (jnl' : _) (prov' : _) (bist' : _)
    (host' : _) (wo' : _) (mapTdc' : _) (mapApll' : _) (pwr' : _) (jtag' : _) (scan' : _)
    (h : storeOk q t.store) : storeOk q (State.store (State.mk
      t.pending regs' now' up' timers' free' hostRead' clk' eng' words' t.commons out' inw' bell' subst' image' flt' tb' tbRem'
      supplyFlag' slots' paths' ts' tg' aplls' outs' chans' roles' grps' twin' rings' ⟨[], e, u, r, d1, d2⟩ ports' t.hostMem
      parity' keys' syl' t.nor jnl' t.fuses prov' bist' host' wo' mapTdc' mapApll' pwr' jtag' scan')) :=
  ⟨h.queue, h.commons, rfl, h.nor, h.host, h.fuses⟩
/-- A NOR write keeps the canonical form. -/
@[simp] theorem ok_upd_nor {q} (t : State) (k : Nat) (v : BitVec 8)
    (regs' : _) (now' : _) (up' : _) (timers' : _) (free' : _) (hostRead' : _) (clk' : _) (eng' : _) (words' : _) (out' : _) (inw' : _)
    (bell' : _) (subst' : _) (image' : _) (flt' : _) (tb' : _) (tbRem' : _) (supplyFlag' : _) (slots' : _)
    (paths' : _) (ts' : _) (tg' : _) (aplls' : _) (outs' : _) (chans' : _) (roles' : _) (grps' : _) (twin' : _)
    (rings' : _) (ports' : _) (parity' : _) (keys' : _) (syl' : _) (jnl' : _) (prov' : _) (bist' : _)
    (host' : _) (wo' : _) (mapTdc' : _) (mapApll' : _) (pwr' : _) (jtag' : _) (scan' : _)
    (h : storeOk q t.store) : storeOk q (State.store (State.mk
      t.pending regs' now' up' timers' free' hostRead' clk' eng' words' t.commons out' inw' bell' subst' image' flt' tb' tbRem'
      supplyFlag' slots' paths' ts' tg' aplls' outs' chans' roles' grps' twin' rings' t.dram ports' t.hostMem
      parity' keys' syl' (tabSet 255#8 k v t.nor) jnl' t.fuses prov' bist' host' wo' mapTdc' mapApll' pwr' jtag'
      scan')) :=
  ⟨h.queue, h.commons, h.dram, tabWf_set _ _ _ h.nor, h.host, h.fuses⟩
/-- A write of host memory keeps the canonical form. -/
@[simp] theorem ok_upd_host {q} (t : State) (k : Nat) (v : BitVec 8)
    (regs' : _) (now' : _) (up' : _) (timers' : _) (free' : _) (hostRead' : _) (clk' : _) (eng' : _) (words' : _) (out' : _) (inw' : _)
    (bell' : _) (subst' : _) (image' : _) (flt' : _) (tb' : _) (tbRem' : _) (supplyFlag' : _) (slots' : _)
    (paths' : _) (ts' : _) (tg' : _) (aplls' : _) (outs' : _) (chans' : _) (roles' : _) (grps' : _) (twin' : _)
    (rings' : _) (ports' : _) (parity' : _) (keys' : _) (syl' : _) (jnl' : _) (prov' : _) (bist' : _)
    (host' : _) (wo' : _) (mapTdc' : _) (mapApll' : _) (pwr' : _) (jtag' : _) (scan' : _)
    (h : storeOk q t.store) : storeOk q (State.store (State.mk
      t.pending regs' now' up' timers' free' hostRead' clk' eng' words' t.commons out' inw' bell' subst' image' flt' tb' tbRem'
      supplyFlag' slots' paths' ts' tg' aplls' outs' chans' roles' grps' twin' rings' t.dram ports'
      (tabSet 0#8 k v t.hostMem) parity' keys' syl' t.nor jnl' t.fuses prov' bist' host' wo' mapTdc' mapApll' pwr'
      jtag' scan')) :=
  ⟨h.queue, h.commons, h.dram, h.nor, tabWf_set _ _ _ h.host, h.fuses⟩
/-- Erased commons and DRAM are canonical. -/
@[simp] theorem ok_upd_dies {q} (t : State) (e : _) (u : _) (r : _) (d1 : _) (d2 : _)
    (regs' : _) (now' : _) (up' : _) (timers' : _) (free' : _) (hostRead' : _) (clk' : _) (eng' : _) (words' : _) (out' : _) (inw' : _)
    (bell' : _) (subst' : _) (image' : _) (flt' : _) (tb' : _) (tbRem' : _) (supplyFlag' : _) (slots' : _)
    (paths' : _) (ts' : _) (tg' : _) (aplls' : _) (outs' : _) (chans' : _) (roles' : _) (grps' : _) (twin' : _)
    (rings' : _) (ports' : _) (parity' : _) (keys' : _) (syl' : _) (jnl' : _) (prov' : _) (bist' : _)
    (host' : _) (wo' : _) (mapTdc' : _) (mapApll' : _) (pwr' : _) (jtag' : _) (scan' : _)
    (h : storeOk q t.store) : storeOk q (State.store (State.mk
      t.pending regs' now' up' timers' free' hostRead' clk' eng' words' [] out' inw' bell' subst' image' flt' tb' tbRem'
      supplyFlag' slots' paths' ts' tg' aplls' outs' chans' roles' grps' twin' rings' ⟨[], e, u, r, d1, d2⟩ ports' t.hostMem
      parity' keys' syl' t.nor jnl' t.fuses prov' bist' host' wo' mapTdc' mapApll' pwr' jtag' scan')) :=
  ⟨h.queue, rfl, rfl, h.nor, h.host, h.fuses⟩
/-- Erased commons are canonical. -/
@[simp] theorem ok_upd_commons_nil {q} (t : State) 
    (regs' : _) (now' : _) (up' : _) (timers' : _) (free' : _) (hostRead' : _) (clk' : _) (eng' : _) (words' : _) (out' : _) (inw' : _)
    (bell' : _) (subst' : _) (image' : _) (flt' : _) (tb' : _) (tbRem' : _) (supplyFlag' : _) (slots' : _)
    (paths' : _) (ts' : _) (tg' : _) (aplls' : _) (outs' : _) (chans' : _) (roles' : _) (grps' : _) (twin' : _)
    (rings' : _) (ports' : _) (parity' : _) (keys' : _) (syl' : _) (jnl' : _) (prov' : _) (bist' : _)
    (host' : _) (wo' : _) (mapTdc' : _) (mapApll' : _) (pwr' : _) (jtag' : _) (scan' : _)
    (h : storeOk q t.store) : storeOk q (State.store (State.mk
      t.pending regs' now' up' timers' free' hostRead' clk' eng' words' [] out' inw' bell' subst' image' flt' tb' tbRem'
      supplyFlag' slots' paths' ts' tg' aplls' outs' chans' roles' grps' twin' rings' t.dram ports' t.hostMem
      parity' keys' syl' t.nor jnl' t.fuses prov' bist' host' wo' mapTdc' mapApll' pwr' jtag' scan')) :=
  ⟨h.queue, rfl, h.dram, h.nor, h.host, h.fuses⟩

@[simp] theorem ok_getD {q} {o : Out} (σ : Store) (h : outOk q o) : storeOk q ((storeOf o).getD σ) := by
  cases o
  · exact h
  · exact h.elim
  · exact h.elim
@[simp] theorem onBit_ok {q} (v i : Nat) (f : State → Out) {s : State} (h : storeOk q s.store)
    (hf : ∀ s, storeOk q s.store → outOk q (f s)) : storeOk q (onBit v i f s).store := by
  unfold onBit; split
  · rw [nextOr_store]; exact ok_getD _ (hf s h)
  · exact h
theorem withWrite_ok {q} (a : Nat) (f : State → Out) {s : State} (h : storeOk q s.store)
    (hf : ∀ s, storeOk q s.store → outOk q (f s)) : outOk q (withWrite a f s) := by
  have h1 : storeOk q (if slotAddr a = true then s else parityClear a s).store := by split <;> simp [h]
  have h2 := hf _ h1
  simp only [withWrite]
  split
  · next t ht =>
    rw [ht] at h2
    simp only [outOk_next] at h2 ⊢
    split <;> simp [h2]
  · next o ho =>
    cases hq : f (if slotAddr a = true then s else parityClear a s)
    · next t => exact absurd hq (ho t)
    all_goals rw [hq] at h2; exact h2.elim
theorem hostCmd_ok {q} (a : Nat) (f : State → Out) {s : State} (h : storeOk q s.store)
    (hf : ∀ s, storeOk q s.store → outOk q (f s)) : outOk q (hostCmd a f s) := by
  unfold hostCmd; split
  · exact h
  · split
    · exact withWrite_ok a f h hf
    · simpa using h
theorem runCommand_ok {q} (e : Nat) (hd : Handler) (w : Nat) {s : State} (h : storeOk q s.store)
    (hh : ∀ c s, storeOk q s.store → storeOk q (hd c s).2.2.store) : storeOk q (runCommand e hd w s).store := by
  simp only [runCommand]; split
  · exact h
  · simp [hh, h]
theorem commandRow_ok {q} (e op : Nat) (hd : Handler) (c : CmdWord) {s : State} (h : storeOk q s.store)
    (hh : ∀ c s, storeOk q s.store → storeOk q (hd c s).2.2.store) : storeOk q (commandRow e op hd c s).store :=
  runCommand_ok _ _ _ (by simpa [hostCommand] using h) hh
/-- A body that keeps the canonical form. -/
def Res.ok (q : List Instr × List Nat) : Res → Prop
  | .next t _ | .jump t _ _ | .done t _ | .unc t _ => storeOk q t.store
  | .trap _ _ => True
theorem Res.ok_of_keeps {q} {σ} {r : Res} (h : r.keeps σ) (hs : storeOk q σ) : r.ok q := by
  cases r <;> simp_all [Res.keeps, Res.ok]
theorem engRun_ok {q} (e : Nat) (f : Ecc) (cost : Nat) (body : State → Eng → Res) {s : State} (h : storeOk q s.store)
    (hb : ∀ s x, storeOk q s.store → (body s x).ok q) : storeOk q (engRun e f cost body s).store := by
  unfold engRun
  split
  · exact h
  · split
    · simpa using h
    · lift_lets
      intro s1 x wcet
      have h1 : storeOk q s1.store := by simp only [s1]; split <;> simp [h]
      have h2 := hb s1 x h1
      cases hr : body s1 x with
      | trap c k => simp [h1]
      | next t y => rw [hr] at h2; simp_all [Res.ok]
      | jump t y d => rw [hr] at h2; simp_all [Res.ok]
      | done t y => rw [hr] at h2; dsimp only; split <;> simp_all [Res.ok]
      | unc t i => rw [hr] at h2; dsimp only; split <;> simp_all [Res.ok]
theorem engRow_ok {q} (e : Nat) (f : Ecc) (cost : Nat) (body : State → Eng → Res) {s : State} (h : storeOk q s.store)
    (hb : ∀ s x, storeOk q s.store → (body s x).ok q) : outOk q (engRow e f cost body s) := by
  unfold engRow; split
  · exact h
  · exact engRun_ok e f cost body h hb
theorem cmnComplete_ok {q} (ecc : Ecc) {s : State} (x : Eng) (h : storeOk q s.store) :
    storeOk q (cmnComplete ecc s x).1.store := by
  unfold cmnComplete
  split
  · exact h
  · dsimp only
    split
    · simp [h]
    · split
      · split <;> simp [h]
      · split <;> simp [h]
theorem cmnDrain_ok {q} (n : Nat) (p : State × Eng) (h : storeOk q p.1.store) :
    storeOk q (cmnDrain n p).1.store := by
  induction n generalizing p with
  | zero => exact h
  | succ n ih => exact ih _ (cmnComplete_ok _ _ h)
theorem bodyCsync_ok {q} {s : State} (x : Eng) (h : storeOk q s.store) : (bodyCsync s x).ok q := by
  unfold bodyCsync; split
  · exact h
  · exact cmnDrain_ok _ _ h
@[simp] theorem jnlPublish_ok {σ}  {s : State}
    (hk : storeOk σ s.store) : storeOk σ (jnlPublish s).store := by
  simp +contextual (maxDischargeDepth := 60) [jnlPublish, hk]
@[simp] theorem repairSave_ok {σ} (key : ℕ) (data : List Byte) (fail : Bool) {s : State}
    (hk : storeOk σ s.store) : storeOk σ (repairSave key data fail s).store := by
  simp +contextual (maxDischargeDepth := 60) [repairSave, hk]
@[simp] theorem saveTdc_ok {σ} (fail : Bool) {s : State}
    (hk : storeOk σ s.store) : storeOk σ (saveTdc fail s).store := by
  simp +contextual (maxDischargeDepth := 60) [saveTdc, hk]
@[simp] theorem execECsync_ok {σ} (e : Fin 17) (f : Ecc) {s : State}
    (hk : storeOk σ s.store) : outOk σ (execECsync e f s) := by
  exact engRow_ok _ _ _ _ hk (fun _ x => bodyCsync_ok x)
@[simp] theorem cmnRow_ok {σ} (e : Nat) (w : Bool) (c : Ecc) {s : State}
    (hk : storeOk σ s.store) : storeOk σ (cmnRow e w c s).store := by
  simp only [cmnRow]
  split
  · simpa using cmnComplete_ok c (s.engine e) hk
  · exact hk
@[simp] theorem execCommonsReadComplete_ok {σ} (e : Fin 17) (ecc : Ecc) {s : State}
    (hk : storeOk σ s.store) : outOk σ (execCommonsReadComplete e ecc s) := by
  simp +contextual (maxDischargeDepth := 60) [execCommonsReadComplete, hk]
@[simp] theorem execCommonsWriteComplete_ok {σ} (e : Fin 17) {s : State}
    (hk : storeOk σ s.store) : outOk σ (execCommonsWriteComplete e s) := by
  simp +contextual (maxDischargeDepth := 60) [execCommonsWriteComplete, hk]
theorem engineBody_ok {σ} (i : Instr) (c : Nat) (b : State → Eng → Res) (hi : engineBody i = some (c, b)) :
    ∀ s x, storeOk σ s.store → (b s x).ok σ := by
  cases i <;> simp only [engineBody, Option.some.injEq, Prod.mk.injEq, reduceCtorEq] at hi <;> obtain ⟨rfl, rfl⟩ := hi <;>
    intro s x h
  case eCsync => exact bodyCsync_ok x h
  all_goals exact Res.ok_of_keeps (by simp) h
theorem fetchedBody_ok {σ} (e : Fin 17) (d d2 : Ecc) (w : Word32) :
    ∀ s x, storeOk σ s.store → ((fetchedBody e d d2 w).2 s x).ok σ := by
  unfold fetchedBody; split
  · exact fun _ _ _ => trivial
  · cases hd : (decodeEngine e .ok d d2 w).bind engineBody with
    | none => exact fun _ _ _ => trivial
    | some p =>
      obtain ⟨c, b⟩ := p
      obtain ⟨i, _, hi⟩ := Option.bind_eq_some_iff.mp hd
      exact engineBody_ok i c b hi
@[simp] theorem doEngStep_ok {σ} (e : Fin 17) (f ecc ecc2 : Ecc) {s : State} (hk : storeOk σ s.store) :
    outOk σ (doEngStep e f ecc ecc2 s) := by
  simp only [doEngStep]; split
  · exact engRun_ok _ _ _ _ hk (fetchedBody_ok _ _ _ _)
  · exact hk
@[simp] theorem execIllegalInstruction_ok {σ} (e : Fin 17) (f : Ecc) (w : BitVec 32) {s : State}
    (hk : storeOk σ s.store) : outOk σ (execIllegalInstruction e f w s) := by
  exact engRow_ok _ _ _ _ hk (fetchedBody_ok _ _ _ _)
@[simp] theorem autoTake_ok {σ} (k : ℕ) (c : ℕ) {s : State}
    (hk : storeOk σ s.store) : storeOk σ (autoTake k c s).store := by
  simp +contextual (maxDischargeDepth := 60) [autoTake, hk]
@[simp] theorem roleLost_ok {σ} (ch : ℕ) (c : ℕ) {s : State}
    (hk : storeOk σ s.store) : storeOk σ (roleLost ch c s).store := by
  simp only [roleLost]
  repeat' split
  all_goals simp +contextual (maxDischargeDepth := 60) [hk]
@[simp] theorem chanFails_ok {σ} (ch : ℕ) {s : State}
    (hk : storeOk σ s.store) : storeOk σ (chanFails ch s).store := by
  simp only [chanFails]
  repeat' split
  all_goals simp +contextual (maxDischargeDepth := 60) [hk]
@[simp] theorem execDllUnlock_ok {σ} (ch : Fin 52) {s : State}
    (hk : storeOk σ s.store) : outOk σ (execDllUnlock ch s) := by
  simp +contextual (maxDischargeDepth := 60) [execDllUnlock, hk]
@[simp] theorem calDone_ok {σ} (ch : ℕ) (hits : List ℕ) {s : State}
    (hk : storeOk σ s.store) : storeOk σ (calDone ch hits s).store := by
  simp +contextual (maxDischargeDepth := 60) [calDone, hk]
@[simp] theorem execCalComplete_ok {σ} (ch : Fin 52) (hits : List ℕ) {s : State}
    (hk : storeOk σ s.store) : outOk σ (execCalComplete ch hits s) := by
  simp +contextual (maxDischargeDepth := 60) [execCalComplete, hk]
@[simp] theorem twinWordsInvalid_ok {σ}  {s : State}
    (hk : storeOk σ s.store) : storeOk σ (twinWordsInvalid s).store := by
  simp +contextual (maxDischargeDepth := 60) [twinWordsInvalid, hk]
@[simp] theorem setRole_ok {σ} (r : ℕ) {s : State}
    (hk : storeOk σ s.store) : storeOk σ (setRole r s).store := by
  simp +contextual (maxDischargeDepth := 60) [setRole, hk]
@[simp] theorem promote_ok {σ}  {s : State}
    (hk : storeOk σ s.store) : storeOk σ (promote s).store := by
  simp +contextual (maxDischargeDepth := 60) [promote, hk]
@[simp] theorem demote_ok {σ}  {s : State}
    (hk : storeOk σ s.store) : storeOk σ (demote s).store := by
  simp +contextual (maxDischargeDepth := 60) [demote, hk]
@[simp] theorem demoteRequest_ok {σ}  {s : State}
    (hk : storeOk σ s.store) : storeOk σ (demoteRequest s).store := by
  simp +contextual (maxDischargeDepth := 60) [demoteRequest, hk]
@[simp] theorem doTwinDemote_ok {σ}  {s : State}
    (hk : storeOk σ s.store) : outOk σ (doTwinDemote s) := by
  simp +contextual (maxDischargeDepth := 60) [doTwinDemote, hk]
@[simp] theorem execDemoteRun_ok {σ}  {s : State}
    (hk : storeOk σ s.store) : outOk σ (execDemoteRun s) := by
  simp +contextual (maxDischargeDepth := 60) [execDemoteRun, hk]
@[simp] theorem twinDecide_ok {σ}  {s : State}
    (hk : storeOk σ s.store) : storeOk σ (twinDecide s).store := by
  simp +contextual (maxDischargeDepth := 60) [twinDecide, hk]
@[simp] theorem resolveRoles_ok {σ}  {s : State}
    (hk : storeOk σ s.store) : storeOk σ (resolveRoles s).store := by
  simp +contextual (maxDischargeDepth := 60) [resolveRoles, hk]
@[simp] theorem doTwinEnable_ok {σ}  {s : State}
    (hk : storeOk σ s.store) : outOk σ (doTwinEnable s) := by
  simp +contextual (maxDischargeDepth := 60) [doTwinEnable, hk]
@[simp] theorem doTwinDisable_ok {σ}  {s : State}
    (hk : storeOk σ s.store) : outOk σ (doTwinDisable s) := by
  simp +contextual (maxDischargeDepth := 60) [doTwinDisable, hk]
@[simp] theorem execSeekingEnd_ok {σ}  {s : State}
    (hk : storeOk σ s.store) : outOk σ (execSeekingEnd s) := by
  simp +contextual (maxDischargeDepth := 60) [execSeekingEnd, hk]
@[simp] theorem heartbeatRole_ok {σ} (h : Heartbeat) {s : State}
    (hk : storeOk σ s.store) : storeOk σ (heartbeatRole h s).store := by
  simp +contextual (maxDischargeDepth := 60) [heartbeatRole, hk]
@[simp] theorem heartbeat_ok {σ} (lane : ℕ) (h : Heartbeat) {s : State}
    (hk : storeOk σ s.store) : storeOk σ (heartbeat lane h s).store := by
  simp +contextual (maxDischargeDepth := 60) [heartbeat, hk]
@[simp] theorem execTwinLinkLoss_ok {σ}  {s : State}
    (hk : storeOk σ s.store) : outOk σ (execTwinLinkLoss s) := by
  simp +contextual (maxDischargeDepth := 60) [execTwinLinkLoss, hk]
@[simp] theorem execWitnessFrame_ok {σ} (word : BitVec 32) {s : State}
    (hk : storeOk σ s.store) : outOk σ (execWitnessFrame word s) := by
  simp +contextual (maxDischargeDepth := 60) [execWitnessFrame, hk]
@[simp] theorem execWitnessLoss_ok {σ}  {s : State}
    (hk : storeOk σ s.store) : outOk σ (execWitnessLoss s) := by
  simp +contextual (maxDischargeDepth := 60) [execWitnessLoss, hk]
@[simp] theorem twinPpsEdge_ok {σ} (t : ℤ) {s : State}
    (hk : storeOk σ s.store) : storeOk σ (twinPpsEdge t s).store := by
  simp +contextual (maxDischargeDepth := 60) [twinPpsEdge, hk]
@[simp] theorem putTwinWord_ok {σ} (i : ℕ) (w : Word64) {s : State}
    (hk : storeOk σ s.store) : storeOk σ (putTwinWord i w s).store := by
  simp +contextual (maxDischargeDepth := 60) [putTwinWord, hk]
@[simp] theorem markerPath_ok {σ} (x : MarkerIn) (tm : ℤ) (seq : ℕ) (p : ℕ) {s : State}
    (hk : storeOk σ s.store) : storeOk σ (markerPath x tm seq p s).store := by
  simp +contextual (maxDischargeDepth := 60) [markerPath, hk]
@[simp] theorem markerScale_ok {σ} (x : MarkerIn) (tm : ℤ) (seq : ℕ) (n : ℕ) {s : State}
    (hk : storeOk σ s.store) : storeOk σ (markerScale x tm seq n s).store := by
  simp +contextual (maxDischargeDepth := 60) [markerScale, hk]
@[simp] theorem execMarkerReceive_ok {σ} (x : MarkerIn) {s : State}
    (hk : storeOk σ s.store) : outOk σ (execMarkerReceive x s) := by
  simp only [execMarkerReceive]
  repeat' split
  all_goals simp +contextual (maxDischargeDepth := 60) [hk]
@[simp] theorem twinBell_ok {σ}  {s : State}
    (hk : storeOk σ s.store) : storeOk σ (twinBell s).store := by
  simp +contextual (maxDischargeDepth := 60) [twinBell, hk]
@[simp] theorem consumers_ok {σ} (c : ℕ) (fall : Bool) (st : Stamp) {s : State}
    (hk : storeOk σ s.store) : storeOk σ (consumers c fall st s).store := by
  simp only [consumers]
  repeat' split
  all_goals simp +contextual (maxDischargeDepth := 60) [hk]
@[simp] theorem roleEdge_ok {σ} (c : ℕ) (x : EdgeIn) {s : State}
    (hk : storeOk σ s.store) : storeOk σ (roleEdge c x s).store := by
  simp only [roleEdge]
  repeat' split
  all_goals simp +contextual (maxDischargeDepth := 60) [hk]
@[simp] theorem execTdcEdgeCapture_ok {σ} (role : Fin 48) (x : EdgeIn) {s : State}
    (hk : storeOk σ s.store) : outOk σ (execTdcEdgeCapture role x s) := by
  simp only [execTdcEdgeCapture]
  repeat' split
  all_goals simp +contextual (maxDischargeDepth := 60) [hk]
@[simp] theorem putDram_ok {σ} (i : ℕ) (w : Word64) {s : State}
    (hk : storeOk σ s.store) : storeOk σ (putDram i w s).store := by
  simp +contextual (maxDischargeDepth := 60) [putDram, hk]
@[simp] theorem zeroDram_ok {σ} {s : State} (hk : storeOk σ s.store) : storeOk σ (zeroDram s).store := by
  simp [zeroDram, hk]
@[simp] theorem execDramInitComplete_ok {σ}  {s : State}
    (hk : storeOk σ s.store) : outOk σ (execDramInitComplete s) := by
  simp +contextual (maxDischargeDepth := 60) [execDramInitComplete, hk]
@[simp] theorem ringAppend_ok {σ} (r : ℕ) (ws : List Word64) {s : State}
    (hk : storeOk σ s.store) : storeOk σ (ringAppend r ws s).store := by
  simp +contextual (maxDischargeDepth := 60) [ringAppend, hk]
@[simp] theorem anchored_ok {σ} (r wt : ℕ) {s : State}
    (hk : storeOk σ s.store) : storeOk σ (anchored r wt s).store := by
  simp [anchored, hk]
@[simp] theorem ringPut_ok {σ} (r : ℕ) (special : Bool) (d : Draft) {s : State}
    (hk : storeOk σ s.store) : storeOk σ (ringPut r special d s).store := by
  simp [ringPut, hk]
@[simp] theorem gapPut_ok {σ} (r : ℕ) (mid : Bool) (a d : Draft) {s : State}
    (hk : storeOk σ s.store) : storeOk σ (gapPut r mid a d s).store := by
  simp only [gapPut]; split <;> simp (maxDischargeDepth := 60) [hk]
@[simp] theorem gapsPut_ok {σ} (r : ℕ) (own mid special : Bool) (a d : Draft) (code gap : ℕ) {s : State}
    (hk : storeOk σ s.store) : storeOk σ (gapsPut r own mid special a d code gap s).store := by
  simp only [gapsPut]
  repeat' split
  all_goals simp (maxDischargeDepth := 60) [hk]
@[simp] theorem ringRoom_ok {σ} (r : ℕ) (special : Bool) (d : Draft) (gap : ℕ) {s : State}
    (hk : storeOk σ s.store) : storeOk σ (ringRoom r special d gap s).2.store := by
  simp only [ringRoom]
  split <;> simp [hk]
@[simp] theorem ringWrite_ok {σ} (r : ℕ) (special : Bool) (d : Draft) (code : ℕ) (gap : ℕ) {s : State}
    (hk : storeOk σ s.store) : storeOk σ (ringWrite r special d code gap s).2.store := by
  simp only [ringWrite]
  repeat' split
  all_goals simp (maxDischargeDepth := 60) [hk]
@[simp] theorem anchorTry_ok {σ} (r : ℕ) (step : Bool) {s : State}
    (hk : storeOk σ s.store) : storeOk σ (anchorTry r step s).store := by
  simp only [anchorTry]
  split <;> simp (maxDischargeDepth := 60) [hk]
@[simp] theorem anchorSteps_ok {σ} (r n : ℕ) {s : State}
    (hk : storeOk σ s.store) : storeOk σ (anchorSteps r n s).store := by
  induction n generalizing s with
  | zero => exact hk
  | succ n ih => exact ih (by simp [hk])
@[simp] theorem anchors_ok {σ} (r : ℕ) {s : State}
    (hk : storeOk σ s.store) : storeOk σ (anchors r s).store := by
  simp only [anchors]
  split <;> simp [hk]
@[simp] theorem execAnchorWrite_ok {σ} (r : Fin 8) {s : State}
    (hk : storeOk σ s.store) : outOk σ (execAnchorWrite r s) := by
  simp +contextual (maxDischargeDepth := 60) [execAnchorWrite, hk]
@[simp] theorem ringRecord_ok {σ} (r : ℕ) (d : Draft) (code : ℕ) (gap : ℕ) {s : State}
    (hk : storeOk σ s.store) : storeOk σ (ringRecord r d code gap s).2.store := by
  simp only [ringRecord]
  repeat' split
  all_goals simp +contextual (maxDischargeDepth := 60) [hk]
@[simp] theorem roleRecord_ok {σ} (c : ℕ) {s : State}
    (hk : storeOk σ s.store) : storeOk σ (roleRecord c s).store := by
  simp only [roleRecord]
  repeat' split
  all_goals simp +contextual (maxDischargeDepth := 60) [hk]
@[simp] theorem groupRecord_ok {σ} (m : ℕ) {s : State}
    (hk : storeOk σ s.store) : storeOk σ (groupRecord m s).store := by
  simp only [groupRecord]
  repeat' split
  all_goals simp +contextual (maxDischargeDepth := 60) [hk]
@[simp] theorem execEvrRecordWrite_ok {σ} (src : RecSource) {s : State}
    (hk : storeOk σ s.store) : outOk σ (execEvrRecordWrite src s) := by
  simp only [execEvrRecordWrite]
  repeat' split
  all_goals simp +contextual (maxDischargeDepth := 60) [hk]
@[simp] theorem putCommonsByte_ok {σ} (a : ℕ) (v : Byte) {s : State}
    (hk : storeOk σ s.store) : storeOk σ (putCommonsByte a v s).store := by
  simp +contextual (maxDischargeDepth := 60) [putCommonsByte, hk]
@[simp] theorem ownerWrite_ok {σ} (lesson : Bool) (a : ℕ) (b : List Byte) {s : State}
    (hk : storeOk σ s.store) : storeOk σ (ownerWrite lesson a b s).store := by
  simp +contextual (maxDischargeDepth := 60) [ownerWrite, hk]
@[simp] theorem txtsPush_ok {σ} (n : ℕ) (stamp : ℕ) (id : ℕ) (aborted : Bool) (coarse : Bool) {s : State}
    (hk : storeOk σ s.store) : storeOk σ (txtsPush n stamp id aborted coarse s).store := by
  simp +contextual (maxDischargeDepth := 60) [txtsPush, hk]
@[simp] theorem txComplete_ok {σ} (n : ℕ) (q : ℕ) (st : ℕ) {s : State}
    (hk : storeOk σ s.store) : storeOk σ (txComplete n q st s).store := by
  simp +contextual (maxDischargeDepth := 60) [txComplete, hk]
@[simp] theorem lineEnd_ok {σ} (n : ℕ) (st : ℕ) (how : TxEnd) {s : State}
    (hk : storeOk σ s.store) : storeOk σ (lineEnd n st how s).store := by
  simp only [lineEnd]
  repeat' split
  all_goals simp +contextual (maxDischargeDepth := 60) [hk]
@[simp] theorem lineCut_ok {σ} (n : ℕ) {s : State}
    (hk : storeOk σ s.store) : storeOk σ (lineCut n s).store := by
  simp +contextual (maxDischargeDepth := 60) [lineCut, hk]
@[simp] theorem linkDrop_ok {σ} (n : ℕ) {s : State}
    (hk : storeOk σ s.store) : storeOk σ (linkDrop n s).store := by
  simp +contextual (maxDischargeDepth := 60) [linkDrop, hk]
@[simp] theorem doPortDisable_ok {σ} (n : Fin 4) {s : State}
    (hk : storeOk σ s.store) : outOk σ (doPortDisable n s) := by
  simp +contextual (maxDischargeDepth := 60) [doPortDisable, hk]
@[simp] theorem execLinkDown_ok {σ} (n : Fin 4) (why : LinkCause) {s : State}
    (hk : storeOk σ s.store) : outOk σ (execLinkDown n why s) := by
  simp only [execLinkDown]
  repeat' split
  all_goals simp +contextual (maxDischargeDepth := 60) [hk]
@[simp] theorem execPcsLockLoss_ok {σ} (n : Fin 4) (fec : Bool) {s : State}
    (hk : storeOk σ s.store) : outOk σ (execPcsLockLoss n fec s) := by
  simp +contextual (maxDischargeDepth := 60) [execPcsLockLoss, hk]
@[simp] theorem rxDeliverOne_ok {σ} (n : ℕ) (q : ℕ) {s : State}
    (hk : storeOk σ s.store) : storeOk σ (rxDeliverOne n q s).store := by
  simp only [rxDeliverOne]
  repeat' split
  all_goals simp +contextual (maxDischargeDepth := 60) [hk]
@[simp] theorem rxDeliver_ok {σ} (n : ℕ) (q : ℕ) {s : State}
    (hk : storeOk σ s.store) : storeOk σ (rxDeliver n q s).store := by
  simp +contextual (maxDischargeDepth := 60) [rxDeliver, hk]
@[simp] theorem rxAccept_ok {σ} (n : ℕ) (f : RxIn) (flags : ℕ) (keep : ℕ) {s : State}
    (hk : storeOk σ s.store) : storeOk σ (rxAccept n f flags keep s).store := by
  simp +contextual (maxDischargeDepth := 60) [rxAccept, hk]
@[simp] theorem rxWhole_ok {σ} (n : ℕ) (f : RxIn) {s : State}
    (hk : storeOk σ s.store) : storeOk σ (rxWhole n f s).store := by
  simp +contextual (maxDischargeDepth := 60) [rxWhole, hk]
@[simp] theorem rxFrame_ok {σ} (n : ℕ) (f : RxIn) {s : State}
    (hk : storeOk σ s.store) : storeOk σ (rxFrame n f s).store := by
  simp +contextual (maxDischargeDepth := 60) [rxFrame, hk]
@[simp] theorem execRxFrame_ok {σ} (n : Fin 4) (f : RxIn) {s : State}
    (hk : storeOk σ s.store) : outOk σ (execRxFrame n f s) := by
  simp +contextual (maxDischargeDepth := 60) [execRxFrame, hk]
@[simp] theorem rxTail_ok {σ} (n : ℕ) (q : ℕ) (tail : ℕ) (bufs : List (BitVec 64)) {s : State}
    (hk : storeOk σ s.store) : storeOk σ (rxTail n q tail bufs s).store := by
  simp +contextual (maxDischargeDepth := 60) [rxTail, hk]
@[simp] theorem doTailWrite_ok {σ} (n : Fin 4) (q : QueueId) (tail : BitVec 12) (bufs : List (BitVec 64)) {s : State}
    (hk : storeOk σ s.store) : outOk σ (doTailWrite n q tail bufs s) := by
  simp only [doTailWrite]
  repeat' split
  all_goals simp +contextual (maxDischargeDepth := 60) [hk]
@[simp] theorem execTxDescriptorCheck_ok {σ} (n : Fin 4) (q : Fin 8) (d : TxDesc) {s : State}
    (hk : storeOk σ s.store) : outOk σ (execTxDescriptorCheck n q d s) := by
  simp +contextual (maxDischargeDepth := 60) [execTxDescriptorCheck, hk]
@[simp] theorem execTxFetchComplete_ok {σ} (n : Fin 4) (q : Fin 8) (got : Option Nat) {s : State}
    (hk : storeOk σ s.store) : outOk σ (execTxFetchComplete n q got s) := by
  simp only [execTxFetchComplete]
  repeat' split
  all_goals simp +contextual (maxDischargeDepth := 60) [hk]
@[simp] theorem startFrame_ok {σ} (n : ℕ) (q : ℕ) (t : ℤ) (h : TxHead) {s : State}
    (hk : storeOk σ s.store) : storeOk σ (startFrame n q t h s).store := by
  simp +contextual (maxDischargeDepth := 60) [startFrame, hk]
@[simp] theorem execTxFrameStart_ok {σ} (n : Fin 4) (t : ℤ) {s : State}
    (hk : storeOk σ s.store) : outOk σ (execTxFrameStart n t s) := by
  simp only [execTxFrameStart]
  repeat' split
  all_goals simp +contextual (maxDischargeDepth := 60) [hk]
@[simp] theorem execTxFrameDone_ok {σ} (n : Fin 4) {s : State}
    (hk : storeOk σ s.store) : outOk σ (execTxFrameDone n s) := by
  simp only [execTxFrameDone]
  repeat' split
  all_goals simp +contextual (maxDischargeDepth := 60) [hk]
@[simp] theorem execTxUnderrun_ok {σ} (n : Fin 4) (dma : Bool) {s : State}
    (hk : storeOk σ s.store) : outOk σ (execTxUnderrun n dma s) := by
  simp only [execTxUnderrun]
  repeat' split
  all_goals simp +contextual (maxDischargeDepth := 60) [hk]
@[simp] theorem portControl_ok {σ} (n : ℕ) (w : Word64) {s : State}
    (hk : storeOk σ s.store) : storeOk σ (portControl n w s).store := by
  simp only [portControl]
  repeat' split
  all_goals simp +contextual (maxDischargeDepth := 60) [hk]
@[simp] theorem doUartEnable_ok {σ} (u : Fin 2) (data : BitVec 32) {s : State}
    (hk : storeOk σ s.store) : outOk σ (doUartEnable u data s) := by
  simp +contextual (maxDischargeDepth := 60) [doUartEnable, hk]
@[simp] theorem execUartByte_ok {σ} (u : Fin 2) (x : UartIn) {s : State} (hk : storeOk σ s.store) :
    outOk σ (execUartByte u x s) := by
  unfold execUartByte
  split
  · exact hk
  · simp only [outOk_next, State.bump_store]
    exact ⟨hk.queue, tabWf_set _ _ _ (tabWf_set _ _ _ hk.commons), hk.dram, hk.nor, hk.host, hk.fuses⟩
@[simp] theorem jnlRequest_ok {σ} (op : ℕ) (type : ℕ) (key : ℕ) (b : List Byte) {s : State}
    (hk : storeOk σ s.store) : storeOk σ (jnlRequest op type key b s).store := by
  simp +contextual (maxDischargeDepth := 60) [jnlRequest, hk]
@[simp] theorem modelRequest_ok {σ} (p : ℕ) {s : State}
    (hk : storeOk σ s.store) : storeOk σ (modelRequest p s).store := by
  simp +contextual (maxDischargeDepth := 60) [modelRequest, hk]
@[simp] theorem modelLesson_ok {σ} {s : State}
    (hk : storeOk σ s.store) : storeOk σ (modelLesson s).store := by
  simp only [modelLesson]
  repeat' split
  all_goals simp [hk]
@[simp] theorem modelWrite_ok {σ} (p : ℕ) {s : State}
    (hk : storeOk σ s.store) : storeOk σ (modelWrite p s).store := by
  simp +contextual (maxDischargeDepth := 60) [modelWrite, hk]
@[simp] theorem compactLesson_ok {σ}  {s : State}
    (hk : storeOk σ s.store) : storeOk σ (compactLesson s).store := by
  simp +contextual (maxDischargeDepth := 60) [compactLesson, hk]
@[simp] theorem execModelJournalWrite_ok {σ} (p : Fin 8) {s : State}
    (hk : storeOk σ s.store) : outOk σ (execModelJournalWrite p s) := by
  simp +contextual (maxDischargeDepth := 60) [execModelJournalWrite, hk]
theorem learnHandler_ok {σ} (c : Command) {s : State} (h : storeOk σ s.store) : storeOk σ (learnHandler c s).2.2.store := by
  simp only [learnHandler]
  split
  · exact h
  · split
    · simpa using h
    · split
      · simp (maxDischargeDepth := 60) [h]
      · simpa using h
@[simp] theorem execSetLearn_ok {σ} (c : CmdWord) {s : State}
    (hk : storeOk σ s.store) : outOk σ (execSetLearn c s) := by
  exact commandRow_ok _ _ _ _ hk (fun _ _ => learnHandler_ok _)
@[simp] theorem execClearModel_ok {σ} (c : CmdWord) {s : State}
    (hk : storeOk σ s.store) : outOk σ (execClearModel c s) := by
  exact commandRow_ok _ _ _ _ hk (fun _ _ => learnHandler_ok _)
@[simp] theorem execGetModel_ok {σ} (c : CmdWord) {s : State}
    (hk : storeOk σ s.store) : outOk σ (execGetModel c s) := by
  exact commandRow_ok _ _ _ _ hk (fun _ _ => learnHandler_ok _)
@[simp] theorem syllabusCommands_ok {σ} {s : State} (hk : storeOk σ s.store) :
    storeOk σ (syllabusCommands s).store := by
  have keep : ∀ (e : ℕ) (h : Handler) (w : ℕ) (s : State), (∀ c s, (h c s).2.2.store = s.store) →
      storeOk σ s.store → storeOk σ (runCommand e h w s).store := fun e h w s hh hs =>
    runCommand_ok e h w hs (fun c s h' => (hh c s).symm ▸ h')
  unfold syllabusCommands
  refine ok_forRange _ _ (fun g s hs => keep _ _ _ _ (loopHandler_store _) hs) ?_
  exact keep _ _ _ _ esmcHandler_store (keep _ _ _ _ timeHandler_store
    (runCommand_ok _ _ _ (keep _ _ _ _ rollHandler_store hk) (fun _ _ => learnHandler_ok _)))
@[simp] theorem syllabusServices_ok {σ}  {s : State}
    (hk : storeOk σ s.store) : storeOk σ (syllabusServices s).store := by
  simp +contextual (maxDischargeDepth := 60) [syllabusServices, hk]
@[simp] theorem syllabusBell_ok {σ}  {s : State}
    (hk : storeOk σ s.store) : storeOk σ (syllabusBell s).store := by
  simp +contextual (maxDischargeDepth := 60) [syllabusBell, hk]
@[simp] theorem slotRespond_ok {σ} (j : ℕ) (op : ℕ) (seq : ℕ) (result : ℕ) (len : ℕ) {s : State}
    (hk : storeOk σ s.store) : storeOk σ (slotRespond j op seq result len s).store := by
  simp +contextual (maxDischargeDepth := 60) [slotRespond, hk]
@[simp] theorem appendAnswer_ok {σ} (who : JnlWriter) (result : ℕ) {s : State}
    (hk : storeOk σ s.store) : storeOk σ (appendAnswer who result s).store := by
  simp only [appendAnswer]
  repeat' split
  all_goals simp +contextual (maxDischargeDepth := 60) [hk]
@[simp] theorem jnlAccept_ok {σ} (r : JnlReq) {s : State}
    (hk : storeOk σ s.store) : storeOk σ (jnlAccept r s).store := by
  simp +contextual (maxDischargeDepth := 60) [jnlAccept, hk]
@[simp] theorem doJnlAppend_ok {σ}  {s : State}
    (hk : storeOk σ s.store) : outOk σ (doJnlAppend s) := by
  simp +contextual (maxDischargeDepth := 60) [doJnlAppend, hk]
@[simp] theorem execJnlSlotAppend_ok {σ} (j : Fin 4) {s : State}
    (hk : storeOk σ s.store) : outOk σ (execJnlSlotAppend j s) := by
  simp only [execJnlSlotAppend]
  repeat' split
  all_goals simp +contextual (maxDischargeDepth := 60) [hk]
@[simp] theorem execJnlSlotFind_ok {σ} (j : Fin 4) {s : State}
    (hk : storeOk σ s.store) : outOk σ (execJnlSlotFind j s) := by
  simp only [execJnlSlotFind]
  repeat' split
  all_goals simp +contextual (maxDischargeDepth := 60) [hk]
@[simp] theorem compactStart_ok {σ}  {s : State}
    (hk : storeOk σ s.store) : storeOk σ (compactStart s).store := by
  simp +contextual (maxDischargeDepth := 60) [compactStart, hk]
@[simp] theorem compactOrder_ok {σ}  {s : State}
    (hk : storeOk σ s.store) : storeOk σ (compactOrder s).store := by
  simp +contextual (maxDischargeDepth := 60) [compactOrder, hk]
@[simp] theorem doJnlCompact_ok {σ}  {s : State}
    (hk : storeOk σ s.store) : outOk σ (doJnlCompact s) := by
  simp +contextual (maxDischargeDepth := 60) [doJnlCompact, hk]
@[simp] theorem execJnlSlotCompact_ok {σ} (j : Fin 4) {s : State}
    (hk : storeOk σ s.store) : outOk σ (execJnlSlotCompact j s) := by
  simp only [execJnlSlotCompact]
  repeat' split
  all_goals simp +contextual (maxDischargeDepth := 60) [hk]
@[simp] theorem appendRun_ok {σ} (r : JnlReq) (fails : List ℕ) {s : State} (hk : storeOk σ s.store) :
    storeOk σ (appendRun r fails s).store := by
  have h1 := appendAttempts_store (s.jnl.active.getD false) r.data.length fails 0 s
  simp only [appendRun]
  generalize appendAttempts (s.jnl.active.getD false) r.data.length fails 0 s = p at h1 ⊢
  have h2 : storeOk σ p.1.store := h1 ▸ hk
  split <;> simp [h2]
@[simp] theorem execAppendComplete_ok {σ} (fails : List (Fin 17)) {s : State}
    (hk : storeOk σ s.store) : outOk σ (execAppendComplete fails s) := by
  simp only [execAppendComplete]
  repeat' split
  all_goals simp +contextual (maxDischargeDepth := 60) [hk]
@[simp] theorem execCompactionEraseDone_ok {σ} (ok : Bool) {s : State}
    (hk : storeOk σ s.store) : outOk σ (execCompactionEraseDone ok s) := by
  simp +contextual (maxDischargeDepth := 60) [execCompactionEraseDone, hk]
@[simp] theorem execSnapshotCommit_ok {σ}  {s : State}
    (hk : storeOk σ s.store) : outOk σ (execSnapshotCommit s) := by
  simp +contextual (maxDischargeDepth := 60) [execSnapshotCommit, hk]
@[simp] theorem execOldHalfEraseDone_ok {σ} (ok : Bool) {s : State}
    (hk : storeOk σ s.store) : outOk σ (execOldHalfEraseDone ok s) := by
  simp +contextual (maxDischargeDepth := 60) [execOldHalfEraseDone, hk]
@[simp] theorem execJournalScan_ok {σ} (bad : List (Fin 64)) {s : State}
    (hk : storeOk σ s.store) : outOk σ (execJournalScan bad s) := by
  simp +contextual (maxDischargeDepth := 60) [execJournalScan, hk]
@[simp] theorem norPut_ok {σ} (a : ℕ) (n : ℕ) (f : ℕ → Byte) {s : State}
    (hk : storeOk σ s.store) : storeOk σ (norPut a n f s).store := by
  simp +contextual (maxDischargeDepth := 60) [norPut, hk]
@[simp] theorem execNorOperationComplete_ok {σ} (ok : Bool) {s : State}
    (hk : storeOk σ s.store) : outOk σ (execNorOperationComplete ok s) := by
  simp only [execNorOperationComplete]
  repeat' split
  all_goals simp +contextual (maxDischargeDepth := 60) [hk]
@[simp] theorem execKeyProvisionComplete_ok {σ} (ok : Bool) {s : State}
    (hk : storeOk σ s.store) : outOk σ (execKeyProvisionComplete ok s) := by
  simp only [execKeyProvisionComplete]
  repeat' split
  all_goals simp +contextual (maxDischargeDepth := 60) [hk]
@[simp] theorem portIslandReset_ok {σ} (n : ℕ) {s : State}
    (hk : storeOk σ s.store) : storeOk σ (portIslandReset n s).store := by
  simp +contextual (maxDischargeDepth := 60) [portIslandReset, hk]
@[simp] theorem twinIslandReset_ok {σ}  {s : State}
    (hk : storeOk σ s.store) : storeOk σ (twinIslandReset s).store := by
  simp +contextual (maxDischargeDepth := 60) [twinIslandReset, hk]
@[simp] theorem islandReset_ok {σ} (i : ℕ) {s : State}
    (hk : storeOk σ s.store) : storeOk σ (islandReset i s).store := by
  simp +contextual (maxDischargeDepth := 60) [islandReset, hk]
@[simp] theorem applyAction_ok {σ} (ev : ℕ) {s : State}
    (hk : storeOk σ s.store) : storeOk σ (applyAction ev s).store := by
  simp only [applyAction]
  repeat' split
  all_goals simp +contextual (maxDischargeDepth := 60) [hk]
@[simp] theorem leaveClear_ok {σ} (ev : ℕ) (inst : ℕ) (info : ℕ) {s : State}
    (hk : storeOk σ s.store) : storeOk σ (leaveClear ev inst info s).store := by
  simp +contextual (maxDischargeDepth := 60) [leaveClear, hk]
@[simp] theorem assertSource_ok {σ} (ev : ℕ) (inst : ℕ) (info : ℕ) {s : State}
    (hk : storeOk σ s.store) : storeOk σ (assertSource ev inst info s).store := by
  simp +contextual (maxDischargeDepth := 60) [assertSource, hk]
@[simp] theorem execFaultAssert_ok {σ} (ev : Fin 128) (inst : Fin 256) (info : BitVec 24) {s : State}
    (hk : storeOk σ s.store) : outOk σ (execFaultAssert ev inst info s) := by
  simp +contextual (maxDischargeDepth := 60) [execFaultAssert, hk]
@[simp] theorem execGraceExpiry_ok {σ} (ev : Fin 128) {s : State}
    (hk : storeOk σ s.store) : outOk σ (execGraceExpiry ev s) := by
  simp +contextual (maxDischargeDepth := 60) [execGraceExpiry, hk]
@[simp] theorem doFltAck_ok {σ} (src : Fin 128) (late : Bool) {s : State}
    (hk : storeOk σ s.store) : outOk σ (doFltAck src late s) := by
  simp +contextual (maxDischargeDepth := 60) [doFltAck, hk]
@[simp] theorem lifeRecord_ok {σ}  {s : State}
    (hk : storeOk σ s.store) : storeOk σ (lifeRecord s).store := by
  simp +contextual (maxDischargeDepth := 60) [lifeRecord, hk]
@[simp] theorem doLifeSave_ok {σ}  {s : State}
    (hk : storeOk σ s.store) : outOk σ (doLifeSave s) := by
  simp +contextual (maxDischargeDepth := 60) [doLifeSave, hk]
@[simp] theorem execLifetimeRecordWrite_ok {σ}  {s : State}
    (hk : storeOk σ s.store) : outOk σ (execLifetimeRecordWrite s) := by
  simp +contextual (maxDischargeDepth := 60) [execLifetimeRecordWrite, hk]
@[simp] theorem applyWord_ok {σ} (i : ℕ) (w : Word64) {s : State}
    (hk : storeOk σ s.store) : storeOk σ (applyWord i w s).store := by
  simp only [applyWord]
  repeat' split
  all_goals simp +contextual (maxDischargeDepth := 60) [hk]
@[simp] theorem applyCommits_ok {σ}  {s : State}
    (hk : storeOk σ s.store) : storeOk σ (applyCommits s).store := by
  simp +contextual (maxDischargeDepth := 60) [applyCommits, hk]
@[simp] theorem bellWork_ok {σ} {s : State} (hk : storeOk σ s.store) : storeOk σ (bellWork s).store := by
  simp +contextual (maxDischargeDepth := 60) [bellWork, hk]
@[simp] theorem execBell_ok {σ}  {s : State}
    (hk : storeOk σ s.store) : outOk σ (execBell s) := by
  simp +contextual (maxDischargeDepth := 60) [execBell, hk]
@[simp] theorem State.dies_ok {σ} {s : State} (hk : storeOk σ s.store) : storeOk σ s.dies.store :=
  ⟨hk.queue, rfl, rfl, hk.nor, hk.host, hk.fuses⟩
@[simp] theorem pinAssert_ok {σ} (rail : ℕ) {s : State}
    (hk : storeOk σ s.store) : storeOk σ (pinAssert rail s).store := by
  simp +contextual (maxDischargeDepth := 60) [pinAssert, hk]
@[simp] theorem porAssert_ok {σ} (rail : ℕ) {s : State}
    (hk : storeOk σ s.store) : storeOk σ (porAssert rail s).store := by
  simp +contextual (maxDischargeDepth := 60) [porAssert, hk]
@[simp] theorem execPor_ok {σ} (x : PorIn) {s : State}
    (hk : storeOk σ s.store) : outOk σ (execPor x s) := by
  simp +contextual (maxDischargeDepth := 60) [execPor, hk]
@[simp] theorem execPinReset_ok {σ} (x : PinIn) {s : State}
    (hk : storeOk σ s.store) : outOk σ (execPinReset x s) := by
  simp +contextual (maxDischargeDepth := 60) [execPinReset, hk]
@[simp] theorem outWordsClear_ok {σ}  {s : State}
    (hk : storeOk σ s.store) : storeOk σ (outWordsClear s).store := by
  simp +contextual (maxDischargeDepth := 60) [outWordsClear, hk]
@[simp] theorem softReset_ok {σ} (kind : ℕ) {s : State}
    (hk : storeOk σ s.store) : storeOk σ (softReset kind s).store := by
  simp +contextual (maxDischargeDepth := 60) [softReset, hk]
@[simp] theorem doSoftReset_ok {σ}  {s : State}
    (hk : storeOk σ s.store) : outOk σ (doSoftReset s) := by
  simp +contextual (maxDischargeDepth := 60) [doSoftReset, hk]
@[simp] theorem execWdogExpiry_ok {σ}  {s : State}
    (hk : storeOk σ s.store) : outOk σ (execWdogExpiry s) := by
  simp +contextual (maxDischargeDepth := 60) [execWdogExpiry, hk]
@[simp] theorem execHeartbeatReceive_ok {σ} (lane : Fin 2) (crcOk : Bool) (h : Heartbeat) {s : State}
    (hk : storeOk σ s.store) : outOk σ (execHeartbeatReceive lane crcOk h s) := by
  simp +contextual (maxDischargeDepth := 60) [execHeartbeatReceive, hk]
@[simp] theorem doIslandGo_ok {σ} (i : Fin 32) {s : State}
    (hk : storeOk σ s.store) : outOk σ (doIslandGo i s) := by
  simp +contextual (maxDischargeDepth := 60) [doIslandGo, hk]
@[simp] theorem execIslandPowerFault_ok {σ} (i : Fin 32) {s : State}
    (hk : storeOk σ s.store) : outOk σ (execIslandPowerFault i s) := by
  simp +contextual (maxDischargeDepth := 60) [execIslandPowerFault, hk]
@[simp] theorem execSupplyRecovery_ok {σ} (r : Fin 9) (us : ℕ) {s : State}
    (hk : storeOk σ s.store) : outOk σ (execSupplyRecovery r us s) := by
  simp +contextual (maxDischargeDepth := 60) [execSupplyRecovery, hk]
@[simp] theorem dllsLose_ok {σ}  {s : State}
    (hk : storeOk σ s.store) : storeOk σ (dllsLose s).store := by
  simp +contextual (maxDischargeDepth := 60) [dllsLose, hk]
@[simp] theorem apllsLose_ok {σ}  {s : State}
    (hk : storeOk σ s.store) : storeOk σ (apllsLose s).store := by
  simp +contextual (maxDischargeDepth := 60) [apllsLose, hk, apply_ite State.store]
@[simp] theorem norRailLost_ok {σ}  {s : State}
    (hk : storeOk σ s.store) : storeOk σ (norRailLost s).store := by
  simp only [norRailLost]
  repeat' split
  all_goals simp +contextual (maxDischargeDepth := 60) [hk]
@[simp] theorem railLost_ok {σ} (r : ℕ) {s : State}
    (hk : storeOk σ s.store) : storeOk σ (railLost r s).store := by
  simp only [railLost]
  repeat' split
  all_goals simp +contextual (maxDischargeDepth := 60) [hk]
@[simp] theorem execRailResetCrossing_ok {σ} (r : Fin 9) {s : State}
    (hk : storeOk σ s.store) : outOk σ (execRailResetCrossing r s) := by
  simp +contextual (maxDischargeDepth := 60) [execRailResetCrossing, hk]
@[simp] theorem doPowerStateGo_ok {σ} (target : Fin 4) {s : State}
    (hk : storeOk σ s.store) : outOk σ (doPowerStateGo target s) := by
  simp +contextual (maxDischargeDepth := 60) [doPowerStateGo, hk]
@[simp] theorem standbyEnter_ok {σ}  {s : State}
    (hk : storeOk σ s.store) : storeOk σ (standbyEnter s).store := by
  simp +contextual (maxDischargeDepth := 60) [standbyEnter, hk]
@[simp] theorem dozeEnter_ok {σ} (off : Bool) {s : State}
    (hk : storeOk σ s.store) : storeOk σ (dozeEnter off s).store := by
  simp +contextual (maxDischargeDepth := 60) [dozeEnter, hk]
@[simp] theorem powerArrive_ok {σ} (t : ℕ) {s : State}
    (hk : storeOk σ s.store) : storeOk σ (powerArrive t s).store := by
  simp +contextual (maxDischargeDepth := 60) [powerArrive, hk]
@[simp] theorem powerRecord_ok {σ}  {s : State}
    (hk : storeOk σ s.store) : storeOk σ (powerRecord s).store := by
  simp +contextual (maxDischargeDepth := 60) [powerRecord, hk]
@[simp] theorem execPowerTransitionComplete_ok {σ}  {s : State}
    (hk : storeOk σ s.store) : outOk σ (execPowerTransitionComplete s) := by
  simp only [execPowerTransitionComplete]
  repeat' split
  all_goals simp +contextual (maxDischargeDepth := 60) [hk]
@[simp] theorem tdcTested_ok {σ} (ch : ℕ) (hits : List ℕ) (mean : ℤ) (sd : ℤ) {s : State}
    (hk : storeOk σ s.store) : storeOk σ (tdcTested ch hits mean sd s).store := by
  simp +contextual (maxDischargeDepth := 60) [tdcTested, hk]
@[simp] theorem replaceRow_ok {σ} (row : ℕ) {s : State}
    (hk : storeOk σ s.store) : storeOk σ (replaceRow row s).store := by
  simp +contextual (maxDischargeDepth := 60) [replaceRow, hk]
@[simp] theorem dramTested_ok {σ} (rows : List ℕ) {s : State}
    (hk : storeOk σ s.store) : storeOk σ (dramTested rows s).store := by
  simp only [dramTested]
  repeat' split
  all_goals simp +contextual (maxDischargeDepth := 60) [hk]
@[simp] theorem execBistComplete_ok {σ} (x : BistOut) {s : State}
    (hk : storeOk σ s.store) : outOk σ (execBistComplete x s) := by
  simp only [execBistComplete]
  repeat' split
  all_goals simp +contextual (maxDischargeDepth := 60) [hk]
@[simp] theorem doSaveTdc_ok {σ} (fail : Bool) {s : State}
    (hk : storeOk σ s.store) : outOk σ (doSaveTdc fail s) := by
  simp +contextual (maxDischargeDepth := 60) [doSaveTdc, hk]
@[simp] theorem doSaveApll_ok {σ} (fail : Bool) {s : State}
    (hk : storeOk σ s.store) : outOk σ (doSaveApll fail s) := by
  simp +contextual (maxDischargeDepth := 60) [doSaveApll, hk]
@[simp] theorem execDramScrub_ok {σ} (word : BitVec 24) (ecc : Ecc) {s : State}
    (hk : storeOk σ s.store) : outOk σ (execDramScrub word ecc s) := by
  simp +contextual (maxDischargeDepth := 60) [execDramScrub, hk]
@[simp] theorem tabCanon_wf {α : Type} [DecidableEq α] (d : α) (t : Tab α) : tabWf d (tabCanon d t) = true :=
  tabWf_foldl d _ (fun _ _ h => tabWf_set _ _ _ h) _ rfl
@[simp] theorem scanStart_ok {σ} {s : State} (hk : storeOk σ s.store) : storeOk σ (scanStart s).store :=
  ⟨hk.queue, tabCanon_wf _ _, tabCanon_wf _ _, hk.nor, hk.host, hk.fuses⟩
@[simp] theorem execJtagScanInt_ok {σ}  {s : State}
    (hk : storeOk σ s.store) : outOk σ (execJtagScanInt s) := by
  simp +contextual (maxDischargeDepth := 60) [execJtagScanInt, hk]
@[simp] theorem devWrite_ok {σ} (a : ℕ) (v : ℕ) (fs : List Fld) {s : State}
    (hk : storeOk σ s.store) : storeOk σ (devWrite a v fs s).store := by
  simp +contextual (maxDischargeDepth := 60) [devWrite, hk]
@[simp] theorem pwrWrite_ok {σ} (a : ℕ) (v : ℕ) (fs : List Fld) {s : State}
    (hk : storeOk σ s.store) : storeOk σ (pwrWrite a v fs s).store := by
  simp +contextual (maxDischargeDepth := 60) [pwrWrite, hk]
@[simp] theorem fltWrite_ok {σ} (a : ℕ) (v : ℕ) (fs : List Fld) {s : State}
    (hk : storeOk σ s.store) : storeOk σ (fltWrite a v fs s).store := by
  simp +contextual (maxDischargeDepth := 60) [fltWrite, hk]
@[simp] theorem secWrite_ok {σ} (a : ℕ) (v : ℕ) (fs : List Fld) {s : State}
    (hk : storeOk σ s.store) : storeOk σ (secWrite a v fs s).store := by
  simp +contextual (maxDischargeDepth := 60) [secWrite, hk]
@[simp] theorem engWrite_ok {σ} (n : ℕ) (off : ℕ) (v : ℕ) (fs : List Fld) {s : State}
    (hk : storeOk σ s.store) : storeOk σ (engWrite n off v fs s).store := by
  simp +contextual (maxDischargeDepth := 60) [engWrite, hk]
@[simp] theorem queueWrite_ok {σ} (n : ℕ) (q : QueueId) (en : Fld) (j : ℕ) (v : ℕ) (fs : List Fld) {s : State}
    (hk : storeOk σ s.store) : storeOk σ (queueWrite n q en j v fs s).store := by
  simp only [queueWrite]
  repeat' split
  all_goals simp +contextual (maxDischargeDepth := 60) [hk]
@[simp] theorem ethWrite_ok {σ} (n : ℕ) (off : ℕ) (v : ℕ) (fs : List Fld) {s : State}
    (hk : storeOk σ s.store) : storeOk σ (ethWrite n off v fs s).store := by
  simp only [ethWrite]
  repeat' split
  all_goals simp +contextual (maxDischargeDepth := 60) [hk]
@[simp] theorem lateWrite_ok {σ} (a : ℕ) (v : ℕ) (fs : List Fld) {s : State}
    (hk : storeOk σ s.store) : storeOk σ (lateWrite a v fs s).store := by
  simp only [lateWrite]
  repeat' split
  all_goals simp +contextual (maxDischargeDepth := 60) [hk]
@[simp] theorem regEffect_ok {σ} (a v : ℕ) (fs : List Fld) {s : State} (hk : storeOk σ s.store) :
    storeOk σ (regEffect a v fs s).store := by
  unfold regEffect
  repeat' split
  all_goals simp (maxDischargeDepth := 60) [hk]
@[simp] theorem regWrite_ok {σ} (a : ℕ) (d : Word32) {s : State} (hk : storeOk σ s.store) :
    storeOk σ (regWrite a d s).store := by
  unfold regWrite
  split
  · exact hk
  · rw [nextOr_store]
    refine ok_getD _ (withWrite_ok _ _ ?_ (fun s hs => ?_))
    · split <;> simp [hk]
    · simpa using regEffect_ok _ _ _ (by simpa using hs)
@[simp] theorem direct_ok {σ} (a : ℕ) (w : Option Word32) {s : State}
    (hk : storeOk σ s.store) : storeOk σ (direct a w s).s.store := by
  simp only [direct]
  repeat' split
  all_goals simp +contextual (maxDischargeDepth := 60) [hk]
@[simp] theorem pairAccess_ok {σ} (n : ℕ) (w : Option Word32) {s : State}
    (hk : storeOk σ s.store) : storeOk σ (pairAccess n w s).s.store := by
  simp only [pairAccess]
  repeat' split
  all_goals simp +contextual (maxDischargeDepth := 60) [hk]
@[simp] theorem legWrite_ok {σ} (i : ℕ) (d : Word32) {s : State}
    (hk : storeOk σ s.store) : storeOk σ (legWrite i d s).s.store := by
  simp only [legWrite]
  repeat' split
  all_goals simp +contextual (maxDischargeDepth := 60) [hk]
@[simp] theorem fabric_ok {σ} (a : ℕ) (w : Option Word32) {s : State}
    (hk : storeOk σ s.store) : storeOk σ (fabric a w s).s.store := by
  simp only [fabric]
  repeat' split
  all_goals simp +contextual (maxDischargeDepth := 60) [hk]
@[simp] theorem homeAccess_ok {σ} (a : ℕ) (w : Option Word32) {s : State}
    (hk : storeOk σ s.store) : storeOk σ (homeAccess a w s).s.store := by
  simp only [homeAccess]
  repeat' split
  all_goals simp +contextual (maxDischargeDepth := 60) [hk]
@[simp] theorem Burst.more_ok {σ} (b : Burst) (w : Option Word32)
    (hk : storeOk σ b.s.store) : storeOk σ (Burst.more b w).s.store := by
  simp +contextual (maxDischargeDepth := 60) [Burst.more, hk]
@[simp] theorem readBurst_ok {σ} (a n : ℕ) {s : State} (hk : storeOk σ s.store) :
    storeOk σ (readBurst a n s).s.store := by
  have key : ∀ (l : List ℕ) (b : Burst), storeOk σ b.s.store →
      storeOk σ (l.foldl (fun b _ => b.more none) b).s.store := by
    intro l
    induction l with
    | nil => exact fun _ h => h
    | cons w l ih => exact fun b h => ih _ (Burst.more_ok b _ h)
  exact key _ _ hk
@[simp] theorem writeBurst_ok {σ} (a : ℕ) (l : List Word32) {s : State} (hk : storeOk σ s.store) :
    storeOk σ (writeBurst a l s).s.store := by
  have key : ∀ (l : List Word32) (b : Burst), storeOk σ b.s.store →
      storeOk σ (l.foldl (fun b w => b.more (some w)) b).s.store := by
    intro l
    induction l with
    | nil => exact fun _ h => h
    | cons w l ih => exact fun b h => ih _ (Burst.more_ok b _ h)
  exact key l _ hk
@[simp] theorem execRegisterWrite_ok {σ} (addr : BitVec 18) (data : BitVec 32) {s : State}
    (hk : storeOk σ s.store) : outOk σ (execRegisterWrite addr data s) := by
  simp +contextual (maxDischargeDepth := 60) [execRegisterWrite, hk]
@[simp] theorem execPairLoRead_ok {σ} (addr : BitVec 18) {s : State}
    (hk : storeOk σ s.store) : outOk σ (execPairLoRead addr s) := by
  simp +contextual (maxDischargeDepth := 60) [execPairLoRead, hk]
@[simp] theorem execIxaWrite_ok {σ} (n : Fin 16) (data : BitVec 32) {s : State}
    (hk : storeOk σ s.store) : outOk σ (execIxaWrite n data s) := by
  simp +contextual (maxDischargeDepth := 60) [execIxaWrite, hk]
@[simp] theorem execIxdAccess_ok {σ} (n : Fin 16) (w : Option (BitVec 32)) {s : State}
    (hk : storeOk σ s.store) : outOk σ (execIxdAccess n w s) := by
  simp +contextual (maxDischargeDepth := 60) [execIxdAccess, hk]
@[simp] theorem execLegWrite_ok {σ} (idx : Fin 256) (data : BitVec 32) {s : State}
    (hk : storeOk σ s.store) : outOk σ (execLegWrite idx data s) := by
  simp +contextual (maxDischargeDepth := 60) [execLegWrite, hk]
@[simp] theorem execSpiRead_ok {σ} (addr : BitVec 24) (x : SpiReadIn) {s : State}
    (hk : storeOk σ s.store) : outOk σ (execSpiRead addr x s) := by
  simp +contextual (maxDischargeDepth := 60) [execSpiRead, hk]
@[simp] theorem execSpiWrite_ok {σ} (addr : BitVec 24) (words : List (BitVec 32)) (partWord : Bool) (drop : List ℕ) {s : State}
    (hk : storeOk σ s.store) : outOk σ (execSpiWrite addr words partWord drop s) := by
  simp +contextual (maxDischargeDepth := 60) [execSpiWrite, hk]
@[simp] theorem execI2cWrite_ok {σ} (addr : BitVec 24) (words : List (BitVec 32)) (partWord : Bool) {s : State}
    (hk : storeOk σ s.store) : outOk σ (execI2cWrite addr words partWord s) := by
  simp +contextual (maxDischargeDepth := 60) [execI2cWrite, hk]
@[simp] theorem i2cReads_ok {σ} (a : ℕ) (n : ℕ) {s : State}
    (hk : storeOk σ s.store) : storeOk σ (i2cReads a n s).store := by
  simp +contextual (maxDischargeDepth := 60) [i2cReads, hk]
@[simp] theorem execI2cRead_ok {σ} (addr : BitVec 24) (n : ℕ) {s : State}
    (hk : storeOk σ s.store) : outOk σ (execI2cRead addr n s) := by
  simp +contextual (maxDischargeDepth := 60) [execI2cRead, hk]
@[simp] theorem execI2cCurrentRead_ok {σ} (n : ℕ) {s : State}
    (hk : storeOk σ s.store) : outOk σ (execI2cCurrentRead n s) := by
  simp +contextual (maxDischargeDepth := 60) [execI2cCurrentRead, hk]
@[simp] theorem hostRings_ok {σ}  {s : State}
    (hk : storeOk σ s.store) : storeOk σ (hostRings s).store := by
  simp +contextual (maxDischargeDepth := 60) [hostRings, hk]
@[simp] theorem bar0Read_ok {σ} (o : ℕ) {s : State}
    (hk : storeOk σ s.store) : storeOk σ (bar0Read o s).s.store := by
  simp only [bar0Read]
  repeat' split
  all_goals simp +contextual (maxDischargeDepth := 60) [hk]
@[simp] theorem bar0Write_ok {σ} (o : ℕ) (x : PcieDw) {s : State}
    (hk : storeOk σ s.store) : storeOk σ (bar0Write o x s).store := by
  simp +contextual (maxDischargeDepth := 60) [bar0Write, hk]
@[simp] theorem execPcieRead_ok {σ} (off : BitVec 17) (n : ℕ) {s : State} (hk : storeOk σ s.store) :
    outOk σ (execPcieRead off n s) := by
  have key : ∀ (o : ℕ) (l : List ℕ) (p : State × List Word32), storeOk σ p.1.store → storeOk σ (l.foldl
      (fun (p : State × List Word32) i => let x := bar0Read (o + 4 * i) p.1; (x.s, p.2 ++ [x.data])) p).1.store := by
    intro o l
    induction l with
    | nil => exact fun _ h => h
    | cons i l ih => exact fun p h => ih _ (bar0Read_ok _ h)
  simp only [execPcieRead]
  split
  · exact hk
  · simpa using key _ _ (s, []) hk
@[simp] theorem execPcieWrite_ok {σ} (off : BitVec 17) (words : List PcieDw) {s : State}
    (hk : storeOk σ s.store) : outOk σ (execPcieWrite off words s) := by
  simp +contextual (maxDischargeDepth := 60) [execPcieWrite, hk]
@[simp] theorem execPcieLinkUp_ok {σ} (width : Fin 16) (speed : Fin 16) {s : State}
    (hk : storeOk σ s.store) : outOk σ (execPcieLinkUp width speed s) := by
  simp +contextual (maxDischargeDepth := 60) [execPcieLinkUp, hk]
@[simp] theorem execPcieConfigWrite_ok {σ} (x : PcieCfg) {s : State}
    (hk : storeOk σ s.store) : outOk σ (execPcieConfigWrite x s) := by
  simp only [execPcieConfigWrite]
  repeat' split
  all_goals simp +contextual (maxDischargeDepth := 60) [hk]
@[simp] theorem execJtagFabric_ok {σ} (acc : Option FabricAcc) {s : State}
    (hk : storeOk σ s.store) : outOk σ (execJtagFabric acc s) := by
  simp only [execJtagFabric]
  repeat' split
  all_goals simp +contextual (maxDischargeDepth := 60) [hk]
@[simp] theorem execEngStep_ok {σ} (e : Fin 17) (f : Ecc) (ecc : Ecc × Ecc) {s : State}
    (hk : storeOk σ s.store) : outOk σ (execEngStep e f ecc s) := by
  exact hostCmd_ok _ _ hk (fun s hs => by simp (maxDischargeDepth := 60) [hs])
@[simp] theorem execUartEnable_ok {σ} (u : Fin 2) (data : BitVec 32) {s : State}
    (hk : storeOk σ s.store) : outOk σ (execUartEnable u data s) := by
  exact hostCmd_ok _ _ hk (fun s hs => by simp (maxDischargeDepth := 60) [hs])
@[simp] theorem execPortDisable_ok {σ} (n : Fin 4) {s : State}
    (hk : storeOk σ s.store) : outOk σ (execPortDisable n s) := by
  exact hostCmd_ok _ _ hk (fun s hs => by simp (maxDischargeDepth := 60) [hs])
@[simp] theorem execTailWrite_ok {σ} (n : Fin 4) (q : QueueId) (tail : BitVec 12) (bufs : List (BitVec 64)) {s : State}
    (hk : storeOk σ s.store) : outOk σ (execTailWrite n q tail bufs s) := by
  exact hostCmd_ok _ _ hk (fun s hs => by simp (maxDischargeDepth := 60) [hs])
@[simp] theorem execTwinEnable_ok {σ}  {s : State}
    (hk : storeOk σ s.store) : outOk σ (execTwinEnable s) := by
  exact hostCmd_ok _ _ hk (fun s hs => by simp (maxDischargeDepth := 60) [hs])
@[simp] theorem execTwinDisable_ok {σ}  {s : State}
    (hk : storeOk σ s.store) : outOk σ (execTwinDisable s) := by
  exact hostCmd_ok _ _ hk (fun s hs => by simp (maxDischargeDepth := 60) [hs])
@[simp] theorem execTwinDemote_ok {σ}  {s : State}
    (hk : storeOk σ s.store) : outOk σ (execTwinDemote s) := by
  exact hostCmd_ok _ _ hk (fun s hs => by simp (maxDischargeDepth := 60) [hs])
@[simp] theorem execFltAck_ok {σ} (src : Fin 128) (late : Bool) {s : State}
    (hk : storeOk σ s.store) : outOk σ (execFltAck src late s) := by
  exact hostCmd_ok _ _ hk (fun s hs => by simp (maxDischargeDepth := 60) [hs])
@[simp] theorem execLifeSave_ok {σ}  {s : State}
    (hk : storeOk σ s.store) : outOk σ (execLifeSave s) := by
  exact hostCmd_ok _ _ hk (fun s hs => by simp (maxDischargeDepth := 60) [hs])
@[simp] theorem execPowerStateGo_ok {σ} (target : Fin 4) {s : State}
    (hk : storeOk σ s.store) : outOk σ (execPowerStateGo target s) := by
  exact hostCmd_ok _ _ hk (fun s hs => by simp (maxDischargeDepth := 60) [hs])
@[simp] theorem execSoftReset_ok {σ}  {s : State}
    (hk : storeOk σ s.store) : outOk σ (execSoftReset s) := by
  exact hostCmd_ok _ _ hk (fun s hs => by simp (maxDischargeDepth := 60) [hs])
@[simp] theorem execIslandGo_ok {σ} (i : Fin 32) {s : State}
    (hk : storeOk σ s.store) : outOk σ (execIslandGo i s) := by
  exact hostCmd_ok _ _ hk (fun s hs => by simp (maxDischargeDepth := 60) [hs])
@[simp] theorem execJnlAppend_ok {σ}  {s : State}
    (hk : storeOk σ s.store) : outOk σ (execJnlAppend s) := by
  exact hostCmd_ok _ _ hk (fun s hs => by simp (maxDischargeDepth := 60) [hs])
@[simp] theorem execJnlCompact_ok {σ}  {s : State}
    (hk : storeOk σ s.store) : outOk σ (execJnlCompact s) := by
  exact hostCmd_ok _ _ hk (fun s hs => by simp (maxDischargeDepth := 60) [hs])
@[simp] theorem execSaveTdc_ok {σ} (fail : Bool) {s : State}
    (hk : storeOk σ s.store) : outOk σ (execSaveTdc fail s) := by
  exact hostCmd_ok _ _ hk (fun s hs => by simp (maxDischargeDepth := 60) [hs])
@[simp] theorem execSaveApll_ok {σ} (fail : Bool) {s : State}
    (hk : storeOk σ s.store) : outOk σ (execSaveApll fail s) := by
  exact hostCmd_ok _ _ hk (fun s hs => by simp (maxDischargeDepth := 60) [hs])

/-- A field that gains bits and the others kept. -/
theorem gains_set {a l : List Nat} (n v : Nat) (h : gains a l) (hn : n < l.length)
    (hv : ∀ i, (l.getD n 0).testBit i = true → v.testBit i = true) : gains a (l.set n v) := by
  intro k i hk
  have := h k i hk
  by_cases hkn : n = k
  · subst hkn; simpa [List.getD, hn] using hv i this
  · simpa [List.getD, List.getElem?_set_ne hkn] using this
/-- A fuse field put with more bits. -/
theorem gains_put {a : List Nat} (s : State) (sel v : Nat) (b : Option (Nat × Nat)) (h : gains a s.fuses.fields) :
    gains a ({ s.fuses.put sel (s.fuseField sel ||| v) with busy := b } : FuseSt).fields := by
  have hor : ∀ x i, Nat.testBit x i = true → (x ||| v).testBit i = true := by
    intro x i hx; simp [Nat.testBit_or, hx]
  unfold FuseSt.put
  split
  · exact gains_set 0 _ h (by simp [FuseSt.fields]) (hor _)
  · exact gains_set 1 _ h (by simp [FuseSt.fields]) (hor _)
  · exact gains_set 2 _ h (by simp [FuseSt.fields]) (hor _)
  · exact gains_set 3 _ h (by simp [FuseSt.fields]) (hor _)
  · exact gains_set 5 _ h (by simp [FuseSt.fields]) (hor _)
  · exact gains_set 6 _ h (by simp [FuseSt.fields]) (hor _)
  · exact h
@[simp] theorem rollbackAdvance_ok {σ} (v : Nat) {s : State} (hk : storeOk σ s.store) :
    storeOk σ (rollbackAdvance v s).store := by
  unfold rollbackAdvance
  split
  · rename_i hv
    refine ⟨hk.queue, hk.commons, hk.dram, hk.nor, hk.host, gains_set (l := s.fuses.fields) 4 (2 ^ v - 1) hk.fuses (by simp [FuseSt.fields]) ?_⟩
    intro i hi
    simp only [FuseSt.fields, List.getD_cons_succ, List.getD_cons_zero, Nat.testBit_two_pow_sub_one, decide_eq_true_eq] at hi ⊢
    omega
  · exact hk
@[simp] theorem execFuseProgramComplete_ok {σ} (ok : Bool) {s : State} (hk : storeOk σ s.store) :
    outOk σ (execFuseProgramComplete ok s) := by
  unfold execFuseProgramComplete
  split
  · exact hk
  · simp only [outOk_next, State.wrs_store]
    split
    · exact ⟨hk.queue, hk.commons, hk.dram, hk.nor, hk.host, gains_put s _ _ _ hk.fuses⟩
    · exact ⟨hk.queue, hk.commons, hk.dram, hk.nor, hk.host, gains_put s _ _ _ hk.fuses⟩
@[simp] theorem execLoadComplete_ok {σ} (a : ImageSet) (b : ImageSet) {s : State}
    (hk : storeOk σ s.store) : outOk σ (execLoadComplete a b s) := by
  simp only [execLoadComplete]
  repeat' split
  all_goals simp (maxDischargeDepth := 60) [hk]

end Sys2Proof.Machine
end

