-- ==== Sys2Proof/Laws/Keys.lean ====
section
/-! SUPPORT. The key and the width of every register field, so that two fields are told apart by arithmetic. -/
namespace Sys2Proof.Machine

@[simp] theorem Reg.DEV_ID_PART_key : Reg.DEV_ID_PART.key = 32 * (0x0) + 16 := id rfl
@[simp] theorem Reg.DEV_ID_PART_width : Reg.DEV_ID_PART.width = 16 := rfl
@[simp] theorem Reg.DEV_ID_REV_key : Reg.DEV_ID_REV.key = 32 * (0x0) + 0 := id rfl
@[simp] theorem Reg.DEV_ID_REV_width : Reg.DEV_ID_REV.width = 8 := rfl
@[simp] theorem Reg.DEV_CLK_CFG_XO_FREQ_key : Reg.DEV_CLK_CFG_XO_FREQ.key = 32 * (0x40) + 0 := id rfl
@[simp] theorem Reg.DEV_CLK_CFG_XO_FREQ_width : Reg.DEV_CLK_CFG_XO_FREQ.width = 28 := rfl
@[simp] theorem Reg.DEV_CLK_CMD_START_key : Reg.DEV_CLK_CMD_START.key = 32 * (0x44) + 0 := id rfl
@[simp] theorem Reg.DEV_CLK_CMD_START_width : Reg.DEV_CLK_CMD_START.width = 1 := rfl
@[simp] theorem Reg.DEV_CLK_STATUS_TBPLL_NINT_key : Reg.DEV_CLK_STATUS_TBPLL_NINT.key = 32 * (0x48) + 8 := id rfl
@[simp] theorem Reg.DEV_CLK_STATUS_TBPLL_NINT_width : Reg.DEV_CLK_STATUS_TBPLL_NINT.width = 8 := rfl
@[simp] theorem Reg.DEV_CLK_STATUS_START_FAIL_key : Reg.DEV_CLK_STATUS_START_FAIL.key = 32 * (0x48) + 6 := id rfl
@[simp] theorem Reg.DEV_CLK_STATUS_START_FAIL_width : Reg.DEV_CLK_STATUS_START_FAIL.width = 1 := rfl
@[simp] theorem Reg.DEV_CLK_STATUS_CFG_ERR_key : Reg.DEV_CLK_STATUS_CFG_ERR.key = 32 * (0x48) + 5 := id rfl
@[simp] theorem Reg.DEV_CLK_STATUS_CFG_ERR_width : Reg.DEV_CLK_STATUS_CFG_ERR.width = 1 := rfl
@[simp] theorem Reg.DEV_CLK_STATUS_SERVO_HOLD_key : Reg.DEV_CLK_STATUS_SERVO_HOLD.key = 32 * (0x48) + 4 := id rfl
@[simp] theorem Reg.DEV_CLK_STATUS_SERVO_HOLD_width : Reg.DEV_CLK_STATUS_SERVO_HOLD.width = 1 := rfl
@[simp] theorem Reg.DEV_CLK_STATUS_TB_ON_XO_key : Reg.DEV_CLK_STATUS_TB_ON_XO.key = 32 * (0x48) + 3 := id rfl
@[simp] theorem Reg.DEV_CLK_STATUS_TB_ON_XO_width : Reg.DEV_CLK_STATUS_TB_ON_XO.width = 1 := rfl
@[simp] theorem Reg.DEV_CLK_STATUS_SYSPLL_LOCK_key : Reg.DEV_CLK_STATUS_SYSPLL_LOCK.key = 32 * (0x48) + 2 := id rfl
@[simp] theorem Reg.DEV_CLK_STATUS_SYSPLL_LOCK_width : Reg.DEV_CLK_STATUS_SYSPLL_LOCK.width = 1 := rfl
@[simp] theorem Reg.DEV_CLK_STATUS_TBPLL_LOCK_key : Reg.DEV_CLK_STATUS_TBPLL_LOCK.key = 32 * (0x48) + 1 := id rfl
@[simp] theorem Reg.DEV_CLK_STATUS_TBPLL_LOCK_width : Reg.DEV_CLK_STATUS_TBPLL_LOCK.width = 1 := rfl
@[simp] theorem Reg.DEV_CLK_STATUS_XO_ACTIVE_key : Reg.DEV_CLK_STATUS_XO_ACTIVE.key = 32 * (0x48) + 0 := id rfl
@[simp] theorem Reg.DEV_CLK_STATUS_XO_ACTIVE_width : Reg.DEV_CLK_STATUS_XO_ACTIVE.width = 1 := rfl
@[simp] theorem Reg.DEV_ISL_RING_ON_RING_key : Reg.DEV_ISL_RING_ON_RING.key = 32 * (0x4C) + 0 := id rfl
@[simp] theorem Reg.DEV_ISL_RING_ON_RING_width : Reg.DEV_ISL_RING_ON_RING.width = 32 := rfl
@[simp] theorem Reg.DEV_TEMP_VALID_key (i : Nat) : (Reg.DEV_TEMP_VALID i).key = 32 * (0x50 + 0x4 * i) + 31 := id rfl
@[simp] theorem Reg.DEV_TEMP_VALID_width (i : Nat) : (Reg.DEV_TEMP_VALID i).width = 1 := rfl
@[simp] theorem Reg.DEV_TEMP_VALUE_key (i : Nat) : (Reg.DEV_TEMP_VALUE i).key = 32 * (0x50 + 0x4 * i) + 0 := id rfl
@[simp] theorem Reg.DEV_TEMP_VALUE_width (i : Nat) : (Reg.DEV_TEMP_VALUE i).width = 16 := rfl
@[simp] theorem Reg.DEV_XTH_VALID_key : Reg.DEV_XTH_VALID.key = 32 * (0x68) + 31 := id rfl
@[simp] theorem Reg.DEV_XTH_VALID_width : Reg.DEV_XTH_VALID.width = 1 := rfl
@[simp] theorem Reg.DEV_XTH_RATIO_key : Reg.DEV_XTH_RATIO.key = 32 * (0x68) + 0 := id rfl
@[simp] theorem Reg.DEV_XTH_RATIO_width : Reg.DEV_XTH_RATIO.width = 16 := rfl
@[simp] theorem Reg.DEV_BELL_PERIOD_key : Reg.DEV_BELL_PERIOD.key = 32 * (0x80) + 0 := id rfl
@[simp] theorem Reg.DEV_BELL_PERIOD_width : Reg.DEV_BELL_PERIOD.width = 25 := rfl
@[simp] theorem Reg.DEV_BELL_STATUS_ON_XO_key : Reg.DEV_BELL_STATUS_ON_XO.key = 32 * (0x84) + 1 := id rfl
@[simp] theorem Reg.DEV_BELL_STATUS_ON_XO_width : Reg.DEV_BELL_STATUS_ON_XO.width = 1 := rfl
@[simp] theorem Reg.DEV_BELL_STATUS_PERIOD_REJ_key : Reg.DEV_BELL_STATUS_PERIOD_REJ.key = 32 * (0x84) + 0 := id rfl
@[simp] theorem Reg.DEV_BELL_STATUS_PERIOD_REJ_width : Reg.DEV_BELL_STATUS_PERIOD_REJ.width = 1 := rfl
@[simp] theorem Reg.DEV_LOAD_CMD_SLOT_key : Reg.DEV_LOAD_CMD_SLOT.key = 32 * (0x90) + 1 := id rfl
@[simp] theorem Reg.DEV_LOAD_CMD_SLOT_width : Reg.DEV_LOAD_CMD_SLOT.width = 1 := rfl
@[simp] theorem Reg.DEV_LOAD_CMD_LOAD_key : Reg.DEV_LOAD_CMD_LOAD.key = 32 * (0x90) + 0 := id rfl
@[simp] theorem Reg.DEV_LOAD_CMD_LOAD_width : Reg.DEV_LOAD_CMD_LOAD.width = 1 := rfl
@[simp] theorem Reg.DEV_LOAD_STATUS_ENGINE_key : Reg.DEV_LOAD_STATUS_ENGINE.key = 32 * (0x94) + 8 := id rfl
@[simp] theorem Reg.DEV_LOAD_STATUS_ENGINE_width : Reg.DEV_LOAD_STATUS_ENGINE.width = 5 := rfl
@[simp] theorem Reg.DEV_LOAD_STATUS_LOADED_key : Reg.DEV_LOAD_STATUS_LOADED.key = 32 * (0x94) + 7 := id rfl
@[simp] theorem Reg.DEV_LOAD_STATUS_LOADED_width : Reg.DEV_LOAD_STATUS_LOADED.width = 1 := rfl
@[simp] theorem Reg.DEV_LOAD_STATUS_RESULT_key : Reg.DEV_LOAD_STATUS_RESULT.key = 32 * (0x94) + 0 := id rfl
@[simp] theorem Reg.DEV_LOAD_STATUS_RESULT_width : Reg.DEV_LOAD_STATUS_RESULT.width = 4 := rfl
@[simp] theorem Reg.DEV_UART_CFG_EN_key (i : Nat) : (Reg.DEV_UART_CFG_EN i).key = 32 * (0xA0 + 0x4 * i) + 31 := id rfl
@[simp] theorem Reg.DEV_UART_CFG_EN_width (i : Nat) : (Reg.DEV_UART_CFG_EN i).width = 1 := rfl
@[simp] theorem Reg.DEV_UART_CFG_PARITY_key (i : Nat) : (Reg.DEV_UART_CFG_PARITY i).key = 32 * (0xA0 + 0x4 * i) + 29 := id rfl
@[simp] theorem Reg.DEV_UART_CFG_PARITY_width (i : Nat) : (Reg.DEV_UART_CFG_PARITY i).width = 2 := rfl
@[simp] theorem Reg.DEV_UART_CFG_TS_key (i : Nat) : (Reg.DEV_UART_CFG_TS i).key = 32 * (0xA0 + 0x4 * i) + 24 := id rfl
@[simp] theorem Reg.DEV_UART_CFG_TS_width (i : Nat) : (Reg.DEV_UART_CFG_TS i).width = 2 := rfl
@[simp] theorem Reg.DEV_UART_CFG_BAUD_key (i : Nat) : (Reg.DEV_UART_CFG_BAUD i).key = 32 * (0xA0 + 0x4 * i) + 0 := id rfl
@[simp] theorem Reg.DEV_UART_CFG_BAUD_width (i : Nat) : (Reg.DEV_UART_CFG_BAUD i).width = 20 := rfl
@[simp] theorem Reg.DEV_UART_STATUS_ERR1_key : Reg.DEV_UART_STATUS_ERR1.key = 32 * (0xA8) + 24 := id rfl
@[simp] theorem Reg.DEV_UART_STATUS_ERR1_width : Reg.DEV_UART_STATUS_ERR1.width = 8 := rfl
@[simp] theorem Reg.DEV_UART_STATUS_ERR0_key : Reg.DEV_UART_STATUS_ERR0.key = 32 * (0xA8) + 16 := id rfl
@[simp] theorem Reg.DEV_UART_STATUS_ERR0_width : Reg.DEV_UART_STATUS_ERR0.width = 8 := rfl
@[simp] theorem Reg.DEV_UART_STATUS_CFG_ERR1_key : Reg.DEV_UART_STATUS_CFG_ERR1.key = 32 * (0xA8) + 1 := id rfl
@[simp] theorem Reg.DEV_UART_STATUS_CFG_ERR1_width : Reg.DEV_UART_STATUS_CFG_ERR1.width = 1 := rfl
@[simp] theorem Reg.DEV_UART_STATUS_CFG_ERR0_key : Reg.DEV_UART_STATUS_CFG_ERR0.key = 32 * (0xA8) + 0 := id rfl
@[simp] theorem Reg.DEV_UART_STATUS_CFG_ERR0_width : Reg.DEV_UART_STATUS_CFG_ERR0.width = 1 := rfl
@[simp] theorem Reg.DEV_GPIO_CFG_IDLE_key : Reg.DEV_GPIO_CFG_IDLE.key = 32 * (0xB0) + 8 := id rfl
@[simp] theorem Reg.DEV_GPIO_CFG_IDLE_width : Reg.DEV_GPIO_CFG_IDLE.width = 8 := rfl
@[simp] theorem Reg.DEV_GPIO_CFG_OE_key : Reg.DEV_GPIO_CFG_OE.key = 32 * (0xB0) + 0 := id rfl
@[simp] theorem Reg.DEV_GPIO_CFG_OE_width : Reg.DEV_GPIO_CFG_OE.width = 8 := rfl
@[simp] theorem Reg.PWR_CMD_GO_key : Reg.PWR_CMD_GO.key = 32 * (0x1000) + 4 := id rfl
@[simp] theorem Reg.PWR_CMD_GO_width : Reg.PWR_CMD_GO.width = 1 := rfl
@[simp] theorem Reg.PWR_CMD_TARGET_key : Reg.PWR_CMD_TARGET.key = 32 * (0x1000) + 0 := id rfl
@[simp] theorem Reg.PWR_CMD_TARGET_width : Reg.PWR_CMD_TARGET.width = 2 := rfl
@[simp] theorem Reg.PWR_STATUS_SEQ_ERR_key : Reg.PWR_STATUS_SEQ_ERR.key = 32 * (0x1004) + 8 := id rfl
@[simp] theorem Reg.PWR_STATUS_SEQ_ERR_width : Reg.PWR_STATUS_SEQ_ERR.width = 1 := rfl
@[simp] theorem Reg.PWR_STATUS_REJ_REASON_key : Reg.PWR_STATUS_REJ_REASON.key = 32 * (0x1004) + 4 := id rfl
@[simp] theorem Reg.PWR_STATUS_REJ_REASON_width : Reg.PWR_STATUS_REJ_REASON.width = 4 := rfl
@[simp] theorem Reg.PWR_STATUS_BUSY_key : Reg.PWR_STATUS_BUSY.key = 32 * (0x1004) + 2 := id rfl
@[simp] theorem Reg.PWR_STATUS_BUSY_width : Reg.PWR_STATUS_BUSY.width = 1 := rfl
@[simp] theorem Reg.PWR_STATUS_STATE_key : Reg.PWR_STATUS_STATE.key = 32 * (0x1004) + 0 := id rfl
@[simp] theorem Reg.PWR_STATUS_STATE_width : Reg.PWR_STATUS_STATE.width = 2 := rfl
@[simp] theorem Reg.PWR_RAIL_STATUS_WARN_key : Reg.PWR_RAIL_STATUS_WARN.key = 32 * (0x1008) + 16 := id rfl
@[simp] theorem Reg.PWR_RAIL_STATUS_WARN_width : Reg.PWR_RAIL_STATUS_WARN.width = 9 := rfl
@[simp] theorem Reg.PWR_RAIL_STATUS_GOOD_key : Reg.PWR_RAIL_STATUS_GOOD.key = 32 * (0x1008) + 0 := id rfl
@[simp] theorem Reg.PWR_RAIL_STATUS_GOOD_width : Reg.PWR_RAIL_STATUS_GOOD.width = 9 := rfl
@[simp] theorem Reg.PWR_BROWN_COUNT_COUNT_key : Reg.PWR_BROWN_COUNT_COUNT.key = 32 * (0x100C) + 0 := id rfl
@[simp] theorem Reg.PWR_BROWN_COUNT_COUNT_width : Reg.PWR_BROWN_COUNT_COUNT.width = 32 := rfl
@[simp] theorem Reg.PWR_RAIL_LAST_RAIL_key : Reg.PWR_RAIL_LAST_RAIL.key = 32 * (0x1010) + 28 := id rfl
@[simp] theorem Reg.PWR_RAIL_LAST_RAIL_width : Reg.PWR_RAIL_LAST_RAIL.width = 4 := rfl
@[simp] theorem Reg.PWR_RAIL_LAST_US_key : Reg.PWR_RAIL_LAST_US.key = 32 * (0x1010) + 0 := id rfl
@[simp] theorem Reg.PWR_RAIL_LAST_US_width : Reg.PWR_RAIL_LAST_US.width = 24 := rfl
@[simp] theorem Reg.PWR_ISL_FAULT_FAULT_key : Reg.PWR_ISL_FAULT_FAULT.key = 32 * (0x1014) + 0 := id rfl
@[simp] theorem Reg.PWR_ISL_FAULT_FAULT_width : Reg.PWR_ISL_FAULT_FAULT.width = 32 := rfl
@[simp] theorem Reg.RST_CAUSE_RAIL_key : Reg.RST_CAUSE_RAIL.key = 32 * (0x2000) + 28 := id rfl
@[simp] theorem Reg.RST_CAUSE_RAIL_width : Reg.RST_CAUSE_RAIL.width = 4 := rfl
@[simp] theorem Reg.RST_CAUSE_ISLAND_LAST_key : Reg.RST_CAUSE_ISLAND_LAST.key = 32 * (0x2000) + 8 := id rfl
@[simp] theorem Reg.RST_CAUSE_ISLAND_LAST_width : Reg.RST_CAUSE_ISLAND_LAST.width = 8 := rfl
@[simp] theorem Reg.RST_CAUSE_BUSY_key : Reg.RST_CAUSE_BUSY.key = 32 * (0x2000) + 3 := id rfl
@[simp] theorem Reg.RST_CAUSE_BUSY_width : Reg.RST_CAUSE_BUSY.width = 1 := rfl
@[simp] theorem Reg.RST_CAUSE_KIND_key : Reg.RST_CAUSE_KIND.key = 32 * (0x2000) + 0 := id rfl
@[simp] theorem Reg.RST_CAUSE_KIND_width : Reg.RST_CAUSE_KIND.width = 3 := rfl
@[simp] theorem Reg.RST_CMD_ISLAND_key : Reg.RST_CMD_ISLAND.key = 32 * (0x2004) + 8 := id rfl
@[simp] theorem Reg.RST_CMD_ISLAND_width : Reg.RST_CMD_ISLAND.width = 5 := rfl
@[simp] theorem Reg.RST_CMD_ISLAND_GO_key : Reg.RST_CMD_ISLAND_GO.key = 32 * (0x2004) + 1 := id rfl
@[simp] theorem Reg.RST_CMD_ISLAND_GO_width : Reg.RST_CMD_ISLAND_GO.width = 1 := rfl
@[simp] theorem Reg.RST_CMD_SOFT_key : Reg.RST_CMD_SOFT.key = 32 * (0x2004) + 0 := id rfl
@[simp] theorem Reg.RST_CMD_SOFT_width : Reg.RST_CMD_SOFT.width = 1 := rfl
@[simp] theorem Reg.RST_WDOG_EN_key : Reg.RST_WDOG_EN.key = 32 * (0x2008) + 31 := id rfl
@[simp] theorem Reg.RST_WDOG_EN_width : Reg.RST_WDOG_EN.width = 1 := rfl
@[simp] theorem Reg.RST_WDOG_TIMEOUT_key : Reg.RST_WDOG_TIMEOUT.key = 32 * (0x2008) + 0 := id rfl
@[simp] theorem Reg.RST_WDOG_TIMEOUT_width : Reg.RST_WDOG_TIMEOUT.width = 16 := rfl
@[simp] theorem Reg.RST_WDOG_KICK_KICK_key : Reg.RST_WDOG_KICK_KICK.key = 32 * (0x200C) + 0 := id rfl
@[simp] theorem Reg.RST_WDOG_KICK_KICK_width : Reg.RST_WDOG_KICK_KICK.width = 1 := rfl
@[simp] theorem Reg.RST_COUNT_PIN_key : Reg.RST_COUNT_PIN.key = 32 * (0x2010) + 24 := id rfl
@[simp] theorem Reg.RST_COUNT_PIN_width : Reg.RST_COUNT_PIN.width = 8 := rfl
@[simp] theorem Reg.RST_COUNT_SOFT_key : Reg.RST_COUNT_SOFT.key = 32 * (0x2010) + 16 := id rfl
@[simp] theorem Reg.RST_COUNT_SOFT_width : Reg.RST_COUNT_SOFT.width = 8 := rfl
@[simp] theorem Reg.RST_COUNT_WDOG_key : Reg.RST_COUNT_WDOG.key = 32 * (0x2010) + 8 := id rfl
@[simp] theorem Reg.RST_COUNT_WDOG_width : Reg.RST_COUNT_WDOG.width = 8 := rfl
@[simp] theorem Reg.RST_COUNT_TWIN_key : Reg.RST_COUNT_TWIN.key = 32 * (0x2010) + 0 := id rfl
@[simp] theorem Reg.RST_COUNT_TWIN_width : Reg.RST_COUNT_TWIN.width = 8 := rfl
@[simp] theorem Reg.FLT_SRC_CFG_TARGET_key (i : Nat) : (Reg.FLT_SRC_CFG_TARGET i).key = 32 * (0x3000 + 0x4 * i) + 24 := id rfl
@[simp] theorem Reg.FLT_SRC_CFG_TARGET_width (i : Nat) : (Reg.FLT_SRC_CFG_TARGET i).width = 8 := rfl
@[simp] theorem Reg.FLT_SRC_CFG_SELF_key (i : Nat) : (Reg.FLT_SRC_CFG_SELF i).key = 32 * (0x3000 + 0x4 * i) + 23 := id rfl
@[simp] theorem Reg.FLT_SRC_CFG_SELF_width (i : Nat) : (Reg.FLT_SRC_CFG_SELF i).width = 1 := rfl
@[simp] theorem Reg.FLT_SRC_CFG_IRQ_EN_key (i : Nat) : (Reg.FLT_SRC_CFG_IRQ_EN i).key = 32 * (0x3000 + 0x4 * i) + 22 := id rfl
@[simp] theorem Reg.FLT_SRC_CFG_IRQ_EN_width (i : Nat) : (Reg.FLT_SRC_CFG_IRQ_EN i).width = 1 := rfl
@[simp] theorem Reg.FLT_SRC_CFG_RECESS_M_key (i : Nat) : (Reg.FLT_SRC_CFG_RECESS_M i).key = 32 * (0x3000 + 0x4 * i) + 16 := id rfl
@[simp] theorem Reg.FLT_SRC_CFG_RECESS_M_width (i : Nat) : (Reg.FLT_SRC_CFG_RECESS_M i).width = 6 := rfl
@[simp] theorem Reg.FLT_SRC_CFG_RECESS_E_key (i : Nat) : (Reg.FLT_SRC_CFG_RECESS_E i).key = 32 * (0x3000 + 0x4 * i) + 14 := id rfl
@[simp] theorem Reg.FLT_SRC_CFG_RECESS_E_width (i : Nat) : (Reg.FLT_SRC_CFG_RECESS_E i).width = 2 := rfl
@[simp] theorem Reg.FLT_SRC_CFG_GRACE_M_key (i : Nat) : (Reg.FLT_SRC_CFG_GRACE_M i).key = 32 * (0x3000 + 0x4 * i) + 9 := id rfl
@[simp] theorem Reg.FLT_SRC_CFG_GRACE_M_width (i : Nat) : (Reg.FLT_SRC_CFG_GRACE_M i).width = 5 := rfl
@[simp] theorem Reg.FLT_SRC_CFG_GRACE_E_key (i : Nat) : (Reg.FLT_SRC_CFG_GRACE_E i).key = 32 * (0x3000 + 0x4 * i) + 6 := id rfl
@[simp] theorem Reg.FLT_SRC_CFG_GRACE_E_width (i : Nat) : (Reg.FLT_SRC_CFG_GRACE_E i).width = 3 := rfl
@[simp] theorem Reg.FLT_SRC_CFG_ACTION_key (i : Nat) : (Reg.FLT_SRC_CFG_ACTION i).key = 32 * (0x3000 + 0x4 * i) + 3 := id rfl
@[simp] theorem Reg.FLT_SRC_CFG_ACTION_width (i : Nat) : (Reg.FLT_SRC_CFG_ACTION i).width = 3 := rfl
@[simp] theorem Reg.FLT_SRC_CFG_CLASS_key (i : Nat) : (Reg.FLT_SRC_CFG_CLASS i).key = 32 * (0x3000 + 0x4 * i) + 1 := id rfl
@[simp] theorem Reg.FLT_SRC_CFG_CLASS_width (i : Nat) : (Reg.FLT_SRC_CFG_CLASS i).width = 2 := rfl
@[simp] theorem Reg.FLT_SRC_STATUS_RECOVERIES_key (i : Nat) : (Reg.FLT_SRC_STATUS_RECOVERIES i).key = 32 * (0x3200 + 0x4 * i) + 16 := id rfl
@[simp] theorem Reg.FLT_SRC_STATUS_RECOVERIES_width (i : Nat) : (Reg.FLT_SRC_STATUS_RECOVERIES i).width = 16 := rfl
@[simp] theorem Reg.FLT_SRC_STATUS_RAISES_key (i : Nat) : (Reg.FLT_SRC_STATUS_RAISES i).key = 32 * (0x3200 + 0x4 * i) + 8 := id rfl
@[simp] theorem Reg.FLT_SRC_STATUS_RAISES_width (i : Nat) : (Reg.FLT_SRC_STATUS_RAISES i).width = 8 := rfl
@[simp] theorem Reg.FLT_SRC_STATUS_CFG_ERR_key (i : Nat) : (Reg.FLT_SRC_STATUS_CFG_ERR i).key = 32 * (0x3200 + 0x4 * i) + 7 := id rfl
@[simp] theorem Reg.FLT_SRC_STATUS_CFG_ERR_width (i : Nat) : (Reg.FLT_SRC_STATUS_CFG_ERR i).width = 1 := rfl
@[simp] theorem Reg.FLT_SRC_STATUS_SEEN_key (i : Nat) : (Reg.FLT_SRC_STATUS_SEEN i).key = 32 * (0x3200 + 0x4 * i) + 6 := id rfl
@[simp] theorem Reg.FLT_SRC_STATUS_SEEN_width (i : Nat) : (Reg.FLT_SRC_STATUS_SEEN i).width = 1 := rfl
@[simp] theorem Reg.FLT_SRC_STATUS_OWNED_key (i : Nat) : (Reg.FLT_SRC_STATUS_OWNED i).key = 32 * (0x3200 + 0x4 * i) + 5 := id rfl
@[simp] theorem Reg.FLT_SRC_STATUS_OWNED_width (i : Nat) : (Reg.FLT_SRC_STATUS_OWNED i).width = 1 := rfl
@[simp] theorem Reg.FLT_SRC_STATUS_ACTED_key (i : Nat) : (Reg.FLT_SRC_STATUS_ACTED i).key = 32 * (0x3200 + 0x4 * i) + 4 := id rfl
@[simp] theorem Reg.FLT_SRC_STATUS_ACTED_width (i : Nat) : (Reg.FLT_SRC_STATUS_ACTED i).width = 1 := rfl
@[simp] theorem Reg.FLT_SRC_STATUS_CAUSE_key (i : Nat) : (Reg.FLT_SRC_STATUS_CAUSE i).key = 32 * (0x3200 + 0x4 * i) + 3 := id rfl
@[simp] theorem Reg.FLT_SRC_STATUS_CAUSE_width (i : Nat) : (Reg.FLT_SRC_STATUS_CAUSE i).width = 1 := rfl
@[simp] theorem Reg.FLT_SRC_STATUS_STATE_key (i : Nat) : (Reg.FLT_SRC_STATUS_STATE i).key = 32 * (0x3200 + 0x4 * i) + 0 := id rfl
@[simp] theorem Reg.FLT_SRC_STATUS_STATE_width (i : Nat) : (Reg.FLT_SRC_STATUS_STATE i).width = 2 := rfl
@[simp] theorem Reg.FLT_SRC_DETAIL_INST_key (i : Nat) : (Reg.FLT_SRC_DETAIL_INST i).key = 32 * (0x3400 + 0x4 * i) + 24 := id rfl
@[simp] theorem Reg.FLT_SRC_DETAIL_INST_width (i : Nat) : (Reg.FLT_SRC_DETAIL_INST i).width = 8 := rfl
@[simp] theorem Reg.FLT_SRC_DETAIL_INFO_key (i : Nat) : (Reg.FLT_SRC_DETAIL_INFO i).key = 32 * (0x3400 + 0x4 * i) + 0 := id rfl
@[simp] theorem Reg.FLT_SRC_DETAIL_INFO_width (i : Nat) : (Reg.FLT_SRC_DETAIL_INFO i).width = 24 := rfl
@[simp] theorem Reg.FLT_CTRL_LOCK_key : Reg.FLT_CTRL_LOCK.key = 32 * (0x3600) + 0 := id rfl
@[simp] theorem Reg.FLT_CTRL_LOCK_width : Reg.FLT_CTRL_LOCK.width = 1 := rfl
@[simp] theorem Reg.FLT_ACK_LATE_key : Reg.FLT_ACK_LATE.key = 32 * (0x3604) + 10 := id rfl
@[simp] theorem Reg.FLT_ACK_LATE_width : Reg.FLT_ACK_LATE.width = 1 := rfl
@[simp] theorem Reg.FLT_ACK_REJ_key : Reg.FLT_ACK_REJ.key = 32 * (0x3604) + 9 := id rfl
@[simp] theorem Reg.FLT_ACK_REJ_width : Reg.FLT_ACK_REJ.width = 1 := rfl
@[simp] theorem Reg.FLT_ACK_key : Reg.FLT_ACK.key = 32 * (0x3604) + 8 := id rfl
@[simp] theorem Reg.FLT_ACK_width : Reg.FLT_ACK.width = 1 := rfl
@[simp] theorem Reg.FLT_ACK_SRC_key : Reg.FLT_ACK_SRC.key = 32 * (0x3604) + 0 := id rfl
@[simp] theorem Reg.FLT_ACK_SRC_width : Reg.FLT_ACK_SRC.width = 7 := rfl
@[simp] theorem Reg.FLT_SUMMARY_LIFE_DIRTY_key : Reg.FLT_SUMMARY_LIFE_DIRTY.key = 32 * (0x3608) + 3 := id rfl
@[simp] theorem Reg.FLT_SUMMARY_LIFE_DIRTY_width : Reg.FLT_SUMMARY_LIFE_DIRTY.width = 1 := rfl
@[simp] theorem Reg.FLT_SUMMARY_SAFE_key : Reg.FLT_SUMMARY_SAFE.key = 32 * (0x3608) + 2 := id rfl
@[simp] theorem Reg.FLT_SUMMARY_SAFE_width : Reg.FLT_SUMMARY_SAFE.width = 1 := rfl
@[simp] theorem Reg.FLT_SUMMARY_FAULT_key : Reg.FLT_SUMMARY_FAULT.key = 32 * (0x3608) + 1 := id rfl
@[simp] theorem Reg.FLT_SUMMARY_FAULT_width : Reg.FLT_SUMMARY_FAULT.width = 1 := rfl
@[simp] theorem Reg.FLT_SUMMARY_IRQ_key : Reg.FLT_SUMMARY_IRQ.key = 32 * (0x3608) + 0 := id rfl
@[simp] theorem Reg.FLT_SUMMARY_IRQ_width : Reg.FLT_SUMMARY_IRQ.width = 1 := rfl
@[simp] theorem Reg.FLT_ACTIVE_key (i : Nat) : (Reg.FLT_ACTIVE i).key = 32 * (0x3610 + 0x4 * i) + 0 := id rfl
@[simp] theorem Reg.FLT_ACTIVE_width (i : Nat) : (Reg.FLT_ACTIVE i).width = 32 := rfl
@[simp] theorem Reg.FLT_IRQ_REQ_key (i : Nat) : (Reg.FLT_IRQ_REQ i).key = 32 * (0x3620 + 0x4 * i) + 0 := id rfl
@[simp] theorem Reg.FLT_IRQ_REQ_width (i : Nat) : (Reg.FLT_IRQ_REQ i).width = 32 := rfl
@[simp] theorem Reg.FLT_TEMP_LIMIT_key : Reg.FLT_TEMP_LIMIT.key = 32 * (0x3630) + 0 := id rfl
@[simp] theorem Reg.FLT_TEMP_LIMIT_width : Reg.FLT_TEMP_LIMIT.width = 16 := rfl
@[simp] theorem Reg.FLT_LIFE_SEL_SRC_key : Reg.FLT_LIFE_SEL_SRC.key = 32 * (0x3634) + 0 := id rfl
@[simp] theorem Reg.FLT_LIFE_SEL_SRC_width : Reg.FLT_LIFE_SEL_SRC.width = 7 := rfl
@[simp] theorem Reg.FLT_LIFE_COUNT_key : Reg.FLT_LIFE_COUNT.key = 32 * (0x3638) + 0 := id rfl
@[simp] theorem Reg.FLT_LIFE_COUNT_width : Reg.FLT_LIFE_COUNT.width = 32 := rfl
@[simp] theorem Reg.FLT_CMD_LIFE_SAVE_key : Reg.FLT_CMD_LIFE_SAVE.key = 32 * (0x363C) + 0 := id rfl
@[simp] theorem Reg.FLT_CMD_LIFE_SAVE_width : Reg.FLT_CMD_LIFE_SAVE.width = 1 := rfl
@[simp] theorem Reg.HOST_CFG_LOCK_key : Reg.HOST_CFG_LOCK.key = 32 * (0x4000) + 16 := id rfl
@[simp] theorem Reg.HOST_CFG_LOCK_width : Reg.HOST_CFG_LOCK.width = 1 := rfl
@[simp] theorem Reg.HOST_CFG_SPI_WAIT_key : Reg.HOST_CFG_SPI_WAIT.key = 32 * (0x4000) + 0 := id rfl
@[simp] theorem Reg.HOST_CFG_SPI_WAIT_width : Reg.HOST_CFG_SPI_WAIT.width = 4 := rfl
@[simp] theorem Reg.HOST_STATUS_PCIE_LINK_key : Reg.HOST_STATUS_PCIE_LINK.key = 32 * (0x4004) + 7 := id rfl
@[simp] theorem Reg.HOST_STATUS_PCIE_LINK_width : Reg.HOST_STATUS_PCIE_LINK.width = 1 := rfl
@[simp] theorem Reg.HOST_STATUS_BME_key : Reg.HOST_STATUS_BME.key = 32 * (0x4004) + 6 := id rfl
@[simp] theorem Reg.HOST_STATUS_BME_width : Reg.HOST_STATUS_BME.width = 1 := rfl
@[simp] theorem Reg.HOST_STATUS_MSIX_EN_key : Reg.HOST_STATUS_MSIX_EN.key = 32 * (0x4004) + 5 := id rfl
@[simp] theorem Reg.HOST_STATUS_MSIX_EN_width : Reg.HOST_STATUS_MSIX_EN.width = 1 := rfl
@[simp] theorem Reg.HOST_STATUS_I2C_ADDR_key : Reg.HOST_STATUS_I2C_ADDR.key = 32 * (0x4004) + 0 := id rfl
@[simp] theorem Reg.HOST_STATUS_I2C_ADDR_width : Reg.HOST_STATUS_I2C_ADDR.width = 2 := rfl
@[simp] theorem Reg.HOST_SPI_STATUS_HOLD_DROP_key : Reg.HOST_SPI_STATUS_HOLD_DROP.key = 32 * (0x4008) + 16 := id rfl
@[simp] theorem Reg.HOST_SPI_STATUS_HOLD_DROP_width : Reg.HOST_SPI_STATUS_HOLD_DROP.width = 16 := rfl
@[simp] theorem Reg.HOST_SPI_STATUS_HOLD_VALID_key : Reg.HOST_SPI_STATUS_HOLD_VALID.key = 32 * (0x4008) + 8 := id rfl
@[simp] theorem Reg.HOST_SPI_STATUS_HOLD_VALID_width : Reg.HOST_SPI_STATUS_HOLD_VALID.width = 1 := rfl
@[simp] theorem Reg.HOST_SPI_STATUS_LAST_key : Reg.HOST_SPI_STATUS_LAST.key = 32 * (0x4008) + 0 := id rfl
@[simp] theorem Reg.HOST_SPI_STATUS_LAST_width : Reg.HOST_SPI_STATUS_LAST.width = 8 := rfl
@[simp] theorem Reg.HOST_SPI_HOLD_ADDR_key : Reg.HOST_SPI_HOLD_ADDR.key = 32 * (0x400C) + 0 := id rfl
@[simp] theorem Reg.HOST_SPI_HOLD_ADDR_width : Reg.HOST_SPI_HOLD_ADDR.width = 24 := rfl
@[simp] theorem Reg.HOST_I2C_STATUS_PARTIAL_key : Reg.HOST_I2C_STATUS_PARTIAL.key = 32 * (0x4010) + 16 := id rfl
@[simp] theorem Reg.HOST_I2C_STATUS_PARTIAL_width : Reg.HOST_I2C_STATUS_PARTIAL.width = 16 := rfl
@[simp] theorem Reg.HOST_I2C_STATUS_TIMEOUT_key : Reg.HOST_I2C_STATUS_TIMEOUT.key = 32 * (0x4010) + 0 := id rfl
@[simp] theorem Reg.HOST_I2C_STATUS_TIMEOUT_width : Reg.HOST_I2C_STATUS_TIMEOUT.width = 16 := rfl
@[simp] theorem Reg.HOST_PCIE_STATUS_PARTIAL_key : Reg.HOST_PCIE_STATUS_PARTIAL.key = 32 * (0x4014) + 16 := id rfl
@[simp] theorem Reg.HOST_PCIE_STATUS_PARTIAL_width : Reg.HOST_PCIE_STATUS_PARTIAL.width = 16 := rfl
@[simp] theorem Reg.HOST_PCIE_STATUS_WIDTH_key : Reg.HOST_PCIE_STATUS_WIDTH.key = 32 * (0x4014) + 8 := id rfl
@[simp] theorem Reg.HOST_PCIE_STATUS_WIDTH_width : Reg.HOST_PCIE_STATUS_WIDTH.width = 4 := rfl
@[simp] theorem Reg.HOST_PCIE_STATUS_SPEED_key : Reg.HOST_PCIE_STATUS_SPEED.key = 32 * (0x4014) + 4 := id rfl
@[simp] theorem Reg.HOST_PCIE_STATUS_SPEED_width : Reg.HOST_PCIE_STATUS_SPEED.width = 4 := rfl
@[simp] theorem Reg.HOST_PCIE_ID_DEVICE_key : Reg.HOST_PCIE_ID_DEVICE.key = 32 * (0x4018) + 16 := id rfl
@[simp] theorem Reg.HOST_PCIE_ID_DEVICE_width : Reg.HOST_PCIE_ID_DEVICE.width = 16 := rfl
@[simp] theorem Reg.HOST_PCIE_ID_VENDOR_key : Reg.HOST_PCIE_ID_VENDOR.key = 32 * (0x4018) + 0 := id rfl
@[simp] theorem Reg.HOST_PCIE_ID_VENDOR_width : Reg.HOST_PCIE_ID_VENDOR.width = 16 := rfl
@[simp] theorem Reg.HOST_PARITY_FOUND_key : Reg.HOST_PARITY_FOUND.key = 32 * (0x4020) + 16 := id rfl
@[simp] theorem Reg.HOST_PARITY_FOUND_width : Reg.HOST_PARITY_FOUND.width = 16 := rfl
@[simp] theorem Reg.HOST_PARITY_OVF_key : Reg.HOST_PARITY_OVF.key = 32 * (0x4020) + 5 := id rfl
@[simp] theorem Reg.HOST_PARITY_OVF_width : Reg.HOST_PARITY_OVF.width = 1 := rfl
@[simp] theorem Reg.HOST_PARITY_PENDING_key : Reg.HOST_PARITY_PENDING.key = 32 * (0x4020) + 0 := id rfl
@[simp] theorem Reg.HOST_PARITY_PENDING_width : Reg.HOST_PARITY_PENDING.width = 5 := rfl
@[simp] theorem Reg.HOST_PARITY_NEXT_ADDR_key : Reg.HOST_PARITY_NEXT_ADDR.key = 32 * (0x4024) + 0 := id rfl
@[simp] theorem Reg.HOST_PARITY_NEXT_ADDR_width : Reg.HOST_PARITY_NEXT_ADDR.width = 24 := rfl
@[simp] theorem Reg.HOST_LEG_STATUS_CORRECTED_key : Reg.HOST_LEG_STATUS_CORRECTED.key = 32 * (0x4028) + 16 := id rfl
@[simp] theorem Reg.HOST_LEG_STATUS_CORRECTED_width : Reg.HOST_LEG_STATUS_CORRECTED.width = 16 := rfl
@[simp] theorem Reg.HOST_LEG_STATUS_UNMAPPED_key : Reg.HOST_LEG_STATUS_UNMAPPED.key = 32 * (0x4028) + 0 := id rfl
@[simp] theorem Reg.HOST_LEG_STATUS_UNMAPPED_width : Reg.HOST_LEG_STATUS_UNMAPPED.width = 16 := rfl
@[simp] theorem Reg.HOST_SCRATCH_DATA_key (i : Nat) : (Reg.HOST_SCRATCH_DATA i).key = 32 * (0x4030 + 0x4 * i) + 0 := id rfl
@[simp] theorem Reg.HOST_SCRATCH_DATA_width (i : Nat) : (Reg.HOST_SCRATCH_DATA i).width = 32 := rfl
@[simp] theorem Reg.SEC_CTRL_LOCK_key : Reg.SEC_CTRL_LOCK.key = 32 * (0x5000) + 4 := id rfl
@[simp] theorem Reg.SEC_CTRL_LOCK_width : Reg.SEC_CTRL_LOCK.width = 1 := rfl
@[simp] theorem Reg.SEC_CTRL_SLOT_LOCK_B_key : Reg.SEC_CTRL_SLOT_LOCK_B.key = 32 * (0x5000) + 3 := id rfl
@[simp] theorem Reg.SEC_CTRL_SLOT_LOCK_B_width : Reg.SEC_CTRL_SLOT_LOCK_B.width = 1 := rfl
@[simp] theorem Reg.SEC_CTRL_SLOT_LOCK_A_key : Reg.SEC_CTRL_SLOT_LOCK_A.key = 32 * (0x5000) + 2 := id rfl
@[simp] theorem Reg.SEC_CTRL_SLOT_LOCK_A_width : Reg.SEC_CTRL_SLOT_LOCK_A.width = 1 := rfl
@[simp] theorem Reg.SEC_CTRL_FUSE_EN_key : Reg.SEC_CTRL_FUSE_EN.key = 32 * (0x5000) + 1 := id rfl
@[simp] theorem Reg.SEC_CTRL_FUSE_EN_width : Reg.SEC_CTRL_FUSE_EN.width = 1 := rfl
@[simp] theorem Reg.SEC_CTRL_PROV_EN_key : Reg.SEC_CTRL_PROV_EN.key = 32 * (0x5000) + 0 := id rfl
@[simp] theorem Reg.SEC_CTRL_PROV_EN_width : Reg.SEC_CTRL_PROV_EN.width = 1 := rfl
@[simp] theorem Reg.SEC_STATUS_DISABLED_key : Reg.SEC_STATUS_DISABLED.key = 32 * (0x5004) + 4 := id rfl
@[simp] theorem Reg.SEC_STATUS_DISABLED_width : Reg.SEC_STATUS_DISABLED.width = 1 := rfl
@[simp] theorem Reg.SEC_STATUS_TOKEN_REJ_key : Reg.SEC_STATUS_TOKEN_REJ.key = 32 * (0x5004) + 3 := id rfl
@[simp] theorem Reg.SEC_STATUS_TOKEN_REJ_width : Reg.SEC_STATUS_TOKEN_REJ.width = 1 := rfl
@[simp] theorem Reg.SEC_STATUS_ERASED_key : Reg.SEC_STATUS_ERASED.key = 32 * (0x5004) + 2 := id rfl
@[simp] theorem Reg.SEC_STATUS_ERASED_width : Reg.SEC_STATUS_ERASED.width = 1 := rfl
@[simp] theorem Reg.SEC_STATUS_GATE_key : Reg.SEC_STATUS_GATE.key = 32 * (0x5004) + 0 := id rfl
@[simp] theorem Reg.SEC_STATUS_GATE_width : Reg.SEC_STATUS_GATE.width = 2 := rfl
@[simp] theorem Reg.SEC_BOOT_ADV_ROLLBACK_key : Reg.SEC_BOOT_ADV_ROLLBACK.key = 32 * (0x5008) + 1 := id rfl
@[simp] theorem Reg.SEC_BOOT_ADV_ROLLBACK_width : Reg.SEC_BOOT_ADV_ROLLBACK.width = 1 := rfl
@[simp] theorem Reg.SEC_BOOT_FALLBACK_key : Reg.SEC_BOOT_FALLBACK.key = 32 * (0x5008) + 0 := id rfl
@[simp] theorem Reg.SEC_BOOT_FALLBACK_width : Reg.SEC_BOOT_FALLBACK.width = 1 := rfl
@[simp] theorem Reg.SEC_BOOT_STATUS_DETAIL_key : Reg.SEC_BOOT_STATUS_DETAIL.key = 32 * (0x500C) + 8 := id rfl
@[simp] theorem Reg.SEC_BOOT_STATUS_DETAIL_width : Reg.SEC_BOOT_STATUS_DETAIL.width = 4 := rfl
@[simp] theorem Reg.SEC_BOOT_STATUS_FIRST_RESULT_key : Reg.SEC_BOOT_STATUS_FIRST_RESULT.key = 32 * (0x500C) + 4 := id rfl
@[simp] theorem Reg.SEC_BOOT_STATUS_FIRST_RESULT_width : Reg.SEC_BOOT_STATUS_FIRST_RESULT.width = 4 := rfl
@[simp] theorem Reg.SEC_BOOT_STATUS_SLOT_USED_key : Reg.SEC_BOOT_STATUS_SLOT_USED.key = 32 * (0x500C) + 0 := id rfl
@[simp] theorem Reg.SEC_BOOT_STATUS_SLOT_USED_width : Reg.SEC_BOOT_STATUS_SLOT_USED.width = 1 := rfl
@[simp] theorem Reg.SEC_KEY_CMD_RESULT_key : Reg.SEC_KEY_CMD_RESULT.key = 32 * (0x5010) + 28 := id rfl
@[simp] theorem Reg.SEC_KEY_CMD_RESULT_width : Reg.SEC_KEY_CMD_RESULT.width = 4 := rfl
@[simp] theorem Reg.SEC_KEY_CMD_SLOT_key : Reg.SEC_KEY_CMD_SLOT.key = 32 * (0x5010) + 9 := id rfl
@[simp] theorem Reg.SEC_KEY_CMD_SLOT_width : Reg.SEC_KEY_CMD_SLOT.width = 6 := rfl
@[simp] theorem Reg.SEC_KEY_CMD_LEN_key : Reg.SEC_KEY_CMD_LEN.key = 32 * (0x5010) + 2 := id rfl
@[simp] theorem Reg.SEC_KEY_CMD_LEN_width : Reg.SEC_KEY_CMD_LEN.width = 7 := rfl
@[simp] theorem Reg.SEC_KEY_CMD_VOID_key : Reg.SEC_KEY_CMD_VOID.key = 32 * (0x5010) + 1 := id rfl
@[simp] theorem Reg.SEC_KEY_CMD_VOID_width : Reg.SEC_KEY_CMD_VOID.width = 1 := rfl
@[simp] theorem Reg.SEC_KEY_CMD_PROVISION_key : Reg.SEC_KEY_CMD_PROVISION.key = 32 * (0x5010) + 0 := id rfl
@[simp] theorem Reg.SEC_KEY_CMD_PROVISION_width : Reg.SEC_KEY_CMD_PROVISION.width = 1 := rfl
@[simp] theorem Reg.SEC_KEY_STATUS_FILLED_key (i : Nat) : (Reg.SEC_KEY_STATUS_FILLED i).key = 32 * (0x5014 + 0x4 * i) + 0 := id rfl
@[simp] theorem Reg.SEC_KEY_STATUS_FILLED_width (i : Nat) : (Reg.SEC_KEY_STATUS_FILLED i).width = 32 := rfl
@[simp] theorem Reg.SEC_FUSE_CMD_RESULT_key : Reg.SEC_FUSE_CMD_RESULT.key = 32 * (0x501C) + 5 := id rfl
@[simp] theorem Reg.SEC_FUSE_CMD_RESULT_width : Reg.SEC_FUSE_CMD_RESULT.width = 3 := rfl
@[simp] theorem Reg.SEC_FUSE_CMD_SEL_key : Reg.SEC_FUSE_CMD_SEL.key = 32 * (0x501C) + 1 := id rfl
@[simp] theorem Reg.SEC_FUSE_CMD_SEL_width : Reg.SEC_FUSE_CMD_SEL.width = 4 := rfl
@[simp] theorem Reg.SEC_FUSE_CMD_PROG_key : Reg.SEC_FUSE_CMD_PROG.key = 32 * (0x501C) + 0 := id rfl
@[simp] theorem Reg.SEC_FUSE_CMD_PROG_width : Reg.SEC_FUSE_CMD_PROG.width = 1 := rfl
@[simp] theorem Reg.SEC_UID_DATA_key (i : Nat) : (Reg.SEC_UID_DATA i).key = 32 * (0x5020 + 0x4 * i) + 0 := id rfl
@[simp] theorem Reg.SEC_UID_DATA_width (i : Nat) : (Reg.SEC_UID_DATA i).width = 32 := rfl
@[simp] theorem Reg.SEC_NONCE_DATA_key (i : Nat) : (Reg.SEC_NONCE_DATA i).key = 32 * (0x5030 + 0x4 * i) + 0 := id rfl
@[simp] theorem Reg.SEC_NONCE_DATA_width (i : Nat) : (Reg.SEC_NONCE_DATA i).width = 32 := rfl
@[simp] theorem Reg.SEC_KEY_DATA_DATA_key (i : Nat) : (Reg.SEC_KEY_DATA_DATA i).key = 32 * (0x5040 + 0x4 * i) + 0 := id rfl
@[simp] theorem Reg.SEC_KEY_DATA_DATA_width (i : Nat) : (Reg.SEC_KEY_DATA_DATA i).width = 32 := rfl
@[simp] theorem Reg.SEC_FUSE_DATA_DATA_key (i : Nat) : (Reg.SEC_FUSE_DATA_DATA i).key = 32 * (0x5080 + 0x4 * i) + 0 := id rfl
@[simp] theorem Reg.SEC_FUSE_DATA_DATA_width (i : Nat) : (Reg.SEC_FUSE_DATA_DATA i).width = 32 := rfl
@[simp] theorem Reg.SEC_TOKEN_DATA_key (i : Nat) : (Reg.SEC_TOKEN_DATA i).key = 32 * (0x50A0 + 0x4 * i) + 0 := id rfl
@[simp] theorem Reg.SEC_TOKEN_DATA_width (i : Nat) : (Reg.SEC_TOKEN_DATA i).width = 32 := rfl
@[simp] theorem Reg.SEC_DEBUG_OPEN_GO_key : Reg.SEC_DEBUG_OPEN_GO.key = 32 * (0x5150) + 0 := id rfl
@[simp] theorem Reg.SEC_DEBUG_OPEN_GO_width : Reg.SEC_DEBUG_OPEN_GO.width = 1 := rfl
@[simp] theorem Reg.JNL_STATUS_WORN_key : Reg.JNL_STATUS_WORN.key = 32 * (0x6000) + 5 := id rfl
@[simp] theorem Reg.JNL_STATUS_WORN_width : Reg.JNL_STATUS_WORN.width = 1 := rfl
@[simp] theorem Reg.JNL_STATUS_DEFERRING_key : Reg.JNL_STATUS_DEFERRING.key = 32 * (0x6000) + 4 := id rfl
@[simp] theorem Reg.JNL_STATUS_DEFERRING_width : Reg.JNL_STATUS_DEFERRING.width = 1 := rfl
@[simp] theorem Reg.JNL_STATUS_COMPACTING_key : Reg.JNL_STATUS_COMPACTING.key = 32 * (0x6000) + 3 := id rfl
@[simp] theorem Reg.JNL_STATUS_COMPACTING_width : Reg.JNL_STATUS_COMPACTING.width = 1 := rfl
@[simp] theorem Reg.JNL_STATUS_COMPACT_DUE_key : Reg.JNL_STATUS_COMPACT_DUE.key = 32 * (0x6000) + 2 := id rfl
@[simp] theorem Reg.JNL_STATUS_COMPACT_DUE_width : Reg.JNL_STATUS_COMPACT_DUE.width = 1 := rfl
@[simp] theorem Reg.JNL_STATUS_EMPTY_key : Reg.JNL_STATUS_EMPTY.key = 32 * (0x6000) + 1 := id rfl
@[simp] theorem Reg.JNL_STATUS_EMPTY_width : Reg.JNL_STATUS_EMPTY.width = 1 := rfl
@[simp] theorem Reg.JNL_STATUS_ACTIVE_HALF_key : Reg.JNL_STATUS_ACTIVE_HALF.key = 32 * (0x6000) + 0 := id rfl
@[simp] theorem Reg.JNL_STATUS_ACTIVE_HALF_width : Reg.JNL_STATUS_ACTIVE_HALF.width = 1 := rfl
@[simp] theorem Reg.JNL_CMD_COMPACT_key : Reg.JNL_CMD_COMPACT.key = 32 * (0x6004) + 2 := id rfl
@[simp] theorem Reg.JNL_CMD_COMPACT_width : Reg.JNL_CMD_COMPACT.width = 1 := rfl
@[simp] theorem Reg.JNL_CMD_FIND_key : Reg.JNL_CMD_FIND.key = 32 * (0x6004) + 1 := id rfl
@[simp] theorem Reg.JNL_CMD_FIND_width : Reg.JNL_CMD_FIND.width = 1 := rfl
@[simp] theorem Reg.JNL_CMD_APPEND_key : Reg.JNL_CMD_APPEND.key = 32 * (0x6004) + 0 := id rfl
@[simp] theorem Reg.JNL_CMD_APPEND_width : Reg.JNL_CMD_APPEND.width = 1 := rfl
@[simp] theorem Reg.JNL_FIND_TYPE_key : Reg.JNL_FIND_TYPE.key = 32 * (0x6008) + 24 := id rfl
@[simp] theorem Reg.JNL_FIND_TYPE_width : Reg.JNL_FIND_TYPE.width = 8 := rfl
@[simp] theorem Reg.JNL_FIND_KEY_key : Reg.JNL_FIND_KEY.key = 32 * (0x6008) + 16 := id rfl
@[simp] theorem Reg.JNL_FIND_KEY_width : Reg.JNL_FIND_KEY.width = 8 := rfl
@[simp] theorem Reg.JNL_FIND_LEN_key : Reg.JNL_FIND_LEN.key = 32 * (0x6008) + 0 := id rfl
@[simp] theorem Reg.JNL_FIND_LEN_width : Reg.JNL_FIND_LEN.width = 9 := rfl
@[simp] theorem Reg.JNL_RESULT_key : Reg.JNL_RESULT.key = 32 * (0x600C) + 24 := id rfl
@[simp] theorem Reg.JNL_RESULT_width : Reg.JNL_RESULT.width = 8 := rfl
@[simp] theorem Reg.JNL_RESULT_LEN_key : Reg.JNL_RESULT_LEN.key = 32 * (0x600C) + 0 := id rfl
@[simp] theorem Reg.JNL_RESULT_LEN_width : Reg.JNL_RESULT_LEN.width = 13 := rfl
@[simp] theorem Reg.JNL_NOR_ADDR_ADDR_key : Reg.JNL_NOR_ADDR_ADDR.key = 32 * (0x6010) + 0 := id rfl
@[simp] theorem Reg.JNL_NOR_ADDR_ADDR_width : Reg.JNL_NOR_ADDR_ADDR.width = 24 := rfl
@[simp] theorem Reg.JNL_NOR_CMD_ERASE_key : Reg.JNL_NOR_CMD_ERASE.key = 32 * (0x6014) + 2 := id rfl
@[simp] theorem Reg.JNL_NOR_CMD_ERASE_width : Reg.JNL_NOR_CMD_ERASE.width = 1 := rfl
@[simp] theorem Reg.JNL_NOR_CMD_PROGRAM_key : Reg.JNL_NOR_CMD_PROGRAM.key = 32 * (0x6014) + 1 := id rfl
@[simp] theorem Reg.JNL_NOR_CMD_PROGRAM_width : Reg.JNL_NOR_CMD_PROGRAM.width = 1 := rfl
@[simp] theorem Reg.JNL_NOR_CMD_READ_key : Reg.JNL_NOR_CMD_READ.key = 32 * (0x6014) + 0 := id rfl
@[simp] theorem Reg.JNL_NOR_CMD_READ_width : Reg.JNL_NOR_CMD_READ.width = 1 := rfl
@[simp] theorem Reg.JNL_NOR_STATUS_RESULT_key : Reg.JNL_NOR_STATUS_RESULT.key = 32 * (0x6018) + 0 := id rfl
@[simp] theorem Reg.JNL_NOR_STATUS_RESULT_width : Reg.JNL_NOR_STATUS_RESULT.width = 4 := rfl
@[simp] theorem Reg.JNL_USED_BYTES_key : Reg.JNL_USED_BYTES.key = 32 * (0x601C) + 0 := id rfl
@[simp] theorem Reg.JNL_USED_BYTES_width : Reg.JNL_USED_BYTES.width = 32 := rfl
@[simp] theorem Reg.JNL_COUNTS_COMPACTIONS_key : Reg.JNL_COUNTS_COMPACTIONS.key = 32 * (0x6020) + 16 := id rfl
@[simp] theorem Reg.JNL_COUNTS_COMPACTIONS_width : Reg.JNL_COUNTS_COMPACTIONS.width = 16 := rfl
@[simp] theorem Reg.JNL_COUNTS_FAILS_key : Reg.JNL_COUNTS_FAILS.key = 32 * (0x6020) + 0 := id rfl
@[simp] theorem Reg.JNL_COUNTS_FAILS_width : Reg.JNL_COUNTS_FAILS.width = 16 := rfl
@[simp] theorem Reg.JNL_BUF_DATA_key (i : Nat) : (Reg.JNL_BUF_DATA i).key = 32 * (0x6100 + 0x4 * i) + 0 := id rfl
@[simp] theorem Reg.JNL_BUF_DATA_width (i : Nat) : (Reg.JNL_BUF_DATA i).width = 32 := rfl
@[simp] theorem Reg.ENG_CTRL_STEP_key (n : Nat) : (Reg.ENG_CTRL_STEP n).key = 32 * (0x7000 + 0x80 * n) + 2 := id rfl
@[simp] theorem Reg.ENG_CTRL_STEP_width (n : Nat) : (Reg.ENG_CTRL_STEP n).width = 1 := rfl
@[simp] theorem Reg.ENG_CTRL_HALT_key (n : Nat) : (Reg.ENG_CTRL_HALT n).key = 32 * (0x7000 + 0x80 * n) + 1 := id rfl
@[simp] theorem Reg.ENG_CTRL_HALT_width (n : Nat) : (Reg.ENG_CTRL_HALT n).width = 1 := rfl
@[simp] theorem Reg.ENG_CTRL_ENABLE_key (n : Nat) : (Reg.ENG_CTRL_ENABLE n).key = 32 * (0x7000 + 0x80 * n) + 0 := id rfl
@[simp] theorem Reg.ENG_CTRL_ENABLE_width (n : Nat) : (Reg.ENG_CTRL_ENABLE n).width = 1 := rfl
@[simp] theorem Reg.ENG_STATUS_TRAP_COUNT_key (n : Nat) : (Reg.ENG_STATUS_TRAP_COUNT n).key = 32 * (0x7004 + 0x80 * n) + 24 := id rfl
@[simp] theorem Reg.ENG_STATUS_TRAP_COUNT_width (n : Nat) : (Reg.ENG_STATUS_TRAP_COUNT n).width = 8 := rfl
@[simp] theorem Reg.ENG_STATUS_HOLD_key (n : Nat) : (Reg.ENG_STATUS_HOLD n).key = 32 * (0x7004 + 0x80 * n) + 7 := id rfl
@[simp] theorem Reg.ENG_STATUS_HOLD_width (n : Nat) : (Reg.ENG_STATUS_HOLD n).width = 1 := rfl
@[simp] theorem Reg.ENG_STATUS_SUBSTITUTED_key (n : Nat) : (Reg.ENG_STATUS_SUBSTITUTED n).key = 32 * (0x7004 + 0x80 * n) + 6 := id rfl
@[simp] theorem Reg.ENG_STATUS_SUBSTITUTED_width (n : Nat) : (Reg.ENG_STATUS_SUBSTITUTED n).width = 1 := rfl
@[simp] theorem Reg.ENG_STATUS_HALTED_key (n : Nat) : (Reg.ENG_STATUS_HALTED n).key = 32 * (0x7004 + 0x80 * n) + 5 := id rfl
@[simp] theorem Reg.ENG_STATUS_HALTED_width (n : Nat) : (Reg.ENG_STATUS_HALTED n).width = 1 := rfl
@[simp] theorem Reg.ENG_STATUS_RUNNING_key (n : Nat) : (Reg.ENG_STATUS_RUNNING n).key = 32 * (0x7004 + 0x80 * n) + 4 := id rfl
@[simp] theorem Reg.ENG_STATUS_RUNNING_width (n : Nat) : (Reg.ENG_STATUS_RUNNING n).width = 1 := rfl
@[simp] theorem Reg.ENG_TRAP_CAUSE_key (n : Nat) : (Reg.ENG_TRAP_CAUSE n).key = 32 * (0x7008 + 0x80 * n) + 28 := id rfl
@[simp] theorem Reg.ENG_TRAP_CAUSE_width (n : Nat) : (Reg.ENG_TRAP_CAUSE n).width = 4 := rfl
@[simp] theorem Reg.ENG_TRAP_CODE_key (n : Nat) : (Reg.ENG_TRAP_CODE n).key = 32 * (0x7008 + 0x80 * n) + 20 := id rfl
@[simp] theorem Reg.ENG_TRAP_CODE_width (n : Nat) : (Reg.ENG_TRAP_CODE n).width = 8 := rfl
@[simp] theorem Reg.ENG_TRAP_PC_key (n : Nat) : (Reg.ENG_TRAP_PC n).key = 32 * (0x7008 + 0x80 * n) + 0 := id rfl
@[simp] theorem Reg.ENG_TRAP_PC_width (n : Nat) : (Reg.ENG_TRAP_PC n).width = 13 := rfl
@[simp] theorem Reg.ENG_ECC_CORR_I_key (n : Nat) : (Reg.ENG_ECC_CORR_I n).key = 32 * (0x700C + 0x80 * n) + 24 := id rfl
@[simp] theorem Reg.ENG_ECC_CORR_I_width (n : Nat) : (Reg.ENG_ECC_CORR_I n).width = 8 := rfl
@[simp] theorem Reg.ENG_ECC_CORR_D_key (n : Nat) : (Reg.ENG_ECC_CORR_D n).key = 32 * (0x700C + 0x80 * n) + 16 := id rfl
@[simp] theorem Reg.ENG_ECC_CORR_D_width (n : Nat) : (Reg.ENG_ECC_CORR_D n).width = 8 := rfl
@[simp] theorem Reg.ENG_ECC_UNC_I_key (n : Nat) : (Reg.ENG_ECC_UNC_I n).key = 32 * (0x700C + 0x80 * n) + 15 := id rfl
@[simp] theorem Reg.ENG_ECC_UNC_I_width (n : Nat) : (Reg.ENG_ECC_UNC_I n).width = 1 := rfl
@[simp] theorem Reg.ENG_ECC_UNC_D_key (n : Nat) : (Reg.ENG_ECC_UNC_D n).key = 32 * (0x700C + 0x80 * n) + 14 := id rfl
@[simp] theorem Reg.ENG_ECC_UNC_D_width (n : Nat) : (Reg.ENG_ECC_UNC_D n).width = 1 := rfl
@[simp] theorem Reg.ENG_ECC_ADDR_key (n : Nat) : (Reg.ENG_ECC_ADDR n).key = 32 * (0x700C + 0x80 * n) + 0 := id rfl
@[simp] theorem Reg.ENG_ECC_ADDR_width (n : Nat) : (Reg.ENG_ECC_ADDR n).width = 13 := rfl
@[simp] theorem Reg.ENG_BUSY_LAST_CYCLES_key (n : Nat) : (Reg.ENG_BUSY_LAST_CYCLES n).key = 32 * (0x7010 + 0x80 * n) + 0 := id rfl
@[simp] theorem Reg.ENG_BUSY_LAST_CYCLES_width (n : Nat) : (Reg.ENG_BUSY_LAST_CYCLES n).width = 32 := rfl
@[simp] theorem Reg.ENG_BUSY_MAX_CYCLES_key (n : Nat) : (Reg.ENG_BUSY_MAX_CYCLES n).key = 32 * (0x7014 + 0x80 * n) + 0 := id rfl
@[simp] theorem Reg.ENG_BUSY_MAX_CYCLES_width (n : Nat) : (Reg.ENG_BUSY_MAX_CYCLES n).width = 32 := rfl
@[simp] theorem Reg.ENG_LESSON_ACTIVE_key (n : Nat) : (Reg.ENG_LESSON_ACTIVE n).key = 32 * (0x7018 + 0x80 * n) + 6 := id rfl
@[simp] theorem Reg.ENG_LESSON_ACTIVE_width (n : Nat) : (Reg.ENG_LESSON_ACTIVE n).width = 1 := rfl
@[simp] theorem Reg.ENG_LESSON_INDEX_key (n : Nat) : (Reg.ENG_LESSON_INDEX n).key = 32 * (0x7018 + 0x80 * n) + 0 := id rfl
@[simp] theorem Reg.ENG_LESSON_INDEX_width (n : Nat) : (Reg.ENG_LESSON_INDEX n).width = 6 := rfl
@[simp] theorem Reg.ENG_HIN_LO_DATA_key (n i : Nat) : (Reg.ENG_HIN_LO_DATA n i).key = 32 * (0x7020 + 0x80 * n + 0x8 * i) + 0 := id rfl
@[simp] theorem Reg.ENG_HIN_LO_DATA_width (n i : Nat) : (Reg.ENG_HIN_LO_DATA n i).width = 32 := rfl
@[simp] theorem Reg.ENG_HIN_HI_DATA_key (n i : Nat) : (Reg.ENG_HIN_HI_DATA n i).key = 32 * (0x7024 + 0x80 * n + 0x8 * i) + 0 := id rfl
@[simp] theorem Reg.ENG_HIN_HI_DATA_width (n i : Nat) : (Reg.ENG_HIN_HI_DATA n i).width = 32 := rfl
@[simp] theorem Reg.ENG_HOUT_LO_DATA_key (n i : Nat) : (Reg.ENG_HOUT_LO_DATA n i).key = 32 * (0x7040 + 0x80 * n + 0x8 * i) + 0 := id rfl
@[simp] theorem Reg.ENG_HOUT_LO_DATA_width (n i : Nat) : (Reg.ENG_HOUT_LO_DATA n i).width = 32 := rfl
@[simp] theorem Reg.ENG_HOUT_HI_DATA_key (n i : Nat) : (Reg.ENG_HOUT_HI_DATA n i).key = 32 * (0x7044 + 0x80 * n + 0x8 * i) + 0 := id rfl
@[simp] theorem Reg.ENG_HOUT_HI_DATA_width (n i : Nat) : (Reg.ENG_HOUT_HI_DATA n i).width = 32 := rfl
@[simp] theorem Reg.ENG_TT_INDEX_WORST_RES_key (n : Nat) : (Reg.ENG_TT_INDEX_WORST_RES n).key = 32 * (0x7060 + 0x80 * n) + 16 := id rfl
@[simp] theorem Reg.ENG_TT_INDEX_WORST_RES_width (n : Nat) : (Reg.ENG_TT_INDEX_WORST_RES n).width = 10 := rfl
@[simp] theorem Reg.ENG_TT_INDEX_INDEX_key (n : Nat) : (Reg.ENG_TT_INDEX_INDEX n).key = 32 * (0x7060 + 0x80 * n) + 0 := id rfl
@[simp] theorem Reg.ENG_TT_INDEX_INDEX_width (n : Nat) : (Reg.ENG_TT_INDEX_INDEX n).width = 6 := rfl
@[simp] theorem Reg.ENG_TT_ENTRY_VALID_key (n : Nat) : (Reg.ENG_TT_ENTRY_VALID n).key = 32 * (0x7064 + 0x80 * n) + 31 := id rfl
@[simp] theorem Reg.ENG_TT_ENTRY_VALID_width (n : Nat) : (Reg.ENG_TT_ENTRY_VALID n).width = 1 := rfl
@[simp] theorem Reg.ENG_TT_ENTRY_RESUME_key (n : Nat) : (Reg.ENG_TT_ENTRY_RESUME n).key = 32 * (0x7064 + 0x80 * n) + 30 := id rfl
@[simp] theorem Reg.ENG_TT_ENTRY_RESUME_width (n : Nat) : (Reg.ENG_TT_ENTRY_RESUME n).width = 1 := rfl
@[simp] theorem Reg.ENG_TT_ENTRY_K_key (n : Nat) : (Reg.ENG_TT_ENTRY_K n).key = 32 * (0x7064 + 0x80 * n) + 26 := id rfl
@[simp] theorem Reg.ENG_TT_ENTRY_K_width (n : Nat) : (Reg.ENG_TT_ENTRY_K n).width = 4 := rfl
@[simp] theorem Reg.ENG_TT_ENTRY_PHASE_key (n : Nat) : (Reg.ENG_TT_ENTRY_PHASE n).key = 32 * (0x7064 + 0x80 * n) + 16 := id rfl
@[simp] theorem Reg.ENG_TT_ENTRY_PHASE_width (n : Nat) : (Reg.ENG_TT_ENTRY_PHASE n).width = 10 := rfl
@[simp] theorem Reg.ENG_TT_ENTRY_ENTRY_PC_key (n : Nat) : (Reg.ENG_TT_ENTRY_ENTRY_PC n).key = 32 * (0x7064 + 0x80 * n) + 0 := id rfl
@[simp] theorem Reg.ENG_TT_ENTRY_ENTRY_PC_width (n : Nat) : (Reg.ENG_TT_ENTRY_ENTRY_PC n).width = 13 := rfl
@[simp] theorem Reg.ENG_TT_WCET_WCET_key (n : Nat) : (Reg.ENG_TT_WCET_WCET n).key = 32 * (0x7068 + 0x80 * n) + 0 := id rfl
@[simp] theorem Reg.ENG_TT_WCET_WCET_width (n : Nat) : (Reg.ENG_TT_WCET_WCET n).width = 32 := rfl
@[simp] theorem Reg.ENG_TT_SUM_WORST_key (n : Nat) : (Reg.ENG_TT_SUM_WORST n).key = 32 * (0x706C + 0x80 * n) + 0 := id rfl
@[simp] theorem Reg.ENG_TT_SUM_WORST_width (n : Nat) : (Reg.ENG_TT_SUM_WORST n).width = 32 := rfl
@[simp] theorem Reg.ENG_PROC_CFG_SUBST_EN_key (n : Nat) : (Reg.ENG_PROC_CFG_SUBST_EN n).key = 32 * (0x7070 + 0x80 * n) + 4 := id rfl
@[simp] theorem Reg.ENG_PROC_CFG_SUBST_EN_width (n : Nat) : (Reg.ENG_PROC_CFG_SUBST_EN n).width = 1 := rfl
@[simp] theorem Reg.ENG_PROC_CFG_STRIKE_WIN_key (n : Nat) : (Reg.ENG_PROC_CFG_STRIKE_WIN n).key = 32 * (0x7070 + 0x80 * n) + 0 := id rfl
@[simp] theorem Reg.ENG_PROC_CFG_STRIKE_WIN_width (n : Nat) : (Reg.ENG_PROC_CFG_STRIKE_WIN n).width = 4 := rfl
@[simp] theorem Reg.ENG_PROC_STATUS_OVR_COUNT_key (n : Nat) : (Reg.ENG_PROC_STATUS_OVR_COUNT n).key = 32 * (0x7074 + 0x80 * n) + 16 := id rfl
@[simp] theorem Reg.ENG_PROC_STATUS_OVR_COUNT_width (n : Nat) : (Reg.ENG_PROC_STATUS_OVR_COUNT n).width = 16 := rfl
@[simp] theorem Reg.ENG_PROC_STATUS_LAST_INDEX_key (n : Nat) : (Reg.ENG_PROC_STATUS_LAST_INDEX n).key = 32 * (0x7074 + 0x80 * n) + 4 := id rfl
@[simp] theorem Reg.ENG_PROC_STATUS_LAST_INDEX_width (n : Nat) : (Reg.ENG_PROC_STATUS_LAST_INDEX n).width = 6 := rfl
@[simp] theorem Reg.ENG_PROC_STATUS_LAST_CAUSE_key (n : Nat) : (Reg.ENG_PROC_STATUS_LAST_CAUSE n).key = 32 * (0x7074 + 0x80 * n) + 2 := id rfl
@[simp] theorem Reg.ENG_PROC_STATUS_LAST_CAUSE_width (n : Nat) : (Reg.ENG_PROC_STATUS_LAST_CAUSE n).width = 2 := rfl
@[simp] theorem Reg.ENG_PROC_STATUS_STRIKES_key (n : Nat) : (Reg.ENG_PROC_STATUS_STRIKES n).key = 32 * (0x7074 + 0x80 * n) + 0 := id rfl
@[simp] theorem Reg.ENG_PROC_STATUS_STRIKES_width (n : Nat) : (Reg.ENG_PROC_STATUS_STRIKES n).width = 2 := rfl
@[simp] theorem Reg.ENG_SUBST_BUSY_key (n : Nat) : (Reg.ENG_SUBST_BUSY n).key = 32 * (0x7078 + 0x80 * n) + 20 := id rfl
@[simp] theorem Reg.ENG_SUBST_BUSY_width (n : Nat) : (Reg.ENG_SUBST_BUSY n).width = 1 := rfl
@[simp] theorem Reg.ENG_SUBST_REASON_key (n : Nat) : (Reg.ENG_SUBST_REASON n).key = 32 * (0x7078 + 0x80 * n) + 16 := id rfl
@[simp] theorem Reg.ENG_SUBST_REASON_width (n : Nat) : (Reg.ENG_SUBST_REASON n).width = 3 := rfl
@[simp] theorem Reg.ENG_SUBST_SERVING_key (n : Nat) : (Reg.ENG_SUBST_SERVING n).key = 32 * (0x7078 + 0x80 * n) + 8 := id rfl
@[simp] theorem Reg.ENG_SUBST_SERVING_width (n : Nat) : (Reg.ENG_SUBST_SERVING n).width = 5 := rfl
@[simp] theorem Reg.ENG_SUBST_TARGET_key (n : Nat) : (Reg.ENG_SUBST_TARGET n).key = 32 * (0x7078 + 0x80 * n) + 4 := id rfl
@[simp] theorem Reg.ENG_SUBST_TARGET_width (n : Nat) : (Reg.ENG_SUBST_TARGET n).width = 4 := rfl
@[simp] theorem Reg.ENG_SUBST_RETURN_key (n : Nat) : (Reg.ENG_SUBST_RETURN n).key = 32 * (0x7078 + 0x80 * n) + 1 := id rfl
@[simp] theorem Reg.ENG_SUBST_RETURN_width (n : Nat) : (Reg.ENG_SUBST_RETURN n).width = 1 := rfl
@[simp] theorem Reg.ENG_SUBST_FORCE_key (n : Nat) : (Reg.ENG_SUBST_FORCE n).key = 32 * (0x7078 + 0x80 * n) + 0 := id rfl
@[simp] theorem Reg.ENG_SUBST_FORCE_width (n : Nat) : (Reg.ENG_SUBST_FORCE n).width = 1 := rfl
@[simp] theorem Reg.ENG_SUBST_TIME_TICKS_key (n : Nat) : (Reg.ENG_SUBST_TIME_TICKS n).key = 32 * (0x707C + 0x80 * n) + 0 := id rfl
@[simp] theorem Reg.ENG_SUBST_TIME_TICKS_width (n : Nat) : (Reg.ENG_SUBST_TIME_TICKS n).width = 16 := rfl
@[simp] theorem Reg.IX_A_ADDR_key (n : Nat) : (Reg.IX_A_ADDR n).key = 32 * (0x8000 + 0x10 * n) + 2 := id rfl
@[simp] theorem Reg.IX_A_ADDR_width (n : Nat) : (Reg.IX_A_ADDR n).width = 16 := rfl
@[simp] theorem Reg.IX_D_DATA_key (n : Nat) : (Reg.IX_D_DATA n).key = 32 * (0x8004 + 0x10 * n) + 0 := id rfl
@[simp] theorem Reg.IX_D_DATA_width (n : Nat) : (Reg.IX_D_DATA n).width = 32 := rfl
@[simp] theorem Reg.IX_C_AUTO_INC_key (n : Nat) : (Reg.IX_C_AUTO_INC n).key = 32 * (0x8008 + 0x10 * n) + 0 := id rfl
@[simp] theorem Reg.IX_C_AUTO_INC_width (n : Nat) : (Reg.IX_C_AUTO_INC n).width = 1 := rfl
@[simp] theorem Reg.IX_S_ADDR_ERR_key (n : Nat) : (Reg.IX_S_ADDR_ERR n).key = 32 * (0x800C + 0x10 * n) + 2 := id rfl
@[simp] theorem Reg.IX_S_ADDR_ERR_width (n : Nat) : (Reg.IX_S_ADDR_ERR n).width = 1 := rfl
@[simp] theorem Reg.IX_S_UNREACH_key (n : Nat) : (Reg.IX_S_UNREACH n).key = 32 * (0x800C + 0x10 * n) + 1 := id rfl
@[simp] theorem Reg.IX_S_UNREACH_width (n : Nat) : (Reg.IX_S_UNREACH n).width = 1 := rfl
@[simp] theorem Reg.IX_S_BUSY_key (n : Nat) : (Reg.IX_S_BUSY n).key = 32 * (0x800C + 0x10 * n) + 0 := id rfl
@[simp] theorem Reg.IX_S_BUSY_width (n : Nat) : (Reg.IX_S_BUSY n).width = 1 := rfl
@[simp] theorem Reg.SLOT_CFG_PATH_key (n : Nat) : (Reg.SLOT_CFG_PATH n).key = 32 * (0x10000 + 0x100 * n) + 29 := id rfl
@[simp] theorem Reg.SLOT_CFG_PATH_width (n : Nat) : (Reg.SLOT_CFG_PATH n).width = 3 := rfl
@[simp] theorem Reg.SLOT_CFG_PPS_key (n : Nat) : (Reg.SLOT_CFG_PPS n).key = 32 * (0x10000 + 0x100 * n) + 28 := id rfl
@[simp] theorem Reg.SLOT_CFG_PPS_width (n : Nat) : (Reg.SLOT_CFG_PPS n).width = 1 := rfl
@[simp] theorem Reg.SLOT_CFG_POL_key (n : Nat) : (Reg.SLOT_CFG_POL n).key = 32 * (0x10000 + 0x100 * n) + 27 := id rfl
@[simp] theorem Reg.SLOT_CFG_POL_width (n : Nat) : (Reg.SLOT_CFG_POL n).width = 1 := rfl
@[simp] theorem Reg.SLOT_CFG_TERM_key (n : Nat) : (Reg.SLOT_CFG_TERM n).key = 32 * (0x10000 + 0x100 * n) + 25 := id rfl
@[simp] theorem Reg.SLOT_CFG_TERM_width (n : Nat) : (Reg.SLOT_CFG_TERM n).width = 2 := rfl
@[simp] theorem Reg.SLOT_CFG_HYST_key (n : Nat) : (Reg.SLOT_CFG_HYST n).key = 32 * (0x10000 + 0x100 * n) + 24 := id rfl
@[simp] theorem Reg.SLOT_CFG_HYST_width (n : Nat) : (Reg.SLOT_CFG_HYST n).width = 1 := rfl
@[simp] theorem Reg.SLOT_CFG_INPUT_key (n : Nat) : (Reg.SLOT_CFG_INPUT n).key = 32 * (0x10000 + 0x100 * n) + 22 := id rfl
@[simp] theorem Reg.SLOT_CFG_INPUT_width (n : Nat) : (Reg.SLOT_CFG_INPUT n).width = 2 := rfl
@[simp] theorem Reg.SLOT_CFG_IRIG_key (n : Nat) : (Reg.SLOT_CFG_IRIG n).key = 32 * (0x10000 + 0x100 * n) + 21 := id rfl
@[simp] theorem Reg.SLOT_CFG_IRIG_width (n : Nat) : (Reg.SLOT_CFG_IRIG n).width = 1 := rfl
@[simp] theorem Reg.SLOT_NOM_FREQ_HZ_key (n : Nat) : (Reg.SLOT_NOM_FREQ_HZ n).key = 32 * (0x10004 + 0x100 * n) + 0 := id rfl
@[simp] theorem Reg.SLOT_NOM_FREQ_HZ_width (n : Nat) : (Reg.SLOT_NOM_FREQ_HZ n).width = 31 := rfl
@[simp] theorem Reg.SLOT_PRESCALE_DIV_key (n : Nat) : (Reg.SLOT_PRESCALE_DIV n).key = 32 * (0x10008 + 0x100 * n) + 0 := id rfl
@[simp] theorem Reg.SLOT_PRESCALE_DIV_width (n : Nat) : (Reg.SLOT_PRESCALE_DIV n).width = 24 := rfl
@[simp] theorem Reg.SLOT_ACT_TIMEOUT_key (n : Nat) : (Reg.SLOT_ACT_TIMEOUT n).key = 32 * (0x1000C + 0x100 * n) + 0 := id rfl
@[simp] theorem Reg.SLOT_ACT_TIMEOUT_width (n : Nat) : (Reg.SLOT_ACT_TIMEOUT n).width = 28 := rfl
@[simp] theorem Reg.SLOT_FMON_GATE_key (n : Nat) : (Reg.SLOT_FMON_GATE n).key = 32 * (0x10010 + 0x100 * n) + 16 := id rfl
@[simp] theorem Reg.SLOT_FMON_GATE_width (n : Nat) : (Reg.SLOT_FMON_GATE n).width = 16 := rfl
@[simp] theorem Reg.SLOT_FMON_FLIM_key (n : Nat) : (Reg.SLOT_FMON_FLIM n).key = 32 * (0x10010 + 0x100 * n) + 0 := id rfl
@[simp] theorem Reg.SLOT_FMON_FLIM_width (n : Nat) : (Reg.SLOT_FMON_FLIM n).width = 16 := rfl
@[simp] theorem Reg.SLOT_JUMP_THRESH_key (n : Nat) : (Reg.SLOT_JUMP_THRESH n).key = 32 * (0x10014 + 0x100 * n) + 0 := id rfl
@[simp] theorem Reg.SLOT_JUMP_THRESH_width (n : Nat) : (Reg.SLOT_JUMP_THRESH n).width = 24 := rfl
@[simp] theorem Reg.SLOT_PW_MIN_NS_key (n : Nat) : (Reg.SLOT_PW_MIN_NS n).key = 32 * (0x10018 + 0x100 * n) + 0 := id rfl
@[simp] theorem Reg.SLOT_PW_MIN_NS_width (n : Nat) : (Reg.SLOT_PW_MIN_NS n).width = 30 := rfl
@[simp] theorem Reg.SLOT_PW_MAX_NS_key (n : Nat) : (Reg.SLOT_PW_MAX_NS n).key = 32 * (0x1001C + 0x100 * n) + 0 := id rfl
@[simp] theorem Reg.SLOT_PW_MAX_NS_width (n : Nat) : (Reg.SLOT_PW_MAX_NS n).width = 30 := rfl
@[simp] theorem Reg.SLOT_DROP_LIMIT_key (n : Nat) : (Reg.SLOT_DROP_LIMIT n).key = 32 * (0x10020 + 0x100 * n) + 0 := id rfl
@[simp] theorem Reg.SLOT_DROP_LIMIT_width (n : Nat) : (Reg.SLOT_DROP_LIMIT n).width = 8 := rfl
@[simp] theorem Reg.SLOT_QUAL_EXCLUDE_key (n : Nat) : (Reg.SLOT_QUAL_EXCLUDE n).key = 32 * (0x10024 + 0x100 * n) + 31 := id rfl
@[simp] theorem Reg.SLOT_QUAL_EXCLUDE_width (n : Nat) : (Reg.SLOT_QUAL_EXCLUDE n).width = 1 := rfl
@[simp] theorem Reg.SLOT_QUAL_CEIL_key (n : Nat) : (Reg.SLOT_QUAL_CEIL n).key = 32 * (0x10024 + 0x100 * n) + 28 := id rfl
@[simp] theorem Reg.SLOT_QUAL_CEIL_width (n : Nat) : (Reg.SLOT_QUAL_CEIL n).width = 3 := rfl
@[simp] theorem Reg.SLOT_QUAL_JACT_key (n : Nat) : (Reg.SLOT_QUAL_JACT n).key = 32 * (0x10024 + 0x100 * n) + 27 := id rfl
@[simp] theorem Reg.SLOT_QUAL_JACT_width (n : Nat) : (Reg.SLOT_QUAL_JACT n).width = 1 := rfl
@[simp] theorem Reg.SLOT_QUAL_BW_key (n : Nat) : (Reg.SLOT_QUAL_BW n).key = 32 * (0x10024 + 0x100 * n) + 23 := id rfl
@[simp] theorem Reg.SLOT_QUAL_BW_width (n : Nat) : (Reg.SLOT_QUAL_BW n).width = 4 := rfl
@[simp] theorem Reg.SLOT_QUAL_WTR_key (n : Nat) : (Reg.SLOT_QUAL_WTR n).key = 32 * (0x10024 + 0x100 * n) + 13 := id rfl
@[simp] theorem Reg.SLOT_QUAL_WTR_width (n : Nat) : (Reg.SLOT_QUAL_WTR n).width = 10 := rfl
@[simp] theorem Reg.SLOT_QUAL_OBS_TIME_key (n : Nat) : (Reg.SLOT_QUAL_OBS_TIME n).key = 32 * (0x10024 + 0x100 * n) + 0 := id rfl
@[simp] theorem Reg.SLOT_QUAL_OBS_TIME_width (n : Nat) : (Reg.SLOT_QUAL_OBS_TIME n).width = 8 := rfl
@[simp] theorem Reg.SLOT_STATE_key (n : Nat) : (Reg.SLOT_STATE n).key = 32 * (0x10028 + 0x100 * n) + 0 := id rfl
@[simp] theorem Reg.SLOT_STATE_width (n : Nat) : (Reg.SLOT_STATE n).width = 32 := rfl
@[simp] theorem Reg.SLOT_MON_FLAGS_key (n : Nat) : (Reg.SLOT_MON_FLAGS n).key = 32 * (0x1002C + 0x100 * n) + 23 := id rfl
@[simp] theorem Reg.SLOT_MON_FLAGS_width (n : Nat) : (Reg.SLOT_MON_FLAGS n).width = 9 := rfl
@[simp] theorem Reg.SLOT_MON_SAT_key (n : Nat) : (Reg.SLOT_MON_SAT n).key = 32 * (0x1002C + 0x100 * n) + 22 := id rfl
@[simp] theorem Reg.SLOT_MON_SAT_width (n : Nat) : (Reg.SLOT_MON_SAT n).width = 1 := rfl
@[simp] theorem Reg.SLOT_FOFF_XO_VALUE_key (n : Nat) : (Reg.SLOT_FOFF_XO_VALUE n).key = 32 * (0x10030 + 0x100 * n) + 0 := id rfl
@[simp] theorem Reg.SLOT_FOFF_XO_VALUE_width (n : Nat) : (Reg.SLOT_FOFF_XO_VALUE n).width = 32 := rfl
@[simp] theorem Reg.SLOT_FOFF_PATH_VALUE_key (n : Nat) : (Reg.SLOT_FOFF_PATH_VALUE n).key = 32 * (0x10034 + 0x100 * n) + 0 := id rfl
@[simp] theorem Reg.SLOT_FOFF_PATH_VALUE_width (n : Nat) : (Reg.SLOT_FOFF_PATH_VALUE n).width = 32 := rfl
@[simp] theorem Reg.SLOT_PHASE_LO_DATA_key (n : Nat) : (Reg.SLOT_PHASE_LO_DATA n).key = 32 * (0x10038 + 0x100 * n) + 0 := id rfl
@[simp] theorem Reg.SLOT_PHASE_LO_DATA_width (n : Nat) : (Reg.SLOT_PHASE_LO_DATA n).width = 32 := rfl
@[simp] theorem Reg.SLOT_PHASE_HI_DATA_key (n : Nat) : (Reg.SLOT_PHASE_HI_DATA n).key = 32 * (0x1003C + 0x100 * n) + 0 := id rfl
@[simp] theorem Reg.SLOT_PHASE_HI_DATA_width (n : Nat) : (Reg.SLOT_PHASE_HI_DATA n).width = 32 := rfl
@[simp] theorem Reg.SLOT_JUMP_LAST_VALUE_key (n : Nat) : (Reg.SLOT_JUMP_LAST_VALUE n).key = 32 * (0x10040 + 0x100 * n) + 0 := id rfl
@[simp] theorem Reg.SLOT_JUMP_LAST_VALUE_width (n : Nat) : (Reg.SLOT_JUMP_LAST_VALUE n).width = 32 := rfl
@[simp] theorem Reg.SLOT_PW_LAST_NS_key (n : Nat) : (Reg.SLOT_PW_LAST_NS n).key = 32 * (0x10044 + 0x100 * n) + 0 := id rfl
@[simp] theorem Reg.SLOT_PW_LAST_NS_width (n : Nat) : (Reg.SLOT_PW_LAST_NS n).width = 30 := rfl
@[simp] theorem Reg.SLOT_CNT0_EXTRA_key (n : Nat) : (Reg.SLOT_CNT0_EXTRA n).key = 32 * (0x10048 + 0x100 * n) + 16 := id rfl
@[simp] theorem Reg.SLOT_CNT0_EXTRA_width (n : Nat) : (Reg.SLOT_CNT0_EXTRA n).width = 12 := rfl
@[simp] theorem Reg.SLOT_CNT0_DROP_key (n : Nat) : (Reg.SLOT_CNT0_DROP n).key = 32 * (0x10048 + 0x100 * n) + 0 := id rfl
@[simp] theorem Reg.SLOT_CNT0_DROP_width (n : Nat) : (Reg.SLOT_CNT0_DROP n).width = 16 := rfl
@[simp] theorem Reg.SLOT_CNT1_REBASE_SEQ_key (n : Nat) : (Reg.SLOT_CNT1_REBASE_SEQ n).key = 32 * (0x1004C + 0x100 * n) + 12 := id rfl
@[simp] theorem Reg.SLOT_CNT1_REBASE_SEQ_width (n : Nat) : (Reg.SLOT_CNT1_REBASE_SEQ n).width = 4 := rfl
@[simp] theorem Reg.SLOT_CNT1_GATE_SEQ_key (n : Nat) : (Reg.SLOT_CNT1_GATE_SEQ n).key = 32 * (0x1004C + 0x100 * n) + 8 := id rfl
@[simp] theorem Reg.SLOT_CNT1_GATE_SEQ_width (n : Nat) : (Reg.SLOT_CNT1_GATE_SEQ n).width = 4 := rfl
@[simp] theorem Reg.SLOT_CNT1_JUMP_key (n : Nat) : (Reg.SLOT_CNT1_JUMP n).key = 32 * (0x1004C + 0x100 * n) + 0 := id rfl
@[simp] theorem Reg.SLOT_CNT1_JUMP_width (n : Nat) : (Reg.SLOT_CNT1_JUMP n).width = 8 := rfl
@[simp] theorem Reg.SLOT_TRACK_LO_DATA_key (n : Nat) : (Reg.SLOT_TRACK_LO_DATA n).key = 32 * (0x10050 + 0x100 * n) + 0 := id rfl
@[simp] theorem Reg.SLOT_TRACK_LO_DATA_width (n : Nat) : (Reg.SLOT_TRACK_LO_DATA n).width = 32 := rfl
@[simp] theorem Reg.SLOT_TRACK_HI_DATA_key (n : Nat) : (Reg.SLOT_TRACK_HI_DATA n).key = 32 * (0x10054 + 0x100 * n) + 0 := id rfl
@[simp] theorem Reg.SLOT_TRACK_HI_DATA_width (n : Nat) : (Reg.SLOT_TRACK_HI_DATA n).width = 32 := rfl
@[simp] theorem Reg.SLOT_CMD_REBASE_key (n : Nat) : (Reg.SLOT_CMD_REBASE n).key = 32 * (0x10058 + 0x100 * n) + 0 := id rfl
@[simp] theorem Reg.SLOT_CMD_REBASE_width (n : Nat) : (Reg.SLOT_CMD_REBASE n).width = 1 := rfl
@[simp] theorem Reg.SLOT_IRIG_STATUS_FRAME_ERR_key (n : Nat) : (Reg.SLOT_IRIG_STATUS_FRAME_ERR n).key = 32 * (0x10060 + 0x100 * n) + 16 := id rfl
@[simp] theorem Reg.SLOT_IRIG_STATUS_FRAME_ERR_width (n : Nat) : (Reg.SLOT_IRIG_STATUS_FRAME_ERR n).width = 16 := rfl
@[simp] theorem Reg.SLOT_IRIG_STATUS_FORMAT_key (n : Nat) : (Reg.SLOT_IRIG_STATUS_FORMAT n).key = 32 * (0x10060 + 0x100 * n) + 4 := id rfl
@[simp] theorem Reg.SLOT_IRIG_STATUS_FORMAT_width (n : Nat) : (Reg.SLOT_IRIG_STATUS_FORMAT n).width = 3 := rfl
@[simp] theorem Reg.SLOT_IRIG_STATUS_SBS_VALID_key (n : Nat) : (Reg.SLOT_IRIG_STATUS_SBS_VALID n).key = 32 * (0x10060 + 0x100 * n) + 3 := id rfl
@[simp] theorem Reg.SLOT_IRIG_STATUS_SBS_VALID_width (n : Nat) : (Reg.SLOT_IRIG_STATUS_SBS_VALID n).width = 1 := rfl
@[simp] theorem Reg.SLOT_IRIG_STATUS_CF_VALID_key (n : Nat) : (Reg.SLOT_IRIG_STATUS_CF_VALID n).key = 32 * (0x10060 + 0x100 * n) + 2 := id rfl
@[simp] theorem Reg.SLOT_IRIG_STATUS_CF_VALID_width (n : Nat) : (Reg.SLOT_IRIG_STATUS_CF_VALID n).width = 1 := rfl
@[simp] theorem Reg.SLOT_IRIG_STATUS_YEAR_VALID_key (n : Nat) : (Reg.SLOT_IRIG_STATUS_YEAR_VALID n).key = 32 * (0x10060 + 0x100 * n) + 1 := id rfl
@[simp] theorem Reg.SLOT_IRIG_STATUS_YEAR_VALID_width (n : Nat) : (Reg.SLOT_IRIG_STATUS_YEAR_VALID n).width = 1 := rfl
@[simp] theorem Reg.SLOT_IRIG_STATUS_LOCK_key (n : Nat) : (Reg.SLOT_IRIG_STATUS_LOCK n).key = 32 * (0x10060 + 0x100 * n) + 0 := id rfl
@[simp] theorem Reg.SLOT_IRIG_STATUS_LOCK_width (n : Nat) : (Reg.SLOT_IRIG_STATUS_LOCK n).width = 1 := rfl
@[simp] theorem Reg.SLOT_IRIG_TOD_DAY_key (n : Nat) : (Reg.SLOT_IRIG_TOD_DAY n).key = 32 * (0x10064 + 0x100 * n) + 17 := id rfl
@[simp] theorem Reg.SLOT_IRIG_TOD_DAY_width (n : Nat) : (Reg.SLOT_IRIG_TOD_DAY n).width = 9 := rfl
@[simp] theorem Reg.SLOT_IRIG_TOD_HOUR_key (n : Nat) : (Reg.SLOT_IRIG_TOD_HOUR n).key = 32 * (0x10064 + 0x100 * n) + 12 := id rfl
@[simp] theorem Reg.SLOT_IRIG_TOD_HOUR_width (n : Nat) : (Reg.SLOT_IRIG_TOD_HOUR n).width = 5 := rfl
@[simp] theorem Reg.SLOT_IRIG_TOD_MIN_key (n : Nat) : (Reg.SLOT_IRIG_TOD_MIN n).key = 32 * (0x10064 + 0x100 * n) + 6 := id rfl
@[simp] theorem Reg.SLOT_IRIG_TOD_MIN_width (n : Nat) : (Reg.SLOT_IRIG_TOD_MIN n).width = 6 := rfl
@[simp] theorem Reg.SLOT_IRIG_TOD_SEC_key (n : Nat) : (Reg.SLOT_IRIG_TOD_SEC n).key = 32 * (0x10064 + 0x100 * n) + 0 := id rfl
@[simp] theorem Reg.SLOT_IRIG_TOD_SEC_width (n : Nat) : (Reg.SLOT_IRIG_TOD_SEC n).width = 6 := rfl
@[simp] theorem Reg.SLOT_IRIG_EXT_YEAR_key (n : Nat) : (Reg.SLOT_IRIG_EXT_YEAR n).key = 32 * (0x10068 + 0x100 * n) + 17 := id rfl
@[simp] theorem Reg.SLOT_IRIG_EXT_YEAR_width (n : Nat) : (Reg.SLOT_IRIG_EXT_YEAR n).width = 7 := rfl
@[simp] theorem Reg.SLOT_IRIG_EXT_SBS_key (n : Nat) : (Reg.SLOT_IRIG_EXT_SBS n).key = 32 * (0x10068 + 0x100 * n) + 0 := id rfl
@[simp] theorem Reg.SLOT_IRIG_EXT_SBS_width (n : Nat) : (Reg.SLOT_IRIG_EXT_SBS n).width = 17 := rfl
@[simp] theorem Reg.SLOT_IRIG_CF_CF_key (n : Nat) : (Reg.SLOT_IRIG_CF_CF n).key = 32 * (0x1006C + 0x100 * n) + 0 := id rfl
@[simp] theorem Reg.SLOT_IRIG_CF_CF_width (n : Nat) : (Reg.SLOT_IRIG_CF_CF n).width = 27 := rfl
@[simp] theorem Reg.SLOT_VCFG_TS_key (n : Nat) : (Reg.SLOT_VCFG_TS n).key = 32 * (0x10070 + 0x100 * n) + 0 := id rfl
@[simp] theorem Reg.SLOT_VCFG_TS_width (n : Nat) : (Reg.SLOT_VCFG_TS n).width = 2 := rfl
@[simp] theorem Reg.PATH_DCO_LO_DATA_key (n : Nat) : (Reg.PATH_DCO_LO_DATA n).key = 32 * (0x20000 + 0x200 * n) + 0 := id rfl
@[simp] theorem Reg.PATH_DCO_LO_DATA_width (n : Nat) : (Reg.PATH_DCO_LO_DATA n).width = 32 := rfl
@[simp] theorem Reg.PATH_DCO_HI_DATA_key (n : Nat) : (Reg.PATH_DCO_HI_DATA n).key = 32 * (0x20004 + 0x200 * n) + 0 := id rfl
@[simp] theorem Reg.PATH_DCO_HI_DATA_width (n : Nat) : (Reg.PATH_DCO_HI_DATA n).width = 32 := rfl
@[simp] theorem Reg.PATH_CTRL_LO_DATA_key (n : Nat) : (Reg.PATH_CTRL_LO_DATA n).key = 32 * (0x20008 + 0x200 * n) + 0 := id rfl
@[simp] theorem Reg.PATH_CTRL_LO_DATA_width (n : Nat) : (Reg.PATH_CTRL_LO_DATA n).width = 32 := rfl
@[simp] theorem Reg.PATH_CTRL_HI_DATA_key (n : Nat) : (Reg.PATH_CTRL_HI_DATA n).key = 32 * (0x2000C + 0x200 * n) + 0 := id rfl
@[simp] theorem Reg.PATH_CTRL_HI_DATA_width (n : Nat) : (Reg.PATH_CTRL_HI_DATA n).width = 32 := rfl
@[simp] theorem Reg.PATH_STEP_CFG_MODE_key (n : Nat) : (Reg.PATH_STEP_CFG_MODE n).key = 32 * (0x20010 + 0x200 * n) + 0 := id rfl
@[simp] theorem Reg.PATH_STEP_CFG_MODE_width (n : Nat) : (Reg.PATH_STEP_CFG_MODE n).width = 1 := rfl
@[simp] theorem Reg.PATH_PHASE_SLOPE_RATE_key (n : Nat) : (Reg.PATH_PHASE_SLOPE_RATE n).key = 32 * (0x20014 + 0x200 * n) + 0 := id rfl
@[simp] theorem Reg.PATH_PHASE_SLOPE_RATE_width (n : Nat) : (Reg.PATH_PHASE_SLOPE_RATE n).width = 19 := rfl
@[simp] theorem Reg.PATH_PHASE_STEP_LO_AMOUNT_LO_key (n : Nat) : (Reg.PATH_PHASE_STEP_LO_AMOUNT_LO n).key = 32 * (0x20018 + 0x200 * n) + 0 := id rfl
@[simp] theorem Reg.PATH_PHASE_STEP_LO_AMOUNT_LO_width (n : Nat) : (Reg.PATH_PHASE_STEP_LO_AMOUNT_LO n).width = 32 := rfl
@[simp] theorem Reg.PATH_PHASE_STEP_HI_AMOUNT_HI_key (n : Nat) : (Reg.PATH_PHASE_STEP_HI_AMOUNT_HI n).key = 32 * (0x2001C + 0x200 * n) + 0 := id rfl
@[simp] theorem Reg.PATH_PHASE_STEP_HI_AMOUNT_HI_width (n : Nat) : (Reg.PATH_PHASE_STEP_HI_AMOUNT_HI n).width = 16 := rfl
@[simp] theorem Reg.PATH_STEP_REMAIN_LO_VALUE_key (n : Nat) : (Reg.PATH_STEP_REMAIN_LO_VALUE n).key = 32 * (0x20020 + 0x200 * n) + 0 := id rfl
@[simp] theorem Reg.PATH_STEP_REMAIN_LO_VALUE_width (n : Nat) : (Reg.PATH_STEP_REMAIN_LO_VALUE n).width = 32 := rfl
@[simp] theorem Reg.PATH_STEP_REMAIN_HI_VALUE_key (n : Nat) : (Reg.PATH_STEP_REMAIN_HI_VALUE n).key = 32 * (0x20024 + 0x200 * n) + 0 := id rfl
@[simp] theorem Reg.PATH_STEP_REMAIN_HI_VALUE_width (n : Nat) : (Reg.PATH_STEP_REMAIN_HI_VALUE n).width = 16 := rfl
@[simp] theorem Reg.PATH_STEP_TOTAL_LO_VALUE_key (n : Nat) : (Reg.PATH_STEP_TOTAL_LO_VALUE n).key = 32 * (0x20028 + 0x200 * n) + 0 := id rfl
@[simp] theorem Reg.PATH_STEP_TOTAL_LO_VALUE_width (n : Nat) : (Reg.PATH_STEP_TOTAL_LO_VALUE n).width = 32 := rfl
@[simp] theorem Reg.PATH_STEP_TOTAL_HI_VALUE_key (n : Nat) : (Reg.PATH_STEP_TOTAL_HI_VALUE n).key = 32 * (0x2002C + 0x200 * n) + 0 := id rfl
@[simp] theorem Reg.PATH_STEP_TOTAL_HI_VALUE_width (n : Nat) : (Reg.PATH_STEP_TOTAL_HI_VALUE n).width = 16 := rfl
@[simp] theorem Reg.PATH_STEP_STATUS_ACCEPTED_key (n : Nat) : (Reg.PATH_STEP_STATUS_ACCEPTED n).key = 32 * (0x20030 + 0x200 * n) + 16 := id rfl
@[simp] theorem Reg.PATH_STEP_STATUS_ACCEPTED_width (n : Nat) : (Reg.PATH_STEP_STATUS_ACCEPTED n).width = 16 := rfl
@[simp] theorem Reg.PATH_STEP_STATUS_REJ_key (n : Nat) : (Reg.PATH_STEP_STATUS_REJ n).key = 32 * (0x20030 + 0x200 * n) + 1 := id rfl
@[simp] theorem Reg.PATH_STEP_STATUS_REJ_width (n : Nat) : (Reg.PATH_STEP_STATUS_REJ n).width = 1 := rfl
@[simp] theorem Reg.PATH_STEP_STATUS_BUSY_key (n : Nat) : (Reg.PATH_STEP_STATUS_BUSY n).key = 32 * (0x20030 + 0x200 * n) + 0 := id rfl
@[simp] theorem Reg.PATH_STEP_STATUS_BUSY_width (n : Nat) : (Reg.PATH_STEP_STATUS_BUSY n).width = 1 := rfl
@[simp] theorem Reg.PATH_STEP_CMD_CANCEL_key (n : Nat) : (Reg.PATH_STEP_CMD_CANCEL n).key = 32 * (0x20034 + 0x200 * n) + 0 := id rfl
@[simp] theorem Reg.PATH_STEP_CMD_CANCEL_width (n : Nat) : (Reg.PATH_STEP_CMD_CANCEL n).width = 1 := rfl
@[simp] theorem Reg.PATH_FOFF_VALUE_key (n : Nat) : (Reg.PATH_FOFF_VALUE n).key = 32 * (0x20038 + 0x200 * n) + 0 := id rfl
@[simp] theorem Reg.PATH_FOFF_VALUE_width (n : Nat) : (Reg.PATH_FOFF_VALUE n).width = 32 := rfl
@[simp] theorem Reg.APLL_CFG_RAMP_key (n : Nat) : (Reg.APLL_CFG_RAMP n).key = 32 * (0x24000 + 0x100 * n) + 24 := id rfl
@[simp] theorem Reg.APLL_CFG_RAMP_width (n : Nat) : (Reg.APLL_CFG_RAMP n).width = 8 := rfl
@[simp] theorem Reg.APLL_CFG_SETTLE_key (n : Nat) : (Reg.APLL_CFG_SETTLE n).key = 32 * (0x24000 + 0x100 * n) + 6 := id rfl
@[simp] theorem Reg.APLL_CFG_SETTLE_width (n : Nat) : (Reg.APLL_CFG_SETTLE n).width = 10 := rfl
@[simp] theorem Reg.APLL_CFG_SLEW_key (n : Nat) : (Reg.APLL_CFG_SLEW n).key = 32 * (0x24000 + 0x100 * n) + 3 := id rfl
@[simp] theorem Reg.APLL_CFG_SLEW_width (n : Nat) : (Reg.APLL_CFG_SLEW n).width = 3 := rfl
@[simp] theorem Reg.APLL_CFG_BW_key (n : Nat) : (Reg.APLL_CFG_BW n).key = 32 * (0x24000 + 0x100 * n) + 1 := id rfl
@[simp] theorem Reg.APLL_CFG_BW_width (n : Nat) : (Reg.APLL_CFG_BW n).width = 2 := rfl
@[simp] theorem Reg.APLL_CFG_EN_key (n : Nat) : (Reg.APLL_CFG_EN n).key = 32 * (0x24000 + 0x100 * n) + 0 := id rfl
@[simp] theorem Reg.APLL_CFG_EN_width (n : Nat) : (Reg.APLL_CFG_EN n).width = 1 := rfl
@[simp] theorem Reg.APLL_FPD_HZ_key (n : Nat) : (Reg.APLL_FPD_HZ n).key = 32 * (0x24004 + 0x100 * n) + 0 := id rfl
@[simp] theorem Reg.APLL_FPD_HZ_width (n : Nat) : (Reg.APLL_FPD_HZ n).width = 28 := rfl
@[simp] theorem Reg.APLL_NINT_key (n : Nat) : (Reg.APLL_NINT n).key = 32 * (0x24008 + 0x100 * n) + 0 := id rfl
@[simp] theorem Reg.APLL_NINT_width (n : Nat) : (Reg.APLL_NINT n).width = 11 := rfl
@[simp] theorem Reg.APLL_NFRAC_LO_NFRAC_key (n : Nat) : (Reg.APLL_NFRAC_LO_NFRAC n).key = 32 * (0x2400C + 0x100 * n) + 0 := id rfl
@[simp] theorem Reg.APLL_NFRAC_LO_NFRAC_width (n : Nat) : (Reg.APLL_NFRAC_LO_NFRAC n).width = 32 := rfl
@[simp] theorem Reg.APLL_NFRAC_HI_NFRAC_key (n : Nat) : (Reg.APLL_NFRAC_HI_NFRAC n).key = 32 * (0x24010 + 0x100 * n) + 0 := id rfl
@[simp] theorem Reg.APLL_NFRAC_HI_NFRAC_width (n : Nat) : (Reg.APLL_NFRAC_HI_NFRAC n).width = 8 := rfl
@[simp] theorem Reg.APLL_CMD_CACHE_CLR_key (n : Nat) : (Reg.APLL_CMD_CACHE_CLR n).key = 32 * (0x24014 + 0x100 * n) + 2 := id rfl
@[simp] theorem Reg.APLL_CMD_CACHE_CLR_width (n : Nat) : (Reg.APLL_CMD_CACHE_CLR n).width = 1 := rfl
@[simp] theorem Reg.APLL_CMD_FULL_key (n : Nat) : (Reg.APLL_CMD_FULL n).key = 32 * (0x24014 + 0x100 * n) + 1 := id rfl
@[simp] theorem Reg.APLL_CMD_FULL_width (n : Nat) : (Reg.APLL_CMD_FULL n).width = 1 := rfl
@[simp] theorem Reg.APLL_CMD_APPLY_key (n : Nat) : (Reg.APLL_CMD_APPLY n).key = 32 * (0x24014 + 0x100 * n) + 0 := id rfl
@[simp] theorem Reg.APLL_CMD_APPLY_width (n : Nat) : (Reg.APLL_CMD_APPLY n).width = 1 := rfl
@[simp] theorem Reg.APLL_STATUS_APPLY_ERR_key (n : Nat) : (Reg.APLL_STATUS_APPLY_ERR n).key = 32 * (0x24018 + 0x100 * n) + 28 := id rfl
@[simp] theorem Reg.APLL_STATUS_APPLY_ERR_width (n : Nat) : (Reg.APLL_STATUS_APPLY_ERR n).width = 4 := rfl
@[simp] theorem Reg.APLL_STATUS_ERR_OUT_key (n : Nat) : (Reg.APLL_STATUS_ERR_OUT n).key = 32 * (0x24018 + 0x100 * n) + 26 := id rfl
@[simp] theorem Reg.APLL_STATUS_ERR_OUT_width (n : Nat) : (Reg.APLL_STATUS_ERR_OUT n).width = 2 := rfl
@[simp] theorem Reg.APLL_STATUS_BAND_key (n : Nat) : (Reg.APLL_STATUS_BAND n).key = 32 * (0x24018 + 0x100 * n) + 16 := id rfl
@[simp] theorem Reg.APLL_STATUS_BAND_width (n : Nat) : (Reg.APLL_STATUS_BAND n).width = 6 := rfl
@[simp] theorem Reg.APLL_STATUS_LAST_CLASS_key (n : Nat) : (Reg.APLL_STATUS_LAST_CLASS n).key = 32 * (0x24018 + 0x100 * n) + 8 := id rfl
@[simp] theorem Reg.APLL_STATUS_LAST_CLASS_width (n : Nat) : (Reg.APLL_STATUS_LAST_CLASS n).width = 3 := rfl
@[simp] theorem Reg.APLL_STATUS_DCO_SAT_key (n : Nat) : (Reg.APLL_STATUS_DCO_SAT n).key = 32 * (0x24018 + 0x100 * n) + 7 := id rfl
@[simp] theorem Reg.APLL_STATUS_DCO_SAT_width (n : Nat) : (Reg.APLL_STATUS_DCO_SAT n).width = 1 := rfl
@[simp] theorem Reg.APLL_STATUS_TUNE_EDGE_key (n : Nat) : (Reg.APLL_STATUS_TUNE_EDGE n).key = 32 * (0x24018 + 0x100 * n) + 6 := id rfl
@[simp] theorem Reg.APLL_STATUS_TUNE_EDGE_width (n : Nat) : (Reg.APLL_STATUS_TUNE_EDGE n).width = 1 := rfl
@[simp] theorem Reg.APLL_STATUS_LOCK_key (n : Nat) : (Reg.APLL_STATUS_LOCK n).key = 32 * (0x24018 + 0x100 * n) + 5 := id rfl
@[simp] theorem Reg.APLL_STATUS_LOCK_width (n : Nat) : (Reg.APLL_STATUS_LOCK n).width = 1 := rfl
@[simp] theorem Reg.APLL_STATUS_STATE_key (n : Nat) : (Reg.APLL_STATUS_STATE n).key = 32 * (0x24018 + 0x100 * n) + 0 := id rfl
@[simp] theorem Reg.APLL_STATUS_STATE_width (n : Nat) : (Reg.APLL_STATUS_STATE n).width = 4 := rfl
@[simp] theorem Reg.APLL_RELOCK_TIME_US_key (n : Nat) : (Reg.APLL_RELOCK_TIME_US n).key = 32 * (0x2401C + 0x100 * n) + 0 := id rfl
@[simp] theorem Reg.APLL_RELOCK_TIME_US_width (n : Nat) : (Reg.APLL_RELOCK_TIME_US n).width = 24 := rfl
@[simp] theorem Reg.APLL_COUNT_UNLOCKS_key (n : Nat) : (Reg.APLL_COUNT_UNLOCKS n).key = 32 * (0x24020 + 0x100 * n) + 16 := id rfl
@[simp] theorem Reg.APLL_COUNT_UNLOCKS_width (n : Nat) : (Reg.APLL_COUNT_UNLOCKS n).width = 16 := rfl
@[simp] theorem Reg.APLL_COUNT_SEARCHES_key (n : Nat) : (Reg.APLL_COUNT_SEARCHES n).key = 32 * (0x24020 + 0x100 * n) + 0 := id rfl
@[simp] theorem Reg.APLL_COUNT_SEARCHES_width (n : Nat) : (Reg.APLL_COUNT_SEARCHES n).width = 16 := rfl
@[simp] theorem Reg.APLL_CACHE_SEL_INDEX_key (n : Nat) : (Reg.APLL_CACHE_SEL_INDEX n).key = 32 * (0x24024 + 0x100 * n) + 0 := id rfl
@[simp] theorem Reg.APLL_CACHE_SEL_INDEX_width (n : Nat) : (Reg.APLL_CACHE_SEL_INDEX n).width = 3 := rfl
@[simp] theorem Reg.APLL_CACHE_ENTRY_VALID_key (n : Nat) : (Reg.APLL_CACHE_ENTRY_VALID n).key = 32 * (0x24028 + 0x100 * n) + 31 := id rfl
@[simp] theorem Reg.APLL_CACHE_ENTRY_VALID_width (n : Nat) : (Reg.APLL_CACHE_ENTRY_VALID n).width = 1 := rfl
@[simp] theorem Reg.APLL_CACHE_ENTRY_PIN_key (n : Nat) : (Reg.APLL_CACHE_ENTRY_PIN n).key = 32 * (0x24028 + 0x100 * n) + 30 := id rfl
@[simp] theorem Reg.APLL_CACHE_ENTRY_PIN_width (n : Nat) : (Reg.APLL_CACHE_ENTRY_PIN n).width = 1 := rfl
@[simp] theorem Reg.APLL_CACHE_ENTRY_BAND_key (n : Nat) : (Reg.APLL_CACHE_ENTRY_BAND n).key = 32 * (0x24028 + 0x100 * n) + 24 := id rfl
@[simp] theorem Reg.APLL_CACHE_ENTRY_BAND_width (n : Nat) : (Reg.APLL_CACHE_ENTRY_BAND n).width = 6 := rfl
@[simp] theorem Reg.APLL_CACHE_ENTRY_TEMP_key (n : Nat) : (Reg.APLL_CACHE_ENTRY_TEMP n).key = 32 * (0x24028 + 0x100 * n) + 0 := id rfl
@[simp] theorem Reg.APLL_CACHE_ENTRY_TEMP_width (n : Nat) : (Reg.APLL_CACHE_ENTRY_TEMP n).width = 16 := rfl
@[simp] theorem Reg.APLL_CACHE_FVCO_KHZ_key (n : Nat) : (Reg.APLL_CACHE_FVCO_KHZ n).key = 32 * (0x2402C + 0x100 * n) + 0 := id rfl
@[simp] theorem Reg.APLL_CACHE_FVCO_KHZ_width (n : Nat) : (Reg.APLL_CACHE_FVCO_KHZ n).width = 32 := rfl
@[simp] theorem Reg.APLL_ACT_FPD_VALUE_key (n : Nat) : (Reg.APLL_ACT_FPD_VALUE n).key = 32 * (0x24030 + 0x100 * n) + 0 := id rfl
@[simp] theorem Reg.APLL_ACT_FPD_VALUE_width (n : Nat) : (Reg.APLL_ACT_FPD_VALUE n).width = 28 := rfl
@[simp] theorem Reg.APLL_ACT_NINT_VALUE_key (n : Nat) : (Reg.APLL_ACT_NINT_VALUE n).key = 32 * (0x24034 + 0x100 * n) + 0 := id rfl
@[simp] theorem Reg.APLL_ACT_NINT_VALUE_width (n : Nat) : (Reg.APLL_ACT_NINT_VALUE n).width = 11 := rfl
@[simp] theorem Reg.APLL_ACT_NFRAC_LO_VALUE_key (n : Nat) : (Reg.APLL_ACT_NFRAC_LO_VALUE n).key = 32 * (0x24038 + 0x100 * n) + 0 := id rfl
@[simp] theorem Reg.APLL_ACT_NFRAC_LO_VALUE_width (n : Nat) : (Reg.APLL_ACT_NFRAC_LO_VALUE n).width = 32 := rfl
@[simp] theorem Reg.APLL_ACT_NFRAC_HI_VALUE_key (n : Nat) : (Reg.APLL_ACT_NFRAC_HI_VALUE n).key = 32 * (0x2403C + 0x100 * n) + 0 := id rfl
@[simp] theorem Reg.APLL_ACT_NFRAC_HI_VALUE_width (n : Nat) : (Reg.APLL_ACT_NFRAC_HI_VALUE n).width = 8 := rfl
@[simp] theorem Reg.APLL_COVER_RESCUE_key (n : Nat) : (Reg.APLL_COVER_RESCUE n).key = 32 * (0x24040 + 0x100 * n) + 4 := id rfl
@[simp] theorem Reg.APLL_COVER_RESCUE_width (n : Nat) : (Reg.APLL_COVER_RESCUE n).width = 1 := rfl
@[simp] theorem Reg.APLL_COVER_APLL_key (n : Nat) : (Reg.APLL_COVER_APLL n).key = 32 * (0x24040 + 0x100 * n) + 0 := id rfl
@[simp] theorem Reg.APLL_COVER_APLL_width (n : Nat) : (Reg.APLL_COVER_APLL n).width = 4 := rfl
@[simp] theorem Reg.APLL_SPARE_STATUS_READY_key (n : Nat) : (Reg.APLL_SPARE_STATUS_READY n).key = 32 * (0x24044 + 0x100 * n) + 7 := id rfl
@[simp] theorem Reg.APLL_SPARE_STATUS_READY_width (n : Nat) : (Reg.APLL_SPARE_STATUS_READY n).width = 1 := rfl
@[simp] theorem Reg.APLL_SPARE_STATUS_SERVING_key (n : Nat) : (Reg.APLL_SPARE_STATUS_SERVING n).key = 32 * (0x24044 + 0x100 * n) + 0 := id rfl
@[simp] theorem Reg.APLL_SPARE_STATUS_SERVING_width (n : Nat) : (Reg.APLL_SPARE_STATUS_SERVING n).width = 4 := rfl
@[simp] theorem Reg.OUT_CFG_AUTO_RETURN_key (n : Nat) : (Reg.OUT_CFG_AUTO_RETURN n).key = 32 * (0x26000 + 0x40 * n) + 16 := id rfl
@[simp] theorem Reg.OUT_CFG_AUTO_RETURN_width (n : Nat) : (Reg.OUT_CFG_AUTO_RETURN n).width = 1 := rfl
@[simp] theorem Reg.OUT_CFG_CMOS_MODE_key (n : Nat) : (Reg.OUT_CFG_CMOS_MODE n).key = 32 * (0x26000 + 0x40 * n) + 14 := id rfl
@[simp] theorem Reg.OUT_CFG_CMOS_MODE_width (n : Nat) : (Reg.OUT_CFG_CMOS_MODE n).width = 2 := rfl
@[simp] theorem Reg.OUT_CFG_FAN_SEL_key (n : Nat) : (Reg.OUT_CFG_FAN_SEL n).key = 32 * (0x26000 + 0x40 * n) + 10 := id rfl
@[simp] theorem Reg.OUT_CFG_FAN_SEL_width (n : Nat) : (Reg.OUT_CFG_FAN_SEL n).width = 4 := rfl
@[simp] theorem Reg.OUT_CFG_MODE_key (n : Nat) : (Reg.OUT_CFG_MODE n).key = 32 * (0x26000 + 0x40 * n) + 9 := id rfl
@[simp] theorem Reg.OUT_CFG_MODE_width (n : Nat) : (Reg.OUT_CFG_MODE n).width = 1 := rfl
@[simp] theorem Reg.OUT_CFG_POL_key (n : Nat) : (Reg.OUT_CFG_POL n).key = 32 * (0x26000 + 0x40 * n) + 8 := id rfl
@[simp] theorem Reg.OUT_CFG_POL_width (n : Nat) : (Reg.OUT_CFG_POL n).width = 1 := rfl
@[simp] theorem Reg.OUT_CFG_RELOCK_key (n : Nat) : (Reg.OUT_CFG_RELOCK n).key = 32 * (0x26000 + 0x40 * n) + 6 := id rfl
@[simp] theorem Reg.OUT_CFG_RELOCK_width (n : Nat) : (Reg.OUT_CFG_RELOCK n).width = 2 := rfl
@[simp] theorem Reg.OUT_CFG_SRC_key (n : Nat) : (Reg.OUT_CFG_SRC n).key = 32 * (0x26000 + 0x40 * n) + 4 := id rfl
@[simp] theorem Reg.OUT_CFG_SRC_width (n : Nat) : (Reg.OUT_CFG_SRC n).width = 2 := rfl
@[simp] theorem Reg.OUT_CFG_FORMAT_key (n : Nat) : (Reg.OUT_CFG_FORMAT n).key = 32 * (0x26000 + 0x40 * n) + 1 := id rfl
@[simp] theorem Reg.OUT_CFG_FORMAT_width (n : Nat) : (Reg.OUT_CFG_FORMAT n).width = 3 := rfl
@[simp] theorem Reg.OUT_CFG_EN_key (n : Nat) : (Reg.OUT_CFG_EN n).key = 32 * (0x26000 + 0x40 * n) + 0 := id rfl
@[simp] theorem Reg.OUT_CFG_EN_width (n : Nat) : (Reg.OUT_CFG_EN n).width = 1 := rfl
@[simp] theorem Reg.OUT_DIV_LO_DIV_key (n : Nat) : (Reg.OUT_DIV_LO_DIV n).key = 32 * (0x26004 + 0x40 * n) + 0 := id rfl
@[simp] theorem Reg.OUT_DIV_LO_DIV_width (n : Nat) : (Reg.OUT_DIV_LO_DIV n).width = 32 := rfl
@[simp] theorem Reg.OUT_DIV_HI_DIV_key (n : Nat) : (Reg.OUT_DIV_HI_DIV n).key = 32 * (0x26008 + 0x40 * n) + 0 := id rfl
@[simp] theorem Reg.OUT_DIV_HI_DIV_width (n : Nat) : (Reg.OUT_DIV_HI_DIV n).width = 4 := rfl
@[simp] theorem Reg.OUT_BYP_DIV_DIV_key (n : Nat) : (Reg.OUT_BYP_DIV_DIV n).key = 32 * (0x2600C + 0x40 * n) + 0 := id rfl
@[simp] theorem Reg.OUT_BYP_DIV_DIV_width (n : Nat) : (Reg.OUT_BYP_DIV_DIV n).width = 21 := rfl
@[simp] theorem Reg.OUT_PHASE_LO_PHASE_key (n : Nat) : (Reg.OUT_PHASE_LO_PHASE n).key = 32 * (0x26010 + 0x40 * n) + 0 := id rfl
@[simp] theorem Reg.OUT_PHASE_LO_PHASE_width (n : Nat) : (Reg.OUT_PHASE_LO_PHASE n).width = 32 := rfl
@[simp] theorem Reg.OUT_PHASE_HI_PHASE_key (n : Nat) : (Reg.OUT_PHASE_HI_PHASE n).key = 32 * (0x26014 + 0x40 * n) + 0 := id rfl
@[simp] theorem Reg.OUT_PHASE_HI_PHASE_width (n : Nat) : (Reg.OUT_PHASE_HI_PHASE n).width = 10 := rfl
@[simp] theorem Reg.OUT_FMAX_HZ_key (n : Nat) : (Reg.OUT_FMAX_HZ n).key = 32 * (0x26018 + 0x40 * n) + 0 := id rfl
@[simp] theorem Reg.OUT_FMAX_HZ_width (n : Nat) : (Reg.OUT_FMAX_HZ n).width = 32 := rfl
@[simp] theorem Reg.OUT_PULSE_W_NS_key (n : Nat) : (Reg.OUT_PULSE_W_NS n).key = 32 * (0x2601C + 0x40 * n) + 0 := id rfl
@[simp] theorem Reg.OUT_PULSE_W_NS_width (n : Nat) : (Reg.OUT_PULSE_W_NS n).width = 30 := rfl
@[simp] theorem Reg.OUT_PULSE_CFG_EVERY_key (n : Nat) : (Reg.OUT_PULSE_CFG_EVERY n).key = 32 * (0x26020 + 0x40 * n) + 8 := id rfl
@[simp] theorem Reg.OUT_PULSE_CFG_EVERY_width (n : Nat) : (Reg.OUT_PULSE_CFG_EVERY n).width = 8 := rfl
@[simp] theorem Reg.OUT_PULSE_CFG_TS_key (n : Nat) : (Reg.OUT_PULSE_CFG_TS n).key = 32 * (0x26020 + 0x40 * n) + 0 := id rfl
@[simp] theorem Reg.OUT_PULSE_CFG_TS_width (n : Nat) : (Reg.OUT_PULSE_CFG_TS n).width = 2 := rfl
@[simp] theorem Reg.OUT_FB_DIV_DIV_key (n : Nat) : (Reg.OUT_FB_DIV_DIV n).key = 32 * (0x26024 + 0x40 * n) + 0 := id rfl
@[simp] theorem Reg.OUT_FB_DIV_DIV_width (n : Nat) : (Reg.OUT_FB_DIV_DIV n).width = 24 := rfl
@[simp] theorem Reg.OUT_STATUS_PULSE_MISS_key (n : Nat) : (Reg.OUT_STATUS_PULSE_MISS n).key = 32 * (0x26028 + 0x40 * n) + 16 := id rfl
@[simp] theorem Reg.OUT_STATUS_PULSE_MISS_width (n : Nat) : (Reg.OUT_STATUS_PULSE_MISS n).width = 16 := rfl
@[simp] theorem Reg.OUT_STATUS_FREQ_ERR_key (n : Nat) : (Reg.OUT_STATUS_FREQ_ERR n).key = 32 * (0x26028 + 0x40 * n) + 6 := id rfl
@[simp] theorem Reg.OUT_STATUS_FREQ_ERR_width (n : Nat) : (Reg.OUT_STATUS_FREQ_ERR n).width = 1 := rfl
@[simp] theorem Reg.OUT_STATUS_PULSE_ERR_key (n : Nat) : (Reg.OUT_STATUS_PULSE_ERR n).key = 32 * (0x26028 + 0x40 * n) + 5 := id rfl
@[simp] theorem Reg.OUT_STATUS_PULSE_ERR_width (n : Nat) : (Reg.OUT_STATUS_PULSE_ERR n).width = 1 := rfl
@[simp] theorem Reg.OUT_STATUS_PHASE_BUSY_key (n : Nat) : (Reg.OUT_STATUS_PHASE_BUSY n).key = 32 * (0x26028 + 0x40 * n) + 4 := id rfl
@[simp] theorem Reg.OUT_STATUS_PHASE_BUSY_width (n : Nat) : (Reg.OUT_STATUS_PHASE_BUSY n).width = 1 := rfl
@[simp] theorem Reg.OUT_STATUS_AUTO_MOVED_key (n : Nat) : (Reg.OUT_STATUS_AUTO_MOVED n).key = 32 * (0x26028 + 0x40 * n) + 3 := id rfl
@[simp] theorem Reg.OUT_STATUS_AUTO_MOVED_width (n : Nat) : (Reg.OUT_STATUS_AUTO_MOVED n).width = 1 := rfl
@[simp] theorem Reg.OUT_STATUS_SRC_ACT_key (n : Nat) : (Reg.OUT_STATUS_SRC_ACT n).key = 32 * (0x26028 + 0x40 * n) + 0 := id rfl
@[simp] theorem Reg.OUT_STATUS_SRC_ACT_width (n : Nat) : (Reg.OUT_STATUS_SRC_ACT n).width = 3 := rfl
@[simp] theorem Reg.TDC_CFG_EN_key (n : Nat) : (Reg.TDC_CFG_EN n).key = 32 * (0x28000 + 0x30 * n) + 31 := id rfl
@[simp] theorem Reg.TDC_CFG_EN_width (n : Nat) : (Reg.TDC_CFG_EN n).width = 1 := rfl
@[simp] theorem Reg.TDC_CFG_EDGE_key (n : Nat) : (Reg.TDC_CFG_EDGE n).key = 32 * (0x28000 + 0x30 * n) + 29 := id rfl
@[simp] theorem Reg.TDC_CFG_EDGE_width (n : Nat) : (Reg.TDC_CFG_EDGE n).width = 2 := rfl
@[simp] theorem Reg.TDC_CFG_GATED_key (n : Nat) : (Reg.TDC_CFG_GATED n).key = 32 * (0x28000 + 0x30 * n) + 28 := id rfl
@[simp] theorem Reg.TDC_CFG_GATED_width (n : Nat) : (Reg.TDC_CFG_GATED n).width = 1 := rfl
@[simp] theorem Reg.TDC_CFG_TS_key (n : Nat) : (Reg.TDC_CFG_TS n).key = 32 * (0x28000 + 0x30 * n) + 26 := id rfl
@[simp] theorem Reg.TDC_CFG_TS_width (n : Nat) : (Reg.TDC_CFG_TS n).width = 2 := rfl
@[simp] theorem Reg.TDC_DELAY_VALUE_key (n : Nat) : (Reg.TDC_DELAY_VALUE n).key = 32 * (0x28004 + 0x30 * n) + 0 := id rfl
@[simp] theorem Reg.TDC_DELAY_VALUE_width (n : Nat) : (Reg.TDC_DELAY_VALUE n).width = 32 := rfl
@[simp] theorem Reg.TDC_USER_DELAY_VALUE_key (n : Nat) : (Reg.TDC_USER_DELAY_VALUE n).key = 32 * (0x28008 + 0x30 * n) + 0 := id rfl
@[simp] theorem Reg.TDC_USER_DELAY_VALUE_width (n : Nat) : (Reg.TDC_USER_DELAY_VALUE n).width = 32 := rfl
@[simp] theorem Reg.TDC_CAL_STATUS_T_CAL_key (n : Nat) : (Reg.TDC_CAL_STATUS_T_CAL n).key = 32 * (0x2800C + 0x30 * n) + 16 := id rfl
@[simp] theorem Reg.TDC_CAL_STATUS_T_CAL_width (n : Nat) : (Reg.TDC_CAL_STATUS_T_CAL n).width = 16 := rfl
@[simp] theorem Reg.TDC_CAL_STATUS_CAL_REJ_key (n : Nat) : (Reg.TDC_CAL_STATUS_CAL_REJ n).key = 32 * (0x2800C + 0x30 * n) + 8 := id rfl
@[simp] theorem Reg.TDC_CAL_STATUS_CAL_REJ_width (n : Nat) : (Reg.TDC_CAL_STATUS_CAL_REJ n).width = 1 := rfl
@[simp] theorem Reg.TDC_CAL_STATUS_TEMP_DRIFT_key (n : Nat) : (Reg.TDC_CAL_STATUS_TEMP_DRIFT n).key = 32 * (0x2800C + 0x30 * n) + 7 := id rfl
@[simp] theorem Reg.TDC_CAL_STATUS_TEMP_DRIFT_width (n : Nat) : (Reg.TDC_CAL_STATUS_TEMP_DRIFT n).width = 1 := rfl
@[simp] theorem Reg.TDC_CAL_STATUS_REPLACED_key (n : Nat) : (Reg.TDC_CAL_STATUS_REPLACED n).key = 32 * (0x2800C + 0x30 * n) + 6 := id rfl
@[simp] theorem Reg.TDC_CAL_STATUS_REPLACED_width (n : Nat) : (Reg.TDC_CAL_STATUS_REPLACED n).width = 1 := rfl
@[simp] theorem Reg.TDC_CAL_STATUS_CAL_BUSY_key (n : Nat) : (Reg.TDC_CAL_STATUS_CAL_BUSY n).key = 32 * (0x2800C + 0x30 * n) + 5 := id rfl
@[simp] theorem Reg.TDC_CAL_STATUS_CAL_BUSY_width (n : Nat) : (Reg.TDC_CAL_STATUS_CAL_BUSY n).width = 1 := rfl
@[simp] theorem Reg.TDC_CAL_STATUS_CAL_FAIL_key (n : Nat) : (Reg.TDC_CAL_STATUS_CAL_FAIL n).key = 32 * (0x2800C + 0x30 * n) + 4 := id rfl
@[simp] theorem Reg.TDC_CAL_STATUS_CAL_FAIL_width (n : Nat) : (Reg.TDC_CAL_STATUS_CAL_FAIL n).width = 1 := rfl
@[simp] theorem Reg.TDC_CAL_STATUS_TABLE_VALID_key (n : Nat) : (Reg.TDC_CAL_STATUS_TABLE_VALID n).key = 32 * (0x2800C + 0x30 * n) + 3 := id rfl
@[simp] theorem Reg.TDC_CAL_STATUS_TABLE_VALID_width (n : Nat) : (Reg.TDC_CAL_STATUS_TABLE_VALID n).width = 1 := rfl
@[simp] theorem Reg.TDC_CAL_STATUS_DLL_LOCK_key (n : Nat) : (Reg.TDC_CAL_STATUS_DLL_LOCK n).key = 32 * (0x2800C + 0x30 * n) + 2 := id rfl
@[simp] theorem Reg.TDC_CAL_STATUS_DLL_LOCK_width (n : Nat) : (Reg.TDC_CAL_STATUS_DLL_LOCK n).width = 1 := rfl
@[simp] theorem Reg.TDC_LAST_LO_DATA_key (n : Nat) : (Reg.TDC_LAST_LO_DATA n).key = 32 * (0x28010 + 0x30 * n) + 0 := id rfl
@[simp] theorem Reg.TDC_LAST_LO_DATA_width (n : Nat) : (Reg.TDC_LAST_LO_DATA n).width = 32 := rfl
@[simp] theorem Reg.TDC_LAST_HI_DATA_key (n : Nat) : (Reg.TDC_LAST_HI_DATA n).key = 32 * (0x28014 + 0x30 * n) + 0 := id rfl
@[simp] theorem Reg.TDC_LAST_HI_DATA_width (n : Nat) : (Reg.TDC_LAST_HI_DATA n).width = 32 := rfl
@[simp] theorem Reg.TDC_PILEUP_COUNT_key (n : Nat) : (Reg.TDC_PILEUP_COUNT n).key = 32 * (0x28018 + 0x30 * n) + 0 := id rfl
@[simp] theorem Reg.TDC_PILEUP_COUNT_width (n : Nat) : (Reg.TDC_PILEUP_COUNT n).width = 32 := rfl
@[simp] theorem Reg.TDC_FIFO_MAX_key (n : Nat) : (Reg.TDC_FIFO_MAX n).key = 32 * (0x2801C + 0x30 * n) + 16 := id rfl
@[simp] theorem Reg.TDC_FIFO_MAX_width (n : Nat) : (Reg.TDC_FIFO_MAX n).width = 11 := rfl
@[simp] theorem Reg.TDC_FIFO_LEVEL_key (n : Nat) : (Reg.TDC_FIFO_LEVEL n).key = 32 * (0x2801C + 0x30 * n) + 0 := id rfl
@[simp] theorem Reg.TDC_FIFO_LEVEL_width (n : Nat) : (Reg.TDC_FIFO_LEVEL n).width = 11 := rfl
@[simp] theorem Reg.TDC_REC_LOST_COUNT_key (n : Nat) : (Reg.TDC_REC_LOST_COUNT n).key = 32 * (0x28020 + 0x30 * n) + 0 := id rfl
@[simp] theorem Reg.TDC_REC_LOST_COUNT_width (n : Nat) : (Reg.TDC_REC_LOST_COUNT n).width = 32 := rfl
@[simp] theorem Reg.TDC_EDGES_COUNT_key (n : Nat) : (Reg.TDC_EDGES_COUNT n).key = 32 * (0x28024 + 0x30 * n) + 0 := id rfl
@[simp] theorem Reg.TDC_EDGES_COUNT_width (n : Nat) : (Reg.TDC_EDGES_COUNT n).width = 32 := rfl
@[simp] theorem Reg.TDC_CMD_CAL_key (n : Nat) : (Reg.TDC_CMD_CAL n).key = 32 * (0x28028 + 0x30 * n) + 0 := id rfl
@[simp] theorem Reg.TDC_CMD_CAL_width (n : Nat) : (Reg.TDC_CMD_CAL n).width = 1 := rfl
@[simp] theorem Reg.TDCG_XBAR_CFG_AUTO_key : Reg.TDCG_XBAR_CFG_AUTO.key = 32 * (0x289C0) + 31 := id rfl
@[simp] theorem Reg.TDCG_XBAR_CFG_AUTO_width : Reg.TDCG_XBAR_CFG_AUTO.width = 1 := rfl
@[simp] theorem Reg.TDCG_XBAR_CFG_MIRROR_N_key : Reg.TDCG_XBAR_CFG_MIRROR_N.key = 32 * (0x289C0) + 0 := id rfl
@[simp] theorem Reg.TDCG_XBAR_CFG_MIRROR_N_width : Reg.TDCG_XBAR_CFG_MIRROR_N.width = 16 := rfl
@[simp] theorem Reg.TDCG_SPARE_AUTO_TAKEN_key (i : Nat) : (Reg.TDCG_SPARE_AUTO_TAKEN i).key = 32 * (0x289C4 + 0x4 * i) + 21 := id rfl
@[simp] theorem Reg.TDCG_SPARE_AUTO_TAKEN_width (i : Nat) : (Reg.TDCG_SPARE_AUTO_TAKEN i).width = 1 := rfl
@[simp] theorem Reg.TDCG_SPARE_REJ_key (i : Nat) : (Reg.TDCG_SPARE_REJ i).key = 32 * (0x289C4 + 0x4 * i) + 20 := id rfl
@[simp] theorem Reg.TDCG_SPARE_REJ_width (i : Nat) : (Reg.TDCG_SPARE_REJ i).width = 1 := rfl
@[simp] theorem Reg.TDCG_SPARE_SHORT_key (i : Nat) : (Reg.TDCG_SPARE_SHORT i).key = 32 * (0x289C4 + 0x4 * i) + 19 := id rfl
@[simp] theorem Reg.TDCG_SPARE_SHORT_width (i : Nat) : (Reg.TDCG_SPARE_SHORT i).width = 1 := rfl
@[simp] theorem Reg.TDCG_SPARE_STATE_key (i : Nat) : (Reg.TDCG_SPARE_STATE i).key = 32 * (0x289C4 + 0x4 * i) + 16 := id rfl
@[simp] theorem Reg.TDCG_SPARE_STATE_width (i : Nat) : (Reg.TDCG_SPARE_STATE i).width = 3 := rfl
@[simp] theorem Reg.TDCG_SPARE_ROLE_key (i : Nat) : (Reg.TDCG_SPARE_ROLE i).key = 32 * (0x289C4 + 0x4 * i) + 8 := id rfl
@[simp] theorem Reg.TDCG_SPARE_ROLE_width (i : Nat) : (Reg.TDCG_SPARE_ROLE i).width = 6 := rfl
@[simp] theorem Reg.TDCG_SPARE_RELEASE_key (i : Nat) : (Reg.TDCG_SPARE_RELEASE i).key = 32 * (0x289C4 + 0x4 * i) + 1 := id rfl
@[simp] theorem Reg.TDCG_SPARE_RELEASE_width (i : Nat) : (Reg.TDCG_SPARE_RELEASE i).width = 1 := rfl
@[simp] theorem Reg.TDCG_SPARE_TAKE_key (i : Nat) : (Reg.TDCG_SPARE_TAKE i).key = 32 * (0x289C4 + 0x4 * i) + 0 := id rfl
@[simp] theorem Reg.TDCG_SPARE_TAKE_width (i : Nat) : (Reg.TDCG_SPARE_TAKE i).width = 1 := rfl
@[simp] theorem Reg.TDCG_CAL_CFG_HITS_LOG_key : Reg.TDCG_CAL_CFG_HITS_LOG.key = 32 * (0x289D4) + 0 := id rfl
@[simp] theorem Reg.TDCG_CAL_CFG_HITS_LOG_width : Reg.TDCG_CAL_CFG_HITS_LOG.width = 3 := rfl
@[simp] theorem Reg.TDCG_CAL_CMD_ALL_key : Reg.TDCG_CAL_CMD_ALL.key = 32 * (0x289D8) + 0 := id rfl
@[simp] theorem Reg.TDCG_CAL_CMD_ALL_width : Reg.TDCG_CAL_CMD_ALL.width = 1 := rfl
@[simp] theorem Reg.TDCG_MIRROR_DIFF_D_key (i : Nat) : (Reg.TDCG_MIRROR_DIFF_D i).key = 32 * (0x289E0 + 0x4 * i) + 0 := id rfl
@[simp] theorem Reg.TDCG_MIRROR_DIFF_D_width (i : Nat) : (Reg.TDCG_MIRROR_DIFF_D i).width = 32 := rfl
@[simp] theorem Reg.M_CFG_MODE_key (n : Nat) : (Reg.M_CFG_MODE n).key = 32 * (0x28A00 + 0x30 * n) + 30 := id rfl
@[simp] theorem Reg.M_CFG_MODE_width (n : Nat) : (Reg.M_CFG_MODE n).width = 2 := rfl
@[simp] theorem Reg.M_CFG_ORDER_key (n : Nat) : (Reg.M_CFG_ORDER n).key = 32 * (0x28A00 + 0x30 * n) + 29 := id rfl
@[simp] theorem Reg.M_CFG_ORDER_width (n : Nat) : (Reg.M_CFG_ORDER n).width = 1 := rfl
@[simp] theorem Reg.M_CFG_BASE_key (n : Nat) : (Reg.M_CFG_BASE n).key = 32 * (0x28A00 + 0x30 * n) + 28 := id rfl
@[simp] theorem Reg.M_CFG_BASE_width (n : Nat) : (Reg.M_CFG_BASE n).width = 1 := rfl
@[simp] theorem Reg.M_CFG_CONT_key (n : Nat) : (Reg.M_CFG_CONT n).key = 32 * (0x28A00 + 0x30 * n) + 27 := id rfl
@[simp] theorem Reg.M_CFG_CONT_width (n : Nat) : (Reg.M_CFG_CONT n).width = 1 := rfl
@[simp] theorem Reg.M_CFG_MBX_SEL_key (n : Nat) : (Reg.M_CFG_MBX_SEL n).key = 32 * (0x28A00 + 0x30 * n) + 24 := id rfl
@[simp] theorem Reg.M_CFG_MBX_SEL_width (n : Nat) : (Reg.M_CFG_MBX_SEL n).width = 3 := rfl
@[simp] theorem Reg.M_CFG_DEC_key (n : Nat) : (Reg.M_CFG_DEC n).key = 32 * (0x28A00 + 0x30 * n) + 20 := id rfl
@[simp] theorem Reg.M_CFG_DEC_width (n : Nat) : (Reg.M_CFG_DEC n).width = 4 := rfl
@[simp] theorem Reg.M_CFG_START_key (n : Nat) : (Reg.M_CFG_START n).key = 32 * (0x28A00 + 0x30 * n) + 8 := id rfl
@[simp] theorem Reg.M_CFG_START_width (n : Nat) : (Reg.M_CFG_START n).width = 6 := rfl
@[simp] theorem Reg.M_CFG_STOP_EN_key (n : Nat) : (Reg.M_CFG_STOP_EN n).key = 32 * (0x28A00 + 0x30 * n) + 0 := id rfl
@[simp] theorem Reg.M_CFG_STOP_EN_width (n : Nat) : (Reg.M_CFG_STOP_EN n).width = 8 := rfl
@[simp] theorem Reg.M_STOPS_A_STOP3_key (n : Nat) : (Reg.M_STOPS_A_STOP3 n).key = 32 * (0x28A04 + 0x30 * n) + 24 := id rfl
@[simp] theorem Reg.M_STOPS_A_STOP3_width (n : Nat) : (Reg.M_STOPS_A_STOP3 n).width = 6 := rfl
@[simp] theorem Reg.M_STOPS_A_STOP2_key (n : Nat) : (Reg.M_STOPS_A_STOP2 n).key = 32 * (0x28A04 + 0x30 * n) + 16 := id rfl
@[simp] theorem Reg.M_STOPS_A_STOP2_width (n : Nat) : (Reg.M_STOPS_A_STOP2 n).width = 6 := rfl
@[simp] theorem Reg.M_STOPS_A_STOP1_key (n : Nat) : (Reg.M_STOPS_A_STOP1 n).key = 32 * (0x28A04 + 0x30 * n) + 8 := id rfl
@[simp] theorem Reg.M_STOPS_A_STOP1_width (n : Nat) : (Reg.M_STOPS_A_STOP1 n).width = 6 := rfl
@[simp] theorem Reg.M_STOPS_A_STOP0_key (n : Nat) : (Reg.M_STOPS_A_STOP0 n).key = 32 * (0x28A04 + 0x30 * n) + 0 := id rfl
@[simp] theorem Reg.M_STOPS_A_STOP0_width (n : Nat) : (Reg.M_STOPS_A_STOP0 n).width = 6 := rfl
@[simp] theorem Reg.M_STOPS_B_STOP7_key (n : Nat) : (Reg.M_STOPS_B_STOP7 n).key = 32 * (0x28A08 + 0x30 * n) + 24 := id rfl
@[simp] theorem Reg.M_STOPS_B_STOP7_width (n : Nat) : (Reg.M_STOPS_B_STOP7 n).width = 6 := rfl
@[simp] theorem Reg.M_STOPS_B_STOP6_key (n : Nat) : (Reg.M_STOPS_B_STOP6 n).key = 32 * (0x28A08 + 0x30 * n) + 16 := id rfl
@[simp] theorem Reg.M_STOPS_B_STOP6_width (n : Nat) : (Reg.M_STOPS_B_STOP6 n).width = 6 := rfl
@[simp] theorem Reg.M_STOPS_B_STOP5_key (n : Nat) : (Reg.M_STOPS_B_STOP5 n).key = 32 * (0x28A08 + 0x30 * n) + 8 := id rfl
@[simp] theorem Reg.M_STOPS_B_STOP5_width (n : Nat) : (Reg.M_STOPS_B_STOP5 n).width = 6 := rfl
@[simp] theorem Reg.M_STOPS_B_STOP4_key (n : Nat) : (Reg.M_STOPS_B_STOP4 n).key = 32 * (0x28A08 + 0x30 * n) + 0 := id rfl
@[simp] theorem Reg.M_STOPS_B_STOP4_width (n : Nat) : (Reg.M_STOPS_B_STOP4 n).width = 6 := rfl
@[simp] theorem Reg.M_WINDOW_LSB_key (n : Nat) : (Reg.M_WINDOW_LSB n).key = 32 * (0x28A0C + 0x30 * n) + 0 := id rfl
@[simp] theorem Reg.M_WINDOW_LSB_width (n : Nat) : (Reg.M_WINDOW_LSB n).width = 31 := rfl
@[simp] theorem Reg.M_LEN_VALUE_key (n : Nat) : (Reg.M_LEN_VALUE n).key = 32 * (0x28A10 + 0x30 * n) + 0 := id rfl
@[simp] theorem Reg.M_LEN_VALUE_width (n : Nat) : (Reg.M_LEN_VALUE n).width = 25 := rfl
@[simp] theorem Reg.M_FNOM_HZ_key (n : Nat) : (Reg.M_FNOM_HZ n).key = 32 * (0x28A14 + 0x30 * n) + 0 := id rfl
@[simp] theorem Reg.M_FNOM_HZ_width (n : Nat) : (Reg.M_FNOM_HZ n).width = 28 := rfl
@[simp] theorem Reg.M_CMD_STOP_key (n : Nat) : (Reg.M_CMD_STOP n).key = 32 * (0x28A18 + 0x30 * n) + 1 := id rfl
@[simp] theorem Reg.M_CMD_STOP_width (n : Nat) : (Reg.M_CMD_STOP n).width = 1 := rfl
@[simp] theorem Reg.M_CMD_START_key (n : Nat) : (Reg.M_CMD_START n).key = 32 * (0x28A18 + 0x30 * n) + 0 := id rfl
@[simp] theorem Reg.M_CMD_START_width (n : Nat) : (Reg.M_CMD_START n).width = 1 := rfl
@[simp] theorem Reg.M_STATUS_SEQ_key (n : Nat) : (Reg.M_STATUS_SEQ n).key = 32 * (0x28A1C + 0x30 * n) + 16 := id rfl
@[simp] theorem Reg.M_STATUS_SEQ_width (n : Nat) : (Reg.M_STATUS_SEQ n).width = 16 := rfl
@[simp] theorem Reg.M_STATUS_CFG_ERR_key (n : Nat) : (Reg.M_STATUS_CFG_ERR n).key = 32 * (0x28A1C + 0x30 * n) + 2 := id rfl
@[simp] theorem Reg.M_STATUS_CFG_ERR_width (n : Nat) : (Reg.M_STATUS_CFG_ERR n).width = 1 := rfl
@[simp] theorem Reg.M_STATUS_RUNNING_key (n : Nat) : (Reg.M_STATUS_RUNNING n).key = 32 * (0x28A1C + 0x30 * n) + 1 := id rfl
@[simp] theorem Reg.M_STATUS_RUNNING_width (n : Nat) : (Reg.M_STATUS_RUNNING n).width = 1 := rfl
@[simp] theorem Reg.M_RES_SEL_STOP_key (n : Nat) : (Reg.M_RES_SEL_STOP n).key = 32 * (0x28A20 + 0x30 * n) + 2 := id rfl
@[simp] theorem Reg.M_RES_SEL_STOP_width (n : Nat) : (Reg.M_RES_SEL_STOP n).width = 3 := rfl
@[simp] theorem Reg.M_RES_SEL_key (n : Nat) : (Reg.M_RES_SEL n).key = 32 * (0x28A20 + 0x30 * n) + 0 := id rfl
@[simp] theorem Reg.M_RES_SEL_width (n : Nat) : (Reg.M_RES_SEL n).width = 2 := rfl
@[simp] theorem Reg.M_RES_LO_DATA_key (n : Nat) : (Reg.M_RES_LO_DATA n).key = 32 * (0x28A24 + 0x30 * n) + 0 := id rfl
@[simp] theorem Reg.M_RES_LO_DATA_width (n : Nat) : (Reg.M_RES_LO_DATA n).width = 32 := rfl
@[simp] theorem Reg.M_RES_HI_DATA_key (n : Nat) : (Reg.M_RES_HI_DATA n).key = 32 * (0x28A28 + 0x30 * n) + 0 := id rfl
@[simp] theorem Reg.M_RES_HI_DATA_width (n : Nat) : (Reg.M_RES_HI_DATA n).width = 32 := rfl
@[simp] theorem Reg.M_COUNTS_ORDER_VIOL_key (n : Nat) : (Reg.M_COUNTS_ORDER_VIOL n).key = 32 * (0x28A2C + 0x30 * n) + 20 := id rfl
@[simp] theorem Reg.M_COUNTS_ORDER_VIOL_width (n : Nat) : (Reg.M_COUNTS_ORDER_VIOL n).width = 12 := rfl
@[simp] theorem Reg.M_COUNTS_MISS_key (n : Nat) : (Reg.M_COUNTS_MISS n).key = 32 * (0x28A2C + 0x30 * n) + 8 := id rfl
@[simp] theorem Reg.M_COUNTS_MISS_width (n : Nat) : (Reg.M_COUNTS_MISS n).width = 12 := rfl
@[simp] theorem Reg.M_COUNTS_START_SKIP_key (n : Nat) : (Reg.M_COUNTS_START_SKIP n).key = 32 * (0x28A2C + 0x30 * n) + 0 := id rfl
@[simp] theorem Reg.M_COUNTS_START_SKIP_width (n : Nat) : (Reg.M_COUNTS_START_SKIP n).width = 8 := rfl
@[simp] theorem Reg.TS_CFG_FREE_key (n : Nat) : (Reg.TS_CFG_FREE n).key = 32 * (0x30000 + 0x40 * n) + 31 := id rfl
@[simp] theorem Reg.TS_CFG_FREE_width (n : Nat) : (Reg.TS_CFG_FREE n).width = 1 := rfl
@[simp] theorem Reg.TS_CFG_PATH_key (n : Nat) : (Reg.TS_CFG_PATH n).key = 32 * (0x30000 + 0x40 * n) + 28 := id rfl
@[simp] theorem Reg.TS_CFG_PATH_width (n : Nat) : (Reg.TS_CFG_PATH n).width = 3 := rfl
@[simp] theorem Reg.TS_CFG_EDGE_SLOT_key (n : Nat) : (Reg.TS_CFG_EDGE_SLOT n).key = 32 * (0x30000 + 0x40 * n) + 8 := id rfl
@[simp] theorem Reg.TS_CFG_EDGE_SLOT_width (n : Nat) : (Reg.TS_CFG_EDGE_SLOT n).width = 5 := rfl
@[simp] theorem Reg.TS_CFG_AT_EDGE_key (n : Nat) : (Reg.TS_CFG_AT_EDGE n).key = 32 * (0x30000 + 0x40 * n) + 0 := id rfl
@[simp] theorem Reg.TS_CFG_AT_EDGE_width (n : Nat) : (Reg.TS_CFG_AT_EDGE n).width = 1 := rfl
@[simp] theorem Reg.TS_CMD_ADJ_key (n : Nat) : (Reg.TS_CMD_ADJ n).key = 32 * (0x30004 + 0x40 * n) + 2 := id rfl
@[simp] theorem Reg.TS_CMD_ADJ_width (n : Nat) : (Reg.TS_CMD_ADJ n).width = 1 := rfl
@[simp] theorem Reg.TS_CMD_SET_key (n : Nat) : (Reg.TS_CMD_SET n).key = 32 * (0x30004 + 0x40 * n) + 1 := id rfl
@[simp] theorem Reg.TS_CMD_SET_width (n : Nat) : (Reg.TS_CMD_SET n).width = 1 := rfl
@[simp] theorem Reg.TS_CMD_CAPTURE_key (n : Nat) : (Reg.TS_CMD_CAPTURE n).key = 32 * (0x30004 + 0x40 * n) + 0 := id rfl
@[simp] theorem Reg.TS_CMD_CAPTURE_width (n : Nat) : (Reg.TS_CMD_CAPTURE n).width = 1 := rfl
@[simp] theorem Reg.TS_STATUS_REJ_key (n : Nat) : (Reg.TS_STATUS_REJ n).key = 32 * (0x30008 + 0x40 * n) + 3 := id rfl
@[simp] theorem Reg.TS_STATUS_REJ_width (n : Nat) : (Reg.TS_STATUS_REJ n).width = 1 := rfl
@[simp] theorem Reg.TS_STATUS_ON_XO_key (n : Nat) : (Reg.TS_STATUS_ON_XO n).key = 32 * (0x30008 + 0x40 * n) + 2 := id rfl
@[simp] theorem Reg.TS_STATUS_ON_XO_width (n : Nat) : (Reg.TS_STATUS_ON_XO n).width = 1 := rfl
@[simp] theorem Reg.TS_STATUS_TIMEOUT_key (n : Nat) : (Reg.TS_STATUS_TIMEOUT n).key = 32 * (0x30008 + 0x40 * n) + 1 := id rfl
@[simp] theorem Reg.TS_STATUS_TIMEOUT_width (n : Nat) : (Reg.TS_STATUS_TIMEOUT n).width = 1 := rfl
@[simp] theorem Reg.TS_STATUS_PENDING_key (n : Nat) : (Reg.TS_STATUS_PENDING n).key = 32 * (0x30008 + 0x40 * n) + 0 := id rfl
@[simp] theorem Reg.TS_STATUS_PENDING_width (n : Nat) : (Reg.TS_STATUS_PENDING n).width = 1 := rfl
@[simp] theorem Reg.TS_STEPS_COUNT_key (n : Nat) : (Reg.TS_STEPS_COUNT n).key = 32 * (0x3000C + 0x40 * n) + 0 := id rfl
@[simp] theorem Reg.TS_STEPS_COUNT_width (n : Nat) : (Reg.TS_STEPS_COUNT n).width = 32 := rfl
@[simp] theorem Reg.TS_INC_LO_DATA_key (n : Nat) : (Reg.TS_INC_LO_DATA n).key = 32 * (0x30010 + 0x40 * n) + 0 := id rfl
@[simp] theorem Reg.TS_INC_LO_DATA_width (n : Nat) : (Reg.TS_INC_LO_DATA n).width = 32 := rfl
@[simp] theorem Reg.TS_INC_HI_DATA_key (n : Nat) : (Reg.TS_INC_HI_DATA n).key = 32 * (0x30014 + 0x40 * n) + 0 := id rfl
@[simp] theorem Reg.TS_INC_HI_DATA_width (n : Nat) : (Reg.TS_INC_HI_DATA n).width = 32 := rfl
@[simp] theorem Reg.TS_INC_XO_LO_DATA_key (n : Nat) : (Reg.TS_INC_XO_LO_DATA n).key = 32 * (0x30018 + 0x40 * n) + 0 := id rfl
@[simp] theorem Reg.TS_INC_XO_LO_DATA_width (n : Nat) : (Reg.TS_INC_XO_LO_DATA n).width = 32 := rfl
@[simp] theorem Reg.TS_INC_XO_HI_DATA_key (n : Nat) : (Reg.TS_INC_XO_HI_DATA n).key = 32 * (0x3001C + 0x40 * n) + 0 := id rfl
@[simp] theorem Reg.TS_INC_XO_HI_DATA_width (n : Nat) : (Reg.TS_INC_XO_HI_DATA n).width = 32 := rfl
@[simp] theorem Reg.TS_CAP_S_LO_S_key (n : Nat) : (Reg.TS_CAP_S_LO_S n).key = 32 * (0x30020 + 0x40 * n) + 0 := id rfl
@[simp] theorem Reg.TS_CAP_S_LO_S_width (n : Nat) : (Reg.TS_CAP_S_LO_S n).width = 32 := rfl
@[simp] theorem Reg.TS_CAP_S_HI_S_key (n : Nat) : (Reg.TS_CAP_S_HI_S n).key = 32 * (0x30024 + 0x40 * n) + 0 := id rfl
@[simp] theorem Reg.TS_CAP_S_HI_S_width (n : Nat) : (Reg.TS_CAP_S_HI_S n).width = 16 := rfl
@[simp] theorem Reg.TS_CAP_NS_NS_key (n : Nat) : (Reg.TS_CAP_NS_NS n).key = 32 * (0x30028 + 0x40 * n) + 0 := id rfl
@[simp] theorem Reg.TS_CAP_NS_NS_width (n : Nat) : (Reg.TS_CAP_NS_NS n).width = 30 := rfl
@[simp] theorem Reg.TS_CAP_FRAC_FRAC_key (n : Nat) : (Reg.TS_CAP_FRAC_FRAC n).key = 32 * (0x3002C + 0x40 * n) + 0 := id rfl
@[simp] theorem Reg.TS_CAP_FRAC_FRAC_width (n : Nat) : (Reg.TS_CAP_FRAC_FRAC n).width = 16 := rfl
@[simp] theorem Reg.TS_VAL_S_LO_S_key (n : Nat) : (Reg.TS_VAL_S_LO_S n).key = 32 * (0x30030 + 0x40 * n) + 0 := id rfl
@[simp] theorem Reg.TS_VAL_S_LO_S_width (n : Nat) : (Reg.TS_VAL_S_LO_S n).width = 32 := rfl
@[simp] theorem Reg.TS_VAL_S_HI_S_key (n : Nat) : (Reg.TS_VAL_S_HI_S n).key = 32 * (0x30034 + 0x40 * n) + 0 := id rfl
@[simp] theorem Reg.TS_VAL_S_HI_S_width (n : Nat) : (Reg.TS_VAL_S_HI_S n).width = 16 := rfl
@[simp] theorem Reg.TS_VAL_NS_NS_key (n : Nat) : (Reg.TS_VAL_NS_NS n).key = 32 * (0x30038 + 0x40 * n) + 0 := id rfl
@[simp] theorem Reg.TS_VAL_NS_NS_width (n : Nat) : (Reg.TS_VAL_NS_NS n).width = 30 := rfl
@[simp] theorem Reg.TS_VAL_FRAC_FRAC_key (n : Nat) : (Reg.TS_VAL_FRAC_FRAC n).key = 32 * (0x3003C + 0x40 * n) + 0 := id rfl
@[simp] theorem Reg.TS_VAL_FRAC_FRAC_width (n : Nat) : (Reg.TS_VAL_FRAC_FRAC n).width = 16 := rfl
@[simp] theorem Reg.TG_CFG_TS_key (n : Nat) : (Reg.TG_CFG_TS n).key = 32 * (0x30100 + 0x18 * n) + 30 := id rfl
@[simp] theorem Reg.TG_CFG_TS_width (n : Nat) : (Reg.TG_CFG_TS n).width = 2 := rfl
@[simp] theorem Reg.TG_CFG_ACTION_key (n : Nat) : (Reg.TG_CFG_ACTION n).key = 32 * (0x30100 + 0x18 * n) + 28 := id rfl
@[simp] theorem Reg.TG_CFG_ACTION_width (n : Nat) : (Reg.TG_CFG_ACTION n).width = 2 := rfl
@[simp] theorem Reg.TG_CFG_TARGET_key (n : Nat) : (Reg.TG_CFG_TARGET n).key = 32 * (0x30100 + 0x18 * n) + 22 := id rfl
@[simp] theorem Reg.TG_CFG_TARGET_width (n : Nat) : (Reg.TG_CFG_TARGET n).width = 6 := rfl
@[simp] theorem Reg.TG_CFG_LATE_key (n : Nat) : (Reg.TG_CFG_LATE n).key = 32 * (0x30100 + 0x18 * n) + 21 := id rfl
@[simp] theorem Reg.TG_CFG_LATE_width (n : Nat) : (Reg.TG_CFG_LATE n).width = 1 := rfl
@[simp] theorem Reg.TG_CFG_POL_key (n : Nat) : (Reg.TG_CFG_POL n).key = 32 * (0x30100 + 0x18 * n) + 20 := id rfl
@[simp] theorem Reg.TG_CFG_POL_width (n : Nat) : (Reg.TG_CFG_POL n).width = 1 := rfl
@[simp] theorem Reg.TG_CFG_EN_key (n : Nat) : (Reg.TG_CFG_EN n).key = 32 * (0x30100 + 0x18 * n) + 16 := id rfl
@[simp] theorem Reg.TG_CFG_EN_width (n : Nat) : (Reg.TG_CFG_EN n).width = 1 := rfl
@[simp] theorem Reg.TG_CFG_REPEAT_key (n : Nat) : (Reg.TG_CFG_REPEAT n).key = 32 * (0x30100 + 0x18 * n) + 0 := id rfl
@[simp] theorem Reg.TG_CFG_REPEAT_width (n : Nat) : (Reg.TG_CFG_REPEAT n).width = 16 := rfl
@[simp] theorem Reg.TG_TIME_LO_T_key (n : Nat) : (Reg.TG_TIME_LO_T n).key = 32 * (0x30104 + 0x18 * n) + 0 := id rfl
@[simp] theorem Reg.TG_TIME_LO_T_width (n : Nat) : (Reg.TG_TIME_LO_T n).width = 32 := rfl
@[simp] theorem Reg.TG_TIME_HI_T_key (n : Nat) : (Reg.TG_TIME_HI_T n).key = 32 * (0x30108 + 0x18 * n) + 0 := id rfl
@[simp] theorem Reg.TG_TIME_HI_T_width (n : Nat) : (Reg.TG_TIME_HI_T n).width = 32 := rfl
@[simp] theorem Reg.TG_PERIOD_NS_key (n : Nat) : (Reg.TG_PERIOD_NS n).key = 32 * (0x3010C + 0x18 * n) + 0 := id rfl
@[simp] theorem Reg.TG_PERIOD_NS_width (n : Nat) : (Reg.TG_PERIOD_NS n).width = 32 := rfl
@[simp] theorem Reg.TG_PARAM_NS_key (n : Nat) : (Reg.TG_PARAM_NS n).key = 32 * (0x30110 + 0x18 * n) + 0 := id rfl
@[simp] theorem Reg.TG_PARAM_NS_width (n : Nat) : (Reg.TG_PARAM_NS n).width = 32 := rfl
@[simp] theorem Reg.TG_STATUS_FIRED_key (n : Nat) : (Reg.TG_STATUS_FIRED n).key = 32 * (0x30114 + 0x18 * n) + 16 := id rfl
@[simp] theorem Reg.TG_STATUS_FIRED_width (n : Nat) : (Reg.TG_STATUS_FIRED n).width = 16 := rfl
@[simp] theorem Reg.TG_STATUS_MISSED_key (n : Nat) : (Reg.TG_STATUS_MISSED n).key = 32 * (0x30114 + 0x18 * n) + 8 := id rfl
@[simp] theorem Reg.TG_STATUS_MISSED_width (n : Nat) : (Reg.TG_STATUS_MISSED n).width = 8 := rfl
@[simp] theorem Reg.TG_STATUS_CFG_ERR_key (n : Nat) : (Reg.TG_STATUS_CFG_ERR n).key = 32 * (0x30114 + 0x18 * n) + 4 := id rfl
@[simp] theorem Reg.TG_STATUS_CFG_ERR_width (n : Nat) : (Reg.TG_STATUS_CFG_ERR n).width = 1 := rfl
@[simp] theorem Reg.TG_STATUS_COARSE_key (n : Nat) : (Reg.TG_STATUS_COARSE n).key = 32 * (0x30114 + 0x18 * n) + 3 := id rfl
@[simp] theorem Reg.TG_STATUS_COARSE_width (n : Nat) : (Reg.TG_STATUS_COARSE n).width = 1 := rfl
@[simp] theorem Reg.TG_STATUS_EMPTY_key (n : Nat) : (Reg.TG_STATUS_EMPTY n).key = 32 * (0x30114 + 0x18 * n) + 2 := id rfl
@[simp] theorem Reg.TG_STATUS_EMPTY_width (n : Nat) : (Reg.TG_STATUS_EMPTY n).width = 1 := rfl
@[simp] theorem Reg.TG_STATUS_LATE_key (n : Nat) : (Reg.TG_STATUS_LATE n).key = 32 * (0x30114 + 0x18 * n) + 1 := id rfl
@[simp] theorem Reg.TG_STATUS_LATE_width (n : Nat) : (Reg.TG_STATUS_LATE n).width = 1 := rfl
@[simp] theorem Reg.TG_STATUS_ARMED_key (n : Nat) : (Reg.TG_STATUS_ARMED n).key = 32 * (0x30114 + 0x18 * n) + 0 := id rfl
@[simp] theorem Reg.TG_STATUS_ARMED_width (n : Nat) : (Reg.TG_STATUS_ARMED n).width = 1 := rfl
@[simp] theorem Reg.ETH_CTRL_EN_key (n : Nat) : (Reg.ETH_CTRL_EN n).key = 32 * (0x34000 + 0x400 * n) + 31 := id rfl
@[simp] theorem Reg.ETH_CTRL_EN_width (n : Nat) : (Reg.ETH_CTRL_EN n).width = 1 := rfl
@[simp] theorem Reg.ETH_CTRL_MODE_key (n : Nat) : (Reg.ETH_CTRL_MODE n).key = 32 * (0x34000 + 0x400 * n) + 29 := id rfl
@[simp] theorem Reg.ETH_CTRL_MODE_width (n : Nat) : (Reg.ETH_CTRL_MODE n).width = 2 := rfl
@[simp] theorem Reg.ETH_CTRL_FEC_key (n : Nat) : (Reg.ETH_CTRL_FEC n).key = 32 * (0x34000 + 0x400 * n) + 28 := id rfl
@[simp] theorem Reg.ETH_CTRL_FEC_width (n : Nat) : (Reg.ETH_CTRL_FEC n).width = 1 := rfl
@[simp] theorem Reg.ETH_CTRL_AN_key (n : Nat) : (Reg.ETH_CTRL_AN n).key = 32 * (0x34000 + 0x400 * n) + 27 := id rfl
@[simp] theorem Reg.ETH_CTRL_AN_width (n : Nat) : (Reg.ETH_CTRL_AN n).width = 1 := rfl
@[simp] theorem Reg.ETH_CTRL_PROMISC_key (n : Nat) : (Reg.ETH_CTRL_PROMISC n).key = 32 * (0x34000 + 0x400 * n) + 26 := id rfl
@[simp] theorem Reg.ETH_CTRL_PROMISC_width (n : Nat) : (Reg.ETH_CTRL_PROMISC n).width = 1 := rfl
@[simp] theorem Reg.ETH_CTRL_LPBK_key (n : Nat) : (Reg.ETH_CTRL_LPBK n).key = 32 * (0x34000 + 0x400 * n) + 24 := id rfl
@[simp] theorem Reg.ETH_CTRL_LPBK_width (n : Nat) : (Reg.ETH_CTRL_LPBK n).width = 2 := rfl
@[simp] theorem Reg.ETH_STATUS_TX_CLAMP_key (n : Nat) : (Reg.ETH_STATUS_TX_CLAMP n).key = 32 * (0x34004 + 0x400 * n) + 7 := id rfl
@[simp] theorem Reg.ETH_STATUS_TX_CLAMP_width (n : Nat) : (Reg.ETH_STATUS_TX_CLAMP n).width = 1 := rfl
@[simp] theorem Reg.ETH_STATUS_RXCLK_OK_key (n : Nat) : (Reg.ETH_STATUS_RXCLK_OK n).key = 32 * (0x34004 + 0x400 * n) + 6 := id rfl
@[simp] theorem Reg.ETH_STATUS_RXCLK_OK_width (n : Nat) : (Reg.ETH_STATUS_RXCLK_OK n).width = 1 := rfl
@[simp] theorem Reg.ETH_STATUS_REMOTE_FAULT_key (n : Nat) : (Reg.ETH_STATUS_REMOTE_FAULT n).key = 32 * (0x34004 + 0x400 * n) + 5 := id rfl
@[simp] theorem Reg.ETH_STATUS_REMOTE_FAULT_width (n : Nat) : (Reg.ETH_STATUS_REMOTE_FAULT n).width = 1 := rfl
@[simp] theorem Reg.ETH_STATUS_LOCAL_FAULT_key (n : Nat) : (Reg.ETH_STATUS_LOCAL_FAULT n).key = 32 * (0x34004 + 0x400 * n) + 4 := id rfl
@[simp] theorem Reg.ETH_STATUS_LOCAL_FAULT_width (n : Nat) : (Reg.ETH_STATUS_LOCAL_FAULT n).width = 1 := rfl
@[simp] theorem Reg.ETH_STATUS_AN_DONE_key (n : Nat) : (Reg.ETH_STATUS_AN_DONE n).key = 32 * (0x34004 + 0x400 * n) + 3 := id rfl
@[simp] theorem Reg.ETH_STATUS_AN_DONE_width (n : Nat) : (Reg.ETH_STATUS_AN_DONE n).width = 1 := rfl
@[simp] theorem Reg.ETH_STATUS_FEC_LOCK_key (n : Nat) : (Reg.ETH_STATUS_FEC_LOCK n).key = 32 * (0x34004 + 0x400 * n) + 2 := id rfl
@[simp] theorem Reg.ETH_STATUS_FEC_LOCK_width (n : Nat) : (Reg.ETH_STATUS_FEC_LOCK n).width = 1 := rfl
@[simp] theorem Reg.ETH_STATUS_PCS_LOCK_key (n : Nat) : (Reg.ETH_STATUS_PCS_LOCK n).key = 32 * (0x34004 + 0x400 * n) + 1 := id rfl
@[simp] theorem Reg.ETH_STATUS_PCS_LOCK_width (n : Nat) : (Reg.ETH_STATUS_PCS_LOCK n).width = 1 := rfl
@[simp] theorem Reg.ETH_STATUS_LINK_key (n : Nat) : (Reg.ETH_STATUS_LINK n).key = 32 * (0x34004 + 0x400 * n) + 0 := id rfl
@[simp] theorem Reg.ETH_STATUS_LINK_width (n : Nat) : (Reg.ETH_STATUS_LINK n).width = 1 := rfl
@[simp] theorem Reg.ETH_MAC_ADDR_LO_ADDR_key (n : Nat) : (Reg.ETH_MAC_ADDR_LO_ADDR n).key = 32 * (0x34008 + 0x400 * n) + 0 := id rfl
@[simp] theorem Reg.ETH_MAC_ADDR_LO_ADDR_width (n : Nat) : (Reg.ETH_MAC_ADDR_LO_ADDR n).width = 32 := rfl
@[simp] theorem Reg.ETH_MAC_ADDR_HI_ADDR_key (n : Nat) : (Reg.ETH_MAC_ADDR_HI_ADDR n).key = 32 * (0x3400C + 0x400 * n) + 0 := id rfl
@[simp] theorem Reg.ETH_MAC_ADDR_HI_ADDR_width (n : Nat) : (Reg.ETH_MAC_ADDR_HI_ADDR n).width = 16 := rfl
@[simp] theorem Reg.ETH_MAC_VLAN_EXTEND_key (n : Nat) : (Reg.ETH_MAC_VLAN_EXTEND n).key = 32 * (0x34010 + 0x400 * n) + 16 := id rfl
@[simp] theorem Reg.ETH_MAC_VLAN_EXTEND_width (n : Nat) : (Reg.ETH_MAC_VLAN_EXTEND n).width = 1 := rfl
@[simp] theorem Reg.ETH_MAC_MAXLEN_key (n : Nat) : (Reg.ETH_MAC_MAXLEN n).key = 32 * (0x34010 + 0x400 * n) + 0 := id rfl
@[simp] theorem Reg.ETH_MAC_MAXLEN_width (n : Nat) : (Reg.ETH_MAC_MAXLEN n).width = 14 := rfl
@[simp] theorem Reg.ETH_RX_ERR_DELIVER_key (n : Nat) : (Reg.ETH_RX_ERR_DELIVER n).key = 32 * (0x34014 + 0x400 * n) + 0 := id rfl
@[simp] theorem Reg.ETH_RX_ERR_DELIVER_width (n : Nat) : (Reg.ETH_RX_ERR_DELIVER n).width = 1 := rfl
@[simp] theorem Reg.ETH_TX_THRESH_UNITS_key (n : Nat) : (Reg.ETH_TX_THRESH_UNITS n).key = 32 * (0x34018 + 0x400 * n) + 0 := id rfl
@[simp] theorem Reg.ETH_TX_THRESH_UNITS_width (n : Nat) : (Reg.ETH_TX_THRESH_UNITS n).width = 8 := rfl
@[simp] theorem Reg.ETH_SYNCE_RXCLK_EN_key (n : Nat) : (Reg.ETH_SYNCE_RXCLK_EN n).key = 32 * (0x3401C + 0x400 * n) + 31 := id rfl
@[simp] theorem Reg.ETH_SYNCE_RXCLK_EN_width (n : Nat) : (Reg.ETH_SYNCE_RXCLK_EN n).width = 1 := rfl
@[simp] theorem Reg.ETH_SYNCE_TX_LOCK_key (n : Nat) : (Reg.ETH_SYNCE_TX_LOCK n).key = 32 * (0x3401C + 0x400 * n) + 30 := id rfl
@[simp] theorem Reg.ETH_SYNCE_TX_LOCK_width (n : Nat) : (Reg.ETH_SYNCE_TX_LOCK n).width = 1 := rfl
@[simp] theorem Reg.ETH_SYNCE_TX_PATH_key (n : Nat) : (Reg.ETH_SYNCE_TX_PATH n).key = 32 * (0x3401C + 0x400 * n) + 27 := id rfl
@[simp] theorem Reg.ETH_SYNCE_TX_PATH_width (n : Nat) : (Reg.ETH_SYNCE_TX_PATH n).width = 3 := rfl
@[simp] theorem Reg.ETH_TXQ_CFG_EN_key (n i : Nat) : (Reg.ETH_TXQ_CFG_EN n i).key = 32 * (0x34040 + 0x400 * n + 0x10 * i) + 31 := id rfl
@[simp] theorem Reg.ETH_TXQ_CFG_EN_width (n i : Nat) : (Reg.ETH_TXQ_CFG_EN n i).width = 1 := rfl
@[simp] theorem Reg.ETH_TXQ_CFG_OWNER_key (n i : Nat) : (Reg.ETH_TXQ_CFG_OWNER n i).key = 32 * (0x34040 + 0x400 * n + 0x10 * i) + 30 := id rfl
@[simp] theorem Reg.ETH_TXQ_CFG_OWNER_width (n i : Nat) : (Reg.ETH_TXQ_CFG_OWNER n i).width = 1 := rfl
@[simp] theorem Reg.ETH_TXQ_CFG_GUARD_key (n i : Nat) : (Reg.ETH_TXQ_CFG_GUARD n i).key = 32 * (0x34040 + 0x400 * n + 0x10 * i) + 29 := id rfl
@[simp] theorem Reg.ETH_TXQ_CFG_GUARD_width (n i : Nat) : (Reg.ETH_TXQ_CFG_GUARD n i).width = 1 := rfl
@[simp] theorem Reg.ETH_TXQ_CFG_LATE_DROP_key (n i : Nat) : (Reg.ETH_TXQ_CFG_LATE_DROP n i).key = 32 * (0x34040 + 0x400 * n + 0x10 * i) + 28 := id rfl
@[simp] theorem Reg.ETH_TXQ_CFG_LATE_DROP_width (n i : Nat) : (Reg.ETH_TXQ_CFG_LATE_DROP n i).width = 1 := rfl
@[simp] theorem Reg.ETH_TXQ_CFG_STREAM_key (n i : Nat) : (Reg.ETH_TXQ_CFG_STREAM n i).key = 32 * (0x34040 + 0x400 * n + 0x10 * i) + 27 := id rfl
@[simp] theorem Reg.ETH_TXQ_CFG_STREAM_width (n i : Nat) : (Reg.ETH_TXQ_CFG_STREAM n i).width = 1 := rfl
@[simp] theorem Reg.ETH_TXQ_CFG_CFG_ERR_key (n i : Nat) : (Reg.ETH_TXQ_CFG_CFG_ERR n i).key = 32 * (0x34040 + 0x400 * n + 0x10 * i) + 26 := id rfl
@[simp] theorem Reg.ETH_TXQ_CFG_CFG_ERR_width (n i : Nat) : (Reg.ETH_TXQ_CFG_CFG_ERR n i).width = 1 := rfl
@[simp] theorem Reg.ETH_TXQ_CFG_SIZE_LOG_key (n i : Nat) : (Reg.ETH_TXQ_CFG_SIZE_LOG n i).key = 32 * (0x34040 + 0x400 * n + 0x10 * i) + 20 := id rfl
@[simp] theorem Reg.ETH_TXQ_CFG_SIZE_LOG_width (n i : Nat) : (Reg.ETH_TXQ_CFG_SIZE_LOG n i).width = 4 := rfl
@[simp] theorem Reg.ETH_TXQ_CFG_LATE_TOL_key (n i : Nat) : (Reg.ETH_TXQ_CFG_LATE_TOL n i).key = 32 * (0x34040 + 0x400 * n + 0x10 * i) + 0 := id rfl
@[simp] theorem Reg.ETH_TXQ_CFG_LATE_TOL_width (n i : Nat) : (Reg.ETH_TXQ_CFG_LATE_TOL n i).width = 16 := rfl
@[simp] theorem Reg.ETH_TXQ_BASE_LO_ADDR_key (n i : Nat) : (Reg.ETH_TXQ_BASE_LO_ADDR n i).key = 32 * (0x34044 + 0x400 * n + 0x10 * i) + 5 := id rfl
@[simp] theorem Reg.ETH_TXQ_BASE_LO_ADDR_width (n i : Nat) : (Reg.ETH_TXQ_BASE_LO_ADDR n i).width = 27 := rfl
@[simp] theorem Reg.ETH_TXQ_BASE_HI_ADDR_key (n i : Nat) : (Reg.ETH_TXQ_BASE_HI_ADDR n i).key = 32 * (0x34048 + 0x400 * n + 0x10 * i) + 0 := id rfl
@[simp] theorem Reg.ETH_TXQ_BASE_HI_ADDR_width (n i : Nat) : (Reg.ETH_TXQ_BASE_HI_ADDR n i).width = 32 := rfl
@[simp] theorem Reg.ETH_TXQ_PTR_PTR_ERR_key (n i : Nat) : (Reg.ETH_TXQ_PTR_PTR_ERR n i).key = 32 * (0x3404C + 0x400 * n + 0x10 * i) + 31 := id rfl
@[simp] theorem Reg.ETH_TXQ_PTR_PTR_ERR_width (n i : Nat) : (Reg.ETH_TXQ_PTR_PTR_ERR n i).width = 1 := rfl
@[simp] theorem Reg.ETH_TXQ_PTR_HEAD_key (n i : Nat) : (Reg.ETH_TXQ_PTR_HEAD n i).key = 32 * (0x3404C + 0x400 * n + 0x10 * i) + 16 := id rfl
@[simp] theorem Reg.ETH_TXQ_PTR_HEAD_width (n i : Nat) : (Reg.ETH_TXQ_PTR_HEAD n i).width = 12 := rfl
@[simp] theorem Reg.ETH_TXQ_PTR_TAIL_key (n i : Nat) : (Reg.ETH_TXQ_PTR_TAIL n i).key = 32 * (0x3404C + 0x400 * n + 0x10 * i) + 0 := id rfl
@[simp] theorem Reg.ETH_TXQ_PTR_TAIL_width (n i : Nat) : (Reg.ETH_TXQ_PTR_TAIL n i).width = 12 := rfl
@[simp] theorem Reg.ETH_RXQ_CFG_EN_key (n i : Nat) : (Reg.ETH_RXQ_CFG_EN n i).key = 32 * (0x340C0 + 0x400 * n + 0x10 * i) + 31 := id rfl
@[simp] theorem Reg.ETH_RXQ_CFG_EN_width (n i : Nat) : (Reg.ETH_RXQ_CFG_EN n i).width = 1 := rfl
@[simp] theorem Reg.ETH_RXQ_CFG_OWNER_key (n i : Nat) : (Reg.ETH_RXQ_CFG_OWNER n i).key = 32 * (0x340C0 + 0x400 * n + 0x10 * i) + 30 := id rfl
@[simp] theorem Reg.ETH_RXQ_CFG_OWNER_width (n i : Nat) : (Reg.ETH_RXQ_CFG_OWNER n i).width = 1 := rfl
@[simp] theorem Reg.ETH_RXQ_CFG_BUF_LOG_key (n i : Nat) : (Reg.ETH_RXQ_CFG_BUF_LOG n i).key = 32 * (0x340C0 + 0x400 * n + 0x10 * i) + 24 := id rfl
@[simp] theorem Reg.ETH_RXQ_CFG_BUF_LOG_width (n i : Nat) : (Reg.ETH_RXQ_CFG_BUF_LOG n i).width = 4 := rfl
@[simp] theorem Reg.ETH_RXQ_CFG_SIZE_LOG_key (n i : Nat) : (Reg.ETH_RXQ_CFG_SIZE_LOG n i).key = 32 * (0x340C0 + 0x400 * n + 0x10 * i) + 20 := id rfl
@[simp] theorem Reg.ETH_RXQ_CFG_SIZE_LOG_width (n i : Nat) : (Reg.ETH_RXQ_CFG_SIZE_LOG n i).width = 4 := rfl
@[simp] theorem Reg.ETH_RXQ_CFG_CFG_ERR_key (n i : Nat) : (Reg.ETH_RXQ_CFG_CFG_ERR n i).key = 32 * (0x340C0 + 0x400 * n + 0x10 * i) + 16 := id rfl
@[simp] theorem Reg.ETH_RXQ_CFG_CFG_ERR_width (n i : Nat) : (Reg.ETH_RXQ_CFG_CFG_ERR n i).width = 1 := rfl
@[simp] theorem Reg.ETH_RXQ_CFG_QUOTA_key (n i : Nat) : (Reg.ETH_RXQ_CFG_QUOTA n i).key = 32 * (0x340C0 + 0x400 * n + 0x10 * i) + 0 := id rfl
@[simp] theorem Reg.ETH_RXQ_CFG_QUOTA_width (n i : Nat) : (Reg.ETH_RXQ_CFG_QUOTA n i).width = 7 := rfl
@[simp] theorem Reg.ETH_RXQ_BASE_LO_ADDR_key (n i : Nat) : (Reg.ETH_RXQ_BASE_LO_ADDR n i).key = 32 * (0x340C4 + 0x400 * n + 0x10 * i) + 5 := id rfl
@[simp] theorem Reg.ETH_RXQ_BASE_LO_ADDR_width (n i : Nat) : (Reg.ETH_RXQ_BASE_LO_ADDR n i).width = 27 := rfl
@[simp] theorem Reg.ETH_RXQ_BASE_HI_ADDR_key (n i : Nat) : (Reg.ETH_RXQ_BASE_HI_ADDR n i).key = 32 * (0x340C8 + 0x400 * n + 0x10 * i) + 0 := id rfl
@[simp] theorem Reg.ETH_RXQ_BASE_HI_ADDR_width (n i : Nat) : (Reg.ETH_RXQ_BASE_HI_ADDR n i).width = 32 := rfl
@[simp] theorem Reg.ETH_RXQ_PTR_PTR_ERR_key (n i : Nat) : (Reg.ETH_RXQ_PTR_PTR_ERR n i).key = 32 * (0x340CC + 0x400 * n + 0x10 * i) + 31 := id rfl
@[simp] theorem Reg.ETH_RXQ_PTR_PTR_ERR_width (n i : Nat) : (Reg.ETH_RXQ_PTR_PTR_ERR n i).width = 1 := rfl
@[simp] theorem Reg.ETH_RXQ_PTR_HEAD_key (n i : Nat) : (Reg.ETH_RXQ_PTR_HEAD n i).key = 32 * (0x340CC + 0x400 * n + 0x10 * i) + 16 := id rfl
@[simp] theorem Reg.ETH_RXQ_PTR_HEAD_width (n i : Nat) : (Reg.ETH_RXQ_PTR_HEAD n i).width = 12 := rfl
@[simp] theorem Reg.ETH_RXQ_PTR_TAIL_key (n i : Nat) : (Reg.ETH_RXQ_PTR_TAIL n i).key = 32 * (0x340CC + 0x400 * n + 0x10 * i) + 0 := id rfl
@[simp] theorem Reg.ETH_RXQ_PTR_TAIL_width (n i : Nat) : (Reg.ETH_RXQ_PTR_TAIL n i).width = 12 := rfl
@[simp] theorem Reg.ETH_CLASS_EN_key (n i : Nat) : (Reg.ETH_CLASS_EN n i).key = 32 * (0x34100 + 0x400 * n + 0x4 * i) + 31 := id rfl
@[simp] theorem Reg.ETH_CLASS_EN_width (n i : Nat) : (Reg.ETH_CLASS_EN n i).width = 1 := rfl
@[simp] theorem Reg.ETH_CLASS_KIND_key (n i : Nat) : (Reg.ETH_CLASS_KIND n i).key = 32 * (0x34100 + 0x400 * n + 0x4 * i) + 29 := id rfl
@[simp] theorem Reg.ETH_CLASS_KIND_width (n i : Nat) : (Reg.ETH_CLASS_KIND n i).width = 2 := rfl
@[simp] theorem Reg.ETH_CLASS_QUEUE_key (n i : Nat) : (Reg.ETH_CLASS_QUEUE n i).key = 32 * (0x34100 + 0x400 * n + 0x4 * i) + 16 := id rfl
@[simp] theorem Reg.ETH_CLASS_QUEUE_width (n i : Nat) : (Reg.ETH_CLASS_QUEUE n i).width = 2 := rfl
@[simp] theorem Reg.ETH_CLASS_VALUE_key (n i : Nat) : (Reg.ETH_CLASS_VALUE n i).key = 32 * (0x34100 + 0x400 * n + 0x4 * i) + 0 := id rfl
@[simp] theorem Reg.ETH_CLASS_VALUE_width (n i : Nat) : (Reg.ETH_CLASS_VALUE n i).width = 16 := rfl
@[simp] theorem Reg.ETH_RX_FRAMES_COUNT_key (n : Nat) : (Reg.ETH_RX_FRAMES_COUNT n).key = 32 * (0x34180 + 0x400 * n) + 0 := id rfl
@[simp] theorem Reg.ETH_RX_FRAMES_COUNT_width (n : Nat) : (Reg.ETH_RX_FRAMES_COUNT n).width = 32 := rfl
@[simp] theorem Reg.ETH_RX_BYTES_LO_COUNT_key (n : Nat) : (Reg.ETH_RX_BYTES_LO_COUNT n).key = 32 * (0x34184 + 0x400 * n) + 0 := id rfl
@[simp] theorem Reg.ETH_RX_BYTES_LO_COUNT_width (n : Nat) : (Reg.ETH_RX_BYTES_LO_COUNT n).width = 32 := rfl
@[simp] theorem Reg.ETH_RX_BYTES_HI_COUNT_key (n : Nat) : (Reg.ETH_RX_BYTES_HI_COUNT n).key = 32 * (0x34188 + 0x400 * n) + 0 := id rfl
@[simp] theorem Reg.ETH_RX_BYTES_HI_COUNT_width (n : Nat) : (Reg.ETH_RX_BYTES_HI_COUNT n).width = 32 := rfl
@[simp] theorem Reg.ETH_RX_FCS_ERR_COUNT_key (n : Nat) : (Reg.ETH_RX_FCS_ERR_COUNT n).key = 32 * (0x3418C + 0x400 * n) + 0 := id rfl
@[simp] theorem Reg.ETH_RX_FCS_ERR_COUNT_width (n : Nat) : (Reg.ETH_RX_FCS_ERR_COUNT n).width = 32 := rfl
@[simp] theorem Reg.ETH_RX_FRAG_COUNT_key (n : Nat) : (Reg.ETH_RX_FRAG_COUNT n).key = 32 * (0x34190 + 0x400 * n) + 0 := id rfl
@[simp] theorem Reg.ETH_RX_FRAG_COUNT_width (n : Nat) : (Reg.ETH_RX_FRAG_COUNT n).width = 32 := rfl
@[simp] theorem Reg.ETH_RX_RUNT_COUNT_key (n : Nat) : (Reg.ETH_RX_RUNT_COUNT n).key = 32 * (0x34194 + 0x400 * n) + 0 := id rfl
@[simp] theorem Reg.ETH_RX_RUNT_COUNT_width (n : Nat) : (Reg.ETH_RX_RUNT_COUNT n).width = 32 := rfl
@[simp] theorem Reg.ETH_RX_OVERSIZE_COUNT_key (n : Nat) : (Reg.ETH_RX_OVERSIZE_COUNT n).key = 32 * (0x34198 + 0x400 * n) + 0 := id rfl
@[simp] theorem Reg.ETH_RX_OVERSIZE_COUNT_width (n : Nat) : (Reg.ETH_RX_OVERSIZE_COUNT n).width = 32 := rfl
@[simp] theorem Reg.ETH_RX_FILTERED_COUNT_key (n : Nat) : (Reg.ETH_RX_FILTERED_COUNT n).key = 32 * (0x3419C + 0x400 * n) + 0 := id rfl
@[simp] theorem Reg.ETH_RX_FILTERED_COUNT_width (n : Nat) : (Reg.ETH_RX_FILTERED_COUNT n).width = 32 := rfl
@[simp] theorem Reg.ETH_RX_MACCTL_COUNT_key (n : Nat) : (Reg.ETH_RX_MACCTL_COUNT n).key = 32 * (0x341A0 + 0x400 * n) + 0 := id rfl
@[simp] theorem Reg.ETH_RX_MACCTL_COUNT_width (n : Nat) : (Reg.ETH_RX_MACCTL_COUNT n).width = 32 := rfl
@[simp] theorem Reg.ETH_RX_NOBUF_COUNT_key (n : Nat) : (Reg.ETH_RX_NOBUF_COUNT n).key = 32 * (0x341A4 + 0x400 * n) + 0 := id rfl
@[simp] theorem Reg.ETH_RX_NOBUF_COUNT_width (n : Nat) : (Reg.ETH_RX_NOBUF_COUNT n).width = 32 := rfl
@[simp] theorem Reg.ETH_TX_FRAMES_COUNT_key (n : Nat) : (Reg.ETH_TX_FRAMES_COUNT n).key = 32 * (0x341A8 + 0x400 * n) + 0 := id rfl
@[simp] theorem Reg.ETH_TX_FRAMES_COUNT_width (n : Nat) : (Reg.ETH_TX_FRAMES_COUNT n).width = 32 := rfl
@[simp] theorem Reg.ETH_TX_BYTES_LO_COUNT_key (n : Nat) : (Reg.ETH_TX_BYTES_LO_COUNT n).key = 32 * (0x341AC + 0x400 * n) + 0 := id rfl
@[simp] theorem Reg.ETH_TX_BYTES_LO_COUNT_width (n : Nat) : (Reg.ETH_TX_BYTES_LO_COUNT n).width = 32 := rfl
@[simp] theorem Reg.ETH_TX_BYTES_HI_COUNT_key (n : Nat) : (Reg.ETH_TX_BYTES_HI_COUNT n).key = 32 * (0x341B0 + 0x400 * n) + 0 := id rfl
@[simp] theorem Reg.ETH_TX_BYTES_HI_COUNT_width (n : Nat) : (Reg.ETH_TX_BYTES_HI_COUNT n).width = 32 := rfl
@[simp] theorem Reg.ETH_TX_UNDERRUN_COUNT_key (n : Nat) : (Reg.ETH_TX_UNDERRUN_COUNT n).key = 32 * (0x341B4 + 0x400 * n) + 0 := id rfl
@[simp] theorem Reg.ETH_TX_UNDERRUN_COUNT_width (n : Nat) : (Reg.ETH_TX_UNDERRUN_COUNT n).width = 32 := rfl
@[simp] theorem Reg.ETH_TX_REJECT_COUNT_key (n : Nat) : (Reg.ETH_TX_REJECT_COUNT n).key = 32 * (0x341B8 + 0x400 * n) + 0 := id rfl
@[simp] theorem Reg.ETH_TX_REJECT_COUNT_width (n : Nat) : (Reg.ETH_TX_REJECT_COUNT n).width = 32 := rfl
@[simp] theorem Reg.ETH_TX_LATE_COUNT_key (n : Nat) : (Reg.ETH_TX_LATE_COUNT n).key = 32 * (0x341BC + 0x400 * n) + 0 := id rfl
@[simp] theorem Reg.ETH_TX_LATE_COUNT_width (n : Nat) : (Reg.ETH_TX_LATE_COUNT n).width = 32 := rfl
@[simp] theorem Reg.ETH_TX_ABORT_COUNT_key (n : Nat) : (Reg.ETH_TX_ABORT_COUNT n).key = 32 * (0x341C0 + 0x400 * n) + 0 := id rfl
@[simp] theorem Reg.ETH_TX_ABORT_COUNT_width (n : Nat) : (Reg.ETH_TX_ABORT_COUNT n).width = 32 := rfl
@[simp] theorem Reg.ETH_PCS_ERR_COUNT_key (n : Nat) : (Reg.ETH_PCS_ERR_COUNT n).key = 32 * (0x341C4 + 0x400 * n) + 0 := id rfl
@[simp] theorem Reg.ETH_PCS_ERR_COUNT_width (n : Nat) : (Reg.ETH_PCS_ERR_COUNT n).width = 32 := rfl
@[simp] theorem Reg.ETH_FEC_CORR_COUNT_key (n : Nat) : (Reg.ETH_FEC_CORR_COUNT n).key = 32 * (0x341C8 + 0x400 * n) + 0 := id rfl
@[simp] theorem Reg.ETH_FEC_CORR_COUNT_width (n : Nat) : (Reg.ETH_FEC_CORR_COUNT n).width = 32 := rfl
@[simp] theorem Reg.ETH_FEC_UNCORR_COUNT_key (n : Nat) : (Reg.ETH_FEC_UNCORR_COUNT n).key = 32 * (0x341CC + 0x400 * n) + 0 := id rfl
@[simp] theorem Reg.ETH_FEC_UNCORR_COUNT_width (n : Nat) : (Reg.ETH_FEC_UNCORR_COUNT n).width = 32 := rfl
@[simp] theorem Reg.ETH_LINK_DOWN_COUNT_key (n : Nat) : (Reg.ETH_LINK_DOWN_COUNT n).key = 32 * (0x341D0 + 0x400 * n) + 0 := id rfl
@[simp] theorem Reg.ETH_LINK_DOWN_COUNT_width (n : Nat) : (Reg.ETH_LINK_DOWN_COUNT n).width = 32 := rfl
@[simp] theorem Reg.ETH_WAKE_CFG_EN_key (n : Nat) : (Reg.ETH_WAKE_CFG_EN n).key = 32 * (0x341E0 + 0x400 * n) + 31 := id rfl
@[simp] theorem Reg.ETH_WAKE_CFG_EN_width (n : Nat) : (Reg.ETH_WAKE_CFG_EN n).width = 1 := rfl
@[simp] theorem Reg.ETH_WAKE_CFG_CLR_key (n : Nat) : (Reg.ETH_WAKE_CFG_CLR n).key = 32 * (0x341E0 + 0x400 * n) + 0 := id rfl
@[simp] theorem Reg.ETH_WAKE_CFG_CLR_width (n : Nat) : (Reg.ETH_WAKE_CFG_CLR n).width = 1 := rfl
@[simp] theorem Reg.ETH_WAKE_STATUS_COUNT_key (n : Nat) : (Reg.ETH_WAKE_STATUS_COUNT n).key = 32 * (0x341E4 + 0x400 * n) + 8 := id rfl
@[simp] theorem Reg.ETH_WAKE_STATUS_COUNT_width (n : Nat) : (Reg.ETH_WAKE_STATUS_COUNT n).width = 8 := rfl
@[simp] theorem Reg.ETH_WAKE_STATUS_MODE_ERR_key (n : Nat) : (Reg.ETH_WAKE_STATUS_MODE_ERR n).key = 32 * (0x341E4 + 0x400 * n) + 1 := id rfl
@[simp] theorem Reg.ETH_WAKE_STATUS_MODE_ERR_width (n : Nat) : (Reg.ETH_WAKE_STATUS_MODE_ERR n).width = 1 := rfl
@[simp] theorem Reg.ETH_WAKE_STATUS_MATCH_key (n : Nat) : (Reg.ETH_WAKE_STATUS_MATCH n).key = 32 * (0x341E4 + 0x400 * n) + 0 := id rfl
@[simp] theorem Reg.ETH_WAKE_STATUS_MATCH_width (n : Nat) : (Reg.ETH_WAKE_STATUS_MATCH n).width = 1 := rfl
@[simp] theorem Reg.ETH_WAKE_MASK_MASK_key (n i : Nat) : (Reg.ETH_WAKE_MASK_MASK n i).key = 32 * (0x341F0 + 0x400 * n + 0x4 * i) + 0 := id rfl
@[simp] theorem Reg.ETH_WAKE_MASK_MASK_width (n i : Nat) : (Reg.ETH_WAKE_MASK_MASK n i).width = 32 := rfl
@[simp] theorem Reg.ETH_WAKE_PAT_BYTES_key (n i : Nat) : (Reg.ETH_WAKE_PAT_BYTES n i).key = 32 * (0x34200 + 0x400 * n + 0x4 * i) + 0 := id rfl
@[simp] theorem Reg.ETH_WAKE_PAT_BYTES_width (n i : Nat) : (Reg.ETH_WAKE_PAT_BYTES n i).width = 32 := rfl
@[simp] theorem Reg.PTP_CFG_RX_STAMP_key (n : Nat) : (Reg.PTP_CFG_RX_STAMP n).key = 32 * (0x38000 + 0x100 * n) + 31 := id rfl
@[simp] theorem Reg.PTP_CFG_RX_STAMP_width (n : Nat) : (Reg.PTP_CFG_RX_STAMP n).width = 1 := rfl
@[simp] theorem Reg.PTP_CFG_TS_key (n : Nat) : (Reg.PTP_CFG_TS n).key = 32 * (0x38000 + 0x100 * n) + 29 := id rfl
@[simp] theorem Reg.PTP_CFG_TS_width (n : Nat) : (Reg.PTP_CFG_TS n).width = 2 := rfl
@[simp] theorem Reg.PTP_CFG_FORCE_PASSIVE_key (n : Nat) : (Reg.PTP_CFG_FORCE_PASSIVE n).key = 32 * (0x38000 + 0x100 * n) + 28 := id rfl
@[simp] theorem Reg.PTP_CFG_FORCE_PASSIVE_width (n : Nat) : (Reg.PTP_CFG_FORCE_PASSIVE n).width = 1 := rfl
@[simp] theorem Reg.PTP_CFG_TXTS_DEST_key (n : Nat) : (Reg.PTP_CFG_TXTS_DEST n).key = 32 * (0x38000 + 0x100 * n) + 27 := id rfl
@[simp] theorem Reg.PTP_CFG_TXTS_DEST_width (n : Nat) : (Reg.PTP_CFG_TXTS_DEST n).width = 1 := rfl
@[simp] theorem Reg.PTP_CFG_AUTH_EN_key (n : Nat) : (Reg.PTP_CFG_AUTH_EN n).key = 32 * (0x38000 + 0x100 * n) + 26 := id rfl
@[simp] theorem Reg.PTP_CFG_AUTH_EN_width (n : Nat) : (Reg.PTP_CFG_AUTH_EN n).width = 1 := rfl
@[simp] theorem Reg.PTP_STATUS_CFG_ERR_key (n : Nat) : (Reg.PTP_STATUS_CFG_ERR n).key = 32 * (0x38004 + 0x100 * n) + 4 := id rfl
@[simp] theorem Reg.PTP_STATUS_CFG_ERR_width (n : Nat) : (Reg.PTP_STATUS_CFG_ERR n).width = 1 := rfl
@[simp] theorem Reg.PTP_STATUS_GATED_key (n : Nat) : (Reg.PTP_STATUS_GATED n).key = 32 * (0x38004 + 0x100 * n) + 3 := id rfl
@[simp] theorem Reg.PTP_STATUS_GATED_width (n : Nat) : (Reg.PTP_STATUS_GATED n).width = 1 := rfl
@[simp] theorem Reg.PTP_STATUS_BY_SAFE_key (n : Nat) : (Reg.PTP_STATUS_BY_SAFE n).key = 32 * (0x38004 + 0x100 * n) + 2 := id rfl
@[simp] theorem Reg.PTP_STATUS_BY_SAFE_width (n : Nat) : (Reg.PTP_STATUS_BY_SAFE n).width = 1 := rfl
@[simp] theorem Reg.PTP_STATUS_BY_TWIN_key (n : Nat) : (Reg.PTP_STATUS_BY_TWIN n).key = 32 * (0x38004 + 0x100 * n) + 1 := id rfl
@[simp] theorem Reg.PTP_STATUS_BY_TWIN_width (n : Nat) : (Reg.PTP_STATUS_BY_TWIN n).width = 1 := rfl
@[simp] theorem Reg.PTP_STATUS_COARSE_key (n : Nat) : (Reg.PTP_STATUS_COARSE n).key = 32 * (0x38004 + 0x100 * n) + 0 := id rfl
@[simp] theorem Reg.PTP_STATUS_COARSE_width (n : Nat) : (Reg.PTP_STATUS_COARSE n).width = 1 := rfl
@[simp] theorem Reg.PTP_TX_ADJ_VALUE_key (n : Nat) : (Reg.PTP_TX_ADJ_VALUE n).key = 32 * (0x38008 + 0x100 * n) + 0 := id rfl
@[simp] theorem Reg.PTP_TX_ADJ_VALUE_width (n : Nat) : (Reg.PTP_TX_ADJ_VALUE n).width = 32 := rfl
@[simp] theorem Reg.PTP_RX_ADJ_VALUE_key (n : Nat) : (Reg.PTP_RX_ADJ_VALUE n).key = 32 * (0x3800C + 0x100 * n) + 0 := id rfl
@[simp] theorem Reg.PTP_RX_ADJ_VALUE_width (n : Nat) : (Reg.PTP_RX_ADJ_VALUE n).width = 32 := rfl
@[simp] theorem Reg.PTP_TX_LAT_VALUE_key (n : Nat) : (Reg.PTP_TX_LAT_VALUE n).key = 32 * (0x38010 + 0x100 * n) + 0 := id rfl
@[simp] theorem Reg.PTP_TX_LAT_VALUE_width (n : Nat) : (Reg.PTP_TX_LAT_VALUE n).width = 32 := rfl
@[simp] theorem Reg.PTP_RX_LAT_VALUE_key (n : Nat) : (Reg.PTP_RX_LAT_VALUE n).key = 32 * (0x38014 + 0x100 * n) + 0 := id rfl
@[simp] theorem Reg.PTP_RX_LAT_VALUE_width (n : Nat) : (Reg.PTP_RX_LAT_VALUE n).width = 32 := rfl
@[simp] theorem Reg.PTP_TXTS_ID_VALID_key (n : Nat) : (Reg.PTP_TXTS_ID_VALID n).key = 32 * (0x38018 + 0x100 * n) + 31 := id rfl
@[simp] theorem Reg.PTP_TXTS_ID_VALID_width (n : Nat) : (Reg.PTP_TXTS_ID_VALID n).width = 1 := rfl
@[simp] theorem Reg.PTP_TXTS_ID_GAP_key (n : Nat) : (Reg.PTP_TXTS_ID_GAP n).key = 32 * (0x38018 + 0x100 * n) + 30 := id rfl
@[simp] theorem Reg.PTP_TXTS_ID_GAP_width (n : Nat) : (Reg.PTP_TXTS_ID_GAP n).width = 1 := rfl
@[simp] theorem Reg.PTP_TXTS_ID_ABORTED_key (n : Nat) : (Reg.PTP_TXTS_ID_ABORTED n).key = 32 * (0x38018 + 0x100 * n) + 29 := id rfl
@[simp] theorem Reg.PTP_TXTS_ID_ABORTED_width (n : Nat) : (Reg.PTP_TXTS_ID_ABORTED n).width = 1 := rfl
@[simp] theorem Reg.PTP_TXTS_ID_COARSE_key (n : Nat) : (Reg.PTP_TXTS_ID_COARSE n).key = 32 * (0x38018 + 0x100 * n) + 28 := id rfl
@[simp] theorem Reg.PTP_TXTS_ID_COARSE_width (n : Nat) : (Reg.PTP_TXTS_ID_COARSE n).width = 1 := rfl
@[simp] theorem Reg.PTP_TXTS_ID_LOST_key (n : Nat) : (Reg.PTP_TXTS_ID_LOST n).key = 32 * (0x38018 + 0x100 * n) + 16 := id rfl
@[simp] theorem Reg.PTP_TXTS_ID_LOST_width (n : Nat) : (Reg.PTP_TXTS_ID_LOST n).width = 8 := rfl
@[simp] theorem Reg.PTP_TXTS_ID_ID_key (n : Nat) : (Reg.PTP_TXTS_ID_ID n).key = 32 * (0x38018 + 0x100 * n) + 0 := id rfl
@[simp] theorem Reg.PTP_TXTS_ID_ID_width (n : Nat) : (Reg.PTP_TXTS_ID_ID n).width = 16 := rfl
@[simp] theorem Reg.PTP_TXTS_S_LO_S_key (n : Nat) : (Reg.PTP_TXTS_S_LO_S n).key = 32 * (0x3801C + 0x100 * n) + 0 := id rfl
@[simp] theorem Reg.PTP_TXTS_S_LO_S_width (n : Nat) : (Reg.PTP_TXTS_S_LO_S n).width = 32 := rfl
@[simp] theorem Reg.PTP_TXTS_S_HI_S_key (n : Nat) : (Reg.PTP_TXTS_S_HI_S n).key = 32 * (0x38020 + 0x100 * n) + 0 := id rfl
@[simp] theorem Reg.PTP_TXTS_S_HI_S_width (n : Nat) : (Reg.PTP_TXTS_S_HI_S n).width = 16 := rfl
@[simp] theorem Reg.PTP_TXTS_NS_NS_key (n : Nat) : (Reg.PTP_TXTS_NS_NS n).key = 32 * (0x38024 + 0x100 * n) + 0 := id rfl
@[simp] theorem Reg.PTP_TXTS_NS_NS_width (n : Nat) : (Reg.PTP_TXTS_NS_NS n).width = 30 := rfl
@[simp] theorem Reg.PTP_TXTS_FRAC_FRAC_key (n : Nat) : (Reg.PTP_TXTS_FRAC_FRAC n).key = 32 * (0x38028 + 0x100 * n) + 0 := id rfl
@[simp] theorem Reg.PTP_TXTS_FRAC_FRAC_width (n : Nat) : (Reg.PTP_TXTS_FRAC_FRAC n).width = 16 := rfl
@[simp] theorem Reg.PTP_TXTS_LEVEL_LEVEL_key (n : Nat) : (Reg.PTP_TXTS_LEVEL_LEVEL n).key = 32 * (0x3802C + 0x100 * n) + 0 := id rfl
@[simp] theorem Reg.PTP_TXTS_LEVEL_LEVEL_width (n : Nat) : (Reg.PTP_TXTS_LEVEL_LEVEL n).width = 7 := rfl
@[simp] theorem Reg.PTP_TXTS_OVF_COUNT_key (n : Nat) : (Reg.PTP_TXTS_OVF_COUNT n).key = 32 * (0x38030 + 0x100 * n) + 0 := id rfl
@[simp] theorem Reg.PTP_TXTS_OVF_COUNT_width (n : Nat) : (Reg.PTP_TXTS_OVF_COUNT n).width = 32 := rfl
@[simp] theorem Reg.PTP_TXTS_BASE_ADDR_key (n : Nat) : (Reg.PTP_TXTS_BASE_ADDR n).key = 32 * (0x38034 + 0x100 * n) + 10 := id rfl
@[simp] theorem Reg.PTP_TXTS_BASE_ADDR_width (n : Nat) : (Reg.PTP_TXTS_BASE_ADDR n).width = 11 := rfl
@[simp] theorem Reg.PTP_ONE_STEP_COUNT_key (n : Nat) : (Reg.PTP_ONE_STEP_COUNT n).key = 32 * (0x38038 + 0x100 * n) + 0 := id rfl
@[simp] theorem Reg.PTP_ONE_STEP_COUNT_width (n : Nat) : (Reg.PTP_ONE_STEP_COUNT n).width = 32 := rfl
@[simp] theorem Reg.PTP_ONE_STEP_SKIP_COUNT_key (n : Nat) : (Reg.PTP_ONE_STEP_SKIP_COUNT n).key = 32 * (0x3803C + 0x100 * n) + 0 := id rfl
@[simp] theorem Reg.PTP_ONE_STEP_SKIP_COUNT_width (n : Nat) : (Reg.PTP_ONE_STEP_SKIP_COUNT n).width = 32 := rfl
@[simp] theorem Reg.PTP_PASSIVE_DROP_COUNT_key (n : Nat) : (Reg.PTP_PASSIVE_DROP_COUNT n).key = 32 * (0x38040 + 0x100 * n) + 0 := id rfl
@[simp] theorem Reg.PTP_PASSIVE_DROP_COUNT_width (n : Nat) : (Reg.PTP_PASSIVE_DROP_COUNT n).width = 32 := rfl
@[simp] theorem Reg.PTP_AUTH_COUNT_FAIL_key (n : Nat) : (Reg.PTP_AUTH_COUNT_FAIL n).key = 32 * (0x38044 + 0x100 * n) + 16 := id rfl
@[simp] theorem Reg.PTP_AUTH_COUNT_FAIL_width (n : Nat) : (Reg.PTP_AUTH_COUNT_FAIL n).width = 16 := rfl
@[simp] theorem Reg.PTP_AUTH_COUNT_UNKNOWN_key (n : Nat) : (Reg.PTP_AUTH_COUNT_UNKNOWN n).key = 32 * (0x38044 + 0x100 * n) + 0 := id rfl
@[simp] theorem Reg.PTP_AUTH_COUNT_UNKNOWN_width (n : Nat) : (Reg.PTP_AUTH_COUNT_UNKNOWN n).width = 16 := rfl
@[simp] theorem Reg.PTP_SA_CFG_EN_key (n i : Nat) : (Reg.PTP_SA_CFG_EN n i).key = 32 * (0x38050 + 0x100 * n + 0x8 * i) + 31 := id rfl
@[simp] theorem Reg.PTP_SA_CFG_EN_width (n i : Nat) : (Reg.PTP_SA_CFG_EN n i).width = 1 := rfl
@[simp] theorem Reg.PTP_SA_CFG_TX_key (n i : Nat) : (Reg.PTP_SA_CFG_TX n i).key = 32 * (0x38050 + 0x100 * n + 0x8 * i) + 30 := id rfl
@[simp] theorem Reg.PTP_SA_CFG_TX_width (n i : Nat) : (Reg.PTP_SA_CFG_TX n i).width = 1 := rfl
@[simp] theorem Reg.PTP_SA_CFG_KEY_SLOT_key (n i : Nat) : (Reg.PTP_SA_CFG_KEY_SLOT n i).key = 32 * (0x38050 + 0x100 * n + 0x8 * i) + 16 := id rfl
@[simp] theorem Reg.PTP_SA_CFG_KEY_SLOT_width (n i : Nat) : (Reg.PTP_SA_CFG_KEY_SLOT n i).width = 6 := rfl
@[simp] theorem Reg.PTP_SA_CFG_SPP_key (n i : Nat) : (Reg.PTP_SA_CFG_SPP n i).key = 32 * (0x38050 + 0x100 * n + 0x8 * i) + 0 := id rfl
@[simp] theorem Reg.PTP_SA_CFG_SPP_width (n i : Nat) : (Reg.PTP_SA_CFG_SPP n i).width = 8 := rfl
@[simp] theorem Reg.PTP_SA_KEYID_KEYID_key (n i : Nat) : (Reg.PTP_SA_KEYID_KEYID n i).key = 32 * (0x38054 + 0x100 * n + 0x8 * i) + 0 := id rfl
@[simp] theorem Reg.PTP_SA_KEYID_KEYID_width (n i : Nat) : (Reg.PTP_SA_KEYID_KEYID n i).width = 32 := rfl
@[simp] theorem Reg.TWIN_CFG_EN_key : Reg.TWIN_CFG_EN.key = 32 * (0x3C000) + 31 := id rfl
@[simp] theorem Reg.TWIN_CFG_EN_width : Reg.TWIN_CFG_EN.width = 1 := rfl
@[simp] theorem Reg.TWIN_CFG_ACCEPT_RESET_key : Reg.TWIN_CFG_ACCEPT_RESET.key = 32 * (0x3C000) + 30 := id rfl
@[simp] theorem Reg.TWIN_CFG_ACCEPT_RESET_width : Reg.TWIN_CFG_ACCEPT_RESET.width = 1 := rfl
@[simp] theorem Reg.TWIN_CFG_PPS_TS_key : Reg.TWIN_CFG_PPS_TS.key = 32 * (0x3C000) + 28 := id rfl
@[simp] theorem Reg.TWIN_CFG_PPS_TS_width : Reg.TWIN_CFG_PPS_TS.width = 2 := rfl
@[simp] theorem Reg.TWIN_CFG_FOLLOW_TS_key : Reg.TWIN_CFG_FOLLOW_TS.key = 32 * (0x3C000) + 24 := id rfl
@[simp] theorem Reg.TWIN_CFG_FOLLOW_TS_width : Reg.TWIN_CFG_FOLLOW_TS.width = 4 := rfl
@[simp] theorem Reg.TWIN_CFG_FOLLOW_P_key : Reg.TWIN_CFG_FOLLOW_P.key = 32 * (0x3C000) + 16 := id rfl
@[simp] theorem Reg.TWIN_CFG_FOLLOW_P_width : Reg.TWIN_CFG_FOLLOW_P.width = 8 := rfl
@[simp] theorem Reg.TWIN_CLK_CFG_CLK_EN_key : Reg.TWIN_CLK_CFG_CLK_EN.key = 32 * (0x3C004) + 31 := id rfl
@[simp] theorem Reg.TWIN_CLK_CFG_CLK_EN_width : Reg.TWIN_CLK_CFG_CLK_EN.width = 1 := rfl
@[simp] theorem Reg.TWIN_CLK_CFG_PPS_EN_key : Reg.TWIN_CLK_CFG_PPS_EN.key = 32 * (0x3C004) + 30 := id rfl
@[simp] theorem Reg.TWIN_CLK_CFG_PPS_EN_width : Reg.TWIN_CLK_CFG_PPS_EN.width = 1 := rfl
@[simp] theorem Reg.TWIN_CLK_CFG_APLL_key : Reg.TWIN_CLK_CFG_APLL.key = 32 * (0x3C004) + 27 := id rfl
@[simp] theorem Reg.TWIN_CLK_CFG_APLL_width : Reg.TWIN_CLK_CFG_APLL.width = 3 := rfl
@[simp] theorem Reg.TWIN_CLK_CFG_DIV_key : Reg.TWIN_CLK_CFG_DIV.key = 32 * (0x3C004) + 0 := id rfl
@[simp] theorem Reg.TWIN_CLK_CFG_DIV_width : Reg.TWIN_CLK_CFG_DIV.width = 7 := rfl
@[simp] theorem Reg.TWIN_ASYM_VALUE_key : Reg.TWIN_ASYM_VALUE.key = 32 * (0x3C008) + 0 := id rfl
@[simp] theorem Reg.TWIN_ASYM_VALUE_width : Reg.TWIN_ASYM_VALUE.width = 32 := rfl
@[simp] theorem Reg.TWIN_OFFSET_VALUE_key : Reg.TWIN_OFFSET_VALUE.key = 32 * (0x3C00C) + 0 := id rfl
@[simp] theorem Reg.TWIN_OFFSET_VALUE_width : Reg.TWIN_OFFSET_VALUE.width = 32 := rfl
@[simp] theorem Reg.TWIN_STATUS_ROLE_key : Reg.TWIN_STATUS_ROLE.key = 32 * (0x3C010) + 29 := id rfl
@[simp] theorem Reg.TWIN_STATUS_ROLE_width : Reg.TWIN_STATUS_ROLE.width = 3 := rfl
@[simp] theorem Reg.TWIN_STATUS_PAIR_ID_key : Reg.TWIN_STATUS_PAIR_ID.key = 32 * (0x3C010) + 28 := id rfl
@[simp] theorem Reg.TWIN_STATUS_PAIR_ID_width : Reg.TWIN_STATUS_PAIR_ID.width = 1 := rfl
@[simp] theorem Reg.TWIN_STATUS_SOLO_STRAP_key : Reg.TWIN_STATUS_SOLO_STRAP.key = 32 * (0x3C010) + 27 := id rfl
@[simp] theorem Reg.TWIN_STATUS_SOLO_STRAP_width : Reg.TWIN_STATUS_SOLO_STRAP.width = 1 := rfl
@[simp] theorem Reg.TWIN_STATUS_LINK_key : Reg.TWIN_STATUS_LINK.key = 32 * (0x3C010) + 26 := id rfl
@[simp] theorem Reg.TWIN_STATUS_LINK_width : Reg.TWIN_STATUS_LINK.width = 1 := rfl
@[simp] theorem Reg.TWIN_STATUS_WITNESS_key : Reg.TWIN_STATUS_WITNESS.key = 32 * (0x3C010) + 25 := id rfl
@[simp] theorem Reg.TWIN_STATUS_WITNESS_width : Reg.TWIN_STATUS_WITNESS.width = 1 := rfl
@[simp] theorem Reg.TWIN_STATUS_LANE1_OK_key : Reg.TWIN_STATUS_LANE1_OK.key = 32 * (0x3C010) + 24 := id rfl
@[simp] theorem Reg.TWIN_STATUS_LANE1_OK_width : Reg.TWIN_STATUS_LANE1_OK.width = 1 := rfl
@[simp] theorem Reg.TWIN_STATUS_LANE0_OK_key : Reg.TWIN_STATUS_LANE0_OK.key = 32 * (0x3C010) + 23 := id rfl
@[simp] theorem Reg.TWIN_STATUS_LANE0_OK_width : Reg.TWIN_STATUS_LANE0_OK.width = 1 := rfl
@[simp] theorem Reg.TWIN_STATUS_CAL_VALID_key : Reg.TWIN_STATUS_CAL_VALID.key = 32 * (0x3C010) + 22 := id rfl
@[simp] theorem Reg.TWIN_STATUS_CAL_VALID_width : Reg.TWIN_STATUS_CAL_VALID.width = 1 := rfl
@[simp] theorem Reg.TWIN_STATUS_INDEXED_key : Reg.TWIN_STATUS_INDEXED.key = 32 * (0x3C010) + 21 := id rfl
@[simp] theorem Reg.TWIN_STATUS_INDEXED_width : Reg.TWIN_STATUS_INDEXED.width = 1 := rfl
@[simp] theorem Reg.TWIN_STATUS_SLIP_key : Reg.TWIN_STATUS_SLIP.key = 32 * (0x3C010) + 20 := id rfl
@[simp] theorem Reg.TWIN_STATUS_SLIP_width : Reg.TWIN_STATUS_SLIP.width = 1 := rfl
@[simp] theorem Reg.TWIN_STATUS_CLK_ERR_key : Reg.TWIN_STATUS_CLK_ERR.key = 32 * (0x3C010) + 19 := id rfl
@[simp] theorem Reg.TWIN_STATUS_CLK_ERR_width : Reg.TWIN_STATUS_CLK_ERR.width = 1 := rfl
@[simp] theorem Reg.TWIN_STATUS_ALIGN_CFG_ERR_key : Reg.TWIN_STATUS_ALIGN_CFG_ERR.key = 32 * (0x3C010) + 18 := id rfl
@[simp] theorem Reg.TWIN_STATUS_ALIGN_CFG_ERR_width : Reg.TWIN_STATUS_ALIGN_CFG_ERR.width = 1 := rfl
@[simp] theorem Reg.TWIN_STATUS_CONFLICT_key : Reg.TWIN_STATUS_CONFLICT.key = 32 * (0x3C010) + 17 := id rfl
@[simp] theorem Reg.TWIN_STATUS_CONFLICT_width : Reg.TWIN_STATUS_CONFLICT.width = 1 := rfl
@[simp] theorem Reg.TWIN_STATUS_INELIGIBLE_key : Reg.TWIN_STATUS_INELIGIBLE.key = 32 * (0x3C010) + 16 := id rfl
@[simp] theorem Reg.TWIN_STATUS_INELIGIBLE_width : Reg.TWIN_STATUS_INELIGIBLE.width = 1 := rfl
@[simp] theorem Reg.TWIN_STATUS_DEMOTE_PENDING_key : Reg.TWIN_STATUS_DEMOTE_PENDING.key = 32 * (0x3C010) + 15 := id rfl
@[simp] theorem Reg.TWIN_STATUS_DEMOTE_PENDING_width : Reg.TWIN_STATUS_DEMOTE_PENDING.width = 1 := rfl
@[simp] theorem Reg.TWIN_EPOCH_TWIN_key : Reg.TWIN_EPOCH_TWIN.key = 32 * (0x3C014) + 16 := id rfl
@[simp] theorem Reg.TWIN_EPOCH_TWIN_width : Reg.TWIN_EPOCH_TWIN.width = 16 := rfl
@[simp] theorem Reg.TWIN_EPOCH_OWN_key : Reg.TWIN_EPOCH_OWN.key = 32 * (0x3C014) + 0 := id rfl
@[simp] theorem Reg.TWIN_EPOCH_OWN_width : Reg.TWIN_EPOCH_OWN.width = 16 := rfl
@[simp] theorem Reg.TWIN_CMD_RESET_TWIN_key : Reg.TWIN_CMD_RESET_TWIN.key = 32 * (0x3C018) + 1 := id rfl
@[simp] theorem Reg.TWIN_CMD_RESET_TWIN_width : Reg.TWIN_CMD_RESET_TWIN.width = 1 := rfl
@[simp] theorem Reg.TWIN_CMD_DEMOTE_key : Reg.TWIN_CMD_DEMOTE.key = 32 * (0x3C018) + 0 := id rfl
@[simp] theorem Reg.TWIN_CMD_DEMOTE_width : Reg.TWIN_CMD_DEMOTE.width = 1 := rfl
@[simp] theorem Reg.TWIN_M_LOCAL_VALUE_key : Reg.TWIN_M_LOCAL_VALUE.key = 32 * (0x3C01C) + 0 := id rfl
@[simp] theorem Reg.TWIN_M_LOCAL_VALUE_width : Reg.TWIN_M_LOCAL_VALUE.width = 32 := rfl
@[simp] theorem Reg.TWIN_M_REMOTE_VALUE_key : Reg.TWIN_M_REMOTE_VALUE.key = 32 * (0x3C020) + 0 := id rfl
@[simp] theorem Reg.TWIN_M_REMOTE_VALUE_width : Reg.TWIN_M_REMOTE_VALUE.width = 32 := rfl
@[simp] theorem Reg.TWIN_DELAY_VALUE_key : Reg.TWIN_DELAY_VALUE.key = 32 * (0x3C024) + 0 := id rfl
@[simp] theorem Reg.TWIN_DELAY_VALUE_width : Reg.TWIN_DELAY_VALUE.width = 32 := rfl
@[simp] theorem Reg.TWIN_COUNT0_LINK_LOSS_key : Reg.TWIN_COUNT0_LINK_LOSS.key = 32 * (0x3C028) + 16 := id rfl
@[simp] theorem Reg.TWIN_COUNT0_LINK_LOSS_width : Reg.TWIN_COUNT0_LINK_LOSS.width = 16 := rfl
@[simp] theorem Reg.TWIN_COUNT0_WIT_LOSS_key : Reg.TWIN_COUNT0_WIT_LOSS.key = 32 * (0x3C028) + 0 := id rfl
@[simp] theorem Reg.TWIN_COUNT0_WIT_LOSS_width : Reg.TWIN_COUNT0_WIT_LOSS.width = 16 := rfl
@[simp] theorem Reg.TWIN_COUNT1_PROMOTIONS_key : Reg.TWIN_COUNT1_PROMOTIONS.key = 32 * (0x3C02C) + 16 := id rfl
@[simp] theorem Reg.TWIN_COUNT1_PROMOTIONS_width : Reg.TWIN_COUNT1_PROMOTIONS.width = 16 := rfl
@[simp] theorem Reg.TWIN_COUNT1_DEMOTIONS_key : Reg.TWIN_COUNT1_DEMOTIONS.key = 32 * (0x3C02C) + 0 := id rfl
@[simp] theorem Reg.TWIN_COUNT1_DEMOTIONS_width : Reg.TWIN_COUNT1_DEMOTIONS.width = 16 := rfl
@[simp] theorem Reg.TWIN_COUNT2_CRC_ERR_key : Reg.TWIN_COUNT2_CRC_ERR.key = 32 * (0x3C030) + 16 := id rfl
@[simp] theorem Reg.TWIN_COUNT2_CRC_ERR_width : Reg.TWIN_COUNT2_CRC_ERR.width = 16 := rfl
@[simp] theorem Reg.TWIN_COUNT2_SLIPS_key : Reg.TWIN_COUNT2_SLIPS.key = 32 * (0x3C030) + 0 := id rfl
@[simp] theorem Reg.TWIN_COUNT2_SLIPS_width : Reg.TWIN_COUNT2_SLIPS.width = 16 := rfl
@[simp] theorem Reg.TWIN_FOLD_VALUE_key (i : Nat) : (Reg.TWIN_FOLD_VALUE i).key = 32 * (0x3C040 + 0x4 * i) + 0 := id rfl
@[simp] theorem Reg.TWIN_FOLD_VALUE_width (i : Nat) : (Reg.TWIN_FOLD_VALUE i).width = 32 := rfl
@[simp] theorem Reg.TWIN_ERR_P_VALUE_key (i : Nat) : (Reg.TWIN_ERR_P_VALUE i).key = 32 * (0x3C060 + 0x4 * i) + 0 := id rfl
@[simp] theorem Reg.TWIN_ERR_P_VALUE_width (i : Nat) : (Reg.TWIN_ERR_P_VALUE i).width = 32 := rfl
@[simp] theorem Reg.TWIN_ERR_TS_SUBSEC_key (i : Nat) : (Reg.TWIN_ERR_TS_SUBSEC i).key = 32 * (0x3C080 + 0x4 * i) + 8 := id rfl
@[simp] theorem Reg.TWIN_ERR_TS_SUBSEC_width (i : Nat) : (Reg.TWIN_ERR_TS_SUBSEC i).width = 24 := rfl
@[simp] theorem Reg.TWIN_ERR_TS_SEC_key (i : Nat) : (Reg.TWIN_ERR_TS_SEC i).key = 32 * (0x3C080 + 0x4 * i) + 0 := id rfl
@[simp] theorem Reg.TWIN_ERR_TS_SEC_width (i : Nat) : (Reg.TWIN_ERR_TS_SEC i).width = 8 := rfl
@[simp] theorem Reg.EVR_CTRL_TTL_key : Reg.EVR_CTRL_TTL.key = 32 * (0x3E000) + 24 := id rfl
@[simp] theorem Reg.EVR_CTRL_TTL_width : Reg.EVR_CTRL_TTL.width = 8 := rfl
@[simp] theorem Reg.EVR_CTRL_DSCP_key : Reg.EVR_CTRL_DSCP.key = 32 * (0x3E000) + 18 := id rfl
@[simp] theorem Reg.EVR_CTRL_DSCP_width : Reg.EVR_CTRL_DSCP.width = 6 := rfl
@[simp] theorem Reg.EVR_CTRL_SCRUB_EN_key : Reg.EVR_CTRL_SCRUB_EN.key = 32 * (0x3E000) + 0 := id rfl
@[simp] theorem Reg.EVR_CTRL_SCRUB_EN_width : Reg.EVR_CTRL_SCRUB_EN.width = 1 := rfl
@[simp] theorem Reg.EVR_STATUS_SPARES_LEFT_key : Reg.EVR_STATUS_SPARES_LEFT.key = 32 * (0x3E004) + 8 := id rfl
@[simp] theorem Reg.EVR_STATUS_SPARES_LEFT_width : Reg.EVR_STATUS_SPARES_LEFT.width = 8 := rfl
@[simp] theorem Reg.EVR_STATUS_READY_key : Reg.EVR_STATUS_READY.key = 32 * (0x3E004) + 0 := id rfl
@[simp] theorem Reg.EVR_STATUS_READY_width : Reg.EVR_STATUS_READY.width = 1 := rfl
@[simp] theorem Reg.EVR_ROLE_MAP_EN7_key (i : Nat) : (Reg.EVR_ROLE_MAP_EN7 i).key = 32 * (0x3E008 + 0x4 * i) + 31 := id rfl
@[simp] theorem Reg.EVR_ROLE_MAP_EN7_width (i : Nat) : (Reg.EVR_ROLE_MAP_EN7 i).width = 1 := rfl
@[simp] theorem Reg.EVR_ROLE_MAP_RING7_key (i : Nat) : (Reg.EVR_ROLE_MAP_RING7 i).key = 32 * (0x3E008 + 0x4 * i) + 28 := id rfl
@[simp] theorem Reg.EVR_ROLE_MAP_RING7_width (i : Nat) : (Reg.EVR_ROLE_MAP_RING7 i).width = 3 := rfl
@[simp] theorem Reg.EVR_ROLE_MAP_EN6_key (i : Nat) : (Reg.EVR_ROLE_MAP_EN6 i).key = 32 * (0x3E008 + 0x4 * i) + 27 := id rfl
@[simp] theorem Reg.EVR_ROLE_MAP_EN6_width (i : Nat) : (Reg.EVR_ROLE_MAP_EN6 i).width = 1 := rfl
@[simp] theorem Reg.EVR_ROLE_MAP_RING6_key (i : Nat) : (Reg.EVR_ROLE_MAP_RING6 i).key = 32 * (0x3E008 + 0x4 * i) + 24 := id rfl
@[simp] theorem Reg.EVR_ROLE_MAP_RING6_width (i : Nat) : (Reg.EVR_ROLE_MAP_RING6 i).width = 3 := rfl
@[simp] theorem Reg.EVR_ROLE_MAP_EN5_key (i : Nat) : (Reg.EVR_ROLE_MAP_EN5 i).key = 32 * (0x3E008 + 0x4 * i) + 23 := id rfl
@[simp] theorem Reg.EVR_ROLE_MAP_EN5_width (i : Nat) : (Reg.EVR_ROLE_MAP_EN5 i).width = 1 := rfl
@[simp] theorem Reg.EVR_ROLE_MAP_RING5_key (i : Nat) : (Reg.EVR_ROLE_MAP_RING5 i).key = 32 * (0x3E008 + 0x4 * i) + 20 := id rfl
@[simp] theorem Reg.EVR_ROLE_MAP_RING5_width (i : Nat) : (Reg.EVR_ROLE_MAP_RING5 i).width = 3 := rfl
@[simp] theorem Reg.EVR_ROLE_MAP_EN4_key (i : Nat) : (Reg.EVR_ROLE_MAP_EN4 i).key = 32 * (0x3E008 + 0x4 * i) + 19 := id rfl
@[simp] theorem Reg.EVR_ROLE_MAP_EN4_width (i : Nat) : (Reg.EVR_ROLE_MAP_EN4 i).width = 1 := rfl
@[simp] theorem Reg.EVR_ROLE_MAP_RING4_key (i : Nat) : (Reg.EVR_ROLE_MAP_RING4 i).key = 32 * (0x3E008 + 0x4 * i) + 16 := id rfl
@[simp] theorem Reg.EVR_ROLE_MAP_RING4_width (i : Nat) : (Reg.EVR_ROLE_MAP_RING4 i).width = 3 := rfl
@[simp] theorem Reg.EVR_ROLE_MAP_EN3_key (i : Nat) : (Reg.EVR_ROLE_MAP_EN3 i).key = 32 * (0x3E008 + 0x4 * i) + 15 := id rfl
@[simp] theorem Reg.EVR_ROLE_MAP_EN3_width (i : Nat) : (Reg.EVR_ROLE_MAP_EN3 i).width = 1 := rfl
@[simp] theorem Reg.EVR_ROLE_MAP_RING3_key (i : Nat) : (Reg.EVR_ROLE_MAP_RING3 i).key = 32 * (0x3E008 + 0x4 * i) + 12 := id rfl
@[simp] theorem Reg.EVR_ROLE_MAP_RING3_width (i : Nat) : (Reg.EVR_ROLE_MAP_RING3 i).width = 3 := rfl
@[simp] theorem Reg.EVR_ROLE_MAP_EN2_key (i : Nat) : (Reg.EVR_ROLE_MAP_EN2 i).key = 32 * (0x3E008 + 0x4 * i) + 11 := id rfl
@[simp] theorem Reg.EVR_ROLE_MAP_EN2_width (i : Nat) : (Reg.EVR_ROLE_MAP_EN2 i).width = 1 := rfl
@[simp] theorem Reg.EVR_ROLE_MAP_RING2_key (i : Nat) : (Reg.EVR_ROLE_MAP_RING2 i).key = 32 * (0x3E008 + 0x4 * i) + 8 := id rfl
@[simp] theorem Reg.EVR_ROLE_MAP_RING2_width (i : Nat) : (Reg.EVR_ROLE_MAP_RING2 i).width = 3 := rfl
@[simp] theorem Reg.EVR_ROLE_MAP_EN1_key (i : Nat) : (Reg.EVR_ROLE_MAP_EN1 i).key = 32 * (0x3E008 + 0x4 * i) + 7 := id rfl
@[simp] theorem Reg.EVR_ROLE_MAP_EN1_width (i : Nat) : (Reg.EVR_ROLE_MAP_EN1 i).width = 1 := rfl
@[simp] theorem Reg.EVR_ROLE_MAP_RING1_key (i : Nat) : (Reg.EVR_ROLE_MAP_RING1 i).key = 32 * (0x3E008 + 0x4 * i) + 4 := id rfl
@[simp] theorem Reg.EVR_ROLE_MAP_RING1_width (i : Nat) : (Reg.EVR_ROLE_MAP_RING1 i).width = 3 := rfl
@[simp] theorem Reg.EVR_ROLE_MAP_EN0_key (i : Nat) : (Reg.EVR_ROLE_MAP_EN0 i).key = 32 * (0x3E008 + 0x4 * i) + 3 := id rfl
@[simp] theorem Reg.EVR_ROLE_MAP_EN0_width (i : Nat) : (Reg.EVR_ROLE_MAP_EN0 i).width = 1 := rfl
@[simp] theorem Reg.EVR_ROLE_MAP_RING0_key (i : Nat) : (Reg.EVR_ROLE_MAP_RING0 i).key = 32 * (0x3E008 + 0x4 * i) + 0 := id rfl
@[simp] theorem Reg.EVR_ROLE_MAP_RING0_width (i : Nat) : (Reg.EVR_ROLE_MAP_RING0 i).width = 3 := rfl
@[simp] theorem Reg.EVR_GROUP_MAP_EN7_key (i : Nat) : (Reg.EVR_GROUP_MAP_EN7 i).key = 32 * (0x3E020 + 0x4 * i) + 31 := id rfl
@[simp] theorem Reg.EVR_GROUP_MAP_EN7_width (i : Nat) : (Reg.EVR_GROUP_MAP_EN7 i).width = 1 := rfl
@[simp] theorem Reg.EVR_GROUP_MAP_RING7_key (i : Nat) : (Reg.EVR_GROUP_MAP_RING7 i).key = 32 * (0x3E020 + 0x4 * i) + 28 := id rfl
@[simp] theorem Reg.EVR_GROUP_MAP_RING7_width (i : Nat) : (Reg.EVR_GROUP_MAP_RING7 i).width = 3 := rfl
@[simp] theorem Reg.EVR_GROUP_MAP_EN6_key (i : Nat) : (Reg.EVR_GROUP_MAP_EN6 i).key = 32 * (0x3E020 + 0x4 * i) + 27 := id rfl
@[simp] theorem Reg.EVR_GROUP_MAP_EN6_width (i : Nat) : (Reg.EVR_GROUP_MAP_EN6 i).width = 1 := rfl
@[simp] theorem Reg.EVR_GROUP_MAP_RING6_key (i : Nat) : (Reg.EVR_GROUP_MAP_RING6 i).key = 32 * (0x3E020 + 0x4 * i) + 24 := id rfl
@[simp] theorem Reg.EVR_GROUP_MAP_RING6_width (i : Nat) : (Reg.EVR_GROUP_MAP_RING6 i).width = 3 := rfl
@[simp] theorem Reg.EVR_GROUP_MAP_EN5_key (i : Nat) : (Reg.EVR_GROUP_MAP_EN5 i).key = 32 * (0x3E020 + 0x4 * i) + 23 := id rfl
@[simp] theorem Reg.EVR_GROUP_MAP_EN5_width (i : Nat) : (Reg.EVR_GROUP_MAP_EN5 i).width = 1 := rfl
@[simp] theorem Reg.EVR_GROUP_MAP_RING5_key (i : Nat) : (Reg.EVR_GROUP_MAP_RING5 i).key = 32 * (0x3E020 + 0x4 * i) + 20 := id rfl
@[simp] theorem Reg.EVR_GROUP_MAP_RING5_width (i : Nat) : (Reg.EVR_GROUP_MAP_RING5 i).width = 3 := rfl
@[simp] theorem Reg.EVR_GROUP_MAP_EN4_key (i : Nat) : (Reg.EVR_GROUP_MAP_EN4 i).key = 32 * (0x3E020 + 0x4 * i) + 19 := id rfl
@[simp] theorem Reg.EVR_GROUP_MAP_EN4_width (i : Nat) : (Reg.EVR_GROUP_MAP_EN4 i).width = 1 := rfl
@[simp] theorem Reg.EVR_GROUP_MAP_RING4_key (i : Nat) : (Reg.EVR_GROUP_MAP_RING4 i).key = 32 * (0x3E020 + 0x4 * i) + 16 := id rfl
@[simp] theorem Reg.EVR_GROUP_MAP_RING4_width (i : Nat) : (Reg.EVR_GROUP_MAP_RING4 i).width = 3 := rfl
@[simp] theorem Reg.EVR_GROUP_MAP_EN3_key (i : Nat) : (Reg.EVR_GROUP_MAP_EN3 i).key = 32 * (0x3E020 + 0x4 * i) + 15 := id rfl
@[simp] theorem Reg.EVR_GROUP_MAP_EN3_width (i : Nat) : (Reg.EVR_GROUP_MAP_EN3 i).width = 1 := rfl
@[simp] theorem Reg.EVR_GROUP_MAP_RING3_key (i : Nat) : (Reg.EVR_GROUP_MAP_RING3 i).key = 32 * (0x3E020 + 0x4 * i) + 12 := id rfl
@[simp] theorem Reg.EVR_GROUP_MAP_RING3_width (i : Nat) : (Reg.EVR_GROUP_MAP_RING3 i).width = 3 := rfl
@[simp] theorem Reg.EVR_GROUP_MAP_EN2_key (i : Nat) : (Reg.EVR_GROUP_MAP_EN2 i).key = 32 * (0x3E020 + 0x4 * i) + 11 := id rfl
@[simp] theorem Reg.EVR_GROUP_MAP_EN2_width (i : Nat) : (Reg.EVR_GROUP_MAP_EN2 i).width = 1 := rfl
@[simp] theorem Reg.EVR_GROUP_MAP_RING2_key (i : Nat) : (Reg.EVR_GROUP_MAP_RING2 i).key = 32 * (0x3E020 + 0x4 * i) + 8 := id rfl
@[simp] theorem Reg.EVR_GROUP_MAP_RING2_width (i : Nat) : (Reg.EVR_GROUP_MAP_RING2 i).width = 3 := rfl
@[simp] theorem Reg.EVR_GROUP_MAP_EN1_key (i : Nat) : (Reg.EVR_GROUP_MAP_EN1 i).key = 32 * (0x3E020 + 0x4 * i) + 7 := id rfl
@[simp] theorem Reg.EVR_GROUP_MAP_EN1_width (i : Nat) : (Reg.EVR_GROUP_MAP_EN1 i).width = 1 := rfl
@[simp] theorem Reg.EVR_GROUP_MAP_RING1_key (i : Nat) : (Reg.EVR_GROUP_MAP_RING1 i).key = 32 * (0x3E020 + 0x4 * i) + 4 := id rfl
@[simp] theorem Reg.EVR_GROUP_MAP_RING1_width (i : Nat) : (Reg.EVR_GROUP_MAP_RING1 i).width = 3 := rfl
@[simp] theorem Reg.EVR_GROUP_MAP_EN0_key (i : Nat) : (Reg.EVR_GROUP_MAP_EN0 i).key = 32 * (0x3E020 + 0x4 * i) + 3 := id rfl
@[simp] theorem Reg.EVR_GROUP_MAP_EN0_width (i : Nat) : (Reg.EVR_GROUP_MAP_EN0 i).width = 1 := rfl
@[simp] theorem Reg.EVR_GROUP_MAP_RING0_key (i : Nat) : (Reg.EVR_GROUP_MAP_RING0 i).key = 32 * (0x3E020 + 0x4 * i) + 0 := id rfl
@[simp] theorem Reg.EVR_GROUP_MAP_RING0_width (i : Nat) : (Reg.EVR_GROUP_MAP_RING0 i).width = 3 := rfl
@[simp] theorem Reg.EVR_ECC_CORR_key : Reg.EVR_ECC_CORR.key = 32 * (0x3E028) + 16 := id rfl
@[simp] theorem Reg.EVR_ECC_CORR_width : Reg.EVR_ECC_CORR.width = 16 := rfl
@[simp] theorem Reg.EVR_ECC_UNC_key : Reg.EVR_ECC_UNC.key = 32 * (0x3E028) + 0 := id rfl
@[simp] theorem Reg.EVR_ECC_UNC_width : Reg.EVR_ECC_UNC.width = 16 := rfl
@[simp] theorem Reg.EVR_ECC_ADDR_ADDR_key : Reg.EVR_ECC_ADDR_ADDR.key = 32 * (0x3E02C) + 0 := id rfl
@[simp] theorem Reg.EVR_ECC_ADDR_ADDR_width : Reg.EVR_ECC_ADDR_ADDR.width = 27 := rfl
@[simp] theorem Reg.EVR_STREAM_DMAC_LO_MAC_key : Reg.EVR_STREAM_DMAC_LO_MAC.key = 32 * (0x3E030) + 0 := id rfl
@[simp] theorem Reg.EVR_STREAM_DMAC_LO_MAC_width : Reg.EVR_STREAM_DMAC_LO_MAC.width = 32 := rfl
@[simp] theorem Reg.EVR_STREAM_DMAC_HI_BASE_PORT_key : Reg.EVR_STREAM_DMAC_HI_BASE_PORT.key = 32 * (0x3E034) + 16 := id rfl
@[simp] theorem Reg.EVR_STREAM_DMAC_HI_BASE_PORT_width : Reg.EVR_STREAM_DMAC_HI_BASE_PORT.width = 16 := rfl
@[simp] theorem Reg.EVR_STREAM_DMAC_HI_MAC_key : Reg.EVR_STREAM_DMAC_HI_MAC.key = 32 * (0x3E034) + 0 := id rfl
@[simp] theorem Reg.EVR_STREAM_DMAC_HI_MAC_width : Reg.EVR_STREAM_DMAC_HI_MAC.width = 16 := rfl
@[simp] theorem Reg.EVR_STREAM_SIP_ADDR_key : Reg.EVR_STREAM_SIP_ADDR.key = 32 * (0x3E038) + 0 := id rfl
@[simp] theorem Reg.EVR_STREAM_SIP_ADDR_width : Reg.EVR_STREAM_SIP_ADDR.width = 32 := rfl
@[simp] theorem Reg.EVR_STREAM_DIP_ADDR_key : Reg.EVR_STREAM_DIP_ADDR.key = 32 * (0x3E03C) + 0 := id rfl
@[simp] theorem Reg.EVR_STREAM_DIP_ADDR_width : Reg.EVR_STREAM_DIP_ADDR.width = 32 := rfl
@[simp] theorem Reg.EVR_RING_CFG_EN_key (i : Nat) : (Reg.EVR_RING_CFG_EN i).key = 32 * (0x3E040 + 0x28 * i) + 31 := id rfl
@[simp] theorem Reg.EVR_RING_CFG_EN_width (i : Nat) : (Reg.EVR_RING_CFG_EN i).width = 1 := rfl
@[simp] theorem Reg.EVR_RING_CFG_FORMAT_key (i : Nat) : (Reg.EVR_RING_CFG_FORMAT i).key = 32 * (0x3E040 + 0x28 * i) + 30 := id rfl
@[simp] theorem Reg.EVR_RING_CFG_FORMAT_width (i : Nat) : (Reg.EVR_RING_CFG_FORMAT i).width = 1 := rfl
@[simp] theorem Reg.EVR_RING_CFG_POLICY_key (i : Nat) : (Reg.EVR_RING_CFG_POLICY i).key = 32 * (0x3E040 + 0x28 * i) + 29 := id rfl
@[simp] theorem Reg.EVR_RING_CFG_POLICY_width (i : Nat) : (Reg.EVR_RING_CFG_POLICY i).width = 1 := rfl
@[simp] theorem Reg.EVR_RING_CFG_TS_key (i : Nat) : (Reg.EVR_RING_CFG_TS i).key = 32 * (0x3E040 + 0x28 * i) + 27 := id rfl
@[simp] theorem Reg.EVR_RING_CFG_TS_width (i : Nat) : (Reg.EVR_RING_CFG_TS i).width = 2 := rfl
@[simp] theorem Reg.EVR_RING_CFG_STREAM_key (i : Nat) : (Reg.EVR_RING_CFG_STREAM i).key = 32 * (0x3E040 + 0x28 * i) + 26 := id rfl
@[simp] theorem Reg.EVR_RING_CFG_STREAM_width (i : Nat) : (Reg.EVR_RING_CFG_STREAM i).width = 1 := rfl
@[simp] theorem Reg.EVR_RING_CFG_PORT_key (i : Nat) : (Reg.EVR_RING_CFG_PORT i).key = 32 * (0x3E040 + 0x28 * i) + 24 := id rfl
@[simp] theorem Reg.EVR_RING_CFG_PORT_width (i : Nat) : (Reg.EVR_RING_CFG_PORT i).width = 2 := rfl
@[simp] theorem Reg.EVR_RING_CFG_QUEUE_key (i : Nat) : (Reg.EVR_RING_CFG_QUEUE i).key = 32 * (0x3E040 + 0x28 * i) + 21 := id rfl
@[simp] theorem Reg.EVR_RING_CFG_QUEUE_width (i : Nat) : (Reg.EVR_RING_CFG_QUEUE i).width = 3 := rfl
@[simp] theorem Reg.EVR_RING_CFG_FLUSH_key (i : Nat) : (Reg.EVR_RING_CFG_FLUSH i).key = 32 * (0x3E040 + 0x28 * i) + 0 := id rfl
@[simp] theorem Reg.EVR_RING_CFG_FLUSH_width (i : Nat) : (Reg.EVR_RING_CFG_FLUSH i).width = 10 := rfl
@[simp] theorem Reg.EVR_RING_BASE_UNITS_key (i : Nat) : (Reg.EVR_RING_BASE_UNITS i).key = 32 * (0x3E044 + 0x28 * i) + 0 := id rfl
@[simp] theorem Reg.EVR_RING_BASE_UNITS_width (i : Nat) : (Reg.EVR_RING_BASE_UNITS i).width = 11 := rfl
@[simp] theorem Reg.EVR_RING_SIZE_UNITS_key (i : Nat) : (Reg.EVR_RING_SIZE_UNITS i).key = 32 * (0x3E048 + 0x28 * i) + 0 := id rfl
@[simp] theorem Reg.EVR_RING_SIZE_UNITS_width (i : Nat) : (Reg.EVR_RING_SIZE_UNITS i).width = 12 := rfl
@[simp] theorem Reg.EVR_RING_WR_OFFSET_key (i : Nat) : (Reg.EVR_RING_WR_OFFSET i).key = 32 * (0x3E04C + 0x28 * i) + 0 := id rfl
@[simp] theorem Reg.EVR_RING_WR_OFFSET_width (i : Nat) : (Reg.EVR_RING_WR_OFFSET i).width = 27 := rfl
@[simp] theorem Reg.EVR_RING_RD_OFFSET_key (i : Nat) : (Reg.EVR_RING_RD_OFFSET i).key = 32 * (0x3E050 + 0x28 * i) + 0 := id rfl
@[simp] theorem Reg.EVR_RING_RD_OFFSET_width (i : Nat) : (Reg.EVR_RING_RD_OFFSET i).width = 27 := rfl
@[simp] theorem Reg.EVR_RING_STATUS_RD_ERR_key (i : Nat) : (Reg.EVR_RING_STATUS_RD_ERR i).key = 32 * (0x3E054 + 0x28 * i) + 4 := id rfl
@[simp] theorem Reg.EVR_RING_STATUS_RD_ERR_width (i : Nat) : (Reg.EVR_RING_STATUS_RD_ERR i).width = 1 := rfl
@[simp] theorem Reg.EVR_RING_STATUS_TS_MISMATCH_key (i : Nat) : (Reg.EVR_RING_STATUS_TS_MISMATCH i).key = 32 * (0x3E054 + 0x28 * i) + 3 := id rfl
@[simp] theorem Reg.EVR_RING_STATUS_TS_MISMATCH_width (i : Nat) : (Reg.EVR_RING_STATUS_TS_MISMATCH i).width = 1 := rfl
@[simp] theorem Reg.EVR_RING_STATUS_FULL_key (i : Nat) : (Reg.EVR_RING_STATUS_FULL i).key = 32 * (0x3E054 + 0x28 * i) + 2 := id rfl
@[simp] theorem Reg.EVR_RING_STATUS_FULL_width (i : Nat) : (Reg.EVR_RING_STATUS_FULL i).width = 1 := rfl
@[simp] theorem Reg.EVR_RING_STATUS_CFG_ERR_key (i : Nat) : (Reg.EVR_RING_STATUS_CFG_ERR i).key = 32 * (0x3E054 + 0x28 * i) + 1 := id rfl
@[simp] theorem Reg.EVR_RING_STATUS_CFG_ERR_width (i : Nat) : (Reg.EVR_RING_STATUS_CFG_ERR i).width = 1 := rfl
@[simp] theorem Reg.EVR_RING_STATUS_RUNNING_key (i : Nat) : (Reg.EVR_RING_STATUS_RUNNING i).key = 32 * (0x3E054 + 0x28 * i) + 0 := id rfl
@[simp] theorem Reg.EVR_RING_STATUS_RUNNING_width (i : Nat) : (Reg.EVR_RING_STATUS_RUNNING i).width = 1 := rfl
@[simp] theorem Reg.EVR_RING_WRITTEN_LO_COUNT_key (i : Nat) : (Reg.EVR_RING_WRITTEN_LO_COUNT i).key = 32 * (0x3E058 + 0x28 * i) + 0 := id rfl
@[simp] theorem Reg.EVR_RING_WRITTEN_LO_COUNT_width (i : Nat) : (Reg.EVR_RING_WRITTEN_LO_COUNT i).width = 32 := rfl
@[simp] theorem Reg.EVR_RING_WRITTEN_HI_COUNT_key (i : Nat) : (Reg.EVR_RING_WRITTEN_HI_COUNT i).key = 32 * (0x3E05C + 0x28 * i) + 0 := id rfl
@[simp] theorem Reg.EVR_RING_WRITTEN_HI_COUNT_width (i : Nat) : (Reg.EVR_RING_WRITTEN_HI_COUNT i).width = 32 := rfl
@[simp] theorem Reg.EVR_RING_DROPPED_COUNT_key (i : Nat) : (Reg.EVR_RING_DROPPED_COUNT i).key = 32 * (0x3E060 + 0x28 * i) + 0 := id rfl
@[simp] theorem Reg.EVR_RING_DROPPED_COUNT_width (i : Nat) : (Reg.EVR_RING_DROPPED_COUNT i).width = 32 := rfl
@[simp] theorem Reg.EVR_RING_PKTS_COUNT_key (i : Nat) : (Reg.EVR_RING_PKTS_COUNT i).key = 32 * (0x3E064 + 0x28 * i) + 0 := id rfl
@[simp] theorem Reg.EVR_RING_PKTS_COUNT_width (i : Nat) : (Reg.EVR_RING_PKTS_COUNT i).width = 32 := rfl
@[simp] theorem Reg.TST_CFG_AUTO_MAP_key : Reg.TST_CFG_AUTO_MAP.key = 32 * (0x3F000) + 0 := id rfl
@[simp] theorem Reg.TST_CFG_AUTO_MAP_width : Reg.TST_CFG_AUTO_MAP.width = 1 := rfl
@[simp] theorem Reg.TST_BIST_CMD_INDEX_key : Reg.TST_BIST_CMD_INDEX.key = 32 * (0x3F004) + 8 := id rfl
@[simp] theorem Reg.TST_BIST_CMD_INDEX_width : Reg.TST_BIST_CMD_INDEX.width = 8 := rfl
@[simp] theorem Reg.TST_BIST_CMD_TARGET_key : Reg.TST_BIST_CMD_TARGET.key = 32 * (0x3F004) + 4 := id rfl
@[simp] theorem Reg.TST_BIST_CMD_TARGET_width : Reg.TST_BIST_CMD_TARGET.width = 4 := rfl
@[simp] theorem Reg.TST_BIST_CMD_GO_key : Reg.TST_BIST_CMD_GO.key = 32 * (0x3F004) + 0 := id rfl
@[simp] theorem Reg.TST_BIST_CMD_GO_width : Reg.TST_BIST_CMD_GO.width = 1 := rfl
@[simp] theorem Reg.TST_BIST_STATUS_DETAIL_key : Reg.TST_BIST_STATUS_DETAIL.key = 32 * (0x3F008) + 8 := id rfl
@[simp] theorem Reg.TST_BIST_STATUS_DETAIL_width : Reg.TST_BIST_STATUS_DETAIL.width = 24 := rfl
@[simp] theorem Reg.TST_BIST_STATUS_BUSY_key : Reg.TST_BIST_STATUS_BUSY.key = 32 * (0x3F008) + 7 := id rfl
@[simp] theorem Reg.TST_BIST_STATUS_BUSY_width : Reg.TST_BIST_STATUS_BUSY.width = 1 := rfl
@[simp] theorem Reg.TST_BIST_STATUS_RESULT_key : Reg.TST_BIST_STATUS_RESULT.key = 32 * (0x3F008) + 0 := id rfl
@[simp] theorem Reg.TST_BIST_STATUS_RESULT_width : Reg.TST_BIST_STATUS_RESULT.width = 4 := rfl
@[simp] theorem Reg.TST_REPAIR_TDC_SPARE3_key : Reg.TST_REPAIR_TDC_SPARE3.key = 32 * (0x3F00C) + 24 := id rfl
@[simp] theorem Reg.TST_REPAIR_TDC_SPARE3_width : Reg.TST_REPAIR_TDC_SPARE3.width = 8 := rfl
@[simp] theorem Reg.TST_REPAIR_TDC_SPARE2_key : Reg.TST_REPAIR_TDC_SPARE2.key = 32 * (0x3F00C) + 16 := id rfl
@[simp] theorem Reg.TST_REPAIR_TDC_SPARE2_width : Reg.TST_REPAIR_TDC_SPARE2.width = 8 := rfl
@[simp] theorem Reg.TST_REPAIR_TDC_SPARE1_key : Reg.TST_REPAIR_TDC_SPARE1.key = 32 * (0x3F00C) + 8 := id rfl
@[simp] theorem Reg.TST_REPAIR_TDC_SPARE1_width : Reg.TST_REPAIR_TDC_SPARE1.width = 8 := rfl
@[simp] theorem Reg.TST_REPAIR_TDC_SPARE0_key : Reg.TST_REPAIR_TDC_SPARE0.key = 32 * (0x3F00C) + 0 := id rfl
@[simp] theorem Reg.TST_REPAIR_TDC_SPARE0_width : Reg.TST_REPAIR_TDC_SPARE0.width = 8 := rfl
@[simp] theorem Reg.TST_REPAIR_APLL_FAILED_key : Reg.TST_REPAIR_APLL_FAILED.key = 32 * (0x3F010) + 0 := id rfl
@[simp] theorem Reg.TST_REPAIR_APLL_FAILED_width : Reg.TST_REPAIR_APLL_FAILED.width = 8 := rfl
@[simp] theorem Reg.TST_REPAIR_CMD_RESULT_key : Reg.TST_REPAIR_CMD_RESULT.key = 32 * (0x3F014) + 4 := id rfl
@[simp] theorem Reg.TST_REPAIR_CMD_RESULT_width : Reg.TST_REPAIR_CMD_RESULT.width = 4 := rfl
@[simp] theorem Reg.TST_REPAIR_CMD_SAVE_APLL_key : Reg.TST_REPAIR_CMD_SAVE_APLL.key = 32 * (0x3F014) + 1 := id rfl
@[simp] theorem Reg.TST_REPAIR_CMD_SAVE_APLL_width : Reg.TST_REPAIR_CMD_SAVE_APLL.width = 1 := rfl
@[simp] theorem Reg.TST_REPAIR_CMD_SAVE_TDC_key : Reg.TST_REPAIR_CMD_SAVE_TDC.key = 32 * (0x3F014) + 0 := id rfl
@[simp] theorem Reg.TST_REPAIR_CMD_SAVE_TDC_width : Reg.TST_REPAIR_CMD_SAVE_TDC.width = 1 := rfl
@[simp] theorem Reg.TST_REPAIR_STATUS_DRAM_ROWS_key : Reg.TST_REPAIR_STATUS_DRAM_ROWS.key = 32 * (0x3F018) + 8 := id rfl
@[simp] theorem Reg.TST_REPAIR_STATUS_DRAM_ROWS_width : Reg.TST_REPAIR_STATUS_DRAM_ROWS.width = 8 := rfl
@[simp] theorem Reg.TST_REPAIR_STATUS_MAP_SKIP_key : Reg.TST_REPAIR_STATUS_MAP_SKIP.key = 32 * (0x3F018) + 4 := id rfl
@[simp] theorem Reg.TST_REPAIR_STATUS_MAP_SKIP_width : Reg.TST_REPAIR_STATUS_MAP_SKIP.width = 4 := rfl
@[simp] theorem Reg.TST_REPAIR_STATUS_APLL_APPLIED_key : Reg.TST_REPAIR_STATUS_APLL_APPLIED.key = 32 * (0x3F018) + 2 := id rfl
@[simp] theorem Reg.TST_REPAIR_STATUS_APLL_APPLIED_width : Reg.TST_REPAIR_STATUS_APLL_APPLIED.width = 1 := rfl
@[simp] theorem Reg.TST_JTAG_ID_ID_key : Reg.TST_JTAG_ID_ID.key = 32 * (0x3F01C) + 0 := id rfl
@[simp] theorem Reg.TST_JTAG_ID_ID_width : Reg.TST_JTAG_ID_ID.width = 32 := rfl

end Sys2Proof.Machine
end

