-- ==== Sys2Proof/Laws/State.lean ====
section
/-! SUPPORT. What each named update of the state leaves as it was: one lemma per field and update. -/
namespace Sys2Proof.Machine
variable (s : State)

/-! ### `State.wr` -/
@[simp] theorem State.wr_pending (f : Fld) (v : Nat) : (s.wr f v).pending = s.pending := rfl
@[simp] theorem State.wr_now (f : Fld) (v : Nat) : (s.wr f v).now = s.now := rfl
@[simp] theorem State.wr_up (f : Fld) (v : Nat) : (s.wr f v).up = s.up := rfl
@[simp] theorem State.wr_timers (f : Fld) (v : Nat) : (s.wr f v).timers = s.timers := rfl
@[simp] theorem State.wr_free (f : Fld) (v : Nat) : (s.wr f v).free = s.free := rfl
@[simp] theorem State.wr_hostRead (f : Fld) (v : Nat) : (s.wr f v).hostRead = s.hostRead := rfl
@[simp] theorem State.wr_clk (f : Fld) (v : Nat) : (s.wr f v).clk = s.clk := rfl
@[simp] theorem State.wr_eng (f : Fld) (v : Nat) : (s.wr f v).eng = s.eng := rfl
@[simp] theorem State.wr_words (f : Fld) (v : Nat) : (s.wr f v).words = s.words := rfl
@[simp] theorem State.wr_commons (f : Fld) (v : Nat) : (s.wr f v).commons = s.commons := rfl
@[simp] theorem State.wr_out (f : Fld) (v : Nat) : (s.wr f v).out = s.out := rfl
@[simp] theorem State.wr_inw (f : Fld) (v : Nat) : (s.wr f v).inw = s.inw := rfl
@[simp] theorem State.wr_bell (f : Fld) (v : Nat) : (s.wr f v).bell = s.bell := rfl
@[simp] theorem State.wr_subst (f : Fld) (v : Nat) : (s.wr f v).subst = s.subst := rfl
@[simp] theorem State.wr_image (f : Fld) (v : Nat) : (s.wr f v).image = s.image := rfl
@[simp] theorem State.wr_flt (f : Fld) (v : Nat) : (s.wr f v).flt = s.flt := rfl
@[simp] theorem State.wr_tb (f : Fld) (v : Nat) : (s.wr f v).tb = s.tb := rfl
@[simp] theorem State.wr_tbRem (f : Fld) (v : Nat) : (s.wr f v).tbRem = s.tbRem := rfl
@[simp] theorem State.wr_supplyFlag (f : Fld) (v : Nat) : (s.wr f v).supplyFlag = s.supplyFlag := rfl
@[simp] theorem State.wr_slots (f : Fld) (v : Nat) : (s.wr f v).slots = s.slots := rfl
@[simp] theorem State.wr_paths (f : Fld) (v : Nat) : (s.wr f v).paths = s.paths := rfl
@[simp] theorem State.wr_ts (f : Fld) (v : Nat) : (s.wr f v).ts = s.ts := rfl
@[simp] theorem State.wr_tg (f : Fld) (v : Nat) : (s.wr f v).tg = s.tg := rfl
@[simp] theorem State.wr_aplls (f : Fld) (v : Nat) : (s.wr f v).aplls = s.aplls := rfl
@[simp] theorem State.wr_outs (f : Fld) (v : Nat) : (s.wr f v).outs = s.outs := rfl
@[simp] theorem State.wr_chans (f : Fld) (v : Nat) : (s.wr f v).chans = s.chans := rfl
@[simp] theorem State.wr_roles (f : Fld) (v : Nat) : (s.wr f v).roles = s.roles := rfl
@[simp] theorem State.wr_grps (f : Fld) (v : Nat) : (s.wr f v).grps = s.grps := rfl
@[simp] theorem State.wr_twin (f : Fld) (v : Nat) : (s.wr f v).twin = s.twin := rfl
@[simp] theorem State.wr_rings (f : Fld) (v : Nat) : (s.wr f v).rings = s.rings := rfl
@[simp] theorem State.wr_dram (f : Fld) (v : Nat) : (s.wr f v).dram = s.dram := rfl
@[simp] theorem State.wr_ports (f : Fld) (v : Nat) : (s.wr f v).ports = s.ports := rfl
@[simp] theorem State.wr_hostMem (f : Fld) (v : Nat) : (s.wr f v).hostMem = s.hostMem := rfl
@[simp] theorem State.wr_parity (f : Fld) (v : Nat) : (s.wr f v).parity = s.parity := rfl
@[simp] theorem State.wr_keys (f : Fld) (v : Nat) : (s.wr f v).keys = s.keys := rfl
@[simp] theorem State.wr_syl (f : Fld) (v : Nat) : (s.wr f v).syl = s.syl := rfl
@[simp] theorem State.wr_nor (f : Fld) (v : Nat) : (s.wr f v).nor = s.nor := rfl
@[simp] theorem State.wr_jnl (f : Fld) (v : Nat) : (s.wr f v).jnl = s.jnl := rfl
@[simp] theorem State.wr_fuses (f : Fld) (v : Nat) : (s.wr f v).fuses = s.fuses := rfl
@[simp] theorem State.wr_prov (f : Fld) (v : Nat) : (s.wr f v).prov = s.prov := rfl
@[simp] theorem State.wr_bist (f : Fld) (v : Nat) : (s.wr f v).bist = s.bist := rfl
@[simp] theorem State.wr_host (f : Fld) (v : Nat) : (s.wr f v).host = s.host := rfl
@[simp] theorem State.wr_wo (f : Fld) (v : Nat) : (s.wr f v).wo = s.wo := rfl
@[simp] theorem State.wr_mapTdc (f : Fld) (v : Nat) : (s.wr f v).mapTdc = s.mapTdc := rfl
@[simp] theorem State.wr_mapApll (f : Fld) (v : Nat) : (s.wr f v).mapApll = s.mapApll := rfl
@[simp] theorem State.wr_pwr (f : Fld) (v : Nat) : (s.wr f v).pwr = s.pwr := rfl
@[simp] theorem State.wr_jtag (f : Fld) (v : Nat) : (s.wr f v).jtag = s.jtag := rfl
@[simp] theorem State.wr_scan (f : Fld) (v : Nat) : (s.wr f v).scan = s.scan := rfl

/-! ### `State.wrb` -/
@[simp] theorem State.wrb_pending (f : Fld) (b : Bool) : (s.wrb f b).pending = s.pending := rfl
@[simp] theorem State.wrb_now (f : Fld) (b : Bool) : (s.wrb f b).now = s.now := rfl
@[simp] theorem State.wrb_up (f : Fld) (b : Bool) : (s.wrb f b).up = s.up := rfl
@[simp] theorem State.wrb_timers (f : Fld) (b : Bool) : (s.wrb f b).timers = s.timers := rfl
@[simp] theorem State.wrb_free (f : Fld) (b : Bool) : (s.wrb f b).free = s.free := rfl
@[simp] theorem State.wrb_hostRead (f : Fld) (b : Bool) : (s.wrb f b).hostRead = s.hostRead := rfl
@[simp] theorem State.wrb_clk (f : Fld) (b : Bool) : (s.wrb f b).clk = s.clk := rfl
@[simp] theorem State.wrb_eng (f : Fld) (b : Bool) : (s.wrb f b).eng = s.eng := rfl
@[simp] theorem State.wrb_words (f : Fld) (b : Bool) : (s.wrb f b).words = s.words := rfl
@[simp] theorem State.wrb_commons (f : Fld) (b : Bool) : (s.wrb f b).commons = s.commons := rfl
@[simp] theorem State.wrb_out (f : Fld) (b : Bool) : (s.wrb f b).out = s.out := rfl
@[simp] theorem State.wrb_inw (f : Fld) (b : Bool) : (s.wrb f b).inw = s.inw := rfl
@[simp] theorem State.wrb_bell (f : Fld) (b : Bool) : (s.wrb f b).bell = s.bell := rfl
@[simp] theorem State.wrb_subst (f : Fld) (b : Bool) : (s.wrb f b).subst = s.subst := rfl
@[simp] theorem State.wrb_image (f : Fld) (b : Bool) : (s.wrb f b).image = s.image := rfl
@[simp] theorem State.wrb_flt (f : Fld) (b : Bool) : (s.wrb f b).flt = s.flt := rfl
@[simp] theorem State.wrb_tb (f : Fld) (b : Bool) : (s.wrb f b).tb = s.tb := rfl
@[simp] theorem State.wrb_tbRem (f : Fld) (b : Bool) : (s.wrb f b).tbRem = s.tbRem := rfl
@[simp] theorem State.wrb_supplyFlag (f : Fld) (b : Bool) : (s.wrb f b).supplyFlag = s.supplyFlag := rfl
@[simp] theorem State.wrb_slots (f : Fld) (b : Bool) : (s.wrb f b).slots = s.slots := rfl
@[simp] theorem State.wrb_paths (f : Fld) (b : Bool) : (s.wrb f b).paths = s.paths := rfl
@[simp] theorem State.wrb_ts (f : Fld) (b : Bool) : (s.wrb f b).ts = s.ts := rfl
@[simp] theorem State.wrb_tg (f : Fld) (b : Bool) : (s.wrb f b).tg = s.tg := rfl
@[simp] theorem State.wrb_aplls (f : Fld) (b : Bool) : (s.wrb f b).aplls = s.aplls := rfl
@[simp] theorem State.wrb_outs (f : Fld) (b : Bool) : (s.wrb f b).outs = s.outs := rfl
@[simp] theorem State.wrb_chans (f : Fld) (b : Bool) : (s.wrb f b).chans = s.chans := rfl
@[simp] theorem State.wrb_roles (f : Fld) (b : Bool) : (s.wrb f b).roles = s.roles := rfl
@[simp] theorem State.wrb_grps (f : Fld) (b : Bool) : (s.wrb f b).grps = s.grps := rfl
@[simp] theorem State.wrb_twin (f : Fld) (b : Bool) : (s.wrb f b).twin = s.twin := rfl
@[simp] theorem State.wrb_rings (f : Fld) (b : Bool) : (s.wrb f b).rings = s.rings := rfl
@[simp] theorem State.wrb_dram (f : Fld) (b : Bool) : (s.wrb f b).dram = s.dram := rfl
@[simp] theorem State.wrb_ports (f : Fld) (b : Bool) : (s.wrb f b).ports = s.ports := rfl
@[simp] theorem State.wrb_hostMem (f : Fld) (b : Bool) : (s.wrb f b).hostMem = s.hostMem := rfl
@[simp] theorem State.wrb_parity (f : Fld) (b : Bool) : (s.wrb f b).parity = s.parity := rfl
@[simp] theorem State.wrb_keys (f : Fld) (b : Bool) : (s.wrb f b).keys = s.keys := rfl
@[simp] theorem State.wrb_syl (f : Fld) (b : Bool) : (s.wrb f b).syl = s.syl := rfl
@[simp] theorem State.wrb_nor (f : Fld) (b : Bool) : (s.wrb f b).nor = s.nor := rfl
@[simp] theorem State.wrb_jnl (f : Fld) (b : Bool) : (s.wrb f b).jnl = s.jnl := rfl
@[simp] theorem State.wrb_fuses (f : Fld) (b : Bool) : (s.wrb f b).fuses = s.fuses := rfl
@[simp] theorem State.wrb_prov (f : Fld) (b : Bool) : (s.wrb f b).prov = s.prov := rfl
@[simp] theorem State.wrb_bist (f : Fld) (b : Bool) : (s.wrb f b).bist = s.bist := rfl
@[simp] theorem State.wrb_host (f : Fld) (b : Bool) : (s.wrb f b).host = s.host := rfl
@[simp] theorem State.wrb_wo (f : Fld) (b : Bool) : (s.wrb f b).wo = s.wo := rfl
@[simp] theorem State.wrb_mapTdc (f : Fld) (b : Bool) : (s.wrb f b).mapTdc = s.mapTdc := rfl
@[simp] theorem State.wrb_mapApll (f : Fld) (b : Bool) : (s.wrb f b).mapApll = s.mapApll := rfl
@[simp] theorem State.wrb_pwr (f : Fld) (b : Bool) : (s.wrb f b).pwr = s.pwr := rfl
@[simp] theorem State.wrb_jtag (f : Fld) (b : Bool) : (s.wrb f b).jtag = s.jtag := rfl
@[simp] theorem State.wrb_scan (f : Fld) (b : Bool) : (s.wrb f b).scan = s.scan := rfl

/-! ### `State.wri` -/
@[simp] theorem State.wri_pending (f : Fld) (x : Int) : (s.wri f x).pending = s.pending := rfl
@[simp] theorem State.wri_now (f : Fld) (x : Int) : (s.wri f x).now = s.now := rfl
@[simp] theorem State.wri_up (f : Fld) (x : Int) : (s.wri f x).up = s.up := rfl
@[simp] theorem State.wri_timers (f : Fld) (x : Int) : (s.wri f x).timers = s.timers := rfl
@[simp] theorem State.wri_free (f : Fld) (x : Int) : (s.wri f x).free = s.free := rfl
@[simp] theorem State.wri_hostRead (f : Fld) (x : Int) : (s.wri f x).hostRead = s.hostRead := rfl
@[simp] theorem State.wri_clk (f : Fld) (x : Int) : (s.wri f x).clk = s.clk := rfl
@[simp] theorem State.wri_eng (f : Fld) (x : Int) : (s.wri f x).eng = s.eng := rfl
@[simp] theorem State.wri_words (f : Fld) (x : Int) : (s.wri f x).words = s.words := rfl
@[simp] theorem State.wri_commons (f : Fld) (x : Int) : (s.wri f x).commons = s.commons := rfl
@[simp] theorem State.wri_out (f : Fld) (x : Int) : (s.wri f x).out = s.out := rfl
@[simp] theorem State.wri_inw (f : Fld) (x : Int) : (s.wri f x).inw = s.inw := rfl
@[simp] theorem State.wri_bell (f : Fld) (x : Int) : (s.wri f x).bell = s.bell := rfl
@[simp] theorem State.wri_subst (f : Fld) (x : Int) : (s.wri f x).subst = s.subst := rfl
@[simp] theorem State.wri_image (f : Fld) (x : Int) : (s.wri f x).image = s.image := rfl
@[simp] theorem State.wri_flt (f : Fld) (x : Int) : (s.wri f x).flt = s.flt := rfl
@[simp] theorem State.wri_tb (f : Fld) (x : Int) : (s.wri f x).tb = s.tb := rfl
@[simp] theorem State.wri_tbRem (f : Fld) (x : Int) : (s.wri f x).tbRem = s.tbRem := rfl
@[simp] theorem State.wri_supplyFlag (f : Fld) (x : Int) : (s.wri f x).supplyFlag = s.supplyFlag := rfl
@[simp] theorem State.wri_slots (f : Fld) (x : Int) : (s.wri f x).slots = s.slots := rfl
@[simp] theorem State.wri_paths (f : Fld) (x : Int) : (s.wri f x).paths = s.paths := rfl
@[simp] theorem State.wri_ts (f : Fld) (x : Int) : (s.wri f x).ts = s.ts := rfl
@[simp] theorem State.wri_tg (f : Fld) (x : Int) : (s.wri f x).tg = s.tg := rfl
@[simp] theorem State.wri_aplls (f : Fld) (x : Int) : (s.wri f x).aplls = s.aplls := rfl
@[simp] theorem State.wri_outs (f : Fld) (x : Int) : (s.wri f x).outs = s.outs := rfl
@[simp] theorem State.wri_chans (f : Fld) (x : Int) : (s.wri f x).chans = s.chans := rfl
@[simp] theorem State.wri_roles (f : Fld) (x : Int) : (s.wri f x).roles = s.roles := rfl
@[simp] theorem State.wri_grps (f : Fld) (x : Int) : (s.wri f x).grps = s.grps := rfl
@[simp] theorem State.wri_twin (f : Fld) (x : Int) : (s.wri f x).twin = s.twin := rfl
@[simp] theorem State.wri_rings (f : Fld) (x : Int) : (s.wri f x).rings = s.rings := rfl
@[simp] theorem State.wri_dram (f : Fld) (x : Int) : (s.wri f x).dram = s.dram := rfl
@[simp] theorem State.wri_ports (f : Fld) (x : Int) : (s.wri f x).ports = s.ports := rfl
@[simp] theorem State.wri_hostMem (f : Fld) (x : Int) : (s.wri f x).hostMem = s.hostMem := rfl
@[simp] theorem State.wri_parity (f : Fld) (x : Int) : (s.wri f x).parity = s.parity := rfl
@[simp] theorem State.wri_keys (f : Fld) (x : Int) : (s.wri f x).keys = s.keys := rfl
@[simp] theorem State.wri_syl (f : Fld) (x : Int) : (s.wri f x).syl = s.syl := rfl
@[simp] theorem State.wri_nor (f : Fld) (x : Int) : (s.wri f x).nor = s.nor := rfl
@[simp] theorem State.wri_jnl (f : Fld) (x : Int) : (s.wri f x).jnl = s.jnl := rfl
@[simp] theorem State.wri_fuses (f : Fld) (x : Int) : (s.wri f x).fuses = s.fuses := rfl
@[simp] theorem State.wri_prov (f : Fld) (x : Int) : (s.wri f x).prov = s.prov := rfl
@[simp] theorem State.wri_bist (f : Fld) (x : Int) : (s.wri f x).bist = s.bist := rfl
@[simp] theorem State.wri_host (f : Fld) (x : Int) : (s.wri f x).host = s.host := rfl
@[simp] theorem State.wri_wo (f : Fld) (x : Int) : (s.wri f x).wo = s.wo := rfl
@[simp] theorem State.wri_mapTdc (f : Fld) (x : Int) : (s.wri f x).mapTdc = s.mapTdc := rfl
@[simp] theorem State.wri_mapApll (f : Fld) (x : Int) : (s.wri f x).mapApll = s.mapApll := rfl
@[simp] theorem State.wri_pwr (f : Fld) (x : Int) : (s.wri f x).pwr = s.pwr := rfl
@[simp] theorem State.wri_jtag (f : Fld) (x : Int) : (s.wri f x).jtag = s.jtag := rfl
@[simp] theorem State.wri_scan (f : Fld) (x : Int) : (s.wri f x).scan = s.scan := rfl

/-! ### `State.bump` -/
@[simp] theorem State.bump_pending (f : Fld) (k : Nat) : (s.bump f k).pending = s.pending := rfl
@[simp] theorem State.bump_now (f : Fld) (k : Nat) : (s.bump f k).now = s.now := rfl
@[simp] theorem State.bump_up (f : Fld) (k : Nat) : (s.bump f k).up = s.up := rfl
@[simp] theorem State.bump_timers (f : Fld) (k : Nat) : (s.bump f k).timers = s.timers := rfl
@[simp] theorem State.bump_free (f : Fld) (k : Nat) : (s.bump f k).free = s.free := rfl
@[simp] theorem State.bump_hostRead (f : Fld) (k : Nat) : (s.bump f k).hostRead = s.hostRead := rfl
@[simp] theorem State.bump_clk (f : Fld) (k : Nat) : (s.bump f k).clk = s.clk := rfl
@[simp] theorem State.bump_eng (f : Fld) (k : Nat) : (s.bump f k).eng = s.eng := rfl
@[simp] theorem State.bump_words (f : Fld) (k : Nat) : (s.bump f k).words = s.words := rfl
@[simp] theorem State.bump_commons (f : Fld) (k : Nat) : (s.bump f k).commons = s.commons := rfl
@[simp] theorem State.bump_out (f : Fld) (k : Nat) : (s.bump f k).out = s.out := rfl
@[simp] theorem State.bump_inw (f : Fld) (k : Nat) : (s.bump f k).inw = s.inw := rfl
@[simp] theorem State.bump_bell (f : Fld) (k : Nat) : (s.bump f k).bell = s.bell := rfl
@[simp] theorem State.bump_subst (f : Fld) (k : Nat) : (s.bump f k).subst = s.subst := rfl
@[simp] theorem State.bump_image (f : Fld) (k : Nat) : (s.bump f k).image = s.image := rfl
@[simp] theorem State.bump_flt (f : Fld) (k : Nat) : (s.bump f k).flt = s.flt := rfl
@[simp] theorem State.bump_tb (f : Fld) (k : Nat) : (s.bump f k).tb = s.tb := rfl
@[simp] theorem State.bump_tbRem (f : Fld) (k : Nat) : (s.bump f k).tbRem = s.tbRem := rfl
@[simp] theorem State.bump_supplyFlag (f : Fld) (k : Nat) : (s.bump f k).supplyFlag = s.supplyFlag := rfl
@[simp] theorem State.bump_slots (f : Fld) (k : Nat) : (s.bump f k).slots = s.slots := rfl
@[simp] theorem State.bump_paths (f : Fld) (k : Nat) : (s.bump f k).paths = s.paths := rfl
@[simp] theorem State.bump_ts (f : Fld) (k : Nat) : (s.bump f k).ts = s.ts := rfl
@[simp] theorem State.bump_tg (f : Fld) (k : Nat) : (s.bump f k).tg = s.tg := rfl
@[simp] theorem State.bump_aplls (f : Fld) (k : Nat) : (s.bump f k).aplls = s.aplls := rfl
@[simp] theorem State.bump_outs (f : Fld) (k : Nat) : (s.bump f k).outs = s.outs := rfl
@[simp] theorem State.bump_chans (f : Fld) (k : Nat) : (s.bump f k).chans = s.chans := rfl
@[simp] theorem State.bump_roles (f : Fld) (k : Nat) : (s.bump f k).roles = s.roles := rfl
@[simp] theorem State.bump_grps (f : Fld) (k : Nat) : (s.bump f k).grps = s.grps := rfl
@[simp] theorem State.bump_twin (f : Fld) (k : Nat) : (s.bump f k).twin = s.twin := rfl
@[simp] theorem State.bump_rings (f : Fld) (k : Nat) : (s.bump f k).rings = s.rings := rfl
@[simp] theorem State.bump_dram (f : Fld) (k : Nat) : (s.bump f k).dram = s.dram := rfl
@[simp] theorem State.bump_ports (f : Fld) (k : Nat) : (s.bump f k).ports = s.ports := rfl
@[simp] theorem State.bump_hostMem (f : Fld) (k : Nat) : (s.bump f k).hostMem = s.hostMem := rfl
@[simp] theorem State.bump_parity (f : Fld) (k : Nat) : (s.bump f k).parity = s.parity := rfl
@[simp] theorem State.bump_keys (f : Fld) (k : Nat) : (s.bump f k).keys = s.keys := rfl
@[simp] theorem State.bump_syl (f : Fld) (k : Nat) : (s.bump f k).syl = s.syl := rfl
@[simp] theorem State.bump_nor (f : Fld) (k : Nat) : (s.bump f k).nor = s.nor := rfl
@[simp] theorem State.bump_jnl (f : Fld) (k : Nat) : (s.bump f k).jnl = s.jnl := rfl
@[simp] theorem State.bump_fuses (f : Fld) (k : Nat) : (s.bump f k).fuses = s.fuses := rfl
@[simp] theorem State.bump_prov (f : Fld) (k : Nat) : (s.bump f k).prov = s.prov := rfl
@[simp] theorem State.bump_bist (f : Fld) (k : Nat) : (s.bump f k).bist = s.bist := rfl
@[simp] theorem State.bump_host (f : Fld) (k : Nat) : (s.bump f k).host = s.host := rfl
@[simp] theorem State.bump_wo (f : Fld) (k : Nat) : (s.bump f k).wo = s.wo := rfl
@[simp] theorem State.bump_mapTdc (f : Fld) (k : Nat) : (s.bump f k).mapTdc = s.mapTdc := rfl
@[simp] theorem State.bump_mapApll (f : Fld) (k : Nat) : (s.bump f k).mapApll = s.mapApll := rfl
@[simp] theorem State.bump_pwr (f : Fld) (k : Nat) : (s.bump f k).pwr = s.pwr := rfl
@[simp] theorem State.bump_jtag (f : Fld) (k : Nat) : (s.bump f k).jtag = s.jtag := rfl
@[simp] theorem State.bump_scan (f : Fld) (k : Nat) : (s.bump f k).scan = s.scan := rfl

/-! ### `State.bumpSat` -/
@[simp] theorem State.bumpSat_pending (f : Fld) (k : Nat) : (s.bumpSat f k).pending = s.pending := rfl
@[simp] theorem State.bumpSat_now (f : Fld) (k : Nat) : (s.bumpSat f k).now = s.now := rfl
@[simp] theorem State.bumpSat_up (f : Fld) (k : Nat) : (s.bumpSat f k).up = s.up := rfl
@[simp] theorem State.bumpSat_timers (f : Fld) (k : Nat) : (s.bumpSat f k).timers = s.timers := rfl
@[simp] theorem State.bumpSat_free (f : Fld) (k : Nat) : (s.bumpSat f k).free = s.free := rfl
@[simp] theorem State.bumpSat_hostRead (f : Fld) (k : Nat) : (s.bumpSat f k).hostRead = s.hostRead := rfl
@[simp] theorem State.bumpSat_clk (f : Fld) (k : Nat) : (s.bumpSat f k).clk = s.clk := rfl
@[simp] theorem State.bumpSat_eng (f : Fld) (k : Nat) : (s.bumpSat f k).eng = s.eng := rfl
@[simp] theorem State.bumpSat_words (f : Fld) (k : Nat) : (s.bumpSat f k).words = s.words := rfl
@[simp] theorem State.bumpSat_commons (f : Fld) (k : Nat) : (s.bumpSat f k).commons = s.commons := rfl
@[simp] theorem State.bumpSat_out (f : Fld) (k : Nat) : (s.bumpSat f k).out = s.out := rfl
@[simp] theorem State.bumpSat_inw (f : Fld) (k : Nat) : (s.bumpSat f k).inw = s.inw := rfl
@[simp] theorem State.bumpSat_bell (f : Fld) (k : Nat) : (s.bumpSat f k).bell = s.bell := rfl
@[simp] theorem State.bumpSat_subst (f : Fld) (k : Nat) : (s.bumpSat f k).subst = s.subst := rfl
@[simp] theorem State.bumpSat_image (f : Fld) (k : Nat) : (s.bumpSat f k).image = s.image := rfl
@[simp] theorem State.bumpSat_flt (f : Fld) (k : Nat) : (s.bumpSat f k).flt = s.flt := rfl
@[simp] theorem State.bumpSat_tb (f : Fld) (k : Nat) : (s.bumpSat f k).tb = s.tb := rfl
@[simp] theorem State.bumpSat_tbRem (f : Fld) (k : Nat) : (s.bumpSat f k).tbRem = s.tbRem := rfl
@[simp] theorem State.bumpSat_supplyFlag (f : Fld) (k : Nat) : (s.bumpSat f k).supplyFlag = s.supplyFlag := rfl
@[simp] theorem State.bumpSat_slots (f : Fld) (k : Nat) : (s.bumpSat f k).slots = s.slots := rfl
@[simp] theorem State.bumpSat_paths (f : Fld) (k : Nat) : (s.bumpSat f k).paths = s.paths := rfl
@[simp] theorem State.bumpSat_ts (f : Fld) (k : Nat) : (s.bumpSat f k).ts = s.ts := rfl
@[simp] theorem State.bumpSat_tg (f : Fld) (k : Nat) : (s.bumpSat f k).tg = s.tg := rfl
@[simp] theorem State.bumpSat_aplls (f : Fld) (k : Nat) : (s.bumpSat f k).aplls = s.aplls := rfl
@[simp] theorem State.bumpSat_outs (f : Fld) (k : Nat) : (s.bumpSat f k).outs = s.outs := rfl
@[simp] theorem State.bumpSat_chans (f : Fld) (k : Nat) : (s.bumpSat f k).chans = s.chans := rfl
@[simp] theorem State.bumpSat_roles (f : Fld) (k : Nat) : (s.bumpSat f k).roles = s.roles := rfl
@[simp] theorem State.bumpSat_grps (f : Fld) (k : Nat) : (s.bumpSat f k).grps = s.grps := rfl
@[simp] theorem State.bumpSat_twin (f : Fld) (k : Nat) : (s.bumpSat f k).twin = s.twin := rfl
@[simp] theorem State.bumpSat_rings (f : Fld) (k : Nat) : (s.bumpSat f k).rings = s.rings := rfl
@[simp] theorem State.bumpSat_dram (f : Fld) (k : Nat) : (s.bumpSat f k).dram = s.dram := rfl
@[simp] theorem State.bumpSat_ports (f : Fld) (k : Nat) : (s.bumpSat f k).ports = s.ports := rfl
@[simp] theorem State.bumpSat_hostMem (f : Fld) (k : Nat) : (s.bumpSat f k).hostMem = s.hostMem := rfl
@[simp] theorem State.bumpSat_parity (f : Fld) (k : Nat) : (s.bumpSat f k).parity = s.parity := rfl
@[simp] theorem State.bumpSat_keys (f : Fld) (k : Nat) : (s.bumpSat f k).keys = s.keys := rfl
@[simp] theorem State.bumpSat_syl (f : Fld) (k : Nat) : (s.bumpSat f k).syl = s.syl := rfl
@[simp] theorem State.bumpSat_nor (f : Fld) (k : Nat) : (s.bumpSat f k).nor = s.nor := rfl
@[simp] theorem State.bumpSat_jnl (f : Fld) (k : Nat) : (s.bumpSat f k).jnl = s.jnl := rfl
@[simp] theorem State.bumpSat_fuses (f : Fld) (k : Nat) : (s.bumpSat f k).fuses = s.fuses := rfl
@[simp] theorem State.bumpSat_prov (f : Fld) (k : Nat) : (s.bumpSat f k).prov = s.prov := rfl
@[simp] theorem State.bumpSat_bist (f : Fld) (k : Nat) : (s.bumpSat f k).bist = s.bist := rfl
@[simp] theorem State.bumpSat_host (f : Fld) (k : Nat) : (s.bumpSat f k).host = s.host := rfl
@[simp] theorem State.bumpSat_wo (f : Fld) (k : Nat) : (s.bumpSat f k).wo = s.wo := rfl
@[simp] theorem State.bumpSat_mapTdc (f : Fld) (k : Nat) : (s.bumpSat f k).mapTdc = s.mapTdc := rfl
@[simp] theorem State.bumpSat_mapApll (f : Fld) (k : Nat) : (s.bumpSat f k).mapApll = s.mapApll := rfl
@[simp] theorem State.bumpSat_pwr (f : Fld) (k : Nat) : (s.bumpSat f k).pwr = s.pwr := rfl
@[simp] theorem State.bumpSat_jtag (f : Fld) (k : Nat) : (s.bumpSat f k).jtag = s.jtag := rfl
@[simp] theorem State.bumpSat_scan (f : Fld) (k : Nat) : (s.bumpSat f k).scan = s.scan := rfl

/-! ### `State.raise` -/
@[simp] theorem State.raise_pending (ev inst info : Nat) : (s.raise ev inst info).pending = s.pending := rfl
@[simp] theorem State.raise_regs (ev inst info : Nat) : (s.raise ev inst info).regs = s.regs := rfl
@[simp] theorem State.raise_now (ev inst info : Nat) : (s.raise ev inst info).now = s.now := rfl
@[simp] theorem State.raise_up (ev inst info : Nat) : (s.raise ev inst info).up = s.up := rfl
@[simp] theorem State.raise_timers (ev inst info : Nat) : (s.raise ev inst info).timers = s.timers := rfl
@[simp] theorem State.raise_free (ev inst info : Nat) : (s.raise ev inst info).free = s.free := rfl
@[simp] theorem State.raise_hostRead (ev inst info : Nat) : (s.raise ev inst info).hostRead = s.hostRead := rfl
@[simp] theorem State.raise_clk (ev inst info : Nat) : (s.raise ev inst info).clk = s.clk := rfl
@[simp] theorem State.raise_eng (ev inst info : Nat) : (s.raise ev inst info).eng = s.eng := rfl
@[simp] theorem State.raise_words (ev inst info : Nat) : (s.raise ev inst info).words = s.words := rfl
@[simp] theorem State.raise_commons (ev inst info : Nat) : (s.raise ev inst info).commons = s.commons := rfl
@[simp] theorem State.raise_out (ev inst info : Nat) : (s.raise ev inst info).out = s.out := rfl
@[simp] theorem State.raise_inw (ev inst info : Nat) : (s.raise ev inst info).inw = s.inw := rfl
@[simp] theorem State.raise_bell (ev inst info : Nat) : (s.raise ev inst info).bell = s.bell := rfl
@[simp] theorem State.raise_subst (ev inst info : Nat) : (s.raise ev inst info).subst = s.subst := rfl
@[simp] theorem State.raise_image (ev inst info : Nat) : (s.raise ev inst info).image = s.image := rfl
@[simp] theorem State.raise_tb (ev inst info : Nat) : (s.raise ev inst info).tb = s.tb := rfl
@[simp] theorem State.raise_tbRem (ev inst info : Nat) : (s.raise ev inst info).tbRem = s.tbRem := rfl
@[simp] theorem State.raise_supplyFlag (ev inst info : Nat) : (s.raise ev inst info).supplyFlag = s.supplyFlag := rfl
@[simp] theorem State.raise_slots (ev inst info : Nat) : (s.raise ev inst info).slots = s.slots := rfl
@[simp] theorem State.raise_paths (ev inst info : Nat) : (s.raise ev inst info).paths = s.paths := rfl
@[simp] theorem State.raise_ts (ev inst info : Nat) : (s.raise ev inst info).ts = s.ts := rfl
@[simp] theorem State.raise_tg (ev inst info : Nat) : (s.raise ev inst info).tg = s.tg := rfl
@[simp] theorem State.raise_aplls (ev inst info : Nat) : (s.raise ev inst info).aplls = s.aplls := rfl
@[simp] theorem State.raise_outs (ev inst info : Nat) : (s.raise ev inst info).outs = s.outs := rfl
@[simp] theorem State.raise_chans (ev inst info : Nat) : (s.raise ev inst info).chans = s.chans := rfl
@[simp] theorem State.raise_roles (ev inst info : Nat) : (s.raise ev inst info).roles = s.roles := rfl
@[simp] theorem State.raise_grps (ev inst info : Nat) : (s.raise ev inst info).grps = s.grps := rfl
@[simp] theorem State.raise_twin (ev inst info : Nat) : (s.raise ev inst info).twin = s.twin := rfl
@[simp] theorem State.raise_rings (ev inst info : Nat) : (s.raise ev inst info).rings = s.rings := rfl
@[simp] theorem State.raise_dram (ev inst info : Nat) : (s.raise ev inst info).dram = s.dram := rfl
@[simp] theorem State.raise_ports (ev inst info : Nat) : (s.raise ev inst info).ports = s.ports := rfl
@[simp] theorem State.raise_hostMem (ev inst info : Nat) : (s.raise ev inst info).hostMem = s.hostMem := rfl
@[simp] theorem State.raise_parity (ev inst info : Nat) : (s.raise ev inst info).parity = s.parity := rfl
@[simp] theorem State.raise_keys (ev inst info : Nat) : (s.raise ev inst info).keys = s.keys := rfl
@[simp] theorem State.raise_syl (ev inst info : Nat) : (s.raise ev inst info).syl = s.syl := rfl
@[simp] theorem State.raise_nor (ev inst info : Nat) : (s.raise ev inst info).nor = s.nor := rfl
@[simp] theorem State.raise_jnl (ev inst info : Nat) : (s.raise ev inst info).jnl = s.jnl := rfl
@[simp] theorem State.raise_fuses (ev inst info : Nat) : (s.raise ev inst info).fuses = s.fuses := rfl
@[simp] theorem State.raise_prov (ev inst info : Nat) : (s.raise ev inst info).prov = s.prov := rfl
@[simp] theorem State.raise_bist (ev inst info : Nat) : (s.raise ev inst info).bist = s.bist := rfl
@[simp] theorem State.raise_host (ev inst info : Nat) : (s.raise ev inst info).host = s.host := rfl
@[simp] theorem State.raise_wo (ev inst info : Nat) : (s.raise ev inst info).wo = s.wo := rfl
@[simp] theorem State.raise_mapTdc (ev inst info : Nat) : (s.raise ev inst info).mapTdc = s.mapTdc := rfl
@[simp] theorem State.raise_mapApll (ev inst info : Nat) : (s.raise ev inst info).mapApll = s.mapApll := rfl
@[simp] theorem State.raise_pwr (ev inst info : Nat) : (s.raise ev inst info).pwr = s.pwr := rfl
@[simp] theorem State.raise_jtag (ev inst info : Nat) : (s.raise ev inst info).jtag = s.jtag := rfl
@[simp] theorem State.raise_scan (ev inst info : Nat) : (s.raise ev inst info).scan = s.scan := rfl

/-! ### `State.putEngine` -/
@[simp] theorem State.putEngine_pending (i : Nat) (x : _) : (s.putEngine i x).pending = s.pending := rfl
@[simp] theorem State.putEngine_regs (i : Nat) (x : _) : (s.putEngine i x).regs = s.regs := rfl
@[simp] theorem State.putEngine_now (i : Nat) (x : _) : (s.putEngine i x).now = s.now := rfl
@[simp] theorem State.putEngine_up (i : Nat) (x : _) : (s.putEngine i x).up = s.up := rfl
@[simp] theorem State.putEngine_timers (i : Nat) (x : _) : (s.putEngine i x).timers = s.timers := rfl
@[simp] theorem State.putEngine_free (i : Nat) (x : _) : (s.putEngine i x).free = s.free := rfl
@[simp] theorem State.putEngine_hostRead (i : Nat) (x : _) : (s.putEngine i x).hostRead = s.hostRead := rfl
@[simp] theorem State.putEngine_clk (i : Nat) (x : _) : (s.putEngine i x).clk = s.clk := rfl
@[simp] theorem State.putEngine_words (i : Nat) (x : _) : (s.putEngine i x).words = s.words := rfl
@[simp] theorem State.putEngine_commons (i : Nat) (x : _) : (s.putEngine i x).commons = s.commons := rfl
@[simp] theorem State.putEngine_out (i : Nat) (x : _) : (s.putEngine i x).out = s.out := rfl
@[simp] theorem State.putEngine_inw (i : Nat) (x : _) : (s.putEngine i x).inw = s.inw := rfl
@[simp] theorem State.putEngine_bell (i : Nat) (x : _) : (s.putEngine i x).bell = s.bell := rfl
@[simp] theorem State.putEngine_subst (i : Nat) (x : _) : (s.putEngine i x).subst = s.subst := rfl
@[simp] theorem State.putEngine_image (i : Nat) (x : _) : (s.putEngine i x).image = s.image := rfl
@[simp] theorem State.putEngine_flt (i : Nat) (x : _) : (s.putEngine i x).flt = s.flt := rfl
@[simp] theorem State.putEngine_tb (i : Nat) (x : _) : (s.putEngine i x).tb = s.tb := rfl
@[simp] theorem State.putEngine_tbRem (i : Nat) (x : _) : (s.putEngine i x).tbRem = s.tbRem := rfl
@[simp] theorem State.putEngine_supplyFlag (i : Nat) (x : _) : (s.putEngine i x).supplyFlag = s.supplyFlag := rfl
@[simp] theorem State.putEngine_slots (i : Nat) (x : _) : (s.putEngine i x).slots = s.slots := rfl
@[simp] theorem State.putEngine_paths (i : Nat) (x : _) : (s.putEngine i x).paths = s.paths := rfl
@[simp] theorem State.putEngine_ts (i : Nat) (x : _) : (s.putEngine i x).ts = s.ts := rfl
@[simp] theorem State.putEngine_tg (i : Nat) (x : _) : (s.putEngine i x).tg = s.tg := rfl
@[simp] theorem State.putEngine_aplls (i : Nat) (x : _) : (s.putEngine i x).aplls = s.aplls := rfl
@[simp] theorem State.putEngine_outs (i : Nat) (x : _) : (s.putEngine i x).outs = s.outs := rfl
@[simp] theorem State.putEngine_chans (i : Nat) (x : _) : (s.putEngine i x).chans = s.chans := rfl
@[simp] theorem State.putEngine_roles (i : Nat) (x : _) : (s.putEngine i x).roles = s.roles := rfl
@[simp] theorem State.putEngine_grps (i : Nat) (x : _) : (s.putEngine i x).grps = s.grps := rfl
@[simp] theorem State.putEngine_twin (i : Nat) (x : _) : (s.putEngine i x).twin = s.twin := rfl
@[simp] theorem State.putEngine_rings (i : Nat) (x : _) : (s.putEngine i x).rings = s.rings := rfl
@[simp] theorem State.putEngine_dram (i : Nat) (x : _) : (s.putEngine i x).dram = s.dram := rfl
@[simp] theorem State.putEngine_ports (i : Nat) (x : _) : (s.putEngine i x).ports = s.ports := rfl
@[simp] theorem State.putEngine_hostMem (i : Nat) (x : _) : (s.putEngine i x).hostMem = s.hostMem := rfl
@[simp] theorem State.putEngine_parity (i : Nat) (x : _) : (s.putEngine i x).parity = s.parity := rfl
@[simp] theorem State.putEngine_keys (i : Nat) (x : _) : (s.putEngine i x).keys = s.keys := rfl
@[simp] theorem State.putEngine_syl (i : Nat) (x : _) : (s.putEngine i x).syl = s.syl := rfl
@[simp] theorem State.putEngine_nor (i : Nat) (x : _) : (s.putEngine i x).nor = s.nor := rfl
@[simp] theorem State.putEngine_jnl (i : Nat) (x : _) : (s.putEngine i x).jnl = s.jnl := rfl
@[simp] theorem State.putEngine_fuses (i : Nat) (x : _) : (s.putEngine i x).fuses = s.fuses := rfl
@[simp] theorem State.putEngine_prov (i : Nat) (x : _) : (s.putEngine i x).prov = s.prov := rfl
@[simp] theorem State.putEngine_bist (i : Nat) (x : _) : (s.putEngine i x).bist = s.bist := rfl
@[simp] theorem State.putEngine_host (i : Nat) (x : _) : (s.putEngine i x).host = s.host := rfl
@[simp] theorem State.putEngine_wo (i : Nat) (x : _) : (s.putEngine i x).wo = s.wo := rfl
@[simp] theorem State.putEngine_mapTdc (i : Nat) (x : _) : (s.putEngine i x).mapTdc = s.mapTdc := rfl
@[simp] theorem State.putEngine_mapApll (i : Nat) (x : _) : (s.putEngine i x).mapApll = s.mapApll := rfl
@[simp] theorem State.putEngine_pwr (i : Nat) (x : _) : (s.putEngine i x).pwr = s.pwr := rfl
@[simp] theorem State.putEngine_jtag (i : Nat) (x : _) : (s.putEngine i x).jtag = s.jtag := rfl
@[simp] theorem State.putEngine_scan (i : Nat) (x : _) : (s.putEngine i x).scan = s.scan := rfl

/-! ### `State.putHostWords` -/
@[simp] theorem State.putHostWords_pending (i : Nat) (x : _) : (s.putHostWords i x).pending = s.pending := rfl
@[simp] theorem State.putHostWords_regs (i : Nat) (x : _) : (s.putHostWords i x).regs = s.regs := rfl
@[simp] theorem State.putHostWords_now (i : Nat) (x : _) : (s.putHostWords i x).now = s.now := rfl
@[simp] theorem State.putHostWords_up (i : Nat) (x : _) : (s.putHostWords i x).up = s.up := rfl
@[simp] theorem State.putHostWords_timers (i : Nat) (x : _) : (s.putHostWords i x).timers = s.timers := rfl
@[simp] theorem State.putHostWords_free (i : Nat) (x : _) : (s.putHostWords i x).free = s.free := rfl
@[simp] theorem State.putHostWords_hostRead (i : Nat) (x : _) : (s.putHostWords i x).hostRead = s.hostRead := rfl
@[simp] theorem State.putHostWords_clk (i : Nat) (x : _) : (s.putHostWords i x).clk = s.clk := rfl
@[simp] theorem State.putHostWords_eng (i : Nat) (x : _) : (s.putHostWords i x).eng = s.eng := rfl
@[simp] theorem State.putHostWords_commons (i : Nat) (x : _) : (s.putHostWords i x).commons = s.commons := rfl
@[simp] theorem State.putHostWords_out (i : Nat) (x : _) : (s.putHostWords i x).out = s.out := rfl
@[simp] theorem State.putHostWords_inw (i : Nat) (x : _) : (s.putHostWords i x).inw = s.inw := rfl
@[simp] theorem State.putHostWords_bell (i : Nat) (x : _) : (s.putHostWords i x).bell = s.bell := rfl
@[simp] theorem State.putHostWords_subst (i : Nat) (x : _) : (s.putHostWords i x).subst = s.subst := rfl
@[simp] theorem State.putHostWords_image (i : Nat) (x : _) : (s.putHostWords i x).image = s.image := rfl
@[simp] theorem State.putHostWords_flt (i : Nat) (x : _) : (s.putHostWords i x).flt = s.flt := rfl
@[simp] theorem State.putHostWords_tb (i : Nat) (x : _) : (s.putHostWords i x).tb = s.tb := rfl
@[simp] theorem State.putHostWords_tbRem (i : Nat) (x : _) : (s.putHostWords i x).tbRem = s.tbRem := rfl
@[simp] theorem State.putHostWords_supplyFlag (i : Nat) (x : _) : (s.putHostWords i x).supplyFlag = s.supplyFlag := rfl
@[simp] theorem State.putHostWords_slots (i : Nat) (x : _) : (s.putHostWords i x).slots = s.slots := rfl
@[simp] theorem State.putHostWords_paths (i : Nat) (x : _) : (s.putHostWords i x).paths = s.paths := rfl
@[simp] theorem State.putHostWords_ts (i : Nat) (x : _) : (s.putHostWords i x).ts = s.ts := rfl
@[simp] theorem State.putHostWords_tg (i : Nat) (x : _) : (s.putHostWords i x).tg = s.tg := rfl
@[simp] theorem State.putHostWords_aplls (i : Nat) (x : _) : (s.putHostWords i x).aplls = s.aplls := rfl
@[simp] theorem State.putHostWords_outs (i : Nat) (x : _) : (s.putHostWords i x).outs = s.outs := rfl
@[simp] theorem State.putHostWords_chans (i : Nat) (x : _) : (s.putHostWords i x).chans = s.chans := rfl
@[simp] theorem State.putHostWords_roles (i : Nat) (x : _) : (s.putHostWords i x).roles = s.roles := rfl
@[simp] theorem State.putHostWords_grps (i : Nat) (x : _) : (s.putHostWords i x).grps = s.grps := rfl
@[simp] theorem State.putHostWords_twin (i : Nat) (x : _) : (s.putHostWords i x).twin = s.twin := rfl
@[simp] theorem State.putHostWords_rings (i : Nat) (x : _) : (s.putHostWords i x).rings = s.rings := rfl
@[simp] theorem State.putHostWords_dram (i : Nat) (x : _) : (s.putHostWords i x).dram = s.dram := rfl
@[simp] theorem State.putHostWords_ports (i : Nat) (x : _) : (s.putHostWords i x).ports = s.ports := rfl
@[simp] theorem State.putHostWords_hostMem (i : Nat) (x : _) : (s.putHostWords i x).hostMem = s.hostMem := rfl
@[simp] theorem State.putHostWords_parity (i : Nat) (x : _) : (s.putHostWords i x).parity = s.parity := rfl
@[simp] theorem State.putHostWords_keys (i : Nat) (x : _) : (s.putHostWords i x).keys = s.keys := rfl
@[simp] theorem State.putHostWords_syl (i : Nat) (x : _) : (s.putHostWords i x).syl = s.syl := rfl
@[simp] theorem State.putHostWords_nor (i : Nat) (x : _) : (s.putHostWords i x).nor = s.nor := rfl
@[simp] theorem State.putHostWords_jnl (i : Nat) (x : _) : (s.putHostWords i x).jnl = s.jnl := rfl
@[simp] theorem State.putHostWords_fuses (i : Nat) (x : _) : (s.putHostWords i x).fuses = s.fuses := rfl
@[simp] theorem State.putHostWords_prov (i : Nat) (x : _) : (s.putHostWords i x).prov = s.prov := rfl
@[simp] theorem State.putHostWords_bist (i : Nat) (x : _) : (s.putHostWords i x).bist = s.bist := rfl
@[simp] theorem State.putHostWords_host (i : Nat) (x : _) : (s.putHostWords i x).host = s.host := rfl
@[simp] theorem State.putHostWords_wo (i : Nat) (x : _) : (s.putHostWords i x).wo = s.wo := rfl
@[simp] theorem State.putHostWords_mapTdc (i : Nat) (x : _) : (s.putHostWords i x).mapTdc = s.mapTdc := rfl
@[simp] theorem State.putHostWords_mapApll (i : Nat) (x : _) : (s.putHostWords i x).mapApll = s.mapApll := rfl
@[simp] theorem State.putHostWords_pwr (i : Nat) (x : _) : (s.putHostWords i x).pwr = s.pwr := rfl
@[simp] theorem State.putHostWords_jtag (i : Nat) (x : _) : (s.putHostWords i x).jtag = s.jtag := rfl
@[simp] theorem State.putHostWords_scan (i : Nat) (x : _) : (s.putHostWords i x).scan = s.scan := rfl

/-! ### `State.putSlot` -/
@[simp] theorem State.putSlot_pending (i : Nat) (x : _) : (s.putSlot i x).pending = s.pending := rfl
@[simp] theorem State.putSlot_regs (i : Nat) (x : _) : (s.putSlot i x).regs = s.regs := rfl
@[simp] theorem State.putSlot_now (i : Nat) (x : _) : (s.putSlot i x).now = s.now := rfl
@[simp] theorem State.putSlot_up (i : Nat) (x : _) : (s.putSlot i x).up = s.up := rfl
@[simp] theorem State.putSlot_timers (i : Nat) (x : _) : (s.putSlot i x).timers = s.timers := rfl
@[simp] theorem State.putSlot_free (i : Nat) (x : _) : (s.putSlot i x).free = s.free := rfl
@[simp] theorem State.putSlot_hostRead (i : Nat) (x : _) : (s.putSlot i x).hostRead = s.hostRead := rfl
@[simp] theorem State.putSlot_clk (i : Nat) (x : _) : (s.putSlot i x).clk = s.clk := rfl
@[simp] theorem State.putSlot_eng (i : Nat) (x : _) : (s.putSlot i x).eng = s.eng := rfl
@[simp] theorem State.putSlot_words (i : Nat) (x : _) : (s.putSlot i x).words = s.words := rfl
@[simp] theorem State.putSlot_commons (i : Nat) (x : _) : (s.putSlot i x).commons = s.commons := rfl
@[simp] theorem State.putSlot_out (i : Nat) (x : _) : (s.putSlot i x).out = s.out := rfl
@[simp] theorem State.putSlot_inw (i : Nat) (x : _) : (s.putSlot i x).inw = s.inw := rfl
@[simp] theorem State.putSlot_bell (i : Nat) (x : _) : (s.putSlot i x).bell = s.bell := rfl
@[simp] theorem State.putSlot_subst (i : Nat) (x : _) : (s.putSlot i x).subst = s.subst := rfl
@[simp] theorem State.putSlot_image (i : Nat) (x : _) : (s.putSlot i x).image = s.image := rfl
@[simp] theorem State.putSlot_flt (i : Nat) (x : _) : (s.putSlot i x).flt = s.flt := rfl
@[simp] theorem State.putSlot_tb (i : Nat) (x : _) : (s.putSlot i x).tb = s.tb := rfl
@[simp] theorem State.putSlot_tbRem (i : Nat) (x : _) : (s.putSlot i x).tbRem = s.tbRem := rfl
@[simp] theorem State.putSlot_supplyFlag (i : Nat) (x : _) : (s.putSlot i x).supplyFlag = s.supplyFlag := rfl
@[simp] theorem State.putSlot_paths (i : Nat) (x : _) : (s.putSlot i x).paths = s.paths := rfl
@[simp] theorem State.putSlot_ts (i : Nat) (x : _) : (s.putSlot i x).ts = s.ts := rfl
@[simp] theorem State.putSlot_tg (i : Nat) (x : _) : (s.putSlot i x).tg = s.tg := rfl
@[simp] theorem State.putSlot_aplls (i : Nat) (x : _) : (s.putSlot i x).aplls = s.aplls := rfl
@[simp] theorem State.putSlot_outs (i : Nat) (x : _) : (s.putSlot i x).outs = s.outs := rfl
@[simp] theorem State.putSlot_chans (i : Nat) (x : _) : (s.putSlot i x).chans = s.chans := rfl
@[simp] theorem State.putSlot_roles (i : Nat) (x : _) : (s.putSlot i x).roles = s.roles := rfl
@[simp] theorem State.putSlot_grps (i : Nat) (x : _) : (s.putSlot i x).grps = s.grps := rfl
@[simp] theorem State.putSlot_twin (i : Nat) (x : _) : (s.putSlot i x).twin = s.twin := rfl
@[simp] theorem State.putSlot_rings (i : Nat) (x : _) : (s.putSlot i x).rings = s.rings := rfl
@[simp] theorem State.putSlot_dram (i : Nat) (x : _) : (s.putSlot i x).dram = s.dram := rfl
@[simp] theorem State.putSlot_ports (i : Nat) (x : _) : (s.putSlot i x).ports = s.ports := rfl
@[simp] theorem State.putSlot_hostMem (i : Nat) (x : _) : (s.putSlot i x).hostMem = s.hostMem := rfl
@[simp] theorem State.putSlot_parity (i : Nat) (x : _) : (s.putSlot i x).parity = s.parity := rfl
@[simp] theorem State.putSlot_keys (i : Nat) (x : _) : (s.putSlot i x).keys = s.keys := rfl
@[simp] theorem State.putSlot_syl (i : Nat) (x : _) : (s.putSlot i x).syl = s.syl := rfl
@[simp] theorem State.putSlot_nor (i : Nat) (x : _) : (s.putSlot i x).nor = s.nor := rfl
@[simp] theorem State.putSlot_jnl (i : Nat) (x : _) : (s.putSlot i x).jnl = s.jnl := rfl
@[simp] theorem State.putSlot_fuses (i : Nat) (x : _) : (s.putSlot i x).fuses = s.fuses := rfl
@[simp] theorem State.putSlot_prov (i : Nat) (x : _) : (s.putSlot i x).prov = s.prov := rfl
@[simp] theorem State.putSlot_bist (i : Nat) (x : _) : (s.putSlot i x).bist = s.bist := rfl
@[simp] theorem State.putSlot_host (i : Nat) (x : _) : (s.putSlot i x).host = s.host := rfl
@[simp] theorem State.putSlot_wo (i : Nat) (x : _) : (s.putSlot i x).wo = s.wo := rfl
@[simp] theorem State.putSlot_mapTdc (i : Nat) (x : _) : (s.putSlot i x).mapTdc = s.mapTdc := rfl
@[simp] theorem State.putSlot_mapApll (i : Nat) (x : _) : (s.putSlot i x).mapApll = s.mapApll := rfl
@[simp] theorem State.putSlot_pwr (i : Nat) (x : _) : (s.putSlot i x).pwr = s.pwr := rfl
@[simp] theorem State.putSlot_jtag (i : Nat) (x : _) : (s.putSlot i x).jtag = s.jtag := rfl
@[simp] theorem State.putSlot_scan (i : Nat) (x : _) : (s.putSlot i x).scan = s.scan := rfl

/-! ### `State.putPath` -/
@[simp] theorem State.putPath_pending (i : Nat) (x : _) : (s.putPath i x).pending = s.pending := rfl
@[simp] theorem State.putPath_regs (i : Nat) (x : _) : (s.putPath i x).regs = s.regs := rfl
@[simp] theorem State.putPath_now (i : Nat) (x : _) : (s.putPath i x).now = s.now := rfl
@[simp] theorem State.putPath_up (i : Nat) (x : _) : (s.putPath i x).up = s.up := rfl
@[simp] theorem State.putPath_timers (i : Nat) (x : _) : (s.putPath i x).timers = s.timers := rfl
@[simp] theorem State.putPath_free (i : Nat) (x : _) : (s.putPath i x).free = s.free := rfl
@[simp] theorem State.putPath_hostRead (i : Nat) (x : _) : (s.putPath i x).hostRead = s.hostRead := rfl
@[simp] theorem State.putPath_clk (i : Nat) (x : _) : (s.putPath i x).clk = s.clk := rfl
@[simp] theorem State.putPath_eng (i : Nat) (x : _) : (s.putPath i x).eng = s.eng := rfl
@[simp] theorem State.putPath_words (i : Nat) (x : _) : (s.putPath i x).words = s.words := rfl
@[simp] theorem State.putPath_commons (i : Nat) (x : _) : (s.putPath i x).commons = s.commons := rfl
@[simp] theorem State.putPath_out (i : Nat) (x : _) : (s.putPath i x).out = s.out := rfl
@[simp] theorem State.putPath_inw (i : Nat) (x : _) : (s.putPath i x).inw = s.inw := rfl
@[simp] theorem State.putPath_bell (i : Nat) (x : _) : (s.putPath i x).bell = s.bell := rfl
@[simp] theorem State.putPath_subst (i : Nat) (x : _) : (s.putPath i x).subst = s.subst := rfl
@[simp] theorem State.putPath_image (i : Nat) (x : _) : (s.putPath i x).image = s.image := rfl
@[simp] theorem State.putPath_flt (i : Nat) (x : _) : (s.putPath i x).flt = s.flt := rfl
@[simp] theorem State.putPath_tb (i : Nat) (x : _) : (s.putPath i x).tb = s.tb := rfl
@[simp] theorem State.putPath_tbRem (i : Nat) (x : _) : (s.putPath i x).tbRem = s.tbRem := rfl
@[simp] theorem State.putPath_supplyFlag (i : Nat) (x : _) : (s.putPath i x).supplyFlag = s.supplyFlag := rfl
@[simp] theorem State.putPath_slots (i : Nat) (x : _) : (s.putPath i x).slots = s.slots := rfl
@[simp] theorem State.putPath_ts (i : Nat) (x : _) : (s.putPath i x).ts = s.ts := rfl
@[simp] theorem State.putPath_tg (i : Nat) (x : _) : (s.putPath i x).tg = s.tg := rfl
@[simp] theorem State.putPath_aplls (i : Nat) (x : _) : (s.putPath i x).aplls = s.aplls := rfl
@[simp] theorem State.putPath_outs (i : Nat) (x : _) : (s.putPath i x).outs = s.outs := rfl
@[simp] theorem State.putPath_chans (i : Nat) (x : _) : (s.putPath i x).chans = s.chans := rfl
@[simp] theorem State.putPath_roles (i : Nat) (x : _) : (s.putPath i x).roles = s.roles := rfl
@[simp] theorem State.putPath_grps (i : Nat) (x : _) : (s.putPath i x).grps = s.grps := rfl
@[simp] theorem State.putPath_twin (i : Nat) (x : _) : (s.putPath i x).twin = s.twin := rfl
@[simp] theorem State.putPath_rings (i : Nat) (x : _) : (s.putPath i x).rings = s.rings := rfl
@[simp] theorem State.putPath_dram (i : Nat) (x : _) : (s.putPath i x).dram = s.dram := rfl
@[simp] theorem State.putPath_ports (i : Nat) (x : _) : (s.putPath i x).ports = s.ports := rfl
@[simp] theorem State.putPath_hostMem (i : Nat) (x : _) : (s.putPath i x).hostMem = s.hostMem := rfl
@[simp] theorem State.putPath_parity (i : Nat) (x : _) : (s.putPath i x).parity = s.parity := rfl
@[simp] theorem State.putPath_keys (i : Nat) (x : _) : (s.putPath i x).keys = s.keys := rfl
@[simp] theorem State.putPath_syl (i : Nat) (x : _) : (s.putPath i x).syl = s.syl := rfl
@[simp] theorem State.putPath_nor (i : Nat) (x : _) : (s.putPath i x).nor = s.nor := rfl
@[simp] theorem State.putPath_jnl (i : Nat) (x : _) : (s.putPath i x).jnl = s.jnl := rfl
@[simp] theorem State.putPath_fuses (i : Nat) (x : _) : (s.putPath i x).fuses = s.fuses := rfl
@[simp] theorem State.putPath_prov (i : Nat) (x : _) : (s.putPath i x).prov = s.prov := rfl
@[simp] theorem State.putPath_bist (i : Nat) (x : _) : (s.putPath i x).bist = s.bist := rfl
@[simp] theorem State.putPath_host (i : Nat) (x : _) : (s.putPath i x).host = s.host := rfl
@[simp] theorem State.putPath_wo (i : Nat) (x : _) : (s.putPath i x).wo = s.wo := rfl
@[simp] theorem State.putPath_mapTdc (i : Nat) (x : _) : (s.putPath i x).mapTdc = s.mapTdc := rfl
@[simp] theorem State.putPath_mapApll (i : Nat) (x : _) : (s.putPath i x).mapApll = s.mapApll := rfl
@[simp] theorem State.putPath_pwr (i : Nat) (x : _) : (s.putPath i x).pwr = s.pwr := rfl
@[simp] theorem State.putPath_jtag (i : Nat) (x : _) : (s.putPath i x).jtag = s.jtag := rfl
@[simp] theorem State.putPath_scan (i : Nat) (x : _) : (s.putPath i x).scan = s.scan := rfl

/-! ### `State.putTscale` -/
@[simp] theorem State.putTscale_pending (i : Nat) (x : _) : (s.putTscale i x).pending = s.pending := rfl
@[simp] theorem State.putTscale_regs (i : Nat) (x : _) : (s.putTscale i x).regs = s.regs := rfl
@[simp] theorem State.putTscale_now (i : Nat) (x : _) : (s.putTscale i x).now = s.now := rfl
@[simp] theorem State.putTscale_up (i : Nat) (x : _) : (s.putTscale i x).up = s.up := rfl
@[simp] theorem State.putTscale_timers (i : Nat) (x : _) : (s.putTscale i x).timers = s.timers := rfl
@[simp] theorem State.putTscale_free (i : Nat) (x : _) : (s.putTscale i x).free = s.free := rfl
@[simp] theorem State.putTscale_hostRead (i : Nat) (x : _) : (s.putTscale i x).hostRead = s.hostRead := rfl
@[simp] theorem State.putTscale_clk (i : Nat) (x : _) : (s.putTscale i x).clk = s.clk := rfl
@[simp] theorem State.putTscale_eng (i : Nat) (x : _) : (s.putTscale i x).eng = s.eng := rfl
@[simp] theorem State.putTscale_words (i : Nat) (x : _) : (s.putTscale i x).words = s.words := rfl
@[simp] theorem State.putTscale_commons (i : Nat) (x : _) : (s.putTscale i x).commons = s.commons := rfl
@[simp] theorem State.putTscale_out (i : Nat) (x : _) : (s.putTscale i x).out = s.out := rfl
@[simp] theorem State.putTscale_inw (i : Nat) (x : _) : (s.putTscale i x).inw = s.inw := rfl
@[simp] theorem State.putTscale_bell (i : Nat) (x : _) : (s.putTscale i x).bell = s.bell := rfl
@[simp] theorem State.putTscale_subst (i : Nat) (x : _) : (s.putTscale i x).subst = s.subst := rfl
@[simp] theorem State.putTscale_image (i : Nat) (x : _) : (s.putTscale i x).image = s.image := rfl
@[simp] theorem State.putTscale_flt (i : Nat) (x : _) : (s.putTscale i x).flt = s.flt := rfl
@[simp] theorem State.putTscale_tb (i : Nat) (x : _) : (s.putTscale i x).tb = s.tb := rfl
@[simp] theorem State.putTscale_tbRem (i : Nat) (x : _) : (s.putTscale i x).tbRem = s.tbRem := rfl
@[simp] theorem State.putTscale_supplyFlag (i : Nat) (x : _) : (s.putTscale i x).supplyFlag = s.supplyFlag := rfl
@[simp] theorem State.putTscale_slots (i : Nat) (x : _) : (s.putTscale i x).slots = s.slots := rfl
@[simp] theorem State.putTscale_paths (i : Nat) (x : _) : (s.putTscale i x).paths = s.paths := rfl
@[simp] theorem State.putTscale_tg (i : Nat) (x : _) : (s.putTscale i x).tg = s.tg := rfl
@[simp] theorem State.putTscale_aplls (i : Nat) (x : _) : (s.putTscale i x).aplls = s.aplls := rfl
@[simp] theorem State.putTscale_outs (i : Nat) (x : _) : (s.putTscale i x).outs = s.outs := rfl
@[simp] theorem State.putTscale_chans (i : Nat) (x : _) : (s.putTscale i x).chans = s.chans := rfl
@[simp] theorem State.putTscale_roles (i : Nat) (x : _) : (s.putTscale i x).roles = s.roles := rfl
@[simp] theorem State.putTscale_grps (i : Nat) (x : _) : (s.putTscale i x).grps = s.grps := rfl
@[simp] theorem State.putTscale_twin (i : Nat) (x : _) : (s.putTscale i x).twin = s.twin := rfl
@[simp] theorem State.putTscale_rings (i : Nat) (x : _) : (s.putTscale i x).rings = s.rings := rfl
@[simp] theorem State.putTscale_dram (i : Nat) (x : _) : (s.putTscale i x).dram = s.dram := rfl
@[simp] theorem State.putTscale_ports (i : Nat) (x : _) : (s.putTscale i x).ports = s.ports := rfl
@[simp] theorem State.putTscale_hostMem (i : Nat) (x : _) : (s.putTscale i x).hostMem = s.hostMem := rfl
@[simp] theorem State.putTscale_parity (i : Nat) (x : _) : (s.putTscale i x).parity = s.parity := rfl
@[simp] theorem State.putTscale_keys (i : Nat) (x : _) : (s.putTscale i x).keys = s.keys := rfl
@[simp] theorem State.putTscale_syl (i : Nat) (x : _) : (s.putTscale i x).syl = s.syl := rfl
@[simp] theorem State.putTscale_nor (i : Nat) (x : _) : (s.putTscale i x).nor = s.nor := rfl
@[simp] theorem State.putTscale_jnl (i : Nat) (x : _) : (s.putTscale i x).jnl = s.jnl := rfl
@[simp] theorem State.putTscale_fuses (i : Nat) (x : _) : (s.putTscale i x).fuses = s.fuses := rfl
@[simp] theorem State.putTscale_prov (i : Nat) (x : _) : (s.putTscale i x).prov = s.prov := rfl
@[simp] theorem State.putTscale_bist (i : Nat) (x : _) : (s.putTscale i x).bist = s.bist := rfl
@[simp] theorem State.putTscale_host (i : Nat) (x : _) : (s.putTscale i x).host = s.host := rfl
@[simp] theorem State.putTscale_wo (i : Nat) (x : _) : (s.putTscale i x).wo = s.wo := rfl
@[simp] theorem State.putTscale_mapTdc (i : Nat) (x : _) : (s.putTscale i x).mapTdc = s.mapTdc := rfl
@[simp] theorem State.putTscale_mapApll (i : Nat) (x : _) : (s.putTscale i x).mapApll = s.mapApll := rfl
@[simp] theorem State.putTscale_pwr (i : Nat) (x : _) : (s.putTscale i x).pwr = s.pwr := rfl
@[simp] theorem State.putTscale_jtag (i : Nat) (x : _) : (s.putTscale i x).jtag = s.jtag := rfl
@[simp] theorem State.putTscale_scan (i : Nat) (x : _) : (s.putTscale i x).scan = s.scan := rfl

/-! ### `State.putTrig` -/
@[simp] theorem State.putTrig_pending (i : Nat) (x : _) : (s.putTrig i x).pending = s.pending := rfl
@[simp] theorem State.putTrig_regs (i : Nat) (x : _) : (s.putTrig i x).regs = s.regs := rfl
@[simp] theorem State.putTrig_now (i : Nat) (x : _) : (s.putTrig i x).now = s.now := rfl
@[simp] theorem State.putTrig_up (i : Nat) (x : _) : (s.putTrig i x).up = s.up := rfl
@[simp] theorem State.putTrig_timers (i : Nat) (x : _) : (s.putTrig i x).timers = s.timers := rfl
@[simp] theorem State.putTrig_free (i : Nat) (x : _) : (s.putTrig i x).free = s.free := rfl
@[simp] theorem State.putTrig_hostRead (i : Nat) (x : _) : (s.putTrig i x).hostRead = s.hostRead := rfl
@[simp] theorem State.putTrig_clk (i : Nat) (x : _) : (s.putTrig i x).clk = s.clk := rfl
@[simp] theorem State.putTrig_eng (i : Nat) (x : _) : (s.putTrig i x).eng = s.eng := rfl
@[simp] theorem State.putTrig_words (i : Nat) (x : _) : (s.putTrig i x).words = s.words := rfl
@[simp] theorem State.putTrig_commons (i : Nat) (x : _) : (s.putTrig i x).commons = s.commons := rfl
@[simp] theorem State.putTrig_out (i : Nat) (x : _) : (s.putTrig i x).out = s.out := rfl
@[simp] theorem State.putTrig_inw (i : Nat) (x : _) : (s.putTrig i x).inw = s.inw := rfl
@[simp] theorem State.putTrig_bell (i : Nat) (x : _) : (s.putTrig i x).bell = s.bell := rfl
@[simp] theorem State.putTrig_subst (i : Nat) (x : _) : (s.putTrig i x).subst = s.subst := rfl
@[simp] theorem State.putTrig_image (i : Nat) (x : _) : (s.putTrig i x).image = s.image := rfl
@[simp] theorem State.putTrig_flt (i : Nat) (x : _) : (s.putTrig i x).flt = s.flt := rfl
@[simp] theorem State.putTrig_tb (i : Nat) (x : _) : (s.putTrig i x).tb = s.tb := rfl
@[simp] theorem State.putTrig_tbRem (i : Nat) (x : _) : (s.putTrig i x).tbRem = s.tbRem := rfl
@[simp] theorem State.putTrig_supplyFlag (i : Nat) (x : _) : (s.putTrig i x).supplyFlag = s.supplyFlag := rfl
@[simp] theorem State.putTrig_slots (i : Nat) (x : _) : (s.putTrig i x).slots = s.slots := rfl
@[simp] theorem State.putTrig_paths (i : Nat) (x : _) : (s.putTrig i x).paths = s.paths := rfl
@[simp] theorem State.putTrig_ts (i : Nat) (x : _) : (s.putTrig i x).ts = s.ts := rfl
@[simp] theorem State.putTrig_aplls (i : Nat) (x : _) : (s.putTrig i x).aplls = s.aplls := rfl
@[simp] theorem State.putTrig_outs (i : Nat) (x : _) : (s.putTrig i x).outs = s.outs := rfl
@[simp] theorem State.putTrig_chans (i : Nat) (x : _) : (s.putTrig i x).chans = s.chans := rfl
@[simp] theorem State.putTrig_roles (i : Nat) (x : _) : (s.putTrig i x).roles = s.roles := rfl
@[simp] theorem State.putTrig_grps (i : Nat) (x : _) : (s.putTrig i x).grps = s.grps := rfl
@[simp] theorem State.putTrig_twin (i : Nat) (x : _) : (s.putTrig i x).twin = s.twin := rfl
@[simp] theorem State.putTrig_rings (i : Nat) (x : _) : (s.putTrig i x).rings = s.rings := rfl
@[simp] theorem State.putTrig_dram (i : Nat) (x : _) : (s.putTrig i x).dram = s.dram := rfl
@[simp] theorem State.putTrig_ports (i : Nat) (x : _) : (s.putTrig i x).ports = s.ports := rfl
@[simp] theorem State.putTrig_hostMem (i : Nat) (x : _) : (s.putTrig i x).hostMem = s.hostMem := rfl
@[simp] theorem State.putTrig_parity (i : Nat) (x : _) : (s.putTrig i x).parity = s.parity := rfl
@[simp] theorem State.putTrig_keys (i : Nat) (x : _) : (s.putTrig i x).keys = s.keys := rfl
@[simp] theorem State.putTrig_syl (i : Nat) (x : _) : (s.putTrig i x).syl = s.syl := rfl
@[simp] theorem State.putTrig_nor (i : Nat) (x : _) : (s.putTrig i x).nor = s.nor := rfl
@[simp] theorem State.putTrig_jnl (i : Nat) (x : _) : (s.putTrig i x).jnl = s.jnl := rfl
@[simp] theorem State.putTrig_fuses (i : Nat) (x : _) : (s.putTrig i x).fuses = s.fuses := rfl
@[simp] theorem State.putTrig_prov (i : Nat) (x : _) : (s.putTrig i x).prov = s.prov := rfl
@[simp] theorem State.putTrig_bist (i : Nat) (x : _) : (s.putTrig i x).bist = s.bist := rfl
@[simp] theorem State.putTrig_host (i : Nat) (x : _) : (s.putTrig i x).host = s.host := rfl
@[simp] theorem State.putTrig_wo (i : Nat) (x : _) : (s.putTrig i x).wo = s.wo := rfl
@[simp] theorem State.putTrig_mapTdc (i : Nat) (x : _) : (s.putTrig i x).mapTdc = s.mapTdc := rfl
@[simp] theorem State.putTrig_mapApll (i : Nat) (x : _) : (s.putTrig i x).mapApll = s.mapApll := rfl
@[simp] theorem State.putTrig_pwr (i : Nat) (x : _) : (s.putTrig i x).pwr = s.pwr := rfl
@[simp] theorem State.putTrig_jtag (i : Nat) (x : _) : (s.putTrig i x).jtag = s.jtag := rfl
@[simp] theorem State.putTrig_scan (i : Nat) (x : _) : (s.putTrig i x).scan = s.scan := rfl

/-! ### `State.putApll` -/
@[simp] theorem State.putApll_pending (i : Nat) (x : _) : (s.putApll i x).pending = s.pending := rfl
@[simp] theorem State.putApll_regs (i : Nat) (x : _) : (s.putApll i x).regs = s.regs := rfl
@[simp] theorem State.putApll_now (i : Nat) (x : _) : (s.putApll i x).now = s.now := rfl
@[simp] theorem State.putApll_up (i : Nat) (x : _) : (s.putApll i x).up = s.up := rfl
@[simp] theorem State.putApll_timers (i : Nat) (x : _) : (s.putApll i x).timers = s.timers := rfl
@[simp] theorem State.putApll_free (i : Nat) (x : _) : (s.putApll i x).free = s.free := rfl
@[simp] theorem State.putApll_hostRead (i : Nat) (x : _) : (s.putApll i x).hostRead = s.hostRead := rfl
@[simp] theorem State.putApll_clk (i : Nat) (x : _) : (s.putApll i x).clk = s.clk := rfl
@[simp] theorem State.putApll_eng (i : Nat) (x : _) : (s.putApll i x).eng = s.eng := rfl
@[simp] theorem State.putApll_words (i : Nat) (x : _) : (s.putApll i x).words = s.words := rfl
@[simp] theorem State.putApll_commons (i : Nat) (x : _) : (s.putApll i x).commons = s.commons := rfl
@[simp] theorem State.putApll_out (i : Nat) (x : _) : (s.putApll i x).out = s.out := rfl
@[simp] theorem State.putApll_inw (i : Nat) (x : _) : (s.putApll i x).inw = s.inw := rfl
@[simp] theorem State.putApll_bell (i : Nat) (x : _) : (s.putApll i x).bell = s.bell := rfl
@[simp] theorem State.putApll_subst (i : Nat) (x : _) : (s.putApll i x).subst = s.subst := rfl
@[simp] theorem State.putApll_image (i : Nat) (x : _) : (s.putApll i x).image = s.image := rfl
@[simp] theorem State.putApll_flt (i : Nat) (x : _) : (s.putApll i x).flt = s.flt := rfl
@[simp] theorem State.putApll_tb (i : Nat) (x : _) : (s.putApll i x).tb = s.tb := rfl
@[simp] theorem State.putApll_tbRem (i : Nat) (x : _) : (s.putApll i x).tbRem = s.tbRem := rfl
@[simp] theorem State.putApll_supplyFlag (i : Nat) (x : _) : (s.putApll i x).supplyFlag = s.supplyFlag := rfl
@[simp] theorem State.putApll_slots (i : Nat) (x : _) : (s.putApll i x).slots = s.slots := rfl
@[simp] theorem State.putApll_paths (i : Nat) (x : _) : (s.putApll i x).paths = s.paths := rfl
@[simp] theorem State.putApll_ts (i : Nat) (x : _) : (s.putApll i x).ts = s.ts := rfl
@[simp] theorem State.putApll_tg (i : Nat) (x : _) : (s.putApll i x).tg = s.tg := rfl
@[simp] theorem State.putApll_outs (i : Nat) (x : _) : (s.putApll i x).outs = s.outs := rfl
@[simp] theorem State.putApll_chans (i : Nat) (x : _) : (s.putApll i x).chans = s.chans := rfl
@[simp] theorem State.putApll_roles (i : Nat) (x : _) : (s.putApll i x).roles = s.roles := rfl
@[simp] theorem State.putApll_grps (i : Nat) (x : _) : (s.putApll i x).grps = s.grps := rfl
@[simp] theorem State.putApll_twin (i : Nat) (x : _) : (s.putApll i x).twin = s.twin := rfl
@[simp] theorem State.putApll_rings (i : Nat) (x : _) : (s.putApll i x).rings = s.rings := rfl
@[simp] theorem State.putApll_dram (i : Nat) (x : _) : (s.putApll i x).dram = s.dram := rfl
@[simp] theorem State.putApll_ports (i : Nat) (x : _) : (s.putApll i x).ports = s.ports := rfl
@[simp] theorem State.putApll_hostMem (i : Nat) (x : _) : (s.putApll i x).hostMem = s.hostMem := rfl
@[simp] theorem State.putApll_parity (i : Nat) (x : _) : (s.putApll i x).parity = s.parity := rfl
@[simp] theorem State.putApll_keys (i : Nat) (x : _) : (s.putApll i x).keys = s.keys := rfl
@[simp] theorem State.putApll_syl (i : Nat) (x : _) : (s.putApll i x).syl = s.syl := rfl
@[simp] theorem State.putApll_nor (i : Nat) (x : _) : (s.putApll i x).nor = s.nor := rfl
@[simp] theorem State.putApll_jnl (i : Nat) (x : _) : (s.putApll i x).jnl = s.jnl := rfl
@[simp] theorem State.putApll_fuses (i : Nat) (x : _) : (s.putApll i x).fuses = s.fuses := rfl
@[simp] theorem State.putApll_prov (i : Nat) (x : _) : (s.putApll i x).prov = s.prov := rfl
@[simp] theorem State.putApll_bist (i : Nat) (x : _) : (s.putApll i x).bist = s.bist := rfl
@[simp] theorem State.putApll_host (i : Nat) (x : _) : (s.putApll i x).host = s.host := rfl
@[simp] theorem State.putApll_wo (i : Nat) (x : _) : (s.putApll i x).wo = s.wo := rfl
@[simp] theorem State.putApll_mapTdc (i : Nat) (x : _) : (s.putApll i x).mapTdc = s.mapTdc := rfl
@[simp] theorem State.putApll_mapApll (i : Nat) (x : _) : (s.putApll i x).mapApll = s.mapApll := rfl
@[simp] theorem State.putApll_pwr (i : Nat) (x : _) : (s.putApll i x).pwr = s.pwr := rfl
@[simp] theorem State.putApll_jtag (i : Nat) (x : _) : (s.putApll i x).jtag = s.jtag := rfl
@[simp] theorem State.putApll_scan (i : Nat) (x : _) : (s.putApll i x).scan = s.scan := rfl

/-! ### `State.putOutp` -/
@[simp] theorem State.putOutp_pending (i : Nat) (x : _) : (s.putOutp i x).pending = s.pending := rfl
@[simp] theorem State.putOutp_regs (i : Nat) (x : _) : (s.putOutp i x).regs = s.regs := rfl
@[simp] theorem State.putOutp_now (i : Nat) (x : _) : (s.putOutp i x).now = s.now := rfl
@[simp] theorem State.putOutp_up (i : Nat) (x : _) : (s.putOutp i x).up = s.up := rfl
@[simp] theorem State.putOutp_timers (i : Nat) (x : _) : (s.putOutp i x).timers = s.timers := rfl
@[simp] theorem State.putOutp_free (i : Nat) (x : _) : (s.putOutp i x).free = s.free := rfl
@[simp] theorem State.putOutp_hostRead (i : Nat) (x : _) : (s.putOutp i x).hostRead = s.hostRead := rfl
@[simp] theorem State.putOutp_clk (i : Nat) (x : _) : (s.putOutp i x).clk = s.clk := rfl
@[simp] theorem State.putOutp_eng (i : Nat) (x : _) : (s.putOutp i x).eng = s.eng := rfl
@[simp] theorem State.putOutp_words (i : Nat) (x : _) : (s.putOutp i x).words = s.words := rfl
@[simp] theorem State.putOutp_commons (i : Nat) (x : _) : (s.putOutp i x).commons = s.commons := rfl
@[simp] theorem State.putOutp_out (i : Nat) (x : _) : (s.putOutp i x).out = s.out := rfl
@[simp] theorem State.putOutp_inw (i : Nat) (x : _) : (s.putOutp i x).inw = s.inw := rfl
@[simp] theorem State.putOutp_bell (i : Nat) (x : _) : (s.putOutp i x).bell = s.bell := rfl
@[simp] theorem State.putOutp_subst (i : Nat) (x : _) : (s.putOutp i x).subst = s.subst := rfl
@[simp] theorem State.putOutp_image (i : Nat) (x : _) : (s.putOutp i x).image = s.image := rfl
@[simp] theorem State.putOutp_flt (i : Nat) (x : _) : (s.putOutp i x).flt = s.flt := rfl
@[simp] theorem State.putOutp_tb (i : Nat) (x : _) : (s.putOutp i x).tb = s.tb := rfl
@[simp] theorem State.putOutp_tbRem (i : Nat) (x : _) : (s.putOutp i x).tbRem = s.tbRem := rfl
@[simp] theorem State.putOutp_supplyFlag (i : Nat) (x : _) : (s.putOutp i x).supplyFlag = s.supplyFlag := rfl
@[simp] theorem State.putOutp_slots (i : Nat) (x : _) : (s.putOutp i x).slots = s.slots := rfl
@[simp] theorem State.putOutp_paths (i : Nat) (x : _) : (s.putOutp i x).paths = s.paths := rfl
@[simp] theorem State.putOutp_ts (i : Nat) (x : _) : (s.putOutp i x).ts = s.ts := rfl
@[simp] theorem State.putOutp_tg (i : Nat) (x : _) : (s.putOutp i x).tg = s.tg := rfl
@[simp] theorem State.putOutp_aplls (i : Nat) (x : _) : (s.putOutp i x).aplls = s.aplls := rfl
@[simp] theorem State.putOutp_chans (i : Nat) (x : _) : (s.putOutp i x).chans = s.chans := rfl
@[simp] theorem State.putOutp_roles (i : Nat) (x : _) : (s.putOutp i x).roles = s.roles := rfl
@[simp] theorem State.putOutp_grps (i : Nat) (x : _) : (s.putOutp i x).grps = s.grps := rfl
@[simp] theorem State.putOutp_twin (i : Nat) (x : _) : (s.putOutp i x).twin = s.twin := rfl
@[simp] theorem State.putOutp_rings (i : Nat) (x : _) : (s.putOutp i x).rings = s.rings := rfl
@[simp] theorem State.putOutp_dram (i : Nat) (x : _) : (s.putOutp i x).dram = s.dram := rfl
@[simp] theorem State.putOutp_ports (i : Nat) (x : _) : (s.putOutp i x).ports = s.ports := rfl
@[simp] theorem State.putOutp_hostMem (i : Nat) (x : _) : (s.putOutp i x).hostMem = s.hostMem := rfl
@[simp] theorem State.putOutp_parity (i : Nat) (x : _) : (s.putOutp i x).parity = s.parity := rfl
@[simp] theorem State.putOutp_keys (i : Nat) (x : _) : (s.putOutp i x).keys = s.keys := rfl
@[simp] theorem State.putOutp_syl (i : Nat) (x : _) : (s.putOutp i x).syl = s.syl := rfl
@[simp] theorem State.putOutp_nor (i : Nat) (x : _) : (s.putOutp i x).nor = s.nor := rfl
@[simp] theorem State.putOutp_jnl (i : Nat) (x : _) : (s.putOutp i x).jnl = s.jnl := rfl
@[simp] theorem State.putOutp_fuses (i : Nat) (x : _) : (s.putOutp i x).fuses = s.fuses := rfl
@[simp] theorem State.putOutp_prov (i : Nat) (x : _) : (s.putOutp i x).prov = s.prov := rfl
@[simp] theorem State.putOutp_bist (i : Nat) (x : _) : (s.putOutp i x).bist = s.bist := rfl
@[simp] theorem State.putOutp_host (i : Nat) (x : _) : (s.putOutp i x).host = s.host := rfl
@[simp] theorem State.putOutp_wo (i : Nat) (x : _) : (s.putOutp i x).wo = s.wo := rfl
@[simp] theorem State.putOutp_mapTdc (i : Nat) (x : _) : (s.putOutp i x).mapTdc = s.mapTdc := rfl
@[simp] theorem State.putOutp_mapApll (i : Nat) (x : _) : (s.putOutp i x).mapApll = s.mapApll := rfl
@[simp] theorem State.putOutp_pwr (i : Nat) (x : _) : (s.putOutp i x).pwr = s.pwr := rfl
@[simp] theorem State.putOutp_jtag (i : Nat) (x : _) : (s.putOutp i x).jtag = s.jtag := rfl
@[simp] theorem State.putOutp_scan (i : Nat) (x : _) : (s.putOutp i x).scan = s.scan := rfl

/-! ### `State.putChan` -/
@[simp] theorem State.putChan_pending (i : Nat) (x : _) : (s.putChan i x).pending = s.pending := rfl
@[simp] theorem State.putChan_regs (i : Nat) (x : _) : (s.putChan i x).regs = s.regs := rfl
@[simp] theorem State.putChan_now (i : Nat) (x : _) : (s.putChan i x).now = s.now := rfl
@[simp] theorem State.putChan_up (i : Nat) (x : _) : (s.putChan i x).up = s.up := rfl
@[simp] theorem State.putChan_timers (i : Nat) (x : _) : (s.putChan i x).timers = s.timers := rfl
@[simp] theorem State.putChan_free (i : Nat) (x : _) : (s.putChan i x).free = s.free := rfl
@[simp] theorem State.putChan_hostRead (i : Nat) (x : _) : (s.putChan i x).hostRead = s.hostRead := rfl
@[simp] theorem State.putChan_clk (i : Nat) (x : _) : (s.putChan i x).clk = s.clk := rfl
@[simp] theorem State.putChan_eng (i : Nat) (x : _) : (s.putChan i x).eng = s.eng := rfl
@[simp] theorem State.putChan_words (i : Nat) (x : _) : (s.putChan i x).words = s.words := rfl
@[simp] theorem State.putChan_commons (i : Nat) (x : _) : (s.putChan i x).commons = s.commons := rfl
@[simp] theorem State.putChan_out (i : Nat) (x : _) : (s.putChan i x).out = s.out := rfl
@[simp] theorem State.putChan_inw (i : Nat) (x : _) : (s.putChan i x).inw = s.inw := rfl
@[simp] theorem State.putChan_bell (i : Nat) (x : _) : (s.putChan i x).bell = s.bell := rfl
@[simp] theorem State.putChan_subst (i : Nat) (x : _) : (s.putChan i x).subst = s.subst := rfl
@[simp] theorem State.putChan_image (i : Nat) (x : _) : (s.putChan i x).image = s.image := rfl
@[simp] theorem State.putChan_flt (i : Nat) (x : _) : (s.putChan i x).flt = s.flt := rfl
@[simp] theorem State.putChan_tb (i : Nat) (x : _) : (s.putChan i x).tb = s.tb := rfl
@[simp] theorem State.putChan_tbRem (i : Nat) (x : _) : (s.putChan i x).tbRem = s.tbRem := rfl
@[simp] theorem State.putChan_supplyFlag (i : Nat) (x : _) : (s.putChan i x).supplyFlag = s.supplyFlag := rfl
@[simp] theorem State.putChan_slots (i : Nat) (x : _) : (s.putChan i x).slots = s.slots := rfl
@[simp] theorem State.putChan_paths (i : Nat) (x : _) : (s.putChan i x).paths = s.paths := rfl
@[simp] theorem State.putChan_ts (i : Nat) (x : _) : (s.putChan i x).ts = s.ts := rfl
@[simp] theorem State.putChan_tg (i : Nat) (x : _) : (s.putChan i x).tg = s.tg := rfl
@[simp] theorem State.putChan_aplls (i : Nat) (x : _) : (s.putChan i x).aplls = s.aplls := rfl
@[simp] theorem State.putChan_outs (i : Nat) (x : _) : (s.putChan i x).outs = s.outs := rfl
@[simp] theorem State.putChan_roles (i : Nat) (x : _) : (s.putChan i x).roles = s.roles := rfl
@[simp] theorem State.putChan_grps (i : Nat) (x : _) : (s.putChan i x).grps = s.grps := rfl
@[simp] theorem State.putChan_twin (i : Nat) (x : _) : (s.putChan i x).twin = s.twin := rfl
@[simp] theorem State.putChan_rings (i : Nat) (x : _) : (s.putChan i x).rings = s.rings := rfl
@[simp] theorem State.putChan_dram (i : Nat) (x : _) : (s.putChan i x).dram = s.dram := rfl
@[simp] theorem State.putChan_ports (i : Nat) (x : _) : (s.putChan i x).ports = s.ports := rfl
@[simp] theorem State.putChan_hostMem (i : Nat) (x : _) : (s.putChan i x).hostMem = s.hostMem := rfl
@[simp] theorem State.putChan_parity (i : Nat) (x : _) : (s.putChan i x).parity = s.parity := rfl
@[simp] theorem State.putChan_keys (i : Nat) (x : _) : (s.putChan i x).keys = s.keys := rfl
@[simp] theorem State.putChan_syl (i : Nat) (x : _) : (s.putChan i x).syl = s.syl := rfl
@[simp] theorem State.putChan_nor (i : Nat) (x : _) : (s.putChan i x).nor = s.nor := rfl
@[simp] theorem State.putChan_jnl (i : Nat) (x : _) : (s.putChan i x).jnl = s.jnl := rfl
@[simp] theorem State.putChan_fuses (i : Nat) (x : _) : (s.putChan i x).fuses = s.fuses := rfl
@[simp] theorem State.putChan_prov (i : Nat) (x : _) : (s.putChan i x).prov = s.prov := rfl
@[simp] theorem State.putChan_bist (i : Nat) (x : _) : (s.putChan i x).bist = s.bist := rfl
@[simp] theorem State.putChan_host (i : Nat) (x : _) : (s.putChan i x).host = s.host := rfl
@[simp] theorem State.putChan_wo (i : Nat) (x : _) : (s.putChan i x).wo = s.wo := rfl
@[simp] theorem State.putChan_mapTdc (i : Nat) (x : _) : (s.putChan i x).mapTdc = s.mapTdc := rfl
@[simp] theorem State.putChan_mapApll (i : Nat) (x : _) : (s.putChan i x).mapApll = s.mapApll := rfl
@[simp] theorem State.putChan_pwr (i : Nat) (x : _) : (s.putChan i x).pwr = s.pwr := rfl
@[simp] theorem State.putChan_jtag (i : Nat) (x : _) : (s.putChan i x).jtag = s.jtag := rfl
@[simp] theorem State.putChan_scan (i : Nat) (x : _) : (s.putChan i x).scan = s.scan := rfl

/-! ### `State.putRole` -/
@[simp] theorem State.putRole_pending (i : Nat) (x : _) : (s.putRole i x).pending = s.pending := rfl
@[simp] theorem State.putRole_regs (i : Nat) (x : _) : (s.putRole i x).regs = s.regs := rfl
@[simp] theorem State.putRole_now (i : Nat) (x : _) : (s.putRole i x).now = s.now := rfl
@[simp] theorem State.putRole_up (i : Nat) (x : _) : (s.putRole i x).up = s.up := rfl
@[simp] theorem State.putRole_timers (i : Nat) (x : _) : (s.putRole i x).timers = s.timers := rfl
@[simp] theorem State.putRole_free (i : Nat) (x : _) : (s.putRole i x).free = s.free := rfl
@[simp] theorem State.putRole_hostRead (i : Nat) (x : _) : (s.putRole i x).hostRead = s.hostRead := rfl
@[simp] theorem State.putRole_clk (i : Nat) (x : _) : (s.putRole i x).clk = s.clk := rfl
@[simp] theorem State.putRole_eng (i : Nat) (x : _) : (s.putRole i x).eng = s.eng := rfl
@[simp] theorem State.putRole_words (i : Nat) (x : _) : (s.putRole i x).words = s.words := rfl
@[simp] theorem State.putRole_commons (i : Nat) (x : _) : (s.putRole i x).commons = s.commons := rfl
@[simp] theorem State.putRole_out (i : Nat) (x : _) : (s.putRole i x).out = s.out := rfl
@[simp] theorem State.putRole_inw (i : Nat) (x : _) : (s.putRole i x).inw = s.inw := rfl
@[simp] theorem State.putRole_bell (i : Nat) (x : _) : (s.putRole i x).bell = s.bell := rfl
@[simp] theorem State.putRole_subst (i : Nat) (x : _) : (s.putRole i x).subst = s.subst := rfl
@[simp] theorem State.putRole_image (i : Nat) (x : _) : (s.putRole i x).image = s.image := rfl
@[simp] theorem State.putRole_flt (i : Nat) (x : _) : (s.putRole i x).flt = s.flt := rfl
@[simp] theorem State.putRole_tb (i : Nat) (x : _) : (s.putRole i x).tb = s.tb := rfl
@[simp] theorem State.putRole_tbRem (i : Nat) (x : _) : (s.putRole i x).tbRem = s.tbRem := rfl
@[simp] theorem State.putRole_supplyFlag (i : Nat) (x : _) : (s.putRole i x).supplyFlag = s.supplyFlag := rfl
@[simp] theorem State.putRole_slots (i : Nat) (x : _) : (s.putRole i x).slots = s.slots := rfl
@[simp] theorem State.putRole_paths (i : Nat) (x : _) : (s.putRole i x).paths = s.paths := rfl
@[simp] theorem State.putRole_ts (i : Nat) (x : _) : (s.putRole i x).ts = s.ts := rfl
@[simp] theorem State.putRole_tg (i : Nat) (x : _) : (s.putRole i x).tg = s.tg := rfl
@[simp] theorem State.putRole_aplls (i : Nat) (x : _) : (s.putRole i x).aplls = s.aplls := rfl
@[simp] theorem State.putRole_outs (i : Nat) (x : _) : (s.putRole i x).outs = s.outs := rfl
@[simp] theorem State.putRole_chans (i : Nat) (x : _) : (s.putRole i x).chans = s.chans := rfl
@[simp] theorem State.putRole_grps (i : Nat) (x : _) : (s.putRole i x).grps = s.grps := rfl
@[simp] theorem State.putRole_twin (i : Nat) (x : _) : (s.putRole i x).twin = s.twin := rfl
@[simp] theorem State.putRole_rings (i : Nat) (x : _) : (s.putRole i x).rings = s.rings := rfl
@[simp] theorem State.putRole_dram (i : Nat) (x : _) : (s.putRole i x).dram = s.dram := rfl
@[simp] theorem State.putRole_ports (i : Nat) (x : _) : (s.putRole i x).ports = s.ports := rfl
@[simp] theorem State.putRole_hostMem (i : Nat) (x : _) : (s.putRole i x).hostMem = s.hostMem := rfl
@[simp] theorem State.putRole_parity (i : Nat) (x : _) : (s.putRole i x).parity = s.parity := rfl
@[simp] theorem State.putRole_keys (i : Nat) (x : _) : (s.putRole i x).keys = s.keys := rfl
@[simp] theorem State.putRole_syl (i : Nat) (x : _) : (s.putRole i x).syl = s.syl := rfl
@[simp] theorem State.putRole_nor (i : Nat) (x : _) : (s.putRole i x).nor = s.nor := rfl
@[simp] theorem State.putRole_jnl (i : Nat) (x : _) : (s.putRole i x).jnl = s.jnl := rfl
@[simp] theorem State.putRole_fuses (i : Nat) (x : _) : (s.putRole i x).fuses = s.fuses := rfl
@[simp] theorem State.putRole_prov (i : Nat) (x : _) : (s.putRole i x).prov = s.prov := rfl
@[simp] theorem State.putRole_bist (i : Nat) (x : _) : (s.putRole i x).bist = s.bist := rfl
@[simp] theorem State.putRole_host (i : Nat) (x : _) : (s.putRole i x).host = s.host := rfl
@[simp] theorem State.putRole_wo (i : Nat) (x : _) : (s.putRole i x).wo = s.wo := rfl
@[simp] theorem State.putRole_mapTdc (i : Nat) (x : _) : (s.putRole i x).mapTdc = s.mapTdc := rfl
@[simp] theorem State.putRole_mapApll (i : Nat) (x : _) : (s.putRole i x).mapApll = s.mapApll := rfl
@[simp] theorem State.putRole_pwr (i : Nat) (x : _) : (s.putRole i x).pwr = s.pwr := rfl
@[simp] theorem State.putRole_jtag (i : Nat) (x : _) : (s.putRole i x).jtag = s.jtag := rfl
@[simp] theorem State.putRole_scan (i : Nat) (x : _) : (s.putRole i x).scan = s.scan := rfl

/-! ### `State.putGrp` -/
@[simp] theorem State.putGrp_pending (i : Nat) (x : _) : (s.putGrp i x).pending = s.pending := rfl
@[simp] theorem State.putGrp_regs (i : Nat) (x : _) : (s.putGrp i x).regs = s.regs := rfl
@[simp] theorem State.putGrp_now (i : Nat) (x : _) : (s.putGrp i x).now = s.now := rfl
@[simp] theorem State.putGrp_up (i : Nat) (x : _) : (s.putGrp i x).up = s.up := rfl
@[simp] theorem State.putGrp_timers (i : Nat) (x : _) : (s.putGrp i x).timers = s.timers := rfl
@[simp] theorem State.putGrp_free (i : Nat) (x : _) : (s.putGrp i x).free = s.free := rfl
@[simp] theorem State.putGrp_hostRead (i : Nat) (x : _) : (s.putGrp i x).hostRead = s.hostRead := rfl
@[simp] theorem State.putGrp_clk (i : Nat) (x : _) : (s.putGrp i x).clk = s.clk := rfl
@[simp] theorem State.putGrp_eng (i : Nat) (x : _) : (s.putGrp i x).eng = s.eng := rfl
@[simp] theorem State.putGrp_words (i : Nat) (x : _) : (s.putGrp i x).words = s.words := rfl
@[simp] theorem State.putGrp_commons (i : Nat) (x : _) : (s.putGrp i x).commons = s.commons := rfl
@[simp] theorem State.putGrp_out (i : Nat) (x : _) : (s.putGrp i x).out = s.out := rfl
@[simp] theorem State.putGrp_inw (i : Nat) (x : _) : (s.putGrp i x).inw = s.inw := rfl
@[simp] theorem State.putGrp_bell (i : Nat) (x : _) : (s.putGrp i x).bell = s.bell := rfl
@[simp] theorem State.putGrp_subst (i : Nat) (x : _) : (s.putGrp i x).subst = s.subst := rfl
@[simp] theorem State.putGrp_image (i : Nat) (x : _) : (s.putGrp i x).image = s.image := rfl
@[simp] theorem State.putGrp_flt (i : Nat) (x : _) : (s.putGrp i x).flt = s.flt := rfl
@[simp] theorem State.putGrp_tb (i : Nat) (x : _) : (s.putGrp i x).tb = s.tb := rfl
@[simp] theorem State.putGrp_tbRem (i : Nat) (x : _) : (s.putGrp i x).tbRem = s.tbRem := rfl
@[simp] theorem State.putGrp_supplyFlag (i : Nat) (x : _) : (s.putGrp i x).supplyFlag = s.supplyFlag := rfl
@[simp] theorem State.putGrp_slots (i : Nat) (x : _) : (s.putGrp i x).slots = s.slots := rfl
@[simp] theorem State.putGrp_paths (i : Nat) (x : _) : (s.putGrp i x).paths = s.paths := rfl
@[simp] theorem State.putGrp_ts (i : Nat) (x : _) : (s.putGrp i x).ts = s.ts := rfl
@[simp] theorem State.putGrp_tg (i : Nat) (x : _) : (s.putGrp i x).tg = s.tg := rfl
@[simp] theorem State.putGrp_aplls (i : Nat) (x : _) : (s.putGrp i x).aplls = s.aplls := rfl
@[simp] theorem State.putGrp_outs (i : Nat) (x : _) : (s.putGrp i x).outs = s.outs := rfl
@[simp] theorem State.putGrp_chans (i : Nat) (x : _) : (s.putGrp i x).chans = s.chans := rfl
@[simp] theorem State.putGrp_roles (i : Nat) (x : _) : (s.putGrp i x).roles = s.roles := rfl
@[simp] theorem State.putGrp_twin (i : Nat) (x : _) : (s.putGrp i x).twin = s.twin := rfl
@[simp] theorem State.putGrp_rings (i : Nat) (x : _) : (s.putGrp i x).rings = s.rings := rfl
@[simp] theorem State.putGrp_dram (i : Nat) (x : _) : (s.putGrp i x).dram = s.dram := rfl
@[simp] theorem State.putGrp_ports (i : Nat) (x : _) : (s.putGrp i x).ports = s.ports := rfl
@[simp] theorem State.putGrp_hostMem (i : Nat) (x : _) : (s.putGrp i x).hostMem = s.hostMem := rfl
@[simp] theorem State.putGrp_parity (i : Nat) (x : _) : (s.putGrp i x).parity = s.parity := rfl
@[simp] theorem State.putGrp_keys (i : Nat) (x : _) : (s.putGrp i x).keys = s.keys := rfl
@[simp] theorem State.putGrp_syl (i : Nat) (x : _) : (s.putGrp i x).syl = s.syl := rfl
@[simp] theorem State.putGrp_nor (i : Nat) (x : _) : (s.putGrp i x).nor = s.nor := rfl
@[simp] theorem State.putGrp_jnl (i : Nat) (x : _) : (s.putGrp i x).jnl = s.jnl := rfl
@[simp] theorem State.putGrp_fuses (i : Nat) (x : _) : (s.putGrp i x).fuses = s.fuses := rfl
@[simp] theorem State.putGrp_prov (i : Nat) (x : _) : (s.putGrp i x).prov = s.prov := rfl
@[simp] theorem State.putGrp_bist (i : Nat) (x : _) : (s.putGrp i x).bist = s.bist := rfl
@[simp] theorem State.putGrp_host (i : Nat) (x : _) : (s.putGrp i x).host = s.host := rfl
@[simp] theorem State.putGrp_wo (i : Nat) (x : _) : (s.putGrp i x).wo = s.wo := rfl
@[simp] theorem State.putGrp_mapTdc (i : Nat) (x : _) : (s.putGrp i x).mapTdc = s.mapTdc := rfl
@[simp] theorem State.putGrp_mapApll (i : Nat) (x : _) : (s.putGrp i x).mapApll = s.mapApll := rfl
@[simp] theorem State.putGrp_pwr (i : Nat) (x : _) : (s.putGrp i x).pwr = s.pwr := rfl
@[simp] theorem State.putGrp_jtag (i : Nat) (x : _) : (s.putGrp i x).jtag = s.jtag := rfl
@[simp] theorem State.putGrp_scan (i : Nat) (x : _) : (s.putGrp i x).scan = s.scan := rfl

/-! ### `State.putRing` -/
@[simp] theorem State.putRing_pending (i : Nat) (x : _) : (s.putRing i x).pending = s.pending := rfl
@[simp] theorem State.putRing_regs (i : Nat) (x : _) : (s.putRing i x).regs = s.regs := rfl
@[simp] theorem State.putRing_now (i : Nat) (x : _) : (s.putRing i x).now = s.now := rfl
@[simp] theorem State.putRing_up (i : Nat) (x : _) : (s.putRing i x).up = s.up := rfl
@[simp] theorem State.putRing_timers (i : Nat) (x : _) : (s.putRing i x).timers = s.timers := rfl
@[simp] theorem State.putRing_free (i : Nat) (x : _) : (s.putRing i x).free = s.free := rfl
@[simp] theorem State.putRing_hostRead (i : Nat) (x : _) : (s.putRing i x).hostRead = s.hostRead := rfl
@[simp] theorem State.putRing_clk (i : Nat) (x : _) : (s.putRing i x).clk = s.clk := rfl
@[simp] theorem State.putRing_eng (i : Nat) (x : _) : (s.putRing i x).eng = s.eng := rfl
@[simp] theorem State.putRing_words (i : Nat) (x : _) : (s.putRing i x).words = s.words := rfl
@[simp] theorem State.putRing_commons (i : Nat) (x : _) : (s.putRing i x).commons = s.commons := rfl
@[simp] theorem State.putRing_out (i : Nat) (x : _) : (s.putRing i x).out = s.out := rfl
@[simp] theorem State.putRing_inw (i : Nat) (x : _) : (s.putRing i x).inw = s.inw := rfl
@[simp] theorem State.putRing_bell (i : Nat) (x : _) : (s.putRing i x).bell = s.bell := rfl
@[simp] theorem State.putRing_subst (i : Nat) (x : _) : (s.putRing i x).subst = s.subst := rfl
@[simp] theorem State.putRing_image (i : Nat) (x : _) : (s.putRing i x).image = s.image := rfl
@[simp] theorem State.putRing_flt (i : Nat) (x : _) : (s.putRing i x).flt = s.flt := rfl
@[simp] theorem State.putRing_tb (i : Nat) (x : _) : (s.putRing i x).tb = s.tb := rfl
@[simp] theorem State.putRing_tbRem (i : Nat) (x : _) : (s.putRing i x).tbRem = s.tbRem := rfl
@[simp] theorem State.putRing_supplyFlag (i : Nat) (x : _) : (s.putRing i x).supplyFlag = s.supplyFlag := rfl
@[simp] theorem State.putRing_slots (i : Nat) (x : _) : (s.putRing i x).slots = s.slots := rfl
@[simp] theorem State.putRing_paths (i : Nat) (x : _) : (s.putRing i x).paths = s.paths := rfl
@[simp] theorem State.putRing_ts (i : Nat) (x : _) : (s.putRing i x).ts = s.ts := rfl
@[simp] theorem State.putRing_tg (i : Nat) (x : _) : (s.putRing i x).tg = s.tg := rfl
@[simp] theorem State.putRing_aplls (i : Nat) (x : _) : (s.putRing i x).aplls = s.aplls := rfl
@[simp] theorem State.putRing_outs (i : Nat) (x : _) : (s.putRing i x).outs = s.outs := rfl
@[simp] theorem State.putRing_chans (i : Nat) (x : _) : (s.putRing i x).chans = s.chans := rfl
@[simp] theorem State.putRing_roles (i : Nat) (x : _) : (s.putRing i x).roles = s.roles := rfl
@[simp] theorem State.putRing_grps (i : Nat) (x : _) : (s.putRing i x).grps = s.grps := rfl
@[simp] theorem State.putRing_twin (i : Nat) (x : _) : (s.putRing i x).twin = s.twin := rfl
@[simp] theorem State.putRing_dram (i : Nat) (x : _) : (s.putRing i x).dram = s.dram := rfl
@[simp] theorem State.putRing_ports (i : Nat) (x : _) : (s.putRing i x).ports = s.ports := rfl
@[simp] theorem State.putRing_hostMem (i : Nat) (x : _) : (s.putRing i x).hostMem = s.hostMem := rfl
@[simp] theorem State.putRing_parity (i : Nat) (x : _) : (s.putRing i x).parity = s.parity := rfl
@[simp] theorem State.putRing_keys (i : Nat) (x : _) : (s.putRing i x).keys = s.keys := rfl
@[simp] theorem State.putRing_syl (i : Nat) (x : _) : (s.putRing i x).syl = s.syl := rfl
@[simp] theorem State.putRing_nor (i : Nat) (x : _) : (s.putRing i x).nor = s.nor := rfl
@[simp] theorem State.putRing_jnl (i : Nat) (x : _) : (s.putRing i x).jnl = s.jnl := rfl
@[simp] theorem State.putRing_fuses (i : Nat) (x : _) : (s.putRing i x).fuses = s.fuses := rfl
@[simp] theorem State.putRing_prov (i : Nat) (x : _) : (s.putRing i x).prov = s.prov := rfl
@[simp] theorem State.putRing_bist (i : Nat) (x : _) : (s.putRing i x).bist = s.bist := rfl
@[simp] theorem State.putRing_host (i : Nat) (x : _) : (s.putRing i x).host = s.host := rfl
@[simp] theorem State.putRing_wo (i : Nat) (x : _) : (s.putRing i x).wo = s.wo := rfl
@[simp] theorem State.putRing_mapTdc (i : Nat) (x : _) : (s.putRing i x).mapTdc = s.mapTdc := rfl
@[simp] theorem State.putRing_mapApll (i : Nat) (x : _) : (s.putRing i x).mapApll = s.mapApll := rfl
@[simp] theorem State.putRing_pwr (i : Nat) (x : _) : (s.putRing i x).pwr = s.pwr := rfl
@[simp] theorem State.putRing_jtag (i : Nat) (x : _) : (s.putRing i x).jtag = s.jtag := rfl
@[simp] theorem State.putRing_scan (i : Nat) (x : _) : (s.putRing i x).scan = s.scan := rfl

/-! ### `State.putPort` -/
@[simp] theorem State.putPort_pending (i : Nat) (x : _) : (s.putPort i x).pending = s.pending := rfl
@[simp] theorem State.putPort_regs (i : Nat) (x : _) : (s.putPort i x).regs = s.regs := rfl
@[simp] theorem State.putPort_now (i : Nat) (x : _) : (s.putPort i x).now = s.now := rfl
@[simp] theorem State.putPort_up (i : Nat) (x : _) : (s.putPort i x).up = s.up := rfl
@[simp] theorem State.putPort_timers (i : Nat) (x : _) : (s.putPort i x).timers = s.timers := rfl
@[simp] theorem State.putPort_free (i : Nat) (x : _) : (s.putPort i x).free = s.free := rfl
@[simp] theorem State.putPort_hostRead (i : Nat) (x : _) : (s.putPort i x).hostRead = s.hostRead := rfl
@[simp] theorem State.putPort_clk (i : Nat) (x : _) : (s.putPort i x).clk = s.clk := rfl
@[simp] theorem State.putPort_eng (i : Nat) (x : _) : (s.putPort i x).eng = s.eng := rfl
@[simp] theorem State.putPort_words (i : Nat) (x : _) : (s.putPort i x).words = s.words := rfl
@[simp] theorem State.putPort_commons (i : Nat) (x : _) : (s.putPort i x).commons = s.commons := rfl
@[simp] theorem State.putPort_out (i : Nat) (x : _) : (s.putPort i x).out = s.out := rfl
@[simp] theorem State.putPort_inw (i : Nat) (x : _) : (s.putPort i x).inw = s.inw := rfl
@[simp] theorem State.putPort_bell (i : Nat) (x : _) : (s.putPort i x).bell = s.bell := rfl
@[simp] theorem State.putPort_subst (i : Nat) (x : _) : (s.putPort i x).subst = s.subst := rfl
@[simp] theorem State.putPort_image (i : Nat) (x : _) : (s.putPort i x).image = s.image := rfl
@[simp] theorem State.putPort_flt (i : Nat) (x : _) : (s.putPort i x).flt = s.flt := rfl
@[simp] theorem State.putPort_tb (i : Nat) (x : _) : (s.putPort i x).tb = s.tb := rfl
@[simp] theorem State.putPort_tbRem (i : Nat) (x : _) : (s.putPort i x).tbRem = s.tbRem := rfl
@[simp] theorem State.putPort_supplyFlag (i : Nat) (x : _) : (s.putPort i x).supplyFlag = s.supplyFlag := rfl
@[simp] theorem State.putPort_slots (i : Nat) (x : _) : (s.putPort i x).slots = s.slots := rfl
@[simp] theorem State.putPort_paths (i : Nat) (x : _) : (s.putPort i x).paths = s.paths := rfl
@[simp] theorem State.putPort_ts (i : Nat) (x : _) : (s.putPort i x).ts = s.ts := rfl
@[simp] theorem State.putPort_tg (i : Nat) (x : _) : (s.putPort i x).tg = s.tg := rfl
@[simp] theorem State.putPort_aplls (i : Nat) (x : _) : (s.putPort i x).aplls = s.aplls := rfl
@[simp] theorem State.putPort_outs (i : Nat) (x : _) : (s.putPort i x).outs = s.outs := rfl
@[simp] theorem State.putPort_chans (i : Nat) (x : _) : (s.putPort i x).chans = s.chans := rfl
@[simp] theorem State.putPort_roles (i : Nat) (x : _) : (s.putPort i x).roles = s.roles := rfl
@[simp] theorem State.putPort_grps (i : Nat) (x : _) : (s.putPort i x).grps = s.grps := rfl
@[simp] theorem State.putPort_twin (i : Nat) (x : _) : (s.putPort i x).twin = s.twin := rfl
@[simp] theorem State.putPort_rings (i : Nat) (x : _) : (s.putPort i x).rings = s.rings := rfl
@[simp] theorem State.putPort_dram (i : Nat) (x : _) : (s.putPort i x).dram = s.dram := rfl
@[simp] theorem State.putPort_hostMem (i : Nat) (x : _) : (s.putPort i x).hostMem = s.hostMem := rfl
@[simp] theorem State.putPort_parity (i : Nat) (x : _) : (s.putPort i x).parity = s.parity := rfl
@[simp] theorem State.putPort_keys (i : Nat) (x : _) : (s.putPort i x).keys = s.keys := rfl
@[simp] theorem State.putPort_syl (i : Nat) (x : _) : (s.putPort i x).syl = s.syl := rfl
@[simp] theorem State.putPort_nor (i : Nat) (x : _) : (s.putPort i x).nor = s.nor := rfl
@[simp] theorem State.putPort_jnl (i : Nat) (x : _) : (s.putPort i x).jnl = s.jnl := rfl
@[simp] theorem State.putPort_fuses (i : Nat) (x : _) : (s.putPort i x).fuses = s.fuses := rfl
@[simp] theorem State.putPort_prov (i : Nat) (x : _) : (s.putPort i x).prov = s.prov := rfl
@[simp] theorem State.putPort_bist (i : Nat) (x : _) : (s.putPort i x).bist = s.bist := rfl
@[simp] theorem State.putPort_host (i : Nat) (x : _) : (s.putPort i x).host = s.host := rfl
@[simp] theorem State.putPort_wo (i : Nat) (x : _) : (s.putPort i x).wo = s.wo := rfl
@[simp] theorem State.putPort_mapTdc (i : Nat) (x : _) : (s.putPort i x).mapTdc = s.mapTdc := rfl
@[simp] theorem State.putPort_mapApll (i : Nat) (x : _) : (s.putPort i x).mapApll = s.mapApll := rfl
@[simp] theorem State.putPort_pwr (i : Nat) (x : _) : (s.putPort i x).pwr = s.pwr := rfl
@[simp] theorem State.putPort_jtag (i : Nat) (x : _) : (s.putPort i x).jtag = s.jtag := rfl
@[simp] theorem State.putPort_scan (i : Nat) (x : _) : (s.putPort i x).scan = s.scan := rfl

/-! ### `State.wrs` and `State.level` -/
@[simp] theorem State.wrs_pending (l : List (Fld × Nat)) : (s.wrs l).pending = s.pending := by
  unfold State.wrs; induction l generalizing s with
  | nil => rfl
  | cons p l ih => exact (ih _).trans rfl
@[simp] theorem State.wrs_now (l : List (Fld × Nat)) : (s.wrs l).now = s.now := by
  unfold State.wrs; induction l generalizing s with
  | nil => rfl
  | cons p l ih => exact (ih _).trans rfl
@[simp] theorem State.wrs_up (l : List (Fld × Nat)) : (s.wrs l).up = s.up := by
  unfold State.wrs; induction l generalizing s with
  | nil => rfl
  | cons p l ih => exact (ih _).trans rfl
@[simp] theorem State.wrs_timers (l : List (Fld × Nat)) : (s.wrs l).timers = s.timers := by
  unfold State.wrs; induction l generalizing s with
  | nil => rfl
  | cons p l ih => exact (ih _).trans rfl
@[simp] theorem State.wrs_free (l : List (Fld × Nat)) : (s.wrs l).free = s.free := by
  unfold State.wrs; induction l generalizing s with
  | nil => rfl
  | cons p l ih => exact (ih _).trans rfl
@[simp] theorem State.wrs_hostRead (l : List (Fld × Nat)) : (s.wrs l).hostRead = s.hostRead := by
  unfold State.wrs; induction l generalizing s with
  | nil => rfl
  | cons p l ih => exact (ih _).trans rfl
@[simp] theorem State.wrs_clk (l : List (Fld × Nat)) : (s.wrs l).clk = s.clk := by
  unfold State.wrs; induction l generalizing s with
  | nil => rfl
  | cons p l ih => exact (ih _).trans rfl
@[simp] theorem State.wrs_eng (l : List (Fld × Nat)) : (s.wrs l).eng = s.eng := by
  unfold State.wrs; induction l generalizing s with
  | nil => rfl
  | cons p l ih => exact (ih _).trans rfl
@[simp] theorem State.wrs_words (l : List (Fld × Nat)) : (s.wrs l).words = s.words := by
  unfold State.wrs; induction l generalizing s with
  | nil => rfl
  | cons p l ih => exact (ih _).trans rfl
@[simp] theorem State.wrs_commons (l : List (Fld × Nat)) : (s.wrs l).commons = s.commons := by
  unfold State.wrs; induction l generalizing s with
  | nil => rfl
  | cons p l ih => exact (ih _).trans rfl
@[simp] theorem State.wrs_out (l : List (Fld × Nat)) : (s.wrs l).out = s.out := by
  unfold State.wrs; induction l generalizing s with
  | nil => rfl
  | cons p l ih => exact (ih _).trans rfl
@[simp] theorem State.wrs_inw (l : List (Fld × Nat)) : (s.wrs l).inw = s.inw := by
  unfold State.wrs; induction l generalizing s with
  | nil => rfl
  | cons p l ih => exact (ih _).trans rfl
@[simp] theorem State.wrs_bell (l : List (Fld × Nat)) : (s.wrs l).bell = s.bell := by
  unfold State.wrs; induction l generalizing s with
  | nil => rfl
  | cons p l ih => exact (ih _).trans rfl
@[simp] theorem State.wrs_subst (l : List (Fld × Nat)) : (s.wrs l).subst = s.subst := by
  unfold State.wrs; induction l generalizing s with
  | nil => rfl
  | cons p l ih => exact (ih _).trans rfl
@[simp] theorem State.wrs_image (l : List (Fld × Nat)) : (s.wrs l).image = s.image := by
  unfold State.wrs; induction l generalizing s with
  | nil => rfl
  | cons p l ih => exact (ih _).trans rfl
@[simp] theorem State.wrs_flt (l : List (Fld × Nat)) : (s.wrs l).flt = s.flt := by
  unfold State.wrs; induction l generalizing s with
  | nil => rfl
  | cons p l ih => exact (ih _).trans rfl
@[simp] theorem State.wrs_tb (l : List (Fld × Nat)) : (s.wrs l).tb = s.tb := by
  unfold State.wrs; induction l generalizing s with
  | nil => rfl
  | cons p l ih => exact (ih _).trans rfl
@[simp] theorem State.wrs_tbRem (l : List (Fld × Nat)) : (s.wrs l).tbRem = s.tbRem := by
  unfold State.wrs; induction l generalizing s with
  | nil => rfl
  | cons p l ih => exact (ih _).trans rfl
@[simp] theorem State.wrs_supplyFlag (l : List (Fld × Nat)) : (s.wrs l).supplyFlag = s.supplyFlag := by
  unfold State.wrs; induction l generalizing s with
  | nil => rfl
  | cons p l ih => exact (ih _).trans rfl
@[simp] theorem State.wrs_slots (l : List (Fld × Nat)) : (s.wrs l).slots = s.slots := by
  unfold State.wrs; induction l generalizing s with
  | nil => rfl
  | cons p l ih => exact (ih _).trans rfl
@[simp] theorem State.wrs_paths (l : List (Fld × Nat)) : (s.wrs l).paths = s.paths := by
  unfold State.wrs; induction l generalizing s with
  | nil => rfl
  | cons p l ih => exact (ih _).trans rfl
@[simp] theorem State.wrs_ts (l : List (Fld × Nat)) : (s.wrs l).ts = s.ts := by
  unfold State.wrs; induction l generalizing s with
  | nil => rfl
  | cons p l ih => exact (ih _).trans rfl
@[simp] theorem State.wrs_tg (l : List (Fld × Nat)) : (s.wrs l).tg = s.tg := by
  unfold State.wrs; induction l generalizing s with
  | nil => rfl
  | cons p l ih => exact (ih _).trans rfl
@[simp] theorem State.wrs_aplls (l : List (Fld × Nat)) : (s.wrs l).aplls = s.aplls := by
  unfold State.wrs; induction l generalizing s with
  | nil => rfl
  | cons p l ih => exact (ih _).trans rfl
@[simp] theorem State.wrs_outs (l : List (Fld × Nat)) : (s.wrs l).outs = s.outs := by
  unfold State.wrs; induction l generalizing s with
  | nil => rfl
  | cons p l ih => exact (ih _).trans rfl
@[simp] theorem State.wrs_chans (l : List (Fld × Nat)) : (s.wrs l).chans = s.chans := by
  unfold State.wrs; induction l generalizing s with
  | nil => rfl
  | cons p l ih => exact (ih _).trans rfl
@[simp] theorem State.wrs_roles (l : List (Fld × Nat)) : (s.wrs l).roles = s.roles := by
  unfold State.wrs; induction l generalizing s with
  | nil => rfl
  | cons p l ih => exact (ih _).trans rfl
@[simp] theorem State.wrs_grps (l : List (Fld × Nat)) : (s.wrs l).grps = s.grps := by
  unfold State.wrs; induction l generalizing s with
  | nil => rfl
  | cons p l ih => exact (ih _).trans rfl
@[simp] theorem State.wrs_twin (l : List (Fld × Nat)) : (s.wrs l).twin = s.twin := by
  unfold State.wrs; induction l generalizing s with
  | nil => rfl
  | cons p l ih => exact (ih _).trans rfl
@[simp] theorem State.wrs_rings (l : List (Fld × Nat)) : (s.wrs l).rings = s.rings := by
  unfold State.wrs; induction l generalizing s with
  | nil => rfl
  | cons p l ih => exact (ih _).trans rfl
@[simp] theorem State.wrs_dram (l : List (Fld × Nat)) : (s.wrs l).dram = s.dram := by
  unfold State.wrs; induction l generalizing s with
  | nil => rfl
  | cons p l ih => exact (ih _).trans rfl
@[simp] theorem State.wrs_ports (l : List (Fld × Nat)) : (s.wrs l).ports = s.ports := by
  unfold State.wrs; induction l generalizing s with
  | nil => rfl
  | cons p l ih => exact (ih _).trans rfl
@[simp] theorem State.wrs_hostMem (l : List (Fld × Nat)) : (s.wrs l).hostMem = s.hostMem := by
  unfold State.wrs; induction l generalizing s with
  | nil => rfl
  | cons p l ih => exact (ih _).trans rfl
@[simp] theorem State.wrs_parity (l : List (Fld × Nat)) : (s.wrs l).parity = s.parity := by
  unfold State.wrs; induction l generalizing s with
  | nil => rfl
  | cons p l ih => exact (ih _).trans rfl
@[simp] theorem State.wrs_keys (l : List (Fld × Nat)) : (s.wrs l).keys = s.keys := by
  unfold State.wrs; induction l generalizing s with
  | nil => rfl
  | cons p l ih => exact (ih _).trans rfl
@[simp] theorem State.wrs_syl (l : List (Fld × Nat)) : (s.wrs l).syl = s.syl := by
  unfold State.wrs; induction l generalizing s with
  | nil => rfl
  | cons p l ih => exact (ih _).trans rfl
@[simp] theorem State.wrs_nor (l : List (Fld × Nat)) : (s.wrs l).nor = s.nor := by
  unfold State.wrs; induction l generalizing s with
  | nil => rfl
  | cons p l ih => exact (ih _).trans rfl
@[simp] theorem State.wrs_jnl (l : List (Fld × Nat)) : (s.wrs l).jnl = s.jnl := by
  unfold State.wrs; induction l generalizing s with
  | nil => rfl
  | cons p l ih => exact (ih _).trans rfl
@[simp] theorem State.wrs_fuses (l : List (Fld × Nat)) : (s.wrs l).fuses = s.fuses := by
  unfold State.wrs; induction l generalizing s with
  | nil => rfl
  | cons p l ih => exact (ih _).trans rfl
@[simp] theorem State.wrs_prov (l : List (Fld × Nat)) : (s.wrs l).prov = s.prov := by
  unfold State.wrs; induction l generalizing s with
  | nil => rfl
  | cons p l ih => exact (ih _).trans rfl
@[simp] theorem State.wrs_bist (l : List (Fld × Nat)) : (s.wrs l).bist = s.bist := by
  unfold State.wrs; induction l generalizing s with
  | nil => rfl
  | cons p l ih => exact (ih _).trans rfl
@[simp] theorem State.wrs_host (l : List (Fld × Nat)) : (s.wrs l).host = s.host := by
  unfold State.wrs; induction l generalizing s with
  | nil => rfl
  | cons p l ih => exact (ih _).trans rfl
@[simp] theorem State.wrs_wo (l : List (Fld × Nat)) : (s.wrs l).wo = s.wo := by
  unfold State.wrs; induction l generalizing s with
  | nil => rfl
  | cons p l ih => exact (ih _).trans rfl
@[simp] theorem State.wrs_mapTdc (l : List (Fld × Nat)) : (s.wrs l).mapTdc = s.mapTdc := by
  unfold State.wrs; induction l generalizing s with
  | nil => rfl
  | cons p l ih => exact (ih _).trans rfl
@[simp] theorem State.wrs_mapApll (l : List (Fld × Nat)) : (s.wrs l).mapApll = s.mapApll := by
  unfold State.wrs; induction l generalizing s with
  | nil => rfl
  | cons p l ih => exact (ih _).trans rfl
@[simp] theorem State.wrs_pwr (l : List (Fld × Nat)) : (s.wrs l).pwr = s.pwr := by
  unfold State.wrs; induction l generalizing s with
  | nil => rfl
  | cons p l ih => exact (ih _).trans rfl
@[simp] theorem State.wrs_jtag (l : List (Fld × Nat)) : (s.wrs l).jtag = s.jtag := by
  unfold State.wrs; induction l generalizing s with
  | nil => rfl
  | cons p l ih => exact (ih _).trans rfl
@[simp] theorem State.wrs_scan (l : List (Fld × Nat)) : (s.wrs l).scan = s.scan := by
  unfold State.wrs; induction l generalizing s with
  | nil => rfl
  | cons p l ih => exact (ih _).trans rfl
@[simp] theorem State.level_pending (ev inst : Nat) (on : Bool) (info : Nat) : (s.level ev inst on info).pending = s.pending := by
  unfold State.level; split <;> split <;> rfl
@[simp] theorem State.level_regs (ev inst : Nat) (on : Bool) (info : Nat) : (s.level ev inst on info).regs = s.regs := by
  unfold State.level; split <;> split <;> rfl
@[simp] theorem State.level_now (ev inst : Nat) (on : Bool) (info : Nat) : (s.level ev inst on info).now = s.now := by
  unfold State.level; split <;> split <;> rfl
@[simp] theorem State.level_up (ev inst : Nat) (on : Bool) (info : Nat) : (s.level ev inst on info).up = s.up := by
  unfold State.level; split <;> split <;> rfl
@[simp] theorem State.level_timers (ev inst : Nat) (on : Bool) (info : Nat) : (s.level ev inst on info).timers = s.timers := by
  unfold State.level; split <;> split <;> rfl
@[simp] theorem State.level_free (ev inst : Nat) (on : Bool) (info : Nat) : (s.level ev inst on info).free = s.free := by
  unfold State.level; split <;> split <;> rfl
@[simp] theorem State.level_hostRead (ev inst : Nat) (on : Bool) (info : Nat) : (s.level ev inst on info).hostRead = s.hostRead := by
  unfold State.level; split <;> split <;> rfl
@[simp] theorem State.level_clk (ev inst : Nat) (on : Bool) (info : Nat) : (s.level ev inst on info).clk = s.clk := by
  unfold State.level; split <;> split <;> rfl
@[simp] theorem State.level_eng (ev inst : Nat) (on : Bool) (info : Nat) : (s.level ev inst on info).eng = s.eng := by
  unfold State.level; split <;> split <;> rfl
@[simp] theorem State.level_words (ev inst : Nat) (on : Bool) (info : Nat) : (s.level ev inst on info).words = s.words := by
  unfold State.level; split <;> split <;> rfl
@[simp] theorem State.level_commons (ev inst : Nat) (on : Bool) (info : Nat) : (s.level ev inst on info).commons = s.commons := by
  unfold State.level; split <;> split <;> rfl
@[simp] theorem State.level_out (ev inst : Nat) (on : Bool) (info : Nat) : (s.level ev inst on info).out = s.out := by
  unfold State.level; split <;> split <;> rfl
@[simp] theorem State.level_inw (ev inst : Nat) (on : Bool) (info : Nat) : (s.level ev inst on info).inw = s.inw := by
  unfold State.level; split <;> split <;> rfl
@[simp] theorem State.level_bell (ev inst : Nat) (on : Bool) (info : Nat) : (s.level ev inst on info).bell = s.bell := by
  unfold State.level; split <;> split <;> rfl
@[simp] theorem State.level_subst (ev inst : Nat) (on : Bool) (info : Nat) : (s.level ev inst on info).subst = s.subst := by
  unfold State.level; split <;> split <;> rfl
@[simp] theorem State.level_image (ev inst : Nat) (on : Bool) (info : Nat) : (s.level ev inst on info).image = s.image := by
  unfold State.level; split <;> split <;> rfl
@[simp] theorem State.level_tb (ev inst : Nat) (on : Bool) (info : Nat) : (s.level ev inst on info).tb = s.tb := by
  unfold State.level; split <;> split <;> rfl
@[simp] theorem State.level_tbRem (ev inst : Nat) (on : Bool) (info : Nat) : (s.level ev inst on info).tbRem = s.tbRem := by
  unfold State.level; split <;> split <;> rfl
@[simp] theorem State.level_supplyFlag (ev inst : Nat) (on : Bool) (info : Nat) : (s.level ev inst on info).supplyFlag = s.supplyFlag := by
  unfold State.level; split <;> split <;> rfl
@[simp] theorem State.level_slots (ev inst : Nat) (on : Bool) (info : Nat) : (s.level ev inst on info).slots = s.slots := by
  unfold State.level; split <;> split <;> rfl
@[simp] theorem State.level_paths (ev inst : Nat) (on : Bool) (info : Nat) : (s.level ev inst on info).paths = s.paths := by
  unfold State.level; split <;> split <;> rfl
@[simp] theorem State.level_ts (ev inst : Nat) (on : Bool) (info : Nat) : (s.level ev inst on info).ts = s.ts := by
  unfold State.level; split <;> split <;> rfl
@[simp] theorem State.level_tg (ev inst : Nat) (on : Bool) (info : Nat) : (s.level ev inst on info).tg = s.tg := by
  unfold State.level; split <;> split <;> rfl
@[simp] theorem State.level_aplls (ev inst : Nat) (on : Bool) (info : Nat) : (s.level ev inst on info).aplls = s.aplls := by
  unfold State.level; split <;> split <;> rfl
@[simp] theorem State.level_outs (ev inst : Nat) (on : Bool) (info : Nat) : (s.level ev inst on info).outs = s.outs := by
  unfold State.level; split <;> split <;> rfl
@[simp] theorem State.level_chans (ev inst : Nat) (on : Bool) (info : Nat) : (s.level ev inst on info).chans = s.chans := by
  unfold State.level; split <;> split <;> rfl
@[simp] theorem State.level_roles (ev inst : Nat) (on : Bool) (info : Nat) : (s.level ev inst on info).roles = s.roles := by
  unfold State.level; split <;> split <;> rfl
@[simp] theorem State.level_grps (ev inst : Nat) (on : Bool) (info : Nat) : (s.level ev inst on info).grps = s.grps := by
  unfold State.level; split <;> split <;> rfl
@[simp] theorem State.level_twin (ev inst : Nat) (on : Bool) (info : Nat) : (s.level ev inst on info).twin = s.twin := by
  unfold State.level; split <;> split <;> rfl
@[simp] theorem State.level_rings (ev inst : Nat) (on : Bool) (info : Nat) : (s.level ev inst on info).rings = s.rings := by
  unfold State.level; split <;> split <;> rfl
@[simp] theorem State.level_dram (ev inst : Nat) (on : Bool) (info : Nat) : (s.level ev inst on info).dram = s.dram := by
  unfold State.level; split <;> split <;> rfl
@[simp] theorem State.level_ports (ev inst : Nat) (on : Bool) (info : Nat) : (s.level ev inst on info).ports = s.ports := by
  unfold State.level; split <;> split <;> rfl
@[simp] theorem State.level_hostMem (ev inst : Nat) (on : Bool) (info : Nat) : (s.level ev inst on info).hostMem = s.hostMem := by
  unfold State.level; split <;> split <;> rfl
@[simp] theorem State.level_parity (ev inst : Nat) (on : Bool) (info : Nat) : (s.level ev inst on info).parity = s.parity := by
  unfold State.level; split <;> split <;> rfl
@[simp] theorem State.level_keys (ev inst : Nat) (on : Bool) (info : Nat) : (s.level ev inst on info).keys = s.keys := by
  unfold State.level; split <;> split <;> rfl
@[simp] theorem State.level_syl (ev inst : Nat) (on : Bool) (info : Nat) : (s.level ev inst on info).syl = s.syl := by
  unfold State.level; split <;> split <;> rfl
@[simp] theorem State.level_nor (ev inst : Nat) (on : Bool) (info : Nat) : (s.level ev inst on info).nor = s.nor := by
  unfold State.level; split <;> split <;> rfl
@[simp] theorem State.level_jnl (ev inst : Nat) (on : Bool) (info : Nat) : (s.level ev inst on info).jnl = s.jnl := by
  unfold State.level; split <;> split <;> rfl
@[simp] theorem State.level_fuses (ev inst : Nat) (on : Bool) (info : Nat) : (s.level ev inst on info).fuses = s.fuses := by
  unfold State.level; split <;> split <;> rfl
@[simp] theorem State.level_prov (ev inst : Nat) (on : Bool) (info : Nat) : (s.level ev inst on info).prov = s.prov := by
  unfold State.level; split <;> split <;> rfl
@[simp] theorem State.level_bist (ev inst : Nat) (on : Bool) (info : Nat) : (s.level ev inst on info).bist = s.bist := by
  unfold State.level; split <;> split <;> rfl
@[simp] theorem State.level_host (ev inst : Nat) (on : Bool) (info : Nat) : (s.level ev inst on info).host = s.host := by
  unfold State.level; split <;> split <;> rfl
@[simp] theorem State.level_wo (ev inst : Nat) (on : Bool) (info : Nat) : (s.level ev inst on info).wo = s.wo := by
  unfold State.level; split <;> split <;> rfl
@[simp] theorem State.level_mapTdc (ev inst : Nat) (on : Bool) (info : Nat) : (s.level ev inst on info).mapTdc = s.mapTdc := by
  unfold State.level; split <;> split <;> rfl
@[simp] theorem State.level_mapApll (ev inst : Nat) (on : Bool) (info : Nat) : (s.level ev inst on info).mapApll = s.mapApll := by
  unfold State.level; split <;> split <;> rfl
@[simp] theorem State.level_pwr (ev inst : Nat) (on : Bool) (info : Nat) : (s.level ev inst on info).pwr = s.pwr := by
  unfold State.level; split <;> split <;> rfl
@[simp] theorem State.level_jtag (ev inst : Nat) (on : Bool) (info : Nat) : (s.level ev inst on info).jtag = s.jtag := by
  unfold State.level; split <;> split <;> rfl
@[simp] theorem State.level_scan (ev inst : Nat) (on : Bool) (info : Nat) : (s.level ev inst on info).scan = s.scan := by
  unfold State.level; split <;> split <;> rfl

end Sys2Proof.Machine
end

