-- ==== Sys2Proof/Laws/Read.lean ====
section
/-! SUPPORT. What a read gives after an update: register fields, and the records of engines, slots, ports and the
other instances. -/
namespace Sys2Proof.Machine
variable (s : State)

/-! ### Register fields -/

@[simp] theorem State.rd_wr_self (f : Fld) (v : Nat) : (s.wr f v).rd f = v % 2 ^ f.width := tabGet_set_self ..
@[simp] theorem State.rd_wr_ne {f g : Fld} (h : f.key ≠ g.key) (v : Nat) : (s.wr f v).rd g = s.rd g := tabGet_set_ne _ _ h ..
@[simp] theorem State.rd_wrb_self (f : Fld) (b : Bool) : (s.wrb f b).rd f = b.toNat % 2 ^ f.width := s.rd_wr_self f _
@[simp] theorem State.rd_wrb_ne {f g : Fld} (h : f.key ≠ g.key) (b : Bool) : (s.wrb f b).rd g = s.rd g := s.rd_wr_ne h _
@[simp] theorem State.rd_wri_self (f : Fld) (x : Int) : (s.wri f x).rd f = ofSigned f.width x % 2 ^ f.width := s.rd_wr_self f _
@[simp] theorem State.rd_wri_ne {f g : Fld} (h : f.key ≠ g.key) (x : Int) : (s.wri f x).rd g = s.rd g := s.rd_wr_ne h _
@[simp] theorem State.rd_bump_self (f : Fld) (k : Nat) : (s.bump f k).rd f = (s.rd f + k) % 2 ^ f.width := s.rd_wr_self f _
@[simp] theorem State.rd_bump_ne {f g : Fld} (h : f.key ≠ g.key) (k : Nat) : (s.bump f k).rd g = s.rd g := s.rd_wr_ne h _
@[simp] theorem State.rd_bumpSat_self (f : Fld) (k : Nat) :
    (s.bumpSat f k).rd f = min (s.rd f + k) (2 ^ f.width - 1) % 2 ^ f.width := s.rd_wr_self f _
@[simp] theorem State.rd_bumpSat_ne {f g : Fld} (h : f.key ≠ g.key) (k : Nat) : (s.bumpSat f k).rd g = s.rd g := s.rd_wr_ne h _
@[simp] theorem State.wrs_nil : s.wrs [] = s := rfl
@[simp] theorem State.wrs_cons (f : Fld) (v : Nat) (l : List (Fld × Nat)) : s.wrs ((f, v) :: l) = (s.wr f v).wrs l := rfl
/-- A field that is not in the list keeps its value. -/
theorem State.rd_wrs_ne {g : Fld} (l : List (Fld × Nat)) (h : ∀ p ∈ l, p.1.key ≠ g.key) : (s.wrs l).rd g = s.rd g := by
  induction l generalizing s with
  | nil => rfl
  | cons p l ih =>
    have h1 := ih (s.wr p.1 p.2) (fun q hq => h q (List.mem_cons_of_mem _ hq))
    exact h1.trans (s.rd_wr_ne (h p List.mem_cons_self) _)
theorem State.rd_congr {s t : State} (h : t.regs = s.regs) (f : Fld) : t.rd f = s.rd f := by unfold State.rd; rw [h]
@[simp] theorem State.rd_raise (ev inst info : Nat) (f : Fld) : (s.raise ev inst info).rd f = s.rd f := rfl
@[simp] theorem State.rd_level (ev inst : Nat) (on : Bool) (info : Nat) (f : Fld) : (s.level ev inst on info).rd f = s.rd f :=
  State.rd_congr (s.level_regs ev inst on info) f

@[simp] theorem State.rd_putEngine (i : Nat) (x : _) (f : Fld) : (s.putEngine i x).rd f = s.rd f := rfl
@[simp] theorem State.rd_putHostWords (i : Nat) (x : _) (f : Fld) : (s.putHostWords i x).rd f = s.rd f := rfl
@[simp] theorem State.rd_putSlot (i : Nat) (x : _) (f : Fld) : (s.putSlot i x).rd f = s.rd f := rfl
@[simp] theorem State.rd_putPath (i : Nat) (x : _) (f : Fld) : (s.putPath i x).rd f = s.rd f := rfl
@[simp] theorem State.rd_putTscale (i : Nat) (x : _) (f : Fld) : (s.putTscale i x).rd f = s.rd f := rfl
@[simp] theorem State.rd_putTrig (i : Nat) (x : _) (f : Fld) : (s.putTrig i x).rd f = s.rd f := rfl
@[simp] theorem State.rd_putApll (i : Nat) (x : _) (f : Fld) : (s.putApll i x).rd f = s.rd f := rfl
@[simp] theorem State.rd_putOutp (i : Nat) (x : _) (f : Fld) : (s.putOutp i x).rd f = s.rd f := rfl
@[simp] theorem State.rd_putChan (i : Nat) (x : _) (f : Fld) : (s.putChan i x).rd f = s.rd f := rfl
@[simp] theorem State.rd_putRole (i : Nat) (x : _) (f : Fld) : (s.putRole i x).rd f = s.rd f := rfl
@[simp] theorem State.rd_putGrp (i : Nat) (x : _) (f : Fld) : (s.putGrp i x).rd f = s.rd f := rfl
@[simp] theorem State.rd_putRing (i : Nat) (x : _) (f : Fld) : (s.putRing i x).rd f = s.rd f := rfl
@[simp] theorem State.rd_putPort (i : Nat) (x : _) (f : Fld) : (s.putPort i x).rd f = s.rd f := rfl
/-- An update of other fields leaves the registers as they were. -/
@[simp] theorem State.rd_upd (t : State) (f : Fld)
    (pending' : _) (now' : _) (up' : _) (timers' : _) (free' : _) (hostRead' : _) (clk' : _) (eng' : _) (words' : _) (commons' : _)
    (out' : _) (inw' : _) (bell' : _) (subst' : _) (image' : _) (flt' : _) (tb' : _) (tbRem' : _) (supplyFlag' : _)
    (slots' : _) (paths' : _) (ts' : _) (tg' : _) (aplls' : _) (outs' : _) (chans' : _) (roles' : _) (grps' : _)
    (twin' : _) (rings' : _) (dram' : _) (ports' : _) (hostMem' : _) (parity' : _) (keys' : _) (syl' : _) (nor' : _)
    (jnl' : _) (fuses' : _) (prov' : _) (bist' : _) (host' : _) (wo' : _) (mapTdc' : _) (mapApll' : _) (pwr' : _)
    (jtag' : _) (scan' : _) :
    State.rd (State.mk
      pending' t.regs now' up' timers' free' hostRead' clk' eng' words' commons' out' inw' bell' subst' image' flt' tb' tbRem'
      supplyFlag' slots' paths' ts' tg' aplls' outs' chans' roles' grps' twin' rings' dram' ports' hostMem' parity'
      keys' syl' nor' jnl' fuses' prov' bist' host' wo' mapTdc' mapApll' pwr' jtag' scan') f = t.rd f := (Eq.refl _).trans (Eq.refl _)
@[simp] theorem State.rd_ite (c : Prop) [Decidable c] (a b : State) (f : Fld) :
    (if c then a else b).rd f = if c then a.rd f else b.rd f := apply_ite (State.rd · f) c a b
theorem State.bit_eq (f : Fld) : s.bit f = decide (s.rd f ≠ 0) := rfl

/-! ### `State.engine` -/

@[simp] theorem State.engine_put_self (i : Nat) (x : _) : (s.putEngine i x).engine i = x := tabGet_set_self ..
@[simp] theorem State.engine_put_ne {i j : Nat} (h : i ≠ j) (x : _) : (s.putEngine i x).engine j = s.engine j := tabGet_set_ne _ _ h ..
@[simp] theorem State.engine_wr (f : Fld) (v : Nat) (i : Nat) : (s.wr f v).engine i = s.engine i := rfl
@[simp] theorem State.engine_wrb (f : Fld) (v : Bool) (i : Nat) : (s.wrb f v).engine i = s.engine i := rfl
@[simp] theorem State.engine_wri (f : Fld) (v : Int) (i : Nat) : (s.wri f v).engine i = s.engine i := rfl
@[simp] theorem State.engine_bump (f : Fld) (v : Nat) (i : Nat) : (s.bump f v).engine i = s.engine i := rfl
@[simp] theorem State.engine_bumpSat (f : Fld) (v : Nat) (i : Nat) : (s.bumpSat f v).engine i = s.engine i := rfl
@[simp] theorem State.engine_wrs (l : List (Fld × Nat)) (i : Nat) : (s.wrs l).engine i = s.engine i := by simp [State.engine]
@[simp] theorem State.engine_raise (ev inst info : Nat) (i : Nat) : (s.raise ev inst info).engine i = s.engine i := rfl
@[simp] theorem State.engine_level (ev inst : Nat) (on : Bool) (info : Nat) (i : Nat) :
    (s.level ev inst on info).engine i = s.engine i := by simp [State.engine]
@[simp] theorem State.engine_putHostWords (k : Nat) (x : _) (i : Nat) : (s.putHostWords k x).engine i = s.engine i := rfl
@[simp] theorem State.engine_putSlot (k : Nat) (x : _) (i : Nat) : (s.putSlot k x).engine i = s.engine i := rfl
@[simp] theorem State.engine_putPath (k : Nat) (x : _) (i : Nat) : (s.putPath k x).engine i = s.engine i := rfl
@[simp] theorem State.engine_putTscale (k : Nat) (x : _) (i : Nat) : (s.putTscale k x).engine i = s.engine i := rfl
@[simp] theorem State.engine_putTrig (k : Nat) (x : _) (i : Nat) : (s.putTrig k x).engine i = s.engine i := rfl
@[simp] theorem State.engine_putApll (k : Nat) (x : _) (i : Nat) : (s.putApll k x).engine i = s.engine i := rfl
@[simp] theorem State.engine_putOutp (k : Nat) (x : _) (i : Nat) : (s.putOutp k x).engine i = s.engine i := rfl
@[simp] theorem State.engine_putChan (k : Nat) (x : _) (i : Nat) : (s.putChan k x).engine i = s.engine i := rfl
@[simp] theorem State.engine_putRole (k : Nat) (x : _) (i : Nat) : (s.putRole k x).engine i = s.engine i := rfl
@[simp] theorem State.engine_putGrp (k : Nat) (x : _) (i : Nat) : (s.putGrp k x).engine i = s.engine i := rfl
@[simp] theorem State.engine_putRing (k : Nat) (x : _) (i : Nat) : (s.putRing k x).engine i = s.engine i := rfl
@[simp] theorem State.engine_putPort (k : Nat) (x : _) (i : Nat) : (s.putPort k x).engine i = s.engine i := rfl
@[simp] theorem State.engine_upd (t : State) (i : Nat)
    (pending' : _) (regs' : _) (now' : _) (up' : _) (timers' : _) (free' : _) (hostRead' : _) (clk' : _) (words' : _) (commons' : _)
    (out' : _) (inw' : _) (bell' : _) (subst' : _) (image' : _) (flt' : _) (tb' : _) (tbRem' : _) (supplyFlag' : _)
    (slots' : _) (paths' : _) (ts' : _) (tg' : _) (aplls' : _) (outs' : _) (chans' : _) (roles' : _) (grps' : _)
    (twin' : _) (rings' : _) (dram' : _) (ports' : _) (hostMem' : _) (parity' : _) (keys' : _) (syl' : _) (nor' : _)
    (jnl' : _) (fuses' : _) (prov' : _) (bist' : _) (host' : _) (wo' : _) (mapTdc' : _) (mapApll' : _) (pwr' : _)
    (jtag' : _) (scan' : _) :
    State.engine (State.mk
      pending' regs' now' up' timers' free' hostRead' clk' t.eng words' commons' out' inw' bell' subst' image' flt' tb' tbRem'
      supplyFlag' slots' paths' ts' tg' aplls' outs' chans' roles' grps' twin' rings' dram' ports' hostMem' parity'
      keys' syl' nor' jnl' fuses' prov' bist' host' wo' mapTdc' mapApll' pwr' jtag' scan') i = t.engine i := (Eq.refl _).trans (Eq.refl _)
@[simp] theorem State.engine_ite (c : Prop) [Decidable c] (a b : State) (i : Nat) :
    (if c then a else b).engine i = if c then a.engine i else b.engine i := apply_ite (State.engine · i) c a b

/-! ### `State.hostWords` -/

@[simp] theorem State.hostWords_put_self (i : Nat) (x : _) : (s.putHostWords i x).hostWords i = x := tabGet_set_self ..
@[simp] theorem State.hostWords_put_ne {i j : Nat} (h : i ≠ j) (x : _) : (s.putHostWords i x).hostWords j = s.hostWords j := tabGet_set_ne _ _ h ..
@[simp] theorem State.hostWords_wr (f : Fld) (v : Nat) (i : Nat) : (s.wr f v).hostWords i = s.hostWords i := rfl
@[simp] theorem State.hostWords_wrb (f : Fld) (v : Bool) (i : Nat) : (s.wrb f v).hostWords i = s.hostWords i := rfl
@[simp] theorem State.hostWords_wri (f : Fld) (v : Int) (i : Nat) : (s.wri f v).hostWords i = s.hostWords i := rfl
@[simp] theorem State.hostWords_bump (f : Fld) (v : Nat) (i : Nat) : (s.bump f v).hostWords i = s.hostWords i := rfl
@[simp] theorem State.hostWords_bumpSat (f : Fld) (v : Nat) (i : Nat) : (s.bumpSat f v).hostWords i = s.hostWords i := rfl
@[simp] theorem State.hostWords_wrs (l : List (Fld × Nat)) (i : Nat) : (s.wrs l).hostWords i = s.hostWords i := by simp [State.hostWords]
@[simp] theorem State.hostWords_raise (ev inst info : Nat) (i : Nat) : (s.raise ev inst info).hostWords i = s.hostWords i := rfl
@[simp] theorem State.hostWords_level (ev inst : Nat) (on : Bool) (info : Nat) (i : Nat) :
    (s.level ev inst on info).hostWords i = s.hostWords i := by simp [State.hostWords]
@[simp] theorem State.hostWords_putEngine (k : Nat) (x : _) (i : Nat) : (s.putEngine k x).hostWords i = s.hostWords i := rfl
@[simp] theorem State.hostWords_putSlot (k : Nat) (x : _) (i : Nat) : (s.putSlot k x).hostWords i = s.hostWords i := rfl
@[simp] theorem State.hostWords_putPath (k : Nat) (x : _) (i : Nat) : (s.putPath k x).hostWords i = s.hostWords i := rfl
@[simp] theorem State.hostWords_putTscale (k : Nat) (x : _) (i : Nat) : (s.putTscale k x).hostWords i = s.hostWords i := rfl
@[simp] theorem State.hostWords_putTrig (k : Nat) (x : _) (i : Nat) : (s.putTrig k x).hostWords i = s.hostWords i := rfl
@[simp] theorem State.hostWords_putApll (k : Nat) (x : _) (i : Nat) : (s.putApll k x).hostWords i = s.hostWords i := rfl
@[simp] theorem State.hostWords_putOutp (k : Nat) (x : _) (i : Nat) : (s.putOutp k x).hostWords i = s.hostWords i := rfl
@[simp] theorem State.hostWords_putChan (k : Nat) (x : _) (i : Nat) : (s.putChan k x).hostWords i = s.hostWords i := rfl
@[simp] theorem State.hostWords_putRole (k : Nat) (x : _) (i : Nat) : (s.putRole k x).hostWords i = s.hostWords i := rfl
@[simp] theorem State.hostWords_putGrp (k : Nat) (x : _) (i : Nat) : (s.putGrp k x).hostWords i = s.hostWords i := rfl
@[simp] theorem State.hostWords_putRing (k : Nat) (x : _) (i : Nat) : (s.putRing k x).hostWords i = s.hostWords i := rfl
@[simp] theorem State.hostWords_putPort (k : Nat) (x : _) (i : Nat) : (s.putPort k x).hostWords i = s.hostWords i := rfl
@[simp] theorem State.hostWords_upd (t : State) (i : Nat)
    (pending' : _) (regs' : _) (now' : _) (up' : _) (timers' : _) (free' : _) (hostRead' : _) (clk' : _) (eng' : _) (commons' : _)
    (out' : _) (inw' : _) (bell' : _) (subst' : _) (image' : _) (flt' : _) (tb' : _) (tbRem' : _) (supplyFlag' : _)
    (slots' : _) (paths' : _) (ts' : _) (tg' : _) (aplls' : _) (outs' : _) (chans' : _) (roles' : _) (grps' : _)
    (twin' : _) (rings' : _) (dram' : _) (ports' : _) (hostMem' : _) (parity' : _) (keys' : _) (syl' : _) (nor' : _)
    (jnl' : _) (fuses' : _) (prov' : _) (bist' : _) (host' : _) (wo' : _) (mapTdc' : _) (mapApll' : _) (pwr' : _)
    (jtag' : _) (scan' : _) :
    State.hostWords (State.mk
      pending' regs' now' up' timers' free' hostRead' clk' eng' t.words commons' out' inw' bell' subst' image' flt' tb' tbRem'
      supplyFlag' slots' paths' ts' tg' aplls' outs' chans' roles' grps' twin' rings' dram' ports' hostMem' parity'
      keys' syl' nor' jnl' fuses' prov' bist' host' wo' mapTdc' mapApll' pwr' jtag' scan') i = t.hostWords i := (Eq.refl _).trans (Eq.refl _)
@[simp] theorem State.hostWords_ite (c : Prop) [Decidable c] (a b : State) (i : Nat) :
    (if c then a else b).hostWords i = if c then a.hostWords i else b.hostWords i := apply_ite (State.hostWords · i) c a b

/-! ### `State.slot` -/

@[simp] theorem State.slot_put_self (i : Nat) (x : _) : (s.putSlot i x).slot i = x := tabGet_set_self ..
@[simp] theorem State.slot_put_ne {i j : Nat} (h : i ≠ j) (x : _) : (s.putSlot i x).slot j = s.slot j := tabGet_set_ne _ _ h ..
@[simp] theorem State.slot_wr (f : Fld) (v : Nat) (i : Nat) : (s.wr f v).slot i = s.slot i := rfl
@[simp] theorem State.slot_wrb (f : Fld) (v : Bool) (i : Nat) : (s.wrb f v).slot i = s.slot i := rfl
@[simp] theorem State.slot_wri (f : Fld) (v : Int) (i : Nat) : (s.wri f v).slot i = s.slot i := rfl
@[simp] theorem State.slot_bump (f : Fld) (v : Nat) (i : Nat) : (s.bump f v).slot i = s.slot i := rfl
@[simp] theorem State.slot_bumpSat (f : Fld) (v : Nat) (i : Nat) : (s.bumpSat f v).slot i = s.slot i := rfl
@[simp] theorem State.slot_wrs (l : List (Fld × Nat)) (i : Nat) : (s.wrs l).slot i = s.slot i := by simp [State.slot]
@[simp] theorem State.slot_raise (ev inst info : Nat) (i : Nat) : (s.raise ev inst info).slot i = s.slot i := rfl
@[simp] theorem State.slot_level (ev inst : Nat) (on : Bool) (info : Nat) (i : Nat) :
    (s.level ev inst on info).slot i = s.slot i := by simp [State.slot]
@[simp] theorem State.slot_putEngine (k : Nat) (x : _) (i : Nat) : (s.putEngine k x).slot i = s.slot i := rfl
@[simp] theorem State.slot_putHostWords (k : Nat) (x : _) (i : Nat) : (s.putHostWords k x).slot i = s.slot i := rfl
@[simp] theorem State.slot_putPath (k : Nat) (x : _) (i : Nat) : (s.putPath k x).slot i = s.slot i := rfl
@[simp] theorem State.slot_putTscale (k : Nat) (x : _) (i : Nat) : (s.putTscale k x).slot i = s.slot i := rfl
@[simp] theorem State.slot_putTrig (k : Nat) (x : _) (i : Nat) : (s.putTrig k x).slot i = s.slot i := rfl
@[simp] theorem State.slot_putApll (k : Nat) (x : _) (i : Nat) : (s.putApll k x).slot i = s.slot i := rfl
@[simp] theorem State.slot_putOutp (k : Nat) (x : _) (i : Nat) : (s.putOutp k x).slot i = s.slot i := rfl
@[simp] theorem State.slot_putChan (k : Nat) (x : _) (i : Nat) : (s.putChan k x).slot i = s.slot i := rfl
@[simp] theorem State.slot_putRole (k : Nat) (x : _) (i : Nat) : (s.putRole k x).slot i = s.slot i := rfl
@[simp] theorem State.slot_putGrp (k : Nat) (x : _) (i : Nat) : (s.putGrp k x).slot i = s.slot i := rfl
@[simp] theorem State.slot_putRing (k : Nat) (x : _) (i : Nat) : (s.putRing k x).slot i = s.slot i := rfl
@[simp] theorem State.slot_putPort (k : Nat) (x : _) (i : Nat) : (s.putPort k x).slot i = s.slot i := rfl
@[simp] theorem State.slot_upd (t : State) (i : Nat)
    (pending' : _) (regs' : _) (now' : _) (up' : _) (timers' : _) (free' : _) (hostRead' : _) (clk' : _) (eng' : _) (words' : _)
    (commons' : _) (out' : _) (inw' : _) (bell' : _) (subst' : _) (image' : _) (flt' : _) (tb' : _) (tbRem' : _)
    (supplyFlag' : _) (paths' : _) (ts' : _) (tg' : _) (aplls' : _) (outs' : _) (chans' : _) (roles' : _)
    (grps' : _) (twin' : _) (rings' : _) (dram' : _) (ports' : _) (hostMem' : _) (parity' : _) (keys' : _)
    (syl' : _) (nor' : _) (jnl' : _) (fuses' : _) (prov' : _) (bist' : _) (host' : _) (wo' : _) (mapTdc' : _)
    (mapApll' : _) (pwr' : _) (jtag' : _) (scan' : _) :
    State.slot (State.mk
      pending' regs' now' up' timers' free' hostRead' clk' eng' words' commons' out' inw' bell' subst' image' flt' tb' tbRem'
      supplyFlag' t.slots paths' ts' tg' aplls' outs' chans' roles' grps' twin' rings' dram' ports' hostMem' parity'
      keys' syl' nor' jnl' fuses' prov' bist' host' wo' mapTdc' mapApll' pwr' jtag' scan') i = t.slot i := (Eq.refl _).trans (Eq.refl _)
@[simp] theorem State.slot_ite (c : Prop) [Decidable c] (a b : State) (i : Nat) :
    (if c then a else b).slot i = if c then a.slot i else b.slot i := apply_ite (State.slot · i) c a b

/-! ### `State.path` -/

@[simp] theorem State.path_put_self (i : Nat) (x : _) : (s.putPath i x).path i = x := tabGet_set_self ..
@[simp] theorem State.path_put_ne {i j : Nat} (h : i ≠ j) (x : _) : (s.putPath i x).path j = s.path j := tabGet_set_ne _ _ h ..
@[simp] theorem State.path_wr (f : Fld) (v : Nat) (i : Nat) : (s.wr f v).path i = s.path i := rfl
@[simp] theorem State.path_wrb (f : Fld) (v : Bool) (i : Nat) : (s.wrb f v).path i = s.path i := rfl
@[simp] theorem State.path_wri (f : Fld) (v : Int) (i : Nat) : (s.wri f v).path i = s.path i := rfl
@[simp] theorem State.path_bump (f : Fld) (v : Nat) (i : Nat) : (s.bump f v).path i = s.path i := rfl
@[simp] theorem State.path_bumpSat (f : Fld) (v : Nat) (i : Nat) : (s.bumpSat f v).path i = s.path i := rfl
@[simp] theorem State.path_wrs (l : List (Fld × Nat)) (i : Nat) : (s.wrs l).path i = s.path i := by simp [State.path]
@[simp] theorem State.path_raise (ev inst info : Nat) (i : Nat) : (s.raise ev inst info).path i = s.path i := rfl
@[simp] theorem State.path_level (ev inst : Nat) (on : Bool) (info : Nat) (i : Nat) :
    (s.level ev inst on info).path i = s.path i := by simp [State.path]
@[simp] theorem State.path_putEngine (k : Nat) (x : _) (i : Nat) : (s.putEngine k x).path i = s.path i := rfl
@[simp] theorem State.path_putHostWords (k : Nat) (x : _) (i : Nat) : (s.putHostWords k x).path i = s.path i := rfl
@[simp] theorem State.path_putSlot (k : Nat) (x : _) (i : Nat) : (s.putSlot k x).path i = s.path i := rfl
@[simp] theorem State.path_putTscale (k : Nat) (x : _) (i : Nat) : (s.putTscale k x).path i = s.path i := rfl
@[simp] theorem State.path_putTrig (k : Nat) (x : _) (i : Nat) : (s.putTrig k x).path i = s.path i := rfl
@[simp] theorem State.path_putApll (k : Nat) (x : _) (i : Nat) : (s.putApll k x).path i = s.path i := rfl
@[simp] theorem State.path_putOutp (k : Nat) (x : _) (i : Nat) : (s.putOutp k x).path i = s.path i := rfl
@[simp] theorem State.path_putChan (k : Nat) (x : _) (i : Nat) : (s.putChan k x).path i = s.path i := rfl
@[simp] theorem State.path_putRole (k : Nat) (x : _) (i : Nat) : (s.putRole k x).path i = s.path i := rfl
@[simp] theorem State.path_putGrp (k : Nat) (x : _) (i : Nat) : (s.putGrp k x).path i = s.path i := rfl
@[simp] theorem State.path_putRing (k : Nat) (x : _) (i : Nat) : (s.putRing k x).path i = s.path i := rfl
@[simp] theorem State.path_putPort (k : Nat) (x : _) (i : Nat) : (s.putPort k x).path i = s.path i := rfl
@[simp] theorem State.path_upd (t : State) (i : Nat)
    (pending' : _) (regs' : _) (now' : _) (up' : _) (timers' : _) (free' : _) (hostRead' : _) (clk' : _) (eng' : _) (words' : _)
    (commons' : _) (out' : _) (inw' : _) (bell' : _) (subst' : _) (image' : _) (flt' : _) (tb' : _) (tbRem' : _)
    (supplyFlag' : _) (slots' : _) (ts' : _) (tg' : _) (aplls' : _) (outs' : _) (chans' : _) (roles' : _)
    (grps' : _) (twin' : _) (rings' : _) (dram' : _) (ports' : _) (hostMem' : _) (parity' : _) (keys' : _)
    (syl' : _) (nor' : _) (jnl' : _) (fuses' : _) (prov' : _) (bist' : _) (host' : _) (wo' : _) (mapTdc' : _)
    (mapApll' : _) (pwr' : _) (jtag' : _) (scan' : _) :
    State.path (State.mk
      pending' regs' now' up' timers' free' hostRead' clk' eng' words' commons' out' inw' bell' subst' image' flt' tb' tbRem'
      supplyFlag' slots' t.paths ts' tg' aplls' outs' chans' roles' grps' twin' rings' dram' ports' hostMem' parity'
      keys' syl' nor' jnl' fuses' prov' bist' host' wo' mapTdc' mapApll' pwr' jtag' scan') i = t.path i := (Eq.refl _).trans (Eq.refl _)
@[simp] theorem State.path_ite (c : Prop) [Decidable c] (a b : State) (i : Nat) :
    (if c then a else b).path i = if c then a.path i else b.path i := apply_ite (State.path · i) c a b

/-! ### `State.tscale` -/

@[simp] theorem State.tscale_put_self (i : Nat) (x : _) : (s.putTscale i x).tscale i = x := tabGet_set_self ..
@[simp] theorem State.tscale_put_ne {i j : Nat} (h : i ≠ j) (x : _) : (s.putTscale i x).tscale j = s.tscale j := tabGet_set_ne _ _ h ..
@[simp] theorem State.tscale_wr (f : Fld) (v : Nat) (i : Nat) : (s.wr f v).tscale i = s.tscale i := rfl
@[simp] theorem State.tscale_wrb (f : Fld) (v : Bool) (i : Nat) : (s.wrb f v).tscale i = s.tscale i := rfl
@[simp] theorem State.tscale_wri (f : Fld) (v : Int) (i : Nat) : (s.wri f v).tscale i = s.tscale i := rfl
@[simp] theorem State.tscale_bump (f : Fld) (v : Nat) (i : Nat) : (s.bump f v).tscale i = s.tscale i := rfl
@[simp] theorem State.tscale_bumpSat (f : Fld) (v : Nat) (i : Nat) : (s.bumpSat f v).tscale i = s.tscale i := rfl
@[simp] theorem State.tscale_wrs (l : List (Fld × Nat)) (i : Nat) : (s.wrs l).tscale i = s.tscale i := by simp [State.tscale]
@[simp] theorem State.tscale_raise (ev inst info : Nat) (i : Nat) : (s.raise ev inst info).tscale i = s.tscale i := rfl
@[simp] theorem State.tscale_level (ev inst : Nat) (on : Bool) (info : Nat) (i : Nat) :
    (s.level ev inst on info).tscale i = s.tscale i := by simp [State.tscale]
@[simp] theorem State.tscale_putEngine (k : Nat) (x : _) (i : Nat) : (s.putEngine k x).tscale i = s.tscale i := rfl
@[simp] theorem State.tscale_putHostWords (k : Nat) (x : _) (i : Nat) : (s.putHostWords k x).tscale i = s.tscale i := rfl
@[simp] theorem State.tscale_putSlot (k : Nat) (x : _) (i : Nat) : (s.putSlot k x).tscale i = s.tscale i := rfl
@[simp] theorem State.tscale_putPath (k : Nat) (x : _) (i : Nat) : (s.putPath k x).tscale i = s.tscale i := rfl
@[simp] theorem State.tscale_putTrig (k : Nat) (x : _) (i : Nat) : (s.putTrig k x).tscale i = s.tscale i := rfl
@[simp] theorem State.tscale_putApll (k : Nat) (x : _) (i : Nat) : (s.putApll k x).tscale i = s.tscale i := rfl
@[simp] theorem State.tscale_putOutp (k : Nat) (x : _) (i : Nat) : (s.putOutp k x).tscale i = s.tscale i := rfl
@[simp] theorem State.tscale_putChan (k : Nat) (x : _) (i : Nat) : (s.putChan k x).tscale i = s.tscale i := rfl
@[simp] theorem State.tscale_putRole (k : Nat) (x : _) (i : Nat) : (s.putRole k x).tscale i = s.tscale i := rfl
@[simp] theorem State.tscale_putGrp (k : Nat) (x : _) (i : Nat) : (s.putGrp k x).tscale i = s.tscale i := rfl
@[simp] theorem State.tscale_putRing (k : Nat) (x : _) (i : Nat) : (s.putRing k x).tscale i = s.tscale i := rfl
@[simp] theorem State.tscale_putPort (k : Nat) (x : _) (i : Nat) : (s.putPort k x).tscale i = s.tscale i := rfl
@[simp] theorem State.tscale_upd (t : State) (i : Nat)
    (pending' : _) (regs' : _) (now' : _) (up' : _) (timers' : _) (free' : _) (hostRead' : _) (clk' : _) (eng' : _) (words' : _)
    (commons' : _) (out' : _) (inw' : _) (bell' : _) (subst' : _) (image' : _) (flt' : _) (tb' : _) (tbRem' : _)
    (supplyFlag' : _) (slots' : _) (paths' : _) (tg' : _) (aplls' : _) (outs' : _) (chans' : _) (roles' : _)
    (grps' : _) (twin' : _) (rings' : _) (dram' : _) (ports' : _) (hostMem' : _) (parity' : _) (keys' : _)
    (syl' : _) (nor' : _) (jnl' : _) (fuses' : _) (prov' : _) (bist' : _) (host' : _) (wo' : _) (mapTdc' : _)
    (mapApll' : _) (pwr' : _) (jtag' : _) (scan' : _) :
    State.tscale (State.mk
      pending' regs' now' up' timers' free' hostRead' clk' eng' words' commons' out' inw' bell' subst' image' flt' tb' tbRem'
      supplyFlag' slots' paths' t.ts tg' aplls' outs' chans' roles' grps' twin' rings' dram' ports' hostMem' parity'
      keys' syl' nor' jnl' fuses' prov' bist' host' wo' mapTdc' mapApll' pwr' jtag' scan') i = t.tscale i := (Eq.refl _).trans (Eq.refl _)
@[simp] theorem State.tscale_ite (c : Prop) [Decidable c] (a b : State) (i : Nat) :
    (if c then a else b).tscale i = if c then a.tscale i else b.tscale i := apply_ite (State.tscale · i) c a b

/-! ### `State.trig` -/

@[simp] theorem State.trig_put_self (i : Nat) (x : _) : (s.putTrig i x).trig i = x := tabGet_set_self ..
@[simp] theorem State.trig_put_ne {i j : Nat} (h : i ≠ j) (x : _) : (s.putTrig i x).trig j = s.trig j := tabGet_set_ne _ _ h ..
@[simp] theorem State.trig_wr (f : Fld) (v : Nat) (i : Nat) : (s.wr f v).trig i = s.trig i := rfl
@[simp] theorem State.trig_wrb (f : Fld) (v : Bool) (i : Nat) : (s.wrb f v).trig i = s.trig i := rfl
@[simp] theorem State.trig_wri (f : Fld) (v : Int) (i : Nat) : (s.wri f v).trig i = s.trig i := rfl
@[simp] theorem State.trig_bump (f : Fld) (v : Nat) (i : Nat) : (s.bump f v).trig i = s.trig i := rfl
@[simp] theorem State.trig_bumpSat (f : Fld) (v : Nat) (i : Nat) : (s.bumpSat f v).trig i = s.trig i := rfl
@[simp] theorem State.trig_wrs (l : List (Fld × Nat)) (i : Nat) : (s.wrs l).trig i = s.trig i := by simp [State.trig]
@[simp] theorem State.trig_raise (ev inst info : Nat) (i : Nat) : (s.raise ev inst info).trig i = s.trig i := rfl
@[simp] theorem State.trig_level (ev inst : Nat) (on : Bool) (info : Nat) (i : Nat) :
    (s.level ev inst on info).trig i = s.trig i := by simp [State.trig]
@[simp] theorem State.trig_putEngine (k : Nat) (x : _) (i : Nat) : (s.putEngine k x).trig i = s.trig i := rfl
@[simp] theorem State.trig_putHostWords (k : Nat) (x : _) (i : Nat) : (s.putHostWords k x).trig i = s.trig i := rfl
@[simp] theorem State.trig_putSlot (k : Nat) (x : _) (i : Nat) : (s.putSlot k x).trig i = s.trig i := rfl
@[simp] theorem State.trig_putPath (k : Nat) (x : _) (i : Nat) : (s.putPath k x).trig i = s.trig i := rfl
@[simp] theorem State.trig_putTscale (k : Nat) (x : _) (i : Nat) : (s.putTscale k x).trig i = s.trig i := rfl
@[simp] theorem State.trig_putApll (k : Nat) (x : _) (i : Nat) : (s.putApll k x).trig i = s.trig i := rfl
@[simp] theorem State.trig_putOutp (k : Nat) (x : _) (i : Nat) : (s.putOutp k x).trig i = s.trig i := rfl
@[simp] theorem State.trig_putChan (k : Nat) (x : _) (i : Nat) : (s.putChan k x).trig i = s.trig i := rfl
@[simp] theorem State.trig_putRole (k : Nat) (x : _) (i : Nat) : (s.putRole k x).trig i = s.trig i := rfl
@[simp] theorem State.trig_putGrp (k : Nat) (x : _) (i : Nat) : (s.putGrp k x).trig i = s.trig i := rfl
@[simp] theorem State.trig_putRing (k : Nat) (x : _) (i : Nat) : (s.putRing k x).trig i = s.trig i := rfl
@[simp] theorem State.trig_putPort (k : Nat) (x : _) (i : Nat) : (s.putPort k x).trig i = s.trig i := rfl
@[simp] theorem State.trig_upd (t : State) (i : Nat)
    (pending' : _) (regs' : _) (now' : _) (up' : _) (timers' : _) (free' : _) (hostRead' : _) (clk' : _) (eng' : _) (words' : _)
    (commons' : _) (out' : _) (inw' : _) (bell' : _) (subst' : _) (image' : _) (flt' : _) (tb' : _) (tbRem' : _)
    (supplyFlag' : _) (slots' : _) (paths' : _) (ts' : _) (aplls' : _) (outs' : _) (chans' : _) (roles' : _)
    (grps' : _) (twin' : _) (rings' : _) (dram' : _) (ports' : _) (hostMem' : _) (parity' : _) (keys' : _)
    (syl' : _) (nor' : _) (jnl' : _) (fuses' : _) (prov' : _) (bist' : _) (host' : _) (wo' : _) (mapTdc' : _)
    (mapApll' : _) (pwr' : _) (jtag' : _) (scan' : _) :
    State.trig (State.mk
      pending' regs' now' up' timers' free' hostRead' clk' eng' words' commons' out' inw' bell' subst' image' flt' tb' tbRem'
      supplyFlag' slots' paths' ts' t.tg aplls' outs' chans' roles' grps' twin' rings' dram' ports' hostMem' parity'
      keys' syl' nor' jnl' fuses' prov' bist' host' wo' mapTdc' mapApll' pwr' jtag' scan') i = t.trig i := (Eq.refl _).trans (Eq.refl _)
@[simp] theorem State.trig_ite (c : Prop) [Decidable c] (a b : State) (i : Nat) :
    (if c then a else b).trig i = if c then a.trig i else b.trig i := apply_ite (State.trig · i) c a b

/-! ### `State.apll` -/

@[simp] theorem State.apll_put_self (i : Nat) (x : _) : (s.putApll i x).apll i = x := tabGet_set_self ..
@[simp] theorem State.apll_put_ne {i j : Nat} (h : i ≠ j) (x : _) : (s.putApll i x).apll j = s.apll j := tabGet_set_ne _ _ h ..
@[simp] theorem State.apll_wr (f : Fld) (v : Nat) (i : Nat) : (s.wr f v).apll i = s.apll i := rfl
@[simp] theorem State.apll_wrb (f : Fld) (v : Bool) (i : Nat) : (s.wrb f v).apll i = s.apll i := rfl
@[simp] theorem State.apll_wri (f : Fld) (v : Int) (i : Nat) : (s.wri f v).apll i = s.apll i := rfl
@[simp] theorem State.apll_bump (f : Fld) (v : Nat) (i : Nat) : (s.bump f v).apll i = s.apll i := rfl
@[simp] theorem State.apll_bumpSat (f : Fld) (v : Nat) (i : Nat) : (s.bumpSat f v).apll i = s.apll i := rfl
@[simp] theorem State.apll_wrs (l : List (Fld × Nat)) (i : Nat) : (s.wrs l).apll i = s.apll i := by simp [State.apll]
@[simp] theorem State.apll_raise (ev inst info : Nat) (i : Nat) : (s.raise ev inst info).apll i = s.apll i := rfl
@[simp] theorem State.apll_level (ev inst : Nat) (on : Bool) (info : Nat) (i : Nat) :
    (s.level ev inst on info).apll i = s.apll i := by simp [State.apll]
@[simp] theorem State.apll_putEngine (k : Nat) (x : _) (i : Nat) : (s.putEngine k x).apll i = s.apll i := rfl
@[simp] theorem State.apll_putHostWords (k : Nat) (x : _) (i : Nat) : (s.putHostWords k x).apll i = s.apll i := rfl
@[simp] theorem State.apll_putSlot (k : Nat) (x : _) (i : Nat) : (s.putSlot k x).apll i = s.apll i := rfl
@[simp] theorem State.apll_putPath (k : Nat) (x : _) (i : Nat) : (s.putPath k x).apll i = s.apll i := rfl
@[simp] theorem State.apll_putTscale (k : Nat) (x : _) (i : Nat) : (s.putTscale k x).apll i = s.apll i := rfl
@[simp] theorem State.apll_putTrig (k : Nat) (x : _) (i : Nat) : (s.putTrig k x).apll i = s.apll i := rfl
@[simp] theorem State.apll_putOutp (k : Nat) (x : _) (i : Nat) : (s.putOutp k x).apll i = s.apll i := rfl
@[simp] theorem State.apll_putChan (k : Nat) (x : _) (i : Nat) : (s.putChan k x).apll i = s.apll i := rfl
@[simp] theorem State.apll_putRole (k : Nat) (x : _) (i : Nat) : (s.putRole k x).apll i = s.apll i := rfl
@[simp] theorem State.apll_putGrp (k : Nat) (x : _) (i : Nat) : (s.putGrp k x).apll i = s.apll i := rfl
@[simp] theorem State.apll_putRing (k : Nat) (x : _) (i : Nat) : (s.putRing k x).apll i = s.apll i := rfl
@[simp] theorem State.apll_putPort (k : Nat) (x : _) (i : Nat) : (s.putPort k x).apll i = s.apll i := rfl
@[simp] theorem State.apll_upd (t : State) (i : Nat)
    (pending' : _) (regs' : _) (now' : _) (up' : _) (timers' : _) (free' : _) (hostRead' : _) (clk' : _) (eng' : _) (words' : _)
    (commons' : _) (out' : _) (inw' : _) (bell' : _) (subst' : _) (image' : _) (flt' : _) (tb' : _) (tbRem' : _)
    (supplyFlag' : _) (slots' : _) (paths' : _) (ts' : _) (tg' : _) (outs' : _) (chans' : _) (roles' : _)
    (grps' : _) (twin' : _) (rings' : _) (dram' : _) (ports' : _) (hostMem' : _) (parity' : _) (keys' : _)
    (syl' : _) (nor' : _) (jnl' : _) (fuses' : _) (prov' : _) (bist' : _) (host' : _) (wo' : _) (mapTdc' : _)
    (mapApll' : _) (pwr' : _) (jtag' : _) (scan' : _) :
    State.apll (State.mk
      pending' regs' now' up' timers' free' hostRead' clk' eng' words' commons' out' inw' bell' subst' image' flt' tb' tbRem'
      supplyFlag' slots' paths' ts' tg' t.aplls outs' chans' roles' grps' twin' rings' dram' ports' hostMem' parity'
      keys' syl' nor' jnl' fuses' prov' bist' host' wo' mapTdc' mapApll' pwr' jtag' scan') i = t.apll i := (Eq.refl _).trans (Eq.refl _)
@[simp] theorem State.apll_ite (c : Prop) [Decidable c] (a b : State) (i : Nat) :
    (if c then a else b).apll i = if c then a.apll i else b.apll i := apply_ite (State.apll · i) c a b

/-! ### `State.outp` -/

@[simp] theorem State.outp_put_self (i : Nat) (x : _) : (s.putOutp i x).outp i = x := tabGet_set_self ..
@[simp] theorem State.outp_put_ne {i j : Nat} (h : i ≠ j) (x : _) : (s.putOutp i x).outp j = s.outp j := tabGet_set_ne _ _ h ..
@[simp] theorem State.outp_wr (f : Fld) (v : Nat) (i : Nat) : (s.wr f v).outp i = s.outp i := rfl
@[simp] theorem State.outp_wrb (f : Fld) (v : Bool) (i : Nat) : (s.wrb f v).outp i = s.outp i := rfl
@[simp] theorem State.outp_wri (f : Fld) (v : Int) (i : Nat) : (s.wri f v).outp i = s.outp i := rfl
@[simp] theorem State.outp_bump (f : Fld) (v : Nat) (i : Nat) : (s.bump f v).outp i = s.outp i := rfl
@[simp] theorem State.outp_bumpSat (f : Fld) (v : Nat) (i : Nat) : (s.bumpSat f v).outp i = s.outp i := rfl
@[simp] theorem State.outp_wrs (l : List (Fld × Nat)) (i : Nat) : (s.wrs l).outp i = s.outp i := by simp [State.outp]
@[simp] theorem State.outp_raise (ev inst info : Nat) (i : Nat) : (s.raise ev inst info).outp i = s.outp i := rfl
@[simp] theorem State.outp_level (ev inst : Nat) (on : Bool) (info : Nat) (i : Nat) :
    (s.level ev inst on info).outp i = s.outp i := by simp [State.outp]
@[simp] theorem State.outp_putEngine (k : Nat) (x : _) (i : Nat) : (s.putEngine k x).outp i = s.outp i := rfl
@[simp] theorem State.outp_putHostWords (k : Nat) (x : _) (i : Nat) : (s.putHostWords k x).outp i = s.outp i := rfl
@[simp] theorem State.outp_putSlot (k : Nat) (x : _) (i : Nat) : (s.putSlot k x).outp i = s.outp i := rfl
@[simp] theorem State.outp_putPath (k : Nat) (x : _) (i : Nat) : (s.putPath k x).outp i = s.outp i := rfl
@[simp] theorem State.outp_putTscale (k : Nat) (x : _) (i : Nat) : (s.putTscale k x).outp i = s.outp i := rfl
@[simp] theorem State.outp_putTrig (k : Nat) (x : _) (i : Nat) : (s.putTrig k x).outp i = s.outp i := rfl
@[simp] theorem State.outp_putApll (k : Nat) (x : _) (i : Nat) : (s.putApll k x).outp i = s.outp i := rfl
@[simp] theorem State.outp_putChan (k : Nat) (x : _) (i : Nat) : (s.putChan k x).outp i = s.outp i := rfl
@[simp] theorem State.outp_putRole (k : Nat) (x : _) (i : Nat) : (s.putRole k x).outp i = s.outp i := rfl
@[simp] theorem State.outp_putGrp (k : Nat) (x : _) (i : Nat) : (s.putGrp k x).outp i = s.outp i := rfl
@[simp] theorem State.outp_putRing (k : Nat) (x : _) (i : Nat) : (s.putRing k x).outp i = s.outp i := rfl
@[simp] theorem State.outp_putPort (k : Nat) (x : _) (i : Nat) : (s.putPort k x).outp i = s.outp i := rfl
@[simp] theorem State.outp_upd (t : State) (i : Nat)
    (pending' : _) (regs' : _) (now' : _) (up' : _) (timers' : _) (free' : _) (hostRead' : _) (clk' : _) (eng' : _) (words' : _)
    (commons' : _) (out' : _) (inw' : _) (bell' : _) (subst' : _) (image' : _) (flt' : _) (tb' : _) (tbRem' : _)
    (supplyFlag' : _) (slots' : _) (paths' : _) (ts' : _) (tg' : _) (aplls' : _) (chans' : _) (roles' : _)
    (grps' : _) (twin' : _) (rings' : _) (dram' : _) (ports' : _) (hostMem' : _) (parity' : _) (keys' : _)
    (syl' : _) (nor' : _) (jnl' : _) (fuses' : _) (prov' : _) (bist' : _) (host' : _) (wo' : _) (mapTdc' : _)
    (mapApll' : _) (pwr' : _) (jtag' : _) (scan' : _) :
    State.outp (State.mk
      pending' regs' now' up' timers' free' hostRead' clk' eng' words' commons' out' inw' bell' subst' image' flt' tb' tbRem'
      supplyFlag' slots' paths' ts' tg' aplls' t.outs chans' roles' grps' twin' rings' dram' ports' hostMem' parity'
      keys' syl' nor' jnl' fuses' prov' bist' host' wo' mapTdc' mapApll' pwr' jtag' scan') i = t.outp i := (Eq.refl _).trans (Eq.refl _)
@[simp] theorem State.outp_ite (c : Prop) [Decidable c] (a b : State) (i : Nat) :
    (if c then a else b).outp i = if c then a.outp i else b.outp i := apply_ite (State.outp · i) c a b

/-! ### `State.chan` -/

@[simp] theorem State.chan_put_self (i : Nat) (x : _) : (s.putChan i x).chan i = x := tabGet_set_self ..
@[simp] theorem State.chan_put_ne {i j : Nat} (h : i ≠ j) (x : _) : (s.putChan i x).chan j = s.chan j := tabGet_set_ne _ _ h ..
@[simp] theorem State.chan_wr (f : Fld) (v : Nat) (i : Nat) : (s.wr f v).chan i = s.chan i := rfl
@[simp] theorem State.chan_wrb (f : Fld) (v : Bool) (i : Nat) : (s.wrb f v).chan i = s.chan i := rfl
@[simp] theorem State.chan_wri (f : Fld) (v : Int) (i : Nat) : (s.wri f v).chan i = s.chan i := rfl
@[simp] theorem State.chan_bump (f : Fld) (v : Nat) (i : Nat) : (s.bump f v).chan i = s.chan i := rfl
@[simp] theorem State.chan_bumpSat (f : Fld) (v : Nat) (i : Nat) : (s.bumpSat f v).chan i = s.chan i := rfl
@[simp] theorem State.chan_wrs (l : List (Fld × Nat)) (i : Nat) : (s.wrs l).chan i = s.chan i := by simp [State.chan]
@[simp] theorem State.chan_raise (ev inst info : Nat) (i : Nat) : (s.raise ev inst info).chan i = s.chan i := rfl
@[simp] theorem State.chan_level (ev inst : Nat) (on : Bool) (info : Nat) (i : Nat) :
    (s.level ev inst on info).chan i = s.chan i := by simp [State.chan]
@[simp] theorem State.chan_putEngine (k : Nat) (x : _) (i : Nat) : (s.putEngine k x).chan i = s.chan i := rfl
@[simp] theorem State.chan_putHostWords (k : Nat) (x : _) (i : Nat) : (s.putHostWords k x).chan i = s.chan i := rfl
@[simp] theorem State.chan_putSlot (k : Nat) (x : _) (i : Nat) : (s.putSlot k x).chan i = s.chan i := rfl
@[simp] theorem State.chan_putPath (k : Nat) (x : _) (i : Nat) : (s.putPath k x).chan i = s.chan i := rfl
@[simp] theorem State.chan_putTscale (k : Nat) (x : _) (i : Nat) : (s.putTscale k x).chan i = s.chan i := rfl
@[simp] theorem State.chan_putTrig (k : Nat) (x : _) (i : Nat) : (s.putTrig k x).chan i = s.chan i := rfl
@[simp] theorem State.chan_putApll (k : Nat) (x : _) (i : Nat) : (s.putApll k x).chan i = s.chan i := rfl
@[simp] theorem State.chan_putOutp (k : Nat) (x : _) (i : Nat) : (s.putOutp k x).chan i = s.chan i := rfl
@[simp] theorem State.chan_putRole (k : Nat) (x : _) (i : Nat) : (s.putRole k x).chan i = s.chan i := rfl
@[simp] theorem State.chan_putGrp (k : Nat) (x : _) (i : Nat) : (s.putGrp k x).chan i = s.chan i := rfl
@[simp] theorem State.chan_putRing (k : Nat) (x : _) (i : Nat) : (s.putRing k x).chan i = s.chan i := rfl
@[simp] theorem State.chan_putPort (k : Nat) (x : _) (i : Nat) : (s.putPort k x).chan i = s.chan i := rfl
@[simp] theorem State.chan_upd (t : State) (i : Nat)
    (pending' : _) (regs' : _) (now' : _) (up' : _) (timers' : _) (free' : _) (hostRead' : _) (clk' : _) (eng' : _) (words' : _)
    (commons' : _) (out' : _) (inw' : _) (bell' : _) (subst' : _) (image' : _) (flt' : _) (tb' : _) (tbRem' : _)
    (supplyFlag' : _) (slots' : _) (paths' : _) (ts' : _) (tg' : _) (aplls' : _) (outs' : _) (roles' : _)
    (grps' : _) (twin' : _) (rings' : _) (dram' : _) (ports' : _) (hostMem' : _) (parity' : _) (keys' : _)
    (syl' : _) (nor' : _) (jnl' : _) (fuses' : _) (prov' : _) (bist' : _) (host' : _) (wo' : _) (mapTdc' : _)
    (mapApll' : _) (pwr' : _) (jtag' : _) (scan' : _) :
    State.chan (State.mk
      pending' regs' now' up' timers' free' hostRead' clk' eng' words' commons' out' inw' bell' subst' image' flt' tb' tbRem'
      supplyFlag' slots' paths' ts' tg' aplls' outs' t.chans roles' grps' twin' rings' dram' ports' hostMem' parity'
      keys' syl' nor' jnl' fuses' prov' bist' host' wo' mapTdc' mapApll' pwr' jtag' scan') i = t.chan i := (Eq.refl _).trans (Eq.refl _)
@[simp] theorem State.chan_ite (c : Prop) [Decidable c] (a b : State) (i : Nat) :
    (if c then a else b).chan i = if c then a.chan i else b.chan i := apply_ite (State.chan · i) c a b

/-! ### `State.role` -/

@[simp] theorem State.role_put_self (i : Nat) (x : _) : (s.putRole i x).role i = x := tabGet_set_self ..
@[simp] theorem State.role_put_ne {i j : Nat} (h : i ≠ j) (x : _) : (s.putRole i x).role j = s.role j := tabGet_set_ne _ _ h ..
@[simp] theorem State.role_wr (f : Fld) (v : Nat) (i : Nat) : (s.wr f v).role i = s.role i := rfl
@[simp] theorem State.role_wrb (f : Fld) (v : Bool) (i : Nat) : (s.wrb f v).role i = s.role i := rfl
@[simp] theorem State.role_wri (f : Fld) (v : Int) (i : Nat) : (s.wri f v).role i = s.role i := rfl
@[simp] theorem State.role_bump (f : Fld) (v : Nat) (i : Nat) : (s.bump f v).role i = s.role i := rfl
@[simp] theorem State.role_bumpSat (f : Fld) (v : Nat) (i : Nat) : (s.bumpSat f v).role i = s.role i := rfl
@[simp] theorem State.role_wrs (l : List (Fld × Nat)) (i : Nat) : (s.wrs l).role i = s.role i := by simp [State.role]
@[simp] theorem State.role_raise (ev inst info : Nat) (i : Nat) : (s.raise ev inst info).role i = s.role i := rfl
@[simp] theorem State.role_level (ev inst : Nat) (on : Bool) (info : Nat) (i : Nat) :
    (s.level ev inst on info).role i = s.role i := by simp [State.role]
@[simp] theorem State.role_putEngine (k : Nat) (x : _) (i : Nat) : (s.putEngine k x).role i = s.role i := rfl
@[simp] theorem State.role_putHostWords (k : Nat) (x : _) (i : Nat) : (s.putHostWords k x).role i = s.role i := rfl
@[simp] theorem State.role_putSlot (k : Nat) (x : _) (i : Nat) : (s.putSlot k x).role i = s.role i := rfl
@[simp] theorem State.role_putPath (k : Nat) (x : _) (i : Nat) : (s.putPath k x).role i = s.role i := rfl
@[simp] theorem State.role_putTscale (k : Nat) (x : _) (i : Nat) : (s.putTscale k x).role i = s.role i := rfl
@[simp] theorem State.role_putTrig (k : Nat) (x : _) (i : Nat) : (s.putTrig k x).role i = s.role i := rfl
@[simp] theorem State.role_putApll (k : Nat) (x : _) (i : Nat) : (s.putApll k x).role i = s.role i := rfl
@[simp] theorem State.role_putOutp (k : Nat) (x : _) (i : Nat) : (s.putOutp k x).role i = s.role i := rfl
@[simp] theorem State.role_putChan (k : Nat) (x : _) (i : Nat) : (s.putChan k x).role i = s.role i := rfl
@[simp] theorem State.role_putGrp (k : Nat) (x : _) (i : Nat) : (s.putGrp k x).role i = s.role i := rfl
@[simp] theorem State.role_putRing (k : Nat) (x : _) (i : Nat) : (s.putRing k x).role i = s.role i := rfl
@[simp] theorem State.role_putPort (k : Nat) (x : _) (i : Nat) : (s.putPort k x).role i = s.role i := rfl
@[simp] theorem State.role_upd (t : State) (i : Nat)
    (pending' : _) (regs' : _) (now' : _) (up' : _) (timers' : _) (free' : _) (hostRead' : _) (clk' : _) (eng' : _) (words' : _)
    (commons' : _) (out' : _) (inw' : _) (bell' : _) (subst' : _) (image' : _) (flt' : _) (tb' : _) (tbRem' : _)
    (supplyFlag' : _) (slots' : _) (paths' : _) (ts' : _) (tg' : _) (aplls' : _) (outs' : _) (chans' : _)
    (grps' : _) (twin' : _) (rings' : _) (dram' : _) (ports' : _) (hostMem' : _) (parity' : _) (keys' : _)
    (syl' : _) (nor' : _) (jnl' : _) (fuses' : _) (prov' : _) (bist' : _) (host' : _) (wo' : _) (mapTdc' : _)
    (mapApll' : _) (pwr' : _) (jtag' : _) (scan' : _) :
    State.role (State.mk
      pending' regs' now' up' timers' free' hostRead' clk' eng' words' commons' out' inw' bell' subst' image' flt' tb' tbRem'
      supplyFlag' slots' paths' ts' tg' aplls' outs' chans' t.roles grps' twin' rings' dram' ports' hostMem' parity'
      keys' syl' nor' jnl' fuses' prov' bist' host' wo' mapTdc' mapApll' pwr' jtag' scan') i = t.role i := (Eq.refl _).trans (Eq.refl _)
@[simp] theorem State.role_ite (c : Prop) [Decidable c] (a b : State) (i : Nat) :
    (if c then a else b).role i = if c then a.role i else b.role i := apply_ite (State.role · i) c a b

/-! ### `State.grp` -/

@[simp] theorem State.grp_put_self (i : Nat) (x : _) : (s.putGrp i x).grp i = x := tabGet_set_self ..
@[simp] theorem State.grp_put_ne {i j : Nat} (h : i ≠ j) (x : _) : (s.putGrp i x).grp j = s.grp j := tabGet_set_ne _ _ h ..
@[simp] theorem State.grp_wr (f : Fld) (v : Nat) (i : Nat) : (s.wr f v).grp i = s.grp i := rfl
@[simp] theorem State.grp_wrb (f : Fld) (v : Bool) (i : Nat) : (s.wrb f v).grp i = s.grp i := rfl
@[simp] theorem State.grp_wri (f : Fld) (v : Int) (i : Nat) : (s.wri f v).grp i = s.grp i := rfl
@[simp] theorem State.grp_bump (f : Fld) (v : Nat) (i : Nat) : (s.bump f v).grp i = s.grp i := rfl
@[simp] theorem State.grp_bumpSat (f : Fld) (v : Nat) (i : Nat) : (s.bumpSat f v).grp i = s.grp i := rfl
@[simp] theorem State.grp_wrs (l : List (Fld × Nat)) (i : Nat) : (s.wrs l).grp i = s.grp i := by simp [State.grp]
@[simp] theorem State.grp_raise (ev inst info : Nat) (i : Nat) : (s.raise ev inst info).grp i = s.grp i := rfl
@[simp] theorem State.grp_level (ev inst : Nat) (on : Bool) (info : Nat) (i : Nat) :
    (s.level ev inst on info).grp i = s.grp i := by simp [State.grp]
@[simp] theorem State.grp_putEngine (k : Nat) (x : _) (i : Nat) : (s.putEngine k x).grp i = s.grp i := rfl
@[simp] theorem State.grp_putHostWords (k : Nat) (x : _) (i : Nat) : (s.putHostWords k x).grp i = s.grp i := rfl
@[simp] theorem State.grp_putSlot (k : Nat) (x : _) (i : Nat) : (s.putSlot k x).grp i = s.grp i := rfl
@[simp] theorem State.grp_putPath (k : Nat) (x : _) (i : Nat) : (s.putPath k x).grp i = s.grp i := rfl
@[simp] theorem State.grp_putTscale (k : Nat) (x : _) (i : Nat) : (s.putTscale k x).grp i = s.grp i := rfl
@[simp] theorem State.grp_putTrig (k : Nat) (x : _) (i : Nat) : (s.putTrig k x).grp i = s.grp i := rfl
@[simp] theorem State.grp_putApll (k : Nat) (x : _) (i : Nat) : (s.putApll k x).grp i = s.grp i := rfl
@[simp] theorem State.grp_putOutp (k : Nat) (x : _) (i : Nat) : (s.putOutp k x).grp i = s.grp i := rfl
@[simp] theorem State.grp_putChan (k : Nat) (x : _) (i : Nat) : (s.putChan k x).grp i = s.grp i := rfl
@[simp] theorem State.grp_putRole (k : Nat) (x : _) (i : Nat) : (s.putRole k x).grp i = s.grp i := rfl
@[simp] theorem State.grp_putRing (k : Nat) (x : _) (i : Nat) : (s.putRing k x).grp i = s.grp i := rfl
@[simp] theorem State.grp_putPort (k : Nat) (x : _) (i : Nat) : (s.putPort k x).grp i = s.grp i := rfl
@[simp] theorem State.grp_upd (t : State) (i : Nat)
    (pending' : _) (regs' : _) (now' : _) (up' : _) (timers' : _) (free' : _) (hostRead' : _) (clk' : _) (eng' : _) (words' : _)
    (commons' : _) (out' : _) (inw' : _) (bell' : _) (subst' : _) (image' : _) (flt' : _) (tb' : _) (tbRem' : _)
    (supplyFlag' : _) (slots' : _) (paths' : _) (ts' : _) (tg' : _) (aplls' : _) (outs' : _) (chans' : _)
    (roles' : _) (twin' : _) (rings' : _) (dram' : _) (ports' : _) (hostMem' : _) (parity' : _) (keys' : _)
    (syl' : _) (nor' : _) (jnl' : _) (fuses' : _) (prov' : _) (bist' : _) (host' : _) (wo' : _) (mapTdc' : _)
    (mapApll' : _) (pwr' : _) (jtag' : _) (scan' : _) :
    State.grp (State.mk
      pending' regs' now' up' timers' free' hostRead' clk' eng' words' commons' out' inw' bell' subst' image' flt' tb' tbRem'
      supplyFlag' slots' paths' ts' tg' aplls' outs' chans' roles' t.grps twin' rings' dram' ports' hostMem' parity'
      keys' syl' nor' jnl' fuses' prov' bist' host' wo' mapTdc' mapApll' pwr' jtag' scan') i = t.grp i := (Eq.refl _).trans (Eq.refl _)
@[simp] theorem State.grp_ite (c : Prop) [Decidable c] (a b : State) (i : Nat) :
    (if c then a else b).grp i = if c then a.grp i else b.grp i := apply_ite (State.grp · i) c a b

/-! ### `State.ring` -/

@[simp] theorem State.ring_put_self (i : Nat) (x : _) : (s.putRing i x).ring i = x := tabGet_set_self ..
@[simp] theorem State.ring_put_ne {i j : Nat} (h : i ≠ j) (x : _) : (s.putRing i x).ring j = s.ring j := tabGet_set_ne _ _ h ..
@[simp] theorem State.ring_wr (f : Fld) (v : Nat) (i : Nat) : (s.wr f v).ring i = s.ring i := rfl
@[simp] theorem State.ring_wrb (f : Fld) (v : Bool) (i : Nat) : (s.wrb f v).ring i = s.ring i := rfl
@[simp] theorem State.ring_wri (f : Fld) (v : Int) (i : Nat) : (s.wri f v).ring i = s.ring i := rfl
@[simp] theorem State.ring_bump (f : Fld) (v : Nat) (i : Nat) : (s.bump f v).ring i = s.ring i := rfl
@[simp] theorem State.ring_bumpSat (f : Fld) (v : Nat) (i : Nat) : (s.bumpSat f v).ring i = s.ring i := rfl
@[simp] theorem State.ring_wrs (l : List (Fld × Nat)) (i : Nat) : (s.wrs l).ring i = s.ring i := by simp [State.ring]
@[simp] theorem State.ring_raise (ev inst info : Nat) (i : Nat) : (s.raise ev inst info).ring i = s.ring i := rfl
@[simp] theorem State.ring_level (ev inst : Nat) (on : Bool) (info : Nat) (i : Nat) :
    (s.level ev inst on info).ring i = s.ring i := by simp [State.ring]
@[simp] theorem State.ring_putEngine (k : Nat) (x : _) (i : Nat) : (s.putEngine k x).ring i = s.ring i := rfl
@[simp] theorem State.ring_putHostWords (k : Nat) (x : _) (i : Nat) : (s.putHostWords k x).ring i = s.ring i := rfl
@[simp] theorem State.ring_putSlot (k : Nat) (x : _) (i : Nat) : (s.putSlot k x).ring i = s.ring i := rfl
@[simp] theorem State.ring_putPath (k : Nat) (x : _) (i : Nat) : (s.putPath k x).ring i = s.ring i := rfl
@[simp] theorem State.ring_putTscale (k : Nat) (x : _) (i : Nat) : (s.putTscale k x).ring i = s.ring i := rfl
@[simp] theorem State.ring_putTrig (k : Nat) (x : _) (i : Nat) : (s.putTrig k x).ring i = s.ring i := rfl
@[simp] theorem State.ring_putApll (k : Nat) (x : _) (i : Nat) : (s.putApll k x).ring i = s.ring i := rfl
@[simp] theorem State.ring_putOutp (k : Nat) (x : _) (i : Nat) : (s.putOutp k x).ring i = s.ring i := rfl
@[simp] theorem State.ring_putChan (k : Nat) (x : _) (i : Nat) : (s.putChan k x).ring i = s.ring i := rfl
@[simp] theorem State.ring_putRole (k : Nat) (x : _) (i : Nat) : (s.putRole k x).ring i = s.ring i := rfl
@[simp] theorem State.ring_putGrp (k : Nat) (x : _) (i : Nat) : (s.putGrp k x).ring i = s.ring i := rfl
@[simp] theorem State.ring_putPort (k : Nat) (x : _) (i : Nat) : (s.putPort k x).ring i = s.ring i := rfl
@[simp] theorem State.ring_upd (t : State) (i : Nat)
    (pending' : _) (regs' : _) (now' : _) (up' : _) (timers' : _) (free' : _) (hostRead' : _) (clk' : _) (eng' : _) (words' : _)
    (commons' : _) (out' : _) (inw' : _) (bell' : _) (subst' : _) (image' : _) (flt' : _) (tb' : _) (tbRem' : _)
    (supplyFlag' : _) (slots' : _) (paths' : _) (ts' : _) (tg' : _) (aplls' : _) (outs' : _) (chans' : _)
    (roles' : _) (grps' : _) (twin' : _) (dram' : _) (ports' : _) (hostMem' : _) (parity' : _) (keys' : _)
    (syl' : _) (nor' : _) (jnl' : _) (fuses' : _) (prov' : _) (bist' : _) (host' : _) (wo' : _) (mapTdc' : _)
    (mapApll' : _) (pwr' : _) (jtag' : _) (scan' : _) :
    State.ring (State.mk
      pending' regs' now' up' timers' free' hostRead' clk' eng' words' commons' out' inw' bell' subst' image' flt' tb' tbRem'
      supplyFlag' slots' paths' ts' tg' aplls' outs' chans' roles' grps' twin' t.rings dram' ports' hostMem' parity'
      keys' syl' nor' jnl' fuses' prov' bist' host' wo' mapTdc' mapApll' pwr' jtag' scan') i = t.ring i := (Eq.refl _).trans (Eq.refl _)
@[simp] theorem State.ring_ite (c : Prop) [Decidable c] (a b : State) (i : Nat) :
    (if c then a else b).ring i = if c then a.ring i else b.ring i := apply_ite (State.ring · i) c a b

/-! ### `State.port` -/

@[simp] theorem State.port_put_self (i : Nat) (x : _) : (s.putPort i x).port i = x := tabGet_set_self ..
@[simp] theorem State.port_put_ne {i j : Nat} (h : i ≠ j) (x : _) : (s.putPort i x).port j = s.port j := tabGet_set_ne _ _ h ..
@[simp] theorem State.port_wr (f : Fld) (v : Nat) (i : Nat) : (s.wr f v).port i = s.port i := rfl
@[simp] theorem State.port_wrb (f : Fld) (v : Bool) (i : Nat) : (s.wrb f v).port i = s.port i := rfl
@[simp] theorem State.port_wri (f : Fld) (v : Int) (i : Nat) : (s.wri f v).port i = s.port i := rfl
@[simp] theorem State.port_bump (f : Fld) (v : Nat) (i : Nat) : (s.bump f v).port i = s.port i := rfl
@[simp] theorem State.port_bumpSat (f : Fld) (v : Nat) (i : Nat) : (s.bumpSat f v).port i = s.port i := rfl
@[simp] theorem State.port_wrs (l : List (Fld × Nat)) (i : Nat) : (s.wrs l).port i = s.port i := by simp [State.port]
@[simp] theorem State.port_raise (ev inst info : Nat) (i : Nat) : (s.raise ev inst info).port i = s.port i := rfl
@[simp] theorem State.port_level (ev inst : Nat) (on : Bool) (info : Nat) (i : Nat) :
    (s.level ev inst on info).port i = s.port i := by simp [State.port]
@[simp] theorem State.port_putEngine (k : Nat) (x : _) (i : Nat) : (s.putEngine k x).port i = s.port i := rfl
@[simp] theorem State.port_putHostWords (k : Nat) (x : _) (i : Nat) : (s.putHostWords k x).port i = s.port i := rfl
@[simp] theorem State.port_putSlot (k : Nat) (x : _) (i : Nat) : (s.putSlot k x).port i = s.port i := rfl
@[simp] theorem State.port_putPath (k : Nat) (x : _) (i : Nat) : (s.putPath k x).port i = s.port i := rfl
@[simp] theorem State.port_putTscale (k : Nat) (x : _) (i : Nat) : (s.putTscale k x).port i = s.port i := rfl
@[simp] theorem State.port_putTrig (k : Nat) (x : _) (i : Nat) : (s.putTrig k x).port i = s.port i := rfl
@[simp] theorem State.port_putApll (k : Nat) (x : _) (i : Nat) : (s.putApll k x).port i = s.port i := rfl
@[simp] theorem State.port_putOutp (k : Nat) (x : _) (i : Nat) : (s.putOutp k x).port i = s.port i := rfl
@[simp] theorem State.port_putChan (k : Nat) (x : _) (i : Nat) : (s.putChan k x).port i = s.port i := rfl
@[simp] theorem State.port_putRole (k : Nat) (x : _) (i : Nat) : (s.putRole k x).port i = s.port i := rfl
@[simp] theorem State.port_putGrp (k : Nat) (x : _) (i : Nat) : (s.putGrp k x).port i = s.port i := rfl
@[simp] theorem State.port_putRing (k : Nat) (x : _) (i : Nat) : (s.putRing k x).port i = s.port i := rfl
@[simp] theorem State.port_upd (t : State) (i : Nat)
    (pending' : _) (regs' : _) (now' : _) (up' : _) (timers' : _) (free' : _) (hostRead' : _) (clk' : _) (eng' : _) (words' : _)
    (commons' : _) (out' : _) (inw' : _) (bell' : _) (subst' : _) (image' : _) (flt' : _) (tb' : _) (tbRem' : _)
    (supplyFlag' : _) (slots' : _) (paths' : _) (ts' : _) (tg' : _) (aplls' : _) (outs' : _) (chans' : _)
    (roles' : _) (grps' : _) (twin' : _) (rings' : _) (dram' : _) (hostMem' : _) (parity' : _) (keys' : _)
    (syl' : _) (nor' : _) (jnl' : _) (fuses' : _) (prov' : _) (bist' : _) (host' : _) (wo' : _) (mapTdc' : _)
    (mapApll' : _) (pwr' : _) (jtag' : _) (scan' : _) :
    State.port (State.mk
      pending' regs' now' up' timers' free' hostRead' clk' eng' words' commons' out' inw' bell' subst' image' flt' tb' tbRem'
      supplyFlag' slots' paths' ts' tg' aplls' outs' chans' roles' grps' twin' rings' dram' t.ports hostMem' parity'
      keys' syl' nor' jnl' fuses' prov' bist' host' wo' mapTdc' mapApll' pwr' jtag' scan') i = t.port i := (Eq.refl _).trans (Eq.refl _)
@[simp] theorem State.port_ite (c : Prop) [Decidable c] (a b : State) (i : Nat) :
    (if c then a else b).port i = if c then a.port i else b.port i := apply_ite (State.port · i) c a b

end Sys2Proof.Machine
end

