-- ==== Sys2Proof/Laws/Engine.lean ====
section
/-! SUPPORT. The course of an engine instruction: what the fetch, the WCET check and going on leave. -/
namespace Sys2Proof.Machine

theorem engEccCorrected_engine (e k : Nat) (d : Bool) (s : State) : (engEccCorrected e d s).engine k = s.engine k := rfl

/-- The state after the fetch of a row: a single-bit error is recorded. -/
theorem fetched_engine (e k : Nat) (f : Ecc) (s : State) :
    (if f = .single then engEccCorrected e false s else s).engine k = s.engine k := by split <;> rfl

/-- An engine that stays inside its memory does not run past its end. -/
theorem pastEnd_inside (x : Eng) (dst : Nat) (h : x.nextPc dst ≤ 8191) : x.pastEnd dst = false := by
  unfold Eng.pastEnd; exact decide_eq_false (by unfold Eng.nextPc at h; omega)

/-- An engine that would fetch beyond index 8,191 runs past its memory's end (R511). -/
theorem pastEnd_beyond (x : Eng) (dst : Nat) (h : 8191 < x.nextPc dst) : x.pastEnd dst = true := by
  unfold Eng.pastEnd; exact decide_eq_true (by unfold Eng.nextPc at h; omega)

/-- What going on leaves in the engine. -/
theorem engGoOn_eq (e cost : Nat) (s : State) (x : Eng) (dst : Nat) :
    engGoOn e cost s x dst = s.putEngine e (x.goesOn cost dst) := rfl

/-- An executing engine does what its body says. -/
theorem engRow_executes (e : Nat) (f : Ecc) (cost : Nat) (body : State → Eng → Res) (s : State) (hf : f ≠ .double)
    (hx : s.executes e cost) :
    engRow e f cost body s = .next (
      let s := if f = .single then engEccCorrected e false s else s
      match body s (s.engine e) with
      | .trap c code => engTraps e ((s.engine e).entry ((s.engine e).lesson.getD ⟨0, 0⟩).idx).wcet ((s.engine e).lesson.getD ⟨0, 0⟩) c code (s.engine e).pc s
      | .unc t idx => engEccStop e true idx t
      | .next t y => if y.pastEnd ((s.engine e).pc + 1)
          then engTraps e ((s.engine e).entry ((s.engine e).lesson.getD ⟨0, 0⟩).idx).wcet ((s.engine e).lesson.getD ⟨0, 0⟩) .illegal 0 8191 s
          else engGoOn e cost t y ((s.engine e).pc + 1)
      | .jump t y dst => if y.pastEnd dst
          then engTraps e ((s.engine e).entry ((s.engine e).lesson.getD ⟨0, 0⟩).idx).wcet ((s.engine e).lesson.getD ⟨0, 0⟩) .illegal 0 8191 s
          else engGoOn e cost t y dst
      | .done t y => dispatchNext e (t.putEngine e { y with cycles := y.cycles + cost, busy := y.cycles + cost })) := by
  obtain ⟨hh, l, hl, hw⟩ := hx
  have hw' : ¬ ((s.engine e).entry l.idx).wcet < l.cyc + cost := by omega
  unfold engRow engRun
  simp only [hh, hl, if_neg hf, fetched_engine, Bool.false_eq_true, if_false]
  congr 1
  split <;> simp_all [Nat.not_lt.mpr hw]

/-- A body that goes on. -/
theorem engRow_next (e : Nat) (f : Ecc) (cost : Nat) (body : State → Eng → Res) (s u : State) (y : Eng) (hf : f ≠ .double)
    (hx : s.executes e cost)
    (hb : body (if f = .single then engEccCorrected e false s else s) (s.engine e) = .next u y)
    (hp : y.nextPc ((s.engine e).pc + 1) ≤ 8191) :
    engRow e f cost body s = .next (u.putEngine e (y.goesOn cost ((s.engine e).pc + 1))) := by
  rw [engRow_executes e f cost body s hf hx]
  simp only [fetched_engine, hb, pastEnd_inside _ _ hp, Bool.false_eq_true, if_false, engGoOn_eq]

/-- The hazard check passes where no register is pending or poisoned. -/
theorem hazards_none (reads writes : List Nat) (k : State → Eng → Res) (s : State) (x : Eng)
    (h : x.hazard reads writes = none) : hazards reads writes k s x = k s x := by
  unfold hazards; rw [h]

/-- What R45 notes leaves every engine's record as it was. -/
theorem eccNoted_engine (e k : Nat) (f : Ecc) (ds : List Ecc) (s : State) :
    (s.eccNoted e f ds).engine k = s.engine k := by
  unfold State.eccNoted
  generalize hu : (if f = .single then engEccCorrected e false s else s) = u
  have h : u.engine k = s.engine k := hu ▸ fetched_engine e k f s
  clear hu
  induction ds generalizing u with
  | nil => exact h
  | cons d ds ih => exact ih _ (by dsimp only; split <;> exact h)

/-- A body that goes on at another index. -/
theorem engRow_jump (e : Nat) (f : Ecc) (cost : Nat) (body : State → Eng → Res) (s u : State) (y : Eng) (dst : Nat)
    (hf : f ≠ .double) (hx : s.executes e cost)
    (hb : body (if f = .single then engEccCorrected e false s else s) (s.engine e) = .jump u y dst)
    (hp : y.nextPc dst ≤ 8191) :
    engRow e f cost body s = .next (u.putEngine e (y.goesOn cost dst)) := by
  rw [engRow_executes e f cost body s hf hx]
  simp only [fetched_engine, hb, pastEnd_inside _ _ hp, Bool.false_eq_true, if_false, engGoOn_eq]

/-- A row whose body goes on under its hazard check executes. -/
theorem engineRow_of (i : Instr) (e : Nat) (f : Ecc) (cost : Nat) (reads writes : List Nat) (s : State) (y : Eng → Eng)
    (ds : List Ecc) (body : State → Eng → Res) (hi : exec i s = engRow e f cost body s)
    (hb : ∀ u : State, (s.engine e).hazard reads writes = none → .double ∉ ds →
      body u (s.engine e) = .next (u.eccNoted e .ok ds) (y (s.engine e))) :
    engineRow i e f cost reads writes s y ds := by
  intro hf hd hx hh hp
  refine ⟨_, hi.trans (engRow_next e f cost body s _ _ hf hx (hb _ hh hd) hp), ?_, ?_⟩
  · exact State.engine_put_self ..
  · unfold State.onlyEngine; rw [State.engine_put_self]; rfl

/-- A row whose body jumps under its hazard check executes. -/
theorem engineRow_jump_of (i : Instr) (e : Nat) (f : Ecc) (cost : Nat) (reads writes : List Nat) (s : State) (y : Eng → Eng)
    (dst : Eng → Nat) (body : State → Eng → Res) (hi : exec i s = engRow e f cost body s)
    (hb : ∀ u, (s.engine e).hazard reads writes = none → body u (s.engine e) = .jump u (y (s.engine e)) (dst (s.engine e))) :
    engineRow i e f cost reads writes s y [] dst := by
  intro hf _ hx hh hp
  refine ⟨_, hi.trans (engRow_jump e f cost body s _ _ _ hf hx (hb _ hh) hp), ?_, ?_⟩
  · exact State.engine_put_self ..
  · unfold State.onlyEngine; rw [State.engine_put_self]; rfl

/-- Without a data read only the fetch is noted. -/
theorem eccNoted_eq (e : Nat) (f : Ecc) (s : State) : s.eccNoted e f [] = if f = .single then engEccCorrected e false s else s := rfl
/-- What R45 notes leaves the queue and the memories. -/
theorem eccNoted_store (e : Nat) (f : Ecc) (ds : List Ecc) (s : State) : (s.eccNoted e f ds).store = s.store := by
  unfold State.eccNoted
  generalize hu : (if f = .single then engEccCorrected e false s else s) = u
  have h : u.store = s.store := by rw [← hu]; split <;> simp
  clear hu
  induction ds generalizing u with
  | nil => exact h
  | cons d ds ih => exact ih _ (by dsimp only; split <;> simp [h])
/-- What R45 notes leaves the bell. -/
theorem eccNoted_bell (e : Nat) (f : Ecc) (ds : List Ecc) (s : State) : (s.eccNoted e f ds).bell = s.bell := by
  unfold State.eccNoted
  generalize hu : (if f = .single then engEccCorrected e false s else s) = u
  have h : u.bell = s.bell := by rw [← hu]; split <;> rfl
  clear hu
  induction ds generalizing u with
  | nil => exact h
  | cons d ds ih => exact ih _ (by dsimp only; split <;> exact h)
/-- What R45 notes of a fetch leaves every other register field. -/
theorem eccNoted_rd (e : Nat) (f : Ecc) (s : State) (g : Fld) (h1 : (Reg.ENG_ECC_CORR_I e).key ≠ g.key) : (s.eccNoted e f []).rd g = s.rd g := by
  rw [eccNoted_eq]; split
  · simp only [engEccCorrected, State.rd_raise, Bool.false_eq_true, if_false]
    exact State.rd_bumpSat_ne _ h1 _
  · rfl

/-- An instruction after which the engine would fetch beyond index 8,191 is not carried out, and traps with PC 8,191 (R511). -/
theorem engRow_past (e : Nat) (f : Ecc) (cost : Nat) (body : State → Eng → Res) (s u : State) (y : Eng) (hf : f ≠ .double)
    (hx : s.executes e cost) (hc : 1 ≤ cost)
    (hb : body (if f = .single then engEccCorrected e false s else s) (s.engine e) = .next u y)
    (hp : 8191 < y.nextPc ((s.engine e).pc + 1)) :
    engRow e f cost body s = .next (engTrap e .illegal 0 8191 (s.eccNoted e f [])) := by
  rw [engRow_executes e f cost body s hf hx]
  obtain ⟨_, l, hl, hw⟩ := hx
  simp only [fetched_engine, hb, pastEnd_beyond _ _ hp, if_true, engTraps, hl, Option.getD_some, eccNoted_eq]
  rw [if_neg (by omega)]

/-- A trap does what R70 says. -/
theorem engTrap_trapped (e : Nat) (c : Cause) (code pc : Nat) (s : State) (hc : code < 256)  :
   s.trapped e c.code code pc (engTrap e c code pc s) := by
  have key : ∀ u : State, (∀ f, (dispatchNext e u).rd f = if f.key = (Reg.ENG_LESSON_INDEX e).key then (dispatchNext e u).rd f else u.rd f) := by
    intro u f
    split
    · rfl
    · next h =>
      unfold dispatchNext
      dsimp only
      split
      · split
        · exact (State.rd_wr_ne _ (fun h' => h h'.symm) _)
        · rfl
      · split <;> rfl
  unfold State.trapped engTrap
  dsimp only
  refine ⟨?_, ?_, ?_, ?_, ?_, ?_, ?_, ?_⟩
  · rw [key, if_neg (by simp; omega)]; simp (disch := first | (simp; done) | (simp; omega)); cases c <;> decide
  · rw [key, if_neg (by simp; omega)]; simp (disch := first | (simp; done) | (simp; omega)); try omega
  · rw [key, if_neg (by simp)]; simp (disch := first | (simp; done) | (simp; omega))
  · rw [key, if_neg (by simp; omega)]; simp (disch := first | (simp; done) | (simp; omega))
  · unfold dispatchNext; dsimp only; repeat' split
    all_goals simp [State.raise]
  · unfold dispatchNext; dsimp only; repeat' split
    all_goals simp [Eng.abandoned, Eng.start]
  · intro hd; unfold dispatchNext; simp [hd, Eng.abandoned]; split <;> simp
  · intro k hk; unfold dispatchNext; simp; split
    · split <;> simp [Ne.symm hk]
    · split <;> simp [Ne.symm hk]

end Sys2Proof.Machine
end

