-- ==== Sys2Proof/Laws/Host.lean ====
section
/-! SUPPORT. Host accesses that reach their register. -/
namespace Sys2Proof.Machine

theorem parityClear_clean (a : Nat) (s : State) (h : s.mismatched a = false) : parityClear a s = s := by
  unfold parityClear; rw [h]; rfl

/-- A write that reaches a register without a mismatch has its effect, and what follows configuration follows. -/
theorem hostCmd_open (a : Nat) (f : State → Out) (s t : State) (h : s.hostOpen a) (hs : slotAddr a = false)
    (hf : f s = .next t) : hostCmd a f s = .next (followConfig a t) := by
  obtain ⟨h1, h2, h3⟩ := h
  unfold hostCmd withWrite
  simp only [h1, h2, hs, parityClear_clean a s h3, Bool.not_true, Bool.false_eq_true, if_false, if_true, hf]

/-- Registers outside the slots and the synthesis blocks have nothing that follows them. -/
theorem followConfig_plain (a : Nat) (t : State) (h1 : ¬ (0x10000 ≤ a ∧ a < 0x20000)) (h2 : ¬ (0x24000 ≤ a ∧ a < 0x28000)) :
    followConfig a t = t := by
  unfold followConfig
  rw [if_neg (by omega)]

/-- A write that reaches such a register has its effect alone. -/
theorem hostCmd_plain (a : Nat) (f : State → Out) (s t : State) (h : s.hostOpen a) (h1 : ¬ (0x10000 ≤ a ∧ a < 0x20000))
    (h2 : ¬ (0x24000 ≤ a ∧ a < 0x28000)) (hf : f s = .next t) :
    hostCmd a f s = .next t := by
  rw [hostCmd_open a f s t h (by unfold slotAddr; exact decide_eq_false (by omega)) hf, followConfig_plain a t h1 h2]

end Sys2Proof.Machine
end

