-- ==== Sys2Proof/Tests/Slice0.lean ====
section
/-! SUPPORT. Tests of the model: ill-formed commands, worked values of the spec, and states that meet the hypotheses of the
statements. -/
namespace Sys2Proof.Tests
open Sys2Proof Sys2Proof.Machine
set_option maxRecDepth 8000
set_option Elab.async false
set_option linter.unreachableTactic false
set_option linter.unusedTactic false

/-! ### Commands that cannot occur -/

/-- A command word with all fields 0. -/
def cw : CmdWord := ⟨0, 0, 0, 0⟩
/-- A section with one timetable entry. -/
def section1 (t : TTEntry) : EngSection := { tt := [(0, t)] }
/-- An image set whose first section is `x`. -/
def images (x : EngSection) : ImageSet := ⟨x :: List.replicate 15 {}, false, false, []⟩

theorem test_wf_image_set :
    Instr.wf (.loadComplete (images {}) (images {})) = true ∧
    Instr.wf (.loadComplete ⟨[], false, false, []⟩ (images {})) = false ∧
    Instr.wf (.loadComplete (images (section1 { k := 11 })) (images {})) = false ∧
    Instr.wf (.loadComplete (images (section1 { phase := 1 })) (images {})) = false ∧
    Instr.wf (.loadComplete (images (section1 { pc := 8192 })) (images {})) = false ∧
    Instr.wf (.loadComplete (images { tt := [(64, {})] }) (images {})) = false ∧
    Instr.wf (.loadComplete (images { tt := [(0, {}), (0, {})] }) (images {})) = false ∧
    Instr.wf (.loadComplete (images { imem := [(8192, 0)] }) (images {})) = false ∧
    Instr.wf (.loadComplete (images { imem := [(1, 0), (1, 0)] }) (images {})) = false ∧
    Instr.wf (.loadComplete (images { dmem := [(2048, 0)] }) (images {})) = false ∧
    Instr.wf (.loadComplete (images { dmem := [(1, 0), (1, 0)] }) (images {})) = false ∧
    Instr.wf (.loadComplete (images { bind := [1024] }) (images {})) = false ∧
    Instr.wf (.loadComplete (images { bind := [0x200, 0x200] }) (images {})) = false := by decide +kernel

theorem test_wf_frames :
    Instr.wf (.markerSend 152588) = false ∧ Instr.wf (.markerSend 152587) = true ∧
    Instr.wf (.calComplete 0 (List.replicate 511 0)) = false ∧ Instr.wf (.calComplete 0 (List.replicate 512 0)) = true ∧
    Instr.wf (.bistComplete (.tdc [] 0 0)) = false ∧
    Instr.wf (.txDescriptorCheck 0 0 ⟨List.replicate 31 0, []⟩) = false ∧
    Instr.wf (.txDescriptorCheck 0 0 ⟨List.replicate 32 0, []⟩) = true := by decide +kernel

theorem test_wf_accesses :
    Instr.wf (.registerWrite 2 0) = false ∧ Instr.wf (.registerWrite 4 0) = true ∧ Instr.wf (.pairLoRead 6) = false ∧
    Instr.wf (.bar2Read 4 false .ok) = false ∧ Instr.wf (.bar2Read 4 true .ok) = true ∧
    Instr.wf (.spiRead 0 ⟨1, some 2⟩) = false ∧ Instr.wf (.spiWrite 0 [0] false [1]) = false ∧
    Instr.wf (.i2cRead 0 0) = false ∧ Instr.wf (.i2cCurrentRead 0) = false ∧ Instr.wf (.pcieRead 0 0) = false ∧
    Instr.wf (.pcieRead 0x1FFFC 2) = false ∧ Instr.wf (.pcieRead 0x1FFFC 1) = true ∧ Instr.wf (.pcieWrite 0 []) = false ∧
    Instr.wf (.islandClockStop 25) = false ∧ Instr.wf (.islandClockStop 26) = true ∧
    Instr.wf (.illegalInstruction 0 .ok 0x40032000) = false ∧
    Instr.wf (.illegalInstruction 0 .ok 0xFFFFFFFF) = true := by decide +kernel

/-! ### Worked values of the spec -/

/-- Words of R56 to R58, written out bit by bit; the first is the spec's own. -/
theorem test_decode_words :
    decodeEngine 3 .ok .ok .ok 0b010000_0_00_00_00011_00100_00000000000#32 = some (.eMul 3 .ok 0 3 4) ∧
    decodeEngine 3 .ok .ok .ok 0b000000_00001_00010_00011_00000_000000#32 = some (.eAdd 3 .ok 1 2 3) ∧
    decodeEngine 3 .ok .ok .ok 0b000000_00001_00010_00011_00001_000000#32 = some (.eSub 3 .ok 1 2 3) ∧
    decodeEngine 3 .ok .ok .ok 0b001100_00101_00000_1111111111111111#32 = some (.eLdi 3 .ok 5 0xFFFF) ∧
    decodeEngine 3 .ok .ok .ok 0b100000_00110_00111_0000000000001000#32 = some (.eLd 3 .ok 6 7 8 .ok) ∧
    decodeEngine 3 .ok .ok .ok 0b110001_00000000000000000000000000#32 = some (.eEnd 3 .ok) ∧
    decodeEngine 3 .ok .ok .ok 0b000000_00001_00010_00011_00000_000001#32 = none := by decide +kernel

/-- A state in which engine `e` executes the lesson of its entry 0 at index 5. -/
def inLesson (e : Nat) (x : Eng) : State :=
  { State.reset with eng := [(e, { x with lesson := some ⟨0, 4⟩, tt := [(0, { wcet := 400 }), (4, { wcet := 100, pc := 77 })], pc := 5, run := true })] }
/-- A running device: both PLLs locked and TIME on TB. -/
def up : State := { State.reset with up := 10 ^ 13, clk := { tb := .locked, sys := .locked, time := .tb, xoFreq := 50000000 } }
def with1 (s : State) (l : List (Fld × Nat)) : State := s.wrs l
def syl (e : Nat) (l : Syllabus) : State := { up with image := { up.image with standard := true }, eng := [(e, { run := true })], syl := l, bell := { up.bell with number := 100000 } }
def rich : State := { with1 up [(Reg.ENG_CTRL_ENABLE 3, 1), (Reg.SLOT_CFG_PPS 3, 1), (Reg.RST_COUNT_PIN, 4), (Reg.RST_COUNT_SOFT, 4), (Reg.EVR_STATUS_READY, 1)] with
  eng := [(3, { pc := 4, run := true }), (16, {pc := 3})], words := [(3, { hin := [(1, 6)] })], commons := [(0x18000, 9)], out := [(0x200, 9)], inw := [(5, 4)],
  slots := [(3, { active := true }), (20, { active := true })], paths := [(2, { remain := 4 })], ts := [(1, { val := 99 })], tg := [(4, { active := true })], aplls := [(1, {applied := true})], outs := [(3, { shown := 2 })],
  chans := [(3, { added := 4 })], roles := [(3, { pileup := true })], grps := [(3, { lostPos := 4 })], twin := { heard := true }, rings := [(3, { run := true })], dram := { mem := [(4, 4)], errs := [(3, [1])], due := [3] }, ports := [(1, { rate := 4 })], hostMem := [(4, 4)],
  keys := [(3, [1,2])], syl := { pass := 4 }, nor := [(5, 5)], fuses := { cust0 := 7 }, image := { standard := true, period := 400 }, subst := { phase := .serving, eng := 3 }, flt := { life := [(4, 5)], cond := [(20, 3)], src := [(4, { cls := 1 })] }, wo := [7], jtag := 5 }
/-- With only port 1 touched, and no queue of it, no frame waits. -/
theorem idle_ports (s : State) (h : s.ports = [(1, { rate := 4 })]) (k : Nat) : (s.port k).rx = [] := by
  show (tabGet {} k s.ports).rx = []
  rw [h]; simp only [tabGet]; split <;> rfl
/-- An optional value that a check accepts is there. -/
theorem some_of {α : Type} {o : Option α} {P : α → Prop} [DecidablePred P] (h : o.any (fun x => decide (P x)) = true) :
    ∃ x, o = some x ∧ P x := by
  cases o with
  | none => simp at h
  | some x => exact ⟨x, rfl, by simpa using h⟩
/-! ### Worked values of the spec, on states -/

/-- Engine 3 in a lesson with the registers `g` and the accumulators `a`. -/
def regs (g : Tab Word64) (a : Tab Acc) : State := inLesson 3 { g := g, a := a }
/-- Engine 3 after an instruction. -/
def after (o : Host.Outcome State Fault Refusal) : Eng := match o with | .next t => t.engine 3 | _ => {}
/-- A register field after a command. -/
def field (o : Host.Outcome State Fault Refusal) (f : Fld) : Nat := match o with | .next t => t.rd f | _ => 0

/-- R62: the three edges of DIV, and a quotient truncated toward zero. -/
theorem test_div :
    ((after (exec (.eDiv 3 .ok 1 2 3) (regs [(2, 5)] []))).reg 1 = 0x7FFFFFFFFFFFFFFF) ∧
    ((after (exec (.eDiv 3 .ok 1 2 3) (regs [(2, -5)] []))).reg 1 = 0x8000000000000000) ∧
    ((after (exec (.eDiv 3 .ok 1 2 3) (regs [(2, 0x8000000000000000), (3, -1)] []))).reg 1 = 0x7FFFFFFFFFFFFFFF) ∧
    ((after (exec (.eDiv 3 .ok 1 2 3) (regs [(2, -7), (3, 2)] []))).reg 1 = -3) := by decide +kernel

/-- R61: AEX rounds half up. -/
theorem test_aex :
    (after (exec (.eAex 3 .ok 1 0 1) (regs [] [(0, 5)]))).reg 1 = 3 ∧
    (after (exec (.eAex 3 .ok 1 0 1) (regs [] [(0, -5)]))).reg 1 = -2 := by decide +kernel

/-- R45, R63: a range violation is seen before a misalignment. -/
theorem test_data_memory_range : field (exec (.eLd 3 .ok 1 2 1 .ok) (regs [(2, 0x4000)] [])) (Reg.ENG_TRAP_CAUSE 3) = 4 ∧
    field (exec (.eLd 3 .ok 1 2 1 .ok) (regs [(2, 0x3000)] [])) (Reg.ENG_TRAP_CAUSE 3) = 3 := by decide +kernel

/-- The worked reaction of chapter 14: SRC25_CFG takes 0x00C1_C492. -/
theorem test_worked_reaction :
    field (exec (.registerWrite 0x3064 0x00C1C492) up) (Reg.FLT_SRC_CFG_CLASS 25) = 1 ∧
    field (exec (.registerWrite 0x3064 0x00C1C492) up) (Reg.FLT_SRC_CFG_GRACE_M 25) = 2 ∧
    field (exec (.registerWrite 0x3064 0x00C1C492) up) (Reg.FLT_SRC_CFG_GRACE_E 25) = 2 ∧
    field (exec (.registerWrite 0x3064 0x00C1C492) up) (Reg.FLT_SRC_CFG_RECESS_M 25) = 1 ∧
    field (exec (.registerWrite 0x3064 0x00C1C492) up) (Reg.FLT_SRC_CFG_RECESS_E 25) = 3 ∧
    field (exec (.registerWrite 0x3064 0x00C1C492) up) (Reg.FLT_SRC_CFG_SELF 25) = 1 := by decide +kernel

/-- The second frame of the worked burst of chapter 15: IXA0 takes 0x1_0528. -/
theorem test_worked_burst :
    field (exec (.spiWrite 0x8000 [0x00010528] false []) { up with host := { up.host with ready := true } }) (Reg.IX_A_ADDR 0)
      = 0x10528 / 4 := by decide +kernel

/-- The worked plan of chapter 7: SET_ZD of P0 naming OUT0 is 0x1601_0000_0000_0000, and A0 reaches 12.5 GHz. -/
theorem test_worked_plan : cmdWord ⟨1, 0, 0, 0⟩ 0x16 = 0x1601000000000000 := by decide +kernel

/-- The worked exchange of chapter 12: twice the mean path delay of 1,199.875 ns and the offset +49.875 ns. -/
theorem test_worked_exchange :
    exchange ⟨1000500000000 * 65536, 1000500001250 * 65536 + 0x4000, 1000500200000 * 65536, 1000500201150 * 65536, 0x8000, 0, 0, 6⟩
      0 = (157270016, 3268608) := by decide +kernel

/-- R415: the host's I2C port answers after the straps are sampled; R468 and R463: a programmed fuse bit stays. -/
theorem test_fuse_program :
    (match exec (.fuseProgramComplete true) { up with fuses := { revoke := 1, busy := some (3, 4) } } with
      | .next t => t.fuses.revoke | _ => 0) = 5 := by decide +kernel

/-- Assumption 2: a tick of TIME adds 2.0 ns to TB time. -/
theorem test_tick : (match step up with | .next t => t.tb | _ => 0) = 2048 := by decide +kernel

/-- A bell counts (R38), and latches the host words. -/
theorem test_bell : (match exec .bell { up with words := [(2, { hin := [(1, 9)] })] } with
      | .next t => (t.bell.number, (t.hostWords 2).latched) | _ => (0, [])) = (1, [(1, 9)]) := by decide +kernel

/-! ### States that meet the hypotheses of the statements -/

/-- An engine executes where this check says so. -/
theorem executes_of (s : State) (e cost : Nat) (h : (!s.engHalted e && match (s.engine e).lesson with
      | some l => decide (l.cyc + cost ≤ ((s.engine e).entry l.idx).wcet) | none => false) = true) : s.executes e cost := by
  simp only [Bool.and_eq_true, Bool.not_eq_true'] at h
  refine ⟨h.1, ?_⟩
  cases hl : (s.engine e).lesson with
  | none => simp [hl] at h
  | some l => exact ⟨l, rfl, by simpa [hl] using h.2⟩

/-! #### alu two registers -/
def x1_g1 := inLesson 3 { g := [(2, 7), (3, -2)] }
def x1_g2 := inLesson 3 { g := [(2, 0x8000000000000000), (3, -1)] }
def w1_0 : State := x1_g1

theorem witness_alu_two_registers :
    (Ecc.double ∉ []) ∧
    (w1_0.executes 3 1) ∧
    ((w1_0.engine 3).hazard [2, 3] [1] = none) ∧
    ((w1_0.engine 3).nextPc ((w1_0.engine 3).pc + 1) ≤ 8191) := by
  and_intros
  all_goals first
    | decide +kernel
    | exact some_of (by decide +kernel)

/-! #### alu immediate -/
def x2_g1 := inLesson 3 { g := [(2, 7), (3, -2)], z := true }
def x2_g2 := inLesson 3 { g := [(2, 0x8000000000000000), (3, -1)] , n := true}
def w2_0 : State := x2_g1

theorem witness_alu_immediate :
    (Ecc.double ∉ []) ∧
    (w2_0.executes 3 1) ∧
    ((w2_0.engine 3).hazard [2] [1] = none) ∧
    ((w2_0.engine 3).nextPc ((w2_0.engine 3).pc + 1) ≤ 8191) ∧
    ((w2_0.engine 3).hazard [2, 3] [] = none) ∧
    ((w2_0.engine 3).hazard [2] [] = none) ∧
    ((w2_0.engine 3).hazard [] [1] = none) ∧
    ((w2_0.engine 3).hazard [1] [1] = none) ∧
    (condHolds (w2_0.engine 3) 0 = some true) ∧
    ((w2_0.engine 3).hazard [2, 3] [1] = none) := by
  and_intros
  all_goals first
    | decide +kernel
    | exact some_of (by decide +kernel)

/-! #### accumulators -/
def x3_g1 := inLesson 3 { g := [(2, 7), (3, -2)], z := true, a := [(1, 0x7FFFFFFFFFFFFFFFFFFFFFFFFFFFFFFF), (2, 17)] }
def x3_g2 := inLesson 3 { g := [(2, 0x8000000000000000), (3, -1)] , n := true, a := [(1, 0x80000000000000000000000000000000), (2, 3)]}
def w3_0 : State := x3_g1

theorem witness_accumulators :
    (Ecc.double ∉ []) ∧
    (w3_0.executes 3 2) ∧
    ((w3_0.engine 3).hazard [2, 3] [] = none) ∧
    ((w3_0.engine 3).nextPc ((w3_0.engine 3).pc + 1) ≤ 8191) ∧
    (w3_0.executes 3 1) ∧
    ((w3_0.engine 3).hazard [] [] = none) ∧
    (64 ≤ 64) ∧
    ((w3_0.engine 3).hazard [2] [] = none) ∧
    ((w3_0.engine 3).hazard [] [1] = none) := by
  and_intros
  all_goals first
    | decide +kernel
    | exact some_of (by decide +kernel)

/-! #### division -/
def x4_g1 := inLesson 3 { g := [(2, 7), (3, -2)] }
def x4_g2 := inLesson 3 { g := [(2, 0x8000000000000000), (3, -1)] }
def w4_0 : State := x4_g1

theorem witness_division :
    (Ecc.double ∉ []) ∧
    (w4_0.executes 3 66) ∧
    ((w4_0.engine 3).hazard [2, 3] [1] = none) ∧
    ((w4_0.engine 3).nextPc ((w4_0.engine 3).pc + 1) ≤ 8191) := by
  and_intros
  all_goals first
    | decide +kernel
    | exact some_of (by decide +kernel)

/-! #### data memory -/
def x5_g4 (a : Word64) (d : List Nat) := inLesson 3 { g := [(2, a), (3, -2), (4, 0x123456789ABCDEF0)], a := [(1, 0x7FFFFFFFFFFFFFFFFFFFFFFFFFFFFFF1)], dmem := [(1, 5), (2, 0x80000000FFFFFFFF)], due := d }
def x5_g1 (a) := x5_g4 a []
def w5_0 : State := x5_g1 16
def w5_1 : State := x5_g1 16
def w5_2 : State := x5_g1 16

theorem witness_data_memory :
    (BitVec.toNat ((w5_0.engine 3).reg 2 + BitVec.signExtend 64 0#16) ≤ 16383) ∧
    (BitVec.toNat ((w5_0.engine 3).reg 2 + BitVec.signExtend 64 0#16) % 8 = 0) ∧
    (Ecc.double ∉ [Ecc.ok]) ∧
    (w5_0.executes 3 2) ∧
    ((w5_0.engine 3).hazard [2] [1] = none) ∧
    ((w5_0.engine 3).nextPc ((w5_0.engine 3).pc + 1) ≤ 8191) ∧
    (Ecc.double ∉ []) ∧
    ((w5_0.engine 3).hazard [4, 2] [] = none) ∧
    (BitVec.toNat ((w5_0.engine 3).reg 2 + BitVec.signExtend 64 0#16) % 4 = 0) ∧
    (BitVec.toNat ((w5_0.engine 3).reg 2 + BitVec.signExtend 64 0#16) % 16 = 0) ∧
    (Ecc.double ∉ [Ecc.ok, Ecc.ok]) ∧
    ((w5_0.engine 3).hazard [2] [] = none) ∧
    (w5_1.executes 3 1) ∧
    ((w5_1.engine 3).hazard [2] [1] = none) ∧
    ((w5_1.engine 3).pc ≤ 8191) ∧
    (16383 < BitVec.toNat ((w5_1.engine 3).reg 2 + BitVec.signExtend 64 4#16) ∨ BitVec.toNat ((w5_1.engine 3).reg 2 + BitVec.signExtend 64 4#16) % 8 ≠ 0) ∧
    ((w5_1.engine 3).hazard [4, 2] [] = none) ∧
    ((w5_1.engine 3).hazard [2] [] = none) ∧
    (16383 < BitVec.toNat ((w5_1.engine 3).reg 2 + BitVec.signExtend 64 4#16) ∨ BitVec.toNat ((w5_1.engine 3).reg 2 + BitVec.signExtend 64 4#16) % 16 ≠ 0) ∧
    (w5_2.executes 3 1) ∧
    ((w5_2.engine 3).hazard [2] [2] = none) ∧
    ((w5_2.engine 3).pc ≤ 8191) ∧
    (16383 < BitVec.toNat ((w5_2.engine 3).reg 2 + BitVec.signExtend 64 2#16) ∨ BitVec.toNat ((w5_2.engine 3).reg 2 + BitVec.signExtend 64 2#16) % 4 ≠ 0) ∧
    ((w5_2.engine 3).hazard [4, 2] [] = none) := by
  and_intros
  all_goals first
    | decide +kernel
    | exact some_of (by decide +kernel)

/-! #### commons and mailboxes -/
def x6_g1 (a : Word64) (l : List CmnAcc) := { inLesson 3 { g := [(2, a), (3, -2), (4, 0x123456789ABCDEF0)], acc := l, pend := [6], bind := [0x210], cd := false } with inw := [(5, 77)], commons := [(0x18000, 88)] }
def x6_lk (s : State) : State := { s with clk := {State.reset.clk with sys := .locked}}
def w6_0 : State := x6_g1 0xC0000 []
def w6_2 : State := x6_g1 0xC0000 []
def w6_4 : State := x6_g1 0xC0000 [⟨0x18000, none, 6, false⟩]
def w6_7_a : CmnAcc := ⟨0x18000, none, 6, false⟩
def w6_7 : State := x6_g1 0 [⟨0x18000, none, 6, false⟩]
def w6_9_a : CmnAcc := ⟨0x18000, some 9, 0, false⟩
def w6_9 : State := x6_g1 0 [⟨0x18000, some 9, 0, false⟩]
def w6_10_a : CmnAcc := ⟨0x18000, some 9, 0, false⟩
def w6_10 : State := x6_lk (x6_g1 0 [⟨0x18000, some 9, 0, false⟩])

theorem witness_commons_and_mailboxes :
    (BitVec.toNat ((w6_0.engine 3).reg 2 + BitVec.signExtend 64 0#16 <<< 3) % 8 = 0) ∧
    (786432 ≤ BitVec.toNat ((w6_0.engine 3).reg 2 + BitVec.signExtend 64 0#16 <<< 3)) ∧
    (BitVec.toNat ((w6_0.engine 3).reg 2 + BitVec.signExtend 64 0#16 <<< 3) ≤ 2097151) ∧
    ((w6_0.engine 3).acc.length < 2) ∧
    (Ecc.double ∉ []) ∧
    (w6_0.executes 3 1) ∧
    ((w6_0.engine 3).hazard [2] [1] = none) ∧
    ((w6_0.engine 3).nextPc ((w6_0.engine 3).pc + 1) ≤ 8191) ∧
    ((w6_0.engine 3).hazard [2, 4] [] = none) ∧
    ((5#64 + (w6_2.engine 3).reg 0).toNat ≤ 511) ∧
    (Ecc.double ∉ []) ∧
    (w6_2.executes 3 1) ∧
    ((w6_2.engine 3).hazard [0] [1] = none) ∧
    ((w6_2.engine 3).nextPc ((w6_2.engine 3).pc + 1) ≤ 8191) ∧
    (576 ≤ (528#64 + (w6_4.engine 3).reg 0).toNat ∧ (528#64 + (w6_4.engine 3).reg 0).toNat ≤ 579 ∨ outListed (528#64 + (w6_4.engine 3).reg 0).toNat = true ∧ (528#64 + (w6_4.engine 3).reg 0).toNat ∈ (w6_4.engine 3).bind) ∧
    (Ecc.double ∉ []) ∧
    (w6_4.executes 3 1) ∧
    ((w6_4.engine 3).hazard [0, 4] [] = none) ∧
    ((w6_4.engine 3).nextPc ((w6_4.engine 3).pc + 1) ≤ 8191) ∧
    ((w6_7.engine 3).acc = [w6_7_a]) ∧
    (w6_7_a.data = none) ∧
    (w6_7_a.old = false) ∧
    (w6_7_a.rd ≠ 0) ∧
    (w6_7.executes 3 96) ∧
    (w6_7.onRing = true) ∧
    ((w6_7.engine 3).nextPc ((w6_7.engine 3).pc + 1) ≤ 8191) ∧
    ((w6_9.engine 3).acc = [w6_9_a]) ∧
    (w6_9_a.data = some 9) ∧
    (w6_10.executes 3 96) ∧
    (w6_10.onRing = false) ∧
    ((w6_10.engine 3).acc = [w6_10_a]) ∧
    (w6_10_a.data = some 9) ∧
    ((w6_10.engine 3).nextPc ((w6_10.engine 3).pc + 1) ≤ 8191) := by
  and_intros
  all_goals first
    | decide +kernel
    | exact some_of (by decide +kernel)

/-! #### loops and skips -/
def x7_g1 := inLesson 3 { g := [(2, 7), (3, -2)], z := true }
def x7_g2 := inLesson 3 { g := [(2, 7), (3, -2)], z := true, loops := [⟨3, 9, 2⟩] }
def w7_0 : State := x7_g1
def w7_1 : State := x7_g1
def w7_2 : State := x7_g2

theorem witness_loops_and_skips :
    (0 < 2) ∧
    (0 < 9) ∧
    (9 ≤ 4096) ∧
    ((w7_0.engine 3).pc + 2 ≤ 8191) ∧
    (0 < if 2 = 0 then ↑9 else min (BitVec.toInt ((w7_0.engine 3).reg 2)) ↑9) ∧
    ((w7_0.engine 3).loops.length < 4) ∧
    (Ecc.double ∉ []) ∧
    (w7_0.executes 3 1) ∧
    ((w7_0.engine 3).hazard [2] [] = none) ∧
    (({ g := (w7_0.engine 3).g, a := (w7_0.engine 3).a, z := (w7_0.engine 3).z, n := (w7_0.engine 3).n, c := (w7_0.engine 3).c, v := (w7_0.engine 3).v, q := (w7_0.engine 3).q, cd := (w7_0.engine 3).cd, loops := { first := (w7_0.engine 3).pc + 1, past := (w7_0.engine 3).pc + 1 + 2, left := (if 2 = 0 then ↑9 else min (BitVec.toInt ((w7_0.engine 3).reg 2)) ↑9).toNat } :: (w7_0.engine 3).loops, pc := (w7_0.engine 3).pc, pend := (w7_0.engine 3).pend, poison := (w7_0.engine 3).poison, acc := (w7_0.engine 3).acc, imem := (w7_0.engine 3).imem, dmem := (w7_0.engine 3).dmem, lesson := (w7_0.engine 3).lesson, due := (w7_0.engine 3).due, staged := (w7_0.engine 3).staged, tt := (w7_0.engine 3).tt, bind := (w7_0.engine 3).bind, run := (w7_0.engine 3).run, stopped := (w7_0.engine 3).stopped, cycles := (w7_0.engine 3).cycles, busy := (w7_0.engine 3).busy, ring := (w7_0.engine 3).ring, unchecked := (w7_0.engine 3).unchecked, strikes := (w7_0.engine 3).strikes, reload := (w7_0.engine 3).reload } : Eng).nextPc ((w7_0.engine 3).pc + 1) ≤ 8191) ∧
    (0 < 3) ∧
    (condHolds (w7_0.engine 3) 0 = some true) ∧
    ((w7_0.engine 3).pc + 1 + 3 ≤ 8191 ∧ ∀ l ∈ (w7_0.engine 3).loops.head?, (w7_0.engine 3).pc + 1 + 3 ≤ l.past) ∧
    ((w7_0.engine 3).hazard [] [] = none) ∧
    ((w7_0.engine 3).nextPc ((w7_0.engine 3).pc + 1 + 3) ≤ 8191) ∧
    (BitVec.getLsbD ((w7_0.engine 3).reg 3) 63 = true) ∧
    ((w7_0.engine 3).hazard [3] [] = none) ∧
    ((!BitVec.getLsbD ((w7_0.engine 3).reg 3) 63) = false) ∧
    ((w7_0.engine 3).nextPc ((w7_0.engine 3).pc + 1) ≤ 8191) ∧
    (0 < 3) ∧
    (condHolds (w7_1.engine 3) 1 = some false) ∧
    (Ecc.double ∉ []) ∧
    (w7_1.executes 3 1) ∧
    ((w7_1.engine 3).hazard [] [] = none) ∧
    ((w7_1.engine 3).nextPc ((w7_1.engine 3).pc + 1) ≤ 8191) ∧
    (BitVec.getLsbD ((w7_1.engine 3).reg 2) 63 = false) ∧
    ((w7_1.engine 3).hazard [2] [] = none) ∧
    ((!BitVec.getLsbD ((w7_1.engine 3).reg 2) 63) = true) ∧
    ((w7_1.engine 3).pc + 1 + 3 ≤ 8191 ∧ ∀ l ∈ (w7_1.engine 3).loops.head?, (w7_1.engine 3).pc + 1 + 3 ≤ l.past) ∧
    ((w7_1.engine 3).nextPc ((w7_1.engine 3).pc + 1 + 3) ≤ 8191) ∧
    (0 < 2) ∧
    (0 < 9) ∧
    (9 ≤ 4096) ∧
    ((w7_2.engine 3).pc + 2 ≤ 8191) ∧
    ((if 3 = 0 then ↑9 else min (BitVec.toInt ((w7_2.engine 3).reg 3)) ↑9) ≤ 0) ∧
    (Ecc.double ∉ []) ∧
    (w7_2.executes 3 1) ∧
    ((w7_2.engine 3).hazard [3] [] = none) ∧
    ((w7_2.engine 3).nextPc ((w7_2.engine 3).pc + 1 + 2) ≤ 8191) := by
  and_intros
  all_goals first
    | decide +kernel
    | exact some_of (by decide +kernel)

/-! #### conditions -/
def x8_fl (x : Eng) := inLesson 3 { x with g := [(4, 16), (2, 1), (5, 3)] }
def w8_0 : State := x8_fl {z := true}
def w8_1 : State := x8_fl {}
def w8_15 : State := x8_fl {cd := false}

theorem witness_conditions :
    ((0, true) ∈ [(0, (w8_0.engine 3).z), (1, !(w8_0.engine 3).z), (2, (w8_0.engine 3).n != (w8_0.engine 3).v), (3, (w8_0.engine 3).n == (w8_0.engine 3).v), (4, !(w8_0.engine 3).z && (w8_0.engine 3).n == (w8_0.engine 3).v), (5, (w8_0.engine 3).z || (w8_0.engine 3).n != (w8_0.engine 3).v), (6, !(w8_0.engine 3).c), (7, (w8_0.engine 3).c), (8, (w8_0.engine 3).v), (9, !(w8_0.engine 3).v), (10, (w8_0.engine 3).q), (11, (w8_0.engine 3).cd), (12, !(w8_0.engine 3).cd), (15, true)]) ∧
    (Ecc.double ∉ []) ∧
    (w8_0.executes 3 1) ∧
    ((w8_0.engine 3).hazard [4, 5] [1] = none) ∧
    ((w8_0.engine 3).nextPc ((w8_0.engine 3).pc + 1) ≤ 8191) ∧
    (0 < 7) ∧
    ((w8_0.engine 3).pc + 1 + 7 ≤ 8191 ∧ ∀ l ∈ (w8_0.engine 3).loops.head?, (w8_0.engine 3).pc + 1 + 7 ≤ l.past) ∧
    ((w8_0.engine 3).hazard [] [] = none) ∧
    ((w8_0.engine 3).nextPc ((w8_0.engine 3).pc + 1 + 7) ≤ 8191) ∧
    ((0, false) ∈ [(0, (w8_1.engine 3).z), (1, !(w8_1.engine 3).z), (2, (w8_1.engine 3).n != (w8_1.engine 3).v), (3, (w8_1.engine 3).n == (w8_1.engine 3).v), (4, !(w8_1.engine 3).z && (w8_1.engine 3).n == (w8_1.engine 3).v), (5, (w8_1.engine 3).z || (w8_1.engine 3).n != (w8_1.engine 3).v), (6, !(w8_1.engine 3).c), (7, (w8_1.engine 3).c), (8, (w8_1.engine 3).v), (9, !(w8_1.engine 3).v), (10, (w8_1.engine 3).q), (11, (w8_1.engine 3).cd), (12, !(w8_1.engine 3).cd), (15, true)]) ∧
    (0 < 7) ∧
    (Ecc.double ∉ []) ∧
    (w8_1.executes 3 1) ∧
    ((w8_1.engine 3).hazard [] [] = none) ∧
    ((w8_1.engine 3).nextPc ((w8_1.engine 3).pc + 1) ≤ 8191) ∧
    (13 ∉ List.map Prod.fst [(0, (w8_15.engine 3).z), (1, !(w8_15.engine 3).z), (2, (w8_15.engine 3).n != (w8_15.engine 3).v), (3, (w8_15.engine 3).n == (w8_15.engine 3).v), (4, !(w8_15.engine 3).z && (w8_15.engine 3).n == (w8_15.engine 3).v), (5, (w8_15.engine 3).z || (w8_15.engine 3).n != (w8_15.engine 3).v), (6, !(w8_15.engine 3).c), (7, (w8_15.engine 3).c), (8, (w8_15.engine 3).v), (9, !(w8_15.engine 3).v), (10, (w8_15.engine 3).q), (11, (w8_15.engine 3).cd), (12, !(w8_15.engine 3).cd), (15, true)]) ∧
    (w8_15.executes 3 1) ∧
    ((w8_15.engine 3).pc ≤ 8191) := by
  and_intros
  all_goals first
    | decide +kernel
    | exact some_of (by decide +kernel)

/-! #### lesson ends -/
def x9_on (e : Nat) (s : State) : State := s.wr (Reg.ENG_CTRL_ENABLE e) 1
def x9_g1 := x9_on 3 (inLesson 3 { g := [(2, 7), (3, -2)], staged := [(0x240, 7)] })
def x9_g2 := x9_on 3 (inLesson 3 { g := [(2, 7), (3, -2)], staged := [(0x240, 7)], due := [4, 5] })
def w9_0 : State := x9_g1
def w9_2 : State := x9_g2
def w9_4 : State := x9_on 3 { inLesson 3 {} with eng := [(3, { lesson := some ⟨4, 100⟩, tt := [(4, { wcet := 100, pc := 77 })], pc := 78, run := true })] }

theorem witness_lesson_ends :
    (w9_0.executes 3 2) ∧
    ((w9_0.engine 3).due = []) ∧
    (w9_0.rd (Reg.ENG_CTRL_ENABLE 3) ≠ 0) ∧
    (24 = 24 ∨ 24 = 98 ∨ 80 ≤ 24 ∧ 24 ≤ 95 ∨ 112 ≤ 24) ∧
    ((w9_0.engine 3).nextPc ((w9_0.engine 3).pc + 1) ≤ 8191) ∧
    (w9_0.executes 3 1) ∧
    ((w9_0.engine 3).pc ≤ 8191) ∧
    (w9_0.engHalted 3 = true ∨ ¬∃ l, (w9_0.engine 3).lesson = some l ∧ ((w9_0.engine 3).entry l.idx).wcet ≤ l.cyc) ∧
    (w9_2.executes 3 2) ∧
    (w9_2.mayDispatch 3 = true) ∧
    (∃ i rest, (w9_2.engine 3).due = i :: rest) ∧
    (w9_4.engHalted 3 = false) ∧
    (∃ l, (w9_4.engine 3).lesson = some l ∧ ((w9_4.engine 3).entry l.idx).wcet ≤ l.cyc) ∧
    ((w9_4.engine 3).pc ≤ 8191) := by
  and_intros
  all_goals first
    | decide +kernel
    | exact some_of (by decide +kernel)
    | exact ⟨_, _, rfl⟩

/-! #### instruction traps -/
def x10_tg (x : Eng) := inLesson 3 { x with g := [(4, 16), (2, 1), (5, 3)] }
def x10_th (x : Eng) := { inLesson 3 { x with g := [(4, 0xC0000), (2, 1), (5, 3)] } with commons := [(3,3)] }
def w10_0 : State := (x10_tg {}).wr (Reg.ENG_CTRL_HALT 3) 1
def w10_1 : State := x10_tg {}
def w10_3 : State := x10_tg { pend := [4] }
def w10_4 : State := x10_tg { pend := [1] }
def w10_5 : State := x10_tg { pend := [2] }
def w10_7 : State := x10_tg { poison := [4] }
def w10_8 : State := x10_tg { poison := [1] }
def w10_9 : State := x10_tg { poison := [2], due := [4] }
def w10_11 : State := x10_tg {}
def w10_13 : State := x10_th { z := true, loops := [⟨4, 7, 3⟩,⟨1, 9, 3⟩,⟨1, 20, 3⟩,⟨1, 9, 30⟩] }
def w10_14 : State := x10_th { z := true, loops := [⟨4, 6, 3⟩,⟨1, 9, 3⟩,⟨1, 20, 3⟩,⟨1, 9, 30⟩] }
def w10_15 : State := x10_th { z := true, loops := [⟨4, 6, 3⟩,⟨1, 9, 3⟩,⟨1, 20, 3⟩,⟨1, 9, 30⟩] }
def w10_22 : State := State.reset
def w10_24 : State := x10_tg {pend := [2]}
def w10_28 : State := { x10_tg {} with eng := [(3, { g := [(4, 16)], lesson := some ⟨0, 4⟩, tt := [(0, { wcet := 400 })], pc := 8191, run := true })] }

theorem witness_instruction_traps :
    (BitVec.toNat ((w10_0.engine 3).reg 4 + BitVec.signExtend 64 0#16 <<< 3) % 8 ≠ 0 ∨ BitVec.toNat ((w10_0.engine 3).reg 4 + BitVec.signExtend 64 0#16 <<< 3) < 786432 ∨ 2097151 < BitVec.toNat ((w10_0.engine 3).reg 4 + BitVec.signExtend 64 0#16 <<< 3) ∨ 2 ≤ (w10_0.engine 3).acc.length) ∧
    ((w10_0.engine 3).hazard [4] [1] = none) ∧
    (w10_0.executes 3 1) ∧
    ((w10_0.engine 3).pc ≤ 8191) ∧
    ((w10_0.engine 3).hazard [4, 2] [] = none) ∧
    (outListed (5#64 + (w10_0.engine 3).reg 4).toNat = false) ∧
    (w10_1.engHalted 3 = false) ∧
    ((w10_1.engine 3).lesson.isSome = true) ∧
    ((w10_1.engine 3).pc ≤ 8191) ∧
    (0 < 3 ∧ 0 < 9 ∧ 9 ≤ 4096 ∧ (w10_1.engine 3).pc + 3 ≤ 8191) ∧
    (0 < 7) ∧
    (∃ b, condHolds (w10_1.engine 3) 0 = some b) ∧
    (3 ≤ 64) ∧
    (∃ r ∈ [4, 5] ++ [1], r ≠ 0 ∧ r ∈ (w10_3.engine 3).pend) ∧
    (∀ r ∈ [4, 5], r ∉ (w10_3.engine 3).poison) ∧
    (w10_3.executes 3 1) ∧
    ((w10_3.engine 3).pc ≤ 8191) ∧
    (∃ r ∈ [4, 5] ++ [], r ≠ 0 ∧ r ∈ (w10_3.engine 3).pend) ∧
    (∃ r ∈ [4] ++ [], r ≠ 0 ∧ r ∈ (w10_3.engine 3).pend) ∧
    (∀ r ∈ [4], r ∉ (w10_3.engine 3).poison) ∧
    (∃ r ∈ [4, 2] ++ [], r ≠ 0 ∧ r ∈ (w10_3.engine 3).pend) ∧
    (∀ r ∈ [4, 2], r ∉ (w10_3.engine 3).poison) ∧
    (∃ b, condHolds (w10_3.engine 3) 0 = some b) ∧
    (3 ≤ 64) ∧
    (1 ≠ 0) ∧
    (1 ∈ (w10_4.engine 3).pend) ∧
    (w10_4.executes 3 1) ∧
    ((w10_4.engine 3).pc ≤ 8191) ∧
    (∃ r ∈ [1] ++ [1], r ≠ 0 ∧ r ∈ (w10_4.engine 3).pend) ∧
    (∀ r ∈ [1], r ∉ (w10_4.engine 3).poison) ∧
    (0 < 3 ∧ 0 < 9 ∧ 9 ≤ 4096 ∧ (w10_5.engine 3).pc + 3 ≤ 8191) ∧
    (∃ r ∈ [2] ++ [], r ≠ 0 ∧ r ∈ (w10_5.engine 3).pend) ∧
    (∀ r ∈ [2], r ∉ (w10_5.engine 3).poison) ∧
    (w10_5.executes 3 1) ∧
    ((w10_5.engine 3).pc ≤ 8191) ∧
    (0 < 7) ∧
    (∃ r ∈ [4, 5], r ≠ 0 ∧ r ∈ (w10_7.engine 3).poison) ∧
    (∀ r ∈ [4, 5] ++ [1], r ∉ (w10_7.engine 3).pend) ∧
    (w10_7.executes 3 1) ∧
    ((w10_7.engine 3).pc ≤ 8191) ∧
    (∀ r ∈ [4, 5] ++ [], r ∉ (w10_7.engine 3).pend) ∧
    (∃ r ∈ [4], r ≠ 0 ∧ r ∈ (w10_7.engine 3).poison) ∧
    (∀ r ∈ [4] ++ [], r ∉ (w10_7.engine 3).pend) ∧
    (∃ r ∈ [4, 2], r ≠ 0 ∧ r ∈ (w10_7.engine 3).poison) ∧
    (∀ r ∈ [4, 2] ++ [], r ∉ (w10_7.engine 3).pend) ∧
    (∃ b, condHolds (w10_7.engine 3) 0 = some b) ∧
    (3 ≤ 64) ∧
    (∃ r ∈ [1], r ≠ 0 ∧ r ∈ (w10_8.engine 3).poison) ∧
    (∀ r ∈ [1] ++ [1], r ∉ (w10_8.engine 3).pend) ∧
    (w10_8.executes 3 1) ∧
    ((w10_8.engine 3).pc ≤ 8191) ∧
    (0 < 3 ∧ 0 < 9 ∧ 9 ≤ 4096 ∧ (w10_9.engine 3).pc + 3 ≤ 8191) ∧
    (∃ r ∈ [2], r ≠ 0 ∧ r ∈ (w10_9.engine 3).poison) ∧
    (∀ r ∈ [2] ++ [], r ∉ (w10_9.engine 3).pend) ∧
    (w10_9.executes 3 1) ∧
    ((w10_9.engine 3).pc ≤ 8191) ∧
    (0 < 7) ∧
    ((w10_11.engine 3).hazard [4] [1] = none) ∧
    (511 < (516#64 + (w10_11.engine 3).reg 4).toNat) ∧
    (w10_11.executes 3 1) ∧
    ((w10_11.engine 3).pc ≤ 8191) ∧
    ((w10_11.engine 3).hazard [4, 2] [] = none) ∧
    (outListed (516#64 + (w10_11.engine 3).reg 4).toNat = true) ∧
    (¬(576 ≤ (516#64 + (w10_11.engine 3).reg 4).toNat ∧ (516#64 + (w10_11.engine 3).reg 4).toNat ≤ 579)) ∧
    ((516#64 + (w10_11.engine 3).reg 4).toNat ∉ (w10_11.engine 3).bind) ∧
    (¬(0 < 0 ∧ 0 < 0 ∧ 0 ≤ 4096 ∧ (w10_11.engine 3).pc + 0 ≤ 8191)) ∧
    (0 = 0 ∨ condHolds (w10_11.engine 3) 9 = none) ∧
    (64 < 65) ∧
    (¬(1 = 24 ∨ 1 = 98 ∨ 80 ≤ 1 ∧ 1 ≤ 95 ∨ 112 ≤ 1)) ∧
    (0 < 1 ∧ 0 < 4096 ∧ 4096 ≤ 4096 ∧ (w10_13.engine 3).pc + 1 ≤ 8191) ∧
    ((w10_13.engine 3).hazard [2] [] = none) ∧
    (0 < if 2 = 0 then ↑4096 else min (BitVec.toInt ((w10_13.engine 3).reg 2)) ↑4096) ∧
    (4 ≤ (w10_13.engine 3).loops.length) ∧
    (w10_13.executes 3 1) ∧
    ((w10_13.engine 3).pc ≤ 8191) ∧
    (0 < 1) ∧
    (8191 < (w10_14.engine 3).pc + 1 + 1 ∨ ∃ l ∈ (w10_14.engine 3).loops.head?, l.past < (w10_14.engine 3).pc + 1 + 1) ∧
    (condHolds (w10_14.engine 3) 0 = some true) ∧
    (w10_14.executes 3 1) ∧
    ((w10_14.engine 3).pc ≤ 8191) ∧
    ((w10_14.engine 3).hazard [2] [] = none) ∧
    (BitVec.getLsbD ((w10_14.engine 3).reg 2) 3 = false) ∧
    (0 < 1) ∧
    (8191 < (w10_15.engine 3).pc + 1 + 1 ∨ ∃ l ∈ (w10_15.engine 3).loops.head?, l.past < (w10_15.engine 3).pc + 1 + 1) ∧
    ((w10_15.engine 3).hazard [2] [] = none) ∧
    (BitVec.getLsbD ((w10_15.engine 3).reg 2) 0 = true) ∧
    (w10_15.executes 3 1) ∧
    ((w10_15.engine 3).pc ≤ 8191) ∧
    (w10_22.engHalted 3 = true ∨ (w10_22.engine 3).lesson = none) ∧
    (0 < 3 ∧ 0 < 9 ∧ 9 ≤ 4096 ∧ (w10_22.engine 3).pc + 3 ≤ 8191) ∧
    (0 < 7) ∧
    (∃ b, condHolds (w10_22.engine 3) 0 = some b) ∧
    (3 ≤ 64) ∧
    (condHolds (w10_24.engine 3) 14 = none) ∧
    (w10_24.executes 3 1) ∧
    ((w10_24.engine 3).pc ≤ 8191) ∧
    (w10_28.executes 3 1) ∧
    ((w10_28.engine 3).hazard [4, 5] [1] = none) ∧
    ((w10_28.engine 3).pc = 8191) ∧
    ((w10_28.engine 3).loops = []) ∧
    (w10_28.executes 3 66) ∧
    ((w10_28.engine 3).hazard [4] [1] = none) := by
  and_intros
  all_goals first
    | decide +kernel
    | exact some_of (by decide +kernel)
    | exact Option.isSome_iff_exists.1 (by decide +kernel)

/-! #### engine events -/
def x11_g1 := (inLesson 3 { g := [(2, 7), (3, -2)], staged := [(0x240, 7)], strikes := [3, 70] })
def x11_g2 := { (inLesson 3 { g := [(2, 7), (3, -2)], staged := [(0x240, 7)], due := [4, 5] , strikes := [3, 70]}) with bell := { State.reset.bell with number := 8 } }
def w11_0 : State := x11_g1
def w11_1 : State := x11_g2

theorem witness_engine_events :
    (w11_0.executes 3 2) ∧
    ((w11_0.engine 3).pc ≤ 8191) ∧
    (postsBeyond 4294967295#32 = false) ∧
    (decodeEngine 3 Ecc.ok Ecc.ok Ecc.ok 4294967295#32 = none) ∧
    (w11_1.executes 3 2) ∧
    ((w11_1.engine 3).pc ≤ 8191) ∧
    (postsBeyond 3758096552#32 = true) := by
  and_intros
  all_goals first
    | decide +kernel
    | exact some_of (by decide +kernel)

/-! #### engine host -/
def x12_g1 := (inLesson 3 { g := [(2, 7), (3, -2)], due := [5] })
def x12_g2 := { with1 up [(Reg.ENG_HIN_HI_DATA 5 2, 7), (Reg.DEV_BELL_STATUS_PERIOD_REJ, 1)] with words := [(5, { hout := [(2, 0x123456789ABCDEF0)] })], subst := { phase := .serving, eng := 5 } }
def w12_0 : State := x12_g1
def w12_1 : State := x12_g2

theorem witness_engine_host :
    (w12_0.hostOpen (Reg.ENG_HIN_LO_DATA 3 1).addr) ∧
    (w12_0.hostReads (Reg.ENG_HOUT_LO_DATA 3 1).addr) ∧
    (w12_0.hostOpen (Reg.ENG_CTRL_ENABLE 3).addr) ∧
    (w12_1.hostOpen Reg.DEV_BELL_PERIOD.addr) := by
  and_intros <;> decide +kernel

/-! #### substitution -/
def x13_im : LoadedImage := { sections := [(5, { imem := [1, 2], dmem := [(3)] })], period := 500, standard := true }
def x13_g1 := { with1 up [(Reg.ENG_CTRL_ENABLE 16, 1)] with image := x13_im, eng := [(5, { lesson := some ⟨0, 4⟩, tt := [(0, { wcet := 400 })], bind := [0x210] })] }
def x13_g3 (p) (h : Bool) := { x13_g1 with subst := { phase := p, eng := 5, healthy := h } , flt := { State.reset.flt with cond := [(20, 5)] }, now := 100, eng := [(5, { dmem := [(2, 4)] }), (16, {imem := [(5,5)], dmem := [(9,9)], run := true, stopped := !h, tt := [(0, { wcet := 400 })]})] }
def w13_0 : State := x13_g1
def w13_1 : State := { x13_g1 with regs := [] }
def w13_2 : State := x13_g3 .copying true
def w13_4 : State := x13_g3 .serving true

theorem witness_substitution :
    (w13_0.hostOpen (Reg.ENG_SUBST_FORCE 16).addr) ∧
    (w13_0.substBusy = false) ∧
    (w13_0.serving = 31) ∧
    (w13_0.substituted 5 = false) ∧
    (w13_0.subst.phase = SubPhase.idle) ∧
    (w13_0.rd (Reg.ENG_CTRL_ENABLE 16) ≠ 0) ∧
    (w13_0.substBusy = true ∨ w13_0.serving = 31 ∨ w13_0.rd (Reg.ENG_ECC_UNC_I w13_0.subst.eng) ≠ 0 ∨ w13_0.rd (Reg.ENG_ECC_UNC_D w13_0.subst.eng) ≠ 0 ∨ maskBit w13_0.clk.unpowered (3 + w13_0.subst.eng) = true ∨ w13_0.engUnderTest w13_0.subst.eng = true) ∧
    (w13_1.hostOpen (Reg.ENG_SUBST_FORCE 16).addr) ∧
    (w13_1.substBusy = false) ∧
    (w13_1.serving = 31) ∧
    (w13_1.substituted 5 = false) ∧
    (w13_1.rd (Reg.ENG_CTRL_ENABLE 16) = 0) ∧
    (w13_2.hostOpen (Reg.ENG_SUBST_FORCE 16).addr) ∧
    (w13_2.substBusy = true ∨ w13_2.serving ≠ 31) ∧
    (w13_2.subst.phase = SubPhase.copying) ∧
    (w13_4.hostOpen (Reg.ENG_SUBST_FORCE 16).addr) ∧
    (w13_4.subst.phase = SubPhase.serving) ∧
    (w13_4.subst.eng < 16) ∧
    (w13_4.rd (Reg.ENG_ECC_UNC_I w13_4.subst.eng) = 0) ∧
    (w13_4.rd (Reg.ENG_ECC_UNC_D w13_4.subst.eng) = 0) ∧
    (maskBit w13_4.clk.unpowered (3 + w13_4.subst.eng) = false) ∧
    (w13_4.engUnderTest w13_4.subst.eng = false) := by
  and_intros <;> decide +kernel

/-! #### clock start and temperatures -/
def x14_g0 := with1 State.reset [(Reg.DEV_CLK_CFG_XO_FREQ, 50000000), (Reg.DEV_CLK_STATUS_START_FAIL, 1)]
def x14_g1 := with1 {x14_g0 with clk := { tb := .acquiring, sys := .acquiring, xoFreq := 50000000 }, flt := { State.reset.flt with cond := [(0, 255), (4,1)] }} [(Reg.DEV_CLK_CMD_START, 1)]
def x14_rt : TempReadings := ⟨1000, 0x3000, 20, 10000, 10, 30000, 1311⟩
def w14_0 : State := x14_g0
def w14_1 : State := x14_g1
def w14_3 : State := up
def w14_6 : State := {x14_g1 with up := 10 ^ 9, clk := { x14_g1.clk with xoWait := true }}
def w14_9 : State := with1 up [(Reg.PWR_STATUS_STATE, 2)]

theorem witness_clock_start_and_temperatures :
    (w14_0.hostOpen 68) ∧
    (10000000 ≤ w14_0.rd Reg.DEV_CLK_CFG_XO_FREQ ∧ w14_0.rd Reg.DEV_CLK_CFG_XO_FREQ ≤ 160000000 ∧ w14_0.clk.tb = PllSt.off ∧ w14_0.clk.sys = PllSt.off) ∧
    (¬w14_0.rd Reg.DEV_CLK_CMD_START ≠ 0 ∨ w14_0.clk.xoWait = false ∨ w14_0.ran Timer.start 50000 = false) ∧
    (w14_0.ran Timer.start 5000000 = false) ∧
    (w14_1.hostOpen 68) ∧
    (¬(10000000 ≤ w14_1.rd Reg.DEV_CLK_CFG_XO_FREQ ∧ w14_1.rd Reg.DEV_CLK_CFG_XO_FREQ ≤ 160000000 ∧ w14_1.clk.tb = PllSt.off ∧ w14_1.clk.sys = PllSt.off)) ∧
    (w14_1.rd Reg.DEV_CLK_CMD_START ≠ 0) ∧
    (w14_1.clk.tb = PllSt.acquiring) ∧
    (w14_1.clk.sys = PllSt.acquiring) ∧
    (w14_3.rd Reg.PWR_STATUS_STATE < 2) ∧
    (w14_6.rd Reg.DEV_CLK_CMD_START ≠ 0) ∧
    (w14_6.clk.xoWait = true) ∧
    (w14_6.ran Timer.start 50000 = true) ∧
    (w14_6.ran Timer.start 5000000 = true) ∧
    (2 ≤ w14_9.rd Reg.PWR_STATUS_STATE) := by
  and_intros <;> decide +kernel

/-! #### clock loss -/
def x15_g1 := { inLesson 3 {} with clk := { up.clk with xoArmed := true } , aplls := [(3, {})], tbRem := 5}
def x15_g2 := { x15_g1 with clk := { up.clk with xoArmed := true, time := .waiting, tb := .lost, sys := .lost }, flt := { State.reset.flt with cond := [(0, 255), (1,255), (2, 255)] } }
def w15_0 : State := x15_g1
def w15_1 : State := x15_g2
def w15_3 : State := with1 x15_g2 [(Reg.DEV_CLK_STATUS_XO_ACTIVE, 1)]
def w15_5 : State := {x15_g1 with timers := [(Timer.servo, 0)], up := 10 ^ 9}

theorem witness_clock_loss :
    (w15_0.clk.sys = PllSt.locked) ∧
    (w15_0.ran Timer.servo 1000000 = false) ∧
    (w15_0.clk.tb = PllSt.locked) ∧
    (w15_1.clk.sys = PllSt.lost) ∧
    (w15_3.clk.tb = PllSt.lost) ∧
    (w15_3.rd Reg.DEV_CLK_STATUS_XO_ACTIVE ≠ 0) ∧
    (w15_5.clk.sys = PllSt.locked) ∧
    (w15_5.ran Timer.servo 1000000 = true) := by
  and_intros <;> decide +kernel

/-! #### bell and tick -/
def x16_g1 := { inLesson 3 { bind := [0x215] } with clk := up.clk, words := [(3, { hin := [(1, 6)] })], bell := { number := 9, commits := [(3, 0x215, 2)] }, out := [(0x210, 3), (0x215, 7)] }
def x16_g2 := { x16_g1 with bell := { number := 9, period := 500, since := 10 }, clk := {up.clk with time := .stopped} }
def w16_0 : State := up
def w16_2 : State := x16_g2
def w16_3 : State := up
def w16_5 : State := x16_g2

theorem witness_bell_and_tick :
    (w16_0.timeClocked = true) ∧
    (w16_2.timeClocked = false) ∧
    (w16_3.pending = []) ∧
    (w16_3.clk.time = TimeSrc.tb) ∧
    (w16_5.pending = []) ∧
    (w16_5.timeClocked = false) := by
  and_intros <;> decide +kernel

/-! #### edges and tables -/
def x17_rdy (c ch : Nat) (s : State) : State := with1 s [(Reg.TDC_CFG_EN c, 1), (Reg.TDC_CFG_EDGE c, 2), (Reg.TDC_CAL_STATUS_DLL_LOCK ch, 1), (Reg.TDC_CAL_STATUS_TABLE_VALID ch, 1), (Reg.SLOT_CFG_PPS (slotOfRole c), 1), (Reg.SLOT_CFG_INPUT (slotOfRole c), 1), (Reg.SLOT_NOM_FREQ_HZ (slotOfRole c), 1), (Reg.SLOT_PRESCALE_DIV (slotOfRole c), 1)]
def x17_g1 (c : Nat) (l : Int) : State := { x17_rdy c c up with chans := [(c, { lastT := some l })] }
def x17_x1 : EdgeIn := ⟨100, 5, true, false, none⟩
def x17_x2 : EdgeIn := ⟨100, 5, false, true, some (103, 7)⟩
def x17_lk (c : Nat) (s : State) : State := with1 s [(Reg.TDC_CAL_STATUS_CAL_BUSY c, 1)]
def w17_0 : State := up
def w17_1 : State := x17_g1 40 2000000
def w17_2 : State := x17_g1 40 (100 * 131072)
def w17_8 : State := with1 (x17_g1 40 5) [(Reg.TDC_CAL_STATUS_DLL_LOCK 40, 0)]
def w17_12 : State := { x17_g1 5 5 with slots := [(slotOfRole 5, { pre := 2 })] }
def w17_18 : State := up
def w17_19 : State := x17_lk 5 (x17_g1 5 5)
def w17_21 : State := x17_lk 30 { x17_g1 30 5 with chans := [(30, { lost := true, table := [(4,4)] })] }

theorem witness_edges_and_tables :
    (¬(w17_0.timeClocked = true ∧ w17_0.roleOn 40 = true ∧ w17_0.takesEdge 40 x17_x1.fall = true)) ∧
    ((w17_1.timeClocked = true ∧ w17_1.roleOn 40 = true ∧ w17_1.takesEdge 40 x17_x1.fall = true) ∧ (22 ≤ 40 ∨ ¬x17_x1.fall = w17_1.bit (Reg.SLOT_CFG_POL (slotOfRole 40)) ∨ (w17_1.slot (slotOfRole 40)).pre = 0)) ∧
    ((w17_1.chan (w17_1.channelOf 40)).since ≤ w17_1.up) ∧
    (w17_1.chanOk (w17_1.channelOf 40) = true) ∧
    (¬∃ l, (w17_1.chan (w17_1.channelOf 40)).lastT = some l ∧ w17_1.rawTime (w17_1.channelOf 40) x17_x1 - l < 262144) ∧
    ((w17_2.timeClocked = true ∧ w17_2.roleOn 40 = true ∧ w17_2.takesEdge 40 x17_x1.fall = true) ∧ (22 ≤ 40 ∨ ¬x17_x1.fall = w17_2.bit (Reg.SLOT_CFG_POL (slotOfRole 40)) ∨ (w17_2.slot (slotOfRole 40)).pre = 0)) ∧
    (w17_2.up < (w17_2.chan (w17_2.channelOf 40)).since ∨ w17_2.chanOk (w17_2.channelOf 40) = true ∧ ∃ l, (w17_2.chan (w17_2.channelOf 40)).lastT = some l ∧ w17_2.rawTime (w17_2.channelOf 40) x17_x1 - l < 262144) ∧
    ((w17_8.timeClocked = true ∧ w17_8.roleOn 40 = true ∧ w17_8.takesEdge 40 x17_x1.fall = true) ∧ (22 ≤ 40 ∨ ¬x17_x1.fall = w17_8.bit (Reg.SLOT_CFG_POL (slotOfRole 40)) ∨ (w17_8.slot (slotOfRole 40)).pre = 0)) ∧
    (22 ≤ 40) ∧
    ((w17_8.chan (w17_8.channelOf 40)).since ≤ w17_8.up) ∧
    (w17_8.chanOk (w17_8.channelOf 40) = false) ∧
    (w17_12.timeClocked = true ∧ w17_12.roleOn 5 = true ∧ w17_12.takesEdge 5 x17_x2.fall = true) ∧
    (5 < 22) ∧
    (x17_x2.fall = w17_12.bit (Reg.SLOT_CFG_POL (slotOfRole 5))) ∧
    ((w17_12.slot (slotOfRole 5)).pre ≠ 0) ∧
    (w17_18.clk.tb = PllSt.locked) ∧
    (w17_18.hostOpen (Reg.TDC_CMD_CAL 5).addr) ∧
    (w17_18.rd (Reg.TDC_CAL_STATUS_CAL_BUSY 5) = 0) ∧
    (w17_18.hostOpen Reg.TDCG_CAL_CMD_ALL.addr) ∧
    (w17_19.rd (Reg.TDC_CAL_STATUS_DLL_LOCK 5) ≠ 0) ∧
    (w17_19.hostOpen (Reg.TDC_CMD_CAL 5).addr) ∧
    (w17_19.rd (Reg.TDC_CAL_STATUS_CAL_BUSY 5) ≠ 0) ∧
    (w17_19.bist ≠ some (2, 5)) ∧
    (w17_19.mapTdc = []) ∧
    (∀ x ∈ [3, 8192], 512 * x ≤ 4 * w17_19.calHits) ∧
    ((w17_21.chan 30).lost = true) ∧
    (w17_21.rd (Reg.TDC_CAL_STATUS_CAL_BUSY 30) ≠ 0) ∧
    (w17_21.bist ≠ some (2, 30)) ∧
    (∃ x ∈ [3, 20000000], 4 * w17_21.calHits < 512 * x) := by
  and_intros <;> decide +kernel

/-! #### slots -/
def x18_g (v : Int) : GateRec := { a := some (0, 0), b := some (1024000000, v), n := 1, own := true, tally := 1 }
def x18_g1 (c : Nat) (v : Int) := { with1 up [(Reg.SLOT_NOM_FREQ_HZ c, 1), (Reg.SLOT_PRESCALE_DIV c, 1), (Reg.SLOT_CNT1_GATE_SEQ c, 255)] with slots := [(c, { active := true, gate := x18_g v, lastT := some 4 })] }
def w18_0 : State := up
def w18_4 : State := up
def w18_8 : State := { x18_g1 5 6400 with up := 0, slots := [(5, { active := true, idle := 7 })] }
def w18_9 : State := { up with tb := 10 ^ 13 }
def w18_10 : State := { x18_g1 23 640000000000000 with tb := 10 ^ 13 }

theorem witness_slots :
    (w18_0.hostOpen (65536 + 256 * 5)) ∧
    (w18_0.hostOpen (65540 + 256 * 5)) ∧
    (w18_0.hostOpen (65544 + 256 * 5)) ∧
    (w18_0.hostOpen (Reg.SLOT_CMD_REBASE 5).addr) ∧
    (w18_0.hostOpen (Reg.SLOT_QUAL_EXCLUDE 5).addr) ∧
    (((w18_4.slot 5).idle + if w18_4.rd (Reg.SLOT_ACT_TIMEOUT 5) ≠ 0 then 16 * w18_4.rd (Reg.SLOT_ACT_TIMEOUT 5) else if 5 = 20 ∨ 5 = 21 then 1000000000 else 16 * max 2 ((5 * w18_4.slotPeriod 5 + 64 * w18_4.slotNom 5 - 1) / (64 * w18_4.slotNom 5))) ≤ w18_4.up) ∧
    (w18_4.tb < w18_4.gateEnd 5 + 10240000) ∧
    (w18_8.up < (w18_8.slot 5).idle + if w18_8.rd (Reg.SLOT_ACT_TIMEOUT 5) ≠ 0 then 16 * w18_8.rd (Reg.SLOT_ACT_TIMEOUT 5) else if 5 = 20 ∨ 5 = 21 then 1000000000 else 16 * max 2 ((5 * w18_8.slotPeriod 5 + 64 * w18_8.slotNom 5 - 1) / (64 * w18_8.slotNom 5))) ∧
    (w18_9.gateEnd 5 + 10240000 ≤ w18_9.tb) ∧
    (w18_9.gateReading 5 (w18_9.slot 5).gate = none) ∧
    (w18_10.gateEnd 23 + 10240000 ≤ w18_10.tb) ∧
    (∃ xo path, w18_10.gateReading 23 (w18_10.slot 23).gate = some (xo, path)) := by
  and_intros
  all_goals first
    | decide +kernel
    | exact ⟨_, _, rfl⟩

/-! #### irig -/
def x19_fr (ones : List Nat) : List Nat := (List.range 100).map fun i => if i = 0 ∨ i % 10 = 9 then 2 else if ones.contains i then 1 else 0
def x19_vv (l : List Nat) (f : Fin 8) := (irigDecode l f.val).getD ⟨0,0,0,0,0,0,0,0⟩
def x19_g9 (n : Nat) (l : List Nat) (last : Option (Option Nat × Nat)) (u : Nat) : State := { with1 up [(Reg.SLOT_CFG_IRIG n, 1), (Reg.SLOT_IRIG_STATUS_FRAME_ERR n, 65535)] with up := u, slots := [(n, { irig := { frame := some l, lock := true, good := true, last := last, staged := some (x19_vv l 5), ext := 0xFFFFFFF, cf := 8 } })] }
def x19_big := 10 ^ 13
def x19_ol := x19_fr [30, 1]
def x19_ol2 := x19_fr [30, 34]
def w19_0 : State := up
def w19_1 : State := x19_g9 2 x19_ol none x19_big
def w19_2 : State := x19_g9 2 x19_ol (some (none, 86400)) x19_big
def w19_3 : State := x19_g9 2 x19_ol (some (some 0, 86400)) 4
def w19_5 : State := x19_g9 2 x19_ol (some (none, 86401)) 4
def w19_6 : State := x19_g9 2 [4] (some (none, 86401)) x19_big

theorem witness_irig :
    ((w19_0.slot 2).irig.frame = none) ∧
    (1000000000 ≤ w19_0.up - (w19_0.slot 2).irig.validAt) ∧
    (w19_0.hostReads (Reg.SLOT_IRIG_TOD_DAY 2).addr) ∧
    ((w19_1.slot 2).irig.frame = some x19_ol) ∧
    (irigDecode x19_ol 5 = some (x19_vv x19_ol 5)) ∧
    ((w19_1.slot 2).irig.last = none) ∧
    (5000000 ≤ w19_1.up - (w19_1.slot 2).irig.validAt) ∧
    ((w19_1.slot 2).irig.staged = some (x19_vv x19_ol 5)) ∧
    ((x19_vv x19_ol 5).format < 8) ∧
    ((x19_vv x19_ol 5).day < 512) ∧
    ((x19_vv x19_ol 5).hour < 32) ∧
    ((x19_vv x19_ol 5).min < 64) ∧
    ((x19_vv x19_ol 5).sec < 64) ∧
    ((w19_2.slot 2).irig.frame = some x19_ol) ∧
    (irigDecode x19_ol 5 = some (x19_vv x19_ol 5)) ∧
    (∃ w, (w19_2.slot 2).irig.last = some w ∧ irigNext w (x19_vv x19_ol 5).time = true) ∧
    (w19_3.up - (w19_3.slot 2).irig.validAt < 5000000) ∧
    (w19_3.up - (w19_3.slot 2).irig.validAt < 1000000000) ∧
    ((w19_5.slot 2).irig.frame = some x19_ol) ∧
    (irigDecode x19_ol 2 = some (x19_vv x19_ol 2)) ∧
    (∃ w, (w19_5.slot 2).irig.last = some w ∧ irigNext w (x19_vv x19_ol 2).time = false) ∧
    ((w19_6.slot 2).irig.frame = some [4]) ∧
    (irigDecode [4] 2 = none) := by
  and_intros
  all_goals first
    | decide +kernel
    | exact some_of (by decide +kernel)

/-! #### spares -/
def x20_g1 (k st r : Nat) := { with1 up [(Reg.TDCG_SPARE_STATE k, st), (Reg.TDCG_SPARE_ROLE k, r), (Reg.TDC_CAL_STATUS_TABLE_VALID (48+k), 1), (Reg.TDC_CAL_STATUS_DLL_LOCK r, 1), (Reg.TDC_CAL_STATUS_TABLE_VALID r, 1), (Reg.TDCG_XBAR_CFG_MIRROR_N, 64), (Reg.TDCG_SPARE_SHORT k, 1), (Reg.TDC_CAL_STATUS_REPLACED r, st/2)] with chans := [(7, { added := 3}), (48+k, { added := 9 })] }
def x20_g3 (k st r n : Nat) : State := { x20_g1 k st r with chans := [(r, { added := 3 }), (48+k, { added := 9, mirN := n, mirSum := 700 })] }
def w20_0 : State := x20_g1 2 0 7
def w20_1 : State := x20_g1 2 0 7
def w20_2 : State := x20_g1 2 1 7
def w20_4 : State := x20_g1 2 2 7
def w20_5 : State := x20_g1 2 3 7
def w20_7 : State := x20_g3 2 1 7 64
def w20_8 : State := x20_g3 2 3 7 64

theorem witness_spares :
    (w20_0.hostOpen (Reg.TDCG_SPARE_TAKE 2).addr) ∧
    (w20_0.spareState 2 = 0 ∧ w20_0.rd (Reg.TDC_CAL_STATUS_TABLE_VALID (48 + 2)) ≠ 0 ∧ 47 ≤ 47 ∧ ∀ j < 4, w20_0.spareState j = 0 ∨ w20_0.rd (Reg.TDCG_SPARE_ROLE j) ≠ 47) ∧
    (w20_0.spareState 2 ≠ 2 ∨ w20_0.chanOk (w20_0.spareRole 2) = false ∨ w20_0.rd (Reg.TDC_CAL_STATUS_CAL_BUSY (w20_0.spareRole 2)) ≠ 0) ∧
    ((w20_0.chan (48 + 2)).mirN < w20_0.rd Reg.TDCG_XBAR_CFG_MIRROR_N) ∧
    (w20_1.hostOpen (Reg.TDCG_SPARE_TAKE 2).addr) ∧
    (¬(w20_1.spareState 2 = 0 ∧ w20_1.rd (Reg.TDC_CAL_STATUS_TABLE_VALID (48 + 2)) ≠ 0 ∧ 48 ≤ 47 ∧ ∀ j < 4, w20_1.spareState j = 0 ∨ w20_1.rd (Reg.TDCG_SPARE_ROLE j) ≠ 48)) ∧
    (w20_2.spareState 2 = 1) ∧
    ((w20_2.chan (48 + 2)).mirN < w20_2.rd Reg.TDCG_XBAR_CFG_MIRROR_N ∧ (w20_2.chan (48 + 2)).mirAt + 5000000000 ≤ w20_2.up) ∧
    (w20_4.hostOpen (Reg.TDCG_SPARE_TAKE 2).addr) ∧
    (w20_4.spareState 2 = 2) ∧
    (w20_4.chanOk (w20_4.spareRole 2) = true) ∧
    (w20_4.rd (Reg.TDC_CAL_STATUS_CAL_BUSY (w20_4.spareRole 2)) = 0) ∧
    (w20_5.spareState 2 = 3) ∧
    (w20_5.spareRole 2 < 64) ∧
    ((w20_5.chan (48 + 2)).mirN < w20_5.rd Reg.TDCG_XBAR_CFG_MIRROR_N ∧ (w20_5.chan (48 + 2)).mirAt + 5000000000 ≤ w20_5.up) ∧
    (w20_7.spareState 2 = 1) ∧
    (w20_7.rd Reg.TDCG_XBAR_CFG_MIRROR_N ≤ (w20_7.chan (48 + 2)).mirN) ∧
    (¬((w20_7.chan (48 + 2)).mirN < w20_7.rd Reg.TDCG_XBAR_CFG_MIRROR_N ∧ (w20_7.chan (48 + 2)).mirAt + 5000000000 ≤ w20_7.up)) ∧
    (w20_8.spareState 2 = 3) ∧
    (w20_8.spareRole 2 < 64) ∧
    (w20_8.rd Reg.TDCG_XBAR_CFG_MIRROR_N ≤ (w20_8.chan (48 + 2)).mirN) := by
  and_intros <;> decide +kernel

/-! #### statistics -/
def x21_st0 : Stamp := ⟨5, 0, 0, 0⟩
def x21_g1 (m : Nat) (mode cont: Nat) := { with1 up [(Reg.M_CFG_MODE m, mode), (Reg.M_CFG_CONT m, cont), (Reg.M_STATUS_RUNNING m, 1), (Reg.M_STATUS_SEQ m, 65535), (Reg.M_FNOM_HZ m, 10000000), (Reg.M_LEN_VALUE m, 10)] with grps := [(m, { starts := [x21_st0], stops := [], finished := [(3, { n := 10, x0 := 5, s1 := 7 })], freq := { start := 5, n := 4, sk := 6, skk := 14, st := 30000000, skt := 70000000, stt := 10 ^ 20  } })] }
def w21_0 : State := up
def w21_1 : State := x21_g1 3 3 0
def w21_4 : State := x21_g1 3 1 1
def w21_6 : State := { x21_g1 3 3 1 with tb := 10 ^ 12 }

theorem witness_statistics :
    (w21_0.hostOpen (Reg.M_CMD_START 3).addr) ∧
    (w21_0.grpCfgErr 3 = false) ∧
    (w21_0.parityIn (166400 + 48 * 3) 48 = false) ∧
    (w21_0.hostOpen (statsAddr 3 0)) ∧
    (w21_0.rd (Reg.M_STATUS_RUNNING 3) = 0 ∨ w21_0.rd (Reg.M_CFG_MODE 3) ≠ 3 ∨ w21_0.tb < (w21_0.grp 3).freq.start + ↑(w21_0.rd (Reg.M_LEN_VALUE 3)) * 1024000000) ∧
    (∃ r, List.find? (fun p => p.1 == 3) (w21_1.grp 3).finished = some (3, r) ∧ 2 ≤ r.n) ∧
    (∃ st rest, (w21_1.grp 3).starts = st :: rest ∧ w21_1.tb < st.tb + ↑(w21_1.rd (Reg.M_WINDOW_LSB 3))) ∧
    (w21_4.hostOpen (Reg.M_CMD_START 3).addr) ∧
    (w21_4.grpCfgErr 3 = true) ∧
    (w21_6.rd (Reg.M_STATUS_RUNNING 3) ≠ 0) ∧
    (w21_6.rd (Reg.M_CFG_MODE 3) = 3) ∧
    ((w21_6.grp 3).freq.start + ↑(w21_6.rd (Reg.M_LEN_VALUE 3)) * 1024000000 ≤ w21_6.tb) ∧
    (∃ st rest, (w21_6.grp 3).starts = st :: rest ∧ st.tb + ↑(w21_6.rd (Reg.M_WINDOW_LSB 3)) ≤ w21_6.tb) := by
  and_intros
  all_goals first
    | decide +kernel
    | (refine ⟨_, rfl, ?_⟩; decide +kernel)
    | (refine ⟨_, _, rfl, ?_⟩; decide +kernel)
    | (refine ⟨_, _, rfl, rfl, ?_⟩; decide +kernel)
    | exact ⟨_, _, rfl, by decide +kernel, rfl⟩

/-! #### apll apply -/
def x22_g1 (k : Nat) (nint nf : Nat) (x : ApllSt) := { with1 up [(Reg.APLL_CFG_EN k, 1), (Reg.APLL_FPD_HZ k, 100000000), (Reg.APLL_NINT k, nint), (Reg.APLL_NFRAC_LO_NFRAC k, nf), (Reg.APLL_STATUS_LOCK k, 1)] with aplls := [(k, x)] }
def x22_p1 : Plan := { fpd := 100000000, nint := 110, divs := [4,4,4,4] }
def w22_0 : State := up
def w22_1 : State := x22_g1 3 110 5 {}
def w22_3 : State := x22_g1 8 110 5 { plan := x22_p1 }
def w22_10 : State := { x22_g1 3 110 5 { plan := x22_p1 } with parity := [147456 + 256 * 3 + 4] }
def w22_11 : State := { x22_g1 3 110 5 { plan := x22_p1 } with mapApll := some 3 }

theorem witness_apll_apply :
    (w22_0.hostOpen (Reg.APLL_CMD_APPLY 3).addr) ∧
    (w22_0.rd (Reg.APLL_CMD_APPLY 3) ≠ 0 ∨ ¬w22_0.mapApll = some 3 ∧ w22_0.rd (Reg.APLL_CFG_EN 3) = 0) ∧
    ((w22_1.hostOpen (Reg.APLL_CMD_APPLY 3).addr ∧ w22_1.rd (Reg.APLL_CMD_APPLY 3) = 0 ∧ (w22_1.mapApll = some 3 ∨ w22_1.rd (Reg.APLL_CFG_EN 3) ≠ 0)) ∧ w22_1.parityIn (147456 + 256 * 3) 256 = false) ∧
    (¬w22_1.mapApll = some 3) ∧
    ((w22_1.planCheck 3 (w22_1.shadow 3)).1 = 0) ∧
    ((w22_3.hostOpen (Reg.APLL_CMD_APPLY 8).addr ∧ w22_3.rd (Reg.APLL_CMD_APPLY 8) = 0 ∧ (w22_3.mapApll = some 8 ∨ w22_3.rd (Reg.APLL_CFG_EN 8) ≠ 0)) ∧ w22_3.parityIn (147456 + 256 * 8) 256 = false) ∧
    ((w22_3.planCheck 8 (w22_3.shadow 8)).1 ≠ 0) ∧
    (w22_10.hostOpen (Reg.APLL_CMD_APPLY 3).addr ∧ w22_10.rd (Reg.APLL_CMD_APPLY 3) = 0 ∧ (w22_10.mapApll = some 3 ∨ w22_10.rd (Reg.APLL_CFG_EN 3) ≠ 0)) ∧
    (w22_10.parityIn (147456 + 256 * 3) 256 = true) ∧
    ((w22_11.hostOpen (Reg.APLL_CMD_APPLY 3).addr ∧ w22_11.rd (Reg.APLL_CMD_APPLY 3) = 0 ∧ (w22_11.mapApll = some 3 ∨ w22_11.rd (Reg.APLL_CFG_EN 3) ≠ 0)) ∧ w22_11.parityIn (147456 + 256 * 3) 256 = false) ∧
    (w22_11.mapApll = some 3) ∧
    ((w22_11.planCheck 3 (w22_11.shadow 3)).1 = 0) := by
  and_intros <;> decide +kernel

/-! #### apll lock -/
def x23_p1 : Plan := { fpd := 100000000, nint := 110, divs := [4,4,4,4] }
def x23_g1 (k st : Nat) := { with1 up [(Reg.APLL_CFG_EN k, 1), (Reg.APLL_STATUS_STATE k, st), (Reg.APLL_STATUS_LOCK k, 1), (Reg.APLL_CMD_APPLY k, 1)] with aplls := [(k, { plan := x23_p1, applied := true, hopEnt := 2, lru := [2,1], change := some ⟨.hop, 3, 4, 0, false, true⟩, cache := [(2, { valid := true, band := 77, f := x23_p1.f })] })] , flt := { State.reset.flt with cond := [(25, k)] } }
def x23_g2 (k st : Nat) : State := { x23_g1 k st with aplls := [(k, { plan := x23_p1, applied := true })] }
def w23_0 : State := up
def w23_1 : State := x23_g1 3 1
def w23_2 : State := x23_g1 3 2
def w23_3 : State := x23_g1 3 3
def w23_5 : State := x23_g1 3 5
def w23_6 : State := x23_g1 3 7
def w23_14 : State := { x23_g1 3 1 with aplls := [(3, { plan := { x23_p1 with nint := 103, fpd := 100000000 }, applied := true })] }
def w23_16 : State := { x23_g1 3 3 with timers := [(Timer.settle 3, 10 ^ 13)] }
def w23_17 : State := { x23_g1 3 3 with aplls := [(3, { plan := x23_p1, applied := true, change := some ⟨.hop, 3, 4, 0, false, false⟩ })] }

theorem witness_apll_lock :
    (¬(w23_0.apllState 3 = 5 ∧ w23_0.ratioNow 3 = (w23_0.apll 3).plan.f)) ∧
    (w23_0.rd (Reg.APLL_STATUS_STATE 3) ≠ 2) ∧
    (¬(w23_0.rd (Reg.APLL_STATUS_STATE 3) = 1 ∧ w23_0.rd Reg.DEV_CLK_STATUS_TB_ON_XO = 0 ∧ (9985000000 + 58500000 * 5) * 2 ^ 40 ≤ (w23_0.apll 3).plan.f ∧ (w23_0.apll 3).plan.f ≤ (10075000000 + 58500000 * 5) * 2 ^ 40)) ∧
    (w23_0.rd (Reg.APLL_STATUS_STATE 3) ≠ 2 ∨ w23_0.ran (Timer.hop 3) 30000 = false) ∧
    (w23_0.rd (Reg.APLL_STATUS_STATE 3) ≠ 1 ∨ w23_0.rd Reg.DEV_CLK_STATUS_TB_ON_XO ≠ 0) ∧
    (¬((∀ (c : Change), (w23_0.apll 3).change = some c → c.begun = true) ∧ (w23_0.apllState 3 = 3 ∨ ∃ c, (w23_0.apll 3).change = some c ∧ c.settling = true))) ∧
    (w23_0.apllState 3 ≠ 3) ∧
    (w23_0.rd (Reg.APLL_STATUS_LOCK 3) = 0 ∨ w23_0.rd (Reg.APLL_STATUS_STATE 3) = 6) ∧
    (¬(w23_0.rd (Reg.APLL_STATUS_STATE 3) = 7 ∧ maskBit (w23_0.rd Reg.PWR_RAIL_STATUS_GOOD) 4 = true ∧ w23_0.ran (Timer.retry 3) 10000000 = true)) ∧
    (w23_1.rd (Reg.APLL_STATUS_STATE 3) = 1) ∧
    (w23_1.rd Reg.DEV_CLK_STATUS_TB_ON_XO = 0) ∧
    (w23_1.rd (Reg.APLL_STATUS_LOCK 3) ≠ 0) ∧
    (w23_1.rd (Reg.APLL_STATUS_STATE 3) ≠ 6) ∧
    (w23_2.rd (Reg.APLL_STATUS_STATE 3) = 2) ∧
    (w23_2.ran (Timer.hop 3) 30000 = true) ∧
    (w23_3.ran (Timer.settle 3) (1000 * w23_3.rd (Reg.APLL_CFG_SETTLE (w23_3.apllOf 3))) = true) ∧
    ((∀ (c : Change), (w23_3.apll 3).change = some c → c.begun = true) ∧ (w23_3.apllState 3 = 3 ∨ ∃ c, (w23_3.apll 3).change = some c ∧ c.settling = true)) ∧
    (w23_5.apllState 3 = 5 ∧ w23_5.ratioNow 3 = (w23_5.apll 3).plan.f) ∧
    (w23_6.rd (Reg.APLL_STATUS_STATE 3) = 7 ∧ maskBit (w23_6.rd Reg.PWR_RAIL_STATUS_GOOD) 4 = true ∧ w23_6.ran (Timer.retry 3) 10000000 = true) ∧
    (w23_14.rd (Reg.APLL_STATUS_STATE 3) = 1 ∧ w23_14.rd Reg.DEV_CLK_STATUS_TB_ON_XO = 0 ∧ (9985000000 + 58500000 * 5) * 2 ^ 40 ≤ (w23_14.apll 3).plan.f ∧ (w23_14.apll 3).plan.f ≤ (10075000000 + 58500000 * 5) * 2 ^ 40) ∧
    (¬w23_16.ran (Timer.settle 3) (1000 * w23_16.rd (Reg.APLL_CFG_SETTLE (w23_16.apllOf 3))) = true) ∧
    (w23_17.ran (Timer.settle 3) (1000 * w23_17.rd (Reg.APLL_CFG_SETTLE (w23_17.apllOf 3))) = true) ∧
    (¬∀ (c : Change), (w23_17.apll 3).change = some c → c.begun = true) ∧
    (w23_17.apllState 3 = 3) := by
  and_intros <;> decide +kernel

/-! #### apll commands -/
def x24_p1 : Plan := { fpd := 100000000, nint := 110, divs := [4,4,4,4] }
def x24_g1 (k st : Nat) := { with1 up [(Reg.APLL_CFG_EN k, 1), (Reg.APLL_STATUS_STATE k, st), (Reg.APLL_STATUS_LOCK k, 1), (Reg.APLL_CMD_APPLY k, 1)] with aplls := [(k, { plan := x24_p1, applied := true, hopEnt := 2, lru := [2,1], change := some ⟨.hop, 3, 4, 0, false, true⟩, cache := [(2, { valid := true, band := 77, f := x24_p1.f })] })] , flt := { State.reset.flt with cond := [(25, k)] } }
def x24_g2 (k st : Nat) : State := { x24_g1 k st with aplls := [(k, { plan := x24_p1, applied := true })] }
def w24_0 : State := up
def w24_1 : State := x24_g1 3 1
def w24_14 : State := up
def w24_18 : State := { up with mapApll := some 3 }

theorem witness_apll_commands :
    (w24_0.hostOpen (Reg.APLL_CFG_EN 3).addr) ∧
    (w24_0.rd (Reg.APLL_CFG_EN 3) = 0) ∧
    (¬w24_0.mapApll = some 3) ∧
    (3 < 8) ∧
    (w24_0.hostOpen (Reg.APLL_COVER_APLL 8).addr) ∧
    (w24_0.mapApll = none) ∧
    (w24_0.hostOpen (Reg.APLL_CMD_APPLY 3).addr) ∧
    (w24_1.hostOpen (Reg.APLL_CFG_EN 3).addr) ∧
    (w24_1.rd (Reg.APLL_CFG_EN 3) ≠ 0 ∨ w24_1.mapApll = some 3) ∧
    (w24_1.rd (Reg.APLL_CFG_EN 3) ≠ 0) ∧
    (w24_14.hostOpen (Reg.APLL_CFG_EN 8).addr) ∧
    (w24_14.rd (Reg.APLL_CFG_EN 8) = 0) ∧
    (¬w24_14.mapApll = some 8) ∧
    (w24_18.hostOpen (Reg.APLL_COVER_APLL 8).addr) ∧
    (w24_18.mapApll.isSome = true) := by
  and_intros <;> decide +kernel

/-! #### outputs -/
def x25_g1 (o : Nat) (l : List (Fld × Nat)) (x : OutSt) := { with1 up ([(Reg.OUT_CFG_SRC o, 0), (Reg.OUT_CFG_EN o, 1), (Reg.OUT_PHASE_HI_PHASE o, 5), (Reg.OUT_CFG_AUTO_RETURN o, 1)] ++ l) with outs := [(o, x)] , aplls := [(o/4, { applied := true, plan := { fpd := 100000000, nint := 110, divs := [8,8,8,8] } })]}
def w25_0 : State := up
def w25_1 : State := x25_g1 5 [] {moved := 2, shown := 1 }
def w25_2 : State := x25_g1 5 [(Reg.OUT_CFG_MODE 5, 1)] { moved := 1, lastPulse := some 9 }
def w25_12 : State := x25_g1 5 [] { frozen := some 3 }
def w25_13 : State := x25_g1 5 [] { shown := 0, phase := 700, adjAt := 10 ^ 13 }
def w25_14 : State := { x25_g1 5 [(Reg.OUT_CFG_MODE 5, 1), (Reg.OUT_CFG_SRC 5, 1)] { shown := 1 } with ts := [(0, { val := 10 * 10 ^ 9 * 2 ^ 64 })] }
def w25_15 : State := { x25_g1 5 [(Reg.OUT_CFG_MODE 5, 1), (Reg.OUT_CFG_SRC 5, 1)] { shown := 4 } with ts := [(0, { val := 10 * 10 ^ 9 * 2 ^ 64 })] }

theorem witness_outputs :
    (w25_0.clockDead 5 = false) ∧
    (w25_0.hostOpen (Reg.OUT_CFG_SRC 5).addr) ∧
    (w25_0.mapApll ≠ some (5 / 4)) ∧
    (w25_0.hostOpen (Reg.OUT_PHASE_LO_PHASE 5).addr) ∧
    ((w25_0.outp 5).frozen = none) ∧
    (w25_0.pulsing 5 = false) ∧
    (w25_0.phaseDone 5 = true) ∧
    (¬(w25_0.pulsing 5 = true ∧ w25_0.pulseDue 5 (10#48).toNat = true ∧ (10#48).toNat % max 1 (w25_0.rd (Reg.OUT_PULSE_CFG_EVERY 5)) = 0 ∧ ∀ (l : ℕ), (w25_0.outp 5).lastPulse = some l → l < (10#48).toNat)) ∧
    (w25_1.clockDead 5 = true) ∧
    (w25_2.hostOpen (Reg.OUT_PHASE_LO_PHASE 5).addr) ∧
    ((w25_2.outp 5).frozen = none) ∧
    (w25_2.pulsing 5 = true) ∧
    (w25_12.hostOpen (Reg.OUT_PHASE_LO_PHASE 5).addr) ∧
    ((w25_12.outp 5).frozen.isSome = true) ∧
    (w25_13.phaseDone 5 = false) ∧
    (w25_14.pulsing 5 = true ∧ w25_14.pulseDue 5 (10#48).toNat = true ∧ (10#48).toNat % max 1 (w25_14.rd (Reg.OUT_PULSE_CFG_EVERY 5)) = 0 ∧ ∀ (l : ℕ), (w25_14.outp 5).lastPulse = some l → l < (10#48).toNat) ∧
    (w25_14.srcAct 5 < 2) ∧
    (w25_15.pulsing 5 = true ∧ w25_15.pulseDue 5 (10#48).toNat = true ∧ (10#48).toNat % max 1 (w25_15.rd (Reg.OUT_PULSE_CFG_EVERY 5)) = 0 ∧ ∀ (l : ℕ), (w25_15.outp 5).lastPulse = some l → l < (10#48).toNat) ∧
    (w25_15.srcAct 5 = 4 ∨ w25_15.srcAct 5 = 5) := by
  and_intros <;> decide +kernel

/-! #### timescales and phase steps -/
def x26_g1 (n : Nat) (l : List (Fld × Nat)) := { with1 up ([(Reg.TS_VAL_NS_NS n, 999999999), (Reg.TS_STATUS_REJ n, 1)] ++ l) with ts := [(n, { val := 123456789012345678901234567890123 })], grps := [(3, {})], rings := [(2, {})] }
def w26_0 : State := x26_g1 2 []
def w26_1 : State := x26_g1 2 [(Reg.TS_VAL_NS_NS 2, 1000000000)]
def w26_2 : State := {(x26_g1 2 [(Reg.TS_CFG_AT_EDGE 2, 1)]) with ts := [(2, { pend := some ⟨true, 4, 5⟩ })]}
def w26_3 : State := {(x26_g1 2 [(Reg.TS_CFG_AT_EDGE 2, 1)]) with clk := {}}
def w26_4 : State := with1 up [(Reg.PATH_STEP_STATUS_REJ 2, 1), (Reg.PATH_PHASE_STEP_HI_AMOUNT_HI 2, 65535)]
def w26_5 : State := { up with paths := [(2, { remain := 2^63-1, total := 7, ramp := 8 })] }
def w26_9 : State := { with1 (x26_g1 2 []) [(Reg.TS_VAL_NS_NS 2, 5)] with now := 7, ts := [(2, { val := 99, lastStep := some (7, 5) })] }
def w26_10 : State := { with1 (x26_g1 2 []) [(Reg.TS_VAL_NS_NS 2, 5)] with tb := 2048000000005, ts := [(2, { pend := some ⟨true, 4, 5⟩ })] }

theorem witness_timescales_and_phase_steps :
    (w26_0.hostOpen (Reg.TS_CMD_SET 2).addr ∧ w26_0.clk.time ≠ TimeSrc.stopped ∧ w26_0.rd (Reg.TS_VAL_NS_NS 2) < 10 ^ 9 ∧ w26_0.parityIn (196608 + 64 * 2) 64 = false) ∧
    (w26_0.rd (Reg.TS_CFG_AT_EDGE 2) = 0) ∧
    (Option.any (fun e => decide (e.1 = w26_0.now)) (w26_0.tscale 2).lastStep = false) ∧
    (w26_0.hostOpen (Reg.TS_CMD_SET 2).addr) ∧
    (Option.any (fun c => decide (c.since + 2048000000000 ≤ w26_0.tb)) (w26_0.tscale 2).pend = false) ∧
    (w26_1.hostOpen (Reg.TS_CMD_SET 2).addr) ∧
    (w26_1.clk.time ≠ TimeSrc.stopped) ∧
    (10 ^ 9 ≤ w26_1.rd (Reg.TS_VAL_NS_NS 2)) ∧
    (w26_2.hostOpen (Reg.TS_CMD_SET 2).addr ∧ w26_2.clk.time ≠ TimeSrc.stopped ∧ w26_2.rd (Reg.TS_VAL_NS_NS 2) < 10 ^ 9 ∧ w26_2.parityIn (196608 + 64 * 2) 64 = false) ∧
    (w26_2.rd (Reg.TS_CFG_AT_EDGE 2) ≠ 0) ∧
    (w26_3.hostOpen (Reg.TS_CMD_SET 2).addr) ∧
    (w26_3.clk.time = TimeSrc.stopped) ∧
    (w26_4.hostOpen (Reg.PATH_PHASE_STEP_LO_AMOUNT_LO 2).addr) ∧
    (-2 ^ 63 ≤ (w26_4.path 2).remain + toSigned 48 (w26_4.rd (Reg.PATH_PHASE_STEP_HI_AMOUNT_HI 2) * 2 ^ 32 + (5#32).toNat) * 2 ^ 16 ∧ (w26_4.path 2).remain + toSigned 48 (w26_4.rd (Reg.PATH_PHASE_STEP_HI_AMOUNT_HI 2) * 2 ^ 32 + (5#32).toNat) * 2 ^ 16 < 2 ^ 63) ∧
    (w26_4.hostOpen (Reg.PATH_STEP_CMD_CANCEL 2).addr) ∧
    (w26_4.timeClocked = true ∧ w26_4.rd (Reg.PATH_STEP_CFG_MODE 2) = 0 ∧ w26_4.pathHeld 2 = false ∧ ↑(w26_4.path 2).remain.natAbs ≤ slewDue 1 2 w26_4) ∧
    (w26_5.hostOpen (Reg.PATH_PHASE_STEP_LO_AMOUNT_LO 2).addr) ∧
    (¬(-2 ^ 63 ≤ (w26_5.path 2).remain + toSigned 48 (w26_5.rd (Reg.PATH_PHASE_STEP_HI_AMOUNT_HI 2) * 2 ^ 32 + (4294967295#32).toNat) * 2 ^ 16 ∧ (w26_5.path 2).remain + toSigned 48 (w26_5.rd (Reg.PATH_PHASE_STEP_HI_AMOUNT_HI 2) * 2 ^ 32 + (4294967295#32).toNat) * 2 ^ 16 < 2 ^ 63)) ∧
    (¬(w26_5.timeClocked = true ∧ w26_5.rd (Reg.PATH_STEP_CFG_MODE 2) = 0 ∧ w26_5.pathHeld 2 = false ∧ ↑(w26_5.path 2).remain.natAbs ≤ slewDue 1 2 w26_5)) ∧
    (w26_9.hostOpen (Reg.TS_CMD_SET 2).addr ∧ w26_9.clk.time ≠ TimeSrc.stopped ∧ w26_9.rd (Reg.TS_VAL_NS_NS 2) < 10 ^ 9 ∧ w26_9.parityIn (196608 + 64 * 2) 64 = false) ∧
    (w26_9.rd (Reg.TS_CFG_AT_EDGE 2) = 0) ∧
    (Option.any (fun e => decide (e.1 = w26_9.now)) (w26_9.tscale 2).lastStep = true) ∧
    (Option.any (fun c => decide (c.since + 2048000000000 ≤ w26_10.tb)) (w26_10.tscale 2).pend = true) := by
  and_intros <;> decide +kernel

/-! #### triggers and uarts -/
def x27_g1 (g : Nat) (l : List (Fld × Nat)) (t : Nat) := { with1 up ([(Reg.TG_CFG_EN g, 1), (Reg.TG_CFG_ACTION g, 1), (Reg.TG_PARAM_NS g, 5), (Reg.TG_TIME_HI_T g, 9)] ++ l) with tg := [(g, { active := true, t := t }), (30, {})], ts := [(0, { val := 3 * 2 ^ 80 })] }
def x27_ar := [(Reg.TG_STATUS_ARMED 7, 1)]
def x27_arl := [(Reg.TG_STATUS_ARMED 7, 1), (Reg.TG_CFG_LATE 7, 1)]
def x27_g0 (l : List (Fld × Nat)) (t : Nat) := (x27_g1 7 l t).wr (Reg.TG_CFG_ACTION 7) 0
def w27_0 : State := x27_g0 x27_ar (3 * 2 ^ 32)
def w27_5 : State := up
def w27_14 : State := up
def w27_15 : State := { with1 up [(Reg.DEV_UART_CFG_EN 1, 1)] with commons := [(uartCountWord 1, 600)] }

theorem witness_triggers_and_uarts :
    (w27_0.hostOpen (Reg.TG_TIME_LO_T 7).addr) ∧
    (w27_0.rd (Reg.TG_CFG_EN 7) ≠ 0 ∧ w27_0.trigCfgErr 7 = false ∧ w27_0.trigParity 7 = false) ∧
    (w27_0.hostOpen (Reg.TG_CFG_EN 7).addr) ∧
    (w27_0.rd (Reg.TG_STATUS_ARMED 7) ≠ 0 ∧ w27_0.timeClocked = true ∧ 0 < 5 * Machine.sdiff (wtOf (tsAdd (w27_0.tscale (w27_0.rd (Reg.TG_CFG_TS 7))).val (w27_0.perTick (w27_0.tsInc (w27_0.rd (Reg.TG_CFG_TS 7)))))) (w27_0.trig 7).t + w27_0.trigLat5 7) ∧
    ((w27_0.trig 7).active = true ∧ Machine.sdiff (w27_0.trig 7).stop (w27_0.trig 7).start ≤ 131072 * ↑(w27_0.now - (w27_0.trig 7).order)) ∧
    (w27_5.hostOpen (Reg.TG_TIME_LO_T 7).addr) ∧
    (¬(w27_5.rd (Reg.TG_CFG_EN 7) ≠ 0 ∧ w27_5.trigCfgErr 7 = false ∧ w27_5.trigParity 7 = false)) ∧
    (¬(w27_5.rd (Reg.TG_STATUS_ARMED 7) ≠ 0 ∧ w27_5.timeClocked = true ∧ 0 < 5 * Machine.sdiff (wtOf (tsAdd (w27_5.tscale (w27_5.rd (Reg.TG_CFG_TS 7))).val (w27_5.perTick (w27_5.tsInc (w27_5.rd (Reg.TG_CFG_TS 7)))))) (w27_5.trig 7).t + w27_5.trigLat5 7)) ∧
    (¬((w27_5.trig 7).active = true ∧ Machine.sdiff (w27_5.trig 7).stop (w27_5.trig 7).start ≤ 131072 * ↑(w27_5.now - (w27_5.trig 7).order))) ∧
    (w27_14.hostOpen (Reg.DEV_UART_CFG_EN 1).addr) ∧
    (¬(w27_14.rd (Reg.DEV_UART_CFG_EN 1) ≠ 0 ∧ w27_14.uartCfgErr 1 = false ∧ w27_14.rd Reg.PWR_STATUS_STATE = 0)) ∧
    (w27_15.rd (Reg.DEV_UART_CFG_EN 1) ≠ 0 ∧ w27_15.uartCfgErr 1 = false ∧ w27_15.rd Reg.PWR_STATUS_STATE = 0) := by
  and_intros <;> decide +kernel

/-! #### dram and rings -/
def x28_rdy : List (Fld × Nat) := [(Reg.EVR_STATUS_READY, 1), (Reg.HOST_STATUS_PCIE_LINK, 1)]
def x28_g1 : State := { with1 up x28_rdy with dram := { mem := [(0, 5), (2, 0x123456789ABCDEF0)] } }
def x28_g2 (r : Nat) (l : List (Fld × Nat)) (x : RingSt) : State := { with1 up ([(Reg.EVR_RING_SIZE_UNITS r, 2), (Reg.EVR_RING_BASE_UNITS r, 4)] ++ l) with rings := [(r, x)] }
def w28_0 : State := { up with dram := x28_g1.dram }
def w28_1 : State := with1 x28_g1 [(Reg.EVR_CTRL_SCRUB_EN, 1), (Reg.EVR_ECC_CORR, 2^20)]
def w28_2 : State := with1 x28_g1 [(Reg.EVR_CTRL_SCRUB_EN, 1)]
def w28_3 : State := x28_g2 3 [] {}
def w28_4 : State := x28_g2 3 x28_rdy {}
def w28_5 : State := x28_g2 3 ([(Reg.EVR_RING_BASE_UNITS 3, 2047)] ++ x28_rdy) {}
def w28_6 : State := x28_g2 3 ([(Reg.EVR_RING_CFG_EN 3, 1), (Reg.EVR_RING_WR_OFFSET 3, 16)] ++ x28_rdy) { size := 131072, wait := true }
def w28_10 : State := with1 x28_g1 [(Reg.EVR_CTRL_SCRUB_EN, 1)]
def w28_12 : State := with1 x28_g1 x28_rdy
def w28_13 : State := with1 x28_g1 x28_rdy
def w28_14 : State := up
def w28_15 : State := with1 x28_g1 x28_rdy
def w28_16 : State := with1 up [(Reg.HOST_STATUS_PCIE_LINK, 1)]

/-- Word 5's row is marked; how many spare rows a part has left, the spec leaves to the part. -/
def w_dram_due : State := { w28_1 with dram := { w28_1.dram with due := [Config.dramRow (5#24).toNat] } }

theorem witness_dram_replaces (h : 0 < Config.dramSparesLeft) :
    w_dram_due.rd Reg.EVR_CTRL_SCRUB_EN ≠ 0 ∧ w_dram_due.rd Reg.EVR_STATUS_READY ≠ 0 ∧
    Config.dramRow (5#24).toNat ∈ w_dram_due.dram.due ∧ w_dram_due.rowSpare = true :=
  ⟨by decide +kernel, by decide +kernel, List.mem_singleton.2 rfl, decide_eq_true h⟩

theorem witness_dram_and_rings :
    (w28_0.sysLocked = true ∧ w28_0.rd Reg.EVR_STATUS_READY = 0 ∧ Option.map Prod.fst w28_0.bist ≠ some 4) ∧
    (¬(w28_0.rd Reg.EVR_CTRL_SCRUB_EN ≠ 0 ∧ w28_0.rd Reg.EVR_STATUS_READY ≠ 0)) ∧
    (¬(w28_1.sysLocked = true ∧ w28_1.rd Reg.EVR_STATUS_READY = 0 ∧ Option.map Prod.fst w28_1.bist ≠ some 4)) ∧
    (w28_1.rd Reg.EVR_CTRL_SCRUB_EN ≠ 0 ∧ w28_1.rd Reg.EVR_STATUS_READY ≠ 0) ∧
    (¬(Config.dramRow (5#24).toNat ∈ w28_1.dram.due ∧ w28_1.rowSpare = true)) ∧
    (w28_1.dramFinds (5#24).toNat Ecc.single = Ecc.single) ∧
    (w28_2.rd Reg.EVR_CTRL_SCRUB_EN ≠ 0 ∧ w28_2.rd Reg.EVR_STATUS_READY ≠ 0) ∧
    (¬(Config.dramRow (16777215#24).toNat ∈ w28_2.dram.due ∧ w28_2.rowSpare = true)) ∧
    (w28_2.dramFinds (16777215#24).toNat Ecc.double = Ecc.double) ∧
    (w28_3.hostOpen (Reg.EVR_RING_CFG_EN 3).addr ∧ w28_3.rd (Reg.EVR_RING_CFG_EN 3) = 0) ∧
    (w28_3.ringConflict 3 { base := w28_3.rd (Reg.EVR_RING_BASE_UNITS 3) * 65536, size := w28_3.rd (Reg.EVR_RING_SIZE_UNITS 3) * 65536, compact := w28_3.bit (Reg.EVR_RING_CFG_FORMAT 3), overwrite := w28_3.bit (Reg.EVR_RING_CFG_POLICY 3), ts := w28_3.rd (Reg.EVR_RING_CFG_TS 3), lost := (w28_3.ring 3).lost } = false) ∧
    (¬(w28_3.rd Reg.EVR_STATUS_READY ≠ 0 ∧ w28_3.parityIn 253952 384 = false)) ∧
    ((w28_3.ring 3).wait = false ∨ ¬(w28_3.rd Reg.EVR_STATUS_READY ≠ 0 ∧ w28_3.parityIn 253952 384 = false)) ∧
    (w28_3.hostOpen (Reg.EVR_RING_CFG_EN 3).addr) ∧
    (w28_3.hostOpen (Reg.EVR_RING_RD_OFFSET 3).addr) ∧
    (¬((8#27).toNat % 8 = 0 ∧ w28_3.rd (Reg.EVR_RING_CFG_STREAM 3) = 0 ∧ ((8#27).toNat = w28_3.rd (Reg.EVR_RING_RD_OFFSET 3) ∨ (8#27).toNat < (w28_3.ring 3).size ∧ ringUsed (w28_3.ring 3).size (w28_3.rd (Reg.EVR_RING_RD_OFFSET 3)) (8#27).toNat ≤ ringUsed (w28_3.ring 3).size (w28_3.rd (Reg.EVR_RING_RD_OFFSET 3)) (w28_3.rd (Reg.EVR_RING_WR_OFFSET 3))))) ∧
    (w28_4.hostOpen (Reg.EVR_RING_CFG_EN 3).addr ∧ w28_4.rd (Reg.EVR_RING_CFG_EN 3) = 0) ∧
    (w28_4.ringConflict 3 { base := w28_4.rd (Reg.EVR_RING_BASE_UNITS 3) * 65536, size := w28_4.rd (Reg.EVR_RING_SIZE_UNITS 3) * 65536, compact := w28_4.bit (Reg.EVR_RING_CFG_FORMAT 3), overwrite := w28_4.bit (Reg.EVR_RING_CFG_POLICY 3), ts := w28_4.rd (Reg.EVR_RING_CFG_TS 3), lost := (w28_4.ring 3).lost } = false) ∧
    (w28_4.rd Reg.EVR_STATUS_READY ≠ 0 ∧ w28_4.parityIn 253952 384 = false) ∧
    (w28_5.hostOpen (Reg.EVR_RING_CFG_EN 3).addr ∧ w28_5.rd (Reg.EVR_RING_CFG_EN 3) = 0) ∧
    (w28_5.ringConflict 3 { base := w28_5.rd (Reg.EVR_RING_BASE_UNITS 3) * 65536, size := w28_5.rd (Reg.EVR_RING_SIZE_UNITS 3) * 65536, compact := w28_5.bit (Reg.EVR_RING_CFG_FORMAT 3), overwrite := w28_5.bit (Reg.EVR_RING_CFG_POLICY 3), ts := w28_5.rd (Reg.EVR_RING_CFG_TS 3), lost := (w28_5.ring 3).lost } = true) ∧
    (w28_6.hostOpen (Reg.EVR_RING_CFG_EN 3).addr) ∧
    (w28_6.rd (Reg.EVR_RING_CFG_EN 3) ≠ 0) ∧
    ((w28_6.ring 3).wait = true) ∧
    (w28_6.rd Reg.EVR_STATUS_READY ≠ 0 ∧ w28_6.parityIn 253952 384 = false) ∧
    (w28_6.hostOpen (Reg.EVR_RING_RD_OFFSET 3).addr) ∧
    ((8#27).toNat % 8 = 0 ∧ w28_6.rd (Reg.EVR_RING_CFG_STREAM 3) = 0 ∧ ((8#27).toNat = w28_6.rd (Reg.EVR_RING_RD_OFFSET 3) ∨ (8#27).toNat < (w28_6.ring 3).size ∧ ringUsed (w28_6.ring 3).size (w28_6.rd (Reg.EVR_RING_RD_OFFSET 3)) (8#27).toNat ≤ ringUsed (w28_6.ring 3).size (w28_6.rd (Reg.EVR_RING_RD_OFFSET 3)) (w28_6.rd (Reg.EVR_RING_WR_OFFSET 3)))) ∧
    (w28_10.rd Reg.EVR_CTRL_SCRUB_EN ≠ 0 ∧ w28_10.rd Reg.EVR_STATUS_READY ≠ 0) ∧
    (¬(Config.dramRow (5#24).toNat ∈ w28_10.dram.due ∧ w28_10.rowSpare = true)) ∧
    (w28_10.dramFinds (5#24).toNat Ecc.ok = Ecc.ok) ∧
    (w28_12.pcieUp = true ∧ w28_12.rd Reg.EVR_STATUS_READY ≠ 0 ∧ w28_12.reachable 25 = true) ∧
    (w28_12.dramFinds ((16#27).toNat / 8) Ecc.single = Ecc.single) ∧
    (w28_13.pcieUp = true ∧ w28_13.rd Reg.EVR_STATUS_READY ≠ 0 ∧ w28_13.reachable 25 = true) ∧
    (w28_13.dramFinds ((16#27).toNat / 8) Ecc.double = Ecc.double) ∧
    (w28_14.pcieUp = false) ∧
    (w28_15.pcieUp = true ∧ w28_15.rd Reg.EVR_STATUS_READY ≠ 0 ∧ w28_15.reachable 25 = true) ∧
    (w28_15.dramFinds ((16#27).toNat / 8) Ecc.ok = Ecc.ok) ∧
    (w28_16.pcieUp = true) ∧
    (¬(w28_16.pcieUp = true ∧ w28_16.rd Reg.EVR_STATUS_READY ≠ 0 ∧ w28_16.reachable 25 = true)) := by
  and_intros <;> decide +kernel

/-! #### records and streams -/
def x29_g1 (r : Nat) (l : List (Fld × Nat)) (x : RingSt) : State := { with1 up (l ++ [(Reg.EVR_ROLE_MAP_EN2 1, 1), (Reg.EVR_ROLE_MAP_RING2 1, r), (Reg.EVR_GROUP_MAP_EN1 1, 1), (Reg.EVR_GROUP_MAP_RING1 1, r)]) with rings := [(r, x)], roles := [(10, { fifo := [⟨5, 77, 3, 9⟩, ⟨6, 78, 4, 10⟩] })], grps := [(9, { recs := [⟨5, 77, 6, 300, -9⟩] })], dram := { mem := [(8192, 3)] }, ts := [(0, {val := 123456789012345678901})] }
def x29_rg : RingSt := { run := true, base := 65536, size := 65536, written := 5 }
def x29_st1 (l) (x) := with1 (x29_g1 4 l x) [(Reg.EVR_RING_CFG_STREAM 4, 1), (Reg.EVR_RING_CFG_PORT 4, 1), (Reg.EVR_RING_CFG_QUEUE 4, 2), (Reg.ETH_STATUS_LINK 1, 1), (Reg.ETH_MAC_MAXLEN 1, 128)]
def x29_sv (k : Nat) (s : State) : State := { s with dram := { s.dram with served := k } }
def w29_0 : State := up
def w29_1 : State := x29_g1 4 [(Reg.EVR_RING_WR_OFFSET 4, 16)] x29_rg
def w29_3 : State := x29_g1 4 [(Reg.EVR_RING_WR_OFFSET 4, 1584), (Reg.EVR_RING_RD_OFFSET 4, 1600)] x29_rg
def w29_5 : State := x29_g1 4 [(Reg.EVR_RING_WR_OFFSET 4, 1584), (Reg.EVR_RING_RD_OFFSET 4, 16000)] { x29_rg with steps := 1 }
def w29_6 : State := x29_g1 4 [(Reg.EVR_RING_WR_OFFSET 4, 1584), (Reg.EVR_RING_RD_OFFSET 4, 16000)] { x29_rg with written := 0 }
def w29_8 : State := x29_sv 12 (x29_g1 4 [(Reg.EVR_RING_WR_OFFSET 4, 1584), (Reg.EVR_RING_RD_OFFSET 4, 16000)] x29_rg)
def w29_10 : State := x29_g1 4 [(Reg.EVR_RING_WR_OFFSET 4, 1584), (Reg.EVR_RING_RD_OFFSET 4, 16000)] {}
def w29_11 : State := x29_st1 [(Reg.EVR_RING_WR_OFFSET 4, 1600), (Reg.EVR_RING_RD_OFFSET 4, 160)] x29_rg
def w29_12 : State := x29_st1 [(Reg.EVR_RING_WR_OFFSET 4, 176), (Reg.EVR_RING_RD_OFFSET 4, 160)] { x29_rg with seq := 2^32-1, compact := true }
def w29_15 : State := x29_st1 [(Reg.EVR_RING_WR_OFFSET 4, 160), (Reg.EVR_RING_RD_OFFSET 4, 160)] x29_rg

theorem witness_records_and_streams :
    (w29_0.nextSource ≠ some 10) ∧
    (w29_0.nextSource ≠ some (48 + 9)) ∧
    ((w29_0.ring 4).run = false ∨ (w29_0.ring 4).steps = 0 ∧ w29_0.indexAnchor 4 = false) ∧
    (w29_1.nextSource = some 10) ∧
    (w29_1.roleRing 10 = some 4) ∧
    (((w29_1.ring 4).run = true ∧ (w29_1.ring 4).compact = false ∧ (w29_1.ring 4).overwrite = false ∧ (w29_1.ring 4).lost = 0) ∧ (w29_1.ring 4).steps = 0 ∧ (w29_1.ring 4).owed = false ∧ w29_1.indexAnchor 4 = false) ∧
    ((w29_1.role 10).lostCount = 0) ∧
    (ringUsed (w29_1.ring 4).size (w29_1.rd (Reg.EVR_RING_RD_OFFSET 4)) (w29_1.rd (Reg.EVR_RING_WR_OFFSET 4)) + 32 ≤ (w29_1.ring 4).size ∧ w29_1.rd (Reg.EVR_RING_WR_OFFSET 4) + 16 ≤ (w29_1.ring 4).size) ∧
    (∃ st rest, (w29_1.role 10).fifo = st :: rest) ∧
    (w29_3.nextSource = some 10) ∧
    (w29_3.roleRing 10 = some 4) ∧
    (((w29_3.ring 4).run = true ∧ (w29_3.ring 4).compact = false ∧ (w29_3.ring 4).overwrite = false ∧ (w29_3.ring 4).lost = 0) ∧ (w29_3.ring 4).steps = 0 ∧ (w29_3.ring 4).owed = false ∧ w29_3.indexAnchor 4 = false) ∧
    ((w29_3.role 10).lostCount = 0) ∧
    ((w29_3.ring 4).size < ringUsed (w29_3.ring 4).size (w29_3.rd (Reg.EVR_RING_RD_OFFSET 4)) (w29_3.rd (Reg.EVR_RING_WR_OFFSET 4)) + 32) ∧
    (∃ st rest, (w29_3.role 10).fifo = st :: rest) ∧
    ((w29_5.ring 4).run = true ∧ (w29_5.ring 4).compact = false ∧ (w29_5.ring 4).overwrite = false ∧ (w29_5.ring 4).lost = 0) ∧
    ((w29_5.ring 4).steps = 1) ∧
    (((w29_5.ring 4).written + 1) % 2 ^ 20 ≠ 0) ∧
    (ringUsed (w29_5.ring 4).size (w29_5.rd (Reg.EVR_RING_RD_OFFSET 4)) (w29_5.rd (Reg.EVR_RING_WR_OFFSET 4)) + 32 ≤ (w29_5.ring 4).size ∧ w29_5.rd (Reg.EVR_RING_WR_OFFSET 4) + 16 ≤ (w29_5.ring 4).size) ∧
    ((w29_6.ring 4).run = true ∧ (w29_6.ring 4).compact = false ∧ (w29_6.ring 4).overwrite = false ∧ (w29_6.ring 4).lost = 0) ∧
    ((w29_6.ring 4).steps = 0) ∧
    (w29_6.indexAnchor 4 = true) ∧
    (ringUsed (w29_6.ring 4).size (w29_6.rd (Reg.EVR_RING_RD_OFFSET 4)) (w29_6.rd (Reg.EVR_RING_WR_OFFSET 4)) + 32 ≤ (w29_6.ring 4).size ∧ w29_6.rd (Reg.EVR_RING_WR_OFFSET 4) + 16 ≤ (w29_6.ring 4).size) ∧
    (w29_8.nextSource = some (48 + 9)) ∧
    (w29_8.groupRing 9 = some 4) ∧
    (((w29_8.ring 4).run = true ∧ (w29_8.ring 4).compact = false ∧ (w29_8.ring 4).overwrite = false ∧ (w29_8.ring 4).lost = 0) ∧ (w29_8.ring 4).steps = 0 ∧ (w29_8.ring 4).owed = false ∧ w29_8.indexAnchor 4 = false) ∧
    (ringUsed (w29_8.ring 4).size (w29_8.rd (Reg.EVR_RING_RD_OFFSET 4)) (w29_8.rd (Reg.EVR_RING_WR_OFFSET 4)) + 32 ≤ (w29_8.ring 4).size ∧ w29_8.rd (Reg.EVR_RING_WR_OFFSET 4) + 16 ≤ (w29_8.ring 4).size) ∧
    (∃ i rest, (w29_8.grp 9).recs = i :: rest ∧ tabGet 0 i.pos (w29_8.grp 9).posLost = 0) ∧
    (w29_10.nextSource = some 10) ∧
    (w29_10.roleRing 10 = none ∨ w29_10.roleRing 10 = some 4 ∧ (w29_10.ring 4).run = false) ∧
    (∃ st rest, (w29_10.role 10).fifo = st :: rest) ∧
    (w29_11.rd (Reg.EVR_RING_CFG_STREAM 4) ≠ 0 ∧ w29_11.rd (Reg.ETH_STATUS_LINK (w29_11.rd (Reg.EVR_RING_CFG_PORT 4))) ≠ 0 ∧ (w29_11.txq (w29_11.rd (Reg.EVR_RING_CFG_PORT 4)) (w29_11.rd (Reg.EVR_RING_CFG_QUEUE 4))).stream = none ∧ (w29_11.takeRecords (w29_11.ring 4) (w29_11.rd (Reg.EVR_RING_WR_OFFSET 4)) ((w29_11.maxLen (w29_11.rd (Reg.EVR_RING_CFG_PORT 4)) - 70) / 8) (w29_11.startBefore (w29_11.ring 4) (w29_11.rd (Reg.EVR_RING_RD_OFFSET 4)) ((w29_11.ring 4).size / 8) ((w29_11.ring 4).mark, (w29_11.ring 4).markIdx)).1 (w29_11.maxLen (w29_11.rd (Reg.EVR_RING_CFG_PORT 4)) - 70)).1 ≠ []) ∧
    ((w29_11.takeRecords (w29_11.ring 4) (w29_11.rd (Reg.EVR_RING_WR_OFFSET 4)) ((w29_11.maxLen (w29_11.rd (Reg.EVR_RING_CFG_PORT 4)) - 70) / 8) (w29_11.startBefore (w29_11.ring 4) (w29_11.rd (Reg.EVR_RING_RD_OFFSET 4)) ((w29_11.ring 4).size / 8) ((w29_11.ring 4).mark, (w29_11.ring 4).markIdx)).1 (w29_11.maxLen (w29_11.rd (Reg.EVR_RING_CFG_PORT 4)) - 70)).2.1 ≠ w29_11.rd (Reg.EVR_RING_WR_OFFSET 4)) ∧
    (¬(w29_12.rd (Reg.EVR_RING_CFG_STREAM 4) ≠ 0 ∧ w29_12.rd (Reg.ETH_STATUS_LINK (w29_12.rd (Reg.EVR_RING_CFG_PORT 4))) ≠ 0 ∧ (w29_12.txq (w29_12.rd (Reg.EVR_RING_CFG_PORT 4)) (w29_12.rd (Reg.EVR_RING_CFG_QUEUE 4))).stream = none ∧ (w29_12.takeRecords (w29_12.ring 4) (w29_12.rd (Reg.EVR_RING_WR_OFFSET 4)) ((w29_12.maxLen (w29_12.rd (Reg.EVR_RING_CFG_PORT 4)) - 70) / 8) (w29_12.startBefore (w29_12.ring 4) (w29_12.rd (Reg.EVR_RING_RD_OFFSET 4)) ((w29_12.ring 4).size / 8) ((w29_12.ring 4).mark, (w29_12.ring 4).markIdx)).1 (w29_12.maxLen (w29_12.rd (Reg.EVR_RING_CFG_PORT 4)) - 70)).1 ≠ []) ∨ (w29_12.takeRecords (w29_12.ring 4) (w29_12.rd (Reg.EVR_RING_WR_OFFSET 4)) ((w29_12.maxLen (w29_12.rd (Reg.EVR_RING_CFG_PORT 4)) - 70) / 8) (w29_12.startBefore (w29_12.ring 4) (w29_12.rd (Reg.EVR_RING_RD_OFFSET 4)) ((w29_12.ring 4).size / 8) ((w29_12.ring 4).mark, (w29_12.ring 4).markIdx)).1 (w29_12.maxLen (w29_12.rd (Reg.EVR_RING_CFG_PORT 4)) - 70)).2.1 = w29_12.rd (Reg.EVR_RING_WR_OFFSET 4)) ∧
    (¬(w29_15.rd (Reg.EVR_RING_CFG_STREAM 4) ≠ 0 ∧ w29_15.rd (Reg.ETH_STATUS_LINK (w29_15.rd (Reg.EVR_RING_CFG_PORT 4))) ≠ 0 ∧ (w29_15.txq (w29_15.rd (Reg.EVR_RING_CFG_PORT 4)) (w29_15.rd (Reg.EVR_RING_CFG_QUEUE 4))).stream = none ∧ (w29_15.takeRecords (w29_15.ring 4) (w29_15.rd (Reg.EVR_RING_WR_OFFSET 4)) ((w29_15.maxLen (w29_15.rd (Reg.EVR_RING_CFG_PORT 4)) - 70) / 8) (w29_15.startBefore (w29_15.ring 4) (w29_15.rd (Reg.EVR_RING_RD_OFFSET 4)) ((w29_15.ring 4).size / 8) ((w29_15.ring 4).mark, (w29_15.ring 4).markIdx)).1 (w29_15.maxLen (w29_15.rd (Reg.EVR_RING_CFG_PORT 4)) - 70)).1 ≠ [])) := by
  and_intros
  all_goals first
    | decide +kernel
    | exact ⟨_, _, rfl⟩
    | (refine ⟨_, _, rfl, ?_⟩; decide +kernel)
    | (refine ⟨_, _, rfl, rfl, ?_⟩; decide +kernel)
    | exact ⟨_, _, rfl, by decide +kernel, rfl⟩

/-! #### port link -/
def x30_g1 (n : Nat) (l : List (Fld × Nat)) (x : PortSt) := { with1 up ([(Reg.ETH_CTRL_EN n, 1), (Reg.ETH_STATUS_AN_DONE n, 1), (Reg.ETH_STATUS_LOCAL_FAULT n, 1), (Reg.ETH_SYNCE_RXCLK_EN n, 1), (Reg.ETH_STATUS_RXCLK_OK n, 1)] ++ l) with ports := [(n, x)] }
def x30_ln : OnLine := ⟨5, { data := [1, 2] }, [1, 2, 3], 4, false, false, false⟩
def w30_0 : State := up
def w30_1 : State := x30_g1 2 [(Reg.ETH_STATUS_PCS_LOCK 2, 1), (Reg.ETH_STATUS_LINK 2, 1), (Reg.ETH_LINK_DOWN_COUNT 2, 65535)] {}
def w30_2 : State := x30_g1 2 [(Reg.ETH_STATUS_PCS_LOCK 2, 1), (Reg.ETH_STATUS_LINK 2, 1), (Reg.ETH_STATUS_FEC_LOCK 2, 1), (Reg.ETH_LINK_DOWN_COUNT 2, 65535)] {mode := 1, fec := true}
def w30_3 : State := x30_g1 2 [(Reg.ETH_STATUS_PCS_LOCK 2, 1), (Reg.ETH_STATUS_FEC_LOCK 2, 1), (Reg.ETH_LINK_DOWN_COUNT 2, 65535)] {mode := 0, an := true}
def w30_5 : State := x30_g1 2 [(Reg.ETH_STATUS_PCS_LOCK 2, 1), (Reg.ETH_STATUS_LINK 2, 1), (Reg.ETH_LINK_DOWN_COUNT 2, 65535)] { line := some x30_ln }

theorem witness_port_link :
    (w30_0.hostOpen (Reg.ETH_CTRL_EN 2).addr) ∧
    (w30_0.rd (Reg.ETH_CTRL_EN 2) = 0) ∧
    (w30_0.rd (Reg.ETH_STATUS_LINK 2) = 0) ∧
    (¬(w30_0.rd (Reg.ETH_CTRL_EN 2) ≠ 0 ∧ ({ w30_0 with clk := { w30_0.clk with stopped := maskClr w30_0.clk.stopped (26 + 2) } } : State).portLives 2 = true ∧ (true = true → w30_0.fecUsed 2 = true))) ∧
    (¬(w30_0.rd (Reg.ETH_CTRL_EN 2) ≠ 0 ∧ w30_0.portLives 2 = true ∧ (w30_0.port 2).an = true ∧ w30_0.lineMode 2 = 0)) ∧
    (¬(w30_0.locked 2 = true ∧ w30_0.portLives 2 = true ∧ ((w30_0.port 2).an = true → w30_0.lineMode 2 = 0 → w30_0.rd (Reg.ETH_STATUS_AN_DONE 2) ≠ 0) ∧ 5000000 ≤ w30_0.up - (w30_0.port 2).linkAt ∧ w30_0.rd (Reg.ETH_STATUS_LINK 2) = 0)) ∧
    (¬((LinkCause.an = LinkCause.an → (w30_0.port 2).an = true ∧ w30_0.lineMode 2 = 0) ∧ (LinkCause.an = LinkCause.localFault ∨ LinkCause.an = LinkCause.remoteFault → w30_0.lineMode 2 ≠ 0))) ∧
    (¬(true = true ∧ w30_0.rd (Reg.ETH_CTRL_EN 2) ≠ 0 ∧ w30_0.rd (Reg.ETH_STATUS_PCS_LOCK 2) ≠ 0 ∧ w30_0.fecUsed 2 = false)) ∧
    (¬(w30_0.locked 2 = true ∧ w30_0.portLives 2 = true ∧ w30_0.rd (Reg.ETH_SYNCE_RXCLK_EN 2) ≠ 0 ∧ (w30_0.port 2).loop = false ∧ 5000000 ≤ w30_0.up - (w30_0.port 2).lockAt)) ∧
    (w30_1.hostOpen (Reg.ETH_CTRL_EN 2).addr) ∧
    (w30_1.rd (Reg.ETH_CTRL_EN 2) ≠ 0) ∧
    (w30_1.rd (Reg.ETH_STATUS_LINK 2) ≠ 0) ∧
    ((w30_1.port 2).line = none) ∧
    (w30_1.rd (Reg.ETH_CTRL_EN 2) ≠ 0 ∧ ({ w30_1 with clk := { w30_1.clk with stopped := maskClr w30_1.clk.stopped (26 + 2) } } : State).portLives 2 = true ∧ (false = true → w30_1.fecUsed 2 = true)) ∧
    ((LinkCause.localFault = LinkCause.an → (w30_1.port 2).an = true ∧ w30_1.lineMode 2 = 0) ∧ (LinkCause.localFault = LinkCause.localFault ∨ LinkCause.localFault = LinkCause.remoteFault → w30_1.lineMode 2 ≠ 0)) ∧
    (¬(false = true ∧ w30_1.rd (Reg.ETH_CTRL_EN 2) ≠ 0 ∧ w30_1.rd (Reg.ETH_STATUS_PCS_LOCK 2) ≠ 0 ∧ w30_1.fecUsed 2 = false)) ∧
    (w30_1.locked 2 = true ∧ w30_1.portLives 2 = true ∧ w30_1.rd (Reg.ETH_SYNCE_RXCLK_EN 2) ≠ 0 ∧ (w30_1.port 2).loop = false ∧ 5000000 ≤ w30_1.up - (w30_1.port 2).lockAt) ∧
    (true = true ∧ w30_2.rd (Reg.ETH_CTRL_EN 2) ≠ 0 ∧ w30_2.rd (Reg.ETH_STATUS_PCS_LOCK 2) ≠ 0 ∧ w30_2.fecUsed 2 = false) ∧
    (w30_3.rd (Reg.ETH_CTRL_EN 2) ≠ 0 ∧ w30_3.portLives 2 = true ∧ (w30_3.port 2).an = true ∧ w30_3.lineMode 2 = 0) ∧
    (w30_3.locked 2 = true ∧ w30_3.portLives 2 = true ∧ ((w30_3.port 2).an = true → w30_3.lineMode 2 = 0 → w30_3.rd (Reg.ETH_STATUS_AN_DONE 2) ≠ 0) ∧ 5000000 ≤ w30_3.up - (w30_3.port 2).linkAt ∧ w30_3.rd (Reg.ETH_STATUS_LINK 2) = 0) ∧
    ((LinkCause.lock = LinkCause.an → (w30_3.port 2).an = true ∧ w30_3.lineMode 2 = 0) ∧ (LinkCause.lock = LinkCause.localFault ∨ LinkCause.lock = LinkCause.remoteFault → w30_3.lineMode 2 ≠ 0)) ∧
    (w30_3.rd (Reg.ETH_STATUS_LINK 2) = 0) ∧
    (w30_5.hostOpen (Reg.ETH_CTRL_EN 2).addr) ∧
    (w30_5.rd (Reg.ETH_STATUS_LINK 2) ≠ 0) ∧
    (∃ l, (w30_5.port 2).line = some l) ∧
    ((LinkCause.localFault = LinkCause.an → (w30_5.port 2).an = true ∧ w30_5.lineMode 2 = 0) ∧ (LinkCause.localFault = LinkCause.localFault ∨ LinkCause.localFault = LinkCause.remoteFault → w30_5.lineMode 2 ≠ 0)) ∧
    (¬(false = true ∧ w30_5.rd (Reg.ETH_CTRL_EN 2) ≠ 0 ∧ w30_5.rd (Reg.ETH_STATUS_PCS_LOCK 2) ≠ 0 ∧ w30_5.fecUsed 2 = false)) := by
  and_intros
  all_goals first
    | decide +kernel
    | exact Option.isSome_iff_exists.1 (by decide +kernel)

/-! #### receive -/
def x31_fr (d : BitVec 8) (k : Nat) : RxIn := { bytes := [d,0xFF,0xFF,0xFF,0xFF,0xFF, 2,0,0,0,0,5, 0x08, 0x00] ++ List.replicate k 7, bad := false, t := 99999, codeErrs := 3 }
def x31_g1 (n : Nat) (l : List (Fld × Nat)) (x : PortSt) := { with1 up ([(Reg.ETH_CTRL_EN n, 1), (Reg.ETH_STATUS_LINK n, 1), (Reg.ETH_STATUS_PCS_LOCK n, 1), (Reg.ETH_RXQ_CFG_EN n 0, 1), (Reg.ETH_RXQ_CFG_QUOTA n 0, 8), (Reg.ETH_RXQ_CFG_SIZE_LOG n 0, 4), (Reg.ETH_RXQ_CFG_BUF_LOG n 0, 11), (Reg.HOST_STATUS_PCIE_LINK, 1), (Reg.HOST_STATUS_BME, 1)] ++ l) with ports := [(n, x)] }
def x31_raw (d : List (BitVec 8)) : List (BitVec 8) := d ++ fcsOf d
def x31_whole (d : BitVec 8) (ty : Nat) (k : Nat) : RxIn := { bytes := x31_raw ([d,0xFF,0xFF,0xFF,0xFF,0xFF, 2,0,0,0,0,5, BitVec.ofNat 8 (ty / 256), BitVec.ofNat 8 ty] ++ List.replicate k 7), bad := false, t := 99999, codeErrs := 3 }
def w31_0 : State := up
def w31_1 : State := x31_g1 2 [] {}
def w31_3 : State := x31_g1 2 [] {}
def w31_6 : State := { x31_g1 2 [] {} with clk := { up.clk with stopped := 2 ^ 28 } }
def w31_7_f : RxIn := x31_whole 1 0x8808 60
def w31_7 : State := x31_g1 2 [] {}
def w31_8_f : RxIn := x31_whole 1 0x88B5 60
def w31_8 : State := { x31_g1 0 [(Reg.ETH_WAKE_CFG_EN 0, 1)] {} with clk := { up.clk with stopped := 2 ^ 26 } }
def w31_9_f : RxIn := x31_whole 2 0x0800 60
def w31_9 : State := x31_g1 2 [] {}
def w31_10_f : RxIn := x31_whole 1 0x0800 60
def w31_10 : State := x31_g1 2 [(Reg.ETH_CTRL_PROMISC 2, 1), (Reg.ETH_RXQ_CFG_EN 2 0, 0)] {}
def w31_11_f : RxIn := x31_whole 1 0x0800 60
def w31_11 : State := x31_g1 2 [(Reg.ETH_CTRL_PROMISC 2, 1)] {}
def w31_12_f : RxIn := x31_whole 1 0x0800 60
def w31_12 : State := x31_g1 2 [(Reg.ETH_CTRL_PROMISC 2, 1), (Reg.ETH_RXQ_PTR_TAIL 2 0, 3)] { rx := [(0, { bufs := [4096, 8192] })] }

theorem witness_receive :
    (¬((w31_0.port 2).loop = false ∧ w31_0.rd (Reg.ETH_STATUS_LINK 2) ≠ 0)) ∧
    (w31_0.hostOpen (Reg.ETH_WAKE_CFG_CLR 0).addr) ∧
    (((w31_1.port 2).loop = false ∧ w31_1.rd (Reg.ETH_STATUS_LINK 2) ≠ 0) ∧ w31_1.portLives 2 = true ∧ ¬(2 = 0 ∧ w31_1.rd (Reg.ETH_WAKE_CFG_EN 0) ≠ 0 ∧ w31_1.lineMode 0 ≠ 2 ∧ rxDamaged (x31_fr (2#8) 2) = false ∧ etherType (x31_fr (2#8) 2).bytes = 34997 ∧ ∀ i < 128, maskBit (w31_1.rd (Reg.ETH_WAKE_MASK_MASK 0 (i / 32))) (i % 32) = true → i < (x31_fr (2#8) 2).bytes.length ∧ byteAt (x31_fr (2#8) 2).bytes i = w31_1.rd (Reg.ETH_WAKE_PAT_BYTES 0 (i / 4)) / 2 ^ (8 * (i % 4)) % 256)) ∧
    ((x31_fr (2#8) 2).bytes.length < 18) ∧
    (((w31_3.port 2).loop = false ∧ w31_3.rd (Reg.ETH_STATUS_LINK 2) ≠ 0) ∧ w31_3.portLives 2 = true ∧ ¬(2 = 0 ∧ w31_3.rd (Reg.ETH_WAKE_CFG_EN 0) ≠ 0 ∧ w31_3.lineMode 0 ≠ 2 ∧ rxDamaged (x31_fr (1#8) 60) = false ∧ etherType (x31_fr (1#8) 60).bytes = 34997 ∧ ∀ i < 128, maskBit (w31_3.rd (Reg.ETH_WAKE_MASK_MASK 0 (i / 32))) (i % 32) = true → i < (x31_fr (1#8) 60).bytes.length ∧ byteAt (x31_fr (1#8) 60).bytes i = w31_3.rd (Reg.ETH_WAKE_PAT_BYTES 0 (i / 4)) / 2 ^ (8 * (i % 4)) % 256)) ∧
    (18 ≤ (x31_fr (1#8) 60).bytes.length) ∧
    ((x31_fr (1#8) 60).bytes.length < 64 ∨ w31_3.frameLimit 2 (isTagged (x31_fr (1#8) 60).bytes) < (x31_fr (1#8) 60).bytes.length ∨ rxDamaged (x31_fr (1#8) 60) = true) ∧
    (¬beRead (x31_fr (1#8) 60).bytes 12 2 = 34824) ∧
    (w31_3.accepts 2 (x31_fr (1#8) 60).bytes = true) ∧
    (w31_3.rd (Reg.ETH_RX_ERR_DELIVER 2) = 0) ∧
    ((w31_6.port 2).loop = false ∧ w31_6.rd (Reg.ETH_STATUS_LINK 2) ≠ 0) ∧
    (w31_6.portLives 2 = false) ∧
    (¬(2 = 0 ∧ w31_6.rd (Reg.ETH_WAKE_CFG_EN 0) ≠ 0 ∧ w31_6.lineMode 0 ≠ 2 ∧ rxDamaged (x31_fr (2#8) 2) = false ∧ etherType (x31_fr (2#8) 2).bytes = 34997 ∧ ∀ i < 128, maskBit (w31_6.rd (Reg.ETH_WAKE_MASK_MASK 0 (i / 32))) (i % 32) = true → i < (x31_fr (2#8) 2).bytes.length ∧ byteAt (x31_fr (2#8) 2).bytes i = w31_6.rd (Reg.ETH_WAKE_PAT_BYTES 0 (i / 4)) / 2 ^ (8 * (i % 4)) % 256)) ∧
    (((w31_7.port 2).loop = false ∧ w31_7.rd (Reg.ETH_STATUS_LINK 2) ≠ 0) ∧ w31_7.portLives 2 = true ∧ ¬(2 = 0 ∧ w31_7.rd (Reg.ETH_WAKE_CFG_EN 0) ≠ 0 ∧ w31_7.lineMode 0 ≠ 2 ∧ rxDamaged w31_7_f = false ∧ etherType w31_7_f.bytes = 34997 ∧ ∀ i < 128, maskBit (w31_7.rd (Reg.ETH_WAKE_MASK_MASK 0 (i / 32))) (i % 32) = true → i < w31_7_f.bytes.length ∧ byteAt w31_7_f.bytes i = w31_7.rd (Reg.ETH_WAKE_PAT_BYTES 0 (i / 4)) / 2 ^ (8 * (i % 4)) % 256)) ∧
    (18 ≤ w31_7_f.bytes.length) ∧
    (beRead w31_7_f.bytes 12 2 = 34824) ∧
    ((w31_8.port 0).loop = false ∧ w31_8.rd (Reg.ETH_STATUS_LINK 0) ≠ 0) ∧
    (w31_8.portLives 0 = false) ∧
    (0 = 0 ∧ w31_8.rd (Reg.ETH_WAKE_CFG_EN 0) ≠ 0 ∧ w31_8.lineMode 0 ≠ 2 ∧ rxDamaged w31_8_f = false ∧ etherType w31_8_f.bytes = 34997 ∧ ∀ i < 128, maskBit (w31_8.rd (Reg.ETH_WAKE_MASK_MASK 0 (i / 32))) (i % 32) = true → i < w31_8_f.bytes.length ∧ byteAt w31_8_f.bytes i = w31_8.rd (Reg.ETH_WAKE_PAT_BYTES 0 (i / 4)) / 2 ^ (8 * (i % 4)) % 256) ∧
    ((((w31_9.port 2).loop = false ∧ w31_9.rd (Reg.ETH_STATUS_LINK 2) ≠ 0) ∧ w31_9.portLives 2 = true ∧ ¬(2 = 0 ∧ w31_9.rd (Reg.ETH_WAKE_CFG_EN 0) ≠ 0 ∧ w31_9.lineMode 0 ≠ 2 ∧ rxDamaged w31_9_f = false ∧ etherType w31_9_f.bytes = 34997 ∧ ∀ i < 128, maskBit (w31_9.rd (Reg.ETH_WAKE_MASK_MASK 0 (i / 32))) (i % 32) = true → i < w31_9_f.bytes.length ∧ byteAt w31_9_f.bytes i = w31_9.rd (Reg.ETH_WAKE_PAT_BYTES 0 (i / 4)) / 2 ^ (8 * (i % 4)) % 256)) ∧ 18 ≤ w31_9_f.bytes.length ∧ ¬(w31_9_f.bytes.length < 64 ∨ w31_9.frameLimit 2 (isTagged w31_9_f.bytes) < w31_9_f.bytes.length ∨ rxDamaged w31_9_f = true) ∧ ¬beRead w31_9_f.bytes 12 2 = 34824) ∧
    (w31_9.accepts 2 w31_9_f.bytes = false) ∧
    (((((w31_10.port 2).loop = false ∧ w31_10.rd (Reg.ETH_STATUS_LINK 2) ≠ 0) ∧ w31_10.portLives 2 = true ∧ ¬(2 = 0 ∧ w31_10.rd (Reg.ETH_WAKE_CFG_EN 0) ≠ 0 ∧ w31_10.lineMode 0 ≠ 2 ∧ rxDamaged w31_10_f = false ∧ etherType w31_10_f.bytes = 34997 ∧ ∀ i < 128, maskBit (w31_10.rd (Reg.ETH_WAKE_MASK_MASK 0 (i / 32))) (i % 32) = true → i < w31_10_f.bytes.length ∧ byteAt w31_10_f.bytes i = w31_10.rd (Reg.ETH_WAKE_PAT_BYTES 0 (i / 4)) / 2 ^ (8 * (i % 4)) % 256)) ∧ 18 ≤ w31_10_f.bytes.length ∧ ¬(w31_10_f.bytes.length < 64 ∨ w31_10.frameLimit 2 (isTagged w31_10_f.bytes) < w31_10_f.bytes.length ∨ rxDamaged w31_10_f = true) ∧ ¬beRead w31_10_f.bytes 12 2 = 34824) ∧ w31_10.accepts 2 w31_10_f.bytes = true ∧ w31_10.authCheck 2 (List.take (w31_10_f.bytes.length - 4) w31_10_f.bytes) < 2) ∧
    (¬(w31_10.rd (Reg.ETH_RXQ_CFG_EN 2 ((Option.map (fun k => w31_10.rd (Reg.ETH_CLASS_QUEUE 2 k)) (List.find? (fun k => w31_10.ruleMatches 2 k w31_10_f.bytes) (List.range 8))).getD 0)) ≠ 0 ∧ w31_10.rxCfgErr 2 ((Option.map (fun k => w31_10.rd (Reg.ETH_CLASS_QUEUE 2 k)) (List.find? (fun k => w31_10.ruleMatches 2 k w31_10_f.bytes) (List.range 8))).getD 0) = false ∧ w31_10.rxHeld 2 ((Option.map (fun k => w31_10.rd (Reg.ETH_CLASS_QUEUE 2 k)) (List.find? (fun k => w31_10.ruleMatches 2 k w31_10_f.bytes) (List.range 8))).getD 0) + w31_10_f.bytes.length ≤ w31_10.rd (Reg.ETH_RXQ_CFG_QUOTA 2 ((Option.map (fun k => w31_10.rd (Reg.ETH_CLASS_QUEUE 2 k)) (List.find? (fun k => w31_10.ruleMatches 2 k w31_10_f.bytes) (List.range 8))).getD 0)) * 4096)) ∧
    (((((w31_11.port 2).loop = false ∧ w31_11.rd (Reg.ETH_STATUS_LINK 2) ≠ 0) ∧ w31_11.portLives 2 = true ∧ ¬(2 = 0 ∧ w31_11.rd (Reg.ETH_WAKE_CFG_EN 0) ≠ 0 ∧ w31_11.lineMode 0 ≠ 2 ∧ rxDamaged w31_11_f = false ∧ etherType w31_11_f.bytes = 34997 ∧ ∀ i < 128, maskBit (w31_11.rd (Reg.ETH_WAKE_MASK_MASK 0 (i / 32))) (i % 32) = true → i < w31_11_f.bytes.length ∧ byteAt w31_11_f.bytes i = w31_11.rd (Reg.ETH_WAKE_PAT_BYTES 0 (i / 4)) / 2 ^ (8 * (i % 4)) % 256)) ∧ 18 ≤ w31_11_f.bytes.length ∧ ¬(w31_11_f.bytes.length < 64 ∨ w31_11.frameLimit 2 (isTagged w31_11_f.bytes) < w31_11_f.bytes.length ∨ rxDamaged w31_11_f = true) ∧ ¬beRead w31_11_f.bytes 12 2 = 34824) ∧ w31_11.accepts 2 w31_11_f.bytes = true ∧ w31_11.authCheck 2 (List.take (w31_11_f.bytes.length - 4) w31_11_f.bytes) < 2) ∧
    (w31_11.rd (Reg.ETH_RXQ_CFG_EN 2 ((Option.map (fun k => w31_11.rd (Reg.ETH_CLASS_QUEUE 2 k)) (List.find? (fun k => w31_11.ruleMatches 2 k w31_11_f.bytes) (List.range 8))).getD 0)) ≠ 0 ∧ w31_11.rxCfgErr 2 ((Option.map (fun k => w31_11.rd (Reg.ETH_CLASS_QUEUE 2 k)) (List.find? (fun k => w31_11.ruleMatches 2 k w31_11_f.bytes) (List.range 8))).getD 0) = false ∧ w31_11.rxHeld 2 ((Option.map (fun k => w31_11.rd (Reg.ETH_CLASS_QUEUE 2 k)) (List.find? (fun k => w31_11.ruleMatches 2 k w31_11_f.bytes) (List.range 8))).getD 0) + w31_11_f.bytes.length ≤ w31_11.rd (Reg.ETH_RXQ_CFG_QUOTA 2 ((Option.map (fun k => w31_11.rd (Reg.ETH_CLASS_QUEUE 2 k)) (List.find? (fun k => w31_11.ruleMatches 2 k w31_11_f.bytes) (List.range 8))).getD 0)) * 4096) ∧
    ((w31_11.rxq 2 ((Option.map (fun k => w31_11.rd (Reg.ETH_CLASS_QUEUE 2 k)) (List.find? (fun k => w31_11.ruleMatches 2 k w31_11_f.bytes) (List.range 8))).getD 0)).wait = []) ∧
    (w31_11.rd (Reg.ETH_RXQ_PTR_HEAD 2 ((Option.map (fun k => w31_11.rd (Reg.ETH_CLASS_QUEUE 2 k)) (List.find? (fun k => w31_11.ruleMatches 2 k w31_11_f.bytes) (List.range 8))).getD 0)) = w31_11.rd (Reg.ETH_RXQ_PTR_TAIL 2 ((Option.map (fun k => w31_11.rd (Reg.ETH_CLASS_QUEUE 2 k)) (List.find? (fun k => w31_11.ruleMatches 2 k w31_11_f.bytes) (List.range 8))).getD 0))) ∧
    (((((w31_12.port 2).loop = false ∧ w31_12.rd (Reg.ETH_STATUS_LINK 2) ≠ 0) ∧ w31_12.portLives 2 = true ∧ ¬(2 = 0 ∧ w31_12.rd (Reg.ETH_WAKE_CFG_EN 0) ≠ 0 ∧ w31_12.lineMode 0 ≠ 2 ∧ rxDamaged w31_12_f = false ∧ etherType w31_12_f.bytes = 34997 ∧ ∀ i < 128, maskBit (w31_12.rd (Reg.ETH_WAKE_MASK_MASK 0 (i / 32))) (i % 32) = true → i < w31_12_f.bytes.length ∧ byteAt w31_12_f.bytes i = w31_12.rd (Reg.ETH_WAKE_PAT_BYTES 0 (i / 4)) / 2 ^ (8 * (i % 4)) % 256)) ∧ 18 ≤ w31_12_f.bytes.length ∧ ¬(w31_12_f.bytes.length < 64 ∨ w31_12.frameLimit 2 (isTagged w31_12_f.bytes) < w31_12_f.bytes.length ∨ rxDamaged w31_12_f = true) ∧ ¬beRead w31_12_f.bytes 12 2 = 34824) ∧ w31_12.accepts 2 w31_12_f.bytes = true ∧ w31_12.authCheck 2 (List.take (w31_12_f.bytes.length - 4) w31_12_f.bytes) < 2) ∧
    (w31_12.rd (Reg.ETH_RXQ_CFG_EN 2 ((Option.map (fun k => w31_12.rd (Reg.ETH_CLASS_QUEUE 2 k)) (List.find? (fun k => w31_12.ruleMatches 2 k w31_12_f.bytes) (List.range 8))).getD 0)) ≠ 0 ∧ w31_12.rxCfgErr 2 ((Option.map (fun k => w31_12.rd (Reg.ETH_CLASS_QUEUE 2 k)) (List.find? (fun k => w31_12.ruleMatches 2 k w31_12_f.bytes) (List.range 8))).getD 0) = false ∧ w31_12.rxHeld 2 ((Option.map (fun k => w31_12.rd (Reg.ETH_CLASS_QUEUE 2 k)) (List.find? (fun k => w31_12.ruleMatches 2 k w31_12_f.bytes) (List.range 8))).getD 0) + w31_12_f.bytes.length ≤ w31_12.rd (Reg.ETH_RXQ_CFG_QUOTA 2 ((Option.map (fun k => w31_12.rd (Reg.ETH_CLASS_QUEUE 2 k)) (List.find? (fun k => w31_12.ruleMatches 2 k w31_12_f.bytes) (List.range 8))).getD 0)) * 4096) ∧
    ((w31_12.rxq 2 ((Option.map (fun k => w31_12.rd (Reg.ETH_CLASS_QUEUE 2 k)) (List.find? (fun k => w31_12.ruleMatches 2 k w31_12_f.bytes) (List.range 8))).getD 0)).wait = []) ∧
    (w31_12.rd (Reg.ETH_RXQ_PTR_HEAD 2 ((Option.map (fun k => w31_12.rd (Reg.ETH_CLASS_QUEUE 2 k)) (List.find? (fun k => w31_12.ruleMatches 2 k w31_12_f.bytes) (List.range 8))).getD 0)) ≠ w31_12.rd (Reg.ETH_RXQ_PTR_TAIL 2 ((Option.map (fun k => w31_12.rd (Reg.ETH_CLASS_QUEUE 2 k)) (List.find? (fun k => w31_12.ruleMatches 2 k w31_12_f.bytes) (List.range 8))).getD 0))) ∧
    ((w31_12.rxq 2 ((Option.map (fun k => w31_12.rd (Reg.ETH_CLASS_QUEUE 2 k)) (List.find? (fun k => w31_12.ruleMatches 2 k w31_12_f.bytes) (List.range 8))).getD 0)).lesson = false) ∧
    (w31_12.busMaster = true) := by
  and_intros <;> decide +kernel

/-! #### queue commands -/
def x32_g1 (n : Nat) (l : List (Fld × Nat)) (x : PortSt) := { with1 up ([(Reg.ETH_CTRL_EN n, 1), (Reg.ETH_STATUS_LINK n, 1), (Reg.ETH_STATUS_PCS_LOCK n, 1), (Reg.ETH_RXQ_CFG_EN n 0, 1), (Reg.ETH_RXQ_CFG_QUOTA n 0, 8), (Reg.ETH_RXQ_CFG_SIZE_LOG n 0, 4), (Reg.ETH_TXQ_CFG_SIZE_LOG n 0, 4), (Reg.ETH_RXQ_CFG_BUF_LOG n 0, 11), (Reg.ETH_RXQ_CFG_OWNER n 0, 1)] ++ l) with ports := [(n, x)] }
def w32_0 : State := up
def w32_1 : State := x32_g1 2 [] {}
def w32_3 : State := x32_g1 2 [] {tx := [(5, { lesson := true, head := some {} }), (1, {})]}
def w32_5 : State := x32_g1 2 [(Reg.ETH_TXQ_CFG_EN 2 0, 1)] { rx := [(0, { lesson := true })] }

theorem witness_queue_commands :
    (w32_0.hostOpen (queueAddr 2 (QueueId.tx 0))) ∧
    (w32_0.rd (Reg.ETH_TXQ_CFG_EN 2 0) = 0) ∧
    (w32_0.hostOpen (queueAddr 2 (QueueId.rx 0))) ∧
    (w32_0.rd (Reg.ETH_RXQ_CFG_EN 2 0) = 0) ∧
    (w32_0.hostOpen (queueAddr 2 (QueueId.tx 0) + 12)) ∧
    ((w32_0.txq 2 0).lesson = false) ∧
    (w32_0.hostOpen (queueAddr 2 (QueueId.rx 0) + 12)) ∧
    ((w32_0.rxq 2 0).lesson = false) ∧
    ((w32_0.rxq 2 0).wait = []) ∧
    (w32_1.hostOpen (queueAddr 2 (QueueId.rx 0))) ∧
    (w32_1.rd (Reg.ETH_RXQ_CFG_EN 2 0) ≠ 0) ∧
    (w32_3.hostOpen (queueAddr 2 (QueueId.tx 5) + 12)) ∧
    ((w32_3.txq 2 5).lesson = true) ∧
    (w32_5.hostOpen (queueAddr 2 (QueueId.tx 0))) ∧
    (w32_5.rd (Reg.ETH_TXQ_CFG_EN 2 0) ≠ 0) ∧
    (w32_5.hostOpen (queueAddr 2 (QueueId.rx 0) + 12)) ∧
    ((w32_5.rxq 2 0).lesson = true) := by
  and_intros <;> decide +kernel

/-! #### transmit -/
def x33_g1 (n : Nat) (l : List (Fld × Nat)) (x : PortSt) := { with1 up ([(Reg.ETH_CTRL_EN n, 1), (Reg.ETH_STATUS_LINK n, 1), (Reg.ETH_STATUS_PCS_LOCK n, 1), (Reg.ETH_TXQ_CFG_EN n 5, 1), (Reg.ETH_TXQ_CFG_SIZE_LOG n 5, 4), (Reg.ETH_TXQ_PTR_TAIL n 5, 4), (Reg.ETH_TXQ_PTR_HEAD n 5, 3), (Reg.HOST_STATUS_PCIE_LINK, 1), (Reg.HOST_STATUS_BME, 1)] ++ l) with ports := [(n, x)], hostMem := [(5,5)], ts := [(2, { val := 0x1234567 })] }
def x33_hd : TxHead := { data := List.replicate 70 5, id := 9 }
def x33_de (len : Nat) (fl : Nat) : TxDesc := ⟨List.replicate 8 7 ++ [BitVec.ofNat 8 len, 0, BitVec.ofNat 8 fl, 0, 4, 5, 0, 0] ++ List.replicate 8 1 ++ List.replicate 8 0, List.replicate len 9⟩
def x33_ol : OnLine := ⟨5, x33_hd, [1,2,3], 77, false, false, false⟩
def x33_ptp : TxDesc := ⟨(x33_de 80 0).desc, List.replicate 12 1 ++ [0x88, 0xF7, 0x00, 2] ++ List.replicate 64 0⟩
def w33_0 : State := up
def w33_1 : State := x33_g1 2 [] {}
def w33_3 : State := x33_g1 2 [] {}
def w33_4 : State := x33_g1 2 [(Reg.ETH_TXQ_PTR_HEAD 2 5, 15)] { tx := [(5, { head := some { x33_hd with launch := some 5 } })] }
def w33_5 : State := x33_g1 2 [] { tx := [(5, { head := some { x33_hd with buffered := true, oneStep := true } })] }
def w33_7 : State := x33_g1 2 [] { line := some x33_ol, tx := [(5, { head := some { x33_hd with buffered := true } })] }
def w33_10 : State := x33_g1 2 [(Reg.PTP_CFG_FORCE_PASSIVE 2, 1)] {}
def w33_11 : State := x33_g1 2 [(Reg.HOST_STATUS_BME, 1)] { tx := [(5, { head := some x33_hd })] }
def w33_12 : State := x33_g1 2 [] { releases := [5], tx := [(5, { head := some { x33_hd with buffered := true } })] }
def w33_13 : State := x33_g1 2 [(Reg.ETH_TXQ_CFG_LATE_DROP 2 5, 1), (Reg.ETH_TXQ_CFG_LATE_TOL 2 5, 0)] { mode := 0, tx := [(5, { head := some { x33_hd with buffered := true, eligible := true, launch := some 5 } })] }
def w33_16 : State := x33_g1 2 [] { loop := true, line := some x33_ol, tx := [(5, { head := some { x33_hd with buffered := true } })] }
def w33_17 : State := x33_g1 2 [(Reg.ETH_TX_THRESH_UNITS 2, 255)] { loop := true, line := some x33_ol, tx := [(5, { head := some { x33_hd with buffered := true } })] }
def w33_20 : State := x33_g1 2 [(Reg.ETH_MAC_MAXLEN 2, 64)] {  }

theorem witness_transmit :
    (¬(w33_0.txqRuns 2 5 = true ∧ (w33_0.txq 2 5).head = none)) ∧
    (¬(w33_0.txqRuns 2 5 = true ∧ w33_0.sending 2 5 = false) ∨ (w33_0.txq 2 5).head = none) ∧
    (¬(w33_0.txqRuns 2 5 = true ∧ w33_0.sending 2 5 = false)) ∧
    (w33_0.portLives 2 = false ∨ (w33_0.txq 2 5).head = none ∨ ∃ h, (w33_0.txq 2 5).head = some h ∧ ∀ (at' : ℕ), h.launch = some at' → ¬0 ≤ 25 * Machine.sdiff (w33_0.portWt 2 (w33_0.tb * 64)) at' + 8 * w33_0.byteTime 2) ∧
    (¬((w33_0.port 2).line = none ∧ w33_0.rd (Reg.ETH_STATUS_LINK 2) ≠ 0 ∧ w33_0.portLives 2 = true ∧ w33_0.atBoundary 2 123456789 = true ∧ w33_0.parityIn (212992 + 1024 * 2) 640 = false ∧ w33_0.parityIn (229376 + 256 * 2) 112 = false) ∨ List.find? (fun k => Option.any (fun h => h.buffered) (w33_0.offer 2 k)) (w33_0.port 2).releases = none ∧ List.find? (fun k => w33_0.mayStart 2 k 123456789) (List.range 8).reverse = none) ∧
    ((w33_0.port 2).line = none ∨ w33_0.portLives 2 = false) ∧
    (w33_1.txqRuns 2 5 = true ∧ (w33_1.txq 2 5).head = none) ∧
    ((w33_1.txq 2 5).lesson = false) ∧
    (leRead (x33_de 20 7).desc 8 2 ≠ 0 ∧ byteAt (x33_de 20 7).desc 10 < 8 ∧ byteAt (x33_de 20 7).desc 11 = 0 ∧ byteAt (x33_de 20 7).desc 15 = 0 ∧ leRead (x33_de 20 7).desc 24 8 = 0) ∧
    ((List.take (leRead (x33_de 20 7).desc 8 2) (x33_de 20 7).data ++ List.replicate (max 60 (leRead (x33_de 20 7).desc 8 2) - (List.take (leRead (x33_de 20 7).desc 8 2) (x33_de 20 7).data).length) 0#8).length + 4 ≤ w33_1.frameLimit 2 (isTagged (List.take (leRead (x33_de 20 7).desc 8 2) (x33_de 20 7).data ++ List.replicate (max 60 (leRead (x33_de 20 7).desc 8 2) - (List.take (leRead (x33_de 20 7).desc 8 2) (x33_de 20 7).data).length) 0#8))) ∧
    (¬(w33_1.gated 2 = true ∧ isTimeMessage (List.take (leRead (x33_de 20 7).desc 8 2) (x33_de 20 7).data ++ List.replicate (max 60 (leRead (x33_de 20 7).desc 8 2) - (List.take (leRead (x33_de 20 7).desc 8 2) (x33_de 20 7).data).length) 0#8) = true)) ∧
    (w33_1.txqRuns 2 5 = true ∧ w33_1.sending 2 5 = false) ∧
    (w33_3.txqRuns 2 5 = true ∧ (w33_3.txq 2 5).head = none) ∧
    ((w33_3.txq 2 5).lesson = false) ∧
    (¬(leRead (x33_de 0 4).desc 8 2 ≠ 0 ∧ byteAt (x33_de 0 4).desc 10 < 8 ∧ byteAt (x33_de 0 4).desc 11 = 0 ∧ byteAt (x33_de 0 4).desc 15 = 0 ∧ leRead (x33_de 0 4).desc 24 8 = 0)) ∧
    (w33_4.txqRuns 2 5 = true ∧ w33_4.sending 2 5 = false) ∧
    (∃ h, (w33_4.txq 2 5).head = some h ∧ (if w33_4.storeForward 2 h = true then h.data.length else min (max 1 (w33_4.rd (Reg.ETH_TX_THRESH_UNITS 2)) * 64) h.data.length) ≤ 100) ∧
    (w33_4.portLives 2 = true) ∧
    (∃ h at', (w33_4.txq 2 5).head = some h ∧ h.launch = some at' ∧ 0 ≤ 25 * Machine.sdiff (w33_4.portWt 2 (w33_4.tb * 64)) at' + 8 * w33_4.byteTime 2) ∧
    ((w33_5.port 2).line = none ∧ w33_5.rd (Reg.ETH_STATUS_LINK 2) ≠ 0 ∧ w33_5.portLives 2 = true ∧ w33_5.atBoundary 2 123456789 = true ∧ w33_5.parityIn (212992 + 1024 * 2) 640 = false ∧ w33_5.parityIn (229376 + 256 * 2) 112 = false) ∧
    (List.find? (fun k => Option.any (fun h => h.buffered) (w33_5.offer 2 k)) (w33_5.port 2).releases = none) ∧
    (List.find? (fun k => w33_5.mayStart 2 k 123456789) (List.range 8).reverse = some 5) ∧
    (∃ h, w33_5.offer 2 5 = some h ∧ h.stream = false ∧ ¬(Option.any (fun tg => decide (↑(w33_5.rd (Reg.ETH_TXQ_CFG_LATE_TOL 2 5) * 65536) < Machine.sdiff (w33_5.portWt 2 (123456789 + roundDiv (8 * w33_5.byteTime 2) 25)) tg)) h.launch = true ∧ w33_5.rd (Reg.ETH_TXQ_CFG_LATE_DROP 2 5) ≠ 0)) ∧
    (w33_7.portLives 2 = true) ∧
    ((w33_7.port 2).loop = false) ∧
    (∃ l, (w33_7.port 2).line = some l) ∧
    (∃ l, (w33_7.port 2).line = some l ∧ w33_7.storeForward 2 l.head = false) ∧
    (w33_10.txqRuns 2 5 = true ∧ (w33_10.txq 2 5).head = none) ∧
    ((w33_10.txq 2 5).lesson = false) ∧
    (leRead x33_ptp.desc 8 2 ≠ 0 ∧ byteAt x33_ptp.desc 10 < 8 ∧ byteAt x33_ptp.desc 11 = 0 ∧ byteAt x33_ptp.desc 15 = 0 ∧ leRead x33_ptp.desc 24 8 = 0) ∧
    ((List.take (leRead x33_ptp.desc 8 2) x33_ptp.data ++ List.replicate (max 60 (leRead x33_ptp.desc 8 2) - (List.take (leRead x33_ptp.desc 8 2) x33_ptp.data).length) 0#8).length + 4 ≤ w33_10.frameLimit 2 (isTagged (List.take (leRead x33_ptp.desc 8 2) x33_ptp.data ++ List.replicate (max 60 (leRead x33_ptp.desc 8 2) - (List.take (leRead x33_ptp.desc 8 2) x33_ptp.data).length) 0#8))) ∧
    (w33_10.gated 2 = true ∧ isTimeMessage (List.take (leRead x33_ptp.desc 8 2) x33_ptp.data ++ List.replicate (max 60 (leRead x33_ptp.desc 8 2) - (List.take (leRead x33_ptp.desc 8 2) x33_ptp.data).length) 0#8) = true) ∧
    (w33_11.txqRuns 2 5 = true ∧ w33_11.sending 2 5 = false) ∧
    (∃ h, (w33_11.txq 2 5).head = some h ∧ 5 < if w33_11.storeForward 2 h = true then h.data.length else min (max 1 (w33_11.rd (Reg.ETH_TX_THRESH_UNITS 2)) * 64) h.data.length) ∧
    ((w33_12.port 2).line = none ∧ w33_12.rd (Reg.ETH_STATUS_LINK 2) ≠ 0 ∧ w33_12.portLives 2 = true ∧ w33_12.atBoundary 2 123456789 = true ∧ w33_12.parityIn (212992 + 1024 * 2) 640 = false ∧ w33_12.parityIn (229376 + 256 * 2) 112 = false) ∧
    (List.find? (fun k => Option.any (fun h => h.buffered) (w33_12.offer 2 k)) (w33_12.port 2).releases = some 5) ∧
    (∃ h, w33_12.offer 2 5 = some h ∧ h.stream = false ∧ ¬(Option.any (fun tg => decide (↑(w33_12.rd (Reg.ETH_TXQ_CFG_LATE_TOL 2 5) * 65536) < Machine.sdiff (w33_12.portWt 2 (123456789 + roundDiv (8 * w33_12.byteTime 2) 25)) tg)) h.launch = true ∧ w33_12.rd (Reg.ETH_TXQ_CFG_LATE_DROP 2 5) ≠ 0)) ∧
    ((w33_13.port 2).line = none ∧ w33_13.rd (Reg.ETH_STATUS_LINK 2) ≠ 0 ∧ w33_13.portLives 2 = true ∧ w33_13.atBoundary 2 123456789 = true ∧ w33_13.parityIn (212992 + 1024 * 2) 640 = false ∧ w33_13.parityIn (229376 + 256 * 2) 112 = false) ∧
    (List.find? (fun k => Option.any (fun h => h.buffered) (w33_13.offer 2 k)) (w33_13.port 2).releases = none) ∧
    (List.find? (fun k => w33_13.mayStart 2 k 123456789) (List.range 8).reverse = some 5) ∧
    ((w33_13.txq 2 5).lesson = false) ∧
    (∃ h, w33_13.offer 2 5 = some h ∧ Option.any (fun tg => decide (↑(w33_13.rd (Reg.ETH_TXQ_CFG_LATE_TOL 2 5) * 65536) < Machine.sdiff (w33_13.portWt 2 (123456789 + roundDiv (8 * w33_13.byteTime 2) 25)) tg)) h.launch = true ∧ w33_13.rd (Reg.ETH_TXQ_CFG_LATE_DROP 2 5) ≠ 0) ∧
    (w33_16.portLives 2 = true) ∧
    ((w33_16.port 2).loop = true) ∧
    (∃ l, (w33_16.port 2).line = some l) ∧
    (∃ l, (w33_17.port 2).line = some l ∧ w33_17.storeForward 2 l.head = true) ∧
    (w33_20.txqRuns 2 5 = true ∧ (w33_20.txq 2 5).head = none) ∧
    ((w33_20.txq 2 5).lesson = false) ∧
    (leRead (x33_de 90 0).desc 8 2 ≠ 0 ∧ byteAt (x33_de 90 0).desc 10 < 8 ∧ byteAt (x33_de 90 0).desc 11 = 0 ∧ byteAt (x33_de 90 0).desc 15 = 0 ∧ leRead (x33_de 90 0).desc 24 8 = 0) ∧
    (¬(List.take (leRead (x33_de 90 0).desc 8 2) (x33_de 90 0).data ++ List.replicate (max 60 (leRead (x33_de 90 0).desc 8 2) - (List.take (leRead (x33_de 90 0).desc 8 2) (x33_de 90 0).data).length) 0#8).length + 4 ≤ w33_20.frameLimit 2 (isTagged (List.take (leRead (x33_de 90 0).desc 8 2) (x33_de 90 0).data ++ List.replicate (max 60 (leRead (x33_de 90 0).desc 8 2) - (List.take (leRead (x33_de 90 0).desc 8 2) (x33_de 90 0).data).length) 0#8))) := by
  and_intros
  all_goals first
    | decide +kernel
    | exact some_of (by decide +kernel)
    | (refine ⟨_, _, rfl, ?_⟩; decide +kernel)
    | (refine ⟨_, _, rfl, rfl, ?_⟩; decide +kernel)
    | exact ⟨_, _, rfl, by decide +kernel, rfl⟩
    | exact Option.isSome_iff_exists.1 (by decide +kernel)

/-! #### port stamps -/
def x34_g1 (n : Nat) (l : List (Fld × Nat)) (x : PortSt) := { with1 up ([(Reg.PTP_TXTS_ID_VALID n, 1), (Reg.PTP_TXTS_OVF_COUNT n, 2^16-1)] ++ l) with ports := [(n, x)] }
def w34_0 : State := up
def w34_2 : State := x34_g1 2 [(Reg.PTP_CFG_TXTS_DEST 2, 1)] { rate := -5, txts := [⟨12345678901234567890, 0xFFFF, true, true, false, 5⟩, ⟨0,0,false,false,false,0⟩], pend := 3 }

theorem witness_port_stamps :
    (w34_0.hostReads (Reg.PTP_TXTS_ID_VALID 2).addr) ∧
    ((w34_0.port 2).txts = []) ∧
    (w34_0.hostOpen (Reg.PTP_TXTS_BASE_ADDR 2).addr) ∧
    (w34_0.hostOpen (Reg.PTP_CFG_TS 2).addr) ∧
    (w34_2.hostReads (Reg.PTP_TXTS_ID_VALID 2).addr) ∧
    (∃ e rest, (w34_2.port 2).txts = e :: rest) := by
  and_intros
  all_goals first
    | decide +kernel
    | exact ⟨_, _, rfl⟩

/-! #### roll call port -/
def x35_c (p n : Nat) (v : Nat) : CmdWord := ⟨9, BitVec.ofNat 8 p, BitVec.ofNat 8 n, BitVec.ofNat 32 v⟩
def x35_pp : SylPath := { pol := { mode := 2, manual := 5, rank := [(7, 3)] } }
def x35_s1 := syl 10 { paths := [(3, x35_pp)], seq := [(10, 8)] }
def w35_0 : State := x35_s1
def w35_1 : State := x35_s1
def w35_3_c : CmdWord := x35_c 3 0 0xFFFF0073
def w35_3 : State := x35_s1
def w35_4 : State := x35_s1
def w35_5_c : CmdWord := x35_c 0 23 0xFFFFFF
def w35_5 : State := x35_s1
def w35_6 : State := x35_s1
def w35_10 : State := syl 10 { seq := [(10, 9)] }

theorem witness_roll_call_port :
    (w35_0.serves 10 (x35_c 3 7 15)) ∧
    ((x35_c 3 7 15).path.toNat ≤ 7) ∧
    ((x35_c 3 7 15).slot.toNat ≤ 23) ∧
    ((x35_c 3 7 15).value.toNat ≤ 15) ∧
    ((x35_c 3 7 15).value.toNat = 0 ∨ w35_0.homeElsewhere (x35_c 3 7 15).path.toNat (x35_c 3 7 15).slot.toNat = false) ∧
    (w35_1.serves 10 (x35_c 3 7 16)) ∧
    ((x35_c 3 7 16).path.toNat ≤ 7) ∧
    ((x35_c 3 7 16).slot.toNat ≤ 23) ∧
    ((x35_c 3 7 16).value.toNat % 4 ≠ 2 ∨ w35_1.homeElsewhere (x35_c 3 7 16).path.toNat (x35_c 3 7 16).slot.toNat = false) ∧
    ((x35_c 3 7 16).value.toNat ≤ 31) ∧
    ((x35_c 3 7 16).value.toNat % 4 ≠ 3) ∧
    ((x35_c 3 7 16).value.toNat / 4 % 4 = 0) ∧
    (15 < (x35_c 3 7 16).value.toNat) ∧
    ((x35_c 3 7 16).value.toNat % 16 = 0 ∨ w35_1.homeElsewhere (x35_c 3 7 16).path.toNat (x35_c 3 7 16).slot.toNat = false) ∧
    (w35_3.serves 10 w35_3_c) ∧
    (w35_3_c.path.toNat ≤ 7) ∧
    (w35_3_c.slot.toNat = 0) ∧
    (w35_3_c.value.toNat / 16 % 8 ≠ 0) ∧
    (w35_3_c.value.toNat / 4 % 4 = 0) ∧
    (w35_3_c.value.toNat / 128 % 512 = 0) ∧
    (w35_3_c.value.toNat / 65536 ≠ 0) ∧
    (w35_4.serves 10 (x35_c 3 0 65535)) ∧
    ((x35_c 3 0 65535).path.toNat ≤ 7) ∧
    ((x35_c 3 0 65535).slot.toNat = 0) ∧
    ((x35_c 3 0 65535).value.toNat ≠ 0) ∧
    ((x35_c 3 0 65535).value.toNat ≤ 65535) ∧
    (w35_5.serves 10 w35_5_c) ∧
    (w35_5_c.path.toNat = 0) ∧
    (w35_5_c.slot.toNat ≤ 23) ∧
    (w35_5_c.value.toNat ≠ 0) ∧
    (w35_5_c.value.toNat < 2 ^ 24) ∧
    (w35_6.serves 10 (x35_c 4 7 5)) ∧
    ((x35_c 4 7 5).path.toNat ≤ 7) ∧
    ((x35_c 4 7 5).slot.toNat ≤ 23) ∧
    ((x35_c 4 7 5).value.toNat ≠ 0) ∧
    ((x35_c 4 7 5).value.toNat ≤ 5) ∧
    (¬w35_10.serves 10 (x35_c 3 7 15)) := by
  and_intros
  all_goals first
    | decide +kernel
    | (unfold State.serves; decide +kernel)

/-! #### path ports -/
def x36_c (p n : Nat) (v : Nat) : CmdWord := ⟨9, BitVec.ofNat 8 p, BitVec.ofNat 8 n, BitVec.ofNat 32 v⟩
def x36_pp : SylPath := { st := 2, y := 36028797018964, z := 4 }
def x36_s1 := syl 7 { paths := [(3, x36_pp)], seq := [(10, 8)] }
def w36_0 : State := x36_s1
def w36_1 : State := x36_s1
def w36_3_c : CmdWord := x36_c 3 0 0x10001
def w36_3 : State := x36_s1
def w36_4 : State := x36_s1
def w36_6 : State := x36_s1
def w36_7 : State := x36_s1
def w36_10 : State := syl 7 { seq := [(7, 9)] }

theorem witness_path_ports :
    (w36_0.serves (6 + 1) (x36_c 3 0 1)) ∧
    ((x36_c 3 0 1).path.toNat / 2 = 1) ∧
    ((x36_c 3 0 1).slot = 0#8) ∧
    (1 ≤ (x36_c 3 0 1).value.toNat) ∧
    ((x36_c 3 0 1).value.toNat ≤ 40000000) ∧
    ((x36_c 3 0 1).value.toNat ≤ 5000000) ∧
    ((x36_c 3 0 1).value.toNat ≤ 500000) ∧
    ((x36_c 3 0 1).value.toNat ≤ 1000) ∧
    (w36_1.serves (6 + 1) (x36_c 3 0 1024)) ∧
    ((x36_c 3 0 1024).path.toNat / 2 = 1) ∧
    ((x36_c 3 0 1024).slot = 0#8) ∧
    (64 ≤ (x36_c 3 0 1024).value.toNat) ∧
    ((x36_c 3 0 1024).value.toNat ≤ 1024) ∧
    (w36_3.serves (6 + 1) w36_3_c) ∧
    (w36_3_c.path.toNat / 2 = 1) ∧
    (w36_3_c.slot = 0#8) ∧
    (1 ≤ w36_3_c.value.toNat % 65536) ∧
    (1 ≤ w36_3_c.value.toNat / 65536) ∧
    (w36_4.serves (6 + 1) (x36_c 3 0 31)) ∧
    ((x36_c 3 0 31).path.toNat / 2 = 1) ∧
    ((x36_c 3 0 31).slot = 0#8) ∧
    ((x36_c 3 0 31).value.toNat = 31 ∨ 4 * (x36_c 3 0 31).path.toNat ≤ (x36_c 3 0 31).value.toNat ∧ (x36_c 3 0 31).value.toNat ≤ 4 * (x36_c 3 0 31).path.toNat + 3 ∧ (x36_c 3 0 31).value.toNat ≤ 15) ∧
    (w36_6.serves (6 + 1) (x36_c 3 0 30)) ∧
    ((x36_c 3 0 30).path.toNat / 2 = 1) ∧
    ((x36_c 3 0 30).slot = 0#8) ∧
    (16 ≤ (x36_c 3 0 30).value.toNat ∧ (x36_c 3 0 30).value.toNat ≤ 22 ∨ (x36_c 3 0 30).value.toNat = 30) ∧
    (w36_7.serves (6 + 1) (x36_c 3 0 0)) ∧
    ((x36_c 3 0 0).path.toNat / 2 = 1) ∧
    ((x36_c 3 0 0).slot = 0#8) ∧
    ((x36_c 3 0 0).value.toNat = 0) ∧
    (¬w36_10.serves (6 + 1) (x36_c 3 0 1)) := by
  and_intros
  all_goals first
    | decide +kernel
    | (unfold State.serves; decide +kernel)

/-! #### service ports -/
def x37_c (p n : Nat) (v : Nat) : CmdWord := ⟨9, BitVec.ofNat 8 p, BitVec.ofNat 8 n, BitVec.ofNat 32 v⟩
def x37_pp : SylPath := { st := 2, y := 36028797018964, z := 4, model := { nsamp := 6, last := 9, learn := false, tau := 7 } }
def x37_s1 (e : Nat) := syl e { paths := [(3, x37_pp)], ports := [(3, { transport := 1, exch := [] })] }
def w37_0 : State := x37_s1 11
def w37_1 : State := x37_s1 11
def w37_2 : State := { x37_s1 11 with inw := [(0xE0, 8)] }
def w37_4_c : CmdWord := x37_c 3 22 0xFFFF0007
def w37_4 : State := x37_s1 12
def w37_5_c : CmdWord := x37_c 3 3 0x00000004
def w37_5 : State := x37_s1 12
def w37_6_c : CmdWord := x37_c 0 0 0xFFFFFF
def w37_6 : State := x37_s1 12
def w37_7_c : CmdWord := x37_c 8 0 0xFFFFFF
def w37_7 : State := x37_s1 12
def w37_8_c : CmdWord := x37_c 2 0 0x20004
def w37_8 : State := x37_s1 12
def w37_9 : State := x37_s1 13
def w37_10 : State := x37_s1 11
def w37_11 : State := x37_s1 13
def w37_12 : State := { x37_s1 11 with commons := [(jnlSlotAt 0 / 8, 0x0001000000000000)] }

theorem witness_service_ports :
    (¬w37_0.serves 12 (x37_c 3 0 65281)) ∧
    (¬w37_0.serves 13 (x37_c 3 0 65281)) ∧
    (w37_0.serves 11 (x37_c 3 0 65281)) ∧
    ((x37_c 3 0 65281).path.toNat ≤ 7) ∧
    ((x37_c 3 0 65281).slot.toNat = 0) ∧
    ((x37_c 3 0 65281).value.toNat / 256 % 256 ≠ 0) ∧
    ((x37_c 3 0 65281).value.toNat ≤ 65535) ∧
    ((x37_c 3 0 65281).value.toNat / 2 % 128 = 0) ∧
    (w37_1.serves 11 (x37_c 3 0 0)) ∧
    ((x37_c 3 0 0).path.toNat ≤ 7) ∧
    ((x37_c 3 0 0).slot.toNat = 0) ∧
    ((x37_c 3 0 0).value.toNat = 0) ∧
    ((w37_1.inw' 224).testBit 3 = false) ∧
    (w37_1.jnlAnswered = true) ∧
    (w37_1.syl.jnlDue = []) ∧
    ((x37_c 3 0 0).slot.toNat ≤ 6) ∧
    (w37_2.serves 11 (x37_c 3 0 0)) ∧
    ((x37_c 3 0 0).path.toNat ≤ 7) ∧
    ((x37_c 3 0 0).slot.toNat = 0) ∧
    ((x37_c 3 0 0).value.toNat = 0) ∧
    ((w37_2.inw' 224).testBit 3 = true) ∧
    (¬w37_4.serves 11 w37_4_c) ∧
    (w37_4.serves 12 w37_4_c) ∧
    (w37_4_c.path.toNat ≤ 3) ∧
    (w37_4_c.slot.toNat ≤ 23) ∧
    (w37_4_c.slot.toNat < 20 ∨ w37_4_c.slot.toNat = 22 ∨ w37_4_c.slot.toNat = 23) ∧
    (w37_4_c.value.toNat / 8 % 8192 = 0) ∧
    (w37_4_c.value.toNat.testBit 2 = true → ∀ k < 4, k ≠ w37_4_c.path.toNat → (w37_4.tod k).enable = true → (w37_4.tod k).uart ≠ w37_4_c.value.toNat % 2) ∧
    (w37_5.serves 12 w37_5_c) ∧
    (w37_5_c.path.toNat ≤ 3) ∧
    (w37_5_c.slot.toNat ≤ 3) ∧
    ((w37_5.sylPort w37_5_c.path.toNat).transport ≠ 2) ∧
    (w37_6.serves 12 w37_6_c) ∧
    (w37_6_c.path.toNat ≤ 3) ∧
    (w37_6_c.slot.toNat = 0) ∧
    (w37_6_c.path.toNat = 0) ∧
    (w37_6_c.value.toNat < 2 ^ 24) ∧
    (w37_7.serves 12 w37_7_c) ∧
    (7 < w37_7_c.path.toNat) ∧
    (w37_8.serves 12 w37_8_c) ∧
    (w37_8.timeCheck (cmdRead w37_8_c 49) = CmdResult.ok) ∧
    (w37_9.serves 13 (x37_c 3 0 247)) ∧
    ((x37_c 3 0 247).path.toNat ≤ 3) ∧
    ((x37_c 3 0 247).slot.toNat = 0) ∧
    ((x37_c 3 0 247).value.toNat.testBit 3 = false) ∧
    ((x37_c 3 0 247).value.toNat ≤ 255) ∧
    (w37_10.serves 11 (x37_c 8 0 65281)) ∧
    (7 < (x37_c 8 0 65281).path.toNat) ∧
    (w37_11.serves 13 (x37_c 9 0 65281)) ∧
    (3 < (x37_c 9 0 65281).path.toNat) ∧
    (w37_12.serves 11 (x37_c 3 0 0)) ∧
    ((x37_c 3 0 0).path.toNat ≤ 7) ∧
    ((x37_c 3 0 0).slot.toNat = 0) ∧
    ((x37_c 3 0 0).value.toNat = 0) ∧
    ((w37_12.inw' 224).testBit 3 = false) ∧
    (w37_12.jnlAnswered = false) := by
  and_intros
  all_goals first
    | decide +kernel
    | (unfold State.serves; decide +kernel)

/-! #### path lessons -/
def x38_pp : SylPath := { st := 2, y := 36028797018964, z := 4, model := { nsamp := 6, last := 9, learn := true, tau := 7 }, secN := 999999, secY := 1000, secT := 77, outWin := some 1, phase := 3 }
def x38_eng (e : Nat) (p : SylPath) : State := { syl e { paths := [(3, p)], slots := [(5, { trk := 1, state := 5 }), (6, { state := 5, trk := 2 }), (7, {state := 2})] } with inw := [(0x80, 5)], now := 10 ^ 13, bell := { up.bell with number := 10 ^ 9 } }
def x38_m1 (i v : Nat) (s : State) : State := { s with inw := tabPut i (BitVec.ofNat 64 v) s.inw }
def x38_setM1 (s : State) : State := { s with inw := s.inw ++ (List.range 256).filterMap (fun i => if i ≠ 0x80 ∧ i ≠ 0xE0 then some (i, BitVec.ofNat 64 (if i % 3 = 0 then 2^61 else if i % 3 = 1 then 2^62 else 2 ^ 63)) else none) }
def w38_0 : State := x38_eng 1 x38_pp
def w38_1 : State := { x38_eng 1 x38_pp with bell := { up.bell with number := 10 } }
def w38_2 : State := x38_eng 10 x38_pp
def w38_4 : State := x38_eng 7 { x38_pp with phase := 1, target := 3 }
def w38_7 : State := x38_eng 7 x38_pp
def w38_10 : State := x38_eng 7 { x38_pp with st := 4, inWin := some 5 }
def w38_12 : State := x38_eng 7 { x38_pp with st := 3, basis := 2, te := 50000, held := { d := 1000, c1 := 50, c2 := 3, t0 := 20 }, tempE := 7, yh := 99999 }
def w38_13 : State := x38_eng 11 x38_pp
def w38_14 : State := x38_eng 11 { x38_pp with secOk := false }
def w38_17 : State := { x38_eng 11 x38_pp with commons := [((jnlSlotAt 0) / 8, 0x0105000000000000)] }

theorem witness_path_lessons :
    (w38_0.sylRuns (5 / 4) = true ∧ (w38_0.sylSlot 5).trk = 1 ∧ 100000000000 ≤ (w38_0.bell.number - (w38_0.sylSlot 5).acq) * w38_0.bellNs * trackBw (w38_0.sylSlot 5).bw) ∧
    (w38_0.sylRuns 10 = false) ∧
    (¬(w38_0.sylRuns (pathEngine 3) = true ∧ (w38_0.sylPath 3).phase = 1 ∧ (w38_0.sylPath 3).cutNext = false ∧ (w38_0.sylPath 3).use.prepLimit * 1000000 ≤ (w38_0.bell.number - (w38_0.sylPath 3).p0) * w38_0.bellNs)) ∧
    (¬(w38_0.sylRuns (pathEngine 3) = true ∧ (w38_0.sylPath 3).phase = 3 ∧ (w38_0.sylPath 3).slew = false ∧ (w38_0.sylPath 3).use.settle * 1000000 ≤ (w38_0.bell.number - (w38_0.sylPath 3).settleAt) * w38_0.bellNs)) ∧
    (¬(w38_0.sylRuns (pathEngine 3) = true ∧ ((w38_0.sylPath 3).st = 1 ∨ (w38_0.sylPath 3).st = 4) ∧ ∃ k, (w38_0.sylPath 3).inWin = some k ∧ k + (w38_0.sylPath 3).loop.lockTime * 500000 ≤ w38_0.now)) ∧
    (¬(w38_0.sylRuns (pathEngine 3) = true ∧ (w38_0.sylPath 3).st = 2 ∧ ∃ k, (w38_0.sylPath 3).outWin = some k ∧ k + (w38_0.sylPath 3).loop.lockTime * 500000 ≤ w38_0.now)) ∧
    (¬(w38_0.sylRuns (pathEngine 3) = true ∧ (w38_0.sylPath 3).st = 3 ∧ (w38_0.sylPath 3).basis = 2)) ∧
    (¬(w38_0.sylRuns 11 = true ∧ 1000000000 ≤ ((w38_0.sylPath 3).secN + 1) * w38_0.bellNs)) ∧
    (¬(w38_0.sylRuns 11 = true ∧ (w38_0.inw' 224).testBit 3 = false)) ∧
    (¬(w38_1.sylRuns (5 / 4) = true ∧ (w38_1.sylSlot 5).trk = 1 ∧ 100000000000 ≤ (w38_1.bell.number - (w38_1.sylSlot 5).acq) * w38_1.bellNs * trackBw (w38_1.sylSlot 5).bw)) ∧
    (w38_2.sylRuns 10 = true) ∧
    (w38_4.sylRuns (pathEngine 3) = true ∧ (w38_4.sylPath 3).phase = 1 ∧ (w38_4.sylPath 3).cutNext = false ∧ (w38_4.sylPath 3).use.prepLimit * 1000000 ≤ (w38_4.bell.number - (w38_4.sylPath 3).p0) * w38_4.bellNs) ∧
    (w38_4.sylRuns (pathEngine 3) = true ∧ (w38_4.sylPath 3).st = 2 ∧ ∃ k, (w38_4.sylPath 3).outWin = some k ∧ k + (w38_4.sylPath 3).loop.lockTime * 500000 ≤ w38_4.now) ∧
    (w38_7.sylRuns (pathEngine 3) = true ∧ (w38_7.sylPath 3).phase = 3 ∧ (w38_7.sylPath 3).slew = false ∧ (w38_7.sylPath 3).use.settle * 1000000 ≤ (w38_7.bell.number - (w38_7.sylPath 3).settleAt) * w38_7.bellNs) ∧
    (w38_10.sylRuns (pathEngine 3) = true ∧ ((w38_10.sylPath 3).st = 1 ∨ (w38_10.sylPath 3).st = 4) ∧ ∃ k, (w38_10.sylPath 3).inWin = some k ∧ k + (w38_10.sylPath 3).loop.lockTime * 500000 ≤ w38_10.now) ∧
    (w38_12.sylRuns (pathEngine 3) = true ∧ (w38_12.sylPath 3).st = 3 ∧ (w38_12.sylPath 3).basis = 2) ∧
    (w38_13.sylRuns 11 = true ∧ 1000000000 ≤ ((w38_13.sylPath 3).secN + 1) * w38_13.bellNs) ∧
    ((w38_13.sylPath 3).model.learn = true ∧ (w38_13.sylPath 3).secOk = true ∧ (w38_13.sylPath 3).secN ≠ 0) ∧
    (w38_13.sylRuns 11 = true ∧ (w38_13.inw' 224).testBit 3 = false) ∧
    (w38_13.jnlAnswered = true) ∧
    (∃ q rest, w38_13.syl.jnlDue.erase 3 ++ [3] = q :: rest) ∧
    (w38_14.sylRuns 11 = true ∧ 1000000000 ≤ ((w38_14.sylPath 3).secN + 1) * w38_14.bellNs) ∧
    (¬((w38_14.sylPath 3).model.learn = true ∧ (w38_14.sylPath 3).secOk = true ∧ (w38_14.sylPath 3).secN ≠ 0)) ∧
    (w38_17.sylRuns 11 = true ∧ (w38_17.inw' 224).testBit 3 = false) ∧
    (w38_17.jnlAnswered = false) := by
  and_intros
  all_goals first
    | decide +kernel
    | exact ⟨_, _, rfl⟩

/-! #### time lessons -/
def x39_str (s : String) : List (BitVec 8) := s.toList.map fun c => BitVec.ofNat 8 c.toNat
def x39_hex (n : Nat) : String := String.ofList [(Nat.digitChar (n / 16)).toUpper, (Nat.digitChar (n % 16)).toUpper]
def x39_nm (b : String) : List (BitVec 8) := x39_str ("$" ++ b ++ "*" ++ x39_hex ((x39_str b).foldl (fun a x => a ^^^ x.toNat) 0) ++ "\r\n")
def x39_bin (t : Nat) : List (BitVec 8) := let b : List (BitVec 8) := [0xC7, 0x24, 1, 0x0C, 0,0,0,0,0,BitVec.ofNat 8 t, 0,0,0,0, 1, 0]
  let c := crc16 (b.drop 2); b ++ [BitVec.ofNat 8 (c/256), BitVec.ofNat 8 c]
def x39_ex : PtpExchange := ⟨0, 100, 200, 260, 0, 0, 0, 7⟩
def x39_bigx : PtpExchange := ⟨0, 100, 200, 260 + 10000000000000, 0, 0, 0, 7⟩
def x39_s1 (b : Bool) (l d v : Nat) : State := { syl 12 { tods := [(2, { uart := 1, binary := b, enable := true, slot := 5, offset := 0})], uarts := [(1, { label := l, d := if d = 0 then none else some d, steps := 255, bad := 255 })], tsSeq := [(2, 127)] } with slots := [(5, { lastT := some 1000000 })], ts := [(2, { val := v * 10 ^ 9 * 2 ^ 64 })] }
def x39_s2 (e : Nat) (p : SylPort) : State := syl e { ports := [(3, p)], tsSeq := [(0, 127)] }
def x39_s3 (b : Bool) (l d v : Nat) : State := { x39_s1 b l d v with slots := [(5, { lastT := some 1000000, edges := [(1000000, [0, 0, v * 10 ^ 9 * 2 ^ 64, 0])] })] }
def w39_0_b : List (BitVec 8) := x39_nm "GPZDA,000010.00,01,01,1970,00,00"
def w39_0 : State := x39_s1 false 0 0 5
def w39_2_b : List (BitVec 8) := x39_nm "GPGGA,000010.00,01,01,1970,00,00"
def w39_2 : State := x39_s1 false 9 5 5
def w39_3_b : List (BitVec 8) := x39_nm "GPZDA,00001A.00,01,01,1970,00,00"
def w39_3 : State := x39_s1 false 9 5 5
def w39_4 : State := x39_s1 true 9 5 5
def w39_6_b : List (BitVec 8) := (x39_bin 10).take 17
def w39_6 : State := x39_s1 true 8 5 5
def w39_7 : State := x39_s2 12 { enable := true }
def w39_8 : State := x39_s2 12 { enable := true, fresh := true }
def w39_9 : State := x39_s2 12 { enable := true, step := some (-5), exch := [(1,2)] }
def w39_10 : State := x39_s2 12 { enable := true, step := some (3 * 10 ^ 9 * 65536) }
def w39_11_b : List (BitVec 8) := List.replicate 12 0 ++ [0x88, 0x09, 0x0A, 0, 0x19, 0xA7, 0, 1, 0x10, 0,0,0, 1, 0, 4, 0xB2, 0, 0, 0]
def w39_11 : State := x39_s2 13 { esmcRx := true }
def w39_12 : State := with1 (x39_s2 13 { esmcTx := true }) [(Reg.ETH_SYNCE_TX_LOCK 3, 1)]
def w39_13_b : List (BitVec 8) := x39_nm "GPZDA,000010.00,01,01,1970,00,00"
def w39_13 : State := x39_s3 false 0 0 5
def w39_14_b : List (BitVec 8) := x39_nm "GPZDA,000010.00,01,01,1970,00,00"
def w39_14 : State := x39_s3 false 9 5 5
def w39_15 : State := x39_s3 true 9 5 5
def w39_16 : State := x39_s3 true 8 5 5
def w39_17 : State := x39_s3 true 8 5 5

theorem witness_time_lessons :
    (w39_0.sylRuns 12 = true) ∧
    (∃ k, w39_0.todOn 1 = some k ∧ (w39_0.tod k).binary = false) ∧
    (∃ k utc, w39_0.todOn 1 = some k ∧ w39_0.todEdge k 1000001 = none ∧ (w39_0.tod k).binary = false ∧ nmeaMessage w39_0_b = TodMsg.time utc) ∧
    (¬(w39_0.sylRuns 12 = true ∧ (w39_0.sylPort 3).enable = true ∧ (w39_0.sylPort 3).masterOnly = false ∧ w39_0.tsFollows (w39_0.sylPort 3).ts = false)) ∧
    ((w39_0.sylPort 3).step = none ∨ w39_0.sylRuns 12 = false ∨ w39_0.tsFollows (w39_0.sylPort 3).ts = true) ∧
    (¬(w39_0.sylRuns 13 = true ∧ (w39_0.sylPort 3).esmcRx = true) ∨ esmcQl w39_0_b = none) ∧
    (¬(w39_0.sylRuns 13 = true ∧ w39_0.ran (Timer.esmcIn 3) 5000000000 = true)) ∧
    (¬(w39_0.sylRuns 13 = true ∧ w39_0.ran (Timer.esmcOut 3) 1000000000 = true)) ∧
    (w39_2.sylRuns 12 = true) ∧
    (nmeaMessage w39_2_b = TodMsg.skip) ∧
    (∃ k, w39_2.todOn 1 = some k ∧ (w39_2.tod k).binary = false) ∧
    (w39_3.sylRuns 12 = true) ∧
    (nmeaMessage w39_3_b = TodMsg.reject) ∧
    (∃ k, w39_3.todOn 1 = some k ∧ (w39_3.tod k).binary = false) ∧
    (w39_4.sylRuns 12 = true) ∧
    (∃ k, w39_4.todOn 1 = some k ∧ (w39_4.tod k).binary = true) ∧
    (∃ k utc, w39_4.todOn 1 = some k ∧ w39_4.todEdge k 1000001 = none ∧ (w39_4.tod k).binary = true ∧ binaryMessage (x39_bin 10) = TodMsg.time utc) ∧
    (w39_6.sylRuns 12 = true) ∧
    (binaryMessage w39_6_b = TodMsg.reject) ∧
    (∃ k, w39_6.todOn 1 = some k ∧ (w39_6.tod k).binary = true) ∧
    (w39_7.todOn 1 = none ∨ w39_7.sylRuns 12 = false) ∧
    (w39_7.sylRuns 12 = true ∧ (w39_7.sylPort 3).enable = true ∧ (w39_7.sylPort 3).masterOnly = false ∧ w39_7.tsFollows (w39_7.sylPort 3).ts = false) ∧
    ((w39_7.sylPort 3).step = none) ∧
    (¬((w39_7.sylPort 3).fresh = true ∧ 1000 * 65536 ≤ (shortest (List.take 16 (exchange x39_ex (w39_7.sylPort 3).asym :: (w39_7.sylPort 3).exch))).2.natAbs ∨ 3 ≤ if 100000 * 65536 < (shortest (List.take 16 (exchange x39_ex (w39_7.sylPort 3).asym :: (w39_7.sylPort 3).exch))).2.natAbs then (w39_7.sylPort 3).big + 1 else 0)) ∧
    (w39_8.sylRuns 12 = true ∧ (w39_8.sylPort 3).enable = true ∧ (w39_8.sylPort 3).masterOnly = false ∧ w39_8.tsFollows (w39_8.sylPort 3).ts = false) ∧
    ((w39_8.sylPort 3).step = none) ∧
    ((w39_8.sylPort 3).fresh = true ∧ 1000 * 65536 ≤ (shortest (List.take 16 (exchange x39_bigx (w39_8.sylPort 3).asym :: (w39_8.sylPort 3).exch))).2.natAbs ∨ 3 ≤ if 100000 * 65536 < (shortest (List.take 16 (exchange x39_bigx (w39_8.sylPort 3).asym :: (w39_8.sylPort 3).exch))).2.natAbs then (w39_8.sylPort 3).big + 1 else 0) ∧
    (w39_9.sylRuns 12 = true ∧ (w39_9.sylPort 3).enable = true ∧ (w39_9.sylPort 3).masterOnly = false ∧ w39_9.tsFollows (w39_9.sylPort 3).ts = false) ∧
    ((w39_9.sylPort 3).step.isSome = true) ∧
    (w39_9.sylRuns 12 = true) ∧
    (w39_9.tsFollows (w39_9.sylPort 3).ts = false) ∧
    (∃ v, (w39_9.sylPort 3).step = some v) ∧
    (∃ v, (w39_9.sylPort 3).step = some v ∧ (-v).tdiv (10 ^ 9 * 65536) = 0) ∧
    (∃ v, (w39_9.sylPort 3).step = some v ∧ (-v).tmod (10 ^ 9 * 65536) ≠ 0) ∧
    (w39_10.sylRuns 12 = true) ∧
    (w39_10.tsFollows (w39_10.sylPort 3).ts = false) ∧
    (∃ v, (w39_10.sylPort 3).step = some v ∧ (-v).tdiv (10 ^ 9 * 65536) ≠ 0) ∧
    (∃ v, (w39_10.sylPort 3).step = some v ∧ (-v).tmod (10 ^ 9 * 65536) = 0) ∧
    (w39_11.sylRuns 13 = true ∧ (w39_11.sylPort 3).esmcRx = true) ∧
    (∃ q, esmcQl w39_11_b = some q) ∧
    (w39_11.sylRuns 13 = true ∧ w39_11.ran (Timer.esmcIn 3) 5000000000 = true) ∧
    (w39_11.sylRuns 13 = true ∧ w39_11.ran (Timer.esmcOut 3) 1000000000 = true) ∧
    (¬(w39_11.rd (Reg.ETH_SYNCE_TX_LOCK 3) ≠ 0 ∧ (w39_11.sylPort 3).esmcTx = true)) ∧
    (w39_12.sylRuns 13 = true ∧ w39_12.ran (Timer.esmcOut 3) 1000000000 = true) ∧
    (w39_12.rd (Reg.ETH_SYNCE_TX_LOCK 3) ≠ 0 ∧ (w39_12.sylPort 3).esmcTx = true) ∧
    (w39_13.sylRuns 12 = true) ∧
    (∃ k value utc, w39_13.todOn 1 = some k ∧ w39_13.todEdge k 1000001 = some value ∧ (w39_13.tod k).binary = false ∧ nmeaMessage w39_13_b = TodMsg.time utc ∧ ¬((w39_13.todUart 1).d = some (↑(↑utc + (w39_13.tod k).offset).toNat - roundHalfUp (↑value) (10 ^ 9 * 2 ^ 64)) ∧ (↑utc + (w39_13.tod k).offset).toNat = (w39_13.todUart 1).label + 1 ∧ ↑(↑utc + (w39_13.tod k).offset).toNat - roundHalfUp (↑value) (10 ^ 9 * 2 ^ 64) ≠ 0)) ∧
    (w39_14.sylRuns 12 = true) ∧
    (∃ k value utc, w39_14.todOn 1 = some k ∧ w39_14.todEdge k 1000001 = some value ∧ (w39_14.tod k).binary = false ∧ nmeaMessage w39_14_b = TodMsg.time utc ∧ (w39_14.todUart 1).d = some (↑(↑utc + (w39_14.tod k).offset).toNat - roundHalfUp (↑value) (10 ^ 9 * 2 ^ 64)) ∧ (↑utc + (w39_14.tod k).offset).toNat = (w39_14.todUart 1).label + 1 ∧ ↑(↑utc + (w39_14.tod k).offset).toNat - roundHalfUp (↑value) (10 ^ 9 * 2 ^ 64) ≠ 0) ∧
    (w39_15.sylRuns 12 = true) ∧
    (∃ k value utc, w39_15.todOn 1 = some k ∧ w39_15.todEdge k 1000001 = some value ∧ (w39_15.tod k).binary = true ∧ binaryMessage (x39_bin 10) = TodMsg.time utc ∧ (w39_15.todUart 1).d = some (↑(↑utc + (w39_15.tod k).offset).toNat - roundHalfUp (↑value) (10 ^ 9 * 2 ^ 64)) ∧ (↑utc + (w39_15.tod k).offset).toNat = (w39_15.todUart 1).label + 1 ∧ ↑(↑utc + (w39_15.tod k).offset).toNat - roundHalfUp (↑value) (10 ^ 9 * 2 ^ 64) ≠ 0) ∧
    (w39_16.sylRuns 12 = true) ∧
    (∃ k value utc, w39_16.todOn 1 = some k ∧ w39_16.todEdge k 1000001 = some value ∧ (w39_16.tod k).binary = true ∧ binaryMessage (x39_bin 10) = TodMsg.time utc ∧ ¬((w39_16.todUart 1).d = some (↑(↑utc + (w39_16.tod k).offset).toNat - roundHalfUp (↑value) (10 ^ 9 * 2 ^ 64)) ∧ (↑utc + (w39_16.tod k).offset).toNat = (w39_16.todUart 1).label + 1 ∧ ↑(↑utc + (w39_16.tod k).offset).toNat - roundHalfUp (↑value) (10 ^ 9 * 2 ^ 64) ≠ 0)) ∧
    (w39_17.sylRuns 12 = true) ∧
    (binaryMessage [0#8] = TodMsg.skip) ∧
    (∃ k, w39_17.todOn 1 = some k ∧ (w39_17.tod k).binary = true) := by
  and_intros
  all_goals first
    | decide +kernel
    | exact some_of (by decide +kernel)
    | exact ⟨_, _, rfl, by decide +kernel, by decide +kernel, rfl⟩
    | exact Option.isSome_iff_exists.1 (by decide +kernel)
    | (refine ⟨_, _, _, rfl, rfl, ?_, rfl, ?_⟩ <;> decide +kernel)

/-! #### twin roles -/
def x40_wd (v : BitVec 32) : BitVec 32 := v + BitVec.ofNat 32 (crc8 v)
def x40_w1 := x40_wd (3 * 2^29 + 2^28 + 777 * 2^12 + 2^11)
def x40_g (r link wit : Nat) (l : List (Fld × Nat)) (x : TwinSt) : State := { with1 up ([(Reg.TWIN_STATUS_ROLE, r), (Reg.TWIN_STATUS_LINK, link), (Reg.TWIN_STATUS_WITNESS, wit), (Reg.TWIN_STATUS_SOLO_STRAP, 0), (Reg.TWIN_CFG_EN, 1), (Reg.TWIN_EPOCH_OWN, 65535), (Reg.TWIN_EPOCH_TWIN, 9), (Reg.TWIN_STATUS_LANE0_OK, 1), (Reg.TWIN_STATUS_LANE1_OK, 1)] ++ l) with twin := x, commons := [(0x1FE000/8, 6), (0x1FE080/8, 7)] }
def w40_0 : State := x40_g 0 0 0 [(Reg.TWIN_CFG_EN, 0)] {}
def w40_1 : State := x40_g 0 1 1 [(Reg.TWIN_CFG_EN, 0)] {}
def w40_2 : State := x40_g 2 1 1 [(Reg.TWIN_STATUS_SOLO_STRAP, 1)] {}
def w40_3 : State := x40_g 2 0 1 [] { heard := true }
def w40_5 : State := x40_g 2 1 1 [] { heard := true, pair := 1, role := 3 }
def w40_6 : State := x40_g 2 1 1 [(Reg.TWIN_STATUS_PAIR_ID, 1)] { heard := true, pair := 0, role := 4 }
def w40_8 : State := x40_g 3 1 1 [(Reg.TWIN_STATUS_PAIR_ID, 1), (Reg.TWIN_STATUS_DEMOTE_PENDING, 1)] { heard := true, pair := 0, role := 4, inel := true }
def w40_9 : State := x40_g 3 1 1 [(Reg.TWIN_STATUS_PAIR_ID, 1), (Reg.TWIN_STATUS_DEMOTE_PENDING, 1)] { heard := true, pair := 0, role := 4 }
def w40_10 : State := x40_g 4 1 0 [] { heard := true, pair := 0, role := 3 }
def w40_14 : State := { x40_g 4 1 1 [] { heard := true, pair := 0, role := 3 } with up := 5 }

theorem witness_twin_roles :
    (w40_0.hostOpen Reg.TWIN_CFG_EN.addr) ∧
    (w40_0.rd Reg.TWIN_STATUS_SOLO_STRAP = 0) ∧
    (w40_0.rd Reg.TWIN_CFG_EN = 0) ∧
    (¬(w40_0.twinRole = 2 ∧ w40_0.ran Timer.seeking 40000 = true)) ∧
    (¬(w40_0.rd Reg.TWIN_STATUS_LINK ≠ 0 ∧ w40_0.ran Timer.link 4000 = true)) ∧
    (¬(w40_0.rd Reg.TWIN_CFG_EN ≠ 0 ∧ crc8 x40_w1 = x40_w1.toNat % 256)) ∧
    (¬(w40_0.rd Reg.TWIN_STATUS_WITNESS ≠ 0 ∧ w40_0.ran Timer.witnessIn 8000 = true)) ∧
    (w40_0.hostOpen Reg.TWIN_CMD_DEMOTE.addr) ∧
    (w40_0.twinRole ≠ 3) ∧
    (¬(w40_0.rd Reg.TWIN_STATUS_DEMOTE_PENDING ≠ 0 ∧ w40_0.twinRole = 3 ∧ w40_0.canDemote = true)) ∧
    (w40_0.ran (Timer.lane 1) 4000 = true) ∧
    (w40_1.rd Reg.TWIN_STATUS_LINK ≠ 0 ∧ w40_1.ran Timer.link 4000 = true) ∧
    (w40_1.rd Reg.TWIN_STATUS_WITNESS ≠ 0 ∧ w40_1.ran Timer.witnessIn 8000 = true) ∧
    (w40_2.hostOpen Reg.TWIN_CFG_EN.addr) ∧
    (w40_2.rd Reg.TWIN_STATUS_SOLO_STRAP ≠ 0 ∨ w40_2.rd Reg.TWIN_CFG_EN ≠ 0) ∧
    (w40_2.rd Reg.TWIN_CFG_EN ≠ 0) ∧
    (w40_2.twinRole = 2 ∧ w40_2.ran Timer.seeking 40000 = true) ∧
    (¬(w40_2.twin.heard = true ∧ w40_2.twin.pair = w40_2.rd Reg.TWIN_STATUS_PAIR_ID)) ∧
    (¬(w40_2.twin.heard = true ∧ w40_2.twin.role = 3 ∨ w40_2.ineligible = true)) ∧
    (w40_2.twin.heard = false ∨ w40_2.rd Reg.TWIN_STATUS_PAIR_ID = 0 ∨ w40_2.twin.inel = true) ∧
    (w40_2.rd Reg.TWIN_CFG_EN ≠ 0 ∧ crc8 x40_w1 = x40_w1.toNat % 256) ∧
    (w40_2.twinRole < 3) ∧
    (w40_3.twinRole = 2 ∧ w40_3.ran Timer.seeking 40000 = true) ∧
    (w40_3.twin.heard = true ∧ w40_3.twin.pair = w40_3.rd Reg.TWIN_STATUS_PAIR_ID) ∧
    (w40_5.twinRole = 2 ∧ w40_5.ran Timer.seeking 40000 = true) ∧
    (¬(w40_5.twin.heard = true ∧ w40_5.twin.pair = w40_5.rd Reg.TWIN_STATUS_PAIR_ID)) ∧
    (w40_5.twin.heard = true ∧ w40_5.twin.role = 3 ∨ w40_5.ineligible = true) ∧
    (w40_6.twinRole = 2 ∧ w40_6.ran Timer.seeking 40000 = true) ∧
    (¬(w40_6.twin.heard = true ∧ w40_6.twin.pair = w40_6.rd Reg.TWIN_STATUS_PAIR_ID)) ∧
    (¬(w40_6.twin.heard = true ∧ w40_6.twin.role = 3 ∨ w40_6.ineligible = true)) ∧
    (w40_6.twin.heard = true) ∧
    (w40_6.rd Reg.TWIN_STATUS_PAIR_ID ≠ 0) ∧
    (w40_6.twin.inel = false) ∧
    (w40_8.rd Reg.TWIN_CFG_EN ≠ 0 ∧ crc8 x40_w1 = x40_w1.toNat % 256) ∧
    (w40_8.twinRole = 3) ∧
    (w40_8.hostOpen Reg.TWIN_CMD_DEMOTE.addr) ∧
    (w40_8.canDemote = false) ∧
    (w40_9.hostOpen Reg.TWIN_CMD_DEMOTE.addr) ∧
    (w40_9.twinRole = 3) ∧
    (w40_9.canDemote = true) ∧
    (w40_9.rd Reg.TWIN_STATUS_DEMOTE_PENDING ≠ 0 ∧ w40_9.twinRole = 3 ∧ w40_9.canDemote = true) ∧
    (w40_10.rd Reg.TWIN_CFG_EN ≠ 0 ∧ crc8 x40_w1 = x40_w1.toNat % 256) ∧
    (w40_10.twinRole = 4 ∨ w40_10.twinRole = 5) ∧
    (w40_14.ran (Timer.lane 0) 4000 = false) := by
  and_intros <;> decide +kernel

/-! #### twin frames -/
def x41_g (r link wit : Nat) (l : List (Fld × Nat)) (x : TwinSt) : State := { with1 up ([(Reg.TWIN_STATUS_ROLE, r), (Reg.TWIN_STATUS_LINK, link), (Reg.TWIN_STATUS_WITNESS, wit), (Reg.TWIN_STATUS_SOLO_STRAP, 0), (Reg.TWIN_CFG_EN, 1), (Reg.TWIN_EPOCH_OWN, 65535), (Reg.TWIN_EPOCH_TWIN, 9), (Reg.TWIN_STATUS_LANE0_OK, 1), (Reg.TWIN_STATUS_LANE1_OK, 1)] ++ l) with twin := x, commons := [(0x1FE000/8, 6), (0x1FE080/8, 7)], paths := [(2, { ramp := 123456789012345678901234567890 })] }
def x41_hb (q : Nat) : Heartbeat := ⟨q, 1, 3, 70, true, false, true, true, false, -5, 6, 7⟩
def x41_mk : MarkerIn := ⟨9, (List.range 8).map (· * 1000000), [1,2,3,4]⟩
def x41_cal : List (Fld × Nat) := [(Reg.TWIN_STATUS_CAL_VALID, 1), (Reg.TWIN_STATUS_INDEXED, 1), (Reg.TWIN_STATUS_SLIP, 0), (Reg.TWIN_FOLD_VALUE 2, 100000), (Reg.TWIN_DELAY_VALUE, 2^24-64)]
def x41_hs (q r : Nat) (dem res c i : Bool) (ep : BitVec 16) : Heartbeat := ⟨q, 1, r, ep, i, c, false, dem, res, -5, 6, 7⟩
def w41_0 : State := x41_g 1 0 0 [(Reg.TWIN_CFG_EN, 0)] {}
def w41_1 : State := x41_g 2 0 0 [] { hbSeq := some 7, resetReq := 1 }
def w41_2 : State := x41_g 2 0 0 [] { hbSeq := some 6, hbRun := 3, resetReq := 5 }
def w41_4 : State := x41_g 3 0 0 [] { hbSeq := some 6, hbRun := 3, resetReq := 5 }
def w41_5 : State := x41_g 4 0 0 x41_cal { hbSeq := some 6, hbRun := 3, edges := [(8, 5), (9, 77777777)] }
def w41_9_h : Heartbeat := x41_hs 7 4 true false false false 70
def w41_9 : State := x41_g 4 1 0 [] { hbSeq := some 6 }
def w41_17_h : Heartbeat := x41_hs 7 3 false true false false 65535
def w41_17 : State := x41_g 4 1 0 [(Reg.TWIN_CFG_ACCEPT_RESET, 1)] { hbSeq := some 6 }
def w41_19 : State := { x41_g 4 1 0 [] { hbSeq := some 7 } with up := 5 }

theorem witness_twin_frames :
    (¬(w41_0.rd Reg.TWIN_CFG_EN ≠ 0 ∧ w41_0.ran Timer.heartbeat 1000 = true)) ∧
    (w41_0.rd Reg.TWIN_CFG_EN = 0) ∧
    (w41_0.twinRole ≠ 3) ∧
    (w41_0.markersCount = false ∨ List.find? (fun k => k.1 == x41_mk.idx) w41_0.twin.edges = none) ∧
    (w41_0.ran Timer.witnessOut 34000 = true) ∧
    (w41_0.hostOpen Reg.TWIN_CMD_RESET_TWIN.addr) ∧
    (w41_1.rd Reg.TWIN_CFG_EN ≠ 0 ∧ w41_1.ran Timer.heartbeat 1000 = true) ∧
    (w41_1.rd Reg.TWIN_CFG_EN ≠ 0) ∧
    (w41_1.rd Reg.TWIN_CFG_EN ≠ 0 ∧ ¬((x41_hb 7).resetReq = true ∧ w41_1.rd Reg.TWIN_CFG_ACCEPT_RESET ≠ 0 ∧ (x41_hb 7).role = 3 ∧ (x41_hb 7).epoch.toNat = w41_1.rd Reg.TWIN_EPOCH_OWN ∧ w41_1.twinRole ≠ 3 ∧ w41_1.rd Reg.RST_CAUSE_BUSY = 0)) ∧
    (w41_1.twin.hbSeq = some (x41_hb 7).seq) ∧
    ((w41_2.rd Reg.TWIN_CFG_EN ≠ 0 ∧ ¬((x41_hb 7).resetReq = true ∧ w41_2.rd Reg.TWIN_CFG_ACCEPT_RESET ≠ 0 ∧ (x41_hb 7).role = 3 ∧ (x41_hb 7).epoch.toNat = w41_2.rd Reg.TWIN_EPOCH_OWN ∧ w41_2.twinRole ≠ 3 ∧ w41_2.rd Reg.RST_CAUSE_BUSY = 0)) ∧ w41_2.twin.hbSeq ≠ some (x41_hb 7).seq) ∧
    (w41_2.twinRole < 3) ∧
    ((w41_4.rd Reg.TWIN_CFG_EN ≠ 0 ∧ ¬((x41_hb 0).resetReq = true ∧ w41_4.rd Reg.TWIN_CFG_ACCEPT_RESET ≠ 0 ∧ (x41_hb 0).role = 3 ∧ (x41_hb 0).epoch.toNat = w41_4.rd Reg.TWIN_EPOCH_OWN ∧ w41_4.twinRole ≠ 3 ∧ w41_4.rd Reg.RST_CAUSE_BUSY = 0)) ∧ w41_4.twin.hbSeq ≠ some (x41_hb 0).seq) ∧
    (w41_4.twinRole = 3) ∧
    (w41_5.markersCount = true) ∧
    (∃ stamp, List.find? (fun k => k.1 == x41_mk.idx) w41_5.twin.edges = some (x41_mk.idx, stamp)) ∧
    ((w41_9.rd Reg.TWIN_CFG_EN ≠ 0 ∧ ¬(w41_9_h.resetReq = true ∧ w41_9.rd Reg.TWIN_CFG_ACCEPT_RESET ≠ 0 ∧ w41_9_h.role = 3 ∧ w41_9_h.epoch.toNat = w41_9.rd Reg.TWIN_EPOCH_OWN ∧ w41_9.twinRole ≠ 3 ∧ w41_9.rd Reg.RST_CAUSE_BUSY = 0)) ∧ w41_9.twin.hbSeq ≠ some w41_9_h.seq) ∧
    (w41_9.twinRole = 4 ∨ w41_9.twinRole = 5) ∧
    (w41_9_h.role = 3 → ¬if w41_9_h.demoteReq = true ∧ w41_9.twinRole = 4 then w41_9.ineligible = false ∧ w41_9.rd Reg.TWIN_STATUS_CONFLICT = 0 else ¬(w41_9.rd Reg.TWIN_STATUS_LINK ≠ 0 ∨ 4 ≤ if w41_9.twin.hbSeq = some (w41_9_h.seq - 1) ∧ 0 < w41_9_h.seq then w41_9.twin.hbRun + 1 else 1) ∧ (w41_9.ineligible = false ∧ w41_9.rd Reg.TWIN_STATUS_CONFLICT = 0) ∧ (w41_9.rd Reg.TWIN_STATUS_WITNESS = 0 ∨ w41_9_h.role ≠ 3 ∧ (w41_9.rd Reg.TWIN_STATUS_PAIR_ID = 0 ∨ w41_9_h.inel = true))) ∧
    (w41_17.rd Reg.TWIN_CFG_EN ≠ 0) ∧
    (w41_17_h.resetReq = true ∧ w41_17.rd Reg.TWIN_CFG_ACCEPT_RESET ≠ 0 ∧ w41_17_h.role = 3 ∧ w41_17_h.epoch.toNat = w41_17.rd Reg.TWIN_EPOCH_OWN ∧ w41_17.twinRole ≠ 3 ∧ w41_17.rd Reg.RST_CAUSE_BUSY = 0) ∧
    (w41_19.ran Timer.witnessOut 34000 = false) := by
  and_intros
  all_goals first
    | decide +kernel
    | exact ⟨_, rfl⟩

/-! #### sources -/
def x42_g (ev st : Nat) (l : List (Fld × Nat)) (p : List (Nat × Nat)) (a : Nat) : State := { with1 up ([(Reg.FLT_SRC_STATUS_STATE ev, st), (Reg.FLT_SRC_STATUS_RAISES ev, 5), (Reg.FLT_SRC_STATUS_SEEN ev, 1), (Reg.FLT_SRC_STATUS_RECOVERIES ev, 255)] ++ l) with flt := { present := p, life := [(3, 6), (ev, 2^32-1)], src := [(ev, { cls := 1, action := a })], dirty := true } }
def w42_0 : State := x42_g 3 0 [] [] 0
def w42_1 : State := x42_g 3 0 [(Reg.FLT_SRC_CFG_CLASS 3, 2)] [] 0
def w42_2 : State := x42_g 3 0 [(Reg.FLT_SRC_CFG_CLASS 3, 0)] [] 0
def w42_7 : State := x42_g 60 0 [] [] 0
def w42_8 : State := x42_g 3 1 [] [] 0
def w42_10 : State := x42_g 3 2 [] [(3,7)] 5
def w42_13 : State := x42_g 17 3 [] [] 5
def w42_23 : State := { x42_g 17 0 [] [] 0 with jnl := { queue := [⟨.collector, 0x11, 0, []⟩] } }
def w42_24 : State := { x42_g 17 0 [(Reg.PWR_RAIL_STATUS_WARN, 1)] [] 0 with jnl := { queue := [] } }

theorem witness_sources :
    (reservedEv 3 = false ∧ w42_0.collects = true) ∧
    (w42_0.rd (Reg.FLT_SRC_STATUS_STATE 3) = 0) ∧
    (3 < 96) ∧
    (w42_0.rd (Reg.FLT_SRC_CFG_CLASS 3) = 1) ∧
    (w42_0.rd (Reg.FLT_SRC_STATUS_STATE 3) ≠ 1 ∨ ¬w42_0.timerDone 3 = true) ∧
    (w42_0.rd (Reg.FLT_SRC_STATUS_STATE 3) ≠ 3 ∨ ¬w42_0.timerDone 3 = true) ∧
    (w42_0.hostOpen Reg.FLT_ACK.addr) ∧
    (w42_0.hostOpen Reg.FLT_CMD_LIFE_SAVE.addr) ∧
    (¬∃ r ∈ w42_0.jnl.queue, r.who = JnlWriter.collector) ∧
    (¬(w42_0.deferring = true ∨ 16 ≤ w42_0.jnl.queue.length)) ∧
    (w42_0.flt.dirty = true) ∧
    (reservedEv 3 = false ∧ w42_1.collects = true) ∧
    (w42_1.rd (Reg.FLT_SRC_STATUS_STATE 3) = 0) ∧
    (3 < 96) ∧
    (w42_1.rd (Reg.FLT_SRC_CFG_CLASS 3) = 2) ∧
    (reservedEv 3 = false ∧ w42_2.collects = true) ∧
    (w42_2.rd (Reg.FLT_SRC_STATUS_STATE 3) = 0) ∧
    (96 ≤ 3 ∨ w42_2.rd (Reg.FLT_SRC_CFG_CLASS 3) = 0 ∨ w42_2.rd (Reg.FLT_SRC_CFG_CLASS 3) = 3) ∧
    (¬(reservedEv 60 = false ∧ w42_7.collects = true)) ∧
    (reservedEv 3 = false ∧ w42_8.collects = true) ∧
    (w42_8.rd (Reg.FLT_SRC_STATUS_STATE 3) = 1) ∧
    (w42_8.timerDone 3 = true) ∧
    (w42_8.hostOpen Reg.FLT_ACK.addr) ∧
    (¬(false = true ∧ w42_8.timerDone 3 = true)) ∧
    (reservedEv 3 = false ∧ w42_10.collects = true) ∧
    (w42_10.rd (Reg.FLT_SRC_STATUS_STATE 3) = 2 ∨ w42_10.rd (Reg.FLT_SRC_STATUS_STATE 3) = 3) ∧
    (w42_10.hostOpen Reg.FLT_ACK.addr) ∧
    (w42_13.rd (Reg.FLT_SRC_STATUS_STATE 17) = 3) ∧
    (w42_13.timerDone 17 = true) ∧
    (w42_23.hostOpen Reg.FLT_CMD_LIFE_SAVE.addr) ∧
    (∃ r ∈ w42_23.jnl.queue, r.who = JnlWriter.collector) ∧
    (w42_23.flt.dirty = false ∨ ∃ r ∈ w42_23.jnl.queue, r.who = JnlWriter.collector) ∧
    (w42_24.hostOpen Reg.FLT_CMD_LIFE_SAVE.addr) ∧
    (¬∃ r ∈ w42_24.jnl.queue, r.who = JnlWriter.collector) ∧
    (w42_24.deferring = true ∨ 16 ≤ w42_24.jnl.queue.length) ∧
    (w42_24.flt.dirty = true) := by
  and_intros <;> decide +kernel

/-! #### supplies -/
def x43_dn (m : Nat) : State := { rich with clk := { rich.clk with unpowered := m } }
def x43_good : State := with1 rich [(Reg.PWR_RAIL_STATUS_GOOD, 0x1FF), (Reg.ETH_STATUS_LINK 2, 1), (Reg.APLL_STATUS_LOCK 3, 1), (Reg.APLL_STATUS_STATE 3, 4), (Reg.APLL_STATUS_LOCK 5, 1), (Reg.APLL_STATUS_STATE 5, 6), (Reg.TDC_CAL_STATUS_DLL_LOCK 7, 1), (Reg.TDC_CAL_STATUS_DLL_LOCK 49, 1), (Reg.DEV_CLK_STATUS_XO_ACTIVE, 1)]
def w43_0 : State := rich
def w43_1 : State := rich
def w43_2 : State := rich
def w43_3 : State := with1 (x43_dn (2^21)) [(Reg.PWR_RAIL_STATUS_WARN, 0x1FF), (Reg.PWR_RAIL_STATUS_GOOD, 0)]
def w43_5 : State := with1 (x43_dn (2^21)) [(Reg.PWR_STATUS_STATE, 2)]
def w43_6 : State := with1 (x43_dn (2^21)) []
def w43_9 : State := x43_good
def w43_10 : State := x43_good
def w43_11 : State := x43_good
def w43_13 : State := x43_good
def w43_14 : State := x43_good
def w43_15 : State := x43_good
def w43_18 : State := { with1 x43_good [(Reg.PWR_RAIL_STATUS_GOOD, 0)] with chans := [(7, { lost := true }), (50, {lost := true})] }
def w43_21 : State := { with1 x43_good [(Reg.PWR_RAIL_STATUS_WARN, 8)] with jnl := { x43_good.jnl with ordered := true } }
def w43_23 : State := x43_dn (2^6)
def w43_24 : State := x43_dn (2^25)

theorem witness_supplies :
    (w43_0.monitorOff 2 = false) ∧
    (w43_0.railWarn 2 = false) ∧
    (w43_0.railWarn 0 = false) ∧
    (w43_0.railWarn 3 = false) ∧
    (w43_0.ran Timer.supply 10000 = true) ∧
    (maskBit (w43_0.rd Reg.PWR_RAIL_STATUS_GOOD) 2 = true ∧ w43_0.monitorOff 2 = false) ∧
    (maskBit (w43_0.rd Reg.PWR_RAIL_STATUS_GOOD) 2 = true) ∧
    (27 ≠ 0 ∧ w43_0.railWarn 0 = false ∧ maskBit w43_0.clk.unpowered 27 = false) ∧
    (27 < 3 ∨ 18 < 27) ∧
    (maskBit w43_0.clk.unpowered 27 = false) ∧
    (maskBit (w43_1.rd Reg.PWR_RAIL_STATUS_GOOD) 0 = true ∧ w43_1.monitorOff 0 = false) ∧
    (maskBit (w43_2.rd Reg.PWR_RAIL_STATUS_GOOD) 1 = true ∧ w43_2.monitorOff 1 = false) ∧
    (¬(0 ≠ 0 ∧ w43_2.railWarn 0 = false ∧ maskBit w43_2.clk.unpowered 0 = false)) ∧
    (w43_3.monitorOff 0 = true ∨ w43_3.railWarn 0 = true) ∧
    (w43_3.railWarn 0 = true) ∧
    (w43_3.jnl.ordered = false) ∧
    (w43_3.railWarn 0 = true ∨ w43_3.railWarn 3 = true ∨ w43_3.ran Timer.supply 10000 = false) ∧
    (maskBit (w43_3.rd Reg.PWR_RAIL_STATUS_GOOD) 0 = false) ∧
    (¬(0 = 3 ∧ w43_3.clk.tb = PllSt.locked ∧ w43_3.awake = true)) ∧
    (maskBit w43_3.clk.unpowered 21 = true) ∧
    (21 < 3 ∨ 18 < 21) ∧
    (21 ≠ 25) ∧
    (maskBit (w43_5.rd Reg.PWR_RAIL_STATUS_GOOD) 8 = true) ∧
    (w43_5.monitorOff 8 = true) ∧
    (maskBit (w43_6.rd Reg.PWR_RAIL_STATUS_GOOD) 5 = true ∧ w43_6.monitorOff 5 = false) ∧
    (2 ≠ 0 ∧ w43_9.railWarn 0 = false ∧ maskBit w43_9.clk.unpowered 2 = false) ∧
    (2 = 2 ∨ 2 = 20) ∧
    (maskBit (w43_10.rd Reg.PWR_RAIL_STATUS_GOOD) 3 = true ∧ w43_10.monitorOff 3 = false) ∧
    (maskBit (w43_11.rd Reg.PWR_RAIL_STATUS_GOOD) 4 = true ∧ w43_11.monitorOff 4 = false) ∧
    (maskBit (w43_13.rd Reg.PWR_RAIL_STATUS_GOOD) 6 = true ∧ w43_13.monitorOff 6 = false) ∧
    (maskBit (w43_14.rd Reg.PWR_RAIL_STATUS_GOOD) 7 = true ∧ w43_14.monitorOff 7 = false) ∧
    (maskBit (w43_15.rd Reg.PWR_RAIL_STATUS_GOOD) 8 = true ∧ w43_15.monitorOff 8 = false) ∧
    (maskBit (w43_18.rd Reg.PWR_RAIL_STATUS_GOOD) 3 = false) ∧
    (3 = 3 ∧ w43_18.clk.tb = PllSt.locked ∧ w43_18.awake = true) ∧
    (w43_21.railWarn 3 = true) ∧
    (w43_21.jnl.ordered = true) ∧
    (maskBit w43_24.clk.unpowered 25 = true) ∧
    (3 ≠ 0 ∧ w43_11.railWarn 0 = false ∧ maskBit w43_11.clk.unpowered 3 = false) ∧
    (3 = 3 + 0) ∧
    (maskBit w43_23.clk.unpowered 6 = true) ∧
    (6 = 3 + 3) := by
  and_intros <;> decide +kernel

/-! #### power states -/
def x44_tg (t : Option Nat) (f : Bool) : State := { rich with pwr := { rich.pwr with target := t, final := f, wdog := 99 } }
def x44_jq : JnlReq := ⟨.host, 0x20, 0, [1]⟩
def w44_0 : State := x44_tg none false
def w44_1 : State := x44_tg none false
def w44_2 : State := with1 (x44_tg none false) [(Reg.RST_WDOG_EN, 1), (Reg.RST_WDOG_TIMEOUT, 77)]
def w44_3 : State := with1 (x44_tg (some 2) true) [(Reg.PWR_STATUS_BUSY, 1), (Reg.RST_CAUSE_BUSY, 1)]
def w44_4 : State := with1 (x44_tg (some 1) true) [(Reg.PWR_STATUS_BUSY, 1), (Reg.RST_CAUSE_BUSY, 1)]
def w44_5 : State := with1 { rich with pwr := { rich.pwr with target := some 0 } } [(Reg.TWIN_CFG_EN, 1), (Reg.PWR_STATUS_STATE, 1)]
def w44_6 : State := with1 { rich with pwr := { rich.pwr with target := some 0 } } [(Reg.TWIN_CFG_EN, 1), (Reg.PWR_STATUS_STATE, 2), (Reg.TWIN_STATUS_SOLO_STRAP, 1)]
def w44_7 : State := with1 { rich with aplls := [(1, {applied := true})] } [(Reg.PWR_STATUS_STATE, 1), (Reg.APLL_CFG_EN 1, 1), (Reg.APLL_STATUS_LOCK 1, 1)]
def w44_11 : State := { rich with pwr := { rich.pwr with target := some 2 }, flt := { rich.flt with dirty := true } }
def w44_12 : State := { rich with subst := {}, pwr := { rich.pwr with target := some 3 }, jnl := { rich.jnl with queue := [x44_jq] } }
def w44_15 : State := with1 rich [(Reg.EVR_RING_CFG_EN 1, 1), (Reg.RST_CAUSE_BUSY, 1)]

theorem witness_power_states :
    (w44_0.hostOpen Reg.PWR_CMD_GO.addr) ∧
    (w44_0.powerRefuse 1 = 0 ∧ 1 ≠ w44_0.rd Reg.PWR_STATUS_STATE) ∧
    (1 < 2) ∧
    (w44_0.pwr.target = none) ∧
    (w44_0.hostOpen Reg.RST_WDOG_KICK_KICK.addr) ∧
    (w44_0.rd Reg.RST_WDOG_EN = 0) ∧
    (w44_0.hostOpen Reg.RST_WDOG_EN.addr) ∧
    (w44_0.rd Reg.RST_CAUSE_BUSY = 0) ∧
    (w44_0.hostOpen Reg.RST_CMD_SOFT.addr) ∧
    (w44_1.hostOpen Reg.PWR_CMD_GO.addr) ∧
    (w44_1.powerRefuse 0 ≠ 0 ∨ 0 = w44_1.rd Reg.PWR_STATUS_STATE) ∧
    (w44_1.hostOpen Reg.RST_CMD_SOFT.addr) ∧
    (w44_2.hostOpen Reg.PWR_CMD_GO.addr) ∧
    (w44_2.powerRefuse 2 = 0 ∧ 2 ≠ w44_2.rd Reg.PWR_STATUS_STATE) ∧
    (2 ≤ 2) ∧
    (w44_2.hostOpen Reg.RST_WDOG_KICK_KICK.addr) ∧
    (w44_2.rd Reg.RST_WDOG_EN ≠ 0) ∧
    ((w44_3.pwr.target = some 2 ∨ w44_3.pwr.target = some 3) ∧ ¬(w44_3.anyWarn = true ∨ w44_3.jnl.queue ≠ []) ∧ ¬(w44_3.pwr.final = false ∧ w44_3.flt.dirty = true)) ∧
    (w44_3.rd Reg.RST_CAUSE_BUSY ≠ 0) ∧
    (w44_4.pwr.target = some 1) ∧
    (w44_4.hostOpen Reg.RST_CMD_SOFT.addr) ∧
    (resetIsland 21 = false) ∧
    (w44_5.pwr.target = some 0) ∧
    (w44_5.rd Reg.PWR_STATUS_STATE ≠ 2) ∧
    (w44_6.pwr.target = some 0) ∧
    (w44_6.rd Reg.PWR_STATUS_STATE = 2) ∧
    (w44_7.hostOpen Reg.RST_CMD_SOFT.addr) ∧
    (¬(w44_11.anyWarn = true ∨ w44_11.jnl.queue ≠ [])) ∧
    (w44_11.pwr.final = false ∧ w44_11.flt.dirty = true) ∧
    (∃ v, w44_11.pwr.target = some v ∧ 2 ≤ v) ∧
    (w44_12.anyWarn = true ∨ w44_12.jnl.queue ≠ []) ∧
    (∃ v, w44_12.pwr.target = some v ∧ 2 ≤ v) ∧
    (w44_15.hostOpen Reg.RST_CMD_SOFT.addr) ∧
    (w44_2.hostOpen Reg.RST_CMD_SOFT.addr) ∧
    (5 = 3 + 2) ∧
    (29 = 26 + 3) ∧
    (w44_2.substituted 2 = false) := by
  and_intros
  all_goals first
    | decide +kernel
    | exact some_of (by decide +kernel)

/-! #### resets -/
def x45_st1 : Straps := ⟨true, false, true, true, true⟩
def x45_pw (p v r : Bool) : State := { rich with pwr := { rich.pwr with porHold := p, vddcHold := v }, host := { rich.host with ready := r } }
def w45_0_x : PinIn := ⟨100, true, x45_st1⟩
def w45_0 : State := rich
def w45_2_x : PinIn := ⟨999, false, x45_st1⟩
def w45_2 : State := x45_pw false true true
def w45_4 : State := with1 rich [(Reg.RST_WDOG_EN, 1), (Reg.RST_CAUSE_BUSY, 1)]
def w45_5 : State := with1 rich [(Reg.RST_WDOG_EN, 1)]
def w45_6 : State := x45_pw true false false
def w45_7_x : PinIn := ⟨1000, false, x45_st1⟩
def w45_7 : State := x45_pw false true false

theorem witness_resets :
    (w45_0.pwr.porHold = false) ∧
    (w45_0.host.ready = false) ∧
    (w45_0.pwr.vddcHold = false) ∧
    (¬(w45_0_x.ns < 100 ∨ w45_0_x.ns < 1000 ∧ w45_0_x.taken = false ∨ w45_0.pwr.porHold = true)) ∧
    (w45_0.hostOpen Reg.RST_CMD_SOFT.addr) ∧
    (w45_0.rd Reg.RST_CAUSE_BUSY = 0) ∧
    (¬(w45_0.rd Reg.RST_WDOG_EN ≠ 0 ∧ w45_0.awake = true ∧ w45_0.rd Reg.RST_CAUSE_BUSY = 0 ∧ w45_0.ran Timer.wdog (1000000 * w45_0.pwr.wdog) = true)) ∧
    (w45_2.host.ready = true ∨ w45_2.pwr.porHold = true ∨ w45_2.pwr.vddcHold = true) ∧
    (¬¬(w45_2_x.ns < 100 ∨ w45_2_x.ns < 1000 ∧ w45_2_x.taken = false ∨ w45_2.pwr.porHold = true)) ∧
    (w45_2.pwr.vddcHold = true) ∧
    (w45_4.hostOpen Reg.RST_CMD_SOFT.addr) ∧
    (w45_4.rd Reg.RST_CAUSE_BUSY ≠ 0) ∧
    (w45_5.rd Reg.RST_WDOG_EN ≠ 0 ∧ w45_5.awake = true ∧ w45_5.rd Reg.RST_CAUSE_BUSY = 0 ∧ w45_5.ran Timer.wdog (1000000 * w45_5.pwr.wdog) = true) ∧
    (w45_6.pwr.porHold = true) ∧
    (¬(w45_7_x.ns < 100 ∨ w45_7_x.ns < 1000 ∧ w45_7_x.taken = false ∨ w45_7.pwr.porHold = true)) ∧
    (w45_7.pwr.vddcHold = true) := by
  and_intros <;> decide +kernel

/-! #### journal requests -/
def x46_g (t k l : Nat) (j : JnlSt) (r : List (Fld × Nat)) : State := { with1 up ([(Reg.JNL_FIND_TYPE, t), (Reg.JNL_FIND_KEY, k), (Reg.JNL_FIND_LEN, l)] ++ r) with jnl := j }
def x46_rq : JnlReq := ⟨.host, 0x20, 0, []⟩
def x46_full : JnlSt := { queue := List.replicate 16 x46_rq }
def x46_recd : JnlSt := { half0 := { start := some 0, commit := true, recs := [⟨0x20, 5, 2, true, List.replicate 300 7⟩], point := 3145729 } }
def x46_sl (op seq t k l : Nat) (s : State) : State := { s with commons := [(jnlSlotAt 2 / 8, BitVec.ofNat 64 (op * 2 ^ 56 + seq * 2 ^ 48 + t * 2 ^ 40 + k * 2 ^ 32 + l * 2 ^ 16)), ((jnlSlotAt 2 + 0x3F8) / 8, 55)] }
def w46_0 : State := x46_sl 1 3 0x12 5 1008 (x46_g 0x12 0 5 {} [])
def w46_1 : State := x46_sl 1 3 0x20 5 1008 (x46_g 0x20 0 256 {} [])
def w46_2 : State := x46_sl 1 3 0x20 5 1009 (x46_g 0x20 0 257 {} [])
def w46_3 : State := x46_sl 1 3 0x20 5 1008 (x46_g 0x20 0 256 { shutting := true } [])
def w46_4 : State := x46_sl 2 3 0x20 5 1008 (x46_g 0x20 0 256 x46_full [])
def w46_5 : State := x46_sl 2 3 0x20 5 1008 (x46_g 0x20 5 256 x46_recd [])
def w46_6 : State := x46_sl 2 3 0x12 5 1008 (x46_g 0x20 5 256 x46_recd [])
def w46_7 : State := x46_sl 3 3 0x20 5 1008 (x46_g 0x20 5 256 x46_recd [])
def w46_8 : State := x46_sl 3 3 0x20 5 1008 (x46_g 0x20 5 256 {} [])
def w46_9 : State := x46_sl 1 3 0x20 5 1008 (x46_g 0x20 0 256 x46_full [(Reg.JNL_CMD_APPEND, 1)])

theorem witness_journal_requests :
    (w46_0.hostOpen Reg.JNL_CMD_APPEND.addr) ∧
    (w46_0.rd Reg.JNL_CMD_APPEND = 0) ∧
    (hostType (w46_0.rd Reg.JNL_FIND_TYPE) = false) ∧
    (w46_0.rd Reg.JNL_FIND_TYPE = 18 ∨ w46_0.jnl.inForce (w46_0.rd Reg.JNL_FIND_TYPE) (w46_0.rd Reg.JNL_FIND_KEY) = none) ∧
    (w46_0.slotRequest 2 2 = none) ∧
    (w46_0.slotRequest 2 3 = none) ∧
    (∃ w, w46_0.slotRequest 2 1 = some w ∧ lessonType (w / 2 ^ 40 % 256) = false) ∧
    (w46_1.hostOpen Reg.JNL_CMD_APPEND.addr) ∧
    (w46_1.rd Reg.JNL_CMD_APPEND = 0) ∧
    (hostType (w46_1.rd Reg.JNL_FIND_TYPE) = true) ∧
    (w46_1.rd Reg.JNL_FIND_LEN ≤ 256) ∧
    (w46_1.deferring = false) ∧
    (w46_1.jnl.queue.length < 16) ∧
    (∃ w, w46_1.slotRequest 2 1 = some w ∧ lessonType (w / 2 ^ 40 % 256) = true ∧ w / 2 ^ 16 % 65536 ≤ 1008) ∧
    (w46_2.hostOpen Reg.JNL_CMD_APPEND.addr) ∧
    (w46_2.rd Reg.JNL_CMD_APPEND = 0) ∧
    (hostType (w46_2.rd Reg.JNL_FIND_TYPE) = true) ∧
    (256 < w46_2.rd Reg.JNL_FIND_LEN) ∧
    (∃ w, w46_2.slotRequest 2 1 = some w ∧ lessonType (w / 2 ^ 40 % 256) = true ∧ 1008 < w / 2 ^ 16 % 65536) ∧
    (w46_3.hostOpen Reg.JNL_CMD_APPEND.addr) ∧
    (w46_3.rd Reg.JNL_CMD_APPEND = 0) ∧
    (hostType (w46_3.rd Reg.JNL_FIND_TYPE) = true) ∧
    (w46_3.rd Reg.JNL_FIND_LEN ≤ 256) ∧
    (w46_3.deferring = true) ∧
    (∃ w, w46_3.slotRequest 2 1 = some w ∧ lessonType (w / 2 ^ 40 % 256) = true ∧ w / 2 ^ 16 % 65536 ≤ 1008) ∧
    (w46_4.hostOpen Reg.JNL_CMD_APPEND.addr) ∧
    (w46_4.rd Reg.JNL_CMD_APPEND = 0) ∧
    (hostType (w46_4.rd Reg.JNL_FIND_TYPE) = true) ∧
    (w46_4.rd Reg.JNL_FIND_LEN ≤ 256) ∧
    (w46_4.deferring = false) ∧
    (16 ≤ w46_4.jnl.queue.length) ∧
    (w46_4.slotRequest 2 1 = none) ∧
    (∃ w, w46_4.slotRequest 2 2 = some w ∧ lessonType (w / 2 ^ 40 % 256) = true ∧ w46_4.jnl.inForce (w / 2 ^ 40 % 256) (w / 2 ^ 32 % 256) = none) ∧
    (w46_5.hostOpen Reg.JNL_CMD_APPEND.addr) ∧
    (w46_5.rd Reg.JNL_FIND_TYPE ≠ 18) ∧
    (∃ r, w46_5.jnl.inForce (w46_5.rd Reg.JNL_FIND_TYPE) (w46_5.rd Reg.JNL_FIND_KEY) = some r) ∧
    (∃ w r, w46_5.slotRequest 2 2 = some w ∧ lessonType (w / 2 ^ 40 % 256) = true ∧ w46_5.jnl.inForce (w / 2 ^ 40 % 256) (w / 2 ^ 32 % 256) = some r) ∧
    (∃ w, w46_6.slotRequest 2 2 = some w ∧ lessonType (w / 2 ^ 40 % 256) = false) ∧
    (w46_7.jnl.compacting = false ∧ w46_7.jnl.due = true) ∧
    (∃ w, w46_7.slotRequest 2 3 = some w) ∧
    (w46_8.jnl.compacting = true ∨ w46_8.jnl.due = false) ∧
    (∃ w, w46_8.slotRequest 2 3 = some w) ∧
    (w46_9.hostOpen Reg.JNL_CMD_APPEND.addr) ∧
    (w46_9.rd Reg.JNL_CMD_APPEND ≠ 0) ∧
    (w46_9.deferring = false) ∧
    (16 ≤ w46_9.jnl.queue.length) ∧
    (∃ w, w46_9.slotRequest 2 1 = some w ∧ lessonType (w / 2 ^ 40 % 256) = true ∧ w / 2 ^ 16 % 65536 ≤ 1008) := by
  and_intros
  all_goals first
    | decide +kernel
    | exact some_of (by decide +kernel)
    | exact Option.isSome_iff_exists.1 (by decide +kernel)
    | (refine ⟨_, _, rfl, ?_⟩; decide +kernel)
    | (refine ⟨_, _, rfl, rfl, ?_⟩; decide +kernel)
    | exact ⟨_, _, rfl, by decide +kernel, rfl⟩

/-! #### journal media -/
def x47_g (j : JnlSt) (r : List (Fld × Nat)) : State := { with1 up r with jnl := j, nor := [(0x10005, 7)] }
def x47_rh : JnlReq := ⟨.host, 0x20, 0, [1,2,3]⟩
def x47_rc : JnlReq := ⟨.collector, 0x11, 0, [1,2,3]⟩
def x47_rs : JnlReq := ⟨.slot 2 5, 0x20, 0, [1,2,3]⟩
def x47_recs : JnlHalf := { start := some 0, commit := true, recs := [⟨0x20, 5, 2, true, List.replicate 300 7⟩], point := 400 }
def x47_q (r : JnlReq) (s : Nat) (p := Compaction.none) : JnlSt := { half0 := x47_recs, queue := [r], served := s, phase := p }
def x47_fullh : JnlHalf := { x47_recs with point := 4194304 }
def x47_kr : JnlHalf := { start := some 0, commit := true, recs := [⟨0x12, 5, 2, true, [9,9]⟩, ⟨0x12, 6, 2, true, [8,9]⟩, ⟨0x11, 0, 2, true, List.replicate 512 7⟩], point := 4000000 }
def w47_0 : State := x47_g (x47_q x47_rh 2) [(Reg.JNL_CMD_APPEND, 1)]
def w47_2 : State := x47_g (x47_q x47_rs 2) [(Reg.JNL_NOR_ADDR_ADDR, 0x400000)]
def w47_3 : State := x47_g { x47_q x47_rs 2 with queue := [] } [(Reg.JNL_NOR_ADDR_ADDR, 0x10003)]
def w47_4 : State := x47_g { x47_q x47_rs 2 with queue := [] } [(Reg.JNL_NOR_ADDR_ADDR, 0xC00000)]
def w47_6 : State := x47_g { x47_q x47_rs 2 with op := some ⟨false, 0x10000, [1,2,3,4,5,6,7,8]⟩ } [(Reg.JNL_NOR_ADDR_ADDR, 0x10003)]
def w47_7 : State := x47_g (x47_q x47_rs 2 .erasing) []
def w47_8 : State := x47_g (x47_q x47_rs 2 .copying) []
def w47_9 : State := x47_g (x47_q x47_rs 2 .cleaning) []
def w47_11 : State := x47_g { x47_q x47_rh 2 with half0 := {} } [(Reg.JNL_CMD_APPEND, 1)]
def w47_12 : State := x47_g { x47_q x47_rc 2 with half0 := x47_fullh } [(Reg.FLT_CMD_LIFE_SAVE, 1)]
def w47_13 : State := x47_g { x47_q x47_rh 2 with half0 := x47_fullh, worn := true } []
def w47_14 : State := x47_g { x47_q x47_rh 2 with half0 := x47_fullh, phase := .cleaning } []
def w47_16 : State := x47_g { x47_q x47_rh 2 with half0 := x47_kr, porScan := true } []
def w47_17 : State := x47_g { x47_q x47_rh 2 with half0 := x47_kr, ordered := true } []

theorem witness_journal_media :
    ((w47_0.jnl.nextReq = some x47_rh ∧ ¬(w47_0.deferring = true ∨ w47_0.jnl.phase = Compaction.erasing ∨ w47_0.jnl.phase = Compaction.copying ∨ w47_0.jnl.op ≠ none)) ∧ recFits w47_0.jnl.used x47_rh.data.length = true) ∧
    (w47_0.jnl.active = some (w47_0.jnl.active.getD false)) ∧
    (¬(w47_0.jnl.phase = Compaction.erasing ∧ w47_0.anyWarn = false)) ∧
    (¬(w47_0.jnl.phase = Compaction.copying ∧ w47_0.anyWarn = false)) ∧
    (¬(w47_0.jnl.phase = Compaction.cleaning ∧ w47_0.anyWarn = false)) ∧
    (w47_0.jnl.phase = Compaction.none) ∧
    (w47_0.jnl.porScan = false) ∧
    (w47_0.jnl.ordered = false) ∧
    (w47_0.hostOpen Reg.JNL_NOR_CMD_READ.addr) ∧
    (w47_0.norRefuse (w47_0.rd Reg.JNL_NOR_ADDR_ADDR / 256 * 256) false = none) ∧
    (w47_0.norRefuse (w47_0.rd Reg.JNL_NOR_ADDR_ADDR / 256 * 256) true = none) ∧
    (w47_0.jnl.op = none) ∧
    (w47_0.norRefuse (w47_0.rd Reg.JNL_NOR_ADDR_ADDR / 65536 * 65536) true = none) ∧
    (w47_2.hostOpen Reg.JNL_NOR_CMD_READ.addr) ∧
    (∃ e, w47_2.norRefuse (w47_2.rd Reg.JNL_NOR_ADDR_ADDR / 256 * 256) false = some e) ∧
    (∃ e, w47_2.norRefuse (w47_2.rd Reg.JNL_NOR_ADDR_ADDR / 256 * 256) true = some e) ∧
    (∃ e, w47_2.norRefuse (w47_2.rd Reg.JNL_NOR_ADDR_ADDR / 65536 * 65536) true = some e) ∧
    (w47_3.jnl.nextReq = none ∨ w47_3.deferring = true ∨ w47_3.jnl.phase = Compaction.erasing ∨ w47_3.jnl.phase = Compaction.copying ∨ w47_3.jnl.op ≠ none) ∧
    (w47_4.hostOpen Reg.JNL_NOR_CMD_READ.addr) ∧
    (w47_4.norRefuse (w47_4.rd Reg.JNL_NOR_ADDR_ADDR / 256 * 256) false = none) ∧
    (w47_6.hostOpen Reg.JNL_NOR_CMD_READ.addr) ∧
    (w47_6.norRefuse (w47_6.rd Reg.JNL_NOR_ADDR_ADDR / 256 * 256) true = none) ∧
    (w47_6.jnl.op ≠ none) ∧
    (w47_6.norRefuse (w47_6.rd Reg.JNL_NOR_ADDR_ADDR / 65536 * 65536) true = none) ∧
    (∃ op, w47_6.jnl.op = some op) ∧
    (w47_7.jnl.phase = Compaction.erasing ∧ w47_7.anyWarn = false) ∧
    (w47_8.jnl.phase = Compaction.copying ∧ w47_8.anyWarn = false) ∧
    (w47_8.jnl.phase = Compaction.copying) ∧
    (w47_8.jnl.porScan = false) ∧
    (w47_8.jnl.ordered = false) ∧
    (w47_9.jnl.phase = Compaction.cleaning ∧ w47_9.anyWarn = false) ∧
    ((w47_11.jnl.nextReq = some x47_rh ∧ ¬(w47_11.deferring = true ∨ w47_11.jnl.phase = Compaction.erasing ∨ w47_11.jnl.phase = Compaction.copying ∨ w47_11.jnl.op ≠ none)) ∧ recFits w47_11.jnl.used x47_rh.data.length = true) ∧
    (w47_11.jnl.active = none) ∧
    (w47_12.jnl.nextReq = some x47_rc ∧ ¬(w47_12.deferring = true ∨ w47_12.jnl.phase = Compaction.erasing ∨ w47_12.jnl.phase = Compaction.copying ∨ w47_12.jnl.op ≠ none)) ∧
    (¬recFits w47_12.jnl.used x47_rc.data.length = true) ∧
    (w47_12.jnl.worn = false) ∧
    (w47_12.jnl.compacting = false) ∧
    (w47_13.jnl.nextReq = some x47_rh ∧ ¬(w47_13.deferring = true ∨ w47_13.jnl.phase = Compaction.erasing ∨ w47_13.jnl.phase = Compaction.copying ∨ w47_13.jnl.op ≠ none)) ∧
    (¬recFits w47_13.jnl.used x47_rh.data.length = true) ∧
    (w47_13.jnl.worn = true) ∧
    (w47_14.jnl.nextReq = some x47_rh ∧ ¬(w47_14.deferring = true ∨ w47_14.jnl.phase = Compaction.erasing ∨ w47_14.jnl.phase = Compaction.copying ∨ w47_14.jnl.op ≠ none)) ∧
    (¬recFits w47_14.jnl.used x47_rh.data.length = true) ∧
    (w47_14.jnl.worn = false) ∧
    (w47_14.jnl.compacting = true) ∧
    (w47_16.jnl.porScan = true) ∧
    (w47_16.jnl.phase = Compaction.none) ∧
    (w47_17.jnl.phase ≠ Compaction.cleaning) ∧
    (w47_17.jnl.due = true) ∧
    (w47_17.jnl.ordered = true) ∧
    (w47_17.deferring = false) ∧
    (w47_17.jnl.phase ≠ Compaction.copying) := by
  and_intros
  all_goals first
    | decide +kernel
    | exact Option.isSome_iff_exists.1 (by decide +kernel)

/-! #### image load -/
def x48_imgB : List Nat := [36, 199, 17, 94, 1, 176, 1, 0, 0, 0, 0, 0, 244, 1, 0, 0, 1, 0, 0, 0, 75, 245, 18, 47, 52, 69, 84, 197, 59, 222, 46, 187, 140, 210, 183, 227, 209, 96, 10, 214, 49, 195, 133, 165, 215, 204, 226, 60, 119, 133, 69, 154, 142, 83, 59, 111, 160, 191, 123, 70, 37, 187, 48, 102, 124, 1, 251, 96, 126, 249, 248, 184, 168, 15, 239, 91, 48, 6, 40, 112, 49, 135, 178, 163, 115, 235, 29, 189, 224, 51, 24, 54, 109, 6, 159, 131, 166, 245, 144, 0, 83, 199, 54, 51, 203, 4, 27, 33, 197, 94, 26, 134, 193, 244, 0, 180, 81, 89, 11, 122, 81, 81, 64, 210, 215, 132, 200, 86, 8, 102, 143, 223, 239, 140, 130, 253, 31, 91, 229, 36, 33, 85, 74, 13, 195, 208, 51, 237, 173, 99, 228, 14, 119, 51, 78, 110, 19, 244, 247, 40, 17, 8, 168, 255, 226, 60, 148, 173, 112, 238, 228, 59, 199, 143, 201, 230, 222, 19, 128, 226, 0, 0, 0, 0, 0, 0, 0, 0, 0, 0, 0, 0, 0, 0, 0, 0, 0, 0, 0, 0, 0, 0, 0, 0, 0, 0, 0, 0, 0, 0, 0, 0, 0, 0, 0, 0, 0, 0, 0, 0, 0, 0, 0, 0, 0, 0, 0, 0, 0, 0, 0, 0, 0, 0, 0, 0, 0, 0, 0, 0, 0, 0, 0, 0, 0, 0, 0, 0, 0, 0, 0, 0, 0, 0, 0, 0, 1]
def x48_imgH : Nat := 65507800368225342018150903944061759239452626214368703913339024140409733396514
def x48_im (b : Bool) (per : Nat) : State := { with1 up [(Reg.DEV_LOAD_CMD_LOAD, 1), (Reg.DEV_BELL_PERIOD, per)] with nor := (x48_imgB.zipIdx.filter (·.1 ≠ 255)).map (fun x => (x.2, BitVec.ofNat 8 x.1)), fuses := { cust0 := x48_imgH }, eng := if b then [(3, { run := true })] else [], subst := { phase := .serving, eng := 3 } }
def x48_sets (b : Bool) : ImageSet := ⟨[{ imem := [(1, 7)], bind := [0x200] }], b, false, []⟩
def w48_0 : State := up
def w48_1 : State := x48_im true 500
def w48_3 : State := with1 up [(Reg.DEV_LOAD_CMD_LOAD, 1)]

theorem load_tries_good : w48_1.loadTries (x48_sets false) (x48_sets true) = (0, (1, 0, 0), 1, 0, 0) := by decide +kernel

theorem witness_image_load :
    (w48_0.hostOpen Reg.DEV_LOAD_CMD_LOAD.addr) ∧
    (w48_0.anyRunning = false) ∧
    (w48_0.rd Reg.DEV_LOAD_CMD_LOAD = 0) ∧
    (w48_1.hostOpen Reg.DEV_LOAD_CMD_LOAD.addr) ∧
    (w48_1.anyRunning = true) ∧
    (w48_1.rd Reg.DEV_LOAD_CMD_LOAD ≠ 0) ∧
    ((w48_1.loadTries (x48_sets false) (x48_sets true)).2.1.1 = 1) ∧
    (w48_3.rd Reg.DEV_LOAD_CMD_LOAD ≠ 0) ∧
    ((w48_3.loadTries (x48_sets false) (x48_sets true)).2.1.1 ≠ 1) := by
  and_intros
  all_goals first
    | (rw [load_tries_good]; done)
    | (rw [load_tries_good]; rfl)
    | decide +kernel

/-! #### security -/
def x49_tokB : List Nat := [0, 0, 0, 0, 0, 0, 0, 0, 0, 0, 0, 0, 0, 0, 0, 0, 1, 0, 0, 0, 0, 0, 0, 0, 0, 0, 0, 0, 0, 0, 0, 0, 0, 0, 0, 0, 0, 0, 0, 0, 0, 0, 0, 0, 0, 0, 0, 0, 187, 195, 205, 58, 157, 177, 74, 217, 195, 56, 135, 197, 97, 143, 188, 168, 89, 72, 5, 133, 45, 199, 240, 201, 195, 60, 251, 4, 201, 5, 75, 185, 76, 21, 57, 201, 235, 149, 214, 49, 209, 49, 81, 228, 26, 200, 99, 92, 81, 145, 166, 162, 15, 57, 9, 170, 57, 106, 180, 24, 200, 100, 80, 103, 81, 59, 125, 87, 37, 78, 80, 124, 118, 49, 39, 59, 154, 144, 117, 167, 56, 29, 117, 230, 93, 17, 142, 214, 82, 117, 209, 145, 38, 252, 72, 229, 81, 59, 125, 87, 37, 78, 80, 124, 118, 49, 39, 59, 154, 144, 117, 167, 56, 29, 117, 230, 93, 17, 142, 214, 82, 117, 209, 145, 38, 252, 72, 229]
def x49_tokH : Nat := 95259784495338653314976046836441896752168184283026952368438769344068883770207
def x49_tok (ok : Bool) : State := { State.reset with fuses := { debugHash := if ok then x49_tokH else 5 }, keys := [(1, [1])], jnl := { half0 := { start := some 0, commit := true, recs := [⟨0x12, 1, 2, true, [1,2]⟩, ⟨0x12, 2, 3, true, [1,2]⟩], point := 100 } }, regs := (List.range 4).map (fun k => ((Reg.SEC_UID_DATA k).key, 0)) ++ (List.range 4).map (fun k => ((Reg.SEC_NONCE_DATA k).key, if k = 0 then 1 else 0)) ++ (List.range 44).map (fun k => ((Reg.SEC_TOKEN_DATA k).key, leRead (x49_tokB.map (BitVec.ofNat 8)) (4 * k) 4)) }
def x49_f (sel fe pe len warn : Nat) : State := with1 (x49_tok false) [(Reg.SEC_FUSE_CMD_SEL, sel), (Reg.SEC_CTRL_FUSE_EN, fe), (Reg.SEC_CTRL_PROV_EN, pe), (Reg.SEC_KEY_CMD_LEN, len), (Reg.SEC_KEY_CMD_SLOT, 1), (Reg.PWR_RAIL_STATUS_WARN, warn), (Reg.SEC_KEY_DATA_DATA 1, 77)]
def w49_0 : State := x49_tok true
def w49_1 : State := x49_tok false
def w49_2 : State := with1 (x49_tok true) [(Reg.SEC_STATUS_GATE, 1)]
def w49_4 : State := x49_f 3 1 1 15 0
def w49_5 : State := x49_f 6 1 1 16 0
def w49_6 : State := x49_f 4 1 1 64 1
def w49_9 : State := { x49_f 4 1 1 65 0 with fuses := { busy := some (7, 1) }, prov := some (3, [5,6]) }

theorem witness_security :
    (w49_0.hostOpen Reg.SEC_FUSE_CMD_PROG.addr) ∧
    (w49_0.fuses.busy = none) ∧
    (¬(w49_0.rd Reg.SEC_CTRL_FUSE_EN ≠ 0 ∧ w49_0.anyWarn = false ∧ (w49_0.rd Reg.SEC_FUSE_CMD_SEL = 1 ∨ w49_0.rd Reg.SEC_FUSE_CMD_SEL = 2 ∨ w49_0.rd Reg.SEC_FUSE_CMD_SEL = 3 ∨ w49_0.rd Reg.SEC_FUSE_CMD_SEL = 4 ∨ w49_0.rd Reg.SEC_FUSE_CMD_SEL = 6 ∨ w49_0.rd Reg.SEC_FUSE_CMD_SEL = 7))) ∧
    (w49_0.prov = none) ∧
    (w49_0.hostOpen Reg.SEC_KEY_CMD_PROVISION.addr) ∧
    (w49_0.rd Reg.SEC_CTRL_PROV_EN ≠ 0 ∧ w49_0.gateClosed = true) ∧
    (w49_0.rd Reg.SEC_KEY_CMD_LEN < 16 ∨ 64 < w49_0.rd Reg.SEC_KEY_CMD_LEN) ∧
    (w49_0.anyWarn = false) ∧
    (w49_0.hostOpen Reg.SEC_DEBUG_OPEN_GO.addr) ∧
    (w49_0.gateClosed = true) ∧
    (w49_0.tokenOk = true) ∧
    (w49_0.rd Reg.SEC_STATUS_GATE ≠ 1 ∨ w49_0.anyWarn = true ∨ w49_0.prov ≠ none) ∧
    (w49_1.hostOpen Reg.SEC_DEBUG_OPEN_GO.addr) ∧
    (w49_1.gateClosed = true) ∧
    (w49_1.tokenOk = false) ∧
    (w49_2.hostOpen Reg.SEC_KEY_CMD_PROVISION.addr) ∧
    (w49_2.prov = none) ∧
    (¬(w49_2.rd Reg.SEC_CTRL_PROV_EN ≠ 0 ∧ w49_2.gateClosed = true)) ∧
    (w49_2.hostOpen Reg.SEC_DEBUG_OPEN_GO.addr) ∧
    (w49_2.gateClosed = false) ∧
    (w49_2.rd Reg.SEC_STATUS_GATE = 1) ∧
    (w49_2.anyWarn = false) ∧
    (w49_4.hostOpen Reg.SEC_FUSE_CMD_PROG.addr) ∧
    (w49_4.fuses.busy = none) ∧
    (w49_4.rd Reg.SEC_CTRL_FUSE_EN ≠ 0 ∧ w49_4.anyWarn = false ∧ (w49_4.rd Reg.SEC_FUSE_CMD_SEL = 1 ∨ w49_4.rd Reg.SEC_FUSE_CMD_SEL = 2 ∨ w49_4.rd Reg.SEC_FUSE_CMD_SEL = 3 ∨ w49_4.rd Reg.SEC_FUSE_CMD_SEL = 4 ∨ w49_4.rd Reg.SEC_FUSE_CMD_SEL = 6 ∨ w49_4.rd Reg.SEC_FUSE_CMD_SEL = 7)) ∧
    (w49_4.rd Reg.SEC_FUSE_CMD_SEL = 3 ∨ w49_4.fuseField (w49_4.rd Reg.SEC_FUSE_CMD_SEL) = 0) ∧
    (w49_5.hostOpen Reg.SEC_FUSE_CMD_PROG.addr) ∧
    (w49_5.fuses.busy = none) ∧
    (w49_5.rd Reg.SEC_CTRL_FUSE_EN ≠ 0 ∧ w49_5.anyWarn = false ∧ (w49_5.rd Reg.SEC_FUSE_CMD_SEL = 1 ∨ w49_5.rd Reg.SEC_FUSE_CMD_SEL = 2 ∨ w49_5.rd Reg.SEC_FUSE_CMD_SEL = 3 ∨ w49_5.rd Reg.SEC_FUSE_CMD_SEL = 4 ∨ w49_5.rd Reg.SEC_FUSE_CMD_SEL = 6 ∨ w49_5.rd Reg.SEC_FUSE_CMD_SEL = 7)) ∧
    (w49_5.rd Reg.SEC_FUSE_CMD_SEL ≠ 3) ∧
    (w49_5.fuseField (w49_5.rd Reg.SEC_FUSE_CMD_SEL) ≠ 0) ∧
    (w49_5.hostOpen Reg.SEC_KEY_CMD_PROVISION.addr) ∧
    (w49_5.prov = none) ∧
    (w49_5.rd Reg.SEC_CTRL_PROV_EN ≠ 0 ∧ w49_5.gateClosed = true) ∧
    (16 ≤ w49_5.rd Reg.SEC_KEY_CMD_LEN) ∧
    (w49_5.rd Reg.SEC_KEY_CMD_LEN ≤ 64) ∧
    (w49_5.anyWarn = false) ∧
    (w49_6.hostOpen Reg.SEC_KEY_CMD_PROVISION.addr) ∧
    (w49_6.prov = none) ∧
    (w49_6.rd Reg.SEC_CTRL_PROV_EN ≠ 0 ∧ w49_6.gateClosed = true) ∧
    (16 ≤ w49_6.rd Reg.SEC_KEY_CMD_LEN) ∧
    (w49_6.rd Reg.SEC_KEY_CMD_LEN ≤ 64) ∧
    (w49_6.anyWarn = true) ∧
    (w49_9.hostOpen Reg.SEC_FUSE_CMD_PROG.addr) ∧
    (w49_9.fuses.busy ≠ none) ∧
    (∃ k v, w49_9.fuses.busy = some (k, v)) ∧
    (w49_9.hostOpen Reg.SEC_KEY_CMD_PROVISION.addr) ∧
    (w49_9.prov ≠ none) ∧
    (∃ k key, w49_9.prov = some (k, key)) := by
  and_intros
  all_goals first
    | decide +kernel
    | exact ⟨_, _, rfl⟩

/-! #### self tests -/
def x50_g (tg ix : Nat) (b : Option (Nat × Nat)) (r : List (Fld × Nat)) : State := { with1 up ([(Reg.TST_BIST_CMD_TARGET, tg), (Reg.TST_BIST_CMD_INDEX, ix), (Reg.EVR_STATUS_READY, 1), (Reg.TST_BIST_STATUS_BUSY, 1), (Reg.ENG_ECC_UNC_I 3, 1)] ++ r) with bist := b, eng := [(3, { imem := [(4, 4)], dmem := [(4,5)] })], dram := { mem := [(4,4)], replaced := [3] } }
def x50_bad (k : Nat) : List (Fld × Nat) := [(repairField 0, k), (repairField 1, k)]
def x50_oks : List (Fld × Nat) := [(repairField 0, 47), (repairField 1, 255), (repairField 2, 255), (repairField 3, 0)]
def w50_0 : State := x50_g 1 16 none []
def w50_1 : State := x50_g 4 0 none (x50_bad 3)
def w50_2 : State := x50_g 2 5 none [(Reg.PWR_RAIL_STATUS_WARN, 1), (Reg.TST_REPAIR_APLL_FAILED, 7)]
def w50_3 : State := x50_g 2 5 (some (1, 3)) [(Reg.PWR_RAIL_STATUS_WARN, 1), (Reg.TST_REPAIR_APLL_FAILED, 8)]
def w50_4 : State := x50_g 2 5 (some (3, 8)) [(repairField 0, 5)]
def w50_5 : State := x50_g 2 5 (some (4, 0)) [(repairField 0, 5)]
def w50_6 : State := x50_g 2 5 (some (4, 0)) x50_oks
def w50_7 : State := x50_g 2 5 (some (4, 0)) (x50_oks ++ [(Reg.PWR_RAIL_STATUS_WARN, 1)])
def w50_11 : State := x50_g 2 5 (some (2, 5)) []
def w50_13 : State := x50_g 3 8 none [(Reg.APLL_SPARE_STATUS_SERVING 8, 15)]
def w50_16 : State := x50_g 2 40 none [(Reg.TDC_CFG_EN 40, 0)]

theorem witness_self_tests :
    (w50_0.hostOpen Reg.TST_BIST_CMD_GO.addr) ∧
    (w50_0.bist = none) ∧
    (w50_0.testAllowed (w50_0.rd Reg.TST_BIST_CMD_TARGET) (w50_0.rd Reg.TST_BIST_CMD_INDEX) = true) ∧
    (w50_0.rd Reg.TST_BIST_CMD_TARGET = 1) ∧
    (¬Option.map Prod.fst w50_0.bist = some 1) ∧
    (¬Option.map Prod.fst w50_0.bist = some 2) ∧
    (¬Option.map Prod.fst w50_0.bist = some 3) ∧
    (¬Option.map Prod.fst w50_0.bist = some 4) ∧
    (w50_0.hostOpen Reg.TST_REPAIR_CMD_SAVE_TDC.addr) ∧
    (¬repairTdcOk w50_0.repairTdc = true) ∧
    (w50_0.rd Reg.TST_REPAIR_APLL_FAILED < 8 ∨ w50_0.rd Reg.TST_REPAIR_APLL_FAILED = 255) ∧
    (w50_0.deferring = false) ∧
    (w50_1.hostOpen Reg.TST_BIST_CMD_GO.addr) ∧
    (w50_1.bist = none) ∧
    (w50_1.testAllowed (w50_1.rd Reg.TST_BIST_CMD_TARGET) (w50_1.rd Reg.TST_BIST_CMD_INDEX) = true) ∧
    (w50_1.rd Reg.TST_BIST_CMD_TARGET = 4) ∧
    (w50_2.hostOpen Reg.TST_BIST_CMD_GO.addr) ∧
    (w50_2.bist = none) ∧
    (w50_2.testAllowed (w50_2.rd Reg.TST_BIST_CMD_TARGET) (w50_2.rd Reg.TST_BIST_CMD_INDEX) = false) ∧
    (w50_2.hostOpen Reg.TST_REPAIR_CMD_SAVE_TDC.addr) ∧
    (w50_2.rd Reg.TST_REPAIR_APLL_FAILED < 8 ∨ w50_2.rd Reg.TST_REPAIR_APLL_FAILED = 255) ∧
    (w50_2.deferring = true) ∧
    (w50_3.hostOpen Reg.TST_BIST_CMD_GO.addr) ∧
    (w50_3.bist.isSome = true) ∧
    (w50_3.bist = some (1, 3)) ∧
    (w50_3.hostOpen Reg.TST_REPAIR_CMD_SAVE_TDC.addr) ∧
    (¬(w50_3.rd Reg.TST_REPAIR_APLL_FAILED < 8 ∨ w50_3.rd Reg.TST_REPAIR_APLL_FAILED = 255)) ∧
    (w50_4.bist = some (3, 8)) ∧
    (w50_5.bist = some (4, 0)) ∧
    ([7#17] ≠ []) ∧
    (w50_6.hostOpen Reg.TST_REPAIR_CMD_SAVE_TDC.addr) ∧
    (repairTdcOk w50_6.repairTdc = true) ∧
    (w50_6.deferring = false) ∧
    (w50_7.hostOpen Reg.TST_REPAIR_CMD_SAVE_TDC.addr) ∧
    (repairTdcOk w50_7.repairTdc = true) ∧
    (w50_7.deferring = true) ∧
    (w50_11.bist = some (2, 5)) ∧
    (w50_13.hostOpen Reg.TST_BIST_CMD_GO.addr) ∧
    (w50_13.bist = none) ∧
    (w50_13.testAllowed (w50_13.rd Reg.TST_BIST_CMD_TARGET) (w50_13.rd Reg.TST_BIST_CMD_INDEX) = true) ∧
    (w50_13.rd Reg.TST_BIST_CMD_TARGET = 3) ∧
    (w50_16.hostOpen Reg.TST_BIST_CMD_GO.addr) ∧
    (w50_16.bist = none) ∧
    (w50_16.testAllowed (w50_16.rd Reg.TST_BIST_CMD_TARGET) (w50_16.rd Reg.TST_BIST_CMD_INDEX) = true) ∧
    (w50_16.rd Reg.TST_BIST_CMD_TARGET = 2) := by
  and_intros <;> decide +kernel

/-! #### tap commands -/
def x51_g (op gate : Nat) : State := { with1 rich [(Reg.SEC_STATUS_GATE, gate)] with jtag := op, outs := [(3, { shown := 2 }), (5, { shown := 6 })] }
def x51_op9 (j : Nat) : State := { with1 up [(Reg.SEC_STATUS_GATE, 2)] with jtag := j, outs := [(3, { shown := 2 })] }
def w51_0 : State := x51_g 0 0
def w51_1_acc : Option FabricAcc := some ⟨4, none⟩
def w51_1 : State := x51_g 1 2
def w51_7_acc : Option FabricAcc := some ⟨0x41, none⟩
def w51_7 : State := x51_op9 1
def w51_9_acc : Option FabricAcc := some ⟨0xB0, some 5⟩
def w51_9 : State := x51_op9 1

theorem witness_tap_commands :
    (w51_0.gateOpen = false) ∧
    (w51_1.gateOpen = true) ∧
    (¬(w51_1.jtag = 0 ∨ w51_1.jtag = 4 ∨ w51_1.jtag = 5 ∨ w51_1.jtag = 8 ∨ w51_1.jtag = 9)) ∧
    (w51_1.hostAlive = true) ∧
    (w51_1.rd Reg.PWR_STATUS_STATE ≠ 2) ∧
    (∃ x, w51_1_acc = some x ∧ x.w = none ∧ x.addr.toNat % 4 = 0 ∧ x.addr.toNat < 28672) ∧
    (w51_7.gateOpen = true) ∧
    (∃ x, w51_7_acc = some x ∧ (w51_7.hostAlive = false ∨ x.addr.toNat % 4 ≠ 0)) ∧
    (w51_9.gateOpen = true) ∧
    (¬(w51_9.jtag = 0 ∨ w51_9.jtag = 4 ∨ w51_9.jtag = 5 ∨ w51_9.jtag = 8 ∨ w51_9.jtag = 9)) ∧
    (w51_9.hostAlive = true) ∧
    (∃ x v, w51_9_acc = some x ∧ x.w = some v ∧ x.addr.toNat % 4 = 0 ∧ x.addr.toNat < 28672) := by
  and_intros
  all_goals first
    | decide +kernel
    | exact some_of (by decide +kernel)
    | (refine ⟨_, _, rfl, ?_⟩; decide +kernel)
    | (refine ⟨_, _, rfl, rfl, ?_⟩; decide +kernel)
    | exact ⟨_, _, rfl, by decide +kernel, rfl⟩

/-! #### fabric words -/
def x52_g (r : List (Fld × Nat)) : State := with1 rich r
def w52_0 : State := up
def w52_1 : State := x52_g [(Reg.FLT_CTRL_LOCK, 1), (Reg.IX_A_ADDR 5, 0x3FFF), (Reg.IX_C_AUTO_INC 5, 0)]
def w52_2 : State := { x52_g [(Reg.FLT_CTRL_LOCK, 1), (Reg.IX_A_ADDR 5, 0x3FFF), (Reg.IX_C_AUTO_INC 5, 0)] with clk := { rich.clk with stopped := 2^22 } }
def w52_3 : State := { x52_g [(Reg.FLT_CTRL_LOCK, 1), (Reg.IX_A_ADDR 5, 0x8000), (Reg.IX_C_AUTO_INC 5, 1), (Reg.IX_S_ADDR_ERR 5, 1)] with clk := { rich.clk with stopped := 2^22 }, paths := [(0, { word := 0x123456789ABCDEF0 })] }
def w52_4 : State := { x52_g [] with scan := true }

theorem witness_fabric_words :
    (w52_0.hostOpen 176) ∧
    (w52_0.hostAlive = true ∧ w52_0.rd Reg.PWR_STATUS_STATE ≠ 2) ∧
    (w52_0.reaches false (196624 + 64 * 2) = true) ∧
    (w52_0.hostOpen (32768 + 16 * 5)) ∧
    (w52_0.rd (Reg.IX_C_AUTO_INC 5) = 0) ∧
    (4 * w52_0.rd (Reg.IX_A_ADDR 5) < 65536) ∧
    (2 ≤ 2 ∧ 2 < 16) ∧
    (w52_0.parity.length < 16) ∧
    (w52_0.host.unlisted = []) ∧
    (w52_0.mismatched 176 = false) ∧
    (w52_1.hostOpen (12288 + 4 * 45)) ∧
    (w52_1.rd Reg.FLT_CTRL_LOCK ≠ 0) ∧
    (reservedEv 45 = false) ∧
    (w52_1.hostAlive = true ∧ w52_1.rd Reg.PWR_STATUS_STATE ≠ 2) ∧
    (148 ≤ 200) ∧
    (w52_2.hostAlive = true ∧ w52_2.rd Reg.PWR_STATUS_STATE ≠ 2) ∧
    (w52_2.reaches true (7936#18).toNat = true) ∧
    (fieldsAt (7936#18).toNat = []) ∧
    (¬(32768 ≤ (7936#18).toNat ∧ (7936#18).toNat < 65536)) ∧
    (w52_3.hostAlive = true ∧ w52_3.rd Reg.PWR_STATUS_STATE ≠ 2) ∧
    (w52_3.rd Reg.PWR_STATUS_STATE < 2) ∧
    (w52_3.reaches true (65536#18).toNat = false) ∧
    (∃ i, islandOf (65536#18).toNat = some i) ∧
    (w52_3.rd (Reg.IX_C_AUTO_INC 5) ≠ 0) ∧
    (4 * w52_3.rd (Reg.IX_A_ADDR 5) = 131072) ∧
    (w52_3.reaches false 131072 = true) ∧
    (w52_4.hostAlive = false) := by
  and_intros
  all_goals first
    | decide +kernel
    | exact Option.isSome_iff_exists.1 (by decide +kernel)

/-! #### serial ports -/
def x53_rdy (a : Nat) : State := { rich with host := { rich.host with ready := true, i2cAddr := a } }
def w53_0 : State := rich
def w53_1 : State := x53_rdy 0x6FF0
def w53_2 : State := x53_rdy 0xB0

theorem witness_serial_ports :
    (w53_0.portsReady = false) ∧
    (w53_1.portsReady = true ∧ w53_1.rd Reg.PWR_STATUS_STATE ≠ 2) ∧
    (w53_1.host.held = none) ∧
    ((176#24).toNat % 4 = 0 ∧ (176#24).toNat + 4 * 3 + 4 ≤ 28672) ∧
    (w53_1.mismatched 176 = false) ∧
    (1 ≤ 3) ∧
    (w53_1.host.i2cAddr % 4 = 0) ∧
    (w53_1.host.i2cAddr + 4 * 3 ≤ 28672) ∧
    (w53_2.portsReady = true ∧ w53_2.rd Reg.PWR_STATUS_STATE ≠ 2) ∧
    (w53_2.host.held = none) ∧
    (badAddr (177#24).toNat = true) := by
  and_intros <;> decide +kernel

/-! #### pcie -/
def x54_upl : State := with1 rich [(Reg.HOST_STATUS_PCIE_LINK, 1), (Reg.HOST_PCIE_STATUS_PARTIAL, 65535)]
def w54_0 : State := rich
def w54_1 : State := x54_upl

theorem witness_pcie :
    (w54_0.pcieUp = false) ∧
    (w54_0.hostAlive = true) ∧
    (w54_0.rd Reg.PWR_STATUS_STATE < 2) ∧
    (w54_0.reachable 2 = true) ∧
    (∀ (k q : ℕ), (w54_0.rxq k q).wait = []) ∧
    (w54_1.pcieUp = true) ∧
    ((179#17).toNat / 4 * 4 + 4 * 3 ≤ 28672) ∧
    (w54_1.mismatched 176 = false) ∧
    (0#4 ≠ 15#4) ∧
    (∀ (k q : ℕ), (w54_1.rxq k q).wait = []) ∧
    (w54_1.flt.msiPending = []) := by
  and_intros
  all_goals first
    | decide +kernel
    | (intro k q; unfold State.rxq; rw [idle_ports _ rfl]; rfl)

/-! #### A single step of a halted engine -/
def w_step : State := { (inLesson 3 { imem := [(5, 0x40032000)] }).wrs [(Reg.ENG_CTRL_HALT 3, 1), (Reg.SEC_STATUS_GATE, 2)] with clk := up.clk }

theorem witness_engine_step :
    (w_step.hostOpen (0x7000 + 0x80 * 3)) ∧ (w_step.engHalted 3 = true) ∧
    (postsBeyond ((w_step.engine 3).iword (w_step.engine 3).pc) = false) ∧
    (∃ j cost body, decodeEngine 3 .ok .ok .ok ((w_step.engine 3).iword (w_step.engine 3).pc) = some j ∧
      engineBody j = some (cost, body)) := by
  refine ⟨by unfold State.hostOpen; decide +kernel, by decide +kernel, by decide +kernel, .eMul 3 .ok 0 3 4, _, _, by decide +kernel, rfl⟩


/-! #### The whole machine -/
theorem witness_memories_stay_canonical : State.reset.memWf = true ∧ (∃ t, step State.reset = .next t) := ⟨by decide +kernel, _, rfl⟩
theorem witness_fuses_only_gain_bits :
    ({ up with fuses := { revoke := 1 } } : State).fuseField 3 = 1 ∧ (1 : Nat).testBit 0 = true := by decide +kernel
theorem witness_memories_kept : (Instr.eEnd 3 .ok).stores = false := by decide

end Sys2Proof.Tests
end

section
/-! The state after reset (O60): every table is empty, so a register field reads its own reset value (R14) and a record
its own default. -/
namespace Sys2Proof.Machine

/-- R14: after reset a register field reads the value of its table's Reset column, whatever the field. -/
@[simp] theorem State.rd_reset (f : Fld) : State.reset.rd f = f.reset := tabGet_nil ..

/-- After reset every engine's record is the default one. -/
@[simp] theorem State.engine_reset (e : Nat) : State.reset.engine e = {} := tabGet_nil ..

/-- The memories list nothing after reset, which is the canonical form of unwritten memory. -/
theorem State.memWf_reset : State.reset.memWf = true := rfl

/-- After reset the queue and the memories are empty, and no fuse is programmed. -/
theorem State.store_reset : State.reset.store = ([], [], [], [], [], [0, 0, 0, 0, 0, 0, 0]) := rfl

/-- Settles O60: by `State.rd_reset` and `State.engine_reset` every clause compares a field's Reset column, or a field of
the default engine record, with the value stated, at every instance. -/
theorem resetState : Obligations.reset_state := by
  unfold Obligations.reset_state
  simp only [State.rd_reset]
  refine ⟨rfl, State.memWf_reset, State.store_reset, ?engines, rfl, rfl, rfl, rfl, rfl, rfl, rfl, ?slots, ?timescales,
    ?records, ?outputs, ?channels, ?sources⟩
  case engines =>
    intro e _
    rw [State.engine_reset]
    exact ⟨rfl, rfl, rfl⟩
  case slots => exact fun n _ => ⟨rfl, rfl, rfl⟩
  case timescales => exact fun n _ => ⟨rfl, rfl, rfl⟩
  case records => exact fun n _ => ⟨rfl, rfl⟩
  case outputs => exact fun n _ => ⟨rfl, rfl, rfl⟩
  case channels => exact fun n _ => ⟨rfl, rfl⟩
  case sources => exact fun n _ => ⟨rfl, rfl, rfl⟩

end Sys2Proof.Machine
end

section
/-! SUPPORT for the clocks: register frames that compose, level conditions, steps over a range of indices, and masks. -/
namespace Sys2Proof.Machine

/-! ### Register frames -/

theorem State.regsBut_refl (s : State) (l : List Fld) : s.regsBut l s := fun _ _ => rfl

theorem State.regsBut.trans {s t u : State} {l : List Fld} (h : s.regsBut l t) (h' : t.regsBut l u) : s.regsBut l u :=
  fun f hf => (h' f hf).trans (h f hf)

theorem State.regsBut.mono {s t : State} {l l' : List Fld} (h : s.regsBut l t) (hl : l ⊆ l') : s.regsBut l' t :=
  fun f hf => h f fun _ hg => hf _ (hl hg)

theorem State.regsBut_wr (s : State) {l : List Fld} {f : Fld} (hf : f ∈ l) (v : Nat) : s.regsBut l (s.wr f v) :=
  fun _ hg => s.rd_wr_ne (hg f hf) v

theorem State.regsBut_wrs (s : State) {l : List Fld} (ws : List (Fld × Nat)) (hw : ∀ p ∈ ws, p.1 ∈ l) :
    s.regsBut l (s.wrs ws) := fun _ hg => s.rd_wrs_ne ws fun p hp => hg p.1 (hw p hp)

theorem State.regsBut_of_regs_eq {s t : State} (h : t.regs = s.regs) (l : List Fld) : s.regsBut l t :=
  fun f _ => State.rd_congr h f

/-! ### Level conditions (R381) -/

/-- After its level is set, a condition is present where it was set on. -/
@[simp] theorem State.present_level_self (s : State) (ev inst : Nat) (on : Bool) (info : Nat) :
    (s.level ev inst on info).present ev inst ↔ on = true := by
  unfold State.present State.level
  cases on <;> by_cases h : (ev, inst) ∈ s.flt.cond <;> simp [h]

theorem State.present_level_on (s : State) (ev inst info : Nat) : (s.level ev inst true info).present ev inst :=
  (s.present_level_self ev inst true info).mpr rfl

theorem State.not_present_level_off (s : State) (ev inst info : Nat) : ¬ (s.level ev inst false info).present ev inst :=
  fun h => Bool.false_ne_true ((s.present_level_self ev inst false info).mp h)

/-- The level of one condition leaves every other as it was. -/
theorem State.present_level_ne (s : State) {ev inst ev' inst' : Nat} (h : (ev', inst') ≠ (ev, inst)) (on : Bool)
    (info : Nat) : (s.level ev inst on info).present ev' inst' ↔ s.present ev' inst' := by
  unfold State.present State.level
  cases on <;> by_cases h' : (ev, inst) ∈ s.flt.cond <;> simp [h', h]

/-- A level changes nothing but what the fault collector sees. -/
theorem State.level_frame (s : State) (ev inst : Nat) (on : Bool) (info : Nat) :
    ∃ c, s.level ev inst on info = { s with flt := c } := by
  unfold State.level
  split <;> split <;> exact ⟨_, rfl⟩

/-! ### Timers -/

@[simp] theorem State.rd_arm (s : State) (k : Timer) (f : Fld) : (s.arm k).rd f = s.rd f := rfl
@[simp] theorem State.arm_clk (s : State) (k : Timer) : (s.arm k).clk = s.clk := rfl

/-- A timer that has just begun has run for no time. -/
@[simp] theorem State.age_arm (s : State) (k : Timer) : (s.arm k).age k = 0 := by
  simp [State.age, State.arm]

/-! ### Steps over a range of indices -/

theorem forRange_succ (n : Nat) (f : Nat → State → State) (s : State) : forRange (n + 1) f s = f n (forRange n f s) := by
  simp [forRange, List.range_succ]

/-- What every step keeps, the steps over a range keep. -/
theorem forRange_keeps {n : Nat} {f : Nat → State → State} (P : State → Prop) (hf : ∀ i < n, ∀ t, P t → P (f i t))
    {s : State} (h : P s) : P (forRange n f s) := by
  induction n with
  | zero => exact h
  | succ n ih =>
    rw [forRange_succ]
    exact hf n n.lt_succ_self _ (ih fun i hi => hf i (hi.trans n.lt_succ_self))

/-- Step `j` brings about `A` where `B` holds, and the other steps keep both: the steps over a range bring about `A`. -/
theorem forRange_establishes {n j : Nat} {f : Nat → State → State} (B A : State → Prop) (hj : j < n)
    (hB : ∀ i < n, i ≠ j → ∀ t, B t → B (f i t)) (hA : ∀ i < n, i ≠ j → ∀ t, A t → A (f i t)) (hf : ∀ t, B t → A (f j t))
    {s : State} (h : B s) : A (forRange n f s) := by
  induction n with
  | zero => omega
  | succ n ih =>
    rw [forRange_succ]
    by_cases hn : n = j
    · subst hn
      exact hf _ (forRange_keeps B (fun i hi => hB i (by omega) hi.ne) h)
    · exact hA n n.lt_succ_self hn _ (ih (by omega) (fun i hi => hB i (by omega)) (fun i hi => hA i (by omega)))

/-! ### Masks -/

@[simp] theorem maskBit_maskSet_self (m i : Nat) : maskBit (maskSet m i) i = true := by
  simp [maskBit, maskSet]

theorem maskBit_maskSet_ne (m : Nat) {i j : Nat} (h : i ≠ j) : maskBit (maskSet m i) j = maskBit m j := by
  simp [maskBit, maskSet, h]

/-- Clearing a bit that stands takes its power of two away, and no other bit changes. -/
theorem maskBit_maskClr_ne (m : Nat) {i j : Nat} (h : i ≠ j) : maskBit (maskClr m i) j = maskBit m j := by
  unfold maskBit maskClr
  split
  case isFalse => rfl
  case isTrue hm =>
    have hlow : m % 2 ^ (i + 1) = 2 ^ i + m % 2 ^ i := by
      rw [Nat.mod_pow_succ, ← Nat.toNat_testBit, hm, Bool.toNat_true, mul_one, add_comm]
    have hsum : 2 ^ (i + 1) * (m / 2 ^ (i + 1)) + (2 ^ i + m % 2 ^ i) = m := hlow ▸ Nat.div_add_mod m _
    have hlt : 2 ^ i + m % 2 ^ i < 2 ^ (i + 1) := hlow ▸ Nat.mod_lt m (Nat.two_pow_pos _)
    have hdiff : m - 2 ^ i = 2 ^ (i + 1) * (m / 2 ^ (i + 1)) + m % 2 ^ i := by omega
    rw [hdiff, Nat.testBit_two_pow_mul_add _ (by omega)]
    conv_rhs => rw [← hsum, Nat.testBit_two_pow_mul_add _ hlt]
    split
    · rw [Nat.testBit_two_pow_add_gt (by omega)]
    · rfl

end Sys2Proof.Machine
end

section
/-! What the clock commands share: what XO_IN's edges, a stop of both PLLs, a switch of TIME's clock, a hold of the APLLs
and a change of the engines to their rings do to the state. -/
namespace Sys2Proof.Machine

/-! ### XO_IN and the PLLs (R28, R29) -/

/-- XO_IN's edges show in XO_ACTIVE, in `xoWait` and in the cause of XO_LOSS, and nowhere else. -/
theorem xoPresent_frame (s : State) :
    ∃ c, xoPresent s = { s.wr Reg.DEV_CLK_STATUS_XO_ACTIVE 1 with clk := { s.clk with xoWait := false }, flt := c } := by
  obtain ⟨c, hc⟩ := State.level_frame
    ({ s.wr Reg.DEV_CLK_STATUS_XO_ACTIVE 1 with clk := { s.clk with xoWait := false } } : State) 0 noInst false 0
  exact ⟨c, hc⟩

@[simp] theorem xoPresent_clk (s : State) : (xoPresent s).clk = { s.clk with xoWait := false } := by simp [xoPresent]

@[simp] theorem rd_xoPresent (s : State) (f : Fld) :
    (xoPresent s).rd f = (s.wr Reg.DEV_CLK_STATUS_XO_ACTIVE 1).rd f := by simp [xoPresent]

theorem xoPresent_not_present (s : State) : ¬ (xoPresent s).present 0 0xFF := State.not_present_level_off _ _ _ _

theorem xoPresent_regsBut (s : State) : s.regsBut [Reg.DEV_CLK_STATUS_XO_ACTIVE] (xoPresent s) :=
  fun f hf => (rd_xoPresent s f).trans (s.rd_wr_ne (hf _ (by simp)) 1)

theorem pllsOff_regsBut (s : State) :
    s.regsBut [Reg.DEV_CLK_STATUS_TBPLL_LOCK, Reg.DEV_CLK_STATUS_SYSPLL_LOCK, Reg.DEV_CLK_CMD_START] (pllsOff s) :=
  s.regsBut_wrs _ (by simp)

theorem rd_pllsOff (s : State) :
    (pllsOff s).rd Reg.DEV_CLK_STATUS_TBPLL_LOCK = 0 ∧ (pllsOff s).rd Reg.DEV_CLK_STATUS_SYSPLL_LOCK = 0 ∧
      (pllsOff s).rd Reg.DEV_CLK_CMD_START = 0 := by
  simp [pllsOff]

/-! ### TIME's clock switches (R29, R226) -/

@[simp] theorem newSegment_regs (p : Nat) (s : State) : (newSegment p s).regs = s.regs := rfl

/-- A switch of TIME's clock concerns registers, the bell and the slewers of the paths. -/
theorem setOnXo_frame (b : Bool) (s : State) : ∃ r x p, setOnXo b s = { s with regs := r, bell := x, paths := p } := by
  have hseg : ∃ p, forRange 8 newSegment (bellSwitch b s) = { bellSwitch b s with paths := p } :=
    forRange_keeps (fun t => ∃ p, t = { bellSwitch b s with paths := p }) (by rintro i _ _ ⟨p, rfl⟩; exact ⟨_, rfl⟩) ⟨_, rfl⟩
  obtain ⟨p, hp⟩ := hseg
  unfold setOnXo
  rw [hp]
  exact forRange_keeps (fun t => ∃ r x p, t = { s with regs := r, bell := x, paths := p })
    (by rintro i _ _ ⟨r, x, p, rfl⟩; exact ⟨_, _, _, rfl⟩) ⟨_, _, _, rfl⟩

/-- The ON_XO flags are the only registers that a switch of TIME's clock writes. -/
theorem setOnXo_regsBut (b : Bool) (s : State) :
    s.regsBut (Reg.DEV_BELL_STATUS_ON_XO :: (List.range 4).map Reg.TS_STATUS_ON_XO) (setOnXo b s) := by
  have hseg : (forRange 8 newSegment (bellSwitch b s)).regs = s.regs :=
    forRange_keeps (fun t => t.regs = s.regs) (f := newSegment) (fun i _ t ht => (newSegment_regs i t).trans ht) rfl
  refine forRange_keeps (s.regsBut _) (fun n hn t ht => ht.trans (t.regsBut_wr ?scale _)) ?bell
  case scale => exact List.mem_cons_of_mem _ (List.mem_map_of_mem (List.mem_range.mpr hn))
  case bell => exact (State.regsBut_of_regs_eq hseg _).trans (State.regsBut_wr _ List.mem_cons_self _)

theorem rd_setOnXo_bell (b : Bool) (s : State) : (setOnXo b s).rd Reg.DEV_BELL_STATUS_ON_XO = b.toNat := by
  refine forRange_keeps (fun t => t.rd Reg.DEV_BELL_STATUS_ON_XO = b.toNat) (fun n _ t ht => ?scale) ?bell
  case scale => rw [State.rd_wrb_ne _ (by simp; omega), ht]
  case bell => cases b <;> simp

theorem rd_setOnXo_scale (b : Bool) (s : State) {n : Nat} (hn : n < 4) :
    (setOnXo b s).rd (Reg.TS_STATUS_ON_XO n) = b.toNat := by
  refine forRange_establishes (fun _ => True) (fun t => t.rd (Reg.TS_STATUS_ON_XO n) = b.toNat) hn
    (fun _ _ _ _ _ => trivial) (fun i _ hi t ht => ?other) (fun t _ => ?own) trivial
  case other => rw [State.rd_wrb_ne _ (by simp; omega), ht]
  case own => cases b <;> simp

/-! ### The time base of the APLLs (R211) -/

/-- A hold of the APLLs concerns their registers and their records. -/
theorem apllsHold_frame (s : State) : ∃ r a, apllsHold s = { s with regs := r, aplls := a } := by
  refine forRange_keeps (fun t => ∃ r a, t = { s with regs := r, aplls := a }) ?_ ⟨_, _, rfl⟩
  rintro k _ _ ⟨r, a, rfl⟩
  dsimp only
  split
  · exact ⟨_, _, rfl⟩
  · exact ⟨_, _, rfl⟩

/-- STATE is the only register that a hold of the APLLs writes. -/
theorem apllsHold_regsBut (s : State) : s.regsBut ((List.range 9).map Reg.APLL_STATUS_STATE) (apllsHold s) := by
  refine forRange_keeps (s.regsBut _) (fun k hk t ht => ht.trans ?_) (s.regsBut_refl _)
  dsimp only
  split
  · exact State.regsBut_wr (t.putApll _ _) (List.mem_map_of_mem (List.mem_range.mpr hk)) _
  · exact t.regsBut_refl _

/-- A rejoin of the APLLs concerns their registers and their records, and uses free values for their drift. -/
theorem apllsRejoin_frame (s : State) : ∃ r a n, apllsRejoin s = { s with regs := r, aplls := a, free := n } := by
  refine forRange_keeps (fun t => ∃ r a n, t = { s with regs := r, aplls := a, free := n }) ?_ ⟨_, _, _, rfl⟩
  rintro k _ _ ⟨r, a, n, rfl⟩
  dsimp only
  split
  · exact ⟨_, _, _, rfl⟩
  · exact ⟨_, _, _, rfl⟩

/-- STATE is the only register that a rejoin of the APLLs writes. -/
theorem apllsRejoin_regsBut (s : State) : s.regsBut ((List.range 9).map Reg.APLL_STATUS_STATE) (apllsRejoin s) := by
  refine forRange_keeps (s.regsBut _) (fun k hk t ht => ht.trans ?_) (s.regsBut_refl _)
  dsimp only
  split
  · exact State.regsBut_wr (t.takeFree.2.putApll _ _) (List.mem_map_of_mem (List.mem_range.mpr hk)) _
  · exact t.regsBut_refl _

/-- The fields of the DEV, bell and timescale registers are none of the STATE fields of the APLLs. -/
theorem apllState_key_ne {f : Fld} (h : f.key < 32 * 0x24018 ∨ 32 * 0x25018 ≤ f.key) :
    ∀ g ∈ (List.range 9).map Reg.APLL_STATUS_STATE, g.key ≠ f.key := by
  simp only [List.forall_mem_map, List.mem_range, Reg.APLL_STATUS_STATE_key]
  intro k hk
  omega

/-- The COARSE flags of open gates and runs stand in the records of the statistics groups. -/
theorem grpsCoarse_frame (s : State) : ∃ g, grpsCoarse s = { s with grps := g } := by
  refine forRange_keeps (fun t => ∃ g, t = { s with grps := g }) ?_ ⟨_, rfl⟩
  rintro m _ _ ⟨g, rfl⟩
  dsimp only
  repeat' split
  all_goals exact ⟨_, rfl⟩

/-! ### The engines' islands run on their rings (R93) -/

theorem markRing_frame (s : State) : ∃ e, markRing s = { s with eng := e } :=
  forRange_keeps (fun t => ∃ e, t = { s with eng := e }) (by rintro i _ _ ⟨e, rfl⟩; exact ⟨_, rfl⟩) ⟨_, rfl⟩

theorem markRing_engine (s : State) {e : Nat} (he : e < 17) : (markRing s).engine e = { s.engine e with ring := true } :=
  forRange_establishes (fun t => t.engine e = s.engine e) (fun t => t.engine e = { s.engine e with ring := true }) he
    (fun _ _ hi t ht => (t.engine_put_ne hi _).trans ht) (fun _ _ hi t ht => (t.engine_put_ne hi _).trans ht)
    (fun t ht => by rw [State.engine_put_self, ht]) rfl

end Sys2Proof.Machine
end

section
/-! What the commands of a timescale leave alone: the clocks, the engines, the level conditions, and every register below
the outputs'. The first tick of TIME applies such commands (R489). -/
namespace Sys2Proof.Machine

/-- From `s` to `t` the clocks, the engines, the level conditions and the registers below the outputs' are kept. -/
def State.keepsClocks (s t : State) : Prop :=
  t.clk = s.clk ∧ t.eng = s.eng ∧ t.flt.cond = s.flt.cond ∧ ∀ f : Fld, f.key < 32 * 0x26000 → t.rd f = s.rd f

theorem State.keepsClocks_refl (s : State) : s.keepsClocks s := ⟨rfl, rfl, rfl, fun _ _ => rfl⟩

theorem State.keepsClocks.trans {s t u : State} (h : s.keepsClocks t) (h' : t.keepsClocks u) : s.keepsClocks u := by
  obtain ⟨hclk, heng, hcond, hrd⟩ := h
  obtain ⟨hclk', heng', hcond', hrd'⟩ := h'
  exact ⟨hclk'.trans hclk, heng'.trans heng, hcond'.trans hcond, fun f hf => (hrd' f hf).trans (hrd f hf)⟩

theorem State.keepsClocks_wr (s : State) {f : Fld} (hf : 32 * 0x26000 ≤ f.key) (v : Nat) : s.keepsClocks (s.wr f v) :=
  ⟨rfl, rfl, rfl, fun _ hg => s.rd_wr_ne (by omega) v⟩

theorem State.keepsClocks_wrs (s : State) (l : List (Fld × Nat)) (hl : ∀ p ∈ l, 32 * 0x26000 ≤ p.1.key) :
    s.keepsClocks (s.wrs l) :=
  ⟨s.wrs_clk l, s.wrs_eng l, congrArg FltSt.cond (s.wrs_flt l),
    fun f hf => s.rd_wrs_ne l fun p hp => by have := hl p hp; omega⟩

theorem State.keepsClocks_raise (s : State) (ev inst info : Nat) : s.keepsClocks (s.raise ev inst info) :=
  ⟨rfl, rfl, rfl, fun _ _ => rfl⟩

theorem State.keepsClocks_putTscale (s : State) (n : Nat) (x : TsSt) : s.keepsClocks (s.putTscale n x) :=
  ⟨rfl, rfl, rfl, fun _ _ => rfl⟩

theorem State.keepsClocks_putGrp (s : State) (m : Nat) (x : GrpSt) : s.keepsClocks (s.putGrp m x) :=
  ⟨rfl, rfl, rfl, fun _ _ => rfl⟩

theorem State.keepsClocks_putRing (s : State) (r : Nat) (x : RingSt) : s.keepsClocks (s.putRing r x) :=
  ⟨rfl, rfl, rfl, fun _ _ => rfl⟩

theorem State.keepsClocks_forRange (s : State) (n : Nat) {f : Nat → State → State}
    (hf : ∀ i (t : State), t.keepsClocks (f i t)) : s.keepsClocks (forRange n f s) :=
  forRange_keeps s.keepsClocks (fun i _ t ht => ht.trans (hf i t)) s.keepsClocks_refl

theorem pulseJump_keepsClocks (n old new : Nat) (s : State) : s.keepsClocks (pulseJump n old new s) := by
  refine s.keepsClocks_forRange 32 fun o t => ?_
  split
  · exact t.keepsClocks_wr (f := Reg.OUT_STATUS_PULSE_MISS o) (by simp; omega) _
  · exact t.keepsClocks_refl

theorem markStepped_keepsClocks (n : Nat) (s : State) : s.keepsClocks (markStepped n s) := by
  refine s.keepsClocks_forRange 16 fun m t => ?_
  dsimp only
  split
  · split
    · exact t.keepsClocks_putGrp ..
    · exact t.keepsClocks_putGrp ..
  · exact t.keepsClocks_refl

theorem anchorsDue_keepsClocks (n : Nat) (s : State) : s.keepsClocks (anchorsDue n s) := by
  refine s.keepsClocks_forRange 8 fun r t => ?_
  dsimp only
  split
  · exact t.keepsClocks_putRing ..
  · exact t.keepsClocks_refl

theorem tsMove_keepsClocks (n v : Nat) (s : State) : s.keepsClocks (tsMove n v s) := by
  have hval := s.keepsClocks_putTscale n { s.tscale n with val := v }
  have htail : ∀ t : State, t.keepsClocks (((anchorsDue n (markStepped n t)).bump (Reg.TS_STEPS_COUNT n)).raise 29 n) :=
    fun t => (((markStepped_keepsClocks n t).trans (anchorsDue_keepsClocks n _)).trans
      (State.keepsClocks_wr _ (f := Reg.TS_STEPS_COUNT n) (by simp; omega) _)).trans (State.keepsClocks_raise ..)
  unfold tsMove
  refine (hval.trans ?_).trans (htail _)
  split
  · exact pulseJump_keepsClocks ..
  · exact State.keepsClocks_refl _

theorem tsSet_keepsClocks (n v : Nat) (s : State) : s.keepsClocks (tsSet n v s) := by
  have hnote := s.keepsClocks_putTscale n { s.tscale n with lastSet := some s.now, lastStep := none }
  unfold tsSet
  dsimp only
  split
  · split
    · exact (hnote.trans (State.keepsClocks_putTscale ..)).trans (State.keepsClocks_raise ..)
    · exact hnote.trans (tsMove_keepsClocks ..)
  · exact hnote.trans (tsMove_keepsClocks ..)

theorem tsCommand_keepsClocks (n : Nat) (isSet : Bool) (s : State) : s.keepsClocks (tsCommand n isSet s) := by
  have hstatus := s.keepsClocks_wrs [(Reg.TS_STATUS_REJ n, 0), (Reg.TS_STATUS_TIMEOUT n, 0)] (by simp; omega)
  have hcmd : ∀ (t : State) (a b : Nat), t.keepsClocks (t.wrs [(Reg.TS_CMD_SET n, a), (Reg.TS_CMD_ADJ n, b)]) :=
    fun t a b => t.keepsClocks_wrs _ (by simp; omega)
  unfold tsCommand
  split
  case isTrue => exact s.keepsClocks_wr (f := Reg.TS_STATUS_REJ n) (by simp; omega) 1
  case isFalse =>
    refine hstatus.trans ?_
    dsimp only
    split
    · exact (State.keepsClocks_putTscale ..).trans (hcmd ..)
    · refine (hcmd _ 0 0).trans ?_
      split
      · exact (tsSet_keepsClocks ..).trans (State.keepsClocks_putTscale ..)
      · exact (tsMove_keepsClocks ..).trans (State.keepsClocks_putTscale ..)

/-- R489: the commands that waited for the first tick of TIME concern the timescales. -/
theorem tsFirstTick_keepsClocks (s : State) : s.keepsClocks (tsFirstTick s) := by
  have hwaiting : ∀ (n : Nat) (b c : Bool) (t : State), t.keepsClocks (if c then tsCommand n b t else t) := by
    intro n b c t
    split
    · exact tsCommand_keepsClocks ..
    · exact t.keepsClocks_refl
  refine s.keepsClocks_forRange 4 fun n t => ?_
  refine (State.keepsClocks.trans ?clear (hwaiting n true _ _)).trans (hwaiting n false _ _)
  split
  · exact t.keepsClocks_refl
  · exact t.keepsClocks_wrs _ (by simp; omega)

end Sys2Proof.Machine
end

section
/-! The start of the clocks and the temperature inputs (O14). -/
namespace Sys2Proof.Machine

/-! ### The start (R25 to R30) -/

/-- R25: at an XO_FREQ that R32 allows, the integer part of N fits NINT. -/
theorem ratioInt_lt {f : Nat} (h : 10000000 ≤ f) : 2000000000 / f < 2 ^ 8 :=
  calc 2000000000 / f ≤ 2000000000 / 10000000 := Nat.div_le_div_left h (by decide)
    _ < 2 ^ 8 := by decide

/-- R27, R28, R32: what START ignores is what is not valid for it. -/
theorem startIgnored_iff (s : State) : (s.clkCfgErr = true ∨ s.clk.tb ≠ .off ∨ s.clk.sys ≠ .off) ↔
    ¬ (10000000 ≤ s.rd Reg.DEV_CLK_CFG_XO_FREQ ∧ s.rd Reg.DEV_CLK_CFG_XO_FREQ ≤ 160000000 ∧
      s.clk.tb = .off ∧ s.clk.sys = .off) := by
  rw [State.clkCfgErr, decide_eq_true_iff, ← not_le, ← not_le]
  tauto

/-- R25 to R28, R30: START with a valid XO_FREQ and both PLLs off. -/
theorem exec_devClkStart_valid (s : State) (ho : s.hostOpen 0x44)
    (hlo : 10000000 ≤ s.rd Reg.DEV_CLK_CFG_XO_FREQ) (hhi : s.rd Reg.DEV_CLK_CFG_XO_FREQ ≤ 160000000)
    (htb : s.clk.tb = .off) (hsys : s.clk.sys = .off) : ∃ t, exec .devClkStart s = .next t ∧
    t.rd Reg.DEV_CLK_CMD_START = 1 ∧ t.rd Reg.DEV_CLK_STATUS_START_FAIL = 0 ∧
    t.rd Reg.DEV_CLK_STATUS_TBPLL_NINT = 2000000000 / s.rd Reg.DEV_CLK_CFG_XO_FREQ ∧
    s.regsBut [Reg.DEV_CLK_CMD_START, Reg.DEV_CLK_STATUS_START_FAIL, Reg.DEV_CLK_STATUS_TBPLL_NINT] t ∧
    t.clk = { s.clk with
      tb := .acquiring
      xoArmed := true
      xoWait := decide (s.rd Reg.DEV_CLK_STATUS_XO_ACTIVE = 0)
      xoFreq := s.rd Reg.DEV_CLK_CFG_XO_FREQ
      nfrac := ratioFrac (s.rd Reg.DEV_CLK_CFG_XO_FREQ) } ∧
    t.age .start = 0 ∧ t = { s with regs := t.regs, clk := t.clk, timers := t.timers } := by
  have hvalid : ¬ (s.clkCfgErr = true ∨ s.clk.tb ≠ .off ∨ s.clk.sys ≠ .off) :=
    fun h => (startIgnored_iff s).mp h ⟨hlo, hhi, htb, hsys⟩
  refine ⟨_, hostCmd_plain 0x44 _ s _ ho (by omega) (by omega) (if_neg hvalid), ?start, ?fail, ?nint, ?regs, ?clk,
    State.age_arm .., rfl⟩
  case start => simp
  case fail => simp
  case nint => simpa using Nat.mod_eq_of_lt (ratioInt_lt hlo)
  case regs => exact s.regsBut_wrs _ (by simp)
  case clk => simp [State.bit_eq]

/-- Both PLLs are off and TIME is stopped in `t`, START has ended, and the clocks are else those of `s` (R28). -/
def State.clocksOff (s t : State) : Prop :=
  t.rd Reg.DEV_CLK_STATUS_TBPLL_LOCK = 0 ∧ t.rd Reg.DEV_CLK_STATUS_SYSPLL_LOCK = 0 ∧ t.rd Reg.DEV_CLK_CMD_START = 0 ∧
    t.clk = { s.clk with tb := .off, sys := .off, time := .stopped, xoWait := false }

theorem clocksOff_pllsOff {s u : State} (h : u.clk = { s.clk with xoWait := false }) : s.clocksOff (pllsOff u) := by
  obtain ⟨htb, hsys, hstart⟩ := rd_pllsOff u
  exact ⟨htb, hsys, hstart, by simp [pllsOff, h]⟩

/-- R28: no edge of XO_IN within 50 µs of START. -/
theorem exec_xoStartTimeout (s : State) (hs : s.rd Reg.DEV_CLK_CMD_START ≠ 0) (hx : s.clk.xoWait = true)
    (hr : s.ran .start 50000 = true) : ∃ t, exec .xoStartTimeout s = .next t ∧ s.clocksOff t ∧ t.present 0 0xFF ∧
    s.regsBut [Reg.DEV_CLK_STATUS_TBPLL_LOCK, Reg.DEV_CLK_STATUS_SYSPLL_LOCK, Reg.DEV_CLK_CMD_START] t ∧
    t = { s with regs := t.regs, clk := t.clk, flt := t.flt } := by
  refine ⟨_, congrArg Host.Outcome.next (if_pos ⟨decide_eq_true hs, hx, hr⟩), ?_⟩
  generalize hu : pllsOff { s with clk := { s.clk with xoWait := false } } = u
  obtain ⟨htb, hsys, hstart, hclk⟩ : s.clocksOff u := hu ▸ clocksOff_pllsOff rfl
  obtain ⟨c, hlevel⟩ := State.level_frame u 0 noInst true 0
  have hbut : s.regsBut [Reg.DEV_CLK_STATUS_TBPLL_LOCK, Reg.DEV_CLK_STATUS_SYSPLL_LOCK, Reg.DEV_CLK_CMD_START] u :=
    hu ▸ pllsOff_regsBut { s with clk := { s.clk with xoWait := false } }
  refine ⟨⟨?_, ?_, ?_, ?_⟩, State.present_level_on ..,
    hbut.trans (State.regsBut_of_regs_eq (State.level_regs ..) _), ?frame⟩
  · rw [State.rd_level, htb]
  · rw [State.rd_level, hsys]
  · rw [State.rd_level, hstart]
  · rw [State.level_clk, hclk]
  case frame => rw [hlevel, ← hu]; rfl

/-- R28, R489: the TBPLL locks. -/
theorem exec_tbpllLock (s : State) (hs : s.rd Reg.DEV_CLK_CMD_START ≠ 0) (htb : s.clk.tb = .acquiring) :
    ∃ t, exec .tbpllLock s = .next t ∧
      t.rd Reg.DEV_CLK_STATUS_TBPLL_LOCK = 1 ∧ t.rd Reg.DEV_CLK_STATUS_XO_ACTIVE = 1 ∧
      t.clk = { s.clk with tb := .locked, sys := .acquiring, time := .tb, xoWait := false } ∧ ¬ t.present 0 0xFF ∧
      t.eng = s.eng ∧ t.store = s.store := by
  refine ⟨_, if_pos ⟨decide_eq_true hs, htb⟩, ?_⟩
  generalize hu : ({ s.wr Reg.DEV_CLK_STATUS_TBPLL_LOCK 1 with
    clk := { s.clk with tb := .locked, sys := .acquiring, time := .tb } } : State) = u
  obtain ⟨hclk, heng, hcond, hrd⟩ := tsFirstTick_keepsClocks (xoPresent u)
  refine ⟨?lock, ?active, ?clk, ?cause, ?eng, ?store⟩
  case lock => rw [hrd _ (by simp), ← hu]; simp
  case active => rw [hrd _ (by simp)]; simp
  case clk => rw [hclk, xoPresent_clk, ← hu]
  case cause =>
    intro h
    rw [State.present, hcond] at h
    exact xoPresent_not_present u h
  case eng => rw [heng, ← hu]; simp [xoPresent]
  case store => rw [tsFirstTick_store, ← hu]; simp [xoPresent]

/-- R28: a PLL has not locked 5.0 ms after START. -/
theorem exec_startFailTimeout (s : State) (hs : s.rd Reg.DEV_CLK_CMD_START ≠ 0) (hr : s.ran .start 5000000 = true) :
    ∃ t, exec .startFailTimeout s = .next t ∧ s.clocksOff t ∧ t.rd Reg.DEV_CLK_STATUS_START_FAIL = 1 ∧
      (s.clk.xoWait = true → t.rd Reg.DEV_CLK_STATUS_XO_ACTIVE = 1 ∧ ¬ t.present 0 0xFF) ∧
      (s.clk.xoWait = false → t.rd Reg.DEV_CLK_STATUS_XO_ACTIVE = s.rd Reg.DEV_CLK_STATUS_XO_ACTIVE ∧ t.flt = s.flt) ∧
      s.regsBut [Reg.DEV_CLK_STATUS_TBPLL_LOCK, Reg.DEV_CLK_STATUS_SYSPLL_LOCK, Reg.DEV_CLK_CMD_START,
        Reg.DEV_CLK_STATUS_START_FAIL, Reg.DEV_CLK_STATUS_XO_ACTIVE] t ∧
      t = { s with regs := t.regs, clk := t.clk, flt := t.flt } := by
  refine ⟨_, congrArg Host.Outcome.next (if_pos ⟨decide_eq_true hs, hr⟩), ?_⟩
  -- XO_IN's edges show first, where none had been seen.
  generalize hu : (if s.clk.xoWait then xoPresent s else s) = u
  have hclk : u.clk = { s.clk with xoWait := false } := by
    rw [← hu]
    split
    case isTrue => exact xoPresent_clk s
    case isFalse h => rw [← Bool.eq_false_of_not_eq_true h]
  have hframe : ∃ r k c, u = { s with regs := r, clk := k, flt := c } := by
    obtain ⟨c, hc⟩ := xoPresent_frame s
    rw [← hu]
    split
    · exact ⟨_, _, _, hc⟩
    · exact ⟨_, _, _, rfl⟩
  have hxo : s.regsBut [Reg.DEV_CLK_STATUS_XO_ACTIVE] u := by
    rw [← hu]
    split
    · exact xoPresent_regsBut s
    · exact s.regsBut_refl _
  have hactive : ((pllsOff u).wr Reg.DEV_CLK_STATUS_START_FAIL 1).rd Reg.DEV_CLK_STATUS_XO_ACTIVE =
      u.rd Reg.DEV_CLK_STATUS_XO_ACTIVE := by simp [pllsOff]
  obtain ⟨htb, hsys, hstart, hoff⟩ := clocksOff_pllsOff hclk
  refine ⟨⟨?_, ?_, ?_, hoff⟩, State.rd_wr_self .., fun hx => ?seen, fun hx => ?held, ?regs, ?frame⟩
  · rw [State.rd_wr_ne _ (by simp), htb]
  · rw [State.rd_wr_ne _ (by simp), hsys]
  · rw [State.rd_wr_ne _ (by simp), hstart]
  case seen =>
    rw [hx, if_pos rfl] at hu
    rw [hactive, ← hu]
    exact ⟨by simp, xoPresent_not_present s⟩
  case held =>
    rw [hx, if_neg Bool.false_ne_true] at hu
    rw [hactive, ← hu]
    exact ⟨rfl, rfl⟩
  case regs =>
    exact ((hxo.mono (by simp)).trans ((pllsOff_regsBut u).mono (by simp))).trans (State.regsBut_wr _ (by simp) 1)
  case frame =>
    obtain ⟨r, k, c, rfl⟩ := hframe
    rfl

/-! ### The temperature inputs (R34, R35, R382) -/

/-- The condition of TEMP_HIGH for a reading `v` at sensor `i`: above the limit, or within 2 °C below it where the cause is
present (R382). -/
def State.tempHigh (s : State) (i : Nat) (v : BitVec 16) : Prop :=
  s.rdi Reg.FLT_TEMP_LIMIT < v.toInt ∨ (maskBit s.clk.hot i = true ∧ s.rdi Reg.FLT_TEMP_LIMIT - 256 < v.toInt)

/-- A reading is a write of the sensor's register, an update of its bit of `hot`, and a level of TEMP_HIGH. -/
theorem tempSensor_eq {i : Nat} (hi : i < 6) (v : BitVec 16) (s : State) : ∃ (m : Nat) (on : Bool),
    tempSensor i v s = ({ s.wrs [(Reg.DEV_TEMP_VALID i, 1), (Reg.DEV_TEMP_VALUE i, v.toNat)] with
      clk := { s.clk with hot := m } } : State).level 4 i on ∧
    (on = true ↔ s.tempHigh i v) ∧ ∀ j, i ≠ j → maskBit m j = maskBit s.clk.hot j := by
  have hlim : (s.wrs [(Reg.DEV_TEMP_VALID i, 1), (Reg.DEV_TEMP_VALUE i, v.toNat)]).rdi Reg.FLT_TEMP_LIMIT =
      s.rdi Reg.FLT_TEMP_LIMIT := congrArg (toSigned _) (s.rd_wrs_ne _ (by simp; omega))
  refine ⟨_, _, rfl, ?on, fun j hj => ?mask⟩
  case on => rw [hlim]; simp [State.tempHigh]
  case mask =>
    split
    · exact maskBit_maskSet_ne _ hj
    · exact maskBit_maskClr_ne _ hj

theorem tempSensor_frame {i : Nat} (hi : i < 6) (v : BitVec 16) (s : State) :
    ∃ r k c, tempSensor i v s = { s with regs := r, clk := k, flt := c } := by
  obtain ⟨m, on, heq, -, -⟩ := tempSensor_eq hi v s
  obtain ⟨c, hc⟩ := State.level_frame ({ s.wrs [(Reg.DEV_TEMP_VALID i, 1), (Reg.DEV_TEMP_VALUE i, v.toNat)] with
      clk := { s.clk with hot := m } } : State) 4 i on 0
  exact ⟨_, _, _, heq.trans hc⟩

theorem tempSensor_regsBut (i : Nat) (v : BitVec 16) (s : State) :
    s.regsBut [Reg.DEV_TEMP_VALID i, Reg.DEV_TEMP_VALUE i] (tempSensor i v s) :=
  (s.regsBut_wrs [(Reg.DEV_TEMP_VALID i, 1), (Reg.DEV_TEMP_VALUE i, v.toNat)] (by simp)).trans
    (State.regsBut_of_regs_eq (State.level_regs ..) _)

/-- A reading concerns TEMP_HIGH of its own sensor alone. -/
theorem tempSensor_present_ne {i : Nat} (hi : i < 6) (v : BitVec 16) (s : State) {ev inst : Nat} (h : (ev, inst) ≠ (4, i)) :
    (tempSensor i v s).present ev inst ↔ s.present ev inst := by
  obtain ⟨m, on, heq, -, -⟩ := tempSensor_eq hi v s
  rw [heq, State.present_level_ne _ h, State.present, State.wrs_flt, State.present]

theorem tempSensor_hot_ne {i : Nat} (hi : i < 6) (v : BitVec 16) (s : State) {j : Nat} (h : i ≠ j) :
    maskBit (tempSensor i v s).clk.hot j = maskBit s.clk.hot j := by
  obtain ⟨m, on, heq, -, hm⟩ := tempSensor_eq hi v s
  rw [heq, State.level_clk]
  exact hm j h

/-- What a sensor shows after its reading (R34, R382). -/
theorem tempSensor_self {i : Nat} (hi : i < 6) (v : BitVec 16) (s : State) :
    (tempSensor i v s).rd (Reg.DEV_TEMP_VALID i) = 1 ∧ (tempSensor i v s).rd (Reg.DEV_TEMP_VALUE i) = v.toNat ∧
      ((tempSensor i v s).present 4 i ↔ s.tempHigh i v) := by
  obtain ⟨m, on, heq, hon, -⟩ := tempSensor_eq hi v s
  rw [heq]
  refine ⟨?valid, ?value, (State.present_level_self ..).trans hon⟩
  case valid => simp
  case value => simpa using Nat.mod_eq_of_lt v.isLt

/-- The readings of the six sensors, in their order. -/
def sensorReadings (r : TempReadings) : List (BitVec 16) := [r.t0, r.t1, r.t2, r.t3, r.t4, r.t5]

/-- The six sensors after a conversion, before the thermistor. -/
def tempSensors (r : TempReadings) (s : State) : State := forRange 6 (fun i => tempSensor i ((sensorReadings r).getD i 0)) s

theorem execTempConversion_eq (r : TempReadings) (s : State) (h : s.rd Reg.PWR_STATUS_STATE < 2) :
    exec (.tempConversion r) s = .next ((((tempSensors r s).wr Reg.DEV_XTH_RATIO r.xth.toNat).wrb Reg.DEV_XTH_VALID
      (decide (1311 ≤ r.xth.toNat ∧ r.xth.toNat ≤ 64225))).level 5 noInst
        (!decide (1311 ≤ r.xth.toNat ∧ r.xth.toNat ≤ 64225))) :=
  if_neg (by omega)

theorem tempSensors_frame (r : TempReadings) (s : State) :
    ∃ g k c, tempSensors r s = { s with regs := g, clk := k, flt := c } := by
  refine forRange_keeps (fun t => ∃ g k c, t = { s with regs := g, clk := k, flt := c }) ?_ ⟨_, _, _, rfl⟩
  rintro i hi _ ⟨g, k, c, rfl⟩
  obtain ⟨g', k', c', h⟩ := tempSensor_frame hi ((sensorReadings r).getD i 0) { s with regs := g, clk := k, flt := c }
  exact ⟨g', k', c', h⟩

theorem tempSensors_regsBut (r : TempReadings) (s : State) :
    s.regsBut ((List.range 6).map Reg.DEV_TEMP_VALID ++ (List.range 6).map Reg.DEV_TEMP_VALUE) (tempSensors r s) := by
  refine forRange_keeps (s.regsBut _) (fun i hi t ht => ht.trans ((tempSensor_regsBut i _ t).mono ?_)) (s.regsBut_refl _)
  have hmem : ∀ F : Nat → Fld, F i ∈ (List.range 6).map F := fun F => List.mem_map_of_mem (List.mem_range.mpr hi)
  exact List.cons_subset.mpr ⟨List.mem_append_left _ (hmem Reg.DEV_TEMP_VALID),
    List.cons_subset.mpr ⟨List.mem_append_right _ (hmem Reg.DEV_TEMP_VALUE), List.nil_subset _⟩⟩

/-- The conversion of the six sensors: each shows its reading, and TEMP_HIGH of each is as its reading has it. -/
theorem tempSensors_self (r : TempReadings) (s : State) {j : Nat} (hj : j < 6) :
    (tempSensors r s).rd (Reg.DEV_TEMP_VALID j) = 1 ∧
      (tempSensors r s).rd (Reg.DEV_TEMP_VALUE j) = ((sensorReadings r).getD j 0).toNat ∧
      ((tempSensors r s).present 4 j ↔ s.tempHigh j ((sensorReadings r).getD j 0)) := by
  refine forRange_establishes
    (fun t => t.rd Reg.FLT_TEMP_LIMIT = s.rd Reg.FLT_TEMP_LIMIT ∧ maskBit t.clk.hot j = maskBit s.clk.hot j)
    (fun t => t.rd (Reg.DEV_TEMP_VALID j) = 1 ∧ t.rd (Reg.DEV_TEMP_VALUE j) = ((sensorReadings r).getD j 0).toNat ∧
      (t.present 4 j ↔ s.tempHigh j ((sensorReadings r).getD j 0))) hj ?before ?after ?reading ⟨rfl, rfl⟩
  case before =>
    rintro i hi hne t ⟨hlim, hhot⟩
    exact ⟨(tempSensor_regsBut i _ t Reg.FLT_TEMP_LIMIT (by simp; omega)).trans hlim,
      (tempSensor_hot_ne hi _ t hne).trans hhot⟩
  case after =>
    rintro i hi hne t ⟨hvalid, hvalue, hhigh⟩
    have hrd := tempSensor_regsBut i ((sensorReadings r).getD i 0) t
    exact ⟨(hrd (Reg.DEV_TEMP_VALID j) (by simp; omega)).trans hvalid,
      (hrd (Reg.DEV_TEMP_VALUE j) (by simp; omega)).trans hvalue,
      (tempSensor_present_ne hi _ t (by simpa using hne.symm)).trans hhigh⟩
  case reading =>
    rintro t ⟨hlim, hhot⟩
    have hsame : t.tempHigh j ((sensorReadings r).getD j 0) ↔ s.tempHigh j ((sensorReadings r).getD j 0) := by
      simp only [State.tempHigh, State.rdi, hlim, hhot]
    obtain ⟨hvalid, hvalue, hhigh⟩ := tempSensor_self hj ((sensorReadings r).getD j 0) t
    exact ⟨hvalid, hvalue, hhigh.trans hsame⟩

/-- R34, R35, R382: a conversion of the temperature inputs. -/
theorem exec_tempConversion (r : TempReadings) (s : State) (h : s.rd Reg.PWR_STATUS_STATE < 2) :
    ∃ t, exec (.tempConversion r) s = .next t ∧
      (∀ i < 6, t.rd (Reg.DEV_TEMP_VALID i) = 1 ∧ t.rd (Reg.DEV_TEMP_VALUE i) = ((sensorReadings r).getD i 0).toNat) ∧
      (∀ i < 6, t.present 4 i ↔ s.tempHigh i ((sensorReadings r).getD i 0)) ∧
      t.rd Reg.DEV_XTH_RATIO = r.xth.toNat ∧ (t.rd Reg.DEV_XTH_VALID = 1 ↔ 1311 ≤ r.xth.toNat ∧ r.xth.toNat ≤ 64225) ∧
      (t.present 5 0xFF ↔ ¬ (1311 ≤ r.xth.toNat ∧ r.xth.toNat ≤ 64225)) ∧
      s.regsBut ([Reg.DEV_XTH_RATIO, Reg.DEV_XTH_VALID] ++ (List.range 6).map Reg.DEV_TEMP_VALID ++
        (List.range 6).map Reg.DEV_TEMP_VALUE) t ∧
      t = { s with regs := t.regs, clk := t.clk, flt := t.flt } := by
  refine ⟨_, execTempConversion_eq r s h, ?_⟩
  generalize hok : decide (1311 ≤ r.xth.toNat ∧ r.xth.toNat ≤ 64225) = ok
  have hiff : (1311 ≤ r.xth.toNat ∧ r.xth.toNat ≤ 64225) ↔ ok = true := by rw [← hok, decide_eq_true_iff]
  generalize hu : ((tempSensors r s).wr Reg.DEV_XTH_RATIO r.xth.toNat).wrb Reg.DEV_XTH_VALID ok = u
  rw [hiff]
  refine ⟨fun i hi => ?shown, fun i hi => ?high, ?ratio, ?valid, ?bad, ?regs, ?frame⟩
  case shown =>
    obtain ⟨hvalid, hvalue, -⟩ := tempSensors_self r s hi
    rw [State.rd_level, State.rd_level, ← hu, State.rd_wrb_ne _ (by simp; omega), State.rd_wr_ne _ (by simp; omega),
      State.rd_wrb_ne _ (by simp; omega), State.rd_wr_ne _ (by simp; omega)]
    exact ⟨hvalid, hvalue⟩
  case high =>
    obtain ⟨-, -, hhigh⟩ := tempSensors_self r s hi
    rw [State.present_level_ne _ (by simp), ← hu]
    exact hhigh
  case ratio =>
    rw [State.rd_level, ← hu, State.rd_wrb_ne _ (by simp), State.rd_wr_self]
    exact Nat.mod_eq_of_lt r.xth.isLt
  case valid => rw [State.rd_level, ← hu, State.rd_wrb_self]; cases ok <;> simp
  case bad => exact (State.present_level_self ..).trans (by simp)
  case regs =>
    have hxth : (tempSensors r s).regsBut [Reg.DEV_XTH_RATIO, Reg.DEV_XTH_VALID] u :=
      hu ▸ (State.regsBut_wr _ (by simp) _).trans (State.regsBut_wr _ (by simp) _)
    rw [List.append_assoc]
    have hsensors := (tempSensors_regsBut r s).mono (List.subset_append_right [Reg.DEV_XTH_RATIO, Reg.DEV_XTH_VALID] _)
    exact (hsensors.trans (hxth.mono (List.subset_append_left ..))).trans
      (State.regsBut_of_regs_eq (State.level_regs ..) _)
  case frame =>
    obtain ⟨g, k, c, hsensors⟩ := tempSensors_frame r s
    obtain ⟨c', hlevel⟩ := State.level_frame u 5 noInst (!ok) 0
    rw [hlevel, ← hu, hsensors]
    rfl

/-- Settles O14: the START, its time-outs, the locks of the two PLLs and the conversion above, each at its own command; where
its guard fails a command leaves the state. -/
theorem clockStartAndTemperatures : Obligations.clock_start_and_temperatures := by
  unfold Obligations.clock_start_and_temperatures
  refine ⟨fun s => ⟨?valid, ?ignored, exec_xoStartTimeout s, ?waiting, exec_tbpllLock s, ?syspll, ?running,
    exec_startFailTimeout s⟩, fun r s => ⟨?doze, exec_tempConversion r s⟩⟩
  case valid =>
    rintro ho ⟨hlo, hhi, htb, hsys⟩
    exact exec_devClkStart_valid s ho hlo hhi htb hsys
  case ignored =>
    exact fun ho hvalid =>
      hostCmd_plain 0x44 doDevClkStart s s ho (by omega) (by omega) (if_pos ((startIgnored_iff s).mpr hvalid))
  case waiting =>
    intro h
    refine congrArg Host.Outcome.next (if_neg ?_)
    rintro ⟨hs, hx, hr⟩
    obtain hs' | hx' | hr' := h
    · exact hs' (of_decide_eq_true hs)
    · exact Bool.false_ne_true (hx'.symm.trans hx)
    · exact Bool.false_ne_true (hr'.symm.trans hr)
  case syspll =>
    intro hs hsys
    refine ⟨_, if_pos ⟨decide_eq_true hs, hsys⟩, ?_, ?_, s.regsBut_wrs _ (by simp), rfl⟩
    · simp
    · simp
  case running => exact fun h => congrArg Host.Outcome.next (if_neg (by simp [h]))
  case doze => exact fun h => if_pos h

end Sys2Proof.Machine
end

section
/-! The loss and the return of the clocks (O15): what each command leaves, one lemma for each command with a state of more
than a few updates. -/
namespace Sys2Proof.Machine

/-! ### The system PLL (R29) -/

/-- R29: a loss of the system PLL. -/
theorem exec_syspllLoss (s : State) (h : s.clk.sys = .locked) : ∃ t, exec .syspllLoss s = .next t ∧
    t.rd Reg.DEV_CLK_STATUS_SYSPLL_LOCK = 0 ∧ t.rd Reg.DEV_CLK_STATUS_SERVO_HOLD = 1 ∧ t.clk = { s.clk with sys := .lost } ∧
    t.present 2 0xFF ∧ (∀ e < 17, t.engine e = { s.engine e with ring := true }) ∧
    s.regsBut [Reg.DEV_CLK_STATUS_SYSPLL_LOCK, Reg.DEV_CLK_STATUS_SERVO_HOLD] t ∧
    t = { s with regs := t.regs, clk := t.clk, flt := t.flt, eng := t.eng } := by
  refine ⟨_, if_pos h, ?_⟩
  generalize hu : ({ s.wrs [(Reg.DEV_CLK_STATUS_SYSPLL_LOCK, 0), (Reg.DEV_CLK_STATUS_SERVO_HOLD, 1)] with
    clk := { s.clk with sys := .lost } } : State) = u
  obtain ⟨e, hring⟩ := markRing_frame (u.level 2 noInst true)
  obtain ⟨c, hlevel⟩ := State.level_frame u 2 noInst true 0
  have hregs : (markRing (u.level 2 noInst true)).regs = u.regs := by rw [hring]; exact State.level_regs ..
  have hrd : s.regsBut [Reg.DEV_CLK_STATUS_SYSPLL_LOCK, Reg.DEV_CLK_STATUS_SERVO_HOLD] u := hu ▸ s.regsBut_wrs _ (by simp)
  refine ⟨?lock, ?hold, ?clk, ?cause, ?engines, hrd.trans (State.regsBut_of_regs_eq hregs _), ?frame⟩
  case lock => rw [State.rd_congr hregs, ← hu]; simp
  case hold => rw [State.rd_congr hregs, ← hu]; simp
  case clk => rw [hring, hlevel, ← hu]
  case cause => rw [hring]; exact State.present_level_on ..
  case engines =>
    intro k hk
    rw [markRing_engine _ hk, State.engine_level, ← hu]
    rfl
  case frame => rw [hring, hlevel, ← hu]; rfl

/-- R29: the 1 ms after a relock ends. -/
theorem exec_servoHoldEnd (s : State) (h : s.clk.sys = .locked) (hr : s.ran .servo 1000000 = true) :
    ∃ t, exec .servoHoldEnd s = .next t ∧
      t.rd Reg.DEV_CLK_STATUS_SERVO_HOLD = 0 ∧ ¬ t.present 2 0xFF ∧ s.regsBut [Reg.DEV_CLK_STATUS_SERVO_HOLD] t ∧
      t = { s with regs := t.regs, flt := t.flt } := by
  refine ⟨_, congrArg Host.Outcome.next (if_pos ⟨h, hr⟩), by simp, State.not_present_level_off _ _ _ _, ?_, ?_⟩
  · exact (s.regsBut_wr (by simp) 0).trans (State.regsBut_of_regs_eq (State.level_regs ..) _)
  · obtain ⟨c, hlevel⟩ := State.level_frame (s.wr Reg.DEV_CLK_STATUS_SERVO_HOLD 0) 2 noInst false 0
    rw [hlevel]
    rfl

/-! ### The TBPLL (R29, R211) -/

/-- What the registers show after a switch of TIME's clock on which the APLLs have acted: the ON_XO flags, and no change in
the registers below the bell's. -/
theorem clockSwitch_rd {b : Bool} {s t : State} (h : (setOnXo b s).regsBut ((List.range 9).map Reg.APLL_STATUS_STATE) t) :
    t.rd Reg.DEV_BELL_STATUS_ON_XO = b.toNat ∧ (∀ n < 4, t.rd (Reg.TS_STATUS_ON_XO n) = b.toNat) ∧
      ∀ f : Fld, f.key < 32 * 0x84 → t.rd f = s.rd f := by
  refine ⟨?bell, fun n hn => ?scale, fun f hf => ?below⟩
  case bell => rw [h _ (apllState_key_ne (by simp)), rd_setOnXo_bell]
  case scale => rw [h _ (apllState_key_ne (by simp; omega)), rd_setOnXo_scale b s hn]
  case below =>
    rw [h f (apllState_key_ne (by omega))]
    refine setOnXo_regsBut b s f ?_
    simp only [List.forall_mem_cons, List.forall_mem_map, List.mem_range, Reg.DEV_BELL_STATUS_ON_XO_key,
      Reg.TS_STATUS_ON_XO_key]
    exact ⟨by omega, fun n _ => by omega⟩

/-- R29, R211: a loss of the TBPLL. -/
theorem exec_tbpllLoss (s : State) (h : s.clk.tb = .locked) : ∃ t, exec .tbpllLoss s = .next t ∧
    t.rd Reg.DEV_CLK_STATUS_TBPLL_LOCK = 0 ∧ t.rd Reg.DEV_CLK_STATUS_TB_ON_XO = 1 ∧ t.rd Reg.DEV_BELL_STATUS_ON_XO = 1 ∧
    (∀ n < 4, t.rd (Reg.TS_STATUS_ON_XO n) = 1) ∧ t.present 1 0xFF ∧
    t.clk = { s.clk with tb := .lost, time := if s.rd Reg.DEV_CLK_STATUS_XO_ACTIVE ≠ 0 then .xo else .waiting } ∧
    t = { s with regs := t.regs, clk := t.clk, flt := t.flt, bell := t.bell, aplls := t.aplls, paths := t.paths,
                 grps := t.grps, tbRem := 0 } := by
  refine ⟨_, if_pos h, ?_⟩
  generalize hu : ({ (grpsCoarse s).wrs [(Reg.DEV_CLK_STATUS_TBPLL_LOCK, 0), (Reg.DEV_CLK_STATUS_TB_ON_XO, 1)] with
    clk := { s.clk with tb := .lost, time := if s.bit Reg.DEV_CLK_STATUS_XO_ACTIVE then .xo else .waiting }
    tbRem := 0 } : State) = u
  obtain ⟨hbell, hscale, hbelow⟩ := clockSwitch_rd (apllsHold_regsBut (setOnXo true (u.level 1 noInst true)))
  obtain ⟨r, a, hhold⟩ := apllsHold_frame (setOnXo true (u.level 1 noInst true))
  obtain ⟨r', x, p, hswitch⟩ := setOnXo_frame true (u.level 1 noInst true)
  obtain ⟨c, hlevel⟩ := State.level_frame u 1 noInst true 0
  have hmove : ∃ r g, u = { s with regs := r, clk := u.clk, grps := g, tbRem := 0 } := by
    obtain ⟨g, hcoarse⟩ := grpsCoarse_frame s
    rw [← hu, hcoarse]
    exact ⟨_, _, rfl⟩
  obtain ⟨r₀, g, hmove⟩ := hmove
  refine ⟨?lock, ?onXo, hbell, hscale, ?cause, ?clk, ?frame⟩
  case lock => rw [hbelow _ (by simp), State.rd_level, ← hu]; simp
  case onXo => rw [hbelow _ (by simp), State.rd_level, ← hu]; simp
  case cause => rw [hhold, hswitch]; exact State.present_level_on ..
  case clk => rw [hhold, hswitch, hlevel, ← hu]; simp [State.bit_eq]
  case frame => rw [hhold, hswitch, hlevel, hmove]

/-- R29, R211: a relock of the TBPLL while XO_IN shows edges. -/
theorem exec_tbpllRelock (s : State) (h : s.clk.tb = .lost) (hxo : s.rd Reg.DEV_CLK_STATUS_XO_ACTIVE ≠ 0) :
    ∃ t, exec .tbpllRelock s = .next t ∧
      t.rd Reg.DEV_CLK_STATUS_TBPLL_LOCK = 1 ∧ t.rd Reg.DEV_BELL_STATUS_ON_XO = 0 ∧
      (∀ n < 4, t.rd (Reg.TS_STATUS_ON_XO n) = 0) ∧ ¬ t.present 1 0xFF ∧ t.clk = { s.clk with tb := .locked, time := .tb } ∧
      t = { s with regs := t.regs, clk := t.clk, flt := t.flt, bell := t.bell, aplls := t.aplls, paths := t.paths,
                   free := t.free } := by
  refine ⟨_, if_pos ⟨h, decide_eq_true hxo⟩, ?_⟩
  generalize hu : ({ s.wr Reg.DEV_CLK_STATUS_TBPLL_LOCK 1 with
    clk := { s.clk with tb := .locked, time := .tb } } : State) = u
  obtain ⟨hbell, hscale, hbelow⟩ := clockSwitch_rd (apllsRejoin_regsBut (setOnXo false (u.level 1 noInst false)))
  obtain ⟨r, a, n, hrejoin⟩ := apllsRejoin_frame (setOnXo false (u.level 1 noInst false))
  obtain ⟨r', x, p, hswitch⟩ := setOnXo_frame false (u.level 1 noInst false)
  obtain ⟨c, hlevel⟩ := State.level_frame u 1 noInst false 0
  refine ⟨?lock, hbell, hscale, ?cause, ?clk, ?frame⟩
  case lock => rw [hbelow _ (by simp), State.rd_level, ← hu]; simp
  case cause => rw [hrejoin, hswitch]; exact State.not_present_level_off _ _ _ _
  case clk => rw [hrejoin, hswitch, hlevel, ← hu]
  case frame => rw [hrejoin, hswitch, hlevel, ← hu]; rfl

/-! ### XO_IN (R28, R29) -/

/-- R28, R29: a loss of XO_IN. -/
theorem exec_xoLoss (s : State) : ∃ t, exec .xoLoss s = .next t ∧
    t.rd Reg.DEV_CLK_STATUS_XO_ACTIVE = 0 ∧ (s.clk.xoArmed = true → t.present 0 0xFF) ∧
    (s.clk.xoArmed = false → t.flt = s.flt) ∧ s.regsBut [Reg.DEV_CLK_STATUS_XO_ACTIVE] t ∧
    t.clk = { s.clk with time := if s.clk.time = .xo then .waiting else s.clk.time } ∧
    t = { s with regs := t.regs, clk := t.clk, flt := t.flt } := by
  refine ⟨_, rfl, ?_⟩
  generalize hu : ({ s.wr Reg.DEV_CLK_STATUS_XO_ACTIVE 0 with
    clk := { s.clk with time := if s.clk.time = .xo then .waiting else s.clk.time } } : State) = u
  have hgone : xoGone s = if s.clk.xoArmed then u.level 0 noInst true else u := hu ▸ rfl
  have hrd : u.rd Reg.DEV_CLK_STATUS_XO_ACTIVE = 0 := by rw [← hu]; simp
  have hbut : s.regsBut [Reg.DEV_CLK_STATUS_XO_ACTIVE] u := hu ▸ s.regsBut_wr List.mem_cons_self 0
  have hclk : u.clk = { s.clk with time := if s.clk.time = .xo then .waiting else s.clk.time } := by rw [← hu]
  rw [hgone]
  cases s.clk.xoArmed
  case false => exact ⟨hrd, nofun, fun _ => hu ▸ rfl, hbut, hclk, hu ▸ rfl⟩
  case true =>
    rw [if_pos rfl]
    obtain ⟨c, hlevel⟩ := State.level_frame u 0 noInst true 0
    refine ⟨(State.rd_level ..).trans hrd, fun _ => State.present_level_on .., nofun,
      hbut.trans (State.regsBut_of_regs_eq (State.level_regs ..) _), (State.level_clk ..).trans hclk, ?frame⟩
    rw [hlevel, ← hu]
    rfl

/-- R28, R29: XO_IN's edges return. -/
theorem exec_xoReturn (s : State) : ∃ t, exec .xoReturn s = .next t ∧
    t.rd Reg.DEV_CLK_STATUS_XO_ACTIVE = 1 ∧ ¬ t.present 0 0xFF ∧ s.regsBut [Reg.DEV_CLK_STATUS_XO_ACTIVE] t ∧
    t.clk = { s.clk with xoWait := false, time := if s.clk.time = .waiting then .xo else s.clk.time } ∧
    t = { s with regs := t.regs, clk := t.clk, flt := t.flt } := by
  refine ⟨_, rfl, by simp, xoPresent_not_present _, xoPresent_regsBut _, xoPresent_clk _, ?_⟩
  obtain ⟨c, hc⟩ := xoPresent_frame
    ({ s with clk := { s.clk with time := if s.clk.time = .waiting then .xo else s.clk.time } } : State)
  rw [hc]
  rfl

/-! ### The clock of an island (R21) -/

/-- R21: an island whose clock stops is not clocked, and every other island is as it was. -/
theorem exec_islandClockStop (s : State) (i : Fin 32) (hi : i.val = 2 ∨ (26 ≤ i.val ∧ i.val ≤ 30)) :
    ∃ t, exec (.islandClockStop i) s = .next t ∧
      t.clocked i = false ∧ (∀ k, k ≠ i.val → t.clocked k = s.clocked k) ∧ t = { s with clk := t.clk } := by
  refine ⟨_, congrArg Host.Outcome.next (if_pos hi), ?_, fun k hk => ?_, rfl⟩
  · rw [State.clocked, if_neg (by omega), maskBit_maskSet_self, Bool.not_true]
  · simp only [State.clocked, maskBit_maskSet_ne _ hk.symm]
    rfl

/-- Settles O15, command by command: the losses, the relocks and the stop of a clock above; the relock of the system PLL, the
end of SERVO_HOLD before its time and the relock of the DLLs are single updates. -/
theorem clockLoss : Obligations.clock_loss := by
  unfold Obligations.clock_loss
  intro s
  refine ⟨exec_syspllLoss s, fun h => ?relock, fun h => ?held, exec_servoHoldEnd s, exec_tbpllLoss s, exec_tbpllRelock s,
    fun h => ?dll, exec_xoLoss s, exec_xoReturn s, exec_islandClockStop s⟩
  case relock =>
    exact ⟨_, if_pos h, s.rd_wr_self Reg.DEV_CLK_STATUS_SYSPLL_LOCK 1, s.regsBut_wr List.mem_cons_self 1,
      State.age_arm .., rfl⟩
  case held => exact congrArg Host.Outcome.next (if_neg (by simp [h]))
  case dll =>
    exact ⟨_, congrArg Host.Outcome.next (if_pos h), s.rd_wr_self .., rfl, s.regsBut_wr List.mem_cons_self 0⟩

end Sys2Proof.Machine
end

section
/-! The memories over all commands (O57, O59): the laws of the single commands, gathered into one for `exec` and one for `step`. -/
namespace Sys2Proof.Machine

/-! ### Commands -/

/-- Each command outside `Instr.stores` has its law `exec…_store`: it answers, and leaves every memory. -/
theorem exec_store (c : Instr) (s : State) : c.stores = false → storeOf (exec c s) = some s.store := by
  cases c <;> simp [Instr.stores, exec]

/-- Each command of `Instr.stores` has its law `exec…_ok`: it answers, with canonical memories. -/
theorem exec_outOk_of_stores (c : Instr) {q : List Instr × List Nat} {s : State} (hk : storeOk q s.store) :
    c.stores = true → outOk q (exec c s) := by
  cases c <;> simp [Instr.stores, exec, hk]

theorem exec_outOk (c : Instr) {q : List Instr × List Nat} {s : State} (hk : storeOk q s.store) : outOk q (exec c s) := by
  cases hc : c.stores with
  | false => exact outOk_of_store hk (exec_store c s hc)
  | true => exact exec_outOk_of_stores c hk hc

theorem eq_next_of_storeOf {o : Out} {σ : Store} (h : storeOf o = some σ) : ∃ t, o = .next t ∧ t.store = σ := by
  cases o with
  | next t => exact ⟨t, rfl, Option.some.inj h⟩
  | fault r => cases h
  | refused r => cases h

/-! ### Steps -/

theorem step_of_nil {s : State} (h : s.pending = []) : step s = .next (tick s) := by
  simp only [step, h]

theorem step_of_cons {s : State} {c : Instr} {rest : List Instr} (h : s.pending = c :: rest) :
    step s = exec c { s with pending := rest } := by
  simp only [step, h]

theorem storeOk_of_memWf {s : State} (h : s.memWf = true) : storeOk (s.pending, s.fuses.fields) s.store := by
  simp only [State.memWf, Bool.and_eq_true] at h
  obtain ⟨⟨⟨hcommons, hdram⟩, hnor⟩, hhost⟩ := h
  exact ⟨rfl, hcommons, hdram, hnor, hhost, fun _ _ hb => hb⟩

theorem memWf_of_storeOk {q : List Instr × List Nat} {t : State} (h : storeOk q t.store) : t.memWf = true := by
  simp only [State.memWf, Bool.and_eq_true]
  exact ⟨⟨⟨h.commons, h.dram⟩, h.nor⟩, h.host⟩

/-- Settles O57: a tick writes no memory, and every command leaves canonical memories. -/
theorem memoriesStayCanonical : Obligations.memories_stay_canonical := by
  unfold Obligations.memories_stay_canonical
  intro s t hs ht
  cases hp : s.pending with
  | nil =>
    rw [step_of_nil hp] at ht
    cases ht
    exact memWf_of_storeOk ((tick_store s).symm ▸ storeOk_of_memWf hs)
  | cons c rest =>
    have hk := exec_outOk c (storeOk_of_memWf (s := { s with pending := rest }) hs)
    rw [← step_of_cons hp, ht] at hk
    exact memWf_of_storeOk hk

/-- Settles O59, by the laws of the commands outside `Instr.stores`. -/
theorem memoriesKept : Obligations.memories_kept := by
  unfold Obligations.memories_kept
  exact fun c s hc => eq_next_of_storeOf (exec_store c s hc)

end Sys2Proof.Machine
end

section
/-! The ALU, the accumulators and the division of an engine (O1 to O4): a row executes with what its body does under the hazard
check. -/
namespace Sys2Proof.Machine

/-! ### Rows without a data read -/

/-- A row whose body goes on where its registers meet no hazard executes. -/
theorem engineRow_of_next {i : Instr} {e : Nat} {f : Ecc} {cost : Nat} {reads writes : List Nat} {s : State}
    {y : Eng → Eng} {body : State → Eng → Res} (hi : exec i s = engRow e f cost body s)
    (hb : (s.engine e).hazard reads writes = none → ∀ u, body u (s.engine e) = .next u (y (s.engine e))) :
    engineRow i e f cost reads writes s y :=
  engineRow_of i e f cost reads writes s y [] body hi fun u hh _ => hb hh u

/-- A row whose body goes on under its hazard check executes. -/
theorem engineRow_of_hazards {i : Instr} {e : Nat} {f : Ecc} {cost : Nat} {reads writes : List Nat} {s : State}
    {y : Eng → Eng} {k : State → Eng → Res} (hi : exec i s = engRow e f cost (hazards reads writes k) s)
    (hk : ∀ u, k u (s.engine e) = .next u (y (s.engine e))) : engineRow i e f cost reads writes s y :=
  engineRow_of_next hi fun hh u => (hazards_none _ _ _ u _ hh).trans (hk u)

/-- SEL under a listed condition. -/
theorem bodySel_eq {x : Eng} {cond : Nat} {b : Bool} (hc : condHolds x cond = some b) (rd rs1 rs2 : Nat) (s : State) :
    bodySel rd rs1 rs2 cond s x =
      hazards [rs1, rs2] [rd] (fun s x => .next s (x.setReg rd (if b then x.reg rs1 else x.reg rs2))) s x := by
  simp only [bodySel, hc]

/-- ALD with a shift that is in range. -/
theorem bodyAld_eq {sh : Nat} (hsh : sh ≤ 64) (acc rs1 : Nat) (s : State) (x : Eng) :
    bodyAld acc rs1 sh s x =
      hazards [rs1] [] (fun s x => .next s (x.setAccum acc ((x.reg rs1).signExtend 128 <<< sh))) s x :=
  if_neg (Nat.not_lt.mpr hsh)

/-! ### The ALU (R58, R59) -/

/-- Settles O1: the body of each row is its operation under the hazard check. -/
theorem aluTwoRegisters : Obligations.alu_two_registers := by
  unfold Obligations.alu_two_registers
  intro e f rd rs1 rs2 s
  and_intros <;> exact engineRow_of_hazards rfl fun _ => rfl

theorem leadingZeros_eq (a : Word64) : leadingZeros a = if a = 0 then 64 else 63 - a.toNat.log2 := by
  unfold leadingZeros
  split <;> omega

/-- ABS saturates at the top only: its exact value is not negative. -/
theorem satInt_natAbs (x : Int) : satInt 64 (x.natAbs : Int) = min (2 ^ 63 - 1) (x.natAbs : Int) := by
  simp only [satInt, clampInt, intMin, intMax]
  omega

theorem saturates_natAbs (x : Int) : saturates 64 (x.natAbs : Int) = decide (2 ^ 63 - 1 < (x.natAbs : Int)) := by
  have h : ¬ (x.natAbs : Int) < intMin 64 := by unfold intMin; omega
  simp only [saturates, h, false_or]
  rfl

/-- Settles O2: the body of each row is its operation under the hazard check; SEL asks its condition before. -/
theorem aluImmediate : Obligations.alu_immediate := by
  unfold Obligations.alu_immediate
  intro e f rd rs1 rs2 imm sh lane cond b s
  refine ⟨?_, ?abs, ?clz, ?_, ?_, ?_, ?_, ?_, ?_, ?_, ?_, ?_, ?_, ?_, ?_, fun hb => ?sel⟩
  case abs =>
    refine engineRow_of_hazards rfl fun _ => ?_
    simp only [satInt_natAbs, saturates_natAbs]
    rfl
  case clz =>
    refine engineRow_of_hazards rfl fun _ => ?_
    simp only [leadingZeros_eq]
    rfl
  case sel => exact engineRow_of_next rfl fun hh u => (bodySel_eq hb ..).trans (hazards_none _ _ _ u _ hh)
  all_goals exact engineRow_of_hazards rfl fun _ => rfl

/-! ### The accumulators (R61) -/

/-- Settles O3: the body of each row is its operation under the hazard check; ACLR has no register to check, and ALD asks its
operand before. -/
theorem accumulators : Obligations.accumulators := by
  unfold Obligations.accumulators
  intro e f acc acc2 rd rs1 rs2 sh s
  refine ⟨?_, ?_, ?_, ?aclr, fun hsh => ?ald, ?_, ?_, ?_⟩
  case aclr => exact engineRow_of_next rfl fun _ _ => rfl
  case ald => exact engineRow_of_next rfl fun hh u => (bodyAld_eq hsh ..).trans (hazards_none _ _ _ u _ hh)
  all_goals exact engineRow_of_hazards rfl fun _ => rfl

/-! ### The division (R62) -/

/-- The quotient and the flags of R62, in one expression each. -/
theorem divResult_eq (a b : Int) : divResult a b =
    (if b = 0 then (if 0 ≤ a then 2 ^ 63 - 1 else -2 ^ 63) else if a = -2 ^ 63 ∧ b = -1 then 2 ^ 63 - 1 else a.tdiv b,
      decide (b = 0 ∨ (a = -2 ^ 63 ∧ b = -1))) := by
  have hmin : intMin 64 = -2 ^ 63 := rfl
  unfold divResult
  rw [hmin]
  by_cases hb : b = 0
  · simp only [hb, if_true, true_or, decide_true]; rfl
  · by_cases hab : a = -2 ^ 63 ∧ b = -1
    · obtain ⟨rfl, rfl⟩ := hab; rfl
    · simp only [hb, hab, if_false, or_self, decide_false]

/-- Settles O4: the body is the quotient of R62 under the hazard check. -/
theorem division : Obligations.division := by
  unfold Obligations.division
  intro e f rd rs1 rs2 s
  refine engineRow_of_hazards rfl fun u => ?_
  simp only [divResult_eq]
  rfl

end Sys2Proof.Machine
end

section
/-! SUPPORT for the engines: registers after a write, what a dispatch and a trap leave of the engine, the causes of a hazard, and
rows that trap. -/
namespace Sys2Proof.Machine

/-! ### Registers (R41) -/

theorem Eng.reg_setReg_self (x : Eng) {i : Nat} (h : i ≠ 0) (v : Word64) : (x.setReg i v).reg i = v := by
  simp only [Eng.setReg, Eng.reg, if_neg h, tabGet_set_self]

theorem Eng.reg_setReg_ne (x : Eng) {i j : Nat} (h : i ≠ j) (v : Word64) : (x.setReg i v).reg j = x.reg j := by
  unfold Eng.setReg
  split
  · rfl
  · simp only [Eng.reg, tabGet_set_ne _ _ h]

/-- A register write leaves the active loops as they were. -/
theorem Eng.setReg_loops (x : Eng) (i : Nat) (v : Word64) : (x.setReg i v).loops = x.loops := by
  unfold Eng.setReg
  split <;> rfl

/-! ### Dispatches and traps (R70, R88) -/

theorem dispatchNext_of_nil {e : Nat} {s : State} (h : (s.engine e).due = []) :
    dispatchNext e s =
      if s.bit (Reg.ENG_CTRL_ENABLE e) then s else s.putEngine e { s.engine e with run := false } := by
  simp only [dispatchNext, h]

theorem dispatchNext_of_cons {e i : Nat} {rest : List Nat} {s : State} (h : (s.engine e).due = i :: rest)
    (hd : s.mayDispatch e = true) :
    dispatchNext e s =
      (s.putEngine e { (s.engine e).start i with due := rest }).wr (Reg.ENG_LESSON_INDEX e) i := by
  simp only [dispatchNext, h, hd, if_true]

/-- With nothing left due, a dispatch at most clears `run`. -/
theorem dispatchNext_engine_of_nil {e : Nat} {s : State} (h : (s.engine e).due = []) :
    ∃ b, (dispatchNext e s).engine e = { s.engine e with run := b } := by
  rw [dispatchNext_of_nil h]
  split
  · exact ⟨(s.engine e).run, rfl⟩
  · exact ⟨false, State.engine_put_self ..⟩

theorem dispatchNext_engine_dmem (e : Nat) (s : State) : ((dispatchNext e s).engine e).dmem = (s.engine e).dmem := by
  unfold dispatchNext
  dsimp only
  split
  · split
    · rw [State.engine_wr, State.engine_put_self]; rfl
    · rw [State.engine_put_self]
  · split
    · rfl
    · rw [State.engine_put_self]

/-- A trap abandons the lesson of the engine, counts a cycle, and dispatches. -/
theorem engTrap_dispatches (e : Nat) (c : Cause) (code pc : Nat) (s : State) :
    ∃ u, engTrap e c code pc s = dispatchNext e u ∧ u.engine e = { (s.engine e).abandoned with
      due := (s.engine e).due, cycles := (s.engine e).cycles + 1, busy := (s.engine e).cycles + 1 } :=
  ⟨_, rfl, by rw [State.engine_raise, State.engine_bumpSat, State.engine_wrs, State.engine_put_self]⟩

theorem engTrap_engine_dmem (e : Nat) (c : Cause) (code pc : Nat) (s : State) :
    ((engTrap e c code pc s).engine e).dmem = (s.engine e).dmem := by
  obtain ⟨u, ht, hu⟩ := engTrap_dispatches e c code pc s
  rw [ht, dispatchNext_engine_dmem, hu]
  rfl

/-- A trap with nothing left to dispatch leaves the registers and the accumulators (R70). -/
theorem engTrap_reg_accum_of_nil {e : Nat} {s : State} (h : (s.engine e).due = []) (c : Cause) (code pc : Nat) :
    (∀ r, ((engTrap e c code pc s).engine e).reg r = (s.engine e).reg r) ∧
      ∀ r, ((engTrap e c code pc s).engine e).accum r = (s.engine e).accum r := by
  obtain ⟨u, ht, hu⟩ := engTrap_dispatches e c code pc s
  obtain ⟨b, hb⟩ := dispatchNext_engine_of_nil (by rw [hu]; exact h)
  rw [ht, hb, hu]
  exact ⟨fun _ => rfl, fun _ => rfl⟩

/-! ### Hazards (R48) -/

theorem Eng.hazard_of_pend {x : Eng} {reads writes : List Nat} (hp : ∃ r ∈ reads ++ writes, r ≠ 0 ∧ r ∈ x.pend)
    (hq : ∀ r ∈ reads, r ∉ x.poison) : x.hazard reads writes = some .hazard := by
  obtain ⟨r, hr, hr0, hrp⟩ := hp
  unfold Eng.hazard
  split
  next i hi =>
    have hmem := List.mem_of_find?_eq_some hi
    have hprop := List.find?_some hi
    simp_all
  next hnone =>
    rw [if_pos]
    simp only [List.find?_eq_none] at hnone
    rcases List.mem_append.mp hr with h | h
    · have := hnone r (by simp [h, hr0])
      simp_all
    · simp only [List.any_eq_true]
      exact ⟨r, by simp [h, hr0], by simpa using hrp⟩

theorem Eng.hazard_of_poison {x : Eng} {reads writes : List Nat} (hp : ∃ r ∈ reads, r ≠ 0 ∧ r ∈ x.poison)
    (hq : ∀ r ∈ reads ++ writes, r ∉ x.pend) : x.hazard reads writes = some .cmnEcc := by
  obtain ⟨r, hr, hr0, hrp⟩ := hp
  unfold Eng.hazard
  split
  next i hi =>
    have hmem := List.mem_of_find?_eq_some hi
    simp_all
  next hnone =>
    have := List.find?_eq_none.mp hnone r (by simp [hr, hr0])
    simp_all

theorem hazards_some {reads writes : List Nat} {k : State → Eng → Res} {s : State} {x : Eng} {c : Cause}
    (h : x.hazard reads writes = some c) : hazards reads writes k s x = .trap c 0 := by
  unfold hazards; rw [h]

/-! ### Rows after their fetch (R45) -/

/-- What R45 notes of a fetch changes register fields and the fault collector alone. -/
theorem eccNoted_frame (e : Nat) (f : Ecc) (s : State) : ∃ r c, s.eccNoted e f [] = { s with regs := r, flt := c } := by
  rw [eccNoted_eq]
  split
  · exact ⟨_, _, rfl⟩
  · exact ⟨s.regs, s.flt, rfl⟩

/-- A row whose body goes on after its fetch, where its registers meet no hazard, executes. -/
theorem engineRow_of_fetched {i : Instr} {e : Nat} {f : Ecc} {cost : Nat} {reads writes : List Nat} {s : State}
    {y : Eng → Eng} {body : State → Eng → Res} (hi : exec i s = engRow e f cost body s)
    (hb : (s.engine e).hazard reads writes = none →
      body (s.eccNoted e f []) (s.engine e) = .next (s.eccNoted e f []) (y (s.engine e))) :
    engineRow i e f cost reads writes s y := by
  intro hf _ hx hh hp
  refine ⟨_, hi.trans (engRow_next e f cost body s _ _ hf hx (hb hh) hp), State.engine_put_self .., ?_⟩
  unfold State.onlyEngine
  rw [State.engine_put_self]

/-! ### Rows that trap -/

theorem executes_mono {s : State} {e m n : Nat} (hmn : m ≤ n) (h : s.executes e n) : s.executes e m := by
  obtain ⟨hh, l, hl, hw⟩ := h
  exact ⟨hh, l, hl, by omega⟩

/-- A row whose body traps has the effect of the trap at the PC of the engine, whatever its cost. -/
theorem engRow_trap {e cost : Nat} {f : Ecc} {body : State → Eng → Res} {s : State} {c : Cause} {code : Nat}
    (hf : f ≠ .double) (hx : s.executes e 1) (hb : body (s.eccNoted e f []) (s.engine e) = .trap c code) :
    engRow e f cost body s = .next (engTrap e c code (s.engine e).pc (s.eccNoted e f [])) := by
  obtain ⟨hh, l, hl, hw⟩ := hx
  rw [eccNoted_eq] at hb ⊢
  simp only [engRow, hh, Bool.false_eq_true, if_false, engRun, hl, if_neg hf, fetched_engine, hb, engTraps,
    if_neg (Nat.not_lt.mpr hw)]

/-- What the statements ask of a trap after the fetch. -/
theorem engTrap_eccNoted (e : Nat) (f : Ecc) (c : Cause) (code pc : Nat) (s : State) (hc : code < 256) :
    (s.eccNoted e f []).trapped e c.code code pc (engTrap e c code pc (s.eccNoted e f [])) ∧
      (engTrap e c code pc (s.eccNoted e f [])).store = s.store :=
  ⟨engTrap_trapped e c code pc _ hc, (engTrap_store ..).trans (eccNoted_store e f [] s)⟩

/-- A row whose body traps, traps. -/
theorem row_traps {i : Instr} {e cost : Nat} {f : Ecc} {body : State → Eng → Res} {s : State} {c : Cause} {code : Nat}
    (hi : exec i s = engRow e f cost body s) (hc : code < 256) (hf : f ≠ .double) (hx : s.executes e 1)
    (hb : body (s.eccNoted e f []) (s.engine e) = .trap c code) :
    ∃ t, exec i s = .next t ∧ (s.eccNoted e f []).trapped e c.code code (s.engine e).pc t ∧ t.store = s.store :=
  ⟨_, hi.trans (engRow_trap hf hx hb), engTrap_eccNoted e f c code _ s hc⟩

end Sys2Proof.Machine
end

section
/-! The data memory of an engine (O5). -/
namespace Sys2Proof.Machine

/-! ### Accesses (R44, R63) -/

/-- An access at an aligned address inside the memory goes on at that address. -/
theorem dmemAccess_inside {reads writes : List Nat} {rs1 size : Nat} {imm : BitVec 16} {x : Eng}
    (hh : x.hazard reads writes = none) (hr : x.dmemAddr rs1 imm ≤ 0x3FFF) (ha : x.dmemAddr rs1 imm % size = 0)
    (k : Nat → State → Eng → Res) (s : State) :
    dmemAccess reads writes rs1 imm size k s x = k (x.dmemAddr rs1 imm) s x := by
  have hc : dmemCheck (x.dmemAddr rs1 imm) size = none := by
    rw [dmemCheck, if_neg (Nat.not_lt.mpr hr), if_neg (not_not.mpr ha)]
  simp only [dmemAccess, hazards_none _ _ _ _ _ hh, hc]

/-- An access outside the memory traps for its range, and a misaligned one inside for its alignment. -/
theorem dmemAccess_outside {reads writes : List Nat} {rs1 size : Nat} {imm : BitVec 16} {x : Eng}
    (hh : x.hazard reads writes = none) (ho : 0x3FFF < x.dmemAddr rs1 imm ∨ x.dmemAddr rs1 imm % size ≠ 0)
    (k : Nat → State → Eng → Res) (s : State) :
    dmemAccess reads writes rs1 imm size k s x =
      .trap (if 0x3FFF < x.dmemAddr rs1 imm then .dmemRange else .align) 0 := by
  have hc : dmemCheck (x.dmemAddr rs1 imm) size = some (if 0x3FFF < x.dmemAddr rs1 imm then .dmemRange else .align) := by
    unfold dmemCheck
    split
    · rfl
    · next hr => rw [if_pos (ho.resolve_left hr)]
  simp only [dmemAccess, hazards_none _ _ _ _ _ hh, hc]

/-- A data read that is not uncorrectable goes on, with what R45 notes of it. -/
theorem dmemRead_of_ne_double (e : Nat) {d : Ecc} (hd : d ≠ .double) (w : Nat) (k : State → Res) (s : State) :
    dmemRead e d w k s = k (s.eccNoted e .ok [d]) := by
  cases d with
  | ok => rfl
  | single => rfl
  | double => exact absurd rfl hd

/-- A row whose data-memory access is aligned and inside the memory executes with what it does there. -/
theorem engineRow_of_access {i : Instr} {e : Nat} {f : Ecc} {reads writes : List Nat} {s : State} {y : Eng → Eng}
    {ds : List Ecc} {rs1 size : Nat} {imm : BitVec 16} {k : Nat → State → Eng → Res}
    (hi : exec i s = engRow e f 2 (dmemAccess reads writes rs1 imm size k) s)
    (hr : (s.engine e).dmemAddr rs1 imm ≤ 0x3FFF) (ha : (s.engine e).dmemAddr rs1 imm % size = 0)
    (hk : .double ∉ ds → ∀ u, k ((s.engine e).dmemAddr rs1 imm) u (s.engine e) =
      .next (u.eccNoted e .ok ds) (y (s.engine e))) :
    engineRow i e f 2 reads writes s y ds :=
  engineRow_of i e f 2 reads writes s y ds _ hi fun u hh hd => (dmemAccess_inside hh hr ha k u).trans (hk hd u)

/-- Such a row that reads one data word notes what its ECC check finds. -/
theorem engineRow_of_read {i : Instr} {e : Nat} {f d : Ecc} {reads writes : List Nat} {s : State} {y : Eng → Eng}
    {rs1 size w : Nat} {imm : BitVec 16} {k : Nat → State → Eng → Res}
    (hi : exec i s = engRow e f 2 (dmemAccess reads writes rs1 imm size k) s)
    (hr : (s.engine e).dmemAddr rs1 imm ≤ 0x3FFF) (ha : (s.engine e).dmemAddr rs1 imm % size = 0)
    (hk : ∀ u, k ((s.engine e).dmemAddr rs1 imm) u (s.engine e) =
      dmemRead e d w (fun u => .next u (y (s.engine e))) u) :
    engineRow i e f 2 reads writes s y [d] :=
  engineRow_of_access hi hr ha fun hd u =>
    (hk u).trans (dmemRead_of_ne_double e (by simpa [eq_comm] using hd) w _ u)

/-- A row whose data-memory access is outside the memory or misaligned traps, and the access is not made. -/
theorem dmem_row_traps {i : Instr} {e cost : Nat} {f : Ecc} {reads writes : List Nat} {s : State} {rs1 size : Nat}
    {imm : BitVec 16} {k : Nat → State → Eng → Res} {addr : Nat}
    (hi : exec i s = engRow e f cost (dmemAccess reads writes rs1 imm size k) s)
    (ha : (s.engine e).dmemAddr rs1 imm = addr)
    (hf : f ≠ .double) (hx : s.executes e 1) (hh : (s.engine e).hazard reads writes = none)
    (ho : 0x3FFF < addr ∨ addr % size ≠ 0) :
    ∃ t, exec i s = .next t ∧
      (s.eccNoted e f []).trapped e (if 0x3FFF < addr then 4 else 3) 0 (s.engine e).pc t ∧
      t.store = s.store ∧ (t.engine e).dmem = (s.engine e).dmem ∧
      ((s.engine e).due = [] → (∀ r, (t.engine e).reg r = (s.engine e).reg r) ∧
        ∀ r, (t.engine e).accum r = (s.engine e).accum r) := by
  subst ha
  have hu := eccNoted_engine e e f [] s
  obtain ⟨htrap, hstore⟩ := engTrap_eccNoted e f
    (if 0x3FFF < (s.engine e).dmemAddr rs1 imm then .dmemRange else .align) 0 (s.engine e).pc s (by decide)
  rw [apply_ite Cause.code] at htrap
  refine ⟨_, hi.trans (engRow_trap hf hx (dmemAccess_outside hh ho k _)), htrap, hstore, ?_, fun hd => ?_⟩
  · rw [engTrap_engine_dmem, hu]
  · rw [← hu] at hd ⊢
    exact engTrap_reg_accum_of_nil hd _ _ _

/-- Settles O5: an access inside the memory goes on at its address, any other traps; STW and LDW note one data read, ALDM two. -/
theorem dataMemory : Obligations.data_memory := by
  unfold Obligations.data_memory
  intro e f d d2 acc rd rs rs1 imm s
  refine ⟨?_, ?_, ?_, ?_, ?_, ?_, fun hr =>
    ⟨fun ha => ⟨engineRow_of_read rfl hr ha fun _ => rfl, engineRow_of_access rfl hr ha fun _ _ => rfl⟩,
      fun ha => ⟨engineRow_of_read rfl hr ha fun _ => rfl, engineRow_of_read rfl hr ha fun _ => rfl⟩,
      fun ha => ⟨engineRow_of_access rfl hr ha fun hd u => ?aldm, engineRow_of_access rfl hr ha fun _ _ => rfl⟩⟩⟩
  case aldm =>
    simp only [List.mem_cons, List.not_mem_nil, or_false, not_or] at hd
    obtain ⟨h1, h2⟩ := hd
    rw [dmemRead_of_ne_double _ (Ne.symm h1), dmemRead_of_ne_double _ (Ne.symm h2)]
    rfl
  all_goals exact fun hf hx hh _ ho => dmem_row_traps rfl rfl hf hx hh ho

end Sys2Proof.Machine
end

section
/-! Commons accesses and mailboxes (O6). -/
namespace Sys2Proof.Machine

/-! ### Issue (R46, R64) -/

theorem Eng.cmnCheck_eq_none {x : Eng} {addr : Nat} (ha : addr % 8 = 0) (hlo : 0xC0000 ≤ addr) (hhi : addr ≤ 0x1FFFFF)
    (hl : x.acc.length < 2) : x.cmnCheck addr = none := by
  unfold Eng.cmnCheck
  rw [if_neg (by omega)]

theorem Eng.cmnCheck_eq_some {x : Eng} {addr : Nat}
    (h : addr % 8 ≠ 0 ∨ addr < 0xC0000 ∨ 0x1FFFFF < addr ∨ 2 ≤ x.acc.length) : x.cmnCheck addr = some .cmn := by
  unfold Eng.cmnCheck
  rw [if_pos h]

/-! ### Mailboxes (R50, R52, R65) -/

theorem State.inWord_eccNoted (s : State) (e i n : Nat) (f : Ecc) : (s.eccNoted e f []).inWord n i = s.inWord n i := by
  obtain ⟨r, c, hu⟩ := eccNoted_frame e f s
  rw [hu]
  rfl

theorem isHostOut_iff (i : Nat) : isHostOut i = true ↔ 0x240 ≤ i ∧ i ≤ 0x243 := decide_eq_true_iff

theorem outListed_of_isHostOut {i : Nat} (h : isHostOut i = true) : outListed i = true := by
  rw [isHostOut_iff] at h
  exact decide_eq_true (by omega)

/-- MBO stages its word where the index is a host-out index, or one of the map that is bound to the engine. -/
theorem bodyMbo_staged {x : Eng} {rs idx rs1 : Nat} (hh : x.hazard [rs1, rs] [] = none)
    (hi : isHostOut (x.mbxIndex idx rs1) = true ∨ outListed (x.mbxIndex idx rs1) = true ∧ x.mbxIndex idx rs1 ∈ x.bind)
    (s : State) : bodyMbo rs idx rs1 s x = .next s { x with staged := tabPut (x.mbxIndex idx rs1) (x.reg rs) x.staged } := by
  have hl : outListed (x.mbxIndex idx rs1) = true := hi.elim outListed_of_isHostOut And.left
  have hb : (!isHostOut (x.mbxIndex idx rs1) && !x.bind.contains (x.mbxIndex idx rs1)) = false := by
    rcases hi with h | ⟨_, h⟩ <;> simp [h]
  simp only [bodyMbo, hazards_none _ _ _ _ _ hh, hl, hb, Bool.not_true, Bool.false_eq_true, if_false]

/-! ### Completion (R47, R48) -/

/-- The engine after its oldest access, with `rest` behind it, has completed: `cd` tells whether its lesson waits for none. -/
def Eng.popAcc (x : Eng) (rest : List CmnAcc) : Eng :=
  { x with acc := rest, cd := x.cd || !(rest.any (fun b => !b.old)) }

section
variable {x : Eng} {a : CmnAcc} {rest : List CmnAcc}

theorem cmnComplete_write {d : Word64} (h : x.acc = a :: rest) (hd : a.data = some d) (ecc : Ecc) (s : State) :
    cmnComplete ecc s x = ({ s with commons := tabSet 0 a.word d s.commons }, x.popAcc rest) := by
  simp only [cmnComplete, h, hd, Eng.popAcc]

theorem cmnComplete_read {ecc : Ecc} (h : x.acc = a :: rest) (hd : a.data = none) (ho : a.old = false)
    (he : ecc ≠ .double) (s : State) :
    cmnComplete ecc s x =
      (s, Eng.setReg { x.popAcc rest with pend := x.pend.erase a.rd } a.rd (tabGet 0 a.word s.commons)) := by
  simp only [cmnComplete, h, hd, ho, if_neg he, Bool.false_eq_true, if_false, Eng.popAcc]

theorem cmnComplete_uncorrectable (h : x.acc = a :: rest) (hd : a.data = none) (ho : a.old = false) (hr : a.rd ≠ 0)
    (s : State) :
    cmnComplete .double s x = (s.raise 10 noInst a.word,
      { x.popAcc rest with pend := x.pend.erase a.rd, poison := a.rd :: x.poison }) := by
  simp only [cmnComplete, h, hd, ho, if_neg hr, Bool.false_eq_true, if_false, if_true, Eng.popAcc]

end

/-- A completion row finds an access of its kind in front. -/
theorem cmnRow_of_head {a : CmnAcc} {rest : List CmnAcc} {e : Nat} {write : Bool} {ecc : Ecc} {s : State} (h : (s.engine e).acc = a :: rest)
    (hw : a.data.isSome = write) :
    cmnRow e write ecc s =
      (cmnComplete ecc s (s.engine e)).1.putEngine e (cmnComplete ecc s (s.engine e)).2 := by
  simp only [cmnRow, h, List.head?_cons, Option.map_some, hw, if_true]

/-- Settles O6: the rows pass their operand checks, and a completion takes the access in front. -/
theorem commonsAndMailboxes : Obligations.commons_and_mailboxes := by
  unfold Obligations.commons_and_mailboxes
  refine ⟨fun e f rd rs rs1 imm idx s => ⟨fun ha hlo hhi hl => ?issue, fun hi => ?mbi, fun hi => ?mbo⟩,
    fun e f ecc a rest d s => ⟨fun h hd => ?write, fun h hd ho hr he => ?read, fun h hd ho hr => ?poison,
      fun hf hx hring h hd hp => ?sync, fun hf hx hring hp => ?ring⟩⟩
  case issue =>
    have hc := Eng.cmnCheck_eq_none ha hlo hhi hl
    exact ⟨engineRow_of_hazards rfl fun u => by simp only [Eng.cmnAddr, hc],
      engineRow_of_hazards rfl fun u => by simp only [Eng.cmnAddr, hc]⟩
  case mbi =>
    have hr : ¬ 0x1FF < (s.engine e).mbxIndex idx rs1 := Nat.not_lt.mpr hi
    refine engineRow_of_fetched rfl fun hh => ?_
    simp only [bodyMbi, hazards_none _ _ _ _ _ hh, hr, if_false, State.inWord_eccNoted]
    rfl
  case mbo => exact engineRow_of_next rfl fun hh u => bodyMbo_staged hh (by rwa [isHostOut_iff]) u
  case write =>
    refine ⟨_, congrArg Host.Outcome.next (cmnRow_of_head h (by rw [hd]; rfl)), ?_⟩
    rw [cmnComplete_write h hd]
    simp only [State.engine_put_self]
    exact ⟨tabGet_set_self .., fun w hw => tabGet_set_ne _ _ hw.symm .., rfl,
      ⟨rfl, rfl, rfl, rfl, fun k hk => State.engine_put_ne _ hk.symm _⟩, rfl⟩
  case read =>
    refine ⟨_, congrArg Host.Outcome.next (cmnRow_of_head h (by rw [hd]; rfl)), ?_⟩
    rw [cmnComplete_read h hd ho he]
    simp only [State.engine_put_self]
    refine ⟨Eng.reg_setReg_self _ hr _, ?_, ?_, fun r hne => Eng.reg_setReg_ne _ hne.symm _, rfl,
      ⟨rfl, rfl, rfl, rfl, fun k hk => State.engine_put_ne _ hk.symm _⟩, rfl, rfl⟩
    · rw [Eng.setReg, if_neg hr]
    · rw [Eng.setReg, if_neg hr]; rfl
  case poison =>
    refine ⟨_, congrArg Host.Outcome.next (cmnRow_of_head h (by rw [hd]; rfl)), ?_⟩
    rw [cmnComplete_uncorrectable h hd ho hr]
    simp only [State.engine_put_self]
    exact ⟨List.mem_cons_self, rfl, fun _ => rfl, rfl, rfl, rfl, rfl, rfl, fun k hk => State.engine_put_ne _ hk.symm _⟩
  case sync =>
    obtain ⟨r, c, hu⟩ := eccNoted_frame e f s
    have hb : bodyCsync (s.eccNoted e f []) (s.engine e) =
        .next { s.eccNoted e f [] with commons := tabSet 0 a.word d s.commons } ((s.engine e).popAcc []) := by
      have hr : (s.eccNoted e f []).onRing = false := by rw [hu]; exact hring
      simp only [bodyCsync, hr, h, Bool.false_eq_true, if_false, List.length_singleton, cmnDrain, cmnComplete_write h hd]
      rw [hu]
    refine ⟨_, engRow_next e f 96 _ s _ _ hf hx hb hp, ?_⟩
    rw [hu]
    simp only [State.engine_put_self]
    exact ⟨tabGet_set_self .., fun w hw => tabGet_set_ne _ _ hw.symm .., rfl, Bool.or_true _, rfl,
      rfl, rfl, rfl, rfl, fun k hk => State.engine_put_ne _ hk.symm _⟩
  case ring =>
    obtain ⟨r, c, hu⟩ := eccNoted_frame e f s
    have hr : (s.eccNoted e f []).onRing = true := by rw [hu]; exact hring
    exact engineRow_of_fetched (reads := []) (writes := []) (y := id) rfl
      (fun _ => by simp only [bodyCsync, hr, if_true, id]) hf List.not_mem_nil hx rfl hp

end Sys2Proof.Machine
end

section
/-! Loops, skips and conditions (O7, O8). -/
namespace Sys2Proof.Machine

/-! ### Skips (R67) -/

theorem skipTo_not_taken (n : Nat) (s : State) (x : Eng) : skipTo false n s x = .next s x := rfl

/-- A skip that is taken lands inside the memory and inside the innermost body. -/
theorem skipTo_inside {n : Nat} {x : Eng} (hp : x.pc + 1 + n ≤ 8191) (hl : ∀ l ∈ x.loops.head?, x.pc + 1 + n ≤ l.past)
    (s : State) : skipTo true n s x = .jump s x (x.pc + 1 + n) := by
  simp only [skipTo, Bool.not_true, Bool.false_eq_true, if_false, if_neg (Nat.not_lt.mpr hp)]
  cases hx : x.loops with
  | nil => rfl
  | cons l ls => exact if_neg (Nat.not_lt.mpr (hl l (by rw [hx]; rfl)))

/-- A skip that is taken and lands outside the memory or outside the innermost body traps. -/
theorem skipTo_outside {n : Nat} {x : Eng} (h : 8191 < x.pc + 1 + n ∨ ∃ l ∈ x.loops.head?, l.past < x.pc + 1 + n)
    (s : State) : skipTo true n s x = .trap .skipRange 0 := by
  simp only [skipTo, Bool.not_true, Bool.false_eq_true, if_false]
  split
  · rfl
  next hp =>
    obtain ⟨l, hl, hlt⟩ := h.resolve_left hp
    cases hx : x.loops with
    | nil => rw [hx] at hl; cases hl
    | cons l' ls =>
      rw [hx] at hl
      cases hl
      exact if_pos hlt

/-- The two courses of a row whose body, where its registers meet no hazard, is a skip. -/
theorem engineRow_skip {i : Instr} {e : Nat} {f : Ecc} {reads : List Nat} {s : State} {n : Nat} {taken : Bool}
    {body : State → Eng → Res} (hi : exec i s = engRow e f 1 body s)
    (hb : (s.engine e).hazard reads [] = none → ∀ u, body u (s.engine e) = skipTo taken n u (s.engine e)) :
    (taken = false → engineRow i e f 1 reads [] s id) ∧
    (taken = true → ((s.engine e).pc + 1 + n ≤ 8191 ∧ ∀ l ∈ (s.engine e).loops.head?, (s.engine e).pc + 1 + n ≤ l.past) →
      engineRow i e f 1 reads [] s id [] (fun x => x.pc + 1 + n)) := by
  refine ⟨fun ht => engineRow_of_next hi fun hh u => ?_, fun ht ⟨hp, hl⟩ => engineRow_jump_of i e f 1 reads [] s id _ _ hi
    fun u hh => ?_⟩
  · rw [hb hh, ht]; rfl
  · rw [hb hh, ht]; exact skipTo_inside hp hl u

theorem bodySkip_eq {x : Eng} {cond n : Nat} {b : Bool} (hc : condHolds x cond = some b) (hn : 0 < n) (s : State) :
    bodySkip cond n s x = skipTo b n s x := by
  simp only [bodySkip, hc, if_neg (Nat.ne_of_gt hn)]

theorem bodySkbs_eq {reg bit n : Nat} (hn : 0 < n) (s : State) (x : Eng) :
    bodySkbs reg bit n s x = hazards [reg] [] (fun s x => skipTo ((x.reg reg).getLsbD bit) n s x) s x :=
  if_neg (Nat.ne_of_gt hn)

theorem bodySkbc_eq {reg bit n : Nat} (hn : 0 < n) (s : State) (x : Eng) :
    bodySkbc reg bit n s x = hazards [reg] [] (fun s x => skipTo (!(x.reg reg).getLsbD bit) n s x) s x :=
  if_neg (Nat.ne_of_gt hn)

/-! ### LOOP (R66) -/

/-- The iterations a LOOP asks for. -/
def Eng.loopTimes (x : Eng) (rs count : Nat) : Int := if rs = 0 then (count : Int) else min (x.reg rs).toInt (count : Int)

/-- A well-formed LOOP checks its register, and then passes its body, traps for its depth, or enters. -/
theorem bodyLoop_eq {body rs count : Nat} {x : Eng} (hb : 0 < body) (hc : 0 < count) (hm : count ≤ 4096)
    (hp : x.pc + body ≤ 8191) (s : State) :
    bodyLoop body rs count s x = hazards [rs] [] (fun s x =>
      if x.loopTimes rs count ≤ 0 then .jump s x (x.pc + 1 + body)
      else if 4 ≤ x.loops.length then .trap .loopDepth 0
      else .next s { x with loops := ⟨x.pc + 1, x.pc + 1 + body, (x.loopTimes rs count).toNat⟩ :: x.loops }) s x :=
  if_neg (by omega)

/-- Settles O7: a LOOP and the skips past their operand and hazard checks. -/
theorem loopsAndSkips : Obligations.loops_and_skips := by
  unfold Obligations.loops_and_skips
  intro e f body rs reg count cond n bit b s
  refine ⟨fun hb hc hm hp => ⟨fun ht => ?pass, fun ht hl => ?enter⟩, fun hn => ⟨fun hcond => ?skip, ?skbs, ?skbc⟩⟩
  case pass =>
    refine engineRow_jump_of _ e f 1 _ _ s id _ _ rfl fun u hh => ?_
    rw [bodyLoop_eq hb hc hm hp, hazards_none _ _ _ _ _ hh]
    exact if_pos ht
  case enter =>
    refine engineRow_of_next rfl fun hh u => ?_
    rw [bodyLoop_eq hb hc hm hp, hazards_none _ _ _ _ _ hh]
    exact (if_neg (Int.not_le.mpr ht)).trans (if_neg (Nat.not_le.mpr hl))
  case skip => exact engineRow_skip rfl fun _ u => bodySkip_eq hcond hn u
  case skbs => exact engineRow_skip rfl fun hh u => (bodySkbs_eq hn u _).trans (hazards_none _ _ _ u _ hh)
  case skbc => exact engineRow_skip rfl fun hh u => (bodySkbc_eq hn u _).trans (hazards_none _ _ _ u _ hh)

/-! ### Conditions (R60) -/

/-- The conditions of R60 by their codes. -/
def Eng.condTable (x : Eng) : List (Nat × Bool) :=
  [(0x0, x.z), (0x1, !x.z), (0x2, x.n != x.v), (0x3, x.n == x.v), (0x4, !x.z && x.n == x.v), (0x5, x.z || x.n != x.v),
    (0x6, !x.c), (0x7, x.c), (0x8, x.v), (0x9, !x.v), (0xA, x.q), (0xB, x.cd), (0xC, !x.cd), (0xF, true)]

theorem condHolds_of_mem {x : Eng} {c : Nat} {b : Bool} (h : (c, b) ∈ x.condTable) : condHolds x c = some b := by
  simp only [Eng.condTable, List.mem_cons, List.not_mem_nil, or_false, Prod.mk.injEq] at h
  rcases h with ⟨rfl, rfl⟩ | ⟨rfl, rfl⟩ | ⟨rfl, rfl⟩ | ⟨rfl, rfl⟩ | ⟨rfl, rfl⟩ | ⟨rfl, rfl⟩ | ⟨rfl, rfl⟩ | ⟨rfl, rfl⟩ | ⟨rfl, rfl⟩ |
    ⟨rfl, rfl⟩ | ⟨rfl, rfl⟩ | ⟨rfl, rfl⟩ | ⟨rfl, rfl⟩ | ⟨rfl, rfl⟩ <;> rfl

theorem condHolds_of_not_mem {x : Eng} {c : Nat} (h : c ∉ x.condTable.map Prod.fst) : condHolds x c = none := by
  simp only [Eng.condTable, List.map_cons, List.map_nil, List.mem_cons, List.not_mem_nil, or_false, not_or] at h
  unfold condHolds
  split <;> simp_all

theorem bodySel_of_none {x : Eng} {cond : Nat} (hc : condHolds x cond = none) (rd rs1 rs2 : Nat) (s : State) :
    bodySel rd rs1 rs2 cond s x = .trap .illegal 0 := by
  simp only [bodySel, hc]

theorem bodySkip_illegal {x : Eng} {cond n : Nat} (h : n = 0 ∨ condHolds x cond = none) (s : State) :
    bodySkip cond n s x = .trap .illegal 0 := by
  unfold bodySkip
  split
  · rfl
  next b hb => exact if_pos (h.resolve_right (by rw [hb]; exact Option.some_ne_none b))

/-- Settles O8: the table of the statement is that of `condHolds`. -/
theorem conditions : Obligations.conditions := by
  unfold Obligations.conditions
  intro e f rd rs1 rs2 cond n b s
  refine ⟨fun h => ?listed, fun h => ⟨fun hf hx _ => ?sel, fun hf hx _ => ?skip⟩, rfl⟩
  case listed =>
    have hc : condHolds (s.engine e) cond = some b := condHolds_of_mem h
    exact ⟨engineRow_of_next rfl fun hh u => (bodySel_eq hc ..).trans (hazards_none _ _ _ u _ hh),
      fun hn => engineRow_skip rfl fun _ u => bodySkip_eq hc hn u⟩
  case sel => exact row_traps (c := .illegal) rfl (by decide) hf hx (bodySel_of_none (condHolds_of_not_mem h) ..)
  case skip => exact row_traps (c := .illegal) rfl (by decide) hf hx (bodySkip_illegal (.inr (condHolds_of_not_mem h)) _)

end Sys2Proof.Machine
end

section
/-! The end of a lesson (O9). -/
namespace Sys2Proof.Machine

/-- A row whose body ends the lesson dispatches what is due next. -/
theorem engRow_done {e cost : Nat} {f : Ecc} {body : State → Eng → Res} {s u : State} {y : Eng} (hf : f ≠ .double)
    (hx : s.executes e cost) (hb : body (s.eccNoted e f []) (s.engine e) = .done u y) :
    engRow e f cost body s =
      .next (dispatchNext e (u.putEngine e { y with cycles := y.cycles + cost, busy := y.cycles + cost })) := by
  rw [eccNoted_eq] at hb
  rw [engRow_executes e f cost body s hf hx]
  simp only [fetched_engine, hb]

/-! ### END (R54, R68) -/

/-- The state in which END of engine `e` leaves the next dispatch: its words are committed, its lesson has ended. -/
def State.ended (s : State) (e : Nat) (f : Ecc) : State :=
  { s.eccNoted e f [] with
    bell := { s.bell with commits := s.bell.commits ++ (s.engine e).staged.map (fun w : Nat × Word64 => (e, w.1, w.2)) } }.putEngine e
      { (s.engine e).abandoned with
        due := (s.engine e).due, cycles := (s.engine e).cycles + 2, busy := (s.engine e).cycles + 2 }

theorem exec_eEnd {e : Fin 17} {f : Ecc} {s : State} (hf : f ≠ .double) (hx : s.executes e 2) :
    exec (.eEnd e f) s = .next (dispatchNext e (s.ended e f)) := by
  refine (engRow_done (body := bodyEnd e) hf hx rfl).trans ?_
  rw [eccNoted_bell]
  rfl

theorem State.ended_engine (s : State) (e : Nat) (f : Ecc) : (s.ended e f).engine e =
    { (s.engine e).abandoned with
      due := (s.engine e).due, cycles := (s.engine e).cycles + 2, busy := (s.engine e).cycles + 2 } :=
  State.engine_put_self ..

theorem State.ended_engine_ne (s : State) {e k : Nat} (h : k ≠ e) (f : Ecc) : (s.ended e f).engine k = s.engine k :=
  (State.engine_put_ne _ h.symm _).trans (eccNoted_engine e k f [] s)

theorem State.ended_store (s : State) (e : Nat) (f : Ecc) : (s.ended e f).store = s.store := by
  simp only [State.ended, State.putEngine_store, store_upd, eccNoted_store]

theorem State.ended_enable (s : State) (e : Nat) (f : Ecc) :
    (s.ended e f).rd (Reg.ENG_CTRL_ENABLE e) = s.rd (Reg.ENG_CTRL_ENABLE e) :=
  eccNoted_rd e f s _ (by simp; omega)

theorem State.ended_mayDispatch (s : State) (e : Nat) (f : Ecc) : (s.ended e f).mayDispatch e = s.mayDispatch e := by
  simp only [State.mayDispatch, State.bit, s.ended_enable, s.ended_engine]
  rfl

/-! ### POST (R69) -/

theorem lessonPosted_iff (ev : Fin 128) :
    lessonPosted ev = true ↔ ev.val = 24 ∨ ev.val = 98 ∨ (80 ≤ ev.val ∧ ev.val ≤ 95) ∨ 112 ≤ ev.val := by
  simp only [lessonPosted, decide_eq_true_eq]
  omega

theorem exec_ePost {e : Fin 17} {f : Ecc} {ev : Fin 128} {s : State} (hf : f ≠ .double) (hx : s.executes e 2)
    (hev : lessonPosted ev = true) (hp : (s.engine e).nextPc ((s.engine e).pc + 1) ≤ 8191) :
    exec (.ePost e f ev) s =
      .next (((s.eccNoted e f []).raise ev e).putEngine e ((s.engine e).goesOn 2 ((s.engine e).pc + 1))) :=
  engRow_next e f 2 (bodyPost e ev) s _ _ hf hx (if_pos hev) hp

/-! ### The declared WCET (R74) -/

theorem exec_wcetExceeded_spent {e : Fin 17} {s : State} {l : Lesson} (hh : s.engHalted e = false)
    (hl : (s.engine e).lesson = some l) (hw : ((s.engine e).entry l.idx).wcet ≤ l.cyc) :
    exec (.wcetExceeded e) s = .next (engTrap e .wcet 0 (s.engine e).pc s) := by
  refine congrArg Host.Outcome.next (if_pos ?_)
  simp [hh, hl, hw]

theorem exec_wcetExceeded_within {e : Fin 17} {s : State}
    (h : s.engHalted e = true ∨ ¬∃ l, (s.engine e).lesson = some l ∧ ((s.engine e).entry l.idx).wcet ≤ l.cyc) :
    exec (.wcetExceeded e) s = .next s := by
  refine congrArg Host.Outcome.next (if_neg ?_)
  rcases h with hh | hn
  · simp [hh]
  · cases hl : (s.engine e).lesson with
    | none => simp
    | some l =>
      have hw : ¬ ((s.engine e).entry l.idx).wcet ≤ l.cyc := fun hw => hn ⟨l, hl, hw⟩
      simp [hw]

/-- Settles O9: END dispatches from `State.ended`, POST goes on, and the traps are those of R70. -/
theorem lessonEnds : Obligations.lesson_ends := by
  unfold Obligations.lesson_ends
  intro e f ev code s
  refine ⟨fun hf hx hd hen => ?idle, fun i rest hf hx hd hm => ?next, fun hf hx hev hp => ?post, fun hf hx _ => ?trap,
    fun hh ⟨l, hl, hw⟩ _ => ?spent, exec_wcetExceeded_within⟩
  case idle =>
    have hbit : (s.ended e f).bit (Reg.ENG_CTRL_ENABLE e) = true := by
      simpa only [State.bit, s.ended_enable, decide_eq_true_eq] using hen
    refine ⟨s.ended e f, ?_, rfl, ?_, ?_, ?_, fun k hk => s.ended_engine_ne hk f, s.ended_store e f, rfl⟩
    · rw [exec_eEnd hf hx, dispatchNext_of_nil (by rw [s.ended_engine]; exact hd), if_pos hbit]
    · rw [s.ended_engine]; rfl
    · rw [s.ended_engine]; rfl
    · rw [s.ended_engine]
  case next =>
    have hdue : ((s.ended e f).engine e).due = i :: rest := by rw [s.ended_engine]; exact hd
    refine ⟨_, (exec_eEnd hf hx).trans (congrArg _ (dispatchNext_of_cons hdue (by rw [s.ended_mayDispatch]; exact hm))),
      rfl, ?_, ?_, ?_, ?_, ?_⟩
    · rw [State.engine_wr, State.engine_put_self, s.ended_engine]; rfl
    · rw [State.engine_wr, State.engine_put_self, s.ended_engine]; rfl
    · rw [State.engine_wr, State.engine_put_self]
    · rw [State.engine_wr, State.engine_put_self, s.ended_engine]; rfl
    · rw [State.wr_store, State.putEngine_store, s.ended_store]
  case post =>
    refine ⟨_, exec_ePost hf hx ((lessonPosted_iff ev).mpr hev) hp, State.engine_put_self .., ?_⟩
    rw [State.engine_put_self]
  case trap => exact row_traps (c := .trap) rfl code.isLt hf hx rfl
  case spent => exact ⟨_, exec_wcetExceeded_spent hh hl hw, engTrap_trapped e .wcet 0 _ s (by decide), engTrap_store ..⟩

end Sys2Proof.Machine
end

section
/-! SUPPORT for the engines: what a substitution request and an uncorrectable memory error leave (R45, R99, R103). -/
namespace Sys2Proof.Machine

/-! ### Level conditions and the end of a self-test -/

theorem State.mem_inflight_level {s : State} {m : Notice} (h : m ∈ s.flt.inflight) (ev inst : Nat) (on : Bool) (info : Nat) :
    m ∈ (s.level ev inst on info).flt.inflight := by
  unfold State.level
  split <;> split <;> simp [h]

/-- The fields that record a self-test (R474). -/
def bistRegs : List Fld :=
  [Reg.TST_BIST_STATUS_RESULT, Reg.TST_BIST_STATUS_DETAIL, Reg.TST_BIST_STATUS_BUSY, Reg.TST_BIST_CMD_GO]

/-- The end of a self-test changes its record alone. -/
theorem bistEnd_frame (r detail : Nat) (s : State) :
    (∃ g b, bistEnd r detail s = { s with regs := g, bist := b }) ∧ s.regsBut bistRegs (bistEnd r detail s) := by
  unfold bistEnd
  split
  · exact ⟨⟨s.regs, s.bist, rfl⟩, s.regsBut_refl _⟩
  · refine ⟨⟨_, none, rfl⟩, State.regsBut_wrs { s with bist := none } _ ?_⟩
    simp [bistRegs]

/-! ### Requests of substitution (R99 to R103) -/

/-- A failed substitution changes the record of substitutions and the fault collector alone. -/
theorem substFail_frame (n : Nat) (s : State) : ∃ x c, substFail n s = { s with subst := x, flt := c } :=
  (State.level_frame _ 21 n true 0).elim fun c hc => ⟨_, c, hc⟩

/-- The last part of a request: from a state in which the engine is halted, the substitution fails or the copy begins. -/
def substBegin (n : Nat) (why : SubReason) (u : State) : State :=
  if !u.armed || decide (u.subst.phase ≠ .idle) then substFail n u
  else
    (((({ u with subst := { phase := .copying, eng := n, healthy := why.healthy, since := u.now,
                            failed := u.subst.failed.filter (· ≠ n) } }.wr
      (Reg.ENG_SUBST_REASON 16) why.code).putEngine 16 { (u.engine 16).abandoned.dispatched 0 with
        tt := (u.engine n).tt, bind := (u.engine n).bind, stopped := false, run := false }).level 21 n false).level 20 n true)

theorem substBegin_cases (n : Nat) (why : SubReason) (u : State) : substBegin n why u = substFail n u ∨
    ∃ x y, substBegin n why u =
      ((({ u with subst := x }.wr (Reg.ENG_SUBST_REASON 16) why.code).putEngine 16 y).level 21 n false).level 20 n true := by
  unfold substBegin
  split
  · exact .inl rfl
  · exact .inr ⟨_, _, rfl⟩

/-- The course of a request: nothing, where E16 serves the engine already; else the engine is halted and a test of E16 ends. -/
theorem substRequest_cases (n : Nat) (why : SubReason) (s : State) : substRequest n why s = s ∨
    ∃ u, (u = s.putEngine n (s.engine n).halted ∨ u = bistEnd 4 0 (s.putEngine n (s.engine n).halted)) ∧
      substRequest n why s = substBegin n why u := by
  have heq : substRequest n why s = if s.substituted n && decide (s.subst.phase ≠ .returning) then s
      else substBegin n why (if s.bist = some (1, 16) then bistEnd 4 0 (s.putEngine n (s.engine n).halted)
        else s.putEngine n (s.engine n).halted) := rfl
  rw [heq]
  split
  · exact .inl rfl
  · refine .inr ⟨_, ?_, rfl⟩
    split
    · exact .inr rfl
    · exact .inl rfl

/-- A request leaves its engine, or halts it. -/
theorem substRequest_engine {n : Nat} (hn : n ≠ 16) (why : SubReason) (s : State) :
    (substRequest n why s).engine n = s.engine n ∨ (substRequest n why s).engine n = (s.engine n).halted := by
  rcases substRequest_cases n why s with h | ⟨u, hu, h⟩
  · exact .inl (by rw [h])
  · have hun : u.engine n = (s.engine n).halted := by
      rcases hu with rfl | rfl
      · exact State.engine_put_self ..
      · obtain ⟨⟨g, b, hb⟩, _⟩ := bistEnd_frame 4 0 (s.putEngine n (s.engine n).halted)
        rw [hb]
        exact State.engine_put_self ..
    rw [h]
    refine .inr ?_
    rcases substBegin_cases n why u with h | ⟨x, y, h⟩
    · obtain ⟨x, c, hc⟩ := substFail_frame n u
      rw [h, hc, ← hun]
      rfl
    · rw [h, State.engine_level, State.engine_level, State.engine_put_ne _ hn.symm, State.engine_wr, ← hun]
      rfl

/-- A request loses no notice that is in flight. -/
theorem substRequest_inflight {m : Notice} {s : State} (hm : m ∈ s.flt.inflight) (n : Nat) (why : SubReason) :
    m ∈ (substRequest n why s).flt.inflight := by
  rcases substRequest_cases n why s with h | ⟨u, hu, h⟩
  · rwa [h]
  · have hum : m ∈ u.flt.inflight := by
      rcases hu with rfl | rfl
      · exact hm
      · obtain ⟨⟨g, b, hb⟩, _⟩ := bistEnd_frame 4 0 (s.putEngine n (s.engine n).halted)
        rw [hb]
        exact hm
    rw [h]
    rcases substBegin_cases n why u with h | ⟨x, y, h⟩
    · rw [h]; exact State.mem_inflight_level (by exact hum) _ _ _ _
    · rw [h]; exact State.mem_inflight_level (State.mem_inflight_level (by exact hum) _ _ _ _) _ _ _ _

/-- A request changes the reason of the substitution and the record of a self-test alone among the registers. -/
theorem substRequest_regsBut (n : Nat) (why : SubReason) (s : State) :
    s.regsBut (Reg.ENG_SUBST_REASON 16 :: bistRegs) (substRequest n why s) := by
  rcases substRequest_cases n why s with h | ⟨u, hu, h⟩
  · rw [h]; exact s.regsBut_refl _
  · have hus : s.regsBut (Reg.ENG_SUBST_REASON 16 :: bistRegs) u := by
      rcases hu with rfl | rfl
      · exact State.regsBut_of_regs_eq (s := s) rfl _
      · exact (State.regsBut_of_regs_eq (s := s) rfl _).trans
          ((bistEnd_frame 4 0 (s.putEngine n (s.engine n).halted)).2.mono (List.subset_cons_self _ _))
    rw [h]
    refine hus.trans ?_
    rcases substBegin_cases n why u with h | ⟨x, y, h⟩
    · obtain ⟨x, c, hc⟩ := substFail_frame n u
      rw [h, hc]
      exact State.regsBut_of_regs_eq (s := u) rfl _
    · rw [h]
      intro g hg
      rw [State.rd_level, State.rd_level, State.rd_putEngine, State.rd_wr_ne _ (hg _ List.mem_cons_self)]
      rfl

/-! ### Uncorrectable errors (R45) -/

/-- The UNC flag of a memory of engine `e`. -/
def uncReg (e : Nat) (isD : Bool) : Fld := if isD then Reg.ENG_ECC_UNC_D e else Reg.ENG_ECC_UNC_I e

/-- The error is recorded and raised, and the engine halted, before anything else follows from it. -/
def eccRecorded (e : Nat) (isD : Bool) (idx : Nat) (s : State) : State :=
  (((s.putEngine e (s.engine e).halted).wr (uncReg e isD) 1).wr (Reg.ENG_ECC_ADDR e) idx).raise 18 e idx

theorem engEccStop_eq (e : Nat) (isD : Bool) (idx : Nat) (s : State) : engEccStop e isD idx s =
    if e < 16 then substRequest e .ecc (eccRecorded e isD idx s)
    else if (eccRecorded e isD idx s).serving ≠ 31 then
      (eccRecorded e isD idx s).level 21 (eccRecorded e isD idx s).subst.eng true
    else eccRecorded e isD idx s := rfl

/-- What follows the record of an error keeps it: the flag, the word, the notices and the halted engine. -/
structure State.carriesStop (s : State) (e : Nat) (t : State) : Prop where
  engine : t.engine e = s.engine e ∨ t.engine e = (s.engine e).halted
  regs : s.regsBut (Reg.ENG_SUBST_REASON 16 :: bistRegs) t
  inflight : ∀ m ∈ s.flt.inflight, m ∈ t.flt.inflight

theorem engEccStop_carries {e : Nat} (isD : Bool) (idx : Nat) (s : State) :
    (eccRecorded e isD idx s).carriesStop e (engEccStop e isD idx s) := by
  rw [engEccStop_eq]
  split
  case isTrue he =>
    exact ⟨substRequest_engine (by omega) _ _, substRequest_regsBut _ _ _, fun m hm => substRequest_inflight hm _ _⟩
  case isFalse =>
    split
    · obtain ⟨c, hc⟩ := State.level_frame (eccRecorded e isD idx s) 21 (eccRecorded e isD idx s).subst.eng true 0
      refine ⟨.inl ?_, State.regsBut_of_regs_eq ?_ _, fun m hm => State.mem_inflight_level hm _ _ _ _⟩
      · rw [hc]; rfl
      · rw [hc]
    · exact ⟨.inl rfl, State.regsBut_refl _ _, fun _ => id⟩

/-- What R45 leaves of an uncorrectable error: the record of the word, the notice, and the engine stopped. -/
theorem engEccStop_stops {e idx : Nat} (he : e < 17) (hidx : idx ≤ 8191) (isD : Bool) (s : State) :
    (engEccStop e isD idx s).rd (uncReg e isD) = 1 ∧ (engEccStop e isD idx s).rd (Reg.ENG_ECC_ADDR e) = idx ∧
      (⟨18, e, idx, false⟩ : Notice) ∈ (engEccStop e isD idx s).flt.inflight ∧
      ((engEccStop e isD idx s).engine e).stopped = true ∧ ((engEccStop e isD idx s).engine e).run = false ∧
      ((engEccStop e isD idx s).engine e).lesson = none ∧
      ((engEccStop e isD idx s).engine e).dmem = (s.engine e).dmem := by
  obtain ⟨hengine, hregs, hinflight⟩ := engEccStop_carries isD idx s (e := e)
  have hhalt : (eccRecorded e isD idx s).engine e = (s.engine e).halted := State.engine_put_self ..
  have hunc : (eccRecorded e isD idx s).rd (uncReg e isD) = 1 := by
    cases isD <;> simp [eccRecorded, uncReg]
  have haddr : (eccRecorded e isD idx s).rd (Reg.ENG_ECC_ADDR e) = idx := by
    simp [eccRecorded]; omega
  refine ⟨(hregs _ ?_).trans hunc, (hregs _ ?_).trans haddr, hinflight _ ?_, ?_⟩
  · cases isD <;> simp [uncReg, bistRegs] <;> omega
  · simp [bistRegs]; omega
  · simp [eccRecorded, State.raise]
  · rcases hengine with h | h <;> (rw [h, hhalt]; exact ⟨rfl, rfl, rfl, rfl⟩)

end Sys2Proof.Machine
end

section
/-! What happens to an engine beside its instructions, and the host at an engine (O11, O12). -/
namespace Sys2Proof.Machine

/-! ### The scrubber (R45) -/

/-- The counter of corrected errors of a memory of engine `e`. -/
def corrReg (e : Nat) (isD : Bool) : Fld := if isD then Reg.ENG_ECC_CORR_D e else Reg.ENG_ECC_CORR_I e

theorem engEccCorrected_counts (e : Nat) (isD : Bool) (s : State) :
    (engEccCorrected e isD s).rd (corrReg e isD) = min (s.rd (corrReg e isD) + 1) 255 ∧
      s.regsBut [corrReg e isD] (engEccCorrected e isD s) := by
  constructor
  · refine (State.rd_bumpSat_self s (corrReg e isD) 1).trans ?_
    have hw : (corrReg e isD).width = 8 := by cases isD <;> rfl
    rw [hw]
    omega
  · exact fun g hg => State.rd_bumpSat_ne s (hg _ List.mem_cons_self) 1

/-! ### Words that spell no instruction (R57, R69) -/

theorem fetchedBody_illegal {e : Fin 17} {word : BitVec 32} (hp : postsBeyond word = false)
    (hd : decodeEngine e .ok .ok .ok word = none) : fetchedBody e .ok .ok word = (1, bodyIllegal) := by
  simp only [fetchedBody, hp, hd, Bool.false_eq_true, if_false, Option.bind_none, Option.getD_none]

theorem fetchedBody_beyond {e : Fin 17} {word : BitVec 32} (hp : postsBeyond word = true) :
    fetchedBody e .ok .ok word = (2, fun _ _ => .trap .priv 0) := if_pos hp

theorem fetchedBody_of_decode {e : Fin 17} {d d2 : Ecc} {word : BitVec 32} {j : Instr} {p : Nat × (State → Eng → Res)}
    (hp : postsBeyond word = false) (hd : decodeEngine e .ok d d2 word = some j) (hj : engineBody j = some p) :
    fetchedBody e d d2 word = p := by
  simp only [fetchedBody, hp, hd, Bool.false_eq_true, if_false, Option.bind_some, hj, Option.getD_some]

/-- A host command at an engine's registers, or at the bell's, has its effect alone. -/
theorem hostCmd_engine {a : Nat} {f : State → Out} {s t : State} (h : s.hostOpen a) (ha : a < 0x10000) (hf : f s = .next t) :
    hostCmd a f s = .next t :=
  hostCmd_plain a f s t h (by omega) (by omega) hf

theorem engineReg_addr_lt (e : Fin 17) : (Reg.ENG_CTRL_ENABLE e).addr < 0x10000 := by
  simp only [Reg.ENG_CTRL_ENABLE]
  omega

theorem exec_engStep_halted {e : Fin 17} {f d d2 : Ecc} {s : State} (ho : s.hostOpen (0x7000 + 0x80 * e))
    (hh : s.engHalted e = true) :
    exec (.engStep e f (d, d2)) s = .next (engRun e f (fetchedBody e d d2 ((s.engine e).iword (s.engine e).pc)).1
      (fetchedBody e d d2 ((s.engine e).iword (s.engine e).pc)).2 s) :=
  hostCmd_engine ho (engineReg_addr_lt e) (if_pos hh)

/-- Settles O11: the scrubber's three outcomes, the strikes, and the words that spell no instruction; STEP runs the word fetched. -/
theorem engineEvents : Obligations.engine_events := by
  unfold Obligations.engine_events
  intro e f d d2 mem idx word s
  refine ⟨rfl, ?single, ?double, ?strike, fun hf hx _ hp hd => ?illegal, fun hf hx _ hp => ?beyond,
    fun j cost body ho hh hp hd hj => ?step⟩
  case single =>
    have hcorr : (if mem = .dmem then Reg.ENG_ECC_CORR_D e else Reg.ENG_ECC_CORR_I e) = corrReg e (decide (mem = .dmem)) := by
      cases mem <;> rfl
    rw [hcorr]
    obtain ⟨hcount, hregs⟩ := engEccCorrected_counts e (decide (mem = .dmem)) s
    exact ⟨_, rfl, hcount, hregs, rfl, rfl, engEccCorrected_store ..⟩
  case double =>
    have hi : (if mem = .dmem then idx.val % 2048 else idx.val) ≤ 8191 := by split <;> omega
    obtain ⟨hunc, haddr, hnote, hstop, hrun, hlesson, _⟩ := engEccStop_stops e.isLt hi (decide (mem = .dmem)) s
    refine ⟨engEccStop e (decide (mem = .dmem)) (if mem = .dmem then idx.val % 2048 else idx.val) s, ?_, ?_, haddr, hstop,
      hrun, hlesson, hnote, engEccStop_store ..⟩
    · cases mem <;> rfl
    · cases mem <;> exact hunc
  case strike =>
    refine ⟨_, rfl, ?_, ?_⟩
    · rw [dropStrikes, State.engine_put_self]
    · rw [dropStrikes, State.engine_put_self]
  case illegal =>
    exact row_traps (c := .illegal) (body := bodyIllegal) (cost := 1)
      (congrArg (fun p : Nat × (State → Eng → Res) => engRow e f p.1 p.2 s) (fetchedBody_illegal hp hd)) (by decide) hf
      (executes_mono (by decide) hx) rfl
  case beyond =>
    exact row_traps (c := .priv) (body := fun _ _ => .trap .priv 0) (cost := 2)
      (congrArg (fun p : Nat × (State → Eng → Res) => engRow e f p.1 p.2 s) (fetchedBody_beyond hp)) (by decide) hf
      (executes_mono (by decide) hx) rfl
  case step => rw [exec_engStep_halted ho hh, fetchedBody_of_decode hp hd hj]

/-! ### The host at an engine (R53, R75, R77, R85) -/

/-- The LO write commits the word of both halves. -/
theorem exec_hinLoWrite {e : Fin 17} {k : Fin 4} {data : BitVec 32} {s : State}
    (ho : s.hostOpen (Reg.ENG_HIN_LO_DATA e k).addr) :
    exec (.hinLoWrite e k data) s =
      .next ((s.wr (Reg.ENG_HIN_LO_DATA (s.hostOwner e) k) data.toNat).putHostWords (s.hostOwner e)
        { s.hostWords (s.hostOwner e) with
          hin := tabSet 0 k (BitVec.ofNat 64 (s.rd (Reg.ENG_HIN_HI_DATA (s.hostOwner e) k) * 2 ^ 32 + data.toNat))
            (s.hostWords (s.hostOwner e)).hin }) :=
  hostCmd_engine ho (by simp only [Reg.ENG_HIN_LO_DATA]; omega) rfl

theorem exec_engEnable_off {e : Fin 17} {s : State} (ho : s.hostOpen (Reg.ENG_CTRL_ENABLE e).addr) :
    exec (.engEnable e false) s = .next ((s.wrb (Reg.ENG_CTRL_ENABLE e) false).putEngine e { s.engine e with
      due := [], unchecked := true, run := (s.engine e).run && (s.engine e).lesson.isSome }) :=
  hostCmd_engine ho (engineReg_addr_lt e) rfl

theorem State.anyRunning_eq_false_iff (s : State) : s.anyRunning = false ↔ ∀ n < 17, (s.engine n).run = false := by
  simp [State.anyRunning]

theorem exec_bellPeriodWrite_taken {s : State} {period : BitVec 25} (ho : s.hostOpen Reg.DEV_BELL_PERIOD.addr)
    (hr : ∀ n < 17, (s.engine n).run = false) (hlo : 250 ≤ period.toNat) (hhi : period.toNat ≤ 16777216) :
    exec (.bellPeriodWrite period) s =
      .next ((s.wr Reg.DEV_BELL_PERIOD period.toNat).wr Reg.DEV_BELL_STATUS_PERIOD_REJ 0) := by
  refine hostCmd_engine ho (by decide) (if_neg ?_)
  simp only [(s.anyRunning_eq_false_iff).mpr hr, Bool.false_eq_true, false_or]
  omega

theorem exec_bellPeriodWrite_refused {s : State} {period : BitVec 25} (ho : s.hostOpen Reg.DEV_BELL_PERIOD.addr)
    (h : ¬((∀ n < 17, (s.engine n).run = false) ∧ 250 ≤ period.toNat ∧ period.toNat ≤ 16777216)) :
    exec (.bellPeriodWrite period) s = .next (s.wr Reg.DEV_BELL_STATUS_PERIOD_REJ 1) := by
  refine hostCmd_engine ho (by decide) (if_pos ?_)
  by_cases hr : s.anyRunning = true
  · exact .inl hr
  · have hr' := (s.anyRunning_eq_false_iff).mp (by simpa using hr)
    have hp : ¬(250 ≤ period.toNat ∧ period.toNat ≤ 16777216) := fun hp => h ⟨hr', hp⟩
    exact .inr (by omega)

/-- Settles O12: each write reaches its register and has the effect of its command alone. -/
theorem engineHost : Obligations.engine_host := by
  unfold Obligations.engine_host
  intro e k data period on s
  have haddr := engineReg_addr_lt e
  refine ⟨fun ho => ?hin, fun ⟨halive, hreach⟩ => ?hout,
    fun ho => ⟨⟨_, hostCmd_engine ho haddr rfl, ?enable⟩, ⟨_, exec_engEnable_off ho, ?disable⟩,
      ⟨_, hostCmd_engine ho haddr rfl, ?halt⟩⟩, fun ho => ?period⟩
  case hin =>
    refine ⟨_, exec_hinLoWrite ho, ?_, ?_, fun j hj => ?_, ?_, fun n hn => ?_, ?_, rfl⟩
    · rw [State.rd_putHostWords, State.rd_wr_self, Reg.ENG_HIN_LO_DATA_width]
      exact Nat.mod_eq_of_lt data.isLt
    · rw [State.hostWords_put_self]
      exact tabGet_set_self ..
    · rw [State.hostWords_put_self, tabGet_set_ne _ _ hj.symm]
    · rw [State.hostWords_put_self]
    · rw [State.hostWords_put_ne _ hn.symm, State.hostWords_wr]
    · exact fun g hg => (State.rd_putHostWords ..).trans (State.rd_wr_ne s (hg _ List.mem_cons_self) _)
  case hout =>
    refine ⟨_, (if_neg (by simp [halive])).trans (if_pos hreach), rfl, ?_, State.regsBut_wr s List.mem_cons_self _, rfl⟩
    refine (State.rd_wr_self ..).trans (Nat.mod_eq_of_lt ?_)
    have := (tabGet 0 k.val (s.hostWords (s.hostOwner e)).hout).isLt
    simp only [Reg.ENG_HOUT_HI_DATA_width]
    omega
  case enable => exact ⟨State.rd_wrb_self .., rfl, State.regsBut_wr s List.mem_cons_self _⟩
  case disable =>
    refine ⟨(State.rd_putEngine ..).trans (State.rd_wrb_self ..),
      fun g hg => (State.rd_putEngine ..).trans (State.rd_wrb_ne s (hg _ List.mem_cons_self) _),
      State.engine_put_self .., fun n hn => State.engine_put_ne _ hn.symm _, rfl⟩
  case halt =>
    refine ⟨?_, rfl, State.regsBut_wr s List.mem_cons_self _⟩
    cases on <;> exact State.rd_wrb_self ..
  case period =>
    have hkey : Reg.DEV_BELL_STATUS_PERIOD_REJ.key ≠ Reg.DEV_BELL_PERIOD.key := by simp
    by_cases ht : (∀ n < 17, (s.engine n).run = false) ∧ 250 ≤ period.toNat ∧ period.toNat ≤ 16777216
    · obtain ⟨hr, hlo, hhi⟩ := ht
      refine ⟨_, exec_bellPeriodWrite_taken ho hr hlo hhi, ⟨rfl, ?_⟩, fun _ => ⟨?_, ?_⟩, fun hn => absurd ⟨hr, hlo, hhi⟩ hn⟩
      · exact (State.regsBut_wr s (by simp) _).trans (State.regsBut_wr _ (by simp) _)
      · rw [State.rd_wr_ne _ hkey, State.rd_wr_self]
        exact Nat.mod_eq_of_lt period.isLt
      · exact State.rd_wr_self ..
    · exact ⟨_, exec_bellPeriodWrite_refused ho ht, ⟨rfl, State.regsBut_wr s (by simp) _⟩, fun h => absurd h ht,
        fun _ => ⟨State.rd_wr_ne _ hkey _, State.rd_wr_self ..⟩⟩

end Sys2Proof.Machine
end

section
/-! When an instruction does nothing, stops its engine, or traps (O10). -/
namespace Sys2Proof.Machine

/-! ### What a row may do beside its effect -/

/-- The row `i` of engine `e` traps with `cause` in its first cycle (R70). -/
def State.rowTraps (s : State) (e : Fin 17) (f : Ecc) (i : Instr) (cause : Nat) : Prop :=
  f ≠ .double → s.executes e 1 → (s.engine e).pc ≤ 8191 →
    ∃ t, exec i s = .next t ∧ (s.eccNoted e f []).trapped e cause 0 (s.engine e).pc t ∧ t.store = s.store

/-- The row `i` does nothing under HALT or without a lesson (R57, R77), and stops the engine where its fetch is uncorrectable
(R45). -/
def State.rowCourse (s : State) (e : Fin 17) (f : Ecc) (i : Instr) : Prop :=
  (s.engHalted e = true ∨ (s.engine e).lesson = none → exec i s = .next s) ∧
  (f = .double → s.engHalted e = false → (s.engine e).lesson.isSome = true → (s.engine e).pc ≤ 8191 →
    ∃ t, exec i s = .next t ∧ t.rd (Reg.ENG_ECC_UNC_I e) = 1 ∧ t.rd (Reg.ENG_ECC_ADDR e) = (s.engine e).pc ∧
      (⟨18, e, (s.engine e).pc, false⟩ : Notice) ∈ t.flt.inflight ∧ (t.engine e).stopped = true ∧ (t.engine e).run = false ∧
      (t.engine e).lesson = none ∧ (t.engine e).dmem = (s.engine e).dmem ∧ t.store = s.store)

/-- The row `i` has that course, and traps where a register it names is pending, or one it reads is poisoned (R48). -/
def State.rowGuarded (s : State) (e : Fin 17) (f : Ecc) (i : Instr) (reads writes : List Nat) : Prop :=
  s.rowCourse e f i ∧
  ((∃ r ∈ reads ++ writes, r ≠ 0 ∧ r ∈ (s.engine e).pend) → (∀ r ∈ reads, r ∉ (s.engine e).poison) → s.rowTraps e f i 7) ∧
  ((∃ r ∈ reads, r ≠ 0 ∧ r ∈ (s.engine e).poison) → (∀ r ∈ reads ++ writes, r ∉ (s.engine e).pend) → s.rowTraps e f i 9)

/-- The row `i` at the last index is not carried out (R511). -/
def State.rowLast (s : State) (e : Fin 17) (f : Ecc) (i : Instr) (cost : Nat) (reads writes : List Nat) : Prop :=
  f ≠ .double → s.executes e cost → (s.engine e).hazard reads writes = none → (s.engine e).pc = 8191 →
    (s.engine e).loops = [] →
    ∃ t, exec i s = .next t ∧ (s.eccNoted e f []).trapped e 2 0 8191 t ∧ t.store = s.store ∧
      ((s.engine e).due = [] → ∀ r, (t.engine e).reg r = (s.engine e).reg r)

section
variable {i : Instr} {e : Fin 17} {f : Ecc} {cost : Nat} {reads writes : List Nat} {s : State} {body k : State → Eng → Res}

theorem rowTraps_of_body {c : Cause} (hi : exec i s = engRow e f cost body s)
    (hb : ∀ u, body u (s.engine e) = .trap c 0) : s.rowTraps e f i c.code :=
  fun hf hx _ => row_traps hi (by decide) hf hx (hb _)

theorem rowCourse_of_row (hi : exec i s = engRow e f cost body s) : s.rowCourse e f i := by
  refine ⟨fun h => ?idle, fun hf hh hl hp => ?stop⟩
  case idle =>
    rw [hi]
    rcases h with hh | hl
    · exact if_pos hh
    · simp only [engRow, engRun, hl, ite_self]
  case stop =>
    obtain ⟨l, hl⟩ := Option.isSome_iff_exists.mp hl
    have hstop : exec i s = .next (engEccStop e false (s.engine e).pc s) := by
      rw [hi]
      simp only [engRow, hh, engRun, hl, hf, if_true, Bool.false_eq_true, if_false]
    obtain ⟨hunc, haddr, hnote, hstopped, hrun, hlesson, hdmem⟩ := engEccStop_stops e.isLt hp false s
    exact ⟨_, hstop, hunc, haddr, hnote, hstopped, hrun, hlesson, hdmem, engEccStop_store ..⟩

/-- A row whose body begins with the hazard check of the registers it names is guarded by it. -/
theorem rowGuarded_of_hazards {reads' : List Nat} (hr : ∀ r, r ∈ reads ↔ r ∈ reads')
    (hi : exec i s = engRow e f cost body s) (hb : ∀ u, body u (s.engine e) = hazards reads' writes k u (s.engine e)) :
    s.rowGuarded e f i reads writes := by
  have happ : ∀ r, r ∈ reads ++ writes ↔ r ∈ reads' ++ writes := fun r => by simp only [List.mem_append, hr]
  refine ⟨rowCourse_of_row hi, fun hp hq => ?_, fun hp hq => ?_⟩
  · simp only [happ, hr] at hp hq
    exact rowTraps_of_body (c := .hazard) hi fun u => (hb u).trans (hazards_some (Eng.hazard_of_pend hp hq))
  · simp only [happ, hr] at hp hq
    exact rowTraps_of_body (c := .cmnEcc) hi fun u => (hb u).trans (hazards_some (Eng.hazard_of_poison hp hq))

/-- The order in which the registers are read does not matter to the guards. -/
theorem rowGuarded_of_reordered {reads' : List Nat} (hr : ∀ r, r ∈ reads ↔ r ∈ reads')
    (hi : exec i s = engRow e f cost (hazards reads' writes k) s) : s.rowGuarded e f i reads writes :=
  rowGuarded_of_hazards hr hi fun _ => rfl

theorem rowGuarded_of_row (hi : exec i s = engRow e f cost (hazards reads writes k) s) : s.rowGuarded e f i reads writes :=
  rowGuarded_of_reordered (fun _ => Iff.rfl) hi

/-- A row that only loads a register traps where that register is pending. -/
theorem rowLoads_of_row {rd : Fin 32} (hi : exec i s = engRow e f cost (hazards [] [rd.val] k) s) :
    s.rowCourse e f i ∧ (rd.val ≠ 0 → rd.val ∈ (s.engine e).pend → s.rowTraps e f i 7) :=
  ⟨rowCourse_of_row hi, fun h0 hp => (rowGuarded_of_row hi).2.1 ⟨rd, List.mem_cons_self, h0, hp⟩ (by simp)⟩

/-- A row that goes on and leaves the loops alone traps at the last index outside a loop. -/
theorem rowLast_of_row (hi : exec i s = engRow e f cost (hazards reads writes k) s) (hc : 1 ≤ cost)
    (hk : ∀ u, ∃ y, k u (s.engine e) = .next u y ∧ y.loops = (s.engine e).loops) :
    s.rowLast e f i cost reads writes := by
  intro hf hx hh hpc hl
  obtain ⟨y, hy, hyl⟩ := hk (s.eccNoted e f [])
  have hpast : 8191 < y.nextPc ((s.engine e).pc + 1) := by
    rw [Eng.nextPc, hyl, hl, hpc]
    decide
  obtain ⟨htrap, hstore⟩ := engTrap_eccNoted e f .illegal 0 8191 s (by decide)
  refine ⟨_, hi.trans (engRow_past e f cost _ s _ y hf hx hc ((hazards_none _ _ _ _ _ hh).trans hy) hpast), htrap, hstore,
    fun hd r => ?_⟩
  have hu := eccNoted_engine e e f [] s
  exact ((engTrap_reg_accum_of_nil (by rw [hu]; exact hd) _ _ _).1 r).trans (by rw [hu])

/-- Both, for a row that writes one register and may set flags. -/
theorem rowWrites_of_row {rd : Nat} {y : Eng} {v : Word64} (hi : exec i s = engRow e f cost (hazards reads [rd] k) s)
    (hc : 1 ≤ cost) (hk : ∀ u, k u (s.engine e) = .next u (y.setReg rd v)) (hy : y.loops = (s.engine e).loops) :
    s.rowGuarded e f i reads [rd] ∧ s.rowLast e f i cost reads [rd] :=
  ⟨rowGuarded_of_row hi, rowLast_of_row hi hc fun u => ⟨_, hk u, (y.setReg_loops rd v).trans hy⟩⟩

end

/-! ### The operands of an instruction (R57, R64 to R67, R69) -/

theorem bodyCrd_traps {x : Eng} {rd rs1 : Nat} {imm : BitVec 16} (hh : x.hazard [rs1] [rd] = none)
    (hc : x.cmnCheck (x.cmnAddr rs1 imm) = some .cmn) (s : State) : bodyCrd rd rs1 imm s x = .trap .cmn 0 := by
  simp only [bodyCrd, hazards_none _ _ _ _ _ hh, hc]

theorem bodyCwr_traps {x : Eng} {rs rs1 : Nat} {imm : BitVec 16} (hh : x.hazard [rs1, rs] [] = none)
    (hc : x.cmnCheck (x.cmnAddr rs1 imm) = some .cmn) (s : State) : bodyCwr rs rs1 imm s x = .trap .cmn 0 := by
  simp only [bodyCwr, hazards_none _ _ _ _ _ hh, hc]

theorem bodyMbi_range {x : Eng} {e rd idx rs1 : Nat} (hh : x.hazard [rs1] [rd] = none)
    (hr : 0x1FF < x.mbxIndex idx rs1) (s : State) : bodyMbi e rd idx rs1 s x = .trap .mbxRange 0 := by
  simp only [bodyMbi, hazards_none _ _ _ _ _ hh, hr, if_true]

theorem bodyMbo_range {x : Eng} {rs idx rs1 : Nat} (hh : x.hazard [rs1, rs] [] = none)
    (hl : outListed (x.mbxIndex idx rs1) = false) (s : State) : bodyMbo rs idx rs1 s x = .trap .mbxRange 0 := by
  simp only [bodyMbo, hazards_none _ _ _ _ _ hh, hl, Bool.not_false, if_true]

theorem bodyMbo_unbound {x : Eng} {rs idx rs1 : Nat} (hh : x.hazard [rs1, rs] [] = none)
    (hl : outListed (x.mbxIndex idx rs1) = true) (ho : ¬ isHostOut (x.mbxIndex idx rs1) = true)
    (hb : x.mbxIndex idx rs1 ∉ x.bind) (s : State) : bodyMbo rs idx rs1 s x = .trap .bind 0 := by
  simp only [bodyMbo, hazards_none _ _ _ _ _ hh, hl, Bool.not_true, Bool.false_eq_true, if_false]
  exact if_pos (by simp [ho, hb])

theorem bodyLoop_malformed {x : Eng} {body rs count : Nat}
    (h : ¬(0 < body ∧ 0 < count ∧ count ≤ 4096 ∧ x.pc + body ≤ 8191)) (s : State) :
    bodyLoop body rs count s x = .trap .illegal 0 := if_pos (by omega)

theorem bodyLoop_deep {x : Eng} {body rs count : Nat} (hb : 0 < body) (hc : 0 < count) (hm : count ≤ 4096)
    (hp : x.pc + body ≤ 8191) (hh : x.hazard [rs] [] = none) (ht : 0 < x.loopTimes rs count) (hl : 4 ≤ x.loops.length)
    (s : State) : bodyLoop body rs count s x = .trap .loopDepth 0 := by
  rw [bodyLoop_eq hb hc hm hp, hazards_none _ _ _ _ _ hh]
  exact (if_neg (Int.not_le.mpr ht)).trans (if_pos hl)

theorem bodyPost_priv {ev : Fin 128} (e : Nat)
    (h : ¬(ev.val = 24 ∨ ev.val = 98 ∨ (80 ≤ ev.val ∧ ev.val ≤ 95) ∨ 112 ≤ ev.val)) (s : State) (x : Eng) :
    bodyPost e ev s x = .trap .priv 0 := if_neg fun hp => h ((lessonPosted_iff ev).mp hp)

/-- Settles O10: the guards and the courses of the rows, and then each operand check with its cause. -/
theorem instructionTraps : Obligations.instruction_traps := by
  unfold Obligations.instruction_traps
  intro e f d d2 acc acc2 rd rs rs1 rs2 imm sh6 sh lane cond idx body count n ev code s
  refine ⟨?twoReads, ?oneRead, ?guarded, ?courses, fun ha => ?commons, ⟨fun hh hr => ?mbiRange, fun hh => ?mbo⟩,
    ⟨fun h => ?loopForm, fun ⟨hb, hc, hm, hp⟩ => ?loopGuard, fun ⟨hb, hc, hm, hp⟩ hh ht hl => ?loopDepth⟩,
    ⟨fun h => ?skipForm, fun hn ho hc => ?skipRange, fun hn => ?skipBitForm, fun hn => ?skipBitGuard,
      fun hn ho hh => ?skipBitRange⟩,
    fun h => ?selForm, fun b hb => ?selGuard, fun h => ?aldForm, fun h => ?aldGuard, fun h => ?post⟩
  case twoReads =>
    refine ⟨?_, ?_, ?_, ?_, ?_, ?_, ?_, ?_, ?_, ?_, ?_, ?_, ?_⟩
    all_goals exact rowWrites_of_row rfl (by decide) (fun _ => rfl) rfl
  case oneRead =>
    refine ⟨?_, ?_, ?_, ?_, ?_, ?_, ?_, ?_, ?_, ?_, ?ld, ?ldw, ?crd, ?mbi⟩
    case ld | ldw | crd | mbi => exact rowGuarded_of_row rfl
    all_goals exact rowWrites_of_row rfl (by decide) (fun _ => rfl) rfl
  case guarded =>
    refine ⟨?_, ?_, ?rdc, ?ldi, ?aex, ?_, ?_, ?_, ?_, ?aclr, ?aadd, ?asub, ?st, ?stw, ?_, ?_, ?_, ?csync, ?_, ?eend, ?epost,
      ?etrap⟩
    case rdc | ldi | aex => exact rowLoads_of_row rfl
    case aclr | aadd | asub | csync | eend | epost | etrap => exact rowCourse_of_row rfl
    case st | stw => exact rowGuarded_of_reordered (reads' := [rs.val, rs1.val]) (by simp [or_comm]) rfl
    all_goals exact rowGuarded_of_row rfl
  case courses =>
    refine ⟨?_, ?_, ?_, ?_, ?_, ?_⟩
    all_goals exact rowCourse_of_row rfl
  case commons =>
    have hc : (s.engine e).cmnCheck ((s.engine e).cmnAddr rs1 imm) = some .cmn := Eng.cmnCheck_eq_some ha
    exact ⟨fun hh => rowTraps_of_body (c := .cmn) rfl (bodyCrd_traps hh hc),
      fun hh => rowTraps_of_body (c := .cmn) rfl (bodyCwr_traps hh hc)⟩
  case mbiRange => exact rowTraps_of_body (c := .mbxRange) rfl (bodyMbi_range hh hr)
  case mbo =>
    exact ⟨fun hl => rowTraps_of_body (c := .mbxRange) rfl (bodyMbo_range hh hl),
      fun hl ho hb => rowTraps_of_body (c := .bind) rfl (bodyMbo_unbound hh hl (by rwa [isHostOut_iff]) hb)⟩
  case loopForm => exact rowTraps_of_body (c := .illegal) rfl (bodyLoop_malformed h)
  case loopGuard => exact rowGuarded_of_hazards (fun _ => Iff.rfl) rfl (bodyLoop_eq hb hc hm hp)
  case loopDepth => exact rowTraps_of_body (c := .loopDepth) rfl (bodyLoop_deep hb hc hm hp hh ht hl)
  case skipForm => exact rowTraps_of_body (c := .illegal) rfl (bodySkip_illegal h)
  case skipRange =>
    exact rowTraps_of_body (c := .skipRange) rfl fun u => (bodySkip_eq hc hn u).trans (skipTo_outside ho u)
  case skipBitForm =>
    exact ⟨rowTraps_of_body (c := .illegal) rfl fun u => if_pos hn,
      rowTraps_of_body (c := .illegal) rfl fun u => if_pos hn⟩
  case skipBitGuard =>
    exact ⟨rowGuarded_of_hazards (fun _ => Iff.rfl) rfl fun u => bodySkbs_eq hn u _,
      rowGuarded_of_hazards (fun _ => Iff.rfl) rfl fun u => bodySkbc_eq hn u _⟩
  case skipBitRange =>
    refine ⟨fun ht => rowTraps_of_body (c := .skipRange) rfl fun u => ?_,
      fun ht => rowTraps_of_body (c := .skipRange) rfl fun u => ?_⟩
    · rw [bodySkbs_eq hn, hazards_none _ _ _ _ _ hh, ht]
      exact skipTo_outside ho u
    · rw [bodySkbc_eq hn, hazards_none _ _ _ _ _ hh, ht]
      exact skipTo_outside ho u
  case selForm => exact rowTraps_of_body (c := .illegal) rfl (bodySel_of_none h rd rs1 rs2)
  case selGuard => exact rowGuarded_of_hazards (fun _ => Iff.rfl) rfl (bodySel_eq hb rd rs1 rs2)
  case aldForm => exact rowTraps_of_body (c := .illegal) rfl fun u => if_pos h
  case aldGuard => exact rowGuarded_of_hazards (fun _ => Iff.rfl) rfl fun u => bodyAld_eq h acc rs1 u _
  case post => exact rowTraps_of_body (c := .priv) rfl fun u => bodyPost_priv e h u _

end Sys2Proof.Machine
end

section
/-! The substitution of an engine: the host's requests, the copy and the return (O13). -/
namespace Sys2Proof.Machine

/-! ### The host's request (R99, R103, R106) -/

theorem substReg_addr_lt : (Reg.ENG_SUBST_FORCE 16).addr < 0x10000 := by decide

theorem exec_substForce {n : Fin 16} {s : State} (ho : s.hostOpen (Reg.ENG_SUBST_FORCE 16).addr) :
    exec (.substForce n) s = .next (if s.substBusy ∨ s.serving ≠ 31 then s.wr (Reg.ENG_SUBST_TARGET 16) n
      else substRequest n .force (s.wr (Reg.ENG_SUBST_TARGET 16) n)) :=
  hostCmd_engine ho substReg_addr_lt rfl

theorem exec_substForce_ignored {n : Fin 16} {s : State} (ho : s.hostOpen (Reg.ENG_SUBST_FORCE 16).addr)
    (h : s.substBusy = true ∨ s.serving ≠ 31) :
    exec (.substForce n) s = .next (s.wr (Reg.ENG_SUBST_TARGET 16) n) :=
  (exec_substForce ho).trans (congrArg _ (if_pos h))

theorem rd_substTarget_wr (n : Fin 16) (s : State) :
    (s.wr (Reg.ENG_SUBST_TARGET 16) n).rd (Reg.ENG_SUBST_TARGET 16) = n :=
  (State.rd_wr_self ..).trans (Nat.mod_eq_of_lt (n.isLt.trans_le (by decide)))

/-- The first part of a request: the engine is halted, and a test of E16 ends (R100, R476). -/
def substHalt (n : Nat) (s : State) : State :=
  if s.bist = some (1, 16) then bistEnd 4 0 (s.putEngine n (s.engine n).halted) else s.putEngine n (s.engine n).halted

theorem substRequest_eq_begin {n : Nat} {s : State} (h : s.substituted n = false) (why : SubReason) :
    substRequest n why s = substBegin n why (substHalt n s) :=
  if_neg (by simp [h])

/-- The first part changes the engine and the record of a self-test alone. -/
theorem substHalt_frame (n : Nat) (s : State) :
    (∃ g b, substHalt n s = { s.putEngine n (s.engine n).halted with regs := g, bist := b }) ∧
      s.regsBut bistRegs (substHalt n s) := by
  have hput : s.regsBut bistRegs (s.putEngine n (s.engine n).halted) := State.regsBut_of_regs_eq rfl _
  unfold substHalt
  split
  · obtain ⟨hframe, hregs⟩ := bistEnd_frame 4 0 (s.putEngine n (s.engine n).halted)
    exact ⟨hframe, hput.trans hregs⟩
  · exact ⟨⟨_, _, rfl⟩, hput⟩

theorem substHalt_subst (n : Nat) (s : State) : (substHalt n s).subst = s.subst := by
  obtain ⟨⟨g, b, h⟩, -⟩ := substHalt_frame n s
  rw [h]
  rfl

theorem substHalt_engine_self (n : Nat) (s : State) : (substHalt n s).engine n = (s.engine n).halted := by
  obtain ⟨⟨g, b, h⟩, -⟩ := substHalt_frame n s
  rw [h]
  exact State.engine_put_self ..

/-- What a forced request leaves before the copy begins or the substitution fails (R99, R106). -/
def substForced (n : Nat) (s : State) : State := substHalt n (s.wr (Reg.ENG_SUBST_TARGET 16) n)

theorem substForced_subst (n : Nat) (s : State) : (substForced n s).subst = s.subst := substHalt_subst ..

theorem substForced_engine_self (n : Nat) (s : State) : (substForced n s).engine n = (s.engine n).halted :=
  substHalt_engine_self ..

/-- E16 is armed or not, as it was. -/
theorem substForced_armed (n : Nat) (s : State) :
    (substForced n s).armed = decide (s.rd (Reg.ENG_CTRL_ENABLE 16) ≠ 0) := by
  obtain ⟨-, hregs⟩ := substHalt_frame n (s.wr (Reg.ENG_SUBST_TARGET 16) n)
  rw [substForced, State.armed, State.bit_eq, hregs _ (by simp [bistRegs]), State.rd_wr_ne _ (by simp)]

section
variable {n : Fin 16} {s : State} (hn : s.substituted n = false)
include hn

theorem substRequest_forced : substRequest n .force (s.wr (Reg.ENG_SUBST_TARGET 16) n) =
    substBegin n .force (substForced n s) :=
  substRequest_eq_begin (s := s.wr (Reg.ENG_SUBST_TARGET 16) n) hn .force

theorem exec_substForce_begins (ho : s.hostOpen (Reg.ENG_SUBST_FORCE 16).addr) (hb : s.substBusy = false)
    (hs : s.serving = 31) : exec (.substForce n) s = .next (substBegin n .force (substForced n s)) := by
  rw [exec_substForce ho, if_neg (by simp [hb, hs]), substRequest_forced hn]

theorem rd_substTarget_forced : (substBegin n .force (substForced n s)).rd (Reg.ENG_SUBST_TARGET 16) = n := by
  rw [← substRequest_forced hn, substRequest_regsBut _ _ _ _ (by simp [bistRegs]), rd_substTarget_wr]

theorem store_substForced : (substBegin n .force (substForced n s)).store = s.store := by
  rw [← substRequest_forced hn, substRequest_store, State.wr_store]

end

/-- The copy of engine `n` into E16 begins (R100). -/
def substCopy (n : Nat) (why : SubReason) (u : State) : State :=
  (((({ u with subst := { phase := .copying, eng := n, healthy := why.healthy, since := u.now,
                          failed := u.subst.failed.filter (· ≠ n) } }.wr
    (Reg.ENG_SUBST_REASON 16) why.code).putEngine 16 { (u.engine 16).abandoned.dispatched 0 with
      tt := (u.engine n).tt, bind := (u.engine n).bind, stopped := false, run := false }).level 21 n false).level 20 n true)

theorem substBegin_eq_copy {n : Nat} {why : SubReason} {u : State} (ha : u.armed = true) (hp : u.subst.phase = .idle) :
    substBegin n why u = substCopy n why u :=
  if_neg (by simp [ha, hp])

theorem substBegin_eq_fail {n : Nat} {why : SubReason} {u : State} (ha : u.armed = false) :
    substBegin n why u = substFail n u :=
  if_pos (by simp [ha])

theorem substCopy_subst (n : Nat) (why : SubReason) (u : State) : (substCopy n why u).subst =
    { phase := .copying, eng := n, healthy := why.healthy, since := u.now, failed := u.subst.failed.filter (· ≠ n) } := by
  simp [substCopy]

theorem substCopy_reason (n : Nat) (why : SubReason) (u : State) :
    (substCopy n why u).rd (Reg.ENG_SUBST_REASON 16) = why.code := by
  rw [substCopy, State.rd_level, State.rd_level, State.rd_putEngine, State.rd_wr_self]
  cases why <;> rfl

theorem substCopy_engine_ne {n : Nat} (hn : n ≠ 16) (why : SubReason) (u : State) :
    (substCopy n why u).engine n = u.engine n := by
  rw [substCopy, State.engine_level, State.engine_level, State.engine_put_ne _ hn.symm]
  rfl

theorem substCopy_engine_16 (n : Nat) (why : SubReason) (u : State) :
    ((substCopy n why u).engine 16).tt = (u.engine n).tt ∧ ((substCopy n why u).engine 16).bind = (u.engine n).bind := by
  rw [substCopy, State.engine_level, State.engine_level, State.engine_put_self]
  exact ⟨rfl, rfl⟩

/-- The copy shows in its own condition, and ends SUBST_FAIL of the engine. -/
theorem substCopy_present (n : Nat) (why : SubReason) (u : State) :
    (substCopy n why u).present 20 n ∧ ¬ (substCopy n why u).present 21 n := by
  refine ⟨State.present_level_on .., ?_⟩
  rw [substCopy, State.present_level_ne _ (by simp)]
  exact State.not_present_level_off _ _ _ _

theorem substFail_fails (n : Nat) (s : State) : n ∈ (substFail n s).subst.failed ∧ (substFail n s).present 21 n ∧
    (substFail n s).subst.phase = s.subst.phase ∧ (substFail n s).subst.eng = s.subst.eng := by
  refine ⟨?_, State.present_level_on .., ?_, ?_⟩
  · rw [substFail, State.level_subst]
    dsimp only
    split
    · assumption
    · simp
  · rw [substFail, State.level_subst]
  · rw [substFail, State.level_subst]

/-- R99, R100: a forced request where E16 is armed. -/
theorem exec_substForce_copies {n : Fin 16} {s : State} (ho : s.hostOpen (Reg.ENG_SUBST_FORCE 16).addr)
    (hb : s.substBusy = false) (hs : s.serving = 31) (hn : s.substituted n = false) (hp : s.subst.phase = .idle)
    (he : s.rd (Reg.ENG_CTRL_ENABLE 16) ≠ 0) : ∃ t, exec (.substForce n) s = .next t ∧
      t.rd (Reg.ENG_SUBST_TARGET 16) = n ∧ t.rd (Reg.ENG_SUBST_REASON 16) = 5 ∧ t.subst.phase = .copying ∧ t.subst.eng = n ∧
      n.val ∉ t.subst.failed ∧ ¬ t.present 21 n ∧
      (t.engine n).stopped = true ∧ (t.engine n).lesson = none ∧ (t.engine 16).tt = (s.engine n).tt ∧
      (t.engine 16).bind = (s.engine n).bind ∧ t.present 20 n ∧ t.store = s.store := by
  have hcopy : substBegin n .force (substForced n s) = substCopy n .force (substForced n s) :=
    substBegin_eq_copy ((substForced_armed ..).trans (decide_eq_true he)) ((substForced_subst ..).symm ▸ hp)
  have hengine := substForced_engine_self n s
  have hstore := store_substForced hn
  refine ⟨_, exec_substForce_begins hn ho hb hs, rd_substTarget_forced hn, ?_⟩
  rw [hcopy] at hstore ⊢
  obtain ⟨hpresent, hnot⟩ := substCopy_present n .force (substForced n s)
  obtain ⟨htt, hbind⟩ := substCopy_engine_16 n .force (substForced n s)
  rw [hengine] at htt hbind
  rw [substCopy_subst, substCopy_engine_ne (by omega), hengine]
  exact ⟨substCopy_reason .., rfl, rfl, by simp, hnot, rfl, rfl, htt, hbind, hpresent, hstore⟩

/-- R103: a forced request where E16 is not armed. -/
theorem exec_substForce_fails {n : Fin 16} {s : State} (ho : s.hostOpen (Reg.ENG_SUBST_FORCE 16).addr)
    (hb : s.substBusy = false) (hs : s.serving = 31) (hn : s.substituted n = false)
    (he : s.rd (Reg.ENG_CTRL_ENABLE 16) = 0) : ∃ t, exec (.substForce n) s = .next t ∧
      n.val ∈ t.subst.failed ∧ t.subst.phase = s.subst.phase ∧ (t.engine n).stopped = true ∧ t.present 21 n ∧
      t.store = s.store := by
  have hfail : substBegin n .force (substForced n s) = substFail n (substForced n s) :=
    substBegin_eq_fail ((substForced_armed ..).trans (decide_eq_false (not_not.mpr he)))
  have hstore := store_substForced hn
  refine ⟨_, exec_substForce_begins hn ho hb hs, ?_⟩
  rw [hfail] at hstore ⊢
  obtain ⟨hmem, hpresent, hphase, -⟩ := substFail_fails n (substForced n s)
  refine ⟨hmem, hphase.trans (congrArg SubstSt.phase (substForced_subst ..)), ?_, hpresent, hstore⟩
  rw [substFail, State.engine_level]
  exact congrArg Eng.stopped (substForced_engine_self ..)

/-! ### The copy (R100, R102, R103) -/

/-- What is left where the copy of an engine fails: its condition ends, and SUBST_FAIL is present (R103). -/
theorem copyFail_frame (n : Nat) (u : State) :
    ∃ x c, substFail n (u.level 20 n false) = { u with subst := x, flt := c } := by
  obtain ⟨c, hlevel⟩ := State.level_frame u 20 n false 0
  obtain ⟨x, c', hfail⟩ := substFail_frame n (u.level 20 n false)
  exact ⟨x, c', by rw [hfail, hlevel]⟩

theorem copyFail_not_present (n : Nat) (u : State) : ¬ (substFail n (u.level 20 n false)).present 20 n := by
  rw [substFail, State.present_level_ne _ (by simp)]
  exact State.not_present_level_off u 20 n 0

/-- E16 idles without a timetable or bindings (R103). -/
def copyDropped (s : State) : State :=
  { s.putEngine 16 { s.engine 16 with tt := [], bind := [] } with subst := { s.subst with phase := .idle, eng := 31 } }

/-- R103: the copy of the engine into E16 has an uncorrectable error. -/
theorem exec_substReady_fails {s : State} (hp : s.subst.phase = .copying) : ∃ t, exec (.substReady false) s = .next t ∧
    t.subst.phase = .idle ∧ t.subst.eng = 31 ∧ s.subst.eng ∈ t.subst.failed ∧ (t.engine 16).tt = [] ∧
    ¬ t.present 20 s.subst.eng ∧ t.present 21 s.subst.eng ∧ t = { s with eng := t.eng, subst := t.subst, flt := t.flt } := by
  have hexec : exec (.substReady false) s =
      .next (substFail s.subst.eng ((copyDropped s).level 20 s.subst.eng false)) := if_neg (not_not.mpr hp)
  obtain ⟨hmem, hpresent, hphase, heng⟩ := substFail_fails s.subst.eng ((copyDropped s).level 20 s.subst.eng false)
  rw [State.level_subst] at hphase heng
  obtain ⟨x, c, hframe⟩ := copyFail_frame s.subst.eng (copyDropped s)
  refine ⟨_, hexec, hphase, heng, hmem, ?_, copyFail_not_present _ _, hpresent, ?_⟩
  · rw [hframe]
    exact congrArg Eng.tt (State.engine_put_self ..)
  · rw [hframe]
    rfl

/-- R100, R102: the copy of the engine into E16 has passed its check. -/
theorem exec_substReady_copied {s : State} (hp : s.subst.phase = .copying) : ∃ t, exec (.substReady true) s = .next t ∧
    t.subst = { s.subst with phase := .ready } ∧
    (t.engine 16).imem = tabOf 0xFFFFFFFF (s.section s.subst.eng).imem ∧
    (t.engine 16).dmem =
      (if s.subst.healthy then (s.engine s.subst.eng).dmem else tabOf 0 (s.section s.subst.eng).dmem) ∧
    (∀ m, m ≠ 16 → t.engine m = s.engine m) ∧ t = { s with eng := t.eng, subst := t.subst } :=
  ⟨_, if_neg (not_not.mpr hp), rfl, congrArg Eng.imem (State.engine_put_self ..),
    congrArg Eng.dmem (State.engine_put_self ..), fun _ hm => State.engine_put_ne _ hm.symm _, rfl⟩

/-! ### The return (R103) -/

/-- What RETURN is refused for. -/
def State.returnRefused (s : State) : Prop :=
  s.substBusy = true ∨ s.serving = 31 ∨ s.rd (Reg.ENG_ECC_UNC_I s.subst.eng) ≠ 0 ∨
    s.rd (Reg.ENG_ECC_UNC_D s.subst.eng) ≠ 0 ∨ maskBit s.clk.unpowered (3 + s.subst.eng) = true ∨
    s.engUnderTest s.subst.eng = true

theorem returnRefused_iff (s : State) : s.returnRefused ↔ (s.substBusy = true ∨ s.serving = 31 ∨
    s.bit (Reg.ENG_ECC_UNC_I s.subst.eng) = true ∨ s.bit (Reg.ENG_ECC_UNC_D s.subst.eng) = true ∨
    maskBit s.clk.unpowered (3 + s.subst.eng) = true ∨ s.engUnderTest s.subst.eng = true) := by
  simp only [State.returnRefused, State.bit_eq, decide_eq_true_eq]

theorem exec_substReturn_refused {s : State} (ho : s.hostOpen (Reg.ENG_SUBST_FORCE 16).addr) (h : s.returnRefused) :
    exec .substReturn s = .next s :=
  hostCmd_engine ho substReg_addr_lt (if_pos ((returnRefused_iff s).mp h))

/-- The engine of the substitution with its memories back: a healthy E16 hands it its data memory. -/
def State.takesBack (s : State) : Eng :=
  { (s.engine s.subst.eng).abandoned.dispatched 0 with
    imem := tabOf 0xFFFFFFFF (s.section s.subst.eng).imem
    dmem := if (s.engine 16).stopped then tabOf 0 (s.section s.subst.eng).dmem else (s.engine 16).dmem }

/-- The engine takes back its memories, and E16 halts. -/
def substReturned (s : State) : State :=
  { ((s.putEngine s.subst.eng s.takesBack).putEngine 16 (s.engine 16).halted).wr (Reg.ENG_SUBST_RETURN 16) 1 with
    subst := { s.subst with phase := .returning, healthy := !(s.engine 16).stopped, since := s.now } }

theorem exec_substReturn_accepted {s : State} (ho : s.hostOpen (Reg.ENG_SUBST_FORCE 16).addr) (h : ¬ s.returnRefused) :
    exec .substReturn s = .next (substReturned s) :=
  hostCmd_engine ho substReg_addr_lt (if_neg (mt (returnRefused_iff s).mpr h))

theorem substReturned_frame (s : State) : ∃ g e x, substReturned s = { s with regs := g, eng := e, subst := x } := by
  rw [substReturned, State.wr, State.putEngine, State.putEngine]
  exact ⟨_, _, _, rfl⟩

theorem substReturned_regs (s : State) : (substReturned s).regs = (s.wr (Reg.ENG_SUBST_RETURN 16) 1).regs := rfl

theorem substReturned_engine_16 (s : State) : (substReturned s).engine 16 = (s.engine 16).halted :=
  State.engine_put_self ..

theorem substReturned_engine {s : State} (hn : s.subst.eng ≠ 16) :
    (substReturned s).engine s.subst.eng = s.takesBack :=
  (State.engine_put_ne _ hn.symm _).trans (State.engine_put_self ..)

/-- E16 serving an engine is neither busy nor without one. -/
theorem serving_of_phase {s : State} (hp : s.subst.phase = .serving) : s.substBusy = false ∧ s.serving = s.subst.eng := by
  simp [State.substBusy, State.serving, hp]

/-- Settles O13: SUBST_FORCE requests, or is ignored; the copy is made or fails; SUBST_RETURN is accepted or refused. -/
theorem substitution : Obligations.substitution := by
  unfold Obligations.substitution
  intro n s
  refine ⟨exec_substForce_copies, exec_substForce_fails, fun ho h => ?ignored, exec_substReady_copied,
    exec_substReady_fails, fun ho hp hn hi hd hu ht => ?returned, exec_substReturn_refused⟩
  case ignored =>
    exact ⟨_, exec_substForce_ignored ho h, rd_substTarget_wr n s, rfl, s.regsBut_wr List.mem_cons_self _⟩
  case returned =>
    obtain ⟨hbusy, hserving⟩ := serving_of_phase hp
    have hmay : ¬ s.returnRefused := by
      simp [State.returnRefused, hbusy, hserving, hi, hd, hu, ht, show s.subst.eng ≠ 31 by omega]
    refine ⟨_, exec_substReturn_accepted ho hmay, rfl, ?_, ?_, ?_, ?_, ?_, ?_, ?_, ?frame⟩
    · rw [substReturned_engine (by omega)]; rfl
    · rw [substReturned_engine (by omega)]; rfl
    · rw [substReturned_engine_16]; rfl
    · rw [substReturned_engine_16]; rfl
    · rw [substReturned_engine_16]; rfl
    · exact (State.rd_congr (substReturned_regs s) _).trans (State.rd_wr_self ..)
    · exact (s.regsBut_wr List.mem_cons_self 1).trans (State.regsBut_of_regs_eq (substReturned_regs s) _)
    case frame =>
      obtain ⟨g, e, x, h⟩ := substReturned_frame s
      rw [h]

end Sys2Proof.Machine
end

section
/-! Loading an image: the request, the report, and what a good image leaves (O48). -/
namespace Sys2Proof.Machine

/-! ### The Standard Syllabus after a load (R139, R175, R185, R451) -/

/-- Only the lessons' memories differ between the states, and their thermistor coefficients do not. -/
def State.sylMoves (s t : State) : Prop := ∃ y, t = { s with syl := y } ∧ y.cal = s.syl.cal

theorem State.sylMoves_refl (s : State) : s.sylMoves s := ⟨_, rfl, rfl⟩

theorem State.sylMoves.trans {s t u : State} (h : s.sylMoves t) (h' : t.sylMoves u) : s.sylMoves u := by
  obtain ⟨y, rfl, hy⟩ := h
  obtain ⟨z, rfl, hz⟩ := h'
  exact ⟨z, rfl, hz.trans hy⟩

theorem State.sylMoves.jnl {s t : State} (h : s.sylMoves t) : t.jnl = s.jnl := by
  obtain ⟨y, rfl, -⟩ := h
  rfl

theorem State.sylMoves_putSylPath (s : State) (p : Nat) (x : SylPath) : s.sylMoves (s.putSylPath p x) := ⟨_, rfl, rfl⟩

theorem State.sylMoves_putSylSlot (s : State) (n : Nat) (x : SylSlot) : s.sylMoves (s.putSylSlot n x) := ⟨_, rfl, rfl⟩

theorem rollApply_sylMoves (c : Command) (s : State) : s.sylMoves (rollApply c s) := by
  unfold rollApply
  dsimp only
  split
  case h_5 => exact s.sylMoves_putSylSlot ..
  case h_6 => exact s.sylMoves_refl
  all_goals exact s.sylMoves_putSylPath ..

theorem loopApply_sylMoves (c : Command) (s : State) : s.sylMoves (loopApply c s) := by
  unfold loopApply
  dsimp only
  split
  case h_8 => exact s.sylMoves_refl
  all_goals exact s.sylMoves_putSylPath ..

@[simp] theorem State.sylPath_put_self (s : State) (p : Nat) (x : SylPath) : (s.putSylPath p x).sylPath p = x :=
  tabGet_set_self ..

theorem State.sylPath_put_ne (s : State) {p q : Nat} (h : p ≠ q) (x : SylPath) :
    (s.putSylPath p x).sylPath q = s.sylPath q := tabGet_set_ne _ _ h ..

/-- The settings of the image, from fresh memories with the thermistor coefficients of this load. -/
def settingsLoaded (x : ImageSet) (s : State) : State :=
  x.initial.foldl (fun s w =>
    if (Command.ofWord w.toNat).op < 0x10 then rollApply (Command.ofWord w.toNat) s
    else loopApply (Command.ofWord w.toNat) s) { s with syl := { cal := s.tempCal } }

theorem settingsLoaded_sylMoves (x : ImageSet) (s : State) :
    State.sylMoves { s with syl := { cal := s.tempCal } } (settingsLoaded x s) := by
  refine List.foldlRecOn (motive := State.sylMoves { s with syl := { cal := s.tempCal } }) _ _ (State.sylMoves_refl _)
    fun t ht w _ => ht.trans ?_
  split
  · exact rollApply_sylMoves ..
  · exact loopApply_sylMoves ..

/-- The policy of path `p` comes into use. -/
def policyUsed (p : Nat) (s : State) : State := s.putSylPath p { s.sylPath p with use := (s.sylPath p).pol }

/-- The latest model of path `p`: the record of the journal, or the copy of the commons where that is newer. -/
def State.latestModel (s : State) (old : Syllabus) (p : Nat) : Model :=
  match s.jnl.inForce 0x10 p with
  | some r => if r.data.length = 88 then
      (if (modelOf r.data).last < (tabGet {} p old.paths).model.last then (tabGet {} p old.paths).model else modelOf r.data)
      else (tabGet {} p old.paths).model
  | none => (tabGet {} p old.paths).model

/-- Path `p` takes its latest model. -/
def modelTaken (old : Syllabus) (p : Nat) (s : State) : State :=
  s.putSylPath p { s.sylPath p with model := s.latestModel old p }

theorem syllabusInit_eq (x : ImageSet) (s : State) :
    syllabusInit x s = forRange 8 (modelTaken s.syl) (forRange 8 policyUsed (settingsLoaded x s)) := rfl

theorem State.sylMoves_forRange {s : State} {f : Nat → State → State} (hf : ∀ i (t : State), t.sylMoves (f i t))
    (n : Nat) : s.sylMoves (forRange n f s) :=
  forRange_keeps s.sylMoves (fun i _ t ht => ht.trans (hf i t)) s.sylMoves_refl

theorem policyUsed_sylMoves (p : Nat) (s : State) : s.sylMoves (policyUsed p s) := s.sylMoves_putSylPath ..

theorem modelTaken_sylMoves (old : Syllabus) (p : Nat) (s : State) : s.sylMoves (modelTaken old p s) :=
  s.sylMoves_putSylPath ..

theorem policiesUsed_sylMoves (x : ImageSet) (s : State) :
    State.sylMoves { s with syl := { cal := s.tempCal } } (forRange 8 policyUsed (settingsLoaded x s)) :=
  (settingsLoaded_sylMoves x s).trans (State.sylMoves_forRange policyUsed_sylMoves 8)

theorem syllabusInit_sylMoves (x : ImageSet) (s : State) :
    State.sylMoves { s with syl := { cal := s.tempCal } } (syllabusInit x s) := by
  rw [syllabusInit_eq]
  exact (policiesUsed_sylMoves x s).trans (State.sylMoves_forRange (modelTaken_sylMoves s.syl) 8)

theorem policyUsed_use {p : Nat} (hp : p < 8) (s : State) :
    ((forRange 8 policyUsed s).sylPath p).use = ((forRange 8 policyUsed s).sylPath p).pol := by
  refine forRange_establishes (fun _ => True) (fun t => (t.sylPath p).use = (t.sylPath p).pol) hp (fun _ _ _ _ _ => trivial)
    (fun i _ hi t ht => ?other) (fun t _ => ?own) trivial
  case other => rw [policyUsed, t.sylPath_put_ne hi, ht]
  case own => rw [policyUsed, t.sylPath_put_self]

theorem modelTaken_use {old : Syllabus} {p : Nat} {s : State} (h : (s.sylPath p).use = (s.sylPath p).pol) :
    ((forRange 8 (modelTaken old) s).sylPath p).use = ((forRange 8 (modelTaken old) s).sylPath p).pol := by
  refine forRange_keeps (fun t => (t.sylPath p).use = (t.sylPath p).pol) (fun i _ t ht => ?_) h
  by_cases hi : i = p
  · subst hi; rw [modelTaken, t.sylPath_put_self]; exact ht
  · rw [modelTaken, t.sylPath_put_ne hi]; exact ht

/-- Without a record in the journal a path keeps the model of its copy in the commons. -/
theorem modelTaken_model {old : Syllabus} {p : Nat} (hp : p < 8) {s : State} (h : s.jnl.inForce 0x10 p = none) :
    ((forRange 8 (modelTaken old) s).sylPath p).model = (tabGet {} p old.paths).model := by
  refine forRange_establishes (fun t => t.jnl = s.jnl) (fun t => (t.sylPath p).model = (tabGet {} p old.paths).model) hp
    (fun i _ _ t ht => (modelTaken_sylMoves old i t).jnl.trans ht) (fun i _ hi t ht => ?other) (fun t ht => ?own) rfl
  case other => rw [modelTaken, t.sylPath_put_ne hi, ht]
  case own => rw [modelTaken, t.sylPath_put_self, State.latestModel, ht, h]

/-- What the lessons of the Standard Syllabus start from. -/
theorem syllabusInit_path (x : ImageSet) (s : State) {p : Nat} (hp : p < 8) :
    ((syllabusInit x s).sylPath p).use = ((syllabusInit x s).sylPath p).pol ∧
      (s.jnl.inForce 0x10 p = none → ((syllabusInit x s).sylPath p).model = (s.sylPath p).model) := by
  rw [syllabusInit_eq]
  refine ⟨modelTaken_use (policyUsed_use hp _), fun h => modelTaken_model hp ?_⟩
  rw [(policiesUsed_sylMoves x s).jnl]
  exact h

/-! ### The engines after a load (R95, R96) -/

theorem State.wrs_frame (s : State) (l : List (Fld × Nat)) : ∃ g, s.wrs l = { s with regs := g } := by
  induction l generalizing s with
  | nil => exact ⟨_, rfl⟩
  | cons p l ih =>
    obtain ⟨g, hg⟩ := ih (s.wr p.1 p.2)
    exact ⟨g, hg⟩

/-- The first field of a list that names it once takes its value. -/
theorem State.rd_wrs_cons_self (s : State) {f : Fld} (v : Nat) (l : List (Fld × Nat)) (h : ∀ p ∈ l, p.1.key ≠ f.key) :
    (s.wrs ((f, v) :: l)).rd f = v % 2 ^ f.width :=
  (State.rd_wrs_ne _ l h).trans (State.rd_wr_self ..)

/-- The engines' registers, and those behind them, are the only ones that differ. -/
def State.keepsBelowEngines (s t : State) : Prop := ∀ f : Fld, f.key < 32 * 0x7000 → t.rd f = s.rd f

/-- Engine `n` has its section of the image, and is not running. -/
structure State.hasSection (t : State) (x : ImageSet) (n : Nat) : Prop where
  imem : (t.engine n).imem = tabOf 0xFFFFFFFF (x.sections.getD n {}).imem
  bind : (t.engine n).bind = (x.sections.getD n {}).bind
  run : (t.engine n).run = false

/-- The UNC flags of engine `n` are clear. -/
def State.uncClear (t : State) (n : Nat) : Prop := t.rd (Reg.ENG_ECC_UNC_I n) = 0 ∧ t.rd (Reg.ENG_ECC_UNC_D n) = 0

theorem State.hasSection_of_engine_eq {s t : State} {x : ImageSet} {n : Nat} (h : s.hasSection x n)
    (he : t.engine n = s.engine n) : t.hasSection x n :=
  ⟨he ▸ h.imem, he ▸ h.bind, he ▸ h.run⟩

/-- Engine `n` with its section. -/
def sectionEngine (x : ImageSet) (n : Nat) (s : State) : Eng :=
  { (s.engine n).abandoned.dispatched 0 with
    imem := tabOf 0xFFFFFFFF (x.sections.getD n {}).imem
    dmem := tabOf 0 (x.sections.getD n {}).dmem
    tt := tabOf {} (x.sections.getD n {}).tt
    bind := (x.sections.getD n {}).bind
    stopped := maskBit s.clk.unpowered (3 + n)
    run := false
    strikes := [] }

theorem loadSection_eq (x : ImageSet) (n : Nat) (s : State) :
    loadSection x n s = (s.putEngine n (sectionEngine x n s)).wrs
      [(Reg.ENG_ECC_UNC_I n, 0), (Reg.ENG_ECC_UNC_D n, 0),
        (Reg.ENG_TT_SUM_WORST n, (sectionWorst (x.sections.getD n {})).1),
        (Reg.ENG_TT_INDEX_WORST_RES n, (sectionWorst (x.sections.getD n {})).2)] := rfl

theorem loadSection_frame (x : ImageSet) (n : Nat) (s : State) :
    ∃ g e, loadSection x n s = { s with regs := g, eng := e } := by
  rw [loadSection_eq]
  obtain ⟨g, hg⟩ := State.wrs_frame (s.putEngine n (sectionEngine x n s)) _
  exact ⟨g, _, hg⟩

theorem loadSection_hasSection (x : ImageSet) (n : Nat) (s : State) : (loadSection x n s).hasSection x n := by
  have h : (loadSection x n s).engine n = sectionEngine x n s := by
    rw [loadSection_eq, State.engine_wrs, State.engine_put_self]
  exact ⟨h ▸ rfl, h ▸ rfl, h ▸ rfl⟩

theorem loadSection_engine_ne (x : ImageSet) {n m : Nat} (h : n ≠ m) (s : State) :
    (loadSection x n s).engine m = s.engine m := by
  rw [loadSection_eq, State.engine_wrs, State.engine_put_ne _ h]

theorem loadSection_uncClear (x : ImageSet) (n : Nat) (s : State) : (loadSection x n s).uncClear n := by
  rw [loadSection_eq]
  constructor
  · exact State.rd_wrs_cons_self _ _ _ (by simp; omega)
  · rw [State.wrs_cons]
    exact State.rd_wrs_cons_self _ _ _ (by simp; omega)

theorem loadSection_uncClear_ne (x : ImageSet) {n m : Nat} (h : n ≠ m) {s : State} (hs : s.uncClear m) :
    (loadSection x n s).uncClear m := by
  obtain ⟨hi, hd⟩ := hs
  rw [loadSection_eq]
  constructor
  · rw [State.rd_wrs_ne _ _ (by simp; omega), State.rd_putEngine, hi]
  · rw [State.rd_wrs_ne _ _ (by simp; omega), State.rd_putEngine, hd]

theorem loadSection_keepsBelow (x : ImageSet) (n : Nat) (s : State) : s.keepsBelowEngines (loadSection x n s) := by
  intro f hf
  rw [loadSection_eq, State.rd_wrs_ne _ _ (by simp; omega), State.rd_putEngine]

/-- The sections of the image, into the engines that have one. -/
def sectionsLoaded (x : ImageSet) (s : State) : State := forRange 16 (loadSection x) s

theorem sectionsLoaded_frame (x : ImageSet) (s : State) :
    ∃ g e, sectionsLoaded x s = { s with regs := g, eng := e } := by
  refine forRange_keeps (fun t => ∃ g e, t = { s with regs := g, eng := e }) ?_ ⟨_, _, rfl⟩
  rintro n _ _ ⟨g, e, rfl⟩
  exact loadSection_frame x n { s with regs := g, eng := e }

theorem sectionsLoaded_keepsBelow (x : ImageSet) (s : State) : s.keepsBelowEngines (sectionsLoaded x s) :=
  forRange_keeps s.keepsBelowEngines
    (fun n _ t ht f hf => (loadSection_keepsBelow x n t f hf).trans (ht f hf)) fun _ _ => rfl

theorem sectionsLoaded_hasSection (x : ImageSet) (s : State) {n : Nat} (hn : n < 16) :
    (sectionsLoaded x s).hasSection x n :=
  forRange_establishes (fun _ => True) (fun t => t.hasSection x n) hn (fun _ _ _ _ _ => trivial)
    (fun _ _ hi t ht => State.hasSection_of_engine_eq ht (loadSection_engine_ne x hi t))
    (fun t _ => loadSection_hasSection x n t) trivial

theorem sectionsLoaded_uncClear (x : ImageSet) (s : State) {n : Nat} (hn : n < 16) : (sectionsLoaded x s).uncClear n :=
  forRange_establishes (fun _ => True) (fun t => t.uncClear n) hn (fun _ _ _ _ _ => trivial)
    (fun _ _ hi _ ht => loadSection_uncClear_ne x hi ht) (fun t _ => loadSection_uncClear x n t) trivial

/-- What a load leaves in the staged copies (R96). -/
def imageStaged (b : Nat) (x : ImageSet) (s : State) : State :=
  { s with image := { sections := tabOf {} ((List.range 16).map (fun n => (n, x.sections.getD n {})))
                      period := s.imagePeriod b
                      standard := x.standard } }

/-- E16 after a load: it has no section. -/
def spareCleared (s : State) : State :=
  (s.putEngine 16 { s.engine 16 with tt := [], bind := [], strikes := [], stopped := false, lesson := none, due := [] }).wrs
    [(Reg.ENG_ECC_UNC_I 16, 0), (Reg.ENG_ECC_UNC_D 16, 0)]

/-- The staged copies and the engines after a load, before its substitutions end. -/
def enginesLoaded (b : Nat) (x : ImageSet) (s : State) : State := spareCleared (sectionsLoaded x (imageStaged b x s))

theorem spareCleared_frame (s : State) : ∃ g e, spareCleared s = { s with regs := g, eng := e } := by
  obtain ⟨g, hg⟩ := State.wrs_frame (s.putEngine 16 { s.engine 16 with
    tt := [], bind := [], strikes := [], stopped := false, lesson := none, due := [] }) _
  exact ⟨g, _, hg⟩

theorem enginesLoaded_frame (b : Nat) (x : ImageSet) (s : State) :
    ∃ g e, enginesLoaded b x s = { imageStaged b x s with regs := g, eng := e } := by
  obtain ⟨g, e, h⟩ := sectionsLoaded_frame x (imageStaged b x s)
  obtain ⟨g', e', h'⟩ := spareCleared_frame (sectionsLoaded x (imageStaged b x s))
  exact ⟨g', e', by rw [enginesLoaded, h', h]⟩

theorem enginesLoaded_keepsBelow (b : Nat) (x : ImageSet) (s : State) : s.keepsBelowEngines (enginesLoaded b x s) := by
  intro f hf
  rw [enginesLoaded, spareCleared, State.rd_wrs_ne _ _ (by simp; omega), State.rd_putEngine, sectionsLoaded_keepsBelow x _ f hf]
  rfl

theorem enginesLoaded_hasSection (b : Nat) (x : ImageSet) (s : State) {n : Nat} (hn : n < 16) :
    (enginesLoaded b x s).hasSection x n := by
  refine State.hasSection_of_engine_eq (sectionsLoaded_hasSection x (imageStaged b x s) hn) ?_
  rw [enginesLoaded, spareCleared, State.engine_wrs, State.engine_put_ne _ (by omega)]

theorem enginesLoaded_uncClear (b : Nat) (x : ImageSet) (s : State) {n : Nat} (hn : n < 17) :
    (enginesLoaded b x s).uncClear n := by
  rw [enginesLoaded, spareCleared]
  by_cases h : n = 16
  case pos =>
    subst h
    refine ⟨State.rd_wrs_cons_self _ _ _ (by simp), ?_⟩
    rw [State.wrs_cons]
    exact State.rd_wrs_cons_self _ _ _ (by simp)
  case neg =>
    obtain ⟨hi, hd⟩ := sectionsLoaded_uncClear x (imageStaged b x s) (n := n) (by omega)
    constructor
    · rw [State.rd_wrs_ne _ _ (by simp; omega), State.rd_putEngine, hi]
    · rw [State.rd_wrs_ne _ _ (by simp; omega), State.rd_putEngine, hd]

/-! ### What else a load ends and begins (R95, R432) -/

/-- Setting the level of one source over a list of engines changes nothing but what the fault collector sees. -/
theorem foldl_level_frame (ev : Nat) (on : Nat → Bool) (l : List Nat) (s : State) :
    ∃ c, l.foldl (fun s n => s.level ev n (on n)) s = { s with flt := c } := by
  induction l generalizing s with
  | nil => exact ⟨_, rfl⟩
  | cons n l ih =>
    obtain ⟨c, hc⟩ := s.level_frame ev n (on n) 0
    obtain ⟨c', hc'⟩ := ih (s.level ev n (on n))
    exact ⟨c', by rw [List.foldl_cons, hc', hc]⟩

/-- A load leaves no substitution, whatever of it remains to be held. -/
theorem loadEndsSubst_frame (s : State) : ∃ l c, loadEndsSubst s = { s with subst := { failed := l }, flt := c } := by
  unfold loadEndsSubst
  dsimp only
  generalize List.filter _ _ = keep
  obtain ⟨c, hc⟩ := foldl_level_frame 21 keep.contains
    ((if s.subst.phase = .idle then [] else [s.subst.eng]) ++ s.subst.failed)
    (if s.subst.phase = .idle then { s with subst := { failed := keep } }
      else { s with subst := { failed := keep } }.level 20 s.subst.eng false)
  refine ⟨keep, c, hc.trans ?_⟩
  split
  · rfl
  · obtain ⟨c', hc'⟩ := State.level_frame ({ s with subst := { failed := keep } } : State) 20 s.subst.eng false 0
    rw [hc']

theorem loadWrite_eq (b : Nat) (x : ImageSet) (s : State) : loadWrite b x s =
    if x.standard then syllabusInit x (loadEndsSubst (enginesLoaded b x s)) else loadEndsSubst (enginesLoaded b x s) := rfl

/-- A load in terms of its engines: beside them it ends the substitutions, and the lessons' memories start afresh where the
set is the Standard Syllabus. -/
theorem loadWrite_frame (b : Nat) (x : ImageSet) (s : State) : ∃ l c y,
    loadWrite b x s = { enginesLoaded b x s with subst := { failed := l }, flt := c, syl := y } ∧
      (x.standard = false → y = s.syl) ∧ (x.standard = true → y.cal = s.tempCal) := by
  obtain ⟨l, c, hends⟩ := loadEndsSubst_frame (enginesLoaded b x s)
  obtain ⟨g, e, hengines⟩ := enginesLoaded_frame b x s
  rw [loadWrite_eq]
  cases hx : x.standard
  case false =>
    refine ⟨l, c, s.syl, ?_, fun _ => rfl, nofun⟩
    rw [if_neg Bool.false_ne_true, hends, hengines]
    rfl
  case true =>
    obtain ⟨y, hy, hcal⟩ := syllabusInit_sylMoves x (loadEndsSubst (enginesLoaded b x s))
    refine ⟨l, c, y, ?_, nofun, fun _ => hcal.trans ?_⟩
    · rw [if_pos rfl, hy, hends]
    · rw [hends, hengines]
      rfl

theorem loadWrite_path (b : Nat) {x : ImageSet} (hx : x.standard = true) (s : State) {p : Nat} (hp : p < 8) :
    ((loadWrite b x s).sylPath p).use = ((loadWrite b x s).sylPath p).pol ∧
      (s.jnl.inForce 0x10 p = none → ((loadWrite b x s).sylPath p).model = (s.sylPath p).model) := by
  obtain ⟨l, c, hends⟩ := loadEndsSubst_frame (enginesLoaded b x s)
  obtain ⟨g, e, hengines⟩ := enginesLoaded_frame b x s
  obtain ⟨huse, hmodel⟩ := syllabusInit_path x (loadEndsSubst (enginesLoaded b x s)) hp
  rw [loadWrite_eq, if_pos hx]
  refine ⟨huse, fun h => (hmodel ?_).trans ?_⟩
  · rw [hends, hengines]
    exact h
  · rw [hends, hengines]
    rfl

theorem loadWrite_rd (b : Nat) (x : ImageSet) (s : State) (f : Fld) :
    (loadWrite b x s).rd f = (enginesLoaded b x s).rd f := by
  obtain ⟨l, c, y, h, -⟩ := loadWrite_frame b x s
  rw [h, State.rd_upd]

theorem loadWrite_keepsBelow (b : Nat) (x : ImageSet) (s : State) : s.keepsBelowEngines (loadWrite b x s) :=
  fun f hf => (loadWrite_rd b x s f).trans (enginesLoaded_keepsBelow b x s f hf)

theorem loadWrite_uncClear (b : Nat) (x : ImageSet) (s : State) {n : Nat} (hn : n < 17) : (loadWrite b x s).uncClear n := by
  obtain ⟨hi, hd⟩ := enginesLoaded_uncClear b x s hn
  exact ⟨(loadWrite_rd ..).trans hi, (loadWrite_rd ..).trans hd⟩

theorem loadWrite_hasSection (b : Nat) (x : ImageSet) (s : State) {n : Nat} (hn : n < 16) :
    (loadWrite b x s).hasSection x n := by
  refine State.hasSection_of_engine_eq (enginesLoaded_hasSection b x s hn) ?_
  obtain ⟨l, c, y, h, -⟩ := loadWrite_frame b x s
  rw [h, State.engine_upd]

/-! ### The report of a load (R95, R98, R460, R461) -/

/-- The fields that report a load. -/
def loadRegs : List Fld := [Reg.DEV_LOAD_CMD_LOAD, Reg.DEV_LOAD_STATUS_RESULT, Reg.DEV_LOAD_STATUS_ENGINE,
  Reg.SEC_BOOT_STATUS_DETAIL, Reg.SEC_BOOT_STATUS_FIRST_RESULT, Reg.SEC_BOOT_STATUS_SLOT_USED]

/-- The report of what the loader found. -/
def State.reported (s : State) (a b : ImageSet) : State :=
  loadReport (s.loadTries a b).1 (s.loadTries a b).2.1 (s.loadTries a b).2.2 s

theorem State.reported_regsBut (s : State) (a b : ImageSet) : s.regsBut loadRegs (s.reported a b) :=
  s.regsBut_wrs _ (by simp [loadRegs])

theorem State.reported_frame (s : State) (a b : ImageSet) : ∃ g, s.reported a b = { s with regs := g } := s.wrs_frame _

/-- LOAD is 0, and RESULT and SLOT_USED show what the loader found. -/
theorem State.reported_rd (s : State) (a b : ImageSet) :
    (s.reported a b).rd Reg.DEV_LOAD_CMD_LOAD = 0 ∧
      (s.reported a b).rd Reg.DEV_LOAD_STATUS_RESULT = (s.loadTries a b).2.1.1 % 2 ^ Reg.DEV_LOAD_STATUS_RESULT.width ∧
      (s.reported a b).rd Reg.SEC_BOOT_STATUS_SLOT_USED =
        (s.loadTries a b).1 % 2 ^ Reg.SEC_BOOT_STATUS_SLOT_USED.width := by
  simp [State.reported, loadReport]

theorem rollbackAdvance_frame (v : Nat) (s : State) : ∃ f, rollbackAdvance v s = { s with fuses := f } := by
  unfold rollbackAdvance
  split
  · exact ⟨_, rfl⟩
  · exact ⟨_, rfl⟩

theorem exec_loadComplete_idle {a b : ImageSet} {s : State} (h : s.rd Reg.DEV_LOAD_CMD_LOAD = 0) :
    exec (.loadComplete a b) s = .next s := if_pos (by simp [State.bit_eq, h])

theorem exec_loadComplete_failed {a b : ImageSet} {s : State} (h : s.rd Reg.DEV_LOAD_CMD_LOAD ≠ 0)
    (hr : (s.loadTries a b).2.1.1 ≠ 1) :
    exec (.loadComplete a b) s = .next ((s.reported a b).raise 13 noInst (s.loadTries a b).2.1.1) :=
  (if_neg (by simp [State.bit_eq, h])).trans (if_pos hr)

/-- The state from which a good load writes: reported, and with its rollback number advanced where the host asks for it. -/
def State.advanced (s : State) (a b : ImageSet) : State :=
  rollbackAdvance ((s.reported a b).imageVersion (s.loadTries a b).1) (s.reported a b)

theorem exec_loadComplete_good {a b : ImageSet} {s : State} (h : s.rd Reg.DEV_LOAD_CMD_LOAD ≠ 0)
    (hr : (s.loadTries a b).2.1.1 = 1) : exec (.loadComplete a b) s =
      .next ((loadWrite (s.loadTries a b).1 (if (s.loadTries a b).1 = 0 then a else b) (s.advanced a b)).raise 103 noInst) :=
  (if_neg (by simp [State.bit_eq, h])).trans (if_neg (not_not.mpr hr))

theorem State.advanced_frame (s : State) (a b : ImageSet) : ∃ g f, s.advanced a b = { s with regs := g, fuses := f } := by
  obtain ⟨f, hf⟩ := rollbackAdvance_frame ((s.reported a b).imageVersion (s.loadTries a b).1) (s.reported a b)
  obtain ⟨g, hg⟩ := s.reported_frame a b
  exact ⟨g, f, by rw [State.advanced, hf, hg]⟩

theorem State.rd_advanced (s : State) (a b : ImageSet) (f : Fld) : (s.advanced a b).rd f = (s.reported a b).rd f := by
  obtain ⟨x, hx⟩ := rollbackAdvance_frame ((s.reported a b).imageVersion (s.loadTries a b).1) (s.reported a b)
  rw [State.advanced, hx, State.rd_upd]

/-- R95, R96, R461: a good load. -/
theorem loadWrite_good {k : Nat} {x : ImageSet} {s u : State} (hu : ∃ g f, u = { s with regs := g, fuses := f }) :
    (loadWrite k x u).image.standard = x.standard ∧ (loadWrite k x u).image.period = s.imagePeriod k ∧
      (loadWrite k x u).subst.phase = .idle ∧
      (x.standard = false → (loadWrite k x u).syl = s.syl) ∧
      (x.standard = true → (loadWrite k x u).syl.cal = s.tempCal ∧
        ∀ p < 8, ((loadWrite k x u).sylPath p).use = ((loadWrite k x u).sylPath p).pol ∧
          (s.jnl.inForce 0x10 p = none → ((loadWrite k x u).sylPath p).model = (s.sylPath p).model)) ∧
      ∃ g c e i z y f, loadWrite k x u =
        { s with regs := g, flt := c, eng := e, image := i, subst := z, syl := y, fuses := f } := by
  obtain ⟨l, c, y, hwrite, hkept, hcal⟩ := loadWrite_frame k x u
  obtain ⟨g, e, hengines⟩ := enginesLoaded_frame k x u
  have hpath := fun hx p hp => loadWrite_path k (x := x) hx u (p := p) hp
  rw [hwrite, hengines] at hpath ⊢
  obtain ⟨g', f, rfl⟩ := hu
  exact ⟨rfl, rfl, rfl, hkept, fun hx => ⟨hcal hx, hpath hx⟩, _, _, _, _, _, _, _, rfl⟩

/-- Settles O48: the request is refused or shown; the loader reports what it found, and writes where it is good. -/
theorem imageLoad : Obligations.image_load := by
  unfold Obligations.image_load
  intro a b s
  refine ⟨fun ho => ⟨fun hr => ?refused, fun hr => ?shown⟩, exec_loadComplete_idle, fun hl hr => ?failed,
    fun hl hr => ?good⟩
  case refused =>
    refine ⟨_, hostCmd_engine ho (by decide) (congrArg Host.Outcome.next (if_pos hr)), ?_, ?_, ?_, ?_, ?_⟩
    · simp
    · simp
    · rfl
    · exact s.regsBut_wrs [(Reg.DEV_LOAD_CMD_LOAD, 0), (Reg.DEV_LOAD_STATUS_RESULT, 7)] (by simp)
    · rfl
  case shown =>
    exact ⟨_, hostCmd_engine ho (by decide) (congrArg Host.Outcome.next (if_neg (by simp [hr]))), State.rd_wr_self .., rfl,
      s.regsBut_wr List.mem_cons_self _⟩
  case failed =>
    obtain ⟨hload, hresult, hused⟩ := s.reported_rd a b
    have hregs := s.reported_regsBut a b
    refine ⟨_, exec_loadComplete_failed hl hr, ?_⟩
    obtain ⟨g, hg⟩ := s.reported_frame a b
    rw [hg] at hload hresult hused hregs ⊢
    exact ⟨hload, hresult, hused, rfl, hregs, rfl⟩
  case good =>
    obtain ⟨hload, hresult, -⟩ := s.reported_rd a b
    have hexec := exec_loadComplete_good hl hr
    generalize (if (s.loadTries a b).1 = 0 then a else b) = x at hexec ⊢
    generalize (s.loadTries a b).1 = k at hexec ⊢
    obtain ⟨hstandard, hperiod, hphase, hkept, hfresh, g, c, e, i, z, y, f, hframe⟩ :=
      loadWrite_good (k := k) (x := x) (s.advanced_frame a b)
    have hbelow := loadWrite_keepsBelow k x (s.advanced a b)
    have hsection := fun n => loadWrite_hasSection k x (s.advanced a b) (n := n)
    have hunc := fun n => loadWrite_uncClear k x (s.advanced a b) (n := n)
    refine ⟨_, hexec, ?_⟩
    generalize loadWrite k x (s.advanced a b) = t at *
    refine ⟨?load, ?result, hstandard, hperiod, ?sections, hunc, hphase, ?notice, hkept, hfresh, ?frame⟩
    case load => rw [State.rd_raise, hbelow _ (by simp), State.rd_advanced, hload]
    case result => rw [State.rd_raise, hbelow _ (by simp), State.rd_advanced, hresult, hr]; rfl
    case sections => exact fun n hn => ⟨(hsection n hn).imem, (hsection n hn).bind, (hsection n hn).run⟩
    case notice => exact List.mem_append_right _ List.mem_cons_self
    case frame => rw [hframe]; rfl

end Sys2Proof.Machine
end

section
/-! The learning of a holdover model (O38): a fit with the temperature fixed puts C1 and C2 behind the parameters it updates, and
under a matrix of one row it updates one parameter only. -/
namespace Sys2Proof.Machine

/-- A whole number over 1 rounds to itself. -/
theorem roundNearest_intCast (x : Int) : roundNearest (x : Rat).num (x : Rat).den = x := by
  simp [roundNearest]

/-- With the temperature fixed, a fit whose matrix has one row takes C2 for C1: it updates y0 alone, and the place of D is not
kept. -/
theorem fit_one_row_c1 {m : Model} {row : List Rat} (h : m.cov = [row]) (b : Nat) (y : Int) (n : Nat) (t : Int) (ns : Nat) :
    (m.fit b y n t ns true).c1 = m.c2 := by
  simp only [Model.fit, h]
  exact roundNearest_intCast m.c2

/-- The accepted temperatures of path `p` once the mean of the second that has passed has joined them: those of the last TAU hours
(R183). -/
def State.tempsKept (s : State) (p : Nat) : List (Nat × Int) :=
  let x := s.sylPath p
  (x.model.temps ++ [(s.bell.number, roundDiv x.secT x.secN)]).filter
    (fun k => decide (s.bell.number ≤ k.1 + x.model.tau * 3600 * 10 ^ 9 / max 1 s.bellNs))

/-- A second of bells has passed, every bell of it good, and the model learns: where the temperatures kept spread less than 0.5
degrees, the sample enters the fit with its temperature fixed (R181, R183). -/
theorem exec_learningSample_steady {p : Fin 8} {s : State} (hrun : s.sylRuns 11 = true)
    (hsec : 1000000000 ≤ ((s.sylPath p).secN + 1) * s.bellNs) (hlearn : (s.sylPath p).model.learn = true)
    (hok : (s.sylPath p).secOk = true) (hn : (s.sylPath p).secN ≠ 0) (hsteady : tempSpread (s.tempsKept p) < 64) :
    ∃ t, exec (.learningSample p) s = .next t ∧
      (t.sylPath p).model.c1 = ((s.sylPath p).model.fit s.bell.number (s.sylPath p).secY (s.sylPath p).secN
        (roundDiv (s.sylPath p).secT (s.sylPath p).secN) s.bellNs true).c1 := by
  refine ⟨_, congrArg Host.Outcome.next ((if_neg ?_).trans (if_neg ?_)), ?_⟩
  · simp [hrun, hsec]
  · simp [hlearn, hok, hn]
  · rw [State.sylPath_put_self, ← decide_eq_true hsteady]
    rfl

/-- A path one bell short of a good second, whose model learns and has a matrix of one row, C1 = 0 and C2 = 1. -/
def shortMatrixPath : SylPath := { secN := 999999, model := { c2 := 1, cov := [[]] } }

/-- E11 runs the Standard Syllabus, and path 0 is `shortMatrixPath`. -/
def shortMatrixState : State :=
  { image := { standard := true }, eng := [(11, { run := true })], syl := { paths := [(0, shortMatrixPath)] } }

/-- Refutes O38 in the clause on C1 and C2: `State` allows a model whose matrix has one row, though R183 leaves it four, and of
such a model the sample of a second with a steady temperature puts C2 = 1 in the place of C1 = 0. -/
theorem not_pathLessons : ¬ Obligations.path_lessons := by
  unfold Obligations.path_lessons
  intro h
  obtain ⟨-, -, -, -, -, -, -, -, -, -, -, -, -, -, -, hsample, -⟩ := h 0 0 shortMatrixState
  have hrun : shortMatrixState.sylRuns 11 = true := by decide
  have hsteady : tempSpread (shortMatrixState.tempsKept (0 : Fin 8)) < 64 := by decide
  obtain ⟨t, ht, -, -, -, -, -, -, hfixed, -⟩ := hsample ⟨hrun, by decide⟩ (by decide)
  obtain ⟨u, hu, hfit⟩ := exec_learningSample_steady hrun (by decide) (by decide) (by decide) (by decide) hsteady
  obtain rfl : t = u := Host.Outcome.next.inj (ht.symm.trans hu)
  obtain ⟨hkept, -⟩ := hfixed hsteady
  have hswapped := hfit.trans (fit_one_row_c1 (row := []) rfl ..)
  exact absurd (hswapped.symm.trans hkept) (by decide)

end Sys2Proof.Machine
end

section
/-! SUPPORT for the slots: fields put together, a host write at a slot's register, and what a change of a gate and the forgetting
leave. -/
namespace Sys2Proof.Machine

/-! ### Fields put together -/

/-- A one-bit field that takes a truth value reads 1 where it holds. -/
theorem toNat_mod_two_eq_one_iff (b : Bool) : b.toNat % 2 ^ 1 = 1 ↔ b = true := by cases b <;> decide

/-- Each of the fields put together reads what was put there, cut to its width. -/
theorem State.rd_wrs_mem (s : State) {l : List (Fld × Nat)} (hl : (l.map (fun p => p.1.key)).Nodup) {f : Fld} {v : Nat}
    (hf : (f, v) ∈ l) : (s.wrs l).rd f = v % 2 ^ f.width := by
  induction l generalizing s with
  | nil => cases hf
  | cons p l ih =>
    obtain ⟨hp, hl⟩ := List.nodup_cons.mp hl
    rcases List.mem_cons.mp hf with rfl | hf
    · exact s.rd_wrs_cons_self v l fun q hq hk => hp (List.mem_map.mpr ⟨q, hq, hk⟩)
    · exact ih (s.wr p.1 p.2) hl hf

/-! ### Host writes at a slot (R406) -/

/-- What follows configuration shows in the collector alone (R382). -/
theorem outErrs_frame (s : State) : ∃ c, outErrs s = { s with flt := c } := by
  refine forRange_keeps (fun t => ∃ c, t = { s with flt := c }) ?_ ⟨_, rfl⟩
  rintro o _ _ ⟨c, rfl⟩
  obtain ⟨c', hc⟩ := State.level_frame { s with flt := c } 28 o
    (State.freqErr { s with flt := c } o || State.pulseErr { s with flt := c } o) 0
  exact ⟨c', hc⟩

theorem followConfig_frame (a : Nat) (s : State) : ∃ c, followConfig a s = { s with flt := c } := by
  unfold followConfig
  split
  · exact outErrs_frame s
  · exact ⟨_, rfl⟩

/-- A host write that reaches its register, with an effect that leaves the mismatches, has that effect and what follows it in the
collector. -/
theorem hostCmd_follows {a : Nat} {f : State → Out} {s t : State} (h : s.hostOpen a) (hf : f s = .next t)
    (hp : t.parity = s.parity) (hh : t.host = s.host) : ∃ c, hostCmd a f s = .next { t with flt := c } := by
  obtain ⟨halive, hreach, hclean⟩ := h
  have ht : t.mismatched a = false := by rw [State.mismatched, hp, hh]; exact hclean
  have hout : withWrite a f s = .next (followConfig a t) := by
    unfold withWrite
    cases slotAddr a <;> simp [parityClear_clean, hclean, ht, hf]
  obtain ⟨c, hc⟩ := followConfig_frame a t
  refine ⟨c, ?_⟩
  simp only [hostCmd, halive, hreach, Bool.not_true, Bool.false_eq_true, if_false, if_true, hout, hc]

/-! ### A slot's record (R113, R120) -/

/-- Nothing has changed but the record of slot `n`. -/
def State.onlySlot (s : State) (n : Nat) (t : State) : Prop :=
  t = { s with slots := t.slots } ∧ ∀ k, k ≠ n → t.slot k = s.slot k

theorem State.onlySlot_putSlot (s : State) (n : Nat) (x : SlotSt) : s.onlySlot n (s.putSlot n x) :=
  ⟨rfl, fun _ hk => s.slot_put_ne hk.symm x⟩

theorem State.onlySlot.trans {s t u : State} {n : Nat} (h : s.onlySlot n t) (h' : t.onlySlot n u) : s.onlySlot n u := by
  obtain ⟨hst, ht⟩ := h
  obtain ⟨htu, hu⟩ := h'
  refine ⟨?_, fun k hk => (hu k hk).trans (ht k hk)⟩
  rw [hst] at htu
  exact htu

theorem State.onlySlot.rd {s t : State} {n : Nat} (h : s.onlySlot n t) (f : Fld) : t.rd f = s.rd f := by rw [h.1]; rfl

theorem onGate_onlySlot (n : Nat) (t : Int) (f : GateRec → GateRec) (s : State) : s.onlySlot n (onGate n t f s) := by
  unfold onGate
  dsimp only
  split
  · exact s.onlySlot_putSlot ..
  · exact s.onlySlot_putSlot ..

theorem onGate_slot_active (n : Nat) (t : Int) (f : GateRec → GateRec) (s : State) :
    ((onGate n t f s).slot n).active = (s.slot n).active := by
  unfold onGate
  dsimp only
  split
  · rw [State.slot_put_self]
  · rw [State.slot_put_self]

/-- Slot `n` is not active, and its gate in progress gives no reading (R113). -/
def slotIdled (n : Nat) (s : State) : State :=
  onGate n s.tb (fun g => { g with void := true }) (s.putSlot n { s.slot n with active := false })

theorem slotIdled_onlySlot (n : Nat) (s : State) : s.onlySlot n (slotIdled n s) :=
  (s.onlySlot_putSlot ..).trans (onGate_onlySlot ..)

theorem slotIdled_active (n : Nat) (s : State) : ((slotIdled n s).slot n).active = false := by
  rw [slotIdled, onGate_slot_active, State.slot_put_self]

theorem slotForget_eq (n : Nat) (s : State) : slotForget n s = (slotIdled n s).putSlot n { (slotIdled n s).slot n with
    pre := 0, idle := (slotIdled n s).up, edges := [], lastT := none, lastOk := true, phi := 0, raw := 0, hist := [], rise := none
    irig := { ((slotIdled n s).slot n).irig with p := false, elems := [], frame := none } } := rfl

theorem slotForget_onlySlot (n : Nat) (s : State) : s.onlySlot n (slotForget n s) := by
  rw [slotForget_eq]
  exact (slotIdled_onlySlot n s).trans (State.onlySlot_putSlot ..)

/-- Slot `n` has forgotten its last edge and its prescaler's count, and no other slot has changed (R113). -/
def State.slotForgets (s : State) (n : Nat) (t : State) : Prop :=
  (t.slot n).active = false ∧ (t.slot n).lastT = none ∧ (t.slot n).hist = [] ∧ (t.slot n).phi = 0 ∧ (t.slot n).pre = 0 ∧
    (t.slot n).idle = s.up ∧ ∀ k, k ≠ n → t.slot k = s.slot k

theorem slotForget_forgets (n : Nat) (s : State) : s.slotForgets n (slotForget n s) := by
  refine ⟨?active, ?_, ?_, ?_, ?_, ?idle, (slotForget_onlySlot n s).2⟩ <;> rw [slotForget_eq, State.slot_put_self]
  case active => exact slotIdled_active n s
  case idle => rw [(slotIdled_onlySlot n s).1]

end Sys2Proof.Machine
end

section
/-! The host commands of a slot, the end of ACTIVE, and the end of a frequency gate (O18). -/
namespace Sys2Proof.Machine

/-! ### Writes of CFG, NOM_FREQ and PRESCALE (R110, R113, R136) -/

/-- A write at a slot that leaves `w` of its registers and records leaves no more, but for what the collector sees. -/
theorem exec_slotCfgWrite {n : Fin 24} {reg : Fin 3} {data : BitVec 32} {s w : State}
    (ho : s.hostOpen (0x10000 + 4 * reg.val + 0x100 * n)) (hw : doSlotCfgWrite n reg data s = .next w)
    (hs : w = { s with regs := w.regs, slots := w.slots }) :
    ∃ c, exec (.slotCfgWrite n reg data) s = .next { s with regs := w.regs, slots := w.slots, flt := c } := by
  have haddr : (Reg.SLOT_CFG_PATH n).addr + 4 * reg.val = 0x10000 + 4 * reg.val + 0x100 * n := Nat.add_right_comm ..
  obtain ⟨c, hc⟩ := hostCmd_follows (haddr ▸ ho) hw (by rw [hs]) (by rw [hs])
  rw [hs] at hc
  exact ⟨c, hc⟩

/-- A write that puts the fields of `u` and makes slot `n` forget. -/
theorem exec_slotCfgWrite_forgets {n : Fin 24} {reg : Fin 3} {data : BitVec 32} {s u : State}
    (ho : s.hostOpen (0x10000 + 4 * reg.val + 0x100 * n)) (hu : doSlotCfgWrite n reg data s = .next (slotForget n u))
    (hs : u = { s with regs := u.regs, slots := u.slots }) (hother : ∀ k, k ≠ n.val → u.slot k = s.slot k) :
    ∃ t, exec (.slotCfgWrite n reg data) s = .next t ∧ s.slotForgets n t ∧ (∀ f, t.rd f = u.rd f) ∧
      t = { s with regs := t.regs, slots := t.slots, flt := t.flt } := by
  obtain ⟨hactive, hlast, hhist, hphi, hpre, hidle, hkept⟩ := slotForget_forgets n u
  have hup : u.up = s.up := by rw [hs]
  have hrd := (slotForget_onlySlot n u).rd
  have hframe : slotForget n u = { s with regs := (slotForget n u).regs, slots := (slotForget n u).slots } := by
    rw [(slotForget_onlySlot n u).1, hs]
  generalize slotForget n u = w at *
  obtain ⟨c, hc⟩ := exec_slotCfgWrite ho hu hframe
  exact ⟨_, hc, ⟨hactive, hlast, hhist, hphi, hpre, hidle.trans hup, fun k hk => (hkept k hk).trans (hother k hk)⟩, hrd, rfl⟩

/-- The fields of CFG that slot `n` has, with what a write of `v` puts there. -/
def slotCfgWrites (n v : Nat) : List (Fld × Nat) :=
  [(Reg.SLOT_CFG_PATH n, v / 2 ^ 29), (Reg.SLOT_CFG_PPS n, v / 2 ^ 28), (Reg.SLOT_CFG_POL n, v / 2 ^ 27)] ++
    (if n < 16 then
      [(Reg.SLOT_CFG_TERM n, v / 2 ^ 25), (Reg.SLOT_CFG_HYST n, v / 2 ^ 24), (Reg.SLOT_CFG_INPUT n, v / 2 ^ 22)] else []) ++
    (if n < 4 then [(Reg.SLOT_CFG_IRIG n, v / 2 ^ 21)] else [])

theorem slotCfgWrites_keys (n v : Nat) : ((slotCfgWrites n v).map (fun p => p.1.key)).Nodup := by
  unfold slotCfgWrites
  split_ifs <;> simp

theorem slotCfgWrites_fields (n v : Nat) : ∀ p ∈ slotCfgWrites n v, p.1 ∈
    [Reg.SLOT_CFG_PATH n, Reg.SLOT_CFG_PPS n, Reg.SLOT_CFG_POL n] ++
      (if n < 16 then [Reg.SLOT_CFG_TERM n, Reg.SLOT_CFG_HYST n, Reg.SLOT_CFG_INPUT n] else []) ++
      (if n < 4 then [Reg.SLOT_CFG_IRIG n] else []) := by
  unfold slotCfgWrites
  split_ifs <;> simp

theorem State.wrs_append (s : State) (l l' : List (Fld × Nat)) : s.wrs (l ++ l') = (s.wrs l).wrs l' := List.foldl_append ..

theorem doSlotCfgWrite_cfg (n : Fin 24) (data : BitVec 32) (s : State) :
    doSlotCfgWrite n 0 data s = .next (slotForget n (s.wrs (slotCfgWrites n data.toNat))) := by
  rw [slotCfgWrites, State.wrs_append, State.wrs_append]
  unfold doSlotCfgWrite
  by_cases hpad : n.val < 16 <;> by_cases hirig : n.val < 4 <;> simp [hpad, hirig]

/-- What a write of NOM_FREQ leaves: virtual slots have no such field. -/
def nomFreqWritten (n v : Nat) (s : State) : State :=
  if virtualSlot n then s else rescaleSum n (s.slotNom n) (s.wr (Reg.SLOT_NOM_FREQ_HZ n) v)

theorem nomFreqWritten_frame (n v : Nat) (s : State) :
    nomFreqWritten n v s = { s with regs := (nomFreqWritten n v s).regs, slots := (nomFreqWritten n v s).slots } ∧
      ∀ k, k ≠ n → (nomFreqWritten n v s).slot k = s.slot k := by
  unfold nomFreqWritten
  split
  · exact ⟨rfl, fun _ _ => rfl⟩
  · exact ⟨rfl, fun _ hk => State.slot_put_ne _ hk.symm _⟩

theorem doSlotCfgWrite_nomFreq (n : Fin 24) (data : BitVec 32) (s : State) :
    doSlotCfgWrite n 1 data s = .next (slotForget n (nomFreqWritten n data.toNat s)) := rfl

theorem virtualSlot_iff (n : Nat) : virtualSlot n = true ↔ n = 20 ∨ n = 21 := decide_eq_true_iff

theorem rd_nomFreqWritten_virtual {n : Nat} (h : n = 20 ∨ n = 21) (v : Nat) (s : State) (f : Fld) :
    (nomFreqWritten n v s).rd f = s.rd f := by
  rw [nomFreqWritten, if_pos ((virtualSlot_iff n).mpr h)]

theorem rd_nomFreqWritten_real {n : Nat} (h : ¬(n = 20 ∨ n = 21)) (v : Nat) (s : State) (f : Fld) :
    (nomFreqWritten n v s).rd f = (s.wr (Reg.SLOT_NOM_FREQ_HZ n) v).rd f := by
  rw [nomFreqWritten, if_neg fun hv => h ((virtualSlot_iff n).mp hv)]
  rfl

/-! ### A write of QUAL (R132, R136) -/

theorem slotStateChange_frame (n : Nat) (f : State → State) (s : State) :
    ∃ c, slotStateChange n f s = { f s with flt := c } := by
  unfold slotStateChange
  dsimp only
  split
  · exact ⟨_, rfl⟩
  · split
    · exact ⟨_, rfl⟩
    · exact ⟨_, rfl⟩

/-- An excluded slot shows EXCLUDED (R132). -/
theorem shownState_of_excluded {s : State} {n : Nat} (h : s.bit (Reg.SLOT_QUAL_EXCLUDE n) = true) : s.shownState n = 5 := by
  have hx : s.excluded n = true := by rw [State.excluded, h, Bool.true_or]
  unfold State.shownState State.shownSlot
  simp only [hx, if_true]
  omega

/-- The fields of QUAL, with what a write of `v` puts there. -/
def slotQualWrites (n v : Nat) : List (Fld × Nat) :=
  [(Reg.SLOT_QUAL_EXCLUDE n, v / 2 ^ 31), (Reg.SLOT_QUAL_CEIL n, v / 2 ^ 28), (Reg.SLOT_QUAL_JACT n, v / 2 ^ 27),
   (Reg.SLOT_QUAL_BW n, v / 2 ^ 23), (Reg.SLOT_QUAL_WTR n, v / 2 ^ 13), (Reg.SLOT_QUAL_OBS_TIME n, v)]

theorem slotQualWrites_keys (n v : Nat) : ((slotQualWrites n v).map (fun p => p.1.key)).Nodup := by
  simp [slotQualWrites]

theorem exec_slotQualWrite {n : Fin 24} {data : BitVec 32} {s : State} (ho : s.hostOpen (Reg.SLOT_QUAL_EXCLUDE n).addr) :
    ∃ c, exec (.slotQualWrite n data) s = .next { s.wrs (slotQualWrites n data.toNat) with flt := c } := by
  obtain ⟨c, hc⟩ := slotStateChange_frame n (fun s => s.wrs (slotQualWrites n data.toNat)) s
  obtain ⟨c', hc'⟩ := hostCmd_follows (f := doSlotQualWrite n data) ho (congrArg Host.Outcome.next hc) (by simp) (by simp)
  exact ⟨c', hc'⟩

/-! ### The end of ACTIVE (R118, R364) -/

/-- The activity timeout of R118, in one expression. -/
theorem State.activityTicks_eq (s : State) (n : Nat) : s.activityTicks n =
    if s.rd (Reg.SLOT_ACT_TIMEOUT n) ≠ 0 then 16 * s.rd (Reg.SLOT_ACT_TIMEOUT n) else if n = 20 ∨ n = 21 then 1000000000
      else 16 * max 2 ((5 * s.slotPeriod n + 64 * s.slotNom n - 1) / (64 * s.slotNom n)) := by
  simp only [State.activityTicks, virtualSlot_iff]

section
variable {n : Fin 24} {s : State}

theorem exec_activityTimeout_early (h : s.up < (s.slot n).idle + s.activityTicks n) :
    exec (.activityTimeout n) s = .next s := if_pos h

theorem exec_activityTimeout_due (h : (s.slot n).idle + s.activityTicks n ≤ s.up) :
    exec (.activityTimeout n) s = .next (if n.val = 23 then
      (s.putSlot n { s.slot n with active := false }).wr Reg.TWIN_STATUS_CAL_VALID 0
    else s.putSlot n { s.slot n with active := false }) := if_neg (Nat.not_lt.mpr h)

/-! ### The end of a gate (R119 to R122) -/

theorem exec_gateComplete_early (h : s.tb < s.gateEnd n + 10240000) : exec (.gateComplete n) s = .next s :=
  congrArg Host.Outcome.next (if_neg (Int.not_le.mpr h))

theorem exec_gateComplete_due (h : s.gateEnd n + 10240000 ≤ s.tb) : exec (.gateComplete n) s = .next (gateEnds n s) :=
  congrArg Host.Outcome.next (if_pos h)

end

/-- The gate of slot `n` gives the reading `xo` and `path`, which shows saturated and is judged (R120 to R122). -/
def gateReads (n : Nat) (xo path : Int) (s : State) : State :=
  let v := clampInt (-foffMax) foffMax xo
  let lim : Int := s.rd (Reg.SLOT_FMON_FLIM n) * 64
  let sat := decide (foffMax < xo ∨ xo < -foffMax)
  (((s.wri (Reg.SLOT_FOFF_XO_VALUE n) v).wri (Reg.SLOT_FOFF_PATH_VALUE n) (clampInt (-foffMax) foffMax path)).wrb
    (Reg.SLOT_MON_SAT n) (sat || decide (foffMax < path ∨ path < -foffMax))).putSlot n { s.slot n with
      fvalid := true
      freqBad := sat || decide (lim < v.natAbs) || ((s.slot n).freqBad && decide (7 * lim < 8 * v.natAbs)) }

/-- The completed gate of slot `n` counts, and the gate after it begins (R120). -/
def gateTurns (n : Nat) (s : State) : State :=
  let s := s.bump (Reg.SLOT_CNT1_GATE_SEQ n)
  let x := s.slot n
  s.putSlot n { x with
    dropBad := !virtualSlot n && decide (s.rd (Reg.SLOT_DROP_LIMIT n) < x.gate.tally)
    gate := if x.next = ({} : GateRec) then { a := if x.lastOk then x.lastT.map (fun l => (l, x.phi)) else none } else x.next
    next := {}
    gEnd := some (s.gateEnd n + s.gateLen n) }

theorem gateEnds_of_none {n : Nat} {s : State} (h : s.gateReading n (s.slot n).gate = none) :
    gateEnds n s = gateTurns n (s.putSlot n { s.slot n with fvalid := false }) := by
  simp only [gateEnds, h]
  rfl

theorem gateEnds_of_some {n : Nat} {s : State} {xo path : Int} (h : s.gateReading n (s.slot n).gate = some (xo, path)) :
    gateEnds n s = gateTurns n (gateReads n xo path s) := by
  simp only [gateEnds, h]
  rfl

section
variable (n : Nat) (s : State)

theorem gateTurns_counts : (gateTurns n s).rd (Reg.SLOT_CNT1_GATE_SEQ n) =
    (s.rd (Reg.SLOT_CNT1_GATE_SEQ n) + 1) % 2 ^ (Reg.SLOT_CNT1_GATE_SEQ n).width := State.rd_bump_self ..

theorem gateTurns_regsBut : s.regsBut [Reg.SLOT_CNT1_GATE_SEQ n] (gateTurns n s) := s.regsBut_wr List.mem_cons_self _

theorem gateTurns_verdict : ((gateTurns n s).slot n).fvalid = (s.slot n).fvalid ∧
    ((gateTurns n s).slot n).freqBad = (s.slot n).freqBad := by
  rw [gateTurns, State.slot_put_self]
  exact ⟨rfl, rfl⟩

theorem gateTurns_frame : ∃ r x, gateTurns n s = { s with regs := r, slots := x } := ⟨_, _, rfl⟩

theorem gateTurns_slot_ne {k : Nat} (hk : k ≠ n) : (gateTurns n s).slot k = s.slot k := State.slot_put_ne _ hk.symm _

end

/-- A signed value that fits its field reads as it was written. -/
theorem State.rdi_wri_self (s : State) {f : Fld} {x : Int} (hw : f.width = 32) (hlo : -(2 ^ 31) ≤ x) (hhi : x < 2 ^ 31) :
    (s.wri f x).rdi f = x := by
  rw [State.rdi, State.rd_wri_self, hw, toSigned, ofSigned]
  norm_num
  split <;> omega

/-- A reading saturates at what its field holds (R120). -/
theorem rdi_wri_foff (s : State) {f : Fld} (hw : f.width = 32) (x : Int) :
    (s.wri f (clampInt (-foffMax) foffMax x)).rdi f = max (-(2 ^ 31 - 1)) (min (2 ^ 31 - 1) x) := by
  rw [s.rdi_wri_self hw] <;> simp only [clampInt, foffMax] <;> omega

section
variable (n : Nat) (xo path : Int) (s : State)

theorem gateReads_foff : (gateReads n xo path s).rdi (Reg.SLOT_FOFF_XO_VALUE n) = max (-(2 ^ 31 - 1)) (min (2 ^ 31 - 1) xo) ∧
    (gateReads n xo path s).rdi (Reg.SLOT_FOFF_PATH_VALUE n) = max (-(2 ^ 31 - 1)) (min (2 ^ 31 - 1) path) := by
  refine ⟨Eq.trans (congrArg (toSigned 32) ?_) (rdi_wri_foff s (f := Reg.SLOT_FOFF_XO_VALUE n) rfl xo),
    Eq.trans (congrArg (toSigned 32) ?_) (rdi_wri_foff (s.wri (Reg.SLOT_FOFF_XO_VALUE n) (clampInt (-foffMax) foffMax xo))
      (f := Reg.SLOT_FOFF_PATH_VALUE n) rfl path)⟩
  · rw [gateReads, State.rd_putSlot, State.rd_wrb_ne _ (by simp; omega), State.rd_wri_ne _ (by simp)]
  · rw [gateReads, State.rd_putSlot, State.rd_wrb_ne _ (by simp; omega)]

theorem gateReads_sat : (gateReads n xo path s).rd (Reg.SLOT_MON_SAT n) = 1 ↔
    2 ^ 31 - 1 < xo ∨ xo < -(2 ^ 31 - 1) ∨ 2 ^ 31 - 1 < path ∨ path < -(2 ^ 31 - 1) := by
  rw [gateReads, State.rd_putSlot, State.rd_wrb_self]
  refine (toNat_mod_two_eq_one_iff _).trans ?_
  simp only [Bool.or_eq_true, decide_eq_true_iff, or_assoc]
  rfl

theorem gateReads_regsBut :
    s.regsBut [Reg.SLOT_FOFF_XO_VALUE n, Reg.SLOT_FOFF_PATH_VALUE n, Reg.SLOT_MON_SAT n] (gateReads n xo path s) :=
  ((s.regsBut_wr (by simp) _).trans (State.regsBut_wr _ (by simp) _)).trans (State.regsBut_wr _ (by simp) _)

theorem gateReads_frame : ∃ r x, gateReads n xo path s = { s with regs := r, slots := x } := ⟨_, _, rfl⟩

theorem gateReads_slot_ne {k : Nat} (hk : k ≠ n) : (gateReads n xo path s).slot k = s.slot k := State.slot_put_ne _ hk.symm _

theorem gateReads_verdict :
    let v := max (-(2 ^ 31 - 1)) (min (2 ^ 31 - 1) xo)
    let lim : Int := s.rd (Reg.SLOT_FMON_FLIM n) * 64
    ((gateReads n xo path s).slot n).fvalid = true ∧ (((gateReads n xo path s).slot n).freqBad = true ↔
      2 ^ 31 - 1 < xo ∨ xo < -(2 ^ 31 - 1) ∨ lim < |v| ∨ ((s.slot n).freqBad = true ∧ 7 * lim < 8 * |v|)) := by
  rw [gateReads, State.slot_put_self]
  refine ⟨rfl, ?_⟩
  simp only [Int.abs_eq_natAbs, Bool.or_eq_true, Bool.and_eq_true, decide_eq_true_iff, or_assoc]
  rfl

/-- FREQ_WARN judges the offset that XO shows against a quarter of FLIM (R122). -/
theorem State.freqWarn_iff : s.freqWarn n = true ↔
    (s.rd (Reg.SLOT_FMON_FLIM n) * 64 : Int) < 4 * |s.rdi (Reg.SLOT_FOFF_XO_VALUE n)| := by
  rw [State.freqWarn, decide_eq_true_iff, Int.abs_eq_natAbs]
  exact_mod_cast Iff.rfl

end

/-- A gate with a reading completes: it counts, and the reading shows saturated and is judged. -/
theorem exec_gateComplete_reads {n : Fin 24} {xo path : Int} {s : State} (h : s.gateEnd n + 10240000 ≤ s.tb)
    (hr : s.gateReading n (s.slot n).gate = some (xo, path)) :
    let seq := Reg.SLOT_CNT1_GATE_SEQ n
    let v : Int := max (-(2 ^ 31 - 1)) (min (2 ^ 31 - 1) xo)
    let lim : Int := s.rd (Reg.SLOT_FMON_FLIM n) * 64
    ∃ t, exec (.gateComplete n) s = .next t ∧
      t.rdi (Reg.SLOT_FOFF_XO_VALUE n) = v ∧ t.rdi (Reg.SLOT_FOFF_PATH_VALUE n) = max (-(2 ^ 31 - 1)) (min (2 ^ 31 - 1) path) ∧
      (t.rd (Reg.SLOT_MON_SAT n) = 1 ↔ 2 ^ 31 - 1 < xo ∨ xo < -(2 ^ 31 - 1) ∨ 2 ^ 31 - 1 < path ∨ path < -(2 ^ 31 - 1)) ∧
      (t.slot n).fvalid = true ∧ (t.freqWarn n = true ↔ lim < 4 * |v|) ∧
      ((t.slot n).freqBad = true ↔
        2 ^ 31 - 1 < xo ∨ xo < -(2 ^ 31 - 1) ∨ lim < |v| ∨ ((s.slot n).freqBad = true ∧ 7 * lim < 8 * |v|)) ∧
      t.rd seq = (s.rd seq + 1) % 2 ^ seq.width ∧ (∀ k, k ≠ n.val → t.slot k = s.slot k) ∧
      s.regsBut [seq, Reg.SLOT_FOFF_XO_VALUE n, Reg.SLOT_FOFF_PATH_VALUE n, Reg.SLOT_MON_SAT n] t ∧
      t = { s with regs := t.regs, slots := t.slots } := by
  have hexec := (exec_gateComplete_due h).trans (congrArg _ (gateEnds_of_some hr))
  obtain ⟨hxo, hpath⟩ := gateReads_foff n xo path s
  obtain ⟨hvalid, hbad⟩ := gateReads_verdict n xo path s
  have hsat := gateReads_sat n xo path s
  have hregs := gateReads_regsBut n xo path s
  have hothers := fun k => gateReads_slot_ne n xo path s (k := k)
  obtain ⟨r, y, hframe⟩ := gateReads_frame n xo path s
  generalize gateReads n xo path s = u at *
  obtain ⟨hvalid', hbad'⟩ := gateTurns_verdict n u
  have hcounts := gateTurns_counts n u
  have hregs' := gateTurns_regsBut n u
  have hothers' := fun k => gateTurns_slot_ne n u (k := k)
  obtain ⟨r', y', hframe'⟩ := gateTurns_frame n u
  generalize gateTurns n u = t at *
  have hxo' := (congrArg (toSigned 32) (hregs' (Reg.SLOT_FOFF_XO_VALUE n) (by simp; omega))).trans hxo
  refine ⟨t, hexec, hxo', (congrArg (toSigned 32) (hregs' (Reg.SLOT_FOFF_PATH_VALUE n) (by simp; omega))).trans hpath, ?sat,
    hvalid'.trans hvalid, ?warn, ?bad, ?counts, fun k hk => (hothers' k hk).trans (hothers k hk), ?regs, ?frame⟩
  case sat => rw [hregs' _ (by simp; omega), hsat]
  case warn =>
    have hlim := (hregs' (Reg.SLOT_FMON_FLIM n) (by simp; omega)).trans (hregs _ (by simp; omega))
    rw [State.freqWarn_iff, State.rdi, hlim]
    exact iff_of_eq (congrArg (fun v : Int => _ < 4 * |v|) hxo')
  case bad => rw [hbad', hbad]
  case counts => rw [hcounts, hregs _ (by simp; omega)]
  case regs => exact (hregs.mono (by simp)).trans (hregs'.mono (by simp))
  case frame => rw [hframe', hframe]

/-- Settles O18: each host command of a slot, the end of ACTIVE and the end of a gate. -/
theorem slots : Obligations.slots := by
  unfold Obligations.slots
  refine ⟨fun n data s => ?_, fun n s => ?_⟩
  · dsimp only
    have hv : data.toNat < 2 ^ 32 := data.isLt
    refine ⟨fun ho => ?cfg, fun ho => ?nomFreq, fun ho => ?prescale, fun ho => ?rebase, fun ho => ?qual⟩
    case cfg =>
      have hrd := fun {f : Fld} {x : Nat} (hx : (f, x) ∈ slotCfgWrites n data.toNat) =>
        s.rd_wrs_mem (slotCfgWrites_keys n data.toNat) hx
      obtain ⟨g, hg⟩ := s.wrs_frame (slotCfgWrites n data.toNat)
      obtain ⟨t, hexec, hforgets, hregs, hframe⟩ := exec_slotCfgWrite_forgets (reg := 0) ho (doSlotCfgWrite_cfg n data s)
        (by rw [hg]) (fun k _ => State.slot_wrs ..)
      refine ⟨t, hexec, hforgets, ?path, ?_, ?_, fun hpad => ⟨?_, ?_, ?_⟩, fun hirig => ?_, fun f hf => ?regs, hframe⟩ <;>
        rw [hregs]
      case path => exact (hrd (x := data.toNat / 2 ^ 29) (by simp [slotCfgWrites])).trans (Nat.mod_eq_of_lt (by simp; omega))
      case regs => exact State.rd_wrs_ne s _ fun p hp => hf p.1 (slotCfgWrites_fields n data.toNat p hp)
      all_goals exact hrd (by simp [slotCfgWrites, *])
    case nomFreq =>
      obtain ⟨hwritten, hother⟩ := nomFreqWritten_frame n data.toNat s
      obtain ⟨t, hexec, hforgets, hregs, hframe⟩ := exec_slotCfgWrite_forgets (reg := 1) ho (doSlotCfgWrite_nomFreq n data s)
        hwritten hother
      refine ⟨t, hexec, hforgets, fun h20 h21 => ?_, fun f hf => ?_, hframe⟩ <;> rw [hregs]
      · rw [rd_nomFreqWritten_real (by omega), State.rd_wr_self]
      · by_cases hvirtual : n.val = 20 ∨ n.val = 21
        · exact rd_nomFreqWritten_virtual hvirtual ..
        · rw [rd_nomFreqWritten_real hvirtual]
          exact s.rd_wr_ne (hf _ (by simp [hvirtual])) _
    case prescale =>
      obtain ⟨t, hexec, hforgets, hregs, hframe⟩ := exec_slotCfgWrite_forgets (reg := 2) (data := data) (n := n)
        (u := s.wr (Reg.SLOT_PRESCALE_DIV n) data.toNat) ho rfl rfl fun _ _ => rfl
      exact ⟨t, hexec, hforgets, (hregs _).trans (State.rd_wr_self ..),
        fun f hf => (hregs f).trans (s.rd_wr_ne (hf _ List.mem_cons_self) _), hframe⟩
    case rebase =>
      obtain ⟨c, hc⟩ := hostCmd_follows (f := doSlotRebase n) ho rfl rfl rfl
      exact ⟨_, hc, State.rd_wr_self s (Reg.SLOT_CMD_REBASE n) 1,
        s.regsBut_wr (f := Reg.SLOT_CMD_REBASE n) List.mem_cons_self 1, rfl⟩
    case qual =>
      have hrd := fun {f : Fld} {x : Nat} (hx : (f, x) ∈ slotQualWrites n data.toNat) =>
        s.rd_wrs_mem (slotQualWrites_keys n data.toNat) hx
      obtain ⟨g, hg⟩ := s.wrs_frame (slotQualWrites n data.toNat)
      obtain ⟨c, hc⟩ := exec_slotQualWrite (data := data) ho
      have hexclude := (hrd (f := Reg.SLOT_QUAL_EXCLUDE n) (x := data.toNat / 2 ^ 31) (by simp [slotQualWrites])).trans
        (Nat.mod_eq_of_lt (by simp; omega))
      refine ⟨_, hc, hexclude, ?_, ?_, ?_, ?_, ?_, fun hset => ?excluded, ?regs, by rw [hg]⟩
      case excluded =>
        refine shownState_of_excluded (decide_eq_true ?_)
        rw [State.rd_upd, hexclude]
        omega
      case regs => exact State.regsBut_wrs s _ (by simp [slotQualWrites])
      all_goals exact hrd (by simp [slotQualWrites])
  · simp only [← State.activityTicks_eq]
    refine ⟨exec_activityTimeout_early, fun h => ?timeout, exec_gateComplete_early, fun h hr => ?silent, fun xo path h hr => ?reads⟩
    case timeout =>
      by_cases hn : n.val = 23
      · refine ⟨_, (exec_activityTimeout_due h).trans (congrArg _ (if_pos hn)), State.slot_put_self ..,
          (s.onlySlot_putSlot ..).2, fun _ => State.rd_wr_self .., ?_, rfl⟩
        rw [if_pos hn]
        exact (s.putSlot n _).regsBut_wr List.mem_cons_self _
      · exact ⟨_, (exec_activityTimeout_due h).trans (congrArg _ (if_neg hn)), State.slot_put_self ..,
          (s.onlySlot_putSlot ..).2, fun h23 => absurd h23 hn, State.regsBut_of_regs_eq rfl _, rfl⟩
    case silent =>
      obtain ⟨hvalid, hbad⟩ := gateTurns_verdict n (s.putSlot n { s.slot n with fvalid := false })
      refine ⟨_, (exec_gateComplete_due h).trans (congrArg _ (gateEnds_of_none hr)), ?_, ?_, gateTurns_counts n _,
        gateTurns_regsBut n (s.putSlot n _), fun k hk => (gateTurns_slot_ne n _ hk).trans (s.slot_put_ne hk.symm _), rfl⟩
      · rw [hvalid, State.slot_put_self]
      · rw [hbad, State.slot_put_self]
    case reads => exact exec_gateComplete_reads h hr

end Sys2Proof.Machine
end

section
/-! IRIG-B frames (O19): what a frame received, the time and a read of TOD make of the decoder of a slot. -/
namespace Sys2Proof.Machine

/-! ### Frames (R115, R116) -/

/-- The decoder of slot `n` stands as `g`, the frame judged and counted as an error (R116). -/
def irigWrong (n : Nat) (g : IrigSt) (s : State) : State :=
  (s.putSlot n { s.slot n with
    irigBad := true
    irig := { g with bad := g.bad + 1, lock := g.lock && decide (g.bad = 0), frame := none } }).bump
      (Reg.SLOT_IRIG_STATUS_FRAME_ERR n)

/-- The decoder of slot `n` stands as `g`, the frame judged and found right. -/
def irigRight (n : Nat) (g : IrigSt) (s : State) : State :=
  s.putSlot n { s.slot n with irigBad := false, irig := { g with bad := 0, frame := none } }

/-- The decoder `g` has a good frame with the fields `v` at step `up`, staged for the registers. -/
def IrigSt.stage (g : IrigSt) (v : IrigFields) (up : Nat) : IrigSt :=
  { g with good := true, last := some v.time, staged := some v, validAt := up }

section
variable {n : Fin 4} {f : Fin 8} {l : List Nat} {v : IrigFields} {s : State}

theorem exec_irigFrame_none (hf : (s.slot n).irig.frame = none) : exec (.irigFrame n f) s = .next s := by
  simp only [exec, execIrigFrame, hf]

theorem exec_irigFrame_undecoded (hf : (s.slot n).irig.frame = some l) (hd : irigDecode l f = none) :
    exec (.irigFrame n f) s = .next (irigWrong n
      { (s.slot n).irig with good := false, last := (s.slot n).irig.last.map irigAfter } s) := by
  simp only [exec, execIrigFrame, hf, hd]
  rfl

theorem exec_irigFrame_follows {w : Option Nat × Nat} (hf : (s.slot n).irig.frame = some l) (hd : irigDecode l f = some v)
    (hl : (s.slot n).irig.last = some w) (hw : irigNext w v.time = true) :
    exec (.irigFrame n f) s = .next (irigRight n
      { (s.slot n).irig.stage v s.up with lock := (s.slot n).irig.lock || (s.slot n).irig.good } s) := by
  simp only [exec, execIrigFrame, hf, hd, hl, Option.any_some, hw]
  rfl

theorem exec_irigFrame_astray {w : Option Nat × Nat} (hf : (s.slot n).irig.frame = some l) (hd : irigDecode l f = some v)
    (hl : (s.slot n).irig.last = some w) (hw : irigNext w v.time = false) :
    exec (.irigFrame n f) s = .next (irigWrong n ((s.slot n).irig.stage v s.up) s) := by
  simp only [exec, execIrigFrame, hf, hd, hl, Option.any_some, hw]
  rfl

theorem exec_irigFrame_first (hf : (s.slot n).irig.frame = some l) (hd : irigDecode l f = some v)
    (hl : (s.slot n).irig.last = none) :
    exec (.irigFrame n f) s = .next (irigRight n ((s.slot n).irig.stage v s.up) s) := by
  simp only [exec, execIrigFrame, hf, hd, hl, Option.any_none, Bool.false_and, Bool.or_false]
  rfl

end

section
variable (n : Nat) (g : IrigSt) (s : State)

theorem irigWrong_slot_self : (irigWrong n g s).slot n = { s.slot n with
    irigBad := true, irig := { g with bad := g.bad + 1, lock := g.lock && decide (g.bad = 0), frame := none } } := by
  rw [irigWrong, State.slot_bump, State.slot_put_self]

theorem irigRight_slot_self : (irigRight n g s).slot n =
    { s.slot n with irigBad := false, irig := { g with bad := 0, frame := none } } := State.slot_put_self ..

theorem irigWrong_counts : (irigWrong n g s).rd (Reg.SLOT_IRIG_STATUS_FRAME_ERR n) =
    (s.rd (Reg.SLOT_IRIG_STATUS_FRAME_ERR n) + 1) % 2 ^ (Reg.SLOT_IRIG_STATUS_FRAME_ERR n).width := State.rd_bump_self ..

theorem irigWrong_regsBut : s.regsBut [Reg.SLOT_IRIG_STATUS_FRAME_ERR n] (irigWrong n g s) :=
  State.regsBut_wr (s.putSlot n _) List.mem_cons_self _

end

/-! ### The registers (R116, R138) -/

section
variable {n : Fin 4} {v : IrigFields} {s : State}

/-- The registers that a good frame reaches together. -/
def irigWrites (n : Nat) (v : IrigFields) : List (Fld × Nat) :=
  [(Reg.SLOT_IRIG_STATUS_FORMAT n, v.format), (Reg.SLOT_IRIG_STATUS_SBS_VALID n, (irigHasSbs v.format).toNat),
   (Reg.SLOT_IRIG_STATUS_CF_VALID n, (irigHasCf v.format).toNat), (Reg.SLOT_IRIG_STATUS_YEAR_VALID n, (irigHasYear v.format).toNat),
   (Reg.SLOT_IRIG_TOD_DAY n, v.day), (Reg.SLOT_IRIG_TOD_HOUR n, v.hour), (Reg.SLOT_IRIG_TOD_MIN n, v.min),
   (Reg.SLOT_IRIG_TOD_SEC n, v.sec)]

/-- The decoder `g` after the frame with the fields `v` has reached the registers. -/
def IrigSt.shown (g : IrigSt) (v : IrigFields) : IrigSt :=
  { g with
    staged := none
    ext := (if irigHasYear v.format then v.year else 0) * 2 ^ 17 + (if irigHasSbs v.format then v.sbs else 0)
    cf := if irigHasCf v.format then v.cf else 0 }

theorem exec_irigRegisterUpdate_early (h : s.up - (s.slot n).irig.validAt < 5000000) :
    exec (.irigRegisterUpdate n) s = .next s := by
  have hno : ¬ irigDelay ≤ s.up - (s.slot n).irig.validAt := Nat.not_le.mpr h
  simp only [exec, execIrigRegisterUpdate, hno, if_false]

theorem exec_irigRegisterUpdate_due (h : 5000000 ≤ s.up - (s.slot n).irig.validAt) (hv : (s.slot n).irig.staged = some v) :
    exec (.irigRegisterUpdate n) s = .next
      ((s.putSlot n { s.slot n with irig := (s.slot n).irig.shown v }).wrs (irigWrites n v)) := by
  simp only [exec, execIrigRegisterUpdate, irigDelay, if_pos h, hv]
  rfl

/-- The eight registers of a frame are eight cells. -/
theorem irigWrites_keys (n : Nat) (v : IrigFields) : ((irigWrites n v).map (fun p => p.1.key)).Nodup := by
  simp [irigWrites]
  omega

/-- What a read of TOD captures are three cells (R138). -/
theorem irigCaptures_keys (n year sbs cf : Nat) : (([(Reg.SLOT_IRIG_EXT_YEAR n, year), (Reg.SLOT_IRIG_EXT_SBS n, sbs),
    (Reg.SLOT_IRIG_CF_CF n, cf)] : List (Fld × Nat)).map (fun p => p.1.key)).Nodup := by
  simp
  omega

theorem exec_irigLockTimeout_early (h : s.up - (s.slot n).irig.validAt < 1000000000) :
    exec (.irigLockTimeout n) s = .next s := congrArg Host.Outcome.next (if_neg (Nat.not_le.mpr h))

theorem exec_irigLockTimeout_due (h : 1000000000 ≤ s.up - (s.slot n).irig.validAt) :
    exec (.irigLockTimeout n) s = .next (s.putSlot n { s.slot n with
      irig := { (s.slot n).irig with lock := false, good := false, last := none } }) :=
  congrArg Host.Outcome.next (if_pos h)

/-- A host read that reaches its register has its effect. -/
theorem hostRead_reaches {a : Nat} (f : State → Out) (h : s.hostReads a) : hostRead a f s = f s := by
  obtain ⟨halive, hreach⟩ := h
  simp only [hostRead, halive, hreach, Bool.not_true, Bool.false_eq_true, if_false, if_true]

end

/-- Settles O19: each outcome of a frame, of the two timers and of a read of TOD. -/
theorem irig : Obligations.irig := by
  unfold Obligations.irig
  intro n f l v s
  have others : ∀ x : SlotSt, ∀ k, k ≠ n.val → (s.putSlot n x).slot k = s.slot k := fun _ _ hk => State.slot_put_ne _ hk.symm _
  refine ⟨exec_irigFrame_none, fun hf hd => ?undecoded, fun hf hd hw => ?follows, fun hf hd hw => ?astray,
    fun hf hd hl => ?first, exec_irigRegisterUpdate_early, fun h hv hformat hday hhour hmin hsec => ?update,
    exec_irigLockTimeout_early, fun h => ?timeout, fun h => ?read⟩
  case undecoded =>
    refine ⟨_, exec_irigFrame_undecoded hf hd, irigWrong_counts .., ?_, ?_, ?_, ?_, ?_, others _, irigWrong_regsBut _ _ _, rfl⟩ <;>
      rw [irigWrong_slot_self]
  case follows =>
    obtain ⟨w, hl, hw⟩ := hw
    refine ⟨_, exec_irigFrame_follows hf hd hl hw, ?_, ?_, ?_, ?_, ?_, ?_, ?_, ?_, others _, rfl⟩ <;>
      rw [irigRight_slot_self] <;> rfl
  case astray =>
    obtain ⟨w, hl, hw⟩ := hw
    refine ⟨_, exec_irigFrame_astray hf hd hl hw, irigWrong_counts .., ?_, ?_, ?_, others _, irigWrong_regsBut _ _ _, rfl⟩ <;>
      rw [irigWrong_slot_self] <;> rfl
  case first =>
    refine ⟨_, exec_irigFrame_first hf hd hl, ?_, ?_, ?_, ?_, ?_, others _, rfl⟩ <;> rw [irigRight_slot_self] <;> rfl
  case update =>
    have hrd := fun {f : Fld} {x : Nat} (hx : (f, x) ∈ irigWrites n v) =>
      (s.putSlot n { s.slot n with irig := (s.slot n).irig.shown v }).rd_wrs_mem (irigWrites_keys n v) hx
    refine ⟨_, exec_irigRegisterUpdate_due h hv, ?format, ?day, ?hour, ?min, ?sec, ?year, ?cf, ?sbs, ?staged, ?control, ?others,
      State.regsBut_wrs _ _ ?regs, ?frame⟩
    case format => exact (hrd (by simp [irigWrites])).trans (Nat.mod_eq_of_lt hformat)
    case day => exact (hrd (by simp [irigWrites])).trans (Nat.mod_eq_of_lt hday)
    case hour => exact (hrd (by simp [irigWrites])).trans (Nat.mod_eq_of_lt hhour)
    case min => exact (hrd (by simp [irigWrites])).trans (Nat.mod_eq_of_lt hmin)
    case sec => exact (hrd (by simp [irigWrites])).trans (Nat.mod_eq_of_lt hsec)
    case year =>
      rw [hrd (x := (irigHasYear v.format).toNat) (by simp [irigWrites])]
      exact (toNat_mod_two_eq_one_iff _).trans decide_eq_true_iff
    case cf =>
      rw [hrd (x := (irigHasCf v.format).toNat) (by simp [irigWrites])]
      exact (toNat_mod_two_eq_one_iff _).trans decide_eq_true_iff
    case sbs =>
      rw [hrd (x := (irigHasSbs v.format).toNat) (by simp [irigWrites])]
      exact (toNat_mod_two_eq_one_iff _).trans decide_eq_true_iff
    case staged => rw [State.slot_wrs, State.slot_put_self]; rfl
    case control => rw [State.slot_wrs, State.slot_put_self]; simp [IrigSt.shown, irigHasCf]
    case others => exact fun k hk => (State.slot_wrs ..).trans (others _ k hk)
    case regs => simp [irigWrites]
    case frame => obtain ⟨g, hg⟩ := State.wrs_frame _ (irigWrites n v); rw [hg]; rfl
  case timeout => exact ⟨_, exec_irigLockTimeout_due h, State.slot_put_self .., others _, rfl⟩
  case read =>
    refine ⟨_, hostRead_reaches _ h, rfl, ?year, ?sbs, ?cf, State.regsBut_wrs s _ ?regs, rfl⟩
    case regs => simp
    all_goals exact s.rd_wrs_mem (irigCaptures_keys n _ _ _) (by simp)

end Sys2Proof.Machine
end

section
/-! What a captured edge leaves alone on its way to the consumers of its role (R256): the engines and their outputs, the APLLs, the
channels, the role's note of a pile-up and its count of edges. -/
namespace Sys2Proof.Machine

/-- From `s` to `t` the engines, the APLLs, the channels, and of role `c` its note of a pile-up and its count of edges are kept. -/
structure EdgeKeeps (c : Nat) (s t : State) : Prop where
  eng : t.eng = s.eng
  out : t.out = s.out
  aplls : t.aplls = s.aplls
  chans : t.chans = s.chans
  pileup : (t.role c).pileup = (s.role c).pileup
  edges : t.rd (Reg.TDC_EDGES_COUNT c) = s.rd (Reg.TDC_EDGES_COUNT c)

variable {c : Nat} {s t u : State}

theorem EdgeKeeps.refl (c : Nat) (s : State) : EdgeKeeps c s s := ⟨rfl, rfl, rfl, rfl, rfl, rfl⟩

theorem EdgeKeeps.trans (h : EdgeKeeps c s t) (h' : EdgeKeeps c t u) : EdgeKeeps c s u :=
  ⟨h'.eng.trans h.eng, h'.out.trans h.out, h'.aplls.trans h.aplls, h'.chans.trans h.chans, h'.pileup.trans h.pileup,
    h'.edges.trans h.edges⟩

theorem EdgeKeeps.chan (h : EdgeKeeps c s t) (k : Nat) : t.chan k = s.chan k := by rw [State.chan, h.chans]; rfl

/-- A change to none of the tables that `EdgeKeeps` speaks of. -/
theorem EdgeKeeps.same (h : EdgeKeeps c s t) (heng : u.eng = t.eng := by rfl) (hout : u.out = t.out := by rfl)
    (haplls : u.aplls = t.aplls := by rfl) (hchans : u.chans = t.chans := by rfl) (hroles : u.roles = t.roles := by rfl)
    (hregs : u.regs = t.regs := by rfl) : EdgeKeeps c s u :=
  h.trans ⟨heng, hout, haplls, hchans, by rw [State.role, hroles]; rfl, State.rd_congr hregs _⟩

theorem EdgeKeeps.wr (h : EdgeKeeps c s t) {f : Fld} (hf : f.key ≠ (Reg.TDC_EDGES_COUNT c).key) (v : Nat) :
    EdgeKeeps c s (t.wr f v) := h.trans ⟨rfl, rfl, rfl, rfl, rfl, t.rd_wr_ne hf v⟩

theorem EdgeKeeps.bump (h : EdgeKeeps c s t) {f : Fld} (hf : f.key ≠ (Reg.TDC_EDGES_COUNT c).key) (k : Nat) :
    EdgeKeeps c s (t.bump f k) := h.wr hf _

theorem EdgeKeeps.wri (h : EdgeKeeps c s t) {f : Fld} (hf : f.key ≠ (Reg.TDC_EDGES_COUNT c).key) (x : Int) :
    EdgeKeeps c s (t.wri f x) := h.wr hf _

theorem EdgeKeeps.wrs (h : EdgeKeeps c s t) (l : List (Fld × Nat)) (hl : ∀ p ∈ l, p.1.key ≠ (Reg.TDC_EDGES_COUNT c).key) :
    EdgeKeeps c s (t.wrs l) := by
  obtain ⟨r, hr⟩ := t.wrs_frame l
  refine h.trans ⟨?_, ?_, ?_, ?_, ?_, t.rd_wrs_ne l hl⟩ <;> rw [hr]; rfl

theorem EdgeKeeps.putSlot (h : EdgeKeeps c s t) (n : Nat) (x : SlotSt) : EdgeKeeps c s (t.putSlot n x) := h.same

theorem EdgeKeeps.putTscale (h : EdgeKeeps c s t) (n : Nat) (x : TsSt) : EdgeKeeps c s (t.putTscale n x) := h.same

theorem EdgeKeeps.putGrp (h : EdgeKeeps c s t) (n : Nat) (x : GrpSt) : EdgeKeeps c s (t.putGrp n x) := h.same

theorem EdgeKeeps.putRing (h : EdgeKeeps c s t) (n : Nat) (x : RingSt) : EdgeKeeps c s (t.putRing n x) := h.same

theorem EdgeKeeps.raise (h : EdgeKeeps c s t) (ev inst info : Nat) : EdgeKeeps c s (t.raise ev inst info) := h.same

/-- A new record of a role that notes a pile-up as the record before. -/
theorem EdgeKeeps.putRole (h : EdgeKeeps c s t) (k : Nat) {x : RoleSt} (hx : x.pileup = (t.role k).pileup) :
    EdgeKeeps c s (t.putRole k x) := by
  refine h.trans ⟨rfl, rfl, rfl, rfl, ?_, rfl⟩
  by_cases hk : k = c
  · subst hk; rw [State.role_put_self, hx]
  · rw [State.role_put_ne _ hk]

theorem EdgeKeeps.ite {p : Prop} [Decidable p] (ht : EdgeKeeps c s t) (hu : EdgeKeeps c s u) :
    EdgeKeeps c s (if p then t else u) := by
  split
  · exact ht
  · exact hu

theorem EdgeKeeps.thenIf {p : Prop} [Decidable p] (ht : EdgeKeeps c s t) (hu : EdgeKeeps c s t → EdgeKeeps c s u) :
    EdgeKeeps c s (if p then u else t) := (hu ht).ite ht

theorem EdgeKeeps.forRange {n : Nat} {f : Nat → State → State} (hf : ∀ i < n, ∀ t, EdgeKeeps c t (f i t)) (s : State) :
    EdgeKeeps c s (forRange n f s) :=
  forRange_keeps (EdgeKeeps c s) (fun i hi t ht => ht.trans (hf i hi t)) (.refl c s)

/-! ### Steps of a timescale that wait for the edge of a slot (R231) -/

theorem pulseJump_edgeKeeps (n old new : Nat) (s : State) : EdgeKeeps c s (pulseJump n old new s) :=
  .forRange (fun o ho t => ((EdgeKeeps.refl c t).wr (f := Reg.OUT_STATUS_PULSE_MISS o) (by simp; omega) _).ite (.refl c t)) s

theorem markStepped_edgeKeeps (n : Nat) (s : State) : EdgeKeeps c s (markStepped n s) :=
  .forRange (fun _ _ t => (((EdgeKeeps.refl c t).putGrp ..).ite ((EdgeKeeps.refl c t).putGrp ..)).ite (.refl c t)) s

theorem anchorsDue_edgeKeeps (n : Nat) (s : State) : EdgeKeeps c s (anchorsDue n s) :=
  .forRange (fun _ _ t => ((EdgeKeeps.refl c t).putRing ..).ite (.refl c t)) s

theorem tsMove_edgeKeeps (n v : Nat) (s : State) : EdgeKeeps c s (tsMove n v s) := by
  have hval := (EdgeKeeps.refl c s).putTscale n { s.tscale n with val := v }
  unfold tsMove
  dsimp only
  refine (((EdgeKeeps.trans ?_ (markStepped_edgeKeeps n _)).trans (anchorsDue_edgeKeeps n _)).bump (by simp; omega) _).raise ..
  exact (hval.trans (pulseJump_edgeKeeps ..)).ite hval

theorem tsSet_edgeKeeps (n v : Nat) (s : State) : EdgeKeeps c s (tsSet n v s) := by
  have hnote := (EdgeKeeps.refl c s).putTscale n { s.tscale n with lastSet := some s.now, lastStep := none }
  unfold tsSet
  dsimp only
  split
  · exact ((hnote.putTscale ..).raise ..).ite (hnote.trans (tsMove_edgeKeeps ..))
  · exact hnote.trans (tsMove_edgeKeeps ..)

theorem tsEdge_edgeKeeps (slot : Nat) (w : Int) (s : State) : EdgeKeeps c s (tsEdge slot w s) := by
  refine .forRange (fun n _ t => ?_) s
  split
  · exact ((((tsSet_edgeKeeps ..).ite (tsMove_edgeKeeps ..)).putTscale ..).wrs _ (by simp; omega)).ite (.refl c t)
  · exact .refl c t

/-! ### The slot (R112 to R124) -/

theorem onGate_edgeKeeps (n : Nat) (w : Int) (f : GateRec → GateRec) (s : State) : EdgeKeeps c s (onGate n w f s) :=
  ((EdgeKeeps.refl c s).putSlot ..).ite ((EdgeKeeps.refl c s).putSlot ..)

variable {n : Nat}

theorem acceptEdge_edgeKeeps (w : Int) (flags m : Nat) (r v : Int) (s : State) :
    EdgeKeeps c s (acceptEdge n w flags m r v s) := by
  unfold acceptEdge
  dsimp only
  refine EdgeKeeps.putSlot (.trans (.thenIf (.thenIf (.thenIf (.refl c s) ?jump) ?rebase) ?cmd) (onGate_edgeKeeps ..)) _ _
  case jump => exact fun h => (h.bump (by simp; omega) _).wri (by simp; omega) _
  case rebase => exact fun h => h.bump (by simp; omega) _
  case cmd => exact fun h => h.wr (by simp; omega) _

theorem slotEdge_edgeKeeps (st : Stamp) (s : State) : EdgeKeeps c s (slotEdge n st s) := by
  unfold slotEdge
  dsimp only
  split
  case h_1 => exact ((EdgeKeeps.refl c s).putSlot ..).trans (tsEdge_edgeKeeps ..)
  case h_2 =>
    split
    · exact ((EdgeKeeps.refl c s).bump (by simp; omega) _).trans (onGate_edgeKeeps ..)
    · refine (EdgeKeeps.trans (.ite (.refl c s) (.trans (.bump (.refl c s) ?_ _) (onGate_edgeKeeps ..)))
        (acceptEdge_edgeKeeps ..)).trans (tsEdge_edgeKeeps ..)
      simp; omega

theorem pulseWidth_edgeKeeps (hc : c < 48) (hn : n < 24) (w : Int) (s : State) : EdgeKeeps c s (pulseWidth n w s) := by
  unfold pulseWidth
  dsimp only
  split
  · refine EdgeKeeps.ite (.wr (.putSlot (.refl c s) ..) ?_ _) (.wr (EdgeKeeps.refl c s).same ?_ _) <;> (simp; omega)
  · exact .refl c s

theorem irigEdge_edgeKeeps (w : Int) (s : State) : EdgeKeeps c s (irigEdge n w s) := by
  unfold irigEdge
  dsimp only
  split
  · exact (EdgeKeeps.refl c s).putSlot ..
  · exact .refl c s

theorem slotDeliver_edgeKeeps (hc : c < 48) (hn : n < 24) (fall : Bool) (st : Stamp) (s : State) :
    EdgeKeeps c s (slotDeliver n fall st s) := by
  have hrise := (EdgeKeeps.refl c s).putSlot n { s.slot n with rise := some st.tb }
  exact .ite (.ite (irigEdge_edgeKeeps ..) (.ite (hrise.trans (slotEdge_edgeKeeps ..)) hrise))
    (.ite (.ite (hrise.trans (slotEdge_edgeKeeps ..)) (pulseWidth_edgeKeeps hc hn ..)) (.ite (slotEdge_edgeKeeps ..) (.refl c s)))

/-! ### The twin (R359 to R366) -/

variable (hc : c < 48)
include hc

theorem twinWordsInvalid_edgeKeeps (s : State) : EdgeKeeps c s (twinWordsInvalid s) :=
  (EdgeKeeps.forRange (fun _ _ t => (EdgeKeeps.refl c t).same) s).trans
    (.forRange (fun i _ t => (EdgeKeeps.refl c t).wr (f := Reg.TWIN_ERR_P_VALUE i) (by simp; omega) _) _)

theorem twinClkEdge_edgeKeeps (w : Int) (s : State) : EdgeKeeps c s (twinClkEdge w s) :=
  .ite (((EdgeKeeps.refl c s).wri (f := Reg.TWIN_M_LOCAL_VALUE) (by simp; omega) _).same) (EdgeKeeps.refl c s).same

theorem twinPpsEdge_edgeKeeps (w : Int) (s : State) : EdgeKeeps c s (twinPpsEdge w s) := by
  unfold twinPpsEdge
  dsimp only
  refine .ite (EdgeKeeps.refl c s).same (.ite (.wrs ?delay _ ?indexed) (.trans (.raise (.bump (.wr ?delay ?slip _) ?slips _) ..)
    (twinWordsInvalid_edgeKeeps hc _)))
  case delay => exact .thenIf (.wri (EdgeKeeps.refl c s).same (by simp; omega) _) fun h => h.wr (by simp; omega) 1
  all_goals simp; omega

/-! ### The consumers of a role (R256) -/

omit hc in
theorem feedback_edgeKeeps (st : Stamp) (s : State) : EdgeKeeps c s (feedback c st s) := (EdgeKeeps.refl c s).putRole c rfl

omit hc in
theorem grpPairStamp_edgeKeeps (m k : Nat) (st : Stamp) (s : State) : EdgeKeeps c s (grpPairStamp m k st s) := by
  have h := (EdgeKeeps.refl c s).putGrp m
  unfold grpPairStamp
  dsimp only
  exact .ite (.ite ((h _).bump (by simp; omega) _) (h _)) (h _)

omit hc in
theorem grpFreqStamp_edgeKeeps (m : Nat) (st : Stamp) (s : State) : EdgeKeeps c s (grpFreqStamp m st s) :=
  .ite (.refl c s) (.ite ((EdgeKeeps.refl c s).putGrp ..) ((EdgeKeeps.refl c s).putGrp ..))

omit hc in
theorem grpStamp_edgeKeeps (k : Nat) (st : Stamp) (s : State) : EdgeKeeps c s (grpStamp k st s) := by
  refine .forRange (fun m hm t => .ite (.refl c t) ?_) s
  split
  · exact grpPairStamp_edgeKeeps ..
  · exact grpPairStamp_edgeKeeps ..
  · exact .ite (grpFreqStamp_edgeKeeps ..) (.refl c t)
  · exact .refl c t

omit hc in
theorem fifoPush_edgeKeeps (st : Stamp) (s : State) : EdgeKeeps c s (fifoPush c st s) := by
  unfold fifoPush
  dsimp only
  refine .ite (.ite ?lost (.raise ?lost ..)) ?kept
  case lost => exact .bump (.putRole (.refl c s) c (by rfl)) (by simp) _
  case kept => exact .wr (.putRole (.refl c s) c (by rfl)) (by simp; omega) _

omit hc in
theorem gatedConsumers_edgeKeeps (st : Stamp) (s : State) : EdgeKeeps c s (gatedConsumers c st s) := by
  unfold gatedConsumers
  dsimp only
  refine .thenIf (.trans (.wr (.putRole (.refl c s) c (by rfl)) ?_ _) (grpStamp_edgeKeeps c st _))
    fun h => h.trans (fifoPush_edgeKeeps st _)
  simp

theorem consumers_edgeKeeps (fall : Bool) (st : Stamp) (s : State) : EdgeKeeps c s (consumers c fall st s) := by
  have hn : slotOfRole c < 24 := by unfold slotOfRole; split <;> [omega; split <;> omega]
  have hslot : ∀ t, EdgeKeeps c t (if c < 22 then slotDeliver (slotOfRole c) fall st t else t) :=
    fun t => .thenIf (.refl c t) fun _ => slotDeliver_edgeKeeps hc hn ..
  have htwin : ∀ t, EdgeKeeps c t
      (if c = 20 ∧ !fall then twinClkEdge st.tb t else if c = 21 ∧ !fall then twinPpsEdge st.tb t else t) :=
    fun t => .ite (twinClkEdge_edgeKeeps hc ..) (.thenIf (.refl c t) fun _ => twinPpsEdge_edgeKeeps hc ..)
  unfold consumers
  dsimp only
  refine .ite ?word (.trans ?word (gatedConsumers_edgeKeeps st _))
  exact .thenIf ((hslot s).trans (htwin _)) fun h => h.trans (feedback_edgeKeeps st _)

/-! ### The latest stamp word of an event input (R257) -/

omit hc in
theorem grpStamp_frame (k : Nat) (st : Stamp) (s : State) : ∃ r g, grpStamp k st s = { s with regs := r, grps := g } := by
  refine forRange_keeps (fun t => ∃ r g, t = { s with regs := r, grps := g }) ?_ ⟨_, _, rfl⟩
  rintro m - _ ⟨r, g, rfl⟩
  unfold grpPairStamp grpFreqStamp
  dsimp only
  split
  · exact ⟨_, _, rfl⟩
  split
  · split
    · split <;> exact ⟨_, _, rfl⟩
    · exact ⟨_, _, rfl⟩
  · split
    · split <;> exact ⟨_, _, rfl⟩
    · exact ⟨_, _, rfl⟩
  · split
    · split
      · exact ⟨_, _, rfl⟩
      · split <;> exact ⟨_, _, rfl⟩
    · exact ⟨_, _, rfl⟩
  · exact ⟨_, _, rfl⟩

omit hc in
theorem fifoPush_frame (k : Nat) (st : Stamp) (s : State) :
    ∃ r x f, fifoPush k st s = { s with regs := r, roles := x, flt := f } := by
  unfold fifoPush
  dsimp only
  split
  · split <;> exact ⟨_, _, _, rfl⟩
  · exact ⟨_, _, _, rfl⟩

omit hc in
theorem fifoPush_last (k : Nat) (st : Stamp) (s : State) : ((fifoPush k st s).role k).last = (s.role k).last ∧
    ((fifoPush k st s).role k).fresh = (s.role k).fresh := by
  unfold fifoPush
  dsimp only
  split
  · split <;> simp
  · simp

omit hc in
theorem gatedConsumers_eq (st : Stamp) (s : State) : ∃ w : State, (w.role c).last = stampWord st ∧ (w.role c).fresh = true ∧
    (∃ r x g, w = { s with regs := r, roles := x, grps := g }) ∧
    (gatedConsumers c st s = w ∨ gatedConsumers c st s = fifoPush c st w) := by
  obtain ⟨r, g, hw⟩ := grpStamp_frame c st ((s.putRole c { s.role c with last := stampWord st, fresh := true }).wr
    (Reg.TDC_LAST_LO_DATA c) (stampWord st).toNat)
  refine ⟨_, ?_, ?_, ⟨_, _, _, hw⟩, ?_⟩
  · rw [hw]; exact congrArg RoleSt.last (State.role_put_self ..)
  · rw [hw]; exact congrArg RoleSt.fresh (State.role_put_self ..)
  · unfold gatedConsumers
    dsimp only
    split
    · exact .inr rfl
    · exact .inl rfl

omit hc in
/-- R257: the latest stamp word of a role; its slots, its paths and the twin hear nothing of the stamp from here. -/
theorem gatedConsumers_latest (st : Stamp) (s : State) : ((gatedConsumers c st s).role c).last = stampWord st ∧
    ((gatedConsumers c st s).role c).fresh = true ∧
    ∃ r x g f, gatedConsumers c st s = { s with regs := r, roles := x, grps := g, flt := f } := by
  obtain ⟨w, hlast, hfresh, ⟨r, x, g, hw⟩, h | h⟩ := gatedConsumers_eq (c := c) st s
  · exact ⟨h ▸ hlast, h ▸ hfresh, r, x, g, s.flt, h.trans hw⟩
  · obtain ⟨hl, hf⟩ := fifoPush_last c st w
    obtain ⟨r', x', f', hp⟩ := fifoPush_frame c st w
    exact ⟨h ▸ hl.trans hlast, h ▸ hf.trans hfresh, r', x', g, f', by rw [h, hp, hw]⟩

omit hc in
/-- R256: an event input that no gate concerns has the consumers of every role alone. -/
theorem consumers_event {fall : Bool} {st : Stamp} {s : State} (h : 38 ≤ c) (hg : s.rd (Reg.TDC_CFG_GATED c) = 0) :
    consumers c fall st s = gatedConsumers c st s := by
  have hgated : s.bit (Reg.TDC_CFG_GATED c) = false := decide_eq_false fun hne => hne hg
  unfold consumers
  dsimp only
  rw [if_neg (show ¬ c < 22 by omega), if_neg (show ¬ (c = 20 ∧ (!fall) = true) by omega),
    if_neg (show ¬ (c = 21 ∧ (!fall) = true) by omega), if_neg (show ¬ (22 ≤ c ∧ c ≤ 37) by omega), hgated,
    Bool.false_and, if_neg Bool.false_ne_true]

end Sys2Proof.Machine
end

section
/-! Captured edges (O17). -/
namespace Sys2Proof.Machine

/-! ### Lost edges (R51, R254, R263) -/

variable {c : Nat} {x : EdgeIn} {s : State}

theorem lostEdge_frame (c : Nat) (s : State) : ∃ r x y, lostEdge c s = { s with regs := r, roles := x, slots := y } := by
  unfold lostEdge
  dsimp only
  split
  · exact ⟨_, _, _, rfl⟩
  · exact ⟨_, _, s.slots, rfl⟩

theorem lostEdge_regs (c : Nat) (s : State) :
    (lostEdge c s).regs = (s.bump (Reg.TDC_PILEUP_COUNT c)).regs := by
  unfold lostEdge
  dsimp only
  split <;> rfl

theorem lostEdge_roles (c : Nat) (s : State) : ((lostEdge c s).role c).pileup = true ∧
    ∀ k, k ≠ c → (lostEdge c s).role k = s.role k := by
  unfold lostEdge
  dsimp only
  split
  · exact ⟨by simp, fun k hk => by simp [hk.symm]⟩
  · exact ⟨by simp, fun k hk => by simp [hk.symm]⟩

theorem lostEdge_slot (s : State) (h : c < 22) : ((lostEdge c s).slot (slotOfRole c)).pileup = true := by
  unfold lostEdge
  dsimp only
  rw [if_pos h]
  simp

/-! ### What becomes of an edge that reaches its role (R250 to R257, R263) -/

theorem State.tooSoon_iff (s : State) (ch : Nat) (raw : Int) :
    s.tooSoon ch raw = true ↔ ∃ l, (s.chan ch).lastT = some l ∧ raw - l < 262144 := by
  simp [State.tooSoon, Option.any_eq_true]

theorem roleEdge_lost (h : s.up < (s.chan (s.channelOf c)).since ∨
    (s.chanOk (s.channelOf c) = true ∧ s.tooSoon (s.channelOf c) (s.rawTime (s.channelOf c) x) = true)) :
    roleEdge c x s = lostEdge c s := by
  unfold roleEdge
  dsimp only
  split
  · rfl
  · obtain ⟨hok, hsoon⟩ := h.resolve_left ‹_›
    rw [hok, hsoon]
    rfl

theorem roleEdge_uncaptured (hs : (s.chan (s.channelOf c)).since ≤ s.up) (hok : s.chanOk (s.channelOf c) = false) :
    roleEdge c x s = s := by
  unfold roleEdge
  dsimp only
  rw [if_neg (by omega), hok]
  rfl

/-- The channel that serves role `c` notes the raw time of an edge that it captures (R254). -/
def edgeNoted (c : Nat) (x : EdgeIn) (s : State) : State :=
  let ch := s.channelOf c
  s.putChan ch { s.chan ch with lastT := some (s.rawTime ch x) }

/-- The second channel of a comparison stamps the edge as well (R262). -/
def edgeSeen (c : Nat) (x : EdgeIn) (s : State) : State := mirrorSee c x (s.stampOf (s.channelOf c) c x).tb (edgeNoted c x s)

/-- A captured edge of role `c` counts, and its stamp has carried what was noted of a pile-up (R254). -/
def edgeCounted (c : Nat) (s : State) : State :=
  (s.putRole c { s.role c with pileup := false }).bump (Reg.TDC_EDGES_COUNT c)

theorem roleEdge_captured (hs : (s.chan (s.channelOf c)).since ≤ s.up) (hok : s.chanOk (s.channelOf c) = true)
    (hclose : s.tooSoon (s.channelOf c) (s.rawTime (s.channelOf c) x) = false) :
    roleEdge c x s = consumers c x.fall (s.stampOf (s.channelOf c) c x) (edgeCounted c (edgeSeen c x s)) := by
  simp only [roleEdge, edgeCounted, edgeSeen, edgeNoted, if_neg (Nat.not_lt.mpr hs), hok, hclose,
    Bool.not_true, Bool.false_eq_true, if_false]

theorem mirrorSee_frame (c : Nat) (x : EdgeIn) (w : Int) (s : State) : ∃ y, mirrorSee c x w s = { s with chans := y } := by
  unfold mirrorSee
  split
  · extract_lets o y raw
    split
    · exact ⟨_, rfl⟩
    · split <;> exact ⟨_, rfl⟩
  · exact ⟨_, rfl⟩

theorem mirrorSee_none {w : Int} (h : s.mirrorOf c = none) : mirrorSee c x w s = s := by
  unfold mirrorSee
  rw [h]

theorem edgeSeen_frame (c : Nat) (x : EdgeIn) (s : State) : ∃ y, edgeSeen c x s = { s with chans := y } := by
  obtain ⟨y, hy⟩ := mirrorSee_frame c x (s.stampOf (s.channelOf c) c x).tb (edgeNoted c x s)
  exact ⟨y, hy⟩

theorem edgeSeen_rd (c : Nat) (x : EdgeIn) (s : State) (f : Fld) : (edgeSeen c x s).rd f = s.rd f := by
  obtain ⟨y, hy⟩ := edgeSeen_frame c x s
  rw [hy]; rfl

theorem edgeSeen_chan (h : s.mirrorOf c = none) : (edgeSeen c x s).chan (s.channelOf c) =
    { s.chan (s.channelOf c) with lastT := some (s.rawTime (s.channelOf c) x) } := by
  rw [edgeSeen, mirrorSee_none (s := edgeNoted c x s) h]
  exact s.chan_put_self ..

theorem edgeCounted_frame (c : Nat) (s : State) : ∃ r y, edgeCounted c s = { s with regs := r, roles := y } := ⟨_, _, rfl⟩

theorem edgeCounted_counts (c : Nat) (s : State) : (edgeCounted c s).rd (Reg.TDC_EDGES_COUNT c) =
    (s.rd (Reg.TDC_EDGES_COUNT c) + 1) % 2 ^ (Reg.TDC_EDGES_COUNT c).width := State.rd_bump_self ..

theorem edgeCounted_pileup (c : Nat) (s : State) : ((edgeCounted c s).role c).pileup = false :=
  congrArg RoleSt.pileup (s.role_put_self ..)

theorem edgeCounted_regsBut (c : Nat) (s : State) : s.regsBut [Reg.TDC_EDGES_COUNT c] (edgeCounted c s) :=
  s.regsBut_wr List.mem_cons_self _

/-! ### The input of a role (R111, R250) -/

variable {role : Fin 48}

/-- Does role `c` take an edge: TIME runs, the input is on and the polarity is one of its own (R111, R250)? -/
def State.roleTakes (s : State) (c : Nat) (fall : Bool) : Prop :=
  s.timeClocked = true ∧ s.roleOn c = true ∧ s.takesEdge c fall = true

theorem exec_tdcEdgeCapture_untaken (h : ¬ s.roleTakes role x.fall) : exec (.tdcEdgeCapture role x) s = .next s :=
  if_pos (by_contra fun hn => h (by simpa [State.roleTakes] using hn))

theorem exec_tdcEdgeCapture_slot (h : s.roleTakes role x.fall) (hc : role.val < 22) : exec (.tdcEdgeCapture role x) s =
    .next (if (prescale (slotOfRole role) x.fall s).1 then roleEdge role x (prescale (slotOfRole role) x.fall s).2
      else (prescale (slotOfRole role) x.fall s).2) := by
  obtain ⟨htime, hon, htakes⟩ := h
  exact (if_neg (by simp [htime, hon, htakes])).trans (if_pos hc)

theorem exec_tdcEdgeCapture_other (h : s.roleTakes role x.fall) (hc : 22 ≤ role.val) :
    exec (.tdcEdgeCapture role x) s = .next (roleEdge role x s) := by
  obtain ⟨htime, hon, htakes⟩ := h
  exact (if_neg (by simp [htime, hon, htakes])).trans (if_neg (by omega))

/-- The prescaler of slot `n` has counted one more on-time edge (R111, R113). -/
def prescaled (n : Nat) (s : State) : State :=
  s.putSlot n { s.slot n with pre := ((s.slot n).pre + 1) % max 1 (s.rd (Reg.SLOT_PRESCALE_DIV n)) }

theorem prescale_onTime {n : Nat} {fall : Bool} (h : fall = s.bit (Reg.SLOT_CFG_POL n)) :
    prescale n fall s = (decide ((s.slot n).pre = 0), prescaled n s) := if_pos (decide_eq_true h)

theorem prescale_opposite {n : Nat} {fall : Bool} (h : fall ≠ s.bit (Reg.SLOT_CFG_POL n)) : prescale n fall s = (true, s) :=
  if_neg (by simpa using h)

theorem exec_tdcEdgeCapture_prescaled (h : s.roleTakes role x.fall) (hc : role.val < 22)
    (hon : x.fall = s.bit (Reg.SLOT_CFG_POL (slotOfRole role))) (hpre : (s.slot (slotOfRole role)).pre ≠ 0) :
    exec (.tdcEdgeCapture role x) s = .next (prescaled (slotOfRole role) s) := by
  rw [exec_tdcEdgeCapture_slot h hc, prescale_onTime hon, decide_eq_false hpre]
  rfl

/-- An edge that the prescaler lets pass reaches the role; the prescaler's count is all that has changed. -/
theorem exec_tdcEdgeCapture_passes (h : s.roleTakes role x.fall)
    (hp : 22 ≤ role.val ∨ ¬ x.fall = s.bit (Reg.SLOT_CFG_POL (slotOfRole role)) ∨ (s.slot (slotOfRole role)).pre = 0) :
    ∃ y, exec (.tdcEdgeCapture role x) s = .next (roleEdge role x { s with slots := y }) ∧
      (22 ≤ role.val → y = s.slots) := by
  by_cases hc : 22 ≤ role.val
  · exact ⟨s.slots, exec_tdcEdgeCapture_other h hc, fun _ => rfl⟩
  by_cases hon : x.fall = s.bit (Reg.SLOT_CFG_POL (slotOfRole role))
  · have hpre := (hp.resolve_left hc).resolve_left (not_not_intro hon)
    refine ⟨(prescaled (slotOfRole role) s).slots, ?_, fun h => absurd h hc⟩
    rw [exec_tdcEdgeCapture_slot h (by omega), prescale_onTime hon, decide_eq_true hpre]
    rfl
  · refine ⟨s.slots, ?_, fun _ => rfl⟩
    rw [exec_tdcEdgeCapture_slot h (by omega), prescale_opposite hon]
    rfl

/-! ### What the step of an edge does (O17) -/

section
variable (h : s.roleTakes role x.fall)
  (hp : 22 ≤ role.val ∨ ¬ x.fall = s.bit (Reg.SLOT_CFG_POL (slotOfRole role)) ∨ (s.slot (slotOfRole role)).pre = 0)
include h hp

theorem exec_tdcEdgeCapture_lost (hlost : s.up < (s.chan (s.channelOf role)).since ∨ (s.chanOk (s.channelOf role) = true ∧
      ∃ l, (s.chan (s.channelOf role)).lastT = some l ∧ s.rawTime (s.channelOf role) x - l < 262144)) :
    ∃ t, exec (.tdcEdgeCapture role x) s = .next t ∧
      t.rd (Reg.TDC_PILEUP_COUNT role) = (s.rd (Reg.TDC_PILEUP_COUNT role) + 1) % 2 ^ (Reg.TDC_PILEUP_COUNT role).width ∧
      (t.role role).pileup = true ∧ (role.val < 22 → (t.slot (slotOfRole role)).pileup = true) ∧
      (∀ k, k ≠ role.val → t.role k = s.role k) ∧ s.regsBut [Reg.TDC_PILEUP_COUNT role] t ∧
      t = { s with regs := t.regs, roles := t.roles, slots := t.slots } := by
  obtain ⟨y, hexec, -⟩ := exec_tdcEdgeCapture_passes h hp
  rw [roleEdge_lost (s := { s with slots := y }) (hlost.imp_right (And.imp_right (s.tooSoon_iff ..).mpr))] at hexec
  obtain ⟨hpile, hother⟩ := lostEdge_roles role { s with slots := y }
  obtain ⟨r, z, y', hframe⟩ := lostEdge_frame role { s with slots := y }
  have hregs := lostEdge_regs role { s with slots := y }
  refine ⟨_, hexec, (State.rd_congr hregs _).trans (State.rd_bump_self ..), hpile, lostEdge_slot _, hother, ?_, ?_⟩
  · exact (s.regsBut_wr List.mem_cons_self _).trans (State.regsBut_of_regs_eq hregs _)
  · rw [hframe]

section
variable (hs : (s.chan (s.channelOf role)).since ≤ s.up) (hok : s.chanOk (s.channelOf role) = true)
  (hclose : ¬ ∃ l, (s.chan (s.channelOf role)).lastT = some l ∧ s.rawTime (s.channelOf role) x - l < 262144)
include hs hok hclose

theorem exec_tdcEdgeCapture_captured : ∃ y, exec (.tdcEdgeCapture role x) s = .next (consumers role x.fall
      (({ s with slots := y } : State).stampOf (s.channelOf role) role x)
      (edgeCounted role (edgeSeen role x { s with slots := y }))) ∧
    (22 ≤ role.val → y = s.slots) := by
  obtain ⟨y, hexec, hy⟩ := exec_tdcEdgeCapture_passes h hp
  have hsoon := Bool.eq_false_iff.mpr (mt (s.tooSoon_iff ..).mp hclose)
  exact ⟨y, by rw [hexec, roleEdge_captured (s := { s with slots := y }) hs hok hsoon]; rfl, hy⟩

theorem exec_tdcEdgeCapture_counts : ∃ t, exec (.tdcEdgeCapture role x) s = .next t ∧
    t.rd (Reg.TDC_EDGES_COUNT role) = (s.rd (Reg.TDC_EDGES_COUNT role) + 1) % 2 ^ (Reg.TDC_EDGES_COUNT role).width ∧
    (s.mirrorOf role = none → t.chan (s.channelOf role) =
      { s.chan (s.channelOf role) with lastT := some (s.rawTime (s.channelOf role) x) }) ∧
    (t.role role).pileup = false ∧ t.eng = s.eng ∧ t.out = s.out ∧ t.aplls = s.aplls ∧
    (38 ≤ role.val → s.rd (Reg.TDC_CFG_GATED role) = 0 →
      (t.role role).last = stampWord (s.stampOf (s.channelOf role) role x) ∧ (t.role role).fresh = true ∧
      t.slots = s.slots ∧ t.paths = s.paths ∧ t.twin = s.twin) := by
  obtain ⟨y, hexec, hy⟩ := exec_tdcEdgeCapture_captured h hp hs hok hclose
  obtain ⟨k, hseen⟩ := edgeSeen_frame role x { s with slots := y }
  obtain ⟨r, z, hframe⟩ := edgeCounted_frame role (edgeSeen role x { s with slots := y })
  have hcount := edgeCounted_counts role (edgeSeen role x { s with slots := y })
  rw [edgeSeen_rd] at hcount
  have hkeeps := consumers_edgeKeeps role.isLt x.fall (({ s with slots := y } : State).stampOf (s.channelOf role) role x)
    (edgeCounted role (edgeSeen role x { s with slots := y }))
  refine ⟨_, hexec, hkeeps.edges.trans hcount, fun hm => ?chan, hkeeps.pileup.trans (edgeCounted_pileup ..),
    hkeeps.eng.trans (by rw [hframe, hseen]), hkeeps.out.trans (by rw [hframe, hseen]),
    hkeeps.aplls.trans (by rw [hframe, hseen]), fun hc hg => ?event⟩
  case chan => exact (hkeeps.chan _).trans (edgeSeen_chan (s := { s with slots := y }) hm)
  case event =>
    obtain rfl := hy (by omega)
    have hgated : (edgeCounted role (edgeSeen role x s)).rd (Reg.TDC_CFG_GATED role) = 0 :=
      (edgeCounted_regsBut role _ _ (by simp; omega)).trans ((edgeSeen_rd ..).trans hg)
    rw [consumers_event hc hgated]
    obtain ⟨hlast, hfresh, r', z', g', f', hlatest⟩ := gatedConsumers_latest (c := role)
      (s.stampOf (s.channelOf role) role x) (edgeCounted role (edgeSeen role x s))
    refine ⟨hlast, hfresh, ?_, ?_, ?_⟩ <;> rw [hlatest, hframe, hseen]

end

end

end Sys2Proof.Machine
end

section
/-! What the crossbar and the repair map leave alone of a channel when one fails (R262 to R264, R480, R481): its table, its lock
and the state of its measurement. -/
namespace Sys2Proof.Machine

/-- The fields of `TDCn.CAL_STATUS` that show the lock and the table of channel `ch` (R258, R259). -/
def calFields (ch : Nat) : List Fld :=
  [Reg.TDC_CAL_STATUS_DLL_LOCK ch, Reg.TDC_CAL_STATUS_CAL_BUSY ch, Reg.TDC_CAL_STATUS_TABLE_VALID ch,
   Reg.TDC_CAL_STATUS_CAL_FAIL ch]

/-- From `s` to `t` the engines, the slots, and of channel `ch` its table, the declared loss of its DLL and `calFields` are kept. -/
structure ChanKeeps (ch : Nat) (s t : State) : Prop where
  eng : t.eng = s.eng
  slots : t.slots = s.slots
  table : (t.chan ch).table = (s.chan ch).table
  lost : (t.chan ch).lost = (s.chan ch).lost
  fields : ∀ g ∈ calFields ch, t.rd g = s.rd g

variable {ch : Nat} {s t u : State}

theorem ChanKeeps.refl (ch : Nat) (s : State) : ChanKeeps ch s s := ⟨rfl, rfl, rfl, rfl, fun _ _ => rfl⟩

theorem ChanKeeps.trans (h : ChanKeeps ch s t) (h' : ChanKeeps ch t u) : ChanKeeps ch s u :=
  ⟨h'.eng.trans h.eng, h'.slots.trans h.slots, h'.table.trans h.table, h'.lost.trans h.lost,
    fun g hg => (h'.fields g hg).trans (h.fields g hg)⟩

/-- A change to none of the tables that `ChanKeeps` speaks of. -/
theorem ChanKeeps.same (h : ChanKeeps ch s t) (heng : u.eng = t.eng := by rfl) (hslots : u.slots = t.slots := by rfl)
    (hchans : u.chans = t.chans := by rfl) (hregs : u.regs = t.regs := by rfl) : ChanKeeps ch s u :=
  have hchan : u.chan ch = t.chan ch := by rw [State.chan, hchans]; rfl
  h.trans ⟨heng, hslots, congrArg _ hchan, congrArg _ hchan, fun g _ => State.rd_congr hregs g⟩

theorem ChanKeeps.wrs (h : ChanKeeps ch s t) (l : List (Fld × Nat)) (hl : ∀ p ∈ l, ∀ g ∈ calFields ch, p.1.key ≠ g.key) :
    ChanKeeps ch s (t.wrs l) :=
  have hchan : (t.wrs l).chan ch = t.chan ch := by rw [State.chan, t.wrs_chans]; rfl
  h.trans ⟨t.wrs_eng l, t.wrs_slots l, congrArg _ hchan, congrArg _ hchan, fun g hg => t.rd_wrs_ne l fun p hp => hl p hp g hg⟩

theorem ChanKeeps.wr (h : ChanKeeps ch s t) {f : Fld} (hf : ∀ g ∈ calFields ch, f.key ≠ g.key) (v : Nat) :
    ChanKeeps ch s (t.wr f v) := h.trans ⟨rfl, rfl, rfl, rfl, fun g hg => t.rd_wr_ne (hf g hg) v⟩

theorem ChanKeeps.wri (h : ChanKeeps ch s t) {f : Fld} (hf : ∀ g ∈ calFields ch, f.key ≠ g.key) (x : Int) :
    ChanKeeps ch s (t.wri f x) := h.wr hf _

theorem ChanKeeps.raise (h : ChanKeeps ch s t) (ev inst info : Nat) : ChanKeeps ch s (t.raise ev inst info) := h.same

theorem ChanKeeps.level (h : ChanKeeps ch s t) (ev inst : Nat) (on : Bool) (info : Nat) :
    ChanKeeps ch s (t.level ev inst on info) := by
  obtain ⟨f, hf⟩ := t.level_frame ev inst on info
  rw [hf]
  exact h.same

/-- A new record of a channel with the table and the lock of the record before. -/
theorem ChanKeeps.putChan (h : ChanKeeps ch s t) (k : Nat) {x : ChanSt} (htable : x.table = (t.chan k).table := by rfl)
    (hlost : x.lost = (t.chan k).lost := by rfl) : ChanKeeps ch s (t.putChan k x) := by
  by_cases hk : k = ch
  · subst hk
    exact h.trans ⟨rfl, rfl, by rw [State.chan_put_self, htable], by rw [State.chan_put_self, hlost], fun _ _ => rfl⟩
  · exact h.trans ⟨rfl, rfl, by rw [State.chan_put_ne _ hk], by rw [State.chan_put_ne _ hk], fun _ _ => rfl⟩

theorem ChanKeeps.ite {p : Prop} [Decidable p] (ht : ChanKeeps ch s t) (hu : ChanKeeps ch s u) :
    ChanKeeps ch s (if p then t else u) := by
  split
  · exact ht
  · exact hu

/-! ### Spares (R262 to R264) -/

theorem chanFault_chanKeeps (k : Nat) (s : State) : ChanKeeps ch s (chanFault k s) := by
  unfold chanFault
  dsimp only
  split
  · split
    · exact .refl ch s
    · exact ((ChanKeeps.refl ch s).putChan k).level ..
  · split
    · exact ((ChanKeeps.refl ch s).putChan k).level ..
    · exact .refl ch s

theorem saveTdc_chanKeeps (fail : Bool) (s : State) : ChanKeeps ch s (saveTdc fail s) := by
  have hresult : ∀ (t : State) v, ChanKeeps ch t (t.wr Reg.TST_REPAIR_CMD_RESULT v) :=
    fun t v => (ChanKeeps.refl ch t).wr (by simp [calFields]; omega) v
  exact .ite (.ite (hresult ..) (.ite ((hresult ..).raise ..) ((ChanKeeps.refl ch s).same.trans (hresult ..)))) (hresult ..)

theorem spareIdle_chanKeeps (k : Nat) (s : State) : ChanKeeps ch s (spareIdle k s) :=
  (ChanKeeps.refl ch s).wrs _ (by simp [calFields]; omega)

theorem spareServes_chanKeeps (k c : Nat) (d : Int) (s : State) : ChanKeeps ch s (spareServes k c d s) := by
  refine (((ChanKeeps.refl ch s).putChan (48 + k) (x := { s.chan (48 + k) with added := d })).wri ?diff _ |>.wrs _ ?state).raise ..
  case diff => simp [calFields]; omega
  case state => simp [calFields]; omega

theorem spareReturns_chanKeeps (k : Nat) (s : State) : ChanKeeps ch s (spareReturns k s) :=
  (((ChanKeeps.refl ch s).wr (by simp [calFields]; omega) _).trans (spareIdle_chanKeeps k _)).raise ..

theorem spareConnect_chanKeeps (k c : Nat) (s : State) : ChanKeeps ch s (spareConnect k c s) :=
  (ChanKeeps.refl ch s).wrs _ (by simp [calFields]; omega)

/-- The bytes of `TST.REPAIR_TDC` begin where no field of `calFields` does. -/
theorem repairField_key (k : Nat) : (repairField k).key % 8 = 0 := by
  unfold repairField
  split
  · simp
  · split
    · simp
    · split <;> simp

theorem autoTake_chanKeeps (k c : Nat) (s : State) : ChanKeeps ch s (autoTake k c s) := by
  have hbyte : ∀ t : State, ChanKeeps ch t (t.wr (repairField k) c) :=
    fun t => (ChanKeeps.refl ch t).wr (by have := repairField_key k; simp [calFields]; omega) c
  have hserved : ChanKeeps ch s ((spareServes k c 0 (spareConnect k c s.takeFree.2)).wrs [(Reg.TDCG_SPARE_AUTO_TAKEN k, 1)]) := by
    refine .wrs (.trans (.trans (ChanKeeps.refl ch s).same (spareConnect_chanKeeps ..)) (spareServes_chanKeeps ..)) _ ?_
    simp [calFields]; omega
  unfold autoTake
  exact .ite ((hserved.putChan ..).trans ((hbyte _).trans (saveTdc_chanKeeps ..))) (hserved.putChan ..)

theorem roleLost_chanKeeps (k c : Nat) (s : State) : ChanKeeps ch s (roleLost k c s) := by
  unfold roleLost
  dsimp only
  split
  · split
    · exact autoTake_chanKeeps ..
    · exact .refl ch s
  · split
    · exact (spareIdle_chanKeeps ..).trans (autoTake_chanKeeps ..)
    · exact .ite (spareReturns_chanKeeps ..) (.refl ch s)

theorem chanFails_chanKeeps (k : Nat) (s : State) : ChanKeeps ch s (chanFails k s) := by
  have hactive : ∀ (j : Nat), ChanKeeps ch s (s.wrs [(Reg.TDCG_SPARE_STATE j, 2), (Reg.TDCG_SPARE_RELEASE j, 0)]) :=
    fun j => (ChanKeeps.refl ch s).wrs _ (by simp [calFields]; omega)
  unfold chanFails
  split
  · refine .ite (.ite (spareIdle_chanKeeps ..) (hactive _)) (.ite (spareServes_chanKeeps ..) (.wrs (.refl ch s) _ ?_))
    simp [calFields]; omega
  · split
    · exact roleLost_chanKeeps ..
    · exact .refl ch s

theorem mapTakes_chanKeeps (s : State) : ChanKeeps ch s (mapTakes s) := by
  unfold mapTakes
  refine List.foldlRecOn _ _ (.refl ch s) fun t ht e _ => ht.trans ?_
  dsimp only
  refine .ite ?skip (.ite (.trans (.trans (ChanKeeps.refl ch t).same (spareConnect_chanKeeps ..))
    (spareServes_chanKeeps ..)) (.refl ch t))
  exact ((ChanKeeps.refl ch t).wr (f := Reg.TST_REPAIR_STATUS_MAP_SKIP) (by simp [calFields]; omega) _).same

end Sys2Proof.Machine
end

section
/-! DLLs and tables of the channels (O17). -/
namespace Sys2Proof.Machine

variable {ch : Fin 52} {s : State}

theorem chanFault_frame (k : Nat) (s : State) : ∃ x f, chanFault k s = { s with chans := x, flt := f } := by
  unfold chanFault
  dsimp only
  split
  · split
    · exact ⟨_, _, rfl⟩
    · obtain ⟨f, hf⟩ := State.level_frame (s.putChan k { s.chan k with fault := some ((s.roleOf k).getD k + 256 * k) }) 32
        ((s.roleOf k).getD k + 256 * k) true k
      exact ⟨_, f, hf⟩
  · split
    · rename_i key _
      obtain ⟨f, hf⟩ := State.level_frame (s.putChan k { s.chan k with fault := none }) 32 key false 0
      exact ⟨_, f, hf⟩
    · exact ⟨_, _, rfl⟩

theorem chanFault_chan_ne {j k : Nat} (h : j ≠ k) (s : State) : (chanFault k s).chan j = s.chan j := by
  unfold chanFault
  dsimp only
  split
  · split
    · rfl
    · rw [State.chan, State.level_chans]; exact s.chan_put_ne h.symm _
  · split
    · rw [State.chan, State.level_chans]; exact s.chan_put_ne h.symm _
    · rfl

theorem chanFault_chan_self (k : Nat) (s : State) : ∃ x, (chanFault k s).chan k = { s.chan k with fault := x } := by
  unfold chanFault
  dsimp only
  split
  · split
    · exact ⟨_, rfl⟩
    · rw [State.chan, State.level_chans]; exact ⟨_, s.chan_put_self ..⟩
  · split
    · rw [State.chan, State.level_chans]; exact ⟨_, s.chan_put_self ..⟩
    · exact ⟨_, rfl⟩

theorem chanFault_rd (k : Nat) (s : State) (f : Fld) : (chanFault k s).rd f = s.rd f := by
  obtain ⟨_, _, h⟩ := chanFault_frame k s
  rw [h]; rfl

/-! ### Writes that change the listed fields alone -/

theorem State.onlyRegs_wrs (s : State) {l : List Fld} (ws : List (Fld × Nat)) (hw : ∀ p ∈ ws, p.1 ∈ l) :
    s.onlyRegs l (s.wrs ws) := by
  obtain ⟨r, hr⟩ := s.wrs_frame ws
  exact ⟨by rw [hr], s.regsBut_wrs ws hw⟩

theorem State.onlyRegs.trans {s t u : State} {l : List Fld} (h : s.onlyRegs l t) (h' : t.onlyRegs l u) : s.onlyRegs l u := by
  obtain ⟨hframe, hregs⟩ := h
  obtain ⟨hframe', hregs'⟩ := h'
  exact ⟨by rw [hframe', hframe], hregs.trans hregs'⟩

theorem State.onlyRegs.mono {s t : State} {l l' : List Fld} (h : s.onlyRegs l t) (hl : l ⊆ l') : s.onlyRegs l' t :=
  have ⟨hframe, hregs⟩ := h
  ⟨hframe, hregs.mono hl⟩

/-! ### Measurements begin (R259, R260) -/

theorem calStart_busy (k : Nat) (s : State) : (calStart k s).rd (Reg.TDC_CAL_STATUS_CAL_BUSY k) = 1 := by
  simp [calStart, State.wrs]

theorem calStart_invalid (k : Nat) (s : State) : (calStart k s).rd (Reg.TDC_CAL_STATUS_TABLE_VALID k) = 0 := by
  simp [calStart, State.wrs]

theorem calStart_regsBut (k : Nat) (s : State) :
    s.regsBut [Reg.TDC_CAL_STATUS_CAL_BUSY k, Reg.TDC_CAL_STATUS_TABLE_VALID k] (calStart k s) :=
  s.regsBut_wrs _ (by simp)

/-- The DLL of channel `k` locks for the first time, and its table is measured (R258, R259). -/
def dllLocks (k : Nat) (s : State) : State := calStart k (s.wr (Reg.TDC_CAL_STATUS_DLL_LOCK k) 1)

theorem exec_dllFirstLock (h : s.clk.tb = .locked) : exec .dllFirstLock s = .next (forRange 52 dllLocks s) :=
  congrArg Host.Outcome.next (if_pos h)

/-- Channel `c` has locked and its table is being measured. -/
def State.dllMeasures (c : Nat) (s : State) : Prop :=
  s.rd (Reg.TDC_CAL_STATUS_DLL_LOCK c) = 1 ∧ s.rd (Reg.TDC_CAL_STATUS_CAL_BUSY c) = 1 ∧
  s.rd (Reg.TDC_CAL_STATUS_TABLE_VALID c) = 0

theorem dllLocks_measures (k : Nat) (s : State) : (dllLocks k s).dllMeasures k :=
  ⟨(calStart_regsBut k _ _ (by simp)).trans (s.rd_wr_self ..), calStart_busy .., calStart_invalid ..⟩

theorem dllLocks_dllMeasures {k c : Nat} (h : k ≠ c) (hs : s.dllMeasures c) : (dllLocks k s).dllMeasures c := by
  obtain ⟨hlock, hbusy, hvalid⟩ := hs
  have hkeep : s.regsBut [Reg.TDC_CAL_STATUS_DLL_LOCK k, Reg.TDC_CAL_STATUS_CAL_BUSY k, Reg.TDC_CAL_STATUS_TABLE_VALID k]
      (dllLocks k s) := (s.regsBut_wr (by simp) 1).trans ((calStart_regsBut k _).mono (by simp))
  exact ⟨(hkeep _ (by simp; omega)).trans hlock, (hkeep _ (by simp; omega)).trans hbusy,
    (hkeep _ (by simp; omega)).trans hvalid⟩

theorem dllsLock_measure {c : Nat} (hc : c < 52) (s : State) : (forRange 52 dllLocks s).dllMeasures c :=
  forRange_establishes (fun _ => True) (State.dllMeasures c) hc (fun _ _ _ _ _ => trivial)
    (fun _ _ hk _ ht => dllLocks_dllMeasures hk ht) (fun t _ => dllLocks_measures c t) trivial

theorem dllsLock_frame (s : State) : ∃ r, forRange 52 dllLocks s = { s with regs := r } := by
  refine forRange_keeps (fun t => ∃ r, t = { s with regs := r }) (fun k _ t ⟨r, hr⟩ => ?_) ⟨_, rfl⟩
  obtain ⟨r', hr'⟩ := State.wrs_frame (t.wr (Reg.TDC_CAL_STATUS_DLL_LOCK k) 1)
    [(Reg.TDC_CAL_STATUS_CAL_BUSY k, 1), (Reg.TDC_CAL_STATUS_TABLE_VALID k, 0)]
  exact ⟨r', by rw [dllLocks, calStart, hr', hr]; rfl⟩

/-- Whether a channel may be measured is a matter of the spares and of its role's EN (R260). -/
theorem calAllowed_congr {t : State} {c : Nat} (hstate : ∀ k, t.spareState k = s.spareState k)
    (hrole : ∀ k, t.spareRole k = s.spareRole k) (hen : t.rd (Reg.TDC_CFG_EN c) = s.rd (Reg.TDC_CFG_EN c)) :
    t.calAllowed c = s.calAllowed c := by
  simp [State.calAllowed, State.channelOf, State.servingSpare, State.bit, hstate, hrole, hen]

theorem calStart_calAllowed (k c : Nat) (s : State) : (calStart k s).calAllowed c = s.calAllowed c :=
  calAllowed_congr (fun _ => calStart_regsBut k s _ (by simp; omega)) (fun _ => calStart_regsBut k s _ (by simp; omega))
    (calStart_regsBut k s _ (by simp; omega))

/-- CAL_ALL comes to channel `k` (R260). -/
def calEach (k : Nat) (s : State) : State :=
  if s.calAllowed k && !s.bit (Reg.TDC_CAL_STATUS_CAL_BUSY k) then calStart k s else s

theorem calEach_eq (k : Nat) (s : State) : calEach k s = calStart k s ∧ s.calAllowed k = true ∨ calEach k s = s ∧
    (s.calAllowed k = true → s.rd (Reg.TDC_CAL_STATUS_CAL_BUSY k) ≠ 0) := by
  unfold calEach
  split
  case isTrue h => exact .inl ⟨rfl, (Bool.and_eq_true_iff.mp h).1⟩
  case isFalse h => exact .inr ⟨rfl, fun ha => by simpa [ha, State.bit] using h⟩

theorem calEach_calAllowed (k c : Nat) (s : State) : (calEach k s).calAllowed c = s.calAllowed c := by
  obtain ⟨h, -⟩ | ⟨h, -⟩ := calEach_eq k s
  · rw [h, calStart_calAllowed]
  · rw [h]

theorem calEach_busy_ne {k c : Nat} (h : k ≠ c) (s : State) :
    (calEach k s).rd (Reg.TDC_CAL_STATUS_CAL_BUSY c) = s.rd (Reg.TDC_CAL_STATUS_CAL_BUSY c) := by
  obtain ⟨hk, -⟩ | ⟨hk, -⟩ := calEach_eq k s
  · rw [hk]; exact calStart_regsBut k s _ (by simp; omega)
  · rw [hk]

theorem exec_calAll (h : s.hostOpen Reg.TDCG_CAL_CMD_ALL.addr) : exec .calAll s = .next (forRange 52 calEach s) :=
  hostCmd_plain _ doCalAll s _ h (by decide) (by decide) rfl

theorem calAll_allowed {c : Nat} (hc : c < 52) (h : s.calAllowed c = true) :
    (forRange 52 calEach s).rd (Reg.TDC_CAL_STATUS_CAL_BUSY c) ≠ 0 := by
  refine forRange_establishes (fun t => t.calAllowed c = true) (fun t => t.rd (Reg.TDC_CAL_STATUS_CAL_BUSY c) ≠ 0) hc
    (fun k _ _ t ht => (calEach_calAllowed k c t).trans ht) (fun k _ hk t ht => by rwa [calEach_busy_ne hk]) (fun t ht => ?_) h
  obtain ⟨hk, -⟩ | ⟨hk, hbusy⟩ := calEach_eq c t
  · rw [hk, calStart_busy]; exact Nat.one_ne_zero
  · rw [hk]; exact hbusy ht

theorem calAll_refused {c : Nat} (h : s.calAllowed c = false) :
    (forRange 52 calEach s).rd (Reg.TDC_CAL_STATUS_CAL_BUSY c) = s.rd (Reg.TDC_CAL_STATUS_CAL_BUSY c) := by
  refine (forRange_keeps (fun t => t.calAllowed c = false ∧ t.rd (Reg.TDC_CAL_STATUS_CAL_BUSY c) = s.rd
    (Reg.TDC_CAL_STATUS_CAL_BUSY c)) (fun k _ t ht => ?_) ⟨h, rfl⟩).2
  obtain ⟨hallowed, hbusy⟩ := ht
  refine ⟨(calEach_calAllowed k c t).trans hallowed, ?_⟩
  by_cases hk : k = c
  · subst hk
    obtain ⟨-, ha⟩ | ⟨hk, -⟩ := calEach_eq k t
    · simp [hallowed] at ha
    · rw [hk, hbusy]
  · rw [calEach_busy_ne hk, hbusy]

theorem calAll_frame (s : State) : ∃ r, forRange 52 calEach s = { s with regs := r } := by
  refine forRange_keeps (fun t => ∃ r, t = { s with regs := r }) (fun k _ t ht => ?_) ⟨_, rfl⟩
  obtain ⟨r, rfl⟩ := ht
  obtain ⟨h, -⟩ | ⟨h, -⟩ := calEach_eq k { s with regs := r }
  · exact ⟨_, h⟩
  · exact ⟨_, h⟩

theorem exec_tdcCal {t : State} (h : s.hostOpen (Reg.TDC_CMD_CAL ch).addr) (ht : doTdcCal ch s = .next t) :
    exec (.tdcCal ch) s = .next t := by
  have hch := ch.isLt
  exact hostCmd_plain _ (doTdcCal ch) s t h (by simp only [Reg.TDC_CMD_CAL]; omega) (by simp only [Reg.TDC_CMD_CAL]; omega) ht

theorem doTdcCal_busy (h : s.rd (Reg.TDC_CAL_STATUS_CAL_BUSY ch) ≠ 0) :
    doTdcCal ch s = .next (s.wrs [(Reg.TDC_CMD_CAL ch, 1), (Reg.TDC_CAL_STATUS_CAL_REJ ch, 0)]) :=
  congrArg Host.Outcome.next (if_pos (decide_eq_true h))

theorem doTdcCal_allowed (h : s.rd (Reg.TDC_CAL_STATUS_CAL_BUSY ch) = 0) (ha : s.calAllowed ch = true) : doTdcCal ch s =
    .next (calStart ch (s.wrs [(Reg.TDC_CMD_CAL ch, 1), (Reg.TDC_CAL_STATUS_CAL_REJ ch, 0)])) :=
  congrArg Host.Outcome.next ((if_neg (by simpa [State.bit] using h)).trans (if_pos ha))

theorem doTdcCal_refused (h : s.rd (Reg.TDC_CAL_STATUS_CAL_BUSY ch) = 0) (ha : s.calAllowed ch = false) :
    doTdcCal ch s = .next (s.wrs [(Reg.TDC_CMD_CAL ch, 0), (Reg.TDC_CAL_STATUS_CAL_REJ ch, 1)]) :=
  congrArg Host.Outcome.next ((if_neg (by simpa [State.bit] using h)).trans (if_neg (by simp [ha])))

/-- What CMD.CAL and CAL_REJ of channel `k` show of a write of CAL (R260). -/
theorem rd_calWrites (k a b : Nat) (s : State) :
    (s.wrs [(Reg.TDC_CMD_CAL k, a), (Reg.TDC_CAL_STATUS_CAL_REJ k, b)]).rd (Reg.TDC_CMD_CAL k) = a % 2 ∧
    (s.wrs [(Reg.TDC_CMD_CAL k, a), (Reg.TDC_CAL_STATUS_CAL_REJ k, b)]).rd (Reg.TDC_CAL_STATUS_CAL_REJ k) = b % 2 := by
  refine ⟨?_, ?_⟩ <;> simp (disch := (simp <;> omega)) [State.wrs]

section
variable (ho : s.hostOpen (Reg.TDC_CMD_CAL ch).addr)
include ho

theorem exec_tdcCal_again (hbusy : s.rd (Reg.TDC_CAL_STATUS_CAL_BUSY ch) ≠ 0) : ∃ t, exec (.tdcCal ch) s = .next t ∧
    t.rd (Reg.TDC_CMD_CAL ch) = 1 ∧ t.rd (Reg.TDC_CAL_STATUS_CAL_REJ ch) = 0 ∧
    s.onlyRegs [Reg.TDC_CMD_CAL ch, Reg.TDC_CAL_STATUS_CAL_REJ ch] t := by
  obtain ⟨hcmd, hrej⟩ := rd_calWrites ch 1 0 s
  exact ⟨_, exec_tdcCal ho (doTdcCal_busy hbusy), hcmd, hrej, s.onlyRegs_wrs _ (by simp)⟩

theorem exec_tdcCal_allowed (hbusy : s.rd (Reg.TDC_CAL_STATUS_CAL_BUSY ch) = 0) (ha : s.calAllowed ch = true) :
    ∃ t, exec (.tdcCal ch) s = .next t ∧ t.rd (Reg.TDC_CMD_CAL ch) = 1 ∧ t.rd (Reg.TDC_CAL_STATUS_CAL_BUSY ch) = 1 ∧
    t.rd (Reg.TDC_CAL_STATUS_TABLE_VALID ch) = 0 ∧ t.rd (Reg.TDC_CAL_STATUS_CAL_REJ ch) = 0 ∧
    s.onlyRegs [Reg.TDC_CMD_CAL ch, Reg.TDC_CAL_STATUS_CAL_BUSY ch, Reg.TDC_CAL_STATUS_TABLE_VALID ch,
      Reg.TDC_CAL_STATUS_CAL_REJ ch] t := by
  obtain ⟨hcmd, hrej⟩ := rd_calWrites ch 1 0 s
  have hstart := calStart_regsBut ch (s.wrs [(Reg.TDC_CMD_CAL ch, 1), (Reg.TDC_CAL_STATUS_CAL_REJ ch, 0)])
  exact ⟨_, exec_tdcCal ho (doTdcCal_allowed hbusy ha), (hstart _ (by simp; omega)).trans hcmd, calStart_busy ..,
    calStart_invalid ..,
    (hstart _ (by simp)).trans hrej, (s.onlyRegs_wrs _ (by simp)).trans (State.onlyRegs_wrs _ _ (by simp))⟩

theorem exec_tdcCal_refused (hbusy : s.rd (Reg.TDC_CAL_STATUS_CAL_BUSY ch) = 0) (ha : s.calAllowed ch = false) :
    ∃ t, exec (.tdcCal ch) s = .next t ∧ t.rd (Reg.TDC_CMD_CAL ch) = 0 ∧ t.rd (Reg.TDC_CAL_STATUS_CAL_REJ ch) = 1 ∧
    t.rd (Reg.TDC_CAL_STATUS_CAL_BUSY ch) = 0 ∧ s.onlyRegs [Reg.TDC_CMD_CAL ch, Reg.TDC_CAL_STATUS_CAL_REJ ch] t := by
  obtain ⟨hcmd, hrej⟩ := rd_calWrites ch 0 1 s
  exact ⟨_, exec_tdcCal ho (doTdcCal_refused hbusy ha), hcmd, hrej, (State.rd_wrs_ne _ _ (by simp; omega)).trans hbusy,
    s.onlyRegs_wrs _ (by simp)⟩

theorem exec_tdcCal_idle (hbusy : s.rd (Reg.TDC_CAL_STATUS_CAL_BUSY ch) = 0) : ∃ t, exec (.tdcCal ch) s = .next t ∧
    (s.calAllowed ch = true → t.rd (Reg.TDC_CMD_CAL ch) = 1 ∧ t.rd (Reg.TDC_CAL_STATUS_CAL_BUSY ch) = 1 ∧
      t.rd (Reg.TDC_CAL_STATUS_TABLE_VALID ch) = 0 ∧ t.rd (Reg.TDC_CAL_STATUS_CAL_REJ ch) = 0) ∧
    (s.calAllowed ch = false → t.rd (Reg.TDC_CMD_CAL ch) = 0 ∧ t.rd (Reg.TDC_CAL_STATUS_CAL_REJ ch) = 1 ∧
      t.rd (Reg.TDC_CAL_STATUS_CAL_BUSY ch) = 0) ∧
    s.onlyRegs [Reg.TDC_CMD_CAL ch, Reg.TDC_CAL_STATUS_CAL_BUSY ch, Reg.TDC_CAL_STATUS_TABLE_VALID ch,
      Reg.TDC_CAL_STATUS_CAL_REJ ch] t := by
  cases ha : s.calAllowed ch
  case false =>
    obtain ⟨t, hexec, hcmd, hrej, hidle, honly⟩ := exec_tdcCal_refused ho hbusy ha
    exact ⟨t, hexec, nofun, fun _ => ⟨hcmd, hrej, hidle⟩, honly.mono (by simp)⟩
  case true =>
    obtain ⟨t, hexec, hcmd, hmeasures, hvalid, hrej, honly⟩ := exec_tdcCal_allowed ho hbusy ha
    exact ⟨t, hexec, fun _ => ⟨hcmd, hmeasures, hvalid, hrej⟩, nofun, honly⟩

end

/-! ### Losses of lock, and the end of a measurement (R258, R259) -/

/-- From `s` to `t` the table of channel `k` has been discarded with its measurement (R259). -/
def State.dropsTable (s : State) (k : Nat) (t : State) : Prop :=
  t.rd (Reg.TDC_CAL_STATUS_CAL_BUSY k) = 0 ∧ t.rd (Reg.TDC_CAL_STATUS_TABLE_VALID k) = 0 ∧
  t.rd (Reg.TDC_CAL_STATUS_CAL_FAIL k) = 1 ∧ (t.chan k).table = [] ∧ t.eng = s.eng ∧ t.slots = s.slots

theorem State.dropsTable.trans_keeps {t u : State} {k : Nat} (h : s.dropsTable k t) (hk : ChanKeeps k t u) : s.dropsTable k u := by
  obtain ⟨hbusy, hvalid, hfail, htable, heng, hslots⟩ := h
  exact ⟨(hk.fields _ (by simp [calFields])).trans hbusy, (hk.fields _ (by simp [calFields])).trans hvalid,
    (hk.fields _ (by simp [calFields])).trans hfail, hk.table.trans htable, hk.eng.trans heng, hk.slots.trans hslots⟩

theorem calFail_dropsTable (k : Nat) (s : State) : s.dropsTable k (calFail k s) := by
  refine State.dropsTable.trans_keeps ?_ (chanFault_chanKeeps k _)
  refine ⟨?_, ?_, ?_, ?_, ?_, ?_⟩ <;> simp (disch := (simp <;> omega)) [State.wrs]

/-- From `s` to `t` the DLL of channel `k` has lost lock, and the loss is declared (R258). -/
def State.losesLock (s : State) (k : Nat) (t : State) : Prop :=
  t.rd (Reg.TDC_CAL_STATUS_DLL_LOCK k) = 0 ∧ (t.chan k).lost = true ∧ t.eng = s.eng ∧ t.slots = s.slots

theorem State.losesLock.trans_keeps {t u : State} {k : Nat} (h : s.losesLock k t) (hk : ChanKeeps k t u) : s.losesLock k u := by
  obtain ⟨hlock, hlost, heng, hslots⟩ := h
  exact ⟨(hk.fields _ (by simp [calFields])).trans hlock, hk.lost.trans hlost, hk.eng.trans heng, hk.slots.trans hslots⟩

theorem State.losesLock.trans_calFail {t : State} {k : Nat} (h : s.losesLock k t) : s.losesLock k (calFail k t) := by
  refine State.losesLock.trans_keeps ?_ (chanFault_chanKeeps k _)
  obtain ⟨hlock, hlost, heng, hslots⟩ := h
  refine ⟨?_, ?_, ?_, ?_⟩ <;> simp (disch := (simp <;> omega)) [State.wrs, hlock, hlost, heng, hslots]

/-- The loss of lock of channel `k` is declared (R258). -/
def dllLost (k : Nat) (s : State) : State :=
  let t := s.wr (Reg.TDC_CAL_STATUS_DLL_LOCK k) 0
  chanFault k (t.putChan k { t.chan k with lost := true })

theorem dllLost_losesLock (k : Nat) (s : State) : s.losesLock k (dllLost k s) := by
  refine State.losesLock.trans_keeps ?_ (chanFault_chanKeeps k _)
  exact ⟨s.rd_wr_self _ 0, congrArg ChanSt.lost (State.chan_put_self ..), rfl, rfl⟩

theorem exec_dllUnlock (h : s.rd (Reg.TDC_CAL_STATUS_DLL_LOCK ch) ≠ 0) : exec (.dllUnlock ch) s = .next (chanFails ch
    (if (dllLost ch s).bit (Reg.TDC_CAL_STATUS_CAL_BUSY ch) then calFail ch (dllLost ch s) else dllLost ch s)) :=
  if_pos (decide_eq_true h)

theorem exec_dllUnlock_losesLock (h : s.rd (Reg.TDC_CAL_STATUS_DLL_LOCK ch) ≠ 0) :
    ∃ t, exec (.dllUnlock ch) s = .next t ∧ s.losesLock ch t := by
  refine ⟨_, exec_dllUnlock h, State.losesLock.trans_keeps ?_ (chanFails_chanKeeps ch _)⟩
  split
  · exact (dllLost_losesLock ch s).trans_calFail
  · exact dllLost_losesLock ch s

/-- The DLL of channel `k` has locked again (R258). -/
def dllRelocked (k : Nat) (s : State) : State :=
  (s.putChan k { s.chan k with lost := false }).wr (Reg.TDC_CAL_STATUS_DLL_LOCK k) 1

theorem dllRelocked_chan (k : Nat) (s : State) : (dllRelocked k s).chan k = { s.chan k with lost := false } :=
  s.chan_put_self ..

theorem chanFault_dllRelocked_frame (k : Nat) (s : State) :
    ∃ r c f, chanFault k (dllRelocked k s) = { s with regs := r, chans := c, flt := f } := by
  obtain ⟨c, f, h⟩ := chanFault_frame k (dllRelocked k s)
  exact ⟨_, c, f, h⟩

theorem exec_dllRelock (h : (s.chan ch).lost = true) : exec (.dllRelock ch) s = .next (chanFault ch (dllRelocked ch s)) :=
  congrArg Host.Outcome.next (if_pos h)

theorem exec_dllRelock_relocks (hlost : (s.chan ch).lost = true) : ∃ t, exec (.dllRelock ch) s = .next t ∧
    t.rd (Reg.TDC_CAL_STATUS_DLL_LOCK ch) = 1 ∧ (t.chan ch).lost = false ∧ (t.chan ch).table = (s.chan ch).table ∧
    (∀ k, k ≠ ch.val → t.chan k = s.chan k) ∧ s.regsBut [Reg.TDC_CAL_STATUS_DLL_LOCK ch] t ∧
    t = { s with regs := t.regs, chans := t.chans, flt := t.flt } := by
  obtain ⟨r, k, f, hframe⟩ := chanFault_dllRelocked_frame ch s
  obtain ⟨x, hx⟩ := chanFault_chan_self ch (dllRelocked ch s)
  rw [dllRelocked_chan] at hx
  exact ⟨_, exec_dllRelock hlost, (chanFault_rd ..).trans (State.rd_wr_self ..), by rw [hx],
    by rw [hx], fun j hj => (chanFault_chan_ne hj _).trans (s.chan_put_ne hj.symm _),
    fun g hg => (chanFault_rd ..).trans (State.rd_wr_ne _ (hg _ List.mem_cons_self) 1), by rw [hframe]⟩

theorem mapTakes_nil (h : s.mapTdc = []) : mapTakes s = s := by
  unfold mapTakes
  rw [h]
  rfl

/-- Channel `k` takes the table that its hits make into use (R259). -/
def tableTaken (k : Nat) (hits : List Nat) (s : State) : State :=
  (s.putChan k { s.chan k with table := tapCentres s.calHits 0 (hits.take 512) 0, added := 0 }).wrs
    [(Reg.TDC_CAL_STATUS_CAL_BUSY k, 0), (Reg.TDC_CAL_STATUS_TABLE_VALID k, 1), (Reg.TDC_CAL_STATUS_CAL_FAIL k, 0),
     (Reg.TDC_CMD_CAL k, 0), (Reg.TDC_CAL_STATUS_T_CAL k, s.rd (Reg.DEV_TEMP_VALUE 2))]

theorem tableTaken_fields (k : Nat) (hits : List Nat) (s : State) :
    (tableTaken k hits s).rd (Reg.TDC_CAL_STATUS_CAL_BUSY k) = 0 ∧
    (tableTaken k hits s).rd (Reg.TDC_CAL_STATUS_TABLE_VALID k) = 1 ∧
    (tableTaken k hits s).rd (Reg.TDC_CAL_STATUS_CAL_FAIL k) = 0 ∧ (tableTaken k hits s).rd (Reg.TDC_CMD_CAL k) = 0 := by
  unfold tableTaken
  refine ⟨?_, ?_, ?_, ?_⟩ <;> simp (disch := (simp <;> omega)) [State.wrs]

theorem tableTaken_chan (k : Nat) (hits : List Nat) (s : State) : (tableTaken k hits s).chan k =
    { s.chan k with table := tapCentres s.calHits 0 (hits.take 512) 0, added := 0 } := s.chan_put_self ..

theorem tableTaken_chan_ne {j k : Nat} (h : j ≠ k) (hits : List Nat) (s : State) : (tableTaken k hits s).chan j = s.chan j :=
  s.chan_put_ne h.symm _

theorem tableTaken_frame (k : Nat) (hits : List Nat) (s : State) :
    ∃ r c, tableTaken k hits s = { s with regs := r, chans := c } := by
  obtain ⟨r, h⟩ := State.wrs_frame (s.putChan k { s.chan k with table := tapCentres s.calHits 0 (hits.take 512) 0, added := 0 })
    [(Reg.TDC_CAL_STATUS_CAL_BUSY k, 0), (Reg.TDC_CAL_STATUS_TABLE_VALID k, 1), (Reg.TDC_CAL_STATUS_CAL_FAIL k, 0),
     (Reg.TDC_CMD_CAL k, 0), (Reg.TDC_CAL_STATUS_T_CAL k, s.rd (Reg.DEV_TEMP_VALUE 2))]
  exact ⟨r, _, h⟩

theorem chanFault_tableTaken_frame (k : Nat) (hits : List Nat) (s : State) :
    ∃ r c f, chanFault k (tableTaken k hits s) = { s with regs := r, chans := c, flt := f } := by
  obtain ⟨c, f, h⟩ := chanFault_frame k (tableTaken k hits s)
  obtain ⟨r, c', ht⟩ := tableTaken_frame k hits s
  exact ⟨r, c, f, by rw [h, ht]⟩

section
variable {hits : List Nat} (hbusy : s.rd (Reg.TDC_CAL_STATUS_CAL_BUSY ch) ≠ 0) (hbist : s.bist ≠ some (2, ch.val))
include hbusy hbist

theorem exec_calComplete : exec (.calComplete ch hits) s = .next (calDone ch hits s) := by
  refine congrArg Host.Outcome.next (if_neg ?_)
  simp [State.bit, hbusy, hbist]

theorem exec_calComplete_good (hmap : s.mapTdc = []) (hgood : ∀ x ∈ hits, 512 * x ≤ 4 * s.calHits) :
    exec (.calComplete ch hits) s = .next (chanFault ch (tableTaken ch hits s)) := by
  have hany : hits.any (fun x => decide (4 * s.calHits < 512 * x)) = false :=
    List.any_eq_false.mpr fun x hx => by simpa using hgood x hx
  have hnil : (chanFault ch (tableTaken ch hits s)).mapTdc = [] := by
    obtain ⟨_, _, hf⟩ := chanFault_frame ch (tableTaken ch hits s)
    rw [hf]
    exact hmap
  rw [exec_calComplete hbusy hbist, calDone, hany, if_neg Bool.false_ne_true]
  exact congrArg Host.Outcome.next (mapTakes_nil hnil)

theorem exec_calComplete_takes (hmap : s.mapTdc = []) (hgood : ∀ x ∈ hits, 512 * x ≤ 4 * s.calHits) :
    ∃ t, exec (.calComplete ch hits) s = .next t ∧ t.rd (Reg.TDC_CAL_STATUS_CAL_BUSY ch) = 0 ∧
      t.rd (Reg.TDC_CAL_STATUS_TABLE_VALID ch) = 1 ∧ t.rd (Reg.TDC_CAL_STATUS_CAL_FAIL ch) = 0 ∧ t.rd (Reg.TDC_CMD_CAL ch) = 0 ∧
      (t.chan ch).table = tapCentres s.calHits 0 (hits.take 512) 0 ∧ (t.chan ch).added = 0 ∧
      (∀ k, k ≠ ch.val → t.chan k = s.chan k) ∧ t = { s with regs := t.regs, chans := t.chans, flt := t.flt } := by
  obtain ⟨r, k, f, hframe⟩ := chanFault_tableTaken_frame ch hits s
  obtain ⟨hidle, hvalid, hfail, hcmd⟩ := tableTaken_fields ch hits s
  obtain ⟨x, hx⟩ := chanFault_chan_self ch (tableTaken ch hits s)
  rw [tableTaken_chan] at hx
  exact ⟨_, exec_calComplete_good hbusy hbist hmap hgood, (chanFault_rd ..).trans hidle, (chanFault_rd ..).trans hvalid,
    (chanFault_rd ..).trans hfail, (chanFault_rd ..).trans hcmd, by rw [hx], by rw [hx],
    fun j hj => (chanFault_chan_ne hj _).trans (tableTaken_chan_ne hj ..), by rw [hframe]⟩

theorem exec_calComplete_bad (hbad : ∃ x ∈ hits, 4 * s.calHits < 512 * x) :
    ∃ t, exec (.calComplete ch hits) s = .next t ∧ s.dropsTable ch t := by
  have hany : hits.any (fun x => decide (4 * s.calHits < 512 * x)) = true := by simpa using hbad
  refine ⟨mapTakes (chanFails ch (calFail ch s)), ?_,
    ((calFail_dropsTable ch s).trans_keeps (chanFails_chanKeeps ch _)).trans_keeps (mapTakes_chanKeeps _)⟩
  rw [exec_calComplete hbusy hbist, calDone, hany, if_pos rfl]

end


/-! ### O17 -/

/-- Settles O17: an edge is followed from the input of its role to the consumers of its stamp, and a channel from its lock to its
table; what neither may touch is read off `EdgeKeeps` and `ChanKeeps`. -/
theorem edgesAndTables : Obligations.edges_and_tables := by
  unfold Obligations.edges_and_tables
  refine ⟨fun role x s => ⟨exec_tdcEdgeCapture_untaken, fun ht hc hon hpre => ?prescaled, fun hp hc hs hok => ?uncaptured,
    fun hp => exec_tdcEdgeCapture_lost hp.1 hp.2, fun hp => exec_tdcEdgeCapture_counts hp.1 hp.2⟩,
    fun ch hits s => ⟨fun htb => ?lock, exec_dllUnlock_losesLock, exec_dllRelock_relocks, exec_tdcCal_idle, exec_tdcCal_again,
      fun ho => ?all, exec_calComplete_takes, exec_calComplete_bad⟩⟩
  case prescaled =>
    exact ⟨_, exec_tdcEdgeCapture_prescaled ht hc hon hpre, s.slot_put_self .., fun m hm => s.slot_put_ne hm.symm _, rfl⟩
  case uncaptured => rw [exec_tdcEdgeCapture_other hp.1 hc, roleEdge_uncaptured hs hok]
  case lock =>
    obtain ⟨r, hr⟩ := dllsLock_frame s
    exact ⟨_, exec_dllFirstLock htb, fun c hc => dllsLock_measure hc s, by rw [hr]⟩
  case all =>
    obtain ⟨r, hr⟩ := calAll_frame s
    exact ⟨_, exec_calAll ho, fun c hc => calAll_allowed hc, fun c _ => calAll_refused, by rw [hr]⟩

end Sys2Proof.Machine
end

section
/-! The command ports of the lessons (R75, R139, R142): a command row is the host's commit of its word to host-in word 0 and the
pass of the lesson that serves the port (assumption 9). -/
namespace Sys2Proof.Machine

variable {e op : Nat} {c : CmdWord} {s : State}

@[simp] theorem cmdRead_op (c : CmdWord) (op : Nat) : (cmdRead c op).op = op := rfl
@[simp] theorem cmdRead_seq (c : CmdWord) (op : Nat) : (cmdRead c op).seq = c.seq.toNat := rfl

/-! ### The host's commit (R75, R141) -/

theorem Command.ofWord_cmdWord (hop : op < 256) (c : CmdWord) : Command.ofWord (cmdWord c op) = cmdRead c op := by
  obtain ⟨hseq, hpath, hslot, hvalue⟩ := And.intro c.seq.isLt <| And.intro c.path.isLt <| And.intro c.slot.isLt c.value.isLt
  simp only [Command.ofWord, cmdWord, cmdRead, Command.mk.injEq]
  omega

theorem hostCommand_frame (e w : Nat) (s : State) : ∃ g x, hostCommand e w s = { s with regs := g, words := x } := ⟨_, _, rfl⟩

theorem hostCommand_regsBut (e w : Nat) (s : State) :
    s.regsBut [Reg.ENG_HIN_HI_DATA (s.hostOwner e) 0, Reg.ENG_HIN_LO_DATA (s.hostOwner e) 0] (hostCommand e w s) :=
  s.regsBut_wrs [(Reg.ENG_HIN_HI_DATA (s.hostOwner e) 0, w / 2 ^ 32), (Reg.ENG_HIN_LO_DATA (s.hostOwner e) 0, w)] (by simp)

theorem hostCommand_posted (e op : Nat) (c : CmdWord) (s : State) : s.posted e op c (hostCommand e (cmdWord c op) s) := by
  refine ⟨?_, fun k hk => ?_, hostCommand_regsBut e _ s⟩
  · rw [hostCommand, State.hostWords_put_self]
    exact tabGet_set_self ..
  · rw [hostCommand, State.hostWords_put_ne _ hk.symm]
    exact s.hostWords_wrs _ k

theorem State.posted.congr {t u : State} (h : s.posted e op c t) (hr : u.regs = t.regs) (hw : u.words = t.words) :
    s.posted e op c u := by
  obtain ⟨hword, hothers, hregs⟩ := h
  have hwords : ∀ k, u.hostWords k = t.hostWords k := fun k => by rw [State.hostWords, hw]; rfl
  exact ⟨by rw [hwords]; exact hword, fun k hk => (hwords k).trans (hothers k hk), hregs.trans (State.regsBut_of_regs_eq hr _)⟩

/-- The commit touches nothing that decides whether a lesson runs. -/
theorem hostCommand_serves (he : e < 16) (w : Nat) (c : CmdWord) (s : State) : (hostCommand e w s).serves e c ↔ s.serves e c := by
  have howner : s.hostOwner e = e := if_neg fun h => by omega
  have hkept : ∀ f : Fld, f.key ≠ (Reg.ENG_HIN_HI_DATA e 0).key → f.key ≠ (Reg.ENG_HIN_LO_DATA e 0).key →
      (hostCommand e w s).rd f = s.rd f := fun f hhi hlo =>
    hostCommand_regsBut e w s f (by rw [howner]; simpa using ⟨hhi.symm, hlo.symm⟩)
  have hhalt := hkept (Reg.ENG_CTRL_HALT e) (by simp only [Fld.key, Reg.ENG_CTRL_HALT, Reg.ENG_HIN_HI_DATA]; omega)
    (by simp only [Fld.key, Reg.ENG_CTRL_HALT, Reg.ENG_HIN_LO_DATA]; omega)
  have hgate := hkept Reg.SEC_STATUS_GATE (by simp only [Fld.key, Reg.SEC_STATUS_GATE, Reg.ENG_HIN_HI_DATA]; omega)
    (by simp only [Fld.key, Reg.SEC_STATUS_GATE, Reg.ENG_HIN_LO_DATA]; omega)
  have harmed := hkept (Reg.ENG_CTRL_ENABLE 16) (by simp only [Fld.key, Reg.ENG_CTRL_ENABLE, Reg.ENG_HIN_HI_DATA]; omega)
    (by simp only [Fld.key, Reg.ENG_CTRL_ENABLE, Reg.ENG_HIN_LO_DATA]; omega)
  simp only [State.serves, State.sylRuns, State.engHalted, State.gateOpen, State.armed, State.bit, hhalt, hgate, harmed]
  rfl

/-! ### The lesson's pass (R142) -/

/-- The echo of command `c` of operation `op` with RESULT `code`. -/
def echoWord (op : Nat) (c : CmdWord) (code echo : Nat) : Word64 :=
  BitVec.ofNat 64 (op * 2 ^ 56 + c.seq.toNat * 2 ^ 48 + code * 2 ^ 40 + echo % 2 ^ 32)

/-- The lesson of engine `e` records the SEQ of `c`. -/
def State.seqTaken (s : State) (e : Nat) (c : CmdWord) : State :=
  { s with syl := { s.syl with seq := tabSet 0 e c.seq.toNat s.syl.seq } }

theorem runCommand_unserved (hop : op < 256) (h : Handler) (hs : ¬ s.serves e c) : runCommand e h (cmdWord c op) s = s := by
  refine if_pos ?_
  rw [Command.ofWord_cmdWord hop]
  simp only [State.serves, not_and, Decidable.not_not] at hs
  cases hrun : s.sylRuns e
  case false => rfl
  case true => simp [hs hrun]

section
variable {h : Handler} {r : CmdResult} {echo : Nat} {v : State} (hop : op < 256) (hs : s.serves e c)
include hop hs

theorem runCommand_valid (hh : h (cmdRead c op) s = (.ok, echo, v)) :
    runCommand e h (cmdWord c op) s = lessonWrite e 0x240 (echoWord op c 0 echo) (v.seqTaken e c) := by
  obtain ⟨hrun, hseq⟩ := hs
  simp only [runCommand, Command.ofWord_cmdWord hop, hrun, hseq, hh, cmdRead_op, cmdRead_seq, Bool.not_true, decide_false,
    Bool.or_self, Bool.false_eq_true, if_false, if_true]
  rfl

theorem runCommand_refused (hh : h (cmdRead c op) s = (r, echo, v)) (hr : r ≠ .ok) :
    runCommand e h (cmdWord c op) s = lessonWrite e 0x240 (echoWord op c r.code echo) (s.seqTaken e c) := by
  obtain ⟨hrun, hseq⟩ := hs
  simp only [runCommand, Command.ofWord_cmdWord hop, hrun, hseq, hh, hr, cmdRead_op, cmdRead_seq, Bool.not_true, decide_false,
    Bool.or_self, Bool.false_eq_true, if_false]
  rfl

end

/-! ### A command row -/

theorem commandRow_unserved (he : e < 16) (hop : op < 256) (h : Handler) (hs : ¬ s.serves e c) :
    commandRow e op h c s = hostCommand e (cmdWord c op) s :=
  runCommand_unserved hop h fun hu => hs ((hostCommand_serves he ..).mp hu)

theorem commandRow_posted (he : e < 16) (hop : op < 256) (h : Handler) (hs : ¬ s.serves e c) :
    s.posted e op c (commandRow e op h c s) ∧
      commandRow e op h c s = { s with regs := (commandRow e op h c s).regs, words := (commandRow e op h c s).words } := by
  rw [commandRow_unserved he hop h hs]
  obtain ⟨g, x, hframe⟩ := hostCommand_frame e (cmdWord c op) s
  exact ⟨hostCommand_posted e op c s, by rw [hframe]⟩

/-- A pass that finds the word committed and writes its echo has answered the command. -/
theorem State.posted.answered {t : State} (h : s.posted e op c t)
    (hframe : ∃ g w y, t = { s with regs := g, words := w, syl := y }) (code echo : Nat) :
    s.answered e op c code echo t.syl (lessonWrite e 0x240 (echoWord op c code echo) (t.seqTaken e c)) := by
  obtain ⟨g, w, y, rfl⟩ := hframe
  exact ⟨rfl, rfl, h.congr rfl rfl, rfl⟩

section
variable {h : Handler} {r : CmdResult} {echo : Nat} (he : e < 16) (hop : op < 256) (hs : s.serves e c)
include he hop hs

/-- A valid command whose handler moves the lessons' memory alone is answered with the memory that it leaves. -/
theorem commandRow_valid {y : Syllabus} (hh : h (cmdRead c op) (hostCommand e (cmdWord c op) s) =
    (.ok, echo, { hostCommand e (cmdWord c op) s with syl := y })) : s.answered e op c 0 echo y (commandRow e op h c s) := by
  have hposted := hostCommand_posted e op c s
  obtain ⟨g, w, hframe⟩ := hostCommand_frame e (cmdWord c op) s
  have hserves := (hostCommand_serves he (cmdWord c op) c s).mpr hs
  rw [commandRow]
  generalize hostCommand e (cmdWord c op) s = u at *
  rw [runCommand_valid hop hserves hh]
  exact (hposted.congr rfl rfl : s.posted e op c { u with syl := y }).answered ⟨g, w, y, by rw [hframe]⟩ 0 echo

theorem commandRow_refused {v : State} (hh : h (cmdRead c op) (hostCommand e (cmdWord c op) s) = (r, echo, v)) (hr : r ≠ .ok) :
    s.answered e op c r.code echo s.syl (commandRow e op h c s) := by
  have hposted := hostCommand_posted e op c s
  obtain ⟨g, w, hframe⟩ := hostCommand_frame e (cmdWord c op) s
  have hserves := (hostCommand_serves he (cmdWord c op) c s).mpr hs
  rw [commandRow]
  generalize hostCommand e (cmdWord c op) s = u at *
  rw [runCommand_refused hop hserves hh hr]
  have hanswer := hposted.answered ⟨g, w, s.syl, hframe⟩ r.code echo
  rwa [show u.syl = s.syl by rw [hframe]] at hanswer

end

end Sys2Proof.Machine
end

section
/-! The command port of roll call (R140 to R142, R148): which commands are valid, and the setting that each answers. -/
namespace Sys2Proof.Machine

variable {op : Nat} {c : CmdWord} {s : State}

/-! ### What the handler reads and moves -/

/-- The operation whose setting a command answers (R141): GET names it in VALUE. -/
def Command.rollAsks (x : Command) : Nat := if x.op = 0xF then x.value % 256 else x.op

theorem rollAsks_of_ne (h : op ≠ 0xF) (c : CmdWord) : (cmdRead c op).rollAsks = op := if_neg h

theorem rollAsks_get (h : c.value.toNat < 256) : (cmdRead c 0xF).rollAsks = c.value.toNat := Nat.mod_eq_of_lt h

/-- A command of roll call reads and moves the lessons' memory alone. -/
theorem rollApply_frame (x : Command) (g : Tab Nat) (w : Tab HostWords) (s : State) :
    rollApply x { s with regs := g, words := w } = { s with regs := g, words := w, syl := (rollApply x s).syl } := by
  unfold rollApply
  dsimp only
  split <;> rfl

theorem rollHandler_valid {x : Command} (hok : s.rollCheck x = .ok) {u : State} (hu : ∃ g w, u = { s with regs := g, words := w }) :
    rollHandler x u = (.ok, (rollApply x s).rollSetting x.rollAsks x.path x.slot, { u with syl := (rollApply x s).syl }) := by
  obtain ⟨g, w, rfl⟩ := hu
  have hcheck : State.rollCheck { s with regs := g, words := w } x = .ok := hok
  simp only [rollHandler, hcheck, if_true, rollApply_frame]
  rfl

theorem rollHandler_refused {x : Command} {r : CmdResult} (hr : s.rollCheck x = r) (hne : r ≠ .ok) {u : State}
    (hu : ∃ g w, u = { s with regs := g, words := w }) :
    rollHandler x u = (r, s.rollSetting x.rollAsks x.path x.slot, u) := by
  obtain ⟨g, w, rfl⟩ := hu
  have hcheck : State.rollCheck { s with regs := g, words := w } x = r := hr
  simp only [rollHandler, hcheck, if_neg hne]
  rfl

/-! ### The check (R140, R142) -/

/-- An operation of R141. -/
def rollOp (op : Nat) : Prop := op = 0xF ∨ (1 ≤ op ∧ op ≤ 5)

theorem rollOp_lt (hop : rollOp op) : op < 256 := by unfold rollOp at hop; omega

/-- The command would give its slot a second home path (R140). -/
def State.secondHome (s : State) (x : Command) : Prop :=
  (x.op = 1 ∧ x.value % 16 ≠ 0 ∨ x.op = 2 ∧ x.value % 4 = 2) ∧ s.homeElsewhere x.path x.slot = true

/-- The VALUE of the command, or a field that its operation does not use, is out of range (R141). -/
def Command.rollMalformed (x : Command) : Prop :=
  (x.op = 1 ∧ 15 < x.value) ∨
  (x.op = 2 ∧ (31 < x.value ∨ x.value % 4 = 3 ∨ x.value / 4 % 4 ≠ 0)) ∨
  (x.op = 3 ∧ (x.slot ≠ 0 ∨ x.value / 16 % 8 = 0 ∨ x.value / 4 % 4 ≠ 0 ∨ x.value / 128 % 512 ≠ 0 ∨ x.value / 65536 = 0)) ∨
  (x.op = 4 ∧ (x.slot ≠ 0 ∨ x.value = 0 ∨ 65535 < x.value)) ∨
  (x.op = 5 ∧ (x.path ≠ 0 ∨ x.value = 0 ∨ 2 ^ 24 ≤ x.value)) ∨
  (x.op = 0xF ∧ (x.value = 0 ∨ 5 < x.value))

theorem not_secondHome_rank (h : c.value.toNat % 16 = 0 ∨ s.homeElsewhere c.path.toNat c.slot.toNat = false) :
    ¬ s.secondHome (cmdRead c 1) := by
  rintro ⟨hop | hop, hhome⟩
  · rcases h with h | h
    · exact hop.2 h
    · exact Bool.false_ne_true (h.symm.trans hhome)
  · exact absurd hop.1 (by simp)

theorem not_secondHome_mode (h : c.value.toNat % 4 ≠ 2 ∨ s.homeElsewhere c.path.toNat c.slot.toNat = false) :
    ¬ s.secondHome (cmdRead c 2) := by
  rintro ⟨hop | hop, hhome⟩
  · exact absurd hop.1 (by simp)
  · rcases h with h | h
    · exact h hop.2
    · exact Bool.false_ne_true (h.symm.trans hhome)

theorem not_secondHome_of_lt (hop : 2 < op) : ¬ s.secondHome (cmdRead c op) := by
  rintro ⟨⟨rfl, -⟩ | ⟨rfl, -⟩, -⟩ <;> simp at hop

section
variable {x : Command} (hop : rollOp x.op)
include hop

theorem rollCheck_badPath (hp : 7 < x.path) : s.rollCheck x = .badPath := by
  unfold rollOp at hop
  unfold State.rollCheck
  rw [if_neg (by omega), if_pos hp]

theorem rollCheck_badSlot (hp : x.path ≤ 7) (hn : 23 < x.slot) : s.rollCheck x = .badSlot := by
  unfold rollOp at hop
  unfold State.rollCheck
  rw [if_neg (by omega), if_neg (by omega), if_pos (.inl hn)]

theorem rollCheck_value (hp : x.path ≤ 7) (hn : x.slot ≤ 23) (hh : ¬ s.secondHome x) :
    (x.rollMalformed → s.rollCheck x = .badValue) ∧ (¬ x.rollMalformed → s.rollCheck x = .ok) := by
  have hslot : ¬(23 < x.slot ∨ (x.op = 1 ∧ x.value % 16 ≠ 0 ∧ s.homeElsewhere x.path x.slot) ∨
      (x.op = 2 ∧ x.value % 4 = 2 ∧ s.homeElsewhere x.path x.slot)) := by
    rintro (h | ⟨h, hv, hhome⟩ | ⟨h, hv, hhome⟩)
    · omega
    · exact hh ⟨.inl ⟨h, hv⟩, hhome⟩
    · exact hh ⟨.inr ⟨h, hv⟩, hhome⟩
  unfold rollOp at hop
  unfold State.rollCheck
  rw [if_neg (by omega), if_neg (by omega), if_neg hslot]
  rcases hop with h | ⟨hlo, hhi⟩
  · simp [h, Command.rollMalformed]; omega
  · interval_cases h : x.op <;> simp [h, Command.rollMalformed] <;> omega

end

/-! ### The settings as they are answered (R141) -/

theorem flagIf_testBit (v i : Nat) : flagIf (v.testBit i) (2 ^ i) = v / 2 ^ i % 2 * 2 ^ i := by
  rw [flagIf, Nat.testBit_eq_decide_div_mod_eq]
  rcases Nat.mod_two_eq_zero_or_one (v / 2 ^ i) with h | h <;> simp [h]

section
variable (s : State) (p n v : Nat)

theorem rollSetting_rank : (s.putSylPath p { s.sylPath p with
    pol := { (s.sylPath p).pol with rank := tabSet 0 n v (s.sylPath p).pol.rank } }).rollSetting 1 p n = v := by
  simp [State.rollSetting, State.rankOf]

theorem rollSetting_mode (hv : v ≤ 31) (hz : v / 4 % 4 = 0) : (s.putSylPath p { s.sylPath p with
    away := false
    pol := { (s.sylPath p).pol with mode := v % 4, manual := n, manRet := v.testBit 4 } }).rollSetting 2 p n = v := by
  have hret : flagIf (v.testBit 4) 16 = v / 16 % 2 * 16 := flagIf_testBit v 4
  simp only [State.rollSetting, State.sylPath_put_self]
  omega

theorem rollSetting_policy (hz : v / 4 % 4 = 0) (hz' : v / 128 % 512 = 0) : (s.putSylPath p { s.sylPath p with
    pol := { (s.sylPath p).pol with
      revert := v.testBit 0, realign := v.testBit 1, minGrade := v / 16 % 8, settle := v / 65536 } }).rollSetting 3 p n = v := by
  have hrevert : flagIf (v.testBit 0) 1 = v / 1 % 2 * 1 := flagIf_testBit v 0
  have halign : flagIf (v.testBit 1) 2 = v / 2 % 2 * 2 := flagIf_testBit v 1
  simp only [State.rollSetting, State.sylPath_put_self]
  omega

theorem rollSetting_prepLimit : (s.putSylPath p { s.sylPath p with
    pol := { (s.sylPath p).pol with prepLimit := v } }).rollSetting 4 p n = v := by
  simp [State.rollSetting]

theorem rollSetting_concord : (s.putSylSlot n { s.sylSlot n with concord := v }).rollSetting 5 p n = v := by
  simp [State.rollSetting, State.sylSlot, State.putSylSlot]

end

/-! ### The rows (R141) -/

/-- The commands of roll call by their operations. -/
def rollRows (c : CmdWord) : List (Nat × Instr) :=
  [(15, .rollCallGet c), (1, .setRank c), (2, .setMode c), (3, .setPolicy c), (4, .setPrepLimit c), (5, .setConcord c)]

theorem exec_rollRow {r : Nat × Instr} (hr : r ∈ rollRows c) (s : State) :
    exec r.2 s = .next (commandRow 10 r.1 rollHandler c s) := by
  simp only [rollRows, List.mem_cons, List.not_mem_nil, or_false] at hr
  rcases hr with rfl | rfl | rfl | rfl | rfl | rfl <;> rfl

theorem rollOp_of_mem {r : Nat × Instr} (hr : r ∈ rollRows c) : rollOp r.1 := by
  simp only [rollRows, List.mem_cons, List.not_mem_nil, or_false] at hr
  rcases hr with rfl | rfl | rfl | rfl | rfl | rfl <;> simp [rollOp]

/-- All of them but GET. -/
theorem rollSets_of_mem {r : Nat × Instr} (hr : r ∈ (rollRows c).tail) : r.1 ≠ 0xF := by
  simp only [rollRows, List.tail_cons, List.mem_cons, List.not_mem_nil, or_false] at hr
  rcases hr with rfl | rfl | rfl | rfl | rfl <;> simp

/-- A row of roll call whose command is valid leaves `u` and answers the setting that stands there. -/
theorem rollRow_answers {echo : Nat} {u : State} (hop : rollOp op) (hs : s.serves 10 c) (hp : c.path.toNat ≤ 7)
    (hn : c.slot.toNat ≤ 23) (hone : ¬ s.secondHome (cmdRead c op)) (hgood : ¬ (cmdRead c op).rollMalformed)
    (hu : rollApply (cmdRead c op) s = u) (hecho : u.rollSetting (cmdRead c op).rollAsks c.path.toNat c.slot.toNat = echo) :
    s.answered 10 op c 0 echo u.syl (commandRow 10 op rollHandler c s) := by
  subst hu hecho
  exact commandRow_valid (by decide) (rollOp_lt hop) hs
    (rollHandler_valid ((rollCheck_value hop hp hn hone).2 hgood) (hostCommand_frame ..))

/-- A command that sets, and is not valid, answers the setting as it stands. -/
theorem rollSet_refused {r : Nat × Instr} (hr : r ∈ (rollRows c).tail) (hs : s.serves 10 c) {z : CmdResult}
    (hz : s.rollCheck (cmdRead c r.1) = z) (hne : z ≠ .ok) : ∃ t, exec r.2 s = .next t ∧
      s.answered 10 r.1 c z.code (s.rollSetting r.1 c.path.toNat c.slot.toNat) s.syl t := by
  have hmem := List.mem_of_mem_tail hr
  have hanswer := commandRow_refused (by decide) (rollOp_lt (rollOp_of_mem hmem)) hs
    (rollHandler_refused hz hne (hostCommand_frame ..)) hne
  rw [rollAsks_of_ne (rollSets_of_mem hr)] at hanswer
  exact ⟨_, exec_rollRow hmem s, hanswer⟩

/-! ### O35 -/

/-- Settles O35: a command that roll call serves is answered by what its check says of it (`rollCheck_badPath`,
`rollCheck_badSlot`, `rollCheck_value`), and each valid one by the setting that it makes. -/
theorem rollCallPort : Obligations.roll_call_port := by
  unfold Obligations.roll_call_port
  intro c s p n v x rows
  refine ⟨fun hs r hr => ⟨_, exec_rollRow hr s, commandRow_posted (by decide) (rollOp_lt (rollOp_of_mem hr)) _ hs⟩,
    fun hs => ⟨fun hp hn hv hone => ?rank, fun hp hn hone hv hmode hz => ?mode, fun hp hn hgrade hz hz' hsettle => ?policy,
      fun hp hn hv hv' => ?prepLimit, fun hp hn hv hv' => ?concord, fun hp hn hv hv' => ?get,
      fun r hr => ⟨fun hp => ?badPath, fun hp hn => ?badSlot⟩, fun hp hn hv hone => ?badRank⟩⟩
  case rank =>
    exact ⟨_, rfl, rollRow_answers (by simp [rollOp]) hs hp hn (not_secondHome_rank (hone.imp_left (by omega)))
      (by simp only [Command.rollMalformed, cmdRead]; omega) rfl (rollSetting_rank ..)⟩
  case mode =>
    exact ⟨_, rfl, rollRow_answers (by simp [rollOp]) hs hp hn (not_secondHome_mode hone)
      (by simp only [Command.rollMalformed, cmdRead]; omega) rfl (rollSetting_mode s p n v hv hz)⟩
  case policy =>
    exact ⟨_, rfl, rollRow_answers (by simp [rollOp]) hs hp (by omega) (not_secondHome_of_lt (by decide))
      (by simp only [Command.rollMalformed, cmdRead]; omega) rfl (rollSetting_policy s p n v hz hz')⟩
  case prepLimit =>
    exact ⟨_, rfl, rollRow_answers (by simp [rollOp]) hs hp (by omega) (not_secondHome_of_lt (by decide))
      (by simp only [Command.rollMalformed, cmdRead]; omega) rfl (rollSetting_prepLimit ..)⟩
  case concord =>
    exact ⟨_, rfl, rollRow_answers (by simp [rollOp]) hs (by omega) hn (not_secondHome_of_lt (by decide))
      (by simp only [Command.rollMalformed, cmdRead]; omega) rfl (rollSetting_concord ..)⟩
  case get =>
    exact ⟨_, rfl, rollRow_answers (by simp [rollOp]) hs hp hn (not_secondHome_of_lt (by decide))
      (by simp only [Command.rollMalformed, cmdRead]; omega) rfl (by rw [rollAsks_get (by omega)])⟩
  case badPath =>
    exact rollSet_refused (z := .badPath) hr hs (rollCheck_badPath (rollOp_of_mem (List.mem_of_mem_tail hr)) hp) (by decide)
  case badSlot =>
    exact rollSet_refused (z := .badSlot) hr hs (rollCheck_badSlot (rollOp_of_mem (List.mem_of_mem_tail hr)) hp hn) (by decide)
  case badRank =>
    have hvalue := (rollCheck_value (by simp [rollOp]) hp hn (not_secondHome_rank hone)).1 (.inl ⟨rfl, hv⟩)
    exact rollSet_refused (z := .badValue) (r := (1, .setRank c)) (by simp [rollRows]) hs hvalue (by decide)

end Sys2Proof.Machine
end

section
/-! The command ports of the paths (R174, R175, R217): which commands are valid, and the setting that each answers. -/
namespace Sys2Proof.Machine

variable {op g : Nat} {c : CmdWord} {s : State}

/-! ### What the handler reads and moves -/

/-- The operation whose setting a command answers (R174): PATH_GET names it in VALUE. -/
def Command.loopAsks (x : Command) : Nat := if x.op = 0x1F then x.value % 256 else x.op

theorem loopAsks_get (h : c.value.toNat < 256) : (cmdRead c 0x1F).loopAsks = c.value.toNat := Nat.mod_eq_of_lt h

/-- A path command reads and moves the lessons' memory alone. -/
theorem loopApply_frame (x : Command) (r : Tab Nat) (w : Tab HostWords) (s : State) :
    loopApply x { s with regs := r, words := w } = { s with regs := r, words := w, syl := (loopApply x s).syl } := by
  unfold loopApply
  dsimp only
  split <;> rfl

theorem loopHandler_valid {x : Command} (hok : loopCheck g x = .ok) {u : State}
    (hu : ∃ r w, u = { s with regs := r, words := w }) :
    loopHandler g x u = (.ok, (loopApply x s).loopSetting x.loopAsks x.path, { u with syl := (loopApply x s).syl }) := by
  obtain ⟨r, w, rfl⟩ := hu
  simp only [loopHandler, hok, if_true, loopApply_frame]
  rfl

theorem loopHandler_badValue {x : Command} (hbad : loopCheck g x = .badValue) {u : State}
    (hu : ∃ r w, u = { s with regs := r, words := w }) :
    loopHandler g x u = (.badValue, s.loopSetting x.loopAsks x.path, u) := by
  obtain ⟨r, w, rfl⟩ := hu
  simp only [loopHandler, hbad]
  rfl

theorem loopHandler_badPath {x : Command} (hbad : loopCheck g x = .badPath) (u : State) :
    loopHandler g x u = (.badPath, 0, u) := by
  simp only [loopHandler, hbad]
  rfl

/-! ### The check (R174, R217) -/

/-- An operation of R174 or R217. -/
def loopOp (op : Nat) : Prop := op = 0x1F ∨ (0x10 ≤ op ∧ op ≤ 0x16)

theorem loopOp_lt (hop : loopOp op) : op < 256 := by unfold loopOp at hop; omega

/-- The VALUE of the command is one that its operation takes. -/
def Command.loopInRange (x : Command) : Prop :=
  match x.op with
  | 0x10 => 1 ≤ x.value ∧ x.value ≤ 40000000
  | 0x11 => 64 ≤ x.value ∧ x.value ≤ 1024
  | 0x12 => 1 ≤ x.value ∧ x.value ≤ 5000000
  | 0x13 => 1 ≤ x.value ∧ x.value ≤ 500000
  | 0x14 => 1 ≤ x.value % 65536 ∧ 1 ≤ x.value / 65536
  | 0x15 => 1 ≤ x.value ∧ x.value ≤ 1000
  | 0x16 => x.value = 31 ∨ (4 * x.path ≤ x.value ∧ x.value ≤ 4 * x.path + 3 ∧ x.value ≤ 15)
  | _ => (0x10 ≤ x.value ∧ x.value ≤ 0x16) ∨ x.value = 0x1E

section
variable {x : Command} (hop : loopOp x.op)
include hop

theorem loopCheck_badPath (hp : x.path / 2 ≠ g) : loopCheck g x = .badPath := by
  unfold loopOp at hop
  unfold loopCheck
  rw [if_neg (by omega), if_pos hp]

theorem loopCheck_value (hp : x.path / 2 = g) (hn : x.slot = 0) :
    (x.loopInRange → loopCheck g x = .ok) ∧ (¬ x.loopInRange → loopCheck g x = .badValue) := by
  unfold loopOp at hop
  unfold loopCheck
  rw [if_neg (by omega), if_neg (not_not.mpr hp)]
  rcases hop with h | ⟨hlo, hhi⟩
  · simp [h, hn, Command.loopInRange]; omega
  · interval_cases h : x.op <;> simp [h, hn, Command.loopInRange] <;> omega

end

/-! ### The settings of a path (R174, R217) -/

/-- The setting of operation `op` in the record of a path. -/
def SylPath.loopSetting (x : SylPath) (op : Nat) : Nat :=
  match op with
  | 0x10 => x.loop.fn
  | 0x11 => x.loop.damp
  | 0x12 => x.loop.psl
  | 0x13 => x.loop.fclamp
  | 0x14 => x.loop.lockWin + x.loop.lockTime * 65536
  | 0x15 => x.loop.window
  | 0x16 => x.loop.zd
  | 0x1E => ofSigned 32 (satInt 32 x.b)
  | _ => 0

theorem State.loopSetting_eq (s : State) (op p : Nat) : s.loopSetting op p = (s.sylPath p).loopSetting op := rfl

@[simp] theorem State.loopSetting_put (s : State) (op p : Nat) (x : SylPath) :
    (s.putSylPath p x).loopSetting op p = x.loopSetting op := by
  rw [State.loopSetting_eq, State.sylPath_put_self]

/-- The record of a path with the frequency clamp `v`, under which its word and its integrator come (R174, R175). -/
def SylPath.clampedTo (x : SylPath) (v : Nat) : SylPath :=
  let l := { x.loop with fclamp := v }
  let y := if x.st = 3 then x.y else l.clampY x.y
  { x with
    loop := l, y := y, fclCmd := decide (y ≠ x.y)
    integ := if y = x.y then x.integ else clampInt (-l.fclampLsb * 2 ^ 48) (l.fclampLsb * 2 ^ 48) x.integ }

theorem loopApply_fclamp (c : CmdWord) (s : State) : loopApply (cmdRead c 0x13) s =
    s.putSylPath c.path.toNat ((s.sylPath c.path.toNat).clampedTo c.value.toNat) := rfl

/-! ### The rows (R174, R217) -/

/-- The commands of the port of paths 2g and 2g + 1 by their operations. -/
def loopRows (g : Fin 4) (c : CmdWord) : List (Nat × Instr) :=
  [(0x10, .setBw g c), (0x11, .setDamp g c), (0x12, .setPsl g c), (0x13, .setFclamp g c), (0x14, .setLock g c),
    (0x15, .setRollback g c), (0x16, .setZd g c), (0x1F, .pathGet g c)]

theorem loopRows_spec {g : Fin 4} {r : Nat × Instr} (hr : r ∈ loopRows g c) (s : State) :
    loopOp r.1 ∧ exec r.2 s = .next (commandRow (6 + g) r.1 (loopHandler g) c s) := by
  simp only [loopRows, List.mem_cons, List.not_mem_nil, or_false] at hr
  rcases hr with rfl | rfl | rfl | rfl | rfl | rfl | rfl | rfl <;> exact ⟨by simp [loopOp], rfl⟩

section
variable {g : Fin 4} (hop : loopOp op) (hs : s.serves (6 + g) c) (hp : c.path.toNat / 2 = g)
include hop hs

theorem loopRow_badPath (hp : c.path.toNat / 2 ≠ g) :
    s.answered (6 + g) op c 2 0 s.syl (commandRow (6 + g) op (loopHandler g) c s) :=
  commandRow_refused (r := .badPath) (by omega) (loopOp_lt hop) hs (loopHandler_badPath (loopCheck_badPath hop hp) _) (by decide)

include hp

/-- A row whose command is valid leaves `u` and answers the setting that stands there. -/
theorem loopRow_answers {echo : Nat} {u : State} (hn : c.slot = 0) (hv : (cmdRead c op).loopInRange)
    (hu : loopApply (cmdRead c op) s = u) (hecho : u.loopSetting (cmdRead c op).loopAsks c.path.toNat = echo) :
    s.answered (6 + g) op c 0 echo u.syl (commandRow (6 + g) op (loopHandler g) c s) := by
  subst hu hecho
  have hslot : (cmdRead c op).slot = 0 := congrArg BitVec.toNat hn
  exact commandRow_valid (by omega) (loopOp_lt hop) hs
    (loopHandler_valid ((loopCheck_value hop hp hslot).1 hv) (hostCommand_frame ..))

theorem loopRow_badValue (hn : c.slot = 0) (hv : ¬ (cmdRead c op).loopInRange) :
    s.answered (6 + g) op c 4 (s.loopSetting (cmdRead c op).loopAsks c.path.toNat) s.syl
      (commandRow (6 + g) op (loopHandler g) c s) := by
  have hslot : (cmdRead c op).slot = 0 := congrArg BitVec.toNat hn
  exact commandRow_refused (r := .badValue) (by omega) (loopOp_lt hop) hs
    (loopHandler_badValue ((loopCheck_value hop hp hslot).2 hv) (hostCommand_frame ..)) (by decide)

end

theorem State.answered.sylPath {e code echo : Nat} {y : Syllabus} {t : State} (h : s.answered e op c code echo y t) (p : Nat) :
    t.sylPath p = tabGet {} p y.paths := by
  obtain ⟨-, hsyl, -⟩ := h
  rw [State.sylPath, hsyl]

/-! ### O36 -/

/-- Settles O36: a command that a path's port serves is answered by what its check says of it (`loopCheck_badPath`,
`loopCheck_value`), and each valid one by the setting that it makes. -/
theorem pathPorts : Obligations.path_ports := by
  unfold Obligations.path_ports
  intro g c s e p v x rows sets
  refine ⟨fun hs r hr => ?unserved, fun hs => ⟨fun hp hn => ⟨fun h h' => ?bw, fun h h' => ?damp, fun h h' => ?psl,
    fun h h' => ?fclamp, fun h h' => ?lock, fun h h' => ?rollback, fun h => ?zd, fun h => ?get, fun h => ?zero⟩,
    fun r hr hp => ?badPath⟩⟩
  case unserved =>
    obtain ⟨hop, hexec⟩ := loopRows_spec hr s
    exact ⟨_, hexec, commandRow_posted (by omega) (loopOp_lt hop) _ hs⟩
  case badPath =>
    obtain ⟨hop, hexec⟩ := loopRows_spec hr s
    exact ⟨_, hexec, loopRow_badPath hop hs hp⟩
  case bw => exact ⟨_, rfl, loopRow_answers (by simp [loopOp]) hs hp hn ⟨h, h'⟩ rfl (s.loopSetting_put ..)⟩
  case damp => exact ⟨_, rfl, loopRow_answers (by simp [loopOp]) hs hp hn ⟨h, h'⟩ rfl (s.loopSetting_put ..)⟩
  case psl => exact ⟨_, rfl, loopRow_answers (by simp [loopOp]) hs hp hn ⟨h, h'⟩ rfl (s.loopSetting_put ..)⟩
  case fclamp =>
    have hanswer := loopRow_answers (op := 0x13) (by simp [loopOp]) hs hp hn ⟨h, h'⟩ (loopApply_fclamp c s)
      (s.loopSetting_put ..)
    have hpath : State.sylPath _ p = x.clampedTo v := (hanswer.sylPath p).trans (s.sylPath_put_self ..)
    exact ⟨_, rfl, by rw [hpath]; exact hanswer, congrArg SylPath.loop hpath,
      congrArg SylPath.y hpath, (congrArg SylPath.cur hpath :), (congrArg SylPath.st hpath :), (congrArg SylPath.b hpath :)⟩
  case lock =>
    exact ⟨_, rfl, loopRow_answers (by simp [loopOp]) hs hp hn ⟨h, h'⟩ rfl
      ((s.loopSetting_put ..).trans (Nat.mod_add_div' v 65536))⟩
  case rollback => exact ⟨_, rfl, loopRow_answers (by simp [loopOp]) hs hp hn ⟨h, h'⟩ rfl (s.loopSetting_put ..)⟩
  case zd => exact ⟨_, rfl, loopRow_answers (by simp [loopOp]) hs hp hn h rfl (s.loopSetting_put ..)⟩
  case get => exact ⟨_, rfl, loopRow_answers (by simp [loopOp]) hs hp hn h rfl (by rw [loopAsks_get (by omega)])⟩
  case zero =>
    have hv : ¬ (cmdRead c 0x10).loopInRange := by
      intro hr
      have hone : 1 ≤ v := hr.1
      omega
    exact ⟨_, rfl, loopRow_badValue (by simp [loopOp]) hs hp hn hv⟩

end Sys2Proof.Machine
end

section
/-! SUPPORT for the command ports of E11 to E13: the record of a port after a write, what a valid command's row leaves, and signed
fields read back. -/
namespace Sys2Proof.Machine

variable {e op : Nat} {c : CmdWord} {s : State}

@[simp] theorem State.sylPort_put_self (s : State) (n : Nat) (x : SylPort) : (s.putSylPort n x).sylPort n = x :=
  tabGet_set_self ..

/-- A two's-complement field takes back the bits that a signed reading of it has. -/
theorem ofSigned_toSigned (w v : Nat) : ofSigned w (toSigned w v) = v % 2 ^ w := by
  have hcast : ((v % 2 ^ w : Nat) : Int) = (v : Int) % 2 ^ w := by push_cast; rfl
  have hmod : toSigned w v % 2 ^ w = ((v % 2 ^ w : Nat) : Int) := by
    unfold toSigned
    split
    · rw [hcast, Int.emod_emod]
    · rw [Int.sub_emod_right, hcast, Int.emod_emod]
  rw [ofSigned, hmod, Int.toNat_natCast]

/-- A command that is valid is answered from the state in which its handler leaves it. -/
theorem commandRow_served {h : Handler} {echo : Nat} {v : State} (he : e < 16) (hop : op < 256) (hs : s.serves e c)
    (hh : h (cmdRead c op) (hostCommand e (cmdWord c op) s) = (.ok, echo, v)) :
    commandRow e op h c s = lessonWrite e 0x240 (echoWord op c 0 echo) (v.seqTaken e c) :=
  runCommand_valid hop ((hostCommand_serves he ..).mpr hs) hh

theorem echoWord_ok (op : Nat) (c : CmdWord) (echo : Nat) :
    echoWord op c 0 echo = BitVec.ofNat 64 (op * 2 ^ 56 + c.seq.toNat * 2 ^ 48 + echo % 2 ^ 32) := by
  rw [echoWord, zero_mul, add_zero]

end Sys2Proof.Machine
end

section
/-! The journal writes of E11 (R185, R453): what a request in slot 0 changes, and which of the three ways a model that is to be
written takes. -/
namespace Sys2Proof.Machine

variable {p : Nat} {s t : State}

/-- Byte `k` of `b` is put at its place behind `a`, where that is lesson data. -/
def lessonByte (a : Nat) (b : List Byte) (s : State) (k : Nat) : State :=
  if inLessonData (a + k) then putCommonsByte (a + k) (b.getD k 0) s else s

theorem ownerWrite_lesson (a : Nat) (b : List Byte) (s : State) :
    ownerWrite true a b s = (List.range b.length).foldl (lessonByte a b) s := rfl

theorem lessonByte_frame (h : t.commons = s.commons) (a : Nat) (b : List Byte) (k : Nat) :
    lessonByte a b t k = { t with commons := (lessonByte a b s k).commons } := by
  unfold lessonByte
  split
  · simp only [putCommonsByte, h]
  · rw [← h]

/-- Bytes written to the lesson data change the commons alone, and depend on nothing else. -/
theorem ownerWrite_lesson_frame (h : t.commons = s.commons) (a : Nat) (b : List Byte) :
    ownerWrite true a b t = { t with commons := (ownerWrite true a b s).commons } := by
  rw [ownerWrite_lesson, ownerWrite_lesson]
  induction List.range b.length generalizing s t with
  | nil => rw [List.foldl_nil, List.foldl_nil, ← h]
  | cons k l ih =>
    have hbyte := lessonByte_frame h a b k
    rw [List.foldl_cons, List.foldl_cons, hbyte]
    exact ih rfl

theorem jnlRequest_frame (h : t.commons = s.commons) (op type key : Nat) (b : List Byte) :
    jnlRequest op type key b t = { t with commons := (jnlRequest op type key b s).commons } := by
  unfold jnlRequest
  dsimp only
  have hread : t.commonsRead (jnlSlotAt 0 + 0x3F8) 8 = s.commonsRead (jnlSlotAt 0 + 0x3F8) 8 := by
    simp only [State.commonsRead, State.commonsByte, h]
  rw [hread, ownerWrite_lesson_frame h (jnlSlotAt 0 + 8)]
  exact ownerWrite_lesson_frame rfl (jnlSlotAt 0) _

/-- Path `p` has the model `m`. -/
def modelPut (p : Nat) (m : Model) (s : State) : State := s.putSylPath p { s.sylPath p with model := m }

@[simp] theorem modelPut_sylPath_model (p : Nat) (m : Model) (s : State) : ((modelPut p m s).sylPath p).model = m := by
  rw [modelPut, State.sylPath_put_self]

theorem modelPut_sylPath_ne {q : Nat} (h : q ≠ p) (m : Model) (s : State) : (modelPut p m s).sylPath q = s.sylPath q :=
  s.sylPath_put_ne h.symm _

@[simp] theorem lessonWrite_sylPath (e i : Nat) (w : Word64) (s : State) : (lessonWrite e i w s).sylPath = s.sylPath := rfl

@[simp] theorem State.seqTaken_sylPath (s : State) (e : Nat) (c : CmdWord) : (s.seqTaken e c).sylPath = s.sylPath := rfl

theorem State.modelAt_of_bell (h : t.bell = s.bell) (m : Model) (b : Nat) : t.modelAt m b = s.modelAt m b := by
  rw [State.modelAt, State.bellNs, h]
  rfl

theorem modelRequest_eq (p : Nat) (s : State) :
    modelRequest p s = jnlRequest 1 0x10 p (s.modelAt (s.sylPath p).model s.bell.number).payload
      (modelPut p (s.modelAt (s.sylPath p).model s.bell.number) s) := rfl

/-- No model is written while the supply warning stands. -/
theorem modelWrite_warned (hw : (s.inw' 0xE0).testBit 3 = true) : modelWrite p s = s := if_pos hw

section
variable (hw : (s.inw' 0xE0).testBit 3 = false)
include hw

/-- The model waits while the request before it is not answered. -/
theorem modelWrite_waits (hj : s.jnlAnswered = false) :
    modelWrite p s = { s with syl := { s.syl with jnlDue := s.syl.jnlDue.erase p ++ [p] } } := by
  rw [modelWrite, hw, if_neg Bool.false_ne_true, modelLesson]
  split
  · rfl
  · exact if_neg (Bool.eq_false_iff.mp hj)

/-- With none before it the model goes out at once, re-expressed at this bell. -/
theorem modelWrite_goes {m : Model} (hj : s.jnlAnswered = true) (hdue : s.syl.jnlDue = [])
    (hm : s.modelAt (s.sylPath p).model s.bell.number = m) (hc : s.commons = t.commons) :
    modelWrite p s = { modelPut p m s with commons := (jnlRequest 1 0x10 p m.payload t).commons } := by
  have hback : { s with syl := { s.syl with jnlDue := [] } } = s := by rw [← hdue]
  rw [modelWrite, hw, if_neg Bool.false_ne_true, hdue]
  refine (if_pos hj).trans ((congrArg (modelRequest p) hback).trans ?_)
  rw [modelRequest_eq, hm, jnlRequest_frame (t := modelPut p m s) hc]

end

end Sys2Proof.Machine
end

section
/-! The command port of E11 (R185): the learning settings and the models. -/
namespace Sys2Proof.Machine

variable {op : Nat} {c : CmdWord} {s : State}

/-! ### The check -/

/-- An operation of R185. -/
def learnOp (op : Nat) : Prop := op = 0x20 ∨ op = 0x21 ∨ op = 0x22

theorem learnOp_lt (hop : learnOp op) : op < 256 := by unfold learnOp at hop; omega

/-- SLOT and VALUE of the command are such that its operation takes them. -/
def Command.learnInRange (x : Command) : Prop :=
  match x.op with
  | 0x20 => x.slot = 0 ∧ x.value / 256 % 256 ≠ 0 ∧ x.value ≤ 65535 ∧ x.value / 2 % 128 = 0
  | 0x21 => x.slot = 0 ∧ x.value = 0
  | _ => x.slot ≤ 6 ∧ x.value = 0

section
variable {x : Command} (hop : learnOp x.op)
include hop

theorem learnCheck_badPath (hp : 7 < x.path) : learnCheck x = .badPath := by
  unfold learnOp at hop
  unfold learnCheck
  rw [if_neg (by omega), if_pos hp]

theorem learnCheck_ok (hp : x.path ≤ 7) (hv : x.learnInRange) : learnCheck x = .ok := by
  unfold learnCheck
  rcases hop with h | h | h <;> simp only [Command.learnInRange, h] at hv
  · rw [if_neg (by omega), if_neg (by omega), if_neg (by omega), if_pos h, if_neg (by omega)]
  · rw [if_neg (by omega), if_neg (by omega), if_neg (by omega), if_neg (by omega), if_neg (by omega)]
  · rw [if_neg (by omega), if_neg (by omega), if_neg (by omega), if_neg (by omega), if_neg (by omega)]

end

/-! ### The handler -/

theorem learnHandler_badPath {x : Command} (hbad : learnCheck x = .badPath) (u : State) :
    learnHandler x u = (.badPath, 0, u) := by
  simp only [learnHandler, hbad]
  rfl

/-- The record of a path that learns, or does not, with the time constant of VALUE. -/
def SylPath.learnSet (x : SylPath) (v : Nat) : SylPath :=
  { x with model := { x.model with learn := v.testBit 0, tau := v / 256 } }

/-- The model of path `p` with its learning settings alone. -/
def State.clearedModel (s : State) (p : Nat) : Model := { learn := (s.sylPath p).model.learn, tau := (s.sylPath p).model.tau }

/-- The model of path `p` is cleared. -/
def modelCleared (p : Nat) (s : State) : State := modelPut p (s.clearedModel p) s

section
variable {u : State}

theorem learnHandler_setLearn (hok : learnCheck (cmdRead c 0x20) = .ok) (hz : c.value.toNat / 2 % 128 = 0) :
    learnHandler (cmdRead c 0x20) u = (.ok, c.value.toNat,
      u.putSylPath c.path.toNat ((u.sylPath c.path.toNat).learnSet c.value.toNat)) := by
  have hecho : (c.value.toNat.testBit 0).toNat + c.value.toNat / 256 * 256 = c.value.toNat := by
    rw [Nat.toNat_testBit]
    omega
  simp only [learnHandler, hok, ne_eq, not_true_eq_false, if_false, cmdRead_op, if_true]
  simp only [State.sylPath_put_self, cmdRead, hecho]
  rfl

theorem learnHandler_clear (hok : learnCheck (cmdRead c 0x21) = .ok) :
    learnHandler (cmdRead c 0x21) u = (.ok, 0, modelWrite c.path.toNat (modelCleared c.path.toNat u)) := by
  simp only [learnHandler, hok]
  rfl

theorem learnHandler_get (hok : learnCheck (cmdRead c 0x22) = .ok) :
    learnHandler (cmdRead c 0x22) u = (.ok, (u.sylPath c.path.toNat).model.param c.slot.toNat,
      lessonWrite 11 0x241 (BitVec.ofNat 64 ((u.sylPath c.path.toNat).model.param c.slot.toNat)) u) := by
  simp only [learnHandler, hok]
  rfl

end

/-! ### The rows (R185) -/

section
variable (hs : s.serves 11 c)
include hs

theorem learnRow_badPath (hop : learnOp op) (hp : 7 < c.path.toNat) :
    s.answered 11 op c 2 0 s.syl (commandRow 11 op learnHandler c s) :=
  commandRow_refused (r := .badPath) (by decide) (learnOp_lt hop) hs
    (learnHandler_badPath (learnCheck_badPath hop hp) _) (by decide)

theorem setLearn_answers (hok : learnCheck (cmdRead c 0x20) = .ok) (hz : c.value.toNat / 2 % 128 = 0) :
    s.answered 11 0x20 c 0 c.value.toNat (s.putSylPath c.path.toNat ((s.sylPath c.path.toNat).learnSet c.value.toNat)).syl
      (commandRow 11 0x20 learnHandler c s) := by
  obtain ⟨r, w, hframe⟩ := hostCommand_frame 11 (cmdWord c 0x20) s
  refine commandRow_valid (by decide) (by decide) hs ?_
  rw [hframe]
  exact learnHandler_setLearn hok hz

section
variable (hok : learnCheck (cmdRead c 0x21) = .ok)
include hok

theorem clearModel_warned (hw : (s.inw' 0xE0).testBit 3 = true) :
    s.answered 11 0x21 c 0 0 (modelCleared c.path.toNat s).syl (commandRow 11 0x21 learnHandler c s) := by
  obtain ⟨r, w, hframe⟩ := hostCommand_frame 11 (cmdWord c 0x21) s
  refine commandRow_valid (by decide) (by decide) hs ?_
  rw [learnHandler_clear hok, hframe, modelWrite_warned (s := modelCleared _ { s with regs := r, words := w }) hw]
  rfl

/-- The cleared model of path `p` waits to be written. -/
theorem clearModel_waits (hw : (s.inw' 0xE0).testBit 3 = false) (hj : s.jnlAnswered = false) :
    s.answered 11 0x21 c 0 0
      { (modelCleared c.path.toNat s).syl with jnlDue := s.syl.jnlDue.erase c.path.toNat ++ [c.path.toNat] }
      (commandRow 11 0x21 learnHandler c s) := by
  obtain ⟨r, w, hframe⟩ := hostCommand_frame 11 (cmdWord c 0x21) s
  refine commandRow_valid (by decide) (by decide) hs ?_
  rw [learnHandler_clear hok, hframe,
    modelWrite_waits (s := modelCleared _ { s with regs := r, words := w }) hw hj]
  rfl

/-- The cleared model of path `p` goes out at once, re-expressed at this bell. -/
theorem clearModel_goes (hw : (s.inw' 0xE0).testBit 3 = false) (hj : s.jnlAnswered = true) (hdue : s.syl.jnlDue = []) :
    ∃ r w k, s.posted 11 0x21 c { s with regs := r, words := w } ∧
      k = (jnlRequest 1 0x10 c.path.toNat (s.modelAt (s.clearedModel c.path.toNat) s.bell.number).payload s).commons ∧
      commandRow 11 0x21 learnHandler c s = lessonWrite 11 0x240 (echoWord 0x21 c 0 0) (State.seqTaken
        (modelPut c.path.toNat (s.modelAt (s.clearedModel c.path.toNat) s.bell.number)
          (modelCleared c.path.toNat { s with regs := r, words := w, commons := k })) 11 c) := by
  obtain ⟨r, w, hframe⟩ := hostCommand_frame 11 (cmdWord c 0x21) s
  obtain ⟨k, hk⟩ : ∃ k, k = (jnlRequest 1 0x10 c.path.toNat
    (s.modelAt (s.clearedModel c.path.toNat) s.bell.number).payload s).commons := ⟨_, rfl⟩
  refine ⟨r, w, k, hframe ▸ hostCommand_posted 11 0x21 c s, hk, ?_⟩
  have hmodel : (modelCleared c.path.toNat { s with regs := r, words := w }).modelAt
      ((modelCleared c.path.toNat { s with regs := r, words := w }).sylPath c.path.toNat).model s.bell.number =
        s.modelAt (s.clearedModel c.path.toNat) s.bell.number := by
    rw [modelCleared, modelPut_sylPath_model]
    exact State.modelAt_of_bell rfl _ _
  rw [commandRow_served (by decide) (by decide) hs (learnHandler_clear hok), hframe,
    modelWrite_goes (s := modelCleared _ { s with regs := r, words := w }) (t := s) hw hj hdue hmodel rfl, ← hk]
  rfl

end

theorem getModel_answers (hok : learnCheck (cmdRead c 0x22) = .ok) :
    ∃ u, s.posted 11 0x22 c u ∧ (∃ r w, u = { s with regs := r, words := w }) ∧
      commandRow 11 0x22 learnHandler c s =
        lessonWrite 11 0x240 (echoWord 0x22 c 0 ((s.sylPath c.path.toNat).model.param c.slot.toNat)) (State.seqTaken
          (lessonWrite 11 0x241 (BitVec.ofNat 64 ((s.sylPath c.path.toNat).model.param c.slot.toNat)) u) 11 c) := by
  obtain ⟨r, w, hframe⟩ := hostCommand_frame 11 (cmdWord c 0x22) s
  refine ⟨_, hostCommand_posted 11 0x22 c s, ⟨r, w, hframe⟩, ?_⟩
  rw [commandRow_served (by decide) (by decide) hs (learnHandler_get hok), hframe]
  rfl

end

/-- The commands of E11 by their operations. -/
def learnRows (c : CmdWord) : List (Nat × Instr) := [(0x20, .setLearn c), (0x21, .clearModel c), (0x22, .getModel c)]

theorem learnRows_spec {r : Nat × Instr} (hr : r ∈ learnRows c) (s : State) :
    learnOp r.1 ∧ exec r.2 s = .next (commandRow 11 r.1 learnHandler c s) := by
  simp only [learnRows, List.mem_cons, List.not_mem_nil, or_false] at hr
  rcases hr with rfl | rfl | rfl <;> exact ⟨by simp [learnOp], rfl⟩

end Sys2Proof.Machine
end

section
/-! The command port of E12 (R242, R350): the bindings, the ports and the clock. -/
namespace Sys2Proof.Machine

variable {op : Nat} {c : CmdWord} {s : State}

/-! ### What the handler reads and moves -/

/-- What a command of E12 reads beside the lessons' memory: the timescale of a port, and under Ethernet transport the latched
words of SET_UCAST. From `s` to `u` the first is kept, and the second is not asked for. -/
structure State.timeReads (s : State) (x : Command) (u : State) : Prop where
  frame : ∃ r w, u = { s with regs := r, words := w }
  ts : u.rd (Reg.PTP_CFG_TS x.path) = s.rd (Reg.PTP_CFG_TS x.path)
  ucast : x.op = 0x32 → (s.sylPort x.path).transport ≠ 2

/-- The commit of a command moves registers of an engine alone. -/
theorem hostCommand_timeReads (x : Command) (hx : x.op = 0x32 → (s.sylPort x.path).transport ≠ 2) (v : Nat) :
    s.timeReads x (hostCommand 12 v s) := by
  refine ⟨hostCommand_frame .., hostCommand_regsBut 12 v s _ ?_, hx⟩
  simp [State.hostOwner]
  omega

theorem State.timeReads.check {x : Command} {u : State} (h : s.timeReads x u) : u.timeCheck x = s.timeCheck x := by
  obtain ⟨⟨r, w, rfl⟩, hts, -⟩ := h
  simp only [State.timeCheck, hts]
  rfl

theorem State.timeReads.apply {x : Command} {u : State} (h : s.timeReads x u) :
    timeApply x u = { u with syl := (timeApply x s).syl } := by
  obtain ⟨⟨r, w, rfl⟩, -, hucast⟩ := h
  unfold timeApply
  dsimp only
  split
  case h_3 hop =>
    have hport : (State.sylPort { s with regs := r, words := w } x.path).transport ≠ 2 := hucast hop
    rw [if_neg hport, if_neg (hucast hop)]
    rfl
  all_goals rfl

theorem timeHandler_valid {x : Command} (hok : s.timeCheck x = .ok) {u : State} (h : s.timeReads x u) :
    timeHandler x u = (.ok, (timeApply x s).timeSetting x, { u with syl := (timeApply x s).syl }) := by
  simp only [timeHandler, h.check, hok, if_true, h.apply]
  rfl

theorem timeHandler_badPath {x : Command} {u : State} (hbad : u.timeCheck x = .badPath) :
    timeHandler x u = (.badPath, 0, u) := by
  simp only [timeHandler, hbad]
  rfl

/-! ### The check (R242, R350) -/

/-- An operation of R242 or R350 at E12. -/
def timeOp (op : Nat) : Prop := 0x30 ≤ op ∧ op ≤ 0x34

theorem timeOp_lt (hop : timeOp op) : op < 256 := by unfold timeOp at hop; omega

theorem timeCheck_badPath {x : Command} (hop : timeOp x.op) (hp : 7 < x.path) (s : State) : s.timeCheck x = .badPath := by
  unfold timeOp at hop
  unfold State.timeCheck
  rw [if_neg (by omega), if_pos (.inr hp)]

section
variable (hp : c.path.toNat ≤ 3)
include hp

theorem timeCheck_tod (hn : c.slot.toNat ≤ 23) (hslot : c.slot.toNat < 20 ∨ c.slot.toNat = 22 ∨ c.slot.toNat = 23)
    (hz : c.value.toNat / 8 % 8192 = 0)
    (hfree : c.value.toNat.testBit 2 = true → ∀ k < 4, k ≠ c.path.toNat → (s.tod k).enable = true →
      (s.tod k).uart ≠ c.value.toNat % 2) :
    s.timeCheck (cmdRead c 0x30) = .ok := by
  dsimp only [State.timeCheck, cmdRead]
  have htod : todSlot c.slot.toNat = true := decide_eq_true hslot
  rw [if_neg (by omega), if_neg (by omega), if_neg (by simp [htod]; omega), if_pos rfl]
  refine if_pos ?_
  simp only [hz, decide_true, Bool.true_and, Bool.not_eq_true', Bool.and_eq_false_imp, List.any_eq_false, List.mem_range]
  intro hen k hk
  simpa using hfree hen k hk

theorem timeCheck_ucast (hn : c.slot.toNat ≤ 3) : s.timeCheck (cmdRead c 0x32) = .ok := by
  dsimp only [State.timeCheck, cmdRead]
  rw [if_neg (by omega), if_neg (by omega), if_neg (by simp; omega)]
  rfl

theorem timeCheck_asym (hn : c.slot.toNat = 0) : s.timeCheck (cmdRead c 0x33) = .ok := by
  dsimp only [State.timeCheck, cmdRead]
  rw [if_neg (by omega), if_neg (by omega), if_neg (by simp; omega), hn]
  rfl

end

theorem timeCheck_clock (hp : c.path.toNat = 0) (hn : c.slot.toNat = 0) (hv : c.value.toNat < 2 ^ 24) :
    s.timeCheck (cmdRead c 0x34) = .ok := by
  dsimp only [State.timeCheck, cmdRead]
  rw [if_neg (by omega), if_neg (by omega), if_neg (by simp; omega)]
  exact if_pos (decide_eq_true ⟨hp, hn, hv⟩)

/-- SET_PTP_PORT takes 18 bits of VALUE. -/
theorem value_lt_of_timeCheck_port (hok : s.timeCheck (cmdRead c 0x31) = .ok) : c.value.toNat < 2 ^ 18 := by
  simp [State.timeCheck, cmdRead] at hok
  split_ifs at hok with _ _ h
  obtain ⟨⟨⟨⟨h, -⟩, -⟩, -⟩, -⟩ := h
  obtain ⟨-, -, -, hlt, -⟩ := of_decide_eq_true h
  exact hlt

/-! ### The settings as they are answered (R242, R350) -/

/-- The binding that SET_TOD makes (R242). -/
def todBinding (c : CmdWord) : TodBind :=
  { uart := c.value.toNat % 2, binary := c.value.toNat.testBit 1, enable := c.value.toNat.testBit 2, slot := c.slot.toNat
    offset := toSigned 16 (c.value.toNat / 65536) }

theorem timeSetting_tod (hz : c.value.toNat / 8 % 8192 = 0) :
    (timeApply (cmdRead c 0x30) s).timeSetting (cmdRead c 0x30) = c.value.toNat := by
  have hbind : (timeApply (cmdRead c 0x30) s).tod c.path.toNat = todBinding c := tabGet_set_self ..
  have hbinary : flagIf (c.value.toNat.testBit 1) 2 = c.value.toNat / 2 % 2 * 2 := flagIf_testBit _ 1
  have henable : flagIf (c.value.toNat.testBit 2) 4 = c.value.toNat / 4 % 2 * 4 := flagIf_testBit _ 2
  have hlt := c.value.isLt
  simp only [State.timeSetting, cmdRead_op]
  simp only [cmdRead] at hbind ⊢
  simp only [hbind, todBinding, hbinary, henable, ofSigned_toSigned]
  omega

theorem timeSetting_port (hv : c.value.toNat < 2 ^ 18) :
    (timeApply (cmdRead c 0x31) s).timeSetting (cmdRead c 0x31) = c.value.toNat := by
  have henable : flagIf (c.value.toNat.testBit 2) 4 = c.value.toNat / 4 % 2 * 4 := flagIf_testBit _ 2
  have hstep : flagIf (c.value.toNat.testBit 3) 8 = c.value.toNat / 8 % 2 * 8 := flagIf_testBit _ 3
  have hpeer : flagIf (c.value.toNat.testBit 6) 64 = c.value.toNat / 64 % 2 * 64 := flagIf_testBit _ 6
  have hmaster : flagIf (c.value.toNat.testBit 7) 128 = c.value.toNat / 128 % 2 * 128 := flagIf_testBit _ 7
  simp only [State.timeSetting, timeApply, cmdRead, State.sylPort_put_self, henable, hstep, hpeer, hmaster]
  omega

theorem timeApply_ucast (ht : (s.sylPort c.path.toNat).transport ≠ 2) :
    timeApply (cmdRead c 0x32) s = s.putSylPort c.path.toNat { s.sylPort c.path.toNat with
      ucast := tabSet 0 c.slot.toNat c.value.toNat (s.sylPort c.path.toNat).ucast } := by
  simp [timeApply, cmdRead, ht]

theorem timeSetting_ucast (ht : (s.sylPort c.path.toNat).transport ≠ 2) :
    (timeApply (cmdRead c 0x32) s).timeSetting (cmdRead c 0x32) = c.value.toNat := by
  rw [timeApply_ucast ht]
  simp [State.timeSetting, cmdRead, ht]

theorem timeSetting_asym : (timeApply (cmdRead c 0x33) s).timeSetting (cmdRead c 0x33) = c.value.toNat := by
  simp only [State.timeSetting, timeApply, cmdRead, State.sylPort_put_self, ofSigned_toSigned]
  exact Nat.mod_eq_of_lt c.value.isLt

theorem timeSetting_clock (hv : c.value.toNat < 2 ^ 24) :
    (timeApply (cmdRead c 0x34) s).timeSetting (cmdRead c 0x34) = c.value.toNat := by
  simp only [State.timeSetting, timeApply, cmdRead]
  omega

/-! ### The rows (R242, R350) -/

/-- The commands of E12 by their operations. -/
def timeRows (c : CmdWord) : List (Nat × Instr) :=
  [(0x30, .setTod c), (0x31, .setPtpPort c), (0x32, .setUcast c), (0x33, .setAsym c), (0x34, .setClock c)]

theorem timeRows_spec {r : Nat × Instr} (hr : r ∈ timeRows c) (s : State) :
    timeOp r.1 ∧ exec r.2 s = .next (commandRow 12 r.1 timeHandler c s) := by
  simp only [timeRows, List.mem_cons, List.not_mem_nil, or_false] at hr
  rcases hr with rfl | rfl | rfl | rfl | rfl <;> exact ⟨by simp [timeOp], rfl⟩

section
variable (hop : timeOp op) (hs : s.serves 12 c)
include hop hs

theorem timeRow_badPath (hp : 7 < c.path.toNat) : s.answered 12 op c 2 0 s.syl (commandRow 12 op timeHandler c s) :=
  commandRow_refused (r := .badPath) (by decide) (timeOp_lt hop) hs (timeHandler_badPath (timeCheck_badPath hop hp _)) (by decide)

/-- A row of E12 whose command is valid leaves `u` and answers VALUE. -/
theorem timeRow_answers {u : State} (hok : s.timeCheck (cmdRead c op) = .ok)
    (hx : op = 0x32 → (s.sylPort c.path.toNat).transport ≠ 2) (hu : timeApply (cmdRead c op) s = u)
    (hecho : (timeApply (cmdRead c op) s).timeSetting (cmdRead c op) = c.value.toNat) :
    s.answered 12 op c 0 c.value.toNat u.syl (commandRow 12 op timeHandler c s) := by
  have hvalid := timeHandler_valid hok (hostCommand_timeReads (cmdRead c op) hx (cmdWord c op))
  rw [hecho, hu] at hvalid
  exact commandRow_valid (by decide) (timeOp_lt hop) hs hvalid

end

end Sys2Proof.Machine
end

section
/-! The command ports of the servo, TOD and PTP lessons (O37): that of E13 (R350), and the three together. -/
namespace Sys2Proof.Machine

variable {op : Nat} {c : CmdWord} {s : State}

/-! ### SET_ESMC (R350) -/

/-- The record of a port with the ESMC settings of VALUE. -/
def SylPort.esmcSet (y : SylPort) (v : Nat) : SylPort :=
  { y with esmcRx := v.testBit 0, esmcTx := v.testBit 1, opt2 := v.testBit 2, hoQl := v / 16 }

theorem esmcHandler_badPath (hp : 3 < c.path.toNat) (u : State) : esmcHandler (cmdRead c 0x40) u = (.badPath, 0, u) := by
  simp [esmcHandler, cmdRead, hp]

theorem esmcHandler_valid (hp : c.path.toNat ≤ 3) (hn : c.slot.toNat = 0) (hz : c.value.toNat.testBit 3 = false)
    (hv : c.value.toNat ≤ 255) (u : State) : esmcHandler (cmdRead c 0x40) u =
      (.ok, c.value.toNat, u.putSylPort c.path.toNat ((u.sylPort c.path.toNat).esmcSet c.value.toNat)) := by
  have htx : flagIf (c.value.toNat.testBit 1) 2 = c.value.toNat / 2 % 2 * 2 := flagIf_testBit _ 1
  have hopt : flagIf (c.value.toNat.testBit 2) 4 = c.value.toNat / 4 % 2 * 4 := flagIf_testBit _ 2
  have hecho : (c.value.toNat.testBit 0).toNat + flagIf (c.value.toNat.testBit 1) 2 + flagIf (c.value.toNat.testBit 2) 4 +
      c.value.toNat / 16 * 16 = c.value.toNat := by
    have hbit : c.value.toNat / 8 % 2 = 0 := by simpa [Nat.testBit_eq_decide_div_mod_eq] using hz
    rw [Nat.toNat_testBit, htx, hopt]
    omega
  simp [esmcHandler, cmdRead, hn, hz, Nat.not_lt.mpr hp, Nat.not_lt.mpr hv, SylPort.esmcSet, -Nat.testBit_zero, hecho]

section
variable (hs : s.serves 13 c)
include hs

theorem esmcRow_badPath (hp : 3 < c.path.toNat) : s.answered 13 0x40 c 2 0 s.syl (commandRow 13 0x40 esmcHandler c s) :=
  commandRow_refused (r := .badPath) (by decide) (by decide) hs (esmcHandler_badPath hp _) (by decide)

theorem esmcRow_answers (hp : c.path.toNat ≤ 3) (hn : c.slot.toNat = 0) (hz : c.value.toNat.testBit 3 = false)
    (hv : c.value.toNat ≤ 255) :
    s.answered 13 0x40 c 0 c.value.toNat
      (s.putSylPort c.path.toNat ((s.sylPort c.path.toNat).esmcSet c.value.toNat)).syl (commandRow 13 0x40 esmcHandler c s) := by
  obtain ⟨r, w, hframe⟩ := hostCommand_frame 13 (cmdWord c 0x40) s
  refine commandRow_valid (by decide) (by decide) hs ?_
  rw [hframe]
  exact esmcHandler_valid hp hn hz hv _

end

/-! ### O37 -/

/-- Settles O37: each port by what its check says of a command and what its handler makes of it; a cleared model goes to the
journal as `clearModel_warned`, `clearModel_waits` and `clearModel_goes` have it. -/
theorem servicePorts : Obligations.service_ports := by
  unfold Obligations.service_ports
  intro c s p n v x y supply bind clear rows11 rows12 stands
  refine ⟨fun hs r hr => ?unserved11, fun hs r hr => ?unserved12, fun hs => ?unserved13, fun hs hp r hr => ?badPath11,
    fun hs hp => ⟨fun hn htau hv hz => ?setLearn, fun hn hv hw => ?warned, fun hn hv hw hj => ?waits,
      fun hn hv hw hj hdue => ?goes, fun hn hv => ?getModel⟩,
    fun hs => ⟨fun hp hn hslot hz hfree => ?setTod, fun hok => ?setPtpPort, fun hp hn ht => ?setUcast, fun hp hn => ?setAsym,
      fun hp hn hv => ?setClock, fun hp r hr => ?badPath12⟩,
    fun hs hp => ⟨_, rfl, esmcRow_badPath hs hp⟩, fun hs hp hn hz hv => ⟨_, rfl, esmcRow_answers hs hp hn hz hv⟩⟩
  case unserved11 =>
    obtain ⟨hop, hexec⟩ := learnRows_spec hr s
    exact ⟨_, hexec, commandRow_posted (by decide) (learnOp_lt hop) _ hs⟩
  case unserved12 =>
    obtain ⟨hop, hexec⟩ := timeRows_spec hr s
    exact ⟨_, hexec, commandRow_posted (by decide) (timeOp_lt hop) _ hs⟩
  case unserved13 => exact ⟨_, rfl, commandRow_posted (op := 0x40) (by decide) (by decide) _ hs⟩
  case badPath11 =>
    obtain ⟨hop, hexec⟩ := learnRows_spec hr s
    exact ⟨_, hexec, learnRow_badPath hs hop hp⟩
  case setLearn =>
    exact ⟨_, rfl, setLearn_answers hs (learnCheck_ok (.inl rfl) hp ⟨hn, htau, hv, hz⟩) hz⟩
  case warned =>
    exact ⟨_, rfl, clearModel_warned hs (learnCheck_ok (.inr (.inl rfl)) hp ⟨hn, hv⟩) hw⟩
  case waits =>
    have hanswer := clearModel_waits hs (learnCheck_ok (.inr (.inl rfl)) hp ⟨hn, hv⟩) hw hj
    have hpath : ∀ q, State.sylPath _ q = (modelCleared p s).sylPath q := hanswer.sylPath
    obtain ⟨-, hsyl, hposted, hframe⟩ := hanswer
    refine ⟨_, rfl, ?_, ?_, hposted, fun q hq => ?_, hframe⟩
    · rw [hpath]; exact modelPut_sylPath_model ..
    · rw [hsyl]
    · rw [hpath]; exact modelPut_sylPath_ne hq ..
  case goes =>
    obtain ⟨r, w, k, hposted, hk, hrow⟩ := clearModel_goes hs (learnCheck_ok (.inr (.inl rfl)) hp ⟨hn, hv⟩) hw hj hdue
    refine ⟨_, congrArg Host.Outcome.next hrow, ?_, hdue, hk, hposted.congr rfl rfl, fun q hq => ?_, rfl⟩
    · rw [lessonWrite_sylPath, State.seqTaken_sylPath]
      exact modelPut_sylPath_model ..
    · rw [lessonWrite_sylPath, State.seqTaken_sylPath]
      exact (modelPut_sylPath_ne hq ..).trans (modelPut_sylPath_ne hq ..)
  case getModel =>
    obtain ⟨u, hposted, ⟨r, w, rfl⟩, hrow⟩ := getModel_answers hs (learnCheck_ok (.inr (.inr rfl)) hp ⟨hn, hv⟩)
    rw [echoWord_ok] at hrow
    exact ⟨_, congrArg Host.Outcome.next hrow, List.append_assoc .., rfl, hposted.congr rfl rfl, rfl⟩
  case setTod =>
    exact ⟨_, rfl, timeRow_answers (by simp [timeOp]) hs (timeCheck_tod hp hn hslot hz hfree) (by simp) rfl
      (timeSetting_tod hz)⟩
  case setPtpPort =>
    exact ⟨_, rfl, timeRow_answers (by simp [timeOp]) hs hok (by simp) rfl
      (timeSetting_port (value_lt_of_timeCheck_port hok))⟩
  case setUcast =>
    exact ⟨_, rfl, timeRow_answers (by simp [timeOp]) hs (timeCheck_ucast hp hn) (fun _ => ht) (timeApply_ucast ht)
      (timeSetting_ucast ht)⟩
  case setAsym =>
    exact ⟨_, rfl, timeRow_answers (by simp [timeOp]) hs (timeCheck_asym hp hn) (by simp) rfl timeSetting_asym⟩
  case setClock =>
    exact ⟨_, rfl, timeRow_answers (by simp [timeOp]) hs (timeCheck_clock hp hn hv) (by simp) rfl (timeSetting_clock hv)⟩
  case badPath12 =>
    obtain ⟨hop, hexec⟩ := timeRows_spec hr s
    exact ⟨_, hexec, timeRow_badPath hop hs hp⟩

end Sys2Proof.Machine
end

section
/-! The commands of a timescale (R223, R230 to R232): what a step changes beside the timescale, and what a command does. -/
namespace Sys2Proof.Machine

variable {n v : Nat} {s t u : State}

/-! ### What a step changes beside its timescale (R215, R270, R287) -/

/-- From `s` to `t` nothing has changed but the counts of missed pulses, the gates' notes and the anchors due. -/
structure StepKeeps (s t : State) : Prop where
  frame : ∃ r g x, t = { s with regs := r, grps := g, rings := x }
  regs : s.regsBut ((List.range 32).map Reg.OUT_STATUS_PULSE_MISS) t

theorem StepKeeps.refl (s : State) : StepKeeps s s := ⟨⟨_, _, _, rfl⟩, s.regsBut_refl _⟩

theorem StepKeeps.trans (h : StepKeeps s t) (h' : StepKeeps t u) : StepKeeps s u := by
  obtain ⟨⟨_, _, _, rfl⟩, hregs⟩ := h
  obtain ⟨⟨_, _, _, rfl⟩, hregs'⟩ := h'
  exact ⟨⟨_, _, _, rfl⟩, hregs.trans hregs'⟩

/-- Of the registers only a status of the outputs may differ. -/
theorem StepKeeps.rd (h : StepKeeps s t) {f : Fld} (hf : 32 * 0x28000 ≤ f.key) : t.rd f = s.rd f := by
  refine h.regs f ?_
  simp only [List.forall_mem_map, List.mem_range, Reg.OUT_STATUS_PULSE_MISS_key]
  intro o ho
  omega

theorem StepKeeps.tscale (h : StepKeeps s t) : t.tscale = s.tscale := by
  obtain ⟨⟨_, _, _, rfl⟩, -⟩ := h
  rfl

theorem StepKeeps.forRange {k : Nat} {f : Nat → State → State} (hf : ∀ i < k, ∀ t, StepKeeps t (f i t)) (s : State) :
    StepKeeps s (forRange k f s) :=
  forRange_keeps (StepKeeps s) (fun i hi t ht => ht.trans (hf i hi t)) (.refl s)

theorem pulseJump_stepKeeps (n old new : Nat) (s : State) : StepKeeps s (pulseJump n old new s) := by
  refine .forRange (fun o ho t => ?_) s
  split
  · exact ⟨⟨_, _, _, rfl⟩, t.regsBut_wr (List.mem_map.mpr ⟨o, List.mem_range.mpr ho, rfl⟩) _⟩
  · exact .refl t

theorem markStepped_stepKeeps (n : Nat) (s : State) : StepKeeps s (markStepped n s) := by
  refine .forRange (fun m _ t => ?_) s
  dsimp only
  split
  · split <;> exact ⟨⟨_, _, _, rfl⟩, State.regsBut_of_regs_eq rfl _⟩
  · exact .refl t

theorem anchorsDue_stepKeeps (n : Nat) (s : State) : StepKeeps s (anchorsDue n s) := by
  refine .forRange (fun r _ t => ?_) s
  dsimp only
  split
  · exact ⟨⟨_, _, _, rfl⟩, State.regsBut_of_regs_eq rfl _⟩
  · exact .refl t

/-- A step counts and raises TS_STEP after it has put the value. -/
theorem tsMove_eq (n v : Nat) (s : State) : ∃ u, StepKeeps (s.putTscale n { s.tscale n with val := v }) u ∧
    tsMove n v s = (u.bump (Reg.TS_STEPS_COUNT n)).raise 29 n := by
  unfold tsMove
  refine ⟨_, (StepKeeps.trans ?_ (markStepped_stepKeeps n _)).trans (anchorsDue_stepKeeps n _), rfl⟩
  split
  · exact pulseJump_stepKeeps ..
  · exact .refl _

/-! ### A command that is taken up (R230) -/

/-- The command of timescale `n` is taken up: its refusal and its waiting are cleared, and nothing but its own record may
differ beside. -/
structure State.tsTakes (s : State) (n : Nat) (t : State) : Prop where
  frame : ∃ r x, t = { s with regs := r, ts := x }
  rej : t.rd (Reg.TS_STATUS_REJ n) = 0
  steps : t.rd (Reg.TS_STEPS_COUNT n) = s.rd (Reg.TS_STEPS_COUNT n)
  others : ∀ m, m ≠ n → t.tscale m = s.tscale m

/-- No command of timescale `n` waits. -/
def pendCleared (n : Nat) (s : State) : State := s.putTscale n { s.tscale n with pend := none }

/-- Timescale `n` stands at `v` after a command, and no other has moved. -/
def State.tsPlaced (s : State) (n v : Nat) (t : State) : Prop :=
  (t.tscale n).val = v ∧ (t.tscale n).pend = none ∧ t.rd (Reg.TS_STATUS_REJ n) = 0 ∧ ∀ m, m ≠ n → t.tscale m = s.tscale m

theorem State.tsTakes.moves (h : s.tsTakes n t) (v : Nat) :
    s.tsPlaced n v (pendCleared n (tsMove n v t)) ∧
      (pendCleared n (tsMove n v t)).rd (Reg.TS_STEPS_COUNT n) =
        (s.rd (Reg.TS_STEPS_COUNT n) + 1) % 2 ^ (Reg.TS_STEPS_COUNT n).width ∧
      (pendCleared n (tsMove n v t)).flt.inflight = s.flt.inflight ++ [⟨29, n, 0, false⟩] ∧
      pendCleared n (tsMove n v t) = { s with
        regs := (pendCleared n (tsMove n v t)).regs, ts := (pendCleared n (tsMove n v t)).ts
        flt := (pendCleared n (tsMove n v t)).flt, grps := (pendCleared n (tsMove n v t)).grps
        rings := (pendCleared n (tsMove n v t)).rings } := by
  obtain ⟨u, hside, hmove⟩ := tsMove_eq n v t
  have hscale : ∀ m, (pendCleared n (tsMove n v t)).tscale m =
      if m = n then { t.tscale n with val := v, pend := none } else t.tscale m := by
    intro m
    rw [hmove, pendCleared]
    by_cases hm : m = n
    · simp [hm, hside.tscale]
    · simp [hm, Ne.symm hm, hside.tscale]
  have hrd : ∀ f : Fld, f.key ≠ (Reg.TS_STEPS_COUNT n).key → 32 * 0x28000 ≤ f.key →
      (pendCleared n (tsMove n v t)).rd f = t.rd f := by
    intro f hf hkey
    rw [hmove, pendCleared, State.rd_putTscale, State.rd_raise, State.rd_bump_ne _ hf.symm, hside.rd hkey, State.rd_putTscale]
  refine ⟨⟨?_, ?_, ?_, fun m hm => ?_⟩, ?_, ?_⟩
  · rw [hscale, if_pos rfl]
  · rw [hscale, if_pos rfl]
  · rw [hrd _ (by simp; omega) (by simp; omega), h.rej]
  · rw [hscale, if_neg hm, h.others m hm]
  · rw [hmove, pendCleared, State.rd_putTscale, State.rd_raise, State.rd_bump_self, hside.rd (by simp; omega),
      State.rd_putTscale, h.steps]
  · obtain ⟨⟨r, x, rfl⟩, -⟩ := h
    obtain ⟨⟨r', g, y, rfl⟩, -⟩ := hside
    rw [hmove]
    exact ⟨rfl, rfl⟩

/-- Timescale `n` notes the tick of a SET, and no step of a lesson in it. -/
def tsNoted (n : Nat) (t : State) : State := t.putTscale n { t.tscale n with lastSet := some t.now, lastStep := none }

/-- The value of a SET stands in place of the step of a lesson, which is lost. -/
def tsLost (n v : Nat) (t : State) : State :=
  ((tsNoted n t).putTscale n { (tsNoted n t).tscale n with val := v }).raise 30 n

theorem tsSet_eq (n v : Nat) (t : State) :
    tsSet n v t = if (t.tscale n).lastStep.any (fun e => decide (e.1 = t.now)) then tsLost n v t
      else tsMove n v (tsNoted n t) := by
  have hset : tsSet n v t = match (t.tscale n).lastStep with
      | some (w, _) => if w = t.now then tsLost n v t else tsMove n v (tsNoted n t)
      | none => tsMove n v (tsNoted n t) := rfl
  rw [hset]
  rcases (t.tscale n).lastStep with _ | ⟨w, x⟩
  · exact (if_neg Bool.false_ne_true).symm
  · simp only [Option.any_some, decide_eq_true_eq]

theorem State.tsTakes.noted (h : s.tsTakes n t) : s.tsTakes n (tsNoted n t) := by
  refine ⟨?_, h.rej, h.steps, fun m hm => (t.tscale_put_ne hm.symm _).trans (h.others m hm)⟩
  obtain ⟨⟨r, x, rfl⟩, -⟩ := h
  exact ⟨_, _, rfl⟩

theorem State.tsTakes.loses (h : s.tsTakes n t) (v : Nat) :
    s.tsPlaced n v (pendCleared n (tsLost n v t)) ∧
      (pendCleared n (tsLost n v t)).rd (Reg.TS_STEPS_COUNT n) = s.rd (Reg.TS_STEPS_COUNT n) ∧
      (pendCleared n (tsLost n v t)).flt.inflight = s.flt.inflight ++ [⟨30, n, 0, false⟩] ∧
      pendCleared n (tsLost n v t) = { s with
        regs := (pendCleared n (tsLost n v t)).regs, ts := (pendCleared n (tsLost n v t)).ts
        flt := (pendCleared n (tsLost n v t)).flt } := by
  have hrd : ∀ f, (pendCleared n (tsLost n v t)).rd f = t.rd f := by
    simp [pendCleared, tsLost, tsNoted]
  refine ⟨⟨by simp [pendCleared, tsLost], by simp [pendCleared, tsLost], (hrd _).trans h.rej, fun m hm => ?_⟩,
    (hrd _).trans h.steps, ?_⟩
  · rw [← h.others m hm]
    simp [pendCleared, tsLost, tsNoted, hm.symm]
  · obtain ⟨⟨r, x, rfl⟩, -⟩ := h
    exact ⟨rfl, rfl⟩

/-! ### What a command does (R230, R231) -/

/-- The command of timescale `n` is in range: its refusal and its time-out are cleared. -/
def tsAccepted (n : Nat) (s : State) : State := s.wrs [(Reg.TS_STATUS_REJ n, 0), (Reg.TS_STATUS_TIMEOUT n, 0)]

/-- An accepted command acts at once: no command of timescale `n` waits. -/
def tsTaken (n : Nat) (s : State) : State := (tsAccepted n s).wrs [(Reg.TS_CMD_SET n, 0), (Reg.TS_CMD_ADJ n, 0)]

theorem tsTaken_eq (n : Nat) (s : State) : tsTaken n s =
    s.wrs [(Reg.TS_STATUS_REJ n, 0), (Reg.TS_STATUS_TIMEOUT n, 0), (Reg.TS_CMD_SET n, 0), (Reg.TS_CMD_ADJ n, 0)] := rfl

theorem tsTaken_tsTakes (n : Nat) (s : State) : s.tsTakes n (tsTaken n s) := by
  rw [tsTaken_eq]
  refine ⟨⟨_, _, rfl⟩, (s.rd_wrs_mem ?_ List.mem_cons_self).trans (Nat.zero_mod _), s.rd_wrs_ne _ ?_,
    fun m _ => s.tscale_wrs _ m⟩
  · simp
    omega
  · simp
    omega

theorem tsSet_taken (n v : Nat) (s : State) : tsSet n v (tsTaken n s) =
    if (s.tscale n).lastStep.any (fun e => decide (e.1 = s.now)) then tsLost n v (tsTaken n s)
    else tsMove n v (tsNoted n (tsTaken n s)) := tsSet_eq n v (tsTaken n s)

theorem tsAccepted_val (n : Nat) (s : State) : (tsAccepted n s).valS n = s.valS n ∧
    (tsAccepted n s).rd (Reg.TS_VAL_NS_NS n) = s.rd (Reg.TS_VAL_NS_NS n) ∧
    (tsAccepted n s).rd (Reg.TS_VAL_FRAC_FRAC n) = s.rd (Reg.TS_VAL_FRAC_FRAC n) := by
  have hseconds : (tsAccepted n s).rd (Reg.TS_VAL_S_LO_S n) = s.rd (Reg.TS_VAL_S_LO_S n) := s.rd_wrs_ne _ (by simp; omega)
  refine ⟨?_, s.rd_wrs_ne _ (by simp; omega), s.rd_wrs_ne _ (by simp; omega)⟩
  rw [State.valS, hseconds, tsAccepted, State.tscale_wrs]
  rfl

theorem tsAccepted_valUnsigned (n : Nat) (s : State) : (tsAccepted n s).valUnsigned n = s.valUnsigned n := by
  obtain ⟨hs, hns, hfrac⟩ := tsAccepted_val n s
  rw [State.valUnsigned, hs, hns, hfrac]
  rfl

theorem tsAccepted_valSigned (n : Nat) (s : State) : (tsAccepted n s).valSigned n = s.valSigned n := by
  obtain ⟨hs, hns, hfrac⟩ := tsAccepted_val n s
  rw [State.valSigned, hs, hns, hfrac]
  rfl

/-- VAL as a command takes it: unsigned by a SET, signed by an ADJ (R230). -/
def State.tsAmount (s : State) (n : Nat) (isSet : Bool) : Int := if isSet then s.valUnsigned n else s.valSigned n

@[simp] theorem State.tsAmount_set (s : State) (n : Nat) : s.tsAmount n true = s.valUnsigned n := if_pos rfl

@[simp] theorem State.tsAmount_adj (s : State) (n : Nat) : s.tsAmount n false = s.valSigned n :=
  if_neg Bool.false_ne_true

theorem tsAccepted_amount (n : Nat) (isSet : Bool) (s : State) : (tsAccepted n s).tsAmount n isSet = s.tsAmount n isSet := by
  rw [State.tsAmount, tsAccepted_valUnsigned, tsAccepted_valSigned, State.tsAmount]

theorem tsCommand_eq (n : Nat) (isSet : Bool) (s : State) : tsCommand n isSet s =
    if 10 ^ 9 ≤ s.rd (Reg.TS_VAL_NS_NS n) ∨ s.parityIn (0x30000 + 0x40 * n) 0x40 then s.wr (Reg.TS_STATUS_REJ n) 1
    else if (tsAccepted n s).bit (Reg.TS_CFG_AT_EDGE n) then
      ((tsAccepted n s).putTscale n { (tsAccepted n s).tscale n with
          pend := some ⟨isSet, (tsAccepted n s).tsAmount n isSet, (tsAccepted n s).tb⟩ }).wrs
        [(Reg.TS_CMD_SET n, isSet.toNat), (Reg.TS_CMD_ADJ n, (!isSet).toNat)]
    else if isSet then pendCleared n (tsSet n (tsAdd 0 ((tsAccepted n s).tsAmount n isSet * 2 ^ 48)) (tsTaken n s))
    else pendCleared n
      (tsMove n (tsAdd ((tsTaken n s).tscale n).val ((tsAccepted n s).tsAmount n isSet * 2 ^ 48)) (tsTaken n s)) := rfl

/-- Under AT_EDGE a command is kept for the edge (R231). -/
def tsKept (n : Nat) (isSet : Bool) (s : State) : State :=
  ((tsAccepted n s).putTscale n { s.tscale n with pend := some ⟨isSet, s.tsAmount n isSet, s.tb⟩ }).wrs
    [(Reg.TS_CMD_SET n, isSet.toNat), (Reg.TS_CMD_ADJ n, (!isSet).toNat)]

/-- The command waits from now on, and nothing but its marks in the registers has changed beside. -/
theorem tsKept_waits (n : Nat) (isSet : Bool) (s : State) :
    ((tsKept n isSet s).tscale n).pend = some ⟨isSet, s.tsAmount n isSet, s.tb⟩ ∧
      ((tsKept n isSet s).tscale n).val = (s.tscale n).val ∧
      (tsKept n isSet s).rd (Reg.TS_CMD_SET n) = isSet.toNat ∧ (tsKept n isSet s).rd (Reg.TS_CMD_ADJ n) = (!isSet).toNat ∧
      tsKept n isSet s = { s with regs := (tsKept n isSet s).regs, ts := (tsKept n isSet s).ts } := by
  have hmark : ∀ b : Bool, b.toNat % 2 ^ 1 = b.toNat := fun b => Nat.mod_eq_of_lt b.toNat_lt
  have hkeys : ([(Reg.TS_CMD_SET n, isSet.toNat), (Reg.TS_CMD_ADJ n, (!isSet).toNat)].map fun p => p.1.key).Nodup := by simp
  refine ⟨by simp [tsKept], by simp [tsKept], (State.rd_wrs_mem _ hkeys (by simp)).trans (hmark _),
    (State.rd_wrs_mem _ hkeys (by simp)).trans (hmark _), rfl⟩

section
variable {isSet : Bool}

theorem tsCommand_refused (h : 10 ^ 9 ≤ s.rd (Reg.TS_VAL_NS_NS n)) : tsCommand n isSet s = s.wr (Reg.TS_STATUS_REJ n) 1 :=
  if_pos (.inl h)

variable (hns : s.rd (Reg.TS_VAL_NS_NS n) < 10 ^ 9) (hpar : s.parityIn (0x30000 + 0x40 * n) 0x40 = false)
include hns hpar

theorem tsCommand_accepted : tsCommand n isSet s =
    if s.bit (Reg.TS_CFG_AT_EDGE n) then tsKept n isSet s
    else if isSet then pendCleared n (tsSet n (tsAdd 0 (s.tsAmount n isSet * 2 ^ 48)) (tsTaken n s))
    else pendCleared n (tsMove n (tsAdd (s.tscale n).val (s.tsAmount n isSet * 2 ^ 48)) (tsTaken n s)) := by
  have hgood : ¬(10 ^ 9 ≤ s.rd (Reg.TS_VAL_NS_NS n) ∨ s.parityIn (0x30000 + 0x40 * n) 0x40 = true) :=
    not_or.mpr ⟨Nat.not_le.mpr hns, by simp [hpar]⟩
  have hedge : (tsAccepted n s).rd (Reg.TS_CFG_AT_EDGE n) = s.rd (Reg.TS_CFG_AT_EDGE n) := s.rd_wrs_ne _ (by simp; omega)
  rw [tsCommand_eq, if_neg hgood, tsAccepted_amount, State.bit_eq, hedge]
  rfl

theorem tsCommand_atEdge (he : s.rd (Reg.TS_CFG_AT_EDGE n) ≠ 0) : tsCommand n isSet s = tsKept n isSet s := by
  rw [tsCommand_accepted hns hpar]
  exact if_pos (decide_eq_true he)

variable (he : s.rd (Reg.TS_CFG_AT_EDGE n) = 0)
include he

theorem tsCommand_adj : tsCommand n false s =
    pendCleared n (tsMove n (tsAdd (s.tscale n).val (s.valSigned n * 2 ^ 48)) (tsTaken n s)) := by
  rw [tsCommand_accepted hns hpar, if_neg (by simp [State.bit_eq, he]), if_neg Bool.false_ne_true, State.tsAmount_adj]

theorem tsCommand_set : tsCommand n true s = pendCleared n (tsSet n (tsAdd 0 (s.valUnsigned n * 2 ^ 48)) (tsTaken n s)) := by
  rw [tsCommand_accepted hns hpar, if_neg (by simp [State.bit_eq, he]), if_pos rfl, State.tsAmount_set]

end

end Sys2Proof.Machine
end

section
/-! Phase steps of paths (R176, R177, R192, R194): what a step of a path's phase leaves, and its commands. -/
namespace Sys2Proof.Machine

variable {p k : Nat} {amt : Int} {s t : State}

/-! ### The APLLs follow (R192, R194, R209) -/

/-- APLL `k` is locked to path `p`. -/
def State.apllFollows (s : State) (p k : Nat) : Prop := s.apllOf k = p ∧ s.rd (Reg.APLL_STATUS_LOCK k) ≠ 0

/-- APLL `k` has `amt` to follow where it is locked to path `p`. -/
def apllTakes (p : Nat) (amt : Int) (k : Nat) (s : State) : State :=
  if s.apllOf k = p ∧ s.bit (Reg.APLL_STATUS_LOCK k) then s.putApll k { s.apll k with lag := (s.apll k).lag + amt * 2 ^ 32 }
  else s

theorem pathShift_eq (p : Nat) (amt : Int) (s : State) :
    pathShift p amt s = forRange 9 (apllTakes p amt) (s.putPath p ((s.path p).shift amt)) := rfl

theorem apllTakes_follows (h : s.apllFollows p k) :
    apllTakes p amt k s = s.putApll k { s.apll k with lag := (s.apll k).lag + amt * 2 ^ 32 } :=
  if_pos ⟨h.1, decide_eq_true h.2⟩

theorem apllTakes_rests (h : ¬ s.apllFollows p k) : apllTakes p amt k s = s :=
  if_neg fun hk => h ⟨hk.1, of_decide_eq_true hk.2⟩

/-- From `s` to `t` only the records of the APLLs may differ, and A8 covers the same APLL. -/
structure ApllsMove (s t : State) : Prop where
  frame : ∃ a, t = { s with aplls := a }
  mirror : (t.apll 8).mirror = (s.apll 8).mirror

theorem ApllsMove.refl (s : State) : ApllsMove s s := ⟨⟨_, rfl⟩, rfl⟩

theorem ApllsMove.trans {u : State} (h : ApllsMove s t) (h' : ApllsMove t u) : ApllsMove s u := by
  obtain ⟨⟨_, rfl⟩, hmirror⟩ := h
  obtain ⟨⟨_, rfl⟩, hmirror'⟩ := h'
  exact ⟨⟨_, rfl⟩, hmirror'.trans hmirror⟩

theorem ApllsMove.follows (h : ApllsMove s t) : t.apllFollows p k ↔ s.apllFollows p k := by
  obtain ⟨⟨a, rfl⟩, hmirror⟩ := h
  rw [State.apllFollows, State.apllFollows, State.apllOf, State.apllOf, hmirror]
  rfl

theorem apllTakes_move (p : Nat) (amt : Int) (k : Nat) (s : State) : ApllsMove s (apllTakes p amt k s) := by
  by_cases h : s.apllFollows p k
  · rw [apllTakes_follows h]
    refine ⟨⟨_, rfl⟩, ?_⟩
    by_cases hk : k = 8
    · subst hk; rw [State.apll_put_self]
    · rw [State.apll_put_ne _ hk]
  · rw [apllTakes_rests h]
    exact .refl s

theorem apllTakes_apll_ne {j : Nat} (h : k ≠ j) (p : Nat) (amt : Int) (s : State) :
    (apllTakes p amt k s).apll j = s.apll j := by
  unfold apllTakes
  split
  · exact s.apll_put_ne h _
  · rfl

theorem apllsTake_move (p : Nat) (amt : Int) (s : State) : ApllsMove s (forRange 9 (apllTakes p amt) s) :=
  forRange_keeps (ApllsMove s) (fun k _ t ht => ht.trans (apllTakes_move p amt k t)) (.refl s)

theorem apllsTake_follows (hk : k < 9) (h : s.apllFollows p k) :
    (forRange 9 (apllTakes p amt) s).apll k = { s.apll k with lag := (s.apll k).lag + amt * 2 ^ 32 } := by
  refine forRange_establishes (fun t => ApllsMove s t ∧ t.apll k = s.apll k)
    (fun t => t.apll k = { s.apll k with lag := (s.apll k).lag + amt * 2 ^ 32 }) hk
    (fun i _ hi t ht => ⟨ht.1.trans (apllTakes_move p amt i t), (apllTakes_apll_ne hi ..).trans ht.2⟩)
    (fun i _ hi t ht => (apllTakes_apll_ne hi ..).trans ht) (fun t ht => ?_) ⟨.refl s, rfl⟩
  obtain ⟨hmove, hsame⟩ := ht
  rw [apllTakes_follows (hmove.follows.mpr h), State.apll_put_self, hsame]

theorem apllsTake_rests (h : ¬ s.apllFollows p k) : (forRange 9 (apllTakes p amt) s).apll k = s.apll k := by
  refine (forRange_keeps (fun t => ApllsMove s t ∧ t.apll k = s.apll k) (fun i _ t ht => ?_) ⟨.refl s, rfl⟩).2
  obtain ⟨hmove, hsame⟩ := ht
  refine ⟨hmove.trans (apllTakes_move p amt i t), ?_⟩
  by_cases hi : i = k
  · rw [hi, apllTakes_rests (mt hmove.follows.mp h), hsame]
  · rw [apllTakes_apll_ne hi, hsame]

/-! ### The phase of a path steps (R177, R192) -/

theorem pathShift_path (p q : Nat) (amt : Int) (s : State) :
    (pathShift p amt s).path q = if q = p then (s.path p).shift amt else s.path q := by
  obtain ⟨a, ha⟩ := (apllsTake_move p amt (s.putPath p ((s.path p).shift amt))).frame
  rw [pathShift_eq, ha]
  by_cases h : q = p
  · simp [h]
  · simp [h, Ne.symm h]

theorem pathShift_frame (p : Nat) (amt : Int) (s : State) : ∃ x a, pathShift p amt s = { s with paths := x, aplls := a } := by
  obtain ⟨a, ha⟩ := (apllsTake_move p amt (s.putPath p ((s.path p).shift amt))).frame
  exact ⟨_, a, ha⟩

theorem pathShift_follows (hk : k < 9) (h : s.apllFollows p k) :
    (pathShift p amt s).apll k = { s.apll k with lag := (s.apll k).lag + amt * 2 ^ 32 } :=
  apllsTake_follows (s := s.putPath p ((s.path p).shift amt)) hk h

theorem pathShift_rests (h : ¬ s.apllFollows p k) : (pathShift p amt s).apll k = s.apll k :=
  apllsTake_rests (s := s.putPath p ((s.path p).shift amt)) h

/-! ### The commands (R176, R177) -/

/-- The amount that a write of LO commits, in 2^-32 ns. -/
def State.stepAmount (s : State) (p : Nat) (lo : BitVec 32) : Int :=
  toSigned 48 (s.rd (Reg.PATH_PHASE_STEP_HI_AMOUNT_HI p) * 2 ^ 32 + lo.toNat) * 2 ^ 16

theorem stepFits_iff (r : Int) : stepFits r = true ↔ -2 ^ 63 ≤ r ∧ r < 2 ^ 63 := by
  rw [stepFits, decide_eq_true_eq]
  norm_num

/-- An accepted commit adds to what remains of path `p`. -/
def stepTaken (p : Nat) (lo : BitVec 32) (s : State) : State :=
  (((s.wr (Reg.PATH_PHASE_STEP_LO_AMOUNT_LO p) lo.toNat).putPath p { s.path p with
      remain := (s.path p).remain + s.stepAmount p lo
      seg := if (s.path p).remain = 0 then 0 else (s.path p).seg }).wr (Reg.PATH_STEP_STATUS_REJ p) 0).bump
    (Reg.PATH_STEP_STATUS_ACCEPTED p)

theorem doPhaseStepCommit_eq (p : Fin 8) (lo : BitVec 32) (s : State) : doPhaseStepCommit p lo s =
    if stepFits ((s.path p).remain + s.stepAmount p lo) then .next (stepTaken p lo s)
    else .next ((s.wr (Reg.PATH_PHASE_STEP_LO_AMOUNT_LO p) lo.toNat).wr (Reg.PATH_STEP_STATUS_REJ p) 1) := by
  have hhi : (s.wr (Reg.PATH_PHASE_STEP_LO_AMOUNT_LO p) lo.toNat).rd (Reg.PATH_PHASE_STEP_HI_AMOUNT_HI p) =
      s.rd (Reg.PATH_PHASE_STEP_HI_AMOUNT_HI p) := s.rd_wr_ne (by simp) _
  unfold doPhaseStepCommit
  dsimp only
  rw [hhi]
  rfl

theorem stepTaken_spec (p : Nat) (lo : BitVec 32) (s : State) :
    (stepTaken p lo s).path p = { s.path p with
      remain := (s.path p).remain + s.stepAmount p lo
      seg := if (s.path p).remain = 0 then 0 else (s.path p).seg } ∧
    (stepTaken p lo s).rd (Reg.PATH_STEP_STATUS_REJ p) = 0 ∧
    (stepTaken p lo s).rd (Reg.PATH_STEP_STATUS_ACCEPTED p) =
      (s.rd (Reg.PATH_STEP_STATUS_ACCEPTED p) + 1) % 2 ^ (Reg.PATH_STEP_STATUS_ACCEPTED p).width ∧
    (∀ q, q ≠ p → (stepTaken p lo s).path q = s.path q) ∧
    s.regsBut [Reg.PATH_PHASE_STEP_LO_AMOUNT_LO p, Reg.PATH_STEP_STATUS_REJ p, Reg.PATH_STEP_STATUS_ACCEPTED p]
      (stepTaken p lo s) ∧
    stepTaken p lo s = { s with regs := (stepTaken p lo s).regs, paths := (stepTaken p lo s).paths } := by
  refine ⟨by simp [stepTaken], ?_, ?_, fun q hq => by simp [stepTaken, hq.symm], ?_, rfl⟩
  · rw [stepTaken, State.rd_bump_ne _ (by simp), State.rd_wr_self, Nat.zero_mod]
  · rw [stepTaken, State.rd_bump_self, State.rd_wr_ne _ (by simp), State.rd_putPath, State.rd_wr_ne _ (by simp; omega)]
  · exact ((s.regsBut_wr (by simp) _).trans (State.regsBut_of_regs_eq rfl _)).trans
      ((State.regsBut_wr _ (by simp) _).trans (State.regsBut_wr _ (by simp) _))

end Sys2Proof.Machine
end

section
/-! Timescale commands and phase steps (O26): the host's accesses, the two timers, and the slewer's last tick. -/
namespace Sys2Proof.Machine

variable {s : State}

/-! ### The host's accesses (R23) -/

/-- The registers of the timescales and of the phase steps have nothing that follows them. -/
theorem hostCmd_tsCmd (n : Fin 4) {f : State → Out} {t : State} (h : s.hostOpen (Reg.TS_CMD_SET n).addr) (hf : f s = .next t) :
    hostCmd (Reg.TS_CMD_SET n).addr f s = .next t :=
  hostCmd_plain _ f s t h (by simp [Reg.TS_CMD_SET]; omega) (by simp [Reg.TS_CMD_SET]; omega) hf

section
variable {n : Fin 4} (h : s.hostOpen (Reg.TS_CMD_SET n).addr)
include h

theorem exec_tsSet : exec (.tsSet n) s = .next (tsOrder n true s) := hostCmd_tsCmd n h rfl

theorem exec_tsAdj : exec (.tsAdj n) s = .next (tsOrder n false s) := hostCmd_tsCmd n h rfl

end

theorem tsOrder_stopped (h : s.clk.time = .stopped) (n : Nat) (isSet : Bool) :
    tsOrder n isSet s = s.wr (if isSet then Reg.TS_CMD_SET n else Reg.TS_CMD_ADJ n) 1 := if_pos h

theorem tsOrder_runs (h : s.clk.time ≠ .stopped) (n : Nat) (isSet : Bool) : tsOrder n isSet s = tsCommand n isSet s := if_neg h

/-- A one-bit mark is put, and nothing else changes. -/
theorem State.wr_mark (s : State) (f : Fld) (hf : f.width = 1) : (s.wr f 1).rd f = 1 ∧ s.onlyRegs [f] (s.wr f 1) :=
  ⟨by rw [State.rd_wr_self, hf]; rfl, rfl, s.regsBut_wr (by simp) 1⟩

section
variable {n : Fin 4} (ho : s.hostOpen (Reg.TS_CMD_SET n).addr) (hclk : s.clk.time ≠ .stopped)
  (hns : s.rd (Reg.TS_VAL_NS_NS n) < 10 ^ 9) (hpar : s.parityIn (0x30000 + 0x40 * n) 0x40 = false)
include ho hclk hns hpar

theorem exec_ts_waits (he : s.rd (Reg.TS_CFG_AT_EDGE n) ≠ 0) :
    exec (.tsSet n) s = .next (tsKept n true s) ∧ exec (.tsAdj n) s = .next (tsKept n false s) := by
  rw [exec_tsSet ho, exec_tsAdj ho, tsOrder_runs hclk, tsOrder_runs hclk, tsCommand_atEdge hns hpar he,
    tsCommand_atEdge hns hpar he]
  exact ⟨rfl, rfl⟩

variable (he : s.rd (Reg.TS_CFG_AT_EDGE n) = 0)
include he

theorem exec_tsAdj_moves : exec (.tsAdj n) s =
    .next (pendCleared n (tsMove n (tsAdd (s.tscale n).val (s.valSigned n * 2 ^ 48)) (tsTaken n s))) := by
  rw [exec_tsAdj ho, tsOrder_runs hclk, tsCommand_adj hns hpar he]

theorem exec_tsSet_moves (hl : (s.tscale n).lastStep.any (fun e => decide (e.1 = s.now)) = false) : exec (.tsSet n) s =
    .next (pendCleared n (tsMove n (tsAdd 0 (s.valUnsigned n * 2 ^ 48)) (tsNoted n (tsTaken n s)))) := by
  rw [exec_tsSet ho, tsOrder_runs hclk, tsCommand_set hns hpar he, tsSet_taken, hl, if_neg Bool.false_ne_true]

theorem exec_tsSet_loses (hl : (s.tscale n).lastStep.any (fun e => decide (e.1 = s.now)) = true) : exec (.tsSet n) s =
    .next (pendCleared n (tsLost n (tsAdd 0 (s.valUnsigned n * 2 ^ 48)) (tsTaken n s))) := by
  rw [exec_tsSet ho, tsOrder_runs hclk, tsCommand_set hns hpar he, tsSet_taken, hl, if_pos rfl]

end

/-! ### CAPTURE and the time-out of a waiting command (R231, R232) -/

/-- The time of timescale `n` is captured (R232). -/
def tsCaptured (n : Nat) (s : State) : State :=
  (s.putTscale n { s.tscale n with cap := (s.tscale n).val / 2 ^ 48 }).wrs
    [(Reg.TS_CAP_S_LO_S n, (s.tscale n).val / 2 ^ 48 / 2 ^ 16 / 10 ^ 9),
      (Reg.TS_CAP_NS_NS n, (s.tscale n).val / 2 ^ 48 / 2 ^ 16 % 10 ^ 9),
      (Reg.TS_CAP_FRAC_FRAC n, (s.tscale n).val / 2 ^ 48 % 2 ^ 16)]

theorem exec_tsCapture {n : Fin 4} (h : s.hostOpen (Reg.TS_CMD_SET n).addr) : exec (.tsCapture n) s = .next (tsCaptured n s) :=
  hostCmd_tsCmd n h rfl

theorem tsCaptured_spec (n : Nat) (s : State) :
    let v := (s.tscale n).val / 2 ^ 48
    let t := tsCaptured n s
    t.rd (Reg.TS_CAP_S_LO_S n) = v / 2 ^ 16 / 10 ^ 9 % 2 ^ 32 ∧ t.rd (Reg.TS_CAP_NS_NS n) = v / 2 ^ 16 % 10 ^ 9 ∧
      t.rd (Reg.TS_CAP_FRAC_FRAC n) = v % 2 ^ 16 ∧ t.tscale n = { s.tscale n with cap := v } ∧
      (∀ m, m ≠ n → t.tscale m = s.tscale m) ∧
      s.regsBut [Reg.TS_CAP_S_LO_S n, Reg.TS_CAP_NS_NS n, Reg.TS_CAP_FRAC_FRAC n] t ∧
      t = { s with regs := t.regs, ts := t.ts } := by
  intro v t
  have hkeys : ([(Reg.TS_CAP_S_LO_S n, v / 2 ^ 16 / 10 ^ 9), (Reg.TS_CAP_NS_NS n, v / 2 ^ 16 % 10 ^ 9),
      (Reg.TS_CAP_FRAC_FRAC n, v % 2 ^ 16)].map fun p => p.1.key).Nodup := by simp
  have hns : v / 2 ^ 16 % 10 ^ 9 < 2 ^ 30 := by omega
  refine ⟨State.rd_wrs_mem _ hkeys (by simp), (State.rd_wrs_mem _ hkeys (by simp)).trans (Nat.mod_eq_of_lt hns),
    (State.rd_wrs_mem _ hkeys (by simp)).trans (Nat.mod_mod ..), ?_, fun m hm => ?_, ?_, rfl⟩
  · simp [t, tsCaptured, v]
  · simp [t, tsCaptured, hm.symm]
  · exact (State.regsBut_of_regs_eq rfl _).trans (State.regsBut_wrs _ _ (by simp))

/-- The command of timescale `n` has waited too long (R231). -/
def State.tsOverdue (s : State) (n : Nat) : Bool := (s.tscale n).pend.any fun c => decide (c.since + 2048000000000 ≤ s.tb)

/-- The waiting command of timescale `n` clears without effect (R231). -/
def tsTimedOut (n : Nat) (s : State) : State :=
  (pendCleared n s).wrs [(Reg.TS_STATUS_TIMEOUT n, 1), (Reg.TS_CMD_SET n, 0), (Reg.TS_CMD_ADJ n, 0)]

theorem exec_tsCmdTimeout_overdue {n : Fin 4} (h : s.tsOverdue n = true) :
    exec (.tsCmdTimeout n) s = .next (tsTimedOut n s) := congrArg Host.Outcome.next (if_pos h)

theorem exec_tsCmdTimeout_stands {n : Fin 4} (h : s.tsOverdue n = false) : exec (.tsCmdTimeout n) s = .next s :=
  congrArg Host.Outcome.next (if_neg (Bool.eq_false_iff.mp h))

theorem tsTimedOut_spec (n : Nat) (s : State) :
    let t := tsTimedOut n s
    t.tscale n = { s.tscale n with pend := none } ∧ t.rd (Reg.TS_STATUS_TIMEOUT n) = 1 ∧ t.rd (Reg.TS_CMD_SET n) = 0 ∧
      t.rd (Reg.TS_CMD_ADJ n) = 0 ∧ (∀ m, m ≠ n → t.tscale m = s.tscale m) ∧
      s.regsBut [Reg.TS_STATUS_TIMEOUT n, Reg.TS_CMD_SET n, Reg.TS_CMD_ADJ n] t ∧
      t = { s with regs := t.regs, ts := t.ts } := by
  have hkeys : ([(Reg.TS_STATUS_TIMEOUT n, 1), (Reg.TS_CMD_SET n, 0), (Reg.TS_CMD_ADJ n, 0)].map fun p => p.1.key).Nodup := by
    simp
    omega
  have hput : ∀ f v, (f, v) ∈ _ → (tsTimedOut n s).rd f = v % 2 ^ f.width := fun f v => State.rd_wrs_mem _ hkeys
  refine ⟨by simp [tsTimedOut, pendCleared], hput _ 1 (by simp), hput _ 0 (by simp), hput _ 0 (by simp),
    fun m hm => by simp [tsTimedOut, pendCleared, hm.symm], ?_, rfl⟩
  exact (State.regsBut_of_regs_eq rfl _).trans (State.regsBut_wrs _ _ (by simp))

/-! ### The phase steps of a path (R176, R177) -/

theorem exec_phaseStepCommit {p : Fin 8} {lo : BitVec 32} {t : State}
    (h : s.hostOpen (Reg.PATH_PHASE_STEP_LO_AMOUNT_LO p).addr) (hf : doPhaseStepCommit p lo s = .next t) :
    exec (.phaseStepCommit p lo) s = .next t :=
  hostCmd_plain _ _ s t h (by simp [Reg.PATH_PHASE_STEP_LO_AMOUNT_LO]; omega)
    (by simp [Reg.PATH_PHASE_STEP_LO_AMOUNT_LO]; omega) hf

theorem exec_stepCancel {p : Fin 8} (h : s.hostOpen (Reg.PATH_STEP_CMD_CANCEL p).addr) :
    exec (.stepCancel p) s = .next (s.putPath p { s.path p with remain := 0 }) :=
  hostCmd_plain _ _ s _ h (by simp [Reg.PATH_STEP_CMD_CANCEL]; omega) (by simp [Reg.PATH_STEP_CMD_CANCEL]; omega) rfl

/-- The slewer of path `p` moves all that remains in this tick (R177). -/
def State.slewEnds (s : State) (p : Nat) : Prop :=
  s.timeClocked = true ∧ s.rd (Reg.PATH_STEP_CFG_MODE p) = 0 ∧ s.pathHeld p = false ∧
    ((s.path p).remain.natAbs : Int) ≤ slewDue 1 p s

theorem exec_slewComplete_ends {p : Fin 8} (h : s.slewEnds p) :
    exec (.slewComplete p) s = .next (pathShift p (s.path p).remain s) := by
  obtain ⟨hclk, hmode, hheld, hdue⟩ := h
  exact congrArg Host.Outcome.next (if_pos ⟨hclk, hmode, by rw [hheld]; rfl, hdue⟩)

theorem exec_slewComplete_stands {p : Fin 8} (h : ¬ s.slewEnds p) : exec (.slewComplete p) s = .next s :=
  congrArg Host.Outcome.next (if_neg fun ⟨hclk, hmode, hheld, hdue⟩ => h ⟨hclk, hmode, by simpa using hheld, hdue⟩)

/-! ### O26 -/

/-- Settles O26: a SET or an ADJ is refused, waits, or acts as `tsCommand_set` and `tsCommand_adj` have it, and a step of a path's
phase by `pathShift_path`, `pathShift_follows` and `pathShift_rests`. -/
theorem timescalesAndPhaseSteps : Obligations.timescales_and_phase_steps := by
  unfold Obligations.timescales_and_phase_steps
  refine ⟨fun n s => ?_, fun p lo s => ?_⟩
  · intro a steps runs lost waited placed moved waits
    refine ⟨fun ⟨ho, hclk, hns, hpar⟩ he hl => ?lost, fun ⟨ho, hclk, hns, hpar⟩ he => ⟨fun hl => ?set, ?adj⟩,
      fun ⟨ho, hclk, hns, hpar⟩ he => ?waits, fun ho hclk hns => ?refused, fun ho hclk => ?stopped,
      fun ho => ⟨_, exec_tsCapture ho, tsCaptured_spec n s⟩, exec_tsCmdTimeout_stands,
      fun hw => ⟨_, exec_tsCmdTimeout_overdue hw, tsTimedOut_spec n s⟩⟩
    case lost =>
      exact ⟨_, exec_tsSet_loses ho hclk hns hpar he hl, (tsTaken_tsTakes n s).loses _⟩
    case set =>
      exact ⟨_, exec_tsSet_moves ho hclk hns hpar he hl, (tsTaken_tsTakes n s).noted.moves _⟩
    case adj =>
      exact ⟨_, exec_tsAdj_moves ho hclk hns hpar he, (tsTaken_tsTakes n s).moves _⟩
    case waits =>
      obtain ⟨hset, hadj⟩ := exec_ts_waits ho hclk hns hpar he
      have hkeptSet := tsKept_waits n true s
      have hkeptAdj := tsKept_waits n false s
      rw [State.tsAmount_set] at hkeptSet
      rw [State.tsAmount_adj] at hkeptAdj
      exact ⟨⟨_, hset, hkeptSet⟩, ⟨_, hadj, hkeptAdj⟩⟩
    case refused =>
      have hrefused : ∀ b, tsOrder n b s = s.wr (Reg.TS_STATUS_REJ n) 1 := fun b =>
        (tsOrder_runs hclk n b).trans (tsCommand_refused hns)
      have hmark := s.wr_mark (Reg.TS_STATUS_REJ n) rfl
      exact ⟨⟨_, (exec_tsSet ho).trans (congrArg _ (hrefused true)), hmark⟩,
        ⟨_, (exec_tsAdj ho).trans (congrArg _ (hrefused false)), hmark⟩⟩
    case stopped =>
      exact ⟨⟨_, (exec_tsSet ho).trans (congrArg _ (tsOrder_stopped hclk n true)), s.wr_mark (Reg.TS_CMD_SET n) rfl⟩,
        ⟨_, (exec_tsAdj ho).trans (congrArg _ (tsOrder_stopped hclk n false)), s.wr_mark (Reg.TS_CMD_ADJ n) rfl⟩⟩
  · intro x amt fits low accepted rej others last follows
    refine ⟨fun ho hf => ?fits, fun ho hf => ?refused, fun ho => ?cancel, fun hl => ?ends, exec_slewComplete_stands⟩
    case fits =>
      have hdo : doPhaseStepCommit p lo s = .next (stepTaken p lo s) :=
        (doPhaseStepCommit_eq p lo s).trans (if_pos ((stepFits_iff _).mpr hf))
      exact ⟨_, exec_phaseStepCommit ho hdo, stepTaken_spec p lo s⟩
    case refused =>
      have hdo : doPhaseStepCommit p lo s = .next ((s.wr low lo.toNat).wr rej 1) :=
        (doPhaseStepCommit_eq p lo s).trans (if_neg (mt (stepFits_iff _).mp hf))
      exact ⟨_, exec_phaseStepCommit ho hdo, (s.wr low lo.toNat).rd_wr_self rej 1,
        s.onlyRegs_wrs [(low, lo.toNat), (rej, 1)] (by simp)⟩
    case cancel =>
      exact ⟨_, exec_stepCancel ho, s.path_put_self .., fun q hq => s.path_put_ne hq.symm _, rfl⟩
    case ends =>
      obtain ⟨y, a, hframe⟩ := pathShift_frame p x.remain s
      refine ⟨_, exec_slewComplete_ends hl, ?_, fun q hq => ?_, fun k hk hf => pathShift_follows hk hf,
        fun k _ hf => pathShift_rests hf, by rw [hframe]⟩
      · rw [pathShift_path, if_pos rfl, PathSt.shift, Int.sub_self]
      · rw [pathShift_path, if_neg hq]

end Sys2Proof.Machine
end

section
/-! SUPPORT for the synthesis chain: host writes at its registers, and what the acquisition of an APLL, the work of A8 and the moves
of outputs leave alone (R197, R198, R203, R207 to R210). -/
namespace Sys2Proof.Machine

variable {k : Nat} {s t u : State}

/-! ### Host writes at the synthesis registers (R382) -/

/-- A write that reaches a synthesis register has its effect, and OUT_ERR follows. -/
theorem hostCmd_synth {a : Nat} {f : State → Out} (h : s.hostOpen a) (ha : 0x24000 ≤ a ∧ a < 0x28000) (hf : f s = .next t) :
    hostCmd a f s = .next (outErrs t) := by
  obtain ⟨hlow, hhigh⟩ := ha
  rw [hostCmd_open a f s t h (decide_eq_false (by omega)) hf, followConfig, if_pos (.inr ⟨hlow, hhigh⟩)]

@[simp] theorem rd_outErrs (s : State) (f : Fld) : (outErrs s).rd f = s.rd f := by
  obtain ⟨c, hc⟩ := outErrs_frame s
  rw [hc]
  rfl

@[simp] theorem outErrs_aplls (s : State) : (outErrs s).aplls = s.aplls := by
  obtain ⟨c, hc⟩ := outErrs_frame s
  rw [hc]

@[simp] theorem apll_outErrs (s : State) (j : Nat) : (outErrs s).apll j = s.apll j := by
  obtain ⟨c, hc⟩ := outErrs_frame s
  rw [hc]
  rfl

@[simp] theorem outp_outErrs (s : State) (o : Nat) : (outErrs s).outp o = s.outp o := by
  obtain ⟨c, hc⟩ := outErrs_frame s
  rw [hc]
  rfl

@[simp] theorem age_outErrs (s : State) (x : Timer) : (outErrs s).age x = s.age x := by
  obtain ⟨c, hc⟩ := outErrs_frame s
  rw [hc]
  rfl

theorem outErrs_twice_frame (s : State) : ∃ c, outErrs (outErrs s) = { s with flt := c } := by
  obtain ⟨c, hc⟩ := outErrs_frame s
  obtain ⟨c', hc'⟩ := outErrs_frame (outErrs s)
  exact ⟨c', by rw [hc', hc]⟩

theorem present_outErrs {ev : Nat} (hev : ev ≠ 28) (inst : Nat) (s : State) :
    (outErrs s).present ev inst ↔ s.present ev inst :=
  forRange_keeps (fun t => t.present ev inst ↔ s.present ev inst)
    (fun _ _ t ht => (t.present_level_ne (by simp [hev]) _ _).trans ht) Iff.rfl

/-! ### Timers -/

/-- A timer that begins leaves the others running. -/
theorem State.age_arm_ne (s : State) {x y : Timer} (h : x ≠ y) : (s.arm x).age y = s.age y := by
  have hfind : (s.arm x).timers.find? (fun e => decide (e.1 = y)) = s.timers.find? (fun e => decide (e.1 = y)) := by
    simp only [State.arm, List.find?_cons, h, decide_false, List.find?_filter]
    refine congrArg (List.find? · s.timers) (funext fun e => ?_)
    by_cases he : e.1 = y
    · simp [he, h.symm]
    · simp [he]
  simp only [State.age, hfind]
  rfl

theorem State.age_congr (ht : t.timers = s.timers) (hu : t.up = s.up) (x : Timer) : t.age x = s.age x := by
  simp only [State.age, ht, hu]

/-! ### An APLL acquires its plan (R197, R198) -/

/-- From `s` to `t` APLL `k` may acquire its plan anew: its record keeps the plan, whether one was applied, and that no change runs. -/
structure Acquires (k : Nat) (s t : State) : Prop where
  frame : ∃ r a m, t = { s with regs := r, aplls := a, timers := m }
  regs : s.regsBut [Reg.APLL_STATUS_LOCK k, Reg.APLL_STATUS_STATE k, Reg.APLL_COUNT_SEARCHES k] t
  others : ∀ j, j ≠ k → t.apll j = s.apll j
  plan : (t.apll k).plan = (s.apll k).plan
  applied : (t.apll k).applied = (s.apll k).applied
  calm : (s.apll k).change = none → (t.apll k).change = none
  timers : ∀ x, x ≠ .hop k → t.age x = s.age x

theorem Acquires.refl (k : Nat) (s : State) : Acquires k s s :=
  ⟨⟨_, _, _, rfl⟩, s.regsBut_refl _, fun _ _ => rfl, rfl, rfl, id, fun _ _ => rfl⟩

theorem Acquires.trans (h : Acquires k s t) (h' : Acquires k t u) : Acquires k s u := by
  obtain ⟨⟨_, _, _, rfl⟩, hregs, hothers, hplan, happlied, hcalm, htimers⟩ := h
  obtain ⟨⟨_, _, _, rfl⟩, hregs', hothers', hplan', happlied', hcalm', htimers'⟩ := h'
  exact ⟨⟨_, _, _, rfl⟩, hregs.trans hregs', fun j hj => (hothers' j hj).trans (hothers j hj), hplan'.trans hplan,
    happlied'.trans happlied, fun h => hcalm' (hcalm h), fun x hx => (htimers' x hx).trans (htimers x hx)⟩

theorem Acquires.putApll {x : ApllSt} (hplan : x.plan = (s.apll k).plan) (happlied : x.applied = (s.apll k).applied)
    (hcalm : (s.apll k).change = none → x.change = none) : Acquires k s (s.putApll k x) := by
  refine ⟨⟨_, _, _, rfl⟩, s.regsBut_refl _, fun j hj => s.apll_put_ne hj.symm x, ?_, ?_, fun h => ?_, fun _ _ => rfl⟩
  · rw [s.apll_put_self, hplan]
  · rw [s.apll_put_self, happlied]
  · rw [s.apll_put_self, hcalm h]

theorem startSearch_rd_state (k : Nat) (s : State) : (startSearch k s).rd (Reg.APLL_STATUS_STATE k) = 1 := by
  simp [startSearch]

theorem startSearch_rd_lock (k : Nat) (s : State) : (startSearch k s).rd (Reg.APLL_STATUS_LOCK k) = 0 := by
  simp (disch := simp <;> omega) [startSearch]

theorem startSearch_rd_searches (k : Nat) (s : State) : (startSearch k s).rd (Reg.APLL_COUNT_SEARCHES k) =
    (s.rd (Reg.APLL_COUNT_SEARCHES k) + 1) % 2 ^ (Reg.APLL_COUNT_SEARCHES k).width := by
  simp (disch := simp <;> omega) [startSearch]

theorem startSearch_regsBut (k : Nat) (s : State) :
    s.regsBut [Reg.APLL_STATUS_LOCK k, Reg.APLL_STATUS_STATE k, Reg.APLL_COUNT_SEARCHES k] (startSearch k s) :=
  ((s.regsBut_wr (by simp) _).trans (State.regsBut_wr _ (by simp) _)).trans (State.regsBut_wr _ (by simp) _)

theorem startSearch_acquires (k : Nat) (s : State) : Acquires k s (startSearch k s) :=
  ⟨⟨_, _, _, rfl⟩, startSearch_regsBut k s, fun _ _ => rfl, rfl, rfl, id, fun _ _ => rfl⟩

/-- APLL `k` with a hop begun by entry `i` of its cache. -/
def hopBegun (k i : Nat) (s : State) : State :=
  (((s.putApll k { s.apll k with hopEnt := i, preset := ((s.apll k).ent i).preset }).wrb (Reg.APLL_STATUS_LOCK k) false).wr
    (Reg.APLL_STATUS_STATE k) 2).arm (.hop k)

theorem hopBegun_rd_state (k i : Nat) (s : State) : (hopBegun k i s).rd (Reg.APLL_STATUS_STATE k) = 2 := by
  simp [hopBegun]

theorem hopBegun_rd_lock (k i : Nat) (s : State) : (hopBegun k i s).rd (Reg.APLL_STATUS_LOCK k) = 0 := by
  simp [hopBegun]

theorem hopBegun_apll (k i : Nat) (s : State) :
    (hopBegun k i s).apll k = { s.apll k with hopEnt := i, preset := ((s.apll k).ent i).preset } := s.apll_put_self k _

theorem hopBegun_regsBut (k i : Nat) (s : State) :
    s.regsBut [Reg.APLL_STATUS_LOCK k, Reg.APLL_STATUS_STATE k, Reg.APLL_COUNT_SEARCHES k] (hopBegun k i s) := by
  intro f hf
  rw [hopBegun, State.rd_arm, State.rd_wr_ne _ (hf _ (by simp)), State.rd_wrb_ne _ (hf _ (by simp)), State.rd_putApll]

theorem hopBegun_acquires (k i : Nat) (s : State) : Acquires k s (hopBegun k i s) where
  frame := ⟨_, _, _, rfl⟩
  regs := hopBegun_regsBut k i s
  others _ hj := s.apll_put_ne hj.symm _
  plan := by rw [hopBegun_apll]
  applied := by rw [hopBegun_apll]
  calm h := by rw [hopBegun_apll]; exact h
  timers _ hx := State.age_arm_ne _ hx.symm

theorem acquire_hit {i : Nat} (h : s.cacheHit k (s.apll k).plan.f = some i) : acquire k true s = hopBegun k i s := by
  simp only [acquire, if_true, h]
  rfl

theorem acquire_miss (h : s.cacheHit k (s.apll k).plan.f = none) (hop : Bool) : acquire k hop s = startSearch k s := by
  cases hop
  case false => rfl
  case true => simp only [acquire, if_true, h]

theorem acquire_acquires (k : Nat) (hop : Bool) (s : State) : Acquires k s (acquire k hop s) := by
  cases hhit : s.cacheHit k (s.apll k).plan.f with
  | none => rw [acquire_miss hhit]; exact startSearch_acquires k s
  | some i =>
    cases hop
    case false => exact startSearch_acquires k s
    case true => rw [acquire_hit hhit]; exact hopBegun_acquires k i s

theorem acquire_rd_lock (k : Nat) (hop : Bool) (s : State) : (acquire k hop s).rd (Reg.APLL_STATUS_LOCK k) = 0 := by
  cases hhit : s.cacheHit k (s.apll k).plan.f with
  | none => rw [acquire_miss hhit]; exact startSearch_rd_lock k s
  | some i =>
    cases hop
    case false => exact startSearch_rd_lock k s
    case true => rw [acquire_hit hhit]; exact hopBegun_rd_lock k i s

/-! ### A change begins (R203, R205) -/

/-- Has every output that the change `c` of group `k` holds or moves to BYPASS left the VCO? -/
def State.changeQuiet (s : State) (k : Nat) (c : Change) : Bool :=
  (groupOuts k).all (fun o => !(maskBit c.held o || maskBit c.byp o) || decide (2 ≤ s.srcAct o) || (s.outp o).frozen.isSome)

/-- No change of APLL `k` waits to begin. -/
def State.changesBegun (s : State) (k : Nat) : Prop := ∀ c, (s.apll k).change = some c → c.begun = true

theorem changeBegin_of_change {c : Change} (h : (s.apll k).change = some c) : changeBegin k s =
    if !c.begun && s.changeQuiet k c then
      acquire k (decide (c.cls = .hop)) (s.putApll k { s.apll k with change := some { c with begun := true } })
    else s := by
  simp only [changeBegin, h]
  rfl

theorem changeBegin_begun (h : s.changesBegun k) : changeBegin k s = s := by
  cases hc : (s.apll k).change with
  | none => simp only [changeBegin, hc]
  | some c => rw [changeBegin_of_change hc, h c hc]; rfl

theorem changeBegin_acquires (k : Nat) (s : State) : Acquires k s (changeBegin k s) := by
  cases hc : (s.apll k).change with
  | none => simp only [changeBegin, hc]; exact .refl k s
  | some c =>
    rw [changeBegin_of_change hc]
    split
    · refine Acquires.trans ?begun (acquire_acquires ..)
      exact .putApll rfl rfl fun h => absurd (hc.symm.trans h) (Option.some_ne_none c)
    · exact .refl k s

/-! ### The work of A8 (R209, R210) -/

/-- The registers that the work of A8 writes. -/
def spareRegs : List Fld :=
  [Reg.APLL_STATUS_LOCK 8, Reg.APLL_STATUS_STATE 8, Reg.APLL_COUNT_SEARCHES 8, Reg.APLL_SPARE_STATUS_SERVING 8]

/-- From `s` to `t` A8 has moved: its record, its registers, the timer of its hop and SPARE_IN_USE may differ. -/
structure SpareMoves (s t : State) : Prop where
  frame : ∃ r a c m, t = { s with regs := r, aplls := a, flt := c, timers := m }
  regs : s.regsBut spareRegs t
  others : ∀ j, j ≠ 8 → t.apll j = s.apll j
  timers : ∀ x, x ≠ .hop 8 → t.age x = s.age x
  levels : ∀ ev inst, ev ≠ 26 → (t.present ev inst ↔ s.present ev inst)

/-- A8 has moved without a change of its own. -/
structure SpareWorks (s t : State) : Prop extends SpareMoves s t where
  calm : (s.apll 8).change = none → (t.apll 8).change = none

theorem SpareMoves.refl (s : State) : SpareMoves s s :=
  ⟨⟨_, _, _, _, rfl⟩, s.regsBut_refl _, fun _ _ => rfl, fun _ _ => rfl, fun _ _ _ => Iff.rfl⟩

theorem SpareMoves.trans (h : SpareMoves s t) (h' : SpareMoves t u) : SpareMoves s u := by
  obtain ⟨⟨_, _, _, _, rfl⟩, hregs, hothers, htimers, hlevels⟩ := h
  obtain ⟨⟨_, _, _, _, rfl⟩, hregs', hothers', htimers', hlevels'⟩ := h'
  exact ⟨⟨_, _, _, _, rfl⟩, hregs.trans hregs', fun j hj => (hothers' j hj).trans (hothers j hj),
    fun x hx => (htimers' x hx).trans (htimers x hx), fun ev inst hev => (hlevels' ev inst hev).trans (hlevels ev inst hev)⟩

theorem SpareWorks.refl (s : State) : SpareWorks s s := ⟨.refl s, id⟩

theorem SpareWorks.trans (h : SpareWorks s t) (h' : SpareWorks t u) : SpareWorks s u :=
  ⟨h.toSpareMoves.trans h'.toSpareMoves, fun hc => h'.calm (h.calm hc)⟩

theorem Acquires.spare (h : Acquires 8 s t) : SpareWorks s t := by
  obtain ⟨⟨r, a, m, rfl⟩, hregs, hothers, -, -, hcalm, htimers⟩ := h
  exact ⟨⟨⟨r, a, s.flt, m, rfl⟩, hregs.mono (by simp [spareRegs]), hothers, htimers, fun _ _ _ => Iff.rfl⟩, hcalm⟩

theorem SpareMoves.putApll (s : State) (x : ApllSt) : SpareMoves s (s.putApll 8 x) :=
  ⟨⟨_, _, _, _, rfl⟩, s.regsBut_refl _, fun _ hj => s.apll_put_ne hj.symm x, fun _ _ => rfl, fun _ _ _ => Iff.rfl⟩

theorem SpareWorks.putApll {x : ApllSt} (hx : (s.apll 8).change = none → x.change = none) : SpareWorks s (s.putApll 8 x) :=
  ⟨.putApll s x, fun h => (congrArg ApllSt.change (s.apll_put_self 8 x)).trans (hx h)⟩

theorem SpareWorks.wr {f : Fld} (hf : f ∈ spareRegs) (s : State) (v : Nat) : SpareWorks s (s.wr f v) :=
  ⟨⟨⟨_, _, _, _, rfl⟩, s.regsBut_wr hf v, fun _ _ => rfl, fun _ _ => rfl, fun _ _ _ => Iff.rfl⟩, id⟩

theorem SpareWorks.level (s : State) (inst : Nat) (on : Bool) : SpareWorks s (s.level 26 inst on) := by
  obtain ⟨c, hc⟩ := s.level_frame 26 inst on 0
  refine ⟨⟨⟨_, _, c, _, hc⟩, State.regsBut_of_regs_eq (by rw [hc]) _, fun _ _ => by simp, fun _ _ => by rw [hc]; rfl,
    fun ev i hev => s.present_level_ne (by simp [hev]) on 0⟩, fun h => by simpa using h⟩

theorem spareOff_works (s : State) : SpareWorks s (spareOff s) :=
  ((SpareWorks.putApll fun _ => rfl).trans (.wr (by simp [spareRegs]) _ _)).trans (.wr (by simp [spareRegs]) _ _)

theorem spareRun_works (j : Nat) (s : State) : SpareWorks s (spareRun j s) := by
  unfold spareRun
  dsimp only
  split
  · exact .refl s
  · split
    · exact spareOff_works s
    · refine SpareWorks.trans ?_ (acquire_acquires ..).spare
      exact .putApll id

theorem spareFollow_works (s : State) : SpareWorks s (spareFollow s) := by
  unfold spareFollow
  split
  · exact spareRun_works _ s
  · exact spareOff_works s

theorem coverNow_works (s : State) : SpareWorks s (coverNow s) := by
  unfold coverNow
  split
  · exact spareFollow_works s
  · refine SpareWorks.trans ?_ (spareFollow_works _)
    exact .putApll id

theorem spareServe_works (j : Nat) (s : State) : SpareWorks s (spareServe j s) :=
  SpareWorks.trans (.wr (by simp [spareRegs]) _ _) (.level _ _ _)

theorem spareCheck_works (s : State) : SpareWorks s (spareCheck s) := by
  have hends : ∀ v, SpareWorks s ((s.wr (Reg.APLL_SPARE_STATUS_SERVING 8) 15).level 26 v false) := fun v =>
    SpareWorks.trans (.wr (by simp [spareRegs]) _ _) (.level _ _ _)
  unfold spareCheck
  dsimp only
  split
  · split
    · exact .refl s
    · split
      · exact hends _
      · exact (hends _).trans (coverNow_works _)
  · split
    · split
      · exact coverNow_works s
      · exact .refl s
    · exact .refl s

/-! ### Moves of outputs (R206 to R210) -/

/-- Steps that move outputs alone, taken one after another, move outputs alone. -/
theorem foldl_outs {f : State → Nat → State} (hf : ∀ t o, ∃ y, f t o = { t with outs := y }) (l : List Nat) (s : State) :
    ∃ y, l.foldl f s = { s with outs := y } := by
  induction l generalizing s with
  | nil => exact ⟨_, rfl⟩
  | cons o l ih =>
    obtain ⟨y, hy⟩ := hf s o
    rw [List.foldl_cons, hy]
    exact ih { s with outs := y }

theorem mapOutputs_frame (k : Nat) (s : State) : ∃ y, mapOutputs k s = { s with outs := y } :=
  foldl_outs (fun t o => by dsimp only; split <;> exact ⟨_, rfl⟩) _ s

theorem autoReturn_frame (k : Nat) (s : State) : ∃ y, autoReturn k s = { s with outs := y } :=
  foldl_outs (fun t o => by dsimp only; split <;> exact ⟨_, rfl⟩) _ s

theorem moveOutputs_frame (k : Nat) (spare : Bool) (s : State) : ∃ y, moveOutputs k spare s = { s with outs := y } :=
  foldl_outs (fun t o => by dsimp only; split <;> exact ⟨_, rfl⟩) _ s

/-- When A8 has settled, outputs may move to it, and it may serve them or turn to its cover. -/
theorem spareSettled_works (s : State) : ∃ y, SpareWorks { s with outs := y } (spareSettled s) := by
  unfold spareSettled
  split
  next j _ =>
    split
    · exact ⟨s.outs, spareCheck_works s⟩
    · dsimp only
      split
      · exact ⟨s.outs, .refl s⟩
      · obtain ⟨y, hy⟩ := foldl_outs (f := fun s o => s.putOutp o { s.outp o with moved := 1 }) (fun _ _ => ⟨_, rfl⟩)
          ((groupOuts j).filter (fun o => decide ((s.outp o).moved = 2))) s
        rw [hy]
        exact ⟨y, spareServe_works j _⟩
  next => exact ⟨s.outs, .refl s⟩

/-! ### The STATE of an APLL (R211) -/

theorem setApllState_frame (k v : Nat) (s : State) : ∃ r a, setApllState k v s = { s with regs := r, aplls := a } := by
  unfold setApllState
  split <;> exact ⟨_, _, rfl⟩

theorem setApllState_regsBut (k v : Nat) (s : State) : s.regsBut [Reg.APLL_STATUS_STATE k] (setApllState k v s) := by
  unfold setApllState
  split
  · exact s.regsBut_refl _
  · exact s.regsBut_wr (by simp) v

theorem setApllState_apll_ne {j : Nat} (h : j ≠ k) (v : Nat) (s : State) : (setApllState k v s).apll j = s.apll j := by
  unfold setApllState
  split
  · exact s.apll_put_ne h.symm _
  · rfl

/-- STATE shows in the record of the APLL by what HOLD covers alone. -/
theorem setApllState_apll (k v : Nat) (s : State) :
    (setApllState k v s).apll k = { s.apll k with stateWas := ((setApllState k v s).apll k).stateWas } := by
  unfold setApllState
  split
  · rw [s.apll_put_self]
  · rfl

theorem setApllState_age (k v : Nat) (s : State) (x : Timer) : (setApllState k v s).age x = s.age x := by
  unfold setApllState
  split <;> rfl

theorem apllState_setApllState (k : Nat) {v : Nat} (hv : v < 6) (s : State) : (setApllState k v s).apllState k = v := by
  unfold setApllState
  split
  next h => rw [State.apllState, State.rd_putApll, if_pos h.1, s.apll_put_self]
  next h =>
    have hrd : (s.wr (Reg.APLL_STATUS_STATE k) v).rd (Reg.APLL_STATUS_STATE k) = v := by
      rw [State.rd_wr_self]
      exact Nat.mod_eq_of_lt (hv.trans (by simp))
    rw [State.apllState, hrd, if_neg (by omega)]

/-- The STATE of an APLL is read from its register and from its record. -/
theorem apllState_congr (hr : t.rd (Reg.APLL_STATUS_STATE k) = s.rd (Reg.APLL_STATUS_STATE k))
    (ha : (t.apll k).stateWas = (s.apll k).stateWas) : t.apllState k = s.apllState k := by
  rw [State.apllState, State.apllState, hr, ha]

end Sys2Proof.Machine
end

section
/-! APPLY and APPLY_FULL (O22): the checks and the class of a plan, what an APPLY that passes leaves, and the plans that A8 takes
for an APLL that the repair map replaces. -/
namespace Sys2Proof.Machine

variable {k : Nat} {full : Bool} {p : Plan} {c : PlanClass} {s t u : State}

/-! ### The class of a change and the outputs it affects (R201) -/

theorem apllTemp_congr (h0 : t.rd (Reg.DEV_TEMP_VALUE 0) = s.rd (Reg.DEV_TEMP_VALUE 0))
    (h1 : t.rd (Reg.DEV_TEMP_VALUE 1) = s.rd (Reg.DEV_TEMP_VALUE 1)) (k : Nat) : t.apllTemp k = s.apllTemp k := by
  unfold State.apllTemp State.rdi
  split
  · rw [h0]
  · rw [h1]

theorem cacheHit_congr (ha : (t.apll k).cache = (s.apll k).cache) (ht : t.apllTemp k = s.apllTemp k) (f : Nat) :
    t.cacheHit k f = s.cacheHit k f := by
  unfold State.cacheHit ApllSt.ent
  rw [ha, ht]

/-- A plan for which the cache of the APLL holds a hit is acquired by a hop. -/
theorem acquire_plan_hit {i : Nat} (hplan : (t.apll k).plan = p) (ha : (t.apll k).cache = (s.apll k).cache)
    (ht : t.apllTemp k = s.apllTemp k) (hi : s.cacheHit k p.f = some i) : acquire k true t = hopBegun k i t :=
  acquire_hit (by rw [hplan, cacheHit_congr ha ht, hi])

/-- The class of a change rests on the lock and the band of the APLL, on its record and on the temperature of its die. -/
theorem planClass_congr (hlock : t.rd (Reg.APLL_STATUS_LOCK k) = s.rd (Reg.APLL_STATUS_LOCK k))
    (hband : t.rd (Reg.APLL_STATUS_BAND k) = s.rd (Reg.APLL_STATUS_BAND k)) (ht : t.apllTemp k = s.apllTemp k)
    (ha : t.apll k = s.apll k) : t.planClass k p full = s.planClass k p full := by
  unfold State.planClass State.ramps State.bit
  rw [hlock, hband, ha, cacheHit_congr (congrArg ApllSt.cache ha) ht]

/-- A change of class HOP has a hit in the cache. -/
theorem cacheHit_of_hop (h : s.planClass k p full = .hop) : ∃ i, s.cacheHit k p.f = some i := by
  rw [← Option.isSome_iff_exists]
  unfold State.planClass at h
  dsimp only at h
  split at h
  · exact absurd h (by decide)
  · split at h
    · split at h <;> exact absurd h (by decide)
    · split at h
      · exact absurd h (by decide)
      · split at h
        · assumption
        · exact absurd h (by decide)

theorem planClass_code_lt (k : Nat) (c : PlanClass) : c.code < 2 ^ (Reg.APLL_STATUS_LAST_CLASS k).width := by
  cases c <;> simp [PlanClass.code]

theorem planClass_full : s.planClass k p true = .search := rfl

theorem changeOf_lt (s : State) (c : PlanClass) (b : Bool) (o : Nat) : s.changeOf c b o < 3 := by
  unfold State.changeOf
  repeat' split
  all_goals omega

theorem changeOf_congr {o : Nat} (hsrc : t.rd (Reg.OUT_CFG_SRC o) = s.rd (Reg.OUT_CFG_SRC o))
    (hmode : t.rd (Reg.OUT_CFG_MODE o) = s.rd (Reg.OUT_CFG_MODE o))
    (hrelock : t.rd (Reg.OUT_CFG_RELOCK o) = s.rd (Reg.OUT_CFG_RELOCK o)) (ha : t.apll 8 = s.apll 8) (c : PlanClass) (b : Bool) :
    t.changeOf c b o = s.changeOf c b o := by
  unfold State.changeOf State.takesPart State.bit
  rw [hsrc, hmode, hrelock, ha]

theorem srcAct_congr {o : Nat} (hpwr : t.rd Reg.PWR_STATUS_STATE = s.rd Reg.PWR_STATUS_STATE)
    (hen : t.rd (Reg.OUT_CFG_EN o) = s.rd (Reg.OUT_CFG_EN o)) (hformat : t.rd (Reg.OUT_CFG_FORMAT o) = s.rd (Reg.OUT_CFG_FORMAT o))
    (ho : t.outp o = s.outp o) : t.srcAct o = s.srcAct o := by
  unfold State.srcAct State.outFormat State.bit
  rw [hpwr, hen, hformat, ho]

/-- A mask that sets the bits of a list under a condition. -/
theorem maskBit_foldl_maskSet (P : Nat → Prop) [DecidablePred P] (l : List Nat) (m i : Nat) :
    maskBit (l.foldl (fun m o => if P o then maskSet m o else m) m) i = (maskBit m i || decide (i ∈ l ∧ P i)) := by
  induction l generalizing m with
  | nil => simp
  | cons o l ih =>
    rw [List.foldl_cons, ih]
    by_cases hi : o = i
    · subst hi
      by_cases ho : P o <;> simp [ho]
    · have hm : maskBit (if P o then maskSet m o else m) i = maskBit m i := by
        split
        · exact maskBit_maskSet_ne m hi
        · rfl
      simp [hm, Ne.symm hi]

/-- What a change to plan `p` does to output `o` of its group: 0 nothing, 1 held low, 2 BYPASS. -/
def State.outChange (s : State) (c : PlanClass) (p : Plan) (o : Nat) : Nat :=
  s.changeOf c (decide (p.divs.getD (o % 4) 0 ≠ s.outDiv o)) o

theorem maskBit_changeMask {o : Nat} (ho : o ∈ groupOuts k) (v : Nat) :
    maskBit (s.changeMask k c p v) o = decide (s.outChange c p o = v) := by
  have hmask := maskBit_foldl_maskSet (fun o => s.outChange c p o = v) (groupOuts k) 0 o
  have hzero : maskBit 0 o = false := Nat.zero_testBit o
  rw [hzero, Bool.false_or] at hmask
  exact hmask.trans (decide_eq_decide.mpr (and_iff_right ho))

/-! ### The verdict of the checks (R200) -/

/-- The verdict `e` of the checks on an APPLY of APLL `k` shows. -/
def State.planChecked (s : State) (k : Nat) (e : Nat × Nat) : State :=
  (s.wr (Reg.APLL_STATUS_APPLY_ERR k) e.1).wr (Reg.APLL_STATUS_ERR_OUT k) e.2

/-- The verdict `e` and the class `c` of an APPLY of APLL `k` show. -/
def State.planNoted (s : State) (k : Nat) (e : Nat × Nat) (c : PlanClass) : State :=
  (s.planChecked k e).wr (Reg.APLL_STATUS_LAST_CLASS k) c.code

section
variable (s) (e : Nat × Nat)

theorem planChecked_regsBut (k : Nat) : s.regsBut [Reg.APLL_STATUS_APPLY_ERR k, Reg.APLL_STATUS_ERR_OUT k] (s.planChecked k e) :=
  (s.regsBut_wr (by simp) _).trans (State.regsBut_wr _ (by simp) _)

theorem rd_planChecked_err (k : Nat) : (s.planChecked k e).rd (Reg.APLL_STATUS_APPLY_ERR k) =
    e.1 % 2 ^ (Reg.APLL_STATUS_APPLY_ERR k).width := by
  simp [State.planChecked]

theorem rd_planChecked_out (k : Nat) : (s.planChecked k e).rd (Reg.APLL_STATUS_ERR_OUT k) =
    e.2 % 2 ^ (Reg.APLL_STATUS_ERR_OUT k).width := by
  simp [State.planChecked]

theorem apllTemp_planChecked (k j : Nat) : (s.planChecked k e).apllTemp j = s.apllTemp j :=
  apllTemp_congr (planChecked_regsBut s e k _ (by simp; omega)) (planChecked_regsBut s e k _ (by simp; omega)) j

theorem planClass_planChecked (k j : Nat) (p : Plan) (full : Bool) :
    (s.planChecked k e).planClass j p full = s.planClass j p full :=
  planClass_congr (planChecked_regsBut s e k _ (by simp; omega)) (planChecked_regsBut s e k _ (by simp; omega))
    (apllTemp_planChecked s e k j) rfl

theorem changeMask_planChecked {k : Nat} (_hk : k < 9) (c : PlanClass) (p : Plan) (v : Nat) :
    (s.planChecked k e).changeMask k c p v = s.changeMask k c p v := by
  have hout : ∀ b o, (s.planChecked k e).changeOf c b o = s.changeOf c b o := fun b o =>
    changeOf_congr (planChecked_regsBut s e k _ (by simp; omega)) (planChecked_regsBut s e k _ (by simp; omega))
      (planChecked_regsBut s e k _ (by simp; omega)) rfl c b
  simp only [State.changeMask, hout]
  rfl

end

/-! ### A plan is taken (R200, R203) -/

/-- The registers that an APPLY of APLL `k` writes once its checks have passed and its class shows. -/
def takenRegs (k : Nat) : List Fld :=
  [Reg.APLL_STATUS_LOCK k, Reg.APLL_STATUS_STATE k, Reg.APLL_COUNT_SEARCHES k, Reg.APLL_CMD_APPLY k, Reg.APLL_CMD_FULL k]

/-- From `s` to `t` APLL `k` has taken plan `p`, and APPLY runs. -/
structure PlanTaken (k : Nat) (p : Plan) (s t : State) : Prop where
  frame : ∃ r a m, t = { s with regs := r, aplls := a, timers := m }
  regs : s.regsBut (takenRegs k) t
  others : ∀ j, j ≠ k → t.apll j = s.apll j
  plan : (t.apll k).plan = p
  applied : (t.apll k).applied = true
  applying : t.rd (Reg.APLL_CMD_APPLY k) = 1
  relock : t.age (.relock k) = 0

section
variable (k : Nat) (p : Plan) (c : PlanClass) (held byp : Nat) (full settling begun : Bool) (s : State)

theorem takePlan_regsBut :
    s.regsBut [Reg.APLL_CMD_APPLY k, Reg.APLL_CMD_FULL k] (takePlan k p c held byp full settling begun s) :=
  (State.regsBut_wr (s.putApll k _) (by simp) 1).trans (State.regsBut_wr _ (by simp) _)

/-- The record of APLL `k` when it has taken plan `p`. -/
theorem takePlan_apll : (takePlan k p c held byp full settling begun s).apll k =
    { s.apll k with
      plan := p, applied := true, ramp := if c = .ramp then some ((s.apll k).plan.f, s.up) else none
      change := some { cls := c, held := held, byp := byp, settling := settling, begun := begun } } :=
  s.apll_put_self k _

theorem takePlan_taken : PlanTaken k p s (takePlan k p c held byp full settling begun s) where
  frame := ⟨_, _, _, rfl⟩
  regs := (takePlan_regsBut k p c held byp full settling begun s).mono (by simp [takenRegs])
  others _ hj := s.apll_put_ne hj.symm _
  plan := congrArg ApllSt.plan (takePlan_apll ..)
  applied := congrArg ApllSt.applied (takePlan_apll ..)
  applying := by simp [takePlan]
  relock := State.age_arm _ _

end

theorem PlanTaken.acquires (h : PlanTaken k p s t) (h' : Acquires k t u) : PlanTaken k p s u := by
  obtain ⟨⟨_, _, _, rfl⟩, hregs, hothers, hplan, happlied, happlying, hrelock⟩ := h
  obtain ⟨⟨_, _, _, rfl⟩, hregs', hothers', hplan', happlied', -, htimers⟩ := h'
  exact ⟨⟨_, _, _, rfl⟩, hregs.trans (hregs'.mono (by simp [takenRegs])), fun j hj => (hothers' j hj).trans (hothers j hj),
    hplan'.trans hplan, happlied'.trans happlied, (hregs' _ (by simp; omega)).trans happlying, (htimers _ (by simp)).trans hrelock⟩

/-- SETTLE begins (R203). -/
theorem PlanTaken.settles (h : PlanTaken k p s t) : PlanTaken k p s (t.arm (.settle k)) := by
  obtain ⟨⟨_, _, _, rfl⟩, hregs, hothers, hplan, happlied, happlying, hrelock⟩ := h
  exact ⟨⟨_, _, _, rfl⟩, hregs, hothers, hplan, happlied, happlying, (State.age_arm_ne _ (by simp)).trans hrelock⟩

/-- The ramp begins (R202). -/
theorem PlanTaken.setState (h : PlanTaken k p s t) (v : Nat) : PlanTaken k p s (setApllState k v t) := by
  obtain ⟨hframe, hregs, hothers, hplan, happlied, happlying, hrelock⟩ := h
  have hstate := setApllState_regsBut k v t
  have happly : (setApllState k v t).rd (Reg.APLL_CMD_APPLY k) = t.rd (Reg.APLL_CMD_APPLY k) := hstate _ (by simp)
  refine ⟨?_, hregs.trans (hstate.mono (by simp [takenRegs])), fun j hj => (setApllState_apll_ne hj v t).trans (hothers j hj),
    ?_, ?_, happly.trans happlying, (setApllState_age k v t _).trans hrelock⟩
  · obtain ⟨_, _, hset⟩ := setApllState_frame k v t
    obtain ⟨_, _, _, rfl⟩ := hframe
    exact ⟨_, _, _, hset⟩
  · rw [setApllState_apll]; exact hplan
  · rw [setApllState_apll]; exact happlied

/-- A change of class `c` to plan `p` starts: dividers change at once, a ramp begins, and a hop or a search once no output that the
change affects is on the VCO. -/
def changeStarts (k : Nat) (p : Plan) (c : PlanClass) (held byp : Nat) (full : Bool) (s : State) : State :=
  match c with
  | .none => s
  | .div => (takePlan k p c held byp full true true s).arm (.settle k)
  | .ramp => setApllState k 5 (takePlan k p c held byp full false true s)
  | .hop => changeBegin k (takePlan k p c held byp full false false s)
  | .search => changeBegin k (takePlan k p c held byp full false false s)

theorem changeStarts_taken (hc : c ≠ .none) (held byp : Nat) : PlanTaken k p s (changeStarts k p c held byp full s) := by
  cases c with
  | none => exact absurd rfl hc
  | div => exact (takePlan_taken ..).settles
  | ramp => exact (takePlan_taken ..).setState 5
  | hop => exact (takePlan_taken ..).acquires (changeBegin_acquires k _)
  | search => exact (takePlan_taken ..).acquires (changeBegin_acquires k _)

/-- A change of any class concerns the APLL's records, registers and timers. -/
theorem changeStarts_frame (k : Nat) (p : Plan) (c : PlanClass) (held byp : Nat) (full : Bool) (s : State) :
    (∃ r a m, changeStarts k p c held byp full s = { s with regs := r, aplls := a, timers := m }) ∧
      s.regsBut (takenRegs k) (changeStarts k p c held byp full s) ∧
      ∀ j, j ≠ k → (changeStarts k p c held byp full s).apll j = s.apll j := by
  by_cases hc : c = .none
  · subst hc
    exact ⟨⟨_, _, _, rfl⟩, s.regsBut_refl _, fun _ _ => rfl⟩
  · have h := changeStarts_taken hc (k := k) (p := p) (full := full) (s := s) held byp
    exact ⟨h.frame, h.regs, h.others⟩

section
variable (held byp : Nat)

theorem changeStarts_div : (changeStarts k p .div held byp full s).rd (Reg.APLL_STATUS_STATE k) = s.rd (Reg.APLL_STATUS_STATE k) ∧
    (changeStarts k p .div held byp full s).rd (Reg.APLL_STATUS_LOCK k) = s.rd (Reg.APLL_STATUS_LOCK k) ∧
    (changeStarts k p .div held byp full s).age (.settle k) = 0 := by
  have hput := takePlan_regsBut k p .div held byp full true true s
  exact ⟨hput _ (by simp; omega), hput _ (by simp; omega), State.age_arm _ _⟩

theorem changeStarts_ramp (h : s.rd (Reg.APLL_STATUS_STATE k) ≠ 6) :
    (changeStarts k p .ramp held byp full s).rd (Reg.APLL_STATUS_STATE k) = 5 ∧
    (changeStarts k p .ramp held byp full s).rd (Reg.APLL_STATUS_LOCK k) = s.rd (Reg.APLL_STATUS_LOCK k) := by
  have hput := takePlan_regsBut k p .ramp held byp full false true s
  have hstate := hput (Reg.APLL_STATUS_STATE k) (by simp; omega)
  refine ⟨?_, (setApllState_regsBut k 5 _ _ (by simp)).trans (hput _ (by simp; omega))⟩
  rw [changeStarts, setApllState, if_neg (by rw [hstate]; exact fun h6 => h h6.1)]
  simp

end

/-! ### A hop or a search waits for the outputs (R203, R205) -/

/-- No output that a change of class `c` to plan `p` affects is on the VCO of APLL `k`. -/
def State.quietFor (s : State) (k : Nat) (c : PlanClass) (p : Plan) : Prop :=
  ∀ o ∈ groupOuts k, s.outChange c p o ≠ 0 → 2 ≤ s.srcAct o ∨ (s.outp o).frozen.isSome = true

/-- The outputs of a change are those it holds and those it moves to BYPASS. -/
theorem changeQuiet_iff (hact : ∀ o, t.srcAct o = s.srcAct o) (hout : t.outs = s.outs) (b b' : Bool) (m : Nat) :
    t.changeQuiet k ⟨c, s.changeMask k c p 1, s.changeMask k c p 2, m, b, b'⟩ = true ↔ s.quietFor k c p := by
  simp only [State.changeQuiet, State.quietFor, List.all_eq_true]
  refine forall₂_congr fun o ho => ?_
  have hlt : s.outChange c p o < 3 := changeOf_lt ..
  have hfrozen : t.outp o = s.outp o := by rw [State.outp, hout]; rfl
  simp only [maskBit_changeMask ho, hact, hfrozen, Bool.or_eq_true, Bool.not_eq_true', Bool.or_eq_false_iff,
    decide_eq_false_iff_not, decide_eq_true_eq, or_assoc]
  exact or_congr_left (by omega) |>.trans imp_iff_not_or.symm

/-! ### The effect of an APPLY by its class (R201 to R203) -/

/-- APLL `k` starts a change of class `c` to plan `p`, the verdict of whose checks is `e`, with the outputs that R201 names. -/
def State.applies (s : State) (k : Nat) (e : Nat × Nat) (p : Plan) (c : PlanClass) (full : Bool) : State :=
  changeStarts k p c (s.changeMask k c p 1) (s.changeMask k c p 2) full (s.planNoted k e c)

/-- The state in which a hop or a search waits to begin. -/
def State.changeWaits (s : State) (k : Nat) (e : Nat × Nat) (p : Plan) (c : PlanClass) (full : Bool) : State :=
  takePlan k p c (s.changeMask k c p 1) (s.changeMask k c p 2) full false false (s.planNoted k e c)

section
variable (s : State) (k : Nat) (e : Nat × Nat) (p : Plan) (c : PlanClass) (full : Bool)

theorem planNoted_regsBut : s.regsBut [Reg.APLL_STATUS_APPLY_ERR k, Reg.APLL_STATUS_ERR_OUT k, Reg.APLL_STATUS_LAST_CLASS k]
    (s.planNoted k e c) :=
  ((planChecked_regsBut s e k).mono (by simp)).trans (State.regsBut_wr _ (by simp) _)

theorem rd_planNoted_err : (s.planNoted k e c).rd (Reg.APLL_STATUS_APPLY_ERR k) =
    e.1 % 2 ^ (Reg.APLL_STATUS_APPLY_ERR k).width :=
  (State.rd_wr_ne _ (by simp) _).trans (rd_planChecked_err s e k)

theorem rd_planNoted_out : (s.planNoted k e c).rd (Reg.APLL_STATUS_ERR_OUT k) =
    e.2 % 2 ^ (Reg.APLL_STATUS_ERR_OUT k).width :=
  (State.rd_wr_ne _ (by simp) _).trans (rd_planChecked_out s e k)

theorem rd_planNoted_class : (s.planNoted k e c).rd (Reg.APLL_STATUS_LAST_CLASS k) = c.code := by
  exact (State.rd_wr_self ..).trans (Nat.mod_eq_of_lt (planClass_code_lt k c))

theorem changeWaits_regsBut : s.regsBut [Reg.APLL_STATUS_APPLY_ERR k, Reg.APLL_STATUS_ERR_OUT k, Reg.APLL_STATUS_LAST_CLASS k,
    Reg.APLL_CMD_APPLY k, Reg.APLL_CMD_FULL k] (s.changeWaits k e p c full) :=
  ((planNoted_regsBut s k e c).mono (by simp)).trans
    ((takePlan_regsBut k p c _ _ full false false (s.planNoted k e c)).mono (by simp))

/-- The change that waits. -/
def State.waiting (b : Bool) : Change :=
  { cls := c, held := s.changeMask k c p 1, byp := s.changeMask k c p 2, settling := false, begun := b }

theorem changeWaits_change : ((s.changeWaits k e p c full).apll k).change = some (s.waiting k p c false) := by
  rw [State.changeWaits, takePlan_apll]
  rfl

/-- The state in which a hop or a search begins. -/
def State.changeGoes : State :=
  (s.changeWaits k e p c full).putApll k { (s.changeWaits k e p c full).apll k with change := some (s.waiting k p c true) }

theorem changeGoes_apll :
    ((s.changeGoes k e p c full).apll k).plan = p ∧ ((s.changeGoes k e p c full).apll k).cache = (s.apll k).cache := by
  rw [State.changeGoes, State.apll_put_self, State.changeWaits, takePlan_apll]
  exact ⟨rfl, rfl⟩

theorem changeGoes_apllTemp : (s.changeGoes k e p c full).apllTemp k = s.apllTemp k := by
  have hregs := changeWaits_regsBut s k e p c full
  exact apllTemp_congr (hregs _ (by simp; omega)) (hregs _ (by simp; omega)) k

theorem changeWaits_srcAct (hk : k < 9) (o : Nat) : (s.changeWaits k e p c full).srcAct o = s.srcAct o := by
  have hregs := changeWaits_regsBut s k e p c full
  exact srcAct_congr (hregs _ (by simp; omega)) (hregs _ (by simp; omega)) (hregs _ (by simp; omega)) rfl

/-- A hop or a search begins once the outputs that it affects are quiet, and waits otherwise. -/
theorem changeBegin_changeWaits (hk : k < 9) [Decidable (s.quietFor k c p)] : changeBegin k (s.changeWaits k e p c full) =
    if s.quietFor k c p then acquire k (decide (c = .hop)) (s.changeGoes k e p c full)
    else s.changeWaits k e p c full := by
  rw [changeBegin_of_change (changeWaits_change s k e p c full)]
  have hquiet := changeQuiet_iff (k := k) (c := c) (p := p) (changeWaits_srcAct s k e p c full hk) rfl false false 0
  refine if_congr ?_ rfl rfl
  rw [← hquiet]
  exact Iff.rfl

theorem applies_frame : (∃ r a m, s.applies k e p c full = { s with regs := r, aplls := a, timers := m }) ∧
    ∀ j, j ≠ k → (s.applies k e p c full).apll j = s.apll j := by
  obtain ⟨⟨r, a, m, h⟩, -, hothers⟩ := changeStarts_frame k p c (s.changeMask k c p 1) (s.changeMask k c p 2) full (s.planNoted k e c)
  exact ⟨⟨r, a, m, h⟩, hothers⟩

/-- The verdict and the class stand. -/
theorem rd_applies_noted {f : Fld} (hf : ∀ g ∈ takenRegs k, g.key ≠ f.key) :
    (s.applies k e p c full).rd f = (s.planNoted k e c).rd f :=
  (changeStarts_frame k p c (s.changeMask k c p 1) (s.changeMask k c p 2) full (s.planNoted k e c)).2.1 f hf

end

section
variable {e : Nat × Nat}

theorem applies_none (hc : c = .none) : (s.applies k e p c full).aplls = s.aplls ∧
    (s.applies k e p c full).rd (Reg.APLL_CMD_APPLY k) = s.rd (Reg.APLL_CMD_APPLY k) := by
  subst hc
  exact ⟨rfl, planNoted_regsBut s k e .none _ (by simp; omega)⟩

theorem applies_some (hc : c ≠ .none) : PlanTaken k p (s.planNoted k e c) (s.applies k e p c full) := changeStarts_taken hc ..

theorem applies_div (hc : c = .div) : (s.applies k e p c full).rd (Reg.APLL_STATUS_STATE k) = s.rd (Reg.APLL_STATUS_STATE k) ∧
    (s.applies k e p c full).rd (Reg.APLL_STATUS_LOCK k) = s.rd (Reg.APLL_STATUS_LOCK k) ∧
    (s.applies k e p c full).age (.settle k) = 0 := by
  subst hc
  have hnoted := planNoted_regsBut s k e .div
  obtain ⟨hstate, hlock, hage⟩ := changeStarts_div (k := k) (p := p) (full := full) (s := s.planNoted k e .div)
    (s.changeMask k .div p 1) (s.changeMask k .div p 2)
  exact ⟨hstate.trans (hnoted _ (by simp)), hlock.trans (hnoted _ (by simp)), hage⟩

theorem applies_ramp (hc : c = .ramp) (h6 : s.rd (Reg.APLL_STATUS_STATE k) ≠ 6) :
    (s.applies k e p c full).rd (Reg.APLL_STATUS_STATE k) = 5 ∧
    (s.applies k e p c full).rd (Reg.APLL_STATUS_LOCK k) = s.rd (Reg.APLL_STATUS_LOCK k) := by
  subst hc
  have hnoted := planNoted_regsBut s k e .ramp
  have hstate : (s.planNoted k e .ramp).rd (Reg.APLL_STATUS_STATE k) ≠ 6 := by rwa [hnoted _ (by simp)]
  obtain ⟨hramp, hlock⟩ := changeStarts_ramp (p := p) (full := full)
    (s.changeMask k .ramp p 1) (s.changeMask k .ramp p 2) hstate
  exact ⟨hramp, hlock.trans (hnoted _ (by simp))⟩

variable (hk : k < 9)
include hk

theorem applies_search (hc : c = .search) (hq : s.quietFor k c p) :
    (s.applies k e p c full).rd (Reg.APLL_STATUS_STATE k) = 1 ∧ (s.applies k e p c full).rd (Reg.APLL_STATUS_LOCK k) = 0 := by
  classical
  subst hc
  rw [show s.applies k e p .search full = changeBegin k (s.changeWaits k e p .search full) from rfl,
    changeBegin_changeWaits s k e p .search full hk, if_pos hq]
  exact ⟨startSearch_rd_state .., startSearch_rd_lock ..⟩

theorem applies_hop (hc : c = .hop) (hq : s.quietFor k c p) {i : Nat} (hi : s.cacheHit k p.f = some i) :
    (s.applies k e p c full).rd (Reg.APLL_STATUS_STATE k) = 2 ∧ (s.applies k e p c full).rd (Reg.APLL_STATUS_LOCK k) = 0 := by
  classical
  subst hc
  rw [show s.applies k e p .hop full = changeBegin k (s.changeWaits k e p .hop full) from rfl,
    changeBegin_changeWaits s k e p .hop full hk, if_pos hq]
  obtain ⟨hplan, hcache⟩ := changeGoes_apll s k e p .hop full
  rw [decide_eq_true rfl, acquire_plan_hit hplan hcache (changeGoes_apllTemp s k e p .hop full) hi]
  exact ⟨hopBegun_rd_state .., hopBegun_rd_lock ..⟩

theorem applies_waits (hc : c = .search ∨ c = .hop) (hq : ¬ s.quietFor k c p) :
    (s.applies k e p c full).rd (Reg.APLL_STATUS_STATE k) = s.rd (Reg.APLL_STATUS_STATE k) ∧
    (s.applies k e p c full).rd (Reg.APLL_STATUS_LOCK k) = s.rd (Reg.APLL_STATUS_LOCK k) := by
  classical
  have hwaits : s.applies k e p c full = changeBegin k (s.changeWaits k e p c full) := by
    obtain rfl | rfl := hc
    · rfl
    · rfl
  have hregs := changeWaits_regsBut s k e p c full
  rw [hwaits, changeBegin_changeWaits s k e p c full hk, if_neg hq]
  exact ⟨hregs _ (by simp; omega), hregs _ (by simp; omega)⟩

end

/-! ### What an APPLY does (R199, R200, R481) -/

theorem applyPlan_ignored (h : s.rd (Reg.APLL_CMD_APPLY k) ≠ 0 ∨ (¬ s.mapApll = some k ∧ s.rd (Reg.APLL_CFG_EN k) = 0)) :
    applyPlan k full s = s :=
  if_pos (by simpa [State.bit] using h)

section
variable (hcmd : s.rd (Reg.APLL_CMD_APPLY k) = 0) (hen : s.mapApll = some k ∨ s.rd (Reg.APLL_CFG_EN k) ≠ 0)
include hcmd hen

theorem apply_opens :
    ¬ (s.bit (Reg.APLL_CMD_APPLY k) || !(decide (s.mapApll = some k) || s.bit (Reg.APLL_CFG_EN k))) = true := by
  simpa [State.bit, hcmd, or_iff_not_imp_left] using hen

theorem applyPlan_parity (hp : s.parityIn (0x24000 + 0x100 * k) 0x100 = true) : applyPlan k full s = s.planChecked k (7, 0) := by
  refine (if_neg (apply_opens hcmd hen)).trans ?_
  simp only [hp, if_true]
  rfl

variable (hp : s.parityIn (0x24000 + 0x100 * k) 0x100 = false)
include hp

variable {e : Nat × Nat} (hcheck : s.planCheck k (s.shadow k) = e)
include hcheck

theorem applyPlan_refused (he : e.1 ≠ 0) : applyPlan k full s = s.planChecked k e := by
  subst hcheck
  refine (if_neg (apply_opens hcmd hen)).trans ?_
  simp only [hp, Bool.false_eq_true, if_false]
  exact if_pos he

variable (he : e.1 = 0)
include he

theorem applyPlan_mapped (hm : s.mapApll = some k) :
    applyPlan k full s = mapApply k (s.shadow k) full (s.planChecked k e) := by
  subst hcheck
  refine (if_neg (apply_opens hcmd hen)).trans ?_
  simp only [hp, Bool.false_eq_true, if_false]
  exact (if_neg (not_not.mpr he)).trans (if_pos (decide_eq_true hm))

/-- A plan that passes is taken with its class, and the outputs that the change affects are those of R201. -/
theorem applyPlan_taken (hk : k < 9) (hm : ¬ s.mapApll = some k) :
    applyPlan k full s = outErrs (s.applies k e (s.shadow k) (s.planClass k (s.shadow k) full) full) := by
  subst hcheck
  refine (if_neg (apply_opens hcmd hen)).trans ?_
  simp only [hp, Bool.false_eq_true, if_false]
  refine (if_neg (not_not.mpr he)).trans ((if_neg (by simp [hm])).trans (congrArg outErrs ?_))
  have hclass := planClass_planChecked s (s.planCheck k (s.shadow k)) k k (s.shadow k) full
  have hmask := fun c => changeMask_planChecked s (s.planCheck k (s.shadow k)) hk c (s.shadow k)
  simp only [State.planChecked] at hclass hmask
  rw [hclass, hmask, hmask]
  cases s.planClass k (s.shadow k) full <;> rfl

end

/-! ### A8 takes the plan of an APLL that the repair map replaces (R481) -/

/-- A8 has no plan of its own to take: a plan that passes is not one for A8. -/
theorem planCheck_passes {e : Nat × Nat} (hcheck : s.planCheck k p = e) (he : e.1 = 0) : k ≠ 8 := by
  subst hcheck
  rintro rfl
  unfold State.planCheck at he
  split at he
  · exact absurd he (by decide)
  · split at he
    · exact absurd he (by decide)
    · simp at he

/-- APLL `k` with plan `p` noted as the one that A8 runs for it. -/
def State.mapped (s : State) (k : Nat) (p : Plan) (full : Bool) : State :=
  (s.wr (Reg.APLL_STATUS_LAST_CLASS k) (s.planClass 8 { p with divs := [4, 4, 4, 4] } full).code).putApll k
    { s.apll k with plan := p, applied := true }

/-- From `s` to `t` A8 has taken plan `p` for APLL `k` and serves its outputs. -/
structure MapApplied (k : Nat) (p : Plan) (full : Bool) (s t : State) : Prop where
  frame : ∃ r a o f m, t = { s with regs := r, aplls := a, outs := o, flt := f, timers := m }
  regs : s.regsBut (Reg.APLL_STATUS_LAST_CLASS k :: spareRegs) t
  others : ∀ j, j ≠ k → j ≠ 8 → t.apll j = s.apll j
  plan : (t.apll k).plan = p
  applied : (t.apll k).applied = true
  code : t.rd (Reg.APLL_STATUS_LAST_CLASS k) = (s.planClass 8 { p with divs := [4, 4, 4, 4] } full).code
  serving : t.rd (Reg.APLL_SPARE_STATUS_SERVING 8) = k
  inUse : t.present 26 k

theorem mapped_regsBut (k : Nat) (p : Plan) (full : Bool) (s : State) :
    s.regsBut [Reg.APLL_STATUS_LAST_CLASS k] (s.mapped k p full) := s.regsBut_wr (by simp) _

theorem rd_mapped_class (k : Nat) (p : Plan) (full : Bool) (s : State) :
    (s.mapped k p full).rd (Reg.APLL_STATUS_LAST_CLASS k) = (s.planClass 8 { p with divs := [4, 4, 4, 4] } full).code :=
  (State.rd_wr_self ..).trans (Nat.mod_eq_of_lt (planClass_code_lt k _))

theorem rd_spareServe (hk : k < 9) (s : State) : (spareServe k s).rd (Reg.APLL_SPARE_STATUS_SERVING 8) = k := by
  rw [spareServe, State.rd_level, State.rd_wr_self]
  exact Nat.mod_eq_of_lt (hk.trans (by decide))

theorem spareServe_present (k : Nat) (s : State) : (spareServe k s).present 26 k := State.present_level_on ..

theorem MapApplied.follows (h : MapApplied k p full s t) : MapApplied k p full s (outErrs t) := by
  obtain ⟨f, hf⟩ := outErrs_frame t
  obtain ⟨⟨r, a, o, f', m, ht⟩, hregs, hothers, hplan, happlied, hcode, hserving, hpresent⟩ := h
  refine ⟨⟨r, a, o, f, m, by rw [hf, ht]⟩, fun g hg => (rd_outErrs t g).trans (hregs g hg),
    fun j hj h8 => (apll_outErrs t j).trans (hothers j hj h8), ?_, ?_, ?_, ?_, (present_outErrs (by decide) k t).mpr hpresent⟩
  · rw [apll_outErrs, hplan]
  · rw [apll_outErrs, happlied]
  · rw [rd_outErrs, hcode]
  · rw [rd_outErrs, hserving]

/-- The plan goes to A8, which serves the outputs of APLL `k`. -/
theorem MapApplied.of_works {w : State} {y : Tab OutSt} (hk : k < 8)
    (h : SpareWorks { s.mapped k p full with outs := y } w) : MapApplied k p full s (spareServe k w) := by
  obtain ⟨⟨r, a, f, m, hframe⟩, hregs, hothers, -, -⟩ := (h.trans (spareServe_works k w)).toSpareMoves
  have hk8 : k ≠ 8 := hk.ne
  have hrecord : (s.mapped k p full).apll k = { s.apll k with plan := p, applied := true } := State.apll_put_self ..
  have hkept : (spareServe k w).apll k = (s.mapped k p full).apll k := hothers k hk8
  refine ⟨⟨r, a, y, f, m, hframe⟩, ?regs, fun j hj h8 => (hothers j h8).trans (State.apll_put_ne _ hj.symm _), ?plan, ?applied,
    ?code, rd_spareServe (hk.trans (by decide)) w, spareServe_present k w⟩
  case regs =>
    exact ((mapped_regsBut k p full s).mono (by simp)).trans (hregs.mono (by simp))
  case plan => rw [hkept, hrecord]
  case applied => rw [hkept, hrecord]
  case code => exact (hregs _ (by simp [spareRegs]; omega)).trans (rd_mapped_class k p full s)

theorem mapApply_applied (hk : k < 8) (p : Plan) (full : Bool) (s : State) : MapApplied k p full s (mapApply k p full s) := by
  obtain ⟨y, hy⟩ := mapOutputs_frame k (s.mapped k p full)
  have h := (MapApplied.of_works hk (spareRun_works k { s.mapped k p full with outs := y })).follows
  rw [← hy] at h
  exact h

/-- What an APPLY that passes leaves where A8 takes the plan. -/
theorem mapApply_planChecked {e : Nat × Nat} (hk : k < 8) (he : e.1 = 0) (p : Plan) (full : Bool) (s : State) :
    let t := outErrs (mapApply k p full (s.planChecked k e))
    t.rd (Reg.APLL_STATUS_APPLY_ERR k) = 0 ∧ (t.apll k).plan = p ∧ (t.apll k).applied = true ∧
      t.rd (Reg.APLL_STATUS_LAST_CLASS k) = (s.planClass 8 { p with divs := [4, 4, 4, 4] } full).code ∧
      t.rd (Reg.APLL_SPARE_STATUS_SERVING 8) = k ∧ t.present 26 k ∧
      (∀ j, j ≠ k → j ≠ 8 → t.apll j = s.apll j) ∧
      t = { s with regs := t.regs, aplls := t.aplls, outs := t.outs, flt := t.flt, timers := t.timers } := by
  intro t
  obtain ⟨⟨r, a, o, f, m, hframe⟩, hregs, hothers, hplan, happlied, hcode, hserving, hpresent⟩ :=
    (mapApply_applied hk p full (s.planChecked k e)).follows
  have herr := rd_planChecked_err s e k
  rw [planClass_planChecked] at hcode
  rw [he, Nat.zero_mod] at herr
  exact ⟨(hregs _ (by simp [spareRegs]; omega)).trans herr, hplan, happlied, hcode, hserving, hpresent, hothers,
    by rw [show t = _ from hframe]; rfl⟩

/-! ### O22 -/

/-- A verdict that stops an APPLY shows, and nothing else changes but what OUT_ERR follows. -/
theorem planChecked_shows (s : State) (k : Nat) (e : Nat × Nat) :
    (outErrs (s.planChecked k e)).rd (Reg.APLL_STATUS_APPLY_ERR k) = e.1 % 2 ^ (Reg.APLL_STATUS_APPLY_ERR k).width ∧
    (outErrs (s.planChecked k e)).rd (Reg.APLL_STATUS_ERR_OUT k) = e.2 % 2 ^ (Reg.APLL_STATUS_ERR_OUT k).width ∧
    s.regsBut [Reg.APLL_STATUS_APPLY_ERR k, Reg.APLL_STATUS_ERR_OUT k] (outErrs (s.planChecked k e)) ∧
    outErrs (s.planChecked k e) =
      { s with regs := (outErrs (s.planChecked k e)).regs, flt := (outErrs (s.planChecked k e)).flt } := by
  obtain ⟨f, hf⟩ := outErrs_frame (s.planChecked k e)
  rw [hf]
  exact ⟨rd_planChecked_err s e k, rd_planChecked_out s e k, planChecked_regsBut s e k, rfl⟩

/-- An APPLY or APPLY_FULL that reaches its register. -/
theorem exec_applyPlan {k : Fin 9} {i : Instr} (hi : i = if full then .applyFull k else .apply k)
    (h : s.hostOpen (Reg.APLL_CMD_APPLY k).addr) : exec i s = .next (outErrs (applyPlan k full s)) := by
  subst hi
  have ha : 0x24000 ≤ (Reg.APLL_CMD_APPLY k).addr ∧ (Reg.APLL_CMD_APPLY k).addr < 0x28000 := by
    simp only [Reg.APLL_CMD_APPLY]
    omega
  cases full
  case false => exact hostCmd_synth h ha rfl
  case true => exact hostCmd_synth h ha rfl

/-- Settles O22: an APPLY that its block's parity, its checks or a change in progress does not stop takes the plan with its class. -/
theorem apllApply : Obligations.apll_apply := by
  unfold Obligations.apll_apply
  intro k full s i p c err errCode errOut state lock mine writes taken ready quiet
  refine ⟨fun hf => ?full, fun hr hm he => ?takes, fun hr hm he => ?maps, fun hr he => ?refuses, fun ht hp => ?parity,
    fun ho h => ?ignored⟩
  case full => subst hf; rfl
  case takes =>
    obtain ⟨⟨ho, hcmd, hen⟩, hp⟩ := hr
    have hexec := exec_applyPlan (i := i) (full := full) rfl ho
    rw [applyPlan_taken hcmd hen hp (e := err) rfl he k.isLt hm] at hexec
    obtain ⟨⟨r, a, m, hframe⟩, hothers⟩ := applies_frame s k err p c full
    have hnoted := fun f => rd_applies_noted s k err p c full (f := f)
    have herr := rd_planNoted_err s k err c
    have hout := rd_planNoted_out s k err c
    have hclass := rd_planNoted_class s k err c
    refine ⟨_, hexec, ?_⟩
    simp only [rd_outErrs, apll_outErrs, age_outErrs, outErrs_aplls]
    refine ⟨?err, ?out, ?code, fun hc => ?none, fun hc => ?some, applies_div, applies_ramp, fun hc hq => ?search,
      fun hc hq => ?hop, fun hc hq => applies_waits k.isLt hc hq, hothers, ?frame⟩
    case err => rw [hnoted _ (by simp [takenRegs, errCode]; omega), herr, he, Nat.zero_mod]
    case out => rw [hnoted _ (by simp [takenRegs, errOut]; omega), hout]
    case code => rw [hnoted _ (by simp [takenRegs]; omega), hclass]
    case none =>
      obtain ⟨haplls, happly⟩ := applies_none (k := k) (p := p) (full := full) (s := s) (e := err) hc
      exact ⟨haplls, happly.trans hcmd⟩
    case some =>
      have htaken := applies_some (k := k) (p := p) (full := full) (s := s) (e := err) hc
      exact ⟨htaken.plan, htaken.applied, htaken.applying, htaken.relock⟩
    case search => exact applies_search k.isLt hc hq
    case hop =>
      obtain ⟨i, hi⟩ := cacheHit_of_hop hc
      exact applies_hop k.isLt hc hq hi
    case frame =>
      obtain ⟨f, hf⟩ := outErrs_twice_frame (s.applies k err p c full)
      rw [hf, hframe]
  case maps =>
    obtain ⟨⟨ho, hcmd, hen⟩, hp⟩ := hr
    have hexec := exec_applyPlan (i := i) (full := full) rfl ho
    have hk : k.val ≠ 8 := planCheck_passes (e := err) rfl he
    rw [applyPlan_mapped hcmd hen hp (e := err) rfl he hm] at hexec
    exact ⟨_, hexec, mapApply_planChecked (by omega) he p full s⟩
  case refuses =>
    obtain ⟨⟨ho, hcmd, hen⟩, hp⟩ := hr
    have hexec := exec_applyPlan (i := i) (full := full) rfl ho
    rw [applyPlan_refused hcmd hen hp (e := err) rfl he] at hexec
    exact ⟨_, hexec, planChecked_shows s k err⟩
  case parity =>
    obtain ⟨ho, hcmd, hen⟩ := ht
    have hexec := exec_applyPlan (i := i) (full := full) rfl ho
    rw [applyPlan_parity hcmd hen hp] at hexec
    exact ⟨_, hexec, planChecked_shows s k (7, 0)⟩
  case ignored =>
    have hexec := exec_applyPlan (i := i) (full := full) rfl ho
    rw [applyPlan_ignored h] at hexec
    obtain ⟨f, hf⟩ := outErrs_frame s
    exact ⟨_, hexec, by rw [hf]⟩

end Sys2Proof.Machine
end

section
/-! The course of an APLL (O23): the end of a ramp, locks, failed hops and searches, the end of SETTLE, losses and retries. -/
namespace Sys2Proof.Machine

variable {k : Nat} {s t u : State}

/-! ### The end of a ramp (R202) -/

/-- The ramp of APLL `k` has ended, and SETTLE begins. -/
def rampEnded (k : Nat) (s : State) : State :=
  (setApllState k 4 (s.putApll k { s.apll k with
    ramp := none, change := (s.apll k).change.map (fun c => { c with settling := true }), aligned := false })).arm (.settle k)

theorem rampEnded_apllState (k : Nat) (s : State) : (rampEnded k s).apllState k = 4 :=
  apllState_setApllState k (by decide) _

theorem rampEnded_apll (k : Nat) (s : State) : (rampEnded k s).apll k = { s.apll k with
    ramp := none, change := (s.apll k).change.map (fun c => { c with settling := true }), aligned := false,
    stateWas := ((rampEnded k s).apll k).stateWas } := by
  refine (setApllState_apll k 4 _).trans ?_
  rw [s.apll_put_self]
  rfl

theorem rampEnded_apll_ne {j : Nat} (h : j ≠ k) (s : State) : (rampEnded k s).apll j = s.apll j :=
  (setApllState_apll_ne h 4 _).trans (s.apll_put_ne h.symm _)

theorem rampEnded_regsBut (k : Nat) (s : State) : s.regsBut [Reg.APLL_STATUS_STATE k] (rampEnded k s) :=
  setApllState_regsBut k 4 (s.putApll k _)

theorem rampEnded_frame (k : Nat) (s : State) : ∃ r a m, rampEnded k s = { s with regs := r, aplls := a, timers := m } := by
  obtain ⟨r, a, h⟩ := setApllState_frame k 4 (s.putApll k { s.apll k with
    ramp := none, change := (s.apll k).change.map (fun c => { c with settling := true }), aligned := false })
  rw [rampEnded, h]
  exact ⟨_, _, _, rfl⟩

/-! ### Locks (R196, R198, R203, R207) -/

/-- APLL `k` shows its lock in `band`, and SETTLE begins. -/
def lockedIn (k band : Nat) (s : State) : State :=
  ((((s.wr (Reg.APLL_STATUS_BAND k) band).wr (Reg.APLL_STATUS_LOCK k) 1).wr (Reg.APLL_STATUS_STATE k) 3).level 25 k false).arm
    (.settle k)

section
variable (k band : Nat) (s : State)

theorem lockedIn_regs : (lockedIn k band s).rd (Reg.APLL_STATUS_BAND k) = band % 2 ^ (Reg.APLL_STATUS_BAND k).width ∧
    (lockedIn k band s).rd (Reg.APLL_STATUS_LOCK k) = 1 ∧ (lockedIn k band s).rd (Reg.APLL_STATUS_STATE k) = 3 := by
  simp (disch := simp <;> omega) [lockedIn]

theorem lockedIn_regsBut :
    s.regsBut [Reg.APLL_STATUS_BAND k, Reg.APLL_STATUS_LOCK k, Reg.APLL_STATUS_STATE k] (lockedIn k band s) := by
  intro f hf
  rw [lockedIn, State.rd_arm, State.rd_level, State.rd_wr_ne _ (hf _ (by simp)), State.rd_wr_ne _ (hf _ (by simp)),
    State.rd_wr_ne _ (hf _ (by simp))]

theorem lockedIn_frame : ∃ r c m, lockedIn k band s = { s with regs := r, flt := c, timers := m } := by
  obtain ⟨c, hc⟩ := State.level_frame
    (((s.wr (Reg.APLL_STATUS_BAND k) band).wr (Reg.APLL_STATUS_LOCK k) 1).wr (Reg.APLL_STATUS_STATE k) 3) 25 k false 0
  rw [lockedIn, hc]
  exact ⟨_, _, _, rfl⟩

theorem lockedIn_apll (j : Nat) : (lockedIn k band s).apll j = s.apll j := by
  obtain ⟨r, c, m, h⟩ := lockedIn_frame k band s
  rw [h]
  rfl

theorem lockedIn_not_present : ¬ (lockedIn k band s).present 25 k := State.not_present_level_off _ 25 k 0

theorem lockedIn_age : (lockedIn k band s).age (.settle k) = 0 := State.age_arm _ _

end

theorem ApllSt.ent_useEnt (x : ApllSt) (i : Nat) (c : CacheEnt) : (x.useEnt i c).ent i = c := tabGet_set_self ..

/-- The entry by which APLL `k` has hopped, with the temperature of its lock. -/
def State.hopUsed (s : State) (k : Nat) : CacheEnt := { (s.apll k).ent (s.apll k).hopEnt with temp := s.apllTemp k }

/-- A hop that locks refreshes its entry. -/
def hopLocked (k : Nat) (s : State) : State :=
  lockedIn k (s.hopUsed k).band (s.putApll k ((s.apll k).useEnt (s.apll k).hopEnt (s.hopUsed k)))

theorem exec_apllLock_hop (k : Fin 9) (band : Fin 48) (h : s.rd (Reg.APLL_STATUS_STATE k) = 2) :
    exec (.apllLock k band) s = .next (hopLocked k s) := if_pos h

/-- The record of APLL `k` when a search has locked in `band`: a free preset, and where the cache has room the entry of the band. -/
def State.found (s : State) (k band : Nat) : ApllSt :=
  match (s.apll k).victim with
  | some i => { s.apll k with preset := s.takeFree.1 }.useEnt i { (s.apll k).ent i with
      valid := true, f := (s.apll k).plan.f, band := band, preset := s.takeFree.1, temp := s.apllTemp k }
  | none => { s.apll k with preset := s.takeFree.1 }

theorem found_preset (s : State) (k band : Nat) : (s.found k band).preset = s.takeFree.1 := by
  unfold State.found
  split <;> rfl

theorem found_ent (band : Nat) {i : Nat} (h : (s.apll k).victim = some i) : (s.found k band).ent i =
    { (s.apll k).ent i with
      valid := true, f := (s.apll k).plan.f, band := band, preset := s.takeFree.1, temp := s.apllTemp k } := by
  simp only [State.found, h]
  exact ApllSt.ent_useEnt ..

/-- A search that locks in `band`. -/
def searchLocked (k band : Nat) (s : State) : State := lockedIn k band (s.takeFree.2.putApll k (s.found k band))

theorem inBand_iff (b f : Nat) : inBand b f = true ↔
    (9985000000 + 58500000 * b) * 2 ^ 40 ≤ f ∧ f ≤ (10075000000 + 58500000 * b) * 2 ^ 40 := decide_eq_true_iff

theorem execApllLock_of_ne_hop (k : Fin 9) (band : Fin 48) (h : s.rd (Reg.APLL_STATUS_STATE k) ≠ 2) :
    execApllLock k band s = .next
      (if s.rd (Reg.APLL_STATUS_STATE k) = 1 ∧ s.rd Reg.DEV_CLK_STATUS_TB_ON_XO = 0 ∧ inBand band (s.apll k).plan.f = true
        then searchLocked k band s else s) := by
  have hxo : (!s.bit Reg.DEV_CLK_STATUS_TB_ON_XO) = true ↔ s.rd Reg.DEV_CLK_STATUS_TB_ON_XO = 0 := by simp [State.bit]
  refine (if_neg h).trans ?_
  rw [apply_ite Host.Outcome.next]
  refine if_congr (and_congr_right' (and_congr_left' hxo)) ?_ rfl
  unfold searchLocked State.found
  have hvictim : ({ s.apll k with preset := s.takeFree.1 } : ApllSt).victim = (s.apll k).victim := rfl
  dsimp only
  cases hv : (s.apll k).victim with
  | none => rw [hvictim, hv]; rfl
  | some i => rw [hvictim, hv]; rfl

/-! ### Failed hops and searches, and retries (R197, R198, R206, R208) -/

/-- The entry of a hop that failed is invalid, and a search begins. -/
def hopFailed (k : Nat) (s : State) : State :=
  startSearch k (s.putApll k { s.apll k with
    cache := tabSet {} (s.apll k).hopEnt { (s.apll k).ent (s.apll k).hopEnt with valid := false } (s.apll k).cache })

theorem hopFailed_frame (k : Nat) (s : State) : ∃ r a, hopFailed k s = { s with regs := r, aplls := a } := ⟨_, _, rfl⟩

theorem hopFailed_apll_ne {j : Nat} (h : j ≠ k) (s : State) : (hopFailed k s).apll j = s.apll j := s.apll_put_ne h.symm _

theorem hopFailed_ent (k : Nat) (s : State) : (((hopFailed k s).apll k).ent (s.apll k).hopEnt).valid = false := by
  have h : (hopFailed k s).apll k = { s.apll k with
    cache := tabSet {} (s.apll k).hopEnt { (s.apll k).ent (s.apll k).hopEnt with valid := false } (s.apll k).cache } :=
    s.apll_put_self k _
  rw [h, ApllSt.ent, tabGet_set_self]

/-- A search that failed shows as FAULT, and the wait for the retry begins. -/
def searchFailed (k : Nat) (s : State) : State :=
  (s.wrs [(Reg.APLL_STATUS_STATE k, 7), (Reg.APLL_STATUS_APPLY_ERR k, 9), (Reg.APLL_CMD_APPLY k, 0), (Reg.APLL_CMD_FULL k, 0)]).arm
    (.retry k)

theorem searchFailed_regs (k : Nat) (s : State) : (searchFailed k s).rd (Reg.APLL_STATUS_STATE k) = 7 ∧
    (searchFailed k s).rd (Reg.APLL_STATUS_APPLY_ERR k) = 9 ∧ (searchFailed k s).rd (Reg.APLL_CMD_APPLY k) = 0 := by
  simp (disch := simp <;> omega) [searchFailed]

theorem searchFailed_regsBut (k : Nat) (s : State) : s.regsBut [Reg.APLL_STATUS_STATE k, Reg.APLL_STATUS_APPLY_ERR k,
    Reg.APLL_CMD_APPLY k, Reg.APLL_CMD_FULL k] (searchFailed k s) := by
  have h := s.regsBut_wrs (l := [Reg.APLL_STATUS_STATE k, Reg.APLL_STATUS_APPLY_ERR k, Reg.APLL_CMD_APPLY k, Reg.APLL_CMD_FULL k])
    [(Reg.APLL_STATUS_STATE k, 7), (Reg.APLL_STATUS_APPLY_ERR k, 9), (Reg.APLL_CMD_APPLY k, 0), (Reg.APLL_CMD_FULL k, 0)] (by simp)
  exact fun f hf => (State.rd_arm _ _ f).trans (h f hf)

theorem searchFailed_frame (k : Nat) (s : State) : ∃ r m, searchFailed k s = { s with regs := r, timers := m } := by
  obtain ⟨r, hr⟩ := s.wrs_frame
    [(Reg.APLL_STATUS_STATE k, 7), (Reg.APLL_STATUS_APPLY_ERR k, 9), (Reg.APLL_CMD_APPLY k, 0), (Reg.APLL_CMD_FULL k, 0)]
  rw [searchFailed, hr]
  exact ⟨_, _, rfl⟩

theorem searchFailed_age (k : Nat) (s : State) : (searchFailed k s).age (.retry k) = 0 := State.age_arm _ _

/-! ### SETTLE has passed (R203, R206, R208, R209) -/

/-- The change of APLL `k` has ended, and its outputs reconnect. -/
def settleEnded (k : Nat) (s : State) : State :=
  let x := s.apll k
  let restart := decide (s.apllState k = 3) || !x.change.any (fun c => decide (c.cls = .ramp))
  let s := if s.apllState k = 3 then setApllState k 4 s else s
  let s := s.putApll k { s.apll k with
    change := none, aligned := x.aligned || restart, lag := if restart then 0 else (s.apll k).lag }
  s.wrs [(Reg.APLL_RELOCK_TIME_US k, s.relockTime k), (Reg.APLL_CMD_APPLY k, 0), (Reg.APLL_CMD_FULL k, 0)]

/-- The outputs that a loss moved away from an APLL that is locked and settled return. -/
def outputsReturn (k : Nat) (s : State) : State := if s.apllGood k then spareCheck (autoReturn k s) else s

/-- A8 and the outputs follow the end of the change `c` of APLL `k`. -/
def settleFollowed (k : Nat) (c : Option Change) (s : State) : State :=
  if k = 8 then spareSettled s
  else
    let s := outputsReturn k s
    match c with
    | some c =>
      if c.cls ≠ .div ∧ s.cover = some k ∧ s.rd (Reg.APLL_SPARE_STATUS_SERVING 8) = 15 then spareChange k c s else s
    | none => s

theorem spareChange_moves (k : Nat) (c : Change) (s : State) : SpareMoves s (spareChange k c s) := by
  unfold spareChange
  dsimp only
  split
  · exact (spareFollow_works s).toSpareMoves.trans (.putApll _ _)
  · exact (spareFollow_works s).toSpareMoves

theorem settleFollowed_moves (hk : k ≠ 8) (c : Option Change) (s : State) :
    ∃ y, SpareMoves { s with outs := y } (settleFollowed k c s) := by
  have hreturn : ∃ y, SpareMoves { s with outs := y } (outputsReturn k s) := by
    unfold outputsReturn
    split
    · obtain ⟨y, hy⟩ := autoReturn_frame k s
      rw [hy]
      exact ⟨y, (spareCheck_works _).toSpareMoves⟩
    · exact ⟨s.outs, .refl s⟩
  obtain ⟨y, hy⟩ := hreturn
  refine ⟨y, ?_⟩
  rw [settleFollowed, if_neg hk]
  dsimp only
  split
  · split
    · exact hy.trans (spareChange_moves k _ _)
    · exact hy
  · exact hy

/-- What follows the end of a change leaves what it shows, and the record of an APLL other than A8. -/
theorem settleFollowed_keeps (hk : k < 9) (c : Option Change) (s : State) :
    (∀ f ∈ [Reg.APLL_CMD_APPLY k, Reg.APLL_RELOCK_TIME_US k], (settleFollowed k c s).rd f = s.rd f) ∧
    ((s.apll k).change = none → ((settleFollowed k c s).apll k).change = none) ∧ (settleFollowed k c s).eng = s.eng ∧
    (settleFollowed k c s).slots = s.slots ∧ (k < 8 → (settleFollowed k c s).apll k = s.apll k ∧
      (settleFollowed k c s).rd (Reg.APLL_STATUS_STATE k) = s.rd (Reg.APLL_STATUS_STATE k)) := by
  have hkeys : ∀ f ∈ [Reg.APLL_CMD_APPLY k, Reg.APLL_RELOCK_TIME_US k], ∀ g ∈ spareRegs, g.key ≠ f.key := by
    simp [spareRegs]
    omega
  by_cases h8 : k = 8
  · obtain ⟨y, hworks⟩ := spareSettled_works s
    obtain ⟨r, a, f, m, hframe⟩ := hworks.frame
    rw [settleFollowed, if_pos h8]
    exact ⟨fun f hf => hworks.regs f (hkeys f hf), by rw [h8]; exact hworks.calm, by rw [hframe], by rw [hframe], by omega⟩
  · obtain ⟨y, hmoves⟩ := settleFollowed_moves h8 c s
    obtain ⟨r, a, f, m, hframe⟩ := hmoves.frame
    have hsame : (settleFollowed k c s).apll k = s.apll k := hmoves.others k h8
    exact ⟨fun f hf => hmoves.regs f (hkeys f hf), by rw [hsame]; exact id, by rw [hframe], by rw [hframe], fun _ => ⟨hsame,
      hmoves.regs _ (by simp [spareRegs]; omega)⟩⟩

section
variable (k : Nat) (s : State)

theorem settleEnded_apll : (settleEnded k s).apll k = { (if s.apllState k = 3 then setApllState k 4 s else s).apll k with
    change := none
    aligned := (s.apll k).aligned ||
      (decide (s.apllState k = 3) || !(s.apll k).change.any (fun c => decide (c.cls = .ramp)))
    lag := if decide (s.apllState k = 3) || !(s.apll k).change.any (fun c => decide (c.cls = .ramp)) then 0
      else ((if s.apllState k = 3 then setApllState k 4 s else s).apll k).lag } := by
  rw [settleEnded, State.apll_wrs, State.apll_put_self]

theorem settleEnded_frame : ∃ r a, settleEnded k s = { s with regs := r, aplls := a } := by
  have hstate : ∃ r a, (if s.apllState k = 3 then setApllState k 4 s else s) = { s with regs := r, aplls := a } := by
    split
    · exact setApllState_frame k 4 s
    · exact ⟨_, _, rfl⟩
  obtain ⟨r, a, h⟩ := hstate
  unfold settleEnded
  dsimp only
  rw [h]
  obtain ⟨r', h'⟩ := State.wrs_frame _ _
  exact ⟨_, _, h'⟩

/-- The registers that show the end of a change. -/
theorem settleEnded_regs : (settleEnded k s).rd (Reg.APLL_CMD_APPLY k) = 0 ∧
    (settleEnded k s).rd (Reg.APLL_RELOCK_TIME_US k) = min (s.age (.relock k) / 500) (2 ^ 24 - 1) := by
  have hage : (if s.apllState k = 3 then setApllState k 4 s else s).age (.relock k) = s.age (.relock k) := by
    split
    · exact setApllState_age ..
    · rfl
  have hlt : min (s.age (.relock k) / 500) (2 ^ 24 - 1) < 2 ^ (Reg.APLL_RELOCK_TIME_US k).width :=
    Nat.lt_of_le_of_lt (Nat.min_le_right ..) (by simp)
  rw [← Nat.mod_eq_of_lt hlt, ← hage]
  unfold settleEnded
  refine ⟨?_, State.rd_wrs_cons_self _ _ _ (by simp; omega)⟩
  simp (disch := simp <;> omega)

theorem settleEnded_rd_state : (settleEnded k s).rd (Reg.APLL_STATUS_STATE k) =
    (if s.apllState k = 3 then setApllState k 4 s else s).rd (Reg.APLL_STATUS_STATE k) := by
  unfold settleEnded
  exact (State.rd_wrs_ne _ _ (by simp; omega)).trans rfl

theorem settleEnded_apllState :
    (settleEnded k s).apllState k = if s.apllState k = 3 then 4 else s.apllState k := by
  have hrecord := congrArg ApllSt.stateWas (settleEnded_apll k s)
  refine (apllState_congr (settleEnded_rd_state k s) hrecord).trans ?_
  split
  · exact apllState_setApllState k (by decide) s
  · rfl

/-- A change ends with its plan; a lock or a change of dividers leaves the dividers aligned. -/
theorem settleEnded_record : ((settleEnded k s).apll k).change = none ∧ ((settleEnded k s).apll k).plan = (s.apll k).plan ∧
    (s.apllState k = 3 → ((settleEnded k s).apll k).aligned = true ∧ ((settleEnded k s).apll k).lag = 0) := by
  have hplan : ((if s.apllState k = 3 then setApllState k 4 s else s).apll k).plan = (s.apll k).plan := by
    split
    · rw [setApllState_apll]
    · rfl
  rw [settleEnded_apll]
  exact ⟨rfl, hplan, fun h => by simp [h]⟩

end

/-- SETTLE has passed since the lock, the end of the ramp or the change of dividers of APLL `k`. -/
def State.settled (s : State) (k : Nat) : Prop := s.ran (.settle k) (1000 * s.rd (Reg.APLL_CFG_SETTLE (s.apllOf k))) = true

theorem exec_apllSettleEnd_early (k : Fin 9) (h : ¬ s.settled k) : exec (.apllSettleEnd k ()) s = .next s :=
  if_pos (by rw [Bool.not_eq_true', Bool.eq_false_iff]; exact h)

theorem changesBegun_iff : s.changesBegun k ↔ (s.apll k).change.any (fun c => !c.begun) = false := by
  unfold State.changesBegun
  cases (s.apll k).change <;> simp

theorem anySettles_iff :
    (∃ c, (s.apll k).change = some c ∧ c.settling = true) ↔ (s.apll k).change.any (fun c => c.settling) = true := by
  cases (s.apll k).change <;> simp

section
variable {k : Fin 9} (h : s.settled k)
include h

theorem settle_passed : ¬ (!s.ran (.settle k) (1000 * s.rd (Reg.APLL_CFG_SETTLE (s.apllOf k)))) = true := by
  rw [Bool.not_eq_true', Bool.eq_false_iff]
  exact not_not.mpr h

theorem exec_apllSettleEnd_waits (hb : ¬ s.changesBegun k) : exec (.apllSettleEnd k ()) s =
    .next (if s.apllState k = 3 then setApllState k 4 s else s) := by
  rw [changesBegun_iff, Bool.not_eq_false] at hb
  refine (if_neg (settle_passed h)).trans ((if_pos hb).trans (congrArg Host.Outcome.next ?_))
  exact if_congr decide_eq_true_iff rfl rfl

theorem exec_apllSettleEnd_rests (hb : s.changesBegun k) (h3 : s.apllState k ≠ 3)
    (hs : ¬ ∃ c, (s.apll k).change = some c ∧ c.settling = true) : exec (.apllSettleEnd k ()) s = .next s := by
  rw [changesBegun_iff] at hb
  rw [anySettles_iff, Bool.not_eq_true] at hs
  exact (if_neg (settle_passed h)).trans ((if_neg (Bool.not_eq_true _ ▸ hb)).trans (if_pos (by rw [hs, decide_eq_false h3]; rfl)))

theorem exec_apllSettleEnd_ends (hb : s.changesBegun k)
    (hs : s.apllState k = 3 ∨ ∃ c, (s.apll k).change = some c ∧ c.settling = true) :
    exec (.apllSettleEnd k ()) s = .next (settleFollowed k (s.apll k).change (settleEnded k s)) := by
  rw [changesBegun_iff] at hb
  rw [anySettles_iff] at hs
  refine (if_neg (settle_passed h)).trans ((if_neg (Bool.not_eq_true _ ▸ hb)).trans ((if_neg ?_).trans ?_))
  · simpa [or_iff_not_imp_left] using hs
  · unfold settleEnded
    by_cases h3 : s.apllState k = 3
    · simp only [h3, decide_true, if_true]
      rfl
    · simp only [h3, decide_false, if_false, Bool.false_eq_true]
      rfl

end

/-! ### Losses (R207, R210) -/

/-- APLL `k` has lost its lock: the loss shows and counts, and the wait for the retry begins. -/
def apllLost (k : Nat) (s : State) : State :=
  ((((s.wrs [(Reg.APLL_STATUS_LOCK k, 0), (Reg.APLL_STATUS_STATE k, 7), (Reg.APLL_CMD_APPLY k, 0), (Reg.APLL_CMD_FULL k, 0)]).putApll
    k { s.apll k with ramp := none, lag := 0, change := (s.apll k).change.map (fun c => { c with settling := false, begun := true }) }
    |>.bump (Reg.APLL_COUNT_UNLOCKS k)).level 25 k true).arm (.retry k)).arm (.relock k)

theorem apllLost_regs (k : Nat) (s : State) : (apllLost k s).rd (Reg.APLL_STATUS_LOCK k) = 0 ∧
    (apllLost k s).rd (Reg.APLL_STATUS_STATE k) = 7 ∧ (apllLost k s).rd (Reg.APLL_CMD_APPLY k) = 0 ∧
    (apllLost k s).rd (Reg.APLL_COUNT_UNLOCKS k) =
      (s.rd (Reg.APLL_COUNT_UNLOCKS k) + 1) % 2 ^ (Reg.APLL_COUNT_UNLOCKS k).width := by
  simp (disch := simp <;> omega) [apllLost]

theorem apllLost_present (k : Nat) (s : State) : (apllLost k s).present 25 k := State.present_level_on _ 25 k 0

theorem apllLost_age (k : Nat) (s : State) : (apllLost k s).age (.retry k) = 0 :=
  (State.age_arm_ne _ (by simp)).trans (State.age_arm _ _)

theorem apllLost_frame (k : Nat) (s : State) :
    ∃ r a c m, apllLost k s = { s with regs := r, aplls := a, flt := c, timers := m } := by
  unfold apllLost
  obtain ⟨r, hr⟩ := s.wrs_frame
    [(Reg.APLL_STATUS_LOCK k, 0), (Reg.APLL_STATUS_STATE k, 7), (Reg.APLL_CMD_APPLY k, 0), (Reg.APLL_CMD_FULL k, 0)]
  rw [hr]
  obtain ⟨c, hc⟩ := State.level_frame _ 25 k true 0
  rw [hc]
  exact ⟨_, _, _, _, rfl⟩

/-- The fields that show the loss of lock of APLL `k`. -/
def lossRegs (k : Nat) : List Fld :=
  [Reg.APLL_STATUS_LOCK k, Reg.APLL_STATUS_STATE k, Reg.APLL_CMD_APPLY k, Reg.APLL_COUNT_UNLOCKS k]

/-- From `s` to `t` what shows the loss of lock of APLL `k` stands, with the engines and the slots. -/
structure LossStands (k : Nat) (s t : State) : Prop where
  regs : ∀ f ∈ lossRegs k, t.rd f = s.rd f
  cause : t.present 25 k ↔ s.present 25 k
  retry : t.age (.retry k) = s.age (.retry k)
  eng : t.eng = s.eng
  slots : t.slots = s.slots

theorem LossStands.refl (k : Nat) (s : State) : LossStands k s s := ⟨fun _ _ => rfl, Iff.rfl, rfl, rfl, rfl⟩

theorem LossStands.trans (h : LossStands k s t) (h' : LossStands k t u) : LossStands k s u :=
  ⟨fun f hf => (h'.regs f hf).trans (h.regs f hf), h'.cause.trans h.cause, h'.retry.trans h.retry, h'.eng.trans h.eng,
    h'.slots.trans h.slots⟩

theorem SpareMoves.lossStands (h : SpareMoves s t) (hk : k < 8) : LossStands k s t := by
  obtain ⟨⟨_, _, _, _, hframe⟩, hregs, -, htimers, hlevels⟩ := h
  have hkeys : ∀ f ∈ lossRegs k, ∀ g ∈ spareRegs, g.key ≠ f.key := by
    simp [lossRegs, spareRegs]
    omega
  exact ⟨fun f hf => hregs f (hkeys f hf), hlevels 25 k (by decide), htimers _ (by simp), by rw [hframe], by rw [hframe]⟩

/-- Outputs move. -/
theorem LossStands.outs (k : Nat) (h : ∃ y, t = { s with outs := y }) : LossStands k s t := by
  obtain ⟨y, rfl⟩ := h
  exact ⟨fun _ _ => rfl, Iff.rfl, rfl, rfl, rfl⟩

theorem bistEnd_lossStands (k : Nat) (s : State) : LossStands k s (bistEnd 4 0 s) := by
  obtain ⟨⟨g, b, hframe⟩, hregs⟩ := bistEnd_frame 4 0 s
  have hkeys : ∀ f ∈ lossRegs k, ∀ g ∈ bistRegs, g.key ≠ f.key := by
    simp [lossRegs, bistRegs]
    omega
  exact ⟨fun f hf => hregs f (hkeys f hf), by rw [hframe]; rfl, by rw [hframe]; rfl, by rw [hframe], by rw [hframe]⟩

/-- A8 serves no longer. -/
theorem serviceEnds_lossStands (k v : Nat) (s : State) :
    LossStands k s ((s.wr (Reg.APLL_SPARE_STATUS_SERVING 8) 15).level 26 v false) := by
  obtain ⟨c, hc⟩ := State.level_frame (s.wr (Reg.APLL_SPARE_STATUS_SERVING 8) 15) 26 v false 0
  have hkeys : ∀ f ∈ lossRegs k, (Reg.APLL_SPARE_STATUS_SERVING 8).key ≠ f.key := by
    simp [lossRegs]
    omega
  exact ⟨fun f hf => (State.rd_level ..).trans (s.rd_wr_ne (hkeys f hf) 15), State.present_level_ne _ (by simp) false 0,
    by rw [hc]; rfl, by rw [hc]; rfl, by rw [hc]; rfl⟩

/-- What A8 does after the loss of an APLL whose outputs have moved: it serves them, turns to its cover after a test, or rescues. -/
def lossRescued (k : Nat) (spare test : Bool) (s : State) : State :=
  if spare then spareServe k s
  else if test then spareFollow s
  else if s.bit (Reg.APLL_COVER_RESCUE 8) ∧ s.bist ≠ some (3, 8) ∧ s.cover ≠ some k ∧ s.rescuing = none ∧
      s.rd (Reg.APLL_SPARE_STATUS_SERVING 8) = 15 then spareRun k s
  else s

/-- What follows the loss of APLL `k` for the outputs: those of A8 go to BYPASS, and those of another APLL to A8 or to BYPASS. -/
def lossFollowed (k : Nat) (spare test : Bool) (s : State) : State :=
  if k = 8 then
    let v := s.rd (Reg.APLL_SPARE_STATUS_SERVING 8)
    if v < 8 then
      let s := (groupOuts v).foldl (fun s o =>
        if (s.outp o).moved = 1 then s.putOutp o { s.outp o with moved := 2 } else s) s
      (s.wr (Reg.APLL_SPARE_STATUS_SERVING 8) 15).level 26 v false
    else s
  else lossRescued k spare test (moveOutputs k spare s)

theorem apllLose_lost (hlock : s.rd (Reg.APLL_STATUS_LOCK k) ≠ 0) (h6 : s.rd (Reg.APLL_STATUS_STATE k) ≠ 6) :
    ∃ spare test, apllLose k s = lossFollowed k spare test (if test then bistEnd 4 0 (apllLost k s) else apllLost k s) :=
  ⟨_, _, if_neg (by simp [State.bit, hlock, h6])⟩

theorem apllLose_none (h : s.rd (Reg.APLL_STATUS_LOCK k) = 0 ∨ s.rd (Reg.APLL_STATUS_STATE k) = 6) : apllLose k s = s :=
  if_pos (by simpa [State.bit] using h)

theorem lossRescued_works (k : Nat) (spare test : Bool) (s : State) : SpareWorks s (lossRescued k spare test s) := by
  unfold lossRescued
  split
  · exact spareServe_works k s
  · split
    · exact spareFollow_works s
    · split
      · exact spareRun_works k s
      · exact .refl s

theorem lossFollowed_lossStands (hk : k < 9) (spare test : Bool) (s : State) : LossStands k s (lossFollowed k spare test s) := by
  unfold lossFollowed
  split
  · dsimp only
    split
    · exact (LossStands.outs k (foldl_outs (fun t o => by split <;> exact ⟨_, rfl⟩) _ s)).trans
        (serviceEnds_lossStands k _ _)
    · exact .refl k s
  next h8 =>
    exact (LossStands.outs k (moveOutputs_frame k spare s)).trans
      ((lossRescued_works k spare test _).toSpareMoves.lossStands (by omega))

/-- What follows a loss leaves it shown. -/
theorem apllLose_lossStands (hk : k < 9) (hlock : s.rd (Reg.APLL_STATUS_LOCK k) ≠ 0) (h6 : s.rd (Reg.APLL_STATUS_STATE k) ≠ 6) :
    LossStands k (apllLost k s) (apllLose k s) := by
  obtain ⟨spare, test, h⟩ := apllLose_lost hlock h6
  rw [h]
  refine LossStands.trans ?_ (lossFollowed_lossStands hk spare test _)
  split
  · exact bistEnd_lossStands k _
  · exact .refl k _

/-! ### O23 -/

/-- A search locks in a band that reaches the VCO frequency, and in no other. -/
theorem exec_apllLock_search {k : Fin 9} {band : Fin 48} (h1 : s.rd (Reg.APLL_STATUS_STATE k) = 1)
    (hxo : s.rd Reg.DEV_CLK_STATUS_TB_ON_XO = 0)
    (hband : (9985000000 + 58500000 * band.val) * 2 ^ 40 ≤ (s.apll k).plan.f ∧
      (s.apll k).plan.f ≤ (10075000000 + 58500000 * band.val) * 2 ^ 40) :
    exec (.apllLock k band) s = .next (searchLocked k band s) :=
  (execApllLock_of_ne_hop k band (by rw [h1]; decide)).trans
    (congrArg Host.Outcome.next (if_pos ⟨h1, hxo, (inBand_iff ..).mpr hband⟩))

theorem exec_apllLock_rests {k : Fin 9} {band : Fin 48} (h2 : s.rd (Reg.APLL_STATUS_STATE k) ≠ 2)
    (h : ¬ (s.rd (Reg.APLL_STATUS_STATE k) = 1 ∧ s.rd Reg.DEV_CLK_STATUS_TB_ON_XO = 0 ∧
      (9985000000 + 58500000 * band.val) * 2 ^ 40 ≤ (s.apll k).plan.f ∧
      (s.apll k).plan.f ≤ (10075000000 + 58500000 * band.val) * 2 ^ 40)) : exec (.apllLock k band) s = .next s :=
  (execApllLock_of_ne_hop k band h2).trans (congrArg Host.Outcome.next (if_neg fun hs =>
    h ⟨hs.1, hs.2.1, (inBand_iff ..).mp hs.2.2⟩))

section
variable (k : Fin 9) (s : State)

theorem exec_rampComplete : exec (.rampComplete k) s =
    .next (if s.apllState k = 5 ∧ s.ratioNow k = (s.apll k).plan.f then rampEnded k s else s) := rfl

theorem exec_hopTimeout : exec (.hopTimeout k) s =
    .next (if s.rd (Reg.APLL_STATUS_STATE k) = 2 ∧ s.ran (.hop k) 30000 = true then hopFailed k s else s) := rfl

theorem exec_searchFail : exec (.searchFail k) s =
    .next (if s.rd (Reg.APLL_STATUS_STATE k) = 1 ∧ s.rd Reg.DEV_CLK_STATUS_TB_ON_XO = 0 then searchFailed k s else s) := by
  have hxo : (!s.bit Reg.DEV_CLK_STATUS_TB_ON_XO) = true ↔ s.rd Reg.DEV_CLK_STATUS_TB_ON_XO = 0 := by simp [State.bit]
  exact congrArg Host.Outcome.next (if_congr (and_congr_right' hxo) rfl rfl)

theorem exec_apllUnlock : exec (.apllUnlock k) s = .next (apllLose k s) := rfl

theorem exec_apllRetry : exec (.apllRetry k) s =
    .next (if s.rd (Reg.APLL_STATUS_STATE k) = 7 ∧ maskBit (s.rd Reg.PWR_RAIL_STATUS_GOOD) 4 = true ∧
      s.ran (.retry k) 10000000 = true then acquire k true s else s) := rfl

end

/-- Settles O23: each command leaves the state named after it. -/
theorem apllLock : Obligations.apll_lock := by
  unfold Obligations.apll_lock
  intro k band s x st lock searches others ramped reaches begun settled settles
  refine ⟨fun h => ?ramp, fun h => (exec_rampComplete k s).trans (congrArg _ (if_neg h)), fun h2 => ?hop,
    fun ⟨h1, hxo, hband⟩ => ?search, fun h2 h => exec_apllLock_rests h2 h, fun h2 hran => ?hopFails, fun h => ?noHop,
    fun h1 hxo => ?searchFails, fun h => ?noSearch, exec_apllSettleEnd_early k, fun hs ⟨hb, hends⟩ => ?ends,
    fun hs hb h3 => ?waits, fun hn h3 => ?rests, fun hl h6 => ?unlock, fun h => ?noLock,
    fun h => (exec_apllRetry k s).trans (congrArg _ (if_neg h)), fun h => ?retry⟩
  case ramp =>
    obtain ⟨r, a, m, hframe⟩ := rampEnded_frame k s
    exact ⟨rampEnded k s, (exec_rampComplete k s).trans (congrArg _ (if_pos h)), rampEnded_apllState k s, rampEnded_apll k s,
      State.age_arm _ _, fun j hj => rampEnded_apll_ne hj s, rampEnded_regsBut k s, by rw [hframe]⟩
  case hop =>
    have hput := State.apll_put_self s k ((s.apll k).useEnt (s.apll k).hopEnt (s.hopUsed k))
    obtain ⟨hband, hlocked, hstate⟩ := lockedIn_regs k (s.hopUsed k).band
      (s.putApll k ((s.apll k).useEnt (s.apll k).hopEnt (s.hopUsed k)))
    obtain ⟨r, c, m, hframe⟩ := lockedIn_frame k (s.hopUsed k).band
      (s.putApll k ((s.apll k).useEnt (s.apll k).hopEnt (s.hopUsed k)))
    refine ⟨hopLocked k s, exec_apllLock_hop k band h2, hband, hlocked, hstate, ?temp, lockedIn_not_present k _ _, lockedIn_age ..,
      fun j hj => (lockedIn_apll ..).trans (s.apll_put_ne hj.symm _), lockedIn_regsBut k _ (s.putApll k _), ?frame⟩
    case temp => rw [hopLocked, lockedIn_apll, hput, ApllSt.ent_useEnt]; rfl
    case frame => rw [hopLocked, hframe]; rfl
  case search =>
    have hrecord : (searchLocked k band s).apll k = s.found k band :=
      (lockedIn_apll ..).trans (State.apll_put_self ..)
    obtain ⟨hb, hlocked, hstate⟩ := lockedIn_regs k band (s.takeFree.2.putApll k (s.found k band))
    obtain ⟨r, c, m, hframe⟩ := lockedIn_frame k band (s.takeFree.2.putApll k (s.found k band))
    refine ⟨searchLocked k band s, exec_apllLock_search h1 hxo hband, ?shown, hlocked, hstate, lockedIn_not_present k _ _,
      lockedIn_age .., fun i hi => ?entry, fun j hj => (lockedIn_apll ..).trans (State.apll_put_ne _ hj.symm _),
      lockedIn_regsBut k _ (s.takeFree.2.putApll k _), by rw [searchLocked, hframe]; rfl⟩
    case shown => exact hb.trans (Nat.mod_eq_of_lt (band.isLt.trans (by simp)))
    case entry =>
      rw [hrecord, found_ent band hi, found_preset]
      exact ⟨rfl, rfl, rfl, rfl⟩
  case hopFails =>
    obtain ⟨r, a, hframe⟩ := hopFailed_frame k s
    refine ⟨hopFailed k s, (exec_hopTimeout k s).trans (congrArg _ (if_pos ⟨h2, hran⟩)), startSearch_rd_state .., startSearch_rd_lock ..,
      hopFailed_ent k s, startSearch_rd_searches k (s.putApll k _), fun j hj => hopFailed_apll_ne hj s,
      (startSearch_regsBut k (s.putApll k _)).mono (by simp [st, lock, searches]), by rw [hframe]⟩
  case noHop =>
    refine (exec_hopTimeout k s).trans (congrArg _ (if_neg fun ⟨h2, hran⟩ => ?_))
    exact h.elim (fun hne => hne h2) fun hf => Bool.false_ne_true (hf.symm.trans hran)
  case searchFails =>
    obtain ⟨hstate, herr, happly⟩ := searchFailed_regs k s
    obtain ⟨r, m, hframe⟩ := searchFailed_frame k s
    exact ⟨searchFailed k s, (exec_searchFail k s).trans (congrArg _ (if_pos ⟨h1, hxo⟩)), hstate, herr, happly,
      searchFailed_age k s, searchFailed_regsBut k s, by rw [hframe]⟩
  case noSearch =>
    refine (exec_searchFail k s).trans (congrArg _ (if_neg fun ⟨h1, hxo⟩ => ?_))
    exact h.elim (fun hne => hne h1) fun hne => hne hxo
  case ends =>
    obtain ⟨happly, hrelock⟩ := settleEnded_regs k s
    obtain ⟨hnone, hplan, haligned⟩ := settleEnded_record k s
    obtain ⟨r, a, hframe⟩ := settleEnded_frame k s
    obtain ⟨hregs, hcalm, heng, hslots, hrecord⟩ := settleFollowed_keeps k.isLt (s.apll k).change (settleEnded k s)
    refine ⟨_, exec_apllSettleEnd_ends hs hb hends, (hregs _ (by simp)).trans happly, (hregs _ (by simp)).trans hrelock, hcalm hnone,
      fun hk => ?record, heng.trans (by rw [hframe]), hslots.trans (by rw [hframe])⟩
    obtain ⟨hsame, hstate⟩ := hrecord hk
    refine ⟨(congrArg ApllSt.plan hsame).trans hplan, ?_, fun h3 => ?_⟩
    · exact (apllState_congr hstate (congrArg ApllSt.stateWas hsame)).trans (settleEnded_apllState k s)
    · rw [hsame]
      exact haligned h3
  case waits =>
    have hexec := exec_apllSettleEnd_waits hs hb
    rw [if_pos h3] at hexec
    obtain ⟨r, a, hframe⟩ := setApllState_frame k 4 s
    refine ⟨_, hexec, apllState_setApllState k (by decide) s, ?_, fun j hj => setApllState_apll_ne hj 4 s,
      setApllState_regsBut k 4 s, by rw [hframe]⟩
    rw [setApllState_apll]
  case rests =>
    by_cases hs : s.settled k
    · by_cases hb : s.changesBegun k
      · exact exec_apllSettleEnd_rests hs hb h3 fun hc => hn ⟨hb, .inr hc⟩
      · exact (exec_apllSettleEnd_waits hs hb).trans (congrArg _ (if_neg h3))
    · exact exec_apllSettleEnd_early k hs
  case unlock =>
    obtain ⟨hregs, hcause, hretry, heng, hslots⟩ := apllLose_lossStands k.isLt hl h6
    obtain ⟨hlock, hstate, happly, hcount⟩ := apllLost_regs k s
    obtain ⟨r, a, c, m, hframe⟩ := apllLost_frame k s
    exact ⟨_, exec_apllUnlock k s, (hregs _ (by simp [lossRegs, lock])).trans hlock, (hregs _ (by simp [lossRegs, st])).trans hstate,
      (hregs _ (by simp [lossRegs])).trans happly, hcause.mpr (apllLost_present k s),
      (hregs _ (by simp [lossRegs])).trans hcount, hretry.trans (apllLost_age k s),
      heng.trans (by rw [hframe]), hslots.trans (by rw [hframe])⟩
  case noLock => exact (exec_apllUnlock k s).trans (congrArg _ (apllLose_none h))
  case retry =>
    have hacquire := acquire_acquires k true s
    obtain ⟨r, a, m, hframe⟩ := hacquire.frame
    refine ⟨_, (exec_apllRetry k s).trans (congrArg _ (if_pos h)), ?lock, hacquire.others, by rw [hframe], ?course⟩
    case lock => exact acquire_rd_lock k true s
    case course =>
      split
      next i hhit =>
        rw [acquire_hit hhit]
        exact ⟨hopBegun_rd_state .., State.age_arm _ _, hopBegun_apll k i s⟩
      next hhit =>
        rw [acquire_miss hhit]
        exact ⟨startSearch_rd_state .., startSearch_rd_searches .., rfl⟩

end Sys2Proof.Machine
end

section
/-! The enable of an APLL (O24). -/
namespace Sys2Proof.Machine

variable {s : State}

/-- An enable of an APLL that is enabled and that no repair map replaces writes its EN again, and nothing follows. -/
theorem exec_apllEnable_again {k : Fin 9} (ho : s.hostOpen (Reg.APLL_CFG_EN k).addr) (hen : s.rd (Reg.APLL_CFG_EN k) ≠ 0)
    (hm : s.mapApll ≠ some k.val) : exec (.apllEnable k true) s = .next (outErrs (s.wrb (Reg.APLL_CFG_EN k) true)) := by
  have haddr : 0x24000 ≤ (Reg.APLL_CFG_EN k).addr ∧ (Reg.APLL_CFG_EN k).addr < 0x28000 := by
    simp only [Reg.APLL_CFG_EN]
    omega
  refine hostCmd_synth ho haddr ?_
  have hon : (true && decide (s.mapApll ≠ some k.val)) = true := by rw [decide_eq_true hm]; rfl
  have hwas : s.bit (Reg.APLL_CFG_EN k) = true := decide_eq_true hen
  simp only [doApllEnable, hon, hwas, if_true]

/-- The field EN of APLL 3 holds 2, where R220 gives it one bit, in a device whose host interface and clocks are up. -/
def wideEnableState : State := { regs := [((Reg.APLL_CFG_EN 3).key, 2)], clk := { time := .tb } }

/-- Refutes O24 in the clause that an enable of an enabled APLL leaves EN as it reads: `State` allows a field to hold more than its
width, and of an EN that holds 2 the enable makes 1. -/
theorem not_apllCommands : ¬ Obligations.apll_commands := by
  unfold Obligations.apll_commands
  intro h
  obtain ⟨-, hagain, -⟩ := h 3 false 0 wideEnableState
  have ho : wideEnableState.hostOpen (Reg.APLL_CFG_EN (3 : Fin 9)).addr := ⟨by decide, by decide, by decide⟩
  have hen : wideEnableState.rd (Reg.APLL_CFG_EN (3 : Fin 9)) = 2 := by decide
  have hm : wideEnableState.mapApll ≠ some (3 : Fin 9).val := by decide
  have hne : wideEnableState.rd (Reg.APLL_CFG_EN (3 : Fin 9)) ≠ 0 := by rw [hen]; decide
  obtain ⟨t, ht, -, hkept, -⟩ := hagain ho (.inl hne)
  have heq : t = outErrs (wideEnableState.wrb (Reg.APLL_CFG_EN (3 : Fin 9)) true) :=
    Host.Outcome.next.inj (ht.symm.trans (exec_apllEnable_again ho hne hm))
  have hwide : t.rd (Reg.APLL_CFG_EN (3 : Fin 9)) = 2 := (hkept hne hm).trans hen
  rw [heq, rd_outErrs, State.rd_wrb_self] at hwide
  exact absurd hwide (by decide)

end Sys2Proof.Machine
end

section
/-! The outputs (O25): multiplexers, source writes, enables, phases and pulses. -/
namespace Sys2Proof.Machine

variable {k o : Nat} {s t : State}

/-! ### Multiplexers (R203, R204) -/

theorem Acquires.outs_eq (h : Acquires k s t) : t.outs = s.outs := by
  obtain ⟨⟨_, _, _, hframe⟩, -⟩ := h
  rw [hframe]

theorem Acquires.outp (h : Acquires k s t) (o : Nat) : t.outp o = s.outp o := by
  rw [State.outp, h.outs_eq]
  rfl

/-- The record of output `o` when its multiplexer has connected what R212 gives it. -/
def State.muxed (s : State) (o : Nat) : OutSt :=
  { s.outp o with
    shown := s.outTarget o
    gap := s.switchGap o (s.outp o).shown (s.outTarget o)
    bypDiv := if s.outTarget o = 2 ∧ (s.outp o).shown ≠ 2 then (s.bypFreq o).2 else (s.outp o).bypDiv }

theorem muxSwitch_eq (o : Nat) (s : State) : muxSwitch o s = changeBegin (o / 4) (s.putOutp o (s.muxed o)) := rfl

/-- A switch shows in the output, and a change of its group that waited for it may begin. -/
theorem muxSwitch_moves (o : Nat) (s : State) : (muxSwitch o s).outp o = s.muxed o ∧
    (∀ j, j ≠ o → (muxSwitch o s).outp j = s.outp j) ∧
    (s.changesBegun (o / 4) → muxSwitch o s = { s with outs := (muxSwitch o s).outs }) ∧
    muxSwitch o s = { s with
      regs := (muxSwitch o s).regs, outs := (muxSwitch o s).outs, aplls := (muxSwitch o s).aplls,
      timers := (muxSwitch o s).timers } := by
  have hbegin := changeBegin_acquires (o / 4) (s.putOutp o (s.muxed o))
  obtain ⟨r, a, m, hframe⟩ := hbegin.frame
  rw [muxSwitch_eq]
  refine ⟨(hbegin.outp o).trans (s.outp_put_self ..), fun j hj => (hbegin.outp j).trans (s.outp_put_ne hj.symm _), fun hcalm => ?_,
    by rw [hframe]; rfl⟩
  rw [changeBegin_begun (s := s.putOutp o (s.muxed o)) hcalm]
  rfl

theorem exec_muxDeadClockSwitch (o : Fin 32) (s : State) :
    exec (.muxDeadClockSwitch o) s = .next (if s.clockDead o = true then muxSwitch o s else s) := rfl

/-! ### Source writes (R206, R208, R222) -/

/-- A write that reaches the CFG of an output has its effect, and OUT_ERR follows. -/
theorem hostCmd_outCfg {o : Fin 32} {f : State → Out} (h : s.hostOpen (Reg.OUT_CFG_SRC o).addr) (hf : f s = .next t) :
    hostCmd (Reg.OUT_CFG_SRC o).addr f s = .next (outErrs t) :=
  hostCmd_synth h (by simp only [Reg.OUT_CFG_SRC]; omega) hf

/-- SRC takes the value `src`, and an output with AUTO_RETURN = 0, or whose SRC changes, is moved no longer. -/
def srcTaken (o src : Nat) (s : State) : State :=
  let u := s.wr (Reg.OUT_CFG_SRC o) src
  if !u.bit (Reg.OUT_CFG_AUTO_RETURN o) || decide (s.rd (Reg.OUT_CFG_SRC o) ≠ src) then u.putOutp o { s.outp o with moved := 0 } else u

/-- The changes of the group of output `o`, and of A8, without the output or with it as it stands at `now`. -/
def changesMoved (o now : Nat) (s : State) : State :=
  let u := s.putApll (o / 4) { s.apll (o / 4) with
    change := (s.apll (o / 4)).change.map (fun c => c.move o (s.takesPart o) now) }
  u.putApll 8 { u.apll 8 with change := (u.apll 8).change.map (fun c => c.move o false now) }

/-- A write of SRC before what follows it. -/
def srcWritten (o src : Nat) (s : State) : State :=
  if s.rd (Reg.OUT_CFG_SRC o) = src then srcTaken o src s else changesMoved o (s.srcAct o) (srcTaken o src s)

theorem doOutSrcWrite_eq {o : Fin 32} {src : Fin 4} (hm : s.mapApll ≠ some (o.val / 4)) :
    doOutSrcWrite o src s = .next (outErrs (spareCheck (changeBegin (o.val / 4) (srcWritten o src s)))) := by
  have hmap : (srcTaken o src s).mapApll ≠ some (o.val / 4) := by
    unfold srcTaken
    dsimp only
    split <;> exact hm
  have hstep : (if (srcTaken o src s).mapApll = some (o.val / 4) then mapOutputs (o.val / 4) (srcTaken o src s)
      else srcTaken o src s) = srcTaken o src s := if_neg hmap
  unfold srcWritten
  by_cases hsrc : s.rd (Reg.OUT_CFG_SRC o) = src.val
  · rw [if_pos hsrc, ← hstep]
    simp only [doOutSrcWrite, if_pos hsrc]
    rfl
  · rw [if_neg hsrc, ← hstep]
    simp only [doOutSrcWrite, if_neg hsrc]
    rfl

section
variable (o src : Nat) (s : State)

theorem srcTaken_frame : ∃ r y, srcTaken o src s = { s with regs := r, outs := y } := by
  unfold srcTaken
  dsimp only
  split <;> exact ⟨_, _, rfl⟩

theorem rd_srcTaken (f : Fld) : (srcTaken o src s).rd f = (s.wr (Reg.OUT_CFG_SRC o) src).rd f := by
  unfold srcTaken
  dsimp only
  split <;> rfl

theorem srcTaken_outp_ne {j : Nat} (h : j ≠ o) : (srcTaken o src s).outp j = s.outp j := by
  unfold srcTaken
  dsimp only
  split
  · exact State.outp_put_ne _ h.symm _
  · rfl

theorem srcTaken_moved : ((srcTaken o src s).outp o).moved =
    if s.rd (Reg.OUT_CFG_AUTO_RETURN o) = 0 ∨ s.rd (Reg.OUT_CFG_SRC o) ≠ src then 0 else (s.outp o).moved := by
  have hreturn : (s.wr (Reg.OUT_CFG_SRC o) src).rd (Reg.OUT_CFG_AUTO_RETURN o) = s.rd (Reg.OUT_CFG_AUTO_RETURN o) :=
    State.rd_wr_ne _ (by simp) _
  simp only [srcTaken, State.bit, hreturn, Bool.or_eq_true, Bool.not_eq_true', decide_eq_true_eq, decide_eq_false_iff_not, not_not]
  split
  · rw [State.outp_put_self]
  · rfl

/-- The changes in progress learn of the output, and nothing else differs from the write of SRC itself. -/
theorem srcWritten_frame : ∃ a, srcWritten o src s = { srcTaken o src s with aplls := a } := by
  unfold srcWritten
  split <;> exact ⟨_, rfl⟩

end

/-! ### Enables (R206, R222) -/

/-- The record of output `o` when EN is written: the FORMAT at an enable, the driver off at once at 0, and no change under a parity
mismatch. -/
def State.enabled (s : State) (o : Nat) (on : Bool) : OutSt :=
  if (s.outp o).frozen.isSome then s.outp o
  else if !on then { s.outp o with shown := 6 }
  else if s.rd (Reg.OUT_CFG_EN o) = 0 then { s.outp o with format := s.rd (Reg.OUT_CFG_FORMAT o) }
  else s.outp o

/-- EN is written. -/
def enWritten (o : Nat) (on : Bool) (s : State) : State :=
  (if on && !s.bit (Reg.OUT_CFG_EN o) && (s.outp o).frozen.isNone then
      s.putOutp o { s.outp o with format := s.rd (Reg.OUT_CFG_FORMAT o) }
    else if on || (s.outp o).frozen.isSome then s else s.putOutp o { s.outp o with shown := 6 }).wrb (Reg.OUT_CFG_EN o) on

theorem doOutEnable_eq (o : Fin 32) (on : Bool) (s : State) :
    doOutEnable o on s = .next (outErrs (changeBegin (o.val / 4) (enWritten o on s))) := rfl

section
variable (o : Nat) (on : Bool) (s : State)

theorem enWritten_frame : ∃ r y, enWritten o on s = { s with regs := r, outs := y } := by
  unfold enWritten
  repeat' split
  all_goals exact ⟨_, _, rfl⟩

theorem rd_enWritten (f : Fld) : (enWritten o on s).rd f = (s.wrb (Reg.OUT_CFG_EN o) on).rd f := by
  unfold enWritten
  repeat' split
  all_goals rfl

theorem enWritten_outp_ne {j : Nat} (h : j ≠ o) : (enWritten o on s).outp j = s.outp j := by
  unfold enWritten
  repeat' split
  · exact s.outp_put_ne h.symm _
  · rfl
  · exact s.outp_put_ne h.symm _

theorem enWritten_outp : (enWritten o on s).outp o = s.enabled o on := by
  unfold enWritten State.enabled
  cases hfrozen : (s.outp o).frozen.isSome with
  | true => simp [hfrozen, ← Option.not_isSome]
  | false =>
    by_cases hen : s.rd (Reg.OUT_CFG_EN o) = 0 <;> cases on <;>
      simp [hfrozen, ← Option.not_isSome, State.bit, hen]

end

/-! ### Phases (R214, R215) -/

/-- The PHASE that a write of its LO half `lo` commits. -/
def State.phaseWritten (s : State) (o lo : Nat) : Nat := s.rd (Reg.OUT_PHASE_HI_PHASE o) * 2 ^ 32 + lo

theorem pulsing_congr (hmode : t.rd (Reg.OUT_CFG_MODE o) = s.rd (Reg.OUT_CFG_MODE o))
    (hsrc : t.rd (Reg.OUT_CFG_SRC o) = s.rd (Reg.OUT_CFG_SRC o)) : t.pulsing o = s.pulsing o := by
  unfold State.pulsing State.bit
  rw [hmode, hsrc]

theorem ratioNow_congr (hramp : t.rd (Reg.APLL_CFG_RAMP k) = s.rd (Reg.APLL_CFG_RAMP k)) (ha : t.aplls = s.aplls)
    (hup : t.up = s.up) : t.ratioNow k = s.ratioNow k := by
  unfold State.ratioNow State.apll
  rw [hramp, ha, hup]

/-- The nominal period of an output rests on its SRC, on the APLLs and on the time. -/
theorem outPeriod_congr (hsrc : t.rd (Reg.OUT_CFG_SRC o) = s.rd (Reg.OUT_CFG_SRC o))
    (hramp : ∀ k, t.rd (Reg.APLL_CFG_RAMP k) = s.rd (Reg.APLL_CFG_RAMP k)) (ha : t.aplls = s.aplls) (hup : t.up = s.up) :
    t.outPeriod o = s.outPeriod o := by
  have hdiv : t.outDiv o = s.outDiv o := by
    unfold State.outDiv State.apll
    rw [ha]
  have hratio := fun k => ratioNow_congr (hramp k) ha hup
  have hfreq : ∀ v < 2, t.signalFreq o v = s.signalFreq o v := by
    intro v hv
    obtain rfl | rfl : v = 0 ∨ v = 1 := by omega
    · simp only [State.signalFreq, hdiv, hratio]
    · simp only [State.signalFreq, hdiv, hratio]
  unfold State.outPeriod
  dsimp only
  rw [hsrc]
  split
  next hlt => rw [hfreq _ hlt]
  next => rfl

/-- The edges of output `o` have to move to stand at PHASE `v`. -/
def State.phaseLate (s : State) (o v : Nat) : Prop :=
  ∃ p, s.outPeriod o = some p ∧ (((v : Int) - (s.outp o).applied) * p.2 % (p.1 : Int)).toNat ≠ 0

section
variable (o : Nat) (lo : Nat) (s : State)

/-- PHASE `v` committed in PULSE mode. -/
def phasePulsed : State :=
  (s.wr (Reg.OUT_PHASE_LO_PHASE o) lo).putOutp o
    { s.outp o with phase := s.phaseWritten o lo, applied := s.phaseWritten o lo }

/-- Has the instant of the second that comes passed under the PHASE committed? -/
def State.phaseMisses : Bool :=
  let u := s.wr (Reg.OUT_PHASE_LO_PHASE o) lo
  let now := (u.tscale (u.rd (Reg.OUT_PULSE_CFG_TS o))).val
  decide (u.pulseIndex o now < (phasePulsed o lo s).pulseIndex o now)

/-- PHASE `v` committed for a clock, whose edges have yet to move. -/
def phaseStretched : State :=
  (s.wr (Reg.OUT_PHASE_LO_PHASE o) lo).putOutp o { s.outp o with phase := s.phaseWritten o lo, adjAt := s.up }

theorem rd_phaseLo (f : Fld) (hf : (Reg.OUT_PHASE_LO_PHASE o).key ≠ f.key) :
    (s.wr (Reg.OUT_PHASE_LO_PHASE o) lo).rd f = s.rd f := s.rd_wr_ne hf lo

theorem pulsing_wrPhase : (s.wr (Reg.OUT_PHASE_LO_PHASE o) lo).pulsing o = s.pulsing o :=
  pulsing_congr (rd_phaseLo o lo s _ (by simp; omega)) (rd_phaseLo o lo s _ (by simp; omega))

theorem phaseWritten_wrPhase : (s.wr (Reg.OUT_PHASE_LO_PHASE o) lo).phaseWritten o lo = s.phaseWritten o lo := by
  rw [State.phaseWritten, rd_phaseLo o lo s _ (by simp), State.phaseWritten]

theorem phaseStretched_late : ((phaseStretched o lo s).outPeriod o).any
    (fun p => decide ((phaseStretched o lo s).phaseRest o p.1 p.2 ≠ 0)) = true ↔ s.phaseLate o (s.phaseWritten o lo) := by
  have hperiod : (phaseStretched o lo s).outPeriod o = s.outPeriod o :=
    outPeriod_congr (rd_phaseLo o lo s _ (by simp; omega)) (fun k => rd_phaseLo o lo s _ (by simp; omega)) rfl rfl
  have hrest : ∀ a b, (phaseStretched o lo s).phaseRest o a b =
      (((s.phaseWritten o lo : Int) - (s.outp o).applied) * b % (a : Int)).toNat := by
    intro a b
    rw [State.phaseRest, phaseStretched, State.outp_put_self]
  rw [hperiod, State.phaseLate]
  cases s.outPeriod o <;> simp [hrest]

end

section
variable {o : Fin 32} {lo : BitVec 32}

theorem doOutPhaseCommit_frozen (h : (s.outp o).frozen.isSome = true) :
    doOutPhaseCommit o lo s = .next (s.wr (Reg.OUT_PHASE_LO_PHASE o) lo.toNat) := if_pos h

variable (hf : (s.outp o).frozen = none)
include hf

/-- In PULSE mode PHASE applies from the next second, which counts as missed where its instant has passed. -/
theorem doOutPhaseCommit_pulsing (hp : s.pulsing o = true) : doOutPhaseCommit o lo s =
    .next (if s.phaseMisses o lo.toNat = true then (phasePulsed o lo.toNat s).bump (Reg.OUT_STATUS_PULSE_MISS o)
      else phasePulsed o lo.toNat s) := by
  have hnone : ¬ (s.outp o).frozen.isSome = true := by simp [hf]
  have hpulse := (pulsing_wrPhase o lo.toNat s).trans hp
  refine (if_neg hnone).trans ((if_pos hpulse).trans (congrArg Host.Outcome.next ?_))
  unfold State.phaseMisses phasePulsed
  rw [← phaseWritten_wrPhase]
  exact if_congr decide_eq_true_iff.symm rfl rfl

/-- A clock is stretched unless the new PHASE is the old one modulo its period. -/
theorem doOutPhaseCommit_clock (hp : s.pulsing o = false) [Decidable (s.phaseLate o (s.phaseWritten o lo.toNat))] :
    doOutPhaseCommit o lo s = .next
      (if s.phaseLate o (s.phaseWritten o lo.toNat) then (phaseStretched o lo.toNat s).wr (Reg.OUT_STATUS_PHASE_BUSY o) 1
      else ((phaseStretched o lo.toNat s).putOutp o
        { s.outp o with phase := s.phaseWritten o lo.toNat, adjAt := s.up, applied := s.phaseWritten o lo.toNat }).wr
          (Reg.OUT_STATUS_PHASE_BUSY o) 0) := by
  have hnone : ¬ (s.outp o).frozen.isSome = true := by simp [hf]
  have hpulse : ¬ (s.wr (Reg.OUT_PHASE_LO_PHASE o) lo.toNat).pulsing o = true := by rw [pulsing_wrPhase, hp]; decide
  refine (if_neg hnone).trans ((if_neg hpulse).trans (congrArg Host.Outcome.next ?_))
  rw [← if_congr (phaseStretched_late o lo.toNat s) rfl rfl]
  unfold phaseStretched
  rw [← phaseWritten_wrPhase]
  exact if_congr Iff.rfl rfl (by rw [State.outp_put_self]; rfl)

end

/-! ### Pulses (R215) -/

/-- The timescale reaches the instant of second `sec` of a PULSE output, for the first time. -/
def State.pulseStarts (s : State) (o sec : Nat) : Prop :=
  s.pulsing o = true ∧ s.pulseDue o sec = true ∧ sec % max 1 (s.rd (Reg.OUT_PULSE_CFG_EVERY o)) = 0 ∧
    ∀ l, (s.outp o).lastPulse = some l → l < sec

theorem pulseStarts_iff (s : State) (o sec : Nat) : s.pulseStarts o sec ↔
    (!s.pulsing o || !s.pulseDue o sec || decide (sec % max 1 (s.rd (Reg.OUT_PULSE_CFG_EVERY o)) ≠ 0) ||
      (s.outp o).lastPulse.any (fun l => decide (sec ≤ l))) = false := by
  unfold State.pulseStarts
  cases (s.outp o).lastPulse <;> simp [and_assoc]

section
variable {o : Fin 32} {sec : BitVec 48}

theorem exec_pulseInstant_rests (h : ¬ s.pulseStarts o sec.toNat) : exec (.pulseInstant o sec) s = .next s :=
  if_pos (by rwa [pulseStarts_iff, Bool.not_eq_false] at h)

variable (h : s.pulseStarts o sec.toNat)
include h

theorem pulse_starts : ¬ (!s.pulsing o || !s.pulseDue o sec.toNat ||
    decide (sec.toNat % max 1 (s.rd (Reg.OUT_PULSE_CFG_EVERY o)) ≠ 0) ||
      (s.outp o).lastPulse.any (fun l => decide (sec.toNat ≤ l))) = true := by
  rw [(pulseStarts_iff ..).mp h]
  decide

theorem exec_pulseInstant_pulses (hact : s.srcAct o < 2) : exec (.pulseInstant o sec) s = .next (s.putOutp o
    { s.outp o with lastPulse := some sec.toNat, pulseUntil := s.up + (s.rd (Reg.OUT_PULSE_W_NS o) + 1) / 2 }) :=
  (if_neg (pulse_starts h)).trans (if_pos hact)

theorem exec_pulseInstant_misses (hact : s.srcAct o = 4 ∨ s.srcAct o = 5) :
    exec (.pulseInstant o sec) s = .next (s.bump (Reg.OUT_STATUS_PULSE_MISS o)) :=
  (if_neg (pulse_starts h)).trans ((if_neg (by omega)).trans (if_pos hact))

end

/-! ### O25 -/

theorem SpareMoves.outp (h : SpareMoves s t) (j : Nat) : t.outp j = s.outp j := by
  obtain ⟨_, _, _, _, hframe⟩ := h.frame
  rw [hframe]
  rfl

/-- After a write of SRC the change of the group may begin, and A8 may turn to its cover. -/
def srcFollowed (o src : Nat) (s : State) : State := spareCheck (changeBegin (o / 4) (srcWritten o src s))

section
variable (o src : Nat) (s : State)

theorem srcFollowed_outp (j : Nat) : (srcFollowed o src s).outp j = (srcTaken o src s).outp j := by
  obtain ⟨a, hframe⟩ := srcWritten_frame o src s
  refine ((spareCheck_works _).toSpareMoves.outp j).trans (((changeBegin_acquires ..).outp j).trans ?_)
  rw [hframe]
  rfl

theorem rd_srcFollowed_src : (srcFollowed o src s).rd (Reg.OUT_CFG_SRC o) = src % 2 ^ (Reg.OUT_CFG_SRC o).width := by
  obtain ⟨a, hframe⟩ := srcWritten_frame o src s
  have hcheck := (spareCheck_works (changeBegin (o / 4) (srcWritten o src s))).regs (Reg.OUT_CFG_SRC o) (by simp [spareRegs]; omega)
  have hbegin := (changeBegin_acquires (o / 4) (srcWritten o src s)).regs (Reg.OUT_CFG_SRC o) (by simp; omega)
  refine hcheck.trans (hbegin.trans ?_)
  rw [hframe]
  exact (rd_srcTaken ..).trans (State.rd_wr_self ..)

theorem srcFollowed_frame : ∃ r y a c m, srcFollowed o src s = { s with regs := r, outs := y, aplls := a, flt := c, timers := m } := by
  obtain ⟨r, y, htaken⟩ := srcTaken_frame o src s
  obtain ⟨a, hwritten⟩ := srcWritten_frame o src s
  obtain ⟨r', a', m', hbegin⟩ := (changeBegin_acquires (o / 4) (srcWritten o src s)).frame
  obtain ⟨r'', a'', c, m'', hcheck⟩ := (spareCheck_works (changeBegin (o / 4) (srcWritten o src s))).frame
  exact ⟨r'', y, a'', c, m'', by rw [srcFollowed, hcheck, hbegin, hwritten, htaken]⟩

end

/-- After a write of EN the change of the group may begin. -/
def enFollowed (o : Nat) (on : Bool) (s : State) : State := changeBegin (o / 4) (enWritten o on s)

section
variable (o : Nat) (on : Bool) (s : State)

theorem enFollowed_outp (j : Nat) : (enFollowed o on s).outp j = if j = o then s.enabled o on else s.outp j := by
  refine ((changeBegin_acquires ..).outp j).trans ?_
  split
  next hj => rw [hj, enWritten_outp]
  next hj => exact enWritten_outp_ne o on s hj

theorem rd_enFollowed_en (_ho : o < 32) : (enFollowed o on s).rd (Reg.OUT_CFG_EN o) = on.toNat := by
  refine ((changeBegin_acquires (o / 4) (enWritten o on s)).regs _ (by simp; omega)).trans ((rd_enWritten ..).trans ?_)
  rw [State.rd_wrb_self]
  exact Nat.mod_eq_of_lt (Bool.toNat_lt on)

theorem enFollowed_calm (h : s.changesBegun (o / 4)) :
    s.regsBut [Reg.OUT_CFG_EN o] (enFollowed o on s) ∧ (enFollowed o on s).aplls = s.aplls := by
  obtain ⟨r, y, hframe⟩ := enWritten_frame o on s
  have hcalm : (enWritten o on s).changesBegun (o / 4) := by
    rw [hframe]
    exact h
  rw [enFollowed, changeBegin_begun hcalm]
  exact ⟨fun f hf => (rd_enWritten o on s f).trans (s.rd_wrb_ne (hf _ (by simp)) on), by rw [hframe]⟩

theorem enFollowed_frame : ∃ r y a m, enFollowed o on s = { s with regs := r, outs := y, aplls := a, timers := m } := by
  obtain ⟨r, y, hwritten⟩ := enWritten_frame o on s
  obtain ⟨r', a, m, hbegin⟩ := (changeBegin_acquires (o / 4) (enWritten o on s)).frame
  exact ⟨r', y, a, m, by rw [enFollowed, hbegin, hwritten]⟩

end

/-- A write that reaches the LO half of PHASE has its effect, and OUT_ERR follows. -/
theorem exec_outPhaseCommit {o : Fin 32} {lo : BitVec 32} (h : s.hostOpen (Reg.OUT_PHASE_LO_PHASE o).addr)
    (hf : doOutPhaseCommit o lo s = .next t) : exec (.outPhaseCommit o lo) s = .next (outErrs t) :=
  hostCmd_synth h (by simp only [Reg.OUT_PHASE_LO_PHASE]; omega) hf

section
variable (o : Nat) (lo : BitVec 32) (s : State)

theorem rd_wrPhase : (s.wr (Reg.OUT_PHASE_LO_PHASE o) lo.toNat).rd (Reg.OUT_PHASE_LO_PHASE o) = lo.toNat :=
  (State.rd_wr_self ..).trans (Nat.mod_eq_of_lt lo.isLt)

/-- From `s` to `t` PHASE is committed, the record of output `o` is `x`, and of the registers only PHASE and `f` may differ. -/
structure PhaseCommits (x : OutSt) (f : Fld) (t : State) : Prop where
  phase : t.rd (Reg.OUT_PHASE_LO_PHASE o) = lo.toNat
  outp : t.outp o = x
  others : ∀ j, j ≠ o → t.outp j = s.outp j
  regs : s.regsBut [Reg.OUT_PHASE_LO_PHASE o, f] t
  frame : ∃ r y, t = { s with regs := r, outs := y }

theorem PhaseCommits.put (x : OutSt) (f : Fld) :
    PhaseCommits o lo s x f ((s.wr (Reg.OUT_PHASE_LO_PHASE o) lo.toNat).putOutp o x) where
  phase := rd_wrPhase o lo s
  outp := State.outp_put_self ..
  others _ hj := State.outp_put_ne _ hj.symm x
  regs := s.regsBut_wr (by simp) _
  frame := ⟨_, _, rfl⟩

variable {o lo s} {x : OutSt} {f : Fld}

theorem PhaseCommits.wr (h : PhaseCommits o lo s x f t) (hf : f.key ≠ (Reg.OUT_PHASE_LO_PHASE o).key) (v : Nat) :
    PhaseCommits o lo s x f (t.wr f v) where
  phase := (t.rd_wr_ne hf v).trans h.phase
  outp := h.outp
  others := h.others
  regs := h.regs.trans (t.regsBut_wr (by simp) v)
  frame := by
    obtain ⟨r, y, rfl⟩ := h.frame
    exact ⟨_, _, rfl⟩

theorem PhaseCommits.putOutp (h : PhaseCommits o lo s x f t) (x' : OutSt) : PhaseCommits o lo s x' f (t.putOutp o x') where
  phase := h.phase
  outp := t.outp_put_self ..
  others j hj := (t.outp_put_ne hj.symm x').trans (h.others j hj)
  regs := h.regs
  frame := by
    obtain ⟨r, y, rfl⟩ := h.frame
    exact ⟨_, _, rfl⟩

/-- OUT_ERR follows. -/
theorem PhaseCommits.follows (h : PhaseCommits o lo s x f t) :
    (outErrs t).rd (Reg.OUT_PHASE_LO_PHASE o) = lo.toNat ∧ (outErrs t).outp o = x ∧
    (∀ j, j ≠ o → (outErrs t).outp j = s.outp j) ∧ s.regsBut [Reg.OUT_PHASE_LO_PHASE o, f] (outErrs t) ∧
    outErrs t = { s with regs := (outErrs t).regs, outs := (outErrs t).outs, flt := (outErrs t).flt } := by
  obtain ⟨c, hc⟩ := outErrs_frame t
  obtain ⟨r, y, ht⟩ := h.frame
  refine ⟨(rd_outErrs ..).trans h.phase, (outp_outErrs ..).trans h.outp, fun j hj => (outp_outErrs ..).trans (h.others j hj),
    fun g hg => (rd_outErrs t g).trans (h.regs g hg), ?_⟩
  rw [hc, ht]

end

/-- The phase adjust of output `o` is complete. -/
def phaseReached (o : Nat) (s : State) : State :=
  (s.putOutp o { s.outp o with applied := (s.outp o).phase }).wr (Reg.OUT_STATUS_PHASE_BUSY o) 0

theorem exec_phaseAdjustDone (o : Fin 32) (s : State) :
    exec (.phaseAdjustDone o) s = .next (if s.phaseDone o = true then phaseReached o s else s) := rfl

/-- Settles O25: each command leaves the state named after it. -/
theorem outputs : Obligations.outputs := by
  unfold Obligations.outputs
  intro o src lo sec on s x tgt v others calm moves phase busy miss
  refine ⟨⟨_, rfl, muxSwitch_moves o s⟩,
    fun h => ⟨_, (exec_muxDeadClockSwitch o s).trans (congrArg _ (if_pos h)), muxSwitch_moves o s⟩,
    fun h => (exec_muxDeadClockSwitch o s).trans (congrArg _ (if_neg (by rw [h]; decide))), fun ho hm => ?source, fun ho => ?enable,
    fun ho => ⟨fun hf => ?frozen, fun hf hp => ?pulsing, fun hf hp => ?clock⟩, fun h => ?done, fun h => ?busy, ?pulse⟩
  case source =>
    obtain ⟨c, hout⟩ := outErrs_twice_frame (srcFollowed o src s)
    obtain ⟨r, y, a, c', m, hframe⟩ := srcFollowed_frame o src s
    refine ⟨outErrs (outErrs (srcFollowed o src s)), hostCmd_outCfg ho (doOutSrcWrite_eq hm), ?_, ?_, fun j hj => ?_,
      by rw [hout, hframe]⟩
    · rw [rd_outErrs, rd_outErrs, rd_srcFollowed_src]
      exact Nat.mod_eq_of_lt (src.isLt.trans_eq (by simp))
    · rw [outp_outErrs, outp_outErrs, srcFollowed_outp, srcTaken_moved]
    · rw [outp_outErrs, outp_outErrs, srcFollowed_outp, srcTaken_outp_ne o src s hj]
  case enable =>
    obtain ⟨c, hout⟩ := outErrs_twice_frame (enFollowed o on s)
    obtain ⟨r, y, a, m, hframe⟩ := enFollowed_frame o on s
    refine ⟨outErrs (outErrs (enFollowed o on s)), hostCmd_outCfg ho (doOutEnable_eq o on s), ?_, fun j hj => ?_, ?_, fun h => ?_,
      by rw [hout, hframe]⟩
    · rw [rd_outErrs, rd_outErrs, rd_enFollowed_en o on s o.isLt]
    · rw [outp_outErrs, outp_outErrs, enFollowed_outp, if_neg hj]
    · rw [outp_outErrs, outp_outErrs, enFollowed_outp, if_pos rfl]
      rfl
    · obtain ⟨hregs, haplls⟩ := enFollowed_calm o on s h
      exact ⟨fun f hf => by rw [rd_outErrs, rd_outErrs, hregs f hf], by rw [outErrs_aplls, outErrs_aplls, haplls]⟩
  case frozen =>
    obtain ⟨c, hc⟩ := outErrs_frame (s.wr phase lo.toNat)
    refine ⟨_, exec_outPhaseCommit ho (doOutPhaseCommit_frozen hf), (rd_outErrs ..).trans (rd_wrPhase o lo s), fun f hf => ?_, ?_⟩
    · exact (rd_outErrs ..).trans (s.rd_wr_ne (hf _ (by simp [phase])) _)
    · rw [hc]
      rfl
  case pulsing =>
    have hput := PhaseCommits.put o lo s { x with phase := v, applied := v } miss
    have hcommit := doOutPhaseCommit_pulsing hf hp (lo := lo)
    cases hmiss : s.phaseMisses o lo.toNat with
    | true =>
      rw [if_pos hmiss] at hcommit
      exact ⟨_, exec_outPhaseCommit ho hcommit, (hput.wr (by simp [miss]; omega) _).follows⟩
    | false =>
      rw [if_neg (by rw [hmiss]; decide)] at hcommit
      exact ⟨_, exec_outPhaseCommit ho hcommit, hput.follows⟩
  case clock =>
    classical
    have hput := PhaseCommits.put o lo s { x with phase := v, adjAt := s.up } busy
    have hcommit := doOutPhaseCommit_clock hf hp (lo := lo)
    have hkey : busy.key ≠ phase.key := by simp [busy, phase]; omega
    by_cases hlate : s.phaseLate o (s.phaseWritten o lo.toNat)
    · rw [if_pos hlate] at hcommit
      obtain ⟨hphase, hrecord, hothers, hregs, hframe⟩ := (hput.wr hkey 1).follows
      refine ⟨_, exec_outPhaseCommit ho hcommit, hphase, congrArg OutSt.phase hrecord, congrArg OutSt.adjAt hrecord,
        fun _ => ⟨?_, (congrArg OutSt.applied hrecord :)⟩, fun h => absurd hlate h, hothers, hregs, hframe⟩
      exact (rd_outErrs ..).trans (State.rd_wr_self ..)
    · rw [if_neg hlate] at hcommit
      obtain ⟨hphase, hrecord, hothers, hregs, hframe⟩ :=
        ((hput.putOutp { x with phase := v, adjAt := s.up, applied := v }).wr hkey 0).follows
      refine ⟨_, exec_outPhaseCommit ho hcommit, hphase, congrArg OutSt.phase hrecord, congrArg OutSt.adjAt hrecord,
        fun h => absurd h hlate, fun _ => ⟨?_, (congrArg OutSt.applied hrecord :)⟩, hothers, hregs, hframe⟩
      exact (rd_outErrs ..).trans (State.rd_wr_self ..)
  case done =>
    refine ⟨phaseReached o s, (exec_phaseAdjustDone o s).trans (congrArg _ (if_pos h)), State.rd_wr_self .., s.outp_put_self ..,
      fun j hj => s.outp_put_ne hj.symm _, State.regsBut_wr (s.putOutp o _) (by simp [busy]) 0, rfl⟩
  case busy => exact (exec_phaseAdjustDone o s).trans (congrArg _ (if_neg (by rw [h]; decide)))
  case pulse =>
    exact ⟨fun h hact => ⟨_, exec_pulseInstant_pulses h hact, s.outp_put_self .., fun j hj => s.outp_put_ne hj.symm _, rfl⟩,
      fun h hact => ⟨_, exec_pulseInstant_misses h hact, State.rd_bump_self .., rfl, s.regsBut_wr (by simp [miss]) _⟩,
      exec_pulseInstant_rests⟩

end Sys2Proof.Machine
end

section
/-! Time triggers (O27): a firing that LATE bars is missed, and FIRED stays. -/
namespace Sys2Proof.Machine

variable {g : Fin 32} {s : State}

/-- A missed firing touches no other field than MISSED. -/
theorem rd_trigMiss {g k : Nat} {f : Fld} (hf : (Reg.TG_STATUS_MISSED g).key ≠ f.key) (s : State) :
    (trigMiss g k s).rd f = s.rd f := by
  rw [trigMiss]
  split
  · rfl
  · rw [State.rd_raise, State.rd_bump_ne s hf]

theorem trig_trigMiss (g k : Nat) (s : State) : (trigMiss g k s).trig = s.trig := by
  rw [trigMiss]
  split <;> rfl

/-- The WT that trigger `g`'s timescale reaches in the present tick. -/
def State.trigNext (s : State) (g : Nat) : Nat :=
  let n := s.rd (Reg.TG_CFG_TS g)
  wtOf (tsAdd (s.tscale n).val (s.perTick (s.tsInc n)))

/-- An armed trigger without a period whose T − L has passed, and which may not fire late, misses its firing and disarms
(R237, R239). -/
theorem exec_triggerFire_late (harmed : s.rd (Reg.TG_STATUS_ARMED g) ≠ 0) (hclock : s.timeClocked = true)
    (hreached : 0 < 5 * sdiff (s.trigNext g) (s.trig g).t + s.trigLat5 g)
    (hpassed : 5 * sdiff (s.trig g).t (wtOf (s.tscale (s.rd (Reg.TG_CFG_TS g))).val) < s.trigLat5 g)
    (hlate : s.rd (Reg.TG_CFG_LATE g) ≠ 0) (hperiod : s.rd (Reg.TG_PERIOD_NS g) = 0) :
    exec (.triggerFire g) s = .next (((trigMiss g 1 s).putTrig g (s.trig g)).wr (Reg.TG_STATUS_ARMED g) 0) := by
  have hper : (trigMiss g 1 s).rd (Reg.TG_PERIOD_NS g) * 65536 = 0 := by rw [rd_trigMiss (by simp; omega), hperiod]
  have hruns : ¬((!s.bit (Reg.TG_STATUS_ARMED g)) = true ∨ (!s.timeClocked) = true) := by simp [State.bit_eq, harmed, hclock]
  refine (if_neg hruns).trans ((if_neg (not_le.mpr hreached)).trans ?_)
  rw [if_neg (not_le.mpr hpassed), if_neg hlate]
  simp only [hper, trig_trigMiss, ne_eq, not_true, false_and, if_false, true_or, if_true]

/-- Trigger 7 is armed with T = 0 on a timescale at 0, may not fire late, and holds 65,536 in FIRED, which has 16
bits (R248). -/
def wideFiredState : State :=
  { regs := [((Reg.TG_CFG_LATE 7).key, 1), ((Reg.TG_STATUS_ARMED 7).key, 1), ((Reg.TG_STATUS_FIRED 7).key, 65536)]
    clk := { time := .tb } }

/-- Refutes O27 in the clause on FIRED: `State` allows a field to hold more than its width, and a missed firing leaves FIRED as it
reads, where the clause has it within its 16 bits. -/
theorem not_triggersAndUarts : ¬ Obligations.triggers_and_uarts := by
  unfold Obligations.triggers_and_uarts
  intro ⟨htriggers, _⟩
  obtain ⟨-, -, -, -, hfires, -⟩ := htriggers 7 0 wideFiredState
  have harmed : wideFiredState.rd (Reg.TG_STATUS_ARMED (7 : Fin 32)) ≠ 0 := by decide
  have hclock : wideFiredState.timeClocked = true := by decide
  have hreached : 0 < 5 * sdiff (wideFiredState.trigNext (7 : Fin 32)) (wideFiredState.trig (7 : Fin 32)).t +
      wideFiredState.trigLat5 (7 : Fin 32) := by decide
  obtain ⟨t, ht, hfired, -⟩ := hfires ⟨harmed, hclock, hreached⟩
  have hfits : t.rd (Reg.TG_STATUS_FIRED (7 : Fin 32)) < 2 ^ 16 := hfired.trans_lt (Nat.mod_lt _ (by decide))
  have hmissed := exec_triggerFire_late harmed hclock hreached (by decide) (by decide) (by decide)
  obtain rfl := Host.Outcome.next.inj (ht.symm.trans hmissed)
  rw [State.rd_wr_ne _ (by decide), State.rd_putTrig, rd_trigMiss (by decide)] at hfits
  exact absurd hfits (by decide)

end Sys2Proof.Machine
end

section
/-! The time lessons of E12 and E13 (R233, R242 to R245, R346 to R349): control words, time-of-day labels, the PTP servo and ESMC
(O39). -/
namespace Sys2Proof.Machine

variable {s : State}

/-! ### Control words and ports (R233) -/

/-- The next control word of timescale `k` as E12 commits it (R233). -/
def State.tsControl (s : State) (k kind : Nat) (valid : Bool) (v : Int) : Nat × Nat × Word64 :=
  (12, 0x260 + k, BitVec.ofNat 64 (flagIf valid (2 ^ 63) + (tabGet 0 k s.syl.tsSeq + 1) % 128 * 2 ^ 56 + kind * 2 ^ 54 +
    ofSigned 48 (satInt 48 v)))

@[simp] theorem tsWrite_commits (k : Nat) (valid : Bool) (kind : Nat) (v : Int) (s : State) :
    (tsWrite k valid kind v s).bell.commits = s.bell.commits ++ [s.tsControl k kind valid v] := rfl

@[simp] theorem State.sylPort_put_ne (s : State) {n k : Nat} (h : k ≠ n) (x : SylPort) :
    (s.putSylPort n x).sylPort k = s.sylPort k := tabGet_set_ne _ _ h.symm ..

/-- `t` is `s` but for the record of port `n`, the lessons' other state, the bell and the timers. -/
def State.portOnly (s : State) (n : Nat) (t : State) : Prop :=
  (∀ k, k ≠ n → t.sylPort k = s.sylPort k) ∧ t = { s with syl := t.syl, bell := t.bell, timers := t.timers }

/-- A command that writes a control word of a timescale commits it and leaves the ports as they were. -/
theorem exec_tsWrite {c : Instr} {k kind : Nat} {valid : Bool} {v : Int} (n : Nat)
    (hc : exec c s = .next (tsWrite k valid kind v s)) :
    ∃ t, exec c s = .next t ∧ t.bell.commits = s.bell.commits ++ [s.tsControl k kind valid v] ∧
      t.sylPort n = s.sylPort n ∧ s.portOnly n t :=
  ⟨_, hc, tsWrite_commits .., rfl, fun _ _ => rfl, rfl⟩

theorem portOnly_putSylPort (n : Nat) (x : SylPort) (s : State) : s.portOnly n (s.putSylPort n x) :=
  ⟨fun _ hk => s.sylPort_put_ne hk x, rfl⟩

/-! ### Time-of-day labels (R242 to R245) -/

@[simp] theorem State.todUart_put_self (s : State) (u : Nat) (x : TodUart) : (s.putTodUart u x).todUart u = x :=
  tabGet_set_self ..

@[simp] theorem tsWrite_todUart (k : Nat) (valid : Bool) (kind : Nat) (v : Int) (s : State) :
    (tsWrite k valid kind v s).todUart = s.todUart := rfl

/-- The report of a UART whose record is `x` (R245). -/
def todWord (x : TodUart) : Word64 := BitVec.ofNat 64 (x.steps % 256 * 2 ^ 56 + x.bad % 256 * 2 ^ 48 + x.label % 2 ^ 48)

/-- In `t` the UART `u` has the record `x` and reports it; of the rest of `s` only the lessons' state has changed. -/
def State.todTurns (s : State) (u : Nat) (x : TodUart) (t : State) : Prop :=
  t.todUart u = x ∧ t.bell = { s.bell with commits := s.bell.commits ++ [(12, 0x241 + u, todWord x)] } ∧
    t = { s with syl := t.syl, bell := t.bell }

theorem todTurns_put (u : Nat) (x : TodUart) (s : State) : s.todTurns u x (todReport u (s.putTodUart u x)) := by
  have hput := s.todUart_put_self u x
  exact ⟨hput, by rw [todReport, hput]; rfl, rfl⟩

variable {u k utc value : Nat} {t : Int}

/-- The label of a message that tells the UTC second `utc`, under the binding of timescale `k` (R245). -/
def State.todSecond (s : State) (k utc : Nat) : Nat := ((utc : Int) + (s.tod k).offset).toNat

/-- How far timescale `k`, of value `value` at the edge, is from the label of the edge, in seconds (R245). -/
def State.todOff (s : State) (k utc value : Nat) : Int := (s.todSecond k utc : Int) - roundHalfUp value (10 ^ 9 * 2 ^ 64)

/-- A message that labels the next second with the same d ≠ 0 makes timescale `k` step (R245). -/
def State.todAgain (s : State) (u k utc value : Nat) : Prop :=
  (s.todUart u).d = some (s.todOff k utc value) ∧ s.todSecond k utc = (s.todUart u).label + 1 ∧ s.todOff k utc value ≠ 0

/-- The record of UART `u` after the second of two consecutive labels with the same d ≠ 0 (R245). -/
def State.todStep (s : State) (u k utc : Nat) : TodUart :=
  { s.todUart u with label := s.todSecond k utc, d := none, steps := (s.todUart u).steps + 1 }

/-- Timescale `k` steps by d, and UART `u` reports it (R245). -/
def State.todStepped (s : State) (u k utc value : Nat) (t : State) : Prop :=
  t.todUart u = s.todStep u k utc ∧
    t.bell = { s.bell with commits := s.bell.commits ++
      [s.tsControl k 2 true (s.todOff k utc value), (12, 0x241 + u, todWord (s.todStep u k utc))] } ∧
    tabGet 0 k t.syl.tsSeq = (tabGet 0 k s.syl.tsSeq + 1) % 128 ∧ t = { s with syl := t.syl, bell := t.bell }

theorem todLabel_steps (h : s.todAgain u k utc value) : s.todStepped u k utc value (todLabel u k utc value s) := by
  have hlabel : todLabel u k utc value s =
    todReport u (tsWrite k true 2 (s.todOff k utc value) (s.putTodUart u (s.todStep u k utc))) := if_pos h
  have hput := s.todUart_put_self u (s.todStep u k utc)
  rw [hlabel, todReport, tsWrite_todUart, hput]
  exact ⟨hput, congrArg (fun l => { s.bell with commits := l }) (List.append_assoc ..), tabGet_set_self .., rfl⟩

theorem todLabel_labels (h : ¬s.todAgain u k utc value) :
    s.todTurns u { s.todUart u with label := s.todSecond k utc, d := some (s.todOff k utc value) }
      (todLabel u k utc value s) := by
  have hlabel : todLabel u k utc value s = _ := if_neg h
  rw [hlabel]
  exact todTurns_put ..

variable {b : List (BitVec 8)} {i : Fin 2}

/-- A message on a UART to which no enabled binding leads, or while E12's lessons rest, goes unheard (R242). -/
theorem exec_tod_unbound (b : List (BitVec 8)) (t : Int) (h : s.todOn i = none ∨ s.sylRuns 12 = false) :
    exec (.nmeaSentence i b t) s = .next s ∧ exec (.binaryTodFrame i b t) s = .next s := by
  change execNmeaSentence i b t s = _ ∧ execBinaryTodFrame i b t s = _
  rw [execNmeaSentence, execBinaryTodFrame]
  cases hk : s.todOn i with
  | none => exact ⟨rfl, rfl⟩
  | some k =>
    obtain hnone | hrun := h
    · exact absurd hnone (by rw [hk]; exact Option.some_ne_none k)
    · simp [hrun]

section
variable (hk : s.todOn i = some k) (hrun : s.sylRuns 12 = true)
include hk hrun

theorem exec_nmeaSentence (b : List (BitVec 8)) (t : Int) :
    exec (.nmeaSentence i b t) s = .next (if (s.tod k).binary then s else todMessage i (nmeaMessage b) t k s) := by
  change execNmeaSentence i b t s = _
  simp only [execNmeaSentence, hk, hrun]
  cases (s.tod k).binary <;> rfl

theorem exec_binaryTodFrame (b : List (BitVec 8)) (t : Int) :
    exec (.binaryTodFrame i b t) s = .next (if (s.tod k).binary then todMessage i (binaryMessage b) t k s else s) := by
  change execBinaryTodFrame i b t s = _
  simp only [execBinaryTodFrame, hk, hrun]
  cases (s.tod k).binary <;> rfl

end

section
variable {c : Instr} {m : TodMsg} (hc : exec c s = .next (todMessage u m t k s))
include hc

/-- A message that is rejected, or for which no edge is known, is counted (R245). -/
theorem exec_tod_rejects (hm : m = .reject ∨ ∃ utc, m = .time utc ∧ s.todEdge k t = none) :
    ∃ v, exec c s = .next v ∧ s.todTurns u { s.todUart u with bad := (s.todUart u).bad + 1 } v := by
  refine ⟨todReject u s, hc.trans (congrArg _ ?_), todTurns_put ..⟩
  obtain rfl | ⟨utc, rfl, he⟩ := hm
  · rfl
  · rw [todMessage, he]

/-- A message that tells a time labels the edge, or steps timescale `k` (R245). -/
theorem exec_tod_labels (hm : m = .time utc) (he : s.todEdge k t = some value) :
    (s.todAgain u k utc value → ∃ v, exec c s = .next v ∧ s.todStepped u k utc value v) ∧
    (¬s.todAgain u k utc value → ∃ v, exec c s = .next v ∧
      s.todTurns u { s.todUart u with label := s.todSecond k utc, d := some (s.todOff k utc value) } v) := by
  have hexec : exec c s = .next (todLabel u k utc value s) := by rw [hc, hm, todMessage, he]
  exact ⟨fun h => ⟨_, hexec, todLabel_steps h⟩, fun h => ⟨_, hexec, todLabel_labels h⟩⟩

end

/-! ### The PTP servo (R347 to R349) -/

variable {n : Fin 4} {x : PtpExchange}

/-- The last exchanges of port `n` once `x` has joined them (R348). -/
def State.exchanges (s : State) (n : Nat) (x : PtpExchange) : List (Int × Int) :=
  (exchange x (s.sylPort n).asym :: (s.sylPort n).exch).take 16

/-- The offset that the exchanges of port `n` and `x` give (R348). -/
def State.servoOff (s : State) (n : Nat) (x : PtpExchange) : Int := (shortest (s.exchanges n x)).2

/-- The offsets beyond 100 µs in a row, that of `x` among them (R349). -/
def State.bigOffs (s : State) (n : Nat) (x : PtpExchange) : Nat :=
  if 100000 * 65536 < (s.servoOff n x).natAbs then (s.sylPort n).big + 1 else 0

/-- Does the servo of port `n` take exchanges (R347, R369)? -/
def State.servoTakes (s : State) (n : Nat) : Prop :=
  s.sylRuns 12 = true ∧ (s.sylPort n).enable = true ∧ (s.sylPort n).masterOnly = false ∧
    s.tsFollows (s.sylPort n).ts = false

/-- Does the exchange `x` make a step due (R349)? -/
def State.stepDue (s : State) (n : Nat) (x : PtpExchange) : Bool :=
  ((s.sylPort n).fresh && decide (1000 * 65536 ≤ (s.servoOff n x).natAbs)) || decide (3 ≤ s.bigOffs n x)

theorem stepDue_iff {n : Nat} :
    s.stepDue n x = true ↔
      ((s.sylPort n).fresh = true ∧ 1000 * 65536 ≤ (s.servoOff n x).natAbs) ∨ 3 ≤ s.bigOffs n x := by
  simp [State.stepDue]

/-- The step in progress on port `n`, or the one that `x` makes due (R349). -/
def State.stepAfter (s : State) (n : Nat) (x : PtpExchange) : Option Int :=
  if (s.sylPort n).step.isSome then (s.sylPort n).step else if s.stepDue n x then some (s.servoOff n x) else none

/-- The record of port `n` that has taken the exchange `x`, with no row of large offsets (R348, R349). -/
def State.servoTaken (s : State) (n : Nat) (x : PtpExchange) : SylPort :=
  { s.sylPort n with exch := s.exchanges n x, big := 0, fresh := false, gmClass := x.gmClass }

theorem exec_servoSample_rests (h : ¬s.servoTakes n) : exec (.servoSample n x) s = .next s := by
  have hrests : (!s.sylRuns 12 || !(s.sylPort n).enable || (s.sylPort n).masterOnly || s.tsFollows (s.sylPort n).ts) = true := by
    simpa [State.servoTakes, imp_iff_not_or, or_assoc] using h
  exact congrArg _ (if_pos hrests)

section
variable (h : s.servoTakes n)
include h

theorem exec_servoSample :
    exec (.servoSample n x) s =
      let t := s.putSylPort n { s.servoTaken n x with
        big := if (s.stepAfter n x).isSome then 0 else s.bigOffs n x, step := s.stepAfter n x }
      .next (if (s.stepAfter n x).isSome then t else tsWrite (s.sylPort n).ts true 0 (-s.servoOff n x) t) := by
  obtain ⟨hrun, hen, hmaster, hfollows⟩ := h
  exact congrArg _ (if_neg (by simp [hrun, hen, hmaster, hfollows]))

/-- Where no step is in progress or due, a PHASE sample goes out (R348). -/
theorem exec_servoSample_phase (hstep : (s.sylPort n).step = none) (hdue : s.stepDue n x = false) :
    exec (.servoSample n x) s = .next (tsWrite (s.sylPort n).ts true 0 (-s.servoOff n x)
      (s.putSylPort n { s.servoTaken n x with big := s.bigOffs n x })) := by
  have hafter : s.stepAfter n x = (s.sylPort n).step := by simp [State.stepAfter, hstep, hdue]
  have hno : (s.sylPort n).step.isSome = false := Option.isSome_eq_false_iff.mpr (Option.isNone_iff_eq_none.mpr hstep)
  simp only [exec_servoSample h, hafter, hno, Bool.false_eq_true, if_false]
  rfl

/-- A step that becomes due stands in the port's record (R349). -/
theorem exec_servoSample_due (hstep : (s.sylPort n).step = none) (hdue : s.stepDue n x = true) :
    exec (.servoSample n x) s = .next (s.putSylPort n { s.servoTaken n x with step := some (s.servoOff n x) }) := by
  have hafter : s.stepAfter n x = some (s.servoOff n x) := by simp [State.stepAfter, hstep, hdue]
  simp only [exec_servoSample h, hafter, Option.isSome_some, if_true]
  rfl

/-- While a step is in progress no sample goes out (R349). -/
theorem exec_servoSample_inProgress (hstep : (s.sylPort n).step.isSome = true) :
    exec (.servoSample n x) s = .next (s.putSylPort n (s.servoTaken n x)) := by
  have hafter : s.stepAfter n x = (s.sylPort n).step := if_pos hstep
  simp only [exec_servoSample h, hafter, hstep, if_true]
  rfl

end

/-- The step of port `n` that is in progress goes out in stages (R349). -/
theorem exec_servoStep {off : Int} (hstep : (s.sylPort n).step = some off) (hrun : s.sylRuns 12 = true)
    (hfollows : s.tsFollows (s.sylPort n).ts = false) (stage : Fin 4) :
    exec (.servoStep n stage) s = .next (
      if stage.val = 0 then tsWrite (s.sylPort n).ts false 0 0 s
      else if stage.val = 1 then
        (if (-off).tdiv (10 ^ 9 * 65536) = 0 then s else tsWrite (s.sylPort n).ts false 2 ((-off).tdiv (10 ^ 9 * 65536)) s)
      else if stage.val = 2 then
        (if (-off).tmod (10 ^ 9 * 65536) = 0 then s else tsWrite (s.sylPort n).ts false 1 ((-off).tmod (10 ^ 9 * 65536)) s)
      else s.putSylPort n { s.sylPort n with step := none, exch := [] }) := by
  change execServoStep n stage s = _
  simp only [execServoStep, hstep]
  rw [if_neg (by simp [hrun, hfollows])]

theorem exec_servoStep_rests (stage : Fin 4)
    (h : (s.sylPort n).step = none ∨ s.sylRuns 12 = false ∨ s.tsFollows (s.sylPort n).ts = true) :
    exec (.servoStep n stage) s = .next s := by
  change execServoStep n stage s = _
  cases hstep : (s.sylPort n).step with
  | none => simp only [execServoStep, hstep]
  | some off =>
    have hrest : (!s.sylRuns 12 || s.tsFollows (s.sylPort n).ts) = true := by simpa [hstep] using h
    simp only [execServoStep, hstep, hrest, if_true]

/-! ### ESMC (R346) -/

theorem exec_esmcPduReceived_takes {q : Nat × Nat} (hrun : s.sylRuns 13 = true) (hrx : (s.sylPort n).esmcRx = true)
    (hq : esmcQl b = some q) :
    exec (.esmcPduReceived n b) s = .next ((s.putSylPort n { s.sylPort n with ql := some q }).arm (.esmcIn n)) := by
  change execEsmcPduReceived n b s = _
  simp [execEsmcPduReceived, hrun, hrx, hq]

theorem exec_esmcPduReceived_ignores (h : ¬(s.sylRuns 13 = true ∧ (s.sylPort n).esmcRx = true) ∨ esmcQl b = none) :
    exec (.esmcPduReceived n b) s = .next s := by
  change execEsmcPduReceived n b s = _
  rw [execEsmcPduReceived]
  split
  · rfl
  · next hhears =>
    have hnone : esmcQl b = none := h.resolve_left (by simpa using hhears)
    rw [hnone]

theorem exec_esmcTimeout (n : Fin 4) (s : State) :
    exec (.esmcTimeout n) s = .next (if s.sylRuns 13 = true ∧ s.ran (.esmcIn n) 5000000000 = true then
      s.putSylPort n { s.sylPort n with ql := none } else s) := rfl

theorem exec_esmcInfoSend (n : Fin 4) (s : State) :
    exec (.esmcInfoSend n) s = .next (if s.sylRuns 13 = true ∧ s.ran (.esmcOut n) 1000000000 = true then
      (esmcSend n false s).arm (.esmcOut n) else s) := rfl

/-- A SyncE transmit port sends the QL and keeps the PDU (R346). -/
theorem esmcSend_sends {n : Nat} (event : Bool) (hlock : s.rd (Reg.ETH_SYNCE_TX_LOCK n) ≠ 0)
    (htx : (s.sylPort n).esmcTx = true) :
    esmcSend n event s = { s with free := s.free + 1 }.putSylPort n
      { s.sylPort n with sentQl := some (s.qlToSend n), pdu := s.esmcPdu n (s.qlToSend n) event } :=
  if_neg (by simp [State.bit_eq, hlock, htx])

theorem esmcSend_rests {n : Nat} (event : Bool) (h : ¬(s.rd (Reg.ETH_SYNCE_TX_LOCK n) ≠ 0 ∧ (s.sylPort n).esmcTx = true)) :
    esmcSend n event s = s :=
  if_pos (by simpa [State.bit_eq, imp_iff_not_or] using h)

/-! ### O39 -/

/-- Settles O39: a message is rejected, labels or steps by `exec_tod_rejects` and `exec_tod_labels`; the servo and ESMC by what
each of their commands leaves. -/
theorem timeLessons : Obligations.time_lessons := by
  unfold Obligations.time_lessons
  intro u b time n x s ud p word rejected seq control portOnly quiet off samples big due taken hears silent speaks sends
  refine ⟨exec_tod_unbound b time, fun k hk hrun => ?message, exec_servoSample_rests, fun h hstep hdue => ?phase,
    fun h hstep hdue => ?due, fun h hstep => ?inProgress, fun k h => exec_servoStep_rests k h,
    fun v hstep hrun hfollows => ?stages, fun q ⟨hrun, hrx⟩ hq => ?hears, exec_esmcPduReceived_ignores, fun h => ?silent,
    fun h => ?heard, fun h ⟨hlock, htx⟩ => ?speaks, fun h hsends => ?quiet, fun h => ?waits⟩
  case message =>
    have hnmea := exec_nmeaSentence hk hrun b time
    have hframe := exec_binaryTodFrame hk hrun b time
    have htext := fun hf => hnmea.trans (congrArg _ (if_neg (Bool.eq_false_iff.mp hf)))
    have hbinary := fun hf => hframe.trans (congrArg _ (if_pos hf))
    exact ⟨fun hf => hnmea.trans (congrArg _ (if_pos hf)),
      fun hf => hframe.trans (congrArg _ (if_neg (Bool.eq_false_iff.mp hf))),
      fun hf hm => (hbinary hf).trans (by rw [hm]; rfl),
      fun utc he => ⟨fun hf hm => exec_tod_rejects (htext hf) (.inr ⟨utc, hm, he⟩),
        fun hf hm => exec_tod_rejects (hbinary hf) (.inr ⟨utc, hm, he⟩)⟩,
      fun hf hm => exec_tod_rejects (htext hf) (.inl hm), fun hf hm => (htext hf).trans (by rw [hm]; rfl),
      fun hf hm => exec_tod_rejects (hbinary hf) (.inl hm),
      fun value he utc => ⟨fun hf hm => exec_tod_labels (htext hf) hm he, fun hf hm => exec_tod_labels (hbinary hf) hm he⟩⟩
  case phase =>
    exact ⟨_, exec_servoSample_phase h hstep (Bool.eq_false_iff.mpr (stepDue_iff.not.mpr hdue)), s.sylPort_put_self n _,
      tsWrite_commits .., fun k hk => s.sylPort_put_ne hk _, rfl⟩
  case due =>
    exact ⟨_, exec_servoSample_due h hstep (stepDue_iff.mpr hdue), s.sylPort_put_self n _, rfl, rfl, portOnly_putSylPort ..⟩
  case inProgress =>
    exact ⟨_, exec_servoSample_inProgress h hstep, s.sylPort_put_self n _, rfl, rfl, portOnly_putSylPort ..⟩
  case stages =>
    have hexec := exec_servoStep hstep hrun hfollows
    exact ⟨exec_tsWrite n (hexec 0),
      fun h => exec_tsWrite n ((hexec 1).trans (congrArg _ (if_neg h))), fun h => (hexec 1).trans (congrArg _ (if_pos h)),
      fun h => exec_tsWrite n ((hexec 2).trans (congrArg _ (if_neg h))), fun h => (hexec 2).trans (congrArg _ (if_pos h)),
      ⟨_, hexec 3, s.sylPort_put_self n _, rfl, rfl, portOnly_putSylPort ..⟩⟩
  case hears =>
    exact ⟨_, exec_esmcPduReceived_takes hrun hrx hq, s.sylPort_put_self n _, State.age_arm .., rfl,
      fun k hk => s.sylPort_put_ne hk _, rfl⟩
  case silent =>
    exact ⟨_, (exec_esmcTimeout n s).trans (congrArg _ (if_pos h)), s.sylPort_put_self n _, rfl, rfl, portOnly_putSylPort ..⟩
  case heard => exact (exec_esmcTimeout n s).trans (congrArg _ (if_neg h))
  case speaks =>
    have hexec := (exec_esmcInfoSend n s).trans (congrArg _ (if_pos h))
    rw [esmcSend_sends false hlock htx] at hexec
    exact ⟨_, hexec, State.sylPort_put_self _ n _, State.age_arm .., fun k hk => State.sylPort_put_ne _ hk _, rfl⟩
  case quiet =>
    have hexec := (exec_esmcInfoSend n s).trans (congrArg _ (if_pos h))
    rw [esmcSend_rests false hsends] at hexec
    exact ⟨_, hexec, State.age_arm .., rfl⟩
  case waits => exact (exec_esmcInfoSend n s).trans (congrArg _ (if_neg h))

end Sys2Proof.Machine
end

section
/-! The spares of the TDC array (R262): a TAKE and a RELEASE, accepted or refused, and the end of a comparison. -/
namespace Sys2Proof.Machine

variable {k : Fin 4} {role : Fin 64} {s : State}

/-- A saturated value reads as it was written. -/
theorem State.rdi_wri_satInt (s : State) {f : Fld} (hw : f.width = 32) (d : Int) :
    (s.wri f (satInt 32 d)).rdi f = satInt 32 d := by
  refine s.rdi_wri_self hw ?_ ?_ <;> simp only [satInt, clampInt, intMin, intMax] <;> omega

/-- A write that reaches the command register of spare `k` has its effect alone. -/
theorem hostCmd_spare {f : State → Out} {t : State} (h : s.hostOpen (Reg.TDCG_SPARE_TAKE k).addr) (hf : f s = .next t) :
    hostCmd (Reg.TDCG_SPARE_TAKE k).addr f s = .next t :=
  hostCmd_plain _ f s t h (by simp only [Reg.TDCG_SPARE_TAKE]; omega) (by simp only [Reg.TDCG_SPARE_TAKE]; omega) hf

/-! ### TAKE -/

/-- Spare `k` may take `role`: it is idle, with a valid table, and no other spare holds that role (R262). -/
def State.spareTakes (s : State) (k role : Nat) : Prop :=
  s.spareState k = 0 ∧ s.rd (Reg.TDC_CAL_STATUS_TABLE_VALID (48 + k)) ≠ 0 ∧ role ≤ 47 ∧
    ∀ j < 4, s.spareState j = 0 ∨ s.rd (Reg.TDCG_SPARE_ROLE j) ≠ role

/-- A TAKE is refused. -/
def takeRefused (k : Nat) (s : State) : State := s.wrs [(Reg.TDCG_SPARE_TAKE k, 0), (Reg.TDCG_SPARE_REJ k, 1)]

/-- The input of `role` is connected to spare `k`, whose comparison begins. -/
def takeConnected (k role : Nat) (s : State) : State :=
  spareConnect k role (mirrorBegin k ((s.wr (Reg.TDCG_SPARE_ROLE k) role).putChan (48 + k)
    { s.chan (48 + k) with added := 0, since := 0 }))

/-- A TAKE is accepted. -/
def takeBegun (k role : Nat) (s : State) : State :=
  (takeConnected k role s).wrs [(Reg.TDCG_SPARE_STATE k, 1), (Reg.TDCG_SPARE_TAKE k, 1), (Reg.TDCG_SPARE_REJ k, 0),
    (Reg.TDCG_SPARE_AUTO_TAKEN k, 0), (Reg.TDCG_SPARE_SHORT k, 0)]

theorem spareState_wrRole (k v j : Nat) (s : State) : (s.wr (Reg.TDCG_SPARE_ROLE k) v).spareState j = s.spareState j :=
  s.rd_wr_ne (by simp; omega) v

/-- What an idle spare is refused for, judged once its ROLE is written. -/
theorem takeRefused_iff (k role : Nat) (hidle : s.spareState k = 0) :
    (!(s.wr (Reg.TDCG_SPARE_ROLE k) role).bit (Reg.TDC_CAL_STATUS_TABLE_VALID (48 + k)) ∨ 47 < role ∨
      (List.range 4).any (fun j => decide ((s.wr (Reg.TDCG_SPARE_ROLE k) role).spareState j ≠ 0 ∧
        (s.wr (Reg.TDCG_SPARE_ROLE k) role).spareRole j = role))) ↔ ¬s.spareTakes k role := by
  have htable : (s.wr (Reg.TDCG_SPARE_ROLE k) role).bit (Reg.TDC_CAL_STATUS_TABLE_VALID (48 + k)) =
      s.bit (Reg.TDC_CAL_STATUS_TABLE_VALID (48 + k)) := congrArg (fun v => decide (v ≠ 0)) (s.rd_wr_ne (by simp; omega) role)
  have hrole : ∀ j, (s.spareState j ≠ 0 ∧ (s.wr (Reg.TDCG_SPARE_ROLE k) role).spareRole j = role) ↔
      (s.spareState j ≠ 0 ∧ s.rd (Reg.TDCG_SPARE_ROLE j) = role) := fun j => and_congr_right fun hj => by
    have hne : k ≠ j := fun h => hj (h ▸ hidle)
    rw [State.spareRole, s.rd_wr_ne (by simp; omega)]
  simp only [htable, spareState_wrRole, hrole, State.spareTakes, State.bit_eq, List.any_eq_true, List.mem_range, decide_eq_true_eq,
    Bool.not_eq_true', decide_eq_false_iff_not, not_and_or, not_not, hidle, not_true, false_or, not_le, not_forall, not_or,
    exists_prop]

theorem doSpareTake_takes (h : s.spareTakes k role) : doSpareTake k role s = .next (takeBegun k role s) := by
  have hidle : s.spareState k = 0 := h.1
  refine (if_neg (not_not.mpr hidle)).trans ((if_neg ((takeRefused_iff k role hidle).not.mpr (not_not.mpr h))).trans ?_)
  rfl

theorem doSpareTake_refuses (h : ¬s.spareTakes k role) : doSpareTake k role s = .next (takeRefused k s) ∨
    doSpareTake k role s = .next (takeRefused k (s.wr (Reg.TDCG_SPARE_ROLE k) role)) := by
  by_cases hidle : s.spareState k = 0
  · exact .inr ((if_neg (not_not.mpr hidle)).trans (if_pos ((takeRefused_iff k role hidle).mpr h)))
  · exact .inl (if_pos hidle)

theorem takeRefused_frame (k : Nat) (s : State) : ∃ r, takeRefused k s = { s with regs := r } := State.wrs_frame ..

theorem takeRefused_rd (k : Nat) (s : State) :
    (takeRefused k s).rd (Reg.TDCG_SPARE_REJ k) = 1 ∧ (takeRefused k s).rd (Reg.TDCG_SPARE_TAKE k) = 0 ∧
    (takeRefused k s).spareState k = s.spareState k := by
  unfold takeRefused
  refine ⟨?_, ?_, ?_⟩ <;> simp (disch := (simp <;> omega)) [State.wrs, State.spareState]

theorem takeBegun_frame (k role : Nat) (s : State) : ∃ r x, takeBegun k role s = { s with regs := r, chans := x } := by
  obtain ⟨r, hconnected⟩ : ∃ r, takeConnected k role s = _ := State.wrs_frame ..
  obtain ⟨r', hbegun⟩ : ∃ r, takeBegun k role s = _ := State.wrs_frame ..
  exact ⟨r', _, by rw [hbegun, hconnected]; rfl⟩

theorem takeBegun_rd (k : Fin 4) (role : Fin 64) (s : State) :
    (takeBegun k role s).spareState k = 1 ∧ (takeBegun k role s).spareRole k = role ∧
    (takeBegun k role s).rd (Reg.TDCG_SPARE_REJ k) = 0 ∧ (takeBegun k role s).rd (Reg.TDCG_SPARE_AUTO_TAKEN k) = 0 := by
  unfold takeBegun takeConnected spareConnect
  refine ⟨?_, ?_, ?_, ?_⟩ <;> simp (disch := (simp <;> omega)) [State.wrs, State.spareState, State.spareRole]

/-! ### RELEASE -/

/-- A RELEASE is accepted: the comparison of spare `k` with the channel of its role begins. -/
def releaseBegun (k : Nat) (s : State) : State := (mirrorBegin k s).wrs
  [(Reg.TDCG_SPARE_STATE k, 3), (Reg.TDCG_SPARE_RELEASE k, 1), (Reg.TDCG_SPARE_REJ k, 0), (Reg.TDCG_SPARE_SHORT k, 0)]

theorem doSpareRelease_begins (hactive : s.spareState k = 2) (hok : s.chanOk (s.spareRole k) = true)
    (hidle : s.rd (Reg.TDC_CAL_STATUS_CAL_BUSY (s.spareRole k)) = 0) : doSpareRelease k s = .next (releaseBegun k s) :=
  congrArg Host.Outcome.next (if_neg (by simp [hactive, hok, hidle, State.bit_eq]))

theorem doSpareRelease_refuses (h : s.spareState k ≠ 2 ∨ s.chanOk (s.spareRole k) = false ∨
    s.rd (Reg.TDC_CAL_STATUS_CAL_BUSY (s.spareRole k)) ≠ 0) : doSpareRelease k s = .next (s.wr (Reg.TDCG_SPARE_REJ k) 1) :=
  congrArg Host.Outcome.next (if_pos (by simpa [State.bit_eq] using h))

theorem releaseBegun_frame (k : Nat) (s : State) : ∃ r x, releaseBegun k s = { s with regs := r, chans := x } := by
  obtain ⟨r, h⟩ : ∃ r, releaseBegun k s = _ := State.wrs_frame ..
  exact ⟨r, _, by rw [h]; rfl⟩

theorem releaseBegun_rd (k : Fin 4) (s : State) :
    (releaseBegun k s).spareState k = 3 ∧ (releaseBegun k s).rd (Reg.TDCG_SPARE_REJ k) = 0 := by
  unfold releaseBegun
  refine ⟨?_, ?_⟩ <;> simp (disch := (simp <;> omega)) [State.wrs, State.spareState]

/-! ### The end of a comparison -/

/-- The difference of a TAKE has been shown and goes to spare `k`. -/
def takeMeasured (k : Nat) (d : Int) (s : State) : State :=
  (s.putChan (48 + k) { s.chan (48 + k) with added := d }).wri (Reg.TDCG_MIRROR_DIFF_D k) (satInt 32 d)

theorem takeMeasured_frame (k : Nat) (d : Int) (s : State) :
    ∃ r x, takeMeasured k d s = { s with regs := r, chans := x } := ⟨_, _, rfl⟩

/-- What a spare that serves role `c` from now on leaves. -/
theorem spareServes_serves (k : Fin 4) (c : Nat) (d : Int) (s : State) :
    (spareServes k c d s).spareState k = 2 ∧ (spareServes k c d s).rd (Reg.TDCG_SPARE_TAKE k) = 0 ∧
    (spareServes k c d s).rd (Reg.TDC_CAL_STATUS_REPLACED c) = 1 ∧
    (spareServes k c d s).rd (Reg.TDCG_SPARE_SHORT k) = s.rd (Reg.TDCG_SPARE_SHORT k) := by
  unfold spareServes
  refine ⟨?_, ?_, ?_, ?_⟩ <;> simp (disch := (simp <;> omega)) [State.wrs, State.spareState]

theorem rdi_spareServes (k : Fin 4) (c : Nat) (d : Int) (s : State) :
    (spareServes k c d s).rdi (Reg.TDCG_MIRROR_DIFF_D k) = satInt 32 d := by
  refine Eq.trans (congrArg (toSigned 32) ?_)
    (State.rdi_wri_satInt (s.putChan (48 + k) { s.chan (48 + k) with added := d }) (f := Reg.TDCG_MIRROR_DIFF_D k) rfl d)
  rw [spareServes, State.rd_raise]
  exact State.rd_wrs_ne (takeMeasured k d s) _ (by simp; omega)

theorem spareServes_added (k : Fin 4) (c : Nat) (d : Int) (s : State) : ((spareServes k c d s).chan (48 + k)).added = d := by
  rw [spareServes, State.chan_raise, State.chan_wrs, State.chan_wri, State.chan_put_self]

theorem spareServes_frame (k c : Nat) (d : Int) (s : State) : ∃ r x, spareServes k c d s =
    { s with regs := r, chans := x, flt := { s.flt with inflight := s.flt.inflight ++ [⟨33, c, 0, false⟩] } } := by
  obtain ⟨_, x, hmeasured⟩ := takeMeasured_frame k d s
  obtain ⟨r, hserves⟩ := (takeMeasured k d s).wrs_frame
    [(Reg.TDCG_SPARE_STATE k, 2), (Reg.TDCG_SPARE_TAKE k, 0), (Reg.TDC_CAL_STATUS_REPLACED c, 1)]
  exact ⟨r, x, (congrArg (State.raise · 33 c) hserves).trans (by rw [hmeasured]; rfl)⟩

/-- What a spare that gives its role back leaves. -/
theorem spareReturns_returns (k : Fin 4) (s : State) :
    (spareReturns k s).spareState k = 0 ∧ (spareReturns k s).spareRole k = 0 ∧
    (spareReturns k s).rd (Reg.TDC_CAL_STATUS_REPLACED (s.spareRole k)) = 0 := by
  unfold spareReturns spareIdle
  refine ⟨?_, ?_, ?_⟩ <;> simp (disch := (simp <;> omega)) [State.wrs, State.spareState, State.spareRole]

theorem rdi_spareReturns (k : Fin 4) (s : State) :
    (spareReturns k s).rdi (Reg.TDCG_MIRROR_DIFF_D k) = s.rdi (Reg.TDCG_MIRROR_DIFF_D k) := by
  refine congrArg (toSigned 32) ?_
  rw [spareReturns, State.rd_raise, spareIdle]
  exact (State.rd_wrs_ne _ _ (by simp; omega)).trans (s.rd_wr_ne (by simp; omega) 0)

theorem spareReturns_frame (k : Nat) (s : State) : ∃ r f, spareReturns k s = { s with regs := r, flt := f } := by
  obtain ⟨r, hidle⟩ : ∃ r, spareIdle k (s.wr (Reg.TDC_CAL_STATUS_REPLACED (s.spareRole k)) 0) = _ := State.wrs_frame ..
  exact ⟨r, _, by rw [spareReturns, hidle]; rfl⟩

/-- What the end of a TAKE's comparison with the difference `d` leaves: the spare serves its role. -/
theorem mirrorEnd_served (h : s.spareState k = 1) (d : Int) (short : Bool) :
    (mirrorEnd k d short s).spareState k = 2 ∧ (mirrorEnd k d short s).rd (Reg.TDCG_SPARE_TAKE k) = 0 ∧
    (mirrorEnd k d short s).rd (Reg.TDC_CAL_STATUS_REPLACED (s.spareRole k)) = 1 ∧
    ((mirrorEnd k d short s).chan (48 + k)).added = d ∧
    (mirrorEnd k d short s).rdi (Reg.TDCG_MIRROR_DIFF_D k) = satInt 32 d ∧
    (mirrorEnd k d short s).rd (Reg.TDCG_SPARE_SHORT k) = short.toNat ∧
    (mirrorEnd k d short s).flt.inflight = s.flt.inflight ++ [⟨33, s.spareRole k, 0, false⟩] ∧
    mirrorEnd k d short s = { s with
      regs := (mirrorEnd k d short s).regs, chans := (mirrorEnd k d short s).chans, flt := (mirrorEnd k d short s).flt } := by
  have hend : mirrorEnd k d short s = spareServes k (s.spareRole k) d (s.wrb (Reg.TDCG_SPARE_SHORT k) short) := if_pos h
  rw [hend]
  obtain ⟨hstate, htake, hreplaced, hshort⟩ := spareServes_serves k (s.spareRole k) d (s.wrb (Reg.TDCG_SPARE_SHORT k) short)
  obtain ⟨r, x, hframe⟩ := spareServes_frame k (s.spareRole k) d (s.wrb (Reg.TDCG_SPARE_SHORT k) short)
  refine ⟨hstate, htake, hreplaced, spareServes_added .., rdi_spareServes .., hshort.trans ?_, rfl, by rw [hframe]; rfl⟩
  rw [State.rd_wrb_self]
  exact Nat.mod_eq_of_lt (Bool.toNat_lt short)

/-- The difference of a RELEASE has been shown and goes to the channel of the role. -/
def returnMeasured (k : Nat) (d : Int) (short : Bool) (s : State) : State :=
  ((s.wrb (Reg.TDCG_SPARE_SHORT k) short).wri (Reg.TDCG_MIRROR_DIFF_D k) (satInt 32 d)).putChan (s.spareRole k)
    { s.chan (s.spareRole k) with added := (s.chan (s.spareRole k)).added + d }

theorem spareRole_returnMeasured (k : Nat) (d : Int) (short : Bool) (s : State) :
    (returnMeasured k d short s).spareRole k = s.spareRole k :=
  (State.rd_wri_ne _ (by simp; omega) _).trans (s.rd_wrb_ne (by simp) short)

theorem rdi_returnMeasured (k : Nat) (d : Int) (short : Bool) (s : State) :
    (returnMeasured k d short s).rdi (Reg.TDCG_MIRROR_DIFF_D k) = satInt 32 d :=
  State.rdi_wri_satInt (s.wrb (Reg.TDCG_SPARE_SHORT k) short) rfl d

theorem returnMeasured_frame (k : Nat) (d : Int) (short : Bool) (s : State) :
    ∃ r x, returnMeasured k d short s = { s with regs := r, chans := x } := ⟨_, _, rfl⟩

/-- What the end of a RELEASE's comparison with the difference `d` leaves. -/
theorem mirrorEnd_returned (h : s.spareState k = 3) (d : Int) (short : Bool) :
    (mirrorEnd k d short s).spareState k = 0 ∧ (mirrorEnd k d short s).spareRole k = 0 ∧
    (mirrorEnd k d short s).rd (Reg.TDC_CAL_STATUS_REPLACED (s.spareRole k)) = 0 ∧
    ((mirrorEnd k d short s).chan (s.spareRole k)).added = (s.chan (s.spareRole k)).added + d ∧
    (mirrorEnd k d short s).rdi (Reg.TDCG_MIRROR_DIFF_D k) = satInt 32 d ∧
    mirrorEnd k d short s = { s with
      regs := (mirrorEnd k d short s).regs, chans := (mirrorEnd k d short s).chans, flt := (mirrorEnd k d short s).flt } := by
  have hend : mirrorEnd k d short s = spareReturns k (returnMeasured k d short s) := (if_neg (by rw [h]; decide)).trans (if_pos h)
  rw [hend]
  obtain ⟨r, f, hframe⟩ := spareReturns_frame k (returnMeasured k d short s)
  obtain ⟨r', x, hmeasured⟩ := returnMeasured_frame k d short s
  obtain ⟨hidle, hrole, hreplaced⟩ := spareReturns_returns k (returnMeasured k d short s)
  rw [spareRole_returnMeasured] at hreplaced
  refine ⟨hidle, hrole, hreplaced, ?_, (rdi_spareReturns ..).trans (rdi_returnMeasured ..), by rw [hframe, hmeasured]⟩
  rw [spareReturns, State.chan_raise, spareIdle, State.chan_wrs, State.chan_wr, returnMeasured, State.chan_put_self]

theorem exec_mirrorSwitch_ends (h : s.rd Reg.TDCG_XBAR_CFG_MIRROR_N ≤ (s.chan (48 + k)).mirN) :
    exec (.mirrorSwitch k ()) s = .next (mirrorEnd k (s.mirrorMean k) false s) := congrArg Host.Outcome.next (if_pos h)

/-- 10 s have passed in a comparison without MIRROR_N edges (R262). -/
def State.mirrorLate (s : State) (k : Nat) : Prop :=
  (s.chan (48 + k)).mirN < s.rd Reg.TDCG_XBAR_CFG_MIRROR_N ∧ (s.chan (48 + k)).mirAt + 5000000000 ≤ s.up

theorem mirrorLate_iff (s : State) (k : Nat) : s.mirrorLate k ↔
    (s.chan (48 + k)).mirN < s.rd Reg.TDCG_XBAR_CFG_MIRROR_N ∧ tenSeconds ≤ s.up - (s.chan (48 + k)).mirAt :=
  and_congr_right fun _ => by rw [tenSeconds]; omega

theorem exec_mirrorTimeout_ends (h : s.mirrorLate k) : exec (.mirrorTimeout k () ()) s =
    .next (mirrorEnd k (if (s.chan (48 + k)).mirN < 16 then 0 else s.mirrorMean k) true s) :=
  congrArg Host.Outcome.next (if_pos ((mirrorLate_iff s k).mp h))

theorem exec_mirrorTimeout_early (h : ¬s.mirrorLate k) : exec (.mirrorTimeout k () ()) s = .next s :=
  congrArg Host.Outcome.next (if_neg ((mirrorLate_iff s k).not.mp h))

/-- Settles O20: what a TAKE and a RELEASE leave where they are accepted and where they are refused, and each end of a comparison
by `mirrorEnd_served` and `mirrorEnd_returned`. -/
theorem spares : Obligations.spares := by
  unfold Obligations.spares
  intro k role s c chan x wanted d late diff put timeUp free
  refine ⟨fun ho hfree => ?take, fun ho hfree => ?refused, fun ho hactive hok hidle => ?release, fun ho h => ?kept,
    fun h => ⟨fun hn => ?served, fun hlate => ?servedLate⟩, fun h _ => ⟨fun hn => ?returned, fun hlate => ?returnedLate⟩,
    fun h => congrArg Host.Outcome.next (if_neg (not_le.mpr h)), exec_mirrorTimeout_early⟩
  case take =>
    obtain ⟨hstate, hrole, hrej, hauto⟩ := takeBegun_rd k role s
    obtain ⟨g, y, hframe⟩ := takeBegun_frame k role s
    refine ⟨_, hostCmd_spare ho (doSpareTake_takes hfree), hstate, hrole, hrej, hauto, ?_, by rw [hframe]⟩
    simp [takeBegun, takeConnected, spareConnect, mirrorBegin, chan, x]
  case refused =>
    rcases doSpareTake_refuses hfree with hf | hf
    · obtain ⟨hrej, htake, hstate⟩ := takeRefused_rd k s
      obtain ⟨g, hframe⟩ := takeRefused_frame k s
      exact ⟨_, hostCmd_spare ho hf, hrej, htake, hstate, by rw [hframe], s.regsBut_wrs _ (by simp)⟩
    · obtain ⟨hrej, htake, hstate⟩ := takeRefused_rd k (s.wr (Reg.TDCG_SPARE_ROLE k) role)
      obtain ⟨g, hframe⟩ := takeRefused_frame k (s.wr (Reg.TDCG_SPARE_ROLE k) role)
      exact ⟨_, hostCmd_spare ho hf, hrej, htake, hstate.trans (spareState_wrRole ..), by rw [hframe]; rfl,
        (s.regsBut_wr (by simp) _).trans (State.regsBut_wrs _ _ (by simp))⟩
  case release =>
    obtain ⟨hstate, hrej⟩ := releaseBegun_rd k s
    obtain ⟨g, y, hframe⟩ := releaseBegun_frame k s
    refine ⟨_, hostCmd_spare ho (doSpareRelease_begins hactive hok hidle), hstate, hrej, ?_, fun j hj => ?_,
      State.regsBut_wrs (mirrorBegin k s) _ (by simp), by rw [hframe]⟩
    · exact State.chan_put_self ..
    · exact s.chan_put_ne hj.symm _
  case kept =>
    exact ⟨_, hostCmd_spare ho (doSpareRelease_refuses h), State.rd_wr_self .., rfl, s.regsBut_wr (by simp) 1⟩
  case served => exact ⟨_, exec_mirrorSwitch_ends hn, mirrorEnd_served h ..⟩
  case servedLate =>
    obtain ⟨hstate, -, -, hadded, hdiff, hshort, -, hframe⟩ := mirrorEnd_served h late true
    exact ⟨_, exec_mirrorTimeout_ends hlate, hstate, hadded, hdiff, hshort, hframe⟩
  case returned => exact ⟨_, exec_mirrorSwitch_ends hn, mirrorEnd_returned h ..⟩
  case returnedLate => exact ⟨_, exec_mirrorTimeout_ends hlate, mirrorEnd_returned h ..⟩

end Sys2Proof.Machine
end

section
/-! The event record (R279 to R291): what a FULL ring makes of a record that reaches it, of an anchor that falls due, and of the
record of a source whose turn has come. -/
namespace Sys2Proof.Machine

variable {r c m : Nat} {w0 w1 : Word64} {d : Draft} {s t : State}

/-! ### Two words at WR (R279, R283) -/

theorem State.dramWord_putDram_self (s : State) (i : Nat) (w : Word64) : (putDram i w s).dramWord i = w :=
  tabGet_set_self ..

theorem State.dramWord_putDram_ne (s : State) {i j : Nat} (h : i ≠ j) (w : Word64) :
    (putDram i w s).dramWord j = s.dramWord j := tabGet_set_ne _ _ h ..

/-- The index of the word at WR of ring `r`. -/
def State.wrWord (s : State) (r : Nat) : Nat := ((s.ring r).base + s.rd (Reg.EVR_RING_WR_OFFSET r)) / 8

/-- The place of WR behind a record of two words, which may end the ring. -/
def State.wrBehind (s : State) (r : Nat) : Nat :=
  if (s.ring r).size ≤ s.rd (Reg.EVR_RING_WR_OFFSET r) + 16 then 0 else s.rd (Reg.EVR_RING_WR_OFFSET r) + 16

/-- The words `w0` and `w1` stand at WR of ring `r`, whose record is counted. -/
def recordStored (r : Nat) (w0 w1 : Word64) (s : State) : State :=
  (putDram (s.wrWord r + 1) w1 (putDram (s.wrWord r) w0 s)).putRing r
    { s.ring r with written := (s.ring r).written + 1, full := false }

/-- The words `w0` and `w1` are the next record of ring `r`. -/
def recordWritten (r : Nat) (w0 w1 : Word64) (s : State) : State :=
  ringRegs r (s.wrBehind r) (s.rd (Reg.EVR_RING_RD_OFFSET r)) (recordStored r w0 w1 s)

/-- From `s` to `t` ring `r` has gained the record of the words `w0` and `w1`, and what is no part
of the record path stands. -/
def State.appends (s : State) (r : Nat) (w0 w1 : Word64) (t : State) : Prop :=
  t.dramWord (s.wrWord r) = w0 ∧ t.dramWord (s.wrWord r + 1) = w1 ∧
    (∀ i, i ≠ s.wrWord r → i ≠ s.wrWord r + 1 → t.dramWord i = s.dramWord i) ∧ (t.ring r).written = (s.ring r).written + 1 ∧
    t.rd (Reg.EVR_RING_WR_OFFSET r) = s.wrBehind r % 2 ^ (Reg.EVR_RING_WR_OFFSET r).width ∧
    t.rd (Reg.EVR_RING_DROPPED_COUNT r) = s.rd (Reg.EVR_RING_DROPPED_COUNT r) ∧ (∀ q, q ≠ r → t.ring q = s.ring q) ∧
    t.flt = s.flt ∧ t.eng = s.eng ∧ t.slots = s.slots

theorem recordWritten_ring (r : Nat) (w0 w1 : Word64) (s : State) :
    (recordWritten r w0 w1 s).ring r = { s.ring r with written := (s.ring r).written + 1, full := false } :=
  (State.ring_wrs ..).trans (State.ring_put_self ..)

theorem putDram_frame (i : Nat) (w : Word64) (s : State) : ∃ y, putDram i w s = { s with dram := y } := ⟨_, rfl⟩

theorem recordStored_frame (r : Nat) (w0 w1 : Word64) (s : State) :
    ∃ x y, recordStored r w0 w1 s = { s with rings := x, dram := y } := by
  obtain ⟨y, hfirst⟩ := putDram_frame (s.wrWord r) w0 s
  obtain ⟨y', hsecond⟩ := putDram_frame (s.wrWord r + 1) w1 (putDram (s.wrWord r) w0 s)
  exact ⟨_, y', by rw [recordStored, hsecond, hfirst]; rfl⟩

theorem recordWritten_frame (r : Nat) (w0 w1 : Word64) (s : State) :
    ∃ g x y, recordWritten r w0 w1 s = { s with regs := g, rings := x, dram := y } := by
  obtain ⟨x, y, hstored⟩ := recordStored_frame r w0 w1 s
  obtain ⟨g, hwritten⟩ : ∃ g, recordWritten r w0 w1 s = { recordStored r w0 w1 s with regs := g } := State.wrs_frame ..
  exact ⟨g, x, y, by rw [hwritten, hstored]⟩

theorem recordWritten_roles (r : Nat) (w0 w1 : Word64) (s : State) : (recordWritten r w0 w1 s).roles = s.roles := by
  obtain ⟨_, _, _, hframe⟩ := recordWritten_frame r w0 w1 s
  rw [hframe]

theorem recordWritten_grps (r : Nat) (w0 w1 : Word64) (s : State) : (recordWritten r w0 w1 s).grps = s.grps := by
  obtain ⟨_, _, _, hframe⟩ := recordWritten_frame r w0 w1 s
  rw [hframe]

theorem recordWritten_role (r : Nat) (w0 w1 : Word64) (s : State) (k : Nat) :
    (recordWritten r w0 w1 s).role k = s.role k := by
  rw [State.role, recordWritten_roles, State.role]

theorem recordWritten_grp (r : Nat) (w0 w1 : Word64) (s : State) (k : Nat) : (recordWritten r w0 w1 s).grp k = s.grp k := by
  rw [State.grp, recordWritten_grps, State.grp]

theorem recordWritten_dramWord (r : Nat) (w0 w1 : Word64) (s : State) (i : Nat) :
    (recordWritten r w0 w1 s).dramWord i = (putDram (s.wrWord r + 1) w1 (putDram (s.wrWord r) w0 s)).dramWord i := by
  rw [State.dramWord, recordWritten, ringRegs, State.wrs_dram, recordStored, State.putRing_dram]
  rfl

theorem recordWritten_dropped (r : Nat) (w0 w1 : Word64) (s : State) :
    (recordWritten r w0 w1 s).rd (Reg.EVR_RING_DROPPED_COUNT r) = s.rd (Reg.EVR_RING_DROPPED_COUNT r) := by
  obtain ⟨_, _, hframe⟩ := recordStored_frame r w0 w1 s
  rw [recordWritten, ringRegs, State.rd_wrs_ne _ _ (by simp), hframe, State.rd_upd]

theorem recordWritten_wr (r : Nat) (w0 w1 : Word64) (s : State) :
    (recordWritten r w0 w1 s).rd (Reg.EVR_RING_WR_OFFSET r) = s.wrBehind r % 2 ^ (Reg.EVR_RING_WR_OFFSET r).width :=
  (State.rd_wrs_ne _ [_, _] (by simp)).trans (State.rd_wr_self ..)

theorem recordWritten_appends (r : Nat) (w0 w1 : Word64) (s : State) : s.appends r w0 w1 (recordWritten r w0 w1 s) := by
  obtain ⟨g, x, y, hframe⟩ := recordWritten_frame r w0 w1 s
  refine ⟨?_, ?_, fun i h0 h1 => ?_, by rw [recordWritten_ring], recordWritten_wr .., recordWritten_dropped ..,
    fun q hq => ?_, by rw [hframe], by rw [hframe], by rw [hframe]⟩
  · rw [recordWritten_dramWord, State.dramWord_putDram_ne _ (by omega), State.dramWord_putDram_self]
  · rw [recordWritten_dramWord, State.dramWord_putDram_self]
  · rw [recordWritten_dramWord, State.dramWord_putDram_ne _ h1.symm, State.dramWord_putDram_ne _ h0.symm]
  · rw [recordWritten, ringRegs, State.ring_wrs, recordStored, State.ring_put_ne _ hq.symm]
    rfl

/-- The record path finds `s` and `t` alike, but for the FIFOs of the sources and the turn. -/
def State.alike (s t : State) : Prop :=
  t.regs = s.regs ∧ t.rings = s.rings ∧ t.dram.mem = s.dram.mem ∧ t.flt = s.flt ∧ t.eng = s.eng ∧ t.slots = s.slots

theorem State.alike_putRole (s : State) (c : Nat) (x : RoleSt) : s.alike (s.putRole c x) := ⟨rfl, rfl, rfl, rfl, rfl, rfl⟩

theorem State.alike_putGrp (s : State) (m : Nat) (x : GrpSt) : s.alike (s.putGrp m x) := ⟨rfl, rfl, rfl, rfl, rfl, rfl⟩

theorem State.appends.congr {s' t' : State} (h : s.appends r w0 w1 t) (hs : s.alike s') (ht : t.alike t') :
    s'.appends r w0 w1 t' := by
  obtain ⟨hregs, hrings, hmem, hflt, heng, hslots⟩ := hs
  obtain ⟨hregs', hrings', hmem', hflt', heng', hslots'⟩ := ht
  simp only [State.appends, State.dramWord, State.wrWord, State.wrBehind, State.ring, State.rd, hregs, hrings, hmem, hflt, heng,
    hslots, hregs', hrings', hmem', hflt', heng', hslots']
  exact h

/-- A new record of ring `r` with the same count of records leaves what the ring has gained. -/
theorem State.appends.putRing (h : s.appends r w0 w1 t) {x : RingSt} (hx : x.written = (t.ring r).written) :
    s.appends r w0 w1 (t.putRing r x) := by
  obtain ⟨h0, h1, hwords, hcount, hwr, hdropped, hrings, hrest⟩ := h
  exact ⟨h0, h1, hwords, by rw [State.ring_put_self, hx, hcount], hwr, hdropped,
    fun q hq => (t.ring_put_ne hq.symm x).trans (hrings q hq), hrest⟩

theorem ringAppend_two (hend : s.rd (Reg.EVR_RING_WR_OFFSET r) + 16 ≤ (s.ring r).size) :
    ringAppend r [w0, w1] s = recordWritten r w0 w1 s := by
  have hpad : decide ([w0, w1].length = 2 ∧ (s.ring r).size - s.rd (Reg.EVR_RING_WR_OFFSET r) = 8) = false :=
    decide_eq_false fun h => by omega
  simp only [ringAppend, hpad, Bool.false_eq_true, if_false]
  rfl

/-! ### A record reaches a FULL ring (R283, R289) -/

/-- Ring `r` runs as a FULL ring that refuses, and owes no gap of its own. -/
def State.ringPlain (s : State) (r : Nat) : Prop :=
  (s.ring r).run = true ∧ (s.ring r).compact = false ∧ (s.ring r).overwrite = false ∧ (s.ring r).lost = 0

/-- Ring `r` has room for a record of two words, beside the slot that stays free. -/
def State.ringRoomy (s : State) (r : Nat) : Prop :=
  ringUsed (s.ring r).size (s.rd (Reg.EVR_RING_RD_OFFSET r)) (s.rd (Reg.EVR_RING_WR_OFFSET r)) + 32 ≤ (s.ring r).size ∧
    s.rd (Reg.EVR_RING_WR_OFFSET r) + 16 ≤ (s.ring r).size

section
variable (h : s.ringPlain r) (special : Bool) (d : Draft)
include h

theorem ownGap_plain : (s.ring r).ownGap special = false := by
  obtain ⟨-, -, -, hlost⟩ := h
  simp [RingSt.ownGap, hlost]

theorem midAnchor_plain : (s.ring r).midAnchor special 0 = (false, 0) := by
  simp [RingSt.midAnchor, RingSt.anchorAfter, ownGap_plain h]

theorem words_plain (n : Nat) : (s.ring r).words special d n = [d.word n, BitVec.ofNat 64 d.wt] := by
  obtain ⟨-, hcompact, -⟩ := h
  exact if_pos (by rw [hcompact]; rfl)

theorem ringNeed_plain : s.ringNeed r special d 0 = 16 := by
  have hcompact : (s.ring r).compact = false := h.2.1
  simp [State.ringNeed, midAnchor_plain h, RingSt.behind, words_plain h, hcompact, flagIf]

theorem ringRoom_plain : ringRoom r special d 0 s = (s.ringFits r 16, s) := by
  have hneed := ringNeed_plain h special d
  obtain ⟨-, -, hrefuses, -⟩ := h
  simp [ringRoom, hneed, hrefuses]

theorem ringWrite_roomy (hroom : s.ringRoomy r) (code : Nat) : ringWrite r special d code 0 s =
    (true, recordWritten r (d.word (s.ring r).written) (BitVec.ofNat 64 d.wt) s) := by
  have hfits : s.ringFits r 16 = true := decide_eq_true hroom.1
  rw [← ringAppend_two hroom.2, ← words_plain h special]
  simp [ringWrite, ringRoom_plain h, hfits, ownGap_plain h, gapsPut, ringPut]

theorem ringWrite_full (hfull : (s.ring r).size < ringUsed (s.ring r).size (s.rd (Reg.EVR_RING_RD_OFFSET r))
    (s.rd (Reg.EVR_RING_WR_OFFSET r)) + 32) (code : Nat) : ringWrite r special d code 0 s = (false, ringRefuse r s) := by
  have hfits : s.ringFits r 16 = false := decide_eq_false (not_le.mpr hfull)
  simp [ringWrite, ringRoom_plain h, hfits]

end

/-! ### Anchors (R287) -/

theorem anchors_none (hsteps : (s.ring r).steps = 0) (hindex : s.indexAnchor r = false) : anchors r s = s := by
  simp [anchors, anchorSteps, hsteps, hindex]

/-- The anchor of ring `r` for this moment is its next record. -/
def anchorPut (r : Nat) (step : Bool) (s : State) : State :=
  anchored r (s.ringTime (s.ring r).ts).1 (recordWritten r ((s.anchorDraft r step).word (s.ring r).written)
    (BitVec.ofNat 64 (s.ringTime (s.ring r).ts).1) s)

theorem anchorPut_ring (r : Nat) (step : Bool) (s : State) : (anchorPut r step s).ring r =
    { s.ring r with written := (s.ring r).written + 1, full := false, owed := false, owedStep := false
                    hi := (s.ringTime (s.ring r).ts).1 / 2 ^ 52, anchorWt := (s.ringTime (s.ring r).ts).1 } := by
  rw [anchorPut, anchored, State.ring_put_self, recordWritten_ring]

theorem anchorPut_appends (r : Nat) (step : Bool) (s : State) :
    s.appends r ((s.anchorDraft r step).word (s.ring r).written) (BitVec.ofNat 64 (s.ringTime (s.ring r).ts).1)
      (anchorPut r step s) := (recordWritten_appends ..).putRing rfl

theorem anchorPut_frame (r : Nat) (step : Bool) (s : State) :
    ∃ g x y, anchorPut r step s = { s with regs := g, rings := x, dram := y } := by
  obtain ⟨g, x, y, h⟩ := recordWritten_frame r ((s.anchorDraft r step).word (s.ring r).written)
    (BitVec.ofNat 64 (s.ringTime (s.ring r).ts).1) s
  exact ⟨g, _, y, by rw [anchorPut, anchored, h]; rfl⟩

theorem anchorTry_roomy (h : s.ringPlain r) (hroom : s.ringRoomy r) (step : Bool) :
    anchorTry r step s = anchorPut r (step || (s.ring r).owedStep) s := by
  simp only [anchorTry, ringWrite_roomy h true _ hroom, if_true]
  rfl

theorem anchors_index (h : s.ringPlain r) (hroom : s.ringRoomy r) (hsteps : (s.ring r).steps = 0)
    (hindex : s.indexAnchor r = true) : anchors r s = anchorPut r (s.ring r).owedStep s := by
  simp [anchors, anchorSteps, hsteps, hindex, anchorTry_roomy h hroom]

/-- One step of the ring's timescale is answered. -/
def stepAnswered (r : Nat) (s : State) : State := s.putRing r { s.ring r with steps := 0 }

theorem stepAnswered_ring (r : Nat) (s : State) : (stepAnswered r s).ring r = { s.ring r with steps := 0 } :=
  State.ring_put_self ..

theorem stepAnswered_plain (h : s.ringPlain r) : (stepAnswered r s).ringPlain r := by
  rw [State.ringPlain, stepAnswered_ring]
  exact h

theorem stepAnswered_roomy (h : s.ringRoomy r) : (stepAnswered r s).ringRoomy r := by
  rw [State.ringRoomy, stepAnswered_ring]
  exact h

/-- Right after an anchor whose successor has no index of R287, none is due. -/
theorem indexAnchor_anchorPut (hnext : ((s.ring r).written + 1) % 2 ^ 20 ≠ 0) (step : Bool) :
    (anchorPut r step s).indexAnchor r = false := by
  have htime : ∀ n, (anchorPut r step s).ringTime n = s.ringTime n := by
    obtain ⟨g, x, y, hframe⟩ := anchorPut_frame r step s
    rw [hframe]
    exact fun n => rfl
  simpa [State.indexAnchor, anchorPut_ring, htime] using hnext

theorem anchors_step (h : s.ringPlain r) (hroom : s.ringRoomy r) (hsteps : (s.ring r).steps = 1)
    (hnext : ((s.ring r).written + 1) % 2 ^ 20 ≠ 0) : anchors r s = anchorPut r true (stepAnswered r s) := by
  have hindex : (anchorPut r true (stepAnswered r s)).indexAnchor r = false :=
    indexAnchor_anchorPut (by rw [stepAnswered_ring]; exact hnext) true
  have hsteps' : anchorSteps r (s.ring r).steps s = anchorPut r true (stepAnswered r s) := by
    rw [hsteps]
    exact anchorTry_roomy (stepAnswered_plain h) (stepAnswered_roomy hroom) true
  simp only [anchors, hsteps', hindex, Bool.false_eq_true, if_false]

/-- From `s` to `t` ring `r` has gained its anchor for this moment, for a step where `step`, and none is due or owed. -/
def State.gainsAnchor (s : State) (r : Nat) (step : Bool) (t : State) : Prop :=
  s.appends r (BitVec.ofNat 64 (0x3F * 2 ^ 56 + ((s.ring r).ts + flagIf step 4) % 256 * 2 ^ 48 +
      (s.ring r).written % 65536 * 2 ^ 32 + (s.ringTime (s.ring r).ts).2 % 2 ^ 32))
    (BitVec.ofNat 64 (s.ringTime (s.ring r).ts).1) t ∧
  (t.ring r).anchorWt = (s.ringTime (s.ring r).ts).1 ∧ (t.ring r).steps = 0 ∧ (t.ring r).owed = false ∧
  t.roles = s.roles ∧ t.grps = s.grps

theorem anchorPut_anchors (hsteps : (s.ring r).steps = 0) (step : Bool) : s.gainsAnchor r step (anchorPut r step s) := by
  obtain ⟨g, x, y, hframe⟩ := anchorPut_frame r step s
  exact ⟨anchorPut_appends r step s, by rw [anchorPut_ring], by rw [anchorPut_ring, hsteps], by rw [anchorPut_ring],
    by rw [hframe], by rw [hframe]⟩

theorem State.gainsAnchor.of_stepAnswered (h : (stepAnswered r s).gainsAnchor r true t) : s.gainsAnchor r true t := by
  have hword : (stepAnswered r s).wrWord r = s.wrWord r := by rw [State.wrWord, stepAnswered_ring]; rfl
  have hbehind : (stepAnswered r s).wrBehind r = s.wrBehind r := by rw [State.wrBehind, stepAnswered_ring]; rfl
  have hring : ∀ q, q ≠ r → (stepAnswered r s).ring q = s.ring q := fun q hq => s.ring_put_ne hq.symm _
  rw [State.gainsAnchor, State.appends, hword, hbehind, stepAnswered_ring] at h
  obtain ⟨⟨h0, h1, hwords, hcount, hwr, hdropped, hrings, hrest⟩, hanchor⟩ := h
  exact ⟨⟨h0, h1, hwords, hcount, hwr, hdropped, fun q hq => (hrings q hq).trans (hring q hq), hrest⟩, hanchor⟩

theorem exec_anchorWrite {r : Fin 8} (hrun : (s.ring r).run = true) : exec (.anchorWrite r) s = .next (anchors r s) :=
  congrArg Host.Outcome.next (if_pos hrun)

theorem exec_anchorWrite_none {r : Fin 8} (h : (s.ring r).run = false ∨ ((s.ring r).steps = 0 ∧ s.indexAnchor r = false)) :
    exec (.anchorWrite r) s = .next s := by
  rcases h with hrun | ⟨hsteps, hindex⟩
  · exact congrArg Host.Outcome.next (if_neg (by rw [hrun]; decide))
  · exact congrArg Host.Outcome.next (by rw [anchors_none hsteps hindex, ite_self])

/-! ### The turn of a source (R273) -/

/-- Ring `r` takes a record without a gap or an anchor before it. -/
def State.ringTakes (s : State) (r : Nat) : Prop :=
  s.ringPlain r ∧ (s.ring r).steps = 0 ∧ (s.ring r).owed = false ∧ s.indexAnchor r = false

theorem ringRecord_takes (h : s.ringTakes r) (d : Draft) (code gap : Nat) :
    ringRecord r d code gap s = ringWrite r false d code gap s := by
  obtain ⟨-, hsteps, howed, hindex⟩ := h
  simp [ringRecord, anchors_none hsteps hindex, howed]

/-- The turn of source `i`. -/
def turnOf (i : Nat) (s : State) : State := { s with dram := { s.dram with served := i } }

theorem exec_evrRecordWrite_role {c : Fin 48} (h : s.nextSource = some c.val) :
    exec (.evrRecordWrite (.role c)) s = .next (roleRecord c (turnOf c s)) :=
  congrArg Host.Outcome.next ((if_pos h).trans (if_pos c.isLt))

theorem exec_evrRecordWrite_group {m : Fin 16} (h : s.nextSource = some (48 + m.val)) :
    exec (.evrRecordWrite (.group m)) s = .next (groupRecord m (turnOf (48 + m) s)) := by
  refine congrArg Host.Outcome.next ((if_pos h).trans ((if_neg (not_lt.mpr (Nat.le_add_right ..))).trans ?_))
  rw [Nat.add_sub_cancel_left]
  rfl

/-! ### The record of a role -/

/-- The record of stamp `st` of role `c` (R283). -/
def stampDraft (c : Nat) (st : Stamp) : Draft := { chan := c, flags := st.flags, low := st.sec, wt := st.wt }

theorem roleRing_putRole (s : State) (c k : Nat) (x : RoleSt) : (s.putRole c x).roleRing k = s.roleRing k := rfl

/-- The oldest stamp of role `c` has left its FIFO. -/
def stampTaken (c : Nat) (rest : List Stamp) (s : State) : State := s.putRole c { s.role c with fifo := rest }

section
variable {st : Stamp} {rest : List Stamp} (hfifo : (s.role c).fifo = st :: rest)
include hfifo

theorem roleRecord_ring (hring : s.roleRing c = some r) (h : s.ringTakes r) :
    roleRecord c s =
      let a := ringWrite r false (stampDraft c st) c (s.role c).lostCount (stampTaken c rest s)
      if a.1 then a.2.putRole c { a.2.role c with lostCount := 0 } else a.2 := by
  have htakes : (stampTaken c rest s).ringTakes r := h
  obtain ⟨⟨hrun, hcompact, -⟩, -⟩ := h
  simp only [roleRecord, hfifo, roleRing_putRole, hring, State.ring_putRole, hrun, hcompact, Bool.not_true,
    Bool.false_eq_true, if_false, false_and]
  rw [← ringRecord_takes htakes]
  rfl

theorem roleRecord_lost (h : s.roleRing c = none ∨ ∃ r, s.roleRing c = some r ∧ (s.ring r).run = false) :
    roleRecord c s = stampTaken c rest s := by
  rcases h with hnone | ⟨r, hring, hrun⟩
  · simp only [roleRecord, hfifo, roleRing_putRole, hnone]
    rfl
  · simp only [roleRecord, hfifo, roleRing_putRole, hring, State.ring_putRole, hrun, Bool.not_false, if_true]
    rfl

end

/-! ### The record of a group -/

/-- The record of interval `i` of group `m` (R284). -/
def intervalDraft (m : Nat) (i : IntervalRec) : Draft where
  chan := 0x80 + 8 * m + i.pos
  flags := i.flags % 128 + flagIf (decide (256 ≤ i.flags)) 128
  low := ofSigned 32 (satInt 32 i.x)
  wt := i.wt

theorem groupRing_putGrp (s : State) (m k : Nat) (x : GrpSt) : (s.putGrp m x).groupRing k = s.groupRing k := rfl

/-- The oldest interval of group `m` has left its queue. -/
def intervalTaken (m : Nat) (rest : List IntervalRec) (s : State) : State := s.putGrp m { s.grp m with recs := rest }

theorem groupRecord_ring {i : IntervalRec} {rest : List IntervalRec} (hrecs : (s.grp m).recs = i :: rest)
    (hring : s.groupRing m = some r) (h : s.ringTakes r) :
    groupRecord m s =
      let a := ringWrite r false (intervalDraft m i) (0x80 + 8 * m + i.pos) (tabGet 0 i.pos (s.grp m).posLost)
        (intervalTaken m rest s)
      if a.1 then a.2.putGrp m { a.2.grp m with posLost := tabSet 0 i.pos 0 (a.2.grp m).posLost } else a.2 := by
  have htakes : (intervalTaken m rest s).ringTakes r := h
  obtain ⟨⟨hrun, hcompact, -⟩, -⟩ := h
  simp only [groupRecord, hrecs, groupRing_putGrp, hring, State.ring_putGrp, hrun, hcompact, Bool.not_true, Bool.or_self,
    Bool.false_eq_true, if_false]
  rw [← ringRecord_takes htakes]
  rfl

/-! ### Records of sources, written and refused (R283, R284, R289) -/

/-- The lost record counts, in ring `r` and in DROPPED. -/
def ringCounted (r : Nat) (s : State) : State :=
  (s.putRing r { s.ring r with lost := (s.ring r).lost + 1, full := true }).bump (Reg.EVR_RING_DROPPED_COUNT r)

theorem ringRefuse_eq (r : Nat) (s : State) :
    ringRefuse r s = if (s.ring r).full then ringCounted r s else (ringCounted r s).raise 35 r := rfl

theorem ringRefuse_ring (r : Nat) (s : State) :
    (ringRefuse r s).ring r = { s.ring r with lost := (s.ring r).lost + 1, full := true } := by
  rw [ringRefuse_eq]
  split <;> exact State.ring_put_self ..

theorem ringRefuse_dropped (r : Nat) (s : State) : (ringRefuse r s).rd (Reg.EVR_RING_DROPPED_COUNT r) =
    (s.rd (Reg.EVR_RING_DROPPED_COUNT r) + 1) % 2 ^ (Reg.EVR_RING_DROPPED_COUNT r).width := by
  rw [ringRefuse_eq]
  split <;> exact State.rd_bump_self ..

theorem ringRefuse_regsBut (r : Nat) (s : State) : s.regsBut [Reg.EVR_RING_DROPPED_COUNT r] (ringRefuse r s) := by
  rw [ringRefuse_eq]
  split <;> exact State.regsBut_wr (s.putRing r _) (by simp) _

theorem ringRefuse_flt (r : Nat) (s : State) :
    (ringRefuse r s).flt = if (s.ring r).full then s.flt else (s.raise 35 r).flt := by
  rw [ringRefuse_eq]
  split <;> rfl

theorem ringRefuse_frame (r : Nat) (s : State) : ∃ g x f, ringRefuse r s = { s with regs := g, rings := x, flt := f } := by
  obtain ⟨g, x, hcounted⟩ : ∃ g x, ringCounted r s = { s with regs := g, rings := x } := ⟨_, _, rfl⟩
  rw [ringRefuse_eq, hcounted]
  split <;> exact ⟨_, _, _, rfl⟩

theorem stampDraft_word {c : Nat} (hc : c < 48) (st : Stamp) (n : Nat) : (stampDraft c st).word n =
    BitVec.ofNat 64 (c * 2 ^ 56 + st.flags % 256 * 2 ^ 48 + n % 65536 * 2 ^ 32 + st.sec % 2 ^ 32) := by
  rw [Draft.word, stampDraft, Nat.mod_eq_of_lt (show c < 256 by omega)]

section
variable {c : Fin 48} {st : Stamp} {rest : List Stamp} (hfifo : (s.role c).fifo = st :: rest)
  (hturn : s.nextSource = some c.val) (hring : s.roleRing c = some r) (h : s.ringTakes r) (hlost : (s.role c).lostCount = 0)
include hfifo hturn hring h hlost

theorem exec_roleRecord_writes (hroom : s.ringRoomy r) : ∃ t, exec (.evrRecordWrite (.role c)) s = .next t ∧
    s.appends r (BitVec.ofNat 64 (c.val * 2 ^ 56 + st.flags % 256 * 2 ^ 48 + (s.ring r).written % 65536 * 2 ^ 32 + st.sec % 2 ^ 32))
      (BitVec.ofNat 64 st.wt) t ∧
    (t.role c).fifo = rest ∧ (t.ring r).anchorWt = (s.ring r).anchorWt ∧ t.grps = s.grps := by
  have hwrite := ringWrite_roomy (s := stampTaken c rest (turnOf c s)) h.1 false (stampDraft c st) hroom c
  have happends := recordWritten_appends r ((stampDraft c st).word (s.ring r).written) (BitVec.ofNat 64 st.wt)
    (stampTaken c rest (turnOf c s))
  rw [stampDraft_word c.isLt] at hwrite happends
  have hrecord := roleRecord_ring (s := turnOf c s) hfifo hring h
  rw [show ((turnOf c s).role c).lostCount = 0 from hlost, hwrite] at hrecord
  simp only [if_true] at hrecord
  refine ⟨_, (exec_evrRecordWrite_role hturn).trans (congrArg _ hrecord),
    happends.congr ⟨rfl, rfl, rfl, rfl, rfl, rfl⟩ (State.alike_putRole ..), ?_, ?_, ?_⟩
  · rw [State.role_put_self, recordWritten_role, stampTaken, State.role_put_self]
  · rw [State.ring_putRole, recordWritten_ring]
    rfl
  · rw [State.putRole_grps, recordWritten_grps]
    rfl

theorem exec_roleRecord_refuses (hfull : (s.ring r).size < ringUsed (s.ring r).size (s.rd (Reg.EVR_RING_RD_OFFSET r))
    (s.rd (Reg.EVR_RING_WR_OFFSET r)) + 32) : ∃ t, exec (.evrRecordWrite (.role c)) s = .next t ∧
    t.rd (Reg.EVR_RING_DROPPED_COUNT r) =
      (s.rd (Reg.EVR_RING_DROPPED_COUNT r) + 1) % 2 ^ (Reg.EVR_RING_DROPPED_COUNT r).width ∧
    t.ring r = { s.ring r with lost := 1, full := true } ∧ t.dram = { s.dram with served := c.val } ∧
    ((s.ring r).full = false → t.flt.inflight = s.flt.inflight ++ [⟨35, r, 0, false⟩]) ∧
    ((s.ring r).full = true → t.flt = s.flt) ∧ (t.role c).fifo = rest ∧ s.regsBut [Reg.EVR_RING_DROPPED_COUNT r] t ∧
    t = { s with regs := t.regs, rings := t.rings, roles := t.roles, flt := t.flt, dram := t.dram } := by
  have hrecord := roleRecord_ring (s := turnOf c s) hfifo hring h
  rw [show ((turnOf c s).role c).lostCount = 0 from hlost,
    ringWrite_full (s := stampTaken c rest (turnOf c s)) h.1 false _ hfull] at hrecord
  simp only [Bool.false_eq_true, if_false] at hrecord
  obtain ⟨⟨-, -, -, hnone⟩, -⟩ := h
  have hring' := ringRefuse_ring r (stampTaken c rest (turnOf c s))
  rw [show (stampTaken c rest (turnOf c s)).ring r = s.ring r from rfl, hnone] at hring'
  have hflt := ringRefuse_flt r (stampTaken c rest (turnOf c s))
  rw [show (stampTaken c rest (turnOf c s)).ring r = s.ring r from rfl] at hflt
  obtain ⟨g, y, f, hframe⟩ := ringRefuse_frame r (stampTaken c rest (turnOf c s))
  refine ⟨_, (exec_evrRecordWrite_role hturn).trans (congrArg _ hrecord), ringRefuse_dropped .., hring', ?_, fun hfirst => ?_,
    fun hagain => ?_, ?_, ringRefuse_regsBut r (stampTaken c rest (turnOf c s)), ?_⟩
  · rw [hframe]
    rfl
  · rw [hflt, if_neg (by rw [hfirst]; decide)]
    rfl
  · rw [hflt, if_pos hagain]
    rfl
  · rw [hframe]
    exact congrArg RoleSt.fifo ((turnOf c s).role_put_self c _)
  · rw [hframe]
    rfl

end

theorem exec_groupRecord_writes {m : Fin 16} {i : IntervalRec} {rest : List IntervalRec} (hrecs : (s.grp m).recs = i :: rest)
    (hturn : s.nextSource = some (48 + m.val)) (hring : s.groupRing m = some r) (h : s.ringTakes r)
    (hlost : tabGet 0 i.pos (s.grp m).posLost = 0) (hroom : s.ringRoomy r) : ∃ t, exec (.evrRecordWrite (.group m)) s = .next t ∧
    s.appends r ((intervalDraft m i).word (s.ring r).written) (BitVec.ofNat 64 i.wt) t ∧
    (t.grp m).recs = rest ∧ t.roles = s.roles := by
  have hwrite := ringWrite_roomy (s := intervalTaken m rest (turnOf (48 + m) s)) h.1 false (intervalDraft m i) hroom
    (0x80 + 8 * m + i.pos)
  have happends := recordWritten_appends r ((intervalDraft m i).word (s.ring r).written) (BitVec.ofNat 64 i.wt)
    (intervalTaken m rest (turnOf (48 + m) s))
  have hrecord := groupRecord_ring (s := turnOf (48 + m) s) hrecs hring h
  rw [show tabGet 0 i.pos ((turnOf (48 + m) s).grp m).posLost = 0 from hlost, hwrite] at hrecord
  simp only [if_true] at hrecord
  refine ⟨_, (exec_evrRecordWrite_group hturn).trans (congrArg _ hrecord),
    happends.congr ⟨rfl, rfl, rfl, rfl, rfl, rfl⟩ (State.alike_putGrp ..), ?_, ?_⟩
  · rw [State.grp_put_self, recordWritten_grp, intervalTaken, State.grp_put_self]
  · rw [State.putGrp_roles, recordWritten_roles]
    rfl

end Sys2Proof.Machine
end

section
/-! Streams (R292, R296, R297): what the check of the words of a packet leaves, and the packet of a ring. -/
namespace Sys2Proof.Machine

variable {r : Nat} {s t u : State}

/-! ### Reads of the DRAM (R292) -/

/-- From `s` to `t` words of the DRAM have been read: errors may have been corrected, counted and reported. -/
structure DramChecked (s t : State) : Prop where
  regs : s.regsBut [Reg.EVR_ECC_CORR, Reg.EVR_ECC_UNC, Reg.EVR_ECC_ADDR_ADDR] t
  mem : t.dram.mem = s.dram.mem
  frame : ∃ g y f, t = { s with regs := g, dram := y, flt := f }

theorem DramChecked.refl (s : State) : DramChecked s s := ⟨s.regsBut_refl _, rfl, _, _, _, rfl⟩

theorem DramChecked.trans (h : DramChecked s t) (h' : DramChecked t u) : DramChecked s u := by
  obtain ⟨_, _, _, hst⟩ := h.frame
  obtain ⟨_, _, _, htu⟩ := h'.frame
  exact ⟨h.regs.trans h'.regs, h'.mem.trans h.mem, _, _, _, by rw [htu, hst]⟩

theorem DramChecked.wr (h : DramChecked s t) {f : Fld}
    (hf : f ∈ [Reg.EVR_ECC_CORR, Reg.EVR_ECC_UNC, Reg.EVR_ECC_ADDR_ADDR]) (v : Nat) : DramChecked s (t.wr f v) :=
  h.trans ⟨t.regsBut_wr hf v, rfl, _, _, _, rfl⟩

theorem DramChecked.raise (h : DramChecked s t) (ev inst info : Nat) : DramChecked s (t.raise ev inst info) :=
  h.trans ⟨t.regsBut_refl _, rfl, _, _, _, rfl⟩

theorem DramChecked.dram (s : State) {y : DramSt} (hmem : y.mem = s.dram.mem) : DramChecked s { s with dram := y } :=
  ⟨s.regsBut_refl _, hmem, _, _, _, rfl⟩

theorem dramEcc_ok {i : Nat} {ecc : Ecc} (h : s.dramFinds i ecc = .ok) : dramEcc i ecc s = s := by
  rw [dramEcc, h]

theorem dramEcc_checks (i : Nat) (ecc : Ecc) (s : State) : DramChecked s (dramEcc i ecc s) := by
  unfold dramEcc
  dsimp only
  split
  · exact .refl s
  · exact (DramChecked.dram s (by rfl)).wr (by simp) _
  · exact (((DramChecked.dram s (by rfl)).wr (by simp) _).wr (by simp) _).raise ..

/-- The words of the list are read, each with what `f` tells of its check bits. -/
def dramReads (f : Nat → Ecc) (l : List Nat) (s : State) : State := l.foldl (fun s i => dramEcc i (f i) s) s

theorem dramReads_checks (f : Nat → Ecc) (l : List Nat) (s : State) : DramChecked s (dramReads f l s) := by
  induction l generalizing s with
  | nil => exact .refl s
  | cons i l ih => exact (dramEcc_checks i (f i) s).trans (ih _)

theorem dramReads_clean {f : Nat → Ecc} {l : List Nat} (h : ∀ i ∈ l, s.dramFinds i (f i) = .ok) : dramReads f l s = s := by
  induction l with
  | nil => rfl
  | cons i l ih =>
    have hi : dramEcc i (f i) s = s := dramEcc_ok (h i List.mem_cons_self)
    rw [dramReads, List.foldl_cons, hi]
    exact ih fun j hj => h j (List.mem_cons_of_mem i hj)

/-- The frame of a packet does not tell what its reads have counted. -/
theorem DramChecked.streamFrame (h : DramChecked s t) (n r : Nat) (words : List Word64) (first count : Nat) (bad flush : Bool) :
    t.streamFrame n r words first count bad flush = s.streamFrame n r words first count bad flush := by
  have hrd : ∀ f : Fld, (∀ g ∈ [Reg.EVR_ECC_CORR, Reg.EVR_ECC_UNC, Reg.EVR_ECC_ADDR_ADDR], g.key ≠ f.key) →
      t.rd f = s.rd f := h.regs
  obtain ⟨_, _, _, hframe⟩ := h.frame
  have hport : t.port n = s.port n := by rw [hframe]; rfl
  have hring : t.ring r = s.ring r := by rw [hframe]; rfl
  simp (disch := (simp <;> omega)) only [State.streamFrame, State.ipHeader, hport, hring, hrd]

/-! ### The packet of a ring (R296) -/

/-- The record with which the next packet of ring `r` begins, and its index. -/
def State.streamMark (s : State) (r : Nat) : Nat × Nat :=
  s.startBefore (s.ring r) (s.rd (Reg.EVR_RING_RD_OFFSET r)) ((s.ring r).size / 8) ((s.ring r).mark, (s.ring r).markIdx)

/-- The next packet of ring `r`: its words in the DRAM, the offset behind them and its records. -/
def State.streamPacket (s : State) (r : Nat) : List Nat × Nat × Nat :=
  let room := s.maxLen (s.rd (Reg.EVR_RING_CFG_PORT r)) - 70
  s.takeRecords (s.ring r) (s.rd (Reg.EVR_RING_WR_OFFSET r)) (room / 8) (s.streamMark r).1 room

/-- Ring `r` is streamed over a port whose link is up to a queue that is free, and has records for a packet. -/
def State.streams (s : State) (r : Nat) : Prop :=
  s.rd (Reg.EVR_RING_CFG_STREAM r) ≠ 0 ∧ s.rd (Reg.ETH_STATUS_LINK (s.rd (Reg.EVR_RING_CFG_PORT r))) ≠ 0 ∧
    (s.txq (s.rd (Reg.EVR_RING_CFG_PORT r)) (s.rd (Reg.EVR_RING_CFG_QUEUE r))).stream = none ∧ (s.streamPacket r).1 ≠ []

/-- Does an uncorrectable word stand in the next packet of ring `r`? -/
def State.streamBad (s : State) (r : Nat) (found : List (BitVec 24 × Ecc)) : Bool :=
  (s.streamPacket r).1.any (fun i => decide (s.dramFinds i (eccFound found i) = .double))

/-- The frame goes to queue `q` of port `n`, with the next identifier. -/
def frameQueued (n q : Nat) (data : List (BitVec 8)) (s : State) : State :=
  let s := s.putTxq n q { s.txq n q with stream := some { data := data, buffered := true, stream := true } }
  s.putPort n { s.port n with ipId := ((s.port n).ipId + 1) % 65536 }

theorem frameQueued_stream (n q : Nat) (data : List (BitVec 8)) (s : State) :
    ((frameQueued n q data s).txq n q).stream = some { data := data, buffered := true, stream := true } := by
  rw [frameQueued, State.txq, State.port_put_self, State.putTxq, State.port_put_self, tabGet_set_self]

theorem frameQueued_frame (n q : Nat) (data : List (BitVec 8)) (s : State) :
    ∃ y, frameQueued n q data s = { s with ports := y } := ⟨_, rfl⟩

/-- RD of ring `r` moves past the packet, which is counted. -/
def packetPassed (r : Nat) (x : RingSt) (rd : Nat) (s : State) : State :=
  ((s.putRing r x).wr (Reg.EVR_RING_RD_OFFSET r) rd).bump (Reg.EVR_RING_PKTS_COUNT r)

/-- Ring `r` behind its next packet. -/
def State.ringPassed (s : State) (r : Nat) : RingSt :=
  { s.ring r with seq := ((s.ring r).seq + 1) % 2 ^ 32, mark := (s.streamPacket r).2.1
                  markIdx := (s.streamMark r).2 + (s.streamPacket r).2.2 }

/-- The words of the next packet of ring `r` are read, and its frame goes to the ring's queue. -/
def packetQueued (r : Nat) (flush : Bool) (found : List (BitVec 24 × Ecc)) (s : State) : State :=
  let n := s.rd (Reg.EVR_RING_CFG_PORT r)
  let p := s.streamPacket r
  let u := dramReads (eccFound found) p.1 s
  frameQueued n (s.rd (Reg.EVR_RING_CFG_QUEUE r))
    (u.streamFrame n r (p.1.map s.dramWord) (s.streamMark r).2 p.2.2 (s.streamBad r found) flush) u

/-- The next packet of ring `r` goes out. -/
def packetSent (r : Nat) (flush : Bool) (found : List (BitVec 24 × Ecc)) (s : State) : State :=
  packetPassed r (s.ringPassed r) (s.streamPacket r).2.1 (packetQueued r flush found s)

theorem packetQueued_frame (r : Nat) (flush : Bool) (found : List (BitVec 24 × Ecc)) (s : State) :
    ∃ y, packetQueued r flush found s = { dramReads (eccFound found) (s.streamPacket r).1 s with ports := y } :=
  frameQueued_frame ..

theorem streamSend_sends {flush : Bool} (h : s.streams r)
    (hdue : flush = true ∨ (s.streamPacket r).2.1 ≠ s.rd (Reg.EVR_RING_WR_OFFSET r)) (found : List (BitVec 24 × Ecc)) :
    streamSend r flush found s = packetSent r flush found s := by
  obtain ⟨hstream, hlink, hfree, hsome⟩ := h
  refine (if_neg ?_).trans rfl
  rintro (h | h | h | h | ⟨h, hwr⟩)
  · simp [State.bit_eq, hstream] at h
  · simp [State.bit_eq, hlink] at h
  · simp [hfree] at h
  · exact hsome h
  · exact hdue.elim (fun hf => by simp [hf] at h) fun hne => hne hwr

theorem streamSend_rests {flush : Bool}
    (h : ¬s.streams r ∨ (flush = false ∧ (s.streamPacket r).2.1 = s.rd (Reg.EVR_RING_WR_OFFSET r)))
    (found : List (BitVec 24 × Ecc)) : streamSend r flush found s = s := by
  refine if_pos ?_
  rcases h with h | ⟨rfl, hwr⟩
  · by_contra hc
    simp only [not_or] at hc
    obtain ⟨hstream, hlink, hfree, hsome, -⟩ := hc
    exact h ⟨by simpa [State.bit_eq] using hstream, by simpa [State.bit_eq] using hlink, by simpa using hfree, hsome⟩
  · exact .inr (.inr (.inr (.inr ⟨rfl, hwr⟩)))

section
variable (r : Nat) (flush : Bool) (found : List (BitVec 24 × Ecc)) (s : State)

theorem packetSent_stream :
    ((packetSent r flush found s).txq (s.rd (Reg.EVR_RING_CFG_PORT r)) (s.rd (Reg.EVR_RING_CFG_QUEUE r))).stream = some {
      data := s.streamFrame (s.rd (Reg.EVR_RING_CFG_PORT r)) r ((s.streamPacket r).1.map s.dramWord) (s.streamMark r).2
        (s.streamPacket r).2.2 (s.streamBad r found) flush
      buffered := true, stream := true } := by
  rw [State.txq, packetSent, packetPassed, State.port_bump, State.port_wr, State.port_putRing, ← State.txq, packetQueued,
    (dramReads_checks (eccFound found) (s.streamPacket r).1 s).streamFrame]
  exact frameQueued_stream ..

theorem packetSent_rd : (packetSent r flush found s).rd (Reg.EVR_RING_RD_OFFSET r) =
    (s.streamPacket r).2.1 % 2 ^ (Reg.EVR_RING_RD_OFFSET r).width := by
  rw [packetSent, packetPassed, State.rd_bump_ne _ (by simp), State.rd_wr_self]

theorem packetSent_counts : (packetSent r flush found s).rd (Reg.EVR_RING_PKTS_COUNT r) =
    (s.rd (Reg.EVR_RING_PKTS_COUNT r) + 1) % 2 ^ (Reg.EVR_RING_PKTS_COUNT r).width := by
  obtain ⟨_, hqueued⟩ := packetQueued_frame r flush found s
  have hkept := (dramReads_checks (eccFound found) (s.streamPacket r).1 s).regs (Reg.EVR_RING_PKTS_COUNT r) (by simp; omega)
  rw [packetSent, packetPassed, State.rd_bump_self, State.rd_wr_ne _ (by simp), State.rd_putRing, hqueued, State.rd_upd, hkept]

theorem packetSent_ring : (packetSent r flush found s).ring r = s.ringPassed r := by
  rw [packetSent, packetPassed, State.ring_bump, State.ring_wr, State.ring_put_self]

theorem packetSent_ring_ne {k : Nat} (h : k ≠ r) : (packetSent r flush found s).ring k = s.ring k := by
  obtain ⟨_, hqueued⟩ := packetQueued_frame r flush found s
  obtain ⟨_, _, _, hframe⟩ := (dramReads_checks (eccFound found) (s.streamPacket r).1 s).frame
  rw [packetSent, packetPassed, State.ring_bump, State.ring_wr, State.ring_put_ne _ h.symm, hqueued, hframe]
  rfl

theorem packetSent_mem : (packetSent r flush found s).dram.mem = s.dram.mem := by
  obtain ⟨_, hqueued⟩ := packetQueued_frame r flush found s
  rw [packetSent, packetPassed, State.bump_dram, State.wr_dram, State.putRing_dram, hqueued]
  exact (dramReads_checks ..).mem

theorem packetPassed_regsBut (x : RingSt) (rd : Nat) :
    s.regsBut [Reg.EVR_RING_RD_OFFSET r, Reg.EVR_RING_PKTS_COUNT r] (packetPassed r x rd s) :=
  (State.regsBut_wr (s.putRing r x) (by simp) _).trans (State.regsBut_wr _ (by simp) _)

theorem packetPassed_frame (x : RingSt) (rd : Nat) :
    ∃ g y, packetPassed r x rd s = { s with regs := g, rings := y } := ⟨_, _, rfl⟩

variable {found s}

/-- A packet without errors in its words changes its ring, its port and the registers of its ring alone. -/
theorem packetSent_clean (h : ∀ i ∈ (s.streamPacket r).1, s.dramFinds i (eccFound found i) = .ok) :
    s.regsBut [Reg.EVR_RING_RD_OFFSET r, Reg.EVR_RING_PKTS_COUNT r] (packetSent r flush found s) ∧
    packetSent r flush found s = { s with
      regs := (packetSent r flush found s).regs, rings := (packetSent r flush found s).rings
      ports := (packetSent r flush found s).ports } := by
  obtain ⟨y, hqueued⟩ : ∃ y, packetQueued r flush found s = { s with ports := y } := by
    rw [packetQueued, dramReads_clean h]
    exact frameQueued_frame ..
  obtain ⟨g, x, hpassed⟩ := packetPassed_frame r (packetQueued r flush found s) (s.ringPassed r) (s.streamPacket r).2.1
  have hregs : (packetQueued r flush found s).regs = s.regs := by rw [hqueued]
  refine ⟨(State.regsBut_of_regs_eq hregs _).trans (packetPassed_regsBut r _ _ _), ?_⟩
  rw [packetSent, hpassed, hqueued]

end

/-- From `s` to `t` the next packet of ring `r` has gone to its queue, as a flush where `flush`. -/
def State.sends (s : State) (r : Nat) (flush : Bool) (found : List (BitVec 24 × Ecc)) (t : State) : Prop :=
  (t.txq (s.rd (Reg.EVR_RING_CFG_PORT r)) (s.rd (Reg.EVR_RING_CFG_QUEUE r))).stream = some {
    data := s.streamFrame (s.rd (Reg.EVR_RING_CFG_PORT r)) r ((s.streamPacket r).1.map s.dramWord) (s.streamMark r).2
      (s.streamPacket r).2.2 (s.streamBad r found) flush
    buffered := true, stream := true } ∧
  t.rd (Reg.EVR_RING_RD_OFFSET r) = (s.streamPacket r).2.1 % 2 ^ (Reg.EVR_RING_RD_OFFSET r).width ∧
  t.rd (Reg.EVR_RING_PKTS_COUNT r) = (s.rd (Reg.EVR_RING_PKTS_COUNT r) + 1) % 2 ^ (Reg.EVR_RING_PKTS_COUNT r).width ∧
  t.ring r = s.ringPassed r ∧ (∀ k, k ≠ r → t.ring k = s.ring k) ∧ t.dram.mem = s.dram.mem ∧
  ((∀ i ∈ (s.streamPacket r).1, s.dramFinds i (eccFound found i) = .ok) →
    s.regsBut [Reg.EVR_RING_RD_OFFSET r, Reg.EVR_RING_PKTS_COUNT r] t ∧
      t = { s with regs := t.regs, rings := t.rings, ports := t.ports })

theorem packetSent_sends (r : Nat) (flush : Bool) (found : List (BitVec 24 × Ecc)) (s : State) :
    s.sends r flush found (packetSent r flush found s) :=
  ⟨packetSent_stream .., packetSent_rd .., packetSent_counts .., packetSent_ring ..,
    fun _ => packetSent_ring_ne r flush found s, packetSent_mem .., packetSent_clean r flush⟩

/-! ### O29 -/

/-- Settles O29: the record of a source by `exec_roleRecord_writes`, `exec_roleRecord_refuses` and `exec_groupRecord_writes`, an
anchor by `anchorPut_anchors`, and a packet by `packetSent_sends`. -/
theorem recordsAndStreams : Obligations.records_and_streams := by
  unfold Obligations.records_and_streams
  refine ⟨fun c m r s => ?records, fun r found s => ?packets⟩
  case records =>
    intro x wr rd at' dropped full takes room written time anchorOf
    refine ⟨fun st rest hfifo hturn hring htakes hlost hroom => ?stamp,
      fun st rest hfifo hturn hring htakes hlost hfull => ?refused,
      fun st rest hfifo hturn hring => ?unrecorded, fun h => congrArg Host.Outcome.next (if_neg h),
      fun h => congrArg Host.Outcome.next (if_neg h), fun i rest hrecs hturn hring htakes hlost hroom => ?interval,
      fun hplain hsteps hindex hroom => ?index, fun hplain hsteps hnext hroom => ?step, exec_anchorWrite_none⟩
    case stamp => exact exec_roleRecord_writes hfifo hturn hring htakes hlost hroom
    case refused => exact exec_roleRecord_refuses hfifo hturn hring htakes hlost hfull
    case unrecorded =>
      have hlost := roleRecord_lost (s := turnOf c s) hfifo (hring.imp id fun h => ⟨r, h⟩)
      exact ⟨_, (exec_evrRecordWrite_role hturn).trans (congrArg _ hlost), State.role_put_self ..,
        fun k hk => State.role_put_ne _ hk.symm _, rfl⟩
    case interval =>
      obtain ⟨t, hexec, ⟨h0, h1, -, hcount, -, -, -, hflt, heng, -⟩, hrest, hroles⟩ :=
        exec_groupRecord_writes hrecs hturn hring htakes hlost hroom
      exact ⟨t, hexec, hrest, h1, hcount, h0, hroles, hflt, heng⟩
    case index =>
      exact ⟨_, (exec_anchorWrite hplain.1).trans (congrArg _ (anchors_index hplain hroom hsteps hindex)),
        anchorPut_anchors hsteps _⟩
    case step =>
      exact ⟨_, (exec_anchorWrite hplain.1).trans (congrArg _ (anchors_step hplain hroom hsteps hnext)),
        (anchorPut_anchors (by rw [stepAnswered_ring]) true).of_stepAnswered⟩
  case packets =>
    exact ⟨fun h hdue => ⟨_, congrArg Host.Outcome.next (streamSend_sends h (.inr hdue) found), packetSent_sends ..⟩,
      fun h => ⟨_, congrArg Host.Outcome.next (streamSend_sends h (.inl rfl) found), packetSent_sends ..⟩,
      fun h => congrArg Host.Outcome.next (streamSend_rests (h.imp id fun hwr => ⟨rfl, hwr⟩) found),
      fun h => congrArg Host.Outcome.next (streamSend_rests (.inl h) found)⟩

end Sys2Proof.Machine
end

section
/-! The DRAM (R279, R292, R293, R295): its zeroing, the check of a word that is read, a row that takes a spare, and reads through
BAR2. -/
namespace Sys2Proof.Machine

variable {i row : Nat} {ecc : Ecc} {s : State}

/-! ### The zeroing (R293, R478) -/

/-- A zeroing of the DRAM ends: the system PLL has locked, READY reads 0, and no test of the DRAM runs. -/
def State.dramInits (s : State) : Prop :=
  s.sysLocked = true ∧ s.rd Reg.EVR_STATUS_READY = 0 ∧ s.bist.map Prod.fst ≠ some 4

theorem dramInits_iff (s : State) :
    (s.sysLocked && !s.bit Reg.EVR_STATUS_READY && !decide (s.bist.map Prod.fst = some 4)) = true ↔ s.dramInits := by
  simp [State.dramInits, State.bit_eq, and_assoc]

theorem exec_dramInit_ends (h : s.dramInits) :
    exec .dramInitComplete s = .next ((zeroDram s).wr Reg.EVR_STATUS_READY 1) :=
  congrArg Host.Outcome.next (if_pos ((dramInits_iff s).mpr h))

theorem exec_dramInit_rests (h : ¬s.dramInits) : exec .dramInitComplete s = .next s :=
  congrArg Host.Outcome.next (if_neg ((dramInits_iff s).not.mpr h))

/-! ### The check of a word (R292) -/

/-- The corrected errors of the row of word `i` within the 24 h before now. -/
def State.rowErrs (s : State) (i : Nat) : List Nat :=
  (tabGet [] (Config.dramRow i) s.dram.errs).filter (fun t => decide (s.up < t + 43200000000000))

/-- The DRAM with one more corrected error in the row of word `i`, whose fourth within 24 h makes the row due. -/
def State.dramCorrected (s : State) (i : Nat) : DramSt := { s.dram with
  errs := tabSet [] (Config.dramRow i) (s.rowErrs i ++ [s.up]) s.dram.errs
  due := if 3 ≤ (s.rowErrs i).length ∧ Config.dramRow i ∉ s.dram.due then s.dram.due ++ [Config.dramRow i] else s.dram.due }

theorem dramEcc_single (h : s.dramFinds i ecc = .single) :
    dramEcc i ecc s = { s with dram := s.dramCorrected i }.bumpSat Reg.EVR_ECC_CORR := by
  have hfourth : ∀ l : List Nat, 4 ≤ (l ++ [s.up]).length ↔ 3 ≤ l.length := fun l => by
    rw [List.length_append, List.length_singleton]; omega
  simp only [dramEcc, h, dayTicks, hfourth]
  rfl

/-- The DRAM with word `i` found uncorrectable: the word is poisoned and its row due. -/
def State.dramSpoilt (s : State) (i : Nat) : DramSt := { s.dram with
  due := if Config.dramRow i ∈ s.dram.due then s.dram.due else s.dram.due ++ [Config.dramRow i]
  poison := if i ∈ s.dram.poison then s.dram.poison else s.dram.poison ++ [i] }

/-- Word `i` has been found uncorrectable, reported and counted. -/
def dramReported (i : Nat) (s : State) : State :=
  (({ s with dram := s.dramSpoilt i }.wr Reg.EVR_ECC_ADDR_ADDR (8 * i)).bumpSat Reg.EVR_ECC_UNC).raise 11 noInst i

theorem dramEcc_double (h : s.dramFinds i ecc = .double) : dramEcc i ecc s = dramReported i s := by
  rw [dramEcc, h]
  rfl

/-- A counter that saturates holds what its field can. -/
theorem State.rd_bumpSat (s : State) (f : Fld) : (s.bumpSat f).rd f = min (s.rd f + 1) (2 ^ f.width - 1) :=
  (s.rd_bumpSat_self f 1).trans (Nat.mod_eq_of_lt (by have := Nat.two_pow_pos f.width; omega))

/-- A list holds what has been put behind it where it was missing. -/
theorem mem_putMissing {α : Type} [DecidableEq α] (a : α) (l : List α) : a ∈ if a ∈ l then l else l ++ [a] := by
  split
  case isTrue h => exact h
  case isFalse => exact List.mem_append_right l (List.mem_singleton_self a)

theorem dramSpoilt_due (i : Nat) (s : State) : Config.dramRow i ∈ (s.dramSpoilt i).due := mem_putMissing ..

theorem dramSpoilt_poison (i : Nat) (s : State) : i ∈ (s.dramSpoilt i).poison := mem_putMissing ..

theorem dramReported_regsBut (i : Nat) (s : State) :
    s.regsBut [Reg.EVR_ECC_UNC, Reg.EVR_ECC_ADDR_ADDR] (dramReported i s) :=
  (State.regsBut_wr { s with dram := s.dramSpoilt i } (by simp) _).trans (State.regsBut_wr _ (by simp) _)

theorem dramReported_unc (i : Nat) (s : State) :
    (dramReported i s).rd Reg.EVR_ECC_UNC = min (s.rd Reg.EVR_ECC_UNC + 1) (2 ^ Reg.EVR_ECC_UNC.width - 1) := by
  rw [dramReported, State.rd_raise, State.rd_bumpSat, State.rd_wr_ne _ (by simp), State.rd_upd]

theorem dramReported_addr (i : Nat) (s : State) :
    (dramReported i s).rd Reg.EVR_ECC_ADDR_ADDR = 8 * i % 2 ^ Reg.EVR_ECC_ADDR_ADDR.width := by
  rw [dramReported, State.rd_raise, State.rd_bumpSat_ne _ (by simp), State.rd_wr_self]

theorem dramEcc_replaced (i : Nat) (ecc : Ecc) (s : State) : (dramEcc i ecc s).dram.replaced = s.dram.replaced := by
  unfold dramEcc
  dsimp only
  split <;> rfl

/-! ### A row takes a spare (R292, R480) -/

theorem replaceRow_dram (row : Nat) (s : State) : (replaceRow row s).dram = { s.dram with
    replaced := s.dram.replaced ++ [row], due := s.dram.due.filter (fun r => r != row), errs := tabErase row s.dram.errs } := by
  rw [replaceRow]
  split <;> rfl

theorem replaceRow_frame (row : Nat) (s : State) :
    ∃ y j c, replaceRow row s = { s with dram := y, jnl := j, commons := c } := by
  rw [replaceRow]
  split <;> exact ⟨_, _, _, rfl⟩

/-- Word `i` has been visited, and its row has taken a spare. -/
def rowSpared (i : Nat) (ecc : Ecc) (s : State) : State := replaceRow (Config.dramRow i) (dramEcc i ecc s)

theorem rowSpared_frame (i : Nat) (ecc : Ecc) (s : State) :
    ∃ g y f j c, rowSpared i ecc s = { s with regs := g, dram := y, flt := f, jnl := j, commons := c } := by
  obtain ⟨y, j, c, hreplaced⟩ := replaceRow_frame (Config.dramRow i) (dramEcc i ecc s)
  obtain ⟨g, y', f, hchecked⟩ := (dramEcc_checks i ecc s).frame
  exact ⟨g, y, f, j, c, by rw [rowSpared, hreplaced, hchecked]⟩

theorem rowSpared_leaves (i : Nat) (ecc : Ecc) (s : State) :
    (rowSpared i ecc s).dram.replaced = s.dram.replaced ++ [Config.dramRow i] ∧
    Config.dramRow i ∉ (rowSpared i ecc s).dram.due ∧ (rowSpared i ecc s).dram.mem = s.dram.mem ∧
    (rowSpared i ecc s).rings = s.rings ∧ (rowSpared i ecc s).eng = s.eng ∧ (rowSpared i ecc s).slots = s.slots := by
  have hdram := replaceRow_dram (Config.dramRow i) (dramEcc i ecc s)
  rw [← rowSpared] at hdram
  obtain ⟨g, y, f, j, c, hframe⟩ := rowSpared_frame i ecc s
  refine ⟨?_, ?_, ?_, by rw [hframe], by rw [hframe], by rw [hframe]⟩
  · rw [hdram, dramEcc_replaced]
  · simp [hdram]
  · rw [hdram]
    exact (dramEcc_checks i ecc s).mem

/-! ### The scrubber (R292) -/

/-- The scrubber runs. -/
def State.scrubs (s : State) : Prop := s.rd Reg.EVR_CTRL_SCRUB_EN ≠ 0 ∧ s.rd Reg.EVR_STATUS_READY ≠ 0

/-- Row `row` is due, and a spare row is left. -/
def State.rowReplaces (s : State) (row : Nat) : Prop := row ∈ s.dram.due ∧ s.rowSpare = true

theorem scrubs_iff (s : State) :
    ¬((!s.bit Reg.EVR_CTRL_SCRUB_EN) = true ∨ (!s.bit Reg.EVR_STATUS_READY) = true) ↔ s.scrubs := by
  simp [State.scrubs, State.bit_eq]

theorem rowReplaces_iff (s : State) (row : Nat) : (s.dram.due.contains row && s.rowSpare) = true ↔ s.rowReplaces row := by
  simp [State.rowReplaces]

section
variable {word : BitVec 24}

theorem exec_dramScrub_off (h : ¬s.scrubs) : exec (.dramScrub word ecc) s = .next s :=
  congrArg Host.Outcome.next (if_pos (not_not.mp ((scrubs_iff s).not.mpr h)))

theorem exec_dramScrub_replaces (h : s.scrubs) (hrow : s.rowReplaces (Config.dramRow word.toNat)) :
    exec (.dramScrub word ecc) s = .next (rowSpared word.toNat ecc s) :=
  congrArg Host.Outcome.next ((if_neg ((scrubs_iff s).mpr h)).trans (if_pos ((rowReplaces_iff s _).mpr hrow)))

theorem exec_dramScrub_checks (h : s.scrubs) (hrow : ¬s.rowReplaces (Config.dramRow word.toNat)) :
    exec (.dramScrub word ecc) s = .next (dramEcc word.toNat ecc s) :=
  congrArg Host.Outcome.next ((if_neg ((scrubs_iff s).mpr h)).trans (if_neg ((rowReplaces_iff s _).not.mpr hrow)))

end

/-! ### Reads through BAR2 (R295) -/

/-- The DRAM answers reads through BAR2: READY reads 1, and its island can be reached. -/
def State.bar2Answers (s : State) : Prop := s.rd Reg.EVR_STATUS_READY ≠ 0 ∧ s.reachable 25 = true

/-- The words of a read of `w` at `addr`: the half at `addr` where `dword`, else both. -/
def bar2Parts (addr : BitVec 27) (dword : Bool) (w : Word64) : List Word32 :=
  if dword = false then [w.extractLsb' 0 32, w.extractLsb' 32 32]
  else [if addr.toNat / 4 % 2 = 0 then w.extractLsb' 0 32 else w.extractLsb' 32 32]

theorem bar2Parts_eq (addr : BitVec 27) (dword : Bool) (w : Word64) :
    (if dword then [if addr.toNat / 4 % 2 = 0 then w.truncate 32 else (w >>> 32).truncate 32]
      else [w.truncate 32, (w >>> 32).truncate 32]) = bar2Parts addr dword w := by
  have hlow : w.truncate 32 = w.extractLsb' 0 32 := by rw [BitVec.truncate_eq_setWidth, BitVec.setWidth_eq_extractLsb' (by decide)]
  have hhigh : (w >>> 32).truncate 32 = w.extractLsb' 32 32 := by
    apply BitVec.eq_of_toNat_eq
    simp
  rw [hlow, hhigh, bar2Parts]
  cases dword <;> rfl

section
variable {addr : BitVec 27} {dword : Bool}

theorem bar2Answers_iff (s : State) :
    ¬((!s.bit Reg.EVR_STATUS_READY) = true ∨ (!s.reachable 25) = true) ↔ s.bar2Answers := by
  simp [State.bar2Answers, State.bit_eq]

theorem exec_bar2Read_down (h : s.pcieUp = false) : exec (.bar2Read addr dword ecc) s = .next s :=
  if_pos (by rw [h]; rfl)

section
variable (hup : s.pcieUp = true)
include hup

theorem exec_bar2Read_free (h : ¬s.bar2Answers) :
    ∃ l, exec (.bar2Read addr dword ecc) s = .next { s with hostRead := l, free := s.free + 1 } :=
  ⟨_, (if_neg (by rw [hup]; decide)).trans (if_pos (not_not.mp ((bar2Answers_iff s).not.mpr h)))⟩

theorem exec_bar2Read_poisons (h : s.bar2Answers) (hfinds : s.dramFinds (addr.toNat / 8) ecc = .double) :
    ∃ l, exec (.bar2Read addr dword ecc) s = .next { dramReported (addr.toNat / 8) { s with free := s.free + 1 } with
      hostRead := l, host := { s.host with poison := true } } := by
  have hfinds' : s.takeFree.2.dramFinds (addr.toNat / 8) ecc = .double := hfinds
  refine ⟨bar2Parts addr dword (BitVec.ofNat 64 s.takeFree.1),
    (if_neg (by rw [hup]; decide)).trans ((if_neg ((bar2Answers_iff s).mpr h)).trans ((if_pos hfinds).trans ?_))⟩
  rw [dramEcc_double hfinds', ← bar2Parts_eq]
  rfl

theorem exec_bar2Read_answers (h : s.bar2Answers) (hfinds : s.dramFinds (addr.toNat / 8) ecc ≠ .double) :
    exec (.bar2Read addr dword ecc) s = .next { dramEcc (addr.toNat / 8) ecc s with
      hostRead := bar2Parts addr dword (s.dramWord (addr.toNat / 8)), host := { s.host with poison := false } } := by
  refine (if_neg (by rw [hup]; decide)).trans ((if_neg ((bar2Answers_iff s).mpr h)).trans ((if_neg hfinds).trans ?_))
  obtain ⟨g, y, f, hframe⟩ := (dramEcc_checks (addr.toNat / 8) ecc s).frame
  rw [hframe, ← bar2Parts_eq]

end

end

end Sys2Proof.Machine
end

section
/-! The commands of a ring (R280, R291, R300): a rise and a clearing of EN, READY for a ring that waits, and a write of RD. -/
namespace Sys2Proof.Machine

variable {r : Nat} {x : RingSt} {s t : State}

/-- A write that reaches a register of the event record has its effect alone. -/
theorem hostCmd_record {f : State → Out} {base n : Nat} (hbase : 0x3E000 ≤ base) (h : s.hostOpen (base + n))
    (hf : f s = .next t) : hostCmd (base + n) f s = .next t :=
  hostCmd_plain _ f s t h (by omega) (by omega) hf

/-! ### A rise of EN (R280, R405) -/

/-- The record of ring `r` as its configuration reads. -/
def State.ringConfig (s : State) (r : Nat) : RingSt where
  base := s.rd (Reg.EVR_RING_BASE_UNITS r) * 65536
  size := s.rd (Reg.EVR_RING_SIZE_UNITS r) * 65536
  compact := s.bit (Reg.EVR_RING_CFG_FORMAT r)
  overwrite := s.bit (Reg.EVR_RING_CFG_POLICY r)
  ts := s.rd (Reg.EVR_RING_CFG_TS r)
  lost := (s.ring r).lost

/-- Rings may start: READY reads 1, and no mismatch stands in the block. -/
def State.ringsStart (s : State) : Prop := s.rd Reg.EVR_STATUS_READY ≠ 0 ∧ s.parityIn 0x3E000 0x180 = false

theorem ringsStart_iff (s : State) : (s.bit Reg.EVR_STATUS_READY && !s.parityIn 0x3E000 0x180) = true ↔ s.ringsStart := by
  simp [State.ringsStart, State.bit_eq]

/-- Ring `r` is enabled, with the record `x` and its pointers at 0. -/
def ringEnabled (r : Nat) (x : RingSt) (s : State) : State := ringRegs r 0 0 ((s.wr (Reg.EVR_RING_CFG_EN r) 1).putRing r x)

theorem ringEnable_eq (r : Nat) (s : State) :
    let bad := s.ringConflict r (s.ringConfig r)
    let ready := s.bit Reg.EVR_STATUS_READY && !s.parityIn 0x3E000 0x180
    ringEnable r s = ringEnabled r { s.ringConfig r with
      run := !bad && ready, wait := !bad && !ready, cfgErr := bad || !s.bit Reg.EVR_STATUS_READY } s := by
  have hready : (s.wr (Reg.EVR_RING_CFG_EN r) 1).bit Reg.EVR_STATUS_READY = s.bit Reg.EVR_STATUS_READY :=
    congrArg (fun v => decide (v ≠ 0)) (s.rd_wr_ne (by simp; omega) 1)
  simp only [ringEnable, ringUnit, hready]
  rfl

theorem ringEnable_conflict (h : s.ringConflict r (s.ringConfig r) = true) :
    ringEnable r s = ringEnabled r { s.ringConfig r with cfgErr := true } s := by
  rw [ringEnable_eq, h]
  rfl

theorem ringEnable_starts (h : s.ringConflict r (s.ringConfig r) = false) (hstart : s.ringsStart) :
    ringEnable r s = ringEnabled r { s.ringConfig r with run := true } s := by
  have hready : s.bit Reg.EVR_STATUS_READY = true := decide_eq_true hstart.1
  rw [ringEnable_eq, h, (ringsStart_iff s).mpr hstart, hready]
  rfl

theorem ringEnable_waits (h : s.ringConflict r (s.ringConfig r) = false) (hstart : ¬s.ringsStart) : ringEnable r s =
    ringEnabled r { s.ringConfig r with wait := true, cfgErr := decide (s.rd Reg.EVR_STATUS_READY = 0) } s := by
  have hnot : (s.bit Reg.EVR_STATUS_READY && !s.parityIn 0x3E000 0x180) = false :=
    Bool.eq_false_iff.mpr ((ringsStart_iff s).not.mpr hstart)
  have hready : (!s.bit Reg.EVR_STATUS_READY) = decide (s.rd Reg.EVR_STATUS_READY = 0) := by simp [State.bit_eq]
  rw [ringEnable_eq, h, hnot, hready]
  rfl

/-- From `s` to `t` ring `r` has begun with its pointers at 0, and nothing beside it has changed. -/
def State.ringBegins (s : State) (r : Nat) (t : State) : Prop :=
  t.rd (Reg.EVR_RING_CFG_EN r) = 1 ∧ t.rd (Reg.EVR_RING_WR_OFFSET r) = 0 ∧ t.rd (Reg.EVR_RING_RD_OFFSET r) = 0 ∧
    (t.ring r).written = 0 ∧ (∀ q, q ≠ r → t.ring q = s.ring q) ∧
    s.regsBut [Reg.EVR_RING_CFG_EN r, Reg.EVR_RING_WR_OFFSET r, Reg.EVR_RING_RD_OFFSET r, Reg.EVR_RING_WRITTEN_LO_COUNT r] t ∧
    t = { s with regs := t.regs, rings := t.rings }

theorem ringEnabled_ring (r : Nat) (x : RingSt) (s : State) : (ringEnabled r x s).ring r = x :=
  (State.ring_wrs ..).trans (State.ring_put_self ..)

theorem ringEnabled_begins (hx : x.written = 0) (s : State) : s.ringBegins r (ringEnabled r x s) := by
  refine ⟨?_, ?_, ?_, by rw [ringEnabled_ring, hx], fun q hq => ?_, ?_, rfl⟩
  · rw [ringEnabled, ringRegs, State.rd_wrs_ne _ _ (by simp; omega), State.rd_putRing, State.rd_wr_self]
    rfl
  · exact (State.rd_wrs_cons_self _ 0 _ (by simp)).trans (Nat.zero_mod _)
  · rw [ringEnabled, ringRegs, State.wrs_cons]
    exact (State.rd_wrs_cons_self _ 0 _ (by simp)).trans (Nat.zero_mod _)
  · rw [ringEnabled, ringRegs, State.ring_wrs, State.ring_put_ne _ hq.symm, State.ring_wr]
  · exact State.regsBut.trans (t := s.wr (Reg.EVR_RING_CFG_EN r) 1) (s.regsBut_wr (by simp) 1)
      (State.regsBut_wrs (State.putRing _ r x) [_, _, _] (by simp))

theorem exec_ringEnable_begins {r : Fin 8} (h : s.hostOpen (Reg.EVR_RING_CFG_EN r).addr)
    (hen : s.rd (Reg.EVR_RING_CFG_EN r) = 0) (hx : x.written = 0) (henable : ringEnable r s = ringEnabled r x s) :
    ∃ t, exec (.ringEnable r) s = .next t ∧ t.ring r = x ∧ s.ringBegins r t := by
  have hrises : doRingEnable r s = .next (ringEnabled r x s) :=
    congrArg Host.Outcome.next ((if_neg (by simp [State.bit_eq, hen])).trans henable)
  exact ⟨_, hostCmd_record (by decide) h hrises, ringEnabled_ring .., ringEnabled_begins hx s⟩

theorem exec_ringEnable_stands {r : Fin 8} (h : s.hostOpen (Reg.EVR_RING_CFG_EN r).addr)
    (hen : s.rd (Reg.EVR_RING_CFG_EN r) ≠ 0) : exec (.ringEnable r) s = .next s :=
  hostCmd_record (f := doRingEnable r) (by decide) h
    (congrArg Host.Outcome.next (if_pos (by simpa [State.bit_eq] using hen)))

/-! ### READY (R280) -/

theorem ringWaits_iff (r : Nat) (s : State) :
    ((s.ring r).wait = true ∧ s.bit Reg.EVR_STATUS_READY = true ∧ (!s.parityIn 0x3E000 0x180) = true) ↔
      (s.ring r).wait = true ∧ s.ringsStart := by
  simp [State.ringsStart, State.bit_eq]

theorem exec_ringDeferredStart_starts {r : Fin 8} (hwait : (s.ring r).wait = true) (hstart : s.ringsStart) :
    exec (.ringDeferredStart r) s = .next (s.putRing r { s.ring r with
      run := !s.ringConflict r (s.ring r), wait := false, cfgErr := s.ringConflict r (s.ring r) }) :=
  congrArg Host.Outcome.next (if_pos ((ringWaits_iff r s).mpr ⟨hwait, hstart⟩))

theorem exec_ringDeferredStart_rests {r : Fin 8} (h : (s.ring r).wait = false ∨ ¬s.ringsStart) :
    exec (.ringDeferredStart r) s = .next s := by
  refine congrArg Host.Outcome.next (if_neg ((ringWaits_iff r s).not.mpr fun ⟨hwait, hstart⟩ => ?_))
  rw [hwait] at h
  exact h.elim Bool.noConfusion fun hnot => hnot hstart

/-! ### A clearing of EN (R280) -/

/-- The stamps of the roles of ring `r` are dropped. -/
def stampsDropped (r : Nat) (s : State) : State :=
  forRange 48 (fun c s => if s.roleRing c = some r then s.putRole c { s.role c with fifo := [] } else s) s

/-- The interval records of the groups of ring `r` are dropped. -/
def intervalsDropped (r : Nat) (s : State) : State :=
  forRange 16 (fun m s => if s.groupRing m = some r then s.putGrp m { s.grp m with recs := [] } else s) s

theorem stampsDropped_frame (r : Nat) (s : State) : ∃ y, stampsDropped r s = { s with roles := y } := by
  refine forRange_keeps (fun t => ∃ y, t = { s with roles := y }) ?_ ⟨_, rfl⟩
  rintro c - _ ⟨y, rfl⟩
  split <;> exact ⟨_, rfl⟩

theorem intervalsDropped_frame (r : Nat) (s : State) : ∃ y, intervalsDropped r s = { s with grps := y } := by
  refine forRange_keeps (fun t => ∃ y, t = { s with grps := y }) ?_ ⟨_, rfl⟩
  rintro m - _ ⟨y, rfl⟩
  split <;> exact ⟨_, rfl⟩

theorem State.roleRing_congr (h : t.regs = s.regs) (c : Nat) : t.roleRing c = s.roleRing c := by
  have hrd : t.rd = s.rd := funext (State.rd_congr h)
  have hbit : t.bit = s.bit := funext fun f => by rw [State.bit_eq, State.bit_eq, hrd]
  rw [State.roleRing, State.roleRing, hbit, hrd]

theorem State.groupRing_congr (h : t.regs = s.regs) (m : Nat) : t.groupRing m = s.groupRing m := by
  have hrd : t.rd = s.rd := funext (State.rd_congr h)
  have hbit : t.bit = s.bit := funext fun f => by rw [State.bit_eq, State.bit_eq, hrd]
  rw [State.groupRing, State.groupRing, hbit, hrd]

theorem stampsDropped_fifo {c : Nat} (hc : c < 48) (hring : s.roleRing c = some r) : ((stampsDropped r s).role c).fifo = [] := by
  refine forRange_establishes (fun t => t.regs = s.regs) (fun t => (t.role c).fifo = []) hc ?regs ?others (fun t ht => ?own) rfl
  case regs => intro k _ _ t ht; split <;> exact ht
  case others =>
    intro k _ hk t ht
    split
    · exact (congrArg RoleSt.fifo (t.role_put_ne hk _)).trans ht
    · exact ht
  case own =>
    rw [if_pos ((State.roleRing_congr ht c).trans hring), State.role_put_self]

theorem intervalsDropped_recs {m : Nat} (hm : m < 16) (hring : s.groupRing m = some r) :
    ((intervalsDropped r s).grp m).recs = [] := by
  refine forRange_establishes (fun t => t.regs = s.regs) (fun t => (t.grp m).recs = []) hm ?regs ?others (fun t ht => ?own) rfl
  case regs => intro k _ _ t ht; split <;> exact ht
  case others =>
    intro k _ hk t ht
    split
    · exact (congrArg GrpSt.recs (t.grp_put_ne hk _)).trans ht
    · exact ht
  case own =>
    rw [if_pos ((State.groupRing_congr ht m).trans hring), State.grp_put_self]

/-- What is in flight to ring `r` is dropped. -/
def flightDropped (r : Nat) (s : State) : State := intervalsDropped r (stampsDropped r s)

theorem flightDropped_frame (r : Nat) (s : State) : ∃ y z, flightDropped r s = { s with roles := y, grps := z } := by
  obtain ⟨y, hstamps⟩ := stampsDropped_frame r s
  obtain ⟨z, hintervals⟩ := intervalsDropped_frame r (stampsDropped r s)
  exact ⟨y, z, by rw [flightDropped, hintervals, hstamps]⟩

theorem flightDropped_fifo {c : Nat} (hc : c < 48) (hring : s.roleRing c = some r) : ((flightDropped r s).role c).fifo = [] := by
  obtain ⟨z, hintervals⟩ := intervalsDropped_frame r (stampsDropped r s)
  rw [flightDropped, hintervals, State.role_upd, stampsDropped_fifo hc hring]

theorem flightDropped_recs {m : Nat} (hm : m < 16) (hring : s.groupRing m = some r) : ((flightDropped r s).grp m).recs = [] := by
  obtain ⟨y, hstamps⟩ := stampsDropped_frame r s
  exact intervalsDropped_recs hm ((State.groupRing_congr (by rw [hstamps]) m).trans hring)

/-- What ring `r` drops as its EN clears. -/
def State.ringDrops (s : State) (r : Nat) : Nat := if (s.ring r).run then s.inFlight r else 0

/-- Ring `r` has stopped, with `n` records dropped. -/
def ringStopped (r n : Nat) (s : State) : State :=
  ((s.putRing r { s.ring r with run := false, wait := false, cfgErr := false, lost := (s.ring r).lost + n }).wr
    (Reg.EVR_RING_CFG_EN r) 0).bump (Reg.EVR_RING_DROPPED_COUNT r) n

theorem exec_ringDisable {r : Fin 8} (h : s.hostOpen (Reg.EVR_RING_CFG_EN r).addr) :
    exec (.ringDisable r) s = .next (ringStopped r (s.ringDrops r) (flightDropped r s)) :=
  hostCmd_record (f := doRingDisable r) (by decide) h rfl

theorem ringStopped_en (r n : Nat) (s : State) : (ringStopped r n s).rd (Reg.EVR_RING_CFG_EN r) = 0 := by
  rw [ringStopped, State.rd_bump_ne _ (by simp; omega), State.rd_wr_self, Nat.zero_mod]

theorem ringStopped_ring (r n : Nat) (s : State) : (ringStopped r n s).ring r =
    { s.ring r with run := false, wait := false, cfgErr := false, lost := (s.ring r).lost + n } :=
  State.ring_put_self ..

theorem ringStopped_ring_ne (n : Nat) (s : State) {q : Nat} (hq : q ≠ r) : (ringStopped r n s).ring q = s.ring q :=
  s.ring_put_ne hq.symm _

theorem ringStopped_dropped (r n : Nat) (s : State) : (ringStopped r n s).rd (Reg.EVR_RING_DROPPED_COUNT r) =
    (s.rd (Reg.EVR_RING_DROPPED_COUNT r) + n) % 2 ^ (Reg.EVR_RING_DROPPED_COUNT r).width := by
  rw [ringStopped, State.rd_bump_self, State.rd_wr_ne _ (by simp; omega), State.rd_putRing]

theorem ringStopped_regsBut (r n : Nat) (s : State) :
    s.regsBut [Reg.EVR_RING_CFG_EN r, Reg.EVR_RING_DROPPED_COUNT r] (ringStopped r n s) :=
  (State.regsBut_wr (s.putRing r _) (by simp) _).trans (State.regsBut_wr _ (by simp) _)

theorem ringStopped_frame (r n : Nat) (s : State) : ∃ g x, ringStopped r n s = { s with regs := g, rings := x } := ⟨_, _, rfl⟩

/-! ### A write of RD (R291, R300) -/

/-- The host may move RD of ring `r` to `o`: a byte between RD and WR where a word begins, of a ring that is not streamed. -/
def State.rdMoves (s : State) (r o : Nat) : Prop :=
  o % 8 = 0 ∧ s.rd (Reg.EVR_RING_CFG_STREAM r) = 0 ∧ (o = s.rd (Reg.EVR_RING_RD_OFFSET r) ∨ (o < (s.ring r).size ∧
    ringUsed (s.ring r).size (s.rd (Reg.EVR_RING_RD_OFFSET r)) o ≤
      ringUsed (s.ring r).size (s.rd (Reg.EVR_RING_RD_OFFSET r)) (s.rd (Reg.EVR_RING_WR_OFFSET r))))

theorem rdMoves_iff (s : State) (r o : Nat) :
    (decide (o % 8 = 0) && !s.bit (Reg.EVR_RING_CFG_STREAM r) && (decide (o = s.rd (Reg.EVR_RING_RD_OFFSET r)) ||
      (decide (o < (s.ring r).size) && decide (ringUsed (s.ring r).size (s.rd (Reg.EVR_RING_RD_OFFSET r)) o ≤
        ringUsed (s.ring r).size (s.rd (Reg.EVR_RING_RD_OFFSET r)) (s.rd (Reg.EVR_RING_WR_OFFSET r)))))) = true ↔
    s.rdMoves r o := by
  simp [State.rdMoves, State.bit_eq, and_assoc]

/-- RD of ring `r` has moved to `o`, and the record start that the ring keeps has followed. -/
def rdMoved (r o : Nat) (s : State) : State :=
  let m := s.startBefore (s.ring r) o ((s.ring r).size / 8) ((s.ring r).mark, (s.ring r).markIdx)
  (s.putRing r { s.ring r with mark := m.1, markIdx := m.2 }).wrs
    [(Reg.EVR_RING_RD_OFFSET r, o), (Reg.EVR_RING_STATUS_RD_ERR r, 0)]

section
variable {r : Fin 8} {off : BitVec 27} (h : s.hostOpen (Reg.EVR_RING_RD_OFFSET r).addr)
include h

theorem exec_ringRdWrite_moves (hmoves : s.rdMoves r off.toNat) :
    exec (.ringRdWrite r off) s = .next (rdMoved r off.toNat s) :=
  hostCmd_record (f := doRingRdWrite r off) (by decide) h
    (congrArg Host.Outcome.next (if_pos ((rdMoves_iff s r _).mpr hmoves)))

theorem exec_ringRdWrite_refuses (hmoves : ¬s.rdMoves r off.toNat) :
    exec (.ringRdWrite r off) s = .next (s.wr (Reg.EVR_RING_STATUS_RD_ERR r) 1) :=
  hostCmd_record (f := doRingRdWrite r off) (by decide) h
    (congrArg Host.Outcome.next (if_neg ((rdMoves_iff s r _).not.mpr hmoves)))

end

theorem rdMoved_rd (r : Nat) (s : State) (off : BitVec 27) :
    (rdMoved r off.toNat s).rd (Reg.EVR_RING_RD_OFFSET r) = off.toNat :=
  (State.rd_wrs_cons_self _ _ _ (by simp; omega)).trans (Nat.mod_eq_of_lt off.isLt)

theorem rdMoved_rdErr (r o : Nat) (s : State) : (rdMoved r o s).rd (Reg.EVR_RING_STATUS_RD_ERR r) = 0 :=
  (State.rd_wr_self ..).trans (Nat.zero_mod _)

theorem rdMoved_ring (r o : Nat) (s : State) : ((rdMoved r o s).ring r).written = (s.ring r).written ∧
    ((rdMoved r o s).ring r).run = (s.ring r).run := by
  rw [rdMoved, State.ring_wrs, State.ring_put_self]
  exact ⟨rfl, rfl⟩

theorem rdMoved_ring_ne (o : Nat) (s : State) {q : Nat} (hq : q ≠ r) : (rdMoved r o s).ring q = s.ring q :=
  (State.ring_wrs ..).trans (s.ring_put_ne hq.symm _)

theorem rdMoved_regsBut (r o : Nat) (s : State) :
    s.regsBut [Reg.EVR_RING_RD_OFFSET r, Reg.EVR_RING_STATUS_RD_ERR r] (rdMoved r o s) :=
  State.regsBut_wrs (s.putRing r _) _ (by simp)

/-! ### O28 -/

/-- Settles O28: the DRAM by what `dramEcc` and `rowSpared` leave of a word and its row; a ring by `exec_ringEnable_begins`, what
the clearing of its EN leaves, and `rdMoved`. -/
theorem dramAndRings : Obligations.dram_and_rings := by
  unfold Obligations.dram_and_rings
  refine ⟨fun word ecc s => ?scrub, fun addr dword ecc s => ?bar2, fun r off s => ?rings⟩
  case scrub =>
    intro corr unc row on replaces found recent inits
    refine ⟨fun h => ⟨_, exec_dramInit_ends h, State.rd_wr_self .., fun _ => rfl, State.regsBut_wr (zeroDram s) (by simp) 1, rfl⟩,
      exec_dramInit_rests, exec_dramScrub_off, fun hon hrow hok => ?clean, fun hon hrow hsingle => ?corrected,
      fun hon hrow hdouble => ?uncorrectable, fun hon hrow => ⟨_, exec_dramScrub_replaces hon hrow, rowSpared_leaves ..⟩⟩
    case clean => exact (exec_dramScrub_checks hon hrow).trans (congrArg _ (dramEcc_ok hok))
    case corrected =>
      exact ⟨_, (exec_dramScrub_checks hon hrow).trans (congrArg _ (dramEcc_single hsingle)), State.rd_bumpSat .., rfl,
        State.regsBut_wr { s with dram := s.dramCorrected word.toNat } List.mem_cons_self _, rfl⟩
    case uncorrectable =>
      exact ⟨_, (exec_dramScrub_checks hon hrow).trans (congrArg _ (dramEcc_double hdouble)), dramReported_unc ..,
        dramReported_addr .., rfl, dramSpoilt_due .., dramSpoilt_poison .., rfl, rfl, dramReported_regsBut _ s, rfl⟩
  case bar2 =>
    intro i w answers parts
    refine ⟨exec_bar2Read_down, fun ⟨hup, h⟩ hok => ?clean, fun ⟨hup, h⟩ hsingle => ?corrected,
      fun ⟨hup, h⟩ hdouble => ?poisoned, fun hup h => ?free⟩
    case clean =>
      have hexec := exec_bar2Read_answers (dword := dword) hup h (by rw [hok]; decide)
      rw [dramEcc_ok hok] at hexec
      exact ⟨_, hexec, rfl, rfl⟩
    case corrected =>
      have hexec := exec_bar2Read_answers (dword := dword) hup h (by rw [hsingle]; decide)
      rw [dramEcc_single hsingle] at hexec
      exact ⟨_, hexec, rfl, State.rd_bumpSat .., rfl, State.regsBut_wr { s with dram := s.dramCorrected i } (by simp) _, rfl⟩
    case poisoned =>
      obtain ⟨l, hexec⟩ := exec_bar2Read_poisons (dword := dword) hup h hdouble
      exact ⟨_, hexec, rfl, dramSpoilt_poison .., rfl, dramReported_regsBut i { s with free := s.free + 1 }, rfl⟩
    case free =>
      obtain ⟨l, hexec⟩ := exec_bar2Read_free (addr := addr) (dword := dword) (ecc := ecc) hup fun h' => h ⟨hup, h'⟩
      exact ⟨_, hexec, rfl⟩
  case rings =>
    intro en x o rd rdErr moves new others begun starts opens
    refine ⟨fun ⟨ho, hen⟩ hfits hstart => ?starts, fun ⟨ho, hen⟩ hfits hstart => ?waits, fun ⟨ho, hen⟩ hbad => ?conflicts,
      exec_ringEnable_stands, fun hwait hstart => ?deferred, exec_ringDeferredStart_rests, fun ho => ?disabled,
      fun ho => ⟨fun hmoves => ?moved, fun hmoves => ?refused⟩⟩
    case starts => exact exec_ringEnable_begins ho hen rfl (ringEnable_starts hfits hstart)
    case waits => exact exec_ringEnable_begins ho hen rfl (ringEnable_waits hfits hstart)
    case conflicts => exact exec_ringEnable_begins ho hen rfl (ringEnable_conflict hbad)
    case deferred =>
      exact ⟨_, exec_ringDeferredStart_starts hwait hstart, State.ring_put_self .., fun q hq => s.ring_put_ne hq.symm _, rfl⟩
    case disabled =>
      obtain ⟨y, z, hdropped⟩ := flightDropped_frame r s
      obtain ⟨g, k, hframe⟩ := ringStopped_frame r (s.ringDrops r) (flightDropped r s)
      have hregs : (flightDropped r s).regs = s.regs := by rw [hdropped]
      have hrings : ∀ q, (flightDropped r s).ring q = s.ring q := fun q => by rw [hdropped, State.ring_upd]
      refine ⟨_, exec_ringDisable ho, ringStopped_en .., ?_, fun q hq => ?_, by rw [hframe, hdropped], ?_, ?_,
        fun c hc hring => ?_, fun m hm hring => ?_, by rw [hframe, hdropped]⟩
      · rw [ringStopped_ring, hrings]
        rfl
      · rw [ringStopped_ring_ne _ _ hq, hrings]
      · exact (State.regsBut_of_regs_eq hregs _).trans (ringStopped_regsBut _ _ _)
      · rw [ringStopped_dropped, State.rd_congr hregs]
        rfl
      · rw [hframe, State.role_upd, flightDropped_fifo hc hring]
      · rw [hframe, State.grp_upd, flightDropped_recs hm hring]
    case moved =>
      obtain ⟨hwritten, hrun⟩ := rdMoved_ring r o s
      exact ⟨_, exec_ringRdWrite_moves ho hmoves, rdMoved_rd .., rdMoved_rdErr .., hwritten, hrun,
        fun q hq => rdMoved_ring_ne o s hq, rdMoved_regsBut _ _ s, rfl⟩
    case refused =>
      exact ⟨_, exec_ringRdWrite_refuses ho hmoves, State.rd_wr_self .., rfl, s.regsBut_wr List.mem_cons_self 1⟩

end Sys2Proof.Machine
end

section
/-! What every command leaves of the queue and the fuses, whatever the memories hold (O55, O56, O58): one equation per operation
that writes a memory, beside the laws `…_store` of those that write none. -/
namespace Sys2Proof.Machine

/-! ### The ledger of a store -/

/-- The queue and the fuse fields: what no command but the two that program fuses may change. -/
def Store.ledger (σ : Store) : List Instr × List Nat := (σ.1, σ.2.2.2.2.2)

/-- The ledger of an outcome, where it answers a next state. -/
def ledgerOf (o : Out) : Option (List Instr × List Nat) := (storeOf o).map Store.ledger

@[simp] theorem ledgerOf_next (t : State) : ledgerOf (.next t) = some t.store.ledger := rfl

@[simp] theorem ledger_ite (c : Prop) [Decidable c] (a b : Store) :
    (if c then a else b).ledger = if c then a.ledger else b.ledger := apply_ite Store.ledger c a b

@[simp] theorem ledgerOf_ite (c : Prop) [Decidable c] (a b : Out) :
    ledgerOf (if c then a else b) = if c then ledgerOf a else ledgerOf b := apply_ite ledgerOf c a b

/-- A command that leaves the store leaves the ledger. -/
theorem ledgerOf_of_storeOf {o : Out} {σ : Store} (h : storeOf o = some σ) : ledgerOf o = some σ.ledger := by
  rw [ledgerOf, h]; rfl

/-- An update that leaves the queue and the fuses leaves the ledger, whatever it does to the memories. -/
@[simp] theorem ledger_upd (t : State)
    (regs' : _) (now' : _) (up' : _) (timers' : _) (free' : _) (hostRead' : _) (clk' : _) (eng' : _) (words' : _) (commons' : _)
    (out' : _) (inw' : _) (bell' : _) (subst' : _) (image' : _) (flt' : _) (tb' : _) (tbRem' : _) (supplyFlag' : _)
    (slots' : _) (paths' : _) (ts' : _) (tg' : _) (aplls' : _) (outs' : _) (chans' : _) (roles' : _) (grps' : _)
    (twin' : _) (rings' : _) (dram' : _) (ports' : _) (hostMem' : _) (parity' : _) (keys' : _) (syl' : _) (nor' : _)
    (jnl' : _) (prov' : _) (bist' : _) (host' : _) (wo' : _) (mapTdc' : _) (mapApll' : _) (pwr' : _) (jtag' : _) (scan' : _) :
    (State.store (State.mk
      t.pending regs' now' up' timers' free' hostRead' clk' eng' words' commons' out' inw' bell' subst' image' flt' tb' tbRem'
      supplyFlag' slots' paths' ts' tg' aplls' outs' chans' roles' grps' twin' rings' dram' ports' hostMem' parity'
      keys' syl' nor' jnl' t.fuses prov' bist' host' wo' mapTdc' mapApll' pwr' jtag' scan')).ledger = t.store.ledger :=
  (Eq.refl _).trans (Eq.refl _)

/-! ### Composition -/

@[simp] theorem ledger_foldl_of {β : Type} (f : State → β → State) (h : ∀ s b, (f s b).store.ledger = s.store.ledger)
    (l : List β) (s : State) : (l.foldl f s).store.ledger = s.store.ledger := by
  induction l generalizing s with
  | nil => rfl
  | cons b l ih => exact (ih (f s b)).trans (h s b)

@[simp] theorem ledger_forRange_of (n : Nat) (f : Nat → State → State)
    (h : ∀ i s, (f i s).store.ledger = s.store.ledger) (s : State) : (forRange n f s).store.ledger = s.store.ledger :=
  ledger_foldl_of _ (fun s i => h i s) _ s

/-- The store that an outcome leaves, or the one before it, has the ledger of the outcome. -/
@[simp] theorem ledger_getD {o : Out} {σ : Store} (h : ledgerOf o = some σ.ledger) : ((storeOf o).getD σ).ledger = σ.ledger := by
  cases o <;> simp_all [ledgerOf, storeOf]

@[simp] theorem onBit_ledger (v i : Nat) (f : State → Out) (s : State) (hf : ∀ s, ledgerOf (f s) = some s.store.ledger) :
    (onBit v i f s).store.ledger = s.store.ledger := by
  unfold onBit
  split
  · rw [nextOr_store]; exact ledger_getD (hf s)
  · rfl

theorem withWrite_ledger (a : Nat) (f : State → Out) (s : State) (hf : ∀ s, ledgerOf (f s) = some s.store.ledger) :
    ledgerOf (withWrite a f s) = some s.store.ledger := by
  have hpre : (if slotAddr a = true then s else parityClear a s).store.ledger = s.store.ledger := by simp
  have hout := hf (if slotAddr a = true then s else parityClear a s)
  rw [hpre] at hout
  unfold withWrite
  dsimp only
  generalize f (if slotAddr a = true then s else parityClear a s) = o at hout ⊢
  cases o with
  | next t => simpa using hout
  | fault r => cases hout
  | refused r => cases hout

@[simp] theorem hostCmd_ledger (a : Nat) (f : State → Out) (s : State) (hf : ∀ s, ledgerOf (f s) = some s.store.ledger) :
    ledgerOf (hostCmd a f s) = some s.store.ledger := by
  unfold hostCmd
  split
  · rfl
  · split
    · exact withWrite_ledger a f s hf
    · simp

@[simp] theorem runCommand_ledger (e : Nat) (hd : Handler) (w : Nat) (s : State)
    (hh : ∀ c s, (hd c s).2.2.store.ledger = s.store.ledger) : (runCommand e hd w s).store.ledger = s.store.ledger := by
  simp [runCommand, hh]

@[simp] theorem commandRow_ledger (e op : Nat) (hd : Handler) (c : CmdWord) (s : State)
    (hh : ∀ c s, (hd c s).2.2.store.ledger = s.store.ledger) : (commandRow e op hd c s).store.ledger = s.store.ledger := by
  simp [commandRow, hostCommand, hh]

/-! ### Engine instructions -/

/-- The ledger that the body of an instruction leaves. -/
def Res.ledgerIs (l : List Instr × List Nat) : Res → Prop
  | .next t _ | .jump t _ _ | .done t _ | .unc t _ => t.store.ledger = l
  | .trap _ _ => True

theorem Res.ledgerIs_of_keeps {σ : Store} {r : Res} (h : r.keeps σ) : r.ledgerIs σ.ledger := by
  cases r with
  | trap c k => trivial
  | next t y => exact congrArg Store.ledger h
  | jump t y d => exact congrArg Store.ledger h
  | done t y => exact congrArg Store.ledger h
  | unc t i => exact congrArg Store.ledger h

theorem engRun_ledger (e : Nat) (f : Ecc) (cost : Nat) (body : State → Eng → Res) (s : State)
    (hb : ∀ s x, (body s x).ledgerIs s.store.ledger) : (engRun e f cost body s).store.ledger = s.store.ledger := by
  unfold engRun
  split
  · rfl
  · split
    · simp
    · lift_lets
      intro s1 x wcet
      have h1 : s1.store.ledger = s.store.ledger := by simp only [s1]; split <;> simp
      have h2 := hb s1 x
      cases hr : body s1 x with
      | trap c k => simp [h1]
      | next t y => rw [hr] at h2; simp_all [Res.ledgerIs]
      | jump t y d => rw [hr] at h2; simp_all [Res.ledgerIs]
      | done t y => rw [hr] at h2; dsimp only; split <;> simp_all [Res.ledgerIs]
      | unc t i => rw [hr] at h2; dsimp only; split <;> simp_all [Res.ledgerIs]

theorem engRow_ledger (e : Nat) (f : Ecc) (cost : Nat) (body : State → Eng → Res) (s : State)
    (hb : ∀ s x, (body s x).ledgerIs s.store.ledger) : ledgerOf (engRow e f cost body s) = some s.store.ledger := by
  unfold engRow
  split
  · rfl
  · exact congrArg some (engRun_ledger e f cost body s hb)

@[simp] theorem cmnComplete_ledger (ecc : Ecc) (s : State) (x : Eng) : (cmnComplete ecc s x).1.store.ledger = s.store.ledger := by
  unfold cmnComplete
  repeat' split
  all_goals simp

@[simp] theorem cmnDrain_ledger (n : Nat) (p : State × Eng) : (cmnDrain n p).1.store.ledger = p.1.store.ledger := by
  induction n generalizing p with
  | zero => rfl
  | succ n ih => exact (ih _).trans (cmnComplete_ledger ..)

theorem bodyCsync_ledger (s : State) (x : Eng) : (bodyCsync s x).ledgerIs s.store.ledger := by
  unfold bodyCsync
  split
  · rfl
  · exact cmnDrain_ledger ..

theorem engineBody_ledger (i : Instr) (c : Nat) (b : State → Eng → Res) (hi : engineBody i = some (c, b)) (s : State) (x : Eng) :
    (b s x).ledgerIs s.store.ledger := by
  cases i <;> simp only [engineBody, Option.some.injEq, Prod.mk.injEq, reduceCtorEq] at hi <;> obtain ⟨rfl, rfl⟩ := hi
  case eCsync => exact bodyCsync_ledger s x
  all_goals exact Res.ledgerIs_of_keeps (by simp)

theorem fetchedBody_ledger (e : Fin 17) (d d2 : Ecc) (w : Word32) (s : State) (x : Eng) :
    ((fetchedBody e d d2 w).2 s x).ledgerIs s.store.ledger := by
  unfold fetchedBody
  split
  · trivial
  · cases hd : (decodeEngine e .ok d d2 w).bind engineBody with
    | none => trivial
    | some p =>
      obtain ⟨c, b⟩ := p
      obtain ⟨i, _, hi⟩ := Option.bind_eq_some_iff.mp hd
      exact engineBody_ledger i c b hi s x

/-! ### Operations and commands that write a memory -/

@[simp] theorem jnlPublish_ledger (s : State) : (jnlPublish s).store.ledger = s.store.ledger := by
  simp [jnlPublish]
@[simp] theorem repairSave_ledger (key : Nat) (data : List Byte) (fail : Bool) (s : State) :
    (repairSave key data fail s).store.ledger = s.store.ledger := by
  simp [repairSave]
@[simp] theorem saveTdc_ledger (fail : Bool) (s : State) : (saveTdc fail s).store.ledger = s.store.ledger := by
  simp [saveTdc]
@[simp] theorem execECsync_ledger (e : Fin 17) (f : Ecc) (s : State) : ledgerOf (execECsync e f s) = some s.store.ledger := by
  exact engRow_ledger _ _ _ _ s bodyCsync_ledger
@[simp] theorem cmnRow_ledger (e : Nat) (w : Bool) (c : Ecc) (s : State) : (cmnRow e w c s).store.ledger = s.store.ledger := by
  simp only [cmnRow]
  split <;> simp
@[simp] theorem execCommonsReadComplete_ledger (e : Fin 17) (ecc : Ecc) (s : State) :
    ledgerOf (execCommonsReadComplete e ecc s) = some s.store.ledger := by
  simp [execCommonsReadComplete]
@[simp] theorem execCommonsWriteComplete_ledger (e : Fin 17) (s : State) :
    ledgerOf (execCommonsWriteComplete e s) = some s.store.ledger := by
  simp [execCommonsWriteComplete]
@[simp] theorem doEngStep_ledger (e : Fin 17) (f ecc ecc2 : Ecc) (s : State) :
    ledgerOf (doEngStep e f ecc ecc2 s) = some s.store.ledger := by
  simp only [doEngStep]
  split
  · exact congrArg some (engRun_ledger _ _ _ _ s (fetchedBody_ledger _ _ _ _))
  · rfl
@[simp] theorem execIllegalInstruction_ledger (e : Fin 17) (f : Ecc) (w : BitVec 32) (s : State) :
    ledgerOf (execIllegalInstruction e f w s) = some s.store.ledger := by
  exact engRow_ledger _ _ _ _ s (fetchedBody_ledger _ _ _ _)
@[simp] theorem autoTake_ledger (k : Nat) (c : Nat) (s : State) : (autoTake k c s).store.ledger = s.store.ledger := by
  simp only [autoTake]
  repeat' split
  all_goals simp
@[simp] theorem roleLost_ledger (ch : Nat) (c : Nat) (s : State) : (roleLost ch c s).store.ledger = s.store.ledger := by
  simp only [roleLost]
  repeat' split
  all_goals simp
@[simp] theorem chanFails_ledger (ch : Nat) (s : State) : (chanFails ch s).store.ledger = s.store.ledger := by
  simp only [chanFails]
  repeat' split
  all_goals simp
@[simp] theorem execDllUnlock_ledger (ch : Fin 52) (s : State) : ledgerOf (execDllUnlock ch s) = some s.store.ledger := by
  simp only [execDllUnlock]
  repeat' split
  all_goals simp
@[simp] theorem calDone_ledger (ch : Nat) (hits : List Nat) (s : State) :
    (calDone ch hits s).store.ledger = s.store.ledger := by
  simp [calDone]
@[simp] theorem execCalComplete_ledger (ch : Fin 52) (hits : List Nat) (s : State) :
    ledgerOf (execCalComplete ch hits s) = some s.store.ledger := by
  simp [execCalComplete]
@[simp] theorem twinWordsInvalid_ledger (s : State) : (twinWordsInvalid s).store.ledger = s.store.ledger := by
  simp [twinWordsInvalid]
@[simp] theorem setRole_ledger (r : Nat) (s : State) : (setRole r s).store.ledger = s.store.ledger := by
  simp [setRole]
@[simp] theorem promote_ledger (s : State) : (promote s).store.ledger = s.store.ledger := by
  simp [promote]
@[simp] theorem demote_ledger (s : State) : (demote s).store.ledger = s.store.ledger := by
  simp [demote]
@[simp] theorem demoteRequest_ledger (s : State) : (demoteRequest s).store.ledger = s.store.ledger := by
  simp [demoteRequest]
@[simp] theorem doTwinDemote_ledger (s : State) : ledgerOf (doTwinDemote s) = some s.store.ledger := by
  simp [doTwinDemote]
@[simp] theorem execDemoteRun_ledger (s : State) : ledgerOf (execDemoteRun s) = some s.store.ledger := by
  simp [execDemoteRun]
@[simp] theorem twinDecide_ledger (s : State) : (twinDecide s).store.ledger = s.store.ledger := by
  simp [twinDecide]
@[simp] theorem resolveRoles_ledger (s : State) : (resolveRoles s).store.ledger = s.store.ledger := by
  simp [resolveRoles]
@[simp] theorem doTwinEnable_ledger (s : State) : ledgerOf (doTwinEnable s) = some s.store.ledger := by
  simp [doTwinEnable]
@[simp] theorem doTwinDisable_ledger (s : State) : ledgerOf (doTwinDisable s) = some s.store.ledger := by
  simp [doTwinDisable]
@[simp] theorem execSeekingEnd_ledger (s : State) : ledgerOf (execSeekingEnd s) = some s.store.ledger := by
  simp [execSeekingEnd]
@[simp] theorem heartbeatRole_ledger (h : Heartbeat) (s : State) : (heartbeatRole h s).store.ledger = s.store.ledger := by
  simp [heartbeatRole]
@[simp] theorem heartbeat_ledger (lane : Nat) (h : Heartbeat) (s : State) :
    (heartbeat lane h s).store.ledger = s.store.ledger := by
  simp [heartbeat]
@[simp] theorem execTwinLinkLoss_ledger (s : State) : ledgerOf (execTwinLinkLoss s) = some s.store.ledger := by
  simp [execTwinLinkLoss]
@[simp] theorem execWitnessFrame_ledger (word : BitVec 32) (s : State) :
    ledgerOf (execWitnessFrame word s) = some s.store.ledger := by
  simp [execWitnessFrame]
@[simp] theorem execWitnessLoss_ledger (s : State) : ledgerOf (execWitnessLoss s) = some s.store.ledger := by
  simp [execWitnessLoss]
@[simp] theorem twinPpsEdge_ledger (t : Int) (s : State) : (twinPpsEdge t s).store.ledger = s.store.ledger := by
  simp [twinPpsEdge]
@[simp] theorem putTwinWord_ledger (i : Nat) (w : Word64) (s : State) : (putTwinWord i w s).store.ledger = s.store.ledger := by
  simp [putTwinWord]
@[simp] theorem markerPath_ledger (x : MarkerIn) (tm : Int) (seq : Nat) (p : Nat) (s : State) :
    (markerPath x tm seq p s).store.ledger = s.store.ledger := by
  simp [markerPath]
@[simp] theorem markerScale_ledger (x : MarkerIn) (tm : Int) (seq : Nat) (n : Nat) (s : State) :
    (markerScale x tm seq n s).store.ledger = s.store.ledger := by
  simp [markerScale]
@[simp] theorem execMarkerReceive_ledger (x : MarkerIn) (s : State) :
    ledgerOf (execMarkerReceive x s) = some s.store.ledger := by
  simp only [execMarkerReceive]
  repeat' split
  all_goals simp
@[simp] theorem twinBell_ledger (s : State) : (twinBell s).store.ledger = s.store.ledger := by
  simp [twinBell]
@[simp] theorem consumers_ledger (c : Nat) (fall : Bool) (st : Stamp) (s : State) :
    (consumers c fall st s).store.ledger = s.store.ledger := by
  simp only [consumers]
  repeat' split
  all_goals simp
@[simp] theorem roleEdge_ledger (c : Nat) (x : EdgeIn) (s : State) : (roleEdge c x s).store.ledger = s.store.ledger := by
  simp only [roleEdge]
  repeat' split
  all_goals simp
@[simp] theorem execTdcEdgeCapture_ledger (role : Fin 48) (x : EdgeIn) (s : State) :
    ledgerOf (execTdcEdgeCapture role x s) = some s.store.ledger := by
  simp only [execTdcEdgeCapture]
  repeat' split
  all_goals simp
@[simp] theorem putDram_ledger (i : Nat) (w : Word64) (s : State) : (putDram i w s).store.ledger = s.store.ledger := by
  simp [putDram]
@[simp] theorem zeroDram_ledger (s : State) : (zeroDram s).store.ledger = s.store.ledger := by
  simp [zeroDram]
@[simp] theorem execDramInitComplete_ledger (s : State) : ledgerOf (execDramInitComplete s) = some s.store.ledger := by
  simp [execDramInitComplete]
@[simp] theorem ringAppend_ledger (r : Nat) (ws : List Word64) (s : State) :
    (ringAppend r ws s).store.ledger = s.store.ledger := by
  simp [ringAppend]
@[simp] theorem anchored_ledger (r wt : Nat) (s : State) : (anchored r wt s).store.ledger = s.store.ledger := by
  simp [anchored]
@[simp] theorem ringPut_ledger (r : Nat) (special : Bool) (d : Draft) (s : State) :
    (ringPut r special d s).store.ledger = s.store.ledger := by
  simp [ringPut]
@[simp] theorem gapPut_ledger (r : Nat) (mid : Bool) (a d : Draft) (s : State) :
    (gapPut r mid a d s).store.ledger = s.store.ledger := by
  simp only [gapPut]; split <;> simp
@[simp] theorem gapsPut_ledger (r : Nat) (own mid special : Bool) (a d : Draft) (code gap : Nat) (s : State) :
    (gapsPut r own mid special a d code gap s).store.ledger = s.store.ledger := by
  simp only [gapsPut]
  repeat' split
  all_goals simp
@[simp] theorem ringRoom_ledger (r : Nat) (special : Bool) (d : Draft) (gap : Nat) (s : State) :
    (ringRoom r special d gap s).2.store.ledger = s.store.ledger := by
  simp only [ringRoom]
  split <;> simp
@[simp] theorem ringWrite_ledger (r : Nat) (special : Bool) (d : Draft) (code : Nat) (gap : Nat) (s : State) :
    (ringWrite r special d code gap s).2.store.ledger = s.store.ledger := by
  simp only [ringWrite]
  repeat' split
  all_goals simp
@[simp] theorem anchorTry_ledger (r : Nat) (step : Bool) (s : State) : (anchorTry r step s).store.ledger = s.store.ledger := by
  simp only [anchorTry]
  split <;> simp
@[simp] theorem anchorSteps_ledger (r n : Nat) (s : State) : (anchorSteps r n s).store.ledger = s.store.ledger := by
  induction n generalizing s with
  | zero => rfl
  | succ n ih => exact (ih _).trans (by simp)
@[simp] theorem anchors_ledger (r : Nat) (s : State) : (anchors r s).store.ledger = s.store.ledger := by
  simp only [anchors]
  split <;> simp
@[simp] theorem execAnchorWrite_ledger (r : Fin 8) (s : State) : ledgerOf (execAnchorWrite r s) = some s.store.ledger := by
  simp [execAnchorWrite]
@[simp] theorem ringRecord_ledger (r : Nat) (d : Draft) (code : Nat) (gap : Nat) (s : State) :
    (ringRecord r d code gap s).2.store.ledger = s.store.ledger := by
  simp only [ringRecord]
  repeat' split
  all_goals simp
@[simp] theorem roleRecord_ledger (c : Nat) (s : State) : (roleRecord c s).store.ledger = s.store.ledger := by
  simp only [roleRecord]
  repeat' split
  all_goals simp
@[simp] theorem groupRecord_ledger (m : Nat) (s : State) : (groupRecord m s).store.ledger = s.store.ledger := by
  simp only [groupRecord]
  repeat' split
  all_goals simp
@[simp] theorem execEvrRecordWrite_ledger (src : RecSource) (s : State) :
    ledgerOf (execEvrRecordWrite src s) = some s.store.ledger := by
  simp only [execEvrRecordWrite]
  repeat' split
  all_goals simp
@[simp] theorem putCommonsByte_ledger (a : Nat) (v : Byte) (s : State) :
    (putCommonsByte a v s).store.ledger = s.store.ledger := by
  simp [putCommonsByte]
@[simp] theorem ownerWrite_ledger (lesson : Bool) (a : Nat) (b : List Byte) (s : State) :
    (ownerWrite lesson a b s).store.ledger = s.store.ledger := by
  simp [ownerWrite]
@[simp] theorem txtsPush_ledger (n : Nat) (stamp : Nat) (id : Nat) (aborted : Bool) (coarse : Bool) (s : State) :
    (txtsPush n stamp id aborted coarse s).store.ledger = s.store.ledger := by
  simp [txtsPush]
@[simp] theorem txComplete_ledger (n : Nat) (q : Nat) (st : Nat) (s : State) :
    (txComplete n q st s).store.ledger = s.store.ledger := by
  simp [txComplete]
@[simp] theorem lineEnd_ledger (n : Nat) (st : Nat) (how : TxEnd) (s : State) :
    (lineEnd n st how s).store.ledger = s.store.ledger := by
  simp only [lineEnd]
  repeat' split
  all_goals simp
@[simp] theorem lineCut_ledger (n : Nat) (s : State) : (lineCut n s).store.ledger = s.store.ledger := by
  simp [lineCut]
@[simp] theorem linkDrop_ledger (n : Nat) (s : State) : (linkDrop n s).store.ledger = s.store.ledger := by
  simp [linkDrop]
@[simp] theorem doPortDisable_ledger (n : Fin 4) (s : State) : ledgerOf (doPortDisable n s) = some s.store.ledger := by
  simp [doPortDisable]
@[simp] theorem execLinkDown_ledger (n : Fin 4) (why : LinkCause) (s : State) :
    ledgerOf (execLinkDown n why s) = some s.store.ledger := by
  simp only [execLinkDown]
  repeat' split
  all_goals simp
@[simp] theorem execPcsLockLoss_ledger (n : Fin 4) (fec : Bool) (s : State) :
    ledgerOf (execPcsLockLoss n fec s) = some s.store.ledger := by
  simp [execPcsLockLoss]
@[simp] theorem rxDeliverOne_ledger (n : Nat) (q : Nat) (s : State) : (rxDeliverOne n q s).store.ledger = s.store.ledger := by
  simp only [rxDeliverOne]
  repeat' split
  all_goals simp
@[simp] theorem rxDeliver_ledger (n : Nat) (q : Nat) (s : State) : (rxDeliver n q s).store.ledger = s.store.ledger := by
  simp [rxDeliver]
@[simp] theorem rxAccept_ledger (n : Nat) (f : RxIn) (flags : Nat) (keep : Nat) (s : State) :
    (rxAccept n f flags keep s).store.ledger = s.store.ledger := by
  simp [rxAccept]
@[simp] theorem rxWhole_ledger (n : Nat) (f : RxIn) (s : State) : (rxWhole n f s).store.ledger = s.store.ledger := by
  simp [rxWhole]
@[simp] theorem rxFrame_ledger (n : Nat) (f : RxIn) (s : State) : (rxFrame n f s).store.ledger = s.store.ledger := by
  simp [rxFrame]
@[simp] theorem execRxFrame_ledger (n : Fin 4) (f : RxIn) (s : State) : ledgerOf (execRxFrame n f s) = some s.store.ledger := by
  simp [execRxFrame]
@[simp] theorem rxTail_ledger (n : Nat) (q : Nat) (tail : Nat) (bufs : List (BitVec 64)) (s : State) :
    (rxTail n q tail bufs s).store.ledger = s.store.ledger := by
  simp [rxTail]
@[simp] theorem doTailWrite_ledger (n : Fin 4) (q : QueueId) (tail : BitVec 12) (bufs : List (BitVec 64)) (s : State) :
    ledgerOf (doTailWrite n q tail bufs s) = some s.store.ledger := by
  simp only [doTailWrite]
  repeat' split
  all_goals simp
@[simp] theorem execTxDescriptorCheck_ledger (n : Fin 4) (q : Fin 8) (d : TxDesc) (s : State) :
    ledgerOf (execTxDescriptorCheck n q d s) = some s.store.ledger := by
  simp [execTxDescriptorCheck]
@[simp] theorem execTxFetchComplete_ledger (n : Fin 4) (q : Fin 8) (got : Option Nat) (s : State) :
    ledgerOf (execTxFetchComplete n q got s) = some s.store.ledger := by
  simp only [execTxFetchComplete]
  repeat' split
  all_goals simp
@[simp] theorem startFrame_ledger (n : Nat) (q : Nat) (t : Int) (h : TxHead) (s : State) :
    (startFrame n q t h s).store.ledger = s.store.ledger := by
  simp [startFrame]
@[simp] theorem execTxFrameStart_ledger (n : Fin 4) (t : Int) (s : State) :
    ledgerOf (execTxFrameStart n t s) = some s.store.ledger := by
  simp only [execTxFrameStart]
  repeat' split
  all_goals simp
@[simp] theorem execTxFrameDone_ledger (n : Fin 4) (s : State) : ledgerOf (execTxFrameDone n s) = some s.store.ledger := by
  simp only [execTxFrameDone]
  repeat' split
  all_goals simp
@[simp] theorem execTxUnderrun_ledger (n : Fin 4) (dma : Bool) (s : State) :
    ledgerOf (execTxUnderrun n dma s) = some s.store.ledger := by
  simp only [execTxUnderrun]
  repeat' split
  all_goals simp
@[simp] theorem portControl_ledger (n : Nat) (w : Word64) (s : State) : (portControl n w s).store.ledger = s.store.ledger := by
  simp only [portControl]
  repeat' split
  all_goals simp
@[simp] theorem doUartEnable_ledger (u : Fin 2) (data : BitVec 32) (s : State) :
    ledgerOf (doUartEnable u data s) = some s.store.ledger := by
  simp [doUartEnable]
@[simp] theorem execUartByte_ledger (u : Fin 2) (x : UartIn) (s : State) :
    ledgerOf (execUartByte u x s) = some s.store.ledger := by
  simp only [execUartByte]
  split <;> simp
@[simp] theorem jnlRequest_ledger (op : Nat) (type : Nat) (key : Nat) (b : List Byte) (s : State) :
    (jnlRequest op type key b s).store.ledger = s.store.ledger := by
  simp [jnlRequest]
@[simp] theorem modelRequest_ledger (p : Nat) (s : State) : (modelRequest p s).store.ledger = s.store.ledger := by
  simp [modelRequest]
@[simp] theorem modelLesson_ledger (s : State) : (modelLesson s).store.ledger = s.store.ledger := by
  simp only [modelLesson]
  repeat' split
  all_goals simp
@[simp] theorem modelWrite_ledger (p : Nat) (s : State) : (modelWrite p s).store.ledger = s.store.ledger := by
  simp [modelWrite]
@[simp] theorem compactLesson_ledger (s : State) : (compactLesson s).store.ledger = s.store.ledger := by
  simp [compactLesson]
@[simp] theorem execModelJournalWrite_ledger (p : Fin 8) (s : State) :
    ledgerOf (execModelJournalWrite p s) = some s.store.ledger := by
  simp [execModelJournalWrite]
theorem learnHandler_ledger (c : Command) (s : State) : (learnHandler c s).2.2.store.ledger = s.store.ledger := by
  simp only [learnHandler]
  repeat' split
  all_goals simp
@[simp] theorem execSetLearn_ledger (c : CmdWord) (s : State) : ledgerOf (execSetLearn c s) = some s.store.ledger := by
  exact congrArg some (commandRow_ledger _ _ _ _ s learnHandler_ledger)
@[simp] theorem execClearModel_ledger (c : CmdWord) (s : State) : ledgerOf (execClearModel c s) = some s.store.ledger := by
  exact congrArg some (commandRow_ledger _ _ _ _ s learnHandler_ledger)
@[simp] theorem execGetModel_ledger (c : CmdWord) (s : State) : ledgerOf (execGetModel c s) = some s.store.ledger := by
  exact congrArg some (commandRow_ledger _ _ _ _ s learnHandler_ledger)
@[simp] theorem syllabusCommands_ledger (s : State) : (syllabusCommands s).store.ledger = s.store.ledger := by
  simp [syllabusCommands, learnHandler_ledger, loopHandler_store, esmcHandler_store, timeHandler_store, rollHandler_store]
@[simp] theorem syllabusServices_ledger (s : State) : (syllabusServices s).store.ledger = s.store.ledger := by
  simp [syllabusServices]
@[simp] theorem syllabusBell_ledger (s : State) : (syllabusBell s).store.ledger = s.store.ledger := by
  simp [syllabusBell]
@[simp] theorem slotRespond_ledger (j : Nat) (op : Nat) (seq : Nat) (result : Nat) (len : Nat) (s : State) :
    (slotRespond j op seq result len s).store.ledger = s.store.ledger := by
  simp [slotRespond]
@[simp] theorem appendAnswer_ledger (who : JnlWriter) (result : Nat) (s : State) :
    (appendAnswer who result s).store.ledger = s.store.ledger := by
  simp only [appendAnswer]
  repeat' split
  all_goals simp
@[simp] theorem jnlAccept_ledger (r : JnlReq) (s : State) : (jnlAccept r s).store.ledger = s.store.ledger := by
  simp [jnlAccept]
@[simp] theorem doJnlAppend_ledger (s : State) : ledgerOf (doJnlAppend s) = some s.store.ledger := by
  simp [doJnlAppend]
@[simp] theorem execJnlSlotAppend_ledger (j : Fin 4) (s : State) : ledgerOf (execJnlSlotAppend j s) = some s.store.ledger := by
  simp only [execJnlSlotAppend]
  repeat' split
  all_goals simp
@[simp] theorem execJnlSlotFind_ledger (j : Fin 4) (s : State) : ledgerOf (execJnlSlotFind j s) = some s.store.ledger := by
  simp only [execJnlSlotFind]
  repeat' split
  all_goals simp
@[simp] theorem compactStart_ledger (s : State) : (compactStart s).store.ledger = s.store.ledger := by
  simp [compactStart]
@[simp] theorem compactOrder_ledger (s : State) : (compactOrder s).store.ledger = s.store.ledger := by
  simp [compactOrder]
@[simp] theorem doJnlCompact_ledger (s : State) : ledgerOf (doJnlCompact s) = some s.store.ledger := by
  simp [doJnlCompact]
@[simp] theorem execJnlSlotCompact_ledger (j : Fin 4) (s : State) :
    ledgerOf (execJnlSlotCompact j s) = some s.store.ledger := by
  simp only [execJnlSlotCompact]
  repeat' split
  all_goals simp
@[simp] theorem appendRun_ledger (r : JnlReq) (fails : List Nat) (s : State) :
    (appendRun r fails s).store.ledger = s.store.ledger := by
  have hattempts := appendAttempts_store (s.jnl.active.getD false) r.data.length fails 0 s
  simp only [appendRun]
  split <;> simp [hattempts]
@[simp] theorem execAppendComplete_ledger (fails : List (Fin 17)) (s : State) :
    ledgerOf (execAppendComplete fails s) = some s.store.ledger := by
  simp only [execAppendComplete]
  repeat' split
  all_goals simp
@[simp] theorem execCompactionEraseDone_ledger (ok : Bool) (s : State) :
    ledgerOf (execCompactionEraseDone ok s) = some s.store.ledger := by
  simp [execCompactionEraseDone]
@[simp] theorem execSnapshotCommit_ledger (s : State) : ledgerOf (execSnapshotCommit s) = some s.store.ledger := by
  simp [execSnapshotCommit]
@[simp] theorem execOldHalfEraseDone_ledger (ok : Bool) (s : State) :
    ledgerOf (execOldHalfEraseDone ok s) = some s.store.ledger := by
  simp [execOldHalfEraseDone]
@[simp] theorem execJournalScan_ledger (bad : List (Fin 64)) (s : State) :
    ledgerOf (execJournalScan bad s) = some s.store.ledger := by
  simp [execJournalScan]
@[simp] theorem norPut_ledger (a : Nat) (n : Nat) (f : Nat → Byte) (s : State) :
    (norPut a n f s).store.ledger = s.store.ledger := by
  simp [norPut]
@[simp] theorem execNorOperationComplete_ledger (ok : Bool) (s : State) :
    ledgerOf (execNorOperationComplete ok s) = some s.store.ledger := by
  simp only [execNorOperationComplete]
  repeat' split
  all_goals simp
@[simp] theorem execKeyProvisionComplete_ledger (ok : Bool) (s : State) :
    ledgerOf (execKeyProvisionComplete ok s) = some s.store.ledger := by
  simp only [execKeyProvisionComplete]
  repeat' split
  all_goals simp
@[simp] theorem portIslandReset_ledger (n : Nat) (s : State) : (portIslandReset n s).store.ledger = s.store.ledger := by
  simp [portIslandReset]
@[simp] theorem twinIslandReset_ledger (s : State) : (twinIslandReset s).store.ledger = s.store.ledger := by
  simp [twinIslandReset]
@[simp] theorem islandReset_ledger (i : Nat) (s : State) : (islandReset i s).store.ledger = s.store.ledger := by
  simp [islandReset]
@[simp] theorem applyAction_ledger (ev : Nat) (s : State) : (applyAction ev s).store.ledger = s.store.ledger := by
  simp only [applyAction]
  repeat' split
  all_goals simp
@[simp] theorem leaveClear_ledger (ev : Nat) (inst : Nat) (info : Nat) (s : State) :
    (leaveClear ev inst info s).store.ledger = s.store.ledger := by
  simp [leaveClear]
@[simp] theorem assertSource_ledger (ev : Nat) (inst : Nat) (info : Nat) (s : State) :
    (assertSource ev inst info s).store.ledger = s.store.ledger := by
  simp only [assertSource, withRequest_store]
  split
  · simp
  · split <;> simp
@[simp] theorem execFaultAssert_ledger (ev : Fin 128) (inst : Fin 256) (info : BitVec 24) (s : State) :
    ledgerOf (execFaultAssert ev inst info s) = some s.store.ledger := by
  simp [execFaultAssert]
@[simp] theorem execGraceExpiry_ledger (ev : Fin 128) (s : State) : ledgerOf (execGraceExpiry ev s) = some s.store.ledger := by
  simp [execGraceExpiry]
@[simp] theorem doFltAck_ledger (src : Fin 128) (late : Bool) (s : State) :
    ledgerOf (doFltAck src late s) = some s.store.ledger := by
  simp only [doFltAck]
  repeat' split
  all_goals simp
@[simp] theorem lifeRecord_ledger (s : State) : (lifeRecord s).store.ledger = s.store.ledger := by
  simp [lifeRecord]
@[simp] theorem doLifeSave_ledger (s : State) : ledgerOf (doLifeSave s) = some s.store.ledger := by
  simp [doLifeSave]
@[simp] theorem execLifetimeRecordWrite_ledger (s : State) : ledgerOf (execLifetimeRecordWrite s) = some s.store.ledger := by
  simp [execLifetimeRecordWrite]
@[simp] theorem applyWord_ledger (i : Nat) (w : Word64) (s : State) : (applyWord i w s).store.ledger = s.store.ledger := by
  simp only [applyWord]
  repeat' split
  all_goals simp
@[simp] theorem applyCommits_ledger (s : State) : (applyCommits s).store.ledger = s.store.ledger := by
  simp [applyCommits]
@[simp] theorem bellWork_ledger (s : State) : (bellWork s).store.ledger = s.store.ledger := by
  simp [bellWork]
@[simp] theorem execBell_ledger (s : State) : ledgerOf (execBell s) = some s.store.ledger := by
  simp [execBell]
@[simp] theorem State.dies_ledger (s : State) : s.dies.store.ledger = s.store.ledger := rfl
@[simp] theorem pinAssert_ledger (rail : Nat) (s : State) : (pinAssert rail s).store.ledger = s.store.ledger := by
  simp [pinAssert]
@[simp] theorem porAssert_ledger (rail : Nat) (s : State) : (porAssert rail s).store.ledger = s.store.ledger := by
  simp [porAssert]
@[simp] theorem execPor_ledger (x : PorIn) (s : State) : ledgerOf (execPor x s) = some s.store.ledger := by
  simp [execPor]
@[simp] theorem execPinReset_ledger (x : PinIn) (s : State) : ledgerOf (execPinReset x s) = some s.store.ledger := by
  simp [execPinReset]
@[simp] theorem outWordsClear_ledger (s : State) : (outWordsClear s).store.ledger = s.store.ledger := by
  simp [outWordsClear]
@[simp] theorem softReset_ledger (kind : Nat) (s : State) : (softReset kind s).store.ledger = s.store.ledger := by
  simp [softReset]
@[simp] theorem doSoftReset_ledger (s : State) : ledgerOf (doSoftReset s) = some s.store.ledger := by
  simp [doSoftReset]
@[simp] theorem execWdogExpiry_ledger (s : State) : ledgerOf (execWdogExpiry s) = some s.store.ledger := by
  simp [execWdogExpiry]
@[simp] theorem execHeartbeatReceive_ledger (lane : Fin 2) (crcOk : Bool) (h : Heartbeat) (s : State) :
    ledgerOf (execHeartbeatReceive lane crcOk h s) = some s.store.ledger := by
  simp [execHeartbeatReceive]
@[simp] theorem doIslandGo_ledger (i : Fin 32) (s : State) : ledgerOf (doIslandGo i s) = some s.store.ledger := by
  simp [doIslandGo]
@[simp] theorem execIslandPowerFault_ledger (i : Fin 32) (s : State) :
    ledgerOf (execIslandPowerFault i s) = some s.store.ledger := by
  simp [execIslandPowerFault]
@[simp] theorem execSupplyRecovery_ledger (r : Fin 9) (us : Nat) (s : State) :
    ledgerOf (execSupplyRecovery r us s) = some s.store.ledger := by
  simp [execSupplyRecovery]
@[simp] theorem dllsLose_ledger (s : State) : (dllsLose s).store.ledger = s.store.ledger := by
  simp [dllsLose]
@[simp] theorem apllsLose_ledger (s : State) : (apllsLose s).store.ledger = s.store.ledger := by
  simp [apllsLose, apply_ite State.store]
@[simp] theorem norRailLost_ledger (s : State) : (norRailLost s).store.ledger = s.store.ledger := by
  simp only [norRailLost]
  repeat' split
  all_goals simp
@[simp] theorem railLost_ledger (r : Nat) (s : State) : (railLost r s).store.ledger = s.store.ledger := by
  simp only [railLost]
  repeat' split
  all_goals simp
@[simp] theorem execRailResetCrossing_ledger (r : Fin 9) (s : State) :
    ledgerOf (execRailResetCrossing r s) = some s.store.ledger := by
  simp [execRailResetCrossing]
@[simp] theorem doPowerStateGo_ledger (target : Fin 4) (s : State) :
    ledgerOf (doPowerStateGo target s) = some s.store.ledger := by
  simp [doPowerStateGo]
@[simp] theorem standbyEnter_ledger (s : State) : (standbyEnter s).store.ledger = s.store.ledger := by
  simp only [standbyEnter]
  repeat' split
  all_goals simp
@[simp] theorem dozeEnter_ledger (off : Bool) (s : State) : (dozeEnter off s).store.ledger = s.store.ledger := by
  simp [dozeEnter]
@[simp] theorem powerArrive_ledger (t : Nat) (s : State) : (powerArrive t s).store.ledger = s.store.ledger := by
  simp only [powerArrive]
  repeat' split
  all_goals simp
@[simp] theorem powerRecord_ledger (s : State) : (powerRecord s).store.ledger = s.store.ledger := by
  simp [powerRecord]
@[simp] theorem execPowerTransitionComplete_ledger (s : State) :
    ledgerOf (execPowerTransitionComplete s) = some s.store.ledger := by
  simp only [execPowerTransitionComplete]
  repeat' split
  all_goals simp
@[simp] theorem tdcTested_ledger (ch : Nat) (hits : List Nat) (mean : Int) (sd : Int) (s : State) :
    (tdcTested ch hits mean sd s).store.ledger = s.store.ledger := by
  simp [tdcTested]
@[simp] theorem replaceRow_ledger (row : Nat) (s : State) : (replaceRow row s).store.ledger = s.store.ledger := by
  simp [replaceRow]
@[simp] theorem dramTested_ledger (rows : List Nat) (s : State) : (dramTested rows s).store.ledger = s.store.ledger := by
  simp only [dramTested]
  repeat' split
  all_goals simp
@[simp] theorem execBistComplete_ledger (x : BistOut) (s : State) : ledgerOf (execBistComplete x s) = some s.store.ledger := by
  simp only [execBistComplete]
  repeat' split
  all_goals simp
@[simp] theorem doSaveTdc_ledger (fail : Bool) (s : State) : ledgerOf (doSaveTdc fail s) = some s.store.ledger := by
  simp [doSaveTdc]
@[simp] theorem doSaveApll_ledger (fail : Bool) (s : State) : ledgerOf (doSaveApll fail s) = some s.store.ledger := by
  simp [doSaveApll]
@[simp] theorem execDramScrub_ledger (word : BitVec 24) (ecc : Ecc) (s : State) :
    ledgerOf (execDramScrub word ecc s) = some s.store.ledger := by
  simp [execDramScrub]
@[simp] theorem scanStart_ledger (s : State) : (scanStart s).store.ledger = s.store.ledger := rfl
@[simp] theorem execJtagScanInt_ledger (s : State) : ledgerOf (execJtagScanInt s) = some s.store.ledger := by
  simp [execJtagScanInt]
@[simp] theorem devWrite_ledger (a : Nat) (v : Nat) (fs : List Fld) (s : State) :
    (devWrite a v fs s).store.ledger = s.store.ledger := by
  simp [devWrite]
@[simp] theorem pwrWrite_ledger (a : Nat) (v : Nat) (fs : List Fld) (s : State) :
    (pwrWrite a v fs s).store.ledger = s.store.ledger := by
  simp [pwrWrite]
@[simp] theorem fltWrite_ledger (a : Nat) (v : Nat) (fs : List Fld) (s : State) :
    (fltWrite a v fs s).store.ledger = s.store.ledger := by
  simp [fltWrite]
@[simp] theorem secWrite_ledger (a : Nat) (v : Nat) (fs : List Fld) (s : State) :
    (secWrite a v fs s).store.ledger = s.store.ledger := by
  simp [secWrite]
@[simp] theorem engWrite_ledger (n : Nat) (off : Nat) (v : Nat) (fs : List Fld) (s : State) :
    (engWrite n off v fs s).store.ledger = s.store.ledger := by
  simp [engWrite]
@[simp] theorem queueWrite_ledger (n : Nat) (q : QueueId) (en : Fld) (j : Nat) (v : Nat) (fs : List Fld) (s : State) :
    (queueWrite n q en j v fs s).store.ledger = s.store.ledger := by
  simp only [queueWrite]
  repeat' split
  all_goals simp
@[simp] theorem ethWrite_ledger (n : Nat) (off : Nat) (v : Nat) (fs : List Fld) (s : State) :
    (ethWrite n off v fs s).store.ledger = s.store.ledger := by
  simp only [ethWrite]
  repeat' split
  all_goals simp
@[simp] theorem lateWrite_ledger (a : Nat) (v : Nat) (fs : List Fld) (s : State) :
    (lateWrite a v fs s).store.ledger = s.store.ledger := by
  simp only [lateWrite]
  repeat' split
  all_goals simp
@[simp] theorem regEffect_ledger (a v : Nat) (fs : List Fld) (s : State) :
    (regEffect a v fs s).store.ledger = s.store.ledger := by
  unfold regEffect
  simp
@[simp] theorem regWrite_ledger (a : Nat) (d : Word32) (s : State) : (regWrite a d s).store.ledger = s.store.ledger := by
  unfold regWrite
  split
  · rfl
  · rw [nextOr_store, ledger_getD (withWrite_ledger _ _ _ fun s => ?_)]
    · split <;> simp
    · simp
@[simp] theorem direct_ledger (a : Nat) (w : Option Word32) (s : State) : (direct a w s).s.store.ledger = s.store.ledger := by
  simp only [direct]
  repeat' split
  all_goals simp
@[simp] theorem pairAccess_ledger (n : Nat) (w : Option Word32) (s : State) :
    (pairAccess n w s).s.store.ledger = s.store.ledger := by
  simp only [pairAccess]
  repeat' split
  all_goals simp
@[simp] theorem legWrite_ledger (i : Nat) (d : Word32) (s : State) : (legWrite i d s).s.store.ledger = s.store.ledger := by
  simp only [legWrite]
  repeat' split
  all_goals simp
@[simp] theorem fabric_ledger (a : Nat) (w : Option Word32) (s : State) : (fabric a w s).s.store.ledger = s.store.ledger := by
  simp only [fabric]
  repeat' split
  all_goals simp
@[simp] theorem homeAccess_ledger (a : Nat) (w : Option Word32) (s : State) :
    (homeAccess a w s).s.store.ledger = s.store.ledger := by
  simp only [homeAccess]
  repeat' split
  all_goals simp
@[simp] theorem Burst.more_ledger (b : Burst) (w : Option Word32) : (Burst.more b w).s.store.ledger = b.s.store.ledger := by
  simp [Burst.more]
theorem burst_ledger {α : Type} (f : α → Option Word32) (l : List α) (b : Burst) :
    (l.foldl (fun b w => b.more (f w)) b).s.store.ledger = b.s.store.ledger := by
  induction l generalizing b with
  | nil => rfl
  | cons w l ih => exact (ih _).trans (Burst.more_ledger ..)
@[simp] theorem readBurst_ledger (a n : Nat) (s : State) : (readBurst a n s).s.store.ledger = s.store.ledger := by
  exact burst_ledger (fun _ => none) _ _
@[simp] theorem writeBurst_ledger (a : Nat) (l : List Word32) (s : State) :
    (writeBurst a l s).s.store.ledger = s.store.ledger := by
  exact burst_ledger some _ _
@[simp] theorem execRegisterWrite_ledger (addr : BitVec 18) (data : BitVec 32) (s : State) :
    ledgerOf (execRegisterWrite addr data s) = some s.store.ledger := by
  simp [execRegisterWrite]
@[simp] theorem execPairLoRead_ledger (addr : BitVec 18) (s : State) :
    ledgerOf (execPairLoRead addr s) = some s.store.ledger := by
  simp [execPairLoRead]
@[simp] theorem execIxaWrite_ledger (n : Fin 16) (data : BitVec 32) (s : State) :
    ledgerOf (execIxaWrite n data s) = some s.store.ledger := by
  simp [execIxaWrite]
@[simp] theorem execIxdAccess_ledger (n : Fin 16) (w : Option (BitVec 32)) (s : State) :
    ledgerOf (execIxdAccess n w s) = some s.store.ledger := by
  simp [execIxdAccess]
@[simp] theorem execLegWrite_ledger (idx : Fin 256) (data : BitVec 32) (s : State) :
    ledgerOf (execLegWrite idx data s) = some s.store.ledger := by
  simp [execLegWrite]
@[simp] theorem execSpiRead_ledger (addr : BitVec 24) (x : SpiReadIn) (s : State) :
    ledgerOf (execSpiRead addr x s) = some s.store.ledger := by
  simp [execSpiRead]
@[simp] theorem execSpiWrite_ledger (addr : BitVec 24) (words : List (BitVec 32)) (partWord : Bool) (drop : List Nat) (s : State) :
    ledgerOf (execSpiWrite addr words partWord drop s) = some s.store.ledger := by
  simp [execSpiWrite]
@[simp] theorem execI2cWrite_ledger (addr : BitVec 24) (words : List (BitVec 32)) (partWord : Bool) (s : State) :
    ledgerOf (execI2cWrite addr words partWord s) = some s.store.ledger := by
  simp [execI2cWrite]
@[simp] theorem i2cReads_ledger (a : Nat) (n : Nat) (s : State) : (i2cReads a n s).store.ledger = s.store.ledger := by
  simp [i2cReads]
@[simp] theorem execI2cRead_ledger (addr : BitVec 24) (n : Nat) (s : State) :
    ledgerOf (execI2cRead addr n s) = some s.store.ledger := by
  simp [execI2cRead]
@[simp] theorem execI2cCurrentRead_ledger (n : Nat) (s : State) : ledgerOf (execI2cCurrentRead n s) = some s.store.ledger := by
  simp [execI2cCurrentRead]
@[simp] theorem hostRings_ledger (s : State) : (hostRings s).store.ledger = s.store.ledger := by
  simp [hostRings]
@[simp] theorem bar0Read_ledger (o : Nat) (s : State) : (bar0Read o s).s.store.ledger = s.store.ledger := by
  simp only [bar0Read]
  repeat' split
  all_goals simp
@[simp] theorem bar0Write_ledger (o : Nat) (x : PcieDw) (s : State) : (bar0Write o x s).store.ledger = s.store.ledger := by
  simp [bar0Write]
theorem bar0Reads_ledger (o : Nat) (l : List Nat) (p : State × List Word32) : (l.foldl (fun (p : State × List Word32) i =>
    let x := bar0Read (o + 4 * i) p.1; (x.s, p.2 ++ [x.data])) p).1.store.ledger = p.1.store.ledger := by
  induction l generalizing p with
  | nil => rfl
  | cons i l ih => exact (ih _).trans (bar0Read_ledger ..)
@[simp] theorem execPcieRead_ledger (off : BitVec 17) (n : Nat) (s : State) :
    ledgerOf (execPcieRead off n s) = some s.store.ledger := by
  simp only [execPcieRead]
  split
  · rfl
  · simpa using bar0Reads_ledger _ _ (s, [])
@[simp] theorem execPcieWrite_ledger (off : BitVec 17) (words : List PcieDw) (s : State) :
    ledgerOf (execPcieWrite off words s) = some s.store.ledger := by
  simp [execPcieWrite]
@[simp] theorem execPcieLinkUp_ledger (width : Fin 16) (speed : Fin 16) (s : State) :
    ledgerOf (execPcieLinkUp width speed s) = some s.store.ledger := by
  simp [execPcieLinkUp]
@[simp] theorem execPcieConfigWrite_ledger (x : PcieCfg) (s : State) :
    ledgerOf (execPcieConfigWrite x s) = some s.store.ledger := by
  simp only [execPcieConfigWrite]
  repeat' split
  all_goals simp
@[simp] theorem execJtagFabric_ledger (acc : Option FabricAcc) (s : State) :
    ledgerOf (execJtagFabric acc s) = some s.store.ledger := by
  simp only [execJtagFabric]
  repeat' split
  all_goals simp
@[simp] theorem execEngStep_ledger (e : Fin 17) (f : Ecc) (ecc : Ecc × Ecc) (s : State) :
    ledgerOf (execEngStep e f ecc s) = some s.store.ledger := by
  exact hostCmd_ledger _ _ s (by simp)
@[simp] theorem execUartEnable_ledger (u : Fin 2) (data : BitVec 32) (s : State) :
    ledgerOf (execUartEnable u data s) = some s.store.ledger := by
  exact hostCmd_ledger _ _ s (by simp)
@[simp] theorem execPortDisable_ledger (n : Fin 4) (s : State) : ledgerOf (execPortDisable n s) = some s.store.ledger := by
  exact hostCmd_ledger _ _ s (by simp)
@[simp] theorem execTailWrite_ledger (n : Fin 4) (q : QueueId) (tail : BitVec 12) (bufs : List (BitVec 64)) (s : State) :
    ledgerOf (execTailWrite n q tail bufs s) = some s.store.ledger := by
  exact hostCmd_ledger _ _ s (by simp)
@[simp] theorem execTwinEnable_ledger (s : State) : ledgerOf (execTwinEnable s) = some s.store.ledger := by
  exact hostCmd_ledger _ _ s (by simp)
@[simp] theorem execTwinDisable_ledger (s : State) : ledgerOf (execTwinDisable s) = some s.store.ledger := by
  exact hostCmd_ledger _ _ s (by simp)
@[simp] theorem execTwinDemote_ledger (s : State) : ledgerOf (execTwinDemote s) = some s.store.ledger := by
  exact hostCmd_ledger _ _ s (by simp)
@[simp] theorem execFltAck_ledger (src : Fin 128) (late : Bool) (s : State) :
    ledgerOf (execFltAck src late s) = some s.store.ledger := by
  exact hostCmd_ledger _ _ s (by simp)
@[simp] theorem execLifeSave_ledger (s : State) : ledgerOf (execLifeSave s) = some s.store.ledger := by
  exact hostCmd_ledger _ _ s (by simp)
@[simp] theorem execPowerStateGo_ledger (target : Fin 4) (s : State) :
    ledgerOf (execPowerStateGo target s) = some s.store.ledger := by
  exact hostCmd_ledger _ _ s (by simp)
@[simp] theorem execSoftReset_ledger (s : State) : ledgerOf (execSoftReset s) = some s.store.ledger := by
  exact hostCmd_ledger _ _ s (by simp)
@[simp] theorem execIslandGo_ledger (i : Fin 32) (s : State) : ledgerOf (execIslandGo i s) = some s.store.ledger := by
  exact hostCmd_ledger _ _ s (by simp)
@[simp] theorem execJnlAppend_ledger (s : State) : ledgerOf (execJnlAppend s) = some s.store.ledger := by
  exact hostCmd_ledger _ _ s (by simp)
@[simp] theorem execJnlCompact_ledger (s : State) : ledgerOf (execJnlCompact s) = some s.store.ledger := by
  exact hostCmd_ledger _ _ s (by simp)
@[simp] theorem execSaveTdc_ledger (fail : Bool) (s : State) : ledgerOf (execSaveTdc fail s) = some s.store.ledger := by
  exact hostCmd_ledger _ _ s (by simp)
@[simp] theorem execSaveApll_ledger (fail : Bool) (s : State) : ledgerOf (execSaveApll fail s) = some s.store.ledger := by
  exact hostCmd_ledger _ _ s (by simp)
/-! ### The two commands that program fuses (R461, R463) -/

/-- A command answers a next state with the queue as it was and no fuse bit less. -/
def Answers (o : Out) (s : State) : Prop :=
  ∃ t, o = .next t ∧ t.pending = s.pending ∧ gains s.fuses.fields t.fuses.fields

theorem answers_of_ledger {o : Out} {s : State} (h : ledgerOf o = some s.store.ledger) : Answers o s := by
  cases o with
  | next t =>
    have hl : t.store.ledger = s.store.ledger := Option.some.inj h
    obtain ⟨hq, hf⟩ := Prod.mk.inj hl
    exact ⟨t, rfl, hq, fun k i hk => by rw [show t.fuses.fields = s.fuses.fields from hf]; exact hk⟩
  | fault r => cases h
  | refused r => cases h

theorem gains_refl (l : List Nat) : gains l l := fun _ _ h => h

/-- R461: the rollback number only rises, so its field only gains bits. -/
theorem rollbackAdvance_gains (v : Nat) (s : State) : gains s.fuses.fields (rollbackAdvance v s).fuses.fields := by
  unfold rollbackAdvance
  split
  case isTrue hv =>
    refine gains_set (l := s.fuses.fields) 4 (2 ^ v - 1) (gains_refl _) (by simp [FuseSt.fields]) fun i hi => ?_
    simp only [FuseSt.fields, List.getD_cons_succ, List.getD_cons_zero, Nat.testBit_two_pow_sub_one, decide_eq_true_eq] at hi ⊢
    omega
  case isFalse => exact gains_refl _

theorem fuseProgramComplete_answers (ok : Bool) (s : State) : Answers (exec (.fuseProgramComplete ok) s) s := by
  refine ⟨_, rfl, ?_⟩
  cases s.fuses.busy with
  | none => exact ⟨rfl, gains_refl _⟩
  | some b =>
    rw [State.wrs_pending, State.wrs_fuses]
    exact ⟨by cases ok <;> rfl, gains_put s b.1 _ none (gains_refl _)⟩

theorem loadComplete_answers (a b : ImageSet) (s : State) : Answers (exec (.loadComplete a b) s) s := by
  by_cases hload : s.rd Reg.DEV_LOAD_CMD_LOAD = 0
  · exact ⟨s, exec_loadComplete_idle hload, rfl, gains_refl _⟩
  by_cases hgood : (s.loadTries a b).2.1.1 = 1
  · refine ⟨_, exec_loadComplete_good hload hgood, ?_⟩
    generalize hx : (if (s.loadTries a b).1 = 0 then a else b) = x
    have hstore : ((loadWrite (s.loadTries a b).1 x (s.advanced a b)).raise 103 noInst).store = (s.advanced a b).store := by simp
    obtain ⟨g, f, hadvanced⟩ := s.advanced_frame a b
    obtain ⟨g', hreported⟩ := s.reported_frame a b
    have hfuses : (s.reported a b).fuses = s.fuses := by rw [hreported]
    refine ⟨(congrArg Prod.fst hstore).trans (by rw [hadvanced]; rfl), ?_⟩
    rw [show FuseSt.fields _ = (s.advanced a b).fuses.fields from congrArg (·.2.2.2.2.2) hstore, ← hfuses]
    exact rollbackAdvance_gains _ _
  · refine ⟨_, exec_loadComplete_failed hload hgood, ?_⟩
    obtain ⟨g, hg⟩ := s.reported_frame a b
    rw [hg]
    exact ⟨rfl, gains_refl _⟩

/-- Every command but these two leaves the ledger. -/
theorem exec_ledger (c : Instr) (s : State) (hstores : c.stores = true) (hfuse : ∀ ok, c ≠ .fuseProgramComplete ok)
    (hload : ∀ a b, c ≠ .loadComplete a b) : ledgerOf (exec c s) = some s.store.ledger := by
  revert hstores hfuse hload
  cases c <;> simp [Instr.stores, exec]

/-- Every command answers a next state, keeps the queue and clears no fuse bit. -/
theorem exec_answers (c : Instr) (s : State) : Answers (exec c s) s := by
  by_cases hfuse : ∃ ok, c = .fuseProgramComplete ok
  · obtain ⟨ok, rfl⟩ := hfuse
    exact fuseProgramComplete_answers ok s
  by_cases hload : ∃ a b, c = .loadComplete a b
  · obtain ⟨a, b, rfl⟩ := hload
    exact loadComplete_answers a b s
  cases hc : c.stores with
  | false => exact answers_of_ledger (ledgerOf_of_storeOf (exec_store c s hc))
  | true => exact answers_of_ledger (exec_ledger c s hc (not_exists.mp hfuse) fun a => not_exists.mp (not_exists.mp hload a))

/-! ### Steps -/

/-- Settles O55: by the definition of a step. -/
theorem stepTakesTheFront : Obligations.step_takes_the_front := by
  unfold Obligations.step_takes_the_front
  exact fun c q s => step_of_cons rfl

/-- A step answers a next state, takes the front of the queue and clears no fuse bit. -/
theorem step_answers (s : State) : ∃ t, step s = .next t ∧ t.pending = s.pending.tail ∧ gains s.fuses.fields t.fuses.fields := by
  cases hp : s.pending with
  | nil =>
    refine ⟨tick s, step_of_nil hp, (congrArg Prod.fst (tick_store s)).trans hp, ?_⟩
    rw [show (tick s).fuses.fields = s.fuses.fields from congrArg (·.2.2.2.2.2) (tick_store s)]
    exact gains_refl _
  | cons c rest =>
    obtain ⟨t, ht, hpending, hfuses⟩ := exec_answers c { s with pending := rest }
    exact ⟨t, (step_of_cons hp).trans ht, hpending, hfuses⟩

/-- Settles O56: the laws of the single commands, through `exec_answers` and `step_answers`. -/
theorem everyStepAnswers : Obligations.every_step_answers := by
  unfold Obligations.every_step_answers
  refine ⟨fun c s => ?_, fun s => ?_⟩
  · obtain ⟨t, ht, hpending, -⟩ := exec_answers c s
    exact ⟨t, ht, hpending⟩
  · obtain ⟨t, ht, hpending, -⟩ := step_answers s
    exact ⟨t, ht, hpending⟩

/-- The fields by their selection: the factory's, which nothing programs, and the seven of the store. -/
theorem State.fuseField_succ (s : State) {k : Nat} (hk : k < 7) : s.fuseField (k + 1) = s.fuses.fields.getD k 0 := by
  interval_cases k <;> rfl

/-- Settles O58: a step gains fuse bits (`step_answers`), and the field of the factory is fixed. -/
theorem fusesOnlyGainBits : Obligations.fuses_only_gain_bits := by
  unfold Obligations.fuses_only_gain_bits
  intro s t sel i hsel hstep hbit
  obtain ⟨t', ht', -, hgains⟩ := step_answers s
  obtain rfl : t = t' := Host.Outcome.next.inj (hstep.symm.trans ht')
  cases sel with
  | zero => exact hbit
  | succ k =>
    rw [State.fuseField_succ _ (by omega)] at hbit ⊢
    exact hgains k i hbit

end Sys2Proof.Machine
end


section
/-! PROOFS. The stamp queue and the SyncE rate of the Ethernet ports (R320, R340): O34. -/
namespace Sys2Proof.Machine
variable {s t u : State}

/-! ### Frames by registers, built up write by write -/

theorem State.regsBut.wr {l : List Fld} {f : Fld} (h : s.regsBut l t) (hf : f ∈ l) (v : Nat) : s.regsBut l (t.wr f v) :=
  h.trans (t.regsBut_wr hf v)

theorem State.regsBut.bump {l : List Fld} {f : Fld} (h : s.regsBut l t) (hf : f ∈ l) (k : Nat) : s.regsBut l (t.bump f k) :=
  h.wr hf _

theorem State.regsBut.wrs {l : List Fld} (h : s.regsBut l t) (ws : List (Fld × Nat)) (hw : ∀ p ∈ ws, p.1 ∈ l) :
    s.regsBut l (t.wrs ws) :=
  h.trans (t.regsBut_wrs ws hw)

/-- What leaves the registers as they were keeps the frame. -/
theorem State.regsBut.same {l : List Fld} (h : s.regsBut l t) (hu : u.regs = t.regs) : s.regsBut l u :=
  h.trans (State.regsBut_of_regs_eq hu l)

/-! ### The SyncE rate (R320) -/

theorem exec_synceTxRateUpdate (n : Fin 4) (s : State) :
    let x := s.port n
    let rate := x.rate + max (-720575940379) (min 720575940379 (s.synceTarget n - x.rate))
    exec (.synceTxRateUpdate n) s = .next (s.putPort n { x with rate := rate, grid := if rate = 0 then x.grid else none }) := rfl

theorem State.port_putPort_others (n : Fin 4) (x : PortSt) (s : State) :
    ∀ k, k ≠ n.val → (s.putPort n x).port k = s.port k :=
  fun _ hk => State.port_put_ne s (Ne.symm hk) x

/-! ### A read of TXTS_ID (R340) -/

/-- The state after a read of TXTS_ID answers the word of the register. -/
def txtsRead (n : Nat) (s : State) : State :=
  { txtsTake n s with hostRead := [(txtsTake n s).readWord (Reg.PTP_TXTS_ID_VALID n).addr] }

theorem exec_txtsIdRead {n : Fin 4} (h : s.hostReads (Reg.PTP_TXTS_ID_VALID n).addr) :
    exec (.txtsIdRead n) s = .next (txtsRead n s) := by
  have hr := hostRead_reaches (fun s => .next (txtsRead n s)) h
  exact hr

theorem txtsTake_empty {n : Nat} (h : (s.port n).txts = []) : txtsTake n s = s.wr (Reg.PTP_TXTS_ID_VALID n) 0 := by
  simp only [txtsTake, h]

/-- The registers of the oldest entry. -/
def txtsWords (n : Nat) (e : TxtsEnt) : List (Fld × Nat) :=
  [(Reg.PTP_TXTS_ID_VALID n, 1), (Reg.PTP_TXTS_ID_GAP n, e.gap.toNat), (Reg.PTP_TXTS_ID_ABORTED n, e.aborted.toNat),
   (Reg.PTP_TXTS_ID_COARSE n, e.coarse.toNat), (Reg.PTP_TXTS_ID_LOST n, e.lost), (Reg.PTP_TXTS_ID_ID n, e.id),
   (Reg.PTP_TXTS_S_LO_S n, e.stamp / 65536 / 10 ^ 9), (Reg.PTP_TXTS_S_HI_S n, e.stamp / 65536 / 10 ^ 9 / 2 ^ 32),
   (Reg.PTP_TXTS_NS_NS n, e.stamp / 65536 % 10 ^ 9), (Reg.PTP_TXTS_FRAC_FRAC n, e.stamp % 65536)]

theorem txtsTake_oldest {n : Nat} {e : TxtsEnt} {rest : List TxtsEnt} (h : (s.port n).txts = e :: rest) :
    txtsTake n s = (s.putPort n { s.port n with txts := rest }).wrs (txtsWords n e) := by
  simp only [txtsTake, h, txtsWords]

theorem txtsWords_keys (n : Nat) (e : TxtsEnt) : ((txtsWords n e).map (fun p => p.1.key)).Nodup := by
  simp [txtsWords]; omega

/-- After a read, each register of the oldest entry shows its part. -/
theorem rd_txtsTake {n : Nat} {e : TxtsEnt} {rest : List TxtsEnt} (h : (s.port n).txts = e :: rest) {f : Fld} {v : Nat}
    (hf : (f, v) ∈ txtsWords n e) : (txtsTake n s).rd f = v % 2 ^ f.width := by
  rw [txtsTake_oldest h]
  exact State.rd_wrs_mem _ (txtsWords_keys n e) hf

theorem txtsTake_port {n : Nat} {e : TxtsEnt} {rest : List TxtsEnt} (h : (s.port n).txts = e :: rest) :
    (txtsTake n s).port n = { s.port n with txts := rest } := by
  simp [txtsTake_oldest h]

theorem txtsTake_frame {n : Nat} {e : TxtsEnt} {rest : List TxtsEnt} (h : (s.port n).txts = e :: rest) :
    ∃ r p, txtsTake n s = { s with regs := r, ports := p } := by
  obtain ⟨r, hr⟩ := (s.putPort n { s.port n with txts := rest }).wrs_frame (txtsWords n e)
  exact ⟨r, _, by rw [txtsTake_oldest h, hr]; rfl⟩

/-! ### A write that moves the stamp queue (R340) -/

theorem txtsEmpty_port (n : Nat) (s : State) :
    (txtsEmpty n s).port n = { s.port n with txts := [], pend := (s.port n).pend + s.txtsLevel n, wr := 0, rd := 0 } := by
  simp [txtsEmpty]

theorem txtsEmpty_frame (n : Nat) (s : State) : ∃ r p, txtsEmpty n s = { s with regs := r, ports := p } := ⟨_, _, rfl⟩

/-- The queue of port `n` is empty in `t`, and what it held counts as lost. -/
def State.txtsLost (s : State) (n : Nat) (t : State) : Prop :=
  (t.port n).txts = [] ∧ (t.port n).pend = (s.port n).pend + s.txtsLevel n ∧ (t.port n).wr = 0 ∧ (t.port n).rd = 0 ∧
    t.rd (Reg.PTP_TXTS_OVF_COUNT n) = (s.rd (Reg.PTP_TXTS_OVF_COUNT n) + s.txtsLevel n) % 2 ^ (Reg.PTP_TXTS_OVF_COUNT n).width

theorem txtsEmpty_lost (n : Nat) (s : State) : s.txtsLost n (txtsEmpty n s) := by
  simp [State.txtsLost, txtsEmpty]

theorem txtsEmpty_regsBut (n : Nat) (s : State) : s.regsBut [Reg.PTP_TXTS_OVF_COUNT n] (txtsEmpty n s) :=
  .bump (.same (s.regsBut_refl _) rfl) (by simp) _

/-- A register write leaves the emptied queue empty. -/
theorem State.txtsLost.wrs {n : Nat} {l : List (Fld × Nat)} (h : s.txtsLost n t)
    (hl : ∀ p ∈ l, p.1.key ≠ (Reg.PTP_TXTS_OVF_COUNT n).key) : s.txtsLost n (t.wrs l) := by
  obtain ⟨htxts, hpend, hwr, hrd, hovf⟩ := h
  exact ⟨by simpa using htxts, by simpa using hpend, by simpa using hwr, by simpa using hrd,
    (State.rd_wrs_ne t l hl).trans hovf⟩

theorem exec_txtsBaseWrite {n : Fin 4} (data : BitVec 32) (h : s.hostOpen (Reg.PTP_TXTS_BASE_ADDR n).addr) :
    exec (.txtsDestWrite n true data) s = .next ((txtsEmpty n s).wr (Reg.PTP_TXTS_BASE_ADDR n) (data.toNat / 1024)) :=
  hostCmd_plain _ (doTxtsDestWrite n true data) s _ h (by simp only [if_true, Reg.PTP_TXTS_BASE_ADDR]; omega)
    (by simp only [if_true, Reg.PTP_TXTS_BASE_ADDR]; omega) rfl

/-- The fields of PTPn.CFG and what a write of `v` puts there. -/
def txtsCfg (n v : Nat) : List (Fld × Nat) :=
  [(Reg.PTP_CFG_RX_STAMP n, v / 2 ^ 31), (Reg.PTP_CFG_TS n, v / 2 ^ 29), (Reg.PTP_CFG_FORCE_PASSIVE n, v / 2 ^ 28),
   (Reg.PTP_CFG_TXTS_DEST n, v / 2 ^ 27), (Reg.PTP_CFG_AUTH_EN n, v / 2 ^ 26)]

theorem txtsCfg_keys (n v : Nat) : ((txtsCfg n v).map (fun p => p.1.key)).Nodup := by
  simp [txtsCfg]

/-- A write of `v` to PTPn.CFG reaches the queue: it empties it where it moves TXTS_DEST. -/
def txtsTurned (n v : Nat) (s : State) : State :=
  if (v / 2 ^ 27) % 2 = s.rd (Reg.PTP_CFG_TXTS_DEST n) then s else txtsEmpty n s

theorem exec_txtsCfgWrite {n : Fin 4} (data : BitVec 32) (h : s.hostOpen (Reg.PTP_CFG_TS n).addr) :
    exec (.txtsDestWrite n false data) s = .next ((txtsTurned n data.toNat s).wrs (txtsCfg n data.toNat)) :=
  hostCmd_plain _ (doTxtsDestWrite n false data) s _ h (by simp only [Bool.false_eq_true, if_false, Reg.PTP_CFG_TS]; omega)
    (by simp only [Bool.false_eq_true, if_false, Reg.PTP_CFG_TS]; omega) rfl

theorem txtsTurned_frame (n v : Nat) (s : State) : ∃ r p, txtsTurned n v s = { s with regs := r, ports := p } := by
  unfold txtsTurned
  split
  · exact ⟨_, _, rfl⟩
  · exact txtsEmpty_frame n s

theorem txtsTurned_others (n v : Nat) (s : State) : ∀ k, k ≠ n → (txtsTurned n v s).port k = s.port k := by
  intro k hk
  unfold txtsTurned
  split
  · rfl
  · exact State.port_put_ne s (Ne.symm hk) _

theorem txtsTurned_regsBut (n v : Nat) (s : State) : s.regsBut [Reg.PTP_TXTS_OVF_COUNT n] (txtsTurned n v s) := by
  unfold txtsTurned
  split
  · exact s.regsBut_refl _
  · exact txtsEmpty_regsBut n s

/-- The state after a write to PTPn.CFG, in its parts. -/
theorem txtsCfgWritten (n v : Nat) (s : State) :
    let cfg := [Reg.PTP_CFG_RX_STAMP n, Reg.PTP_CFG_TS n, Reg.PTP_CFG_FORCE_PASSIVE n, Reg.PTP_CFG_TXTS_DEST n, Reg.PTP_CFG_AUTH_EN n]
    let t := (txtsTurned n v s).wrs (txtsCfg n v)
    (∀ f ∈ cfg, t.rd f = v / 2 ^ f.lo % 2 ^ f.width) ∧
    (v / 2 ^ 27 % 2 ≠ s.rd (Reg.PTP_CFG_TXTS_DEST n) → s.txtsLost n t) ∧
    (v / 2 ^ 27 % 2 = s.rd (Reg.PTP_CFG_TXTS_DEST n) → t.ports = s.ports) ∧
    (∀ k, k ≠ n → t.port k = s.port k) ∧ s.regsBut (Reg.PTP_TXTS_OVF_COUNT n :: cfg) t ∧
    t = { s with regs := t.regs, ports := t.ports } := by
  refine ⟨fun f hf => ?_, fun h => ?_, fun h => ?_, fun k hk => ?_, ?_, ?_⟩
  · have hmem : (f, v / 2 ^ f.lo) ∈ txtsCfg n v := by
      simp only [List.mem_cons, List.not_mem_nil, or_false] at hf
      obtain rfl | rfl | rfl | rfl | rfl := hf <;> simp [txtsCfg, Reg.PTP_CFG_RX_STAMP, Reg.PTP_CFG_TS,
        Reg.PTP_CFG_FORCE_PASSIVE, Reg.PTP_CFG_TXTS_DEST, Reg.PTP_CFG_AUTH_EN]
    exact State.rd_wrs_mem _ (txtsCfg_keys n v) hmem
  · rw [txtsTurned, if_neg h]
    exact (txtsEmpty_lost n s).wrs (by simp [txtsCfg]; omega)
  · rw [txtsTurned, if_pos h, State.wrs_ports]
  · rw [State.port_wrs, txtsTurned_others n v s k hk]
  · exact ((txtsTurned_regsBut n v s).mono (by simp)).wrs _ (by simp [txtsCfg])
  · obtain ⟨r, p, ht⟩ := txtsTurned_frame n v s
    obtain ⟨r', hr⟩ := (txtsTurned n v s).wrs_frame (txtsCfg n v)
    rw [hr, ht]

/-- A read of an empty queue clears VALID. -/
theorem txtsRead_empty {n : Nat} (h : (s.port n).txts = []) : let valid := Reg.PTP_TXTS_ID_VALID n
    (txtsRead n s).rd valid = 0 ∧ s.regsBut [valid] (txtsRead n s) ∧
    txtsRead n s = { s with regs := (txtsRead n s).regs, hostRead := (txtsRead n s).hostRead } := by
  simp only [txtsRead, txtsTake_empty h]
  exact ⟨by simp, State.regsBut.same (t := s.wr (Reg.PTP_TXTS_ID_VALID n) 0) (s.regsBut_wr List.mem_cons_self 0) rfl, rfl⟩

/-- Outside the words of the oldest entry a read leaves the registers. -/
theorem txtsRead_regsBut {n : Nat} {e : TxtsEnt} {rest : List TxtsEnt} (h : (s.port n).txts = e :: rest) :
    s.regsBut ((txtsWords n e).map Prod.fst) (txtsRead n s) := by
  refine State.regsBut.same (t := txtsTake n s) ?_ rfl
  have hport : s.regsBut ((txtsWords n e).map Prod.fst) (s.putPort n { s.port n with txts := rest }) :=
    State.regsBut_of_regs_eq rfl _
  rw [txtsTake_oldest h]
  exact hport.wrs _ fun p hp => List.mem_map_of_mem hp

theorem txtsRead_others {n : Nat} {e : TxtsEnt} {rest : List TxtsEnt} (h : (s.port n).txts = e :: rest) :
    ∀ k, k ≠ n → (txtsRead n s).port k = s.port k := by
  intro k hk
  have ht : (txtsTake n s).port k = s.port k := by rw [txtsTake_oldest h, State.port_wrs, State.port_put_ne _ (Ne.symm hk)]
  exact ht

theorem txtsRead_frame {n : Nat} {e : TxtsEnt} {rest : List TxtsEnt} (h : (s.port n).txts = e :: rest) :
    let t := txtsRead n s
    t = { s with regs := t.regs, ports := t.ports, hostRead := t.hostRead } := by
  obtain ⟨r, p, ht⟩ := txtsTake_frame h
  simp only [txtsRead, ht]

/-- Settles O34: a write that moves TXTS_DEST is `txtsTurned`, a read takes the oldest entry's `txtsWords`. -/
theorem portStamps : Obligations.port_stamps := by
  intro n data s
  refine ⟨⟨_, exec_synceTxRateUpdate n s, s.port_put_self _ _, s.port_putPort_others n _, rfl⟩,
    fun h hempty => ⟨_, exec_txtsIdRead h, txtsRead_empty hempty⟩, fun h e rest htxts => ?_, fun h => ?_,
    fun h => ⟨_, exec_txtsCfgWrite data h, txtsCfgWritten n data.toNat s⟩⟩
  case refine_1 =>
    have hrd : ∀ f v, (f, v) ∈ txtsWords n e → (txtsRead n s).rd f = v % 2 ^ f.width := fun _ _ => rd_txtsTake htxts
    refine ⟨_, exec_txtsIdRead h, ?_, ?_, ?_, ?_, ?_, txtsTake_port htxts, txtsRead_others htxts, txtsRead_regsBut htxts,
      txtsRead_frame htxts⟩
    · rw [hrd _ 1 (by simp [txtsWords])]; simp
    · rw [hrd _ e.id (by simp [txtsWords])]
    · rw [hrd _ (e.stamp / 65536 % 10 ^ 9) (by simp [txtsWords])]
      exact Nat.mod_eq_of_lt ((Nat.mod_lt _ (by decide)).trans (by simp))
    · rw [hrd _ (e.stamp % 65536) (by simp [txtsWords])]
      exact Nat.mod_eq_of_lt ((Nat.mod_lt _ (by decide)).trans_le (by simp))
    · rw [hrd _ (e.stamp / 65536 / 10 ^ 9) (by simp [txtsWords]), Reg.PTP_TXTS_S_LO_S_width]
  case refine_2 =>
    refine ⟨_, exec_txtsBaseWrite data h, ?_, State.rd_wr_self .., s.port_putPort_others n _, ?_, rfl⟩
    · exact (txtsEmpty_lost n s).wrs (l := [(Reg.PTP_TXTS_BASE_ADDR n, data.toNat / 1024)]) (by simp; omega)
    · exact ((txtsEmpty_regsBut n s).mono (by simp)).wr (by simp) _

end Sys2Proof.Machine
end


section
/-! PROOFS. The queues of the Ethernet ports: their state and the commands EN and TAIL (R309, R310, R313, R325): O32. -/
namespace Sys2Proof.Machine
variable {s t : State}

/-! ### The state of a queue -/

theorem State.port_congr (h : t.ports = s.ports) (n : Nat) : t.port n = s.port n := by simp only [State.port, h]

theorem State.txq_congr (h : t.ports = s.ports) (n q : Nat) : t.txq n q = s.txq n q := by
  simp only [State.txq, State.port_congr h]

theorem State.rxq_congr (h : t.ports = s.ports) (n q : Nat) : t.rxq n q = s.rxq n q := by
  simp only [State.rxq, State.port_congr h]

@[simp] theorem State.txq_putTxq_self (s : State) (n q : Nat) (x : TxQSt) : (s.putTxq n q x).txq n q = x := by
  simp [State.txq, State.putTxq, tabGet_set_self]

theorem State.txq_putTxq_ne (s : State) (n : Nat) {q k : Nat} (h : q ≠ k) (x : TxQSt) :
    (s.putTxq n q x).txq n k = s.txq n k := by
  simp [State.txq, State.putTxq, tabGet_set_ne _ _ h]

theorem State.port_putTxq_ne (s : State) {n k : Nat} (h : k ≠ n) (q : Nat) (x : TxQSt) : (s.putTxq n q x).port k = s.port k :=
  State.port_put_ne s (Ne.symm h) _

@[simp] theorem State.rxq_putRxq_self (s : State) (n q : Nat) (x : RxQSt) : (s.putRxq n q x).rxq n q = x := by
  simp [State.rxq, State.putRxq, tabGet_set_self]

theorem State.rxq_putRxq_ne (s : State) (n : Nat) {q k : Nat} (h : q ≠ k) (x : RxQSt) :
    (s.putRxq n q x).rxq n k = s.rxq n k := by
  simp [State.rxq, State.putRxq, tabGet_set_ne _ _ h]

theorem State.port_putRxq_ne (s : State) {n k : Nat} (h : k ≠ n) (q : Nat) (x : RxQSt) : (s.putRxq n q x).port k = s.port k :=
  State.port_put_ne s (Ne.symm h) _

theorem State.putTxq_frame (s : State) (n q : Nat) (x : TxQSt) : s.putTxq n q x = { s with ports := (s.putTxq n q x).ports } := rfl
theorem State.putRxq_frame (s : State) (n q : Nat) (x : RxQSt) : s.putRxq n q x = { s with ports := (s.putRxq n q x).ports } := rfl
@[simp] theorem State.rd_putTxq (s : State) (n q : Nat) (x : TxQSt) (f : Fld) : (s.putTxq n q x).rd f = s.rd f := rfl
@[simp] theorem State.rd_putRxq (s : State) (n q : Nat) (x : RxQSt) (f : Fld) : (s.putRxq n q x).rd f = s.rd f := rfl

/-- Nothing changes but registers and port `n`. -/
def State.movesPort (s : State) (n : Nat) (t : State) : Prop :=
  (∀ k, k ≠ n → t.port k = s.port k) ∧ t = { s with regs := t.regs, ports := t.ports }

theorem State.movesPort_refl (s : State) (n : Nat) : s.movesPort n s := ⟨fun _ _ => rfl, rfl⟩

theorem State.movesPort.wrs {n : Nat} (h : s.movesPort n t) (l : List (Fld × Nat)) : s.movesPort n (t.wrs l) := by
  obtain ⟨hport, ht⟩ := h
  obtain ⟨r, hr⟩ := t.wrs_frame l
  exact ⟨fun k hk => (t.port_wrs l k).trans (hport k hk), by rw [hr, ht]⟩

theorem State.movesPort.wr {n : Nat} (h : s.movesPort n t) (f : Fld) (v : Nat) : s.movesPort n (t.wr f v) := h.wrs [(f, v)]

theorem State.movesPort.putPort {n : Nat} (h : s.movesPort n t) (x : PortSt) : s.movesPort n (t.putPort n x) := by
  obtain ⟨hport, ht⟩ := h
  exact ⟨fun k hk => (State.port_put_ne t (Ne.symm hk) x).trans (hport k hk), by rw [ht]; rfl⟩

theorem State.movesPort.putTxq {n : Nat} (h : s.movesPort n t) (q : Nat) (x : TxQSt) : s.movesPort n (t.putTxq n q x) :=
  h.putPort _

theorem State.movesPort.putRxq {n : Nat} (h : s.movesPort n t) (q : Nat) (x : RxQSt) : s.movesPort n (t.putRxq n q x) :=
  h.putPort _

/-! ### Host writes of a queue's registers -/

theorem hostCmd_queue {n : Fin 4} {q : QueueId} {k : Nat} {f : State → Out} (hk : k ≤ 0xC) (h : s.hostOpen (queueAddr n q + k))
    (ht : f s = .next t) : hostCmd (queueAddr n q + k) f s = .next t := by
  have ha : 0x28000 ≤ queueAddr n q ∧ queueAddr n q < 0x40000 := by
    cases q <;> simp only [queueAddr] <;> omega
  exact hostCmd_plain _ f s t h (by omega) (by omega) ht

theorem exec_queueEnable {n : Fin 4} {q : QueueId} (h : s.hostOpen (queueAddr n q)) (ht : doQueueEnable n q s = .next t) :
    exec (.queueEnable n q) s = .next t := hostCmd_queue (k := 0) (by omega) h ht

theorem exec_queueDisable {n : Fin 4} {q : QueueId} (h : s.hostOpen (queueAddr n q)) (ht : doQueueDisable n q s = .next t) :
    exec (.queueDisable n q) s = .next t := hostCmd_queue (k := 0) (by omega) h ht

theorem exec_tailWrite {n : Fin 4} {q : QueueId} {tail : BitVec 12} {bufs : List (BitVec 64)}
    (h : s.hostOpen (queueAddr n q + 0xC)) (ht : doTailWrite n q tail bufs s = .next t) :
    exec (.tailWrite n q tail bufs) s = .next t := hostCmd_queue (by omega) h ht

/-! ### EN (R310, R313) -/

/-- Transmit queue `q` is enabled. -/
def txEnabled (n q : Nat) (s : State) : State :=
  (s.putTxq n q { lesson := s.bit (Reg.ETH_TXQ_CFG_OWNER n q) }).wrs
    [(Reg.ETH_TXQ_CFG_EN n q, 1), (Reg.ETH_TXQ_PTR_HEAD n q, 0), (Reg.ETH_TXQ_PTR_TAIL n q, 0)]

theorem doQueueEnable_tx {n : Fin 4} {q : Fin 8} (h : s.rd (Reg.ETH_TXQ_CFG_EN n q) = 0) :
    doQueueEnable n (.tx q) s = .next (txEnabled n q s) := by
  simp [doQueueEnable, State.bit, h, txEnabled]

theorem doQueueEnable_tx_again {n : Fin 4} {q : Fin 8} (h : s.rd (Reg.ETH_TXQ_CFG_EN n q) ≠ 0) :
    doQueueEnable n (.tx q) s = .next s := by
  simp [doQueueEnable, State.bit, h]

theorem txEnabled_rd (n q : Nat) (s : State) : (txEnabled n q s).rd (Reg.ETH_TXQ_CFG_EN n q) = 1 ∧
    (txEnabled n q s).rd (Reg.ETH_TXQ_PTR_HEAD n q) = 0 ∧ (txEnabled n q s).rd (Reg.ETH_TXQ_PTR_TAIL n q) = 0 := by
  have hkeys : ([(Reg.ETH_TXQ_CFG_EN n q, 1), (Reg.ETH_TXQ_PTR_HEAD n q, 0), (Reg.ETH_TXQ_PTR_TAIL n q, 0)].map
      (fun p : Fld × Nat => p.1.key)).Nodup := by simp; omega
  refine ⟨?_, ?_, ?_⟩
  · rw [txEnabled, State.rd_wrs_mem _ hkeys (v := 1) (by simp)]; simp
  · rw [txEnabled, State.rd_wrs_mem _ hkeys (v := 0) (by simp), Nat.zero_mod]
  · rw [txEnabled, State.rd_wrs_mem _ hkeys (v := 0) (by simp), Nat.zero_mod]

/-- Receive queue `q` is enabled, before the buffers are checked. -/
def rxOpened (n q : Nat) (s : State) : State :=
  (s.putRxq n q { lesson := s.bit (Reg.ETH_RXQ_CFG_OWNER n q) }).wrs
    [(Reg.ETH_RXQ_CFG_EN n q, 1), (Reg.ETH_RXQ_PTR_HEAD n q, 0), (Reg.ETH_RXQ_PTR_TAIL n q, 0), (Reg.ETH_RXQ_CFG_CFG_ERR n q, 0)]

theorem doQueueEnable_rx {n : Fin 4} {q : Fin 4} (h : s.rd (Reg.ETH_RXQ_CFG_EN n q) = 0) :
    doQueueEnable n (.rx q) s = .next (rxCfgCheck n (rxOpened n q s)) := by
  simp [doQueueEnable, State.bit, h, rxOpened]

theorem doQueueEnable_rx_again {n : Fin 4} {q : Fin 4} (h : s.rd (Reg.ETH_RXQ_CFG_EN n q) ≠ 0) :
    doQueueEnable n (.rx q) s = .next s := by
  simp [doQueueEnable, State.bit, h]

/-! ### The check of the buffers (R313) -/

/-- The buffers of queue `q` are checked. -/
def rxCfgOne (n q : Nat) (s : State) : State :=
  if s.bit (Reg.ETH_RXQ_CFG_EN n q) && decide (2 ^ s.rd (Reg.ETH_RXQ_CFG_BUF_LOG n q) < s.frameLimit n true) then
    s.wr (Reg.ETH_RXQ_CFG_CFG_ERR n q) 1
  else s

theorem rxCfgCheck_eq (n : Nat) (s : State) : rxCfgCheck n s = forRange 4 (rxCfgOne n) s := rfl

/-- CFG_ERR of each receive queue of port `n`. -/
def rxCfgErrs (n : Nat) : List Fld :=
  [Reg.ETH_RXQ_CFG_CFG_ERR n 0, Reg.ETH_RXQ_CFG_CFG_ERR n 1, Reg.ETH_RXQ_CFG_CFG_ERR n 2, Reg.ETH_RXQ_CFG_CFG_ERR n 3]

theorem rxCfgErr_mem (n : Nat) {q : Nat} (h : q < 4) : Reg.ETH_RXQ_CFG_CFG_ERR n q ∈ rxCfgErrs n := by
  obtain rfl | rfl | rfl | rfl : q = 0 ∨ q = 1 ∨ q = 2 ∨ q = 3 := by omega
  all_goals simp [rxCfgErrs]

theorem rxCfgOne_regsBut (n q : Nat) (s : State) : s.regsBut [Reg.ETH_RXQ_CFG_CFG_ERR n q] (rxCfgOne n q s) := by
  unfold rxCfgOne
  split
  · exact s.regsBut_wr List.mem_cons_self 1
  · exact s.regsBut_refl _

theorem rxCfgOne_movesPort {n m : Nat} (h : s.movesPort m t) (q : Nat) : s.movesPort m (rxCfgOne n q t) := by
  unfold rxCfgOne
  split
  · exact h.wr _ _
  · exact h

theorem rxCfgOne_ports (n q : Nat) (s : State) : (rxCfgOne n q s).ports = s.ports := by
  unfold rxCfgOne
  split <;> rfl

theorem rxCfgCheck_regsBut (n : Nat) (s : State) : s.regsBut (rxCfgErrs n) (rxCfgCheck n s) :=
  forRange_keeps (s.regsBut (rxCfgErrs n))
    (fun q hq t ht => ht.trans ((rxCfgOne_regsBut n q t).mono (by simpa using rxCfgErr_mem n hq))) (s.regsBut_refl _)

theorem rxCfgCheck_movesPort {n m : Nat} (h : s.movesPort m t) : s.movesPort m (rxCfgCheck n t) :=
  forRange_keeps (s.movesPort m) (fun q _ _ hu => rxCfgOne_movesPort hu q) h

theorem rxCfgCheck_ports (n : Nat) (s : State) : (rxCfgCheck n s).ports = s.ports :=
  forRange_keeps (fun t => t.ports = s.ports) (fun q _ t ht => (rxCfgOne_ports n q t).trans ht) rfl

/-- Is the buffer of enabled queue `q` too small for the largest frame? -/
def State.rxSmall (s : State) (n q : Nat) : Bool :=
  s.bit (Reg.ETH_RXQ_CFG_EN n q) && decide (2 ^ s.rd (Reg.ETH_RXQ_CFG_BUF_LOG n q) < s.frameLimit n true)

/-- The length limit follows MAXLEN and VLAN_EXTEND alone (R305). -/
theorem State.frameLimit_congr {n : Nat} {tagged : Bool} (hlen : t.rd (Reg.ETH_MAC_MAXLEN n) = s.rd (Reg.ETH_MAC_MAXLEN n))
    (hvlan : t.rd (Reg.ETH_MAC_VLAN_EXTEND n) = s.rd (Reg.ETH_MAC_VLAN_EXTEND n)) : t.frameLimit n tagged = s.frameLimit n tagged := by
  simp only [State.frameLimit, State.maxLen, State.bit, hlen, hvlan]

/-- The check of the buffers reads no CFG_ERR. -/
theorem State.rxSmall_congr {l : List Fld} (h : s.regsBut l t) {n q : Nat} (hl : ∀ f ∈ l, f ∈ rxCfgErrs n) :
    t.rxSmall n q = s.rxSmall n q := by
  have hrd : ∀ f : Fld, (∀ g ∈ rxCfgErrs n, g.key ≠ f.key) → t.rd f = s.rd f := fun f hf => h f fun g hg => hf g (hl g hg)
  have hlimit := State.frameLimit_congr (tagged := true) (hrd (Reg.ETH_MAC_MAXLEN n) (by simp [rxCfgErrs]; omega))
    (hrd (Reg.ETH_MAC_VLAN_EXTEND n) (by simp [rxCfgErrs]; omega))
  rw [State.rxSmall, State.bit, hrd (Reg.ETH_RXQ_CFG_EN n q) (by simp [rxCfgErrs]; omega),
    hrd (Reg.ETH_RXQ_CFG_BUF_LOG n q) (by simp [rxCfgErrs]; omega), hlimit]
  rfl

/-- CFG_ERR of queue `q` rises where its buffer is too small, and otherwise stays. -/
theorem rxCfgCheck_rd (n : Nat) {q : Nat} (hq : q < 4) (s : State) : (rxCfgCheck n s).rd (Reg.ETH_RXQ_CFG_CFG_ERR n q) =
    if s.rxSmall n q then 1 else s.rd (Reg.ETH_RXQ_CFG_CFG_ERR n q) := by
  rw [rxCfgCheck_eq]
  refine (forRange_establishes (fun t => s.regsBut (rxCfgErrs n) t ∧
      t.rd (Reg.ETH_RXQ_CFG_CFG_ERR n q) = s.rd (Reg.ETH_RXQ_CFG_CFG_ERR n q))
    (fun t => t.rd (Reg.ETH_RXQ_CFG_CFG_ERR n q) = if s.rxSmall n q then 1 else s.rd (Reg.ETH_RXQ_CFG_CFG_ERR n q)) hq
    (fun i hi hne t ht => ?_) (fun i _ hne t ht => ?_) (fun t ht => ?_) ⟨s.regsBut_refl _, rfl⟩)
  · obtain ⟨hregs, herr⟩ := ht
    exact ⟨hregs.trans ((rxCfgOne_regsBut n i t).mono (by simpa using rxCfgErr_mem n hi)),
      (rxCfgOne_regsBut n i t _ (by simp; omega)).trans herr⟩
  · exact (rxCfgOne_regsBut n i t _ (by simp; omega)).trans ht
  · obtain ⟨hregs, herr⟩ := ht
    rw [← State.rxSmall_congr (q := q) hregs (fun _ h => h)]
    by_cases hsmall : t.rxSmall n q
    · rw [if_pos hsmall, show rxCfgOne n q t = t.wr (Reg.ETH_RXQ_CFG_CFG_ERR n q) 1 from if_pos hsmall, t.rd_wr_self]
      simp
    · rw [if_neg hsmall, show rxCfgOne n q t = t from if_neg hsmall, herr]

theorem rxOpened_regsBut (n q : Nat) (s : State) : s.regsBut [Reg.ETH_RXQ_CFG_EN n q, Reg.ETH_RXQ_PTR_HEAD n q,
    Reg.ETH_RXQ_PTR_TAIL n q, Reg.ETH_RXQ_CFG_CFG_ERR n q] (rxOpened n q s) :=
  have hput : s.regsBut _ (s.putRxq n q { lesson := s.bit (Reg.ETH_RXQ_CFG_OWNER n q) }) := State.regsBut_of_regs_eq rfl _
  hput.wrs [(Reg.ETH_RXQ_CFG_EN n q, 1), (Reg.ETH_RXQ_PTR_HEAD n q, 0), (Reg.ETH_RXQ_PTR_TAIL n q, 0),
    (Reg.ETH_RXQ_CFG_CFG_ERR n q, 0)] (by simp)

theorem rxOpened_rd (n q : Nat) (s : State) : (rxOpened n q s).rd (Reg.ETH_RXQ_CFG_EN n q) = 1 ∧
    (rxOpened n q s).rd (Reg.ETH_RXQ_PTR_HEAD n q) = 0 ∧ (rxOpened n q s).rd (Reg.ETH_RXQ_PTR_TAIL n q) = 0 ∧
    (rxOpened n q s).rd (Reg.ETH_RXQ_CFG_CFG_ERR n q) = 0 := by
  have hkeys : ([(Reg.ETH_RXQ_CFG_EN n q, 1), (Reg.ETH_RXQ_PTR_HEAD n q, 0), (Reg.ETH_RXQ_PTR_TAIL n q, 0),
      (Reg.ETH_RXQ_CFG_CFG_ERR n q, 0)].map (fun p : Fld × Nat => p.1.key)).Nodup := by simp; omega
  refine ⟨?_, ?_, ?_, ?_⟩
  · rw [rxOpened, State.rd_wrs_mem _ hkeys (v := 1) (by simp)]; simp
  all_goals rw [rxOpened, State.rd_wrs_mem _ hkeys (v := 0) (by simp), Nat.zero_mod]

/-- An enabled receive queue in its parts. -/
theorem rxEnabled (n : Nat) {q : Nat} (hq : q < 4) (s : State) : let t := rxCfgCheck n (rxOpened n q s)
    t.rd (Reg.ETH_RXQ_CFG_EN n q) = 1 ∧ t.rd (Reg.ETH_RXQ_PTR_HEAD n q) = 0 ∧ t.rd (Reg.ETH_RXQ_PTR_TAIL n q) = 0 ∧
    t.rxq n q = { lesson := s.bit (Reg.ETH_RXQ_CFG_OWNER n q) } ∧ (∀ k, k ≠ q → t.rxq n k = s.rxq n k) ∧
    (t.rd (Reg.ETH_RXQ_CFG_CFG_ERR n q) = 1 ↔ 2 ^ s.rd (Reg.ETH_RXQ_CFG_BUF_LOG n q) < s.frameLimit n true) ∧
    s.regsBut ([Reg.ETH_RXQ_CFG_EN n q, Reg.ETH_RXQ_PTR_HEAD n q, Reg.ETH_RXQ_PTR_TAIL n q] ++ rxCfgErrs n) t ∧ s.movesPort n t := by
  obtain ⟨hen, hhead, htail, herr⟩ := rxOpened_rd n q s
  have hcheck := rxCfgCheck_regsBut n (rxOpened n q s)
  have hports := rxCfgCheck_ports n (rxOpened n q s)
  have hsmall : (rxOpened n q s).rxSmall n q = decide (2 ^ s.rd (Reg.ETH_RXQ_CFG_BUF_LOG n q) < s.frameLimit n true) := by
    have hrd := rxOpened_regsBut n q s
    have hlimit := State.frameLimit_congr (tagged := true) (hrd (Reg.ETH_MAC_MAXLEN n) (by simp; omega))
      (hrd (Reg.ETH_MAC_VLAN_EXTEND n) (by simp; omega))
    rw [State.rxSmall, State.bit, hen, hrd (Reg.ETH_RXQ_CFG_BUF_LOG n q) (by simp; omega), hlimit]
    rfl
  refine ⟨(hcheck _ (by simp [rxCfgErrs]; omega)).trans hen, (hcheck _ (by simp [rxCfgErrs]; omega)).trans hhead,
    (hcheck _ (by simp [rxCfgErrs]; omega)).trans htail, ?_, fun k hk => ?_, ?_, ?_, ?_⟩
  · rw [State.rxq_congr (hports.trans (State.wrs_ports ..)), State.rxq_putRxq_self]
  · rw [State.rxq_congr (hports.trans (State.wrs_ports ..)), State.rxq_putRxq_ne _ _ (Ne.symm hk)]
  · rw [rxCfgCheck_rd n hq, hsmall, herr]
    simp
  · have herrs := rxCfgErr_mem n hq
    exact ((rxOpened_regsBut n q s).mono (by simp [herrs])).trans (hcheck.mono (List.subset_append_right _ _))
  · exact rxCfgCheck_movesPort (((s.movesPort_refl n).putRxq _ _).wrs _)

/-! ### TAIL (R310) -/

theorem txTail_within {n q tail : Nat} (h : tail < 2 ^ s.rd (Reg.ETH_TXQ_CFG_SIZE_LOG n q)) :
    txTail n q tail s = s.wrs [(Reg.ETH_TXQ_PTR_TAIL n q, tail), (Reg.ETH_TXQ_PTR_PTR_ERR n q, 0)] := if_neg (by omega)

theorem txTail_beyond {n q tail : Nat} (h : 2 ^ s.rd (Reg.ETH_TXQ_CFG_SIZE_LOG n q) ≤ tail) :
    txTail n q tail s = s.wr (Reg.ETH_TXQ_PTR_PTR_ERR n q) 1 := if_pos h

theorem txTail_onlyRegs (n q tail : Nat) (s : State) :
    s.onlyRegs [Reg.ETH_TXQ_PTR_TAIL n q, Reg.ETH_TXQ_PTR_PTR_ERR n q] (txTail n q tail s) := by
  unfold txTail
  split
  · exact s.onlyRegs_wrs [(Reg.ETH_TXQ_PTR_PTR_ERR n q, 1)] (by simp)
  · exact s.onlyRegs_wrs _ (by simp)

theorem rxDeliver_none {n q : Nat} (h : (s.rxq n q).wait = []) : rxDeliver n q s = s := by
  simp [rxDeliver, h]

theorem rxTail_beyond {n q tail : Nat} {bufs : List (BitVec 64)} (h : 2 ^ s.rd (Reg.ETH_RXQ_CFG_SIZE_LOG n q) ≤ tail) :
    rxTail n q tail bufs s = s.wr (Reg.ETH_RXQ_PTR_PTR_ERR n q) 1 := if_pos h

/-- The descriptors that are ready once TAIL is `tail`, with the buffer addresses the host has written. -/
def State.rxReady (s : State) (n q tail : Nat) (bufs : List (BitVec 64)) : List Nat :=
  let size := 2 ^ s.rd (Reg.ETH_RXQ_CFG_SIZE_LOG n q)
  ((s.rxq n q).bufs ++ bufs.map (·.toNat)).take ((tail + size - s.rd (Reg.ETH_RXQ_PTR_HEAD n q)) % size)

/-- TAIL is taken where no frame waits for a descriptor. -/
theorem rxTail_within {n q tail : Nat} {bufs : List (BitVec 64)} (h : tail < 2 ^ s.rd (Reg.ETH_RXQ_CFG_SIZE_LOG n q))
    (hwait : (s.rxq n q).wait = []) : rxTail n q tail bufs s =
      (s.putRxq n q { s.rxq n q with bufs := s.rxReady n q tail bufs }).wrs
        [(Reg.ETH_RXQ_PTR_TAIL n q, tail), (Reg.ETH_RXQ_PTR_PTR_ERR n q, 0)] := by
  rw [rxTail, if_neg (by omega)]
  refine rxDeliver_none ?_
  rw [State.rxq_congr (State.wrs_ports ..), State.rxq_putRxq_self]
  exact hwait

theorem rxTail_regsBut {n q tail : Nat} {bufs : List (BitVec 64)} (hwait : (s.rxq n q).wait = []) :
    s.regsBut [Reg.ETH_RXQ_PTR_TAIL n q, Reg.ETH_RXQ_PTR_PTR_ERR n q] (rxTail n q tail bufs s) := by
  by_cases h : tail < 2 ^ s.rd (Reg.ETH_RXQ_CFG_SIZE_LOG n q)
  · have hput : s.regsBut [Reg.ETH_RXQ_PTR_TAIL n q, Reg.ETH_RXQ_PTR_PTR_ERR n q]
        (s.putRxq n q { s.rxq n q with bufs := s.rxReady n q tail bufs }) := State.regsBut_of_regs_eq rfl _
    rw [rxTail_within h hwait]
    exact hput.wrs _ (by simp)
  · rw [rxTail_beyond (by omega)]
    exact s.regsBut_wr (by simp) 1

theorem rxTail_movesPort {n q tail : Nat} {bufs : List (BitVec 64)} (hwait : (s.rxq n q).wait = []) :
    s.movesPort n (rxTail n q tail bufs s) := by
  by_cases h : tail < 2 ^ s.rd (Reg.ETH_RXQ_CFG_SIZE_LOG n q)
  · rw [rxTail_within h hwait]
    exact ((s.movesPort_refl n).putRxq _ _).wrs _
  · rw [rxTail_beyond (by omega)]
    exact (s.movesPort_refl n).wr _ _

/-- Settles O32: EN is `txEnabled` or `rxEnabled`, TAIL is `txTail` or `rxTail`. -/
theorem queueCommands : Obligations.queue_commands := by
  intro n i j tail bufs s
  refine ⟨fun h hen => ?_, fun h hen => exec_queueEnable h (doQueueEnable_tx_again hen), fun h hen => ?_,
    fun h hen => exec_queueEnable h (doQueueEnable_rx_again hen), fun h => ?_, fun h => ?_, fun h howner => ?_,
    fun h howner => exec_tailWrite h (congrArg Host.Outcome.next (if_pos howner)),
    fun h howner => exec_tailWrite h (congrArg Host.Outcome.next (if_pos howner)), fun h howner hwait => ?_⟩
  case refine_1 =>
    obtain ⟨hen', hhead, htail⟩ := txEnabled_rd n i s
    have hput : s.regsBut [Reg.ETH_TXQ_CFG_EN n i, Reg.ETH_TXQ_PTR_HEAD n i, Reg.ETH_TXQ_PTR_TAIL n i]
      (s.putTxq n i { lesson := s.bit (Reg.ETH_TXQ_CFG_OWNER n i) }) := State.regsBut_of_regs_eq rfl _
    refine ⟨_, exec_queueEnable h (doQueueEnable_tx hen), hen', hhead, htail, ?_, fun k hk => ?_, hput.wrs _ (by simp),
      ((s.movesPort_refl n).putTxq _ _).wrs _⟩
    · rw [txEnabled, State.txq_congr (State.wrs_ports ..), State.txq_putTxq_self]
    · rw [txEnabled, State.txq_congr (State.wrs_ports ..), State.txq_putTxq_ne _ _ (Ne.symm hk)]
  case refine_2 => exact ⟨_, exec_queueEnable h (doQueueEnable_rx hen), rxEnabled n j.isLt s⟩
  case refine_3 =>
    have hput : s.regsBut [Reg.ETH_TXQ_CFG_EN n i] (s.putTxq n i { s.txq n i with head := none }) :=
      State.regsBut_of_regs_eq rfl _
    refine ⟨_, exec_queueDisable h rfl, by simp, ?_, State.rd_wr_ne _ (by simp; omega) 0, hput.wr (by simp) _, ((s.movesPort_refl n).putTxq _ _).wr _ _⟩
    exact (State.txq_congr rfl _ _).trans (s.txq_putTxq_self ..)
  case refine_4 =>
    exact ⟨_, exec_queueDisable h rfl, by simp, s.onlyRegs_wrs [(Reg.ETH_RXQ_CFG_EN n j, 0)] (by simp)⟩
  case refine_5 =>
    refine ⟨_, exec_tailWrite h (congrArg Host.Outcome.next (if_neg (by simp [howner]))), fun hwithin => ?_, fun hbeyond => ?_,
      txTail_onlyRegs n i tail.toNat s⟩
    · have htail := tail.isLt
      rw [txTail_within hwithin]
      refine ⟨?_, by simp⟩
      simp (disch := first | (simp; done) | (simp; omega))
      omega
    · rw [txTail_beyond hbeyond]
      exact ⟨State.rd_wr_ne s (by simp) 1, by simp⟩
  case refine_6 =>
    refine ⟨_, exec_tailWrite h (congrArg Host.Outcome.next (if_neg (by simp [howner]))), fun hwithin => ?_, fun hbeyond => ?_,
      rxTail_regsBut hwait, rxTail_movesPort hwait⟩
    · have htail := tail.isLt
      rw [rxTail_within hwithin hwait]
      refine ⟨?_, by simp⟩
      simp (disch := first | (simp; done) | (simp; omega))
      omega
    · rw [rxTail_beyond hbeyond]
      exact ⟨State.rd_wr_ne s (by simp) 1, by simp, rfl⟩

end Sys2Proof.Machine
end


section
/-! PROOFS. What leaves the line of an Ethernet port: owner writes, the completion of a descriptor, the stamp entry and the end of
a frame (R309 to R311, R317, R318, R337, R340). -/
namespace Sys2Proof.Machine
variable {s t u : State} {n q : Nat}

/-! ### Owner writes (R309) -/

theorem ownerWrite_hostByte (a : Nat) (v : Byte) (s : State) :
    ownerWrite false a [v] s = if s.busMaster then { s with hostMem := tabSet 0 a v s.hostMem } else s := rfl

/-- Byte `k` of `b` goes to its place in host memory, where the device may master the bus. -/
def hostByte (a : Nat) (b : List Byte) (s : State) (k : Nat) : State :=
  if s.busMaster then { s with hostMem := tabSet 0 (a + k) (b.getD k 0) s.hostMem } else s

theorem ownerWrite_host (a : Nat) (b : List Byte) (s : State) :
    ownerWrite false a b s = (List.range b.length).foldl (hostByte a b) s := rfl

theorem hostByte_frame (h : t.hostMem = s.hostMem) (hbus : t.busMaster = s.busMaster) (a : Nat) (b : List Byte) (k : Nat) :
    hostByte a b t k = { t with hostMem := (hostByte a b s k).hostMem } := by
  unfold hostByte
  rw [hbus]
  split
  · simp only [h]
  · rw [← h]

/-- Bytes written to host memory change it alone, and depend on nothing but it and the right to write. -/
theorem ownerWrite_host_frame (h : t.hostMem = s.hostMem) (hbus : t.busMaster = s.busMaster) (a : Nat) (b : List Byte) :
    ownerWrite false a b t = { t with hostMem := (ownerWrite false a b s).hostMem } := by
  rw [ownerWrite_host, ownerWrite_host]
  induction List.range b.length generalizing s t with
  | nil => rw [List.foldl_nil, List.foldl_nil, ← h]
  | cons k l ih =>
    have hbyte := hostByte_frame h hbus a b k
    have hself : (hostByte a b s k).busMaster = s.busMaster := by
      rw [hostByte_frame rfl rfl a b k]; rfl
    rw [List.foldl_cons, List.foldl_cons, hbyte]
    exact ih rfl (hbus.trans hself.symm)

/-- A queue's owner keeps its ring in the commons or in host memory: nothing else changes. -/
theorem ownerWrite_frame (lesson : Bool) (a : Nat) (b : List Byte) (s : State) :
    ∃ c h, ownerWrite lesson a b s = { s with commons := c, hostMem := h } := by
  cases lesson with
  | true => exact ⟨_, s.hostMem, ownerWrite_lesson_frame rfl a b⟩
  | false => exact ⟨s.commons, _, ownerWrite_host_frame rfl rfl a b⟩

/-! ### The registers that a completion reads and moves -/

/-- The registers that the completion of a descriptor of queue `q` depends on. -/
def txKeys (n q : Nat) : List Fld :=
  [Reg.ETH_TXQ_PTR_HEAD n q, Reg.ETH_TXQ_BASE_HI_ADDR n q, Reg.ETH_TXQ_BASE_LO_ADDR n q, Reg.ETH_TXQ_CFG_SIZE_LOG n q,
   Reg.HOST_STATUS_PCIE_LINK, Reg.HOST_STATUS_BME]

/-- From `s` to `u` registers and ports change, but nothing that a completion on queue `q` of port `n` depends on. -/
structure TxReady (n q : Nat) (s u : State) : Prop where
  rd : ∀ f ∈ txKeys n q, u.rd f = s.rd f
  txq : ∀ k, u.txq n k = s.txq n k
  others : ∀ k, k ≠ n → u.port k = s.port k
  frame : u = { s with regs := u.regs, ports := u.ports }

theorem TxReady.refl (n q : Nat) (s : State) : TxReady n q s s := ⟨fun _ _ => rfl, fun _ => rfl, fun _ _ => rfl, rfl⟩

theorem TxReady.wr (h : TxReady n q s u) (f : Fld) (hf : ∀ g ∈ txKeys n q, f.key ≠ g.key) (v : Nat) : TxReady n q s (u.wr f v) :=
  ⟨fun g hg => (u.rd_wr_ne (hf g hg) v).trans (h.rd g hg), h.txq, h.others, by rw [h.frame]; rfl⟩

theorem TxReady.bump (h : TxReady n q s u) (f : Fld) (hf : ∀ g ∈ txKeys n q, f.key ≠ g.key) (k : Nat) :
    TxReady n q s (u.bump f k) := h.wr f hf _

theorem TxReady.putPort (h : TxReady n q s u) (x : PortSt) (hx : x.tx = (u.port n).tx) : TxReady n q s (u.putPort n x) where
  rd := h.rd
  txq k := (show tabGet {} k ((u.putPort n x).port n).tx = u.txq n k by rw [State.port_put_self, hx]; rfl).trans (h.txq k)
  others k hk := (State.port_put_ne u (Ne.symm hk) x).trans (h.others k hk)
  frame := by rw [h.frame]; rfl

theorem TxReady.busMaster (h : TxReady n q s u) : u.busMaster = s.busMaster := by
  have hhost : u.host = s.host := by rw [h.frame]
  simp only [State.busMaster, State.bit, h.rd Reg.HOST_STATUS_PCIE_LINK (by simp [txKeys]),
    h.rd Reg.HOST_STATUS_BME (by simp [txKeys]), hhost]

theorem TxReady.txDescAt (h : TxReady n q s u) (i : Nat) : u.txDescAt n q i = s.txDescAt n q i := by
  simp only [State.txDescAt, h.rd (Reg.ETH_TXQ_BASE_HI_ADDR n q) (by simp [txKeys]),
    h.rd (Reg.ETH_TXQ_BASE_LO_ADDR n q) (by simp [txKeys])]

/-! ### The completion of a host queue's descriptor (R310, R311) -/

/-- The head of host queue `q` has completed with `st`. -/
structure TxClosed (n q st : Nat) (s t : State) : Prop where
  head : t.rd (Reg.ETH_TXQ_PTR_HEAD n q) = (s.rd (Reg.ETH_TXQ_PTR_HEAD n q) + 1) % 2 ^ s.rd (Reg.ETH_TXQ_CFG_SIZE_LOG n q) %
    2 ^ (Reg.ETH_TXQ_PTR_HEAD n q).width
  gone : (t.txq n q).head = none
  queues : ∀ k, k ≠ q → t.txq n k = s.txq n k
  others : ∀ k, k ≠ n → t.port k = s.port k
  status : s.busMaster = true → tabGet 0 (s.txDescAt n q (s.rd (Reg.ETH_TXQ_PTR_HEAD n q)) + 14) t.hostMem = BitVec.ofNat 8 st
  unwritten : s.busMaster = false → t.hostMem = s.hostMem
  elsewhere : ∀ a, a ≠ s.txDescAt n q (s.rd (Reg.ETH_TXQ_PTR_HEAD n q)) + 14 → tabGet 0 a t.hostMem = tabGet 0 a s.hostMem
  frame : t = { s with regs := t.regs, ports := t.ports, flt := t.flt, hostMem := t.hostMem }

theorem TxClosed.wr {st : Nat} (h : TxClosed n q st s t) {f : Fld} (hf : f.key ≠ (Reg.ETH_TXQ_PTR_HEAD n q).key) (v : Nat) :
    TxClosed n q st s (t.wr f v) :=
  ⟨(t.rd_wr_ne hf v).trans h.head, h.gone, h.queues, h.others, h.status, h.unwritten, h.elsewhere, by rw [h.frame]; rfl⟩

theorem TxClosed.raise {st : Nat} (h : TxClosed n q st s t) (ev inst info : Nat) : TxClosed n q st s (t.raise ev inst info) :=
  ⟨h.head, h.gone, h.queues, h.others, h.status, h.unwritten, h.elsewhere, by rw [h.frame]; rfl⟩

/-- The status byte of the descriptor at HEAD is written back. -/
def txStatus (n q st : Nat) (s : State) : State :=
  ownerWrite (s.txq n q).lesson (s.txDescAt n q (s.rd (Reg.ETH_TXQ_PTR_HEAD n q)) + 14) [BitVec.ofNat 8 st] s

/-- HEAD moves on, and the queue has no head. -/
def txAdvance (n q h : Nat) (s : State) : State :=
  ((s.putTxq n q { s.txq n q with head := none }).wr (Reg.ETH_TXQ_PTR_HEAD n q)
    ((h + 1) % 2 ^ s.rd (Reg.ETH_TXQ_CFG_SIZE_LOG n q))).raise 100 n q

theorem txComplete_eq (n q st : Nat) (s : State) :
    txComplete n q st s = txAdvance n q (s.rd (Reg.ETH_TXQ_PTR_HEAD n q)) (txStatus n q st s) := rfl

/-- The status of a host queue's descriptor reaches host memory, where the device may master the bus. -/
theorem txStatus_host {st : Nat} (h : (s.txq n q).lesson = false) : txStatus n q st s =
    { s with hostMem := if s.busMaster then
        tabSet 0 (s.txDescAt n q (s.rd (Reg.ETH_TXQ_PTR_HEAD n q)) + 14) (BitVec.ofNat 8 st) s.hostMem else s.hostMem } := by
  rw [txStatus, h, ownerWrite_hostByte]
  split <;> rfl

theorem txComplete_closed {st : Nat} (hu : TxReady n q s u) (h : (s.txq n q).lesson = false) :
    TxClosed n q st s (txComplete n q st u) := by
  have hlesson : (u.txq n q).lesson = false := (congrArg TxQSt.lesson (hu.txq q)).trans h
  have hhead := hu.rd (Reg.ETH_TXQ_PTR_HEAD n q) (by simp [txKeys])
  have hsize := hu.rd (Reg.ETH_TXQ_CFG_SIZE_LOG n q) (by simp [txKeys])
  have hmem : u.hostMem = s.hostMem := by rw [hu.frame]
  rw [txComplete_eq, txStatus_host hlesson, hhead, hu.txDescAt, hu.busMaster, hmem]
  refine ⟨?_, ?_, fun k hk => ?_, fun k hk => ?_, fun hb => ?_, fun hb => ?_, fun a ha => ?_, ?_⟩
  · rw [← hsize]; exact State.rd_wr_self ..
  · exact congrArg TxQSt.head (State.txq_putTxq_self ..)
  · exact (State.txq_putTxq_ne _ _ (Ne.symm hk) _).trans (hu.txq k)
  · exact (State.port_putTxq_ne _ hk _ _).trans (hu.others k hk)
  · rw [if_pos hb]; exact tabGet_set_self ..
  · rw [if_neg (by simp [hb])]; rfl
  · by_cases hb : s.busMaster = true
    · rw [if_pos hb]; exact tabGet_set_ne _ _ (Ne.symm ha) ..
    · rw [if_neg hb]; rfl
  · rw [hu.frame]; rfl

theorem txComplete_raised (n q st : Nat) (s : State) :
    (txComplete n q st s).flt.inflight = s.flt.inflight ++ [⟨100, n, q, false⟩] := by
  obtain ⟨c, h, e⟩ := ownerWrite_frame (s.txq n q).lesson (s.txDescAt n q (s.rd (Reg.ETH_TXQ_PTR_HEAD n q)) + 14)
    [BitVec.ofNat 8 st] s
  rw [txComplete_eq, txStatus, e]; rfl

theorem txComplete_regsBut (n q st : Nat) (s : State) : s.regsBut [Reg.ETH_TXQ_PTR_HEAD n q] (txComplete n q st s) := by
  obtain ⟨c, h, e⟩ := ownerWrite_frame (s.txq n q).lesson (s.txDescAt n q (s.rd (Reg.ETH_TXQ_PTR_HEAD n q)) + 14)
    [BitVec.ofNat 8 st] s
  have hput : s.regsBut [Reg.ETH_TXQ_PTR_HEAD n q] (txStatus n q st s) := by
    rw [txStatus, e]; exact State.regsBut_of_regs_eq rfl _
  exact .same (.wr (.same hput rfl) (by simp) _) rfl

/-! ### The end of a frame (R310, R317, R337) -/

/-- From `s` to `t` a frame's stamp and status are reported: the line, the link's state and the other ports stay, and what was
raised stays raised. -/
structure LineReports (n : Nat) (s t : State) : Prop where
  rd : ∀ f : Fld, f.key ≠ (Reg.PTP_TXTS_OVF_COUNT n).key → (∀ q, f.key ≠ (Reg.ETH_TXQ_PTR_HEAD n q).key) → t.rd f = s.rd f
  line : (t.port n).line = (s.port n).line
  sent : (t.port n).sent = (s.port n).sent
  sentEnd : (t.port n).sentEnd = (s.port n).sentEnd
  linkAt : (t.port n).linkAt = (s.port n).linkAt
  loop : (t.port n).loop = (s.port n).loop
  raised : s.flt.inflight ⊆ t.flt.inflight
  frame : t = { s with regs := t.regs, ports := t.ports, flt := t.flt, hostMem := t.hostMem, commons := t.commons }

theorem LineReports.refl (n : Nat) (s : State) : LineReports n s s :=
  ⟨fun _ _ _ => rfl, rfl, rfl, rfl, rfl, rfl, List.Subset.refl _, rfl⟩

theorem LineReports.trans (h : LineReports n s t) (h' : LineReports n t u) : LineReports n s u :=
  ⟨fun f hf hq => (h'.rd f hf hq).trans (h.rd f hf hq), h'.line.trans h.line, h'.sent.trans h.sent, h'.sentEnd.trans h.sentEnd,
    h'.linkAt.trans h.linkAt, h'.loop.trans h.loop, List.Subset.trans h.raised h'.raised, by rw [h'.frame, h.frame]⟩

theorem LineReports.putPort (n : Nat) (x : PortSt) (s : State) (hline : x.line = (s.port n).line)
    (hsent : x.sent = (s.port n).sent) (hend : x.sentEnd = (s.port n).sentEnd) (hlink : x.linkAt = (s.port n).linkAt)
    (hloop : x.loop = (s.port n).loop) :
    LineReports n s (s.putPort n x) :=
  ⟨fun _ _ _ => rfl, by simpa using hline, by simpa using hsent, by simpa using hend, by simpa using hlink, by simpa using hloop,
    List.Subset.refl _, rfl⟩

theorem LineReports.bumpOvf (n k : Nat) (s : State) : LineReports n s (s.bump (Reg.PTP_TXTS_OVF_COUNT n) k) :=
  ⟨fun _ hf _ => s.rd_wr_ne (Ne.symm hf) _, rfl, rfl, rfl, rfl, rfl, List.Subset.refl _, rfl⟩

theorem LineReports.wrHead (n q v : Nat) (s : State) : LineReports n s (s.wr (Reg.ETH_TXQ_PTR_HEAD n q) v) :=
  ⟨fun _ _ hq => s.rd_wr_ne (Ne.symm (hq q)) _, rfl, rfl, rfl, rfl, rfl, List.Subset.refl _, rfl⟩

theorem LineReports.raise (n ev inst info : Nat) (s : State) : LineReports n s (s.raise ev inst info) :=
  ⟨fun _ _ _ => rfl, rfl, rfl, rfl, rfl, rfl, List.subset_append_left _ _, rfl⟩

theorem ownerWrite_reports (n : Nat) (lesson : Bool) (a : Nat) (b : List Byte) (s : State) :
    LineReports n s (ownerWrite lesson a b s) := by
  obtain ⟨c, h, e⟩ := ownerWrite_frame lesson a b s
  rw [e]
  exact ⟨fun _ _ _ => rfl, rfl, rfl, rfl, rfl, rfl, List.Subset.refl _, rfl⟩

/-- A stamp enters the queue or is discarded: it is reported, and the line stays as it is (R337 to R340). -/
theorem txtsPush_reports (n stamp id : Nat) (aborted coarse : Bool) (s : State) :
    LineReports n s (txtsPush n stamp id aborted coarse s) := by
  unfold txtsPush
  dsimp only
  split
  · have hlost := (LineReports.putPort n { s.port n with pend := (s.port n).pend + 1, ovf := true } s rfl rfl rfl rfl rfl).trans
      (.bumpOvf n 1 _)
    split
    · exact hlost
    · exact hlost.trans (.raise n 38 n 0 _)
  · split
    · have hwrite := ownerWrite_reports n true (s.rd (Reg.PTP_TXTS_BASE_ADDR n) * 1024 + 16 * ((s.port n).wr % 64))
        (stampBytes stamp (id * 65536 + flagIf (decide (0 < (s.port n).pend)) 0x8000 + flagIf aborted 0x4000 +
          flagIf coarse 0x2000 + min (s.port n).pend 255)) s
      exact hwrite.trans (.putPort n _ _ hwrite.line.symm hwrite.sent.symm hwrite.sentEnd.symm hwrite.linkAt.symm hwrite.loop.symm)
    · exact .putPort n _ s rfl rfl rfl rfl rfl

theorem txComplete_reports (n q st : Nat) (s : State) : LineReports n s (txComplete n q st s) := by
  have hstatus : LineReports n s (txStatus n q st s) := ownerWrite_reports n _ _ _ s
  have hhead : LineReports n (txStatus n q st s) ((txStatus n q st s).putTxq n q { (txStatus n q st s).txq n q with head := none }) :=
    LineReports.putPort n { (txStatus n q st s).port n with
      tx := tabSet {} q { (txStatus n q st s).txq n q with head := none } ((txStatus n q st s).port n).tx } _ rfl rfl rfl rfl rfl
  rw [txComplete_eq, txAdvance]
  exact hstatus.trans (hhead.trans ((LineReports.wrHead n q _ _).trans (.raise n 100 n q _)))

/-- The frame `l` has left the line, and nothing of it is reported yet. -/
def lineOff (n : Nat) (l : OnLine) (how : TxEnd) (s : State) : State :=
  s.putPort n { s.port n with
    line := none
    sent := l.bytes
    sentEnd := how
    prev := if how = .good then (s.port n).prev else (s.port n).prev.map (fun p => (p.1, 20)) }

theorem lineEnd_eq {l : OnLine} (h : (s.port n).line = some l) (st : Nat) (how : TxEnd) :
    lineEnd n st how s =
      (let t := if l.head.stamp then txtsPush n l.stamp l.head.id (decide (how ≠ .good)) l.coarse (lineOff n l how s)
        else lineOff n l how s
      if l.head.stream then t else txComplete n l.q st t) := by
  simp only [lineEnd, h, lineOff]

theorem lineEnd_reports {l : OnLine} (h : (s.port n).line = some l) (st : Nat) (how : TxEnd) :
    LineReports n (lineOff n l how s) (lineEnd n st how s) := by
  have hstamp : LineReports n (lineOff n l how s)
      (if l.head.stamp then txtsPush n l.stamp l.head.id (decide (how ≠ .good)) l.coarse (lineOff n l how s)
        else lineOff n l how s) := by
    split
    · exact txtsPush_reports ..
    · exact .refl n _
  rw [lineEnd_eq h]
  dsimp only
  split
  · exact hstamp
  · exact hstamp.trans (txComplete_reports ..)

/-- A host frame that asks for no stamp completes its descriptor, and that is all. -/
theorem lineEnd_plain {l : OnLine} (h : (s.port n).line = some l) (hstamp : l.head.stamp = false)
    (hstream : l.head.stream = false) (st : Nat) (how : TxEnd) :
    lineEnd n st how s = txComplete n l.q st (lineOff n l how s) := by
  simp [lineEnd_eq h, hstamp, hstream]

end Sys2Proof.Machine
end


section
/-! PROOFS. The link of an Ethernet port (R301 to R303, R318, R319): O30. -/
namespace Sys2Proof.Machine
variable {s t u : State} {n : Nat}

/-! ### LINK clears (R303, R318) -/

/-- LINK has cleared, and the frame on the line is not cut yet. -/
def linkFalls (n : Nat) (s : State) : State :=
  (((s.putPort n { s.port n with grid := none }).wr (Reg.ETH_STATUS_LINK n) 0).bump (Reg.ETH_LINK_DOWN_COUNT n)).raise 36 n 0

theorem linkDrop_down (h : s.rd (Reg.ETH_STATUS_LINK n) = 0) : linkDrop n s = s := by
  simp [linkDrop, State.bit, h]

theorem linkDrop_up (h : s.rd (Reg.ETH_STATUS_LINK n) ≠ 0) : linkDrop n s = lineCut n (linkFalls n s) := by
  simp only [linkDrop, State.bit, h, ne_eq, not_false_eq_true, decide_true, if_true, linkFalls]

theorem linkFalls_line (n : Nat) (s : State) : ((linkFalls n s).port n).line = (s.port n).line := by simp [linkFalls]

theorem linkDrop_idle (h : s.rd (Reg.ETH_STATUS_LINK n) ≠ 0) (hline : (s.port n).line = none) :
    linkDrop n s = linkFalls n s := by
  rw [linkDrop_up h, lineCut, linkFalls_line, hline]; rfl

theorem linkDrop_cuts {l : OnLine} (h : s.rd (Reg.ETH_STATUS_LINK n) ≠ 0) (hline : (s.port n).line = some l) :
    linkDrop n s = (lineEnd n stLinkCut .cut (linkFalls n s)).bump (Reg.ETH_TX_ABORT_COUNT n) := by
  rw [linkDrop_up h, lineCut, linkFalls_line, hline]; rfl

/-- LINK of port `n` has dropped without a frame on the line. -/
structure LinkDropped (n : Nat) (s t : State) : Prop where
  link : t.rd (Reg.ETH_STATUS_LINK n) = 0
  downs : t.rd (Reg.ETH_LINK_DOWN_COUNT n) = (s.rd (Reg.ETH_LINK_DOWN_COUNT n) + 1) % 2 ^ (Reg.ETH_LINK_DOWN_COUNT n).width
  grid : (t.port n).grid = none
  linkAt : (t.port n).linkAt = (s.port n).linkAt
  others : ∀ k, k ≠ n → t.port k = s.port k
  raised : t.flt.inflight = s.flt.inflight ++ [⟨36, n, 0, false⟩]
  frame : t = { s with regs := t.regs, flt := t.flt, ports := t.ports }
  regs : s.regsBut [Reg.ETH_STATUS_LINK n, Reg.ETH_LINK_DOWN_COUNT n] t

theorem linkFalls_dropped (n : Nat) (s : State) : LinkDropped n s (linkFalls n s) where
  link := by
    rw [linkFalls, State.rd_raise, State.rd_bump_ne _ (by simp), State.rd_wr_self, Nat.zero_mod]
  downs := by
    rw [linkFalls, State.rd_raise, State.rd_bump_self, State.rd_wr_ne _ (by simp), State.rd_putPort]
  grid := by simp [linkFalls]
  linkAt := by simp [linkFalls]
  others k hk := State.port_put_ne s (Ne.symm hk) _
  raised := rfl
  frame := rfl
  regs := .same (.bump (.wr (.same (s.regsBut_refl _) rfl) (by simp) _) (by simp) _) rfl

/-- LINK of port `n` has dropped, and the frame `l` on the line is cut off. -/
structure LinkCut (n : Nat) (l : OnLine) (s t : State) : Prop where
  link : t.rd (Reg.ETH_STATUS_LINK n) = 0
  downs : t.rd (Reg.ETH_LINK_DOWN_COUNT n) = (s.rd (Reg.ETH_LINK_DOWN_COUNT n) + 1) % 2 ^ (Reg.ETH_LINK_DOWN_COUNT n).width
  line : (t.port n).line = none
  sent : (t.port n).sent = l.bytes
  sentEnd : (t.port n).sentEnd = .cut
  aborts : t.rd (Reg.ETH_TX_ABORT_COUNT n) = (s.rd (Reg.ETH_TX_ABORT_COUNT n) + 1) % 2 ^ (Reg.ETH_TX_ABORT_COUNT n).width
  raised : ⟨36, n, 0, false⟩ ∈ t.flt.inflight
  linkAt : (t.port n).linkAt = (s.port n).linkAt
  slots : t.slots = s.slots
  status : ∀ f : Fld, f.addr = 0x34004 + 0x400 * n → f.lo < 16 → f.key ≠ (Reg.ETH_STATUS_LINK n).key → t.rd f = s.rd f

theorem linkDrop_cut {l : OnLine} (h : s.rd (Reg.ETH_STATUS_LINK n) ≠ 0) (hline : (s.port n).line = some l) :
    LinkCut n l s (linkDrop n s) := by
  have hfalls := linkFalls_dropped n s
  have hends := lineEnd_reports ((linkFalls_line n s).trans hline) stLinkCut .cut
  have hoff : ∀ f, (lineOff n l .cut (linkFalls n s)).rd f = (linkFalls n s).rd f := fun _ => rfl
  rw [linkDrop_cuts h hline]
  refine ⟨?_, ?_, ?_, ?_, ?_, ?_, ?_, ?_, ?_, fun f ha hlo hlink => ?_⟩
  · rw [State.rd_bump_ne _ (by simp), hends.rd _ (by simp; omega) (by simp; omega), hoff, hfalls.link]
  · rw [State.rd_bump_ne _ (by simp), hends.rd _ (by simp; omega) (by simp; omega), hoff, hfalls.downs]
  · exact hends.line.trans (by simp [lineOff])
  · exact hends.sent.trans (by simp [lineOff])
  · exact hends.sentEnd.trans (by simp [lineOff])
  · rw [State.rd_bump_self, hends.rd _ (by simp; omega) (by simp; omega), hoff, hfalls.regs _ (by simp)]
  · exact hends.raised (by rw [lineOff]; exact hfalls.raised ▸ List.mem_append_right _ (List.mem_singleton_self _))
  · exact hends.linkAt.trans (by simp [lineOff, hfalls.linkAt])
  · have hslots : (lineEnd n stLinkCut .cut (linkFalls n s)).slots = (lineOff n l .cut (linkFalls n s)).slots := by rw [hends.frame]
    exact hslots.trans (by rw [lineOff, hfalls.frame]; rfl)
  · have hkey : f.key = 32 * (0x34004 + 0x400 * n) + f.lo := by rw [Fld.key, ha]
    rw [State.rd_bump_ne _ (by simp [hkey]; omega), hends.rd _ (by simp [hkey]; omega) (by simp [hkey]; omega), hoff,
      hfalls.regs _ (by simp [hkey] at hlink ⊢; omega)]

/-! ### The recovered clock (R319) -/

/-- The recovered clock of port `n` is gated off. -/
def State.clockOff (s : State) (n : Nat) (t : State) : Prop :=
  t.rd (Reg.ETH_STATUS_RXCLK_OK n) = 0 ∧ t.slot (16 + n) = { s.slot (16 + n) with active := false } ∧
    ∀ k, k ≠ 16 + n → t.slot k = s.slot k

theorem rxclkOff_clockOff (n : Nat) (s : State) : s.clockOff n (rxclkOff n s) := by
  refine ⟨by rw [rxclkOff, State.rd_wr_self, Nat.zero_mod], by simp [rxclkOff], fun k hk => ?_⟩
  exact State.slot_put_ne s (Ne.symm hk) _

theorem rxclkOff_regsBut (n : Nat) (s : State) : s.regsBut [Reg.ETH_STATUS_RXCLK_OK n] (rxclkOff n s) :=
  .wr (.same (s.regsBut_refl _) rfl) (by simp) _

theorem rxclkOff_frame (n : Nat) (s : State) :
    rxclkOff n s = { s with regs := (rxclkOff n s).regs, slots := (rxclkOff n s).slots } := rfl

/-- What is gated off stays off through what leaves the slots and RXCLK_OK. -/
theorem State.clockOff.keep (h : s.clockOff n t) (hrd : u.rd (Reg.ETH_STATUS_RXCLK_OK n) = t.rd (Reg.ETH_STATUS_RXCLK_OK n))
    (hslots : u.slots = t.slots) : s.clockOff n u := by
  obtain ⟨hclk, hself, hne⟩ := h
  have hslot : ∀ k, u.slot k = t.slot k := fun k => by simp only [State.slot, hslots]
  exact ⟨hrd.trans hclk, (hslot _).trans hself, fun k hk => (hslot k).trans (hne k hk)⟩

/-- Slots as they were before are those that the clock is gated off from. -/
theorem State.clockOff.from (h : u.clockOff n t) (hslots : u.slots = s.slots) : s.clockOff n t := by
  obtain ⟨hclk, hself, hne⟩ := h
  have hslot : ∀ k, u.slot k = s.slot k := fun k => by simp only [State.slot, hslots]
  exact ⟨hclk, by rw [hself, hslot], fun k hk => (hne k hk).trans (hslot k)⟩

/-! ### EN (R302) -/

theorem exec_portEnable {n : Fin 4} (h : s.hostOpen (Reg.ETH_CTRL_EN n).addr) (ht : doPortEnable n s = .next t) :
    exec (.portEnable n) s = .next t :=
  hostCmd_plain _ (doPortEnable n) s t h (by simp only [Reg.ETH_CTRL_EN]; omega) (by simp only [Reg.ETH_CTRL_EN]; omega) ht

/-- Port `n` is enabled with the configuration it reads. -/
def portOn (n : Nat) (s : State) : State :=
  (s.putPort n { s.port n with
    mode := s.rd (Reg.ETH_CTRL_MODE n), fec := s.bit (Reg.ETH_CTRL_FEC n), an := s.bit (Reg.ETH_CTRL_AN n)
    loop := decide (s.rd (Reg.ETH_CTRL_LPBK n) = 1), lockAt := s.up, linkAt := s.up }).wr (Reg.ETH_CTRL_EN n) 1

theorem doPortEnable_off {n : Fin 4} (h : s.rd (Reg.ETH_CTRL_EN n) = 0) : doPortEnable n s = .next (portOn n s) := by
  simp [doPortEnable, State.bit, h, portOn]

theorem doPortEnable_on {n : Fin 4} (h : s.rd (Reg.ETH_CTRL_EN n) ≠ 0) : doPortEnable n s = .next s := by
  simp [doPortEnable, State.bit, h]

/-- The fields that a disabled port shows as 0. -/
def portOffs (n : Nat) : List Fld :=
  [Reg.ETH_CTRL_EN n, Reg.ETH_STATUS_RXCLK_OK n, Reg.ETH_STATUS_PCS_LOCK n, Reg.ETH_STATUS_FEC_LOCK n, Reg.ETH_STATUS_AN_DONE n,
   Reg.ETH_STATUS_LOCAL_FAULT n, Reg.ETH_STATUS_REMOTE_FAULT n]

/-- What a disabled port writes 0 to besides RXCLK_OK. -/
def portZeros (n : Nat) : List (Fld × Nat) :=
  [(Reg.ETH_CTRL_EN n, 0), (Reg.ETH_STATUS_PCS_LOCK n, 0), (Reg.ETH_STATUS_FEC_LOCK n, 0), (Reg.ETH_STATUS_AN_DONE n, 0),
   (Reg.ETH_STATUS_LOCAL_FAULT n, 0), (Reg.ETH_STATUS_REMOTE_FAULT n, 0)]

theorem portZeros_keys (n : Nat) : ((portZeros n).map (fun p => p.1.key)).Nodup := by
  simp [portZeros]; omega

theorem exec_portDisable {n : Fin 4} (h : s.hostOpen (Reg.ETH_CTRL_EN n).addr) :
    exec (.portDisable n) s = .next ((rxclkOff n (linkDrop n s)).wrs (portZeros n)) :=
  hostCmd_plain _ (doPortDisable n) s _ h (by simp only [Reg.ETH_CTRL_EN]; omega) (by simp only [Reg.ETH_CTRL_EN]; omega) rfl

/-- A disabled port shows nothing, and its recovered clock is gated off. -/
theorem portOff_stops (n : Nat) (s : State) : let t := (rxclkOff n s).wrs (portZeros n)
    s.clockOff n t ∧ ∀ f ∈ portOffs n, t.rd f = 0 := by
  have hclock : s.clockOff n ((rxclkOff n s).wrs (portZeros n)) :=
    (rxclkOff_clockOff n s).keep (State.rd_wrs_ne _ _ (by simp [portZeros]; omega)) (State.wrs_slots ..)
  refine ⟨hclock, fun f hf => ?_⟩
  rcases List.mem_cons.mp hf with rfl | hf
  · rw [State.rd_wrs_mem _ (portZeros_keys n) (v := 0) (by simp [portZeros]), Nat.zero_mod]
  rcases List.mem_cons.mp hf with rfl | hf
  · exact hclock.1
  · have hmem : (f, 0) ∈ portZeros n := by simp [portZeros] at hf ⊢; exact .inr hf
    rw [State.rd_wrs_mem _ (portZeros_keys n) hmem, Nat.zero_mod]

theorem portOff_regsBut (n : Nat) (s : State) : s.regsBut (portOffs n) ((rxclkOff n s).wrs (portZeros n)) :=
  ((rxclkOff_regsBut n s).mono (by simp [portOffs])).wrs _ (by simp [portZeros, portOffs])

theorem portOff_frame (n : Nat) (s : State) : let t := (rxclkOff n s).wrs (portZeros n)
    t = { s with regs := t.regs, slots := t.slots } := by
  obtain ⟨r, hr⟩ := (rxclkOff n s).wrs_frame (portZeros n)
  dsimp only
  rw [hr]; rfl

/-! ### Locks, auto-negotiation and LINK (R301, R303) -/

/-- The island's clock of port `n` runs again. -/
def islandRuns (n : Nat) (s : State) : State := { s with clk := { s.clk with stopped := maskClr s.clk.stopped (26 + n) } }

/-- The lock that PCS_LOCK_ACQUIRED and PCS_LOCK_LOSS speak of. -/
def lockFld (n : Nat) (fec : Bool) : Fld := if fec then Reg.ETH_STATUS_FEC_LOCK n else Reg.ETH_STATUS_PCS_LOCK n

theorem exec_pcsLockAcquired (n : Fin 4) (fec : Bool) (s : State) : exec (.pcsLockAcquired n fec) s =
    .next (if s.rd (Reg.ETH_CTRL_EN n) ≠ 0 ∧ (islandRuns n s).portLives n = true ∧ (fec = true → s.fecUsed n = true) then
      ((islandRuns n s).putPort n { s.port n with lockAt := s.up, linkAt := s.up }).wr (lockFld n fec) 1
    else islandRuns n s) :=
  congrArg Host.Outcome.next (if_congr (by rw [State.bit_eq, decide_eq_true_iff]; rfl) rfl rfl)

theorem exec_anComplete (n : Fin 4) (s : State) : exec (.anComplete n) s =
    .next (if s.rd (Reg.ETH_CTRL_EN n) ≠ 0 ∧ s.portLives n = true ∧ (s.port n).an = true ∧ s.lineMode n = 0 then
      (s.putPort n { s.port n with linkAt := s.up }).wr (Reg.ETH_STATUS_AN_DONE n) 1 else s) :=
  congrArg Host.Outcome.next (if_congr (by simp [State.bit_eq, State.anUsed]) rfl rfl)

/-- Does LINK of port `n` rise? -/
def State.linkRises (s : State) (n : Nat) : Prop :=
  s.locked n = true ∧ s.portLives n = true ∧ ((s.port n).an = true → s.lineMode n = 0 → s.rd (Reg.ETH_STATUS_AN_DONE n) ≠ 0) ∧
    5000000 ≤ s.up - (s.port n).linkAt ∧ s.rd (Reg.ETH_STATUS_LINK n) = 0

/-- LINK of port `n` has risen. -/
def linkUp (n : Nat) (s : State) : State :=
  (s.wrs [(Reg.ETH_STATUS_LINK n, 1), (Reg.ETH_STATUS_LOCAL_FAULT n, 0), (Reg.ETH_STATUS_REMOTE_FAULT n, 0)]).raise 36 n 1

theorem exec_linkUp_rises {n : Fin 4} (h : s.linkRises n) : exec (.linkUp n) s = .next (linkUp n s) := by
  obtain ⟨hlock, hlives, han, htime, hlink⟩ := h
  refine congrArg Host.Outcome.next (if_pos ?_)
  simp only [hlock, hlives, State.bit_eq, State.anUsed, tenMs, hlink]
  by_cases ha : (s.port n).an = true <;> by_cases hm : s.lineMode n = 0 <;> simp_all

theorem exec_linkUp_stays {n : Fin 4} (h : ¬s.linkRises n) : exec (.linkUp n) s = .next s := by
  refine congrArg Host.Outcome.next (if_neg fun hup => h ?_)
  simp only [State.bit_eq, State.anUsed, tenMs, Bool.and_eq_true, Bool.or_eq_true, decide_eq_true_eq, Bool.not_eq_true',
    Bool.and_eq_false_iff, decide_eq_false_iff_not] at hup
  obtain ⟨⟨⟨⟨hlock, hlives⟩, han⟩, htime⟩, hlink⟩ := hup
  refine ⟨hlock, hlives, fun ha hm => ?_, of_decide_eq_true htime, not_not.mp hlink⟩
  simpa [ha, hm] using han

theorem linkUp_rd (n : Nat) (s : State) : (linkUp n s).rd (Reg.ETH_STATUS_LINK n) = 1 ∧
    (linkUp n s).rd (Reg.ETH_STATUS_LOCAL_FAULT n) = 0 ∧ (linkUp n s).rd (Reg.ETH_STATUS_REMOTE_FAULT n) = 0 := by
  have hkeys : ([(Reg.ETH_STATUS_LINK n, 1), (Reg.ETH_STATUS_LOCAL_FAULT n, 0), (Reg.ETH_STATUS_REMOTE_FAULT n, 0)].map
      (fun p : Fld × Nat => p.1.key)).Nodup := by simp
  refine ⟨?_, ?_, ?_⟩
  · rw [linkUp, State.rd_raise, State.rd_wrs_mem _ hkeys (v := 1) (by simp)]; simp
  all_goals rw [linkUp, State.rd_raise, State.rd_wrs_mem _ hkeys (v := 0) (by simp), Nat.zero_mod]

/-! ### A condition of LINK fails (R303) -/

/-- Does a condition fail that the port uses? -/
def State.linkFails (s : State) (n : Nat) (why : LinkCause) : Prop :=
  (why = .an → (s.port n).an = true ∧ s.lineMode n = 0) ∧ (why = .localFault ∨ why = .remoteFault → s.lineMode n ≠ 0)

/-- The condition that failed is noted, and LINK is to stand for 10 ms again from now on. -/
def failNoted (n : Nat) (why : LinkCause) (s : State) : State :=
  match why with
  | .lock => s.putPort n { s.port n with linkAt := s.up }
  | .an => (s.putPort n { s.port n with linkAt := s.up }).wr (Reg.ETH_STATUS_AN_DONE n) 0
  | .localFault => (s.putPort n { s.port n with linkAt := s.up }).wr (Reg.ETH_STATUS_LOCAL_FAULT n) 1
  | .remoteFault => (s.putPort n { s.port n with linkAt := s.up }).wr (Reg.ETH_STATUS_REMOTE_FAULT n) 1

theorem exec_linkDown_fails {n : Fin 4} {why : LinkCause} (h : s.linkFails n why) :
    exec (.linkDown n why) s = .next (linkDrop n (failNoted n why s)) := by
  obtain ⟨han, hfault⟩ := h
  cases why with
  | lock => rfl
  | an => exact congrArg Host.Outcome.next (if_neg (by simp [State.anUsed, han]))
  | localFault => exact congrArg Host.Outcome.next (if_neg (by simp [State.faultsUsed, hfault]))
  | remoteFault => exact congrArg Host.Outcome.next (if_neg (by simp [State.faultsUsed, hfault]))

theorem exec_linkDown_holds {n : Fin 4} {why : LinkCause} (h : ¬s.linkFails n why) : exec (.linkDown n why) s = .next s := by
  cases why with
  | lock => exact absurd ⟨by simp, by simp⟩ h
  | an => exact congrArg Host.Outcome.next (if_pos (by simpa [State.linkFails, State.anUsed, imp_iff_not_or] using h))
  | localFault => exact congrArg Host.Outcome.next (if_pos (by simpa [State.linkFails, State.faultsUsed] using h))
  | remoteFault => exact congrArg Host.Outcome.next (if_pos (by simpa [State.linkFails, State.faultsUsed] using h))

/-- What `failNoted` shows. -/
def State.showsFail (s : State) (n : Nat) (why : LinkCause) (t : State) : Prop :=
  (t.port n).linkAt = s.up ∧ (why = .an → t.rd (Reg.ETH_STATUS_AN_DONE n) = 0) ∧
    (why = .localFault → t.rd (Reg.ETH_STATUS_LOCAL_FAULT n) = 1) ∧ (why = .remoteFault → t.rd (Reg.ETH_STATUS_REMOTE_FAULT n) = 1)

theorem failNoted_shows (n : Nat) (why : LinkCause) (s : State) : s.showsFail n why (failNoted n why s) := by
  cases why <;> simp [State.showsFail, failNoted]

theorem failNoted_regsBut (n : Nat) (why : LinkCause) (s : State) :
    s.regsBut [Reg.ETH_STATUS_AN_DONE n, Reg.ETH_STATUS_LOCAL_FAULT n, Reg.ETH_STATUS_REMOTE_FAULT n] (failNoted n why s) := by
  have hput : s.regsBut [Reg.ETH_STATUS_AN_DONE n, Reg.ETH_STATUS_LOCAL_FAULT n, Reg.ETH_STATUS_REMOTE_FAULT n]
    (s.putPort n { s.port n with linkAt := s.up }) := State.regsBut_of_regs_eq rfl _
  cases why with
  | lock => exact hput
  | an => exact hput.wr (by simp) 0
  | localFault => exact hput.wr (by simp) 1
  | remoteFault => exact hput.wr (by simp) 1

theorem failNoted_movesPort (n : Nat) (why : LinkCause) (s : State) : s.movesPort n (failNoted n why s) := by
  have hput := (s.movesPort_refl n).putPort { s.port n with linkAt := s.up }
  cases why with
  | lock => exact hput
  | an => exact hput.wr _ _
  | localFault => exact hput.wr _ _
  | remoteFault => exact hput.wr _ _

theorem failNoted_line (n : Nat) (why : LinkCause) (s : State) : ((failNoted n why s).port n).line = (s.port n).line := by
  cases why <;> simp [failNoted]

/-- What shows the failure still shows it after what leaves those fields. -/
theorem State.showsFail.keep {why : LinkCause} (h : s.showsFail n why t) (hlink : (u.port n).linkAt = (t.port n).linkAt)
    (hrd : ∀ f ∈ [Reg.ETH_STATUS_AN_DONE n, Reg.ETH_STATUS_LOCAL_FAULT n, Reg.ETH_STATUS_REMOTE_FAULT n], u.rd f = t.rd f) :
    s.showsFail n why u := by
  obtain ⟨hat, han, hlocal, hremote⟩ := h
  exact ⟨hlink.trans hat, fun hw => (hrd _ (by simp)).trans (han hw), fun hw => (hrd _ (by simp)).trans (hlocal hw),
    fun hw => (hrd _ (by simp)).trans (hremote hw)⟩

/-! ### A lock is lost (R303, R319) -/

theorem exec_pcsLockLoss (n : Fin 4) (fec : Bool) (s : State) : exec (.pcsLockLoss n fec) s =
    .next (if (s.wr (lockFld n fec) 0).locked n then s.wr (lockFld n fec) 0
      else linkDrop n (rxclkOff n (s.wr (lockFld n fec) 0))) := rfl

/-- A lost lock leaves the locks that the port needs only where it is the FEC lock of a port that does not use it. -/
theorem locked_after_loss (n : Nat) (fec : Bool) (s : State) : (s.wr (lockFld n fec) 0).locked n = true ↔
    fec = true ∧ s.rd (Reg.ETH_CTRL_EN n) ≠ 0 ∧ s.rd (Reg.ETH_STATUS_PCS_LOCK n) ≠ 0 ∧ s.fecUsed n = false := by
  have hfec : (s.wr (lockFld n fec) 0).fecUsed n = s.fecUsed n := rfl
  cases fec with
  | false => simp [State.locked, State.bit_eq, lockFld]
  | true =>
    simp (disch := first | (simp; done) | (simp; omega)) [State.locked, State.bit_eq, lockFld] at hfec ⊢
    rw [hfec]
    tauto

/-- A failed lock without LINK gates the clock off. -/
theorem lockLoss_gated (n : Nat) (fec : Bool) (s : State) : let t := rxclkOff n (s.wr (lockFld n fec) 0)
    t.rd (lockFld n fec) = 0 ∧ s.clockOff n t ∧ s.regsBut [lockFld n fec, Reg.ETH_STATUS_RXCLK_OK n] t := by
  refine ⟨?_, (rxclkOff_clockOff n _).from rfl, .trans (s.regsBut_wr (by simp) 0) ((rxclkOff_regsBut n _).mono (by simp))⟩
  rw [rxclkOff_regsBut n _ _ (by cases fec <;> simp [lockFld]), State.rd_wr_self, Nat.zero_mod]

theorem lockLoss_link (n : Nat) (fec : Bool) (s : State) :
    (rxclkOff n (s.wr (lockFld n fec) 0)).rd (Reg.ETH_STATUS_LINK n) = s.rd (Reg.ETH_STATUS_LINK n) := by
  rw [rxclkOff_regsBut n _ _ (by simp), State.rd_wr_ne _ (by cases fec <;> simp [lockFld])]

theorem lockFld_addr (n : Nat) (fec : Bool) : (lockFld n fec).addr = 0x34004 + 0x400 * n ∧ (lockFld n fec).lo < 16 ∧
    (lockFld n fec).key ≠ (Reg.ETH_STATUS_LINK n).key := by
  cases fec
  · exact ⟨rfl, (show 1 < 16 by decide), by simp [lockFld]⟩
  · exact ⟨rfl, (show 2 < 16 by decide), by simp [lockFld]⟩

theorem exec_rxclkGateOn (n : Fin 4) (s : State) : exec (.rxclkGateOn n) s =
    .next (if s.locked n = true ∧ s.portLives n = true ∧ s.rd (Reg.ETH_SYNCE_RXCLK_EN n) ≠ 0 ∧ (s.port n).loop = false ∧
        5000000 ≤ s.up - (s.port n).lockAt then s.wr (Reg.ETH_STATUS_RXCLK_OK n) 1 else s) :=
  congrArg Host.Outcome.next (if_congr (by simp [State.bit_eq, tenMs]) rfl rfl)

/-- Settles O30: LINK drops by `linkDrop`, whose end of a frame is `LinkCut`, and the clock is gated off by `rxclkOff`. -/
theorem portLink : Obligations.port_link := by
  intro n fec why s
  refine ⟨fun h hen => ?_, fun h hen => exec_portEnable h (doPortEnable_on hen), fun h hlink => ?_, fun h hlink hline => ?_,
    fun l h hlink hline => ?_, fun h => ?_, fun h => ?_, fun h => ?_, fun h => ?_, fun h => ?_, exec_linkUp_stays,
    exec_linkDown_holds, fun h hlink => ?_, fun h hlink hline => ?_, fun l h hlink hline => ?_, fun h => ?_, fun h hlink => ?_,
    fun h hlink hline => ?_, fun l h hlink hline => ?_, fun h => ?_, fun h => ?_⟩
  case refine_1 =>
    have hput : s.regsBut [Reg.ETH_CTRL_EN n] (s.putPort n { s.port n with
      mode := s.rd (Reg.ETH_CTRL_MODE n), fec := s.bit (Reg.ETH_CTRL_FEC n), an := s.bit (Reg.ETH_CTRL_AN n)
      loop := decide (s.rd (Reg.ETH_CTRL_LPBK n) = 1), lockAt := s.up, linkAt := s.up }) := State.regsBut_of_regs_eq rfl _
    exact ⟨_, exec_portEnable h (doPortEnable_off hen), State.rd_wr_self .., s.port_put_self _ _, s.port_putPort_others n _,
      hput.wr (by simp) 1, rfl⟩
  case refine_2 =>
    refine ⟨_, exec_portDisable h, ?_⟩
    rw [linkDrop_down hlink]
    exact ⟨portOff_stops n s, portOff_regsBut n s, portOff_frame n s⟩
  case refine_3 =>
    have hdrop := linkFalls_dropped n s
    refine ⟨_, exec_portDisable h, ?_⟩
    rw [linkDrop_idle hlink hline]
    obtain ⟨hclock, hzeros⟩ := portOff_stops n (linkFalls n s)
    have hoff := portOff_regsBut n (linkFalls n s)
    have hframe := portOff_frame n (linkFalls n s)
    have hport : ∀ k, ((rxclkOff n (linkFalls n s)).wrs (portZeros n)).port k = (linkFalls n s).port k := fun k =>
      State.port_wrs ..
    refine ⟨⟨hclock.from (by rw [hdrop.frame]), hzeros⟩, ⟨⟨?_, ?_⟩, ?_, fun k hk => ?_, ?_, ?_⟩, ?_⟩
    · exact (hoff _ (by simp [portOffs]; omega)).trans hdrop.link
    · exact (hoff _ (by simp [portOffs]; omega)).trans hdrop.downs
    · rw [hport, hdrop.grid]
    · rw [hport, hdrop.others k hk]
    · rw [hframe]; exact hdrop.raised
    · rw [hframe, hdrop.frame]
    · exact (hdrop.regs.mono (by simp)).trans (hoff.mono (by simp [portOffs]))
  case refine_4 =>
    have hcut := linkDrop_cut hlink hline
    obtain ⟨hclock, hzeros⟩ := portOff_stops n (linkDrop n s)
    have hoff := portOff_regsBut n (linkDrop n s)
    have hframe := portOff_frame n (linkDrop n s)
    have hport : ((rxclkOff n (linkDrop n s)).wrs (portZeros n)).port n = (linkDrop n s).port n := State.port_wrs ..
    refine ⟨_, exec_portDisable h, ⟨hclock.from hcut.slots, hzeros⟩, ⟨?_, ?_⟩, ?_, ?_, ?_, ?_, ?_⟩
    · exact (hoff _ (by simp [portOffs]; omega)).trans hcut.link
    · exact (hoff _ (by simp [portOffs]; omega)).trans hcut.downs
    · rw [hport, hcut.line]
    · rw [hport, hcut.sent]
    · rw [hport, hcut.sentEnd]
    · exact (hoff _ (by simp [portOffs]; omega)).trans hcut.aborts
    · rw [hframe]; exact hcut.raised
  case refine_5 =>
    have hput : s.regsBut [lockFld n fec] ((islandRuns n s).putPort n { s.port n with lockAt := s.up, linkAt := s.up }) :=
      State.regsBut_of_regs_eq rfl _
    refine ⟨_, (exec_pcsLockAcquired n fec s).trans (congrArg _ (if_pos h)), ?_, State.port_put_self .., fun k hk => ?_,
      hput.wr (by simp) 1, rfl⟩
    · cases fec <;> exact State.rd_wr_self ..
    · exact State.port_put_ne _ (Ne.symm hk) _
  case refine_6 => exact (exec_pcsLockAcquired n fec s).trans (congrArg _ (if_neg h))
  case refine_7 =>
    have hput : s.regsBut [Reg.ETH_STATUS_AN_DONE n] (s.putPort n { s.port n with linkAt := s.up }) :=
      State.regsBut_of_regs_eq rfl _
    exact ⟨_, (exec_anComplete n s).trans (congrArg _ (if_pos h)), State.rd_wr_self .., State.port_put_self ..,
      s.port_putPort_others n _, hput.wr (by simp) 1, rfl⟩
  case refine_8 => exact (exec_anComplete n s).trans (congrArg _ (if_neg h))
  case refine_9 =>
    obtain ⟨hlink, hlocal, hremote⟩ := linkUp_rd n s
    exact ⟨_, exec_linkUp_rises h, hlink, hlocal, hremote, rfl, .same (s.regsBut_wrs _ (by simp)) rfl, rfl⟩
  case refine_10 =>
    obtain ⟨hothers, hframe⟩ := failNoted_movesPort n why s
    have hdown : (failNoted n why s).rd (Reg.ETH_STATUS_LINK n) = 0 := (failNoted_regsBut n why s _ (by simp)).trans hlink
    refine ⟨_, exec_linkDown_fails h, ?_⟩
    rw [linkDrop_down hdown]
    exact ⟨failNoted_shows n why s, hothers, failNoted_regsBut n why s, hframe⟩
  case refine_11 =>
    obtain ⟨hothers, hframe⟩ := failNoted_movesPort n why s
    have hnoted := failNoted_regsBut n why s
    have hdrop := linkFalls_dropped n (failNoted n why s)
    refine ⟨_, exec_linkDown_fails h, ?_⟩
    rw [linkDrop_idle (by rwa [hnoted _ (by simp)]) ((failNoted_line n why s).trans hline)]
    refine ⟨(failNoted_shows n why s).keep hdrop.linkAt fun f hf => hdrop.regs f ?_, ⟨⟨hdrop.link, ?_⟩, hdrop.grid,
      fun k hk => (hdrop.others k hk).trans (hothers k hk), ?_, ?_⟩, ?_, ?_⟩
    · simp only [List.mem_cons, List.not_mem_nil, or_false] at hf
      obtain rfl | rfl | rfl := hf <;> (simp; omega)
    · rw [hdrop.downs, hnoted _ (by simp; omega)]
    · rw [hdrop.raised, hframe]
    · rw [hdrop.frame, hframe]
    · rw [hdrop.frame, hframe]
    · exact (hnoted.mono (by simp)).trans (hdrop.regs.mono (by simp))
  case refine_12 =>
    have hnoted := failNoted_regsBut n why s
    have hcut := linkDrop_cut (by rwa [hnoted _ (by simp)]) ((failNoted_line n why s).trans hline)
    refine ⟨_, exec_linkDown_fails h, (failNoted_shows n why s).keep hcut.linkAt fun f hf => ?_, ⟨hcut.link, ?_⟩, hcut.line,
      hcut.sent, hcut.sentEnd, ?_, hcut.raised⟩
    · simp only [List.mem_cons, List.not_mem_nil, or_false] at hf
      obtain rfl | rfl | rfl := hf <;> exact hcut.status _ rfl (by simp [Reg.ETH_STATUS_AN_DONE, Reg.ETH_STATUS_LOCAL_FAULT, Reg.ETH_STATUS_REMOTE_FAULT]) (by simp)
    · rw [hcut.downs, hnoted _ (by simp; omega)]
    · rw [hcut.aborts, hnoted _ (by simp; omega)]
  case refine_13 =>
    refine ⟨_, (exec_pcsLockLoss n fec s).trans (congrArg _ (if_pos ((locked_after_loss n fec s).mpr h))), ?_,
      s.onlyRegs_wrs [(lockFld n fec, 0)] (by simp [lockFld])⟩
    exact (State.rd_wr_self ..).trans (Nat.zero_mod _)
  case refine_14 =>
    refine ⟨_, (exec_pcsLockLoss n fec s).trans (congrArg _ (if_neg ((locked_after_loss n fec s).not.mpr h))), ?_⟩
    obtain ⟨hlock, hclock, hregs⟩ := lockLoss_gated n fec s
    rw [linkDrop_down ((lockLoss_link n fec s).trans hlink)]
    exact ⟨hlock, hclock, hregs, rfl⟩
  case refine_15 =>
    refine ⟨_, (exec_pcsLockLoss n fec s).trans (congrArg _ (if_neg ((locked_after_loss n fec s).not.mpr h))), ?_⟩
    obtain ⟨hlock, hclock, hregs⟩ := lockLoss_gated n fec s
    have hdrop := linkFalls_dropped n (rxclkOff n (s.wr (lockFld n fec) 0))
    rw [linkDrop_idle (s := rxclkOff n (s.wr (lockFld n fec) 0)) (by rwa [lockLoss_link]) hline]
    refine ⟨?_, hclock.keep (hdrop.regs _ (by simp; omega)) (by rw [hdrop.frame]), ⟨⟨hdrop.link, ?_⟩, hdrop.grid, hdrop.others,
      hdrop.raised, hdrop.frame⟩, ?_⟩
    · exact (hdrop.regs _ (by cases fec <;> (simp; omega))).trans hlock
    · rw [hdrop.downs, hregs _ (by cases fec <;> (simp [lockFld]; omega))]
    · exact (hregs.mono (by simp [lockFld])).trans (hdrop.regs.mono (by simp))
  case refine_16 =>
    refine ⟨_, (exec_pcsLockLoss n fec s).trans (congrArg _ (if_neg ((locked_after_loss n fec s).not.mpr h))), ?_⟩
    obtain ⟨hlock, hclock, hregs⟩ := lockLoss_gated n fec s
    obtain ⟨haddr, hlo, hne⟩ := lockFld_addr n fec
    have hcut := linkDrop_cut (s := rxclkOff n (s.wr (lockFld n fec) 0)) (l := l) (by rwa [lockLoss_link]) hline
    refine ⟨(hcut.status _ haddr hlo hne).trans hlock, hclock.keep (hcut.status _ rfl (by simp [Reg.ETH_STATUS_RXCLK_OK]) (by simp)) hcut.slots,
      ⟨hcut.link, ?_⟩, hcut.line, hcut.sent, hcut.sentEnd, ?_, hcut.raised⟩
    · rw [hcut.downs, hregs _ (by cases fec <;> (simp [lockFld]; omega))]
    · rw [hcut.aborts, hregs _ (by cases fec <;> (simp [lockFld]; omega))]
  case refine_17 =>
    exact ⟨_, (exec_rxclkGateOn n s).trans (congrArg _ (if_pos h)), State.rd_wr_self ..,
      s.onlyRegs_wrs [(Reg.ETH_STATUS_RXCLK_OK n, 1)] (by simp)⟩
  case refine_18 => exact (exec_rxclkGateOn n s).trans (congrArg _ (if_neg h))

end Sys2Proof.Machine
end


section
/-! PROOFS. Received frames (R304 to R308, R313): O31. -/
namespace Sys2Proof.Machine

/-- A broadcast frame of EtherType 0x9000 with its FCS, before which the port met a codeword that RS-FEC could not correct. -/
def uncorrectedFrame : RxIn :=
  let b := List.replicate 6 0xFF ++ [2, 0, 0, 0, 0, 5, 0x90, 0x00] ++ List.replicate 46 7
  { bytes := b ++ fcsOf b, bad := false, t := 0, fecUncorr := 1 }

/-- Port 2 takes EtherType 0x9000 to queue 16, where R307 has QUEUE in two bits, and the place of that queue's TAIL is the count of
the codewords that RS-FEC could not correct. -/
def wideQueueState : State :=
  { regs := [((Reg.ETH_STATUS_LINK 2).key, 1), ((Reg.ETH_CLASS_EN 2 0).key, 1), ((Reg.ETH_CLASS_KIND 2 0).key, 0),
      ((Reg.ETH_CLASS_VALUE 2 0).key, 0x9000), ((Reg.ETH_CLASS_QUEUE 2 0).key, 16), ((Reg.ETH_RXQ_CFG_EN 2 16).key, 1),
      ((Reg.ETH_RXQ_CFG_QUOTA 2 16).key, 1), (Reg.HOST_STATUS_PCIE_LINK.key, 1), (Reg.HOST_STATUS_BME.key, 1)]
    clk := { time := .tb } }

/-- The receive rule takes the frame to queue 16. -/
theorem wideQueue_rule : (((List.range 8).find? (fun k => wideQueueState.ruleMatches 2 k uncorrectedFrame.bytes)).map
    (fun k => wideQueueState.rd (Reg.ETH_CLASS_QUEUE 2 k))).getD 0 = 16 := by decide +kernel

/-- The frame is delivered at once, for its own count has moved TAIL. -/
theorem wideQueue_delivers :
    ((nextOr wideQueueState (exec (.rxFrame 2 uncorrectedFrame) wideQueueState)).rxq 2 16).wait = [] := by decide +kernel

/-- Refutes O31 in the clause on a frame that waits for a descriptor: `State` allows QUEUE of a receive rule to hold 16, the TAIL of
queue 16 is the place of FEC_UNCORR, and the count of the frame's codewords makes a descriptor ready. -/
theorem not_receive : ¬ Obligations.receive := by
  unfold Obligations.receive
  intro h
  obtain ⟨-, -, -, -, -, -, -, -, hwaits, -⟩ := h 2 uncorrectedFrame wideQueueState
  have harrives : ((wideQueueState.port (2 : Fin 4)).loop = false ∧ wideQueueState.rd (Reg.ETH_STATUS_LINK (2 : Fin 4)) ≠ 0) ∧
      wideQueueState.portLives (2 : Fin 4) = true := by decide +kernel
  have hwhole : 18 ≤ uncorrectedFrame.bytes.length ∧ ¬uncorrectedFrame.bytes.length < 64 ∧
      ¬wideQueueState.frameLimit (2 : Fin 4) (isTagged uncorrectedFrame.bytes) < uncorrectedFrame.bytes.length ∧
      ¬rxDamaged uncorrectedFrame = true ∧ ¬beRead uncorrectedFrame.bytes 12 2 = 0x8808 := by decide +kernel
  have haccepted : wideQueueState.accepts (2 : Fin 4) uncorrectedFrame.bytes = true ∧
      wideQueueState.authCheck (2 : Fin 4) (uncorrectedFrame.bytes.take (uncorrectedFrame.bytes.length - 4)) < 2 := by
    decide +kernel
  have hfits : wideQueueState.rd (Reg.ETH_RXQ_CFG_EN (2 : Fin 4) 16) ≠ 0 ∧ wideQueueState.rxCfgErr (2 : Fin 4) 16 = false ∧
      wideQueueState.rxHeld (2 : Fin 4) 16 + uncorrectedFrame.bytes.length ≤
        wideQueueState.rd (Reg.ETH_RXQ_CFG_QUOTA (2 : Fin 4) 16) * 4096 := by decide +kernel
  obtain ⟨hpins, hlives⟩ := harrives
  obtain ⟨hlong, hrunt, hbig, hbad, hcontrol⟩ := hwhole
  have hwaits := hwaits ⟨⟨⟨hpins, hlives, fun hw => absurd hw.1 (by decide)⟩, hlong,
    not_or.mpr ⟨hrunt, not_or.mpr ⟨hbig, hbad⟩⟩, hcontrol⟩, haccepted⟩
  rw [show ((2 : Fin 4) : Nat) = 2 from rfl, wideQueue_rule] at hwaits
  obtain ⟨t, ht, ⟨d, hwait, -⟩, -⟩ := hwaits hfits (by decide) (by decide)
  have hnone := wideQueue_delivers
  rw [show exec (.rxFrame 2 uncorrectedFrame) wideQueueState = .next t from ht] at hnone
  exact absurd (hwait.symm.trans hnone) (List.cons_ne_nil _ _)

end Sys2Proof.Machine
end


section
/-! PROOFS. The start of a frame at an Ethernet port, and what a received frame leaves of the line (R304 to R308, R314, R315, R328,
R335). -/
namespace Sys2Proof.Machine
variable {s t u : State} {n q : Nat}

/-! ### What a frame's stamp and bytes depend on (R328, R335, R342) -/

/-- From `s` to `u` the count of late frames and ports may change, but not the mode of port `n`. -/
structure StartView (n : Nat) (s u : State) : Prop where
  rd : ∀ f : Fld, f.key ≠ (Reg.ETH_TX_LATE_COUNT n).key → u.rd f = s.rd f
  mode : u.lineMode n = s.lineMode n
  frame : u = { s with regs := u.regs, ports := u.ports }

theorem StartView.byteTime (h : StartView n s u) : u.byteTime n = s.byteTime n := by
  simp only [State.byteTime, h.mode]

theorem StartView.portTs (h : StartView n s u) : u.portTs n = s.portTs n := h.rd _ (by simp; omega)

theorem StartView.tsAt16 (h : StartView n s u) (k : Nat) (at' : Int) : u.tsAt16 k at' = s.tsAt16 k at' := by
  have hfree : u.bit (Reg.TS_CFG_FREE k) = s.bit (Reg.TS_CFG_FREE k) := by rw [State.bit_eq, h.rd _ (by simp; omega)]; rfl
  have hpath : u.rd (Reg.TS_CFG_PATH k) = s.rd (Reg.TS_CFG_PATH k) := h.rd _ (by simp; omega)
  have hts : u.ts = s.ts := by rw [h.frame]
  have htb : u.tb = s.tb := by rw [h.frame]
  have hpaths : u.paths = s.paths := by rw [h.frame]
  simp only [State.tsAt16, State.tscale, State.tsInc, State.dco, State.path, hfree, hpath, hts, htb, hpaths]

theorem StartView.portWt (h : StartView n s u) (at' : Int) : u.portWt n at' = s.portWt n at' := by
  simp only [State.portWt, h.portTs, h.tsAt16]

theorem StartView.portStamp (h : StartView n s u) (at' adj : Int) : u.portStamp n at' adj = s.portStamp n at' adj := by
  simp only [State.portStamp, h.portTs, h.tsAt16]

theorem StartView.portCoarse (h : StartView n s u) : u.portCoarse = s.portCoarse := by
  rw [h.frame]; rfl

theorem StartView.key (h : StartView n s u) (k : Nat) : u.key k = s.key k := by
  rw [h.frame]; rfl

theorem StartView.bit (h : StartView n s u) {f : Fld} (hf : f.key ≠ (Reg.ETH_TX_LATE_COUNT n).key) : u.bit f = s.bit f := by
  rw [State.bit_eq, h.rd f hf]; rfl

theorem StartView.association (h : StartView n s u) (hn : n < 4) (b : List Byte) (at' : Nat) :
    u.association n b at' = s.association n b at' := by
  have hen : ∀ k, u.bit (Reg.PTP_SA_CFG_EN n k) = s.bit (Reg.PTP_SA_CFG_EN n k) := fun k => h.bit (by simp; omega)
  have hspp : ∀ k, u.rd (Reg.PTP_SA_CFG_SPP n k) = s.rd (Reg.PTP_SA_CFG_SPP n k) := fun k => h.rd _ (by simp; omega)
  have hid : ∀ k, u.rd (Reg.PTP_SA_KEYID_KEYID n k) = s.rd (Reg.PTP_SA_KEYID_KEYID n k) := fun k => h.rd _ (by simp; omega)
  simp only [State.association, hen, hspp, hid]

theorem StartView.icv (h : StartView n s u) (k : Nat) (b : List Byte) (p at' : Nat) : u.icv n k b p at' = s.icv n k b p at' := by
  have hslot : u.rd (Reg.PTP_SA_CFG_KEY_SLOT n k) = s.rd (Reg.PTP_SA_CFG_KEY_SLOT n k) := h.rd _ (by simp; omega)
  simp only [State.icv, hslot, h.key]

theorem StartView.signer (h : StartView n s u) (hn : n < 4) (b : List Byte) : u.signer n b = s.signer n b := by
  have hen : u.bit (Reg.PTP_CFG_AUTH_EN n) = s.bit (Reg.PTP_CFG_AUTH_EN n) := h.bit (by simp; omega)
  have htx : ∀ k, u.bit (Reg.PTP_SA_CFG_TX n k) = s.bit (Reg.PTP_SA_CFG_TX n k) := fun k => h.bit (by simp; omega)
  have hslot : ∀ k, u.rd (Reg.PTP_SA_CFG_KEY_SLOT n k) = s.rd (Reg.PTP_SA_CFG_KEY_SLOT n k) := fun k => h.rd _ (by simp; omega)
  simp only [State.signer, hen, htx, hslot, h.association hn, h.key]

theorem StartView.outgoing (h : StartView n s u) (hn : n < 4) (x : TxHead) (v : Nat) : u.outgoing n x v = s.outgoing n x v := by
  simp only [State.outgoing, h.signer hn, h.icv]

theorem StartView.refl (n : Nat) (s : State) : StartView n s s := ⟨fun _ _ => rfl, rfl, rfl⟩

theorem StartView.bumpLate (h : StartView n s u) : StartView n s (u.bump (Reg.ETH_TX_LATE_COUNT n)) :=
  ⟨fun f hf => (u.rd_wr_ne (Ne.symm hf) _).trans (h.rd f hf), h.mode, by rw [h.frame]; rfl⟩

/-! ### The start of the offered frame (R315, R328, R335) -/

/-- The TB time of the first bit of a frame that starts at `at'` (R328). -/
def State.firstBit (s : State) (n : Nat) (at' : Int) : Int := at' + roundDiv (8 * s.byteTime n) 25

/-- Is the frame that starts at `at'` late (R315)? -/
def State.startsLate (s : State) (n q : Nat) (at' : Int) (h : TxHead) : Bool :=
  h.launch.any (fun tg => decide ((s.rd (Reg.ETH_TXQ_CFG_LATE_TOL n q) * 65536 : Nat) < sdiff (s.portWt n (s.firstBit n at')) tg))

/-- The stamp of the frame that starts at `at'` (R328). -/
def State.startStamp (s : State) (n : Nat) (at' : Int) : Nat :=
  s.portStamp n (s.firstBit n at') (s.rdi (Reg.PTP_TX_ADJ_VALUE n))

theorem StartView.startsLate (h : StartView n s u) {q : Nat} (at' : Int) (x : TxHead)
    (hq : (Reg.ETH_TXQ_CFG_LATE_TOL n q).key ≠ (Reg.ETH_TX_LATE_COUNT n).key) :
    u.startsLate n q at' x = s.startsLate n q at' x := by
  simp only [State.startsLate, State.firstBit, h.byteTime, h.portWt, h.rd _ hq]
  rfl

theorem StartView.startStamp (h : StartView n s u) (hn : n < 4) (at' : Int) : u.startStamp n at' = s.startStamp n at' := by
  have hadj : u.rd (Reg.PTP_TX_ADJ_VALUE n) = s.rd (Reg.PTP_TX_ADJ_VALUE n) := h.rd _ (by simp; omega)
  simp only [State.startStamp, State.firstBit, State.rdi, h.byteTime, h.portStamp, hadj]

/-- A late frame has been counted. -/
def lateCounted (n q : Nat) (at' : Int) (h : TxHead) (s : State) : State :=
  if s.startsLate n q at' h then s.bump (Reg.ETH_TX_LATE_COUNT n) else s

/-- A ONE_STEP frame that is sent without its stamp has been counted. -/
def skipCounted (n : Nat) (h : TxHead) (rewritten : Bool) (s : State) : State :=
  if h.oneStep && !rewritten then s.bump (Reg.PTP_ONE_STEP_SKIP_COUNT n) else s

/-- The frame `l` goes on the line at `at'`. -/
def lineTaken (n : Nat) (at' : Int) (l : OnLine) (s : State) : State :=
  s.putPort n { s.port n with
    line := some l, prev := some (at', 8 + l.bytes.length + 4 + 12)
    grid := if (s.port n).rate = 0 then some at' else none }

theorem lateCounted_view (n q : Nat) (at' : Int) (h : TxHead) (s : State) : StartView n s (lateCounted n q at' h s) := by
  unfold lateCounted
  split
  · exact (StartView.refl n s).bumpLate
  · exact .refl n s

theorem startFrame_drop {at' : Int} {h : TxHead} (hlate : s.startsLate n q at' h = true)
    (hdrop : (s.bump (Reg.ETH_TX_LATE_COUNT n)).bit (Reg.ETH_TXQ_CFG_LATE_DROP n q) = true) :
    startFrame n q at' h s = txComplete n q stLateDrop (s.bump (Reg.ETH_TX_LATE_COUNT n)) := by
  unfold State.startsLate State.firstBit at hlate
  simp only [startFrame, hlate, hdrop, if_true, Bool.and_self]

/-- The frame that the offered head makes. -/
def State.outLine (s : State) (n q : Nat) (at' : Int) (h : TxHead) : OnLine :=
  let v := s.startStamp n at'
  let o := s.outgoing n h v
  ⟨q, h, o.1, v, s.portCoarse, s.startsLate n q at' h, o.2⟩

theorem startFrame_line {at' : Int} {h : TxHead} (hn : n < 4) (hstream : h.stream = false)
    (hdrop : ¬(s.startsLate n q at' h = true ∧ (lateCounted n q at' h s).bit (Reg.ETH_TXQ_CFG_LATE_DROP n q) = true)) :
    startFrame n q at' h s = lineTaken n at' (s.outLine n q at' h)
      (skipCounted n h (s.outgoing n h (s.startStamp n at')).2 (lateCounted n q at' h s)) := by
  have hview := lateCounted_view n q at' h s
  have hstamp : (lateCounted n q at' h s).portStamp n (s.firstBit n at')
      ((lateCounted n q at' h s).rdi (Reg.PTP_TX_ADJ_VALUE n)) = s.startStamp n at' := by
    rw [← hview.startStamp hn at', State.startStamp, State.firstBit, State.firstBit, hview.byteTime]
  have hcoarse : (skipCounted n h (s.outgoing n h (s.startStamp n at')).2 (lateCounted n q at' h s)).portCoarse = s.portCoarse := by
    rw [← hview.portCoarse, skipCounted]; split <;> rfl
  have hkept : (s.startsLate n q at' h && (lateCounted n q at' h s).bit (Reg.ETH_TXQ_CFG_LATE_DROP n q)) = false := by
    simpa using hdrop
  have hstart : startFrame n q at' h s =
      (let t := lateCounted n q at' h s
      if s.startsLate n q at' h && t.bit (Reg.ETH_TXQ_CFG_LATE_DROP n q) then txComplete n q stLateDrop t
      else
        let v := t.portStamp n (s.firstBit n at') (t.rdi (Reg.PTP_TX_ADJ_VALUE n))
        let o := t.outgoing n h v
        let t := if h.stream then t.putTxq n q { t.txq n q with stream := .none } else t
        let t := skipCounted n h o.2 t
        lineTaken n at' ⟨q, h, o.1, v, t.portCoarse, s.startsLate n q at' h, o.2⟩ t) := rfl
  rw [hstart]
  dsimp only
  rw [hkept, hstamp, hview.outgoing hn, hstream]
  simp only [Bool.false_eq_true, if_false]
  rw [hcoarse]
  rfl

/-! ### What a received frame leaves (R304 to R308) -/

/-- The line of port `n` is as it was. -/
def State.lineSame (s : State) (n : Nat) (t : State) : Prop :=
  (t.port n).line = (s.port n).line ∧ (t.port n).sent = (s.port n).sent

theorem State.lineSame_refl (s : State) (n : Nat) : s.lineSame n s := ⟨rfl, rfl⟩

theorem State.lineSame.trans (h : s.lineSame n t) (h' : t.lineSame n u) : s.lineSame n u :=
  ⟨h'.1.trans h.1, h'.2.trans h.2⟩

theorem State.lineSame_of_ports (h : t.ports = s.ports) (n : Nat) : s.lineSame n t := by
  rw [State.lineSame, State.port_congr h]
  exact ⟨rfl, rfl⟩

theorem State.lineSame_putRxq (s : State) (n q : Nat) (x : RxQSt) : s.lineSame n (s.putRxq n q x) := by
  constructor <;> simp [State.putRxq]

theorem ownerWrite_ports (lesson : Bool) (a : Nat) (b : List Byte) (s : State) : (ownerWrite lesson a b s).ports = s.ports := by
  obtain ⟨c, h, e⟩ := ownerWrite_frame lesson a b s
  rw [e]

theorem rxDeliverOne_lineSame (n q : Nat) (s : State) : s.lineSame n (rxDeliverOne n q s) := by
  unfold rxDeliverOne
  dsimp only
  split
  case h_1 => exact s.lineSame_refl n
  case h_2 w rest _ =>
    split
    · exact s.lineSame_refl n
    · refine (s.lineSame_putRxq n q { s.rxq n q with wait := rest, bufs := (s.rxq n q).bufs.drop 1 }).trans
        (State.lineSame_of_ports ?_ n)
      rw [State.raise_ports, State.wr_ports, State.wrs_ports, State.bump_ports, ownerWrite_ports, ownerWrite_ports]

theorem rxDeliver_lineSame (n q : Nat) (s : State) : s.lineSame n (rxDeliver n q s) :=
  forRange_keeps (f := fun _ t => rxDeliverOne n q t) (s.lineSame n) (fun _ _ t ht => ht.trans (rxDeliverOne_lineSame n q t))
    (s.lineSame_refl n)

theorem rxErrCounts_ports (n : Nat) (runt big bad : Bool) (s : State) : (rxErrCounts n runt big bad s).ports = s.ports := by
  cases runt <;> cases big <;> cases bad <;> rfl

theorem wakeDetect_ports (f : RxIn) (s : State) : (wakeDetect f s).ports = s.ports := by
  unfold wakeDetect
  dsimp only
  split
  · rw [State.level_ports]; rfl
  · rfl

theorem rxAccept_lineSame (n : Nat) (f : RxIn) (flags keep : Nat) (s : State) : s.lineSame n (rxAccept n f flags keep s) := by
  unfold rxAccept
  extract_lets b rule q auth sa u
  have hu : s.lineSame n u := by
    refine State.lineSame_of_ports ?_ n
    simp only [u]
    split
    · rfl
    · split <;> rfl
  split
  · exact hu.trans (State.lineSame_of_ports rfl n)
  · exact hu.trans ((State.lineSame_putRxq _ n q _).trans (rxDeliver_lineSame n q _))

theorem rxWhole_lineSame (n : Nat) (f : RxIn) (s : State) : s.lineSame n (rxWhole n f s) := by
  unfold rxWhole
  dsimp only
  have herr := State.lineSame_of_ports (rxErrCounts_ports n (decide (f.bytes.length < 64))
    (decide (s.frameLimit n (isTagged f.bytes) < f.bytes.length)) (rxDamaged f) s) n
  split
  · exact herr.trans (State.lineSame_of_ports rfl n)
  · split
    · exact herr.trans (State.lineSame_of_ports rfl n)
    · split
      · exact herr
      · exact herr.trans (rxAccept_lineSame ..)

/-- Receiving a frame leaves the frame on the line and the last one sent. -/
theorem rxFrame_lineSame (n : Nat) (f : RxIn) (s : State) : s.lineSame n (rxFrame n f s) := by
  unfold rxFrame
  split
  · exact s.lineSame_refl n
  · have hwake : s.lineSame n (if n = 0 then wakeDetect f s else s) := by
      split
      · exact State.lineSame_of_ports (wakeDetect_ports f s) n
      · exact s.lineSame_refl n
    dsimp only
    generalize (if n = 0 then wakeDetect f s else s) = u at hwake ⊢
    split
    · exact hwake
    · split
      · exact hwake.trans (State.lineSame_of_ports (rxErrCounts_ports n false false (rxDamaged f) ((rxPcsCounts n f u).bump (Reg.ETH_RX_FRAG_COUNT n))) n)
      · have hpcs : u.lineSame n (rxPcsCounts n f u) := State.lineSame_of_ports rfl n
        exact hwake.trans (hpcs.trans (rxWhole_lineSame n f (rxPcsCounts n f u)))

end Sys2Proof.Machine
end


section
/-! PROOFS. Transmission of frames (R309 to R318, R328, R335, R341): O33. -/
namespace Sys2Proof.Machine
variable {s t u : State}

/-! ### The check of a descriptor (R312, R341) -/

/-- The data of a host descriptor's frame with its padding. -/
def descPadded (d : TxDesc) : List Byte :=
  let len := leRead d.desc 8 2
  d.data.take len ++ List.replicate (max 60 len - (d.data.take len).length) 0

/-- Is the descriptor well formed? -/
def descFormed (d : TxDesc) : Prop :=
  leRead d.desc 8 2 ≠ 0 ∧ byteAt d.desc 10 < 8 ∧ byteAt d.desc 11 = 0 ∧ byteAt d.desc 15 = 0 ∧ leRead d.desc 24 8 = 0

/-- The head that the descriptor makes. -/
def descHead (d : TxDesc) : TxHead where
  data := descPadded d
  id := leRead d.desc 12 2
  stamp := (byteAt d.desc 10).testBit 1
  oneStep := (byteAt d.desc 10).testBit 2
  launch := if (byteAt d.desc 10).testBit 0 then .some (leRead d.desc 16 8) else .none

theorem not_descFormed {d : TxDesc} (h : ¬descFormed d) : leRead d.desc 8 2 = 0 ∨ 8 ≤ byteAt d.desc 10 ∨ byteAt d.desc 11 ≠ 0 ∨
    byteAt d.desc 15 ≠ 0 ∨ leRead d.desc 24 8 ≠ 0 := by
  unfold descFormed at h; omega

theorem descFormed_taken {d : TxDesc} (h : descFormed d) : ¬(leRead d.desc 8 2 = 0 ∨ 8 ≤ byteAt d.desc 10 ∨
    byteAt d.desc 11 ≠ 0 ∨ byteAt d.desc 15 ≠ 0 ∨ leRead d.desc 24 8 ≠ 0) := by
  unfold descFormed at h; omega

/-- A descriptor is refused with `st` and counted. -/
def txRefused (n q st : Nat) (s : State) : State := (txComplete n q st s).bump (Reg.ETH_TX_REJECT_COUNT n)

theorem exec_txDescriptorCheck_idle {n : Fin 4} {q : Fin 8} {d : TxDesc}
    (h : ¬(s.txqRuns n q = true ∧ (s.txq n q).head = none)) : exec (.txDescriptorCheck n q d) s = .next s := by
  refine if_pos ?_
  by_cases hrun : s.txqRuns n q = true
  · exact .inr (Option.isSome_iff_ne_none.mpr fun hnone => h ⟨hrun, hnone⟩)
  · exact .inl (by simpa using hrun)

/-- The descriptor of a host queue: refused, or the queue's head. -/
theorem exec_txDescriptorCheck_host {n : Fin 4} {q : Fin 8} (d : TxDesc)
    (h : s.txqRuns n q = true ∧ (s.txq n q).head = none) (hhost : (s.txq n q).lesson = false) :
    exec (.txDescriptorCheck n q d) s =
      if leRead d.desc 8 2 = 0 ∨ 8 ≤ byteAt d.desc 10 ∨ byteAt d.desc 11 ≠ 0 ∨ byteAt d.desc 15 ≠ 0 ∨ leRead d.desc 24 8 ≠ 0 then
        .next (txRefused n q 3 s)
      else if s.frameLimit n (isTagged (descPadded d)) < (descPadded d).length + 4 then .next (txRefused n q 2 s)
      else if s.gated n && isTimeMessage (descPadded d) then
        .next ((txRefused n q 3 s).bump (Reg.PTP_PASSIVE_DROP_COUNT n))
      else .next (s.putTxq n q { s.txq n q with head := some (descHead d) }) := by
  obtain ⟨hrun, hhead⟩ := h
  refine (if_neg (by simp [hrun, hhead])).trans ?_
  simp only [hhost, Bool.false_eq_true, if_false]
  rfl

theorem txRefused_closed {n q st : Nat} (h : (s.txq n q).lesson = false) : TxClosed n q st s (txRefused n q st s) :=
  (txComplete_closed (.refl n q s) h).wr (by simp; omega) _

theorem txRefused_counted (n q st : Nat) (s : State) : (txRefused n q st s).rd (Reg.ETH_TX_REJECT_COUNT n) =
    (s.rd (Reg.ETH_TX_REJECT_COUNT n) + 1) % 2 ^ (Reg.ETH_TX_REJECT_COUNT n).width := by
  rw [txRefused, State.rd_bump_self, txComplete_regsBut n q st s _ (by simp; omega)]

theorem txRefused_raised (n q st : Nat) (s : State) :
    (txRefused n q st s).flt.inflight = s.flt.inflight ++ [⟨100, n, q, false⟩] := txComplete_raised n q st s

theorem txRefused_regsBut (n q st : Nat) (s : State) :
    s.regsBut [Reg.ETH_TXQ_PTR_HEAD n q, Reg.ETH_TX_REJECT_COUNT n] (txRefused n q st s) :=
  ((txComplete_regsBut n q st s).mono (by simp)).bump (by simp) 1

/-! ### The fetch of the head and its launch time (R309, R315, R317) -/

theorem exec_txFetchComplete_none {n : Fin 4} {q : Fin 8} (got : Option Nat)
    (h : ¬(s.txqRuns n q = true ∧ s.sending n q = false)) : exec (.txFetchComplete n q got) s = .next s := by
  refine congrArg Host.Outcome.next (if_pos ?_)
  by_cases hrun : s.txqRuns n q = true
  · have hsend : ¬ s.sending n q = false := fun hsend => h ⟨hrun, hsend⟩
    simp [hrun, Bool.eq_true_of_not_eq_false hsend]
  · simp [hrun]

theorem exec_txFetchComplete_got {n : Fin 4} {q : Fin 8} (k : Nat) (h : s.txqRuns n q = true ∧ s.sending n q = false) :
    exec (.txFetchComplete n q (some k)) s = .next (match (s.txq n q).head with
      | some x => if s.fetchNeed n x ≤ k then s.putTxq n q { s.txq n q with head := some { x with buffered := true } } else s
      | none => s) := by
  obtain ⟨hrun, hsend⟩ := h
  refine congrArg Host.Outcome.next ((if_neg (by simp [hrun, hsend])).trans ?_)
  cases (s.txq n q).head <;> rfl

theorem exec_txFetchComplete_failed {n : Fin 4} {q : Fin 8} (h : s.txqRuns n q = true ∧ s.sending n q = false) :
    exec (.txFetchComplete n q none) s = .next (txRefused n q 7 s) := by
  obtain ⟨hrun, hsend⟩ := h
  exact congrArg Host.Outcome.next (if_neg (by simp [hrun, hsend]))

/-- Is the head of queue `q` due at its launch time `T` (R315)? -/
theorem State.launchDue_now (s : State) (n T : Nat) : s.launchDue n (s.tb * 64) T =
    decide (0 ≤ 25 * sdiff (s.portWt n (s.tb * 64)) T + 8 * s.byteTime n) := by
  unfold State.launchDue
  split <;> rfl

theorem exec_launchEligible_due {n : Fin 4} {q : Fin 8} {x : TxHead} {T : Nat} (hhead : (s.txq n q).head = some x)
    (hlaunch : x.launch = some T) (hlives : s.portLives n = true)
    (hdue : 0 ≤ 25 * sdiff (s.portWt n (s.tb * 64)) T + 8 * s.byteTime n) :
    exec (.launchEligible n q) s = .next (s.putTxq n q { s.txq n q with head := some { x with eligible := true } }) := by
  refine congrArg Host.Outcome.next ?_
  simp only [hhead, hlaunch, hlives, s.launchDue_now, decide_eq_true hdue, and_self, if_true]

theorem exec_launchEligible_not {n : Fin 4} {q : Fin 8} (h : s.portLives n = false ∨ (s.txq n q).head = none ∨
    ∃ x, (s.txq n q).head = some x ∧ ∀ T, x.launch = some T → ¬0 ≤ 25 * sdiff (s.portWt n (s.tb * 64)) T + 8 * s.byteTime n) :
    exec (.launchEligible n q) s = .next s := by
  refine congrArg Host.Outcome.next ?_
  cases hhead : (s.txq n q).head with
  | none => rfl
  | some x =>
    cases hlaunch : x.launch with
    | none => simp only [hlaunch]
    | some T =>
      simp only [hlaunch, s.launchDue_now]
      refine if_neg fun hboth => ?_
      obtain ⟨hlives, hdue⟩ := hboth
      obtain hdead | hnone | ⟨y, hy, hnot⟩ := h
      · rw [hdead] at hlives; exact absurd hlives (by simp)
      · rw [hhead] at hnone; exact absurd hnone (by simp)
      · obtain rfl := Option.some.inj (hhead.symm.trans hy)
        exact hnot T hlaunch (of_decide_eq_true hdue)

/-! ### The start of a frame (R238, R314) -/

/-- May port `n` start a frame at `at'`? -/
def State.startReady (s : State) (n : Nat) (at' : Int) : Prop :=
  (s.port n).line = none ∧ s.rd (Reg.ETH_STATUS_LINK n) ≠ 0 ∧ s.portLives n = true ∧ s.atBoundary n at' = true ∧
    s.parityIn (0x34000 + 0x400 * n) 0x280 = false ∧ s.parityIn (0x38000 + 0x100 * n) 0x70 = false

theorem exec_txFrameStart_unready {n : Fin 4} {at' : Int} (h : ¬s.startReady n at') : exec (.txFrameStart n at') s = .next s := by
  refine if_pos (Classical.byContradiction fun hnot => h ?_)
  simpa [State.startReady, State.bit_eq, not_or] using hnot

/-- A released queue that offers a whole frame. -/
def State.releasedQueue (s : State) (n : Nat) : Option Nat :=
  (s.port n).releases.find? (fun q => (s.offer n q).any (fun h => h.buffered))

/-- The highest queue that may start at `at'`. -/
def State.bestQueue (s : State) (n : Nat) (at' : Int) : Option Nat :=
  ((List.range 8).reverse).find? (fun q => s.mayStart n q at')

theorem exec_txFrameStart_ready {n : Fin 4} {at' : Int} (h : s.startReady n at') : exec (.txFrameStart n at') s =
    match s.releasedQueue n with
    | some q =>
      let t := s.putPort n { s.port n with releases := (s.port n).releases.erase q }
      .next (match t.offer n q with | .some x => startFrame n q at' x t | .none => t)
    | none =>
      match s.bestQueue n at' with
      | some q => .next (match s.offer n q with | .some x => startFrame n q at' x s | .none => s)
      | none => .next s := by
  refine (if_neg ?_).trans rfl
  simpa [State.startReady, State.bit_eq, not_or] using h

/-- From `s` to `t` the releases of port `n` may have changed. -/
structure ReleaseView (n : Nat) (s t : State) : Prop where
  regs : t.regs = s.regs
  tx : (t.port n).tx = (s.port n).tx
  mode : (t.port n).mode = (s.port n).mode
  others : ∀ k, k ≠ n → t.port k = s.port k
  frame : t = { s with ports := t.ports }

theorem ReleaseView.refl (n : Nat) (s : State) : ReleaseView n s s := ⟨rfl, rfl, rfl, fun _ _ => rfl, rfl⟩

theorem ReleaseView.release (n : Nat) (s : State) (l : List Nat) :
    ReleaseView n s (s.putPort n { s.port n with releases := l }) :=
  ⟨rfl, by simp, by simp, fun _ hk => State.port_put_ne s (Ne.symm hk) _, rfl⟩

theorem ReleaseView.view {n : Nat} (h : ReleaseView n s t) : StartView n s t where
  rd f _ := State.rd_congr h.regs f
  mode := by simp only [State.lineMode, h.mode]
  frame := by rw [h.frame]

theorem ReleaseView.offer {n : Nat} (h : ReleaseView n s t) (q : Nat) : t.offer n q = s.offer n q := by
  have hrd : ∀ f, t.rd f = s.rd f := State.rd_congr h.regs
  have htx : t.txq n q = s.txq n q := by simp only [State.txq, h.tx]
  simp only [State.offer, State.streamed, State.bit, hrd, htx]
  rfl

/-- The frame of queue `q` has started at `at'`. -/
structure FrameStarted (n q : Nat) (at' : Int) (h : TxHead) (s t : State) : Prop where
  line : (t.port n).line = some (s.outLine n q at' h)
  prev : (t.port n).prev = some (at', 8 + (s.outLine n q at' h).bytes.length + 4 + 12)
  tx : (t.port n).tx = (s.port n).tx
  others : ∀ k, k ≠ n → t.port k = s.port k
  skip : h.oneStep = true ∧ (s.outLine n q at' h).oneStep = false →
    t.rd (Reg.PTP_ONE_STEP_SKIP_COUNT n) = (s.rd (Reg.PTP_ONE_STEP_SKIP_COUNT n) + 1) % 2 ^ (Reg.PTP_ONE_STEP_SKIP_COUNT n).width
  late : s.startsLate n q at' h = true →
    t.rd (Reg.ETH_TX_LATE_COUNT n) = (s.rd (Reg.ETH_TX_LATE_COUNT n) + 1) % 2 ^ (Reg.ETH_TX_LATE_COUNT n).width
  regs : s.regsBut ((if h.oneStep = true ∧ (s.outLine n q at' h).oneStep = false then [Reg.PTP_ONE_STEP_SKIP_COUNT n] else []) ++
    if s.startsLate n q at' h then [Reg.ETH_TX_LATE_COUNT n] else []) t
  frame : t = { s with regs := t.regs, ports := t.ports }

theorem lateCounted_rd {n q : Nat} {at' : Int} {h : TxHead} (hlate : s.startsLate n q at' h = true) :
    (lateCounted n q at' h s).rd (Reg.ETH_TX_LATE_COUNT n) =
      (s.rd (Reg.ETH_TX_LATE_COUNT n) + 1) % 2 ^ (Reg.ETH_TX_LATE_COUNT n).width := by
  rw [lateCounted, if_pos hlate, State.rd_bump_self]

theorem lateCounted_regsBut (n q : Nat) (at' : Int) (h : TxHead) (s : State) :
    s.regsBut (if s.startsLate n q at' h then [Reg.ETH_TX_LATE_COUNT n] else []) (lateCounted n q at' h s) := by
  unfold lateCounted
  split
  · exact s.regsBut_wr (by simp) _
  · exact s.regsBut_refl _

theorem lateCounted_ports (n q : Nat) (at' : Int) (h : TxHead) (s : State) : (lateCounted n q at' h s).ports = s.ports := by
  unfold lateCounted; split <;> rfl

theorem skipCounted_ports (n : Nat) (h : TxHead) (b : Bool) (s : State) : (skipCounted n h b s).ports = s.ports := by
  unfold skipCounted; split <;> rfl

theorem skipCounted_frame (n : Nat) (h : TxHead) (b : Bool) (s : State) :
    skipCounted n h b s = { s with regs := (skipCounted n h b s).regs } := by
  unfold skipCounted; split <;> rfl

theorem skipCounted_rd {n : Nat} {h : TxHead} {b : Bool} (hskip : h.oneStep = true ∧ b = false) :
    (skipCounted n h b s).rd (Reg.PTP_ONE_STEP_SKIP_COUNT n) =
      (s.rd (Reg.PTP_ONE_STEP_SKIP_COUNT n) + 1) % 2 ^ (Reg.PTP_ONE_STEP_SKIP_COUNT n).width := by
  obtain ⟨hone, hb⟩ := hskip
  rw [skipCounted, if_pos (by simp [hone, hb]), State.rd_bump_self]

theorem skipCounted_regsBut (n : Nat) (h : TxHead) (b : Bool) (s : State) :
    s.regsBut (if h.oneStep = true ∧ b = false then [Reg.PTP_ONE_STEP_SKIP_COUNT n] else []) (skipCounted n h b s) := by
  by_cases hskip : h.oneStep = true ∧ b = false
  · rw [if_pos hskip, skipCounted, if_pos (by simp [hskip])]
    exact s.regsBut_wr (by simp) _
  · have hno : ¬(h.oneStep && !b) = true := by simpa using hskip
    rw [if_neg hskip, skipCounted, if_neg hno]
    exact s.regsBut_refl _

theorem lateDrop_view {n q : Nat} (hview : StartView n s t) :
    t.bit (Reg.ETH_TXQ_CFG_LATE_DROP n q) = s.bit (Reg.ETH_TXQ_CFG_LATE_DROP n q) := hview.bit (by simp; omega)

/-- The offered frame starts where it is not late or not dropped as late. -/
theorem startFrame_started {n q : Nat} {at' : Int} {h : TxHead} (hn : n < 4) (hq : q < 8) (hrel : ReleaseView n s t)
    (hstream : h.stream = false)
    (hdrop : ¬(s.startsLate n q at' h = true ∧ s.rd (Reg.ETH_TXQ_CFG_LATE_DROP n q) ≠ 0)) :
    FrameStarted n q at' h s (startFrame n q at' h t) ∧
      ((startFrame n q at' h t).port n).releases = (t.port n).releases := by
  have hview := hrel.view
  have hlate : t.startsLate n q at' h = s.startsLate n q at' h := hview.startsLate at' h (by simp; omega)
  have hline : t.outLine n q at' h = s.outLine n q at' h := by
    simp only [State.outLine, hview.startStamp hn, hview.outgoing hn, hview.portCoarse, hlate]
  have hcounted := lateCounted_view n q at' h t
  have hports : (skipCounted n h (t.outgoing n h (t.startStamp n at')).2 (lateCounted n q at' h t)).ports = t.ports := by
    rw [skipCounted_ports, lateCounted_ports]
  have hone : (t.outgoing n h (t.startStamp n at')).2 = (s.outLine n q at' h).oneStep := by rw [← hline]; rfl
  have hregs : t.regsBut ((if h.oneStep = true ∧ (s.outLine n q at' h).oneStep = false then [Reg.PTP_ONE_STEP_SKIP_COUNT n]
      else []) ++ if s.startsLate n q at' h then [Reg.ETH_TX_LATE_COUNT n] else [])
      (skipCounted n h (s.outLine n q at' h).oneStep (lateCounted n q at' h t)) := by
    rw [← hlate]
    exact ((lateCounted_regsBut n q at' h t).mono (List.subset_append_right _ _)).trans
      ((skipCounted_regsBut n h _ _).mono (List.subset_append_left _ _))
  rw [startFrame_line hn hstream (fun hboth => hdrop ?_), hline]
  rotate_left
  · obtain ⟨hl, hd⟩ := hboth
    rw [lateDrop_view hcounted, lateDrop_view hview] at hd
    exact ⟨hlate ▸ hl, of_decide_eq_true hd⟩
  rw [hone] at hports ⊢
  refine ⟨⟨by simp [lineTaken], by simp [lineTaken], ?_, fun k hk => ?_, fun hskip => ?_, fun hl => ?_, ?_, ?_⟩, ?_⟩
  · rw [lineTaken, State.port_put_self, State.port_congr hports]
    exact hrel.tx
  · rw [lineTaken, State.port_put_ne _ (Ne.symm hk), State.port_congr hports, hrel.others k hk]
  · rw [lineTaken, State.rd_putPort, skipCounted_rd hskip, hcounted.rd _ (by simp; omega), State.rd_congr hrel.regs]
  · have hkeep : (skipCounted n h (s.outLine n q at' h).oneStep (lateCounted n q at' h t)).rd (Reg.ETH_TX_LATE_COUNT n) =
        (lateCounted n q at' h t).rd (Reg.ETH_TX_LATE_COUNT n) := skipCounted_regsBut n h _ _ _ (by split <;> (simp; try omega))
    rw [lineTaken, State.rd_putPort, hkeep, lateCounted_rd (hlate.trans hl), State.rd_congr hrel.regs]
  · exact .same ((State.regsBut_of_regs_eq hrel.regs _).trans hregs) rfl
  · rw [lineTaken, skipCounted_frame, hcounted.frame, hrel.frame]
    rfl
  · rw [lineTaken, State.port_put_self, State.port_congr hports]

/-! ### The end of a frame (R310, R317, R318, R322) -/

theorem exec_txFrameDone_idle {n : Fin 4} (h : (s.port n).line = none ∨ s.portLives n = false) :
    exec (.txFrameDone n) s = .next s := by
  change execTxFrameDone n s = _
  unfold execTxFrameDone
  cases hline : (s.port n).line with
  | none => rfl
  | some l =>
    have hlives : s.portLives n = false := h.resolve_left (by simp [hline])
    rw [hlives]

/-- The counts of frames and bytes that the frame `l` moves. -/
def bytesCounted (n : Nat) (l : OnLine) (s : State) : State :=
  let bytes := s.pair (Reg.ETH_TX_BYTES_HI_COUNT n) (Reg.ETH_TX_BYTES_LO_COUNT n) + l.bytes.length + 4
  (s.bump (Reg.ETH_TX_FRAMES_COUNT n)).wrs
    [(Reg.ETH_TX_BYTES_LO_COUNT n, bytes), (Reg.ETH_TX_BYTES_HI_COUNT n, bytes / 2 ^ 32)]

/-- What the counters of port `n` show of the frame `l` that left whole. -/
def sentCounted (n : Nat) (l : OnLine) (s : State) : State :=
  if l.oneStep then (bytesCounted n l s).bump (Reg.PTP_ONE_STEP_COUNT n) else bytesCounted n l s

/-- The frame `l` has left whole. -/
def sentWhole (n : Nat) (l : OnLine) (s : State) : State :=
  lineEnd n (if l.late then stLate else stSent) .good (sentCounted n l s)

/-- What a port in loopback receives of its own frame `l`. -/
def loopedBack (n : Nat) (l : OnLine) (s : State) : State :=
  rxFrame n { bytes := l.bytes ++ fcsOf l.bytes, bad := false, t := s.takeFreeInt.1 } s.takeFreeInt.2

theorem exec_txFrameDone {n : Fin 4} {l : OnLine} (hline : (s.port n).line = some l) (hlives : s.portLives n = true) :
    exec (.txFrameDone n) s = .next (if ((sentWhole n l s).port n).loop then loopedBack n l (sentWhole n l s)
      else sentWhole n l s) := by
  change execTxFrameDone n s = _
  unfold execTxFrameDone
  rw [hline, hlives]
  rfl

/-- The counters of sent frames. -/
def sentFlds (n : Nat) : List Fld :=
  [Reg.ETH_TX_FRAMES_COUNT n, Reg.ETH_TX_BYTES_LO_COUNT n, Reg.ETH_TX_BYTES_HI_COUNT n, Reg.PTP_ONE_STEP_COUNT n]

theorem bytesCounted_regsBut (n : Nat) (l : OnLine) (s : State) : s.regsBut (sentFlds n) (bytesCounted n l s) :=
  ((s.regsBut_refl _).bump (by simp [sentFlds]) 1).wrs _ (by simp [sentFlds])

theorem bytesCounted_frame (n : Nat) (l : OnLine) (s : State) : ∃ r, bytesCounted n l s = { s with regs := r } := by
  obtain ⟨r, hr⟩ := (s.bump (Reg.ETH_TX_FRAMES_COUNT n)).wrs_frame
    [(Reg.ETH_TX_BYTES_LO_COUNT n, s.pair (Reg.ETH_TX_BYTES_HI_COUNT n) (Reg.ETH_TX_BYTES_LO_COUNT n) + l.bytes.length + 4),
      (Reg.ETH_TX_BYTES_HI_COUNT n,
        (s.pair (Reg.ETH_TX_BYTES_HI_COUNT n) (Reg.ETH_TX_BYTES_LO_COUNT n) + l.bytes.length + 4) / 2 ^ 32)]
  exact ⟨r, hr⟩

theorem bytesCounted_frames (n : Nat) (l : OnLine) (s : State) : (bytesCounted n l s).rd (Reg.ETH_TX_FRAMES_COUNT n) =
    (s.rd (Reg.ETH_TX_FRAMES_COUNT n) + 1) % 2 ^ (Reg.ETH_TX_FRAMES_COUNT n).width := by
  unfold bytesCounted
  rw [State.rd_wrs_ne _ _ (by simp), State.rd_bump_self]

theorem sentCounted_regsBut (n : Nat) (l : OnLine) (s : State) : s.regsBut (sentFlds n) (sentCounted n l s) := by
  unfold sentCounted
  split
  · exact (bytesCounted_regsBut n l s).bump (by simp [sentFlds]) 1
  · exact bytesCounted_regsBut n l s

theorem sentCounted_frames (n : Nat) (l : OnLine) (s : State) : (sentCounted n l s).rd (Reg.ETH_TX_FRAMES_COUNT n) =
    (s.rd (Reg.ETH_TX_FRAMES_COUNT n) + 1) % 2 ^ (Reg.ETH_TX_FRAMES_COUNT n).width := by
  unfold sentCounted
  split
  · rw [State.rd_bump_ne _ (by simp; omega), bytesCounted_frames]
  · exact bytesCounted_frames n l s

theorem sentCounted_frame (n : Nat) (l : OnLine) (s : State) : ∃ r, sentCounted n l s = { s with regs := r } := by
  obtain ⟨r, hr⟩ := bytesCounted_frame n l s
  unfold sentCounted
  rw [hr]
  split <;> exact ⟨_, rfl⟩

theorem sentCounted_ready {n q : Nat} (hn : n < 4) (hq : q < 8) (l : OnLine) (s : State) : TxReady n q s (sentCounted n l s) := by
  obtain ⟨r, hr⟩ := sentCounted_frame n l s
  refine ⟨fun f hf => sentCounted_regsBut n l s f fun g hg => ?_, fun k => ?_, fun k _ => ?_, ?_⟩
  · simp only [sentFlds, txKeys, List.mem_cons, List.not_mem_nil, or_false] at hf hg
    obtain rfl | rfl | rfl | rfl := hg <;> obtain rfl | rfl | rfl | rfl | rfl | rfl := hf <;> (simp; try omega)
  · rw [hr]; rfl
  · rw [hr]; rfl
  · rw [hr]

theorem TxReady.lineOff {n q : Nat} (h : TxReady n q s u) (l : OnLine) (how : TxEnd) : TxReady n q s (lineOff n l how u) :=
  h.putPort _ rfl

theorem sentWhole_off {n : Nat} {l : OnLine} (hline : (s.port n).line = some l) :
    LineReports n (lineOff n l .good (sentCounted n l s)) (sentWhole n l s) := by
  obtain ⟨r, hr⟩ := sentCounted_frame n l s
  exact lineEnd_reports (by rw [hr]; exact hline) _ _

/-- A frame that left whole, in its parts. -/
theorem sentWhole_sent {n : Nat} {l : OnLine} (hline : (s.port n).line = some l) :
    ((sentWhole n l s).port n).line = none ∧ ((sentWhole n l s).port n).sent = l.bytes ∧
    ((sentWhole n l s).port n).sentEnd = .good ∧ (sentWhole n l s).rd (Reg.ETH_TX_FRAMES_COUNT n) =
      (s.rd (Reg.ETH_TX_FRAMES_COUNT n) + 1) % 2 ^ (Reg.ETH_TX_FRAMES_COUNT n).width := by
  have hoff := sentWhole_off hline
  refine ⟨hoff.line.trans (by simp [lineOff]), hoff.sent.trans (by simp [lineOff]), hoff.sentEnd.trans (by simp [lineOff]), ?_⟩
  rw [hoff.rd _ (by simp; omega) (by simp; omega)]
  exact sentCounted_frames n l s

theorem sentWhole_plain {n : Nat} {l : OnLine} (hline : (s.port n).line = some l) (hstamp : l.head.stamp = false)
    (hstream : l.head.stream = false) : sentWhole n l s =
      txComplete n l.q (if l.late then 4 else 1) (lineOff n l .good (sentCounted n l s)) := by
  obtain ⟨r, hr⟩ := sentCounted_frame n l s
  have hcounted : ((sentCounted n l s).port n).line = some l := by rw [hr]; exact hline
  exact lineEnd_plain hcounted hstamp hstream _ _

theorem exec_txUnderrun_idle {n : Fin 4} (dma : Bool) (h : (s.port n).line = none ∨ s.portLives n = false) :
    exec (.txUnderrun n dma) s = .next s := by
  change execTxUnderrun n dma s = _
  unfold execTxUnderrun
  cases hline : (s.port n).line with
  | none => rfl
  | some l =>
    have hlives : s.portLives n = false := h.resolve_left (by simp [hline])
    exact if_pos (by simp [hlives])

theorem exec_txUnderrun_whole {n : Fin 4} {l : OnLine} (dma : Bool) (hline : (s.port n).line = some l)
    (hwhole : s.storeForward n l.head = true) : exec (.txUnderrun n dma) s = .next s := by
  change execTxUnderrun n dma s = _
  unfold execTxUnderrun
  rw [hline]
  exact if_pos (by simp [hwhole])

/-- The frame `l` has run out of data. -/
def ranDry (n : Nat) (l : OnLine) (s : State) : State :=
  (((lineEnd n stUnderrun .inverted s).bump (Reg.ETH_TX_UNDERRUN_COUNT n)).wr (Reg.ETH_TX_THRESH_UNITS n)
    (min 255 (s.threshUnits n + 1))).raise 37 n l.q

theorem exec_txUnderrun_dry {n : Fin 4} {l : OnLine} (hline : (s.port n).line = some l) (hlives : s.portLives n = true)
    (hcut : s.storeForward n l.head = false) : exec (.txUnderrun n false) s = .next (ranDry n l s) := by
  change execTxUnderrun n false s = _
  unfold execTxUnderrun
  rw [hline]
  exact if_neg (by simp [hcut, hlives])

/-- A read has failed during the frame on the line. -/
def readFailed (n : Nat) (s : State) : State := (lineEnd n stDmaErr .inverted s).bump (Reg.ETH_TX_ABORT_COUNT n)

theorem exec_txUnderrun_failed {n : Fin 4} {l : OnLine} (hline : (s.port n).line = some l) (hlives : s.portLives n = true)
    (hcut : s.storeForward n l.head = false) :
    exec (.txUnderrun n true) s = .next (readFailed n s) := by
  change execTxUnderrun n true s = _
  unfold execTxUnderrun
  rw [hline]
  exact if_neg (by simp [hcut, hlives])

/-! ### What the end of a frame leaves -/

theorem sentWhole_loop {n : Nat} {l : OnLine} (hline : (s.port n).line = some l) :
    ((sentWhole n l s).port n).loop = (s.port n).loop := by
  obtain ⟨r, hr⟩ := sentCounted_frame n l s
  exact (sentWhole_off hline).loop.trans (by rw [lineOff, State.port_put_self, hr]; rfl)

theorem lineOff_regsBut (n : Nat) (l : OnLine) (how : TxEnd) (fs : List Fld) (s : State) : s.regsBut fs (lineOff n l how s) :=
  State.regsBut_of_regs_eq rfl fs

/-- A host frame without a stamp that left whole completes its descriptor. -/
theorem sentWhole_closed {n q : Nat} {l : OnLine} (hn : n < 4) (hq : q < 8) (hline : (s.port n).line = some l) (hlq : l.q = q)
    (hstamp : l.head.stamp = false) (hstream : l.head.stream = false) (hhost : (s.txq n q).lesson = false) :
    TxClosed n q (if l.late then 4 else 1) s (sentWhole n l s) ∧
    (sentWhole n l s).flt.inflight = s.flt.inflight ++ [⟨100, n, q, false⟩] ∧
    s.regsBut [Reg.ETH_TXQ_PTR_HEAD n q, Reg.ETH_TX_FRAMES_COUNT n, Reg.ETH_TX_BYTES_LO_COUNT n, Reg.ETH_TX_BYTES_HI_COUNT n,
      Reg.PTP_ONE_STEP_COUNT n] (sentWhole n l s) := by
  have hready := (sentCounted_ready hn hq l s).lineOff l .good
  obtain ⟨r, hr⟩ := sentCounted_frame n l s
  rw [sentWhole_plain hline hstamp hstream, hlq]
  refine ⟨txComplete_closed hready hhost, (txComplete_raised ..).trans (by rw [lineOff, hr]; rfl), ?_⟩
  exact (((sentCounted_regsBut n l s).mono (by simp [sentFlds])).trans (lineOff_regsBut n l .good _ _)).trans
    ((txComplete_regsBut n q _ _).mono (by simp))

theorem ranDry_shows {n : Nat} {l : OnLine} (hline : (s.port n).line = some l) :
    ((ranDry n l s).port n).line = none ∧ ((ranDry n l s).port n).sentEnd = .inverted ∧
    (ranDry n l s).rd (Reg.ETH_TX_UNDERRUN_COUNT n) =
      (s.rd (Reg.ETH_TX_UNDERRUN_COUNT n) + 1) % 2 ^ (Reg.ETH_TX_UNDERRUN_COUNT n).width ∧
    (ranDry n l s).rd (Reg.ETH_TX_THRESH_UNITS n) =
      min 255 (max 1 (s.rd (Reg.ETH_TX_THRESH_UNITS n)) + 1) % 2 ^ (Reg.ETH_TX_THRESH_UNITS n).width ∧
    ⟨37, n, l.q, false⟩ ∈ (ranDry n l s).flt.inflight := by
  have hoff := lineEnd_reports hline stUnderrun .inverted
  refine ⟨hoff.line.trans (by simp [lineOff]), hoff.sentEnd.trans (by simp [lineOff]), ?_, State.rd_wr_self ..,
    List.mem_append_right _ (List.mem_singleton_self _)⟩
  rw [ranDry, State.rd_raise, State.rd_wr_ne _ (by simp), State.rd_bump_self, hoff.rd _ (by simp; omega) (by simp; omega)]
  rfl

theorem ranDry_closed {n q : Nat} {l : OnLine} (hline : (s.port n).line = some l) (hlq : l.q = q)
    (hstamp : l.head.stamp = false) (hstream : l.head.stream = false) (hhost : (s.txq n q).lesson = false) :
    TxClosed n q 6 s (ranDry n l s) ∧
    (ranDry n l s).flt.inflight = s.flt.inflight ++ [⟨100, n, q, false⟩, ⟨37, n, q, false⟩] ∧
    s.regsBut [Reg.ETH_TXQ_PTR_HEAD n q, Reg.ETH_TX_UNDERRUN_COUNT n, Reg.ETH_TX_THRESH_UNITS n] (ranDry n l s) := by
  have hready := (TxReady.refl n q s).lineOff l .inverted
  rw [ranDry, lineEnd_plain hline hstamp hstream, hlq]
  refine ⟨(((txComplete_closed hready hhost).wr (by simp; omega) _).wr (by simp; omega) _).raise .., ?_, ?_⟩
  · have hraised : (txComplete n q stUnderrun (lineOff n l .inverted s)).flt.inflight = s.flt.inflight ++ [⟨100, n, q, false⟩] :=
      txComplete_raised n q stUnderrun (lineOff n l .inverted s)
    change (txComplete n q stUnderrun (lineOff n l .inverted s)).flt.inflight ++ [⟨37, n, q, false⟩] = _
    simp only [hraised, List.append_assoc, List.cons_append, List.nil_append]
  · have hdone := (lineOff_regsBut n l .inverted [Reg.ETH_TXQ_PTR_HEAD n q, Reg.ETH_TX_UNDERRUN_COUNT n,
      Reg.ETH_TX_THRESH_UNITS n] s).trans ((txComplete_regsBut n q stUnderrun (lineOff n l .inverted s)).mono (by simp))
    have hcounted := (hdone.bump (f := Reg.ETH_TX_UNDERRUN_COUNT n) (by simp) 1).wr (f := Reg.ETH_TX_THRESH_UNITS n) (by simp)
      (min 255 (s.threshUnits n + 1))
    exact hcounted.same rfl

theorem readFailed_shows {n : Nat} {l : OnLine} (hline : (s.port n).line = some l) :
    ((readFailed n s).port n).line = none ∧ ((readFailed n s).port n).sentEnd = .inverted ∧
    (readFailed n s).rd (Reg.ETH_TX_ABORT_COUNT n) =
      (s.rd (Reg.ETH_TX_ABORT_COUNT n) + 1) % 2 ^ (Reg.ETH_TX_ABORT_COUNT n).width := by
  have hoff := lineEnd_reports hline stDmaErr .inverted
  refine ⟨hoff.line.trans (by simp [lineOff]), hoff.sentEnd.trans (by simp [lineOff]), ?_⟩
  rw [readFailed, State.rd_bump_self, hoff.rd _ (by simp; omega) (by simp; omega)]
  rfl

theorem readFailed_closed {n q : Nat} {l : OnLine} (hline : (s.port n).line = some l) (hlq : l.q = q)
    (hstamp : l.head.stamp = false) (hstream : l.head.stream = false) (hhost : (s.txq n q).lesson = false) :
    TxClosed n q 7 s (readFailed n s) ∧ (readFailed n s).flt.inflight = s.flt.inflight ++ [⟨100, n, q, false⟩] ∧
    s.regsBut [Reg.ETH_TXQ_PTR_HEAD n q, Reg.ETH_TX_ABORT_COUNT n] (readFailed n s) := by
  have hready := (TxReady.refl n q s).lineOff l .inverted
  rw [readFailed, lineEnd_plain hline hstamp hstream, hlq]
  refine ⟨(txComplete_closed hready hhost).wr (by simp; omega) _, ?_, ?_⟩
  · rw [State.bump_flt]
    exact txComplete_raised n q stDmaErr (lineOff n l .inverted s)
  have hdone := (lineOff_regsBut n l .inverted [Reg.ETH_TXQ_PTR_HEAD n q, Reg.ETH_TX_ABORT_COUNT n] s).trans
    ((txComplete_regsBut n q stDmaErr (lineOff n l .inverted s)).mono (by simp))
  exact hdone.bump (by simp) 1

/-- Settles O33: a completion is `txComplete` with its `TxClosed`, a start is `FrameStarted`, an end is `lineEnd`. -/
theorem transmit : Obligations.transmit := by
  intro n q d time got s
  have hn := n.isLt
  have hq := q.isLt
  have closedOf : ∀ {st : Nat} {t : State}, TxClosed n q st s t → _ := fun {st t} (h : TxClosed n q st s t) =>
    And.intro h.head (And.intro h.gone (And.intro (And.intro h.queues h.others) (And.intro h.status
      (And.intro h.unwritten (And.intro h.elsewhere h.frame)))))
  have putHead : ∀ x : TxQSt, let t := s.putTxq n q x
      (∀ k, k ≠ q.val → t.txq n k = s.txq n k) ∧ (∀ k, k ≠ n.val → t.port k = s.port k) := fun x =>
    ⟨fun k hk => s.txq_putTxq_ne n (Ne.symm hk) x, fun k hk => s.port_putTxq_ne hk q x⟩
  have refusedOf := fun (st : Nat) (h : (s.txq n q).lesson = false) =>
    And.intro (closedOf (txRefused_closed (st := st) h)) (And.intro (txRefused_counted n q st s) (txRefused_raised n q st s))
  refine ⟨exec_txDescriptorCheck_idle, fun h hhost hform hshort hopen => ?_, fun h hhost hform => ?_,
    fun h hhost hform hlong => ?_, fun h hhost hform hshort hstop => ?_, fun h => ?_, fun x h hx hneed => ?_,
    fun x h hx hneed => ?_, fun h hhost => ?_, exec_txFetchComplete_none none, fun x T hx hT hlives hdue => ?_,
    exec_launchEligible_not, fun x hready hnone hbest hoffer hstream hdrop => ?_,
    fun x hready hrel hoffer hstream hdrop => ?_, fun x hready hnone hbest hoffer hhost hdrop => ?_, fun h => ?_,
    fun h => ⟨exec_txFrameDone_idle h, exec_txUnderrun_idle false h, exec_txUnderrun_idle true h⟩,
    fun l hline hlives hloop => ?_, fun l hline hlives hloop => ?_, fun l hline hwhole => exec_txUnderrun_whole false hline hwhole,
    fun l hline hlives hcut => ?_, fun l hline hlives hcut => ?_⟩
  case refine_1 =>
    refine ⟨_, (exec_txDescriptorCheck_host d h hhost).trans ((if_neg (descFormed_taken hform)).trans
      ((if_neg (Nat.not_lt.mpr hshort)).trans (if_neg fun hboth => hopen (Bool.and_eq_true_iff.mp hboth)))), ?_, putHead _, rfl⟩
    exact congrArg TxQSt.head (s.txq_putTxq_self ..)
  case refine_2 =>
    exact ⟨_, (exec_txDescriptorCheck_host d h hhost).trans (if_pos (not_descFormed hform)), refusedOf 3 hhost,
      txRefused_regsBut n q 3 s⟩
  case refine_3 =>
    exact ⟨_, (exec_txDescriptorCheck_host d h hhost).trans ((if_neg (descFormed_taken hform)).trans
      (if_pos (Nat.not_le.mp hlong))), refusedOf 2 hhost, txRefused_regsBut n q 2 s⟩
  case refine_4 =>
    obtain ⟨hgated, htime⟩ := hstop
    refine ⟨_, (exec_txDescriptorCheck_host d h hhost).trans ((if_neg (descFormed_taken hform)).trans
      ((if_neg (Nat.not_lt.mpr hshort)).trans (if_pos (Bool.and_eq_true_iff.mpr ⟨hgated, htime⟩)))),
      ⟨closedOf ((txRefused_closed hhost).wr (by simp; omega) _), ?_, txRefused_raised n q 3 s⟩, ?_, ?_⟩
    · exact (State.rd_bump_ne _ (by simp; omega) 1).trans (txRefused_counted n q 3 s)
    · refine (State.rd_bump_self ..).trans ?_
      rw [txRefused_regsBut n q 3 s _ (by simp; omega)]
    · exact ((txRefused_regsBut n q 3 s).mono (by simp)).bump (by simp) 1
  case refine_5 =>
    obtain hnot | hnone := h
    · exact exec_txFetchComplete_none _ hnot
    · by_cases hf : s.txqRuns n q = true ∧ s.sending n q = false
      · rw [exec_txFetchComplete_got got hf, hnone]
      · exact exec_txFetchComplete_none _ hf
  case refine_6 =>
    refine ⟨_, (exec_txFetchComplete_got got h).trans ?_, s.txq_putTxq_self n q _, putHead _, rfl⟩
    rw [hx]
    exact congrArg Host.Outcome.next (if_pos hneed)
  case refine_7 =>
    refine (exec_txFetchComplete_got got h).trans ?_
    rw [hx]
    exact congrArg Host.Outcome.next (if_neg (Nat.not_le.mpr hneed))
  case refine_8 => exact ⟨_, exec_txFetchComplete_failed h, refusedOf 7 hhost, txRefused_regsBut n q 7 s⟩
  case refine_9 => exact ⟨_, exec_launchEligible_due hx hT hlives hdue, s.txq_putTxq_self n q _, putHead _, rfl⟩
  case refine_10 =>
    have hexec : exec (.txFrameStart n time) s = .next (startFrame n q time x s) := by
      rw [exec_txFrameStart_ready hready, show s.releasedQueue n = none from hnone, show s.bestQueue n time = some q.val from hbest]
      simp only [hoffer]
    obtain ⟨hstart, hreleases⟩ := startFrame_started hn hq (.refl n s) hstream hdrop
    exact ⟨_, hexec, ⟨hstart.line, hstart.prev, hstart.tx, hstart.others, hstart.skip, hstart.late, hstart.regs, hstart.frame⟩,
      hreleases⟩
  case refine_11 =>
    have hview := ReleaseView.release n s ((s.port n).releases.erase q)
    have hexec : exec (.txFrameStart n time) s = .next (startFrame n q time x
        (s.putPort n { s.port n with releases := (s.port n).releases.erase q })) := by
      rw [exec_txFrameStart_ready hready, show s.releasedQueue n = some q.val from hrel]
      dsimp only
      rw [hview.offer q, hoffer]
    obtain ⟨hstart, hreleases⟩ := startFrame_started hn hq hview hstream hdrop
    refine ⟨_, hexec, ⟨hstart.line, hstart.prev, hstart.tx, hstart.others, hstart.skip, hstart.late, hstart.regs, hstart.frame⟩,
      hreleases.trans (by rw [State.port_put_self])⟩
  case refine_12 =>
    obtain ⟨hlate, hdrops⟩ := hdrop
    have hview := (StartView.refl n s).bumpLate
    have hexec : exec (.txFrameStart n time) s = .next (txComplete n q 5 (s.bump (Reg.ETH_TX_LATE_COUNT n))) := by
      rw [exec_txFrameStart_ready hready, show s.releasedQueue n = none from hnone, show s.bestQueue n time = some q.val from hbest]
      simp only [hoffer]
      refine congrArg Host.Outcome.next (startFrame_drop hlate ?_)
      rw [lateDrop_view hview]
      exact decide_eq_true hdrops
    have hready' : TxReady n q s (s.bump (Reg.ETH_TX_LATE_COUNT n)) := (TxReady.refl n q s).bump _
      (by simp [txKeys]; omega) 1
    refine ⟨_, hexec, closedOf (txComplete_closed hready' hhost), ?_, ?_, txComplete_raised n q 5 _, ?_⟩
    · exact (txComplete_regsBut n q 5 _ _ (by simp; omega)).trans (State.rd_bump_self ..)
    · exact (txComplete_reports n q 5 _).line.trans hready.1
    · exact ((s.regsBut_refl _).bump (by simp) 1).trans ((txComplete_regsBut n q 5 _).mono (by simp))
  case refine_13 =>
    obtain hnot | ⟨hnone, hbest⟩ := h
    · exact exec_txFrameStart_unready hnot
    · by_cases hready : s.startReady n time
      · rw [exec_txFrameStart_ready hready, show s.releasedQueue n = none from hnone, show s.bestQueue n time = none from hbest]
      · exact exec_txFrameStart_unready hready
  case refine_14 =>
    obtain ⟨hgone, hsent, -, -⟩ := sentWhole_sent hline
    refine ⟨_, exec_txFrameDone hline hlives, ?_⟩
    have hsame : (sentWhole n l s).lineSame n (if ((sentWhole n l s).port n).loop then loopedBack n l (sentWhole n l s)
        else sentWhole n l s) := by
      split
      · exact State.lineSame.trans (State.lineSame_of_ports rfl n) (rxFrame_lineSame n _ (sentWhole n l s).takeFreeInt.2)
      · exact State.lineSame_refl _ n
    exact ⟨hsame.1.trans hgone, hsame.2.trans hsent⟩
  case refine_15 =>
    obtain ⟨hgone, hsent, hend, hframes⟩ := sentWhole_sent hline
    refine ⟨_, (exec_txFrameDone hline hlives).trans (congrArg _ (if_neg (by simp [sentWhole_loop hline, hloop]))), hgone, hsent,
      hend, hframes, fun hlq hstamp hstream hhost => ?_⟩
    obtain ⟨hclosed, hrest⟩ := sentWhole_closed hn hq hline hlq hstamp hstream hhost
    exact ⟨closedOf hclosed, hrest⟩
  case refine_16 =>
    obtain ⟨hgone, hend, hcount, hunits, hraised⟩ := ranDry_shows hline
    refine ⟨_, exec_txUnderrun_dry hline hlives hcut, hgone, hend, hcount, hunits, hraised, fun hlq hstamp hstream hhost => ?_⟩
    obtain ⟨hclosed, hrest⟩ := ranDry_closed hline hlq hstamp hstream hhost
    exact ⟨closedOf hclosed, hrest⟩
  case refine_17 =>
    obtain ⟨hgone, hend, hcount⟩ := readFailed_shows hline
    refine ⟨_, exec_txUnderrun_failed hline hlives hcut, hgone, hend, hcount, fun hlq hstamp hstream hhost => ?_⟩
    obtain ⟨hclosed, hrest⟩ := readFailed_closed hline hlq hstamp hstream hhost
    exact ⟨closedOf hclosed, hrest⟩

end Sys2Proof.Machine
end


section
/-! PROOFS. Counterexamples to the statements on supplies, power states, the journal in the NOR and the TAP: O43, O44, O47, O51. -/
namespace Sys2Proof.Machine

/-- READY of the event record holds 2, where R300 gives it one bit; the supply of its island, island 25, has failed. -/
def wideReadyUnpowered : State :=
  { regs := [(Reg.EVR_STATUS_READY.key, 2)], clk := { time := .tb, unpowered := 2 ^ 25 } }

/-- The recovery of the island writes READY again, in its one bit. -/
theorem wideReady_afterRecovery :
    (nextOr wideReadyUnpowered (exec (.islandPowerRecovery 25) wideReadyUnpowered)).rd Reg.EVR_STATUS_READY = 0 := by
  decide +kernel

/-- Refutes O43 in the clause that EVR keeps READY when its supply recovers: `State` allows READY to hold more than its width, and
of a READY that holds 2 the recovery makes 0. -/
theorem not_supplies : ¬ Obligations.supplies := by
  unfold Obligations.supplies
  intro h
  obtain ⟨-, -, -, -, -, -, -, -, -, -, -, -, -, -, -, -, -, -, -, -, -, -, -, -, -, -, -, hrecovers, -⟩ :=
    h 0 0 25 wideReadyUnpowered
  have hdown : maskBit wideReadyUnpowered.clk.unpowered (25 : Fin 32) = true := by decide
  obtain ⟨t, ht, -, -, hready, -⟩ := hrecovers hdown rfl
  have hafter := wideReady_afterRecovery
  rw [ht] at hafter
  exact absurd (hafter.symm.trans hready) (by decide)

/-- READY of the event record holds 2, in a device whose host interfaces answer. -/
def wideReadyState : State := { regs := [(Reg.EVR_STATUS_READY.key, 2)], clk := { time := .tb } }

/-- The reset of island 25 writes READY again, in its one bit. -/
theorem wideReady_afterIslandGo :
    (nextOr wideReadyState (exec (.islandGo 25) wideReadyState)).rd Reg.EVR_STATUS_READY = 0 := by
  decide +kernel

/-- Refutes O44 in the clause that EVR keeps READY in the reset of its island: `State` allows READY to hold more than its width,
and of a READY that holds 2 the reset makes 0. -/
theorem not_powerStates : ¬ Obligations.power_states := by
  unfold Obligations.power_states
  intro h
  obtain ⟨-, -, -, -, -, -, -, -, -, -, -, -, -, -, -, -, hisland, -⟩ := h 0 0 25 wideReadyState
  have hopen : wideReadyState.hostOpen Reg.RST_CMD_SOFT.addr := ⟨by decide, by decide, by decide⟩
  obtain ⟨t, ht, -, hready, -⟩ := hisland hopen rfl
  have hafter := wideReady_afterIslandGo
  rw [ht] at hafter
  exact absurd (hafter.symm.trans hready) (by decide)

/-- The host's append of an empty record, which waits for the controller. -/
def emptyRecord : JnlReq := { who := .host, type := 0x20, key := 0, data := [] }

/-- A journal with one request of the host, whose count of failed pages holds 65,536, where R470 gives it 16 bits. -/
def wideFailsState : State :=
  { regs := [(Reg.JNL_COUNTS_FAILS.key, 2 ^ 16)], jnl := { queue := [emptyRecord] }, clk := { time := .tb } }

/-- An append without a failed page leaves the count as it reads. -/
theorem wideFails_afterAppend :
    (nextOr wideFailsState (exec (.appendComplete []) wideFailsState)).rd Reg.JNL_COUNTS_FAILS = 2 ^ 16 := by
  decide +kernel

/-- Refutes O47 in the clause on the count of failed pages: it says the count modulo 2^16 also where no page fails, and `State`
allows a count that holds 2^16, which an append without a failed page leaves. -/
theorem not_journalMedia : ¬ Obligations.journal_media := by
  unfold Obligations.journal_media
  intro h
  obtain ⟨-, -, hserved, -⟩ := h true .ok [] emptyRecord wideFailsState
  have hasks : wideFailsState.jnl.nextReq = some emptyRecord ∧ ¬(wideFailsState.deferring = true ∨
      wideFailsState.jnl.phase = .erasing ∨ wideFailsState.jnl.phase = .copying ∨ wideFailsState.jnl.op ≠ none) := by decide
  have hfits : recFits wideFailsState.jnl.used emptyRecord.data.length = true := by decide
  obtain ⟨t, ht, hcount, -⟩ := hserved [] ⟨hasks, hfits⟩ (by decide)
  have hafter := wideFails_afterAppend
  rw [ht] at hafter
  exact absurd (hafter.symm.trans hcount) (by decide)

/-- The debug gate is OPEN, and the supply of the island of services, island 31, has failed. -/
def unreachedServices : State :=
  { regs := [(Reg.SEC_STATUS_GATE.key, 2)], clk := { time := .tb, unpowered := 2 ^ 31 } }

/-- A read of the first register of the event collector through the TAP. -/
def collectorRead : FabricAcc := { addr := 0x3000#24, w := none }

/-- The access of an island without a supply is reported to the collector (R23). -/
theorem unreachedServices_reports :
    (nextOr unreachedServices (exec (.jtagFabric (some collectorRead)) unreachedServices)).flt.inflight ≠ [] := by
  decide +kernel

/-- Refutes O51 in the clause on a read through the gate: below 0x7000 lie the registers of island 31 also, and where that island
cannot be reached the read answers 0 and reports it, with ISLAND_UNREACHABLE. -/
theorem not_tapCommands : ¬ Obligations.tap_commands := by
  unfold Obligations.tap_commands
  intro h
  obtain ⟨-, -, -, -, -, -, -, hread⟩ := h (some collectorRead) unreachedServices
  obtain ⟨t, ht, -, hframe⟩ := hread (by decide) (by decide) collectorRead rfl rfl (by decide) (by decide) (by decide) (by decide)
  have hreports := unreachedServices_reports
  rw [ht] at hreports
  exact hreports (congrArg (fun u => u.flt.inflight) hframe)

end Sys2Proof.Machine
end


section
/-! PROOFS. Fuses, keys and the debug gate (R463, R464, R466, R467): O49. -/
namespace Sys2Proof.Machine

variable {s t : State}

/-- A command that ends at once writes its few registers, and each shows what is written. -/
theorem State.wrs_shows (s : State) {l : List (Fld × Nat)} (hl : (l.map (fun p => p.1.key)).Nodup) {f : Fld} {v : Nat}
    (hf : (f, v) ∈ l) (hv : v < 2 ^ f.width) : (s.wrs l).rd f = v :=
  (s.rd_wrs_mem hl hf).trans (Nat.mod_eq_of_lt hv)

/-! ### Fuses (R463) -/

/-- The state once a fuse command has ended with RESULT `r`. -/
def fuseEnds (r : Nat) (s : State) : State := s.wrs [(Reg.SEC_FUSE_CMD_RESULT, r), (Reg.SEC_FUSE_CMD_PROG, 0)]

theorem fuseEnds_shows {r : Nat} (hr : r < 2 ^ Reg.SEC_FUSE_CMD_RESULT.width) (s : State) :
    (fuseEnds r s).rd Reg.SEC_FUSE_CMD_RESULT = r ∧ (fuseEnds r s).rd Reg.SEC_FUSE_CMD_PROG = 0 ∧
      s.onlyRegs [Reg.SEC_FUSE_CMD_RESULT, Reg.SEC_FUSE_CMD_PROG] (fuseEnds r s) :=
  ⟨s.wrs_shows (by simp) (by simp) hr, s.wrs_shows (by simp) (by simp) (by decide), s.onlyRegs_wrs _ (by simp)⟩

theorem exec_fuseProg (h : s.hostOpen Reg.SEC_FUSE_CMD_PROG.addr) (ht : doFuseProg s = .next t) : exec .fuseProg s = .next t :=
  hostCmd_plain _ doFuseProg s t h (by decide) (by decide) ht

/-- SEL names a field that the host may program. -/
abbrev State.fusePicked (s : State) : Prop :=
  s.rd Reg.SEC_FUSE_CMD_SEL = 1 ∨ s.rd Reg.SEC_FUSE_CMD_SEL = 2 ∨ s.rd Reg.SEC_FUSE_CMD_SEL = 3 ∨
    s.rd Reg.SEC_FUSE_CMD_SEL = 4 ∨ s.rd Reg.SEC_FUSE_CMD_SEL = 6 ∨ s.rd Reg.SEC_FUSE_CMD_SEL = 7

/-- A fuse command is allowed. -/
def State.fuseAllowed (s : State) : Prop := s.rd Reg.SEC_CTRL_FUSE_EN ≠ 0 ∧ s.anyWarn = false ∧ s.fusePicked

theorem doFuseProg_busy (h : s.fuses.busy ≠ none) : doFuseProg s = .next s := by
  unfold doFuseProg
  exact if_pos (Option.isSome_iff_ne_none.mpr h)

theorem doFuseProg_idle (h : s.fuses.busy = none) : doFuseProg s =
    if !s.bit Reg.SEC_CTRL_FUSE_EN ∨ s.anyWarn ∨ ¬s.fusePicked then .next (fuseEnds 2 s)
    else if s.rd Reg.SEC_FUSE_CMD_SEL ≠ 3 ∧ s.fuseField (s.rd Reg.SEC_FUSE_CMD_SEL) ≠ 0 then .next (fuseEnds 3 s)
    else .next { s.wr Reg.SEC_FUSE_CMD_PROG 1 with fuses := { s.fuses with
      busy := some (s.rd Reg.SEC_FUSE_CMD_SEL, s.fuseData % 2 ^ fuseBits (s.rd Reg.SEC_FUSE_CMD_SEL)) } } := by
  unfold doFuseProg
  exact if_neg (by simp [h])

theorem fuseRefused_iff (s : State) : (!s.bit Reg.SEC_CTRL_FUSE_EN ∨ s.anyWarn ∨ ¬s.fusePicked) ↔ ¬s.fuseAllowed := by
  simp only [State.fuseAllowed, State.bit, Bool.not_eq_true', decide_eq_false_iff_not, not_and_or, Bool.not_eq_false]

theorem doFuseProg_refused (hb : s.fuses.busy = none) (h : ¬s.fuseAllowed) : doFuseProg s = .next (fuseEnds 2 s) := by
  rw [doFuseProg_idle hb, if_pos ((fuseRefused_iff s).mpr h)]

theorem doFuseProg_allowed (hb : s.fuses.busy = none) (h : s.fuseAllowed) : doFuseProg s =
    if s.rd Reg.SEC_FUSE_CMD_SEL ≠ 3 ∧ s.fuseField (s.rd Reg.SEC_FUSE_CMD_SEL) ≠ 0 then .next (fuseEnds 3 s)
    else .next { s.wr Reg.SEC_FUSE_CMD_PROG 1 with fuses := { s.fuses with
      busy := some (s.rd Reg.SEC_FUSE_CMD_SEL, s.fuseData % 2 ^ fuseBits (s.rd Reg.SEC_FUSE_CMD_SEL)) } } := by
  rw [doFuseProg_idle hb, if_neg (fun hr => (fuseRefused_iff s).mp hr h)]

theorem fuseProgramComplete_idle (h : s.fuses.busy = none) (ok : Bool) : exec (.fuseProgramComplete ok) s = .next s := by
  change execFuseProgramComplete ok s = _
  simp only [execFuseProgramComplete, h]

theorem exec_fuseProgramComplete_good {k v : Nat} (h : s.fuses.busy = some (k, v)) : exec (.fuseProgramComplete true) s =
    .next (fuseEnds 1 { s with fuses := { s.fuses.put k (s.fuseField k ||| v) with busy := none } }) := by
  change execFuseProgramComplete true s = _
  simp only [execFuseProgramComplete, h, if_true]
  rfl

theorem exec_fuseProgramComplete_bad {k v : Nat} (h : s.fuses.busy = some (k, v)) : exec (.fuseProgramComplete false) s =
    .next (fuseEnds 4 { s.takeFree.2 with fuses := { s.fuses.put k (s.fuseField k ||| v &&& s.takeFree.1) with busy := none } }) := by
  change execFuseProgramComplete false s = _
  simp only [execFuseProgramComplete, h, Bool.false_eq_true, if_false]
  rfl

/-- The end of a fuse command over a state whose registers are those of `s`. -/
theorem fuseEnds_over {r : Nat} (hr : r < 2 ^ Reg.SEC_FUSE_CMD_RESULT.width) (h : t.regs = s.regs) :
    (fuseEnds r t).rd Reg.SEC_FUSE_CMD_RESULT = r ∧ (fuseEnds r t).rd Reg.SEC_FUSE_CMD_PROG = 0 ∧
      s.regsBut [Reg.SEC_FUSE_CMD_RESULT, Reg.SEC_FUSE_CMD_PROG] (fuseEnds r t) := by
  obtain ⟨hresult, hprog, -, hregs⟩ := fuseEnds_shows hr t
  exact ⟨hresult, hprog, (State.regsBut_of_regs_eq h _).trans hregs⟩

/-! ### Keys (R464) -/

/-- The fields that a key command ends with. -/
def keyEnds : List Fld := [Reg.SEC_KEY_CMD_RESULT, Reg.SEC_KEY_CMD_PROVISION, Reg.SEC_KEY_CMD_VOID]

/-- A key command has ended with RESULT `r`. -/
theorem keyResult_shows {r : Nat} (hr : r < 2 ^ Reg.SEC_KEY_CMD_RESULT.width) (s : State) :
    (keyResult r s).rd Reg.SEC_KEY_CMD_RESULT = r ∧ (keyResult r s).rd Reg.SEC_KEY_CMD_PROVISION = 0 ∧
      s.onlyRegs keyEnds (keyResult r s) :=
  ⟨s.wrs_shows (by simp) (by simp) hr, s.wrs_shows (by simp) (by simp) (by decide),
    s.onlyRegs_wrs _ (by simp [keyEnds])⟩

theorem exec_keyProvision (h : s.hostOpen Reg.SEC_KEY_CMD_PROVISION.addr) (ht : doKeyProvision s = .next t) :
    exec .keyProvision s = .next t :=
  hostCmd_plain _ doKeyProvision s t h (by decide) (by decide) ht

theorem exec_keyVoid (h : s.hostOpen Reg.SEC_KEY_CMD_PROVISION.addr) (ht : doKeyVoid s = .next t) : exec .keyVoid s = .next t :=
  hostCmd_plain _ doKeyVoid s t h (by decide) (by decide) ht

/-- Key commands are enabled, and the debug gate is CLOSED. -/
def State.keysOpen (s : State) : Prop := s.rd Reg.SEC_CTRL_PROV_EN ≠ 0 ∧ s.gateClosed = true

theorem keysShut_iff (s : State) : ((!s.bit Reg.SEC_CTRL_PROV_EN) = true ∨ (!s.gateClosed) = true) ↔ ¬s.keysOpen := by
  simp only [State.keysOpen, State.bit, Bool.not_eq_true', decide_eq_false_iff_not, not_and_or, Bool.not_eq_true]

theorem doKeyProvision_busy (h : s.prov ≠ none) : doKeyProvision s = .next s := by
  unfold doKeyProvision
  exact congrArg _ (if_pos (Option.isSome_iff_ne_none.mpr h))

theorem doKeyProvision_idle (h : s.prov = none) : doKeyProvision s = .next (
    if !s.bit Reg.SEC_CTRL_PROV_EN ∨ !s.gateClosed then keyResult 2 s
    else if s.rd Reg.SEC_KEY_CMD_LEN < 16 ∨ 64 < s.rd Reg.SEC_KEY_CMD_LEN then keyResult 3 s
    else if s.anyWarn then keyResult 4 s
    else { s.wr Reg.SEC_KEY_CMD_PROVISION 1 with
      prov := some (s.rd Reg.SEC_KEY_CMD_SLOT, s.keyData.take (s.rd Reg.SEC_KEY_CMD_LEN)) }) := by
  unfold doKeyProvision
  exact congrArg _ (if_neg (by simp [h]))

theorem doKeyProvision_shut (hp : s.prov = none) (h : ¬s.keysOpen) : doKeyProvision s = .next (keyResult 2 s) := by
  rw [doKeyProvision_idle hp, if_pos ((keysShut_iff s).mpr h)]

theorem doKeyProvision_open (hp : s.prov = none) (h : s.keysOpen) : doKeyProvision s = .next (
    if s.rd Reg.SEC_KEY_CMD_LEN < 16 ∨ 64 < s.rd Reg.SEC_KEY_CMD_LEN then keyResult 3 s
    else if s.anyWarn then keyResult 4 s
    else { s.wr Reg.SEC_KEY_CMD_PROVISION 1 with
      prov := some (s.rd Reg.SEC_KEY_CMD_SLOT, s.keyData.take (s.rd Reg.SEC_KEY_CMD_LEN)) }) := by
  rw [doKeyProvision_idle hp, if_neg (fun hs => (keysShut_iff s).mp hs h)]

theorem doKeyProvision_begins (hp : s.prov = none) (h : s.keysOpen) (hmin : 16 ≤ s.rd Reg.SEC_KEY_CMD_LEN)
    (hmax : s.rd Reg.SEC_KEY_CMD_LEN ≤ 64) (hw : s.anyWarn = false) : doKeyProvision s = .next { s.wr Reg.SEC_KEY_CMD_PROVISION 1 with
      prov := some (s.rd Reg.SEC_KEY_CMD_SLOT, s.keyData.take (s.rd Reg.SEC_KEY_CMD_LEN)) } := by
  rw [doKeyProvision_open hp h, if_neg (by omega), if_neg (by simp [hw])]

theorem doKeyVoid_shut (h : ¬s.keysOpen) : doKeyVoid s = .next (keyResult 2 s) := by
  unfold doKeyVoid
  exact congrArg _ (if_pos ((keysShut_iff s).mpr h))

/-- The state once the key of slot `k` is void. -/
def keyVoided (k : Nat) (s : State) : State := keyResult 1 (voidKeys (· == k) { s with keys := tabErase k s.keys })

theorem doKeyVoid_open (h : s.keysOpen) : doKeyVoid s = .next (
    if s.anyWarn then keyResult 4 s else keyVoided (s.rd Reg.SEC_KEY_CMD_SLOT) s) := by
  unfold doKeyVoid
  exact congrArg _ (if_neg (fun hs => (keysShut_iff s).mp hs h))

/-- A voided record is not live, and its payload is zero. -/
def JnlRec.voided (x : JnlRec) : Prop := x.live = false ∧ ∀ y ∈ x.data, y = 0

/-- A record of either half that a void picks is voided. -/
theorem voidKeys_voids {p : Nat → Bool} {b : Bool} {x : JnlRec} (hx : x ∈ ((voidKeys p s).jnl.half b).recs)
    (htype : x.type = 0x12) (hp : p x.key = true) : x.voided := by
  have hmap : x ∈ (s.jnl.half b).recs.map (fun r => if r.type = 0x12 ∧ p r.key then
      { r with live := false, data := r.data.map (fun _ => 0) } else r) := by
    cases b <;> exact hx
  obtain ⟨r, -, rfl⟩ := List.mem_map.mp hmap
  by_cases hr : r.type = 0x12 ∧ p r.key = true
  · simp [hr, JnlRec.voided]
  · rw [if_neg hr] at htype hp
    exact absurd ⟨htype, hp⟩ hr

theorem voidKeys_frame (p : Nat → Bool) (s : State) : ∃ j, voidKeys p s = { s with jnl := j } := ⟨_, rfl⟩

theorem keyVoided_spec (k : Nat) (s : State) : let t := keyVoided k s
    t.key k = [] ∧ (∀ i, i ≠ k → t.key i = s.key i) ∧ t.rd Reg.SEC_KEY_CMD_RESULT = 1 ∧
      (∀ h x, x ∈ (t.jnl.half h).recs → x.type = 0x12 → x.key = k → x.live = false ∧ ∀ y ∈ x.data, y = 0) ∧
      s.regsBut keyEnds t ∧ t = { s with regs := t.regs, keys := t.keys, jnl := t.jnl } := by
  obtain ⟨hresult, -, -, hregs⟩ := keyResult_shows (r := 1) (by decide) (voidKeys (· == k) { s with keys := tabErase k s.keys })
  refine ⟨tabGet_erase_self .., fun i hi => tabGet_erase_ne _ (Ne.symm hi) _, hresult, fun h x hx htype hkey => ?_, hregs, rfl⟩
  exact voidKeys_voids (p := (· == k)) (b := h) (s := { s with keys := tabErase k s.keys }) hx htype (by simp [hkey])

theorem keyProvisionComplete_idle (h : s.prov = none) (ok : Bool) : exec (.keyProvisionComplete ok) s = .next s := by
  change execKeyProvisionComplete ok s = _
  simp only [execKeyProvisionComplete, h]

/-- The words of SEC.KEY_DATA. -/
def keyWords : List Fld := (List.range 16).map Reg.SEC_KEY_DATA_DATA

/-- The provision has ended and its key data are zeroed. -/
def provZeroed (s : State) : State := forRange 16 (fun i s => s.wr (Reg.SEC_KEY_DATA_DATA i) 0) { s with prov := none }

/-- The provision of `s` has ended and its key data are zeroed, and nothing else is different. -/
structure ProvZeroed (s t : State) : Prop where
  frame : t = { s with prov := none, regs := t.regs }
  regs : s.regsBut keyWords t
  zero : ∀ i < 16, t.rd (Reg.SEC_KEY_DATA_DATA i) = 0

theorem rd_provZeroed {i : Nat} (hi : i < 16) (s : State) : (provZeroed s).rd (Reg.SEC_KEY_DATA_DATA i) = 0 := by
  refine forRange_establishes (fun _ => True) (fun t => t.rd (Reg.SEC_KEY_DATA_DATA i) = 0) hi (fun _ _ _ _ _ => trivial)
    (fun k _ hk t ht => ?_) (fun t _ => t.rd_wr_self _ 0) trivial
  exact (t.rd_wr_ne (by simp; omega) 0).trans ht

theorem provZeroed_spec (s : State) : ProvZeroed s (provZeroed s) := by
  have h : provZeroed s = { s with prov := none, regs := (provZeroed s).regs } ∧ s.regsBut keyWords (provZeroed s) := by
    refine forRange_keeps (fun t => t = { s with prov := none, regs := t.regs } ∧ s.regsBut keyWords t) (fun i hi t ht => ?_)
      ⟨rfl, State.regsBut_of_regs_eq rfl _⟩
    obtain ⟨hframe, hregs⟩ := ht
    exact ⟨by rw [hframe]; rfl, hregs.wr (List.mem_map_of_mem (List.mem_range.mpr hi)) 0⟩
  exact ⟨h.1, h.2, fun i hi => rd_provZeroed hi s⟩

/-- The state once the record of the key of slot `k` is verified. -/
def keyFilled (k : Nat) (key : List Byte) (s : State) : State :=
  jnlPublish (keyResult 1 (jnlPut 0x12 k (List.replicate 16 0 ++ key) { s with keys := tabSet [] k key s.keys }))

/-- The state once the record of the key of slot `k` has failed. -/
def keyFailed (k : Nat) (s : State) : State := keyResult 5 { programFail s with keys := tabErase k s.keys }

theorem exec_keyProvisionComplete_good {k : Nat} {key : List Byte} (h : s.prov = some (k, key)) :
    exec (.keyProvisionComplete true) s = .next (keyFilled k key (provZeroed s)) := by
  change execKeyProvisionComplete true s = _
  unfold execKeyProvisionComplete keyFilled provZeroed
  simp only [h, if_true]

theorem exec_keyProvisionComplete_bad {k : Nat} {key : List Byte} (h : s.prov = some (k, key)) :
    exec (.keyProvisionComplete false) s = .next (keyFailed k (provZeroed s)) := by
  change execKeyProvisionComplete false s = _
  unfold execKeyProvisionComplete keyFailed provZeroed
  simp only [h, Bool.false_eq_true, if_false]

theorem keyWord_ne_end {i : Nat} (hi : i < 16) {f : Fld} (hf : f ∈ keyEnds) : f.key ≠ (Reg.SEC_KEY_DATA_DATA i).key := by
  simp only [keyEnds, List.mem_cons, List.not_mem_nil, or_false] at hf
  obtain rfl | rfl | rfl := hf <;> simp <;> omega

theorem keyFilled_spec {k : Nat} {key : List Byte} (hz : ProvZeroed s t) : let u := keyFilled k key t
    u.prov = none ∧ u.key k = key ∧ (∀ i, i ≠ k → u.key i = s.key i) ∧ (∀ i < 16, u.rd (Reg.SEC_KEY_DATA_DATA i) = 0) ∧
      u.rd Reg.SEC_KEY_CMD_RESULT = 1 ∧ u.rd Reg.SEC_KEY_CMD_PROVISION = 0 ∧ s.regsBut (keyWords ++ keyEnds) u ∧
      u = { s with regs := u.regs, prov := u.prov, keys := u.keys, jnl := u.jnl, commons := u.commons } := by
  obtain ⟨hframe, hregs, hzero⟩ := hz
  obtain ⟨hresult, hcmd, -, hends⟩ := keyResult_shows (r := 1) (by decide)
    (jnlPut 0x12 k (List.replicate 16 0 ++ key) { t with keys := tabSet [] k key t.keys })
  have hput : t.regsBut keyEnds (keyFilled k key t) := hends
  have hkeys : t.keys = s.keys := by rw [hframe]
  refine ⟨?_, tabGet_set_self .., fun i hi => ?_, fun i hi => ?_, hresult, hcmd, ?_, ?_⟩
  · change t.prov = none
    rw [hframe]
  · exact (tabGet_set_ne _ _ (Ne.symm hi) ..).trans (by rw [hkeys]; rfl)
  · rw [hput _ fun f hf => keyWord_ne_end hi hf, hzero i hi]
  · exact (hregs.mono (by simp)).trans (hput.mono (by simp))
  · rw [hframe]
    rfl

theorem keyFailed_spec {k : Nat} (hz : ProvZeroed s t) : let u := keyFailed k t
    u.prov = none ∧ u.key k = [] ∧ (∀ i, i ≠ k → u.key i = s.key i) ∧ (∀ i < 16, u.rd (Reg.SEC_KEY_DATA_DATA i) = 0) ∧
      u.rd Reg.SEC_KEY_CMD_RESULT = 5 ∧ s.regsBut (keyWords ++ keyEnds ++ [Reg.JNL_COUNTS_FAILS]) u ∧
      u = { s with regs := u.regs, prov := u.prov, keys := u.keys } := by
  obtain ⟨hframe, hregs, hzero⟩ := hz
  obtain ⟨hresult, -, -, hends⟩ := keyResult_shows (r := 5) (by decide) { programFail t with keys := tabErase k t.keys }
  have hfail : t.regsBut [Reg.JNL_COUNTS_FAILS] { programFail t with keys := tabErase k t.keys } :=
    State.regsBut.same (t.regsBut_wr (f := Reg.JNL_COUNTS_FAILS) List.mem_cons_self _) rfl
  have hkeys : t.keys = s.keys := by rw [hframe]
  refine ⟨?_, tabGet_erase_self .., fun i hi => ?_, fun i hi => ?_, hresult, ?_, ?_⟩
  · change t.prov = none
    rw [hframe]
  · exact (tabGet_erase_ne _ (Ne.symm hi) _).trans (by rw [hkeys]; rfl)
  · refine ((hends _ fun f hf => keyWord_ne_end hi hf).trans (hfail _ fun f hf => ?_)).trans (hzero i hi)
    rw [List.mem_singleton.mp hf]
    simp
    omega
  · exact ((hregs.mono (by simp)).trans (hfail.mono (by simp))).trans (hends.mono (by simp))
  · rw [hframe]
    rfl

/-! ### The debug gate (R466, R467) -/

/-- The words of SEC.NONCE. -/
def nonceWords : List Fld := (List.range 4).map Reg.SEC_NONCE_DATA

/-- A new nonce changes its words and uses free values. -/
theorem newNonce_frame (s : State) :
    newNonce s = { s with regs := (newNonce s).regs, free := (newNonce s).free } ∧ s.regsBut nonceWords (newNonce s) := by
  refine forRange_keeps (fun t => t = { s with regs := t.regs, free := t.free } ∧ s.regsBut nonceWords t) (fun i hi t ht => ?_)
    ⟨rfl, s.regsBut_refl _⟩
  obtain ⟨hframe, hregs⟩ := ht
  have hfree : s.regsBut nonceWords t.takeFree.2 := hregs.same rfl
  exact ⟨by rw [hframe]; rfl, hfree.wr (List.mem_map_of_mem (List.mem_range.mpr hi)) _⟩

/-- The token is judged: TOKEN_REJ shows `r`, and a new nonce is drawn. -/
def tokenJudged (r : Nat) (s : State) : State := newNonce (s.wr Reg.SEC_STATUS_TOKEN_REJ r)

theorem tokenJudged_spec {r : Nat} (hr : r < 2) (s : State) : (tokenJudged r s).rd Reg.SEC_STATUS_TOKEN_REJ = r ∧
    s.regsBut (Reg.SEC_STATUS_TOKEN_REJ :: nonceWords) (tokenJudged r s) ∧
    tokenJudged r s = { s with regs := (tokenJudged r s).regs, free := (tokenJudged r s).free } := by
  obtain ⟨hframe, hregs⟩ := newNonce_frame (s.wr Reg.SEC_STATUS_TOKEN_REJ r)
  refine ⟨?_, ?_, hframe⟩
  · have hkept : (tokenJudged r s).rd Reg.SEC_STATUS_TOKEN_REJ = (s.wr Reg.SEC_STATUS_TOKEN_REJ r).rd Reg.SEC_STATUS_TOKEN_REJ :=
      hregs _ (by simp [nonceWords]; omega)
    rw [hkept, State.rd_wr_self, Nat.mod_eq_of_lt (by simpa using hr)]
  · exact (s.regsBut_wr (by simp) r).trans (hregs.mono (by simp))

theorem exec_debugOpenGo (h : s.hostOpen Reg.SEC_DEBUG_OPEN_GO.addr) (ht : doDebugOpenGo s = .next t) :
    exec .debugOpenGo s = .next t :=
  hostCmd_plain _ doDebugOpenGo s t h (by decide) (by decide) ht

theorem doDebugOpenGo_open (h : s.gateClosed = false) : doDebugOpenGo s = .next s := by
  simp only [doDebugOpenGo, h, Bool.not_false, if_true]

theorem doDebugOpenGo_reject (h : s.gateClosed = true) (ht : s.tokenOk = false) : doDebugOpenGo s = .next (tokenJudged 1 s) := by
  simp only [doDebugOpenGo, h, ht, Bool.not_true, Bool.false_eq_true, if_false, tokenJudged]

theorem doDebugOpenGo_accept (h : s.gateClosed = true) (ht : s.tokenOk = true) :
    doDebugOpenGo s = .next (gateErase (tokenJudged 0 s)) := by
  simp only [doDebugOpenGo, h, ht, Bool.not_true, Bool.false_eq_true, if_false, if_true, tokenJudged]

theorem gateErase_spec (s : State) : let t := gateErase s
    t.rd Reg.SEC_STATUS_GATE = 1 ∧ t.rd Reg.SEC_STATUS_ERASED = 0 ∧ t.keys = [] ∧ t.present 14 noInst ∧
      s.regsBut [Reg.SEC_STATUS_GATE, Reg.SEC_STATUS_ERASED] t ∧ t = { s with regs := t.regs, keys := t.keys, flt := t.flt } := by
  let u := { s with keys := [] }.wrs [(Reg.SEC_STATUS_GATE, 1), (Reg.SEC_STATUS_ERASED, 0)]
  have hu : s.regsBut [Reg.SEC_STATUS_GATE, Reg.SEC_STATUS_ERASED] u :=
    (State.regsBut_of_regs_eq rfl _).trans (State.regsBut_wrs _ _ (by simp))
  obtain ⟨c, hc⟩ := u.level_frame 14 noInst true 0
  have ht : gateErase s = { u with flt := c } := hc
  refine ⟨?_, ?_, ?_, u.present_level_on 14 noInst 0, ?_, ?_⟩
  · rw [ht]; exact State.wrs_shows _ (by decide) (by simp) (by decide)
  · rw [ht]; exact State.wrs_shows _ (by decide) (by simp) (by decide)
  · rw [ht]; rfl
  · exact hu.same (by rw [ht])
  · rw [ht]; rfl

/-- The gate begins to open: the token is accepted. -/
theorem gateOpens_spec (s : State) : let t := gateErase (tokenJudged 0 s)
    t.rd Reg.SEC_STATUS_GATE = 1 ∧ t.rd Reg.SEC_STATUS_ERASED = 0 ∧ t.rd Reg.SEC_STATUS_TOKEN_REJ = 0 ∧ t.keys = [] ∧
      t.present 14 noInst ∧
      s.regsBut ([Reg.SEC_STATUS_TOKEN_REJ, Reg.SEC_STATUS_GATE, Reg.SEC_STATUS_ERASED] ++ nonceWords) t ∧
      t = { s with regs := t.regs, free := t.free, keys := t.keys, flt := t.flt } := by
  obtain ⟨hrej, hregs, hframe⟩ := tokenJudged_spec (r := 0) (by decide) s
  obtain ⟨hgate, herased, hkeys, hpresent, hregs', hframe'⟩ := gateErase_spec (tokenJudged 0 s)
  refine ⟨hgate, herased, ?_, hkeys, hpresent, ?_, ?_⟩
  · exact (hregs' _ (by decide)).trans hrej
  · exact (hregs.mono (by simp [List.subset_def]; tauto)).trans (hregs'.mono (by simp))
  · rw [hframe', hframe]

theorem execDebugGateOpen_waits (h : s.rd Reg.SEC_STATUS_GATE ≠ 1 ∨ s.anyWarn = true ∨ s.prov ≠ none) :
    exec .debugGateOpen s = .next s := by
  change execDebugGateOpen s = _
  unfold execDebugGateOpen
  exact congrArg _ (if_pos (by simpa only [Option.isSome_iff_ne_none] using h))

/-- The state once every KEY record is void and the gate is OPEN. -/
def gateOpened (s : State) : State := (voidKeys (fun _ => true) s).wrs [(Reg.SEC_STATUS_ERASED, 1), (Reg.SEC_STATUS_GATE, 2)]

theorem execDebugGateOpen_opens (hg : s.rd Reg.SEC_STATUS_GATE = 1) (hw : s.anyWarn = false) (hp : s.prov = none) :
    exec .debugGateOpen s = .next (gateOpened s) := by
  change execDebugGateOpen s = _
  unfold execDebugGateOpen
  exact congrArg _ (if_neg (by simp [hg, hw, hp]))

theorem gateOpened_spec (s : State) : let t := gateOpened s
    t.rd Reg.SEC_STATUS_GATE = 2 ∧ t.rd Reg.SEC_STATUS_ERASED = 1 ∧
      (∀ h x, x ∈ (t.jnl.half h).recs → x.type = 0x12 → x.live = false ∧ ∀ y ∈ x.data, y = 0) ∧
      s.regsBut [Reg.SEC_STATUS_GATE, Reg.SEC_STATUS_ERASED] t ∧ t = { s with regs := t.regs, jnl := t.jnl } :=
  ⟨State.wrs_shows _ (by decide) (by simp) (by decide), State.wrs_shows _ (by decide) (by simp) (by decide),
    fun h _ hx htype => voidKeys_voids (p := fun _ => true) (b := h) (s := s) hx htype rfl,
    (State.regsBut_of_regs_eq rfl _).trans (State.regsBut_wrs _ _ (by simp)), rfl⟩

/-- Settles O49, command by command. -/
theorem security : Obligations.security := by
  intro s
  refine ⟨fun ho hb => exec_fuseProg ho (doFuseProg_busy hb), fun ho hb => ⟨fun hmay => ?_, fun hmay hsel hset => ?_, fun hmay hfree => ?_⟩,
    fuseProgramComplete_idle, keyProvisionComplete_idle, fun k v hb => ?_, fun ho => ?_, fun k key hp => ?_, fun ho => ?_,
    execDebugGateOpen_waits, fun hg hw hp => ⟨_, execDebugGateOpen_opens hg hw hp, gateOpened_spec s⟩⟩
  · exact ⟨_, exec_fuseProg ho (doFuseProg_refused hb hmay), fuseEnds_shows (by decide) s⟩
  · exact ⟨_, exec_fuseProg ho ((doFuseProg_allowed hb hmay).trans (if_pos ⟨hsel, hset⟩)), fuseEnds_shows (by decide) s⟩
  · have hnot : ¬(s.rd Reg.SEC_FUSE_CMD_SEL ≠ 3 ∧ s.fuseField (s.rd Reg.SEC_FUSE_CMD_SEL) ≠ 0) := fun h => hfree.elim h.1 h.2
    exact ⟨_, exec_fuseProg ho ((doFuseProg_allowed hb hmay).trans (if_neg hnot)), s.rd_wr_self Reg.SEC_FUSE_CMD_PROG 1, rfl,
      State.regsBut.same (s.regsBut_wr (f := Reg.SEC_FUSE_CMD_PROG) (by simp) 1) rfl, rfl⟩
  · obtain ⟨hresult, hprog, hregs⟩ := fuseEnds_over (s := s) (r := 1) (by decide)
      (t := { s with fuses := { s.fuses.put k (s.fuseField k ||| v) with busy := none } }) rfl
    obtain ⟨hresult', hprog', hregs'⟩ := fuseEnds_over (s := s) (r := 4) (by decide)
      (t := { s.takeFree.2 with fuses := { s.fuses.put k (s.fuseField k ||| v &&& s.takeFree.1) with busy := none } }) rfl
    exact ⟨⟨_, exec_fuseProgramComplete_good hb, rfl, hresult, hprog, hregs, rfl⟩,
      ⟨_, exec_fuseProgramComplete_bad hb, rfl, hresult', hprog', hregs', rfl⟩⟩
  · refine ⟨fun hp => exec_keyProvision ho (doKeyProvision_busy hp), fun hp hs => ?_, fun hp hs hlen => ?_,
      fun hp hs hmin hmax hw => ?_, fun hp hs hmin hmax hw => ?_, fun hs => ?_, fun hs hw => ?_, fun hs hw => ?_⟩
    · exact ⟨_, exec_keyProvision ho (doKeyProvision_shut hp hs), keyResult_shows (by decide) s⟩
    · exact ⟨_, exec_keyProvision ho ((doKeyProvision_open hp hs).trans (congrArg _ (if_pos hlen))), keyResult_shows (by decide) s⟩
    · exact ⟨_, exec_keyProvision ho ((doKeyProvision_open hp hs).trans (by rw [if_neg (by omega), if_pos hw])),
        keyResult_shows (by decide) s⟩
    · exact ⟨_, exec_keyProvision ho (doKeyProvision_begins hp hs hmin hmax hw), s.rd_wr_self Reg.SEC_KEY_CMD_PROVISION 1, rfl,
        State.regsBut.same (s.regsBut_wr (f := Reg.SEC_KEY_CMD_PROVISION) (by simp) 1) rfl, rfl⟩
    · exact ⟨_, exec_keyVoid ho (doKeyVoid_shut hs), keyResult_shows (by decide) s⟩
    · exact ⟨_, exec_keyVoid ho ((doKeyVoid_open hs).trans (congrArg _ (if_pos hw))), keyResult_shows (by decide) s⟩
    · exact ⟨_, exec_keyVoid ho ((doKeyVoid_open hs).trans (congrArg _ (if_neg (by simp [hw])))), keyVoided_spec _ s⟩
  · exact ⟨⟨_, exec_keyProvisionComplete_good hp, keyFilled_spec (provZeroed_spec s)⟩, ⟨_, exec_keyProvisionComplete_bad hp, keyFailed_spec (provZeroed_spec s)⟩⟩
  · exact ⟨fun h => exec_debugOpenGo ho (doDebugOpenGo_open h),
      fun h ht => ⟨_, exec_debugOpenGo ho (doDebugOpenGo_reject h ht), tokenJudged_spec (by decide) s⟩,
      fun h ht => ⟨_, exec_debugOpenGo ho (doDebugOpenGo_accept h ht), gateOpens_spec s⟩⟩

end Sys2Proof.Machine
end


section
/-! PROOFS. Requests to the journal (R452 to R454, R457, R470): O46. -/
namespace Sys2Proof.Machine

variable {s t : State}

/-! ### Numbers in bytes -/

theorem byteAt_lt (b : List Byte) (i : Nat) : byteAt b i < 256 := (b.getD i 0).isLt

/-- A number of `n` bytes is below 256^n. -/
theorem leRead_lt (b : List Byte) (i n : Nat) : leRead b i n < 256 ^ n := by
  have h : ∀ l : List Nat, l.foldr (fun k v => v * 256 + byteAt b (i + k)) 0 < 256 ^ l.length := by
    intro l
    induction l with
    | nil => simp
    | cons k l ih =>
      have hb := byteAt_lt b (i + k)
      rw [List.foldr_cons, List.length_cons, pow_succ]
      omega
  simpa [leRead] using h (List.range n)

/-! ### Answers to the host (R470) -/

/-- The append of the host has been answered with `r`. -/
theorem hostAnswered {r : Nat} (hr : r < 8) {cmd : Fld} (hcmd : cmd = Reg.JNL_CMD_APPEND ∨ cmd = Reg.JNL_CMD_FIND ∨ cmd = Reg.JNL_CMD_COMPACT)
    (n : Nat) (s : State) : let t := s.wrs [(Reg.JNL_RESULT, r), (Reg.JNL_RESULT_LEN, n), (cmd, 0)]
    t.rd Reg.JNL_RESULT = r ∧ t.rd Reg.JNL_RESULT_LEN = n % 2 ^ Reg.JNL_RESULT_LEN.width ∧ t.rd cmd = 0 ∧
      s.onlyRegs [Reg.JNL_RESULT, Reg.JNL_RESULT_LEN, cmd] t := by
  have hkeys : (([(Reg.JNL_RESULT, r), (Reg.JNL_RESULT_LEN, n), (cmd, 0)] : List (Fld × Nat)).map (fun p => p.1.key)).Nodup := by
    obtain rfl | rfl | rfl := hcmd <;> simp
  refine ⟨s.wrs_shows hkeys (by simp) (hr.trans_le (by decide)), s.rd_wrs_mem hkeys (by simp), s.wrs_shows hkeys (by simp) (by positivity),
    s.onlyRegs_wrs _ (by simp)⟩

theorem appendAnswer_host {r : Nat} (hr : r < 8) (s : State) : let t := appendAnswer .host r s
    t.rd Reg.JNL_RESULT = r ∧ t.rd Reg.JNL_RESULT_LEN = 0 ∧ t.rd Reg.JNL_CMD_APPEND = 0 ∧
      s.onlyRegs [Reg.JNL_RESULT, Reg.JNL_RESULT_LEN, Reg.JNL_CMD_APPEND] t :=
  hostAnswered hr (.inl rfl) 0 s

theorem exec_jnlAppend (h : s.hostOpen Reg.JNL_CMD_APPEND.addr) (ht : doJnlAppend s = .next t) : exec .jnlAppend s = .next t :=
  hostCmd_plain _ doJnlAppend s t h (by decide) (by decide) ht

theorem exec_jnlFind (h : s.hostOpen Reg.JNL_CMD_APPEND.addr) (ht : doJnlFind s = .next t) : exec .jnlFind s = .next t :=
  hostCmd_plain _ doJnlFind s t h (by decide) (by decide) ht

theorem exec_jnlCompact (h : s.hostOpen Reg.JNL_CMD_APPEND.addr) : exec .jnlCompact s =
    .next ((compactOrder s).wrs [(Reg.JNL_RESULT, jOk), (Reg.JNL_RESULT_LEN, 0), (Reg.JNL_CMD_COMPACT, 0)]) :=
  hostCmd_plain _ doJnlCompact s _ h (by decide) (by decide) rfl

/-! ### What the controller does with an append (R452, R454) -/

theorem jnlAccept_deferred {r : JnlReq} (h : s.deferring = true) : jnlAccept r s = appendAnswer r.who jDeferred s := if_pos h

theorem jnlAccept_full {r : JnlReq} (h : s.deferring = false) (hq : 16 ≤ s.jnl.queue.length) :
    jnlAccept r s = appendAnswer r.who jBusy s := by
  rw [jnlAccept, if_neg (by simp [h]), if_pos hq]

theorem jnlAccept_queued {r : JnlReq} (h : s.deferring = false) (hq : s.jnl.queue.length < 16) :
    jnlAccept r s = { s with jnl := { s.jnl with queue := s.jnl.queue ++ [r] } } := by
  rw [jnlAccept, if_neg (by simp [h]), if_neg (by omega)]

/-! ### The append of the host (R470) -/

theorem doJnlAppend_waits (h : s.rd Reg.JNL_CMD_APPEND ≠ 0) : doJnlAppend s = .next s := if_pos (decide_eq_true h)

theorem doJnlAppend_badType (h : s.rd Reg.JNL_CMD_APPEND = 0) (ht : hostType (s.rd Reg.JNL_FIND_TYPE) = false) :
    doJnlAppend s = .next (appendAnswer .host 1 s) := by
  unfold doJnlAppend
  rw [if_neg (by simp [State.bit, h]), if_pos (by rw [ht]; rfl)]
  rfl

theorem doJnlAppend_tooLong (h : s.rd Reg.JNL_CMD_APPEND = 0) (ht : hostType (s.rd Reg.JNL_FIND_TYPE) = true)
    (hl : 256 < s.rd Reg.JNL_FIND_LEN) : doJnlAppend s = .next (appendAnswer .host 6 s) := by
  unfold doJnlAppend
  rw [if_neg (by simp [State.bit, h]), if_neg (by rw [ht]; decide), if_pos hl]
  rfl

/-- The request that the host's registers describe. -/
def State.hostRequest (s : State) : JnlReq :=
  ⟨.host, s.rd Reg.JNL_FIND_TYPE, s.rd Reg.JNL_FIND_KEY, s.bufBytes.take (s.rd Reg.JNL_FIND_LEN)⟩

theorem doJnlAppend_accepts (h : s.rd Reg.JNL_CMD_APPEND = 0) (ht : hostType (s.rd Reg.JNL_FIND_TYPE) = true)
    (hl : s.rd Reg.JNL_FIND_LEN ≤ 256) : doJnlAppend s = .next (jnlAccept s.hostRequest (s.wr Reg.JNL_CMD_APPEND 1)) := by
  unfold doJnlAppend
  rw [if_neg (by simp [State.bit, h]), if_neg (by rw [ht]; decide), if_neg (by omega)]
  rfl

theorem deferring_append (s : State) : (s.wr Reg.JNL_CMD_APPEND 1).deferring = s.deferring := by
  simp only [State.deferring, State.anyWarn, State.wr_jnl]
  rw [State.rd_wr_ne s (by decide)]

/-- The append that the controller does not take: the answer overwrites the command. -/
theorem hostAppend_answered {r : Nat} (hr : r < 8) (s : State) : let t := appendAnswer .host r (s.wr Reg.JNL_CMD_APPEND 1)
    t.rd Reg.JNL_RESULT = r ∧ t.rd Reg.JNL_RESULT_LEN = 0 ∧ t.rd Reg.JNL_CMD_APPEND = 0 ∧
      s.onlyRegs [Reg.JNL_RESULT, Reg.JNL_RESULT_LEN, Reg.JNL_CMD_APPEND] t := by
  obtain ⟨hresult, hlen, hcmd, hframe⟩ := appendAnswer_host hr (s.wr Reg.JNL_CMD_APPEND 1)
  exact ⟨hresult, hlen, hcmd, (s.onlyRegs_wrs [(Reg.JNL_CMD_APPEND, 1)] (by simp)).trans hframe⟩

theorem exec_jnlAppend_deferred (ho : s.hostOpen Reg.JNL_CMD_APPEND.addr) (h : s.rd Reg.JNL_CMD_APPEND = 0)
    (ht : hostType (s.rd Reg.JNL_FIND_TYPE) = true) (hl : s.rd Reg.JNL_FIND_LEN ≤ 256) (hd : s.deferring = true) :
    exec .jnlAppend s = .next (appendAnswer .host 3 (s.wr Reg.JNL_CMD_APPEND 1)) :=
  exec_jnlAppend ho ((doJnlAppend_accepts h ht hl).trans (congrArg _ (jnlAccept_deferred ((deferring_append s).trans hd))))

theorem exec_jnlAppend_full (ho : s.hostOpen Reg.JNL_CMD_APPEND.addr) (h : s.rd Reg.JNL_CMD_APPEND = 0)
    (ht : hostType (s.rd Reg.JNL_FIND_TYPE) = true) (hl : s.rd Reg.JNL_FIND_LEN ≤ 256) (hd : s.deferring = false)
    (hq : 16 ≤ s.jnl.queue.length) : exec .jnlAppend s = .next (appendAnswer .host 2 (s.wr Reg.JNL_CMD_APPEND 1)) :=
  exec_jnlAppend ho ((doJnlAppend_accepts h ht hl).trans (congrArg _ (jnlAccept_full ((deferring_append s).trans hd) hq)))

theorem exec_jnlAppend_queued (ho : s.hostOpen Reg.JNL_CMD_APPEND.addr) (h : s.rd Reg.JNL_CMD_APPEND = 0)
    (ht : hostType (s.rd Reg.JNL_FIND_TYPE) = true) (hl : s.rd Reg.JNL_FIND_LEN ≤ 256) (hd : s.deferring = false)
    (hq : s.jnl.queue.length < 16) : exec .jnlAppend s =
      .next { s.wr Reg.JNL_CMD_APPEND 1 with jnl := { s.jnl with queue := s.jnl.queue ++ [s.hostRequest] } } :=
  exec_jnlAppend ho ((doJnlAppend_accepts h ht hl).trans (congrArg _ (jnlAccept_queued ((deferring_append s).trans hd) hq)))

/-! ### FIND of the host (R470) -/

/-- The words of BUF. -/
def bufWords : List Fld := (List.range 64).map Reg.JNL_BUF_DATA

theorem rd_bufPut {k : Nat} (hk : k < 64) (b : List Byte) (s : State) :
    (bufPut b s).rd (Reg.JNL_BUF_DATA k) = leRead (putBytes s.bufBytes 0 (b.take 256)) (4 * k) 4 := by
  have hlt : leRead (putBytes s.bufBytes 0 (b.take 256)) (4 * k) 4 < 2 ^ 32 := leRead_lt ..
  refine forRange_establishes (fun _ => True) (fun t => t.rd (Reg.JNL_BUF_DATA k) = _) hk (fun _ _ _ _ _ => trivial)
    (fun i _ hi t ht => ?_) (fun t _ => ?_) trivial
  · exact (t.rd_wr_ne (by simp; omega) _).trans ht
  · rw [State.rd_wr_self, Nat.mod_eq_of_lt (by simpa using hlt)]

theorem bufPut_onlyRegs (b : List Byte) (s : State) : s.onlyRegs bufWords (bufPut b s) := by
  refine forRange_keeps (s.onlyRegs bufWords) (fun i hi t ht => ht.trans ?_) ⟨rfl, s.regsBut_refl _⟩
  exact t.onlyRegs_wrs [(Reg.JNL_BUF_DATA i, leRead (putBytes s.bufBytes 0 (b.take 256)) (4 * i) 4)] fun p hp => by
    rw [List.mem_singleton.mp hp]
    exact List.mem_map_of_mem (List.mem_range.mpr hi)

/-- FIND answers without a record. -/
theorem exec_jnlFind_none (ho : s.hostOpen Reg.JNL_CMD_APPEND.addr)
    (h : s.rd Reg.JNL_FIND_TYPE = 0x12 ∨ s.jnl.inForce (s.rd Reg.JNL_FIND_TYPE) (s.rd Reg.JNL_FIND_KEY) = none) :
    exec .jnlFind s = .next (s.wrs [(Reg.JNL_RESULT, if s.rd Reg.JNL_FIND_TYPE = 0x12 then 1 else 4), (Reg.JNL_RESULT_LEN, 0),
      (Reg.JNL_CMD_FIND, 0)]) := by
  refine exec_jnlFind ho ?_
  unfold doJnlFind
  by_cases ht : s.rd Reg.JNL_FIND_TYPE = 0x12
  · simp only [ht, if_true, jBadType]
  · simp only [ht, if_false, h.resolve_left ht, jNotFound]

/-- FIND answers with the record in force. -/
def jnlFound (r : JnlRec) (s : State) : State :=
  (bufPut r.data s).wrs [(Reg.JNL_RESULT, 0), (Reg.JNL_RESULT_LEN, r.data.length), (Reg.JNL_CMD_FIND, 0)]

theorem exec_jnlFind_some (ho : s.hostOpen Reg.JNL_CMD_APPEND.addr) {r : JnlRec} (ht : s.rd Reg.JNL_FIND_TYPE ≠ 0x12)
    (h : s.jnl.inForce (s.rd Reg.JNL_FIND_TYPE) (s.rd Reg.JNL_FIND_KEY) = some r) :
    exec .jnlFind s = .next (jnlFound r s) := by
  refine exec_jnlFind ho ?_
  unfold doJnlFind jnlFound
  simp only [ht, if_false, h, jOk]

theorem jnlFound_spec (r : JnlRec) (s : State) : let t := jnlFound r s
    t.rd Reg.JNL_RESULT = 0 ∧ t.rd Reg.JNL_RESULT_LEN = r.data.length % 2 ^ Reg.JNL_RESULT_LEN.width ∧ t.rd Reg.JNL_CMD_FIND = 0 ∧
      (∀ k < 64, t.rd (Reg.JNL_BUF_DATA k) = leRead (putBytes s.bufBytes 0 (r.data.take 256)) (4 * k) 4) ∧
      s.onlyRegs (bufWords ++ [Reg.JNL_RESULT, Reg.JNL_RESULT_LEN, Reg.JNL_CMD_FIND]) t := by
  obtain ⟨hresult, hlen, hcmd, hframe, hregs⟩ := hostAnswered (r := 0) (by decide) (.inr (.inl rfl)) r.data.length (bufPut r.data s)
  obtain ⟨hbuf, hbufRegs⟩ := bufPut_onlyRegs r.data s
  refine ⟨hresult, hlen, hcmd, fun k hk => ?_,
    State.onlyRegs.trans ⟨hbuf, hbufRegs.mono (by simp)⟩ ⟨hframe, hregs.mono (by simp)⟩⟩
  refine (hregs _ fun f hf => ?_).trans (rd_bufPut hk r.data s)
  simp only [List.mem_cons, List.not_mem_nil, or_false] at hf
  obtain rfl | rfl | rfl := hf <;> simp <;> omega

/-! ### Orders to compact (R457) -/

theorem compactOrder_idle (h : s.jnl.compacting = true ∨ s.jnl.due = false) : compactOrder s = s :=
  if_pos (by simpa using h)

theorem compactOrder_starts (hc : s.jnl.compacting = false) (hd : s.jnl.due = true) (h : s.deferring = false) :
    compactOrder s = jnlPublish { s with jnl := { s.jnl with phase := .erasing, ordered := false } } := by
  rw [compactOrder, if_neg (by simp [hc, hd]), compactStart, if_neg (by simp [hc]), if_neg (by simp [h])]

theorem compactOrder_waits (hc : s.jnl.compacting = false) (hd : s.jnl.due = true) (h : s.deferring = true) :
    compactOrder s = { s with jnl := { s.jnl with ordered := true } } := by
  rw [compactOrder, if_neg (by simp [hc, hd]), compactStart, if_neg (by simp [hc]), if_pos h]

/-- What an order to compact changes: the journal's record of it and the status word. -/
theorem compactOrder_frame (s : State) : ∃ j c, compactOrder s = { s with jnl := j, commons := c } := by
  unfold compactOrder compactStart
  split
  · exact ⟨_, _, rfl⟩
  · split
    · exact ⟨_, _, rfl⟩
    · split <;> exact ⟨_, _, rfl⟩

/-- What the order of the host leaves. -/
theorem hostCompact_spec (s : State) : let idle := s.jnl.compacting = true ∨ s.jnl.due = false
    let wants := s.jnl.compacting = false ∧ s.jnl.due = true
    let t := (compactOrder s).wrs [(Reg.JNL_RESULT, jOk), (Reg.JNL_RESULT_LEN, 0), (Reg.JNL_CMD_COMPACT, 0)]
    t.rd Reg.JNL_RESULT = 0 ∧ t.rd Reg.JNL_RESULT_LEN = 0 ∧ t.rd Reg.JNL_CMD_COMPACT = 0 ∧
      (wants → s.deferring = false → t.jnl = { s.jnl with phase := .erasing, ordered := false }) ∧
      (wants → s.deferring = true → t.jnl = { s.jnl with ordered := true } ∧ t.commons = s.commons) ∧
      (idle → t.jnl = s.jnl ∧ t.commons = s.commons) ∧
      s.regsBut [Reg.JNL_RESULT, Reg.JNL_RESULT_LEN, Reg.JNL_CMD_COMPACT] t ∧
      t = { s with regs := t.regs, jnl := t.jnl, commons := t.commons } := by
  obtain ⟨hresult, hlen, hcmd, hframe, hregs⟩ := hostAnswered (r := 0) (by decide) (.inr (.inr rfl)) 0 (compactOrder s)
  obtain ⟨j, c, hj⟩ := compactOrder_frame s
  refine ⟨hresult, hlen, hcmd, fun hw hd => ?_, fun hw hd => ?_, fun hi => ?_, State.regsBut.trans (t := compactOrder s) ?_ hregs, ?_⟩
  · rw [compactOrder_starts hw.1 hw.2 hd]; rfl
  · rw [compactOrder_waits hw.1 hw.2 hd]; exact ⟨rfl, rfl⟩
  · rw [compactOrder_idle hi]; exact ⟨rfl, rfl⟩
  · exact State.regsBut_of_regs_eq (by rw [hj]) _
  · rw [hj]; rfl

/-! ### The request slots of the lessons (R453) -/

/-- The response word of slot `j`. -/
def slotReply (j : Nat) : Nat := (jnlSlotAt j + 0x3F8) / 8

theorem tabGet_slotRespond_self (j op seq r n : Nat) (s : State) : tabGet 0 (slotReply j) (slotRespond j op seq r n s).commons =
    BitVec.ofNat 64 (op * 2 ^ 56 + seq * 2 ^ 48 + r * 2 ^ 40 + n * 2 ^ 16) := tabGet_set_self ..

theorem tabGet_slotRespond_ne {j i : Nat} (hi : i ≠ slotReply j) (op seq r n : Nat) (s : State) :
    tabGet 0 i (slotRespond j op seq r n s).commons = tabGet 0 i s.commons := tabGet_set_ne _ _ (Ne.symm hi) ..

theorem slotRespond_frame (j op seq r n : Nat) (s : State) :
    slotRespond j op seq r n s = { s with commons := (slotRespond j op seq r n s).commons } := rfl

/-- The slot has been answered, and nothing else is different. -/
theorem slotRespond_said (j op w r : Nat) (s : State) : let t := slotRespond j op (w / 2 ^ 48 % 256) r 0 s
    (tabGet 0 (slotReply j) t.commons = BitVec.ofNat 64 (op * 2 ^ 56 + w / 2 ^ 48 % 256 * 2 ^ 48 + r * 2 ^ 40 + 0 * 2 ^ 16)) ∧
      (∀ i, i ≠ slotReply j → tabGet 0 i t.commons = tabGet 0 i s.commons) ∧ t = { s with commons := t.commons } :=
  ⟨tabGet_slotRespond_self .., fun _ hi => tabGet_slotRespond_ne hi .., rfl⟩

variable {j : Fin 4} {w : Nat}

theorem exec_slotAppend_none (h : s.slotRequest j 1 = none) : exec (.jnlSlotAppend j) s = .next s := by
  change execJnlSlotAppend j s = _
  simp only [execJnlSlotAppend, h]

theorem exec_slotFind_none (h : s.slotRequest j 2 = none) : exec (.jnlSlotFind j) s = .next s := by
  change execJnlSlotFind j s = _
  simp only [execJnlSlotFind, h]

theorem exec_slotCompact_none (h : s.slotRequest j 3 = none) : exec (.jnlSlotCompact j) s = .next s := by
  change execJnlSlotCompact j s = _
  simp only [execJnlSlotCompact, h]

/-- The append that the word `w` of slot `j` asks for. -/
def State.slotAppend (s : State) (j w : Nat) : JnlReq :=
  ⟨.slot j (w / 2 ^ 48 % 256), w / 2 ^ 40 % 256, w / 2 ^ 32 % 256, s.commonsRead (jnlSlotAt j + 8) (w / 2 ^ 16 % 65536)⟩

theorem exec_slotAppend_some (h : s.slotRequest j 1 = some w) : exec (.jnlSlotAppend j) s = .next (
    if !lessonType (w / 2 ^ 40 % 256) then slotRespond j 1 (w / 2 ^ 48 % 256) 1 0 s
    else if 1008 < w / 2 ^ 16 % 65536 then slotRespond j 1 (w / 2 ^ 48 % 256) 6 0 s
    else jnlAccept (s.slotAppend j w) s) := by
  change execJnlSlotAppend j s = _
  simp only [execJnlSlotAppend, h]
  rfl

theorem exec_slotAppend_badType (h : s.slotRequest j 1 = some w) (ht : lessonType (w / 2 ^ 40 % 256) = false) :
    exec (.jnlSlotAppend j) s = .next (slotRespond j 1 (w / 2 ^ 48 % 256) 1 0 s) := by
  rw [exec_slotAppend_some h, if_pos (by rw [ht]; rfl)]

theorem exec_slotAppend_tooLong (h : s.slotRequest j 1 = some w) (ht : lessonType (w / 2 ^ 40 % 256) = true)
    (hl : 1008 < w / 2 ^ 16 % 65536) : exec (.jnlSlotAppend j) s = .next (slotRespond j 1 (w / 2 ^ 48 % 256) 6 0 s) := by
  rw [exec_slotAppend_some h, if_neg (by rw [ht]; decide), if_pos hl]

theorem exec_slotAppend_accepts (h : s.slotRequest j 1 = some w) (ht : lessonType (w / 2 ^ 40 % 256) = true)
    (hl : w / 2 ^ 16 % 65536 ≤ 1008) : exec (.jnlSlotAppend j) s = .next (jnlAccept (s.slotAppend j w) s) := by
  rw [exec_slotAppend_some h, if_neg (by rw [ht]; decide), if_neg (by omega)]

theorem exec_slotFind_some (h : s.slotRequest j 2 = some w) : exec (.jnlSlotFind j) s = .next (
    if !lessonType (w / 2 ^ 40 % 256) then slotRespond j 2 (w / 2 ^ 48 % 256) 1 0 s
    else match s.jnl.inForce (w / 2 ^ 40 % 256) (w / 2 ^ 32 % 256) with
      | some r => slotRespond j 2 (w / 2 ^ 48 % 256) 0 r.data.length (ownerWrite true (jnlSlotAt j + 8) (r.data.take 1008) s)
      | none => slotRespond j 2 (w / 2 ^ 48 % 256) 4 0 s) := by
  change execJnlSlotFind j s = _
  simp only [execJnlSlotFind, h]
  rfl

theorem exec_slotFind_badType (h : s.slotRequest j 2 = some w) (ht : lessonType (w / 2 ^ 40 % 256) = false) :
    exec (.jnlSlotFind j) s = .next (slotRespond j 2 (w / 2 ^ 48 % 256) 1 0 s) := by
  rw [exec_slotFind_some h, if_pos (by rw [ht]; rfl)]

theorem exec_slotFind_missing (h : s.slotRequest j 2 = some w) (ht : lessonType (w / 2 ^ 40 % 256) = true)
    (hr : s.jnl.inForce (w / 2 ^ 40 % 256) (w / 2 ^ 32 % 256) = none) :
    exec (.jnlSlotFind j) s = .next (slotRespond j 2 (w / 2 ^ 48 % 256) 4 0 s) := by
  rw [exec_slotFind_some h, if_neg (by rw [ht]; decide), hr]

theorem exec_slotFind_found (h : s.slotRequest j 2 = some w) (ht : lessonType (w / 2 ^ 40 % 256) = true) {r : JnlRec}
    (hr : s.jnl.inForce (w / 2 ^ 40 % 256) (w / 2 ^ 32 % 256) = some r) : exec (.jnlSlotFind j) s = .next
      (slotRespond j 2 (w / 2 ^ 48 % 256) 0 r.data.length (ownerWrite true (jnlSlotAt j + 8) (r.data.take 1008) s)) := by
  rw [exec_slotFind_some h, if_neg (by rw [ht]; decide), hr]

theorem exec_slotCompact_some (h : s.slotRequest j 3 = some w) :
    exec (.jnlSlotCompact j) s = .next (slotRespond j 3 (w / 2 ^ 48 % 256) 0 0 (compactOrder s)) := by
  change execJnlSlotCompact j s = _
  simp only [execJnlSlotCompact, h]
  rfl

/-- An order of a slot that starts a compaction or waits. -/
theorem slotCompact_wants (hc : s.jnl.compacting = false) (hd : s.jnl.due = true) :
    let t := slotRespond j 3 (w / 2 ^ 48 % 256) 0 0 (compactOrder s)
    (s.deferring = false → t.jnl = { s.jnl with phase := .erasing, ordered := false }) ∧
      (s.deferring = true → t.jnl = { s.jnl with ordered := true }) ∧ t = { s with jnl := t.jnl, commons := t.commons } := by
  refine ⟨fun h => ?_, fun h => ?_, ?_⟩
  · rw [compactOrder_starts hc hd h]; rfl
  · rw [compactOrder_waits hc hd h]; rfl
  · obtain ⟨j', c, hj⟩ := compactOrder_frame s
    rw [hj]; rfl

/-- Settles O46: the host's requests, and those of the slots. -/
theorem journalRequests : Obligations.journal_requests := by
  intro j s
  refine ⟨fun ho h => exec_jnlAppend ho (doJnlAppend_waits h), fun ho h => ⟨fun ht => ?_, fun ht hl => ?_, fun ht hl hd => ?_,
    fun ht hl hd hq => ?_, fun ht hl hd hq => ?_⟩, fun ho => ⟨fun h => ?_, fun r ht h => ?_, ?_⟩, exec_slotAppend_none, exec_slotFind_none,
    exec_slotCompact_none, fun w hw => ⟨fun ht => ?_, fun ht hl => ?_, fun ht hl hd => ?_, fun ht hl hd hq => ?_, fun ht hl hd hq => ?_⟩,
    fun w hw => ⟨fun ht => ?_, fun ht hr => ?_, fun r ht hr => ?_⟩, fun w hw => ⟨fun hi => ?_, fun hwants => ?_⟩⟩
  · exact ⟨_, exec_jnlAppend ho (doJnlAppend_badType h ht), appendAnswer_host (by decide) s⟩
  · exact ⟨_, exec_jnlAppend ho (doJnlAppend_tooLong h ht hl), appendAnswer_host (by decide) s⟩
  · exact ⟨_, exec_jnlAppend_deferred ho h ht hl hd, hostAppend_answered (by decide) s⟩
  · exact ⟨_, exec_jnlAppend_full ho h ht hl hd hq, hostAppend_answered (by decide) s⟩
  · exact ⟨_, exec_jnlAppend_queued ho h ht hl hd hq, s.rd_wr_self Reg.JNL_CMD_APPEND 1, rfl,
      State.regsBut.same (s.regsBut_wr (f := Reg.JNL_CMD_APPEND) (by simp) 1) rfl, rfl⟩
  · refine ⟨_, exec_jnlFind_none ho h, hostAnswered ?_ (.inr (.inl rfl)) 0 s⟩
    split <;> decide
  · exact ⟨_, exec_jnlFind_some ho ht h, jnlFound_spec r s⟩
  · exact ⟨_, exec_jnlCompact ho, hostCompact_spec s⟩
  · exact ⟨_, exec_slotAppend_badType hw ht, slotRespond_said ..⟩
  · exact ⟨_, exec_slotAppend_tooLong hw ht hl, slotRespond_said ..⟩
  · exact ⟨_, (exec_slotAppend_accepts hw ht hl).trans (congrArg _ (jnlAccept_deferred hd)), slotRespond_said ..⟩
  · exact ⟨_, (exec_slotAppend_accepts hw ht hl).trans (congrArg _ (jnlAccept_full hd hq)), slotRespond_said ..⟩
  · exact ⟨_, (exec_slotAppend_accepts hw ht hl).trans (congrArg _ (jnlAccept_queued hd hq)), rfl, rfl⟩
  · exact ⟨_, exec_slotFind_badType hw ht, slotRespond_said ..⟩
  · exact ⟨_, exec_slotFind_missing hw ht hr, slotRespond_said ..⟩
  · refine ⟨_, exec_slotFind_found hw ht hr, tabGet_slotRespond_self .., fun i hi => tabGet_slotRespond_ne hi .., ?_⟩
    rw [ownerWrite_lesson_frame (s := s) rfl]
    rfl
  · exact ⟨_, (exec_slotCompact_some hw).trans (by rw [compactOrder_idle hi]), slotRespond_said ..⟩
  · obtain ⟨hc, hd⟩ := hwants
    exact ⟨_, exec_slotCompact_some hw, tabGet_slotRespond_self .., slotCompact_wants hc hd⟩

end Sys2Proof.Machine
end


section
/-! SUPPORT for self-tests and resets: what the crossbar and the repair map may change (R262 to R264, R480, R481). -/
namespace Sys2Proof.Machine

variable {s t u : State}

/-- From `s` to `t` spares have moved: registers, channels, reports to the collector and the repair map's list may differ. -/
def SparesMove (s t : State) : Prop :=
  ∃ r c i m, t = { s with regs := r, chans := c, flt := { s.flt with inflight := i }, mapTdc := m }

theorem SparesMove.refl (s : State) : SparesMove s s := ⟨_, _, _, _, rfl⟩

theorem SparesMove.trans (h : SparesMove s t) (h' : SparesMove t u) : SparesMove s u := by
  obtain ⟨_, _, _, _, rfl⟩ := h
  obtain ⟨r, c, i, m, rfl⟩ := h'
  exact ⟨r, c, i, m, rfl⟩

theorem SparesMove.wrs (s : State) (l : List (Fld × Nat)) : SparesMove s (s.wrs l) := by
  obtain ⟨r, hr⟩ := s.wrs_frame l
  exact ⟨r, _, _, _, hr⟩

theorem SparesMove.raise (s : State) (ev inst info : Nat) : SparesMove s (s.raise ev inst info) := ⟨_, _, _, _, rfl⟩

theorem spareIdle_moves (k : Nat) (s : State) : SparesMove s (spareIdle k s) := .wrs s _

theorem spareConnect_moves (k c : Nat) (s : State) : SparesMove s (spareConnect k c s) := .wrs s _

theorem spareServes_moves (k c : Nat) (d : Int) (s : State) : SparesMove s (spareServes k c d s) := by
  obtain ⟨r, x, hserves⟩ := spareServes_frame k c d s
  exact ⟨r, x, _, _, hserves⟩

theorem spareReturns_moves (k : Nat) (s : State) : SparesMove s (spareReturns k s) :=
  (SparesMove.trans (.wrs s [(Reg.TDC_CAL_STATUS_REPLACED (s.spareRole k), 0)]) (spareIdle_moves k _)).trans (.raise _ 33 _ 0)

theorem mapTakes_moves (s : State) : SparesMove s (mapTakes s) := by
  unfold mapTakes
  refine List.foldlRecOn _ _ (.refl s) fun t ht e _ => ht.trans ?_
  have herase : SparesMove t { t with mapTdc := t.mapTdc.erase e } := ⟨_, _, _, _, rfl⟩
  dsimp only
  split
  · exact herase.trans (.wrs _ [(Reg.TST_REPAIR_STATUS_MAP_SKIP, maskSet (t.rd Reg.TST_REPAIR_STATUS_MAP_SKIP) e.1)])
  · split
    · exact (herase.trans (spareConnect_moves ..)).trans (spareServes_moves ..)
    · exact .refl t

/-- From `s` to `t` no self-test has ended. -/
def BistStands (s t : State) : Prop := t.bist = s.bist

theorem SparesMove.bist (h : SparesMove s t) : BistStands s t := by
  obtain ⟨_, _, _, _, rfl⟩ := h
  exact rfl

theorem BistStands.trans (h : BistStands s t) (h' : BistStands t u) : BistStands s u := Eq.trans h' h

theorem saveTdc_bist (fail : Bool) (s : State) : BistStands s (saveTdc fail s) := by
  unfold saveTdc repairSave BistStands
  dsimp only
  split
  · split
    · rfl
    · split <;> rfl
  · rfl

theorem chanFault_bist (k : Nat) (s : State) : BistStands s (chanFault k s) := by
  obtain ⟨x, f, h⟩ := chanFault_frame k s
  rw [BistStands, h]

theorem autoTake_bist (k c : Nat) (s : State) : BistStands s (autoTake k c s) := by
  have htaken : BistStands s (spareServes k c 0 (spareConnect k c s.takeFree.2)) :=
    ((spareConnect_moves k c s.takeFree.2).trans (spareServes_moves k c 0 _)).bist
  unfold autoTake
  dsimp only
  split
  · exact htaken.trans (saveTdc_bist ..)
  · exact htaken

theorem roleLost_bist (ch c : Nat) (s : State) : BistStands s (roleLost ch c s) := by
  unfold roleLost
  dsimp only
  split
  · split
    · exact autoTake_bist ..
    · rfl
  · split
    · exact (spareIdle_moves ..).bist.trans (autoTake_bist ..)
    · split
      · exact (spareReturns_moves ..).bist
      · rfl

theorem chanFails_bist (ch : Nat) (s : State) : BistStands s (chanFails ch s) := by
  unfold chanFails
  split
  · split
    · split
      · exact (spareIdle_moves ..).bist
      · rfl
    · split
      · exact (spareServes_moves ..).bist
      · rfl
  · split
    · exact roleLost_bist ..
    · rfl

theorem calFail_bist (ch : Nat) (s : State) : BistStands s (calFail ch s) :=
  Eq.trans (chanFault_bist ch _) rfl

/-- A measurement whose hits say that a tap is too wide has failed. -/
def State.hitsWide (s : State) (hits : List Nat) : Bool := hits.any (fun x => decide (4 * s.calHits < 512 * x))

theorem calDone_wide {ch : Nat} {hits : List Nat} (h : s.hitsWide hits = true) :
    calDone ch hits s = mapTakes (chanFails ch (calFail ch s)) := if_pos h

theorem calDone_good {ch : Nat} {hits : List Nat} (h : s.hitsWide hits = false) :
    calDone ch hits s = mapTakes (chanFault ch (tableTaken ch hits s)) :=
  if_neg (by rw [State.hitsWide] at h; rw [h]; exact Bool.false_ne_true)

theorem calDone_bist (ch : Nat) (hits : List Nat) (s : State) : BistStands s (calDone ch hits s) := by
  cases h : s.hitsWide hits with
  | true =>
    rw [calDone_wide h]
    exact ((calFail_bist ch s).trans (chanFails_bist ch _)).trans (mapTakes_moves _).bist
  | false =>
    rw [calDone_good h]
    obtain ⟨r, c, f, hframe⟩ := chanFault_tableTaken_frame ch hits s
    exact BistStands.trans (t := chanFault ch (tableTaken ch hits s)) (by rw [BistStands, hframe]) (mapTakes_moves _).bist

/-- What a measurement that ends shows: a table in use, or a failure. -/
theorem calDone_shows (ch : Nat) (hits : List Nat) (s : State) :
    (calDone ch hits s).rd (Reg.TDC_CAL_STATUS_TABLE_VALID ch) = (if s.hitsWide hits then 0 else 1) ∧
    (calDone ch hits s).rd (Reg.TDC_CAL_STATUS_CAL_FAIL ch) = (if s.hitsWide hits then 1 else 0) := by
  cases h : s.hitsWide hits with
  | true =>
    rw [calDone_wide h]
    obtain ⟨-, hvalid, hfail, -⟩ := ((calFail_dropsTable ch s).trans_keeps (chanFails_chanKeeps ch _)).trans_keeps (mapTakes_chanKeeps _)
    exact ⟨hvalid, hfail⟩
  | false =>
    rw [calDone_good h]
    obtain ⟨-, hvalid, hfail, -⟩ := tableTaken_fields ch hits s
    have hkeeps := (chanFault_chanKeeps (ch := ch) ch (tableTaken ch hits s)).trans (mapTakes_chanKeeps _)
    exact ⟨(hkeeps.fields _ (by simp [calFields])).trans hvalid, (hkeeps.fields _ (by simp [calFields])).trans hfail⟩

end Sys2Proof.Machine
end

section
/-! PROOFS. Self-tests and the saves of the repair map (R474, R475, R477 to R480): O50. -/
namespace Sys2Proof.Machine

variable {s t u : State}

/-! ### The end of a test (R474) -/

/-- The self-test has ended with RESULT `r`. -/
def BistDone (r : Nat) (t : State) : Prop :=
  t.rd Reg.TST_BIST_STATUS_RESULT = r ∧ t.rd Reg.TST_BIST_STATUS_BUSY = 0 ∧ t.rd Reg.TST_BIST_CMD_GO = 0 ∧ t.bist = none

/-- The end of the test that runs shows its result and its detail, changes its record alone. -/
theorem bistEnd_done {r : Nat} (h : s.bist ≠ none) (hr : r < 16) (d : Nat) : let t := bistEnd r d s
    BistDone r t ∧ t.rd Reg.TST_BIST_STATUS_DETAIL = d % 2 ^ Reg.TST_BIST_STATUS_DETAIL.width ∧ s.regsBut bistRegs t ∧
      t = { s with regs := t.regs, bist := t.bist } := by
  have hrun : bistEnd r d s = { s with bist := none }.wrs [(Reg.TST_BIST_STATUS_RESULT, r), (Reg.TST_BIST_STATUS_DETAIL, d),
      (Reg.TST_BIST_STATUS_BUSY, 0), (Reg.TST_BIST_CMD_GO, 0)] := if_neg (by simpa using h)
  obtain ⟨⟨g, b, hframe⟩, hregs⟩ := bistEnd_frame r d s
  refine ⟨?_, ?_, hregs, by rw [hframe]⟩
  · rw [hrun]
    exact ⟨State.wrs_shows _ (by simp) (by simp) (by simpa using hr), State.wrs_shows _ (by simp) (by simp) (by decide),
      State.wrs_shows _ (by simp) (by simp) (by decide), rfl⟩
  · rw [hrun]
    exact State.rd_wrs_mem _ (by simp) (by simp)

/-! ### GO (R474) -/

theorem exec_bistGo (h : s.hostOpen Reg.TST_BIST_CMD_GO.addr) (ht : doBistGo s = .next t) : exec .bistGo s = .next t :=
  hostCmd_plain _ doBistGo s t h (by decide) (by decide) ht

theorem doBistGo_busy (h : s.bist.isSome = true) : doBistGo s = .next s := by
  unfold doBistGo
  exact congrArg _ (if_pos h)

theorem doBistGo_refused (h : s.bist = none) (hno : s.testAllowed (s.rd Reg.TST_BIST_CMD_TARGET) (s.rd Reg.TST_BIST_CMD_INDEX) = false) :
    doBistGo s = .next (s.wrs [(Reg.TST_BIST_STATUS_RESULT, 3), (Reg.TST_BIST_CMD_GO, 0)]) := by
  unfold doBistGo
  dsimp only
  rw [if_neg (by simp [h]), if_pos (by rw [hno]; rfl)]

/-- GO shows, and BUSY with it. -/
def bistGone (s : State) : State := s.wrs [(Reg.TST_BIST_CMD_GO, 1), (Reg.TST_BIST_STATUS_BUSY, 1)]

/-- The state once GO begins the test of unit `i` of target `n`. -/
def bistBegun (n i : Nat) (s : State) : State := { testBegins n i (bistGone s) with bist := some (n, i) }

theorem exec_bistGo_begins (ho : s.hostOpen Reg.TST_BIST_CMD_GO.addr) (h : s.bist = none)
    (hok : s.testAllowed (s.rd Reg.TST_BIST_CMD_TARGET) (s.rd Reg.TST_BIST_CMD_INDEX) = true) {n : Nat}
    (hn : s.rd Reg.TST_BIST_CMD_TARGET = n) : exec .bistGo s = .next (bistBegun n (s.rd Reg.TST_BIST_CMD_INDEX) s) := by
  refine exec_bistGo ho ?_
  unfold doBistGo bistBegun bistGone
  dsimp only
  rw [if_neg (by simp [h]), if_neg (by rw [hok]; decide), hn]

/-- What the begin of every test leaves, whose unit writes the registers `l`. -/
theorem bistGone_shows {l : List (Fld × Nat)} (hl : ∀ p ∈ l, p.1.key ≠ Reg.TST_BIST_CMD_GO.key ∧ p.1.key ≠ Reg.TST_BIST_STATUS_BUSY.key)
    (ht : t.regs = ((bistGone s).wrs l).regs) : t.rd Reg.TST_BIST_CMD_GO = 1 ∧ t.rd Reg.TST_BIST_STATUS_BUSY = 1 ∧
      s.regsBut ([Reg.TST_BIST_CMD_GO, Reg.TST_BIST_STATUS_BUSY] ++ l.map Prod.fst) t := by
  refine ⟨?_, ?_, State.regsBut.same (((s.regsBut_wrs (l := [Reg.TST_BIST_CMD_GO, Reg.TST_BIST_STATUS_BUSY] ++ l.map Prod.fst)
    [(Reg.TST_BIST_CMD_GO, 1), (Reg.TST_BIST_STATUS_BUSY, 1)] (by simp))).wrs l fun p hp => ?_) ht⟩
  · rw [State.rd_congr ht, State.rd_wrs_ne _ l fun p hp => (hl p hp).1]
    exact s.wrs_shows (by simp) (by simp) (by decide)
  · rw [State.rd_congr ht, State.rd_wrs_ne _ l fun p hp => (hl p hp).2]
    exact s.wrs_shows (by simp) (by simp) (by decide)
  · exact List.mem_append_right _ (List.mem_map_of_mem hp)

theorem bistBegun_engine (i : Nat) (s : State) : let t := bistBegun 1 i s
    t.rd Reg.TST_BIST_CMD_GO = 1 ∧ t.rd Reg.TST_BIST_STATUS_BUSY = 1 ∧ t.bist = some (1, i) ∧
      s.regsBut [Reg.TST_BIST_CMD_GO, Reg.TST_BIST_STATUS_BUSY] t ∧ t = { s with regs := t.regs, bist := t.bist } := by
  obtain ⟨hgo, hbusy, hregs⟩ := bistGone_shows (s := s) (t := bistBegun 1 i s) (l := []) (by simp) rfl
  exact ⟨hgo, hbusy, rfl, hregs, rfl⟩

theorem bistBegun_tdc (i : Nat) (s : State) : let t := bistBegun 2 i s
    t.rd Reg.TST_BIST_CMD_GO = 1 ∧ t.rd Reg.TST_BIST_STATUS_BUSY = 1 ∧ t.rd (Reg.TDC_CAL_STATUS_TABLE_VALID i) = 0 ∧
      t.rd (Reg.TDC_CAL_STATUS_CAL_BUSY i) = 1 ∧ t.bist = some (2, i) ∧
      s.regsBut [Reg.TST_BIST_CMD_GO, Reg.TST_BIST_STATUS_BUSY, Reg.TDC_CAL_STATUS_TABLE_VALID i, Reg.TDC_CAL_STATUS_CAL_BUSY i] t ∧
      t = { s with regs := t.regs, bist := t.bist } := by
  obtain ⟨hgo, hbusy, hregs⟩ := bistGone_shows (s := s) (t := bistBegun 2 i s)
    (l := [(Reg.TDC_CAL_STATUS_CAL_BUSY i, 1), (Reg.TDC_CAL_STATUS_TABLE_VALID i, 0)]) (by simp; omega) rfl
  refine ⟨hgo, hbusy, ?_, ?_, rfl, hregs.mono (by simp), rfl⟩
  · exact State.wrs_shows (bistGone s) (by simp) (by simp) (by simp)
  · exact State.wrs_shows (bistGone s) (by simp) (by simp) (by simp)

theorem bistBegun_spare (i : Nat) (s : State) : let t := bistBegun 3 i s
    t.rd Reg.TST_BIST_CMD_GO = 1 ∧ t.rd Reg.TST_BIST_STATUS_BUSY = 1 ∧ t.rd (Reg.APLL_STATUS_LOCK 8) = 0 ∧
      t.rd (Reg.APLL_STATUS_STATE 8) = 0 ∧ t.bist = some (3, i) ∧ t.apll 8 = { s.apll 8 with mirror := none } ∧
      (∀ k, k ≠ 8 → t.apll k = s.apll k) ∧
      s.regsBut [Reg.TST_BIST_CMD_GO, Reg.TST_BIST_STATUS_BUSY, Reg.APLL_STATUS_LOCK 8, Reg.APLL_STATUS_STATE 8] t ∧
      t = { s with regs := t.regs, bist := t.bist, aplls := t.aplls } := by
  obtain ⟨hgo, hbusy, hregs⟩ := bistGone_shows (s := s) (t := bistBegun 3 i s)
    (l := [(Reg.APLL_STATUS_LOCK 8, 0), (Reg.APLL_STATUS_STATE 8, 0)]) (by simp) rfl
  refine ⟨hgo, hbusy, ?_, ?_, rfl, (bistGone s).apll_put_self 8 _, fun k hk => (bistGone s).apll_put_ne (Ne.symm hk) _, hregs, rfl⟩
  · exact State.wrs_shows ((bistGone s).putApll 8 { (bistGone s).apll 8 with mirror := none }) (by simp) (by simp) (by decide)
  · exact State.wrs_shows ((bistGone s).putApll 8 { (bistGone s).apll 8 with mirror := none }) (by simp) (by simp) (by decide)

theorem bistBegun_dram (i : Nat) (s : State) : let t := bistBegun 4 i s
    t.rd Reg.TST_BIST_CMD_GO = 1 ∧ t.rd Reg.TST_BIST_STATUS_BUSY = 1 ∧ t.rd Reg.EVR_STATUS_READY = 0 ∧ t.bist = some (4, i) ∧
      s.regsBut [Reg.TST_BIST_CMD_GO, Reg.TST_BIST_STATUS_BUSY, Reg.EVR_STATUS_READY] t ∧ t = { s with regs := t.regs, bist := t.bist } := by
  obtain ⟨hgo, hbusy, hregs⟩ := bistGone_shows (s := s) (t := bistBegun 4 i s) (l := [(Reg.EVR_STATUS_READY, 0)]) (by simp) rfl
  exact ⟨hgo, hbusy, (bistGone s).rd_wr_self Reg.EVR_STATUS_READY 0, rfl, hregs, rfl⟩

/-! ### Engines (R475) -/

/-- A memory that lists every word as zero reads as zero. -/
theorem tabGet_const {α : Type} (d z : α) (k : Nat) {l : List Nat} (h : k ∈ l) : tabGet d k (l.map (fun i => (i, z))) = z := by
  induction l with
  | nil => cases h
  | cons j l ih =>
    simp only [List.map_cons, tabGet]
    split
    · rfl
    next hj => exact ih ((List.mem_cons.mp h).resolve_left (Ne.symm hj))

theorem tabGet_zeroed {α : Type} [DecidableEq α] (d z : α) {n k : Nat} (h : k < n) : tabGet d k (zeroed d z n) = z := by
  unfold zeroed
  split
  next hz => rw [hz]; rfl
  · exact tabGet_const d z k (List.mem_range.mpr h)

/-- The memories of engine `e` are zeroed. -/
def memsZeroed (e : Nat) (s : State) : State :=
  s.putEngine e { s.engine e with imem := zeroed 0xFFFFFFFF 0 8192, dmem := zeroed 0 0 8192 }

theorem memsZeroed_zero (e : Nat) (s : State) : ∀ k < 8192,
    tabGet 0xFFFFFFFF k ((memsZeroed e s).engine e).imem = 0 ∧ tabGet 0 k ((memsZeroed e s).engine e).dmem = 0 := by
  intro k hk
  rw [memsZeroed, State.engine_put_self]
  dsimp only
  exact ⟨tabGet_zeroed _ _ hk, tabGet_zeroed _ _ hk⟩

theorem memsZeroed_others (e : Nat) (s : State) : ∀ k, k ≠ e → (memsZeroed e s).engine k = s.engine k :=
  fun _ hk => s.engine_put_ne (Ne.symm hk) _

theorem engine_congr (h : t.eng = s.eng) (k : Nat) : t.engine k = s.engine k := by
  unfold State.engine
  rw [h]

/-- The flags of uncorrectable words of engine `e` clear. -/
def uncCleared (e : Nat) (s : State) : State := s.wrs [(Reg.ENG_ECC_UNC_I e, 0), (Reg.ENG_ECC_UNC_D e, 0)]

theorem exec_bistComplete_engine {e : Nat} (h : s.bist = some (1, e)) (f : Option (BitVec 24)) :
    exec (.bistComplete (.engine f)) s = .next (engineTested e f s) := by
  change execBistComplete (.engine f) s = _
  simp only [execBistComplete, h]

theorem engineTested_pass {e : Nat} (h : s.bist = some (1, e)) : let t := engineTested e none s
    BistDone 1 t ∧ t.rd (Reg.ENG_ECC_UNC_I e) = 0 ∧ t.rd (Reg.ENG_ECC_UNC_D e) = 0 ∧
      (∀ k < 8192, tabGet 0xFFFFFFFF k (t.engine e).imem = 0 ∧ tabGet 0 k (t.engine e).dmem = 0) ∧
      (∀ k, k ≠ e → t.engine k = s.engine k) ∧ s.regsBut ([Reg.ENG_ECC_UNC_I e, Reg.ENG_ECC_UNC_D e] ++ bistRegs) t ∧
      t = { s with regs := t.regs, eng := t.eng, bist := t.bist } := by
  have hrun : (uncCleared e (memsZeroed e s)).bist ≠ none := by
    change s.bist ≠ none
    simp [h]
  obtain ⟨hdone, -, hregs, hframe⟩ := bistEnd_done (r := 1) hrun (by decide) 0
  have heng : (engineTested e none s).eng = (memsZeroed e s).eng := by
    change (bistEnd 1 0 (uncCleared e (memsZeroed e s))).eng = _
    rw [hframe]
    rfl
  refine ⟨hdone, ?_, ?_, fun k hk => ?_, fun k hk => ?_, ?_, ?_⟩
  · exact (hregs _ (by simp [bistRegs]; omega)).trans (State.wrs_shows _ (by simp) (by simp) (by simp))
  · exact (hregs _ (by simp [bistRegs]; omega)).trans (State.wrs_shows _ (by simp) (by simp) (by simp))
  · rw [engine_congr heng]
    exact memsZeroed_zero e s k hk
  · rw [engine_congr heng]
    exact memsZeroed_others e s k hk
  · have hclear : s.regsBut ([Reg.ENG_ECC_UNC_I e, Reg.ENG_ECC_UNC_D e] ++ bistRegs) (uncCleared e (memsZeroed e s)) :=
      State.regsBut.wrs (t := memsZeroed e s) (State.regsBut_of_regs_eq rfl _) _ (by simp)
    exact hclear.trans (hregs.mono (by simp))
  · rw [heng]
    exact hframe

theorem engineTested_fail {e : Nat} (h : s.bist = some (1, e)) (d : BitVec 24) : let t := engineTested e (some d) s
    BistDone 2 t ∧ t.rd Reg.TST_BIST_STATUS_DETAIL = d.toNat % 2 ^ Reg.TST_BIST_STATUS_DETAIL.width ∧ s.regsBut bistRegs t ∧
      (∀ k, k ≠ e → t.engine k = s.engine k) ∧ t = { s with regs := t.regs, eng := t.eng, bist := t.bist } := by
  have hrun : (memsZeroed e s).bist ≠ none := by
    change s.bist ≠ none
    simp [h]
  obtain ⟨hdone, hdetail, hregs, hframe⟩ := bistEnd_done (r := 2) hrun (by decide) d.toNat
  have heng : (engineTested e (some d) s).eng = (memsZeroed e s).eng := by
    change (bistEnd 2 d.toNat (memsZeroed e s)).eng = _
    rw [hframe]
  refine ⟨hdone, hdetail, State.regsBut.trans (State.regsBut_of_regs_eq rfl _) hregs, fun k hk => ?_, ?_⟩
  · rw [engine_congr heng]
    exact memsZeroed_others e s k hk
  · rw [heng]
    exact hframe

/-! ### Channels of the TDC (R479) -/

/-- The pairs of edges show a mean or a deviation out of bounds. -/
def pairsBad (mean sd : Int) : Prop := 5 * 65536 < (mean - 524288).natAbs * 1000 ∨ 25 * 65536 < sd * 10000

/-- The mean as DETAIL shows it. -/
def meanDetail (mean : Int) : Nat := (max 0 (min (2 ^ 24 - 1) (roundDiv mean 64))).toNat

theorem meanDetail_lt (mean : Int) : meanDetail mean < 2 ^ Reg.TST_BIST_STATUS_DETAIL.width := by
  change meanDetail mean < 2 ^ 24
  unfold meanDetail
  omega

theorem exec_bistComplete_tdc {e : Nat} (h : s.bist = some (2, e)) (hits : List Nat) (mean sd : Int) :
    exec (.bistComplete (.tdc hits mean sd)) s = .next (tdcTested e hits mean sd s) := by
  change execBistComplete (.tdc hits mean sd) s = _
  simp only [execBistComplete, h]

/-- The failure of channel `e` under test is shown. -/
def chanTestFailed (e : Nat) (s : State) : State := chanFault e (s.wrs [(Reg.TDC_CAL_STATUS_CAL_BUSY e, 0),
  (Reg.TDC_CAL_STATUS_TABLE_VALID e, 0), (Reg.TDC_CAL_STATUS_CAL_FAIL e, 1)])

theorem tdcTested_pass {e : Nat} {hits : List Nat} {mean sd : Int} (hw : s.hitsWide hits = false) (hp : ¬pairsBad mean sd) :
    tdcTested e hits mean sd s = bistEnd 1 (meanDetail mean) (calDone e hits s) := by
  have hvalid := (calDone_shows e hits s).1
  simp only [hw, Bool.false_eq_true, if_false] at hvalid
  unfold pairsBad at hp
  exact if_pos ⟨by simp [State.bit, hvalid], by omega, by omega⟩

theorem tdcTested_fail {e : Nat} {hits : List Nat} {mean sd : Int} (h : s.hitsWide hits = true ∨ pairsBad mean sd) :
    tdcTested e hits mean sd s = bistEnd 2 (meanDetail mean) (chanTestFailed e (calDone e hits s)) := by
  refine if_neg fun hpass => ?_
  obtain ⟨hvalid, hmean, hsd⟩ := hpass
  rcases h with hw | hp
  · have hshown := (calDone_shows e hits s).1
    simp only [hw, if_true] at hshown
    simp [State.bit, hshown] at hvalid
  · unfold pairsBad at hp
    omega

theorem tdcTested_verdict {e : Nat} (h : s.bist = some (2, e)) (hits : List Nat) (mean sd : Int) :
    let t := tdcTested e hits mean sd s
    let bad := s.hitsWide hits = true ∨ pairsBad mean sd
    t.rd Reg.TST_BIST_STATUS_BUSY = 0 ∧ t.rd Reg.TST_BIST_CMD_GO = 0 ∧ t.bist = none ∧
      t.rd Reg.TST_BIST_STATUS_DETAIL = meanDetail mean ∧
      (bad → t.rd Reg.TST_BIST_STATUS_RESULT = 2 ∧ t.rd (Reg.TDC_CAL_STATUS_TABLE_VALID e) = 0 ∧
        t.rd (Reg.TDC_CAL_STATUS_CAL_FAIL e) = 1) ∧
      (¬bad → t.rd Reg.TST_BIST_STATUS_RESULT = 1 ∧ t.rd (Reg.TDC_CAL_STATUS_TABLE_VALID e) = 1 ∧
        t.rd (Reg.TDC_CAL_STATUS_CAL_FAIL e) = 0) := by
  have hrun : (calDone e hits s).bist = some (2, e) := Eq.trans (calDone_bist e hits s) h
  have hvalidKey : ∀ g ∈ bistRegs, g.key ≠ (Reg.TDC_CAL_STATUS_TABLE_VALID e).key := by simp [bistRegs]; omega
  have hfailKey : ∀ g ∈ bistRegs, g.key ≠ (Reg.TDC_CAL_STATUS_CAL_FAIL e).key := by simp [bistRegs]; omega
  by_cases hbad : s.hitsWide hits = true ∨ pairsBad mean sd
  · have hfail := chanFault_bist e ((calDone e hits s).wrs [(Reg.TDC_CAL_STATUS_CAL_BUSY e, 0),
      (Reg.TDC_CAL_STATUS_TABLE_VALID e, 0), (Reg.TDC_CAL_STATUS_CAL_FAIL e, 1)])
    have hrun' : (chanTestFailed e (calDone e hits s)).bist ≠ none := by
      rw [chanTestFailed, hfail]
      simp [hrun]
    obtain ⟨⟨hresult, hbusy, hgo, hnone⟩, hdetail, hregs, -⟩ := bistEnd_done (r := 2) hrun' (by decide) (meanDetail mean)
    rw [← tdcTested_fail hbad] at hresult hbusy hgo hnone hdetail hregs
    refine ⟨hbusy, hgo, hnone, hdetail.trans (Nat.mod_eq_of_lt (meanDetail_lt mean)), fun _ => ⟨hresult, ?_, ?_⟩, fun hgood => absurd hbad hgood⟩
    · rw [hregs _ hvalidKey, chanTestFailed, chanFault_rd]
      exact State.wrs_shows _ (by simp) (by simp) (by simp)
    · rw [hregs _ hfailKey, chanTestFailed, chanFault_rd]
      exact State.wrs_shows _ (by simp) (by simp) (by simp)
  · obtain ⟨hwide, hpairs⟩ := not_or.mp hbad
    have hwide : s.hitsWide hits = false := Bool.not_eq_true _ ▸ hwide
    obtain ⟨⟨hresult, hbusy, hgo, hnone⟩, hdetail, hregs, -⟩ := bistEnd_done (r := 1) (by simp [hrun] : (calDone e hits s).bist ≠ none)
      (by decide) (meanDetail mean)
    rw [← tdcTested_pass hwide hpairs] at hresult hbusy hgo hnone hdetail hregs
    obtain ⟨hvalid, hfail⟩ := calDone_shows e hits s
    simp only [hwide, Bool.false_eq_true, if_false] at hvalid hfail
    exact ⟨hbusy, hgo, hnone, hdetail.trans (Nat.mod_eq_of_lt (meanDetail_lt mean)), fun h => absurd h hbad,
      fun _ => ⟨hresult, (hregs _ hvalidKey).trans hvalid, (hregs _ hfailKey).trans hfail⟩⟩

/-! ### The warm spare A8 (R477) -/

theorem exec_bistComplete_apll {e : Nat} (h : s.bist = some (3, e)) (b : Option (Fin 48)) :
    exec (.bistComplete (.apll b)) s = .next (spareTested b s) := by
  change execBistComplete (.apll b) s = _
  simp only [execBistComplete, h]

theorem spareTested_pass {e : Nat} (h : s.bist = some (3, e)) : BistDone 1 (spareTested none s) := by
  obtain ⟨⟨hresult, hbusy, hgo, hnone⟩, -⟩ := bistEnd_done (r := 1) (by simp [h] : s.bist ≠ none) (by decide) 0
  obtain ⟨⟨r, a, f, m, hframe⟩, hregs, -⟩ := (coverNow_works (bistEnd 1 0 s)).toSpareMoves
  refine ⟨(hregs _ (by simp [spareRegs])).trans hresult, (hregs _ (by simp [spareRegs])).trans hbusy,
    (hregs _ (by simp [spareRegs])).trans hgo, ?_⟩
  change (coverNow (bistEnd 1 0 s)).bist = none
  rw [hframe]
  exact hnone

theorem spareTested_fail {e : Nat} (h : s.bist = some (3, e)) (b : Fin 48) : let t := spareTested (some b) s
    BistDone 2 t ∧ t.rd Reg.TST_BIST_STATUS_DETAIL = b.val ∧ s.regsBut bistRegs t ∧ t = { s with regs := t.regs, bist := t.bist } := by
  obtain ⟨hdone, hdetail, hregs, hframe⟩ := bistEnd_done (r := 2) (by simp [h] : s.bist ≠ none) (by decide) b.val
  have hb : b.val < 2 ^ 24 := by omega
  exact ⟨hdone, hdetail.trans (Nat.mod_eq_of_lt hb), hregs, hframe⟩

/-! ### The DRAM (R478) -/

theorem exec_bistComplete_dram {e : Nat} (h : s.bist = some (4, e)) (rows : List (BitVec 17)) :
    exec (.bistComplete (.dram rows)) s = .next (dramTested (rows.map (·.toNat)) s) := by
  change execBistComplete (.dram rows) s = _
  simp only [execBistComplete, h]

/-- Rows that take spares one after another join the rows replaced. -/
theorem replaceRows_spec (l : List Nat) (s : State) : let t := l.foldl (fun s r => replaceRow r s) s
    t.dram.replaced = s.dram.replaced ++ l ∧ ∃ y j c, t = { s with dram := y, jnl := j, commons := c } := by
  induction l generalizing s with
  | nil => exact ⟨(List.append_nil _).symm, _, _, _, rfl⟩
  | cons r l ih =>
    obtain ⟨hrows, y, j, c, hframe⟩ := ih (replaceRow r s)
    obtain ⟨y', j', c', hrow⟩ := replaceRow_frame r s
    refine ⟨?_, y, j, c, ?_⟩
    · rw [List.foldl_cons, hrows, replaceRow_dram]
      simp
    · rw [List.foldl_cons, hframe, hrow]

/-- The DRAM is zeroed, and READY shows. -/
def dramCleared (s : State) : State := (zeroDram s).wr Reg.EVR_STATUS_READY 1

/-- The failing rows that take spares, where `n` are left. -/
def rowsSpared (rows : List Nat) (n : Nat) (s : State) : State := (rows.take n).foldl (fun s r => replaceRow r s) s

theorem dramTested_eq (rows : List Nat) (s : State) : let left := Config.dramSparesLeft - s.dram.replaced.length
    dramTested rows s = match rows.drop left with
      | r :: _ => bistEnd 2 (0x800000 + r) (dramCleared (rowsSpared rows left s))
      | [] => if rows.isEmpty then bistEnd 1 0 (dramCleared (rowsSpared rows left s))
        else bistEnd 5 rows.length (dramCleared (rowsSpared rows left s)) := rfl

/-- The end of the DRAM test over a state whose rows took spares. -/
theorem dramEnds {e : Nat} (h : s.bist = some (4, e)) {r : Nat} (hr : r < 16) (d : Nat) (rows : List Nat) (n : Nat) :
    let t := bistEnd r d (dramCleared (rowsSpared rows n s))
    BistDone r t ∧ t.rd Reg.TST_BIST_STATUS_DETAIL = d % 2 ^ Reg.TST_BIST_STATUS_DETAIL.width ∧ t.rd Reg.EVR_STATUS_READY = 1 ∧
      (∀ k, t.dramWord k = 0) ∧ t.dram.replaced = s.dram.replaced ++ rows.take n ∧
      s.regsBut (Reg.EVR_STATUS_READY :: bistRegs) t := by
  obtain ⟨hrows, y, j, c, hspared⟩ := replaceRows_spec (rows.take n) s
  rw [← rowsSpared] at hrows hspared
  have hrun : (dramCleared (rowsSpared rows n s)).bist ≠ none := by
    change (rowsSpared rows n s).bist ≠ none
    rw [hspared]
    simp [h]
  obtain ⟨hdone, hdetail, hregs, hframe⟩ := bistEnd_done hrun hr d
  have hdram : (bistEnd r d (dramCleared (rowsSpared rows n s))).dram = (dramCleared (rowsSpared rows n s)).dram := by
    rw [hframe]
  refine ⟨hdone, hdetail, ?_, fun k => ?_, ?_, ?_⟩
  · exact (hregs _ (by simp [bistRegs])).trans (State.rd_wr_self _ Reg.EVR_STATUS_READY 1)
  · unfold State.dramWord
    rw [hdram]
    rfl
  · rw [hdram]
    exact hrows
  · have hready : (rowsSpared rows n s).regsBut (Reg.EVR_STATUS_READY :: bistRegs) (dramCleared (rowsSpared rows n s)) :=
      State.regsBut.wr (t := zeroDram (rowsSpared rows n s)) (State.regsBut_of_regs_eq rfl _) List.mem_cons_self 1
    have hkept : s.regsBut (Reg.EVR_STATUS_READY :: bistRegs) (rowsSpared rows n s) := State.regsBut_of_regs_eq (by rw [hspared]) _
    exact (hkept.trans hready).trans (hregs.mono (by simp))

theorem dramTested_pass {e : Nat} (h : s.bist = some (4, e)) : let t := dramTested [] s
    BistDone 1 t ∧ t.rd Reg.EVR_STATUS_READY = 1 ∧ (∀ k, t.dramWord k = 0) ∧ t.dram.replaced = s.dram.replaced ∧
      s.regsBut (Reg.EVR_STATUS_READY :: bistRegs) t ∧ t = { s with regs := t.regs, dram := t.dram, bist := t.bist } := by
  obtain ⟨hdone, -, hready, hzero, hrows, hregs⟩ := dramEnds h (r := 1) (by decide) 0 [] 0
  obtain ⟨-, -, -, hframe⟩ := bistEnd_done (s := dramCleared s) (r := 1) (by simp [dramCleared, zeroDram, h]) (by decide) 0
  have heq : dramTested [] s = bistEnd 1 0 (dramCleared s) := by rw [dramTested_eq]; simp [rowsSpared]
  have hspared : rowsSpared [] 0 s = s := rfl
  rw [hspared, ← heq] at hdone hready hzero hrows hregs
  refine ⟨hdone, hready, hzero, hrows.trans (List.append_nil _), hregs, ?_⟩
  have hdram : (bistEnd 1 0 (dramCleared s)).dram = (dramCleared s).dram := by rw [hframe]
  rw [heq, hdram]
  exact hframe

theorem dramTested_fails {e : Nat} (h : s.bist = some (4, e)) {rows : List (BitVec 17)} (hne : rows ≠ []) :
    let left := Config.dramSparesLeft - s.dram.replaced.length
    let t := dramTested (rows.map (·.toNat)) s
    (rows.length ≤ left → BistDone 5 t ∧ t.rd Reg.TST_BIST_STATUS_DETAIL = rows.length % 2 ^ Reg.TST_BIST_STATUS_DETAIL.width) ∧
      (left < rows.length → BistDone 2 t ∧ t.rd Reg.TST_BIST_STATUS_DETAIL = 0x800000 + (rows.getD left 0).toNat) ∧
      t.rd Reg.EVR_STATUS_READY = 1 ∧ (∀ k, t.dramWord k = 0) ∧
      t.dram.replaced = s.dram.replaced ++ (rows.take left).map (·.toNat) := by
  intro left
  have heq := dramTested_eq (rows.map (·.toNat)) s
  rcases Nat.lt_or_ge left rows.length with hlt | hge
  · have hrow : 0x800000 + (rows[left]).toNat < 2 ^ 24 := by have := (rows[left]).isLt; omega
    obtain ⟨hdone, hdetail, hready, hzero, hrows, -⟩ :=
      dramEnds h (r := 2) (by decide) (0x800000 + (rows[left]).toNat) (rows.map (·.toNat)) left
    have hdrop : (rows.map (·.toNat)).drop left = (rows[left]).toNat :: (rows.map (·.toNat)).drop (left + 1) := by
      rw [List.drop_eq_getElem_cons (by simpa using hlt), List.getElem_map]
    simp only [left] at hdrop
    simp only [hdrop] at heq
    rw [heq]
    refine ⟨fun hle => by omega, fun _ => ⟨hdone, ?_⟩, hready, hzero, by rw [hrows, List.map_take]⟩
    rw [hdetail, List.getD_eq_getElem _ _ hlt]
    exact Nat.mod_eq_of_lt hrow
  · obtain ⟨hdone, hdetail, hready, hzero, hrows, -⟩ := dramEnds h (r := 5) (by decide) rows.length (rows.map (·.toNat)) left
    have hdrop : (rows.map (·.toNat)).drop left = [] := List.drop_eq_nil_of_le (by simpa using hge)
    have hlist : (rows.map (·.toNat)).isEmpty = false := by cases rows <;> simp_all
    simp only [left] at hdrop
    simp only [hdrop, hlist, Bool.false_eq_true, if_false, List.length_map] at heq
    rw [heq]
    exact ⟨fun _ => ⟨hdone, hdetail⟩, fun hlt => by omega, hready, hzero, by rw [hrows, List.map_take]⟩

/-! ### Outcomes of another unit (R474) -/

theorem exec_bistComplete_other {x : BistOut} {n : Nat}
    (hx : n = match x with | .engine _ => 1 | .tdc .. => 2 | .apll _ => 3 | .dram _ => 4) (h : s.bist.map Prod.fst ≠ some n) :
    exec (.bistComplete x) s = .next s := by
  change execBistComplete x s = _
  unfold execBistComplete
  split <;> simp_all

/-! ### Saves of the repair map (R480) -/

theorem exec_saveTdc {fail : Bool} (h : s.hostOpen Reg.TST_REPAIR_CMD_SAVE_TDC.addr) :
    exec (.saveTdc fail) s = .next ((saveTdc fail s).wr Reg.TST_REPAIR_CMD_SAVE_TDC 0) :=
  hostCmd_plain _ (doSaveTdc fail) s _ h (by decide) (by decide) rfl

theorem exec_saveApll {fail : Bool} (h : s.hostOpen Reg.TST_REPAIR_CMD_SAVE_TDC.addr) (ht : doSaveApll fail s = .next t) :
    exec (.saveApll fail) s = .next t :=
  hostCmd_plain _ (doSaveApll fail) s t h (by decide) (by decide) ht

theorem repairSave_deferred {key : Nat} {data : List Byte} {fail : Bool} (h : s.deferring = true) :
    repairSave key data fail s = s.wr Reg.TST_REPAIR_CMD_RESULT 2 := if_pos h

theorem repairSave_fails {key : Nat} {data : List Byte} (h : s.deferring = false) :
    repairSave key data true s = (s.wr Reg.TST_REPAIR_CMD_RESULT 3).raise 12 noInst := by
  rw [repairSave, if_neg (by simp [h]), if_pos rfl]
  rfl

theorem repairSave_recorded {key : Nat} {data : List Byte} (h : s.deferring = false) :
    repairSave key data false s = (jnlPublish (jnlPut 0x14 key data s)).wr Reg.TST_REPAIR_CMD_RESULT 1 := by
  rw [repairSave, if_neg (by simp [h]), if_neg Bool.false_ne_true]
  rfl

/-- The roles of the spares as a record. -/
def State.tdcRecord (s : State) : List Byte := s.repairTdc.map (BitVec.ofNat 8)

theorem saveTdc_sound {fail : Bool} (h : repairTdcOk s.repairTdc = true) : saveTdc fail s = repairSave 0 s.tdcRecord fail s := if_pos h

theorem saveTdc_unsound {fail : Bool} (h : ¬repairTdcOk s.repairTdc = true) : saveTdc fail s = s.wr Reg.TST_REPAIR_CMD_RESULT 4 := if_neg h

/-- The commands that save the repair map. -/
def saveCmds : List Fld := [Reg.TST_REPAIR_CMD_SAVE_TDC, Reg.TST_REPAIR_CMD_SAVE_APLL]

theorem saveCmd_ne {cmd : Fld} (h : cmd ∈ saveCmds) : cmd.key ≠ Reg.TST_REPAIR_CMD_RESULT.key := by
  simp only [saveCmds, List.mem_cons, List.not_mem_nil, or_false] at h
  obtain rfl | rfl := h <;> simp

/-- A save that is refused shows why. -/
theorem saveRefused {cmd : Fld} (hcmd : cmd ∈ saveCmds) {r : Nat} (hr : r < 16) (ht : t = (s.wr Reg.TST_REPAIR_CMD_RESULT r).wr cmd 0 ∨
      t = (s.wr cmd 0).wr Reg.TST_REPAIR_CMD_RESULT r) :
    t.rd Reg.TST_REPAIR_CMD_RESULT = r ∧ t.rd cmd = 0 ∧ s.onlyRegs [Reg.TST_REPAIR_CMD_RESULT, cmd] t := by
  have hr : r % 2 ^ Reg.TST_REPAIR_CMD_RESULT.width = r := Nat.mod_eq_of_lt (by simpa using hr)
  have hne := saveCmd_ne hcmd
  obtain rfl | rfl := ht
  · refine ⟨?_, (State.rd_wr_self ..).trans (Nat.zero_mod _), s.onlyRegs_wrs [(Reg.TST_REPAIR_CMD_RESULT, r), (cmd, 0)] (by simp)⟩
    rw [State.rd_wr_ne _ hne, State.rd_wr_self, hr]
  · refine ⟨(State.rd_wr_self ..).trans hr, ?_, s.onlyRegs_wrs [(cmd, 0), (Reg.TST_REPAIR_CMD_RESULT, r)] (by simp)⟩
    rw [State.rd_wr_ne _ hne.symm, State.rd_wr_self, Nat.zero_mod]

/-- A save whose program fails reports it. -/
theorem saveFailed {cmd : Fld} (hcmd : cmd ∈ saveCmds) (ht : t = ((s.wr Reg.TST_REPAIR_CMD_RESULT 3).raise 12 noInst).wr cmd 0 ∨
      t = ((s.wr cmd 0).wr Reg.TST_REPAIR_CMD_RESULT 3).raise 12 noInst) :
    t.rd Reg.TST_REPAIR_CMD_RESULT = 3 ∧ t.rd cmd = 0 ∧ t.flt.inflight = s.flt.inflight ++ [⟨12, noInst, 0, false⟩] ∧
      t = { s with regs := t.regs, flt := t.flt } := by
  obtain rfl | rfl := ht
  · obtain ⟨hresult, hcmd', -⟩ := saveRefused (s := s) hcmd (r := 3) (by decide) (.inl rfl)
    exact ⟨hresult, hcmd', rfl, rfl⟩
  · obtain ⟨hresult, hcmd', -⟩ := saveRefused (s := s) hcmd (r := 3) (by decide) (.inr rfl)
    exact ⟨hresult, hcmd', rfl, rfl⟩

/-- A save whose record is in the journal. -/
theorem saveRecorded {cmd : Fld} (hcmd : cmd ∈ saveCmds) {key : Nat} {data : List Byte}
    (ht : t = ((jnlPublish (jnlPut 0x14 key data s)).wr Reg.TST_REPAIR_CMD_RESULT 1).wr cmd 0 ∨
      t = (jnlPublish (jnlPut 0x14 key data (s.wr cmd 0))).wr Reg.TST_REPAIR_CMD_RESULT 1) :
    (t.rd Reg.TST_REPAIR_CMD_RESULT = 1 ∧ t.rd cmd = 0 ∧ s.regsBut [Reg.TST_REPAIR_CMD_RESULT, cmd] t ∧
      t = { s with regs := t.regs, jnl := t.jnl, commons := t.commons }) ∧ t.jnl = (jnlPut 0x14 key data s).jnl := by
  obtain rfl | rfl := ht
  · obtain ⟨hresult, hcmd', -, hregs⟩ := saveRefused (s := jnlPublish (jnlPut 0x14 key data s)) hcmd (r := 1) (by decide) (.inl rfl)
    exact ⟨⟨hresult, hcmd', State.regsBut.trans (State.regsBut_of_regs_eq rfl _) hregs, rfl⟩, rfl⟩
  · obtain ⟨hresult, hcmd', -, hregs⟩ := saveRefused (s := s) hcmd (r := 1) (by decide) (.inr rfl)
    exact ⟨⟨hresult, hcmd', hregs, rfl⟩, rfl⟩

/-- The record that saves the failed APLL. -/
def State.apllRecord (s : State) : List Byte := BitVec.ofNat 8 (s.rd Reg.TST_REPAIR_APLL_FAILED) :: List.replicate 3 0

theorem doSaveApll_sound {fail : Bool} (h : s.rd Reg.TST_REPAIR_APLL_FAILED < 8 ∨ s.rd Reg.TST_REPAIR_APLL_FAILED = 0xFF) :
    doSaveApll fail s = .next (repairSave 2 s.apllRecord fail (s.wr Reg.TST_REPAIR_CMD_SAVE_APLL 0)) := by
  unfold doSaveApll
  exact congrArg _ (if_pos h)

theorem doSaveApll_unsound {fail : Bool} (h : ¬(s.rd Reg.TST_REPAIR_APLL_FAILED < 8 ∨ s.rd Reg.TST_REPAIR_APLL_FAILED = 0xFF)) :
    doSaveApll fail s = .next ((s.wr Reg.TST_REPAIR_CMD_SAVE_APLL 0).wr Reg.TST_REPAIR_CMD_RESULT 4) := by
  unfold doSaveApll
  exact congrArg _ (if_neg h)

theorem deferring_saveApll (s : State) : (s.wr Reg.TST_REPAIR_CMD_SAVE_APLL 0).deferring = s.deferring := by
  simp only [State.deferring, State.anyWarn, State.wr_jnl]
  rw [State.rd_wr_ne s (by decide)]

/-- Settles O50, unit by unit. -/
theorem selfTests : Obligations.self_tests := by
  intro e d rows hits mean sd fail s
  have htdc : Reg.TST_REPAIR_CMD_SAVE_TDC ∈ saveCmds := by simp [saveCmds]
  have hapll : Reg.TST_REPAIR_CMD_SAVE_APLL ∈ saveCmds := by simp [saveCmds]
  refine ⟨fun ho => ⟨fun h => exec_bistGo ho (doBistGo_busy h), fun h hno => ?_, fun h hok hn => ?_, fun h hok hn => ?_, fun h hok hn => ?_,
    fun h hok hn => ?_⟩, fun h => ⟨?_, ?_⟩, fun h => ?_, fun h => ?_, fun b h => ?_, fun h => ?_, fun h hne => ?_, fun h f => ?_, fun h => ?_,
    fun h b => ?_, fun h => ?_, fun ho => ⟨fun h => ?_, fun h hd => ?_, fun h hd => ?_, fun h hd => ?_, fun h => ?_, fun h hd => ?_,
    fun h hd => ?_, fun h hd => ?_⟩⟩
  · exact ⟨_, exec_bistGo ho (doBistGo_refused h hno), s.wrs_shows (by simp) (by simp) (by decide),
      s.wrs_shows (by simp) (by simp) (by decide), s.onlyRegs_wrs _ (by simp)⟩
  · exact ⟨_, exec_bistGo_begins ho h hok hn, bistBegun_engine _ s⟩
  · exact ⟨_, exec_bistGo_begins ho h hok hn, bistBegun_tdc _ s⟩
  · exact ⟨_, exec_bistGo_begins ho h hok hn, bistBegun_spare _ s⟩
  · exact ⟨_, exec_bistGo_begins ho h hok hn, bistBegun_dram _ s⟩
  · exact ⟨_, exec_bistComplete_engine h none, engineTested_pass h⟩
  · exact ⟨_, exec_bistComplete_engine h (some d), engineTested_fail h d⟩
  · obtain ⟨hbusy, hgo, hnone, hdetail, hbad, hgood⟩ := tdcTested_verdict h hits mean sd
    refine ⟨_, exec_bistComplete_tdc h hits mean sd, hbusy, hgo, hnone, hdetail, ?_⟩
    by_cases hverdict : s.hitsWide hits = true ∨ pairsBad mean sd
    · obtain ⟨hresult, hvalid, hfail⟩ := hbad hverdict
      rw [hresult, hvalid, hfail]
      exact ⟨.inr rfl, by decide, by decide, iff_of_true hverdict rfl⟩
    · obtain ⟨hresult, hvalid, hfail⟩ := hgood hverdict
      rw [hresult, hvalid, hfail]
      exact ⟨.inl rfl, by decide, by decide, iff_of_false hverdict (by decide)⟩
  · exact ⟨_, exec_bistComplete_apll h none, spareTested_pass h⟩
  · exact ⟨_, exec_bistComplete_apll h (some b), spareTested_fail h b⟩
  · exact ⟨_, exec_bistComplete_dram h [], dramTested_pass h⟩
  · exact ⟨_, exec_bistComplete_dram h rows, dramTested_fails h hne⟩
  · exact exec_bistComplete_other (n := 1) rfl h
  · exact exec_bistComplete_other (n := 2) rfl h
  · exact exec_bistComplete_other (n := 3) rfl h
  · exact exec_bistComplete_other (n := 4) rfl h
  · exact ⟨_, exec_saveTdc ho, saveRefused htdc (by decide) (.inl (by rw [saveTdc_unsound h]))⟩
  · exact ⟨_, exec_saveTdc ho, saveRefused htdc (by decide) (.inl (by rw [saveTdc_sound h, repairSave_deferred hd]))⟩
  · exact ⟨_, exec_saveTdc ho, saveRecorded htdc (data := s.tdcRecord) (.inl (by rw [saveTdc_sound h, repairSave_recorded hd]))⟩
  · exact ⟨_, exec_saveTdc ho, saveFailed htdc (.inl (by rw [saveTdc_sound h, repairSave_fails hd]))⟩
  · exact ⟨_, exec_saveApll ho (doSaveApll_unsound h), saveRefused hapll (by decide) (.inr rfl)⟩
  · exact ⟨_, exec_saveApll ho ((doSaveApll_sound h).trans (by rw [repairSave_deferred ((deferring_saveApll s).trans hd)])),
      saveRefused hapll (by decide) (.inr rfl)⟩
  · exact ⟨_, exec_saveApll ho ((doSaveApll_sound h).trans (by rw [repairSave_fails ((deferring_saveApll s).trans hd)])),
      saveFailed hapll (.inr rfl)⟩
  · exact ⟨_, exec_saveApll ho ((doSaveApll_sound h).trans (by rw [repairSave_recorded ((deferring_saveApll s).trans hd)])),
      saveRecorded hapll (data := s.apllRecord) (.inr rfl)⟩

end Sys2Proof.Machine
end


section
/-! SUPPORT for the twin: what the operations on its role change (R355 to R357, R370, R371, R373, R375). -/
namespace Sys2Proof.Machine

variable {s t u : State}

/-! ### Frames -/

/-- The key of the first register of the block TWIN. -/
def twinKey : Nat := 0x3C000 * 32

/-- From `s` to `t` the role has been decided: registers of TWIN, the twin words and conditions of the collector may differ. -/
structure RoleMoves (s t : State) : Prop where
  frame : ∃ r c o i, t = { s with regs := r, commons := c, flt := { s.flt with cond := o, inflight := i } }
  low : ∀ f : Fld, f.key < twinKey → t.rd f = s.rd f

theorem RoleMoves.refl (s : State) : RoleMoves s s := ⟨⟨_, _, _, _, rfl⟩, fun _ _ => rfl⟩

theorem RoleMoves.trans (h : RoleMoves s t) (h' : RoleMoves t u) : RoleMoves s u := by
  obtain ⟨⟨_, _, _, _, rfl⟩, hlow⟩ := h
  obtain ⟨⟨_, _, _, _, rfl⟩, hlow'⟩ := h'
  exact ⟨⟨_, _, _, _, rfl⟩, fun f hf => (hlow' f hf).trans (hlow f hf)⟩

theorem RoleMoves.wr {f : Fld} (hf : twinKey ≤ f.key) (s : State) (v : Nat) : RoleMoves s (s.wr f v) :=
  ⟨⟨_, _, _, _, rfl⟩, fun g hg => s.rd_wr_ne (by omega) v⟩

theorem RoleMoves.bump {f : Fld} (hf : twinKey ≤ f.key) (s : State) : RoleMoves s (s.bump f) := .wr hf s _

theorem RoleMoves.raise (s : State) (ev inst info : Nat) : RoleMoves s (s.raise ev inst info) :=
  ⟨⟨_, _, _, _, rfl⟩, fun _ _ => rfl⟩

theorem RoleMoves.level (s : State) (ev inst : Nat) (on : Bool) : RoleMoves s (s.level ev inst on) := by
  refine ⟨?_, fun f _ => s.rd_level ev inst on 0 f⟩
  unfold State.level
  split <;> split <;> exact ⟨_, _, _, _, rfl⟩

theorem RoleMoves.twin (h : RoleMoves s t) : t.twin = s.twin := by
  obtain ⟨⟨_, _, _, _, rfl⟩, -⟩ := h
  rfl

theorem RoleMoves.timers (h : RoleMoves s t) : t.timers = s.timers := by
  obtain ⟨⟨_, _, _, _, rfl⟩, -⟩ := h
  rfl

theorem RoleMoves.age (h : RoleMoves s t) (x : Timer) : t.age x = s.age x := by
  obtain ⟨⟨_, _, _, _, rfl⟩, -⟩ := h
  rfl

/-- What the eligibility of a device reads. -/
structure SameStanding (s t : State) : Prop where
  out : t.out = s.out
  src : t.flt.src = s.flt.src
  low : ∀ f : Fld, f.key < twinKey → t.rd f = s.rd f

theorem RoleMoves.standing (h : RoleMoves s t) : SameStanding s t := by
  obtain ⟨⟨_, _, _, _, rfl⟩, hlow⟩ := h
  exact ⟨rfl, rfl, hlow⟩

theorem SameStanding.acted (h : SameStanding s t) {ev : Nat} (hev : ev < 96) :
    t.rd (Reg.FLT_SRC_STATUS_ACTED ev) = s.rd (Reg.FLT_SRC_STATUS_ACTED ev) := h.low _ (by simp [twinKey]; omega)

theorem SameStanding.state (h : SameStanding s t) {ev : Nat} (hev : ev < 96) :
    t.rd (Reg.FLT_SRC_STATUS_STATE ev) = s.rd (Reg.FLT_SRC_STATUS_STATE ev) := h.low _ (by simp [twinKey]; omega)

theorem SameStanding.anyAction (h : SameStanding s t) (a : Nat) : t.anyAction a (fun _ => true) = s.anyAction a (fun _ => true) := by
  refine Bool.eq_iff_iff.mpr ?_
  simp only [State.anyAction, List.any_eq_true, List.mem_range]
  refine exists_congr fun ev => and_congr_right fun hev => ?_
  rw [State.actionInForce, State.actionInForce, State.bit, State.bit, h.acted hev, h.state hev, h.src]

theorem SameStanding.crimson (h : SameStanding s t) : t.crimson = s.crimson := by
  refine Bool.eq_iff_iff.mpr ?_
  simp only [State.crimson, List.any_eq_true, List.mem_range]
  refine exists_congr fun ev => and_congr_right fun hev => ?_
  rw [h.state hev, h.src]

theorem SameStanding.safe (h : SameStanding s t) : t.safe = s.safe := h.anyAction 7

theorem SameStanding.ineligible (h : SameStanding s t) : t.ineligible = s.ineligible := by
  rw [State.ineligible, State.ineligible, h.safe, h.anyAction 5, State.twinControl, State.twinControl, h.out]

/-! ### Level conditions of the twin (R382) -/

theorem twinLevels_moves (s : State) : RoleMoves s (twinLevels s) := ((RoleMoves.level ..).trans (.level ..)).trans (.level ..)

@[simp] theorem twinLevels_rd (s : State) (f : Fld) : (twinLevels s).rd f = s.rd f := by simp [twinLevels]

@[simp] theorem twinLevels_regs (s : State) : (twinLevels s).regs = s.regs := by simp [twinLevels]

@[simp] theorem twinLevels_commons (s : State) : (twinLevels s).commons = s.commons := by simp [twinLevels]

@[simp] theorem twinLevels_twin (s : State) : (twinLevels s).twin = s.twin := (twinLevels_moves s).twin

theorem twinLevels_link (s : State) : (twinLevels s).present 40 noInst ↔ s.rd Reg.TWIN_CFG_EN ≠ 0 ∧ s.rd Reg.TWIN_STATUS_LINK = 0 := by
  unfold twinLevels
  rw [State.present_level_ne _ (by decide), State.present_level_ne _ (by decide), State.present_level_self]
  simp [State.bit]

theorem twinLevels_witness (s : State) :
    (twinLevels s).present 41 noInst ↔ s.rd Reg.TWIN_CFG_EN ≠ 0 ∧ s.rd Reg.TWIN_STATUS_WITNESS = 0 := by
  unfold twinLevels
  rw [State.present_level_ne _ (by decide), State.present_level_self]
  simp [State.bit]

theorem twinLevels_conflict (s : State) : (twinLevels s).present 44 noInst ↔ s.rd Reg.TWIN_STATUS_CONFLICT ≠ 0 := by
  unfold twinLevels
  rw [State.present_level_self]
  simp [State.bit]

theorem mem_inflight_twinLevels {m : Notice} (h : m ∈ s.flt.inflight) : m ∈ (twinLevels s).flt.inflight :=
  State.mem_inflight_level (State.mem_inflight_level (State.mem_inflight_level h ..) ..) ..

/-! ### Roles (R355 to R357) -/

/-- The fields that show the phase errors against the twin. -/
def twinErrs : List Fld := (List.range 8).map Reg.TWIN_ERR_P_VALUE

theorem twinErrs_key {f : Fld} (h : f ∈ twinErrs) : ∃ i < 8, f.key = 32 * (0x3C060 + 4 * i) := by
  obtain ⟨i, hi, rfl⟩ := List.mem_map.mp h
  exact ⟨i, List.mem_range.mp hi, by simp⟩

/-- Twin word `i` is marked not valid. -/
def twinWordInvalid (i : Nat) (s : State) : State :=
  { s with commons := tabSet 0 (twinWordAt i) ((tabGet 0 (twinWordAt i) s.commons) &&& 0x7FFFFFFFFFFFFFFF) s.commons }

theorem twinWordsInvalid_spec (s : State) :
    (∃ r c, twinWordsInvalid s = { s with regs := r, commons := c }) ∧ s.regsBut twinErrs (twinWordsInvalid s) := by
  have hwords : ∃ c, forRange 16 twinWordInvalid s = { s with commons := c } :=
    forRange_keeps (fun t => ∃ c, t = { s with commons := c }) (fun i _ t ht => by
      obtain ⟨c, rfl⟩ := ht
      exact ⟨_, rfl⟩) ⟨_, rfl⟩
  obtain ⟨c, hc⟩ := hwords
  change (∃ r c, forRange 8 _ (forRange 16 twinWordInvalid s) = _) ∧ s.regsBut twinErrs (forRange 8 _ (forRange 16 twinWordInvalid s))
  rw [hc]
  refine forRange_keeps (fun t => (∃ r c, t = { s with regs := r, commons := c }) ∧ s.regsBut twinErrs t) (fun i hi t ht => ?_)
    ⟨⟨_, c, rfl⟩, State.regsBut_of_regs_eq rfl _⟩
  obtain ⟨⟨r, c', rfl⟩, hregs⟩ := ht
  exact ⟨⟨_, c', rfl⟩, hregs.wr (List.mem_map_of_mem (List.mem_range.mpr hi)) 0⟩

theorem setRole_follower {r : Nat} (h : r = 4 ∨ r = 5) (s : State) : setRole r s = s.wr Reg.TWIN_STATUS_ROLE r := if_pos h

theorem setRole_other {r : Nat} (h : ¬(r = 4 ∨ r = 5)) (s : State) :
    setRole r s = twinWordsInvalid (s.wr Reg.TWIN_STATUS_ROLE r) := if_neg h

theorem setRole_regsBut (r : Nat) (s : State) : s.regsBut (Reg.TWIN_STATUS_ROLE :: twinErrs) (setRole r s) := by
  have hrole : s.regsBut (Reg.TWIN_STATUS_ROLE :: twinErrs) (s.wr Reg.TWIN_STATUS_ROLE r) := s.regsBut_wr List.mem_cons_self r
  by_cases h : r = 4 ∨ r = 5
  · rw [setRole_follower h]
    exact hrole
  · rw [setRole_other h]
    exact hrole.trans ((twinWordsInvalid_spec _).2.mono (by simp))

theorem setRole_frame (r : Nat) (s : State) : ∃ g c, setRole r s = { s with regs := g, commons := c } := by
  by_cases h : r = 4 ∨ r = 5
  · exact ⟨_, _, setRole_follower h s⟩
  · obtain ⟨⟨g, c, hframe⟩, -⟩ := twinWordsInvalid_spec (s.wr Reg.TWIN_STATUS_ROLE r)
    exact ⟨g, c, (setRole_other h s).trans (by rw [hframe]; rfl)⟩

theorem setRole_moves (r : Nat) (s : State) : RoleMoves s (setRole r s) := by
  obtain ⟨g, c, hframe⟩ := setRole_frame r s
  refine ⟨⟨g, c, _, _, hframe⟩, fun f hf => setRole_regsBut r s f fun g hg => ?_⟩
  rcases List.mem_cons.mp hg with rfl | hg
  · simp only [Reg.TWIN_STATUS_ROLE_key, twinKey] at hf ⊢
    omega
  · obtain ⟨i, -, hi⟩ := twinErrs_key hg
    simp only [twinKey] at hf
    omega

/-- A field of TWIN outside ROLE and the phase errors. -/
def roleFree (f : Fld) : Prop := f.key ≠ Reg.TWIN_STATUS_ROLE.key ∧ ∀ i < 8, f.key ≠ 32 * (0x3C060 + 4 * i)

theorem rd_setRole {f : Fld} (h : roleFree f) (r : Nat) (s : State) : (setRole r s).rd f = s.rd f := by
  refine setRole_regsBut r s f fun g hg => ?_
  rcases List.mem_cons.mp hg with rfl | hg
  · exact h.1.symm
  · obtain ⟨i, hi, hkey⟩ := twinErrs_key hg
    rw [hkey]
    exact (h.2 i hi).symm

theorem rd_role_setRole {r : Nat} (hr : r < 8) (s : State) : (setRole r s).rd Reg.TWIN_STATUS_ROLE = r := by
  have hrole : (s.wr Reg.TWIN_STATUS_ROLE r).rd Reg.TWIN_STATUS_ROLE = r :=
    (s.rd_wr_self _ r).trans (Nat.mod_eq_of_lt (by simpa using hr))
  by_cases h : r = 4 ∨ r = 5
  · rw [setRole_follower h]
    exact hrole
  · rw [setRole_other h, (twinWordsInvalid_spec _).2 _ fun g hg => ?_]
    · exact hrole
    · obtain ⟨i, -, hkey⟩ := twinErrs_key hg
      simp only [Reg.TWIN_STATUS_ROLE_key, hkey]
      omega

/-- The notice that the device takes role `r` (R355). -/
def roleNotice (r : Nat) : Notice := ⟨42, noInst, r, false⟩

/-- From `s` to `t` the device has become PRIMARY (R357). -/
structure Promoted (s t : State) : Prop where
  role : t.rd Reg.TWIN_STATUS_ROLE = 3
  epoch : t.rd Reg.TWIN_EPOCH_OWN = (max (s.rd Reg.TWIN_EPOCH_OWN) (s.rd Reg.TWIN_EPOCH_TWIN) + 1) % 65536
  count : t.rd Reg.TWIN_COUNT1_PROMOTIONS = (s.rd Reg.TWIN_COUNT1_PROMOTIONS + 1) % 2 ^ Reg.TWIN_COUNT1_PROMOTIONS.width
  told : roleNotice 3 ∈ t.flt.inflight

theorem Promoted.levels (h : Promoted s t) : Promoted s (twinLevels t) :=
  ⟨(twinLevels_rd ..).trans h.role, (twinLevels_rd ..).trans h.epoch, (twinLevels_rd ..).trans h.count, mem_inflight_twinLevels h.told⟩

theorem promote_promoted (s : State) : Promoted s (promote s) := by
  refine ⟨?_, ?_, ?_, List.mem_append_right _ List.mem_cons_self⟩
  · rw [promote, State.rd_raise, State.rd_bump_ne _ (by simp), State.rd_wr_ne _ (by simp), rolePrimary, rd_role_setRole (by decide)]
  · rw [promote, State.rd_raise, State.rd_bump_ne _ (by simp), State.rd_wr_self]
    exact Nat.mod_eq_of_lt (Nat.mod_lt _ (by decide))
  · rw [promote, State.rd_raise, State.rd_bump_self, State.rd_wr_ne _ (by simp), rd_setRole]
    exact ⟨by simp, fun i hi => by simp; omega⟩

theorem promote_moves (s : State) : RoleMoves s (promote s) :=
  (((setRole_moves rolePrimary s).trans (.wr (by simp [twinKey]) _ _)).trans (.bump (by simp [twinKey]) _)).trans (.raise ..)

/-! ### Decisions of a secondary (R371) -/

/-- The device is SECONDARY or ISOLATED. -/
def State.follows (s : State) : Prop := s.twinRole = 4 ∨ s.twinRole = 5

/-- The device may become PRIMARY. -/
def State.mayLead (s : State) : Prop := s.ineligible = false ∧ s.rd Reg.TWIN_STATUS_CONFLICT = 0

/-- A secondary without its link becomes PRIMARY. -/
def State.takesLead (s : State) : Prop := s.mayLead ∧ (s.rd Reg.TWIN_STATUS_WITNESS = 0 ∨
  (s.twin.role ≠ 3 ∧ (s.rd Reg.TWIN_STATUS_PAIR_ID = 0 ∨ s.twin.inel = true)))

theorem twinDecide_other (h : ¬s.follows) : twinDecide s = s := if_pos (not_or.mp h)

theorem twinDecide_linked (h : s.follows) (hl : s.rd Reg.TWIN_STATUS_LINK ≠ 0) : twinDecide s = s.wr Reg.TWIN_STATUS_ROLE 4 := by
  have hbit : s.bit Reg.TWIN_STATUS_LINK = true := decide_eq_true hl
  rw [twinDecide, if_neg (fun hn => h.elim hn.1 hn.2), if_pos hbit]
  exact setRole_follower (.inl rfl) s

theorem mayLead_iff (s : State) : (!s.ineligible && !s.bit Reg.TWIN_STATUS_CONFLICT) = true ↔ s.mayLead := by
  simp [State.mayLead, State.bit]

theorem twinDecide_unlinked (h : s.follows) (hl : s.rd Reg.TWIN_STATUS_LINK = 0) : twinDecide s =
    if s.bit Reg.TWIN_STATUS_WITNESS then
      if s.twin.role ≠ rolePrimary ∧ (!s.ineligible && !s.bit Reg.TWIN_STATUS_CONFLICT) ∧
          (s.rd Reg.TWIN_STATUS_PAIR_ID = 0 ∨ s.twin.inel) then promote s
      else setRole roleIsolated s
    else if !s.ineligible && !s.bit Reg.TWIN_STATUS_CONFLICT then promote s else setRole roleIsolated s := by
  rw [twinDecide, if_neg (fun hn => h.elim hn.1 hn.2), if_neg (by simp [State.bit, hl])]

theorem twinDecide_takes (h : s.follows) (hl : s.rd Reg.TWIN_STATUS_LINK = 0) (ht : s.takesLead) : twinDecide s = promote s := by
  obtain ⟨hmay, hwhy⟩ := ht
  rw [twinDecide_unlinked h hl]
  by_cases hw : s.rd Reg.TWIN_STATUS_WITNESS = 0
  · rw [if_neg (by simp [State.bit, hw]), if_pos ((mayLead_iff s).mpr hmay)]
  · obtain ⟨hrole, hinel⟩ := hwhy.resolve_left hw
    have hbit : s.bit Reg.TWIN_STATUS_WITNESS = true := decide_eq_true hw
    rw [if_pos hbit, if_pos ⟨hrole, (mayLead_iff s).mpr hmay, hinel⟩]

theorem twinDecide_isolates (h : s.follows) (hl : s.rd Reg.TWIN_STATUS_LINK = 0) (ht : ¬s.takesLead) :
    twinDecide s = s.wr Reg.TWIN_STATUS_ROLE 5 := by
  rw [twinDecide_unlinked h hl]
  by_cases hw : s.rd Reg.TWIN_STATUS_WITNESS = 0
  · have hmay : ¬s.mayLead := fun hm => ht ⟨hm, .inl hw⟩
    rw [if_neg (by simp [State.bit, hw]), if_neg (fun hm => hmay ((mayLead_iff s).mp hm))]
    exact setRole_follower (.inr rfl) s
  · have hbit : s.bit Reg.TWIN_STATUS_WITNESS = true := decide_eq_true hw
    rw [if_pos hbit, if_neg fun hn => ht ⟨(mayLead_iff s).mp hn.2.1, .inr ⟨hn.1, hn.2.2⟩⟩]
    exact setRole_follower (.inr rfl) s

theorem twinDecide_moves (s : State) : RoleMoves s (twinDecide s) := by
  by_cases h : s.follows
  · by_cases hl : s.rd Reg.TWIN_STATUS_LINK = 0
    · by_cases ht : s.takesLead
      · rw [twinDecide_takes h hl ht]
        exact promote_moves s
      · rw [twinDecide_isolates h hl ht]
        exact .wr (by simp [twinKey]) s 5
    · rw [twinDecide_linked h hl]
      exact .wr (by simp [twinKey]) s 4
  · rw [twinDecide_other h]
    exact .refl s

/-! ### Two primaries (R375) -/

/-- Of two primaries the device with PAIR_ID `id` stays PRIMARY, by its own CRIMSON and its twin's. -/
def staysPrimary (id : Nat) (own twin : Bool) : Prop := if id = 0 then own = false ∨ twin = true else own = false ∧ twin = true

/-- The device stays PRIMARY against its twin. -/
def State.wins (s : State) : Prop := staysPrimary (s.rd Reg.TWIN_STATUS_PAIR_ID) s.crimson s.twin.crimson

/-- The loser takes role `r` and the winner's epoch. -/
def yielded (r : Nat) (s : State) : State :=
  ((((setRole r s).wr Reg.TWIN_EPOCH_OWN (s.rd Reg.TWIN_EPOCH_TWIN)).wr Reg.TWIN_STATUS_DEMOTE_PENDING 0).bump
    Reg.TWIN_COUNT1_DEMOTIONS).raise 42 noInst r

theorem resolveRoles_alone (h : s.twinRole ≠ 3 ∨ s.twin.role ≠ 3) : resolveRoles s = s := if_pos h

theorem resolveRoles_both (h : s.twinRole = 3) (ht : s.twin.role = 3) : resolveRoles s =
    if (!((if s.rd Reg.TWIN_STATUS_PAIR_ID = 0 then s.crimson else s.twin.crimson) &&
      !(if s.rd Reg.TWIN_STATUS_PAIR_ID = 0 then s.twin.crimson else s.crimson))) = decide (s.rd Reg.TWIN_STATUS_PAIR_ID = 0) then s
    else yielded s.secondaryRole s := by
  rw [resolveRoles, if_neg (fun hn => hn.elim (fun h' => h' h) fun h' => h' ht)]
  simp only [decide_eq_true_eq]
  rfl

theorem winner_iff (id : Nat) (own twin : Bool) :
    (!((if id = 0 then own else twin) && !(if id = 0 then twin else own))) = decide (id = 0) ↔ staysPrimary id own twin := by
  unfold staysPrimary
  by_cases h : id = 0 <;> cases own <;> cases twin <;> simp [h]

theorem resolveRoles_wins (h : s.wins) : resolveRoles s = s := by
  by_cases hr : s.twinRole = 3 ∧ s.twin.role = 3
  · rw [resolveRoles_both hr.1 hr.2, if_pos ((winner_iff ..).mpr h)]
  · exact resolveRoles_alone (not_and_or.mp hr)

theorem resolveRoles_yields (h : s.twinRole = 3) (ht : s.twin.role = 3) (hw : ¬s.wins) :
    resolveRoles s = yielded s.secondaryRole s := by
  rw [resolveRoles_both h ht, if_neg fun hn => hw ((winner_iff ..).mp hn)]

/-- From `s` to `t` a PRIMARY has become a follower with role `r` and the epoch of its twin. -/
structure Yielded (s : State) (r : Nat) (t : State) : Prop where
  role : t.rd Reg.TWIN_STATUS_ROLE = r
  epoch : t.rd Reg.TWIN_EPOCH_OWN = s.rd Reg.TWIN_EPOCH_TWIN % 65536
  count : t.rd Reg.TWIN_COUNT1_DEMOTIONS = (s.rd Reg.TWIN_COUNT1_DEMOTIONS + 1) % 2 ^ Reg.TWIN_COUNT1_DEMOTIONS.width
  told : roleNotice r ∈ t.flt.inflight

theorem Yielded.levels {r : Nat} (h : Yielded s r t) : Yielded s r (twinLevels t) :=
  ⟨(twinLevels_rd ..).trans h.role, (twinLevels_rd ..).trans h.epoch, (twinLevels_rd ..).trans h.count, mem_inflight_twinLevels h.told⟩

theorem yielded_spec {r : Nat} (hr : r < 8) (s : State) : Yielded s r (yielded r s) := by
  refine ⟨?_, ?_, ?_, List.mem_append_right _ List.mem_cons_self⟩
  · rw [yielded, State.rd_raise, State.rd_bump_ne _ (by simp), State.rd_wr_ne _ (by simp), State.rd_wr_ne _ (by simp),
      rd_role_setRole hr]
  · rw [yielded, State.rd_raise, State.rd_bump_ne _ (by simp), State.rd_wr_ne _ (by simp), State.rd_wr_self]
    rfl
  · rw [yielded, State.rd_raise, State.rd_bump_self, State.rd_wr_ne _ (by simp), State.rd_wr_ne _ (by simp), rd_setRole]
    exact ⟨by simp, fun i hi => by simp; omega⟩

theorem yielded_moves (r : Nat) (s : State) : RoleMoves s (yielded r s) :=
  ((((setRole_moves r s).trans (.wr (by simp [twinKey]) _ _)).trans (.wr (by simp [twinKey]) _ _)).trans
    (.bump (by simp [twinKey]) _)).trans (.raise ..)

theorem resolveRoles_moves (s : State) : RoleMoves s (resolveRoles s) := by
  by_cases h : s.wins
  · rw [resolveRoles_wins h]
    exact .refl s
  · by_cases hr : s.twinRole = 3 ∧ s.twin.role = 3
    · rw [resolveRoles_yields hr.1 hr.2 h]
      exact yielded_moves _ s
    · rw [resolveRoles_alone (not_and_or.mp hr)]
      exact .refl s

/-- The role of a follower: SECONDARY with the link, else ISOLATED. -/
theorem secondaryRole_eq (s : State) : s.secondaryRole = if s.rd Reg.TWIN_STATUS_LINK ≠ 0 then 4 else 5 := by
  simp only [State.secondaryRole, State.bit, decide_eq_true_eq]
  rfl

theorem secondaryRole_follower (s : State) : s.secondaryRole = 4 ∨ s.secondaryRole = 5 := by
  rw [secondaryRole_eq]
  split <;> simp

end Sys2Proof.Machine
end


section
/-! PROOFS. The roles of a twin (R354 to R358, R362, R364, R370, R371, R373, R375): O40. -/
namespace Sys2Proof.Machine

variable {s t u : State}

/-! ### What decisions leave -/

/-- The clock of the device and all outside the twin stand. -/
theorem RoleMoves.stays (h : RoleMoves s t) : t.timers = s.timers ∧
    t = { s with regs := t.regs, twin := t.twin, commons := t.commons, flt := t.flt, timers := t.timers } := by
  obtain ⟨⟨_, _, _, _, rfl⟩, -⟩ := h
  exact ⟨rfl, rfl⟩

theorem RoleMoves.wrs {l : List (Fld × Nat)} (h : RoleMoves s t) (hl : ∀ p ∈ l, twinKey ≤ p.1.key) : RoleMoves s (t.wrs l) := by
  refine h.trans ⟨?_, fun f hf => State.rd_wrs_ne _ l fun p hp => by have := hl p hp; omega⟩
  obtain ⟨r, hr⟩ := t.wrs_frame l
  exact ⟨r, _, _, _, hr⟩

/-- A field of TWIN that a decision leaves. -/
def decideFree (f : Fld) : Prop :=
  roleFree f ∧ f.key ≠ Reg.TWIN_EPOCH_OWN.key ∧ f.key ≠ Reg.TWIN_COUNT1_PROMOTIONS.key

theorem rd_promote {f : Fld} (h : decideFree f) (s : State) : (promote s).rd f = s.rd f := by
  obtain ⟨hrole, hown, hcount⟩ := h
  rw [promote, State.rd_raise, State.rd_bump_ne _ hcount.symm, State.rd_wr_ne _ hown.symm, rd_setRole hrole]

theorem rd_twinDecide {f : Fld} (h : decideFree f) (s : State) : (twinDecide s).rd f = s.rd f := by
  by_cases hf : s.follows
  · by_cases hl : s.rd Reg.TWIN_STATUS_LINK = 0
    · by_cases ht : s.takesLead
      · rw [twinDecide_takes hf hl ht, rd_promote h]
      · rw [twinDecide_isolates hf hl ht, State.rd_wr_ne _ h.1.1.symm]
    · rw [twinDecide_linked hf hl, State.rd_wr_ne _ h.1.1.symm]
  · rw [twinDecide_other hf]

/-- A field of TWIN that a resolution leaves. -/
def resolveFree (f : Fld) : Prop := roleFree f ∧ f.key ≠ Reg.TWIN_EPOCH_OWN.key ∧
  f.key ≠ Reg.TWIN_STATUS_DEMOTE_PENDING.key ∧ f.key ≠ Reg.TWIN_COUNT1_DEMOTIONS.key

theorem rd_yielded {f : Fld} (h : resolveFree f) (r : Nat) (s : State) : (yielded r s).rd f = s.rd f := by
  obtain ⟨hrole, hown, hpending, hcount⟩ := h
  rw [yielded, State.rd_raise, State.rd_bump_ne _ hcount.symm, State.rd_wr_ne _ hpending.symm, State.rd_wr_ne _ hown.symm,
    rd_setRole hrole]

theorem rd_resolveRoles {f : Fld} (h : resolveFree f) (s : State) : (resolveRoles s).rd f = s.rd f := by
  by_cases hw : s.wins
  · rw [resolveRoles_wins hw]
  · by_cases hr : s.twinRole = 3 ∧ s.twin.role = 3
    · rw [resolveRoles_yields hr.1 hr.2 hw, rd_yielded h]
    · rw [resolveRoles_alone (not_and_or.mp hr)]

/-- What a promotion shows, by the fields of an earlier state. -/
theorem Promoted.shows {ep : Nat} (h : Promoted u t) (hown : u.rd Reg.TWIN_EPOCH_OWN = s.rd Reg.TWIN_EPOCH_OWN)
    (hep : u.rd Reg.TWIN_EPOCH_TWIN = ep) (hcount : u.rd Reg.TWIN_COUNT1_PROMOTIONS = s.rd Reg.TWIN_COUNT1_PROMOTIONS) :
    t.rd Reg.TWIN_STATUS_ROLE = 3 ∧ t.rd Reg.TWIN_EPOCH_OWN = (max (s.rd Reg.TWIN_EPOCH_OWN) ep + 1) % 65536 ∧
      t.rd Reg.TWIN_COUNT1_PROMOTIONS = (s.rd Reg.TWIN_COUNT1_PROMOTIONS + 1) % 2 ^ Reg.TWIN_COUNT1_PROMOTIONS.width ∧
      roleNotice 3 ∈ t.flt.inflight :=
  ⟨h.role, by rw [h.epoch, hown, hep], by rw [h.count, hcount], h.told⟩

/-- The four outcomes of a decision, with the level conditions that follow it. -/
theorem decided_promotes (hf : s.follows) (hl : s.rd Reg.TWIN_STATUS_LINK = 0) (h : s.takesLead) :
    Promoted s (twinLevels (twinDecide s)) := by
  rw [twinDecide_takes hf hl h]
  exact (promote_promoted s).levels

theorem decided_isolates (hf : s.follows) (hl : s.rd Reg.TWIN_STATUS_LINK = 0) (h : ¬s.takesLead) :
    (twinLevels (twinDecide s)).rd Reg.TWIN_STATUS_ROLE = 5 := by
  rw [twinDecide_isolates hf hl h, twinLevels_rd]
  exact s.rd_wr_self _ 5

theorem decided_linked (hf : s.follows) (hl : s.rd Reg.TWIN_STATUS_LINK ≠ 0) :
    (twinLevels (twinDecide s)).rd Reg.TWIN_STATUS_ROLE = 4 := by
  rw [twinDecide_linked hf hl, twinLevels_rd]
  exact s.rd_wr_self _ 4

theorem decided_other (hf : ¬s.follows) : twinLevels (twinDecide s) = twinLevels s := by rw [twinDecide_other hf]

/-! ### Enable and disable (R354, R370, R375) -/

theorem exec_twinEnable (h : s.hostOpen Reg.TWIN_CFG_EN.addr) (ht : doTwinEnable s = .next t) : exec .twinEnable s = .next t :=
  hostCmd_plain _ doTwinEnable s t h (by decide) (by decide) ht

theorem exec_twinDisable (h : s.hostOpen Reg.TWIN_CFG_EN.addr) (ht : doTwinDisable s = .next t) : exec .twinDisable s = .next t :=
  hostCmd_plain _ doTwinDisable s t h (by decide) (by decide) ht

theorem doTwinEnable_ignored (h : s.rd Reg.TWIN_STATUS_SOLO_STRAP ≠ 0 ∨ s.rd Reg.TWIN_CFG_EN ≠ 0) : doTwinEnable s = .next s :=
  if_pos (by simpa [State.bit] using h)

/-- The registers of a device that enters SEEKING. -/
def seekingRegs (s : State) : State := setRole 2 (s.wrs [(Reg.TWIN_CFG_EN, 1), (Reg.TWIN_STATUS_CONFLICT, 0)])

/-- A device whose time in SEEKING begins has heard nothing of its twin. -/
def seekingEntered (s : State) : State :=
  { s.arm .seeking with twin := { s.twin with heard := false, role := 0, markers := 0, ppsSeen := false, delayWas := none } }

theorem rd_seekingEntered (s : State) (f : Fld) : (seekingEntered s).rd f = s.rd f := rfl
theorem seekingEntered_regs (s : State) : (seekingEntered s).regs = s.regs := rfl
theorem seekingEntered_heard (s : State) : (seekingEntered s).twin.heard = false := rfl
theorem age_seekingEntered (s : State) : (seekingEntered s).age .seeking = 0 := s.age_arm .seeking

theorem doTwinEnable_seeks (h : s.rd Reg.TWIN_STATUS_SOLO_STRAP = 0) (he : s.rd Reg.TWIN_CFG_EN = 0) :
    doTwinEnable s = .next (twinLevels (seekingEntered (seekingRegs s))) :=
  if_neg (by simp [State.bit, h, he])

theorem rd_seekingRegs {f : Fld} (hf : roleFree f) (hne : ∀ p ∈ ([(Reg.TWIN_CFG_EN, 1), (Reg.TWIN_STATUS_CONFLICT, 0)] : List (Fld × Nat)),
    p.1.key ≠ f.key) (s : State) : (seekingRegs s).rd f = s.rd f := by
  rw [seekingRegs, rd_setRole hf, State.rd_wrs_ne _ _ hne]

theorem seekingRegs_shows (s : State) : (seekingRegs s).rd Reg.TWIN_CFG_EN = 1 ∧ (seekingRegs s).rd Reg.TWIN_STATUS_ROLE = 2 ∧
    (seekingRegs s).rd Reg.TWIN_STATUS_CONFLICT = 0 := by
  refine ⟨?_, rd_role_setRole (by decide) _, ?_⟩
  · rw [seekingRegs, rd_setRole ⟨by simp, fun i _ => by simp; omega⟩]
    exact s.wrs_shows (by simp) (by simp) (by decide)
  · rw [seekingRegs, rd_setRole ⟨by simp, fun i _ => by simp; omega⟩]
    exact s.wrs_shows (by simp) (by simp) (by decide)

theorem seekingRegs_regsBut (s : State) :
    s.regsBut ([Reg.TWIN_CFG_EN, Reg.TWIN_STATUS_ROLE, Reg.TWIN_STATUS_CONFLICT] ++ twinErrs) (seekingRegs s) :=
  (s.regsBut_wrs [(Reg.TWIN_CFG_EN, 1), (Reg.TWIN_STATUS_CONFLICT, 0)] (by simp)).trans
    ((setRole_regsBut 2 _).mono (by simp [List.subset_def]; tauto))

/-- The registers have been set for SEEKING. -/
structure SeekingSet (s t : State) : Prop where
  en : t.rd Reg.TWIN_CFG_EN = 1
  role : t.rd Reg.TWIN_STATUS_ROLE = 2
  conflict : t.rd Reg.TWIN_STATUS_CONFLICT = 0
  link : t.rd Reg.TWIN_STATUS_LINK = s.rd Reg.TWIN_STATUS_LINK
  witness : t.rd Reg.TWIN_STATUS_WITNESS = s.rd Reg.TWIN_STATUS_WITNESS
  regs : s.regsBut ([Reg.TWIN_CFG_EN, Reg.TWIN_STATUS_ROLE, Reg.TWIN_STATUS_CONFLICT] ++ twinErrs) t
  frame : ∃ g c, t = { s with regs := g, commons := c }

theorem seekingRegs_set (s : State) : SeekingSet s (seekingRegs s) := by
  obtain ⟨hen, hrole, hconflict⟩ := seekingRegs_shows s
  refine ⟨hen, hrole, hconflict, rd_seekingRegs ⟨by simp, fun i _ => by simp; omega⟩ (by simp) s,
    rd_seekingRegs ⟨by simp, fun i _ => by simp; omega⟩ (by simp) s, seekingRegs_regsBut s, ?_⟩
  obtain ⟨g, c, hset⟩ := setRole_frame 2 (s.wrs [(Reg.TWIN_CFG_EN, 1), (Reg.TWIN_STATUS_CONFLICT, 0)])
  exact ⟨g, c, hset⟩

theorem SeekingSet.entered (h : SeekingSet s u) : let t := twinLevels (seekingEntered u)
    t.rd Reg.TWIN_CFG_EN = 1 ∧ t.rd Reg.TWIN_STATUS_ROLE = 2 ∧ t.rd Reg.TWIN_STATUS_CONFLICT = 0 ∧ t.twin.heard = false ∧
      t.age .seeking = 0 ∧ (t.present 40 noInst ↔ s.rd Reg.TWIN_STATUS_LINK = 0) ∧
      (t.present 41 noInst ↔ s.rd Reg.TWIN_STATUS_WITNESS = 0) ∧
      s.regsBut ([Reg.TWIN_CFG_EN, Reg.TWIN_STATUS_ROLE, Reg.TWIN_STATUS_CONFLICT] ++ twinErrs) t ∧
      t = { s with regs := t.regs, twin := t.twin, commons := t.commons, flt := t.flt, timers := t.timers } := by
  refine ⟨by rw [twinLevels_rd, rd_seekingEntered, h.en], by rw [twinLevels_rd, rd_seekingEntered, h.role],
    by rw [twinLevels_rd, rd_seekingEntered, h.conflict], by rw [twinLevels_twin, seekingEntered_heard],
    by rw [(twinLevels_moves _).age, age_seekingEntered], ?_, ?_, ?_, ?_⟩
  · rw [twinLevels_link, rd_seekingEntered, rd_seekingEntered, h.en, h.link]
    simp
  · rw [twinLevels_witness, rd_seekingEntered, rd_seekingEntered, h.en, h.witness]
    simp
  · exact h.regs.same ((twinLevels_regs _).trans (seekingEntered_regs u))
  · obtain ⟨⟨_, _, _, _, hlevels⟩, -⟩ := twinLevels_moves (seekingEntered u)
    obtain ⟨g, c, rfl⟩ := h.frame
    rw [hlevels]
    rfl

theorem doTwinDisable_ignored (h : s.rd Reg.TWIN_CFG_EN = 0) : doTwinDisable s = .next s := if_neg (by simp [State.bit, h])

/-- What a disable clears. -/
def disableWords : List (Fld × Nat) := [(Reg.TWIN_CFG_EN, 0), (Reg.TWIN_STATUS_DEMOTE_PENDING, 0), (Reg.TWIN_STATUS_CAL_VALID, 0),
  (Reg.TWIN_STATUS_INDEXED, 0), (Reg.TWIN_STATUS_SLIP, 0)]

theorem doTwinDisable_ends (h : s.rd Reg.TWIN_CFG_EN ≠ 0) :
    doTwinDisable s = .next (twinLevels (setRole 0 (s.wrs disableWords))) := if_pos (decide_eq_true h)

theorem rd_disabled {f : Fld} (hf : (f, 0) ∈ disableWords) (s : State) : (setRole 0 (s.wrs disableWords)).rd f = 0 := by
  have hfree : roleFree f := by
    simp only [disableWords, List.mem_cons, Prod.mk.injEq, List.not_mem_nil, or_false, and_true] at hf
    obtain rfl | rfl | rfl | rfl | rfl := hf <;> exact ⟨by simp, fun i _ => by simp; omega⟩
  rw [rd_setRole hfree, s.rd_wrs_mem (by simp [disableWords]) hf, Nat.zero_mod]

/-- The registers have been set for OFF. -/
structure OffSet (s t : State) : Prop where
  zero : ∀ f, (f, 0) ∈ disableWords → t.rd f = 0
  role : t.rd Reg.TWIN_STATUS_ROLE = 0
  moves : RoleMoves s t
  regs : s.regsBut ([Reg.TWIN_CFG_EN, Reg.TWIN_STATUS_ROLE, Reg.TWIN_STATUS_DEMOTE_PENDING, Reg.TWIN_STATUS_CAL_VALID,
    Reg.TWIN_STATUS_INDEXED, Reg.TWIN_STATUS_SLIP] ++ twinErrs) t

theorem disabled_set (s : State) : OffSet s (setRole 0 (s.wrs disableWords)) :=
  ⟨fun _ hf => rd_disabled hf s, rd_role_setRole (by decide) _,
    ((RoleMoves.refl s).wrs (by simp [disableWords, twinKey])).trans (setRole_moves 0 _),
    (s.regsBut_wrs disableWords (by simp [disableWords])).trans ((setRole_regsBut 0 _).mono (by simp [List.subset_def]; tauto))⟩

theorem OffSet.levels (h : OffSet s u) : let t := twinLevels u
    t.rd Reg.TWIN_CFG_EN = 0 ∧ t.rd Reg.TWIN_STATUS_ROLE = 0 ∧ t.rd Reg.TWIN_STATUS_DEMOTE_PENDING = 0 ∧
      t.rd Reg.TWIN_STATUS_CAL_VALID = 0 ∧ ¬t.present 40 noInst ∧ ¬t.present 41 noInst ∧ t.twin = s.twin ∧
      s.regsBut ([Reg.TWIN_CFG_EN, Reg.TWIN_STATUS_ROLE, Reg.TWIN_STATUS_DEMOTE_PENDING, Reg.TWIN_STATUS_CAL_VALID,
        Reg.TWIN_STATUS_INDEXED, Reg.TWIN_STATUS_SLIP] ++ twinErrs) t ∧ t.timers = s.timers ∧
      t = { s with regs := t.regs, twin := t.twin, commons := t.commons, flt := t.flt, timers := t.timers } := by
  have hmoves := h.moves.trans (twinLevels_moves u)
  have hen : u.rd Reg.TWIN_CFG_EN = 0 := h.zero _ (by simp [disableWords])
  refine ⟨?_, ?_, ?_, ?_, fun hp => ((twinLevels_link u).mp hp).1 hen, fun hp => ((twinLevels_witness u).mp hp).1 hen, hmoves.twin,
    h.regs.same (twinLevels_regs u), hmoves.stays⟩
  · rw [twinLevels_rd, hen]
  · rw [twinLevels_rd, h.role]
  · rw [twinLevels_rd, h.zero _ (by simp [disableWords])]
  · rw [twinLevels_rd, h.zero _ (by simp [disableWords])]

/-! ### The end of SEEKING (R370) -/

/-- The role that SEEKING ends in. -/
def seekingTo (s : State) : State :=
  if s.twin.heard ∧ s.twin.pair = s.rd Reg.TWIN_STATUS_PAIR_ID then setRole roleIsolated (s.wr Reg.TWIN_STATUS_CONFLICT 1)
  else if (s.twin.heard ∧ s.twin.role = rolePrimary) ∨ s.ineligible then setRole s.secondaryRole s
  else if !s.twin.heard then promote s
  else if s.rd Reg.TWIN_STATUS_PAIR_ID = 0 ∨ s.twin.inel then promote s
  else setRole s.secondaryRole s

theorem exec_seekingEnd (h : s.twinRole = 2) (hr : s.ran .seeking 40000 = true) :
    exec .seekingEnd s = .next (twinLevels (seekingTo s)) := by
  change execSeekingEnd s = _
  unfold execSeekingEnd
  exact if_neg (by simp [h, hr, roleSeeking])

theorem exec_seekingEnd_waits (h : ¬(s.twinRole = 2 ∧ s.ran .seeking 40000 = true)) : exec .seekingEnd s = .next s := by
  change execSeekingEnd s = _
  unfold execSeekingEnd
  refine if_pos ?_
  rw [not_and_or, Bool.not_eq_true] at h
  exact h.imp id (fun hr => by rw [hr]; rfl)

section
variable (hc : ¬(s.twin.heard = true ∧ s.twin.pair = s.rd Reg.TWIN_STATUS_PAIR_ID))
include hc

theorem seekingTo_yields (hy : (s.twin.heard = true ∧ s.twin.role = 3) ∨ s.ineligible = true) :
    seekingTo s = s.wr Reg.TWIN_STATUS_ROLE s.secondaryRole := by
  rw [seekingTo, if_neg hc]
  exact (if_pos hy).trans (setRole_follower (secondaryRole_follower s) s)

theorem seekingTo_promotes (hy : ¬((s.twin.heard = true ∧ s.twin.role = 3) ∨ s.ineligible = true))
    (h : s.twin.heard = false ∨ s.rd Reg.TWIN_STATUS_PAIR_ID = 0 ∨ s.twin.inel = true) : seekingTo s = promote s := by
  rw [seekingTo, if_neg hc]
  refine (if_neg hy).trans ?_
  cases hh : s.twin.heard with
  | false => rfl
  | true => exact (if_neg (by decide)).trans (if_pos (h.resolve_left (by simp [hh])))

theorem seekingTo_waits (hy : ¬((s.twin.heard = true ∧ s.twin.role = 3) ∨ s.ineligible = true)) (hh : s.twin.heard = true)
    (hid : s.rd Reg.TWIN_STATUS_PAIR_ID ≠ 0) (hi : s.twin.inel = false) :
    seekingTo s = s.wr Reg.TWIN_STATUS_ROLE s.secondaryRole := by
  rw [seekingTo, if_neg hc]
  refine (if_neg hy).trans ?_
  rw [hh, if_neg (by decide), if_neg (by simp [hid, hi])]
  exact setRole_follower (secondaryRole_follower s) s

end

/-- A device that SEEKING leaves as a follower. -/
theorem seeking_followed (h : seekingTo s = s.wr Reg.TWIN_STATUS_ROLE s.secondaryRole) : let t := twinLevels (seekingTo s)
    t.rd Reg.TWIN_STATUS_ROLE = (if s.rd Reg.TWIN_STATUS_LINK ≠ 0 then 4 else 5) ∧ t.timers = s.timers ∧
      t = { s with regs := t.regs, twin := t.twin, commons := t.commons, flt := t.flt, timers := t.timers } := by
  have hmoves : RoleMoves s (twinLevels (seekingTo s)) := by
    rw [h]
    exact (RoleMoves.wr (by simp [twinKey]) s _).trans (twinLevels_moves _)
  refine ⟨?_, hmoves.stays⟩
  rw [h, twinLevels_rd, State.rd_wr_self, ← secondaryRole_eq]
  obtain hr | hr := secondaryRole_follower s <;> rw [hr] <;> rfl

theorem seeking_conflict (h : s.twin.heard = true ∧ s.twin.pair = s.rd Reg.TWIN_STATUS_PAIR_ID) : let t := twinLevels (seekingTo s)
    t.rd Reg.TWIN_STATUS_ROLE = 5 ∧ t.rd Reg.TWIN_STATUS_CONFLICT = 1 ∧ t.present 44 noInst ∧ t.timers = s.timers ∧
      t = { s with regs := t.regs, twin := t.twin, commons := t.commons, flt := t.flt, timers := t.timers } := by
  have hto : seekingTo s = s.wrs [(Reg.TWIN_STATUS_CONFLICT, 1), (Reg.TWIN_STATUS_ROLE, 5)] := by
    rw [seekingTo, if_pos h]
    exact setRole_follower (.inr rfl) _
  have hconflict : (seekingTo s).rd Reg.TWIN_STATUS_CONFLICT = 1 := by
    rw [hto]
    exact s.wrs_shows (by simp) (by simp) (by decide)
  have hmoves : RoleMoves s (twinLevels (seekingTo s)) := by
    rw [hto]
    exact ((RoleMoves.refl s).wrs (by simp [twinKey])).trans (twinLevels_moves _)
  refine ⟨?_, (twinLevels_rd ..).trans hconflict, (twinLevels_conflict _).mpr (by rw [hconflict]; decide), hmoves.stays⟩
  rw [twinLevels_rd, hto]
  exact s.wrs_shows (by simp) (by simp) (by decide)

theorem seeking_promoted (h : seekingTo s = promote s) : let t := twinLevels (seekingTo s)
    (t.rd Reg.TWIN_STATUS_ROLE = 3 ∧
      t.rd Reg.TWIN_EPOCH_OWN = (max (s.rd Reg.TWIN_EPOCH_OWN) (s.rd Reg.TWIN_EPOCH_TWIN) + 1) % 65536 ∧
      t.rd Reg.TWIN_COUNT1_PROMOTIONS = (s.rd Reg.TWIN_COUNT1_PROMOTIONS + 1) % 2 ^ Reg.TWIN_COUNT1_PROMOTIONS.width ∧
      roleNotice 3 ∈ t.flt.inflight) ∧ t.timers = s.timers ∧
      t = { s with regs := t.regs, twin := t.twin, commons := t.commons, flt := t.flt, timers := t.timers } := by
  rw [h]
  exact ⟨(promote_promoted s).levels.shows rfl rfl rfl, ((promote_moves s).trans (twinLevels_moves _)).stays⟩

/-! ### Losses of the link and of the witness (R358, R362, R364, R371) -/

/-- The link is lost, before the device decides. -/
def linkMissed (s : State) : State :=
  { (s.wrs [(Reg.TWIN_STATUS_LINK, 0), (Reg.TWIN_STATUS_CAL_VALID, 0)]).bump Reg.TWIN_COUNT0_LINK_LOSS with
    twin := { s.twin with hbRun := 0, hbSeq := none, delayWas := none } }

theorem exec_twinLinkLoss (hl : s.rd Reg.TWIN_STATUS_LINK ≠ 0) (hr : s.ran .link 4000 = true) :
    exec .twinLinkLoss s = .next (twinLevels (twinDecide (linkMissed s))) := by
  change execTwinLinkLoss s = _
  unfold execTwinLinkLoss
  exact if_pos ⟨decide_eq_true hl, hr⟩

theorem exec_twinLinkLoss_waits (h : ¬(s.rd Reg.TWIN_STATUS_LINK ≠ 0 ∧ s.ran .link 4000 = true)) : exec .twinLinkLoss s = .next s := by
  change execTwinLinkLoss s = _
  unfold execTwinLinkLoss
  exact if_neg (by simpa [State.bit] using h)

/-- Fields that the loss of the link writes. -/
def linkMissedRegs : List Fld := [Reg.TWIN_STATUS_LINK, Reg.TWIN_STATUS_CAL_VALID, Reg.TWIN_COUNT0_LINK_LOSS]

theorem linkMissed_regsBut (s : State) : s.regsBut linkMissedRegs (linkMissed s) :=
  State.regsBut.same (((s.regsBut_refl linkMissedRegs).wrs [(Reg.TWIN_STATUS_LINK, 0), (Reg.TWIN_STATUS_CAL_VALID, 0)]
    (by simp [linkMissedRegs])).bump (f := Reg.TWIN_COUNT0_LINK_LOSS) (by simp [linkMissedRegs]) 1) rfl

theorem linkMissed_shows (s : State) : (linkMissed s).rd Reg.TWIN_STATUS_LINK = 0 ∧ (linkMissed s).rd Reg.TWIN_STATUS_CAL_VALID = 0 ∧
    (linkMissed s).rd Reg.TWIN_COUNT0_LINK_LOSS = (s.rd Reg.TWIN_COUNT0_LINK_LOSS + 1) % 2 ^ Reg.TWIN_COUNT0_LINK_LOSS.width := by
  let v := s.wrs [(Reg.TWIN_STATUS_LINK, 0), (Reg.TWIN_STATUS_CAL_VALID, 0)]
  refine ⟨(v.rd_bump_ne (g := Reg.TWIN_STATUS_LINK) (by simp) 1).trans (s.wrs_shows (by simp) (by simp) (by decide)),
    (v.rd_bump_ne (g := Reg.TWIN_STATUS_CAL_VALID) (by simp) 1).trans (s.wrs_shows (by simp) (by simp) (by decide)),
    (v.rd_bump_self Reg.TWIN_COUNT0_LINK_LOSS 1).trans ?_⟩
  rw [s.rd_wrs_ne _ (by simp)]

theorem linkMissed_standing (s : State) : SameStanding s (linkMissed s) :=
  ⟨rfl, rfl, fun f hf => linkMissed_regsBut s f fun g hg => by
    simp only [linkMissedRegs, List.mem_cons, List.not_mem_nil, or_false] at hg
    simp only [twinKey] at hf
    obtain rfl | rfl | rfl := hg <;> simp <;> omega⟩

theorem linkMissed_takes (s : State) : (linkMissed s).takesLead ↔ s.takesLead := by
  have hrd : ∀ f : Fld, (∀ g ∈ linkMissedRegs, g.key ≠ f.key) → (linkMissed s).rd f = s.rd f := linkMissed_regsBut s
  unfold State.takesLead State.mayLead
  rw [(linkMissed_standing s).ineligible, hrd Reg.TWIN_STATUS_CONFLICT (by simp [linkMissedRegs]),
    hrd Reg.TWIN_STATUS_WITNESS (by simp [linkMissedRegs]), hrd Reg.TWIN_STATUS_PAIR_ID (by simp [linkMissedRegs])]
  rfl

theorem linkMissed_follows (s : State) : (linkMissed s).follows ↔ s.follows := by
  unfold State.follows State.twinRole
  rw [linkMissed_regsBut s Reg.TWIN_STATUS_ROLE (by simp [linkMissedRegs])]

theorem linkLost_spec (s : State) : let t := twinLevels (twinDecide (linkMissed s))
    t.rd Reg.TWIN_STATUS_LINK = 0 ∧ t.rd Reg.TWIN_STATUS_CAL_VALID = 0 ∧
      t.rd Reg.TWIN_COUNT0_LINK_LOSS = (s.rd Reg.TWIN_COUNT0_LINK_LOSS + 1) % 2 ^ Reg.TWIN_COUNT0_LINK_LOSS.width ∧
      t.twin = { s.twin with hbRun := 0, hbSeq := none, delayWas := none } ∧
      (t.timers = s.timers ∧
        t = { s with regs := t.regs, twin := t.twin, commons := t.commons, flt := t.flt, timers := t.timers }) ∧
      (¬s.follows → t.commons = s.commons ∧ s.regsBut linkMissedRegs t) ∧
      (s.follows → s.takesLead → Promoted (linkMissed s) t) ∧ (s.follows → ¬s.takesLead → t.rd Reg.TWIN_STATUS_ROLE = 5) := by
  obtain ⟨hlink, hcal, hcount⟩ := linkMissed_shows s
  have hmoves := (twinDecide_moves (linkMissed s)).trans (twinLevels_moves _)
  refine ⟨?_, ?_, ?_, hmoves.twin, ⟨hmoves.timers, ?_⟩, fun h => ?_, fun h ht => ?_, fun h ht => ?_⟩
  · rw [twinLevels_rd, rd_twinDecide ⟨⟨by simp, fun i _ => by simp; omega⟩, by simp, by simp⟩, hlink]
  · rw [twinLevels_rd, rd_twinDecide ⟨⟨by simp, fun i _ => by simp; omega⟩, by simp, by simp⟩, hcal]
  · rw [twinLevels_rd, rd_twinDecide ⟨⟨by simp, fun i _ => by simp; omega⟩, by simp, by simp⟩, hcount]
  · exact hmoves.stays.2
  · rw [decided_other (mt (linkMissed_follows s).mp h), twinLevels_commons]
    exact ⟨rfl, (linkMissed_regsBut s).same (twinLevels_regs _)⟩
  · exact decided_promotes ((linkMissed_follows s).mpr h) hlink ((linkMissed_takes s).mpr ht)
  · exact decided_isolates ((linkMissed_follows s).mpr h) hlink (mt (linkMissed_takes s).mp ht)

/-- The witness is lost, before the device decides. -/
def witnessMissed (s : State) : State := (s.wr Reg.TWIN_STATUS_WITNESS 0).bump Reg.TWIN_COUNT0_WIT_LOSS

theorem exec_witnessLoss (hl : s.rd Reg.TWIN_STATUS_WITNESS ≠ 0) (hr : s.ran .witnessIn 8000 = true) :
    exec .witnessLoss s = .next (twinLevels (twinDecide (witnessMissed s))) := by
  change execWitnessLoss s = _
  unfold execWitnessLoss
  exact if_pos ⟨decide_eq_true hl, hr⟩

theorem exec_witnessLoss_waits (h : ¬(s.rd Reg.TWIN_STATUS_WITNESS ≠ 0 ∧ s.ran .witnessIn 8000 = true)) :
    exec .witnessLoss s = .next s := by
  change execWitnessLoss s = _
  unfold execWitnessLoss
  exact if_neg (by simpa [State.bit] using h)

theorem witnessMissed_moves (s : State) : RoleMoves s (witnessMissed s) :=
  (RoleMoves.wr (by simp [twinKey]) s 0).trans (.bump (by simp [twinKey]) _)

theorem witnessMissed_regsBut (s : State) : s.regsBut [Reg.TWIN_STATUS_WITNESS, Reg.TWIN_COUNT0_WIT_LOSS] (witnessMissed s) :=
  (s.regsBut_wr (f := Reg.TWIN_STATUS_WITNESS) (by simp) 0).bump (f := Reg.TWIN_COUNT0_WIT_LOSS) (by simp) 1

theorem witnessMissed_shows (s : State) : (witnessMissed s).rd Reg.TWIN_STATUS_WITNESS = 0 ∧
    (witnessMissed s).rd Reg.TWIN_COUNT0_WIT_LOSS = (s.rd Reg.TWIN_COUNT0_WIT_LOSS + 1) % 2 ^ Reg.TWIN_COUNT0_WIT_LOSS.width := by
  unfold witnessMissed
  refine ⟨?_, ?_⟩ <;> simp

theorem witnessMissed_takes (s : State) : (witnessMissed s).takesLead ↔ s.mayLead := by
  unfold State.takesLead State.mayLead
  rw [(witnessMissed_moves s).standing.ineligible, witnessMissed_regsBut s Reg.TWIN_STATUS_CONFLICT (by simp),
    (witnessMissed_shows s).1]
  simp

theorem witnessMissed_follows (s : State) : (witnessMissed s).follows ↔ s.follows := by
  unfold State.follows State.twinRole
  rw [witnessMissed_regsBut s Reg.TWIN_STATUS_ROLE (by simp)]

theorem witnessLost_spec (s : State) : let t := twinLevels (twinDecide (witnessMissed s))
    t.rd Reg.TWIN_STATUS_WITNESS = 0 ∧
      t.rd Reg.TWIN_COUNT0_WIT_LOSS = (s.rd Reg.TWIN_COUNT0_WIT_LOSS + 1) % 2 ^ Reg.TWIN_COUNT0_WIT_LOSS.width ∧
      t.twin = s.twin ∧ (t.timers = s.timers ∧
        t = { s with regs := t.regs, twin := t.twin, commons := t.commons, flt := t.flt, timers := t.timers }) ∧
      (¬s.follows → t.commons = s.commons ∧ s.regsBut [Reg.TWIN_STATUS_WITNESS, Reg.TWIN_COUNT0_WIT_LOSS] t) ∧
      (s.follows → s.rd Reg.TWIN_STATUS_LINK ≠ 0 → t.rd Reg.TWIN_STATUS_ROLE = 4) ∧
      (s.follows → s.rd Reg.TWIN_STATUS_LINK = 0 → s.mayLead → Promoted (witnessMissed s) t) ∧
      (s.follows → s.rd Reg.TWIN_STATUS_LINK = 0 → ¬s.mayLead → t.rd Reg.TWIN_STATUS_ROLE = 5) := by
  obtain ⟨hwit, hcount⟩ := witnessMissed_shows s
  have hlink : (witnessMissed s).rd Reg.TWIN_STATUS_LINK = s.rd Reg.TWIN_STATUS_LINK := witnessMissed_regsBut s _ (by simp)
  have hmoves := ((witnessMissed_moves s).trans (twinDecide_moves _)).trans (twinLevels_moves _)
  refine ⟨?_, ?_, hmoves.twin, hmoves.stays, fun h => ?_, fun h hl => ?_, fun h hl hm => ?_, fun h hl hm => ?_⟩
  · rw [twinLevels_rd, rd_twinDecide ⟨⟨by simp, fun i _ => by simp; omega⟩, by simp, by simp⟩, hwit]
  · rw [twinLevels_rd, rd_twinDecide ⟨⟨by simp, fun i _ => by simp; omega⟩, by simp, by simp⟩, hcount]
  · rw [decided_other (mt (witnessMissed_follows s).mp h), twinLevels_commons]
    exact ⟨rfl, (witnessMissed_regsBut s).same (twinLevels_regs _)⟩
  · exact decided_linked ((witnessMissed_follows s).mpr h) (by rw [hlink]; exact hl)
  · exact decided_promotes ((witnessMissed_follows s).mpr h) (hlink.trans hl) ((witnessMissed_takes s).mpr hm)
  · exact decided_isolates ((witnessMissed_follows s).mpr h) (hlink.trans hl) (mt (witnessMissed_takes s).mp hm)

/-! ### Witness frames (R362, R371, R375) -/

/-- What a frame whose EPOCH is `ep` says of the twin has been noted. -/
def witnessHeard (role pair ep : Nat) (inel crimson : Bool) (s : State) : State :=
  ((twinHears role pair ep inel crimson s).wr Reg.TWIN_STATUS_WITNESS 1).arm .witnessIn

/-- The device decides by a witness frame. -/
def witnessTaken (role pair ep : Nat) (inel crimson : Bool) (s : State) : State :=
  twinLevels (resolveRoles (twinDecide (witnessHeard role pair ep inel crimson s)))

theorem exec_witnessFrame {word : BitVec 32} (he : s.rd Reg.TWIN_CFG_EN ≠ 0) (hc : crc8 word = word.toNat % 256) :
    exec (.witnessFrame word) s = .next (witnessTaken (word.toNat / 2 ^ 29) (word.toNat / 2 ^ 28 % 2)
      (word.toNat / 2 ^ 12 % 65536) (word.getLsbD 11) (word.getLsbD 10) s) := by
  change execWitnessFrame word s = _
  unfold execWitnessFrame
  exact if_neg (by simp [State.bit, he, hc])

theorem exec_witnessFrame_bad {word : BitVec 32} (h : ¬(s.rd Reg.TWIN_CFG_EN ≠ 0 ∧ crc8 word = word.toNat % 256)) :
    exec (.witnessFrame word) s = .next s := by
  change execWitnessFrame word s = _
  unfold execWitnessFrame
  exact if_pos (by simpa [State.bit, imp_iff_not_or] using h)

section
variable (role pair ep : Nat) (inel crimson : Bool) (s : State)

theorem witnessHeard_regsBut : s.regsBut [Reg.TWIN_STATUS_WITNESS, Reg.TWIN_EPOCH_TWIN] (witnessHeard role pair ep inel crimson s) :=
  State.regsBut.same ((s.regsBut_wr (f := Reg.TWIN_EPOCH_TWIN) (by simp) ep).wr (f := Reg.TWIN_STATUS_WITNESS) (by simp) 1) rfl

theorem witnessHeard_standing : SameStanding s (witnessHeard role pair ep inel crimson s) :=
  ⟨rfl, rfl, fun f hf => witnessHeard_regsBut role pair ep inel crimson s f fun g hg => by
    simp only [List.mem_cons, List.not_mem_nil, or_false] at hg
    simp only [twinKey] at hf
    obtain rfl | rfl := hg <;> simp <;> omega⟩

theorem rd_witnessHeard_witness : (witnessHeard role pair ep inel crimson s).rd Reg.TWIN_STATUS_WITNESS = 1 :=
  State.rd_wr_self (twinHears role pair ep inel crimson s) Reg.TWIN_STATUS_WITNESS 1

theorem rd_witnessHeard_epoch (hep : ep < 65536) : (witnessHeard role pair ep inel crimson s).rd Reg.TWIN_EPOCH_TWIN = ep := by
  refine (State.rd_wr_ne (twinHears role pair ep inel crimson s) (f := Reg.TWIN_STATUS_WITNESS) (g := Reg.TWIN_EPOCH_TWIN) (by simp) 1).trans ?_
  exact (s.rd_wr_self Reg.TWIN_EPOCH_TWIN ep).trans (Nat.mod_eq_of_lt hep)

theorem witnessHeard_follows : (witnessHeard role pair ep inel crimson s).follows ↔ s.follows := by
  unfold State.follows State.twinRole
  rw [witnessHeard_regsBut role pair ep inel crimson s Reg.TWIN_STATUS_ROLE (by simp)]

theorem witnessHeard_takes : (witnessHeard role pair ep inel crimson s).takesLead ↔
    s.mayLead ∧ role ≠ 3 ∧ (s.rd Reg.TWIN_STATUS_PAIR_ID = 0 ∨ inel = true) := by
  unfold State.takesLead State.mayLead
  rw [(witnessHeard_standing role pair ep inel crimson s).ineligible,
    witnessHeard_regsBut role pair ep inel crimson s Reg.TWIN_STATUS_CONFLICT (by simp),
    witnessHeard_regsBut role pair ep inel crimson s Reg.TWIN_STATUS_PAIR_ID (by simp), rd_witnessHeard_witness]
  simp only [Nat.one_ne_zero, false_or]
  rfl

theorem witnessHeard_wins : (witnessHeard role pair ep inel crimson s).wins ↔
    staysPrimary (s.rd Reg.TWIN_STATUS_PAIR_ID) s.crimson crimson := by
  unfold State.wins
  rw [(witnessHeard_standing role pair ep inel crimson s).crimson,
    witnessHeard_regsBut role pair ep inel crimson s Reg.TWIN_STATUS_PAIR_ID (by simp)]
  rfl

theorem witnessTaken_moves : RoleMoves (witnessHeard role pair ep inel crimson s) (witnessTaken role pair ep inel crimson s) :=
  ((twinDecide_moves _).trans (resolveRoles_moves _)).trans (twinLevels_moves _)

theorem rd_witnessTaken {f : Fld} (hd : decideFree f) (hr : resolveFree f) :
    (witnessTaken role pair ep inel crimson s).rd f = (witnessHeard role pair ep inel crimson s).rd f := by
  rw [witnessTaken, twinLevels_rd, rd_resolveRoles hr, rd_twinDecide hd]

/-- What every frame leaves. -/
theorem witnessTaken_noted (hep : ep < 65536) : let t := witnessTaken role pair ep inel crimson s
    t.rd Reg.TWIN_STATUS_WITNESS = 1 ∧ t.rd Reg.TWIN_EPOCH_TWIN = ep ∧ t.age .witnessIn = 0 ∧
      t.twin = { s.twin with heard := true, role := role, pair := pair, inel := inel, crimson := crimson } ∧
      t = { s with regs := t.regs, twin := t.twin, commons := t.commons, flt := t.flt, timers := t.timers } := by
  have hmoves := witnessTaken_moves role pair ep inel crimson s
  refine ⟨?_, ?_, ?_, hmoves.twin, ?_⟩
  · have hfree : roleFree Reg.TWIN_STATUS_WITNESS := ⟨by simp, fun i _ => by simp; omega⟩
    rw [rd_witnessTaken role pair ep inel crimson s ⟨hfree, by simp, by simp⟩ ⟨hfree, by simp, by simp, by simp⟩,
      rd_witnessHeard_witness]
  · have hfree : roleFree Reg.TWIN_EPOCH_TWIN := ⟨by simp, fun i _ => by simp; omega⟩
    rw [rd_witnessTaken role pair ep inel crimson s ⟨hfree, by simp, by simp⟩ ⟨hfree, by simp, by simp, by simp⟩,
      rd_witnessHeard_epoch _ _ _ _ _ _ hep]
  · rw [hmoves.age]
    exact State.age_arm _ .witnessIn
  · exact hmoves.stays.2

/-- A device that is neither a follower nor PRIMARY takes note alone. -/
theorem witnessTaken_bystander (h : s.twinRole < 3) : let t := witnessTaken role pair ep inel crimson s
    ¬t.present 41 noInst ∧ t.commons = s.commons ∧ s.regsBut [Reg.TWIN_STATUS_WITNESS, Reg.TWIN_EPOCH_TWIN] t := by
  have hrole : (witnessHeard role pair ep inel crimson s).twinRole = s.twinRole :=
    witnessHeard_regsBut role pair ep inel crimson s Reg.TWIN_STATUS_ROLE (by simp)
  have hfollows : ¬(witnessHeard role pair ep inel crimson s).follows := by
    unfold State.follows
    omega
  have heq : witnessTaken role pair ep inel crimson s = twinLevels (witnessHeard role pair ep inel crimson s) := by
    rw [witnessTaken, twinDecide_other hfollows, resolveRoles_alone (.inl (by omega))]
  intro t
  refine ⟨fun hp => ?_, ?_, ?_⟩
  · have hpresent : (twinLevels (witnessHeard role pair ep inel crimson s)).present 41 noInst := by
      rw [← heq]
      exact hp
    have hwit := ((twinLevels_witness _).mp hpresent).2
    rw [rd_witnessHeard_witness] at hwit
    exact absurd hwit (by decide)
  · simp only [t, heq, twinLevels_commons]
    rfl
  · exact (witnessHeard_regsBut role pair ep inel crimson s).same (by simp only [t, heq, twinLevels_regs])

variable {role pair ep inel crimson s}

/-- What a follower makes of a frame. -/
theorem witnessTaken_linked (hf : s.follows) (hl : s.rd Reg.TWIN_STATUS_LINK ≠ 0) :
    (witnessTaken role pair ep inel crimson s).rd Reg.TWIN_STATUS_ROLE = 4 := by
  have hlink : (witnessHeard role pair ep inel crimson s).rd Reg.TWIN_STATUS_LINK ≠ 0 := by
    rw [witnessHeard_regsBut role pair ep inel crimson s Reg.TWIN_STATUS_LINK (by simp)]
    exact hl
  have hrole : ((witnessHeard role pair ep inel crimson s).wr Reg.TWIN_STATUS_ROLE 4).rd Reg.TWIN_STATUS_ROLE = 4 := State.rd_wr_self ..
  rw [witnessTaken, twinDecide_linked ((witnessHeard_follows ..).mpr hf) hlink,
    resolveRoles_alone (.inl (by rw [State.twinRole, hrole]; decide)), twinLevels_rd, hrole]

theorem witnessTaken_promotes (hf : s.follows) (hl : s.rd Reg.TWIN_STATUS_LINK = 0) (hm : s.mayLead) (hr : role ≠ 3)
    (hi : s.rd Reg.TWIN_STATUS_PAIR_ID = 0 ∨ inel = true) :
    Promoted (witnessHeard role pair ep inel crimson s) (witnessTaken role pair ep inel crimson s) := by
  have hlink : (witnessHeard role pair ep inel crimson s).rd Reg.TWIN_STATUS_LINK = 0 :=
    (witnessHeard_regsBut role pair ep inel crimson s Reg.TWIN_STATUS_LINK (by simp)).trans hl
  rw [witnessTaken, twinDecide_takes ((witnessHeard_follows ..).mpr hf) hlink ((witnessHeard_takes ..).mpr ⟨hm, hr, hi⟩),
    resolveRoles_alone (.inr (by rw [(promote_moves _).twin]; exact hr))]
  exact (promote_promoted _).levels

theorem witnessTaken_isolates (hf : s.follows) (hl : s.rd Reg.TWIN_STATUS_LINK = 0)
    (h : ¬(s.mayLead ∧ role ≠ 3 ∧ (s.rd Reg.TWIN_STATUS_PAIR_ID = 0 ∨ inel = true))) :
    (witnessTaken role pair ep inel crimson s).rd Reg.TWIN_STATUS_ROLE = 5 := by
  have hlink : (witnessHeard role pair ep inel crimson s).rd Reg.TWIN_STATUS_LINK = 0 :=
    (witnessHeard_regsBut role pair ep inel crimson s Reg.TWIN_STATUS_LINK (by simp)).trans hl
  have hrole : ((witnessHeard role pair ep inel crimson s).wr Reg.TWIN_STATUS_ROLE 5).rd Reg.TWIN_STATUS_ROLE = 5 := State.rd_wr_self ..
  rw [witnessTaken, twinDecide_isolates ((witnessHeard_follows ..).mpr hf) hlink (mt (witnessHeard_takes ..).mp h),
    resolveRoles_alone (.inl (by rw [State.twinRole, hrole]; decide)), twinLevels_rd, hrole]

/-- What a PRIMARY makes of a frame. -/
theorem witnessTaken_stays (h : s.twinRole = 3) (hw : role ≠ 3 ∨ staysPrimary (s.rd Reg.TWIN_STATUS_PAIR_ID) s.crimson crimson) :
    (witnessTaken role pair ep inel crimson s).rd Reg.TWIN_STATUS_ROLE = 3 ∧
      (witnessTaken role pair ep inel crimson s).rd Reg.TWIN_EPOCH_OWN = s.rd Reg.TWIN_EPOCH_OWN := by
  have hregs := witnessHeard_regsBut role pair ep inel crimson s
  have hrole : (witnessHeard role pair ep inel crimson s).twinRole = 3 := (hregs Reg.TWIN_STATUS_ROLE (by simp)).trans h
  have hresolve : resolveRoles (witnessHeard role pair ep inel crimson s) = witnessHeard role pair ep inel crimson s :=
    hw.elim (fun hr => resolveRoles_alone (.inr hr)) fun hw => resolveRoles_wins ((witnessHeard_wins ..).mpr hw)
  have hfollows : ¬(witnessHeard role pair ep inel crimson s).follows := by
    unfold State.follows
    omega
  rw [witnessTaken, twinDecide_other hfollows, hresolve, twinLevels_rd, twinLevels_rd]
  exact ⟨hrole, hregs _ (by simp)⟩

theorem witnessTaken_yields (h : s.twinRole = 3) (hr : role = 3)
    (hw : ¬staysPrimary (s.rd Reg.TWIN_STATUS_PAIR_ID) s.crimson crimson) :
    Yielded (witnessHeard role pair ep inel crimson s) (if s.rd Reg.TWIN_STATUS_LINK ≠ 0 then 4 else 5)
      (witnessTaken role pair ep inel crimson s) := by
  have hregs := witnessHeard_regsBut role pair ep inel crimson s
  have hrole : (witnessHeard role pair ep inel crimson s).twinRole = 3 := (hregs Reg.TWIN_STATUS_ROLE (by simp)).trans h
  have hfollows : ¬(witnessHeard role pair ep inel crimson s).follows := by
    unfold State.follows
    omega
  have hto : (witnessHeard role pair ep inel crimson s).secondaryRole = if s.rd Reg.TWIN_STATUS_LINK ≠ 0 then 4 else 5 := by
    rw [secondaryRole_eq, hregs Reg.TWIN_STATUS_LINK (by simp)]
  rw [witnessTaken, twinDecide_other hfollows, resolveRoles_yields hrole hr (mt (witnessHeard_wins ..).mp hw), hto]
  exact (yielded_spec (by split <;> decide) _).levels

end

/-! ### Demotion (R373) -/

theorem exec_twinDemote (h : s.hostOpen Reg.TWIN_CMD_DEMOTE.addr) :
    exec .twinDemote s = .next ((demoteRequest s).wr Reg.TWIN_CMD_DEMOTE 0) :=
  hostCmd_plain _ doTwinDemote s _ h (by decide) (by decide) rfl

/-- From `s` to `t` a demotion has run. -/
def Demoted (s t : State) : Prop := t.rd Reg.TWIN_STATUS_ROLE = 4 ∧ t.rd Reg.TWIN_STATUS_DEMOTE_PENDING = 0 ∧
  t.rd Reg.TWIN_COUNT1_DEMOTIONS = (s.rd Reg.TWIN_COUNT1_DEMOTIONS + 1) % 2 ^ Reg.TWIN_COUNT1_DEMOTIONS.width ∧
  roleNotice 4 ∈ t.flt.inflight ∧ t.twin = { s.twin with demoteReq := true } ∧ t.commons = s.commons ∧ t.timers = s.timers ∧
  t = { s with regs := t.regs, twin := t.twin, commons := t.commons, flt := t.flt, timers := t.timers }

/-- The registers once the demotion has run. -/
def demotedRegs (s : State) : State :=
  (((s.wr Reg.TWIN_STATUS_ROLE 4).wr Reg.TWIN_STATUS_DEMOTE_PENDING 0).bump Reg.TWIN_COUNT1_DEMOTIONS).raise 42 noInst 4

theorem demote_eq (s : State) : demote s = { demotedRegs s with twin := { s.twin with demoteReq := true } } := by
  unfold demote
  dsimp only
  rw [setRole_follower (r := roleSecondary) (.inl rfl)]
  rfl

theorem demote_demoted (s : State) : Demoted s (demote s) := by
  rw [demote_eq]
  have hrd : ∀ f, State.rd { demotedRegs s with twin := { s.twin with demoteReq := true } } f = (demotedRegs s).rd f := fun _ => rfl
  refine ⟨?_, ?_, ?_, List.mem_append_right _ List.mem_cons_self, rfl, rfl, rfl, rfl⟩ <;> rw [hrd, demotedRegs, State.rd_raise] <;> simp

/-- The write that ends a command leaves a demotion as it was. -/
theorem Demoted.wr (h : Demoted s t) : Demoted s (t.wr Reg.TWIN_CMD_DEMOTE 0) := by
  obtain ⟨hrole, hpending, hcount, htold, htwin, hcommons, htimers, hframe⟩ := h
  refine ⟨?_, ?_, ?_, htold, htwin, hcommons, htimers, ?_⟩
  · rw [State.rd_wr_ne _ (by simp), hrole]
  · rw [State.rd_wr_ne _ (by simp), hpending]
  · rw [State.rd_wr_ne _ (by simp), hcount]
  · rw [hframe]
    rfl

theorem demoteRequest_runs (h : s.twinRole = 3) (hc : s.canDemote = true) : demoteRequest s = demote s := by
  rw [demoteRequest, if_neg (fun hn => hn h), if_pos hc]

theorem demoteRequest_waits (h : s.twinRole = 3) (hc : s.canDemote = false) :
    demoteRequest s = s.wr Reg.TWIN_STATUS_DEMOTE_PENDING 1 := by
  rw [demoteRequest, if_neg (fun hn => hn h), if_neg (by simp [hc])]

theorem demoteRequest_void (h : s.twinRole ≠ 3) : demoteRequest s = s := if_pos h

theorem exec_demoteRun (h : s.rd Reg.TWIN_STATUS_DEMOTE_PENDING ≠ 0 ∧ s.twinRole = 3 ∧ s.canDemote = true) :
    exec .demoteRun s = .next (demote s) := by
  change execDemoteRun s = _
  unfold execDemoteRun
  exact congrArg _ (if_pos ⟨decide_eq_true h.1, h.2⟩)

theorem exec_demoteRun_waits (h : ¬(s.rd Reg.TWIN_STATUS_DEMOTE_PENDING ≠ 0 ∧ s.twinRole = 3 ∧ s.canDemote = true)) :
    exec .demoteRun s = .next s := by
  change execDemoteRun s = _
  unfold execDemoteRun
  exact congrArg _ (if_neg fun hr => h ⟨of_decide_eq_true hr.1, hr.2⟩)

/-! ### Lanes (R358) -/

/-- The field that shows lane `lane`. -/
def laneField (lane : Nat) : Fld := if lane = 0 then Reg.TWIN_STATUS_LANE0_OK else Reg.TWIN_STATUS_LANE1_OK

theorem exec_laneDown {lane : Fin 2} (h : s.ran (.lane lane) 4000 = true) :
    exec (.laneDown lane) s = .next ((s.wr (laneField lane) 0).level 43 lane true) := by
  change execLaneDown lane s = _
  unfold execLaneDown
  exact congrArg _ (if_pos h)

theorem exec_laneDown_waits {lane : Fin 2} (h : s.ran (.lane lane) 4000 = false) : exec (.laneDown lane) s = .next s := by
  change execLaneDown lane s = _
  unfold execLaneDown
  exact congrArg _ (if_neg (by simp [h]))

theorem laneDown_spec (lane : Nat) (s : State) : let t := (s.wr (laneField lane) 0).level 43 lane true
    t.rd (laneField lane) = 0 ∧ t.present 43 lane ∧ s.regsBut [laneField lane] t ∧ t = { s with regs := t.regs, flt := t.flt } := by
  obtain ⟨c, hc⟩ := (s.wr (laneField lane) 0).level_frame 43 lane true 0
  refine ⟨?_, State.present_level_on _ 43 lane 0, ?_, ?_⟩
  · rw [State.rd_level, State.rd_wr_self, Nat.zero_mod]
  · exact (s.regsBut_wr List.mem_cons_self 0).same (State.level_regs ..)
  · rw [hc]
    rfl

/-! ### The obligation -/

/-- Settles O40, event by event. -/
theorem twinRoles : Obligations.twin_roles := by
  intro word lane s
  have hep : word.toNat / 2 ^ 12 % 65536 < 65536 := Nat.mod_lt _ (by decide)
  refine ⟨fun ho => ⟨fun h => exec_twinEnable ho (doTwinEnable_ignored h), fun h he => ?_, fun h => exec_twinDisable ho (doTwinDisable_ignored h),
    fun h => ?_⟩, exec_seekingEnd_waits, fun hs => ⟨fun hc => ?_, fun hc hy => ?_, fun hc hy hp => ?_, fun hc hy hh hid hi => ?_⟩,
    exec_twinLinkLoss_waits, fun hl => ?_, exec_witnessFrame_bad, fun hfr hr => ?_, fun hfr hf => ?_, fun hfr hr => ?_,
    exec_witnessLoss_waits, fun hw => ?_, fun ho => ⟨fun h hc => ?_, fun h hc => ?_, fun h => ?_⟩, fun h => ?_, exec_demoteRun_waits,
    exec_laneDown_waits, fun h => ?_⟩
  · exact ⟨_, exec_twinEnable ho (doTwinEnable_seeks h he), (seekingRegs_set s).entered⟩
  · exact ⟨_, exec_twinDisable ho (doTwinDisable_ends h), (disabled_set s).levels⟩
  · exact ⟨_, exec_seekingEnd hs.1 hs.2, seeking_conflict hc⟩
  · exact ⟨_, exec_seekingEnd hs.1 hs.2, seeking_followed (seekingTo_yields hc hy)⟩
  · exact ⟨_, exec_seekingEnd hs.1 hs.2, seeking_promoted (seekingTo_promotes hc hy hp)⟩
  · exact ⟨_, exec_seekingEnd hs.1 hs.2, seeking_followed (seekingTo_waits hc hy hh hid hi)⟩
  · obtain ⟨hlink, hcal, hcount, htwin, hstays, hother, hlead, hiso⟩ := linkLost_spec s
    exact ⟨_, exec_twinLinkLoss hl.1 hl.2, hlink, hcal, hcount, htwin, hstays, hother, fun hf ht => (hlead hf ht).shows
      (linkMissed_regsBut s _ (by simp [linkMissedRegs])) (linkMissed_regsBut s _ (by simp [linkMissedRegs]))
      (linkMissed_regsBut s _ (by simp [linkMissedRegs])), hiso⟩
  · obtain ⟨hlevel, hcommons, hregs⟩ := witnessTaken_bystander (word.toNat / 2 ^ 29) (word.toNat / 2 ^ 28 % 2)
      (word.toNat / 2 ^ 12 % 65536) (word.getLsbD 11) (word.getLsbD 10) s hr
    exact ⟨_, exec_witnessFrame hfr.1 hfr.2, witnessTaken_noted _ _ _ _ _ s hep, hlevel, hcommons, hregs⟩
  · refine ⟨_, exec_witnessFrame hfr.1 hfr.2, witnessTaken_noted _ _ _ _ _ s hep, fun hl => witnessTaken_linked hf hl,
      fun hl hm hr hi => ?_, fun hl hn => witnessTaken_isolates hf hl hn⟩
    exact (witnessTaken_promotes hf hl hm hr hi).shows (witnessHeard_regsBut _ _ _ _ _ s _ (by simp))
      (rd_witnessHeard_epoch _ _ _ _ _ s hep) (witnessHeard_regsBut _ _ _ _ _ s _ (by simp))
  · refine ⟨_, exec_witnessFrame hfr.1 hfr.2, witnessTaken_noted _ _ _ _ _ s hep, fun hw => witnessTaken_stays hr hw, fun h3 hw => ?_⟩
    obtain ⟨hrole, hown, hcount, htold⟩ := witnessTaken_yields (pair := word.toNat / 2 ^ 28 % 2) (ep := word.toNat / 2 ^ 12 % 65536)
      (inel := word.getLsbD 11) hr h3 hw
    refine ⟨hrole, ?_, hcount.trans ?_, htold⟩
    · rw [hown, rd_witnessHeard_epoch _ _ _ _ _ s hep, Nat.mod_mod]
    · rw [witnessHeard_regsBut _ _ _ _ _ s Reg.TWIN_COUNT1_DEMOTIONS (by simp)]
  · obtain ⟨hwit, hcount, htwin, hstays, hother, hlinked, hlead, hiso⟩ := witnessLost_spec s
    exact ⟨_, exec_witnessLoss hw.1 hw.2, hwit, hcount, htwin, hstays, hother, hlinked, fun hf hl hm => (hlead hf hl hm).shows
      (witnessMissed_regsBut s _ (by simp)) (witnessMissed_regsBut s _ (by simp)) (witnessMissed_regsBut s _ (by simp)), hiso⟩
  · exact ⟨_, exec_twinDemote ho, by rw [demoteRequest_runs h hc]; exact (demote_demoted s).wr, State.rd_wr_self ..⟩
  · refine ⟨_, exec_twinDemote ho, ?_⟩
    rw [demoteRequest_waits h hc]
    exact ⟨s.wrs_shows (l := [(Reg.TWIN_STATUS_DEMOTE_PENDING, 1), (Reg.TWIN_CMD_DEMOTE, 0)]) (by simp) (by simp) (by decide),
      State.rd_wr_self .., s.onlyRegs_wrs [(Reg.TWIN_STATUS_DEMOTE_PENDING, 1), (Reg.TWIN_CMD_DEMOTE, 0)] (by simp)⟩
  · refine ⟨_, exec_twinDemote ho, ?_⟩
    rw [demoteRequest_void h]
    exact ⟨State.rd_wr_self .., s.onlyRegs_wrs [(Reg.TWIN_CMD_DEMOTE, 0)] (by simp)⟩
  · exact ⟨_, exec_demoteRun h, demote_demoted s⟩
  · exact ⟨_, exec_laneDown h, laneDown_spec lane s⟩

end Sys2Proof.Machine
end


section
/-! SUPPORT for the resets: what the steps of a reset leave as it is (R437 to R439, R481). -/
namespace Sys2Proof.Machine

variable {s t u : State}

/-! ### Frames -/

/-- A field of PWR or RST, which no reset of SOFT class sets back. -/
def powerField (f : Fld) : Prop := 32 * 0x1000 ≤ f.key ∧ f.key < 32 * 0x3000

/-- From `s` to `t` PWR, RST, the dies, the queue and the keys are as they were. -/
structure BootKeeps (s t : State) : Prop where
  rd : ∀ f, powerField f → t.rd f = s.rd f
  dies : t.nor = s.nor ∧ t.fuses = s.fuses ∧ t.pending = s.pending
  keys : t.keys = s.keys

theorem BootKeeps.of_regs (hregs : t.regs = s.regs) (hdies : t.nor = s.nor ∧ t.fuses = s.fuses ∧ t.pending = s.pending)
    (hkeys : t.keys = s.keys) : BootKeeps s t := ⟨fun f _ => congrArg (tabGet f.reset f.key) hregs, hdies, hkeys⟩

theorem BootKeeps.trans (h : BootKeeps s t) (h' : BootKeeps t u) : BootKeeps s u := by
  obtain ⟨hrd, ⟨hnor, hfuses, hpending⟩, hkeys⟩ := h
  obtain ⟨hrd', ⟨hnor', hfuses', hpending'⟩, hkeys'⟩ := h'
  exact ⟨fun f hf => (hrd' f hf).trans (hrd f hf), ⟨hnor'.trans hnor, hfuses'.trans hfuses, hpending'.trans hpending⟩, hkeys'.trans hkeys⟩

/-- From `s` to `t` what the engines stand on is as it was, too. -/
structure ResetKeeps (s t : State) : Prop extends BootKeeps s t where
  engines : t.eng = s.eng ∧ t.words = s.words ∧ t.image = s.image ∧ t.subst = s.subst ∧ t.out = s.out

theorem ResetKeeps.refl (s : State) : ResetKeeps s s := ⟨⟨fun _ _ => rfl, ⟨rfl, rfl, rfl⟩, rfl⟩, rfl, rfl, rfl, rfl, rfl⟩

theorem ResetKeeps.trans (h : ResetKeeps s t) (h' : ResetKeeps t u) : ResetKeeps s u := by
  obtain ⟨hboot, heng, hwords, himage, hsubst, hout⟩ := h
  obtain ⟨hboot', heng', hwords', himage', hsubst', hout'⟩ := h'
  exact ⟨hboot.trans hboot', heng'.trans heng, hwords'.trans hwords, himage'.trans himage, hsubst'.trans hsubst, hout'.trans hout⟩

/-- From `s` to `t` the last steps of a reset are made: rings, roles, ports, commons, the host interfaces, the DRAM and the
lifetime counts are as they were besides. -/
structure SettleKeeps (s t : State) : Prop extends ResetKeeps s t where
  records : t.rings = s.rings ∧ t.roles = s.roles ∧ t.ports = s.ports
  memories : t.commons = s.commons ∧ t.dram = s.dram
  host : t.host.ready = s.host.ready ∧ t.pwr.vddcHold = s.pwr.vddcHold
  life : t.flt.life = s.flt.life

theorem SettleKeeps.trans (h : SettleKeeps s t) (h' : SettleKeeps t u) : SettleKeeps s u := by
  obtain ⟨hkeeps, ⟨hrings, hroles, hports⟩, ⟨hcommons, hdram⟩, ⟨hhost, hhold⟩, hlife⟩ := h
  obtain ⟨hkeeps', ⟨hrings', hroles', hports'⟩, ⟨hcommons', hdram'⟩, ⟨hhost', hhold'⟩, hlife'⟩ := h'
  exact ⟨hkeeps.trans hkeeps', ⟨hrings'.trans hrings, hroles'.trans hroles, hports'.trans hports⟩,
    ⟨hcommons'.trans hcommons, hdram'.trans hdram⟩, ⟨hhost'.trans hhost, hhold'.trans hhold⟩, hlife'.trans hlife⟩

/-- What changes registers outside PWR and RST and parts that no clause of a reset names. -/
theorem SettleKeeps.of_frame {r : Tab Nat} {n : FltSt} {ch : Tab ChanSt} {md : List (Nat × Nat)} {ma : Option Nat} {ap : Tab ApllSt}
    {os : Tab OutSt} {fr : Nat} {tm : List (Timer × Nat)} {w : Nat}
    (ht : t = { s with
      regs := r, flt := n, chans := ch, mapTdc := md, mapApll := ma, aplls := ap, outs := os, free := fr, timers := tm
      pwr := { s.pwr with wdog := w } })
    (hrd : ∀ f, powerField f → t.rd f = s.rd f) (hlife : n.life = s.flt.life) : SettleKeeps s t := by
  subst ht
  exact ⟨⟨⟨hrd, ⟨rfl, rfl, rfl⟩, rfl⟩, rfl, rfl, rfl, rfl, rfl⟩, ⟨rfl, rfl, rfl⟩, ⟨rfl, rfl⟩, ⟨rfl, rfl⟩, hlife⟩

theorem SettleKeeps.refl (s : State) : SettleKeeps s s := .of_frame rfl (fun _ _ => rfl) rfl

theorem powerField.ne {f g : Fld} (h : powerField f) (hg : ¬powerField g) : g.key ≠ f.key := fun hk => hg (by
  unfold powerField
  rw [hk]
  exact h)

theorem SettleKeeps.wr {f : Fld} (hf : ¬powerField f) (s : State) (v : Nat) : SettleKeeps s (s.wr f v) :=
  .of_frame rfl (fun _ hg => s.rd_wr_ne (hg.ne hf) v) rfl

theorem SettleKeeps.wrs {l : List (Fld × Nat)} (h : ∀ p ∈ l, ¬powerField p.1) (s : State) : SettleKeeps s (s.wrs l) := by
  obtain ⟨r, hr⟩ := s.wrs_frame l
  exact .of_frame hr (fun f hf => s.rd_wrs_ne l fun p hp => hf.ne (h p hp)) rfl

/-- A change of the collector that leaves the lifetime counts. -/
theorem SettleKeeps.flt {c : FltSt} (h : c.life = s.flt.life) : SettleKeeps s { s with flt := c } :=
  .of_frame rfl (fun _ _ => rfl) h

theorem SettleKeeps.raise (s : State) (ev inst info : Nat) : SettleKeeps s (s.raise ev inst info) := .flt rfl

theorem SettleKeeps.level (s : State) (ev inst : Nat) (on : Bool) (info : Nat) : SettleKeeps s (s.level ev inst on info) := by
  unfold State.level
  split
  · split
    · exact .of_frame rfl (fun _ _ => rfl) rfl
    · exact .of_frame rfl (fun _ _ => rfl) rfl
  · split
    · exact .of_frame rfl (fun _ _ => rfl) rfl
    · exact .of_frame rfl (fun _ _ => rfl) rfl

theorem SettleKeeps.forRange {n : Nat} {f : Nat → State → State} (h : ∀ i t, i < n → SettleKeeps t (f i t)) (s : State) :
    SettleKeeps s (forRange n f s) := forRange_keeps (SettleKeeps s) (fun i hi _ ht => ht.trans (h i _ hi)) (.refl s)

/-! ### Registers set back (R439) -/

/-- Is the register of key `k` among those set back? -/
def droppedKey (lo hi : Nat) (p : Fld → Bool) (k : Nat) : Bool :=
  decide (lo ≤ k / 32 ∧ k / 32 < hi) && (fieldsAt (k / 32)).any (fun f => decide (f.lo = k % 32) && p f)

theorem rd_dropRegs_outside {f : Fld} {lo hi : Nat} (h : f.key < 32 * lo ∨ 32 * hi ≤ f.key) (p : Fld → Bool) (s : State) :
    (dropRegs lo hi p s).rd f = s.rd f := by
  have hkey : droppedKey lo hi p f.key = false := Bool.and_eq_false_imp.mpr fun hrange => by
    have := of_decide_eq_true hrange
    omega
  have hclear : (dropRegs lo hi p s).rd f = if droppedKey lo hi p f.key then f.reset else s.rd f :=
    tabGet_clear f.reset (droppedKey lo hi p) f.key s.regs
  rw [hclear, hkey]
  exact if_neg Bool.false_ne_true

/-- Registers are set back, of which none is in PWR or RST. -/
theorem dropRegs_keeps {lo hi : Nat} (h : hi ≤ 0x1000 ∨ 0x3000 ≤ lo) (p : Fld → Bool) (s : State) : SettleKeeps s (dropRegs lo hi p s) :=
  .of_frame rfl (fun f hf => rd_dropRegs_outside (by unfold powerField at hf; omega) p s) rfl

/-! ### The repair map (R480, R481) -/

theorem spareServes_keeps (k c : Nat) (d : Int) (s : State) : SettleKeeps s (spareServes k c d s) := by
  have hmeasured : SettleKeeps s ((s.putChan (48 + k) { s.chan (48 + k) with added := d }).wri (Reg.TDCG_MIRROR_DIFF_D k) (satInt 32 d)) :=
    .trans (t := s.putChan (48 + k) { s.chan (48 + k) with added := d }) (.of_frame rfl (fun _ _ => rfl) rfl)
      (.wr (by simp [powerField]; omega) _ _)
  exact (hmeasured.trans (.wrs (by simp [powerField]; omega) _)).trans (.raise ..)

theorem spareConnect_keeps (k c : Nat) (s : State) : SettleKeeps s (spareConnect k c s) := .wrs (by simp [powerField]; omega) s

theorem mapTakes_keeps (s : State) : SettleKeeps s (mapTakes s) := by
  unfold mapTakes
  refine List.foldlRecOn _ _ (.refl s) fun t ht e _ => ht.trans ?_
  have herase : SettleKeeps t { t with mapTdc := t.mapTdc.erase e } := .of_frame rfl (fun _ _ => rfl) rfl
  dsimp only
  split
  · exact herase.trans (.wr (by simp [powerField]) _ _)
  · split
    · exact (herase.trans (spareConnect_keeps ..)).trans (spareServes_keeps ..)
    · exact .refl t

theorem mapTdcApply_keeps (s : State) : SettleKeeps s (mapTdcApply s) := by
  have hlist (m : List (Nat × Nat)) : SettleKeeps s { s with mapTdc := m } := .of_frame rfl (fun _ _ => rfl) rfl
  have hskip (t : State) : SettleKeeps t (t.wr Reg.TST_REPAIR_STATUS_MAP_SKIP 0) := .wr (by simp [powerField]) t 0
  exact ((hlist _).trans (hskip _)).trans (mapTakes_keeps _)

theorem repairField_outside (k : Nat) : ¬powerField (repairField k) := by
  unfold repairField
  split
  · simp [powerField]
  · split
    · simp [powerField]
    · split <;> simp [powerField]

theorem mapRegs_keeps (s : State) : SettleKeeps s (mapRegs s) :=
  .trans (.forRange (fun i t _ => .wr (repairField_outside i) t _) s) (.wr (by simp [powerField]) _ _)

/-- A8 is dedicated to APLL `k`. -/
def apllDedicated (k : Nat) (s : State) : State := { s with mapApll := some k }.wrs
  [(Reg.APLL_CFG_EN k, 0), (Reg.APLL_COVER_APLL 8, k), (Reg.APLL_COVER_RESCUE 8, 0), (Reg.TST_REPAIR_STATUS_APLL_APPLIED, 1)]

theorem SettleKeeps.mapApll (s : State) (m : Option Nat) : SettleKeeps s { s with mapApll := m } := .of_frame rfl (fun _ _ => rfl) rfl

theorem apllDedicated_keeps (k : Nat) (s : State) : SettleKeeps s (apllDedicated k s) :=
  (SettleKeeps.mapApll s (some k)).trans (.wrs (l := [(Reg.APLL_CFG_EN k, 0), (Reg.APLL_COVER_APLL 8, k), (Reg.APLL_COVER_RESCUE 8, 0),
    (Reg.TST_REPAIR_STATUS_APLL_APPLIED, 1)]) (by simp [powerField]; omega) _)

theorem mapApllApply_eq (h : s.mapFailed < 8) : mapApllApply s = mapOutputs s.mapFailed ((apllDedicated s.mapFailed s).putApll 8
    { (apllDedicated s.mapFailed s).apll 8 with cover := s.mapFailed }) := if_pos h

theorem mapApllApply_keeps (s : State) : SettleKeeps s (mapApllApply s) := by
  by_cases h : s.mapFailed < 8
  · rw [mapApllApply_eq h]
    obtain ⟨o, ho⟩ := mapOutputs_frame s.mapFailed ((apllDedicated s.mapFailed s).putApll 8
      { (apllDedicated s.mapFailed s).apll 8 with cover := s.mapFailed })
    rw [ho]
    exact (apllDedicated_keeps _ s).trans (.of_frame rfl (fun _ _ => rfl) rfl)
  · rw [mapApllApply, if_neg h]
    exact (SettleKeeps.mapApll s none).trans (.wr (f := Reg.TST_REPAIR_STATUS_APLL_APPLIED) (by simp [powerField]) _ 0)

/-- The repair map after a reset: the DRAM's replaced rows are loaded from it. -/
theorem mapApplyAll_keeps (s : State) : SettleKeeps { s with dram := { s.dram with replaced := s.mapRows } } (mapApplyAll s) :=
  ((mapRegs_keeps _).trans (mapTdcApply_keeps _)).trans (mapApllApply_keeps _)

/-! ### The last steps of a reset -/

theorem newNonce_keeps (s : State) : SettleKeeps s (newNonce s) := by
  obtain ⟨hframe, hregs⟩ := newNonce_frame s
  refine .of_frame hframe (fun f hf => hregs f fun g hg => hf.ne ?_) rfl
  obtain ⟨i, -, rfl⟩ := List.mem_map.mp hg
  simp [powerField]
  omega

theorem outErrs_keeps (s : State) : SettleKeeps s (outErrs s) := .forRange (fun i t _ => .level t 28 i _ 0) s

/-- The sources are set back, before SAFE is judged again. -/
def sourcesClear (s : State) : State :=
  let t := (dropRegs 0x3200 0x3600 (fun _ => true) s).wrs [(Reg.FLT_ACK_LATE, 0), (Reg.FLT_ACK_REJ, 0)]
  { t with flt := { t.flt with src := [], present := [], inflight := t.flt.inflight.filter (fun n => !levelEv n.ev) } }

theorem sourcesClear_keeps (s : State) : SettleKeeps s (sourcesClear s) := by
  have hacks : SettleKeeps s ((dropRegs 0x3200 0x3600 (fun _ => true) s).wrs [(Reg.FLT_ACK_LATE, 0), (Reg.FLT_ACK_REJ, 0)]) :=
    (dropRegs_keeps (by decide) _ s).trans (.wrs (by simp [powerField]) _)
  exact hacks.trans (.flt rfl)

theorem sourcesRestart_keeps (s : State) : SettleKeeps s (sourcesRestart s) := by
  have hsafe : SettleKeeps s (safeLevel (sourcesClear s)) := (sourcesClear_keeps s).trans (.level _ 104 noInst _ 0)
  exact hsafe.trans (.flt rfl)

theorem wdogRestart_frame (s : State) : ∃ tm w, wdogRestart s = { s with timers := tm, pwr := { s.pwr with wdog := w } } := by
  unfold wdogRestart
  split
  · exact ⟨_, _, rfl⟩
  · exact ⟨_, _, rfl⟩

theorem wdogRestart_keeps (s : State) : SettleKeeps s (wdogRestart s) := by
  obtain ⟨tm, w, h⟩ := wdogRestart_frame s
  rw [h]
  exact .of_frame rfl (fun _ _ => rfl) rfl

/-! ### Out-words and links (R54, R302) -/

/-- From `s` to `t` an out-word has taken effect as 0: registers stand. -/
def WordCleared (s t : State) : Prop := ∃ o c p x, t = { s with out := o, flt := c, ports := p, ts := x }

theorem WordCleared.trans (h : WordCleared s t) (h' : WordCleared t u) : WordCleared s u := by
  obtain ⟨_, _, _, _, rfl⟩ := h
  obtain ⟨o, c, p, x, rfl⟩ := h'
  exact ⟨o, c, p, x, rfl⟩

theorem WordCleared.refl (s : State) : WordCleared s s := ⟨_, _, _, _, rfl⟩

theorem WordCleared.put (i : Nat) (w : Word64) (s : State) : WordCleared s { s with out := tabSet 0 i w s.out } := ⟨_, _, _, _, rfl⟩

theorem pathControl_cleared (p : Nat) (w : Word64) (s : State) : WordCleared s (pathControl p w s) := by
  unfold pathControl
  dsimp only
  split
  · exact ⟨_, _, _, _, rfl⟩
  · obtain ⟨c, hc⟩ := (({ s with out := tabSet 0 (0x208 + p) w s.out } : State).raise 97 p).level_frame 23 p (decide (shownPath w = 3)) 0
    exact ⟨_, c, _, _, hc⟩

theorem portControl_zero (n : Nat) (s : State) : WordCleared s (portControl n 0 s) := by
  have hbit (b : Nat) : (0 : Word64).getLsbD b = false := by simp
  unfold portControl
  simp only [hbit, Bool.false_and, Bool.false_eq_true, if_false]
  split
  · exact ⟨_, _, _, _, rfl⟩
  · exact .refl s

theorem tsControl_zero (n : Nat) (s : State) : WordCleared s (tsControl n 0 s) := by
  unfold tsControl
  dsimp only
  split
  · exact .refl s
  · exact ⟨_, _, _, _, rfl⟩

theorem twinBell_zero (s : State) : twinBell { s with out := tabSet 0 0x250 0 s.out } = { s with out := tabSet 0 0x250 0 s.out } := by
  have hbit (b : Nat) : State.twinControl { s with out := tabSet 0 0x250 0 s.out } b = false := by simp [State.twinControl]
  rw [twinBell, hbit, hbit]
  rfl

/-- An out-word of no path takes effect as 0. -/
theorem applyWord_zero {i : Nat} (h : ¬i < 0x208) (s : State) : WordCleared s (applyWord i 0 s) := by
  unfold applyWord
  dsimp only
  rw [if_neg h]
  split
  · exact pathControl_cleared _ _ s
  split
  · obtain ⟨c, hc⟩ := slotStateChange_frame (i - 0x228) (fun s => { s with out := tabSet 0 i 0 s.out }) s
    exact ⟨_, c, _, _, hc⟩
  split
  · exact (WordCleared.put i 0 s).trans (portControl_zero _ _)
  split
  next hi =>
    subst hi
    rw [twinBell_zero]
    exact .put _ _ s
  split
  · obtain ⟨c, hc⟩ := outErrs_frame { s with out := tabSet 0 i 0 s.out }
    exact ⟨_, c, _, _, hc⟩
  split
  · exact (WordCleared.put i 0 s).trans (tsControl_zero _ _)
  · exact .put i 0 s

/-- Every out-word reads 0, and no register has changed. -/
theorem outWordsClear_spec (s : State) : BootKeeps s (outWordsClear s) ∧ (outWordsClear s).out = [] := by
  have hwords : WordCleared { s with bell := { s.bell with commits := [] } } ((s.out.map (·.1)).foldl
      (fun s i => if i < 0x208 then s else applyWord i 0 s) { s with bell := { s.bell with commits := [] } }) := by
    refine List.foldlRecOn _ _ (.refl _) fun t ht i _ => ht.trans ?_
    split
    · exact .refl t
    · exact applyWord_zero ‹_› t
  obtain ⟨o, c, p, x, hw⟩ := hwords
  have hclear : outWordsClear s = { s with bell := { s.bell with commits := [] }, out := [], flt := c, ports := p, ts := x } := by
    unfold outWordsClear
    dsimp only
    rw [hw]
  rw [hclear]
  exact ⟨.of_regs rfl ⟨rfl, rfl, rfl⟩ rfl, rfl⟩

/-- A change of registers outside PWR and RST and of what stands at a port leaves what the engines stand on. -/
theorem ResetKeeps.of_frame {r : Tab Nat} {p : Tab PortSt} {n : FltSt} {m : Tab Byte} {c : Tab Word64} {sl : Tab SlotSt}
    (ht : t = { s with regs := r, ports := p, flt := n, hostMem := m, commons := c, slots := sl })
    (hrd : ∀ f, powerField f → t.rd f = s.rd f) : ResetKeeps s t := by
  subst ht
  exact ⟨⟨hrd, ⟨rfl, rfl, rfl⟩, rfl⟩, rfl, rfl, rfl, rfl, rfl⟩

theorem linkFalls_keeps (n : Nat) (s : State) : ResetKeeps s (linkFalls n s) :=
  .of_frame (linkFalls_dropped n s).frame fun f hf => (linkFalls_dropped n s).regs f (by
    unfold powerField at hf
    simp
    omega)

theorem lineEnd_keeps {n : Nat} {l : OnLine} (h : (s.port n).line = some l) (st : Nat) (how : TxEnd) : ResetKeeps s (lineEnd n st how s) := by
  have hends := lineEnd_reports h st how
  have hoff : ResetKeeps s (lineOff n l how s) := .of_frame rfl fun _ _ => rfl
  refine hoff.trans (.of_frame hends.frame fun f hf => hends.rd f ?_ fun q => ?_)
  · unfold powerField at hf
    simp
    omega
  · unfold powerField at hf
    simp
    omega

theorem linkDrop_keeps (n : Nat) (s : State) : ResetKeeps s (linkDrop n s) := by
  by_cases h : s.rd (Reg.ETH_STATUS_LINK n) = 0
  · rw [linkDrop_down h]
    exact .refl s
  · cases hline : (s.port n).line with
    | none =>
      rw [linkDrop_idle h hline]
      exact linkFalls_keeps n s
    | some l =>
      rw [linkDrop_cuts h hline]
      refine ((linkFalls_keeps n s).trans (lineEnd_keeps ((linkFalls_line n s).trans hline) _ _)).trans
        (SettleKeeps.wr (f := Reg.ETH_TX_ABORT_COUNT n) ?_ _ _).toResetKeeps
      simp [powerField]
      omega

theorem rxclkOff_keeps (n : Nat) (s : State) : ResetKeeps s (rxclkOff n s) :=
  .of_frame (rxclkOff_frame n s) fun f hf => rxclkOff_regsBut n s f (by
    unfold powerField at hf
    simp
    omega)

end Sys2Proof.Machine
end


section
/-! SUPPORT for resets of SOFT class: what a SOFT, WDOG or TWIN reset leaves (R437 to R439). -/
namespace Sys2Proof.Machine

variable {s t u : State}

/-- The count of the resets of kind `kind`. -/
def softCount (kind : Nat) : Fld := if kind = 2 then Reg.RST_COUNT_SOFT else if kind = 3 then Reg.RST_COUNT_WDOG else Reg.RST_COUNT_TWIN

theorem softCount_power (kind : Nat) : powerField (softCount kind) := by
  unfold softCount powerField
  split
  · simp
  · split <;> simp

/-- What the registers of RST and PWR show of the reset. -/
def softTells (kind : Nat) : List (Fld × Nat) :=
  [(Reg.RST_CAUSE_KIND, kind), (Reg.RST_CAUSE_BUSY, 1), (Reg.PWR_STATUS_STATE, 0), (Reg.PWR_STATUS_BUSY, 0), (Reg.PWR_CMD_GO, 0)]

theorem softCount_ne {kind : Nat} {p : Fld × Nat} (hp : p ∈ softTells kind) (j : Nat) : p.1.key ≠ (softCount j).key := by
  simp only [softTells, List.mem_cons, List.not_mem_nil, or_false] at hp
  unfold softCount
  obtain rfl | rfl | rfl | rfl | rfl := hp <;> split_ifs <;> simp

/-- From `s` to `t` a reset of kind `kind` is shown and counted, and the dies, the queue and the keys are as they were. -/
structure SoftShown (kind : Nat) (s t : State) : Prop where
  cause : t.rd Reg.RST_CAUSE_KIND = kind
  busy : t.rd Reg.RST_CAUSE_BUSY = 1
  state : t.rd Reg.PWR_STATUS_STATE = 0
  count : t.rd (softCount kind) = min (s.rd (softCount kind) + 1) (2 ^ (softCount kind).width - 1)
  dies : t.nor = s.nor ∧ t.fuses = s.fuses ∧ t.pending = s.pending
  keys : t.keys = s.keys

theorem SoftShown.keep {kind : Nat} (h : SoftShown kind s t) (hkeeps : BootKeeps t u) : SoftShown kind s u := by
  obtain ⟨hkind, hbusy, hstate, hcount, ⟨hnor, hfuses, hpending⟩, hkeys⟩ := h
  obtain ⟨hrd, ⟨hnor', hfuses', hpending'⟩, hkeys'⟩ := hkeeps
  exact ⟨(hrd _ (by simp [powerField])).trans hkind, (hrd _ (by simp [powerField])).trans hbusy, (hrd _ (by simp [powerField])).trans hstate,
    (hrd _ (softCount_power kind)).trans hcount, ⟨hnor'.trans hnor, hfuses'.trans hfuses, hpending'.trans hpending⟩, hkeys'.trans hkeys⟩

theorem softTold_shown {kind : Nat} (hk : kind < 8) (s : State) : SoftShown kind s ((s.wrs (softTells kind)).bumpSat (softCount kind)) := by
  have hshows {p : Fld × Nat} (hp : p ∈ softTells kind) (hv : p.2 < 2 ^ p.1.width) :
      ((s.wrs (softTells kind)).bumpSat (softCount kind)).rd p.1 = p.2 :=
    ((s.wrs (softTells kind)).rd_bumpSat_ne (softCount_ne hp kind).symm 1).trans (s.wrs_shows (by simp [softTells]) hp hv)
  obtain ⟨r, hr⟩ := s.wrs_frame (softTells kind)
  refine ⟨hshows (p := (Reg.RST_CAUSE_KIND, kind)) (by simp [softTells]) hk, hshows (p := (Reg.RST_CAUSE_BUSY, 1)) (by simp [softTells]) (by decide),
    hshows (p := (Reg.PWR_STATUS_STATE, 0)) (by simp [softTells]) (by decide), ?_, ?_, ?_⟩
  · rw [State.rd_bumpSat, s.rd_wrs_ne _ fun p hp => softCount_ne hp kind]
  · rw [hr]
    exact ⟨rfl, rfl, rfl⟩
  · rw [hr]
    rfl

/-- What a reset of SOFT class empties. -/
structure SoftEmpty (t : State) : Prop where
  engines : t.eng = [] ∧ t.words = [] ∧ t.image = {} ∧ t.subst = {} ∧ t.out = []
  records : t.rings = [] ∧ t.roles = [] ∧ t.ports = []

theorem BootKeeps.stopped (s : State) (y : Syllabus) :
    BootKeeps s { s with eng := [], words := [], image := {}, subst := {}, syl := y } := .of_regs rfl ⟨rfl, rfl, rfl⟩ rfl

theorem BootKeeps.calm (s : State) (p : PwrSt) (j : JnlSt) (c : FltSt) : BootKeeps s { s with pwr := p, jnl := j, flt := c } :=
  .of_regs rfl ⟨rfl, rfl, rfl⟩ rfl

theorem ResetKeeps.unlinked (s : State) : ResetKeeps s { s with ports := [] } := .of_frame rfl fun _ _ => rfl

theorem ResetKeeps.unrecorded (s : State) (d : DramSt) : ResetKeeps s { s with rings := [], dram := d } :=
  ⟨.of_regs rfl ⟨rfl, rfl, rfl⟩ rfl, rfl, rfl, rfl, rfl, rfl⟩

theorem ResetKeeps.emptied (s : State) : ResetKeeps s { s with roles := [], grps := [] } :=
  ⟨.of_regs rfl ⟨rfl, rfl, rfl⟩ rfl, rfl, rfl, rfl, rfl, rfl⟩

theorem SettleKeeps.parity (s : State) (p : Nat → Bool) (l : List Nat) :
    SettleKeeps s { s with parity := l, host := { s.host with unlisted := s.host.unlisted.filter p } } :=
  ⟨⟨.of_regs rfl ⟨rfl, rfl, rfl⟩ rfl, rfl, rfl, rfl, rfl, rfl⟩, ⟨rfl, rfl, rfl⟩, ⟨rfl, rfl⟩, ⟨rfl, rfl⟩, rfl⟩

theorem SettleKeeps.putChan (s : State) (ch : Nat) (x : ChanSt) : SettleKeeps s (s.putChan ch x) := .of_frame rfl (fun _ _ => rfl) rfl

/-- A reset of SOFT class shows its kind, keeps the dies and the keys, and empties the rest. -/
theorem softReset_spec {kind : Nat} (hk : kind < 8) (s : State) : SoftShown kind s (softReset kind s) ∧ SoftEmpty (softReset kind s) := by
  have htold := softTold_shown hk s
  unfold softReset
  extract_lets told counted jnl pwr idle flt calm begun quiet stopped engines bell levels links ports unlinked events unrecorded
    tdc chans emptied access token drawn left host ready levelled
  have hcounted : SoftShown kind s counted := htold
  have hbegun : SoftShown kind s begun := (hcounted.keep (.calm counted idle.pwr idle.jnl calm.flt)).keep (t := calm)
    (dropRegs_keeps (by decide) _ calm).toBootKeeps
  obtain ⟨hwords, hout⟩ := outWordsClear_spec begun
  have hstopped : SoftShown kind s stopped := (hbegun.keep hwords).keep (.stopped quiet stopped.syl)
  have hbell : SettleKeeps stopped bell := ((dropRegs_keeps (by decide) _ stopped).trans (.wr (by simp [powerField]) engines 0)).trans
    ((dropRegs_keeps (by decide) _ _).trans (dropRegs_keeps (by decide) _ _))
  have hlevels : SettleKeeps bell levels :=
    List.foldlRecOn _ _ (.refl bell) fun t ht n _ => ht.trans ((SettleKeeps.level t 20 n false 0).trans (.level _ 21 n false 0))
  have hlinks : ResetKeeps levels links :=
    forRange_keeps (ResetKeeps levels) (fun n _ t ht => ht.trans ((linkDrop_keeps n t).trans (rxclkOff_keeps n _))) (.refl levels)
  have hset : ResetKeeps links ports := (dropRegs_keeps (by decide) _ links).toResetKeeps
  have hunlinked : ResetKeeps ports unlinked := .unlinked ports
  have hevents : SettleKeeps unlinked events := dropRegs_keeps (by decide) _ unlinked
  have hunrecorded : ResetKeeps events unrecorded := .unrecorded events _
  have hchans : SettleKeeps unrecorded chans := (dropRegs_keeps (by decide) _ unrecorded).trans
    (.forRange (fun i t _ => .putChan t i _) tdc)
  have hemptied : ResetKeeps chans emptied := .emptied chans
  have hdrawn : SettleKeeps emptied drawn :=
    ((dropRegs_keeps (by decide) _ emptied).trans (dropRegs_keeps (by decide) _ access)).trans (newNonce_keeps token)
  have hready : SettleKeeps drawn ready := .parity drawn left _
  have hlast : SettleKeeps emptied (wdogRestart (sourcesRestart (outErrs (mapTdcApply (mapRegs levelled))))) :=
    (hdrawn.trans (hready.trans (.level ready 6 noInst _ 0))).trans ((mapRegs_keeps _).trans ((mapTdcApply_keeps _).trans
      ((outErrs_keeps _).trans ((sourcesRestart_keeps _).trans (wdogRestart_keeps _)))))
  have hkeeps : ResetKeeps stopped (wdogRestart (sourcesRestart (outErrs (mapTdcApply (mapRegs levelled))))) :=
    (hbell.trans hlevels).toResetKeeps.trans (((hlinks.trans hset).trans hunlinked).trans (hevents.toResetKeeps.trans (hunrecorded.trans
      (hchans.toResetKeeps.trans (hemptied.trans hlast.toResetKeeps)))))
  obtain ⟨heng, hwords, himage, hsubst, hout'⟩ := hkeeps.engines
  obtain ⟨hrings, hroles, hports⟩ := hlast.records
  have hrecords : emptied.rings = chans.rings ∧ emptied.roles = [] ∧ emptied.ports = chans.ports := by simp only [emptied, and_self]
  have hnone : unrecorded.rings = [] ∧ unrecorded.ports = events.ports := by simp only [unrecorded, and_self]
  have hports' : unlinked.ports = [] := by simp only [unlinked]
  obtain ⟨hchanRings, -, hchanPorts⟩ := hchans.records
  exact ⟨hstopped.keep hkeeps.toBootKeeps, ⟨heng, hwords, himage, hsubst, hout'.trans hout⟩,
    hrings.trans (hrecords.1.trans (hchanRings.trans hnone.1)), hroles.trans hrecords.2.1,
    hports.trans (hrecords.2.2.trans (hchanPorts.trans (hnone.2.trans (hevents.records.2.2.trans hports'))))⟩

end Sys2Proof.Machine
end


section
/-! SUPPORT for the frames of a twin: what a heartbeat changes (R357, R358, R371, R373, R375). -/
namespace Sys2Proof.Machine

variable {s t u n : State} {lane : Nat} {h : Heartbeat}

/-! ### Level conditions of lanes -/

theorem setRole_flt (r : Nat) (s : State) : (setRole r s).flt = s.flt := by
  obtain ⟨g, c, hframe⟩ := setRole_frame r s
  rw [hframe]

/-- A count and a report leave the level conditions. -/
theorem cond_raise_bump_wr (s : State) (f g : Fld) (v ev inst info : Nat) :
    (((s.wr f v).bump g).raise ev inst info).flt.cond = s.flt.cond := rfl

theorem promote_cond (s : State) : (promote s).flt.cond = s.flt.cond := by
  rw [promote, cond_raise_bump_wr, setRole_flt]

theorem yielded_cond (r : Nat) (s : State) : (yielded r s).flt.cond = s.flt.cond := by
  have hwr : ((setRole r s).wr Reg.TWIN_EPOCH_OWN (s.rd Reg.TWIN_EPOCH_TWIN)).flt = (setRole r s).flt := State.wr_flt ..
  rw [yielded, cond_raise_bump_wr, hwr, setRole_flt]

theorem twinDecide_cond (s : State) : (twinDecide s).flt.cond = s.flt.cond := by
  by_cases hf : s.follows
  · by_cases hl : s.rd Reg.TWIN_STATUS_LINK = 0
    · by_cases ht : s.takesLead
      · rw [twinDecide_takes hf hl ht, promote_cond]
      · rw [twinDecide_isolates hf hl ht]
        rfl
    · rw [twinDecide_linked hf hl]
      rfl
  · rw [twinDecide_other hf]

theorem resolveRoles_cond (s : State) : (resolveRoles s).flt.cond = s.flt.cond := by
  by_cases hw : s.wins
  · rw [resolveRoles_wins hw]
  · by_cases hr : s.twinRole = 3 ∧ s.twin.role = 3
    · rw [resolveRoles_yields hr.1 hr.2 hw, yielded_cond]
    · rw [resolveRoles_alone (not_and_or.mp hr)]

theorem twinLevels_lane (lane : Nat) (s : State) : (twinLevels s).present 43 lane ↔ s.present 43 lane := by
  unfold twinLevels
  rw [State.present_level_ne _ (by simp), State.present_level_ne _ (by simp), State.present_level_ne _ (by simp)]

/-! ### A good frame on a lane (R358) -/

/-- A good heartbeat shows that its lane is up. -/
def laneHeard (lane : Nat) (s : State) : State :=
  (((s.wr (laneField lane) 1).level 43 lane false).arm (.lane lane)).arm .link

/-- Lane `lane` shows that it is up. -/
structure LaneUp (lane : Nat) (t : State) : Prop where
  ok : t.rd (laneField lane) = 1
  down : ¬t.present 43 lane
  age : t.age (.lane lane) = 0
  linkAge : t.age .link = 0

theorem LaneUp.keep (h : LaneUp lane t) (hok : u.rd (laneField lane) = t.rd (laneField lane)) (hcond : u.flt.cond = t.flt.cond)
    (htimers : u.timers = t.timers) (hup : u.up = t.up) : LaneUp lane u := by
  have hage (x : Timer) : u.age x = t.age x := by rw [State.age, State.age, htimers, hup]
  have hpresent : u.present 43 lane ↔ t.present 43 lane := by rw [State.present, State.present, hcond]
  exact ⟨hok.trans h.ok, mt hpresent.mp h.down, (hage _).trans h.age, (hage _).trans h.linkAge⟩

theorem laneHeard_up (lane : Nat) (s : State) : LaneUp lane (laneHeard lane s) where
  ok := by
    change ((s.wr (laneField lane) 1).level 43 lane false).rd (laneField lane) = 1
    rw [State.rd_level, State.rd_wr_self]
    unfold laneField
    split <;> rfl
  down := State.not_present_level_off (s.wr (laneField lane) 1) 43 lane 0
  age := (State.age_arm_ne _ (by simp)).trans (State.age_arm _ _)
  linkAge := State.age_arm _ _

theorem laneHeard_regsBut (lane : Nat) (s : State) : s.regsBut [laneField lane] (laneHeard lane s) :=
  (s.regsBut_wr List.mem_cons_self 1).same (State.level_regs (s.wr (laneField lane) 1) 43 lane false 0)

theorem laneHeard_frame (lane : Nat) (s : State) : ∃ r c x, laneHeard lane s = { s with regs := r, flt := c, timers := x } := by
  obtain ⟨c, hc⟩ := (s.wr (laneField lane) 1).level_frame 43 lane false 0
  unfold laneHeard
  rw [hc]
  exact ⟨_, c, _, rfl⟩

theorem laneField_key (lane : Nat) : (laneField lane).key = Reg.TWIN_STATUS_LANE0_OK.key ∨ (laneField lane).key = Reg.TWIN_STATUS_LANE1_OK.key := by
  unfold laneField
  split
  · exact .inl rfl
  · exact .inr rfl

theorem laneHeard_standing (lane : Nat) (s : State) : SameStanding s (laneHeard lane s) := by
  have hkey : twinKey ≤ (laneField lane).key := by
    have := laneField_key lane
    simp [twinKey] at this ⊢
    omega
  obtain ⟨hout, hsrc, hlow⟩ := ((RoleMoves.wr hkey s 1).trans (.level _ 43 lane false)).standing
  exact ⟨hout, hsrc, hlow⟩

/-! ### A new heartbeat (R358, R371) -/

/-- The run of good heartbeats, with `h`. -/
def State.heartbeatRun (s : State) (h : Heartbeat) : Nat := if s.twin.hbSeq = some (h.seq - 1) ∧ 0 < h.seq then s.twin.hbRun + 1 else 1

/-- The twin as heartbeat `h` shows it. -/
def State.twinShown (s : State) (h : Heartbeat) : TwinSt := { s.twin with
  heard := true
  role := h.role
  pair := h.pair
  inel := h.inel
  crimson := h.crimson
  safe := h.safe
  hbRun := s.heartbeatRun h
  hbSeq := some h.seq
  hbAt := some s.now
  mClk := h.mClk
  mPps := h.mPps
  count := h.count }

/-- The registers that note a heartbeat. -/
def noteRegs (h : Heartbeat) (s : State) : State :=
  let t := (s.wr Reg.TWIN_EPOCH_TWIN h.epoch.toNat).wri Reg.TWIN_M_REMOTE_VALUE h.mClk
  if 4 ≤ s.heartbeatRun h then t.wr Reg.TWIN_STATUS_LINK 1 else t

theorem heartbeatNotes_eq (h : Heartbeat) (s : State) : heartbeatNotes h s = { noteRegs h s with twin := s.twinShown h } := by
  unfold heartbeatNotes noteRegs
  by_cases hrun : 4 ≤ s.heartbeatRun h
  · exact (if_pos hrun).trans (by rw [if_pos hrun]; rfl)
  · exact (if_neg hrun).trans (by rw [if_neg hrun]; rfl)

theorem noteRegs_frame (h : Heartbeat) (s : State) : ∃ r, noteRegs h s = { s with regs := r } := by
  unfold noteRegs
  dsimp only
  split
  · exact ⟨_, rfl⟩
  · exact ⟨_, rfl⟩

theorem noteRegs_regsBut (h : Heartbeat) (s : State) :
    s.regsBut [Reg.TWIN_EPOCH_TWIN, Reg.TWIN_M_REMOTE_VALUE, Reg.TWIN_STATUS_LINK] (noteRegs h s) := by
  have hnoted : s.regsBut [Reg.TWIN_EPOCH_TWIN, Reg.TWIN_M_REMOTE_VALUE, Reg.TWIN_STATUS_LINK]
      ((s.wr Reg.TWIN_EPOCH_TWIN h.epoch.toNat).wri Reg.TWIN_M_REMOTE_VALUE h.mClk) :=
    (s.regsBut_wr (f := Reg.TWIN_EPOCH_TWIN) (by simp) _).wr (f := Reg.TWIN_M_REMOTE_VALUE) (by simp) _
  unfold noteRegs
  dsimp only
  split
  · exact hnoted.wr (f := Reg.TWIN_STATUS_LINK) (by simp) 1
  · exact hnoted

/-- What the registers show of heartbeat `h`. -/
theorem noteRegs_shows (h : Heartbeat) (s : State) : (noteRegs h s).rd Reg.TWIN_EPOCH_TWIN = h.epoch.toNat ∧
    (noteRegs h s).rd Reg.TWIN_M_REMOTE_VALUE = ofSigned Reg.TWIN_M_REMOTE_VALUE.width h.mClk ∧
    (noteRegs h s).rd Reg.TWIN_STATUS_LINK = if 4 ≤ s.heartbeatRun h then 1 else s.rd Reg.TWIN_STATUS_LINK := by
  have hepoch : h.epoch.toNat < 65536 := h.epoch.isLt
  have hclk : ofSigned 32 h.mClk < 4294967296 := by
    unfold ofSigned
    omega
  unfold noteRegs
  dsimp only
  split
  · simp [hepoch, hclk]
  · simp [hepoch, hclk]

/-- A new heartbeat has been noted, and the role is not decided yet. -/
def heartbeatHeard (lane : Nat) (h : Heartbeat) (s : State) : State := heartbeatNotes h (laneHeard lane s)

/-- What a new heartbeat changes before the role is decided. -/
structure HeartbeatHeard (lane : Nat) (h : Heartbeat) (s n : State) : Prop where
  up : LaneUp lane n
  epoch : n.rd Reg.TWIN_EPOCH_TWIN = h.epoch.toNat
  remote : n.rd Reg.TWIN_M_REMOTE_VALUE = ofSigned Reg.TWIN_M_REMOTE_VALUE.width h.mClk
  link : n.rd Reg.TWIN_STATUS_LINK = if 4 ≤ s.heartbeatRun h then 1 else s.rd Reg.TWIN_STATUS_LINK
  twin : n.twin = s.twinShown h
  regs : s.regsBut [laneField lane, Reg.TWIN_EPOCH_TWIN, Reg.TWIN_M_REMOTE_VALUE, Reg.TWIN_STATUS_LINK] n
  standing : SameStanding s n
  frame : ∃ r w c x, n = { s with regs := r, twin := w, flt := c, timers := x }

theorem State.rd_set_twin (s : State) (w : TwinSt) (f : Fld) : ({ s with twin := w } : State).rd f = s.rd f := rfl

/-- What the notes of a heartbeat add to a state in which its lane is up. -/
theorem heartbeatNotes_heard (hup : LaneUp lane u) (htwin : u.twin = s.twin) (hregs : s.regsBut [laneField lane] u) (hstanding : SameStanding s u)
    (hframe : ∃ r c x, u = { s with regs := r, flt := c, timers := x }) : HeartbeatHeard lane h s (heartbeatNotes h u) := by
  have hkey := laneField_key lane
  simp only [Reg.TWIN_STATUS_LANE0_OK_key, Reg.TWIN_STATUS_LANE1_OK_key] at hkey
  have hnow : u.now = s.now := by
    obtain ⟨_, _, _, rfl⟩ := hframe
    rfl
  have hrun : u.heartbeatRun h = s.heartbeatRun h := by rw [State.heartbeatRun, State.heartbeatRun, htwin]
  have hshown : u.twinShown h = s.twinShown h := by rw [State.twinShown, State.twinShown, htwin, hrun, hnow]
  have hnotes := noteRegs_regsBut h u
  obtain ⟨hepoch, hremote, hlink⟩ := noteRegs_shows h u
  obtain ⟨r, hr⟩ := noteRegs_frame h u
  have hlow (f : Fld) (hf : f.key < twinKey) : (noteRegs h u).rd f = u.rd f := hnotes f (by
    simp only [twinKey] at hf
    simp
    omega)
  rw [heartbeatNotes_eq]
  refine ⟨hup.keep ?_ ?_ ?_ ?_, hepoch, hremote, ?_, hshown, ?_, ⟨?_, ?_, ?_⟩, ?_⟩
  · exact hnotes _ (by simp; omega)
  · rw [hr]
  · rw [hr]
  · rw [hr]
  · rw [State.rd_set_twin, hlink, hrun, hregs _ (by simp; omega)]
  · exact (hregs.mono (by simp)).trans ((hnotes.mono (by simp)).same rfl)
  · rw [hr]
    exact hstanding.out
  · rw [hr]
    exact hstanding.src
  · exact fun f hf => (hlow f hf).trans (hstanding.low f hf)
  · obtain ⟨r', c, x, hu⟩ := hframe
    rw [hr, hu]
    exact ⟨_, _, _, _, rfl⟩

theorem heartbeatHeard_heard (lane : Nat) (h : Heartbeat) (s : State) : HeartbeatHeard lane h s (heartbeatHeard lane h s) := by
  have hframe := laneHeard_frame lane s
  refine heartbeatNotes_heard (laneHeard_up lane s) ?_ (laneHeard_regsBut lane s) (laneHeard_standing lane s) hframe
  obtain ⟨_, _, _, hlane⟩ := hframe
  rw [hlane]

/-! ### What a heartbeat makes of the role (R370, R371, R373, R375) -/

/-- A secondary follows the epoch of the primary that it hears. -/
def epochFollowed (h : Heartbeat) (s : State) : State :=
  if s.twinRole = roleSecondary ∧ h.role = rolePrimary then s.wr Reg.TWIN_EPOCH_OWN h.epoch.toNat else s

theorem epochFollowed_moves (h : Heartbeat) (s : State) : RoleMoves s (epochFollowed h s) := by
  unfold epochFollowed
  split
  · exact .wr (by simp [twinKey]) s _
  · exact .refl s

theorem rd_epochFollowed {f : Fld} (hf : f.key ≠ Reg.TWIN_EPOCH_OWN.key) (h : Heartbeat) (s : State) : (epochFollowed h s).rd f = s.rd f := by
  unfold epochFollowed
  split
  · exact s.rd_wr_ne hf.symm _
  · rfl

theorem epochFollowed_cond (h : Heartbeat) (s : State) : (epochFollowed h s).flt.cond = s.flt.cond := by
  unfold epochFollowed
  split <;> rfl

theorem epochFollowed_other (hr : s.twinRole ≠ 4 ∨ h.role ≠ 3) : epochFollowed h s = s := if_neg fun hn => hr.elim (fun h' => h' hn.1) fun h' => h' hn.2

theorem rd_epoch_epochFollowed (hs : s.twinRole = 4) (hr : h.role = 3) : (epochFollowed h s).rd Reg.TWIN_EPOCH_OWN = h.epoch.toNat := by
  have hfollows : epochFollowed h s = s.wr Reg.TWIN_EPOCH_OWN h.epoch.toNat := if_pos ⟨hs, hr⟩
  rw [hfollows, State.rd_wr_self]
  exact Nat.mod_eq_of_lt h.epoch.isLt

/-- The heartbeat asks a SECONDARY to take over. -/
def State.askedOver (s : State) (h : Heartbeat) : Prop := h.demoteReq = true ∧ s.twinRole = 4

theorem heartbeatRole_eq (h : Heartbeat) (s : State) : heartbeatRole h s =
    if h.demoteReq ∧ (epochFollowed h s).twinRole = roleSecondary ∧ !(epochFollowed h s).ineligible ∧
      !(epochFollowed h s).bit Reg.TWIN_STATUS_CONFLICT then promote (epochFollowed h s) else twinDecide (epochFollowed h s) := rfl

theorem asksOver_iff (h : Heartbeat) (s : State) : (h.demoteReq ∧ s.twinRole = roleSecondary ∧ !s.ineligible ∧ !s.bit Reg.TWIN_STATUS_CONFLICT) ↔
    s.askedOver h ∧ s.mayLead := by
  simp [State.askedOver, State.mayLead, State.bit, roleSecondary, and_assoc]

theorem heartbeatRole_asked (h' : (epochFollowed h s).askedOver h ∧ (epochFollowed h s).mayLead) :
    heartbeatRole h s = promote (epochFollowed h s) := by
  rw [heartbeatRole_eq, if_pos ((asksOver_iff ..).mpr h')]

theorem heartbeatRole_decides (h' : ¬((epochFollowed h s).askedOver h ∧ (epochFollowed h s).mayLead)) :
    heartbeatRole h s = twinDecide (epochFollowed h s) := by
  rw [heartbeatRole_eq, if_neg (mt (asksOver_iff ..).mp h')]

/-- Whatever the heartbeat asks for, the role is decided on by taking over or by the link. -/
theorem heartbeatRole_cases (h : Heartbeat) (s : State) :
    heartbeatRole h s = promote (epochFollowed h s) ∨ heartbeatRole h s = twinDecide (epochFollowed h s) := by
  by_cases ha : (epochFollowed h s).askedOver h ∧ (epochFollowed h s).mayLead
  · exact .inl (heartbeatRole_asked ha)
  · exact .inr (heartbeatRole_decides ha)

theorem heartbeatRole_moves (h : Heartbeat) (s : State) : RoleMoves s (heartbeatRole h s) := by
  obtain heq | heq := heartbeatRole_cases h s
  · rw [heq]
    exact (epochFollowed_moves h s).trans (promote_moves _)
  · rw [heq]
    exact (epochFollowed_moves h s).trans (twinDecide_moves _)

theorem rd_heartbeatRole {f : Fld} (hf : decideFree f) (h : Heartbeat) (s : State) : (heartbeatRole h s).rd f = s.rd f := by
  obtain heq | heq := heartbeatRole_cases h s
  · rw [heq, rd_promote hf, rd_epochFollowed hf.2.1]
  · rw [heq, rd_twinDecide hf, rd_epochFollowed hf.2.1]

theorem heartbeatRole_cond (h : Heartbeat) (s : State) : (heartbeatRole h s).flt.cond = s.flt.cond := by
  obtain heq | heq := heartbeatRole_cases h s
  · rw [heq, promote_cond, epochFollowed_cond]
  · rw [heq, twinDecide_cond, epochFollowed_cond]

/-- The role after a heartbeat that has been noted in `s`, with the level conditions that follow it. -/
def roleTaken (h : Heartbeat) (s : State) : State := twinLevels (resolveRoles (heartbeatRole h s))

theorem roleTaken_moves (h : Heartbeat) (s : State) : RoleMoves s (roleTaken h s) :=
  ((heartbeatRole_moves h s).trans (resolveRoles_moves _)).trans (twinLevels_moves _)

theorem rd_roleTaken {f : Fld} (hd : decideFree f) (hr : resolveFree f) (h : Heartbeat) (s : State) : (roleTaken h s).rd f = s.rd f := by
  rw [roleTaken, twinLevels_rd, rd_resolveRoles hr, rd_heartbeatRole hd]

theorem roleTaken_up (hup : LaneUp lane s) (h : Heartbeat) : LaneUp lane (roleTaken h s) := by
  have hkey := laneField_key lane
  simp only [Reg.TWIN_STATUS_LANE0_OK_key, Reg.TWIN_STATUS_LANE1_OK_key] at hkey
  have hfree : roleFree (laneField lane) := ⟨by simp; omega, fun i _ => by omega⟩
  have hmoves := roleTaken_moves h s
  have hlane : (roleTaken h s).present 43 lane ↔ s.present 43 lane := by
    rw [roleTaken, twinLevels_lane, State.present, State.present, resolveRoles_cond, heartbeatRole_cond]
  exact ⟨(rd_roleTaken ⟨hfree, by simp; omega, by simp; omega⟩ ⟨hfree, by simp; omega, by simp; omega, by simp; omega⟩ h s).trans hup.ok,
    mt hlane.mp hup.down, (hmoves.age _).trans hup.age, (hmoves.age _).trans hup.linkAge⟩

/-- Neither a follower nor PRIMARY: the role stays. -/
theorem roleTaken_bystander (hr : s.twinRole < 3) : roleTaken h s = twinLevels s := by
  have hfollows : ¬s.follows := by
    unfold State.follows
    omega
  have hsame : epochFollowed h s = s := epochFollowed_other (.inl (by omega))
  have hasked : ¬((epochFollowed h s).askedOver h ∧ (epochFollowed h s).mayLead) := fun ha => by
    have := ha.1.2
    rw [hsame] at this
    omega
  rw [roleTaken, heartbeatRole_decides hasked, hsame, twinDecide_other hfollows, resolveRoles_alone (.inl (by omega))]

/-- A PRIMARY judges by the twin's role alone. -/
theorem roleTaken_primary (hr : s.twinRole = 3) : roleTaken h s = twinLevels (resolveRoles s) := by
  have hfollows : ¬s.follows := by
    unfold State.follows
    omega
  have hsame : epochFollowed h s = s := epochFollowed_other (.inl (by omega))
  have hasked : ¬((epochFollowed h s).askedOver h ∧ (epochFollowed h s).mayLead) := fun ha => by
    have := ha.1.2
    rw [hsame] at this
    omega
  rw [roleTaken, heartbeatRole_decides hasked, hsame, twinDecide_other hfollows]

/-! ### Followers -/

/-- A follower takes the lead at heartbeat `h`. -/
def State.leadsAt (s : State) (h : Heartbeat) : Prop :=
  (s.askedOver h ∧ s.mayLead) ∨ (¬s.askedOver h ∧ s.rd Reg.TWIN_STATUS_LINK = 0 ∧ s.takesLead)

theorem epochFollowed_follows : (epochFollowed h s).follows ↔ s.follows := by
  unfold State.follows State.twinRole
  rw [rd_epochFollowed (by simp)]

theorem epochFollowed_asked : (epochFollowed h s).askedOver h ↔ s.askedOver h := by
  unfold State.askedOver State.twinRole
  rw [rd_epochFollowed (by simp)]

theorem epochFollowed_may : (epochFollowed h s).mayLead ↔ s.mayLead := by
  unfold State.mayLead
  rw [(epochFollowed_moves h s).standing.ineligible, rd_epochFollowed (by simp)]

theorem epochFollowed_takes : (epochFollowed h s).takesLead ↔ s.takesLead := by
  unfold State.takesLead
  rw [epochFollowed_may, (epochFollowed_moves h s).twin, rd_epochFollowed (f := Reg.TWIN_STATUS_WITNESS) (by simp),
    rd_epochFollowed (f := Reg.TWIN_STATUS_PAIR_ID) (by simp)]

/-- A follower that leads becomes PRIMARY. -/
theorem heartbeatRole_leads (hf : s.follows) (hl : s.leadsAt h) : heartbeatRole h s = promote (epochFollowed h s) := by
  obtain ⟨hasked, hmay⟩ | ⟨hasked, hlink, htakes⟩ := hl
  · exact heartbeatRole_asked ⟨epochFollowed_asked.mpr hasked, epochFollowed_may.mpr hmay⟩
  · rw [heartbeatRole_decides fun ha => hasked (epochFollowed_asked.mp ha.1)]
    exact twinDecide_takes (epochFollowed_follows.mpr hf) ((rd_epochFollowed (by simp) h s).trans hlink) (epochFollowed_takes.mpr htakes)

/-- A follower that does not lead is SECONDARY with the link, else ISOLATED. -/
theorem heartbeatRole_stays (hf : s.follows) (hl : ¬s.leadsAt h) : heartbeatRole h s =
    (epochFollowed h s).wr Reg.TWIN_STATUS_ROLE (if s.rd Reg.TWIN_STATUS_LINK ≠ 0 then 4 else 5) := by
  have hf' : (epochFollowed h s).follows := epochFollowed_follows.mpr hf
  have hlink : (epochFollowed h s).rd Reg.TWIN_STATUS_LINK = s.rd Reg.TWIN_STATUS_LINK := rd_epochFollowed (by simp) h s
  rw [heartbeatRole_decides fun ha => hl (.inl ⟨epochFollowed_asked.mp ha.1, epochFollowed_may.mp ha.2⟩)]
  by_cases hup : s.rd Reg.TWIN_STATUS_LINK = 0
  · have htakes : ¬(epochFollowed h s).takesLead := fun ht => hl (by
      have ht := epochFollowed_takes.mp ht
      by_cases hasked : s.askedOver h
      · exact .inl ⟨hasked, ht.1⟩
      · exact .inr ⟨hasked, hup, ht⟩)
    rw [twinDecide_isolates hf' (hlink.trans hup) htakes, if_neg (by simpa using hup)]
  · rw [twinDecide_linked hf' (by rwa [hlink]), if_pos hup]

theorem roleTaken_leads (hf : s.follows) (hl : s.leadsAt h) (hr : s.twin.role ≠ 3) : Promoted (epochFollowed h s) (roleTaken h s) := by
  have htwin : (promote (epochFollowed h s)).twin.role ≠ 3 := by
    rw [((epochFollowed_moves h s).trans (promote_moves _)).twin]
    exact hr
  rw [roleTaken, heartbeatRole_leads hf hl, resolveRoles_alone (.inr htwin)]
  exact (promote_promoted _).levels

theorem roleTaken_stays (hf : s.follows) (hl : ¬s.leadsAt h) :
    (roleTaken h s).rd Reg.TWIN_STATUS_ROLE = (if s.rd Reg.TWIN_STATUS_LINK ≠ 0 then 4 else 5) ∧
      (roleTaken h s).rd Reg.TWIN_EPOCH_OWN = (epochFollowed h s).rd Reg.TWIN_EPOCH_OWN := by
  have hrole : ((epochFollowed h s).wr Reg.TWIN_STATUS_ROLE (if s.rd Reg.TWIN_STATUS_LINK ≠ 0 then 4 else 5)).rd Reg.TWIN_STATUS_ROLE =
      if s.rd Reg.TWIN_STATUS_LINK ≠ 0 then 4 else 5 := by
    rw [State.rd_wr_self]
    split <;> rfl
  rw [roleTaken, heartbeatRole_stays hf hl, resolveRoles_alone (.inl ?_), twinLevels_rd, twinLevels_rd]
  · exact ⟨hrole, State.rd_wr_ne _ (by simp) _⟩
  · rw [State.twinRole, hrole]
    split <;> decide

end Sys2Proof.Machine
end


section
/-! PROOFS. The frames of a twin (R358, R362, R365, R366, R371, R373 to R375): O41. -/
namespace Sys2Proof.Machine

variable {s t u : State} {lane : Fin 2} {h : Heartbeat}

/-! ### Heartbeats sent (R358, R373, R374) -/

/-- A heartbeat is due. -/
def State.heartbeats (s : State) : Prop := s.rd Reg.TWIN_CFG_EN ≠ 0 ∧ s.ran .heartbeat 1000 = true

/-- The heartbeat that goes out. -/
def State.ownHeartbeat (s : State) : Heartbeat := {
  seq := s.twin.seqOut, pair := s.rd Reg.TWIN_STATUS_PAIR_ID, role := s.twinRole
  epoch := BitVec.ofNat 16 (s.rd Reg.TWIN_EPOCH_OWN), inel := s.ineligible, crimson := s.crimson, safe := s.safe
  demoteReq := s.twin.demoteReq, resetReq := decide (0 < s.twin.resetReq), mClk := s.twin.ownClk, mPps := s.twin.ownPps
  count := s.twin.ownCount }

/-- CMD.RESET_TWIN clears with the last request. -/
def resetAsked (s : State) : State := if s.twin.resetReq ≤ 1 then s.wr Reg.TWIN_CMD_RESET_TWIN 0 else s

/-- The heartbeat has gone out. -/
def heartbeatSent (s : State) : State := ({ resetAsked s with twin := { s.twin with
  seqOut := s.twin.seqOut + 1
  demoteReq := false
  resetReq := s.twin.resetReq - 1
  sent := some s.ownHeartbeat } } : State).arm .heartbeat

theorem exec_heartbeatSend (h : s.heartbeats) : exec .heartbeatSend s = .next (heartbeatSent s) := by
  change execHeartbeatSend s = _
  unfold execHeartbeatSend
  exact if_neg (by simp [State.bit, h.1, h.2])

theorem exec_heartbeatSend_waits (h : ¬s.heartbeats) : exec .heartbeatSend s = .next s := by
  change execHeartbeatSend s = _
  unfold execHeartbeatSend
  exact if_pos (by simpa [State.bit, State.heartbeats, imp_iff_not_or] using h)

theorem resetAsked_spec (s : State) : (s.twin.resetReq ≤ 1 → (resetAsked s).rd Reg.TWIN_CMD_RESET_TWIN = 0) ∧
    s.regsBut [Reg.TWIN_CMD_RESET_TWIN] (resetAsked s) ∧ ∃ r, resetAsked s = { s with regs := r } := by
  unfold resetAsked
  split
  · exact ⟨fun _ => s.rd_wr_self _ 0, s.regsBut_wr List.mem_cons_self 0, _, rfl⟩
  · exact ⟨fun hn => absurd hn ‹_›, s.regsBut_refl _, _, rfl⟩

theorem heartbeatSent_spec (s : State) : let t := heartbeatSent s
    (s.twin.resetReq ≤ 1 → t.rd Reg.TWIN_CMD_RESET_TWIN = 0) ∧ s.regsBut [Reg.TWIN_CMD_RESET_TWIN] t ∧ t.age .heartbeat = 0 ∧
      t = { s with regs := t.regs, twin := t.twin, timers := t.timers } := by
  obtain ⟨hzero, hregs, r, hr⟩ := resetAsked_spec s
  refine ⟨hzero, hregs.same rfl, State.age_arm _ .heartbeat, ?_⟩
  unfold heartbeatSent
  rw [hr]
  rfl

/-! ### Heartbeats received -/

theorem exec_heartbeatReceive_off (he : s.rd Reg.TWIN_CFG_EN = 0) (crcOk : Bool) : exec (.heartbeatReceive lane crcOk h) s = .next s := by
  change execHeartbeatReceive lane crcOk h s = _
  unfold execHeartbeatReceive
  exact if_pos (by simp [State.bit, he])

theorem exec_heartbeatReceive_bad (he : s.rd Reg.TWIN_CFG_EN ≠ 0) :
    exec (.heartbeatReceive lane false h) s = .next (s.bump Reg.TWIN_COUNT2_CRC_ERR) := by
  change execHeartbeatReceive lane false h s = _
  unfold execHeartbeatReceive
  exact (if_neg (by simp [State.bit, he])).trans (if_pos rfl)

/-- The primary's heartbeat resets this device. -/
def State.resetBy (s : State) (h : Heartbeat) : Prop := h.resetReq = true ∧ s.rd Reg.TWIN_CFG_ACCEPT_RESET ≠ 0 ∧ h.role = 3 ∧
  h.epoch.toNat = s.rd Reg.TWIN_EPOCH_OWN ∧ s.twinRole ≠ 3 ∧ s.rd Reg.RST_CAUSE_BUSY = 0

theorem resetBy_iff (h : Heartbeat) (s : State) : (h.resetReq && s.bit Reg.TWIN_CFG_ACCEPT_RESET && decide (h.role = rolePrimary ∧
      h.epoch.toNat = s.rd Reg.TWIN_EPOCH_OWN ∧ s.twinRole ≠ rolePrimary) && !s.bit Reg.RST_CAUSE_BUSY) = true ↔ s.resetBy h := by
  unfold State.resetBy rolePrimary State.bit
  simp only [Bool.and_eq_true, Bool.not_eq_true', decide_eq_true_eq, decide_eq_false_iff_not, not_not, and_assoc]

theorem exec_heartbeatReceive (he : s.rd Reg.TWIN_CFG_EN ≠ 0) : exec (.heartbeatReceive lane true h) s = .next (
    if h.resetReq && s.bit Reg.TWIN_CFG_ACCEPT_RESET && decide (h.role = rolePrimary ∧ h.epoch.toNat = s.rd Reg.TWIN_EPOCH_OWN ∧
      s.twinRole ≠ rolePrimary) && !s.bit Reg.RST_CAUSE_BUSY then softReset 4 (heartbeat lane h s) else heartbeat lane h s) := by
  change execHeartbeatReceive lane true h s = _
  unfold execHeartbeatReceive
  exact (if_neg (by simp [State.bit, he])).trans (if_neg (by simp))

theorem exec_heartbeatReceive_good (he : s.rd Reg.TWIN_CFG_EN ≠ 0) (hr : ¬s.resetBy h) :
    exec (.heartbeatReceive lane true h) s = .next (heartbeat lane h s) := by
  rw [exec_heartbeatReceive he, if_neg (mt (resetBy_iff h s).mp hr)]

theorem exec_heartbeatReceive_reset (he : s.rd Reg.TWIN_CFG_EN ≠ 0) (hr : s.resetBy h) :
    exec (.heartbeatReceive lane true h) s = .next (softReset 4 (heartbeat lane h s)) := by
  rw [exec_heartbeatReceive he, if_pos ((resetBy_iff h s).mpr hr)]

theorem laneHeard_twin (lane : Nat) (s : State) : (laneHeard lane s).twin = s.twin := by
  obtain ⟨_, _, _, hlane⟩ := laneHeard_frame lane s
  rw [hlane]

theorem heartbeat_eq (lane : Nat) (h : Heartbeat) (s : State) : heartbeat lane h s =
    if (laneHeard lane s).twin.hbSeq = some h.seq then laneHeard lane s else roleTaken h (heartbeatHeard lane h s) := rfl

theorem heartbeat_again {lane : Nat} (hs : s.twin.hbSeq = some h.seq) : heartbeat lane h s = laneHeard lane s := by
  rw [heartbeat_eq, laneHeard_twin, if_pos hs]

theorem heartbeat_new {lane : Nat} (hs : s.twin.hbSeq ≠ some h.seq) : heartbeat lane h s = roleTaken h (heartbeatHeard lane h s) := by
  rw [heartbeat_eq, laneHeard_twin, if_neg hs]

theorem laneHeard_stays (lane : Nat) (s : State) :
    laneHeard lane s = { s with regs := (laneHeard lane s).regs, flt := (laneHeard lane s).flt, timers := (laneHeard lane s).timers } := by
  obtain ⟨_, _, _, hlane⟩ := laneHeard_frame lane s
  rw [hlane]

/-- What a good heartbeat leaves. -/
theorem roleTaken_frame {lane : Nat} {n : State} (hn : HeartbeatHeard lane h s n) :
    roleTaken h n = { s with
      regs := (roleTaken h n).regs, twin := (roleTaken h n).twin, commons := (roleTaken h n).commons, flt := (roleTaken h n).flt
      timers := (roleTaken h n).timers } := by
  obtain ⟨r, w, c, x, hframe⟩ := hn.frame
  have hstays := (roleTaken_moves h n).stays.2
  rw [hstays, hframe]

theorem heartbeat_dies (lane : Nat) (h : Heartbeat) (s : State) : (heartbeat lane h s).nor = s.nor ∧ (heartbeat lane h s).fuses = s.fuses := by
  by_cases hs : s.twin.hbSeq = some h.seq
  · rw [heartbeat_again hs, laneHeard_stays]
    exact ⟨rfl, rfl⟩
  · rw [heartbeat_new hs, roleTaken_frame (heartbeatHeard_heard lane h s)]
    exact ⟨rfl, rfl⟩

section
variable {n : State} {lane : Nat}

/-- What every new heartbeat leaves. -/
theorem roleTaken_noted (hn : HeartbeatHeard lane h s n) : let t := roleTaken h n
    LaneUp lane t ∧ t.rd Reg.TWIN_EPOCH_TWIN = h.epoch.toNat ∧
      t.rd Reg.TWIN_M_REMOTE_VALUE = ofSigned Reg.TWIN_M_REMOTE_VALUE.width h.mClk ∧ t.twin = s.twinShown h ∧
      t.rd Reg.TWIN_STATUS_LINK = if 4 ≤ s.heartbeatRun h then 1 else s.rd Reg.TWIN_STATUS_LINK := by
  refine ⟨roleTaken_up hn.up h, ?_, ?_, (roleTaken_moves h n).twin.trans hn.twin, ?_⟩
  · have hfree : roleFree Reg.TWIN_EPOCH_TWIN := ⟨by simp, fun i _ => by simp; omega⟩
    exact (rd_roleTaken ⟨hfree, by simp, by simp⟩ ⟨hfree, by simp, by simp, by simp⟩ h n).trans hn.epoch
  · have hfree : roleFree Reg.TWIN_M_REMOTE_VALUE := ⟨by simp, fun i _ => by simp; omega⟩
    exact (rd_roleTaken ⟨hfree, by simp, by simp⟩ ⟨hfree, by simp, by simp, by simp⟩ h n).trans hn.remote
  · have hfree : roleFree Reg.TWIN_STATUS_LINK := ⟨by simp, fun i _ => by simp; omega⟩
    exact (rd_roleTaken ⟨hfree, by simp, by simp⟩ ⟨hfree, by simp, by simp, by simp⟩ h n).trans hn.link

theorem HeartbeatHeard.rd {f : Fld} (hn : HeartbeatHeard lane h s n) (hf : f.key ≠ Reg.TWIN_STATUS_LANE0_OK.key)
    (hf1 : f.key ≠ Reg.TWIN_STATUS_LANE1_OK.key) (hepoch : f.key ≠ Reg.TWIN_EPOCH_TWIN.key) (hremote : f.key ≠ Reg.TWIN_M_REMOTE_VALUE.key)
    (hlink : f.key ≠ Reg.TWIN_STATUS_LINK.key) : n.rd f = s.rd f := hn.regs f fun g hg => by
  have hlane := laneField_key lane
  simp only [List.mem_cons, List.not_mem_nil, or_false] at hg
  obtain rfl | rfl | rfl | rfl := hg
  · exact hlane.elim (fun hk => hk ▸ hf.symm) fun hk => hk ▸ hf1.symm
  · exact hepoch.symm
  · exact hremote.symm
  · exact hlink.symm

theorem HeartbeatHeard.role (hn : HeartbeatHeard lane h s n) : n.twinRole = s.twinRole :=
  hn.rd (by simp) (by simp) (by simp) (by simp) (by simp)

theorem HeartbeatHeard.linked (hn : HeartbeatHeard lane h s n) :
    n.rd Reg.TWIN_STATUS_LINK ≠ 0 ↔ s.rd Reg.TWIN_STATUS_LINK ≠ 0 ∨ 4 ≤ s.heartbeatRun h := by
  rw [hn.link]
  split <;> simp [*]

theorem HeartbeatHeard.may (hn : HeartbeatHeard lane h s n) : n.mayLead ↔ s.mayLead := by
  unfold State.mayLead
  rw [hn.standing.ineligible, hn.rd (f := Reg.TWIN_STATUS_CONFLICT) (by simp) (by simp) (by simp) (by simp) (by simp)]

/-- A follower takes the lead at `h`, as the state before tells. -/
theorem HeartbeatHeard.leads (hn : HeartbeatHeard lane h s n) : n.leadsAt h ↔
    if h.demoteReq = true ∧ s.twinRole = 4 then s.mayLead
    else ¬(s.rd Reg.TWIN_STATUS_LINK ≠ 0 ∨ 4 ≤ s.heartbeatRun h) ∧ s.mayLead ∧ (s.rd Reg.TWIN_STATUS_WITNESS = 0 ∨
      (h.role ≠ 3 ∧ (s.rd Reg.TWIN_STATUS_PAIR_ID = 0 ∨ h.inel = true))) := by
  have hasked : n.askedOver h ↔ h.demoteReq = true ∧ s.twinRole = 4 := by rw [State.askedOver, hn.role]
  have hlink : n.rd Reg.TWIN_STATUS_LINK = 0 ↔ ¬(s.rd Reg.TWIN_STATUS_LINK ≠ 0 ∨ 4 ≤ s.heartbeatRun h) := by rw [← hn.linked, not_not]
  have htakes : n.takesLead ↔ s.mayLead ∧ (s.rd Reg.TWIN_STATUS_WITNESS = 0 ∨
      (h.role ≠ 3 ∧ (s.rd Reg.TWIN_STATUS_PAIR_ID = 0 ∨ h.inel = true))) := by
    rw [State.takesLead, hn.may, hn.twin, hn.rd (f := Reg.TWIN_STATUS_WITNESS) (by simp) (by simp) (by simp) (by simp) (by simp),
      hn.rd (f := Reg.TWIN_STATUS_PAIR_ID) (by simp) (by simp) (by simp) (by simp) (by simp)]
    rfl
  rw [State.leadsAt, hasked, hn.may, hlink, htakes]
  split <;> simp [*]

/-- A follower that leads becomes PRIMARY with a higher epoch. -/
theorem HeartbeatHeard.promotes (hn : HeartbeatHeard lane h s n) (hf : n.follows) (hl : n.leadsAt h) (hr : h.role ≠ 3) : let t := roleTaken h n
    t.rd Reg.TWIN_STATUS_ROLE = 3 ∧
      t.rd Reg.TWIN_COUNT1_PROMOTIONS = (s.rd Reg.TWIN_COUNT1_PROMOTIONS + 1) % 2 ^ Reg.TWIN_COUNT1_PROMOTIONS.width ∧
      roleNotice 3 ∈ t.flt.inflight ∧ t.rd Reg.TWIN_EPOCH_OWN = (max (s.rd Reg.TWIN_EPOCH_OWN) h.epoch.toNat + 1) % 65536 := by
  have htwin : n.twin.role ≠ 3 := by
    rw [hn.twin]
    exact hr
  have hpromoted := roleTaken_leads hf hl htwin
  rw [epochFollowed_other (.inr hr)] at hpromoted
  obtain ⟨hrole, hown, hcount, htold⟩ := hpromoted.shows (hn.rd (by simp) (by simp) (by simp) (by simp) (by simp)) hn.epoch
    (hn.rd (by simp) (by simp) (by simp) (by simp) (by simp))
  exact ⟨hrole, hcount, htold, hown⟩

/-- Of two primaries the loser becomes a follower with the winner's epoch. -/
theorem HeartbeatHeard.yields (hn : HeartbeatHeard lane h s n) (hs : s.twinRole = 3) (hr : h.role = 3)
    (hw : ¬staysPrimary (s.rd Reg.TWIN_STATUS_PAIR_ID) s.crimson h.crimson) :
    Yielded n (if s.rd Reg.TWIN_STATUS_LINK ≠ 0 ∨ 4 ≤ s.heartbeatRun h then 4 else 5) (roleTaken h n) := by
  have hid : n.rd Reg.TWIN_STATUS_PAIR_ID = s.rd Reg.TWIN_STATUS_PAIR_ID := hn.rd (by simp) (by simp) (by simp) (by simp) (by simp)
  have hwins : ¬n.wins := by
    rw [State.wins, hn.standing.crimson, hid, hn.twin]
    exact hw
  have htwin : n.twin.role = 3 := by
    rw [hn.twin]
    exact hr
  have hto : n.secondaryRole = if s.rd Reg.TWIN_STATUS_LINK ≠ 0 ∨ 4 ≤ s.heartbeatRun h then 4 else 5 := by
    rw [secondaryRole_eq]
    exact if_congr hn.linked rfl rfl
  rw [roleTaken_primary (hn.role.trans hs), resolveRoles_yields (hn.role.trans hs) htwin hwins, hto]
  exact (yielded_spec (by split <;> decide) _).levels

/-- A PRIMARY whose twin is none, or that wins, stays with its epoch. -/
theorem HeartbeatHeard.keeps (hn : HeartbeatHeard lane h s n) (hs : s.twinRole = 3)
    (hw : h.role ≠ 3 ∨ staysPrimary (s.rd Reg.TWIN_STATUS_PAIR_ID) s.crimson h.crimson) :
    (roleTaken h n).rd Reg.TWIN_STATUS_ROLE = 3 ∧ (roleTaken h n).rd Reg.TWIN_EPOCH_OWN = s.rd Reg.TWIN_EPOCH_OWN := by
  have hid : n.rd Reg.TWIN_STATUS_PAIR_ID = s.rd Reg.TWIN_STATUS_PAIR_ID := hn.rd (by simp) (by simp) (by simp) (by simp) (by simp)
  have hresolve : resolveRoles n = n := by
    obtain hr | hw := hw
    · refine resolveRoles_alone (.inr ?_)
      rw [hn.twin]
      exact hr
    · refine resolveRoles_wins ?_
      rw [State.wins, hn.standing.crimson, hid, hn.twin]
      exact hw
  rw [roleTaken_primary (hn.role.trans hs), hresolve, twinLevels_rd, twinLevels_rd]
  exact ⟨hn.role.trans hs, hn.rd (by simp) (by simp) (by simp) (by simp) (by simp)⟩

end

/-! ### Markers (R365, R366) -/

/-- The marker that a PRIMARY sends. -/
def State.marker (s : State) (idx : Nat) : MarkerIn := {
  idx := idx
  ramps := (List.range 8).map (fun p => (((s.path p).ramp / 2 ^ 48) % 2 ^ 80).toNat)
  stamps := (List.range 4).map (fun n => (s.tscale n).val / 2 ^ 48) }

theorem exec_markerSend (hr : s.twinRole = 3) (idx : Nat) : ∃ t, exec (.markerSend idx) s = .next t ∧ t.twin.markerOut = some (s.marker idx) ∧
    t.twin.role = s.twin.role ∧ t.twin.seqOut = s.twin.seqOut ∧ t = { s with twin := t.twin } := by
  change ∃ t, execMarkerSend idx s = _ ∧ _
  unfold execMarkerSend
  exact ⟨_, if_neg fun hn => hn hr, rfl, rfl, rfl, rfl⟩

theorem exec_markerSend_other (hr : s.twinRole ≠ 3) (idx : Nat) : exec (.markerSend idx) s = .next s := by
  change execMarkerSend idx s = _
  unfold execMarkerSend
  exact if_pos hr

/-- The fields that show the errors of paths and timescales against the twin. -/
def markerErrs (f : Fld) : Prop := 32 * 0x3C060 ≤ f.key

/-- From `s` to `t` twin words up to word `k` and the errors shown may have changed. -/
structure MarkerMoves (s t : State) (k : Nat) : Prop where
  frame : ∃ r c, t = { s with regs := r, commons := c }
  regs : ∀ f, ¬markerErrs f → t.rd f = s.rd f
  others : ∀ i, (i < 0x1FE000 / 8 ∨ 0x1FE000 / 8 + k ≤ i) → tabGet 0 i t.commons = tabGet 0 i s.commons

/-- The phase word that a marker gives path `p`. -/
def State.markerWord (s : State) (m : MarkerIn) (tm : Int) (seq p : Nat) : Word64 :=
  if s.rd (Reg.TWIN_FOLD_VALUE p) = 0 then twinWord false seq 0
  else twinWord true seq (satInt 48 (fold (s.rd (Reg.TWIN_FOLD_VALUE p)) ((m.ramps.getD p 0 : Nat) - roundDiv (s.rampAt p tm) (2 ^ 48)) -
    s.rdi Reg.TWIN_OFFSET_VALUE * 64))

theorem markerPath_eq (m : MarkerIn) (tm : Int) (seq p : Nat) (s : State) :
    ∃ v, markerPath m tm seq p s = (putTwinWord p (s.markerWord m tm seq p) s).wr (Reg.TWIN_ERR_P_VALUE p) v := by
  unfold markerPath State.markerWord
  dsimp only
  split
  · exact ⟨_, rfl⟩
  · exact ⟨_, rfl⟩

/-- The words of the first `k` paths are put. -/
theorem markerPaths_spec (m : MarkerIn) (tm : Int) (seq : Nat) (s : State) {k : Nat} (hk : k ≤ 8) :
    let t := forRange k (markerPath m tm seq) s
    MarkerMoves s t k ∧ ∀ p < k, tabGet 0 (twinWordAt p) t.commons = s.markerWord m tm seq p := by
  induction k with
  | zero => exact ⟨⟨⟨_, _, rfl⟩, fun _ _ => rfl, fun _ _ => rfl⟩, fun p hp => absurd hp (Nat.not_lt_zero p)⟩
  | succ k ih =>
    dsimp only at ih ⊢
    obtain ⟨⟨⟨r, c, hframe⟩, hregs, hothers⟩, hwords⟩ := ih (by omega)
    have hword : (forRange k (markerPath m tm seq) s).markerWord m tm seq k = s.markerWord m tm seq k := by
      rw [State.markerWord, State.markerWord, State.rdi, State.rdi, hregs _ (by simp [markerErrs]; omega), hregs _ (by simp [markerErrs])]
      rw [hframe]
      rfl
    obtain ⟨v, hv⟩ := markerPath_eq m tm seq k (forRange k (markerPath m tm seq) s)
    rw [forRange_succ, hv, hword]
    refine ⟨⟨?_, fun f hf => ?_, fun i hi => ?_⟩, fun p hp => ?_⟩
    · rw [hframe]
      exact ⟨_, _, rfl⟩
    · refine (State.rd_wr_ne _ (fun hk => hf ?_) v).trans (hregs f hf)
      rw [markerErrs, ← hk]
      simp
      omega
    · exact (tabGet_set_ne _ _ (by unfold twinWordAt; omega) _ _).trans (hothers i (by omega))
    · obtain rfl | hne := eq_or_ne p k
      · exact tabGet_set_self ..
      · exact (tabGet_set_ne _ _ (by unfold twinWordAt; omega) _ _).trans (hwords p (by omega))

theorem markerScale_eq (m : MarkerIn) (tm : Int) (seq n : Nat) (s : State) : ∃ a b v w, markerScale m tm seq n s =
    ((putTwinWord (9 + 2 * n) a (putTwinWord (8 + 2 * n) b s)).wr (Reg.TWIN_ERR_TS_SUBSEC n) v).wr (Reg.TWIN_ERR_TS_SEC n) w :=
  ⟨_, _, _, _, rfl⟩

/-- The words of the timescales are put behind those of the paths. -/
theorem markerScales_spec (m : MarkerIn) (tm : Int) (seq : Nat) (s : State) : let t := forRange 4 (markerScale m tm seq) s
    MarkerMoves s t 16 ∧ ∀ p < 8, tabGet 0 (twinWordAt p) t.commons = tabGet 0 (twinWordAt p) s.commons := by
  refine forRange_keeps (fun t => MarkerMoves s t 16 ∧ ∀ p < 8, tabGet 0 (twinWordAt p) t.commons = tabGet 0 (twinWordAt p) s.commons)
    (fun n hn t ht => ?_) ⟨⟨⟨_, _, rfl⟩, fun _ _ => rfl, fun _ _ => rfl⟩, fun _ _ => rfl⟩
  obtain ⟨⟨⟨r, c, hframe⟩, hregs, hothers⟩, hwords⟩ := ht
  obtain ⟨a, b, v, w, hscale⟩ := markerScale_eq m tm seq n t
  rw [hscale]
  have hput (i : Nat) (hi : i ≠ twinWordAt (8 + 2 * n)) (hi' : i ≠ twinWordAt (9 + 2 * n)) :
      tabGet 0 i (tabSet 0 (twinWordAt (9 + 2 * n)) a (tabSet 0 (twinWordAt (8 + 2 * n)) b t.commons)) = tabGet 0 i t.commons :=
    (tabGet_set_ne _ _ hi'.symm _ _).trans (tabGet_set_ne _ _ hi.symm _ _)
  refine ⟨⟨?_, fun f hf => ?_, fun i hi => ?_⟩, fun p hp => ?_⟩
  · rw [hframe]
    exact ⟨_, _, rfl⟩
  · have hne {g : Fld} (hg : markerErrs g) : g.key ≠ f.key := fun hk => hf (by rwa [markerErrs, ← hk])
    exact (State.rd_wr_ne _ (hne (by simp [markerErrs]; omega)) w).trans
      ((State.rd_wr_ne _ (hne (by simp [markerErrs]; omega)) v).trans (hregs f hf))
  · exact (hput i (by unfold twinWordAt; omega) (by unfold twinWordAt; omega)).trans (hothers i hi)
  · exact (hput _ (by unfold twinWordAt; omega) (by unfold twinWordAt; omega)).trans (hwords p hp)

/-- The words of a marker taken at stamp time `tm`. -/
def markerTaken (m : MarkerIn) (tm : Int) (s : State) : State :=
  forRange 4 (markerScale m tm (s.twin.markers + 1)) (forRange 8 (markerPath m tm (s.twin.markers + 1))
    { s with twin := { s.twin with markers := s.twin.markers + 1 } })

theorem markerTaken_spec (m : MarkerIn) (tm : Int) (s : State) : let t := markerTaken m tm s
    t.twin = { s.twin with markers := s.twin.markers + 1 } ∧
      (∀ p < 8, tabGet 0 (0x1FE000 / 8 + p) t.commons = s.markerWord m tm (s.twin.markers + 1) p) ∧
      (∀ i, (i < 0x1FE000 / 8 ∨ 0x1FE000 / 8 + 16 ≤ i) → tabGet 0 i t.commons = tabGet 0 i s.commons) ∧
      t = { s with regs := t.regs, twin := t.twin, commons := t.commons } := by
  obtain ⟨hpaths, hwords⟩ := markerPaths_spec m tm (s.twin.markers + 1) { s with twin := { s.twin with markers := s.twin.markers + 1 } } (Nat.le_refl 8)
  obtain ⟨hscales, hkept⟩ := markerScales_spec m tm (s.twin.markers + 1) (forRange 8 (markerPath m tm (s.twin.markers + 1))
    { s with twin := { s.twin with markers := s.twin.markers + 1 } })
  obtain ⟨r, c, hframe⟩ := hpaths.frame
  obtain ⟨r', c', hframe'⟩ := hscales.frame
  have htaken : markerTaken m tm s = { s with regs := r', twin := { s.twin with markers := s.twin.markers + 1 }, commons := c' } :=
    hframe'.trans (by rw [hframe])
  refine ⟨?_, fun p hp => (hkept p hp).trans (hwords p hp), fun i hi => (hscales.others i hi).trans (hpaths.others i (by omega)), ?_⟩
  · rw [htaken]
  · rw [htaken]

/-- The edge that belongs to marker `m`. -/
def State.markerEdge (s : State) (m : MarkerIn) : Option (Nat × Int) := s.twin.edges.find? (fun e => e.1 == m.idx)

theorem exec_markerReceive {m : MarkerIn} {stamp : Int} (he : s.markerEdge m = some (m.idx, stamp)) (hm : s.markersCount = true) :
    exec (.markerReceive m) s = .next (markerTaken m (stamp - roundDiv (s.rdi Reg.TWIN_DELAY_VALUE) 64) s) := by
  change execMarkerReceive m s = _
  unfold execMarkerReceive
  unfold State.markerEdge at he
  rw [he]
  exact if_neg (by simp [hm])

theorem exec_markerReceive_void {m : MarkerIn} (h : s.markersCount = false ∨ s.markerEdge m = none) : exec (.markerReceive m) s = .next s := by
  change execMarkerReceive m s = _
  unfold execMarkerReceive
  cases he : s.markerEdge m with
  | none =>
    unfold State.markerEdge at he
    rw [he]
  | some e =>
    have hm : s.markersCount = false := h.resolve_right (by simp [he])
    unfold State.markerEdge at he
    rw [he]
    exact if_pos (by simp [hm])

/-! ### Witness frames sent (R362) and resets asked for (R374) -/

/-- The witness frame without its CRC. -/
def State.witnessWord (s : State) : Nat := s.twinRole * 2 ^ 29 + s.rd Reg.TWIN_STATUS_PAIR_ID * 2 ^ 28 + s.rd Reg.TWIN_EPOCH_OWN * 2 ^ 12 +
  flagIf s.ineligible 2048 + flagIf s.crimson 1024

/-- The witness frame has gone out. -/
def witnessSent (s : State) : State := ({ s with twin := { s.twin with
  witness := some (BitVec.ofNat 32 s.witnessWord + BitVec.ofNat 32 (crc8 (BitVec.ofNat 32 s.witnessWord))) } } : State).arm .witnessOut

theorem exec_witnessSend (h : s.ran .witnessOut 34000 = true) : exec .witnessSend s = .next (witnessSent s) := by
  change execWitnessSend s = _
  unfold execWitnessSend
  exact if_neg (by simp [h])

theorem exec_witnessSend_waits (h : s.ran .witnessOut 34000 = false) : exec .witnessSend s = .next s := by
  change execWitnessSend s = _
  unfold execWitnessSend
  exact if_pos (by simp [h])

theorem exec_resetTwin (h : s.hostOpen Reg.TWIN_CMD_RESET_TWIN.addr) :
    exec .resetTwin s = .next { s.wr Reg.TWIN_CMD_RESET_TWIN 1 with twin := { s.twin with resetReq := 8 } } :=
  hostCmd_plain _ doResetTwin s _ h (by decide) (by decide) rfl

/-! ### The obligation -/

/-- Settles O41, frame by frame. -/
theorem twinFrames : Obligations.twin_frames := by
  intro lane h idx m s
  have hn := heartbeatHeard_heard lane h s
  refine ⟨fun hs => ?_, exec_heartbeatSend_waits, fun he crcOk => exec_heartbeatReceive_off he crcOk, fun he => ?_, fun hg hs => ?_, fun hf hr => ?_,
    fun hf => ?_, fun hf hr ht => ?_, fun hf hr => ?_, fun he ha => ?_, fun hr => exec_markerSend hr idx, fun hr => exec_markerSend_other hr idx,
    exec_markerReceive_void, fun stamp he hm => ?_, fun hw => ?_, exec_witnessSend_waits, fun ho => ?_⟩
  · obtain ⟨hzero, hregs, hage, hframe⟩ := heartbeatSent_spec s
    exact ⟨_, exec_heartbeatSend hs, rfl, hzero, hregs, hage, hframe⟩
  · exact ⟨_, exec_heartbeatReceive_bad he, State.rd_bump_self .., rfl, s.regsBut_wr List.mem_cons_self _⟩
  · obtain ⟨hok, hdown, hage, hlink⟩ := laneHeard_up lane s
    refine ⟨_, exec_heartbeatReceive_good hg.1 hg.2, ?_⟩
    rw [heartbeat_again hs]
    exact ⟨⟨hok, hdown, hage, hlink⟩, laneHeard_regsBut lane s, laneHeard_stays lane s⟩
  · refine ⟨_, exec_heartbeatReceive_good hf.1.1 hf.1.2, ?_⟩
    obtain ⟨_, _, _, _, hframe⟩ := hn.frame
    rw [heartbeat_new hf.2, roleTaken_bystander (by rwa [hn.role]), twinLevels_commons]
    exact ⟨by rw [hframe], hn.regs.same (twinLevels_regs _)⟩
  · refine ⟨_, exec_heartbeatReceive_good hf.1.1 hf.1.2, ?_⟩
    rw [heartbeat_new hf.2]
    obtain ⟨⟨hok, hdown, hage, hlinkAge⟩, hepoch, hremote, htwin, hlink⟩ := roleTaken_noted hn
    exact ⟨⟨hok, hdown, hage, hlinkAge⟩, hepoch, hremote, htwin, fun hrun => hlink.trans (if_pos hrun),
      fun hrun => hlink.trans (if_neg (Nat.not_le.mpr hrun)), roleTaken_frame hn⟩
  · have hfollows : (heartbeatHeard lane h s).follows := by rwa [State.follows, hn.role]
    refine ⟨_, exec_heartbeatReceive_good hf.1.1 hf.1.2, fun hl => ?_, fun hl => ?_, fun hl h4 h3 => ?_⟩
    · rw [heartbeat_new hf.2]
      exact hn.promotes hfollows (hn.leads.mpr hl) fun h3 => ht h3 hl
    · rw [heartbeat_new hf.2]
      exact (roleTaken_stays hfollows (mt hn.leads.mp hl)).1.trans (if_congr hn.linked rfl rfl)
    · rw [heartbeat_new hf.2]
      exact (roleTaken_stays hfollows (mt hn.leads.mp hl)).2.trans (rd_epoch_epochFollowed (hn.role.trans h4) h3)
  · refine ⟨_, exec_heartbeatReceive_good hf.1.1 hf.1.2, fun hw => ?_, fun h3 hw => ?_⟩
    · rw [heartbeat_new hf.2]
      exact hn.keeps hr hw
    · rw [heartbeat_new hf.2]
      obtain ⟨hrole, hown, hcount, htold⟩ := hn.yields hr h3 hw
      refine ⟨hrole, ?_, hcount.trans ?_, htold⟩
      · rw [hown, hn.epoch]
        exact Nat.mod_eq_of_lt h.epoch.isLt
      · rw [hn.rd (by simp) (by simp) (by simp) (by simp) (by simp)]
  · obtain ⟨hshown, hempty⟩ := softReset_spec (kind := 4) (by decide) (heartbeat lane h s)
    obtain ⟨heng, -, himage, -, -⟩ := hempty.engines
    obtain ⟨hnor, hfuses⟩ := heartbeat_dies lane h s
    exact ⟨_, exec_heartbeatReceive_reset he ha, hshown.cause, hshown.busy, heng, himage, hshown.dies.1.trans hnor, hshown.dies.2.1.trans hfuses⟩
  · obtain ⟨htwin, hwords, hothers, hframe⟩ := markerTaken_spec m (stamp - roundDiv (s.rdi Reg.TWIN_DELAY_VALUE) 64) s
    exact ⟨_, exec_markerReceive he hm, htwin, fun p hp hc => (hwords p hp).trans (if_pos hc), fun p hp hc => (hwords p hp).trans (if_neg hc),
      hothers, hframe⟩
  · exact ⟨_, exec_witnessSend hw, rfl, State.age_arm _ .witnessOut, rfl⟩
  · exact ⟨_, exec_resetTwin ho, s.rd_wr_self _ 1, rfl, (s.regsBut_wr List.mem_cons_self 1).same rfl, rfl⟩

end Sys2Proof.Machine
end


section
/-! PROOFS. POR, PIN, SOFT and watchdog resets (R427, R437 to R439): O45. -/
namespace Sys2Proof.Machine

variable {s t u : State}

/-! ### Straps and TEST_EN (R354, R415, R466) -/

/-- From `s` to `t` straps or TEST_EN have been sampled. -/
structure SampleKeeps (s t : State) : Prop where
  rd : ∀ f, powerField f → t.rd f = s.rd f
  dies : t.nor = s.nor ∧ t.fuses = s.fuses ∧ t.pending = s.pending
  engines : t.eng = s.eng ∧ t.commons = s.commons
  parts : t.host = s.host ∧ t.pwr = s.pwr
  life : t.flt.life = s.flt.life
  keys : s.keys = [] → t.keys = []

theorem SampleKeeps.trans (h : SampleKeeps s t) (h' : SampleKeeps t u) : SampleKeeps s u := by
  obtain ⟨hrd, ⟨hnor, hfuses, hpending⟩, ⟨heng, hcommons⟩, ⟨hhost, hpwr⟩, hlife, hkeys⟩ := h
  obtain ⟨hrd', ⟨hnor', hfuses', hpending'⟩, ⟨heng', hcommons'⟩, ⟨hhost', hpwr'⟩, hlife', hkeys'⟩ := h'
  exact ⟨fun f hf => (hrd' f hf).trans (hrd f hf), ⟨hnor'.trans hnor, hfuses'.trans hfuses, hpending'.trans hpending⟩,
    ⟨heng'.trans heng, hcommons'.trans hcommons⟩, ⟨hhost'.trans hhost, hpwr'.trans hpwr⟩, hlife'.trans hlife, fun hk => hkeys' (hkeys hk)⟩

theorem SampleKeeps.wrs {l : List (Fld × Nat)} (h : ∀ p ∈ l, ¬powerField p.1) (s : State) : SampleKeeps s (s.wrs l) := by
  obtain ⟨r, hr⟩ := s.wrs_frame l
  have hrd (f : Fld) (hf : powerField f) : (s.wrs l).rd f = s.rd f := s.rd_wrs_ne l fun p hp => hf.ne (h p hp)
  rw [hr] at hrd ⊢
  exact ⟨hrd, ⟨rfl, rfl, rfl⟩, ⟨rfl, rfl⟩, ⟨rfl, rfl⟩, rfl, id⟩

/-- What the straps tell. -/
def strapTells (x : Straps) : List (Fld × Nat) :=
  [(Reg.TWIN_STATUS_PAIR_ID, x.pair0.toNat), (Reg.TWIN_STATUS_SOLO_STRAP, x.pair1.toNat),
    (Reg.TWIN_STATUS_ROLE, if x.pair1 then roleSolo else roleOff), (Reg.HOST_STATUS_I2C_ADDR, 2 * x.i2c1.toNat + x.i2c0.toNat)]

/-- State `t` shows the straps. -/
def State.strapped (t : State) (x : Straps) : Prop := t.rd Reg.TWIN_STATUS_PAIR_ID = x.pair0.toNat ∧
  t.rd Reg.TWIN_STATUS_SOLO_STRAP = x.pair1.toNat ∧ t.rd Reg.HOST_STATUS_I2C_ADDR = 2 * x.i2c1.toNat + x.i2c0.toNat

theorem strapsSample_strapped (x : Straps) (s : State) : (strapsSample x s).strapped x := by
  have hshows {f : Fld} {v : Nat} (hm : (f, v) ∈ strapTells x) (hv : v < 2 ^ f.width) : (strapsSample x s).rd f = v :=
    s.wrs_shows (by simp) hm hv
  have hbit (b : Bool) : b.toNat < 2 := b.toNat_lt
  refine ⟨hshows (by simp [strapTells]) (hbit _), hshows (by simp [strapTells]) (hbit _), hshows (by simp [strapTells]) ?_⟩
  have h1 := hbit x.i2c1
  have h0 := hbit x.i2c0
  simp
  omega

theorem strapsSample_keeps (x : Straps) (s : State) : SampleKeeps s (strapsSample x s) := .wrs (l := strapTells x) (by simp [strapTells, powerField]) s

theorem gateErase_keeps (s : State) : SampleKeeps s (gateErase s) := by
  have hkeys : SampleKeeps s { s with keys := [] } := ⟨fun _ _ => rfl, ⟨rfl, rfl, rfl⟩, ⟨rfl, rfl⟩, ⟨rfl, rfl⟩, rfl, fun _ => rfl⟩
  have hgate : SampleKeeps s ({ s with keys := [] }.wrs [(Reg.SEC_STATUS_GATE, 1), (Reg.SEC_STATUS_ERASED, 0)]) :=
    hkeys.trans (.wrs (by simp [powerField]) _)
  obtain ⟨c, hc⟩ := ({ s with keys := [] }.wrs [(Reg.SEC_STATUS_GATE, 1), (Reg.SEC_STATUS_ERASED, 0)]).level_frame 14 noInst true 0
  have hlife := (SettleKeeps.level ({ s with keys := [] }.wrs [(Reg.SEC_STATUS_GATE, 1), (Reg.SEC_STATUS_ERASED, 0)]) 14 noInst true 0).life
  refine hgate.trans ?_
  unfold gateErase
  rw [hc] at hlife ⊢
  exact ⟨fun _ _ => rfl, ⟨rfl, rfl, rfl⟩, ⟨rfl, rfl⟩, ⟨rfl, rfl⟩, hlife, id⟩

theorem testEnSample_keeps (x : Straps) (s : State) : SampleKeeps s (testEnSample x s) := by
  unfold testEnSample
  split
  · exact gateErase_keeps s
  · exact ⟨fun _ _ => rfl, ⟨rfl, rfl, rfl⟩, ⟨rfl, rfl⟩, ⟨rfl, rfl⟩, rfl, id⟩

theorem testEnSample_strapped {x y : Straps} (h : s.strapped y) : (testEnSample x s).strapped y := by
  unfold testEnSample
  split
  · obtain ⟨-, -, -, -, hregs, -⟩ := gateErase_spec s
    obtain ⟨hpair, hsolo, haddr⟩ := h
    exact ⟨(hregs _ (by simp)).trans hpair, (hregs _ (by simp)).trans hsolo, (hregs _ (by simp)).trans haddr⟩
  · exact h

/-- The straps and TEST_EN are sampled. -/
def sampled (x : Straps) (s : State) : State := testEnSample x (strapsSample x s)

theorem sampled_keeps (x : Straps) (s : State) : SampleKeeps s (sampled x s) := (strapsSample_keeps x s).trans (testEnSample_keeps x _)

theorem sampled_strapped (x : Straps) (s : State) : (sampled x s).strapped x := testEnSample_strapped (strapsSample_strapped x s)

/-- A reset by pins is released. -/
structure Released (x : Straps) (s t : State) : Prop where
  straps : t.strapped x
  rd : ∀ f, powerField f → t.rd f = s.rd f
  ready : t.host.ready = true
  hold : t.pwr.vddcHold = s.pwr.vddcHold
  dies : t.nor = s.nor ∧ t.fuses = s.fuses ∧ t.pending = s.pending
  engines : t.eng = s.eng ∧ t.commons = s.commons
  life : t.flt.life = s.flt.life

theorem pinRelease_released (x : Straps) (s : State) : Released x s (pinRelease x s) := by
  have hstraps := sampled_strapped x { s with host := { s.host with ready := true } }
  have hkeeps := sampled_keeps x { s with host := { s.host with ready := true } }
  obtain ⟨tm, w, hw⟩ := wdogRestart_frame (sampled x { s with host := { s.host with ready := true } })
  have hrel : pinRelease x s = { sampled x { s with host := { s.host with ready := true } } with
    timers := tm, pwr := { (sampled x { s with host := { s.host with ready := true } }).pwr with wdog := w } } := hw
  obtain ⟨hrd, hdies, hengines, ⟨hhost, hpwr⟩, hlife, -⟩ := hkeeps
  have hready := congrArg HostSt.ready hhost
  have hhold := congrArg PwrSt.vddcHold hpwr
  rw [hrel]
  exact ⟨hstraps, hrd, hready, hhold, hdies, hengines, hlife⟩

/-! ### POR (R426, R427, R437) -/

/-- An append that is cut off changes the journal, and takes a free value. -/
theorem tornAppend_frame (s : State) : ∃ j f, tornAppend s = { s with jnl := j, free := f } := by
  unfold tornAppend
  split
  · exact ⟨_, _, rfl⟩
  · exact ⟨_, _, rfl⟩

/-- The device before POR draws its first nonce. -/
def porBare (rail : Nat) (s : State) : State :=
  ({ (tornAppend s).dies with
    jnl := { (tornAppend s).dies.jnl with porScan := true }, flt := {}, wo := [] } : State).wr Reg.RST_CAUSE_RAIL rail

theorem porAssert_eq (rail : Nat) (s : State) : porAssert rail s = newNonce (porBare rail s) := rfl

/-- What POR leaves. -/
structure PorLeft (s t : State) : Prop where
  kind : t.rd Reg.RST_CAUSE_KIND = 0
  rail : t.rd Reg.RST_CAUSE_RAIL = 15
  empty : t.eng = [] ∧ t.commons = [] ∧ t.keys = []
  ready : t.host.ready = false
  dies : t.nor = s.nor ∧ t.fuses = s.fuses ∧ t.pending = s.pending

theorem porBare_left (s : State) : PorLeft s (porBare 15 s) := by
  obtain ⟨j, f, htorn⟩ := tornAppend_frame s
  refine ⟨?_, State.rd_wr_self .., ⟨rfl, rfl, rfl⟩, rfl, ?_⟩
  · rw [porBare, State.rd_wr_ne _ (by simp)]
    rfl
  · rw [porBare, htorn]
    exact ⟨rfl, rfl, rfl⟩

theorem porAssert_left (s : State) : PorLeft s (porAssert 15 s) := by
  obtain ⟨hkind, hrail, ⟨heng, hcommons, hkeys⟩, hready, hnor, hfuses, hpending⟩ := porBare_left s
  have hnonce := newNonce_keeps (porBare 15 s)
  obtain ⟨hnor', hfuses', hpending'⟩ := hnonce.dies
  rw [porAssert_eq]
  exact ⟨(hnonce.rd _ (by simp [powerField])).trans hkind, (hnonce.rd _ (by simp [powerField])).trans hrail,
    ⟨hnonce.engines.1.trans heng, hnonce.memories.1.trans hcommons, hnonce.keys.trans hkeys⟩, hnonce.host.1.trans hready,
    hnor'.trans hnor, hfuses'.trans hfuses, hpending'.trans hpending⟩

theorem exec_por (p : PorIn) (h : s.pwr.porHold = false) :
    exec (.por p) s = .next (sampled p.straps ((porAssert 15 s).wrb Reg.PWR_STATUS_SEQ_ERR p.seqErr)) := by
  change execPor p s = _
  unfold execPor
  simp only [h, Bool.false_eq_true, if_false]
  rfl

theorem exec_por_held (p : PorIn) (h : s.pwr.porHold = true) : exec (.por p) s =
    .next (sampled p.straps ({ s with pwr := { s.pwr with porHold := false } }.wrb Reg.PWR_STATUS_SEQ_ERR p.seqErr)) := by
  change execPor p s = _
  unfold execPor
  simp only [h, if_true]
  rfl

theorem rd_seqErr (b : Bool) (s : State) : (s.wrb Reg.PWR_STATUS_SEQ_ERR b).rd Reg.PWR_STATUS_SEQ_ERR = b.toNat := by
  rw [State.rd_wrb_self]
  exact Nat.mod_eq_of_lt b.toNat_lt

/-! ### The loads after POR -/

theorem lifeLoad_frame (s : State) : ∃ l, lifeLoad s = { s with flt := { s.flt with life := l } } := by
  unfold lifeLoad
  split
  · exact ⟨_, rfl⟩
  · refine forRange_keeps (fun t => ∃ l, t = { s with flt := { s.flt with life := l } }) (fun i _ t ht => ?_) ⟨_, rfl⟩
    obtain ⟨l, rfl⟩ := ht
    exact ⟨_, rfl⟩

theorem exec_porInitComplete (h : s.host.ready = false) (hp : s.pwr.porHold = false) (hv : s.pwr.vddcHold = false) :
    exec .porInitComplete s = .next (mapApplyAll (lifeLoad { s with host := { s.host with ready := true } })) := by
  change execPorInitComplete s = _
  unfold execPorInitComplete
  exact congrArg _ (if_neg (by simp [h, hp, hv]))

theorem exec_porInitComplete_waits (h : s.host.ready = true ∨ s.pwr.porHold = true ∨ s.pwr.vddcHold = true) :
    exec .porInitComplete s = .next s := by
  change execPorInitComplete s = _
  unfold execPorInitComplete
  exact congrArg _ (if_pos h)

theorem porLoaded_spec (s : State) : let t := mapApplyAll (lifeLoad { s with host := { s.host with ready := true } })
    t.host.ready = true ∧ (t.nor = s.nor ∧ t.fuses = s.fuses ∧ t.pending = s.pending) ∧ t.eng = s.eng ∧ t.commons = s.commons ∧
      t.dram.replaced = s.mapRows := by
  obtain ⟨l, hl⟩ := lifeLoad_frame { s with host := { s.host with ready := true } }
  have hkeeps := mapApplyAll_keeps (lifeLoad { s with host := { s.host with ready := true } })
  rw [hl] at hkeeps ⊢
  exact ⟨hkeeps.host.1, hkeeps.dies, hkeeps.engines.1, hkeeps.memories.1, congrArg DramSt.replaced hkeeps.memories.2⟩

/-! ### PIN (R437, R439) -/

/-- Every register of PWR and RST is kept by a PIN reset. -/
theorem rd_keptRegs {f : Fld} (hf : powerField f) (hin : f ∈ fieldsAt (f.key / 32)) (hlo : f.lo = f.key % 32) (s : State) :
    tabGet f.reset f.key (s.keptRegs s.pinKeeps) = s.rd f := by
  have hkeep : (fieldsAt (f.key / 32)).any (fun g => decide (g.lo = f.key % 32) && s.pinKeeps (f.key / 32) g) = true := by
    refine List.any_eq_true.mpr ⟨f, hin, ?_⟩
    have hrange : 0x1000 ≤ f.key / 32 ∧ f.key / 32 < 0x3000 := by
      unfold powerField at hf
      omega
    simp [hlo, State.pinKeeps, hrange]
  have hclear := tabGet_clear f.reset (fun k => !(fieldsAt (k / 32)).any (fun g => decide (g.lo = k % 32) && s.pinKeeps (k / 32) g)) f.key s.regs
  rw [hkeep] at hclear
  exact hclear

/-- What a PIN reset shows. -/
def pinTells (rail : Nat) : List (Fld × Nat) :=
  [(Reg.RST_CAUSE_KIND, 1), (Reg.RST_CAUSE_RAIL, rail), (Reg.RST_CAUSE_BUSY, 0), (Reg.PWR_STATUS_STATE, 0), (Reg.PWR_STATUS_BUSY, 0),
    (Reg.PWR_CMD_GO, 0)]

/-- What a PIN reset keeps of `s`. -/
def pinKept (s : State) : State :=
  let t := { s.dies with
    regs := s.keptRegs s.pinKeeps, keys := s.keys, supplyFlag := s.supplyFlag, clk := { unpowered := s.clk.unpowered } }
  { t with flt := { t.flt with cond := s.flt.cond.filter (fun c => [3, 9, 14].contains c.1) } }

theorem pinAssert_eq (rail : Nat) (s : State) : pinAssert rail s =
    sourcesRestart (mapApplyAll (newNonce (((pinKept (tornAppend s)).wrs (pinTells rail)).bumpSat Reg.RST_COUNT_PIN))) := rfl

/-- A PIN reset has been made, and not been released. -/
structure PinMade (s t : State) : Prop where
  kind : t.rd Reg.RST_CAUSE_KIND = 1
  busy : t.rd Reg.RST_CAUSE_BUSY = 0
  state : t.rd Reg.PWR_STATUS_STATE = 0
  count : t.rd Reg.RST_COUNT_PIN = min (s.rd Reg.RST_COUNT_PIN + 1) (2 ^ Reg.RST_COUNT_PIN.width - 1)
  empty : t.eng = [] ∧ t.commons = []
  ready : t.host.ready = false
  dies : t.nor = s.nor ∧ t.fuses = s.fuses ∧ t.pending = s.pending
  life : t.flt.life = s.flt.life

theorem pinKept_count (s : State) : (pinKept s).rd Reg.RST_COUNT_PIN = s.rd Reg.RST_COUNT_PIN :=
  rd_keptRegs (by simp [powerField]) (by simp [fieldsAt, fieldsRST]) (by decide) s

theorem pinTold_made (s : State) : PinMade s (((pinKept (tornAppend s)).wrs (pinTells 15)).bumpSat Reg.RST_COUNT_PIN) := by
  obtain ⟨j, f, htorn⟩ := tornAppend_frame s
  have hcount : (pinKept (tornAppend s)).rd Reg.RST_COUNT_PIN = s.rd Reg.RST_COUNT_PIN := by
    rw [pinKept_count, htorn]
    rfl
  have hshows {g : Fld} {v : Nat} (hm : (g, v) ∈ pinTells 15) (hg : Reg.RST_COUNT_PIN.key ≠ g.key) (hv : v < 2 ^ g.width) :
      (((pinKept (tornAppend s)).wrs (pinTells 15)).bumpSat Reg.RST_COUNT_PIN).rd g = v :=
    (State.rd_bumpSat_ne _ hg 1).trans (State.wrs_shows _ (by simp [pinTells]) hm hv)
  obtain ⟨r, hr⟩ := (pinKept (tornAppend s)).wrs_frame (pinTells 15)
  refine ⟨hshows (by simp [pinTells]) (by simp) (by decide), hshows (by simp [pinTells]) (by simp) (by decide),
    hshows (by simp [pinTells]) (by simp) (by decide), ?_, ?_, ?_, ?_, ?_⟩
  · rw [State.rd_bumpSat, State.rd_wrs_ne _ _ (by simp [pinTells]), hcount]
  all_goals rw [hr, htorn]
  · exact ⟨rfl, rfl⟩
  · rfl
  · exact ⟨rfl, rfl, rfl⟩
  · rfl

theorem PinMade.keep (h : PinMade s t) (hkeeps : SettleKeeps t u) : PinMade s u := by
  obtain ⟨hkind, hbusy, hstate, hcount, ⟨heng, hcommons⟩, hready, ⟨hnor, hfuses, hpending⟩, hlife⟩ := h
  obtain ⟨hnor', hfuses', hpending'⟩ := hkeeps.dies
  exact ⟨(hkeeps.rd _ (by simp [powerField])).trans hkind, (hkeeps.rd _ (by simp [powerField])).trans hbusy,
    (hkeeps.rd _ (by simp [powerField])).trans hstate, (hkeeps.rd _ (by simp [powerField])).trans hcount,
    ⟨hkeeps.engines.1.trans heng, hkeeps.memories.1.trans hcommons⟩, hkeeps.host.1.trans hready,
    ⟨hnor'.trans hnor, hfuses'.trans hfuses, hpending'.trans hpending⟩, hkeeps.life.trans hlife⟩

theorem PinMade.dram (h : PinMade s t) (d : DramSt) : PinMade s { t with dram := d } :=
  ⟨h.kind, h.busy, h.state, h.count, h.empty, h.ready, h.dies, h.life⟩

theorem PinMade.hold (h : PinMade s t) (w : PwrSt) : PinMade s { t with pwr := w } :=
  ⟨h.kind, h.busy, h.state, h.count, h.empty, h.ready, h.dies, h.life⟩

theorem pinAssert_made (s : State) : PinMade s (pinAssert 15 s) := by
  rw [pinAssert_eq]
  exact ((((pinTold_made s).keep (newNonce_keeps _)).dram _).keep (mapApplyAll_keeps _)).keep (sourcesRestart_keeps _)

/-- A pulse at RESET_N makes a reset. -/
def State.pinResets (s : State) (x : PinIn) : Prop := ¬(x.ns < 100 ∨ (x.ns < 1000 ∧ x.taken = false) ∨ s.pwr.porHold = true)

theorem exec_pinReset {x : PinIn} (h : s.pinResets x) : exec (.pinReset x) s = .next (
    if s.pwr.vddcHold then { pinAssert 15 s with pwr := { (pinAssert 15 s).pwr with vddcHold := true } }
    else pinRelease x.straps (pinAssert 15 s)) := by
  change execPinReset x s = _
  unfold execPinReset
  exact congrArg _ (if_neg (by simpa [State.pinResets] using h))

theorem exec_pinReset_void {x : PinIn} (h : ¬s.pinResets x) : exec (.pinReset x) s = .next s := by
  change execPinReset x s = _
  unfold execPinReset
  exact congrArg _ (if_pos (by simpa [State.pinResets] using not_not.mp h))

/-! ### SOFT and the watchdog (R437, R438) -/

theorem exec_softReset (h : s.hostOpen Reg.RST_CMD_SOFT.addr) (ht : doSoftReset s = .next t) : exec .softReset s = .next t :=
  hostCmd_plain _ doSoftReset s t h (by decide) (by decide) ht

theorem doSoftReset_idle (h : s.rd Reg.RST_CAUSE_BUSY = 0) : doSoftReset s = .next (softReset 2 s) := by
  rw [doSoftReset, if_neg (by simp [State.bit, h])]

theorem doSoftReset_busy (h : s.rd Reg.RST_CAUSE_BUSY ≠ 0) : doSoftReset s = .next s := by
  rw [doSoftReset, if_pos (by simp [State.bit, h])]

/-- The watchdog has expired. -/
def State.barks (s : State) : Prop := s.rd Reg.RST_WDOG_EN ≠ 0 ∧ s.awake = true ∧ s.rd Reg.RST_CAUSE_BUSY = 0 ∧
  s.ran .wdog (1000000 * s.pwr.wdog) = true

theorem exec_wdogExpiry (h : s.barks) : exec .wdogExpiry s = .next (softReset 3 s) := by
  obtain ⟨hen, hawake, hbusy, hran⟩ := h
  change execWdogExpiry s = _
  unfold execWdogExpiry
  exact congrArg _ (if_pos ⟨decide_eq_true hen, hawake, by simp [State.bit, hbusy], hran⟩)

theorem exec_wdogExpiry_waits (h : ¬s.barks) : exec .wdogExpiry s = .next s := by
  change execWdogExpiry s = _
  unfold execWdogExpiry
  exact congrArg _ (if_neg fun hn => h ⟨of_decide_eq_true hn.1, hn.2.1, by simpa [State.bit] using hn.2.2.1, hn.2.2.2⟩)

/-! ### The obligation -/

/-- Settles O45, reset by reset. -/
theorem resets : Obligations.resets := by
  intro p x straps s
  refine ⟨fun h => ?_, fun h hp hv => ⟨_, exec_porInitComplete h hp hv, porLoaded_spec s⟩, fun h => ?_, exec_porInitComplete_waits,
    fun hx hv => ?_, fun hx hv => ?_, exec_pinReset_void, fun ho hb => ?_, fun ho hb => exec_softReset ho (doSoftReset_busy hb), exec_wdogExpiry_waits,
    fun hb => ?_, fun h => ?_, fun h => ?_⟩
  · obtain ⟨hkind, hrail, ⟨heng, hcommons, hkeys⟩, hready, hnor, hfuses, hpending⟩ := porAssert_left s
    have hkeeps := sampled_keeps p.straps ((porAssert 15 s).wrb Reg.PWR_STATUS_SEQ_ERR p.seqErr)
    obtain ⟨hnor', hfuses', hpending'⟩ := hkeeps.dies
    have hrd {f : Fld} (hf : powerField f) (hne : Reg.PWR_STATUS_SEQ_ERR.key ≠ f.key) :
        (sampled p.straps ((porAssert 15 s).wrb Reg.PWR_STATUS_SEQ_ERR p.seqErr)).rd f = (porAssert 15 s).rd f :=
      (hkeeps.rd f hf).trans (State.rd_wrb_ne _ hne _)
    exact ⟨_, exec_por p h, sampled_strapped .., (hrd (by simp [powerField]) (by simp)).trans hkind,
      (hrd (by simp [powerField]) (by simp)).trans hrail, (hkeeps.rd _ (by simp [powerField])).trans (rd_seqErr ..),
      hkeeps.engines.1.trans heng, hkeeps.engines.2.trans hcommons, hkeeps.keys hkeys, (congrArg HostSt.ready hkeeps.parts.1).trans hready,
      hnor'.trans hnor, hfuses'.trans hfuses, hpending'.trans hpending⟩
  · have hkeeps := sampled_keeps p.straps ({ s with pwr := { s.pwr with porHold := false } }.wrb Reg.PWR_STATUS_SEQ_ERR p.seqErr)
    exact ⟨_, exec_por_held p h, sampled_strapped .., hkeeps.parts.2, (hkeeps.rd _ (by simp [powerField])).trans (rd_seqErr ..),
      (hkeeps.rd _ (by simp [powerField])).trans (State.rd_wrb_ne _ (by simp) _), hkeeps.engines.1, hkeeps.dies⟩
  · obtain ⟨hkind, hbusy, hstate, hcount, ⟨heng, hcommons⟩, -, ⟨hnor, hfuses, hpending⟩, hlife⟩ := pinAssert_made s
    obtain ⟨hstraps, hrd, hready, -, ⟨hnor', hfuses', hpending'⟩, ⟨heng', hcommons'⟩, hlife'⟩ := pinRelease_released x.straps (pinAssert 15 s)
    refine ⟨_, (exec_pinReset hx).trans (congrArg _ (if_neg (by simp [hv]))), hstraps, (hrd _ (by simp [powerField])).trans hkind,
      (hrd _ (by simp [powerField])).trans hbusy, (hrd _ (by simp [powerField])).trans hstate, (hrd _ (by simp [powerField])).trans hcount,
      heng'.trans heng, hcommons'.trans hcommons, hready, ⟨hnor'.trans hnor, hfuses'.trans hfuses, hpending'.trans hpending⟩, hlife'.trans hlife⟩
  · obtain ⟨hkind, hbusy, -, hcount, ⟨heng, hcommons⟩, hready, hdies, -⟩ :=
      (pinAssert_made s).hold { (pinAssert 15 s).pwr with vddcHold := true }
    exact ⟨_, (exec_pinReset hx).trans (congrArg _ (if_pos hv)), hkind, hbusy, rfl, hready, heng, hcommons, hcount, hdies⟩
  · obtain ⟨hshown, hengines, hrecords⟩ := softReset_spec (kind := 2) (by decide) s
    obtain ⟨heng, hwords, himage, hsubst, hout⟩ := hengines
    obtain ⟨hrings, hroles, hports⟩ := hrecords
    have hcount := hshown.count
    rw [softCount, if_pos rfl] at hcount
    exact ⟨_, exec_softReset ho (doSoftReset_idle hb), hshown.cause, hcount, hshown.busy, hshown.state, heng, hwords, himage, hsubst, hrings, hroles,
      hports, hout, hshown.dies, hshown.keys⟩
  · obtain ⟨hshown, hengines, hrecords⟩ := softReset_spec (kind := 3) (by decide) s
    obtain ⟨heng, hwords, himage, hsubst, hout⟩ := hengines
    obtain ⟨hrings, hroles, hports⟩ := hrecords
    have hcount := hshown.count
    rw [softCount, if_neg (by decide), if_pos rfl] at hcount
    exact ⟨_, exec_wdogExpiry hb, hshown.cause, hcount, hshown.busy, hshown.state, heng, hwords, himage, hsubst, hrings, hroles,
      hports, hout, hshown.dies, hshown.keys⟩
  · obtain ⟨hstraps, -, hready, hhold, hdies, ⟨heng, hcommons⟩, -⟩ := pinRelease_released straps { s with pwr := { s.pwr with vddcHold := false } }
    refine ⟨_, ?_, hstraps, hhold, hready, hdies, heng, hcommons⟩
    change execVddcResetRelease straps s = _
    exact congrArg _ (if_pos h)
  · change execVddcResetRelease straps s = _
    exact congrArg _ (if_neg (by simp [h]))

end Sys2Proof.Machine
end
